-- ==== Sys2Proof/Word.lean ====
section
/-! DEFINITION. Sys2Proof/Word.lean: the word types of the CH-6128 (R2, R4, R142). -/
namespace Sys2Proof

/-- A spine register, an engine register, half a memory word (R4, R142). -/
abbrev Word := BitVec 32

/-- The data of one memory word (R495). -/
abbrev DWord := BitVec 64

/-- A byte. -/
abbrev Byte := BitVec 8

/-- A spine address. -/
abbrev Addr := Nat

end Sys2Proof
end

