-- ==== Sys2Proof/Syntax.lean ====
section
/-! DEFINITION. Sys2Proof/Syntax.lean: the commands of the CH-6128, one constructor for each row of the table of
operations and events, and the types of their operands. -/
namespace Sys2Proof

/-- Who issues a spine access (R493, BERR_INFO.INITIATOR). -/
inductive Initiator where
  | drone (d : Fin 4)
  | ivwyn
  | fabric
  | tap
deriving DecidableEq, Repr

/-- Where the result code of an insert goes (R78). -/
inductive InsertSource where
  | drone (d : Fin 4)                            -- INS_STAT of drone d
  | engine (e : Fin 136) (rd : Fin 16) (wait : Bool)   -- WINS of engine e: waits for the answer in rd, or queues it for WINSR
  | ivwyn (session : Fin 256) (txn : Nat)
  | chain
  | fabric (port : Fin 16)
deriving DecidableEq, Repr

/-- An insert that a source offers at its wheel port: what a session or the chain names, or what port FPp of the fabric's rim shows in
micro-step `m` (R72, R73, R328). -/
inductive InsertOffer where
  | ivwyn (session : Fin 256) (txn : Nat) (lane : Fin 256) (bin : Fin 4096) (ev : BitVec 64)
  | chain (lane : Fin 256) (bin : Fin 4096) (ev : BitVec 64)
  | fabric (port : Fin 16) (m : Nat)
deriving DecidableEq, Repr

/-- A frame on an Emnodric link without its SOF, SEQ and CRC (R280, R281). -/
inductive EmnFrame where
  | data (type dst src : Nat) (payload : List Nat)
  | urgent (type origin age : Nat) (payload : List Nat)
deriving DecidableEq, Repr


/-- An engine instruction of format T without its opcode (R147). -/
structure FmtT where
  cond : Fin 16
  rd : Fin 16
  ra : Fin 16
  rb : Fin 16
  fn : Fin 1024
deriving DecidableEq, Repr

/-- An engine instruction of format I without its opcode (R147). -/
structure FmtI where
  cond : Fin 16
  rd : Fin 16
  ra : Fin 16
  imm : Fin 16384
deriving DecidableEq, Repr

/-- An engine instruction of format L without its opcode (R147). -/
structure FmtL where
  cond : Fin 16
  rd : Fin 16
  imm : Fin 262144
deriving DecidableEq, Repr

/-- An engine instruction of format J without its opcode (R147). -/
structure FmtJ where
  cond : Fin 16
  imm : Fin 4194304
deriving DecidableEq, Repr

/-- A trigger of a converter's list (R230). -/
inductive AdcTrig where
  | timer
  | shaft
  | sync
  | fabric (line : Fin 16)
deriving DecidableEq, Repr


/-- A received Ethernet frame (R254-R256): its C-tag as (PCP, VID), its EtherType after that tag, its length in bytes, whether its
FCS is right. -/
structure EthFrame where
  dst : BitVec 48
  src : BitVec 48
  tag : Option (Fin 8 × Fin 4096)
  etype : BitVec 16
  len : Nat
  fcsOk : Bool
deriving DecidableEq, Repr

/-- A received gPTP message as the state machines see it (R261): Sync and Follow_Up with their sequence number, the latter with the master's
time and corrections in ns; Announce; a peer delay request; and the delay that a completed peer delay exchange gives. -/
inductive PtpMsg where
  | sync (seq : BitVec 16)
  | followUp (seq : BitVec 16) (origin : Nat) (correction : Int)
  | announce (prio1 cls acc var prio2 ident steps : Nat)
  | pdelayReq (seq : BitVec 16)
  | pdelayDone (seq : BitVec 16) (delay : Nat)
deriving DecidableEq, Repr

/-- The address, the UDP port and the VLAN to which a datagram came. -/
structure UdpDest where
  addr : BitVec 32
  port : BitVec 16
  vid : Fin 4096
deriving DecidableEq, Repr

/-- An IPv4 datagram as the stack checks it (R265): destination, options, fragment, header checksum good, protocol (1 ICMP, 17 UDP),
UDP destination port, UDP checksum absent or good. -/
structure IpDatagram where
  dst : BitVec 32
  options : Bool
  fragment : Bool
  headerOk : Bool
  proto : BitVec 8
  port : BitVec 16
  udpOk : Bool
deriving DecidableEq, Repr

/-- An urgent frame as it arrives (R280, R288): its arrival in 1/8 cycle of wheel time, AGE, position of origin, its CRC, and the time until
it is sent on, in 1/8 cycle. -/
structure UrgentRx where
  t8 : Nat
  age : BitVec 24
  origin : Fin 16
  crc : BitVec 32
  hold8 : Nat
deriving DecidableEq, Repr

/-- What a serial port finished (R561): the entry at the head of its transmit FIFO, with the byte read and whether the slave did not
acknowledge; or a byte received by a UART. -/
inductive PortDone where
  | sent (data : BitVec 8) (nack : Bool)
  | received (data : BitVec 8) (parityError frameError : Bool)
deriving DecidableEq, Repr

/-- A claim on the reconfiguration port (R347): a write of PR_CTL with OWNER, or the level of the rim CLAIM lane. -/
inductive PrClaim where
  | write (ini : Initiator) (owner : Fin 4)
  | rim (m : Nat)
deriving DecidableEq, Repr

/-- The commands. Each docstring names the row and the rule it follows. -/
inductive Instr where
  /-- REGISTER_WRITE (R5). A spine write to a register field that has no row of its own sets, clears or ignores the field according to its access code. -/
  | registerWrite (ini : Initiator) (addr : Nat) (width : Nat) (value : BitVec 64)
  /-- RC_READ (R5). A read of an RC field returns the field and then clears it to 0. -/
  | rcRead (ini : Initiator) (addr : Nat) (width : Nat)
  /-- SPINE_MEMORY_WRITE (R501). A spine write to grid-coded memory writes all 80 bits of a word, or is refused with PARAM. -/
  | spineMemoryWrite (ini : Initiator) (addr : Nat) (width : Nat) (value : BitVec 64)
  /-- SPINE_MEMORY_READ (R496). A spine read of grid-coded memory is corrected on the fly, or is poisoned and logged. -/
  | spineMemoryRead (ini : Initiator) (addr : Nat) (width : Nat) (bad : Nat)
  /-- SPINE_TIMEOUT (R479). A spine transaction with no response after 256 SPINE cycles is answered TIMEOUT and raises source 904. -/
  | spineTimeout (ini : Initiator) (write : Bool) (addr : Nat) (width : Nat) (value : BitVec 64) (landed : Bool)
  /-- REQ_ARMED (R18). A write of SYS.MODE_CTL.REQ = 0x5 moves the device from INIT or HOLD to ARMED, or is refused. -/
  | reqArmed (ini : Initiator)
  /-- REQ_RUN (R30). A write of REQ = 0x6 arms the device so that it enters RUN or RUN-SPARED at the next frame, or is refused. -/
  | reqRun (ini : Initiator)
  /-- REQ_HOLD (R24). A write of REQ = 0x8 raises the HOLD cause HOLD_REQUEST. -/
  | reqHold (ini : Initiator)
  /-- REQ_RESTART (R29). A write of REQ = 0xF with KEY 0xA5 starts a restart, preceded by a SAFE burst where lanes are sending. -/
  | reqRestart (ini : Initiator)
  /-- ARM_TAKE_EFFECT (R30). At the start of the frame after the arm request, the mode becomes RUN or RUN-SPARED and drains are enabled. -/
  | armTakeEffect (f : Nat)
  /-- SAFE_BURST_END (R29). After the 16th SAFE frame of a burst, the transmitters turn off and the device enters QUARANTINE or RESET. -/
  | safeBurstEnd
  /-- RESET_PIN (R557). A low on RESET_N takes the device to RESET with cause RESET_PIN. -/
  | resetPin (ns : Nat)
  /-- RESET_EXIT (R23). With the rails good and RESET_N high, the device latches its straps, loads its OTP fields and leaves RESET for VERIFY. -/
  | resetExit (chainUp pullUp : Bool) (banks : List (Fin 3)) (unc : List (Fin 2048))
  /-- ENCODER_EDGE (R48). An accepted quadrature edge updates the edge count, angle, speed and acceleration of the tracker. -/
  | encoderEdge (x : Fin 2) (t : Nat) (stood : Nat) (a0 b0 a1 b1 : Bool)
  /-- INDEX_PULSE (R52). A forward index validates the tracker, or corrects the edge count and counts INDEX_SLIP. -/
  | indexPulse (x : Fin 2) (t : Nat)
  /-- SSI_SAMPLE (R45). Every PERIOD µs the tracker reads an SSI word and takes it as an edge, or discards it. -/
  | ssiSample (x : Fin 2) (t : Nat) (word : Nat)
  /-- TRACKER_STALL (R53). When no edge is accepted within the stall time, SPEED and ACCEL become 0 and STALLED is set. -/
  | trackerStall (x : Fin 2) (t : Nat)
  /-- TRACKER_CFG_WRITE (R56). A change to SRC, QMODE, E or ZERO clears VALID and restarts the tracker. -/
  | trackerCfgWrite (ini : Initiator) (x : Fin 2) (reg : Fin 3) (value : BitVec 32)
  /-- T_TICK (R63). Each TICK_CYC ENG cycles, domain T advances one bin. -/
  | tTick (t : Nat)
  /-- T_CFG_WRITE (R63). A write of WHEEL.T_CFG starts or stops domain T, or arms a start at the next SYNC edge. -/
  | tCfgWrite (ini : Initiator) (value : BitVec 32)
  /-- LANE_DOM_WRITE (R62). A change to a lane's wheel domain takes effect only while drains are held, and otherwise sets DOM_LOCKED. -/
  | laneDomWrite (ini : Initiator) (k : Fin 16) (value : BitVec 32)
  /-- DOM_HW_RESET (R85). A write of DOMx_CTL.HW_RESET sets HW to the lead point. -/
  | domHwReset (ini : Initiator) (d : Fin 3)
  /-- WHEEL_INSERT_OFFER (R73). An insert offered to a wheel port enters the port's FIFO, or is answered BUSY when the FIFO is full. -/
  | wheelInsertOffer (o : InsertOffer)
  /-- INS_EV_HI_WRITE (R97). A drone write of WHEEL.INS_EV_HI offers the insert held in the insert registers. -/
  | insEvHiWrite (d : Fin 4) (value : BitVec 32)
  /-- WHEEL_INSERT (R79). The wheel links the insert at the head of a port FIFO, or delivers or rejects it, and returns the result code. -/
  | wheelInsert
  /-- DRAIN_POSITION (R81). When the lead point passes a position above HW, the drainer closes the bin and detaches its queues. -/
  | drainPosition (d : Fin 3) (t : Nat)
  /-- HELD_BIN_SKIP (R83). While drains are held, HW follows LP and each bin passed is counted in DOMx_SKIPPED. -/
  | heldBinSkip (d : Fin 3) (t : Nat)
  /-- EVENT_DELIVERY (R82). A drained event is delivered into the owning chanter's drain input once there is room, and its pool entry is freed. -/
  | eventDelivery (d : Fin 3)
  /-- WHEEL_INIT (R89). A write of WHEEL.CTL.INIT starts emptying every queue and rebuilding the free list. -/
  | wheelInit (ini : Initiator)
  /-- WHEEL_INIT_DONE (R89). When initialisation finishes, READY becomes 1 and source 689 is raised. -/
  | wheelInitDone
  /-- WHEEL_FLUSH (R91). A write of FLUSH.GO starts returning all events of one lane to the free list. -/
  | wheelFlush (ini : Initiator) (lane : Fin 256)
  /-- WHEEL_FLUSH_DONE (R91). At the end of a flush, BUSY returns to 0 and source 688 is raised. -/
  | wheelFlushDone
  /-- NOTIFY_B_READ (R94). A read of WHEEL.NOTIFY_B removes the notify entry. -/
  | notifyBRead (ini : Initiator)
  /-- TIME_LO_READ (R41). A read of WHEEL.TIME_LO latches the upper half of wheel time into TIME_HI. -/
  | timeLoRead (ini : Initiator)
  /-- FRAME_COMMIT (R116). At a frame's deadline, the commit unit builds its 12 slots from the store and records misses. -/
  | frameCommit (c : Fin 128) (f : Nat)
  /-- PAIR_HANDOVER (R127). At the next frame boundary at least 320 ns after a claim, return or handback, the lane pair is attached to its new chanter. -/
  | pairHandover (g : Fin 4) (f : Nat)
  /-- CHANTER_RETIRE (R136). A write of CHT.Cn_CTL.RETIRE claims the chanter for takeover. -/
  | chanterRetire (ini : Initiator) (n : Fin 132)
  /-- CHANTER_HANDBACK (R130). A write of HANDBACK on a serving spare returns the pair to its own chanter. -/
  | chanterHandback (ini : Initiator) (n : Fin 132)
  /-- NOTE_B_READ (R132). A read of CHT.NOTE_B removes the note entry. -/
  | noteBRead (ini : Initiator)
  /-- NOP (R150). No operation. -/
  | nop (e : Fin 136) (x : FmtJ)
  /-- ADD (R150). rd := ra + rb. -/
  | add (e : Fin 136) (x : FmtT)
  /-- SUB (R150). rd := ra - rb. -/
  | sub (e : Fin 136) (x : FmtT)
  /-- AND (R150). rd := ra and rb. -/
  | and (e : Fin 136) (x : FmtT)
  /-- OR (R150). rd := ra or rb. -/
  | or (e : Fin 136) (x : FmtT)
  /-- XOR (R150). rd := ra xor rb. -/
  | xor (e : Fin 136) (x : FmtT)
  /-- SHL (R150). Logical shift left by a register. -/
  | shl (e : Fin 136) (x : FmtT)
  /-- SHR (R150). Logical shift right by a register. -/
  | shr (e : Fin 136) (x : FmtT)
  /-- SRA (R150). Arithmetic shift right by a register. -/
  | sra (e : Fin 136) (x : FmtT)
  /-- MUL (R150). Low 32 bits of a product. -/
  | mul (e : Fin 136) (x : FmtT)
  /-- MULH (R150). High 32 bits of a signed or unsigned product. -/
  | mulh (e : Fin 136) (x : FmtT)
  /-- MIN (R150). Signed or unsigned minimum. -/
  | min (e : Fin 136) (x : FmtT)
  /-- MAX (R150). Signed or unsigned maximum. -/
  | max (e : Fin 136) (x : FmtT)
  /-- DIV (R152). Division rounded toward zero, saturating, with ST.DZ set on division by zero. -/
  | div (e : Fin 136) (x : FmtT)
  /-- SEL (R150). Select ra or rb by a predicate. -/
  | sel (e : Fin 136) (x : FmtT)
  /-- CMP (R150). Set a predicate from a register comparison. -/
  | cmp (e : Fin 136) (x : FmtT)
  /-- PLOG (R150). Logical operation on predicates. -/
  | plog (e : Fin 136) (x : FmtT)
  /-- ADDI (R150). Add a sign-extended immediate. -/
  | addi (e : Fin 136) (x : FmtI)
  /-- ANDI (R150). AND with a zero-extended immediate. -/
  | andi (e : Fin 136) (x : FmtI)
  /-- ORI (R150). OR with a zero-extended immediate. -/
  | ori (e : Fin 136) (x : FmtI)
  /-- XORI (R150). XOR with a zero-extended immediate. -/
  | xori (e : Fin 136) (x : FmtI)
  /-- SHLI (R150). Shift left by an immediate. -/
  | shli (e : Fin 136) (x : FmtI)
  /-- SHRI (R150). Logical shift right by an immediate. -/
  | shri (e : Fin 136) (x : FmtI)
  /-- SRAI (R150). Arithmetic shift right by an immediate. -/
  | srai (e : Fin 136) (x : FmtI)
  /-- CMPI (R150). Set a predicate from a comparison with an immediate. -/
  | cmpi (e : Fin 136) (x : FmtI)
  /-- EXT (R150). Extract a bit field. -/
  | ext (e : Fin 136) (x : FmtI)
  /-- DEP (R150). Deposit a bit field. -/
  | dep (e : Fin 136) (x : FmtI)
  /-- MOVI (R150). Load a sign-extended 18-bit immediate. -/
  | movi (e : Fin 136) (x : FmtL)
  /-- MOVHI (R150). Load an immediate shifted left by 14. -/
  | movhi (e : Fin 136) (x : FmtL)
  /-- AMUL (R153). Accumulator := saturated product. -/
  | amul (e : Fin 136) (x : FmtT)
  /-- AMAC (R153). Multiply and accumulate with saturation. -/
  | amac (e : Fin 136) (x : FmtT)
  /-- AADD (R153). Add to, or load, an accumulator. -/
  | aadd (e : Fin 136) (x : FmtT)
  /-- ARD (R153). Read an accumulator shifted, rounded and saturated. -/
  | ard (e : Fin 136) (x : FmtT)
  /-- ADIV (R153). Divide an accumulator by a register, with saturation. -/
  | adiv (e : Fin 136) (x : FmtT)
  /-- LDW (R154). Load a 32-bit word, locally or over the spine. -/
  | ldw (e : Fin 136) (x : FmtI)
  /-- LDD (R154). Load a 64-bit word into a register pair. -/
  | ldd (e : Fin 136) (x : FmtI)
  /-- STW (R154). Drone posted 32-bit store to a register block. -/
  | stw (e : Fin 136) (x : FmtI)
  /-- STD (R154). 64-bit store, local or posted over the spine. -/
  | std (e : Fin 136) (x : FmtI)
  /-- BR (R154). PC-relative branch. -/
  | br (e : Fin 136) (x : FmtJ)
  /-- CALL (R154). Branch with the link address in G15. -/
  | call (e : Fin 136) (x : FmtJ)
  /-- JR (R154). Jump to a register, optionally with link. -/
  | jr (e : Fin 136) (x : FmtT)
  /-- FENCE (R154). A drone waits until every posted store has received its response. -/
  | fence (e : Fin 136) (x : FmtJ)
  /-- SPINE_LOAD_COMPLETE (R172). The spine response to a waiting drone load arrives and completes the load, with error handling. -/
  | spineLoadComplete (d : Fin 4)
  /-- POSTED_STORE_RESPONSE (R172). A posted drone store receives its response, which sets ST.BE and the GETS items on an error. -/
  | postedStoreResponse (d : Fin 4)
  /-- ANGLE (R159). Sample the eight tracker values of a domain into registers. -/
  | angle (e : Fin 136) (x : FmtT)
  /-- TIME (R155). Read 64-bit wheel time. -/
  | time (e : Fin 136) (x : FmtT)
  /-- GETS (R166). Read an engine state item. -/
  | gets (e : Fin 136) (x : FmtT)
  /-- WINS (R164). Offer a wheel insert at the engine's port, waiting or not for the answer. -/
  | wins (e : Fin 136) (x : FmtT)
  /-- WINSR (R164). Read the oldest queued insert answer. -/
  | winsr (e : Fin 136) (x : FmtT)
  /-- STS (R155). Read ST, or write predicates and enables and clear sticky bits. -/
  | sts (e : Fin 136) (x : FmtT)
  /-- DROP (R163). Count a dropped or discarded command and optionally acknowledge the drain entry. -/
  | drop (e : Fin 136) (x : FmtT)
  /-- WATCH (R160). Acknowledge the current drain entry, whose command has gone to the watch list. -/
  | watch (e : Fin 136) (x : FmtT)
  /-- NOTE (R163). Add a note to the shared note FIFO. -/
  | note (e : Fin 136) (x : FmtT)
  /-- EVT (R160). Read the oldest unacknowledged drain entry. -/
  | evt (e : Fin 136) (x : FmtT)
  /-- SLOT (R161). Write a command slot word into a lane's slot store. -/
  | slot (e : Fin 136) (x : FmtT)
  /-- CTXL (R162). Load a context word of the attached pair. -/
  | ctxl (e : Fin 136) (x : FmtI)
  /-- CTXS (R162). Store a context word of the attached pair. -/
  | ctxs (e : Fin 136) (x : FmtI)
  /-- ECHO (R165). Read, and optionally accumulate, an echo sense word. -/
  | echo (e : Fin 136) (x : FmtT)
  /-- WFF (R167). Complete the earliest open frame and start waiting. -/
  | wff (e : Fin 136) (x : FmtT)
  /-- WFF_WAKE (R167). A waiting WFF ends at the commit of its frame, a drain entry or a tracker edge. -/
  | wffWake (n : Fin 132) (t : Nat)
  /-- IRET (R177). Complete the named interrupt source and return. -/
  | iret (e : Fin 136) (x : FmtI)
  /-- SWI (R158). Raise a software interrupt source. -/
  | swi (e : Fin 136) (x : FmtI)
  /-- WAITI (R157). Wait until a source that the drone can take is pending. -/
  | waiti (e : Fin 136) (x : FmtJ)
  /-- INTERRUPT_TAKE (R177). At an instruction boundary, a drone takes a pending class N source through normal entry. -/
  | interruptTake (d : Fin 4)
  /-- FAST_INTERRUPT_TAKE (R177). A drone takes a pending class F source through one-cycle fast entry. -/
  | fastInterruptTake (d : Fin 4)
  /-- DRONE_RESTART (R482). Within 50 µs of a watchdog expiry or exception, the drone restarts through 0x0004. -/
  | droneRestart (d : Fin 4) (t : Nat)
  /-- FRAME_TRANSMIT_START (R193). At the start of a frame's transmission, each lane chooses the frame type, flags, management word and CRC and sends the frame. -/
  | frameTransmitStart (l : Fin 256) (f : Nat)
  /-- ECHO_RECEIVE (R198). A received echo frame is checked and accepted for its frame, or discarded. -/
  | echoReceive (l : Fin 256) (t : Nat) (groups : List (BitVec 10))
  /-- ECHO_DUE (R199). At an echo's due time without acceptance, samples read LOST or are merged from the partner, and ECHO_LOST may be set. -/
  | echoDue (l : Fin 256) (f : Nat)
  /-- SENDING_TIMEOUT (R199). A lane that has accepted no echo within 256 frames of SENDING goes to LOST. -/
  | sendingTimeout (l : Fin 256) (t : Nat)
  /-- MG_REQUEST (R201). A write of LANE.Ln_MG_REQ queues a management request for the next frame. -/
  | mgRequest (ini : Initiator) (l : Fin 256) (value : BitVec 32)
  /-- MG_TIMEOUT (R201). With no matching echo by the due time of echo F + 2, the request times out. -/
  | mgTimeout (l : Fin 256) (t : Nat)
  /-- BLOCK_GO (R203). A write of BLK_CTL.GO marks a management block for sending. -/
  | blockGo (ini : Initiator) (l : Fin 256)
  /-- LANE_ENABLE (R216). Setting EN starts the lane in SENDING at the next frame, or refuses an invalid pair. -/
  | laneEnable (ini : Initiator) (l : Fin 256)
  /-- LANE_DISABLE (R216). Clearing EN starts a 16-frame SAFE burst. -/
  | laneDisable (ini : Initiator) (l : Fin 256)
  /-- LANE_BURST_END (R216). After the 16th burst frame, the lane goes OFF, or to SENDING if EN was set again. -/
  | laneBurstEnd (l : Fin 256) (f : Nat)
  /-- ADC_ENABLE (R232). Setting ADCk_CTL.EN starts the converter after a calibration cycle, or is refused. -/
  | adcEnable (ini : Initiator) (k : Fin 4)
  /-- ADC_DISABLE (R232). Clearing EN stops the list after the entry in progress. -/
  | adcDisable (ini : Initiator) (k : Fin 4)
  /-- ADC_START (R230). A write of ADCk_CTL.START is a trigger in every mode. -/
  | adcStart (ini : Initiator) (k : Fin 4)
  /-- ADC_TRIGGER (R230). A timer, shaft, SYNC or fabric trigger starts the converter's list at the next slot boundary, or counts OVERRUN. -/
  | adcTrigger (k : Fin 4) (src : AdcTrig) (t : Nat) (delay : Fin 161)
  /-- ADC_CAL_CYCLE_DONE (R224). The power-on calibration cycle ends, and the converter enters WAITING. -/
  | adcCalCycleDone (k : Fin 4) (t : Nat)
  /-- SEQ_ENTRY_DONE (R229). At the end of an entry's last slot, the averaged and calibrated result is written to RESi. -/
  | seqEntryDone (k : Fin 4) (t : Nat) (raws : List (BitVec 16))
  /-- CAL_STEAL_START (R236). After 10 s without an idle slot, the converter begins stealing slots for calibration. -/
  | calStealStart (k : Fin 4) (t : Nat)
  /-- MONITOR_CONVERSION (R237). Every 4 RC periods, the monitor converter converts the next monitor channel and judges its window. -/
  | monitorConversion (raw : BitVec 16)
  /-- COMPARATOR_STATE_CHANGE (R240). A comparator changes state after its condition has held for FILT + 1 ticks. -/
  | comparatorStateChange (k : Fin 8) (x : BitVec 16) (ticks t : Nat)
  /-- CMP_CONFIG_WRITE (R243). A write of thresholds, hysteresis, input or UCAL recomputes the DAC code and restarts the filter. -/
  | cmpConfigWrite (ini : Initiator) (k : Fin 8) (reg : Fin 3) (value : BitVec 32)
  /-- SWITCH_FRAME_RX (R255). A received Ethernet frame is policed, learned and forwarded or flooded. -/
  | switchFrameRx (p : Fin 5) (t : Nat) (sent : List (Fin 5)) (f : EthFrame)
  /-- FDB_AGE_EXPIRY (R255). A learned entry is removed after AGE_S seconds. -/
  | fdbAgeExpiry (vid : Fin 4096) (mac : BitVec 48) (t : Nat)
  /-- ETH_LINK_CHANGE (R254). A port link comes up or goes down. -/
  | ethLinkChange (p : Fin 4) (up : Bool) (speed : Fin 3) (halfDuplex : Bool)
  /-- GCL_CHANGE (R260). A write of GCL_CTL.CHANGE schedules the administrative list, or refuses it with GCL_ERR. -/
  | gclChange (ini : Initiator) (p : Fin 4)
  /-- GCL_SWAP (R260). At the first cycle start at or after BASE, the administrative list becomes operational. -/
  | gclSwap (p : Fin 4) (t : Nat)
  /-- GCL_ENTRY_ADVANCE (R260). At the end of an entry's interval, the port's gates move to the next entry. -/
  | gclEntryAdvance (p : Fin 4) (t : Nat)
  /-- PTP_MESSAGE_RX (R261). A received gPTP message is time-stamped and processed by the hardware state machines. -/
  | ptpMessageRx (p : Fin 4) (t : Nat) (dom : Fin 256) (m : PtpMsg)
  /-- PTP_SYNC_INTERVAL (R261). Each sync interval, the instance sends its timing messages. -/
  | ptpSyncInterval (t : Nat)
  /-- PTP_SYNC_LOST (R293). With no Sync received within 3 sync intervals, source 715 is raised. -/
  | ptpSyncLost (t : Nat)
  /-- XCAP_GO (R263). A write of XCAP_CTL.GO captures wheel time and gPTP time together. -/
  | xcapGo (ini : Initiator)
  /-- GPTP_SECOND_ROLLOVER (R263). The rollover of the gPTP seconds count triggers a capture when it is enabled. -/
  | gptpSecondRollover (t : Nat)
  /-- IP_DATAGRAM_RX (R265). The stack receives an IPv4 datagram and discards it or passes it to Ivwyn or ICMP. -/
  | ipDatagramRx (d : IpDatagram)
  /-- ARP_REQUEST_RX (R264). The stack answers an ARP request for its address. -/
  | arpRequestRx (t : Nat) (target sender : BitVec 32) (mac : BitVec 48)
  /-- ICMP_ECHO_RX (R264). The stack answers an ICMP echo request. -/
  | icmpEchoRx (src : BitVec 32) (len : Nat)
  /-- ARP_CACHE_EXPIRY (R264). An ARP cache entry expires after 60 s. -/
  | arpCacheExpiry (ip : BitVec 32) (t : Nat)
  /-- IP_ADDR_WRITE (R264). A write of the IP address sends a gratuitous ARP. -/
  | ipAddrWrite (ini : Initiator) (value : BitVec 32)
  /-- IVWYN_DATAGRAM_RX (R274). A received Ivwyn datagram is checked in order and discarded, answered or executed. -/
  | ivwynDatagramRx (p : Fin 4) (t : Nat) (ip : BitVec 32) (port : BitVec 16) (dest : UdpDest) (payload : List (BitVec 8))
  /-- IVWYN_OPEN (R535). An OPEN request is queued to SEC for the session handshake. -/
  | ivwynOpen
  /-- IVWYN_CONFIRM (R535). A CONFIRM request is passed to SEC to complete the session. -/
  | ivwynConfirm (x : Fin 256)
  /-- IVWYN_CLOSE (R269). A CLOSE request is answered, and then the session closes. -/
  | ivwynClose (x : Fin 256)
  /-- IVWYN_PING (R269). A PING is answered with an empty response. -/
  | ivwynPing (x : Fin 256)
  /-- IVWYN_IDENT (R269). An IDENT returns the identity, mode, position and lifecycle. -/
  | ivwynIdent (x : Fin 256)
  /-- IVWYN_RESTART (R269). A RESTART is answered and then restarts the device, or is refused with MODE_ERROR. -/
  | ivwynRestart (x : Fin 256)
  /-- IVWYN_REG_READ (R269). A REG_READ reads consecutive registers over the spine. -/
  | ivwynRegRead (x : Fin 256)
  /-- IVWYN_REG_WRITE (R269). A REG_WRITE writes consecutive registers over the spine. -/
  | ivwynRegWrite (x : Fin 256)
  /-- IVWYN_MEM_READ (R269). A MEM_READ reads 64-bit memory words. -/
  | ivwynMemRead (x : Fin 256)
  /-- IVWYN_MEM_WRITE (R269). A MEM_WRITE writes 64-bit memory words. -/
  | ivwynMemWrite (x : Fin 256)
  /-- IVWYN_INSERT (R269). An INSERT offers its events to wheel port 4 and returns their codes. -/
  | ivwynInsert (x : Fin 256)
  /-- IVWYN_ROW (R276). A ROW request is placed in a firmware receive buffer. -/
  | ivwynRow (x : Fin 256) (t : Nat)
  /-- IVWYN_APP (R276). An APP request is placed in a firmware receive buffer. -/
  | ivwynApp (x : Fin 256) (t : Nat)
  /-- IVWYN_MODE (R269). A MODE message writes SYS.MODE_CTL.REQ and returns the mode. -/
  | ivwynMode (x : Fin 256)
  /-- IVWYN_SNAP (R269). A SNAP message asserts the SNAP trigger. -/
  | ivwynSnap (x : Fin 256)
  /-- IVWYN_SUBSCRIBE (R275). A SUBSCRIBE message sets the session's notification mask. -/
  | ivwynSubscribe (x : Fin 256)
  /-- FW_TIMEOUT (R273). Firmware that has not answered a ROW or APP request within 8 ms is answered FW_TIMEOUT for. -/
  | fwTimeout (x : Fin 256) (t : Nat)
  /-- IVW_RX_DONE (R276). A write of IVW.RX_DONE frees a receive buffer and returns its credit. -/
  | ivwRxDone (ini : Initiator) (buf : Fin 8)
  /-- IVW_TXQ (R276). A write of IVW.TXQ encrypts and sends a firmware response or notification. -/
  | ivwTxq (ini : Initiator) (buf : Fin 16)
  /-- SESSION_IDLE_TIMEOUT (R271). A session without an accepted host message for 5 s closes, which ends SERVICE if it held SERVICE. -/
  | sessionIdleTimeout (x : Fin 256) (t : Nat)
  /-- CONFIRM_TIMEOUT (R536). A session number is freed when no CONFIRM arrives within 5 s of the OPEN response. -/
  | confirmTimeout (x : Fin 256) (t : Nat)
  /-- SEC_OPEN_DONE (R537). SEC finishes its work on an OPEN and sends the handshake response, or a refusal. -/
  | secOpenDone (t : Nat)
  /-- SEC_CONFIRM_DONE (R536). SEC checks the CONFIRM signature and opens the session, with SERVICE for role S. -/
  | secConfirmDone (t : Nat)
  /-- EMN_DATA_FRAME_RX (R283). A data frame with a correct CRC and the next SEQ is accepted, acknowledged and consumed or forwarded. -/
  | emnDataFrameRx (p : Fin 2) (t : Nat) (frame : List (BitVec 8))
  /-- EMN_ACK_TIMEOUT (R283). After 20 µs without the expected ACK, the sender resends from the oldest unacknowledged frame. -/
  | emnAckTimeout (p : Fin 2) (t : Nat)
  /-- EMN_IDLE_TIMEOUT (R282). A linked port without a valid character for 4 µs goes back to training. -/
  | emnIdleTimeout (p : Fin 2) (t : Nat)
  /-- EMN_TRAIN_RX (R282). A TRAIN frame is counted, and the port links after 128 of them. -/
  | emnTrainRx (p : Fin 2) (u : UrgentRx) (port : BitVec 8)
  /-- EMN_PORT_LINKED (R284). When a port links, it measures its delay, and a head or positioned device sends ENUM downstream. -/
  | emnPortLinked (p : Fin 2) (t8 : Nat)
  /-- EMN_ANGLE_RX (R289). An ANGLE urgent frame is repeated and taken as an edge by a CHAIN tracker. -/
  | emnAngleRx (p : Fin 2) (u : UrgentRx) (flags : BitVec 8) (angle rev : BitVec 24)
  /-- EMN_SYNC_RX (R290). A SYNC urgent frame is repeated and schedules its apply instant. -/
  | emnSyncRx (p : Fin 2) (u : UrgentRx) (seq : BitVec 8)
  /-- EMN_SNAP_RX (R290). A SNAP urgent frame is repeated and schedules its apply instant. -/
  | emnSnapRx (p : Fin 2) (u : UrgentRx) (seq : BitVec 8)
  /-- EMN_DREQ_RX (R287). A DREQ is answered with a DRSP that carries the turnaround time. -/
  | emnDreqRx (p : Fin 2) (u : UrgentRx) (seq : BitVec 8)
  /-- EMN_DRSP_RX (R287). A DRSP gives the requester a new link delay D. -/
  | emnDrspRx (p : Fin 2) (u : UrgentRx) (seq : BitVec 8) (turn : BitVec 24)
  /-- EMN_ACK_RX (R283). An ACK releases an acknowledged data frame from the resend window. -/
  | emnAckRx (p : Fin 2) (u : UrgentRx) (seq : BitVec 8)
  /-- EMN_CREDIT_RX (R286). A CREDIT frame returns event credits to the link partner. -/
  | emnCreditRx (p : Fin 2) (u : UrgentRx) (count : BitVec 16)
  /-- EMN_DELAY_MEASURE (R287). Every 1 ms, a port sends a DREQ to measure its link. -/
  | emnDelayMeasure (p : Fin 2) (t8 : Nat)
  /-- EMN_ANGLE_SEND (R289). Every PERIOD ENG cycles, an ANGLE frame is sent for each enabled domain. -/
  | emnAngleSend (t : Nat)
  /-- TRIGGER_APPLY (R290). At a trigger's apply instant, SYNC or SNAP acts in the device. -/
  | triggerApply (t : Nat)
  /-- SYNC_GO (R290). A write of EMN.TRIG_CTL.SYNC_GO sends a SYNC, or acts locally at once. -/
  | syncGo (ini : Initiator)
  /-- SYNC_PIN_EDGE (R468). A rising edge at the SYNC pin sends a SYNC, or raises the internal SYNC at once. -/
  | syncPinEdge (t : Nat)
  /-- ENUM_RX (R284). An ENUM on UP gives the device its position, or is refused as too long or conflicting. -/
  | enumRx (t : Nat)
  /-- ENUM_TAIL_TIMEOUT (R284). With DN unlinked 1 ms after ENUM, the device reports TAIL upstream. -/
  | enumTailTimeout (t : Nat)
  /-- EMN_REPORT_RX (R388). A REPORT frame at the head updates the chain length or a position's load result. -/
  | emnReportRx
  /-- EMN_EVT_RX (R286). An EVT frame's inserts are offered in order to wheel port 5. -/
  | emnEvtRx
  /-- EMN_FW_RX (R286). A FW frame is placed in a receive buffer for firmware. -/
  | emnFwRx
  /-- EMN_TXQ (R286). A write of EMN.TXQ sends an EVT or FW frame prepared in a buffer. -/
  | emnTxq (ini : Initiator) (buf : Fin 16)
  /-- EMN_RX_DONE (R296). A write of EMN.RX_DONE frees a receive buffer. -/
  | emnRxDone (ini : Initiator) (buf : Fin 16)
  /-- CFG_BEGIN (R387). A CFG BEGIN opens a streaming pass for this position. -/
  | cfgBegin (t : Nat)
  /-- CFG_DATA (R387). A CFG DATA frame delivers consecutive image bytes to the pass. -/
  | cfgData (t : Nat)
  /-- CFG_END (R387). A CFG END closes the pass, which is then judged. -/
  | cfgEnd (t : Nat)
  /-- CFG_ABORT (R390). A CFG ABORT rejects the pass with ABORTED. -/
  | cfgAbort (t : Nat)
  /-- CFG_REPAIR_REQ (R392). The head reads the requested repair bytes from the source slot and answers them. -/
  | cfgRepairReq (t : Nat)
  /-- CFG_REPAIR_DATA (R392). REPAIR_DATA frames supply repair bytes to the requesting device. -/
  | cfgRepairData (t : Nat)
  /-- REED_NOP (R308). Fabric cell no operation. -/
  | reedNop (c : Fin 65536) (m : Nat)
  /-- REED_MOV (R308). Cell result := a. -/
  | reedMov (c : Fin 65536) (m : Nat)
  /-- REED_ADD (R308). Cell add with carry out. -/
  | reedAdd (c : Fin 65536) (m : Nat)
  /-- REED_ADC (R308). Cell add with carry in. -/
  | reedAdc (c : Fin 65536) (m : Nat)
  /-- REED_SUB (R308). Cell subtract. -/
  | reedSub (c : Fin 65536) (m : Nat)
  /-- REED_SBC (R308). Cell subtract with borrow. -/
  | reedSbc (c : Fin 65536) (m : Nat)
  /-- REED_AND (R308). Cell AND. -/
  | reedAnd (c : Fin 65536) (m : Nat)
  /-- REED_OR (R308). Cell OR. -/
  | reedOr (c : Fin 65536) (m : Nat)
  /-- REED_XOR (R308). Cell XOR. -/
  | reedXor (c : Fin 65536) (m : Nat)
  /-- REED_ANDN (R308). Cell a and not b. -/
  | reedAndn (c : Fin 65536) (m : Nat)
  /-- REED_NOT (R308). Cell NOT. -/
  | reedNot (c : Fin 65536) (m : Nat)
  /-- REED_SHL (R308). Cell shift left. -/
  | reedShl (c : Fin 65536) (m : Nat)
  /-- REED_SHR (R308). Cell logical shift right. -/
  | reedShr (c : Fin 65536) (m : Nat)
  /-- REED_SRA (R308). Cell arithmetic shift right. -/
  | reedSra (c : Fin 65536) (m : Nat)
  /-- REED_ROL (R308). Cell rotate left. -/
  | reedRol (c : Fin 65536) (m : Nat)
  /-- REED_MULL (R308). Cell low product. -/
  | reedMull (c : Fin 65536) (m : Nat)
  /-- REED_MULH (R308). Cell signed high product. -/
  | reedMulh (c : Fin 65536) (m : Nat)
  /-- REED_MULHU (R308). Cell unsigned high product. -/
  | reedMulhu (c : Fin 65536) (m : Nat)
  /-- REED_MIN (R308). Cell signed minimum. -/
  | reedMin (c : Fin 65536) (m : Nat)
  /-- REED_MAX (R308). Cell signed maximum. -/
  | reedMax (c : Fin 65536) (m : Nat)
  /-- REED_MINU (R308). Cell unsigned minimum. -/
  | reedMinu (c : Fin 65536) (m : Nat)
  /-- REED_MAXU (R308). Cell unsigned maximum. -/
  | reedMaxu (c : Fin 65536) (m : Nat)
  /-- REED_EQ (R308). Cell equality test setting F. -/
  | reedEq (c : Fin 65536) (m : Nat)
  /-- REED_LT (R308). Cell signed less-than setting F. -/
  | reedLt (c : Fin 65536) (m : Nat)
  /-- REED_LTU (R308). Cell unsigned less-than setting F. -/
  | reedLtu (c : Fin 65536) (m : Nat)
  /-- REED_TST (R308). Cell bit test setting F. -/
  | reedTst (c : Fin 65536) (m : Nat)
  /-- REED_SEL (R308). Cell select by F. -/
  | reedSel (c : Fin 65536) (m : Nat)
  /-- REED_BSEL (R308). Cell select by a bit of c. -/
  | reedBsel (c : Fin 65536) (m : Nat)
  /-- REED_MUXQ (R308). Cell select of a Q register. -/
  | reedMuxq (c : Fin 65536) (m : Nat)
  /-- REED_ADDS (R308). Cell saturating add. -/
  | reedAdds (c : Fin 65536) (m : Nat)
  /-- REED_SUBS (R308). Cell saturating subtract. -/
  | reedSubs (c : Fin 65536) (m : Nat)
  /-- REED_INCEQ (R308). Cell increment and compare. -/
  | reedInceq (c : Fin 65536) (m : Nat)
  /-- REED_RAMRD (R321). The address cell reads a fabric RAM word. -/
  | reedRamrd (c : Fin 65536) (m : Nat)
  /-- REED_RAMWR (R321). The address cell writes a fabric RAM word from RAMWD. -/
  | reedRamwr (c : Fin 65536) (m : Nat)
  /-- REED_FLAG (R308). Cell copies a bit into F. -/
  | reedFlag (c : Fin 65536) (m : Nat)
  /-- REED_LUT_STEP (R310). A bit-mode cell registers its 16 LUT outputs at WR_STEP. -/
  | reedLutStep (c : Fin 65536) (m : Nat)
  /-- FABRIC_RELEASE (R333). A write of FAB.CTL.RELEASE starts the quadrant release sequence, or is ignored. -/
  | fabricRelease (ini : Initiator)
  /-- QUADRANT_RELEASE (R333). At the due E = 0 edge, the next quadrant is released from set-reset. -/
  | quadrantRelease (t : Nat)
  /-- FIRQ_EDGE (R330). A rising edge of a rim interrupt line raises source 392 + x. -/
  | firqEdge (x : Fin 96) (m : Nat)
  /-- FABRIC_HOLD_CHANGE (R330). The rim HOLD signal raises or clears the HOLD cause FABRIC_HOLD. -/
  | fabricHoldChange (m : Nat)
  /-- SPM_REQUEST (R331). A toggle of the rim REQ issues one spine access for fabric logic, or completes with CODE 2. -/
  | spmRequest (m : Nat)
  /-- SPM_RESPONSE (R331). The spine response returns on the rim with an ACK toggle and CODE. -/
  | spmResponse
  /-- CONFIG_UPSET (R316). An upset flips configuration bits of a fabric frame. -/
  | configUpset (frame : Fin 4096) (bits : List (Fin 5120))
  /-- CONT_REENABLE (R317). A write of FAB.CONT_CLR.REENABLE clears the contention latches. -/
  | contReenable (ini : Initiator)
  /-- CAPTURE_GO (R336). A write of FAB.CAP_CTL.GO requests a fabric state capture. -/
  | captureGo (ini : Initiator)
  /-- CAPTURE_TAKEN (R336). At the due PIPE edge, the user state of all cells is copied into the shadow cells. -/
  | captureTaken (m : Nat)
  /-- CAPTURE_FREE (R338). A write of FAB.CAP_CTL.FREE clears FULL. -/
  | captureFree (ini : Initiator)
  /-- CAP_DATA_READ (R338). A read of FAB.CAP_DATA returns a capture word and advances WORD, or is refused. -/
  | capDataRead (ini : Initiator)
  /-- PR_CLAIM (R347). A write of OWNER, or a rim CLAIM, claims or releases the reconfiguration port. -/
  | prClaim (x : PrClaim)
  /-- PR_START (R350). A write of PR_CTL.START begins staging a partial stream. -/
  | prStart (ini : Initiator) (flash : Bool)
  /-- PR_ABORT (R352). A write of PR_CTL.ABORT rejects the stream before APPLY. -/
  | prAbort (ini : Initiator)
  /-- PR_DATA_PUSH (R348). A write of CFG.PR_DATA pushes 4 stream bytes. -/
  | prDataPush (ini : Initiator) (value : BitVec 32)
  /-- PR_RIM_PUSH (R349). A rim PUSH command pushes up to 8 stream bytes. -/
  | prRimPush (m : Nat)
  /-- PR_RIM_START_FLASH (R349). A rim START_FLASH command begins a FLASH stream. -/
  | prRimStartFlash (m : Nat)
  /-- PR_RIM_START_PUSH (R349). A rim START_PUSH command begins a PUSH stream. -/
  | prRimStartPush (m : Nat)
  /-- PR_RIM_ABORT (R349). A rim ABORT command aborts the stream. -/
  | prRimAbort (m : Nat)
  /-- PR_STAGING_DONE (R350). Staging completes and AUTH begins, or the stream is rejected. -/
  | prStagingDone (t : Nat) (bad : Bool)
  /-- PR_AUTH_DONE (R350). The header checks complete and DECRYPT begins, or the stream is rejected. -/
  | prAuthDone (t : Nat)
  /-- PR_DECRYPT_DONE (R350). Decryption and frame checks complete and APPLY begins, or the stream is rejected. -/
  | prDecryptDone (t : Nat)
  /-- PR_APPLY_DONE (R354). The last frame is written, the region is released at E = 0, and STATE becomes DONE. -/
  | prApplyDone (t : Nat)
  /-- SCAN_FRAME_READ (R356). The scanner reads its next frame and compares its CRC with the golden signature. -/
  | scanFrameRead (t : Nat) (goldenBad : Bool)
  /-- FRAME_REPAIR (R357). The repair engine reads, decrypts, checks and rewrites a queued frame. -/
  | frameRepair (t : Nat) (bad : Bool)
  /-- REPAIR_CHAIN_TIMEOUT (R359). A chain repair with no answer from the head within 10 ms counts as a failure. -/
  | repairChainTimeout (t : Nat)
  /-- QUADRANT_RESTORE_DONE (R360). A quadrant that was turned on from OFF is rewritten from its sources and released, or held INCOMPLETE. -/
  | quadrantRestoreDone (q : Fin 4) (t : Nat) (bad : Bool) (fetched : List (List (BitVec 8)))
  /-- RESTORE_RELEASE (R360). A write of CFG.RESTORE_STAT.RELEASE releases a held quadrant. -/
  | restoreRelease (ini : Initiator)
  /-- VERIFY_PASS_DONE (R379). The verify pass ends with acceptance and LOAD, or with a rejection and FALLBACK or QUARANTINE. -/
  | verifyPassDone (t : Nat) (bad : Option Nat)
  /-- LOAD_PASS_DONE (R380). The load pass ends with every record written and INIT, or with a rejection. -/
  | loadPassDone (t : Nat) (bad : Option Nat)
  /-- PASS_TIMEOUT (R381). A load pass that lasts 200 ms is rejected with PASS_TIMEOUT. -/
  | passTimeout (t : Nat) (read : Nat)
  /-- CHAIN_PASS_SEND (R389). The head streams a member image pass to the chain positions. -/
  | chainPassSend (t : Nat)
  /-- CHAIN_ACK_STALL (R390). With no ACK accepted for 10 ms, the head aborts every position of the pass. -/
  | chainAckStall (t : Nat)
  /-- CHAIN_REPORT_TIMEOUT (R390). A position whose report is missing 10 ms after END is aborted. -/
  | chainReportTimeout (p : Fin 16) (t : Nat)
  /-- READY_REPORT_SEND (R386). Every 10 ms, a waiting downstream device sends REPORT READY upstream. -/
  | readyReportSend (t : Nat)
  /-- UPD_GO (R394). A write of CFG.UPD_CTL.GO starts a background verify of the staging slot. -/
  | updGo (ini : Initiator)
  /-- UPD_DONE (R394). The background verify ends VERIFIED or REJECTED and raises source 825. -/
  | updDone (t : Nat) (bad : Option Nat)
  /-- PROMOTE (R395). A write of UPD_CTL.PROMOTE writes the slot-selection record, or is refused. -/
  | promote (ini : Initiator) (fwp : Bool) (jfails : Fin 4)
  /-- PAGE_PROG (R412). Program FLASH.BUF into a CFLASH page. -/
  | pageProg (ini : Initiator) (fwp : Bool)
  /-- SECTOR_ERASE (R412). Erase a CFLASH sector with journal records. -/
  | sectorErase (ini : Initiator) (fwp : Bool) (jfails : Fin 4)
  /-- SEAL (R412). Compute a sector CRC and write a SEAL record. -/
  | seal (ini : Initiator)
  /-- CHECK_SEAL (R412). Compare a sector CRC with its SEAL. -/
  | checkSeal (ini : Initiator)
  /-- MARGIN_READ (R424). Read a sector at a tightened reference and report its margins. -/
  | marginRead (ini : Initiator)
  /-- SUSPEND (R414). Suspend the running CFLASH operation until RESUME. -/
  | suspend (ini : Initiator)
  /-- RESUME (R415). Resume the innermost suspended operation. -/
  | resume (ini : Initiator)
  /-- PF_PROG (R418). Program a PFLASH code word with one pulse. -/
  | pfProg (ini : Initiator) (fwp : Bool)
  /-- PF_ERASE (R412). Erase a PFLASH sector with one pulse. -/
  | pfErase (ini : Initiator) (fwp : Bool)
  /-- FLASH_COMMAND_DONE (R411). The end of a flash command writes CODE and raises the done and error sources. -/
  | flashCommandDone (cf : Bool) (t : Nat) (pass : Bool) (jfails : Fin 4) (corr : Fin 4096) (maxbits : Fin 4) (unc : Fin 4096)
  /-- AUTO_RESUME (R414). An operation suspended by a read resumes after 50 µs without a CFLASH read. -/
  | autoResume (t : Nat)
  /-- COMPACTION_DONE (R409). A compaction completes and raises source 846. -/
  | compactionDone (t : Nat) (jfails : Fin 4)
  /-- OTP_PROGRAM (R430). A write of OTP.CTL.GO programs one OTP word, or is refused. -/
  | otpProgram (ini : Initiator) (fwp : Bool)
  /-- OTP_PROGRAM_DONE (R425). An OTP program ends with its CODE and raises source 848. -/
  | otpProgramDone (pass : Bool)
  /-- UVLO_RISE (R435). VIN rising through 4.2 V starts the rail start-up sequence. -/
  | uvloRise (t : Nat)
  /-- UVLO_FALL (R436). VIN falling through 3.9 V enters RESET and shuts the rails down. -/
  | uvloFall (t : Nat)
  /-- OVERVOLTAGE_STOP (R432). VIN above 19.5 V enters RESET and shuts the rails down. -/
  | overvoltageStop (t : Nat)
  /-- THERMAL_STOP (R432). The bellows die at 130 °C stops the rails, which restart only below 115 °C. -/
  | thermalStop (t : Nat)
  /-- HOLDUP_TRIP (R432). VIN below THR raises the HOLD cause HOLDUP and source 776. -/
  | holdupTrip
  /-- HOLDUP_RELEASE (R24). VIN rising to THR + 200 mV clears HOLDUP. -/
  | holdupRelease
  /-- RAILS_GOOD (R435). With every rail good, the core die is released from power-on reset. -/
  | railsGood (t : Nat)
  /-- RAIL_START_TIMEOUT (R435). A rail that is not good within 2 ms of its ramp shuts every rail down. -/
  | railStartTimeout (rail : Fin 4) (t : Nat)
  /-- RAIL_RETRY (R435). 100 ms after a rail shutdown, the start-up sequence is tried again. -/
  | railRetry (t : Nat)
  /-- RAIL_FAULT (R436). A rail below 90 % for 10 µs, or in overcurrent, enters RESET and shuts down the rails. -/
  | railFault (rail : Fin 4) (overcurrent : Bool) (t : Nat)
  /-- FAIL_COUNT_CLEAR (R435). The rail failure count returns to 0 after the rails have stayed good for 1 s. -/
  | failCountClear (t : Nat)
  /-- VCORE_PHASE_LOST (R434). A VCORE phase that fails a check for 20 µs is disabled. -/
  | vcorePhaseLost (p : Fin 6)
  /-- PHASE_REARM (R434). A write of PWR.PHASE_CTL.REARM starts a 100 µs test of a lost phase. -/
  | phaseRearm (ini : Initiator) (mask : Fin 64)
  /-- PHASE_REARM_DONE (R434). A phase that passes its test is re-enabled, and otherwise stays lost. -/
  | phaseRearmDone (p : Fin 6) (pass : Bool)
  /-- DOMAIN_REQUEST (R440). A write of PWR.Dd_CTL.REQ starts entry to retention or off, a wake, or is refused. -/
  | domainRequest (ini : Initiator) (d : Fin 23) (req : Fin 4)
  /-- DOMAIN_ENTRY_DONE (R442). The domain reaches RETENTION or OFF and raises source 780. -/
  | domainEntryDone (d : Fin 23) (t : Nat)
  /-- DOMAIN_ENTRY_ABORT (R442). A step not acknowledged within 50 µs aborts the entry and returns the domain to ON. -/
  | domainEntryAbort (d : Fin 23) (step : Fin 5) (t : Nat)
  /-- DOMAIN_WAKE (R443). A wake event starts a wake attempt of a domain. -/
  | domainWake (d : Fin 23) (t : Nat)
  /-- DOMAIN_WAKE_DONE (R444). The domain reaches ON after its wake and raises source 781. -/
  | domainWakeDone (d : Fin 23) (t : Nat)
  /-- WAKE_ATTEMPT_FAIL (R444). A wake attempt that misses its bound, or finds an uncorrectable shadow word, fails. -/
  | wakeAttemptFail (d : Fin 23) (cause : Fin 5) (t : Nat)
  /-- WAKE_RETRY (R445). 10 µs after a failed attempt, the wake is tried again, or the failure is reported. -/
  | wakeRetry (d : Fin 23) (t : Nat)
  /-- REF_DETECT (R451). The clock controller looks for a reference input, retrying every 1 ms. -/
  | refDetect (lvds lvcmos : Nat) (xtal : Bool)
  /-- PLL_LOCK (R453). A PLL completes its lock on the band it chose. -/
  | pllLock (x : Fin 2) (t : Nat)
  /-- PLL_LOCK_TIMEOUT (R453). A PLL with no lock within 100 µs fails its attempt. -/
  | pllLockTimeout (x : Fin 2) (t : Nat)
  /-- PLL_LOCK_RETRY (R462). Every 1 ms, a PLL out of lock retries its lock. -/
  | pllLockRetry (x : Fin 2) (t : Nat)
  /-- PLL_LOCK_LOSS (R453). A PLL with 8 consecutive comparisons above 1.0 ns loses lock and is declared faulty. -/
  | pllLockLoss (x : Fin 2)
  /-- VTUNE_MEASURE (R455). Every 1 ms, the tuning voltage is measured and BAND_MARGIN judged. -/
  | vtuneMeasure (x : Fin 2) (raw : BitVec 16)
  /-- PLL_DISAGREEMENT (R460). VCO edges more than 100 ps apart for 4 cycles declare one PLL faulty. -/
  | pllDisagreement (errA errB : Nat)
  /-- CORE_SWITCH (R458). A write of CLK.CTL.CORE moves ENG and SPINE to the PLL clocks and starts PIPE, NET and ADC. -/
  | coreSwitch (ini : Initiator)
  /-- PLL_RETURN (R462). A write of CLK.CTL.RETURN moves supply back to PLLA. -/
  | pllReturn (ini : Initiator)
  /-- PLL_RELOCK (R463). A write of PLLx_CTL.RELOCK relocks a PLL, with a planned switch if it supplies. -/
  | pllRelock (ini : Initiator) (x : Fin 2)
  /-- REF_LOST (R464). Loss of the reference for 2 periods puts both PLLs in holdover. -/
  | refLost
  /-- REF_RETURN (R464). When the reference returns, both PLLs relock with a slewed frequency. -/
  | refReturn
  /-- CLKOUT_CFG_WRITE (R467). A write of a CLKOUT configuration starts, stops or changes an output without runts. -/
  | clkoutCfgWrite (ini : Initiator) (k : Fin 4) (value : BitVec 32)
  /-- IRQ_RAISE (R472). A write of IRQ.RAISEk raises software sources. -/
  | irqRaise (ini : Initiator) (k : Fin 32) (value : BitVec 32)
  /-- IRQ_PEND_CLEAR (R478). A W1C write of IRQ.PENDk discards pending raises. -/
  | irqPendClear (ini : Initiator) (k : Fin 32) (value : BitVec 32)
  /-- WD_ENABLE (R481). Setting Dd_WD_CFG.EN arms the drone watchdog. -/
  | wdEnable (ini : Initiator) (d : Fin 4) (period : Nat)
  /-- WD_KICK (R481). A drone's write of 0x0000_C0DE to its kick register restarts its watchdog. -/
  | wdKick (ini : Initiator) (d : Fin 4) (value : BitVec 32)
  /-- WATCHDOG_EXPIRY (R482). An expired watchdog halts the drone, raises sources 907 and 388 + d, and schedules a restart or retirement. -/
  | watchdogExpiry (d : Fin 4) (t : Nat)
  /-- DRONE_UNRETIRE (R485). A write of Dd_CTL.UNRETIRE returns a retired drone to service at its start entry. -/
  | droneUnretire (ini : Initiator) (d : Fin 4)
  /-- SNAP_TRIGGER (R487). An assertion of the common SNAP trigger latches the shadows and acts on the other consumers. -/
  | snapTrigger (src m : Nat)
  /-- SNAP_GO (R487). A write of SNAP.CTL.GO asserts the SNAP trigger. -/
  | snapGo (ini : Initiator)
  /-- SNAP_FREE (R490). A write of SNAP.CTL.FREE clears FULL. -/
  | snapFree (ini : Initiator)
  /-- SNAP_PIN_EDGE (R487). A falling edge of SNAP_N held low for 2 SPINE cycles asserts SNAP. -/
  | snapPinEdge (lowCycles : Nat)
  /-- BIT_UPSET (R498). An upset inverts a stored bit of a grid-coded word. -/
  | bitUpset (addr : Nat) (bits : List (Fin 80))
  /-- SCRUB_PASS (R504). A GO with OP SCRUB starts reading and correcting a range. -/
  | scrubPass (ini : Initiator)
  /-- FILL_PASS (R504). A GO with OP FILL starts writing the fill value over a range. -/
  | fillPass (ini : Initiator)
  /-- SCRUB_ABORT (R505). A write of SCRUB_CTL.ABORT stops the pass after the current word. -/
  | scrubAbort (ini : Initiator)
  /-- SCRUB_PASS_DONE (R505). A pass ends DONE or ABORTED with its summary and raises source 856. -/
  | scrubPassDone (t : Nat) (words : Nat) (late : List Nat)
  /-- WALKER_LAP_DONE (R508). An idle walker completes a lap of its class and records the lap time. -/
  | walkerLapDone (m : Fin 6) (t : Nat) (paused : Nat)
  /-- FORCED_GRANT (R507). After 1,024 consecutive yields, a scrubber is granted a cycle ahead of foreground access. -/
  | forcedGrant (pass : Bool) (m : Fin 6)
  /-- SELFTEST_TICK (R514). At each period tick, the controller starts a slice on the next unit of the plan. -/
  | selftestTick (t : Nat)
  /-- MANUAL_SLICE (R524). A write of BIST.CTL.MAN_GO starts a manual slice, or is refused. -/
  | manualSlice (ini : Initiator)
  /-- DRONE_SLICE_WAIT_TIMEOUT (R519). A drone slice whose conditions are not met within 1 ms ends NOT_STARTED. -/
  | droneSliceWaitTimeout (t : Nat)
  /-- SLICE_BUDGET_EXPIRY (R516). A slice whose sequence is unfinished at its budget is sealed INCOMPLETE. -/
  | sliceBudgetExpiry (t : Nat)
  /-- SLICE_SEAL (R522). A slice whose sequence completes is sealed, its signature compared, and the outcome applied. -/
  | sliceSeal (t : Nat) (responses : List (BitVec 64))
  /-- SLICE_RESTORE_DONE (R520). A memory slice's reserve bank is written back and the redirection ends. -/
  | sliceRestoreDone (t : Nat)
  /-- TRACT_USE_WRITE (R521). A write of BIST.TRACT_USE sets or releases SYS.SPARED.TRACT. -/
  | tractUseWrite (ini : Initiator) (value : BitVec 32)
  /-- SVC_HALT (R539). A write of SEC.SVC_CTL.HALT by the service holder halts drones. -/
  | svcHalt (ini : Initiator) (mask : Fin 16)
  /-- SVC_RESTART (R539). A write of SEC.SVC_CTL.RESTART restarts halted drones with ENTRY SERVICE. -/
  | svcRestart (ini : Initiator) (mask : Fin 16)
  /-- TAP_EXTEST (R541). TAP boundary-scan EXTEST, where its gate allows it. -/
  | tapExtest (data : List Bool)
  /-- TAP_SAMPLE_PRELOAD (R541). TAP SAMPLE/PRELOAD. -/
  | tapSamplePreload (data : List Bool)
  /-- TAP_IDCODE (R541). TAP IDCODE shifts out SYS.IDCODE. -/
  | tapIdcode
  /-- TAP_BYPASS (R541). TAP BYPASS. -/
  | tapBypass (bit : Bool)
  /-- CH_STATUS (R541). The TAP returns the mode, SEC status and unlock status. -/
  | chStatus
  /-- CH_CHALLENGE (R542). The TAP returns a fresh unlock challenge with SERIAL and IDCODE. -/
  | chChallenge
  /-- CH_UNLOCK (R542). A signed TAP unlock grants the TAP SERVICE, or fails and spends the challenge. -/
  | chUnlock (t : Nat) (data : List (BitVec 8))
  /-- CH_SPINE (R542). The TAP issues one spine read or write. -/
  | chSpine (t : Nat) (cmd : Fin 16) (addr : BitVec 32) (data : BitVec 32)
  /-- CH_RELOCK (R540). The TAP holder gives up SERVICE. -/
  | chRelock
  /-- CH_SCAN (R541). Torush production scan, in VENDOR only. -/
  | chScan
  /-- TAP_SERVICE_IDLE (R540). A TAP holder with no CH_SPINE access for 5 s loses SERVICE. -/
  | tapServiceIdle (t : Nat)
  /-- CHALLENGE_NEW (R549). A write of SEC.CHAL_CTL.NEW draws a new provisioning challenge. -/
  | challengeNew (ini : Initiator)
  /-- PROV_GO (R547). A write of SEC.PROV_CTL.GO checks the provisioning record in order and applies its operation. -/
  | provGo (ini : Initiator) (t : Nat) (fwp : Bool)
  /-- ADD_ROOT (R546). Program an empty root key slot. -/
  | addRoot (t : Nat) (badWord : Option Nat)
  /-- REVOKE_ROOT (R546). Revoke a root key slot. -/
  | revokeRoot (t : Nat) (badWord : Option Nat)
  /-- SET_FLEET (R546). Decrypt and program the fleet key. -/
  | setFleet (t : Nat) (badWord : Option Nat)
  /-- LOCK (R546). Move the lifecycle from OPEN to LOCKED. -/
  | lock (t : Nat) (badWord : Option Nat)
  /-- SCRAP (R546). Move the lifecycle to SCRAPPED. -/
  | scrap (t : Nat) (badWord : Option Nat)
  /-- PROV_RELEASE (R546). Move the lifecycle from VENDOR to OPEN. -/
  | provRelease (t : Nat) (badWord : Option Nat)
  /-- PROV_END (R548). A write of SEC.PROV_CTL.END ends PROVISION with RESET, cause LIFECYCLE. -/
  | provEnd (ini : Initiator)
  /-- PROV_ABANDON (R548). 30 s after the last GO without an END, PROVISION is abandoned to RESET. -/
  | provAbandon (t : Nat)
  /-- ATTEST_GO (R543). A write of SEC.ATT_CTL.GO starts building a signed attestation report. -/
  | attestGo (ini : Initiator) (t : Nat)
  /-- ATTEST_DONE (R543). The report is complete, READY is set, and source 890 is raised. -/
  | attestDone (t : Nat)
  /-- OUT_SET (R565). A write of GPIO.OUT_SETk sets OUT bits. -/
  | outSet (ini : Initiator) (k : Fin 8) (value : BitVec 32)
  /-- OUT_CLR (R565). A write of GPIO.OUT_CLRk clears OUT bits. -/
  | outClr (ini : Initiator) (k : Fin 8) (value : BitVec 32)
  /-- OUT_TGL (R565). A write of GPIO.OUT_TGLk inverts OUT bits. -/
  | outTgl (ini : Initiator) (k : Fin 8) (value : BitVec 32)
  /-- GP_CFG_WRITE (R567). A write of GPIO.GPn_CFG changes the pin function and restarts its filter. -/
  | gpCfgWrite (ini : Initiator) (n : Fin 128) (value : BitVec 32)
  /-- GPIO_INPUT_CHANGE (R566). An accepted input change updates INk, the pin interrupt and any capture timer. -/
  | gpioInputChange (n : Fin 128) (t : Nat) (level : Bool) (samples : Nat) (word : Fin 256)
  /-- CAP_TIME_READ (R570). A read of GPIO.CAPk_TIME removes the oldest capture entry. -/
  | capTimeRead (ini : Initiator) (k : Fin 8)
  /-- PORT_TX_WRITE (R561). A write of GPIO.PORTk_TX queues UART or SPI data, or is refused when the FIFO is full. -/
  | portTxWrite (ini : Initiator) (k : Fin 8) (value : BitVec 32)
  /-- I2C_START (R570). Queue an I²C START condition. -/
  | i2cStart (ini : Initiator) (k : Fin 8)
  /-- I2C_WRITE (R570). Queue an I²C byte write. -/
  | i2cWrite (ini : Initiator) (k : Fin 8) (data : BitVec 8)
  /-- I2C_READ_ACK (R570). Queue an I²C byte read with ACK. -/
  | i2cReadAck (ini : Initiator) (k : Fin 8)
  /-- I2C_READ_NACK (R570). Queue an I²C byte read with NACK. -/
  | i2cReadNack (ini : Initiator) (k : Fin 8)
  /-- I2C_STOP (R570). Queue an I²C STOP condition. -/
  | i2cStop (ini : Initiator) (k : Fin 8)
  /-- PORT_TRANSFER_DONE (R561). A serial port finishes a byte or condition, and updates its FIFOs, status and events. -/
  | portTransferDone (k : Fin 8) (t : Nat) (d : PortDone)
  /-- PORT_RX_READ (R570). A read of GPIO.PORTk_RX removes the received entry. -/
  | portRxRead (ini : Initiator) (k : Fin 8)
  /-- PWM_WRITE (R562). A write of GPIO.PWMk sets period and high time from the next period start. -/
  | pwmWrite (ini : Initiator) (k : Fin 8) (value : BitVec 32)
  /-- RECEIVER_PAIR_LOSS (R55). A shaft receiver pair that goes open or shorted sets LOSS in WHEEL.SHx_STAT and raises the tracker's fault source. -/
  | receiverPairLoss (x : Fin 2) (lost : Bool)
  /-- OVERVOLTAGE_RELEASE (R432). VIN falling back through 19.0 V after an overvoltage stop allows the rail start-up sequence again. -/
  | overvoltageRelease (t : Nat)
  /-- THERMAL_STOP_RELEASE (R432). The bellows die falling through 115 °C after a thermal stop releases the hold-off and lets the rails start up. -/
  | thermalStopRelease (t : Nat)
  /-- RIM_CAPTURE_EDGE (R330). A rising edge of the north rim CAPTURE signal with SRC_RIM = 1 requests a fabric state capture. -/
  | rimCaptureEdge (m : Nat)
  /-- UNLOCKED (R542). SEC completes its check of a TAP unlock, raises source 889 and gives the TAP SERVICE within 2.5 ms. -/
  | unlocked (t : Nat)
deriving DecidableEq, Repr

end Sys2Proof
end

