-- ==== Sys2Proof/Machine/Bytes.lean ====
section
/-! DEFINITION. Sys2Proof/Machine/Bytes.lean: byte strings and CRC-32C (R3, R189). Bytes are numbers below 256. -/
namespace Sys2Proof.Machine

/-- One bit of CRC-32C, reflected form of polynomial 0x1EDC_6F41. -/
def crcBit (c : BitVec 32) : BitVec 32 := if c.getLsbD 0 then (c >>> 1) ^^^ 0x82F63B78#32 else c >>> 1

/-- One byte of CRC-32C. -/
def crcByte (c : BitVec 32) (b : Nat) : BitVec 32 :=
  (List.range 8).foldl (fun x _ => crcBit x) (c ^^^ BitVec.ofNat 32 (b % 256))

/-- The bytes of a string into the remainder `c`, one after the other. The remainder is spelt out at each byte, so that a long string can be
evaluated byte by byte. -/
def crcBytes : List Nat → Nat → Nat
  | [], c => c
  | b :: r, c => match (crcByte (BitVec.ofNat 32 c) b).toNat with
    | 0 => crcBytes r 0
    | n + 1 => crcBytes r (n + 1)

/-- CRC-32C of RFC 3720 over bytes in order (R189). -/
def crc32c (l : List Nat) : BitVec 32 := BitVec.ofNat 32 (crcBytes l 0xFFFFFFFF) ^^^ 0xFFFFFFFF#32

/-- The `n` bytes of `v`, most significant first. -/
def bytesBE (n v : Nat) : List Nat := ((List.range n).map fun i => v / 2 ^ (8 * i) % 256).reverse

/-- The `n` bytes of `v`, least significant first (R3). -/
def bytesLE (n v : Nat) : List Nat := (List.range n).map fun i => v / 2 ^ (8 * i) % 256

/-- The number a list of bytes spells, least significant first. -/
def numLE (l : List Nat) : Nat := l.foldr (fun b a => a * 256 + b % 256) 0

/-- The number a list of bytes spells, most significant first. -/
def numBE (l : List Nat) : Nat := l.foldl (fun a b => a * 256 + b % 256) 0

/-- `n` zero bytes. -/
def zeros (n : Nat) : List Nat := List.replicate n 0

/-- `n` bytes of a string from byte `i`. -/
def slice (l : List Nat) (i n : Nat) : List Nat := (l.drop i).take n

/-- The number spelt by `n` bytes from byte `i`, most significant first. -/
def fieldBE (l : List Nat) (i n : Nat) : Nat := numBE (slice l i n)

/-- The number spelt by `n` bytes from byte `i`, least significant first. -/
def fieldLE (l : List Nat) (i n : Nat) : Nat := numLE (slice l i n)

end Sys2Proof.Machine
end

