-- ==== Sys2Proof/Machine/Code8b10b.lean ====
section
/-! DEFINITION. Sys2Proof/Machine/Code8b10b.lean: the 8b/10b code groups of a strand lane (R184, R185; the tables of IEEE 802.3 Clause 36, log
entry 13). A code group is its ten bits abcdei fghj as a number, bit a, which is sent first, most significant; a running disparity is `true`
when it is positive. -/
namespace Sys2Proof.Machine

/-- The sub-blocks abcdei of D0-D31 and, as number 32, of K28 at negative running disparity. -/
def sixNeg : List Nat :=
  [0x27, 0x1D, 0x2D, 0x31, 0x35, 0x29, 0x19, 0x38, 0x39, 0x25, 0x15, 0x34, 0x0D, 0x2C, 0x1C, 0x17,
   0x1B, 0x23, 0x13, 0x32, 0x0B, 0x2A, 0x1A, 0x3A, 0x33, 0x26, 0x16, 0x36, 0x0E, 0x2E, 0x1E, 0x2B] ++ [0x0F]

/-- The number of 1s among the `w` low bits of `n`. -/
def onesIn (w n : Nat) : Nat := ((List.range w).filter fun i => n.testBit i).length

/-- The sub-block abcdei of number `x`: at positive running disparity an unbalanced one, and that of D7, is complemented. -/
def six (pos : Bool) (x : Nat) : Nat :=
  let v := sixNeg.getD x 0
  if pos = true ∧ (onesIn 6 v ≠ 3 ∨ x = 7) then 63 - v else v

/-- The sub-blocks fghj of Dx.0 to Dx.7 at negative running disparity. -/
def fourNeg : List Nat := [0xB, 0x9, 0x5, 0xC, 0xD, 0xA, 0x6, 0xE]

/-- The sub-blocks fghj of K28.0 to K28.7 at negative running disparity. -/
def fourNegK : List Nat := [0xB, 0x6, 0xA, 0xC, 0xD, 0x5, 0x9, 0x7]

/-- The sub-block fghj of data number `y` after D`x`: Dx.A7 in place of Dx.P7 where the bits would run too long. -/
def four (pos : Bool) (x y : Nat) : Nat :=
  let v := if y = 7 ∧ (if pos then [11, 13, 14] else [17, 18, 20]).contains x = true then 0x7 else fourNeg.getD y 0
  if pos = true ∧ (onesIn 4 v ≠ 2 ∨ y = 3) then 15 - v else v

/-- The sub-block fghj of a control code: every form is complemented at positive running disparity. -/
def fourK (pos : Bool) (y : Nat) : Nat := if pos then 15 - fourNegK.getD y 0 else fourNegK.getD y 0

/-- The running disparity after a sub-block of `w` bits: the sign of its surplus of 1s; of the balanced ones, those that begin or end in a run
of equal bits set it too. -/
def afterSub (w v : Nat) (pos : Bool) : Bool :=
  if w < 2 * onesIn w v then true
  else if 2 * onesIn w v < w then false
  else if v + 1 = 2 ^ (w / 2) then true
  else if v + 2 ^ (w / 2) = 2 ^ w then false
  else pos

/-- The code group of byte `b`; `k` = a control code. -/
def codeGroup (pos k : Bool) (b : Nat) : Nat :=
  let x := if k = true ∧ b % 32 = 28 then 32 else b % 32
  let s := six pos x
  let p := afterSub 6 s pos
  s * 16 + if k then fourK p (b / 32) else four p x (b / 32)

/-- The running disparity after a code group. -/
def afterGroup (g : Nat) (pos : Bool) : Bool := afterSub 4 (g % 16) (afterSub 6 (g / 16) pos)

/-- The control codes: K28.0 to K28.7, K23.7, K27.7, K29.7, K30.7. -/
def controlCodes : List Nat := [0x1C, 0x3C, 0x5C, 0x7C, 0x9C, 0xBC, 0xDC, 0xFC, 0xF7, 0xFB, 0xFD, 0xFE]

/-- The code group that a receiver reads at running disparity `pos`: whether it is a control code, and its byte. None where the tables hold
it at neither disparity, or only at the other: a running-disparity error (R185). -/
def readGroup (pos : Bool) (g : Nat) : Option (Bool × Nat) :=
  match (List.range 32).find? fun x => six pos x == g / 16 with
  | some x =>
    match (List.range 8).find? fun y => codeGroup pos false (x + 32 * y) == g with
    | some y => some (false, x + 32 * y)
    | none => (controlCodes.find? fun b => codeGroup pos true b == g).map fun b => (true, b)
  | none => (controlCodes.find? fun b => codeGroup pos true b == g).map fun b => (true, b)

/-- The code groups of a frame whose byte 0 is K28.5 and whose others are data, and the running disparity after it (R184). -/
def codeFrame (pos : Bool) : List Nat → List Nat × Bool
  | [] => ([], pos)
  | b :: r =>
    let g0 := codeGroup pos true b
    r.foldl (fun a d => let g := codeGroup a.2 false d; (a.1 ++ [g], afterGroup g a.2)) ([g0], afterGroup g0 pos)

/-- The data bytes of code groups and the running disparity after them; none where one is no data group at its disparity. -/
def readData : Bool → List Nat → Option (List Nat × Bool)
  | pos, [] => some ([], pos)
  | pos, g :: r =>
    match readGroup pos g with
    | some (false, b) => (readData (afterGroup g pos) r).map fun x => (b :: x.1, x.2)
    | _ => none

/-- A frame of 64 code groups as a receiver takes it: its bytes and the running disparity after it; none = the frame is invalid (R185). A
receiver without a running disparity takes that of the K28.5 to which it aligns. -/
def readFrame (rx : Option Bool) (l : List Nat) : Option (List Nat × Bool) :=
  match l with
  | [] => none
  | g :: r =>
    let pos := rx.getD (g == codeGroup true true 0xBC)
    if r.length = 63 ∧ g = codeGroup pos true 0xBC then (readData (afterGroup g pos) r).map fun x => (0xBC :: x.1, x.2) else none

end Sys2Proof.Machine
end

