-- ==== Sys2Proof/Config.lean ====
section
/-! DEFINITION. Sys2Proof/Config.lean: the values the spec leaves open. Each is an opaque constant: it has no body, so
no proof can use a particular value of it, and a claim about the machine holds whatever it is. -/
namespace Sys2Proof

/-- The n-th free value: a value the spec does not state, drawn by a step from `State.free` (log entry 3). -/
opaque Config.freeValue : Nat → BitVec 64

/-- Whether an entry returned to the wheel's free list (R81) is the next to be reused or the last (log entry 9). -/
opaque Config.freedEntryFirst : Bool

/-- Whether an entry added to a notify FIFO that already holds entries raises source 681: R94 raises it with each entry, R96 as the FIFO
becomes non-empty (log entry 36). -/
opaque Config.notifyEachEntry : Bool

/-! The cryptographic functions that the spec names and does not define (log entry 20). Byte strings are lists of numbers. -/

/-- SHA-384. -/
opaque Config.sha384 : List Nat → List Nat

/-- AES-256-GCM encryption: key, nonce, additional data, plaintext; ciphertext followed by the 16-byte tag. -/
opaque Config.gcmSeal : List Nat → List Nat → List Nat → List Nat → List Nat

/-- AES-256-GCM decryption: key, nonce, additional data, ciphertext followed by its tag; none when the tag fails. -/
opaque Config.gcmOpen : List Nat → List Nat → List Nat → List Nat → Option (List Nat)

/-- AES-256 key unwrap or segment decryption under a key, for the streams of R371: key, nonce, ciphertext. -/
opaque Config.aesCtr : List Nat → List Nat → List Nat → List Nat

/-- P-384: the uncompressed public point of a scalar. -/
opaque Config.ecPublic : List Nat → List Nat

/-- P-384: whether bytes are an uncompressed point of the curve. -/
opaque Config.onCurve : List Nat → Bool

/-- P-384: x coordinate of the product of a scalar and a point. -/
opaque Config.ecdhX : List Nat → List Nat → List Nat

/-- ECDSA P-384 signature by a scalar over a hash, with a random number. -/
opaque Config.ecdsaSign : List Nat → List Nat → Nat → List Nat

/-- Whether an ECDSA P-384 signature of a public key over a hash verifies. -/
opaque Config.ecdsaVerify : List Nat → List Nat → List Nat → Bool

/-- The subject key of an X.509 certificate in DER, none outside the subset of R535. -/
opaque Config.certKey : List Nat → Option (List Nat)

/-- Whether a certificate is signed by a public key. -/
opaque Config.certSigned : List Nat → List Nat → Bool

/-- Torush's production public key hash, fixed in SEC (R533). -/
opaque Config.productionHash : List Nat

end Sys2Proof
end

