-- ==== Sys2Proof/Machine/Grid.lean ====
section
/-! DEFINITION. Sys2Proof/Machine/Grid.lean: the grid code (R495-R497, R502). -/
namespace Sys2Proof.Machine

/-- The exclusive-or of a list of bits. -/
def xorBits (l : List Bool) : Bool := l.foldl (fun a b => a != b) false

/-- Row parity RP[i]: data bits [8i+7 : 8i] (R495). -/
def rowParity (d : BitVec 64) (i : Nat) : Bool := xorBits ((List.range 8).map fun j => d.getLsbD (8 * i + j))

/-- Column parity CP[j]: data bits j, j + 8, ..., j + 56 (R495). -/
def colParity (d : BitVec 64) (j : Nat) : Bool := xorBits ((List.range 8).map fun i => d.getLsbD (8 * i + j))

/-- The eight bits given by `f`, bit i at weight 2^i. -/
def octet (f : Nat → Bool) : BitVec 8 :=
  BitVec.ofNat 8 ((List.range 8).foldl (fun a i => if f i then a + 2 ^ i else a) 0)

/-- The stored word of data `d`: data in [63:0], RP in [71:64], CP in [79:72] (R495). -/
def gridEncode (d : BitVec 64) : BitVec 80 := octet (colParity d) ++ octet (rowParity d) ++ d

/-- The unwritten pattern: data 0 and all 16 check bits 1 (R502). -/
def gridUnwritten : BitVec 80 := BitVec.ofNat 80 (0xFFFF * 2 ^ 64)

/-- What the syndromes say of a stored word (R496). -/
inductive GridClass where
  | clean
  | dataBit (i j : Nat)
  | rowBit (i : Nat)
  | colBit (j : Nat)
  | uncorrectable
deriving DecidableEq, Repr

/-- The rows whose stored and recomputed parity differ: the row syndrome sr. -/
def gridRows (w : BitVec 80) : List Nat :=
  (List.range 8).filter fun i => w.getLsbD (64 + i) != rowParity (w.truncate 64) i

/-- The columns whose stored and recomputed parity differ: the column syndrome sc. -/
def gridCols (w : BitVec 80) : List Nat :=
  (List.range 8).filter fun j => w.getLsbD (72 + j) != colParity (w.truncate 64) j

/-- The classification of R496. -/
def gridClassify (w : BitVec 80) : GridClass :=
  match gridRows w, gridCols w with
  | [], [] => .clean
  | [i], [j] => .dataBit i j
  | [i], [] => .rowBit i
  | [], [j] => .colBit j
  | _, _ => .uncorrectable

/-- The data a read delivers; none when the word is uncorrectable (R496, R499). -/
def gridData (w : BitVec 80) : Option (BitVec 64) :=
  match gridClassify w with
  | .uncorrectable => none
  | .dataBit i j => some (w.truncate 64 ^^^ BitVec.ofNat 64 (2 ^ (8 * i + j)))
  | _ => some (w.truncate 64)

/-- Bits [hi:lo] of a 64-bit word. -/
def dbits (w : BitVec 64) (hi lo : Nat) : Nat := w.toNat / 2 ^ lo % 2 ^ (hi + 1 - lo)

/-- `w` with bits [hi:lo] replaced. -/
def setDbits (w : BitVec 64) (hi lo v : Nat) : BitVec 64 :=
  (w &&& ~~~ (BitVec.ofNat 64 ((2 ^ (hi + 1 - lo) - 1) * 2 ^ lo))) ||| BitVec.ofNat 64 (v % 2 ^ (hi + 1 - lo) * 2 ^ lo)

end Sys2Proof.Machine
end

