-- ==== Sys2Proof/Machine/RegTypes.lean ====
section
/-! DEFINITION. Sys2Proof/Machine/RegTypes.lean: what a register list of the spec gives a register (R4-R8): its fields,
their access codes, the values a write may set, the reset value and the bits loaded from the image or from OTP. -/
namespace Sys2Proof.Machine

/-- The access codes of R5. -/
inductive Acc where
  | rw | ro | wo | w1c | w1s | rc
deriving DecidableEq, Repr

/-- The values a write may set in a field; every other value is a reserved encoding (R8). -/
inductive Legal where
  | any
  | range (lo hi : Nat)
  | not (n : Nat)
deriving DecidableEq, Repr

/-- A field of a register: bits [hi:lo], access code, legal values. -/
structure FieldDesc where
  hi : Nat
  lo : Nat
  acc : Acc
  legal : Legal
deriving DecidableEq, Repr

/-- A row of a register list: the register at block offset `off + s1 × i + s2 × j`, i < n1, j < n2, i not in `skip`. -/
structure RegDesc where
  name : String
  off : Nat
  s1 : Nat
  n1 : Nat
  s2 : Nat
  n2 : Nat
  skip : List Nat
  reset : Nat
  img : Nat
  otp : Nat
  fields : List FieldDesc
deriving DecidableEq, Repr

/-- A field at its spine address. -/
structure FieldAt where
  addr : Nat
  hi : Nat
  lo : Nat
deriving DecidableEq, Repr

/-- Whether a write may set value `v` (R8). -/
def Legal.ok (l : Legal) (v : Nat) : Bool :=
  match l with
  | .any => true
  | .range lo hi => decide (lo ≤ v) && decide (v ≤ hi)
  | .not n => decide (v ≠ n)

/-- Bits [hi:lo] of a word (R2). -/
def bitsOf (w : Word) (hi lo : Nat) : Nat := w.toNat / 2 ^ lo % 2 ^ (hi + 1 - lo)

/-- The word with ones in bits [hi:lo]. -/
def maskOf (hi lo : Nat) : Word := BitVec.ofNat 32 ((2 ^ (hi + 1 - lo) - 1) * 2 ^ lo)

/-- `w` with bits [hi:lo] replaced by the low bits of `v`. -/
def setBitsOf (w : Word) (hi lo v : Nat) : Word :=
  (w &&& ~~~ (maskOf hi lo)) ||| BitVec.ofNat 32 (v % 2 ^ (hi + 1 - lo) * 2 ^ lo)

/-- The bits of a register that its fields define; the others are reserved and read 0 (R7). -/
def RegDesc.mask (r : RegDesc) : Word := r.fields.foldl (fun m f => m ||| maskOf f.hi f.lo) 0

/-- The indices (i, j) at which row `r` puts a register at block offset `o`. -/
def RegDesc.at? (r : RegDesc) (o : Nat) : Option (Nat × Nat) :=
  if o < r.off then none
  else
    let d := o - r.off
    let i := if r.s1 = 0 then 0 else d / r.s1
    let e := d - i * r.s1
    let j := if r.s2 = 0 then 0 else e / r.s2
    if e = j * r.s2 ∧ i < r.n1 ∧ j < r.n2 ∧ i ∉ r.skip then some (i, j) else none

end Sys2Proof.Machine
end

