-- ==== Sys2Proof/Machine/RegMap.lean ====
section
/-! DEFINITION. Sys2Proof/Machine/RegMap.lean: the spine register map (R11, R15, R56, R97, R134, R219, R249, R294-R296,
R340, R363, R396, R428, R430, R448, R469, R492, R494, R489, R509, R525, R549, R570), one row per register of the
spec's register lists, with the fields of its field tables. `R.X` is the spine address of a register, `F.X_Y` its
field Y. Index arguments: tracker, domain, port, lane, ... as the spec's own letters. -/
namespace Sys2Proof.Machine

/-- Register list of the SYS block. -/
def regsSys : List RegDesc := [
  { name := "SYS.IDCODE", off := 0x0000, s1 := 0x0, n1 := 1, s2 := 0x0, n2 := 1, skip := [], reset := 0x16128001, img := 0x0, otp := 0x0,
    fields := [⟨31,28,.ro,.any⟩, ⟨27,12,.ro,.any⟩, ⟨11,1,.ro,.any⟩, ⟨0,0,.ro,.any⟩] },
  { name := "SYS.MODE", off := 0x0010, s1 := 0x0, n1 := 1, s2 := 0x0, n2 := 1, skip := [], reset := 0x1, img := 0x0, otp := 0x0,
    fields := [⟨16,16,.ro,.any⟩, ⟨15,8,.ro,.any⟩, ⟨7,4,.ro,.any⟩, ⟨3,0,.ro,.any⟩] },
  { name := "SYS.MODE_CTL", off := 0x0014, s1 := 0x0, n1 := 1, s2 := 0x0, n2 := 1, skip := [], reset := 0x0, img := 0x0, otp := 0x0,
    fields := [⟨15,8,.wo,.any⟩, ⟨3,0,.wo,.any⟩] },
  { name := "SYS.MODE_STAT", off := 0x0018, s1 := 0x0, n1 := 1, s2 := 0x0, n2 := 1, skip := [], reset := 0x0, img := 0x0, otp := 0x0,
    fields := [⟨7,4,.ro,.any⟩, ⟨0,0,.w1c,.any⟩] },
  { name := "SYS.SPARED", off := 0x001C, s1 := 0x0, n1 := 1, s2 := 0x0, n2 := 1, skip := [], reset := 0x0, img := 0x0, otp := 0x0,
    fields := [⟨8,8,.ro,.any⟩, ⟨7,7,.ro,.any⟩, ⟨6,6,.ro,.any⟩, ⟨5,5,.ro,.any⟩, ⟨4,4,.ro,.any⟩, ⟨3,0,.ro,.any⟩] },
  { name := "SYS.HOLD_CAUSES", off := 0x0020, s1 := 0x0, n1 := 1, s2 := 0x0, n2 := 1, skip := [], reset := 0x0, img := 0x0, otp := 0x0,
    fields := [⟨6,6,.ro,.any⟩, ⟨5,5,.ro,.any⟩, ⟨4,4,.ro,.any⟩, ⟨3,3,.ro,.any⟩, ⟨2,2,.ro,.any⟩, ⟨1,1,.ro,.any⟩, ⟨0,0,.ro,.any⟩] }]

/-- Register list of the WHEEL block, part 0. -/
def regsWheel0 : List RegDesc := [
  { name := "WHEEL.SH_CFG", off := 0x0000, s1 := 0x40, n1 := 2, s2 := 0x0, n2 := 1, skip := [], reset := 0x0, img := 0xFFF00000, otp := 0x0,
    fields := [⟨31,30,.rw,.any⟩, ⟨29,28,.rw,(.not 3)⟩, ⟨27,26,.rw,.any⟩, ⟨25,25,.rw,.any⟩, ⟨24,24,.rw,.any⟩, ⟨23,20,.rw,.any⟩] },
  { name := "WHEEL.SH_EDGES", off := 0x0004, s1 := 0x40, n1 := 2, s2 := 0x0, n2 := 1, skip := [], reset := 0x0, img := 0x7FFFF, otp := 0x0,
    fields := [⟨18,0,.rw,(.range 16 262144)⟩] },
  { name := "WHEEL.SH_SSI", off := 0x0008, s1 := 0x40, n1 := 2, s2 := 0x0, n2 := 1, skip := [], reset := 0x0, img := 0xFFFFFFFF, otp := 0x0,
    fields := [⟨31,22,.rw,(.range 1 1000)⟩, ⟨21,16,.rw,(.range 10 32)⟩, ⟨15,11,.rw,(.range 10 24)⟩, ⟨10,6,.rw,(.range 0 22)⟩, ⟨5,5,.rw,.any⟩, ⟨4,0,.rw,.any⟩] },
  { name := "WHEEL.SH_ZERO", off := 0x000C, s1 := 0x40, n1 := 2, s2 := 0x0, n2 := 1, skip := [], reset := 0x0, img := 0xFFFFFF, otp := 0x0,
    fields := [⟨23,0,.rw,.any⟩] },
  { name := "WHEEL.SH_ANGLE", off := 0x0010, s1 := 0x40, n1 := 2, s2 := 0x0, n2 := 1, skip := [], reset := 0x0, img := 0x0, otp := 0x0,
    fields := [⟨26,26,.ro,.any⟩, ⟨25,25,.ro,.any⟩, ⟨24,24,.ro,.any⟩, ⟨23,0,.ro,.any⟩] },
  { name := "WHEEL.SH_REV", off := 0x0014, s1 := 0x40, n1 := 2, s2 := 0x0, n2 := 1, skip := [], reset := 0x0, img := 0x0, otp := 0x0,
    fields := [⟨31,0,.ro,.any⟩] },
  { name := "WHEEL.SH_SPEED", off := 0x0018, s1 := 0x40, n1 := 2, s2 := 0x0, n2 := 1, skip := [], reset := 0x0, img := 0x0, otp := 0x0,
    fields := [⟨31,0,.ro,.any⟩] },
  { name := "WHEEL.SH_ACCEL", off := 0x001C, s1 := 0x40, n1 := 2, s2 := 0x0, n2 := 1, skip := [], reset := 0x0, img := 0x0, otp := 0x0,
    fields := [⟨31,0,.ro,.any⟩] },
  { name := "WHEEL.SH_EDGE_TIME", off := 0x0020, s1 := 0x40, n1 := 2, s2 := 0x0, n2 := 1, skip := [], reset := 0x0, img := 0x0, otp := 0x0,
    fields := [⟨31,0,.ro,.any⟩] },
  { name := "WHEEL.SH_STAT", off := 0x0024, s1 := 0x40, n1 := 2, s2 := 0x0, n2 := 1, skip := [], reset := 0x0, img := 0x0, otp := 0x0,
    fields := [⟨7,7,.w1c,.any⟩, ⟨6,6,.w1c,.any⟩, ⟨5,5,.w1c,.any⟩, ⟨4,4,.w1c,.any⟩, ⟨3,3,.w1c,.any⟩, ⟨2,2,.w1c,.any⟩, ⟨1,1,.w1c,.any⟩, ⟨0,0,.w1c,.any⟩] },
  { name := "WHEEL.SH_QUAD_ERR", off := 0x0028, s1 := 0x40, n1 := 2, s2 := 0x0, n2 := 1, skip := [], reset := 0x0, img := 0x0, otp := 0x0,
    fields := [⟨31,0,.rc,.any⟩] },
  { name := "WHEEL.SH_INDEX_SLIP", off := 0x002C, s1 := 0x40, n1 := 2, s2 := 0x0, n2 := 1, skip := [], reset := 0x0, img := 0x0, otp := 0x0,
    fields := [⟨31,0,.rc,.any⟩] }]

/-- Register list of the WHEEL block, part 1. -/
def regsWheel1 : List RegDesc := [
  { name := "WHEEL.SH_STALL", off := 0x0030, s1 := 0x40, n1 := 2, s2 := 0x0, n2 := 1, skip := [], reset := 0x0, img := 0xFFFF, otp := 0x0,
    fields := [⟨15,0,.rw,(.range 1 65535)⟩] },
  { name := "WHEEL.SH_SSI_DISCARD", off := 0x0034, s1 := 0x40, n1 := 2, s2 := 0x0, n2 := 1, skip := [], reset := 0x0, img := 0x0, otp := 0x0,
    fields := [⟨31,0,.rc,.any⟩] },
  { name := "WHEEL.TIME_LO", off := 0x0080, s1 := 0x0, n1 := 1, s2 := 0x0, n2 := 1, skip := [], reset := 0x0, img := 0x0, otp := 0x0,
    fields := [⟨31,0,.ro,.any⟩] },
  { name := "WHEEL.TIME_HI", off := 0x0084, s1 := 0x0, n1 := 1, s2 := 0x0, n2 := 1, skip := [], reset := 0x0, img := 0x0, otp := 0x0,
    fields := [⟨31,0,.ro,.any⟩] },
  { name := "WHEEL.DOM_CTL", off := 0x0100, s1 := 0x20, n1 := 3, s2 := 0x0, n2 := 1, skip := [], reset := 0x0, img := 0x7FFFFFF, otp := 0x0,
    fields := [⟨31,31,.wo,.any⟩, ⟨26,16,.rw,.any⟩, ⟨15,0,.rw,.any⟩] },
  { name := "WHEEL.DOM_LP", off := 0x0104, s1 := 0x20, n1 := 3, s2 := 0x0, n2 := 1, skip := [], reset := 0x0, img := 0x0, otp := 0x0,
    fields := [⟨23,12,.ro,.any⟩, ⟨11,0,.ro,.any⟩] },
  { name := "WHEEL.DOM_HW", off := 0x0108, s1 := 0x20, n1 := 3, s2 := 0x0, n2 := 1, skip := [], reset := 0x0, img := 0x0, otp := 0x0,
    fields := [⟨31,12,.ro,.any⟩, ⟨11,0,.ro,.any⟩] },
  { name := "WHEEL.DOM_DRAINED", off := 0x010C, s1 := 0x20, n1 := 3, s2 := 0x0, n2 := 1, skip := [], reset := 0x0, img := 0x0, otp := 0x0,
    fields := [⟨31,0,.ro,.any⟩] },
  { name := "WHEEL.DOM_SKIPPED", off := 0x0110, s1 := 0x20, n1 := 3, s2 := 0x0, n2 := 1, skip := [], reset := 0x0, img := 0x0, otp := 0x0,
    fields := [⟨31,0,.rc,.any⟩] },
  { name := "WHEEL.DOM_DRAIN_LAG", off := 0x0114, s1 := 0x20, n1 := 3, s2 := 0x0, n2 := 1, skip := [], reset := 0x0, img := 0x0, otp := 0x0,
    fields := [⟨31,0,.rc,.any⟩] },
  { name := "WHEEL.DOM_LEAD", off := 0x0118, s1 := 0x20, n1 := 3, s2 := 0x0, n2 := 1, skip := [], reset := 0x0, img := 0x0, otp := 0x0,
    fields := [⟨31,0,.ro,.any⟩] },
  { name := "WHEEL.T_CFG", off := 0x0160, s1 := 0x0, n1 := 1, s2 := 0x0, n2 := 1, skip := [], reset := 0x0, img := 0xC007FFFF, otp := 0x0,
    fields := [⟨31,31,.rw,.any⟩, ⟨30,30,.rw,.any⟩, ⟨18,0,.rw,(.range 400 400000)⟩] }]

/-- Register list of the WHEEL block, part 2. -/
def regsWheel2 : List RegDesc := [
  { name := "WHEEL.T_ANGLE", off := 0x0164, s1 := 0x0, n1 := 1, s2 := 0x0, n2 := 1, skip := [], reset := 0x0, img := 0x0, otp := 0x0,
    fields := [⟨31,0,.ro,.any⟩] },
  { name := "WHEEL.T_REV", off := 0x0168, s1 := 0x0, n1 := 1, s2 := 0x0, n2 := 1, skip := [], reset := 0x0, img := 0x0, otp := 0x0,
    fields := [⟨31,0,.ro,.any⟩] },
  { name := "WHEEL.LANE_DOM", off := 0x0200, s1 := 0x4, n1 := 16, s2 := 0x0, n2 := 1, skip := [], reset := 0x0, img := 0xFFFFFFFF, otp := 0x0,
    fields := [⟨31,0,.rw,.any⟩] },
  { name := "WHEEL.CTL", off := 0x0300, s1 := 0x0, n1 := 1, s2 := 0x0, n2 := 1, skip := [], reset := 0x0, img := 0x0, otp := 0x0,
    fields := [⟨0,0,.w1s,.any⟩] },
  { name := "WHEEL.STAT", off := 0x0304, s1 := 0x0, n1 := 1, s2 := 0x0, n2 := 1, skip := [], reset := 0x0, img := 0x0, otp := 0x0,
    fields := [⟨3,3,.w1c,.any⟩, ⟨2,2,.w1c,.any⟩, ⟨1,1,.w1c,.any⟩, ⟨0,0,.ro,.any⟩] },
  { name := "WHEEL.POOL_FREE", off := 0x0308, s1 := 0x0, n1 := 1, s2 := 0x0, n2 := 1, skip := [], reset := 0x0, img := 0x0, otp := 0x0,
    fields := [⟨31,0,.ro,.any⟩] },
  { name := "WHEEL.POOL_IN_USE", off := 0x030C, s1 := 0x0, n1 := 1, s2 := 0x0, n2 := 1, skip := [], reset := 0x0, img := 0x0, otp := 0x0,
    fields := [⟨31,0,.ro,.any⟩] },
  { name := "WHEEL.POOL_MIN", off := 0x0310, s1 := 0x0, n1 := 1, s2 := 0x0, n2 := 1, skip := [], reset := 0x0, img := 0x0, otp := 0x0,
    fields := [⟨31,0,.rw,.any⟩] },
  { name := "WHEEL.POOL_RESERVE", off := 0x0314, s1 := 0x0, n1 := 1, s2 := 0x0, n2 := 1, skip := [], reset := 0x0, img := 0xFFFFFFFF, otp := 0x0,
    fields := [⟨31,0,.rw,.any⟩] },
  { name := "WHEEL.POOL_WARN", off := 0x0318, s1 := 0x0, n1 := 1, s2 := 0x0, n2 := 1, skip := [], reset := 0x0, img := 0xFFFFFFFF, otp := 0x0,
    fields := [⟨31,0,.rw,.any⟩] },
  { name := "WHEEL.PORT_PRIV", off := 0x031C, s1 := 0x0, n1 := 1, s2 := 0x0, n2 := 1, skip := [], reset := 0x0, img := 0xFFFFFFFF, otp := 0x0,
    fields := [⟨31,0,.rw,.any⟩] },
  { name := "WHEEL.FLUSH", off := 0x0320, s1 := 0x0, n1 := 1, s2 := 0x0, n2 := 1, skip := [], reset := 0x0, img := 0x0, otp := 0x0,
    fields := [⟨31,31,.w1s,.any⟩, ⟨30,30,.ro,.any⟩, ⟨7,0,.rw,.any⟩] }]

/-- Register list of the WHEEL block, part 3. -/
def regsWheel3 : List RegDesc := [
  { name := "WHEEL.MARK_TAG", off := 0x0324, s1 := 0x0, n1 := 1, s2 := 0x0, n2 := 1, skip := [], reset := 0x0, img := 0x1FF, otp := 0x0,
    fields := [⟨8,8,.rw,.any⟩, ⟨7,0,.rw,.any⟩] },
  { name := "WHEEL.POISON_ADDR", off := 0x0328, s1 := 0x0, n1 := 1, s2 := 0x0, n2 := 1, skip := [], reset := 0x0, img := 0x0, otp := 0x0,
    fields := [⟨31,0,.ro,.any⟩] },
  { name := "WHEEL.POISON_LOST", off := 0x032C, s1 := 0x0, n1 := 1, s2 := 0x0, n2 := 1, skip := [], reset := 0x0, img := 0x0, otp := 0x0,
    fields := [⟨31,0,.rc,.any⟩] },
  { name := "WHEEL.INS_ADDR", off := 0x0400, s1 := 0x0, n1 := 1, s2 := 0x0, n2 := 1, skip := [], reset := 0x0, img := 0x0, otp := 0x0,
    fields := [⟨23,16,.rw,.any⟩, ⟨11,0,.rw,.any⟩] },
  { name := "WHEEL.INS_EV_LO", off := 0x0404, s1 := 0x0, n1 := 1, s2 := 0x0, n2 := 1, skip := [], reset := 0x0, img := 0x0, otp := 0x0,
    fields := [⟨31,0,.rw,.any⟩] },
  { name := "WHEEL.INS_EV_HI", off := 0x0408, s1 := 0x0, n1 := 1, s2 := 0x0, n2 := 1, skip := [], reset := 0x0, img := 0x0, otp := 0x0,
    fields := [⟨31,0,.wo,.any⟩] },
  { name := "WHEEL.INS_STAT", off := 0x040C, s1 := 0x0, n1 := 1, s2 := 0x0, n2 := 1, skip := [], reset := 0x0, img := 0x0, otp := 0x0,
    fields := [⟨20,16,.ro,.any⟩, ⟨3,0,.ro,.any⟩] },
  { name := "WHEEL.PORT_ACCEPTED", off := 0x0500, s1 := 0x10, n1 := 28, s2 := 0x0, n2 := 1, skip := [6,7], reset := 0x0, img := 0x0, otp := 0x0,
    fields := [⟨31,0,.ro,.any⟩] },
  { name := "WHEEL.PORT_BUSY", off := 0x0504, s1 := 0x10, n1 := 28, s2 := 0x0, n2 := 1, skip := [6,7], reset := 0x0, img := 0x0, otp := 0x0,
    fields := [⟨31,0,.rc,.any⟩] },
  { name := "WHEEL.PORT_REJECTED", off := 0x0508, s1 := 0x10, n1 := 28, s2 := 0x0, n2 := 1, skip := [6,7], reset := 0x0, img := 0x0, otp := 0x0,
    fields := [⟨31,0,.rc,.any⟩] },
  { name := "WHEEL.PORT_LAST", off := 0x050C, s1 := 0x10, n1 := 28, s2 := 0x0, n2 := 1, skip := [6,7], reset := 0x0, img := 0x0, otp := 0x0,
    fields := [⟨31,28,.ro,.any⟩, ⟨27,20,.ro,.any⟩, ⟨11,0,.ro,.any⟩] },
  { name := "WHEEL.NOTIFY_A", off := 0x0700, s1 := 0x0, n1 := 1, s2 := 0x0, n2 := 1, skip := [], reset := 0x0, img := 0x0, otp := 0x0,
    fields := [⟨31,31,.ro,.any⟩, ⟨29,28,.ro,.any⟩, ⟨27,20,.ro,.any⟩, ⟨11,0,.ro,.any⟩] }]

/-- Register list of the WHEEL block, part 4. -/
def regsWheel4 : List RegDesc := [
  { name := "WHEEL.NOTIFY_B", off := 0x0704, s1 := 0x0, n1 := 1, s2 := 0x0, n2 := 1, skip := [], reset := 0x0, img := 0x0, otp := 0x0,
    fields := [⟨31,24,.rc,.any⟩, ⟨23,22,.rc,.any⟩, ⟨21,18,.rc,.any⟩, ⟨17,12,.rc,.any⟩, ⟨0,0,.rc,.any⟩] },
  { name := "WHEEL.NOTIFY_LOST", off := 0x0708, s1 := 0x0, n1 := 1, s2 := 0x0, n2 := 1, skip := [], reset := 0x0, img := 0x0, otp := 0x0,
    fields := [⟨31,0,.rc,.any⟩] }]

/-- Register list of the WHEEL block. -/
def regsWheel : List RegDesc := regsWheel0 ++ regsWheel1 ++ regsWheel2 ++ regsWheel3 ++ regsWheel4

/-- Register list of the CHT block, part 0. -/
def regsCht0 : List RegDesc := [
  { name := "CHT.INFO", off := 0x0000, s1 := 0x0, n1 := 1, s2 := 0x0, n2 := 1, skip := [], reset := 0x0, img := 0xFFFFFFFF, otp := 0x0,
    fields := [⟨31,16,.ro,.any⟩, ⟨15,0,.ro,.any⟩] },
  { name := "CHT.GRP", off := 0x0010, s1 := 0x4, n1 := 4, s2 := 0x0, n2 := 1, skip := [], reset := 0x0, img := 0x0, otp := 0x0,
    fields := [⟨9,8,.ro,.any⟩, ⟨7,7,.w1c,.any⟩, ⟨4,0,.ro,.any⟩] },
  { name := "CHT.NOTE_A", off := 0x0100, s1 := 0x0, n1 := 1, s2 := 0x0, n2 := 1, skip := [], reset := 0x0, img := 0x0, otp := 0x0,
    fields := [⟨31,31,.ro,.any⟩, ⟨27,20,.ro,.any⟩, ⟨19,16,.ro,.any⟩, ⟨11,0,.ro,.any⟩] },
  { name := "CHT.NOTE_B", off := 0x0104, s1 := 0x0, n1 := 1, s2 := 0x0, n2 := 1, skip := [], reset := 0x0, img := 0x0, otp := 0x0,
    fields := [⟨31,24,.rc,.any⟩, ⟨23,0,.rc,.any⟩] },
  { name := "CHT.NOTE_LOST", off := 0x0108, s1 := 0x0, n1 := 1, s2 := 0x0, n2 := 1, skip := [], reset := 0x0, img := 0x0, otp := 0x0,
    fields := [⟨31,0,.rc,.any⟩] },
  { name := "CHT.C_CTL", off := 0x1000, s1 := 0x40, n1 := 132, s2 := 0x0, n2 := 1, skip := [], reset := 0x0, img := 0x1FF, otp := 0x0,
    fields := [⟨31,31,.w1s,.any⟩, ⟨30,30,.w1s,.any⟩, ⟨8,0,.rw,.any⟩] },
  { name := "CHT.C_STAT", off := 0x1004, s1 := 0x40, n1 := 132, s2 := 0x0, n2 := 1, skip := [], reset := 0x0, img := 0x0, otp := 0x0,
    fields := [⟨31,29,.ro,.any⟩, ⟨23,16,.ro,.any⟩, ⟨11,10,.ro,.any⟩, ⟨8,8,.w1c,.any⟩, ⟨7,7,.w1c,.any⟩, ⟨6,6,.w1c,.any⟩, ⟨5,5,.w1c,.any⟩, ⟨4,4,.w1c,.any⟩, ⟨3,3,.w1c,.any⟩, ⟨2,2,.w1c,.any⟩, ⟨1,1,.w1c,.any⟩, ⟨0,0,.w1c,.any⟩] },
  { name := "CHT.C_MISSES", off := 0x1008, s1 := 0x40, n1 := 132, s2 := 0x0, n2 := 1, skip := [], reset := 0x0, img := 0x0, otp := 0x0,
    fields := [⟨31,0,.rc,.any⟩] },
  { name := "CHT.C_LATE", off := 0x100C, s1 := 0x40, n1 := 132, s2 := 0x0, n2 := 1, skip := [], reset := 0x0, img := 0x0, otp := 0x0,
    fields := [⟨31,0,.rc,.any⟩] },
  { name := "CHT.C_DEFERRED", off := 0x1010, s1 := 0x40, n1 := 132, s2 := 0x0, n2 := 1, skip := [], reset := 0x0, img := 0x0, otp := 0x0,
    fields := [⟨31,0,.rc,.any⟩] },
  { name := "CHT.C_DROPPED", off := 0x1014, s1 := 0x40, n1 := 132, s2 := 0x0, n2 := 1, skip := [], reset := 0x0, img := 0x0, otp := 0x0,
    fields := [⟨31,0,.rc,.any⟩] },
  { name := "CHT.C_DROP_LAST", off := 0x1018, s1 := 0x40, n1 := 132, s2 := 0x0, n2 := 1, skip := [], reset := 0x0, img := 0x0, otp := 0x0,
    fields := [⟨31,28,.ro,.any⟩, ⟨23,12,.ro,.any⟩, ⟨7,0,.ro,.any⟩] }]

/-- Register list of the CHT block, part 1. -/
def regsCht1 : List RegDesc := [
  { name := "CHT.C_DISCARD", off := 0x101C, s1 := 0x40, n1 := 132, s2 := 0x0, n2 := 1, skip := [], reset := 0x0, img := 0x0, otp := 0x0,
    fields := [⟨31,0,.rc,.any⟩] },
  { name := "CHT.C_ENVELOPE", off := 0x1020, s1 := 0x40, n1 := 132, s2 := 0x0, n2 := 1, skip := [], reset := 0x0, img := 0x0, otp := 0x0,
    fields := [⟨31,0,.rc,.any⟩] },
  { name := "CHT.C_EXC_PC", off := 0x1024, s1 := 0x40, n1 := 132, s2 := 0x0, n2 := 1, skip := [], reset := 0x0, img := 0x0, otp := 0x0,
    fields := [⟨31,0,.ro,.any⟩] },
  { name := "CHT.C_EVENTS", off := 0x1028, s1 := 0x40, n1 := 132, s2 := 0x0, n2 := 1, skip := [], reset := 0x0, img := 0x0, otp := 0x0,
    fields := [⟨31,0,.ro,.any⟩] }]

/-- Register list of the CHT block. -/
def regsCht : List RegDesc := regsCht0 ++ regsCht1

/-- Register list of the LANE block, part 0. -/
def regsLane0 : List RegDesc := [
  { name := "LANE.CFG", off := 0x0000, s1 := 0x100, n1 := 256, s2 := 0x0, n2 := 1, skip := [], reset := 0x0, img := 0xF00000FF, otp := 0x0,
    fields := [⟨31,31,.rw,.any⟩, ⟨30,30,.rw,.any⟩, ⟨29,28,.rw,(.not 3)⟩, ⟨7,0,.rw,.any⟩] },
  { name := "LANE.STAT", off := 0x0004, s1 := 0x100, n1 := 256, s2 := 0x0, n2 := 1, skip := [], reset := 0x0, img := 0x0, otp := 0x0,
    fields := [⟨31,29,.ro,.any⟩, ⟨28,28,.ro,.any⟩, ⟨9,9,.w1c,.any⟩, ⟨8,8,.w1c,.any⟩, ⟨7,7,.w1c,.any⟩, ⟨6,6,.w1c,.any⟩, ⟨5,5,.w1c,.any⟩, ⟨4,4,.w1c,.any⟩, ⟨3,3,.w1c,.any⟩, ⟨2,2,.w1c,.any⟩, ⟨1,1,.w1c,.any⟩, ⟨0,0,.w1c,.any⟩] },
  { name := "LANE.IRQ_EN", off := 0x0008, s1 := 0x100, n1 := 256, s2 := 0x0, n2 := 1, skip := [], reset := 0x0, img := 0x3FF, otp := 0x0,
    fields := [⟨9,0,.rw,.any⟩] },
  { name := "LANE.DELAY", off := 0x000C, s1 := 0x100, n1 := 256, s2 := 0x0, n2 := 1, skip := [], reset := 0x0, img := 0x0, otp := 0x0,
    fields := [⟨31,31,.ro,.any⟩, ⟨22,16,.ro,.any⟩, ⟨7,0,.ro,.any⟩] },
  { name := "LANE.MG_REQ", off := 0x0010, s1 := 0x100, n1 := 256, s2 := 0x0, n2 := 1, skip := [], reset := 0x0, img := 0x0, otp := 0x0,
    fields := [⟨31,30,.rw,(.range 1 2)⟩, ⟨29,24,.rw,.any⟩, ⟨23,16,.rw,.any⟩, ⟨15,0,.rw,.any⟩] },
  { name := "LANE.MG_RESP", off := 0x0014, s1 := 0x100, n1 := 256, s2 := 0x0, n2 := 1, skip := [], reset := 0x0, img := 0x0, otp := 0x0,
    fields := [⟨31,0,.ro,.any⟩] },
  { name := "LANE.BLK_CTL", off := 0x0018, s1 := 0x100, n1 := 256, s2 := 0x0, n2 := 1, skip := [], reset := 0x0, img := 0x0, otp := 0x0,
    fields := [⟨31,31,.w1s,.any⟩, ⟨30,30,.ro,.any⟩, ⟨7,0,.ro,.any⟩] },
  { name := "LANE.ECHO_LAST", off := 0x001C, s1 := 0x100, n1 := 256, s2 := 0x0, n2 := 1, skip := [], reset := 0x0, img := 0x0, otp := 0x0,
    fields := [⟨23,16,.ro,.any⟩, ⟨15,8,.ro,.any⟩, ⟨0,0,.ro,.any⟩] },
  { name := "LANE.BLK_DATA", off := 0x0020, s1 := 0x100, n1 := 256, s2 := 0x4, n2 := 12, skip := [], reset := 0x0, img := 0x0, otp := 0x0,
    fields := [⟨31,0,.rw,.any⟩] },
  { name := "LANE.FRAMES", off := 0x0050, s1 := 0x100, n1 := 256, s2 := 0x0, n2 := 1, skip := [], reset := 0x0, img := 0x0, otp := 0x0,
    fields := [⟨31,0,.ro,.any⟩] },
  { name := "LANE.SAFE_FRAMES", off := 0x0054, s1 := 0x100, n1 := 256, s2 := 0x0, n2 := 1, skip := [], reset := 0x0, img := 0x0, otp := 0x0,
    fields := [⟨31,0,.ro,.any⟩] },
  { name := "LANE.ECHO_OK", off := 0x0058, s1 := 0x100, n1 := 256, s2 := 0x0, n2 := 1, skip := [], reset := 0x0, img := 0x0, otp := 0x0,
    fields := [⟨31,0,.ro,.any⟩] }]

/-- Register list of the LANE block, part 1. -/
def regsLane1 : List RegDesc := [
  { name := "LANE.ECHO_BAD", off := 0x005C, s1 := 0x100, n1 := 256, s2 := 0x0, n2 := 1, skip := [], reset := 0x0, img := 0x0, otp := 0x0,
    fields := [⟨31,0,.rc,.any⟩] },
  { name := "LANE.ECHO_MISS", off := 0x0060, s1 := 0x100, n1 := 256, s2 := 0x0, n2 := 1, skip := [], reset := 0x0, img := 0x0, otp := 0x0,
    fields := [⟨31,0,.rc,.any⟩] },
  { name := "LANE.ECHO_LATE", off := 0x0064, s1 := 0x100, n1 := 256, s2 := 0x0, n2 := 1, skip := [], reset := 0x0, img := 0x0, otp := 0x0,
    fields := [⟨31,0,.rc,.any⟩] },
  { name := "LANE.ECHO_MISMATCH", off := 0x0068, s1 := 0x100, n1 := 256, s2 := 0x0, n2 := 1, skip := [], reset := 0x0, img := 0x0, otp := 0x0,
    fields := [⟨31,0,.rc,.any⟩] },
  { name := "LANE.MERGED", off := 0x006C, s1 := 0x100, n1 := 256, s2 := 0x0, n2 := 1, skip := [], reset := 0x0, img := 0x0, otp := 0x0,
    fields := [⟨31,0,.rc,.any⟩] },
  { name := "LANE.SUBST", off := 0x0070, s1 := 0x100, n1 := 256, s2 := 0x0, n2 := 1, skip := [], reset := 0x0, img := 0x0, otp := 0x0,
    fields := [⟨31,0,.rc,.any⟩] },
  { name := "LANE.COLLIDE", off := 0x0074, s1 := 0x100, n1 := 256, s2 := 0x0, n2 := 1, skip := [], reset := 0x0, img := 0x0, otp := 0x0,
    fields := [⟨31,0,.rc,.any⟩] },
  { name := "LANE.STORE_FULL", off := 0x0078, s1 := 0x100, n1 := 256, s2 := 0x0, n2 := 1, skip := [], reset := 0x0, img := 0x0, otp := 0x0,
    fields := [⟨31,0,.rc,.any⟩] },
  { name := "LANE.DISCARDED", off := 0x007C, s1 := 0x100, n1 := 256, s2 := 0x0, n2 := 1, skip := [], reset := 0x0, img := 0x0, otp := 0x0,
    fields := [⟨31,0,.rc,.any⟩] },
  { name := "LANE.MG_TIMEOUTS", off := 0x0080, s1 := 0x100, n1 := 256, s2 := 0x0, n2 := 1, skip := [], reset := 0x0, img := 0x0, otp := 0x0,
    fields := [⟨31,0,.rc,.any⟩] },
  { name := "LANE.STORE", off := 0x0084, s1 := 0x100, n1 := 256, s2 := 0x0, n2 := 1, skip := [], reset := 0x0, img := 0x0, otp := 0x0,
    fields := [⟨5,0,.ro,.any⟩] }]

/-- Register list of the LANE block. -/
def regsLane : List RegDesc := regsLane0 ++ regsLane1

/-- Register list of the MEAS block, part 0. -/
def regsMeas0 : List RegDesc := [
  { name := "MEAS.ADC_CTL", off := 0x0000, s1 := 0x20, n1 := 4, s2 := 0x0, n2 := 1, skip := [], reset := 0x0, img := 0xB8FF007F, otp := 0x0,
    fields := [⟨31,31,.rw,.any⟩, ⟨30,30,.w1s,.any⟩, ⟨29,27,.rw,(.range 0 5)⟩, ⟨23,16,.rw,(.range 1 128)⟩, ⟨6,0,.rw,.any⟩] },
  { name := "MEAS.ADC_TRIG", off := 0x0004, s1 := 0x20, n1 := 4, s2 := 0x0, n2 := 1, skip := [], reset := 0x0, img := 0xCFFFFFFF, otp := 0x0,
    fields := [⟨31,30,.rw,(.range 1 3)⟩, ⟨27,16,.rw,.any⟩, ⟨15,0,.rw,.any⟩] },
  { name := "MEAS.ADC_STAT", off := 0x0008, s1 := 0x20, n1 := 4, s2 := 0x0, n2 := 1, skip := [], reset := 0x0, img := 0x0, otp := 0x0,
    fields := [⟨31,30,.ro,.any⟩, ⟨3,3,.w1c,.any⟩, ⟨2,2,.w1c,.any⟩, ⟨1,1,.w1c,.any⟩, ⟨0,0,.w1c,.any⟩] },
  { name := "MEAS.ADC_RAW", off := 0x000C, s1 := 0x20, n1 := 4, s2 := 0x0, n2 := 1, skip := [], reset := 0x0, img := 0x0, otp := 0x0,
    fields := [⟨15,0,.ro,.any⟩] },
  { name := "MEAS.ADC_TSTAMP", off := 0x0010, s1 := 0x20, n1 := 4, s2 := 0x0, n2 := 1, skip := [], reset := 0x0, img := 0x0, otp := 0x0,
    fields := [⟨31,0,.ro,.any⟩] },
  { name := "MEAS.ADC_OVERRUN", off := 0x0014, s1 := 0x20, n1 := 4, s2 := 0x0, n2 := 1, skip := [], reset := 0x0, img := 0x0, otp := 0x0,
    fields := [⟨31,0,.rc,.any⟩] },
  { name := "MEAS.ADC_CAL", off := 0x0018, s1 := 0x20, n1 := 4, s2 := 0x0, n2 := 1, skip := [], reset := 0x0, img := 0x0, otp := 0x0,
    fields := [⟨31,31,.ro,.any⟩, ⟨15,0,.ro,.any⟩] },
  { name := "MEAS.ADC_STOLEN", off := 0x001C, s1 := 0x20, n1 := 4, s2 := 0x0, n2 := 1, skip := [], reset := 0x0, img := 0x0, otp := 0x0,
    fields := [⟨31,0,.rc,.any⟩] },
  { name := "MEAS.WIN", off := 0x0100, s1 := 0x8, n1 := 16, s2 := 0x0, n2 := 1, skip := [], reset := 0x0, img := 0xFFFFFFFF, otp := 0x0,
    fields := [⟨31,16,.rw,.any⟩, ⟨15,0,.rw,.any⟩] },
  { name := "MEAS.WIN_CTL", off := 0x0104, s1 := 0x8, n1 := 16, s2 := 0x0, n2 := 1, skip := [], reset := 0x0, img := 0x3, otp := 0x0,
    fields := [⟨1,1,.rw,.any⟩, ⟨0,0,.rw,.any⟩] },
  { name := "MEAS.WIN_STAT", off := 0x0180, s1 := 0x0, n1 := 1, s2 := 0x0, n2 := 1, skip := [], reset := 0x0, img := 0x0, otp := 0x0,
    fields := [⟨15,0,.w1c,.any⟩] },
  { name := "MEAS.WIN_LAST", off := 0x0184, s1 := 0x0, n1 := 1, s2 := 0x0, n2 := 1, skip := [], reset := 0x0, img := 0x0, otp := 0x0,
    fields := [⟨31,30,.ro,.any⟩, ⟨22,16,.ro,.any⟩, ⟨15,0,.ro,.any⟩] }]

/-- Register list of the MEAS block, part 1. -/
def regsMeas1 : List RegDesc := [
  { name := "MEAS.SEQ", off := 0x0400, s1 := 0x4, n1 := 128, s2 := 0x0, n2 := 1, skip := [], reset := 0x0, img := 0x3FFF03F, otp := 0x0,
    fields := [⟨25,21,.rw,(.range 0 16)⟩, ⟨20,17,.rw,.any⟩, ⟨16,14,.rw,.any⟩, ⟨13,12,.rw,.any⟩, ⟨5,0,.rw,(.range 0 41)⟩] },
  { name := "MEAS.RES", off := 0x0600, s1 := 0x4, n1 := 128, s2 := 0x0, n2 := 1, skip := [], reset := 0x0, img := 0x0, otp := 0x0,
    fields := [⟨31,31,.ro,.any⟩, ⟨30,30,.ro,.any⟩, ⟨27,26,.ro,.any⟩, ⟨23,16,.ro,.any⟩, ⟨15,0,.ro,.any⟩] },
  { name := "MEAS.CMP_CFG", off := 0x0800, s1 := 0x10, n1 := 8, s2 := 0x0, n2 := 1, skip := [], reset := 0x0, img := 0xFFFFFF1F, otp := 0x0,
    fields := [⟨31,31,.rw,.any⟩, ⟨30,30,.rw,.any⟩, ⟨29,27,.rw,.any⟩, ⟨26,24,.rw,.any⟩, ⟨23,16,.rw,.any⟩, ⟨15,8,.rw,.any⟩, ⟨4,0,.rw,.any⟩] },
  { name := "MEAS.CMP_THR", off := 0x0804, s1 := 0x10, n1 := 8, s2 := 0x0, n2 := 1, skip := [], reset := 0x0, img := 0xFFFFFFFF, otp := 0x0,
    fields := [⟨31,16,.rw,.any⟩, ⟨15,0,.rw,.any⟩] },
  { name := "MEAS.CMP_WAKE", off := 0x0808, s1 := 0x10, n1 := 8, s2 := 0x0, n2 := 1, skip := [], reset := 0x0, img := 0xFFFFFFFF, otp := 0x0,
    fields := [⟨31,0,.rw,.any⟩] },
  { name := "MEAS.CMP_STAT", off := 0x080C, s1 := 0x10, n1 := 8, s2 := 0x0, n2 := 1, skip := [], reset := 0x0, img := 0x0, otp := 0x0,
    fields := [⟨31,30,.ro,.any⟩, ⟨3,3,.w1c,.any⟩, ⟨2,2,.w1c,.any⟩, ⟨1,1,.w1c,.any⟩, ⟨0,0,.w1c,.any⟩] },
  { name := "MEAS.MON", off := 0x0900, s1 := 0x4, n1 := 9, s2 := 0x0, n2 := 1, skip := [], reset := 0x0, img := 0x0, otp := 0x0,
    fields := [⟨31,31,.ro,.any⟩, ⟨27,26,.ro,.any⟩, ⟨23,16,.ro,.any⟩, ⟨15,0,.ro,.any⟩] },
  { name := "MEAS.MON_LIM", off := 0x0940, s1 := 0x4, n1 := 9, s2 := 0x0, n2 := 1, skip := [], reset := 0x0, img := 0xFFFFFFFF, otp := 0x0,
    fields := [⟨31,16,.rw,.any⟩, ⟨15,0,.rw,.any⟩] },
  { name := "MEAS.MON_STAT", off := 0x0980, s1 := 0x0, n1 := 1, s2 := 0x0, n2 := 1, skip := [], reset := 0x0, img := 0x0, otp := 0x0,
    fields := [⟨8,0,.w1c,.any⟩] },
  { name := "MEAS.FCAL", off := 0x0A00, s1 := 0x4, n1 := 39, s2 := 0x0, n2 := 1, skip := [], reset := 0x0, img := 0x0, otp := 0xFFFFFFFF,
    fields := [⟨31,16,.ro,.any⟩, ⟨15,0,.ro,.any⟩] },
  { name := "MEAS.UCAL", off := 0x0B00, s1 := 0x4, n1 := 39, s2 := 0x0, n2 := 1, skip := [], reset := 0x0, img := 0xFFFFFFFF, otp := 0x0,
    fields := [⟨31,16,.rw,.any⟩, ⟨15,0,.rw,.any⟩] },
  { name := "MEAS.CAL_STAT", off := 0x0C00, s1 := 0x0, n1 := 1, s2 := 0x0, n2 := 1, skip := [], reset := 0x0, img := 0x0, otp := 0x8000003F,
    fields := [⟨31,31,.ro,.any⟩, ⟨5,0,.ro,.any⟩] }]

/-- Register list of the MEAS block. -/
def regsMeas : List RegDesc := regsMeas0 ++ regsMeas1

/-- Register list of the NET block, part 0. -/
def regsNet0 : List RegDesc := [
  { name := "NET.E_CFG", off := 0x0000, s1 := 0x100, n1 := 4, s2 := 0x0, n2 := 1, skip := [], reset := 0x0, img := 0xC0070FFF, otp := 0x0,
    fields := [⟨31,31,.rw,.any⟩, ⟨30,30,.rw,.any⟩, ⟨18,16,.rw,.any⟩, ⟨11,0,.rw,.any⟩] },
  { name := "NET.E_STAT", off := 0x0004, s1 := 0x100, n1 := 4, s2 := 0x0, n2 := 1, skip := [], reset := 0x0, img := 0x0, otp := 0x0,
    fields := [⟨31,31,.ro,.any⟩, ⟨30,29,.ro,.any⟩, ⟨0,0,.w1c,.any⟩] },
  { name := "NET.E_TCMAP", off := 0x0008, s1 := 0x100, n1 := 4, s2 := 0x0, n2 := 1, skip := [], reset := 0x0, img := 0xFFFFFF, otp := 0x0,
    fields := [⟨23,0,.rw,.any⟩] },
  { name := "NET.E_POLICE", off := 0x000C, s1 := 0x100, n1 := 4, s2 := 0x0, n2 := 1, skip := [], reset := 0x0, img := 0xFFFFFFFF, otp := 0x0,
    fields := [⟨31,16,.rw,.any⟩, ⟨15,0,.rw,.any⟩] },
  { name := "NET.E_DROP_BE", off := 0x0010, s1 := 0x100, n1 := 4, s2 := 0x0, n2 := 1, skip := [], reset := 0x0, img := 0x0, otp := 0x0,
    fields := [⟨31,0,.rc,.any⟩] },
  { name := "NET.E_DROP_OTHER", off := 0x0014, s1 := 0x100, n1 := 4, s2 := 0x0, n2 := 1, skip := [], reset := 0x0, img := 0x0, otp := 0x0,
    fields := [⟨31,0,.rc,.any⟩] },
  { name := "NET.E_RX_ERR", off := 0x0018, s1 := 0x100, n1 := 4, s2 := 0x0, n2 := 1, skip := [], reset := 0x0, img := 0x0, otp := 0x0,
    fields := [⟨31,0,.rc,.any⟩] },
  { name := "NET.E_GCL_CTL", off := 0x001C, s1 := 0x100, n1 := 4, s2 := 0x0, n2 := 1, skip := [], reset := 0x0, img := 0xB00001FF, otp := 0x0,
    fields := [⟨31,31,.rw,.any⟩, ⟨30,30,.w1s,.any⟩, ⟨29,29,.ro,.any⟩, ⟨28,28,.w1c,.any⟩, ⟨8,0,.rw,(.range 1 256)⟩] },
  { name := "NET.E_GCL_CYCLE", off := 0x0020, s1 := 0x100, n1 := 4, s2 := 0x0, n2 := 1, skip := [], reset := 0x0, img := 0x3FFFFFFF, otp := 0x0,
    fields := [⟨29,0,.rw,.any⟩] },
  { name := "NET.E_GCL_BASE_S", off := 0x0024, s1 := 0x100, n1 := 4, s2 := 0x0, n2 := 1, skip := [], reset := 0x0, img := 0xFFFFFFFF, otp := 0x0,
    fields := [⟨31,0,.rw,.any⟩] },
  { name := "NET.E_GCL_BASE_NS", off := 0x0028, s1 := 0x100, n1 := 4, s2 := 0x0, n2 := 1, skip := [], reset := 0x0, img := 0x3FFFFFFF, otp := 0x0,
    fields := [⟨29,0,.rw,.any⟩] },
  { name := "NET.SW_CFG", off := 0x0400, s1 := 0x0, n1 := 1, s2 := 0x0, n2 := 1, skip := [], reset := 0x0, img := 0xFFFFFFF7, otp := 0x0,
    fields := [⟨31,16,.rw,(.range 1 65535)⟩, ⟨15,8,.rw,.any⟩, ⟨7,4,.rw,.any⟩, ⟨2,0,.rw,.any⟩] }]

/-- Register list of the NET block, part 1. -/
def regsNet1 : List RegDesc := [
  { name := "NET.SW_VLAN", off := 0x0404, s1 := 0x0, n1 := 1, s2 := 0x0, n2 := 1, skip := [], reset := 0x0, img := 0xFFF, otp := 0x0,
    fields := [⟨11,0,.rw,.any⟩] },
  { name := "NET.LEARN_FULL", off := 0x0408, s1 := 0x0, n1 := 1, s2 := 0x0, n2 := 1, skip := [], reset := 0x0, img := 0x0, otp := 0x0,
    fields := [⟨31,0,.rc,.any⟩] },
  { name := "NET.IP_ADDR", off := 0x0410, s1 := 0x0, n1 := 1, s2 := 0x0, n2 := 1, skip := [], reset := 0x0, img := 0xFFFFFFFF, otp := 0x0,
    fields := [⟨31,0,.rw,.any⟩] },
  { name := "NET.IP_MASK", off := 0x0414, s1 := 0x0, n1 := 1, s2 := 0x0, n2 := 1, skip := [], reset := 0x0, img := 0xFFFFFFFF, otp := 0x0,
    fields := [⟨31,0,.rw,.any⟩] },
  { name := "NET.IP_GW", off := 0x0418, s1 := 0x0, n1 := 1, s2 := 0x0, n2 := 1, skip := [], reset := 0x0, img := 0xFFFFFFFF, otp := 0x0,
    fields := [⟨31,0,.rw,.any⟩] },
  { name := "NET.MAC_HI", off := 0x041C, s1 := 0x0, n1 := 1, s2 := 0x0, n2 := 1, skip := [], reset := 0x0, img := 0xFFFF, otp := 0x0,
    fields := [⟨15,0,.rw,.any⟩] },
  { name := "NET.MAC_LO", off := 0x0420, s1 := 0x0, n1 := 1, s2 := 0x0, n2 := 1, skip := [], reset := 0x0, img := 0xFFFFFFFF, otp := 0x0,
    fields := [⟨31,0,.rw,.any⟩] },
  { name := "NET.IP_DROP", off := 0x0424, s1 := 0x0, n1 := 1, s2 := 0x0, n2 := 1, skip := [], reset := 0x0, img := 0x0, otp := 0x0,
    fields := [⟨31,0,.rc,.any⟩] },
  { name := "NET.PTP_CFG", off := 0x0500, s1 := 0x0, n1 := 1, s2 := 0x0, n2 := 1, skip := [], reset := 0x0, img := 0x7FFFFF07, otp := 0x0,
    fields := [⟨30,24,.rw,.any⟩, ⟨23,16,.rw,.any⟩, ⟨15,8,.rw,.any⟩, ⟨2,0,.rw,.any⟩] },
  { name := "NET.PTP_STAT", off := 0x0504, s1 := 0x0, n1 := 1, s2 := 0x0, n2 := 1, skip := [], reset := 0x0, img := 0x0, otp := 0x0,
    fields := [⟨31,31,.ro,.any⟩, ⟨30,30,.ro,.any⟩, ⟨1,0,.ro,.any⟩] },
  { name := "NET.PTP_OFFSET", off := 0x0508, s1 := 0x0, n1 := 1, s2 := 0x0, n2 := 1, skip := [], reset := 0x0, img := 0x0, otp := 0x0,
    fields := [⟨31,0,.ro,.any⟩] },
  { name := "NET.PTP_CLASS", off := 0x050C, s1 := 0x0, n1 := 1, s2 := 0x0, n2 := 1, skip := [], reset := 0x0, img := 0xFFFFFFFF, otp := 0x0,
    fields := [⟨31,16,.rw,.any⟩, ⟨15,8,.rw,.any⟩, ⟨7,0,.rw,.any⟩] }]

/-- Register list of the NET block, part 2. -/
def regsNet2 : List RegDesc := [
  { name := "NET.XCAP_CTL", off := 0x0510, s1 := 0x0, n1 := 1, s2 := 0x0, n2 := 1, skip := [], reset := 0x0, img := 0x4000000F, otp := 0x0,
    fields := [⟨31,31,.w1s,.any⟩, ⟨30,30,.w1c,.any⟩, ⟨3,0,.rw,.any⟩] },
  { name := "NET.XCAP_WT_LO", off := 0x0514, s1 := 0x0, n1 := 1, s2 := 0x0, n2 := 1, skip := [], reset := 0x0, img := 0x0, otp := 0x0,
    fields := [⟨31,0,.ro,.any⟩] },
  { name := "NET.XCAP_WT_HI", off := 0x0518, s1 := 0x0, n1 := 1, s2 := 0x0, n2 := 1, skip := [], reset := 0x0, img := 0x0, otp := 0x0,
    fields := [⟨31,0,.ro,.any⟩] },
  { name := "NET.XCAP_NS", off := 0x051C, s1 := 0x0, n1 := 1, s2 := 0x0, n2 := 1, skip := [], reset := 0x0, img := 0x0, otp := 0x0,
    fields := [⟨31,0,.ro,.any⟩] },
  { name := "NET.XCAP_S_LO", off := 0x0520, s1 := 0x0, n1 := 1, s2 := 0x0, n2 := 1, skip := [], reset := 0x0, img := 0x0, otp := 0x0,
    fields := [⟨31,0,.ro,.any⟩] },
  { name := "NET.XCAP_S_HI", off := 0x0524, s1 := 0x0, n1 := 1, s2 := 0x0, n2 := 1, skip := [], reset := 0x0, img := 0x0, otp := 0x0,
    fields := [⟨31,28,.ro,.any⟩, ⟨15,0,.ro,.any⟩] },
  { name := "NET.VLAN_A", off := 0x0800, s1 := 0x8, n1 := 64, s2 := 0x0, n2 := 1, skip := [], reset := 0x0, img := 0x80000FFF, otp := 0x0,
    fields := [⟨31,31,.rw,.any⟩, ⟨11,0,.rw,.any⟩] },
  { name := "NET.VLAN_B", off := 0x0804, s1 := 0x8, n1 := 64, s2 := 0x0, n2 := 1, skip := [], reset := 0x0, img := 0x1F1F, otp := 0x0,
    fields := [⟨12,8,.rw,.any⟩, ⟨4,0,.rw,.any⟩] },
  { name := "NET.FDB_A", off := 0x2000, s1 := 0x8, n1 := 4096, s2 := 0x0, n2 := 1, skip := [], reset := 0x0, img := 0xFFFFFFFF, otp := 0x0,
    fields := [⟨31,0,.rw,.any⟩] },
  { name := "NET.FDB_B", off := 0x2004, s1 := 0x8, n1 := 4096, s2 := 0x0, n2 := 1, skip := [], reset := 0x0, img := 0xFFFFFFFF, otp := 0x0,
    fields := [⟨31,0,.rw,.any⟩] },
  { name := "NET.GCL_ADMIN", off := 0xC000, s1 := 0x400, n1 := 4, s2 := 0x4, n2 := 256, skip := [], reset := 0x0, img := 0xFFFFFFFF, otp := 0x0,
    fields := [⟨31,24,.rw,.any⟩, ⟨23,0,.rw,(.range 1 16777215)⟩] },
  { name := "NET.GCL_OPER", off := 0xD000, s1 := 0x400, n1 := 4, s2 := 0x4, n2 := 256, skip := [], reset := 0x0, img := 0xFFFFFFFF, otp := 0x0,
    fields := [⟨31,24,.ro,.any⟩, ⟨23,0,.ro,.any⟩] }]

/-- Register list of the NET block. -/
def regsNet : List RegDesc := regsNet0 ++ regsNet1 ++ regsNet2

/-- Register list of the IVW block, part 0. -/
def regsIvw0 : List RegDesc := [
  { name := "IVW.CFG", off := 0x0000, s1 := 0x0, n1 := 1, s2 := 0x0, n2 := 1, skip := [], reset := 0x0, img := 0x80FFFFFF, otp := 0x0,
    fields := [⟨31,31,.rw,.any⟩, ⟨23,16,.rw,(.range 1 255)⟩, ⟨15,0,.rw,.any⟩] },
  { name := "IVW.OPEN", off := 0x0004, s1 := 0x0, n1 := 1, s2 := 0x0, n2 := 1, skip := [], reset := 0x0, img := 0x0, otp := 0x0,
    fields := [⟨8,0,.ro,.any⟩] },
  { name := "IVW.BAD_HDR", off := 0x0008, s1 := 0x0, n1 := 1, s2 := 0x0, n2 := 1, skip := [], reset := 0x0, img := 0x0, otp := 0x0,
    fields := [⟨31,0,.rc,.any⟩] },
  { name := "IVW.AUTH_FAIL", off := 0x000C, s1 := 0x0, n1 := 1, s2 := 0x0, n2 := 1, skip := [], reset := 0x0, img := 0x0, otp := 0x0,
    fields := [⟨31,0,.rc,.any⟩] },
  { name := "IVW.NO_CREDIT", off := 0x0010, s1 := 0x0, n1 := 1, s2 := 0x0, n2 := 1, skip := [], reset := 0x0, img := 0x0, otp := 0x0,
    fields := [⟨31,0,.rc,.any⟩] },
  { name := "IVW.FW_TIMEOUT", off := 0x0014, s1 := 0x0, n1 := 1, s2 := 0x0, n2 := 1, skip := [], reset := 0x0, img := 0x0, otp := 0x0,
    fields := [⟨31,0,.rc,.any⟩] },
  { name := "IVW.RXQ", off := 0x0018, s1 := 0x0, n1 := 1, s2 := 0x0, n2 := 1, skip := [], reset := 0x0, img := 0x0, otp := 0x0,
    fields := [⟨31,31,.ro,.any⟩, ⟨23,16,.ro,.any⟩, ⟨15,8,.ro,.any⟩, ⟨2,0,.ro,.any⟩] },
  { name := "IVW.RX_DONE", off := 0x001C, s1 := 0x0, n1 := 1, s2 := 0x0, n2 := 1, skip := [], reset := 0x0, img := 0x0, otp := 0x0,
    fields := [⟨2,0,.wo,.any⟩] },
  { name := "IVW.TXQ", off := 0x0020, s1 := 0x0, n1 := 1, s2 := 0x0, n2 := 1, skip := [], reset := 0x0, img := 0x0, otp := 0x0,
    fields := [⟨3,0,.wo,.any⟩] },
  { name := "IVW.TX_STAT", off := 0x0024, s1 := 0x0, n1 := 1, s2 := 0x0, n2 := 1, skip := [], reset := 0xFF, img := 0x0, otp := 0x0,
    fields := [⟨7,0,.ro,.any⟩] },
  { name := "IVW.S_STATE", off := 0x1000, s1 := 0x10, n1 := 256, s2 := 0x0, n2 := 1, skip := [], reset := 0x0, img := 0x0, otp := 0x0,
    fields := [⟨31,31,.ro,.any⟩, ⟨29,28,.ro,.any⟩, ⟨3,0,.ro,.any⟩] },
  { name := "IVW.S_PEER_IP", off := 0x1004, s1 := 0x10, n1 := 256, s2 := 0x0, n2 := 1, skip := [], reset := 0x0, img := 0x0, otp := 0x0,
    fields := [⟨31,0,.ro,.any⟩] }]

/-- Register list of the IVW block, part 1. -/
def regsIvw1 : List RegDesc := [
  { name := "IVW.S_PEER_PORT", off := 0x1008, s1 := 0x10, n1 := 256, s2 := 0x0, n2 := 1, skip := [], reset := 0x0, img := 0x0, otp := 0x0,
    fields := [⟨31,0,.ro,.any⟩] },
  { name := "IVW.S_IDLE", off := 0x100C, s1 := 0x10, n1 := 256, s2 := 0x0, n2 := 1, skip := [], reset := 0x0, img := 0x0, otp := 0x0,
    fields := [⟨31,0,.ro,.any⟩] },
  { name := "IVW.BUF", off := 0x8000, s1 := 0x800, n1 := 16, s2 := 0x4, n2 := 512, skip := [], reset := 0x0, img := 0x0, otp := 0x0,
    fields := [⟨31,0,.rw,.any⟩] }]

/-- Register list of the IVW block. -/
def regsIvw : List RegDesc := regsIvw0 ++ regsIvw1

/-- Register list of the EMN block, part 0. -/
def regsEmn0 : List RegDesc := [
  { name := "EMN.P_STAT", off := 0x0000, s1 := 0x40, n1 := 2, s2 := 0x0, n2 := 1, skip := [], reset := 0x0, img := 0x0, otp := 0x0,
    fields := [⟨31,30,.ro,.any⟩, ⟨1,1,.w1c,.any⟩, ⟨0,0,.w1c,.any⟩] },
  { name := "EMN.P_DELAY", off := 0x0004, s1 := 0x40, n1 := 2, s2 := 0x0, n2 := 1, skip := [], reset := 0x0, img := 0x0, otp := 0x0,
    fields := [⟨31,31,.ro,.any⟩, ⟨11,0,.ro,.any⟩] },
  { name := "EMN.P_RETRAINS", off := 0x0008, s1 := 0x40, n1 := 2, s2 := 0x0, n2 := 1, skip := [], reset := 0x0, img := 0x0, otp := 0x0,
    fields := [⟨31,0,.rc,.any⟩] },
  { name := "EMN.P_CRC_ERR", off := 0x000C, s1 := 0x40, n1 := 2, s2 := 0x0, n2 := 1, skip := [], reset := 0x0, img := 0x0, otp := 0x0,
    fields := [⟨31,0,.rc,.any⟩] },
  { name := "EMN.P_REPLAYS", off := 0x0010, s1 := 0x40, n1 := 2, s2 := 0x0, n2 := 1, skip := [], reset := 0x0, img := 0x0, otp := 0x0,
    fields := [⟨31,0,.rc,.any⟩] },
  { name := "EMN.POS", off := 0x0100, s1 := 0x0, n1 := 1, s2 := 0x0, n2 := 1, skip := [], reset := 0x0, img := 0x0, otp := 0x0,
    fields := [⟨31,31,.ro,.any⟩, ⟨30,30,.ro,.any⟩, ⟨29,29,.ro,.any⟩, ⟨12,8,.ro,.any⟩, ⟨3,0,.ro,.any⟩] },
  { name := "EMN.TRIG_CFG", off := 0x0104, s1 := 0x0, n1 := 1, s2 := 0x0, n2 := 1, skip := [], reset := 0x0, img := 0xC0001FFF, otp := 0x0,
    fields := [⟨31,31,.rw,.any⟩, ⟨30,30,.rw,.any⟩, ⟨12,0,.rw,(.range 800 8000)⟩] },
  { name := "EMN.TRIG_CTL", off := 0x0108, s1 := 0x0, n1 := 1, s2 := 0x0, n2 := 1, skip := [], reset := 0x0, img := 0x0, otp := 0x0,
    fields := [⟨0,0,.wo,.any⟩] },
  { name := "EMN.TRIG_LATE", off := 0x010C, s1 := 0x0, n1 := 1, s2 := 0x0, n2 := 1, skip := [], reset := 0x0, img := 0x0, otp := 0x0,
    fields := [⟨31,0,.rc,.any⟩] },
  { name := "EMN.ANG_CFG", off := 0x0110, s1 := 0x0, n1 := 1, s2 := 0x0, n2 := 1, skip := [], reset := 0x0, img := 0xC000FFFF, otp := 0x0,
    fields := [⟨31,31,.rw,.any⟩, ⟨30,30,.rw,.any⟩, ⟨15,0,.rw,(.range 400 40000)⟩] },
  { name := "EMN.STAT", off := 0x0114, s1 := 0x0, n1 := 1, s2 := 0x0, n2 := 1, skip := [], reset := 0x0, img := 0x0, otp := 0x0,
    fields := [⟨1,1,.w1c,.any⟩, ⟨0,0,.w1c,.any⟩] },
  { name := "EMN.TXQ", off := 0x0118, s1 := 0x0, n1 := 1, s2 := 0x0, n2 := 1, skip := [], reset := 0x0, img := 0x0, otp := 0x0,
    fields := [⟨3,0,.wo,.any⟩] }]

/-- Register list of the EMN block, part 1. -/
def regsEmn1 : List RegDesc := [
  { name := "EMN.RXQ", off := 0x011C, s1 := 0x0, n1 := 1, s2 := 0x0, n2 := 1, skip := [], reset := 0x0, img := 0x0, otp := 0x0,
    fields := [⟨31,31,.ro,.any⟩, ⟨11,8,.ro,.any⟩, ⟨3,0,.ro,.any⟩] },
  { name := "EMN.RX_DONE", off := 0x0120, s1 := 0x0, n1 := 1, s2 := 0x0, n2 := 1, skip := [], reset := 0x0, img := 0x0, otp := 0x0,
    fields := [⟨3,0,.wo,.any⟩] },
  { name := "EMN.EVT_HELD", off := 0x0124, s1 := 0x0, n1 := 1, s2 := 0x0, n2 := 1, skip := [], reset := 0x0, img := 0x0, otp := 0x0,
    fields := [⟨31,0,.ro,.any⟩] },
  { name := "EMN.BUF", off := 0x8000, s1 := 0x800, n1 := 16, s2 := 0x4, n2 := 512, skip := [], reset := 0x0, img := 0x0, otp := 0x0,
    fields := [⟨31,0,.rw,.any⟩] }]

/-- Register list of the EMN block. -/
def regsEmn : List RegDesc := regsEmn0 ++ regsEmn1

/-- Register list of the FAB block, part 0. -/
def regsFab0 : List RegDesc := [
  { name := "FAB.CTL", off := 0x0000, s1 := 0x0, n1 := 1, s2 := 0x0, n2 := 1, skip := [], reset := 0x0, img := 0x0, otp := 0x0,
    fields := [⟨31,31,.w1s,.any⟩] },
  { name := "FAB.SR_STAT", off := 0x0004, s1 := 0x0, n1 := 1, s2 := 0x0, n2 := 1, skip := [], reset := 0x0, img := 0x0, otp := 0x0,
    fields := [⟨31,31,.ro,.any⟩, ⟨30,30,.w1c,.any⟩, ⟨3,0,.ro,.any⟩] },
  { name := "FAB.SR_ORDER", off := 0x0008, s1 := 0x0, n1 := 1, s2 := 0x0, n2 := 1, skip := [], reset := 0x0, img := 0xFF, otp := 0x0,
    fields := [⟨7,0,.rw,.any⟩] },
  { name := "FAB.EPOCH", off := 0x000C, s1 := 0x0, n1 := 1, s2 := 0x0, n2 := 1, skip := [], reset := 0x0, img := 0x0, otp := 0x0,
    fields := [⟨9,0,.ro,.any⟩] },
  { name := "FAB.CONT_STAT", off := 0x0010, s1 := 0x0, n1 := 1, s2 := 0x0, n2 := 1, skip := [], reset := 0x0, img := 0x0, otp := 0x0,
    fields := [⟨31,31,.w1c,.any⟩] },
  { name := "FAB.CONT_CELL", off := 0x0014, s1 := 0x0, n1 := 1, s2 := 0x0, n2 := 1, skip := [], reset := 0x0, img := 0x0, otp := 0x0,
    fields := [⟨31,31,.ro,.any⟩, ⟨23,16,.ro,.any⟩, ⟨15,8,.ro,.any⟩, ⟨2,0,.ro,.any⟩] },
  { name := "FAB.CONT_CLR", off := 0x0018, s1 := 0x0, n1 := 1, s2 := 0x0, n2 := 1, skip := [], reset := 0x0, img := 0x0, otp := 0x0,
    fields := [⟨0,0,.wo,.any⟩] },
  { name := "FAB.CONT_COUNT", off := 0x001C, s1 := 0x0, n1 := 1, s2 := 0x0, n2 := 1, skip := [], reset := 0x0, img := 0x0, otp := 0x0,
    fields := [⟨31,0,.rc,.any⟩] },
  { name := "FAB.CAP_CTL", off := 0x0020, s1 := 0x0, n1 := 1, s2 := 0x0, n2 := 1, skip := [], reset := 0x0, img := 0x3C0003FF, otp := 0x0,
    fields := [⟨31,31,.w1s,.any⟩, ⟨30,30,.w1s,.any⟩, ⟨29,29,.rw,.any⟩, ⟨28,28,.rw,.any⟩, ⟨27,27,.rw,.any⟩, ⟨26,26,.rw,.any⟩, ⟨9,0,.rw,(.range 0 839)⟩] },
  { name := "FAB.CAP_STAT", off := 0x0024, s1 := 0x0, n1 := 1, s2 := 0x0, n2 := 1, skip := [], reset := 0x0, img := 0x0, otp := 0x0,
    fields := [⟨31,31,.ro,.any⟩, ⟨30,30,.ro,.any⟩, ⟨9,0,.ro,.any⟩] },
  { name := "FAB.CAP_ADDR", off := 0x0028, s1 := 0x0, n1 := 1, s2 := 0x0, n2 := 1, skip := [], reset := 0x0, img := 0x0, otp := 0x0,
    fields := [⟨23,12,.rw,.any⟩, ⟨6,0,.rw,.any⟩] },
  { name := "FAB.CAP_DATA", off := 0x002C, s1 := 0x0, n1 := 1, s2 := 0x0, n2 := 1, skip := [], reset := 0x0, img := 0x0, otp := 0x0,
    fields := [⟨31,0,.ro,.any⟩] }]

/-- Register list of the FAB block, part 1. -/
def regsFab1 : List RegDesc := [
  { name := "FAB.CAP_MISSED", off := 0x0030, s1 := 0x0, n1 := 1, s2 := 0x0, n2 := 1, skip := [], reset := 0x0, img := 0x0, otp := 0x0,
    fields := [⟨31,0,.rc,.any⟩] },
  { name := "FAB.CAP_TIME_LO", off := 0x0034, s1 := 0x0, n1 := 1, s2 := 0x0, n2 := 1, skip := [], reset := 0x0, img := 0x0, otp := 0x0,
    fields := [⟨31,0,.ro,.any⟩] },
  { name := "FAB.CAP_TIME_HI", off := 0x0038, s1 := 0x0, n1 := 1, s2 := 0x0, n2 := 1, skip := [], reset := 0x0, img := 0x0, otp := 0x0,
    fields := [⟨31,0,.ro,.any⟩] },
  { name := "FAB.RAM_STAT", off := 0x0040, s1 := 0x0, n1 := 1, s2 := 0x0, n2 := 1, skip := [], reset := 0x0, img := 0x0, otp := 0x0,
    fields := [⟨0,0,.w1c,.any⟩] },
  { name := "FAB.RAM_POISON_ADDR", off := 0x0044, s1 := 0x0, n1 := 1, s2 := 0x0, n2 := 1, skip := [], reset := 0x0, img := 0x0, otp := 0x0,
    fields := [⟨21,0,.ro,.any⟩] },
  { name := "FAB.RAM_POISON_CNT", off := 0x0048, s1 := 0x0, n1 := 1, s2 := 0x0, n2 := 1, skip := [], reset := 0x0, img := 0x0, otp := 0x0,
    fields := [⟨31,0,.rc,.any⟩] },
  { name := "FAB.SPM_CTL", off := 0x0050, s1 := 0x0, n1 := 1, s2 := 0x0, n2 := 1, skip := [], reset := 0x0, img := 0x1, otp := 0x0,
    fields := [⟨0,0,.rw,.any⟩] },
  { name := "FAB.SPM_ERR", off := 0x0054, s1 := 0x0, n1 := 1, s2 := 0x0, n2 := 1, skip := [], reset := 0x0, img := 0x0, otp := 0x0,
    fields := [⟨31,0,.rc,.any⟩] },
  { name := "FAB.RIM_CTL", off := 0x0060, s1 := 0x0, n1 := 1, s2 := 0x0, n2 := 1, skip := [], reset := 0x0, img := 0x3, otp := 0x0,
    fields := [⟨1,1,.rw,.any⟩, ⟨0,0,.rw,.any⟩] },
  { name := "FAB.MBOX_IN", off := 0x8000, s1 := 0x4, n1 := 192, s2 := 0x0, n2 := 1, skip := [], reset := 0x0, img := 0x0, otp := 0x0,
    fields := [⟨15,0,.rw,.any⟩] },
  { name := "FAB.MBOX_OUT", off := 0x8400, s1 := 0x4, n1 := 192, s2 := 0x0, n2 := 1, skip := [], reset := 0x0, img := 0x0, otp := 0x0,
    fields := [⟨15,0,.ro,.any⟩] }]

/-- Register list of the FAB block. -/
def regsFab : List RegDesc := regsFab0 ++ regsFab1

/-- Register list of the CFG block, part 0. -/
def regsCfg0 : List RegDesc := [
  { name := "CFG.BOOT", off := 0x0000, s1 := 0x0, n1 := 1, s2 := 0x0, n2 := 1, skip := [], reset := 0x0, img := 0x0, otp := 0x0,
    fields := [⟨31,30,.ro,.any⟩, ⟨29,29,.ro,.any⟩, ⟨19,16,.ro,.any⟩, ⟨15,8,.ro,.any⟩, ⟨7,0,.ro,.any⟩] },
  { name := "CFG.IMAGE_ID_LO", off := 0x0004, s1 := 0x0, n1 := 1, s2 := 0x0, n2 := 1, skip := [], reset := 0x0, img := 0xFFFFFFFF, otp := 0x0,
    fields := [⟨31,0,.ro,.any⟩] },
  { name := "CFG.IMAGE_ID_HI", off := 0x0008, s1 := 0x0, n1 := 1, s2 := 0x0, n2 := 1, skip := [], reset := 0x0, img := 0xFFFFFFFF, otp := 0x0,
    fields := [⟨31,0,.ro,.any⟩] },
  { name := "CFG.IMAGE_BUILD", off := 0x000C, s1 := 0x0, n1 := 1, s2 := 0x0, n2 := 1, skip := [], reset := 0x0, img := 0xFFFFFFFF, otp := 0x0,
    fields := [⟨31,0,.ro,.any⟩] },
  { name := "CFG.PASS_TIME", off := 0x0010, s1 := 0x0, n1 := 1, s2 := 0x0, n2 := 1, skip := [], reset := 0x0, img := 0x0, otp := 0x0,
    fields := [⟨31,16,.ro,.any⟩, ⟨15,0,.ro,.any⟩] },
  { name := "CFG.REJECT_OFFSET", off := 0x0014, s1 := 0x0, n1 := 1, s2 := 0x0, n2 := 1, skip := [], reset := 0x0, img := 0x0, otp := 0x0,
    fields := [⟨31,0,.ro,.any⟩] },
  { name := "CFG.SLOT_SEL", off := 0x0018, s1 := 0x0, n1 := 1, s2 := 0x0, n2 := 1, skip := [], reset := 0x0, img := 0x0, otp := 0x0,
    fields := [⟨0,0,.ro,.any⟩] },
  { name := "CFG.UPD_CTL", off := 0x0020, s1 := 0x0, n1 := 1, s2 := 0x0, n2 := 1, skip := [], reset := 0x0, img := 0x0, otp := 0x0,
    fields := [⟨31,31,.w1s,.any⟩, ⟨30,30,.w1s,.any⟩] },
  { name := "CFG.UPD_STAT", off := 0x0024, s1 := 0x0, n1 := 1, s2 := 0x0, n2 := 1, skip := [], reset := 0x0, img := 0x0, otp := 0x0,
    fields := [⟨31,30,.ro,.any⟩, ⟨29,29,.w1c,.any⟩, ⟨28,28,.ro,.any⟩, ⟨7,0,.ro,.any⟩] },
  { name := "CFG.UPD_OFFSET", off := 0x0028, s1 := 0x0, n1 := 1, s2 := 0x0, n2 := 1, skip := [], reset := 0x0, img := 0x0, otp := 0x0,
    fields := [⟨31,0,.ro,.any⟩] },
  { name := "CFG.CHAIN_CTL", off := 0x0040, s1 := 0x0, n1 := 1, s2 := 0x0, n2 := 1, skip := [], reset := 0x0, img := 0x0, otp := 0x0,
    fields := [⟨31,31,.rw,.any⟩] },
  { name := "CFG.CHAIN_STAT", off := 0x0044, s1 := 0x0, n1 := 1, s2 := 0x0, n2 := 1, skip := [], reset := 0x0, img := 0x0, otp := 0x0,
    fields := [⟨31,31,.ro,.any⟩, ⟨30,30,.ro,.any⟩, ⟨19,16,.ro,.any⟩, ⟨15,0,.ro,.any⟩] }]

/-- Register list of the CFG block, part 1. -/
def regsCfg1 : List RegDesc := [
  { name := "CFG.CHAIN_POS", off := 0x0080, s1 := 0x4, n1 := 16, s2 := 0x0, n2 := 1, skip := [], reset := 0x0, img := 0x0, otp := 0x0,
    fields := [⟨31,28,.ro,.any⟩, ⟨15,8,.ro,.any⟩, ⟨7,0,.ro,.any⟩] },
  { name := "CFG.PR_CTL", off := 0x0800, s1 := 0x0, n1 := 1, s2 := 0x0, n2 := 1, skip := [], reset := 0x0, img := 0x4000000, otp := 0x0,
    fields := [⟨31,30,.rw,(.range 0 1)⟩, ⟨29,29,.w1s,.any⟩, ⟨28,28,.w1s,.any⟩, ⟨27,27,.rw,.any⟩, ⟨26,26,.rw,.any⟩] },
  { name := "CFG.PR_SRC_ADDR", off := 0x0804, s1 := 0x0, n1 := 1, s2 := 0x0, n2 := 1, skip := [], reset := 0x0, img := 0x0, otp := 0x0,
    fields := [⟨31,0,.rw,.any⟩] },
  { name := "CFG.PR_LEN", off := 0x0808, s1 := 0x0, n1 := 1, s2 := 0x0, n2 := 1, skip := [], reset := 0x0, img := 0x0, otp := 0x0,
    fields := [⟨31,0,.rw,.any⟩] },
  { name := "CFG.PR_DATA", off := 0x080C, s1 := 0x0, n1 := 1, s2 := 0x0, n2 := 1, skip := [], reset := 0x0, img := 0x0, otp := 0x0,
    fields := [⟨31,0,.wo,.any⟩] },
  { name := "CFG.PR_STAT", off := 0x0810, s1 := 0x0, n1 := 1, s2 := 0x0, n2 := 1, skip := [], reset := 0x0, img := 0x0, otp := 0x0,
    fields := [⟨31,28,.ro,.any⟩, ⟨27,27,.w1c,.any⟩, ⟨23,16,.ro,.any⟩, ⟨12,0,.ro,.any⟩] },
  { name := "CFG.PR_APPLIED", off := 0x0814, s1 := 0x0, n1 := 1, s2 := 0x0, n2 := 1, skip := [], reset := 0x0, img := 0x0, otp := 0x0,
    fields := [⟨31,0,.ro,.any⟩] },
  { name := "CFG.PR_REJECTED", off := 0x0818, s1 := 0x0, n1 := 1, s2 := 0x0, n2 := 1, skip := [], reset := 0x0, img := 0x0, otp := 0x0,
    fields := [⟨31,0,.rc,.any⟩] },
  { name := "CFG.SCAN_CTL", off := 0x0820, s1 := 0x0, n1 := 1, s2 := 0x0, n2 := 1, skip := [], reset := 0x0, img := 0x8001FFFF, otp := 0x0,
    fields := [⟨31,31,.rw,.any⟩, ⟨16,0,.rw,(.range 2000 100000)⟩] },
  { name := "CFG.SCAN_LAPS", off := 0x0824, s1 := 0x0, n1 := 1, s2 := 0x0, n2 := 1, skip := [], reset := 0x0, img := 0x0, otp := 0x0,
    fields := [⟨31,0,.ro,.any⟩] },
  { name := "CFG.REPAIRS", off := 0x0828, s1 := 0x0, n1 := 1, s2 := 0x0, n2 := 1, skip := [], reset := 0x0, img := 0x0, otp := 0x0,
    fields := [⟨31,0,.rc,.any⟩] },
  { name := "CFG.REPAIR_LAST", off := 0x082C, s1 := 0x0, n1 := 1, s2 := 0x0, n2 := 1, skip := [], reset := 0x0, img := 0x0, otp := 0x0,
    fields := [⟨27,16,.ro,.any⟩, ⟨11,0,.ro,.any⟩] }]

/-- Register list of the CFG block, part 2. -/
def regsCfg2 : List RegDesc := [
  { name := "CFG.REPAIR_FAIL", off := 0x0830, s1 := 0x0, n1 := 1, s2 := 0x0, n2 := 1, skip := [], reset := 0x0, img := 0x0, otp := 0x0,
    fields := [⟨31,0,.rc,.any⟩] },
  { name := "CFG.QUEUE_FULL", off := 0x0834, s1 := 0x0, n1 := 1, s2 := 0x0, n2 := 1, skip := [], reset := 0x0, img := 0x0, otp := 0x0,
    fields := [⟨31,0,.rc,.any⟩] },
  { name := "CFG.FRAME_SEL", off := 0x0838, s1 := 0x0, n1 := 1, s2 := 0x0, n2 := 1, skip := [], reset := 0x0, img := 0x0, otp := 0x0,
    fields := [⟨12,12,.rw,.any⟩, ⟨11,0,.rw,.any⟩] },
  { name := "CFG.FRAME_REC", off := 0x083C, s1 := 0x0, n1 := 1, s2 := 0x0, n2 := 1, skip := [], reset := 0x0, img := 0x0, otp := 0x0,
    fields := [⟨31,30,.ro,.any⟩, ⟨29,28,.ro,.any⟩, ⟨27,27,.ro,.any⟩, ⟨26,18,.ro,.any⟩] },
  { name := "CFG.FRAME_GOLDEN", off := 0x0840, s1 := 0x0, n1 := 1, s2 := 0x0, n2 := 1, skip := [], reset := 0x0, img := 0x0, otp := 0x0,
    fields := [⟨31,0,.ro,.any⟩] },
  { name := "CFG.KEYS", off := 0x0844, s1 := 0x0, n1 := 1, s2 := 0x0, n2 := 1, skip := [], reset := 0x0, img := 0x0, otp := 0x0,
    fields := [⟨31,31,.ro,.any⟩, ⟨9,0,.ro,.any⟩] },
  { name := "CFG.RESTORE_STAT", off := 0x0848, s1 := 0x0, n1 := 1, s2 := 0x0, n2 := 1, skip := [], reset := 0x0, img := 0x0, otp := 0x0,
    fields := [⟨31,31,.w1s,.any⟩, ⟨30,30,.w1c,.any⟩, ⟨1,0,.ro,.any⟩] }]

/-- Register list of the CFG block. -/
def regsCfg : List RegDesc := regsCfg0 ++ regsCfg1 ++ regsCfg2

/-- Register list of the FLASH block, part 0. -/
def regsFlash0 : List RegDesc := [
  { name := "FLASH.CMD", off := 0x0000, s1 := 0x0, n1 := 1, s2 := 0x0, n2 := 1, skip := [], reset := 0x0, img := 0x0, otp := 0x0,
    fields := [⟨31,28,.wo,.any⟩] },
  { name := "FLASH.ADDR", off := 0x0004, s1 := 0x0, n1 := 1, s2 := 0x0, n2 := 1, skip := [], reset := 0x0, img := 0x0, otp := 0x0,
    fields := [⟨31,0,.rw,.any⟩] },
  { name := "FLASH.STAT", off := 0x0008, s1 := 0x0, n1 := 1, s2 := 0x0, n2 := 1, skip := [], reset := 0x0, img := 0x0, otp := 0x0,
    fields := [⟨31,31,.ro,.any⟩, ⟨30,29,.ro,.any⟩, ⟨28,28,.ro,.any⟩, ⟨27,27,.ro,.any⟩, ⟨26,26,.ro,.any⟩, ⟨25,25,.w1c,.any⟩, ⟨24,24,.w1c,.any⟩, ⟨23,23,.w1c,.any⟩, ⟨7,4,.ro,.any⟩, ⟨3,0,.ro,.any⟩] },
  { name := "FLASH.PF_WS", off := 0x000C, s1 := 0x0, n1 := 1, s2 := 0x0, n2 := 1, skip := [], reset := 0xF, img := 0x0, otp := 0x0,
    fields := [⟨3,0,.rw,.any⟩] },
  { name := "FLASH.PF_DATA", off := 0x0010, s1 := 0x4, n1 := 4, s2 := 0x0, n2 := 1, skip := [], reset := 0x0, img := 0x0, otp := 0x0,
    fields := [⟨31,0,.rw,.any⟩] },
  { name := "FLASH.SECTOR_SEL", off := 0x0020, s1 := 0x0, n1 := 1, s2 := 0x0, n2 := 1, skip := [], reset := 0x0, img := 0x0, otp := 0x0,
    fields := [⟨9,0,.rw,.any⟩] },
  { name := "FLASH.SECTOR_STAT", off := 0x0024, s1 := 0x0, n1 := 1, s2 := 0x0, n2 := 1, skip := [], reset := 0x0, img := 0x0, otp := 0x0,
    fields := [⟨31,28,.ro,.any⟩, ⟨27,27,.ro,.any⟩, ⟨23,0,.ro,.any⟩] },
  { name := "FLASH.MARGIN", off := 0x0028, s1 := 0x0, n1 := 1, s2 := 0x0, n2 := 1, skip := [], reset := 0x0, img := 0x0, otp := 0x0,
    fields := [⟨31,20,.ro,.any⟩, ⟨17,16,.ro,.any⟩, ⟨11,0,.ro,.any⟩] },
  { name := "FLASH.CF_CORR", off := 0x002C, s1 := 0x0, n1 := 1, s2 := 0x0, n2 := 1, skip := [], reset := 0x0, img := 0x0, otp := 0x0,
    fields := [⟨31,0,.rc,.any⟩] },
  { name := "FLASH.UNCORR_ADDR", off := 0x0030, s1 := 0x0, n1 := 1, s2 := 0x0, n2 := 1, skip := [], reset := 0x0, img := 0x0, otp := 0x0,
    fields := [⟨31,0,.ro,.any⟩] },
  { name := "FLASH.JOURNAL", off := 0x0034, s1 := 0x0, n1 := 1, s2 := 0x0, n2 := 1, skip := [], reset := 0x0, img := 0x0, otp := 0x0,
    fields := [⟨31,31,.ro,.any⟩, ⟨30,11,.ro,.any⟩, ⟨10,0,.ro,.any⟩] },
  { name := "FLASH.SUSPECT", off := 0x0100, s1 := 0x4, n1 := 24, s2 := 0x0, n2 := 1, skip := [], reset := 0x0, img := 0x0, otp := 0x0,
    fields := [⟨31,0,.ro,.any⟩] }]

/-- Register list of the FLASH block, part 1. -/
def regsFlash1 : List RegDesc := [
  { name := "FLASH.PROT_CF", off := 0x0180, s1 := 0x4, n1 := 24, s2 := 0x0, n2 := 1, skip := [], reset := 0x0, img := 0xFFFFFFFF, otp := 0x0,
    fields := [⟨31,0,.w1s,.any⟩] },
  { name := "FLASH.PROT_PF", off := 0x0200, s1 := 0x4, n1 := 16, s2 := 0x0, n2 := 1, skip := [], reset := 0x0, img := 0xFFFFFFFF, otp := 0x0,
    fields := [⟨31,0,.w1s,.any⟩] },
  { name := "FLASH.BUF", off := 0x1000, s1 := 0x4, n1 := 1024, s2 := 0x0, n2 := 1, skip := [], reset := 0x0, img := 0x0, otp := 0x0,
    fields := [⟨31,0,.rw,.any⟩] }]

/-- Register list of the FLASH block. -/
def regsFlash : List RegDesc := regsFlash0 ++ regsFlash1

/-- Register list of the OTP block. -/
def regsOtp : List RegDesc := [
  { name := "OTP.CTL", off := 0x0000, s1 := 0x0, n1 := 1, s2 := 0x0, n2 := 1, skip := [], reset := 0x0, img := 0x0, otp := 0x0,
    fields := [⟨31,31,.w1s,.any⟩] },
  { name := "OTP.ADDR", off := 0x0004, s1 := 0x0, n1 := 1, s2 := 0x0, n2 := 1, skip := [], reset := 0x0, img := 0x0, otp := 0x0,
    fields := [⟨10,0,.rw,.any⟩] },
  { name := "OTP.DATA_LO", off := 0x0008, s1 := 0x0, n1 := 1, s2 := 0x0, n2 := 1, skip := [], reset := 0x0, img := 0x0, otp := 0x0,
    fields := [⟨31,0,.rw,.any⟩] },
  { name := "OTP.DATA_HI", off := 0x000C, s1 := 0x0, n1 := 1, s2 := 0x0, n2 := 1, skip := [], reset := 0x0, img := 0x0, otp := 0x0,
    fields := [⟨31,0,.rw,.any⟩] },
  { name := "OTP.STAT", off := 0x0010, s1 := 0x0, n1 := 1, s2 := 0x0, n2 := 1, skip := [], reset := 0x0, img := 0x0, otp := 0x0,
    fields := [⟨31,31,.ro,.any⟩, ⟨3,0,.ro,.any⟩] }]

/-- Register list of the PWR block, part 0. -/
def regsPwr0 : List RegDesc := [
  { name := "PWR.SUPPLY_STAT", off := 0x0000, s1 := 0x0, n1 := 1, s2 := 0x0, n2 := 1, skip := [], reset := 0x0, img := 0x0, otp := 0x0,
    fields := [⟨3,3,.w1c,.any⟩, ⟨2,2,.ro,.any⟩, ⟨1,1,.w1c,.any⟩] },
  { name := "PWR.HOLDUP_CFG", off := 0x0004, s1 := 0x0, n1 := 1, s2 := 0x0, n2 := 1, skip := [], reset := 0x0, img := 0x800000FF, otp := 0x0,
    fields := [⟨31,31,.rw,.any⟩, ⟨7,0,.rw,(.range 40 170)⟩] },
  { name := "PWR.PHASE_STAT", off := 0x0008, s1 := 0x0, n1 := 1, s2 := 0x0, n2 := 1, skip := [], reset := 0x0, img := 0x0, otp := 0x0,
    fields := [⟨5,0,.ro,.any⟩] },
  { name := "PWR.PHASE_CTL", off := 0x000C, s1 := 0x0, n1 := 1, s2 := 0x0, n2 := 1, skip := [], reset := 0x0, img := 0x0, otp := 0x0,
    fields := [⟨5,0,.wo,.any⟩] },
  { name := "PWR.RAIL_FAULT", off := 0x0010, s1 := 0x0, n1 := 1, s2 := 0x0, n2 := 1, skip := [], reset := 0x0, img := 0x0, otp := 0x0,
    fields := [⟨7,4,.ro,.any⟩, ⟨3,0,.ro,.any⟩] },
  { name := "PWR.RUN_NEED", off := 0x0014, s1 := 0x0, n1 := 1, s2 := 0x0, n2 := 1, skip := [], reset := 0x0, img := 0xFFFFFFFF, otp := 0x0,
    fields := [⟨31,0,.rw,.any⟩] },
  { name := "PWR.D_CTL", off := 0x0120, s1 := 0x20, n1 := 22, s2 := 0x0, n2 := 1, skip := [], reset := 0x0, img := 0x130, otp := 0x0,
    fields := [⟨8,8,.rw,.any⟩, ⟨5,4,.rw,.any⟩, ⟨1,0,.rw,(.not 3)⟩] },
  { name := "PWR.D_STAT", off := 0x0124, s1 := 0x20, n1 := 22, s2 := 0x0, n2 := 1, skip := [], reset := 0x0, img := 0x0, otp := 0x0,
    fields := [⟨31,29,.ro,.any⟩, ⟨27,24,.ro,.any⟩, ⟨3,3,.w1c,.any⟩, ⟨2,2,.w1c,.any⟩, ⟨1,1,.w1c,.any⟩, ⟨0,0,.w1c,.any⟩] },
  { name := "PWR.D_REFUSER", off := 0x0128, s1 := 0x20, n1 := 22, s2 := 0x0, n2 := 1, skip := [], reset := 0x0, img := 0x0, otp := 0x0,
    fields := [⟨15,12,.ro,.any⟩, ⟨11,0,.ro,.any⟩] },
  { name := "PWR.D_ENTRIES", off := 0x012C, s1 := 0x20, n1 := 22, s2 := 0x0, n2 := 1, skip := [], reset := 0x0, img := 0x0, otp := 0x0,
    fields := [⟨31,0,.ro,.any⟩] },
  { name := "PWR.D_REFUSED", off := 0x0130, s1 := 0x20, n1 := 22, s2 := 0x0, n2 := 1, skip := [], reset := 0x0, img := 0x0, otp := 0x0,
    fields := [⟨31,0,.rc,.any⟩] },
  { name := "PWR.D_ABORTED", off := 0x0134, s1 := 0x20, n1 := 22, s2 := 0x0, n2 := 1, skip := [], reset := 0x0, img := 0x0, otp := 0x0,
    fields := [⟨31,0,.rc,.any⟩] }]

/-- Register list of the PWR block, part 1. -/
def regsPwr1 : List RegDesc := [
  { name := "PWR.D_WAKE_FAIL", off := 0x0138, s1 := 0x20, n1 := 22, s2 := 0x0, n2 := 1, skip := [], reset := 0x0, img := 0x0, otp := 0x0,
    fields := [⟨31,0,.rc,.any⟩] },
  { name := "PWR.D_IMMEDIATE", off := 0x013C, s1 := 0x20, n1 := 22, s2 := 0x0, n2 := 1, skip := [], reset := 0x0, img := 0x0, otp := 0x0,
    fields := [⟨31,16,.rc,.any⟩, ⟨15,0,.rc,.any⟩] }]

/-- Register list of the PWR block. -/
def regsPwr : List RegDesc := regsPwr0 ++ regsPwr1

/-- Register list of the CLK block. -/
def regsClk : List RegDesc := [
  { name := "CLK.CTL", off := 0x0000, s1 := 0x0, n1 := 1, s2 := 0x0, n2 := 1, skip := [], reset := 0x40000000, img := 0x0, otp := 0x0,
    fields := [⟨31,31,.w1s,.any⟩, ⟨30,30,.rw,.any⟩, ⟨29,29,.w1s,.any⟩] },
  { name := "CLK.STAT", off := 0x0004, s1 := 0x0, n1 := 1, s2 := 0x0, n2 := 1, skip := [], reset := 0x0, img := 0x0, otp := 0x0,
    fields := [⟨31,31,.ro,.any⟩, ⟨30,30,.ro,.any⟩, ⟨29,29,.ro,.any⟩, ⟨3,3,.w1c,.any⟩, ⟨2,2,.w1c,.any⟩, ⟨1,1,.w1c,.any⟩, ⟨0,0,.w1c,.any⟩] },
  { name := "CLK.REF_CFG", off := 0x0008, s1 := 0x0, n1 := 1, s2 := 0x0, n2 := 1, skip := [], reset := 0x0, img := 0xF, otp := 0x0,
    fields := [⟨31,30,.ro,.any⟩, ⟨3,2,.rw,.not 3⟩, ⟨1,0,.rw,.not 3⟩] },
  { name := "CLK.BAND_CFG", off := 0x000C, s1 := 0x0, n1 := 1, s2 := 0x0, n2 := 1, skip := [], reset := 0x0, img := 0x1, otp := 0x0,
    fields := [⟨0,0,.rw,.any⟩] },
  { name := "CLK.PLL_CTL", off := 0x0010, s1 := 0x10, n1 := 2, s2 := 0x0, n2 := 1, skip := [], reset := 0x0, img := 0x0, otp := 0x0,
    fields := [⟨31,31,.w1s,.any⟩] },
  { name := "CLK.PLL_STAT", off := 0x0014, s1 := 0x10, n1 := 2, s2 := 0x0, n2 := 1, skip := [], reset := 0x0, img := 0x0, otp := 0x0,
    fields := [⟨31,31,.ro,.any⟩, ⟨30,30,.ro,.any⟩, ⟨29,29,.ro,.any⟩, ⟨28,28,.ro,.any⟩, ⟨27,27,.ro,.any⟩, ⟨19,16,.ro,.any⟩, ⟨15,0,.ro,.any⟩] },
  { name := "CLK.SWITCHES", off := 0x0030, s1 := 0x0, n1 := 1, s2 := 0x0, n2 := 1, skip := [], reset := 0x0, img := 0x0, otp := 0x0,
    fields := [⟨31,0,.rc,.any⟩] },
  { name := "CLK.SYNC_PHASE", off := 0x0034, s1 := 0x0, n1 := 1, s2 := 0x0, n2 := 1, skip := [], reset := 0x0, img := 0x0, otp := 0x0,
    fields := [⟨9,0,.ro,.any⟩] },
  { name := "CLK.BAND", off := 0x0040, s1 := 0x4, n1 := 16, s2 := 0x0, n2 := 1, skip := [], reset := 0x0, img := 0x0, otp := 0xFFFFFFFD,
    fields := [⟨31,2,.rw,.any⟩, ⟨0,0,.rw,.any⟩] },
  { name := "CLK.IMG_BAND", off := 0x0080, s1 := 0x4, n1 := 16, s2 := 0x0, n2 := 1, skip := [], reset := 0x0, img := 0xFFFFFFFD, otp := 0x0,
    fields := [⟨31,2,.rw,.any⟩, ⟨0,0,.rw,.any⟩] },
  { name := "CLK.CLKOUT_CFG", off := 0x00C0, s1 := 0x4, n1 := 4, s2 := 0x0, n2 := 1, skip := [], reset := 0x0, img := 0xF0FFFFFF, otp := 0x0,
    fields := [⟨31,31,.rw,.any⟩, ⟨30,29,.rw,.any⟩, ⟨28,28,.rw,.any⟩, ⟨23,12,.rw,.any⟩, ⟨11,0,.rw,.any⟩] }]

/-- Register list of the IRQ block, part 0. -/
def regsIrq0 : List RegDesc := [
  { name := "IRQ.D_CTL", off := 0x0100, s1 := 0x40, n1 := 4, s2 := 0x0, n2 := 1, skip := [], reset := 0x0, img := 0x3, otp := 0x0,
    fields := [⟨31,31,.w1s,.any⟩, ⟨1,0,.rw,.any⟩] },
  { name := "IRQ.D_STAT", off := 0x0104, s1 := 0x40, n1 := 4, s2 := 0x0, n2 := 1, skip := [], reset := 0x0, img := 0x0, otp := 0x0,
    fields := [⟨31,31,.ro,.any⟩, ⟨30,29,.ro,.any⟩, ⟨28,28,.w1c,.any⟩, ⟨27,24,.ro,.any⟩, ⟨7,0,.rc,.any⟩] },
  { name := "IRQ.D_STACK", off := 0x0108, s1 := 0x40, n1 := 4, s2 := 0x0, n2 := 1, skip := [], reset := 0x0, img := 0x0, otp := 0x0,
    fields := [⟨31,31,.ro,.any⟩, ⟨25,16,.ro,.any⟩, ⟨15,15,.ro,.any⟩, ⟨9,0,.ro,.any⟩] },
  { name := "IRQ.D_WD_CFG", off := 0x010C, s1 := 0x40, n1 := 4, s2 := 0x0, n2 := 1, skip := [], reset := 0x0, img := 0x8001FFFF, otp := 0x0,
    fields := [⟨31,31,.w1s,.any⟩, ⟨16,0,.rw,(.range 10 100000)⟩] },
  { name := "IRQ.D_WD_KICK", off := 0x0110, s1 := 0x40, n1 := 4, s2 := 0x0, n2 := 1, skip := [], reset := 0x0, img := 0x0, otp := 0x0,
    fields := [⟨31,0,.wo,.any⟩] },
  { name := "IRQ.D_WD_EXPIRIES", off := 0x0114, s1 := 0x40, n1 := 4, s2 := 0x0, n2 := 1, skip := [], reset := 0x0, img := 0x0, otp := 0x0,
    fields := [⟨31,0,.rc,.any⟩] },
  { name := "IRQ.D_RESTARTS", off := 0x0118, s1 := 0x40, n1 := 4, s2 := 0x0, n2 := 1, skip := [], reset := 0x0, img := 0x0, otp := 0x0,
    fields := [⟨31,0,.ro,.any⟩] },
  { name := "IRQ.D_COALESCED", off := 0x011C, s1 := 0x40, n1 := 4, s2 := 0x0, n2 := 1, skip := [], reset := 0x0, img := 0x0, otp := 0x0,
    fields := [⟨31,0,.rc,.any⟩] },
  { name := "IRQ.BERR_ADDR", off := 0x0200, s1 := 0x0, n1 := 1, s2 := 0x0, n2 := 1, skip := [], reset := 0x0, img := 0x0, otp := 0x0,
    fields := [⟨31,0,.ro,.any⟩] },
  { name := "IRQ.BERR_INFO", off := 0x0204, s1 := 0x0, n1 := 1, s2 := 0x0, n2 := 1, skip := [], reset := 0x0, img := 0x0, otp := 0x0,
    fields := [⟨31,28,.ro,.any⟩, ⟨3,0,.ro,.any⟩] },
  { name := "IRQ.BERR_COUNT", off := 0x0208, s1 := 0x0, n1 := 1, s2 := 0x0, n2 := 1, skip := [], reset := 0x0, img := 0x0, otp := 0x0,
    fields := [⟨31,0,.rc,.any⟩] },
  { name := "IRQ.PEND", off := 0x0400, s1 := 0x4, n1 := 32, s2 := 0x0, n2 := 1, skip := [], reset := 0x0, img := 0x0, otp := 0x0,
    fields := [⟨31,0,.w1c,.any⟩] }]

/-- Register list of the IRQ block, part 1. -/
def regsIrq1 : List RegDesc := [
  { name := "IRQ.ACTIVE", off := 0x0480, s1 := 0x4, n1 := 32, s2 := 0x0, n2 := 1, skip := [], reset := 0x0, img := 0x0, otp := 0x0,
    fields := [⟨31,0,.ro,.any⟩] },
  { name := "IRQ.RAISE", off := 0x0500, s1 := 0x4, n1 := 32, s2 := 0x0, n2 := 1, skip := [], reset := 0x0, img := 0x0, otp := 0x0,
    fields := [⟨31,0,.w1s,.any⟩] },
  { name := "IRQ.SRC_CFG", off := 0x1000, s1 := 0x4, n1 := 1024, s2 := 0x0, n2 := 1, skip := [], reset := 0x0, img := 0xF0000007, otp := 0x0,
    fields := [⟨31,31,.rw,.any⟩, ⟨30,30,.rw,.any⟩, ⟨29,28,.rw,.any⟩, ⟨2,0,.rw,.any⟩] }]

/-- Register list of the IRQ block. -/
def regsIrq : List RegDesc := regsIrq0 ++ regsIrq1

/-- Register list of the SNAP block, part 0. -/
def regsSnap0 : List RegDesc := [
  { name := "SNAP.CTL", off := 0x0000, s1 := 0x0, n1 := 1, s2 := 0x0, n2 := 1, skip := [], reset := 0x0, img := 0x3, otp := 0x0,
    fields := [⟨31,31,.w1s,.any⟩, ⟨30,30,.w1s,.any⟩, ⟨1,1,.rw,.any⟩, ⟨0,0,.rw,.any⟩] },
  { name := "SNAP.STAT", off := 0x0004, s1 := 0x0, n1 := 1, s2 := 0x0, n2 := 1, skip := [], reset := 0x0, img := 0x0, otp := 0x0,
    fields := [⟨31,31,.ro,.any⟩, ⟨7,0,.ro,.any⟩] },
  { name := "SNAP.SEQ", off := 0x0008, s1 := 0x0, n1 := 1, s2 := 0x0, n2 := 1, skip := [], reset := 0x0, img := 0x0, otp := 0x0,
    fields := [⟨31,0,.ro,.any⟩] },
  { name := "SNAP.MISSED", off := 0x000C, s1 := 0x0, n1 := 1, s2 := 0x0, n2 := 1, skip := [], reset := 0x0, img := 0x0, otp := 0x0,
    fields := [⟨31,0,.rc,.any⟩] },
  { name := "SNAP.TIME_LO", off := 0x0010, s1 := 0x0, n1 := 1, s2 := 0x0, n2 := 1, skip := [], reset := 0x0, img := 0x0, otp := 0x0,
    fields := [⟨31,0,.ro,.any⟩] },
  { name := "SNAP.TIME_HI", off := 0x0014, s1 := 0x0, n1 := 1, s2 := 0x0, n2 := 1, skip := [], reset := 0x0, img := 0x0, otp := 0x0,
    fields := [⟨31,0,.ro,.any⟩] },
  { name := "SNAP.SH_TRACK", off := 0x0100, s1 := 0x20, n1 := 2, s2 := 0x4, n2 := 5, skip := [], reset := 0x0, img := 0x0, otp := 0x0,
    fields := [⟨31,0,.ro,.any⟩] },
  { name := "SNAP.SH_DOM", off := 0x0140, s1 := 0x8, n1 := 3, s2 := 0x4, n2 := 2, skip := [], reset := 0x0, img := 0x0, otp := 0x0,
    fields := [⟨31,0,.ro,.any⟩] },
  { name := "SNAP.SH_T_ANGLE", off := 0x0160, s1 := 0x0, n1 := 1, s2 := 0x0, n2 := 1, skip := [], reset := 0x0, img := 0x0, otp := 0x0,
    fields := [⟨31,0,.ro,.any⟩] },
  { name := "SNAP.SH_T_REV", off := 0x0164, s1 := 0x0, n1 := 1, s2 := 0x0, n2 := 1, skip := [], reset := 0x0, img := 0x0, otp := 0x0,
    fields := [⟨31,0,.ro,.any⟩] },
  { name := "SNAP.SH_POOL_FREE", off := 0x0168, s1 := 0x0, n1 := 1, s2 := 0x0, n2 := 1, skip := [], reset := 0x0, img := 0x0, otp := 0x0,
    fields := [⟨31,0,.ro,.any⟩] },
  { name := "SNAP.SH_POOL_IN_USE", off := 0x016C, s1 := 0x0, n1 := 1, s2 := 0x0, n2 := 1, skip := [], reset := 0x0, img := 0x0, otp := 0x0,
    fields := [⟨31,0,.ro,.any⟩] }]

/-- Register list of the SNAP block, part 1. -/
def regsSnap1 : List RegDesc := [
  { name := "SNAP.SH_MODE", off := 0x0170, s1 := 0x0, n1 := 1, s2 := 0x0, n2 := 1, skip := [], reset := 0x0, img := 0x0, otp := 0x0,
    fields := [⟨31,0,.ro,.any⟩] },
  { name := "SNAP.SH_SPARED", off := 0x0174, s1 := 0x0, n1 := 1, s2 := 0x0, n2 := 1, skip := [], reset := 0x0, img := 0x0, otp := 0x0,
    fields := [⟨31,0,.ro,.any⟩] },
  { name := "SNAP.SH_RES", off := 0x0200, s1 := 0x4, n1 := 128, s2 := 0x0, n2 := 1, skip := [], reset := 0x0, img := 0x0, otp := 0x0,
    fields := [⟨31,0,.ro,.any⟩] },
  { name := "SNAP.SH_MON", off := 0x0400, s1 := 0x4, n1 := 9, s2 := 0x0, n2 := 1, skip := [], reset := 0x0, img := 0x0, otp := 0x0,
    fields := [⟨31,0,.ro,.any⟩] },
  { name := "SNAP.SH_C_STAT", off := 0x0800, s1 := 0x4, n1 := 132, s2 := 0x0, n2 := 1, skip := [], reset := 0x0, img := 0x0, otp := 0x0,
    fields := [⟨31,0,.ro,.any⟩] },
  { name := "SNAP.SH_C_EVENTS", off := 0x0C00, s1 := 0x4, n1 := 132, s2 := 0x0, n2 := 1, skip := [], reset := 0x0, img := 0x0, otp := 0x0,
    fields := [⟨31,0,.ro,.any⟩] },
  { name := "SNAP.SH_LANE", off := 0x1000, s1 := 0x10, n1 := 256, s2 := 0x4, n2 := 4, skip := [], reset := 0x0, img := 0x0, otp := 0x0,
    fields := [⟨31,0,.ro,.any⟩] }]

/-- Register list of the SNAP block. -/
def regsSnap : List RegDesc := regsSnap0 ++ regsSnap1

/-- Register list of the ECC block, part 0. -/
def regsEcc0 : List RegDesc := [
  { name := "ECC.CTL", off := 0x0000, s1 := 0x0, n1 := 1, s2 := 0x0, n2 := 1, skip := [], reset := 0x80000000, img := 0x0, otp := 0x0,
    fields := [⟨31,31,.rw,.any⟩] },
  { name := "ECC.STAT", off := 0x0004, s1 := 0x0, n1 := 1, s2 := 0x0, n2 := 1, skip := [], reset := 0x0, img := 0x0, otp := 0x0,
    fields := [⟨3,3,.w1c,.any⟩, ⟨2,2,.w1c,.any⟩, ⟨1,1,.w1c,.any⟩, ⟨0,0,.w1c,.any⟩] },
  { name := "ECC.CORR_COUNT", off := 0x0008, s1 := 0x0, n1 := 1, s2 := 0x0, n2 := 1, skip := [], reset := 0x0, img := 0x0, otp := 0x0,
    fields := [⟨31,0,.rc,.any⟩] },
  { name := "ECC.UNCORR_COUNT", off := 0x000C, s1 := 0x0, n1 := 1, s2 := 0x0, n2 := 1, skip := [], reset := 0x0, img := 0x0, otp := 0x0,
    fields := [⟨31,0,.rc,.any⟩] },
  { name := "ECC.LAST_CORR", off := 0x0010, s1 := 0x0, n1 := 1, s2 := 0x0, n2 := 1, skip := [], reset := 0x0, img := 0x0, otp := 0x0,
    fields := [⟨31,0,.ro,.any⟩] },
  { name := "ECC.LAST_UNCORR", off := 0x0014, s1 := 0x0, n1 := 1, s2 := 0x0, n2 := 1, skip := [], reset := 0x0, img := 0x0, otp := 0x0,
    fields := [⟨31,0,.ro,.any⟩] },
  { name := "ECC.LAST_INFO", off := 0x0018, s1 := 0x0, n1 := 1, s2 := 0x0, n2 := 1, skip := [], reset := 0x0, img := 0x0, otp := 0x0,
    fields := [⟨31,28,.ro,.any⟩, ⟨27,25,.ro,.any⟩, ⟨17,16,.ro,.any⟩, ⟨7,4,.ro,.any⟩, ⟨3,0,.ro,.any⟩] },
  { name := "ECC.FORCED", off := 0x001C, s1 := 0x0, n1 := 1, s2 := 0x0, n2 := 1, skip := [], reset := 0x0, img := 0x0, otp := 0x0,
    fields := [⟨31,0,.rc,.any⟩] },
  { name := "ECC.SCRUB_START", off := 0x0100, s1 := 0x0, n1 := 1, s2 := 0x0, n2 := 1, skip := [], reset := 0x0, img := 0x0, otp := 0x0,
    fields := [⟨31,0,.rw,.any⟩] },
  { name := "ECC.SCRUB_END", off := 0x0104, s1 := 0x0, n1 := 1, s2 := 0x0, n2 := 1, skip := [], reset := 0x0, img := 0x0, otp := 0x0,
    fields := [⟨31,0,.rw,.any⟩] },
  { name := "ECC.SCRUB_CTL", off := 0x0108, s1 := 0x0, n1 := 1, s2 := 0x0, n2 := 1, skip := [], reset := 0x0, img := 0x0, otp := 0x0,
    fields := [⟨31,31,.w1s,.any⟩, ⟨30,30,.w1s,.any⟩, ⟨1,0,.rw,(.range 0 1)⟩] },
  { name := "ECC.SCRUB_STAT", off := 0x010C, s1 := 0x0, n1 := 1, s2 := 0x0, n2 := 1, skip := [], reset := 0x0, img := 0x0, otp := 0x0,
    fields := [⟨31,30,.ro,.any⟩, ⟨29,29,.w1c,.any⟩, ⟨3,0,.ro,.any⟩] }]

/-- Register list of the ECC block, part 1. -/
def regsEcc1 : List RegDesc := [
  { name := "ECC.SCRUB_FILL_LO", off := 0x0110, s1 := 0x0, n1 := 1, s2 := 0x0, n2 := 1, skip := [], reset := 0x0, img := 0x0, otp := 0x0,
    fields := [⟨31,0,.rw,.any⟩] },
  { name := "ECC.SCRUB_FILL_HI", off := 0x0114, s1 := 0x0, n1 := 1, s2 := 0x0, n2 := 1, skip := [], reset := 0x0, img := 0x0, otp := 0x0,
    fields := [⟨31,0,.rw,.any⟩] },
  { name := "ECC.SCRUB_CORR", off := 0x0118, s1 := 0x0, n1 := 1, s2 := 0x0, n2 := 1, skip := [], reset := 0x0, img := 0x0, otp := 0x0,
    fields := [⟨31,0,.ro,.any⟩] },
  { name := "ECC.SCRUB_UNC", off := 0x011C, s1 := 0x0, n1 := 1, s2 := 0x0, n2 := 1, skip := [], reset := 0x0, img := 0x0, otp := 0x0,
    fields := [⟨31,0,.ro,.any⟩] },
  { name := "ECC.SCRUB_POS", off := 0x0120, s1 := 0x0, n1 := 1, s2 := 0x0, n2 := 1, skip := [], reset := 0x0, img := 0x0, otp := 0x0,
    fields := [⟨31,0,.ro,.any⟩] },
  { name := "ECC.SCRUB_UADDR", off := 0x0140, s1 := 0x4, n1 := 16, s2 := 0x0, n2 := 1, skip := [], reset := 0x0, img := 0x0, otp := 0x0,
    fields := [⟨31,0,.ro,.any⟩] },
  { name := "ECC.LAP", off := 0x0200, s1 := 0x8, n1 := 6, s2 := 0x0, n2 := 1, skip := [], reset := 0x0, img := 0x0, otp := 0x0,
    fields := [⟨31,0,.ro,.any⟩] },
  { name := "ECC.LAP_WORST", off := 0x0204, s1 := 0x8, n1 := 6, s2 := 0x0, n2 := 1, skip := [], reset := 0x0, img := 0x0, otp := 0x0,
    fields := [⟨31,0,.rc,.any⟩] },
  { name := "ECC.IDLE_CORR", off := 0x0280, s1 := 0x0, n1 := 1, s2 := 0x0, n2 := 1, skip := [], reset := 0x0, img := 0x0, otp := 0x0,
    fields := [⟨31,0,.rc,.any⟩] },
  { name := "ECC.IDLE_UNC", off := 0x0284, s1 := 0x0, n1 := 1, s2 := 0x0, n2 := 1, skip := [], reset := 0x0, img := 0x0, otp := 0x0,
    fields := [⟨31,0,.rc,.any⟩] },
  { name := "ECC.IDLE_UADDR", off := 0x0288, s1 := 0x0, n1 := 1, s2 := 0x0, n2 := 1, skip := [], reset := 0x0, img := 0x0, otp := 0x0,
    fields := [⟨31,0,.ro,.any⟩] }]

/-- Register list of the ECC block. -/
def regsEcc : List RegDesc := regsEcc0 ++ regsEcc1

/-- Register list of the BIST block, part 0. -/
def regsBist0 : List RegDesc := [
  { name := "BIST.CTL", off := 0x0000, s1 := 0x0, n1 := 1, s2 := 0x0, n2 := 1, skip := [], reset := 0x0, img := 0x80000000, otp := 0x0,
    fields := [⟨31,31,.rw,.any⟩, ⟨30,30,.w1s,.any⟩] },
  { name := "BIST.CFG", off := 0x0004, s1 := 0x0, n1 := 1, s2 := 0x0, n2 := 1, skip := [], reset := 0x0, img := 0xFFFF03FF, otp := 0x0,
    fields := [⟨31,16,.rw,(.range 1 65535)⟩, ⟨9,0,.rw,(.range 10 1000)⟩] },
  { name := "BIST.STAT", off := 0x0008, s1 := 0x0, n1 := 1, s2 := 0x0, n2 := 1, skip := [], reset := 0x0, img := 0x0, otp := 0x0,
    fields := [⟨31,30,.ro,.any⟩, ⟨29,29,.w1c,.any⟩, ⟨28,28,.ro,.any⟩, ⟨27,24,.ro,.any⟩, ⟨23,16,.ro,.any⟩, ⟨15,0,.ro,.any⟩] },
  { name := "BIST.MAN", off := 0x000C, s1 := 0x0, n1 := 1, s2 := 0x0, n2 := 1, skip := [], reset := 0x0, img := 0x0, otp := 0x0,
    fields := [⟨31,28,.rw,.any⟩, ⟨15,0,.rw,.any⟩] },
  { name := "BIST.LAST", off := 0x0010, s1 := 0x0, n1 := 1, s2 := 0x0, n2 := 1, skip := [], reset := 0x0, img := 0x0, otp := 0x0,
    fields := [⟨31,28,.ro,.any⟩, ⟨27,26,.ro,.any⟩, ⟨25,25,.ro,.any⟩, ⟨23,20,.ro,.any⟩, ⟨15,0,.ro,.any⟩] },
  { name := "BIST.MISR_LO", off := 0x0014, s1 := 0x0, n1 := 1, s2 := 0x0, n2 := 1, skip := [], reset := 0x0, img := 0x0, otp := 0x0,
    fields := [⟨31,0,.ro,.any⟩] },
  { name := "BIST.MISR_HI", off := 0x0018, s1 := 0x0, n1 := 1, s2 := 0x0, n2 := 1, skip := [], reset := 0x0, img := 0x0, otp := 0x0,
    fields := [⟨31,0,.ro,.any⟩] },
  { name := "BIST.PASSES", off := 0x001C, s1 := 0x0, n1 := 1, s2 := 0x0, n2 := 1, skip := [], reset := 0x0, img := 0x0, otp := 0x0,
    fields := [⟨31,0,.ro,.any⟩] },
  { name := "BIST.FAILS", off := 0x0020, s1 := 0x0, n1 := 1, s2 := 0x0, n2 := 1, skip := [], reset := 0x0, img := 0x0, otp := 0x0,
    fields := [⟨31,0,.rc,.any⟩] },
  { name := "BIST.INCOMPLETES", off := 0x0024, s1 := 0x0, n1 := 1, s2 := 0x0, n2 := 1, skip := [], reset := 0x0, img := 0x0, otp := 0x0,
    fields := [⟨31,0,.rc,.any⟩] },
  { name := "BIST.SKIPS", off := 0x0028, s1 := 0x0, n1 := 1, s2 := 0x0, n2 := 1, skip := [], reset := 0x0, img := 0x0, otp := 0x0,
    fields := [⟨31,0,.rc,.any⟩] },
  { name := "BIST.LAP_S", off := 0x002C, s1 := 0x0, n1 := 1, s2 := 0x0, n2 := 1, skip := [], reset := 0x0, img := 0x0, otp := 0x0,
    fields := [⟨31,0,.ro,.any⟩] }]

/-- Register list of the BIST block, part 1. -/
def regsBist1 : List RegDesc := [
  { name := "BIST.TRACT_USE", off := 0x0030, s1 := 0x0, n1 := 1, s2 := 0x0, n2 := 1, skip := [], reset := 0x0, img := 0x0, otp := 0x0,
    fields := [⟨31,31,.rw,.any⟩, ⟨7,0,.rw,.any⟩] },
  { name := "BIST.REF_LO", off := 0x0040, s1 := 0x8, n1 := 6, s2 := 0x0, n2 := 1, skip := [], reset := 0x0, img := 0xFFFFFFFF, otp := 0x0,
    fields := [⟨31,0,.rw,.any⟩] },
  { name := "BIST.REF_HI", off := 0x0044, s1 := 0x8, n1 := 6, s2 := 0x0, n2 := 1, skip := [], reset := 0x0, img := 0xFFFFFFFF, otp := 0x0,
    fields := [⟨31,0,.rw,.any⟩] },
  { name := "BIST.TRACT_BAD", off := 0x0100, s1 := 0x4, n1 := 8, s2 := 0x0, n2 := 1, skip := [], reset := 0x0, img := 0x0, otp := 0x0,
    fields := [⟨31,0,.ro,.any⟩] },
  { name := "BIST.PLAN", off := 0x0400, s1 := 0x4, n1 := 256, s2 := 0x0, n2 := 1, skip := [], reset := 0x0, img := 0xFFFFFFFF, otp := 0x0,
    fields := [⟨31,28,.rw,(.range 0 6)⟩, ⟨27,16,.rw,.any⟩, ⟨15,0,.rw,.any⟩] }]

/-- Register list of the BIST block. -/
def regsBist : List RegDesc := regsBist0 ++ regsBist1

/-- Register list of the SEC block, part 0. -/
def regsSec0 : List RegDesc := [
  { name := "SEC.STAT", off := 0x0000, s1 := 0x0, n1 := 1, s2 := 0x0, n2 := 1, skip := [], reset := 0x0, img := 0x0, otp := 0xFF0F,
    fields := [⟨15,8,.ro,.any⟩, ⟨3,3,.ro,.any⟩, ⟨2,2,.ro,.any⟩, ⟨1,0,.ro,.any⟩] },
  { name := "SEC.SLOT_FLAGS", off := 0x0004, s1 := 0x0, n1 := 1, s2 := 0x0, n2 := 1, skip := [], reset := 0x0, img := 0x0, otp := 0xFFFFFFFF,
    fields := [⟨31,0,.ro,.any⟩] },
  { name := "SEC.SVC_CTL", off := 0x0010, s1 := 0x0, n1 := 1, s2 := 0x0, n2 := 1, skip := [], reset := 0x0, img := 0x0, otp := 0x0,
    fields := [⟨7,4,.w1s,.any⟩, ⟨3,0,.rw,.any⟩] },
  { name := "SEC.SVC_STAT", off := 0x0014, s1 := 0x0, n1 := 1, s2 := 0x0, n2 := 1, skip := [], reset := 0x0, img := 0x0, otp := 0x0,
    fields := [⟨31,30,.ro,.any⟩, ⟨7,0,.ro,.any⟩] },
  { name := "SEC.CHAL_CTL", off := 0x0020, s1 := 0x0, n1 := 1, s2 := 0x0, n2 := 1, skip := [], reset := 0x0, img := 0x0, otp := 0x0,
    fields := [⟨0,0,.wo,.any⟩] },
  { name := "SEC.CHALLENGE", off := 0x0024, s1 := 0x4, n1 := 8, s2 := 0x0, n2 := 1, skip := [], reset := 0x0, img := 0x0, otp := 0x0,
    fields := [⟨31,0,.ro,.any⟩] },
  { name := "SEC.PROV_CTL", off := 0x0080, s1 := 0x0, n1 := 1, s2 := 0x0, n2 := 1, skip := [], reset := 0x0, img := 0x0, otp := 0x0,
    fields := [⟨31,31,.w1s,.any⟩, ⟨30,30,.w1s,.any⟩] },
  { name := "SEC.PROV_STAT", off := 0x0084, s1 := 0x0, n1 := 1, s2 := 0x0, n2 := 1, skip := [], reset := 0x0, img := 0x0, otp := 0x0,
    fields := [⟨31,31,.ro,.any⟩, ⟨3,0,.ro,.any⟩] },
  { name := "SEC.PROV_BUF", off := 0x0100, s1 := 0x4, n1 := 102, s2 := 0x0, n2 := 1, skip := [], reset := 0x0, img := 0x0, otp := 0x0,
    fields := [⟨31,0,.rw,.any⟩] },
  { name := "SEC.ATT_CTL", off := 0x0400, s1 := 0x0, n1 := 1, s2 := 0x0, n2 := 1, skip := [], reset := 0x0, img := 0x0, otp := 0x0,
    fields := [⟨31,31,.w1s,.any⟩] },
  { name := "SEC.ATT_STAT", off := 0x0404, s1 := 0x0, n1 := 1, s2 := 0x0, n2 := 1, skip := [], reset := 0x0, img := 0x0, otp := 0x0,
    fields := [⟨31,31,.ro,.any⟩, ⟨30,30,.ro,.any⟩, ⟨0,0,.ro,.any⟩] },
  { name := "SEC.ATT_NONCE", off := 0x0420, s1 := 0x4, n1 := 8, s2 := 0x0, n2 := 1, skip := [], reset := 0x0, img := 0x0, otp := 0x0,
    fields := [⟨31,0,.rw,.any⟩] }]

/-- Register list of the SEC block, part 1. -/
def regsSec1 : List RegDesc := [
  { name := "SEC.ATT_REP", off := 0x0500, s1 := 0x4, n1 := 70, s2 := 0x0, n2 := 1, skip := [], reset := 0x0, img := 0x0, otp := 0x0,
    fields := [⟨31,0,.ro,.any⟩] },
  { name := "SEC.AUTH_REFUSED", off := 0x0600, s1 := 0x0, n1 := 1, s2 := 0x0, n2 := 1, skip := [], reset := 0x0, img := 0x0, otp := 0x0,
    fields := [⟨31,0,.rc,.any⟩] },
  { name := "SEC.OPEN_DROP", off := 0x0604, s1 := 0x0, n1 := 1, s2 := 0x0, n2 := 1, skip := [], reset := 0x0, img := 0x0, otp := 0x0,
    fields := [⟨31,0,.rc,.any⟩] },
  { name := "SEC.UNLOCK_FAIL", off := 0x0608, s1 := 0x0, n1 := 1, s2 := 0x0, n2 := 1, skip := [], reset := 0x0, img := 0x0, otp := 0x0,
    fields := [⟨31,0,.rc,.any⟩] }]

/-- Register list of the SEC block. -/
def regsSec : List RegDesc := regsSec0 ++ regsSec1

/-- Register list of the GPIO block, part 0. -/
def regsGpio0 : List RegDesc := [
  { name := "GPIO.GP_CFG", off := 0x0000, s1 := 0x4, n1 := 128, s2 := 0x0, n2 := 1, skip := [], reset := 0x0, img := 0xFFFFF3BF, otp := 0x0,
    fields := [⟨31,28,.rw,.any⟩, ⟨27,24,.rw,.any⟩, ⟨23,22,.rw,(.not 3)⟩, ⟨21,21,.rw,.any⟩, ⟨20,19,.rw,.any⟩, ⟨18,16,.rw,(.range 0 5)⟩, ⟨15,14,.rw,(.not 3)⟩, ⟨13,13,.rw,.any⟩, ⟨12,12,.rw,.any⟩, ⟨9,8,.rw,(.not 3)⟩, ⟨7,7,.rw,.any⟩, ⟨5,4,.rw,.any⟩, ⟨3,0,.rw,.any⟩] },
  { name := "GPIO.OUT", off := 0x0400, s1 := 0x20, n1 := 8, s2 := 0x0, n2 := 1, skip := [], reset := 0x0, img := 0xFFFF, otp := 0x0,
    fields := [⟨15,0,.rw,.any⟩] },
  { name := "GPIO.OUT_SET", off := 0x0404, s1 := 0x20, n1 := 8, s2 := 0x0, n2 := 1, skip := [], reset := 0x0, img := 0x0, otp := 0x0,
    fields := [⟨15,0,.w1s,.any⟩] },
  { name := "GPIO.OUT_CLR", off := 0x0408, s1 := 0x20, n1 := 8, s2 := 0x0, n2 := 1, skip := [], reset := 0x0, img := 0x0, otp := 0x0,
    fields := [⟨15,0,.w1c,.any⟩] },
  { name := "GPIO.OUT_TGL", off := 0x040C, s1 := 0x20, n1 := 8, s2 := 0x0, n2 := 1, skip := [], reset := 0x0, img := 0x0, otp := 0x0,
    fields := [⟨15,0,.wo,.any⟩] },
  { name := "GPIO.OE", off := 0x0410, s1 := 0x20, n1 := 8, s2 := 0x0, n2 := 1, skip := [], reset := 0x0, img := 0xFFFF, otp := 0x0,
    fields := [⟨15,0,.rw,.any⟩] },
  { name := "GPIO.IN", off := 0x0414, s1 := 0x20, n1 := 8, s2 := 0x0, n2 := 1, skip := [], reset := 0x0, img := 0x0, otp := 0x0,
    fields := [⟨15,0,.ro,.any⟩] },
  { name := "GPIO.IRQ_STAT", off := 0x0418, s1 := 0x20, n1 := 8, s2 := 0x0, n2 := 1, skip := [], reset := 0x0, img := 0x0, otp := 0x0,
    fields := [⟨15,0,.w1c,.any⟩] },
  { name := "GPIO.PORT_CFG", off := 0x0600, s1 := 0x10, n1 := 8, s2 := 0x0, n2 := 1, skip := [], reset := 0x0, img := 0xCFFF000F, otp := 0x0,
    fields := [⟨31,30,.rw,.any⟩, ⟨27,16,.rw,.any⟩, ⟨3,0,.rw,.any⟩] },
  { name := "GPIO.PORT_TX", off := 0x0604, s1 := 0x10, n1 := 8, s2 := 0x0, n2 := 1, skip := [], reset := 0x0, img := 0x0, otp := 0x0,
    fields := [⟨11,8,.wo,.any⟩, ⟨7,0,.wo,.any⟩] },
  { name := "GPIO.PORT_RX", off := 0x0608, s1 := 0x10, n1 := 8, s2 := 0x0, n2 := 1, skip := [], reset := 0x0, img := 0x0, otp := 0x0,
    fields := [⟨31,31,.rc,.any⟩, ⟨7,0,.rc,.any⟩] },
  { name := "GPIO.PORT_STAT", off := 0x060C, s1 := 0x10, n1 := 8, s2 := 0x0, n2 := 1, skip := [], reset := 0x0, img := 0x0, otp := 0x0,
    fields := [⟨20,16,.ro,.any⟩, ⟨12,8,.ro,.any⟩, ⟨4,4,.w1c,.any⟩, ⟨3,3,.w1c,.any⟩, ⟨2,2,.w1c,.any⟩, ⟨1,1,.w1c,.any⟩, ⟨0,0,.ro,.any⟩] }]

/-- Register list of the GPIO block, part 1. -/
def regsGpio1 : List RegDesc := [
  { name := "GPIO.PWM", off := 0x0700, s1 := 0x4, n1 := 8, s2 := 0x0, n2 := 1, skip := [], reset := 0x0, img := 0xFFFFFFFF, otp := 0x0,
    fields := [⟨31,16,.rw,.any⟩, ⟨15,0,.rw,.any⟩] },
  { name := "GPIO.CAP_INFO", off := 0x0740, s1 := 0x8, n1 := 8, s2 := 0x0, n2 := 1, skip := [], reset := 0x0, img := 0x0, otp := 0x0,
    fields := [⟨31,31,.ro,.any⟩, ⟨30,30,.ro,.any⟩, ⟨4,4,.ro,.any⟩, ⟨3,0,.ro,.any⟩] },
  { name := "GPIO.CAP_TIME", off := 0x0744, s1 := 0x8, n1 := 8, s2 := 0x0, n2 := 1, skip := [], reset := 0x0, img := 0x0, otp := 0x0,
    fields := [⟨31,0,.rc,.any⟩] },
  { name := "GPIO.STRAPS", off := 0x0800, s1 := 0x0, n1 := 1, s2 := 0x0, n2 := 1, skip := [], reset := 0x0, img := 0x0, otp := 0x0,
    fields := [⟨1,1,.ro,.any⟩, ⟨0,0,.ro,.any⟩] },
  { name := "GPIO.BANK_STAT", off := 0x0804, s1 := 0x0, n1 := 1, s2 := 0x0, n2 := 1, skip := [], reset := 0x0, img := 0x0, otp := 0x0,
    fields := [⟨31,0,.ro,.any⟩] }]

/-- Register list of the GPIO block. -/
def regsGpio : List RegDesc := regsGpio0 ++ regsGpio1

/-- The register list of block `b`, numbered by its place in the map of R11: block b lies at 0x1000_0000 + b × 0x1_0000. -/
def blockRegs : Nat → List RegDesc
  | 0 => regsSys
  | 16 => regsWheel
  | 18 => regsCht
  | 17 => regsLane
  | 12 => regsMeas
  | 13 => regsNet
  | 14 => regsIvw
  | 15 => regsEmn
  | 19 => regsFab
  | 3 => regsCfg
  | 4 => regsFlash
  | 5 => regsOtp
  | 1 => regsPwr
  | 2 => regsClk
  | 6 => regsIrq
  | 7 => regsSnap
  | 8 => regsEcc
  | 9 => regsBist
  | 10 => regsSec
  | 11 => regsGpio
  | _ => []

abbrev R.SYS_IDCODE : Nat := 0x10000000
abbrev F.SYS_IDCODE_STEPPING : FieldAt := ⟨R.SYS_IDCODE, 31, 28⟩
abbrev F.SYS_IDCODE_PART : FieldAt := ⟨R.SYS_IDCODE, 27, 12⟩
abbrev F.SYS_IDCODE_MFR : FieldAt := ⟨R.SYS_IDCODE, 11, 1⟩
abbrev F.SYS_IDCODE_ONE : FieldAt := ⟨R.SYS_IDCODE, 0, 0⟩
abbrev R.SYS_MODE : Nat := 0x10000010
abbrev F.SYS_MODE_GOLDEN : FieldAt := ⟨R.SYS_MODE, 16, 16⟩
abbrev F.SYS_MODE_CAUSE : FieldAt := ⟨R.SYS_MODE, 15, 8⟩
abbrev F.SYS_MODE_PREV : FieldAt := ⟨R.SYS_MODE, 7, 4⟩
abbrev F.SYS_MODE_MODE : FieldAt := ⟨R.SYS_MODE, 3, 0⟩
abbrev R.SYS_MODE_CTL : Nat := 0x10000014
abbrev F.SYS_MODE_CTL_KEY : FieldAt := ⟨R.SYS_MODE_CTL, 15, 8⟩
abbrev F.SYS_MODE_CTL_REQ : FieldAt := ⟨R.SYS_MODE_CTL, 3, 0⟩
abbrev R.SYS_MODE_STAT : Nat := 0x10000018
abbrev F.SYS_MODE_STAT_LAST_REQ : FieldAt := ⟨R.SYS_MODE_STAT, 7, 4⟩
abbrev F.SYS_MODE_STAT_REFUSED : FieldAt := ⟨R.SYS_MODE_STAT, 0, 0⟩
abbrev R.SYS_SPARED : Nat := 0x1000001C
abbrev F.SYS_SPARED_TRACT : FieldAt := ⟨R.SYS_SPARED, 8, 8⟩
abbrev F.SYS_SPARED_VPHASE : FieldAt := ⟨R.SYS_SPARED, 7, 7⟩
abbrev F.SYS_SPARED_PLLB : FieldAt := ⟨R.SYS_SPARED, 6, 6⟩
abbrev F.SYS_SPARED_LANE_ALT : FieldAt := ⟨R.SYS_SPARED, 5, 5⟩
abbrev F.SYS_SPARED_DRONE : FieldAt := ⟨R.SYS_SPARED, 4, 4⟩
abbrev F.SYS_SPARED_CG : FieldAt := ⟨R.SYS_SPARED, 3, 0⟩
abbrev R.SYS_HOLD_CAUSES : Nat := 0x10000020
abbrev F.SYS_HOLD_CAUSES_FABRIC_HOLD : FieldAt := ⟨R.SYS_HOLD_CAUSES, 6, 6⟩
abbrev F.SYS_HOLD_CAUSES_CLOCK_LOST : FieldAt := ⟨R.SYS_HOLD_CAUSES, 5, 5⟩
abbrev F.SYS_HOLD_CAUSES_VCORE_CAPACITY : FieldAt := ⟨R.SYS_HOLD_CAUSES, 4, 4⟩
abbrev F.SYS_HOLD_CAUSES_HOLDUP : FieldAt := ⟨R.SYS_HOLD_CAUSES, 3, 3⟩
abbrev F.SYS_HOLD_CAUSES_NO_SPARE : FieldAt := ⟨R.SYS_HOLD_CAUSES, 2, 2⟩
abbrev F.SYS_HOLD_CAUSES_WAKE_FAILED : FieldAt := ⟨R.SYS_HOLD_CAUSES, 1, 1⟩
abbrev F.SYS_HOLD_CAUSES_HOLD_REQUEST : FieldAt := ⟨R.SYS_HOLD_CAUSES, 0, 0⟩
abbrev R.WHEEL_SH_CFG (x : Nat) : Nat := 0x10100000 + 0x40 * x
abbrev F.WHEEL_SH_CFG_SRC (x : Nat) : FieldAt := ⟨R.WHEEL_SH_CFG x, 31, 30⟩
abbrev F.WHEEL_SH_CFG_QMODE (x : Nat) : FieldAt := ⟨R.WHEEL_SH_CFG x, 29, 28⟩
abbrev F.WHEEL_SH_CFG_M (x : Nat) : FieldAt := ⟨R.WHEEL_SH_CFG x, 27, 26⟩
abbrev F.WHEEL_SH_CFG_DIR_INV (x : Nat) : FieldAt := ⟨R.WHEEL_SH_CFG x, 25, 25⟩
abbrev F.WHEEL_SH_CFG_INDEX_REQ (x : Nat) : FieldAt := ⟨R.WHEEL_SH_CFG x, 24, 24⟩
abbrev F.WHEEL_SH_CFG_FILT (x : Nat) : FieldAt := ⟨R.WHEEL_SH_CFG x, 23, 20⟩
abbrev R.WHEEL_SH_EDGES (x : Nat) : Nat := 0x10100004 + 0x40 * x
abbrev F.WHEEL_SH_EDGES_E (x : Nat) : FieldAt := ⟨R.WHEEL_SH_EDGES x, 18, 0⟩
abbrev R.WHEEL_SH_SSI (x : Nat) : Nat := 0x10100008 + 0x40 * x
abbrev F.WHEEL_SH_SSI_PERIOD (x : Nat) : FieldAt := ⟨R.WHEEL_SH_SSI x, 31, 22⟩
abbrev F.WHEEL_SH_SSI_WORD_BITS (x : Nat) : FieldAt := ⟨R.WHEEL_SH_SSI x, 21, 16⟩
abbrev F.WHEEL_SH_SSI_POS_BITS (x : Nat) : FieldAt := ⟨R.WHEEL_SH_SSI x, 15, 11⟩
abbrev F.WHEEL_SH_SSI_POS_LSB (x : Nat) : FieldAt := ⟨R.WHEEL_SH_SSI x, 10, 6⟩
abbrev F.WHEEL_SH_SSI_GRAY (x : Nat) : FieldAt := ⟨R.WHEEL_SH_SSI x, 5, 5⟩
abbrev F.WHEEL_SH_SSI_CLK_DIV (x : Nat) : FieldAt := ⟨R.WHEEL_SH_SSI x, 4, 0⟩
abbrev R.WHEEL_SH_ZERO (x : Nat) : Nat := 0x1010000C + 0x40 * x
abbrev F.WHEEL_SH_ZERO_ZERO (x : Nat) : FieldAt := ⟨R.WHEEL_SH_ZERO x, 23, 0⟩
abbrev R.WHEEL_SH_ANGLE (x : Nat) : Nat := 0x10100010 + 0x40 * x
abbrev F.WHEEL_SH_ANGLE_VALID (x : Nat) : FieldAt := ⟨R.WHEEL_SH_ANGLE x, 26, 26⟩
abbrev F.WHEEL_SH_ANGLE_STALLED (x : Nat) : FieldAt := ⟨R.WHEEL_SH_ANGLE x, 25, 25⟩
abbrev F.WHEEL_SH_ANGLE_REVERSE (x : Nat) : FieldAt := ⟨R.WHEEL_SH_ANGLE x, 24, 24⟩
abbrev F.WHEEL_SH_ANGLE_ANGLE (x : Nat) : FieldAt := ⟨R.WHEEL_SH_ANGLE x, 23, 0⟩
abbrev R.WHEEL_SH_REV (x : Nat) : Nat := 0x10100014 + 0x40 * x
abbrev R.WHEEL_SH_SPEED (x : Nat) : Nat := 0x10100018 + 0x40 * x
abbrev R.WHEEL_SH_ACCEL (x : Nat) : Nat := 0x1010001C + 0x40 * x
abbrev R.WHEEL_SH_EDGE_TIME (x : Nat) : Nat := 0x10100020 + 0x40 * x
abbrev R.WHEEL_SH_STAT (x : Nat) : Nat := 0x10100024 + 0x40 * x
abbrev F.WHEEL_SH_STAT_CHAIN_LOST (x : Nat) : FieldAt := ⟨R.WHEEL_SH_STAT x, 7, 7⟩
abbrev F.WHEEL_SH_STAT_SSI_JUMP (x : Nat) : FieldAt := ⟨R.WHEEL_SH_STAT x, 6, 6⟩
abbrev F.WHEEL_SH_STAT_LOSS (x : Nat) : FieldAt := ⟨R.WHEEL_SH_STAT x, 5, 5⟩
abbrev F.WHEEL_SH_STAT_OVERSPEED (x : Nat) : FieldAt := ⟨R.WHEEL_SH_STAT x, 4, 4⟩
abbrev F.WHEEL_SH_STAT_STALL (x : Nat) : FieldAt := ⟨R.WHEEL_SH_STAT x, 3, 3⟩
abbrev F.WHEEL_SH_STAT_INDEX_SLIP (x : Nat) : FieldAt := ⟨R.WHEEL_SH_STAT x, 2, 2⟩
abbrev F.WHEEL_SH_STAT_QUAD_ERR (x : Nat) : FieldAt := ⟨R.WHEEL_SH_STAT x, 1, 1⟩
abbrev F.WHEEL_SH_STAT_REVERSED (x : Nat) : FieldAt := ⟨R.WHEEL_SH_STAT x, 0, 0⟩
abbrev R.WHEEL_SH_QUAD_ERR (x : Nat) : Nat := 0x10100028 + 0x40 * x
abbrev R.WHEEL_SH_INDEX_SLIP (x : Nat) : Nat := 0x1010002C + 0x40 * x
abbrev R.WHEEL_SH_STALL (x : Nat) : Nat := 0x10100030 + 0x40 * x
abbrev F.WHEEL_SH_STALL_US (x : Nat) : FieldAt := ⟨R.WHEEL_SH_STALL x, 15, 0⟩
abbrev R.WHEEL_SH_SSI_DISCARD (x : Nat) : Nat := 0x10100034 + 0x40 * x
abbrev R.WHEEL_TIME_LO : Nat := 0x10100080
abbrev R.WHEEL_TIME_HI : Nat := 0x10100084
abbrev R.WHEEL_DOM_CTL (x : Nat) : Nat := 0x10100100 + 0x20 * x
abbrev F.WHEEL_DOM_CTL_HW_RESET (x : Nat) : FieldAt := ⟨R.WHEEL_DOM_CTL x, 31, 31⟩
abbrev F.WHEEL_DOM_CTL_LATE_TOL (x : Nat) : FieldAt := ⟨R.WHEEL_DOM_CTL x, 26, 16⟩
abbrev F.WHEEL_DOM_CTL_LEAD_CYC (x : Nat) : FieldAt := ⟨R.WHEEL_DOM_CTL x, 15, 0⟩
abbrev R.WHEEL_DOM_LP (x : Nat) : Nat := 0x10100104 + 0x20 * x
abbrev F.WHEEL_DOM_LP_BIN (x : Nat) : FieldAt := ⟨R.WHEEL_DOM_LP x, 23, 12⟩
abbrev F.WHEEL_DOM_LP_PLACE (x : Nat) : FieldAt := ⟨R.WHEEL_DOM_LP x, 11, 0⟩
abbrev R.WHEEL_DOM_HW (x : Nat) : Nat := 0x10100108 + 0x20 * x
abbrev F.WHEEL_DOM_HW_REV (x : Nat) : FieldAt := ⟨R.WHEEL_DOM_HW x, 31, 12⟩
abbrev F.WHEEL_DOM_HW_BIN (x : Nat) : FieldAt := ⟨R.WHEEL_DOM_HW x, 11, 0⟩
abbrev R.WHEEL_DOM_DRAINED (x : Nat) : Nat := 0x1010010C + 0x20 * x
abbrev R.WHEEL_DOM_SKIPPED (x : Nat) : Nat := 0x10100110 + 0x20 * x
abbrev R.WHEEL_DOM_DRAIN_LAG (x : Nat) : Nat := 0x10100114 + 0x20 * x
abbrev R.WHEEL_DOM_LEAD (x : Nat) : Nat := 0x10100118 + 0x20 * x
abbrev R.WHEEL_T_CFG : Nat := 0x10100160
abbrev F.WHEEL_T_CFG_RUN : FieldAt := ⟨R.WHEEL_T_CFG, 31, 31⟩
abbrev F.WHEEL_T_CFG_START_SYNC : FieldAt := ⟨R.WHEEL_T_CFG, 30, 30⟩
abbrev F.WHEEL_T_CFG_TICK_CYC : FieldAt := ⟨R.WHEEL_T_CFG, 18, 0⟩
abbrev R.WHEEL_T_ANGLE : Nat := 0x10100164
abbrev R.WHEEL_T_REV : Nat := 0x10100168
abbrev R.WHEEL_LANE_DOM (k : Nat) : Nat := 0x10100200 + 0x4 * k
abbrev R.WHEEL_CTL : Nat := 0x10100300
abbrev F.WHEEL_CTL_INIT : FieldAt := ⟨R.WHEEL_CTL, 0, 0⟩
abbrev R.WHEEL_STAT : Nat := 0x10100304
abbrev F.WHEEL_STAT_POISON : FieldAt := ⟨R.WHEEL_STAT, 3, 3⟩
abbrev F.WHEEL_STAT_EVM_WR_BLOCKED : FieldAt := ⟨R.WHEEL_STAT, 2, 2⟩
abbrev F.WHEEL_STAT_DOM_LOCKED : FieldAt := ⟨R.WHEEL_STAT, 1, 1⟩
abbrev F.WHEEL_STAT_READY : FieldAt := ⟨R.WHEEL_STAT, 0, 0⟩
abbrev R.WHEEL_POOL_FREE : Nat := 0x10100308
abbrev R.WHEEL_POOL_IN_USE : Nat := 0x1010030C
abbrev R.WHEEL_POOL_MIN : Nat := 0x10100310
abbrev R.WHEEL_POOL_RESERVE : Nat := 0x10100314
abbrev R.WHEEL_POOL_WARN : Nat := 0x10100318
abbrev R.WHEEL_PORT_PRIV : Nat := 0x1010031C
abbrev R.WHEEL_FLUSH : Nat := 0x10100320
abbrev F.WHEEL_FLUSH_GO : FieldAt := ⟨R.WHEEL_FLUSH, 31, 31⟩
abbrev F.WHEEL_FLUSH_BUSY : FieldAt := ⟨R.WHEEL_FLUSH, 30, 30⟩
abbrev F.WHEEL_FLUSH_LANE : FieldAt := ⟨R.WHEEL_FLUSH, 7, 0⟩
abbrev R.WHEEL_MARK_TAG : Nat := 0x10100324
abbrev F.WHEEL_MARK_TAG_EN : FieldAt := ⟨R.WHEEL_MARK_TAG, 8, 8⟩
abbrev F.WHEEL_MARK_TAG_TAG : FieldAt := ⟨R.WHEEL_MARK_TAG, 7, 0⟩
abbrev R.WHEEL_POISON_ADDR : Nat := 0x10100328
abbrev R.WHEEL_POISON_LOST : Nat := 0x1010032C
abbrev R.WHEEL_INS_ADDR : Nat := 0x10100400
abbrev F.WHEEL_INS_ADDR_LANE : FieldAt := ⟨R.WHEEL_INS_ADDR, 23, 16⟩
abbrev F.WHEEL_INS_ADDR_BIN : FieldAt := ⟨R.WHEEL_INS_ADDR, 11, 0⟩
abbrev R.WHEEL_INS_EV_LO : Nat := 0x10100404
abbrev R.WHEEL_INS_EV_HI : Nat := 0x10100408
abbrev R.WHEEL_INS_STAT : Nat := 0x1010040C
abbrev F.WHEEL_INS_STAT_PENDING : FieldAt := ⟨R.WHEEL_INS_STAT, 20, 16⟩
abbrev F.WHEEL_INS_STAT_CODE : FieldAt := ⟨R.WHEEL_INS_STAT, 3, 0⟩
abbrev R.WHEEL_PORT_ACCEPTED (p : Nat) : Nat := 0x10100500 + 0x10 * p
abbrev R.WHEEL_PORT_BUSY (p : Nat) : Nat := 0x10100504 + 0x10 * p
abbrev R.WHEEL_PORT_REJECTED (p : Nat) : Nat := 0x10100508 + 0x10 * p
abbrev R.WHEEL_PORT_LAST (p : Nat) : Nat := 0x1010050C + 0x10 * p
abbrev F.WHEEL_PORT_LAST_CODE (p : Nat) : FieldAt := ⟨R.WHEEL_PORT_LAST p, 31, 28⟩
abbrev F.WHEEL_PORT_LAST_LANE (p : Nat) : FieldAt := ⟨R.WHEEL_PORT_LAST p, 27, 20⟩
abbrev F.WHEEL_PORT_LAST_BIN (p : Nat) : FieldAt := ⟨R.WHEEL_PORT_LAST p, 11, 0⟩
abbrev R.WHEEL_NOTIFY_A : Nat := 0x10100700
abbrev F.WHEEL_NOTIFY_A_VALID : FieldAt := ⟨R.WHEEL_NOTIFY_A, 31, 31⟩
abbrev F.WHEEL_NOTIFY_A_DOM : FieldAt := ⟨R.WHEEL_NOTIFY_A, 29, 28⟩
abbrev F.WHEEL_NOTIFY_A_LANE : FieldAt := ⟨R.WHEEL_NOTIFY_A, 27, 20⟩
abbrev F.WHEEL_NOTIFY_A_BIN : FieldAt := ⟨R.WHEEL_NOTIFY_A, 11, 0⟩
abbrev R.WHEEL_NOTIFY_B : Nat := 0x10100704
abbrev F.WHEEL_NOTIFY_B_TAG : FieldAt := ⟨R.WHEEL_NOTIFY_B, 31, 24⟩
abbrev F.WHEEL_NOTIFY_B_KIND : FieldAt := ⟨R.WHEEL_NOTIFY_B, 23, 22⟩
abbrev F.WHEEL_NOTIFY_B_ACT : FieldAt := ⟨R.WHEEL_NOTIFY_B, 21, 18⟩
abbrev F.WHEEL_NOTIFY_B_PROFILE : FieldAt := ⟨R.WHEEL_NOTIFY_B, 17, 12⟩
abbrev F.WHEEL_NOTIFY_B_IMM : FieldAt := ⟨R.WHEEL_NOTIFY_B, 0, 0⟩
abbrev R.WHEEL_NOTIFY_LOST : Nat := 0x10100708
abbrev R.CHT_INFO : Nat := 0x10120000
abbrev F.CHT_INFO_PROGRAM : FieldAt := ⟨R.CHT_INFO, 31, 16⟩
abbrev F.CHT_INFO_VERSION : FieldAt := ⟨R.CHT_INFO, 15, 0⟩
abbrev R.CHT_GRP (g : Nat) : Nat := 0x10120010 + 0x4 * g
abbrev F.CHT_GRP_SPARE_STATE (g : Nat) : FieldAt := ⟨R.CHT_GRP g, 9, 8⟩
abbrev F.CHT_GRP_REFUSED (g : Nat) : FieldAt := ⟨R.CHT_GRP g, 7, 7⟩
abbrev F.CHT_GRP_SERVED (g : Nat) : FieldAt := ⟨R.CHT_GRP g, 4, 0⟩
abbrev R.CHT_NOTE_A : Nat := 0x10120100
abbrev F.CHT_NOTE_A_VALID : FieldAt := ⟨R.CHT_NOTE_A, 31, 31⟩
abbrev F.CHT_NOTE_A_CHANTER : FieldAt := ⟨R.CHT_NOTE_A, 27, 20⟩
abbrev F.CHT_NOTE_A_KIND : FieldAt := ⟨R.CHT_NOTE_A, 19, 16⟩
abbrev F.CHT_NOTE_A_CHANNEL : FieldAt := ⟨R.CHT_NOTE_A, 11, 0⟩
abbrev R.CHT_NOTE_B : Nat := 0x10120104
abbrev F.CHT_NOTE_B_TAG : FieldAt := ⟨R.CHT_NOTE_B, 31, 24⟩
abbrev F.CHT_NOTE_B_VALUE : FieldAt := ⟨R.CHT_NOTE_B, 23, 0⟩
abbrev R.CHT_NOTE_LOST : Nat := 0x10120108
abbrev R.CHT_C_CTL (n : Nat) : Nat := 0x10121000 + 0x40 * n
abbrev F.CHT_C_CTL_RETIRE (n : Nat) : FieldAt := ⟨R.CHT_C_CTL n, 31, 31⟩
abbrev F.CHT_C_CTL_HANDBACK (n : Nat) : FieldAt := ⟨R.CHT_C_CTL n, 30, 30⟩
abbrev F.CHT_C_CTL_IRQ_EN (n : Nat) : FieldAt := ⟨R.CHT_C_CTL n, 8, 0⟩
abbrev R.CHT_C_STAT (n : Nat) : Nat := 0x10121004 + 0x40 * n
abbrev F.CHT_C_STAT_STATE (n : Nat) : FieldAt := ⟨R.CHT_C_STAT n, 31, 29⟩
abbrev F.CHT_C_STAT_PAIR (n : Nat) : FieldAt := ⟨R.CHT_C_STAT n, 23, 16⟩
abbrev F.CHT_C_STAT_MISS_RUN (n : Nat) : FieldAt := ⟨R.CHT_C_STAT n, 11, 10⟩
abbrev F.CHT_C_STAT_NOTE (n : Nat) : FieldAt := ⟨R.CHT_C_STAT n, 8, 8⟩
abbrev F.CHT_C_STAT_EXCEPTION (n : Nat) : FieldAt := ⟨R.CHT_C_STAT n, 7, 7⟩
abbrev F.CHT_C_STAT_CP_BAD (n : Nat) : FieldAt := ⟨R.CHT_C_STAT n, 6, 6⟩
abbrev F.CHT_C_STAT_ENVELOPE (n : Nat) : FieldAt := ⟨R.CHT_C_STAT n, 5, 5⟩
abbrev F.CHT_C_STAT_DROP (n : Nat) : FieldAt := ⟨R.CHT_C_STAT n, 4, 4⟩
abbrev F.CHT_C_STAT_LATE (n : Nat) : FieldAt := ⟨R.CHT_C_STAT n, 3, 3⟩
abbrev F.CHT_C_STAT_HANDBACK (n : Nat) : FieldAt := ⟨R.CHT_C_STAT n, 2, 2⟩
abbrev F.CHT_C_STAT_TAKEOVER (n : Nat) : FieldAt := ⟨R.CHT_C_STAT n, 1, 1⟩
abbrev F.CHT_C_STAT_MISS (n : Nat) : FieldAt := ⟨R.CHT_C_STAT n, 0, 0⟩
abbrev R.CHT_C_MISSES (n : Nat) : Nat := 0x10121008 + 0x40 * n
abbrev R.CHT_C_LATE (n : Nat) : Nat := 0x1012100C + 0x40 * n
abbrev R.CHT_C_DEFERRED (n : Nat) : Nat := 0x10121010 + 0x40 * n
abbrev R.CHT_C_DROPPED (n : Nat) : Nat := 0x10121014 + 0x40 * n
abbrev R.CHT_C_DROP_LAST (n : Nat) : Nat := 0x10121018 + 0x40 * n
abbrev F.CHT_C_DROP_LAST_REASON (n : Nat) : FieldAt := ⟨R.CHT_C_DROP_LAST n, 31, 28⟩
abbrev F.CHT_C_DROP_LAST_CHANNEL (n : Nat) : FieldAt := ⟨R.CHT_C_DROP_LAST n, 23, 12⟩
abbrev F.CHT_C_DROP_LAST_TAG (n : Nat) : FieldAt := ⟨R.CHT_C_DROP_LAST n, 7, 0⟩
abbrev R.CHT_C_DISCARD (n : Nat) : Nat := 0x1012101C + 0x40 * n
abbrev R.CHT_C_ENVELOPE (n : Nat) : Nat := 0x10121020 + 0x40 * n
abbrev R.CHT_C_EXC_PC (n : Nat) : Nat := 0x10121024 + 0x40 * n
abbrev R.CHT_C_EVENTS (n : Nat) : Nat := 0x10121028 + 0x40 * n
abbrev R.LANE_CFG (n : Nat) : Nat := 0x10110000 + 0x100 * n
abbrev F.LANE_CFG_EN (n : Nat) : FieldAt := ⟨R.LANE_CFG n, 31, 31⟩
abbrev F.LANE_CFG_FORCE_SAFE (n : Nat) : FieldAt := ⟨R.LANE_CFG n, 30, 30⟩
abbrev F.LANE_CFG_ROLE (n : Nat) : FieldAt := ⟨R.LANE_CFG n, 29, 28⟩
abbrev F.LANE_CFG_PARTNER (n : Nat) : FieldAt := ⟨R.LANE_CFG n, 7, 0⟩
abbrev R.LANE_STAT (n : Nat) : Nat := 0x10110004 + 0x100 * n
abbrev F.LANE_STAT_STATE (n : Nat) : FieldAt := ⟨R.LANE_STAT n, 31, 29⟩
abbrev F.LANE_STAT_MG_PENDING (n : Nat) : FieldAt := ⟨R.LANE_STAT n, 28, 28⟩
abbrev F.LANE_STAT_CFG_LOCKED (n : Nat) : FieldAt := ⟨R.LANE_STAT n, 9, 9⟩
abbrev F.LANE_STAT_CFG_ERR (n : Nat) : FieldAt := ⟨R.LANE_STAT n, 8, 8⟩
abbrev F.LANE_STAT_MG_TIMEOUT (n : Nat) : FieldAt := ⟨R.LANE_STAT n, 7, 7⟩
abbrev F.LANE_STAT_MG_DONE (n : Nat) : FieldAt := ⟨R.LANE_STAT n, 6, 6⟩
abbrev F.LANE_STAT_BOARD_ALT (n : Nat) : FieldAt := ⟨R.LANE_STAT n, 5, 5⟩
abbrev F.LANE_STAT_DEENERGISED (n : Nat) : FieldAt := ⟨R.LANE_STAT n, 4, 4⟩
abbrev F.LANE_STAT_ECHO_BACK (n : Nat) : FieldAt := ⟨R.LANE_STAT n, 3, 3⟩
abbrev F.LANE_STAT_ECHO_LOST (n : Nat) : FieldAt := ⟨R.LANE_STAT n, 2, 2⟩
abbrev F.LANE_STAT_ECHO_ERR (n : Nat) : FieldAt := ⟨R.LANE_STAT n, 1, 1⟩
abbrev F.LANE_STAT_LINKED (n : Nat) : FieldAt := ⟨R.LANE_STAT n, 0, 0⟩
abbrev R.LANE_IRQ_EN (n : Nat) : Nat := 0x10110008 + 0x100 * n
abbrev F.LANE_IRQ_EN_EN (n : Nat) : FieldAt := ⟨R.LANE_IRQ_EN n, 9, 0⟩
abbrev R.LANE_DELAY (n : Nat) : Nat := 0x1011000C + 0x100 * n
abbrev F.LANE_DELAY_VALID (n : Nat) : FieldAt := ⟨R.LANE_DELAY n, 31, 31⟩
abbrev F.LANE_DELAY_L (n : Nat) : FieldAt := ⟨R.LANE_DELAY n, 22, 16⟩
abbrev F.LANE_DELAY_D (n : Nat) : FieldAt := ⟨R.LANE_DELAY n, 7, 0⟩
abbrev R.LANE_MG_REQ (n : Nat) : Nat := 0x10110010 + 0x100 * n
abbrev F.LANE_MG_REQ_OP (n : Nat) : FieldAt := ⟨R.LANE_MG_REQ n, 31, 30⟩
abbrev F.LANE_MG_REQ_TID (n : Nat) : FieldAt := ⟨R.LANE_MG_REQ n, 29, 24⟩
abbrev F.LANE_MG_REQ_REG (n : Nat) : FieldAt := ⟨R.LANE_MG_REQ n, 23, 16⟩
abbrev F.LANE_MG_REQ_DATA (n : Nat) : FieldAt := ⟨R.LANE_MG_REQ n, 15, 0⟩
abbrev R.LANE_MG_RESP (n : Nat) : Nat := 0x10110014 + 0x100 * n
abbrev R.LANE_BLK_CTL (n : Nat) : Nat := 0x10110018 + 0x100 * n
abbrev F.LANE_BLK_CTL_GO (n : Nat) : FieldAt := ⟨R.LANE_BLK_CTL n, 31, 31⟩
abbrev F.LANE_BLK_CTL_BUSY (n : Nat) : FieldAt := ⟨R.LANE_BLK_CTL n, 30, 30⟩
abbrev F.LANE_BLK_CTL_SEQ (n : Nat) : FieldAt := ⟨R.LANE_BLK_CTL n, 7, 0⟩
abbrev R.LANE_ECHO_LAST (n : Nat) : Nat := 0x1011001C + 0x100 * n
abbrev F.LANE_ECHO_LAST_FLAGS (n : Nat) : FieldAt := ⟨R.LANE_ECHO_LAST n, 23, 16⟩
abbrev F.LANE_ECHO_LAST_SEQ (n : Nat) : FieldAt := ⟨R.LANE_ECHO_LAST n, 15, 8⟩
abbrev F.LANE_ECHO_LAST_MERGED (n : Nat) : FieldAt := ⟨R.LANE_ECHO_LAST n, 0, 0⟩
abbrev R.LANE_BLK_DATA (n : Nat) (k : Nat) : Nat := 0x10110020 + 0x100 * n + 0x4 * k
abbrev R.LANE_FRAMES (n : Nat) : Nat := 0x10110050 + 0x100 * n
abbrev R.LANE_SAFE_FRAMES (n : Nat) : Nat := 0x10110054 + 0x100 * n
abbrev R.LANE_ECHO_OK (n : Nat) : Nat := 0x10110058 + 0x100 * n
abbrev R.LANE_ECHO_BAD (n : Nat) : Nat := 0x1011005C + 0x100 * n
abbrev R.LANE_ECHO_MISS (n : Nat) : Nat := 0x10110060 + 0x100 * n
abbrev R.LANE_ECHO_LATE (n : Nat) : Nat := 0x10110064 + 0x100 * n
abbrev R.LANE_ECHO_MISMATCH (n : Nat) : Nat := 0x10110068 + 0x100 * n
abbrev R.LANE_MERGED (n : Nat) : Nat := 0x1011006C + 0x100 * n
abbrev R.LANE_SUBST (n : Nat) : Nat := 0x10110070 + 0x100 * n
abbrev R.LANE_COLLIDE (n : Nat) : Nat := 0x10110074 + 0x100 * n
abbrev R.LANE_STORE_FULL (n : Nat) : Nat := 0x10110078 + 0x100 * n
abbrev R.LANE_DISCARDED (n : Nat) : Nat := 0x1011007C + 0x100 * n
abbrev R.LANE_MG_TIMEOUTS (n : Nat) : Nat := 0x10110080 + 0x100 * n
abbrev R.LANE_STORE (n : Nat) : Nat := 0x10110084 + 0x100 * n
abbrev F.LANE_STORE_COUNT (n : Nat) : FieldAt := ⟨R.LANE_STORE n, 5, 0⟩
abbrev R.MEAS_ADC_CTL (k : Nat) : Nat := 0x100C0000 + 0x20 * k
abbrev F.MEAS_ADC_CTL_EN (k : Nat) : FieldAt := ⟨R.MEAS_ADC_CTL k, 31, 31⟩
abbrev F.MEAS_ADC_CTL_START (k : Nat) : FieldAt := ⟨R.MEAS_ADC_CTL k, 30, 30⟩
abbrev F.MEAS_ADC_CTL_TRIG (k : Nat) : FieldAt := ⟨R.MEAS_ADC_CTL k, 29, 27⟩
abbrev F.MEAS_ADC_CTL_LIST_LEN (k : Nat) : FieldAt := ⟨R.MEAS_ADC_CTL k, 23, 16⟩
abbrev F.MEAS_ADC_CTL_LIST_BASE (k : Nat) : FieldAt := ⟨R.MEAS_ADC_CTL k, 6, 0⟩
abbrev R.MEAS_ADC_TRIG (k : Nat) : Nat := 0x100C0004 + 0x20 * k
abbrev F.MEAS_ADC_TRIG_DOM (k : Nat) : FieldAt := ⟨R.MEAS_ADC_TRIG k, 31, 30⟩
abbrev F.MEAS_ADC_TRIG_PHASE (k : Nat) : FieldAt := ⟨R.MEAS_ADC_TRIG k, 27, 16⟩
abbrev F.MEAS_ADC_TRIG_ARG (k : Nat) : FieldAt := ⟨R.MEAS_ADC_TRIG k, 15, 0⟩
abbrev R.MEAS_ADC_STAT (k : Nat) : Nat := 0x100C0008 + 0x20 * k
abbrev F.MEAS_ADC_STAT_STATE (k : Nat) : FieldAt := ⟨R.MEAS_ADC_STAT k, 31, 30⟩
abbrev F.MEAS_ADC_STAT_CLK_OFF (k : Nat) : FieldAt := ⟨R.MEAS_ADC_STAT k, 3, 3⟩
abbrev F.MEAS_ADC_STAT_CFG_ERR (k : Nat) : FieldAt := ⟨R.MEAS_ADC_STAT k, 2, 2⟩
abbrev F.MEAS_ADC_STAT_OVERRUN (k : Nat) : FieldAt := ⟨R.MEAS_ADC_STAT k, 1, 1⟩
abbrev F.MEAS_ADC_STAT_DONE (k : Nat) : FieldAt := ⟨R.MEAS_ADC_STAT k, 0, 0⟩
abbrev R.MEAS_ADC_RAW (k : Nat) : Nat := 0x100C000C + 0x20 * k
abbrev F.MEAS_ADC_RAW_RAW (k : Nat) : FieldAt := ⟨R.MEAS_ADC_RAW k, 15, 0⟩
abbrev R.MEAS_ADC_TSTAMP (k : Nat) : Nat := 0x100C0010 + 0x20 * k
abbrev R.MEAS_ADC_OVERRUN (k : Nat) : Nat := 0x100C0014 + 0x20 * k
abbrev R.MEAS_ADC_CAL (k : Nat) : Nat := 0x100C0018 + 0x20 * k
abbrev F.MEAS_ADC_CAL_STEALING (k : Nat) : FieldAt := ⟨R.MEAS_ADC_CAL k, 31, 31⟩
abbrev F.MEAS_ADC_CAL_AGE (k : Nat) : FieldAt := ⟨R.MEAS_ADC_CAL k, 15, 0⟩
abbrev R.MEAS_ADC_STOLEN (k : Nat) : Nat := 0x100C001C + 0x20 * k
abbrev R.MEAS_WIN (w : Nat) : Nat := 0x100C0100 + 0x8 * w
abbrev F.MEAS_WIN_HI (w : Nat) : FieldAt := ⟨R.MEAS_WIN w, 31, 16⟩
abbrev F.MEAS_WIN_LO (w : Nat) : FieldAt := ⟨R.MEAS_WIN w, 15, 0⟩
abbrev R.MEAS_WIN_CTL (w : Nat) : Nat := 0x100C0104 + 0x8 * w
abbrev F.MEAS_WIN_CTL_SNAP (w : Nat) : FieldAt := ⟨R.MEAS_WIN_CTL w, 1, 1⟩
abbrev F.MEAS_WIN_CTL_IRQ (w : Nat) : FieldAt := ⟨R.MEAS_WIN_CTL w, 0, 0⟩
abbrev R.MEAS_WIN_STAT : Nat := 0x100C0180
abbrev F.MEAS_WIN_STAT_WIN : FieldAt := ⟨R.MEAS_WIN_STAT, 15, 0⟩
abbrev R.MEAS_WIN_LAST : Nat := 0x100C0184
abbrev F.MEAS_WIN_LAST_STATE : FieldAt := ⟨R.MEAS_WIN_LAST, 31, 30⟩
abbrev F.MEAS_WIN_LAST_ENTRY : FieldAt := ⟨R.MEAS_WIN_LAST, 22, 16⟩
abbrev F.MEAS_WIN_LAST_VALUE : FieldAt := ⟨R.MEAS_WIN_LAST, 15, 0⟩
abbrev R.MEAS_SEQ (i : Nat) : Nat := 0x100C0400 + 0x4 * i
abbrev F.MEAS_SEQ_WIN (i : Nat) : FieldAt := ⟨R.MEAS_SEQ i, 25, 21⟩
abbrev F.MEAS_SEQ_SETTLE (i : Nat) : FieldAt := ⟨R.MEAS_SEQ i, 20, 17⟩
abbrev F.MEAS_SEQ_AVG (i : Nat) : FieldAt := ⟨R.MEAS_SEQ i, 16, 14⟩
abbrev F.MEAS_SEQ_PGA (i : Nat) : FieldAt := ⟨R.MEAS_SEQ i, 13, 12⟩
abbrev F.MEAS_SEQ_CH (i : Nat) : FieldAt := ⟨R.MEAS_SEQ i, 5, 0⟩
abbrev R.MEAS_RES (i : Nat) : Nat := 0x100C0600 + 0x4 * i
abbrev F.MEAS_RES_VALID (i : Nat) : FieldAt := ⟨R.MEAS_RES i, 31, 31⟩
abbrev F.MEAS_RES_SAT (i : Nat) : FieldAt := ⟨R.MEAS_RES i, 30, 30⟩
abbrev F.MEAS_RES_WSTATE (i : Nat) : FieldAt := ⟨R.MEAS_RES i, 27, 26⟩
abbrev F.MEAS_RES_COUNT (i : Nat) : FieldAt := ⟨R.MEAS_RES i, 23, 16⟩
abbrev F.MEAS_RES_VALUE (i : Nat) : FieldAt := ⟨R.MEAS_RES i, 15, 0⟩
abbrev R.MEAS_CMP_CFG (k : Nat) : Nat := 0x100C0800 + 0x10 * k
abbrev F.MEAS_CMP_CFG_EN (k : Nat) : FieldAt := ⟨R.MEAS_CMP_CFG k, 31, 31⟩
abbrev F.MEAS_CMP_CFG_TICK (k : Nat) : FieldAt := ⟨R.MEAS_CMP_CFG k, 30, 30⟩
abbrev F.MEAS_CMP_CFG_EVT (k : Nat) : FieldAt := ⟨R.MEAS_CMP_CFG k, 29, 27⟩
abbrev F.MEAS_CMP_CFG_ACT (k : Nat) : FieldAt := ⟨R.MEAS_CMP_CFG k, 26, 24⟩
abbrev F.MEAS_CMP_CFG_FILT (k : Nat) : FieldAt := ⟨R.MEAS_CMP_CFG k, 23, 16⟩
abbrev F.MEAS_CMP_CFG_HYST (k : Nat) : FieldAt := ⟨R.MEAS_CMP_CFG k, 15, 8⟩
abbrev F.MEAS_CMP_CFG_AIN (k : Nat) : FieldAt := ⟨R.MEAS_CMP_CFG k, 4, 0⟩
abbrev R.MEAS_CMP_THR (k : Nat) : Nat := 0x100C0804 + 0x10 * k
abbrev F.MEAS_CMP_THR_HI (k : Nat) : FieldAt := ⟨R.MEAS_CMP_THR k, 31, 16⟩
abbrev F.MEAS_CMP_THR_LO (k : Nat) : FieldAt := ⟨R.MEAS_CMP_THR k, 15, 0⟩
abbrev R.MEAS_CMP_WAKE (k : Nat) : Nat := 0x100C0808 + 0x10 * k
abbrev R.MEAS_CMP_STAT (k : Nat) : Nat := 0x100C080C + 0x10 * k
abbrev F.MEAS_CMP_STAT_STATE (k : Nat) : FieldAt := ⟨R.MEAS_CMP_STAT k, 31, 30⟩
abbrev F.MEAS_CMP_STAT_CLK_FALLBACK (k : Nat) : FieldAt := ⟨R.MEAS_CMP_STAT k, 3, 3⟩
abbrev F.MEAS_CMP_STAT_ABOVE (k : Nat) : FieldAt := ⟨R.MEAS_CMP_STAT k, 2, 2⟩
abbrev F.MEAS_CMP_STAT_BELOW (k : Nat) : FieldAt := ⟨R.MEAS_CMP_STAT k, 1, 1⟩
abbrev F.MEAS_CMP_STAT_INSIDE (k : Nat) : FieldAt := ⟨R.MEAS_CMP_STAT k, 0, 0⟩
abbrev R.MEAS_MON (m : Nat) : Nat := 0x100C0900 + 0x4 * m
abbrev F.MEAS_MON_VALID (m : Nat) : FieldAt := ⟨R.MEAS_MON m, 31, 31⟩
abbrev F.MEAS_MON_WSTATE (m : Nat) : FieldAt := ⟨R.MEAS_MON m, 27, 26⟩
abbrev F.MEAS_MON_COUNT (m : Nat) : FieldAt := ⟨R.MEAS_MON m, 23, 16⟩
abbrev F.MEAS_MON_VALUE (m : Nat) : FieldAt := ⟨R.MEAS_MON m, 15, 0⟩
abbrev R.MEAS_MON_LIM (m : Nat) : Nat := 0x100C0940 + 0x4 * m
abbrev F.MEAS_MON_LIM_HI (m : Nat) : FieldAt := ⟨R.MEAS_MON_LIM m, 31, 16⟩
abbrev F.MEAS_MON_LIM_LO (m : Nat) : FieldAt := ⟨R.MEAS_MON_LIM m, 15, 0⟩
abbrev R.MEAS_MON_STAT : Nat := 0x100C0980
abbrev F.MEAS_MON_STAT_MON : FieldAt := ⟨R.MEAS_MON_STAT, 8, 0⟩
abbrev R.MEAS_FCAL (i : Nat) : Nat := 0x100C0A00 + 0x4 * i
abbrev F.MEAS_FCAL_FG (i : Nat) : FieldAt := ⟨R.MEAS_FCAL i, 31, 16⟩
abbrev F.MEAS_FCAL_FO (i : Nat) : FieldAt := ⟨R.MEAS_FCAL i, 15, 0⟩
abbrev R.MEAS_UCAL (i : Nat) : Nat := 0x100C0B00 + 0x4 * i
abbrev F.MEAS_UCAL_UG (i : Nat) : FieldAt := ⟨R.MEAS_UCAL i, 31, 16⟩
abbrev F.MEAS_UCAL_UO (i : Nat) : FieldAt := ⟨R.MEAS_UCAL i, 15, 0⟩
abbrev R.MEAS_CAL_STAT : Nat := 0x100C0C00
abbrev F.MEAS_CAL_STAT_CAL_BAD : FieldAt := ⟨R.MEAS_CAL_STAT, 31, 31⟩
abbrev F.MEAS_CAL_STAT_MISSING : FieldAt := ⟨R.MEAS_CAL_STAT, 5, 0⟩
abbrev R.NET_E_CFG (p : Nat) : Nat := 0x100D0000 + 0x100 * p
abbrev F.NET_E_CFG_EN (p : Nat) : FieldAt := ⟨R.NET_E_CFG p, 31, 31⟩
abbrev F.NET_E_CFG_PTP (p : Nat) : FieldAt := ⟨R.NET_E_CFG p, 30, 30⟩
abbrev F.NET_E_CFG_PRI (p : Nat) : FieldAt := ⟨R.NET_E_CFG p, 18, 16⟩
abbrev F.NET_E_CFG_PVID (p : Nat) : FieldAt := ⟨R.NET_E_CFG p, 11, 0⟩
abbrev R.NET_E_STAT (p : Nat) : Nat := 0x100D0004 + 0x100 * p
abbrev F.NET_E_STAT_LINK (p : Nat) : FieldAt := ⟨R.NET_E_STAT p, 31, 31⟩
abbrev F.NET_E_STAT_SPEED (p : Nat) : FieldAt := ⟨R.NET_E_STAT p, 30, 29⟩
abbrev F.NET_E_STAT_HDX (p : Nat) : FieldAt := ⟨R.NET_E_STAT p, 0, 0⟩
abbrev R.NET_E_TCMAP (p : Nat) : Nat := 0x100D0008 + 0x100 * p
abbrev F.NET_E_TCMAP_MAP (p : Nat) : FieldAt := ⟨R.NET_E_TCMAP p, 23, 0⟩
abbrev R.NET_E_POLICE (p : Nat) : Nat := 0x100D000C + 0x100 * p
abbrev F.NET_E_POLICE_RATE (p : Nat) : FieldAt := ⟨R.NET_E_POLICE p, 31, 16⟩
abbrev F.NET_E_POLICE_BURST (p : Nat) : FieldAt := ⟨R.NET_E_POLICE p, 15, 0⟩
abbrev R.NET_E_DROP_BE (p : Nat) : Nat := 0x100D0010 + 0x100 * p
abbrev R.NET_E_DROP_OTHER (p : Nat) : Nat := 0x100D0014 + 0x100 * p
abbrev R.NET_E_RX_ERR (p : Nat) : Nat := 0x100D0018 + 0x100 * p
abbrev R.NET_E_GCL_CTL (p : Nat) : Nat := 0x100D001C + 0x100 * p
abbrev F.NET_E_GCL_CTL_EN (p : Nat) : FieldAt := ⟨R.NET_E_GCL_CTL p, 31, 31⟩
abbrev F.NET_E_GCL_CTL_CHANGE (p : Nat) : FieldAt := ⟨R.NET_E_GCL_CTL p, 30, 30⟩
abbrev F.NET_E_GCL_CTL_PENDING (p : Nat) : FieldAt := ⟨R.NET_E_GCL_CTL p, 29, 29⟩
abbrev F.NET_E_GCL_CTL_GCL_ERR (p : Nat) : FieldAt := ⟨R.NET_E_GCL_CTL p, 28, 28⟩
abbrev F.NET_E_GCL_CTL_LEN (p : Nat) : FieldAt := ⟨R.NET_E_GCL_CTL p, 8, 0⟩
abbrev R.NET_E_GCL_CYCLE (p : Nat) : Nat := 0x100D0020 + 0x100 * p
abbrev F.NET_E_GCL_CYCLE_CYCLE_NS (p : Nat) : FieldAt := ⟨R.NET_E_GCL_CYCLE p, 29, 0⟩
abbrev R.NET_E_GCL_BASE_S (p : Nat) : Nat := 0x100D0024 + 0x100 * p
abbrev R.NET_E_GCL_BASE_NS (p : Nat) : Nat := 0x100D0028 + 0x100 * p
abbrev F.NET_E_GCL_BASE_NS_NS (p : Nat) : FieldAt := ⟨R.NET_E_GCL_BASE_NS p, 29, 0⟩
abbrev R.NET_SW_CFG : Nat := 0x100D0400
abbrev F.NET_SW_CFG_AGE_S : FieldAt := ⟨R.NET_SW_CFG, 31, 16⟩
abbrev F.NET_SW_CFG_BE_MASK : FieldAt := ⟨R.NET_SW_CFG, 15, 8⟩
abbrev F.NET_SW_CFG_BE_THR : FieldAt := ⟨R.NET_SW_CFG, 7, 4⟩
abbrev F.NET_SW_CFG_STACK_PRI : FieldAt := ⟨R.NET_SW_CFG, 2, 0⟩
abbrev R.NET_SW_VLAN : Nat := 0x100D0404
abbrev F.NET_SW_VLAN_MVID : FieldAt := ⟨R.NET_SW_VLAN, 11, 0⟩
abbrev R.NET_LEARN_FULL : Nat := 0x100D0408
abbrev R.NET_IP_ADDR : Nat := 0x100D0410
abbrev R.NET_IP_MASK : Nat := 0x100D0414
abbrev R.NET_IP_GW : Nat := 0x100D0418
abbrev R.NET_MAC_HI : Nat := 0x100D041C
abbrev F.NET_MAC_HI_MAC : FieldAt := ⟨R.NET_MAC_HI, 15, 0⟩
abbrev R.NET_MAC_LO : Nat := 0x100D0420
abbrev R.NET_IP_DROP : Nat := 0x100D0424
abbrev R.NET_PTP_CFG : Nat := 0x100D0500
abbrev F.NET_PTP_CFG_DOMAIN : FieldAt := ⟨R.NET_PTP_CFG, 30, 24⟩
abbrev F.NET_PTP_CFG_PRIO1 : FieldAt := ⟨R.NET_PTP_CFG, 23, 16⟩
abbrev F.NET_PTP_CFG_PRIO2 : FieldAt := ⟨R.NET_PTP_CFG, 15, 8⟩
abbrev F.NET_PTP_CFG_LOG_SYNC : FieldAt := ⟨R.NET_PTP_CFG, 2, 0⟩
abbrev R.NET_PTP_STAT : Nat := 0x100D0504
abbrev F.NET_PTP_STAT_SYNCED : FieldAt := ⟨R.NET_PTP_STAT, 31, 31⟩
abbrev F.NET_PTP_STAT_GM : FieldAt := ⟨R.NET_PTP_STAT, 30, 30⟩
abbrev F.NET_PTP_STAT_SLAVE_PORT : FieldAt := ⟨R.NET_PTP_STAT, 1, 0⟩
abbrev R.NET_PTP_OFFSET : Nat := 0x100D0508
abbrev R.NET_PTP_CLASS : Nat := 0x100D050C
abbrev F.NET_PTP_CLASS_VARIANCE : FieldAt := ⟨R.NET_PTP_CLASS, 31, 16⟩
abbrev F.NET_PTP_CLASS_ACCURACY : FieldAt := ⟨R.NET_PTP_CLASS, 15, 8⟩
abbrev F.NET_PTP_CLASS_CLASS : FieldAt := ⟨R.NET_PTP_CLASS, 7, 0⟩
abbrev R.NET_XCAP_CTL : Nat := 0x100D0510
abbrev F.NET_XCAP_CTL_GO : FieldAt := ⟨R.NET_XCAP_CTL, 31, 31⟩
abbrev F.NET_XCAP_CTL_XCAP_LOST : FieldAt := ⟨R.NET_XCAP_CTL, 30, 30⟩
abbrev F.NET_XCAP_CTL_EN : FieldAt := ⟨R.NET_XCAP_CTL, 3, 0⟩
abbrev R.NET_XCAP_WT_LO : Nat := 0x100D0514
abbrev R.NET_XCAP_WT_HI : Nat := 0x100D0518
abbrev R.NET_XCAP_NS : Nat := 0x100D051C
abbrev R.NET_XCAP_S_LO : Nat := 0x100D0520
abbrev R.NET_XCAP_S_HI : Nat := 0x100D0524
abbrev F.NET_XCAP_S_HI_SRC : FieldAt := ⟨R.NET_XCAP_S_HI, 31, 28⟩
abbrev F.NET_XCAP_S_HI_SEC : FieldAt := ⟨R.NET_XCAP_S_HI, 15, 0⟩
abbrev R.NET_VLAN_A (v : Nat) : Nat := 0x100D0800 + 0x8 * v
abbrev F.NET_VLAN_A_EN (v : Nat) : FieldAt := ⟨R.NET_VLAN_A v, 31, 31⟩
abbrev F.NET_VLAN_A_VID (v : Nat) : FieldAt := ⟨R.NET_VLAN_A v, 11, 0⟩
abbrev R.NET_VLAN_B (v : Nat) : Nat := 0x100D0804 + 0x8 * v
abbrev F.NET_VLAN_B_UNTAG (v : Nat) : FieldAt := ⟨R.NET_VLAN_B v, 12, 8⟩
abbrev F.NET_VLAN_B_MEMBER (v : Nat) : FieldAt := ⟨R.NET_VLAN_B v, 4, 0⟩
abbrev R.NET_FDB_A (e : Nat) : Nat := 0x100D2000 + 0x8 * e
abbrev R.NET_FDB_B (e : Nat) : Nat := 0x100D2004 + 0x8 * e
abbrev R.NET_GCL_ADMIN (p : Nat) (i : Nat) : Nat := 0x100DC000 + 0x400 * p + 0x4 * i
abbrev F.NET_GCL_ADMIN_GATES (p : Nat) (i : Nat) : FieldAt := ⟨R.NET_GCL_ADMIN p i, 31, 24⟩
abbrev F.NET_GCL_ADMIN_INTERVAL (p : Nat) (i : Nat) : FieldAt := ⟨R.NET_GCL_ADMIN p i, 23, 0⟩
abbrev R.NET_GCL_OPER (p : Nat) (i : Nat) : Nat := 0x100DD000 + 0x400 * p + 0x4 * i
abbrev F.NET_GCL_OPER_GATES (p : Nat) (i : Nat) : FieldAt := ⟨R.NET_GCL_OPER p i, 31, 24⟩
abbrev F.NET_GCL_OPER_INTERVAL (p : Nat) (i : Nat) : FieldAt := ⟨R.NET_GCL_OPER p i, 23, 0⟩
abbrev R.IVW_CFG : Nat := 0x100E0000
abbrev F.IVW_CFG_EN : FieldAt := ⟨R.IVW_CFG, 31, 31⟩
abbrev F.IVW_CFG_CREDITS : FieldAt := ⟨R.IVW_CFG, 23, 16⟩
abbrev F.IVW_CFG_PORT : FieldAt := ⟨R.IVW_CFG, 15, 0⟩
abbrev R.IVW_OPEN : Nat := 0x100E0004
abbrev F.IVW_OPEN_COUNT : FieldAt := ⟨R.IVW_OPEN, 8, 0⟩
abbrev R.IVW_BAD_HDR : Nat := 0x100E0008
abbrev R.IVW_AUTH_FAIL : Nat := 0x100E000C
abbrev R.IVW_NO_CREDIT : Nat := 0x100E0010
abbrev R.IVW_FW_TIMEOUT : Nat := 0x100E0014
abbrev R.IVW_RXQ : Nat := 0x100E0018
abbrev F.IVW_RXQ_VALID : FieldAt := ⟨R.IVW_RXQ, 31, 31⟩
abbrev F.IVW_RXQ_SESSION : FieldAt := ⟨R.IVW_RXQ, 23, 16⟩
abbrev F.IVW_RXQ_TYPE : FieldAt := ⟨R.IVW_RXQ, 15, 8⟩
abbrev F.IVW_RXQ_BUF : FieldAt := ⟨R.IVW_RXQ, 2, 0⟩
abbrev R.IVW_RX_DONE : Nat := 0x100E001C
abbrev F.IVW_RX_DONE_BUF : FieldAt := ⟨R.IVW_RX_DONE, 2, 0⟩
abbrev R.IVW_TXQ : Nat := 0x100E0020
abbrev F.IVW_TXQ_BUF : FieldAt := ⟨R.IVW_TXQ, 3, 0⟩
abbrev R.IVW_TX_STAT : Nat := 0x100E0024
abbrev F.IVW_TX_STAT_FREE : FieldAt := ⟨R.IVW_TX_STAT, 7, 0⟩
abbrev R.IVW_S_STATE (s : Nat) : Nat := 0x100E1000 + 0x10 * s
abbrev F.IVW_S_STATE_OPEN (s : Nat) : FieldAt := ⟨R.IVW_S_STATE s, 31, 31⟩
abbrev F.IVW_S_STATE_ROLE (s : Nat) : FieldAt := ⟨R.IVW_S_STATE s, 29, 28⟩
abbrev F.IVW_S_STATE_MASK (s : Nat) : FieldAt := ⟨R.IVW_S_STATE s, 3, 0⟩
abbrev R.IVW_S_PEER_IP (s : Nat) : Nat := 0x100E1004 + 0x10 * s
abbrev R.IVW_S_PEER_PORT (s : Nat) : Nat := 0x100E1008 + 0x10 * s
abbrev R.IVW_S_IDLE (s : Nat) : Nat := 0x100E100C + 0x10 * s
abbrev R.IVW_BUF (b : Nat) (i : Nat) : Nat := 0x100E8000 + 0x800 * b + 0x4 * i
abbrev R.EMN_P_STAT (p : Nat) : Nat := 0x100F0000 + 0x40 * p
abbrev F.EMN_P_STAT_STATE (p : Nat) : FieldAt := ⟨R.EMN_P_STAT p, 31, 30⟩
abbrev F.EMN_P_STAT_CRC (p : Nat) : FieldAt := ⟨R.EMN_P_STAT p, 1, 1⟩
abbrev F.EMN_P_STAT_LINK_CHG (p : Nat) : FieldAt := ⟨R.EMN_P_STAT p, 0, 0⟩
abbrev R.EMN_P_DELAY (p : Nat) : Nat := 0x100F0004 + 0x40 * p
abbrev F.EMN_P_DELAY_VALID (p : Nat) : FieldAt := ⟨R.EMN_P_DELAY p, 31, 31⟩
abbrev F.EMN_P_DELAY_D (p : Nat) : FieldAt := ⟨R.EMN_P_DELAY p, 11, 0⟩
abbrev R.EMN_P_RETRAINS (p : Nat) : Nat := 0x100F0008 + 0x40 * p
abbrev R.EMN_P_CRC_ERR (p : Nat) : Nat := 0x100F000C + 0x40 * p
abbrev R.EMN_P_REPLAYS (p : Nat) : Nat := 0x100F0010 + 0x40 * p
abbrev R.EMN_POS : Nat := 0x100F0100
abbrev F.EMN_POS_VALID : FieldAt := ⟨R.EMN_POS, 31, 31⟩
abbrev F.EMN_POS_HEAD : FieldAt := ⟨R.EMN_POS, 30, 30⟩
abbrev F.EMN_POS_TAIL : FieldAt := ⟨R.EMN_POS, 29, 29⟩
abbrev F.EMN_POS_LEN : FieldAt := ⟨R.EMN_POS, 12, 8⟩
abbrev F.EMN_POS_POS : FieldAt := ⟨R.EMN_POS, 3, 0⟩
abbrev R.EMN_TRIG_CFG : Nat := 0x100F0104
abbrev F.EMN_TRIG_CFG_SYNC_FWD : FieldAt := ⟨R.EMN_TRIG_CFG, 31, 31⟩
abbrev F.EMN_TRIG_CFG_SNAP_FWD : FieldAt := ⟨R.EMN_TRIG_CFG, 30, 30⟩
abbrev F.EMN_TRIG_CFG_BUDGET : FieldAt := ⟨R.EMN_TRIG_CFG, 12, 0⟩
abbrev R.EMN_TRIG_CTL : Nat := 0x100F0108
abbrev F.EMN_TRIG_CTL_SYNC_GO : FieldAt := ⟨R.EMN_TRIG_CTL, 0, 0⟩
abbrev R.EMN_TRIG_LATE : Nat := 0x100F010C
abbrev R.EMN_ANG_CFG : Nat := 0x100F0110
abbrev F.EMN_ANG_CFG_TX_A : FieldAt := ⟨R.EMN_ANG_CFG, 31, 31⟩
abbrev F.EMN_ANG_CFG_TX_B : FieldAt := ⟨R.EMN_ANG_CFG, 30, 30⟩
abbrev F.EMN_ANG_CFG_PERIOD : FieldAt := ⟨R.EMN_ANG_CFG, 15, 0⟩
abbrev R.EMN_STAT : Nat := 0x100F0114
abbrev F.EMN_STAT_POS_CONFLICT : FieldAt := ⟨R.EMN_STAT, 1, 1⟩
abbrev F.EMN_STAT_CHAIN_LONG : FieldAt := ⟨R.EMN_STAT, 0, 0⟩
abbrev R.EMN_TXQ : Nat := 0x100F0118
abbrev F.EMN_TXQ_BUF : FieldAt := ⟨R.EMN_TXQ, 3, 0⟩
abbrev R.EMN_RXQ : Nat := 0x100F011C
abbrev F.EMN_RXQ_VALID : FieldAt := ⟨R.EMN_RXQ, 31, 31⟩
abbrev F.EMN_RXQ_SRC : FieldAt := ⟨R.EMN_RXQ, 11, 8⟩
abbrev F.EMN_RXQ_BUF : FieldAt := ⟨R.EMN_RXQ, 3, 0⟩
abbrev R.EMN_RX_DONE : Nat := 0x100F0120
abbrev F.EMN_RX_DONE_BUF : FieldAt := ⟨R.EMN_RX_DONE, 3, 0⟩
abbrev R.EMN_EVT_HELD : Nat := 0x100F0124
abbrev R.EMN_BUF (b : Nat) (i : Nat) : Nat := 0x100F8000 + 0x800 * b + 0x4 * i
abbrev R.FAB_CTL : Nat := 0x10130000
abbrev F.FAB_CTL_RELEASE : FieldAt := ⟨R.FAB_CTL, 31, 31⟩
abbrev R.FAB_SR_STAT : Nat := 0x10130004
abbrev F.FAB_SR_STAT_DONE : FieldAt := ⟨R.FAB_SR_STAT, 31, 31⟩
abbrev F.FAB_SR_STAT_NO_CLOCK : FieldAt := ⟨R.FAB_SR_STAT, 30, 30⟩
abbrev F.FAB_SR_STAT_RELEASED : FieldAt := ⟨R.FAB_SR_STAT, 3, 0⟩
abbrev R.FAB_SR_ORDER : Nat := 0x10130008
abbrev F.FAB_SR_ORDER_ORDER : FieldAt := ⟨R.FAB_SR_ORDER, 7, 0⟩
abbrev R.FAB_EPOCH : Nat := 0x1013000C
abbrev F.FAB_EPOCH_E : FieldAt := ⟨R.FAB_EPOCH, 9, 0⟩
abbrev R.FAB_CONT_STAT : Nat := 0x10130010
abbrev F.FAB_CONT_STAT_CONTENTION : FieldAt := ⟨R.FAB_CONT_STAT, 31, 31⟩
abbrev R.FAB_CONT_CELL : Nat := 0x10130014
abbrev F.FAB_CONT_CELL_VALID : FieldAt := ⟨R.FAB_CONT_CELL, 31, 31⟩
abbrev F.FAB_CONT_CELL_X : FieldAt := ⟨R.FAB_CONT_CELL, 23, 16⟩
abbrev F.FAB_CONT_CELL_Y : FieldAt := ⟨R.FAB_CONT_CELL, 15, 8⟩
abbrev F.FAB_CONT_CELL_LANE : FieldAt := ⟨R.FAB_CONT_CELL, 2, 0⟩
abbrev R.FAB_CONT_CLR : Nat := 0x10130018
abbrev F.FAB_CONT_CLR_REENABLE : FieldAt := ⟨R.FAB_CONT_CLR, 0, 0⟩
abbrev R.FAB_CONT_COUNT : Nat := 0x1013001C
abbrev R.FAB_CAP_CTL : Nat := 0x10130020
abbrev F.FAB_CAP_CTL_GO : FieldAt := ⟨R.FAB_CAP_CTL, 31, 31⟩
abbrev F.FAB_CAP_CTL_FREE : FieldAt := ⟨R.FAB_CAP_CTL, 30, 30⟩
abbrev F.FAB_CAP_CTL_ON_SNAP : FieldAt := ⟨R.FAB_CAP_CTL, 29, 29⟩
abbrev F.FAB_CAP_CTL_SRC_RIM : FieldAt := ⟨R.FAB_CAP_CTL, 28, 28⟩
abbrev F.FAB_CAP_CTL_ALIGN : FieldAt := ⟨R.FAB_CAP_CTL, 27, 27⟩
abbrev F.FAB_CAP_CTL_OVERWRITE : FieldAt := ⟨R.FAB_CAP_CTL, 26, 26⟩
abbrev F.FAB_CAP_CTL_EDGE : FieldAt := ⟨R.FAB_CAP_CTL, 9, 0⟩
abbrev R.FAB_CAP_STAT : Nat := 0x10130024
abbrev F.FAB_CAP_STAT_FULL : FieldAt := ⟨R.FAB_CAP_STAT, 31, 31⟩
abbrev F.FAB_CAP_STAT_PENDING : FieldAt := ⟨R.FAB_CAP_STAT, 30, 30⟩
abbrev F.FAB_CAP_STAT_EDGE_TAKEN : FieldAt := ⟨R.FAB_CAP_STAT, 9, 0⟩
abbrev R.FAB_CAP_ADDR : Nat := 0x10130028
abbrev F.FAB_CAP_ADDR_FRAME : FieldAt := ⟨R.FAB_CAP_ADDR, 23, 12⟩
abbrev F.FAB_CAP_ADDR_WORD : FieldAt := ⟨R.FAB_CAP_ADDR, 6, 0⟩
abbrev R.FAB_CAP_DATA : Nat := 0x1013002C
abbrev R.FAB_CAP_MISSED : Nat := 0x10130030
abbrev R.FAB_CAP_TIME_LO : Nat := 0x10130034
abbrev R.FAB_CAP_TIME_HI : Nat := 0x10130038
abbrev R.FAB_RAM_STAT : Nat := 0x10130040
abbrev F.FAB_RAM_STAT_POISON : FieldAt := ⟨R.FAB_RAM_STAT, 0, 0⟩
abbrev R.FAB_RAM_POISON_ADDR : Nat := 0x10130044
abbrev F.FAB_RAM_POISON_ADDR_ADDR : FieldAt := ⟨R.FAB_RAM_POISON_ADDR, 21, 0⟩
abbrev R.FAB_RAM_POISON_CNT : Nat := 0x10130048
abbrev R.FAB_SPM_CTL : Nat := 0x10130050
abbrev F.FAB_SPM_CTL_EN : FieldAt := ⟨R.FAB_SPM_CTL, 0, 0⟩
abbrev R.FAB_SPM_ERR : Nat := 0x10130054
abbrev R.FAB_RIM_CTL : Nat := 0x10130060
abbrev F.FAB_RIM_CTL_HOLD_EN : FieldAt := ⟨R.FAB_RIM_CTL, 1, 1⟩
abbrev F.FAB_RIM_CTL_SNAP_EN : FieldAt := ⟨R.FAB_RIM_CTL, 0, 0⟩
abbrev R.FAB_MBOX_IN (y : Nat) : Nat := 0x10138000 + 0x4 * y
abbrev F.FAB_MBOX_IN_DATA (y : Nat) : FieldAt := ⟨R.FAB_MBOX_IN y, 15, 0⟩
abbrev R.FAB_MBOX_OUT (y : Nat) : Nat := 0x10138400 + 0x4 * y
abbrev F.FAB_MBOX_OUT_DATA (y : Nat) : FieldAt := ⟨R.FAB_MBOX_OUT y, 15, 0⟩
abbrev R.CFG_BOOT : Nat := 0x10030000
abbrev F.CFG_BOOT_SOURCE : FieldAt := ⟨R.CFG_BOOT, 31, 30⟩
abbrev F.CFG_BOOT_GOLDEN : FieldAt := ⟨R.CFG_BOOT, 29, 29⟩
abbrev F.CFG_BOOT_POS : FieldAt := ⟨R.CFG_BOOT, 19, 16⟩
abbrev F.CFG_BOOT_PRIMARY_CODE : FieldAt := ⟨R.CFG_BOOT, 15, 8⟩
abbrev F.CFG_BOOT_GOLDEN_CODE : FieldAt := ⟨R.CFG_BOOT, 7, 0⟩
abbrev R.CFG_IMAGE_ID_LO : Nat := 0x10030004
abbrev R.CFG_IMAGE_ID_HI : Nat := 0x10030008
abbrev R.CFG_IMAGE_BUILD : Nat := 0x1003000C
abbrev R.CFG_PASS_TIME : Nat := 0x10030010
abbrev F.CFG_PASS_TIME_VERIFY : FieldAt := ⟨R.CFG_PASS_TIME, 31, 16⟩
abbrev F.CFG_PASS_TIME_LOAD : FieldAt := ⟨R.CFG_PASS_TIME, 15, 0⟩
abbrev R.CFG_REJECT_OFFSET : Nat := 0x10030014
abbrev R.CFG_SLOT_SEL : Nat := 0x10030018
abbrev F.CFG_SLOT_SEL_PRIMARY : FieldAt := ⟨R.CFG_SLOT_SEL, 0, 0⟩
abbrev R.CFG_UPD_CTL : Nat := 0x10030020
abbrev F.CFG_UPD_CTL_GO : FieldAt := ⟨R.CFG_UPD_CTL, 31, 31⟩
abbrev F.CFG_UPD_CTL_PROMOTE : FieldAt := ⟨R.CFG_UPD_CTL, 30, 30⟩
abbrev R.CFG_UPD_STAT : Nat := 0x10030024
abbrev F.CFG_UPD_STAT_STATE : FieldAt := ⟨R.CFG_UPD_STAT, 31, 30⟩
abbrev F.CFG_UPD_STAT_PROMOTE_REFUSED : FieldAt := ⟨R.CFG_UPD_STAT, 29, 29⟩
abbrev F.CFG_UPD_STAT_STALE : FieldAt := ⟨R.CFG_UPD_STAT, 28, 28⟩
abbrev F.CFG_UPD_STAT_CODE : FieldAt := ⟨R.CFG_UPD_STAT, 7, 0⟩
abbrev R.CFG_UPD_OFFSET : Nat := 0x10030028
abbrev R.CFG_CHAIN_CTL : Nat := 0x10030040
abbrev F.CFG_CHAIN_CTL_HOLD : FieldAt := ⟨R.CFG_CHAIN_CTL, 31, 31⟩
abbrev R.CFG_CHAIN_STAT : Nat := 0x10030044
abbrev F.CFG_CHAIN_STAT_ACTIVE : FieldAt := ⟨R.CFG_CHAIN_STAT, 31, 31⟩
abbrev F.CFG_CHAIN_STAT_GOLDEN : FieldAt := ⟨R.CFG_CHAIN_STAT, 30, 30⟩
abbrev F.CFG_CHAIN_STAT_CUR_PASS : FieldAt := ⟨R.CFG_CHAIN_STAT, 19, 16⟩
abbrev F.CFG_CHAIN_STAT_MASK : FieldAt := ⟨R.CFG_CHAIN_STAT, 15, 0⟩
abbrev R.CFG_CHAIN_POS (p : Nat) : Nat := 0x10030080 + 0x4 * p
abbrev F.CFG_CHAIN_POS_RESULT (p : Nat) : FieldAt := ⟨R.CFG_CHAIN_POS p, 31, 28⟩
abbrev F.CFG_CHAIN_POS_CODE (p : Nat) : FieldAt := ⟨R.CFG_CHAIN_POS p, 15, 8⟩
abbrev F.CFG_CHAIN_POS_STREAMS (p : Nat) : FieldAt := ⟨R.CFG_CHAIN_POS p, 7, 0⟩
abbrev R.CFG_PR_CTL : Nat := 0x10030800
abbrev F.CFG_PR_CTL_OWNER : FieldAt := ⟨R.CFG_PR_CTL, 31, 30⟩
abbrev F.CFG_PR_CTL_START : FieldAt := ⟨R.CFG_PR_CTL, 29, 29⟩
abbrev F.CFG_PR_CTL_ABORT : FieldAt := ⟨R.CFG_PR_CTL, 28, 28⟩
abbrev F.CFG_PR_CTL_SRC : FieldAt := ⟨R.CFG_PR_CTL, 27, 27⟩
abbrev F.CFG_PR_CTL_FAB_ALLOW : FieldAt := ⟨R.CFG_PR_CTL, 26, 26⟩
abbrev R.CFG_PR_SRC_ADDR : Nat := 0x10030804
abbrev R.CFG_PR_LEN : Nat := 0x10030808
abbrev R.CFG_PR_DATA : Nat := 0x1003080C
abbrev R.CFG_PR_STAT : Nat := 0x10030810
abbrev F.CFG_PR_STAT_STATE : FieldAt := ⟨R.CFG_PR_STAT, 31, 28⟩
abbrev F.CFG_PR_STAT_CLAIM_REFUSED : FieldAt := ⟨R.CFG_PR_STAT, 27, 27⟩
abbrev F.CFG_PR_STAT_CODE : FieldAt := ⟨R.CFG_PR_STAT, 23, 16⟩
abbrev F.CFG_PR_STAT_FRAME : FieldAt := ⟨R.CFG_PR_STAT, 12, 0⟩
abbrev R.CFG_PR_APPLIED : Nat := 0x10030814
abbrev R.CFG_PR_REJECTED : Nat := 0x10030818
abbrev R.CFG_SCAN_CTL : Nat := 0x10030820
abbrev F.CFG_SCAN_CTL_EN : FieldAt := ⟨R.CFG_SCAN_CTL, 31, 31⟩
abbrev F.CFG_SCAN_CTL_PASS_US : FieldAt := ⟨R.CFG_SCAN_CTL, 16, 0⟩
abbrev R.CFG_SCAN_LAPS : Nat := 0x10030824
abbrev R.CFG_REPAIRS : Nat := 0x10030828
abbrev R.CFG_REPAIR_LAST : Nat := 0x1003082C
abbrev F.CFG_REPAIR_LAST_BITS : FieldAt := ⟨R.CFG_REPAIR_LAST, 27, 16⟩
abbrev F.CFG_REPAIR_LAST_FRAME : FieldAt := ⟨R.CFG_REPAIR_LAST, 11, 0⟩
abbrev R.CFG_REPAIR_FAIL : Nat := 0x10030830
abbrev R.CFG_QUEUE_FULL : Nat := 0x10030834
abbrev R.CFG_FRAME_SEL : Nat := 0x10030838
abbrev F.CFG_FRAME_SEL_RAM : FieldAt := ⟨R.CFG_FRAME_SEL, 12, 12⟩
abbrev F.CFG_FRAME_SEL_IDX : FieldAt := ⟨R.CFG_FRAME_SEL, 11, 0⟩
abbrev R.CFG_FRAME_REC : Nat := 0x1003083C
abbrev F.CFG_FRAME_REC_STATE : FieldAt := ⟨R.CFG_FRAME_REC, 31, 30⟩
abbrev F.CFG_FRAME_REC_FAILS : FieldAt := ⟨R.CFG_FRAME_REC, 29, 28⟩
abbrev F.CFG_FRAME_REC_CHAIN : FieldAt := ⟨R.CFG_FRAME_REC, 27, 27⟩
abbrev F.CFG_FRAME_REC_KEY : FieldAt := ⟨R.CFG_FRAME_REC, 26, 18⟩
abbrev R.CFG_FRAME_GOLDEN : Nat := 0x10030840
abbrev R.CFG_KEYS : Nat := 0x10030844
abbrev F.CFG_KEYS_KEYS_FULL : FieldAt := ⟨R.CFG_KEYS, 31, 31⟩
abbrev F.CFG_KEYS_USED : FieldAt := ⟨R.CFG_KEYS, 9, 0⟩
abbrev R.CFG_RESTORE_STAT : Nat := 0x10030848
abbrev F.CFG_RESTORE_STAT_RELEASE : FieldAt := ⟨R.CFG_RESTORE_STAT, 31, 31⟩
abbrev F.CFG_RESTORE_STAT_INCOMPLETE : FieldAt := ⟨R.CFG_RESTORE_STAT, 30, 30⟩
abbrev F.CFG_RESTORE_STAT_QUADRANT : FieldAt := ⟨R.CFG_RESTORE_STAT, 1, 0⟩
abbrev R.FLASH_CMD : Nat := 0x10040000
abbrev F.FLASH_CMD_OP : FieldAt := ⟨R.FLASH_CMD, 31, 28⟩
abbrev R.FLASH_ADDR : Nat := 0x10040004
abbrev R.FLASH_STAT : Nat := 0x10040008
abbrev F.FLASH_STAT_CF_BUSY : FieldAt := ⟨R.FLASH_STAT, 31, 31⟩
abbrev F.FLASH_STAT_SUSP : FieldAt := ⟨R.FLASH_STAT, 30, 29⟩
abbrev F.FLASH_STAT_SUSP_CMD : FieldAt := ⟨R.FLASH_STAT, 28, 28⟩
abbrev F.FLASH_STAT_COMPACTING : FieldAt := ⟨R.FLASH_STAT, 27, 27⟩
abbrev F.FLASH_STAT_PF_BUSY : FieldAt := ⟨R.FLASH_STAT, 26, 26⟩
abbrev F.FLASH_STAT_CF_DONE : FieldAt := ⟨R.FLASH_STAT, 25, 25⟩
abbrev F.FLASH_STAT_PF_DONE : FieldAt := ⟨R.FLASH_STAT, 24, 24⟩
abbrev F.FLASH_STAT_UNCORR : FieldAt := ⟨R.FLASH_STAT, 23, 23⟩
abbrev F.FLASH_STAT_CF_CODE : FieldAt := ⟨R.FLASH_STAT, 7, 4⟩
abbrev F.FLASH_STAT_PF_CODE : FieldAt := ⟨R.FLASH_STAT, 3, 0⟩
abbrev R.FLASH_PF_WS : Nat := 0x1004000C
abbrev F.FLASH_PF_WS_WS : FieldAt := ⟨R.FLASH_PF_WS, 3, 0⟩
abbrev R.FLASH_PF_DATA (i : Nat) : Nat := 0x10040010 + 0x4 * i
abbrev R.FLASH_SECTOR_SEL : Nat := 0x10040020
abbrev F.FLASH_SECTOR_SEL_SECTOR : FieldAt := ⟨R.FLASH_SECTOR_SEL, 9, 0⟩
abbrev R.FLASH_SECTOR_STAT : Nat := 0x10040024
abbrev F.FLASH_SECTOR_STAT_STATE : FieldAt := ⟨R.FLASH_SECTOR_STAT, 31, 28⟩
abbrev F.FLASH_SECTOR_STAT_LOCKED : FieldAt := ⟨R.FLASH_SECTOR_STAT, 27, 27⟩
abbrev F.FLASH_SECTOR_STAT_ERASES : FieldAt := ⟨R.FLASH_SECTOR_STAT, 23, 0⟩
abbrev R.FLASH_MARGIN : Nat := 0x10040028
abbrev F.FLASH_MARGIN_UNCORR : FieldAt := ⟨R.FLASH_MARGIN, 31, 20⟩
abbrev F.FLASH_MARGIN_MAXBITS : FieldAt := ⟨R.FLASH_MARGIN, 17, 16⟩
abbrev F.FLASH_MARGIN_CORR_WORDS : FieldAt := ⟨R.FLASH_MARGIN, 11, 0⟩
abbrev R.FLASH_CF_CORR : Nat := 0x1004002C
abbrev R.FLASH_UNCORR_ADDR : Nat := 0x10040030
abbrev R.FLASH_JOURNAL : Nat := 0x10040034
abbrev F.FLASH_JOURNAL_HALF : FieldAt := ⟨R.FLASH_JOURNAL, 31, 31⟩
abbrev F.FLASH_JOURNAL_GENERATION : FieldAt := ⟨R.FLASH_JOURNAL, 30, 11⟩
abbrev F.FLASH_JOURNAL_FREE : FieldAt := ⟨R.FLASH_JOURNAL, 10, 0⟩
abbrev R.FLASH_SUSPECT (k : Nat) : Nat := 0x10040100 + 0x4 * k
abbrev R.FLASH_PROT_CF (k : Nat) : Nat := 0x10040180 + 0x4 * k
abbrev R.FLASH_PROT_PF (k : Nat) : Nat := 0x10040200 + 0x4 * k
abbrev R.FLASH_BUF (i : Nat) : Nat := 0x10041000 + 0x4 * i
abbrev R.OTP_CTL : Nat := 0x10050000
abbrev F.OTP_CTL_GO : FieldAt := ⟨R.OTP_CTL, 31, 31⟩
abbrev R.OTP_ADDR : Nat := 0x10050004
abbrev F.OTP_ADDR_WORD : FieldAt := ⟨R.OTP_ADDR, 10, 0⟩
abbrev R.OTP_DATA_LO : Nat := 0x10050008
abbrev R.OTP_DATA_HI : Nat := 0x1005000C
abbrev R.OTP_STAT : Nat := 0x10050010
abbrev F.OTP_STAT_BUSY : FieldAt := ⟨R.OTP_STAT, 31, 31⟩
abbrev F.OTP_STAT_CODE : FieldAt := ⟨R.OTP_STAT, 3, 0⟩
abbrev R.PWR_SUPPLY_STAT : Nat := 0x10010000
abbrev F.PWR_SUPPLY_STAT_TRIM_CLAMP : FieldAt := ⟨R.PWR_SUPPLY_STAT, 3, 3⟩
abbrev F.PWR_SUPPLY_STAT_HOLDUP : FieldAt := ⟨R.PWR_SUPPLY_STAT, 2, 2⟩
abbrev F.PWR_SUPPLY_STAT_HOLDUP_SEEN : FieldAt := ⟨R.PWR_SUPPLY_STAT, 1, 1⟩
abbrev R.PWR_HOLDUP_CFG : Nat := 0x10010004
abbrev F.PWR_HOLDUP_CFG_EN : FieldAt := ⟨R.PWR_HOLDUP_CFG, 31, 31⟩
abbrev F.PWR_HOLDUP_CFG_THR : FieldAt := ⟨R.PWR_HOLDUP_CFG, 7, 0⟩
abbrev R.PWR_PHASE_STAT : Nat := 0x10010008
abbrev F.PWR_PHASE_STAT_LOST : FieldAt := ⟨R.PWR_PHASE_STAT, 5, 0⟩
abbrev R.PWR_PHASE_CTL : Nat := 0x1001000C
abbrev F.PWR_PHASE_CTL_REARM : FieldAt := ⟨R.PWR_PHASE_CTL, 5, 0⟩
abbrev R.PWR_RAIL_FAULT : Nat := 0x10010010
abbrev F.PWR_RAIL_FAULT_KIND : FieldAt := ⟨R.PWR_RAIL_FAULT, 7, 4⟩
abbrev F.PWR_RAIL_FAULT_RAIL : FieldAt := ⟨R.PWR_RAIL_FAULT, 3, 0⟩
abbrev R.PWR_RUN_NEED : Nat := 0x10010014
abbrev R.PWR_D_CTL (d : Nat) : Nat := 0x10010100 + 0x20 * d
abbrev F.PWR_D_CTL_WOA (d : Nat) : FieldAt := ⟨R.PWR_D_CTL d, 8, 8⟩
abbrev F.PWR_D_CTL_RETRIES (d : Nat) : FieldAt := ⟨R.PWR_D_CTL d, 5, 4⟩
abbrev F.PWR_D_CTL_REQ (d : Nat) : FieldAt := ⟨R.PWR_D_CTL d, 1, 0⟩
abbrev R.PWR_D_STAT (d : Nat) : Nat := 0x10010104 + 0x20 * d
abbrev F.PWR_D_STAT_STATE (d : Nat) : FieldAt := ⟨R.PWR_D_STAT d, 31, 29⟩
abbrev F.PWR_D_STAT_FAIL_CAUSE (d : Nat) : FieldAt := ⟨R.PWR_D_STAT d, 27, 24⟩
abbrev F.PWR_D_STAT_REFUSED (d : Nat) : FieldAt := ⟨R.PWR_D_STAT d, 3, 3⟩
abbrev F.PWR_D_STAT_ABORTED (d : Nat) : FieldAt := ⟨R.PWR_D_STAT d, 2, 2⟩
abbrev F.PWR_D_STAT_WAKE_FAIL (d : Nat) : FieldAt := ⟨R.PWR_D_STAT d, 1, 1⟩
abbrev F.PWR_D_STAT_IMM (d : Nat) : FieldAt := ⟨R.PWR_D_STAT d, 0, 0⟩
abbrev R.PWR_D_REFUSER (d : Nat) : Nat := 0x10010108 + 0x20 * d
abbrev F.PWR_D_REFUSER_CLASS (d : Nat) : FieldAt := ⟨R.PWR_D_REFUSER d, 15, 12⟩
abbrev F.PWR_D_REFUSER_INDEX (d : Nat) : FieldAt := ⟨R.PWR_D_REFUSER d, 11, 0⟩
abbrev R.PWR_D_ENTRIES (d : Nat) : Nat := 0x1001010C + 0x20 * d
abbrev R.PWR_D_REFUSED (d : Nat) : Nat := 0x10010110 + 0x20 * d
abbrev R.PWR_D_ABORTED (d : Nat) : Nat := 0x10010114 + 0x20 * d
abbrev R.PWR_D_WAKE_FAIL (d : Nat) : Nat := 0x10010118 + 0x20 * d
abbrev R.PWR_D_IMMEDIATE (d : Nat) : Nat := 0x1001011C + 0x20 * d
abbrev F.PWR_D_IMMEDIATE_IMMEDIATE_WAKE (d : Nat) : FieldAt := ⟨R.PWR_D_IMMEDIATE d, 31, 16⟩
abbrev F.PWR_D_IMMEDIATE_ENTRY_WAKE (d : Nat) : FieldAt := ⟨R.PWR_D_IMMEDIATE d, 15, 0⟩
abbrev R.CLK_CTL : Nat := 0x10020000
abbrev F.CLK_CTL_CORE : FieldAt := ⟨R.CLK_CTL, 31, 31⟩
abbrev F.CLK_CTL_STANDBY : FieldAt := ⟨R.CLK_CTL, 30, 30⟩
abbrev F.CLK_CTL_RETURN : FieldAt := ⟨R.CLK_CTL, 29, 29⟩
abbrev R.CLK_STAT : Nat := 0x10020004
abbrev F.CLK_STAT_SUPPLY : FieldAt := ⟨R.CLK_STAT, 31, 31⟩
abbrev F.CLK_STAT_REF_LOST : FieldAt := ⟨R.CLK_STAT, 30, 30⟩
abbrev F.CLK_STAT_BANDS_BAD : FieldAt := ⟨R.CLK_STAT, 29, 29⟩
abbrev F.CLK_STAT_CORE_REFUSED : FieldAt := ⟨R.CLK_STAT, 3, 3⟩
abbrev F.CLK_STAT_RETURN_REFUSED : FieldAt := ⟨R.CLK_STAT, 2, 2⟩
abbrev F.CLK_STAT_RELOCK_REFUSED : FieldAt := ⟨R.CLK_STAT, 1, 1⟩
abbrev F.CLK_STAT_REF_SEEN_LOST : FieldAt := ⟨R.CLK_STAT, 0, 0⟩
abbrev R.CLK_REF_CFG : Nat := 0x10020008
abbrev F.CLK_REF_CFG_SRC : FieldAt := ⟨R.CLK_REF_CFG, 31, 30⟩
abbrev F.CLK_REF_CFG_REFMOD_B : FieldAt := ⟨R.CLK_REF_CFG, 3, 2⟩
abbrev F.CLK_REF_CFG_REFMOD_A : FieldAt := ⟨R.CLK_REF_CFG, 1, 0⟩
abbrev R.CLK_BAND_CFG : Nat := 0x1002000C
abbrev F.CLK_BAND_CFG_IMG : FieldAt := ⟨R.CLK_BAND_CFG, 0, 0⟩
abbrev R.CLK_PLL_CTL (x : Nat) : Nat := 0x10020010 + 0x10 * x
abbrev F.CLK_PLL_CTL_RELOCK (x : Nat) : FieldAt := ⟨R.CLK_PLL_CTL x, 31, 31⟩
abbrev R.CLK_PLL_STAT (x : Nat) : Nat := 0x10020014 + 0x10 * x
abbrev F.CLK_PLL_STAT_LOCKED (x : Nat) : FieldAt := ⟨R.CLK_PLL_STAT x, 31, 31⟩
abbrev F.CLK_PLL_STAT_STANDING_BY (x : Nat) : FieldAt := ⟨R.CLK_PLL_STAT x, 30, 30⟩
abbrev F.CLK_PLL_STAT_HOLDOVER (x : Nat) : FieldAt := ⟨R.CLK_PLL_STAT x, 29, 29⟩
abbrev F.CLK_PLL_STAT_NO_BAND (x : Nat) : FieldAt := ⟨R.CLK_PLL_STAT x, 28, 28⟩
abbrev F.CLK_PLL_STAT_BAND_MARGIN (x : Nat) : FieldAt := ⟨R.CLK_PLL_STAT x, 27, 27⟩
abbrev F.CLK_PLL_STAT_BAND (x : Nat) : FieldAt := ⟨R.CLK_PLL_STAT x, 19, 16⟩
abbrev F.CLK_PLL_STAT_VTUNE (x : Nat) : FieldAt := ⟨R.CLK_PLL_STAT x, 15, 0⟩
abbrev R.CLK_SWITCHES : Nat := 0x10020030
abbrev R.CLK_SYNC_PHASE : Nat := 0x10020034
abbrev F.CLK_SYNC_PHASE_PHASE : FieldAt := ⟨R.CLK_SYNC_PHASE, 9, 0⟩
abbrev R.CLK_BAND (b : Nat) : Nat := 0x10020040 + 0x4 * b
abbrev R.CLK_IMG_BAND (b : Nat) : Nat := 0x10020080 + 0x4 * b
abbrev R.CLK_CLKOUT_CFG (k : Nat) : Nat := 0x100200C0 + 0x4 * k
abbrev F.CLK_CLKOUT_CFG_EN (k : Nat) : FieldAt := ⟨R.CLK_CLKOUT_CFG k, 31, 31⟩
abbrev F.CLK_CLKOUT_CFG_FMT (k : Nat) : FieldAt := ⟨R.CLK_CLKOUT_CFG k, 30, 29⟩
abbrev F.CLK_CLKOUT_CFG_SYNC_EN (k : Nat) : FieldAt := ⟨R.CLK_CLKOUT_CFG k, 28, 28⟩
abbrev F.CLK_CLKOUT_CFG_PHASE (k : Nat) : FieldAt := ⟨R.CLK_CLKOUT_CFG k, 23, 12⟩
abbrev F.CLK_CLKOUT_CFG_D (k : Nat) : FieldAt := ⟨R.CLK_CLKOUT_CFG k, 11, 0⟩
abbrev R.IRQ_D_CTL (d : Nat) : Nat := 0x10060100 + 0x40 * d
abbrev F.IRQ_D_CTL_UNRETIRE (d : Nat) : FieldAt := ⟨R.IRQ_D_CTL d, 31, 31⟩
abbrev F.IRQ_D_CTL_SUCC (d : Nat) : FieldAt := ⟨R.IRQ_D_CTL d, 1, 0⟩
abbrev R.IRQ_D_STAT (d : Nat) : Nat := 0x10060104 + 0x40 * d
abbrev F.IRQ_D_STAT_RETIRED (d : Nat) : FieldAt := ⟨R.IRQ_D_STAT d, 31, 31⟩
abbrev F.IRQ_D_STAT_LEVEL (d : Nat) : FieldAt := ⟨R.IRQ_D_STAT d, 30, 29⟩
abbrev F.IRQ_D_STAT_NOT_RETIRED (d : Nat) : FieldAt := ⟨R.IRQ_D_STAT d, 28, 28⟩
abbrev F.IRQ_D_STAT_REASON (d : Nat) : FieldAt := ⟨R.IRQ_D_STAT d, 27, 24⟩
abbrev F.IRQ_D_STAT_ABANDONED (d : Nat) : FieldAt := ⟨R.IRQ_D_STAT d, 7, 0⟩
abbrev R.IRQ_D_STACK (d : Nat) : Nat := 0x10060108 + 0x40 * d
abbrev F.IRQ_D_STACK_V1 (d : Nat) : FieldAt := ⟨R.IRQ_D_STACK d, 31, 31⟩
abbrev F.IRQ_D_STACK_SRC1 (d : Nat) : FieldAt := ⟨R.IRQ_D_STACK d, 25, 16⟩
abbrev F.IRQ_D_STACK_V0 (d : Nat) : FieldAt := ⟨R.IRQ_D_STACK d, 15, 15⟩
abbrev F.IRQ_D_STACK_SRC0 (d : Nat) : FieldAt := ⟨R.IRQ_D_STACK d, 9, 0⟩
abbrev R.IRQ_D_WD_CFG (d : Nat) : Nat := 0x1006010C + 0x40 * d
abbrev F.IRQ_D_WD_CFG_EN (d : Nat) : FieldAt := ⟨R.IRQ_D_WD_CFG d, 31, 31⟩
abbrev F.IRQ_D_WD_CFG_PERIOD (d : Nat) : FieldAt := ⟨R.IRQ_D_WD_CFG d, 16, 0⟩
abbrev R.IRQ_D_WD_KICK (d : Nat) : Nat := 0x10060110 + 0x40 * d
abbrev R.IRQ_D_WD_EXPIRIES (d : Nat) : Nat := 0x10060114 + 0x40 * d
abbrev R.IRQ_D_RESTARTS (d : Nat) : Nat := 0x10060118 + 0x40 * d
abbrev R.IRQ_D_COALESCED (d : Nat) : Nat := 0x1006011C + 0x40 * d
abbrev R.IRQ_BERR_ADDR : Nat := 0x10060200
abbrev R.IRQ_BERR_INFO : Nat := 0x10060204
abbrev F.IRQ_BERR_INFO_INITIATOR : FieldAt := ⟨R.IRQ_BERR_INFO, 31, 28⟩
abbrev F.IRQ_BERR_INFO_CODE : FieldAt := ⟨R.IRQ_BERR_INFO, 3, 0⟩
abbrev R.IRQ_BERR_COUNT : Nat := 0x10060208
abbrev R.IRQ_PEND (k : Nat) : Nat := 0x10060400 + 0x4 * k
abbrev R.IRQ_ACTIVE (k : Nat) : Nat := 0x10060480 + 0x4 * k
abbrev R.IRQ_RAISE (k : Nat) : Nat := 0x10060500 + 0x4 * k
abbrev R.IRQ_SRC_CFG (n : Nat) : Nat := 0x10061000 + 0x4 * n
abbrev F.IRQ_SRC_CFG_EN (n : Nat) : FieldAt := ⟨R.IRQ_SRC_CFG n, 31, 31⟩
abbrev F.IRQ_SRC_CFG_CLASS (n : Nat) : FieldAt := ⟨R.IRQ_SRC_CFG n, 30, 30⟩
abbrev F.IRQ_SRC_CFG_TARGET (n : Nat) : FieldAt := ⟨R.IRQ_SRC_CFG n, 29, 28⟩
abbrev F.IRQ_SRC_CFG_PRIO (n : Nat) : FieldAt := ⟨R.IRQ_SRC_CFG n, 2, 0⟩
abbrev R.SNAP_CTL : Nat := 0x10070000
abbrev F.SNAP_CTL_GO : FieldAt := ⟨R.SNAP_CTL, 31, 31⟩
abbrev F.SNAP_CTL_FREE : FieldAt := ⟨R.SNAP_CTL, 30, 30⟩
abbrev F.SNAP_CTL_PIN_EN : FieldAt := ⟨R.SNAP_CTL, 1, 1⟩
abbrev F.SNAP_CTL_OVERWRITE : FieldAt := ⟨R.SNAP_CTL, 0, 0⟩
abbrev R.SNAP_STAT : Nat := 0x10070004
abbrev F.SNAP_STAT_FULL : FieldAt := ⟨R.SNAP_STAT, 31, 31⟩
abbrev F.SNAP_STAT_SRC : FieldAt := ⟨R.SNAP_STAT, 7, 0⟩
abbrev R.SNAP_SEQ : Nat := 0x10070008
abbrev R.SNAP_MISSED : Nat := 0x1007000C
abbrev R.SNAP_TIME_LO : Nat := 0x10070010
abbrev R.SNAP_TIME_HI : Nat := 0x10070014
abbrev R.SNAP_SH_TRACK (t : Nat) (i : Nat) : Nat := 0x10070100 + 0x20 * t + 0x4 * i
abbrev R.SNAP_SH_DOM (x : Nat) (i : Nat) : Nat := 0x10070140 + 0x8 * x + 0x4 * i
abbrev R.SNAP_SH_T_ANGLE : Nat := 0x10070160
abbrev R.SNAP_SH_T_REV : Nat := 0x10070164
abbrev R.SNAP_SH_POOL_FREE : Nat := 0x10070168
abbrev R.SNAP_SH_POOL_IN_USE : Nat := 0x1007016C
abbrev R.SNAP_SH_MODE : Nat := 0x10070170
abbrev R.SNAP_SH_SPARED : Nat := 0x10070174
abbrev R.SNAP_SH_RES (i : Nat) : Nat := 0x10070200 + 0x4 * i
abbrev R.SNAP_SH_MON (m : Nat) : Nat := 0x10070400 + 0x4 * m
abbrev R.SNAP_SH_C_STAT (n : Nat) : Nat := 0x10070800 + 0x4 * n
abbrev R.SNAP_SH_C_EVENTS (n : Nat) : Nat := 0x10070C00 + 0x4 * n
abbrev R.SNAP_SH_LANE (n : Nat) (i : Nat) : Nat := 0x10071000 + 0x10 * n + 0x4 * i
abbrev R.ECC_CTL : Nat := 0x10080000
abbrev F.ECC_CTL_IDLE_EN : FieldAt := ⟨R.ECC_CTL, 31, 31⟩
abbrev R.ECC_STAT : Nat := 0x10080004
abbrev F.ECC_STAT_STARVED : FieldAt := ⟨R.ECC_STAT, 3, 3⟩
abbrev F.ECC_STAT_SCRUB_UNC : FieldAt := ⟨R.ECC_STAT, 2, 2⟩
abbrev F.ECC_STAT_UNCORR : FieldAt := ⟨R.ECC_STAT, 1, 1⟩
abbrev F.ECC_STAT_CORR : FieldAt := ⟨R.ECC_STAT, 0, 0⟩
abbrev R.ECC_CORR_COUNT : Nat := 0x10080008
abbrev R.ECC_UNCORR_COUNT : Nat := 0x1008000C
abbrev R.ECC_LAST_CORR : Nat := 0x10080010
abbrev R.ECC_LAST_UNCORR : Nat := 0x10080014
abbrev R.ECC_LAST_INFO : Nat := 0x10080018
abbrev F.ECC_LAST_INFO_INITIATOR : FieldAt := ⟨R.ECC_LAST_INFO, 31, 28⟩
abbrev F.ECC_LAST_INFO_CLASS : FieldAt := ⟨R.ECC_LAST_INFO, 27, 25⟩
abbrev F.ECC_LAST_INFO_KIND : FieldAt := ⟨R.ECC_LAST_INFO, 17, 16⟩
abbrev F.ECC_LAST_INFO_ROW : FieldAt := ⟨R.ECC_LAST_INFO, 7, 4⟩
abbrev F.ECC_LAST_INFO_COL : FieldAt := ⟨R.ECC_LAST_INFO, 3, 0⟩
abbrev R.ECC_FORCED : Nat := 0x1008001C
abbrev R.ECC_SCRUB_START : Nat := 0x10080100
abbrev R.ECC_SCRUB_END : Nat := 0x10080104
abbrev R.ECC_SCRUB_CTL : Nat := 0x10080108
abbrev F.ECC_SCRUB_CTL_GO : FieldAt := ⟨R.ECC_SCRUB_CTL, 31, 31⟩
abbrev F.ECC_SCRUB_CTL_ABORT : FieldAt := ⟨R.ECC_SCRUB_CTL, 30, 30⟩
abbrev F.ECC_SCRUB_CTL_OP : FieldAt := ⟨R.ECC_SCRUB_CTL, 1, 0⟩
abbrev R.ECC_SCRUB_STAT : Nat := 0x1008010C
abbrev F.ECC_SCRUB_STAT_STATE : FieldAt := ⟨R.ECC_SCRUB_STAT, 31, 30⟩
abbrev F.ECC_SCRUB_STAT_REFUSED : FieldAt := ⟨R.ECC_SCRUB_STAT, 29, 29⟩
abbrev F.ECC_SCRUB_STAT_CAUSE : FieldAt := ⟨R.ECC_SCRUB_STAT, 3, 0⟩
abbrev R.ECC_SCRUB_FILL_LO : Nat := 0x10080110
abbrev R.ECC_SCRUB_FILL_HI : Nat := 0x10080114
abbrev R.ECC_SCRUB_CORR : Nat := 0x10080118
abbrev R.ECC_SCRUB_UNC : Nat := 0x1008011C
abbrev R.ECC_SCRUB_POS : Nat := 0x10080120
abbrev R.ECC_SCRUB_UADDR (k : Nat) : Nat := 0x10080140 + 0x4 * k
abbrev R.ECC_LAP (m : Nat) : Nat := 0x10080200 + 0x8 * m
abbrev R.ECC_LAP_WORST (m : Nat) : Nat := 0x10080204 + 0x8 * m
abbrev R.ECC_IDLE_CORR : Nat := 0x10080280
abbrev R.ECC_IDLE_UNC : Nat := 0x10080284
abbrev R.ECC_IDLE_UADDR : Nat := 0x10080288
abbrev R.BIST_CTL : Nat := 0x10090000
abbrev F.BIST_CTL_EN : FieldAt := ⟨R.BIST_CTL, 31, 31⟩
abbrev F.BIST_CTL_MAN_GO : FieldAt := ⟨R.BIST_CTL, 30, 30⟩
abbrev R.BIST_CFG : Nat := 0x10090004
abbrev F.BIST_CFG_PERIOD_MS : FieldAt := ⟨R.BIST_CFG, 31, 16⟩
abbrev F.BIST_CFG_BUDGET_US : FieldAt := ⟨R.BIST_CFG, 9, 0⟩
abbrev R.BIST_STAT : Nat := 0x10090008
abbrev F.BIST_STAT_STATE : FieldAt := ⟨R.BIST_STAT, 31, 30⟩
abbrev F.BIST_STAT_MAN_REFUSED : FieldAt := ⟨R.BIST_STAT, 29, 29⟩
abbrev F.BIST_STAT_MANUAL : FieldAt := ⟨R.BIST_STAT, 28, 28⟩
abbrev F.BIST_STAT_KIND : FieldAt := ⟨R.BIST_STAT, 27, 24⟩
abbrev F.BIST_STAT_ENTRY : FieldAt := ⟨R.BIST_STAT, 23, 16⟩
abbrev F.BIST_STAT_UNIT : FieldAt := ⟨R.BIST_STAT, 15, 0⟩
abbrev R.BIST_MAN : Nat := 0x1009000C
abbrev F.BIST_MAN_KIND : FieldAt := ⟨R.BIST_MAN, 31, 28⟩
abbrev F.BIST_MAN_UNIT : FieldAt := ⟨R.BIST_MAN, 15, 0⟩
abbrev R.BIST_LAST : Nat := 0x10090010
abbrev F.BIST_LAST_KIND : FieldAt := ⟨R.BIST_LAST, 31, 28⟩
abbrev F.BIST_LAST_RESULT : FieldAt := ⟨R.BIST_LAST, 27, 26⟩
abbrev F.BIST_LAST_MANUAL : FieldAt := ⟨R.BIST_LAST, 25, 25⟩
abbrev F.BIST_LAST_CAUSE : FieldAt := ⟨R.BIST_LAST, 23, 20⟩
abbrev F.BIST_LAST_UNIT : FieldAt := ⟨R.BIST_LAST, 15, 0⟩
abbrev R.BIST_MISR_LO : Nat := 0x10090014
abbrev R.BIST_MISR_HI : Nat := 0x10090018
abbrev R.BIST_PASSES : Nat := 0x1009001C
abbrev R.BIST_FAILS : Nat := 0x10090020
abbrev R.BIST_INCOMPLETES : Nat := 0x10090024
abbrev R.BIST_SKIPS : Nat := 0x10090028
abbrev R.BIST_LAP_S : Nat := 0x1009002C
abbrev R.BIST_TRACT_USE : Nat := 0x10090030
abbrev F.BIST_TRACT_USE_VALID : FieldAt := ⟨R.BIST_TRACT_USE, 31, 31⟩
abbrev F.BIST_TRACT_USE_TRACT : FieldAt := ⟨R.BIST_TRACT_USE, 7, 0⟩
abbrev R.BIST_REF_LO (k : Nat) : Nat := 0x10090040 + 0x8 * k
abbrev R.BIST_REF_HI (k : Nat) : Nat := 0x10090044 + 0x8 * k
abbrev R.BIST_TRACT_BAD (k : Nat) : Nat := 0x10090100 + 0x4 * k
abbrev R.BIST_PLAN (e : Nat) : Nat := 0x10090400 + 0x4 * e
abbrev F.BIST_PLAN_KIND (e : Nat) : FieldAt := ⟨R.BIST_PLAN e, 31, 28⟩
abbrev F.BIST_PLAN_COUNT (e : Nat) : FieldAt := ⟨R.BIST_PLAN e, 27, 16⟩
abbrev F.BIST_PLAN_FIRST (e : Nat) : FieldAt := ⟨R.BIST_PLAN e, 15, 0⟩
abbrev R.SEC_STAT : Nat := 0x100A0000
abbrev F.SEC_STAT_SLOTS : FieldAt := ⟨R.SEC_STAT, 15, 8⟩
abbrev F.SEC_STAT_FLEET : FieldAt := ⟨R.SEC_STAT, 3, 3⟩
abbrev F.SEC_STAT_KEY_BAD : FieldAt := ⟨R.SEC_STAT, 2, 2⟩
abbrev F.SEC_STAT_LIFECYCLE : FieldAt := ⟨R.SEC_STAT, 1, 0⟩
abbrev R.SEC_SLOT_FLAGS : Nat := 0x100A0004
abbrev R.SEC_SVC_CTL : Nat := 0x100A0010
abbrev F.SEC_SVC_CTL_RESTART : FieldAt := ⟨R.SEC_SVC_CTL, 7, 4⟩
abbrev F.SEC_SVC_CTL_HALT : FieldAt := ⟨R.SEC_SVC_CTL, 3, 0⟩
abbrev R.SEC_SVC_STAT : Nat := 0x100A0014
abbrev F.SEC_SVC_STAT_HOLDER : FieldAt := ⟨R.SEC_SVC_STAT, 31, 30⟩
abbrev F.SEC_SVC_STAT_SESSION : FieldAt := ⟨R.SEC_SVC_STAT, 7, 0⟩
abbrev R.SEC_CHAL_CTL : Nat := 0x100A0020
abbrev F.SEC_CHAL_CTL_NEW : FieldAt := ⟨R.SEC_CHAL_CTL, 0, 0⟩
abbrev R.SEC_CHALLENGE (k : Nat) : Nat := 0x100A0024 + 0x4 * k
abbrev R.SEC_PROV_CTL : Nat := 0x100A0080
abbrev F.SEC_PROV_CTL_GO : FieldAt := ⟨R.SEC_PROV_CTL, 31, 31⟩
abbrev F.SEC_PROV_CTL_END : FieldAt := ⟨R.SEC_PROV_CTL, 30, 30⟩
abbrev R.SEC_PROV_STAT : Nat := 0x100A0084
abbrev F.SEC_PROV_STAT_BUSY : FieldAt := ⟨R.SEC_PROV_STAT, 31, 31⟩
abbrev F.SEC_PROV_STAT_CODE : FieldAt := ⟨R.SEC_PROV_STAT, 3, 0⟩
abbrev R.SEC_PROV_BUF (k : Nat) : Nat := 0x100A0100 + 0x4 * k
abbrev R.SEC_ATT_CTL : Nat := 0x100A0400
abbrev F.SEC_ATT_CTL_GO : FieldAt := ⟨R.SEC_ATT_CTL, 31, 31⟩
abbrev R.SEC_ATT_STAT : Nat := 0x100A0404
abbrev F.SEC_ATT_STAT_READY : FieldAt := ⟨R.SEC_ATT_STAT, 31, 31⟩
abbrev F.SEC_ATT_STAT_BUSY : FieldAt := ⟨R.SEC_ATT_STAT, 30, 30⟩
abbrev F.SEC_ATT_STAT_REFUSED : FieldAt := ⟨R.SEC_ATT_STAT, 0, 0⟩
abbrev R.SEC_ATT_NONCE (k : Nat) : Nat := 0x100A0420 + 0x4 * k
abbrev R.SEC_ATT_REP (k : Nat) : Nat := 0x100A0500 + 0x4 * k
abbrev R.SEC_AUTH_REFUSED : Nat := 0x100A0600
abbrev R.SEC_OPEN_DROP : Nat := 0x100A0604
abbrev R.SEC_UNLOCK_FAIL : Nat := 0x100A0608
abbrev R.GPIO_GP_CFG (n : Nat) : Nat := 0x100B0000 + 0x4 * n
abbrev F.GPIO_GP_CFG_FILT_N (n : Nat) : FieldAt := ⟨R.GPIO_GP_CFG n, 31, 28⟩
abbrev F.GPIO_GP_CFG_FILT_TB (n : Nat) : FieldAt := ⟨R.GPIO_GP_CFG n, 27, 24⟩
abbrev F.GPIO_GP_CFG_FMODE (n : Nat) : FieldAt := ⟨R.GPIO_GP_CFG n, 23, 22⟩
abbrev F.GPIO_GP_CFG_OUT_INV (n : Nat) : FieldAt := ⟨R.GPIO_GP_CFG n, 21, 21⟩
abbrev F.GPIO_GP_CFG_SER_RATE (n : Nat) : FieldAt := ⟨R.GPIO_GP_CFG n, 20, 19⟩
abbrev F.GPIO_GP_CFG_IRQ (n : Nat) : FieldAt := ⟨R.GPIO_GP_CFG n, 18, 16⟩
abbrev F.GPIO_GP_CFG_HOLD (n : Nat) : FieldAt := ⟨R.GPIO_GP_CFG n, 15, 14⟩
abbrev F.GPIO_GP_CFG_SAFE_OE (n : Nat) : FieldAt := ⟨R.GPIO_GP_CFG n, 13, 13⟩
abbrev F.GPIO_GP_CFG_SAFE_VAL (n : Nat) : FieldAt := ⟨R.GPIO_GP_CFG n, 12, 12⟩
abbrev F.GPIO_GP_CFG_PULL (n : Nat) : FieldAt := ⟨R.GPIO_GP_CFG n, 9, 8⟩
abbrev F.GPIO_GP_CFG_SLEW (n : Nat) : FieldAt := ⟨R.GPIO_GP_CFG n, 7, 7⟩
abbrev F.GPIO_GP_CFG_DRIVE (n : Nat) : FieldAt := ⟨R.GPIO_GP_CFG n, 5, 4⟩
abbrev F.GPIO_GP_CFG_FUNC (n : Nat) : FieldAt := ⟨R.GPIO_GP_CFG n, 3, 0⟩
abbrev R.GPIO_OUT (k : Nat) : Nat := 0x100B0400 + 0x20 * k
abbrev F.GPIO_OUT_OUT (k : Nat) : FieldAt := ⟨R.GPIO_OUT k, 15, 0⟩
abbrev R.GPIO_OUT_SET (k : Nat) : Nat := 0x100B0404 + 0x20 * k
abbrev F.GPIO_OUT_SET_OUT (k : Nat) : FieldAt := ⟨R.GPIO_OUT_SET k, 15, 0⟩
abbrev R.GPIO_OUT_CLR (k : Nat) : Nat := 0x100B0408 + 0x20 * k
abbrev F.GPIO_OUT_CLR_OUT (k : Nat) : FieldAt := ⟨R.GPIO_OUT_CLR k, 15, 0⟩
abbrev R.GPIO_OUT_TGL (k : Nat) : Nat := 0x100B040C + 0x20 * k
abbrev F.GPIO_OUT_TGL_OUT (k : Nat) : FieldAt := ⟨R.GPIO_OUT_TGL k, 15, 0⟩
abbrev R.GPIO_OE (k : Nat) : Nat := 0x100B0410 + 0x20 * k
abbrev F.GPIO_OE_OE (k : Nat) : FieldAt := ⟨R.GPIO_OE k, 15, 0⟩
abbrev R.GPIO_IN (k : Nat) : Nat := 0x100B0414 + 0x20 * k
abbrev F.GPIO_IN_IN (k : Nat) : FieldAt := ⟨R.GPIO_IN k, 15, 0⟩
abbrev R.GPIO_IRQ_STAT (k : Nat) : Nat := 0x100B0418 + 0x20 * k
abbrev F.GPIO_IRQ_STAT_PIN (k : Nat) : FieldAt := ⟨R.GPIO_IRQ_STAT k, 15, 0⟩
abbrev R.GPIO_PORT_CFG (k : Nat) : Nat := 0x100B0600 + 0x10 * k
abbrev F.GPIO_PORT_CFG_MODE (k : Nat) : FieldAt := ⟨R.GPIO_PORT_CFG k, 31, 30⟩
abbrev F.GPIO_PORT_CFG_DIV (k : Nat) : FieldAt := ⟨R.GPIO_PORT_CFG k, 27, 16⟩
abbrev F.GPIO_PORT_CFG_OPT (k : Nat) : FieldAt := ⟨R.GPIO_PORT_CFG k, 3, 0⟩
abbrev R.GPIO_PORT_TX (k : Nat) : Nat := 0x100B0604 + 0x10 * k
abbrev F.GPIO_PORT_TX_CMD (k : Nat) : FieldAt := ⟨R.GPIO_PORT_TX k, 11, 8⟩
abbrev F.GPIO_PORT_TX_DATA (k : Nat) : FieldAt := ⟨R.GPIO_PORT_TX k, 7, 0⟩
abbrev R.GPIO_PORT_RX (k : Nat) : Nat := 0x100B0608 + 0x10 * k
abbrev F.GPIO_PORT_RX_VALID (k : Nat) : FieldAt := ⟨R.GPIO_PORT_RX k, 31, 31⟩
abbrev F.GPIO_PORT_RX_DATA (k : Nat) : FieldAt := ⟨R.GPIO_PORT_RX k, 7, 0⟩
abbrev R.GPIO_PORT_STAT (k : Nat) : Nat := 0x100B060C + 0x10 * k
abbrev F.GPIO_PORT_STAT_TX_LEVEL (k : Nat) : FieldAt := ⟨R.GPIO_PORT_STAT k, 20, 16⟩
abbrev F.GPIO_PORT_STAT_RX_LEVEL (k : Nat) : FieldAt := ⟨R.GPIO_PORT_STAT k, 12, 8⟩
abbrev F.GPIO_PORT_STAT_NACK (k : Nat) : FieldAt := ⟨R.GPIO_PORT_STAT k, 4, 4⟩
abbrev F.GPIO_PORT_STAT_OVERRUN (k : Nat) : FieldAt := ⟨R.GPIO_PORT_STAT k, 3, 3⟩
abbrev F.GPIO_PORT_STAT_PARITY (k : Nat) : FieldAt := ⟨R.GPIO_PORT_STAT k, 2, 2⟩
abbrev F.GPIO_PORT_STAT_FRAME (k : Nat) : FieldAt := ⟨R.GPIO_PORT_STAT k, 1, 1⟩
abbrev F.GPIO_PORT_STAT_BUSY (k : Nat) : FieldAt := ⟨R.GPIO_PORT_STAT k, 0, 0⟩
abbrev R.GPIO_PWM (k : Nat) : Nat := 0x100B0700 + 0x4 * k
abbrev F.GPIO_PWM_PERIOD (k : Nat) : FieldAt := ⟨R.GPIO_PWM k, 31, 16⟩
abbrev F.GPIO_PWM_HIGH (k : Nat) : FieldAt := ⟨R.GPIO_PWM k, 15, 0⟩
abbrev R.GPIO_CAP_INFO (k : Nat) : Nat := 0x100B0740 + 0x8 * k
abbrev F.GPIO_CAP_INFO_VALID (k : Nat) : FieldAt := ⟨R.GPIO_CAP_INFO k, 31, 31⟩
abbrev F.GPIO_CAP_INFO_OVF (k : Nat) : FieldAt := ⟨R.GPIO_CAP_INFO k, 30, 30⟩
abbrev F.GPIO_CAP_INFO_RISE (k : Nat) : FieldAt := ⟨R.GPIO_CAP_INFO k, 4, 4⟩
abbrev F.GPIO_CAP_INFO_PIN (k : Nat) : FieldAt := ⟨R.GPIO_CAP_INFO k, 3, 0⟩
abbrev R.GPIO_CAP_TIME (k : Nat) : Nat := 0x100B0744 + 0x8 * k
abbrev R.GPIO_STRAPS : Nat := 0x100B0800
abbrev F.GPIO_STRAPS_CHAIN_SRC : FieldAt := ⟨R.GPIO_STRAPS, 1, 1⟩
abbrev F.GPIO_STRAPS_PULLSEL : FieldAt := ⟨R.GPIO_STRAPS, 0, 0⟩
abbrev R.GPIO_BANK_STAT : Nat := 0x100B0804

end Sys2Proof.Machine
end

