-- ==== Sys2Proof/Machine/Sparse.lean ====
section
/-! DEFINITION. Sys2Proof/Machine/Sparse.lean: data held by key. A `Sparse α` lists the keys whose value differs from
the default (the reset contents), keys strictly rising, so that equal contents are equal lists. -/
namespace Sys2Proof.Machine

/-- Contents listed by key; a key that is not listed holds the default. -/
abbrev Sparse (α : Type) := List (Nat × α)

/-- The value at key `k`, `d k` where the key is not listed. -/
def Sparse.get {α : Type} (d : Nat → α) : Sparse α → Nat → α
  | [], k => d k
  | (k', v) :: r, k => if k' = k then v else Sparse.get d r k

/-- Put the entry (k, v) before the first greater key. -/
def Sparse.insert {α : Type} (k : Nat) (v : α) : Sparse α → Sparse α
  | [] => [(k, v)]
  | (k', v') :: r => if k < k' then (k, v) :: (k', v') :: r else (k', v') :: Sparse.insert k v r

/-- Store `v` at key `k`. Storing the default removes the entry. -/
def Sparse.put {α : Type} [DecidableEq α] (d : Nat → α) (m : Sparse α) (k : Nat) (v : α) : Sparse α :=
  let r := m.filter fun e => decide (e.1 ≠ k)
  if v = d k then r else Sparse.insert k v r

/-- Every key of `m` is at least `lo`, keys rise strictly, and no entry holds the default. -/
def Sparse.wfFrom {α : Type} [DecidableEq α] (d : Nat → α) : Nat → Sparse α → Bool
  | _, [] => true
  | lo, (k, v) :: r => decide (lo ≤ k) && decide (v ≠ d k) && Sparse.wfFrom d (k + 1) r

/-- The canonical form. -/
def Sparse.wf {α : Type} [DecidableEq α] (d : Nat → α) (m : Sparse α) : Bool := Sparse.wfFrom d 0 m

/-- Return the keys of [lo, hi) to the default. -/
def Sparse.clear {α : Type} (lo hi : Nat) (m : Sparse α) : Sparse α :=
  m.filter fun e => decide (e.1 < lo) || decide (hi ≤ e.1)

end Sys2Proof.Machine
end

