-- ==== Sys2Proof/Machine/State.lean ====
section
/-! DEFINITION. Sys2Proof/Machine/State.lean: the state of the CH-6128, one structure for each unit of the spec, as plain
data. A register that the spine can read and that nothing computes lives in `State.regs` under its spine address; the
structures here hold what the spec gives a unit beside its registers. -/
namespace Sys2Proof.Machine

/-- A shaft tracker (R43-R53). Angles are extended by REV: REV × 2^24 + ANGLE (R40). -/
structure Tracker where
  valid : Bool := false                 -- VALID
  stalled : Bool := false               -- STALLED
  reverse : Bool := false               -- REVERSE
  n : Nat := 0                          -- decoded edges modulo E (R43)
  theta : Int := 0                      -- angle of the last edge
  base : Int := 0                       -- angle from which interpolation runs, or at which ANGLE holds (R50, R53)
  baseT : Nat := 0                      -- its time
  hist : List (Int × Nat × Int) := []   -- (angle, time, speed) of the last edges, newest first (R48)
  j : Nat := 0                          -- edges accepted since VALID became 1 (R49)
  speed : Int := 0                      -- SPEED
  accel : Int := 0                      -- ACCEL
  tk : Nat := 0                         -- time stamp of the last edge
  anchor : Option Nat := none           -- the moment the stall time runs from (R53)
  step : Int := 0                       -- last measured step (R50)
  discards : Nat := 0                   -- consecutive discarded samples (R46)
  lastFrame : Option (Nat × Nat) := none -- ANGLE and REV of the last broadcast taken (R289)
  lost : Bool := false                  -- a receiver pair is open or shorted: no edges are decoded (R55)
  sampleAt : Option Nat := none         -- first falling clock edge of the last SSI word (R45)
  heardAt : Option Nat := none          -- when a broadcast last arrived, repeated ones included (R47)
  silent : Bool := false                -- CHAIN_LOST has been set since then
  jump : Option (Int × Nat) := none     -- ANGLE just before its last edge or correction, and the moment of that (R231)
deriving DecidableEq, Repr

/-- A queue detached by the drainer and not yet delivered whole (R81): the lane, its next pool entry, the events left. -/
structure Detached where
  lane : Nat
  pos : Int
  head : Nat
  left : Nat
  late : Bool := false                  -- its bin is counted in DRAIN_LAG (R86)
deriving DecidableEq, Repr

/-- A wheel domain (R61-R65, R81-R88). Angles and the lead point are extended by REV. -/
structure Domain where
  lead : Int := 0
  lp : Int := 0
  hw : Option Int := none               -- high-water position; none = not defined (R52, R65)
  hwLost : Bool := false                -- a position that was defined is no longer: the register then shows a free value
  detached : List Detached := []
  edges : Nat := 0                      -- accepted edges, samples, broadcasts or ticks (R167)
deriving DecidableEq, Repr

/-- The time tick of domain T (R63). -/
structure TickState where
  started : Bool := false
  armed : Bool := false                 -- START_SYNC: waits for a rising SYNC edge
  start : Nat := 0                      -- time of the last start
  count : Nat := 0                      -- ticks since the start
  last : Nat := 0                       -- time of the last tick
  len : Nat := 0                        -- length of the tick in progress
  held : Int := 0                       -- the angle at which RUN = 0 stopped it, extended
deriving DecidableEq, Repr

/-- An insert waiting in a port FIFO (R72, R73). -/
structure Insert where
  lane : Nat
  bin : Nat
  ev : BitVec 64
  src : InsertSource
deriving DecidableEq, Repr

/-- An entry of the notify FIFO (R94, R102). -/
structure NotifyEntry where
  dom : Nat
  lane : Nat
  bin : Nat
  tag : Nat
  kind : Nat
  act : Nat
  profile : Nat
  imm : Bool
deriving DecidableEq, Repr

/-- A drone's own insert registers (R97). -/
structure DroneInsert where
  addr : Word := 0
  evLo : Word := 0
  code : Nat := 0
  waiting : Nat := 0
deriving DecidableEq, Repr

/-- The event wheel beside its registers and EVM. The free list holds `front`, then the entries from `next` on that were
never used since INIT, then `back` (R89, log entry 9). -/
structure Wheel where
  inited : Bool := false                -- EVM0 holds what INIT writes (R89)
  inited1 : Bool := false               -- EVM1 likewise
  ports : Sparse (List Insert) := []
  turn : Nat := 0                       -- port served last (R73)
  front : List Nat := []
  next : Nat := 0
  back : List Nat := []
  occ : Sparse Bool := []               -- occupancy bits, key bin × 256 + lane (R71)
  notify : List NotifyEntry := []
  drones : Sparse DroneInsert := []
  timeHi : Word := 0                    -- TIME_HI latch (R41)
  flushLane : Option Nat := none        -- the lane being flushed (R91)
  waiting : Sparse (List Insert) := []  -- inserts that wait for room at ports 4 and 5 (R72, R272)
  results : Sparse Nat := []            -- a fabric port's result lines: answers counted × 16 + last code (R328)
deriving DecidableEq, Repr

/-- The raise, activity and captured class of one source on one drone (R473, R474, R478). Key source × 4 + drone. -/
structure IrqSlot where
  pend : Bool := false
  act : Bool := false
  fast : Bool := false                  -- class F of the pending raise
deriving DecidableEq, Repr

/-- A drone as the interrupt controller and its watchdog see it (R476-R486). -/
structure DroneCtl where
  stack : List (Nat × Bool) := []       -- taken sources, top first, with their class (true = F)
  refire : List Nat := []               -- sources that have completed into a refire and are not yet taken again (R477)
  wdRef : Nat := 0                      -- the moment the watchdog counts from (R481)
  lastExpiry : Option Nat := none       -- the previous expiry (R483)
  restart : Option Nat := none          -- ENTRY code of a restart that is due (R482)
  halted : Bool := false                -- halted by the service session (R539)
deriving DecidableEq, Repr

/-- A scrub pass and the idle walkers (R504-R508). -/
structure Scrubber where
  passOp : Nat := 0                     -- OP of the pass in progress
  left : Bool := false                  -- a domain of its range has left ON (R505)
  from_ : Nat := 0                      -- when it was started
  lapStart : Sparse Nat := []           -- time at which walker m began its lap
deriving DecidableEq, Repr

/-- Mode changes under way (R24, R29, R30). -/
structure ModeCtl where
  arm : Option Nat := none              -- an arm is written and takes effect at the start of this frame (R30)
  burst : Option Nat := none            -- the frame at whose start the SAFE burst ends (R29)
  toQuarantine : Bool := false          -- the burst ends in QUARANTINE (else in RESET)
  restart : Bool := false               -- a restart is in progress
  cause : Nat := 0                      -- its cause
  from_ : Nat := 0                      -- the mode SERVICE was entered from (R23)
  aonCause : Nat := 0                   -- cause of the last entry to RESET, kept by the AON domain (R16)
  fresh : Bool := true                  -- the AON domain started from unpowered (R16, R22)
  restartAt : Nat := 0                  -- wheel time at which the restart in progress was taken (R31)
  heldAt : Option Nat := none           -- wheel time at which a HOLD cause last took the device to HOLD (R31)
deriving DecidableEq, Repr

/-- A drained event in a pair's drain input (R82, R160): the event with bits [21:0] giving its position, its lane, domain
(1 A, 2 B, 3 T) and position REV × 4096 + bin. -/
structure DrainItem where
  ev : BitVec 64
  lane : Nat
  dom : Nat
  pos : Int
deriving DecidableEq, Repr

/-- A command that the standard program has placed in a slot store (R114, R117): its channel 0-23 of the pair, frame and slot word, its
watch entry, and how often it has been deferred. -/
structure Placed where
  chan : Nat
  frame : Nat
  word : BitVec 32
  entry : BitVec 64
  deferred : Nat
deriving DecidableEq, Repr

/-- An echo window of the standard program (R120, R121): the channel, frame and TAG of its FIRE, and CURRENT and STATUS of its samples so far,
oldest first (none = missing). -/
structure EchoWin where
  chan : Nat
  frame : Nat
  tag : Nat
  samples : List (Option (Nat × Nat))
deriving DecidableEq, Repr

/-- An event of a row: channel, lane, bin and event word. -/
structure RowEvent where
  chan : Nat
  lane : Nat
  bin : Nat
  ev : BitVec 64
deriving DecidableEq, Repr

/-- The row that the standard program is inserting (R119): its index, the events still to be offered and the channels of those offered and
not answered. -/
structure RowJob where
  row : Nat
  todo : List RowEvent
  flying : List Nat := []
  inserted : Nat := 0
  failed : Nat := 0
deriving DecidableEq, Repr

/-- What the standard program knows of its pair beside CTX and the pair region (R113-R126): the model's own home for it (log entry 156). -/
structure Prog where
  placed : List Placed := []
  wins : List EchoWin := []
  row : Option RowJob := none
  lastFrame : Nat := 0                  -- last frame completed (W0)
  acks : Nat := 0                       -- events acknowledged (W0)
  pos : Int := 0                        -- position and FINE of the last of them (W1)
  fine : Nat := 0
  energised : Nat := 0                  -- ENERGISED of the 24 channels (W2)
  rowNext : Nat := 0                    -- row ring read index (W3)
  rowsDone : Nat := 0                   -- rows completed (W3)
  watch : Sparse Nat := []              -- entries in the watch list of lane 0 and 1 of the pair (W5)
  edges : Sparse Nat := []              -- edges of each lane's domain at the last conversion of its watch list
deriving DecidableEq, Repr

/-- A lane pair: its drain input, the open frames that are completed, and the standard program's knowledge of it (R82, R167). -/
structure Pair where
  last : Nat := 0                       -- frames below this one have been committed
  drain : List DrainItem := []
  complete : List Nat := []
  prog : Prog := {}
deriving DecidableEq, Repr

/-- What a pair handover is for (R127, R129, R130). -/
inductive ClaimKind where
  | retire | loan | loanReturn | handback
deriving DecidableEq, Repr

/-- A claim of a chanter, the moment from which its 320 ns run, and the moment it was made (R127, R131). -/
structure Claim where
  chanter : Nat
  kind : ClaimKind
  at_ : Nat
  made : Nat := at_
deriving DecidableEq, Repr

/-- A note (R132). -/
structure Note where
  chanter : Nat
  kind : Nat
  channel : Nat
  value : Word
deriving DecidableEq, Repr

/-- A posted drone store without its response (R172). -/
structure Posted where
  addr : Nat
  double : Bool
  value : BitVec 64
deriving DecidableEq, Repr

/-- What an engine waits for in the middle of an instruction. -/
inductive Wait where
  | none
  | load (double : Bool) (rd : Nat) (addr : Nat)           -- a spine load (R172)
  | fence                                                    -- FENCE (R154)
  | answer (rd : Nat)                                        -- WINS with WAIT = 1 (R164)
  | room                                                     -- a ninth WINS (R164)
  | post (p : Posted)                                        -- a fifth posted store (R172)
  | frame (k : Nat) (evt edge : Bool) (rd p : Nat) (e0 e1 : Nat) -- WFF (R167): frame, wake conditions, edge counts at issue
  | irq                                                      -- WAITI (R157)
deriving DecidableEq, Repr

/-- An engine (R142-R144, R166). Registers and accumulators are keyed bank × 16 + i and bank × 2 + i. -/
structure Engine where
  on : Bool := false                    -- started and not halted
  regs : Sparse Word := []
  acc : Sparse Int := []
  pc : Word := 0
  st : Word := 0
  fpc : Word := 0
  fst : Word := 0
  entry : Nat := 0
  exc : Word := 0
  berr : Nat := 0
  berrAddr : Word := 0
  wait : Wait := .none
  inserts : Nat := 0                    -- inserts unanswered
  answers : List Nat := []              -- answers queued for WINSR, oldest first
  posted : List Posted := []            -- oldest first
deriving DecidableEq, Repr

/-- A command in a lane's slot store (R115). -/
structure SlotEntry where
  frame : Nat
  slot : Nat
  word : Word
deriving DecidableEq, Repr

/-- A frame that is committed and not yet sent (R116, R183). -/
structure Committed where
  frame : Nat
  words : List Word
  safe : Bool
deriving DecidableEq, Repr

/-- A frame as it leaves the device (R186): TYPE, FLAGS, command bytes as 12 words, management word; SEQ, LANE_TIME and CRC
follow from the rest. -/
structure LaneFrame where
  frame : Nat
  type : Nat
  flags : Nat
  words : List Word
  mgmt : Word
deriving DecidableEq, Repr

/-- An echo kept for ECHO (R165): its frame, FLAGS and sense words, and whether they came from the partner (R214). -/
structure EchoRec where
  frame : Nat
  flags : Nat
  sense : List Word
  merged : Bool
deriving DecidableEq, Repr

/-- A management request under way (R201): TID, and the frame that carried it once it is sent. -/
structure MgPending where
  tid : Nat
  frame : Option Nat
deriving DecidableEq, Repr

/-- A lane beside its registers (R181-R222). -/
structure Lane where
  store : List SlotEntry := []
  committed : List Committed := []
  sent : Option LaneFrame := none       -- the last frame sent
  disparity : Bool := false             -- running disparity, true = positive (R184)
  firstFrame : Nat := 0                 -- first frame of SENDING (R199)
  nextFrame : Nat := 0                  -- the frame after the last one sent
  burst : Nat := 0                      -- SAFE frames of BURST still to send (R216)
  echoes : List EchoRec := []           -- accepted or merged echoes, newest first
  awaiting : List Nat := []             -- frames sent whose echo is not due yet (R198, R199)
  line : List Nat := []                 -- code groups of the last frame sent (R184)
  rx : Option Bool := none              -- the receiver's running disparity, true = positive; none = not aligned (R185)
  missed : Nat := 0                     -- consecutive frames without an accepted echo (R199)
  heard : Option Nat := none            -- FLAGS of the last echo accepted on the lane's own receive pair (R215)
  linked : Bool := false                -- an echo has been accepted since EN (R199)
  mg : Option MgPending := none
deriving DecidableEq, Repr

/-- An answer to an Ivwyn request as the device keeps it (R269, R273). -/
structure Reply where
  type : Nat
  status : Nat
  txn : Nat
  body : List Nat
deriving DecidableEq, Repr

/-- A UDP datagram as the stack sends it (R264, R266): source and destination with their ports, next hop with its hardware address where the
ARP cache knows it, TTL, DF, UDP checksum, payload. -/
structure UdpOut where
  src : Word
  sport : Nat
  dst : Word
  port : Nat
  hop : Word
  mac : Option Nat
  ttl : Nat
  df : Bool
  sum : Nat
  payload : List Nat
deriving DecidableEq, Repr

/-- A request in the order of arrival of its session, with the address and port it came from (R266, R273). -/
structure IvwReq where
  type : Nat
  txn : Nat
  ip : Word
  port : Nat
  header : List Nat
  body : List Nat
deriving DecidableEq, Repr

/-- An Ivwyn session beside its registers (R268, R271-R275, R535-R537). -/
structure Session where
  waiting : Bool := false               -- the number is assigned and waits for its CONFIRM
  role : Nat := 0                       -- 1 O, 2 P, 3 S
  ip : Word := 0                        -- the host's address and port
  port : Nat := 0
  answered : Nat := 0                   -- when the OPEN was answered
  hostKey : List Nat := []              -- the key of the host certificate
  th : List Nat := []                   -- TH
  keyIn : List Nat := []                -- host-to-device key
  keyOut : List Nat := []               -- device-to-host key
  mctrIn : Nat := 0                     -- highest counter accepted from the host
  mctrOut : Nat := 0                    -- counter of the last message sent
  climit : Nat := 0
  nseq : Nat := 0
  retained : List Reply := []           -- the 16 most recent responses, newest first
  queue : List IvwReq := []             -- requests accepted and not answered, oldest first
  running : Bool := false               -- the first of them is being worked
  fwAt : Nat := 0                       -- when the ROW or APP being worked was delivered to firmware
  insertLeft : Nat := 0                 -- events of the INSERT being worked that port 4 has not answered
  insertCodes : List Nat := []          -- its codes so far, newest first
  busIdx : Nat := 0                     -- words of the REG or MEM request being worked that are done (R269, R447)
  busData : List Nat := []              -- what they read
  idleRef : Nat := 0                    -- time of the last accepted host message
  fromIp : Word := 0                    -- source of the last accepted message (R266)
  fromPort : Nat := 0
  out : List UdpOut := []               -- the datagrams sent, newest first
deriving DecidableEq, Repr

/-- An OPEN request on its way through SEC (R537): source, TXN, header and body. -/
structure OpenReq where
  ip : Word
  port : Nat
  txn : Nat
  header : List Nat
  body : List Nat
deriving DecidableEq, Repr

/-- A receive buffer of the IVW block in use (R273, R276). -/
structure RxBuf where
  buf : Nat
  session : Nat
  type : Nat
  live : Bool := true                   -- its session has not closed since
deriving DecidableEq, Repr

/-- The Ivwyn engine and SEC's session work beside their registers (R274, R276, R537). -/
structure Ivw where
  openIn : List OpenReq := []           -- OPENs that passed the checks of R274
  opens : List OpenReq := []            -- SEC's queue of OPENs, the one being worked first
  confirms : List (Nat × Nat × List Nat) := [] -- CONFIRMs waiting for SEC: session, TXN, body
  working : Nat := 0                    -- SEC works on: 0 nothing, 1 an OPEN, 2 a CONFIRM
  answered : List (Word × Nat × Nat × List Nat) := [] -- answered OPENs: address, port, TXN, datagram
  out : List UdpOut := []               -- the datagrams sent outside a session, newest first
  rx : List RxBuf := []                 -- receive buffers in use, oldest first
  txq : List Nat := []                  -- transmit buffers queued, oldest first (R276)
deriving DecidableEq, Repr

/-- A PLL beside its registers (R453, R455, R462, R463). -/
structure Pll where
  used : Option Nat := none             -- the band in which it last locked
  choose : Bool := true                 -- its next lock chooses afresh
  move : Option Bool := none            -- its next lock moves up (true) or down
  trying : Bool := false                -- a lock attempt runs
  goHome : Bool := false                -- supply goes back to it once it stands by (R463)
  refmod : Nat := 0                     -- modifier of its last lock
  tryAt : Option Nat := none            -- when its last attempt began, or it was last lost, where a time follows from it (R453)
deriving DecidableEq, Repr

/-- What drives a clock output, in VCO periods from wheel time 0 (R466-R468): from `since` on it has the format and divider given, with a
rising edge at `first` and low before, until `stop`, from which it is held low. -/
structure OutWave where
  since : Nat
  fmt : Nat
  d : Nat
  first : Nat
  stop : Option Nat := none
deriving DecidableEq, Repr

/-- The clock outputs and the fabric epoch (R458, R468). -/
structure Clk where
  plls : Sparse Pll := []
  epoch : Option Nat := none            -- fabric epoch E (R299)
  syncAt : Option Nat := none           -- when the internal SYNC last acted (R329)
  outs : Sparse (List OutWave) := []    -- what drives each clock output, the latest first (R467)
deriving DecidableEq, Repr

/-- A data frame that arrived and is to be consumed, with its port (R285). -/
structure EmnIn where
  port : Nat
  type : Nat
  src : Nat
  payload : List Nat
deriving DecidableEq, Repr

/-- An EVT frame that waits for the credit of its port (R286): `from_` is the port it arrived on, where it is only forwarded and its
credit goes back once it has left. -/
structure HeldEvt where
  dst : Nat
  src : Nat
  payload : List Nat
  from_ : Option Nat
deriving DecidableEq, Repr

/-- An Emnodric port (R278-R287). -/
structure EmnPort where
  trains : Nat := 0                     -- valid TRAIN frames received since training began (R282)
  new : Bool := false                   -- linked, and what follows a link is still to be done (R284, R287)
  seqOut : Nat := 0                     -- SEQ of the next data frame sent (R280)
  seqIn : Nat := 0                      -- SEQ expected next (R283)
  window : List (Nat × EmnFrame) := []  -- data frames sent and not acknowledged, oldest first (R283)
  backlog : List EmnFrame := []         -- data frames that wait for room in the window
  sentAt : Nat := 0                     -- when the oldest of the window was last sent
  ackAt : Nat := 0                      -- when an ACK last moved the window, or it began to wait for one (R390)
  sent : List (List Nat) := []          -- the characters of the frames sent, newest first (R280)
  dreq : Option (Nat × Nat) := none     -- SEQ and t1 of the DREQ outstanding, in 1/8 cycle (R287)
  dreqSeq : Nat := 0
  credit : Nat := 256                   -- events the link partner may still take (R286)
  held : List HeldEvt := []             -- EVT frames that wait for credit, oldest first (R286)
  lastValid : Nat := 0                  -- when a valid character last arrived (R282)
deriving DecidableEq, Repr

/-- A SYNC or SNAP trigger that waits for its apply instant (R290). -/
structure Trigger where
  snap : Bool
  at_ : Nat
  src : Nat
deriving DecidableEq, Repr

/-- The Emnodric unit beside its registers (R284-R296). -/
structure Emn where
  head : Bool := false                  -- strap CHAIN_SRC selects LOCAL (R284, R558)
  upstream : Bool := false              -- strap CHAIN_SRC selects UPSTREAM
  triggers : List Trigger := []
  trigSeq : Nat := 0
  enumAt : Option Nat := none           -- when ENUM was taken with DN not linked (R284)
  inbox : List EmnIn := []              -- data frames to be consumed, oldest first
  evtPorts : List (Option Nat) := []    -- arrival ports of the events that wait at wheel port 5 (R286)
  rxq : List (Nat × Nat) := []          -- received FW frames: source, buffer (R296)
deriving DecidableEq, Repr

/-- What an Announce message offers, in the order of comparison: priority1, clockClass, clockAccuracy, variance, priority2, identity
(R261). -/
structure PtpVector where
  prio1 : Nat
  cls : Nat
  acc : Nat
  var : Nat
  prio2 : Nat
  ident : Nat
deriving DecidableEq, Repr

/-- A gPTP message as a port sends it (R261): two-step Sync and Follow_Up, Announce, peer delay messages; times in ns. -/
inductive PtpOut where
  | sync (seq : Nat)
  | followUp (seq origin : Nat) (correction : Int)
  | announce (seq : Nat) (v : PtpVector) (steps : Nat)
  | pdelayReq (seq : Nat)
  | pdelayResp (seq arrival : Nat)
  | pdelayRespFollowUp (seq departure : Nat)
deriving DecidableEq, Repr

/-- The last Announce that a port took: what it offers, its steps, its time (R261). -/
structure PtpHeard where
  v : PtpVector
  steps : Nat
  at_ : Nat
deriving DecidableEq, Repr

/-- The gPTP instance, its clock and the capture unit (R261-R263). -/
structure Ptp where
  halfNs : Nat := 0                     -- gPTP time in 0.5 ns at the moment `ref`
  ref : Nat := 0
  inc : Nat := 21474836480              -- increment in an ENG cycle, in 2^-32 of 0.5 ns: nominally 5 × 2^32
  capUnread : Bool := false
  lastSync : Nat := 0                   -- when the slave port last received a Sync
  stamp : Nat := 0                      -- gPTP time in ns of that Sync
  syncSeq : Nat := 0                    -- its sequence number
  heard : Sparse (Option PtpHeard) := [] -- the last Announce of each port
  role : Option (Bool × Nat × Nat) := none -- grandmaster or not, slave port, identity of the grandmaster; none = not yet chosen
  relay : Nat × Int × Nat := (0, 0, 0)  -- origin, correction and stamp of the Sync that is relayed
  delay : Sparse Nat := []              -- measured peer delay of each port, in ns
  asked : Sparse (Option Nat) := []     -- peer delay request outstanding at each port
  seqOut : Nat := 0                     -- sequence number of the next message of its own
  announcedAt : Option Nat := none      -- when Announce and peer delay requests were last sent
deriving DecidableEq, Repr

/-- A frame in the shared buffer of the switch with the egress ports it still waits for (R255-R259). -/
structure NetFrame where
  dst : Nat
  src : Nat
  vid : Nat
  pri : Nat
  tc : Nat
  len : Nat
  ports : List Nat
  ptp : Option PtpOut := none           -- a gPTP message of this device
deriving DecidableEq, Repr

/-- A frame as a port last sent it (R256, R258). -/
structure NetOut where
  dst : Nat
  src : Nat
  vid : Nat
  pri : Nat
  len : Nat
  tagged : Bool
  ptp : Option PtpOut := none
deriving DecidableEq, Repr

/-- The operational gate control list of a port beside its entries (R260). -/
structure Gcl where
  len : Nat := 0
  cycle : Nat := 0
  base : Nat := 0                       -- in ns of gPTP time
  idx : Nat := 0                        -- entry in force
deriving DecidableEq, Repr

/-- A packet that the stack sends by itself: a gratuitous ARP, an ARP reply, or an echo reply with its next hop, TTL, DF and bytes of data
(R264). -/
inductive StackOut where
  | gratuitous (ip : Word) (mac : Nat)
  | arpReply (to_ : Word) (toMac : Nat) (ip : Word) (mac : Nat)
  | echoReply (to_ hop : Word) (ttl : Nat) (df : Bool) (len : Nat)
deriving DecidableEq, Repr

/-- The switch and the stack beside their registers (R255-R265). -/
structure Net where
  seen : Sparse Nat := []               -- when the address of learning entry e was last seen (R255)
  used : Sparse Nat := []               -- use of each port's token bucket, in 1/400 bit
  usedAt : Sparse Nat := []             -- when it was last brought up to date
  frames : List NetFrame := []          -- shared buffer, oldest first
  out : Sparse (Option NetOut) := []    -- last frame sent on each port
  stackQ : Nat := 0                     -- frames in the stack's receive queue
  gcl : Sparse Gcl := []
  arp : List (Word × Nat × Nat) := []   -- address, MAC, time of entry
  stackOut : List StackOut := []        -- packets the stack sent by itself, newest first
deriving DecidableEq, Repr

/-- A converter beside its registers (R224-R236). -/
structure Adc where
  live : Bool := false                  -- it acts: EN with a valid setting, the ADC clock and ANA on (R8, R224, R227)
  calib : Bool := false                 -- the calibration cycle at start runs (R224)
  due : Option Nat := none              -- the slot boundary at which a triggered list starts (R230)
  base : Nat := 0                       -- LIST_BASE of the run in progress
  pos : Nat := 0                        -- entry of the list in progress
  cur : Word := 0                       -- its setting as latched at its start (R229)
  stopping : Bool := false              -- EN was cleared; the entry in progress completes (R232)
  seen : List Nat := []                 -- entries with a result since EN was set (R234)
  enAt : Option Nat := none             -- the setting of EN (R230)
  shaftAt : Option Nat := none          -- the moment of the last SHAFT trigger (R231)
  calAt : Option Nat := none            -- when the last full calibration cycle completed (R235)
  idleAt : Nat := 0                     -- when the converter last had an idle slot (R236)
  stealAt : Nat := 0                    -- when it began to steal slots (R236)
  stolen : Nat := 0                     -- slots stolen since then that are counted
  eventAt : Option Nat := none          -- the moment of its last window event (R234)
deriving DecidableEq, Repr

/-- A power domain beside its registers (R440-R446). -/
structure PwrDom where
  target : Nat := 0                     -- REQ code of the entry in progress
  reqAt : Nat := 0                      -- when that entry was requested
  prior : Nat := 0                      -- STATE before the wake
  wakeAt : Nat := 0                     -- when the attempt of the wake began (R444)
  doneAt : Nat := 0                     -- when it last reached RETENTION or OFF
  failAt : Nat := 0                     -- when its last attempt failed (R445)
  attempts : Nat := 0                   -- attempts of the wake that have failed
  retry : Bool := false                 -- the next attempt waits its 10 µs (R445)
  wakeNext : Bool := false              -- a wake event came during the entry (R446)
  held : Option Nat := none             -- REQ written during ENTERING or WAKING (R446)
  failed : Bool := false                -- its wake failed for good and RUN needs it (R445)
deriving DecidableEq, Repr

/-- A spine access that waits for a wake (R447): an access of an initiator by itself (a write of a value, or a read), or the one that
an engine's load, a posted store, an Ivwyn session's request or the fabric's spine master port makes. -/
inductive StallBy where
  | access (ini : Initiator) (write : Bool) (addr width : Nat) (value : BitVec 64) (bad : Nat)
  | load (e : Nat)
  | store (e : Nat)
  | session (x : Nat)
  | fabric
deriving DecidableEq, Repr

/-- A stalled access, the domain it waits for, and whether that domain's first wake attempt has failed. -/
structure Stall where
  dom : Nat
  by_ : StallBy
  failed : Bool := false
deriving DecidableEq, Repr

/-- The bellows supply (R432-R436). -/
structure Supply where
  rails : Bool := true                  -- every rail is good
  uvlo : Bool := false                  -- VIN is below the undervoltage lockout
  overvolt : Bool := false                  -- the overvoltage stop holds
  hot : Bool := false                   -- the thermal stop holds
  fails : Nat := 0                      -- failed attempts in a row (R435)
  starting : Bool := false              -- the start-up sequence runs
  retryAt : Option Nat := none          -- the rails start again then (R435, R436)
  testing : Nat := 0                    -- phases under a REARM test, as a mask (R434)
  since : Nat := 0                      -- when the start-up began, or the rails became good (R435)
  before : Nat := 0                     -- how long the rails had been good when wheel time last began at 0
deriving DecidableEq, Repr

/-- A value that is registered at the end of a micro-step, with the one before it: a reader in the same micro-step still sees the
old one (R300, R301). `at_` is the micro-step of the write plus 1. -/
structure Reg2 where
  cur : BitVec 16 := 0
  old : BitVec 16 := 0
  at_ : Nat := 0
deriving DecidableEq, Repr

/-- What an operation of a reed cell gives: result, C and F (R308). -/
structure ReedOut where
  r : BitVec 16 := 0
  carry : Bool := false
  flag : Bool := false
deriving DecidableEq, Repr

/-- The user state of a reed cell (R298), with its slice of the RAM read data (R321) and, under TRIPLE, the sources latched and what the
first two executions gave (R302). -/
structure Cell where
  q0 : BitVec 16 := 0
  q1 : BitVec 16 := 0
  q2 : BitVec 16 := 0
  q3 : BitVec 16 := 0
  prev : BitVec 16 := 0
  c : Bool := false
  f : Bool := false
  out : Sparse Reg2 := []               -- output register of each lane, NA = 0 to WB = 7
  ramwd : Reg2 := {}
  ramd : Reg2 := {}
  la : BitVec 16 := 0
  lb : BitVec 16 := 0
  lc : BitVec 16 := 0
  t0 : ReedOut := {}
  t1 : ReedOut := {}
deriving DecidableEq, Repr

/-- The spine master port of the fabric (R331). -/
structure Spm where
  busy : Bool := false                  -- a request waits for its ACK
  write : Bool := false
  addr : Nat := 0
  data : Word := 0
  direct : Bool := false                -- it completes with CODE 2 without reaching the spine
  ack : Bool := false
  code : Nat := 0
  rdata : Word := 0
deriving DecidableEq, Repr

/-- A capture: the cells, their configuration and what lay in set-reset or off when it was taken (R335-R338). -/
structure Capture where
  cells : Sparse Cell := []
  cfg : Sparse (BitVec 320) := []
  free : Sparse Bool := []              -- tracts that were released
  latch : Sparse Bool := []
  on : List Nat := []                   -- quadrants that were on
  edge : Nat := 0                       -- E at the capture
deriving DecidableEq, Repr

/-- The reed fabric beside its registers (R297-R338). A cell is numbered frame × 16 + index. -/
structure Fabric where
  cfg : Sparse (BitVec 320) := []       -- configuration of each cell (R303)
  cells : Sparse Cell := []
  free : Sparse Bool := []              -- tracts released from set-reset (R332)
  freeAt : Sparse Nat := []             -- the wheel time of the edge with E = 0 at which that release acts (R354)
  latch : Sparse Bool := []             -- contention latches, key cell × 8 + lane (R316)
  step : Option Nat := none             -- the step of a release in progress that is due next (R333)
  stepAt : Nat := 0                     -- the wheel time before which it is not due
  cap : Capture := {}
  hold : Bool := false                  -- level of the rim HOLD signal (R330)
  spm : Spm := {}
  pins : Sparse Nat := []               -- the level at each pin in bit 0, the word its serialiser has received above (R327, R563)
  ser : Sparse (List (Nat × BitVec 16)) := [] -- lane A of serialiser pins at boundaries, from a block of 16 micro-steps on, newest first (R563)
  feedAt : Nat := 0                     -- the 8 micro-steps whose sample of the feed words is held, by their number plus 1 (R329)
  feed : List (BitVec 16) := []         -- that sample
deriving DecidableEq, Repr

/-- A journal record (R405, R406); `data` is its 16 bytes of DATA. -/
structure JRec where
  type : Nat
  sector : Nat
  seq : Nat
  erases : Nat
  data : List Nat
deriving DecidableEq, Repr

/-- A half of the journal: location 0 and the locations used after it; `none` is a location that holds no valid record (R404-R406). -/
structure JHalf where
  header : Option JRec := none
  recs : List (Option JRec) := []
deriving DecidableEq, Repr

/-- A CFLASH sector (R402). -/
structure Sector where
  state : Nat := 0                      -- STATE
  pages : Nat := 0                      -- pages programmed since the last erase
  erases : Nat := 0
  crc : Option Nat := none              -- CRC in its SEAL record, where the journal holds that record
deriving DecidableEq, Repr

/-- A flash command that runs or is suspended (R411-R416). -/
structure FlashOp where
  op : Nat
  addr : Nat
  buf : Sparse Word := []               -- page buffer or PF_DATA at its acceptance
  susp : Bool := false
  byCmd : Bool := false                 -- only RESUME ends the suspension
deriving DecidableEq, Repr

/-- The journal as Torush ships it: J0 at GENERATION 1 with every sector sealed (R406, R408). -/
def factoryJournal : JHalf :=
  { header := some { type := 1, sector := 0xFFFF, seq := 193, erases := 0, data := [1, 0, 0, 0, 0, 0, 0, 0, 0, 0, 0, 0, 0, 0, 0, 0] },
    recs := (List.range 192).map fun k =>
      some { type := 6, sector := 4 * k, seq := k + 1, erases := 0,
             data := [0, 0, 0, 0x40, 0, 0, 0, 0x40, 0, 0, 0, 0x40, 0, 0, 0, if k = 191 then 0 else 0x40] } }

/-- The non-volatile stores and their controller (R399-R431). CFLASH bytes are keyed by their offset, PFLASH code words and OTP
words by index. -/
structure Flash where
  cf : Sparse Nat := []                 -- bytes that differ from 0xFF
  damaged : List Nat := []              -- pages that an abandoned or failed operation left with unknown contents
  sectors : Sparse Sector := []
  j0 : JHalf := factoryJournal
  j1 : JHalf := {}
  half : Bool := false                  -- the active half is J1
  seq : Nat := 193                      -- SEQ of the last record
  select : Option (List Nat) := none    -- DATA of the latest SLOT_SELECT
  ops : List FlashOp := []              -- CFLASH operations, innermost first
  after : Option FlashOp := none        -- the command that waits for the compaction (op 0xF: a promotion)
  pfOp : Option FlashOp := none
  pf : Sparse (Option (BitVec 128)) := [] -- written code words
  pfBad : List Nat := []                -- code words with unknown contents
  otp : Sparse (Option (BitVec 64)) := [] -- programmed words
  otpBad : List Nat := []               -- words whose program failed
  otpUnc : List Nat := []               -- words that read uncorrectable at the last exit from RESET (R247, R425)
  otpOp : Option (Nat × BitVec 64) := none
  lastRead : Nat := 0                   -- when a CFLASH read last arrived
  fwp : Bool := false                   -- FWP_N as last sampled, true = high
deriving DecidableEq, Repr

/-- An entry of the key table (R344): a segment key with its nonce (R373). -/
structure KeyEntry where
  key : List Nat
  nonce : List Nat
deriving DecidableEq, Repr

/-- A frame record (R342, R345, R364). `src` is the CFLASH address of the frame's payload, or its offset in the member image when
`chain`; `pos` its offset in the plaintext of its segment. -/
structure FrameRec where
  state : Nat := 0
  fails : Nat := 0
  golden : Nat := 0
  chain : Bool := false
  key : Nat := 0
  src : Nat := 0
  pos : Nat := 0
deriving DecidableEq, Repr

/-- A record that a pass accepted (R375, R376). -/
inductive ImgRec where
  | frame (ram : Bool) (n : Nat) (payload : List Nat) (crc seg pos off : Nat)
  | engine (addr : Nat) (words : List Nat)
  | register (addr : Nat) (words : List Nat)
deriving DecidableEq, Repr

/-- The reconfiguration port beside its registers (R347-R355). -/
structure Pr where
  bytes : List Nat := []                -- staged bytes
  fabric : Bool := false                -- the stream is driven by the fabric
  flash : Bool := false                 -- it is read from CFLASH
  src : Nat := 0                        -- its CFLASH address
  len : Nat := 0
  recs : List ImgRec := []              -- frames that passed DECRYPT
  keys : List KeyEntry := []
  region : List Nat := []               -- its tracts
  pins : Sparse Nat := []               -- values and enables that pins hold during APPLY, key pin (R355)
  ack : Bool := false                   -- ACK towards the rim (R349)
  claim : Bool := false                 -- level of CLAIM
  count : Nat := 0                      -- bytes pushed
deriving DecidableEq, Repr

/-- A start-up pass (R378-R381, R391). -/
structure BootPass where
  golden : Bool := false                -- FALLBACK
  second : Bool := false                -- LOAD, or the second pass of FALLBACK
  start : Nat := 0
  hash : List Nat := []                 -- HDR_HASH that VERIFY accepted
  open_ : Bool := false                 -- UPSTREAM: a BEGIN has come and its pass is not judged
  length : Nat := 0                     -- UPSTREAM: LENGTH of the member
  bytes : List Nat := []                -- UPSTREAM: bytes received
  verifyTime : Nat := 0                 -- of the accepted VERIFY, in 10 µs
  slot : Nat := 0                       -- slot of the running image (3 = UPSTREAM)
  base : Nat := 0                       -- address of its header in CFLASH
deriving DecidableEq, Repr

/-- The head's streaming (R389-R393). -/
structure ChainStream where
  ready : List (Nat × Bool) := []       -- positions that sent READY and are not served, with the golden flag
  active : Bool := false
  golden : Bool := false
  second : Bool := false
  slot : Nat := 0                       -- slot and offset of the member being sent
  off : Nat := 0
  len : Nat := 0
  dst : Nat := 0xFF                     -- DST of its frames
  later : Bool := false                 -- the streaming that follows the head's LOAD is done: one position at a time
  next : Option Nat := none             -- next byte to send; none = BEGIN
  mask : List Nat := []                 -- positions of the pass
  passed : List Nat := []               -- positions that reported VERIFIED
  ended : Option Nat := none            -- when END was sent
  retry : List Nat := []                -- positions to be served from the golden container
  served : List Nat := []               -- slots that supplied a member
deriving DecidableEq, Repr

/-- The loader, the frame records and the repair engine beside their registers (R342-R398). -/
structure Cfg where
  recs : Sparse FrameRec := []          -- fabric frames 0-4095, RAM frames 4096 + block
  keyTab : Sparse (Option KeyEntry) := []
  keysFull : Bool := false
  pr : Pr := {}
  boot : BootPass := {}
  scanNext : Nat := 0
  scanFirst : List Nat := []            -- frames that are scanned first (R356)
  lapSkip : List Nat := []              -- frames that were NO_SOURCE when the lap began (R359)
  queue : List Nat := []                -- repair queue
  asked : Option (Nat × Nat) := none    -- chain repair outstanding: frame, time
  answer : List Nat := []               -- repair bytes received
  restoring : List Nat := []            -- quadrants whose restore runs
  held : List Nat := []                 -- quadrants held INCOMPLETE
  chain : ChainStream := {}
  readyAt : Nat := 0                    -- when REPORT READY was last sent
deriving DecidableEq, Repr

/-- A self-test slice (R512-R524). -/
structure Slice where
  manual : Bool
  kind : Nat
  unit : Nat
  at_ : Nat                             -- tick
  taken : Option Nat := none            -- when the unit was taken: the budget starts
  result : Option Nat := none           -- sealed RESULT of a memory or tract slice that is being restored
  direct : Bool := false                -- tested in place: an idle spare, a retired chanter or drone
deriving DecidableEq, Repr

/-- The self-test controller beside its registers. -/
structure Bist where
  entry : Nat := 0                      -- plan position
  idx : Nat := 0
  lapAt : Nat := 0
  slice : Option Slice := none
  manual : Option (Nat × Nat) := none   -- the manual slice, by KIND and UNIT, that is due in place of the next plan slice
  tickAt : Option Nat := none           -- the last period tick (R514)
  row : Nat := 0                        -- INCOMPLETE in a row on the unit below
  rowUnit : Nat := 0
deriving DecidableEq, Repr

/-- The security block beside its registers (R528-R551). -/
structure Sec where
  challenge : List Nat := []            -- TAP challenge; [] = spent
  provFresh : Bool := false             -- CHALLENGE is current
  prov : List Nat := []                 -- the record being applied; [] = none (R547)
  lastGo : Nat := 0
  att : Option Nat := none              -- wheel time at the start of a report
  unlocking : Bool := false             -- a TAP unlock passed and SERVICE follows
  unlock : Nat := 0                     -- STATUS of the last unlock: 0 none, 1 passed, 2 failed, 3 BUSY, 4 MODE
  lastTap : Nat := 0                    -- last CH_SPINE access
  tapOut : List Nat := []               -- data the TAP shifts out
  ir : Nat := 2
  boundary : List Nat := []             -- preloaded boundary data
  extest : Bool := false
  imageHash : List Nat := []            -- HDR_HASH of the running image
deriving DecidableEq, Repr

/-- A serial port's queues (R561). -/
structure Port where
  tx : List Nat := []
  rx : List Nat := []
  at_ : Nat := 0                        -- when the transmission of the entry at the head may have begun
deriving DecidableEq, Repr

/-- A capture entry (R564). -/
structure CapEntry where
  pin : Nat
  rise : Bool
  time : Nat
deriving DecidableEq, Repr

/-- A GPIO pin's input filter (R566, R567). -/
structure PinIn where
  takenAt : Option Nat := none          -- when its last change was accepted
  quietTo : Nat := 0                    -- no interrupt before this time
  since : Nat := 0                      -- when its filter restarted last (R567)
deriving DecidableEq, Repr

/-- A PWM generator: the setting in force and the start of a period; the setting that follows and when (R562). -/
structure PwmGen where
  cur : Word := 0
  start : Nat := 0
  nxt : Word := 0
  nxtAt : Nat := 0
deriving DecidableEq, Repr

/-- The GPIO block beside its registers (R558-R572). -/
structure Gpio where
  ports : Sparse Port := []
  caps : Sparse (List CapEntry) := []
  pins : Sparse PinIn := []
  pwm : Sparse PwmGen := []
deriving DecidableEq, Repr

/-- The answer of the last spine access of an initiator: response code (0 none, R493) and read data. -/
structure SpineResp where
  code : Nat := 0
  data : BitVec 64 := 0
deriving DecidableEq, Repr

/-- The state of the machine: the registers by spine address, wheel time, the units, and the commands that wait. -/
structure State where
  regs : Sparse Word := []              -- registers that differ from their reset value
  now : Nat := 0                        -- wheel time in ENG cycles (R41)
  free : Nat := 0                       -- the model's own counter of free values (log entry 3)
  spine : Sparse SpineResp := []        -- answers by initiator code (R493)
  mem : Sparse (BitVec 80) := []        -- grid-coded words by address / 8 (R495)
  modeCtl : ModeCtl := {}
  irq : Sparse IrqSlot := []
  drones : Sparse DroneCtl := []
  scrub : Scrubber := {}
  trackers : Sparse Tracker := []       -- 0 SHA, 1 SHB
  doms : Sparse Domain := []            -- 0 A, 1 B, 2 T
  tick : TickState := {}
  wheel : Wheel := {}
  sessions : Sparse Session := []       -- Ivwyn sessions 0-255
  ivw : Ivw := {}
  emnPorts : Sparse EmnPort := []       -- 0 UP, 1 DN
  emn : Emn := {}
  clk : Clk := {}
  ptp : Ptp := {}
  net : Net := {}                       -- switch and IPv4 stack
  capWait : Bool := false               -- a fabric capture is requested and not yet taken (R336)
  snapAt : Option Nat := none           -- when the SNAP trigger last acted (R188)
  syncIn : Bool := false                -- level of the internal SYNC's source pin (R290)
  pairs : Sparse Pair := []             -- lane pairs 0-127
  claims : List Claim := []             -- claims that wait for their frame boundary (R127)
  notes : List Note := []               -- note FIFO (R132)
  engines : Sparse Engine := []         -- 0-131 chanters, 132-135 drones
  lanes : Sparse Lane := []             -- 0-255
  adcs : Sparse Adc := []               -- converters 0-3
  monNext : Nat := 0                    -- monitor channel to convert next (R237)
  berrAt : Option Nat := none           -- when an error response was last logged (R480)
  filters : Sparse Nat := []            -- when the filter of comparator k last restarted (R243)
  fab : Fabric := {}
  pwr : Sparse PwrDom := []             -- domains 1-22
  stalls : List Stall := []             -- accesses that wait for a wake (R447), oldest first
  supply : Supply := {}
  shadow : Sparse Word := []            -- configuration shadow: image fields by register address (R443)
  flash : Flash := {}
  cfg : Cfg := {}
  bist : Bist := {}
  sec : Sec := {}
  gpio : Gpio := {}
  lastNet : List Nat := []              -- MAC, address, mask, gateway, VLAN, port of the last image loaded since power-up (R277)
  responder : List Nat := []            -- those the minimal responder answers with (R277, R427)
  pending : List Instr := []            -- commands waiting, first in, first out
deriving DecidableEq, Repr

/-- Why the machine stops with a fault. It has no constructor: the spec gives every command an effect, so nothing stops the block. -/
inductive Fault where
deriving DecidableEq, Repr

/-- Why a command has no meaning. -/
inductive Refusal where
  /-- A command whose meaning is not modelled. Raised only by the arms of `exec`; safe. -/
  | notModelled (mnemonic : String)

deriving DecidableEq, Repr

/-- The registers as the exit from RESET leaves them where that is not their reset value: SRC of the reference, the PLLs, the band table,
SEC.STAT and the calibration fields, of a device whose OTP row is as shipped (log entries 27-29). -/
def resetRegisters : Sparse Word :=
  [(0x10020004, 0x20000000#32), (0x10020008, 0x40000000#32), (0x10020014, 0x800A0000#32), (0x10020024, 0xC00A0000#32),
   (0x10020040, 0x640332E1#32), (0x10020044, 0x665B45A1#32), (0x10020048, 0x68B35861#32), (0x1002004C, 0x6B0B6B21#32),
   (0x10020050, 0x6D637DE1#32), (0x10020054, 0x6FBB90A1#32), (0x10020058, 0x7213A361#32), (0x1002005C, 0x746BB621#32),
   (0x10020060, 0x76C3C8E1#32), (0x10020064, 0x791BDBA1#32), (0x10020068, 0x7B73EE61#32), (0x1002006C, 0x7DCC0121#32),
   (0x10020070, 0x802413E1#32), (0x10020074, 0x827C26A1#32), (0x10020078, 0x84D43961#32), (0x1002007C, 0x872C4C21#32),
   (0x100A0000, 0x00000005#32)] ++
  (List.range 39).map (fun i => (0x100C0A00 + 4 * i, 0x80000000#32)) ++ [(0x100C0C00, 0x80000000#32), (0x100F0100, 0xC0000000#32)]

/-- A PLL locked in band 10. -/
def resetPll : Pll := { used := some 10, choose := false }

/-- The machine right after RESET (R6, R16, R23): in mode VERIFY, wheel time 0, nothing in memory written since power-up, every queue
empty. Sources 667, 774, 813, 824 and 894 are pending: the mode changed, the device is the head of its chain, and OTP holds no calibration, no
band table and no device key. -/
def State.reset : State where
  regs := resetRegisters
  irq := [(667 * 4, { pend := true }), (774 * 4, { pend := true }), (813 * 4, { pend := true }), (824 * 4, { pend := true }), (894 * 4, { pend := true })]
  emn := { head := true }
  clk := { plls := [(0, resetPll), (1, resetPll)] }

end Sys2Proof.Machine
end

