-- ==== Sys2Proof/Machine/Ops.lean ====
section
/-! DEFINITION. Sys2Proof/Machine/Ops.lean: the shared operations: registers and their fields, event counters, free
values, per-unit state, interrupt raises, the error log, power domains of addresses, grid-coded reads and writes,
mode changes and HOLD causes. -/
namespace Sys2Proof.Machine

/-- What a meaning answers. -/
abbrev Out := Host.Outcome State Fault Refusal

/-! ## Registers -/

/-- The register list row of a register address, with its indices (R11, R12). -/
def regRow? (a : Nat) : Option (RegDesc × Nat × Nat) :=
  if a < 0x10000000 then none
  else
    let b := (a - 0x10000000) / 0x10000
    let o := (a - 0x10000000) % 0x10000
    (blockRegs b).findSome? fun r => (r.at? o).map fun ij => (r, ij)

/-- The value of a register at the exit from RESET (R6). Fields loaded from the image or from OTP read 0 until they are
loaded (log entry 4). `CHT.Cn_STAT` resets to RUNNING with its own pair, or to IDLE without one on the spares (R136). -/
def regReset (a : Nat) : Word :=
  if 0x10121004 ≤ a ∧ a < 0x10121004 + 0x40 * 132 ∧ (a - 0x10121004) % 0x40 = 0 then
    let n := (a - 0x10121004) / 0x40
    if n < 128 then BitVec.ofNat 32 (n * 0x10000) else 0x20FF0000#32
  else
    match regRow? a with
    | some (r, _) => BitVec.ofNat 32 r.reset
    | none => 0

/-- The word a register holds. -/
def State.rd (s : State) (a : Nat) : Word := Sparse.get regReset s.regs a

/-- Put a word into a register. -/
def State.wr (s : State) (a : Nat) (w : Word) : State := { s with regs := Sparse.put regReset s.regs a w }

/-- A register as a number. -/
def State.rdN (s : State) (a : Nat) : Nat := (s.rd a).toNat

/-- A field of a register. -/
def State.get (s : State) (f : FieldAt) : Nat := bitsOf (s.rd f.addr) f.hi f.lo

/-- Put a field of a register. -/
def State.set (s : State) (f : FieldAt) (v : Nat) : State := s.wr f.addr (setBitsOf (s.rd f.addr) f.hi f.lo v)

/-- A one-bit field, or whether a field is not 0. -/
def State.bit (s : State) (f : FieldAt) : Bool := s.get f != 0

/-- Bit `i` of a register. -/
def State.bitAt (s : State) (a i : Nat) : Bool := (s.rd a).getLsbD i

/-- Set bit `i` of a register. -/
def State.setBitAt (s : State) (a i : Nat) : State := s.set ⟨a, i, i⟩ 1

/-- Clear bit `i` of a register. -/
def State.clrBitAt (s : State) (a i : Nat) : State := s.set ⟨a, i, i⟩ 0

/-- Advance an event counter by `k`; it saturates at all ones (R9). -/
def State.countBy (s : State) (a k : Nat) : State := s.wr a (BitVec.ofNat 32 (min 0xFFFFFFFF (s.rdN a + k)))

/-- Advance an event counter; it saturates at all ones (R9). -/
def State.count (s : State) (a : Nat) : State := s.countBy a 1

/-- Advance an event counter that is a field; it saturates at all ones (R9). -/
def State.countField (s : State) (f : FieldAt) (k : Nat) : State := s.set f (min (2 ^ (f.hi + 1 - f.lo) - 1) (s.get f + k))

/-- Advance a counter that its description says wraps (R9). -/
def State.wrap (s : State) (a k : Nat) : State := s.wr a (BitVec.ofNat 32 (s.rdN a + k))

/-- One field of a register write by its access code (R5). A value a write may not set leaves an RW field as it was and is
reported (R8). A WO field stores nothing; what it acts on is the register's own rule. -/
def mergeField (v : Word) (acc : Word × Bool) (f : FieldDesc) : Word × Bool :=
  let x := bitsOf v f.hi f.lo
  match f.acc with
  | .rw => if f.legal.ok x then (setBitsOf acc.1 f.hi f.lo x, acc.2) else (acc.1, true)
  | .w1c => (acc.1 &&& ~~~ (v &&& maskOf f.hi f.lo), acc.2)
  | .w1s => (acc.1 ||| (v &&& maskOf f.hi f.lo), acc.2)
  | .ro | .wo | .rc => acc

/-- A word written into a register field by field; whether a reserved encoding was met (R5, R7, R8). -/
def mergeWord (r : RegDesc) (old v : Word) : Word × Bool := r.fields.foldl (mergeField v) (old, false)

/-- A register write without the acts of its command bits: the state, and whether a reserved encoding was met. -/
def State.mergeWrite (s : State) (a : Nat) (v : Word) : State × Bool :=
  match regRow? a with
  | some (r, _) =>
    let p := mergeWord r (s.rd a) v
    (s.wr a p.1, p.2)
  | none => (s, false)

/-- Whether every field of a register that a write may set holds a value that a write may set. The loader may leave another value in it,
and the unit that it configures then behaves as it does when disabled (R8). -/
def State.regValid (s : State) (a : Nat) : Bool :=
  match regRow? a with
  | some (r, _) => r.fields.all fun f => f.acc != .rw || f.legal.ok (bitsOf (s.rd a) f.hi f.lo)
  | none => true

/-! ## Free values and time -/

/-- A free value: a number nothing constrains (log entry 3). -/
def State.fresh (s : State) : Nat := (Config.freeValue s.free).toNat

/-- The state after a free value has been drawn. -/
def State.drawn (s : State) : State := { s with free := s.free + 1 }

/-- An event that carries its own moment `t` moves wheel time on to it (log entry 6). -/
def State.at_ (s : State) (t : Nat) : State := { s with now := max s.now t }

/-- A signed result that its 32-bit register can hold; outside 32 bits the spec states no value, so a free one is taken
(log entry 12). -/
def State.fit32 (s : State) (v : Int) : State × Int :=
  if -2147483648 ≤ v ∧ v ≤ 2147483647 then (s, v) else (s.drawn, (BitVec.ofNat 32 s.fresh).toInt)

/-- `x div y` rounded toward zero, in a signed 32-bit register; y = 0 is not stated and takes a free value (log entry 12). -/
def State.div32 (s : State) (x y : Int) : State × Int :=
  if y = 0 then (s.drawn, (BitVec.ofNat 32 s.fresh).toInt) else s.fit32 (Int.tdiv x y)

/-- ENG cycles in a microsecond (R41). -/
abbrev usCycles : Nat := 400

/-! ## Units held by index -/

def State.tracker (s : State) (x : Nat) : Tracker := Sparse.get (fun _ => {}) s.trackers x
def State.setTracker (s : State) (x : Nat) (v : Tracker) : State := { s with trackers := Sparse.put (fun _ => {}) s.trackers x v }
def State.dom (s : State) (x : Nat) : Domain := Sparse.get (fun _ => {}) s.doms x
def State.setDom (s : State) (x : Nat) (v : Domain) : State := { s with doms := Sparse.put (fun _ => {}) s.doms x v }
def State.slot (s : State) (n d : Nat) : IrqSlot := Sparse.get (fun _ => {}) s.irq (n * 4 + d)
def State.setSlot (s : State) (n d : Nat) (v : IrqSlot) : State := { s with irq := Sparse.put (fun _ => {}) s.irq (n * 4 + d) v }
def State.drone (s : State) (d : Nat) : DroneCtl := Sparse.get (fun _ => {}) s.drones d
def State.setDrone (s : State) (d : Nat) (v : DroneCtl) : State := { s with drones := Sparse.put (fun _ => {}) s.drones d v }
-- units held by index, one accessor pair for each kind
def State.session (s : State) (x : Nat) : Session := Sparse.get (fun _ => {}) s.sessions x
def State.setSession (s : State) (x : Nat) (v : Session) : State := { s with sessions := Sparse.put (fun _ => {}) s.sessions x v }
def State.emnPort (s : State) (x : Nat) : EmnPort := Sparse.get (fun _ => {}) s.emnPorts x
def State.setEmnPort (s : State) (x : Nat) (v : EmnPort) : State := { s with emnPorts := Sparse.put (fun _ => {}) s.emnPorts x v }
def State.pair (s : State) (x : Nat) : Pair := Sparse.get (fun _ => {}) s.pairs x
def State.setPair (s : State) (x : Nat) (v : Pair) : State := { s with pairs := Sparse.put (fun _ => {}) s.pairs x v }
def State.engine (s : State) (x : Nat) : Engine := Sparse.get (fun _ => {}) s.engines x
def State.setEngine (s : State) (x : Nat) (v : Engine) : State := { s with engines := Sparse.put (fun _ => {}) s.engines x v }
def State.lane (s : State) (x : Nat) : Lane := Sparse.get (fun _ => {}) s.lanes x
def State.setLane (s : State) (x : Nat) (v : Lane) : State := { s with lanes := Sparse.put (fun _ => {}) s.lanes x v }
def State.adc (s : State) (x : Nat) : Adc := Sparse.get (fun _ => {}) s.adcs x
def State.setAdc (s : State) (x : Nat) (v : Adc) : State := { s with adcs := Sparse.put (fun _ => {}) s.adcs x v }
def State.pwrDom (s : State) (x : Nat) : PwrDom := Sparse.get (fun _ => {}) s.pwr x
def State.setPwrDom (s : State) (x : Nat) (v : PwrDom) : State := { s with pwr := Sparse.put (fun _ => {}) s.pwr x v }
-- end of the accessors

/-! ## Modes (R17) -/

abbrev M.reset : Nat := 0
abbrev M.verify : Nat := 1
abbrev M.load : Nat := 2
abbrev M.fallback : Nat := 3
abbrev M.init : Nat := 4
abbrev M.armed : Nat := 5
abbrev M.run : Nat := 6
abbrev M.runSpared : Nat := 7
abbrev M.hold : Nat := 8
abbrev M.service : Nat := 9
abbrev M.provision : Nat := 10
abbrev M.quarantine : Nat := 11

/-- The current mode (R16). -/
def State.mode (s : State) : Nat := s.get F.SYS_MODE_MODE

/-- Whether the mode is one of a list. -/
def State.modeIn (s : State) (l : List Nat) : Bool := l.contains s.mode

/-- RUN or RUN-SPARED. -/
def State.running (s : State) : Bool := s.modeIn [M.run, M.runSpared]

/-- From INIT onward: the modes in which engines and fabric run (R26). -/
def State.alive (s : State) : Bool := s.modeIn [M.init, M.armed, M.run, M.runSpared, M.hold, M.service, M.provision]

/-! ## Interrupt sources (R472-R475) -/

/-- Whether drone `d` is retired. -/
def State.retired (s : State) (d : Nat) : Bool := s.bit (F.IRQ_D_STAT_RETIRED d)

/-- The successor of drone `d` (R483). -/
def State.successor (s : State) (d : Nat) : Nat :=
  let c := s.get (F.IRQ_D_CTL_SUCC d)
  if c ≠ d ∧ s.retired c = false then c
  else (([1, 2, 3].map fun k => (d + k) % 4).find? fun k => s.retired k = false).getD d

/-- Whether drone `d` is halted for a self-test slice that took it from service (R519). -/
def State.testedDrone (s : State) (d : Nat) : Bool :=
  match s.bist.slice with
  | some x => x.kind == 2 && x.unit == d && !x.direct && x.taken.isSome
  | none => false

/-- The drone to which the TARGET field of source `n` delivers (R474, R519). -/
def State.targetOf (s : State) (n : Nat) : Nat :=
  let t := s.get (F.IRQ_SRC_CFG_TARGET n)
  if s.retired t || s.testedDrone t then s.successor t else t

/-- Whether a raise of source `n` is of class F (R493: source 906 always). -/
def State.classOf (s : State) (n : Nat) : Bool := n == 906 || s.bit (F.IRQ_SRC_CFG_CLASS n)

/-- Raise source `n` on drone `d`: set its pending bit, or merge into a raise that is pending (R473, R478). -/
def State.raiseOn (s : State) (n d : Nat) : State :=
  let x := s.slot n d
  if x.pend then s.count (R.IRQ_D_COALESCED d)
  else s.setSlot n d { x with pend := true, fast := s.classOf n }

/-- The drone on which source `n` is pending, if any. -/
def State.pendingOn (s : State) (n : Nat) : Option Nat := [0, 1, 2, 3].find? fun d => (s.slot n d).pend

/-- Raise source `n` for drone `d`; a raise that is pending takes it up on the drone that holds it (R473, R478). -/
def State.raiseFor (s : State) (n d : Nat) : State := s.raiseOn n ((s.pendingOn n).getD d)

/-- Raise a source that follows its TARGET field. A raise while one is pending merges into it on the drone that holds it,
even where TARGET or CLASS has been written since (R473, R478). -/
def State.raise (s : State) (n : Nat) : State :=
  match s.pendingOn n with
  | some d => s.raiseOn n d
  | none => s.raiseOn n (s.targetOf n)

/-- Raise source 388 + d on every other drone that is not retired (R474). -/
def State.raiseDroneEvent (s : State) (d : Nat) : State :=
  ([0, 1, 2, 3].filter fun k => k != d && !s.retired k).foldl (fun t k => t.raiseOn (388 + d) k) s

/-! ## Error responses (R12, R480) -/

/-- A spine response (R493, BERR_INFO.CODE). -/
inductive Resp where
  | ok | decode | param | timeout | domainOff
deriving DecidableEq, Repr

/-- The response code of R493. -/
def Resp.code : Resp → Nat
  | .ok => 0 | .decode => 1 | .param => 2 | .timeout => 3 | .domainOff => 4

/-- The initiator code of R493. -/
def iniCode : Initiator → Nat
  | .drone d => d.val | .ivwyn => 4 | .fabric => 5 | .tap => 6

/-- The SPINE cycle of wheel time `t` (200 MHz, two ENG cycles). -/
def spineCycle (t : Nat) : Nat := t / 2

/-- Whether the error log takes an error response to initiator `ini`: of two in one SPINE cycle it holds the lower INITIATOR code (R480). -/
def State.logTakes (s : State) (ini : Initiator) : Bool :=
  s.berrAt.map spineCycle != some (spineCycle s.now) || decide (iniCode ini ≤ s.get F.IRQ_BERR_INFO_INITIATOR)

/-- The entry of the error log: the last error response and their count (R480). -/
def State.logEntry (s : State) (ini : Initiator) (addr : Nat) (r : Resp) : State :=
  let s1 := ((s.wr R.IRQ_BERR_ADDR (BitVec.ofNat 32 addr)).set F.IRQ_BERR_INFO_INITIATOR (iniCode ini)).set F.IRQ_BERR_INFO_CODE r.code
  let s2 := (if s.logTakes ini then s1 else s).count R.IRQ_BERR_COUNT
  { s2 with berrAt := some s.now }

/-- Log an error response to an initiator; TIMEOUT raises source 904 and DOMAIN_OFF source 905, on the drone whose access it was
(R474, R480). -/
def State.logError (s : State) (ini : Initiator) (addr : Nat) (r : Resp) : State :=
  if r = .ok then s
  else
    let s2 := s.logEntry ini addr r
    let n := if r = .timeout then 904 else 905
    if r = .timeout ∨ r = .domainOff then
      match ini with
      | .drone d => s2.raiseOn n d.val
      | _ => s2.raise n
    else s2

/-- Record the answer of a spine access for its initiator, and log an error. -/
def State.answer (s : State) (ini : Initiator) (addr : Nat) (r : Resp) (data : BitVec 64) : State :=
  let s1 := s.logError ini addr r
  { s1 with spine := Sparse.put (fun _ => {}) s1.spine (iniCode ini) { code := r.code, data := data } }

/-! ## Power domains (R438, R439) -/

/-- Whether domain `d` is ON; AON (0) always is. -/
def State.domOn (s : State) (d : Nat) : Bool := d == 0 || s.get (F.PWR_D_STAT_STATE d) == 0

/-- The power domain of a spine address (R438). `none` lies in no range of R11. A drone's local alias is its memory. -/
def addrDomain (a : Nat) : Option Nat :=
  if a < 0x20000 then some 10
  else if a < 0x10000000 then none
  else if a < 0x10140000 then
    let b := (a - 0x10000000) / 0x10000
    let o := a % 0x10000
    if b = 12 then some (if o < 0x800 then 20 else 0)
    else if b = 13 ∨ b = 14 ∨ b = 15 then some 18
    else if b = 10 then some 19
    else if b = 17 then some (14 + o / 0x4000)
    else if b = 18 then some (if o < 0x1000 then 0 else
      let n := (o - 0x1000) / 0x40
      if n < 128 then 6 + n / 32 else if n < 132 then 6 + (n - 128) else 0)
    else if b = 19 then some (if 0x8000 ≤ o ∧ o < 0x8800 then (if o % 0x400 / 4 < 128 then 3 else 5) else 0)
    else some 0
  else if 0x20000000 ≤ a ∧ a < 0x21000000 then some 11
  else if 0x21000000 ≤ a ∧ a < 0x22000000 then some 12
  else if 0x22000000 ≤ a ∧ a < 0x220C0000 then some 13
  else if 0x23000000 ≤ a ∧ a < 0x23400000 then
    let t := (a - 0x23000000) / 0x4000
    some (2 + 2 * (t / 128) + t % 16 / 8)
  else if 0x30000000 ≤ a ∧ a < 0x33200000 then some 1
  else if 0x34000000 ≤ a ∧ a < 0x34004000 then some 1
  else if 0x40000000 ≤ a ∧ a < 0x40000000 + 132 * 0x8000 then
    let n := (a - 0x40000000) / 0x8000
    some (if n < 128 then 6 + n / 32 else 6 + (n - 128))
  else if 0x41000000 ≤ a ∧ a < 0x41080000 then some 10
  else none

/-! ## Grid-coded memory (R495-R502) -/

/-- Word `k` (address / 8) as the last power-up left it: the unwritten pattern, or in EVM0 and EVM1 what the wheel's INIT
wrote: every descriptor empty, every pool entry linked to the next (R69, R89, R502, log entry 9). -/
def memReset (evm0 evm1 : Bool) (k : Nat) : BitVec 80 :=
  if 0x4000000 ≤ k ∧ k < 0x4400000 ∧ (if k < 0x4200000 then evm0 else evm1) = true then
    if k < 0x4100000 then gridEncode 0xFFFFFFFFFFF00000#64
    else gridEncode (BitVec.ofNat 64 (if k = 0x43FFFFF then 0x3FFFFF else k - 0x4100000 + 1))
  else gridUnwritten

/-- The 80 stored bits of the word at `addr`. -/
def State.memWord (s : State) (addr : Nat) : BitVec 80 := Sparse.get (memReset s.wheel.inited s.wheel.inited1) s.mem (addr / 8)

/-- Store 80 bits at the word of `addr`. -/
def State.setMemWord (s : State) (addr : Nat) (w : BitVec 80) : State :=
  { s with mem := Sparse.put (memReset s.wheel.inited s.wheel.inited1) s.mem (addr / 8) w }

/-- A write of a word: all 80 bits (R501). -/
def State.memWrite (s : State) (addr : Nat) (d : BitVec 64) : State := s.setMemWord addr (gridEncode d)

/-- The memory class of R506 of an address. -/
def memClass (addr : Nat) : Nat :=
  if addr < 0x22000000 then 0 else if addr < 0x23000000 then 1 else if addr < 0x30000000 then 2
  else if addr < 0x41000000 then 3 else if addr < 0x42000000 then 4 else 5

/-- Log a foreground event: LAST_INFO with its initiator, class, kind and place (R500, R510). -/
def State.eccInfo (s : State) (ini addr kind i j : Nat) : State :=
  s.wr R.ECC_LAST_INFO (BitVec.ofNat 32 (ini * 2 ^ 28 + memClass addr * 2 ^ 25 + kind * 2 ^ 16 + i * 16 + j))

/-- A corrected foreground read: counted and logged; source 858 when STAT.CORR goes from 0 to 1 (R500). -/
def State.eccCorrected (s : State) (ini addr kind i j : Nat) : State :=
  let s1 := ((s.count R.ECC_CORR_COUNT).wr R.ECC_LAST_CORR (BitVec.ofNat 32 addr)).eccInfo ini addr kind i j
  if s.bit F.ECC_STAT_CORR then s1 else (s1.set F.ECC_STAT_CORR 1).raise 858

/-- An uncorrectable foreground read (R500). -/
def State.eccUncorrectable (s : State) (ini addr : Nat) : State :=
  (((((s.count R.ECC_UNCORR_COUNT).wr R.ECC_LAST_UNCORR (BitVec.ofNat 32 addr)).eccInfo ini addr 3 0 0).set
    F.ECC_STAT_UNCORR 1).raise 859)

/-- An uncorrectable word of the internal arrays (class 5) read by initiator code `ini`: logged as R500 says of every foreground consumer. The
arrays have no spine address: what LAST_UNCORR holds is open (a free value, log entry 176). -/
def State.eccInternal (s : State) (ini : Nat) : State :=
  let s1 := s.drawn.count R.ECC_UNCORR_COUNT
  let s2 := (s1.wr R.ECC_LAST_UNCORR (BitVec.ofNat 32 s.fresh)).wr R.ECC_LAST_INFO (BitVec.ofNat 32 (ini * 2 ^ 28 + 5 * 2 ^ 25 + 3 * 2 ^ 16))
  (s2.set F.ECC_STAT_UNCORR 1).raise 859

/-- A foreground read of the word at `addr` by initiator code `ini`: the data, corrected on the fly, or none when it is
uncorrectable; the event is logged (R496, R498, R500). -/
def State.memRead (s : State) (ini addr : Nat) : State × Option (BitVec 64) :=
  let w := s.memWord addr
  match gridClassify w with
  | .clean => (s, gridData w)
  | .dataBit i j => (s.eccCorrected ini addr 0 i j, gridData w)
  | .rowBit i => (s.eccCorrected ini addr 1 i 0, gridData w)
  | .colBit j => (s.eccCorrected ini addr 2 0 j, gridData w)
  | .uncorrectable => (s.eccUncorrectable ini addr, none)

/-! ## Mode changes (R21, R23-R31) -/

/-- A setting of the stack: that of its register, in QUARANTINE item `i` of the minimal responder's: MAC, address, mask, gateway, VLAN, port
(R264, R277). -/
def State.stackSetting (s : State) (i reg : Nat) : Nat := if s.mode = M.quarantine then s.responder.getD i 0 else reg

/-- The stack's hardware address (R264). -/
def State.stackMac (s : State) : Nat := s.stackSetting 0 (s.get F.NET_MAC_HI_MAC * 2 ^ 32 + s.rdN R.NET_MAC_LO)

/-- Its IPv4 address. -/
def State.stackAddr (s : State) : Word := BitVec.ofNat 32 (s.stackSetting 1 (s.rdN R.NET_IP_ADDR))

/-- Its mask. -/
def State.stackMask (s : State) : Word := BitVec.ofNat 32 (s.stackSetting 2 (s.rdN R.NET_IP_MASK))

/-- Its gateway. -/
def State.stackGw (s : State) : Word := BitVec.ofNat 32 (s.stackSetting 3 (s.rdN R.NET_IP_GW))

/-- The management VLAN (R256). -/
def State.stackVlan (s : State) : Nat := s.stackSetting 4 (s.get F.NET_SW_VLAN_MVID)

/-- The Ivwyn port (R266). -/
def State.ivwPort (s : State) : Nat := s.stackSetting 5 (s.get F.IVW_CFG_PORT)

/-- The next hop to an address: itself within the mask, else the gateway (R264). -/
def State.nextHop (s : State) (dst : Word) : Word :=
  if dst &&& s.stackMask = s.stackAddr &&& s.stackMask then dst else s.stackGw

/-- One's complement sum of 16-bit words, most significant byte first; an odd byte is padded with 0. -/
def onesSum : List Nat → Nat
  | a :: b :: r => a * 256 + b + onesSum r
  | [a] => a * 256
  | [] => 0

/-- Fold the carries of a one's complement sum back in. -/
def foldCarry (n : Nat) : Nat := let a := n / 65536 + n % 65536; let b := a / 65536 + a % 65536; b / 65536 + b % 65536

/-- The UDP checksum of RFC 768 over pseudo header, header and payload; one that comes to 0 is sent as all ones (R264). -/
def udpSum (src dst : Word) (sport port : Nat) (payload : List Nat) : Nat :=
  let n := 8 + payload.length
  let c := 65535 - foldCarry (onesSum (bytesBE 4 src.toNat ++ bytesBE 4 dst.toNat ++ [0, 17] ++ bytesBE 2 n ++ bytesBE 2 sport ++ bytesBE 2 port ++
    bytesBE 2 n ++ [0, 0] ++ payload))
  if c = 0 then 65535 else c

/-- The datagram that carries a payload from the Ivwyn port to a host: TTL 64, DF = 1, checksummed (R264, R266). -/
def State.datagram (s : State) (dst : Word) (port : Nat) (payload : List Nat) : UdpOut :=
  { src := s.stackAddr, sport := s.ivwPort, dst := dst, port := port, hop := s.nextHop dst,
    mac := (s.net.arp.find? fun e => e.1 == s.nextHop dst).map fun e => e.2.1, ttl := 64, df := true,
    sum := udpSum s.stackAddr dst s.ivwPort port payload, payload := payload }

/-- Send a message of the device in session `x` to a host's address and port: header and body, encrypted and tagged; MCTR rises by 1,
CREDIT is CLIMIT (R266-R268, R272). -/
def State.ivwSend (s : State) (x : Nat) (ip : Word) (port type flags status txn : Nat) (body : List Nat) : State :=
  let k := s.session x
  let m := k.mctrOut + 1
  let header := bytesBE 2 0x4957 ++ [1, type] ++ bytesBE 2 x ++ [flags, status] ++ bytesBE 4 txn ++ bytesBE 4 k.climit ++ bytesBE 8 m ++
    bytesBE 2 body.length ++ [0, 0]
  s.setSession x { k with
    mctrOut := m, out := s.datagram ip port (header ++ Config.gcmSeal k.keyOut (bytesBE 4 2 ++ bytesBE 8 m) header body) :: k.out }

/-- Send a notification of KIND `k` in session `x`, to the host's address and port; NSEQ counts from 0 and wraps (R275). -/
def State.notifyOne (s : State) (x k : Nat) (data : List Nat) : State :=
  let n := (s.session x).nseq
  let s1 := s.ivwSend x (s.session x).ip (s.session x).port 0x30 0 0 0 ([k, 0] ++ bytesBE 2 n ++ data)
  s1.setSession x { s1.session x with nseq := (n + 1) % 65536 }

/-- Send a notification of KIND `k` to every open session whose mask holds it (R275). -/
def State.notify (s : State) (k : Nat) (data : List Nat) : State :=
  ((List.range 256).filter fun i => s.bit (F.IVW_S_STATE_OPEN i) && (s.get (F.IVW_S_STATE_MASK i)).testBit k).foldl
    (fun t i => t.notifyOne i k data) s

/-- Refuse a mode request: REFUSED and the code of the request (R18, R19). -/
def State.refuseRequest (s : State) (req : Nat) : State :=
  (s.set F.SYS_MODE_STAT_REFUSED 1).set F.SYS_MODE_STAT_LAST_REQ req

/-- A mode change: MODE, PREV and CAUSE at once, source 824, a notification (R21). An arm that has not taken effect is
refused when the device leaves ARMED for another mode than RUN (R30). -/
def State.changeMode (s : State) (to_ cause : Nat) : State :=
  let s0 := if s.modeCtl.arm ≠ none ∧ s.mode = M.armed ∧ to_ ≠ M.run ∧ to_ ≠ M.runSpared
    then { s with modeCtl := { s.modeCtl with arm := none } }.refuseRequest 6 else s
  let s1 := ((s0.set F.SYS_MODE_PREV s.mode).set F.SYS_MODE_CAUSE cause).set F.SYS_MODE_MODE to_
  (s1.raise 824).notify 0 (bytesBE 4 (s1.rdN R.SYS_MODE))

/-- Whether a restart or the way to QUARANTINE is in progress: only those two are entered then (R29). -/
def State.leaving (s : State) : Bool := s.modeCtl.restart || s.modeCtl.toQuarantine

/-- Enter HOLD with cause 0x30 + i; the moment is kept, since a HOLD cause outranks an entry to SERVICE of the same SPINE cycle (R31). -/
def State.holdNow (s : State) (i : Nat) : State :=
  let s1 := s.changeMode M.hold (0x30 + i)
  { s1 with modeCtl := { s1.modeCtl with heldAt := some s1.now } }

/-- A HOLD cause 0x30 + i arises: it is shown, and takes ARMED, RUN and RUN-SPARED to HOLD (R23-R25, R29). -/
def State.raiseHold (s : State) (i : Nat) : State :=
  let s1 := s.setBitAt R.SYS_HOLD_CAUSES i
  if s.modeIn [M.armed, M.run, M.runSpared] && !s.leaving then s1.holdNow i else s1

/-- A HOLD cause clears at its source (R24). -/
def State.clearHold (s : State) (i : Nat) : State := s.clrBitAt R.SYS_HOLD_CAUSES i

/-- Enter ARMED. A HOLD cause that is present takes the device to HOLD in the next SPINE cycle; CAUSE records the lowest
(R24, R31). -/
def State.enterArmed (s : State) (cause : Nat) : State :=
  let s1 := s.changeMode M.armed cause
  match (List.range 7).find? fun i => s1.bitAt R.SYS_HOLD_CAUSES i with
  | some i => s1.holdNow i
  | none => s1

/-- Whether SERVICE may be entered: from ARMED or HOLD, with no restart or way to QUARANTINE in progress, and not in the SPINE cycle in
which a HOLD cause took the device to HOLD: HOLD outranks the entry, which is dropped (R23, R29, R31). -/
def State.serviceMayOpen (s : State) : Bool :=
  !s.leaving && (s.mode == M.armed || (s.mode == M.hold && s.modeCtl.heldAt.map spineCycle != some (spineCycle s.now)))

/-- A redundancy engages: its bit of SYS.SPARED, and RUN becomes RUN-SPARED (R20, R23, R31). -/
def State.engageSpare (s : State) (i : Nat) : State :=
  let s1 := s.setBitAt R.SYS_SPARED i
  if s.mode = M.run ∧ s.leaving = false then s1.changeMode M.runSpared 0x22 else s1

/-- A redundancy is released: RUN-SPARED becomes RUN with the last of them (R20, R23). -/
def State.releaseSpare (s : State) (i : Nat) : State :=
  let s1 := s.clrBitAt R.SYS_SPARED i
  if s.mode = M.runSpared ∧ s1.rd R.SYS_SPARED = 0 ∧ s.bitAt R.SYS_SPARED i = true ∧ s.leaving = false
  then s1.changeMode M.run 0x23 else s1

end Sys2Proof.Machine
end

