-- ==== Sys2Proof/Machine/Shaft.lean ====
section
/-! DEFINITION. Sys2Proof/Machine/Shaft.lean: the shaft trackers and the wheel domains' angles, leads and lead points
(R38-R65). -/
namespace Sys2Proof.Machine

/-- Angle units in a revolution (R38). -/
abbrev revUnits : Int := 16777216

/-- Whether every field of tracker `x` is valid, those that its source does not use included: until a write leaves every field of the unit
valid, the tracker behaves as with SRC = OFF (R8, R56-R58). -/
def State.shValid (s : State) (x : Nat) : Bool :=
  s.regValid (R.WHEEL_SH_CFG x) && s.regValid (R.WHEEL_SH_EDGES x) && s.regValid (R.WHEEL_SH_SSI x) && s.regValid (R.WHEEL_SH_STALL x) &&
  decide (s.get (F.WHEEL_SH_SSI_POS_LSB x) + s.get (F.WHEEL_SH_SSI_POS_BITS x) ≤ s.get (F.WHEEL_SH_SSI_WORD_BITS x))

/-- The source in force: 0 OFF, 1 QUAD, 2 SSI, 3 CHAIN (R8, R42). -/
def State.shSource (s : State) (x : Nat) : Nat := if s.shValid x then s.get (F.WHEEL_SH_CFG_SRC x) else 0

/-- The raw angle of edge count `n` of `e` (R43). -/
def rawAngle (n e : Nat) : Int := ((n * 16777216 / e : Nat) : Int)

/-- The angle of the next expected edge, extended (R50). -/
def State.nextEdge (s : State) (x : Nat) : Int :=
  let k := s.tracker x
  if s.shSource x = 1 then
    let e := s.get (F.WHEEL_SH_EDGES_E x)
    k.theta - rawAngle k.n e + rawAngle (k.n + 1) e
  else k.theta + k.step

/-- ANGLE of tracker `x` at time `t`, extended by REV: interpolated between forward edges, capped one unit below the next
expected edge, never backward (R50, R51, R53). -/
def State.shaftPos (s : State) (x t : Nat) : Int :=
  let k := s.tracker x
  if k.valid && !k.reverse && !k.stalled && s.shSource x != 0 then
    max k.base (min (s.nextEdge x - 1) (k.base + Int.tdiv (k.speed * ((t : Int) - k.baseT)) 65536))
  else k.base

/-- Whether domain T runs: RUN with a valid tick length (R8, R63). -/
def State.tRuns (s : State) : Bool :=
  s.bit F.WHEEL_T_CFG_RUN && decide (400 ≤ s.get F.WHEEL_T_CFG_TICK_CYC) && decide (s.get F.WHEEL_T_CFG_TICK_CYC ≤ 400000)

/-- The angle of domain T at time `t`, extended (R63). -/
def State.tPos (s : State) (t : Nat) : Int :=
  if s.tRuns && s.tick.started then
    (s.tick.count * 4096 + min 4095 ((t - s.tick.last) * 4096 / s.tick.len) : Nat)
  else s.tick.held

/-- The angle of domain `d` (0 A, 1 B, 2 T) at time `t`, extended. -/
def State.domAngle (s : State) (d t : Nat) : Int := if d < 2 then s.shaftPos d t else s.tPos t

/-- Whether domain `d` is referenced: VALID of its tracker; T once started (R52, R63). -/
def State.domValid (s : State) (d : Nat) : Bool := if d < 2 then (s.tracker d).valid else s.tick.started

/-- REVERSE of domain `d`; T never reverses (R51, R63). -/
def State.domReverse (s : State) (d : Nat) : Bool := if d < 2 then (s.tracker d).reverse else false

/-- STALLED of domain `d`; T counts as stalled while RUN = 0 (R53, R63) or before its start (R159). -/
def State.domStalled (s : State) (d : Nat) : Bool :=
  if d < 2 then (s.tracker d).stalled else !(s.tRuns && s.tick.started)

/-- SPEED of domain `d` (R48, R63). -/
def State.domSpeed (s : State) (d : Nat) : Int :=
  if d < 2 then (s.tracker d).speed
  else if s.tRuns && s.tick.started && s.tick.len != 0 then ((4096 * 65536 / s.tick.len : Nat) : Int) else 0

/-- ACCEL of domain `d` (R48, R63). -/
def State.domAccel (s : State) (d : Nat) : Int := if d < 2 then (s.tracker d).accel else 0

/-- The lead of domain `d` as an edge or a tick recomputes it (R64). -/
def State.newLead (s : State) (d : Nat) : Int :=
  if s.domReverse d || s.domStalled d then 0
  else Int.tdiv (s.domSpeed d * (s.get (F.WHEEL_DOM_CTL_LEAD_CYC d) : Int)) 65536

/-- The lead point of domain `d` at time `t`: it never moves backward while REVERSE = 0, and equals the angle while
REVERSE = 1 (R64). Extended angles are numbers without a bound: what happens to a REV that leaves 32 signed bits is open, and the model
lets positions go on (DESIGN CHOICE, log entry 146). -/
def State.lpAt (s : State) (d t : Nat) : Int :=
  if s.domReverse d then s.domAngle d t else max (s.dom d).lp (s.domAngle d t + (s.dom d).lead)

/-- A lead point as a wheel position REV × 4096 + bin (R40, R64). -/
def posOf (angle : Int) : Int := Int.fdiv angle 4096

/-- Drain state of R65: 0 stopped, 1 held, 2 on. -/
def State.drainState (s : State) : Nat :=
  if s.modeIn [M.run, M.runSpared, M.hold] then 2
  else if s.modeIn [M.armed, M.service, M.provision] || (s.mode == M.init && s.bit F.WHEEL_STAT_READY) then 1
  else 0

/-- The position of domain `d` just before the moment `s.now`: before an edge, a correction or a tick of that moment, else one ENG cycle
earlier (R231). -/
def State.posBefore (s : State) (d : Nat) : Int :=
  if d < 2 then
    match (s.tracker d).jump with
    | some (a, t) => posOf (if t = s.now then a else s.domAngle d (s.now - 1))
    | none => posOf (s.domAngle d (s.now - 1))
  else if s.tick.last = s.now ∧ 0 < s.tick.count then s.tick.count - 1 else posOf (s.domAngle d (s.now - 1))

/-- Bring the lead point of domain `d` up to time `t`. -/
def State.moveLp (s : State) (d t : Nat) : State := s.setDom d { s.dom d with lp := s.lpAt d t }

/-- An accepted edge or a tick of domain `d` (R167). -/
def State.edgeTaken (s : State) (d : Nat) : State := s.setDom d { s.dom d with edges := (s.dom d).edges + 1 }

/-- Recompute the lead of domain `d` at an edge or a tick at time `t`, and move the lead point (R64). -/
def State.relead (s : State) (d t : Nat) : State :=
  (s.setDom d { s.dom d with lead := s.newLead d }).moveLp d t

/-- A domain starts afresh at time `t`: lead point at the angle plus the lead, HW at the lead point unless drains are
stopped (R85). -/
def State.startDom (s : State) (d t : Nat) : State :=
  let a := s.domAngle d t + s.newLead d
  s.setDom d { s.dom d with lead := s.newLead d, lp := a, hw := if s.drainState = 0 then none else some (posOf a),
                            hwLost := (s.dom d).hwLost || (s.drainState == 0 && (s.dom d).hw.isSome) }

/-- A tracker fault: a bit of SHx_STAT [7:1] and source 673 or 675 (R60, R96). -/
def State.shFault (s : State) (x b : Nat) : State := (s.setBitAt (R.WHEEL_SH_STAT x) b).raise (673 + 2 * x)

/-- REVERSE follows the direction of a decoded edge; its setting is an event (R51, R55, R60, R96). -/
def State.turn (s : State) (x : Nat) (fwd : Bool) : State :=
  let k := s.tracker x
  let s1 := s.setTracker x { k with reverse := !fwd }
  if !fwd && !k.reverse then (s1.set (F.WHEEL_SH_STAT_REVERSED x) 1).raise (672 + 2 * x) else s1

/-- The averaging window M in edges (R57). -/
def State.shWindow (s : State) (x : Nat) : Nat := 2 ^ s.get (F.WHEEL_SH_CFG_M x)

/-- SPEED at an edge with angle `th` and time `t`, from the window of R48 and R49: 0 with no earlier edge. -/
def State.edgeSpeed (s : State) (x : Nat) (th : Int) (t : Nat) : State × Int :=
  let k := s.tracker x
  let w := min k.j (s.shWindow x)
  match k.hist[w - 1]? with
  | some (th0, t0, _) => if w = 0 then (s, 0) else s.div32 ((th - th0) * 65536) ((t : Int) - t0)
  | none => (s, 0)

/-- ACCEL at an edge with speed `v` and time `t`: 0 until 2M edges came before (R48, R49). -/
def State.edgeAccel (s : State) (x : Nat) (v : Int) (t : Nat) : State × Int :=
  let k := s.tracker x
  let m := s.shWindow x
  match k.hist[m - 1]? with
  | some (_, t0, v0) => if k.j < 2 * m then (s, 0) else s.div32 ((v - v0) * 16777216) ((t : Int) - t0)
  | none => (s, 0)

/-- Take an accepted edge, sample or broadcast of tracker `x`: angle `th` (extended), time `t`, direction (R48-R54). The
first one after VALID became 0 makes it 1. The domain's lead point is first brought up to `t`, then the lead and the lead
point are recomputed (R64). OVERSPEED is looked at with each new SPEED: cleared by a write while SPEED still exceeds the limit, it is set
again at the next edge (DESIGN CHOICE, log entry 147). -/
def State.takeEdge (s : State) (x : Nat) (th : Int) (t : Nat) (fwd : Bool) : State :=
  let first := !(s.tracker x).valid
  let s1 := ((s.moveLp x t).edgeTaken x).turn x fwd
  let p := s1.edgeSpeed x th t
  let q := p.1.edgeAccel x p.2 t
  let k := q.1.tracker x
  let s2 := q.1.setTracker x { k with
    valid := true, stalled := false, theta := th, base := th, baseT := t, tk := t, anchor := some t,
    jump := if first then none else some (s.shaftPos x t, t),
    step := th - k.theta, speed := p.2, accel := q.2, j := k.j + 1,
    hist := ((th, t, p.2) :: k.hist).take 17 }
  let s3 := if p.2 > 137439 ∨ p.2 < -137439 then s2.shFault x 4 else s2
  if first then s3.startDom x t else s3.relead x t

/-- Set VALID to 0 with n and REV reset; ANGLE holds; the tracker starts again (R52, R56). EDGE_TIME, SPEED, ACCEL, STALLED and REVERSE
become 0 with it (DESIGN CHOICE, log entry 148); what the pins show stays. -/
def State.shRestart (s : State) (x : Nat) : State :=
  let a := s.shaftPos x s.now % revUnits
  let s1 := s.setTracker x { ({} : Tracker) with theta := a, base := a, baseT := s.now, lost := (s.tracker x).lost }
  s1.setDom x { s1.dom x with lead := 0, lp := a, hw := none, hwLost := (s1.dom x).hwLost || (s1.dom x).hw.isSome }

/-- An edge decoded while the index is awaited: it counts, turns the tracker and is stamped, and it ends a stall; ANGLE follows the count,
not yet referenced (R52, R53, R159, R167). -/
def State.awaitEdge (s : State) (x : Nat) (a : Int) (t : Nat) (fwd : Bool) : State :=
  ((s.setTracker x { s.tracker x with base := a, theta := a, tk := t, anchor := some t, stalled := false }).edgeTaken x).turn x fwd

/-- ENCODER_EDGE (R43, R44, R48, R51, R52, R55). A and B of tracker `x` go from (a0, b0) to (a1, b1) in the sample stamped `t`, and have
stood at the new level for `stood` ENG cycles: the transition is accepted once that is FILT. A sample in which both change is a
quadrature error; otherwise QMODE says which transitions are decoded and the levels give the direction. With a receiver pair open or
shorted nothing is decoded. -/
def execEncoderEdge (x : Fin 2) (t : Nat) (stood : Nat) (a0 b0 a1 b1 : Bool) (s : State) : Out :=
  let s := s.at_ t
  if s.shSource x = 1 ∧ s.get (F.WHEEL_SH_CFG_FILT x) ≤ stood ∧ (s.tracker x).lost = false then
    if a0 ≠ a1 ∧ b0 ≠ b1 then .next ((s.count (R.WHEEL_SH_QUAD_ERR x)).shFault x 1)
    else
      let q := s.get (F.WHEEL_SH_CFG_QMODE x)
      let decoded := (a0 != a1 && (q != 2 || a1)) || (b0 != b1 && q == 0)
      if decoded then
        let fwd := ((if a0 != a1 then a1 != b1 else a1 == b1) != s.bit (F.WHEEL_SH_CFG_DIR_INV x))
        let e := s.get (F.WHEEL_SH_EDGES_E x)
        let k := s.tracker x
        let n := if fwd then (k.n + 1) % e else (k.n + e - 1) % e
        let a := (rawAngle n e + (s.get (F.WHEEL_SH_ZERO_ZERO x) : Int)) % revUnits
        let s1 := s.setTracker x { k with n := n }
        if !k.valid && s.bit (F.WHEEL_SH_CFG_INDEX_REQ x) then .next (s1.awaitEdge x a t fwd)
        else
          let d := a - k.theta % revUnits
          let th := if !k.valid then a else if fwd then k.theta + d % revUnits else k.theta - (-d) % revUnits
          .next (s1.takeEdge x th t fwd)
      else .next s
  else .next s

/-- INDEX_PULSE (R52, R55, R96). An index seen while the last decoded edge was forward; before any decoded edge it counts as forward
(DESIGN CHOICE, log entry 149). With INDEX_REQ it makes ANGLE valid; later it corrects a count that is not 0, the shorter way round, and
moves the angles of the window with it. What was interpolated since the last edge stays on top of the corrected angle (DESIGN CHOICE,
log entry 150). -/
def execIndexPulse (x : Fin 2) (t : Nat) (s : State) : Out :=
  let s := s.at_ t
  let k := s.tracker x
  if s.shSource x = 1 ∧ k.reverse = false then
    let s := s.raise (676 + x)
    let zero : Int := s.get (F.WHEEL_SH_ZERO_ZERO x)
    if k.valid = false then
      if s.bit (F.WHEEL_SH_CFG_INDEX_REQ x) then
        .next ((s.setTracker x { k with n := 0, theta := zero, base := zero, baseT := t, valid := true, anchor := some (k.anchor.getD t) }).startDom x t)
      else .next s
    else if k.n = 0 then .next s
    else
      let e := s.get (F.WHEEL_SH_EDGES_E x)
      let delta := if k.n ≤ e / 2 then - rawAngle k.n e else revUnits - rawAngle k.n e
      let s1 := s.moveLp x t
      let s2 := s1.setTracker x { k with
        n := 0, theta := k.theta + delta, base := k.theta + delta, jump := some (s.shaftPos x t, t),
        hist := k.hist.map fun h => (h.1 + delta, h.2.1, h.2.2) }
      let s3 := if delta < 0 then s2.setDom x { s2.dom x with lp := s2.domAngle x t + (s2.dom x).lead } else s2.moveLp x t
      .next ((s3.count (R.WHEEL_SH_INDEX_SLIP x)).shFault x 2)
  else .next s

/-- Gray code to binary over `w` bits (R45). -/
def grayToBin : Nat → Nat → Nat
  | 0, _ => 0
  | w + 1, g => Nat.xor g (grayToBin w (g / 2))

/-- A signed step of less than half a revolution. -/
def halfStep (d : Int) : Int := let m := d % revUnits; if m < 8388608 then m else m - revUnits

/-- Whether an SSI word is due at `t`: one is read every PERIOD µs, counted from the last one (R45). -/
def State.ssiDue (s : State) (x t : Nat) : Bool :=
  match (s.tracker x).sampleAt with
  | none => true
  | some a => decide (a < t) && decide ((t - a) % (s.get (F.WHEEL_SH_SSI_PERIOD x) * usCycles) = 0)

/-- SSI_SAMPLE (R45, R46, R52). The word read at the first falling clock edge `t`, one every PERIOD µs. A step that differs from the one
SPEED predicts by more than 262,144 units is discarded; the third in a row is accepted with SSI_JUMP. The previous sample of R46 is the
last one accepted (DESIGN CHOICE, log entry 151); DIR_INV acts on decoded encoder edges alone (DESIGN CHOICE, log entry 152). -/
def execSsiSample (x : Fin 2) (t : Nat) (word : Nat) (s : State) : Out :=
  let s := s.at_ t
  if s.shSource x = 2 ∧ s.ssiDue x t = true ∧ (s.tracker x).lost = false then
    let s := s.setTracker x { s.tracker x with sampleAt := some t }
    let k := s.tracker x
    let pb := s.get (F.WHEEL_SH_SSI_POS_BITS x)
    let field := word % 2 ^ s.get (F.WHEEL_SH_SSI_WORD_BITS x) / 2 ^ s.get (F.WHEEL_SH_SSI_POS_LSB x) % 2 ^ pb
    let p := if s.bit (F.WHEEL_SH_SSI_GRAY x) then grayToBin pb field else field
    let a := ((p * 2 ^ (24 - pb) : Nat) + (s.get (F.WHEEL_SH_ZERO_ZERO x) : Int)) % revUnits
    if k.valid = false then .next (s.takeEdge x a t true)
    else
      let step := halfStep (a - k.theta)
      let pred := Int.tdiv (k.speed * ((t : Int) - k.tk)) 65536
      let bad := decide (step - pred > 262144) || decide (pred - step > 262144)
      if bad && decide (k.discards < 2) then
        .next ((s.setTracker x { k with discards := k.discards + 1 }).count (R.WHEEL_SH_SSI_DISCARD x))
      else
        let s1 := s.setTracker x { k with discards := 0 }
        let s2 := if bad then s1.shFault x 6 else s1
        .next (s2.takeEdge x (k.theta + step) t (decide (0 ≤ step)))
  else .next s

/-- The stall time of tracker `x` in ENG cycles (R53). -/
def State.stallTime (s : State) (x : Nat) : Nat := s.get (F.WHEEL_SH_STALL_US x) * usCycles

/-- With SRC = CHAIN and no broadcast for the stall time, CHAIN_LOST is set, once until one arrives. Repeated broadcasts, which R289 takes
as no edge, keep the source from being silent (R47, R55). -/
def State.chainSilence (s : State) (x t : Nat) : State :=
  let k := s.tracker x
  match k.heardAt with
  | some h =>
    if s.shSource x = 3 ∧ k.silent = false ∧ h + s.stallTime x ≤ t then (s.setTracker x { k with silent := true }).shFault x 7 else s
  | none => s

/-- TRACKER_STALL (R37, R47, R53). At `t`, the stall time has passed since the last accepted edge: SPEED and ACCEL become 0,
ANGLE holds, STALLED is set; a CHAIN source that has been silent for as long also sets CHAIN_LOST. -/
def execTrackerStall (x : Fin 2) (t : Nat) (s : State) : Out :=
  let s := s.at_ t
  let k := s.tracker x
  match k.anchor with
  | some a =>
    if s.shSource x ≠ 0 ∧ k.stalled = false ∧ a + s.stallTime x ≤ t then
      let s1 := s.moveLp x t
      let s2 := s1.setTracker x { k with stalled := true, speed := 0, accel := 0, base := s1.shaftPos x t, baseT := t }
      .next (((s2.shFault x 3).relead x t).chainSilence x t)
    else .next (s.chainSilence x t)
  | none => .next s

/-- RECEIVER_PAIR_LOSS (R55, R60). A receiver pair goes open or shorted (`lost`): no edges are decoded, LOSS is set; or the pairs are
good again, and edges are decoded again (log entry 153). -/
def execReceiverPairLoss (x : Fin 2) (lost : Bool) (s : State) : Out :=
  let s1 := s.setTracker x { s.tracker x with lost := lost }
  .next (if lost then s1.shFault x 5 else s1)

/-- A write of a tracker's CFG, EDGES or ZERO: a change of SRC, QMODE, E or ZERO restarts the tracker (R56). The answer says
whether a reserved encoding was met. -/
def State.trackerWrite (s : State) (x a : Nat) (v : Word) : State × Bool :=
  let p := s.mergeWrite a v
  let changed := bitsOf (s.rd (R.WHEEL_SH_CFG x)) 31 28 != bitsOf (p.1.rd (R.WHEEL_SH_CFG x)) 31 28 ||
    s.get (F.WHEEL_SH_EDGES_E x) != p.1.get (F.WHEEL_SH_EDGES_E x) ||
    s.get (F.WHEEL_SH_ZERO_ZERO x) != p.1.get (F.WHEEL_SH_ZERO_ZERO x)
  if changed then
    let s1 := s.shRestart x
    ((s1.mergeWrite a v).1, p.2)
  else p

/-- A write of SHx_SSI: a position field that runs past the word is a reserved encoding of three fields together (R58). -/
def State.ssiWrite (s : State) (x : Nat) (v : Word) : State × Bool :=
  let p := s.mergeWrite (R.WHEEL_SH_SSI x) v
  if p.1.get (F.WHEEL_SH_SSI_POS_LSB x) + p.1.get (F.WHEEL_SH_SSI_POS_BITS x) > p.1.get (F.WHEEL_SH_SSI_WORD_BITS x) then
    (((p.1.set (F.WHEEL_SH_SSI_WORD_BITS x) (s.get (F.WHEEL_SH_SSI_WORD_BITS x))).set
      (F.WHEEL_SH_SSI_POS_BITS x) (s.get (F.WHEEL_SH_SSI_POS_BITS x))).set
      (F.WHEEL_SH_SSI_POS_LSB x) (s.get (F.WHEEL_SH_SSI_POS_LSB x)), true)
  else p

/-- Start domain T at angle 0 and REV 0 at time `t` (R63, R85). -/
def State.startT (s : State) (t : Nat) : State :=
  let s1 := { s with tick := { s.tick with started := true, armed := false, count := 0, last := t, start := t,
                                           len := s.get F.WHEEL_T_CFG_TICK_CYC, held := 0 } }
  s1.startDom 2 t

/-- A write of T_CFG (R63): domain T, which does not run, starts when RUN is 1 with a valid tick length, or arms the start at the next
rising SYNC edge; RUN to 0 stops it at its angle; otherwise the tick length applies from the next tick. RUN = 1 with an invalid length,
which the image may leave, counts as RUN = 0 until a write makes it valid (R8). -/
def State.tCfgWrite (s : State) (v : Word) : State × Bool :=
  let p := s.mergeWrite R.WHEEL_T_CFG v
  let s1 := p.1
  if !s.tRuns && s1.tRuns then
    if s1.bit F.WHEEL_T_CFG_START_SYNC then
      ({ s1 with tick := { s1.tick with started := false, armed := true } }, p.2)
    else (s1.startT s.now, p.2)
  else if s.tRuns && !s1.tRuns then
    let s0 := s.moveLp 2 s.now
    let s2 := { s1 with doms := s0.doms, tick := { s1.tick with held := s.tPos s.now, armed := false } }
    (s2.relead 2 s.now, p.2)
  else (s1, p.2)

/-- T_TICK (R63). At `t` the tick in progress ends: domain T advances one bin, SPEED and the lead follow the tick length in
force from now on. -/
def execTTick (t : Nat) (s : State) : Out :=
  let s := s.at_ t
  if s.tRuns && s.tick.started && decide (s.tick.last + s.tick.len ≤ t) then
    let s1 := (s.moveLp 2 (s.tick.last + s.tick.len)).edgeTaken 2
    let s2 := { s1 with tick := { s1.tick with count := s.tick.count + 1, last := s.tick.last + s.tick.len,
                                               len := s.get F.WHEEL_T_CFG_TICK_CYC } }
    .next (s2.relead 2 t)
  else .next s

/-- A rising edge of the internal SYNC starts a domain T that waits for it (R63). -/
def State.syncT (s : State) : State := if s.tick.armed ∧ s.tRuns = true then s.startT s.now else s

/-- The tracker and domain registers that are computed when they are read (R56, R59, R97, R99). `none`: not one of them. -/
def State.shaftReg? (s : State) (a : Nat) : Option Word :=
  let o := a - 0x10100000
  if a < 0x10100000 then none
  else if o < 0x80 then
    let x := o / 0x40
    let k := s.tracker x
    let p := s.shaftPos x s.now
    match o % 0x40 with
    | 0x10 => some (BitVec.ofNat 32 ((p % revUnits).toNat + (if k.reverse then 2 ^ 24 else 0) +
        (if k.stalled then 2 ^ 25 else 0) + (if k.valid then 2 ^ 26 else 0)))
    | 0x14 => some (BitVec.ofInt 32 (Int.fdiv p revUnits))
    | 0x18 => some (BitVec.ofInt 32 k.speed)
    | 0x1C => some (BitVec.ofInt 32 k.accel)
    | 0x20 => some (BitVec.ofNat 32 k.tk)
    | _ => none
  else if 0x100 ≤ o ∧ o < 0x160 then
    let d := (o - 0x100) / 0x20
    match (o - 0x100) % 0x20 with
    | 0x04 => some (BitVec.ofNat 32 (s.lpAt d s.now % revUnits).toNat)
    | 0x08 => match (s.dom d).hw with
      | some h => some (BitVec.ofInt 32 h)
      | none => some (if (s.dom d).hwLost then BitVec.ofNat 32 s.fresh else 0)
    | 0x18 => some (BitVec.ofNat 32 ((s.dom d).lead % revUnits).toNat)
    | _ => none
  else if o = 0x164 then some (BitVec.ofNat 32 (s.tPos s.now % revUnits).toNat)
  else if o = 0x168 then some (BitVec.ofInt 32 (Int.fdiv (s.tPos s.now) revUnits))
  else none

end Sys2Proof.Machine
end

