-- ==== Sys2Proof/Machine/Snap.lean ====
section
/-! DEFINITION. Sys2Proof/Machine/Snap.lean: the common SNAP trigger, the snapshot shadows and the other consumers of the
trigger (R263, R290, R336, R487-R491). -/
namespace Sys2Proof.Machine

/-- The value a register shows, computed registers of the wheel block included. -/
def State.show_ (s : State) (a : Nat) : Word := (s.shaftReg? a).getD (s.rd a)

/-- gPTP time at the present moment, in units of 0.5 ns: it advances a nominal 2.5 ns every ENG cycle, steered by the servo
(R262). -/
def State.ptpHalf (s : State) : Nat := s.ptp.halfNs + s.ptp.inc * (s.now - s.ptp.ref) / 4294967296

/-- The capture unit takes wheel time and gPTP time at once when source `i` of XCAP_CTL is enabled (bit 3 SNAP, 2 SYNC,
1 second, 0 GO); SRC names the bit (R263, log entry 15). -/
def State.xcap (s : State) (i : Nat) : State :=
  if (s.get F.NET_XCAP_CTL_EN).testBit i && s.domOn 18 then
    let ns := s.ptpHalf / 2
    let sec := ns / 1000000000
    let s1 := (s.wr R.NET_XCAP_WT_LO (BitVec.ofNat 32 s.now)).wr R.NET_XCAP_WT_HI (BitVec.ofNat 32 (s.now / 2 ^ 32))
    let s2 := (s1.wr R.NET_XCAP_NS (BitVec.ofNat 32 (ns % 1000000000))).wr R.NET_XCAP_S_LO (BitVec.ofNat 32 sec)
    let s3 := (s2.set F.NET_XCAP_S_HI_SEC (sec / 2 ^ 32)).set F.NET_XCAP_S_HI_SRC (2 ^ i)
    let s4 := if s.ptp.capUnread then s3.set F.NET_XCAP_CTL_XCAP_LOST 1 else s3
    ({ s4 with ptp := { s4.ptp with capUnread := true } }).raise 719
  else s

/-- Request a fabric capture (R336, R338): refused while an unread capture is held, joined to one that is pending. -/
def State.requestCapture (s : State) : State :=
  if !s.alive then s
  else if s.capWait || !s.regValid R.FAB_CAP_CTL then s
  else if s.bit F.FAB_CAP_STAT_FULL && !s.bit F.FAB_CAP_CTL_OVERWRITE then (s.count R.FAB_CAP_MISSED).raise 498
  else
    let s1 := { s with capWait := true }
    if s.bit F.FAB_CAP_CTL_ALIGN then s1.set F.FAB_CAP_STAT_PENDING 1 else s1

/-- The characters of a frame: SOF (K28.5 or K28.1), the fields, and the CRC-32C of what follows SOF; `seq` is the link sequence number of a data
frame (R280). -/
def frameChars (f : EmnFrame) (seq : Nat) : List Nat :=
  let b := match f with
    | .data type dst src pl => [type, seq, dst, src] ++ bytesBE 2 pl.length ++ pl
    | .urgent type origin age pl => (type * 16 + origin) :: bytesBE 3 age ++ pl
  (match f with | .data .. => 0xBC | .urgent .. => 0x3C) :: b ++ bytesBE 4 (crc32c b).toNat

/-- Send an urgent frame on an Emnodric port (R279). -/
def State.sendUrgent (s : State) (p : Nat) (f : EmnFrame) : State :=
  s.setEmnPort p { s.emnPort p with sent := frameChars f 0 :: (s.emnPort p).sent }

/-- The shadows of R489, as (shadow, register) pairs. -/
def shadowMap : List (Nat × Nat) :=
  ((List.range 2).flatMap fun t => (List.range 5).map fun i => (R.SNAP_SH_TRACK t i, R.WHEEL_SH_ANGLE t + 4 * i)) ++
  ((List.range 3).flatMap fun x => [(R.SNAP_SH_DOM x 0, R.WHEEL_DOM_LP x), (R.SNAP_SH_DOM x 1, R.WHEEL_DOM_HW x)]) ++
  [(R.SNAP_SH_T_ANGLE, R.WHEEL_T_ANGLE), (R.SNAP_SH_T_REV, R.WHEEL_T_REV), (R.SNAP_SH_POOL_FREE, R.WHEEL_POOL_FREE),
   (R.SNAP_SH_POOL_IN_USE, R.WHEEL_POOL_IN_USE), (R.SNAP_SH_MODE, R.SYS_MODE), (R.SNAP_SH_SPARED, R.SYS_SPARED)] ++
  ((List.range 128).map fun i => (R.SNAP_SH_RES i, R.MEAS_RES i)) ++
  ((List.range 9).map fun m => (R.SNAP_SH_MON m, R.MEAS_MON m)) ++
  ((List.range 132).flatMap fun n => [(R.SNAP_SH_C_STAT n, R.CHT_C_STAT n), (R.SNAP_SH_C_EVENTS n, R.CHT_C_EVENTS n)]) ++
  ((List.range 256).flatMap fun n => [(R.SNAP_SH_LANE n 0, R.LANE_STAT n), (R.SNAP_SH_LANE n 1, R.LANE_ECHO_LAST n),
    (R.SNAP_SH_LANE n 2, R.LANE_FRAMES n), (R.SNAP_SH_LANE n 3, R.LANE_STORE n)])

/-- Latch the shadows: their values at the edge, the wheel time, SEQ, FULL, SRC, source 908; or miss the trigger while an
unread snapshot is held (R487, R490, R491). -/
def State.snapLatch (s : State) (src : Nat) : State :=
  if s.bit F.SNAP_STAT_FULL && !s.bit F.SNAP_CTL_OVERWRITE then (s.count R.SNAP_MISSED).raise 909
  else
    let s1 := shadowMap.foldl (fun t e => t.wr e.1
      (if (match addrDomain e.2 with | some d => s.domOn d | none => true) then s.show_ e.2 else 0xDEAD0FF0#32)) s
    let s2 := (s1.wr R.SNAP_TIME_LO (BitVec.ofNat 32 s.now)).wr R.SNAP_TIME_HI (BitVec.ofNat 32 (s.now / 2 ^ 32))
    (((s2.wrap R.SNAP_SEQ 1).set F.SNAP_STAT_FULL 1).set F.SNAP_STAT_SRC src).raise 908

/-- Whether the SNAP trigger has acted in this SPINE cycle already. -/
def State.snapNow (s : State) : Bool := s.snapAt.map (· / 2) == some (s.now / 2)

/-- Whether the shadows have been latched in this SPINE cycle. -/
def State.latchedNow (s : State) : Bool :=
  s.snapNow && s.bit F.SNAP_STAT_FULL && decide ((s.rdN R.SNAP_TIME_HI * 2 ^ 32 + s.rdN R.SNAP_TIME_LO) / 2 = s.now / 2 % 2 ^ 63)

/-- The SNAP trigger acts: the shadows, and every other consumer by its own rules (R487, R488). Another source in the same SPINE cycle makes no
second snapshot: SRC records it too. The trigger is ignored before INIT and in QUARANTINE (R487, R491). -/
def State.snapAct (s : State) (src : Nat) : State :=
  if s.alive && s.snapNow then (if s.latchedNow then s.set F.SNAP_STAT_SRC (s.get F.SNAP_STAT_SRC ||| src) else s)
  else if s.alive then
    let s1 := (s.snapLatch src).xcap 3
    let s2 := if s1.bit F.FAB_CAP_CTL_ON_SNAP then s1.requestCapture else s1
    { s2 with snapAt := some s2.now }
  else s

/-- A trigger of this device goes out on both Emnodric ports and waits for its apply instant (R290). AGE is the time from the origin instant
to the departure of the SOF, which the spec does not fix: a free value for each port (R288, log entry 162). -/
def State.forwardTrigger (s : State) (snap : Bool) (src : Nat) : State :=
  let f := fun (age : Nat) => EmnFrame.urgent (if snap then 3 else 2) (s.get F.EMN_POS_POS) (age % 2 ^ 24) [s.emn.trigSeq % 256, 0, 0, 0, 0, 0, 0]
  let s1 := ((s.sendUrgent 0 (f s.fresh)).sendUrgent 1 (f s.drawn.fresh)).drawn.drawn
  { s1 with emn := { s1.emn with
      trigSeq := s.emn.trigSeq + 1,
      triggers := s1.emn.triggers ++ [⟨snap, s.now + s.get F.EMN_TRIG_CFG_BUDGET, src⟩] } }

/-- An assertion of the common SNAP trigger by local sources `src` (a mask of R487). With SNAP_FWD = 1 it is sent and acts only
at its apply instant, with SRC bit 1 added (R290, R487). -/
def State.assertSnap (s : State) (src : Nat) : State :=
  if !s.alive then s
  else if s.bit F.EMN_TRIG_CFG_SNAP_FWD && s.regValid R.EMN_TRIG_CFG then s.forwardTrigger true (src ||| 2)
  else s.snapAct src

/-- A write of SNAP.CTL: FREE clears FULL before a trigger of the same SPINE cycle latches, a GO of the same write included (R487, R490, R491). Both command
bits read 0 (R5). -/
def State.snapCtlWrite (s : State) (v : Word) : State :=
  let s1 := (s.mergeWrite R.SNAP_CTL (v &&& 0x3FFFFFFF#32)).1
  let s2 := if v.getLsbD 30 && !s1.latchedNow then s1.set F.SNAP_STAT_FULL 0 else s1
  if v.getLsbD 31 then s2.assertSnap 4 else s2

/-- SNAP_PIN_EDGE (R487). A falling edge of SNAP_N held low for at least 2 SPINE cycles asserts SNAP where PIN_EN allows it. -/
def execSnapPinEdge (lowCycles : Nat) (s : State) : Out :=
  .next (if s.bit F.SNAP_CTL_PIN_EN && decide (2 ≤ lowCycles) then s.assertSnap 1 else s)

end Sys2Proof.Machine
end

