-- ==== Sys2Proof/Machine/Wheel.lean ====
section
/-! DEFINITION. Sys2Proof/Machine/Wheel.lean: the event wheel: inserts, drains, delivery, initialisation, flush, notifications
(R66-R95). -/
namespace Sys2Proof.Machine

/-- Pool entries (R66). -/
abbrev poolSize : Nat := 3145728

/-- The end of a list: HEAD, TAIL and NEXT of nothing (R67, R69). -/
abbrev noEntry : Nat := 0x3FFFFF

/-- The empty descriptor (R69). -/
abbrev emptyDesc : BitVec 64 := 0xFFFFFFFFFFF00000#64

/-- Address of the descriptor of bin `b`, lane `l` (R66). -/
def descAddr (b l : Nat) : Nat := 0x20000000 + (b * 256 + l) * 8

/-- Address of pool entry `e` (R66). -/
def poolAddr (e : Nat) : Nat := 0x20800000 + e * 8

/-- A pool index that no entry has and that does not end a list: its word counts as uncorrectable (R70). -/
def badIndex (e : Nat) : Bool := decide (poolSize ≤ e) && decide (e < noEntry)

/-- STATE of a descriptor (R69). -/
inductive DescState where
  | empty | queued | flushing
deriving DecidableEq, Repr

/-- The code of a descriptor's STATE (R69). -/
def DescState.code : DescState → Nat
  | .empty => 0 | .queued => 1 | .flushing => 2

/-- Pack a descriptor (R69). -/
def packDescAs (st : DescState) (head tail count : Nat) : BitVec 64 :=
  BitVec.ofNat 64 (head * 2 ^ 42 + tail * 2 ^ 20 + count * 2 ^ 8 + st.code * 2 ^ 4)

/-- Pack a descriptor with STATE QUEUED (R69). -/
def packDesc (head tail count : Nat) : BitVec 64 := packDescAs .queued head tail count

/-- The wheel domain of a lane: 0 none, 1 A, 2 B, 3 T (R61, R100). -/
def State.laneDom (s : State) (l : Nat) : Nat := s.get ⟨R.WHEEL_LANE_DOM (l / 16), 2 * (l % 16) + 1, 2 * (l % 16)⟩

/-- Whether queue (b, l) holds events (R71). -/
def State.occupied (s : State) (b l : Nat) : Bool := Sparse.get (fun _ => false) s.wheel.occ (b * 256 + l)

/-- Put an occupancy bit. -/
def State.setOcc (s : State) (b l : Nat) (v : Bool) : State :=
  { s with wheel := { s.wheel with occ := Sparse.put (fun _ => false) s.wheel.occ (b * 256 + l) v } }

/-- POOL_FREE becomes `v`: POOL_MIN follows it down, sources 683 and 684 (R90). -/
def State.setPoolFree (s : State) (v : Nat) : State :=
  let s1 := s.wr R.WHEEL_POOL_FREE (BitVec.ofNat 32 v)
  let s2 := if v < s.rdN R.WHEEL_POOL_MIN then s1.wr R.WHEEL_POOL_MIN (BitVec.ofNat 32 v) else s1
  let warn := s.rdN R.WHEEL_POOL_WARN
  let s3 := if v < warn ∧ warn ≤ s.rdN R.WHEEL_POOL_FREE then s2.raise 683 else s2
  if v = 0 ∧ s.rdN R.WHEEL_POOL_FREE ≠ 0 then s3.raise 684 else s3

/-- POOL_IN_USE moves by `d`. -/
def State.useEntries (s : State) (d : Int) : State :=
  s.wr R.WHEEL_POOL_IN_USE (BitVec.ofNat 32 ((s.rdN R.WHEEL_POOL_IN_USE : Int) + d).toNat)

/-- Return entry `e` to the free list; it leaves POOL_IN_USE (R81, R90, log entry 9). -/
def State.freeEntry (s : State) (e : Nat) : State :=
  let w := s.wheel
  let s1 := { s with wheel := if Config.freedEntryFirst then { w with front := e :: w.front } else { w with back := w.back ++ [e] } }
  (s1.useEntries (-1)).setPoolFree (s.rdN R.WHEEL_POOL_FREE + 1)

/-- Take an entry from the free list (R79); the caller has seen that POOL_FREE is not 0. -/
def State.popFree (s : State) : State × Nat :=
  let w := s.wheel
  let p : Wheel × Nat := match w.front with
    | e :: r => ({ w with front := r }, e)
    | [] =>
      if w.next < poolSize then ({ w with next := w.next + 1 }, w.next)
      else match w.back with
        | e :: r => ({ w with back := r }, e)
        | [] => (w, 0)
  (({ s with wheel := p.1 }.useEntries 1).setPoolFree (s.rdN R.WHEEL_POOL_FREE - 1), p.2)

/-- The wheel met an uncorrectable word at `addr` and lost `n` events that it can count (R92, log entry 10). -/
def State.poison (s : State) (addr n : Nat) : State :=
  (((s.set F.WHEEL_STAT_POISON 1).wr R.WHEEL_POISON_ADDR (BitVec.ofNat 32 (addr - 0x20000000))).countBy
    R.WHEEL_POISON_LOST n).useEntries (-(n : Int))

/-- Read the event of pool entry `e`: none when its word is uncorrectable or its NEXT names no entry (R70, R92). -/
def State.readEvent (s : State) (e : Nat) : State × Option (BitVec 64) :=
  let p := s.memRead 8 (poolAddr e)
  match p.2 with
  | some v => (p.1, if badIndex (dbits v 21 0) then none else some v)
  | none => (p.1, none)

/-- Read the descriptor of queue (b, l) as (HEAD, TAIL, COUNT): none when its word counts as uncorrectable (R69, R70). -/
def State.readDesc (s : State) (b l : Nat) : State × Option (Nat × Nat × Nat) :=
  let p := s.memRead 8 (descAddr b l)
  match p.2 with
  | some v =>
    let h := dbits v 63 42
    let t := dbits v 41 20
    (p.1, if badIndex h || badIndex t then none else some (h, t, dbits v 19 8))
  | none => (p.1, none)

/-- Reset a descriptor to empty. -/
def State.emptyQueue (s : State) (b l : Nat) : State := (s.memWrite (descAddr b l) emptyDesc).setOcc b l false

/-! ## Answers and ports (R72, R73, R78) -/

/-- The port of a source (R72, R164). -/
def insertPort : InsertSource → Nat
  | .drone d => d.val
  | .engine e _ _ => if e.val < 128 then 24 + e.val / 32 else if e.val < 132 then 24 + (e.val - 128) else e.val - 132
  | .ivwyn _ _ => 4
  | .chain => 5
  | .fabric p => 8 + p.val

/-- The drone whose INS_STAT an insert of this source shows in (R164). -/
def insertDrone? : InsertSource → Option Nat
  | .drone d => some d.val
  | .engine e _ _ => if 132 ≤ e.val then some (e.val - 132) else none
  | _ => none

/-- The insert registers of drone `d`. -/
def State.droneIns (s : State) (d : Nat) : DroneInsert := Sparse.get (fun _ => {}) s.wheel.drones d

/-- Put the insert registers of drone `d`. -/
def State.setDroneIns (s : State) (d : Nat) (v : DroneInsert) : State :=
  { s with wheel := { s.wheel with drones := Sparse.put (fun _ => {}) s.wheel.drones d v } }

/-- A general register of an engine in the bank in use (R143, R144). -/
def Engine.reg (g : Engine) (i : Nat) : Word := Sparse.get (fun _ => 0) g.regs ((if g.st.getLsbD 4 then 16 else 0) + i)

/-- Write a general register of the bank in use. -/
def Engine.setReg (g : Engine) (i : Nat) (v : Word) : Engine :=
  { g with regs := Sparse.put (fun _ => 0) g.regs ((if g.st.getLsbD 4 then 16 else 0) + i) v }

/-- Answer a request of session `x`: the response is kept among the 16 most recent and sent; a request that was being worked leaves
the queue (R269, R273). -/
def State.ivwAnswer (s : State) (x type status txn : Nat) (body : List Nat) : State :=
  let k := s.session x
  let head := k.queue.head?.filter fun q => q.txn == txn
  let k1 := { k with
    retained := (⟨type, status, txn, body⟩ :: k.retained.filter fun r => r.txn != txn).take 16,
    queue := if head.isSome then k.queue.tail else k.queue, running := if head.isSome then false else k.running }
  (s.setSession x k1).ivwSend x ((head.map fun q => q.ip).getD k.fromIp) ((head.map fun q => q.port).getD k.fromPort) type 0x80 status txn body

/-- Port 4 answers an event of the INSERT of session `x` with code `c`. The last answer raises CLIMIT by 1 and sends the codes
(R269, R272). -/
def State.insertAnswer (s : State) (x txn c : Nat) : State :=
  let k := s.session x
  match k.queue with
  | q :: _ =>
    if k.running = true ∧ q.txn = txn ∧ q.type = 0x20 ∧ k.insertLeft ≠ 0 then
      let k1 := { k with insertLeft := k.insertLeft - 1, insertCodes := c :: k.insertCodes }
      if k.insertLeft = 1 then
        ((s.setSession x { k1 with climit := (k.climit + 1) % 2 ^ 32 }).ivwAnswer x 0x20 0 txn k1.insertCodes.reverse)
      else s.setSession x k1
    else s
  | [] => s

/-- Give result code `c` of an insert back to its source (R78). `held`: the insert had entered the FIFO, so that it counted as
outstanding. -/
def State.giveResult (s : State) (src : InsertSource) (held : Bool) (c : Nat) : State :=
  let s0 := match insertDrone? src with
    | some d =>
      let x := s.droneIns d
      s.setDroneIns d { x with code := c, waiting := if held then x.waiting - 1 else x.waiting }
    | none => s
  match src with
  | .drone _ | .chain => s0
  | .engine e rd wait =>
    let g := s0.engine e.val
    if held then
      if wait then
        if g.wait = .answer rd.val then
          s0.setEngine e.val { g.setReg rd.val (BitVec.ofNat 32 c) with wait := .none, inserts := g.inserts - 1, pc := g.pc + 4 }
        else s0.setEngine e.val { g with inserts := g.inserts - 1 }
      else s0.setEngine e.val { g with answers := g.answers ++ [c], inserts := g.inserts - 1 }
    else s0.setEngine e.val { g.setReg rd.val (BitVec.ofNat 32 c) with pc := g.pc + 4 }
  | .ivwyn i txn => s0.insertAnswer i.val txn c
  | .fabric p =>
    let n := Sparse.get (fun _ => 0) s0.wheel.results p.val / 16
    { s0 with wheel := { s0.wheel with results := Sparse.put (fun _ => 0) s0.wheel.results p.val ((n + 1) % 4096 * 16 + c) } }

/-- Inserts that wait in the FIFO of port `p`. -/
def State.portFifo (s : State) (p : Nat) : List Insert := Sparse.get (fun _ => []) s.wheel.ports p

/-- Put the FIFO of port `p`. -/
def State.setPortFifo (s : State) (p : Nat) (l : List Insert) : State :=
  { s with wheel := { s.wheel with ports := Sparse.put (fun _ => []) s.wheel.ports p l } }

/-- Offer an insert at its source's port: into the FIFO, or BUSY when the FIFO holds 8 (R73, R78). -/
def State.offer (s : State) (i : Insert) : State :=
  let p := insertPort i.src
  if 8 ≤ (s.portFifo p).length then (s.count (R.WHEEL_PORT_BUSY p)).giveResult i.src false 3
  else
    let s1 := s.setPortFifo p (s.portFifo p ++ [i])
    match insertDrone? i.src with
    | some d => s1.setDroneIns d { s1.droneIns d with waiting := (s1.droneIns d).waiting + 1 }
    | none => s1

/-- Inserts that wait outside the FIFO of port `p`. -/
def State.portWaiting (s : State) (p : Nat) : List Insert := Sparse.get (fun _ => []) s.wheel.waiting p

/-- Put them. -/
def State.setPortWaiting (s : State) (p : Nat) (l : List Insert) : State :=
  { s with wheel := { s.wheel with waiting := Sparse.put (fun _ => []) s.wheel.waiting p l } }

/-- An event of Emnodric entered the FIFO of port 5: its credit goes back to the link partner (R281, R286). -/
def State.creditBack (s : State) (src : InsertSource) : State :=
  match src, s.emn.evtPorts with
  | .chain, q :: r =>
    let s1 := { s with emn := { s.emn with evtPorts := r } }
    match q with
    | some p => s1.sendUrgent p (.urgent 7 (s.get F.EMN_POS_POS) 0 [0, 1, 0, 0, 0, 0, 0])
    | none => s1
  | _, _ => s

/-- Offer an insert of a source that waits on BUSY, ports 4 and 5: while the FIFO is full it waits, in order (R72, R272, R286,
log entry 21). -/
def State.offerWait (s : State) (i : Insert) : State :=
  let p := insertPort i.src
  if 8 ≤ (s.portFifo p).length ∨ s.portWaiting p ≠ [] then
    (s.count (R.WHEEL_PORT_BUSY p)).setPortWaiting p (s.portWaiting p ++ [i])
  else (s.offer i).creditBack i.src

/-- The FIFO of port `p` has room again: the oldest insert that waits there enters it. -/
def State.offerNext (s : State) (p : Nat) : State :=
  match s.portWaiting p with
  | [] => s
  | i :: r => if 8 ≤ (s.portFifo p).length then s else ((s.setPortWaiting p r).offer i).creditBack i.src

/-- The count of a taken or rejected insert at its port (R78, R96, R97). -/
def State.portResult (s : State) (i : Insert) (c : Nat) : State :=
  let p := insertPort i.src
  if c ≤ 2 then s.wrap (R.WHEEL_PORT_ACCEPTED p) 1
  else
    let s1 := ((s.count (R.WHEEL_PORT_REJECTED p)).wr (R.WHEEL_PORT_LAST p)
      (BitVec.ofNat 32 (c * 2 ^ 28 + i.lane * 2 ^ 20 + i.bin))).raise 685
    if p = 5 then s1.raise 775 else s1

/-! ## Delivery (R82, R94, R95) -/

/-- Add an entry to the notify FIFO (R94). Source 681 is raised as the FIFO becomes non-empty; whether each later entry raises it too,
where R94 and R96 differ, is open (log entry 36). -/
def State.notifyAdd (s : State) (n : NotifyEntry) : State :=
  if 64 ≤ s.wheel.notify.length then (s.count R.WHEEL_NOTIFY_LOST).raise 682
  else
    let s1 := { s with wheel := { s.wheel with notify := s.wheel.notify ++ [n] } }
    if s.wheel.notify = [] ∨ Config.notifyEachEntry = true then s1.raise 681 else s1

/-- Hand an event to the drain input of its lane's pair (R82, R160), with its notification and MARK handling (R94, R95). -/
def State.handOver (s : State) (lane dom : Nat) (pos : Int) (ev : BitVec 64) (imm : Bool) : State :=
  let word := setDbits (setDbits ev 31 31 (if imm then 1 else 0)) 21 0
    ((pos.fdiv 4096 % 1024).toNat * 4096 + (pos % 4096).toNat)
  let x := s.pair (lane / 2)
  let s1 := s.setPair (lane / 2) { x with drain := x.drain ++ [⟨word, lane, dom, pos⟩] }
  let s2 := if dbits ev 30 30 = 1 then
      s1.notifyAdd ⟨dom, lane, (pos % 4096).toNat, dbits ev 39 32, dbits ev 53 52, dbits ev 63 60, dbits ev 59 54, imm⟩
    else s1
  if dbits ev 53 52 = 2 ∧ imm = false then
    let s3 := s2.raise 687
    if s3.bit F.WHEEL_MARK_TAG_EN && s3.get F.WHEEL_MARK_TAG_TAG == dbits ev 39 32 then s3.assertSnap 16 else s3
  else s2

/-- Whether the drain input of lane `l`'s pair has room (R82). -/
def State.drainRoom (s : State) (l : Nat) : Bool := decide ((s.pair (l / 2)).drain.length < 64)

/-! ## Linking an insert (R74-R80) -/

/-- Whether inserts are judged at all (R65, R77). -/
def State.wheelReady (s : State) : Bool := s.bit F.WHEEL_STAT_READY && s.drainState != 0

/-- The bin of the high-water position of domain `d`; not defined, a free value (R52, R75). -/
def State.hwBin (s : State) (d : Nat) : State × Nat :=
  match (s.dom d).hw with
  | some h => (s, (h % 4096).toNat)
  | none => (s.drawn, s.fresh % 4096)

/-- Link event `ev` into the queue of (bin, lane) (R70, R79): the state and the result code. -/
def State.link (s : State) (i : Insert) (closed : Bool) : State × Nat :=
  let p := s.readDesc i.bin i.lane
  let q : State × Nat × Nat × Nat := match p.2 with
    | some (h, t, c) => (p.1, h, t, c)
    | none => ((p.1.emptyQueue i.bin i.lane).poison (descAddr i.bin i.lane) 0, noEntry, noEntry, 0)
  let c := q.2.2.2
  if c = 4095 then (q.1, 8)
  else
    let r := q.1.popFree
    let e := r.2
    let s2 := r.1.memWrite (poolAddr e) (setDbits (setDbits i.ev 31 31 0) 29 0 noEntry)
    let w : State × Nat × Nat :=
      if c = 0 then (s2, e, 1)
      else
        let t := s2.readEvent q.2.2.1
        match t.2 with
        | some v => (t.1.memWrite (poolAddr q.2.2.1) (setDbits v 21 0 e), q.2.1, c + 1)
        | none => (t.1.poison (poolAddr q.2.2.1) c, e, 1)
    let s3 := (w.1.memWrite (descAddr i.bin i.lane) (packDesc w.2.1 e w.2.2)).setOcc i.bin i.lane true
    (s3, if closed then 1 else 0)

/-- Judge the insert at the head of a port FIFO (R79). None: it waits for room in the drain input. -/
def State.judge (s : State) (i : Insert) : Option (State × Nat) :=
  if !s.wheelReady then some (s, 12)
  else
    let dm := s.laneDom i.lane
    let d := dm - 1
    let act := dbits i.ev 63 60
    if dm = 0 then some (s, 9)
    else if 12 ≤ act ∧ act ≤ 14 then some (s, 10)
    else if s.wheel.flushLane = some i.lane then some (s, 11)
    else
      let p := s.hwBin d
      let dist := (p.2 + 4096 - i.bin) % 4096
      let closed := decide (dist < 2048)
      if dbits i.ev 31 31 = 1 ∧ closed = true then
        if s.drainState = 1 ∨ s.domReverse d = true ∨ s.domStalled d = true then some (p.1, 5)
        else if s.get (F.WHEEL_DOM_CTL_LATE_TOL d) < dist then some (p.1, 4)
        else if s.drainRoom i.lane then
          some (p.1.handOver i.lane dm (((s.dom d).hw.getD p.2) - dist) i.ev true, 2)
        else none
      else if s.rdN R.WHEEL_POOL_FREE = 0 then some (p.1, 6)
      else if s.rdN R.WHEEL_POOL_FREE ≤ s.rdN R.WHEEL_POOL_RESERVE ∧ s.bitAt R.WHEEL_PORT_PRIV (insertPort i.src) = false then
        some (p.1, 7)
      else some (p.1.link i closed)

/-- The next port that holds inserts, round robin after the port served last (R73). -/
def State.nextPort (s : State) : Option Nat :=
  ((List.range 28).map fun k => (s.wheel.turn + 1 + k) % 28).find? fun p => decide (s.portFifo p ≠ [])

/-- WHEEL_INSERT (R73-R80). The wheel takes the insert at the head of the next port FIFO and answers its source. -/
def execWheelInsert (s : State) : Out :=
  match s.nextPort with
  | none => .next s
  | some p =>
    let s0 := { s with wheel := { s.wheel with turn := p } }
    match s.portFifo p with
    | [] => .next s0
    | i :: r =>
      match s.judge i with
      | none => .next s0
      | some (s1, c) =>
        let s2 := { s1 with wheel := { s1.wheel with turn := p } }
        .next ((((s2.setPortFifo p r).offerNext p).portResult i c).giveResult i.src true c)

/-- A drone's write of INS_EV_HI offers its insert (R97). -/
def State.insEvHi (s : State) (d : Fin 4) (hi : Word) : State :=
  let x := s.droneIns d.val
  s.offer ⟨bitsOf x.addr 23 16, bitsOf x.addr 11 0, hi ++ x.evLo, .drone d⟩

/-! ## Draining (R81-R88) -/

/-- Detach the queue of lane `l` at bin `b` for position `pos` (R81, R92). -/
def State.detach (s : State) (d : Nat) (pos : Int) (b l : Nat) : State :=
  let p := s.readDesc b l
  match p.2 with
  | none => (p.1.emptyQueue b l).poison (descAddr b l) 0
  | some (h, _, c) =>
    let s1 := p.1.emptyQueue b l
    s1.setDom d { s1.dom d with detached := (s1.dom d).detached ++ [⟨l, pos, h, c, false⟩] }

/-- The positions of domain `d` whose delivery is incomplete although LP has entered a later bin, and which are not counted yet (R86). -/
def State.lagging (s : State) (d : Nat) : List Int :=
  let lp := posOf (s.lpAt d s.now)
  (((s.dom d).detached.filter fun q => !q.late && decide (q.pos < lp)).map fun q => q.pos).eraseDups

/-- A bin still incomplete as LP enters the next one: each is counted once, with source 686 (R86, R96). -/
def State.drainLag (s : State) (d : Nat) : State :=
  let l := s.lagging d
  let s1 := s.setDom d { s.dom d with detached := (s.dom d).detached.map fun q => if l.contains q.pos then { q with late := true } else q }
  l.foldl (fun t _ => (t.count (R.WHEEL_DOM_DRAIN_LAG d)).raise 686) s1

/-- DRAIN_POSITION (R81, R84, R86-R88). At `t`, the drainer of domain `d` drains the next position when the lead point has passed
the high-water position and drains are on; in reverse motion nothing is drained. -/
def execDrainPosition (d : Fin 3) (t : Nat) (s : State) : Out :=
  let s := ((s.at_ t).moveLp d.val (max s.now t)).drainLag d.val
  match (s.dom d.val).hw with
  | none => .next s
  | some h =>
    if s.drainState = 2 ∧ s.domValid d.val = true ∧ s.domReverse d.val = false ∧ h < posOf (s.lpAt d.val s.now) then
      let b := ((h + 1) % 4096).toNat
      let s2 := (s.setDom d.val { s.dom d.val with hw := some (h + 1) }).wrap (R.WHEEL_DOM_DRAINED d.val) 1
      let s3 := if b = 0 then s2.raise (678 + d.val) else s2
      .next (((List.range 256).foldl (fun u l =>
        if s.laneDom l = d.val + 1 ∧ s.occupied b l = true ∧ s.wheel.flushLane ≠ some l then u.detach d.val (h + 1) b l else u) s3).drainLag d.val)
    else .next s

/-- HELD_BIN_SKIP (R83, R87). At `t`, with drains held, HW follows LP and each bin passed is counted. -/
def execHeldBinSkip (d : Fin 3) (t : Nat) (s : State) : Out :=
  let s := ((s.at_ t).moveLp d.val (max s.now t)).drainLag d.val
  match (s.dom d.val).hw with
  | none => .next s
  | some h =>
    let lp := posOf (s.lpAt d.val s.now)
    if s.drainState = 1 ∧ s.domValid d.val = true ∧ h < lp then
      .next ((s.setDom d.val { s.dom d.val with hw := some lp }).countBy (R.WHEEL_DOM_SKIPPED d.val) (lp - h).toNat)
    else .next s

/-- The first detached queue whose next event can be delivered: the queues before it, itself, those after it (R82). -/
def State.firstReady (s : State) : List Detached → Option (List Detached × Detached × List Detached)
  | [] => none
  | q :: r =>
    if s.drainRoom q.lane then some ([], q, r)
    else (s.firstReady r).map fun x => (q :: x.1, x.2.1, x.2.2)

/-- EVENT_DELIVERY (R65, R81, R82, R86, R92). The drainer of domain `d` hands its next event over and frees the entry; a stopped wheel
does nothing. A bin that LP has left before this delivery is counted late. -/
def execEventDelivery (d : Fin 3) (s : State) : Out :=
  let s := if s.drainState = 0 then s else s.drainLag d.val
  match if s.drainState = 0 then none else s.firstReady (s.dom d.val).detached with
  | none => .next s
  | some (pre, q, post) =>
    let p := s.readEvent q.head
    match p.2 with
    | none =>
      let s1 := p.1.poison (poolAddr q.head) q.left
      .next (s1.setDom d.val { s1.dom d.val with detached := pre ++ post })
    | some v =>
      let rest := if q.left ≤ 1 then pre ++ post else pre ++ { q with head := dbits v 21 0, left := q.left - 1 } :: post
      let s1 := (p.1.handOver q.lane (d.val + 1) q.pos v false).freeEntry q.head
      .next (s1.setDom d.val { s1.dom d.val with detached := rest })

/-- DOMx_CTL.HW_RESET (R85): HW := LP while drains are on or held and the domain is valid. -/
def State.hwReset (s : State) (d : Nat) : State :=
  if s.drainState ≠ 0 ∧ s.domValid d = true then
    s.setDom d { s.dom d with hw := some (posOf (s.lpAt d s.now)) }
  else s

/-- The domains leave the stopped state: HW := LP where the domain is valid (R85). -/
def State.leaveStopped (s : State) : State := ((s.hwReset 0).hwReset 1).hwReset 2

/-! ## Initialisation and flush (R89, R91) -/

/-- WHEEL.CTL.INIT written 1 (R89). While drains are on it is refused with DOM_LOCKED. READY is 0 while it runs; in INIT mode
the drains are then stopped and keep no high-water position (R65). -/
def State.wheelInit (s : State) : State :=
  if s.drainState = 2 then s.set F.WHEEL_STAT_DOM_LOCKED 1
  else
    let s1 := (s.set F.WHEEL_STAT_READY 0).set F.WHEEL_CTL_INIT 1
    if s1.drainState = 0 then [0, 1, 2].foldl (fun t d => t.setDom d { t.dom d with hw := none, hwLost := (t.dom d).hwLost || (t.dom d).hw.isSome }) s1
    else s1

/-- WHEEL_INIT_DONE (R89). Every descriptor is empty, every entry in the free list in index order. -/
def execWheelInitDone (s : State) : Out :=
  if s.bit F.WHEEL_CTL_INIT then
    let was := s.drainState
    let s1 := { s with
      wheel := { s.wheel with inited := true, inited1 := true, front := [], next := 0, back := [], occ := [] },
      mem := Sparse.clear 0x4000000 0x4400000 s.mem }
    let s2 := [0, 1, 2].foldl (fun t d => t.setDom d { t.dom d with detached := [] }) s1
    let n := BitVec.ofNat 32 poolSize
    let s3 := ((s2.wr R.WHEEL_POOL_FREE n).wr R.WHEEL_POOL_IN_USE 0).wr R.WHEEL_POOL_MIN n
    let s4 := ((s3.set F.WHEEL_CTL_INIT 0).set F.WHEEL_STAT_READY 1).raise 689
    .next (if was = 0 then s4.leaveStopped else s4)
  else .next s

/-- Mark a queue of a lane that is flushed: STATE FLUSHING, its events still linked (R69, R91). -/
def State.markFlushing (s : State) (b l : Nat) : State :=
  match s.readDesc b l with
  | (s1, none) => (s1.emptyQueue b l).poison (descAddr b l) 0
  | (s1, some (h, t, c)) => s1.memWrite (descAddr b l) (packDescAs .flushing h t c)

/-- WHEEL.FLUSH.GO written 1: it starts the flush of LANE, whose queues are marked FLUSHING; while BUSY it is ignored (R91). That all of
them are marked at once and emptied at WHEEL_FLUSH_DONE is the model's choice (log entry 11). -/
def State.wheelFlush (s : State) : State :=
  if s.bit F.WHEEL_FLUSH_BUSY then s
  else
    let l := s.get F.WHEEL_FLUSH_LANE
    let s1 := (({ s with wheel := { s.wheel with flushLane := some l } }.set F.WHEEL_FLUSH_BUSY 1).set F.WHEEL_FLUSH_GO 1)
    (List.range 4096).foldl (fun t b => if t.occupied b l then t.markFlushing b l else t) s1

/-- Return `n` events of a list from entry `e` to the free list (R91, R92). -/
def State.freeList : Nat → Nat → State → State
  | 0, _, s => s
  | n + 1, e, s =>
    let p := s.readEvent e
    match p.2 with
    | none => p.1.poison (poolAddr e) (n + 1)
    | some v => State.freeList n (dbits v 21 0) (p.1.freeEntry e)

/-- Flush one queue (R91). -/
def State.flushQueue (s : State) (b l : Nat) : State :=
  let p := s.readDesc b l
  match p.2 with
  | none => (p.1.emptyQueue b l).poison (descAddr b l) 0
  | some (h, _, c) => (State.freeList c h p.1).emptyQueue b l

/-- WHEEL_FLUSH_DONE (R91, log entry 11). The lane's queues are emptied. -/
def execWheelFlushDone (s : State) : Out :=
  match s.wheel.flushLane with
  | none => .next s
  | some l =>
    let s1 := (List.range 4096).foldl (fun t b => if t.occupied b l then t.flushQueue b l else t) s
    .next (({ s1 with wheel := { s1.wheel with flushLane := none } }.set F.WHEEL_FLUSH_BUSY 0).set F.WHEEL_FLUSH_GO 0 |>.raise 688)

/-! ## Registers of the wheel that are computed or that act when read (R41, R94, R97) -/

/-- NOTIFY_A of the oldest entry (R102). -/
def State.notifyA (s : State) : Word :=
  match s.wheel.notify with
  | [] => 0
  | n :: _ => BitVec.ofNat 32 (2 ^ 31 + n.dom * 2 ^ 28 + n.lane * 2 ^ 20 + n.bin)

/-- NOTIFY_B of the oldest entry (R102). -/
def State.notifyB (s : State) : Word :=
  match s.wheel.notify with
  | [] => 0
  | n :: _ => BitVec.ofNat 32 (n.tag * 2 ^ 24 + n.kind * 2 ^ 22 + n.act * 2 ^ 18 + n.profile * 2 ^ 12 + if n.imm then 1 else 0)

/-- The notify entry leaves with the read of NOTIFY_B (R94). -/
def State.notifyPop (s : State) : State := { s with wheel := { s.wheel with notify := s.wheel.notify.tail } }

/-- The read of TIME_LO latches TIME_HI (R41). -/
def State.latchTime (s : State) : State := { s with wheel := { s.wheel with timeHi := BitVec.ofNat 32 (s.now / 2 ^ 32) } }

/-- LANE_DOMk written (R62): a change takes effect only while drains are held; at any other time it sets DOM_LOCKED. -/
def State.laneDomWrite (s : State) (k : Nat) (v : Word) : State :=
  if s.rd (R.WHEEL_LANE_DOM k) = v then s
  else if s.drainState ≠ 1 then s.set F.WHEEL_STAT_DOM_LOCKED 1
  else s.wr (R.WHEEL_LANE_DOM k) v

/-- POOL_WARN written: source 683 when POOL_FREE falls below it by the write (R90). -/
def State.poolWarnWrite (s : State) (v : Word) : State :=
  let s1 := s.wr R.WHEEL_POOL_WARN v
  if s.rdN R.WHEEL_POOL_FREE < v.toNat ∧ s.rdN R.WHEEL_POOL_WARN ≤ s.rdN R.WHEEL_POOL_FREE then s1.raise 683 else s1

end Sys2Proof.Machine
end

