-- ==== Sys2Proof/Machine/Lane.lean ====
section
/-! DEFINITION. Sys2Proof/Machine/Lane.lean: the strand lanes: slot stores, frames, echoes, management words and blocks
(R112-R116, R161, R181-R222). -/
namespace Sys2Proof.Machine

/-! ## The frame grid (R112, R115, R182) -/

/-- Cycles of a frame. -/
abbrev frameCycles : Nat := 640

/-- The start of frame `f`: its first bit leaves the device (R182). -/
def startOf (f : Nat) : Nat := frameCycles * f - 1280

/-- The deadline of frame `f` (R182). -/
def deadlineOf (f : Nat) : Nat := frameCycles * f - 1600

/-- The due time of echo `f` (R198). -/
def dueOf (f : Nat) : Nat := frameCycles * f + 1600

/-- The frame being sent at time `t` (R115, R166). -/
def currentFrame (t : Nat) : Nat := (t + 1280) / frameCycles

/-- The earliest open frame at time `t`: its deadline is the next to come (R115). -/
def openFrame (t : Nat) : Nat := (t + 1600) / frameCycles + 1

/-! ## Lane state and status (R216, R220, R222) -/

abbrev L.off : Nat := 0
abbrev L.burst : Nat := 1
abbrev L.sending : Nat := 2
abbrev L.linked : Nat := 3
abbrev L.lost : Nat := 4

/-- STATE of lane `l`. -/
def State.laneState (s : State) (l : Nat) : Nat := s.get (F.LANE_STAT_STATE l)

/-- Put STATE. -/
def State.setLaneState (s : State) (l v : Nat) : State := s.set (F.LANE_STAT_STATE l) v

/-- Set event bit `b` of STAT [9:0]; source `l` is raised when the bit becomes 1 and its enable is 1 (R222). -/
def State.laneEvent (s : State) (l b : Nat) : State :=
  let was := s.bitAt (R.LANE_STAT l) b
  let s1 := s.setBitAt (R.LANE_STAT l) b
  if was = false ∧ s.bitAt (R.LANE_IRQ_EN l) b = true then s1.raise l else s1

/-- Whether lane `l` sends frames. -/
def State.laneSends (s : State) (l : Nat) : Bool := s.laneState l != L.off

/-- The partner named by lane `l`. -/
def State.partner (s : State) (l : Nat) : Nat := s.get (F.LANE_CFG_PARTNER l)

/-- Whether the pair of lane `l` is valid; an unpaired lane needs none (R212). -/
def State.pairValid (s : State) (l : Nat) : Bool :=
  let r := s.get (F.LANE_CFG_ROLE l)
  let p := s.partner l
  r == 0 || (s.partner p == l && ((r == 1 && s.get (F.LANE_CFG_ROLE p) == 2) || (r == 2 && s.get (F.LANE_CFG_ROLE p) == 1))
    && l / 32 != p / 32)

/-- Whether the mode forces SAFE frames (R26, R29, R30). -/
def State.forcesSafe (s : State) : Bool := !s.running || s.leaving

/-- SYS.SPARED.LANE_ALT follows the last accepted echoes of the STANDBY lanes (R215). -/
def State.laneAlt (s : State) : State :=
  let on := (List.range 256).any fun l => s.get (F.LANE_CFG_ROLE l) == 2 &&
    (match (s.lane l).heard with | some f => f.testBit 6 | none => false)
  if on ∧ s.bitAt R.SYS_SPARED 5 = false then s.engageSpare 5
  else if on = false ∧ s.bitAt R.SYS_SPARED 5 = true then s.releaseSpare 5
  else s

/-! ## The slot store (R115, R161, R192) -/

/-- Put the slot store of lane `l`, with its entry count. -/
def State.putStore (s : State) (l : Nat) (st : List SlotEntry) : State :=
  (s.setLane l { s.lane l with store := st }).set (F.LANE_STORE_COUNT l) st.length

/-- SLOT's offer of `word` for slot `slot` of lane `l`; `df` is the frame as a signed difference from the earliest open frame
(R161, R192). The answer is the code and rd+1. -/
def State.slotWrite (s : State) (l slot : Nat) (df : Int) (word : Word) : State × Nat × Word :=
  if bitsOf word 31 30 = 0 then (s, 1, 0)
  else
    let o := bitsOf word 23 14
    let w := if 640 ≤ o then setBitsOf word 23 14 (o - 640) else word
    let d := if 640 ≤ o then df + 1 else df
    let top : Int := (currentFrame s.now : Int) + 15 - openFrame s.now
    if d < 0 then (s, 4, word)
    else if top < d then (s, 5, word)
    else
      let f := openFrame s.now + d.toNat
      let st := (s.lane l).store
      match st.find? fun e => e.frame == f && e.slot == slot with
      | some e =>
        if e.word = w then (s, 1, 0)
        else if bitsOf w 23 14 < bitsOf e.word 23 14 then
          ((s.putStore l (st.map fun x => if x.frame = f ∧ x.slot = slot then ⟨f, slot, w⟩ else x)).count (R.LANE_COLLIDE l), 2, e.word)
        else (s.count (R.LANE_COLLIDE l), 3, word)
      | none =>
        if 32 ≤ st.length then (s.count (R.LANE_STORE_FULL l), 6, word)
        else (s.putStore l (st ++ [⟨f, slot, w⟩]), 0, 0)

/-- The commit of frame `f` on lane `l`: its 12 slots from the store (R116, R183, R193). -/
def State.commitLane (s : State) (l f : Nat) : State :=
  let st := (s.lane l).store
  let standby := s.get (F.LANE_CFG_ROLE l) = 2
  let words := (List.range 12).map fun k =>
    if standby then 0#32 else ((st.find? fun e => e.frame == f && e.slot == k).map fun e => e.word).getD 0#32
  let rest := if standby then [] else st.filter fun e => decide (f < e.frame)
  let s1 := if standby then s.countBy (R.LANE_DISCARDED l) st.length else s
  let s2 := s1.putStore l rest
  s2.setLane l { s2.lane l with committed := ((s2.lane l).committed.filter fun c => c.frame != f) ++ [⟨f, words, s.forcesSafe⟩] }

/-! ## Frames (R186-R194) -/

/-- The type of frame `f` on lane `l` when it is not a copy: 1 NORMAL, 2 SAFE, 3 MGMT (R193). -/
def State.ownType (s : State) (l : Nat) (words : List Word) (safe : Bool) : Nat :=
  if s.forcesSafe || safe || s.bit (F.LANE_CFG_FORCE_SAFE l) || s.laneState l == L.burst then 2
  else if s.bit (F.LANE_BLK_CTL_BUSY l) && words.all (fun w => bitsOf w 31 30 == 0) then 3
  else 1

/-- Whether a SNAP trigger was latched after the start of the frame before `f` (R188). -/
def State.snapBefore (s : State) (f : Nat) : Bool :=
  match s.snapAt with
  | some t => decide (startOf (f - 1) < t)
  | none => false

/-- FLAGS of a frame (R188): `mb` management block, `mirror` the type copied. -/
def State.frameFlags (s : State) (l f mirror : Nat) (mb : Bool) : Nat :=
  (if mb then 128 else 0) + (if s.snapBefore f then 64 else 0) + (if s.running then 32 else 0) +
  (if s.mode = M.runSpared then 16 else 0) + s.get (F.LANE_CFG_ROLE l) * 4 + mirror

/-- The management word of the next frame of lane `l`: a request that has not been sent yet, with DATA in a WRITE only, else NONE (R200,
R201). -/
def State.mgWord (s : State) (l : Nat) : Word :=
  match (s.lane l).mg with
  | some ⟨_, none⟩ => let v := s.rd (R.LANE_MG_REQ l); if bitsOf v 31 30 = 2 then v else v &&& 0xFFFF0000#32
  | _ => 0

/-- The block bytes as words (R203). -/
def State.blockWords (s : State) (l : Nat) : List Word := (List.range 12).map fun k => s.rd (R.LANE_BLK_DATA l k)

/-- The committed slots of frame `f`. -/
def State.committedOf (s : State) (l f : Nat) : Committed :=
  ((s.lane l).committed.find? fun c => c.frame == f).getD ⟨f, List.replicate 12 0#32, false⟩

/-- Frame `f` of lane `l` when it is no copy of its partner's (R193). -/
def State.ownFrame (s : State) (l f : Nat) : LaneFrame :=
  let c := s.committedOf l f
  let t := s.ownType l c.words c.safe
  let blk := s.bit (F.LANE_BLK_CTL_BUSY l) && t != 1
  ⟨f, t, s.frameFlags l f 0 blk, if t = 1 then c.words else if blk then s.blockWords l else List.replicate 12 0#32, s.mgWord l⟩

/-- Frame `f` of lane `l` as it is chosen at the start of its transmission (R193). -/
def State.frameOf (s : State) (l f : Nat) : LaneFrame :=
  let own := s.ownFrame l f
  if s.get (F.LANE_CFG_ROLE l) = 2 then
    if own.type = 2 ∧ (s.forcesSafe || (s.committedOf l f).safe || s.bit (F.LANE_CFG_FORCE_SAFE l) || s.laneState l == L.burst) = true
    then own
    else
      let p := s.partner l
      if s.laneSends p then
        let q := match (s.lane p).sent with
          | some x => if x.frame = f then x else s.ownFrame p f
          | none => s.ownFrame p f
        ⟨f, 4, s.frameFlags l f q.type (q.flags.testBit 7), q.words, s.mgWord l⟩
      else
        let blk := s.bit (F.LANE_BLK_CTL_BUSY l)
        ⟨f, 2, s.frameFlags l f 0 blk, if blk then s.blockWords l else List.replicate 12 0#32, s.mgWord l⟩
  else own

/-- Bytes 0-59 of a frame, and the CRC in bytes 60-63 (R186, R189). -/
def LaneFrame.bytes (x : LaneFrame) : List Nat :=
  let body := [0x10 + x.type, x.frame % 256, x.flags] ++ x.words.flatMap (fun w => bytesBE 4 w.toNat) ++
    bytesBE 4 (640 * x.frame % 2 ^ 32) ++ bytesBE 4 x.mgmt.toNat
  0xBC :: body ++ bytesBE 4 (crc32c body).toNat

/-- Send frame `x` on lane `l`: its code groups, the counters, the block and the management request that it carries (R184, R193, R201, R203,
R219). -/
def State.sendFrame (s : State) (l : Nat) (x : LaneFrame) : State :=
  let k := s.lane l
  let mg := match k.mg with
    | some ⟨tid, none⟩ => some ⟨tid, some x.frame⟩
    | m => m
  let s1 := s.setLane l { k with
    sent := some x, mg := mg, nextFrame := x.frame + 1, awaiting := k.awaiting ++ [x.frame],
    committed := k.committed.filter fun c => decide (x.frame < c.frame),
    line := (codeFrame k.disparity x.bytes).1, disparity := (codeFrame k.disparity x.bytes).2,
    burst := if s.laneState l = L.burst then k.burst - 1 else k.burst }
  let s2 := s1.wrap (R.LANE_FRAMES l) 1
  let s3 := if x.type = 2 then s2.wrap (R.LANE_SAFE_FRAMES l) 1 else s2
  if x.flags.testBit 7 ∧ x.type ≠ 4 then
    ((s3.set (F.LANE_BLK_CTL_BUSY l) 0).set (F.LANE_BLK_CTL_GO l) 0).set (F.LANE_BLK_CTL_SEQ l) (x.frame % 256)
  else s3

/-- Whether lane `l` may start: EN with a role that the lane can act on, in a mode in which lanes send (R8, R26, R216). -/
def State.laneStarts (s : State) (l : Nat) : Bool :=
  s.laneState l == L.off && s.bit (F.LANE_CFG_EN l) && s.get (F.LANE_CFG_ROLE l) != 3 && s.pairValid l && s.alive &&
  !s.leaving && s.domOn (14 + l / 64)

/-- Lane `l` enters SENDING with frame `f` as its first (R199, R216). -/
def State.startLane (s : State) (l f : Nat) : State :=
  let s1 := s.setLaneState l L.sending
  s1.setLane l { s1.lane l with firstFrame := f, nextFrame := f, missed := 0, linked := false }

/-- EN of lane `l` falls back to 0 with CFG_ERR: its pair is not valid (R212). -/
def State.refuseLane (s : State) (l : Nat) : State := (s.set (F.LANE_CFG_EN l) 0).laneEvent l 8

/-- Whether EN stands on a lane that is OFF, in a mode in which lanes send, while its pair is not valid: the loader may leave it so (R212). -/
def State.laneUnpaired (s : State) (l : Nat) : Bool :=
  s.laneState l == L.off && s.bit (F.LANE_CFG_EN l) && s.get (F.LANE_CFG_ROLE l) != 3 && !s.pairValid l && s.alive && !s.leaving &&
  s.domOn (14 + l / 64)

/-- FRAME_TRANSMIT_START (R183, R193, R212, R216). At the start of frame `f`, lane `l` chooses its frame and sends it; a lane whose EN
was set starts with it, or is refused when its pair is not valid. A lane in BURST sends its 16 frames and no more. -/
def execFrameTransmitStart (l : Fin 256) (f : Nat) (s : State) : Out :=
  let s := s.at_ (startOf f)
  let s1 := if s.laneStarts l.val then s.startLane l.val f else if s.laneUnpaired l.val then s.refuseLane l.val else s
  if s1.laneSends l.val = true ∧ (s1.lane l.val).nextFrame ≤ f ∧ (s1.laneState l.val ≠ L.burst ∨ 0 < (s1.lane l.val).burst) then
    .next (s1.sendFrame l.val (s1.frameOf l.val f))
  else .next s1

/-! ## Echoes (R195-R201, R206, R214) -/

/-- The frame an echo answers: LANE_TIME names the frame nearest to the one whose echo falls due next (R198, log entry 14). -/
def echoFrame (last laneTime : Nat) : Option Nat :=
  let g := (last + frameCycles - 1600) / frameCycles
  ([g, g + 1, g - 1, g - 2, g - 3, g - 4, g - 5, g - 6, g - 7, g - 8].find? fun f => 640 * f % 2 ^ 32 == laneTime % 2 ^ 32)

/-- The echo of frame `f` that lane `l` accepted on its own pair, if any. -/
def State.echoOf (s : State) (l f : Nat) : Option EchoRec := (s.lane l).echoes.find? fun e => e.frame == f

/-- Keep an echo, with those of earlier frames until 8 later frames have fallen due (R165, R198). -/
def State.keepEcho (s : State) (l : Nat) (e : EchoRec) : State :=
  let s1 := s.setLane l { s.lane l with echoes := e :: (s.lane l).echoes.filter fun x => decide (s.now < dueOf (x.frame + 8)) }
  s1.wr (R.LANE_ECHO_LAST l) (BitVec.ofNat 32 (e.flags % 256 * 2 ^ 16 + e.frame % 256 * 2 ^ 8 + if e.merged then 1 else 0))

/-- The response of a management word in an accepted echo (R201, R206). -/
def State.takeMg (s : State) (l f flags : Nat) (mgmt : Word) : State :=
  if flags.testBit 2 then
    let s1 := if bitsOf mgmt 31 30 = 2 ∧ bitsOf mgmt 23 16 = 8 then s.set (F.LANE_DELAY_L l) (bitsOf mgmt 6 0) else s
    match (s1.lane l).mg with
    | some ⟨tid, some g⟩ =>
      if g ≤ f ∧ f ≤ g + 2 ∧ bitsOf mgmt 29 24 = tid then
        (((s1.setLane l { s1.lane l with mg := none }).wr (R.LANE_MG_RESP l) mgmt).set (F.LANE_STAT_MG_PENDING l) 0).laneEvent l 6
      else s1
    | _ => s1
  else s

/-- The delay D that an echo measures, with `e` the lateness of its first bit: above 127 it reads as 255, not VALID; below 0 the spec states
no value and a free one is taken (R206, log entry 154). -/
def State.measureDelay (s : State) (l : Nat) (e : Int) : State :=
  let d := Int.tdiv (e + s.get (F.LANE_DELAY_L l)) 2
  if d < 0 then (s.drawn.set (F.LANE_DELAY_D l) (s.fresh % 256)).set (F.LANE_DELAY_VALID l) (s.fresh / 256 % 2)
  else if d ≤ 127 then (s.set (F.LANE_DELAY_D l) d.toNat).set (F.LANE_DELAY_VALID l) 1
  else (s.set (F.LANE_DELAY_D l) 255).set (F.LANE_DELAY_VALID l) 0

/-- Accept echo `f` on lane `l` (R198, R199, R206, R215, R218). -/
def State.acceptEcho (s : State) (l f flags : Nat) (e : Int) (sense : List Word) (mgmt : Word) : State :=
  let k := s.lane l
  let s1 := (s.keepEcho l ⟨f, flags, sense, false⟩).wrap (R.LANE_ECHO_OK l) 1
  let s2 := s1.setLane l { s1.lane l with missed := 0, heard := some flags, linked := true }
  let s3 := s2.measureDelay l e
  let st := s.laneState l
  let s4 := if st = L.sending ∨ st = L.lost then s3.setLaneState l L.linked else s3
  let s5 := if k.linked = false then s4.laneEvent l 0 else s4
  let s6 := if st = L.lost then s5.laneEvent l 3 else s5
  let s7 := if flags.testBit 0 then s6.count (R.LANE_SUBST l) else s6
  let s8 := match k.heard with
    | some o => if flags.testBit 7 && !o.testBit 7 then s7.laneEvent l 4 else s7
    | none => s7
  let s9 := if s.get (F.LANE_CFG_ROLE l) = 2 then
      let was := match k.heard with | some o => o.testBit 6 | none => false
      (if flags.testBit 6 && !was then s8.laneEvent l 5 else s8).laneAlt
    else s8
  s9.takeMg l f flags mgmt

/-- An echo frame by its 64 bytes (R195). -/
structure EchoFields where
  type : Nat
  seq : Nat
  flags : Nat
  sense : List Word
  laneTime : Nat
  mgmt : Word
  crcOk : Bool
deriving DecidableEq, Repr

/-- The fields of an echo frame, and whether its CRC is that of bytes 1-59 (R189, R195). -/
def EchoFields.ofBytes (b : List Nat) : EchoFields where
  type := b.getD 1 0
  seq := b.getD 2 0
  flags := b.getD 3 0
  sense := (List.range 12).map fun i => BitVec.ofNat 32 (numBE ((b.drop (4 + 4 * i)).take 4))
  laneTime := numBE ((b.drop 52).take 4)
  mgmt := BitVec.ofNat 32 (numBE ((b.drop 56).take 4))
  crcOk := crc32c ((b.drop 1).take 59) == BitVec.ofNat 32 (numBE ((b.drop 60).take 4))

/-- An echo that arrives is discarded: `reg` counts it, and ECHO_ERR is set (R218). -/
def State.discardEcho (s : State) (l reg : Nat) : State := (s.count reg).laneEvent l 1

/-- An echo frame whose bytes are read, its first bit having arrived at `t` (R198, R218). -/
def State.judgeEcho (s : State) (l t : Nat) (x : EchoFields) : State :=
  if x.crcOk = false ∨ x.type ≠ 0x18 then s.discardEcho l (R.LANE_ECHO_BAD l)
  else
    match echoFrame (t + 640) x.laneTime with
    | none => s.discardEcho l (R.LANE_ECHO_MISMATCH l)
    | some f =>
      if x.seq ≠ f % 256 ∨ (s.lane l).nextFrame ≤ f then s.discardEcho l (R.LANE_ECHO_MISMATCH l)
      else if dueOf f ≤ t + 640 then s.discardEcho l (R.LANE_ECHO_LATE l)
      else if (s.lane l).awaiting.contains f = false then s.discardEcho l (R.LANE_ECHO_MISMATCH l)
      else if (s.echoOf l f).isSome then s
      else s.acceptEcho l f x.flags ((t : Int) - (640 * f + 672)) x.sense x.mgmt

/-- ECHO_RECEIVE (R184, R185, R195, R198, R218). The 64 code groups of an echo frame whose first bit arrives at `t`: the receiver reads them
at its running disparity, which carries on from one frame to the next; after an invalid frame it aligns anew (log entry 13). A lane whose
domain is not ON, or before INIT, hears nothing. -/
def execEchoReceive (l : Fin 256) (t : Nat) (groups : List (BitVec 10)) (s : State) : Out :=
  let s := s.at_ (t + 640)
  let n := l.val
  if s.alive = false ∨ s.domOn (14 + n / 64) = false then .next s
  else
    match readFrame (s.lane n).rx (groups.map BitVec.toNat) with
    | none => .next ((s.setLane n { s.lane n with rx := none }).discardEcho n (R.LANE_ECHO_BAD n))
    | some (b, d) => .next ((s.setLane n { s.lane n with rx := some d }).judgeEcho n t (EchoFields.ofBytes b))

/-- ECHO_DUE (R198, R199, R214, R218). At the due time of echo `f`, a frame whose echo was not accepted counts as missed; the
primary lane of a pair takes the partner's sense words; the third miss in a row of a LINKED lane makes it LOST. -/
def execEchoDue (l : Fin 256) (f : Nat) (s : State) : Out :=
  let s := s.at_ (dueOf f)
  let n := l.val
  let k := s.lane n
  if k.awaiting.contains f then
    let s1 := s.setLane n { k with awaiting := k.awaiting.filter fun x => x != f }
    match s.echoOf n f with
    | some _ => .next s1
    | none =>
      let s2 := s1.count (R.LANE_ECHO_MISS n)
      let s3 := if s.get (F.LANE_CFG_ROLE n) = 1 then
          match s.echoOf (s.partner n) f with
          | some e => if e.merged then s2 else (s2.keepEcho n { e with merged := true }).count (R.LANE_MERGED n)
          | none => s2
        else s2
      let m := k.missed + 1
      let s4 := s3.setLane n { s3.lane n with missed := m }
      .next (if s.laneState n = L.linked ∧ 3 ≤ m then (s4.setLaneState n L.lost).laneEvent n 2 else s4)
  else .next s

/-- SENDING_TIMEOUT (R199). 256 frame periods after its first frame, a lane still in SENDING goes to LOST. -/
def execSendingTimeout (l : Fin 256) (t : Nat) (s : State) : Out :=
  let s := s.at_ t
  if s.laneState l.val = L.sending ∧ startOf (s.lane l.val).firstFrame + 256 * frameCycles ≤ t then
    .next ((s.setLaneState l.val L.lost).laneEvent l.val 2)
  else .next s

/-- MG_TIMEOUT (R201). At the due time of echo F + 2, a request without its response times out. -/
def execMgTimeout (l : Fin 256) (t : Nat) (s : State) : Out :=
  let s := s.at_ t
  let n := l.val
  match (s.lane n).mg with
  | some ⟨_, some g⟩ =>
    if dueOf (g + 2) ≤ t then
      .next ((((s.setLane n { s.lane n with mg := none }).set (F.LANE_STAT_MG_PENDING n) 0).count (R.LANE_MG_TIMEOUTS n)).laneEvent n 7)
    else .next s
  | _ => .next s

/-! ## Register writes of a lane (R201, R203, R216) -/

/-- A write of MG_REQ (R201): PARAM while a request is pending. -/
def State.mgReqWrite (s : State) (l : Nat) (v : Word) : State × Bool :=
  if s.bit (F.LANE_STAT_MG_PENDING l) then (s, true)
  else
    let p := s.mergeWrite (R.LANE_MG_REQ l) v
    if p.2 then p
    else ((p.1.setLane l { p.1.lane l with mg := some ⟨bitsOf v 29 24, none⟩ }).set (F.LANE_STAT_MG_PENDING l) 1, false)

/-- A write of BLK_CTL: GO sends the block, and is ignored while one waits (R203). -/
def State.blkCtlWrite (s : State) (l : Nat) (v : Word) : State :=
  if v.getLsbD 31 && !s.bit (F.LANE_BLK_CTL_BUSY l) then
    (s.set (F.LANE_BLK_CTL_BUSY l) 1).set (F.LANE_BLK_CTL_GO l) 1
  else s

/-- A write of BLK_DATAk; ignored while a block waits (R203). -/
def State.blkDataWrite (s : State) (l k : Nat) (v : Word) : State :=
  if s.bit (F.LANE_BLK_CTL_BUSY l) then s else s.wr (R.LANE_BLK_DATA l k) v

/-- A write of a lane's CFG (R212, R216): ROLE and PARTNER stay while EN = 1 or the lane is in BURST, and CFG_LOCKED is set; EN
is refused for a pair that is not valid; EN cleared starts the burst of 16 SAFE frames. -/
def State.laneCfgWrite (s : State) (l : Nat) (v : Word) : State × Bool :=
  let p := s.mergeWrite (R.LANE_CFG l) v
  let locked := s.bit (F.LANE_CFG_EN l) || s.laneState l == L.burst
  let moved := s.get (F.LANE_CFG_ROLE l) != p.1.get (F.LANE_CFG_ROLE l) || s.partner l != p.1.partner l
  let s1 := if locked && moved then
      ((p.1.set (F.LANE_CFG_ROLE l) (s.get (F.LANE_CFG_ROLE l))).set (F.LANE_CFG_PARTNER l) (s.partner l)).laneEvent l 9
    else p.1
  let was := s.bit (F.LANE_CFG_EN l)
  let now := s1.bit (F.LANE_CFG_EN l)
  if !was && now then
    if s1.pairValid l then (s1.set (F.LANE_DELAY_L l) 0, p.2)
    else (s1.refuseLane l, p.2)
  else if was && !now then
    if s1.laneState l = L.off ∨ s1.laneState l = L.burst then (s1, p.2)
    else ((s1.setLaneState l L.burst).setLane l { s1.lane l with burst := 16 }, p.2)
  else (s1, p.2)

/-- A lane goes OFF: electrical idle (R216). -/
def State.laneOff (s : State) (l : Nat) : State :=
  let s1 := s.setLaneState l L.off
  s1.setLane l { s1.lane l with burst := 0, missed := 0, linked := false }

/-- LANE_BURST_END (R212, R216). After the 16th SAFE frame the lane goes OFF, or on to SENDING when EN is set again; a pair that is no longer
valid then leaves it OFF with CFG_ERR. -/
def execLaneBurstEnd (l : Fin 256) (f : Nat) (s : State) : Out :=
  let s := s.at_ (startOf f)
  if s.laneState l.val = L.burst ∧ (s.lane l.val).burst = 0 ∧ (s.lane l.val).nextFrame ≤ f then
    .next (if s.bit (F.LANE_CFG_EN l.val) then (if s.pairValid l.val then s.startLane l.val f else (s.laneOff l.val).refuseLane l.val)
      else s.laneOff l.val)
  else .next s

end Sys2Proof.Machine
end

