-- ==== Sys2Proof/Machine/BistBase.lean ====
section
/-! DEFINITION. Sys2Proof/Machine/BistBase.lean: the record that a self-test slice leaves (R514, R516, R522-R526), and the slices that a
claim of a chanter cuts short (R518, R523). -/
namespace Sys2Proof.Machine

/-- Slice results (R526). -/
abbrev B.pass : Nat := 0
abbrev B.fail : Nat := 1
abbrev B.incomplete : Nat := 2
abbrev B.notStarted : Nat := 3

/-- Put the slice in progress, with STATE and what STAT shows of it (R526). -/
def State.putSlice (s : State) (x : Slice) (state : Nat) : State :=
  let s1 := { s with bist := { s.bist with slice := some x } }
  ((((s1.set F.BIST_STAT_STATE state).set F.BIST_STAT_MANUAL (if x.manual then 1 else 0)).set F.BIST_STAT_KIND x.kind).set
    F.BIST_STAT_ENTRY s.bist.entry).set F.BIST_STAT_UNIT x.unit

/-- A step of the signature register: x^64 + x^4 + x^3 + x + 1, with one response word (R517, log entry 178). -/
def misrStep (m r : BitVec 64) : BitVec 64 := ((m <<< 1) ^^^ (if m.getLsbD 63 then 0x1B#64 else 0#64)) ^^^ r

/-- The signature of the responses of a test sequence (R517). -/
def misrOf (responses : List (BitVec 64)) : BitVec 64 := responses.foldl misrStep 0xFFFFFFFFFFFFFFFF#64

/-- The shortest time of the test sequence of a kind, in ENG cycles: 60,000 and 40,000 cycles of scan test, 28.2 µs and 28.5 µs (R517). -/
def sliceTime (kind : Nat) : Nat :=
  match kind with
  | 1 => 60000
  | 2 => 40000
  | 6 => 11400
  | _ => 11280

/-- No slice is in progress. -/
def State.endSlice (s : State) : State := { s with bist := { s.bist with slice := none } }.set F.BIST_STAT_STATE 0

/-- The unit of slice `x` is taken at `t`: its budget starts (R516). -/
def State.sliceTaken (s : State) (x : Slice) (t : Nat) : State := s.putSlice { x with taken := some t } 2

/-- The next unit of the plan; at its end the plan wraps and LAP_S takes the time of the walk (R514). -/
def State.planNext (s : State) : State :=
  let b := s.bist
  if b.idx + 1 < s.get (F.BIST_PLAN_COUNT b.entry) then { s with bist := { b with idx := b.idx + 1 } }
  else
    let e := b.entry + 1
    if e = 256 ∨ s.get (F.BIST_PLAN_KIND (e % 256)) = 0 then
      { s with bist := { b with entry := 0, idx := 0, lapAt := s.now } }.wr R.BIST_LAP_S (BitVec.ofNat 32 ((s.now - b.lapAt) / 400000000))
    else { s with bist := { b with entry := e, idx := 0 } }

/-- The record of a seal: LAST, the signature, the counters and sources of its RESULT (R522). A unit whose slice was INCOMPLETE is due
again; every other outcome of a plan slice moves the plan on (R514, R524), and of a manual slice completes MAN_GO (R5, log entry 177). -/
def State.sealRecord (s : State) (x : Slice) (result cause : Nat) (misr : BitVec 64) : State :=
  let s1 := ((((s.set F.BIST_LAST_KIND x.kind).set F.BIST_LAST_RESULT result).set F.BIST_LAST_MANUAL (if x.manual then 1 else 0)).set
    F.BIST_LAST_CAUSE cause).set F.BIST_LAST_UNIT x.unit
  let s2 := (s1.wr R.BIST_MISR_LO (misr.truncate 32)).wr R.BIST_MISR_HI ((misr >>> 32).truncate 32)
  let u := x.kind * 65536 + x.unit
  let row := if result = B.incomplete then (if s2.bist.rowUnit = u then s2.bist.row + 1 else 1) else 0
  let s3 := { s2 with bist := { s2.bist with row := row, rowUnit := u } }
  let s4 :=
    if result = B.pass then (s3.wrap R.BIST_PASSES 1).raise 872
    else if result = B.fail then s3.count R.BIST_FAILS
    else if result = B.incomplete then
      let s5 := s3.count R.BIST_INCOMPLETES
      if row = 8 then s5.raise 874 else s5
    else (s3.count R.BIST_SKIPS).raise 877
  if x.manual then
    (if result = B.incomplete then { s4 with bist := { s4.bist with manual := some (x.kind, x.unit) } }
    else if s4.bist.manual.isSome then s4 else s4.set F.BIST_CTL_MAN_GO 0)
  else if result = B.incomplete then s4
  else s4.planNext

/-- Seal a slice that is cut short or never started: the signature it leaves is open (a free value). -/
def State.sealCut (s : State) (x : Slice) (result cause : Nat) : State :=
  (s.drawn.sealRecord x result cause (Config.freeValue s.free)).endSlice

/-- Seal a memory or tract slice: its restore follows (R516, R520, R521). -/
def State.sealRestore (s : State) (x : Slice) (result cause : Nat) (misr : BitVec 64) : State :=
  (s.sealRecord x result cause misr).putSlice { x with result := some result } 3

/-- The power domain of a unit (R438, R512). -/
def unitDomain (kind u : Nat) : Nat :=
  match kind with
  | 1 => 6 + (if u < 128 then u / 32 else u - 128)
  | 2 => 10
  | 3 => if u < 4096 then 11 else 12
  | 4 => 13
  | 5 => 2 + (2 * (u / 4 / 128) + u / 4 % 16 / 8)
  | _ => 2 + (2 * (u / 128) + u % 16 / 8)

/-- A claim in group `g` cuts short a slice that holds a lent chanter of the group or tests its idle spare (R518, R523, R131). -/
def State.cutForClaim (s : State) (g : Nat) : State :=
  match s.bist.slice with
  | some x =>
    if x.kind = 1 ∧ ((x.unit < 128 ∧ x.unit / 32 = g ∧ x.direct = false) ∨ x.unit = 128 + g) then s.sealCut x B.incomplete 2 else s
  | none => s

end Sys2Proof.Machine
end

