-- ==== Sys2Proof/Machine/Chanter.lean ====
section
/-! DEFINITION. Sys2Proof/Machine/Chanter.lean: commits, deadlines, checkpoints, claims and handovers of lane pairs, notes (R103-R137,
R174-R176). -/
namespace Sys2Proof.Machine

/-- Chanter states (R136). -/
abbrev C.running : Nat := 0
abbrev C.idle : Nat := 1
abbrev C.serving : Nat := 2
abbrev C.retired : Nat := 3
abbrev C.onLoan : Nat := 4
abbrev C.exception : Nat := 5

/-- Instruction memory of engine `e` (R11, R168, R169). -/
def engineBase (e : Nat) : Nat := if e < 132 then 0x40000000 + e * 0x8000 else 0x41000000 + (e - 132) * 0x20000

/-- Data memory of engine `e`. -/
def engineData (e : Nat) : Nat := engineBase e + if e < 132 then 0x4000 else 0x10000

/-- The initiator code of engine `e` in LAST_INFO (R510). -/
def engineIni (e : Nat) : Nat := if e < 132 then 7 else e - 132

/-- Engine `e` starts at an entry point (R174, R176): its registers are cleared, ENTRY gives the reason. -/
def State.startEngine (s : State) (e pc entry : Nat) : State :=
  let g := s.engine e
  let s1 := s.setEngine e { ({} : Engine) with
    on := true, pc := BitVec.ofNat 32 pc, entry := entry, exc := g.exc, berr := g.berr, berrAddr := g.berrAddr,
    inserts := g.inserts, answers := g.answers, posted := g.posted }
  if e < 132 then s1 else s1.setDrone (e - 132) { s1.drone (e - 132) with stack := [], wdRef := s.now, refire := [], restart := none }

/-- Engine `e` halts. -/
def State.haltEngine (s : State) (e : Nat) : State := s.setEngine e { s.engine e with on := false, wait := .none }

/-- Set event bit `b` of STAT [8:0] of chanter `n`; source 256 + n is raised when the bit becomes 1 and its enable is 1 (R133). -/
def State.chanterEvent (s : State) (n b : Nat) : State :=
  let was := s.bitAt (R.CHT_C_STAT n) b
  let s1 := s.setBitAt (R.CHT_C_STAT n) b
  if was = false ∧ s.bitAt (R.CHT_C_CTL n) b = true then s1.raise (256 + n) else s1

/-- The chanter to which pair `p` is attached (R127): its own, or the spare of its group. -/
def State.holder (s : State) (p : Nat) : Option Nat :=
  if s.get (F.CHT_C_STAT_PAIR p) = p then some p
  else if s.get (F.CHT_C_STAT_PAIR (128 + p / 32)) = p then some (128 + p / 32)
  else none

/-- The pair region of chanter `n` (R109). -/
def pairRegion (n : Nat) : Nat := engineData n + 0x1C00

/-! ## Notes (R132) -/

/-- Add a note of chanter `n`; whether it was added (R132). -/
def State.noteAdd (s : State) (x : Note) : State × Bool :=
  if 64 ≤ s.notes.length then (s.count R.CHT_NOTE_LOST, false)
  else ({ s with notes := s.notes ++ [x] }.chanterEvent x.chanter 8, true)

/-- NOTE_A of the oldest note (R137). -/
def State.noteA (s : State) : Word :=
  match s.notes with
  | [] => 0
  | n :: _ => BitVec.ofNat 32 (2 ^ 31 + n.chanter * 2 ^ 20 + n.kind * 2 ^ 16 + n.channel)

/-- NOTE_B of the oldest note (R137). -/
def State.noteB (s : State) : Word :=
  match s.notes with
  | [] => 0
  | n :: _ => n.value

/-- The note leaves with the read of NOTE_B (R132). -/
def State.notePop (s : State) : State := { s with notes := s.notes.tail }

/-! ## Claims (R127, R129-R131) -/

/-- What is written in place of word `i` of a pair region that is lost in a copy, from data `src`: a row entry becomes EMPTY, with a note
ROW_LOST of chanter `b`, a watch entry a MARK, which is no command, and a checkpoint source word 0 (R131, log entry 157). -/
def State.loseWord (s : State) (src dst b i : Nat) : State :=
  if i < 64 then
    let r := i / 4
    let tag := match (s.memRead 7 (src + 32 * r)).2 with | some w => dbits w 19 12 | none => 0
    ((s.memWrite (dst + 8 * i) 0).memWrite (dst + 32 * r + 16) 0).noteAdd ⟨b, 7, 0, BitVec.ofNat 32 (tag * 2 ^ 24 + r)⟩ |>.1
  else if i < 96 then s.memWrite (dst + 8 * i) (BitVec.ofNat 64 (2 * 2 ^ 52))
  else s.memWrite (dst + 8 * i) 0

/-- Copy the 128 words of a pair region from data `src` to the region at `dst` of chanter `b` (R127). The part of an uncorrectable word is
lost (R131, R499); a row entry is lost once. -/
def State.copyRegion (s : State) (src dst b : Nat) : State :=
  ((List.range 128).foldl (fun (a : State × List Nat) i =>
    let p := a.1.memRead 7 (src + 8 * i)
    match p.2 with
    | some v => (if i < 64 ∧ a.2.contains (i / 4) = true then p.1 else p.1.memWrite (dst + 8 * i) v, a.2)
    | none =>
      if i < 64 ∧ a.2.contains (i / 4) = true then (p.1, a.2)
      else (p.1.loseWord src dst b i, if i < 64 then a.2 ++ [i / 4] else a.2)) (s, [])).1

/-- A claim whose copy has begun: the pair region goes from chanter `a` to chanter `b` at the claim; `more` = the cycles that another copy takes
before it (R127, R131, log entry 16). -/
def State.addClaim (s : State) (c a b : Nat) (k : ClaimKind) (more : Nat := 0) : State :=
  let s1 := s.copyRegion (pairRegion a) (pairRegion b) b
  { s1 with claims := s1.claims ++ [{ chanter := c, kind := k, at_ := s.now + more, made := s.now }] }

/-- The word that a spine write to `a` also reaches while a claim waits: the pair region of the chanter that gives the pair is mirrored into
that of the chanter that takes it (R127). -/
def State.mirrorOf (s : State) (a : Nat) : Option Nat :=
  s.claims.findSome? fun x =>
    let own := pairRegion x.chanter
    let spare := pairRegion (128 + x.chanter / 32)
    let p := if x.kind = .retire ∨ x.kind = .loan then (own, spare) else (spare, own)
    if p.1 ≤ a ∧ a < p.1 + 0x400 then some (p.2 + (a - p.1)) else none

/-- Whether a claim of group `g` waits for its handover. -/
def State.claimWaits (s : State) (g : Nat) : Bool := s.claims.any fun x => x.chanter / 32 == g

/-- A chanter is claimed because it failed (R127, R131). With the spare on loan both copies, 640 ns, run before the boundary. Of two chanters of a
group that are claimed at the same moment, the lower-numbered gets the spare, whichever FRAME_COMMIT came first. `c` is the chanter that failed,
a spare included. -/
def State.claimFailed (s : State) (c : Nat) : State :=
  if 128 ≤ c then (s.set (F.CHT_GRP_SPARE_STATE (c - 128)) 3).raiseHold 2
  else
    let g := c / 32
    let sp := s.get (F.CHT_GRP_SPARE_STATE g)
    let mine := fun (x : Claim) => x.chanter / 32 == g && x.kind == .retire
    if s.claims.any (fun x => x.chanter == c && x.kind == .retire) then s
    else
      match s.claims.find? mine with
      | some x =>
        if c < x.chanter ∧ x.made = s.now ∧ s.bit (F.CHT_C_CTL_RETIRE x.chanter) = false then
          ({ s with claims := s.claims.filter fun y => !mine y }.addClaim c c (128 + g) .retire (x.at_ - x.made)).raiseHold 2
        else s.raiseHold 2
      | none =>
        if sp = 0 then
          let s := s.cutForClaim g
          { s with claims := s.claims.filter fun x => x.chanter / 32 != g }.addClaim c c (128 + g) .retire
        else if sp = 2 then
          let t := 32 * g + s.get (F.CHT_GRP_SERVED g)
          let s := s.cutForClaim g
          let s1 := if s.claims.any fun x => x.kind == .loanReturn && x.chanter == t then s else s.addClaim t (128 + g) t .loanReturn 128
          s1.addClaim c c (128 + g) .retire 128
        else s.raiseHold 2

/-- CTL.RETIRE written 1 on chanter `n` (R127, R131). RETIRE reads 1 until the handover. -/
def State.retireWrite (s : State) (n : Nat) : State :=
  if 128 ≤ n then s.set (F.CHT_GRP_REFUSED (n - 128)) 1
  else
    let g := n / 32
    if s.get (F.CHT_GRP_SPARE_STATE g) ≠ 0 ∨ s.claimWaits g = true then s.set (F.CHT_GRP_REFUSED g) 1
    else ((s.cutForClaim g).set (F.CHT_C_CTL_RETIRE n) 1).addClaim n n (128 + g) .retire

/-- A claim by the self-test controller, which takes pair `c` as a loan (R127, R131): refused unless the spare is IDLE. -/
def State.claimLoan (s : State) (c : Nat) : State × Bool :=
  let g := c / 32
  if s.get (F.CHT_GRP_SPARE_STATE g) ≠ 0 ∨ s.claimWaits g = true then (s.set (F.CHT_GRP_REFUSED g) 1, false)
  else (s.addClaim c c (128 + g) .loan, true)

/-- CTL.HANDBACK written 1 on chanter `n` (R130, R131): only a spare in SERVING gives its pair back. -/
def State.handbackWrite (s : State) (n : Nat) (testing : Bool) : State :=
  if n < 128 then s.set (F.CHT_GRP_REFUSED (n / 32)) 1
  else
    let g := n - 128
    let sp := s.get (F.CHT_GRP_SPARE_STATE g)
    if sp = 0 ∨ sp = 2 ∨ s.claimWaits g = true ∨ testing = true ∨ s.get (F.CHT_C_STAT_PAIR n) = 0xFF then s.set (F.CHT_GRP_REFUSED g) 1
    else
      let c := s.get (F.CHT_C_STAT_PAIR n)
      (s.set (F.CHT_C_CTL_HANDBACK n) 1).addClaim c n c .handback

/-- The end of a loan when its slice seals (R129): `failed` makes it a retirement at once, else the pair returns. -/
def State.endLoan (s : State) (c : Nat) (failed : Bool) : State :=
  let g := c / 32
  if s.get (F.CHT_GRP_SPARE_STATE g) = 2 ∧ s.get (F.CHT_C_STAT_STATE c) = C.onLoan then
    if failed then
      ((s.set (F.CHT_C_STAT_STATE c) C.retired).set (F.CHT_GRP_SPARE_STATE g) 1).engageSpare g
    else if s.claimWaits g then s
    else s.addClaim c (128 + g) c .loanReturn
  else { s with claims := s.claims.filter fun x => !(x.chanter == c && x.kind == .loan) }

/-- Attach pair `c` to chanter `b`, taking it from chanter `a`: MISS_RUN of `b` starts at 0 and `b` enters at 0x0004 (R127). -/
def State.attach (s : State) (c a b st entry : Nat) : State :=
  let s1 := (s.haltEngine a).set (F.CHT_C_STAT_PAIR a) 0xFF
  let s2 := ((s1.set (F.CHT_C_STAT_PAIR b) c).set (F.CHT_C_STAT_STATE b) st).set (F.CHT_C_STAT_MISS_RUN b) 0
  s2.startEngine b 4 entry

/-- One handover at its frame boundary (R127, R129, R130). -/
def State.handover (s : State) (x : Claim) : State :=
  let c := x.chanter
  let g := c / 32
  let sp := 128 + g
  match x.kind with
  | .retire =>
    let s1 := ((s.set (F.CHT_C_CTL_RETIRE c) 0).attach c c sp C.serving 3).set (F.CHT_C_STAT_STATE c) C.retired
    let s2 := (s1.set (F.CHT_GRP_SPARE_STATE g) 1).set (F.CHT_GRP_SERVED g) (c % 32)
    ((s2.chanterEvent c 1).chanterEvent sp 1).engageSpare g
  | .loan =>
    let s1 := (s.attach c c sp C.serving 4).set (F.CHT_C_STAT_STATE c) C.onLoan
    let s2 := (s1.set (F.CHT_GRP_SPARE_STATE g) 2).set (F.CHT_GRP_SERVED g) (c % 32)
    let s3 := match s2.bist.slice with
      | some y => if y.kind = 1 ∧ y.unit = c then s2.sliceTaken y s2.now else s2
      | none => s2
    (s3.chanterEvent c 1).chanterEvent sp 1
  | .loanReturn =>
    let s1 := (s.attach c sp c C.running 5).set (F.CHT_C_STAT_STATE sp) C.idle
    (s1.set (F.CHT_GRP_SPARE_STATE g) 0).chanterEvent sp 2
  | .handback =>
    let s1 := ((s.set (F.CHT_C_CTL_HANDBACK sp) 0).attach c sp c C.running 5).set (F.CHT_C_STAT_STATE sp)
      (if s.get (F.CHT_GRP_SPARE_STATE g) = 3 then C.retired else C.idle)
    let s2 := if s.get (F.CHT_GRP_SPARE_STATE g) = 3 then s1 else s1.set (F.CHT_GRP_SPARE_STATE g) 0
    (s2.chanterEvent sp 2).releaseSpare g

/-- PAIR_HANDOVER (R127, R129-R131). At the start of frame `f`, the claims of group `g` that are at least 320 ns (128 cycles) old
take effect, a returning loan first. -/
def execPairHandover (g : Fin 4) (f : Nat) (s : State) : Out :=
  let s := s.at_ (startOf f)
  let due := fun (x : Claim) => x.chanter / 32 == g.val && decide (x.at_ + 128 ≤ startOf f)
  .next ((s.claims.filter due).foldl State.handover { s with claims := s.claims.filter fun x => !due x })

/-! ## Commit and checkpoint (R116, R123, R125) -/

/-- The checkpoint of a lane at the commit of frame `f` (R125, R499): W0-W6 from the holder's data memory into LANEWORD of
slots 0-6, W7 with the frame and the CRC. An uncorrectable source word is written unreadable and counts as 0 in W7. -/
def State.checkpoint (s : State) (n lane f : Nat) : State :=
  let src := pairRegion n + 0x380 + (lane % 2) * 0x40
  let dst := fun i => 0x22000000 + (lane * 12 + i) * 0x100 + 0xF8
  let p := (List.range 7).foldl (fun (a : State × List Nat) i =>
    let r := a.1.memRead 7 (src + 8 * i)
    match r.2 with
    | some v => (r.1.memWrite (dst i) v, a.2 ++ bytesLE 8 v.toNat)
    | none => (r.1.setMemWord (dst i) gridUnwritten, a.2 ++ bytesLE 8 0)) (s, [])
  p.1.memWrite (dst 7) (BitVec.ofNat 32 f ++ crc32c p.2)

/-- The deadline monitor at frame `f` of pair `c` (R123): a completed frame clears MISS_RUN, a missed one counts; the second in a
row claims the chanter. Chanters execute only after the core switch (R139). -/
def State.deadline (s : State) (c f : Nat) : State :=
  match s.holder c with
  | none => s
  | some n =>
    if s.bit F.CLK_CTL_CORE = false then s
    else if (s.pair c).complete.contains f then s.set (F.CHT_C_STAT_MISS_RUN n) 0
    else
      let r := s.get (F.CHT_C_STAT_MISS_RUN n)
      let s1 := ((s.count (R.CHT_C_MISSES n)).set (F.CHT_C_STAT_MISS_RUN n) (min 2 (r + 1))).chanterEvent n 0
      if r = 1 then s1.claimFailed n else s1

/-- FRAME_COMMIT (R116, R123, R125). At the deadline of frame `f`, the commit unit commits both lanes of pair `c`, writes their
checkpoints and judges the deadline. -/
def execFrameCommit (c : Fin 128) (f : Nat) (s : State) : Out :=
  let s := s.at_ (deadlineOf f)
  let p := s.pair c.val
  if s.alive = true ∧ p.last ≤ f then
    let s1 := (s.commitLane (2 * c.val) f).commitLane (2 * c.val + 1) f
    let s2 := match s.holder c.val with
      | some n => (s1.checkpoint n (2 * c.val) f).checkpoint n (2 * c.val + 1) f
      | none => s1
    let s3 := s2.deadline c.val f
    let q := s3.pair c.val
    .next (s3.setPair c.val { q with last := f + 1, complete := q.complete.filter fun k => decide (f < k) })
  else .next s

/-- An exception of chanter `n` (R180): the record, the halt, and the claim. -/
def State.chanterException (s : State) (n : Nat) (rec : Word) : State :=
  let s1 := ((s.haltEngine n).set (F.CHT_C_STAT_STATE n) C.exception).wr (R.CHT_C_EXC_PC n) rec
  (s1.chanterEvent n 7).claimFailed n

end Sys2Proof.Machine
end

