-- ==== Sys2Proof/Machine/Irq.lean ====
section
/-! DEFINITION. Sys2Proof/Machine/Irq.lean: choosing and taking interrupt sources, drone interrupt entry, exceptions of engines,
drone watchdogs, restarts and retirement (R177-R180, R472-R486). -/
namespace Sys2Proof.Machine

/-- One second of wheel time (R483). -/
abbrev secCycles : Nat := 400000000

/-- The drone levels of R144. -/
abbrev Lv.base : Nat := 0
abbrev Lv.normal : Nat := 1
abbrev Lv.fast : Nat := 2

/-- LEVEL of drone `d` (R144). -/
def State.level (s : State) (d : Nat) : Nat := bitsOf (s.engine (132 + d)).st 6 5

/-- Whether drone `d` executes instructions: started, not halted, its domain ON. -/
def State.droneRuns (s : State) (d : Nat) : Bool := (s.engine (132 + d)).on && s.domOn 10

/-- Whether the pending raise `x` of a source may be taken at the level of drone `d` (R177). -/
def State.mayTake (s : State) (d : Nat) (fast : Bool) : Bool :=
  let st := (s.engine (132 + d)).st
  if fast then st.getLsbD 8 && s.level d != Lv.fast else st.getLsbD 7 && s.level d == Lv.base

/-- Whether source `n`, pending with class `f` and priority `p`, goes before the best found so far (R476, R477). -/
def goesBefore (refire : List Nat) (n : Nat) (f : Bool) (p : Nat) (best : Option (Nat × Bool × Nat)) : Bool :=
  match best with
  | none => true
  | some (m, g, q) =>
    if f != g then f
    else if refire.contains n != refire.contains m then refire.contains n
    else if p ≠ q then decide (q < p)
    else decide (n < m)

/-- The source drone `d` takes next, with its class (R476, R477). -/
def State.choose (s : State) (d : Nat) : Option (Nat × Bool) :=
  (s.irq.foldl (fun best e =>
    let n := e.1 / 4
    if e.1 % 4 = d ∧ e.2.pend = true ∧ s.bit (F.IRQ_SRC_CFG_EN n) = true ∧ s.mayTake d e.2.fast = true ∧
        goesBefore (s.drone d).refire n e.2.fast (s.get (F.IRQ_SRC_CFG_PRIO n)) best = true
    then some (n, e.2.fast, s.get (F.IRQ_SRC_CFG_PRIO n)) else best) none).map fun x => (x.1, x.2.1)

/-- Whether a pending enabled source wakes DRN: a drone in WAITI may take it by its class and the drone's IE_N, IE_F and LEVEL (R478). -/
def State.drnWakes (s : State) : Bool :=
  [0, 1, 2, 3].any fun d => (s.engine (132 + d)).on && decide ((s.engine (132 + d)).wait = .irq) && (s.choose d).isSome

/-- Take source `n` on drone `d`: pending to active, pushed onto the priority stack (R476). -/
def State.takeSource (s : State) (n d : Nat) (fast : Bool) : State :=
  let s1 := s.setSlot n d { s.slot n d with pend := false, act := true, fast := fast }
  let x := s1.drone d
  s1.setDrone d { x with stack := (n, fast) :: x.stack, refire := x.refire.filter fun m => m != n }

/-! ## Failure, restart and retirement of drones (R180, R482-R486) -/

/-- Clear the active bits of drone `d`, counted in ABANDONED (R478, R484). -/
def State.abandon (s : State) (d : Nat) : State :=
  s.irq.foldl (fun t e =>
    if e.1 % 4 = d ∧ e.2.act = true then
      (t.setSlot (e.1 / 4) d { e.2 with act := false }).countField (F.IRQ_D_STAT_ABANDONED d) 1
    else t) s

/-- Move the pending raises of drone `d` that `p` selects to drone `k`. -/
def State.movePending (s : State) (d k : Nat) (p : Nat → Bool) : State :=
  s.irq.foldl (fun t e =>
    if e.1 % 4 = d ∧ e.2.pend = true ∧ p (e.1 / 4) = true then
      let n := e.1 / 4
      let t1 := t.setSlot n d { t.slot n d with pend := false }
      if (t1.slot n k).pend then t1.count (R.IRQ_D_COALESCED k)
      else t1.setSlot n k { t1.slot n k with pend := true, fast := e.2.fast }
    else t) s

/-- Step 2 of R484: the sources of drone `d` go to its successor with their pending bits; 904-906 pending on it and its active sources
are counted in ABANDONED. -/
def State.unroute (s1 : State) (d : Nat) : State :=
  let k := s1.successor d
  let lost := fun n => n == 904 || n == 905 || n == 906
  let s2 := s1.movePending d k fun n => !lost n && !(decide (388 ≤ n) && decide (n ≤ 391))
  let s3 := s2.irq.foldl (fun t e =>
    if e.1 % 4 = d ∧ e.2.pend = true ∧ lost (e.1 / 4) = true then
      (t.setSlot (e.1 / 4) d { t.slot (e.1 / 4) d with pend := false }).countField (F.IRQ_D_STAT_ABANDONED d) 1
    else t) s2
  (s3.abandon d).setDrone d { s3.drone d with stack := [], restart := none, refire := [] }

/-- Routing returns to drone `d` with the pending bits of its sources (R485). -/
def State.reroute (s : State) (d : Nat) : State :=
  ([0, 1, 2, 3].filter fun k => k != d).foldl (fun t k => t.movePending k d fun n => s.get (F.IRQ_SRC_CFG_TARGET n) == d && !(decide (388 ≤ n) && decide (n ≤ 391)) && n != 904 && n != 905 && n != 906) s

/-- Retire drone `d` (R484). -/
def State.retireDrone (s : State) (d : Nat) : State :=
  let s1 := ((s.haltEngine (132 + d)).set (F.IRQ_D_STAT_RETIRED d) 1).set (F.IRQ_D_STAT_REASON d) 0xF
  (((s1.unroute d).raiseDroneEvent d).raiseFor 910 (s1.successor d)).engageSpare 4

/-- Drone `d` fails at the present moment: a watchdog expiry (`entry` = 1) or an exception (`entry` = 2). The second within 1 s
retires it, unless another drone is retired (R180, R482, R483, R486). -/
def State.droneFail (s : State) (d entry : Nat) : State :=
  let x := s.drone d
  let again := match x.lastExpiry with
    | some t => decide (s.now - t < secCycles)
    | none => false
  let s1 := (s.haltEngine (132 + d)).setDrone d { x with lastExpiry := some s.now }
  if again then
    if [0, 1, 2, 3].any fun k => s.retired k then
      let s2 := s1.setDrone d { s1.drone d with restart := some entry }
      ((s2.raiseDroneEvent d).set (F.IRQ_D_STAT_NOT_RETIRED d) 1).raiseHold 2
    else s1.retireDrone d
  else (s1.setDrone d { s1.drone d with restart := some entry }).raiseDroneEvent d

/-- An engine exception with cause `k` at its PC (R179, R180). -/
def State.exception (s : State) (e k : Nat) : State :=
  let g := s.engine e
  let r := BitVec.ofNat 32 (k * 2 ^ 28 + g.pc.toNat % 2 ^ 16)
  let s1 := s.setEngine e { g with exc := r, wait := .none }
  if e < 132 then s1.chanterException e r else s1.droneFail (e - 132) 2

/-- WATCHDOG_EXPIRY (R481-R483, R486). At `t`, PERIOD µs have passed since the last kick, entry or enable. Stalled accesses of the
drone are withdrawn. -/
def execWatchdogExpiry (d : Fin 4) (t : Nat) (s : State) : Out :=
  let s := s.at_ t
  let n := d.val
  let p := s.get (F.IRQ_D_WD_CFG_PERIOD n)
  let x := s.drone n
  if s.bit (F.IRQ_D_WD_CFG_EN n) = true ∧ 10 ≤ p ∧ p ≤ 100000 ∧ s.alive = true ∧ x.halted = false ∧ s.retired n = false ∧
      s.testedDrone n = false ∧ s.domOn 10 = true ∧ x.restart = none ∧ x.wdRef + p * usCycles ≤ t then
    let g := s.engine (132 + n)
    let s1 := s.setEngine (132 + n) { g with posted := g.posted.filter fun q => match addrDomain q.addr with
      | some k => s.domOn k
      | none => true }
    let s1 : State := { s1 with stalls := s1.stalls.filter fun y => match y.by_ with
      | .access (.drone k) _ _ _ _ _ => k.val != n
      | .load e => e != 132 + n
      | .store e => e != 132 + n
      | _ => true }
    let to_ := if s1.targetOf 907 = n then s1.successor n else s1.targetOf 907
    .next (((s1.count (R.IRQ_D_WD_EXPIRIES n)).raiseFor 907 to_).droneFail n 1)
  else .next s

/-- Drone `d` enters through 0x0004 or 0x0000 (R176, R478, R482, R485, R539): REASON, RESTARTS, the active bits abandoned. -/
def State.enterDrone (s : State) (d pc entry : Nat) : State :=
  ((((s.abandon d).startEngine (132 + d) pc entry).set (F.IRQ_D_STAT_REASON d) entry).wrap (R.IRQ_D_RESTARTS d) 1)

/-- DRONE_RESTART (R482, R180). Within 50 µs of the expiry or exception, drone `d` restarts through 0x0004; the moment `t` within
the bound is open. -/
def execDroneRestart (d : Fin 4) (t : Nat) (s : State) : Out :=
  let s := s.at_ t
  match (s.drone d.val).restart with
  | some entry =>
    let s1 := s.enterDrone d.val 4 entry
    .next (if (s1.drone d.val).halted then s1.haltEngine (132 + d.val) else s1)
  | none => .next s

/-- A drone slice that is due takes its drone once that waits in WAITI at base level with an empty stack and no drone is retired: the
drone halts and its sources go to its successor (R519). -/
def State.droneSliceTry (s : State) : State :=
  match s.bist.slice with
  | some x =>
    let d := x.unit
    if x.kind = 2 ∧ x.direct = false ∧ x.taken = none ∧ (s.engine (132 + d)).wait = .irq ∧ s.level d = Lv.base ∧ (s.drone d).stack = [] ∧
        ([0, 1, 2, 3].any fun k => s.retired k) = false ∧ s.droneRuns d = true then
      ((s.haltEngine (132 + d)).unroute d).sliceTaken x s.now
    else s
  | none => s

/-- Dd_CTL.UNRETIRE written 1 (R485, R486): PARAM unless the drone is retired and not under test. -/
def State.unretire (s : State) (d : Nat) (testing : Bool) : State × Bool :=
  if s.retired d = false ∨ testing = true then (s, true)
  else
    let s1 := s.set (F.IRQ_D_STAT_RETIRED d) 0
    let s3 := ((s1.reroute d).enterDrone d 0 0).raiseDroneEvent d
    ((if [0, 1, 2, 3].any fun j => s3.retired j then s3 else s3.releaseSpare 4).droneSliceTry, false)

/-- Whether the count of drone `d` has run out (R481). -/
def State.wdOut (s : State) (d : Nat) : Bool := decide ((s.drone d).wdRef + s.get (F.IRQ_D_WD_CFG_PERIOD d) * usCycles ≤ s.now)

/-- A drone's write of its own WD_KICK (R481): only 0x0000_C0DE kicks. A kick in the cycle of the expiry leaves the expiry standing (R486). -/
def State.wdKick (s : State) (ini : Initiator) (d : Nat) (v : Word) : State × Bool :=
  if v = 0xC0DE#32 ∧ iniCode ini = d then
    (if s.bit (F.IRQ_D_WD_CFG_EN d) && s.wdOut d then s else s.setDrone d { s.drone d with wdRef := s.now }, false)
  else (s, true)

/-- A write of WD_CFG: EN stays 1 once set, and setting it starts the count (R481). -/
def State.wdCfgWrite (s : State) (d : Nat) (v : Word) : State × Bool :=
  let p := s.mergeWrite (R.IRQ_D_WD_CFG d) v
  if v.getLsbD 31 ∧ s.bit (F.IRQ_D_WD_CFG_EN d) = false then (p.1.setDrone d { p.1.drone d with wdRef := s.now }, p.2) else p

/-! ## Taking a source (R177, R178) -/

/-- Whether drone `d` is at an instruction boundary: no instruction in progress, or a WAITI, which is abandoned (R177). -/
def State.atBoundary (s : State) (d : Nat) : Bool :=
  s.droneRuns d && (match (s.engine (132 + d)).wait with | .none | .irq => true | _ => false)

/-- Whether a stack word lies in a drone's own data memory and is aligned (R178). -/
def stackOk (a : Nat) : Bool := decide (0x10000 ≤ a) && decide (a < 0x20000) && a % 8 == 0

/-- INTERRUPT_TAKE (R177, R178). At an instruction boundary, drone `d` takes the source it chooses when that is of class N: the
PC of the next instruction and ST go to G14 - 8, LEVEL becomes normal, execution goes on at 0x0008. -/
def execInterruptTake (d : Fin 4) (s : State) : Out :=
  match s.choose d.val with
  | some (n, false) =>
    if s.atBoundary d.val then
      let e := 132 + d.val
      let s1 := s.takeSource n d.val false
      let g := s1.engine e
      let sp := (g.reg 14 - 8#32).toNat
      if stackOk sp then
        let s2 := s1.memWrite (engineBase e + sp) (g.pc ++ g.st)
        .next (s2.setEngine e { g.setReg 14 (g.reg 14 - 8#32) with
          wait := .none, st := setBitsOf g.st 6 5 Lv.normal, pc := 0x8#32 })
      else .next (s1.exception e 6)
    else .next s
  | _ => .next s

/-- FAST_INTERRUPT_TAKE (R177). Drone `d` takes a source of class F: FPC and FST save PC and ST, BANK becomes F, LEVEL fast, and
execution goes on at 0x000C. -/
def execFastInterruptTake (d : Fin 4) (s : State) : Out :=
  match s.choose d.val with
  | some (n, true) =>
    if s.atBoundary d.val then
      let e := 132 + d.val
      let s1 := s.takeSource n d.val true
      let g := s1.engine e
      .next (s1.setEngine e { g with
        wait := .none, fpc := g.pc, fst := g.st, st := setBitsOf (setBitsOf g.st 6 5 Lv.fast) 4 4 1, pc := 0xC#32 })
    else .next s
  | _ => .next s

/-- Complete source `n` on drone `d`: the active bit clears, and a raise that came meanwhile is taken next (R477). -/
def State.completeSource (s : State) (n d : Nat) : State :=
  let x := s.slot n d
  let s1 := s.setSlot n d { x with act := false }
  let y := s1.drone d
  s1.setDrone d { y with stack := y.stack.tail, refire := if x.pend then n :: y.refire else y.refire }

/-! ## Interrupt registers (R473, R474, R478, R492, R493) -/

/-- PENDk or ACTIVEk: bit j of word k is source 32k + j, the OR over the drones that hold it (R474). -/
def State.irqWord (s : State) (k : Nat) (f : IrqSlot → Bool) : Word :=
  BitVec.ofNat 32 ((List.range 32).foldl (fun a j =>
    if [0, 1, 2, 3].any (fun d => f (s.slot (32 * k + j) d)) then a + 2 ^ j else a) 0)

/-- A W1C write of PENDk discards pending raises, on every drone that holds them (R474, R478). -/
def State.pendClear (s : State) (k : Nat) (v : Word) : State :=
  s.irq.foldl (fun t e =>
    let n := e.1 / 4
    if n / 32 = k ∧ v.getLsbD (n % 32) = true ∧ e.2.pend = true then t.setSlot n (e.1 % 4) { t.slot n (e.1 % 4) with pend := false }
    else t) s

/-- A write of RAISEk raises software sources 920-1023; other bits are ignored (R478). -/
def State.irqRaise (s : State) (k : Nat) (v : Word) : State :=
  (List.range 32).foldl (fun t j =>
    if v.getLsbD j = true ∧ 920 ≤ 32 * k + j ∧ 32 * k + j ≤ 1023 then t.raise (32 * k + j) else t) s

/-- Dd_STACK: the entries of the priority stack (R493). -/
def State.stackWord (s : State) (d : Nat) : Word :=
  match (s.drone d).stack with
  | [] => 0
  | [(n, _)] => BitVec.ofNat 32 (2 ^ 15 + n)
  | (m, _) :: (n, _) :: _ => BitVec.ofNat 32 (2 ^ 31 + m * 2 ^ 16 + 2 ^ 15 + n)

end Sys2Proof.Machine
end

