-- ==== Sys2Proof/Machine/Engine.lean ====
section
/-! DEFINITION. Sys2Proof/Machine/Engine.lean: how an engine issues an instruction, and the instructions on its own registers:
integer, predicate, accumulator and branch instructions (R138-R154). -/
namespace Sys2Proof

/-- Bits [hi:lo] of FN. -/
def FmtT.f (x : FmtT) (hi lo : Nat) : Nat := x.fn.val / 2 ^ lo % 2 ^ (hi + 1 - lo)

/-- Bits [hi:lo] of IMM14. -/
def FmtI.f (x : FmtI) (hi lo : Nat) : Nat := x.imm.val / 2 ^ lo % 2 ^ (hi + 1 - lo)

/-- IMM14 sign-extended. -/
def FmtI.sext (x : FmtI) : Word := (BitVec.ofNat 14 x.imm.val).signExtend 32

/-- IMM14 zero-extended. -/
def FmtI.zext (x : FmtI) : Word := BitVec.ofNat 32 x.imm.val

/-- The branch offset 4 × sext(IMM22) (R154). -/
def FmtJ.offset (x : FmtJ) : Word := (BitVec.ofNat 22 x.imm.val).signExtend 32 * 4#32

/-! ## Encoding (R147): COND [31:28], OP [27:22], then the fields of the format -/

/-- An instruction of format T: RD [21:18], RA [17:14], RB [13:10], FN [9:0]. -/
def FmtT.word (x : FmtT) (op : Nat) : Word :=
  BitVec.ofNat 32 (x.cond.val * 2 ^ 28 + op * 2 ^ 22 + x.rd.val * 2 ^ 18 + x.ra.val * 2 ^ 14 + x.rb.val * 2 ^ 10 + x.fn.val)

/-- An instruction of format I: RD [21:18], RA [17:14], IMM14 [13:0]. -/
def FmtI.word (x : FmtI) (op : Nat) : Word :=
  BitVec.ofNat 32 (x.cond.val * 2 ^ 28 + op * 2 ^ 22 + x.rd.val * 2 ^ 18 + x.ra.val * 2 ^ 14 + x.imm.val)

/-- An instruction of format L: RD [21:18], IMM18 [17:0]. -/
def FmtL.word (x : FmtL) (op : Nat) : Word :=
  BitVec.ofNat 32 (x.cond.val * 2 ^ 28 + op * 2 ^ 22 + x.rd.val * 2 ^ 18 + x.imm.val)

/-- An instruction of format J: IMM22 [21:0]. -/
def FmtJ.word (x : FmtJ) (op : Nat) : Word := BitVec.ofNat 32 (x.cond.val * 2 ^ 28 + op * 2 ^ 22 + x.imm.val)

end Sys2Proof

namespace Sys2Proof.Machine

/-! ## Issue (R138-R149, R168-R170, R179) -/

/-- A general register of engine `e`, in the bank in use. -/
def State.gr (s : State) (e i : Nat) : Word := (s.engine e).reg i

/-- Write a general register of engine `e`. -/
def State.setGr (s : State) (e i : Nat) (v : Word) : State := s.setEngine e ((s.engine e).setReg i v)

/-- Accumulator `i` of engine `e`, in the bank in use (R142, R143). -/
def State.accu (s : State) (e i : Nat) : Int :=
  Sparse.get (fun _ => 0) (s.engine e).acc ((if (s.engine e).st.getLsbD 4 then 2 else 0) + i)

/-- Write an accumulator. -/
def State.setAccu (s : State) (e i : Nat) (v : Int) : State :=
  let g := s.engine e
  s.setEngine e { g with acc := Sparse.put (fun _ => 0) g.acc ((if g.st.getLsbD 4 then 2 else 0) + i) v }

/-- Set a bit of ST. -/
def State.setSt (s : State) (e b : Nat) (v : Bool) : State :=
  let g := s.engine e
  s.setEngine e { g with st := setBitsOf g.st b b (if v then 1 else 0) }

/-- Predicate `p` of engine `e`. -/
def State.pred (s : State) (e p : Nat) : Bool := (s.engine e).st.getLsbD p

/-- On to the next instruction. -/
def State.step4 (s : State) (e : Nat) : State := s.setEngine e { s.engine e with pc := (s.engine e).pc + 4#32 }

/-- Go to an address. -/
def State.jump (s : State) (e : Nat) (a : Word) : State := s.setEngine e { s.engine e with pc := a }

/-- Whether engine `e` can issue an instruction: started, in the middle of none, its domain ON; a chanter only after the core
switch (R138, R139). -/
def State.engineRuns (s : State) (e : Nat) : Bool :=
  (s.engine e).on && decide ((s.engine e).wait = .none) && (decide (132 ≤ e) || s.bit F.CLK_CTL_CORE) &&
  s.domOn ((addrDomain (engineBase e)).getD 0)

/-- The guard that COND selects; none for a reserved code (R148). -/
def State.guard (s : State) (e cond : Nat) : Option Bool :=
  if cond = 0 then some true
  else if cond ≤ 4 then some (s.pred e (cond - 1))
  else if cond ≤ 8 then some (!s.pred e (cond - 5))
  else none

/-- Whether a fetched word names an instruction at all: an OP of the tables and a COND that is not reserved (R148-R157). The fill word
0x0000_0000 does not. -/
def wordDefined (w : Word) : Bool :=
  !([0x00, 0x1E, 0x1F, 0x25].contains (bitsOf w 27 22)) && decide (bitsOf w 31 28 ≤ 8)

/-- The instruction word at the PC of engine `e`: none when the memory word that holds it is uncorrectable (R147, R168, R169, R499). -/
def State.instrWord (s : State) (e : Nat) : State × Option Word :=
  let pc := (s.engine e).pc.toNat
  let p := s.memRead (engineIni e) (engineBase e + pc)
  (p.1, p.2.map fun (v : BitVec 64) => if pc % 8 < 4 then v.truncate 32 else (v >>> 32).truncate 32)

/-- Engine `e` issues the instruction that word `w` encodes: the fetch at its PC, with ACCESS outside instruction memory and POISON_I on an
uncorrectable word (R168-R170, R179, R499); ILLEGAL where the word fetched has an OP or a COND that names no instruction, or the encoding is
not `legal` (R149); nothing but the advance of the PC when the guard is false (R140); else `act`. An engine that does not run issues
nothing, and none issues an instruction that is not the one at its PC (log entry 47). -/
def State.issue (s : State) (e : Nat) (w : Word) (legal : Bool) (act : State → State) : State :=
  if s.engineRuns e then
    if (if e < 132 then 0x4000 else 0x10000) ≤ (s.engine e).pc.toNat then s.exception e 3
    else
      let p := s.instrWord e
      match p.2 with
      | none => p.1.exception e 4
      | some v =>
        if wordDefined v = false then p.1.exception e 1
        else if v ≠ w then s
        else
          match p.1.guard e (bitsOf w 31 28) with
          | none => p.1.exception e 1
          | some g =>
            if legal = false then p.1.exception e 1
            else if g then act p.1
            else p.1.step4 e
  else s

/-- An instruction whose whole effect is one register: rd := v. -/
def State.issueRd (s : State) (e : Nat) (w : Word) (rd : Fin 16) (legal : Bool) (v : State → Word) : Out :=
  .next (s.issue e w legal fun t => (t.setGr e rd.val (v t)).step4 e)

/-- The two operands of format T. -/
def State.opA (s : State) (e : Nat) (x : FmtT) : Word := s.gr e x.ra.val
def State.opB (s : State) (e : Nat) (x : FmtT) : Word := s.gr e x.rb.val

/-- sat32: a result outside 32 bits is replaced by the nearer limit; whether it was (R145). -/
def sat32 (v : Int) : Word × Bool :=
  if v < -2147483648 then (0x80000000#32, true)
  else if 2147483647 < v then (0x7FFFFFFF#32, true)
  else (BitVec.ofInt 32 v, false)

/-- sat48 (R145). -/
def sat48 (v : Int) : Int × Bool :=
  if v < -140737488355328 then (-140737488355328, true)
  else if 140737488355327 < v then (140737488355327, true)
  else (v, false)

/-- The relations of R151; none for the reserved code. -/
def rel (c : Nat) (a b : Word) : Option Bool :=
  match c with
  | 0 => some (a == b)
  | 1 => some (a != b)
  | 2 => some (a.slt b)
  | 3 => some (!a.slt b)
  | 4 => some (a.ult b)
  | 5 => some (!a.ult b)
  | 6 => some (a &&& b != 0)
  | _ => none

/-- The logical operations of R151. -/
def lop (c : Nat) (a b : Bool) : Bool :=
  match c with
  | 0 => a && b
  | 1 => a || b
  | 2 => a != b
  | 3 => a && !b
  | 4 => !a
  | 5 => a
  | 6 => false
  | _ => true

/-! ## Integer, compare and predicate instructions (R150-R152) -/

/-- NOP (R150). -/
def execNop (e : Fin 136) (x : FmtJ) (s : State) : Out := .next (s.issue e.val (x.word 0x01) (x.imm.val == 0) fun t => t.step4 e.val)

/-- ADD (R150). -/
def execAdd (e : Fin 136) (x : FmtT) (s : State) : Out :=
  s.issueRd e.val (x.word 0x02) x.rd (x.fn.val == 0) fun t => t.opA e.val x + t.opB e.val x

/-- SUB (R150). -/
def execSub (e : Fin 136) (x : FmtT) (s : State) : Out :=
  s.issueRd e.val (x.word 0x03) x.rd (x.fn.val == 0) fun t => t.opA e.val x - t.opB e.val x

/-- AND (R150). -/
def execAnd (e : Fin 136) (x : FmtT) (s : State) : Out :=
  s.issueRd e.val (x.word 0x04) x.rd (x.fn.val == 0) fun t => t.opA e.val x &&& t.opB e.val x

/-- OR (R150). -/
def execOr (e : Fin 136) (x : FmtT) (s : State) : Out :=
  s.issueRd e.val (x.word 0x05) x.rd (x.fn.val == 0) fun t => t.opA e.val x ||| t.opB e.val x

/-- XOR (R150). -/
def execXor (e : Fin 136) (x : FmtT) (s : State) : Out :=
  s.issueRd e.val (x.word 0x06) x.rd (x.fn.val == 0) fun t => t.opA e.val x ^^^ t.opB e.val x

/-- SHL by rb[4:0] (R150). -/
def execShl (e : Fin 136) (x : FmtT) (s : State) : Out :=
  s.issueRd e.val (x.word 0x07) x.rd (x.fn.val == 0) fun t => t.opA e.val x <<< ((t.opB e.val x).toNat % 32)

/-- SHR by rb[4:0] (R150). -/
def execShr (e : Fin 136) (x : FmtT) (s : State) : Out :=
  s.issueRd e.val (x.word 0x08) x.rd (x.fn.val == 0) fun t => t.opA e.val x >>> ((t.opB e.val x).toNat % 32)

/-- SRA by rb[4:0] (R150). -/
def execSra (e : Fin 136) (x : FmtT) (s : State) : Out :=
  s.issueRd e.val (x.word 0x09) x.rd (x.fn.val == 0) fun t => (t.opA e.val x).sshiftRight ((t.opB e.val x).toNat % 32)

/-- MUL: bits [31:0] of the product (R150). -/
def execMul (e : Fin 136) (x : FmtT) (s : State) : Out :=
  s.issueRd e.val (x.word 0x0A) x.rd (x.fn.val == 0) fun t => t.opA e.val x * t.opB e.val x

/-- MULH: bits [63:32] of the product; FN[0] = 1 unsigned (R150). -/
def execMulh (e : Fin 136) (x : FmtT) (s : State) : Out :=
  s.issueRd e.val (x.word 0x0B) x.rd (x.f 9 1 == 0) fun t =>
    let a := t.opA e.val x
    let b := t.opB e.val x
    if x.f 0 0 = 1 then BitVec.ofNat 32 (a.toNat * b.toNat / 2 ^ 32) else BitVec.ofInt 32 (Int.fdiv (a.toInt * b.toInt) (2 ^ 32))

/-- MIN; FN[0] = 1 unsigned (R150). -/
def execMin (e : Fin 136) (x : FmtT) (s : State) : Out :=
  s.issueRd e.val (x.word 0x0C) x.rd (x.f 9 1 == 0) fun t =>
    let a := t.opA e.val x
    let b := t.opB e.val x
    if (if x.f 0 0 = 1 then b.ult a else b.slt a) then b else a

/-- MAX; FN[0] = 1 unsigned (R150). -/
def execMax (e : Fin 136) (x : FmtT) (s : State) : Out :=
  s.issueRd e.val (x.word 0x0D) x.rd (x.f 9 1 == 0) fun t =>
    let a := t.opA e.val x
    let b := t.opB e.val x
    if (if x.f 0 0 = 1 then a.ult b else a.slt b) then b else a

/-- A signed division rounded toward zero into 32 bits (R152): the result, whether by zero, whether it saturated. -/
def divSat (a b : Int) : Word × Bool × Bool :=
  if b = 0 then (if 0 ≤ a then 0x7FFFFFFF#32 else 0x80000000#32, true, false)
  else
    let r := sat32 (Int.tdiv a b)
    (r.1, false, r.2)

/-- Write a division's result with ST.DZ and ST.OV (R152). -/
def State.putDiv (s : State) (e rd : Nat) (r : Word × Bool × Bool) : State :=
  let s1 := if r.2.1 then s.setSt e 10 true else s
  let s2 := if r.2.2 then s1.setSt e 11 true else s1
  (s2.setGr e rd r.1).step4 e

/-- DIV; FN[0] = 1 unsigned (R150, R152). -/
def execDiv (e : Fin 136) (x : FmtT) (s : State) : Out :=
  .next (s.issue e.val (x.word 0x0E) (x.f 9 1 == 0) fun t =>
    let a := t.opA e.val x
    let b := t.opB e.val x
    t.putDiv e.val x.rd.val
      (if x.f 0 0 = 1 then (if b = 0 then (0xFFFFFFFF#32, true, false) else (a / b, false, false)) else divSat a.toInt b.toInt))

/-- SEL (R150). -/
def execSel (e : Fin 136) (x : FmtT) (s : State) : Out :=
  s.issueRd e.val (x.word 0x0F) x.rd (x.f 9 2 == 0) fun t => if t.pred e.val (x.f 1 0) then t.opA e.val x else t.opB e.val x

/-- CMP: P[FN[1:0]] := REL(FN[4:2]) (R150, R151). -/
def execCmp (e : Fin 136) (x : FmtT) (s : State) : Out :=
  .next (s.issue e.val (x.word 0x10) (x.f 9 5 == 0 && x.rd.val == 0 && x.f 4 2 != 7) fun t =>
    (t.setSt e.val (x.f 1 0) ((rel (x.f 4 2) (t.opA e.val x) (t.opB e.val x)).getD false)).step4 e.val)

/-- PLOG (R150, R151). -/
def execPlog (e : Fin 136) (x : FmtT) (s : State) : Out :=
  .next (s.issue e.val (x.word 0x11) (x.f 9 3 == 0 && decide (x.rd.val < 4) && decide (x.ra.val < 4) && decide (x.rb.val < 4)) fun t =>
    (t.setSt e.val x.rd.val (lop (x.f 2 0) (t.pred e.val x.ra.val) (t.pred e.val x.rb.val))).step4 e.val)

/-- ADDI (R150). -/
def execAddi (e : Fin 136) (x : FmtI) (s : State) : Out := s.issueRd e.val (x.word 0x12) x.rd true fun t => t.gr e.val x.ra.val + x.sext

/-- ANDI (R150). -/
def execAndi (e : Fin 136) (x : FmtI) (s : State) : Out := s.issueRd e.val (x.word 0x13) x.rd true fun t => t.gr e.val x.ra.val &&& x.zext

/-- ORI (R150). -/
def execOri (e : Fin 136) (x : FmtI) (s : State) : Out := s.issueRd e.val (x.word 0x14) x.rd true fun t => t.gr e.val x.ra.val ||| x.zext

/-- XORI (R150). -/
def execXori (e : Fin 136) (x : FmtI) (s : State) : Out := s.issueRd e.val (x.word 0x15) x.rd true fun t => t.gr e.val x.ra.val ^^^ x.zext

/-- SHLI (R150). -/
def execShli (e : Fin 136) (x : FmtI) (s : State) : Out :=
  s.issueRd e.val (x.word 0x16) x.rd (x.f 13 5 == 0) fun t => t.gr e.val x.ra.val <<< x.f 4 0

/-- SHRI (R150). -/
def execShri (e : Fin 136) (x : FmtI) (s : State) : Out :=
  s.issueRd e.val (x.word 0x17) x.rd (x.f 13 5 == 0) fun t => t.gr e.val x.ra.val >>> x.f 4 0

/-- SRAI (R150). -/
def execSrai (e : Fin 136) (x : FmtI) (s : State) : Out :=
  s.issueRd e.val (x.word 0x18) x.rd (x.f 13 5 == 0) fun t => (t.gr e.val x.ra.val).sshiftRight (x.f 4 0)

/-- CMPI: P[RD[1:0]] := REL(IMM14[13:11]) of ra and sext(IMM14[10:0]) (R150, R151). -/
def execCmpi (e : Fin 136) (x : FmtI) (s : State) : Out :=
  .next (s.issue e.val (x.word 0x19) (decide (x.rd.val < 4) && x.f 13 11 != 7) fun t =>
    (t.setSt e.val x.rd.val
      ((rel (x.f 13 11) (t.gr e.val x.ra.val) ((BitVec.ofNat 11 (x.f 10 0)).signExtend 32)).getD false)).step4 e.val)

/-- EXT: POS = IMM14[4:0], W = IMM14[9:5] + 1, signed when IMM14[10] = 1 (R150). -/
def execExt (e : Fin 136) (x : FmtI) (s : State) : Out :=
  let pos := x.f 4 0
  let w := x.f 9 5 + 1
  s.issueRd e.val (x.word 0x1A) x.rd (x.f 13 11 == 0 && decide (pos + w ≤ 32)) fun t =>
    let v := BitVec.ofNat w ((t.gr e.val x.ra.val).toNat / 2 ^ pos)
    if x.f 10 10 = 1 then v.signExtend 32 else v.zeroExtend 32

/-- DEP: rd[POS+W-1 : POS] := ra[W-1 : 0] (R150). -/
def execDep (e : Fin 136) (x : FmtI) (s : State) : Out :=
  let pos := x.f 4 0
  let w := x.f 9 5 + 1
  s.issueRd e.val (x.word 0x1B) x.rd (x.f 13 10 == 0 && decide (pos + w ≤ 32)) fun t =>
    setBitsOf (t.gr e.val x.rd.val) (pos + w - 1) pos (t.gr e.val x.ra.val).toNat

/-- MOVI (R150). -/
def execMovi (e : Fin 136) (x : FmtL) (s : State) : Out :=
  s.issueRd e.val (x.word 0x1C) x.rd true fun _ => (BitVec.ofNat 18 x.imm.val).signExtend 32

/-- MOVHI (R150). -/
def execMovhi (e : Fin 136) (x : FmtL) (s : State) : Out :=
  s.issueRd e.val (x.word 0x1D) x.rd true fun _ => BitVec.ofNat 32 (x.imm.val * 2 ^ 14)

/-! ## Accumulator instructions (R145, R153) -/

/-- Put a 48-bit saturated result into accumulator `i`, with ST.SAT (R145). -/
def State.putAcc (s : State) (e i : Nat) (v : Int) : State :=
  let r := sat48 v
  let s1 := s.setAccu e i r.1
  (if r.2 then s1.setSt e 9 true else s1).step4 e

/-- The 24-bit operand of AMAC (R153). -/
def low24 (w : Word) : Int := ((w.truncate 24 : BitVec 24)).toInt

/-- AMUL (R153). -/
def execAmul (e : Fin 136) (x : FmtT) (s : State) : Out :=
  .next (s.issue e.val (x.word 0x20) (x.rd.val == 0 && x.f 9 1 == 0) fun t =>
    t.putAcc e.val (x.f 0 0) ((t.opA e.val x).toInt * (t.opB e.val x).toInt))

/-- AMAC (R153). -/
def execAmac (e : Fin 136) (x : FmtT) (s : State) : Out :=
  .next (s.issue e.val (x.word 0x21) (x.rd.val == 0 && x.f 9 1 == 0) fun t =>
    t.putAcc e.val (x.f 0 0) (t.accu e.val (x.f 0 0) + low24 (t.opA e.val x) * low24 (t.opB e.val x)))

/-- AADD: FN[1] = 0 adds, FN[1] = 1 loads (R153). -/
def execAadd (e : Fin 136) (x : FmtT) (s : State) : Out :=
  .next (s.issue e.val (x.word 0x22) (x.rd.val == 0 && x.rb.val == 0 && x.f 9 2 == 0) fun t =>
    t.putAcc e.val (x.f 0 0) ((if x.f 1 1 = 1 then 0 else t.accu e.val (x.f 0 0)) + (t.opA e.val x).toInt))

/-- ARD: shifted by FN[6:1], rounded when FN[7] = 1 (R145, R153). -/
def execArd (e : Fin 136) (x : FmtT) (s : State) : Out :=
  .next (s.issue e.val (x.word 0x23) (x.ra.val == 0 && x.rb.val == 0 && x.f 9 8 == 0 && decide (x.f 6 1 < 48)) fun t =>
    let k := x.f 6 1
    let v := t.accu e.val (x.f 0 0) + if x.f 7 7 = 1 ∧ 0 < k then 2 ^ (k - 1) else 0
    let r := sat32 (Int.fdiv v (2 ^ k))
    ((if r.2 then t.setSt e.val 11 true else t).setGr e.val x.rd.val r.1).step4 e.val)

/-- ADIV (R152, R153). -/
def execAdiv (e : Fin 136) (x : FmtT) (s : State) : Out :=
  .next (s.issue e.val (x.word 0x24) (x.rb.val == 0 && x.f 9 1 == 0) fun t =>
    t.putDiv e.val x.rd.val (divSat (t.accu e.val (x.f 0 0)) (t.opA e.val x).toInt))

/-! ## Control (R154) -/

/-- BR (R154). -/
def execBr (e : Fin 136) (x : FmtJ) (s : State) : Out :=
  .next (s.issue e.val (x.word 0x30) true fun t => t.jump e.val ((t.engine e.val).pc + x.offset))

/-- CALL (R154). -/
def execCall (e : Fin 136) (x : FmtJ) (s : State) : Out :=
  .next (s.issue e.val (x.word 0x31) true fun t =>
    let pc := (t.engine e.val).pc
    (t.setGr e.val 15 (pc + 4#32)).jump e.val (pc + x.offset))

/-- JR; FN[0] = 1 links; a misaligned target raises ALIGN (R154, R179). -/
def execJr (e : Fin 136) (x : FmtT) (s : State) : Out :=
  .next (s.issue e.val (x.word 0x32) (x.rd.val == 0 && x.rb.val == 0 && x.f 9 1 == 0) fun t =>
    let a := t.opA e.val x
    if a.toNat % 4 ≠ 0 then t.exception e.val 2
    else (if x.f 0 0 = 1 then t.setGr e.val 15 ((t.engine e.val).pc + 4#32) else t).jump e.val a)

/-- FENCE: a drone waits until every posted store has its response; on a chanter as NOP (R154). -/
def execFence (e : Fin 136) (x : FmtJ) (s : State) : Out :=
  .next (s.issue e.val (x.word 0x33) (x.imm.val == 0) fun t =>
    if e.val < 132 ∨ (t.engine e.val).posted = [] then t.step4 e.val
    else t.setEngine e.val { t.engine e.val with wait := .fence })

end Sys2Proof.Machine
end

