-- ==== Sys2Proof/Machine/EngineSpecial.lean ====
section
/-! DEFINITION. Sys2Proof/Machine/EngineSpecial.lean: the special, chanter-only and drone-only instructions, and loads and stores
as an engine issues them (R154-R172). -/
namespace Sys2Proof.Machine

/-- Write {rd+1, rd} := {hi, lo} and go on. -/
def State.putPair (s : State) (e rd : Nat) (lo hi : Word) : State := ((s.setGr e rd lo).setGr e (rd + 1) hi).step4 e

/-- Write consecutive registers from `rd`. -/
def State.putRegs (s : State) (e : Nat) : Nat → List Word → State
  | _, [] => s
  | rd, v :: r => (s.setGr e rd v).putRegs e (rd + 1) r

/-- The low 32 bits of a time or frame number (R146). -/
def low32 (n : Nat) : Word := BitVec.ofNat 32 n

/-! ## Both kinds of engine (R155, R159, R164, R166) -/

/-- The averaging span tk - tk-M of a tracker (R48, R49, R159). -/
def State.span (s : State) (x : Nat) : Nat :=
  let k := s.tracker x
  match k.hist[0]?, k.hist[min (k.j - 1) (s.shWindow x)]? with
  | some (_, t, _), some (_, t0, _) => t - t0
  | _, _ => 0

/-- The eight values of ANGLE for domain 1 A, 2 B or 3 T (R159). -/
def State.angleSample (s : State) (dm : Nat) : List Word :=
  if dm < 3 then
    let x := dm - 1
    [s.show_ (R.WHEEL_SH_ANGLE x), s.show_ (R.WHEEL_SH_REV x), s.show_ (R.WHEEL_SH_SPEED x), s.show_ (R.WHEEL_SH_ACCEL x),
     low32 s.now, low32 (s.tracker x).tk, low32 (s.span x), s.show_ (R.WHEEL_DOM_HW x)]
  else
    let on := s.tRuns && s.tick.started
    let cyc := if on then s.tick.len else s.get F.WHEEL_T_CFG_TICK_CYC
    [(s.show_ R.WHEEL_T_ANGLE) ||| (if on then 0x4000000#32 else 0x2000000#32), s.show_ R.WHEEL_T_REV,
     (if cyc = 0 then BitVec.ofNat 32 s.drawn.fresh else low32 (4096 * 65536 / cyc)), 0, low32 s.now, low32 s.tick.last,
     low32 s.tick.start, s.show_ (R.WHEEL_DOM_HW 2)]

/-- ANGLE (R159). -/
def execAngle (e : Fin 136) (x : FmtT) (s : State) : Out :=
  .next (s.issue e.val (x.word 0x34) (x.rd.val % 8 == 0 && x.ra.val == 0 && x.rb.val == 0 && x.f 9 2 == 0 && x.f 1 0 != 0) fun t =>
    (t.drawn.drawn.putRegs e.val x.rd.val (t.angleSample (x.f 1 0))).step4 e.val)

/-- TIME (R155). -/
def execTime (e : Fin 136) (x : FmtT) (s : State) : Out :=
  .next (s.issue e.val (x.word 0x35) (x.rd.val % 2 == 0 && x.ra.val == 0 && x.rb.val == 0 && x.fn.val == 0) fun t =>
    t.putPair e.val x.rd.val (low32 t.now) (low32 (t.now / 2 ^ 32)))

/-- PAIR of engine `e`: the chanter whose pair is attached, or 0xFF (R166). -/
def State.pairOf (s : State) (e : Nat) : Nat := if e < 132 then s.get (F.CHT_C_STAT_PAIR e) else 0xFF

/-- The source in service at normal (`fast` = false) or fast level of a drone, VALID in bit 31 (R166). -/
def State.inService (s : State) (e : Nat) (fast : Bool) : Word :=
  if e < 132 then 0
  else match (s.drone (e - 132)).stack.find? fun x => x.2 == fast with
    | some (n, _) => BitVec.ofNat 32 (2 ^ 31 + n)
    | none => 0

/-- The items of GETS (R166). -/
def State.getsItem (s : State) (e k : Nat) : Word :=
  let g := s.engine e
  match k with
  | 0 => low32 e
  | 1 => s.rd R.SYS_MODE
  | 2 => low32 (s.pairOf e)
  | 3 => low32 (openFrame s.now)
  | 4 => low32 (currentFrame s.now)
  | 5 => low32 g.entry
  | 6 => if e < 132 ∧ s.pairOf e < 128 then low32 (s.pair (s.pairOf e)).drain.length else 0
  | 7 => g.exc
  | 8 => s.inService e false
  | 9 => s.inService e true
  | 10 => low32 g.berr
  | _ => g.berrAddr

/-- GETS (R166). -/
def execGets (e : Fin 136) (x : FmtT) (s : State) : Out :=
  s.issueRd e.val (x.word 0x36) x.rd (x.ra.val == 0 && x.rb.val == 0 && x.f 9 5 == 0 && decide (x.f 4 0 < 12)) fun t => t.getsItem e.val (x.f 4 0)

/-- WINS (R164). A ninth insert that is unanswered or unread waits until an answer has been read. -/
def execWins (e : Fin 136) (x : FmtT) (s : State) : Out :=
  .next (s.issue e.val (x.word 0x37) (x.ra.val % 2 == 0 && x.f 9 1 == 0) fun t =>
    let g := t.engine e.val
    if 8 ≤ g.inserts + g.answers.length then t.setEngine e.val { g with wait := .room }
    else
      let w := t.opB e.val x
      let wait := x.f 0 0 == 1
      let i : Insert := ⟨bitsOf w 23 16, bitsOf w 11 0, t.gr e.val (x.ra.val + 1) ++ t.gr e.val x.ra.val, .engine e x.rd wait⟩
      if 8 ≤ (t.portFifo (insertPort i.src)).length then t.offer i
      else
        let u := t.offer i
        let h := { u.engine e.val with inserts := g.inserts + 1 }
        if wait then u.setEngine e.val { h with wait := .answer x.rd.val }
        else u.setEngine e.val { h.setReg x.rd.val 0xF#32 with pc := h.pc + 4#32 })

/-- WINSR (R164). -/
def execWinsr (e : Fin 136) (x : FmtT) (s : State) : Out :=
  .next (s.issue e.val (x.word 0x38) (x.ra.val == 0 && x.rb.val == 0 && x.fn.val == 0) fun t =>
    let g := t.engine e.val
    let c := g.answers.headD 0xF
    ((t.setEngine e.val { g with answers := g.answers.tail }).setGr e.val x.rd.val (low32 (g.inserts * 256 + c))).step4 e.val)

/-- STS (R144, R155): FN[0] = 0 reads ST; FN[0] = 1 writes P and, on drones, IE_N and IE_F, and clears sticky bits. -/
def execSts (e : Fin 136) (x : FmtT) (s : State) : Out :=
  .next (s.issue e.val (x.word 0x39)
      (x.f 9 1 == 0 && x.rb.val == 0 && (if x.f 0 0 = 1 then x.rd.val == 0 else x.ra.val == 0)) fun t =>
    let g := t.engine e.val
    if x.f 0 0 = 1 then
      let a := t.opA e.val x
      let m : Word := if e.val < 132 then 0xF#32 else 0x18F#32
      t.setEngine e.val { g with st := ((g.st &&& ~~~ m) ||| (a &&& m)) &&& ~~~ (a &&& 0x3E00#32), pc := g.pc + 4#32 }
    else (t.setGr e.val x.rd.val g.st).step4 e.val)

/-! ## Chanter-only instructions (R156, R160-R163, R165, R167) -/

/-- Whether engine `e` is a chanter. -/
def isChanter (e : Nat) : Bool := decide (e < 132)

/-- The drain input of the pair attached to chanter `e`. -/
def State.drainOf (s : State) (e : Nat) : List DrainItem := if s.pairOf e < 128 then (s.pair (s.pairOf e)).drain else []

/-- Acknowledge the oldest entry of the drain input (R110, R160); CHT.Cn_EVENTS counts it (R134). -/
def State.ackDrain (s : State) (e : Nat) : State :=
  match s.drainOf e with
  | [] => s
  | _ :: r =>
    let p := s.pairOf e
    (s.setPair p { s.pair p with drain := r }).wrap (R.CHT_C_EVENTS e) 1

/-- EVT (R160). -/
def execEvt (e : Fin 136) (x : FmtT) (s : State) : Out :=
  .next (s.issue e.val (x.word 0x3A)
      (isChanter e.val && x.rd.val % 4 == 0 && x.ra.val == 0 && x.rb.val == 0 && x.f 9 2 == 0) fun t =>
    match t.drainOf e.val with
    | [] => ((t.putRegs e.val x.rd.val [0, 0, 0, 0]).setSt e.val (x.f 1 0) false).step4 e.val
    | i :: _ =>
      ((t.putRegs e.val x.rd.val
        [i.ev.truncate 32, (i.ev >>> 32).truncate 32, BitVec.ofInt 32 (i.pos.fdiv 4096), BitVec.ofNat 32 (2 ^ 31 + i.dom * 2 + i.lane % 2)]).setSt
        e.val (x.f 1 0) true).step4 e.val)

/-- SLOT (R161, R192). With no pair attached no lane answers: ACCESS, as for contexts (log entry 17). -/
def execSlot (e : Fin 136) (x : FmtT) (s : State) : Out :=
  .next (s.issue e.val (x.word 0x3B)
      (isChanter e.val && x.rd.val % 2 == 0 && decide (x.f 4 1 < 12) && x.f 9 6 == 0) fun t =>
    let p := t.pairOf e.val
    if 128 ≤ p then t.exception e.val 3
    else
      let df := (t.opB e.val x - low32 (openFrame t.now)).toInt
      let r := t.slotWrite (2 * p + x.f 0 0) (x.f 4 1) df (t.opA e.val x)
      let u := if x.f 5 5 = 1 ∧ r.2.1 ≤ 2 then r.1.ackDrain e.val else r.1
      u.putPair e.val x.rd.val (low32 r.2.1) r.2.2)

/-- The context address of an access, or the cause of its exception (R162). -/
def State.ctxAddr (s : State) (e ch imm : Nat) (store : Bool) : Nat ⊕ Nat :=
  let p := s.pairOf e
  if 128 ≤ p ∨ 23 < ch ∨ 0xF8 < imm then .inr 3
  else if imm % 8 ≠ 0 then .inr 2
  else if store = true ∧ imm = 0xF8 ∧ ch % 12 < 8 then .inr 3
  else .inl (0x22000000 + (p * 24 + ch) * 0x100 + imm)

/-- CTXL (R162). -/
def execCtxl (e : Fin 136) (x : FmtI) (s : State) : Out :=
  .next (s.issue e.val (x.word 0x3C) (isChanter e.val && x.rd.val % 2 == 0) fun t =>
    match t.ctxAddr e.val (t.gr e.val x.ra.val).toNat x.imm.val false with
    | .inr k => t.exception e.val k
    | .inl a =>
      let p := t.memRead 7 a
      match p.2 with
      | some v => p.1.putPair e.val x.rd.val (v.truncate 32) ((v >>> 32).truncate 32)
      | none => (p.1.setSt e.val 12 true).putPair e.val x.rd.val 0 0)

/-- CTXS (R162). -/
def execCtxs (e : Fin 136) (x : FmtI) (s : State) : Out :=
  .next (s.issue e.val (x.word 0x3D) (isChanter e.val && x.rd.val % 2 == 0) fun t =>
    match t.ctxAddr e.val (t.gr e.val x.ra.val).toNat x.imm.val true with
    | .inr k => t.exception e.val k
    | .inl a => (t.memWrite a (t.gr e.val (x.rd.val + 1) ++ t.gr e.val x.rd.val)).step4 e.val)

/-- DROP (R163, R137). The channel within the pair is ra; with no pair attached the channel field takes ra alone. -/
def execDrop (e : Fin 136) (x : FmtT) (s : State) : Out :=
  .next (s.issue e.val (x.word 0x26)
      (isChanter e.val && x.rd.val == 0 && x.f 9 5 == 0 && (decide (x.f 3 0 < 5) || x.f 3 0 == 15)) fun t =>
    let k := x.f 3 0
    let ack := x.f 4 4 == 1
    let tag := if ack then (match t.drainOf e.val with | i :: _ => dbits i.ev 39 32 | [] => 0) else (t.opB e.val x).toNat % 256
    let ch := (if t.pairOf e.val < 128 then t.pairOf e.val * 24 else 0) + (t.opA e.val x).toNat
    let u := if k = 15 then t.count (R.CHT_C_DISCARD e.val)
      else if k = 0 then t
      else ((t.count (R.CHT_C_DROPPED e.val)).wr (R.CHT_C_DROP_LAST e.val)
        (BitVec.ofNat 32 (k * 2 ^ 28 + ch % 4096 * 2 ^ 12 + tag))).chanterEvent e.val 4
    (if ack then u.ackDrain e.val else u).step4 e.val)

/-- WATCH (R156, R160). -/
def execWatch (e : Fin 136) (x : FmtT) (s : State) : Out :=
  .next (s.issue e.val (x.word 0x27) (isChanter e.val && x.rd.val == 0 && x.ra.val == 0 && x.rb.val == 0 && x.fn.val == 0) fun t =>
    (t.ackDrain e.val).step4 e.val)

/-- NOTE (R132, R163). -/
def execNote (e : Fin 136) (x : FmtT) (s : State) : Out :=
  .next (s.issue e.val (x.word 0x2C)
      (isChanter e.val && x.rd.val == 0 && x.f 9 6 == 0 && decide (1 ≤ x.f 3 0) && decide (x.f 3 0 ≤ 10)) fun t =>
    let b := t.opB e.val x
    let ch := if b.getLsbD 31 then 0 else ((if t.pairOf e.val < 128 then t.pairOf e.val * 24 else 0) + b.toNat) % 4096
    let p := t.noteAdd ⟨e.val, x.f 3 0, ch, t.opA e.val x⟩
    (p.1.setSt e.val (x.f 5 4) p.2).step4 e.val)

/-- What ECHO reads for a frame: code, sense word (R165, R198). -/
def State.echoRead (s : State) (l slot : Nat) (f : Int) : Nat × Word :=
  if f < 0 ∨ dueOf (f.toNat + 8) ≤ s.now then (3, 0)
  else match s.echoOf l f.toNat with
    | some r => (0, (r.sense[slot]?).getD 0)
    | none => if s.now < dueOf f.toNat then (1, 0) else (2, 0)

/-- ECHO (R165). -/
def execEcho (e : Fin 136) (x : FmtT) (s : State) : Out :=
  .next (s.issue e.val (x.word 0x3E)
      (isChanter e.val && x.rd.val % 2 == 0 && x.rb.val == 0 && x.f 9 9 == 0 && decide (x.f 4 1 < 12)) fun t =>
    let p := t.pairOf e.val
    if 128 ≤ p then t.exception e.val 3
    else
      let f : Int := openFrame t.now + (t.opA e.val x - low32 (openFrame t.now)).toInt
      let r := t.echoRead (2 * p + x.f 0 0) (x.f 4 1) f
      let i := x.f 6 6
      let u := if x.f 5 5 = 1 ∧ r.1 = 0 then
          let q := sat48 (t.accu e.val i + (bitsOf r.2 31 20 : Nat))
          let t1 := t.setAccu e.val i q.1
          if q.2 then t1.setSt e.val 9 true else t1
        else t
      (u.setSt e.val (x.f 8 7) (r.1 == 0)).putPair e.val x.rd.val r.2 (low32 r.1))

/-- Accepted edges of the domain of lane `l` (R167). -/
def State.laneEdges (s : State) (l : Nat) : Nat := if s.laneDom l = 0 then 0 else (s.dom (s.laneDom l - 1)).edges

/-- The end of a WFF: rd := the earliest open frame, P := whether it ended before the commit (R167). -/
def State.endWff (s : State) (e rd p : Nat) (early : Bool) : State :=
  let s1 := s.setEngine e { s.engine e with wait := .none }
  ((s1.setGr e rd (low32 (openFrame s.now))).setSt e p early).step4 e

/-- WFF (R167). -/
def execWff (e : Fin 136) (x : FmtT) (s : State) : Out :=
  .next (s.issue e.val (x.word 0x3F) (isChanter e.val && x.ra.val == 0 && x.rb.val == 0 && x.f 9 4 == 0) fun t =>
    let p := t.pairOf e.val
    let k := openFrame t.now
    let u := if p < 128 ∧ (t.pair p).complete.contains k = false then
        t.setPair p { t.pair p with complete := (t.pair p).complete ++ [k] } else t
    if x.f 0 0 = 1 ∧ u.drainOf e.val ≠ [] then u.endWff e.val x.rd.val (x.f 3 2) true
    else u.setEngine e.val { u.engine e.val with
      wait := .frame k (x.f 0 0 == 1) (x.f 1 1 == 1) x.rd.val (x.f 3 2) (u.laneEdges (2 * p)) (u.laneEdges (2 * p + 1)) })

/-- WFF_WAKE (R167). At `t`, a waiting WFF ends: its frame is committed, or one of its wake conditions holds. -/
def execWffWake (n : Fin 132) (t : Nat) (s : State) : Out :=
  let s := s.at_ t
  match (s.engine n.val).wait with
  | .frame k evt edge rd p e0 e1 =>
    if deadlineOf k ≤ s.now then .next (s.endWff n.val rd p false)
    else if evt = true ∧ s.drainOf n.val ≠ [] then .next (s.endWff n.val rd p true)
    else if edge = true ∧ (s.laneEdges (2 * s.pairOf n.val) ≠ e0 ∨ s.laneEdges (2 * s.pairOf n.val + 1) ≠ e1) then
      .next (s.endWff n.val rd p true)
    else .next s
  | _ => .next s

/-! ## Drone-only instructions (R157, R158, R177, R178) -/

/-- STACK_FAULT: source 906 of class F, and on to the next instruction (R178). -/
def State.stackFault (s : State) (e : Nat) : State := (s.raiseOn 906 (e - 132)).step4 e

/-- IRET (R177, R178). -/
def execIret (e : Fin 136) (x : FmtI) (s : State) : Out :=
  .next (s.issue e.val (x.word 0x2D)
      (!isChanter e.val && x.rd.val == 0 && (if x.f 13 13 = 1 then x.f 12 0 == 0 else x.f 12 10 == 0 && x.ra.val == 0)) fun t =>
    let d := e.val - 132
    let n := if x.f 13 13 = 1 then (t.gr e.val x.ra.val).toNat % 1024 else x.f 9 0
    match (t.drone d).stack with
    | [] => t.stackFault e.val
    | (m, _) :: _ =>
      if m ≠ n then t.stackFault e.val
      else
        let g := t.engine e.val
        if bitsOf g.st 6 5 = Lv.fast then
          (t.setEngine e.val { g with pc := g.fpc, st := g.fst }).completeSource n d
        else if bitsOf g.st 6 5 = Lv.normal then
          let sp := (g.reg 14).toNat
          if stackOk sp then
            let p := t.memRead (engineIni e.val) (engineBase e.val + sp)
            match p.2 with
            | none => p.1.exception e.val 6
            | some w =>
              let h := (p.1.engine e.val).setReg 14 (g.reg 14 + 8#32)
              (p.1.setEngine e.val { h with pc := (w >>> 32).truncate 32 &&& 0xFFFFFFFC#32, st := w.truncate 32 &&& 0x3FFF#32 }).completeSource n d
          else t.exception e.val 6
        else t.stackFault e.val)

/-- SWI (R157, R158): sources 920-1023 only. -/
def execSwi (e : Fin 136) (x : FmtI) (s : State) : Out :=
  let byReg := x.f 13 13 == 1
  .next (s.issue e.val (x.word 0x2E)
      (!isChanter e.val && x.rd.val == 0 && x.f 12 10 == 0 &&
        (if byReg then x.f 9 0 == 0 else x.ra.val == 0 && decide (920 ≤ x.f 9 0))) fun t =>
    let n := if byReg then (t.gr e.val x.ra.val).toNat % 1024 else x.f 9 0
    if n < 920 then t.exception e.val 3 else (t.raise n).step4 e.val)

/-- WAITI (R157, R177): its return address is the instruction after it. -/
def execWaiti (e : Fin 136) (x : FmtJ) (s : State) : Out :=
  .next (s.issue e.val (x.word 0x2F) (!isChanter e.val && x.imm.val == 0) fun t =>
    let g := t.engine e.val
    (t.setEngine e.val { g with wait := .irq, pc := g.pc + 4#32 }).droneSliceTry)

/-! ## Loads and stores (R154, R168-R172) -/

/-- Where a load or store of an engine goes: its own memory at an address, the spine, or the cause of an exception. -/
inductive Target where
  | own (addr : Nat)
  | spine
  | raise_ (cause : Nat)
deriving DecidableEq, Repr

/-- The classes of spine addresses by the widths R171 allows: 0 register blocks, 1 grid-coded memories, 2 CFLASH, PFLASH and OTP,
3 no range of R11. -/
def spineKind (a : Nat) : Nat :=
  if 0x10000000 ≤ a ∧ a < 0x10140000 then 0
  else if (0x20000000 ≤ a ∧ a < 0x220C0000) ∨ (0x23000000 ≤ a ∧ a < 0x23400000) ∨ (0x40000000 ≤ a ∧ a < 0x40000000 + 132 * 0x8000 ∧ a % 0x8000 < 0x6000) ∨
      (0x41000000 ≤ a ∧ a < 0x41080000) then 1
  else if (0x30000000 ≤ a ∧ a < 0x33200000) ∨ (0x34000000 ≤ a ∧ a < 0x34004000) then 2
  else 3

/-- The target of an access of engine `e` (R168-R171): `w` bytes; `st` a store. -/
def accessOf (e a w : Nat) (st : Bool) : Target :=
  if a % w ≠ 0 then .raise_ 2
  else if e < 132 then (if a < 0x2000 then .own (engineData e + a) else .raise_ 3)
  else if a < 0x10000 then (if st then .raise_ 3 else .own (engineBase e + a))
  else if a < 0x20000 then (if st = true ∧ w = 4 then .raise_ 3 else .own (engineBase e + a))
  else
    match spineKind a with
    | 0 => if w = 4 then .spine else .raise_ 3
    | 1 => if st = true ∧ w = 4 then .raise_ 3 else .spine
    | _ => .spine

/-- A load of `w` bytes into rd (R154, R172). -/
def State.loadOp (s : State) (e rd a w : Nat) : State :=
  match accessOf e a w false with
  | .raise_ k => s.exception e k
  | .spine => s.setEngine e { s.engine e with wait := .load (w == 8) rd a }
  | .own m =>
    let p := s.memRead (engineIni e) m
    match p.2 with
    | none => p.1.exception e 5
    | some v =>
      if w = 8 then p.1.putPair e rd (v.truncate 32) ((v >>> 32).truncate 32)
      else (p.1.setGr e rd (if m % 8 = 0 then v.truncate 32 else (v >>> 32).truncate 32)).step4 e

/-- A store of `w` bytes (R154, R172): a fifth posted store waits. -/
def State.storeOp (s : State) (e a w : Nat) (v : BitVec 64) : State :=
  match accessOf e a w true with
  | .raise_ k => s.exception e k
  | .own m => (s.memWrite m v).step4 e
  | .spine =>
    let g := s.engine e
    if 4 ≤ g.posted.length then s.setEngine e { g with wait := .post ⟨a, w == 8, v⟩ }
    else s.setEngine e { g with posted := g.posted ++ [⟨a, w == 8, v⟩], pc := g.pc + 4#32 }

/-- The effective address ra + sext(IMM14) (R154). -/
def State.effAddr (s : State) (e : Nat) (x : FmtI) : Nat := (s.gr e x.ra.val + x.sext).toNat

/-- LDW (R154). -/
def execLdw (e : Fin 136) (x : FmtI) (s : State) : Out :=
  .next (s.issue e.val (x.word 0x28) true fun t => t.loadOp e.val x.rd.val (t.effAddr e.val x) 4)

/-- LDD (R154). -/
def execLdd (e : Fin 136) (x : FmtI) (s : State) : Out :=
  .next (s.issue e.val (x.word 0x29) (x.rd.val % 2 == 0) fun t => t.loadOp e.val x.rd.val (t.effAddr e.val x) 8)

/-- STW (R154, R171): drones only. -/
def execStw (e : Fin 136) (x : FmtI) (s : State) : Out :=
  .next (s.issue e.val (x.word 0x2A) (!isChanter e.val) fun t =>
    t.storeOp e.val (t.effAddr e.val x) 4 ((t.gr e.val x.rd.val).zeroExtend 64))

/-- STD (R154). -/
def execStd (e : Fin 136) (x : FmtI) (s : State) : Out :=
  .next (s.issue e.val (x.word 0x2B) (x.rd.val % 2 == 0) fun t =>
    t.storeOp e.val (t.effAddr e.val x) 8 (t.gr e.val (x.rd.val + 1) ++ t.gr e.val x.rd.val))

end Sys2Proof.Machine
end

