-- ==== Sys2Proof/Machine/Links.lean ====
section
/-! DEFINITION. Sys2Proof/Machine/Links.lean: the grid of reed cells, what a cell's configuration says, the lanes between cells and the
rim's side of them (R297-R301, R303, R304, R312, R313, R318, R325-R332). -/
namespace Sys2Proof.Machine

/-! ## Grid (R297, R303, R304) -/

/-- Column of cell `id` = frame × 16 + index. -/
def cellX (id : Nat) : Nat := id / 256 % 16 * 16 + id % 16

/-- Row of cell `id`. -/
def cellY (id : Nat) : Nat := id / 256 / 16 * 16 + id / 16 % 16

/-- The cell at (X, Y). -/
def cellAt (x y : Nat) : Nat := ((y / 16) * 16 + x / 16) * 256 + y % 16 * 16 + x % 16

/-- Quadrant of a tract. -/
def tractQuad (t : Nat) : Nat := 2 * (t / 128) + t % 16 / 8

/-- Bits [hi:lo] of a cell's configuration. -/
def cfgBits (w : BitVec 320) (hi lo : Nat) : Nat := w.toNat / 2 ^ lo % 2 ^ (hi + 1 - lo)

/-- Bits [hi:lo] of the mode and routing word M. -/
def mBits (w : BitVec 320) (hi lo : Nat) : Nat := cfgBits w (256 + hi) (256 + lo)

/-- MODE: bit mode. -/
def cfgBit (w : BitVec 320) : Bool := mBits w 63 63 == 1

/-- Phrase length N. -/
def cfgPhrase (w : BitVec 320) : Nat := mBits w 62 60 + 1

/-- TRIPLE. -/
def cfgTriple (w : BitVec 320) : Bool := mBits w 59 59 == 1

/-- Owner bit of lane `l` (NA = 0 to WB = 7). -/
def cfgOwn (w : BitVec 320) (l : Nat) : Bool := mBits w (58 - l) (58 - l) == 1

/-- Bypass `k` as (FROM, TO) when it is enabled. -/
def cfgByp (w : BitVec 320) (k : Nat) : Option (Nat × Nat) :=
  let d := 7 * k
  if mBits w (50 - d) (50 - d) = 1 then some (mBits w (49 - d) (47 - d), mBits w (46 - d) (44 - d)) else none

/-- INIT, or 0 in bit mode (R332). -/
def cfgInit (w : BitVec 320) : BitVec 16 := if cfgBit w then 0 else BitVec.ofNat 16 (mBits w 36 21)

/-- Instruction word Ik. -/
def cfgInstr (w : BitVec 320) (k : Nat) : Nat := cfgBits w (32 * k + 31) (32 * k)

/-- Configuration of a cell. -/
def State.cellCfg (s : State) (id : Nat) : BitVec 320 := Sparse.get (fun _ => 0) s.fab.cfg id

/-- User state of a cell; a cell that has not run since its set-reset holds INIT in Q0 and 0 elsewhere (R332). -/
def State.cell (s : State) (id : Nat) : Cell :=
  Sparse.get (fun k => { q0 := cfgInit (Sparse.get (fun _ => 0) s.fab.cfg k) }) s.fab.cells id

/-- Put it. -/
def State.setCell (s : State) (id : Nat) (v : Cell) : State :=
  { s with
    fab := { s.fab with
      cells := Sparse.put (fun k => { q0 := cfgInit (Sparse.get (fun _ => 0) s.fab.cfg k) }) s.fab.cells id v } }

/-- Whether tract `t` is released from set-reset (R332, R354). -/
def State.tractFree (s : State) (t : Nat) : Bool :=
  Sparse.get (fun _ => false) s.fab.free t && decide (Sparse.get (fun _ => 0) s.fab.freeAt t ≤ s.now)

/-- The first wheel time from `t` on at which a PIPE edge has E = 0 (R299); `t` itself where PIPE does not run. -/
def State.epochStart (s : State) (t : Nat) : Nat :=
  match s.clk.epoch with
  | some e => t + (420 - (t - e) % 420) % 420
  | none => t

/-- Whether quadrant `q` is on. -/
def State.quadOn (s : State) (q : Nat) : Bool := s.domOn (2 + q)

/-- Whether a driver is latched off (R316). -/
def State.latched (s : State) (id l : Nat) : Bool := Sparse.get (fun _ => false) s.fab.latch (id * 8 + l)

/-- Put a latch. -/
def State.setLatch (s : State) (id l : Nat) (v : Bool) : State :=
  { s with fab := { s.fab with latch := Sparse.put (fun _ => false) s.fab.latch (id * 8 + l) v } }

/-! ## Lanes (R301, R312, R313, R318, R326-R329) -/

/-- What a reader in micro-step `m` sees of a registered value: one registered at the end of that micro-step, or later, is not there yet. -/
def Reg2.see (r : Reg2) (m : Nat) : BitVec 16 := if m < r.at_ then r.old else r.cur

/-- Register a value at the end of micro-step `m`. -/
def Reg2.write (r : Reg2) (m : Nat) (v : BitVec 16) : Reg2 := { cur := v, old := if r.at_ = m + 1 then r.old else r.cur, at_ := m + 1 }

/-- The cell beyond lane `l` of cell `id`; none beyond the edge of the grid. -/
def neighbour (id l : Nat) : Option Nat :=
  let x := cellX id
  let y := cellY id
  match l / 2 with
  | 0 => if y < 255 then some (cellAt x (y + 1)) else none
  | 1 => if x < 255 then some (cellAt (x + 1) y) else none
  | 2 => if 0 < y then some (cellAt x (y - 1)) else none
  | _ => if 0 < x then some (cellAt (x - 1) y) else none

/-- The same wire as the cell beyond names it. -/
def otherLane (l : Nat) : Nat := (l + 4) % 8

/-- 16 bits of a number from bit `k`. -/
def w16 (v k : Nat) : BitVec 16 := BitVec.ofNat 16 (v / 2 ^ k)

/-- Feed word `j` of the south rim as a sample at wheel time `t` takes it (R329). -/
def State.feedWord (s : State) (t j : Nat) : BitVec 16 :=
  let angle := fun (d : Nat) => (s.domAngle d t % revUnits).toNat
  let speed := fun (d : Nat) => (BitVec.ofInt 32 (s.domSpeed d)).toNat
  let flags := fun (d : Nat) => (if s.domValid d then 0x100 else 0) + (if s.domStalled d then 0x200 else 0) + (if s.domReverse d then 0x400 else 0)
  let high := fun (e : Option Nat) => match e with | some x => decide (x ≤ t ∧ t < x + 4) | none => false
  match j with
  | 0 => w16 (angle 0) 0
  | 1 => BitVec.ofNat 16 (angle 0 / 65536 % 256 + flags 0)
  | 2 => w16 (speed 0) 0
  | 3 => w16 (speed 0) 16
  | 4 => w16 (angle 1) 0
  | 5 => BitVec.ofNat 16 (angle 1 / 65536 % 256 + flags 1)
  | 6 => w16 (speed 1) 0
  | 7 => w16 (speed 1) 16
  | 8 => w16 (angle 2) 0
  | 9 => BitVec.ofNat 16 (angle 2 / 65536 % 256 + (if s.tRuns && s.tick.started then 0x100 else 0))
  | 10 => w16 t 0
  | 11 => w16 t 16
  | 12 => w16 t 32
  | 13 => w16 t 48
  | 14 => BitVec.ofNat 16 s.mode
  | _ => BitVec.ofNat 16 ((if high s.clk.syncAt then 1 else 0) + (if high s.snapAt then 2 else 0))

/-- The wheel time of micro-step `m` after the epoch began: two micro-steps in an ENG cycle (R299, R456). -/
def State.stepTime (s : State) (m : Nat) : Nat := s.clk.epoch.getD 0 + m / 2

/-- The input bits of pin `n` on its rim lane: the level under F1, the serialiser's word under F7, nothing under another function (R326, R327,
R560, R563). -/
def State.pinBits (s : State) (n : Nat) : BitVec 16 :=
  let p := Sparse.get (fun _ => 0) s.fab.pins n
  match s.get (F.GPIO_GP_CFG_FUNC n) with
  | 1 => BitVec.ofNat 16 (p % 2)
  | 7 => BitVec.ofNat 16 (p / 2 % 256)
  | _ => 0

/-- Lane B of the rim port of cell (x, y) on side `d` (0 N, 1 E, 2 S, 3 W) in micro-step `m` (R327-R331, R349). -/
def State.rimIn (s : State) (m d x y : Nat) : BitVec 16 :=
  match d with
  | 2 => if x % 2 = 0 then s.pinBits (x / 2)
    else if x < 32 then s.fab.feed.getD (x / 2) 0 else 0
  | 3 =>
    if 246 ≤ y ∧ y ≤ 253 then
      if y = 250 then BitVec.ofNat 16 (s.get F.CFG_PR_STAT_STATE + (if s.cfg.pr.ack then 0x8000 else 0))
      else if y = 251 then BitVec.ofNat 16 (s.get F.CFG_PR_STAT_CODE)
      else if y = 253 then (if s.get F.CFG_PR_CTL_OWNER = 2 then 1 else 0)
      else 0
    else if y % 16 = 0 then BitVec.ofNat 16 (Sparse.get (fun _ => 0) s.wheel.results (y / 16))
    else if y % 16 = 1 then BitVec.ofNat 16 (8 - (s.portFifo (8 + y / 16)).length)
    else 0
  | 1 =>
    if y < 192 then BitVec.ofNat 16 (s.get (F.FAB_MBOX_IN_DATA y))
    else if y = 192 then w16 s.fab.spm.rdata.toNat 0
    else if y = 193 then w16 s.fab.spm.rdata.toNat 16
    else if y = 196 then BitVec.ofNat 16 ((if s.fab.spm.ack then 1 else 0) + s.fab.spm.code * 2)
    else 0
  | _ => 0

/-- The end that drives the lane between cell `id` (lane `l`) and its neighbour: the owner, unless its driver is latched off; of two owners
the west or south end (R312, R316). The answer is the driving cell and its name for the lane. -/
def State.laneDriver (s : State) (id l : Nat) : Option (Nat × Nat) :=
  let own := cfgOwn (s.cellCfg id) l
  match neighbour id l with
  | none => if own then some (id, l) else none
  | some n =>
    let other := cfgOwn (s.cellCfg n) (otherLane l)
    if own && other then (if l / 2 = 0 ∨ l / 2 = 1 then some (id, l) else some (n, otherLane l))
    else if own then (if s.latched id l then none else some (id, l))
    else if other then (if s.latched n (otherLane l) then none else some (n, otherLane l))
    else none

/-- The value cell `id` sees on lane `l` in micro-step `m`, over at most `k` bypass hops (R301, R312, R313, R318). A driver in a
quadrant that is not on gives 0, and so do the output registers and bypasses of a cell in set-reset (R332, R354). -/
def State.seeLane (s : State) (m : Nat) : Nat → Nat → Nat → BitVec 16
  | 0, _, _ => 0
  | k + 1, id, l =>
    match s.laneDriver id l with
    | none =>
      match neighbour id l with
      | none => if l % 2 = 1 then s.rimIn m (l / 2) (cellX id) (cellY id) else 0
      | some _ => 0
    | some (d, dl) =>
      if s.quadOn (tractQuad (d / 256)) = false ∨ s.tractFree (d / 256) = false then 0
      else
        let cfg := s.cellCfg d
        let by_ := [0, 1].findSome? fun b => match cfgByp cfg b with
          | some (f, t) => if t = dl then some f else none
          | none => none
        match by_ with
        | some f => s.seeLane m k d f
        | none => (Sparse.get (fun _ => {}) (s.cell d).out dl : Reg2).see m

/-- Whether a cell executes at all: PIPE runs, its quadrant is on, its tract is released (R299, R318, R332). -/
def State.cellRuns (s : State) (id : Nat) : Bool :=
  s.clk.epoch.isSome && s.quadOn (tractQuad (id / 256)) && s.tractFree (id / 256)

/-! ## What the rim sees (R326-R331) -/

/-- The micro-step in which wheel time `t` lies after the epoch began, the later one of its two: what a rim register shows at `t`. -/
def State.stepNow (s : State) : Nat := (s.now - s.clk.epoch.getD s.now) * 2 + 2

/-- Lane A of the rim port of cell (x, y) on side `d` (0 N, 1 E, 2 S, 3 W), as the rim samples it in micro-step `m` (R326, R327). A cell in
set-reset shows the reset value, 0. -/
def State.rimOut (s : State) (m d x y : Nat) : BitVec 16 := s.seeLane m 8 (cellAt x y) (2 * d)

/-- Lanes A of the serialiser pins at the boundaries that lie since the last sample of the feed words: until now they have stood as they stand
(R563). Two words of the lowest rate are held. -/
def State.serSample (s : State) (m : Nat) : Sparse (List (Nat × BitVec 16)) :=
  if s.fab.feedAt ≠ 0 ∧ (s.fab.feedAt - 1) / 2 = m / 16 then s.fab.ser
  else
    let from_ := if s.fab.feedAt = 0 then 0 else (s.fab.feedAt - 1) / 2 + 1
    (List.range 128).foldl
      (fun l n => if s.get (F.GPIO_GP_CFG_FUNC n) = 7 then
          Sparse.put (fun _ => []) l n (((from_, s.rimOut (m - m % 16) 2 (2 * n) 0) :: Sparse.get (fun _ => []) l n).take 17)
        else l) s.fab.ser

/-- The feed words are sampled at each edge with E mod 8 = 0 and held for 8 micro-steps: the first cell to execute in a micro-step of
those 8 finds the sample of their first edge taken (R329). The serialisers' samples are taken with them (R563). -/
def State.feedSample (s : State) (m : Nat) : State :=
  if s.fab.feedAt = m / 8 + 1 then s
  else
    { s with fab := { s.fab with
        feedAt := m / 8 + 1
        feed := (List.range 16).map fun j => s.feedWord (s.stepTime (m - m % 8)) j
        ser := s.serSample m } }

/-- Lane A of serialiser pin `n` at the boundary that begins block `q` of 16 micro-steps (R563): a sample held, or the lane as it stands where
nothing has moved since. -/
def State.serWord (s : State) (n q : Nat) : BitVec 16 :=
  if s.fab.feedAt = 0 ∨ (s.fab.feedAt - 1) / 2 < q then s.rimOut (16 * q) 2 (2 * n) 0
  else
    match (Sparse.get (fun _ => []) s.fab.ser n).find? fun e => decide (e.1 ≤ q) with
    | some e => e.2
    | none => 0

/-- The bit and the output enable that serialiser pin `n` sends now, in the second word after its word's boundary at the soonest; none before the
first word has been sampled (R563). -/
def State.serialOut (s : State) (n : Nat) : Option (Bool × Bool) :=
  match s.clk.epoch with
  | none => none
  | some e =>
    let m := (s.now - e) * 2
    let w := 16 * 2 ^ s.get (F.GPIO_GP_CFG_SER_RATE n)
    if m < w then none
    else
      let v := s.serWord n ((m / w - 1) * (w / 16))
      some (v.getLsbD (m % w / (w / 8)), v.getLsbD 8)

/-- Bit `b` of that lane changes between the edge before micro-step `m` and the one that begins it: a toggle of the rim (R328, R330). A tract in
set-reset shows none. -/
def State.rimToggles (s : State) (m d x y b : Nat) : Bool :=
  s.cellRuns (cellAt x y) && ((s.rimOut m d x y).getLsbD b != (s.rimOut (m - 1) d x y).getLsbD b)

/-- Bit `b` of that lane rises (R330). -/
def State.rimRises (s : State) (m d x y b : Nat) : Bool := s.rimToggles m d x y b && (s.rimOut m d x y).getLsbD b

/-- The number whose 16-bit pieces the lanes A of west cells `y`, `y + 1`, … show, the lowest first. -/
def State.rimWest (s : State) (m y n : Nat) : Nat := (List.range n).foldl (fun a i => a + (s.rimOut m 3 0 (y + i)).toNat * 2 ^ (16 * i)) 0

/-- The same of east cells. -/
def State.rimEast (s : State) (m y n : Nat) : Nat := (List.range n).foldl (fun a i => a + (s.rimOut m 1 255 (y + i)).toNat * 2 ^ (16 * i)) 0

end Sys2Proof.Machine
end

