-- ==== Sys2Proof/Machine/PowerBase.lean ====
section
/-! DEFINITION. Sys2Proof/Machine/PowerBase.lean: wake events of power domains (R443, R446), which units of several chapters send. -/
namespace Sys2Proof.Machine

/-- Domain states (R439). -/
abbrev P.on : Nat := 0
abbrev P.entering : Nat := 1
abbrev P.retention : Nat := 2
abbrev P.off : Nat := 3
abbrev P.waking : Nat := 4

/-- STATE of domain `d`. -/
def State.pwrState (s : State) (d : Nat) : Nat := s.get (F.PWR_D_STAT_STATE d)

/-- Put STATE. -/
def State.setPwrState (s : State) (d v : Nat) : State := s.set (F.PWR_D_STAT_STATE d) v

/-- A wake event of domain `d` (R443, R446): it starts an attempt from RETENTION or OFF, is kept during an entry, joins a wake in
progress, and does nothing while the domain is ON. -/
def State.wakeDomain (s : State) (d : Nat) : State :=
  if d = 0 ∨ 22 < d then s
  else
    let x := s.pwrDom d
    let st := s.pwrState d
    if st = P.retention ∨ st = P.off then
      if x.retry then s
      else (s.setPwrDom d { x with prior := st, attempts := 0, wakeAt := s.now }).setPwrState d P.waking
    else if st = P.entering then
      if x.wakeNext then s
      else
        let s1 := (s.setPwrDom d { x with wakeNext := true }).set (F.PWR_D_STAT_IMM d) 1
        if spineCycle s.now = spineCycle x.reqAt then (s1.countField (F.PWR_D_IMMEDIATE_IMMEDIATE_WAKE d) 1).raise 785
        else s1.countField (F.PWR_D_IMMEDIATE_ENTRY_WAKE d) 1
    else s

end Sys2Proof.Machine
end

