-- ==== Sys2Proof/Machine/Meas.lean ====
section
/-! DEFINITION. Sys2Proof/Machine/Meas.lean: converters, windows, monitors, comparators and calibration (R223-R252). -/
namespace Sys2Proof.Machine

/-- A signed field. -/
def State.getS (s : State) (f : FieldAt) : Int := (BitVec.ofNat (f.hi + 1 - f.lo) (s.get f)).toInt

/-- A signed 16-bit value as its bits. -/
def bits16 (v : Int) : Nat := (v % 65536).toNat

/-- sat16 (R246): the value, and whether it saturated. -/
def sat16 (v : Int) : Int × Bool :=
  if v < -32768 then (-32768, true) else if 32767 < v then (32767, true) else (v, false)

/-- The calibration formula of R246 with record `id`. -/
def State.calibrate (s : State) (id : Nat) (raw : Int) : Int × Bool :=
  sat16 (Int.tdiv (raw * (s.get (F.MEAS_FCAL_FG id) : Int) * (65536 + s.getS (F.MEAS_UCAL_UG id))) (2 ^ 31) +
    s.getS (F.MEAS_FCAL_FO id) + s.getS (F.MEAS_UCAL_UO id))

/-- Window states (R251). -/
abbrev W.none : Nat := 0
abbrev W.inside : Nat := 1
abbrev W.below : Nat := 2
abbrev W.above : Nat := 3

/-- The state of a value against a window (R233). -/
def windowState (lo hi v : Int) : Nat :=
  if hi ≤ lo then (if v < lo then W.below else W.above)
  else if v < lo then W.below else if v < hi then W.inside else W.above

/-! ## Converters (R224-R236) -/

abbrev A.off : Nat := 0
abbrev A.waiting : Nat := 1
abbrev A.running : Nat := 2

/-- Whether the ADC clock runs: from the core switch on (R226, R458). -/
def State.adcClock (s : State) : Bool := s.bit F.CLK_CTL_CORE

/-- Set event bit `b` of ADCk_STAT: DONE raises 656 + k, the errors raise 660 + k (R248). -/
def State.adcEvent (s : State) (k b : Nat) : State :=
  (s.setBitAt (R.MEAS_ADC_STAT k) b).raise (if b = 0 then 656 + k else 660 + k)

/-- Whether the list of converter `k` is one that EN accepts (R228, R232). -/
def State.listOk (s : State) (k : Nat) : Bool :=
  let b := s.get (F.MEAS_ADC_CTL_LIST_BASE k)
  let n := s.get (F.MEAS_ADC_CTL_LIST_LEN k)
  decide (1 ≤ n) && decide (b + n ≤ 128) && (List.range n).all fun i =>
    decide (s.get (F.MEAS_SEQ_WIN (b + i)) ≤ 16) && decide (s.get (F.MEAS_SEQ_CH (b + i)) ≤ 41)

/-- Whether the lists of converters `k` and `j` overlap (R232). -/
def State.listsMeet (s : State) (k j : Nat) : Bool :=
  let b := s.get (F.MEAS_ADC_CTL_LIST_BASE k)
  let c := s.get (F.MEAS_ADC_CTL_LIST_BASE j)
  decide (b < c + s.get (F.MEAS_ADC_CTL_LIST_LEN j)) && decide (c < b + s.get (F.MEAS_ADC_CTL_LIST_LEN k))

/-- Whether TRIG takes `mode` with PHASE and ARG as given: a PERIOD of 0, a STEP outside 1 to 4,096 and a PHASE not below STEP are reserved
(R8, R230, R231). -/
def trigFits (mode phase arg : Nat) : Bool :=
  if mode = 1 then decide (1 ≤ arg)
  else if mode = 2 then decide (1 ≤ arg % 8192) && decide (arg % 8192 ≤ 4096) && decide (phase < arg % 8192)
  else true

/-- Whether the trigger setting of converter `k` is one that TRIG takes. -/
def State.trigOk (s : State) (k : Nat) : Bool :=
  trigFits (s.get (F.MEAS_ADC_CTL_TRIG k)) (s.get (F.MEAS_ADC_TRIG_PHASE k)) (s.get (F.MEAS_ADC_TRIG_ARG k))

/-- Whether every field of converter `k` and of its list is valid (R8, R232). -/
def State.adcFits (s : State) (k : Nat) : Bool :=
  s.regValid (R.MEAS_ADC_CTL k) && s.regValid (R.MEAS_ADC_TRIG k) && s.trigOk k && s.listOk k

/-- ENG cycles in a slot: 16 ADC cycles (R225). -/
abbrev slotCycles : Nat := 160

/-- Slots that a converter which began to steal at `a` has stolen by `t`: one in every 1,000, 64 in all (R236). -/
def stolenBy (a t : Nat) : Nat := min 64 (1 + (t - a) / (1000 * slotCycles))

/-- Count the slots stolen so far (R236). -/
def State.stealCount (s : State) (k : Nat) : State :=
  let x := s.adc k
  if s.bit (F.MEAS_ADC_CAL_STEALING k) then
    (s.countBy (R.MEAS_ADC_STOLEN k) (stolenBy x.stealAt s.now - x.stolen)).setAdc k { x with stolen := max x.stolen (stolenBy x.stealAt s.now) }
  else s

/-- The stealing of converter `k` ends; the slots it stole are counted (R236). -/
def State.stealEnd (s : State) (k : Nat) : State :=
  if s.bit (F.MEAS_ADC_CAL_STEALING k) then (s.stealCount k).set (F.MEAS_ADC_CAL_STEALING k) 0 else s

/-- Start the list of converter `k` at a slot boundary `t` (R229, R230). -/
def State.adcStart (s : State) (k t : Nat) : State :=
  let b := s.get (F.MEAS_ADC_CTL_LIST_BASE k)
  let s1 := (s.set (F.MEAS_ADC_STAT_STATE k) A.running).wr (R.MEAS_ADC_TSTAMP k) (BitVec.ofNat 32 t)
  s1.setAdc k { s1.adc k with due := none, base := b, pos := 0, cur := s.rd (R.MEAS_SEQ b) }

/-- What converter `k` has come to by now without a command: a triggered list has started at its slot boundary, and stolen slots are
counted (R230, R236). -/
def State.adcDue (s : State) (k : Nat) : State :=
  let s1 := s.stealCount k
  match (s1.adc k).due with
  | some b => if b ≤ s1.now then (s1.setAdc k { s1.adc k with idleAt := b }).adcStart k b else s1
  | none => s1

/-- The four converters brought up to now. -/
def State.adcsDue (s : State) : State := (((s.adcDue 0).adcDue 1).adcDue 2).adcDue 3

/-- A trigger of converter `k` whose next slot boundary is `t`: the list starts there, an overrun is counted while a list runs, and it is
ignored in STATE OFF. A trigger that finds a list waiting for the same boundary adds nothing (R224, R230, R232). -/
def State.adcTrigger (s : State) (k t : Nat) : State :=
  let st := s.get (F.MEAS_ADC_STAT_STATE k)
  if st = A.waiting then
    if (s.adc k).due.isSome then s else (s.setAdc k { s.adc k with due := some t }).adcDue k
  else if st = A.running then (s.count (R.MEAS_ADC_OVERRUN k)).adcEvent k 1
  else s

/-- Converter `k` begins to act where EN, the ADC clock, ANA and a valid setting are there: it runs a calibration cycle in STATE OFF (R8,
R224, R227). A list that an image lays over that of a converter which acts keeps it OFF (R232). -/
def State.adcWake (s : State) (k : Nat) : State :=
  let x := s.adc k
  if s.bit (F.MEAS_ADC_CTL_EN k) && s.adcClock && s.domOn 20 && !x.live && s.adcFits k &&
      ([0, 1, 2, 3].all fun j => j == k || !(s.adc j).live || !s.listsMeet k j) then
    s.setAdc k { x with live := true, calib := true, stopping := s.get (F.MEAS_ADC_STAT_STATE k) == A.running,
                        enAt := some (x.enAt.getD s.now), idleAt := s.now }
  else s

/-- Every converter that can begins to act. -/
def State.adcsWake (s : State) : State := (((s.adcWake 0).adcWake 1).adcWake 2).adcWake 3

/-- A write of ADCk_CTL (R227, R230, R232): whether a PARAM response is due. TRIG keeps its value where the trigger setting in ADCk_TRIG
does not fit the one written (R8, R231). A START trigger starts the list at the next slot boundary, up to 160 cycles on, at a phase that is
not fixed (R231, log entry 18). -/
def State.adcCtlWrite (s : State) (k : Nat) (v : Word) : State × Bool :=
  let p := s.mergeWrite (R.MEAS_ADC_CTL k) (v &&& 0xBFFFFFFF#32)
  let was := s.bit (F.MEAS_ADC_CTL_EN k)
  let moved := was && (s.get (F.MEAS_ADC_CTL_LIST_BASE k) != p.1.get (F.MEAS_ADC_CTL_LIST_BASE k) ||
    s.get (F.MEAS_ADC_CTL_LIST_LEN k) != p.1.get (F.MEAS_ADC_CTL_LIST_LEN k))
  let s0 := if moved then
      (p.1.set (F.MEAS_ADC_CTL_LIST_BASE k) (s.get (F.MEAS_ADC_CTL_LIST_BASE k))).set (F.MEAS_ADC_CTL_LIST_LEN k) (s.get (F.MEAS_ADC_CTL_LIST_LEN k))
    else p.1
  let unfit := s.trigOk k && !s0.trigOk k
  let s1 := if unfit then s0.set (F.MEAS_ADC_CTL_TRIG k) (s.get (F.MEAS_ADC_CTL_TRIG k)) else s0
  let now := s1.bit (F.MEAS_ADC_CTL_EN k)
  let s2 :=
    if !was && now then
      if s.adcClock = false then (s1.set (F.MEAS_ADC_CTL_EN k) 0).adcEvent k 3
      else if s1.listOk k = false ∨ ([0, 1, 2, 3].any fun j => j != k && s1.bit (F.MEAS_ADC_CTL_EN j) && s1.listsMeet k j) = true then
        (s1.set (F.MEAS_ADC_CTL_EN k) 0).adcEvent k 2
      else s1.setAdc k { s1.adc k with seen := [], enAt := some s.now }
    else if was && !now then
      let u := s1.stealEnd k
      if u.get (F.MEAS_ADC_STAT_STATE k) = A.running then u.setAdc k { u.adc k with live := false, stopping := true }
      else (u.set (F.MEAS_ADC_STAT_STATE k) A.off).setAdc k { u.adc k with live := false, calib := false, due := none }
    else s1
  let s3 := s2.adcsWake
  let s4 := if v.getLsbD 30 then s3.drawn.adcTrigger k (s3.now + s3.fresh % 161) else s3
  (s4, p.2 || moved || unfit)

/-- A write of ADCk_TRIG (R230, R231): PHASE and ARG keep their values where TRIG does not take the two together (R8). -/
def State.adcTrigWrite (s : State) (k : Nat) (v : Word) : State × Bool :=
  let p := s.mergeWrite (R.MEAS_ADC_TRIG k) v
  if trigFits (s.get (F.MEAS_ADC_CTL_TRIG k)) (bitsOf v 27 16) (bitsOf v 15 0) then (p.1.adcsWake, p.2)
  else (((p.1.set (F.MEAS_ADC_TRIG_PHASE k) (s.get (F.MEAS_ADC_TRIG_PHASE k))).set (F.MEAS_ADC_TRIG_ARG k) (s.get (F.MEAS_ADC_TRIG_ARG k))).adcsWake, true)

/-- A write of SEQi (R228): an entry that the image left reserved may now let its converter act (R8). -/
def State.seqWrite (s : State) (a : Nat) (v : Word) : State × Bool :=
  let p := s.mergeWrite a v
  (p.1.adcsWake, p.2)

/-- Whether the angle of domain `d` has just entered, moving forward, a bin b with b mod `step` = `phase`; a jump across several counts
once (R231). -/
def State.binEntered (s : State) (d step phase : Nat) : Bool :=
  let p := posOf (s.domAngle d s.now)
  (List.range (min 4096 (p - s.posBefore d).toNat)).any fun i => ((p - (i : Int)) % 4096).toNat % step == phase

/-- The trigger sources of R230 that reach a converter from outside its own register. -/
def State.trigHolds (s : State) (k : Nat) (src : AdcTrig) : Bool :=
  let m := s.get (F.MEAS_ADC_CTL_TRIG k)
  let arg := s.get (F.MEAS_ADC_TRIG_ARG k)
  match src with
  | .timer =>
    match (s.adc k).enAt with
    | some e => m == 1 && decide (1 ≤ arg) && decide (e < s.now) && (s.now - e) % (arg * usCycles) == 0
    | none => false
  | .shaft =>
    let dm := s.get (F.MEAS_ADC_TRIG_DOM k)
    m == 2 && s.trigOk k && dm != 0 && s.domValid (dm - 1) && !s.domReverse (dm - 1) && !s.domStalled (dm - 1) &&
    (s.adc k).shaftAt != some s.now && s.binEntered (dm - 1) (arg % 8192) (s.get (F.MEAS_ADC_TRIG_PHASE k))
  | .sync => m == 3
  | .fabric line =>
    let e := s.stepNow - 2
    m == 4 && arg % 16 == line.val && (s.rimRises e 0 (96 + line.val) 255 0 || s.rimRises (e + 1) 0 (96 + line.val) 255 0)

/-- A SHAFT trigger is kept, so that one entry into a bin gives one (R231). -/
def State.shaftTaken (s : State) (k : Nat) (src : AdcTrig) : State :=
  if src = .shaft then s.setAdc k { s.adc k with shaftAt := some s.now } else s

/-- ADC_TRIGGER (R230-R232). A timer, shaft, SYNC or fabric trigger at `t`; the next slot boundary is `delay` cycles on. Without ANA or the
ADC clock no converter is there to take it. -/
def execAdcTrigger (k : Fin 4) (src : AdcTrig) (t : Nat) (delay : Fin 161) (s : State) : Out :=
  let s := (s.at_ t).adcsDue
  .next (if s.domOn 20 && s.trigHolds k.val src then (s.shaftTaken k.val src).adcTrigger k.val (s.now + delay.val) else s)

/-- ADC_CAL_CYCLE_DONE (R224, R235, R236). A full calibration cycle ends: AGE returns to 0, stealing ends, and a converter that calibrated
at its start enters WAITING; a CONT list begins. Its steps take the slots before WAITING, idle slots, or stolen ones: while a list runs only
a cycle whose 64th slot is stolen can end. -/
def execAdcCalCycleDone (k : Fin 4) (t : Nat) (s : State) : Out :=
  let s := (s.at_ t).adcsDue
  let n := k.val
  let x := s.adc n
  let steps := x.calib || s.get (F.MEAS_ADC_STAT_STATE n) == A.waiting ||
    (s.bit (F.MEAS_ADC_CAL_STEALING n) && stolenBy x.stealAt s.now == 64)
  if x.live && s.domOn 20 && steps && !(x.calib && x.stopping) then
    let s1 := s.stealEnd n
    let s2 := s1.setAdc n { s1.adc n with calAt := some s.now, idleAt := s.now, calib := false }
    if x.calib then
      let s3 := s2.set (F.MEAS_ADC_STAT_STATE n) A.waiting
      .next (if s.get (F.MEAS_ADC_CTL_TRIG n) = 0 then s3.adcStart n s.now else s3)
    else .next s2
  else .next s

/-- A window event of entry `i` in window `w`, from a result of converter `k` (R234). WIN_LAST keeps the event of a lower-numbered
converter of the same moment. -/
def State.windowEvent (s : State) (k i w st : Nat) (v : Int) : State :=
  let s0 := s.setBitAt R.MEAS_WIN_STAT w
  let s1 := if (List.range k).any fun j => (s.adc j).eventAt == some s.now then s0
    else s0.wr R.MEAS_WIN_LAST (BitVec.ofNat 32 (st * 2 ^ 30 + i * 2 ^ 16 + bits16 v))
  let s2 := if s1.bit (F.MEAS_WIN_CTL_IRQ w) then s1.raise 664 else s1
  let s3 := if s2.bit (F.MEAS_WIN_CTL_SNAP w) then s2.assertSnap 64 else s2
  s3.setAdc k { s3.adc k with eventAt := some s.now }

/-- Write RESi with a calibrated result, and judge its window (R229, R233, R234, R251). -/
def State.putResult (s : State) (k i w : Nat) (r : Int × Bool) : State :=
  let old := s.get (F.MEAS_RES_WSTATE i)
  let prev := if (s.adc k).seen.contains i ∧ old ≠ W.none then old else W.inside
  let st := if w = 0 then W.none else windowState (s.getS (F.MEAS_WIN_LO (w - 1))) (s.getS (F.MEAS_WIN_HI (w - 1))) r.1
  let c := (s.get (F.MEAS_RES_COUNT i) + 1) % 256
  let s1 := s.wr (R.MEAS_RES i)
    (BitVec.ofNat 32 (2 ^ 31 + (if r.2 then 2 ^ 30 else 0) + st * 2 ^ 26 + c * 2 ^ 16 + bits16 r.1))
  let s2 := s1.setAdc k { s1.adc k with seen := i :: (s1.adc k).seen.filter fun j => j != i }
  if w ≠ 0 ∧ st ≠ W.inside ∧ st ≠ prev then s2.windowEvent k i (w - 1) st r.1 else s2

/-- Conversions that an entry with setting `w` averages: 2^AVG (R228, R229). -/
def entryConversions (w : Word) : Nat := 2 ^ bitsOf w 16 14

/-- SEQ_ENTRY_DONE (R229, R232, R246). The last slot of the entry in progress ends at `t`; `raws` are its 2^AVG raw results. -/
def execSeqEntryDone (k : Fin 4) (t : Nat) (raws : List (BitVec 16)) (s : State) : Out :=
  let s := (s.at_ t).adcsDue
  let n := k.val
  let x := s.adc n
  let conv := entryConversions x.cur
  if s.domOn 20 = true ∧ s.get (F.MEAS_ADC_STAT_STATE n) = A.running ∧ raws.length = conv then
    let i := x.base + x.pos
    let sum := raws.foldl (fun a r => a + r.toInt) 0
    let r := s.calibrate (4 * n + bitsOf x.cur 13 12) (Int.tdiv sum conv)
    let s1 := s.set (F.MEAS_ADC_RAW_RAW n) ((raws.getLast?).getD 0).toNat
    let s2 := s1.putResult n i (bitsOf x.cur 25 21) r
    if x.stopping then
      .next ((s2.set (F.MEAS_ADC_STAT_STATE n) A.off).setAdc n { s2.adc n with stopping := false })
    else if s.get (F.MEAS_ADC_CTL_LIST_LEN n) ≤ x.pos + 1 then
      let s3 := (s2.set (F.MEAS_ADC_STAT_STATE n) A.waiting).adcEvent n 0
      .next (if s.get (F.MEAS_ADC_CTL_TRIG n) = 0 then s3.adcStart n s.now else s3)
    else .next (s2.setAdc n { s2.adc n with pos := x.pos + 1, cur := s2.rd (R.MEAS_SEQ (i + 1)) })
  else .next s

/-- ADCk_RAW as a read shows it: the last raw conversion. While an entry of several conversions runs, the table of commands has no event
for those that are done, and the last of them is a free value (R225, R249, log entry 159). -/
def State.adcRawOpen (s : State) (k : Nat) : Bool :=
  s.get (F.MEAS_ADC_STAT_STATE k) == A.running && decide (1 < entryConversions (s.adc k).cur)

/-- CAL_STEAL_START (R236, R37). At `t`, 10 s have passed without an idle slot: STEALING since the 10 s mark, and the first stolen slot. -/
def execCalStealStart (k : Fin 4) (t : Nat) (s : State) : Out :=
  let s := (s.at_ t).adcsDue
  let n := k.val
  let mark := (s.adc n).idleAt + 10 * secCycles
  if s.domOn 20 = true ∧ (s.adc n).live = true ∧ s.get (F.MEAS_ADC_STAT_STATE n) = A.running ∧
      s.bit (F.MEAS_ADC_CAL_STEALING n) = false ∧ mark ≤ s.now then
    let s1 := (s.set (F.MEAS_ADC_CAL_STEALING n) 1).setAdc n { s.adc n with stealAt := mark, stolen := 0 }
    .next ((s1.stealCount n).raise 667)
  else .next s

/-- AGE in 10 ms units since the last complete cycle, saturating; 0 before the first (R249). -/
def State.adcAge (s : State) (k : Nat) : Nat :=
  match (s.adc k).calAt with
  | some t => min 65535 ((s.now - t) / 4000000)
  | none => 0

/-- The converters stop as ANA leaves ON (R224), or as the ADC clock stops, which also sets CLK_OFF (R227). Results still to come are not
written. -/
def State.adcStop (s : State) (clock : Bool) : State :=
  [0, 1, 2, 3].foldl (fun t k =>
    let u := (t.adcDue k).stealEnd k
    let t1 := (u.set (F.MEAS_ADC_STAT_STATE k) A.off).setAdc k { u.adc k with live := false, calib := false, stopping := false, due := none }
    if clock ∧ t.bit (F.MEAS_ADC_CTL_EN k) = true then t1.adcEvent k 3 else t1) s

/-- The enabled converters start with a calibration cycle as ANA comes on or the ADC clock returns (R224, R227). -/
def State.adcResume (s : State) : State := s.adcsWake

/-! ## Monitors (R237, R238) -/

/-- MONITOR_CONVERSION (R223, R237, R238). The next monitor channel is converted; `raw` is its uncalibrated value. The monitor works once the
device has left RESET. -/
def execMonitorConversion (raw : BitVec 16) (s : State) : Out :=
  if s.mode = M.reset then .next s
  else
  let m := s.monNext
  let r := s.calibrate (0x18 + m) raw.toInt
  let old := s.get (F.MEAS_MON_WSTATE m)
  let prev := if old = W.none then W.inside else old
  let st := windowState (s.getS (F.MEAS_MON_LIM_LO m)) (s.getS (F.MEAS_MON_LIM_HI m)) r.1
  let c := (s.get (F.MEAS_MON_COUNT m) + 1) % 256
  let s1 := { s with monNext := (m + 1) % 9 }.wr (R.MEAS_MON m) (BitVec.ofNat 32 (2 ^ 31 + st * 2 ^ 26 + c * 2 ^ 16 + bits16 r.1))
  .next (if st ≠ W.inside ∧ st ≠ prev then (s1.setBitAt R.MEAS_MON_STAT m).raise (if m < 4 then 665 else 666) else s1)

/-! ## Comparators (R239-R243) -/

abbrev Cmp.off : Nat := 0
abbrev Cmp.below : Nat := 1
abbrev Cmp.inside : Nat := 2
abbrev Cmp.above : Nat := 3

/-- A threshold of comparator `k` as its DAC realises it, in steps of 64 LSB, rounded toward minus infinity (R239). A record
whose gain is 0 gives no code: a free value (log entry 12). -/
def State.cmpThreshold (s : State) (k : Nat) (v : Int) : State × Int :=
  let id := 0x10 + k
  let g := (s.get (F.MEAS_FCAL_FG id) : Int) * (65536 + s.getS (F.MEAS_UCAL_UG id))
  let p : State × Int :=
    if g = 0 then (s.drawn, (BitVec.ofNat 32 s.fresh).toInt)
    else (s, Int.tdiv ((v - s.getS (F.MEAS_FCAL_FO id) - s.getS (F.MEAS_UCAL_UO id)) * 2 ^ 31) g)
  (p.1, Int.fdiv p.2 64 * 64)

/-- The state to which comparator state `st` moves with input `x` (R240, R242). -/
def cmpNext (st : Nat) (lo hi hyst x : Int) : Nat :=
  if hi ≤ lo then (if x < lo then Cmp.below else Cmp.above)
  else if x < lo then Cmp.below
  else if hi ≤ x then Cmp.above
  else if st = Cmp.below then (if lo + hyst ≤ x then Cmp.inside else st)
  else if st = Cmp.above then (if x < hi - hyst then Cmp.inside else st)
  else Cmp.inside

/-- Wake every domain whose bit is set in `w` (R242). -/
def State.wakeMask (s : State) (w : Word) : State := (List.range 23).foldl (fun t d => if w.getLsbD d then t.wakeDomain d else t) s

/-- The filter of comparator `k` restarts (R243). -/
def State.restartFilter (s : State) (k : Nat) : State := { s with filters := Sparse.put (fun _ => 0) s.filters k s.now }

/-- The most filter ticks that can lie since the filter of comparator `k` last restarted: ADC cycles of 25 ns, or RC periods with TICK = 1
or without the ADC clock (R241, R243). -/
def State.filterTicks (s : State) (k : Nat) : Nat :=
  let d := s.now - Sparse.get (fun _ => 0) s.filters k
  if s.bit (F.MEAS_CMP_CFG_TICK k) = false ∧ s.adcClock = true then d / 10 + 1 else d * 32768 / 400000000 + 1

/-- COMPARATOR_STATE_CHANGE (R240-R243). At `t` the input of comparator `k` has held `x` for `ticks` filter ticks; those before a restart
of the filter do not count. -/
def execComparatorStateChange (k : Fin 8) (x : BitVec 16) (ticks t : Nat) (s : State) : Out :=
  let s := s.at_ t
  let n := k.val
  if s.bit (F.MEAS_CMP_CFG_EN n) = false ∨ min ticks (s.filterTicks n) < s.get (F.MEAS_CMP_CFG_FILT n) + 1 then .next s
  else
    let p := s.cmpThreshold n (s.getS (F.MEAS_CMP_THR_LO n))
    let q := p.1.cmpThreshold n (s.getS (F.MEAS_CMP_THR_HI n))
    let st := s.get (F.MEAS_CMP_STAT_STATE n)
    let new := cmpNext st p.2 q.2 (8 * s.get (F.MEAS_CMP_CFG_HYST n)) x.toInt
    let s1 := q.1
    if new = st then .next s1
    else
      let s2 := (s1.set (F.MEAS_CMP_STAT_STATE n) new).restartFilter n
      let evt := s.get (F.MEAS_CMP_CFG_EVT n)
      let hit := if new = Cmp.below then evt.testBit 2 else if new = Cmp.above then evt.testBit 1 else evt.testBit 0
      if hit then
        let act := s.get (F.MEAS_CMP_CFG_ACT n)
        let s3 := s2.setBitAt (R.MEAS_CMP_STAT n) (if new = Cmp.below then 1 else if new = Cmp.above then 2 else 0)
        let s4 := if act.testBit 1 then s3.raise (648 + n) else s3
        let s5 := if act.testBit 0 then s4.assertSnap 32 else s4
        .next (if act.testBit 2 then s5.wakeMask (s5.rd (R.MEAS_CMP_WAKE n)) else s5)
      else .next s2

/-- A filter that counts ADC cycles while the ADC clock is stopped moves to RC periods (R241). -/
def State.cmpFallback (s : State) (k : Nat) : State :=
  if s.bit (F.MEAS_CMP_CFG_EN k) && !s.bit (F.MEAS_CMP_CFG_TICK k) && !s.adcClock then s.set (F.MEAS_CMP_STAT_CLK_FALLBACK k) 1 else s

/-- Register `a` has been loaded from an image: a comparator that it enables filters from then on (R241, R243). -/
def State.cmpLoaded (s : State) (a : Nat) : State :=
  if 0x100C0800 ≤ a ∧ a < 0x100C0880 ∧ a % 16 = 0 then (s.restartFilter ((a - 0x100C0800) / 16)).cmpFallback ((a - 0x100C0800) / 16) else s

/-- A comparator whose EN a cleared image took away is OFF (R243). -/
def State.cmpsOff (s : State) : State :=
  (List.range 8).foldl (fun t k => if t.bit (F.MEAS_CMP_CFG_EN k) then t else t.set (F.MEAS_CMP_STAT_STATE k) Cmp.off) s

/-- A write of CMPk_CFG (R241, R243): the filter restarts; EN cleared turns the comparator OFF. -/
def State.cmpCfgWrite (s : State) (k : Nat) (v : Word) : State × Bool :=
  let p := (s.restartFilter k).mergeWrite (R.MEAS_CMP_CFG k) v
  if p.1.bit (F.MEAS_CMP_CFG_EN k) then (p.1.cmpFallback k, p.2) else (p.1.set (F.MEAS_CMP_STAT_STATE k) Cmp.off, p.2)

/-- A write of CMPk_THR: the filter restarts (R243). -/
def State.cmpThrWrite (s : State) (k : Nat) (v : Word) : State × Bool := (s.restartFilter k).mergeWrite (R.MEAS_CMP_THR k) v

/-! ## Calibration (R244-R247, R433) -/

/-- A trimmed rail setpoint beyond nominal ±6.25 % is clamped (R433). `id` 0x21-0x24. -/
def State.trimCheck (s : State) (id : Nat) : State :=
  let nom : Int := match id with | 0x21 => 800 | 0x22 => 1800 | 0x23 => 3300 | _ => 1200
  let y := (s.calibrate id nom).1
  if (y - nom) * 16 > nom ∨ (nom - y) * 16 > nom then (s.set F.PWR_SUPPLY_STAT_TRIM_CLAMP 1).raise 786 else s

/-- A write of UCALid: a rail's setpoint is trimmed again, and a comparator's filter restarts (R243, R246, R433). -/
def State.ucalWrite (s : State) (id : Nat) (v : Word) : State :=
  let s0 := s.wr (R.MEAS_UCAL id) v
  let s1 := if 0x10 ≤ id ∧ id < 0x18 then s0.restartFilter (id - 0x10) else s0
  if 0x21 ≤ id ∧ id ≤ 0x24 then s1.trimCheck id else s1

end Sys2Proof.Machine
end

