-- ==== Sys2Proof/Machine/Net.lean ====
section
/-! DEFINITION. Sys2Proof/Machine/Net.lean: the switch, scheduled traffic, gPTP, the capture unit and the IPv4 stack (R253-R265). -/
namespace Sys2Proof.Machine

/-- The shared frame buffer in bytes (R259). -/
abbrev netBuffer : Nat := 524288

/-- Whether the network ports serve: from INIT on, with domain NET ON (R26, R438). -/
def State.netUp (s : State) : Bool := s.alive && s.domOn 18

/-- Whether the IPv4 stack serves: with the network, and in QUARANTINE for the minimal responder (R26, R277). -/
def State.stackUp (s : State) : Bool := s.netUp || (s.mode == M.quarantine && s.domOn 18)

/-- Whether port `p` (4 = stack) is a member of the VLAN entry `v`; the stack port belongs to the management VLAN only (R256). -/
def State.vlanMember (s : State) (v p : Nat) : Bool :=
  if p = 4 then s.get (F.NET_VLAN_A_VID v) == s.get F.NET_SW_VLAN_MVID
  else (s.get (F.NET_VLAN_B_MEMBER v)).testBit p

/-- The VLAN entry of a VID (R256). -/
def State.vlanOf (s : State) (vid : Nat) : Option Nat :=
  (List.range 64).find? fun v => s.bit (F.NET_VLAN_A_EN v) && s.get (F.NET_VLAN_A_VID v) == vid

/-- A port that can send and receive frames. -/
def State.portOn (s : State) (p : Nat) : Bool := p == 4 || (s.bit (F.NET_E_CFG_EN p) && s.bit (F.NET_E_STAT_LINK p))

/-- Occupancy of the shared buffer (R259). -/
def Net.occupancy (n : Net) : Nat := (n.frames.map fun f => f.len).foldl (· + ·) 0

/-! ## Scheduled traffic (R258, R260) -/

/-- The operational list of port `p`. -/
def State.gcl (s : State) (p : Nat) : Gcl := Sparse.get (fun _ => {}) s.net.gcl p

/-- Put it. -/
def State.setGcl (s : State) (p : Nat) (g : Gcl) : State :=
  { s with net := { s.net with gcl := Sparse.put (fun _ => {}) s.net.gcl p g } }

/-- gPTP time in ns. -/
def State.ptpNs (s : State) : Nat := s.ptpHalf / 2

/-- The entry in force at offset `off` of the cycle, with the time left in it: the last entry is held until the cycle ends, and
the cycle cuts the list short (R260). -/
def gclAt (iv : Nat → Nat) (cycle : Nat) : Nat → Nat → Nat → Nat → Nat × Nat
  | 0, i, _, off => (i, cycle - off)
  | n + 1, i, start, off =>
    if off < start + iv i then (i, min (start + iv i) cycle - off)
    else if n = 0 then (i, cycle - off)
    else gclAt iv cycle n (i + 1) (start + iv i) off

/-- Offset of gPTP time in the cycle of port `p`. -/
def State.gclOff (s : State) (p : Nat) : Nat := (s.ptpNs - (s.gcl p).base) % (s.gcl p).cycle

/-- The entry in force and the time left in it. -/
def State.gclNow (s : State) (p : Nat) : Nat × Nat :=
  gclAt (fun i => s.get (F.NET_GCL_OPER_INTERVAL p i)) (s.gcl p).cycle (s.gcl p).len 0 0 (s.gclOff p)

/-- Where entry `i` of the operational list of port `p` begins in the cycle, the list not cut short (R260). -/
def State.gclStart (s : State) (p i : Nat) : Nat := (List.range i).foldl (fun a j => a + s.get (F.NET_GCL_OPER_INTERVAL p j)) 0

/-- How long entry `i` lasts: the cycle cuts the list short, and the last entry is held until the cycle ends (R260). -/
def State.gclLasts (s : State) (p i : Nat) : Nat :=
  let left := (s.gcl p).cycle - s.gclStart p i
  if i + 1 = (s.gcl p).len then left else min left (s.get (F.NET_GCL_OPER_INTERVAL p i))

/-- How long from the start of entry `i` class `c` stays open, over at most `n` entries; one that the cycle cuts off takes no time. -/
def State.openRun (s : State) (p c : Nat) : Nat → Nat → Nat
  | 0, _ => 0
  | n + 1, i =>
    if s.gclLasts p i = 0 then s.openRun p c n ((i + 1) % (s.gcl p).len)
    else if (s.get (F.NET_GCL_OPER_GATES p i)).testBit c then s.gclLasts p i + s.openRun p c n ((i + 1) % (s.gcl p).len)
    else 0

/-- Whether port `p` may start a frame of class `c` and `len` bytes now: its gate is open, and the frame finishes before it closes
(R258, R260). An entry whose time is over has no time left. With EN = 0 every gate is open; the stack port has no gates. -/
def State.gateOpen (s : State) (p c len : Nat) : Bool :=
  if p = 4 || !s.bit (F.NET_E_GCL_CTL_EN p) || (s.gcl p).len == 0 then true
  else
    let g := s.gcl p
    let rate := match s.get (F.NET_E_STAT_SPEED p) with | 0 => 10 | 1 => 100 | _ => 1000
    (s.get (F.NET_GCL_OPER_GATES p g.idx)).testBit c && (s.gclNow p).1 == g.idx &&
      decide (len * 8000 / rate ≤ (s.gclNow p).2 + s.openRun p c (g.len - 1) ((g.idx + 1) % g.len))

/-- The frame that port `p` sends next: the highest traffic class whose gate is open, its oldest frame (R258). -/
def State.nextFrame (s : State) (p : Nat) : Option NetFrame :=
  [7, 6, 5, 4, 3, 2, 1, 0].findSome? fun c =>
    match s.net.frames.find? fun f => f.ports.contains p && f.tc == c with
    | some f => if s.gateOpen p c f.len then some f else none
    | none => none

/-- Take port `p` off the frame it has sent; a frame that waits for no port leaves the buffer. -/
def dropPort (p : Nat) (x : NetFrame) : List NetFrame → List NetFrame
  | [] => []
  | f :: r =>
    if f = x then
      let q := f.ports.filter fun k => k != p
      if q = [] then r else { f with ports := q } :: r
    else f :: dropPort p x r

/-- Bytes of a gPTP message with its Ethernet header and FCS (lengths of IEEE 802.1AS-2020, log entry 160). -/
def PtpOut.len : PtpOut → Nat
  | .sync _ => 64
  | .followUp .. => 94
  | .announce .. => 94
  | _ => 72

/-- A gPTP message of this device waits at port `p`, in traffic class 7 (R258). -/
def State.ptpQueue (s : State) (p : Nat) (m : PtpOut) : State :=
  if s.portOn p && s.bit (F.NET_E_CFG_PTP p) then
    { s with net := { s.net with frames := s.net.frames ++ [⟨0x0180C200000E, s.stackMac, 0, 7, 7, m.len, [p], some m⟩] } }
  else s

/-- What follows the departure of a gPTP message: a Sync is followed by its Follow_Up, of the grandmaster with the time of departure, of a
relay with the master's time and the time that the message stayed here; a peer delay answer by its follow-up (R253, R261). -/
def State.ptpSent (s : State) (p : Nat) (m : PtpOut) : State :=
  match m with
  | .sync q =>
    match s.ptp.role with
    | some (false, _, _) =>
      let r := s.ptp.relay
      s.ptpQueue p (.followUp q r.1 (r.2.1 + ((s.ptpNs : Int) - r.2.2)))
    | _ => s.ptpQueue p (.followUp q s.ptpNs 0)
  | .pdelayResp q _ => s.ptpQueue p (.pdelayRespFollowUp q s.ptpNs)
  | _ => s

/-- Port `p` sends its next frame. A frame to the stack port goes into the stack's receive queue of 64 frames (R256, R258, R293). -/
def State.transmit (s : State) (p : Nat) : State :=
  match s.nextFrame p with
  | none => s
  | some f =>
    let s1 := { s with net := { s.net with frames := dropPort p f s.net.frames } }
    if p = 4 then
      if 64 ≤ s1.net.stackQ then s1.raise 718 else { s1 with net := { s1.net with stackQ := s1.net.stackQ + 1 } }
    else
      let untag := f.ptp.isSome || (match s1.vlanOf f.vid with
        | some v => (s1.get (F.NET_VLAN_B_UNTAG v)).testBit p
        | none => false)
      let s2 : State := { s1 with net := { s1.net with
          out := Sparse.put (fun _ => none) s1.net.out p (some ⟨f.dst, f.src, f.vid, f.pri, f.len, !untag, f.ptp⟩) } }
      match f.ptp with
      | some m => s2.ptpSent p m
      | none => s2

/-! ## Receiving frames (R254-R259) -/

/-- A frame discarded and counted in RX_ERR of its port (R254, R256). -/
def State.rxErr (s : State) (p : Nat) : State :=
  if p < 4 then (s.count (R.NET_E_RX_ERR p)).raise (708 + p) else s

/-- Bring the token bucket of port `p` up to date: RATE Mb/s is RATE / 400 bit in an ENG cycle (R259). -/
def State.refill (s : State) (p : Nat) : State :=
  let n := s.net
  let used := Sparse.get (fun _ => 0) n.used p - s.get (F.NET_E_POLICE_RATE p) * (s.now - Sparse.get (fun _ => 0) n.usedAt p)
  { s with net := { n with used := Sparse.put (fun _ => 0) n.used p used, usedAt := Sparse.put (fun _ => 0) n.usedAt p s.now } }

/-- Police a frame of class `tc` and `len` bytes from port `p`: whether it is accepted (R259). -/
def State.police (s : State) (p tc len : Nat) : State × Bool :=
  let be := (s.get F.NET_SW_CFG_BE_MASK).testBit tc
  let s1 := if p < 4 then s.refill p else s
  let used := Sparse.get (fun _ => 0) s1.net.used p
  let occ := s1.net.occupancy
  if be = true ∧ p < 4 ∧ s1.get (F.NET_E_POLICE_BURST p) * 3276800 < used + len * 3200 then
    (s1.count (R.NET_E_DROP_BE p), false)
  else if be = true ∧ s1.get F.NET_SW_CFG_BE_THR * netBuffer ≤ occ * 16 then
    ((if p < 4 then s1.count (R.NET_E_DROP_BE p) else s1).raise 713, false)
  else if (95 * netBuffer ≤ occ * 100 ∧ tc < 6) ∨ netBuffer < occ + len then
    ((if p < 4 then s1.count (R.NET_E_DROP_OTHER p) else s1).raise 713, false)
  else
    (if be = true ∧ p < 4 then
      { s1 with net := { s1.net with used := Sparse.put (fun _ => 0) s1.net.used p (used + len * 3200) } } else s1, true)

/-- An entry of the learning table as its registers hold it: MAC, VID, port, STATIC (R255; the places of the fields are the model's,
log entry 23). An entry whose registers are both 0 is vacant. -/
structure FdbEntry where
  mac : Nat
  vid : Nat
  port : Nat
  fixed : Bool
deriving DecidableEq, Repr

/-- Entry `e` of the learning table. -/
def State.fdb (s : State) (e : Nat) : FdbEntry :=
  let b := s.rdN (R.NET_FDB_B e)
  ⟨s.rdN (R.NET_FDB_A e) + b % 65536 * 2 ^ 32, b / 2 ^ 16 % 4096, b / 2 ^ 28 % 8, b / 2 ^ 31 == 1⟩

/-- Put it. -/
def State.setFdb (s : State) (e : Nat) (x : FdbEntry) : State :=
  let s1 := (s.wr (R.NET_FDB_A e) (BitVec.ofNat 32 x.mac)).wr (R.NET_FDB_B e)
    (BitVec.ofNat 32 (x.mac / 2 ^ 32 % 65536 + x.vid * 2 ^ 16 + x.port * 2 ^ 28 + (if x.fixed then 2 ^ 31 else 0)))
  { s1 with net := { s1.net with seen := Sparse.put (fun _ => 0) s1.net.seen e s1.now } }

/-- The entries in use, ascending. -/
def State.fdbUsed (s : State) : List Nat :=
  (s.regs.filterMap fun r => if R.NET_FDB_A 0 ≤ r.1 ∧ r.1 < R.NET_FDB_A 4096 then some ((r.1 - R.NET_FDB_A 0) / 8) else none).eraseDups

/-- The entry of an address. -/
def State.fdbFind (s : State) (vid mac : Nat) : Option Nat := s.fdbUsed.find? fun e => (s.fdb e).vid == vid && (s.fdb e).mac == mac

/-- Learn that `mac` of `vid` is at port `p` (R255). Static entries stay. -/
def State.learn (s : State) (vid mac p : Nat) : State :=
  match s.fdbFind vid mac with
  | some e => if (s.fdb e).fixed then s else s.setFdb e ⟨mac, vid, p, false⟩
  | none =>
    let used := s.fdbUsed
    match (List.range 4096).find? fun e => !used.contains e with
    | some e => s.setFdb e ⟨mac, vid, p, false⟩
    | none => (s.count R.NET_LEARN_FULL).raise 712

/-- The egress ports of a frame: the one port of a known unicast address, else every member port but the port of arrival (R255). -/
def State.egress (s : State) (p v vid dst : Nat) : List Nat :=
  match (if Nat.testBit dst 40 then none else s.fdbFind vid dst) with
  | some e => if (s.fdb e).port = p then [] else [(s.fdb e).port]
  | none => [0, 1, 2, 3, 4].filter fun q => q != p && s.vlanMember v q

/-- Put an accepted frame into the buffer for its egress ports (R255, R258). -/
def State.forward (s : State) (p v vid pri tc : Nat) (f : EthFrame) : State :=
  let ports := (s.egress p v vid f.dst.toNat).filter fun q => s.portOn q
  if ports = [] then s
  else { s with net := { s.net with frames := s.net.frames ++ [⟨f.dst.toNat, f.src.toNat, vid, pri, tc, f.len, ports, none⟩] } }

/-- SWITCH_FRAME_RX (R254-R259). Since the last command the ports of `sent` have each sent a frame; then port `p` (4 = stack port)
receives frame `f` at `t`. gPTP frames come as PTP_MESSAGE_RX. -/
def execSwitchFrameRx (p : Fin 5) (t : Nat) (sent : List (Fin 5)) (f : EthFrame) (s : State) : Out :=
  let s := s.at_ t
  if s.netUp = true ∧ s.portOn p.val = true then
    let s := sent.foldl (fun u q => u.transmit q.val) s
    let second := f.tag.isSome && (f.etype == 0x8100#16 || f.etype == 0x88A8#16)
    if f.etype = 0x8808#16 ∨ 1522 < f.len ∨ f.fcsOk = false ∨ second = true then .next (s.rxErr p.val)
    else
      let vid := match f.tag with
        | some (_, v) => v.val
        | none => if p.val < 4 then s.get (F.NET_E_CFG_PVID p.val) else s.get F.NET_SW_VLAN_MVID
      match s.vlanOf vid with
      | none => .next (s.rxErr p.val)
      | some v =>
        if s.vlanMember v p.val = false then .next (s.rxErr p.val)
        else
          let pri := if p.val = 4 then s.get F.NET_SW_CFG_STACK_PRI
            else match f.tag with | some (c, _) => c.val | none => s.get (F.NET_E_CFG_PRI p.val)
          let tc := if p.val < 4 then s.get (F.NET_E_TCMAP_MAP p.val) / 8 ^ pri % 8 else pri
          let r := s.police p.val tc f.len
          if r.2 then .next ((r.1.learn vid f.src.toNat p.val).forward p.val v vid pri tc f) else .next r.1
  else .next s

/-- FDB_AGE_EXPIRY (R255). AGE_S seconds after its last frame a learned entry is removed; static entries never are. -/
def execFdbAgeExpiry (vid : Fin 4096) (mac : BitVec 48) (t : Nat) (s : State) : Out :=
  let s := s.at_ t
  match s.fdbFind vid.val mac.toNat with
  | some e =>
    if (s.fdb e).fixed = false ∧ s.regValid R.NET_SW_CFG = true ∧ Sparse.get (fun _ => 0) s.net.seen e + s.get F.NET_SW_CFG_AGE_S * secCycles ≤ s.now then
      .next ((s.wr (R.NET_FDB_A e) 0).wr (R.NET_FDB_B e) 0)
    else .next s
  | none => .next s

/-! ## The best master (R261) -/

/-- Whether vector `a` is better than `b` (R261; the order of IEEE 802.1AS-2020, log entry 19). -/
def PtpVector.better (a b : PtpVector) : Bool :=
  let k := fun (x : PtpVector) => [x.prio1, x.cls, x.acc, x.var, x.prio2, x.ident]
  match ((k a).zip (k b)).find? fun q => q.1 != q.2 with
  | some (x, y) => decide (x < y)
  | none => false

/-- The instance's own vector; its identity is formed from the MAC address (log entry 19). -/
def State.ownVector (s : State) : PtpVector :=
  ⟨s.get F.NET_PTP_CFG_PRIO1, s.get F.NET_PTP_CLASS_CLASS, s.get F.NET_PTP_CLASS_ACCURACY, s.get F.NET_PTP_CLASS_VARIANCE,
    s.get F.NET_PTP_CFG_PRIO2, (let m := s.stackMac; m / 2 ^ 24 * 2 ^ 40 + 0xFFFE * 2 ^ 24 + m % 2 ^ 24)⟩

/-- Put the role: GM and the slave port, with the identity of the grandmaster; a change of grandmaster or of the port's role raises source
714 (R293). -/
def State.ptpRole (s : State) (gm : Bool) (port ident : Nat) : State :=
  if s.ptp.role = some (gm, port, ident) then s
  else
    let s1 : State := { s with ptp := { s.ptp with role := some (gm, port, ident) } }
    ((s1.set F.NET_PTP_STAT_GM (if gm then 1 else 0)).set F.NET_PTP_STAT_SLAVE_PORT port).raise 714

/-- Whether port `p` takes part in gPTP (R261). -/
def State.ptpPort (s : State) (p : Nat) : Bool := s.portOn p && s.bit (F.NET_E_CFG_PTP p)

/-- The announced masters that count: of ports that take part, heard within 3 announce intervals of 1 s (log entry 160). -/
def State.ptpMasters (s : State) : List (Nat × PtpHeard) :=
  [0, 1, 2, 3].filterMap fun p =>
    match Sparse.get (fun _ => none) s.ptp.heard p with
    | some h => if s.ptpPort p && decide (s.now < h.at_ + 3 * secCycles) then some (p, h) else none
    | none => none

/-- The better of two announced masters: its vector, then fewer steps, then the lower port (R261, log entry 19). -/
def betterMaster (a b : Nat × PtpHeard) : Nat × PtpHeard :=
  if a.2.v.better b.2.v then a
  else if b.2.v.better a.2.v then b
  else if b.2.steps < a.2.steps then b else a

/-- The best master clock algorithm over the masters announced and this instance (R261). -/
def State.ptpSelect (s : State) : State :=
  if ([0, 1, 2, 3].any s.ptpPort) = false then s
  else
    match s.ptpMasters with
    | [] => s.ptpRole true 0 s.ownVector.ident
    | m :: r =>
      let b := r.foldl betterMaster m
      if s.ownVector.better b.2.v then s.ptpRole true 0 s.ownVector.ident else s.ptpRole false b.1 b.2.v.ident

/-! ## Links -/

/-- A packet that the stack sends by itself. -/
def State.stackSend (s : State) (p : StackOut) : State := { s with net := { s.net with stackOut := p :: s.net.stackOut } }

/-- ETH_LINK_CHANGE (R254, R264). The link of port `p` comes up or goes down; a partner that offers only half duplex leaves it down
with HDX set. The first link that comes up makes the stack send a gratuitous ARP. A port that leaves loses its gPTP role (R293). -/
def execEthLinkChange (p : Fin 4) (up : Bool) (speed : Fin 3) (halfDuplex : Bool) (s : State) : Out :=
  if s.domOn 18 then
    let s0 := if halfDuplex then s.set (F.NET_E_STAT_HDX p) 1 else s
    let new := up && !halfDuplex
    let was := s.bit (F.NET_E_STAT_LINK p)
    let first := new && !([0, 1, 2, 3].any fun k => s.bit (F.NET_E_STAT_LINK k))
    if new = was then .next s0
    else
      let s1 := (s0.set (F.NET_E_STAT_LINK p) (if new then 1 else 0)).set (F.NET_E_STAT_SPEED p) (if new then speed.val else s0.get (F.NET_E_STAT_SPEED p))
      let s2 := s1.raise (704 + p)
      let s3 := if first && s2.stackUp then s2.stackSend (.gratuitous s2.stackAddr s2.stackMac) else s2
      .next (if s3.ptp.role.isSome && s3.netUp then s3.ptpSelect else s3)
  else .next s

/-- GCL_CTL.CHANGE written 1 (R260): LEN = 0 or a reserved INTERVAL refuses it; else the administrative list waits for its first
cycle start. -/
def State.gclChange (s : State) (p : Nat) : State :=
  let len := s.get (F.NET_E_GCL_CTL_LEN p)
  if len = 0 ∨ (List.range len).any (fun i => s.get (F.NET_GCL_ADMIN_INTERVAL p i) == 0) = true then
    ((s.set (F.NET_E_GCL_CTL_CHANGE p) 0).set (F.NET_E_GCL_CTL_GCL_ERR p) 1).raise 717
  else (s.set (F.NET_E_GCL_CTL_CHANGE p) 1).set (F.NET_E_GCL_CTL_PENDING p) 1

/-- A write of GCL_CTL (R5, R260). -/
def State.gclCtlWrite (s : State) (p : Nat) (v : Word) : State × Bool :=
  let r := s.mergeWrite (R.NET_E_GCL_CTL p) (v &&& 0xBFFFFFFF#32)
  (if v.getLsbD 30 then r.1.gclChange p else r.1, r.2)

/-- BASE in ns of gPTP time. -/
def State.gclBase (s : State) (p : Nat) : Nat := s.rdN (R.NET_E_GCL_BASE_S p) * 1000000000 + s.get (F.NET_E_GCL_BASE_NS_NS p)

/-- The gate control lists that image fields give are operational from the start (R260). -/
def State.startGcl (s : State) : State :=
  (List.range 4).foldl
    (fun u p => if u.get (F.NET_E_GCL_CTL_LEN p) = 0 then u
      else u.setGcl p ⟨u.get (F.NET_E_GCL_CTL_LEN p), u.get (F.NET_E_GCL_CYCLE_CYCLE_NS p), u.gclBase p, 0⟩) s

/-- Whether a cycle of the administrative list of port `p` starts now: gPTP time has come to BASE, or to BASE and whole cycles, since the ENG
cycle before (R260). -/
def State.cycleStarts (s : State) (p : Nat) : Bool :=
  let b := 2 * s.gclBase p
  decide (b ≤ s.ptpHalf) && decide ((s.ptpHalf - b) % (2 * s.get (F.NET_E_GCL_CYCLE_CYCLE_NS p)) < s.ptpHalf - { s with now := s.now - 1 }.ptpHalf)

/-- GCL_SWAP (R260). At `t`, the first cycle start at or after BASE, the administrative list of port `p` becomes operational. -/
def execGclSwap (p : Fin 4) (t : Nat) (s : State) : Out :=
  let s := s.at_ t
  if s.bit (F.NET_E_GCL_CTL_PENDING p) = true ∧ s.cycleStarts p = true then
    let s1 := (List.range 256).foldl (fun u i => u.wr (R.NET_GCL_OPER p i) (u.rd (R.NET_GCL_ADMIN p i))) s
    let s2 := s1.setGcl p ⟨s.get (F.NET_E_GCL_CTL_LEN p), s.get (F.NET_E_GCL_CYCLE_CYCLE_NS p), s.gclBase p, 0⟩
    .next (((s2.set (F.NET_E_GCL_CTL_PENDING p) 0).set (F.NET_E_GCL_CTL_CHANGE p) 0).raise 716)
  else .next s

/-- GCL_ENTRY_ADVANCE (R260). At `t` the gates of port `p` move to the entry that is in force by gPTP time. -/
def execGclEntryAdvance (p : Fin 4) (t : Nat) (s : State) : Out :=
  let s := s.at_ t
  if (s.gcl p).len = 0 then .next s else .next (s.setGcl p { s.gcl p with idx := (s.gclNow p).1 })

/-! ## Time synchronisation (R261-R263) -/

/-- The sync interval in ENG cycles (R261): LOG_SYNC holds minus the logarithm. -/
def State.syncInterval (s : State) : Nat := secCycles / 2 ^ s.get F.NET_PTP_CFG_LOG_SYNC

/-- PTP_MESSAGE_RX (R261, R262). A gPTP message is stamped at port `p` at `t`; one of another domain than PTP_CFG.DOMAIN is not for this
instance, and peer delay messages belong to the link. A Sync of the master keeps its stamp; its Follow_Up gives the offset from the
master, the servo steers the increment, whose value the spec leaves to IEEE 802.1AS (a free value), and the time goes on to the
other ports; an Announce goes to the best master clock algorithm; a peer delay request is answered, a completed exchange of this
device's own gives the delay. -/
def execPtpMessageRx (p : Fin 4) (t : Nat) (dom : Fin 256) (m : PtpMsg) (s : State) : Out :=
  let s := s.at_ t
  if s.netUp = true ∧ s.ptpPort p.val = true then
    let own := dom.val == s.get F.NET_PTP_CFG_DOMAIN
    let slave := own && (match s.ptp.role with | some (false, q, _) => q == p.val | _ => false)
    match m with
    | .sync q => .next (if slave then { s with ptp := { s.ptp with lastSync := s.now, stamp := s.ptpNs, syncSeq := q.toNat } } else s)
    | .followUp q origin corr =>
      if slave ∧ s.ptp.syncSeq = q.toNat then
        let c := corr + (Sparse.get (fun _ => 0) s.ptp.delay p.val : Nat)
        let off : Int := (s.ptp.stamp : Int) - (origin + c)
        let s1 := (s.wr R.NET_PTP_OFFSET (BitVec.ofInt 32 off)).set F.NET_PTP_STAT_SYNCED 1
        let s2 : State := { s1.drawn with ptp := { s1.ptp with
          halfNs := s1.ptpHalf, ref := s1.now, inc := s1.fresh, relay := (origin, c, s1.ptp.stamp), seqOut := (s1.ptp.seqOut + 1) % 65536 } }
        .next (([0, 1, 2, 3].filter fun k => k != p.val).foldl (fun (u : State) k => u.ptpQueue k (.sync s.ptp.seqOut)) s2)
      else .next s
    | .announce a b c d e f steps =>
      if own && f != s.ownVector.ident then
        .next { s with ptp := { s.ptp with heard := Sparse.put (fun _ => none) s.ptp.heard p.val (some ⟨⟨a, b, c, d, e, f⟩, steps, s.now⟩) } }.ptpSelect
      else .next s
    | .pdelayReq q => .next (s.ptpQueue p.val (.pdelayResp q.toNat s.ptpNs))
    | .pdelayDone q d =>
      .next (if Sparse.get (fun _ => none) s.ptp.asked p.val = some q.toNat then
        { s with ptp := { s.ptp with
          delay := Sparse.put (fun _ => 0) s.ptp.delay p.val d, asked := Sparse.put (fun _ => none) s.ptp.asked p.val none } } else s)
  else .next s

/-- Announce on the ports that are not the slave's, and a peer delay request on each (R261). -/
def State.ptpAnnounce (s : State) : State :=
  let q := s.ptp.seqOut
  let s1 : State := { s with ptp := { s.ptp with announcedAt := some s.now, seqOut := (q + 1) % 65536 } }
  let said : PtpVector × Nat × Nat := match s.ptp.role with
    | some (false, p, _) =>
      match Sparse.get (fun _ => none) s.ptp.heard p with
      | some h => (h.v, h.steps + 1, p)
      | none => (s.ownVector, 0, 4)
    | _ => (s.ownVector, 0, 4)
  [0, 1, 2, 3].foldl (fun u k =>
    let u1 := if k = said.2.2 then u else u.ptpQueue k (.announce q said.1 said.2.1)
    if s.ptpPort k then { u1.ptpQueue k (.pdelayReq q) with ptp := { u1.ptp with asked := Sparse.put (fun _ => none) u1.ptp.asked k (some q) } } else u1) s1

/-- PTP_SYNC_INTERVAL (R261). Each sync interval the best master is chosen again, a grandmaster sends Sync on every port that takes part,
and every second Announce and peer delay requests go out (log entry 160). -/
def execPtpSyncInterval (t : Nat) (s : State) : Out :=
  let s := s.at_ t
  if s.netUp = true ∧ ([0, 1, 2, 3].any s.ptpPort) = true then
    let s1 := s.ptpSelect
    let s2 := match s1.ptp.role with
      | some (true, _, _) =>
        let q := s1.ptp.seqOut
        [0, 1, 2, 3].foldl (fun (u : State) k => u.ptpQueue k (.sync q)) { s1 with ptp := { s1.ptp with seqOut := (q + 1) % 65536 } }
      | _ => s1
    .next (if (match s2.ptp.announcedAt with | some a => decide (a + secCycles ≤ s2.now) | none => true) then s2.ptpAnnounce else s2)
  else .next s

/-- PTP_SYNC_LOST (R293). At `t`, no Sync has come within 3 sync intervals on the slave port. -/
def execPtpSyncLost (t : Nat) (s : State) : Out :=
  let s := s.at_ t
  let slave := match s.ptp.role with | some (false, _, _) => true | _ => false
  if s.netUp = true ∧ slave = true ∧ s.ptp.lastSync + 3 * s.syncInterval ≤ s.now then .next (s.raise 715)
  else .next s


/-- A write of XCAP_CTL (R263): GO captures at once and reads 0. -/
def State.xcapCtlWrite (s : State) (v : Word) : State :=
  let s1 := (s.mergeWrite R.NET_XCAP_CTL (v &&& 0x7FFFFFFF#32)).1
  if v.getLsbD 31 then s1.xcap 0 else s1

/-- GPTP_SECOND_ROLLOVER (R263). At `t` the gPTP seconds count rolls over: a capture when it is enabled. -/
def execGptpSecondRollover (t : Nat) (s : State) : Out := .next ((s.at_ t).xcap 1)

/-! ## The IPv4 stack (R264, R265) -/

/-- The stack takes the next frame of its receive queue. -/
def State.stackTake (s : State) : State := { s with net := { s.net with stackQ := s.net.stackQ - 1 } }

/-- IP_DATAGRAM_RX (R265). The stack discards the datagrams of the list and counts each. The others go on as ICMP_ECHO_RX or
IVWYN_DATAGRAM_RX, or, of another protocol, are dropped without a trace. -/
def execIpDatagramRx (d : IpDatagram) (s : State) : Out :=
  if s.stackUp then
    let s := s.stackTake
    let bad := d.options || d.fragment || !d.headerOk || d.dst != s.stackAddr ||
      (d.proto == 17#8 && (!d.udpOk || d.port.toNat != s.ivwPort))
    .next (if bad then s.count R.NET_IP_DROP else s)
  else .next s

/-- Enter an address into the ARP cache of 64 entries; a full cache gives up an entry the spec does not name (R264). -/
def State.arpLearn (s : State) (ip : Word) (mac : Nat) : State :=
  let rest := s.net.arp.filter fun e => e.1 != ip
  if rest.length < 64 then { s with net := { s.net with arp := rest ++ [(ip, mac, s.now)] } }
  else { s.drawn with net := { s.net with arp := rest.eraseIdx (s.fresh % 64) ++ [(ip, mac, s.now)] } }

/-- ARP_REQUEST_RX (R264). The stack answers a request for its address and remembers who asked. -/
def execArpRequestRx (t : Nat) (target sender : BitVec 32) (mac : BitVec 48) (s : State) : Out :=
  let s := s.at_ t
  if s.stackUp then
    let s1 := s.stackTake
    if target = s1.stackAddr then .next ((s1.arpLearn sender mac.toNat).stackSend (.arpReply sender mac.toNat s1.stackAddr s1.stackMac))
    else .next s1
  else .next s

/-- ICMP_ECHO_RX (R264). An echo request of up to 1,472 bytes of data is answered, with TTL 64 and DF = 1. -/
def execIcmpEchoRx (src : BitVec 32) (len : Nat) (s : State) : Out :=
  if s.stackUp = true ∧ len ≤ 1472 then .next (s.stackSend (.echoReply src (s.nextHop src) 64 true len))
  else .next s

/-- ARP_CACHE_EXPIRY (R264). 60 s after its entry an address leaves the ARP cache. -/
def execArpCacheExpiry (ip : BitVec 32) (t : Nat) (s : State) : Out :=
  let s := s.at_ t
  .next { s with net := { s.net with arp := s.net.arp.filter fun e => !(e.1 == ip && decide (e.2.2 + 60 * secCycles ≤ s.now)) } }

/-- A write of the IP address sends a gratuitous ARP (R264). -/
def State.ipAddrWrite (s : State) (v : Word) : State :=
  (s.wr R.NET_IP_ADDR v).stackSend (.gratuitous v s.stackMac)

end Sys2Proof.Machine
end

