-- ==== Sys2Proof/Machine/Clock.lean ====
section
/-! DEFINITION. Sys2Proof/Machine/Clock.lean: reference, PLLs, band table, core switch, clock outputs and the internal SYNC
(R451-R471). -/
namespace Sys2Proof.Machine

/-- PLL `x` (0 A, 1 B). -/
def State.pll (s : State) (x : Nat) : Pll := Sparse.get (fun _ => {}) s.clk.plls x

/-- Put it. -/
def State.setPll (s : State) (x : Nat) (v : Pll) : State := { s with clk := { s.clk with plls := Sparse.put (fun _ => {}) s.clk.plls x v } }

/-- The PLL that supplies. -/
def State.supplyPll (s : State) : Nat := s.get F.CLK_STAT_SUPPLY

/-- Whether PLL `x` is locked. -/
def State.locked (s : State) (x : Nat) : Bool := s.bit (F.CLK_PLL_STAT_LOCKED x)

/-- Whether PLL `x` stands by. -/
def State.standsBy (s : State) (x : Nat) : Bool := s.bit (F.CLK_PLL_STAT_STANDING_BY x)

/-- Entry `b` of a band table word qualifies for 4,000 MHz (R453, R454). -/
def bandFits (w : Word) : Bool := w.getLsbD 0 && decide (bitsOf w 31 19 ≤ 4000) && decide (4000 < bitsOf w 18 6)

/-- The nominal entry b (R454). -/
def nominalBand (b : Nat) : Word := BitVec.ofNat 32 ((3200 + 75 * b) * 2 ^ 19 + (3275 + 75 * b) * 2 ^ 6 + 8 * 4 + 1)

/-- The band PLL `x` uses at its next lock; none when no entry qualifies (R453, R455). -/
def State.nextBand (s : State) (x : Nat) : Option Nat :=
  let p := s.pll x
  let fits := (List.range 16).filter fun b => bandFits (s.rd (R.CLK_BAND b))
  match p.choose, p.used with
  | false, some u =>
    match p.move with
    | some true => some ((fits.find? fun b => decide (u < b)).getD u)
    | some false => some (((fits.filter fun b => decide (b < u)).getLast?).getD u)
    | none => some u
  | _, _ => fits.head?

/-- Both PLLs are out of lock: CLOCK_LOST (R24, R464, R465). -/
def State.clockLost (s : State) : State := (s.raise 817).raiseHold 5

/-- PLL `x` begins to stand by when it is locked, does not supply and STANDBY = 1 (R459); a planned return is then made (R463). -/
def State.standBy (s : State) (x : Nat) : State :=
  if s.locked x = true ∧ s.supplyPll ≠ x ∧ s.bit F.CLK_CTL_STANDBY = true then
    let s1 := s.set (F.CLK_PLL_STAT_STANDING_BY x) 1
    if (s1.pll x).goHome then
      let y := 1 - x
      let s2 := ((s1.setPll x { s1.pll x with goHome := false }).set F.CLK_STAT_SUPPLY x).set (F.CLK_PLL_STAT_STANDING_BY x) 0
      if s2.locked y then s2.set (F.CLK_PLL_STAT_STANDING_BY y) 1 else s2
    else s1
  else s

/-- PLL `x` is declared faulty (R460, R461, R465); its next attempt comes 1 ms later (R462). -/
def State.pllFault (s : State) (x : Nat) : State :=
  let y := 1 - x
  let s1 := (((s.setPll x { s.pll x with tryAt := some s.now }).set (F.CLK_PLL_STAT_LOCKED x) 0).set (F.CLK_PLL_STAT_STANDING_BY x) 0).raise (808 + x)
  if s.supplyPll = x then
    if s.standsBy y then
      let s2 := (((s1.set F.CLK_STAT_SUPPLY y).set (F.CLK_PLL_STAT_STANDING_BY y) 0).raise 810).count R.CLK_SWITCHES
      if x = 0 then s2.engageSpare 6 else s2
    else if s.locked y then s1 else s1.clockLost
  else if s.locked y then s1 else s1.clockLost

/-- Edges counted in 20 µs that make a reference input present: a rate of 20 MHz to 30 MHz (R451; the ends are taken in, DEDUCED, log entry
169). -/
def refPresent (edges : Nat) : Bool := decide (400 ≤ edges) && decide (edges ≤ 600)

/-- REF_DETECT (R451). In RESET the clock controller counts the edges of each reference input over 20 µs, as LVDS and as LVCMOS, and takes
the first that is present; else the crystal, where it reaches amplitude. What it has taken holds until the next RESET. -/
def execRefDetect (lvds lvcmos : Nat) (xtal : Bool) (s : State) : Out :=
  if s.mode = M.reset ∧ s.get F.CLK_REF_CFG_SRC = 0 then
    .next (s.set F.CLK_REF_CFG_SRC (if refPresent lvds then 1 else if refPresent lvcmos then 2 else if xtal then 3 else 0))
  else .next s

/-- 100 µs, in which a lock has to come (R444, R453). -/
abbrev lockBound : Nat := 40000

/-- Whether PLL `x` tries to lock: at the start, in a wake, or by a retry, a RELOCK or the return of the reference (R444, R453, R462-R464).
An attempt that has lasted 100 µs has failed. -/
def State.pllTries (s : State) (x : Nat) : Bool :=
  let p := s.pll x
  let st := s.pwrState (21 + x)
  !s.locked x && !s.bit F.CLK_STAT_REF_LOST &&
    ((st == P.waking && decide (s.now < (s.pwrDom (21 + x)).wakeAt + lockBound)) ||
      (st == P.on && (if p.trying then (match p.tryAt with | some a => decide (s.now < a + lockBound) | none => true) else s.mode == M.reset)))

/-- The reference modifier that PLL `x` takes at a lock: the one set, unless it is the reserved code, which an image may leave and which changes
nothing (R8, R452). -/
def State.refmodAt (s : State) (x : Nat) : Nat :=
  let m := if x = 0 then s.get F.CLK_REF_CFG_REFMOD_A else s.get F.CLK_REF_CFG_REFMOD_B
  if m = 3 then (s.pll x).refmod else m

/-- PLL_LOCK (R453, R455, R459, R463). PLL `x` completes its lock on the band it chose; if no entry qualifies, the attempt fails
with NO_BAND. -/
def execPllLock (x : Fin 2) (t : Nat) (s : State) : Out :=
  let s := s.at_ t
  if s.pllTries x = false then .next s
  else
    let p := s.pll x
    match s.nextBand x with
    | none =>
      .next (((s.set (F.CLK_PLL_STAT_NO_BAND x) 1).set (F.CLK_PLL_CTL_RELOCK x) 0).setPll x
        { p with trying := false, goHome := false, tryAt := some s.now })
    | some b =>
      let clear := p.choose || p.move.any (fun _ => p.used != some b)
      let s1 := s.setPll x { p with used := some b, choose := false, move := none, trying := false, tryAt := none, refmod := s.refmodAt x }
      let s2 := ((s1.set (F.CLK_PLL_STAT_BAND x) b).set (F.CLK_PLL_STAT_NO_BAND x) 0).set (F.CLK_PLL_STAT_HOLDOVER x) 0
      let s3 := if clear then s2.set (F.CLK_PLL_STAT_BAND_MARGIN x) 0 else s2
      .next ((((s3.set (F.CLK_PLL_STAT_LOCKED x) 1).set (F.CLK_PLL_CTL_RELOCK x) 0).raise (808 + x)).standBy x)

/-- PLL_LOCK_TIMEOUT (R453, R463). No lock within 100 µs of the attempt: it fails and a planned return is not made. A PLL that slews back to
its reference has no such bound (R464). -/
def execPllLockTimeout (x : Fin 2) (t : Nat) (s : State) : Out :=
  let s := s.at_ t
  let p := s.pll x
  if p.trying && (match p.tryAt with | some a => decide (a + lockBound ≤ s.now) | none => false) then
    .next ((s.setPll x { p with trying := false, goHome := false }).set (F.CLK_PLL_CTL_RELOCK x) 0)
  else .next s

/-- PLL_LOCK_RETRY (R453, R462, R463). Every 1 ms a PLL out of lock tries again; during a start its choice is fresh. -/
def execPllLockRetry (x : Fin 2) (t : Nat) (s : State) : Out :=
  let s := s.at_ t
  let p := s.pll x
  let due := match p.tryAt with | some a => decide (a + 1000 * usCycles ≤ s.now) | none => true
  if s.locked x = false ∧ s.domOn (21 + x) = true ∧ p.trying = false ∧ due = true then
    .next (s.setPll x { p with trying := true, tryAt := some s.now, choose := p.choose || s.mode == M.reset })
  else .next s

/-- PLL_LOCK_LOSS (R453, R460). Eight consecutive comparisons above 1.0 ns: the PLL loses lock and is declared faulty. -/
def execPllLockLoss (x : Fin 2) (s : State) : Out := if s.locked x then .next (s.pllFault x) else .next s

/-- VTUNE_MEASURE (R455). The tuning voltage of a locked PLL, raw in mV, is calibrated; outside [300, 900) mV it sets BAND_MARGIN
and the side of the next lock. -/
def execVtuneMeasure (x : Fin 2) (raw : BitVec 16) (s : State) : Out :=
  if s.locked x then
    let y := (s.calibrate (0x25 + x) raw.toInt).1
    let s1 := s.set (F.CLK_PLL_STAT_VTUNE x) (BitVec.ofInt 16 y).toNat
    if y < 300 ∨ 900 ≤ y then
      .next (((s1.set (F.CLK_PLL_STAT_BAND_MARGIN x) 1).raise 814).setPll x { s1.pll x with move := some (decide (900 ≤ y)) })
    else .next s1
  else .next s

/-- PLL_DISAGREEMENT (R460, R465). The PLL with the larger phase-detector error is faulty; with equal errors, the one that does not
supply. -/
def execPllDisagreement (errA errB : Nat) (s : State) : Out :=
  if s.locked 0 = true ∧ s.locked 1 = true then
    .next (s.pllFault (if errA = errB then 1 - s.supplyPll else if errB < errA then 0 else 1))
  else .next s

/-- CTL.CORE written 1 (R458). The fabric epoch begins at the restart, whose place in its window is open (a free value). -/
def State.coreSwitch (s : State) : State :=
  if s.bit F.CLK_CTL_CORE then s
  else if s.locked s.supplyPll then
    let s1 := s.drawn
    let s2 := (({ s1 with clk := { s1.clk with epoch := some (s.now + 16 + s.fresh % 9) } }.set F.CLK_CTL_CORE 1).raise 815)
    if s2.domOn 20 then s2.adcResume else s2
  else s.set F.CLK_STAT_CORE_REFUSED 1

/-- CTL.RETURN written 1 (R462, R465). -/
def State.pllReturn (s : State) : State :=
  if s.supplyPll = 1 ∧ s.standsBy 0 = true then
    let s1 := (s.set F.CLK_STAT_SUPPLY 0).set (F.CLK_PLL_STAT_STANDING_BY 0) 0
    ((s1.standBy 1).releaseSpare 6).raise 816
  else s.set F.CLK_STAT_RETURN_REFUSED 1

/-- PLLx_CTL.RELOCK written 1 (R463, R465). -/
def State.pllRelock (s : State) (x : Nat) : State :=
  let y := 1 - x
  if s.supplyPll = x then
    if s.standsBy y then
      let s1 := ((s.set F.CLK_STAT_SUPPLY y).set (F.CLK_PLL_STAT_STANDING_BY y) 0).set (F.CLK_PLL_STAT_LOCKED x) 0
      ((s1.setPll x { s1.pll x with trying := true, goHome := true, tryAt := some s.now }).set (F.CLK_PLL_CTL_RELOCK x) 1).raise (808 + x)
    else s.set F.CLK_STAT_RELOCK_REFUSED 1
  else if s.domOn (21 + x) then
    let s1 := (s.set (F.CLK_PLL_STAT_STANDING_BY x) 0).set (F.CLK_PLL_STAT_LOCKED x) 0
    let s2 := (s1.setPll x { s1.pll x with trying := true, tryAt := some s.now }).set (F.CLK_PLL_CTL_RELOCK x) 1
    if s.locked x then
      let s3 := s2.raise (808 + x)
      if s.locked y then s3 else s3.clockLost
    else s2
  else s

/-- A write of CLK.CTL (R458, R459, R462, R465): STANDBY first, then RETURN, then CORE. -/
def State.clkCtlWrite (s : State) (v : Word) : State :=
  let s1 := s.set F.CLK_CTL_STANDBY (bitsOf v 30 30)
  let y := 1 - s1.supplyPll
  let s2 := if v.getLsbD 30 then s1.standBy y
    else (s1.set (F.CLK_PLL_STAT_STANDING_BY y) 0).setPll y { s1.pll y with goHome := false }
  let s3 := if v.getLsbD 29 then s2.pllReturn else s2
  if v.getLsbD 31 then s3.coreSwitch else s3

/-- A write of a BANDb, whose bit 1 is 0: the next lock of each PLL chooses afresh (R7, R453-R455). -/
def State.bandWrite (s : State) (a : Nat) (v : Word) : State :=
  [0, 1].foldl (fun t x => t.setPll x { t.pll x with choose := true, move := none }) (s.wr a (v &&& 0xFFFFFFFD#32))

/-- REF_LOST (R464, R465). Both PLLs run on in holdover and count as out of lock. -/
def execRefLost (s : State) : Out :=
  if s.bit F.CLK_STAT_REF_LOST then .next s
  else
    let s1 := [0, 1].foldl (fun t x =>
      let u := ((t.set (F.CLK_PLL_STAT_HOLDOVER x) (if t.domOn (21 + x) then 1 else 0)).set (F.CLK_PLL_STAT_LOCKED x) 0).set
        (F.CLK_PLL_STAT_STANDING_BY x) 0
      if t.locked x then u.raise (808 + x) else u) s
    .next ((((s1.set F.CLK_STAT_REF_LOST 1).set F.CLK_STAT_REF_SEEN_LOST 1).raise 811).clockLost)

/-- REF_RETURN (R464). Both PLLs relock with their frequency slewed. -/
def execRefReturn (s : State) : Out :=
  if s.bit F.CLK_STAT_REF_LOST then
    let s1 := [0, 1].foldl (fun t x => if t.domOn (21 + x) then t.setPll x { t.pll x with trying := true, tryAt := none } else t) s
    .next ((s1.set F.CLK_STAT_REF_LOST 0).raise 812)
  else .next s

/-- Whether the settings of a clock output are allowed together (R466). -/
def clkoutOk (fmt d phase : Nat) : Bool :=
  decide (fmt ≠ 3) && decide ((match fmt with | 0 => 40 | 1 => 20 | _ => 5) ≤ d) && decide (phase < d)

/-- Whether output `k` runs: enabled, with settings that are allowed together (R8, R466). -/
def State.clkoutRuns (s : State) (k : Nat) : Bool :=
  s.bit (F.CLK_CLKOUT_CFG_EN k) &&
    clkoutOk (s.get (F.CLK_CLKOUT_CFG_FMT k)) (s.get (F.CLK_CLKOUT_CFG_D k)) (s.get (F.CLK_CLKOUT_CFG_PHASE k))

/-- VCO periods in the high phase of a period of `d` (R466). -/
def highOf (d : Nat) : Nat := (d + 1) / 2

/-- Whether an output that `w` drives is high in VCO period `v` (R466, R467). -/
def OutWave.high (w : OutWave) (v : Nat) : Bool :=
  decide (w.first ≤ v) && (match w.stop with | some x => decide (v < x) | none => true) && decide ((v - w.first) % w.d < highOf w.d)

/-- The end of the high phase in progress in period `v`, or `v` while the output is low (R467, R468). -/
def OutWave.lowFrom (w : OutWave) (v : Nat) : Nat := if w.high v then v - (v - w.first) % w.d + highOf w.d else v

/-- The next falling edge after period `v` (R467). -/
def OutWave.falls (w : OutWave) (v : Nat) : Nat :=
  if v < w.first then w.first + highOf w.d
  else
    let p := v - (v - w.first) % w.d
    if w.high v then p + highOf w.d else p + w.d + highOf w.d

/-- What drives output `k`, the latest first. -/
def State.waves (s : State) (k : Nat) : List OutWave := Sparse.get (fun _ => []) s.clk.outs k

/-- Put it; what no longer drives the output goes. -/
def State.setWaves (s : State) (k : Nat) (l : List OutWave) : State :=
  { s with clk := { s.clk with outs := Sparse.put (fun _ => []) s.clk.outs k (l.take 3) } }

/-- The VCO period that begins with the present ENG cycle (R456). -/
def State.vcoNow (s : State) : Nat := 10 * s.now

/-- The level of output `k` in VCO period `v`, and the format in which it is driven (R466, R467, R569): low before INIT, in QUARANTINE, and
until something drives it. -/
def State.clkoutLevel (s : State) (k v : Nat) : Bool × Nat :=
  match if s.alive then (s.waves k).find? fun w => decide (w.since ≤ v) else none with
  | some w => (w.high v, w.fmt)
  | none => (false, s.get (F.CLK_CLKOUT_CFG_FMT k))

/-- The levels of CLKOUTk_P and CLKOUTk_N: in LVDS the second is the opposite of the first, else it is driven low (R466, R467). -/
def State.clkoutPins (s : State) (k v : Nat) : Bool × Bool :=
  let p := s.clkoutLevel k v
  (p.1, p.2 == 2 && !p.1)

/-- Output `k` starts at the next rising edge of its divider, whose phase before the start is open (a free value, log entry 113), with a full high
phase (R467). -/
def State.clkoutStart (s : State) (k : Nat) : State :=
  let d := s.get (F.CLK_CLKOUT_CFG_D k)
  let at_ := max s.vcoNow (match s.waves k with | w :: _ => w.stop.getD 0 | [] => 0)
  s.drawn.setWaves k ({ since := at_, fmt := s.get (F.CLK_CLKOUT_CFG_FMT k), d := d, first := at_ + s.fresh % d } :: s.waves k)

/-- The latest drive of an output ends in period `v`. -/
def endWave (l : List OutWave) (v : Nat) : List OutWave :=
  match l with
  | w :: r => { w with stop := some v } :: r
  | [] => []

/-- Output `k` stops: a high phase in progress finishes, then it is held low (R467). -/
def State.clkoutStop (s : State) (k : Nat) : State :=
  match s.waves k with
  | w :: _ => s.setWaves k (endWave (s.waves k) (w.lowFrom s.vcoNow))
  | [] => s

/-- A new D or FMT of output `k` takes effect at the next falling edge; the period that begins there is whole (R467). -/
def State.clkoutChange (s : State) (k : Nat) : State :=
  match s.waves k with
  | w :: _ =>
    let f := w.falls s.vcoNow
    let d := s.get (F.CLK_CLKOUT_CFG_D k)
    s.setWaves k ({ since := f, fmt := s.get (F.CLK_CLKOUT_CFG_FMT k), d := d, first := f + (d - highOf d) } :: endWave (s.waves k) f)
  | [] => s.clkoutStart k

/-- What a change of the settings of output `k` from those of `old` does to its drive (R8, R467). -/
def State.clkoutFollow (s old : State) (k : Nat) : State :=
  if s.clkoutRuns k = false then (if old.clkoutRuns k then s.clkoutStop k else s)
  else if old.clkoutRuns k = false then s.clkoutStart k
  else if s.get (F.CLK_CLKOUT_CFG_D k) ≠ old.get (F.CLK_CLKOUT_CFG_D k) ∨ s.get (F.CLK_CLKOUT_CFG_FMT k) ≠ old.get (F.CLK_CLKOUT_CFG_FMT k) then
    s.clkoutChange k
  else s

/-- A write of CLKOUTk_CFG (R8, R466, R467): D, FMT and PHASE together keep their values when their combination is reserved. -/
def State.clkoutWrite (s : State) (k : Nat) (v : Word) : State × Bool :=
  let r := s.mergeWrite (R.CLK_CLKOUT_CFG k) v
  let t := r.1
  if clkoutOk (t.get (F.CLK_CLKOUT_CFG_FMT k)) (t.get (F.CLK_CLKOUT_CFG_D k)) (t.get (F.CLK_CLKOUT_CFG_PHASE k)) then (t.clkoutFollow s k, r.2)
  else
    let u := ((t.set (F.CLK_CLKOUT_CFG_FMT k) (s.get (F.CLK_CLKOUT_CFG_FMT k))).set (F.CLK_CLKOUT_CFG_D k) (s.get (F.CLK_CLKOUT_CFG_D k))).set
      (F.CLK_CLKOUT_CFG_PHASE k) (s.get (F.CLK_CLKOUT_CFG_PHASE k))
    (u.clkoutFollow s k, true)

/-- The outputs that the image enables begin to run (R467). -/
def State.clkoutsStart (s : State) : State := [0, 1, 2, 3].foldl (fun (t : State) k => if t.clkoutRuns k then t.clkoutStart k else t) s

/-- The outputs with SYNC_EN finish a high phase in progress, hold low and rise again 2 × D + PHASE VCO periods after the PIPE edge that follows
the internal SYNC; that edge copies the common counter, whose phase to wheel time is open (a free value), into SYNC_PHASE (R468). -/
def State.clkSync (s : State) : State :=
  if s.bit F.CLK_CTL_CORE then
    let e := s.vcoNow + 5
    let s1 := [0, 1, 2, 3].foldl (fun (t : State) k =>
      if t.clkoutRuns k && t.bit (F.CLK_CLKOUT_CFG_SYNC_EN k) then
        match t.waves k with
        | w :: _ =>
          let l := w.lowFrom e
          let d := t.get (F.CLK_CLKOUT_CFG_D k)
          t.setWaves k ({ since := l, fmt := t.get (F.CLK_CLKOUT_CFG_FMT k), d := d, first := e + 2 * d + t.get (F.CLK_CLKOUT_CFG_PHASE k) } ::
            endWave (t.waves k) l)
        | [] => t
      else t) s
    s1.drawn.set F.CLK_SYNC_PHASE_PHASE (s1.fresh % 160 * 5)
  else s

/-- The PWM counters restart at 0 at a rising edge of the internal SYNC, with the setting written last (R562). -/
def State.pwmSync (s : State) : State :=
  { s with
    gpio := { s.gpio with
      pwm := (List.range 8).filterMap fun k =>
        let g : PwmGen := { cur := s.rd (R.GPIO_PWM k), start := s.now, nxt := s.rd (R.GPIO_PWM k), nxtAt := s.now }
        if g = {} then none else some (k, g) } }

/-- A rising edge of the device's internal SYNC (R63, R263, R290, R468): domain T, the capture unit, the clock outputs, the PWM
generators (R562). The
converters' SYNC trigger comes as ADC_TRIGGER. -/
def State.syncAct (s : State) : State :=
  let s1 := ((s.syncT.xcap 2).clkSync).pwmSync
  { s1 with clk := { s1.clk with syncAt := some s1.now } }

/-- A SYNC of this device: sent and applied later with SYNC_FWD = 1, else the internal SYNC at once (R290, R468). -/
def State.syncLocal (s : State) : State :=
  if s.bit F.EMN_TRIG_CFG_SYNC_FWD && s.regValid R.EMN_TRIG_CFG then s.forwardTrigger false 0 else s.syncAct

end Sys2Proof.Machine
end

