-- ==== Sys2Proof/Machine/Emn.lean ====
section
/-! DEFINITION. Sys2Proof/Machine/Emn.lean: the Emnodric chain: links, data and urgent frames, numbering, triggers, events and
firmware frames (R278-R292, R296). -/
namespace Sys2Proof.Machine

/-! ## Links (R279-R283, R287) -/

/-- Port states (R296). -/
abbrev E.down : Nat := 0
abbrev E.training : Nat := 1
abbrev E.linked : Nat := 2

/-- Whether port `p` (0 UP, 1 DN) is linked. -/
def State.linked (s : State) (p : Nat) : Bool := s.get (F.EMN_P_STAT_STATE p) == E.linked

/-- Whether the Emnodric unit works: domain NET ON, outside RESET (R26, R438). -/
def State.emnUp (s : State) : Bool := s.domOn 18 && s.mode != M.reset

/-- Whether the mode passes frames through without acting on them (R285). -/
def State.passThrough (s : State) : Bool := s.modeIn [M.verify, M.load, M.fallback, M.quarantine]

/-- D of port `p` in 1/8 cycle. -/
def State.linkDelay (s : State) (p : Nat) : Nat := s.get (F.EMN_P_DELAY_D p)

/-- Whether the CRC of an urgent frame of type `type` with payload `pl` is right (R280). -/
def urgentOk (u : UrgentRx) (type : Nat) (pl : List Nat) : Bool :=
  u.crc == crc32c ((type * 16 + u.origin.val) :: bytesBE 3 u.age.toNat ++ pl)

/-- The TRAIN frame that port `p` sends, separated by idle characters, while it trains (R281, R282). -/
def State.trainFrame (s : State) (p : Nat) : EmnFrame := .urgent 8 (s.get F.EMN_POS_POS) 0 [p, 0, 0, 0, 0, 0, 0]

/-- Port `p` sends a TRAIN frame. TRAIN frames go out without end while it trains; the record takes one as training begins and one for
each that is heard (R282, log entry 161). -/
def State.sendTrain (s : State) (p : Nat) : State := s.sendUrgent p (s.trainFrame p)

/-- A valid character arrived on port `p` at `t`. -/
def State.heard (s : State) (p t : Nat) : State := (s.at_ t).setEmnPort p { s.emnPort p with lastValid := max s.now t }

/-- A frame with a CRC error (R292, R293). -/
def State.emnCrcErr (s : State) (p : Nat) : State :=
  ((s.count (R.EMN_P_CRC_ERR p)).set (F.EMN_P_STAT_CRC p) 1).raise (770 + p)

/-- Send a data frame on port `p`: at most 8 wait for their ACK (R283). -/
def State.emnSend (s : State) (p : Nat) (f : EmnFrame) : State :=
  let k := s.emnPort p
  if k.window.length < 8 then
    s.setEmnPort p { k with
      window := k.window ++ [(k.seqOut, f)], seqOut := (k.seqOut + 1) % 256, sent := frameChars f k.seqOut :: k.sent,
      sentAt := if k.window = [] then s.now else k.sentAt, ackAt := if k.window = [] then s.now else k.ackAt }
  else s.setEmnPort p { k with backlog := k.backlog ++ [f] }

/-- The last act of a forwarded EVT frame that has left: the credit of its events goes back to the port it came from (R286). -/
def State.creditForwarded (s : State) (h : HeldEvt) : State :=
  match h.from_ with
  | some q => s.sendUrgent q (.urgent 7 (s.get F.EMN_POS_POS) 0 (bytesBE 2 (h.payload.headD 0) ++ [0, 0, 0, 0, 0]))
  | none => s

/-- Send the EVT frames at port `p` whose credit is there, oldest first (R286). -/
def State.sendHeld (p : Nat) : List HeldEvt → State → State
  | [], s => s.setEmnPort p { s.emnPort p with held := [] }
  | h :: r, s =>
    let n := h.payload.headD 0
    let k := s.emnPort p
    if n ≤ k.credit then
      State.sendHeld p r (((s.setEmnPort p { k with credit := k.credit - n }).emnSend p (.data 2 h.dst h.src h.payload)).creditForwarded h)
    else s.setEmnPort p { k with held := h :: r }

/-- Send an EVT frame on port `p`, after those that wait there for credit (R286). -/
def State.sendEvt (s : State) (p : Nat) (h : HeldEvt) : State := State.sendHeld p ((s.emnPort p).held ++ [h]) s

/-- Forward a data frame that came on port `q` on port `p`; `also` = this device consumes it too (R285, R286). -/
def State.emnForward (s : State) (q p : Nat) (also : Bool) (type dst src : Nat) (pl : List Nat) : State :=
  if type = 2 then s.sendEvt p ⟨dst, src, pl, if also then none else some q⟩ else s.emnSend p (.data type dst src pl)

/-- Send a data frame of this device toward its destination (R284-R286): above its position on DN, below on UP, 0xFF on both. -/
def State.emnRoute (s : State) (f : EmnFrame) : State :=
  let pos := s.get F.EMN_POS_POS
  match f with
  | .data type dst src pl =>
    if dst = 0xFF then (s.emnSend 0 f).emnSend 1 f
    else if pos < dst then s.emnSend 1 f
    else if dst < pos then s.emnSend 0 f
    else { s with emn := { s.emn with inbox := s.emn.inbox ++ [⟨2, type, src, pl⟩] } }
  | .urgent _ _ _ _ => s

/-- A data frame of this device with source POS. -/
def State.emnData (s : State) (type dst : Nat) (pl : List Nat) : State := s.emnRoute (.data type dst (s.get F.EMN_POS_POS) pl)

/-- The destination and the rest of a received data frame are handled by R285, R284 for ENUM and R386 for CFG. -/
def State.emnAccept (s : State) (p type dst src : Nat) (pl : List Nat) : State :=
  let pos := s.get F.EMN_POS_POS
  let has := s.bit F.EMN_POS_VALID
  let take := fun (u : State) => { u with emn := { u.emn with inbox := u.emn.inbox ++ [⟨p, type, src, pl⟩] } }
  if type = 3 then take s
  else if has = true ∧ s.passThrough = false then
    if dst = pos then take s
    else if dst = 0xFF then (take s).emnForward p (1 - p) true type dst src pl
    else s.emnForward p (if pos < dst then 1 else 0) false type dst src pl
  else
    let s1 := s.emnForward p (1 - p) false type dst src pl
    if type = 1 ∧ has = true ∧ s.emn.upstream = true ∧ (dst = pos ∨ (dst = 0xFF ∧ ((fieldBE pl 2 2).testBit pos = true ∨ (2 < pl.headD 0 ∧ s.cfg.boot.open_ = true))))
    then take s1 else s1

/-- Whether the characters of a data frame after its SOF are laid out as R280 says: LEN of at most 1,024 that gives the payload its length, and the
CRC-32C of all before it (R280). -/
def dataFrameOk (b : List Nat) : Bool :=
  decide (fieldBE b 4 2 ≤ 1024) && decide (b.length = 10 + fieldBE b 4 2) &&
  decide (fieldBE b (b.length - 4) 4 = (crc32c (b.take (b.length - 4))).toNat)

/-- EMN_DATA_FRAME_RX (R280, R283, R285). The bytes after SOF of a data frame. With a correct CRC and the next SEQ it is accepted and
acknowledged; one already accepted is acknowledged again and discarded. -/
def execEmnDataFrameRx (p : Fin 2) (t : Nat) (frame : List (BitVec 8)) (s : State) : Out :=
  if s.emnUp = true ∧ s.linked p.val = true then
    let b := frame.map fun x => x.toNat
    let s := s.heard p.val t
    if dataFrameOk b = false then .next (s.emnCrcErr p.val)
    else
      let seq := fieldBE b 1 1
      let k := s.emnPort p.val
      let ack := EmnFrame.urgent 6 (s.get F.EMN_POS_POS) 0 [seq, 0, 0, 0, 0, 0, 0]
      if seq = k.seqIn then
        let s1 := (s.setEmnPort p.val { k with seqIn := (k.seqIn + 1) % 256 }).sendUrgent p.val ack
        .next (s1.emnAccept p.val (fieldBE b 0 1) (fieldBE b 2 1) (fieldBE b 3 1) (slice b 6 (fieldBE b 4 2)))
      else if (k.seqIn + 256 - seq) % 256 ≤ 128 then .next (s.sendUrgent p.val ack)
      else .next s
  else .next s

/-- Send again from the oldest unacknowledged frame (R283). -/
def State.replay (s : State) (p : Nat) : State :=
  if (s.emnPort p).window = [] then s
  else
    let k := s.emnPort p
    ((s.setEmnPort p { k with
      sentAt := s.now, sent := (k.window.map fun f => frameChars f.2 f.1).reverse ++ k.sent }).count (R.EMN_P_REPLAYS p)).raise (770 + p)

/-- EMN_ACK_TIMEOUT (R283). 20 µs without the expected ACK. -/
def execEmnAckTimeout (p : Fin 2) (t : Nat) (s : State) : Out :=
  let s := s.at_ t
  if s.linked p.val = true ∧ (s.emnPort p.val).sentAt + 8000 ≤ s.now then .next (s.replay p.val) else .next s

/-- EMN_IDLE_TIMEOUT (R282). 4 µs without a valid character: back to training. -/
def execEmnIdleTimeout (p : Fin 2) (t : Nat) (s : State) : Out :=
  let s := s.at_ t
  if s.linked p.val = true ∧ (s.emnPort p.val).lastValid + 1600 ≤ s.now then
    let s1 := (s.setEmnPort p.val { s.emnPort p.val with trains := 0, new := false, dreq := none }).sendTrain p.val
    .next ((((s1.set (F.EMN_P_STAT_STATE p) E.training).set (F.EMN_P_STAT_LINK_CHG p) 1).count (R.EMN_P_RETRAINS p)).raise (768 + p))
  else .next s

/-- EMN_TRAIN_RX (R281, R282). A TRAIN frame of the opposite port type is counted; the 128th links the port. -/
def execEmnTrainRx (p : Fin 2) (u : UrgentRx) (port : BitVec 8) (s : State) : Out :=
  if s.emnUp then
    let s := s.heard p.val (u.t8 / 8)
    if urgentOk u 8 [port.toNat, 0, 0, 0, 0, 0, 0] = false then .next (s.emnCrcErr p.val)
    else if port.toNat = 1 - p.val ∧ s.linked p.val = false then
      let k := s.emnPort p.val
      let s1 := (s.setEmnPort p.val { k with trains := k.trains + 1 }).set (F.EMN_P_STAT_STATE p) E.training
      if 128 ≤ k.trains + 1 then
        let s2 := s1.setEmnPort p.val { s1.emnPort p.val with trains := 0, new := true }
        .next (((s2.set (F.EMN_P_STAT_STATE p) E.linked).set (F.EMN_P_STAT_LINK_CHG p) 1).raise (768 + p))
      else .next (s1.sendTrain p.val)
    else .next s
  else .next s

/-- Send a DREQ at t1 (R287). -/
def State.sendDreq (s : State) (p t8 : Nat) : State :=
  let k := s.emnPort p
  (s.setEmnPort p { k with dreq := some (k.dreqSeq, t8), dreqSeq := (k.dreqSeq + 1) % 256 }).sendUrgent p
    (.urgent 4 (s.get F.EMN_POS_POS) 0 [k.dreqSeq, 0, 0, 0, 0, 0, 0])

/-- Send ENUM(p + 1) on DN (R284). -/
def State.sendEnum (s : State) : State :=
  let pos := s.get F.EMN_POS_POS
  s.emnSend 1 (.data 3 0xFF pos [pos + 1])

/-- A device whose strap selects LOCAL is position 0, the head of its chain (R284, R293). -/
def State.takeHead (s : State) : State :=
  if s.emn.head = true ∧ s.bit F.EMN_POS_VALID = false then
    (((s.set F.EMN_POS_VALID 1).set F.EMN_POS_HEAD 1).set F.EMN_POS_POS 0).raise 774
  else s

/-- EMN_PORT_LINKED (R283, R284, R287). What follows a link: its delay is measured, unacknowledged frames are sent again, and on DN a
device with a position, the head among them, sends ENUM. -/
def execEmnPortLinked (p : Fin 2) (t8 : Nat) (s : State) : Out :=
  let s := s.at_ (t8 / 8)
  if s.linked p.val = true ∧ (s.emnPort p.val).new = true then
    let s1 := s.setEmnPort p.val { s.emnPort p.val with new := false }
    let s2 := (s1.sendDreq p.val t8).replay p.val
    if p.val = 1 ∧ s2.bit F.EMN_POS_VALID = true then .next { s2.sendEnum with emn := { s2.sendEnum.emn with enumAt := none } }
    else .next s2
  else .next s

/-! ## Urgent frames (R285, R287-R292) -/

/-- An urgent frame arrives on port `p`: CRC, and repetition away from the port of arrival with AGE updated (R285, R288, R292). The
answer says whether it is consumed too: not in a mode that passes frames through. -/
def State.urgentIn (s : State) (p type : Nat) (u : UrgentRx) (pl : List Nat) : State × Bool :=
  if s.emnUp = false ∨ s.linked p = false then (s, false)
  else
    let s := s.heard p (u.t8 / 8)
    if urgentOk u type pl = false then (s.emnCrcErr p, false)
    else
      let s1 := s.sendUrgent (1 - p) (.urgent type u.origin.val ((u.age.toNat + s.linkDelay p + u.hold8) % 2 ^ 24) pl)
      (s1, s.bit F.EMN_POS_VALID && !s.passThrough)

/-- An urgent frame between the two ends of a link (DREQ, DRSP, ACK, CREDIT, TRAIN) is not repeated. -/
def State.linkIn (s : State) (p type : Nat) (u : UrgentRx) (pl : List Nat) : State × Bool :=
  if s.emnUp = false ∨ s.linked p = false then (s, false)
  else
    let s := s.heard p (u.t8 / 8)
    if urgentOk u type pl = false then (s.emnCrcErr p, false) else (s, true)

/-- The origin instant of an urgent frame in wheel time, in 1/8 cycle (R288). -/
def State.origin8 (s : State) (p : Nat) (u : UrgentRx) : Int := (u.t8 : Int) - s.linkDelay p - u.age.toNat

/-- The multiple of 2^24 revolutions that brings a 24-bit REV nearest to `r` (R289). -/
def nearRev (rev : Nat) (r : Int) : Int :=
  let d := (rev - r) % 16777216
  if d < 8388608 then r + d else r + d - 16777216

/-- A broadcast of domain `x` has arrived on UP: the source is not silent (R47, R55). -/
def State.chainHeard (s : State) (x : Nat) : State := s.setTracker x { s.tracker x with heardAt := some s.now, silent := false }

/-- EMN_ANGLE_RX (R42, R281, R285, R288, R289). A tracker of source CHAIN takes a frame that comes on UP as an edge at the origin instant,
unless it says VALID = 0 or repeats the last one taken. -/
def execEmnAngleRx (p : Fin 2) (u : UrgentRx) (flags : BitVec 8) (angle rev : BitVec 24) (s : State) : Out :=
  let r := s.urgentIn p.val 1 u (flags.toNat :: bytesBE 3 angle.toNat ++ bytesBE 3 rev.toNat)
  let d := flags.toNat / 64
  if r.2 = true ∧ p.val = 0 ∧ (d = 1 ∨ d = 2) ∧ r.1.shSource (d - 1) = 3 then
    let x := d - 1
    let s := r.1.chainHeard x
    let k := s.tracker x
    if flags.getLsbD 5 = false ∨ k.lastFrame = some (angle.toNat, rev.toNat) then .next s
    else
      let zero : Int := s.get (F.WHEEL_SH_ZERO_ZERO x)
      let own := Int.fdiv (s.shaftPos x s.now) revUnits
      let th := nearRev rev.toNat own * revUnits + angle.toNat + zero
      let s1 := s.setTracker x { k with lastFrame := some (angle.toNat, rev.toNat) }
      .next (s1.takeEdge x th (Int.fdiv (s.origin8 p u) 8).toNat (!k.valid || decide (k.theta ≤ th)))
  else .next r.1

/-- A trigger received: its apply instant is tk + BUDGET; one that has passed is applied at once, with TRIG_LATE (R290, R292). -/
def State.triggerIn (s : State) (p : Nat) (u : UrgentRx) (snap : Bool) : State :=
  let at_ := (Int.fdiv (s.origin8 p u) 8).toNat + s.get F.EMN_TRIG_CFG_BUDGET
  if at_ < s.now then
    let s1 := (s.count R.EMN_TRIG_LATE).raise 773
    if snap then s1.snapAct 2 else s1.syncAct
  else { s with emn := { s.emn with triggers := s.emn.triggers ++ [⟨snap, at_, 2⟩] } }

/-- EMN_SYNC_RX (R285, R290). -/
def execEmnSyncRx (p : Fin 2) (u : UrgentRx) (seq : BitVec 8) (s : State) : Out :=
  let r := s.urgentIn p.val 2 u [seq.toNat, 0, 0, 0, 0, 0, 0]
  .next (if r.2 then r.1.triggerIn p.val u false else r.1)

/-- EMN_SNAP_RX (R285, R290). -/
def execEmnSnapRx (p : Fin 2) (u : UrgentRx) (seq : BitVec 8) (s : State) : Out :=
  let r := s.urgentIn p.val 3 u [seq.toNat, 0, 0, 0, 0, 0, 0]
  .next (if r.2 then r.1.triggerIn p.val u true else r.1)

/-- EMN_DREQ_RX (R287). Answered with DRSP after the turn-round time `hold8`. -/
def execEmnDreqRx (p : Fin 2) (u : UrgentRx) (seq : BitVec 8) (s : State) : Out :=
  let r := s.linkIn p.val 4 u [seq.toNat, 0, 0, 0, 0, 0, 0]
  .next (if r.2 then r.1.sendUrgent p.val (.urgent 5 (r.1.get F.EMN_POS_POS) 0 (seq.toNat :: bytesBE 3 u.hold8 ++ [0, 0, 0])) else r.1)

/-- EMN_DRSP_RX (R287, R292). D := ((t4 - t1) - TURN) div 2; above 640 it is not valid and source 770 + p is raised. A result that the
12 bits of D do not hold is not stated (a free value, log entry 64). -/
def execEmnDrspRx (p : Fin 2) (u : UrgentRx) (seq : BitVec 8) (turn : BitVec 24) (s : State) : Out :=
  let r := s.linkIn p.val 5 u (seq.toNat :: bytesBE 3 turn.toNat ++ [0, 0, 0])
  match r.2, (r.1.emnPort p.val).dreq with
  | true, some (q, t1) =>
    if q = seq.toNat then
      let d : Int := Int.tdiv ((u.t8 : Int) - t1 - turn.toNat) 2
      let s0 := r.1.setEmnPort p.val { r.1.emnPort p.val with dreq := none }
      let s1 := if 0 ≤ d ∧ d < 4096 then s0.set (F.EMN_P_DELAY_D p) d.toNat else s0.drawn.set (F.EMN_P_DELAY_D p) (s0.fresh % 4096)
      .next (if 640 < d ∨ d < 0 ∧ 640 < s0.fresh % 4096 then (s1.set (F.EMN_P_DELAY_VALID p) 0).raise (770 + p) else s1.set (F.EMN_P_DELAY_VALID p) 1)
    else .next r.1
  | _, _ => .next r.1

/-- Move waiting data frames into the room of the window (R283). -/
def State.fillWindow (s : State) (p : Nat) : State :=
  let k := s.emnPort p
  let room := 8 - k.window.length
  let new := k.backlog.take room
  let put := (List.range new.length).zipWith (fun i f => ((k.seqOut + i) % 256, f)) new
  s.setEmnPort p { k with
    window := k.window ++ put, sent := (put.map fun f => frameChars f.2 f.1).reverse ++ k.sent,
    seqOut := (k.seqOut + new.length) % 256, backlog := k.backlog.drop room, sentAt := s.now }

/-- EMN_ACK_RX (R281, R283). The frames up to the one acknowledged leave the window. -/
def execEmnAckRx (p : Fin 2) (u : UrgentRx) (seq : BitVec 8) (s : State) : Out :=
  let r := s.linkIn p.val 6 u [seq.toNat, 0, 0, 0, 0, 0, 0]
  let k := r.1.emnPort p.val
  if r.2 = true ∧ (k.window.any fun f => f.1 == seq.toNat) = true then
    let rest := (k.window.dropWhile fun f => f.1 != seq.toNat).tail
    .next ((r.1.setEmnPort p.val { k with window := rest, ackAt := r.1.now }).fillWindow p.val)
  else .next r.1

/-- EVT_HELD: events that wait for credit at either port (R286). -/
def State.evtHeld (s : State) : Nat :=
  ((List.range 2).map fun p => ((s.emnPort p).held.map fun f => f.payload.headD 0).foldl (· + ·) 0).foldl (· + ·) 0

/-- EMN_CREDIT_RX (R286). The link partner returns event credit, and held events go out. -/
def execEmnCreditRx (p : Fin 2) (u : UrgentRx) (count : BitVec 16) (s : State) : Out :=
  let r := s.linkIn p.val 7 u (bytesBE 2 count.toNat ++ [0, 0, 0, 0, 0])
  if r.2 then
    let k := r.1.emnPort p.val
    .next (State.sendHeld p.val k.held (r.1.setEmnPort p.val { k with credit := min 256 (k.credit + count.toNat) }))
  else .next r.1

/-- EMN_DELAY_MEASURE (R287). Every 1 ms a linked port sends a DREQ. -/
def execEmnDelayMeasure (p : Fin 2) (t8 : Nat) (s : State) : Out :=
  let s := s.at_ (t8 / 8)
  if s.linked p.val then .next (s.sendDreq p.val t8) else .next s

/-- The ANGLE frame of domain `d` (0 A, 1 B) with its AGE (R281, R288, R289). -/
def State.angleFrame (s : State) (d age : Nat) : EmnFrame :=
  let k := s.tracker d
  let a := s.shaftPos d s.now
  let fl := (d + 1) * 64 + (if k.valid then 32 else 0) + (if k.reverse then 16 else 0) + (if k.stalled then 8 else 0)
  .urgent 1 (s.get F.EMN_POS_POS) age (fl :: bytesBE 3 (a % revUnits).toNat ++ bytesBE 3 (Int.fdiv a revUnits % 16777216).toNat)

/-- Send the ANGLE frame of domain `d` on DN. Its AGE, the time from the sample to the departure of the SOF, is not stated: a free value (R288,
log entry 162). -/
def State.sendAngle (s : State) (d : Nat) : State := (s.sendUrgent 1 (s.angleFrame d (s.fresh % 2 ^ 24))).drawn

/-- EMN_ANGLE_SEND (R289). At `t`, an ANGLE frame goes out on DN for each enabled domain. -/
def execEmnAngleSend (t : Nat) (s : State) : Out :=
  let s := s.at_ t
  let p := s.get F.EMN_ANG_CFG_PERIOD
  if s.emnUp = true ∧ s.passThrough = false ∧ s.linked 1 = true ∧ 400 ≤ p ∧ p ≤ 40000 then
    let s1 := if s.bit F.EMN_ANG_CFG_TX_A then s.sendAngle 0 else s
    .next (if s1.bit F.EMN_ANG_CFG_TX_B then s1.sendAngle 1 else s1)
  else .next s

/-- TRIGGER_APPLY (R290). The triggers whose apply instant has come act, each at its own. -/
def execTriggerApply (t : Nat) (s : State) : Out :=
  let s := s.at_ t
  let due := s.emn.triggers.filter fun x => decide (x.at_ ≤ s.now)
  let s1 := { s with emn := { s.emn with triggers := s.emn.triggers.filter fun x => decide (s.now < x.at_) } }
  .next (due.foldl (fun u x => if x.snap then u.snapAct x.src else u.syncAct) s1)

/-- SYNC_PIN_EDGE (R290, R468). A rising edge at the SYNC pin. -/
def execSyncPinEdge (t : Nat) (s : State) : Out := .next (if s.alive then (s.at_ t).syncLocal else s.at_ t)

/-! ## Frames consumed (R284, R286, R292) -/

/-- The oldest data frame to be consumed when it has type `n`, and the state without it. -/
def State.inboxTake (s : State) (n : Nat) : Option (State × EmnIn) :=
  match s.emn.inbox with
  | f :: r => if f.type = n then some ({ s with emn := { s.emn with inbox := r } }, f) else none
  | [] => none

/-- ENUM_RX (R284, R292). An ENUM on UP gives the position; a head, a device with another position and ENUM(16) refuse it. -/
def execEnumRx (t : Nat) (s : State) : Out :=
  match (s.at_ t).inboxTake 3 with
  | none => .next s
  | some (s, f) =>
    let n := f.payload.headD 0
    if f.port ≠ 0 then .next s
    else if s.emn.head = true ∨ (s.bit F.EMN_POS_VALID = true ∧ s.get F.EMN_POS_POS ≠ n) then
      .next ((s.set F.EMN_STAT_POS_CONFLICT 1).raise 774)
    else if 16 ≤ n then .next ((s.set F.EMN_STAT_CHAIN_LONG 1).emnSend 0 (.data 4 0 (s.get F.EMN_POS_POS) [2]))
    else
      let s1 := ((s.set F.EMN_POS_POS n).set F.EMN_POS_VALID 1).raise 774
      if s1.linked 1 then .next s1.sendEnum
      else .next { s1 with emn := { s1.emn with enumAt := some s1.now } }

/-- ENUM_TAIL_TIMEOUT (R284). DN has not linked within 1 ms: REPORT TAIL upstream. -/
def execEnumTailTimeout (t : Nat) (s : State) : Out :=
  let s := s.at_ t
  match s.emn.enumAt with
  | some a =>
    if a + 400000 ≤ s.now ∧ s.linked 1 = false then
      let s1 := { s with emn := { s.emn with enumAt := none } }.set F.EMN_POS_TAIL 1
      .next (s1.emnSend 0 (.data 4 0 (s.get F.EMN_POS_POS) [1, s.get F.EMN_POS_POS]))
    else .next s
  | none => .next s

/-- The inserts of an EVT payload (R281). -/
def evtInserts : Nat → List Nat → List Insert
  | 0, _ => []
  | n + 1, l =>
    ⟨fieldBE l 0 1, fieldBE l 2 2 % 4096, BitVec.ofNat 64 (fieldBE l 4 8), .chain⟩ :: evtInserts n (l.drop 12)

/-- EMN_EVT_RX (R286). The inserts of an EVT frame are offered in order to wheel port 5, which waits on BUSY. -/
def execEmnEvtRx (s : State) : Out :=
  match s.inboxTake 2 with
  | none => .next s
  | some (s, f) =>
    .next ((evtInserts (min 16 (f.payload.headD 0)) (f.payload.drop 2)).foldl (fun u i =>
      { u with emn := { u.emn with evtPorts := u.emn.evtPorts ++ [if f.port < 2 then some f.port else none] } }.offerWait i) s)

/-- Write bytes into consecutive words, little-endian, from register address `a` (R3). -/
def State.wrBytes (s : State) (a : Nat) (l : List Nat) : State :=
  (List.range ((l.length + 3) / 4)).foldl (fun u i => u.wr (a + 4 * i) (BitVec.ofNat 32 (fieldLE l (4 * i) 4))) s

/-- Read `n` bytes of consecutive words from register address `a`. -/
def State.rdBytes (s : State) (a n : Nat) : List Nat :=
  ((List.range ((n + 3) / 4)).flatMap fun i => bytesLE 4 (s.rdN (a + 4 * i))).take n

/-- EMN_FW_RX (R286, R296). A FW frame goes into a free receive buffer with its header (log entry 22); source 772. It waits while no
buffer is free. -/
def execEmnFwRx (s : State) : Out :=
  match [0, 1, 2, 3, 4, 5, 6, 7].find? (fun b => !s.emn.rxq.any fun q => q.2 == b), s.inboxTake 5 with
  | some b, some (u, f) =>
    let u1 := u.wrBytes (R.EMN_BUF b 0) ([f.src, 5] ++ bytesLE 2 f.payload.length ++ f.payload)
    .next ({ u1 with emn := { u1.emn with rxq := u1.emn.rxq ++ [(f.src, b)] } }.raise 772)
  | _, _ => .next s

/-- A write of EMN.TXQ (R286): an EVT or FW frame prepared in a transmit buffer. An EVT frame waits for the credit of its port. -/
def State.emnTxq (s : State) (b : Nat) : State × Bool :=
  let h := s.rdBytes (R.EMN_BUF b 0) 4
  let dst := fieldLE h 0 1
  let type := fieldLE h 1 1
  let pl := slice (s.rdBytes (R.EMN_BUF b 0) (4 + min 1024 (fieldLE h 2 2))) 4 1024
  if b < 8 ∨ (type ≠ 2 ∧ type ≠ 5) then (s, true)
  else if type = 5 then (s.emnData 5 dst pl, false)
  else
    let pos := s.get F.EMN_POS_POS
    let ports := if dst = 0xFF then [0, 1] else if pos < dst then [1] else if dst < pos then [0] else []
    if ports = [] then (s.emnData 2 dst pl, false)
    else (ports.foldl (fun u p => u.sendEvt p ⟨dst, pos, pl, none⟩) s, false)

/-- A write of EMN.RX_DONE frees a receive buffer (R296). -/
def State.emnRxDone (s : State) (b : Nat) : State := { s with emn := { s.emn with rxq := s.emn.rxq.filter fun q => q.2 != b } }

/-- EMN.RXQ: the oldest received FW frame (R296). -/
def State.emnRxqWord (s : State) : Word :=
  match s.emn.rxq with
  | [] => 0
  | (src, b) :: _ => BitVec.ofNat 32 (2 ^ 31 + src * 256 + b)

end Sys2Proof.Machine
end

