-- ==== Sys2Proof/Machine/Fabric.lean ====
section
/-! DEFINITION. Sys2Proof/Machine/Fabric.lean: the reed fabric: execution, RAM, rim, set-reset, contention and capture
(R299-R338). -/
namespace Sys2Proof.Machine

/-- The value of source code `c` for cell `id` in micro-step `m` with instruction word `w` (R306). -/
def State.source (s : State) (id m w c : Nat) : BitVec 16 :=
  let k := s.cell id
  if c = 0 then k.q0 else if c = 1 then k.q1 else if c = 2 then k.q2 else if c = 3 then k.q3
  else if c < 12 then s.seeLane m 8 id (c - 4)
  else if c = 12 then (BitVec.ofNat 12 w).signExtend 16
  else if c = 14 then k.prev
  else if c = 15 then k.ramd.see m
  else if c = 16 then BitVec.ofNat 16 ((if k.c then 1 else 0) + (if k.f then 2 else 0))
  else 0

/-! ## Execution (R299-R302, R305-R310) -/

/-- What an operation reads. -/
structure ReedIn where
  a : BitVec 16
  b : BitVec 16
  c : BitVec 16
  x : Nat
  carry : Bool
  flag : Bool
  q0 : BitVec 16
  q1 : BitVec 16
  q2 : BitVec 16
  q3 : BitVec 16
deriving DecidableEq, Repr

/-- A result that leaves the flags as they were. -/
def ReedIn.res (i : ReedIn) (r : BitVec 16) : ReedOut := ⟨r, i.carry, i.flag⟩

/-- A result with a new C. -/
def ReedIn.resC (i : ReedIn) (r : BitVec 16) (c : Bool) : ReedOut := ⟨r, c, i.flag⟩

/-- A result with a new F. -/
def ReedIn.resF (i : ReedIn) (r : BitVec 16) (f : Bool) : ReedOut := ⟨r, i.carry, f⟩

/-- Register result `v` of cell `id` at the end of micro-step `m`: PREV, and destination code `dst` (R307, R316). -/
def State.register (s : State) (id m dst : Nat) (v : BitVec 16) : State :=
  let k := s.cell id
  let k1 := { k with prev := v }
  s.setCell id (
    if dst = 0 then { k1 with q0 := v } else if dst = 1 then { k1 with q1 := v }
    else if dst = 2 then { k1 with q2 := v } else if dst = 3 then { k1 with q3 := v }
    else if dst < 12 then
      if s.latched id (dst - 4) then k1
      else { k1 with out := Sparse.put (fun _ => {}) k.out (dst - 4) ((Sparse.get (fun _ => {}) k.out (dst - 4) : Reg2).write m v) }
    else if dst = 13 then { k1 with ramwd := k.ramwd.write m v }
    else k1)

/-- The bitwise majority of three words, and of three flags (R302). -/
def maj16 (a b c : BitVec 16) : BitVec 16 := (a &&& b) ||| (a &&& c) ||| (b &&& c)
def majBit (a b c : Bool) : Bool := (a && b) || (a && c) || (b && c)

/-- What three executions give: the majority of their results, of their C and of their F (R302). -/
def ReedOut.vote (x y z : ReedOut) : ReedOut := ⟨maj16 x.r y.r z.r, majBit x.carry y.carry z.carry, majBit x.flag y.flag z.flag⟩

/-- What an instruction of operation `op` registers in cell `id` at the end of micro-step `m`: its result in PREV and in the destination of
word `w`, its flags, and what it does beside (`act`, with the result). NOP registers nothing (R300, R307, R308). -/
def State.retire (s : State) (op id m w : Nat) (o : ReedOut) (act : State → BitVec 16 → State) : State :=
  if op = 0 then s
  else
    let s1 := s.register id m (w / 2 ^ 22 % 16) o.r
    act (s1.setCell id { s1.cell id with c := o.carry, f := o.flag }) o.r

/-- Cell `id` executes in micro-step `m` an instruction of operation `op`: `g` is the operation, `act` what it does beside its
result. The instruction is the one its configuration holds for that micro-step. With TRIPLE its sources are latched in the first of three
micro-steps, each of which executes it on them, and the majority of the three is registered in the last (R300, R302, R305). -/
def State.reed (s : State) (op : Nat) (c : Fin 65536) (m : Nat) (g : ReedIn → ReedOut)
    (act : State → BitVec 16 → State := fun t _ => t) : State :=
  let s := (s.at_ (s.stepTime m)).feedSample m
  let id := c.val
  let cfg := s.cellCfg id
  let i := m % 840 % cfgPhrase cfg
  let w := cfgInstr cfg (if cfgTriple cfg then i / 3 else i)
  if s.cellRuns id = false ∨ cfgBit cfg = true ∨ w / 2 ^ 26 ≠ op then s
  else
    let k := s.cell id
    let first := !cfgTriple cfg || i % 3 == 0
    let a := if first then s.source id m w (w / 2 ^ 17 % 32) else k.la
    let b := if first then s.source id m w (w / 2 ^ 12 % 32) else k.lb
    let d := if first then s.source id m w (w / 2 ^ 7 % 32) else k.lc
    let o := g ⟨a, b, d, w % 128, k.c, k.f, k.q0, k.q1, k.q2, k.q3⟩
    if cfgTriple cfg = false then s.retire op id m w o act
    else if i % 3 = 0 then s.setCell id { k with la := a, lb := b, lc := d, t0 := o }
    else if i % 3 = 1 then s.setCell id { k with t1 := o }
    else s.retire op id m w (ReedOut.vote k.t0 k.t1 o) act

/-- NOP: nothing; PREV stays (R308). -/
def execReedNop (c : Fin 65536) (m : Nat) (s : State) : Out := .next (s.reed 0x00 c m fun i => i.res 0)
/-- MOV: a (R308). -/
def execReedMov (c : Fin 65536) (m : Nat) (s : State) : Out := .next (s.reed 0x01 c m fun i => i.res i.a)
/-- ADD: a + b, C the carry out (R308). -/
def execReedAdd (c : Fin 65536) (m : Nat) (s : State) : Out :=
  .next (s.reed 0x02 c m fun i => i.resC (i.a + i.b) (decide (65536 ≤ i.a.toNat + i.b.toNat)))
/-- ADC: a + b + C, C the carry out (R308). -/
def execReedAdc (c : Fin 65536) (m : Nat) (s : State) : Out :=
  .next (s.reed 0x03 c m fun i =>
    let n := i.a.toNat + i.b.toNat + (if i.carry then 1 else 0)
    i.resC (BitVec.ofNat 16 n) (decide (65536 ≤ n)))
/-- SUB: a - b, C := a ≥ b unsigned (R308). -/
def execReedSub (c : Fin 65536) (m : Nat) (s : State) : Out :=
  .next (s.reed 0x04 c m fun i => i.resC (i.a - i.b) (decide (i.b.toNat ≤ i.a.toNat)))
/-- SBC: a - b - (1 - C), C := 1 when no borrow (R308). -/
def execReedSbc (c : Fin 65536) (m : Nat) (s : State) : Out :=
  .next (s.reed 0x05 c m fun i =>
    let n := i.b.toNat + (if i.carry then 0 else 1)
    i.resC (i.a - BitVec.ofNat 16 n) (decide (n ≤ i.a.toNat)))
/-- AND (R308). -/
def execReedAnd (c : Fin 65536) (m : Nat) (s : State) : Out := .next (s.reed 0x06 c m fun i => i.res (i.a &&& i.b))
/-- OR (R308). -/
def execReedOr (c : Fin 65536) (m : Nat) (s : State) : Out := .next (s.reed 0x07 c m fun i => i.res (i.a ||| i.b))
/-- XOR (R308). -/
def execReedXor (c : Fin 65536) (m : Nat) (s : State) : Out := .next (s.reed 0x08 c m fun i => i.res (i.a ^^^ i.b))
/-- ANDN: a and not b (R308). -/
def execReedAndn (c : Fin 65536) (m : Nat) (s : State) : Out := .next (s.reed 0x09 c m fun i => i.res (i.a &&& ~~~ i.b))
/-- NOT: not a (R308). -/
def execReedNot (c : Fin 65536) (m : Nat) (s : State) : Out := .next (s.reed 0x0A c m fun i => i.res (~~~ i.a))
/-- SHL by b[3:0] (R308). -/
def execReedShl (c : Fin 65536) (m : Nat) (s : State) : Out := .next (s.reed 0x0B c m fun i => i.res (i.a <<< (i.b.toNat % 16)))
/-- SHR, logical, by b[3:0] (R308). -/
def execReedShr (c : Fin 65536) (m : Nat) (s : State) : Out := .next (s.reed 0x0C c m fun i => i.res (i.a >>> (i.b.toNat % 16)))
/-- SRA, arithmetic, by b[3:0] (R308). -/
def execReedSra (c : Fin 65536) (m : Nat) (s : State) : Out := .next (s.reed 0x0D c m fun i => i.res (i.a.sshiftRight (i.b.toNat % 16)))
/-- ROL: a rotated left by b[3:0] (R308). -/
def execReedRol (c : Fin 65536) (m : Nat) (s : State) : Out := .next (s.reed 0x0E c m fun i => i.res (i.a.rotateLeft (i.b.toNat % 16)))
/-- MULL: bits [15:0] of a × b (R308). -/
def execReedMull (c : Fin 65536) (m : Nat) (s : State) : Out := .next (s.reed 0x0F c m fun i => i.res (i.a * i.b))
/-- MULH: bits [31:16] of a × b, signed (R308). -/
def execReedMulh (c : Fin 65536) (m : Nat) (s : State) : Out :=
  .next (s.reed 0x10 c m fun i => i.res (BitVec.ofInt 16 (Int.fdiv (i.a.toInt * i.b.toInt) 65536)))
/-- MULHU: bits [31:16] of a × b, unsigned (R308). -/
def execReedMulhu (c : Fin 65536) (m : Nat) (s : State) : Out :=
  .next (s.reed 0x11 c m fun i => i.res (BitVec.ofNat 16 (i.a.toNat * i.b.toNat / 65536)))
/-- MIN, signed (R308). -/
def execReedMin (c : Fin 65536) (m : Nat) (s : State) : Out :=
  .next (s.reed 0x12 c m fun i => i.res (if i.a.toInt ≤ i.b.toInt then i.a else i.b))
/-- MAX, signed (R308). -/
def execReedMax (c : Fin 65536) (m : Nat) (s : State) : Out :=
  .next (s.reed 0x13 c m fun i => i.res (if i.a.toInt ≤ i.b.toInt then i.b else i.a))
/-- MINU, unsigned (R308). -/
def execReedMinu (c : Fin 65536) (m : Nat) (s : State) : Out :=
  .next (s.reed 0x14 c m fun i => i.res (if i.a.toNat ≤ i.b.toNat then i.a else i.b))
/-- MAXU, unsigned (R308). -/
def execReedMaxu (c : Fin 65536) (m : Nat) (s : State) : Out :=
  .next (s.reed 0x15 c m fun i => i.res (if i.a.toNat ≤ i.b.toNat then i.b else i.a))
/-- A test: all ones or 0, and F (R308). -/
def ReedIn.test (i : ReedIn) (p : Bool) : ReedOut := i.resF (if p then 0xFFFF#16 else 0) p
/-- EQ (R308). -/
def execReedEq (c : Fin 65536) (m : Nat) (s : State) : Out := .next (s.reed 0x16 c m fun i => i.test (i.a == i.b))
/-- LT, signed (R308). -/
def execReedLt (c : Fin 65536) (m : Nat) (s : State) : Out := .next (s.reed 0x17 c m fun i => i.test (decide (i.a.toInt < i.b.toInt)))
/-- LTU, unsigned (R308). -/
def execReedLtu (c : Fin 65536) (m : Nat) (s : State) : Out := .next (s.reed 0x18 c m fun i => i.test (decide (i.a.toNat < i.b.toNat)))
/-- TST: a and b, F := not 0 (R308). -/
def execReedTst (c : Fin 65536) (m : Nat) (s : State) : Out := .next (s.reed 0x19 c m fun i => i.resF (i.a &&& i.b) ((i.a &&& i.b) != 0))
/-- SEL: a if F = 1, else b (R308). -/
def execReedSel (c : Fin 65536) (m : Nat) (s : State) : Out := .next (s.reed 0x1A c m fun i => i.res (if i.flag then i.a else i.b))
/-- BSEL: a if bit X[3:0] of c is 1, else b (R308). -/
def execReedBsel (c : Fin 65536) (m : Nat) (s : State) : Out :=
  .next (s.reed 0x1B c m fun i => i.res (if i.c.getLsbD (i.x % 16) then i.a else i.b))
/-- MUXQ: Q[(a shifted right by X[3:0]) and 3] (R308). -/
def execReedMuxq (c : Fin 65536) (m : Nat) (s : State) : Out :=
  .next (s.reed 0x1C c m fun i => i.res (match i.a.toNat / 2 ^ (i.x % 16) % 4 with | 0 => i.q0 | 1 => i.q1 | 2 => i.q2 | _ => i.q3))
/-- A signed result saturated to 16 bits; C := 1 if saturated (R308). -/
def ReedIn.sat (i : ReedIn) (v : Int) : ReedOut :=
  if v < -32768 then i.resC 0x8000#16 true else if 32767 < v then i.resC 0x7FFF#16 true else i.resC (BitVec.ofInt 16 v) false
/-- ADDS: a + b, signed, saturated (R308). -/
def execReedAdds (c : Fin 65536) (m : Nat) (s : State) : Out := .next (s.reed 0x1D c m fun i => i.sat (i.a.toInt + i.b.toInt))
/-- SUBS: a - b, signed, saturated (R308). -/
def execReedSubs (c : Fin 65536) (m : Nat) (s : State) : Out := .next (s.reed 0x1E c m fun i => i.sat (i.a.toInt - i.b.toInt))
/-- INCEQ: a + 1, F := (a + 1 = b) (R308). -/
def execReedInceq (c : Fin 65536) (m : Nat) (s : State) : Out := .next (s.reed 0x1F c m fun i => i.resF (i.a + 1) (i.a + 1 == i.b))
/-- FLAG: a, F := bit X[3:0] of a (R308). -/
def execReedFlag (c : Fin 65536) (m : Nat) (s : State) : Out := .next (s.reed 0x22 c m fun i => i.resF i.a (i.a.getLsbD (i.x % 16)))

/-! ## Fabric RAM (R319-R323) -/

/-- The cells of the RAM group of address cell `id`, cell 0 first: rows 4j to 4j + 3 of column 15 of the tract (R319). -/
def ramGroup (id : Nat) : List Nat := [id, id + 16, id + 32, id + 48]

/-- Whether a cell lies in a RAM group, and whether it is the address cell (R319). -/
def inRamGroup (id : Nat) : Bool := id % 16 == 15

/-- Whether it is the group's cell 0. -/
def isRamAddr (id : Nat) : Bool := id % 16 == 15 && id / 16 % 4 == 0

/-- Address of word `w` of the block of address cell `id` (R319, R320). -/
def ramAddr (id w : Nat) : Nat := 0x23000000 + (4 * (id / 256) + id / 16 % 16 / 4) * 0x1000 + w * 8

/-- RAMRD: the word appears on RAMD of the four cells from the next micro-step; an uncorrectable word delivers 0, sets F of the
address cell and is recorded (R321, R323). -/
def State.ramRead (s : State) (id m : Nat) (a : BitVec 16) : State :=
  if isRamAddr id then
    let addr := ramAddr id (a.toNat % 512)
    let p := s.memRead 5 addr
    let deliver := fun (t : State) (v : Nat) => ((ramGroup id).zip [0, 1, 2, 3]).foldl (fun u e =>
      u.setCell e.1 { u.cell e.1 with ramd := (u.cell e.1).ramd.write m (w16 v (16 * e.2)) }) t
    match p.2 with
    | some v => deliver p.1 v.toNat
    | none =>
      let s1 := deliver p.1 0
      let s2 := s1.setCell id { s1.cell id with f := true }
      (((s2.set F.FAB_RAM_STAT_POISON 1).wr R.FAB_RAM_POISON_ADDR (BitVec.ofNat 32 (addr - 0x23000000))).count R.FAB_RAM_POISON_CNT).raise 499
  else s

/-- RAMWR: the RAMWD values as registered before this micro-step, cell 3 in bits [63:48] (R321). -/
def State.ramWrite (s : State) (id m : Nat) (a : BitVec 16) : State :=
  if isRamAddr id then
    let v := ((ramGroup id).zip [0, 1, 2, 3]).foldl (fun n e => n + ((s.cell e.1).ramwd.see m).toNat * 2 ^ (16 * e.2)) 0
    s.memWrite (ramAddr id (a.toNat % 512)) (BitVec.ofNat 64 v)
  else s

/-- RAMRD (R308, R321). -/
def execReedRamrd (c : Fin 65536) (m : Nat) (s : State) : Out :=
  .next (s.reed 0x20 c m (fun i => i.res i.a) fun t a => t.ramRead c m a)

/-- RAMWR (R308, R321). -/
def execReedRamwr (c : Fin 65536) (m : Nat) (s : State) : Out :=
  .next (s.reed 0x21 c m (fun i => i.res i.a) fun t a => t.ramWrite c m a)

/-! ## Bit mode (R309, R310) -/

/-- Output bit j of the sixteen look-up tables on inputs d3 to d0 (R309, R310). -/
def lutOut (cfg : BitVec 320) (b0 b1 b2 b3 : BitVec 16) : BitVec 16 :=
  BitVec.ofNat 16 ((List.range 16).foldl (fun n j =>
    let d := (if b3.getLsbD j then 8 else 0) + (if b2.getLsbD j then 4 else 0) + (if b1.getLsbD j then 2 else 0) + (if b0.getLsbD j then 1 else 0)
    if cfg.getLsbD (32 * (j / 2) + 16 * (j % 2) + d) then n + 2 ^ j else n) 0)

/-- REED_LUT_STEP (R310). A bit-mode cell registers its sixteen outputs at the end of micro-step WR_STEP. -/
def execReedLutStep (c : Fin 65536) (m : Nat) (s : State) : Out :=
  let s := (s.at_ (s.stepTime m)).feedSample m
  let id := c.val
  let cfg := s.cellCfg id
  let i := m % 840 % cfgPhrase cfg
  if s.cellRuns id = true ∧ cfgBit cfg = true ∧ i = mBits cfg 12 10 then
    let b := fun hi lo => s.source id m 0 (mBits cfg hi lo)
    let v := lutOut cfg (b 36 32) (b 31 27) (b 26 22) (b 21 17)
    .next (s.register id m (mBits cfg 16 13) v)
  else .next s

/-! ## Set-reset and release (R332-R334) -/

/-- Assert the set-reset of tract `t`. -/
def State.holdTract (s : State) (t : Nat) : State :=
  { s with fab := { s.fab with
      free := Sparse.put (fun _ => false) s.fab.free t false,
      cells := Sparse.clear (256 * t) (256 * t + 256) s.fab.cells } }

/-- Release tract `t` at the next PIPE edge with E = 0 (R333, R354). -/
def State.freeTract (s : State) (t : Nat) : State :=
  { s with fab := { s.fab with
      free := Sparse.put (fun _ => false) s.fab.free t true, freeAt := Sparse.put (fun _ => 0) s.fab.freeAt t (s.epochStart s.now) } }

/-- The global set-reset (R332, R334). -/
def State.globalSetReset (s : State) : State :=
  (({ s with fab := { s.fab with free := [], freeAt := [], cells := [], step := none } }.set F.FAB_SR_STAT_RELEASED 0).set F.FAB_SR_STAT_DONE 0).set
    F.FAB_CTL_RELEASE 0

/-- Whether a release order names every quadrant once (R334). -/
def srOrderOk (v : Word) : Bool := decide (([0, 1, 2, 3].map fun k => v.toNat / 4 ^ k % 4).Nodup)

/-- FAB.CTL.RELEASE written 1 (R333, R334): in INIT it starts the sequence. With an order that no write could set it does nothing (R8). -/
def State.fabricRelease (s : State) : State :=
  if s.clk.epoch.isNone then s.set F.FAB_SR_STAT_NO_CLOCK 1
  else if s.mode ≠ M.init ∨ srOrderOk (s.rd R.FAB_SR_ORDER) = false ∨ s.bit F.FAB_SR_STAT_DONE = true ∨ s.fab.step.isSome = true then s
  else { s with fab := { s.fab with step := some 0, stepAt := s.now + 1 } }.set F.FAB_CTL_RELEASE 1

/-- E at time `t` (R299). -/
def State.epochAt (s : State) (t : Nat) : Nat := (t - s.clk.epoch.getD t) * 2 % 840

/-- Whether something holds the set-reset of tract `j` beside the global one: a restore, a partial load's APPLY, or a slice that tests it (R354,
R360, R523). Its own end releases the tract. -/
def State.tractBusy (s : State) (j : Nat) : Bool :=
  s.cfg.restoring.contains (tractQuad j) || s.cfg.held.contains (tractQuad j) ||
    (s.get F.CFG_PR_STAT_STATE == 4 && s.cfg.pr.region.contains j) ||
    (match s.bist.slice with | some x => x.kind == 6 && x.unit == j | none => false)

/-- QUADRANT_RELEASE (R333, R334). At `t`, an edge with E = 0, the next quadrant of SR_ORDER is released; one that is off is skipped. -/
def execQuadrantRelease (t : Nat) (s : State) : Out :=
  let s := s.at_ t
  match s.fab.step with
  | none => .next s
  | some k =>
    if s.epochAt s.now ≠ 0 ∨ s.now < s.fab.stepAt then .next s
    else
      let q := s.get F.FAB_SR_ORDER_ORDER / 4 ^ k % 4
      let s1 := if s.quadOn q then
          ((List.range 256).foldl (fun u j => if tractQuad j = q ∧ s.tractBusy j = false then u.freeTract j else u) s).set F.FAB_SR_STAT_RELEASED
            (Nat.lor (s.get F.FAB_SR_STAT_RELEASED) (2 ^ q))
        else s
      if k < 3 then .next { s1 with fab := { s1.fab with step := some (k + 1), stepAt := s.now + 420 } }
      else .next ((({ s1 with fab := { s1.fab with step := none } }.set F.FAB_SR_STAT_DONE 1).set F.FAB_CTL_RELEASE 0).raise 501)

/-- A write of SR_ORDER that names a quadrant twice is a reserved encoding (R334). -/
def State.srOrderWrite (s : State) (v : Word) : State × Bool :=
  if srOrderOk v then s.mergeWrite R.FAB_SR_ORDER v else (s, true)

/-! ## The rim (R330) -/

/-- FIRQ_EDGE (R330). A rising edge of rim line FIRQx at the edge that begins micro-step `m`. -/
def execFirqEdge (x : Fin 96) (m : Nat) (s : State) : Out :=
  let s := s.at_ (s.stepTime m)
  .next (if s.rimRises m 0 x 255 0 then s.raise (392 + x) else s)

/-- FABRIC_HOLD_CHANGE (R24, R330). The rim HOLD signal, as micro-step `m` begins, is the HOLD cause FABRIC_HOLD while HOLD_EN = 1. -/
def execFabricHoldChange (m : Nat) (s : State) : Out :=
  let s := s.at_ (s.stepTime m)
  let level := (s.rimOut m 0 112 255).getLsbD 1
  let s1 := { s with fab := { s.fab with hold := level } }
  .next (if s.bit F.FAB_RIM_CTL_HOLD_EN then (if level then s1.raiseHold 6 else s1.clearHold 6) else s1)

/-- SNAP_TRIGGER (R330, R487-R491). The sources in mask `src` assert the trigger in one SPINE cycle. Source 3, the rim's SNAP, has to rise at the
edge that begins micro-step `m`, with SNAP_EN = 1; source 0, the pin, needs PIN_EN; the others are gated by the blocks they come from. -/
def execSnapTrigger (src m : Nat) (s : State) : Out :=
  let s := if src.testBit 3 then s.at_ (s.stepTime m) else s
  let rim := s.bit F.FAB_RIM_CTL_SNAP_EN && s.rimRises m 0 112 255 0
  let mask := (List.range 8).foldl (fun a i =>
    if src.testBit i && (i != 0 || s.bit F.SNAP_CTL_PIN_EN) && (i != 3 || rim) then a + 2 ^ i else a) 0
  .next (if mask = 0 then s else s.assertSnap mask)

/-- The event that insert port FPp shows in micro-step `m`, with its BIN and LANE (R328). -/
def State.rimInsert (s : State) (m : Nat) (p : Fin 16) : Insert :=
  let y := 16 * p.val
  { lane := (s.rimOut m 3 0 (y + 5)).toNat % 256, bin := (s.rimOut m 3 0 (y + 4)).toNat % 4096,
    ev := BitVec.ofNat 64 (s.rimWest m y 4), src := .fabric p }

/-- WHEEL_INSERT_OFFER (R73, R328). A source other than an engine's WINS or a drone's INS_EV_HI, which have their own commands, offers an
insert at its port; a port of the fabric takes what its lanes show at an edge at which OFFER differs from the edge before. -/
def execWheelInsertOffer (o : InsertOffer) (s : State) : Out :=
  match o with
  | .ivwyn x txn lane bin ev => .next (s.offerWait ⟨lane.val, bin.val, ev, .ivwyn x txn⟩)
  | .chain lane bin ev => .next ({ s with emn := { s.emn with evtPorts := s.emn.evtPorts ++ [none] } }.offerWait ⟨lane.val, bin.val, ev, .chain⟩)
  | .fabric p m =>
    let s := s.at_ (s.stepTime m)
    .next (if s.rimToggles m 3 0 (16 * p.val + 5) 15 then s.offer (s.rimInsert m p) else s)

/-- A write of RIM_CTL: HOLD_EN lets the level of HOLD through or takes the cause away (R330). -/
def State.rimCtlWrite (s : State) (v : Word) : State × Bool :=
  let p := s.mergeWrite R.FAB_RIM_CTL v
  let was := s.bit F.FAB_RIM_CTL_HOLD_EN && s.fab.hold
  let is := p.1.bit F.FAB_RIM_CTL_HOLD_EN && s.fab.hold
  (if is && !was then p.1.raiseHold 6 else if was && !is then p.1.clearHold 6 else p.1, p.2)

/-- RIM_CAPTURE_EDGE (R330, R336). A rising edge of the rim's CAPTURE at the edge that begins micro-step `m`. -/
def execRimCaptureEdge (m : Nat) (s : State) : Out :=
  let s := s.at_ (s.stepTime m)
  .next (if s.bit F.FAB_CAP_CTL_SRC_RIM && s.rimRises m 0 112 255 2 then s.requestCapture else s)

/-! ## Contention (R315-R317) -/

/-- The end of the lane between `id` (lane `l`) and its neighbour that contention would latch off, when both ends own it: the east or
the north one (R316). -/
def State.contends (s : State) (id l : Nat) : Option (Nat × Nat) :=
  match neighbour id l with
  | none => none
  | some n =>
    if cfgOwn (s.cellCfg id) l && cfgOwn (s.cellCfg n) (otherLane l) then
      some (if l / 2 = 0 ∨ l / 2 = 1 then (n, otherLane l) else (id, l))
    else none

/-- Arbitrate the lanes of the cells in `ids` after their configuration changed. A latch clears where the disabled end's owner bit is 0 or
its frame was `rewritten`; new latches are set and counted, and the first recorded (R316, R317). -/
def State.arbitrate (s : State) (rewritten : Bool) (ids : List Nat) : State :=
  let lanes := ids.flatMap fun id => (List.range 8).map fun l => (id, l)
  let clear := lanes.foldl (fun (u : State) e =>
    if u.latched e.1 e.2 && (rewritten || !cfgOwn (u.cellCfg e.1) e.2) then u.setLatch e.1 e.2 false else u) s
  let new := (lanes.filterMap fun e => clear.contends e.1 e.2).filter fun e => !clear.latched e.1 e.2
  let new := new.eraseDups
  let first := new.foldl (fun (b : Option (Nat × Nat)) e => match b with
    | some g => if g.1 * 8 + g.2 ≤ e.1 * 8 + e.2 then some g else some e
    | none => some e) none
  let s1 := new.foldl (fun u e => ((u.setLatch e.1 e.2 true).count R.FAB_CONT_COUNT).raise 496) clear
  match first with
  | none => s1
  | some e =>
    let s2 := s1.set F.FAB_CONT_STAT_CONTENTION 1
    if s2.bit F.FAB_CONT_CELL_VALID then s2
    else s2.wr R.FAB_CONT_CELL (BitVec.ofNat 32 (2 ^ 31 + cellX e.1 * 65536 + cellY e.1 * 256 + e.2))

/-- CONT_CLR.REENABLE written 1: the latches clear, and those whose contention lasts are set and counted again (R317). -/
def State.contReenable (s : State) : State :=
  let ids := s.fab.latch.map fun e => e.1 / 8
  { s with fab := { s.fab with latch := [] } }.arbitrate false ids

/-- A write of CONT_STAT: clearing CONTENTION lets CONT_CELL record the next one (R317, R340). -/
def State.contStatWrite (s : State) (v : Word) : State :=
  if v.getLsbD 31 then (s.set F.FAB_CONT_STAT_CONTENTION 0).wr R.FAB_CONT_CELL 0 else s

/-- Put the configuration of one cell; a cell that holds user state keeps it. -/
def State.setCellCfg (s : State) (id : Nat) (w : BitVec 320) : State :=
  let k := s.cell id
  let free := s.tractFree (id / 256)
  let s1 := { s with fab := { s.fab with cfg := Sparse.put (fun _ => 0) s.fab.cfg id w } }
  if free then s1.setCell id k else s1

/-- CONFIG_UPSET (R316, R317, R356). An upset flips bits of frame `frame`; the lanes are arbitrated with the new owner bits. -/
def execConfigUpset (frame : Fin 4096) (bits : List (Fin 5120)) (s : State) : Out :=
  let ids := (List.range 16).map fun i => frame.val * 16 + i
  let s1 := bits.foldl (fun u b =>
    let id := frame.val * 16 + b.val / 320
    u.setCellCfg id (u.cellCfg id ^^^ BitVec.ofNat 320 (2 ^ (b.val % 320)))) s
  .next (s1.arbitrate false ids)

/-! ## Capture (R335-R338) -/

/-- CAPTURE_TAKEN (R335, R336). At micro-step `m`, with ALIGN at an edge where E equals EDGE, the requested capture is taken. -/
def execCaptureTaken (m : Nat) (s : State) : Out :=
  let s := s.at_ (s.stepTime m)
  let e := m % 840
  if s.capWait = true ∧ s.clk.epoch.isSome = true ∧ (s.bit F.FAB_CAP_CTL_ALIGN = false ∨ s.get F.FAB_CAP_CTL_EDGE = e) then
    let free := s.fab.free.filter fun e => s.tractFree e.1
    let c : Capture := { cells := s.fab.cells, cfg := s.fab.cfg, free := free, latch := s.fab.latch, on := [0, 1, 2, 3].filter fun q => s.quadOn q, edge := e }
    let s1 := { s with capWait := false, fab := { s.fab with cap := c } }
    let s2 := (s1.wr R.FAB_CAP_STAT (BitVec.ofNat 32 (2 ^ 31 + e))).wr R.FAB_CAP_TIME_LO (BitVec.ofNat 32 s.now)
    .next (((s2.wr R.FAB_CAP_TIME_HI (BitVec.ofNat 32 (s.now / 2 ^ 32))).set F.FAB_CAP_CTL_GO 0).raise 497)
  else .next s

/-- A write of CAP_CTL: FREE clears FULL before a GO of the same write requests a capture (R336, R338). -/
def State.capCtlWrite (s : State) (v : Word) : State × Bool :=
  let p := s.mergeWrite R.FAB_CAP_CTL (v &&& 0x3FFFFFFF#32)
  let s1 := if v.getLsbD 30 then p.1.set F.FAB_CAP_STAT_FULL 0 else p.1
  let s2 := if v.getLsbD 31 then s1.requestCapture else s1
  (s2, p.2)

/-- Word `w` of the record of cell `id` in the capture held (R337). -/
def Capture.word (c : Capture) (id w : Nat) : Word :=
  if Sparse.get (fun _ => false) c.free (id / 256) = false ∨ c.on.contains (tractQuad (id / 256)) = false then 0
  else
    let cfg := Sparse.get (fun _ => 0) c.cfg id
    let k : Cell := Sparse.get (fun _ => { q0 := cfgInit cfg }) c.cells id
    let out := fun l => if cfgOwn cfg l then (Sparse.get (fun _ => {}) k.out l : Reg2).cur else 0
    let cont := (List.range 8).any fun l => Sparse.get (fun _ => false) c.latch (id * 8 + l)
    match w with
    | 0 => k.q1 ++ k.q0
    | 1 => k.q3 ++ k.q2
    | 2 => k.ramwd.cur ++ k.prev
    | 3 => BitVec.ofNat 32 ((if cont then 256 else 0) + (c.edge + 839) % 840 % cfgPhrase cfg * 32 + (if k.f then 2 else 0) + (if k.c then 1 else 0))
    | 4 => out 1 ++ out 0
    | 5 => out 3 ++ out 2
    | 6 => out 5 ++ out 4
    | _ => out 7 ++ out 6

/-- Whether CAP_DATA may be read: in SERVICE, or in any mode in lifecycle VENDOR or OPEN (R338, R529). -/
def State.capReadable (s : State) : Bool := s.mode == M.service || decide (s.get F.SEC_STAT_LIFECYCLE ≤ 1)

/-- CAP_DATA at CAP_ADDR (R337). -/
def State.capData (s : State) : Word :=
  let w := s.get F.FAB_CAP_ADDR_WORD
  s.fab.cap.word (s.get F.FAB_CAP_ADDR_FRAME * 16 + w / 8) (w % 8)

/-- A read of CAP_DATA advances WORD, past 127 to word 0 of the next frame (R338). -/
def State.capAdvance (s : State) : State :=
  let w := s.get F.FAB_CAP_ADDR_WORD
  if w = 127 then (s.set F.FAB_CAP_ADDR_WORD 0).set F.FAB_CAP_ADDR_FRAME (s.get F.FAB_CAP_ADDR_FRAME + 1)
  else s.set F.FAB_CAP_ADDR_WORD (w + 1)

/-- FAB.EPOCH: E (R299). -/
def State.epochWord (s : State) : Word := if s.clk.epoch.isSome then BitVec.ofNat 32 (s.epochAt s.now) else 0

/-- MBOX_OUT of row `y`: lane A of (255, y) (R327). -/
def State.mboxOut (s : State) (y : Nat) : Word := (s.rimOut s.stepNow 1 255 y).zeroExtend 32

end Sys2Proof.Machine
end

