-- ==== Sys2Proof/Machine/Flash.lean ====
section
/-! DEFINITION. Sys2Proof/Machine/Flash.lean: configuration flash, its journal, parameter flash and the OTP row (R399-R431). -/
namespace Sys2Proof.Machine

/-- Sector `n` of CFLASH. -/
def State.sector (s : State) (n : Nat) : Sector := Sparse.get (fun _ => {}) s.flash.sectors n

/-- Put it. -/
def State.setSector (s : State) (n : Nat) (x : Sector) : State :=
  { s with flash := { s.flash with sectors := Sparse.put (fun _ => {}) s.flash.sectors n x } }

/-- Sector states (R402). -/
abbrev Fs.sealed : Nat := 0
abbrev Fs.erasing : Nat := 1
abbrev Fs.erased : Nat := 2
abbrev Fs.opened : Nat := 3
abbrev Fs.failed : Nat := 4
abbrev Fs.suspect : Nat := 5

/-- Commands (R412). -/
abbrev Fo.prog : Nat := 1
abbrev Fo.erase : Nat := 2
abbrev Fo.seal : Nat := 3
abbrev Fo.check : Nat := 4
abbrev Fo.margin : Nat := 5
abbrev Fo.suspend : Nat := 6
abbrev Fo.resume : Nat := 7
abbrev Fo.pfProg : Nat := 8
abbrev Fo.pfErase : Nat := 9
abbrev Fo.promote : Nat := 15

/-- The 32 bytes of a journal record (R405). -/
def JRec.bytes (r : JRec) : List Nat :=
  let b := [r.type, 1] ++ bytesLE 2 r.sector ++ bytesLE 4 r.seq ++ bytesLE 4 r.erases ++ slice (r.data ++ zeros 16) 0 16
  b ++ bytesLE 4 (crc32c b).toNat

/-- GENERATION of a half; none without a valid header. -/
def JHalf.generation (h : JHalf) : Option Nat := h.header.map fun r => fieldLE r.data 0 4

/-- Free locations of a half. -/
def JHalf.free (h : JHalf) : Nat := 1024 - h.recs.length - (if h.header.isSome then 1 else 0)

/-- What location `k` of a half holds: blank, a record, or neither. -/
def JHalf.loc (h : JHalf) (k : Nat) : Option (Option JRec) :=
  if k = 0 then h.header.map some else h.recs[k - 1]?

/-- The active half (R408). -/
def State.journalHalf (s : State) : JHalf := if s.flash.half then s.flash.j1 else s.flash.j0

/-- Put it. -/
def State.setJournalHalf (s : State) (h : JHalf) : State :=
  { s with flash := if s.flash.half then { s.flash with j1 := h } else { s.flash with j0 := h } }

/-- Write a record after `fails` locations were abandoned (R405, R409). -/
def State.journal (s : State) (fails type sector erases : Nat) (data : List Nat) : State :=
  let h := s.journalHalf
  let r : JRec := { type := type, sector := sector, seq := s.flash.seq + 1, erases := erases, data := data }
  let s1 := s.setJournalHalf { h with recs := h.recs ++ List.replicate fails none ++ [some r] }
  { s1 with flash := { s1.flash with seq := s1.flash.seq + 1 } }

/-- `FLASH.JOURNAL` (R428). -/
def State.journalWord (s : State) : Word :=
  let h := s.journalHalf
  BitVec.ofNat 32 ((if s.flash.half then 2 ^ 31 else 0) + h.generation.getD 0 % 2 ^ 20 * 2 ^ 11 + h.free % 2 ^ 11)

/-- `FLASH.SUSPECTk` (R403). -/
def State.suspectWord (s : State) (k : Nat) : Word :=
  BitVec.ofNat 32 ((List.range 32).foldl (fun a j => if 32 * k + j < 767 ∧ (s.sector (32 * k + j)).state ≠ Fs.sealed then a + 2 ^ j else a) 0)

/-- The slot whose role is primary: 1 or 2 (R366, R408). -/
def State.primaryNow (s : State) : Nat := if (s.flash.select.getD []).headD 1 = 2 then 2 else 1

/-- The slot that had the primary role at the start. -/
def State.primarySlot (s : State) : Nat := if s.bit F.CFG_SLOT_SEL_PRIMARY then 2 else 1

/-- The staging slot (R366). -/
def State.stagingSlot (s : State) : Nat := 3 - s.primarySlot

/-- The slot a sector lies in; none for LIBRARY and the journal (R399). -/
def slotOf (n : Nat) : Option Nat := if n < 672 then some (n / 224) else none

/-- Whether sector `n` holds a repair source (R422). -/
def State.sourceLocked (s : State) (n : Nat) : Bool :=
  match slotOf n with
  | some k => (s.alive && s.cfg.boot.slot == k) || s.cfg.chain.served.contains k
  | none => s.cfg.recs.any fun e =>
      let r := e.2
      let len := if e.1 < 4096 then 640 else 4096
      decide (r.state ≤ 1) && !r.chain && decide (r.src < 0x30000000 + (n + 1) * 0x10000) && decide (0x30000000 + n * 0x10000 < r.src + len)

/-- `FLASH.SECTOR_STAT` of the selected sector. -/
def State.sectorStat (s : State) : Word :=
  let n := s.get F.FLASH_SECTOR_SEL_SECTOR
  if n < 767 then
    BitVec.ofNat 32 ((s.sector n).state * 2 ^ 28 + (if s.sourceLocked n then 2 ^ 27 else 0) + (s.sector n).erases % 2 ^ 24)
  else 0

/-- Bring the progress fields of `FLASH.STAT` up to date (R429). -/
def State.flashStat (s : State) : State :=
  let susp := s.flash.ops.filter fun o => o.susp
  let s1 := (s.set F.FLASH_STAT_CF_BUSY (if s.flash.ops = [] then 0 else 1)).set F.FLASH_STAT_SUSP susp.length
  let s2 := s1.set F.FLASH_STAT_SUSP_CMD (match susp.getLast? with | some o => (if o.byCmd then 1 else 0) | none => 0)
  (s2.set F.FLASH_STAT_COMPACTING (if s.flash.after.isSome then 1 else 0)).set F.FLASH_STAT_PF_BUSY (if s.flash.pfOp.isSome then 1 else 0)

/-- Put the CFLASH operations, innermost first. -/
def State.setOps (s : State) (l : List FlashOp) : State := { s with flash := { s.flash with ops := l } }

/-! ## Reads (R400, R414-R417, R425) -/

/-- The operation of CFLASH that runs, if any. -/
def State.flashRuns (s : State) : Bool :=
  match s.flash.ops with
  | o :: _ => !o.susp
  | [] => false

/-- Suspend the operation that runs (R414). -/
def State.flashSuspend (s : State) (byCmd : Bool) : State :=
  match s.flash.ops with
  | o :: r =>
    (s.setOps ({ o with susp := true, byCmd := o.byCmd || byCmd } :: r)).flashStat
  | [] => s

/-- A CFLASH read by the hardware arrives: it suspends the running operation, waits and proceeds (R414, R416). -/
def State.flashTouch (s : State) : State :=
  let s1 := if s.flashRuns then s.flashSuspend false else s
  { s1 with flash := { s1.flash with lastRead := s.now } }

/-- Byte `o` of CFLASH, outside the journal. -/
def State.cfByte (s : State) (o : Nat) : Nat := Sparse.get (fun _ => 255) s.flash.cf o

/-- `n` bytes of CFLASH from address `a`. -/
def State.cfBytes (s : State) (a n : Nat) : List Nat := (List.range n).map fun i => s.cfByte (a - 0x30000000 + i)

/-- Whether an operation that is suspended covers offset `o` (R416). -/
def State.flashHolds (s : State) (o : Nat) : Bool :=
  s.flash.ops.any fun x =>
    x.susp && ((x.op == Fo.prog && x.addr / 0x1000 == (0x30000000 + o) / 0x1000) ||
      (x.op == Fo.erase && x.addr / 0x10000 == (0x30000000 + o) / 0x10000))

/-- An uncorrectable read: its address, UNCORR, source 844 (R400, R417). -/
def State.flashUncorr (s : State) (a : Nat) : State :=
  ((s.wr R.FLASH_UNCORR_ADDR (BitVec.ofNat 32 a)).set F.FLASH_STAT_UNCORR 1).raise 844

/-- Byte `o` of the journal; a location that holds neither a record nor a blank reads a free value. -/
def State.journalByte (s : State) (o : Nat) : Nat :=
  let h := if o < 0x8000 then s.flash.j0 else s.flash.j1
  match h.loc (o % 0x8000 / 32) with
  | none => 255
  | some (some r) => r.bytes.getD (o % 32) 0
  | some none => s.fresh / 256 ^ (o % 8) % 256

/-- A spine read of `n` bytes of CFLASH whose code word has `bad` bad bits (R400, R416). -/
def State.cfRead (s : State) (a n bad : Nat) : State × Resp × Nat :=
  let o := a - 0x30000000
  let runs := s.flashRuns
  let s1 := s.flashTouch
  if runs then (s1, .param, 0)
  else if s1.flashHolds o then (s1, .param, 0)
  else if s1.flash.damaged.contains (o / 0x1000) then
    if s1.fresh % 2 = 0 then (s1.drawn.flashUncorr a, .param, 0) else (s1.drawn, .ok, s1.fresh / 2 % 256 ^ n)
  else if 2 < bad then (s1.flashUncorr a, .param, 0)
  else
    let s2 := if bad = 0 then s1 else s1.count R.FLASH_CF_CORR
    if o < 0x2FF0000 then (s2, .ok, numLE (s2.cfBytes a n))
    else (s2.drawn, .ok, numLE ((List.range n).map fun i => s2.journalByte (o - 0x2FF0000 + i)))

/-- Wait states that PFLASH needs at the SPINE frequency in use, VCORE in its band: 200 MHz on the PLL clocks, the boot
oscillator before (R419). -/
def State.pfNeed (s : State) : Nat := if s.bit F.CLK_CTL_CORE then 5 else 2

/-- A spine read of `n` bytes of PFLASH (R417, R419). -/
def State.pfRead (s : State) (a n bad : Nat) : State × Resp × Nat :=
  let k := (a - 0x33000000) / 16
  if s.flash.pfOp.isSome then (s, .param, 0)
  else if s.flash.pfBad.contains k then
    if s.fresh % 2 = 0 then (s.drawn.flashUncorr a, .param, 0) else (s.drawn, .ok, s.fresh / 2 % 256 ^ n)
  else if 1 < bad then (s.flashUncorr a, .param, 0)
  else
    let s1 := if bad = 0 then s else s.count R.FLASH_CF_CORR
    if s1.get F.FLASH_PF_WS_WS < s1.pfNeed then (s1.drawn, .ok, s1.fresh % 256 ^ n)
    else
      let w : BitVec 128 := (Sparse.get (fun _ => none) s1.flash.pf k).getD (BitVec.allOnes 128)
      (s1, .ok, w.toNat / 256 ^ (a % 16) % 256 ^ n)

/-- The OTP row as Torush ships it: group OPEN of the lifecycle is programmed (R528, R533). -/
def otpShipped (k : Nat) : Option (BitVec 64) := if k < 8 then some 0x6128000161280001#64 else none

/-- OTP word `k` as stored; none while it is not programmed. -/
def State.otpWord? (s : State) (k : Nat) : Option (BitVec 64) := Sparse.get otpShipped s.flash.otp k

/-- OTP word `k`; an unprogrammed word reads 0 (R425). -/
def State.otpWord (s : State) (k : Nat) : BitVec 64 := (s.otpWord? k).getD 0

/-- Whether word `k` reads uncorrectable: its program failed, or the last exit from RESET found it so (R247, R425). -/
def State.otpUncorr (s : State) (k : Nat) : Bool := s.flash.otpBad.contains k || s.flash.otpUnc.contains k

/-- `n` bytes of the OTP row from offset `o`, in the byte order of R3. -/
def State.otpBytes (s : State) (o n : Nat) : List Nat :=
  (List.range n).map fun i => (s.otpWord ((o + i) / 8)).toNat / 256 ^ ((o + i) % 8) % 256

/-- Store an OTP word. -/
def State.setOtp (s : State) (k : Nat) (w : BitVec 64) : State :=
  { s with flash := { s.flash with otp := Sparse.put otpShipped s.flash.otp k (some w) } }

/-- Program a run of OTP words from bytes; `bad` = the index in the run of a word whose program fails (R425). -/
def State.otpProgramRun (s : State) (o : Nat) (l : List Nat) (bad : Option Nat) : State :=
  (List.range ((l.length + 7) / 8)).foldl
    (fun t i =>
      let t1 := t.setOtp (o / 8 + i) (BitVec.ofNat 64 (fieldLE l (8 * i) 8))
      if bad = some i then { t1 with flash := { t1.flash with otpBad := (o / 8 + i) :: t1.flash.otpBad } } else t1) s

/-- A spine read of `n` bytes of the OTP row (R425). -/
def State.otpRead (s : State) (a n bad : Nat) : State × Resp × Nat :=
  let o := a - 0x34000000
  if 0x1180 ≤ o ∧ o < 0x1240 then (s, .param, 0)
  else if s.flash.otpBad.contains (o / 8) then
    if s.fresh % 2 = 0 then (s.drawn, .param, 0) else (s.drawn, .ok, s.fresh / 2 % 256 ^ n)
  else if 1 < bad then (s, .param, 0)
  else (s, .ok, numLE (s.otpBytes o n))

/-! ## Commands (R411-R422) -/

/-- Whether FWP_N blocks a program or erase of a CFLASH sector (R420, R421). -/
def State.cfProtected (s : State) (n : Nat) : Bool := !s.flash.fwp && (decide (n < 224) || s.bitAt (R.FLASH_PROT_CF (n / 32)) (n % 32))

/-- Whether FWP_N blocks a program or erase of a PFLASH sector. -/
def State.pfProtected (s : State) (n : Nat) : Bool := !s.flash.fwp && s.bitAt (R.FLASH_PROT_PF (n / 32)) (n % 32)

/-- Whether the state of its sector accepts a command (R402). -/
def State.sectorAccepts (s : State) (op a : Nat) : Bool :=
  let x := s.sector ((a - 0x30000000) / 0x10000)
  if op = Fo.prog then (x.state == Fs.erased || x.state == Fs.opened) && a / 0x1000 % 16 == x.pages
  else if op = Fo.erase then x.state != Fs.erasing
  else if op = Fo.seal then x.state == Fs.erased || x.state == Fs.opened
  else if op = Fo.check then x.state == Fs.sealed
  else x.state != Fs.erasing

/-- Whether the array is busy for a command (R413, R415, R416). -/
def State.flashBusy (s : State) (op a : Nat) : Bool :=
  if s.flash.after.isSome then true
  else if Fo.pfProg ≤ op then s.flash.pfOp.isSome
  else
    match s.flash.ops with
    | [] => false
    | [e] => !(op == Fo.prog && e.op == Fo.erase && e.susp && a / 0x10000 != e.addr / 0x10000)
    | _ => true

/-- Whether ADDR fits a command (R412, R413). -/
def flashRange (op a : Nat) : Bool :=
  if op = Fo.prog then decide (0x30000000 ≤ a) && decide (a < 0x32FF0000) && a % 0x1000 == 0
  else if op ≤ Fo.margin then decide (0x30000000 ≤ a) && decide (a < 0x32FF0000) && a % 0x10000 == 0
  else if op = Fo.pfProg then decide (0x33000000 ≤ a) && decide (a < 0x33200000) && a % 16 == 0
  else decide (0x33000000 ≤ a) && decide (a < 0x33200000) && a % 0x1000 == 0

/-- The checks of a command in the order of R413; 0 = accepted. -/
def State.flashCheck (s : State) (op a : Nat) : Nat :=
  let n := (a - 0x30000000) / 0x10000
  if s.alive = false then 1
  else if flashRange op a = false then 2
  else if s.flashBusy op a then 3
  else if (op = Fo.prog ∨ op = Fo.erase) ∧ s.cfProtected n = true then 4
  else if Fo.pfProg ≤ op ∧ s.pfProtected ((a - 0x33000000) / 0x1000) = true then 4
  else if (op = Fo.prog ∨ op = Fo.erase ∨ op = Fo.seal) ∧ s.sourceLocked n = true then 5
  else if op ≤ Fo.margin ∧ s.sectorAccepts op a = false then 6
  else if op = Fo.pfProg ∧ (Sparse.get (fun _ => none) s.flash.pf ((a - 0x33000000) / 16)).isSome = true then 9
  else 0

/-- The end of a CFLASH command: CODE, CF_DONE, sources 840 and 841 (R411, R431). -/
def State.cfEnd (s : State) (code : Nat) : State :=
  let s1 := ((s.set F.FLASH_STAT_CF_CODE code).set F.FLASH_STAT_CF_DONE 1).raise 840
  (if code = 0 then s1 else s1.raise 841).flashStat

/-- The end of a PFLASH command (R411, R431). -/
def State.pfEnd (s : State) (code : Nat) : State :=
  let s1 := ((s.set F.FLASH_STAT_PF_CODE code).set F.FLASH_STAT_PF_DONE 1).raise 842
  (if code = 0 then s1 else s1.raise 843).flashStat

/-- A slot was programmed or erased: a verification of it is stale (R395, R397). -/
def State.slotTouched (s : State) (n : Nat) : State :=
  if slotOf n = some s.stagingSlot ∧ s.get F.CFG_UPD_STAT_STATE = 2 then s.set F.CFG_UPD_STAT_STALE 1 else s

/-- The words of a run of registers, kept from now on. -/
def State.regRun (s : State) (lo hi : Nat) : Sparse Word := s.regs.filter fun e => decide (lo ≤ e.1) && decide (e.1 < hi)

/-- An accepted command starts; an erase writes its ERASE_BEGIN first, unless three records in a row fail their verify (R407,
R409). -/
def State.flashStart (s : State) (o : FlashOp) (jfails : Nat) : State :=
  let n := (o.addr - 0x30000000) / 0x10000
  if Fo.pfProg ≤ o.op then ({ s with flash := { s.flash with pfOp := some o } }).flashStat
  else if o.op = Fo.erase then
    if 3 ≤ jfails then (s.cfEnd 0xB).raise 847
    else
      let x := s.sector n
      let s1 := (s.journal jfails 2 n (x.erases + 1) []).setSector n { state := Fs.erasing, pages := x.pages, erases := x.erases + 1 }
      let s2 := s1.slotTouched n
      (s2.setOps (o :: s2.flash.ops)).flashStat
  else
    let s1 := if o.op = Fo.prog then s.slotTouched n else s
    (s1.setOps (o :: s1.flash.ops)).flashStat

/-- A command of `FLASH.CMD`. SUSPEND and RESUME act at once and end with code OK; with no operation to act on they have no effect. The others are checked, then run, after a compaction where the journal
is short of room (R409, R411-R416). -/
def State.flashCmd (s : State) (op jfails : Nat) : State :=
  let a := s.rdN R.FLASH_ADDR
  if op = Fo.suspend ∨ op = Fo.resume then
    if s.alive = false then s.cfEnd 1
    else if op = Fo.suspend then
      match s.flash.ops with
      | [] => s
      | _ => (s.flashSuspend true).cfEnd 0
    else
      match s.flash.ops with
      | o :: r =>
        if o.susp then (s.setOps ({ o with susp := false, byCmd := false } :: r)).cfEnd 0
        else if r = [] then s
        else (s.setOps (o :: r.map fun x => { x with byCmd := false })).cfEnd 0
      | [] => s
  else
    let code := s.flashCheck op a
    if code ≠ 0 then (if Fo.pfProg ≤ op then s.pfEnd code else s.cfEnd code)
    else
      let buf := if op = Fo.prog then s.regRun (R.FLASH_BUF 0) (R.FLASH_BUF 1024)
        else if op = Fo.pfProg then s.regRun (R.FLASH_PF_DATA 0) (R.FLASH_PF_DATA 4) else []
      let o : FlashOp := { op := op, addr := a, buf := buf }
      if s.journalHalf.free < 8 then ({ s with flash := { s.flash with after := some o } }).flashStat
      else s.flashStart o jfails

/-- Byte `i` of a buffer of registers from `base`, least significant byte first (R3). -/
def bufByte (b : Sparse Word) (base i : Nat) : Nat := (Sparse.get (fun _ => 0) b (base + i / 4 * 4)).toNat / 256 ^ (i % 4) % 256

/-- Drop the pages of a set from the damaged ones. -/
def State.undamage (s : State) (lo hi : Nat) : State :=
  { s with flash := { s.flash with damaged := s.flash.damaged.filter fun p => decide (p < lo) || decide (hi ≤ p) } }

/-- Mark pages damaged. -/
def State.damage (s : State) (l : List Nat) : State :=
  { s with flash := { s.flash with damaged := l ++ s.flash.damaged.filter fun p => !l.contains p } }

/-- The sector of a failed program or erase: FAILED, a FAIL record, source 845 (R402, R406, R431). -/
def State.sectorFail (s : State) (n op jfails : Nat) : State :=
  let x := s.sector n
  (((if jfails < 3 then s.journal jfails 7 n x.erases [op] else s.raise 847).setSector n { x with state := Fs.failed, crc := none }).raise 845)

/-- CRC-32C of the 65,536 bytes of a sector (R406). -/
def State.sectorCrc (s : State) (n : Nat) : Nat := (crc32c (s.cfBytes (0x30000000 + n * 0x10000) 0x10000)).toNat

/-- The effect of a CFLASH operation that ends, and its CODE (R401, R402, R407, R412, R413, R424). -/
def State.cfDone (s : State) (o : FlashOp) (pass : Bool) (jfails corr maxbits unc : Nat) : State × Nat :=
  let n := (o.addr - 0x30000000) / 0x10000
  let x := s.sector n
  let off := o.addr - 0x30000000
  if o.op = Fo.prog then
    if pass then
      let cf := (List.range 0x1000).foldl (fun m i => Sparse.put (fun _ => 255) m (off + i) (bufByte o.buf (R.FLASH_BUF 0) i)) s.flash.cf
      (({ s with flash := { s.flash with cf := cf } }).setSector n { x with state := Fs.opened, pages := x.pages + 1 }, 0)
    else ((s.damage [off / 0x1000]).sectorFail n Fo.prog jfails, 7)
  else if o.op = Fo.erase then
    if pass then
      let s1 := ({ s with flash := { s.flash with cf := Sparse.clear off (off + 0x10000) s.flash.cf } }).undamage (off / 0x1000) (off / 0x1000 + 16)
      if 3 ≤ jfails then ((s1.setSector n { x with state := Fs.suspect, pages := 0 }).raise 847, 0xB)
      else ((s1.journal jfails 3 n x.erases []).setSector n { x with state := Fs.erased, pages := 0 }, 0)
    else ((s.damage ((List.range 16).map fun p => off / 0x1000 + p)).sectorFail n Fo.erase jfails, 8)
  else if o.op = Fo.seal then
    if 3 ≤ jfails then (s.raise 847, 0xB)
    else
      let c := s.sectorCrc n
      ((s.journal jfails 4 n x.erases (bytesLE 4 c ++ [x.pages])).setSector n { x with state := Fs.sealed, crc := some c }, 0)
  else if o.op = Fo.check then
    match x.crc with
    | some c => (s, if c = s.sectorCrc n then 0 else 0xA)
    | none => (s.drawn, if s.fresh % 2 = 0 then 0 else 0xA)
  else
    (((s.set F.FLASH_MARGIN_UNCORR unc).set F.FLASH_MARGIN_MAXBITS maxbits).set F.FLASH_MARGIN_CORR_WORDS corr, 0)

/-- Words of a PFLASH sector. -/
def pfWords (a : Nat) : Nat × Nat := ((a - 0x33000000) / 16, (a - 0x33000000) / 16 + 256)

/-- The effect of a PFLASH pulse. It has no verify: where the pulse did not do its work, the words read what they read (R418). -/
def State.pfDone (s : State) (o : FlashOp) (pass : Bool) : State :=
  let k := (o.addr - 0x33000000) / 16
  if o.op = Fo.pfProg then
    let w := BitVec.ofNat 128 (numLE ((List.range 16).map fun i => bufByte o.buf (R.FLASH_PF_DATA 0) i))
    { s with flash := { s.flash with pf := Sparse.put (fun _ => none) s.flash.pf k (some w), pfBad := if pass then s.flash.pfBad else k :: s.flash.pfBad } }
  else
    let (lo, hi) := pfWords o.addr
    let bad := s.flash.pfBad.filter fun p => decide (p < lo) || decide (hi ≤ p)
    if pass then { s with flash := { s.flash with pf := Sparse.clear lo hi s.flash.pf, pfBad := bad } }
    else { s with flash := { s.flash with pfBad := (List.range 256).map (fun i => lo + i) ++ bad } }

/-- FLASH_COMMAND_DONE: the command that runs in the configuration array (`cf`) or the parameter array ends (R411). Whether its pulses
did their work, how many journal records in a row failed, and what a margin read found are the array's, carried by the event. -/
def execFlashCommandDone (cf : Bool) (t : Nat) (pass : Bool) (jfails : Fin 4) (corr : Fin 4096) (maxbits : Fin 4) (unc : Fin 4096)
    (s : State) : Out :=
  let s0 := s.at_ t
  if cf then
    match s0.flash.ops with
    | o :: r =>
      if o.susp then .next s0
      else
        let (s1, code) := s0.cfDone o pass jfails.val corr.val maxbits.val unc.val
        .next ((s1.setOps r).cfEnd code)
    | [] => .next s0
  else
    match s0.flash.pfOp with
    | some o =>
      let s1 := s0.pfDone o pass
      let s2 : State := { s1 with flash := { s1.flash with pfOp := none } }
      .next (s2.pfEnd 0)
    | none => .next s0

/-- AUTO_RESUME: the innermost operation, suspended by a read, goes on after 50 µs without a CFLASH read (R414, R415). -/
def execAutoResume (t : Nat) (s : State) : Out :=
  let s0 := s.at_ t
  match s0.flash.ops with
  | o :: r =>
    if o.susp = true ∧ o.byCmd = false ∧ s0.flash.lastRead + 50 * usCycles ≤ t then
      .next ((s0.setOps ({ o with susp := false } :: r)).flashStat)
    else .next s0
  | [] => .next s0

/-! ## Promotion and compaction (R395, R406, R409) -/

/-- Write the SLOT_SELECT record that names the staging slot (R395, R406). -/
def State.promoteWrite (s : State) (jfails : Nat) : State :=
  if 3 ≤ jfails then (s.set F.CFG_UPD_STAT_PROMOTE_REFUSED 1).raise 847
  else
    let base := 0x30000000 + s.stagingSlot * 0xE00000
    let id := if numBE (s.cfBytes base 4) = 0x43364348 then bytesLE 8 (numBE (s.cfBytes (base + 12) 4)) else bytesLE 8 (numBE (s.cfBytes (base + 16) 8))
    let data := [s.stagingSlot, 0, 0, 0, 0, 0, 0, 0] ++ id
    let s1 := s.journal jfails 5 0xFFFF 0 data
    ({ s1 with flash := { s1.flash with select := some data } }).raise 826

/-- A write of `CFG.UPD_CTL.PROMOTE`, which reads 1 while a compaction delays the record (R5, R395, R409, R420). -/
def State.promote (s : State) (jfails : Nat) : State :=
  if s.get F.CFG_UPD_STAT_STATE = 2 ∧ s.bit F.CFG_UPD_STAT_STALE = false ∧ s.flash.after = none ∧
      (s.flash.fwp = true ∨ s.bitAt (R.FLASH_PROT_CF 23) 31 = false) then
    if s.journalHalf.free < 8 then
      ({ s with flash := { s.flash with after := some { op := Fo.promote, addr := 0 } } }).flashStat.set F.CFG_UPD_CTL_PROMOTE 1
    else s.promoteWrite jfails
  else s.set F.CFG_UPD_STAT_PROMOTE_REFUSED 1

/-- The word of a SNAPSHOT for sector `n` (R406). -/
def State.snapWord (s : State) (n : Nat) : Nat :=
  if n < 767 then (if (s.sector n).state = Fs.sealed then 0x40000000 else 0) + (s.sector n).erases % 2 ^ 24 else 0

/-- The half a compaction leaves (R409). -/
def State.compacted (s : State) : JHalf :=
  let q := s.flash.seq
  let snaps := (List.range 192).map fun k =>
    some ({ type := 6, sector := 4 * k, seq := q + k + 1, erases := (s.sector (4 * k)).erases,
            data := ((List.range 4).map fun i => bytesLE 4 (s.snapWord (4 * k + i))).flatten } : JRec)
  let sel := match s.flash.select with
    | some d => [some ({ type := 5, sector := 0xFFFF, seq := q + 193, erases := 0, data := d } : JRec)]
    | none => []
  let g := s.journalHalf.generation.getD 0 + 1
  { header := some { type := 1, sector := 0xFFFF, seq := q + 193 + sel.length, erases := 0, data := bytesLE 4 g ++ zeros 12 }, recs := snaps ++ sel }

/-- COMPACTION_DONE: the journal goes on in the other half, and the command that waited is worked (R409). -/
def execCompactionDone (t : Nat) (jfails : Fin 4) (s : State) : Out :=
  let s0 := s.at_ t
  match s0.flash.after with
  | none => .next s0
  | some o =>
    let h := s0.compacted
    let f := s0.flash
    let s1 : State := { s0 with
      flash := { f with
        j0 := if f.half then h else {}, j1 := if f.half then {} else h, half := !f.half, seq := (h.header.map fun r => r.seq).getD f.seq,
        sectors := f.sectors.filterMap fun e =>
          let x : Sector := { e.2 with crc := none }
          if x = {} then none else some (e.1, x),
        after := none } }
    let s2 := s1.flashStat.raise 846
    .next (if o.op = Fo.promote then (s2.set F.CFG_UPD_CTL_PROMOTE 0).promoteWrite jfails.val else s2.flashStart o jfails.val)

/-! ## Start and power loss (R408, R410) -/

/-- Apply a record of the journal to the sector states (R407, R408). -/
def scanRec (m : Sparse Sector) (r : JRec) : Sparse Sector :=
  let d : Nat → Sector := fun _ => {}
  let x := Sparse.get d m r.sector
  if r.type = 2 ∨ r.type = 3 ∨ r.type = 7 then Sparse.put d m r.sector { state := Fs.suspect, erases := r.erases }
  else if r.type = 4 then
    if r.erases = x.erases then Sparse.put d m r.sector { state := Fs.sealed, erases := x.erases, crc := some (fieldLE r.data 0 4) } else m
  else if r.type = 6 then
    (List.range 4).foldl
      (fun m i =>
        let w := fieldLE r.data (4 * i) 4
        if r.sector + i < 767 then Sparse.put d m (r.sector + i) { state := if w / 2 ^ 30 = 1 then Fs.sealed else Fs.suspect, erases := w % 2 ^ 24 }
        else m) m
  else m

/-- The journal scan at start (R408): sector states, the primary slot, source 845. -/
def State.journalScan (s : State) : State :=
  let half := match s.flash.j0.generation, s.flash.j1.generation with
    | some a, some b => decide (a < b)
    | none, some _ => true
    | _, none => false
  let h := if half then s.flash.j1 else s.flash.j0
  let recs := h.recs.filterMap id
  let none_ := (List.range 767).map fun n => (n, ({ state := Fs.suspect } : Sector))
  let sectors := recs.foldl scanRec none_
  let sel := (recs.reverse.find? fun r => r.type == 5).map fun r => r.data
  let s1 : State := { s with flash := { s.flash with half := half, sectors := sectors, select := sel } }
  let s2 := s1.set F.CFG_SLOT_SEL_PRIMARY (if s1.primaryNow = 2 then 1 else 0)
  if sectors.any fun e => e.2.state == Fs.suspect then s2.raise 845 else s2

/-- An operation in progress is abandoned by a reset or a power loss (R410, R416, R418, R548). -/
def State.flashAbandon (s : State) : State :=
  let pages := s.flash.ops.flatMap fun o =>
    let p := (o.addr - 0x30000000) / 0x1000
    if o.op = Fo.prog then (if p % 2 = 1 then [p, p - 1] else [p])
    else if o.op = Fo.erase then (List.range 16).map fun i => p + i else []
  let s1 := s.damage pages
  let s2 := match s1.flash.pfOp with
    | some o => s1.pfDone o false
    | none => s1
  let s3 := match s2.flash.otpOp with
    | some (k, w) =>
      if s2.fresh % 2 = 0 then s2.drawn
      else
        let u := s2.drawn.setOtp k w
        { u with flash := { u.flash with otpBad := k :: u.flash.otpBad } }
    | none => s2
  { s3 with flash := { s3.flash with ops := [], pfOp := none, otpOp := none, after := none } }

/-! ## The OTP row (R425, R426, R430) -/

/-- What an OTP area asks of a program through the control registers (R426). -/
inductive OtpArea where
  | sec | vendor | provision | never
deriving DecidableEq, Repr

/-- The area of a byte offset. -/
def otpArea (o : Nat) : OtpArea :=
  if o < 0x100 then .sec
  else if o < 0x120 then .vendor
  else if 0x200 ≤ o ∧ o < 0x408 then .vendor
  else if 0x500 ≤ o ∧ o < 0x548 then .vendor
  else if 0x580 ≤ o ∧ o < 0x5A0 then .provision
  else if 0x800 ≤ o ∧ o < 0x1000 then .vendor
  else if 0x1000 ≤ o ∧ o < 0x1100 then .sec
  else if 0x1100 ≤ o ∧ o < 0x1180 then .vendor
  else if 0x1180 ≤ o ∧ o < 0x1240 then .sec
  else if 0x2000 ≤ o ∧ o < 0x4000 then .provision
  else .never

/-- The checks of an OTP program in the order of R413. -/
def State.otpCheck (s : State) (k : Nat) : Nat :=
  let vendor := s.get F.SEC_STAT_LIFECYCLE = 0
  let area := otpArea (8 * k)
  if s.alive = false then 1
  else if area = .never ∨ (area = .vendor ∧ ¬ vendor) ∨ (area = .provision ∧ ¬ vendor ∧ s.mode ≠ M.provision) then 1
  else if s.flash.otpOp.isSome = true then 3
  else if s.flash.fwp = false then 4
  else if (s.otpWord? k).isSome = true then 9
  else if area = .sec then 0xC
  else 0

/-- The end of an OTP program (R431). -/
def State.otpEnd (s : State) (code : Nat) : State :=
  let s1 := ((s.set F.OTP_STAT_CODE code).set F.OTP_STAT_BUSY (if s.flash.otpOp.isSome then 1 else 0)).raise 848
  if code = 0 then s1 else s1.raise 849

/-- A write of `OTP.CTL.GO`, which reads 1 until the program it starts has ended (R5, R430). -/
def State.otpGo (s : State) : State :=
  let k := s.get F.OTP_ADDR_WORD
  let code := s.otpCheck k
  if code ≠ 0 then s.otpEnd code
  else
    let w := (s.rd R.OTP_DATA_HI) ++ (s.rd R.OTP_DATA_LO)
    (({ s with flash := { s.flash with otpOp := some (k, w) } }).set F.OTP_STAT_BUSY 1).set F.OTP_CTL_GO 1

/-- OTP_PROGRAM_DONE: the program ends; a word whose program failed counts as programmed (R425). -/
def execOtpProgramDone (pass : Bool) (s : State) : Out :=
  match s.flash.otpOp with
  | none => .next s
  | some (k, w) =>
    let s1 := s.setOtp k w
    let s2 : State := { s1 with flash := { s1.flash with otpOp := none, otpBad := if pass then s1.flash.otpBad else k :: s1.flash.otpBad } }
    .next ((s2.set F.OTP_CTL_GO 0).otpEnd (if pass then 0 else 7))

end Sys2Proof.Machine
end

