-- ==== Sys2Proof/Machine/Image.lean ====
section
/-! DEFINITION. Sys2Proof/Machine/Image.lean: lifecycle and keys of the OTP row, image headers, the key ladder, records and the frame
checks of a pass (R311, R314, R315, R369-R381, R528-R534, R589). -/
namespace Sys2Proof.Machine

/-! ## Lifecycle and keys (R426, R528-R534) -/

/-- Whether words `k` to `k + 7` of the OTP row hold a word that reads non-zero or uncorrectable (R528). -/
def State.groupReached (s : State) (k : Nat) : Bool :=
  (List.range 8).any fun i => s.otpWord (k + i) != 0 || s.otpUncorr (k + i)

/-- The lifecycle that the OTP row holds: 0 VENDOR, 1 OPEN, 2 LOCKED, 3 SCRAPPED (R528). -/
def State.lifecycleOtp (s : State) : Nat :=
  if s.groupReached 16 then 3 else if s.groupReached 8 then 2 else if s.groupReached 0 then 1 else 0

/-- The lifecycle in force: a change takes effect at the next start. -/
def State.lifecycle (s : State) : Nat := s.get F.SEC_STAT_LIFECYCLE

/-- Whether any OTP word of a byte range reads uncorrectable. -/
def State.otpBadIn (s : State) (o n : Nat) : Bool := (s.flash.otpBad ++ s.flash.otpUnc).any fun k => decide (o ≤ 8 * k) && decide (8 * k < o + n)

/-- State of root key slot `k`: 0 EMPTY, 1 ACTIVE, 2 REVOKED, 3 BAD (R533). -/
def State.slotState (s : State) (k : Nat) : Nat :=
  let b := s.otpBytes (0x1000 + 64 * k) 64
  if slice b 0 56 = zeros 56 then 0
  else if slice b 56 8 ≠ zeros 8 then 2
  else if fieldLE b 52 4 ≠ (crc32c (slice b 0 52)).toNat ∨ s.otpBadIn (0x1000 + 64 * k) 64 = true then 3
  else 1

/-- HASH of a slot. -/
def State.slotHash (s : State) (k : Nat) : List Nat := s.otpBytes (0x1000 + 64 * k) 48

/-- FLAGS of a slot. -/
def State.slotFlags (s : State) (k : Nat) : Nat := (s.otpBytes (0x1000 + 64 * k + 48) 1).headD 0

/-- Whether slot `k` is ACTIVE with IMAGE = 1 in the slot states read at start. -/
def State.imageSlot (s : State) (k : Nat) : Bool :=
  bitsOf (s.rd R.SEC_STAT) (9 + 2 * k) (8 + 2 * k) == 1 && (s.rd R.SEC_SLOT_FLAGS).getLsbD (8 * k)

/-- The fleet key; none when its CRC fails (R534). -/
def State.fleetKey (s : State) : Option (List Nat) :=
  let b := s.otpBytes 0x1200 36
  if fieldLE b 32 4 = (crc32c (slice b 0 32)).toNat ∧ s.otpBadIn 0x1200 64 = false then some (slice b 0 32) else none

/-- The device's private scalar (R530). -/
def State.devicePriv (s : State) : List Nat := s.otpBytes 0x1180 48

/-- The device's public point. -/
def State.devicePub (s : State) : List Nat := s.otpBytes 0x1100 97

/-- SERIAL, in OTP byte order. -/
def State.serial (s : State) : List Nat := s.otpBytes 0x100 8

/-- Whether the device key is unusable (R530). -/
def State.keyBadOtp (s : State) : Bool :=
  s.otpBytes 0x11B0 4 != bytesLE 4 (crc32c s.devicePriv).toNat || s.otpBadIn 0x1180 128 || Config.ecPublic s.devicePriv != s.devicePub

/-- KEY_BAD as read at start. -/
def State.keyBad (s : State) : Bool := s.bit F.SEC_STAT_KEY_BAD

/-- Whether an image header's signature and signer are accepted (R370, R529, R533). -/
def State.signatureOk (s : State) (h : List Nat) : Bool :=
  let key := slice h 272 97
  let slot := fieldBE h 11 1
  let vendorKey := s.lifecycle = 0 ∨ (s.lifecycle = 1 ∧ ([0, 1, 2, 3].any fun k => s.imageSlot k) = false)
  let signer :=
    if vendorKey then slot == 0 && Config.sha384 key == Config.productionHash
    else decide (s.lifecycle ≤ 2) && s.imageSlot slot && Config.sha384 key == s.slotHash slot
  signer && Config.ecdsaVerify key (Config.sha384 (slice h 0 384)) (slice h 384 96)

/-- The first segment key of a header; none when it does not unwrap (R371). -/
def State.unwrap (s : State) (h : List Nat) : Option (List Nat) :=
  let kek : Option (List Nat) :=
    if fieldBE h 10 1 = 1 then s.fleetKey
    else if s.keyBad then none
    else some ((Config.sha384 (Config.ecdhX s.devicePriv (slice h 172 97) ++ slice h 16 8)).take 32)
  match kek with
  | some k => Config.gcmOpen k (slice h 112 12) (slice h 0 32) (slice h 124 48)
  | none => none

/-! ## Cell checks (R311, R326) -/

/-- Whether an operation uses source b. -/
def reedUsesB (op : Nat) : Bool :=
  [0x02, 0x03, 0x04, 0x05, 0x06, 0x07, 0x08, 0x09, 0x0B, 0x0C, 0x0D, 0x0E, 0x0F, 0x10, 0x11, 0x12, 0x13, 0x14, 0x15, 0x16, 0x17, 0x18, 0x19, 0x1A,
    0x1B, 0x1D, 0x1E, 0x1F].contains op

/-- Whether a source code may be named: `imm` where IMM may (R306, R311). -/
def sourceLegal (id c : Nat) (imm : Bool) : Bool :=
  decide (c ≤ 16) && (c != 12 || imm) && (c != 15 || inRamGroup id)

/-- Whether a destination may be named (R307, R311): no lane the cell does not own, nor one that a bypass of its own drives. -/
def destLegal (id d : Nat) (w : BitVec 320) : Bool :=
  if 4 ≤ d ∧ d ≤ 11 then
    cfgOwn w (d - 4) && ([0, 1].all fun k => match cfgByp w k with | some (_, t) => t != d - 4 | none => true)
  else if d = 13 then inRamGroup id
  else decide (d ≤ 12)

/-- Whether an instruction word is legal in cell `id` (R305-R308, R311). -/
def wordLegal (id i : Nat) (w : BitVec 320) : Bool :=
  let op := i / 2 ^ 26
  let sa := i / 2 ^ 17 % 32
  let sb := i / 2 ^ 12 % 32
  let sc := i / 2 ^ 7 % 32
  let x := i % 128
  let usesX := op == 0x1B || op == 0x1C || op == 0x22
  let imm := !usesX && ((op != 0 && sa == 12) || (reedUsesB op && sb == 12))
  decide (op ≤ 0x22) && destLegal id (i / 2 ^ 22 % 16) w && (op != 0 || i / 2 ^ 22 % 16 == 12) &&
    (if op = 0 then sa == 0 else sourceLegal id sa (!usesX)) && (if reedUsesB op then sourceLegal id sb (!usesX) else sb == 0) &&
    (if op = 0x1B then sourceLegal id sc false else imm || sc == 0) && (if usesX then decide (x < 16) else imm || x == 0) &&
    ((op != 0x20 && op != 0x21) || isRamAddr id)

/-- Whether the rim ports of a cell are owned as R326 lays down: lane A by the cell, lane B by the rim. -/
def rimLegal (id : Nat) (w : BitVec 320) : Bool :=
  (List.range 4).all fun p =>
    match neighbour id (2 * p) with
    | none => cfgOwn w (2 * p) && !cfgOwn w (2 * p + 1)
    | some _ => true

/-- Whether cell `id` passes R311 with configuration `w`. -/
def cellLegal (id : Nat) (w : BitVec 320) : Bool :=
  let n := cfgPhrase w
  let byp := [0, 1].all fun k => match cfgByp w k with | some (_, t) => cfgOwn w t | none => true
  let mode :=
    if cfgBit w then
      !cfgTriple w && ([36, 31, 26, 21].all fun hi => let c := mBits w hi (hi - 4); sourceLegal id c false && c != 15) &&
        destLegal id (mBits w 16 13) w && decide (mBits w 12 10 < n) && mBits w 9 0 == 0
    else
      (!cfgTriple w || n == 3 || n == 6) && mBits w 20 0 == 0 && (List.range 8).all fun k => wordLegal id (cfgInstr w k) w
  mode && byp && rimLegal id w

/-- The 16 cells of a frame's payload: cell i holds frame bits [320i+319 : 320i], and bit 5,119 is bit 7 of byte 0 (R303, R376). -/
def frameCells (payload : List Nat) : List (BitVec 320) :=
  let v := numBE payload
  (List.range 16).map fun i => BitVec.ofNat 320 (v / 2 ^ (320 * i))

/-- Whether every cell of a frame passes R311. -/
def frameLegal (frame : Nat) (payload : List Nat) : Bool :=
  (List.range 16).all fun i => cellLegal (frame * 16 + i) ((frameCells payload).getD i 0)

/-! ## Checks across frames (R314, R315) -/

/-- The number of bypass hops a value takes before lane `l` of cell `id` as the cells see it, counted up to `k`; `cfg` gives the
configuration of each cell. -/
def bypassHops (cfg : Nat → BitVec 320) : Nat → Nat → Nat → Nat
  | 0, _, _ => 0
  | k + 1, id, l =>
    let own := cfgOwn (cfg id) l
    let driver : Option (Nat × Nat) :=
      if own then some (id, l)
      else match neighbour id l with
        | some n => if cfgOwn (cfg n) (otherLane l) then some (n, otherLane l) else none
        | none => none
    match driver with
    | none => 0
    | some (d, dl) =>
      match [0, 1].findSome? fun b => match cfgByp (cfg d) b with
          | some (f, t) => if t = dl then some f else none
          | none => none with
      | some f => 1 + bypassHops cfg k d f
      | none => 0

/-- The bypasses that forward lane `l` of cell `id`: its own, and those of the cell beyond, each as the cell and the lane it drives. -/
def forwarders (cfg : Nat → BitVec 320) (id l : Nat) : List (Nat × Nat) :=
  let ends := (id, l) :: (match neighbour id l with | some n => [(n, otherLane l)] | none => [])
  ends.flatMap fun e => [0, 1].filterMap fun b => match cfgByp (cfg e.1) b with
    | some (f, t) => if f = e.2 ∧ cfgOwn (cfg e.1) t = true then some (e.1, t) else none
    | none => none

/-- The number of bypass hops that the value of lane `l` of cell `id` takes beyond it at most, counted up to `k`. -/
def hopsAfter (cfg : Nat → BitVec 320) : Nat → Nat → Nat → Nat
  | 0, _, _ => 0
  | k + 1, id, l => (forwarders cfg id l).foldl (fun n e => max n (1 + hopsAfter cfg k e.1 e.2)) 0

/-- Whether frame `n` holds a cell whose bypass is part of a chain of more than 6 hops, or of a loop, wherever the chain begins and ends
(R314). -/
def chainTooLong (cfg : Nat → BitVec 320) (n : Nat) : Bool :=
  (List.range 16).any fun i =>
    let id := n * 16 + i
    [0, 1].any fun b => match cfgByp (cfg id) b with
      | some (_, t) => decide (6 < bypassHops cfg 7 id t + hopsAfter cfg 7 id t)
      | none => false

/-- Whether frame `n` owns a lane whose other end is owned too (R315). -/
def linkConflict (cfg : Nat → BitVec 320) (n : Nat) : Bool :=
  (List.range 16).any fun i =>
    let id := n * 16 + i
    (List.range 8).any fun l => cfgOwn (cfg id) l && (match neighbour id l with | some m => cfgOwn (cfg m) (otherLane l) | none => false)

/-! ## Records (R375-R377) -/

/-- Whether `a` is a word of a chanter or drone memory or of CTX (R11, R376). -/
def engineWord (a : Nat) : Bool :=
  a % 8 == 0 && ((decide (0x22000000 ≤ a) && decide (a < 0x220C0000)) ||
    (decide (0x40000000 ≤ a) && decide (a < 0x40420000) && decide ((a - 0x40000000) % 0x8000 < 0x6000)) ||
    (decide (0x41000000 ≤ a) && decide (a < 0x41080000)))

/-- The fields of a register that an image loads, as a mask; 0 where it has none. -/
def imageMask (a : Nat) : Nat :=
  match regRow? a with
  | some (r, _) => r.img
  | none => 0

/-- Whether the head and payload of a record are in range (R376). -/
def recordLegal (type len addr : Nat) : Bool :=
  match type with
  | 1 => len == 640 && decide (addr < 4096)
  | 2 => len == 4096 && decide (addr < 1024)
  | 3 => decide (8 ≤ len) && decide (len ≤ 4096) && len % 8 == 0 && (List.range (len / 8)).all fun i => engineWord (addr + 8 * i)
  | 4 => decide (4 ≤ len) && decide (len ≤ 1024) && len % 4 == 0 && (List.range (len / 4)).all fun i => imageMask (addr + 4 * i) != 0
  | _ => false

/-- What a check answers: it needs bytes that have not come, or a rejection code with REJECT_OFFSET (R381, R589). -/
inductive Verdict where
  | ok
  | more
  | reject (code off : Nat)
deriving DecidableEq, Repr

/-- The records of a body, in order, from byte `p`; `seg` is the segment, `base` the stream offset of its first byte (R375, R376,
R311). A partial stream carries frames of its region only, and the frame that
fails a check ends the list (R351, R352, R364). -/
def parseBody (part : Option (List Nat)) (body : List Nat) (len seg base : Nat) : Nat → Nat → List ImgRec → List ImgRec × Verdict
  | 0, _, acc => (acc, .ok)
  | fuel + 1, p, acc =>
    if len ≤ p then (acc, .ok)
    else
      let type := fieldBE body p 1
      let n := fieldBE body (p + 2) 2
      let addr := fieldBE body (p + 4) 4
      let total := (8 + n + 4 + 7) / 8 * 8
      if len < p + total then (acc, .reject 0x08 (base + p))
      else
        let pay := slice body (p + 8) n
        let crc := fieldBE body (p + 8 + n) 4
        if recordLegal type n addr = false ∨ crc ≠ (crc32c pay).toNat then (acc, .reject 0x13 (base + p))
        else
          match part with
          | some region =>
            if 3 ≤ type then (acc, .reject 0x13 (base + p))
            else if region.contains (if type = 1 then addr / 16 else addr / 4) = false then
              (acc ++ [.frame (type == 2) addr pay crc seg (p + 8) (base + p)], .reject 0x09 (base + p))
            else if type = 1 ∧ frameLegal addr pay = false then
              (acc ++ [.frame false addr pay crc seg (p + 8) (base + p)], .reject 0x0A (base + p))
            else parseBody part body len seg base fuel (p + total) (acc ++ [.frame (type == 2) addr pay crc seg (p + 8) (base + p)])
          | none =>
            if type = 1 ∧ frameLegal addr pay = false then (acc, .reject 0x0A (base + p))
            else
              let r : ImgRec :=
                if type ≤ 2 then .frame (type == 2) addr pay crc seg (p + 8) (base + p)
                else if type = 3 then .engine addr ((List.range (n / 8)).map fun i => fieldBE pay (8 * i) 8)
                else .register addr ((List.range (n / 4)).map fun i => fieldBE pay (4 * i) 4)
              parseBody part body len seg base fuel (p + total) (acc ++ [r])

/-! ## Header and ladder (R369-R374, R379) -/

/-- Tracts of a header's REGION (R369). -/
def headerRegion (h : List Nat) : List Nat := (List.range 256).filter fun t => (fieldBE h 80 32).testBit t

/-- Step 1 of R379: MAGIC, HVER, reserved KIND, WRAP or SIGNER, zero fields. -/
def headerLegal (h : List Nat) : Bool :=
  let wrap := fieldBE h 10 1
  fieldBE h 0 4 == 0x4336494D && fieldBE h 4 2 == 1 && (fieldBE h 8 1 == 1 || fieldBE h 8 1 == 2) && (wrap == 1 || wrap == 2) &&
    decide (fieldBE h 11 1 ≤ 3) && fieldBE h 30 2 == 0 && fieldBE h 269 3 == 0 && fieldBE h 369 15 == 0 &&
    (wrap == 2 || fieldBE h 172 97 == 0)

/-- Whether SEGMENTS and STREAM_LEN fit each other and R372. -/
def headerSizes (h : List Nat) (most : Nat) : Bool :=
  let n := fieldBE h 28 2
  let len := fieldBE h 12 4
  decide (1 ≤ n) && decide (n ≤ most) && decide (65536 * (n - 1) + 64 ≤ len) && decide (len ≤ 65536 * n)

/-- What a pass has taken in: its records and its segment keys in order. -/
structure PassData where
  recs : List ImgRec := []
  keys : List KeyEntry := []
deriving DecidableEq, Repr

/-- Segment `i`, `n` bytes long and decrypted with `key`: what it adds, the verdict, and the key of the next (R372-R374). -/
def segmentStep (part : Option (List Nat)) (bytes hash nonce : List Nat) (segs n i : Nat) (key : List Nat) (acc : PassData) :
    PassData × Verdict × List Nat :=
  let off := 65536 * i
  match Config.gcmOpen key nonce hash (slice bytes (480 + off) n) with
  | none => (acc, .reject 0x07 off, [])
  | some p =>
    let tr := slice p (n - 64) 48
    if fieldBE tr 32 4 ≠ i then (acc, .reject 0x07 off, [])
    else if (fieldBE tr 40 1 % 2 = 1) ≠ (i + 1 = segs) then (acc, .reject 0x02 off, [])
    else
      let b := parseBody part (p.take (n - 64)) (fieldBE tr 36 4) i off (n / 8) 0 acc.recs
      ({ recs := b.1, keys := acc.keys ++ [⟨key, nonce⟩] }, b.2, slice tr 0 32)

/-- The ladder of R374 over the segments from `i` on. `bad` is the offset from the header of the first uncorrectable code word. -/
def ladder (part : Option (List Nat)) (bytes : List Nat) (bad : Option Nat) (segs len : Nat) (id hash : List Nat) :
    Nat → Nat → List Nat → PassData → PassData × Verdict
  | 0, _, _, acc => (acc, .ok)
  | fuel + 1, i, key, acc =>
    let off := 65536 * i
    let n := if i + 1 < segs then 65536 else len - off
    if segs ≤ i then (acc, .ok)
    else if bad.isSome = true ∧ bad.getD 0 < 480 + off + n then (acc, .reject 0x0E (bad.getD 0 - 480))
    else if bytes.length < 480 + off + n then (acc, .more)
    else
      match segmentStep part bytes hash (id ++ bytesBE 4 i) segs n i key acc with
      | (acc, .ok, next) => ladder part bytes bad segs len id hash fuel (i + 1) next acc
      | (acc, v, _) => (acc, v)

/-- The configuration that a pass's frames give cell `id`; `dflt` where none of them does. -/
def recsCfg (recs : List ImgRec) (dflt : Nat → BitVec 320) (id : Nat) : BitVec 320 :=
  match recs.findSome? fun r => match r with
    | .frame false n pay _ _ _ _ => if n = id / 16 then some pay else none
    | _ => none with
  | some pay => (frameCells pay).getD (id % 16) 0
  | none => dflt id

/-- Fabric frames among records, with the stream offset of each, in ascending order of frame. -/
def fabricFrames (recs : List ImgRec) : List (Nat × Nat) :=
  (recs.filterMap fun r => match r with
    | .frame false n _ _ _ _ off => some (n, off)
    | _ => none).mergeSort fun a b => decide (a.1 ≤ b.1)

/-- The checks of R314 and R315 across the frames of a pass. -/
def crossCheck (recs : List ImgRec) (dflt : Nat → BitVec 320) : Verdict :=
  let cfg := recsCfg recs dflt
  let fs := fabricFrames recs
  match fs.find? fun f => chainTooLong cfg f.1 with
  | some f => .reject 0x0C f.2
  | none =>
    match fs.find? fun f => linkConflict cfg f.1 with
    | some f => .reject 0x0B f.2
    | none => .ok

/-- Words of engine records. -/
def engineAddrs (recs : List ImgRec) : List Nat :=
  recs.flatMap fun r => match r with
    | .engine a l => (List.range l.length).map fun i => a + 8 * i
    | _ => []

/-- The number of words of the chanter and drone memories and of CTX (R11). -/
abbrev engineWords : Nat := 132 * 3072 + 4 * 16384 + 98304

/-- Whether a FULL image is complete (R377). -/
def passComplete (h : List Nat) (recs : List ImgRec) : Bool :=
  let frames := recs.filterMap fun r => match r with
    | .frame ram n _ _ _ _ _ => some (if ram then 4096 + n else n)
    | _ => none
  let words := engineAddrs recs
  frames.length == 5120 && decide frames.Nodup && words.length == engineWords && decide words.Nodup && fieldBE h 80 32 == 0

/-- Steps 1 to 5 of R379: the code of the first header check that fails. `room` is the size of the slot, container entry or member;
`pos` says which positions may load it. -/
def headerCode (h : List Nat) (room : Nat) (pos : Nat → Bool) : Option Nat :=
  if headerLegal h = false then some 0x11
  else if fieldBE h 6 2 ≠ 0x6128 then some 0x01
  else if fieldBE h 8 1 = 2 then some 0x18
  else if fieldBE h 9 1 ≠ 0xFF ∧ pos (fieldBE h 9 1) = false then some 0x12
  else if headerSizes h 224 = false ∨ room < 480 + fieldBE h 12 4 then some 0x03
  else none

/-- The checks of a start-up pass in the order of R379 over the bytes of an image from its header on. -/
def State.checkImage (s : State) (bytes : List Nat) (bad : Option Nat) (room : Nat) (pos : Nat → Bool) : PassData × Verdict :=
  let h := bytes.take 480
  let len := fieldBE h 12 4
  let segs := fieldBE h 28 2
  if (bad.getD 480) < 480 then ({}, .reject 0x0E 0)
  else if bytes.length < 480 then ({}, .more)
  else
    match headerCode h room pos, s.unwrap h with
    | some c, _ => ({}, .reject c 0)
    | none, none => ({}, .reject 0x07 0)
    | none, some k0 =>
      let (d, v) := ladder none bytes bad segs len (slice h 16 8) (Config.sha384 (slice h 0 384)) segs 0 k0 {}
      match v with
      | .ok =>
        if Config.sha384 (slice bytes 480 len) ≠ slice h 32 48 then (d, .reject 0x06 len)
        else
          match crossCheck d.recs fun _ => 0 with
          | .ok =>
            if passComplete h d.recs = false then (d, .reject 0x14 len)
            else if s.signatureOk h = false then (d, .reject 0x05 len)
            else (d, .ok)
          | v => (d, v)
      | v => (d, v)

/-- The checks of a member that this unit cannot unwrap: header, signature, hash (R394). -/
def State.checkSealed (s : State) (bytes : List Nat) (bad : Option Nat) (room : Nat) (pos : Nat → Bool) : Verdict :=
  let h := bytes.take 480
  let len := fieldBE h 12 4
  if (bad.getD 480) < 480 then .reject 0x0E 0
  else
    match headerCode h room pos with
    | some c => .reject c 0
    | none =>
      if bad.isSome = true ∧ bad.getD 0 < 480 + len then .reject 0x0E (bad.getD 0 - 480)
      else if Config.sha384 (slice bytes 480 len) ≠ slice h 32 48 then .reject 0x06 len
      else if s.signatureOk h = false then .reject 0x05 len
      else .ok

/-! ## Writing what a pass accepted (R378, R380) -/

/-- Enter a register value of an image: its image fields, and the configuration shadow (R377, R443). -/
def State.imageRegister (s : State) (a v : Nat) : State :=
  let m := BitVec.ofNat 32 (imageMask a)
  let w := (s.rd a &&& ~~~ m) ||| (BitVec.ofNat 32 v &&& m)
  let s1 := (s.wr a w).cmpLoaded a
  if addrDomain a = some 0 then s1 else { s1 with shadow := Sparse.put (fun _ => 0) s1.shadow a (w &&& m) }

/-- Write a fabric frame. -/
def State.writeFrame (s : State) (n : Nat) (payload : List Nat) : State :=
  (List.range 16).foldl (fun t i => t.setCellCfg (n * 16 + i) ((frameCells payload).getD i 0)) s

/-- Spine address of RAM block `b` (R319). -/
def ramBlock (b : Nat) : Nat := 0x23000000 + b * 0x1000

/-- Write a RAM frame. -/
def State.writeRam (s : State) (b : Nat) (payload : List Nat) : State :=
  (List.range 512).foldl (fun t i => t.memWrite (ramBlock b + 8 * i) (BitVec.ofNat 64 (fieldBE payload (8 * i) 8))) s

/-- Write the frame of a record. -/
def State.putFrame (s : State) (ram : Bool) (n : Nat) (payload : List Nat) : State :=
  if ram then s.writeRam n payload else s.writeFrame n payload

/-- Frame record `k`: fabric frames from 0, RAM frames from 4096. -/
def State.frameRec (s : State) (k : Nat) : FrameRec := Sparse.get (fun _ => {}) s.cfg.recs k

/-- Put it. -/
def State.setFrameRec (s : State) (k : Nat) (r : FrameRec) : State := { s with cfg := { s.cfg with recs := Sparse.put (fun _ => {}) s.cfg.recs k r } }

/-- Write one record of a LOAD pass, with its frame record: `src` is the address of the header in CFLASH, or 0 for a member that comes
through the head (R380, R392). -/
def State.writeRec (s : State) (chain : Bool) (src : Nat) (r : ImgRec) : State :=
  match r with
  | .frame ram n pay crc seg pos _ =>
    (s.putFrame ram n pay).setFrameRec (if ram then 4096 + n else n)
      { state := 0, golden := crc, chain := chain, key := seg, src := src + 480 + 65536 * seg + pos, pos := pos }
  | .engine a l => (List.range l.length).foldl (fun t i => t.memWrite (a + 8 * i) (BitVec.ofNat 64 (l.getD i 0))) s
  | .register a l => (List.range l.length).foldl (fun t i => t.imageRegister (a + 4 * i) (l.getD i 0)) s

/-- Write what a LOAD pass has taken in, and fill the key table (R344, R380). -/
def State.writePass (s : State) (chain : Bool) (src : Nat) (d : PassData) : State :=
  let s1 := d.recs.foldl (fun t r => t.writeRec chain src r) s
  { s1 with cfg := { s1.cfg with keyTab := (List.range d.keys.length).filterMap fun i => (d.keys[i]?).map fun k => (i, some k) } }

/-- Words of registers that hold an image field, cleared (R382). -/
def clearImage (e : Nat × Word) : Option (Nat × Word) :=
  let w := e.2 &&& ~~~ BitVec.ofNat 32 (imageMask e.1)
  if w = regReset e.1 then none else some (e.1, w)

/-- Every field whose Reset is "image" returns to 0, and frame records and the key table clear (R382). -/
def State.clearImage (s : State) : State :=
  State.cmpsOff
    { s with regs := s.regs.filterMap Sys2Proof.Machine.clearImage, shadow := [], cfg := { s.cfg with recs := [], keyTab := [], keysFull := false } }

end Sys2Proof.Machine
end

