-- ==== Sys2Proof/Machine/Gpio.lean ====
section
/-! DEFINITION. Sys2Proof/Machine/Gpio.lean: GPIO pins, serial ports, PWM and capture timers (R355, R557-R572). -/
namespace Sys2Proof.Machine

/-- FUNC of pin `n`. -/
def State.pinFunc (s : State) (n : Nat) : Nat := s.get (F.GPIO_GP_CFG_FUNC n)

/-- Whether FUNC code `f` is available at pin `n` (R560). -/
def funcAt (n f : Nat) : Bool :=
  let p := n % 16
  if f = 2 ∨ f = 3 then decide (4 ≤ p) && decide (p ≤ 7)
  else if f = 4 then p == 4 || p == 5
  else if f = 5 then p == 0 || p == 1
  else decide (f ≤ 11)

/-- The input filter of pin `n`. -/
def State.pinIn (s : State) (n : Nat) : PinIn := Sparse.get (fun _ => {}) s.gpio.pins n

/-- Put it. -/
def State.setPinIn (s : State) (n : Nat) (x : PinIn) : State := { s with gpio := { s.gpio with pins := Sparse.put (fun _ => {}) s.gpio.pins n x } }

/-- The filter period of pin `n` in ENG cycles: FILT_N + 1 samples of 2^FILT_TB SPINE cycles (R566). -/
def State.filterPeriod (s : State) (n : Nat) : Nat := (s.get (F.GPIO_GP_CFG_FILT_N n) + 1) * 2 ^ s.get (F.GPIO_GP_CFG_FILT_TB n) * 2

/-- A pin event sets its bit in IRQ_STAT; a bit that becomes 1 raises source 520 + n (R566). -/
def State.pinEvent (s : State) (n : Nat) : State :=
  let f := s.pinFunc n
  if n % 16 = 4 ∧ (f = 2 ∨ f = 3 ∨ f = 4) then s
  else if s.now < (s.pinIn n).quietTo then s
  else if s.bitAt (R.GPIO_IRQ_STAT (n / 16)) (n % 16) then s
  else (s.setBitAt (R.GPIO_IRQ_STAT (n / 16)) (n % 16)).raise (520 + n)

/-- Capture FIFO `k`. -/
def State.capFifo (s : State) (k : Nat) : List CapEntry := Sparse.get (fun _ => []) s.gpio.caps k

/-- Put it. -/
def State.setCapFifo (s : State) (k : Nat) (l : List CapEntry) : State :=
  { s with gpio := { s.gpio with caps := Sparse.put (fun _ => []) s.gpio.caps k l } }

/-- An edge of an F10 pin of the kind that IRQ selects is time-stamped; one that finds the FIFO full is lost (R564). -/
def State.pinCapture (s : State) (n : Nat) (level : Bool) (t : Nat) : State :=
  let irq := s.get (F.GPIO_GP_CFG_IRQ n)
  if s.pinFunc n = 10 ∧ (irq = 3 ∨ (irq = 1 ∧ level = true) ∨ (irq = 2 ∧ level = false)) then
    let k := n / 16
    if 8 ≤ (s.capFifo k).length then s.set (F.GPIO_CAP_INFO_OVF k) 1
    else s.setCapFifo k (s.capFifo k ++ [⟨n % 16, level, t % 2 ^ 32⟩])
  else s

/-- How many of the samples of pin `n` from `t` on lie before its filter has restarted (R567). -/
def State.samplesBefore (s : State) (n t : Nat) : Nat :=
  let p := 2 * 2 ^ s.get (F.GPIO_GP_CFG_FILT_TB n)
  ((s.pinIn n).since - t + p - 1) / p

/-- How many of `samples` in a row, the first of them at `t`, lie after the filter of pin `n` has restarted (R567). -/
def State.samplesSince (s : State) (n t samples : Nat) : Nat := samples - s.samplesBefore n t

/-- The time of the first of them. -/
def State.firstSample (s : State) (n t : Nat) : Nat := t + s.samplesBefore n t * (2 * 2 ^ s.get (F.GPIO_GP_CFG_FILT_TB n))

/-- Whether `samples` in a row at a level make the filter of pin `n` accept it (R566). -/
def State.filterTakes (s : State) (n samples : Nat) : Bool :=
  match s.get (F.GPIO_GP_CFG_FMODE n) with
  | 1 => decide (s.get (F.GPIO_GP_CFG_FILT_N n) + 1 ≤ samples)
  | 2 =>
    match (s.pinIn n).takenAt with
    | some a => decide (1 ≤ samples) && decide (a + s.filterPeriod n < s.now)
    | none => decide (1 ≤ samples)
  | _ => decide (1 ≤ samples)

/-- Whether an IRQ code reports a level (R571). -/
def levelIrq (irq : Nat) (level : Bool) : Bool := irq == 4 && level || irq == 5 && !level

/-- Whether it reports a change to a level. -/
def edgeIrq (irq : Nat) (level : Bool) : Bool := irq == 3 || irq == 1 && level || irq == 2 && !level

/-- The level at pin `n`, and the word its serialiser has received, as the rim may show them (R327, R563). -/
def State.setPinLevel (s : State) (n : Nat) (level : Bool) (word : Nat) : State :=
  { s with fab := { s.fab with pins := Sparse.put (fun _ => 0) s.fab.pins n (word * 2 + if level then 1 else 0) } }

/-- GPIO_INPUT_CHANGE (R563, R564, R566). Pin `n` has shown `level` for `samples` samples, the first of them at `t`; `word` is the word
that a serialiser has received. F1 and F7 show the fabric the pin; the filtered level goes to IN, to the interrupt logic and to the
capture timer. In RESET only the level at the pin changes. -/
def execGpioInputChange (n : Fin 128) (t : Nat) (level : Bool) (samples : Nat) (word : Fin 256) (s : State) : Out :=
  let s1 := (s.at_ t).setPinLevel n.val level word.val
  let k := n.val / 16
  let irq := s1.get (F.GPIO_GP_CFG_IRQ n.val)
  if s1.mode = M.reset then .next s1
  else if s1.bitAt (R.GPIO_IN k) (n.val % 16) = level then .next (if levelIrq irq level then s1.pinEvent n.val else s1)
  else if s1.filterTakes n.val (s1.samplesSince n.val t samples) = false then .next s1
  else
    let s2 := (s1.set ⟨R.GPIO_IN k, n.val % 16, n.val % 16⟩ (if level then 1 else 0)).setPinIn n.val { s1.pinIn n.val with takenAt := some s1.now }
    .next ((if edgeIrq irq level || levelIrq irq level then s2.pinEvent n.val else s2).pinCapture n.val level (s1.firstSample n.val t))

/-- A write of `GPIO.IRQ_STATk`: the bits written 1 clear, and a level that holds sets its bit again at the next sample (R566). -/
def State.pinStatWrite (s : State) (k : Nat) (v : Word) : State × Bool :=
  let p := s.mergeWrite (R.GPIO_IRQ_STAT k) v
  ((List.range 16).foldl (fun (u : State) i =>
      if v.getLsbD i && levelIrq (u.get (F.GPIO_GP_CFG_IRQ (16 * k + i))) (u.bitAt (R.GPIO_IN k) i) then u.pinEvent (16 * k + i) else u) p.1, p.2)

/-- A write of `GPIO.GPn_CFG`: a FUNC not available at the pin is a reserved encoding; the filter restarts and reports nothing for two
filter periods (R560, R567). -/
def State.gpCfgWrite (s : State) (n : Nat) (v : Word) : State × Bool :=
  let f := v.toNat % 16
  let bad := !funcAt n f
  let v1 := if bad then setBitsOf v 3 0 (s.pinFunc n) else v
  let p := s.mergeWrite (R.GPIO_GP_CFG n) v1
  (p.1.setPinIn n { takenAt := none, quietTo := p.1.now + 2 * p.1.filterPeriod n, since := p.1.now }, p.2 || bad)

/-! ## Outputs (R26, R355, R560-R565, R569) -/

/-- Lane A of rim cell (2n, 0) as the pin sees it (R327). -/
def State.rimPin (s : State) (n : Nat) : BitVec 16 :=
  s.rimOut s.stepNow 2 (2 * n) 0

/-- PWM generator `k` at the present moment: its output (R562); a setting that a write may not make leaves it low (R8). -/
def State.pwmLevel (s : State) (k : Nat) : Bool :=
  let g := Sparse.get (fun _ => {}) s.gpio.pwm k
  let (w, a) := if g.nxtAt ≤ s.now then (g.nxt, g.nxtAt) else (g.cur, g.start)
  let per := bitsOf w 31 16
  decide (2 ≤ per) && decide (bitsOf w 15 0 ≤ per) && decide ((s.now - a) / 4 % per < bitsOf w 15 0)

/-- Whether the port of pin `n` drives it under FUNC `f` (R560, R561): 0 the pin is high-Z or an input, 1 it carries an output of the port. -/
def State.portDrives (s : State) (n f : Nat) : Bool :=
  let mode := s.get (F.GPIO_PORT_CFG_MODE (n / 16))
  match f, n % 16 with
  | 2, p => mode == 1 && (p == 4 || p == 6)
  | 3, p => mode == 2 && (p == 4 || p == 5 || p == 7)
  | 4, _ => mode == 3
  | _, _ => false

/-- The output value and output enable that the function of pin `n` gives; none where the unit that drives it moves within a word, a
byte or a clock period (F2-F5). -/
def State.pinFunction (s : State) (n : Nat) : Option (Bool × Bool) :=
  let inv := s.bit (F.GPIO_GP_CFG_OUT_INV n)
  match s.pinFunc n with
  | 0 => some (s.bitAt (R.GPIO_OUT (n / 16)) (n % 16), s.bitAt (R.GPIO_OE (n / 16)) (n % 16))
  | 1 => some ((s.rimPin n).getLsbD 0, (s.rimPin n).getLsbD 8)
  | 6 => some (s.pwmLevel (n / 16) != inv, true)
  | 8 => some ((match s.snapAt with | some a => decide (s.now < a + 40) | none => false) != inv, true)
  | 9 => some ((s.clkoutLevel (n % 4) s.vcoNow).1 != inv, true)
  | 10 => some (false, false)
  | 11 => some (false, s.mode == M.hold)
  | 7 => (s.serialOut n).map fun x => (x.1 != inv, x.2)
  | 2 | 3 | 4 => if s.portDrives n (s.pinFunc n) then none else some (false, false)
  | _ => none

/-- Whether the bank of pin `n` has no supply (R559). -/
def State.bankAbsent (s : State) (n : Nat) : Bool :=
  bitsOf (s.rd R.GPIO_BANK_STAT) (2 * (n / 16) + 1) (2 * (n / 16)) == 0

/-- Whether R26 calls for the PULLSEL pull at pin `n`: before INIT, in QUARANTINE, and in INIT until the release of the quadrant of its bank (R333). -/
def State.pullPhase (s : State) (n : Nat) : Bool :=
  !s.alive || (s.mode == M.init && !s.tractFree (n / 16 * 2))

/-- The pull at pin `n`, in the codes of PULL: 0 none, 1 up, 2 down (R26, R557, R558, R571). `strap` is the level at PULLSEL, which acts directly in
RESET; elsewhere the level latched at the exit from RESET acts. -/
def State.pinPull (s : State) (strap : Bool) (n : Nat) : Nat :=
  if s.pullPhase n then
    (if (if s.mode = M.reset then strap else s.bit F.GPIO_STRAPS_PULLSEL) then 1 else 2)
  else s.get (F.GPIO_GP_CFG_PULL n)

/-- The output value and enable of pin `n` (R26, R333, R355, R559, R567). High-Z is enable 0. Under EXTEST, in its gate, the boundary register drives it
(R541). -/
def State.pinOut (s : State) (n : Nat) : Option (Bool × Bool) :=
  let t := n / 8
  if s.sec.extest && s.modeIn [M.quarantine, M.service] then none
  else if s.pullPhase n = true ∨ s.bankAbsent n = true then some (false, false)
  else if s.get F.CFG_PR_STAT_STATE = 4 ∧ s.cfg.pr.region.contains t = true ∧ s.pinFunc n = 1 then
    match s.get (F.GPIO_GP_CFG_HOLD n) with
    | 0 => let h := Sparse.get (fun _ => 0) s.cfg.pr.pins n; some (h % 2 == 1, h / 2 % 2 == 1)
    | 1 => some (s.bit (F.GPIO_GP_CFG_SAFE_VAL n), s.bit (F.GPIO_GP_CFG_SAFE_OE n))
    | _ => some (false, false)
  else s.pinFunction n

/-- The output values and enables that the F1 pins of a region hold from the assertion of its set-reset on (R355). -/
def State.heldPins (s : State) (region : List Nat) : Sparse Nat :=
  (List.range 128).filterMap fun n =>
    if region.contains (n / 8) = true ∧ s.pinFunc n = 1 then
      match s.pinOut n with
      | some (v, oe) => let h := (if v then 1 else 0) + (if oe then 2 else 0); if h = 0 then none else some (n, h)
      | none => none
    else none

/-- A write of `GPIO.PWMk`: PERIOD 0 and 1 are reserved, HIGH is at most PERIOD; it takes effect at the next period start (R562). -/
def State.pwmWrite (s : State) (k : Nat) (v : Word) : State × Bool :=
  let per := bitsOf v 31 16
  if per < 2 ∨ per < bitsOf v 15 0 then (s, true)
  else
    let g := Sparse.get (fun _ => {}) s.gpio.pwm k
    let (cur, a) := if g.nxtAt ≤ s.now then (g.nxt, g.nxtAt) else (g.cur, g.start)
    let len := 4 * bitsOf cur 31 16
    let at_ := if len = 0 then s.now else a + ((s.now - a) / len + 1) * len
    let s1 := s.wr (R.GPIO_PWM k) v
    ({ s1 with gpio := { s1.gpio with pwm := Sparse.put (fun _ => {}) s1.gpio.pwm k { cur := cur, start := a, nxt := v, nxtAt := at_ } } }, false)

/-! ## Serial ports (R561, R566) -/

/-- Port `k`. -/
def State.port (s : State) (k : Nat) : Port := Sparse.get (fun _ => {}) s.gpio.ports k

/-- Put it, with the levels and BUSY of PORT_STAT. -/
def State.setPort (s : State) (k : Nat) (x : Port) : State :=
  let s1 : State := { s with gpio := { s.gpio with ports := Sparse.put (fun _ => {}) s.gpio.ports k x } }
  ((s1.set (F.GPIO_PORT_STAT_TX_LEVEL k) x.tx.length).set (F.GPIO_PORT_STAT_RX_LEVEL k) x.rx.length).set (F.GPIO_PORT_STAT_BUSY k)
    (if x.tx = [] then 0 else 1)

/-- The shortest time in which port `k` finishes a frame with its settings, in ENG cycles (R561): a UART sends a start bit, 8 data bits, a parity
bit where PARITY is not 0 and 1 or 2 stop bits; SPI 8 bits; I2C 8 bits and the acknowledge, or one clock period for a condition. -/
def State.portTime (s : State) (k e : Nat) : Nat :=
  let o := s.get (F.GPIO_PORT_CFG_OPT k)
  let div := s.get (F.GPIO_PORT_CFG_DIV k) + 1
  match s.get (F.GPIO_PORT_CFG_MODE k) with
  | 1 => (10 + (if o % 4 = 0 then 0 else 1) + o / 4 % 2) * (16 * div) * 2
  | 2 => 8 * (2 * div) * 2
  | _ => (if e / 256 % 16 = 1 ∨ e / 256 % 16 = 5 then 1 else 9) * (4 * div) * 2

/-- A write of `GPIO.PORTk_CFG`: parity code 3 of a UART is reserved (R8, R570). What waits is sent afresh with the new settings. -/
def State.portCfgWrite (s : State) (k : Nat) (v : Word) : State × Bool :=
  let s0 := s.setPort k { s.port k with at_ := s.now }
  if bitsOf v 31 30 = 1 ∧ bitsOf v 1 0 = 3 then
    ((s0.mergeWrite (R.GPIO_PORT_CFG k) (setBitsOf v 1 0 (bitsOf (s.rd (R.GPIO_PORT_CFG k)) 1 0))).1, true)
  else s0.mergeWrite (R.GPIO_PORT_CFG k) v

/-- An event of port `k` (R566). -/
def State.portEvent (s : State) (k : Nat) : State := s.raise (524 + 16 * k)

/-- A write of `GPIO.PORTk_TX`: a full FIFO and, in I2C mode, a reserved CMD answer PARAM (R561, R570). -/
def State.portTx (s : State) (k : Nat) (v : Word) : State × Bool :=
  let x := s.port k
  let cmd := bitsOf v 11 8
  if 16 ≤ x.tx.length then (s, true)
  else if s.get (F.GPIO_PORT_CFG_MODE k) = 3 ∧ (cmd = 0 ∨ 5 < cmd) then (s, true)
  else (s.setPort k { x with tx := x.tx ++ [v.toNat % 4096], at_ := if x.tx = [] then s.now else x.at_ }, false)

/-- A byte received: queued, with an event where data becomes present, or lost with OVERRUN (R561, R566). -/
def State.portRx (s : State) (k data : Nat) : State :=
  let x := s.port k
  if 16 ≤ x.rx.length then (s.set (F.GPIO_PORT_STAT_OVERRUN k) 1).portEvent k
  else
    let s1 := s.setPort k { x with rx := x.rx ++ [data] }
    if x.rx = [] then s1.portEvent k else s1

/-- PORT_TRANSFER_DONE (R561) at time `t`; an entry whose bits have not had their time is not done. -/
def execPortTransferDone (k : Fin 8) (t : Nat) (d : PortDone) (s0 : State) : Out :=
  let s := s0.at_ t
  let mode := s.get (F.GPIO_PORT_CFG_MODE k.val)
  match d with
  | .sent data nack =>
    let x := s.port k.val
    match x.tx with
    | [] => .next s
    | e :: r =>
      if mode = 0 ∨ s.now < x.at_ + s.portTime k.val e then .next s
      else
        let s1 := s.setPort k.val { x with tx := r, at_ := s.now }
        let s2 := if r = [] then s1.portEvent k.val else s1
        let cmd := e / 256 % 16
        let s3 := if mode = 2 ∨ (mode = 3 ∧ (cmd = 3 ∨ cmd = 4)) then s2.portRx k.val data.toNat else s2
        .next (if mode = 3 ∧ cmd = 2 ∧ nack = true then (s3.set (F.GPIO_PORT_STAT_NACK k.val) 1).portEvent k.val else s3)
  | .received data perr ferr =>
    if mode ≠ 1 then .next s
    else
      let s1 := s.portRx k.val data.toNat
      let s2 := if perr = true ∧ 1 ≤ s.get (F.GPIO_PORT_CFG_OPT k.val) % 4 then (s1.set (F.GPIO_PORT_STAT_PARITY k.val) 1).portEvent k.val else s1
      .next (if ferr then (s2.set (F.GPIO_PORT_STAT_FRAME k.val) 1).portEvent k.val else s2)

/-- What `GPIO.PORTk_RX` shows. -/
def State.portRxWord (s : State) (k : Nat) : Word :=
  match (s.port k).rx with
  | d :: _ => BitVec.ofNat 32 (2 ^ 31 + d)
  | [] => 0

/-- A read of `GPIO.PORTk_RX` removes the entry. -/
def State.portRxPop (s : State) (k : Nat) : State := s.setPort k { s.port k with rx := (s.port k).rx.tail }

/-- `GPIO.CAPk_INFO` of the oldest entry (R564, R570). -/
def State.capInfo (s : State) (k : Nat) : Word :=
  let ovf := if s.bit (F.GPIO_CAP_INFO_OVF k) then 2 ^ 30 else 0
  match s.capFifo k with
  | e :: _ => BitVec.ofNat 32 (2 ^ 31 + ovf + (if e.rise then 16 else 0) + e.pin)
  | [] => BitVec.ofNat 32 ovf

/-- `GPIO.CAPk_TIME` of the oldest entry. -/
def State.capTime (s : State) (k : Nat) : Word :=
  match s.capFifo k with
  | e :: _ => BitVec.ofNat 32 e.time
  | [] => 0

/-- A read of CAPk_TIME removes the oldest entry. -/
def State.capPop (s : State) (k : Nat) : State := s.setCapFifo k (s.capFifo k).tail

/-- Writes of OUT_SETk, OUT_CLRk and OUT_TGLk act on OUT (R565). -/
def State.outSet (s : State) (k : Nat) (v : Word) : State := s.wr (R.GPIO_OUT k) (s.rd (R.GPIO_OUT k) ||| (v &&& 0xFFFF#32))
def State.outClr (s : State) (k : Nat) (v : Word) : State := s.wr (R.GPIO_OUT k) (s.rd (R.GPIO_OUT k) &&& ~~~ (v &&& 0xFFFF#32))
def State.outTgl (s : State) (k : Nat) (v : Word) : State := s.wr (R.GPIO_OUT k) (s.rd (R.GPIO_OUT k) ^^^ (v &&& 0xFFFF#32))

end Sys2Proof.Machine
end

