-- ==== Sys2Proof/Machine/Pr.lean ====
section
/-! DEFINITION. Sys2Proof/Machine/Pr.lean: the reconfiguration port, the scanner, repair and quadrant restore (R342-R365). -/
namespace Sys2Proof.Machine

/-- Stages of a partial load (R350). -/
abbrev Pr.idle : Nat := 0
abbrev Pr.staging : Nat := 1
abbrev Pr.auth : Nat := 2
abbrev Pr.decrypt : Nat := 3
abbrev Pr.applying : Nat := 4
abbrev Pr.done : Nat := 5
abbrev Pr.rejected : Nat := 6

/-- STATE of the port. -/
def State.prState (s : State) : Nat := s.get F.CFG_PR_STAT_STATE

/-- Whether a stream is being handled. -/
def State.prBusy (s : State) : Bool := decide (1 ≤ s.prState) && decide (s.prState ≤ 4)

/-- Put the port's inner state. -/
def State.setPr (s : State) (p : Pr) : State := { s with cfg := { s.cfg with pr := p } }

/-- Reject the stream (R350, R352, R364). -/
def State.prReject (s : State) (code frame : Nat) : State :=
  let s1 := ((s.set F.CFG_PR_STAT_STATE Pr.rejected).set F.CFG_PR_STAT_CODE code).set F.CFG_PR_STAT_FRAME frame
  ((s1.set F.CFG_PR_CTL_START 0).count R.CFG_PR_REJECTED).raise 833

/-- Whether a self-test slice holds a tract (R523). -/
def State.tractSlice (s : State) : Bool := match s.bist.slice with | some x => x.kind == 6 | none => false

/-- Staging begins. -/
def State.prBegin (s : State) : State :=
  let s1 := s.set F.CFG_PR_STAT_STATE Pr.staging
  if s.cfg.pr.flash then s1.flashTouch else s1

/-- START of a stream by its owner: rejected at once in the modes of code MODE and above 1 MiB; staging waits for the end of a tract
slice (R350, R352, R523). -/
def State.prStart (s : State) (fabric flash : Bool) (src len : Nat) : State :=
  if s.prBusy then s
  else
    let s1 := s.setPr { flash := flash, fabric := fabric, src := src, len := len, ack := s.cfg.pr.ack, claim := s.cfg.pr.claim }
    let s2 := ((s1.set F.CFG_PR_STAT_CODE 0).set F.CFG_PR_STAT_FRAME 0).set F.CFG_PR_CTL_START 1
    if s.alive = false then s2.prReject 0x10 0
    else if 0x100000 < len then s2.prReject 0x03 0
    else if s.tractSlice then s2.set F.CFG_PR_STAT_STATE Pr.idle
    else s2.prBegin

/-- ABORT before APPLY (R352, R353). -/
def State.prAbort (s : State) : State := if 1 ≤ s.prState ∧ s.prState ≤ 3 then s.prReject 0x0F 0 else s

/-- Bytes pushed to a PUSH stream; more than LEN rejects it (R348, R352). -/
def State.prPush (s : State) (l : List Nat) : State :=
  let p := s.cfg.pr
  if s.prState = Pr.staging ∧ p.flash = false then
    if p.len < p.count + l.length then s.prReject 0x03 0
    else s.setPr { p with bytes := p.bytes ++ l, count := p.count + l.length }
  else s

/-- A spine write of OWNER: the drones claim or release the port (R347). 0b10 is read only; 0b11 is reserved. -/
def State.prOwner (s : State) (o : Nat) : State × Bool :=
  let c := s.get F.CFG_PR_CTL_OWNER
  if o = 3 then (s, true)
  else if o = 1 then
    (if c = 0 then s.set F.CFG_PR_CTL_OWNER 1 else if c = 2 then s.set F.CFG_PR_STAT_CLAIM_REFUSED 1 else s, false)
  else if o = 0 then (if c = 1 ∧ s.prBusy = false then s.set F.CFG_PR_CTL_OWNER 0 else s, false)
  else (s, false)

/-- A write of `CFG.PR_CTL` (R347, R350, R352, R364). -/
def State.prCtlWrite (s : State) (v : Word) : State × Bool :=
  let (s1, bad) := s.prOwner (bitsOf v 31 30)
  let s2 := (s1.set F.CFG_PR_CTL_SRC (bitsOf v 27 27)).set F.CFG_PR_CTL_FAB_ALLOW (bitsOf v 26 26)
  let s3 := if v.getLsbD 28 ∧ s2.get F.CFG_PR_CTL_OWNER = 1 then s2.prAbort else s2
  let s4 := if v.getLsbD 29 ∧ s3.get F.CFG_PR_CTL_OWNER = 1 then
      s3.prStart false (s3.bit F.CFG_PR_CTL_SRC) (s3.rdN R.CFG_PR_SRC_ADDR) (s3.rdN R.CFG_PR_LEN)
    else s3
  (s4, bad)

/-- A spine write of `CFG.PR_DATA` (R348). -/
def State.prDataWrite (s : State) (v : Word) : State := if s.cfg.pr.fabric then s else s.prPush (bytesBE 4 v.toNat)

/-- The level of the rim CLAIM lane changes (R347, R349). -/
def State.prClaim (s : State) (level : Bool) : State :=
  let c := s.get F.CFG_PR_CTL_OWNER
  let s1 := s.setPr { s.cfg.pr with claim := level }
  if level = true ∧ s.cfg.pr.claim = false then
    if c = 0 ∧ s.bit F.CFG_PR_CTL_FAB_ALLOW = true then s1.set F.CFG_PR_CTL_OWNER 2
    else if c = 1 then s1.set F.CFG_PR_STAT_CLAIM_REFUSED 1
    else s1
  else if level = false ∧ c = 2 ∧ s.prBusy = false then s1.set F.CFG_PR_CTL_OWNER 0
  else s1

/-- A rim command of code `cmd`: taken at a toggle of REQ at the edge that begins micro-step `m`, where CMD names it and the fabric owns the
port, and answered with ACK (R349). -/
def State.prRim (s : State) (cmd m : Nat) (act : State → State) : State :=
  let s := s.at_ (s.stepTime m)
  if s.rimToggles m 3 0 250 15 = false ∨ (s.rimOut m 3 0 250).toNat % 8 ≠ cmd then s
  else
    let s1 := if s.get F.CFG_PR_CTL_OWNER = 2 then act s else s
    s1.setPr { s1.cfg.pr with ack := !s1.cfg.pr.ack }

/-- PR_RIM_PUSH: BYTES of the word, 1 to 8; row 249 [15:8] is the earliest (R349). -/
def execPrRimPush (m : Nat) (s : State) : Out :=
  .next (s.prRim 1 m fun t =>
    let n := (t.rimOut m 3 0 250).toNat / 8 % 16
    if 1 ≤ n ∧ n ≤ 8 ∧ t.cfg.pr.fabric = true then t.prPush ((bytesBE 8 (t.rimWest m 246 4)).take n) else t)

/-- PR_RIM_START_FLASH: SRC_ADDR is on rows 251 and 252, LEN that of PR_LEN (R349). -/
def execPrRimStartFlash (m : Nat) (s : State) : Out :=
  .next (s.prRim 2 m fun t => t.prStart true true (t.rimWest m 251 2) (t.rdN R.CFG_PR_LEN))

/-- PR_RIM_START_PUSH: LEN is on rows 251 and 252 (R349). -/
def execPrRimStartPush (m : Nat) (s : State) : Out := .next (s.prRim 3 m fun t => t.prStart true false 0 (t.rimWest m 251 2))

/-- PR_RIM_ABORT (R349). -/
def execPrRimAbort (m : Nat) (s : State) : Out := .next (s.prRim 4 m State.prAbort)

/-- Whether a range of CFLASH meets a sector that is not SEALED, or leaves the array (R352, R359, R403). -/
def State.sourceSuspect (s : State) (a n : Nat) : Bool :=
  decide (a < 0x30000000) || decide (0x32FF0000 < a + n) ||
    (List.range ((a % 0x10000 + n + 0xFFFF) / 0x10000)).any fun i => (s.sector ((a - 0x30000000) / 0x10000 + i)).state != Fs.sealed

/-- PR_STAGING_DONE (R350, R352). `bad` says that a CFLASH read was uncorrectable. -/
def execPrStagingDone (t : Nat) (bad : Bool) (s : State) : Out :=
  let s0 := s.at_ t
  let p := s0.cfg.pr
  if s0.prState ≠ Pr.staging then .next s0
  else if p.flash then
    if s0.sourceSuspect p.src p.len = true ∨ bad = true then .next (s0.prReject 0x0E 0)
    else .next (((s0.setPr { p with bytes := s0.cfBytes p.src p.len }).flashTouch).set F.CFG_PR_STAT_STATE Pr.auth)
  else if p.count = p.len then .next (s0.set F.CFG_PR_STAT_STATE Pr.auth)
  else .next s0

/-- The checks of the header stage, in the order of R379 with the codes of R352; 0 = passed. -/
def State.prAuth (s : State) (b : List Nat) : Nat :=
  let h := b.take 480
  let len := fieldBE h 12 4
  if b.length < 480 then 0x02
  else if headerLegal h = false then 0x11
  else if fieldBE h 6 2 ≠ 0x6128 then 0x01
  else if fieldBE h 8 1 = 1 then 0x04
  else if headerSizes h 16 = false ∨ 0x100000 < 480 + len then 0x03
  else if b.length < 480 + len then 0x02
  else if s.signatureOk h = false then 0x05
  else if Config.sha384 (slice b 480 len) ≠ slice h 32 48 then 0x06
  else 0

/-- PR_AUTH_DONE (R350, R352). -/
def execPrAuthDone (t : Nat) (s : State) : Out :=
  let s0 := s.at_ t
  if s0.prState ≠ Pr.auth then .next s0
  else
    let code := s0.prAuth s0.cfg.pr.bytes
    .next (if code = 0 then s0.set F.CFG_PR_STAT_STATE Pr.decrypt else s0.prReject code 0)

/-- FRAME of PR_STAT for the record at stream offset `off` (R364). -/
def frameAt (recs : List ImgRec) (off : Nat) : Nat :=
  (recs.findSome? fun r => match r with
    | .frame ram n _ _ _ _ o => if o = off then some ((if ram then 0x1000 else 0) + n) else none
    | _ => none).getD 0

/-- Drop the entries of the repair queue that meet `p`, and a request to the head for one of them (R359). -/
def State.queueDrop (s : State) (p : Nat → Bool) : State :=
  let asked := match s.cfg.asked with | some (n, a) => if p n then none else some (n, a) | none => none
  { s with cfg := { s.cfg with queue := s.cfg.queue.filter fun f => !p f, asked := asked, answer := if asked = none then [] else s.cfg.answer } }

/-- The set-reset of a region is asserted and its pins hold (R354, R355). -/
def State.prHold (s : State) (region : List Nat) : State :=
  let s1 := s.setPr { s.cfg.pr with pins := s.heldPins region }
  let s2 := region.foldl (fun t k => t.holdTract k) s1
  s2.queueDrop fun f => region.contains (f / 16)

/-- PR_DECRYPT_DONE (R350-R352, R354): every segment and frame is checked; a stream that passes enters APPLY at an edge with E = 0, at which the
region's set-reset is asserted. -/
def execPrDecryptDone (t : Nat) (s : State) : Out :=
  let s0 := s.at_ t
  if s0.prState ≠ Pr.decrypt then .next s0
  else
    let p := s0.cfg.pr
    let h := p.bytes.take 480
    let region := headerRegion h
    match s0.unwrap h with
    | none => .next (s0.prReject 0x07 0)
    | some k0 =>
      let segs := fieldBE h 28 2
      let (d, v) := ladder (some region) p.bytes none segs (fieldBE h 12 4) (slice h 16 8) (Config.sha384 (slice h 0 384)) segs 0 k0 {}
      match v with
      | .more => .next (s0.prReject 0x02 0)
      | .reject code off => .next (s0.prReject code (if code = 0x09 ∨ code = 0x0A then frameAt d.recs.reverse off else 0))
      | .ok =>
        if p.fabric = true ∧ region.contains 240 = true then .next (s0.prReject 0x09 0)
        else
          match crossCheck d.recs s0.cellCfg with
          | .reject code off => .next (s0.prReject code (frameAt d.recs off))
          | _ =>
            if region.any fun k => !s0.quadOn (tractQuad k) then .next (s0.prReject 0x0D 0)
            else if s0.epochAt s0.now ≠ 0 then .next s0
            else
              let s1 := s0.setPr { p with recs := d.recs, keys := d.keys, region := region }
              .next ((s1.prHold region).set F.CFG_PR_STAT_STATE Pr.applying)

/-- Key table entry `i`. -/
def State.keyEntry (s : State) (i : Nat) : Option KeyEntry := Sparse.get (fun _ => none) s.cfg.keyTab i

/-- Put a key in the first free entry; none when the table is full (R344). -/
def State.keyAlloc (s : State) (k : KeyEntry) : State × Option Nat :=
  match (List.range 512).find? fun i => (s.keyEntry i).isNone with
  | some i => ({ s with cfg := { s.cfg with keyTab := Sparse.put (fun _ => none) s.cfg.keyTab i (some k) } }, some i)
  | none => ({ s with cfg := { s.cfg with keysFull := true } }, none)

/-- Free the entries that no frame record names (R344). -/
def State.keyFree (s : State) : State :=
  let used := fun (i : Nat) => s.cfg.recs.any fun e => e.2.key == i && e.2.state != 2
  let tab := s.cfg.keyTab.filter fun e => used e.1
  { s with cfg := { s.cfg with keyTab := tab, keysFull := s.cfg.keysFull && decide (512 ≤ tab.length) } }

/-- The segments whose frames a stream applies, each with its key table entry (R344). -/
def State.prKeys (s : State) (segs : List Nat) (keys : List KeyEntry) : State × List (Nat × Option Nat) :=
  segs.foldl (fun a i => match keys[i]? with
    | some k => let (t, e) := a.1.keyAlloc k; (t, a.2 ++ [(i, e)])
    | none => a) (s, [])

/-- Write the frames of a stream and replace their records: a pushed stream, and one that found the key table full, leaves no source
(R345, R346, R348, R354). -/
def State.prWrite (s : State) : State :=
  let p := s.cfg.pr
  let segs := (p.recs.filterMap fun r => match r with
    | .frame _ _ _ _ seg _ _ => some seg
    | _ => none).eraseDups
  let (s1, ents) := if p.flash then s.prKeys segs p.keys else (s, [])
  let s2 := p.recs.foldl (fun t r => match r with
    | .frame ram n pay crc seg pos _ =>
      let t1 := t.putFrame ram n pay
      let e := (ents.find? fun e => e.1 == seg).bind fun e => e.2
      t1.setFrameRec (if ram then 4096 + n else n)
        (match e with
          | some k => { state := 0, golden := crc, key := k, src := p.src + 480 + 65536 * seg + pos, pos := pos }
          | none => { state := 2, golden := crc, pos := pos })
    | _ => t) s1
  let ids := p.recs.flatMap fun r => match r with
    | .frame false n _ _ _ _ _ => (List.range 16).map fun i => n * 16 + i
    | _ => []
  (s2.arbitrate true ids).keyFree

/-- Release tracts whose quadrant is released and not held for a restore (R333, R354, R360). -/
def State.releaseTracts (s : State) (l : List Nat) : State :=
  l.foldl (fun t k =>
    let q := tractQuad k
    if (t.get F.FAB_SR_STAT_RELEASED).testBit q ∧ t.cfg.held.contains q = false ∧ t.cfg.restoring.contains q = false then t.freeTract k else t) s

/-- PR_APPLY_DONE (R350, R354): at an edge with E = 0 after the last write. -/
def execPrApplyDone (t : Nat) (s : State) : Out :=
  let s0 := s.at_ t
  if s0.prState ≠ Pr.applying ∨ s0.epochAt s0.now ≠ 0 then .next s0
  else
    let s1 := (s0.prWrite).releaseTracts s0.cfg.pr.region
    let s2 := (s1.set F.CFG_PR_STAT_STATE Pr.done).set F.CFG_PR_CTL_START 0
    let s3 := (s2.wrap R.CFG_PR_APPLIED 1).raise 832
    .next (s3.setPr { s3.cfg.pr with bytes := [], recs := [], keys := [], pins := [] })

/-! ## Registers (R363, R364) -/

/-- `CFG.FRAME_SEL` as a record number. -/
def State.frameSel (s : State) : Nat :=
  if s.bit F.CFG_FRAME_SEL_RAM then 4096 + s.get F.CFG_FRAME_SEL_IDX % 1024 else s.get F.CFG_FRAME_SEL_IDX

/-- `CFG.FRAME_REC`. -/
def State.frameRecWord (s : State) : Word :=
  let r := s.frameRec s.frameSel
  BitVec.ofNat 32 (r.state * 2 ^ 30 + r.fails % 4 * 2 ^ 28 + (if r.chain then 2 ^ 27 else 0) + r.key % 512 * 2 ^ 18)

/-- `CFG.KEYS`. -/
def State.keysWord (s : State) : Word :=
  BitVec.ofNat 32 ((if s.cfg.keysFull then 2 ^ 31 else 0) + (s.cfg.keyTab.filter fun e => e.2.isSome).length)

/-! ## Scanning and repair (R356-R359) -/

/-- The 640 bytes of fabric frame `n` as it is configured. -/
def State.framePayload (s : State) (n : Nat) : List Nat :=
  bytesBE 640 ((List.range 16).foldl (fun a i => a + (s.cellCfg (n * 16 + i)).toNat * 2 ^ (320 * i)) 0)

/-- Whether the scanner visits fabric frame `n` (R356, R359, R521). -/
def State.scans (s : State) (n : Nat) : Bool :=
  let t := n / 16
  let r := s.frameRec n
  s.quadOn (tractQuad t) && !s.cfg.restoring.contains (tractQuad t) && r.state != 3 && !(r.state == 2 && s.cfg.lapSkip.contains n) &&
    !(s.prState == Pr.applying && s.cfg.pr.region.contains t) &&
    (match s.bist.slice with | some x => x.kind != 6 || x.unit != t | none => true)

/-- The next frame of the scan; the state with the scan moved past it, and a completed lap counted. -/
def State.scanTake (s : State) : State × Option Nat :=
  match s.cfg.scanFirst.find? fun n => s.scans n with
  | some n => ({ s with cfg := { s.cfg with scanFirst := s.cfg.scanFirst.dropWhile (fun k => k != n) |>.tail } }, some n)
  | none =>
    let from_ := fun (u : State) (k : Nat) => (List.range (4096 - k)).findSome? fun i => if u.scans (k + i) then some (k + i) else none
    match from_ s s.cfg.scanNext with
    | some n => ({ s with cfg := { s.cfg with scanFirst := [], scanNext := n + 1 } }, some n)
    | none =>
      let skip := s.cfg.recs.filterMap fun e => if e.1 < 4096 ∧ e.2.state = 2 then some e.1 else none
      let s1 := ({ s with cfg := { s.cfg with scanFirst := [], lapSkip := skip } }).wrap R.CFG_SCAN_LAPS 1
      match from_ s1 0 with
      | some n => ({ s1 with cfg := { s1.cfg with scanNext := n + 1 } }, some n)
      | none => ({ s1 with cfg := { s1.cfg with scanNext := 0 } }, none)

/-- A frame becomes UNREPAIRABLE (R345, R359). -/
def State.unrepairable (s : State) (n : Nat) : State := (s.setFrameRec n { s.frameRec n with state := 3 }).raise 836

/-- SCAN_FRAME_READ (R356, R357, R359). The scanner reads its next frame; `goldenBad` says that the golden signature word is
uncorrectable, which is logged (R500). -/
def execScanFrameRead (t : Nat) (goldenBad : Bool) (s : State) : Out :=
  let s0 := s.at_ t
  if s0.alive = false ∨ s0.bit F.CFG_SCAN_CTL_EN = false ∨ s0.regValid R.CFG_SCAN_CTL = false then .next s0
  else
    match s0.scanTake with
    | (s1, none) => .next s1
    | (s1, some n) =>
      let r := s1.frameRec n
      if goldenBad then .next ((s1.eccInternal 9).unrepairable n)
      else if (crc32c (s1.framePayload n)).toNat = r.golden then .next s1
      else if r.state = 2 then .next (s1.unrepairable n)
      else if s1.cfg.queue.contains n then .next s1
      else if 8 ≤ s1.cfg.queue.length then .next (s1.count R.CFG_QUEUE_FULL)
      else
        let s2 := s1.setFrameRec n { r with state := 1 }
        .next { s2 with cfg := { s2.cfg with queue := s2.cfg.queue ++ [n] } }

/-- The payload of record `k`, read from its source and decrypted with the counter of its place, when its CRC is the golden signature
(R357). `fetched` is the stored bytes of a source behind the head. -/
def State.sourcePayload (s : State) (k : Nat) (bad : Bool) (fetched : List Nat) : Option (List Nat) :=
  let r := s.frameRec k
  let len := if k < 4096 then 640 else 4096
  let pre := r.pos % 16
  match s.keyEntry r.key with
  | none => none
  | some e =>
    if bad = true ∨ 2 ≤ r.state ∨ (r.chain = false ∧ s.sourceSuspect (r.src - pre) (len + pre) = true) then none
    else
      let c := if r.chain then fetched else s.cfBytes (r.src - pre) (len + pre)
      let p := (Config.aesCtr e.key (e.nonce ++ bytesBE 4 (2 + r.pos / 16)) c).drop pre
      if p.length = len ∧ (crc32c p).toNat = r.golden then some p else none

/-- Bits set in a number of `n` bits. -/
def bitCount (n v : Nat) : Nat := (List.range n).foldl (fun a i => if v.testBit i then a + 1 else a) 0

/-- Drop the head of the repair queue. -/
def State.queuePop (s : State) : State := { s with cfg := { s.cfg with queue := s.cfg.queue.tail, asked := none, answer := [] } }

/-- A repair of frame `n` failed (R359). -/
def State.repairFailed (s : State) (n : Nat) : State :=
  let r := s.frameRec n
  let s1 := ((s.queuePop.setFrameRec n { r with fails := min 3 (r.fails + 1) }).count R.CFG_REPAIR_FAIL).raise 835
  if 3 ≤ r.fails + 1 then s1.unrepairable n else s1

/-- Rewrite frame `n` in place (R317, R357). -/
def State.repairWrite (s : State) (n : Nat) (p : List Nat) : State :=
  let old := numBE (s.framePayload n)
  let s1 := ((s.queuePop.writeFrame n p).arbitrate true ((List.range 16).map fun i => n * 16 + i)).setFrameRec n { s.frameRec n with state := 0, fails := 0 }
  let s2 := (s1.set F.CFG_REPAIR_LAST_BITS (min 4095 (bitCount 5120 (Nat.xor old (numBE p))))).set F.CFG_REPAIR_LAST_FRAME n
  (s2.count R.CFG_REPAIRS).raise 834

/-- FRAME_REPAIR (R346, R357, R359, R392). The repair engine works on the first frame of the queue: it rewrites it, or asks the head for
its bytes. `bad` says that the source read is uncorrectable. -/
def execFrameRepair (t : Nat) (bad : Bool) (s : State) : Out :=
  let s0 := s.at_ t
  match s0.cfg.queue with
  | [] => .next s0
  | n :: _ =>
    let r := s0.frameRec n
    let need := 640 + r.pos % 16
    if s0.quadOn (tractQuad (n / 16)) = false ∨ (s0.prState = Pr.applying ∧ s0.cfg.pr.region.contains (n / 16) = true) then .next s0.queuePop
    else if r.chain = true ∧ s0.cfg.asked = none then
      let s1 : State := { s0 with cfg := { s0.cfg with asked := some (n, t), answer := [] } }
      .next (s1.emnData 1 0 ([5, 0, 0, 0] ++ bytesBE 4 (r.src - r.pos % 16) ++ bytesBE 2 need))
    else if r.chain = true ∧ s0.cfg.answer.length < need then .next s0
    else
      let s1 := if r.chain then s0 else s0.flashTouch
      match s1.sourcePayload n bad (s1.cfg.answer.take need) with
      | some p => .next (s1.repairWrite n p)
      | none => .next (s1.repairFailed n)

/-- REPAIR_CHAIN_TIMEOUT: no answer from the head within 10 ms (R359). -/
def execRepairChainTimeout (t : Nat) (s : State) : Out :=
  let s0 := s.at_ t
  match s0.cfg.asked with
  | some (n, a) => if a + 10000 * usCycles ≤ t then .next (s0.repairFailed n) else .next s0
  | none => .next s0

/-! ## Restoring a quadrant (R360) -/

/-- Records of the frames and RAM blocks of quadrant `q`, ascending. -/
def quadRecs (q : Nat) : List Nat :=
  ((List.range 4096).filter fun n => tractQuad (n / 16) == q) ++ ((List.range 1024).filterMap fun b => if tractQuad (b / 4) = q then some (4096 + b) else none)

/-- Write record `k` from its source where it has one; whether it did, and the fetched strings left. -/
def State.restoreRec (bad : Bool) (a : State × Bool × List (List Nat)) (k : Nat) : State × Bool × List (List Nat) :=
  let r := a.1.frameRec k
  let (f, rest) := if r.chain then (a.2.2.headD [], a.2.2.tail) else ([], a.2.2)
  match a.1.sourcePayload k bad f with
  | some p =>
    let t := (a.1.putFrame (decide (4096 ≤ k)) (k % 4096) p).setFrameRec k { r with state := 0, fails := 0 }
    (if 4096 ≤ k then t else t.arbitrate true ((List.range 16).map fun i => k * 16 + i), a.2.1, rest)
  | none => (a.1, false, rest)

/-- QUADRANT_RESTORE_DONE (R360). `fetched` holds the stored bytes that came through the head, in ascending order of frame, then of
block; `bad` says that a source read failed. -/
def execQuadrantRestoreDone (q : Fin 4) (t : Nat) (bad : Bool) (fetched : List (List (BitVec 8))) (s : State) : Out :=
  let s0 := s.at_ t
  if s0.cfg.restoring.contains q.val = false then .next s0
  else
    let (s1, ok, _) := (quadRecs q.val).foldl (State.restoreRec bad) (s0.flashTouch, true, fetched.map fun l => l.map BitVec.toNat)
    let s2 : State := { s1 with cfg := { s1.cfg with restoring := s1.cfg.restoring.filter fun k => k != q.val } }
    if ok then
      let s3 := if s2.bit F.FAB_SR_STAT_DONE then s2.set F.FAB_SR_STAT_RELEASED (Nat.lor (s2.get F.FAB_SR_STAT_RELEASED) (2 ^ q.val)) else s2
      .next ((s3.releaseTracts ((List.range 256).filter fun k => tractQuad k == q.val)).raise 837)
    else
      let s3 : State := { s2 with cfg := { s2.cfg with held := q.val :: s2.cfg.held } }
      .next ((s3.set F.CFG_RESTORE_STAT_INCOMPLETE 1).set F.CFG_RESTORE_STAT_QUADRANT q.val)

/-- A write of `CFG.RESTORE_STAT`: INCOMPLETE is W1C, RELEASE releases the held quadrant that QUADRANT names, which then names another held
one, if there is one (R360, R363, log entry 87). -/
def State.restoreWrite (s : State) (v : Word) : State :=
  let s1 := if v.getLsbD 30 then s.set F.CFG_RESTORE_STAT_INCOMPLETE 0 else s
  if v.getLsbD 31 then
    let q := s1.get F.CFG_RESTORE_STAT_QUADRANT
    if s1.cfg.held.contains q then
      let left := s1.cfg.held.filter fun k => k != q
      let s2 : State := { s1 with cfg := { s1.cfg with held := left } }
      let s3 := if s2.bit F.FAB_SR_STAT_DONE then s2.set F.FAB_SR_STAT_RELEASED (Nat.lor (s2.get F.FAB_SR_STAT_RELEASED) (2 ^ q)) else s2
      (s3.set F.CFG_RESTORE_STAT_QUADRANT (left.headD q)).releaseTracts ((List.range 256).filter fun k => tractQuad k == q)
    else s1
  else s1

end Sys2Proof.Machine
end

