-- ==== Sys2Proof/Machine/Modes.lean ====
section
/-! DEFINITION. Sys2Proof/Machine/Modes.lean: mode requests, the arm, the SAFE burst, entry to RESET and QUARANTINE, the exit from
RESET (R15-R31, R247, R454, R457, R557, R558). -/
namespace Sys2Proof.Machine

/-! ## Entry to RESET (R6, R16, R23, R434, R437, R502) -/

/-- The registers that an entry to RESET leaves as they are: the last supply fault, the lost phases with VPHASE, and with two of them
lost VCORE_CAPACITY (R24, R434, R436). MODE, PREV and CAUSE are those of the entry. -/
def State.resetRegs (s : State) (cause : Nat) : State :=
  let lost := s.get F.PWR_PHASE_STAT_LOST
  let n := bitCount 6 lost
  let prev := if s.mode = M.reset then s.get F.SYS_MODE_PREV else s.mode
  let s0 : State := { s with regs := [] }
  let s1 := (s0.wr R.PWR_RAIL_FAULT (s.rd R.PWR_RAIL_FAULT)).set F.PWR_PHASE_STAT_LOST lost
  let s2 := if n = 0 then s1 else s1.set F.SYS_SPARED_VPHASE 1
  let s3 := if n < 2 then s2 else s2.set F.SYS_HOLD_CAUSES_VCORE_CAPACITY 1
  ((s3.set F.SYS_MODE_MODE M.reset).set F.SYS_MODE_PREV prev).set F.SYS_MODE_CAUSE cause

/-- Copy the band table of OTP, or the nominal entries where its CRC fails or it is uncorrectable (R454). -/
def State.loadBands (s : State) : State :=
  let t := s.otpBytes 0x500 64
  let bad := fieldLE (s.otpBytes 0x540 4) 0 4 != (crc32c t).toNat || s.otpBadIn 0x500 72
  let s1 := (List.range 16).foldl
    (fun u b => u.wr (R.CLK_BAND b) (if bad then nominalBand b else BitVec.ofNat 32 (fieldLE t (4 * b) 4) &&& 0xFFFFFFFD#32)) s
  if bad then s1.set F.CLK_STAT_BANDS_BAD 1 else s1

/-- Enter RESET with a cause; `down` = the rails go down with it. Every unit starts afresh; what stays is what no RESET reaches: the
non-volatile stores, the memories while they keep their supply, the supply itself, levels at pins, the TAP, and the settings of the
last image loaded since power-up (R6, R16, R277, R437, R502). A flash operation is abandoned (R410). In RESET only the cause changes. -/
def State.enterReset (s : State) (cause : Nat) (down : Bool) : State :=
  let s0 := s.flashAbandon
  let s1 := s0.resetRegs cause
  let s2 : State := {
    regs := s1.regs, now := s0.now, free := s0.free, mem := if down then [] else s0.mem,
    modeCtl := { aonCause := cause, fresh := false },
    wheel := { inited := !down && s0.wheel.inited, inited1 := !down && s0.wheel.inited1 },
    syncIn := s0.syncIn, fab := { pins := s0.fab.pins }, supply := s0.supply, flash := { s0.flash with lastRead := 0 },
    sec := { ir := s0.sec.ir, boundary := s0.sec.boundary, extest := s0.sec.extest, tapOut := s0.sec.tapOut },
    lastNet := if down then [] else s0.lastNet, pending := s0.pending }
  if down then s2 else s2.loadBands

/-! ## Entry to QUARANTINE (R23, R26, R29, R271, R277, R427, R440) -/

/-- The default address block of the OTP row (R427): NET_DEFAULT where VALID is set and its CRC over words 0 to 2 is right, else a MAC address
and a link-local address made from the serial number, /16, no gateway, VLAN 1, port 47043. -/
def State.netDefault (s : State) : List Nat :=
  let b := s.otpBytes 0x580 32
  let w (i : Nat) : Nat := fieldLE b (8 * i) 8
  if w 0 / 2 ^ 63 % 2 = 1 ∧ w 3 % 2 ^ 32 = (crc32c (b.take 24)).toNat ∧ s.otpBadIn 0x580 32 = false then
    [w 0 % 2 ^ 48, w 1 % 2 ^ 32, w 1 / 2 ^ 32, w 2 % 2 ^ 32, w 0 / 2 ^ 48 % 2 ^ 12, w 2 / 2 ^ 32 % 2 ^ 16]
  else
    let serial := numLE s.serial
    [2 * 2 ^ 40 + serial % 2 ^ 40, 169 * 2 ^ 24 + 254 * 2 ^ 16 + (1 + serial / 256 % 256 % 254) * 256 + serial % 256, 0xFFFF0000, 0, 1, 47043]

/-- The settings of the minimal responder: those of the last image loaded since power-up, else the default address block (R277, R427). -/
def State.responderNet (s : State) : List Nat := if s.lastNet ≠ [] then s.lastNet else s.netDefault

/-- The lanes that send. -/
def State.sendingLanes (s : State) : List Nat := (List.range 256).filter fun l => s.laneSends l

/-- Turn every transmitter off. -/
def State.lanesOff (s : State) : State := s.sendingLanes.foldl (fun t l => t.laneOff l) s

/-- Drop a session: its number is free, the last datagram sent stays on record, and source 738 is raised where it was open (R271, R294). -/
def State.dropSession (s : State) (x : Nat) : State :=
  let was := s.bit (F.IVW_S_STATE_OPEN x)
  let s1 := ((((s.wr (R.IVW_S_STATE x) 0).wr (R.IVW_S_PEER_IP x) 0).wr (R.IVW_S_PEER_PORT x) 0).setSession x { out := (s.session x).out }).set F.IVW_OPEN_COUNT
    (s.get F.IVW_OPEN_COUNT - if was then 1 else 0)
  let s2 : State := { s1 with ivw := { s1.ivw with
    rx := s1.ivw.rx.map fun b => if b.session = x then { b with live := false } else b
    confirms := s1.ivw.confirms.filter fun c => c.1 != x } }
  if was then s2.raise 738 else s2

/-- The wheel stops: no domain keeps a high-water position, and what the drainer had detached is gone (R65). -/
def State.stopWheel (s : State) : State :=
  [0, 1, 2].foldl (fun (t : State) d => t.setDom d { t.dom d with hw := none, hwLost := (t.dom d).hwLost || (t.dom d).hw.isSome, detached := [] }) s

/-- Units in reset in QUARANTINE; a partial stream before its APPLY is rejected with code MODE (R352, R353): engines, fabric, a running slice and pass, the reconfiguration port and every session (R26, R271,
R505, R515). -/
def State.quietUnits (s : State) : State :=
  let s := if 1 ≤ s.prState ∧ s.prState ≤ 3 then s.prReject 0x10 0 else if s.prBusy then s.set F.CFG_PR_STAT_STATE Pr.idle else s
  let s1 := ((List.range 256).filter fun x => s.bit (F.IVW_S_STATE_OPEN x) || (s.session x).waiting).foldl (fun t x => t.dropSession x) s
  let s2 : State := { s1 with
    engines := [], drones := [], claims := [], pairs := [], notes := [], bist := { s1.bist with slice := none, manual := none }, ivw := {},
    cfg := { s1.cfg with pr := {}, restoring := [], queue := [], asked := none } }
  let s3 := ((s2.endSlice.wr R.SEC_SVC_STAT 0).wr R.SEC_SVC_CTL 0 |>.globalSetReset.stopWheel).set F.CFG_PR_CTL_START 0 |>.set F.BIST_CTL_MAN_GO 0
  if s3.get F.ECC_SCRUB_STAT_STATE = 1 then ((s3.set F.ECC_SCRUB_STAT_STATE 0).set F.ECC_SCRUB_CTL_GO 0).set F.ECC_SCRUB_CTL_ABORT 0 else s3

/-- Enter QUARANTINE now. NET and SEC are woken (R440). -/
def State.quarantineNow (s : State) (cause : Nat) : State :=
  let s1 := (s.changeMode M.quarantine cause).lanesOff.quietUnits
  let s2 : State := { s1 with responder := s1.responderNet, modeCtl := { s1.modeCtl with toQuarantine := false, restart := false, burst := none, arm := none } }
  ([18, 19].filter fun d => s2.domOn d = false).foldl (fun t d => t.wakeDomain d) s2

/-- The modes that a cause of QUARANTINE takes there: a failed self-test (0x60) the six of its row, the failure of all images FALLBACK (R23). -/
def quarantineFrom (cause : Nat) : List Nat :=
  if cause = 0x60 then [M.init, M.armed, M.run, M.runSpared, M.hold, M.service] else [M.fallback]

/-- A cause of QUARANTINE: from a mode in which lanes send, the SAFE burst comes first, 16 frames from the cause on (R29). A mode that the
cause's row does not name stays (R23). A restart that was taken in the same SPINE cycle comes before the cause, which is dropped (R31);
one taken earlier and still in its burst gives way to it (DESIGN CHOICE, log entry 143). -/
def State.enterQuarantine (s : State) (cause : Nat) : State :=
  if s.modeCtl.toQuarantine || !(quarantineFrom cause).contains s.mode ||
      (s.modeCtl.restart && spineCycle s.modeCtl.restartAt == spineCycle s.now) then s
  else if s.sendingLanes = [] then s.quarantineNow cause
  else
    let s1 := if s.modeCtl.arm ≠ none then s.refuseRequest 6 else s
    { s1 with
      modeCtl := { s1.modeCtl with
        toQuarantine := true, restart := false, cause := cause, arm := none, burst := some (currentFrame s1.now + 17) } }

/-! ## Requests (R18, R23, R24, R29-R31) -/

/-- Take a restart: at once, or after the SAFE burst where lanes send; a waiting arm is refused (R29, R30). -/
def State.takeRestart (s : State) : State :=
  let s1 := if s.modeCtl.arm ≠ none then { s with modeCtl := { s.modeCtl with arm := none } }.refuseRequest 6 else s
  if s1.sendingLanes = [] then s1.enterReset 0x03 false
  else
    { s1 with
      modeCtl := { s1.modeCtl with restart := true, restartAt := s1.now, cause := 0x03, burst := some (currentFrame s1.now + 17) } }

/-- A defined request `req`: the state, and whether it was taken. `minimal` = it comes as a RESTART message of the minimal responder,
the only one taken in QUARANTINE (R18, R23). Drains that were stopped leave that state with HW at LP (R85). REQ = 5 in HOLD clears
HOLD_REQUEST in every case (R24). REQ = 5 is taken in INIT from firmware and host alike (DEDUCED, log entry 145). While a restart is in
progress every request is refused (R29); so it is on the way to QUARANTINE (DESIGN CHOICE, log entry 143). -/
def State.request (s : State) (req : Nat) (minimal : Bool) : State × Bool :=
  let no : State × Bool := (s.refuseRequest req, false)
  if s.leaving then ((if req = 5 ∧ s.mode = M.hold then s.clearHold 0 else s).refuseRequest req, false)
  else if req = 5 then
    if s.mode = M.init then ((if s.drainState = 0 then (s.enterArmed 0x20).leaveStopped else s.enterArmed 0x20), true)
    else if s.mode = M.hold then
      let s1 := s.clearHold 0
      if s1.rd R.SYS_HOLD_CAUSES = 0 then (s1.enterArmed 0x24, true) else (s1.refuseRequest 5, false)
    else no
  else if req = 6 then
    if s.mode = M.armed then
      ({ s with modeCtl := { s.modeCtl with arm := some (s.modeCtl.arm.getD (currentFrame s.now + 1)) } }, true)
    else no
  else if req = 8 then
    if s.modeIn [M.armed, M.run, M.runSpared] then (s.raiseHold 0, true) else no
  else if s.modeIn [M.init, M.armed, M.hold, M.service] || (s.mode == M.quarantine && minimal) then (s.takeRestart, true)
  else no

/-- A write of MODE_CTL; true = PARAM, for a code that is not defined or a restart without its key (R8, R18). KEY is looked at for REQ = 15
alone: what the other three requests do with a KEY other than 0 is open, and the model takes them (DESIGN CHOICE, log entry 144). -/
def State.modeCtlWrite (s : State) (v : Word) : State × Bool :=
  let req := bitsOf v 3 0
  if req = 5 ∨ req = 6 ∨ req = 8 ∨ (req = 15 ∧ bitsOf v 15 8 = 0xA5) then ((s.request req false).1, false) else (s, true)

/-! ## The commands -/

/-- ARM_TAKE_EFFECT (R30). At the start of the frame after the arm, RUN or RUN-SPARED. -/
def execArmTakeEffect (f : Nat) (s : State) : Out :=
  match s.modeCtl.arm with
  | some k =>
    if k ≤ f ∧ s.mode = M.armed ∧ s.leaving = false then
      let s1 := s.at_ (startOf f)
      let s2 := s1.changeMode (if s1.rd R.SYS_SPARED = 0 then M.run else M.runSpared) 0x21
      .next { s2 with modeCtl := { s2.modeCtl with arm := none } }
    else .next s
  | none => .next s

/-- SAFE_BURST_END (R29). At the start a 17th frame would have, the transmitters turn off and the device enters QUARANTINE or RESET. -/
def execSafeBurstEnd (s : State) : Out :=
  match s.modeCtl.burst with
  | some f =>
    let s1 := s.at_ (startOf f)
    .next (if s.modeCtl.toQuarantine then s1.quarantineNow s.modeCtl.cause else s1.lanesOff.enterReset s.modeCtl.cause false)
  | none => .next s

/-- RESET_PIN (R557). A low of 1 µs or more is taken, one shorter than 100 ns is not; between them it is open (a free value). -/
def execResetPin (ns : Nat) (s : State) : Out :=
  if 1000 ≤ ns then .next (s.enterReset 0x01 false)
  else if ns < 100 then .next s
  else if s.fresh % 2 = 1 then .next (s.drawn.enterReset 0x01 false)
  else .next s.drawn

/-! ## The exit from RESET (R23, R41, R247, R408, R457, R528-R534, R558, R559) -/

/-- Read the calibration area (R244, R247). -/
def State.loadCal (s : State) : State :=
  let t := s.otpBytes 0x200 512
  let rec_ (i : Nat) : Nat := fieldLE t (8 * i) 8
  if fieldLE (s.otpBytes 0x400 4) 0 4 ≠ (crc32c t).toNat ∨ s.otpBadIn 0x200 520 = true then
    (((List.range 39).foldl (fun u i => u.wr (R.MEAS_FCAL i) 0x80000000#32) s).set F.MEAS_CAL_STAT_CAL_BAD 1).raise 667
  else
    let ok (i : Nat) : Bool := rec_ i / 2 ^ 56 == i
    ((List.range 39).foldl
      (fun u i => u.wr (R.MEAS_FCAL i) (if ok i then BitVec.ofNat 32 (rec_ i / 2 ^ 24 % 2 ^ 32) else 0x80000000#32)) s).set
      F.MEAS_CAL_STAT_MISSING (min 63 ((List.range 64).filter fun i => !ok i).length)

/-- Read the lifecycle, the slots, the fleet key and the device key (R528-R534, R550). -/
def State.loadSec (s : State) : State :=
  let slots := (List.range 4).foldl (fun a k => a + s.slotState k * 4 ^ k) 0
  let flags := (List.range 4).foldl (fun a k => a + s.slotFlags k * 256 ^ k) 0
  let bad := s.keyBadOtp
  let s1 := (((s.set F.SEC_STAT_SLOTS slots).set F.SEC_STAT_FLEET (if s.fleetKey.isSome then 1 else 0)).set F.SEC_STAT_KEY_BAD (if bad then 1 else 0)).set
    F.SEC_STAT_LIFECYCLE s.lifecycleOtp
  let s2 := s1.wr R.SEC_SLOT_FLAGS (BitVec.ofNat 32 flags)
  if bad then s2.raise 894 else s2

/-- The first lock of a PLL that no command has reported: both lock before VERIFY (R453, R457). -/
def State.startLock (s : State) (x : Nat) : State :=
  if s.locked x then s
  else
    match s.nextBand x with
    | none => s.set (F.CLK_PLL_STAT_NO_BAND x) 1
    | some b =>
      (((s.setPll x { s.pll x with used := some b, choose := false, move := none, trying := false, tryAt := none }).set (F.CLK_PLL_STAT_BAND x) b).set
        (F.CLK_PLL_STAT_NO_BAND x) 0).set (F.CLK_PLL_STAT_LOCKED x) 1

/-- The reference: the one REF_DETECT found; where no command has named one, which it is is open (a free value). -/
def State.startRef (s : State) : State :=
  if s.get F.CLK_REF_CFG_SRC = 0 then s.drawn.set F.CLK_REF_CFG_SRC (1 + s.fresh % 3) else s

/-- Leave RESET: wheel time starts at 0 in mode VERIFY, with CAUSE the last cause of RESET; the straps are latched, OTP and the
journal are read (R6, R16, R23, R41, R247, R408, R454, R558). -/
def State.leaveReset (s : State) (chainUp pullUp : Bool) (banks : Nat) : State :=
  let s1 : State := { s with
    now := 0, supply := { s.supply with before := s.supply.before + (s.now - s.supply.since), since := 0 }, irq := [], emn := { head := !chainUp, upstream := chainUp } }
  let s2 := ((s1.standBy 1).loadCal).loadSec
  let s3 := if s2.bit F.CLK_STAT_BANDS_BAD then s2.raise 813 else s2
  let s4 := (((s3.journalScan).set F.GPIO_STRAPS_CHAIN_SRC (if chainUp then 1 else 0)).set F.GPIO_STRAPS_PULLSEL (if pullUp then 1 else 0)).wr
    R.GPIO_BANK_STAT (BitVec.ofNat 32 banks)
  s4.takeHead.changeMode M.verify s4.modeCtl.aonCause

/-- RESET_EXIT (R23). With the rails good the device leaves RESET. It stays there while a PLL finds no band (R457). `banks` gives the
level of each GPIO bank, bank 0 first; `unc` are the OTP words that read uncorrectable (R247, R425). -/
def execResetExit (chainUp pullUp : Bool) (banks : List (Fin 3)) (unc : List (Fin 2048)) (s : State) : Out :=
  if s.mode = M.reset ∧ s.supply.rails = true then
    let s : State := { s with flash := { s.flash with otpUnc := unc.map fun k => k.val } }
    let s1 := (s.startRef.startLock 0).startLock 1
    if s1.locked 0 = true ∧ s1.locked 1 = true then
      .next (s1.leaveReset chainUp pullUp ((banks.take 8).foldr (fun b a => a * 4 + b.val) 0))
    else .next s1
  else .next s

end Sys2Proof.Machine
end

