-- ==== Sys2Proof/Machine/Boot.lean ====
section
/-! DEFINITION. Sys2Proof/Machine/Boot.lean: the start-up passes, fallback, chain streaming and the background verify (R366-R398,
R589). -/
namespace Sys2Proof.Machine

/-! ## Slots and containers (R366-R368, R385) -/

/-- Bytes of a slot (R366). -/
abbrev slotSize : Nat := 0xE00000

/-- Address of slot `k`. -/
def slotBase (k : Nat) : Nat := 0x30000000 + k * slotSize

/-- Whether slot `k` holds a sector marked SUSPECT (R368). -/
def State.slotSuspect (s : State) (k : Nat) : Bool := 
  (List.range 224).any fun i => (s.sector (224 * k + i)).state != Fs.sealed

/-- Whether a directory passes its checks: version, CRC, and every member within the slot (R385). -/
def dirOk (d : List Nat) : Bool :=
  fieldBE d 4 2 == 1 && fieldBE d 12 4 == (crc32c (d.take 12 ++ slice d 16 256)).toNat &&
    (List.range 16).all fun p => decide (fieldBE d (16 + 16 * p) 4 = 0) || decide (fieldBE d (16 + 16 * p) 4 + fieldBE d (20 + 16 * p) 4 ≤ slotSize)

/-- Offset and length of the member for position `p` in a directory. -/
def dirMember (d : List Nat) (p : Nat) : Option (Nat × Nat) :=
  if fieldBE d (16 + 16 * p) 4 = 0 then none else some (fieldBE d (16 + 16 * p) 4, fieldBE d (20 + 16 * p) 4)

/-- The directory of slot `k`; none where the slot holds no container that passes its checks. -/
def State.directory (s : State) (k : Nat) : Option (List Nat) :=
  let d := s.cfBytes (slotBase k) 272
  if s.slotSuspect k = false ∧ fieldBE d 0 4 = 0x43364348 ∧ dirOk d = true then some d else none

/-- The member of slot `k` for position `p` (R385). -/
def State.memberOf (s : State) (k p : Nat) : Option (Nat × Nat) := (s.directory k).bind fun d => dirMember d p

/-- What this device loads from slot `k`: a rejection code, or the offset of an image and the room it may take (R367, R368, R385). A
container without a member for position 0 fails as a directory does. -/
def State.ownImage (s : State) (k : Nat) : Sum Nat (Nat × Nat) :=
  let d := s.cfBytes (slotBase k) 272
  if s.slotSuspect k then .inl 0x15
  else if fieldBE d 0 4 = 0x4336494D then .inr (0, slotSize)
  else if fieldBE d 0 4 ≠ 0x43364348 then .inl 0x11
  else if dirOk d = false then .inl 0x19
  else match dirMember d 0 with
    | some m => .inr m
    | none => .inl 0x19

/-! ## Passes (R378-R383, R391) -/

/-- A start-up pass lasts at most 200 ms (R36). -/
abbrev passCycles : Nat := 80000000

/-- Put the pass. -/
def State.setBoot (s : State) (b : BootPass) : State := { s with cfg := { s.cfg with boot := b } }

/-- Whether the device is in a mode of start-up. -/
def State.booting (s : State) : Bool := s.modeIn [M.verify, M.load, M.fallback]

/-- Send REPORT `code` upstream (R388). -/
def State.report (s : State) (code : Nat) (data : List Nat) : State := if s.emn.upstream then s.emnData 4 0 (code :: data) else s

/-- PASS of the pass in progress. -/
def State.passNumber (s : State) : Nat := if s.mode = M.load ∨ s.cfg.boot.second = true then 2 else 1

/-- Whether the frames of the pass are those of a golden member. -/
def State.passGolden (s : State) : Nat := if s.cfg.boot.golden then 1 else 0

/-- A pass is rejected: FALLBACK from the primary passes, QUARANTINE from FALLBACK (R23, R381, R382, R388, R391, R589). The rejection of a golden
member that was sent in place of a primary one goes through FALLBACK to QUARANTINE (R391, R393). -/
def State.rejectPass (s : State) (code off : Nat) : State :=
  let s1 := s.report 0x12 ([s.passNumber, s.passGolden, code] ++ bytesBE 4 off)
  let s2 := s1.wr R.CFG_REJECT_OFFSET (BitVec.ofNat 32 off)
  if s.mode = M.fallback ∨ s.cfg.boot.golden = true then
    let s3 := if s.mode = M.fallback then s2 else s2.clearImage.changeMode M.fallback 0x11
    let s4 := (s3.set F.CFG_BOOT_GOLDEN_CODE code).report 0x14 [code]
    (s4.setBoot {}).enterQuarantine 0x12
  else
    let s3 := ((s2.set F.CFG_BOOT_PRIMARY_CODE code).clearImage).changeMode M.fallback 0x11
    s3.setBoot { golden := !s.emn.upstream, start := s.now }

/-- Whether a streamed pass has lasted 200 ms: whatever comes then comes late (R37, R391). -/
def State.passLate (s : State) : Bool := decide (s.cfg.boot.start + passCycles ≤ s.now)

/-- The first pass is accepted: VERIFY goes to LOAD, FALLBACK to its second pass (R23, R380). -/
def State.acceptVerify (s : State) (hash : List Nat) : State :=
  let b := s.cfg.boot
  let s1 := s.setBoot { golden := b.golden, second := true, start := s.now, hash := hash, verifyTime := (s.now - b.start) / 4000 }
  let s2 := s1.report 0x11 [1]
  if s.mode = M.verify then s2.changeMode M.load 0x10 else s2

/-- The settings that the minimal responder would use (R277): MAC, address, mask, gateway, VLAN, port. -/
def State.netSettings (s : State) : List Nat :=
  [s.get F.NET_MAC_HI_MAC * 2 ^ 32 + s.rdN R.NET_MAC_LO, s.rdN R.NET_IP_ADDR, s.rdN R.NET_IP_MASK, s.rdN R.NET_IP_GW, s.get F.NET_SW_VLAN_MVID,
    s.get F.IVW_CFG_PORT]

/-- What image fields start by themselves in INIT: domain T, gate control lists, the PWM generators, the clock outputs; the supply trims take effect
(R63, R260, R433, R562). -/
def State.startFields (s : State) : State :=
  let s2 := ([0x21, 0x22, 0x23, 0x24].foldl (fun u i => u.trimCheck i) s.startGcl).pwmSync.clkoutsStart
  if s2.tRuns = false then s2
  else if s2.bit F.WHEEL_T_CFG_START_SYNC then { s2 with tick := { s2.tick with armed := true } }
  else s2.startT s2.now

/-- The end of LOAD: the image is identified, the band table copied where the image says so, and INIT entered; the active chanters and
the drones begin at address 0 (R23, R26, R175, R397, R453, R454). `slot` 3 = UPSTREAM; `base` is the address of the header. -/
def State.finishLoad (s : State) (h : List Nat) (slot base : Nat) : State :=
  let b := s.cfg.boot
  let golden := s.mode = M.fallback
  let s1 := ((s.wr R.CFG_IMAGE_ID_LO (BitVec.ofNat 32 (fieldBE h 20 4))).wr R.CFG_IMAGE_ID_HI (BitVec.ofNat 32 (fieldBE h 16 4))).wr R.CFG_IMAGE_BUILD
    (BitVec.ofNat 32 (fieldBE h 24 4))
  let s2 := (((s1.set F.CFG_BOOT_SOURCE (match slot with | 1 => 0 | 2 => 1 | 0 => 2 | _ => 3)).set F.CFG_BOOT_POS
    (if slot = 3 then s.get F.EMN_POS_POS else 0)).set F.CFG_PASS_TIME_VERIFY b.verifyTime).set F.CFG_PASS_TIME_LOAD ((s.now - b.start) / 4000)
  let s3 := if golden then (s2.set F.CFG_BOOT_GOLDEN 1).set F.SYS_MODE_GOLDEN 1 else s2
  let s4 := if s3.bit F.CLK_BAND_CFG_IMG then
      (List.range 16).foldl (fun u i => u.bandWrite (R.CLK_BAND i) (u.rd (R.CLK_IMG_BAND i))) s3 else s3
  let s5 : State := { s4.setBoot { slot := slot, base := base } with
    lastNet := s4.netSettings, sec := { s4.sec with imageHash := Config.sha384 (slice h 0 384) } }
  let s6 := s5.startFields.changeMode M.init 0x10
  let s7 := (List.range 128 ++ [132, 133, 134, 135]).foldl (fun (u : State) e => u.startEngine e 0 0) s6
  s7.report 0x13 [s.passGolden]

/-- Judge the second pass over `bytes`: HDR_HASH against the accepted one, then as VERIFY does; records before a failure are written
(R380). None = it needs bytes that have not come. -/
def State.judgeLoad (s : State) (bytes : List Nat) (bad : Option Nat) (room : Nat) (pos : Nat → Bool) (chain : Bool) (slot base : Nat) : Option State :=
  let h := bytes.take 480
  if 480 ≤ bytes.length ∧ 480 ≤ bad.getD 480 ∧ Config.sha384 (slice h 0 384) ≠ s.cfg.boot.hash then some (s.rejectPass 0x17 0)
  else
    let r := s.checkImage bytes bad room pos
    match r.2 with
    | .more => none
    | .reject c off => some ((s.writePass chain base r.1).rejectPass c off)
    | .ok => some ((s.writePass chain base r.1).finishLoad h slot base)

/-! ## A device with CHAIN_SRC = LOCAL -/

/-- The slot that a pass of this device reads. -/
def State.passSlot (s : State) : Nat := if s.mode = M.fallback then 0 else s.primarySlot

/-- VERIFY_PASS_DONE (R379). At `t` the first pass ends; `bad` is the offset, from the image's header, of its first uncorrectable code
word. -/
def execVerifyPassDone (t : Nat) (bad : Option Nat) (s : State) : Out :=
  let s := s.at_ t
  if s.emn.upstream = true ∨ s.modeIn [M.verify, M.fallback] = false ∨ s.cfg.boot.second = true ∨ s.cfg.boot.start + passCycles ≤ s.now then .next s
  else
    match s.ownImage s.passSlot with
    | .inl c => .next (s.rejectPass c 0)
    | .inr (o, room) =>
      let bytes := s.cfBytes (slotBase s.passSlot + o) (min room (slotSize - o))
      match (s.checkImage bytes bad room fun p => p == 0).2 with
      | .ok => .next (s.acceptVerify (Config.sha384 (slice bytes 0 384)))
      | .reject c off => .next (s.rejectPass c off)
      | .more => .next (s.rejectPass 0x02 (bytes.length - 480))

/-- LOAD_PASS_DONE (R380). At `t` the second pass ends. -/
def execLoadPassDone (t : Nat) (bad : Option Nat) (s : State) : Out :=
  let s := s.at_ t
  if s.emn.upstream = true ∨ s.modeIn [M.load, M.fallback] = false ∨ s.cfg.boot.second = false ∨ s.cfg.boot.start + passCycles ≤ s.now then .next s
  else
    match s.ownImage s.passSlot with
    | .inl c => .next (s.rejectPass c 0)
    | .inr (o, room) =>
      let bytes := s.cfBytes (slotBase s.passSlot + o) (min room (slotSize - o))
      .next ((s.judgeLoad bytes bad room (fun p => p == 0) false s.passSlot (slotBase s.passSlot + o)).getD (s.rejectPass 0x02 (bytes.length - 480)))

/-- PASS_TIMEOUT (R36, R381, R391). A pass has lasted 200 ms; `read` bytes of the stream had been read. -/
def execPassTimeout (t : Nat) (read : Nat) (s : State) : Out :=
  let s := s.at_ t
  let b := s.cfg.boot
  if s.booting = true ∧ b.start + passCycles ≤ s.now ∧ (s.emn.upstream = false ∨ b.open_ = true) then
    .next (s.rejectPass 0x16 (if s.emn.upstream then b.bytes.length - 480 else read))
  else .next s

/-! ## A device with CHAIN_SRC = UPSTREAM (R386-R391) -/

/-- The oldest frame to be consumed, when it is a CFG frame with OP `op`. -/
def State.cfgTake (s : State) (op : Nat) : Option (State × EmnIn) :=
  match s.inboxTake 1 with
  | some (s1, f) => if f.payload.headD 0 = op then some (s1, f) else none
  | none => none

/-- READY_REPORT_SEND (R386). Every 10 ms while the device waits for a BEGIN. -/
def execReadyReportSend (t : Nat) (s : State) : Out :=
  let s := s.at_ t
  let b := s.cfg.boot
  if s.emn.upstream = true ∧ s.bit F.EMN_POS_VALID = true ∧ s.modeIn [M.verify, M.fallback] = true ∧ b.open_ = false ∧ b.second = false ∧
      (s.cfg.readyAt = 0 ∨ s.cfg.readyAt + 10000 * usCycles ≤ s.now) then
    .next ({ s with cfg := { s.cfg with readyAt := s.now } }.report 0x10 [if s.mode = M.fallback then 1 else 0])
  else .next s

/-- CFG_BEGIN (R386, R387, R391). Pass 1 opens in VERIFY or FALLBACK, pass 2 in LOAD or in the second pass of FALLBACK; FALLBACK takes
golden passes only. -/
def execCfgBegin (t : Nat) (s : State) : Out :=
  match (s.at_ t).cfgTake 1 with
  | none => .next s
  | some (s, f) =>
    let p := fieldBE f.payload 1 1
    let b := s.cfg.boot
    if s.emn.upstream = true ∧ s.booting = true ∧ p % 4 = (if b.second then 2 else 1) ∧ (s.mode = M.fallback → 128 ≤ p) then
      .next (s.setBoot { b with golden := decide (128 ≤ p), open_ := true, start := s.now, length := fieldBE f.payload 8 4, bytes := [] })
    else .next s

/-- The member position check of a streamed pass. -/
def State.ownPos (s : State) (p : Nat) : Bool := p == s.get F.EMN_POS_POS

/-- Judge a streamed pass on the bytes so far: a failure ends it at once; it is accepted only at END. -/
def State.judgeStream (s : State) (atEnd : Bool) : State :=
  let b := s.cfg.boot
  let short := s.rejectPass 0x02 (b.bytes.length - 480)
  if atEnd = true ∧ b.bytes.length < b.length then short
  else if b.second then
    match s.judgeLoad b.bytes none b.length s.ownPos true 3 0 with
    | some s1 => if s1.mode ≠ M.init ∨ atEnd = true then s1 else s
    | none => if atEnd then short else s
  else
    match (s.checkImage b.bytes none b.length s.ownPos).2 with
    | .reject c off => s.rejectPass c off
    | .ok => if atEnd then s.acceptVerify (Config.sha384 (slice b.bytes 0 384)) else s
    | .more => if atEnd then short else s

/-- CFG_DATA (R387, R388). Consecutive bytes join the pass; a gap ends it with SHORT_STREAM. -/
def execCfgData (t : Nat) (s : State) : Out :=
  match (s.at_ t).cfgTake 2 with
  | none => .next s
  | some (s, f) =>
    let b := s.cfg.boot
    if b.open_ = false ∨ s.booting = false then .next s
    else if s.passLate then .next (s.rejectPass 0x16 (b.bytes.length - 480))
    else if fieldBE f.payload 4 4 ≠ b.bytes.length then .next (s.rejectPass 0x02 (b.bytes.length - 480))
    else .next ((s.setBoot { b with bytes := (b.bytes ++ f.payload.drop 8).take b.length }).judgeStream false)

/-- CFG_END (R387, R388, R391). The pass is judged. -/
def execCfgEnd (t : Nat) (s : State) : Out :=
  match (s.at_ t).cfgTake 3 with
  | none => .next s
  | some (s, _) =>
    if s.cfg.boot.open_ = false ∨ s.booting = false then .next s
    else if s.passLate then .next (s.rejectPass 0x16 (s.cfg.boot.bytes.length - 480))
    else .next (s.judgeStream true)

/-- CFG_ABORT (R390). -/
def execCfgAbort (t : Nat) (s : State) : Out :=
  match (s.at_ t).cfgTake 4 with
  | none => .next s
  | some (s, _) =>
    if s.cfg.boot.open_ = true ∧ s.booting = true then
      .next (s.rejectPass (if s.passLate then 0x16 else 0x0F) (s.cfg.boot.bytes.length - 480))
    else .next s

/-- CFG_REPAIR_DATA (R392). Repair bytes reach the device that asked. -/
def execCfgRepairData (t : Nat) (s : State) : Out :=
  match (s.at_ t).cfgTake 6 with
  | none => .next s
  | some (s, f) =>
    if s.cfg.asked.isSome then .next { s with cfg := { s.cfg with answer := s.cfg.answer ++ f.payload.drop 8 } } else .next s

/-! ## The head (R389-R393) -/

/-- Put the streaming. -/
def State.setChain (s : State) (c : ChainStream) : State := { s with cfg := { s.cfg with chain := c } }

/-- MASK as bits. -/
def maskBits (l : List Nat) : Nat := l.foldl (fun a p => a + 2 ^ p) 0

/-- The slot whose container serves the chain: the golden one when the head came up through FALLBACK (R389, R393). -/
def State.chainSlot (s : State) : Nat := if s.bit F.SYS_MODE_GOLDEN then 0 else s.cfg.boot.slot

/-- A position becomes FAILED or NO_MEMBER (R393, R398). -/
def State.chainFail (s : State) (p result : Nat) : State := (s.set (F.CFG_CHAIN_POS_RESULT p) result).raise 829

/-- The bytes `n` of a member from `o`. -/
def State.memberBytes (s : State) (o n : Nat) : List Nat := s.cfBytes (slotBase s.cfg.chain.slot + s.cfg.chain.off + o) n

/-- Begin a pass: BEGIN goes out (R387, R389, R397). -/
def State.beginPass (s : State) (slot : Nat) (m : Nat × Nat) (golden second : Bool) (dst : Nat) (mask : List Nat) : State :=
  let c := s.cfg.chain
  let s1 := s.setChain { c with
    active := true, golden := golden, second := second, slot := slot, off := m.1, len := m.2, dst := dst, next := some 0, mask := mask, passed := [],
    ended := none, served := if c.served.contains slot then c.served else slot :: c.served }
  let code := (if golden then 8 else 0) + (if second then 2 else 1)
  let s2 := ((s1.set F.CFG_CHAIN_STAT_ACTIVE 1).set F.CFG_CHAIN_STAT_CUR_PASS code).set F.CFG_CHAIN_STAT_MASK (maskBits mask)
  let s3 := s2.set F.CFG_CHAIN_STAT_GOLDEN (if slot = 0 then 1 else 0)
  let s4 := mask.foldl (fun u p => u.set (F.CFG_CHAIN_POS_STREAMS p) (u.get (F.CFG_CHAIN_POS_STREAMS p) + 1)) s3
  s4.emnData 1 dst ([1, (if golden then 128 else 0) + (if second then 2 else 1)] ++ bytesBE 2 (if dst = 0xFF then maskBits mask else 0) ++ bytesBE 4 0 ++
    bytesBE 4 m.2)

/-- Serve position `p` alone from the golden container (R389, R393); without a member there it fails. -/
def State.serveGolden (s : State) (p : Nat) : State :=
  match s.memberOf 0 p with
  | some m => s.beginPass 0 m true false p [p]
  | none => s.chainFail p (if s.get (F.CFG_CHAIN_POS_RESULT p) = 3 then 6 else 5)

/-- The lowest position that names a member. -/
def lowestNaming (d : List Nat) (m : Nat × Nat) : Nat := ((List.range 16).find? fun p => dirMember d p == some m).getD 16

/-- Serve from the positions that sent READY (R389, R393): in the first round members in the order of their lowest position, each to
all its positions at once; later one position at a time. -/
def State.serveReady (s : State) : State :=
  let c := s.cfg.chain
  let slot := s.chainSlot
  let d := (s.directory slot).getD (zeros 272)
  let rank := fun (r : Nat × Bool) => if r.2 then 17 else match dirMember d r.1 with | some m => lowestNaming d m | none => r.1
  let least := c.ready.foldl (fun a r => min a (rank r)) 18
  match (if c.later then c.ready.head? else c.ready.find? fun r => rank r == least) with
  | none => s
  | some (p, golden) =>
    match (if golden then none else dirMember d p) with
    | some m =>
      let to_ := if c.later then [p] else (c.ready.filter fun r => !r.2 && dirMember d r.1 == some m).map fun r => r.1
      (s.setChain { c with ready := c.ready.filter fun r => !to_.contains r.1 }).beginPass slot m (slot == 0) false 0xFF to_
    | none =>
      let s1 := s.setChain { c with ready := c.ready.filter fun r => r.1 != p }
      (if golden then s1 else s1.set (F.CFG_CHAIN_POS_RESULT p) 3).serveGolden p

/-- Whether nothing is left to serve. -/
def State.chainIdle (s : State) : Bool := s.cfg.chain.ready == [] && s.cfg.chain.retry == [] && (s.cfg.chain.passed == [] || s.cfg.chain.second)

/-- The pass ends when no position of it is left: CHAIN_DONE once every position that sent READY is served (R389, R398). -/
def State.endPass (s : State) : State :=
  let c := s.cfg.chain
  if c.active = true ∧ c.mask = [] then
    let s1 := (s.setChain { c with active := false, next := none, ended := none }).set F.CFG_CHAIN_STAT_ACTIVE 0
    if s1.chainIdle then (s1.setChain { s1.cfg.chain with later := true }).raise 828 else s1
  else s

/-- Take position `p` out of the pass. -/
def State.dropPos (s : State) (p : Nat) : State :=
  let m := s.cfg.chain.mask.filter fun q => q != p
  (s.setChain { s.cfg.chain with mask := m }).set F.CFG_CHAIN_STAT_MASK (maskBits m)

/-- A position failed in a pass: from a primary pass it is served from the golden container next (R389, R393). -/
def State.passFailed (s : State) (p : Nat) : State :=
  let s1 := s.dropPos p
  (if s.cfg.chain.golden then s1.chainFail p 5 else s1.setChain { s1.cfg.chain with retry := s1.cfg.chain.retry ++ [p] }).endPass

/-- Abort position `p` of the pass (R390). -/
def State.abortPos (s : State) (p : Nat) : State :=
  (((s.emnData 1 p [4, 0, 0, 0, 0, 0, 0, 0])).set (F.CFG_CHAIN_POS_RESULT p) 4).passFailed p

/-- CHAIN_PASS_SEND (R389). The head sends the next frame of the pass in progress, or begins the next pass. -/
def execChainPassSend (t : Nat) (s : State) : Out :=
  let s := s.at_ t
  let c := s.cfg.chain
  if s.emn.head = false ∨ s.alive = false then .next s
  else if c.active then
    match c.next with
    | none => .next s
    | some o =>
      let head := [(if c.golden then 128 else 0) + (if c.second then 2 else 1)]
      if o < c.len then
        let s1 := s.flashTouch
        let n := min 1016 (c.len - o)
        let s2 := s1.setChain { s1.cfg.chain with next := some (o + n) }
        .next (s2.emnData 1 c.dst ([2] ++ head ++ bytesBE 2 (if c.dst = 0xFF then maskBits c.mask else 0) ++ bytesBE 4 o ++ s1.memberBytes o n))
      else
        .next ((s.setChain { c with next := none, ended := some s.now }).emnData 1 c.dst ([3] ++ head ++ [0, 0] ++ bytesBE 4 o))
  else if c.passed ≠ [] ∧ c.second = false then .next (s.beginPass c.slot (c.off, c.len) c.golden true c.dst c.passed)
  else
    match c.retry with
    | p :: r => .next ((s.setChain { c with retry := r }).serveGolden p)
    | [] => if s.bit F.CFG_CHAIN_CTL_HOLD then .next s else .next s.serveReady

/-- CHAIN_ACK_STALL (R390). No ACK on DN for 10 ms with frames outstanding: every position of the pass is aborted. -/
def execChainAckStall (t : Nat) (s : State) : Out :=
  let s := s.at_ t
  if s.emn.head = true ∧ s.cfg.chain.active = true ∧ (s.emnPort 1).window ≠ [] ∧ (s.emnPort 1).ackAt + 10000 * usCycles ≤ s.now then
    .next (s.cfg.chain.mask.foldl (fun u p => u.abortPos p) s)
  else .next s

/-- CHAIN_REPORT_TIMEOUT (R390). The report of position `p` is missing 10 ms after END. -/
def execChainReportTimeout (p : Fin 16) (t : Nat) (s : State) : Out :=
  let s := s.at_ t
  match s.cfg.chain.ended with
  | some e => if s.cfg.chain.mask.contains p.val = true ∧ e + 10000 * usCycles ≤ s.now then .next (s.abortPos p.val) else .next s
  | none => .next s

/-- A load result reaches the head (R388, R389, R397, R398). -/
def State.loadReport (s : State) (p code : Nat) (data : List Nat) : State :=
  let c := s.cfg.chain
  let in_ := c.active && c.mask.contains p
  let s := s.set (F.CFG_CHAIN_POS_CODE p) code
  match code with
  | 0x10 =>
    if in_ || c.passed.contains p || c.retry.contains p || (c.ready.any fun r => r.1 == p) then s
    else (s.set (F.CFG_CHAIN_POS_RESULT p) 7).setChain { c with ready := c.ready ++ [(p, data.headD 0 % 2 == 1)] }
  | 0x11 => if in_ && !c.second then ((s.dropPos p).setChain { (s.dropPos p).cfg.chain with passed := c.passed ++ [p] }).endPass else s
  | 0x12 => if in_ then s.passFailed p else s
  | 0x13 =>
    let s1 := if s.get (F.CFG_CHAIN_POS_RESULT p) = 3 then s else s.set (F.CFG_CHAIN_POS_RESULT p) (if data.headD 0 = 1 then 2 else 1)
    let s2 := s1.raise 827
    if in_ then (s2.dropPos p).endPass else s2
  | 0x14 =>
    let s1 := s.raise 827
    let s2 := if s1.get (F.CFG_CHAIN_POS_RESULT p) = 5 then s1 else s1.chainFail p 5
    if in_ then (s2.dropPos p).endPass else s2
  | _ => s

/-- EMN_REPORT_RX (R284, R388). The head takes a REPORT: the chain length, a chain that is too long, or a load result. -/
def execEmnReportRx (s : State) : Out :=
  match s.inboxTake 4 with
  | none => .next s
  | some (s, f) =>
    if s.emn.head = false then .next s
    else
      let s1 := s.raise 774
      let code := f.payload.headD 0
      if code = 1 then .next (s1.set F.EMN_POS_LEN (fieldBE f.payload 1 1 + 1))
      else if code = 2 then .next (s1.set F.EMN_STAT_CHAIN_LONG 1)
      else if s1.alive = true ∧ f.src < 16 then .next (s1.loadReport f.src code (f.payload.drop 1))
      else .next s1

/-- CFG_REPAIR_REQ (R392). From INIT on the head reads the bytes from the slot that supplied the member of the position that asks, and
answers in frames of at most 1,016 bytes. -/
def execCfgRepairReq (t : Nat) (s : State) : Out :=
  match (s.at_ t).cfgTake 5 with
  | none => .next s
  | some (s, f) =>
    let o := fieldBE f.payload 4 4
    let n := fieldBE f.payload 8 2
    let result := s.get (F.CFG_CHAIN_POS_RESULT f.src)
    let slot := if result = 1 then s.chainSlot else 0
    if s.emn.head = false ∨ s.alive = false ∨ (result ≠ 1 ∧ result ≠ 2 ∧ result ≠ 3) ∨ n < 16 ∨ 8192 < n then .next s
    else
      match s.memberOf slot f.src with
      | none => .next s
      | some (m, _) =>
        let s1 := s.flashTouch
        .next ((List.range ((n + 1015) / 1016)).foldl
          (fun u i =>
            u.emnData 1 f.src ([6, 0, 0, 0] ++ bytesBE 4 (o + 1016 * i) ++ s1.cfBytes (slotBase slot + m + o + 1016 * i) (min 1016 (n - 1016 * i)))) s1)

/-! ## The background verify (R394, R395) -/

/-- A write of UPD_CTL (R394, R395). GO reads 1 until its verify ends. -/
def State.updCtlWrite (s : State) (v : Word) (jfails : Nat) : State :=
  let s1 :=
    if v.getLsbD 31 ∧ s.get F.CFG_UPD_STAT_STATE ≠ 1 then
      (((s.set F.CFG_UPD_CTL_GO 1).set F.CFG_UPD_STAT_STATE 1).set F.CFG_UPD_STAT_STALE 0).set F.CFG_UPD_STAT_CODE 0
    else s
  if v.getLsbD 30 then s1.promote jfails else s1

/-- The rejection of an image at offset `o` of the staging slot as code and UPD_OFFSET (R589). -/
def updReject (o c off : Nat) (atHeader : Bool) : Option (Nat × Nat) :=
  some (c, if atHeader ∨ [0x11, 0x01, 0x18, 0x12, 0x03, 0x15].contains c then o else o + 480 + off)

/-- Check the image at offset `o` of slot `k` with `room` bytes: none = it passes. -/
def State.updImage (s : State) (k o room : Nat) (bad : Option Nat) (pos : Nat → Bool) (sealed_ : Bool) : Option (Nat × Nat) :=
  let bytes := s.cfBytes (slotBase k + o) (min room (slotSize - o))
  let b := bad.bind fun x => if o ≤ x then some (x - o) else none
  let locked := (s.unwrap (bytes.take 480)).isNone
  let v := if sealed_ && locked then s.checkSealed bytes b room pos else (s.checkImage bytes b room pos).2
  match v with
  | .ok => none
  | .reject c off => updReject o c off ((c == 0x07 && locked) || (c == 0x0E && decide (b.getD 480 < 480)))
  | .more => updReject o 0x02 (bytes.length - 480) false

/-- Check the staging slot: a plain image in full; of a container the directory and every member (R394). -/
def State.updCheck (s : State) (k : Nat) (bad : Option Nat) : Option (Nat × Nat) :=
  let d := s.cfBytes (slotBase k) 272
  if s.slotSuspect k then some (0x15, 0)
  else if fieldBE d 0 4 = 0x4336494D then s.updImage k 0 slotSize bad (fun p => p == s.get F.EMN_POS_POS) false
  else if fieldBE d 0 4 ≠ 0x43364348 then some (0x11, 0)
  else if dirOk d = false then some (0x19, 0)
  else
    ((List.range 16).filterMap fun p => dirMember d p).eraseDups.findSome? fun m =>
      s.updImage k m.1 m.2 bad (fun p => dirMember d p == some m) true

/-- UPD_DONE (R394). The background verify ends VERIFIED or REJECTED; `bad` is the offset in the slot of its first uncorrectable code
word. -/
def execUpdDone (t : Nat) (bad : Option Nat) (s : State) : Out :=
  let s := s.at_ t
  if s.get F.CFG_UPD_STAT_STATE ≠ 1 then .next s
  else
    let s1 := s.set F.CFG_UPD_CTL_GO 0
    match s1.updCheck s1.stagingSlot bad with
    | none => .next (((s1.set F.CFG_UPD_STAT_STATE 2).wr R.CFG_UPD_OFFSET 0).raise 825)
    | some (c, o) =>
      .next ((((s1.set F.CFG_UPD_STAT_STATE 3).set F.CFG_UPD_STAT_CODE c).wr R.CFG_UPD_OFFSET (BitVec.ofNat 32 o)).raise 825)

end Sys2Proof.Machine
end

