-- ==== Sys2Proof/Machine/Power.lean ====
section
/-! DEFINITION. Sys2Proof/Machine/Power.lean: the supply, its comparators, rails and phases (R432-R437); requests, entries and wakes of
power domains (R438-R446). -/
namespace Sys2Proof.Machine

/-! ## Requests (R440, R441, R446) -/

/-- Whether domain `d` accepts request `req`: 0 ON, 1 RETENTION, 2 OFF (R438). -/
def domAccepts (d req : Nat) : Bool :=
  match req with
  | 0 => true
  | 1 => d != 21 && d != 22
  | 2 => [2, 3, 4, 5, 11, 12, 13, 14, 15, 16, 17, 18, 20, 21, 22].contains d
  | _ => false

/-- The first lane of LNg or CGg with EN = 1 or in BURST (R217, R441). -/
def State.busyLane (s : State) (g : Nat) : Option Nat :=
  (List.range 64).findSome? fun i =>
    let l := 64 * g + i
    if s.bit (F.LANE_CFG_EN l) || s.laneState l == L.burst then some l else none

/-- The tracts of the stream at the partial load port: of the region once it is checked, of the header once its 480 bytes are in. -/
def State.prTracts (s : State) : List Nat :=
  if s.cfg.pr.region ≠ [] then s.cfg.pr.region
  else if 480 ≤ s.cfg.pr.bytes.length then headerRegion s.cfg.pr.bytes else []

/-- The first unit that keeps domain `d` on, as CLASS and INDEX (R441). -/
def State.refuser (s : State) (d : Nat) : Option (Nat × Nat) :=
  if d = 1 then
    if s.flash.ops ≠ [] ∨ s.flash.after ≠ none ∨ s.flash.pfOp ≠ none then some (5, 0)
    else if s.get F.CFG_UPD_STAT_STATE = 1 then some (6, 0)
    else none
  else if 2 ≤ d ∧ d ≤ 5 then
    if (s.prBusy && s.prTracts.any fun t => tractQuad t == d - 2) || s.cfg.restoring != [] then some (6, d - 2) else none
  else if 6 ≤ d ∧ d ≤ 9 then
    match s.busyLane (d - 6) with
    | some l => some (1, l)
    | none =>
      match (List.range 64).find? fun i => s.laneDom (64 * (d - 6) + i) != 0 with
      | some i => some (4, 64 * (d - 6) + i)
      | none => s.bist.slice.bind fun x => if x.kind = 1 ∧ unitDomain 1 x.unit = d then some (10, x.unit) else none
  else if d = 10 then ([0, 1, 2, 3].find? fun k => (s.engine (132 + k)).wait != .irq).map fun k => (3, k)
  else if d = 11 ∨ d = 12 then if s.drainState ≠ 0 then some (4, 0) else none
  else if d = 13 then ([0, 1, 2, 3].find? fun g => s.pwrState (6 + g) != P.off && s.pwrState (6 + g) != P.retention).map fun g => (2, g)
  else if 14 ≤ d ∧ d ≤ 17 then (s.busyLane (d - 14)).map fun l => (1, l)
  else if d = 18 then
    if s.get F.IVW_OPEN_COUNT ≠ 0 then some (7, 0) else if s.bit F.EMN_POS_VALID then some (8, 0) else none
  else if d = 19 then
    if s.prBusy then some (6, 0)
    else if s.get F.IVW_OPEN_COUNT ≠ 0 ∨ s.ivw.opens ≠ [] ∨ s.ivw.confirms ≠ [] ∨ ((List.range 256).any fun x => (s.session x).waiting) = true then some (7, 0)
    else none
  else if d = 21 ∨ d = 22 then if s.supplyPll = d - 21 ∨ s.standsBy (d - 21) = true then some (9, 0) else none
  else none

/-- Refuse a request (R441). -/
def State.refuseDomain (s : State) (d cls idx : Nat) : State :=
  ((((s.count (R.PWR_D_REFUSED d)).set (F.PWR_D_REFUSER_CLASS d) cls).set (F.PWR_D_REFUSER_INDEX d) idx).set (F.PWR_D_STAT_REFUSED d) 1).raise 782

/-- The memory slice that holds a region of domain `d`. -/
def State.sliceIn (s : State) (d : Nat) : Option Slice :=
  s.bist.slice.bind fun x => if 3 ≤ x.kind ∧ x.kind ≤ 5 ∧ unitDomain x.kind x.unit = d then some x else none

/-- Domain `d` leaves ON: a scrub pass over its memory stops (R505). -/
def State.scrubLeave (s : State) (d : Nat) : State :=
  let a := s.rdN R.ECC_SCRUB_START
  if s.get F.ECC_SCRUB_STAT_STATE = 1 ∧ ((List.range ((s.rdN R.ECC_SCRUB_END - a) / 8)).any fun i => addrDomain (a + 8 * i) == some d) = true then
    { s with scrub := { s.scrub with left := true } }
  else s

/-- Act on a request of a state that domain `d` accepts (R440, R441, R446, R523). A request that comes during ENTERING or WAKING, or
while a memory slice of the domain is still to be restored, is held. -/
def State.domRequest (s : State) (d req : Nat) : State :=
  let x := s.pwrDom d
  let st := s.pwrState d
  if st = P.entering ∨ st = P.waking ∨ x.retry = true then s.setPwrDom d { x with held := some req }
  else if req = 0 then
    let s1 := s.setPwrDom d { x with held := none }
    if st = P.on then s1 else s1.wakeDomain d
  else if (req = 1 ∧ st = P.retention) ∨ (req = 2 ∧ st = P.off) then s
  else
    match s.sliceIn d with
    | some y =>
      let s1 := s.setPwrDom d { x with held := some req }
      if y.result = none then s1.drawn.sealRestore y B.incomplete 3 (Config.freeValue s1.free) else s1
    | none =>
      let s1 := s.setPwrDom d { x with held := none }
      if req = 1 ∧ st = P.off then s1.refuseDomain d 0xB 0
      else
        match s1.refuser d with
        | some (c, i) => s1.refuseDomain d c i
        | none =>
          let s2 := ((s1.setPwrDom d { x with target := req, reqAt := s.now, wakeNext := false, held := none }).scrubLeave d).setPwrState d P.entering
          if d = 20 then s2.adcStop false else s2

/-- What was held while the state of domain `d` was not settled: a wake event first, then a request (R446). -/
def State.settle (s : State) (d : Nat) : State :=
  let x := s.pwrDom d
  if x.wakeNext then (s.setPwrDom d { x with wakeNext := false }).wakeDomain d
  else
    match x.held with
    | some r => (s.setPwrDom d { x with held := none }).domRequest d r
    | none => s

/-! ## Entry (R442) -/

/-- Keep the entries of a sparse list whose key is outside [lo, hi). -/
def State.dropMem (s : State) (lo hi : Nat) : State := { s with mem := Sparse.clear (lo / 8) (hi / 8) s.mem }

/-- What domain `d` loses as it goes OFF: its registers, its memories and what its units hold (R318, R439, R443, R502). -/
def State.loseDomain (s : State) (d : Nat) : State :=
  let s0 : State := { s with regs := s.regs.filter fun e => addrDomain e.1 != some d }
  if 2 ≤ d ∧ d ≤ 5 then
    let q := d - 2
    let inQ (c : Nat) : Bool := tractQuad (c / 256) == q
    let s1 : State := { s0 with
      mem := s0.mem.filter fun e => addrDomain (8 * e.1) != some d
      fab := { s0.fab with
        cfg := s0.fab.cfg.filter fun e => !inQ e.1
        cells := s0.fab.cells.filter fun e => !inQ e.1
        latch := s0.fab.latch.filter fun e => !inQ (e.1 / 8)
        free := s0.fab.free.filter fun e => tractQuad e.1 != q }
      cfg := { s0.cfg with held := s0.cfg.held.filter fun k => k != q } }
    s1.queueDrop fun f => tractQuad (f / 16) == q
  else if d = 11 then
    let s1 := (s0.dropMem 0x20000000 0x21000000).set F.WHEEL_STAT_READY 0
    { s1 with wheel := { s1.wheel with inited := false } }
  else if d = 12 then
    let s1 := (s0.dropMem 0x21000000 0x22000000).set F.WHEEL_STAT_READY 0
    { s1 with wheel := { s1.wheel with inited1 := false } }
  else if d = 13 then s0.dropMem 0x22000000 0x220C0000
  else if 14 ≤ d ∧ d ≤ 17 then { s0 with lanes := Sparse.clear (64 * (d - 14)) (64 * (d - 14) + 64) s0.lanes }
  else if d = 18 then
    { s0 with
      net := {}, ptp := { ref := s0.now }, sessions := [], ivw := {}, emnPorts := []
      emn := { head := s0.emn.head, upstream := s0.emn.upstream } }
  else if d = 20 then { s0 with adcs := [] }
  else if d = 21 ∨ d = 22 then
    let x := d - 21
    let s1 := ((s0.set (F.CLK_PLL_STAT_LOCKED x) 0).set (F.CLK_PLL_STAT_STANDING_BY x) 0)
    if s.locked x then
      let s2 := s1.raise (808 + x)
      if s2.locked (1 - x) then s2 else s2.clockLost
    else s1
  else s0

/-- DOMAIN_ENTRY_DONE (R442, R446). The last step is acknowledged, each of the three within its 50 µs: the domain is in RETENTION or OFF. -/
def execDomainEntryDone (d : Fin 23) (t : Nat) (s : State) : Out :=
  let s0 := s.at_ t
  let n := d.val
  if n = 0 ∨ s0.pwrState n ≠ P.entering ∨ (s0.pwrDom n).reqAt + 60000 ≤ s0.now then .next s0
  else
    let off := (s0.pwrDom n).target == 2
    let s2 := if off then s0.loseDomain n else s0
    let s3 := ((s2.setPwrState n (if off then P.off else P.retention)).wrap (R.PWR_D_ENTRIES n) 1).raise 780
    .next ((s3.setPwrDom n { s3.pwrDom n with doneAt := s3.now }).settle n)

/-- DOMAIN_ENTRY_ABORT (R442, R446). Step 1 clocks, 2 isolation, 3 retention voltage or 4 power switch is not acknowledged within 50 µs:
the domain is ON again. -/
def execDomainEntryAbort (d : Fin 23) (step : Fin 5) (t : Nat) (s : State) : Out :=
  let s0 := s.at_ t
  let n := d.val
  let last := if (s0.pwrDom n).target = 2 then 4 else 3
  if n = 0 ∨ s0.pwrState n ≠ P.entering ∨ s0.now < (s0.pwrDom n).reqAt + 20000 ∨ (step.val ≠ 1 ∧ step.val ≠ 2 ∧ step.val ≠ last) then .next s0
  else
    let s1 := ((((if n = 20 then (s0.setPwrState n P.on).adcResume else s0.setPwrState n P.on)).count (R.PWR_D_ABORTED n)).set (F.PWR_D_REFUSER_CLASS n) 0xB).set (F.PWR_D_REFUSER_INDEX n) step.val
    let s2 := (s1.set (F.PWR_D_STAT_ABORTED n) 1).raise 783
    .next ((s2.setPwrDom n { s2.pwrDom n with wakeNext := false }).settle n)

/-- DOMAIN_WAKE (R443, R444, R446). A wake event of the domain; DRN has one only while a drone in WAITI may take a pending source (R478). -/
def execDomainWake (d : Fin 23) (t : Nat) (s : State) : Out :=
  let s0 := s.at_ t
  .next (if d.val = 10 ∧ s0.drnWakes = false then s0 else s0.wakeDomain d.val)

/-! ## The end of a wake (R443-R446) -/

/-- Domain `d` is ON after a wake. From OFF its image fields come from the configuration shadow and a quadrant's restore begins; a
quadrant from RETENTION is scanned first; the drones' watchdogs go on from where the retention stopped them (R481); converters start again (R224, R356, R360, R443). -/
def State.domainUp (s : State) (d : Nat) : State :=
  let x := s.pwrDom d
  let off := x.prior == P.off
  let s1 := (s.setPwrState d P.on).setPwrDom d { x with attempts := 0, retry := false, failed := false }
  let s2 := if off then (s1.shadow.filter fun e => addrDomain e.1 == some d).foldl (fun t e => t.wr e.1 (regReset e.1 ||| e.2)) s1 else s1
  let s3 :=
    if 2 ≤ d ∧ d ≤ 5 then
      if off then { s2 with cfg := { s2.cfg with restoring := (d - 2) :: s2.cfg.restoring } }
      else { s2 with cfg := { s2.cfg with scanFirst := s2.cfg.scanFirst ++ (List.range 4096).filter fun n => tractQuad (n / 16) == d - 2 } }
    else if d = 18 then if off then s2.startGcl.takeHead else s2
    else if d = 10 then
      [0, 1, 2, 3].foldl (fun t k => t.setDrone k { t.drone k with wdRef := t.now - (x.doneAt - (t.drone k).wdRef) }) s2
    else if d = 20 then if s2.adcClock then s2.adcResume else s2
    else s2
  let s4 := if ((List.range 23).any fun k => (s3.pwrDom k).failed) || !x.failed then s3 else s3.clearHold 1
  s4.raise 781

/-- A wake attempt of domain `d` fails with `cause`: it is tried again, or the failure is reported (R444, R445). -/
def State.wakeFailed (s : State) (d cause : Nat) : State :=
  let x := s.pwrDom d
  let s1 := s.setPwrState d x.prior
  if x.attempts < s.get (F.PWR_D_CTL_RETRIES d) then s1.setPwrDom d { x with attempts := x.attempts + 1, retry := true, failAt := s.now }
  else
    let need := s.bitAt R.PWR_RUN_NEED d
    let s2 := (s1.setPwrDom d { x with attempts := 0, retry := false, failed := x.failed || need }).count (R.PWR_D_WAKE_FAIL d)
    let s3 := ((s2.set (F.PWR_D_STAT_FAIL_CAUSE d) cause).set (F.PWR_D_STAT_WAKE_FAIL d) 1).raise 784
    (if need then s3.raiseHold 1 else s3).settle d

/-- WAKE_RETRY (R445). 10 µs after a failed attempt the wake is tried again. -/
def execWakeRetry (d : Fin 23) (t : Nat) (s : State) : Out :=
  let s0 := s.at_ t
  let x := s0.pwrDom d.val
  if x.retry = true ∧ x.failAt + 4000 ≤ s0.now then .next ((s0.setPwrDom d.val { x with retry := false, wakeAt := s0.now }).setPwrState d.val P.waking) else .next s0

/-! ## The supply (R432-R436) -/

def State.setSupply (s : State) (x : Supply) : State := { s with supply := x }

/-- 100 ms (R435). -/
abbrev retryCycles : Nat := 40000000

/-- Record a supply fault (R436, R449). -/
def State.railRecord (s : State) (kind rail : Nat) : State := (s.set F.PWR_RAIL_FAULT_KIND kind).set F.PWR_RAIL_FAULT_RAIL rail

/-- Start the rails where every comparator and the count of failed attempts allow it: all six phases come up afresh (R432, R434, R435). -/
def State.startRails (s : State) : State :=
  let p := s.supply
  if p.rails = true ∨ p.starting = true ∨ p.uvlo = true ∨ p.overvolt = true ∨ p.hot = true ∨ 3 ≤ p.fails then s
  else
    let s1 := s.setSupply { p with starting := true, retryAt := none, testing := 0, since := s.now, before := 0 }
    ((s1.set F.PWR_PHASE_STAT_LOST 0).set F.SYS_SPARED_VPHASE 0).set F.SYS_HOLD_CAUSES_VCORE_CAPACITY 0

/-- A comparator stops the supply: RESET with cause SUPPLY_STOP, rails down (R432, R436). -/
def State.supplyStop (s : State) (kind : Nat) (p : Supply) : State :=
  ((s.setSupply { p with rails := false, starting := false, retryAt := none, testing := 0 }).enterReset 0x02 true).railRecord kind 0

/-- A rail fault: the attempt counts, and after fewer than three in a row the rails start again 100 ms later (R435, R436). While the supply is
still starting the device is in RESET already and enters no mode: the cause kept for the next exit stays what it was (DESIGN CHOICE; R22 does not
say that a start that fails makes it SUPPLY_STOP; log entry 158). -/
def State.railDown (s : State) (kind rail : Nat) : State :=
  let p := s.supply
  let s1 := s.setSupply { p with
    rails := false, starting := false, fails := p.fails + 1, testing := 0
    retryAt := if p.fails + 1 < 3 then some (s.now + retryCycles) else none }
  (if p.starting then s1 else s1.enterReset 0x02 true).railRecord kind rail

/-- UVLO_RISE (R435). VIN rises through 4.2 V. Whether the bellows AON domain was unpowered meanwhile is open (a free value): if so the
supply fault is forgotten and the next CAUSE is POWER_ON (R16, R436). -/
def execUvloRise (t : Nat) (s : State) : Out :=
  let s0 := s.at_ t
  if s0.supply.uvlo then
    let s1 := s0.setSupply { s0.supply with uvlo := false }
    let s2 := s1.drawn
    let s3 := if s1.fresh % 2 = 1 then
        { (s2.wr R.PWR_RAIL_FAULT 0).set F.SYS_MODE_CAUSE 0 with modeCtl := { s2.modeCtl with fresh := true, aonCause := 0 } }
      else s2
    .next s3.startRails
  else .next s0

/-- UVLO_FALL (R435, R436). VIN falls through 3.9 V: RESET, rails down; the count of failed attempts returns to 0. -/
def execUvloFall (t : Nat) (s : State) : Out :=
  let s0 := s.at_ t
  if s0.supply.uvlo then .next s0 else .next (s0.supplyStop 1 { s0.supply with uvlo := true, fails := 0 })

/-- OVERVOLTAGE_STOP (R432). -/
def execOvervoltageStop (t : Nat) (s : State) : Out :=
  let s0 := s.at_ t
  if s0.supply.overvolt then .next s0 else .next (s0.supplyStop 2 { s0.supply with overvolt := true })

/-- OVERVOLTAGE_RELEASE (R432). VIN falls back through 19.0 V. -/
def execOvervoltageRelease (t : Nat) (s : State) : Out :=
  let s0 := s.at_ t
  if s0.supply.overvolt then .next (s0.setSupply { s0.supply with overvolt := false }).startRails else .next s0

/-- THERMAL_STOP (R432). The bellows die reaches 130 °C. -/
def execThermalStop (t : Nat) (s : State) : Out :=
  let s0 := s.at_ t
  if s0.supply.hot then .next s0 else .next (s0.supplyStop 3 { s0.supply with hot := true })

/-- THERMAL_STOP_RELEASE (R432). The bellows die falls through 115 °C. -/
def execThermalStopRelease (t : Nat) (s : State) : Out :=
  let s0 := s.at_ t
  if s0.supply.hot then .next (s0.setSupply { s0.supply with hot := false }).startRails else .next s0

/-- RAILS_GOOD (R435, R454). Every rail is good: the core die is released, every domain on; the band table is copied. -/
def execRailsGood (t : Nat) (s : State) : Out :=
  let s0 := s.at_ t
  if s0.supply.starting then
    .next (s0.setSupply { s0.supply with rails := true, starting := false, since := s0.now, before := 0 }).loadBands
  else .next s0

/-- RAIL_START_TIMEOUT (R435). A rail is not good within 2 ms of its ramp, the first of which starts 0.25 ms after the start-up: 0 VCORE, 1 VAUX, 2
VIO33, 3 VANA. -/
def execRailStartTimeout (rail : Fin 4) (t : Nat) (s : State) : Out :=
  let s0 := s.at_ t
  if s0.supply.starting = true ∧ s0.supply.since + 900000 ≤ s0.now then .next (s0.railDown 5 (rail.val + 1)) else .next s0

/-- RAIL_RETRY (R435, R436). 100 ms after the shutdown the start-up is tried again. -/
def execRailRetry (t : Nat) (s : State) : Out :=
  let s0 := s.at_ t
  match s0.supply.retryAt with
  | some r => if r ≤ t then .next (s0.setSupply { s0.supply with retryAt := none }).startRails else .next s0
  | none => .next s0

/-- RAIL_FAULT (R434-R436). A rail is low for 10 µs or in overcurrent while VIN is good. -/
def execRailFault (rail : Fin 4) (overcurrent : Bool) (t : Nat) (s : State) : Out :=
  let s0 := s.at_ t
  if s0.supply.rails then .next (s0.railDown (if overcurrent then 6 else 4) (rail.val + 1)) else .next s0

/-- FAIL_COUNT_CLEAR (R435). The rails have stayed good for 1 s. -/
def execFailCountClear (t : Nat) (s : State) : Out :=
  let s0 := s.at_ t
  let p := s0.supply
  if p.rails = true ∧ 400000000 ≤ p.before + (s0.now - p.since) then .next (s0.setSupply { p with fails := 0 }) else .next s0

/-- HOLDUP_TRIP (R24, R432). VIN falls below THR while the warning is enabled. -/
def execHoldupTrip (s : State) : Out :=
  if s.bit F.PWR_HOLDUP_CFG_EN = true ∧ s.regValid R.PWR_HOLDUP_CFG = true ∧ s.bit F.PWR_SUPPLY_STAT_HOLDUP = false then
    .next ((((s.set F.PWR_SUPPLY_STAT_HOLDUP 1).set F.PWR_SUPPLY_STAT_HOLDUP_SEEN 1).raise 776).raiseHold 3)
  else .next s

/-- HOLDUP_RELEASE (R24, R432). VIN rises to THR + 200 mV. -/
def execHoldupRelease (s : State) : Out :=
  if s.bit F.PWR_SUPPLY_STAT_HOLDUP then .next ((s.set F.PWR_SUPPLY_STAT_HOLDUP 0).clearHold 3) else .next s

/-! ## VCORE phases (R434) -/

/-- VCORE_PHASE_LOST (R434, R450). -/
def execVcorePhaseLost (p : Fin 6) (s : State) : Out :=
  let lost := s.get F.PWR_PHASE_STAT_LOST
  if s.supply.rails = false ∨ lost.testBit p.val = true then .next s
  else
    let s1 := (s.set F.PWR_PHASE_STAT_LOST (lost + 2 ^ p.val)).raise 777
    let n := bitCount 6 lost
    .next (if n = 0 then s1.engageSpare 7 else if n = 1 then (s1.raise 778).raiseHold 4 else s1)

/-- A write of PHASE_CTL.REARM: the lost phases it names are under test (R434). -/
def State.phaseRearm (s : State) (mask : Nat) : State :=
  s.setSupply { s.supply with testing := Nat.lor s.supply.testing (Nat.land mask (s.get F.PWR_PHASE_STAT_LOST)) }

/-- PHASE_REARM_DONE (R434). The 100 µs test of a phase ends. -/
def execPhaseRearmDone (p : Fin 6) (pass : Bool) (s : State) : Out :=
  if s.supply.testing.testBit p.val then
    let s1 := s.setSupply { s.supply with testing := s.supply.testing - 2 ^ p.val }
    if pass then
      let lost := s1.get F.PWR_PHASE_STAT_LOST - 2 ^ p.val
      let s2 := s1.set F.PWR_PHASE_STAT_LOST lost
      .next (if lost = 0 then s2.releaseSpare 7 else s2)
    else .next (s1.raise 777)
  else .next s

end Sys2Proof.Machine
end

