-- ==== Sys2Proof/Machine/Ecc.lean ====
section
/-! DEFINITION. Sys2Proof/Machine/Ecc.lean: upsets, the scrub pass and the idle scrubber (R498, R504-R508). -/
namespace Sys2Proof.Machine

/-- The range of R11 that holds grid-coded address `a`: EVM, CTX, fabric RAM, chanter memories, drone memories. -/
def gridRange (a : Nat) : Option (Nat × Nat) :=
  [(0x20000000, 0x22000000), (0x22000000, 0x220C0000), (0x23000000, 0x23400000), (0x40000000, 0x40420000), (0x41000000, 0x41080000)].find?
    fun r => decide (r.1 ≤ a) && decide (a < r.2)

/-- Whether `a` is the address of a word of grid-coded memory; the gaps of the chanter memories hold none (R11). -/
def gridWord (a : Nat) : Bool := (gridRange a).isSome && !(decide (0x40000000 ≤ a) && decide (a < 0x40420000) && decide (0x6000 ≤ (a - 0x40000000) % 0x8000))

/-- Whether the domain of address `a` is ON. -/
def State.wordOn (s : State) (a : Nat) : Bool :=
  match addrDomain a with
  | some d => s.domOn d
  | none => false

/-- Whether the word at `a` has contents: its domain is not OFF. -/
def State.wordHeld (s : State) (a : Nat) : Bool :=
  match addrDomain a with
  | some d => d == 0 || s.pwrState d != P.off
  | none => false

/-- BIT_UPSET (R498). Stored bits of the word at `addr` are inverted. -/
def execBitUpset (addr : Nat) (bits : List (Fin 80)) (s : State) : Out :=
  if gridWord addr && s.wordHeld addr then
    .next (s.setMemWord addr (bits.foldl (fun w b => w ^^^ BitVec.ofNat 80 (2 ^ b.val)) (s.memWord addr)))
  else .next s

/-- Correct the word at `addr` where it is corrected on reading: the state, whether it was corrected, whether it is uncorrectable
(R496, R504). -/
def State.scrubWord (s : State) (addr : Nat) : State × Bool × Bool :=
  let w := s.memWord addr
  match gridClassify w with
  | .clean => (s, false, false)
  | .uncorrectable => (s, false, true)
  | _ =>
    match gridData w with
    | some v => (s.memWrite addr v, true, false)
    | none => (s, false, true)

/-! ## The pass (R504, R505) -/

/-- A GO: the pass starts with its summary cleared, or is refused (R504, R505); true = PARAM. -/
def State.scrubGo (s : State) : State × Bool :=
  let a := s.rdN R.ECC_SCRUB_START
  let b := s.rdN R.ECC_SCRUB_END
  let fill := s.get F.ECC_SCRUB_CTL_OP == 1
  if s.get F.ECC_SCRUB_STAT_STATE = 1 then (s, true)
  else if a % 8 ≠ 0 ∨ b % 8 ≠ 0 ∨ b ≤ a ∨ gridRange a = none ∨ gridRange a ≠ gridRange (b - 8) ∨
      (fill && (!s.modeIn [M.init, M.armed, M.service] || s.drainState == 2)) = true then
    (s.set F.ECC_SCRUB_STAT_REFUSED 1, true)
  else
    let s1 := (((s.wr R.ECC_SCRUB_CORR 0).wr R.ECC_SCRUB_UNC 0).wr R.ECC_SCRUB_POS (BitVec.ofNat 32 a)).set F.ECC_SCRUB_STAT_CAUSE 0
    let s2 := (List.range 16).foldl (fun t k => t.wr (R.ECC_SCRUB_UADDR k) 0) s1
    let s3 := (s2.set F.ECC_SCRUB_STAT_STATE 1).set F.ECC_SCRUB_CTL_GO 1
    ({ s3 with scrub := { s3.scrub with passOp := if fill then 1 else 0, left := false, from_ := s3.now } }, false)

/-- A write of SCRUB_CTL: OP, then GO, and ABORT of a pass that runs (R505, R510). -/
def State.scrubCtlWrite (s : State) (v : Word) : State × Bool :=
  let bad := decide (1 < bitsOf v 1 0)
  let s1 := if bad then s else s.set F.ECC_SCRUB_CTL_OP (bitsOf v 1 0)
  let (s2, e) := if v.getLsbD 31 then s1.scrubGo else (s1, false)
  (if v.getLsbD 30 && s2.get F.ECC_SCRUB_STAT_STATE == 1 then s2.set F.ECC_SCRUB_CTL_ABORT 1 else s2, bad || e)

/-- The pass handles the word at `addr`; a FILL leaves a word that a foreground write reached later (R505). -/
def State.passWord (late : List Nat) (s : State) (addr : Nat) : State :=
  if s.scrub.passOp = 1 then
    if late.contains addr then s else s.memWrite addr (s.rd R.ECC_SCRUB_FILL_HI ++ s.rd R.ECC_SCRUB_FILL_LO)
  else
    match s.scrubWord addr with
    | (s1, true, _) => s1.count R.ECC_SCRUB_CORR
    | (s1, _, true) =>
      let n := s1.rdN R.ECC_SCRUB_UNC
      let s2 := s1.count R.ECC_SCRUB_UNC
      if n < 16 then s2.wr (R.ECC_SCRUB_UADDR n) (BitVec.ofNat 32 addr) else s2
    | (s1, _, _) => s1

/-- SCRUB_PASS_DONE (R504, R505). The pass ends: ABORTED after `words` words when ABORT was written or its domain left ON, else DONE. It handles at
most one word in a SPINE cycle: it has not ended before the last word's. `late` names the words of a FILL that a foreground write reached after the pass. -/
def execScrubPassDone (t : Nat) (words : Nat) (late : List Nat) (s : State) : Out :=
  let s0 := s.at_ t
  if s0.get F.ECC_SCRUB_STAT_STATE ≠ 1 then .next s0
  else
    let a := s0.rdN R.ECC_SCRUB_START
    let all := ((List.range ((s0.rdN R.ECC_SCRUB_END - a) / 8)).map fun i => a + 8 * i).filter gridWord
    let cause := if s0.bit F.ECC_SCRUB_CTL_ABORT then 1 else if s0.scrub.left = false ∧ (all.all fun x => s0.wordOn x) = true then 0 else 2
    let done := if cause = 0 then all else all.take (min words (spineCycle (s0.now - s0.scrub.from_)))
    if spineCycle (s0.now - s0.scrub.from_) < done.length then .next s0 else
    let s1 := (done.filter fun x => s0.wordHeld x).foldl (State.passWord late) s0
    let s2 := s1.wr R.ECC_SCRUB_POS (BitVec.ofNat 32 ((all.drop done.length).headD (s0.rdN R.ECC_SCRUB_END)))
    let s3 := ((s2.set F.ECC_SCRUB_STAT_STATE (if cause = 0 then 2 else 3)).set F.ECC_SCRUB_STAT_CAUSE cause).set F.ECC_SCRUB_CTL_GO 0
    let s4 := (s3.set F.ECC_SCRUB_CTL_ABORT 0).raise 856
    .next (if s4.rd R.ECC_SCRUB_UNC = 0 then s4 else (s4.set F.ECC_STAT_SCRUB_UNC 1).raise 857)

/-! ## The idle scrubber (R506-R508) -/

/-- The words of class `m`, ascending; those of class 5 lie in no memory that the spine reads (R506). -/
def classWords (m : Nat) : List Nat :=
  match m with
  | 0 => (List.range 0x400000).map fun i => 0x20000000 + 8 * i
  | 1 => (List.range 0x18000).map fun i => 0x22000000 + 8 * i
  | 2 => (List.range 0x80000).map fun i => 0x23000000 + 8 * i
  | 3 => ((List.range 0x84000).map fun i => 0x40000000 + 8 * i).filter gridWord
  | 4 => (List.range 0x10000).map fun i => 0x41000000 + 8 * i
  | _ => []

/-- A walker visits the word at `addr` (R506, R507). -/
def State.walkWord (s : State) (addr : Nat) : State :=
  if s.wordOn addr then
    match s.scrubWord addr with
    | (s1, true, _) => s1.count R.ECC_IDLE_CORR
    | (s1, _, true) => ((s1.count R.ECC_IDLE_UNC).wr R.ECC_IDLE_UADDR (BitVec.ofNat 32 addr)).raise 860
    | (s1, _, _) => s1
  else s

/-- WALKER_LAP_DONE (R506-R508). Walker `m` has visited every word of its class; for `paused` cycles of the lap its domain was not ON. -/
def execWalkerLapDone (m : Fin 6) (t : Nat) (paused : Nat) (s : State) : Out :=
  let s0 := s.at_ t
  if s0.bit F.ECC_CTL_IDLE_EN = false ∨ ((classWords m.val).getLast?.any fun a => !s0.wordOn a) = true then .next s0
  else
    let s1 := (classWords m.val).foldl State.walkWord s0
    let lap := (t - Sparse.get (fun _ => 0) s1.scrub.lapStart m.val - paused) / 400000
    let s2 := s1.wr (R.ECC_LAP m.val) (BitVec.ofNat 32 lap)
    let s3 := if s2.rdN (R.ECC_LAP_WORST m.val) < lap then s2.wr (R.ECC_LAP_WORST m.val) (BitVec.ofNat 32 lap) else s2
    .next { s3 with scrub := { s3.scrub with lapStart := Sparse.put (fun _ => 0) s3.scrub.lapStart m.val t } }

/-- FORCED_GRANT (R507). After 1,024 yields in a row the pass, or a walker, has the next cycle of a bank. -/
def execForcedGrant (pass : Bool) (_m : Fin 6) (s : State) : Out :=
  if (if pass then s.get F.ECC_SCRUB_STAT_STATE == 1 else s.bit F.ECC_CTL_IDLE_EN) then
    let s1 := s.count R.ECC_FORCED
    .next (if s1.bit F.ECC_STAT_STARVED then s1 else (s1.set F.ECC_STAT_STARVED 1).raise 862)
  else .next s

end Sys2Proof.Machine
end

