-- ==== Sys2Proof/Machine/Bist.lean ====
section
/-! DEFINITION. Sys2Proof/Machine/Bist.lean: the self-test controller (R512-R524). -/
namespace Sys2Proof.Machine

/-- The modes in which a slice starts (R515). -/
def State.bistMode (s : State) : Bool := s.modeIn [M.init, M.armed, M.run, M.runSpared, M.hold, M.service]

/-- Whether `u` is a unit of kind `k` (R512). -/
def unitOk (k u : Nat) : Bool :=
  match k with
  | 1 => decide (u < 132)
  | 2 => decide (u < 4)
  | 3 => decide (u < 8192)
  | 4 => decide (u < 192)
  | 5 => decide (u < 1024)
  | 6 => decide (u < 256)
  | _ => false

/-- A plan entry that a write may set: KIND 0, or units that its kind has (R8, R513). -/
def planLegal (v : Word) : Bool :=
  let k := bitsOf v 31 28
  k == 0 || (decide (1 ≤ bitsOf v 27 16) && unitOk k (bitsOf v 15 0 + bitsOf v 27 16 - 1))

/-- The golden signature of a frame of zeros. -/
def zeroFrame : Nat := (crc32c (zeros 640)).toNat

/-- Whether tract `t` may be tested: its golden frames are all zero and it is not in TRACT_BAD (R521, R523). -/
def State.tractSpare (s : State) (t : Nat) : Bool :=
  !s.bitAt (R.BIST_TRACT_BAD (t / 32)) (t % 32) && (List.range 16).all fun i => (s.frameRec (16 * t + i)).golden == zeroFrame

/-- Start a slice: it takes its unit, waits for it, or ends NOT_STARTED (R512, R518-R523). -/
def State.sliceStart (s : State) (x : Slice) : State :=
  let u := x.unit
  if s.domOn (unitDomain x.kind u) = false then s.sealCut x B.notStarted 0xA
  else
    match x.kind with
    | 1 =>
      if u < 128 then
        if s.get (F.CHT_C_STAT_STATE u) = C.retired then s.sliceTaken { x with direct := true } s.now
        else
          match s.claimLoan u with
          | (s1, true) => s1.putSlice x 1
          | (s1, false) => s1.sealCut x B.notStarted 8
      else if s.get (F.CHT_C_STAT_PAIR u) = 0xFF ∧ s.claimWaits (u - 128) = false then (s.haltEngine u).sliceTaken { x with direct := true } s.now
      else (s.set (F.CHT_GRP_REFUSED (u - 128)) 1).sealCut x B.notStarted 8
    | 2 => if s.retired u then s.sliceTaken { x with direct := true } s.now else (s.putSlice x 1).droneSliceTry
    | 6 =>
      if s.prBusy then s.sealCut x B.notStarted 9
      else if s.tractSpare u then s.sliceTaken x s.now
      else s.sealCut x B.notStarted 0xC
    | _ => s.sliceTaken x s.now

/-- The entry of the plan in use; past the end of the plan, entry 0. -/
def State.planHere (s : State) : State :=
  if s.get (F.BIST_PLAN_KIND s.bist.entry) = 0 then { s with bist := { s.bist with entry := 0, idx := 0 } } else s

/-- Whether a period tick comes now: PERIOD_MS ms after the last, or a whole number of periods after it (R514). The first may come at any time. -/
def State.tickDue (s : State) : Bool :=
  let p := s.get F.BIST_CFG_PERIOD_MS * (1000 * usCycles)
  s.regValid R.BIST_CFG && (match s.bist.tickAt with | some a => decide (a < s.now) && (s.now - a) % p == 0 | none => true)

/-- SELFTEST_TICK (R514, R515, R524). At a period tick a manual slice that is due starts, else the plan's next; a slice that still runs
skips the tick. -/
def execSelftestTick (t : Nat) (s : State) : Out :=
  let s9 := s.at_ t
  if s9.tickDue = false then .next s9 else
  let s0 : State := { s9 with bist := { s9.bist with tickAt := some s9.now } }
  if s0.bistMode = false ∨ s0.bist.slice ≠ none then .next s0
  else
    match s0.bist.manual with
    | some (k, u) =>
      let s1 : State := { s0 with bist := { s0.bist with manual := none } }
      .next (s1.sliceStart { manual := true, kind := k, unit := u, at_ := s0.now })
    | none =>
      if s0.bit F.BIST_CTL_EN then
        let s1 := s0.planHere
        let e := s1.bist.entry
        let k := s1.get (F.BIST_PLAN_KIND e)
        let u := s1.get (F.BIST_PLAN_FIRST e) + s1.bist.idx
        if k = 0 then .next s1
        else if unitOk k u = false then .next s1.planNext
        else .next (s1.sliceStart { manual := false, kind := k, unit := u, at_ := s1.now })
      else .next s0

/-- DRONE_SLICE_WAIT_TIMEOUT (R519). 1 ms after the tick the drone has not met the conditions. -/
def execDroneSliceWaitTimeout (t : Nat) (s : State) : Out :=
  let s0 := s.at_ t
  match s0.bist.slice with
  | some x => if x.kind = 2 ∧ x.taken = none ∧ x.at_ + 1000 * usCycles ≤ t then .next (s0.sealCut x B.notStarted 0xB) else .next s0
  | none => .next s0

/-- Seal the slice in progress and return its unit (R516, R518-R522). A drone that fails while another is retired is not retired: it starts again,
and the device enters HOLD (R486, log entry 126). -/
def State.sealSlice (s : State) (x : Slice) (result cause : Nat) (misr : BitVec 64) : State :=
  let u := x.unit
  let failed := result == B.fail
  if 3 ≤ x.kind then
    let s1 := s.sealRestore x result cause misr
    if failed then
      if x.kind = 6 then (s1.setBitAt (R.BIST_TRACT_BAD (u / 32)) (u % 32)).raise 876 else s1.raise 873
    else s1
  else
    let s1 := (s.sealRecord x result cause misr).endSlice
    if x.kind = 1 then
      if x.direct = false then
        let s2 := s1.endLoan u failed
        if failed then s2.raise 873 else s2
      else if failed = false then s1
      else if 128 ≤ u ∧ s1.get (F.CHT_GRP_SPARE_STATE (u - 128)) = 0 then
        ((s1.set (F.CHT_GRP_SPARE_STATE (u - 128)) 3).set (F.CHT_C_STAT_STATE u) C.retired).raise 876
      else s1.raise 873
    else if x.direct then (if failed then s1.raise 873 else s1)
    else
      let back := fun (t : State) => ((t.reroute u).enterDrone u 0 0).raiseDroneEvent u
      if failed = false then back s1
      else if [0, 1, 2, 3].any (fun k => s1.retired k) then (((back s1).set (F.IRQ_D_STAT_NOT_RETIRED u) 1).raiseHold 2).raise 873
      else (s1.retireDrone u).raise 873

/-- When the budget of a slice ends (R516). -/
def State.budgetEnd (s : State) (t : Nat) : Nat := t + s.get F.BIST_CFG_BUDGET_US * usCycles

/-- SLICE_BUDGET_EXPIRY (R516, R523). The budget expires with the sequence unfinished: the signature it leaves is open (a free value). -/
def execSliceBudgetExpiry (t : Nat) (s : State) : Out :=
  let s0 := s.at_ t
  match s0.bist.slice with
  | some x =>
    match x.taken, x.result with
    | some k, none => if s0.budgetEnd k ≤ t then .next (s0.drawn.sealSlice x B.incomplete 1 (Config.freeValue s0.free)) else .next s0
    | _, _ => .next s0
  | none => .next s0

/-- SLICE_SEAL (R516, R517, R522). The sequence completes before the budget's end (R37) with the responses
whose signature is compared with REF. -/
def execSliceSeal (t : Nat) (responses : List (BitVec 64)) (s : State) : Out :=
  let s0 := s.at_ t
  match s0.bist.slice with
  | some x =>
    match x.taken, x.result with
    | some k, none =>
      if t < s0.budgetEnd k ∧ k + sliceTime x.kind ≤ t then
        let misr := misrOf responses
        let ref := s0.rd (R.BIST_REF_HI (x.kind - 1)) ++ s0.rd (R.BIST_REF_LO (x.kind - 1))
        .next (s0.sealSlice x (if misr = ref then B.pass else B.fail) 0 misr)
      else .next s0
    | _, _ => .next s0
  | none => .next s0

/-- The 16 frames of tract `u` are rewritten and GOOD (R521). -/
def State.tractRewrite (s : State) (u : Nat) : State :=
  (List.range 16).foldl (fun t i => (t.writeFrame (16 * u + i) (zeros 640)).setFrameRec (16 * u + i) { t.frameRec (16 * u + i) with state := 0 }) s

/-- SLICE_RESTORE_DONE (R520-R523). The reserve bank is written back, or the tract's frames rewritten. A region that failed takes the device
to QUARANTINE; an entry request that waited is checked; a partial stream that waited begins. -/
def execSliceRestoreDone (t : Nat) (s : State) : Out :=
  let s0 := s.at_ t
  match s0.bist.slice with
  | some x =>
    match x.result with
    | some r =>
      let s1 := s0.endSlice
      if x.kind = 6 then
        let s2 := s1.tractRewrite x.unit
        .next (if s2.bit F.CFG_PR_CTL_START = true ∧ s2.prBusy = false then s2.prBegin else s2)
      else
        let s2 := if r = B.fail then s1.enterQuarantine 0x60 else s1
        .next (s2.settle (unitDomain x.kind x.unit))
    | none => .next s0
  | none => .next s0

/-! ## Writes (R513, R521, R524) -/

/-- Whether the lifecycle leaves the plan and its settings to the image only (R524, R529). -/
def State.bistLocked (s : State) : Bool := decide (2 ≤ s.lifecycle)

/-- MAN_GO (R524): the manual slice of the KIND and UNIT in MAN is due, or refused with PARAM (true). A unit that does not exist is refused too (log
entry 123). -/
def State.manGo (s : State) : State × Bool :=
  let allowed := match s.lifecycle with
    | 0 | 1 => s.bistMode
    | 2 => s.mode == M.service
    | _ => false
  if allowed && unitOk (s.get F.BIST_MAN_KIND) (s.get F.BIST_MAN_UNIT) then
    ({ s with bist := { s.bist with manual := some (s.get F.BIST_MAN_KIND, s.get F.BIST_MAN_UNIT) } }.set F.BIST_CTL_MAN_GO 1, false)
  else (s.set F.BIST_STAT_MAN_REFUSED 1, true)

/-- A write of BIST.CTL: EN, which a locked unit does not clear, and MAN_GO, whose refusal ignores the write (R524, R526). -/
def State.bistCtlWrite (s : State) (v : Word) : State × Bool :=
  let bad := s.bistLocked && s.bit F.BIST_CTL_EN && !v.getLsbD 31
  let (s1, e) := if v.getLsbD 30 then s.manGo else (s, false)
  (if bad || e then s1 else s1.set F.BIST_CTL_EN (bitsOf v 31 31), bad || e)

/-- A write of BIST.TRACT_USE: VALID sets SYS.SPARED.TRACT, its clearing releases it (R521). -/
def State.tractUse (s : State) (v : Word) : State :=
  let was := s.bit F.BIST_TRACT_USE_VALID
  let s1 := (s.mergeWrite R.BIST_TRACT_USE v).1
  if v.getLsbD 31 then (if s1.bitAt R.SYS_SPARED 8 then s1 else s1.engageSpare 8)
  else if was then s1.releaseSpare 8 else s1

end Sys2Proof.Machine
end

