-- ==== Sys2Proof/Machine/Sec.lean ====
section
/-! DEFINITION. Sys2Proof/Machine/Sec.lean: the service holder, the TAP, attestation and provisioning (R535-R551). -/
namespace Sys2Proof.Machine

/-! ## Random numbers -/

/-- `n` random bytes of SEC: free values (log entry 3). -/
def State.randomBytes (s : State) (n : Nat) : State × List Nat :=
  ({ s with free := s.free + (n + 7) / 8 },
   ((List.range ((n + 7) / 8)).flatMap fun i => bytesBE 8 (Config.freeValue (s.free + i)).toNat).take n)

/-! ## Slots as read at start (R532, R533, R536) -/

/-- ROLE of the valid slot whose HASH is that of a root key: 0 none, 1 O, 2 P, 3 S (R532, R536). -/
def State.roleOf (s : State) (root : List Nat) : Nat :=
  if s.lifecycle = 1 ∨ s.lifecycle = 2 then
    match [0, 1, 2, 3].find? fun k =>
      s.get ⟨R.SEC_STAT, 9 + 2 * k, 8 + 2 * k⟩ == 1 && Config.sha384 root == s.slotHash k with
    | some k => s.get ⟨R.SEC_SLOT_FLAGS, 8 * k + 3, 8 * k + 2⟩
    | none => 0
  else 0

/-! ## Service (R538-R540) -/

/-- The holder of SERVICE: 0 none, 1 an Ivwyn session, 2 the TAP. -/
def State.holderOf (s : State) : Nat := s.get F.SEC_SVC_STAT_HOLDER

/-- Whether an initiator is the holder; `x` is the Ivwyn session where it is known. -/
def State.isHolder (s : State) (ini : Initiator) (x : Option Nat) : Bool :=
  match ini with
  | .ivwyn => s.holderOf == 1 && (match x with | some k => k == s.get F.SEC_SVC_STAT_SESSION | none => true)
  | .tap => s.holderOf == 2
  | _ => false

/-- SERVICE is entered for a holder (R23, R538). -/
def State.enterService (s : State) (holder x : Nat) : State :=
  let s1 := ({ s with modeCtl := { s.modeCtl with from_ := s.mode } }.set F.SEC_SVC_STAT_HOLDER holder).set F.SEC_SVC_STAT_SESSION x
  s1.changeMode M.service 0x40

/-- Drone `d`, halted by the holder, restarts through 0x0004 with ENTRY SERVICE (R176, R474, R539). -/
def State.svcStart (s : State) (d : Nat) : State :=
  if (s.drone d).halted then
    ((s.setDrone d { s.drone d with halted := false }).enterDrone d 4 6).raiseDroneEvent d
  else s

/-- SERVICE ends: halted drones restart and the mode is the one it was entered from (R23, R539); while a restart or the way to QUARANTINE is
in progress the mode stays as it is (R29). -/
def State.endService (s : State) : State :=
  if s.holderOf = 0 then s
  else
    let s1 := ((s.wr R.SEC_SVC_STAT 0).wr R.SEC_SVC_CTL 0)
    let s2 := [0, 1, 2, 3].foldl State.svcStart s1
    if s2.mode ≠ M.service ∨ s2.leaving = true then s2
    else if s2.modeCtl.from_ = M.armed then s2.enterArmed 0x41
    else s2.changeMode s2.modeCtl.from_ 0x41

/-- Halt drone `d` at its next instruction boundary; an access in progress still completes (R539). -/
def State.svcHalt (s : State) (d : Nat) : State :=
  if s.retired d then s
  else
    let g := s.engine (132 + d)
    (s.setEngine (132 + d) { g with on := false, wait := if g.wait = .irq then .none else g.wait }).setDrone d { s.drone d with halted := true }

/-- A write of SVC_CTL by the holder in SERVICE; true = PARAM (R539). -/
def State.svcCtlWrite (s : State) (ini : Initiator) (x : Option Nat) (v : Word) : State × Bool :=
  if s.mode = M.service ∧ s.isHolder ini x = true then
    let s1 := s.set F.SEC_SVC_CTL_HALT (bitsOf v 3 0)
    let s2 := [0, 1, 2, 3].foldl (fun t d => if v.getLsbD (4 + d) then t.svcStart d else t) s1
    ([0, 1, 2, 3].foldl (fun t d => if v.getLsbD d && !(t.drone d).halted then t.svcHalt d else t) s2, false)
  else (s, true)

/-! ## The TAP (R13, R540-R542) -/

/-- Put the TAP's instruction and what it shifts out. -/
def State.tap (s : State) (ir : Nat) (out : List Nat) : State :=
  { s with sec := { s.sec with ir := ir, tapOut := out, extest := ir == 0 } }

/-- An instruction outside its gate selects BYPASS. -/
def State.tapBypassed (s : State) : State := s.tap 0xFF [0]

/-- `n` bits of the boundary register as captured: the spec gives no order of its cells, so they are open (free values). -/
def State.captured (s : State) (n : Nat) : State × List Nat :=
  let r := s.randomBytes n
  (r.1, r.2.map fun b => b % 2)

/-- TAP_EXTEST (R541). In QUARANTINE or SERVICE the pins are driven from the boundary register. -/
def execTapExtest (data : List Bool) (s : State) : Out :=
  if s.modeIn [M.quarantine, M.service] then
    let r := s.captured data.length
    let s1 := r.1.tap 0 r.2
    .next { s1 with sec := { s1.sec with boundary := data.map fun b => if b then 1 else 0 } }
  else .next s.tapBypassed

/-- TAP_SAMPLE_PRELOAD (R541). -/
def execTapSamplePreload (data : List Bool) (s : State) : Out :=
  let r := s.captured data.length
  let s1 := r.1.tap 1 r.2
  .next { s1 with sec := { s1.sec with boundary := data.map fun b => if b then 1 else 0 } }

/-- TAP_IDCODE (R13, R541). -/
def execTapIdcode (s : State) : Out := .next (s.tap 2 (bytesBE 4 (s.rdN R.SYS_IDCODE)))

/-- TAP_BYPASS (R541). The one-bit register captures 0 and passes the bit on. -/
def execTapBypass (bit : Bool) (s : State) : Out := .next (s.tap 0xFF [0, if bit then 1 else 0])

/-- CH_STATUS (R541). SYS.MODE, SEC.STAT and the STATUS of the last unlock. -/
def execChStatus (s : State) : Out :=
  .next (s.tap 0x20 (bytesBE 4 (s.rdN R.SYS_MODE) ++ bytesBE 4 (s.rdN R.SEC_STAT) ++ [s.sec.unlock]))

/-- CH_CHALLENGE (R541, R542). A fresh challenge, followed by SERIAL and IDCODE; only the latest counts. -/
def execChChallenge (s : State) : Out :=
  if s.lifecycle = 3 then .next s.tapBypassed
  else
    let r := s.randomBytes 32
    let s1 := r.1.tap 0x21 (r.2 ++ s.serial ++ bytesBE 4 (s.rdN R.SYS_IDCODE))
    .next { s1 with sec := { s1.sec with challenge := r.2 } }

/-- Whether an unlock passes: certificate and slot as R536 asks, ROLE S, and the signature over the latest challenge (R542). -/
def State.unlockOk (s : State) (data : List Nat) : Bool :=
  let root := slice data 0 97
  let len := fieldBE data 97 2
  let cert := slice data 100 len
  let sig := slice data (100 + len) 96
  decide (1 ≤ len) && decide (len ≤ 1024) && s.sec.challenge != [] && s.roleOf root == 3 && Config.certSigned cert root &&
    (match Config.certKey cert with
     | some k => Config.ecdsaVerify k (Config.sha384 (s.sec.challenge ++ s.serial ++ bytesBE 4 (s.rdN R.SYS_IDCODE))) sig
     | none => false)

/-- CH_UNLOCK (R540-R542). BUSY while a session holds SERVICE, MODE outside ARMED and HOLD; the challenge is spent either way. SERVICE
follows a pass (UNLOCKED). -/
def execChUnlock (t : Nat) (data : List (BitVec 8)) (s : State) : Out :=
  let s0 := s.at_ t
  if s0.lifecycle = 3 then .next s0.tapBypassed
  else
    let ok := s0.unlockOk (data.map BitVec.toNat)
    let s1 := s0.tap 0x22 []
    let put (u : Nat) (w : Bool) : State := { s1 with sec := { s1.sec with challenge := [], unlock := u, unlocking := w } }
    if s0.holderOf = 1 then .next (put 3 false)
    else if s0.modeIn [M.armed, M.hold] = false then .next (put 4 false)
    else if ok then .next (put 1 true)
    else .next (((put 2 false).count R.SEC_UNLOCK_FAIL).raise 893)

/-- UNLOCKED (R540, R542). SEC completes the check: source 889, and the TAP holds SERVICE where the mode still allows it. -/
def execUnlocked (t : Nat) (s : State) : Out :=
  let s0 := s.at_ t
  if s0.sec.unlocking then
    let s1 : State := { s0 with sec := { s0.sec with unlocking := false } }
    if s1.holderOf = 1 then .next { s1 with sec := { s1.sec with unlock := 3 } }
    else if s1.serviceMayOpen = false then .next { s1 with sec := { s1.sec with unlock := 4 } }
    else
      let s2 := (s1.raise 889).enterService 2 0
      .next { s2 with sec := { s2.sec with lastTap := s2.now } }
  else .next s0

/-- CH_RELOCK (R540, R541). The TAP holder gives SERVICE up. -/
def execChRelock (s : State) : Out := if s.holderOf = 2 then .next (s.endService.tap 0x24 []) else .next s.tapBypassed

/-- CH_SCAN (R541). Torush's production scan, in VENDOR only: the spec does not say what it shifts, so no state of the model changes but
the instruction register. -/
def execChScan (s : State) : Out := if s.lifecycle = 0 then .next (s.tap 0x30 []) else .next s.tapBypassed

/-- TAP_SERVICE_IDLE (R540). 5 s without a CH_SPINE access. -/
def execTapServiceIdle (t : Nat) (s : State) : Out :=
  let s0 := s.at_ t
  if s0.holderOf = 2 ∧ s0.sec.lastTap + 5 * secCycles ≤ t then .next s0.endService else .next s0

/-! ## Attestation (R543, R544) -/

/-- The bytes of a run of registers that hold byte 4k in bits [31:24] of word k. -/
def State.regBytes (s : State) (a n : Nat) : List Nat := (List.range n).flatMap fun k => bytesBE 4 (s.rdN (a + 4 * k))

/-- Put bytes into such a run. -/
def State.putRegBytes (s : State) (a : Nat) (l : List Nat) : State :=
  (List.range (l.length / 4)).foldl (fun t k => t.wr (a + 4 * k) (BitVec.ofNat 32 (fieldBE l (4 * k) 4))) s

/-- A write of ATT_CTL.GO (R543); true = PARAM. -/
def State.attGo (s : State) : State × Bool :=
  if s.bit F.SEC_ATT_STAT_BUSY then (s, true)
  else
    let s1 := s.wr R.SEC_ATT_STAT 0
    if s.lifecycle = 3 ∨ s.keyBad = true then (s1.set F.SEC_ATT_STAT_REFUSED 1, false)
    else ({ s1 with sec := { s1.sec with att := some s1.now } }.set F.SEC_ATT_STAT_BUSY 1 |>.set F.SEC_ATT_CTL_GO 1, false)

/-- Bytes 0-183 of the report; `start` is the wheel time at the start of the build (R544). -/
def State.attBody (s : State) (start : Nat) : List Nat :=
  bytesBE 4 0x43364154 ++ bytesBE 2 1 ++ bytesBE 2 0x6128 ++ bytesBE 4 (s.rdN R.SYS_IDCODE) ++
  [s.lifecycle, s.mode, s.get F.CFG_BOOT_SOURCE * 64 + s.get F.CFG_BOOT_GOLDEN, if s.bit F.EMN_POS_VALID then s.get F.EMN_POS_POS else 0] ++
  s.serial ++ s.regBytes (R.SEC_ATT_NONCE 0) 8 ++
  bytesBE 4 (s.rdN R.CFG_IMAGE_ID_HI) ++ bytesBE 4 (s.rdN R.CFG_IMAGE_ID_LO) ++ bytesBE 4 (s.rdN R.CFG_IMAGE_BUILD) ++
  (s.sec.imageHash ++ zeros 48).take 48 ++ bytesBE 4 (s.rdN R.CFG_PR_APPLIED) ++ bytesBE 4 (s.rdN R.SYS_SPARED) ++
  [s.get F.SEC_STAT_SLOTS, s.get F.SEC_STAT_FLEET, 0, 0] ++ bytesBE 8 start ++
  Config.sha384 ((List.range 4096).flatMap fun n => bytesBE 4 (s.frameRec n).golden)

/-- ATTEST_DONE (R543, R544). The report is complete. -/
def execAttestDone (t : Nat) (s : State) : Out :=
  let s0 := s.at_ t
  match s0.sec.att with
  | some a =>
    let b := s0.attBody a
    let s1 : State := { s0.drawn with sec := { s0.sec with att := none } }
    let s2 := s1.putRegBytes (R.SEC_ATT_REP 0) (b ++ Config.ecdsaSign s0.devicePriv (Config.sha384 b) s0.fresh)
    .next ((((s2.set F.SEC_ATT_STAT_BUSY 0).set F.SEC_ATT_STAT_READY 1).set F.SEC_ATT_CTL_GO 0).raise 890)
  | none => .next s0

/-! ## Provisioning (R545-R548) -/

/-- CHAL_CTL.NEW: a new provisioning challenge (R549). -/
def State.chalNew (s : State) : State :=
  let r := s.randomBytes 32
  let s1 := r.1.putRegBytes (R.SEC_CHALLENGE 0) r.2
  { s1 with sec := { s1.sec with provFresh := true } }

/-- Whether slot `k` is ACTIVE with FLAGS bit `b`, as OTP stands. -/
def State.slotHas (s : State) (k b : Nat) : Bool := s.slotState k == 1 && (s.slotFlags k).testBit b

/-- Whether a key is that of a PROV slot (R546). -/
def State.provSlot (s : State) (key : List Nat) : Bool := [0, 1, 2, 3].any fun k => s.slotHas k 1 && Config.sha384 key == s.slotHash k

/-- The key that a SET_FLEET record carries, decrypted (R546). -/
def State.fleetOf (s : State) (b : List Nat) : Option (List Nat) :=
  if s.keyBad then none
  else
    let kek := (Config.sha384 (Config.ecdhX s.devicePriv (slice b 152 97) ++ slice b 20 32)).take 32
    Config.gcmOpen kek (slice b 252 12) (slice b 0 152) (slice b 264 48)

/-- Whether a record is well formed (R545-R547). -/
def provRecord (b : List Nat) : Bool :=
  let op := fieldBE b 8 1
  let arg := fieldBE b 9 1
  let used := match op with | 1 => 49 | 3 => 160 | _ => 0
  slice b 0 8 == bytesBE 4 0x43365052 ++ bytesBE 2 1 ++ bytesBE 2 0x6128 && decide (1 ≤ op) && decide (op ≤ 6) &&
    (if op ≤ 2 then decide (arg ≤ 3) else arg == 0) && slice b 10 2 == zeros 2 && slice b 149 3 == zeros 3 &&
    slice b (152 + used) (160 - used) == zeros (160 - used) && (op != 3 || slice b 249 3 == zeros 3) &&
    (op != 1 || decide (fieldBE b 200 1 < 16))

/-- The first check of a record that fails, as its CODE; 0 when none does (R547). -/
def State.provCheck (s : State) (b : List Nat) : Nat :=
  let op := fieldBE b 8 1
  let arg := fieldBE b 9 1
  let key := slice b 52 97
  let lc := s.lifecycle
  let signer :=
    match op with
    | 1 => (lc == 1 || lc == 2) && (s.provSlot key ||
        (lc == 1 && !([0, 1, 2, 3].any fun k => s.slotHas k 1) && slice b 152 48 == Config.sha384 key && (fieldBE b 200 1).testBit 1))
    | 2 | 3 => (lc == 1 || lc == 2) && s.provSlot key
    | 4 => lc == 1 && s.provSlot key
    | 5 => if lc = 0 then Config.sha384 key == Config.productionHash else lc != 3 && s.provSlot key
    | _ => lc == 0 && Config.sha384 key == Config.productionHash
  let others := [0, 1, 2, 3].filter fun k => k != arg
  let stateOk :=
    match op with
    | 1 => s.slotState arg == 0
    | 2 => others.any (fun k => s.slotHas k 1) && (lc != 2 || others.any fun k => s.slotHas k 0)
    | 3 => s.fleetKey.isNone
    | 4 => [0, 1, 2, 3].any fun k => s.slotHas k 0
    | _ => true
  if s.modeIn [M.armed, M.provision] = false ∨ s.leaving = true then 7
  else if s.flash.fwp = false then 6
  else if provRecord b = false then 1
  else if slice b 12 8 ≠ s.serial then 2
  else if s.sec.provFresh = false ∨ slice b 20 32 ≠ s.regBytes (R.SEC_CHALLENGE 0) 8 then 3
  else if signer = false then 5
  else if Config.ecdsaVerify key (Config.sha384 (slice b 0 312)) (slice b 312 96) = false then 4
  else if stateOk = false then 8
  else if op = 3 ∧ s.fleetOf b = none then 0xA
  else 0

/-- PROV_CTL.GO (R547, R548); true = PARAM. Every GO spends the challenge; a record accepted in ARMED enters PROVISION. -/
def State.provGo (s : State) : State × Bool :=
  if s.bit F.SEC_PROV_STAT_BUSY then (s, true)
  else
    let b := s.regBytes (R.SEC_PROV_BUF 0) 102
    let code := s.provCheck b
    let s1 : State := { s with sec := { s.sec with provFresh := false, lastGo := s.now } }
    let s2 := s1.set F.SEC_PROV_STAT_CODE code
    if code ≠ 0 then (s2.raise 892, false)
    else
      let s3 : State := ({ s2 with sec := { s2.sec with prov := b } }.set F.SEC_PROV_STAT_BUSY 1).set F.SEC_PROV_CTL_GO 1
      (if s3.mode = M.armed then s3.changeMode M.provision 0x50 else s3, false)

/-- Apply the record of operation `op`: the OTP words of `l` from byte `o` on are programmed (R528, R546, R547). -/
def State.provApply (s : State) (t op o : Nat) (l : List Nat) (bad : Option Nat) : State :=
  let s0 := s.at_ t
  if s0.sec.prov ≠ [] ∧ fieldBE s0.sec.prov 8 1 = op then
    let s1 := s0.otpProgramRun o l bad
    let failed := match bad with
      | some i => decide (8 * i < l.length)
      | none => false
    let s2 : State := { s1 with sec := { s1.sec with prov := [] } }
    let s3 := ((s2.set F.SEC_PROV_STAT_BUSY 0).set F.SEC_PROV_CTL_GO 0).set F.SEC_PROV_STAT_CODE (if failed then 9 else 0)
    if failed then s3 else s3.raise 891
  else s0

/-- The words of a lifecycle group: eight of 0x6128_000g_6128_000g (R528). -/
def groupWords (g : Nat) : List Nat := (List.range 8).flatMap fun _ => bytesLE 8 (0x6128000061280000 + g * 0x100000001)

/-- ADD_ROOT (R532, R546). HASH, FLAGS and their CRC of slot ARG. -/
def execAddRoot (t : Nat) (badWord : Option Nat) (s : State) : Out :=
  let b := s.sec.prov
  let l := slice b 152 49 ++ zeros 3
  .next (s.provApply t 1 (0x1000 + 64 * fieldBE b 9 1) (l ++ bytesLE 4 (crc32c l).toNat) badWord)

/-- REVOKE_ROOT (R532, R546). REVOKE of slot ARG: some value that is not 0, which one is open (a free value). -/
def execRevokeRoot (t : Nat) (badWord : Option Nat) (s : State) : Out :=
  .next (s.drawn.provApply t 2 (0x1038 + 64 * fieldBE s.sec.prov 9 1) (bytesLE 8 (max 1 s.fresh)) badWord)

/-- SET_FLEET (R534, R546). The key and its CRC. -/
def execSetFleet (t : Nat) (badWord : Option Nat) (s : State) : Out :=
  let k := ((s.fleetOf s.sec.prov).getD [] ++ zeros 32).take 32
  .next (s.provApply t 3 0x1200 (k ++ bytesLE 4 (crc32c k).toNat ++ zeros 4) badWord)

/-- LOCK (R528, R546). -/
def execLock (t : Nat) (badWord : Option Nat) (s : State) : Out := .next (s.provApply t 4 0x40 (groupWords 2) badWord)

/-- SCRAP (R528, R546). -/
def execScrap (t : Nat) (badWord : Option Nat) (s : State) : Out := .next (s.provApply t 5 0x80 (groupWords 3) badWord)

/-- PROV_RELEASE (R528, R546). -/
def execProvRelease (t : Nat) (badWord : Option Nat) (s : State) : Out := .next (s.provApply t 6 0 (groupWords 1) badWord)

/-- PROV_CTL.END: PROVISION ends with RESET, cause LIFECYCLE (R548). -/
def State.provEnd (s : State) : State := if s.mode = M.provision then s.enterReset 0x04 false else s

/-- PROV_ABANDON (R548). 30 s after the last GO no END was written. -/
def execProvAbandon (t : Nat) (s : State) : Out :=
  let s0 := s.at_ t
  if s0.mode = M.provision ∧ s0.sec.lastGo + 30 * secCycles ≤ t then .next (s0.enterReset 0x04 false) else .next s0

/-- A write of PROV_CTL by a drone or the holder; true = PARAM (R547). -/
def State.provCtlWrite (s : State) (ini : Initiator) (x : Option Nat) (v : Word) : State × Bool :=
  let allowed := (match ini with | .drone _ => true | _ => false) || s.isHolder ini x
  if allowed then
    let (s1, e) := if v.getLsbD 31 then s.provGo else (s, false)
    (if v.getLsbD 30 then s1.provEnd else s1, e)
  else (s, true)

end Sys2Proof.Machine
end

