-- ==== Sys2Proof/Machine/Ivwyn.lean ====
section
/-! DEFINITION. Sys2Proof/Machine/Ivwyn.lean: Ivwyn datagrams, sessions, SEC's session work, the requests that need no spine access,
firmware buffers (R266-R277, R535-R538). -/
namespace Sys2Proof.Machine

/-! ## Answers outside a session -/

/-- The header of a datagram without a tag. CREDIT is open, as CLIMIT starts only when a session opens; so is MCTR outside a session
(free values). -/
def State.plainHeader (s : State) (type x status txn : Nat) (mctr : Option Nat) (len : Nat) : State × List Nat :=
  let credit := s.fresh % 2 ^ 32
  let s1 := s.drawn
  let m := mctr.getD s1.fresh
  (s1.drawn, bytesBE 2 0x4957 ++ [1, type] ++ bytesBE 2 x ++ [0x80, status] ++ bytesBE 4 txn ++ bytesBE 4 credit ++ bytesBE 8 m ++
    bytesBE 2 len ++ [0, 0])

/-- Send a datagram outside a session (R266). -/
def State.plainSend (s : State) (ip : Word) (port : Nat) (d : List Nat) : State :=
  { s with ivw := { s.ivw with out := s.datagram ip port d :: s.ivw.out } }

/-- Answer outside a session: header and body without a tag. -/
def State.plainAnswer (s : State) (ip : Word) (port type x status txn : Nat) (body : List Nat) : State × List Nat :=
  let (s1, header) := s.plainHeader type x status txn none body.length
  (s1.plainSend ip port (header ++ body), header ++ body)

/-- The session numbers in use: open, or waiting for their CONFIRM (R536). -/
def State.sessionsUsed (s : State) : List Nat := (List.range 256).filter fun x => s.bit (F.IVW_S_STATE_OPEN x) || (s.session x).waiting

/-- How many sessions the device serves: 256, in QUARANTINE one (R271, R277). -/
def State.sessionRoom (s : State) : Nat := if s.mode = M.quarantine then 1 else 256

/-- Close a session; the end of the holder's ends SERVICE (R271). -/
def State.closeSession (s : State) (x : Nat) : State :=
  let held := s.holderOf = 1 ∧ s.get F.SEC_SVC_STAT_SESSION = x
  let s1 := s.dropSession x
  if held then s1.endService else s1

/-! ## Received datagrams (R266-R269, R272-R274, R277) -/

/-- The defined message types (R269). -/
def ivwTypes : List Nat := [1, 2, 3, 4, 5, 6, 0x10, 0x11, 0x12, 0x13, 0x20, 0x21, 0x22, 0x23, 0x24, 0x30, 0x40]

/-- The types that the minimal responder serves (R277). -/
def minimalTypes : List Nat := [1, 2, 3, 4, 5, 6]

/-- The types that consume a credit. -/
def creditTypes : List Nat := [0x20, 0x21, 0x40]

/-- Whether role `r` (1 O, 2 P, 3 S) may send type `t` (R269). -/
def roleAllows (r t : Nat) : Bool :=
  if [1, 2, 3, 4, 5, 0x10, 0x12, 0x24].contains t then true
  else if [0x11, 0x13, 0x20, 0x21, 0x22, 0x23, 0x40].contains t then decide (2 ≤ r)
  else t == 6 && r == 3

/-- ROW and APP requests that are accepted and not yet in a buffer. -/
def State.rowsWaiting (s : State) : Nat :=
  ((List.range 256).map fun x =>
    let k := s.session x
    ((if k.running then k.queue.tail else k.queue).filter fun q => q.type == 0x21 || q.type == 0x40).length).foldl (· + ·) 0

/-- Whether the Ivwyn engine hears port `p` (R26, R277). -/
def State.ivwHears (s : State) (p : Nat) : Bool :=
  if s.mode = M.quarantine then s.domOn 18 && decide (p < 2) else s.netUp && s.bit F.IVW_CFG_EN && s.regValid R.IVW_CFG

/-- A message of session `x` that passed the tag: the rows of R274 from the retained response on. -/
def State.ivwTake (s : State) (x type txn cseq : Nat) (header body : List Nat) : State :=
  let k := s.session x
  match k.retained.find? fun r => r.txn == txn with
  | some r => s.ivwSend x k.fromIp k.fromPort r.type 0x80 r.status txn r.body
  | none =>
    if (k.queue.any fun q => q.txn == txn) = true then s
    else if ivwTypes.contains type = false ∨ (s.mode = M.quarantine ∧ minimalTypes.contains type = false) then s.ivwAnswer x type 2 txn []
    else if roleAllows k.role type = false then s.ivwAnswer x type 4 txn []
    else if type = 2 ∧ k.waiting = false then s.ivwAnswer x type 2 txn []
    else if creditTypes.contains type = true ∧ (BitVec.ofNat 32 k.climit).toInt ≤ (BitVec.ofNat 32 cseq).toInt then
      ((s.count R.IVW_NO_CREDIT).raise 741).ivwAnswer x type 3 txn []
    else if (type = 0x21 ∨ type = 0x40) ∧ 8 ≤ s.ivw.rx.length + s.rowsWaiting then
      (s.setSession x { k with climit := (k.climit + 1) % 2 ^ 32 }).ivwAnswer x type 7 txn []
    else s.setSession x { k with queue := k.queue ++ [⟨type, txn, k.fromIp, k.fromPort, header, body⟩] }

/-- Whether a datagram comes to the stack's address, the Ivwyn port and the management VLAN, in QUARANTINE those of the minimal responder
(R256, R265, R266, R277). -/
def State.ivwReached (s : State) (d : UdpDest) : Bool := d.addr == s.stackAddr && d.port.toNat == s.ivwPort && d.vid.val == s.stackVlan

/-- IVWYN_DATAGRAM_RX (R265-R269, R274, R277). A datagram that came to `dest` from `ip` and `port`; the stack passes on only one for the
Ivwyn port of its own address. -/
def execIvwynDatagramRx (p : Fin 4) (t : Nat) (ip : BitVec 32) (port : BitVec 16) (dest : UdpDest) (payload : List (BitVec 8)) (s : State) : Out :=
  let s := s.at_ t
  let b := payload.map BitVec.toNat
  let header := b.take 28
  let type := fieldBE b 3 1
  let x := fieldBE b 4 2
  let txn := fieldBE b 8 4
  let mctr := fieldBE b 16 8
  let n := fieldBE b 24 2
  if s.ivwHears p.val = false ∨ s.ivwReached dest = false then .next s
  else if b.length < 28 ∨ 1472 < b.length ∨ 1428 < n ∨ fieldBE b 0 2 ≠ 0x4957 ∨ fieldBE b 2 1 ≠ 1 ∨ b.length ≠ 28 + n + (if type = 1 then 0 else 16) then
    .next (s.count R.IVW_BAD_HDR)
  else if type = 1 then
    .next { s with ivw := { s.ivw with openIn := s.ivw.openIn ++ [⟨ip, port.toNat, txn, header, b.drop 28⟩] } }
  else if x < 256 ∧ (s.bit (F.IVW_S_STATE_OPEN x) = true ∨ ((s.session x).waiting = true ∧ type = 2)) then
    let k := s.session x
    match Config.gcmOpen k.keyIn (bytesBE 4 1 ++ bytesBE 8 mctr) header (b.drop 28) with
    | some body =>
      if mctr ≤ k.mctrIn then .next ((s.count R.IVW_AUTH_FAIL).raise 740)
      else .next ((s.setSession x { k with mctrIn := mctr, idleRef := s.now, fromIp := ip, fromPort := port.toNat }).ivwTake x type txn (fieldBE b 12 4) header body)
    | none => .next ((s.count R.IVW_AUTH_FAIL).raise 740)
  else .next (s.plainAnswer ip port.toNat type 0xFFFF 8 txn []).1

/-! ## SEC's session work (R535-R538) -/

/-- SEC begins its next piece of work where it has none: a CONFIRM ahead of every OPEN (R537). -/
def State.secKick (s : State) : State :=
  if s.ivw.working ≠ 0 then s
  else if s.ivw.confirms ≠ [] then { s with ivw := { s.ivw with working := 2 } }
  else if s.ivw.opens ≠ [] then { s with ivw := { s.ivw with working := 1 } }
  else s

/-- IVWYN_OPEN (R274, R537). The OPEN received first goes to SEC's queue of 4. A resent one is answered again or dropped as a duplicate; with
every session in use it is answered SESSIONS_FULL. -/
def execIvwynOpen (s : State) : Out :=
  match s.ivw.openIn with
  | [] => .next s
  | o :: r =>
    let s1 : State := { s with ivw := { s.ivw with openIn := r } }
    match s1.ivw.answered.find? fun a => a.1 == o.ip && a.2.1 == o.port && a.2.2.1 == o.txn with
    | some a => .next (s1.plainSend o.ip o.port a.2.2.2)
    | none =>
      if (s1.ivw.opens.any fun q => q.ip == o.ip && q.port == o.port && q.txn == o.txn) = true then .next s1
      else if s1.sessionRoom ≤ s1.sessionsUsed.length then .next (s1.plainAnswer o.ip o.port 1 0xFFFF 0xA o.txn []).1
      else if 4 ≤ s1.ivw.opens.length then .next (s1.count R.SEC_OPEN_DROP)
      else .next ({ s1 with ivw := { s1.ivw with opens := s1.ivw.opens ++ [o] } }.secKick)

/-- The status of an OPEN that SEC has worked on, with the role it gives: the rows of R536. -/
def State.openStatus (s : State) (b : List Nat) : Nat × Nat :=
  let len := fieldBE b 2 2
  let root := slice b 133 97
  let cert := slice b 232 len
  if b.length ≠ 232 + len ∨ len < 1 ∨ 1024 < len then (1, 0)
  else if fieldBE b 0 1 ≠ 1 ∨ fieldBE b 1 1 ≠ 0 ∨ slice b 230 2 ≠ zeros 2 ∨ Config.onCurve (slice b 36 97) = false ∨ Config.certKey cert = none then
    (0xB, 0)
  else if s.roleOf root = 0 ∨ Config.certSigned cert root = false ∨ s.lifecycle = 3 ∨ s.keyBad = true then (4, 0)
  else if s.roleOf root = 3 ∧ (s.modeIn [M.armed, M.hold, M.quarantine] = false ∨ s.holderOf ≠ 0) then (6, 0)
  else if s.sessionRoom ≤ s.sessionsUsed.length then (0xA, 0)
  else (0, s.roleOf root)

/-- An accepted OPEN: the handshake response; a session number, which one of those free is open (a free value), waits for its CONFIRM
(R535, R536). -/
def State.openAccept (s : State) (o : OpenReq) (role : Nat) : State × List Nat :=
  let free := (List.range 256).filter fun x => s.sessionsUsed.contains x == false
  let x := free.getD (s.fresh % free.length) 0
  let (s1, nonce) := s.drawn.randomBytes 32
  let (s2, eph) := s1.randomBytes 48
  let body0 := nonce ++ Config.ecPublic eph ++ s2.devicePub ++ zeros 2
  let (s3, header) := s2.plainHeader 1 x 0 o.txn (some 1) (body0.length + 96)
  let sig := Config.ecdsaSign s3.devicePriv (Config.sha384 (o.header ++ o.body ++ header ++ body0)) s3.fresh
  let resp := header ++ body0 ++ sig
  let th := Config.sha384 (o.header ++ o.body ++ resp)
  let z := Config.ecdhX eph (slice o.body 36 97)
  let s4 := s3.drawn.setSession x {
    waiting := true, role := role, ip := o.ip, port := o.port, answered := s3.now, idleRef := s3.now, th := th
    hostKey := (Config.certKey (slice o.body 232 (fieldBE o.body 2 2))).getD []
    keyIn := (Config.sha384 ([1] ++ z ++ th)).take 32, keyOut := (Config.sha384 ([2] ++ z ++ th)).take 32
    mctrIn := fieldBE o.header 16 8, mctrOut := 1, fromIp := o.ip, fromPort := o.port, out := (s3.session x).out }
  (s4.plainSend o.ip o.port resp, resp)

/-- SEC_OPEN_DONE (R535-R537). SEC finishes the OPEN it works on: the handshake response, or a refusal. -/
def execSecOpenDone (t : Nat) (s : State) : Out :=
  let s := s.at_ t
  match s.ivw.opens with
  | o :: r =>
    if s.ivw.working = 1 ∧ s.domOn 19 = true then
      let s1 : State := { s with ivw := { s.ivw with opens := r, working := 0 } }
      let st := s1.openStatus o.body
      let (s2, resp) :=
        if st.1 = 0 then s1.openAccept o st.2
        else
          let (u, d) := s1.plainAnswer o.ip o.port 1 0xFFFF st.1 o.txn []
          (if st.1 = 0xA then u else (u.count R.SEC_AUTH_REFUSED).raise 888, d)
      .next ({ s2 with ivw := { s2.ivw with answered := s2.ivw.answered ++ [(o.ip, o.port, o.txn, resp)] } }.secKick)
    else .next s
  | [] => .next s

/-- A CONFIRM that is refused is answered, and the session number is free (R536). -/
def State.confirmRefuse (s : State) (x txn status : Nat) : State := (s.ivwSend x (s.session x).fromIp (s.session x).fromPort 2 0x80 status txn []).dropSession x

/-- SEC_CONFIRM_DONE (R272, R535, R536, R538). The signature is checked; the session opens, a session of role S with SERVICE from ARMED or
HOLD. -/
def execSecConfirmDone (t : Nat) (s : State) : Out :=
  let s := s.at_ t
  match s.ivw.confirms with
  | (x, txn, body) :: r =>
    if s.ivw.working = 2 ∧ s.domOn 19 = true then
      let s1 : State := { s with ivw := { s.ivw with confirms := r, working := 0 } }
      let k := s1.session x
      let opened (u : State) : State :=
        let u1 := u.setSession x { u.session x with waiting := false, climit := u.get F.IVW_CFG_CREDITS }
        let u2 := ((u1.set (F.IVW_S_STATE_OPEN x) 1).set (F.IVW_S_STATE_ROLE x) k.role).wr (R.IVW_S_PEER_IP x) k.ip
        let u3 := (u2.wr (R.IVW_S_PEER_PORT x) (BitVec.ofNat 32 k.port)).set F.IVW_OPEN_COUNT (u2.get F.IVW_OPEN_COUNT + 1)
        (u3.raise 737).ivwAnswer x 2 0 txn []
      if k.waiting = false then .next s1.secKick
      else if body.length ≠ 96 then .next (s1.ivwAnswer x 2 1 txn []).secKick
      else if Config.ecdsaVerify k.hostKey (Config.sha384 (k.th ++ [3])) body = false then
        .next (((s1.confirmRefuse x txn 4).count R.SEC_AUTH_REFUSED).raise 888).secKick
      else if k.role = 3 ∧ s1.mode ≠ M.quarantine then
        if s1.serviceMayOpen = true ∧ s1.holderOf = 0 then .next (opened (s1.enterService 1 x)).secKick
        else .next (s1.confirmRefuse x txn 6).secKick
      else .next (opened s1).secKick
    else .next s
  | [] => .next { s with ivw := { s.ivw with working := if s.ivw.working = 2 then 0 else s.ivw.working } }.secKick

/-- CONFIRM_TIMEOUT (R536). No CONFIRM has come within 5 s of the OPEN response. -/
def execConfirmTimeout (x : Fin 256) (t : Nat) (s : State) : Out :=
  let s := s.at_ t
  let k := s.session x.val
  if k.waiting = true ∧ k.queue = [] ∧ k.answered + 5 * secCycles ≤ t then .next (s.dropSession x.val) else .next s

/-- SESSION_IDLE_TIMEOUT (R271). 5 s without an accepted host message. -/
def execSessionIdleTimeout (x : Fin 256) (t : Nat) (s : State) : Out :=
  let s := s.at_ t
  if s.bit (F.IVW_S_STATE_OPEN x.val) = true ∧ (s.session x.val).idleRef + 5 * secCycles ≤ t then .next (s.closeSession x.val) else .next s

/-! ## Requests in order of arrival (R269, R273) -/

/-- The request of session `x` that is next to be worked, where it has type `type`. -/
def State.ivwHead (s : State) (x type : Nat) : Option IvwReq :=
  let k := s.session x
  match k.queue with
  | q :: _ => if q.type = type ∧ k.running = false then some q else none
  | [] => none

/-- Mark it as being worked. -/
def State.ivwRun (s : State) (x : Nat) : State := s.setSession x { s.session x with running := true }

/-- Whether a message field holds a reserved value: bytes that the body's layout gives as 0 (R269, R270). -/
def nonZero (b : List Nat) (i n : Nat) : Bool := (slice b i n).any fun v => v != 0

/-- IVWYN_CONFIRM (R535, R537). The CONFIRM goes to SEC. -/
def execIvwynConfirm (x : Fin 256) (s : State) : Out :=
  match s.ivwHead x.val 2 with
  | some q =>
    let s1 := s.ivwRun x.val
    .next { s1 with ivw := { s1.ivw with confirms := s1.ivw.confirms ++ [(x.val, q.txn, q.body)] } }.secKick
  | none => .next s

/-- Answer a request whose body is empty with `act` done first; a body is BAD_LENGTH. -/
def State.ivwEmpty (s : State) (x type : Nat) (act : State → Nat → State) : State :=
  match s.ivwHead x type with
  | some q => if q.body ≠ [] then s.ivwAnswer x type 1 q.txn [] else act s q.txn
  | none => s

/-- IVWYN_CLOSE (R269, R271). -/
def execIvwynClose (x : Fin 256) (s : State) : Out := .next (s.ivwEmpty x.val 3 fun u n => (u.ivwAnswer x.val 3 0 n []).closeSession x.val)

/-- IVWYN_PING (R269). -/
def execIvwynPing (x : Fin 256) (s : State) : Out := .next (s.ivwEmpty x.val 4 fun u n => u.ivwAnswer x.val 4 0 n [])

/-- IVWYN_IDENT (R269). -/
def execIvwynIdent (x : Fin 256) (s : State) : Out :=
  .next (s.ivwEmpty x.val 5 fun u n => u.ivwAnswer x.val 5 0 n
    (bytesBE 4 (u.rdN R.SYS_IDCODE) ++ bytesBE 4 (u.rdN R.SYS_MODE) ++ [u.get F.EMN_POS_POS, u.lifecycle, 0, 0]))

/-- IVWYN_RESTART (R23, R269). Answered, then the restart, after which the session shows only the answer sent; where R23 refuses it, MODE_ERROR. -/
def execIvwynRestart (x : Fin 256) (s : State) : Out :=
  .next (s.ivwEmpty x.val 6 fun u n =>
    let minimal := u.mode == M.quarantine
    if (u.request 15 minimal).2 then
      let a := u.ivwAnswer x.val 6 0 n []
      let r := (a.request 15 minimal).1
      r.setSession x.val { r.session x.val with out := (a.session x.val).out }
    else (u.request 15 minimal).1.ivwAnswer x.val 6 6 n [])

/-- IVWYN_MODE (R18, R269). REQ 5, 6 or 8; a refusal is MODE_ERROR; the body is SYS.MODE either way. -/
def execIvwynMode (x : Fin 256) (s : State) : Out :=
  match s.ivwHead x.val 0x22 with
  | some q =>
    let req := fieldBE q.body 0 1
    if q.body.length ≠ 4 then .next (s.ivwAnswer x.val 0x22 1 q.txn [])
    else if (req ≠ 5 ∧ req ≠ 6 ∧ req ≠ 8) ∨ nonZero q.body 1 3 = true then .next (s.ivwAnswer x.val 0x22 0xB q.txn [])
    else
      let r := s.request req false
      .next (r.1.ivwAnswer x.val 0x22 (if r.2 then 0 else 6) q.txn (bytesBE 4 (r.1.rdN R.SYS_MODE)))
  | none => .next s

/-- IVWYN_SNAP (R269, R487). -/
def execIvwynSnap (x : Fin 256) (s : State) : Out := .next (s.ivwEmpty x.val 0x23 fun u n => (u.assertSnap 128).ivwAnswer x.val 0x23 0 n [])

/-- IVWYN_SUBSCRIBE (R275). -/
def execIvwynSubscribe (x : Fin 256) (s : State) : Out :=
  match s.ivwHead x.val 0x24 with
  | some q =>
    if q.body.length ≠ 4 then .next (s.ivwAnswer x.val 0x24 1 q.txn [])
    else if 16 ≤ fieldBE q.body 0 4 then .next (s.ivwAnswer x.val 0x24 0xB q.txn [])
    else .next ((s.set (F.IVW_S_STATE_MASK x.val) (fieldBE q.body 0 4)).ivwAnswer x.val 0x24 0 q.txn [])
  | none => .next s

/-- A credited request that ends without being executed returns its credit (log entry 24). -/
def State.creditReturn (s : State) (x : Nat) : State := s.setSession x { s.session x with climit := ((s.session x).climit + 1) % 2 ^ 32 }

/-- IVWYN_INSERT (R269, R272). Its events are offered to wheel port 4, which waits on BUSY; the answer follows the last code. -/
def execIvwynInsert (x : Fin 256) (s : State) : Out :=
  match s.ivwHead x.val 0x20 with
  | some q =>
    let b := q.body
    let n := fieldBE b 0 2
    let at_ (i : Nat) : Nat := 4 + 12 * i
    if b.length < 4 ∨ n < 1 ∨ 112 < n ∨ b.length ≠ 4 + 12 * n then .next ((s.creditReturn x.val).ivwAnswer x.val 0x20 1 q.txn [])
    else if nonZero b 2 2 = true ∨ ((List.range n).any fun i => nonZero b (at_ i + 1) 1 || decide (4096 ≤ fieldBE b (at_ i + 2) 2)) = true then
      .next ((s.creditReturn x.val).ivwAnswer x.val 0x20 0xB q.txn [])
    else
      let s1 := s.setSession x.val { s.session x.val with running := true, insertLeft := n, insertCodes := [] }
      .next ((List.range n).foldl (fun u i =>
        u.offerWait ⟨fieldBE b (at_ i) 1, fieldBE b (at_ i + 2) 2, BitVec.ofNat 64 (fieldBE b (at_ i + 4) 8), .ivwyn x q.txn⟩) s1)
  | none => .next s

/-! ## Firmware buffers (R273, R276) -/

/-- Place a ROW or APP in the lowest free receive buffer: header and body; source 736 (R276). -/
def State.toFirmware (s : State) (x type : Nat) : State :=
  match s.ivwHead x type, (List.range 8).find? fun b => !s.ivw.rx.any fun r => r.buf == b with
  | some q, some b =>
    let s1 := (s.setSession x { s.session x with running := true, fwAt := s.now }).wrBytes (R.IVW_BUF b 0) (q.header ++ q.body)
    let s2 : State := { s1 with ivw := { s1.ivw with rx := s1.ivw.rx ++ [{ buf := b, session := x, type := type }] } }
    s2.raise 736
  | _, _ => s

/-- IVWYN_ROW (R276). -/
def execIvwynRow (x : Fin 256) (t : Nat) (s : State) : Out := .next ((s.at_ t).toFirmware x.val 0x21)

/-- IVWYN_APP (R276). -/
def execIvwynApp (x : Fin 256) (t : Nat) (s : State) : Out := .next ((s.at_ t).toFirmware x.val 0x40)

/-- Type, session and TXN of the message in a buffer (R267, R276). -/
def State.bufHead (s : State) (b : Nat) : Nat × Nat × Nat :=
  let m := s.rdBytes (R.IVW_BUF b 0) 28
  (fieldBE m 3 1, fieldBE m 4 2, fieldBE m 8 4)

/-- Whether firmware has queued its answer to request `txn` of session `x` (R276). -/
def State.answerQueued (s : State) (x txn : Nat) : Bool := s.ivw.txq.any fun b => (s.bufHead b).2.1 == x && (s.bufHead b).2.2 == txn && (s.bufHead b).1 != 0x30

/-- FW_TIMEOUT (R273). 8 ms after its delivery, firmware has not answered the ROW or APP request that session `x` works on. -/
def execFwTimeout (x : Fin 256) (t : Nat) (s : State) : Out :=
  let s := s.at_ t
  let k := s.session x.val
  match k.queue with
  | q :: _ =>
    if k.running = true ∧ (q.type = 0x21 ∨ q.type = 0x40) ∧ k.fwAt + 8000 * usCycles ≤ t ∧ s.answerQueued x.val q.txn = false then
      .next (((s.count R.IVW_FW_TIMEOUT).raise 739).ivwAnswer x.val q.type 9 q.txn [])
    else .next s
  | [] => .next s

/-- A write of IVW.RX_DONE: the buffer is free and its credit returns (R272, R276). -/
def State.ivwRxDone (s : State) (b : Nat) : State :=
  match s.ivw.rx.find? fun r => r.buf == b with
  | some r =>
    let s1 : State := { s with ivw := { s.ivw with rx := s.ivw.rx.filter fun q => q.buf != b } }
    if r.live then s1.creditReturn r.session else s1
  | none => s

/-- A write of IVW.TXQ: transmit buffer `b` is queued; one that is already queued is ignored (R276). -/
def State.ivwTxq (s : State) (b : Nat) : State × Bool :=
  if b < 8 ∨ s.ivw.txq.contains b = true then (s, true) else ({ s with ivw := { s.ivw with txq := s.ivw.txq ++ [b] } }, false)

/-- Send the response or notification prepared in transmit buffer `b`. A response that no request of its session waits for is discarded; a
notification goes only to a session whose mask holds its KIND, and NSEQ counts it (R266, R273, R275, R276). -/
def State.ivwTxSend (s : State) (b : Nat) : State :=
  let m := s.rdBytes (R.IVW_BUF b 0) 1456
  let type := fieldBE m 3 1
  let x := fieldBE m 4 2
  let txn := fieldBE m 8 4
  let n := fieldBE m 24 2
  let body := slice m 28 n
  if 256 ≤ x ∨ 1428 < n ∨ s.bit (F.IVW_S_STATE_OPEN x) = false then s
  else if type = 0x30 then
    let kind := fieldBE body 0 1
    if kind < 4 ∧ (s.get (F.IVW_S_STATE_MASK x)).testBit kind = true then s.notifyOne x kind (body.drop 4) else s
  else
    let k := s.session x
    match k.queue with
    | q :: _ =>
      if k.running = true ∧ q.txn = txn ∧ q.type = type ∧ (type = 0x21 ∨ type = 0x40) then s.ivwAnswer x type (fieldBE m 7 1) txn body else s
    | [] => s

/-- The oldest queued transmit buffer is sent and free again. No command of the table says when: it is what happens while no command waits
(R276, log entry 163). -/
def State.ivwTxNext (s : State) : State :=
  match s.ivw.txq with
  | b :: r => if s.domOn 18 then { s with ivw := { s.ivw with txq := r } }.ivwTxSend b else s
  | [] => s

/-- IVW.TX_STAT: bit b is 1 while transmit buffer 8 + b is free (R295). -/
def State.ivwTxStat (s : State) : Word :=
  BitVec.ofNat 32 (((List.range 8).map fun i => if s.ivw.txq.contains (8 + i) then 0 else 2 ^ i).foldl (· + ·) 0)

/-- IVW.RXQ: the oldest receive buffer in use (R295). -/
def State.ivwRxqWord (s : State) : Word :=
  match s.ivw.rx with
  | r :: _ => BitVec.ofNat 32 (2 ^ 31 + r.session * 2 ^ 16 + r.type * 2 ^ 8 + r.buf)
  | [] => 0

end Sys2Proof.Machine
end

