-- ==== Sys2Proof/Machine/Spine.lean ====
section
/-! DEFINITION. Sys2Proof/Machine/Spine.lean: spine accesses: the registers that act when written or read, memories and flash, the
responses, domains that are not ON (R4-R12, R93, R171-R173, R447, R479, R480, R499, R501). -/
namespace Sys2Proof.Machine

/-! ## Register writes -/

/-- Do `act` where a bit of the written word is 1. -/
def onBit (v : Word) (i : Nat) (act : State → State) (s : State) : State := if v.getLsbD i then act s else s

/-- A write that no check refuses. -/
def done (s : State) : State × Bool := (s, false)

/-- Merge a write without its command bits `cmd`, then act (R5). -/
def State.mergeThen (s : State) (a : Nat) (v cmd : Word) (act : State → State) : State × Bool :=
  let p := s.mergeWrite a (v &&& ~~~cmd)
  (act p.1, p.2)

/-- A write of `PWR.Dd_CTL`: WOA and RETRIES, then REQ, which a domain that does not accept it leaves as it was (R8, R438, R440). -/
def State.domCtlWrite (s : State) (d : Nat) (v : Word) : State × Bool :=
  let s1 := (s.set (F.PWR_D_CTL_WOA d) (bitsOf v 8 8)).set (F.PWR_D_CTL_RETRIES d) (bitsOf v 5 4)
  let req := bitsOf v 1 0
  if domAccepts d req then ((s1.set (F.PWR_D_CTL_REQ d) req).domRequest d req, false) else (s1, true)

/-- A write of the insert registers: a drone's own set; another initiator has none (R97). -/
def State.insWrite (s : State) (ini : Initiator) (k : Nat) (v : Word) : State :=
  match ini with
  | .drone d =>
    if k = 0 then s.setDroneIns d { s.droneIns d with addr := v &&& 0x00FF0FFF#32 }
    else if k = 1 then s.setDroneIns d { s.droneIns d with evLo := v }
    else s.insEvHi d v
  | _ => s

/-- Registers of SYS, PWR, CLK and CFG that act when they are written. `r` is the offset of the register list row, `i` its index. -/
def State.ctlWrite (s : State) (b r i a : Nat) (v : Word) : State × Bool :=
  match b with
  | 0 => if r = 0x14 then s.modeCtlWrite v else s.mergeWrite a v
  | 1 =>
    match r with
    | 0x0C => done (s.phaseRearm (bitsOf v 5 0))
    | 0x120 => s.domCtlWrite (i + 1) v
    | _ => s.mergeWrite a v
  | 2 =>
    match r with
    | 0x00 => done ((s.mergeWrite a (v &&& 0x1FFFFFFF#32)).1.clkCtlWrite v)
    | 0x10 => done (onBit v 31 (fun t => t.pllRelock i) s)
    | 0x40 => done (s.bandWrite a v)
    | 0xC0 => s.clkoutWrite i v
    | _ => s.mergeWrite a v
  | _ =>
    match r with
    | 0x20 => done (s.updCtlWrite v 0)
    | 0x800 => s.prCtlWrite v
    | 0x80C => done (s.prDataWrite v)
    | 0x848 => done (s.restoreWrite v)
    | _ => s.mergeWrite a v

/-- A write of `FLASH.CMD`: a reserved OP is PARAM (R8, R412). -/
def State.flashCmdWrite (s : State) (v : Word) (jfails : Nat) : State × Bool :=
  let op := bitsOf v 31 28
  if 1 ≤ op ∧ op ≤ 9 then (s.flashCmd op jfails, false) else (s, true)

/-- A write of `ECC`, `FLASH`, `OTP`, `IRQ` or `SNAP`. -/
def State.sysWrite (s : State) (ini : Initiator) (b r i a : Nat) (v : Word) : State × Bool :=
  match b with
  | 4 => if r = 0 then s.flashCmdWrite v 0 else s.mergeWrite a v
  | 5 => if r = 0 then done (onBit v 31 State.otpGo s) else s.mergeWrite a v
  | 6 =>
    match r with
    | 0x100 =>
      let p := s.mergeWrite a (v &&& 0x7FFFFFFF#32)
      if v.getLsbD 31 then p.1.unretire i (match p.1.bist.slice with | some x => x.kind == 2 && x.unit == i | none => false) else p
    | 0x10C => s.wdCfgWrite i v
    | 0x110 => s.wdKick ini i v
    | 0x400 => done (s.pendClear i v)
    | 0x500 => done (s.irqRaise i v)
    | _ => s.mergeWrite a v
  | 7 => if r = 0 then done (s.snapCtlWrite v) else s.mergeWrite a v
  | _ => if r = 0x108 then s.scrubCtlWrite v else s.mergeWrite a v

/-- Whether `BIST.PLANe`, `CFG` and `REFk` refuse a write (R524); `BIST.PLANe` takes a legal entry only (R513). -/
def State.bistWrite (s : State) (r a : Nat) (v : Word) : State × Bool :=
  match r with
  | 0x00 => s.bistCtlWrite v
  | 0x04 | 0x40 | 0x44 => if s.bistLocked then (s, true) else s.mergeWrite a v
  | 0x400 => if s.bistLocked || !planLegal v then (s, true) else s.mergeWrite a v
  | 0x30 => done (s.tractUse v)
  | _ => s.mergeWrite a v

/-- A write of SEC; `x` is the Ivwyn session where it is known. -/
def State.secWrite (s : State) (ini : Initiator) (x : Option Nat) (r a : Nat) (v : Word) : State × Bool :=
  match r with
  | 0x10 => s.svcCtlWrite ini x v
  | 0x20 => done (onBit v 0 State.chalNew s)
  | 0x80 => s.provCtlWrite ini x v
  | 0x100 => if (match ini with | .drone _ => true | _ => s.isHolder ini x) then s.mergeWrite a v else (s, true)
  | 0x400 => if v.getLsbD 31 then s.attGo else (s, false)
  | _ => s.mergeWrite a v

/-- A write of GPIO (R560-R565). -/
def State.gpioWrite (s : State) (r i a : Nat) (v : Word) : State × Bool :=
  match r with
  | 0x000 => s.gpCfgWrite i v
  | 0x404 => done (s.outSet i v)
  | 0x408 => done (s.outClr i v)
  | 0x40C => done (s.outTgl i v)
  | 0x418 => s.pinStatWrite i v
  | 0x600 => s.portCfgWrite i v
  | 0x604 => s.portTx i v
  | 0x700 => s.pwmWrite i v
  | _ => s.mergeWrite a v

/-- A write of MEAS (R223-R247). -/
def State.measWrite (s : State) (r i a : Nat) (v : Word) : State × Bool :=
  match r with
  | 0x000 => s.adcsDue.adcCtlWrite i v
  | 0x004 => s.adcsDue.adcTrigWrite i v
  | 0x400 => s.adcsDue.seqWrite a v
  | 0x800 => s.cmpCfgWrite i v
  | 0x804 => s.cmpThrWrite i v
  | 0xB00 => done (s.ucalWrite i v)
  | _ => s.mergeWrite a v

/-- A write of NET, IVW or EMN. The administrative gate list refuses a write while a change is pending (R260). -/
def State.netWrite (s : State) (b r i a : Nat) (v : Word) : State × Bool :=
  match b with
  | 13 =>
    match r with
    | 0x01C => s.gclCtlWrite i v
    | 0x410 => done (s.ipAddrWrite v)
    | 0x510 => done (s.xcapCtlWrite v)
    | 0xC000 => if s.bit (F.NET_E_GCL_CTL_PENDING i) then (s, true) else s.mergeWrite a v
    | _ => s.mergeWrite a v
  | 14 =>
    match r with
    | 0x1C => done (s.ivwRxDone (bitsOf v 2 0))
    | 0x20 => s.ivwTxq (bitsOf v 3 0)
    | _ => s.mergeWrite a v
  | _ =>
    match r with
    | 0x108 => done (onBit v 0 State.syncLocal s)
    | 0x118 => s.emnTxq (bitsOf v 3 0)
    | 0x120 => done (s.emnRxDone (bitsOf v 3 0))
    | _ => s.mergeWrite a v

/-- A write of WHEEL (R56-R102). -/
def State.wheelWrite (s : State) (ini : Initiator) (r i a : Nat) (v : Word) : State × Bool :=
  match r with
  | 0x000 | 0x004 | 0x00C => s.trackerWrite i a v
  | 0x008 => s.ssiWrite i v
  | 0x100 => s.mergeThen a v 0x80000000#32 (onBit v 31 fun t => t.hwReset i)
  | 0x160 => s.tCfgWrite v
  | 0x200 => done (s.laneDomWrite i v)
  | 0x300 => done (onBit v 0 State.wheelInit s)
  | 0x318 => done (s.poolWarnWrite v)
  | 0x320 => s.mergeThen a v 0x80000000#32 (onBit v 31 State.wheelFlush)
  | 0x400 => done (s.insWrite ini 0 v)
  | 0x404 => done (s.insWrite ini 1 v)
  | 0x408 => done (s.insWrite ini 2 v)
  | _ => s.mergeWrite a v

/-- A write of LANE, CHT or FAB. A chanter under self-test is not handed back (R131). -/
def State.unitWrite (s : State) (b r i j a : Nat) (v : Word) : State × Bool :=
  match b with
  | 17 =>
    match r with
    | 0x00 => s.laneCfgWrite i v
    | 0x10 => s.mgReqWrite i v
    | 0x18 => done (s.blkCtlWrite i v)
    | 0x20 => done (s.blkDataWrite i j v)
    | _ => s.mergeWrite a v
  | 18 =>
    if r = 0x1000 then
      let testing := match s.bist.slice with | some x => x.kind == 1 && x.unit == s.get (F.CHT_C_STAT_PAIR i) | none => false
      s.mergeThen a v 0xC0000000#32 fun t => onBit v 30 (fun u => u.handbackWrite i testing) (onBit v 31 (fun u => u.retireWrite i) t)
    else s.mergeWrite a v
  | _ =>
    match r with
    | 0x00 => done (onBit v 31 State.fabricRelease s)
    | 0x08 => s.srOrderWrite v
    | 0x10 => done (s.contStatWrite v)
    | 0x18 => done (onBit v 0 State.contReenable s)
    | 0x20 => s.capCtlWrite v
    | 0x60 => s.rimCtlWrite v
    | _ => s.mergeWrite a v

/-- A 32-bit write of a register that is defined: its fields and its acts (R5, R8). True = PARAM. -/
def State.regWrite (s : State) (ini : Initiator) (x : Option Nat) (a : Nat) (v : Word) : State × Bool :=
  match regRow? a with
  | none => (s, false)
  | some (d, i, j) =>
    let b := (a - 0x10000000) / 0x10000
    if b ≤ 3 then s.ctlWrite b d.off i a v
    else if b ≤ 8 then s.sysWrite ini b d.off i a v
    else if b = 9 then s.bistWrite d.off a v
    else if b = 10 then s.secWrite ini x d.off a v
    else if b = 11 then s.gpioWrite d.off i a v
    else if b = 12 then s.measWrite d.off i a v
    else if b ≤ 15 then s.netWrite b d.off i a v
    else if b = 16 then s.wheelWrite ini d.off i a v
    else s.unitWrite b d.off i j a v

/-! ## Register reads -/

/-- The insert registers of a drone; another initiator has no set: a free value in their fields (R97), and 0 in the reserved bits of INS_STAT (R7,
R102). -/
def State.insWord (s : State) (ini : Initiator) (k : Nat) : Word :=
  match ini with
  | .drone d =>
    let x := s.droneIns d
    match k with
    | 0 => x.addr
    | 1 => x.evLo
    | _ => BitVec.ofNat 32 (x.waiting % 32 * 65536 + x.code % 16)
  | _ => if k = 2 then BitVec.ofNat 32 s.fresh &&& 0x001F000F#32 else BitVec.ofNat 32 s.fresh

/-- Milliseconds since the last accepted host message of session `x`; 0 in a session that is not open. -/
def State.idleMs (s : State) (x : Nat) : Word :=
  if s.bit (F.IVW_S_STATE_OPEN x) then BitVec.ofNat 32 (min 0xFFFFFFFF ((s.now - (s.session x).idleRef) / (1000 * usCycles))) else 0

/-- The word that register `a` shows to an initiator: computed registers are computed, the others hold their word. -/
def State.regShow (s : State) (ini : Initiator) (b r i a : Nat) : Word :=
  match b, r with
  | 3, 0x83C => s.frameRecWord
  | 3, 0x840 => BitVec.ofNat 32 (s.frameRec s.frameSel).golden
  | 3, 0x844 => s.keysWord
  | 4, 0x24 => s.sectorStat
  | 4, 0x34 => s.journalWord
  | 4, 0x100 => s.suspectWord i
  | 6, 0x104 => setBitsOf (s.rd a) 30 29 (s.level i)
  | 6, 0x108 => s.stackWord i
  | 6, 0x400 => s.irqWord i IrqSlot.pend
  | 6, 0x480 => s.irqWord i IrqSlot.act
  | 6, 0x1000 => if 388 ≤ i ∧ i ≤ 391 then setBitsOf (s.rd a) 29 28 0 else if i = 906 then setBitsOf (s.rd a) 30 30 1 else s.rd a
  | 11, 0x404 | 11, 0x408 => s.rd (R.GPIO_OUT i)
  | 11, 0x608 => s.portRxWord i
  | 11, 0x60C => setBitsOf (setBitsOf (s.rd a) 20 16 (s.port i).tx.length) 12 8 (s.port i).rx.length ||| (if (s.port i).tx = [] then 0 else 1)
  | 11, 0x740 => s.capInfo i
  | 11, 0x744 => s.capTime i
  | 12, 0x00C => if s.adcRawOpen i then setBitsOf 0 15 0 s.fresh else s.rd a
  | 12, 0x018 => setBitsOf (s.rd a) 15 0 (s.adcAge i)
  | 14, 0x18 => s.ivwRxqWord
  | 14, 0x24 => s.ivwTxStat
  | 14, 0x100C => s.idleMs i
  | 15, 0x11C => s.emnRxqWord
  | 15, 0x124 => BitVec.ofNat 32 s.evtHeld
  | 16, 0x080 => low32 s.now
  | 16, 0x084 => s.wheel.timeHi
  | 16, 0x400 => s.insWord ini 0
  | 16, 0x404 => s.insWord ini 1
  | 16, 0x40C => s.insWord ini 2
  | 16, 0x700 => s.notifyA
  | 16, 0x704 => s.notifyB
  | 16, _ => s.show_ a
  | 18, 0x100 => s.noteA
  | 18, 0x104 => s.noteB
  | 19, 0x0C => s.epochWord
  | 19, 0x2C => s.capData
  | 19, 0x8400 => s.mboxOut i
  | _, _ => s.rd a

/-- What a read does to the register it reads: RC fields clear, FIFO entries leave, latches follow (R5, R41, R94, R338). -/
def State.regAfterRead (s : State) (b : Nat) (d : RegDesc) (i a : Nat) : State :=
  let s1 := s.wr a (d.fields.foldl (fun w f => if f.acc = .rc then setBitsOf w f.hi f.lo 0 else w) (s.rd a))
  match b, d.off with
  | 11, 0x608 => s1.portRxPop i
  | 11, 0x744 => s1.capPop i
  | 12, 0x00C => if s.adcRawOpen i then s1.drawn else s1
  | 13, 0x524 => { s1 with ptp := { s1.ptp with capUnread := false } }
  | 16, 0x080 => s1.latchTime
  | 16, 0x704 => s1.notifyPop
  | 16, _ => s1.drawn
  | 18, 0x104 => s1.notePop
  | 19, 0x2C => s1.capAdvance
  | _, _ => s1

/-- A 32-bit read of a register that is defined: its word with WO fields 0, what the read does, and the response (R5, R338). -/
def State.regRead (s : State) (ini : Initiator) (a : Nat) : State × Resp × Word :=
  match regRow? a with
  | none => (s, .decode, 0)
  | some (d, i, _) =>
    let b := (a - 0x10000000) / 0x10000
    let s := if b = 12 ∧ d.off < 0x20 then s.adcsDue else s
    if b = 19 ∧ d.off = 0x2C ∧ s.capReadable = false then (s, .param, 0)
    else
      let w := d.fields.foldl (fun w f => if f.acc = .wo then setBitsOf w f.hi f.lo 0 else w) (s.regShow ini b d.off i a)
      (s.regAfterRead b d i a, .ok, w)

/-! ## Memories -/

/-- Whether the spine may write the engine memory word at `a`: data memories always, a chanter's instruction memory while it is IDLE or
RETIRED, a drone's while a service session halts it (R173). -/
def State.engineMemOpen (s : State) (a : Nat) : Bool :=
  if a < 0x41000000 then
    let n := (a - 0x40000000) / 0x8000
    decide (0x4000 ≤ a % 0x8000) || [1, 3].contains (s.get (F.CHT_C_STAT_STATE n))
  else decide (0x10000 ≤ a % 0x20000) || (s.drone ((a - 0x41000000) / 0x20000)).halted

/-- A spine write to grid-coded memory (R93, R127, R173, R501). -/
def State.gridWrite (s : State) (a w : Nat) (v : BitVec 64) : State × Resp :=
  if w ≠ 8 ∨ a % 8 ≠ 0 then (s, .param)
  else if a < 0x22000000 ∧ s.drainState ≠ 0 then (s.set F.WHEEL_STAT_EVM_WR_BLOCKED 1, .ok)
  else if 0x40000000 ≤ a ∧ s.engineMemOpen a = false then (s, .param)
  else
    let s1 := s.memWrite a v
    (match s.mirrorOf a with | some m => s1.memWrite m v | none => s1, .ok)

/-- A spine read of grid-coded memory: corrected on the fly, or 0x0BAD_0BAD in each half with PARAM (R499, R501). -/
def State.gridRead (s : State) (ini : Initiator) (a w : Nat) : State × Resp × BitVec 64 :=
  if (w ≠ 4 ∧ w ≠ 8) ∨ a % w ≠ 0 then (s, .param, 0)
  else
    let p := s.memRead (iniCode ini) (a / 8 * 8)
    match p.2 with
    | none => (p.1, .param, if w = 8 then 0x0BAD0BAD0BAD0BAD#64 else 0x0BAD0BAD#64)
    | some d => (p.1, .ok, if w = 8 then d else if a % 8 = 0 then d &&& 0xFFFFFFFF#64 else d >>> 32)

/-- A spine read of CFLASH, PFLASH or OTP; a width or an alignment that R171 does not name is refused (log entry 25). -/
def State.nvRead (s : State) (a w bad : Nat) : State × Resp × BitVec 64 :=
  if (w ≠ 4 ∧ w ≠ 8) ∨ a % w ≠ 0 then (s, .param, 0)
  else
    let p := if a < 0x33000000 then s.cfRead a w bad else if a < 0x34000000 then s.pfRead a w bad else s.otpRead a w bad
    (p.1, p.2.1, BitVec.ofNat 64 p.2.2)

/-- An access that reaches its target: the state, the response and the read data. `bad` is the number of bad bits that a code word of
flash or OTP has. -/
def State.spineReach (s : State) (ini : Initiator) (x : Option Nat) (write : Bool) (a w : Nat) (v : BitVec 64) (bad : Nat) : State × Resp × BitVec 64 :=
  match spineKind a with
  | 0 =>
    if w ≠ 4 ∨ a % 4 ≠ 0 then (s, .param, 0)
    else if write then
      let p := s.regWrite ini x a (v.truncate 32)
      (p.1, if p.2 then .param else .ok, 0)
    else
      let p := s.regRead ini a
      (p.1, p.2.1, p.2.2.zeroExtend 64)
  | 1 => if write then ((s.gridWrite a w v).1, (s.gridWrite a w v).2, 0) else s.gridRead ini a w
  | 2 => if write then (s, .param, 0) else s.nvRead a w bad
  | _ => (s, .decode, 0)

/-! ## Decoding, domains that are not ON, responses -/

/-- Whether an address lies in a range of R11, and a register address in its block's register list (R4, R12). The drone-local alias is
decoded before the spine. -/
def spineDecodes (a : Nat) : Bool :=
  if 0x10000000 ≤ a ∧ a < 0x10140000 then (regRow? (a / 4 * 4)).isSome
  else if a < 0x20000 then false
  else if 0x40000000 ≤ a ∧ a < 0x40000000 + 132 * 0x8000 then decide (a % 0x8000 < 0x6000)
  else (addrDomain a).isSome

/-- What a read returns from a domain that is not ON (R447). -/
def offData (write : Bool) : BitVec 64 := if write then 0 else 0xDEAD0FF0#64

/-- Whether the wake that a load, a posted store, a session's word or the fabric's request waits for has failed. -/
def State.stallFailed (s : State) (by_ : StallBy) : Bool :=
  match by_ with
  | .access .. => false
  | _ => s.stalls.any fun e => e.by_ == by_ && e.failed

/-- A spine access as far as its response; none while it stalls for a wake, of which `by_` is then the record (R447). -/
def State.spineTry (s : State) (ini : Initiator) (x : Option Nat) (write : Bool) (a w : Nat) (v : BitVec 64) (bad : Nat) (by_ : StallBy) :
    State × Option (Resp × BitVec 64) :=
  if spineDecodes a = false then (s, some (.decode, 0))
  else
    let d := (addrDomain a).getD 0
    if s.stallFailed by_ then ({ s with stalls := s.stalls.filter fun e => e.by_ != by_ }, some (.domainOff, offData write))
    else if s.domOn d then
      let p := s.spineReach ini x write a w v bad
      (p.1, some p.2)
    else if s.bit (F.PWR_D_CTL_WOA d) then
      let s1 := s.wakeDomain d
      (if s1.stalls.any fun e => e.by_ == by_ then s1 else { s1 with stalls := s1.stalls ++ [{ dom := d, by_ := by_ }] }, none)
    else (s, some (.domainOff, offData write))

/-- An error response to drone `d`: ST.BE, and the code and address of GETS items 10 and 11 (R172). -/
def State.droneError (s : State) (d a : Nat) (r : Resp) : State :=
  if r = .ok then s
  else
    let s1 := s.setSt (132 + d) 13 true
    s1.setEngine (132 + d) { s1.engine (132 + d) with berr := r.code, berrAddr := BitVec.ofNat 32 a }

/-- Record a response for its initiator and log an error; a drone's error response is recorded in the drone too, and what the TAP shifts out
next is its response (R172, R480, R542). -/
def State.respond (s : State) (ini : Initiator) (a : Nat) (r : Resp) (d : BitVec 64) : State :=
  let s1 := s.answer ini a r d
  match ini with
  | .tap => { s1 with sec := { s1.sec with tapOut := r.code :: bytesBE 4 (d.toNat % 2 ^ 32) } }
  | .drone k => s1.droneError k.val a r
  | _ => s1

/-- A spine access of an initiator by itself, with its response. -/
def State.spineAccess (s : State) (ini : Initiator) (write : Bool) (a w : Nat) (v : BitVec 64) (bad : Nat) : State :=
  match s.spineTry ini none write a w v bad (.access ini write a w v bad) with
  | (s1, some (r, d)) => s1.respond ini a r d
  | (s1, none) => s1

/-- Whether the fabric's spine master port reaches an address (R331): GPIO, MEAS, WHEEL, LANE, CHT, FAB, and reads of the RAM window. -/
def fabricReach (write : Bool) (a : Nat) : Bool :=
  if 0x10000000 ≤ a ∧ a < 0x10140000 then [11, 12, 16, 17, 18, 19].contains ((a - 0x10000000) / 0x10000)
  else decide (0x23000000 ≤ a) && decide (a < 0x23400000) && !write

/-- An access that an initiator makes. A drone's obeys R169-R171: one that is not allowed raises its exception and never reaches the spine,
one to the local alias is its own memory, and a drone that does not run makes none. The fabric's reaches what R331 lets it reach. -/
def State.access (s : State) (ini : Initiator) (write : Bool) (a w : Nat) (v : BitVec 64) (bad : Nat) : State :=
  match ini with
  | .drone d =>
    let e := 132 + d.val
    if s.droneRuns d.val = false then s
    else
      match accessOf e a w write with
      | .raise_ k => s.exception e k
      | .spine => s.spineAccess ini write a w v bad
      | .own m =>
        if write then s.memWrite m v
        else
          let p := s.memRead (engineIni e) (m / 8 * 8)
          match p.2 with
          | none => p.1.exception e 5
          | some u => p.1.answer ini a .ok (if w = 8 then u else if m % 8 = 0 then u &&& 0xFFFFFFFF#64 else u >>> 32)
  | .fabric => if fabricReach write a then s.spineAccess ini write a w v bad else { s with spine := Sparse.put (fun _ => {}) s.spine 5 { code := 2 } }
  | _ => s.spineAccess ini write a w v bad

/-- A 32-bit write of a register by an initiator. -/
def State.put (s : State) (ini : Initiator) (a : Nat) (v : Word) : State := s.access ini true a 4 (v.zeroExtend 64) 0

/-- A 32-bit write given as a number. -/
def State.putN (s : State) (ini : Initiator) (a v : Nat) : State := s.put ini a (BitVec.ofNat 32 v)

/-- A 32-bit read of a register by an initiator. -/
def State.fetch (s : State) (ini : Initiator) (a : Nat) : State := s.access ini false a 4 0 0

/-! ## The commands (R5, R496, R501) -/

/-- REGISTER_WRITE (R4, R5, R7, R8, R12). -/
def execRegisterWrite (ini : Initiator) (addr width : Nat) (value : BitVec 64) (s : State) : Out := .next (s.access ini true addr width value 0)

/-- RC_READ (R5): a read of any register. -/
def execRcRead (ini : Initiator) (addr width : Nat) (s : State) : Out := .next (s.access ini false addr width 0 0)

/-- SPINE_MEMORY_WRITE (R501). -/
def execSpineMemoryWrite (ini : Initiator) (addr width : Nat) (value : BitVec 64) (s : State) : Out := .next (s.access ini true addr width value 0)

/-- SPINE_MEMORY_READ (R496). `bad` is the number of bad bits in the code word of flash or OTP. -/
def execSpineMemoryRead (ini : Initiator) (addr width bad : Nat) (s : State) : Out := .next (s.access ini false addr width 0 bad)

end Sys2Proof.Machine
end

