-- ==== Sys2Proof/Machine/SpineUse.lean ====
section
/-! DEFINITION. Sys2Proof/Machine/SpineUse.lean: who uses the spine in the middle of something else: drones' loads and posted stores, the
fabric's spine master port, the Ivwyn engine's REG and MEM requests, the TAP; the spine timeout (R172, R269, R331, R479, R542). -/
namespace Sys2Proof.Machine

/-! ## Drone loads and stores (R172) -/

/-- The load that drone `d` waits for ends with a response: the data goes to rd, or the pair, and the drone goes on. -/
def State.loadEnds (s : State) (d : Fin 4) (double : Bool) (rd a : Nat) (r : Resp) (v : BitVec 64) : State :=
  let e := 132 + d.val
  let s1 := s.respond (.drone d) a r v
  let s2 := s1.setEngine e { s1.engine e with wait := .none }
  if double then s2.putPair e rd (v.truncate 32) ((v >>> 32).truncate 32) else (s2.setGr e rd (v.truncate 32)).step4 e

/-- The oldest posted store of drone `d` ends with a response: a fifth store that waits is posted, and a FENCE goes on when it was the last
(R154, R172). -/
def State.storeEnds (s : State) (d : Fin 4) (a : Nat) (r : Resp) : State :=
  let e := 132 + d.val
  let s1 := s.respond (.drone d) a r 0
  let g := s1.engine e
  let h := { g with posted := g.posted.tail }
  match g.wait with
  | .post p => s1.setEngine e { h with posted := g.posted.tail ++ [p], wait := .none, pc := g.pc + 4#32 }
  | .fence => if g.posted.tail = [] then s1.setEngine e { h with wait := .none, pc := g.pc + 4#32 } else s1.setEngine e h
  | _ => s1.setEngine e h

/-- SPINE_LOAD_COMPLETE (R172). A load is issued after the drone's earlier stores. -/
def execSpineLoadComplete (d : Fin 4) (s : State) : Out :=
  let g := s.engine (132 + d.val)
  match g.wait, g.posted with
  | .load double rd a, [] =>
    match s.spineTry (.drone d) none false a (if double then 8 else 4) 0 0 (.load (132 + d.val)) with
    | (s1, some (r, v)) => .next (s1.loadEnds d double rd a r v)
    | (s1, none) => .next s1
  | _, _ => .next s

/-- POSTED_STORE_RESPONSE (R172): of the oldest store. -/
def execPostedStoreResponse (d : Fin 4) (s : State) : Out :=
  match (s.engine (132 + d.val)).posted with
  | p :: _ =>
    match s.spineTry (.drone d) none true p.addr (if p.double then 8 else 4) p.value 0 (.store (132 + d.val)) with
    | (s1, some (r, _)) => .next (s1.storeEnds d p.addr r)
    | (s1, none) => .next s1
  | [] => .next s

/-! ## The fabric's spine master port (R331) -/

/-- SPM_REQUEST (R331). REQ toggles at the edge that begins micro-step `m`, with EN = 1, and the lanes name the access; a toggle before the
ACK of the last request only counts. -/
def execSpmRequest (m : Nat) (s : State) : Out :=
  let s := s.at_ (s.stepTime m)
  if s.bit F.FAB_SPM_CTL_EN = false ∨ s.rimToggles m 1 255 196 0 = false then .next s
  else if s.fab.spm.busy then .next ((s.count R.FAB_SPM_ERR).raise 500)
  else
    let write := (s.rimOut m 1 255 196).getLsbD 1
    let addr := s.rimEast m 192 2
    .next { s with fab := { s.fab with spm := { s.fab.spm with
      busy := true, write := write, addr := addr, data := BitVec.ofNat 32 (s.rimEast m 194 2), direct := !fabricReach write addr } } }

/-- The port's request ends: ACK toggles, CODE and RDATA; a CODE other than OK counts (R331, R339). -/
def State.spmEnds (s : State) (code : Nat) (v : BitVec 64) : State :=
  let p := s.fab.spm
  let q : Spm := { p with busy := false, direct := false, ack := !p.ack, code := code, rdata := v.truncate 32 }
  let s1 : State := { s with fab := { s.fab with spm := q } }
  if code = 0 then s1 else (s1.count R.FAB_SPM_ERR).raise 500

/-- SPM_RESPONSE (R331). -/
def execSpmResponse (s : State) : Out :=
  let p := s.fab.spm
  if p.busy = false then .next s
  else if p.direct then .next (s.spmEnds 2 0)
  else
    match s.spineTry .fabric none p.write p.addr 4 (p.data.zeroExtend 64) 0 .fabric with
    | (s1, some (r, v)) => .next ((s1.respond .fabric p.addr r v).spmEnds r.code v)
    | (s1, none) => .next s1

/-! ## REG and MEM requests (R269, R270) -/

/-- How a run of words ends: all done with the bytes read, stalled for a wake, or stopped by an error response. -/
inductive BusEnd where
  | done (data : List Nat)
  | stalled (i : Nat) (data : List Nat)
  | error (i : Nat) (r : Resp)
  | closed
deriving DecidableEq, Repr

/-- A REG or MEM request as its body spells it. -/
structure BusReq where
  write : Bool
  w : Nat
  addr : Nat
  count : Nat
  words : List Nat
deriving DecidableEq, Repr

/-- Do `left` words of a request of session `x` from word `i` on; a request whose session closes under it ends. -/
def State.busWords (x : Nat) (q : BusReq) : Nat → Nat → List Nat → State → State × BusEnd
  | 0, _, acc, s => (s, .done acc)
  | left + 1, i, acc, s =>
    let a := (q.addr + q.w * i) % 2 ^ 32
    let v := BitVec.ofNat 64 (fieldBE q.words (q.w * i) q.w)
    match s.spineTry .ivwyn (some x) q.write a q.w v 0 (.session x) with
    | (s1, none) => (s1, .stalled i acc)
    | (s1, some (r, d)) =>
      let s2 := s1.respond .ivwyn a r d
      if s2.bit (F.IVW_S_STATE_OPEN x) = false then (s2, .closed)
      else if r ≠ .ok then (s2, .error i r)
      else State.busWords x q left (i + 1) (if q.write then acc else acc ++ bytesBE q.w d.toNat) s2

/-- The request that a body spells, or its status: COUNT and LENGTH, then the fields that must be 0 and a MEM ADDR aligned to 8 (R269,
R270). -/
def busReq (type : Nat) (b : List Nat) : Nat ⊕ BusReq :=
  let write := type == 0x11 || type == 0x13
  let w := if 0x12 ≤ type then 8 else 4
  let n := fieldBE b 4 2
  if b.length < 8 ∨ n < 1 ∨ 1024 < n * w ∨ b.length ≠ 8 + (if write then n * w else 0) then .inl 1
  else if nonZero b 6 2 = true ∨ (w = 8 ∧ fieldBE b 0 4 % 8 ≠ 0) then .inl 0xB
  else .inr ⟨write, w, fieldBE b 0 4, n, b.drop 8⟩

/-- Answer a REG or MEM request: OK with what it read, or BUS_ERROR with the failing index and the spine's code (R269). -/
def State.busAnswer (s : State) (x : Nat) (q : IvwReq) (e : BusEnd) : State :=
  let s1 := s.setSession x { s.session x with busIdx := 0, busData := [] }
  match e with
  | .done data => s1.ivwAnswer x q.type 0 q.txn data
  | .error i r => s1.ivwAnswer x q.type 5 q.txn (bytesBE 2 i ++ [r.code, 0])
  | .stalled i data => s.setSession x { s.session x with busIdx := i, busData := data }
  | .closed => s

/-- Work the request of type `type` at the head of session `x`, from the word at which it stalled. -/
def State.busRun (s : State) (x type : Nat) : State :=
  match s.ivwHead x type with
  | some q =>
    match busReq type q.body with
    | .inl st => s.ivwAnswer x type st q.txn []
    | .inr r =>
      let k := s.session x
      let p := State.busWords x r (r.count - k.busIdx) k.busIdx k.busData s
      p.1.busAnswer x q p.2
  | none => s

/-- IVWYN_REG_READ (R269). -/
def execIvwynRegRead (x : Fin 256) (s : State) : Out := .next (s.busRun x.val 0x10)

/-- IVWYN_REG_WRITE (R269). -/
def execIvwynRegWrite (x : Fin 256) (s : State) : Out := .next (s.busRun x.val 0x11)

/-- IVWYN_MEM_READ (R269). -/
def execIvwynMemRead (x : Fin 256) (s : State) : Out := .next (s.busRun x.val 0x12)

/-- IVWYN_MEM_WRITE (R269). -/
def execIvwynMemWrite (x : Fin 256) (s : State) : Out := .next (s.busRun x.val 0x13)

/-! ## The TAP (R541, R542) -/

/-- Whether CH_SPINE is open (R541). -/
def State.chSpineOpen (s : State) : Bool :=
  match s.lifecycle with
  | 0 => true
  | 1 => s.alive
  | 2 => s.mode == M.service && s.holderOf == 2
  | _ => false

/-- CH_SPINE (R541, R542). CMD 1 reads and 2 writes 32 bits; another CMD issues no access (log entry 26). -/
def execChSpine (t : Nat) (cmd : Fin 16) (addr data : BitVec 32) (s : State) : Out :=
  let s0 := s.at_ t
  if s0.chSpineOpen = false then .next s0.tapBypassed
  else
    let s1 := s0.tap 0x23 s0.sec.tapOut
    let s2 : State := { s1 with sec := { s1.sec with lastTap := s1.now } }
    if cmd.val = 1 then .next (s2.access .tap false addr.toNat 4 0 0)
    else if cmd.val = 2 then .next (s2.access .tap true addr.toNat 4 (data.zeroExtend 64) 0)
    else .next s2

/-! ## The spine timeout (R479) -/

/-- The session whose REG or MEM request has the word at `a` next, and that request. -/
def State.busWaits (s : State) (write : Bool) (a : Nat) : Option (Nat × IvwReq × BusReq) :=
  (List.range 256).findSome? fun x =>
    match (s.session x).queue with
    | q :: _ =>
      if [0x10, 0x11, 0x12, 0x13].contains q.type then
        match busReq q.type q.body with
        | .inr r =>
          if r.write = write ∧ r.addr + r.w * (s.session x).busIdx ≤ a ∧ a < r.addr + r.w * r.count ∧ (a - r.addr) % r.w = 0 then some (x, q, r) else none
        | .inl _ => none
      else none
    | [] => none

/-- SPINE_TIMEOUT (R479, R480). An access has had no response for 256 SPINE cycles: TIMEOUT, with data 0. Whether it took effect at its
target is open: `landed` says so. It may be a drone's load or oldest posted store, the fabric port's request, a word of an Ivwyn request
(the words before it are done), or an access by itself. -/
def execSpineTimeout (ini : Initiator) (write : Bool) (addr width : Nat) (value : BitVec 64) (landed : Bool) (s : State) : Out :=
  let reach (u : State) (x : Option Nat) (w : Nat) (v : BitVec 64) : State :=
    if landed = true ∧ spineDecodes addr = true ∧ u.domOn ((addrDomain addr).getD 0) = true then (u.spineReach ini x write addr w v 0).1 else u
  match ini with
  | .drone d =>
    let g := s.engine (132 + d.val)
    match g.posted, g.wait with
    | p :: _, _ => if write = true ∧ p.addr = addr then .next ((reach s none (if p.double then 8 else 4) p.value).storeEnds d addr .timeout) else .next s
    | [], .load double rd a => if write = false ∧ a = addr then .next ((reach s none (if double then 8 else 4) 0).loadEnds d double rd addr .timeout 0) else .next s
    | [], _ =>
      if s.droneRuns d.val = true ∧ accessOf (132 + d.val) addr width write = .spine then .next ((reach s none width value).respond ini addr .timeout 0)
      else .next s
  | .fabric =>
    if s.fab.spm.busy = true ∧ s.fab.spm.direct = false ∧ s.fab.spm.addr = addr ∧ s.fab.spm.write = write then
      .next (((reach s none 4 (s.fab.spm.data.zeroExtend 64)).respond ini addr .timeout 0).spmEnds 3 0)
    else .next s
  | .ivwyn =>
    match s.busWaits write addr with
    | some (x, q, r) =>
      let i := (addr - r.addr) / r.w
      let k := s.session x
      let p := State.busWords x r (i - k.busIdx) k.busIdx k.busData s
      match p.2 with
      | .done _ => .next (((reach p.1 (some x) r.w (BitVec.ofNat 64 (fieldBE r.words (r.w * i) r.w))).respond ini addr .timeout 0).busAnswer x q (.error i .timeout))
      | e => .next (p.1.busAnswer x q e)
    | none => .next s
  | .tap => .next ((reach s none width value).respond ini addr .timeout 0)

end Sys2Proof.Machine
end

