-- ==== Sys2Proof/Machine/Wake.lean ====
section
/-! DEFINITION. Sys2Proof/Machine/Wake.lean: the end of a wake attempt, with the accesses that wait for it (R444-R447). -/
namespace Sys2Proof.Machine

/-- The stalled accesses of domain `d` go on: one that an initiator made by itself completes; the others complete at their next response
event (R447). -/
def State.stallsGo (s : State) (d : Nat) : State :=
  (s.stalls.filter fun e => e.dom == d).foldl
    (fun (u : State) e => match e.by_ with
      | .access ini write a w v bad => u.spineAccess ini write a w v bad
      | _ => u)
    { s with stalls := s.stalls.filter fun e => e.dom != d }

/-- The stalled accesses of domain `d` complete with DOMAIN_OFF: at once, or at their next response event (R447). -/
def State.stallsFail (s : State) (d : Nat) : State :=
  (s.stalls.filter fun e => e.dom == d).foldl
    (fun (u : State) e => match e.by_ with
      | .access ini write a _ _ _ => u.respond ini a .domainOff (offData write)
      | b => { u with stalls := u.stalls ++ [{ dom := d, by_ := b, failed := true }] })
    { s with stalls := s.stalls.filter fun e => e.dom != d }

/-- 250 µs (R444). -/
abbrev wakeBound : Nat := 100000

/-- Whether the attempt of domain `d` can fail with a cause now: ready or isolation at the 250 µs bound, a lock at 100 µs or at once without a band, a restore from
OFF at any moment (R444). -/
def State.wakeCanFail (s : State) (d cause : Nat) : Bool :=
  let x := s.pwrDom d
  match cause with
  | 1 => decide (x.wakeAt + wakeBound ≤ s.now)
  | 2 => decide (x.wakeAt + wakeBound ≤ s.now)
  | 3 => decide (21 ≤ d) && !s.locked (d - 21) && ((s.nextBand (d - 21)).isNone || decide (x.wakeAt + lockBound ≤ s.now))
  | 4 => x.prior == P.off && decide (d ≤ 20)
  | _ => false

/-- DOMAIN_WAKE_DONE (R443, R444, R446, R447). The domain is ON; a PLL's ready step is its lock, which
comes before the end of R453's 100 µs. -/
def execDomainWakeDone (d : Fin 23) (t : Nat) (s : State) : Out :=
  let s0 := s.at_ t
  if s0.pwrState d.val = P.waking ∧ s0.now < (s0.pwrDom d.val).wakeAt + (if 21 ≤ d.val then lockBound else wakeBound) ∧ (d.val < 21 ∨ s0.locked (d.val - 21) = true) then
    .next (((s0.domainUp d.val).stallsGo d.val).settle d.val)
  else .next s0

/-- WAKE_ATTEMPT_FAIL (R444, R445, R447). Cause 1 REG_TIMEOUT, 2 ISO_TIMEOUT, 3 PLL_LOCK, 4 RESTORE: an uncorrectable word of the configuration
shadow, which is logged (R499, R500). -/
def execWakeAttemptFail (d : Fin 23) (cause : Fin 5) (t : Nat) (s : State) : Out :=
  let s0 := s.at_ t
  if s0.pwrState d.val = P.waking ∧ s0.wakeCanFail d.val cause.val = true then .next (((if cause.val = 4 then s0.eccInternal 0xA else s0).wakeFailed d.val cause.val).stallsFail d.val) else .next s0

end Sys2Proof.Machine
end

