-- ==== Sys2Proof/Machine/SpineRows.lean ====
section
/-! DEFINITION. Sys2Proof/Machine/SpineRows.lean: the commands that are a write or a read of one register over the spine. Each makes the
access of that register with the value that its row names; the other fields of the register keep what they hold. -/
namespace Sys2Proof.Machine

/-- A write that keeps the bits `keep` of the register and sets the bits `set`. -/
def State.putKeep (s : State) (ini : Initiator) (a keep set : Nat) : State :=
  s.put ini a ((s.rd a &&& BitVec.ofNat 32 keep) ||| BitVec.ofNat 32 set)

/-- FWP_N as the command samples it (R420). -/
def State.withFwp (s : State) (high : Bool) : State := { s with flash := { s.flash with fwp := high } }

/-- A write of an AON register whose act takes more than the value: the checks of an access by its initiator, then the act. -/
def State.actAs (s : State) (ini : Initiator) (a : Nat) (act : State → State × Bool) : State :=
  let p := act s
  let go := p.1.respond ini a (if p.2 then .param else .ok) 0
  match ini with
  | .drone d => if s.droneRuns d.val then go else s
  | .fabric => { s with spine := Sparse.put (fun _ => {}) s.spine 5 { code := 2 } }
  | _ => go

/-! ## Modes (R18, R24, R29, R30) -/

/-- REQ_ARMED (R18, R23, R31). -/
def execReqArmed (ini : Initiator) (s : State) : Out := .next (s.putN ini R.SYS_MODE_CTL 5)

/-- REQ_RUN (R30). -/
def execReqRun (ini : Initiator) (s : State) : Out := .next (s.putN ini R.SYS_MODE_CTL 6)

/-- REQ_HOLD (R24). -/
def execReqHold (ini : Initiator) (s : State) : Out := .next (s.putN ini R.SYS_MODE_CTL 8)

/-- REQ_RESTART (R29). -/
def execReqRestart (ini : Initiator) (s : State) : Out := .next (s.putN ini R.SYS_MODE_CTL 0xA50F)

/-! ## The wheel (R56, R62, R63, R85, R89, R91, R94, R97) -/

/-- TRACKER_CFG_WRITE (R56): 0 SHx_CFG, 1 SHx_EDGES, 2 SHx_ZERO. -/
def execTrackerCfgWrite (ini : Initiator) (x : Fin 2) (reg : Fin 3) (value : BitVec 32) (s : State) : Out :=
  .next (s.put ini (match reg with | 0 => R.WHEEL_SH_CFG x.val | 1 => R.WHEEL_SH_EDGES x.val | _ => R.WHEEL_SH_ZERO x.val) value)

/-- T_CFG_WRITE (R63). -/
def execTCfgWrite (ini : Initiator) (value : BitVec 32) (s : State) : Out := .next (s.put ini R.WHEEL_T_CFG value)

/-- LANE_DOM_WRITE (R62). -/
def execLaneDomWrite (ini : Initiator) (k : Fin 16) (value : BitVec 32) (s : State) : Out := .next (s.put ini (R.WHEEL_LANE_DOM k.val) value)

/-- DOM_HW_RESET (R85). -/
def execDomHwReset (ini : Initiator) (d : Fin 3) (s : State) : Out := .next (s.putKeep ini (R.WHEEL_DOM_CTL d.val) 0x07FFFFFF 0x80000000)

/-- INS_EV_HI_WRITE (R97). -/
def execInsEvHiWrite (d : Fin 4) (value : BitVec 32) (s : State) : Out := .next (s.put (.drone d) R.WHEEL_INS_EV_HI value)

/-- WHEEL_INIT (R89). -/
def execWheelInit (ini : Initiator) (s : State) : Out := .next (s.putN ini R.WHEEL_CTL 1)

/-- WHEEL_FLUSH (R91). -/
def execWheelFlush (ini : Initiator) (lane : Fin 256) (s : State) : Out := .next (s.putN ini R.WHEEL_FLUSH (0x80000000 + lane.val))

/-- NOTIFY_B_READ (R94). -/
def execNotifyBRead (ini : Initiator) (s : State) : Out := .next (s.fetch ini R.WHEEL_NOTIFY_B)

/-- TIME_LO_READ (R41). -/
def execTimeLoRead (ini : Initiator) (s : State) : Out := .next (s.fetch ini R.WHEEL_TIME_LO)

/-! ## Chanters and lanes (R127, R130, R132, R201, R203, R216) -/

/-- CHANTER_RETIRE (R127, R131). -/
def execChanterRetire (ini : Initiator) (n : Fin 132) (s : State) : Out := .next (s.putKeep ini (R.CHT_C_CTL n.val) 0x1FF 0x80000000)

/-- CHANTER_HANDBACK (R130, R131). -/
def execChanterHandback (ini : Initiator) (n : Fin 132) (s : State) : Out := .next (s.putKeep ini (R.CHT_C_CTL n.val) 0x1FF 0x40000000)

/-- NOTE_B_READ (R132). -/
def execNoteBRead (ini : Initiator) (s : State) : Out := .next (s.fetch ini R.CHT_NOTE_B)

/-- MG_REQUEST (R201). -/
def execMgRequest (ini : Initiator) (l : Fin 256) (value : BitVec 32) (s : State) : Out := .next (s.put ini (R.LANE_MG_REQ l.val) value)

/-- BLOCK_GO (R203). -/
def execBlockGo (ini : Initiator) (l : Fin 256) (s : State) : Out := .next (s.putN ini (R.LANE_BLK_CTL l.val) 0x80000000)

/-- LANE_ENABLE (R212, R216). -/
def execLaneEnable (ini : Initiator) (l : Fin 256) (s : State) : Out := .next (s.putKeep ini (R.LANE_CFG l.val) 0x7FFFFFFF 0x80000000)

/-- LANE_DISABLE (R216). -/
def execLaneDisable (ini : Initiator) (l : Fin 256) (s : State) : Out := .next (s.putKeep ini (R.LANE_CFG l.val) 0x7FFFFFFF 0)

/-! ## Measurement, network, chain (R227-R232, R243, R260, R263, R264, R276, R286, R290, R296) -/

/-- ADC_ENABLE (R227, R232). -/
def execAdcEnable (ini : Initiator) (k : Fin 4) (s : State) : Out := .next (s.putKeep ini (R.MEAS_ADC_CTL k.val) 0x3FFFFFFF 0x80000000)

/-- ADC_DISABLE (R232). -/
def execAdcDisable (ini : Initiator) (k : Fin 4) (s : State) : Out := .next (s.putKeep ini (R.MEAS_ADC_CTL k.val) 0x3FFFFFFF 0)

/-- ADC_START (R230, R231). -/
def execAdcStart (ini : Initiator) (k : Fin 4) (s : State) : Out := .next (s.putKeep ini (R.MEAS_ADC_CTL k.val) 0xBFFFFFFF 0x40000000)

/-- CMP_CONFIG_WRITE (R243): 0 CMPk_CFG, 1 CMPk_THR, 2 UCAL of its DAC. -/
def execCmpConfigWrite (ini : Initiator) (k : Fin 8) (reg : Fin 3) (value : BitVec 32) (s : State) : Out :=
  .next (s.put ini (match reg with | 0 => R.MEAS_CMP_CFG k.val | 1 => R.MEAS_CMP_THR k.val | _ => R.MEAS_UCAL (0x10 + k.val)) value)

/-- GCL_CHANGE (R260). -/
def execGclChange (ini : Initiator) (p : Fin 4) (s : State) : Out := .next (s.putKeep ini (R.NET_E_GCL_CTL p.val) 0x800001FF 0x40000000)

/-- XCAP_GO (R263). -/
def execXcapGo (ini : Initiator) (s : State) : Out := .next (s.putKeep ini R.NET_XCAP_CTL 0xF 0x80000000)

/-- IP_ADDR_WRITE (R264). -/
def execIpAddrWrite (ini : Initiator) (value : BitVec 32) (s : State) : Out := .next (s.put ini R.NET_IP_ADDR value)

/-- IVW_RX_DONE (R272, R276). -/
def execIvwRxDone (ini : Initiator) (buf : Fin 8) (s : State) : Out := .next (s.putN ini R.IVW_RX_DONE buf.val)

/-- IVW_TXQ (R273, R275, R276). -/
def execIvwTxq (ini : Initiator) (buf : Fin 16) (s : State) : Out := .next (s.putN ini R.IVW_TXQ buf.val)

/-- SYNC_GO (R290). -/
def execSyncGo (ini : Initiator) (s : State) : Out := .next (s.putN ini R.EMN_TRIG_CTL 1)

/-- EMN_TXQ (R286). -/
def execEmnTxq (ini : Initiator) (buf : Fin 16) (s : State) : Out := .next (s.putN ini R.EMN_TXQ buf.val)

/-- EMN_RX_DONE (R296). -/
def execEmnRxDone (ini : Initiator) (buf : Fin 16) (s : State) : Out := .next (s.putN ini R.EMN_RX_DONE buf.val)

/-! ## Fabric and configuration (R317, R333-R338, R347-R353, R360, R394, R395) -/

/-- FABRIC_RELEASE (R333, R334). -/
def execFabricRelease (ini : Initiator) (s : State) : Out := .next (s.putN ini R.FAB_CTL 0x80000000)

/-- CONT_REENABLE (R317). -/
def execContReenable (ini : Initiator) (s : State) : Out := .next (s.putN ini R.FAB_CONT_CLR 1)

/-- CAPTURE_GO (R336, R338). -/
def execCaptureGo (ini : Initiator) (s : State) : Out := .next (s.putKeep ini R.FAB_CAP_CTL 0x3FFFFFFF 0x80000000)

/-- CAPTURE_FREE (R338). -/
def execCaptureFree (ini : Initiator) (s : State) : Out := .next (s.putKeep ini R.FAB_CAP_CTL 0x3FFFFFFF 0x40000000)

/-- CAP_DATA_READ (R337, R338). -/
def execCapDataRead (ini : Initiator) (s : State) : Out := .next (s.fetch ini R.FAB_CAP_DATA)

/-- PR_CLAIM (R347): a write of OWNER, or a change of the rim's CLAIM lane. -/
def execPrClaim (x : PrClaim) (s : State) : Out :=
  match x with
  | .write ini o => .next (s.putKeep ini R.CFG_PR_CTL 0x0C000000 (o.val * 0x40000000))
  | .rim m =>
    let s := s.at_ (s.stepTime m)
    .next (s.prClaim ((s.rimOut m 3 0 253).getLsbD 0))

/-- PR_START (R348, R350). -/
def execPrStart (ini : Initiator) (flash : Bool) (s : State) : Out :=
  .next (s.putKeep ini R.CFG_PR_CTL 0xC4000000 (0x20000000 + if flash then 0x08000000 else 0))

/-- PR_ABORT (R350, R353). -/
def execPrAbort (ini : Initiator) (s : State) : Out := .next (s.putKeep ini R.CFG_PR_CTL 0xCC000000 0x10000000)

/-- PR_DATA_PUSH (R348). -/
def execPrDataPush (ini : Initiator) (value : BitVec 32) (s : State) : Out := .next (s.put ini R.CFG_PR_DATA value)

/-- RESTORE_RELEASE (R360). -/
def execRestoreRelease (ini : Initiator) (s : State) : Out := .next (s.putN ini R.CFG_RESTORE_STAT 0x80000000)

/-- UPD_GO (R394). -/
def execUpdGo (ini : Initiator) (s : State) : Out := .next (s.putN ini R.CFG_UPD_CTL 0x80000000)

/-- PROMOTE (R395, R409, R420). `jfails` is the number of journal writes that fail. -/
def execPromote (ini : Initiator) (fwp : Bool) (jfails : Fin 4) (s : State) : Out :=
  .next ((s.withFwp fwp).actAs ini R.CFG_UPD_CTL fun t => (t.updCtlWrite 0x40000000#32 jfails.val, false))

/-! ## Flash and OTP (R411-R431) -/

/-- PAGE_PROG (R412). -/
def execPageProg (ini : Initiator) (fwp : Bool) (s : State) : Out := .next ((s.withFwp fwp).putN ini R.FLASH_CMD 0x10000000)

/-- SECTOR_ERASE (R405, R412). `jfails` is the number of journal writes of its ERASE_BEGIN that fail. -/
def execSectorErase (ini : Initiator) (fwp : Bool) (jfails : Fin 4) (s : State) : Out :=
  .next ((s.withFwp fwp).actAs ini R.FLASH_CMD fun t => t.flashCmdWrite 0x20000000#32 jfails.val)

/-- SEAL (R412). -/
def execSeal (ini : Initiator) (s : State) : Out := .next (s.putN ini R.FLASH_CMD 0x30000000)

/-- CHECK_SEAL (R412). -/
def execCheckSeal (ini : Initiator) (s : State) : Out := .next (s.putN ini R.FLASH_CMD 0x40000000)

/-- MARGIN_READ (R412). -/
def execMarginRead (ini : Initiator) (s : State) : Out := .next (s.putN ini R.FLASH_CMD 0x50000000)

/-- SUSPEND (R414). -/
def execSuspend (ini : Initiator) (s : State) : Out := .next (s.putN ini R.FLASH_CMD 0x60000000)

/-- RESUME (R414, R415). -/
def execResume (ini : Initiator) (s : State) : Out := .next (s.putN ini R.FLASH_CMD 0x70000000)

/-- PF_PROG (R412). -/
def execPfProg (ini : Initiator) (fwp : Bool) (s : State) : Out := .next ((s.withFwp fwp).putN ini R.FLASH_CMD 0x80000000)

/-- PF_ERASE (R412). -/
def execPfErase (ini : Initiator) (fwp : Bool) (s : State) : Out := .next ((s.withFwp fwp).putN ini R.FLASH_CMD 0x90000000)

/-- OTP_PROGRAM (R425, R430). -/
def execOtpProgram (ini : Initiator) (fwp : Bool) (s : State) : Out := .next ((s.withFwp fwp).putN ini R.OTP_CTL 0x80000000)

/-! ## Power and clocks (R434, R440, R458, R462, R463, R466) -/

/-- PHASE_REARM (R434). -/
def execPhaseRearm (ini : Initiator) (mask : Fin 64) (s : State) : Out := .next (s.putN ini R.PWR_PHASE_CTL mask.val)

/-- DOMAIN_REQUEST (R440, R441). AON has no such register (R12). -/
def execDomainRequest (ini : Initiator) (d : Fin 23) (req : Fin 4) (s : State) : Out := .next (s.putKeep ini (R.PWR_D_CTL d.val) 0x130 req.val)

/-- CORE_SWITCH (R458). -/
def execCoreSwitch (ini : Initiator) (s : State) : Out := .next (s.putKeep ini R.CLK_CTL 0x40000000 0x80000000)

/-- PLL_RETURN (R462). -/
def execPllReturn (ini : Initiator) (s : State) : Out := .next (s.putKeep ini R.CLK_CTL 0x40000000 0x20000000)

/-- PLL_RELOCK (R463). -/
def execPllRelock (ini : Initiator) (x : Fin 2) (s : State) : Out := .next (s.putN ini (R.CLK_PLL_CTL x.val) 0x80000000)

/-- CLKOUT_CFG_WRITE (R466). -/
def execClkoutCfgWrite (ini : Initiator) (k : Fin 4) (value : BitVec 32) (s : State) : Out := .next (s.put ini (R.CLK_CLKOUT_CFG k.val) value)

/-! ## Interrupts, snapshots, scrubbing, self-test (R478, R481, R485, R487, R504, R521, R524) -/

/-- IRQ_RAISE (R478). -/
def execIrqRaise (ini : Initiator) (k : Fin 32) (value : BitVec 32) (s : State) : Out := .next (s.put ini (R.IRQ_RAISE k.val) value)

/-- IRQ_PEND_CLEAR (R474, R478). -/
def execIrqPendClear (ini : Initiator) (k : Fin 32) (value : BitVec 32) (s : State) : Out := .next (s.put ini (R.IRQ_PEND k.val) value)

/-- WD_ENABLE (R481). -/
def execWdEnable (ini : Initiator) (d : Fin 4) (period : Nat) (s : State) : Out :=
  .next (s.putN ini (R.IRQ_D_WD_CFG d.val) (0x80000000 + period % 131072))

/-- WD_KICK (R481). -/
def execWdKick (ini : Initiator) (d : Fin 4) (value : BitVec 32) (s : State) : Out := .next (s.put ini (R.IRQ_D_WD_KICK d.val) value)

/-- DRONE_UNRETIRE (R485). -/
def execDroneUnretire (ini : Initiator) (d : Fin 4) (s : State) : Out := .next (s.putKeep ini (R.IRQ_D_CTL d.val) 3 0x80000000)

/-- SNAP_GO (R487). -/
def execSnapGo (ini : Initiator) (s : State) : Out := .next (s.putKeep ini R.SNAP_CTL 3 0x80000000)

/-- SNAP_FREE (R490). -/
def execSnapFree (ini : Initiator) (s : State) : Out := .next (s.putKeep ini R.SNAP_CTL 3 0x40000000)

/-- SCRUB_PASS (R504). -/
def execScrubPass (ini : Initiator) (s : State) : Out := .next (s.putN ini R.ECC_SCRUB_CTL 0x80000000)

/-- FILL_PASS (R504). -/
def execFillPass (ini : Initiator) (s : State) : Out := .next (s.putN ini R.ECC_SCRUB_CTL 0x80000001)

/-- SCRUB_ABORT (R505). -/
def execScrubAbort (ini : Initiator) (s : State) : Out := .next (s.putKeep ini R.ECC_SCRUB_CTL 3 0x40000000)

/-- MANUAL_SLICE (R524). -/
def execManualSlice (ini : Initiator) (s : State) : Out := .next (s.putKeep ini R.BIST_CTL 0x80000000 0x40000000)

/-- TRACT_USE_WRITE (R521). -/
def execTractUseWrite (ini : Initiator) (value : BitVec 32) (s : State) : Out := .next (s.put ini R.BIST_TRACT_USE value)

/-! ## Security (R539, R543, R547-R549) -/

/-- SVC_HALT (R539). -/
def execSvcHalt (ini : Initiator) (mask : Fin 16) (s : State) : Out := .next (s.putKeep ini R.SEC_SVC_CTL 0xF mask.val)

/-- SVC_RESTART (R539). The HALT bits of the drones it restarts are written 0. -/
def execSvcRestart (ini : Initiator) (mask : Fin 16) (s : State) : Out := .next (s.putKeep ini R.SEC_SVC_CTL (15 - mask.val) (16 * mask.val))

/-- CHALLENGE_NEW (R549). -/
def execChallengeNew (ini : Initiator) (s : State) : Out := .next (s.putN ini R.SEC_CHAL_CTL 1)

/-- PROV_GO (R547). -/
def execProvGo (ini : Initiator) (t : Nat) (fwp : Bool) (s : State) : Out := .next (((s.at_ t).withFwp fwp).putN ini R.SEC_PROV_CTL 0x80000000)

/-- PROV_END (R548). -/
def execProvEnd (ini : Initiator) (s : State) : Out := .next (s.putN ini R.SEC_PROV_CTL 0x40000000)

/-- ATTEST_GO (R543). -/
def execAttestGo (ini : Initiator) (t : Nat) (s : State) : Out := .next ((s.at_ t).putN ini R.SEC_ATT_CTL 0x80000000)

/-! ## Pins (R560-R566) -/

/-- OUT_SET (R565). -/
def execOutSet (ini : Initiator) (k : Fin 8) (value : BitVec 32) (s : State) : Out := .next (s.put ini (R.GPIO_OUT_SET k.val) value)

/-- OUT_CLR (R565). -/
def execOutClr (ini : Initiator) (k : Fin 8) (value : BitVec 32) (s : State) : Out := .next (s.put ini (R.GPIO_OUT_CLR k.val) value)

/-- OUT_TGL (R565). -/
def execOutTgl (ini : Initiator) (k : Fin 8) (value : BitVec 32) (s : State) : Out := .next (s.put ini (R.GPIO_OUT_TGL k.val) value)

/-- GP_CFG_WRITE (R560, R567, R571). -/
def execGpCfgWrite (ini : Initiator) (n : Fin 128) (value : BitVec 32) (s : State) : Out := .next (s.put ini (R.GPIO_GP_CFG n.val) value)

/-- CAP_TIME_READ (R564). -/
def execCapTimeRead (ini : Initiator) (k : Fin 8) (s : State) : Out := .next (s.fetch ini (R.GPIO_CAP_TIME k.val))

/-- PORT_TX_WRITE (R561). -/
def execPortTxWrite (ini : Initiator) (k : Fin 8) (value : BitVec 32) (s : State) : Out := .next (s.put ini (R.GPIO_PORT_TX k.val) value)

/-- I2C_START (R561). -/
def execI2cStart (ini : Initiator) (k : Fin 8) (s : State) : Out := .next (s.putN ini (R.GPIO_PORT_TX k.val) 0x100)

/-- I2C_WRITE (R561). -/
def execI2cWrite (ini : Initiator) (k : Fin 8) (data : BitVec 8) (s : State) : Out := .next (s.putN ini (R.GPIO_PORT_TX k.val) (0x200 + data.toNat))

/-- I2C_READ_ACK (R561). -/
def execI2cReadAck (ini : Initiator) (k : Fin 8) (s : State) : Out := .next (s.putN ini (R.GPIO_PORT_TX k.val) 0x300)

/-- I2C_READ_NACK (R561). -/
def execI2cReadNack (ini : Initiator) (k : Fin 8) (s : State) : Out := .next (s.putN ini (R.GPIO_PORT_TX k.val) 0x400)

/-- I2C_STOP (R561). -/
def execI2cStop (ini : Initiator) (k : Fin 8) (s : State) : Out := .next (s.putN ini (R.GPIO_PORT_TX k.val) 0x500)

/-- PORT_RX_READ (R561). -/
def execPortRxRead (ini : Initiator) (k : Fin 8) (s : State) : Out := .next (s.fetch ini (R.GPIO_PORT_RX k.val))

/-- PWM_WRITE (R562). -/
def execPwmWrite (ini : Initiator) (k : Fin 8) (value : BitVec 32) (s : State) : Out := .next (s.put ini (R.GPIO_PWM k.val) value)

end Sys2Proof.Machine
end

