-- ==== Sys2Proof/Machine/Dispatch.lean ====
section
/-! DEFINITION. Sys2Proof/Machine/Dispatch.lean: one arm for each command; each arm is one call of its meaning. -/
namespace Sys2Proof.Machine

def exec (i : Instr) (s : State) : Host.Outcome State Fault Refusal :=
  match i with
  | .registerWrite ini addr width value => Sys2Proof.Machine.execRegisterWrite ini addr width value s
  | .rcRead ini addr width => Sys2Proof.Machine.execRcRead ini addr width s
  | .spineMemoryWrite ini addr width value => Sys2Proof.Machine.execSpineMemoryWrite ini addr width value s
  | .spineMemoryRead ini addr width bad => Sys2Proof.Machine.execSpineMemoryRead ini addr width bad s
  | .spineTimeout ini write addr width value landed => Sys2Proof.Machine.execSpineTimeout ini write addr width value landed s
  | .reqArmed ini => Sys2Proof.Machine.execReqArmed ini s
  | .reqRun ini => Sys2Proof.Machine.execReqRun ini s
  | .reqHold ini => Sys2Proof.Machine.execReqHold ini s
  | .reqRestart ini => Sys2Proof.Machine.execReqRestart ini s
  | .armTakeEffect f => Sys2Proof.Machine.execArmTakeEffect f s
  | .safeBurstEnd => Sys2Proof.Machine.execSafeBurstEnd s
  | .resetPin ns => Sys2Proof.Machine.execResetPin ns s
  | .resetExit chainUp pullUp banks unc => Sys2Proof.Machine.execResetExit chainUp pullUp banks unc s
  | .encoderEdge x t stood a0 b0 a1 b1 => Sys2Proof.Machine.execEncoderEdge x t stood a0 b0 a1 b1 s
  | .indexPulse x t => Sys2Proof.Machine.execIndexPulse x t s
  | .ssiSample x t word => Sys2Proof.Machine.execSsiSample x t word s
  | .trackerStall x t => Sys2Proof.Machine.execTrackerStall x t s
  | .trackerCfgWrite ini x reg value => Sys2Proof.Machine.execTrackerCfgWrite ini x reg value s
  | .tTick t => Sys2Proof.Machine.execTTick t s
  | .tCfgWrite ini value => Sys2Proof.Machine.execTCfgWrite ini value s
  | .laneDomWrite ini k value => Sys2Proof.Machine.execLaneDomWrite ini k value s
  | .domHwReset ini d => Sys2Proof.Machine.execDomHwReset ini d s
  | .wheelInsertOffer o => Sys2Proof.Machine.execWheelInsertOffer o s
  | .insEvHiWrite d value => Sys2Proof.Machine.execInsEvHiWrite d value s
  | .wheelInsert => Sys2Proof.Machine.execWheelInsert s
  | .drainPosition d t => Sys2Proof.Machine.execDrainPosition d t s
  | .heldBinSkip d t => Sys2Proof.Machine.execHeldBinSkip d t s
  | .eventDelivery d => Sys2Proof.Machine.execEventDelivery d s
  | .wheelInit ini => Sys2Proof.Machine.execWheelInit ini s
  | .wheelInitDone => Sys2Proof.Machine.execWheelInitDone s
  | .wheelFlush ini lane => Sys2Proof.Machine.execWheelFlush ini lane s
  | .wheelFlushDone => Sys2Proof.Machine.execWheelFlushDone s
  | .notifyBRead ini => Sys2Proof.Machine.execNotifyBRead ini s
  | .timeLoRead ini => Sys2Proof.Machine.execTimeLoRead ini s
  | .frameCommit c f => Sys2Proof.Machine.execFrameCommit c f s
  | .pairHandover g f => Sys2Proof.Machine.execPairHandover g f s
  | .chanterRetire ini n => Sys2Proof.Machine.execChanterRetire ini n s
  | .chanterHandback ini n => Sys2Proof.Machine.execChanterHandback ini n s
  | .noteBRead ini => Sys2Proof.Machine.execNoteBRead ini s
  | .nop e x => Sys2Proof.Machine.execNop e x s
  | .add e x => Sys2Proof.Machine.execAdd e x s
  | .sub e x => Sys2Proof.Machine.execSub e x s
  | .and e x => Sys2Proof.Machine.execAnd e x s
  | .or e x => Sys2Proof.Machine.execOr e x s
  | .xor e x => Sys2Proof.Machine.execXor e x s
  | .shl e x => Sys2Proof.Machine.execShl e x s
  | .shr e x => Sys2Proof.Machine.execShr e x s
  | .sra e x => Sys2Proof.Machine.execSra e x s
  | .mul e x => Sys2Proof.Machine.execMul e x s
  | .mulh e x => Sys2Proof.Machine.execMulh e x s
  | .min e x => Sys2Proof.Machine.execMin e x s
  | .max e x => Sys2Proof.Machine.execMax e x s
  | .div e x => Sys2Proof.Machine.execDiv e x s
  | .sel e x => Sys2Proof.Machine.execSel e x s
  | .cmp e x => Sys2Proof.Machine.execCmp e x s
  | .plog e x => Sys2Proof.Machine.execPlog e x s
  | .addi e x => Sys2Proof.Machine.execAddi e x s
  | .andi e x => Sys2Proof.Machine.execAndi e x s
  | .ori e x => Sys2Proof.Machine.execOri e x s
  | .xori e x => Sys2Proof.Machine.execXori e x s
  | .shli e x => Sys2Proof.Machine.execShli e x s
  | .shri e x => Sys2Proof.Machine.execShri e x s
  | .srai e x => Sys2Proof.Machine.execSrai e x s
  | .cmpi e x => Sys2Proof.Machine.execCmpi e x s
  | .ext e x => Sys2Proof.Machine.execExt e x s
  | .dep e x => Sys2Proof.Machine.execDep e x s
  | .movi e x => Sys2Proof.Machine.execMovi e x s
  | .movhi e x => Sys2Proof.Machine.execMovhi e x s
  | .amul e x => Sys2Proof.Machine.execAmul e x s
  | .amac e x => Sys2Proof.Machine.execAmac e x s
  | .aadd e x => Sys2Proof.Machine.execAadd e x s
  | .ard e x => Sys2Proof.Machine.execArd e x s
  | .adiv e x => Sys2Proof.Machine.execAdiv e x s
  | .ldw e x => Sys2Proof.Machine.execLdw e x s
  | .ldd e x => Sys2Proof.Machine.execLdd e x s
  | .stw e x => Sys2Proof.Machine.execStw e x s
  | .std e x => Sys2Proof.Machine.execStd e x s
  | .br e x => Sys2Proof.Machine.execBr e x s
  | .call e x => Sys2Proof.Machine.execCall e x s
  | .jr e x => Sys2Proof.Machine.execJr e x s
  | .fence e x => Sys2Proof.Machine.execFence e x s
  | .spineLoadComplete d => Sys2Proof.Machine.execSpineLoadComplete d s
  | .postedStoreResponse d => Sys2Proof.Machine.execPostedStoreResponse d s
  | .angle e x => Sys2Proof.Machine.execAngle e x s
  | .time e x => Sys2Proof.Machine.execTime e x s
  | .gets e x => Sys2Proof.Machine.execGets e x s
  | .wins e x => Sys2Proof.Machine.execWins e x s
  | .winsr e x => Sys2Proof.Machine.execWinsr e x s
  | .sts e x => Sys2Proof.Machine.execSts e x s
  | .drop e x => Sys2Proof.Machine.execDrop e x s
  | .watch e x => Sys2Proof.Machine.execWatch e x s
  | .note e x => Sys2Proof.Machine.execNote e x s
  | .evt e x => Sys2Proof.Machine.execEvt e x s
  | .slot e x => Sys2Proof.Machine.execSlot e x s
  | .ctxl e x => Sys2Proof.Machine.execCtxl e x s
  | .ctxs e x => Sys2Proof.Machine.execCtxs e x s
  | .echo e x => Sys2Proof.Machine.execEcho e x s
  | .wff e x => Sys2Proof.Machine.execWff e x s
  | .wffWake n t => Sys2Proof.Machine.execWffWake n t s
  | .iret e x => Sys2Proof.Machine.execIret e x s
  | .swi e x => Sys2Proof.Machine.execSwi e x s
  | .waiti e x => Sys2Proof.Machine.execWaiti e x s
  | .interruptTake d => Sys2Proof.Machine.execInterruptTake d s
  | .fastInterruptTake d => Sys2Proof.Machine.execFastInterruptTake d s
  | .droneRestart d t => Sys2Proof.Machine.execDroneRestart d t s
  | .frameTransmitStart l f => Sys2Proof.Machine.execFrameTransmitStart l f s
  | .echoReceive l t groups => Sys2Proof.Machine.execEchoReceive l t groups s
  | .echoDue l f => Sys2Proof.Machine.execEchoDue l f s
  | .sendingTimeout l t => Sys2Proof.Machine.execSendingTimeout l t s
  | .mgRequest ini l value => Sys2Proof.Machine.execMgRequest ini l value s
  | .mgTimeout l t => Sys2Proof.Machine.execMgTimeout l t s
  | .blockGo ini l => Sys2Proof.Machine.execBlockGo ini l s
  | .laneEnable ini l => Sys2Proof.Machine.execLaneEnable ini l s
  | .laneDisable ini l => Sys2Proof.Machine.execLaneDisable ini l s
  | .laneBurstEnd l f => Sys2Proof.Machine.execLaneBurstEnd l f s
  | .adcEnable ini k => Sys2Proof.Machine.execAdcEnable ini k s
  | .adcDisable ini k => Sys2Proof.Machine.execAdcDisable ini k s
  | .adcStart ini k => Sys2Proof.Machine.execAdcStart ini k s
  | .adcTrigger k src t delay => Sys2Proof.Machine.execAdcTrigger k src t delay s
  | .adcCalCycleDone k t => Sys2Proof.Machine.execAdcCalCycleDone k t s
  | .seqEntryDone k t raws => Sys2Proof.Machine.execSeqEntryDone k t raws s
  | .calStealStart k t => Sys2Proof.Machine.execCalStealStart k t s
  | .monitorConversion raw => Sys2Proof.Machine.execMonitorConversion raw s
  | .comparatorStateChange k x ticks t => Sys2Proof.Machine.execComparatorStateChange k x ticks t s
  | .cmpConfigWrite ini k reg value => Sys2Proof.Machine.execCmpConfigWrite ini k reg value s
  | .switchFrameRx p t sent f => Sys2Proof.Machine.execSwitchFrameRx p t sent f s
  | .fdbAgeExpiry vid mac t => Sys2Proof.Machine.execFdbAgeExpiry vid mac t s
  | .ethLinkChange p up speed halfDuplex => Sys2Proof.Machine.execEthLinkChange p up speed halfDuplex s
  | .gclChange ini p => Sys2Proof.Machine.execGclChange ini p s
  | .gclSwap p t => Sys2Proof.Machine.execGclSwap p t s
  | .gclEntryAdvance p t => Sys2Proof.Machine.execGclEntryAdvance p t s
  | .ptpMessageRx p t dom m => Sys2Proof.Machine.execPtpMessageRx p t dom m s
  | .ptpSyncInterval t => Sys2Proof.Machine.execPtpSyncInterval t s
  | .ptpSyncLost t => Sys2Proof.Machine.execPtpSyncLost t s
  | .xcapGo ini => Sys2Proof.Machine.execXcapGo ini s
  | .gptpSecondRollover t => Sys2Proof.Machine.execGptpSecondRollover t s
  | .ipDatagramRx d => Sys2Proof.Machine.execIpDatagramRx d s
  | .arpRequestRx t target sender mac => Sys2Proof.Machine.execArpRequestRx t target sender mac s
  | .icmpEchoRx src len => Sys2Proof.Machine.execIcmpEchoRx src len s
  | .arpCacheExpiry ip t => Sys2Proof.Machine.execArpCacheExpiry ip t s
  | .ipAddrWrite ini value => Sys2Proof.Machine.execIpAddrWrite ini value s
  | .ivwynDatagramRx p t ip port dest payload => Sys2Proof.Machine.execIvwynDatagramRx p t ip port dest payload s
  | .ivwynOpen => Sys2Proof.Machine.execIvwynOpen s
  | .ivwynConfirm x => Sys2Proof.Machine.execIvwynConfirm x s
  | .ivwynClose x => Sys2Proof.Machine.execIvwynClose x s
  | .ivwynPing x => Sys2Proof.Machine.execIvwynPing x s
  | .ivwynIdent x => Sys2Proof.Machine.execIvwynIdent x s
  | .ivwynRestart x => Sys2Proof.Machine.execIvwynRestart x s
  | .ivwynRegRead x => Sys2Proof.Machine.execIvwynRegRead x s
  | .ivwynRegWrite x => Sys2Proof.Machine.execIvwynRegWrite x s
  | .ivwynMemRead x => Sys2Proof.Machine.execIvwynMemRead x s
  | .ivwynMemWrite x => Sys2Proof.Machine.execIvwynMemWrite x s
  | .ivwynInsert x => Sys2Proof.Machine.execIvwynInsert x s
  | .ivwynRow x t => Sys2Proof.Machine.execIvwynRow x t s
  | .ivwynApp x t => Sys2Proof.Machine.execIvwynApp x t s
  | .ivwynMode x => Sys2Proof.Machine.execIvwynMode x s
  | .ivwynSnap x => Sys2Proof.Machine.execIvwynSnap x s
  | .ivwynSubscribe x => Sys2Proof.Machine.execIvwynSubscribe x s
  | .fwTimeout x t => Sys2Proof.Machine.execFwTimeout x t s
  | .ivwRxDone ini buf => Sys2Proof.Machine.execIvwRxDone ini buf s
  | .ivwTxq ini buf => Sys2Proof.Machine.execIvwTxq ini buf s
  | .sessionIdleTimeout x t => Sys2Proof.Machine.execSessionIdleTimeout x t s
  | .confirmTimeout x t => Sys2Proof.Machine.execConfirmTimeout x t s
  | .secOpenDone t => Sys2Proof.Machine.execSecOpenDone t s
  | .secConfirmDone t => Sys2Proof.Machine.execSecConfirmDone t s
  | .emnDataFrameRx p t frame => Sys2Proof.Machine.execEmnDataFrameRx p t frame s
  | .emnAckTimeout p t => Sys2Proof.Machine.execEmnAckTimeout p t s
  | .emnIdleTimeout p t => Sys2Proof.Machine.execEmnIdleTimeout p t s
  | .emnTrainRx p u port => Sys2Proof.Machine.execEmnTrainRx p u port s
  | .emnPortLinked p t8 => Sys2Proof.Machine.execEmnPortLinked p t8 s
  | .emnAngleRx p u flags angle rev => Sys2Proof.Machine.execEmnAngleRx p u flags angle rev s
  | .emnSyncRx p u seq => Sys2Proof.Machine.execEmnSyncRx p u seq s
  | .emnSnapRx p u seq => Sys2Proof.Machine.execEmnSnapRx p u seq s
  | .emnDreqRx p u seq => Sys2Proof.Machine.execEmnDreqRx p u seq s
  | .emnDrspRx p u seq turn => Sys2Proof.Machine.execEmnDrspRx p u seq turn s
  | .emnAckRx p u seq => Sys2Proof.Machine.execEmnAckRx p u seq s
  | .emnCreditRx p u count => Sys2Proof.Machine.execEmnCreditRx p u count s
  | .emnDelayMeasure p t8 => Sys2Proof.Machine.execEmnDelayMeasure p t8 s
  | .emnAngleSend t => Sys2Proof.Machine.execEmnAngleSend t s
  | .triggerApply t => Sys2Proof.Machine.execTriggerApply t s
  | .syncGo ini => Sys2Proof.Machine.execSyncGo ini s
  | .syncPinEdge t => Sys2Proof.Machine.execSyncPinEdge t s
  | .enumRx t => Sys2Proof.Machine.execEnumRx t s
  | .enumTailTimeout t => Sys2Proof.Machine.execEnumTailTimeout t s
  | .emnReportRx => Sys2Proof.Machine.execEmnReportRx s
  | .emnEvtRx => Sys2Proof.Machine.execEmnEvtRx s
  | .emnFwRx => Sys2Proof.Machine.execEmnFwRx s
  | .emnTxq ini buf => Sys2Proof.Machine.execEmnTxq ini buf s
  | .emnRxDone ini buf => Sys2Proof.Machine.execEmnRxDone ini buf s
  | .cfgBegin t => Sys2Proof.Machine.execCfgBegin t s
  | .cfgData t => Sys2Proof.Machine.execCfgData t s
  | .cfgEnd t => Sys2Proof.Machine.execCfgEnd t s
  | .cfgAbort t => Sys2Proof.Machine.execCfgAbort t s
  | .cfgRepairReq t => Sys2Proof.Machine.execCfgRepairReq t s
  | .cfgRepairData t => Sys2Proof.Machine.execCfgRepairData t s
  | .reedNop c m => Sys2Proof.Machine.execReedNop c m s
  | .reedMov c m => Sys2Proof.Machine.execReedMov c m s
  | .reedAdd c m => Sys2Proof.Machine.execReedAdd c m s
  | .reedAdc c m => Sys2Proof.Machine.execReedAdc c m s
  | .reedSub c m => Sys2Proof.Machine.execReedSub c m s
  | .reedSbc c m => Sys2Proof.Machine.execReedSbc c m s
  | .reedAnd c m => Sys2Proof.Machine.execReedAnd c m s
  | .reedOr c m => Sys2Proof.Machine.execReedOr c m s
  | .reedXor c m => Sys2Proof.Machine.execReedXor c m s
  | .reedAndn c m => Sys2Proof.Machine.execReedAndn c m s
  | .reedNot c m => Sys2Proof.Machine.execReedNot c m s
  | .reedShl c m => Sys2Proof.Machine.execReedShl c m s
  | .reedShr c m => Sys2Proof.Machine.execReedShr c m s
  | .reedSra c m => Sys2Proof.Machine.execReedSra c m s
  | .reedRol c m => Sys2Proof.Machine.execReedRol c m s
  | .reedMull c m => Sys2Proof.Machine.execReedMull c m s
  | .reedMulh c m => Sys2Proof.Machine.execReedMulh c m s
  | .reedMulhu c m => Sys2Proof.Machine.execReedMulhu c m s
  | .reedMin c m => Sys2Proof.Machine.execReedMin c m s
  | .reedMax c m => Sys2Proof.Machine.execReedMax c m s
  | .reedMinu c m => Sys2Proof.Machine.execReedMinu c m s
  | .reedMaxu c m => Sys2Proof.Machine.execReedMaxu c m s
  | .reedEq c m => Sys2Proof.Machine.execReedEq c m s
  | .reedLt c m => Sys2Proof.Machine.execReedLt c m s
  | .reedLtu c m => Sys2Proof.Machine.execReedLtu c m s
  | .reedTst c m => Sys2Proof.Machine.execReedTst c m s
  | .reedSel c m => Sys2Proof.Machine.execReedSel c m s
  | .reedBsel c m => Sys2Proof.Machine.execReedBsel c m s
  | .reedMuxq c m => Sys2Proof.Machine.execReedMuxq c m s
  | .reedAdds c m => Sys2Proof.Machine.execReedAdds c m s
  | .reedSubs c m => Sys2Proof.Machine.execReedSubs c m s
  | .reedInceq c m => Sys2Proof.Machine.execReedInceq c m s
  | .reedRamrd c m => Sys2Proof.Machine.execReedRamrd c m s
  | .reedRamwr c m => Sys2Proof.Machine.execReedRamwr c m s
  | .reedFlag c m => Sys2Proof.Machine.execReedFlag c m s
  | .reedLutStep c m => Sys2Proof.Machine.execReedLutStep c m s
  | .fabricRelease ini => Sys2Proof.Machine.execFabricRelease ini s
  | .quadrantRelease t => Sys2Proof.Machine.execQuadrantRelease t s
  | .firqEdge x m => Sys2Proof.Machine.execFirqEdge x m s
  | .fabricHoldChange m => Sys2Proof.Machine.execFabricHoldChange m s
  | .spmRequest m => Sys2Proof.Machine.execSpmRequest m s
  | .spmResponse => Sys2Proof.Machine.execSpmResponse s
  | .configUpset frame bits => Sys2Proof.Machine.execConfigUpset frame bits s
  | .contReenable ini => Sys2Proof.Machine.execContReenable ini s
  | .captureGo ini => Sys2Proof.Machine.execCaptureGo ini s
  | .captureTaken m => Sys2Proof.Machine.execCaptureTaken m s
  | .captureFree ini => Sys2Proof.Machine.execCaptureFree ini s
  | .capDataRead ini => Sys2Proof.Machine.execCapDataRead ini s
  | .prClaim x => Sys2Proof.Machine.execPrClaim x s
  | .prStart ini flash => Sys2Proof.Machine.execPrStart ini flash s
  | .prAbort ini => Sys2Proof.Machine.execPrAbort ini s
  | .prDataPush ini value => Sys2Proof.Machine.execPrDataPush ini value s
  | .prRimPush m => Sys2Proof.Machine.execPrRimPush m s
  | .prRimStartFlash m => Sys2Proof.Machine.execPrRimStartFlash m s
  | .prRimStartPush m => Sys2Proof.Machine.execPrRimStartPush m s
  | .prRimAbort m => Sys2Proof.Machine.execPrRimAbort m s
  | .prStagingDone t bad => Sys2Proof.Machine.execPrStagingDone t bad s
  | .prAuthDone t => Sys2Proof.Machine.execPrAuthDone t s
  | .prDecryptDone t => Sys2Proof.Machine.execPrDecryptDone t s
  | .prApplyDone t => Sys2Proof.Machine.execPrApplyDone t s
  | .scanFrameRead t goldenBad => Sys2Proof.Machine.execScanFrameRead t goldenBad s
  | .frameRepair t bad => Sys2Proof.Machine.execFrameRepair t bad s
  | .repairChainTimeout t => Sys2Proof.Machine.execRepairChainTimeout t s
  | .quadrantRestoreDone q t bad fetched => Sys2Proof.Machine.execQuadrantRestoreDone q t bad fetched s
  | .restoreRelease ini => Sys2Proof.Machine.execRestoreRelease ini s
  | .verifyPassDone t bad => Sys2Proof.Machine.execVerifyPassDone t bad s
  | .loadPassDone t bad => Sys2Proof.Machine.execLoadPassDone t bad s
  | .passTimeout t read => Sys2Proof.Machine.execPassTimeout t read s
  | .chainPassSend t => Sys2Proof.Machine.execChainPassSend t s
  | .chainAckStall t => Sys2Proof.Machine.execChainAckStall t s
  | .chainReportTimeout p t => Sys2Proof.Machine.execChainReportTimeout p t s
  | .readyReportSend t => Sys2Proof.Machine.execReadyReportSend t s
  | .updGo ini => Sys2Proof.Machine.execUpdGo ini s
  | .updDone t bad => Sys2Proof.Machine.execUpdDone t bad s
  | .promote ini fwp jfails => Sys2Proof.Machine.execPromote ini fwp jfails s
  | .pageProg ini fwp => Sys2Proof.Machine.execPageProg ini fwp s
  | .sectorErase ini fwp jfails => Sys2Proof.Machine.execSectorErase ini fwp jfails s
  | .seal ini => Sys2Proof.Machine.execSeal ini s
  | .checkSeal ini => Sys2Proof.Machine.execCheckSeal ini s
  | .marginRead ini => Sys2Proof.Machine.execMarginRead ini s
  | .suspend ini => Sys2Proof.Machine.execSuspend ini s
  | .resume ini => Sys2Proof.Machine.execResume ini s
  | .pfProg ini fwp => Sys2Proof.Machine.execPfProg ini fwp s
  | .pfErase ini fwp => Sys2Proof.Machine.execPfErase ini fwp s
  | .flashCommandDone cf t pass jfails corr maxbits unc => Sys2Proof.Machine.execFlashCommandDone cf t pass jfails corr maxbits unc s
  | .autoResume t => Sys2Proof.Machine.execAutoResume t s
  | .compactionDone t jfails => Sys2Proof.Machine.execCompactionDone t jfails s
  | .otpProgram ini fwp => Sys2Proof.Machine.execOtpProgram ini fwp s
  | .otpProgramDone pass => Sys2Proof.Machine.execOtpProgramDone pass s
  | .uvloRise t => Sys2Proof.Machine.execUvloRise t s
  | .uvloFall t => Sys2Proof.Machine.execUvloFall t s
  | .overvoltageStop t => Sys2Proof.Machine.execOvervoltageStop t s
  | .thermalStop t => Sys2Proof.Machine.execThermalStop t s
  | .holdupTrip => Sys2Proof.Machine.execHoldupTrip s
  | .holdupRelease => Sys2Proof.Machine.execHoldupRelease s
  | .railsGood t => Sys2Proof.Machine.execRailsGood t s
  | .railStartTimeout rail t => Sys2Proof.Machine.execRailStartTimeout rail t s
  | .railRetry t => Sys2Proof.Machine.execRailRetry t s
  | .railFault rail overcurrent t => Sys2Proof.Machine.execRailFault rail overcurrent t s
  | .failCountClear t => Sys2Proof.Machine.execFailCountClear t s
  | .vcorePhaseLost p => Sys2Proof.Machine.execVcorePhaseLost p s
  | .phaseRearm ini mask => Sys2Proof.Machine.execPhaseRearm ini mask s
  | .phaseRearmDone p pass => Sys2Proof.Machine.execPhaseRearmDone p pass s
  | .domainRequest ini d req => Sys2Proof.Machine.execDomainRequest ini d req s
  | .domainEntryDone d t => Sys2Proof.Machine.execDomainEntryDone d t s
  | .domainEntryAbort d step t => Sys2Proof.Machine.execDomainEntryAbort d step t s
  | .domainWake d t => Sys2Proof.Machine.execDomainWake d t s
  | .domainWakeDone d t => Sys2Proof.Machine.execDomainWakeDone d t s
  | .wakeAttemptFail d cause t => Sys2Proof.Machine.execWakeAttemptFail d cause t s
  | .wakeRetry d t => Sys2Proof.Machine.execWakeRetry d t s
  | .refDetect lvds lvcmos xtal => Sys2Proof.Machine.execRefDetect lvds lvcmos xtal s
  | .pllLock x t => Sys2Proof.Machine.execPllLock x t s
  | .pllLockTimeout x t => Sys2Proof.Machine.execPllLockTimeout x t s
  | .pllLockRetry x t => Sys2Proof.Machine.execPllLockRetry x t s
  | .pllLockLoss x => Sys2Proof.Machine.execPllLockLoss x s
  | .vtuneMeasure x raw => Sys2Proof.Machine.execVtuneMeasure x raw s
  | .pllDisagreement errA errB => Sys2Proof.Machine.execPllDisagreement errA errB s
  | .coreSwitch ini => Sys2Proof.Machine.execCoreSwitch ini s
  | .pllReturn ini => Sys2Proof.Machine.execPllReturn ini s
  | .pllRelock ini x => Sys2Proof.Machine.execPllRelock ini x s
  | .refLost => Sys2Proof.Machine.execRefLost s
  | .refReturn => Sys2Proof.Machine.execRefReturn s
  | .clkoutCfgWrite ini k value => Sys2Proof.Machine.execClkoutCfgWrite ini k value s
  | .irqRaise ini k value => Sys2Proof.Machine.execIrqRaise ini k value s
  | .irqPendClear ini k value => Sys2Proof.Machine.execIrqPendClear ini k value s
  | .wdEnable ini d period => Sys2Proof.Machine.execWdEnable ini d period s
  | .wdKick ini d value => Sys2Proof.Machine.execWdKick ini d value s
  | .watchdogExpiry d t => Sys2Proof.Machine.execWatchdogExpiry d t s
  | .droneUnretire ini d => Sys2Proof.Machine.execDroneUnretire ini d s
  | .snapTrigger src m => Sys2Proof.Machine.execSnapTrigger src m s
  | .snapGo ini => Sys2Proof.Machine.execSnapGo ini s
  | .snapFree ini => Sys2Proof.Machine.execSnapFree ini s
  | .snapPinEdge lowCycles => Sys2Proof.Machine.execSnapPinEdge lowCycles s
  | .bitUpset addr bits => Sys2Proof.Machine.execBitUpset addr bits s
  | .scrubPass ini => Sys2Proof.Machine.execScrubPass ini s
  | .fillPass ini => Sys2Proof.Machine.execFillPass ini s
  | .scrubAbort ini => Sys2Proof.Machine.execScrubAbort ini s
  | .scrubPassDone t words late => Sys2Proof.Machine.execScrubPassDone t words late s
  | .walkerLapDone m t paused => Sys2Proof.Machine.execWalkerLapDone m t paused s
  | .forcedGrant pass m => Sys2Proof.Machine.execForcedGrant pass m s
  | .selftestTick t => Sys2Proof.Machine.execSelftestTick t s
  | .manualSlice ini => Sys2Proof.Machine.execManualSlice ini s
  | .droneSliceWaitTimeout t => Sys2Proof.Machine.execDroneSliceWaitTimeout t s
  | .sliceBudgetExpiry t => Sys2Proof.Machine.execSliceBudgetExpiry t s
  | .sliceSeal t responses => Sys2Proof.Machine.execSliceSeal t responses s
  | .sliceRestoreDone t => Sys2Proof.Machine.execSliceRestoreDone t s
  | .tractUseWrite ini value => Sys2Proof.Machine.execTractUseWrite ini value s
  | .svcHalt ini mask => Sys2Proof.Machine.execSvcHalt ini mask s
  | .svcRestart ini mask => Sys2Proof.Machine.execSvcRestart ini mask s
  | .tapExtest data => Sys2Proof.Machine.execTapExtest data s
  | .tapSamplePreload data => Sys2Proof.Machine.execTapSamplePreload data s
  | .tapIdcode => Sys2Proof.Machine.execTapIdcode s
  | .tapBypass bit => Sys2Proof.Machine.execTapBypass bit s
  | .chStatus => Sys2Proof.Machine.execChStatus s
  | .chChallenge => Sys2Proof.Machine.execChChallenge s
  | .chUnlock t data => Sys2Proof.Machine.execChUnlock t data s
  | .chSpine t cmd addr data => Sys2Proof.Machine.execChSpine t cmd addr data s
  | .chRelock => Sys2Proof.Machine.execChRelock s
  | .chScan => Sys2Proof.Machine.execChScan s
  | .tapServiceIdle t => Sys2Proof.Machine.execTapServiceIdle t s
  | .challengeNew ini => Sys2Proof.Machine.execChallengeNew ini s
  | .provGo ini t fwp => Sys2Proof.Machine.execProvGo ini t fwp s
  | .addRoot t badWord => Sys2Proof.Machine.execAddRoot t badWord s
  | .revokeRoot t badWord => Sys2Proof.Machine.execRevokeRoot t badWord s
  | .setFleet t badWord => Sys2Proof.Machine.execSetFleet t badWord s
  | .lock t badWord => Sys2Proof.Machine.execLock t badWord s
  | .scrap t badWord => Sys2Proof.Machine.execScrap t badWord s
  | .provRelease t badWord => Sys2Proof.Machine.execProvRelease t badWord s
  | .provEnd ini => Sys2Proof.Machine.execProvEnd ini s
  | .provAbandon t => Sys2Proof.Machine.execProvAbandon t s
  | .attestGo ini t => Sys2Proof.Machine.execAttestGo ini t s
  | .attestDone t => Sys2Proof.Machine.execAttestDone t s
  | .outSet ini k value => Sys2Proof.Machine.execOutSet ini k value s
  | .outClr ini k value => Sys2Proof.Machine.execOutClr ini k value s
  | .outTgl ini k value => Sys2Proof.Machine.execOutTgl ini k value s
  | .gpCfgWrite ini n value => Sys2Proof.Machine.execGpCfgWrite ini n value s
  | .gpioInputChange n t level samples word => Sys2Proof.Machine.execGpioInputChange n t level samples word s
  | .capTimeRead ini k => Sys2Proof.Machine.execCapTimeRead ini k s
  | .portTxWrite ini k value => Sys2Proof.Machine.execPortTxWrite ini k value s
  | .i2cStart ini k => Sys2Proof.Machine.execI2cStart ini k s
  | .i2cWrite ini k data => Sys2Proof.Machine.execI2cWrite ini k data s
  | .i2cReadAck ini k => Sys2Proof.Machine.execI2cReadAck ini k s
  | .i2cReadNack ini k => Sys2Proof.Machine.execI2cReadNack ini k s
  | .i2cStop ini k => Sys2Proof.Machine.execI2cStop ini k s
  | .portTransferDone k t d => Sys2Proof.Machine.execPortTransferDone k t d s
  | .portRxRead ini k => Sys2Proof.Machine.execPortRxRead ini k s
  | .pwmWrite ini k value => Sys2Proof.Machine.execPwmWrite ini k value s
  | .receiverPairLoss x lost => Sys2Proof.Machine.execReceiverPairLoss x lost s
  | .overvoltageRelease t => Sys2Proof.Machine.execOvervoltageRelease t s
  | .thermalStopRelease t => Sys2Proof.Machine.execThermalStopRelease t s
  | .rimCaptureEdge m => Sys2Proof.Machine.execRimCaptureEdge m s
  | .unlocked t => Sys2Proof.Machine.execUnlocked t s

end Sys2Proof.Machine
end

