-- ==== Sys2Proof/Machine/StdProgram.lean ====
section
/-! DEFINITION. Sys2Proof/Machine/StdProgram.lean: the standard chanter program (R103, R106-R122, R126, R127, R131): the context words, conversion
of an event to a firing time, placement, the watch list, row expansion, echo evaluation and the checkpoint words, and one pass of the program
over its pair. The spec gives what the program does, not its instructions; how a pass runs is log entry 156. -/
namespace Sys2Proof.Machine

/-! ## Context words (R105-R108) -/

/-- A signed field of `w` bits. -/
def signedField (w v : Nat) : Int := if v < 2 ^ (w - 1) then (v : Int) else (v : Int) - 2 ^ w

/-- The configuration words of a context (R106). `env` holds MIN and MAX of each sample. -/
structure CtxCfg where
  en : Bool
  rowProfile : Nat
  defLevel : Nat
  latTrim : Int
  tempCoef : Int
  tempRef : Int
  tempSrc : Nat
  wearCoef : Int
  compLim : Nat
  lateTol : Nat
  angleTrim : Int
  fireOfs : Nat
  relOfs : Nat
  envLen : Nat
  noteThresh : Nat
  statusMask : Nat
  env : List (Nat × Nat)
deriving DecidableEq, Repr

/-- Read the words CFG, TIMING, LIMITS, ROW, ENV_CFG and ENV0-ENV3 of a context (R106). -/
def CtxCfg.ofWords (cfg timing limits row envCfg : BitVec 64) (envs : List (BitVec 64)) : CtxCfg where
  en := dbits cfg 63 63 == 1
  rowProfile := dbits cfg 55 50
  defLevel := dbits cfg 49 44
  latTrim := signedField 16 (dbits timing 63 48)
  tempCoef := signedField 16 (dbits timing 47 32)
  tempRef := signedField 8 (dbits timing 31 24)
  tempSrc := dbits timing 23 20
  wearCoef := signedField 16 (dbits timing 15 0)
  compLim := dbits limits 63 53
  lateTol := dbits limits 52 40
  angleTrim := signedField 16 (dbits limits 39 24)
  fireOfs := dbits row 63 40
  relOfs := dbits row 39 16
  envLen := dbits envCfg 63 61
  noteThresh := dbits envCfg 55 48
  statusMask := dbits envCfg 47 44
  env := envs.flatMap fun w => [(dbits w 19 8, dbits w 31 20), (dbits w 51 40, dbits w 63 52)]

/-- The samples of a window: ENV_LEN + 1 (R108). -/
def CtxCfg.samples (k : CtxCfg) : Nat := k.envLen + 1

/-- The address of a word of channel `ch` of pair `c`: context(l × 12 + s) of R111 at byte offset `off` (R105, R106). -/
def ctxAt (c ch off : Nat) : Nat := 0x22000000 + (c * 24 + ch) * 0x100 + off

/-- Chanter `n` reads a context word of pair `c`; an uncorrectable one reads 0 and sets ST.DP (R162). -/
def State.ctxGet (s : State) (n c ch off : Nat) : State × BitVec 64 :=
  let p := s.memRead 7 (ctxAt c ch off)
  match p.2 with
  | some v => (p.1, v)
  | none => (p.1.setSt n 12 true, 0)

/-- Read words at successive offsets. -/
def State.ctxGets (s : State) (n c ch : Nat) (offs : List Nat) : State × List (BitVec 64) :=
  offs.foldl (fun a o => let p := a.1.ctxGet n c ch o; (p.1, a.2 ++ [p.2])) (s, [])

/-- The configuration of a channel. -/
def State.ctxCfg (s : State) (n c ch : Nat) : State × CtxCfg :=
  let p := s.ctxGets n c ch [0x00, 0x08, 0x10, 0x18, 0x20, 0x28, 0x30, 0x38, 0x40]
  let w := fun i => p.2.getD i 0
  (p.1, CtxCfg.ofWords (w 0) (w 1) (w 2) (w 3) (w 4) (p.2.drop 5))

/-- The DRIVE word (R106). -/
def driveWord (energised : Bool) (tag fire : Nat) : BitVec 64 :=
  BitVec.ofNat 64 ((if energised then 2 ^ 63 else 0) + tag % 256 * 2 ^ 48 + fire % 2 ^ 48)

/-- The HEALTH word (R106). -/
def healthWord (viol faults consec : Nat) : BitVec 64 := BitVec.ofNat 64 (viol * 2 ^ 40 + faults * 2 ^ 16 + consec * 2 ^ 8)

/-- The LAST word (R106). -/
def lastWord (sum peak status uneval : Nat) : BitVec 64 :=
  BitVec.ofNat 64 (sum % 2 ^ 24 * 2 ^ 40 + peak % 2 ^ 12 * 2 ^ 28 + status % 16 * 2 ^ 24 + uneval)

/-! ## Conversion (R111, R112) -/

/-- What the engine's angle read gives the program at wheel time `now` (R111, R159). -/
structure Motion where
  now : Int
  angle : Int
  rev : Int
  speed : Int
  accel : Int
  tk : Int
  span : Int
  reverse : Bool
  stalled : Bool
deriving DecidableEq, Repr

/-- The angle read of tracker `x`. -/
def State.motion (s : State) (x : Nat) : Motion where
  now := s.now
  angle := s.shaftPos x s.now % revUnits
  rev := Int.fdiv (s.shaftPos x s.now) revUnits
  speed := s.domSpeed x
  accel := s.domAccel x
  tk := (s.tracker x).tk
  span := s.span x
  reverse := s.domReverse x
  stalled := s.domStalled x

/-- The compensation of a channel (R111): latency, temperature (in 1/16 °C) and wear, held within COMP_LIM, at most 1,280 (R108). -/
def compensation (k : CtxCfg) (temp : Int) (fires : Nat) : Int :=
  let lim : Int := min k.compLim 1280
  let c := k.latTrim + Int.tdiv (k.tempCoef * (temp - 16 * k.tempRef)) 4096 + Int.tdiv (k.wearCoef * min (fires / 65536) 65535) 256
  max (-lim) (min lim c)

/-- The firing time of an event at position `p` and place `fine` in a domain that follows a shaft; none = WATCH (R111). -/
def convertShaft (k : CtxCfg) (m : Motion) (p fine temp : Int) (fires : Nat) : Option Int :=
  let v := m.speed + Int.tdiv (m.accel * (m.now - m.tk + Int.tdiv m.span 2)) 16777216
  let dth := p * 4096 + fine + k.angleTrim - (m.rev * 16777216 + m.angle)
  if v ≤ 0 ∨ m.reverse = true ∨ m.stalled = true then none
  else
    let dt1 := Int.tdiv (dth * 65536) v
    let corr := Int.tdiv (m.accel * dt1 * dt1) (2 * v * 16777216)
    let q := Int.tdiv dt1 4
    let c1 := if corr > q then q else corr
    let c2 := if c1 < -q then -q else c1
    some (m.now + dt1 - c2 - compensation k temp fires)

/-- The firing time of an event in domain T, which last started at `tStart` (R111). -/
def convertTick (k : CtxCfg) (tStart tickCyc p fine temp : Int) (fires : Nat) : Int :=
  tStart + p * tickCyc + Int.tdiv (fine * tickCyc) 4096 - compensation k temp fires

/-- Entry `j` of the temperature table of chanter `n`: 16 signed 16-bit entries in 1/16 °C, entry j in word j div 4 (R109). -/
def State.tempEntry (s : State) (n j : Nat) : State × Int :=
  let p := s.memRead 7 (pairRegion n + 0x300 + 8 * (j / 4))
  (p.1, signedField 16 (dbits (p.2.getD 0) (16 * (j % 4) + 15) (16 * (j % 4))))

/-- The firing time of an event on channel `ch` of the pair of chanter `n`, with its configuration: temp[TEMP_SRC] and FIRES are read, and the
lane's domain decides between shaft and tick (R111). A lane without a domain has no angle: WATCH. -/
def State.fireTime (s : State) (n c ch : Nat) (k : CtxCfg) (p fine : Int) : State × Option Int :=
  let t := s.tempEntry n k.tempSrc
  let f := t.1.ctxGet n c ch 0x68
  let u := f.1
  let dm := u.laneDom (2 * c + ch / 12)
  (u, if dm = 3 then some (convertTick k u.tick.start (u.get F.WHEEL_T_CFG_TICK_CYC) p fine t.2 f.2.toNat)
    else if dm = 0 then none
    else convertShaft k (u.motion (dm - 1)) p fine t.2 f.2.toNat)

/-- The frame of a firing time, and its OFFSET (R112). -/
def frameOf (tf : Int) : Int × Int := (Int.fdiv tf 640, tf % 640)

/-! ## The program's own knowledge of its pair -/

/-- What the standard program knows of pair `c`. -/
def State.prog (s : State) (c : Nat) : Prog := (s.pair c).prog

/-- Put it. -/
def State.setProg (s : State) (c : Nat) (v : Prog) : State := s.setPair c { s.pair c with prog := v }

/-- Entries of the watch list of lane `b` of the pair. -/
def Prog.watchCount (g : Prog) (b : Nat) : Nat := Sparse.get (fun _ => 0) g.watch b

/-- Add a note of chanter `n`: VALUE, TAG, channel (R132). -/
def State.stdNote (s : State) (n kind channel tag value : Nat) : State :=
  (s.noteAdd ⟨n, kind, channel % 4096, BitVec.ofNat 32 (tag % 256 * 2 ^ 24 + value % 2 ^ 24)⟩).1

/-- A command of channel `ch` of pair `c` is dropped for `reason` (R137, R163): COLLISION and LATE add a note DROPPED (R117). -/
def State.stdDrop (s : State) (n c ch tag reason : Nat) : State :=
  let s1 := ((s.count (R.CHT_C_DROPPED n)).wr (R.CHT_C_DROP_LAST n)
    (BitVec.ofNat 32 (reason * 2 ^ 28 + (c * 24 + ch) % 4096 * 2 ^ 12 + tag % 256))).chanterEvent n 4
  if reason ≤ 2 then s1.stdNote n 5 (c * 24 + ch) tag reason else s1

/-! ## The watch list (R109, R113, R114) -/

/-- A watch entry: the event word with the bin of `p` and bits [9:0] of its REV in its low 22 bits (R113). -/
def watchWord (ev : BitVec 64) (p : Int) : BitVec 64 :=
  setDbits ev 21 0 ((Int.fdiv p 4096 % 1024).toNat * 4096 + (p % 4096).toNat)

/-- The position of a watch entry: of those with its bin and REV [9:0], the one nearest to the revolution `rev` (R113, log entry 156). -/
def watchPos (w : BitVec 64) (rev : Int) : Int :=
  let d := ((dbits w 21 12 : Int) - rev) % 1024
  (rev + if d < 512 then d else d - 1024) * 4096 + dbits w 11 0

/-- The address of entry `i` of the watch list of lane `b` of the pair, in the data memory of chanter `n` (R109). -/
def watchAt (n b i : Nat) : Nat := pairRegion n + 0x200 + b * 0x80 + 8 * i

/-- Put a command into the watch list of its lane; a full list drops it, reason WATCH_FULL (R113). -/
def State.watchAdd (s : State) (n c ch : Nat) (entry : BitVec 64) : State :=
  let g := s.prog c
  let b := ch / 12
  let k := g.watchCount b
  if 16 ≤ k then s.stdDrop n c ch (dbits entry 39 32) 4
  else (s.setProg c { g with watch := Sparse.put (fun _ => 0) g.watch b (k + 1) }).memWrite (watchAt n b k) entry

/-- Take every entry out of the watch list of lane `b`; entries that a copy has lost are none (R131). -/
def State.watchTake (s : State) (n c b : Nat) : State × List (BitVec 64) :=
  let g := s.prog c
  let p := (List.range (g.watchCount b)).foldl (fun (a : State × List (BitVec 64)) i =>
    let q := a.1.memRead 7 (watchAt n b i)
    (q.1, a.2 ++ q.2.toList)) (s, [])
  (p.1.setProg c { p.1.prog c with watch := Sparse.put (fun _ => 0) (p.1.prog c).watch b 0 }, p.2.filter fun w => decide (dbits w 53 52 < 2))

/-! ## Placement (R115, R117) -/

/-- Where a converted command goes (R113, R117). -/
inductive Placing where
  | store (frame offset : Int) (late : Bool)   -- written to the slot store; `late` counts in Cn_LATE
  | watch                                      -- kept in the watch list
  | drop                                       -- dropped, reason LATE
deriving DecidableEq, Repr

/-- Placement of a command by its firing time, with the current frame and the earliest open frame (R115, R117). A full store and a command that
the store holds already are what the slot store answers. The start of a frame against which lateness is taken is that of its window, 640 × F,
the moment its OFFSET 0 acts (DEDUCED, log entry 155). -/
def placing (tf current earliest : Int) (lateTol : Nat) (immediate : Bool) : Placing :=
  let f := frameOf tf
  if f.1 > current + 15 then .watch
  else if earliest ≤ f.1 then .store f.1 f.2 false
  else if immediate then .store earliest 0 false
  else if earliest * 640 - tf ≤ lateTol then .store earliest 0 true
  else .drop

/-- What becomes of a command that has lost a collision after `n` deferrals: it is deferred once more, or dropped when it has been deferred four
times, so that nothing moves by more than 4 frames (R117; which collision is "a fourth" is DEDUCED from W2's count 0-4 and that bound, log
entry 155). -/
def collision (n : Nat) : Option Nat := if n < 4 then some (n + 1) else none

/-- The slot word of an event (R115, R190): ACTION from KIND, PROFILE, OFFSET, LEVEL from DEF_LEVEL, TAG. -/
def slotWord (ev : BitVec 64) (offset level : Nat) : Word :=
  BitVec.ofNat 32 ((dbits ev 53 52 + 1) * 2 ^ 30 + dbits ev 59 54 * 2 ^ 24 + offset * 2 ^ 14 + level * 2 ^ 8 + dbits ev 39 32)

/-- Offer a command to its lane's slot store (R115, R117, R161). The loser of a collision goes to the same OFFSET of the next frame, at most
`fuel` times in all; a full store and a frame beyond the window send it to the watch list. -/
def State.putSlot (n c : Nat) : Nat → Placed → State → State
  | 0, _, s => s
  | fuel + 1, p, s =>
    let l := 2 * c + p.chan / 12
    let r := s.slotWrite l (p.chan % 12) ((p.frame : Int) - openFrame s.now) p.word
    let known := fun (q : Placed) => q.chan == p.chan && q.frame == p.frame
    let defer (q : Placed) (t : State) : State :=
      match collision q.deferred with
      | some k => State.putSlot n c fuel { q with frame := q.frame + 1, deferred := k } (t.count (R.CHT_C_DEFERRED n))
      | none => t.stdDrop n c q.chan (dbits q.entry 39 32) 1
    match r.2.1 with
    | 0 => r.1.setProg c { r.1.prog c with placed := (r.1.prog c).placed ++ [p] }
    | 1 => r.1
    | 2 =>
      let old := ((r.1.prog c).placed.find? known).getD { p with word := r.2.2 }
      defer old (r.1.setProg c { r.1.prog c with placed := ((r.1.prog c).placed.filter fun q => !known q) ++ [p] })
    | 3 => defer p r.1
    | _ => r.1.watchAdd n c p.chan p.entry

/-- Convert the command of event `ev` for channel `ch` of pair `c` at position `p`, and place it (R108, R113, R117). -/
def State.stdPlace (s : State) (n c ch : Nat) (p : Int) (ev : BitVec 64) : State :=
  let e := watchWord (setDbits ev 63 60 (ch % 12)) p
  let tag := dbits ev 39 32
  let q := s.ctxCfg n c ch
  if q.2.en = false then q.1.stdDrop n c ch tag 3
  else
    let t := q.1.fireTime n c ch q.2 p (dbits ev 51 40)
    match t.2 with
    | none => t.1.watchAdd n c ch e
    | some tf =>
      match placing tf (currentFrame t.1.now) (openFrame t.1.now) q.2.lateTol (dbits ev 31 31 == 1) with
      | .watch => t.1.watchAdd n c ch e
      | .drop => t.1.stdDrop n c ch tag 2
      | .store f o late =>
        let u := State.putSlot n c 64 ⟨ch, f.toNat, slotWord ev o.toNat q.2.defLevel, e, 0⟩ t.1
        if late then (u.count (R.CHT_C_LATE n)).chanterEvent n 3 else u

/-! ## Drained events (R28, R110) -/

/-- The slots of an event: ACT, or all twelve for ACT = 15 (R67, R110). -/
def slotsOf (ev : BitVec 64) : List Nat := if dbits ev 63 60 = 15 then List.range 12 else [dbits ev 63 60]

/-- Act on a drained event by its KIND (R28, R103-R110). In HOLD, and in every mode but RUN and RUN-SPARED, FIRE and RELEASE are discarded, and
counted for each slot (log entry 156). -/
def State.stdEvent (s : State) (n c : Nat) (i : DrainItem) : State :=
  let b := i.lane % 2
  match dbits i.ev 53 52 with
  | 2 => s
  | 3 => s.stdNote n 4 (if dbits i.ev 63 60 = 15 then 0 else c * 24 + b * 12 + dbits i.ev 63 60) (dbits i.ev 39 32) (dbits i.ev 59 54)
  | _ =>
    if s.running then (slotsOf i.ev).foldl (fun t k => t.stdPlace n c (b * 12 + k) i.pos i.ev) s
    else s.countBy (R.CHT_C_DISCARD n) (slotsOf i.ev).length

/-- Take the drained events in order, at most `fuel` of them; each is acknowledged once it is disposed of (R110). -/
def State.stdDrain (n c : Nat) : Nat → State → State
  | 0, s => s
  | fuel + 1, s =>
    match (s.pair c).drain with
    | [] => s
    | i :: _ =>
      let t := (s.stdEvent n c i).ackDrain n
      State.stdDrain n c fuel (t.setProg c { t.prog c with acks := ((t.prog c).acks + 1) % 2 ^ 32, pos := i.pos, fine := dbits i.ev 51 40 })

/-! ## Reverse motion and the watch list (R113, R114) -/

/-- Withdraw from the store every command of lane `b` of the pair that is not committed, into the watch list, while the lane's domain shows
REVERSE (R114). -/
def State.stdWithdraw (s : State) (n c b : Nat) : State :=
  let l := 2 * c + b
  let dm := s.laneDom l
  if dm = 1 ∨ dm = 2 then
    if s.domReverse (dm - 1) then
      let out := fun (q : Placed) => q.chan / 12 == b && decide (openFrame s.now ≤ q.frame)
      let g := s.prog c
      (g.placed.filter out).foldl (fun t q =>
        (t.putStore l ((t.lane l).store.filter fun e => !(e.frame == q.frame && e.slot == q.chan % 12))).watchAdd n c q.chan q.entry)
        (s.setProg c { g with placed := g.placed.filter fun q => !out q })
    else s
  else s

/-- At an accepted edge or tick of the domain of lane `b`, convert each watch entry again and place it (R113). -/
def State.stdReconvert (s : State) (n c b : Nat) : State :=
  let l := 2 * c + b
  let now := s.laneEdges l
  if Sparse.get (fun _ => 0) (s.prog c).edges b = now then s
  else
    let s1 := s.setProg c { s.prog c with edges := Sparse.put (fun _ => 0) (s.prog c).edges b now }
    let rev := Int.fdiv (s1.domAngle (s1.laneDom l - 1) s1.now) revUnits
    let p := s1.watchTake n c b
    p.2.foldl (fun t w => t.stdPlace n c (b * 12 + dbits w 63 60 % 12) (watchPos w rev) w) p.1

/-! ## Row expansion (R118, R119) -/

/-- A row entry: words W0-W2 (R118). -/
structure Row where
  position : Int
  tag : Nat
  fine : Nat
  select : Nat
  release : Nat
  state : Nat
  ownProfile : Bool
  profile : Nat
deriving DecidableEq, Repr

/-- The fields of a row entry (R118). -/
def Row.ofWords (w0 w1 w2 : BitVec 64) : Row where
  position := signedField 44 (dbits w0 63 20)
  tag := dbits w0 19 12
  fine := dbits w0 11 0
  select := dbits w1 23 0
  release := dbits w1 47 24
  state := dbits w2 63 62
  ownProfile := dbits w2 6 6 == 1
  profile := dbits w2 5 0

/-- The address of word `i` of row entry `r` (R109, R118). -/
def rowAt (n r i : Nat) : Nat := pairRegion n + 32 * r + 8 * i

/-- The position and place of a row's event, and how far it lies ahead of the high-water position `hw` (R119). -/
def rowEvent (position fine ofs hw : Int) : Int × Int × Int :=
  let a := position * 4096 + fine + ofs
  (Int.fdiv a 4096, a % 4096, Int.fdiv a 4096 - hw)

/-- What the program does with a READY row by the distances of its events (R119). -/
inductive RowAct where
  | wait | reject | insert
deriving DecidableEq, Repr

/-- The three cases of R119. -/
def rowAct (xs : List Int) : RowAct :=
  if xs.any fun x => decide (x > 4095) then .wait else if xs.all fun x => decide (x < 4) then .reject else .insert

/-- The event word of a row's event (R67, R119): NOTIFY and IMMEDIATE 0. -/
def rowWord (slot profile : Nat) (release : Bool) (fine tag : Nat) : BitVec 64 :=
  BitVec.ofNat 64 (slot * 2 ^ 60 + profile * 2 ^ 54 + (if release then 1 else 0) * 2 ^ 52 + fine * 2 ^ 40 + tag * 2 ^ 32)

/-- The events of a row, each with its distance x; a channel whose domain has no high-water position lies beyond every distance (R119, log
entry 156). -/
def State.rowEvents (s : State) (n c : Nat) (w : Row) : State × List (RowEvent × Int) :=
  let one (a : State × List (RowEvent × Int)) (ch : Nat) (release : Bool) : State × List (RowEvent × Int) :=
    let q := a.1.ctxCfg n c ch
    let l := 2 * c + ch / 12
    let dm := q.1.laneDom l
    let e := rowEvent w.position w.fine (if release then q.2.relOfs else q.2.fireOfs) (((q.1.dom (dm - 1)).hw).getD 0)
    let x := if dm = 0 ∨ (q.1.dom (dm - 1)).hw = none then 4096 else e.2.2
    let ev := rowWord (ch % 12) (if w.ownProfile then w.profile else q.2.rowProfile) release e.2.1.toNat w.tag
    (q.1, a.2 ++ [(⟨ch, l, (e.1 % 4096).toNat, ev⟩, x)])
  (List.range 24).foldl (fun a ch =>
    let a1 := if w.select.testBit ch then one a ch false else a
    if w.release.testBit ch then one a1 ch true else a1) (s, [])

/-- Mark row entry `r`: W3 with INSERTED and FAILED, then W2 with STATE and RESULT (R118). The row counts as completed, and the read index goes
on. -/
def State.rowMark (s : State) (n c r state result inserted failed : Nat) : State :=
  let s1 := s.memWrite (rowAt n r 3) (BitVec.ofNat 64 (inserted * 2 ^ 40 + failed * 2 ^ 32))
  let p := s1.memRead 7 (rowAt n r 2)
  let s2 := p.1.memWrite (rowAt n r 2) (setDbits (setDbits (p.2.getD 0) 63 62 state) 61 58 result)
  s2.setProg c { s2.prog c with row := none, rowNext := (r + 1) % 16, rowsDone := ((s2.prog c).rowsDone + 1) % 2 ^ 32 }

/-- Look at row entry `r`, while no row is being inserted: an entry that is READY is left, rejected, or begun (R119). -/
def State.rowLook (s : State) (n c r : Nat) : State :=
  if (s.prog c).row.isSome then s
  else
    let a := s.memRead 7 (rowAt n r 2)
    if dbits (a.2.getD 0) 63 62 ≠ 1 then a.1
    else
      let b0 := a.1.memRead 7 (rowAt n r 0)
      let b1 := b0.1.memRead 7 (rowAt n r 1)
      let w := Row.ofWords (b0.2.getD 0) (b1.2.getD 0) (a.2.getD 0)
      let p := b1.1.rowEvents n c w
      match rowAct (p.2.map fun e => e.2) with
      | .wait => p.1
      | .reject => (p.1.rowMark n c r 3 1 0 0).stdNote n 6 0 w.tag r
      | .insert =>
        let good := p.2.filter fun e => decide (4 ≤ e.2)
        p.1.setProg c { p.1.prog c with row := some { row := r, todo := good.map fun e => e.1, failed := p.2.length - good.length } }

/-- Read the answers that have come for the row's inserts: another than ACCEPTED or ACCEPTED_NEXT fails, with a note ROW_LATE (R119). -/
def State.rowAnswers (n c : Nat) : Nat → State → State
  | 0, s => s
  | fuel + 1, s =>
    let g := s.engine n
    match (s.prog c).row, g.answers with
    | some j, a :: r =>
      let s1 := s.setEngine n { g with answers := r }
      match j.flying with
      | [] => State.rowAnswers n c fuel s1
      | ch :: rest =>
        let j1 := if a ≤ 1 then { j with flying := rest, inserted := j.inserted + 1 } else { j with flying := rest, failed := j.failed + 1 }
        let s2 := s1.setProg c { s1.prog c with row := some j1 }
        let p := s2.memRead 7 (rowAt n j.row 0)
        State.rowAnswers n c fuel (if a ≤ 1 then s2 else p.1.stdNote n 6 (c * 24 + ch) (dbits (p.2.getD 0) 19 12) (j.row + a * 16))
    | _, _ => s

/-- Offer the row's events at the group's insert port, at most 8 unanswered; a full port FIFO answers BUSY and the event is offered again at the
next pass (R72, R119, R164). -/
def State.rowOffers (n c : Nat) : Nat → State → State
  | 0, s => s
  | fuel + 1, s =>
    match (s.prog c).row with
    | some j =>
      match j.todo with
      | e :: rest =>
        let g := s.engine n
        let i : Insert := ⟨e.lane, e.bin, e.ev, .engine (Fin.ofNat 136 n) 0 false⟩
        if 8 ≤ g.inserts + g.answers.length then s
        else if 8 ≤ (s.portFifo (insertPort i.src)).length then s.count (R.WHEEL_PORT_BUSY (insertPort i.src))
        else
          let s1 := s.offer i
          let s2 := s1.setEngine n { s1.engine n with inserts := g.inserts + 1 }
          State.rowOffers n c fuel (s2.setProg c { s2.prog c with row := some { j with todo := rest, flying := j.flying ++ [e.chan] } })
      | [] => s
    | none => s

/-- Expand rows (R119): the READY entries in index order from the read index on, one at a time through the insert port. An entry is DONE when
every event of it is answered. -/
def State.stdRows (s : State) (n c : Nat) : State :=
  let i := (s.prog c).rowNext
  let s1 := (List.range 16).foldl (fun t k => t.rowLook n c ((i + k) % 16)) s
  let s2 := State.rowOffers n c 24 (State.rowAnswers n c 8 s1)
  match (s2.prog c).row with
  | some j => if j.todo = [] ∧ j.flying = [] then s2.rowMark n c j.row 2 (if j.failed = 0 then 0 else 2) j.inserted j.failed else s2
  | none => s2

/-! ## Echo evaluation and health (R120, R121) -/

/-- The verdict on a firing (R121). -/
structure EchoVerdict where
  evaluated : Bool
  high : Bool
  low : Bool
  status : Bool
  sum : Nat
  peak : Nat
  bits : Nat
deriving DecidableEq, Repr

/-- Evaluate the samples of a window against their envelope points (MIN, MAX): CURRENT and STATUS, none = missing (R120, R121). -/
def evaluate (points : List (Nat × Nat)) (samples : List (Option (Nat × Nat))) (mask : Nat) : EchoVerdict :=
  let got := samples.filterMap id
  let pairs := points.zip got
  let high := pairs.any fun x => decide (x.1.2 ≤ x.2.1)
  let ev := samples.all Option.isSome
  let bits := got.foldl (fun a x => Nat.lor a x.2) 0
  { evaluated := ev, high := ev && high, low := ev && !high && pairs.any fun x => decide (x.2.1 < x.1.1),
    status := ev && decide (Nat.land bits mask ≠ 0), sum := got.foldl (fun a x => a + x.1) 0,
    peak := got.foldl (fun a x => max a x.1) 0, bits := bits }

/-- CONSEC, and VIOL, STATUS_FAULTS, FIRES and UNEVAL counted up, by a verdict (R9, R107, R121). -/
def healthAfter (v : EchoVerdict) (consec viol faults fires uneval : Nat) : Nat × Nat × Nat × Nat × Nat :=
  let up (w n : Nat) (b : Bool) : Nat := if b then min (2 ^ w - 1) (n + 1) else n
  let bad := v.high || v.low
  (if v.evaluated then (if bad || v.status then up 8 consec true else 0) else consec,
   up 24 viol bad, up 24 faults v.status, up 64 fires true, up 24 uneval !v.evaluated)

/-- End a window with the samples taken (R121): FIRES, HEALTH and LAST of its context, Cn_ENVELOPE and STAT.ENVELOPE for a violation, and the one
note when CONSEC reaches NOTE_THRESH. LAST keeps SUM, PEAK and STATUS of the last firing that was evaluated (log entry 156). -/
def State.endWindow (s : State) (n c : Nat) (w : EchoWin) : State :=
  let q := s.ctxCfg n c w.chan
  let p := q.1.ctxGets n c w.chan [0x68, 0x70, 0x78]
  let h := p.2.getD 1 0
  let a := p.2.getD 2 0
  let k := q.2
  let v := evaluate (k.env.take k.samples) w.samples k.statusMask
  let consec := dbits h 15 8
  let r := healthAfter v consec (dbits h 63 40) (dbits h 39 16) (p.2.getD 0 0).toNat (dbits a 23 0)
  let s1 := ((p.1.memWrite (ctxAt c w.chan 0x68) (BitVec.ofNat 64 r.2.2.2.1)).memWrite (ctxAt c w.chan 0x70) (healthWord r.2.1 r.2.2.1 r.1)).memWrite
    (ctxAt c w.chan 0x78)
    (if v.evaluated then lastWord v.sum v.peak v.bits r.2.2.2.2 else lastWord (dbits a 63 40) (dbits a 39 28) (dbits a 27 24) r.2.2.2.2)
  let s2 := if v.high || v.low then (s1.count (R.CHT_C_ENVELOPE n)).chanterEvent n 5 else s1
  if consec < k.noteThresh ∧ r.1 = k.noteThresh then
    s2.stdNote n (if v.high then 2 else if v.low then 1 else 3) (c * 24 + w.chan) w.tag (if v.high || v.low then v.peak else v.bits)
  else s2

/-- Take the samples of a window that have come or are lost: sample j from the echo of frame f + j, for j up to ENV_LEN (R120). -/
def State.takeSamples (n c len : Nat) : Nat → EchoWin → State → EchoWin
  | 0, w, _ => w
  | fuel + 1, w, s =>
    if len ≤ w.samples.length then w
    else
      let r := s.echoRead (2 * c + w.chan / 12) (w.chan % 12) ((w.frame + w.samples.length : Nat) : Int)
      if r.1 = 1 then w
      else State.takeSamples n c len fuel
        { w with samples := w.samples ++ [if r.1 = 0 then some (bitsOf r.2 31 20, bitsOf r.2 11 8) else none] } s

/-- Follow the open windows: those whose last sample is taken end (R120, R121). -/
def State.stdWindows (s : State) (n c : Nat) : State :=
  (s.prog c).wins.foldl (fun t w =>
    let q := t.ctxCfg n c w.chan
    let w1 := State.takeSamples n c q.2.samples 8 w q.1
    let others := ((q.1.prog c).wins.filter fun x => x.chan != w.chan)
    if q.2.samples ≤ w1.samples.length then (q.1.endWindow n c w1).setProg c { q.1.prog c with wins := others }
    else q.1.setProg c { q.1.prog c with wins := others ++ [w1] }) s

/-- A placed command whose frame is committed (R106, R121): DRIVE follows a FIRE or RELEASE; a FIRE ends the window that is open on its slot and
begins its own. -/
def State.stdCommitted (s : State) (n c : Nat) (p : Placed) : State :=
  let o := bitsOf p.word 23 14
  let tag := bitsOf p.word 7 0
  let g := s.prog c
  if bitsOf p.word 31 30 = 1 then
    let s1 := match g.wins.find? fun w => w.chan == p.chan with
      | some w => s.endWindow n c w
      | none => s
    (s1.memWrite (ctxAt c p.chan 0x60) (driveWord true tag (640 * p.frame + o))).setProg c
      { g with wins := (g.wins.filter fun w => w.chan != p.chan) ++ [⟨p.chan, p.frame, tag, []⟩], energised := g.energised ||| 2 ^ p.chan }
  else if bitsOf p.word 31 30 = 2 then
    let d := s.ctxGet n c p.chan 0x60
    (d.1.memWrite (ctxAt c p.chan 0x60) (setDbits d.2 63 63 0)).setProg c
      { g with energised := if g.energised.testBit p.chan then g.energised - 2 ^ p.chan else g.energised }
  else s

/-- Follow the commits: the placed commands whose frame is no longer open, the oldest frame first. A STANDBY lane sends none of its own (R193). -/
def State.stdCommits (s : State) (n c : Nat) : State :=
  let g := s.prog c
  let gone := g.placed.filter fun p => decide (p.frame < openFrame s.now)
  let sent := (gone.filter fun p => s.get (F.LANE_CFG_ROLE (2 * c + p.chan / 12)) != 2).mergeSort fun a b => decide (a.frame ≤ b.frame)
  sent.foldl (fun t p => t.stdCommitted n c p) (s.setProg c { g with placed := g.placed.filter fun p => decide (openFrame s.now ≤ p.frame) })

/-! ## Frames and checkpoint words (R122, R126, R127, R131) -/

/-- Complete the earliest open frame once every event that came 160 cycles before its deadline is disposed of (R122). -/
def State.stdComplete (s : State) (c : Nat) : State :=
  let k := openFrame s.now
  if deadlineOf k ≤ s.now + 160 then
    let p := s.pair c
    s.setPair c { p with complete := if p.complete.contains k then p.complete else p.complete ++ [k], prog := { p.prog with lastFrame := k } }
  else s

/-- The words W0-W6 of lane `b` of a pair (R126). -/
def Prog.words (g : Prog) (b : Nat) : List (BitVec 64) :=
  let deferred (k : Nat) : Nat := (g.placed.filter fun p => p.chan == b * 12 + k).foldl (fun a p => max a p.deferred) 0
  let taken (k : Nat) : Nat := ((g.wins.find? fun w => w.chan == b * 12 + k).map fun w => w.samples.length).getD 0
  [BitVec.ofNat 64 (g.lastFrame % 2 ^ 32 * 2 ^ 32 + g.acks),
   BitVec.ofNat 64 ((g.pos % 2 ^ 44).toNat * 2 ^ 20 + g.fine),
   BitVec.ofNat 64 (g.energised / 2 ^ (12 * b) % 4096 + (List.range 12).foldl (fun a k => a + deferred k * 2 ^ (12 + 3 * k)) 0),
   BitVec.ofNat 64 (g.rowsDone * 2 ^ 32 + g.rowNext),
   BitVec.ofNat 64 ((List.range 12).foldl (fun a k => a + taken k * 2 ^ (4 * k)) 0),
   BitVec.ofNat 64 (g.watchCount b), 0]

/-- Keep W0-W6 of both lanes in the checkpoint sources (R109, R126). -/
def State.stdSources (s : State) (n c : Nat) : State :=
  [0, 1].foldl (fun t b => (((s.prog c).words b).zipIdx).foldl (fun u x => u.memWrite (pairRegion n + 0x380 + b * 0x40 + 8 * x.2) x.1) t) s

/-- Resume lane `b` of the pair from its checkpoint words W0-W6 (R126, R127). -/
def Prog.resume (g : Prog) (b : Nat) (w : List (BitVec 64)) : Prog :=
  let x := fun i => w.getD i 0
  let mine := fun (ch : Nat) => ch / 12 == b
  { g with
    lastFrame := dbits (x 0) 63 32, acks := dbits (x 0) 31 0, pos := signedField 44 (dbits (x 1) 63 20), fine := dbits (x 1) 11 0,
    energised := g.energised / 2 ^ (12 * (1 - b)) % 4096 * 2 ^ (12 * (1 - b)) + dbits (x 2) 11 0 * 2 ^ (12 * b),
    placed := g.placed.map fun p => if mine p.chan then { p with deferred := min p.deferred (dbits (x 2) (14 + 3 * (p.chan % 12)) (12 + 3 * (p.chan % 12))) } else p,
    rowNext := dbits (x 3) 3 0, rowsDone := dbits (x 3) 63 32, row := none,
    wins := g.wins.map fun v => if mine v.chan then { v with samples := v.samples.take (dbits (x 4) (4 * (v.chan % 12) + 3) (4 * (v.chan % 12))) } else v,
    watch := Sparse.put (fun _ => 0) g.watch b (min 16 (dbits (x 5) 4 0)) }

/-- Resume lane `b` of the pair without a checkpoint: ENERGISED from the DRIVE words; deferrals, windows and watch list empty (R131). -/
def State.resumeBad (s : State) (n c b : Nat) : State :=
  let p := (List.range 12).foldl (fun (a : State × Nat) k =>
    let d := a.1.ctxGet n c (12 * b + k) 0x60
    (d.1, a.2 + if dbits d.2 63 63 = 1 then 2 ^ k else 0)) (s, 0)
  let g := p.1.prog c
  let t := p.1.setProg c { g with
    energised := g.energised / 2 ^ (12 * (1 - b)) % 4096 * 2 ^ (12 * (1 - b)) + p.2 * 2 ^ (12 * b),
    placed := g.placed.map fun q => if q.chan / 12 = b then { q with deferred := 0 } else q,
    wins := g.wins.filter fun v => v.chan / 12 != b, row := none, watch := Sparse.put (fun _ => 0) g.watch b 0 }
  (t.chanterEvent n 6).stdNote n 8 0 0 (2 * c + b)

/-- At the takeover entry, read W0-W7 of lane `b` from CTX and check W7 (R125, R127, R131). -/
def State.stdResume (s : State) (n c b : Nat) : State :=
  let p := (List.range 8).foldl (fun (a : State × List (Option (BitVec 64))) i =>
    let q := a.1.memRead 7 (ctxAt c (12 * b + i) 0xF8)
    (q.1, a.2 ++ [q.2])) (s, [])
  let w := p.2.map fun o => o.getD 0
  let crc := crc32c ((w.take 7).flatMap fun v => bytesLE 8 v.toNat)
  if p.2.all Option.isSome ∧ (w.getD 7 0).truncate 32 = crc then p.1.setProg c ((p.1.prog c).resume b w)
  else p.1.resumeBad n c b

/-! ## A pass (R122, R127; log entry 156) -/

/-- Whether chanter `n` is where the standard program may make a pass: it runs it, drives a pair, and is at an entry point or waits for a frame. -/
def State.stdReady (s : State) (n : Nat) : Bool :=
  let g := s.engine n
  s.get F.CHT_INFO_PROGRAM == 1 && g.on && s.bit F.CLK_CTL_CORE && s.domOn ((addrDomain (engineBase n)).getD 0) && decide (s.pairOf n < 128) &&
  (match g.wait with
   | .frame .. => true
   | .none => g.pc == 0#32 || g.pc == 4#32
   | _ => false)

/-- The words of the pair region that a pass reads and that are uncorrectable: the row ring, the temperature table, the entries of the watch
lists. -/
def State.stdPoison (s : State) (n c : Nat) : Option Nat :=
  let g := s.prog c
  let a := (List.range 68).map fun i => if i < 64 then pairRegion n + 8 * i else pairRegion n + 0x300 + 8 * (i - 64)
  let w := [0, 1].flatMap fun b => (List.range (g.watchCount b)).map fun i => watchAt n b i
  (a ++ w).find? fun x => gridClassify (s.memWord x) == .uncorrectable

/-- Entry into the program (R127, R174, R176): a start finds nothing known, a takeover, loan or return resumes both lanes from their
checkpoints and adds its note. -/
def State.stdEnter (s : State) (n c : Nat) : State :=
  let g := s.engine n
  if g.wait ≠ .none then s
  else if g.pc = 4#32 then
    let t := (s.stdResume n c 0).stdResume n c 1
    if g.entry = 5 then t.stdNote n 10 0 0 c else t.stdNote n 9 0 0 (c + if g.entry = 4 then 256 else 0)
  else s.setProg c {}

/-- One pass of the standard program of chanter `n` over pair `c`. A word of its data memory that is uncorrectable raises POISON_D when a load
meets it (R179). -/
def State.stdPass (s : State) (n : Nat) : State :=
  let c := s.pairOf n
  let s0 := s.stdEnter n c
  match s0.stdPoison n c with
  | some a => (s0.memRead 7 a).1.exception n 5
  | none =>
    let s1 := (s0.stdCommits n c).stdWindows n c
    let s2 := (s1.stdWithdraw n c 0).stdWithdraw n c 1
    let s3 := (s2.stdReconvert n c 0).stdReconvert n c 1
    let s4 := ((State.stdDrain n c 64 s3).stdRows n c).stdComplete c
    let s5 := s4.stdSources n c
    s5.setEngine n { s5.engine n with
      wait := .frame (openFrame s5.now) true true 0 0 (s5.laneEdges (2 * c)) (s5.laneEdges (2 * c + 1)) }

/-- Every chanter that runs the standard program makes a pass. -/
def State.programs (s : State) : State :=
  if s.get F.CHT_INFO_PROGRAM = 1 then (List.range 132).foldl (fun t n => if t.stdReady n then t.stdPass n else t) s else s

end Sys2Proof.Machine
end

