-- ==== Sys2Proof/Machine/Step.lean ====
section
/-! DEFINITION. Sys2Proof/Machine/Step.lean: one step takes the command that has waited longest. -/
namespace Sys2Proof.Machine

/-- The state with a queue of waiting commands in place of its own. -/
def State.withPending (s : State) (q : List Instr) : State := { s with pending := q }

/-- One ENG cycle with no command: wheel time advances (log entry 2). -/
def State.tickOne (s : State) : State := { s with now := s.now + 1 }

/-- One step: the command at the front of the queue, run with the rest of the queue; with an empty queue, one ENG cycle passes, the
chanters that run the standard program make a pass, and a queued Ivwyn buffer is sent (log entries 2, 156 and 163). -/
def step (s : State) : Host.Outcome State Fault Refusal :=
  match s.pending with
  | [] => .next s.tickOne.programs.ivwTxNext
  | c :: r => exec c (s.withPending r)

/-- The state with the command that a word spells at the front of its queue; unchanged where the word spells none. -/
def State.withFetchWord (s : State) (nbits w : Nat) : State :=
  match Sys2Proof.decodeTableWord nbits w with
  | some c => s.withPending (c :: s.pending)
  | none => s

end Sys2Proof.Machine
end

