-- ==== Sys2Proof/Safety.lean ====
section
/-! DEFINITION. Sys2Proof/Safety.lean: what claims mean by a step that goes on, and the invariants that steps keep. -/
namespace Sys2Proof.Machine

/-- A step goes on: it answers a next state. -/
def Goes (o : Host.Outcome State Fault Refusal) (t : State) : Prop := o = .next t

/-- An initiator makes a 32-bit access of the spine address `a`: a drone that runs and whose access no rule stops, the fabric where its
port reaches, the TAP and the Ivwyn engine always (R169-R171, R331). -/
def State.sends (s : State) (ini : Initiator) (write : Bool) (a : Nat) : Bool :=
  match ini with
  | .drone d => s.droneRuns d.val && decide (accessOf (132 + d.val) a 4 write = .spine)
  | .fabric => fabricReach write a
  | _ => true

/-- The response code of the last spine access of an initiator (R493), 0 for one without error. -/
def State.respCode (s : State) (ini : Initiator) : Nat := (Sparse.get (fun _ => {}) s.spine (iniCode ini)).code

/-- The read data of the last spine access of an initiator. -/
def State.respData (s : State) (ini : Initiator) : BitVec 64 := (Sparse.get (fun _ => {}) s.spine (iniCode ini)).data

/-- Source `n` is pending on some drone (R473). -/
def State.isPending (s : State) (n : Nat) : Bool := [0, 1, 2, 3].any fun d => (s.slot n d).pend

/-- The registers that count merged raises (R473). -/
def coalesced : List Nat := [R.IRQ_D_COALESCED 0, R.IRQ_D_COALESCED 1, R.IRQ_D_COALESCED 2, R.IRQ_D_COALESCED 3]

/-- The registers that a mode change writes, with the merged raises of source 824 (R18, R21). -/
def modeRegs : List Nat := R.SYS_MODE :: R.SYS_MODE_STAT :: coalesced

/-- The registers that an error response writes (R480), with the merged raises of 904 and 905. -/
def berrRegs : List Nat := R.IRQ_BERR_ADDR :: R.IRQ_BERR_INFO :: R.IRQ_BERR_COUNT :: coalesced

/-- The engine that keeps the error responses of an initiator: a drone's (R172). -/
def iniEngines (ini : Initiator) : List Nat :=
  match ini with
  | .drone d => [132 + d.val]
  | _ => []

/-- The rows of the register list of block `b` whose writes act beyond the access codes of their fields: command bits, FIFOs, checks over several
fields, registers held elsewhere. -/
def rowActs (b off : Nat) : Bool :=
  (match b with
    | 0 => [0x14] | 1 => [0x0C, 0x120] | 2 => [0, 0x10, 0x40, 0xC0] | 3 => [0x20, 0x800, 0x80C, 0x848] | 4 => [0] | 5 => [0]
    | 6 => [0x100, 0x10C, 0x110, 0x400, 0x500] | 7 => [0] | 8 => [0x108] | 9 => [0, 4, 0x30, 0x40, 0x44, 0x400] | 10 => [0x10, 0x20, 0x80, 0x100, 0x400]
    | 11 => [0, 0x404, 0x408, 0x40C, 0x418, 0x600, 0x604, 0x700] | 12 => [0, 4, 0x400, 0x800, 0x804, 0xB00] | 13 => [0x1C, 0x410, 0x510, 0xC000]
    | 14 => [0x1C, 0x20] | 15 => [0x108, 0x118, 0x120] | 16 => [0, 4, 8, 0xC, 0x100, 0x160, 0x200, 0x300, 0x318, 0x320, 0x400, 0x404, 0x408]
    | 17 => [0, 0x10, 0x18, 0x20] | 18 => [0x1000] | 19 => [0, 8, 0x10, 0x18, 0x20, 0x60] | _ => []).contains off

/-- The rows that show a computed word, or whose read acts beyond the access codes of their fields: FIFOs, latches, results of the converters. -/
def rowShows (b off : Nat) : Bool :=
  (match b with
    | 3 => [0x83C, 0x840, 0x844] | 4 => [0x24, 0x34, 0x100] | 6 => [0x104, 0x108, 0x400, 0x480, 0x1000]
    | 11 => [0x404, 0x408, 0x608, 0x60C, 0x740, 0x744] | 13 => [0x524] | 14 => [0x18, 0x24, 0x100C] | 15 => [0x11C, 0x124]
    | 18 => [0x100, 0x104] | 19 => [0x0C, 0x2C, 0x8400] | _ => []).contains off || b == 16 || (b == 12 && decide (off < 0x20))

/-- A field of a register after a write of `v` over `w` (R5, R8): RW takes a legal value, W1C and W1S clear and set where a 1 is written, the
others stay. -/
def fieldWritten (w v : Word) (f : FieldDesc) : Nat :=
  match f.acc with
  | .rw => if f.legal.ok (bitsOf v f.hi f.lo) then bitsOf v f.hi f.lo else bitsOf w f.hi f.lo
  | .w1c => bitsOf (w &&& ~~~v) f.hi f.lo
  | .w1s => bitsOf (w ||| v) f.hi f.lo
  | .ro | .wo | .rc => bitsOf w f.hi f.lo

/-- Whether a write of `v` meets no reserved encoding in a row's RW fields (R8). -/
def RegDesc.takes (r : RegDesc) (v : Word) : Bool := r.fields.all fun f => f.acc != .rw || f.legal.ok (bitsOf v f.hi f.lo)

/-- Bit `k` lies in no field of the row: it is reserved (R7). -/
def RegDesc.reserves (r : RegDesc) (k : Nat) : Bool := r.fields.all fun f => decide (k < f.lo) || decide (f.hi < k)

/-- The angle that an SSI word gives: its position field, decoded from Gray code where GRAY is 1, in 24 bits, with ZERO (R45). -/
def State.ssiAngle (s : State) (x word : Nat) : Int :=
  let pb := s.get (F.WHEEL_SH_SSI_POS_BITS x)
  let field := word % 2 ^ s.get (F.WHEEL_SH_SSI_WORD_BITS x) / 2 ^ s.get (F.WHEEL_SH_SSI_POS_LSB x) % 2 ^ pb
  (((if s.bit (F.WHEEL_SH_SSI_GRAY x) then grayToBin pb field else field) * 2 ^ (24 - pb) : Nat) + (s.get (F.WHEEL_SH_ZERO_ZERO x) : Int)) % 16777216

/-- How far a sample's step lies from the one SPEED predicts (R46). -/
def State.ssiMiss (s : State) (x word t : Nat) : Int :=
  let k := s.tracker x
  halfStep (s.ssiAngle x word - k.theta) - Int.tdiv (k.speed * ((t : Int) - k.tk)) 65536

/-- Tracker register `reg` of TRACKER_CFG_WRITE. -/
def trackerReg (x : Fin 2) (reg : Fin 3) : Nat := match reg with | 0 => R.WHEEL_SH_CFG x.val | 1 => R.WHEEL_SH_EDGES x.val | _ => R.WHEEL_SH_ZERO x.val

/-- The word that a write of `v` leaves in a register by the access codes of its fields, and whether it met a reserved encoding (R5, R8). -/
def State.written (s : State) (a : Nat) (v : Word) : Word × Bool := ((s.mergeWrite a v).1.rd a, (s.mergeWrite a v).2)

/-- Engine `e` fetches the instruction word `w`: it runs, its PC lies in its instruction memory, and the grid word there is clean and holds
`w` (R138, R140, R147, R168, R169). -/
def State.fetches (s : State) (e : Nat) (w : Word) : Bool :=
  s.engineRuns e && decide ((s.engine e).pc.toNat < if e < 132 then 0x4000 else 0x10000) &&
  decide (gridClassify (s.memWord (engineBase e + (s.engine e).pc.toNat)) = .clean) && decide ((s.instrWord e).2 = some w)

/-- Engine `e` issues the instruction word `w`: it fetches it, and its guard is true (R148). -/
def State.issues (s : State) (e : Nat) (w : Word) : Bool := s.fetches e w && decide (s.guard e (bitsOf w 31 28) = some true)

/-- The instructions of format T of engine `e` with operands `t`: each with its word, by R147 and its OP code, and whether the encoding is legal: its
reserved fields 0, its field values and register pairs as its row asks, its kind of engine (R149-R157). -/
def formsT (e : Fin 136) (t : FmtT) : List (Instr × Word × Bool) :=
  let cht := decide (e.val < 132)
  [(.add e t, t.word 0x02, t.fn.val == 0), (.sub e t, t.word 0x03, t.fn.val == 0), (.and e t, t.word 0x04, t.fn.val == 0),
    (.or e t, t.word 0x05, t.fn.val == 0), (.xor e t, t.word 0x06, t.fn.val == 0), (.shl e t, t.word 0x07, t.fn.val == 0),
    (.shr e t, t.word 0x08, t.fn.val == 0), (.sra e t, t.word 0x09, t.fn.val == 0), (.mul e t, t.word 0x0A, t.fn.val == 0),
    (.mulh e t, t.word 0x0B, t.f 9 1 == 0), (.min e t, t.word 0x0C, t.f 9 1 == 0), (.max e t, t.word 0x0D, t.f 9 1 == 0),
    (.div e t, t.word 0x0E, t.f 9 1 == 0), (.sel e t, t.word 0x0F, t.f 9 2 == 0),
    (.cmp e t, t.word 0x10, t.f 9 5 == 0 && t.rd.val == 0 && t.f 4 2 != 7),
    (.plog e t, t.word 0x11, t.f 9 3 == 0 && decide (t.rd.val < 4) && decide (t.ra.val < 4) && decide (t.rb.val < 4)),
    (.amul e t, t.word 0x20, t.rd.val == 0 && t.f 9 1 == 0), (.amac e t, t.word 0x21, t.rd.val == 0 && t.f 9 1 == 0),
    (.aadd e t, t.word 0x22, t.rd.val == 0 && t.rb.val == 0 && t.f 9 2 == 0),
    (.ard e t, t.word 0x23, t.ra.val == 0 && t.rb.val == 0 && t.f 9 8 == 0 && decide (t.f 6 1 < 48)),
    (.adiv e t, t.word 0x24, t.rb.val == 0 && t.f 9 1 == 0),
    (.drop e t, t.word 0x26, cht && t.rd.val == 0 && t.f 9 5 == 0 && (decide (t.f 3 0 < 5) || t.f 3 0 == 15)),
    (.watch e t, t.word 0x27, cht && t.rd.val == 0 && t.ra.val == 0 && t.rb.val == 0 && t.fn.val == 0),
    (.note e t, t.word 0x2C, cht && t.rd.val == 0 && t.f 9 6 == 0 && decide (1 ≤ t.f 3 0) && decide (t.f 3 0 ≤ 10)),
    (.jr e t, t.word 0x32, t.rd.val == 0 && t.rb.val == 0 && t.f 9 1 == 0),
    (.angle e t, t.word 0x34, t.rd.val % 8 == 0 && t.ra.val == 0 && t.rb.val == 0 && t.f 9 2 == 0 && t.f 1 0 != 0),
    (.time e t, t.word 0x35, t.rd.val % 2 == 0 && t.ra.val == 0 && t.rb.val == 0 && t.fn.val == 0),
    (.gets e t, t.word 0x36, t.ra.val == 0 && t.rb.val == 0 && t.f 9 5 == 0 && decide (t.f 4 0 < 12)),
    (.wins e t, t.word 0x37, t.ra.val % 2 == 0 && t.f 9 1 == 0), (.winsr e t, t.word 0x38, t.ra.val == 0 && t.rb.val == 0 && t.fn.val == 0),
    (.sts e t, t.word 0x39, t.f 9 1 == 0 && t.rb.val == 0 && (if t.f 0 0 = 1 then t.rd.val == 0 else t.ra.val == 0)),
    (.evt e t, t.word 0x3A, cht && t.rd.val % 4 == 0 && t.ra.val == 0 && t.rb.val == 0 && t.f 9 2 == 0),
    (.slot e t, t.word 0x3B, cht && t.rd.val % 2 == 0 && decide (t.f 4 1 < 12) && t.f 9 6 == 0),
    (.echo e t, t.word 0x3E, cht && t.rd.val % 2 == 0 && t.rb.val == 0 && t.f 9 9 == 0 && decide (t.f 4 1 < 12)),
    (.wff e t, t.word 0x3F, cht && t.ra.val == 0 && t.rb.val == 0 && t.f 9 4 == 0)]

/-- Those of format I. -/
def formsI (e : Fin 136) (i : FmtI) : List (Instr × Word × Bool) :=
  let cht := decide (e.val < 132)
  [(.addi e i, i.word 0x12, true), (.andi e i, i.word 0x13, true), (.ori e i, i.word 0x14, true), (.xori e i, i.word 0x15, true),
    (.shli e i, i.word 0x16, i.f 13 5 == 0), (.shri e i, i.word 0x17, i.f 13 5 == 0), (.srai e i, i.word 0x18, i.f 13 5 == 0),
    (.cmpi e i, i.word 0x19, decide (i.rd.val < 4) && i.f 13 11 != 7),
    (.ext e i, i.word 0x1A, i.f 13 11 == 0 && decide (i.f 4 0 + (i.f 9 5 + 1) ≤ 32)),
    (.dep e i, i.word 0x1B, i.f 13 10 == 0 && decide (i.f 4 0 + (i.f 9 5 + 1) ≤ 32)), (.ldw e i, i.word 0x28, true),
    (.ldd e i, i.word 0x29, i.rd.val % 2 == 0), (.stw e i, i.word 0x2A, !cht), (.std e i, i.word 0x2B, i.rd.val % 2 == 0),
    (.iret e i, i.word 0x2D, !cht && i.rd.val == 0 && (if i.f 13 13 = 1 then i.f 12 0 == 0 else i.f 12 10 == 0 && i.ra.val == 0)),
    (.swi e i, i.word 0x2E, !cht && i.rd.val == 0 && i.f 12 10 == 0 && (if i.f 13 13 = 1 then i.f 9 0 == 0 else i.ra.val == 0 && decide (920 ≤ i.f 9 0))),
    (.ctxl e i, i.word 0x3C, cht && i.rd.val % 2 == 0), (.ctxs e i, i.word 0x3D, cht && i.rd.val % 2 == 0)]

/-- Those of format L. -/
def formsL (e : Fin 136) (l : FmtL) : List (Instr × Word × Bool) :=
  [(.movi e l, l.word 0x1C, true), (.movhi e l, l.word 0x1D, true)]

/-- Those of format J. -/
def formsJ (e : Fin 136) (j : FmtJ) : List (Instr × Word × Bool) :=
  let cht := decide (e.val < 132)
  [(.nop e j, j.word 0x01, j.imm.val == 0), (.waiti e j, j.word 0x2F, !cht && j.imm.val == 0), (.br e j, j.word 0x30, true),
    (.call e j, j.word 0x31, true), (.fence e j, j.word 0x33, j.imm.val == 0)]

/-- All of them. -/
def engineForms (e : Fin 136) (t : FmtT) (i : FmtI) (l : FmtL) (j : FmtJ) : List (Instr × Word × Bool) :=
  formsT e t ++ (formsI e i ++ (formsL e l ++ formsJ e j))

/-- An engine at its next instruction (R139). -/
def Engine.next (g : Engine) : Engine := { g with pc := g.pc + 4#32 }

/-- An engine that no longer waits. -/
def Engine.ready (g : Engine) : Engine := { g with wait := .none }

/-- A drone whose oldest posted store has been answered: the store leaves the list; a fifth store that waits is posted, and a FENCE goes on when the
list is empty (R154, R172). -/
def storeAnswered (g : Engine) : Engine :=
  match g.wait with
  | .post p => { g with posted := g.posted.tail ++ [p], wait := .none, pc := g.pc + 4#32 }
  | .fence => if g.posted.tail = [] then { g with posted := [], wait := .none, pc := g.pc + 4#32 } else { g with posted := g.posted.tail }
  | _ => { g with posted := g.posted.tail }

/-- An engine with a bit of ST set or cleared (R144). -/
def Engine.flag (g : Engine) (b : Nat) (v : Bool) : Engine := { g with st := setBitsOf g.st b b (if v then 1 else 0) }

/-- A state in micro-step `m` of the user cycles: wheel time is no earlier than it, and the feed words are sampled (R299, R329). -/
def State.inStep (s : State) (m : Nat) : State := (s.at_ (s.stepTime m)).feedSample m

/-- The place of micro-step `m` in the phrase of cell `id` (R300). -/
def State.reedPlace (s : State) (id m : Nat) : Nat := m % 840 % cfgPhrase (s.cellCfg id)

/-- The instruction word that a cell executes in micro-step `m`; with TRIPLE each word takes three (R300, R302, R305). -/
def State.reedWord (s : State) (id m : Nat) : Nat :=
  cfgInstr (s.cellCfg id) (if cfgTriple (s.cellCfg id) then s.reedPlace id m / 3 else s.reedPlace id m)

/-- Source a, b or c (field at bit 17, 12 or 7) of that instruction: as its code says, or, in the second and third micro-step of a TRIPLE, as
latched in the first (R302, R305, R306). -/
def State.reedSrc (s : State) (id m lo : Nat) : BitVec 16 :=
  if cfgTriple (s.cellCfg id) && s.reedPlace id m % 3 != 0 then
    (if lo = 17 then (s.cell id).la else if lo = 12 then (s.cell id).lb else (s.cell id).lc)
  else (s.inStep m).source id m (s.reedWord id m) (s.reedWord id m / 2 ^ lo % 32)

/-- A word-mode cell runs and executes operation `op` in micro-step `m` (R299, R300, R305). -/
def State.reedIssues (s : State) (op : Nat) (id m : Nat) : Bool :=
  (s.at_ (s.stepTime m)).cellRuns id && !cfgBit (s.cellCfg id) && s.reedWord id m / 2 ^ 26 == op

/-- Micro-step `m` registers its result: it is no first or second micro-step of a TRIPLE (R302). -/
def State.reedLast (s : State) (id m : Nat) : Bool := !cfgTriple (s.cellCfg id) || s.reedPlace id m % 3 == 2

/-- Cell `k` with result `r` registered in PREV and in destination `d`, C = `cf` and F = `ff`; an output register only where `own` holds: its
driver is not latched off (R307, R316). -/
def Cell.takes (k : Cell) (m d : Nat) (own : Bool) (r : BitVec 16) (cf ff : Bool) : Cell :=
  let o := Sparse.put (fun _ => {}) k.out (d - 4) ((Sparse.get (fun _ => {}) k.out (d - 4) : Reg2).write m r)
  { k with
    prev := r, c := cf, f := ff, q0 := if d = 0 then r else k.q0, q1 := if d = 1 then r else k.q1, q2 := if d = 2 then r else k.q2
    q3 := if d = 3 then r else k.q3, ramwd := if d = 13 then k.ramwd.write m r else k.ramwd
    out := if 4 ≤ d ∧ d < 12 ∧ own = true then o else k.out }

/-- What cell `id` holds after it has executed an operation with result `r`, C = `cf` and F = `ff` in micro-step `m`: it registers them in the
destination of the instruction; with TRIPLE it keeps its sources and the first two results, and registers the majority of three in the
third (R302, R307). -/
def State.reedCell (s : State) (id m : Nat) (r : BitVec 16) (cf ff : Bool) : Cell :=
  let k := s.cell id
  let d := s.reedWord id m / 2 ^ 22 % 16
  let own := !s.latched id (d - 4)
  if cfgTriple (s.cellCfg id) = false then k.takes m d own r cf ff
  else if s.reedPlace id m % 3 = 0 then
    { k with la := s.reedSrc id m 17, lb := s.reedSrc id m 12, lc := s.reedSrc id m 7, t0 := ⟨r, cf, ff⟩ }
  else if s.reedPlace id m % 3 = 1 then { k with t1 := ⟨r, cf, ff⟩ }
  else k.takes m d own (maj16 k.t0.r k.t1.r r) (majBit k.t0.carry k.t1.carry cf) (majBit k.t0.flag k.t1.flag ff)

/-- What the checks of DECRYPT answer for the staged stream, against the running configuration: CODE and FRAME, 0 when it passes, with the records
and segment keys (R350-R352, R364, R374, R376). -/
def State.decryptChecks (s : State) : Nat × Nat × PassData :=
  let b := s.cfg.pr.bytes
  let h := b.take 480
  let region := headerRegion h
  match s.unwrap h with
  | none => (0x07, 0, {})
  | some k0 =>
    match ladder (some region) b none (fieldBE h 28 2) (fieldBE h 12 4) (slice h 16 8) (Config.sha384 (slice h 0 384)) (fieldBE h 28 2) 0 k0 {} with
    | (d, .more) => (0x02, 0, d)
    | (d, .reject code off) => (code, if code = 0x09 ∨ code = 0x0A then frameAt d.recs.reverse off else 0, d)
    | (d, .ok) =>
      if s.cfg.pr.fabric = true ∧ region.contains 240 = true then (0x09, 0, d)
      else
        match crossCheck d.recs s.cellCfg with
        | .reject code off => (code, frameAt d.recs off, d)
        | _ => (if region.any fun k => !s.quadOn (tractQuad k) then 0x0D else 0, 0, d)

/-- State `t` is what a start-up pass of `s` leaves that ends with a rejection at stream offset `off`: a primary pass leads to FALLBACK, with every
image field 0 and no frame record or key; a pass of a golden image leads to QUARANTINE, after the SAFE burst where a lane sends. A device
behind a head reports it (R23, R29, R381, R382, R388, R391, R589). -/
def State.passRejected (s t : State) (code off : Nat) : Bool :=
  let told := s.report 0x12 ([s.passNumber, s.passGolden, code] ++ bytesBE 4 off)
  decide (t.rdN R.CFG_REJECT_OFFSET = off % 2 ^ 32) &&
    (if s.mode = M.fallback ∨ s.cfg.boot.golden = true then
      decide (t.get F.CFG_BOOT_GOLDEN_CODE = code % 256) &&
      decide (s.mode = M.fallback → t.emnPorts = (told.report 0x14 [code]).emnPorts) &&
      (s.leaving ||
        if s.sendingLanes = [] then
          decide (t.mode = M.quarantine ∧ t.get F.SYS_MODE_CAUSE = 0x12 ∧ t.get F.SYS_MODE_PREV = M.fallback ∧ t.isPending 824 = true)
        else decide (t.mode = M.fallback ∧ t.modeCtl.toQuarantine = true ∧ t.modeCtl.cause = 0x12))
    else
      decide (t.mode = M.fallback ∧ t.get F.SYS_MODE_CAUSE = 0x11 ∧ t.get F.SYS_MODE_PREV = s.mode ∧ t.isPending 824 = true) &&
      decide (t.get F.CFG_BOOT_PRIMARY_CODE = code % 256 ∧ t.cfg.recs = [] ∧ t.cfg.keyTab = [] ∧ t.cfg.keysFull = false ∧ t.shadow = []) &&
      decide (t.cfg.boot = { golden := !s.emn.upstream, start := s.now } ∧ t.emnPorts = told.emnPorts))

/-- State `t` is what the first pass of `s` leaves that is accepted with HDR_HASH `hash`: VERIFY goes to LOAD, FALLBACK to its second pass (R23, R378,
R380, R388). -/
def State.passVerified (s t : State) (hash : List Nat) : Bool :=
  decide (t.cfg.boot = { golden := s.cfg.boot.golden, second := true, start := s.now, hash := hash, verifyTime := (s.now - s.cfg.boot.start) / 4000 }) &&
  decide (t.mode = (if s.mode = M.verify then M.load else s.mode)) &&
  decide (s.mode = M.verify → t.get F.SYS_MODE_CAUSE = 0x10 ∧ t.get F.SYS_MODE_PREV = M.verify ∧ t.isPending 824 = true) &&
  decide (t.emnPorts = (s.report 0x11 [1]).emnPorts ∧ t.mem = s.mem ∧ t.fab = s.fab ∧ t.cfg.recs = s.cfg.recs ∧ t.cfg.keyTab = s.cfg.keyTab)

/-- State `t` is what the second pass of `s` leaves that is accepted, with header `h`, records and keys `d`, from slot `slot` (3 = UPSTREAM) with its header
at `base`: INIT; every frame, block and engine word holds what its record says, frames and blocks are GOOD with their source, the key table holds
the segment keys, the image is identified, and the active chanters and the drones begin at address 0 (R23, R175, R344, R376, R380, R397). -/
def State.passLoaded (s t : State) (h : List Nat) (d : PassData) (slot base : Nat) : Bool :=
  decide (t.mode = M.init ∧ t.get F.SYS_MODE_CAUSE = 0x10 ∧ t.get F.SYS_MODE_PREV = s.mode ∧ t.isPending 824 = true) &&
  decide (t.rdN R.CFG_IMAGE_ID_HI = fieldBE h 16 4 ∧ t.rdN R.CFG_IMAGE_ID_LO = fieldBE h 20 4 ∧ t.rdN R.CFG_IMAGE_BUILD = fieldBE h 24 4) &&
  decide (t.get F.CFG_BOOT_SOURCE = (match slot with | 1 => 0 | 2 => 1 | 0 => 2 | _ => 3) ∧
    t.get F.CFG_BOOT_POS = (if slot = 3 then s.get F.EMN_POS_POS else 0)) &&
  decide (s.mode = M.fallback → t.bit F.CFG_BOOT_GOLDEN = true ∧ t.bit F.SYS_MODE_GOLDEN = true) &&
  decide (t.get F.CFG_PASS_TIME_VERIFY = s.cfg.boot.verifyTime % 65536 ∧ t.get F.CFG_PASS_TIME_LOAD = (s.now - s.cfg.boot.start) / 4000 % 65536) &&
  decide (t.cfg.boot = { slot := slot, base := base } ∧ t.sec.imageHash = Config.sha384 (slice h 0 384)) &&
  (List.range 512).all (fun i => decide (t.keyEntry i = d.keys[i]?)) &&
  d.recs.all (fun r => match r with
    | .frame ram n pay crc seg pos _ =>
      decide (t.frameRec (if ram then 4096 + n else n) =
        { state := 0, golden := crc, chain := slot == 3, key := seg, src := base + 480 + 65536 * seg + pos, pos := pos }) &&
      (if ram then (List.range 512).all fun i => decide (t.memWord (ramBlock n + 8 * i) = gridEncode (BitVec.ofNat 64 (fieldBE pay (8 * i) 8)))
        else (List.range 16).all fun i => decide (t.cellCfg (n * 16 + i) = (frameCells pay).getD i 0))
    | .engine a l => (List.range l.length).all fun i => decide (t.memWord (a + 8 * i) = gridEncode (BitVec.ofNat 64 (l.getD i 0)))
    | _ => true) &&
  (List.range 128 ++ [132, 133, 134, 135]).all fun e => (t.engine e).on && decide ((t.engine e).pc = 0)

/-- The member of the chain container in use for position `p` (R385, R389, R393). -/
def State.chainMember (s : State) (p : Nat) : Option (Nat × Nat) := (s.directory s.chainSlot).bind fun d => dirMember d p

/-- Where a position that sent READY stands in the first round: members go in the order of their lowest position, a position without one at its own
number, those that await the golden member last (R389, R393). -/
def State.chainRank (s : State) (r : Nat × Bool) : Nat :=
  if r.2 = true then 17
  else if (s.chainMember r.1).isSome = true then ((List.range 16).find? fun p => s.chainMember p == s.chainMember r.1).getD 16
  else r.1

/-- State `t` is what the head leaves that begins a pass in `s`: BEGIN goes to `dst`, with MASK where it is a broadcast; CHAIN_STAT shows the pass, and
STREAMS of its positions count (R387, R389, R393, R397). -/
def State.passBegun (s t : State) (slot : Nat) (m : Nat × Nat) (golden second : Bool) (dst : Nat) (mask : List Nat) : Bool :=
  let c := s.cfg.chain
  decide (t.cfg = { s.cfg with chain := { c with
    ready := t.cfg.chain.ready, retry := t.cfg.chain.retry, active := true, golden := golden, second := second, slot := slot, off := m.1, len := m.2,
    dst := dst, next := some 0, mask := mask, passed := [], ended := none,
    served := if c.served.contains slot then c.served else slot :: c.served } }) &&
  decide (t.bit F.CFG_CHAIN_STAT_ACTIVE = true ∧ t.bit F.CFG_CHAIN_STAT_GOLDEN = (slot == 0)) &&
  decide (t.get F.CFG_CHAIN_STAT_CUR_PASS = (if golden then 8 else 0) + (if second then 2 else 1)) &&
  decide (t.get F.CFG_CHAIN_STAT_MASK = maskBits mask % 65536) &&
  mask.all (fun p => decide (t.get (F.CFG_CHAIN_POS_STREAMS p) = (s.get (F.CFG_CHAIN_POS_STREAMS p) + mask.count p) % 256)) &&
  (let u := s.emnData 1 dst ([1, (if golden then 128 else 0) + (if second then 2 else 1)] ++ bytesBE 2 (if dst = 0xFF then maskBits mask else 0) ++
      bytesBE 4 0 ++ bytesBE 4 m.2)
   decide (t.emnPorts = u.emnPorts ∧ t.emn = u.emn))

/-- State `t` is what the head leaves when position `p` has left the pass of `s`, with `passed` and `retry` as the lists of positions that passed and that
are to be served from the golden container: the pass ends when no position is left, and CHAIN_DONE, source 828, is raised when then no position that
sent READY is left to serve (R389, R398). -/
def State.passLeft (s t : State) (p : Nat) (passed retry : List Nat) : Bool :=
  let c := s.cfg.chain
  let m := c.mask.filter fun q => q != p
  let empty := c.active && m == []
  let done := empty && c.ready == [] && retry == [] && (passed == [] || c.second)
  decide (t.cfg = { s.cfg with chain := { c with
    mask := m, passed := passed, retry := retry, active := c.active && !empty, next := if empty then none else c.next,
    ended := if empty then none else c.ended, later := c.later || done } }) &&
  decide (t.get F.CFG_CHAIN_STAT_MASK = maskBits m % 65536 ∧ t.bit F.CFG_CHAIN_STAT_ACTIVE = (s.bit F.CFG_CHAIN_STAT_ACTIVE && !empty)) &&
  decide (t.bit F.CFG_CHAIN_STAT_GOLDEN = s.bit F.CFG_CHAIN_STAT_GOLDEN ∧ t.get F.CFG_CHAIN_STAT_CUR_PASS = s.get F.CFG_CHAIN_STAT_CUR_PASS) &&
  (if done then t.isPending 828 else [0, 1, 2, 3].all fun d => decide (t.slot 828 d = s.slot 828 d))

/-- `FLASH.STAT` shows the operations of the arrays (R415, R429). -/
def State.flashShows (t : State) : Bool :=
  decide (t.bit F.FLASH_STAT_CF_BUSY = (t.flash.ops != []) ∧ t.get F.FLASH_STAT_SUSP = (t.flash.ops.countP fun o => o.susp) % 4) &&
  decide (t.bit F.FLASH_STAT_SUSP_CMD = (match (t.flash.ops.filter fun o => o.susp).getLast? with | some o => o.byCmd | none => false)) &&
  decide (t.bit F.FLASH_STAT_COMPACTING = t.flash.after.isSome ∧ t.bit F.FLASH_STAT_PF_BUSY = t.flash.pfOp.isSome)

/-- State `t` reports the end of a command of the configuration array with code `cf`, and of the parameter array with code `pf`, where one ended: CODE,
the done bit and sources 840 to 843 (R411, R431). The other bits of `FLASH.STAT` show what they showed, the progress bits what `t` holds. -/
def State.flashEnds (s t : State) (cf pf : Option Nat) : Bool :=
  let told := fun (code : Option Nat) (fc fd : FieldAt) (n : Nat) =>
    decide (t.get fc = code.getD (s.get fc) ∧ t.bit fd = (s.bit fd || code.isSome)) &&
    (if code.isSome then t.isPending n else [0, 1, 2, 3].all fun d => decide (t.slot n d = s.slot n d)) &&
    (if code.isSome && code != some 0 then t.isPending (n + 1) else [0, 1, 2, 3].all fun d => decide (t.slot (n + 1) d = s.slot (n + 1) d))
  t.flashShows && told cf F.FLASH_STAT_CF_CODE F.FLASH_STAT_CF_DONE 840 && told pf F.FLASH_STAT_PF_CODE F.FLASH_STAT_PF_DONE 842 &&
  decide (t.bit F.FLASH_STAT_UNCORR = s.bit F.FLASH_STAT_UNCORR)

/-- State `t` is what an entry to RESET with `cause` leaves of `s`, the rails going down with it where `down`: every unit starts afresh but for what no
RESET reaches, which are the non-volatile stores, the memories while they keep their supply, levels at pins, the TAP and the settings of the last
image loaded; the supply and the registers are the statement's to say, beside those of the mode and the lost phases (R6, R16, R277, R434, R437, R502).
A flash operation is abandoned: the pages under it, with the lower page of a wordline, and the PFLASH words are open, the OTP word is programmed and
open or as it was (R410, R418). -/
def State.wentToReset (s t : State) (cause : Nat) (down : Bool) : Bool :=
  let n := bitCount 6 (s.get F.PWR_PHASE_STAT_LOST)
  decide (t = {
    regs := t.regs, now := s.now, free := t.free, mem := if down then [] else s.mem, modeCtl := { aonCause := cause, fresh := false }
    wheel := { inited := !down && s.wheel.inited, inited1 := !down && s.wheel.inited1 }, syncIn := s.syncIn
    fab := { pins := s.fab.pins }, supply := t.supply, flash := t.flash
    sec := { ir := s.sec.ir, boundary := s.sec.boundary, extest := s.sec.extest, tapOut := s.sec.tapOut }
    lastNet := if down then [] else s.lastNet, pending := s.pending }) &&
  decide (t.flash = { s.flash with
    ops := [], pfOp := none, otpOp := none, after := none, lastRead := 0, damaged := t.flash.damaged
    pfBad := t.flash.pfBad, pf := t.flash.pf, otp := t.flash.otp, otpBad := t.flash.otpBad }) &&
  (s.flash.ops != [] || decide (t.flash.damaged = s.flash.damaged)) &&
  (s.flash.pfOp.isSome || decide (t.flash.pf = s.flash.pf ∧ t.flash.pfBad = s.flash.pfBad)) &&
  (s.flash.otpOp.isSome || decide (t.flash.otp = s.flash.otp ∧ t.flash.otpBad = s.flash.otpBad)) &&
  (s.flash.ops.all fun o =>
    let p := (o.addr - 0x30000000) / 0x1000
    if o.op = Fo.prog then t.flash.damaged.contains p && (p % 2 == 0 || t.flash.damaged.contains (p - 1))
    else o.op != Fo.erase || (List.range 16).all fun i => t.flash.damaged.contains (p + i)) &&
  (match s.flash.pfOp with
    | some o => t.flash.pfBad.contains ((o.addr - 0x33000000) / 16)
    | none => true) &&
  (match s.flash.otpOp with
    | some (k, w) =>
      decide ((t.flash.otp = s.flash.otp ∧ t.flash.otpBad = s.flash.otpBad) ∨ (t.otpWord? k = some w ∧ t.flash.otpBad = k :: s.flash.otpBad))
    | none => true) &&
  decide (t.mode = M.reset ∧ t.get F.SYS_MODE_CAUSE = cause % 256 ∧ t.get F.SYS_MODE_PREV = if s.mode = M.reset then s.get F.SYS_MODE_PREV else s.mode) &&
  decide (t.get F.PWR_PHASE_STAT_LOST = s.get F.PWR_PHASE_STAT_LOST ∧ t.get F.SYS_SPARED_VPHASE = (if n = 0 then 0 else 1) ∧
    t.get F.SYS_HOLD_CAUSES_VCORE_CAPACITY = if n < 2 then 0 else 1)

/-- `BIST.STAT` shows the slice in progress with STATE `st`; with none it keeps what it showed of the last (R526). -/
def State.sliceShown (s t : State) (st : Nat) : Bool :=
  decide (t.get F.BIST_STAT_STATE = st ∧ t.bit F.BIST_STAT_MAN_REFUSED = s.bit F.BIST_STAT_MAN_REFUSED) &&
  match t.bist.slice with
  | some x => decide (t.bit F.BIST_STAT_MANUAL = x.manual ∧ t.get F.BIST_STAT_KIND = x.kind % 16 ∧ t.get F.BIST_STAT_ENTRY = t.bist.entry % 256 ∧
      t.get F.BIST_STAT_UNIT = x.unit % 65536)
  | none => decide (setBitsOf (t.rd R.BIST_STAT) 31 30 0 = setBitsOf (s.rd R.BIST_STAT) 31 30 0)

/-- State `t` has the record of slice `x`, sealed with `result` and `cause`: LAST, the signature where one is named, the counter and the source of the
result, the INCOMPLETE results in a row on one unit, and the place in the plan, which an INCOMPLETE or manual slice leaves. A manual slice completes MAN_GO,
or is due again when INCOMPLETE (R5, R514, R516, R522, R524). -/
def State.sliceSealed (s t : State) (x : Slice) (result cause : Nat) (misr : Option (BitVec 64)) : Bool :=
  let b := s.bist
  let u := x.kind * 65536 + x.unit
  let row := if result = 2 then (if b.rowUnit = u then b.row + 1 else 1) else 0
  let stays := x.manual || result == 2
  let more := decide (b.idx + 1 < s.get (F.BIST_PLAN_COUNT b.entry))
  let wraps := !more && (b.entry + 1 == 256 || s.get (F.BIST_PLAN_KIND ((b.entry + 1) % 256)) == 0)
  let due := if x.manual && result == 2 then some (x.kind, x.unit) else b.manual
  let raised := fun (n : Nat) (p : Bool) => if p then t.isPending n else [0, 1, 2, 3].all fun d => decide (t.slot n d = s.slot n d)
  decide (t.get F.BIST_LAST_KIND = x.kind % 16 ∧ t.get F.BIST_LAST_RESULT = result ∧ t.bit F.BIST_LAST_MANUAL = x.manual ∧ t.get F.BIST_LAST_CAUSE = cause ∧
    t.get F.BIST_LAST_UNIT = x.unit % 65536) &&
  (match misr with
    | some m => decide (t.rd R.BIST_MISR_HI ++ t.rd R.BIST_MISR_LO = m)
    | none => true) &&
  decide (t.rdN R.BIST_PASSES = (s.rdN R.BIST_PASSES + if result = 0 then 1 else 0) % 2 ^ 32) &&
  decide (t.rdN R.BIST_FAILS = min 0xFFFFFFFF (s.rdN R.BIST_FAILS + if result = 1 then 1 else 0)) &&
  decide (t.rdN R.BIST_INCOMPLETES = min 0xFFFFFFFF (s.rdN R.BIST_INCOMPLETES + if result = 2 then 1 else 0)) &&
  decide (t.rdN R.BIST_SKIPS = min 0xFFFFFFFF (s.rdN R.BIST_SKIPS + if result = 3 then 1 else 0)) &&
  raised 872 (result == 0) && raised 874 (result == 2 && row == 8) && raised 877 (result == 3) &&
  decide (t.bit F.BIST_CTL_MAN_GO = (s.bit F.BIST_CTL_MAN_GO && !(x.manual && due.isNone)) ∧ t.bit F.BIST_CTL_EN = s.bit F.BIST_CTL_EN) &&
  decide (t.rd R.BIST_LAP_S = if !stays && wraps then BitVec.ofNat 32 ((t.now - b.lapAt) / 400000000) else s.rd R.BIST_LAP_S) &&
  decide (t.bist = { b with
    slice := t.bist.slice, manual := due, row := row, rowUnit := u
    entry := if stays || more then b.entry else if wraps then 0 else b.entry + 1
    idx := if stays then b.idx else if more then b.idx + 1 else 0
    lapAt := if !stays && wraps then t.now else b.lapAt })

/-- The registers that a seal writes (R522, R525). -/
def sealRegs : List Nat :=
  [R.BIST_CTL, R.BIST_STAT, R.BIST_LAST, R.BIST_MISR_LO, R.BIST_MISR_HI, R.BIST_PASSES, R.BIST_FAILS, R.BIST_INCOMPLETES, R.BIST_SKIPS,
    R.BIST_LAP_S] ++ coalesced

/-- Header of a message of the device in session `x` (R267). -/
def ivwHeader (x type flags status txn credit mctr len : Nat) : List Nat :=
  bytesBE 2 0x4957 ++ [1, type] ++ bytesBE 2 x ++ [flags, status] ++ bytesBE 4 txn ++ bytesBE 4 credit ++ bytesBE 8 mctr ++ bytesBE 2 len ++ [0, 0]

/-- Session `k` after the device has sent a message of it to a host: MCTR is one more, and the datagram sent is header, ciphertext and tag, as the
stack of `s` sends it (R266-R268, R535). -/
def Session.sends (k : Session) (s : State) (x : Nat) (ip : Word) (port type flags status txn : Nat) (body : List Nat) : Session :=
  let h := ivwHeader x type flags status txn k.climit (k.mctrOut + 1) body.length
  { k with
    mctrOut := k.mctrOut + 1
    out := s.datagram ip port (h ++ Config.gcmSeal k.keyOut (bytesBE 4 2 ++ bytesBE 8 (k.mctrOut + 1)) h body) :: k.out }

/-- The session after a notification of KIND `k` with `data`: sent as of state `s` to its host, with NSEQ one more (R275). -/
def Session.notified (n : Session) (s : State) (x k : Nat) (data : List Nat) : Session :=
  { n.sends s x n.ip n.port 0x30 0 0 0 ([k, 0] ++ bytesBE 2 n.nseq ++ data) with nseq := (n.nseq + 1) % 65536 }

/-- State `t` is in the mode of `s`, or after the mode change to `m` with cause `c` where one is named: MODE, PREV and CAUSE, source 824, the notification
of each open session that asks for it, and an arm refused that has not taken effect when ARMED is left for another mode than RUN (R18, R21, R30, R275).
The moment at which HOLD is entered is kept (R31). -/
def State.modeMoves (s t : State) (to_ : Option (Nat × Nat)) : Bool :=
  match to_ with
  | none =>
    decide (t.rd R.SYS_MODE = s.rd R.SYS_MODE ∧ t.rd R.SYS_MODE_STAT = s.rd R.SYS_MODE_STAT ∧ t.modeCtl = s.modeCtl ∧ t.sessions = s.sessions) &&
    [0, 1, 2, 3].all fun d => decide (t.slot 824 d = s.slot 824 d)
  | some (m, c) =>
    let drop := s.modeCtl.arm.isSome && s.mode == M.armed && m != M.run && m != M.runSpared
    decide (t.mode = m ∧ t.get F.SYS_MODE_PREV = s.mode ∧ t.get F.SYS_MODE_CAUSE = c) && t.isPending 824 &&
    decide (t.modeCtl = { s.modeCtl with
      arm := if drop then none else s.modeCtl.arm, heldAt := if m = M.hold then some t.now else s.modeCtl.heldAt }) &&
    (if drop then decide (t.bit F.SYS_MODE_STAT_REFUSED = true ∧ t.get F.SYS_MODE_STAT_LAST_REQ = 6)
      else decide (t.rd R.SYS_MODE_STAT = s.rd R.SYS_MODE_STAT)) &&
    (List.range 256).all fun x => decide (t.session x =
      if s.bit (F.IVW_S_STATE_OPEN x) = true ∧ (s.get (F.IVW_S_STATE_MASK x)).testBit 0 = true
      then (s.session x).notified s x 0 (bytesBE 4 (t.rdN R.SYS_MODE)) else s.session x)

/-- HOLD cause `i` is present in `t`, the others as in `s`; ARMED, RUN and RUN-SPARED go to HOLD with it, unless a restart or the way to QUARANTINE is in
progress (R23, R24, R25, R29). -/
def State.holdTaken (s t : State) (i : Nat) : Bool :=
  (List.range 32).all (fun k => t.bitAt R.SYS_HOLD_CAUSES k == (s.bitAt R.SYS_HOLD_CAUSES k || k == i)) &&
  s.modeMoves t (if s.modeIn [M.armed, M.run, M.runSpared] && !s.leaving then some (M.hold, 0x30 + i) else none)

/-- HOLD cause `i` is not present in `t`, the others as in `s`. -/
def State.holdCleared (s t : State) (i : Nat) : Bool :=
  (List.range 32).all fun k => t.bitAt R.SYS_HOLD_CAUSES k == (s.bitAt R.SYS_HOLD_CAUSES k && k != i)

/-- The responses kept, with a new one (R273). -/
def Session.keeps (k : Session) (type status txn : Nat) (body : List Nat) : Session :=
  { k with retained := (⟨type, status, txn, body⟩ :: k.retained.filter fun r => r.txn != txn).take 16 }

/-- Session `k` after it has answered the request at the head of its queue, request `txn`: the response is kept, the request is gone, and it is
sent to the host's address and port that the request came from (R266-R268, R273, R276). -/
def Session.replied (k : Session) (s : State) (x type status txn : Nat) (body : List Nat) : Session :=
  let q : Option IvwReq := k.queue.head?
  ({ k with queue := k.queue.tail, running := false }.keeps type status txn body).sends s x ((q.map fun (r : IvwReq) => r.ip).getD k.fromIp)
    ((q.map fun (r : IvwReq) => r.port).getD k.fromPort) type 0x80 status txn body

/-- Session `k` after it has refused the message that it has just received: the response is kept and sent to where the message came from (R274). -/
def Session.refuses (k : Session) (s : State) (x type status txn : Nat) : Session :=
  (k.keeps type status txn []).sends s x k.fromIp k.fromPort type 0x80 status txn []

/-- A message of the device outside a session, without a tag, for request `txn`; CREDIT and MCTR are open (R266, R267, R274). -/
def State.plain (s : State) (type status txn : Nat) : List Nat :=
  bytesBE 2 0x4957 ++ [1, type, 0xFF, 0xFF, 0x80, status] ++ bytesBE 4 txn ++ bytesBE 4 (s.fresh % 2 ^ 32) ++ bytesBE 8 s.drawn.fresh ++ [0, 0, 0, 0]

/-- The engine, session or drone registers that the answer of an insert goes to (R78). -/
def srcEngines (x : InsertSource) : List Nat := match x with | .engine e _ _ => [e.val] | _ => []

/-- The session that it goes to. -/
def srcSessions (x : InsertSource) : List Nat := match x with | .ivwyn i _ => [i.val] | _ => []

/-- The drone whose INS_STAT it goes to. -/
def srcDrones (x : InsertSource) : List Nat := (insertDrone? x).toList

/-- From `s` to `t` the result code `c` of an insert that had entered its FIFO goes back to its source (R78): a drone's INS_STAT shows it with one
insert less waiting; an engine's WINS gets it in its register and goes on, or queues it for WINSR; an INSERT of Ivwyn that waits for further
answers adds it to its codes; a fabric port's result lines show it, their count one up. -/
def State.answers (s t : State) (x : InsertSource) (c : Nat) : Bool :=
  (srcDrones x).all (fun d => decide (t.droneIns d = { s.droneIns d with code := c, waiting := (s.droneIns d).waiting - 1 })) &&
  match x with
  | .engine e rd true =>
    let g := s.engine e.val
    decide (g.wait = .answer rd.val → t.engine e.val =
      { g.setReg rd.val (BitVec.ofNat 32 c) with wait := .none, inserts := g.inserts - 1, pc := g.pc + 4#32 })
  | .engine e _ false =>
    let g := s.engine e.val
    decide (t.engine e.val = { g with answers := g.answers ++ [c], inserts := g.inserts - 1 })
  | .ivwyn i txn =>
    let k := s.session i.val
    decide (k.running = true → (k.queue.head?.map fun q => (q.txn, q.type)) = some (txn, 0x20) → 2 ≤ k.insertLeft →
      t.session i.val = { k with insertLeft := k.insertLeft - 1, insertCodes := c :: k.insertCodes })
  | .fabric p =>
    decide (Sparse.get (fun _ => 0) t.wheel.results p.val = (Sparse.get (fun _ => 0) s.wheel.results p.val / 16 + 1) % 4096 * 16 + c)
  | _ => true

/-- An Emnodric port that sends an urgent frame (R279, R280). -/
def EmnPort.says (k : EmnPort) (f : EmnFrame) : EmnPort := { k with sent := frameChars f 0 :: k.sent }

/-- A port of the device at position `pos` that accepts the next data frame and acknowledges it (R283). -/
def EmnPort.accepts (k : EmnPort) (pos : Nat) : EmnPort :=
  { k with seqIn := (k.seqIn + 1) % 256 }.says (.urgent 6 pos 0 [k.seqIn, 0, 0, 0, 0, 0, 0])

/-- A port that is given a data frame to send at `now`: it goes out while fewer than 8 frames are unacknowledged, and waits otherwise (R283). -/
def EmnPort.gets (k : EmnPort) (f : EmnFrame) (now : Nat) : EmnPort :=
  if k.window.length < 8 then
    { k with
      window := k.window ++ [(k.seqOut, f)], seqOut := (k.seqOut + 1) % 256, sent := frameChars f k.seqOut :: k.sent
      sentAt := if k.window = [] then now else k.sentAt, ackAt := if k.window = [] then now else k.ackAt }
  else { k with backlog := k.backlog ++ [f] }

/-- A port whose unacknowledged frames are sent again at `now`, the oldest first (R283). -/
def EmnPort.resends (k : EmnPort) (now : Nat) : EmnPort :=
  if k.window = [] then k
  else { k with sentAt := now, sent := (k.window.map fun f => frameChars f.2 f.1).reverse ++ k.sent }

/-- A port of the device at position `pos` that sends a DREQ at `t8` (R287). -/
def EmnPort.asks (k : EmnPort) (pos t8 : Nat) : EmnPort :=
  { k with dreq := some (k.dreqSeq, t8), dreqSeq := (k.dreqSeq + 1) % 256 }.says (.urgent 4 pos 0 [k.dreqSeq, 0, 0, 0, 0, 0, 0])

/-- Whether the gPTP role is what the best master clock algorithm gives (R261): grandmaster where the device's own vector is better than
that of every announced master that counts; else slave of the best of them, fewer steps deciding between equal ones. -/
def State.ptpChosen (s : State) : Bool :=
  match s.ptp.role with
  | some (true, p, ident) => p == 0 && ident == s.ownVector.ident && s.ptpMasters.all fun m => s.ownVector.better m.2.v
  | some (false, p, ident) => s.ptpMasters.any fun m =>
    m.1 == p && m.2.v.ident == ident && !s.ownVector.better m.2.v &&
      s.ptpMasters.all fun k => !k.2.v.better m.2.v && (k.2.v != m.2.v || decide (m.2.steps < k.2.steps ∨ (m.2.steps = k.2.steps ∧ p ≤ k.1)))
  | none => false

/-- The register file is in its one canonical form: addresses rise strictly, and no entry holds the reset value of its register. -/
abbrev State.RegsCanonical (s : State) : Prop := Sparse.wf regReset s.regs = true

/-- The grid-coded memories are in their canonical form. -/
def Memory.wf (s : State) : Bool := Sparse.wf (memReset s.wheel.inited s.wheel.inited1) s.mem

end Sys2Proof.Machine
end

