-- ==== Sys2Proof/Certificates/Slice0/Obligations.lean ====
section
/-! DEFINITION. Sys2Proof/Certificates/Slice0/Obligations.lean: the statements about this model. Each docstring names the rules of spec/ that
a statement formalises; the clauses of a statement are about one command each. -/
open Sys2Proof Sys2Proof.Machine

/-- Requests of a mode: taken, refused and not defined (parts of R18, R19, R21, R23, R24, R25, R29, R30, R31). An initiator whose access reaches SYS.MODE_CTL writes a request; "free" means that no restart and no way to QUARANTINE is in progress. Every change of the mode below writes MODE, PREV and CAUSE and leaves 824 pending; registers, sources and units that a clause does not name stay as they are. (1) REQ_ARMED, free, in INIT with no HOLD cause: ARMED with CAUSE 0x20. (2) REQ_ARMED, free, in INIT with HOLD causes of which i is the lowest: ARMED, and at once HOLD with PREV ARMED and CAUSE 0x30 + i. (3) REQ_ARMED, free, in HOLD with no HOLD cause or only HOLD_REQUEST: the causes become 0, and ARMED with CAUSE 0x24. (4) REQ_ARMED, free, in HOLD with another HOLD cause: HOLD_REQUEST clears and the request is refused: MODE stays, REFUSED and LAST_REQ 5. (5) REQ_ARMED in HOLD while a restart or the way to QUARANTINE is in progress: likewise, HOLD_REQUEST clears and the request is refused. (6) REQ_ARMED in a mode that is neither INIT nor HOLD, or in INIT while a restart or the way to QUARANTINE is in progress: refused: MODE stays, REFUSED and LAST_REQ 5. (7) REQ_RUN, free, in ARMED: MODE stays, and the arm waits for the next frame, or for that of an earlier arm that waits. (8) REQ_RUN in another mode, or while a restart or the way to QUARANTINE is in progress: refused: MODE stays, REFUSED and LAST_REQ 6. (9) REQ_HOLD, free, in ARMED, RUN or RUN-SPARED: HOLD_REQUEST shows and HOLD with CAUSE 0x30; an arm that waits is given up, and the moment is kept. (10) REQ_HOLD in another mode, or while a restart or the way to QUARANTINE is in progress: refused: MODE stays, REFUSED and LAST_REQ 8. (11) REQ_RESTART, free, in INIT, ARMED, HOLD or SERVICE while no lane sends: RESET at once with CAUSE 0x03; memories, wheel time, the supply and the queue stay, engines and sessions are gone. (12) REQ_RESTART, free, in one of those modes while a lane sends: MODE stays and the SAFE burst to RESET begins: it ends at the start of the 17th frame from now; an arm that waits is given up. (13) REQ_RESTART in another mode, or while a restart or the way to QUARANTINE is in progress: refused: MODE stays, REFUSED and LAST_REQ 15. (14) A REGISTER_WRITE of SYS.MODE_CTL with REQ other than 5, 6, 8 and 15, or with REQ 15 and KEY other than 0xA5: PARAM, and no mode and no request changes. (15) ARM_TAKE_EFFECT for frame f in ARMED, free, with an arm that waits for f or an earlier frame: RUN, or RUN-SPARED with a redundancy engaged, with CAUSE 0x21; the arm is done, and wheel time has come to the start of f. (16) ARM_TAKE_EFFECT for f with no arm, with an arm for a later frame, in another mode, or while a restart or the way to QUARANTINE is in progress: nothing changes. Readings and choices of the model that it rests on: log entries 5, 31, 143, 144. -/
def Obligations.ModeRequests : Prop :=
  (∀ (ini : Initiator) (s : State),
      s.sends ini true R.SYS_MODE_CTL = true →
      s.leaving = false →
      s.mode = M.init →
      (∀ i : Nat, i < 7 → s.bitAt R.SYS_HOLD_CAUSES i = false) →
      ∃ t, exec (.reqArmed ini) s = .next t
        ∧ t.respCode ini = 0
        ∧ t.mode = M.armed
        ∧ t.get F.SYS_MODE_PREV = M.init
        ∧ t.get F.SYS_MODE_CAUSE = 0x20
        ∧ t.isPending 824 = true
        ∧ t = { s with regs := t.regs, irq := t.irq, sessions := t.sessions, spine := t.spine, sec := t.sec, doms := t.doms, free := t.free }
        ∧ (∀ adr, adr ∉ (modeRegs : List Nat) → t.rd adr = s.rd adr)
        ∧ (∀ num dr, num ∉ ([824] : List Nat) → t.slot num dr = s.slot num dr)) ∧
  (∀ (i : Nat) (ini : Initiator) (s : State),
      s.sends ini true R.SYS_MODE_CTL = true →
      s.leaving = false →
      s.mode = M.init →
      i < 7 →
      s.bitAt R.SYS_HOLD_CAUSES i = true →
      (∀ j < i, s.bitAt R.SYS_HOLD_CAUSES j = false) →
      ∃ t, exec (.reqArmed ini) s = .next t
        ∧ t.respCode ini = 0
        ∧ t.mode = M.hold
        ∧ t.get F.SYS_MODE_PREV = M.armed
        ∧ t.get F.SYS_MODE_CAUSE = 0x30 + i
        ∧ t.isPending 824 = true
        ∧ t = { s with regs := t.regs, irq := t.irq, sessions := t.sessions, spine := t.spine, sec := t.sec, modeCtl := t.modeCtl, doms := t.doms, free := t.free }
        ∧ (∀ adr, adr ∉ (modeRegs : List Nat) → t.rd adr = s.rd adr)
        ∧ (∀ num dr, num ∉ ([824] : List Nat) → t.slot num dr = s.slot num dr)) ∧
  (∀ (ini : Initiator) (s : State),
      s.sends ini true R.SYS_MODE_CTL = true →
      s.leaving = false →
      s.mode = M.hold →
      s.rdN R.SYS_HOLD_CAUSES / 2 = 0 →
      ∃ t, exec (.reqArmed ini) s = .next t
        ∧ t.respCode ini = 0
        ∧ t.mode = M.armed
        ∧ t.get F.SYS_MODE_PREV = M.hold
        ∧ t.get F.SYS_MODE_CAUSE = 0x24
        ∧ t.rd R.SYS_HOLD_CAUSES = 0
        ∧ t.isPending 824 = true
        ∧ t = { s with regs := t.regs, irq := t.irq, sessions := t.sessions, spine := t.spine, sec := t.sec }
        ∧ (∀ adr, adr ∉ (R.SYS_HOLD_CAUSES :: modeRegs : List Nat) → t.rd adr = s.rd adr)
        ∧ (∀ num dr, num ∉ ([824] : List Nat) → t.slot num dr = s.slot num dr)) ∧
  (∀ (ini : Initiator) (s : State),
      s.sends ini true R.SYS_MODE_CTL = true →
      s.leaving = false →
      s.mode = M.hold →
      s.rdN R.SYS_HOLD_CAUSES / 2 ≠ 0 →
      ∃ t, exec (.reqArmed ini) s = .next t
        ∧ t.respCode ini = 0
        ∧ t.mode = M.hold
        ∧ t.bit F.SYS_MODE_STAT_REFUSED = true
        ∧ t.get F.SYS_MODE_STAT_LAST_REQ = 5
        ∧ t.rdN R.SYS_HOLD_CAUSES = s.rdN R.SYS_HOLD_CAUSES / 2 * 2
        ∧ t = { s with regs := t.regs, spine := t.spine, sec := t.sec }
        ∧ (∀ adr, adr ∉ ([R.SYS_HOLD_CAUSES, R.SYS_MODE_STAT] : List Nat) → t.rd adr = s.rd adr)) ∧
  (∀ (ini : Initiator) (s : State),
      s.sends ini true R.SYS_MODE_CTL = true →
      s.leaving = true →
      s.mode = M.hold →
      ∃ t, exec (.reqArmed ini) s = .next t
        ∧ t.respCode ini = 0
        ∧ t.mode = M.hold
        ∧ t.bit F.SYS_MODE_STAT_REFUSED = true
        ∧ t.get F.SYS_MODE_STAT_LAST_REQ = 5
        ∧ t.rdN R.SYS_HOLD_CAUSES = s.rdN R.SYS_HOLD_CAUSES / 2 * 2
        ∧ t = { s with regs := t.regs, spine := t.spine, sec := t.sec }
        ∧ (∀ adr, adr ∉ ([R.SYS_HOLD_CAUSES, R.SYS_MODE_STAT] : List Nat) → t.rd adr = s.rd adr)) ∧
  (∀ (ini : Initiator) (s : State),
      s.sends ini true R.SYS_MODE_CTL = true →
      s.mode ≠ M.hold →
      (s.leaving = true ∨ s.mode ≠ M.init) →
      ∃ t, exec (.reqArmed ini) s = .next t
        ∧ t.respCode ini = 0
        ∧ t.mode = s.mode
        ∧ t.bit F.SYS_MODE_STAT_REFUSED = true
        ∧ t.get F.SYS_MODE_STAT_LAST_REQ = 5
        ∧ t = { s with regs := t.regs, spine := t.spine, sec := t.sec }
        ∧ (∀ adr, adr ∉ ([R.SYS_MODE_STAT] : List Nat) → t.rd adr = s.rd adr)) ∧
  (∀ (ini : Initiator) (s : State),
      s.sends ini true R.SYS_MODE_CTL = true →
      s.leaving = false →
      s.mode = M.armed →
      ∃ t, exec (.reqRun ini) s = .next t
        ∧ t.respCode ini = 0
        ∧ t.mode = M.armed
        ∧ t.modeCtl = { s.modeCtl with arm := some (s.modeCtl.arm.getD (currentFrame s.now + 1)) }
        ∧ t = { s with modeCtl := t.modeCtl, spine := t.spine, sec := t.sec }) ∧
  (∀ (ini : Initiator) (s : State),
      s.sends ini true R.SYS_MODE_CTL = true →
      (s.leaving = true ∨ s.mode ≠ M.armed) →
      ∃ t, exec (.reqRun ini) s = .next t
        ∧ t.respCode ini = 0
        ∧ t.mode = s.mode
        ∧ t.bit F.SYS_MODE_STAT_REFUSED = true
        ∧ t.get F.SYS_MODE_STAT_LAST_REQ = 6
        ∧ t = { s with regs := t.regs, spine := t.spine, sec := t.sec }
        ∧ (∀ adr, adr ∉ ([R.SYS_MODE_STAT] : List Nat) → t.rd adr = s.rd adr)) ∧
  (∀ (ini : Initiator) (s : State),
      s.sends ini true R.SYS_MODE_CTL = true →
      s.leaving = false →
      (s.mode = M.armed ∨ s.mode = M.run ∨ s.mode = M.runSpared) →
      ∃ t, exec (.reqHold ini) s = .next t
        ∧ t.respCode ini = 0
        ∧ t.mode = M.hold
        ∧ t.get F.SYS_MODE_PREV = s.mode
        ∧ t.get F.SYS_MODE_CAUSE = 0x30
        ∧ t.bitAt R.SYS_HOLD_CAUSES 0 = true
        ∧ t.isPending 824 = true
        ∧ t.modeCtl = { s.modeCtl with arm := if s.mode = M.armed then none else s.modeCtl.arm, heldAt := some s.now }
        ∧ t = { s with regs := t.regs, irq := t.irq, sessions := t.sessions, spine := t.spine, sec := t.sec, modeCtl := t.modeCtl }
        ∧ (∀ adr, adr ∉ (R.SYS_HOLD_CAUSES :: modeRegs : List Nat) → t.rd adr = s.rd adr)
        ∧ (∀ num dr, num ∉ ([824] : List Nat) → t.slot num dr = s.slot num dr)) ∧
  (∀ (ini : Initiator) (s : State),
      s.sends ini true R.SYS_MODE_CTL = true →
      (s.leaving = true ∨ (s.mode ≠ M.armed ∧ s.mode ≠ M.run ∧ s.mode ≠ M.runSpared)) →
      ∃ t, exec (.reqHold ini) s = .next t
        ∧ t.respCode ini = 0
        ∧ t.mode = s.mode
        ∧ t.bit F.SYS_MODE_STAT_REFUSED = true
        ∧ t.get F.SYS_MODE_STAT_LAST_REQ = 8
        ∧ t = { s with regs := t.regs, spine := t.spine, sec := t.sec }
        ∧ (∀ adr, adr ∉ ([R.SYS_MODE_STAT] : List Nat) → t.rd adr = s.rd adr)) ∧
  (∀ (ini : Initiator) (s : State),
      s.sends ini true R.SYS_MODE_CTL = true →
      s.leaving = false →
      (s.mode = M.init ∨ s.mode = M.armed ∨ s.mode = M.hold ∨ s.mode = M.service) →
      s.sendingLanes = [] →
      ∃ t, exec (.reqRestart ini) s = .next t
        ∧ t.respCode ini = 0
        ∧ t.mode = M.reset
        ∧ t.get F.SYS_MODE_PREV = s.mode
        ∧ t.get F.SYS_MODE_CAUSE = 3
        ∧ t.mem = s.mem
        ∧ t.now = s.now
        ∧ t.supply = s.supply
        ∧ t.pending = s.pending
        ∧ t.engines = []
        ∧ t.sessions = []) ∧
  (∀ (ini : Initiator) (s : State),
      s.sends ini true R.SYS_MODE_CTL = true →
      s.leaving = false →
      (s.mode = M.init ∨ s.mode = M.armed ∨ s.mode = M.hold ∨ s.mode = M.service) →
      s.sendingLanes ≠ [] →
      ∃ t, exec (.reqRestart ini) s = .next t
        ∧ t.respCode ini = 0
        ∧ t.mode = s.mode
        ∧ t.modeCtl = { s.modeCtl with arm := none, restart := true, restartAt := s.now, cause := 3, burst := some (currentFrame s.now + 17) }
        ∧ t = { s with regs := t.regs, spine := t.spine, sec := t.sec, modeCtl := t.modeCtl }
        ∧ (∀ adr, adr ∉ ([R.SYS_MODE_STAT] : List Nat) → t.rd adr = s.rd adr)) ∧
  (∀ (ini : Initiator) (s : State),
      s.sends ini true R.SYS_MODE_CTL = true →
      (s.leaving = true ∨ (s.mode ≠ M.init ∧ s.mode ≠ M.armed ∧ s.mode ≠ M.hold ∧ s.mode ≠ M.service)) →
      ∃ t, exec (.reqRestart ini) s = .next t
        ∧ t.respCode ini = 0
        ∧ t.mode = s.mode
        ∧ t.bit F.SYS_MODE_STAT_REFUSED = true
        ∧ t.get F.SYS_MODE_STAT_LAST_REQ = 15
        ∧ t = { s with regs := t.regs, spine := t.spine, sec := t.sec }
        ∧ (∀ adr, adr ∉ ([R.SYS_MODE_STAT] : List Nat) → t.rd adr = s.rd adr)) ∧
  (∀ (ini : Initiator) (v : BitVec 64) (s : State),
      s.sends ini true R.SYS_MODE_CTL = true →
      v.toNat % 16 ∉ [5, 6, 8] →
      (v.toNat % 16 = 15 → v.toNat / 256 % 256 ≠ 0xA5) →
      ∃ t, exec (.registerWrite ini R.SYS_MODE_CTL 4 v) s = .next t
        ∧ t.respCode ini = 2
        ∧ t = { s with regs := t.regs, spine := t.spine, berrAt := t.berrAt, sec := t.sec, engines := t.engines }
        ∧ (∀ adr, adr ∉ (berrRegs : List Nat) → t.rd adr = s.rd adr)) ∧
  (∀ (f k : Nat) (s : State),
      s.modeCtl.arm = some k →
      k ≤ f →
      s.mode = M.armed →
      s.leaving = false →
      ∃ t, exec (.armTakeEffect f) s = .next t
        ∧ (t.mode = if s.rd R.SYS_SPARED = 0 then M.run else M.runSpared)
        ∧ t.get F.SYS_MODE_PREV = M.armed
        ∧ t.get F.SYS_MODE_CAUSE = 0x21
        ∧ t.isPending 824 = true
        ∧ t.modeCtl = { s.modeCtl with arm := none }
        ∧ t.now = max s.now (startOf f)
        ∧ t = { s with regs := t.regs, irq := t.irq, sessions := t.sessions, modeCtl := t.modeCtl, now := t.now }
        ∧ (∀ adr, adr ∉ (modeRegs : List Nat) → t.rd adr = s.rd adr)
        ∧ (∀ num dr, num ∉ ([824] : List Nat) → t.slot num dr = s.slot num dr)) ∧
  (∀ (f : Nat) (s : State),
      (s.modeCtl.arm.all (fun k => decide (f < k)) = true ∨ s.mode ≠ M.armed ∨ s.leaving = true) →
      ∃ t, exec (.armTakeEffect f) s = .next t
        ∧ t = s)

/-- The SAFE burst ends, RESET is entered by the pin and left (parts of R6, R16, R21, R23, R29, R41, R247, R502, R557, R558). (1) SAFE_BURST_END of a burst that goes to QUARANTINE: MODE is QUARANTINE with PREV the mode left and CAUSE the cause kept for it, 824 is pending, no transmitter is on, no session is open, and no engine and no self-test slice is left; the burst, a restart and an arm are done with; memories and the queue stay. (2) Of one that goes to RESET: MODE is RESET with CAUSE the cause kept for it and PREV the mode left; every unit starts afresh, no transmitter is on, no engine and no session is left; registers read their reset values but for those of the mode, the last supply fault, the lost phases and the band table; memories, the supply, the non-volatile stores and the queue stay. (3) With no burst in progress: nothing changes. (4) RESET_PIN low for 1 µs or more, in every mode: RESET with CAUSE 0x01 and PREV the mode left, as above; memories, wheel time, the supply and the queue stay, no engine runs, no session is open and every power domain is ON. (5) Low for less than 100 ns: nothing changes. (6) Between the two the spec leaves open whether the low is taken: either nothing changes but the counter of free values, or RESET is entered as above. (7) RESET_EXIT in RESET with the rails good, where each PLL is locked or finds a band with the reference in use: VERIFY at wheel time 0 with PREV RESET and CAUSE that of the entry, 824 pending; the straps and the levels of the first eight banks are latched; memories and the queue stay. (8) Where a PLL is not locked and finds no band: the device stays in RESET. (9) In another mode, or with the rails not good: nothing changes. Readings and choices of the model that it rests on: log entries 8, 27, 28, 29, 30, 32. -/
def Obligations.ResetEntryAndExit : Prop :=
  (∀ (s : State),
      s.modeCtl.burst.isSome = true →
      s.modeCtl.toQuarantine = true →
      ∃ t, exec (.safeBurstEnd) s = .next t
        ∧ t.mode = M.quarantine
        ∧ t.get F.SYS_MODE_PREV = s.mode
        ∧ t.get F.SYS_MODE_CAUSE = s.modeCtl.cause % 256
        ∧ t.isPending 824 = true
        ∧ t.sendingLanes = []
        ∧ ((List.range 256).all (fun x => !t.bit (F.IVW_S_STATE_OPEN x)) = true)
        ∧ t.engines = []
        ∧ t.bist.slice = none
        ∧ t.modeCtl = { s.modeCtl with toQuarantine := false, restart := false, burst := none, arm := none }
        ∧ t.mem = s.mem
        ∧ t.pending = s.pending) ∧
  (∀ (s : State),
      s.modeCtl.burst.isSome = true →
      s.modeCtl.toQuarantine = false →
      ∃ t, exec (.safeBurstEnd) s = .next t
        ∧ t.mode = M.reset
        ∧ t.get F.SYS_MODE_CAUSE = s.modeCtl.cause % 256
        ∧ (t.get F.SYS_MODE_PREV = if s.mode = M.reset then s.get F.SYS_MODE_PREV else s.mode)
        ∧ t.sendingLanes = []
        ∧ t.mem = s.mem
        ∧ t.supply = s.supply
        ∧ t.pending = s.pending
        ∧ t.engines = []
        ∧ t.sessions = []
        ∧ (s.at_ (startOf (s.modeCtl.burst.getD 0))).wentToReset t s.modeCtl.cause false = true
        ∧ t.rd R.PWR_RAIL_FAULT = s.rd R.PWR_RAIL_FAULT
        ∧ (∀ adr, adr ∉ (R.SYS_MODE :: R.PWR_RAIL_FAULT :: R.PWR_PHASE_STAT :: R.SYS_SPARED :: R.SYS_HOLD_CAUSES :: R.CLK_STAT :: (List.range 16).map R.CLK_BAND : List Nat) → t.rd adr = regReset adr)) ∧
  (∀ (s : State),
      s.modeCtl.burst = none →
      ∃ t, exec (.safeBurstEnd) s = .next t
        ∧ t = s) ∧
  (∀ (ns : Nat) (s : State),
      1000 ≤ ns →
      ∃ t, exec (.resetPin ns) s = .next t
        ∧ t.mode = M.reset
        ∧ t.get F.SYS_MODE_CAUSE = 1
        ∧ (t.get F.SYS_MODE_PREV = if s.mode = M.reset then s.get F.SYS_MODE_PREV else s.mode)
        ∧ t.mem = s.mem
        ∧ t.now = s.now
        ∧ t.supply = s.supply
        ∧ t.pending = s.pending
        ∧ t.engines = []
        ∧ ((List.range 256).all (fun x => !t.bit (F.IVW_S_STATE_OPEN x)) = true)
        ∧ (List.range 23).all t.domOn = true
        ∧ s.wentToReset t 1 false = true
        ∧ t.rd R.PWR_RAIL_FAULT = s.rd R.PWR_RAIL_FAULT
        ∧ (∀ adr, adr ∉ (R.SYS_MODE :: R.PWR_RAIL_FAULT :: R.PWR_PHASE_STAT :: R.SYS_SPARED :: R.SYS_HOLD_CAUSES :: R.CLK_STAT :: (List.range 16).map R.CLK_BAND : List Nat) → t.rd adr = regReset adr)) ∧
  (∀ (ns : Nat) (s : State),
      ns < 100 →
      ∃ t, exec (.resetPin ns) s = .next t
        ∧ t = s) ∧
  (∀ (ns : Nat) (s : State),
      100 ≤ ns →
      ns < 1000 →
      ∃ t, exec (.resetPin ns) s = .next t
        ∧ (t = { s with free := s.free + 1 } ∨ (s.wentToReset t 1 false = true ∧ t.supply = s.supply))
        ∧ t.pending = s.pending) ∧
  (∀ (chainUp : Bool) (pullUp : Bool) (banks : List (Fin 3)) (unc : List (Fin 2048)) (s : State),
      s.mode = M.reset →
      s.supply.rails = true →
      ((s.startRef.startLock 0).startLock 1).locked 0 = true →
      ((s.startRef.startLock 0).startLock 1).locked 1 = true →
      ∃ t, exec (.resetExit chainUp pullUp banks unc) s = .next t
        ∧ t.mode = M.verify
        ∧ t.get F.SYS_MODE_PREV = M.reset
        ∧ t.get F.SYS_MODE_CAUSE = s.modeCtl.aonCause % 256
        ∧ t.now = 0
        ∧ t.bit F.GPIO_STRAPS_CHAIN_SRC = chainUp
        ∧ t.bit F.GPIO_STRAPS_PULLSEL = pullUp
        ∧ t.rdN R.GPIO_BANK_STAT = (banks.take 8).foldr (fun b a => a * 4 + b.val) 0
        ∧ t.isPending 824 = true
        ∧ t.mem = s.mem
        ∧ t.supply.rails = true
        ∧ t.pending = s.pending) ∧
  (∀ (chainUp : Bool) (pullUp : Bool) (banks : List (Fin 3)) (unc : List (Fin 2048)) (s : State),
      s.mode = M.reset →
      s.supply.rails = true →
      (((s.startRef.startLock 0).startLock 1).locked 0 = false ∨ ((s.startRef.startLock 0).startLock 1).locked 1 = false) →
      ∃ t, exec (.resetExit chainUp pullUp banks unc) s = .next t
        ∧ t.mode = M.reset
        ∧ t.mem = s.mem
        ∧ t.supply = s.supply
        ∧ t.pending = s.pending) ∧
  (∀ (chainUp : Bool) (pullUp : Bool) (banks : List (Fin 3)) (unc : List (Fin 2048)) (s : State),
      (s.mode ≠ M.reset ∨ s.supply.rails = false) →
      ∃ t, exec (.resetExit chainUp pullUp banks unc) s = .next t
        ∧ t = s)

/-- A step runs the command at the front of the queue (95_what_each_step_holds.md). For every command c, every rest r of the queue and every state s, a step of s with c in front of r runs exec of c on s with r as its queue. -/
def Obligations.StepTakesTheFrontCommand : Prop :=
  ∀ (c : Instr) (r : List Instr) (s : State), step (s.withPending (c :: r)) = exec c (s.withPending r)

/-- A step with no command waiting is one ENG cycle (part of R41). (1) With an empty queue, no chanter that runs the standard program ready for a pass and no queued Ivwyn buffer that can be sent, a step answers the same state one ENG cycle later. (2) With an empty queue a step always answers a next state: one ENG cycle later, after a pass of the chanters that run the standard program, and with the Ivwyn buffer queued first sent. That an empty queue is a tick, and what happens at a tick, is the model's choice (log entries 2, 156, 163). -/
def Obligations.StepWithoutACommand : Prop :=
  (∀ s : State, s.pending = [] → (s.get F.CHT_INFO_PROGRAM ≠ 1 ∨ (List.range 132).all (fun n => !s.tickOne.stdReady n) = true) →
    (s.ivw.txq = [] ∨ s.domOn 18 = false) → step s = .next { s with now := s.now + 1 }) ∧
  (∀ s : State, s.pending = [] → step s = .next s.tickOne.programs.ivwTxNext)

/-- A register write by the access codes of its fields, and the writes that are refused (parts of R4, R5, R7, R8, R11, R12, R169, R331, R447, R480). The row of a register is that of its block's register list; "sends" means that the initiator makes a 32-bit access that no rule stops before the spine. (1) REGISTER_WRITE of 32 bits, by an initiator that sends, of a register in a domain that is ON and whose row has no act of its own: every field takes what its access code gives (RW a legal value, W1C and W1S clear and set where a 1 is written, RO, RC and WO nothing), reserved bits stay, the answer is PARAM when an RW field meets a reserved encoding and else no error, and no other register changes but the error log. (2) Of any register in a domain that is ON, whatever its row does: the write is answered, with no error or with PARAM. (3) By the TAP or a session, of a register in a domain that is ON, with a width other than 32 bits or at an address that is no multiple of 4: PARAM, logged likewise (as in the next clause), and nothing else changes. (4) By the TAP or a session, of an address that no range and no register list defines: DECODE; the error log counts it and, unless an initiator with a lower code met an error in the same SPINE cycle, has its address, initiator and code; nothing else changes. (5) By any initiator that sends, of such an address: likewise, and a drone's engine keeps the code and the address. (6) By an initiator that sends, of a domain that is not ON and has no wake on access: DOMAIN_OFF with data 0, logged, and 905 is raised. (7) With wake on access: the domain gets a wake event, and the access waits, unanswered. (8) By a drone that does not run: nothing. (9) By a drone that runs, where the rules of its accesses raise exception x: that exception, and nothing reaches the spine. (10) By the fabric, of an address that its port does not reach: PARAM in its answer, and nothing else. Readings and choices of the model that it rests on: log entries 136, 137, 138. -/
def Obligations.RegisterWrites : Prop :=
  (∀ (d : RegDesc) (i j : Nat) (ini : Initiator) (a : Nat) (v : BitVec 64) (s : State),
      s.sends ini true a = true →
      regRow? a = some (d, i, j) →
      a % 4 = 0 →
      s.domOn ((addrDomain a).getD 0) = true →
      rowActs ((a - 0x10000000) / 0x10000) d.off = false →
      ∃ t, exec (.registerWrite ini a 4 v) s = .next t
        ∧ t.respCode ini = (if d.takes (v.truncate 32) then 0 else 2)
        ∧ (∀ f ∈ d.fields, bitsOf (t.rd a) f.hi f.lo = fieldWritten (s.rd a) (v.truncate 32) f)
        ∧ (∀ k ∈ List.range 32, d.reserves k = true → (t.rd a).getLsbD k = (s.rd a).getLsbD k)
        ∧ (d.takes (v.truncate 32) = true → t.engines = s.engines)
        ∧ t = { s with regs := t.regs, spine := t.spine, berrAt := t.berrAt, engines := t.engines, sec := { s.sec with tapOut := t.sec.tapOut } }
        ∧ (∀ adr, adr ∉ (a :: if d.takes (v.truncate 32) then [] else berrRegs : List Nat) → t.rd adr = s.rd adr)) ∧
  (∀ (d : RegDesc) (i j : Nat) (ini : Initiator) (a : Nat) (v : BitVec 64) (s : State),
      s.sends ini true a = true →
      regRow? a = some (d, i, j) →
      a % 4 = 0 →
      s.domOn ((addrDomain a).getD 0) = true →
      ∃ t, exec (.registerWrite ini a 4 v) s = .next t
        ∧ (t.respCode ini = 0 ∨ t.respCode ini = 2)) ∧
  (∀ (ini : Initiator) (a : Nat) (w : Nat) (v : BitVec 64) (s : State),
      (ini = .tap ∨ ini = .ivwyn) →
      spineDecodes a = true →
      spineKind a = 0 →
      s.domOn ((addrDomain a).getD 0) = true →
      (w ≠ 4 ∨ a % 4 ≠ 0) →
      ∃ t, exec (.registerWrite ini a w v) s = .next t
        ∧ t.respCode ini = 2
        ∧ (s.logTakes ini = true → t.rdN R.IRQ_BERR_ADDR = a % 2 ^ 32)
        ∧ (s.logTakes ini = true → t.get F.IRQ_BERR_INFO_INITIATOR = iniCode ini)
        ∧ (s.logTakes ini = true → t.get F.IRQ_BERR_INFO_CODE = 2)
        ∧ t.rdN R.IRQ_BERR_COUNT = min 0xFFFFFFFF (s.rdN R.IRQ_BERR_COUNT + 1)
        ∧ t = { s with regs := t.regs, spine := t.spine, berrAt := t.berrAt, sec := { s.sec with tapOut := t.sec.tapOut } }
        ∧ (∀ adr, adr ∉ (berrRegs : List Nat) → t.rd adr = s.rd adr)) ∧
  (∀ (ini : Initiator) (a : Nat) (w : Nat) (v : BitVec 64) (s : State),
      (ini = .tap ∨ ini = .ivwyn) →
      spineDecodes a = false →
      ∃ t, exec (.registerWrite ini a w v) s = .next t
        ∧ t.respCode ini = 1
        ∧ (s.logTakes ini = true → t.rdN R.IRQ_BERR_ADDR = a % 2 ^ 32)
        ∧ (s.logTakes ini = true → t.get F.IRQ_BERR_INFO_INITIATOR = iniCode ini)
        ∧ (s.logTakes ini = true → t.get F.IRQ_BERR_INFO_CODE = 1)
        ∧ t.rdN R.IRQ_BERR_COUNT = min 0xFFFFFFFF (s.rdN R.IRQ_BERR_COUNT + 1)
        ∧ t = { s with regs := t.regs, spine := t.spine, berrAt := t.berrAt, sec := { s.sec with tapOut := t.sec.tapOut } }
        ∧ (∀ adr, adr ∉ (berrRegs : List Nat) → t.rd adr = s.rd adr)) ∧
  (∀ (ini : Initiator) (a : Nat) (v : BitVec 64) (s : State),
      s.sends ini true a = true →
      spineDecodes a = false →
      ∃ t, exec (.registerWrite ini a 4 v) s = .next t
        ∧ t.respCode ini = 1
        ∧ (s.logTakes ini = true → t.rdN R.IRQ_BERR_ADDR = a % 2 ^ 32)
        ∧ (s.logTakes ini = true → t.get F.IRQ_BERR_INFO_INITIATOR = iniCode ini)
        ∧ (s.logTakes ini = true → t.get F.IRQ_BERR_INFO_CODE = 1)
        ∧ t.rdN R.IRQ_BERR_COUNT = min 0xFFFFFFFF (s.rdN R.IRQ_BERR_COUNT + 1)
        ∧ ((iniEngines ini).all (fun e => (t.engine e).berr == 1 && (t.engine e).berrAddr == BitVec.ofNat 32 a && (t.engine e).st.getLsbD 13) = true)
        ∧ t = { s with regs := t.regs, spine := t.spine, berrAt := t.berrAt, sec := { s.sec with tapOut := t.sec.tapOut }, engines := t.engines }
        ∧ (∀ adr, adr ∉ (berrRegs : List Nat) → t.rd adr = s.rd adr)
        ∧ (∀ key, key ∉ (iniEngines ini : List Nat) → t.engine key = s.engine key)) ∧
  (∀ (ini : Initiator) (a : Nat) (v : BitVec 64) (s : State),
      s.sends ini true a = true →
      spineDecodes a = true →
      s.domOn ((addrDomain a).getD 0) = false →
      s.bit (F.PWR_D_CTL_WOA ((addrDomain a).getD 0)) = false →
      ∃ t, exec (.registerWrite ini a 4 v) s = .next t
        ∧ t.respCode ini = 4
        ∧ t.respData ini = 0
        ∧ (s.logTakes ini = true → t.get F.IRQ_BERR_INFO_CODE = 4)
        ∧ t.isPending 905 = true
        ∧ t = { s with regs := t.regs, irq := t.irq, spine := t.spine, berrAt := t.berrAt, sec := { s.sec with tapOut := t.sec.tapOut }, engines := t.engines }
        ∧ (∀ adr, adr ∉ (berrRegs : List Nat) → t.rd adr = s.rd adr)
        ∧ (∀ num dr, num ∉ ([905] : List Nat) → t.slot num dr = s.slot num dr)
        ∧ (∀ key, key ∉ (iniEngines ini : List Nat) → t.engine key = s.engine key)) ∧
  (∀ (ini : Initiator) (a : Nat) (v : BitVec 64) (s : State),
      s.sends ini true a = true →
      spineDecodes a = true →
      s.domOn ((addrDomain a).getD 0) = false →
      s.bit (F.PWR_D_CTL_WOA ((addrDomain a).getD 0)) = true →
      (s.stalls.any (fun e => e.by_ == .access ini true a 4 v 0) = false) →
      ∃ t, exec (.registerWrite ini a 4 v) s = .next t
        ∧ t = { s.wakeDomain ((addrDomain a).getD 0) with stalls := s.stalls ++ [{ dom := (addrDomain a).getD 0, by_ := .access ini true a 4 v 0 }] }) ∧
  (∀ (k : Fin 4) (a w : Nat) (v : BitVec 64) (s : State),
      s.droneRuns k.val = false →
      ∃ t, exec (.registerWrite (.drone k) a w v) s = .next t
        ∧ t = s) ∧
  (∀ (k : Fin 4) (x a w : Nat) (v : BitVec 64) (s : State),
      s.droneRuns k.val = true →
      accessOf (132 + k.val) a w true = .raise_ x →
      ∃ t, exec (.registerWrite (.drone k) a w v) s = .next t
        ∧ t = s.exception (132 + k.val) x) ∧
  (∀ (a w : Nat) (v : BitVec 64) (s : State),
      fabricReach true a = false →
      ∃ t, exec (.registerWrite .fabric a w v) s = .next t
        ∧ t.respCode .fabric = 2
        ∧ t = { s with spine := t.spine })

/-- A register read shows the register's fields, clears those of code RC and shows those of code WO as 0 (parts of R4, R5, R7, R12, R13, R41, R169, R331, R338, R447, R480). The row of a register is that of its block's register list; "sends" means that the initiator makes a 32-bit access that no rule stops before the spine. (1) RC_READ of 32 bits, by an initiator that sends, of a register in a domain that is ON whose row shows the word it holds: no error; every field of the data is the register's, 0 where it is WO; fields of code RC are 0 after it and all other bits stay, as does every other register. (2) Of any register in a domain that is ON, whatever its row shows: the read is answered, with no error, or for FAB.CAP_DATA where R338 refuses it with PARAM. (3) By the TAP or a session, of a register in a domain that is ON, with a width other than 32 bits or at an address that is no multiple of 4: PARAM, logged, and no register is read. (4) By an initiator that sends, of an address that no range and no register list defines: DECODE with data 0, logged; a drone's engine keeps code and address. (5) Of a domain that is not ON and has no wake on access: 0xDEAD_0FF0 with DOMAIN_OFF, logged, and 905 is raised. (6) With wake on access: the domain gets a wake event, and the access waits, unanswered. (7) Of NET or SEC that is OFF with no retry under way, that event starts the wake: the domain is WAKING. (8) By a drone that does not run: nothing. (9) By a drone that runs, where the rules of its accesses raise exception x: that exception, and nothing reaches the spine. (10) By the fabric, of an address that its port does not reach: PARAM in its answer, and nothing else. (11) TIME_LO_READ by an initiator that sends: the low word of wheel time, and the high word is latched for TIME_HI. Readings and choices of the model that it rests on: log entries 136, 137, 138. -/
def Obligations.RegisterReads : Prop :=
  (∀ (d : RegDesc) (i j : Nat) (ini : Initiator) (a : Nat) (s : State),
      s.sends ini false a = true →
      regRow? a = some (d, i, j) →
      a % 4 = 0 →
      s.domOn ((addrDomain a).getD 0) = true →
      rowShows ((a - 0x10000000) / 0x10000) d.off = false →
      ∃ t, exec (.rcRead ini a 4) s = .next t
        ∧ t.respCode ini = 0
        ∧ (t.respData ini).toNat < 2 ^ 32
        ∧ (∀ f ∈ d.fields, bitsOf ((t.respData ini).truncate 32) f.hi f.lo = if f.acc = .wo then 0 else bitsOf (s.rd a) f.hi f.lo)
        ∧ (∀ f ∈ d.fields, bitsOf (t.rd a) f.hi f.lo = if f.acc = .rc then 0 else bitsOf (s.rd a) f.hi f.lo)
        ∧ (∀ k ∈ List.range 32, d.reserves k = true → (t.rd a).getLsbD k = (s.rd a).getLsbD k ∧ (t.respData ini).getLsbD k = (s.rd a).getLsbD k)
        ∧ t = { s with regs := t.regs, spine := t.spine, sec := { s.sec with tapOut := t.sec.tapOut } }
        ∧ (∀ adr, adr ∉ ([a] : List Nat) → t.rd adr = s.rd adr)) ∧
  (∀ (d : RegDesc) (i j : Nat) (ini : Initiator) (a : Nat) (s : State),
      s.sends ini false a = true →
      regRow? a = some (d, i, j) →
      a % 4 = 0 →
      s.domOn ((addrDomain a).getD 0) = true →
      ∃ t, exec (.rcRead ini a 4) s = .next t
        ∧ t.respCode ini = (if a = R.FAB_CAP_DATA ∧ s.capReadable = false then 2 else 0)) ∧
  (∀ (ini : Initiator) (a : Nat) (w : Nat) (s : State),
      (ini = .tap ∨ ini = .ivwyn) →
      spineDecodes a = true →
      spineKind a = 0 →
      s.domOn ((addrDomain a).getD 0) = true →
      (w ≠ 4 ∨ a % 4 ≠ 0) →
      ∃ t, exec (.rcRead ini a w) s = .next t
        ∧ t.respCode ini = 2
        ∧ t.respData ini = 0
        ∧ (s.logTakes ini = true → t.get F.IRQ_BERR_INFO_CODE = 2)
        ∧ t = { s with regs := t.regs, spine := t.spine, berrAt := t.berrAt, sec := { s.sec with tapOut := t.sec.tapOut } }
        ∧ (∀ adr, adr ∉ (berrRegs : List Nat) → t.rd adr = s.rd adr)) ∧
  (∀ (ini : Initiator) (a : Nat) (s : State),
      s.sends ini false a = true →
      spineDecodes a = false →
      ∃ t, exec (.rcRead ini a 4) s = .next t
        ∧ t.respCode ini = 1
        ∧ t.respData ini = 0
        ∧ (s.logTakes ini = true → t.rdN R.IRQ_BERR_ADDR = a % 2 ^ 32)
        ∧ (s.logTakes ini = true → t.get F.IRQ_BERR_INFO_INITIATOR = iniCode ini)
        ∧ (s.logTakes ini = true → t.get F.IRQ_BERR_INFO_CODE = 1)
        ∧ ((iniEngines ini).all (fun e => (t.engine e).berr == 1 && (t.engine e).berrAddr == BitVec.ofNat 32 a && (t.engine e).st.getLsbD 13) = true)
        ∧ t = { s with regs := t.regs, spine := t.spine, berrAt := t.berrAt, sec := { s.sec with tapOut := t.sec.tapOut }, engines := t.engines }
        ∧ (∀ adr, adr ∉ (berrRegs : List Nat) → t.rd adr = s.rd adr)
        ∧ (∀ key, key ∉ (iniEngines ini : List Nat) → t.engine key = s.engine key)) ∧
  (∀ (ini : Initiator) (a : Nat) (s : State),
      s.sends ini false a = true →
      spineDecodes a = true →
      s.domOn ((addrDomain a).getD 0) = false →
      s.bit (F.PWR_D_CTL_WOA ((addrDomain a).getD 0)) = false →
      ∃ t, exec (.rcRead ini a 4) s = .next t
        ∧ t.respCode ini = 4
        ∧ t.respData ini = 0xDEAD0FF0
        ∧ (s.logTakes ini = true → t.get F.IRQ_BERR_INFO_CODE = 4)
        ∧ t.isPending 905 = true
        ∧ t = { s with regs := t.regs, irq := t.irq, spine := t.spine, berrAt := t.berrAt, sec := { s.sec with tapOut := t.sec.tapOut }, engines := t.engines }
        ∧ (∀ adr, adr ∉ (berrRegs : List Nat) → t.rd adr = s.rd adr)
        ∧ (∀ num dr, num ∉ ([905] : List Nat) → t.slot num dr = s.slot num dr)
        ∧ (∀ key, key ∉ (iniEngines ini : List Nat) → t.engine key = s.engine key)) ∧
  (∀ (ini : Initiator) (a : Nat) (s : State),
      s.sends ini false a = true →
      spineDecodes a = true →
      s.domOn ((addrDomain a).getD 0) = false →
      s.bit (F.PWR_D_CTL_WOA ((addrDomain a).getD 0)) = true →
      (s.stalls.any (fun e => e.by_ == .access ini false a 4 0 0) = false) →
      ∃ t, exec (.rcRead ini a 4) s = .next t
        ∧ t = { s.wakeDomain ((addrDomain a).getD 0) with stalls := s.stalls ++ [{ dom := (addrDomain a).getD 0, by_ := .access ini false a 4 0 0 }] }) ∧
  (∀ (ini : Initiator) (a : Nat) (s : State),
      s.sends ini false a = true →
      spineDecodes a = true →
      (addrDomain a = some 18 ∨ addrDomain a = some 19) →
      s.pwrState ((addrDomain a).getD 0) = P.off →
      (s.pwrDom ((addrDomain a).getD 0)).retry = false →
      s.bit (F.PWR_D_CTL_WOA ((addrDomain a).getD 0)) = true →
      (s.stalls.any (fun e => e.by_ == .access ini false a 4 0 0) = false) →
      ∃ t, exec (.rcRead ini a 4) s = .next t
        ∧ t.pwrState ((addrDomain a).getD 0) = P.waking
        ∧ t.stalls = s.stalls ++ [{ dom := (addrDomain a).getD 0, by_ := .access ini false a 4 0 0 }]
        ∧ t.spine = s.spine
        ∧ t = { s with regs := t.regs, pwr := t.pwr, stalls := t.stalls }
        ∧ (∀ adr, adr ∉ ([R.PWR_D_STAT ((addrDomain a).getD 0)] : List Nat) → t.rd adr = s.rd adr)
        ∧ (∀ key, key ∉ ([(addrDomain a).getD 0] : List Nat) → t.pwrDom key = s.pwrDom key)) ∧
  (∀ (k : Fin 4) (a w : Nat) (s : State),
      s.droneRuns k.val = false →
      ∃ t, exec (.rcRead (.drone k) a w) s = .next t
        ∧ t = s) ∧
  (∀ (k : Fin 4) (x a w : Nat) (s : State),
      s.droneRuns k.val = true →
      accessOf (132 + k.val) a w false = .raise_ x →
      ∃ t, exec (.rcRead (.drone k) a w) s = .next t
        ∧ t = s.exception (132 + k.val) x) ∧
  (∀ (a w : Nat) (s : State),
      fabricReach false a = false →
      ∃ t, exec (.rcRead .fabric a w) s = .next t
        ∧ t.respCode .fabric = 2
        ∧ t = { s with spine := t.spine }) ∧
  (∀ (ini : Initiator) (s : State),
      s.sends ini false R.WHEEL_TIME_LO = true →
      ∃ t, exec (.timeLoRead ini) s = .next t
        ∧ t.respCode ini = 0
        ∧ t.respData ini = BitVec.ofNat 64 (s.now % 2 ^ 32)
        ∧ t.wheel.timeHi = BitVec.ofNat 32 (s.now / 2 ^ 32)
        ∧ t.now = s.now
        ∧ t = { s with regs := t.regs, spine := t.spine, sec := { s.sec with tapOut := t.sec.tapOut }, wheel := t.wheel }
        ∧ (∀ adr, adr ∉ ([] : List Nat) → t.rd adr = s.rd adr))

/-- Spine writes and reads of memory and flash, and the spine timeout (parts of R3, R4, R11, R93, R127, R169, R170, R171, R172, R173, R269, R331, R339, R400, R401, R416, R417, R419, R425, R479, R480, R496, R497, R499, R500, R501, R510). The initiator sends the access: a drone that runs and whose access no rule stops, the fabric where its port reaches, the TAP and the Ivwyn engine always. The address is in a domain that is ON. What an answer with an error logs is said in O5. What a clause does not name stays. (1) A 64-bit aligned SPINE_MEMORY_WRITE of grid-coded memory: the grid code of its value is stored, and, while a claim waits, in the mirrored word as well. EVM has to have its drains off; a chanter's instruction memory takes it while the chanter is IDLE or RETIRED, a drone's while the drone is halted. (2) While claim x alone waits, the pair region of the chanter that gives its pair is mirrored into that of the chanter that takes it: chanter c into its group's spare 128 + c / 32 at a retirement or a loan, else the spare into c. (3) One of EVM while its drains are on or held is ignored without an error and sets EVM_WR_BLOCKED. (4) With another width, misaligned, or of an instruction memory that is closed: PARAM. (5) Of CFLASH, PFLASH or OTP: PARAM. (6) A SPINE_MEMORY_READ of 64 or 32 bits, aligned, of a clean word of grid-coded memory: its data, of 32 bits the half at the address. (7) Of a word with one bad bit, of the data (kind 0, row i, column j), of the row parity (1) or of the column parity (2): the corrected data; CORR_COUNT, LAST_CORR, LAST_INFO with initiator, class, kind and place, and STAT.CORR log it, source 858 where that was 0. The stored word stays. (8) Of an uncorrectable word: PARAM with 0x0BAD_0BAD in each half; UNCORR_COUNT, LAST_UNCORR, LAST_INFO (kind 3) and STAT.UNCORR log it, source 859. (9) A read with another width, or misaligned, of memory or flash: PARAM. (10) A drone's access of its local alias is its own memory: a 64-bit write of the data half stores its value. (11) A read of it, of 64 or 32 bits, gives the data, of a word with one bad bit corrected and logged. (12) Of an uncorrectable word of it: exception ECC, cause 5, of the drone, and the word is logged. (13) A read of CFLASH outside the journal, with no operation that runs, whose page is neither that of a suspended program nor in the sector of a suspended erase nor left by a program or erase that failed or was cut off: the bytes stored, least significant first; one or two bad bits of the code word are corrected and counted. (14) Of the journal: the bytes of the record at each location, ones where it is blank; where neither stands, open. (15) While an operation of CFLASH runs: the operation is suspended; PARAM with data 0. (16) Of a page or sector whose program or erase is suspended: PARAM with data 0. (17) With three bad bits, uncorrectable: PARAM with data 0; UNCORR_ADDR, STAT.UNCORR and source 844. (18) Of a page that a program or erase left unfinished: open whether it is uncorrectable, and what it reads if not. (19) A read of PFLASH with no command of it running, of a word that none left unfinished, one bad bit at most: the bytes stored, ones where it is erased; with fewer wait states than R419 asks for, 5 on the PLL clocks and 2 before, open. (20) While a command of PFLASH runs: PARAM with data 0. (21) Of a word of PFLASH with two bad bits, uncorrectable: as of CFLASH. (22) Of a word of PFLASH that a command left unfinished: open, as of CFLASH. (23) A read of OTP outside DEVICE_PRIV and FLEET_KEY, one bad bit at most, of a word whose program did not fail: the bytes of its words, least significant first, 0 where not programmed. (24) Of DEVICE_PRIV or FLEET_KEY, or with two bad bits: PARAM with data 0. (25) Of a word whose program failed: open. (26) SPINE_TIMEOUT of an access of the TAP, or of a drone by itself, which took effect or not, leaving state u: TIMEOUT with data 0, logged with its address and initiator, source 904; a drone sets ST.BE and GETS items 10 and 11. (27) Of the load that a drone waits for, with no store before it: the same, and rd, of an LDD rd + 1 too, gets 0 and the drone goes on. (28) Of the oldest posted store p of a drone: the same, and p leaves the list; a fifth store that waits is posted, and a FENCE goes on when p was the last. (29) Of the request of the fabric port that waits for its answer: the same to the port, which gets CODE 3 with RDATA 0, toggles ACK, counts in SPM_ERR and raises source 500. (30) Of the word that the REG or MEM request q of a session has next: BUS_ERROR with its index and code 3, logged likewise. (31) The request that waits at a word: the first session whose head request is one of these, in the direction of the access, and has that word or a later one that reaches the address left. (32) Where the fabric or a session has no such request, or a drone none and does not run: nothing. Readings and choices of the model that it rests on: log entries 3, 25, 81, 136, 140, 175. -/
def Obligations.GridMemoryAccess : Prop :=
  (∀ (ini : Initiator) (a : Nat) (v : BitVec 64) (m : List Nat) (s : State),
      ((match ini with | .drone d => s.droneRuns d.val && decide (accessOf (132 + d.val) a 8 true = .spine) | .fabric => fabricReach true a | _ => true) = true) →
      (spineKind a = 1 ∧ spineDecodes a = true ∧ s.domOn ((addrDomain a).getD 0) = true) →
      a % 8 = 0 →
      ¬ (a < 0x22000000 ∧ s.drainState ≠ 0) →
      (if a < 0x40000000 then True else if a < 0x41000000 then 0x4000 ≤ a % 0x8000 ∨ s.get (F.CHT_C_STAT_STATE ((a - 0x40000000) / 0x8000)) = 1 ∨ s.get (F.CHT_C_STAT_STATE ((a - 0x40000000) / 0x8000)) = 3 else 0x10000 ≤ a % 0x20000 ∨ (s.drone ((a - 0x41000000) / 0x20000)).halted = true) →
      m = (match s.mirrorOf a with | some b => [b] | none => []) →
      ∃ t, exec (.spineMemoryWrite ini a 8 v) s = .next t
        ∧ t.respCode ini = 0
        ∧ (∀ b ∈ a :: m, t.memWord b = gridEncode v)
        ∧ t = { s with mem := t.mem, spine := t.spine, sec := { s.sec with tapOut := t.sec.tapOut } }
        ∧ (∀ adr, adr / 8 ∉ ((a :: m).map fun b => b / 8 : List Nat) → t.memWord adr = s.memWord adr)) ∧
  (∀ (a from_ to_ : Nat) (x : Claim) (s : State),
      s.claims = [x] →
      (from_, to_) = (if x.kind = .retire ∨ x.kind = .loan then (x.chanter, 128 + x.chanter / 32) else (128 + x.chanter / 32, x.chanter)) →
      (s.mirrorOf a = (if 0x40005C00 + 0x8000 * from_ ≤ a ∧ a < 0x40006000 + 0x8000 * from_ then some (0x40005C00 + 0x8000 * to_ + (a - (0x40005C00 + 0x8000 * from_))) else none))) ∧
  (∀ (ini : Initiator) (a : Nat) (v : BitVec 64) (s : State),
      ((match ini with | .drone d => s.droneRuns d.val && decide (accessOf (132 + d.val) a 8 true = .spine) | .fabric => fabricReach true a | _ => true) = true) →
      (spineKind a = 1 ∧ spineDecodes a = true ∧ s.domOn ((addrDomain a).getD 0) = true) →
      a % 8 = 0 →
      (a < 0x22000000 ∧ s.drainState ≠ 0) →
      ∃ t, exec (.spineMemoryWrite ini a 8 v) s = .next t
        ∧ t.respCode ini = 0
        ∧ t.rd R.WHEEL_STAT = (s.set F.WHEEL_STAT_EVM_WR_BLOCKED 1).rd R.WHEEL_STAT
        ∧ t = { s with regs := t.regs, spine := t.spine, sec := { s.sec with tapOut := t.sec.tapOut } }
        ∧ (∀ adr, adr ∉ ([R.WHEEL_STAT] : List Nat) → t.rd adr = s.rd adr)) ∧
  (∀ (ini : Initiator) (a : Nat) (w : Nat) (v : BitVec 64) (s : State),
      ((match ini with | .drone d => s.droneRuns d.val && decide (accessOf (132 + d.val) a w true = .spine) | .fabric => fabricReach true a | _ => true) = true) →
      (spineKind a = 1 ∧ spineDecodes a = true ∧ s.domOn ((addrDomain a).getD 0) = true) →
      (w ≠ 8 ∨ a % 8 ≠ 0 ∨ ¬ (if a < 0x40000000 then True else if a < 0x41000000 then 0x4000 ≤ a % 0x8000 ∨ s.get (F.CHT_C_STAT_STATE ((a - 0x40000000) / 0x8000)) = 1 ∨ s.get (F.CHT_C_STAT_STATE ((a - 0x40000000) / 0x8000)) = 3 else 0x10000 ≤ a % 0x20000 ∨ (s.drone ((a - 0x41000000) / 0x20000)).halted = true)) →
      ∃ t, exec (.spineMemoryWrite ini a w v) s = .next t
        ∧ t.respCode ini = 2
        ∧ t = { s with regs := t.regs, irq := t.irq, berrAt := t.berrAt, engines := t.engines, spine := t.spine, sec := { s.sec with tapOut := t.sec.tapOut } }
        ∧ (∀ adr, adr ∉ (berrRegs : List Nat) → t.rd adr = s.rd adr)
        ∧ (∀ key, key ∉ (iniEngines ini : List Nat) → t.engine key = s.engine key)
        ∧ (∀ num dr, num ∉ ([904, 905] : List Nat) → t.slot num dr = s.slot num dr)) ∧
  (∀ (ini : Initiator) (a : Nat) (w : Nat) (v : BitVec 64) (s : State),
      ((match ini with | .drone d => s.droneRuns d.val && decide (accessOf (132 + d.val) a w true = .spine) | .fabric => fabricReach true a | _ => true) = true) →
      (spineKind a = 2 ∧ spineDecodes a = true ∧ s.domOn ((addrDomain a).getD 0) = true) →
      ∃ t, exec (.spineMemoryWrite ini a w v) s = .next t
        ∧ t.respCode ini = 2
        ∧ t = { s with regs := t.regs, irq := t.irq, berrAt := t.berrAt, engines := t.engines, spine := t.spine, sec := { s.sec with tapOut := t.sec.tapOut } }
        ∧ (∀ adr, adr ∉ (berrRegs : List Nat) → t.rd adr = s.rd adr)
        ∧ (∀ key, key ∉ (iniEngines ini : List Nat) → t.engine key = s.engine key)
        ∧ (∀ num dr, num ∉ ([904, 905] : List Nat) → t.slot num dr = s.slot num dr)) ∧
  (∀ (ini : Initiator) (a : Nat) (w bad : Nat) (s : State),
      ((match ini with | .drone d => s.droneRuns d.val && decide (accessOf (132 + d.val) a w false = .spine) | .fabric => fabricReach false a | _ => true) = true) →
      (spineKind a = 1 ∧ spineDecodes a = true ∧ s.domOn ((addrDomain a).getD 0) = true) →
      ((w = 4 ∨ w = 8) ∧ a % w = 0) →
      gridClassify (s.memWord a) = .clean →
      ∃ t, exec (.spineMemoryRead ini a w bad) s = .next t
        ∧ t.respCode ini = 0
        ∧ t.respData ini = (if w = 8 then ((s.memWord a).truncate 64 : BitVec 64) else if a % 8 = 0 then ((s.memWord a).truncate 64 : BitVec 64) &&& 0xFFFFFFFF#64 else ((s.memWord a).truncate 64 : BitVec 64) >>> 32)
        ∧ t = { s with spine := t.spine, sec := { s.sec with tapOut := t.sec.tapOut } }) ∧
  (∀ (ini : Initiator) (a : Nat) (w bad kd i j : Nat) (s : State),
      ((match ini with | .drone d => s.droneRuns d.val && decide (accessOf (132 + d.val) a w false = .spine) | .fabric => fabricReach false a | _ => true) = true) →
      (spineKind a = 1 ∧ spineDecodes a = true ∧ s.domOn ((addrDomain a).getD 0) = true) →
      ((w = 4 ∨ w = 8) ∧ a % w = 0) →
      (kd < 3 ∧ (kd = 1 → j = 0) ∧ (kd = 2 → i = 0)) →
      gridClassify (s.memWord a) = (if kd = 0 then .dataBit i j else if kd = 1 then .rowBit i else .colBit j) →
      ∃ t, exec (.spineMemoryRead ini a w bad) s = .next t
        ∧ t.respCode ini = 0
        ∧ t.respData ini = (if w = 8 then (((s.memWord a).truncate 64 : BitVec 64) ^^^ (if kd = 0 then BitVec.ofNat 64 (2 ^ (8 * i + j)) else 0)) else if a % 8 = 0 then (((s.memWord a).truncate 64 : BitVec 64) ^^^ (if kd = 0 then BitVec.ofNat 64 (2 ^ (8 * i + j)) else 0)) &&& 0xFFFFFFFF#64 else (((s.memWord a).truncate 64 : BitVec 64) ^^^ (if kd = 0 then BitVec.ofNat 64 (2 ^ (8 * i + j)) else 0)) >>> 32)
        ∧ t.rdN R.ECC_CORR_COUNT = min 0xFFFFFFFF (s.rdN R.ECC_CORR_COUNT + 1)
        ∧ t.rdN R.ECC_LAST_CORR = a / 8 * 8 % 2 ^ 32
        ∧ t.rdN R.ECC_LAST_INFO = (iniCode ini * 2 ^ 28 + (if a < 0x22000000 then 0 else if a < 0x23000000 then 1 else if a < 0x30000000 then 2 else if a < 0x41000000 then 3 else 4) * 2 ^ 25 + kd * 2 ^ 16 + i * 16 + j) % 2 ^ 32
        ∧ t.rd R.ECC_STAT = (s.set F.ECC_STAT_CORR 1).rd R.ECC_STAT
        ∧ (s.bit F.ECC_STAT_CORR = false → t.isPending 858 = true)
        ∧ t = { s with regs := t.regs, irq := t.irq, spine := t.spine, sec := { s.sec with tapOut := t.sec.tapOut } }
        ∧ (∀ adr, adr ∉ (R.ECC_CORR_COUNT :: R.ECC_LAST_CORR :: R.ECC_LAST_INFO :: R.ECC_STAT :: coalesced : List Nat) → t.rd adr = s.rd adr)
        ∧ (∀ num dr, num ∉ (if s.bit F.ECC_STAT_CORR = true then [] else [858] : List Nat) → t.slot num dr = s.slot num dr)) ∧
  (∀ (ini : Initiator) (a : Nat) (w bad : Nat) (s : State),
      ((match ini with | .drone d => s.droneRuns d.val && decide (accessOf (132 + d.val) a w false = .spine) | .fabric => fabricReach false a | _ => true) = true) →
      (spineKind a = 1 ∧ spineDecodes a = true ∧ s.domOn ((addrDomain a).getD 0) = true) →
      ((w = 4 ∨ w = 8) ∧ a % w = 0) →
      gridClassify (s.memWord a) = .uncorrectable →
      ∃ t, exec (.spineMemoryRead ini a w bad) s = .next t
        ∧ t.respData ini = (if w = 8 then 0x0BAD0BAD0BAD0BAD#64 else 0x0BAD0BAD#64)
        ∧ t.rdN R.ECC_UNCORR_COUNT = min 0xFFFFFFFF (s.rdN R.ECC_UNCORR_COUNT + 1)
        ∧ t.rdN R.ECC_LAST_UNCORR = a / 8 * 8 % 2 ^ 32
        ∧ t.rdN R.ECC_LAST_INFO = (iniCode ini * 2 ^ 28 + (if a < 0x22000000 then 0 else if a < 0x23000000 then 1 else if a < 0x30000000 then 2 else if a < 0x41000000 then 3 else 4) * 2 ^ 25 + 3 * 2 ^ 16) % 2 ^ 32
        ∧ t.rd R.ECC_STAT = (s.set F.ECC_STAT_UNCORR 1).rd R.ECC_STAT
        ∧ t.isPending 859 = true
        ∧ t.respCode ini = 2
        ∧ t = { s with regs := t.regs, irq := t.irq, berrAt := t.berrAt, engines := t.engines, spine := t.spine, sec := { s.sec with tapOut := t.sec.tapOut } }
        ∧ (∀ adr, adr ∉ (R.ECC_UNCORR_COUNT :: R.ECC_LAST_UNCORR :: R.ECC_LAST_INFO :: R.ECC_STAT :: berrRegs : List Nat) → t.rd adr = s.rd adr)
        ∧ (∀ key, key ∉ (iniEngines ini : List Nat) → t.engine key = s.engine key)
        ∧ (∀ num dr, num ∉ ([859, 904, 905] : List Nat) → t.slot num dr = s.slot num dr)) ∧
  (∀ (ini : Initiator) (a : Nat) (w bad : Nat) (s : State),
      ((match ini with | .drone d => s.droneRuns d.val && decide (accessOf (132 + d.val) a w false = .spine) | .fabric => fabricReach false a | _ => true) = true) →
      ((spineKind a = 1 ∨ spineKind a = 2) ∧ spineDecodes a = true ∧ s.domOn ((addrDomain a).getD 0) = true) →
      ¬ ((w = 4 ∨ w = 8) ∧ a % w = 0) →
      ∃ t, exec (.spineMemoryRead ini a w bad) s = .next t
        ∧ t.respData ini = 0
        ∧ t.respCode ini = 2
        ∧ t = { s with regs := t.regs, irq := t.irq, berrAt := t.berrAt, engines := t.engines, spine := t.spine, sec := { s.sec with tapOut := t.sec.tapOut } }
        ∧ (∀ adr, adr ∉ (berrRegs : List Nat) → t.rd adr = s.rd adr)
        ∧ (∀ key, key ∉ (iniEngines ini : List Nat) → t.engine key = s.engine key)
        ∧ (∀ num dr, num ∉ ([904, 905] : List Nat) → t.slot num dr = s.slot num dr)) ∧
  (∀ (d : Fin 4) (a m : Nat) (w : Nat) (v : BitVec 64) (s : State),
      (s.droneRuns d.val = true ∧ a < 0x20000 ∧ a % w = 0) →
      (w = 8 ∧ 0x10000 ≤ a) →
      m = 0x41000000 + 0x20000 * d.val + a →
      ∃ t, exec (.spineMemoryWrite (.drone d) a w v) s = .next t
        ∧ t.memWord m = gridEncode v
        ∧ t = { s with mem := t.mem }
        ∧ (∀ adr, adr / 8 ∉ ([m / 8] : List Nat) → t.memWord adr = s.memWord adr)) ∧
  (∀ (d : Fin 4) (a m : Nat) (w bad : Nat) (kd i j : Nat) (s : State),
      (s.droneRuns d.val = true ∧ a < 0x20000 ∧ a % w = 0) →
      (w = 4 ∨ w = 8) →
      ((kd = 3 ∧ i = 0 ∨ kd < 3) ∧ (kd = 1 ∨ kd = 3 → j = 0) ∧ (kd = 2 → i = 0)) →
      gridClassify (s.memWord (0x41000000 + 0x20000 * d.val + a)) = (if kd = 0 then .dataBit i j else if kd = 1 then .rowBit i else if kd = 2 then .colBit j else .clean) →
      m = 0x41000000 + 0x20000 * d.val + a →
      ∃ t, exec (.spineMemoryRead (.drone d) a w bad) s = .next t
        ∧ t.respCode (.drone d) = 0
        ∧ t.respData (.drone d) = (if w = 8 then (((s.memWord m).truncate 64 : BitVec 64) ^^^ (if kd = 0 then BitVec.ofNat 64 (2 ^ (8 * i + j)) else 0)) else if a % 8 = 0 then (((s.memWord m).truncate 64 : BitVec 64) ^^^ (if kd = 0 then BitVec.ofNat 64 (2 ^ (8 * i + j)) else 0)) &&& 0xFFFFFFFF#64 else (((s.memWord m).truncate 64 : BitVec 64) ^^^ (if kd = 0 then BitVec.ofNat 64 (2 ^ (8 * i + j)) else 0)) >>> 32)
        ∧ (kd < 3 → t.rdN R.ECC_CORR_COUNT = min 0xFFFFFFFF (s.rdN R.ECC_CORR_COUNT + 1) ∧ t.rdN R.ECC_LAST_CORR = m / 8 * 8 ∧ t.rdN R.ECC_LAST_INFO = d.val * 2 ^ 28 + 4 * 2 ^ 25 + kd * 2 ^ 16 + i * 16 + j ∧ t.rd R.ECC_STAT = (s.set F.ECC_STAT_CORR 1).rd R.ECC_STAT)
        ∧ (kd < 3 → s.bit F.ECC_STAT_CORR = false → t.isPending 858 = true)
        ∧ (kd = 3 → t = { s with spine := t.spine })
        ∧ t = { s with regs := t.regs, irq := t.irq, spine := t.spine }
        ∧ (∀ adr, adr ∉ (R.ECC_CORR_COUNT :: R.ECC_LAST_CORR :: R.ECC_LAST_INFO :: R.ECC_STAT :: coalesced : List Nat) → t.rd adr = s.rd adr)
        ∧ (∀ num dr, num ∉ (if s.bit F.ECC_STAT_CORR = true then [] else [858] : List Nat) → t.slot num dr = s.slot num dr)) ∧
  (∀ (d : Fin 4) (a m : Nat) (w bad : Nat) (u : State) (s : State),
      (s.droneRuns d.val = true ∧ a < 0x20000 ∧ a % w = 0) →
      (w = 4 ∨ w = 8) →
      gridClassify (s.memWord (0x41000000 + 0x20000 * d.val + a)) = .uncorrectable →
      u = s.exception (132 + d.val) 5 →
      m = 0x41000000 + 0x20000 * d.val + a →
      ∃ t, exec (.spineMemoryRead (.drone d) a w bad) s = .next t
        ∧ t.rdN R.ECC_UNCORR_COUNT = min 0xFFFFFFFF (s.rdN R.ECC_UNCORR_COUNT + 1)
        ∧ t.rdN R.ECC_LAST_UNCORR = m / 8 * 8
        ∧ t.rdN R.ECC_LAST_INFO = d.val * 2 ^ 28 + 4 * 2 ^ 25 + 3 * 2 ^ 16
        ∧ t.rd R.ECC_STAT = (s.set F.ECC_STAT_UNCORR 1).rd R.ECC_STAT
        ∧ t.isPending 859 = true
        ∧ t = { u with regs := t.regs, irq := t.irq }
        ∧ (∀ adr, adr ∉ (R.ECC_UNCORR_COUNT :: R.ECC_LAST_UNCORR :: R.ECC_LAST_INFO :: R.ECC_STAT :: coalesced : List Nat) → t.rd adr = u.rd adr)
        ∧ (∀ num dr, num ∉ ([859] : List Nat) → t.slot num dr = u.slot num dr)) ∧
  (∀ (ini : Initiator) (a : Nat) (w bad : Nat) (s : State),
      ((match ini with | .drone d => s.droneRuns d.val && decide (accessOf (132 + d.val) a w false = .spine) | .fabric => fabricReach false a | _ => true) = true) →
      (spineKind a = 2 ∧ spineDecodes a = true ∧ s.domOn ((addrDomain a).getD 0) = true) →
      ((w = 4 ∨ w = 8) ∧ a % w = 0) →
      a < 0x33000000 →
      (a - 0x30000000) < 0x2FF0000 →
      ¬ ((s.flash.ops.head?.any fun o => !o.susp) = true) →
      ¬ (s.flash.ops.any (fun x => x.susp && (decide (x.op = 1 ∧ x.addr / 0x1000 = a / 0x1000) || decide (x.op = 2 ∧ x.addr / 0x10000 = a / 0x10000))) = true) →
      s.flash.damaged.contains ((a - 0x30000000) / 0x1000) = false →
      bad ≤ 2 →
      ∃ t, exec (.spineMemoryRead ini a w bad) s = .next t
        ∧ t.respCode ini = 0
        ∧ t.respData ini = BitVec.ofNat 64 (numLE ((List.range w).map fun i => Sparse.get (fun _ => 255) s.flash.cf ((a - 0x30000000) + i)))
        ∧ t.rdN R.FLASH_CF_CORR = (if bad = 0 then s.rdN R.FLASH_CF_CORR else min 0xFFFFFFFF (s.rdN R.FLASH_CF_CORR + 1))
        ∧ t = { s with regs := t.regs, flash := { s.flash with lastRead := s.now }, spine := t.spine, sec := { s.sec with tapOut := t.sec.tapOut } }
        ∧ (∀ adr, adr ∉ ([R.FLASH_CF_CORR] : List Nat) → t.rd adr = s.rd adr)) ∧
  (∀ (ini : Initiator) (a : Nat) (w bad : Nat) (s : State),
      ((match ini with | .drone d => s.droneRuns d.val && decide (accessOf (132 + d.val) a w false = .spine) | .fabric => fabricReach false a | _ => true) = true) →
      (spineKind a = 2 ∧ spineDecodes a = true ∧ s.domOn ((addrDomain a).getD 0) = true) →
      ((w = 4 ∨ w = 8) ∧ a % w = 0) →
      a < 0x33000000 →
      0x2FF0000 ≤ (a - 0x30000000) →
      ¬ ((s.flash.ops.head?.any fun o => !o.susp) = true) →
      ¬ (s.flash.ops.any (fun x => x.susp && (decide (x.op = 1 ∧ x.addr / 0x1000 = a / 0x1000) || decide (x.op = 2 ∧ x.addr / 0x10000 = a / 0x10000))) = true) →
      s.flash.damaged.contains ((a - 0x30000000) / 0x1000) = false →
      bad ≤ 2 →
      ∃ t, exec (.spineMemoryRead ini a w bad) s = .next t
        ∧ t.respCode ini = 0
        ∧ t.respData ini = BitVec.ofNat 64 (numLE ((List.range w).map fun i => (match ((if (a - 0x30000000) - 0x2FF0000 + i < 0x8000 then s.flash.j0 else s.flash.j1)).loc (((a - 0x30000000) - 0x2FF0000 + i) % 0x8000 / 32) with | none => 255 | some (some r) => r.bytes.getD (((a - 0x30000000) - 0x2FF0000 + i) % 32) 0 | some none => (Config.freeValue s.free).toNat / 256 ^ (((a - 0x30000000) - 0x2FF0000 + i) % 8) % 256)))
        ∧ t.rdN R.FLASH_CF_CORR = (if bad = 0 then s.rdN R.FLASH_CF_CORR else min 0xFFFFFFFF (s.rdN R.FLASH_CF_CORR + 1))
        ∧ t = { s with regs := t.regs, free := s.free + 1, flash := { s.flash with lastRead := s.now }, spine := t.spine, sec := { s.sec with tapOut := t.sec.tapOut } }
        ∧ (∀ adr, adr ∉ ([R.FLASH_CF_CORR] : List Nat) → t.rd adr = s.rd adr)) ∧
  (∀ (ini : Initiator) (a : Nat) (w bad : Nat) (s : State),
      ((match ini with | .drone d => s.droneRuns d.val && decide (accessOf (132 + d.val) a w false = .spine) | .fabric => fabricReach false a | _ => true) = true) →
      (spineKind a = 2 ∧ spineDecodes a = true ∧ s.domOn ((addrDomain a).getD 0) = true) →
      ((w = 4 ∨ w = 8) ∧ a % w = 0) →
      a < 0x33000000 →
      ((s.flash.ops.head?.any fun o => !o.susp) = true) →
      ∃ t, exec (.spineMemoryRead ini a w bad) s = .next t
        ∧ t.respData ini = 0
        ∧ t.flash = { s.flash with lastRead := s.now, ops := (match s.flash.ops with | o :: r => { o with susp := true } :: r | [] => []) }
        ∧ (t.get F.FLASH_STAT_SUSP = (s.flash.ops.filter fun o => o.susp).length + 1 ∧ t.bit F.FLASH_STAT_CF_BUSY = true)
        ∧ t.bit F.FLASH_STAT_SUSP_CMD = (match (s.flash.ops.filter fun o => o.susp).getLast? with | some o => o.byCmd | none => s.flash.ops.head?.any fun o => o.byCmd)
        ∧ (∀ f ∈ ([F.FLASH_STAT_CF_DONE, F.FLASH_STAT_PF_DONE, F.FLASH_STAT_UNCORR, F.FLASH_STAT_CF_CODE, F.FLASH_STAT_PF_CODE] : List FieldAt), t.get f = s.get f)
        ∧ t.respCode ini = 2
        ∧ t = { s with regs := t.regs, irq := t.irq, berrAt := t.berrAt, engines := t.engines, flash := t.flash, spine := t.spine, sec := { s.sec with tapOut := t.sec.tapOut } }
        ∧ (∀ adr, adr ∉ (R.FLASH_STAT :: berrRegs : List Nat) → t.rd adr = s.rd adr)
        ∧ (∀ key, key ∉ (iniEngines ini : List Nat) → t.engine key = s.engine key)
        ∧ (∀ num dr, num ∉ ([904, 905] : List Nat) → t.slot num dr = s.slot num dr)) ∧
  (∀ (ini : Initiator) (a : Nat) (w bad : Nat) (s : State),
      ((match ini with | .drone d => s.droneRuns d.val && decide (accessOf (132 + d.val) a w false = .spine) | .fabric => fabricReach false a | _ => true) = true) →
      (spineKind a = 2 ∧ spineDecodes a = true ∧ s.domOn ((addrDomain a).getD 0) = true) →
      ((w = 4 ∨ w = 8) ∧ a % w = 0) →
      a < 0x33000000 →
      ¬ ((s.flash.ops.head?.any fun o => !o.susp) = true) →
      (s.flash.ops.any (fun x => x.susp && (decide (x.op = 1 ∧ x.addr / 0x1000 = a / 0x1000) || decide (x.op = 2 ∧ x.addr / 0x10000 = a / 0x10000))) = true) →
      ∃ t, exec (.spineMemoryRead ini a w bad) s = .next t
        ∧ t.respData ini = 0
        ∧ t.respCode ini = 2
        ∧ t = { s with regs := t.regs, irq := t.irq, berrAt := t.berrAt, engines := t.engines, flash := { s.flash with lastRead := s.now }, spine := t.spine, sec := { s.sec with tapOut := t.sec.tapOut } }
        ∧ (∀ adr, adr ∉ (berrRegs : List Nat) → t.rd adr = s.rd adr)
        ∧ (∀ key, key ∉ (iniEngines ini : List Nat) → t.engine key = s.engine key)
        ∧ (∀ num dr, num ∉ ([904, 905] : List Nat) → t.slot num dr = s.slot num dr)) ∧
  (∀ (ini : Initiator) (a : Nat) (w bad : Nat) (s : State),
      ((match ini with | .drone d => s.droneRuns d.val && decide (accessOf (132 + d.val) a w false = .spine) | .fabric => fabricReach false a | _ => true) = true) →
      (spineKind a = 2 ∧ spineDecodes a = true ∧ s.domOn ((addrDomain a).getD 0) = true) →
      ((w = 4 ∨ w = 8) ∧ a % w = 0) →
      a < 0x33000000 →
      ¬ ((s.flash.ops.head?.any fun o => !o.susp) = true) →
      ¬ (s.flash.ops.any (fun x => x.susp && (decide (x.op = 1 ∧ x.addr / 0x1000 = a / 0x1000) || decide (x.op = 2 ∧ x.addr / 0x10000 = a / 0x10000))) = true) →
      s.flash.damaged.contains ((a - 0x30000000) / 0x1000) = false →
      2 < bad →
      ∃ t, exec (.spineMemoryRead ini a w bad) s = .next t
        ∧ t.respData ini = 0
        ∧ t.rdN R.FLASH_UNCORR_ADDR = a % 2 ^ 32
        ∧ t.rd R.FLASH_STAT = (s.set F.FLASH_STAT_UNCORR 1).rd R.FLASH_STAT
        ∧ t.isPending 844 = true
        ∧ t.respCode ini = 2
        ∧ t = { s with regs := t.regs, irq := t.irq, berrAt := t.berrAt, engines := t.engines, flash := { s.flash with lastRead := s.now }, spine := t.spine, sec := { s.sec with tapOut := t.sec.tapOut } }
        ∧ (∀ adr, adr ∉ (R.FLASH_UNCORR_ADDR :: R.FLASH_STAT :: berrRegs : List Nat) → t.rd adr = s.rd adr)
        ∧ (∀ key, key ∉ (iniEngines ini : List Nat) → t.engine key = s.engine key)
        ∧ (∀ num dr, num ∉ ([844, 904, 905] : List Nat) → t.slot num dr = s.slot num dr)) ∧
  (∀ (ini : Initiator) (a : Nat) (w bad : Nat) (q : Nat) (s : State),
      ((match ini with | .drone d => s.droneRuns d.val && decide (accessOf (132 + d.val) a w false = .spine) | .fabric => fabricReach false a | _ => true) = true) →
      (spineKind a = 2 ∧ spineDecodes a = true ∧ s.domOn ((addrDomain a).getD 0) = true) →
      ((w = 4 ∨ w = 8) ∧ a % w = 0) →
      a < 0x33000000 →
      ¬ ((s.flash.ops.head?.any fun o => !o.susp) = true) →
      ¬ (s.flash.ops.any (fun x => x.susp && (decide (x.op = 1 ∧ x.addr / 0x1000 = a / 0x1000) || decide (x.op = 2 ∧ x.addr / 0x10000 = a / 0x10000))) = true) →
      s.flash.damaged.contains ((a - 0x30000000) / 0x1000) = true →
      q = (Config.freeValue s.free).toNat →
      ∃ t, exec (.spineMemoryRead ini a w bad) s = .next t
        ∧ t.respCode ini = (if q % 2 = 0 then 2 else 0)
        ∧ t.respData ini = (if q % 2 = 0 then 0 else BitVec.ofNat 64 (q / 2 % 256 ^ w))
        ∧ (q % 2 = 0 → t.rdN R.FLASH_UNCORR_ADDR = a % 2 ^ 32 ∧ t.bit F.FLASH_STAT_UNCORR = true ∧ t.isPending 844 = true)
        ∧ t = { s with regs := t.regs, irq := t.irq, berrAt := t.berrAt, engines := t.engines, free := s.free + 1, flash := { s.flash with lastRead := s.now }, spine := t.spine, sec := { s.sec with tapOut := t.sec.tapOut } }
        ∧ (∀ adr, adr ∉ (if q % 2 = 0 then R.FLASH_UNCORR_ADDR :: R.FLASH_STAT :: berrRegs else [] : List Nat) → t.rd adr = s.rd adr)
        ∧ (∀ key, key ∉ (if q % 2 = 0 then iniEngines ini else [] : List Nat) → t.engine key = s.engine key)
        ∧ (∀ num dr, num ∉ (if q % 2 = 0 then [844, 904, 905] else [] : List Nat) → t.slot num dr = s.slot num dr)) ∧
  (∀ (ini : Initiator) (a : Nat) (w bad : Nat) (fast : Bool) (s : State),
      ((match ini with | .drone d => s.droneRuns d.val && decide (accessOf (132 + d.val) a w false = .spine) | .fabric => fabricReach false a | _ => true) = true) →
      (spineKind a = 2 ∧ spineDecodes a = true ∧ s.domOn ((addrDomain a).getD 0) = true) →
      ((w = 4 ∨ w = 8) ∧ a % w = 0) →
      (0x33000000 ≤ a ∧ a < 0x34000000) →
      s.flash.pfOp.isSome = false →
      s.flash.pfBad.contains ((a - 0x33000000) / 16) = false →
      bad ≤ 1 →
      fast = decide (s.get F.FLASH_PF_WS_WS < (if s.bit F.CLK_CTL_CORE = true then 5 else 2)) →
      ∃ t, exec (.spineMemoryRead ini a w bad) s = .next t
        ∧ t.respCode ini = 0
        ∧ t.respData ini = BitVec.ofNat 64 ((if fast = true then (Config.freeValue s.free).toNat else ((Sparse.get (fun _ => none) s.flash.pf ((a - 0x33000000) / 16)).getD (BitVec.allOnes 128)).toNat / 256 ^ (a % 16)) % 256 ^ w)
        ∧ t.rdN R.FLASH_CF_CORR = (if bad = 0 then s.rdN R.FLASH_CF_CORR else min 0xFFFFFFFF (s.rdN R.FLASH_CF_CORR + 1))
        ∧ t = { s with regs := t.regs, free := s.free + (if fast = true then 1 else 0), spine := t.spine, sec := { s.sec with tapOut := t.sec.tapOut } }
        ∧ (∀ adr, adr ∉ ([R.FLASH_CF_CORR] : List Nat) → t.rd adr = s.rd adr)) ∧
  (∀ (ini : Initiator) (a : Nat) (w bad : Nat) (s : State),
      ((match ini with | .drone d => s.droneRuns d.val && decide (accessOf (132 + d.val) a w false = .spine) | .fabric => fabricReach false a | _ => true) = true) →
      (spineKind a = 2 ∧ spineDecodes a = true ∧ s.domOn ((addrDomain a).getD 0) = true) →
      ((w = 4 ∨ w = 8) ∧ a % w = 0) →
      (0x33000000 ≤ a ∧ a < 0x34000000) →
      s.flash.pfOp.isSome = true →
      ∃ t, exec (.spineMemoryRead ini a w bad) s = .next t
        ∧ t.respData ini = 0
        ∧ t.respCode ini = 2
        ∧ t = { s with regs := t.regs, irq := t.irq, berrAt := t.berrAt, engines := t.engines, spine := t.spine, sec := { s.sec with tapOut := t.sec.tapOut } }
        ∧ (∀ adr, adr ∉ (berrRegs : List Nat) → t.rd adr = s.rd adr)
        ∧ (∀ key, key ∉ (iniEngines ini : List Nat) → t.engine key = s.engine key)
        ∧ (∀ num dr, num ∉ ([904, 905] : List Nat) → t.slot num dr = s.slot num dr)) ∧
  (∀ (ini : Initiator) (a : Nat) (w bad : Nat) (s : State),
      ((match ini with | .drone d => s.droneRuns d.val && decide (accessOf (132 + d.val) a w false = .spine) | .fabric => fabricReach false a | _ => true) = true) →
      (spineKind a = 2 ∧ spineDecodes a = true ∧ s.domOn ((addrDomain a).getD 0) = true) →
      ((w = 4 ∨ w = 8) ∧ a % w = 0) →
      (0x33000000 ≤ a ∧ a < 0x34000000) →
      s.flash.pfOp.isSome = false →
      s.flash.pfBad.contains ((a - 0x33000000) / 16) = false →
      1 < bad →
      ∃ t, exec (.spineMemoryRead ini a w bad) s = .next t
        ∧ t.respData ini = 0
        ∧ t.rdN R.FLASH_UNCORR_ADDR = a % 2 ^ 32
        ∧ t.rd R.FLASH_STAT = (s.set F.FLASH_STAT_UNCORR 1).rd R.FLASH_STAT
        ∧ t.isPending 844 = true
        ∧ t.respCode ini = 2
        ∧ t = { s with regs := t.regs, irq := t.irq, berrAt := t.berrAt, engines := t.engines, spine := t.spine, sec := { s.sec with tapOut := t.sec.tapOut } }
        ∧ (∀ adr, adr ∉ (R.FLASH_UNCORR_ADDR :: R.FLASH_STAT :: berrRegs : List Nat) → t.rd adr = s.rd adr)
        ∧ (∀ key, key ∉ (iniEngines ini : List Nat) → t.engine key = s.engine key)
        ∧ (∀ num dr, num ∉ ([844, 904, 905] : List Nat) → t.slot num dr = s.slot num dr)) ∧
  (∀ (ini : Initiator) (a : Nat) (w bad : Nat) (q : Nat) (s : State),
      ((match ini with | .drone d => s.droneRuns d.val && decide (accessOf (132 + d.val) a w false = .spine) | .fabric => fabricReach false a | _ => true) = true) →
      (spineKind a = 2 ∧ spineDecodes a = true ∧ s.domOn ((addrDomain a).getD 0) = true) →
      ((w = 4 ∨ w = 8) ∧ a % w = 0) →
      (0x33000000 ≤ a ∧ a < 0x34000000) →
      s.flash.pfOp.isSome = false →
      s.flash.pfBad.contains ((a - 0x33000000) / 16) = true →
      q = (Config.freeValue s.free).toNat →
      ∃ t, exec (.spineMemoryRead ini a w bad) s = .next t
        ∧ t.respCode ini = (if q % 2 = 0 then 2 else 0)
        ∧ t.respData ini = (if q % 2 = 0 then 0 else BitVec.ofNat 64 (q / 2 % 256 ^ w))
        ∧ (q % 2 = 0 → t.rdN R.FLASH_UNCORR_ADDR = a % 2 ^ 32 ∧ t.bit F.FLASH_STAT_UNCORR = true ∧ t.isPending 844 = true)
        ∧ t = { s with regs := t.regs, irq := t.irq, berrAt := t.berrAt, engines := t.engines, free := s.free + 1, spine := t.spine, sec := { s.sec with tapOut := t.sec.tapOut } }
        ∧ (∀ adr, adr ∉ (if q % 2 = 0 then R.FLASH_UNCORR_ADDR :: R.FLASH_STAT :: berrRegs else [] : List Nat) → t.rd adr = s.rd adr)
        ∧ (∀ key, key ∉ (if q % 2 = 0 then iniEngines ini else [] : List Nat) → t.engine key = s.engine key)
        ∧ (∀ num dr, num ∉ (if q % 2 = 0 then [844, 904, 905] else [] : List Nat) → t.slot num dr = s.slot num dr)) ∧
  (∀ (ini : Initiator) (a : Nat) (w bad : Nat) (s : State),
      ((match ini with | .drone d => s.droneRuns d.val && decide (accessOf (132 + d.val) a w false = .spine) | .fabric => fabricReach false a | _ => true) = true) →
      (spineKind a = 2 ∧ spineDecodes a = true ∧ s.domOn ((addrDomain a).getD 0) = true) →
      ((w = 4 ∨ w = 8) ∧ a % w = 0) →
      (0x34000000 ≤ a) →
      ¬ (0x1180 ≤ (a - 0x34000000) ∧ (a - 0x34000000) < 0x1240) →
      s.flash.otpBad.contains ((a - 0x34000000) / 8) = false →
      bad ≤ 1 →
      ∃ t, exec (.spineMemoryRead ini a w bad) s = .next t
        ∧ t.respCode ini = 0
        ∧ t.respData ini = (if w = 8 then ((s.otpWord? ((a - 0x34000000) / 8)).getD 0) else if a % 8 = 0 then ((s.otpWord? ((a - 0x34000000) / 8)).getD 0) &&& 0xFFFFFFFF#64 else ((s.otpWord? ((a - 0x34000000) / 8)).getD 0) >>> 32)
        ∧ t = { s with spine := t.spine, sec := { s.sec with tapOut := t.sec.tapOut } }) ∧
  (∀ (ini : Initiator) (a : Nat) (w bad : Nat) (s : State),
      ((match ini with | .drone d => s.droneRuns d.val && decide (accessOf (132 + d.val) a w false = .spine) | .fabric => fabricReach false a | _ => true) = true) →
      (spineKind a = 2 ∧ spineDecodes a = true ∧ s.domOn ((addrDomain a).getD 0) = true) →
      ((w = 4 ∨ w = 8) ∧ a % w = 0) →
      (0x34000000 ≤ a) →
      ((0x1180 ≤ (a - 0x34000000) ∧ (a - 0x34000000) < 0x1240) ∨ 1 < bad ∧ s.flash.otpBad.contains ((a - 0x34000000) / 8) = false) →
      ∃ t, exec (.spineMemoryRead ini a w bad) s = .next t
        ∧ t.respData ini = 0
        ∧ t.respCode ini = 2
        ∧ t = { s with regs := t.regs, irq := t.irq, berrAt := t.berrAt, engines := t.engines, spine := t.spine, sec := { s.sec with tapOut := t.sec.tapOut } }
        ∧ (∀ adr, adr ∉ (berrRegs : List Nat) → t.rd adr = s.rd adr)
        ∧ (∀ key, key ∉ (iniEngines ini : List Nat) → t.engine key = s.engine key)
        ∧ (∀ num dr, num ∉ ([904, 905] : List Nat) → t.slot num dr = s.slot num dr)) ∧
  (∀ (ini : Initiator) (a : Nat) (w bad : Nat) (q : Nat) (s : State),
      ((match ini with | .drone d => s.droneRuns d.val && decide (accessOf (132 + d.val) a w false = .spine) | .fabric => fabricReach false a | _ => true) = true) →
      (spineKind a = 2 ∧ spineDecodes a = true ∧ s.domOn ((addrDomain a).getD 0) = true) →
      ((w = 4 ∨ w = 8) ∧ a % w = 0) →
      (0x34000000 ≤ a) →
      ¬ (0x1180 ≤ (a - 0x34000000) ∧ (a - 0x34000000) < 0x1240) →
      s.flash.otpBad.contains ((a - 0x34000000) / 8) = true →
      q = (Config.freeValue s.free).toNat →
      ∃ t, exec (.spineMemoryRead ini a w bad) s = .next t
        ∧ t.respCode ini = (if q % 2 = 0 then 2 else 0)
        ∧ t.respData ini = (if q % 2 = 0 then 0 else BitVec.ofNat 64 (q / 2 % 256 ^ w))
        ∧ t = { s with regs := t.regs, irq := t.irq, berrAt := t.berrAt, engines := t.engines, free := s.free + 1, spine := t.spine, sec := { s.sec with tapOut := t.sec.tapOut } }
        ∧ (∀ adr, adr ∉ (if q % 2 = 0 then berrRegs else [] : List Nat) → t.rd adr = s.rd adr)
        ∧ (∀ key, key ∉ (if q % 2 = 0 then iniEngines ini else [] : List Nat) → t.engine key = s.engine key)
        ∧ (∀ num dr, num ∉ (if q % 2 = 0 then [904, 905] else [] : List Nat) → t.slot num dr = s.slot num dr)) ∧
  (∀ (write landed : Bool) (a w : Nat) (v : BitVec 64) (ini : Initiator) (u s : State),
      (match ini with | .tap => true | .drone d => s.droneRuns d.val && decide (accessOf (132 + d.val) a w write = .spine) && (s.engine (132 + d.val)).posted.isEmpty && (match (s.engine (132 + d.val)).wait with | .load _ _ _ => false | _ => true) | _ => false) = true →
      u = (if landed = true ∧ spineDecodes a = true ∧ s.domOn ((addrDomain a).getD 0) = true then (s.spineReach ini none write a w v 0).1 else s) →
      ∃ t, exec (.spineTimeout (ini) write a w v landed) s = .next t
        ∧ (t.respCode ini = 3 ∧ t.respData ini = 0)
        ∧ (u.logTakes (ini) = true → t.rdN R.IRQ_BERR_ADDR = a % 2 ^ 32 ∧ t.get F.IRQ_BERR_INFO_CODE = 3 ∧ t.get F.IRQ_BERR_INFO_INITIATOR = iniCode (ini))
        ∧ t.rdN R.IRQ_BERR_COUNT = min 0xFFFFFFFF (u.rdN R.IRQ_BERR_COUNT + 1)
        ∧ t.isPending 904 = true
        ∧ (∀ key ∈ (iniEngines ini : List Nat), t.engine key = { (u.engine key).flag 13 true with berr := 3, berrAddr := BitVec.ofNat 32 a })
        ∧ t = { u with regs := t.regs, irq := t.irq, spine := t.spine, berrAt := t.berrAt, engines := t.engines, sec := { u.sec with tapOut := t.sec.tapOut } }
        ∧ (∀ adr, adr ∉ (berrRegs : List Nat) → t.rd adr = u.rd adr)
        ∧ (∀ key, key ∉ (iniEngines ini : List Nat) → t.engine key = u.engine key)
        ∧ (∀ num dr, num ∉ ([904] : List Nat) → t.slot num dr = u.slot num dr)) ∧
  (∀ (landed dbl : Bool) (d : Fin 4) (a w : Nat) (rd : Fin 16) (v : BitVec 64) (write : Bool) (u s : State),
      write = false →
      ((s.engine (132 + d.val)).wait = .load dbl rd.val a ∧ (s.engine (132 + d.val)).posted = []) →
      u = (if landed = true ∧ spineDecodes a = true ∧ s.domOn ((addrDomain a).getD 0) = true then (s.spineReach (.drone d) none write a (if dbl then 8 else 4) 0 0).1 else s) →
      ∃ t, exec (.spineTimeout (.drone d) write a w v landed) s = .next t
        ∧ (t.respCode (.drone d) = 3 ∧ t.respData (.drone d) = 0)
        ∧ (u.logTakes (.drone d) = true → t.rdN R.IRQ_BERR_ADDR = a % 2 ^ 32 ∧ t.get F.IRQ_BERR_INFO_CODE = 3 ∧ t.get F.IRQ_BERR_INFO_INITIATOR = iniCode (.drone d))
        ∧ t.rdN R.IRQ_BERR_COUNT = min 0xFFFFFFFF (u.rdN R.IRQ_BERR_COUNT + 1)
        ∧ t.isPending 904 = true
        ∧ t.engine (132 + d.val) = (if dbl then ((({ (u.engine (132 + d.val)).flag 13 true with berr := 3, berrAddr := BitVec.ofNat 32 a }).setReg rd.val 0).setReg (rd.val + 1) 0) else ({ (u.engine (132 + d.val)).flag 13 true with berr := 3, berrAddr := BitVec.ofNat 32 a }).setReg rd.val 0).next.ready
        ∧ t = { u with regs := t.regs, irq := t.irq, spine := t.spine, berrAt := t.berrAt, engines := t.engines }
        ∧ (∀ adr, adr ∉ (berrRegs : List Nat) → t.rd adr = u.rd adr)
        ∧ (∀ key, key ∉ ([132 + d.val] : List Nat) → t.engine key = u.engine key)
        ∧ (∀ num dr, num ∉ ([904] : List Nat) → t.slot num dr = u.slot num dr)) ∧
  (∀ (landed : Bool) (d : Fin 4) (p : Posted) (q : List Posted) (a w : Nat) (v : BitVec 64) (write : Bool) (u s : State),
      write = true →
      ((s.engine (132 + d.val)).posted = p :: q ∧ p.addr = a) →
      u = (if landed = true ∧ spineDecodes a = true ∧ s.domOn ((addrDomain a).getD 0) = true then (s.spineReach (.drone d) none write a (if p.double then 8 else 4) p.value 0).1 else s) →
      u.engine (132 + d.val) = s.engine (132 + d.val) →
      ∃ t, exec (.spineTimeout (.drone d) write a w v landed) s = .next t
        ∧ (t.respCode (.drone d) = 3 ∧ t.respData (.drone d) = 0)
        ∧ (u.logTakes (.drone d) = true → t.rdN R.IRQ_BERR_ADDR = a % 2 ^ 32 ∧ t.get F.IRQ_BERR_INFO_CODE = 3 ∧ t.get F.IRQ_BERR_INFO_INITIATOR = iniCode (.drone d))
        ∧ t.rdN R.IRQ_BERR_COUNT = min 0xFFFFFFFF (u.rdN R.IRQ_BERR_COUNT + 1)
        ∧ t.isPending 904 = true
        ∧ t.engine (132 + d.val) = storeAnswered { (s.engine (132 + d.val)).flag 13 true with berr := 3, berrAddr := BitVec.ofNat 32 a }
        ∧ t = { u with regs := t.regs, irq := t.irq, spine := t.spine, berrAt := t.berrAt, engines := t.engines }
        ∧ (∀ adr, adr ∉ (berrRegs : List Nat) → t.rd adr = u.rd adr)
        ∧ (∀ key, key ∉ ([132 + d.val] : List Nat) → t.engine key = u.engine key)
        ∧ (∀ num dr, num ∉ ([904] : List Nat) → t.slot num dr = u.slot num dr)) ∧
  (∀ (landed write : Bool) (a w : Nat) (v : BitVec 64) (u s : State),
      (s.fab.spm.busy = true ∧ s.fab.spm.direct = false ∧ s.fab.spm.addr = a ∧ s.fab.spm.write = write) →
      u = (if landed = true ∧ spineDecodes a = true ∧ s.domOn ((addrDomain a).getD 0) = true then (s.spineReach .fabric none write a 4 (s.fab.spm.data.zeroExtend 64) 0).1 else s) →
      u.fab.spm = s.fab.spm →
      ∃ t, exec (.spineTimeout (.fabric) write a w v landed) s = .next t
        ∧ (t.respCode .fabric = 3 ∧ t.respData .fabric = 0)
        ∧ (u.logTakes (.fabric) = true → t.rdN R.IRQ_BERR_ADDR = a % 2 ^ 32 ∧ t.get F.IRQ_BERR_INFO_CODE = 3 ∧ t.get F.IRQ_BERR_INFO_INITIATOR = iniCode (.fabric))
        ∧ t.rdN R.IRQ_BERR_COUNT = min 0xFFFFFFFF (u.rdN R.IRQ_BERR_COUNT + 1)
        ∧ t.isPending 904 = true
        ∧ t.fab = { u.fab with spm := { s.fab.spm with busy := false, direct := false, ack := !s.fab.spm.ack, code := 3, rdata := 0 } }
        ∧ (t.rdN R.FAB_SPM_ERR = min 0xFFFFFFFF (u.rdN R.FAB_SPM_ERR + 1) ∧ t.isPending 500 = true)
        ∧ t = { u with regs := t.regs, irq := t.irq, spine := t.spine, berrAt := t.berrAt, fab := t.fab }
        ∧ (∀ adr, adr ∉ (R.FAB_SPM_ERR :: berrRegs : List Nat) → t.rd adr = u.rd adr)
        ∧ (∀ num dr, num ∉ ([500, 904] : List Nat) → t.slot num dr = u.slot num dr)) ∧
  (∀ (landed write : Bool) (a w j : Nat) (v : BitVec 64) (x : Fin 256) (q : IvwReq) (r : BusReq) (u s : State),
      s.busWaits write a = some (x.val, q, r) →
      ((s.session x.val).busIdx = j ∧ a = r.addr + r.w * j ∧ 0 < r.w) →
      u = (if landed = true ∧ spineDecodes a = true ∧ s.domOn ((addrDomain a).getD 0) = true then (s.spineReach .ivwyn (some x.val) write a r.w (BitVec.ofNat 64 (fieldBE r.words (r.w * j) r.w)) 0).1 else s) →
      u.sessions = s.sessions →
      ∃ t, exec (.spineTimeout (.ivwyn) write a w v landed) s = .next t
        ∧ (t.respCode .ivwyn = 3 ∧ t.respData .ivwyn = 0)
        ∧ (u.logTakes (.ivwyn) = true → t.rdN R.IRQ_BERR_ADDR = a % 2 ^ 32 ∧ t.get F.IRQ_BERR_INFO_CODE = 3 ∧ t.get F.IRQ_BERR_INFO_INITIATOR = iniCode (.ivwyn))
        ∧ t.rdN R.IRQ_BERR_COUNT = min 0xFFFFFFFF (u.rdN R.IRQ_BERR_COUNT + 1)
        ∧ t.isPending 904 = true
        ∧ t.session x.val = ({ s.session x.val with busIdx := 0, busData := [] }).replied { u with regs := t.regs } x.val q.type 5 q.txn (bytesBE 2 j ++ [3, 0])
        ∧ (∀ key, key ∉ ([x.val] : List Nat) → t.session key = s.session key)
        ∧ t = { u with regs := t.regs, irq := t.irq, spine := t.spine, berrAt := t.berrAt, sessions := t.sessions }
        ∧ (∀ adr, adr ∉ (berrRegs : List Nat) → t.rd adr = u.rd adr)
        ∧ (∀ num dr, num ∉ ([904] : List Nat) → t.slot num dr = u.slot num dr)) ∧
  (∀ (write : Bool) (a : Nat) (s : State),
      (s.busWaits write a = ((List.range 256).findSome? fun x => (match (s.session x).queue with | q :: _ => (if 0x10 ≤ q.type ∧ q.type ≤ 0x13 then (match busReq q.type q.body with | .inr r => (if r.write = write ∧ r.addr + r.w * (s.session x).busIdx ≤ a ∧ a < r.addr + r.w * r.count ∧ (a - r.addr) % r.w = 0 then some (x, q, r) else none) | .inl _ => none) else none) | [] => none)))) ∧
  (∀ (write landed : Bool) (a w : Nat) (v : BitVec 64) (ini : Initiator) (s : State),
      (match ini with | .fabric => !(s.fab.spm.busy && !s.fab.spm.direct && decide (s.fab.spm.addr = a) && decide (s.fab.spm.write = write)) | .ivwyn => (s.busWaits write a).isNone | .drone d => !(s.droneRuns d.val) && (s.engine (132 + d.val)).posted.isEmpty && (match (s.engine (132 + d.val)).wait with | .load _ _ _ => false | _ => true) | .tap => false) = true →
      ∃ t, exec (.spineTimeout (ini) write a w v landed) s = .next t
        ∧ t = s)

/-- A stored word with one bad bit classifies by the place of that bit, and reads as its data (R495). For every 64-bit data word: the stored word is clean and reads as that data; with any one of its 80 bits inverted it still reads as that data, classified as that data bit, that row parity bit or that column parity bit. -/
def Obligations.SingleUpsetsAreCorrected : Prop :=
  ∀ d : BitVec 64,
    (gridEncode d).truncate 64 = d ∧ gridClassify (gridEncode d) = .clean ∧ gridData (gridEncode d) = some d ∧
    (∀ i, i < 8 → (gridEncode d).getLsbD (64 + i) = xorBits ((List.range 8).map fun j => d.getLsbD (8 * i + j))) ∧
    (∀ j, j < 8 → (gridEncode d).getLsbD (72 + j) = xorBits ((List.range 8).map fun i => d.getLsbD (8 * i + j))) ∧
    (∀ i j, i < 8 → j < 8 → gridClassify (gridEncode d ^^^ BitVec.ofNat 80 (2 ^ (8 * i + j))) = .dataBit i j ∧
      gridData (gridEncode d ^^^ BitVec.ofNat 80 (2 ^ (8 * i + j))) = some d) ∧
    (∀ i, i < 8 → gridClassify (gridEncode d ^^^ BitVec.ofNat 80 (2 ^ (64 + i))) = .rowBit i ∧
      gridData (gridEncode d ^^^ BitVec.ofNat 80 (2 ^ (64 + i))) = some d) ∧
    (∀ j, j < 8 → gridClassify (gridEncode d ^^^ BitVec.ofNat 80 (2 ^ (72 + j))) = .colBit j ∧
      gridData (gridEncode d ^^^ BitVec.ofNat 80 (2 ^ (72 + j))) = some d)

/-- What the grid code makes of one and of two bad bits (R497). For every data word. Any one bad bit of the 80 is corrected. Two bad data bits, two bad RP bits, two bad CP bits, and a bad data bit with a bad check bit of another row or column are uncorrectable. RP[i] with CP[j] is taken as the one data bit 8i + j, a data bit with its own RP as its CP bit, a data bit with its own CP as its RP bit. -/
def Obligations.TheGuaranteesOfTheGridCode : Prop :=
  ∀ d : BitVec 64,
    let bad (l : List Nat) : BitVec 80 := l.foldl (fun w n => w ^^^ BitVec.ofNat 80 (2 ^ n)) (gridEncode d)
    (∀ n, n < 80 → gridData (bad [n]) = some d) ∧
    (∀ m n, m < n → n < 64 → gridClassify (bad [m, n]) = .uncorrectable) ∧
    (∀ m n, 64 ≤ m → m < n → n < 72 → gridClassify (bad [m, n]) = .uncorrectable) ∧
    (∀ m n, 72 ≤ m → m < n → n < 80 → gridClassify (bad [m, n]) = .uncorrectable) ∧
    (∀ i j k, i < 8 → j < 8 → k < 8 → k ≠ i → gridClassify (bad [8 * i + j, 64 + k]) = .uncorrectable) ∧
    (∀ i j k, i < 8 → j < 8 → k < 8 → k ≠ j → gridClassify (bad [8 * i + j, 72 + k]) = .uncorrectable) ∧
    (∀ i j, i < 8 → j < 8 → gridClassify (bad [64 + i, 72 + j]) = .dataBit i j ∧
      gridClassify (bad [8 * i + j, 64 + i]) = .colBit j ∧ gridClassify (bad [8 * i + j, 72 + j]) = .rowBit i)

/-- Edges, index pulses, stalls and receiver losses of a shaft tracker (parts of R43, R44, R47, R48, R51, R52, R53, R54, R55, R60, R96, R167). Tracker x listens to an encoder when its source in force is QUAD and no receiver pair is lost; a transition of A or B has stood FILT cycles. Registers, sources and units that a clause does not name stay as they are. (1) ENCODER_EDGE in which A and B both change: QUAD_ERR counts one, its fault bit is set and raised; the tracker stays. (2) A transition that QMODE decodes (one of A and B changes; B only with QMODE 0, A falling not with QMODE 2), on a valid tracker: with the direction that the levels and DIR_INV give, n counts one up or down modulo E, ANGLE is that of n and ZERO, reached in that direction in less than a revolution, REVERSE is the direction, STALLED ends, the edge is stamped and counted for its domain; SPEED beyond its limit sets OVERSPEED. (3) With w = min(j, M) > 0 and the w-th last edge at angle th0 and time h0 before t0, SPEED after such an edge is the quotient of R48, where that fits 32 signed bits. (4) On a tracker that is not valid and waits for its index (INDEX_REQ 1): n counts likewise, ANGLE follows it without becoming valid, the direction, the stamp, the end of a stall and the count for the domain as above. (5) On a tracker that is not valid and waits for no index: the first edge makes it valid at the angle of n and ZERO, REV 0, and the domain starts there: its lead point is the angle plus the lead. (6) A sample that changes neither, or makes a transition that QMODE does not decode, changes wheel time only. (7) So does every sample of a tracker whose source is not QUAD, whose receiver pair is lost, or that has not stood FILT cycles. (8) INDEX_PULSE of a QUAD tracker that goes forward and is valid, with n not 0: n is 0, the angle moves by the shorter way to that of n = 0, INDEX_SLIP counts one, its fault bit is set and raised, and the index source is raised. (9) Not valid, with INDEX_REQ 1: valid with n 0, at angle ZERO and REV 0; the index source is raised. (10) Valid with n already 0, or not valid without INDEX_REQ: the index source is raised, and nothing else. (11) A tracker that is reversing, or whose source is not QUAD, takes no index. (12) TRACKER_STALL when the stall time has passed since the last accepted edge of a tracker that is not OFF: STALLED, SPEED and ACCEL 0, ANGLE held at its value then, the lead 0, the fault bit set and raised; with SRC CHAIN and as long without a broadcast also CHAIN_LOST. (13) When no stall is due: wheel time moves on, and a CHAIN tracker that has heard nothing for the stall time still shows CHAIN_LOST. (14) RECEIVER_PAIR_LOSS of a pair that goes open or shorted: the tracker is marked lost, LOSS is set and raised. (15) When the pairs are good again: the mark goes, and nothing else. Readings and choices of the model that it rests on: log entries 146, 147, 149, 150, 153. -/
def Obligations.ShaftEdges : Prop :=
  (∀ (x : Fin 2) (t0 stood : Nat) (a0 b0 a1 b1 : Bool) (s : State),
      s.shSource x.val = 1 →
      s.get (F.WHEEL_SH_CFG_FILT x.val) ≤ stood →
      (s.tracker x.val).lost = false →
      a0 ≠ a1 →
      b0 ≠ b1 →
      ∃ t, exec (.encoderEdge x t0 stood a0 b0 a1 b1) s = .next t
        ∧ t.rdN (R.WHEEL_SH_QUAD_ERR x.val) = min 0xFFFFFFFF (s.rdN (R.WHEEL_SH_QUAD_ERR x.val) + 1)
        ∧ t.bitAt (R.WHEEL_SH_STAT x.val) 1 = true
        ∧ t.isPending (673 + 2 * x.val) = true
        ∧ t.now = max s.now t0
        ∧ t = { s with regs := t.regs, irq := t.irq, now := t.now }
        ∧ (∀ adr, adr ∉ (R.WHEEL_SH_QUAD_ERR x.val :: R.WHEEL_SH_STAT x.val :: coalesced : List Nat) → t.rd adr = s.rd adr)
        ∧ (∀ num dr, num ∉ ([673 + 2 * x.val] : List Nat) → t.slot num dr = s.slot num dr)) ∧
  (∀ (x : Fin 2) (t0 stood : Nat) (a0 b0 a1 b1 fwd : Bool) (s : State),
      s.shSource x.val = 1 →
      s.get (F.WHEEL_SH_CFG_FILT x.val) ≤ stood →
      (s.tracker x.val).lost = false →
      (a0 = a1 ↔ b0 ≠ b1) →
      (a0 = a1 → s.get (F.WHEEL_SH_CFG_QMODE x.val) = 0) →
      (b0 = b1 → s.get (F.WHEEL_SH_CFG_QMODE x.val) = 2 → a1 = true) →
      fwd = ((if a0 = a1 then a1 == b1 else a1 != b1) != s.bit (F.WHEEL_SH_CFG_DIR_INV x.val)) →
      (s.tracker x.val).valid = true →
      ∃ t, exec (.encoderEdge x t0 stood a0 b0 a1 b1) s = .next t
        ∧ (t.tracker x.val).valid = true
        ∧ ((t.tracker x.val).n = if fwd then ((s.tracker x.val).n + 1) % s.get (F.WHEEL_SH_EDGES_E x.val) else ((s.tracker x.val).n + s.get (F.WHEEL_SH_EDGES_E x.val) - 1) % s.get (F.WHEEL_SH_EDGES_E x.val))
        ∧ ((t.tracker x.val).theta - (rawAngle (t.tracker x.val).n (s.get (F.WHEEL_SH_EDGES_E x.val)) + (s.get (F.WHEEL_SH_ZERO_ZERO x.val) : Int))) % 16777216 = 0
        ∧ (fwd = true → 0 ≤ (t.tracker x.val).theta - (s.tracker x.val).theta ∧ (t.tracker x.val).theta - (s.tracker x.val).theta < 16777216)
        ∧ (fwd = false → 0 ≤ (s.tracker x.val).theta - (t.tracker x.val).theta ∧ (s.tracker x.val).theta - (t.tracker x.val).theta < 16777216)
        ∧ (t.tracker x.val).base = (t.tracker x.val).theta
        ∧ (t.tracker x.val).reverse = !fwd
        ∧ (t.tracker x.val).stalled = false
        ∧ (t.tracker x.val).tk = t0
        ∧ (t.tracker x.val).anchor = some t0
        ∧ (t.dom x.val).edges = (s.dom x.val).edges + 1
        ∧ (137439 < (t.tracker x.val).speed ∨ (t.tracker x.val).speed < -137439 → t.bitAt (R.WHEEL_SH_STAT x.val) 4 = true ∧ t.isPending (673 + 2 * x.val) = true)
        ∧ (fwd = false → (s.tracker x.val).reverse = false → t.bit (F.WHEEL_SH_STAT_REVERSED x.val) = true ∧ t.isPending (672 + 2 * x.val) = true)
        ∧ t = { s with regs := t.regs, irq := t.irq, now := t.now, free := t.free, trackers := t.trackers, doms := t.doms }
        ∧ (∀ adr, adr ∉ (R.WHEEL_SH_STAT x.val :: coalesced : List Nat) → t.rd adr = s.rd adr)
        ∧ (∀ key, key ∉ ([x.val] : List Nat) → t.tracker key = s.tracker key)
        ∧ (∀ key, key ∉ ([x.val] : List Nat) → t.dom key = s.dom key)
        ∧ (∀ num dr, num ∉ ([672 + 2 * x.val, 673 + 2 * x.val] : List Nat) → t.slot num dr = s.slot num dr)) ∧
  (∀ (x : Fin 2) (t0 stood h0 : Nat) (th0 v0 v : Int) (a0 b0 a1 b1 : Bool) (s : State),
      s.shSource x.val = 1 →
      s.get (F.WHEEL_SH_CFG_FILT x.val) ≤ stood →
      (s.tracker x.val).lost = false →
      (a0 = a1 ↔ b0 ≠ b1) →
      (a0 = a1 → s.get (F.WHEEL_SH_CFG_QMODE x.val) = 0) →
      (b0 = b1 → s.get (F.WHEEL_SH_CFG_QMODE x.val) = 2 → a1 = true) →
      (s.tracker x.val).valid = true →
      0 < min (s.tracker x.val).j (s.shWindow x.val) →
      (s.tracker x.val).hist[min (s.tracker x.val).j (s.shWindow x.val) - 1]? = some (th0, h0, v0) →
      h0 < t0 →
      -2147483648 ≤ v →
      v ≤ 2147483647 →
      ∃ t, exec (.encoderEdge x t0 stood a0 b0 a1 b1) s = .next t
        ∧ (v = Int.tdiv (((t.tracker x.val).theta - th0) * 65536) ((t0 : Int) - h0) → (t.tracker x.val).speed = v)) ∧
  (∀ (x : Fin 2) (t0 stood : Nat) (a0 b0 a1 b1 fwd : Bool) (s : State),
      s.shSource x.val = 1 →
      s.get (F.WHEEL_SH_CFG_FILT x.val) ≤ stood →
      (s.tracker x.val).lost = false →
      (a0 = a1 ↔ b0 ≠ b1) →
      (a0 = a1 → s.get (F.WHEEL_SH_CFG_QMODE x.val) = 0) →
      (b0 = b1 → s.get (F.WHEEL_SH_CFG_QMODE x.val) = 2 → a1 = true) →
      fwd = ((if a0 = a1 then a1 == b1 else a1 != b1) != s.bit (F.WHEEL_SH_CFG_DIR_INV x.val)) →
      (s.tracker x.val).valid = false →
      s.bit (F.WHEEL_SH_CFG_INDEX_REQ x.val) = true →
      ∃ t, exec (.encoderEdge x t0 stood a0 b0 a1 b1) s = .next t
        ∧ (t.tracker x.val).valid = false
        ∧ ((t.tracker x.val).n = if fwd then ((s.tracker x.val).n + 1) % s.get (F.WHEEL_SH_EDGES_E x.val) else ((s.tracker x.val).n + s.get (F.WHEEL_SH_EDGES_E x.val) - 1) % s.get (F.WHEEL_SH_EDGES_E x.val))
        ∧ (t.tracker x.val).theta = (rawAngle (t.tracker x.val).n (s.get (F.WHEEL_SH_EDGES_E x.val)) + (s.get (F.WHEEL_SH_ZERO_ZERO x.val) : Int)) % 16777216
        ∧ (t.tracker x.val).base = (t.tracker x.val).theta
        ∧ (t.tracker x.val).reverse = !fwd
        ∧ (t.tracker x.val).stalled = false
        ∧ (t.tracker x.val).tk = t0
        ∧ (t.tracker x.val).anchor = some t0
        ∧ (t.dom x.val).edges = (s.dom x.val).edges + 1
        ∧ t = { s with regs := t.regs, irq := t.irq, now := t.now, trackers := t.trackers, doms := t.doms }
        ∧ (∀ adr, adr ∉ (R.WHEEL_SH_STAT x.val :: coalesced : List Nat) → t.rd adr = s.rd adr)
        ∧ (∀ key, key ∉ ([x.val] : List Nat) → t.tracker key = s.tracker key)
        ∧ (∀ key, key ∉ ([x.val] : List Nat) → t.dom key = s.dom key)
        ∧ (∀ num dr, num ∉ ([672 + 2 * x.val] : List Nat) → t.slot num dr = s.slot num dr)) ∧
  (∀ (x : Fin 2) (t0 stood : Nat) (a0 b0 a1 b1 fwd : Bool) (s : State),
      s.shSource x.val = 1 →
      s.get (F.WHEEL_SH_CFG_FILT x.val) ≤ stood →
      (s.tracker x.val).lost = false →
      (a0 = a1 ↔ b0 ≠ b1) →
      (a0 = a1 → s.get (F.WHEEL_SH_CFG_QMODE x.val) = 0) →
      (b0 = b1 → s.get (F.WHEEL_SH_CFG_QMODE x.val) = 2 → a1 = true) →
      fwd = ((if a0 = a1 then a1 == b1 else a1 != b1) != s.bit (F.WHEEL_SH_CFG_DIR_INV x.val)) →
      (s.tracker x.val).valid = false →
      s.bit (F.WHEEL_SH_CFG_INDEX_REQ x.val) = false →
      ∃ t, exec (.encoderEdge x t0 stood a0 b0 a1 b1) s = .next t
        ∧ (t.tracker x.val).valid = true
        ∧ ((t.tracker x.val).n = if fwd then ((s.tracker x.val).n + 1) % s.get (F.WHEEL_SH_EDGES_E x.val) else ((s.tracker x.val).n + s.get (F.WHEEL_SH_EDGES_E x.val) - 1) % s.get (F.WHEEL_SH_EDGES_E x.val))
        ∧ (t.tracker x.val).theta = (rawAngle (t.tracker x.val).n (s.get (F.WHEEL_SH_EDGES_E x.val)) + (s.get (F.WHEEL_SH_ZERO_ZERO x.val) : Int)) % 16777216
        ∧ (t.tracker x.val).tk = t0
        ∧ (t.dom x.val).edges = (s.dom x.val).edges + 1
        ∧ (t.dom x.val).lp = t.domAngle x.val t0 + (t.dom x.val).lead
        ∧ t = { s with regs := t.regs, irq := t.irq, now := t.now, free := t.free, trackers := t.trackers, doms := t.doms }
        ∧ (∀ adr, adr ∉ (R.WHEEL_SH_STAT x.val :: coalesced : List Nat) → t.rd adr = s.rd adr)
        ∧ (∀ key, key ∉ ([x.val] : List Nat) → t.tracker key = s.tracker key)
        ∧ (∀ key, key ∉ ([x.val] : List Nat) → t.dom key = s.dom key)
        ∧ (∀ num dr, num ∉ ([672 + 2 * x.val, 673 + 2 * x.val] : List Nat) → t.slot num dr = s.slot num dr)) ∧
  (∀ (x : Fin 2) (t0 stood : Nat) (a0 b0 a1 b1 : Bool) (s : State),
      ((a0 = a1 ∧ b0 = b1) ∨ (a0 = a1 ∧ b0 ≠ b1 ∧ s.get (F.WHEEL_SH_CFG_QMODE x.val) ≠ 0) ∨ (a0 ≠ a1 ∧ b0 = b1 ∧ s.get (F.WHEEL_SH_CFG_QMODE x.val) = 2 ∧ a1 = false)) →
      ∃ t, exec (.encoderEdge x t0 stood a0 b0 a1 b1) s = .next t
        ∧ t = { s with now := max s.now t0 }) ∧
  (∀ (x : Fin 2) (t0 stood : Nat) (a0 b0 a1 b1 : Bool) (s : State),
      (s.shSource x.val ≠ 1 ∨ stood < s.get (F.WHEEL_SH_CFG_FILT x.val) ∨ (s.tracker x.val).lost = true) →
      ∃ t, exec (.encoderEdge x t0 stood a0 b0 a1 b1) s = .next t
        ∧ t = { s with now := max s.now t0 }) ∧
  (∀ (x : Fin 2) (t0 : Nat) (s : State),
      s.shSource x.val = 1 →
      (s.tracker x.val).reverse = false →
      (s.tracker x.val).valid = true →
      (s.tracker x.val).n ≠ 0 →
      ∃ t, exec (.indexPulse x t0) s = .next t
        ∧ (t.tracker x.val).n = 0
        ∧ ((t.tracker x.val).theta = (s.tracker x.val).theta - rawAngle (s.tracker x.val).n (s.get (F.WHEEL_SH_EDGES_E x.val)) + (if (s.tracker x.val).n ≤ s.get (F.WHEEL_SH_EDGES_E x.val) / 2 then 0 else 16777216))
        ∧ t.rdN (R.WHEEL_SH_INDEX_SLIP x.val) = min 0xFFFFFFFF (s.rdN (R.WHEEL_SH_INDEX_SLIP x.val) + 1)
        ∧ t.isPending (676 + x.val) = true
        ∧ t.isPending (673 + 2 * x.val) = true
        ∧ t.bitAt (R.WHEEL_SH_STAT x.val) 2 = true
        ∧ t = { s with regs := t.regs, irq := t.irq, now := t.now, trackers := t.trackers, doms := t.doms }
        ∧ (∀ adr, adr ∉ (R.WHEEL_SH_INDEX_SLIP x.val :: R.WHEEL_SH_STAT x.val :: coalesced : List Nat) → t.rd adr = s.rd adr)
        ∧ (∀ key, key ∉ ([x.val] : List Nat) → t.tracker key = s.tracker key)
        ∧ (∀ key, key ∉ ([x.val] : List Nat) → t.dom key = s.dom key)
        ∧ (∀ num dr, num ∉ ([676 + x.val, 673 + 2 * x.val] : List Nat) → t.slot num dr = s.slot num dr)) ∧
  (∀ (x : Fin 2) (t0 : Nat) (s : State),
      s.shSource x.val = 1 →
      (s.tracker x.val).reverse = false →
      (s.tracker x.val).valid = false →
      s.bit (F.WHEEL_SH_CFG_INDEX_REQ x.val) = true →
      ∃ t, exec (.indexPulse x t0) s = .next t
        ∧ (t.tracker x.val).valid = true
        ∧ (t.tracker x.val).n = 0
        ∧ (t.tracker x.val).theta = (s.get (F.WHEEL_SH_ZERO_ZERO x.val) : Int)
        ∧ t.isPending (676 + x.val) = true
        ∧ t = { s with regs := t.regs, irq := t.irq, now := t.now, trackers := t.trackers, doms := t.doms }
        ∧ (∀ adr, adr ∉ (coalesced : List Nat) → t.rd adr = s.rd adr)
        ∧ (∀ key, key ∉ ([x.val] : List Nat) → t.tracker key = s.tracker key)
        ∧ (∀ key, key ∉ ([x.val] : List Nat) → t.dom key = s.dom key)
        ∧ (∀ num dr, num ∉ ([676 + x.val] : List Nat) → t.slot num dr = s.slot num dr)) ∧
  (∀ (x : Fin 2) (t0 : Nat) (s : State),
      s.shSource x.val = 1 →
      (s.tracker x.val).reverse = false →
      (((s.tracker x.val).valid = true ∧ (s.tracker x.val).n = 0) ∨ ((s.tracker x.val).valid = false ∧ s.bit (F.WHEEL_SH_CFG_INDEX_REQ x.val) = false)) →
      ∃ t, exec (.indexPulse x t0) s = .next t
        ∧ t.isPending (676 + x.val) = true
        ∧ t = { s with regs := t.regs, irq := t.irq, now := max s.now t0 }
        ∧ (∀ adr, adr ∉ (coalesced : List Nat) → t.rd adr = s.rd adr)
        ∧ (∀ num dr, num ∉ ([676 + x.val] : List Nat) → t.slot num dr = s.slot num dr)) ∧
  (∀ (x : Fin 2) (t0 : Nat) (s : State),
      (s.shSource x.val ≠ 1 ∨ (s.tracker x.val).reverse = true) →
      ∃ t, exec (.indexPulse x t0) s = .next t
        ∧ t = { s with now := max s.now t0 }) ∧
  (∀ (x : Fin 2) (t0 : Nat) (s : State),
      s.shSource x.val ≠ 0 →
      (s.tracker x.val).stalled = false →
      ((s.tracker x.val).anchor.any (fun a => a + s.get (F.WHEEL_SH_STALL_US x.val) * 400 ≤ t0) = true) →
      ∃ t, exec (.trackerStall x t0) s = .next t
        ∧ (t.tracker x.val).stalled = true
        ∧ (t.tracker x.val).speed = 0
        ∧ (t.tracker x.val).accel = 0
        ∧ (t.tracker x.val).base = s.shaftPos x.val t0
        ∧ (t.dom x.val).lead = 0
        ∧ t.bitAt (R.WHEEL_SH_STAT x.val) 3 = true
        ∧ t.isPending (673 + 2 * x.val) = true
        ∧ (t.bitAt (R.WHEEL_SH_STAT x.val) 7 = (s.bitAt (R.WHEEL_SH_STAT x.val) 7 || (s.shSource x.val == 3 && !(s.tracker x.val).silent && (s.tracker x.val).heardAt.any (fun h => h + s.get (F.WHEEL_SH_STALL_US x.val) * 400 ≤ t0))))
        ∧ t = { s with regs := t.regs, irq := t.irq, now := t.now, trackers := t.trackers, doms := t.doms }
        ∧ (∀ adr, adr ∉ (R.WHEEL_SH_STAT x.val :: coalesced : List Nat) → t.rd adr = s.rd adr)
        ∧ (∀ key, key ∉ ([x.val] : List Nat) → t.tracker key = s.tracker key)
        ∧ (∀ key, key ∉ ([x.val] : List Nat) → t.dom key = s.dom key)
        ∧ (∀ num dr, num ∉ ([673 + 2 * x.val] : List Nat) → t.slot num dr = s.slot num dr)) ∧
  (∀ (x : Fin 2) (t0 : Nat) (s : State),
      (s.shSource x.val = 0 ∨ (s.tracker x.val).stalled = true ∨ (s.tracker x.val).anchor.all (fun a => t0 < a + s.get (F.WHEEL_SH_STALL_US x.val) * 400) = true) →
      ∃ t, exec (.trackerStall x t0) s = .next t
        ∧ (t.bitAt (R.WHEEL_SH_STAT x.val) 7 = (s.bitAt (R.WHEEL_SH_STAT x.val) 7 || ((s.tracker x.val).anchor.isSome && s.shSource x.val == 3 && !(s.tracker x.val).silent && (s.tracker x.val).heardAt.any (fun h => h + s.get (F.WHEEL_SH_STALL_US x.val) * 400 ≤ t0))))
        ∧ (s.shSource x.val ≠ 3 → t = { s with now := max s.now t0 })
        ∧ t = { s with regs := t.regs, irq := t.irq, now := t.now, trackers := t.trackers }
        ∧ (∀ adr, adr ∉ (R.WHEEL_SH_STAT x.val :: coalesced : List Nat) → t.rd adr = s.rd adr)
        ∧ (∀ key, key ∉ ([x.val] : List Nat) → t.tracker key = s.tracker key)
        ∧ (∀ num dr, num ∉ ([673 + 2 * x.val] : List Nat) → t.slot num dr = s.slot num dr)) ∧
  (∀ (x : Fin 2) (s : State),
      ∃ t, exec (.receiverPairLoss x true) s = .next t
        ∧ t.tracker x.val = { s.tracker x.val with lost := true }
        ∧ t.bitAt (R.WHEEL_SH_STAT x.val) 5 = true
        ∧ t.isPending (673 + 2 * x.val) = true
        ∧ t = { s with regs := t.regs, irq := t.irq, trackers := t.trackers }
        ∧ (∀ adr, adr ∉ (R.WHEEL_SH_STAT x.val :: coalesced : List Nat) → t.rd adr = s.rd adr)
        ∧ (∀ key, key ∉ ([x.val] : List Nat) → t.tracker key = s.tracker key)
        ∧ (∀ num dr, num ∉ ([673 + 2 * x.val] : List Nat) → t.slot num dr = s.slot num dr)) ∧
  (∀ (x : Fin 2) (s : State),
      ∃ t, exec (.receiverPairLoss x false) s = .next t
        ∧ t.tracker x.val = { s.tracker x.val with lost := false }
        ∧ t = { s with trackers := t.trackers }
        ∧ (∀ key, key ∉ ([x.val] : List Nat) → t.tracker key = s.tracker key))

/-- SSI samples, the tick of domain T, and the writes that configure trackers and domains (parts of R8, R45, R46, R52, R54, R56, R61, R62, R63, R64, R85, R167). An SSI tracker takes a sample when its source in force is SSI, a word is due by PERIOD and no receiver pair is lost. A register write takes what the access codes of its fields give, and is answered PARAM, and logged, where it meets a reserved encoding. Registers, sources and units that a clause does not name stay as they are. (1) SSI_SAMPLE on a tracker that is not valid: it is valid at the angle of the word and REV 0, stamped, and counted for its domain. (2) On a valid tracker, a sample whose step differs from the predicted one by no more than 262,144 units is accepted: the angle moves by the step of less than half a revolution to that of the word, the count of discards is 0. (3) The first and the second in a row that differ by more are discarded: SSI_DISCARD counts one and the angle stays. (4) The third in a row is accepted, and SSI_JUMP is set and raised. (5) A tracker that takes no sample then: wheel time only. (6) TRACKER_CFG_WRITE of CFG, EDGES or ZERO that changes SRC, QMODE, E or ZERO: the register takes the write; the tracker is not valid, holds ANGLE and starts afresh, with no speed, no stall, no direction and no stamp; its domain has lead 0 and no high-water position. (7) One that changes none of the four: the register takes the write, and nothing restarts. (8) T_TICK when domain T runs and its tick is over: one bin on, the next tick begins where this one ended, with the length TICK_CYC now has; counted for the domain. (9) When it does not run or its tick is not over: wheel time only. (10) T_CFG_WRITE that leaves RUN 1 with a valid tick length in a domain T that did not run, START_SYNC 0: it starts now at angle 0, with that tick length. (11) With START_SYNC 1: it waits for a rising edge of SYNC. (12) One that ends RUN: domain T holds the angle it has reached. (13) One after which it runs as before, or stands as before: the register only. (14) LANE_DOM_WRITE while drains are held: the register takes the word. (15) At any other time a word that differs sets DOM_LOCKED and the register stays. (16) One that equals the register changes nothing but the answer. (17) DOM_HW_RESET of a valid domain while drains are on or held: its high-water position is its lead point's. (18) While drains are stopped, or of a domain that is not valid: nothing but the answer. Readings and choices of the model that it rests on: log entries 146, 147, 148, 151, 152. -/
def Obligations.ShaftSamplesAndTicks : Prop :=
  (∀ (x : Fin 2) (t0 word : Nat) (s : State),
      s.shSource x.val = 2 →
      s.ssiDue x.val t0 = true →
      (s.tracker x.val).lost = false →
      (s.tracker x.val).valid = false →
      ∃ t, exec (.ssiSample x t0 word) s = .next t
        ∧ (t.tracker x.val).valid = true
        ∧ (t.tracker x.val).theta = s.ssiAngle x.val word
        ∧ (t.tracker x.val).tk = t0
        ∧ (t.tracker x.val).sampleAt = some t0
        ∧ (t.dom x.val).edges = (s.dom x.val).edges + 1
        ∧ t = { s with regs := t.regs, irq := t.irq, now := t.now, free := t.free, trackers := t.trackers, doms := t.doms }
        ∧ (∀ adr, adr ∉ (R.WHEEL_SH_STAT x.val :: coalesced : List Nat) → t.rd adr = s.rd adr)
        ∧ (∀ key, key ∉ ([x.val] : List Nat) → t.tracker key = s.tracker key)
        ∧ (∀ key, key ∉ ([x.val] : List Nat) → t.dom key = s.dom key)
        ∧ (∀ num dr, num ∉ ([673 + 2 * x.val] : List Nat) → t.slot num dr = s.slot num dr)) ∧
  (∀ (x : Fin 2) (t0 word : Nat) (s : State),
      s.shSource x.val = 2 →
      s.ssiDue x.val t0 = true →
      (s.tracker x.val).lost = false →
      (s.tracker x.val).valid = true →
      -262144 ≤ s.ssiMiss x.val word t0 →
      s.ssiMiss x.val word t0 ≤ 262144 →
      ∃ t, exec (.ssiSample x t0 word) s = .next t
        ∧ (t.tracker x.val).theta = (s.tracker x.val).theta + halfStep (s.ssiAngle x.val word - (s.tracker x.val).theta)
        ∧ (t.tracker x.val).discards = 0
        ∧ (t.tracker x.val).tk = t0
        ∧ (t.tracker x.val).sampleAt = some t0
        ∧ (t.tracker x.val).stalled = false
        ∧ (t.dom x.val).edges = (s.dom x.val).edges + 1
        ∧ t = { s with regs := t.regs, irq := t.irq, now := t.now, free := t.free, trackers := t.trackers, doms := t.doms }
        ∧ (∀ adr, adr ∉ (R.WHEEL_SH_STAT x.val :: coalesced : List Nat) → t.rd adr = s.rd adr)
        ∧ (∀ key, key ∉ ([x.val] : List Nat) → t.tracker key = s.tracker key)
        ∧ (∀ key, key ∉ ([x.val] : List Nat) → t.dom key = s.dom key)
        ∧ (∀ num dr, num ∉ ([672 + 2 * x.val, 673 + 2 * x.val] : List Nat) → t.slot num dr = s.slot num dr)) ∧
  (∀ (x : Fin 2) (t0 word : Nat) (s : State),
      s.shSource x.val = 2 →
      s.ssiDue x.val t0 = true →
      (s.tracker x.val).lost = false →
      (s.tracker x.val).valid = true →
      (s.ssiMiss x.val word t0 < -262144 ∨ 262144 < s.ssiMiss x.val word t0) →
      (s.tracker x.val).discards < 2 →
      ∃ t, exec (.ssiSample x t0 word) s = .next t
        ∧ t.tracker x.val = { s.tracker x.val with discards := (s.tracker x.val).discards + 1, sampleAt := some t0 }
        ∧ t.rdN (R.WHEEL_SH_SSI_DISCARD x.val) = min 0xFFFFFFFF (s.rdN (R.WHEEL_SH_SSI_DISCARD x.val) + 1)
        ∧ t = { s with regs := t.regs, now := t.now, trackers := t.trackers }
        ∧ (∀ adr, adr ∉ ([R.WHEEL_SH_SSI_DISCARD x.val] : List Nat) → t.rd adr = s.rd adr)
        ∧ (∀ key, key ∉ ([x.val] : List Nat) → t.tracker key = s.tracker key)) ∧
  (∀ (x : Fin 2) (t0 word : Nat) (s : State),
      s.shSource x.val = 2 →
      s.ssiDue x.val t0 = true →
      (s.tracker x.val).lost = false →
      (s.tracker x.val).valid = true →
      (s.ssiMiss x.val word t0 < -262144 ∨ 262144 < s.ssiMiss x.val word t0) →
      2 ≤ (s.tracker x.val).discards →
      ∃ t, exec (.ssiSample x t0 word) s = .next t
        ∧ (t.tracker x.val).discards = 0
        ∧ (t.tracker x.val).theta = (s.tracker x.val).theta + halfStep (s.ssiAngle x.val word - (s.tracker x.val).theta)
        ∧ t.bitAt (R.WHEEL_SH_STAT x.val) 6 = true
        ∧ t.isPending (673 + 2 * x.val) = true
        ∧ t = { s with regs := t.regs, irq := t.irq, now := t.now, free := t.free, trackers := t.trackers, doms := t.doms }
        ∧ (∀ adr, adr ∉ (R.WHEEL_SH_STAT x.val :: coalesced : List Nat) → t.rd adr = s.rd adr)
        ∧ (∀ key, key ∉ ([x.val] : List Nat) → t.tracker key = s.tracker key)
        ∧ (∀ key, key ∉ ([x.val] : List Nat) → t.dom key = s.dom key)
        ∧ (∀ num dr, num ∉ ([672 + 2 * x.val, 673 + 2 * x.val] : List Nat) → t.slot num dr = s.slot num dr)) ∧
  (∀ (x : Fin 2) (t0 word : Nat) (s : State),
      (s.shSource x.val ≠ 2 ∨ s.ssiDue x.val t0 = false ∨ (s.tracker x.val).lost = true) →
      ∃ t, exec (.ssiSample x t0 word) s = .next t
        ∧ t = { s with now := max s.now t0 }) ∧
  (∀ (ini : Initiator) (x : Fin 2) (reg : Fin 3) (v : BitVec 32) (s : State),
      s.sends ini true (trackerReg x reg) = true →
      ((reg = 0 ∧ bitsOf (s.rd (trackerReg x reg)) 31 28 ≠ bitsOf (s.written (trackerReg x reg) v).1 31 28) ∨ (reg ≠ 0 ∧ s.rd (trackerReg x reg) ≠ (s.written (trackerReg x reg) v).1)) →
      (reg = 1 → bitsOf (s.rd (trackerReg x reg)) 18 0 ≠ bitsOf (s.written (trackerReg x reg) v).1 18 0) →
      (reg = 2 → bitsOf (s.rd (trackerReg x reg)) 23 0 ≠ bitsOf (s.written (trackerReg x reg) v).1 23 0) →
      ∃ t, exec (.trackerCfgWrite ini x reg v) s = .next t
        ∧ t.respCode ini = (if (s.written (trackerReg x reg) v).2 then 2 else 0)
        ∧ t.rd (trackerReg x reg) = (s.written (trackerReg x reg) v).1
        ∧ t.tracker x.val = { ({} : Tracker) with theta := s.shaftPos x.val s.now % 16777216, base := s.shaftPos x.val s.now % 16777216, baseT := s.now, lost := (s.tracker x.val).lost }
        ∧ (t.dom x.val).lead = 0
        ∧ (t.dom x.val).hw = none
        ∧ t = { s with regs := t.regs, spine := t.spine, berrAt := t.berrAt, engines := t.engines, sec := t.sec, trackers := t.trackers, doms := t.doms }
        ∧ (∀ adr, adr ∉ (trackerReg x reg :: if (s.written (trackerReg x reg) v).2 then berrRegs else [] : List Nat) → t.rd adr = s.rd adr)
        ∧ (∀ key, key ∉ ([x.val] : List Nat) → t.tracker key = s.tracker key)
        ∧ (∀ key, key ∉ ([x.val] : List Nat) → t.dom key = s.dom key)
        ∧ (∀ key, key ∉ (iniEngines ini : List Nat) → t.engine key = s.engine key)) ∧
  (∀ (ini : Initiator) (x : Fin 2) (reg : Fin 3) (v : BitVec 32) (s : State),
      s.sends ini true (trackerReg x reg) = true →
      (reg = 0 → bitsOf (s.rd (trackerReg x reg)) 31 28 = bitsOf (s.written (trackerReg x reg) v).1 31 28) →
      (reg = 1 → bitsOf (s.rd (trackerReg x reg)) 18 0 = bitsOf (s.written (trackerReg x reg) v).1 18 0) →
      (reg = 2 → bitsOf (s.rd (trackerReg x reg)) 23 0 = bitsOf (s.written (trackerReg x reg) v).1 23 0) →
      ∃ t, exec (.trackerCfgWrite ini x reg v) s = .next t
        ∧ t.respCode ini = (if (s.written (trackerReg x reg) v).2 then 2 else 0)
        ∧ t.rd (trackerReg x reg) = (s.written (trackerReg x reg) v).1
        ∧ t = { s with regs := t.regs, spine := t.spine, berrAt := t.berrAt, engines := t.engines, sec := t.sec }
        ∧ (∀ adr, adr ∉ (trackerReg x reg :: if (s.written (trackerReg x reg) v).2 then berrRegs else [] : List Nat) → t.rd adr = s.rd adr)
        ∧ (∀ key, key ∉ (iniEngines ini : List Nat) → t.engine key = s.engine key)) ∧
  (∀ (t0 : Nat) (s : State),
      s.tRuns = true →
      s.tick.started = true →
      s.tick.last + s.tick.len ≤ t0 →
      ∃ t, exec (.tTick t0) s = .next t
        ∧ t.tick = { s.tick with count := s.tick.count + 1, last := s.tick.last + s.tick.len, len := s.get F.WHEEL_T_CFG_TICK_CYC }
        ∧ t.now = max s.now t0
        ∧ (t.dom 2).edges = (s.dom 2).edges + 1
        ∧ t = { s with now := t.now, tick := t.tick, doms := t.doms }
        ∧ (∀ key, key ∉ ([2] : List Nat) → t.dom key = s.dom key)) ∧
  (∀ (t0 : Nat) (s : State),
      (s.tRuns = false ∨ s.tick.started = false ∨ t0 < s.tick.last + s.tick.len) →
      ∃ t, exec (.tTick t0) s = .next t
        ∧ t = { s with now := max s.now t0 }) ∧
  (∀ (ini : Initiator) (v : BitVec 32) (s : State),
      s.sends ini true R.WHEEL_T_CFG = true →
      s.tRuns = false →
      (s.mergeWrite R.WHEEL_T_CFG v).1.tRuns = true →
      (s.mergeWrite R.WHEEL_T_CFG v).1.bit F.WHEEL_T_CFG_START_SYNC = false →
      ∃ t, exec (.tCfgWrite ini v) s = .next t
        ∧ t.respCode ini = (if (s.written R.WHEEL_T_CFG v).2 then 2 else 0)
        ∧ t.rd R.WHEEL_T_CFG = (s.written R.WHEEL_T_CFG v).1
        ∧ t.tick = { s.tick with started := true, armed := false, count := 0, last := s.now, start := s.now, len := t.get F.WHEEL_T_CFG_TICK_CYC, held := 0 }
        ∧ t.tPos s.now = 0
        ∧ t = { s with regs := t.regs, spine := t.spine, berrAt := t.berrAt, engines := t.engines, sec := t.sec, tick := t.tick, doms := t.doms }
        ∧ (∀ adr, adr ∉ (R.WHEEL_T_CFG :: if (s.written R.WHEEL_T_CFG v).2 then berrRegs else [] : List Nat) → t.rd adr = s.rd adr)
        ∧ (∀ key, key ∉ ([2] : List Nat) → t.dom key = s.dom key)
        ∧ (∀ key, key ∉ (iniEngines ini : List Nat) → t.engine key = s.engine key)) ∧
  (∀ (ini : Initiator) (v : BitVec 32) (s : State),
      s.sends ini true R.WHEEL_T_CFG = true →
      s.tRuns = false →
      (s.mergeWrite R.WHEEL_T_CFG v).1.tRuns = true →
      (s.mergeWrite R.WHEEL_T_CFG v).1.bit F.WHEEL_T_CFG_START_SYNC = true →
      ∃ t, exec (.tCfgWrite ini v) s = .next t
        ∧ t.respCode ini = (if (s.written R.WHEEL_T_CFG v).2 then 2 else 0)
        ∧ t.rd R.WHEEL_T_CFG = (s.written R.WHEEL_T_CFG v).1
        ∧ t.tick = { s.tick with started := false, armed := true }
        ∧ t = { s with regs := t.regs, spine := t.spine, berrAt := t.berrAt, engines := t.engines, sec := t.sec, tick := t.tick }
        ∧ (∀ adr, adr ∉ (R.WHEEL_T_CFG :: if (s.written R.WHEEL_T_CFG v).2 then berrRegs else [] : List Nat) → t.rd adr = s.rd adr)
        ∧ (∀ key, key ∉ (iniEngines ini : List Nat) → t.engine key = s.engine key)) ∧
  (∀ (ini : Initiator) (v : BitVec 32) (s : State),
      s.sends ini true R.WHEEL_T_CFG = true →
      s.tRuns = true →
      (s.mergeWrite R.WHEEL_T_CFG v).1.tRuns = false →
      ∃ t, exec (.tCfgWrite ini v) s = .next t
        ∧ t.respCode ini = (if (s.written R.WHEEL_T_CFG v).2 then 2 else 0)
        ∧ t.rd R.WHEEL_T_CFG = (s.written R.WHEEL_T_CFG v).1
        ∧ t.tick = { s.tick with held := s.tPos s.now, armed := false }
        ∧ (t.dom 2).lead = 0
        ∧ t = { s with regs := t.regs, spine := t.spine, berrAt := t.berrAt, engines := t.engines, sec := t.sec, tick := t.tick, doms := t.doms }
        ∧ (∀ adr, adr ∉ (R.WHEEL_T_CFG :: if (s.written R.WHEEL_T_CFG v).2 then berrRegs else [] : List Nat) → t.rd adr = s.rd adr)
        ∧ (∀ key, key ∉ ([2] : List Nat) → t.dom key = s.dom key)
        ∧ (∀ key, key ∉ (iniEngines ini : List Nat) → t.engine key = s.engine key)) ∧
  (∀ (ini : Initiator) (v : BitVec 32) (s : State),
      s.sends ini true R.WHEEL_T_CFG = true →
      (s.mergeWrite R.WHEEL_T_CFG v).1.tRuns = s.tRuns →
      ∃ t, exec (.tCfgWrite ini v) s = .next t
        ∧ t.respCode ini = (if (s.written R.WHEEL_T_CFG v).2 then 2 else 0)
        ∧ t.rd R.WHEEL_T_CFG = (s.written R.WHEEL_T_CFG v).1
        ∧ t = { s with regs := t.regs, spine := t.spine, berrAt := t.berrAt, engines := t.engines, sec := t.sec }
        ∧ (∀ adr, adr ∉ (R.WHEEL_T_CFG :: if (s.written R.WHEEL_T_CFG v).2 then berrRegs else [] : List Nat) → t.rd adr = s.rd adr)
        ∧ (∀ key, key ∉ (iniEngines ini : List Nat) → t.engine key = s.engine key)) ∧
  (∀ (ini : Initiator) (k : Fin 16) (v : BitVec 32) (s : State),
      s.sends ini true (R.WHEEL_LANE_DOM k.val) = true →
      s.drainState = 1 →
      ∃ t, exec (.laneDomWrite ini k v) s = .next t
        ∧ t.respCode ini = 0
        ∧ t.rd (R.WHEEL_LANE_DOM k.val) = v
        ∧ t = { s with regs := t.regs, spine := t.spine, sec := t.sec }
        ∧ (∀ adr, adr ∉ ([R.WHEEL_LANE_DOM k.val] : List Nat) → t.rd adr = s.rd adr)) ∧
  (∀ (ini : Initiator) (k : Fin 16) (v : BitVec 32) (s : State),
      s.sends ini true (R.WHEEL_LANE_DOM k.val) = true →
      s.drainState ≠ 1 →
      s.rd (R.WHEEL_LANE_DOM k.val) ≠ v →
      ∃ t, exec (.laneDomWrite ini k v) s = .next t
        ∧ t.respCode ini = 0
        ∧ t.bit F.WHEEL_STAT_DOM_LOCKED = true
        ∧ t.rd (R.WHEEL_LANE_DOM k.val) = s.rd (R.WHEEL_LANE_DOM k.val)
        ∧ t = { s with regs := t.regs, spine := t.spine, sec := t.sec }
        ∧ (∀ adr, adr ∉ ([R.WHEEL_STAT] : List Nat) → t.rd adr = s.rd adr)) ∧
  (∀ (ini : Initiator) (k : Fin 16) (s : State),
      s.sends ini true (R.WHEEL_LANE_DOM k.val) = true →
      ∃ t, exec (.laneDomWrite ini k (s.rd (R.WHEEL_LANE_DOM k.val))) s = .next t
        ∧ t.respCode ini = 0
        ∧ t = { s with spine := t.spine, sec := t.sec }) ∧
  (∀ (ini : Initiator) (d : Fin 3) (s : State),
      s.sends ini true (R.WHEEL_DOM_CTL d.val) = true →
      s.drainState ≠ 0 →
      s.domValid d.val = true →
      ∃ t, exec (.domHwReset ini d) s = .next t
        ∧ t.respCode ini = 0
        ∧ (t.dom d.val) = { s.dom d.val with hw := some (posOf (s.lpAt d.val s.now)) }
        ∧ t = { s with regs := t.regs, spine := t.spine, sec := t.sec, doms := t.doms }
        ∧ (∀ adr, adr ∉ ([] : List Nat) → t.rd adr = s.rd adr)
        ∧ (∀ key, key ∉ ([d.val] : List Nat) → t.dom key = s.dom key)) ∧
  (∀ (ini : Initiator) (d : Fin 3) (s : State),
      s.sends ini true (R.WHEEL_DOM_CTL d.val) = true →
      (s.drainState = 0 ∨ s.domValid d.val = false) →
      ∃ t, exec (.domHwReset ini d) s = .next t
        ∧ t.respCode ini = 0
        ∧ t = { s with regs := t.regs, spine := t.spine, sec := t.sec }
        ∧ (∀ adr, adr ∉ ([] : List Nat) → t.rd adr = s.rd adr))

/-- An insert enters its port's FIFO or is answered BUSY, and the wheel turns away what it cannot take (parts of R72, R73, R75, R76, R77, R78, R79, R94, R97, R328). Where a clause gives an insert's answer, the code goes back to its source as R78 lays down (State.answers). What a clause does not name stays. (1) WHEEL_INSERT_OFFER of an event of session x while the FIFO of port 4 holds fewer than 8 and no insert waits for it: the insert joins that FIFO. (2) The same of the chain at port 5, where no earlier chain event waits for its credit. (3) While the FIFO of port 4 holds 8, the offer of a session counts BUSY and waits outside it, in order. (4) A fabric port p whose OFFER toggles at the edge that begins micro-step m, with fewer than 8 in the FIFO of port 8 + p: the insert that the port's lanes show in that micro-step (event in words 0-3, BIN in 4, LANE in 5) joins it, at that time. (5) With 8 in that FIFO: BUSY is counted and the port's result lines show code 3. (6) Where OFFER does not toggle at that edge nothing is offered. (7) INS_EV_HI written by a drone that runs offers the insert of its registers at its own port: it joins the FIFO while that holds fewer than 8. (8) With 8 in it: BUSY is counted and INS_STAT.CODE is 3. (9) WHEEL_INSERT with every FIFO empty does nothing. (10) WHEEL_INSERT of the insert i at the head of the next FIFO, port p, turned away: code 12 while the wheel is not ready, else 9 in a lane of no domain, 10 with ACT 12-14, 11 while its lane is flushed. It leaves the FIFO, is counted in PORTp_REJECTED, recorded in PORTp_LAST, raised as 685 (775 too at port 5), and answered. (11) The same of an insert that a ready wheel judges and that names a domain with high-water position h, a lane not flushed and no reserved ACT, d = (HWbin - bin) mod 4,096: IMMEDIATE in a closed bin (d below 2,048) is 5 while drains are held or the domain is in reverse or stalled, else 4 beyond LATE_TOL; any other insert is 6 with no entry free, 7 with no more free than POOL_RESERVE at a port without privilege, 8 into a queue of 4,095 events. (12) IMMEDIATE in a closed bin of a domain whose drains are on and that neither turns backward nor stands, d at most LATE_TOL, with room in the drain input of its lane's pair: the event is handed over with IMMEDIATE 1 and the position h - d, counted in PORTp_ACCEPTED and answered 2; with NOTIFY 1 an entry joins the notify FIFO, where it has room. Readings and choices of the model that it rests on: log entries 21, 39, 40, 168. -/
def Obligations.InsertOffers : Prop :=
  (∀ (x : Fin 256) (txn : Nat) (lane : Fin 256) (bin : Fin 4096) (ev : BitVec 64) (s : State),
      (s.portFifo 4).length < 8 →
      s.portWaiting 4 = [] →
      ∃ t, exec (.wheelInsertOffer (.ivwyn x txn lane bin ev)) s = .next t
        ∧ t.portFifo 4 = s.portFifo 4 ++ [⟨lane.val, bin.val, ev, .ivwyn x txn⟩]
        ∧ t = { s with wheel := { s.wheel with ports := t.wheel.ports } }
        ∧ (∀ key, key ∉ ([4] : List Nat) → t.portFifo key = s.portFifo key)) ∧
  (∀ (lane : Fin 256) (bin : Fin 4096) (ev : BitVec 64) (s : State),
      (s.portFifo 5).length < 8 →
      s.portWaiting 5 = [] →
      s.emn.evtPorts = [] →
      ∃ t, exec (.wheelInsertOffer (.chain lane bin ev)) s = .next t
        ∧ t.portFifo 5 = s.portFifo 5 ++ [⟨lane.val, bin.val, ev, .chain⟩]
        ∧ t = { s with wheel := { s.wheel with ports := t.wheel.ports } }
        ∧ (∀ key, key ∉ ([5] : List Nat) → t.portFifo key = s.portFifo key)) ∧
  (∀ (x : Fin 256) (txn : Nat) (lane : Fin 256) (bin : Fin 4096) (ev : BitVec 64) (s : State),
      8 ≤ (s.portFifo 4).length →
      ∃ t, exec (.wheelInsertOffer (.ivwyn x txn lane bin ev)) s = .next t
        ∧ t.rdN (R.WHEEL_PORT_BUSY 4) = min 0xFFFFFFFF (s.rdN (R.WHEEL_PORT_BUSY 4) + 1)
        ∧ t.portWaiting 4 = s.portWaiting 4 ++ [⟨lane.val, bin.val, ev, .ivwyn x txn⟩]
        ∧ t = { s with regs := t.regs, wheel := { s.wheel with waiting := t.wheel.waiting } }
        ∧ (∀ adr, adr ∉ ([R.WHEEL_PORT_BUSY 4] : List Nat) → t.rd adr = s.rd adr)
        ∧ (∀ key, key ∉ ([4] : List Nat) → t.portWaiting key = s.portWaiting key)) ∧
  (∀ (p : Fin 16) (m : Nat) (s : State),
      (s.at_ (s.stepTime m)).rimToggles m 3 0 (16 * p.val + 5) 15 = true →
      (s.portFifo (8 + p.val)).length < 8 →
      ∃ t, exec (.wheelInsertOffer (.fabric p m)) s = .next t
        ∧ t.portFifo (8 + p.val) = s.portFifo (8 + p.val) ++ [⟨((s.at_ (s.stepTime m)).rimOut m 3 0 (16 * p.val + 5)).toNat % 256, ((s.at_ (s.stepTime m)).rimOut m 3 0 (16 * p.val + 4)).toNat % 4096, BitVec.ofNat 64 ((s.at_ (s.stepTime m)).rimWest m (16 * p.val) 4), .fabric p⟩]
        ∧ t.now = max s.now (s.stepTime m)
        ∧ t = { s with now := t.now, wheel := { s.wheel with ports := t.wheel.ports } }
        ∧ (∀ key, key ∉ ([8 + p.val] : List Nat) → t.portFifo key = s.portFifo key)) ∧
  (∀ (p : Fin 16) (m : Nat) (s : State),
      (s.at_ (s.stepTime m)).rimToggles m 3 0 (16 * p.val + 5) 15 = true →
      8 ≤ (s.portFifo (8 + p.val)).length →
      ∃ t, exec (.wheelInsertOffer (.fabric p m)) s = .next t
        ∧ t.rdN (R.WHEEL_PORT_BUSY (8 + p.val)) = min 0xFFFFFFFF (s.rdN (R.WHEEL_PORT_BUSY (8 + p.val)) + 1)
        ∧ Sparse.get (fun _ => 0) t.wheel.results p.val = (Sparse.get (fun _ => 0) s.wheel.results p.val / 16 + 1) % 4096 * 16 + 3
        ∧ t.now = max s.now (s.stepTime m)
        ∧ t = { s with regs := t.regs, now := t.now, wheel := { s.wheel with results := t.wheel.results } }
        ∧ (∀ adr, adr ∉ ([R.WHEEL_PORT_BUSY (8 + p.val)] : List Nat) → t.rd adr = s.rd adr)
        ∧ (∀ key, key ∉ ([p.val] : List Nat) → Sparse.get (fun _ => 0) t.wheel.results key = Sparse.get (fun _ => 0) s.wheel.results key)) ∧
  (∀ (p : Fin 16) (m : Nat) (s : State),
      (s.at_ (s.stepTime m)).rimToggles m 3 0 (16 * p.val + 5) 15 = false →
      ∃ t, exec (.wheelInsertOffer (.fabric p m)) s = .next t
        ∧ t.now = max s.now (s.stepTime m)
        ∧ t = { s with now := t.now }) ∧
  (∀ (d : Fin 4) (v : BitVec 32) (s : State),
      s.sends (.drone d) true R.WHEEL_INS_EV_HI = true →
      (s.portFifo d.val).length < 8 →
      ∃ t, exec (.insEvHiWrite d v) s = .next t
        ∧ t.respCode (.drone d) = 0
        ∧ t.portFifo d.val = s.portFifo d.val ++ [⟨bitsOf (s.droneIns d.val).addr 23 16, bitsOf (s.droneIns d.val).addr 11 0, v ++ (s.droneIns d.val).evLo, .drone d⟩]
        ∧ t.droneIns d.val = { s.droneIns d.val with waiting := (s.droneIns d.val).waiting + 1 }
        ∧ t = { s with spine := t.spine, wheel := { s.wheel with ports := t.wheel.ports, drones := t.wheel.drones } }
        ∧ (∀ key, key ∉ ([d.val] : List Nat) → t.portFifo key = s.portFifo key)
        ∧ (∀ key, key ∉ ([d.val] : List Nat) → t.droneIns key = s.droneIns key)) ∧
  (∀ (d : Fin 4) (v : BitVec 32) (s : State),
      s.sends (.drone d) true R.WHEEL_INS_EV_HI = true →
      8 ≤ (s.portFifo d.val).length →
      ∃ t, exec (.insEvHiWrite d v) s = .next t
        ∧ t.respCode (.drone d) = 0
        ∧ t.rdN (R.WHEEL_PORT_BUSY d.val) = min 0xFFFFFFFF (s.rdN (R.WHEEL_PORT_BUSY d.val) + 1)
        ∧ t.droneIns d.val = { s.droneIns d.val with code := 3 }
        ∧ t = { s with regs := t.regs, spine := t.spine, wheel := { s.wheel with drones := t.wheel.drones } }
        ∧ (∀ adr, adr ∉ ([R.WHEEL_PORT_BUSY d.val] : List Nat) → t.rd adr = s.rd adr)
        ∧ (∀ key, key ∉ ([d.val] : List Nat) → t.droneIns key = s.droneIns key)) ∧
  (∀ (s : State),
      s.nextPort = none →
      ∃ t, exec (.wheelInsert) s = .next t
        ∧ t = s) ∧
  (∀ (p c : Nat) (i : Insert) (r : List Insert) (s : State),
      s.nextPort = some p →
      s.portFifo p = i :: r →
      insertPort i.src = p →
      s.portWaiting p = [] →
      i.lane < 256 →
      i.bin < 4096 →
      c = (if s.wheelReady = false then 12 else if s.laneDom i.lane = 0 then 9 else if 12 ≤ dbits i.ev 63 60 ∧ dbits i.ev 63 60 ≤ 14 then 10 else 11) →
      (s.wheelReady = false ∨ s.laneDom i.lane = 0 ∨ (12 ≤ dbits i.ev 63 60 ∧ dbits i.ev 63 60 ≤ 14) ∨ s.wheel.flushLane = some i.lane) →
      ∃ t, exec (.wheelInsert) s = .next t
        ∧ t.portFifo p = r
        ∧ t.rdN (R.WHEEL_PORT_REJECTED p) = min 0xFFFFFFFF (s.rdN (R.WHEEL_PORT_REJECTED p) + 1)
        ∧ t.get (F.WHEEL_PORT_LAST_CODE p) = c
        ∧ t.get (F.WHEEL_PORT_LAST_LANE p) = i.lane
        ∧ t.get (F.WHEEL_PORT_LAST_BIN p) = i.bin
        ∧ t.isPending 685 = true
        ∧ (p = 5 → t.isPending 775 = true)
        ∧ s.answers t i.src c = true
        ∧ t = { s with regs := t.regs, irq := t.irq, engines := t.engines, sessions := t.sessions, wheel := { s.wheel with ports := t.wheel.ports, turn := p, drones := t.wheel.drones, results := t.wheel.results } }
        ∧ (∀ adr, adr ∉ (R.WHEEL_PORT_REJECTED p :: R.WHEEL_PORT_LAST p :: coalesced : List Nat) → t.rd adr = s.rd adr)
        ∧ (∀ num dr, num ∉ ([685, 775] : List Nat) → t.slot num dr = s.slot num dr)
        ∧ (∀ key, key ∉ ([p] : List Nat) → t.portFifo key = s.portFifo key)
        ∧ (∀ key, key ∉ (srcDrones i.src : List Nat) → t.droneIns key = s.droneIns key)
        ∧ (∀ key, key ∉ (srcSessions i.src : List Nat) → t.session key = s.session key)
        ∧ (∀ key, key ∉ (srcEngines i.src : List Nat) → t.engine key = s.engine key)) ∧
  (∀ (p c d x y : Nat) (h : Int) (i : Insert) (r : List Insert) (s : State),
      s.nextPort = some p →
      s.portFifo p = i :: r →
      insertPort i.src = p →
      s.portWaiting p = [] →
      i.lane < 256 →
      i.bin < 4096 →
      s.wheelReady = true →
      s.laneDom i.lane ≠ 0 →
      (dbits i.ev 63 60 < 12 ∨ dbits i.ev 63 60 = 15) →
      s.wheel.flushLane ≠ some i.lane →
      (s.dom (s.laneDom i.lane - 1)).hw = some h →
      d = ((h % 4096).toNat + 4096 - i.bin) % 4096 →
      (if dbits i.ev 31 31 = 1 ∧ d < 2048 then (if s.drainState = 1 ∨ s.domReverse (s.laneDom i.lane - 1) = true ∨ s.domStalled (s.laneDom i.lane - 1) = true then c = 5 else s.get (F.WHEEL_DOM_CTL_LATE_TOL (s.laneDom i.lane - 1)) < d ∧ c = 4) else if s.rdN R.WHEEL_POOL_FREE = 0 then c = 6 else if s.rdN R.WHEEL_POOL_FREE ≤ s.rdN R.WHEEL_POOL_RESERVE ∧ s.bitAt R.WHEEL_PORT_PRIV p = false then c = 7 else x < poolSize ∧ y < poolSize ∧ s.memWord (descAddr i.bin i.lane) = gridEncode (packDesc x y 4095) ∧ c = 8) →
      ∃ t, exec (.wheelInsert) s = .next t
        ∧ t.portFifo p = r
        ∧ t.rdN (R.WHEEL_PORT_REJECTED p) = min 0xFFFFFFFF (s.rdN (R.WHEEL_PORT_REJECTED p) + 1)
        ∧ t.get (F.WHEEL_PORT_LAST_CODE p) = c
        ∧ t.get (F.WHEEL_PORT_LAST_LANE p) = i.lane
        ∧ t.get (F.WHEEL_PORT_LAST_BIN p) = i.bin
        ∧ t.isPending 685 = true
        ∧ (p = 5 → t.isPending 775 = true)
        ∧ s.answers t i.src c = true
        ∧ t = { s with regs := t.regs, irq := t.irq, engines := t.engines, sessions := t.sessions, wheel := { s.wheel with ports := t.wheel.ports, turn := p, drones := t.wheel.drones, results := t.wheel.results } }
        ∧ (∀ adr, adr ∉ (R.WHEEL_PORT_REJECTED p :: R.WHEEL_PORT_LAST p :: coalesced : List Nat) → t.rd adr = s.rd adr)
        ∧ (∀ num dr, num ∉ ([685, 775] : List Nat) → t.slot num dr = s.slot num dr)
        ∧ (∀ key, key ∉ ([p] : List Nat) → t.portFifo key = s.portFifo key)
        ∧ (∀ key, key ∉ (srcDrones i.src : List Nat) → t.droneIns key = s.droneIns key)
        ∧ (∀ key, key ∉ (srcSessions i.src : List Nat) → t.session key = s.session key)
        ∧ (∀ key, key ∉ (srcEngines i.src : List Nat) → t.engine key = s.engine key)) ∧
  (∀ (p d : Nat) (h : Int) (i : Insert) (r : List Insert) (s : State),
      s.nextPort = some p →
      s.portFifo p = i :: r →
      insertPort i.src = p →
      s.portWaiting p = [] →
      i.lane < 256 →
      i.bin < 4096 →
      s.wheelReady = true →
      s.laneDom i.lane ≠ 0 →
      (dbits i.ev 63 60 < 12 ∨ dbits i.ev 63 60 = 15) →
      s.wheel.flushLane ≠ some i.lane →
      (s.dom (s.laneDom i.lane - 1)).hw = some h →
      d = ((h % 4096).toNat + 4096 - i.bin) % 4096 →
      dbits i.ev 31 31 = 1 →
      d < 2048 →
      s.drainState = 2 →
      s.domReverse (s.laneDom i.lane - 1) = false →
      s.domStalled (s.laneDom i.lane - 1) = false →
      d ≤ s.get (F.WHEEL_DOM_CTL_LATE_TOL (s.laneDom i.lane - 1)) →
      (s.pair (i.lane / 2)).drain.length < 64 →
      s.wheel.notify.length < 64 →
      ∃ t, exec (.wheelInsert) s = .next t
        ∧ t.portFifo p = r
        ∧ (t.pair (i.lane / 2)).drain = (s.pair (i.lane / 2)).drain ++ [⟨setDbits (setDbits i.ev 31 31 1) 21 0 (((h - d).fdiv 4096 % 1024).toNat * 4096 + ((h - d) % 4096).toNat), i.lane, s.laneDom i.lane, h - d⟩]
        ∧ t.rdN (R.WHEEL_PORT_ACCEPTED p) = (s.rdN (R.WHEEL_PORT_ACCEPTED p) + 1) % 2 ^ 32
        ∧ s.answers t i.src 2 = true
        ∧ t.wheel.notify = (if dbits i.ev 30 30 = 1 then s.wheel.notify ++ [⟨s.laneDom i.lane, i.lane, ((h - d) % 4096).toNat, dbits i.ev 39 32, dbits i.ev 53 52, dbits i.ev 63 60, dbits i.ev 59 54, true⟩] else s.wheel.notify)
        ∧ (dbits i.ev 30 30 = 1 → s.wheel.notify = [] → t.isPending 681 = true)
        ∧ t = { s with regs := t.regs, irq := t.irq, engines := t.engines, sessions := t.sessions, pairs := t.pairs, wheel := { s.wheel with ports := t.wheel.ports, turn := p, drones := t.wheel.drones, results := t.wheel.results, notify := t.wheel.notify } }
        ∧ t.pair (i.lane / 2) = { s.pair (i.lane / 2) with drain := (t.pair (i.lane / 2)).drain }
        ∧ (∀ adr, adr ∉ (R.WHEEL_PORT_ACCEPTED p :: coalesced : List Nat) → t.rd adr = s.rd adr)
        ∧ (∀ num dr, num ∉ ([681] : List Nat) → t.slot num dr = s.slot num dr)
        ∧ (∀ key, key ∉ ([i.lane / 2] : List Nat) → t.pair key = s.pair key)
        ∧ (∀ key, key ∉ ([p] : List Nat) → t.portFifo key = s.portFifo key)
        ∧ (∀ key, key ∉ (srcDrones i.src : List Nat) → t.droneIns key = s.droneIns key)
        ∧ (∀ key, key ∉ (srcSessions i.src : List Nat) → t.session key = s.session key)
        ∧ (∀ key, key ∉ (srcEngines i.src : List Nat) → t.engine key = s.engine key))

/-- An accepted insert is linked into the queue of its bin and lane (parts of R66, R67, R69, R70, R71, R75, R77, R78, R79, R90). WHEEL_INSERT with an insert i of any source at the head of the next FIFO, the wheel ready, its lane in a domain with high-water position h and not flushed, no reserved ACT, no IMMEDIATE in a closed bin, an entry free, and more free than POOL_RESERVE or a privileged port; e is the head of the free list. (1) Into an empty queue: the descriptor holds e as HEAD and TAIL with COUNT 1; entry e holds the event with IMMEDIATE 0 and no NEXT; the queue is occupied; POOL_FREE falls and POOL_IN_USE rises by one, with POOL_MIN, 683 and 684 as R90 says; the insert leaves the FIFO, counts as accepted and is answered 0 in an open bin, 1 in a closed one. No other word of EVM changes. (2) Into a queue of c events, 0 < c < 4,095, with tail entry y whose word v ends the list: the descriptor keeps HEAD and holds e as TAIL with COUNT c + 1, the word of y gets e as NEXT, and entry e holds the event as before. Readings and choices of the model that it rests on: log entries 9, 40. -/
def Obligations.InsertsAreLinked : Prop :=
  (∀ (p d e : Nat) (h : Int) (i : Insert) (r : List Insert) (s : State),
      s.nextPort = some p →
      s.portFifo p = i :: r →
      insertPort i.src = p →
      s.portWaiting p = [] →
      i.lane < 256 →
      i.bin < 4096 →
      s.wheelReady = true →
      s.laneDom i.lane ≠ 0 →
      (dbits i.ev 63 60 < 12 ∨ dbits i.ev 63 60 = 15) →
      s.wheel.flushLane ≠ some i.lane →
      (s.dom (s.laneDom i.lane - 1)).hw = some h →
      d = ((h % 4096).toNat + 4096 - i.bin) % 4096 →
      (dbits i.ev 31 31 = 0 ∨ 2048 ≤ d) →
      0 < s.rdN R.WHEEL_POOL_FREE →
      (s.rdN R.WHEEL_POOL_RESERVE < s.rdN R.WHEEL_POOL_FREE ∨ s.bitAt R.WHEEL_PORT_PRIV p = true) →
      e = s.popFree.2 →
      e < poolSize →
      s.memWord (descAddr i.bin i.lane) = gridEncode emptyDesc →
      ∃ t, exec (.wheelInsert) s = .next t
        ∧ t.memWord (descAddr i.bin i.lane) = gridEncode (packDesc e e 1)
        ∧ t.memWord (poolAddr e) = gridEncode (setDbits (setDbits i.ev 31 31 0) 29 0 0x3FFFFF)
        ∧ t.occupied i.bin i.lane = true
        ∧ (s.wheel.front = [] → s.wheel.next < poolSize → e = s.wheel.next ∧ t.wheel.next = s.wheel.next + 1)
        ∧ (s.wheel.front ≠ [] → s.wheel.front = e :: t.wheel.front)
        ∧ t.rdN R.WHEEL_POOL_FREE = s.rdN R.WHEEL_POOL_FREE - 1
        ∧ t.rdN R.WHEEL_POOL_MIN = min (s.rdN R.WHEEL_POOL_MIN) (s.rdN R.WHEEL_POOL_FREE - 1)
        ∧ t.rdN R.WHEEL_POOL_IN_USE = (s.rdN R.WHEEL_POOL_IN_USE + 1) % 2 ^ 32
        ∧ t.rdN (R.WHEEL_PORT_ACCEPTED p) = (s.rdN (R.WHEEL_PORT_ACCEPTED p) + 1) % 2 ^ 32
        ∧ (s.rdN R.WHEEL_POOL_FREE = s.rdN R.WHEEL_POOL_WARN → t.isPending 683 = true)
        ∧ (s.rdN R.WHEEL_POOL_FREE = 1 → t.isPending 684 = true)
        ∧ s.answers t i.src (if d < 2048 then 1 else 0) = true
        ∧ t.portFifo p = r
        ∧ t = { s with regs := t.regs, irq := t.irq, mem := t.mem, engines := t.engines, sessions := t.sessions, wheel := { s.wheel with ports := t.wheel.ports, turn := p, drones := t.wheel.drones, results := t.wheel.results, front := t.wheel.front, next := t.wheel.next, back := t.wheel.back, occ := t.wheel.occ } }
        ∧ (∀ adr, adr ∉ (R.WHEEL_POOL_FREE :: R.WHEEL_POOL_MIN :: R.WHEEL_POOL_IN_USE :: R.WHEEL_PORT_ACCEPTED p :: coalesced : List Nat) → t.rd adr = s.rd adr)
        ∧ (∀ num dr, num ∉ ([683, 684] : List Nat) → t.slot num dr = s.slot num dr)
        ∧ (∀ key, key ∉ ([p] : List Nat) → t.portFifo key = s.portFifo key)
        ∧ (∀ key, key ∉ ([i.bin * 256 + i.lane] : List Nat) → Sparse.get (fun _ => false) t.wheel.occ key = Sparse.get (fun _ => false) s.wheel.occ key)
        ∧ (∀ key, key ∉ (srcDrones i.src : List Nat) → t.droneIns key = s.droneIns key)
        ∧ (∀ key, key ∉ (srcSessions i.src : List Nat) → t.session key = s.session key)
        ∧ (∀ key, key ∉ (srcEngines i.src : List Nat) → t.engine key = s.engine key)
        ∧ (∀ adr, adr / 8 ∉ ([descAddr i.bin i.lane, poolAddr e] : List Nat).map (· / 8) → t.memWord adr = s.memWord adr)) ∧
  (∀ (p d e x y c : Nat) (v : BitVec 64) (h : Int) (i : Insert) (r : List Insert) (s : State),
      s.nextPort = some p →
      s.portFifo p = i :: r →
      insertPort i.src = p →
      s.portWaiting p = [] →
      i.lane < 256 →
      i.bin < 4096 →
      s.wheelReady = true →
      s.laneDom i.lane ≠ 0 →
      (dbits i.ev 63 60 < 12 ∨ dbits i.ev 63 60 = 15) →
      s.wheel.flushLane ≠ some i.lane →
      (s.dom (s.laneDom i.lane - 1)).hw = some h →
      d = ((h % 4096).toNat + 4096 - i.bin) % 4096 →
      (dbits i.ev 31 31 = 0 ∨ 2048 ≤ d) →
      0 < s.rdN R.WHEEL_POOL_FREE →
      (s.rdN R.WHEEL_POOL_RESERVE < s.rdN R.WHEEL_POOL_FREE ∨ s.bitAt R.WHEEL_PORT_PRIV p = true) →
      e = s.popFree.2 →
      e < poolSize →
      x < poolSize →
      y < poolSize →
      y ≠ e →
      0 < c →
      c < 4095 →
      s.memWord (descAddr i.bin i.lane) = gridEncode (packDesc x y c) →
      s.memWord (poolAddr y) = gridEncode v →
      dbits v 21 0 = 0x3FFFFF →
      ∃ t, exec (.wheelInsert) s = .next t
        ∧ t.memWord (descAddr i.bin i.lane) = gridEncode (packDesc x e (c + 1))
        ∧ t.memWord (poolAddr y) = gridEncode (setDbits v 21 0 e)
        ∧ t.memWord (poolAddr e) = gridEncode (setDbits (setDbits i.ev 31 31 0) 29 0 0x3FFFFF)
        ∧ t.occupied i.bin i.lane = true
        ∧ t.rdN R.WHEEL_POOL_FREE = s.rdN R.WHEEL_POOL_FREE - 1
        ∧ t.rdN R.WHEEL_POOL_IN_USE = (s.rdN R.WHEEL_POOL_IN_USE + 1) % 2 ^ 32
        ∧ t.rdN (R.WHEEL_PORT_ACCEPTED p) = (s.rdN (R.WHEEL_PORT_ACCEPTED p) + 1) % 2 ^ 32
        ∧ s.answers t i.src (if d < 2048 then 1 else 0) = true
        ∧ t.portFifo p = r
        ∧ t = { s with regs := t.regs, irq := t.irq, mem := t.mem, engines := t.engines, sessions := t.sessions, wheel := { s.wheel with ports := t.wheel.ports, turn := p, drones := t.wheel.drones, results := t.wheel.results, front := t.wheel.front, next := t.wheel.next, back := t.wheel.back, occ := t.wheel.occ } }
        ∧ (∀ adr, adr ∉ (R.WHEEL_POOL_FREE :: R.WHEEL_POOL_MIN :: R.WHEEL_POOL_IN_USE :: R.WHEEL_PORT_ACCEPTED p :: coalesced : List Nat) → t.rd adr = s.rd adr)
        ∧ (∀ num dr, num ∉ ([683, 684] : List Nat) → t.slot num dr = s.slot num dr)
        ∧ (∀ key, key ∉ ([p] : List Nat) → t.portFifo key = s.portFifo key)
        ∧ (∀ key, key ∉ ([i.bin * 256 + i.lane] : List Nat) → Sparse.get (fun _ => false) t.wheel.occ key = Sparse.get (fun _ => false) s.wheel.occ key)
        ∧ (∀ key, key ∉ (srcDrones i.src : List Nat) → t.droneIns key = s.droneIns key)
        ∧ (∀ key, key ∉ (srcSessions i.src : List Nat) → t.session key = s.session key)
        ∧ (∀ key, key ∉ (srcEngines i.src : List Nat) → t.engine key = s.engine key)
        ∧ (∀ adr, adr / 8 ∉ ([descAddr i.bin i.lane, poolAddr e, poolAddr y] : List Nat).map (· / 8) → t.memWord adr = s.memWord adr))

/-- Draining, skipping of held bins, delivery, and the notification FIFO (parts of R65, R69, R81, R82, R83, R84, R86, R87, R90, R94, R95, R102). LP is the lead point of domain d at the command's time, HW its high-water position. A queue is behind when it is not counted late and LP has left its position. (1) DRAIN_POSITION with drains on, the domain valid and not in reverse, HW below LP, no queue behind, and every descriptor of the position's bin b readable: HW moves to the next position, DRAINED counts it, 678 + d is raised at bin 0, and each queue of the domain's lanes in b that holds events and is not flushed (lane l stands for any) is detached with its HEAD and COUNT: its descriptor is empty, its occupancy gone. Where LP is already beyond the position and something was detached, DRAIN_LAG counts one and 686 is raised. Nothing else of EVM changes. (2) DRAIN_POSITION where the position is not due (no HW, drains not on, the domain not valid or in reverse, or HW not below LP) and no queue is behind: the lead point is brought up to the time, nothing else changes. (3) DRAIN_POSITION in a domain without HW or not valid, with one queue behind: its bin is counted in DRAIN_LAG, once, and 686 is raised. (4) HELD_BIN_SKIP with drains held, the domain valid and HW below LP, no queue behind: HW follows LP and SKIPPED counts each bin. (5) HELD_BIN_SKIP at any other time (no HW, drains not held, the domain not valid, HW not below LP): only the lead point moves. (6) EVENT_DELIVERY on a wheel that is not stopped, no queue behind: the next event v of the first detached queue q whose lane's drain input has room goes to that input with IMMEDIATE 0 and its position; its entry returns to the free list; q goes on with v's NEXT, or is done with its last event. A word with NOTIFY 1 adds an entry to the notify FIFO, 681 being raised as that becomes non-empty, or counts NOTIFY_LOST and raises 682 where it holds 64; a MARK (of no TAG that the trigger asks for) raises 687. (7) EVENT_DELIVERY on a stopped wheel, with nothing detached, or with every such drain input full and no queue behind, delivers nothing. (8) NOTIFY_B_READ answers NOTIFY_B of the oldest entry (TAG, KIND, ACT, PROFILE, IMMEDIATE), which leaves; with no entry it answers 0. Readings and choices of the model that it rests on: log entries 9, 36, 40. -/
def Obligations.WheelDrains : Prop :=
  (∀ (d : Fin 3) (t0 b l x y c : Nat) (h : Int) (s : State),
      (s.dom d.val).hw = some h →
      s.drainState = 2 →
      s.domValid d.val = true →
      s.domReverse d.val = false →
      h < posOf (s.lpAt d.val (max s.now t0)) →
      (∀ q ∈ (s.dom d.val).detached, q.late = true ∨ posOf (s.lpAt d.val (max s.now t0)) ≤ q.pos) →
      b = ((h + 1) % 4096).toNat →
      (∀ k : Nat, k < 256 → s.laneDom k = d.val + 1 → s.occupied b k = true → s.wheel.flushLane ≠ some k → (s.readDesc b k).1 = s ∧ (s.readDesc b k).2.isSome = true) →
      ∃ t, exec (.drainPosition d t0) s = .next t
        ∧ (t.dom d.val).hw = some (h + 1)
        ∧ (t.dom d.val).lp = s.lpAt d.val (max s.now t0)
        ∧ t.rdN (R.WHEEL_DOM_DRAINED d.val) = (s.rdN (R.WHEEL_DOM_DRAINED d.val) + 1) % 2 ^ 32
        ∧ t.now = max s.now t0
        ∧ (b = 0 → t.isPending (678 + d.val) = true)
        ∧ (b ≠ 0 → ∀ dr, t.slot (678 + d.val) dr = s.slot (678 + d.val) dr)
        ∧ (l < 256 → s.laneDom l = d.val + 1 → s.occupied b l = true → s.wheel.flushLane ≠ some l → x < poolSize → y < poolSize → c < 4096 → s.memWord (descAddr b l) = gridEncode (packDesc x y c) → t.memWord (descAddr b l) = gridEncode emptyDesc ∧ t.occupied b l = false ∧ ⟨l, h + 1, x, c, decide (h + 1 < posOf (s.lpAt d.val (max s.now t0)))⟩ ∈ (t.dom d.val).detached)
        ∧ (s.laneDom l ≠ d.val + 1 ∨ s.wheel.flushLane = some l → l < 256 → t.occupied b l = s.occupied b l ∧ t.memWord (descAddr b l) = s.memWord (descAddr b l))
        ∧ (s.dom d.val).detached <+: (t.dom d.val).detached
        ∧ t.rdN (R.WHEEL_DOM_DRAIN_LAG d.val) = (if h + 1 < posOf (s.lpAt d.val (max s.now t0)) ∧ (s.dom d.val).detached.length < (t.dom d.val).detached.length then min 0xFFFFFFFF (s.rdN (R.WHEEL_DOM_DRAIN_LAG d.val) + 1) else s.rdN (R.WHEEL_DOM_DRAIN_LAG d.val))
        ∧ (h + 1 < posOf (s.lpAt d.val (max s.now t0)) → (s.dom d.val).detached.length < (t.dom d.val).detached.length → t.isPending 686 = true)
        ∧ t.dom d.val = { s.dom d.val with lp := (t.dom d.val).lp, hw := (t.dom d.val).hw, detached := (t.dom d.val).detached }
        ∧ t = { s with regs := t.regs, irq := t.irq, now := t.now, doms := t.doms, mem := t.mem, wheel := { s.wheel with occ := t.wheel.occ } }
        ∧ (∀ adr, adr ∉ (R.WHEEL_DOM_DRAINED d.val :: R.WHEEL_DOM_DRAIN_LAG d.val :: coalesced : List Nat) → t.rd adr = s.rd adr)
        ∧ (∀ key, key ∉ ([d.val] : List Nat) → t.dom key = s.dom key)
        ∧ (∀ num dr, num ∉ ([678 + d.val, 686] : List Nat) → t.slot num dr = s.slot num dr)
        ∧ (∀ key, key / 256 ≠ b → Sparse.get (fun _ => false) t.wheel.occ key = Sparse.get (fun _ => false) s.wheel.occ key)
        ∧ (∀ adr, (∀ k : Nat, k < 256 → adr / 8 ≠ descAddr b k / 8) → t.memWord adr = s.memWord adr)) ∧
  (∀ (d : Fin 3) (t0 : Nat) (s : State),
      ((s.dom d.val).hw = none ∨ s.drainState ≠ 2 ∨ s.domValid d.val = false ∨ s.domReverse d.val = true ∨ posOf (s.lpAt d.val (max s.now t0)) ≤ (s.dom d.val).hw.getD 0) →
      (∀ q ∈ (s.dom d.val).detached, q.late = true ∨ posOf (s.lpAt d.val (max s.now t0)) ≤ q.pos) →
      ∃ t, exec (.drainPosition d t0) s = .next t
        ∧ t.now = max s.now t0
        ∧ t.dom d.val = { s.dom d.val with lp := s.lpAt d.val (max s.now t0) }
        ∧ t = { s with now := t.now, doms := t.doms }
        ∧ (∀ key, key ∉ ([d.val] : List Nat) → t.dom key = s.dom key)) ∧
  (∀ (d : Fin 3) (t0 : Nat) (q : Detached) (s : State),
      ((s.dom d.val).hw = none ∨ s.domValid d.val = false) →
      (s.dom d.val).detached = [q] →
      q.late = false →
      q.pos < posOf (s.lpAt d.val (max s.now t0)) →
      ∃ t, exec (.drainPosition d t0) s = .next t
        ∧ (t.dom d.val).detached = [{ q with late := true }]
        ∧ t.rdN (R.WHEEL_DOM_DRAIN_LAG d.val) = min 0xFFFFFFFF (s.rdN (R.WHEEL_DOM_DRAIN_LAG d.val) + 1)
        ∧ t.isPending 686 = true
        ∧ t = { s with regs := t.regs, irq := t.irq, now := t.now, doms := t.doms }
        ∧ t.now = max s.now t0
        ∧ t.dom d.val = { s.dom d.val with lp := s.lpAt d.val (max s.now t0), detached := (t.dom d.val).detached }
        ∧ (∀ adr, adr ∉ (R.WHEEL_DOM_DRAIN_LAG d.val :: coalesced : List Nat) → t.rd adr = s.rd adr)
        ∧ (∀ key, key ∉ ([d.val] : List Nat) → t.dom key = s.dom key)
        ∧ (∀ num dr, num ∉ ([686] : List Nat) → t.slot num dr = s.slot num dr)) ∧
  (∀ (d : Fin 3) (t0 : Nat) (h : Int) (s : State),
      (s.dom d.val).hw = some h →
      s.drainState = 1 →
      s.domValid d.val = true →
      h < posOf (s.lpAt d.val (max s.now t0)) →
      (∀ q ∈ (s.dom d.val).detached, q.late = true ∨ posOf (s.lpAt d.val (max s.now t0)) ≤ q.pos) →
      ∃ t, exec (.heldBinSkip d t0) s = .next t
        ∧ t.dom d.val = { s.dom d.val with lp := s.lpAt d.val (max s.now t0), hw := some (posOf (s.lpAt d.val (max s.now t0))) }
        ∧ t.rdN (R.WHEEL_DOM_SKIPPED d.val) = min 0xFFFFFFFF (s.rdN (R.WHEEL_DOM_SKIPPED d.val) + (posOf (s.lpAt d.val (max s.now t0)) - h).toNat)
        ∧ t.now = max s.now t0
        ∧ t = { s with regs := t.regs, now := t.now, doms := t.doms }
        ∧ (∀ adr, adr ∉ ([R.WHEEL_DOM_SKIPPED d.val] : List Nat) → t.rd adr = s.rd adr)
        ∧ (∀ key, key ∉ ([d.val] : List Nat) → t.dom key = s.dom key)) ∧
  (∀ (d : Fin 3) (t0 : Nat) (s : State),
      ((s.dom d.val).hw = none ∨ s.drainState ≠ 1 ∨ s.domValid d.val = false ∨ posOf (s.lpAt d.val (max s.now t0)) ≤ (s.dom d.val).hw.getD 0) →
      (∀ q ∈ (s.dom d.val).detached, q.late = true ∨ posOf (s.lpAt d.val (max s.now t0)) ≤ q.pos) →
      ∃ t, exec (.heldBinSkip d t0) s = .next t
        ∧ t.now = max s.now t0
        ∧ t.dom d.val = { s.dom d.val with lp := s.lpAt d.val (max s.now t0) }
        ∧ t = { s with now := t.now, doms := t.doms }
        ∧ (∀ key, key ∉ ([d.val] : List Nat) → t.dom key = s.dom key)) ∧
  (∀ (d : Fin 3) (pre post : List Detached) (q : Detached) (v : BitVec 64) (s : State),
      s.drainState ≠ 0 →
      (s.dom d.val).detached = pre ++ q :: post →
      (∀ k ∈ pre, 64 ≤ (s.pair (k.lane / 2)).drain.length) →
      (s.pair (q.lane / 2)).drain.length < 64 →
      (∀ k ∈ (s.dom d.val).detached, k.late = true ∨ posOf (s.lpAt d.val s.now) ≤ k.pos) →
      s.memWord (poolAddr q.head) = gridEncode v →
      badIndex (dbits v 21 0) = false →
      (dbits v 53 52 = 2 → s.bit F.WHEEL_MARK_TAG_EN = false ∨ s.get F.WHEEL_MARK_TAG_TAG ≠ dbits v 39 32) →
      s.rdN R.WHEEL_POOL_FREE < 3145728 →
      0 < s.rdN R.WHEEL_POOL_IN_USE →
      ∃ t, exec (.eventDelivery d) s = .next t
        ∧ (t.pair (q.lane / 2)).drain = (s.pair (q.lane / 2)).drain ++ [⟨setDbits (setDbits v 31 31 0) 21 0 ((q.pos.fdiv 4096 % 1024).toNat * 4096 + (q.pos % 4096).toNat), q.lane, d.val + 1, q.pos⟩]
        ∧ (t.dom d.val).detached = (if q.left ≤ 1 then pre ++ post else pre ++ { q with head := dbits v 21 0, left := q.left - 1 } :: post)
        ∧ (q.head ∈ t.wheel.front ∨ q.head ∈ t.wheel.back)
        ∧ t.rdN R.WHEEL_POOL_FREE = s.rdN R.WHEEL_POOL_FREE + 1
        ∧ t.rdN R.WHEEL_POOL_IN_USE = s.rdN R.WHEEL_POOL_IN_USE - 1
        ∧ t.wheel.notify = (if dbits v 30 30 = 1 ∧ s.wheel.notify.length < 64 then s.wheel.notify ++ [⟨d.val + 1, q.lane, (q.pos % 4096).toNat, dbits v 39 32, dbits v 53 52, dbits v 63 60, dbits v 59 54, false⟩] else s.wheel.notify)
        ∧ (dbits v 30 30 = 1 → s.wheel.notify = [] → t.isPending 681 = true)
        ∧ t.rdN R.WHEEL_NOTIFY_LOST = (if dbits v 30 30 = 1 ∧ 64 ≤ s.wheel.notify.length then min 0xFFFFFFFF (s.rdN R.WHEEL_NOTIFY_LOST + 1) else s.rdN R.WHEEL_NOTIFY_LOST)
        ∧ (dbits v 30 30 = 1 → 64 ≤ s.wheel.notify.length → t.isPending 682 = true)
        ∧ (dbits v 53 52 = 2 → t.isPending 687 = true)
        ∧ t.dom d.val = { s.dom d.val with detached := (t.dom d.val).detached }
        ∧ t.pair (q.lane / 2) = { s.pair (q.lane / 2) with drain := (t.pair (q.lane / 2)).drain }
        ∧ t = { s with regs := t.regs, irq := t.irq, pairs := t.pairs, doms := t.doms, wheel := { s.wheel with front := t.wheel.front, back := t.wheel.back, notify := t.wheel.notify } }
        ∧ (∀ adr, adr ∉ (R.WHEEL_POOL_FREE :: R.WHEEL_POOL_IN_USE :: R.WHEEL_POOL_MIN :: R.WHEEL_NOTIFY_LOST :: coalesced : List Nat) → t.rd adr = s.rd adr)
        ∧ (∀ num dr, num ∉ ([681, 682, 687] : List Nat) → t.slot num dr = s.slot num dr)
        ∧ (∀ key, key ∉ ([q.lane / 2] : List Nat) → t.pair key = s.pair key)
        ∧ (∀ key, key ∉ ([d.val] : List Nat) → t.dom key = s.dom key)) ∧
  (∀ (d : Fin 3) (s : State),
      (s.drainState = 0 ∨ ∀ k ∈ (s.dom d.val).detached, 64 ≤ (s.pair (k.lane / 2)).drain.length ∧ (k.late = true ∨ posOf (s.lpAt d.val s.now) ≤ k.pos)) →
      ∃ t, exec (.eventDelivery d) s = .next t
        ∧ t.dom d.val = s.dom d.val
        ∧ t = { s with doms := t.doms }
        ∧ (∀ key, key ∉ ([d.val] : List Nat) → t.dom key = s.dom key)) ∧
  (∀ (ini : Initiator) (s : State),
      s.sends ini false R.WHEEL_NOTIFY_B = true →
      ∃ t, exec (.notifyBRead ini) s = .next t
        ∧ t.respCode ini = 0
        ∧ t.respData ini = (match s.wheel.notify with | n :: _ => (BitVec.ofNat 32 (n.tag * 2 ^ 24 + n.kind * 2 ^ 22 + n.act * 2 ^ 18 + n.profile * 2 ^ 12 + if n.imm then 1 else 0)).zeroExtend 64 | [] => 0)
        ∧ t.wheel = { s.wheel with notify := s.wheel.notify.tail }
        ∧ t = { s with spine := t.spine, sec := t.sec, wheel := t.wheel })

/-- Initialisation and flush of the wheel (parts of R65, R69, R85, R89, R90, R91). An initiator sends where no rule stops its access before the spine. (1) WHEEL_INIT while drains are not on: INIT reads 1, READY 0; in INIT mode, where the drains are then stopped, and in every mode that stops them, no domain keeps a high-water position; in ARMED, SERVICE and PROVISION all do. (2) WHEEL_INIT with drains on is refused: DOM_LOCKED is set. (3) WHEEL_INIT_DONE while INIT reads 1: every descriptor (b, l) is empty and unoccupied, nothing is detached, every entry is free, POOL_FREE and POOL_MIN are 3,145,728, POOL_IN_USE is 0, READY is set, INIT clears, and 689 is raised; a valid domain whose drains were stopped and now are held takes HW from its lead point. (4) WHEEL_INIT_DONE with no initialisation running does nothing. (5) WHEEL_FLUSH of a lane while no flush runs and the descriptors of its occupied queues are readable: BUSY and GO read 1 and LANE the lane; each such queue's descriptor (that of bin b stands for any) keeps HEAD, TAIL and COUNT and gets STATE FLUSHING; nothing else of EVM changes. (6) WHEEL_FLUSH while one runs starts nothing: only the field LANE takes the written value. (7) WHEEL_FLUSH_DONE while lane l is flushed: every queue of l is empty and unoccupied, BUSY and GO read 0, and 688 is raised; queues of other lanes stay. (8) Where that lane holds just one event v, its entry e returns to the free list: POOL_FREE rises and POOL_IN_USE falls by one. (9) WHEEL_FLUSH_DONE with no flush running does nothing. Readings and choices of the model that it rests on: log entries 9, 11. -/
def Obligations.WheelInitAndFlush : Prop :=
  (∀ (ini : Initiator) (s : State),
      s.sends ini true R.WHEEL_CTL = true →
      s.drainState ≠ 2 →
      ∃ t, exec (.wheelInit ini) s = .next t
        ∧ t.respCode ini = 0
        ∧ t.bit F.WHEEL_STAT_READY = false
        ∧ t.bit F.WHEEL_CTL_INIT = true
        ∧ (∀ d : Fin 3, (t.dom d.val).hw = if s.modeIn [M.armed, M.service, M.provision] then (s.dom d.val).hw else none)
        ∧ (∀ d : Fin 3, t.dom d.val = { s.dom d.val with hw := (t.dom d.val).hw, hwLost := (t.dom d.val).hwLost })
        ∧ t = { s with regs := t.regs, spine := t.spine, doms := t.doms, sec := { s.sec with tapOut := t.sec.tapOut } }
        ∧ (∀ adr, adr ∉ ([R.WHEEL_STAT, R.WHEEL_CTL] : List Nat) → t.rd adr = s.rd adr)
        ∧ (∀ key, key ∉ ([0, 1, 2] : List Nat) → t.dom key = s.dom key)) ∧
  (∀ (ini : Initiator) (s : State),
      s.sends ini true R.WHEEL_CTL = true →
      s.drainState = 2 →
      ∃ t, exec (.wheelInit ini) s = .next t
        ∧ t.respCode ini = 0
        ∧ t.bit F.WHEEL_STAT_DOM_LOCKED = true
        ∧ t = { s with regs := t.regs, spine := t.spine, sec := { s.sec with tapOut := t.sec.tapOut } }
        ∧ (∀ adr, adr ∉ ([R.WHEEL_STAT] : List Nat) → t.rd adr = s.rd adr)) ∧
  (∀ (b : Fin 4096) (l : Fin 256) (s : State),
      s.bit F.WHEEL_CTL_INIT = true →
      ∃ t, exec (.wheelInitDone) s = .next t
        ∧ t.memWord (descAddr b.val l.val) = gridEncode emptyDesc
        ∧ t.occupied b.val l.val = false
        ∧ t.wheel.front = []
        ∧ t.wheel.next = 0
        ∧ t.wheel.back = []
        ∧ (∀ d : Fin 3, (t.dom d.val).detached = [])
        ∧ t.rdN R.WHEEL_POOL_FREE = 3145728
        ∧ t.rdN R.WHEEL_POOL_IN_USE = 0
        ∧ t.rdN R.WHEEL_POOL_MIN = 3145728
        ∧ t.bit F.WHEEL_STAT_READY = true
        ∧ t.bit F.WHEEL_CTL_INIT = false
        ∧ t.isPending 689 = true
        ∧ (∀ d : Fin 3, (t.dom d.val).hw = if s.drainState = 0 ∧ t.drainState ≠ 0 ∧ s.domValid d.val = true then some (posOf (t.lpAt d.val s.now)) else (s.dom d.val).hw)
        ∧ (∀ d : Fin 3, t.dom d.val = { s.dom d.val with hw := (t.dom d.val).hw, detached := [] })
        ∧ t = { s with regs := t.regs, irq := t.irq, mem := t.mem, doms := t.doms, wheel := { s.wheel with inited := true, inited1 := true, front := [], next := 0, back := [], occ := [] } }
        ∧ (∀ adr, adr ∉ (R.WHEEL_POOL_FREE :: R.WHEEL_POOL_IN_USE :: R.WHEEL_POOL_MIN :: R.WHEEL_CTL :: R.WHEEL_STAT :: coalesced : List Nat) → t.rd adr = s.rd adr)
        ∧ (∀ key, key ∉ ([0, 1, 2] : List Nat) → t.dom key = s.dom key)
        ∧ (∀ num dr, num ∉ ([689] : List Nat) → t.slot num dr = s.slot num dr)) ∧
  (∀ (s : State),
      s.bit F.WHEEL_CTL_INIT = false →
      ∃ t, exec (.wheelInitDone) s = .next t
        ∧ t = s) ∧
  (∀ (ini : Initiator) (lane : Fin 256) (b : Fin 4096) (x y c : Nat) (s : State),
      s.sends ini true R.WHEEL_FLUSH = true →
      s.bit F.WHEEL_FLUSH_BUSY = false →
      (∀ i : Nat, i < 64 → ∀ k : Nat, k < 64 → s.occupied (64 * i + k) lane.val = true → (s.readDesc (64 * i + k) lane.val).1 = s ∧ (s.readDesc (64 * i + k) lane.val).2.isSome = true) →
      ∃ t, exec (.wheelFlush ini lane) s = .next t
        ∧ t.respCode ini = 0
        ∧ t.wheel = { s.wheel with flushLane := some lane.val }
        ∧ t.bit F.WHEEL_FLUSH_BUSY = true
        ∧ t.bit F.WHEEL_FLUSH_GO = true
        ∧ t.get F.WHEEL_FLUSH_LANE = lane.val
        ∧ (s.occupied b.val lane.val = true → x < poolSize → y < poolSize → c < 4096 → s.memWord (descAddr b.val lane.val) = gridEncode (packDesc x y c) → t.memWord (descAddr b.val lane.val) = gridEncode (packDescAs .flushing x y c))
        ∧ (s.occupied b.val lane.val = false → t.memWord (descAddr b.val lane.val) = s.memWord (descAddr b.val lane.val))
        ∧ t = { s with regs := t.regs, mem := t.mem, spine := t.spine, wheel := t.wheel, sec := { s.sec with tapOut := t.sec.tapOut } }
        ∧ (∀ adr, adr ∉ ([R.WHEEL_FLUSH] : List Nat) → t.rd adr = s.rd adr)
        ∧ (∀ adr, (∀ k : Nat, k < 4096 → adr / 8 ≠ descAddr k lane.val / 8) → t.memWord adr = s.memWord adr)) ∧
  (∀ (ini : Initiator) (lane : Fin 256) (s : State),
      s.sends ini true R.WHEEL_FLUSH = true →
      s.bit F.WHEEL_FLUSH_BUSY = true →
      ∃ t, exec (.wheelFlush ini lane) s = .next t
        ∧ t.respCode ini = 0
        ∧ t = { s with regs := t.regs, spine := t.spine, sec := { s.sec with tapOut := t.sec.tapOut } }
        ∧ t.get F.WHEEL_FLUSH_LANE = lane.val
        ∧ t.bit F.WHEEL_FLUSH_BUSY = true
        ∧ (∀ adr, adr ∉ ([R.WHEEL_FLUSH] : List Nat) → t.rd adr = s.rd adr)) ∧
  (∀ (l k : Fin 256) (b : Fin 4096) (s : State),
      s.wheel.flushLane = some l.val →
      k ≠ l →
      ∃ t, exec (.wheelFlushDone) s = .next t
        ∧ t.wheel.flushLane = none
        ∧ t.bit F.WHEEL_FLUSH_BUSY = false
        ∧ t.bit F.WHEEL_FLUSH_GO = false
        ∧ t.occupied b.val l.val = false
        ∧ (s.occupied b.val l.val = true → t.memWord (descAddr b.val l.val) = gridEncode emptyDesc)
        ∧ t.occupied b.val k.val = s.occupied b.val k.val
        ∧ t.memWord (descAddr b.val k.val) = s.memWord (descAddr b.val k.val)
        ∧ t.isPending 688 = true
        ∧ t = { s with regs := t.regs, irq := t.irq, mem := t.mem, wheel := { s.wheel with flushLane := none, front := t.wheel.front, back := t.wheel.back, occ := t.wheel.occ } }
        ∧ (∀ num dr, num ∉ ([688, 858, 859] : List Nat) → t.slot num dr = s.slot num dr)) ∧
  (∀ (l : Fin 256) (b : Fin 4096) (e : Nat) (v : BitVec 64) (s : State),
      s.wheel.flushLane = some l.val →
      (∀ i : Nat, i < 64 → ∀ k : Nat, k < 64 → s.occupied (64 * i + k) l.val = decide (64 * i + k = b.val)) →
      e < poolSize →
      s.memWord (descAddr b.val l.val) = gridEncode (packDescAs .flushing e e 1) →
      s.memWord (poolAddr e) = gridEncode v →
      dbits v 21 0 = 0x3FFFFF →
      s.rdN R.WHEEL_POOL_FREE < 3145728 →
      0 < s.rdN R.WHEEL_POOL_IN_USE →
      ∃ t, exec (.wheelFlushDone) s = .next t
        ∧ t.rdN R.WHEEL_POOL_FREE = s.rdN R.WHEEL_POOL_FREE + 1
        ∧ t.rdN R.WHEEL_POOL_IN_USE = s.rdN R.WHEEL_POOL_IN_USE - 1
        ∧ (e ∈ t.wheel.front ∨ e ∈ t.wheel.back)
        ∧ (∀ adr, adr ∉ (R.WHEEL_POOL_FREE :: R.WHEEL_POOL_IN_USE :: R.WHEEL_POOL_MIN :: R.WHEEL_FLUSH :: coalesced : List Nat) → t.rd adr = s.rd adr)
        ∧ (∀ adr, adr / 8 ≠ descAddr b.val l.val / 8 → t.memWord adr = s.memWord adr)) ∧
  (∀ (s : State),
      s.wheel.flushLane = none →
      ∃ t, exec (.wheelFlushDone) s = .next t
        ∧ t = s)

/-- The commit of a frame builds its slots, writes its checkpoints, and judges the chanter's deadline (parts of R115, R116, R123, R125, R127, R131, R133, R182, R183). FRAME_COMMIT of frame f for pair c, at the frame's deadline. The holder is the chanter to which the pair is attached; "missed" means that it did not complete frame f. (1) While the machine is out of RESET and f is not yet committed, lane 2c + h, not a STANDBY, commits its 12 slots: those of its store for frame f, NONE where it has no entry, and whether the mode forces SAFE; its store keeps the entries of later frames. (2) A STANDBY lane commits 12 NONE slots, and what its store holds is discarded and counted. (3) With a holder n whose seven checkpoint words w of lane 2c + h are clean, the lane's slots 0-6 get them as LANEWORD, and slot 7 gets the frame's low half with the CRC-32C over them. (4) A holder n that completed frame f, after the core switch, with clean checkpoint words: MISS_RUN is 0; no other register changes but the lanes' store counts and the discards of a STANDBY lane. (5) A holder n that missed frame f, not right after another miss: MISSES counts, MISS_RUN is 1 more (2 at most), and event 0 is set, raising 256 + n where it was clear and enabled. (6) The second miss in a row of the pair's own chanter, its group's spare IDLE, no claim waiting in the group and no self-test slice running: MISS_RUN is 2 and the pair is claimed for retirement at that moment. (7) The second miss in a row of a chanter whose group has no spare left (SPARE_STATE SERVING or FAILED, no claim waiting in the group) is the HOLD cause 2; that of a spare in service also makes SPARE_STATE FAILED. In ARMED, RUN and RUN-SPARED without a burst under way the mode becomes HOLD. (8) Before the core switch, or with no holder, nothing is judged: with clean checkpoint words of the holder no register changes but the store counts and discards. (9) In RESET, or for a frame already committed, nothing is committed. Readings and choices of the model that it rests on: log entries 44, 45. -/
def Obligations.FramesAreCommitted : Prop :=
  (∀ (c : Fin 128) (h : Fin 2) (f : Nat) (s : State),
      s.alive = true →
      (s.pair c.val).last ≤ f →
      s.get (F.LANE_CFG_ROLE (2 * c.val + h.val)) ≠ 2 →
      ∃ t, exec (.frameCommit c f) s = .next t
        ∧ ((t.lane (2 * c.val + h.val)).committed.find? (fun x => x.frame == f) = some ⟨f, (List.range 12).map (fun k => (((s.lane (2 * c.val + h.val)).store.find? fun e => e.frame == f && e.slot == k).map fun e => e.word).getD 0), s.forcesSafe⟩)
        ∧ ((t.lane (2 * c.val + h.val)).store = (s.lane (2 * c.val + h.val)).store.filter (fun e => decide (f < e.frame)))
        ∧ t.get (F.LANE_STORE_COUNT (2 * c.val + h.val)) = ((s.lane (2 * c.val + h.val)).store.filter (fun e => decide (f < e.frame))).length % 64
        ∧ (t.lane (2 * c.val + h.val) = { s.lane (2 * c.val + h.val) with store := (t.lane (2 * c.val + h.val)).store, committed := (t.lane (2 * c.val + h.val)).committed })
        ∧ (t.pair c.val).last = f + 1
        ∧ (t.pair c.val).complete = (s.pair c.val).complete.filter (fun k => decide (f < k))
        ∧ t.pair c.val = { s.pair c.val with last := (t.pair c.val).last, complete := (t.pair c.val).complete }
        ∧ t.now = max s.now (deadlineOf f)
        ∧ (∀ key, key ∉ ([2 * c.val, 2 * c.val + 1] : List Nat) → t.lane key = s.lane key)
        ∧ (∀ key, key ∉ ([c.val] : List Nat) → t.pair key = s.pair key)) ∧
  (∀ (c : Fin 128) (h : Fin 2) (f : Nat) (s : State),
      s.alive = true →
      (s.pair c.val).last ≤ f →
      s.get (F.LANE_CFG_ROLE (2 * c.val + h.val)) = 2 →
      ∃ t, exec (.frameCommit c f) s = .next t
        ∧ ((t.lane (2 * c.val + h.val)).committed.find? (fun x => x.frame == f) = some ⟨f, List.replicate 12 0, s.forcesSafe⟩)
        ∧ (t.lane (2 * c.val + h.val)).store = []
        ∧ t.rdN (R.LANE_DISCARDED (2 * c.val + h.val)) = min 0xFFFFFFFF (s.rdN (R.LANE_DISCARDED (2 * c.val + h.val)) + (s.lane (2 * c.val + h.val)).store.length)
        ∧ (t.pair c.val).last = f + 1) ∧
  (∀ (c : Fin 128) (h : Fin 2) (n f : Nat) (w : List (BitVec 64)) (s : State),
      s.alive = true →
      (s.pair c.val).last ≤ f →
      s.holder c.val = some n →
      n < 132 →
      w.length = 7 →
      (∀ i : Nat, i < 7 → s.memWord (pairRegion n + 0x380 + h.val * 0x40 + 8 * i) = gridEncode (w.getD i 0)) →
      ∃ t, exec (.frameCommit c f) s = .next t
        ∧ (∀ i : Nat, i < 7 → t.memWord (0x22000000 + ((2 * c.val + h.val) * 12 + i) * 0x100 + 0xF8) = gridEncode (w.getD i 0))
        ∧ t.memWord (0x22000000 + ((2 * c.val + h.val) * 12 + 7) * 0x100 + 0xF8) = gridEncode (BitVec.ofNat 32 f ++ crc32c (w.flatMap fun v => bytesLE 8 v.toNat))) ∧
  (∀ (c : Fin 128) (n f : Nat) (s : State),
      s.alive = true →
      (s.pair c.val).last ≤ f →
      s.holder c.val = some n →
      n < 132 →
      s.bit F.CLK_CTL_CORE = true →
      (s.pair c.val).complete.contains f = true →
      (∀ i : Nat, i < 14 → gridClassify (s.memWord (pairRegion n + 0x380 + i / 7 * 0x40 + 8 * (i % 7))) = .clean) →
      ∃ t, exec (.frameCommit c f) s = .next t
        ∧ t.get (F.CHT_C_STAT_MISS_RUN n) = 0
        ∧ t = { s with regs := t.regs, now := t.now, mem := t.mem, lanes := t.lanes, pairs := t.pairs }
        ∧ (∀ adr, adr ∉ ([R.CHT_C_STAT n, R.LANE_DISCARDED (2 * c.val), R.LANE_DISCARDED (2 * c.val + 1), R.LANE_STORE (2 * c.val), R.LANE_STORE (2 * c.val + 1)] : List Nat) → t.rd adr = s.rd adr)) ∧
  (∀ (c : Fin 128) (n f : Nat) (s : State),
      s.alive = true →
      (s.pair c.val).last ≤ f →
      s.holder c.val = some n →
      n < 132 →
      s.bit F.CLK_CTL_CORE = true →
      (s.pair c.val).complete.contains f = false →
      s.get (F.CHT_C_STAT_MISS_RUN n) ≠ 1 →
      (∀ i : Nat, i < 14 → gridClassify (s.memWord (pairRegion n + 0x380 + i / 7 * 0x40 + 8 * (i % 7))) = .clean) →
      ∃ t, exec (.frameCommit c f) s = .next t
        ∧ t.get (F.CHT_C_STAT_MISS_RUN n) = min 2 (s.get (F.CHT_C_STAT_MISS_RUN n) + 1)
        ∧ t.rdN (R.CHT_C_MISSES n) = min 0xFFFFFFFF (s.rdN (R.CHT_C_MISSES n) + 1)
        ∧ t.bitAt (R.CHT_C_STAT n) 0 = true
        ∧ (s.bitAt (R.CHT_C_STAT n) 0 = false → s.bitAt (R.CHT_C_CTL n) 0 = true → t.isPending (256 + n) = true)
        ∧ t = { s with regs := t.regs, irq := t.irq, now := t.now, mem := t.mem, lanes := t.lanes, pairs := t.pairs }
        ∧ (∀ adr, adr ∉ (R.CHT_C_STAT n :: R.CHT_C_MISSES n :: R.LANE_DISCARDED (2 * c.val) :: R.LANE_DISCARDED (2 * c.val + 1) :: R.LANE_STORE (2 * c.val) :: R.LANE_STORE (2 * c.val + 1) :: coalesced : List Nat) → t.rd adr = s.rd adr)
        ∧ (∀ num dr, num ∉ ([256 + n] : List Nat) → t.slot num dr = s.slot num dr)) ∧
  (∀ (c : Fin 128) (f : Nat) (s : State),
      s.alive = true →
      (s.pair c.val).last ≤ f →
      s.get (F.CHT_C_STAT_PAIR c.val) = c.val →
      s.bit F.CLK_CTL_CORE = true →
      (s.pair c.val).complete.contains f = false →
      s.get (F.CHT_C_STAT_MISS_RUN c.val) = 1 →
      s.get (F.CHT_GRP_SPARE_STATE (c.val / 32)) = 0 →
      s.claimWaits (c.val / 32) = false →
      s.bist.slice = none →
      ∃ t, exec (.frameCommit c f) s = .next t
        ∧ t.get (F.CHT_C_STAT_MISS_RUN c.val) = 2
        ∧ t.rdN (R.CHT_C_MISSES c.val) = min 0xFFFFFFFF (s.rdN (R.CHT_C_MISSES c.val) + 1)
        ∧ t.bitAt (R.CHT_C_STAT c.val) 0 = true
        ∧ t.claims = s.claims ++ [{ chanter := c.val, kind := .retire, at_ := max s.now (deadlineOf f), made := max s.now (deadlineOf f) }]
        ∧ (t.pair c.val).last = f + 1) ∧
  (∀ (c : Fin 128) (n f : Nat) (s : State),
      s.alive = true →
      (s.pair c.val).last ≤ f →
      s.holder c.val = some n →
      s.bit F.CLK_CTL_CORE = true →
      (s.pair c.val).complete.contains f = false →
      s.get (F.CHT_C_STAT_MISS_RUN n) = 1 →
      (s.get (F.CHT_GRP_SPARE_STATE (c.val / 32)) = 1 ∨ s.get (F.CHT_GRP_SPARE_STATE (c.val / 32)) = 3) →
      s.claimWaits (c.val / 32) = false →
      ∃ t, exec (.frameCommit c f) s = .next t
        ∧ t.get (F.CHT_C_STAT_MISS_RUN n) = 2
        ∧ (n = 128 + c.val / 32 → t.get (F.CHT_GRP_SPARE_STATE (c.val / 32)) = 3)
        ∧ t.bitAt R.SYS_HOLD_CAUSES 2 = true
        ∧ t.mode = (if s.modeIn [M.armed, M.run, M.runSpared] ∧ s.leaving = false then M.hold else s.mode)
        ∧ t.claims = s.claims
        ∧ (t.pair c.val).last = f + 1) ∧
  (∀ (c : Fin 128) (f : Nat) (s : State),
      s.alive = true →
      (s.pair c.val).last ≤ f →
      (s.holder c.val = none ∨ s.bit F.CLK_CTL_CORE = false) →
      (∀ n : Nat, n < 132 → s.holder c.val = some n → ∀ i : Nat, i < 14 → gridClassify (s.memWord (pairRegion n + 0x380 + i / 7 * 0x40 + 8 * (i % 7))) = .clean) →
      ∃ t, exec (.frameCommit c f) s = .next t
        ∧ t = { s with regs := t.regs, now := t.now, mem := t.mem, lanes := t.lanes, pairs := t.pairs }
        ∧ (∀ adr, adr ∉ ([R.LANE_DISCARDED (2 * c.val), R.LANE_DISCARDED (2 * c.val + 1), R.LANE_STORE (2 * c.val), R.LANE_STORE (2 * c.val + 1)] : List Nat) → t.rd adr = s.rd adr)) ∧
  (∀ (c : Fin 128) (f : Nat) (s : State),
      (s.alive = false ∨ f < (s.pair c.val).last) →
      ∃ t, exec (.frameCommit c f) s = .next t
        ∧ t.now = max s.now (deadlineOf f)
        ∧ t = { s with now := t.now })

/-- Chanters are retired, hand over, and are handed back (parts of R20, R109, R126, R127, R129, R130, R131, R132, R133, R136, R176). Group g is n div 32; its spare is chanter 128 + g. (1) CHANTER_RETIRE of a chanter below 128 whose group is ON, its spare IDLE, no claim waiting and no self-test slice running, the 128 words of its pair region clean: RETIRE reads 1, the claim waits from now, and the region (word i stands for any) is copied into the spare's. (2) CHANTER_RETIRE of a spare, or in a group whose spare is not IDLE or where a claim waits, is refused: REFUSED of the group is set. (3) PAIR_HANDOVER at the start of frame f with one claim x of group g due (at least 128 cycles old), a retirement: the pair is the spare's, which enters at 0x0004 with ENTRY 3, in SERVING, MISS_RUN 0; the chanter halts, RETIRED, with no pair, RETIRE 0; SPARE_STATE is SERVING and SERVED shows the pair; event 1 is set on both, and the spare is engaged: RUN becomes RUN-SPARED. (4) The same of a loan, no self-test slice waiting for it: ENTRY is 4, the chanter ON_LOAN, SPARE_STATE ON_LOAN; no redundancy is engaged. (5) The same of a loan's return or a handback: the pair is its own chanter's again, which enters at 0x0004 with ENTRY 5, RUNNING, MISS_RUN 0; the spare halts with no pair, IDLE with SPARE_STATE IDLE, but RETIRED after a handback where SPARE_STATE is FAILED, which stays; event 2 is set on the spare; a handback clears HANDBACK and releases the spare: RUN-SPARED becomes RUN with the last redundancy. (6) With no claim of the group due, nothing is handed over. (7) CHANTER_HANDBACK of a spare that holds a pair, its group ON and SPARE_STATE SERVING or FAILED, no claim waiting, its self-test slice none, its pair region clean: HANDBACK reads 1, the way back is claimed, and the region is copied into that of the pair's own chanter. (8) CHANTER_HANDBACK of any other chanter, of a spare that is IDLE or ON_LOAN or holds no pair, or while a claim waits in the group, is refused: REFUSED of the group is set. (9) NOTE_B_READ answers the value of the oldest note, which leaves, or 0 with none. (10) The copy of a pair region from chanter a to chanter b, every word of it clean or uncorrectable. Good words are copied. A row entry with a bad word is lost: it is EMPTY in the copy, with a note ROW_LOST of b, while there is room, that holds the entry's TAG and number. A bad watch entry becomes a MARK, a bad word of the checkpoint source 0. The region copied from stays. Readings and choices of the model that it rests on: log entries 16, 41, 42, 43, 157. -/
def Obligations.ChanterClaims : Prop :=
  (∀ (ini : Initiator) (n : Fin 132) (i : Fin 128) (v : BitVec 64) (s : State),
      s.sends ini true (R.CHT_C_CTL n.val) = true →
      n.val < 128 →
      s.domOn ((addrDomain (R.CHT_C_CTL n.val)).getD 0) = true →
      s.get (F.CHT_GRP_SPARE_STATE (n.val / 32)) = 0 →
      s.claimWaits (n.val / 32) = false →
      s.bist.slice = none →
      (∀ k : Nat, k < 128 → gridClassify (s.memWord (pairRegion n.val + 8 * k)) = .clean) →
      s.memWord (pairRegion n.val + 8 * i.val) = gridEncode v →
      ∃ t, exec (.chanterRetire ini n) s = .next t
        ∧ t.respCode ini = 0
        ∧ t.bit (F.CHT_C_CTL_RETIRE n.val) = true
        ∧ t.claims = s.claims ++ [{ chanter := n.val, kind := .retire, at_ := s.now, made := s.now }]
        ∧ t.memWord (pairRegion (128 + n.val / 32) + 8 * i.val) = gridEncode v
        ∧ t = { s with regs := t.regs, spine := t.spine, mem := t.mem, claims := t.claims, sec := { s.sec with tapOut := t.sec.tapOut } }
        ∧ (∀ adr, adr ∉ ([R.CHT_C_CTL n.val] : List Nat) → t.rd adr = s.rd adr)
        ∧ (∀ adr, (∀ k : Nat, k < 128 → adr / 8 ≠ (pairRegion (128 + n.val / 32) + 8 * k) / 8) → t.memWord adr = s.memWord adr)) ∧
  (∀ (ini : Initiator) (n : Fin 132) (s : State),
      s.sends ini true (R.CHT_C_CTL n.val) = true →
      s.domOn ((addrDomain (R.CHT_C_CTL n.val)).getD 0) = true →
      (128 ≤ n.val ∨ s.get (F.CHT_GRP_SPARE_STATE (n.val / 32)) ≠ 0 ∨ s.claimWaits (n.val / 32) = true) →
      ∃ t, exec (.chanterRetire ini n) s = .next t
        ∧ t.respCode ini = 0
        ∧ t.bit (F.CHT_GRP_REFUSED (if n.val < 128 then n.val / 32 else n.val - 128)) = true
        ∧ t = { s with regs := t.regs, spine := t.spine, sec := { s.sec with tapOut := t.sec.tapOut } }
        ∧ (∀ adr, adr ∉ ([R.CHT_C_CTL n.val, R.CHT_GRP (if n.val < 128 then n.val / 32 else n.val - 128)] : List Nat) → t.rd adr = s.rd adr)) ∧
  (∀ (g : Fin 4) (f : Nat) (x : Claim) (s : State),
      s.claims.filter (fun y => y.chanter / 32 == g.val && decide (y.at_ + 128 ≤ startOf f)) = [x] →
      x.kind = .retire →
      x.chanter < 128 →
      ∃ t, exec (.pairHandover g f) s = .next t
        ∧ t.claims = s.claims.filter (fun y => !(y.chanter / 32 == g.val && decide (y.at_ + 128 ≤ startOf f)))
        ∧ t.get (F.CHT_C_STAT_PAIR (128 + g.val)) = x.chanter
        ∧ t.get (F.CHT_C_STAT_PAIR x.chanter) = 0xFF
        ∧ t.get (F.CHT_C_STAT_STATE (128 + g.val)) = C.serving
        ∧ t.get (F.CHT_C_STAT_STATE x.chanter) = C.retired
        ∧ t.bit (F.CHT_C_CTL_RETIRE x.chanter) = false
        ∧ t.get (F.CHT_C_STAT_MISS_RUN (128 + g.val)) = 0
        ∧ t.bitAt (R.CHT_C_STAT (128 + g.val)) 1 = true
        ∧ t.bitAt (R.CHT_C_STAT x.chanter) 1 = true
        ∧ (t.engine x.chanter).on = false
        ∧ (t.engine (128 + g.val)).on = true
        ∧ (t.engine (128 + g.val)).pc = 4
        ∧ (t.engine (128 + g.val)).entry = 3
        ∧ t.get (F.CHT_GRP_SPARE_STATE g.val) = 1
        ∧ t.get (F.CHT_GRP_SERVED g.val) = x.chanter % 32
        ∧ t.bitAt R.SYS_SPARED g.val = true
        ∧ t.mode = (if s.mode = M.run ∧ s.leaving = false then M.runSpared else s.mode)
        ∧ t.now = max s.now (startOf f)
        ∧ t = { s with regs := t.regs, irq := t.irq, sessions := t.sessions, modeCtl := t.modeCtl, now := t.now, engines := t.engines, claims := t.claims }
        ∧ (∀ adr, adr ∉ (R.CHT_C_STAT (128 + g.val) :: R.CHT_C_STAT x.chanter :: R.CHT_C_CTL x.chanter :: R.CHT_GRP g.val :: R.SYS_SPARED :: modeRegs : List Nat) → t.rd adr = s.rd adr)
        ∧ (∀ key, key ∉ ([x.chanter, 128 + g.val] : List Nat) → t.engine key = s.engine key)
        ∧ (∀ num dr, num ∉ ([256 + x.chanter, 256 + (128 + g.val), 824] : List Nat) → t.slot num dr = s.slot num dr)) ∧
  (∀ (g : Fin 4) (f : Nat) (x : Claim) (s : State),
      s.claims.filter (fun y => y.chanter / 32 == g.val && decide (y.at_ + 128 ≤ startOf f)) = [x] →
      x.kind = .loan →
      x.chanter < 128 →
      s.bist.slice = none →
      ∃ t, exec (.pairHandover g f) s = .next t
        ∧ t.claims = s.claims.filter (fun y => !(y.chanter / 32 == g.val && decide (y.at_ + 128 ≤ startOf f)))
        ∧ t.get (F.CHT_C_STAT_PAIR (128 + g.val)) = x.chanter
        ∧ t.get (F.CHT_C_STAT_PAIR x.chanter) = 0xFF
        ∧ t.get (F.CHT_C_STAT_STATE (128 + g.val)) = C.serving
        ∧ t.get (F.CHT_C_STAT_STATE x.chanter) = C.onLoan
        ∧ (t.engine x.chanter).on = false
        ∧ (t.engine (128 + g.val)).on = true
        ∧ (t.engine (128 + g.val)).pc = 4
        ∧ (t.engine (128 + g.val)).entry = 4
        ∧ t.get (F.CHT_GRP_SPARE_STATE g.val) = 2
        ∧ t.get (F.CHT_GRP_SERVED g.val) = x.chanter % 32
        ∧ t = { s with regs := t.regs, irq := t.irq, now := t.now, engines := t.engines, claims := t.claims }
        ∧ (∀ adr, adr ∉ (R.CHT_C_STAT (128 + g.val) :: R.CHT_C_STAT x.chanter :: R.CHT_GRP g.val :: coalesced : List Nat) → t.rd adr = s.rd adr)
        ∧ (∀ key, key ∉ ([x.chanter, 128 + g.val] : List Nat) → t.engine key = s.engine key)
        ∧ (∀ num dr, num ∉ ([256 + x.chanter, 256 + (128 + g.val)] : List Nat) → t.slot num dr = s.slot num dr)) ∧
  (∀ (g : Fin 4) (f : Nat) (x : Claim) (s : State),
      s.claims.filter (fun y => y.chanter / 32 == g.val && decide (y.at_ + 128 ≤ startOf f)) = [x] →
      (x.kind = .loanReturn ∨ x.kind = .handback) →
      x.chanter < 128 →
      ∃ t, exec (.pairHandover g f) s = .next t
        ∧ t.claims = s.claims.filter (fun y => !(y.chanter / 32 == g.val && decide (y.at_ + 128 ≤ startOf f)))
        ∧ t.get (F.CHT_C_STAT_PAIR x.chanter) = x.chanter
        ∧ t.get (F.CHT_C_STAT_PAIR (128 + g.val)) = 0xFF
        ∧ t.get (F.CHT_C_STAT_STATE x.chanter) = C.running
        ∧ t.get (F.CHT_C_STAT_MISS_RUN x.chanter) = 0
        ∧ t.get (F.CHT_C_STAT_STATE (128 + g.val)) = (if x.kind = .handback ∧ s.get (F.CHT_GRP_SPARE_STATE g.val) = 3 then C.retired else C.idle)
        ∧ t.get (F.CHT_GRP_SPARE_STATE g.val) = (if x.kind = .handback ∧ s.get (F.CHT_GRP_SPARE_STATE g.val) = 3 then 3 else 0)
        ∧ t.bitAt (R.CHT_C_STAT (128 + g.val)) 2 = true
        ∧ (t.engine (128 + g.val)).on = false
        ∧ (t.engine x.chanter).on = true
        ∧ (t.engine x.chanter).pc = 4
        ∧ (t.engine x.chanter).entry = 5
        ∧ (x.kind = .handback → t.bit (F.CHT_C_CTL_HANDBACK (128 + g.val)) = false ∧ t.bitAt R.SYS_SPARED g.val = false)
        ∧ (x.kind = .handback → s.rdN R.SYS_SPARED = 2 ^ g.val → s.mode = M.runSpared → s.leaving = false → t.mode = M.run)
        ∧ t = { s with regs := t.regs, irq := t.irq, sessions := t.sessions, modeCtl := t.modeCtl, now := t.now, engines := t.engines, claims := t.claims }
        ∧ (∀ adr, adr ∉ (R.CHT_C_STAT (128 + g.val) :: R.CHT_C_STAT x.chanter :: R.CHT_C_CTL (128 + g.val) :: R.CHT_GRP g.val :: R.SYS_SPARED :: modeRegs : List Nat) → t.rd adr = s.rd adr)
        ∧ (∀ key, key ∉ ([x.chanter, 128 + g.val] : List Nat) → t.engine key = s.engine key)
        ∧ (∀ num dr, num ∉ ([256 + (128 + g.val), 824] : List Nat) → t.slot num dr = s.slot num dr)) ∧
  (∀ (g : Fin 4) (f : Nat) (s : State),
      s.claims.filter (fun y => y.chanter / 32 == g.val && decide (y.at_ + 128 ≤ startOf f)) = [] →
      ∃ t, exec (.pairHandover g f) s = .next t
        ∧ t.now = max s.now (startOf f)
        ∧ t = { s with now := t.now }) ∧
  (∀ (ini : Initiator) (g : Fin 4) (c : Fin 128) (i : Fin 128) (v : BitVec 64) (s : State),
      s.sends ini true (R.CHT_C_CTL (128 + g.val)) = true →
      s.domOn ((addrDomain (R.CHT_C_CTL (128 + g.val))).getD 0) = true →
      (s.get (F.CHT_GRP_SPARE_STATE g.val) = 1 ∨ s.get (F.CHT_GRP_SPARE_STATE g.val) = 3) →
      s.claimWaits g.val = false →
      s.bist.slice = none →
      s.get (F.CHT_C_STAT_PAIR (128 + g.val)) = c.val →
      (∀ k : Nat, k < 128 → gridClassify (s.memWord (pairRegion (128 + g.val) + 8 * k)) = .clean) →
      s.memWord (pairRegion (128 + g.val) + 8 * i.val) = gridEncode v →
      ∃ t, exec (.chanterHandback ini ⟨128 + g.val, Nat.add_lt_add_left g.isLt 128⟩) s = .next t
        ∧ t.respCode ini = 0
        ∧ t.bit (F.CHT_C_CTL_HANDBACK (128 + g.val)) = true
        ∧ t.claims = s.claims ++ [{ chanter := c.val, kind := .handback, at_ := s.now, made := s.now }]
        ∧ t.memWord (pairRegion c.val + 8 * i.val) = gridEncode v
        ∧ t = { s with regs := t.regs, spine := t.spine, mem := t.mem, claims := t.claims, sec := { s.sec with tapOut := t.sec.tapOut } }
        ∧ (∀ adr, adr ∉ ([R.CHT_C_CTL (128 + g.val)] : List Nat) → t.rd adr = s.rd adr)
        ∧ (∀ adr, (∀ k : Nat, k < 128 → adr / 8 ≠ (pairRegion c.val + 8 * k) / 8) → t.memWord adr = s.memWord adr)) ∧
  (∀ (ini : Initiator) (n : Fin 132) (s : State),
      s.sends ini true (R.CHT_C_CTL n.val) = true →
      s.domOn ((addrDomain (R.CHT_C_CTL n.val)).getD 0) = true →
      (n.val < 128 ∨ s.get (F.CHT_GRP_SPARE_STATE (n.val - 128)) = 0 ∨ s.get (F.CHT_GRP_SPARE_STATE (n.val - 128)) = 2 ∨ s.get (F.CHT_C_STAT_PAIR n.val) = 0xFF ∨ s.claimWaits (n.val - 128) = true) →
      ∃ t, exec (.chanterHandback ini n) s = .next t
        ∧ t.respCode ini = 0
        ∧ t.bit (F.CHT_GRP_REFUSED (if n.val < 128 then n.val / 32 else n.val - 128)) = true
        ∧ t = { s with regs := t.regs, spine := t.spine, sec := { s.sec with tapOut := t.sec.tapOut } }
        ∧ (∀ adr, adr ∉ ([R.CHT_C_CTL n.val, R.CHT_GRP (if n.val < 128 then n.val / 32 else n.val - 128)] : List Nat) → t.rd adr = s.rd adr)) ∧
  (∀ (ini : Initiator) (s : State),
      s.sends ini false R.CHT_NOTE_B = true →
      ∃ t, exec (.noteBRead ini) s = .next t
        ∧ t.respCode ini = 0
        ∧ t.respData ini = (match s.notes with | n :: _ => n.value.zeroExtend 64 | [] => 0)
        ∧ t.notes = s.notes.tail
        ∧ t = { s with spine := t.spine, notes := t.notes, sec := { s.sec with tapOut := t.sec.tapOut } }) ∧
  (∀ (a b : Fin 132) (t s : State),
      a ≠ b →
      (∀ i : Nat, i < 128 → gridClassify (s.memWord (pairRegion a.val + 8 * i)) = .clean ∨ gridClassify (s.memWord (pairRegion a.val + 8 * i)) = .uncorrectable) →
      t = s.copyRegion (pairRegion a.val) (pairRegion b.val) b.val →
      (∀ i : Nat, i < 128 → 64 ≤ i ∨ (∀ j : Nat, j < 4 → gridClassify (s.memWord (pairRegion a.val + 8 * (i / 4 * 4 + j))) = .clean) → t.memWord (pairRegion b.val + 8 * i) = if gridClassify (s.memWord (pairRegion a.val + 8 * i)) = .clean then s.memWord (pairRegion a.val + 8 * i) else if i < 96 then gridEncode (BitVec.ofNat 64 (2 * 2 ^ 52)) else gridEncode 0)
        ∧ (∀ r : Nat, r < 16 → ([0, 1, 2, 3].any fun j => decide (gridClassify (s.memWord (pairRegion a.val + 8 * (4 * r + j))) = .uncorrectable)) = true → t.memWord (pairRegion b.val + 8 * (4 * r + 2)) = gridEncode 0)
        ∧ t.notes = s.notes ++ ((((List.range 16).filter fun r => [0, 1, 2, 3].any fun j => decide (gridClassify (s.memWord (pairRegion a.val + 8 * (4 * r + j))) = .uncorrectable)).map fun r => (⟨b.val, 7, 0, BitVec.ofNat 32 ((match gridClassify (s.memWord (pairRegion a.val + 32 * r)), gridData (s.memWord (pairRegion a.val + 32 * r)) with | .clean, some w => dbits w 19 12 | _, _ => 0) * 2 ^ 24 + r)⟩ : Note)).take (64 - s.notes.length))
        ∧ t = { s with regs := t.regs, irq := t.irq, mem := t.mem, notes := t.notes, free := t.free }
        ∧ (∀ adr, adr / 8 ∉ ((List.range 128).map fun k => (pairRegion b.val + 8 * k) / 8 : List Nat) → t.memWord adr = s.memWord adr))

/-- The three-register integer instructions (parts of R138, R139, R141, R142, R145, R147, R148, R150). An engine issues the named instruction word: it runs, the word stands at its PC in clean memory, and its guard holds. rd of its bank gets the value, the PC goes on by 4, and nothing else changes. (1) ADD: ra + rb modulo 2^32. (2) SUB: ra - rb modulo 2^32. (3) AND: ra and rb. (4) OR: ra or rb. (5) XOR: ra xor rb. (6) SHL: ra shifted left by rb modulo 32. (7) SHR: ra shifted right by that, zeros coming in. (8) SRA: ra shifted right by that, its sign coming in. (9) MUL: the low 32 bits of ra × rb. (10) MULH with FN 0: the high 32 bits of the signed product. (11) MULH with FN 1: those of the unsigned product. (12) MIN with FN 0: the smaller as signed numbers. (13) MIN with FN 1: the smaller as unsigned numbers. (14) MAX with FN 0: the larger as signed numbers. (15) MAX with FN 1: the larger as unsigned numbers. (16) SEL: ra where the predicate that FN names is 1, else rb. Readings and choices of the model that it rests on: log entries 47. -/
def Obligations.IntegerInstructions : Prop :=
  (∀ (e : Fin 136) (x : FmtT) (s : State),
      s.issues e.val (x.word 0x02) = true →
      x.fn.val = 0 →
      ∃ t, exec (.add e x) s = .next t
        ∧ t.engine e.val = ((s.engine e.val).setReg x.rd.val (s.gr e.val x.ra.val + s.gr e.val x.rb.val)).next
        ∧ t = { s with engines := t.engines }
        ∧ (∀ key, key ∉ ([e.val] : List Nat) → t.engine key = s.engine key)) ∧
  (∀ (e : Fin 136) (x : FmtT) (s : State),
      s.issues e.val (x.word 0x03) = true →
      x.fn.val = 0 →
      ∃ t, exec (.sub e x) s = .next t
        ∧ t.engine e.val = ((s.engine e.val).setReg x.rd.val (s.gr e.val x.ra.val - s.gr e.val x.rb.val)).next
        ∧ t = { s with engines := t.engines }
        ∧ (∀ key, key ∉ ([e.val] : List Nat) → t.engine key = s.engine key)) ∧
  (∀ (e : Fin 136) (x : FmtT) (s : State),
      s.issues e.val (x.word 0x04) = true →
      x.fn.val = 0 →
      ∃ t, exec (.and e x) s = .next t
        ∧ t.engine e.val = ((s.engine e.val).setReg x.rd.val (s.gr e.val x.ra.val &&& s.gr e.val x.rb.val)).next
        ∧ t = { s with engines := t.engines }
        ∧ (∀ key, key ∉ ([e.val] : List Nat) → t.engine key = s.engine key)) ∧
  (∀ (e : Fin 136) (x : FmtT) (s : State),
      s.issues e.val (x.word 0x05) = true →
      x.fn.val = 0 →
      ∃ t, exec (.or e x) s = .next t
        ∧ t.engine e.val = ((s.engine e.val).setReg x.rd.val (s.gr e.val x.ra.val ||| s.gr e.val x.rb.val)).next
        ∧ t = { s with engines := t.engines }
        ∧ (∀ key, key ∉ ([e.val] : List Nat) → t.engine key = s.engine key)) ∧
  (∀ (e : Fin 136) (x : FmtT) (s : State),
      s.issues e.val (x.word 0x06) = true →
      x.fn.val = 0 →
      ∃ t, exec (.xor e x) s = .next t
        ∧ t.engine e.val = ((s.engine e.val).setReg x.rd.val (s.gr e.val x.ra.val ^^^ s.gr e.val x.rb.val)).next
        ∧ t = { s with engines := t.engines }
        ∧ (∀ key, key ∉ ([e.val] : List Nat) → t.engine key = s.engine key)) ∧
  (∀ (e : Fin 136) (x : FmtT) (s : State),
      s.issues e.val (x.word 0x07) = true →
      x.fn.val = 0 →
      ∃ t, exec (.shl e x) s = .next t
        ∧ t.engine e.val = ((s.engine e.val).setReg x.rd.val (s.gr e.val x.ra.val <<< ((s.gr e.val x.rb.val).toNat % 32))).next
        ∧ t = { s with engines := t.engines }
        ∧ (∀ key, key ∉ ([e.val] : List Nat) → t.engine key = s.engine key)) ∧
  (∀ (e : Fin 136) (x : FmtT) (s : State),
      s.issues e.val (x.word 0x08) = true →
      x.fn.val = 0 →
      ∃ t, exec (.shr e x) s = .next t
        ∧ t.engine e.val = ((s.engine e.val).setReg x.rd.val (s.gr e.val x.ra.val >>> ((s.gr e.val x.rb.val).toNat % 32))).next
        ∧ t = { s with engines := t.engines }
        ∧ (∀ key, key ∉ ([e.val] : List Nat) → t.engine key = s.engine key)) ∧
  (∀ (e : Fin 136) (x : FmtT) (s : State),
      s.issues e.val (x.word 0x09) = true →
      x.fn.val = 0 →
      ∃ t, exec (.sra e x) s = .next t
        ∧ t.engine e.val = ((s.engine e.val).setReg x.rd.val ((s.gr e.val x.ra.val).sshiftRight ((s.gr e.val x.rb.val).toNat % 32))).next
        ∧ t = { s with engines := t.engines }
        ∧ (∀ key, key ∉ ([e.val] : List Nat) → t.engine key = s.engine key)) ∧
  (∀ (e : Fin 136) (x : FmtT) (s : State),
      s.issues e.val (x.word 0x0A) = true →
      x.fn.val = 0 →
      ∃ t, exec (.mul e x) s = .next t
        ∧ t.engine e.val = ((s.engine e.val).setReg x.rd.val (BitVec.ofNat 32 ((s.gr e.val x.ra.val).toNat * (s.gr e.val x.rb.val).toNat))).next
        ∧ t = { s with engines := t.engines }
        ∧ (∀ key, key ∉ ([e.val] : List Nat) → t.engine key = s.engine key)) ∧
  (∀ (e : Fin 136) (x : FmtT) (s : State),
      s.issues e.val (x.word 0x0B) = true →
      x.fn.val = 0 →
      ∃ t, exec (.mulh e x) s = .next t
        ∧ t.engine e.val = ((s.engine e.val).setReg x.rd.val (BitVec.ofInt 32 ((s.gr e.val x.ra.val).toInt * (s.gr e.val x.rb.val).toInt / 2 ^ 32))).next
        ∧ t = { s with engines := t.engines }
        ∧ (∀ key, key ∉ ([e.val] : List Nat) → t.engine key = s.engine key)) ∧
  (∀ (e : Fin 136) (x : FmtT) (s : State),
      s.issues e.val (x.word 0x0B) = true →
      x.fn.val = 1 →
      ∃ t, exec (.mulh e x) s = .next t
        ∧ t.engine e.val = ((s.engine e.val).setReg x.rd.val (BitVec.ofNat 32 ((s.gr e.val x.ra.val).toNat * (s.gr e.val x.rb.val).toNat / 2 ^ 32))).next
        ∧ t = { s with engines := t.engines }
        ∧ (∀ key, key ∉ ([e.val] : List Nat) → t.engine key = s.engine key)) ∧
  (∀ (e : Fin 136) (x : FmtT) (s : State),
      s.issues e.val (x.word 0x0C) = true →
      x.fn.val = 0 →
      ∃ t, exec (.min e x) s = .next t
        ∧ t.engine e.val = ((s.engine e.val).setReg x.rd.val (BitVec.ofInt 32 (min (s.gr e.val x.ra.val).toInt (s.gr e.val x.rb.val).toInt))).next
        ∧ t = { s with engines := t.engines }
        ∧ (∀ key, key ∉ ([e.val] : List Nat) → t.engine key = s.engine key)) ∧
  (∀ (e : Fin 136) (x : FmtT) (s : State),
      s.issues e.val (x.word 0x0C) = true →
      x.fn.val = 1 →
      ∃ t, exec (.min e x) s = .next t
        ∧ t.engine e.val = ((s.engine e.val).setReg x.rd.val (BitVec.ofNat 32 (min (s.gr e.val x.ra.val).toNat (s.gr e.val x.rb.val).toNat))).next
        ∧ t = { s with engines := t.engines }
        ∧ (∀ key, key ∉ ([e.val] : List Nat) → t.engine key = s.engine key)) ∧
  (∀ (e : Fin 136) (x : FmtT) (s : State),
      s.issues e.val (x.word 0x0D) = true →
      x.fn.val = 0 →
      ∃ t, exec (.max e x) s = .next t
        ∧ t.engine e.val = ((s.engine e.val).setReg x.rd.val (BitVec.ofInt 32 (max (s.gr e.val x.ra.val).toInt (s.gr e.val x.rb.val).toInt))).next
        ∧ t = { s with engines := t.engines }
        ∧ (∀ key, key ∉ ([e.val] : List Nat) → t.engine key = s.engine key)) ∧
  (∀ (e : Fin 136) (x : FmtT) (s : State),
      s.issues e.val (x.word 0x0D) = true →
      x.fn.val = 1 →
      ∃ t, exec (.max e x) s = .next t
        ∧ t.engine e.val = ((s.engine e.val).setReg x.rd.val (BitVec.ofNat 32 (max (s.gr e.val x.ra.val).toNat (s.gr e.val x.rb.val).toNat))).next
        ∧ t = { s with engines := t.engines }
        ∧ (∀ key, key ∉ ([e.val] : List Nat) → t.engine key = s.engine key)) ∧
  (∀ (e : Fin 136) (x : FmtT) (s : State),
      s.issues e.val (x.word 0x0F) = true →
      x.fn.val < 4 →
      ∃ t, exec (.sel e x) s = .next t
        ∧ (t.engine e.val = ((s.engine e.val).setReg x.rd.val (if (s.engine e.val).st.getLsbD x.fn.val then s.gr e.val x.ra.val else s.gr e.val x.rb.val)).next)
        ∧ t = { s with engines := t.engines }
        ∧ (∀ key, key ∉ ([e.val] : List Nat) → t.engine key = s.engine key))

/-- The instructions with an immediate, the bit-field instructions and NOP (parts of R138, R139, R147, R148, R150). An engine issues the named instruction word: it runs, the word stands at its PC in clean memory, and its guard holds. rd of its bank gets the value, the PC goes on by 4, and nothing else changes. For EXT and DEP, pos is IMM14 [4:0] and w is IMM14 [9:5] + 1. (1) ADDI: ra plus the sign-extended immediate. (2) ANDI: ra and the zero-extended immediate. (3) ORI: ra or it. (4) XORI: ra xor it. (5) SHLI by 0-31. (6) SHRI by 0-31, zeros coming in. (7) SRAI by 0-31, the sign coming in. (8) EXT with IMM14 [10] = 0 and pos + w at most 32: the field of w bits at pos, zero-extended. (9) EXT with IMM14 [10] = 1: the field sign-extended. (10) DEP with pos + w at most 32: rd with that field replaced by the low w bits of ra. (11) MOVI: the sign-extended 18-bit immediate. (12) MOVHI: the immediate times 2^14. (13) NOP: only the PC goes on. Readings and choices of the model that it rests on: log entries 47. -/
def Obligations.ImmediateInstructions : Prop :=
  (∀ (e : Fin 136) (x : FmtI) (s : State),
      s.issues e.val (x.word 0x12) = true →
      ∃ t, exec (.addi e x) s = .next t
        ∧ t.engine e.val = ((s.engine e.val).setReg x.rd.val (s.gr e.val x.ra.val + (BitVec.ofNat 14 x.imm.val).signExtend 32)).next
        ∧ t = { s with engines := t.engines }
        ∧ (∀ key, key ∉ ([e.val] : List Nat) → t.engine key = s.engine key)) ∧
  (∀ (e : Fin 136) (x : FmtI) (s : State),
      s.issues e.val (x.word 0x13) = true →
      ∃ t, exec (.andi e x) s = .next t
        ∧ t.engine e.val = ((s.engine e.val).setReg x.rd.val (s.gr e.val x.ra.val &&& BitVec.ofNat 32 x.imm.val)).next
        ∧ t = { s with engines := t.engines }
        ∧ (∀ key, key ∉ ([e.val] : List Nat) → t.engine key = s.engine key)) ∧
  (∀ (e : Fin 136) (x : FmtI) (s : State),
      s.issues e.val (x.word 0x14) = true →
      ∃ t, exec (.ori e x) s = .next t
        ∧ t.engine e.val = ((s.engine e.val).setReg x.rd.val (s.gr e.val x.ra.val ||| BitVec.ofNat 32 x.imm.val)).next
        ∧ t = { s with engines := t.engines }
        ∧ (∀ key, key ∉ ([e.val] : List Nat) → t.engine key = s.engine key)) ∧
  (∀ (e : Fin 136) (x : FmtI) (s : State),
      s.issues e.val (x.word 0x15) = true →
      ∃ t, exec (.xori e x) s = .next t
        ∧ t.engine e.val = ((s.engine e.val).setReg x.rd.val (s.gr e.val x.ra.val ^^^ BitVec.ofNat 32 x.imm.val)).next
        ∧ t = { s with engines := t.engines }
        ∧ (∀ key, key ∉ ([e.val] : List Nat) → t.engine key = s.engine key)) ∧
  (∀ (e : Fin 136) (x : FmtI) (s : State),
      s.issues e.val (x.word 0x16) = true →
      x.imm.val < 32 →
      ∃ t, exec (.shli e x) s = .next t
        ∧ t.engine e.val = ((s.engine e.val).setReg x.rd.val (s.gr e.val x.ra.val <<< x.imm.val)).next
        ∧ t = { s with engines := t.engines }
        ∧ (∀ key, key ∉ ([e.val] : List Nat) → t.engine key = s.engine key)) ∧
  (∀ (e : Fin 136) (x : FmtI) (s : State),
      s.issues e.val (x.word 0x17) = true →
      x.imm.val < 32 →
      ∃ t, exec (.shri e x) s = .next t
        ∧ t.engine e.val = ((s.engine e.val).setReg x.rd.val (s.gr e.val x.ra.val >>> x.imm.val)).next
        ∧ t = { s with engines := t.engines }
        ∧ (∀ key, key ∉ ([e.val] : List Nat) → t.engine key = s.engine key)) ∧
  (∀ (e : Fin 136) (x : FmtI) (s : State),
      s.issues e.val (x.word 0x18) = true →
      x.imm.val < 32 →
      ∃ t, exec (.srai e x) s = .next t
        ∧ t.engine e.val = ((s.engine e.val).setReg x.rd.val ((s.gr e.val x.ra.val).sshiftRight x.imm.val)).next
        ∧ t = { s with engines := t.engines }
        ∧ (∀ key, key ∉ ([e.val] : List Nat) → t.engine key = s.engine key)) ∧
  (∀ (e : Fin 136) (x : FmtI) (s : State),
      s.issues e.val (x.word 0x1A) = true →
      (x.imm.val < 1024 ∧ (x.imm.val % 32) + (x.imm.val / 32 % 32 + 1) ≤ 32) →
      ∃ t, exec (.ext e x) s = .next t
        ∧ t.engine e.val = ((s.engine e.val).setReg x.rd.val (BitVec.ofNat 32 ((s.gr e.val x.ra.val).toNat / 2 ^ (x.imm.val % 32) % 2 ^ (x.imm.val / 32 % 32 + 1)))).next
        ∧ t = { s with engines := t.engines }
        ∧ (∀ key, key ∉ ([e.val] : List Nat) → t.engine key = s.engine key)) ∧
  (∀ (e : Fin 136) (x : FmtI) (s : State),
      s.issues e.val (x.word 0x1A) = true →
      (1024 ≤ x.imm.val ∧ x.imm.val < 2048 ∧ (x.imm.val % 32) + (x.imm.val / 32 % 32 + 1) ≤ 32) →
      ∃ t, exec (.ext e x) s = .next t
        ∧ t.engine e.val = ((s.engine e.val).setReg x.rd.val ((BitVec.ofNat (x.imm.val / 32 % 32 + 1) ((s.gr e.val x.ra.val).toNat / 2 ^ (x.imm.val % 32))).signExtend 32)).next
        ∧ t = { s with engines := t.engines }
        ∧ (∀ key, key ∉ ([e.val] : List Nat) → t.engine key = s.engine key)) ∧
  (∀ (e : Fin 136) (x : FmtI) (s : State),
      s.issues e.val (x.word 0x1B) = true →
      (x.imm.val < 1024 ∧ (x.imm.val % 32) + (x.imm.val / 32 % 32 + 1) ≤ 32) →
      ∃ t, exec (.dep e x) s = .next t
        ∧ t.engine e.val = ((s.engine e.val).setReg x.rd.val (BitVec.ofNat 32 ((s.gr e.val x.rd.val).toNat % 2 ^ (x.imm.val % 32) + (s.gr e.val x.ra.val).toNat % 2 ^ (x.imm.val / 32 % 32 + 1) * 2 ^ (x.imm.val % 32) + (s.gr e.val x.rd.val).toNat / 2 ^ ((x.imm.val % 32) + (x.imm.val / 32 % 32 + 1)) * 2 ^ ((x.imm.val % 32) + (x.imm.val / 32 % 32 + 1))))).next
        ∧ t = { s with engines := t.engines }
        ∧ (∀ key, key ∉ ([e.val] : List Nat) → t.engine key = s.engine key)) ∧
  (∀ (e : Fin 136) (x : FmtL) (s : State),
      s.issues e.val (x.word 0x1C) = true →
      ∃ t, exec (.movi e x) s = .next t
        ∧ t.engine e.val = ((s.engine e.val).setReg x.rd.val ((BitVec.ofNat 18 x.imm.val).signExtend 32)).next
        ∧ t = { s with engines := t.engines }
        ∧ (∀ key, key ∉ ([e.val] : List Nat) → t.engine key = s.engine key)) ∧
  (∀ (e : Fin 136) (x : FmtL) (s : State),
      s.issues e.val (x.word 0x1D) = true →
      ∃ t, exec (.movhi e x) s = .next t
        ∧ t.engine e.val = ((s.engine e.val).setReg x.rd.val (BitVec.ofNat 32 (x.imm.val * 16384))).next
        ∧ t = { s with engines := t.engines }
        ∧ (∀ key, key ∉ ([e.val] : List Nat) → t.engine key = s.engine key)) ∧
  (∀ (e : Fin 136) (x : FmtJ) (s : State),
      s.issues e.val (x.word 0x01) = true →
      x.imm.val = 0 →
      ∃ t, exec (.nop e x) s = .next t
        ∧ t.engine e.val = (s.engine e.val).next
        ∧ t = { s with engines := t.engines }
        ∧ (∀ key, key ∉ ([e.val] : List Nat) → t.engine key = s.engine key))

/-- Compares, predicate logic and division (parts of R138, R139, R144, R145, R147, R148, R150, R151, R152). An engine issues the named instruction word: it runs, the word stands at its PC in clean memory, and its guard holds. Then the PC goes on by 4, and beside what a clause gives nothing changes. CMP compares ra with rb and writes the predicate FN [1:0]; CMPI compares ra with the sign-extended IMM14 [10:0] and writes the predicate RD. (1) CMP with REL 0: equal. (2) REL 1: not equal. (3) REL 2: less, signed. (4) REL 3: greater or equal, signed. (5) REL 4: less, unsigned. (6) REL 5: greater or equal, unsigned. (7) REL 6: ra and rb share a bit. (8) CMPI with REL 0: equal. (9) REL 2: less, signed. (10) REL 4: less, unsigned. (11) REL 6: they share a bit. (12) REL 1: not equal. (13) REL 3: greater or equal, signed. (14) REL 5: greater or equal, unsigned. (15) PLOG: predicate RD becomes that of predicates RA and RB which FN names: and, or, xor, and not, not RA, RA, 0, 1. (16) DIV with FN 0, divisor not 0 and not -2^31 by -1: rd is the signed quotient rounded toward zero. (17) -2^31 by -1: rd is 0x7FFF_FFFF and ST.OV is set. (18) Divisor 0: rd is 0x7FFF_FFFF for ra not below 0, else 0x8000_0000, and ST.DZ is set. (19) DIV with FN 1, divisor not 0: rd is the unsigned quotient. (20) Divisor 0: rd is 0xFFFF_FFFF and ST.DZ is set. Readings and choices of the model that it rests on: log entries 12, 47. -/
def Obligations.ConditionsAndDivision : Prop :=
  (∀ (e : Fin 136) (x : FmtT) (s : State),
      s.issues e.val (x.word 0x10) = true →
      x.rd.val = 0 →
      x.fn.val / 4 = 0 →
      ∃ t, exec (.cmp e x) s = .next t
        ∧ t.engine e.val = ((s.engine e.val).flag (x.fn.val % 4) (decide (s.gr e.val x.ra.val = s.gr e.val x.rb.val))).next
        ∧ t = { s with engines := t.engines }
        ∧ (∀ key, key ∉ ([e.val] : List Nat) → t.engine key = s.engine key)) ∧
  (∀ (e : Fin 136) (x : FmtT) (s : State),
      s.issues e.val (x.word 0x10) = true →
      x.rd.val = 0 →
      x.fn.val / 4 = 1 →
      ∃ t, exec (.cmp e x) s = .next t
        ∧ t.engine e.val = ((s.engine e.val).flag (x.fn.val % 4) (decide (s.gr e.val x.ra.val ≠ s.gr e.val x.rb.val))).next
        ∧ t = { s with engines := t.engines }
        ∧ (∀ key, key ∉ ([e.val] : List Nat) → t.engine key = s.engine key)) ∧
  (∀ (e : Fin 136) (x : FmtT) (s : State),
      s.issues e.val (x.word 0x10) = true →
      x.rd.val = 0 →
      x.fn.val / 4 = 2 →
      ∃ t, exec (.cmp e x) s = .next t
        ∧ t.engine e.val = ((s.engine e.val).flag (x.fn.val % 4) (decide ((s.gr e.val x.ra.val).toInt < (s.gr e.val x.rb.val).toInt))).next
        ∧ t = { s with engines := t.engines }
        ∧ (∀ key, key ∉ ([e.val] : List Nat) → t.engine key = s.engine key)) ∧
  (∀ (e : Fin 136) (x : FmtT) (s : State),
      s.issues e.val (x.word 0x10) = true →
      x.rd.val = 0 →
      x.fn.val / 4 = 3 →
      ∃ t, exec (.cmp e x) s = .next t
        ∧ t.engine e.val = ((s.engine e.val).flag (x.fn.val % 4) (decide ((s.gr e.val x.rb.val).toInt ≤ (s.gr e.val x.ra.val).toInt))).next
        ∧ t = { s with engines := t.engines }
        ∧ (∀ key, key ∉ ([e.val] : List Nat) → t.engine key = s.engine key)) ∧
  (∀ (e : Fin 136) (x : FmtT) (s : State),
      s.issues e.val (x.word 0x10) = true →
      x.rd.val = 0 →
      x.fn.val / 4 = 4 →
      ∃ t, exec (.cmp e x) s = .next t
        ∧ t.engine e.val = ((s.engine e.val).flag (x.fn.val % 4) (decide ((s.gr e.val x.ra.val).toNat < (s.gr e.val x.rb.val).toNat))).next
        ∧ t = { s with engines := t.engines }
        ∧ (∀ key, key ∉ ([e.val] : List Nat) → t.engine key = s.engine key)) ∧
  (∀ (e : Fin 136) (x : FmtT) (s : State),
      s.issues e.val (x.word 0x10) = true →
      x.rd.val = 0 →
      x.fn.val / 4 = 5 →
      ∃ t, exec (.cmp e x) s = .next t
        ∧ t.engine e.val = ((s.engine e.val).flag (x.fn.val % 4) (decide ((s.gr e.val x.rb.val).toNat ≤ (s.gr e.val x.ra.val).toNat))).next
        ∧ t = { s with engines := t.engines }
        ∧ (∀ key, key ∉ ([e.val] : List Nat) → t.engine key = s.engine key)) ∧
  (∀ (e : Fin 136) (x : FmtT) (s : State),
      s.issues e.val (x.word 0x10) = true →
      x.rd.val = 0 →
      x.fn.val / 4 = 6 →
      ∃ t, exec (.cmp e x) s = .next t
        ∧ t.engine e.val = ((s.engine e.val).flag (x.fn.val % 4) (decide (s.gr e.val x.ra.val &&& (s.gr e.val x.rb.val) ≠ 0))).next
        ∧ t = { s with engines := t.engines }
        ∧ (∀ key, key ∉ ([e.val] : List Nat) → t.engine key = s.engine key)) ∧
  (∀ (e : Fin 136) (x : FmtI) (s : State),
      s.issues e.val (x.word 0x19) = true →
      x.rd.val < 4 →
      x.imm.val / 2048 = 0 →
      ∃ t, exec (.cmpi e x) s = .next t
        ∧ t.engine e.val = ((s.engine e.val).flag x.rd.val (decide (s.gr e.val x.ra.val = (BitVec.ofNat 11 (x.imm.val % 2048)).signExtend 32))).next
        ∧ t = { s with engines := t.engines }
        ∧ (∀ key, key ∉ ([e.val] : List Nat) → t.engine key = s.engine key)) ∧
  (∀ (e : Fin 136) (x : FmtI) (s : State),
      s.issues e.val (x.word 0x19) = true →
      x.rd.val < 4 →
      x.imm.val / 2048 = 2 →
      ∃ t, exec (.cmpi e x) s = .next t
        ∧ t.engine e.val = ((s.engine e.val).flag x.rd.val (decide ((s.gr e.val x.ra.val).toInt < ((BitVec.ofNat 11 (x.imm.val % 2048)).signExtend 32).toInt))).next
        ∧ t = { s with engines := t.engines }
        ∧ (∀ key, key ∉ ([e.val] : List Nat) → t.engine key = s.engine key)) ∧
  (∀ (e : Fin 136) (x : FmtI) (s : State),
      s.issues e.val (x.word 0x19) = true →
      x.rd.val < 4 →
      x.imm.val / 2048 = 4 →
      ∃ t, exec (.cmpi e x) s = .next t
        ∧ t.engine e.val = ((s.engine e.val).flag x.rd.val (decide ((s.gr e.val x.ra.val).toNat < ((BitVec.ofNat 11 (x.imm.val % 2048)).signExtend 32).toNat))).next
        ∧ t = { s with engines := t.engines }
        ∧ (∀ key, key ∉ ([e.val] : List Nat) → t.engine key = s.engine key)) ∧
  (∀ (e : Fin 136) (x : FmtI) (s : State),
      s.issues e.val (x.word 0x19) = true →
      x.rd.val < 4 →
      x.imm.val / 2048 = 6 →
      ∃ t, exec (.cmpi e x) s = .next t
        ∧ t.engine e.val = ((s.engine e.val).flag x.rd.val (decide (s.gr e.val x.ra.val &&& ((BitVec.ofNat 11 (x.imm.val % 2048)).signExtend 32) ≠ 0))).next
        ∧ t = { s with engines := t.engines }
        ∧ (∀ key, key ∉ ([e.val] : List Nat) → t.engine key = s.engine key)) ∧
  (∀ (e : Fin 136) (x : FmtI) (s : State),
      s.issues e.val (x.word 0x19) = true →
      x.rd.val < 4 →
      x.imm.val / 2048 = 1 →
      ∃ t, exec (.cmpi e x) s = .next t
        ∧ t.engine e.val = ((s.engine e.val).flag x.rd.val (decide (s.gr e.val x.ra.val ≠ ((BitVec.ofNat 11 (x.imm.val % 2048)).signExtend 32)))).next
        ∧ t = { s with engines := t.engines }
        ∧ (∀ key, key ∉ ([e.val] : List Nat) → t.engine key = s.engine key)) ∧
  (∀ (e : Fin 136) (x : FmtI) (s : State),
      s.issues e.val (x.word 0x19) = true →
      x.rd.val < 4 →
      x.imm.val / 2048 = 3 →
      ∃ t, exec (.cmpi e x) s = .next t
        ∧ t.engine e.val = ((s.engine e.val).flag x.rd.val (decide (((BitVec.ofNat 11 (x.imm.val % 2048)).signExtend 32).toInt ≤ (s.gr e.val x.ra.val).toInt))).next
        ∧ t = { s with engines := t.engines }
        ∧ (∀ key, key ∉ ([e.val] : List Nat) → t.engine key = s.engine key)) ∧
  (∀ (e : Fin 136) (x : FmtI) (s : State),
      s.issues e.val (x.word 0x19) = true →
      x.rd.val < 4 →
      x.imm.val / 2048 = 5 →
      ∃ t, exec (.cmpi e x) s = .next t
        ∧ t.engine e.val = ((s.engine e.val).flag x.rd.val (decide (((BitVec.ofNat 11 (x.imm.val % 2048)).signExtend 32).toNat ≤ (s.gr e.val x.ra.val).toNat))).next
        ∧ t = { s with engines := t.engines }
        ∧ (∀ key, key ∉ ([e.val] : List Nat) → t.engine key = s.engine key)) ∧
  (∀ (e : Fin 136) (x : FmtT) (s : State),
      s.issues e.val (x.word 0x11) = true →
      (x.rd.val < 4 ∧ x.ra.val < 4 ∧ x.rb.val < 4) →
      x.fn.val < 8 →
      ∃ t, exec (.plog e x) s = .next t
        ∧ t.engine e.val = ((s.engine e.val).flag x.rd.val (([(s.engine e.val).st.getLsbD x.ra.val && (s.engine e.val).st.getLsbD x.rb.val, (s.engine e.val).st.getLsbD x.ra.val || (s.engine e.val).st.getLsbD x.rb.val, (s.engine e.val).st.getLsbD x.ra.val != (s.engine e.val).st.getLsbD x.rb.val, (s.engine e.val).st.getLsbD x.ra.val && !(s.engine e.val).st.getLsbD x.rb.val, !(s.engine e.val).st.getLsbD x.ra.val, (s.engine e.val).st.getLsbD x.ra.val, false, true] : List Bool).getD x.fn.val false)).next
        ∧ t = { s with engines := t.engines }
        ∧ (∀ key, key ∉ ([e.val] : List Nat) → t.engine key = s.engine key)) ∧
  (∀ (e : Fin 136) (x : FmtT) (s : State),
      s.issues e.val (x.word 0x0E) = true →
      x.fn.val = 0 →
      s.gr e.val x.rb.val ≠ 0 →
      (¬ (s.gr e.val x.ra.val = 0x80000000#32 ∧ s.gr e.val x.rb.val = 0xFFFFFFFF#32)) →
      ∃ t, exec (.div e x) s = .next t
        ∧ t.engine e.val = ((s.engine e.val).setReg x.rd.val (BitVec.ofInt 32 (Int.tdiv (s.gr e.val x.ra.val).toInt (s.gr e.val x.rb.val).toInt))).next
        ∧ t = { s with engines := t.engines }
        ∧ (∀ key, key ∉ ([e.val] : List Nat) → t.engine key = s.engine key)) ∧
  (∀ (e : Fin 136) (x : FmtT) (s : State),
      s.issues e.val (x.word 0x0E) = true →
      x.fn.val = 0 →
      s.gr e.val x.ra.val = 0x80000000#32 →
      s.gr e.val x.rb.val = 0xFFFFFFFF#32 →
      ∃ t, exec (.div e x) s = .next t
        ∧ t.engine e.val = (((s.engine e.val).flag 11 true).setReg x.rd.val 0x7FFFFFFF#32).next
        ∧ t = { s with engines := t.engines }
        ∧ (∀ key, key ∉ ([e.val] : List Nat) → t.engine key = s.engine key)) ∧
  (∀ (e : Fin 136) (x : FmtT) (s : State),
      s.issues e.val (x.word 0x0E) = true →
      x.fn.val = 0 →
      s.gr e.val x.rb.val = 0 →
      ∃ t, exec (.div e x) s = .next t
        ∧ (t.engine e.val = (((s.engine e.val).flag 10 true).setReg x.rd.val (if 0 ≤ (s.gr e.val x.ra.val).toInt then 0x7FFFFFFF#32 else 0x80000000#32)).next)
        ∧ t = { s with engines := t.engines }
        ∧ (∀ key, key ∉ ([e.val] : List Nat) → t.engine key = s.engine key)) ∧
  (∀ (e : Fin 136) (x : FmtT) (s : State),
      s.issues e.val (x.word 0x0E) = true →
      x.fn.val = 1 →
      s.gr e.val x.rb.val ≠ 0 →
      ∃ t, exec (.div e x) s = .next t
        ∧ t.engine e.val = ((s.engine e.val).setReg x.rd.val (BitVec.ofNat 32 ((s.gr e.val x.ra.val).toNat / (s.gr e.val x.rb.val).toNat))).next
        ∧ t = { s with engines := t.engines }
        ∧ (∀ key, key ∉ ([e.val] : List Nat) → t.engine key = s.engine key)) ∧
  (∀ (e : Fin 136) (x : FmtT) (s : State),
      s.issues e.val (x.word 0x0E) = true →
      x.fn.val = 1 →
      s.gr e.val x.rb.val = 0 →
      ∃ t, exec (.div e x) s = .next t
        ∧ t.engine e.val = (((s.engine e.val).flag 10 true).setReg x.rd.val 0xFFFFFFFF#32).next
        ∧ t = { s with engines := t.engines }
        ∧ (∀ key, key ∉ ([e.val] : List Nat) → t.engine key = s.engine key))

/-- The accumulator instructions saturate (parts of R138, R139, R142, R143, R145, R147, R148, R152, R153). An engine issues the named instruction word: it runs, the word stands at its PC in clean memory, and its guard holds. Then the PC goes on by 4, and beside what a clause gives nothing changes. An accumulator's new value v outside 48 signed bits is replaced by the nearer limit, with ST.SAT; the other accumulators stay. (1) AMUL: accumulator FN [0] of the bank in use becomes ra × rb. (2) AMAC: it becomes itself plus the product of the low 24 bits of ra and rb, signed. (3) AADD with FN [1] = 0: it becomes itself plus ra. (4) AADD with FN [1] = 1: it becomes ra. (5) ARD with K = FN [6:1] below 48: with v the accumulator, half of 2^K added where FN [7] = 1 and K > 0, shifted right by K, rd becomes v, or the nearer limit of 32 signed bits with ST.OV. (6) ADIV with ra not 0: rd becomes the quotient of the accumulator by ra, rounded toward zero, or the nearer limit of 32 signed bits with ST.OV. (7) ADIV with ra 0: rd is 0x7FFF_FFFF for an accumulator not below 0, else 0x8000_0000, and ST.DZ is set. Readings and choices of the model that it rests on: log entries 47. -/
def Obligations.AccumulatorInstructions : Prop :=
  (∀ (e : Fin 136) (x : FmtT) (v : Int) (s : State),
      s.issues e.val (x.word 0x20) = true →
      (x.rd.val = 0 ∧ x.fn.val < 2) →
      v = (s.gr e.val x.ra.val).toInt * (s.gr e.val x.rb.val).toInt →
      ∃ t, exec (.amul e x) s = .next t
        ∧ t.accu e.val (x.fn.val % 2) = max (-140737488355328) (min v 140737488355327)
        ∧ t.engine e.val = { (if -140737488355328 ≤ v ∧ v ≤ 140737488355327 then s.engine e.val else (s.engine e.val).flag 9 true).next with acc := (t.engine e.val).acc }
        ∧ t = { s with engines := t.engines }
        ∧ (∀ key, key ∉ ([(if (s.engine e.val).st.getLsbD 4 then 2 else 0) + x.fn.val % 2] : List Nat) → Sparse.get (fun _ => 0) (t.engine e.val).acc key = Sparse.get (fun _ => 0) (s.engine e.val).acc key)
        ∧ (∀ key, key ∉ ([e.val] : List Nat) → t.engine key = s.engine key)) ∧
  (∀ (e : Fin 136) (x : FmtT) (v : Int) (s : State),
      s.issues e.val (x.word 0x21) = true →
      (x.rd.val = 0 ∧ x.fn.val < 2) →
      v = s.accu e.val (x.fn.val % 2) + (BitVec.ofNat 24 (s.gr e.val x.ra.val).toNat).toInt * (BitVec.ofNat 24 (s.gr e.val x.rb.val).toNat).toInt →
      ∃ t, exec (.amac e x) s = .next t
        ∧ t.accu e.val (x.fn.val % 2) = max (-140737488355328) (min v 140737488355327)
        ∧ t.engine e.val = { (if -140737488355328 ≤ v ∧ v ≤ 140737488355327 then s.engine e.val else (s.engine e.val).flag 9 true).next with acc := (t.engine e.val).acc }
        ∧ t = { s with engines := t.engines }
        ∧ (∀ key, key ∉ ([(if (s.engine e.val).st.getLsbD 4 then 2 else 0) + x.fn.val % 2] : List Nat) → Sparse.get (fun _ => 0) (t.engine e.val).acc key = Sparse.get (fun _ => 0) (s.engine e.val).acc key)
        ∧ (∀ key, key ∉ ([e.val] : List Nat) → t.engine key = s.engine key)) ∧
  (∀ (e : Fin 136) (x : FmtT) (v : Int) (s : State),
      s.issues e.val (x.word 0x22) = true →
      (x.rd.val = 0 ∧ x.rb.val = 0 ∧ x.fn.val < 2) →
      v = s.accu e.val (x.fn.val % 2) + (s.gr e.val x.ra.val).toInt →
      ∃ t, exec (.aadd e x) s = .next t
        ∧ t.accu e.val (x.fn.val % 2) = max (-140737488355328) (min v 140737488355327)
        ∧ t.engine e.val = { (if -140737488355328 ≤ v ∧ v ≤ 140737488355327 then s.engine e.val else (s.engine e.val).flag 9 true).next with acc := (t.engine e.val).acc }
        ∧ t = { s with engines := t.engines }
        ∧ (∀ key, key ∉ ([(if (s.engine e.val).st.getLsbD 4 then 2 else 0) + x.fn.val % 2] : List Nat) → Sparse.get (fun _ => 0) (t.engine e.val).acc key = Sparse.get (fun _ => 0) (s.engine e.val).acc key)
        ∧ (∀ key, key ∉ ([e.val] : List Nat) → t.engine key = s.engine key)) ∧
  (∀ (e : Fin 136) (x : FmtT) (v : Int) (s : State),
      s.issues e.val (x.word 0x22) = true →
      (x.rd.val = 0 ∧ x.rb.val = 0 ∧ 2 ≤ x.fn.val ∧ x.fn.val < 4) →
      v = (s.gr e.val x.ra.val).toInt →
      ∃ t, exec (.aadd e x) s = .next t
        ∧ t.accu e.val (x.fn.val % 2) = max (-140737488355328) (min v 140737488355327)
        ∧ t.engine e.val = { (if -140737488355328 ≤ v ∧ v ≤ 140737488355327 then s.engine e.val else (s.engine e.val).flag 9 true).next with acc := (t.engine e.val).acc }
        ∧ t = { s with engines := t.engines }
        ∧ (∀ key, key ∉ ([(if (s.engine e.val).st.getLsbD 4 then 2 else 0) + x.fn.val % 2] : List Nat) → Sparse.get (fun _ => 0) (t.engine e.val).acc key = Sparse.get (fun _ => 0) (s.engine e.val).acc key)
        ∧ (∀ key, key ∉ ([e.val] : List Nat) → t.engine key = s.engine key)) ∧
  (∀ (e : Fin 136) (x : FmtT) (v : Int) (s : State),
      s.issues e.val (x.word 0x23) = true →
      (x.ra.val = 0 ∧ x.rb.val = 0 ∧ x.fn.val < 256 ∧ (x.fn.val / 2 % 64) < 48) →
      v = (s.accu e.val (x.fn.val % 2) + if 128 ≤ x.fn.val ∧ 0 < (x.fn.val / 2 % 64) then 2 ^ ((x.fn.val / 2 % 64) - 1) else 0) / 2 ^ (x.fn.val / 2 % 64) →
      ∃ t, exec (.ard e x) s = .next t
        ∧ t.engine e.val = ((if -2147483648 ≤ v ∧ v ≤ 2147483647 then s.engine e.val else (s.engine e.val).flag 11 true).setReg x.rd.val (BitVec.ofInt 32 (max (-2147483648) (min v 2147483647)))).next
        ∧ t = { s with engines := t.engines }
        ∧ (∀ key, key ∉ ([e.val] : List Nat) → t.engine key = s.engine key)) ∧
  (∀ (e : Fin 136) (x : FmtT) (v : Int) (s : State),
      s.issues e.val (x.word 0x24) = true →
      (x.rb.val = 0 ∧ x.fn.val < 2) →
      s.gr e.val x.ra.val ≠ 0 →
      v = Int.tdiv (s.accu e.val (x.fn.val % 2)) (s.gr e.val x.ra.val).toInt →
      ∃ t, exec (.adiv e x) s = .next t
        ∧ t.engine e.val = ((if -2147483648 ≤ v ∧ v ≤ 2147483647 then s.engine e.val else (s.engine e.val).flag 11 true).setReg x.rd.val (BitVec.ofInt 32 (max (-2147483648) (min v 2147483647)))).next
        ∧ t = { s with engines := t.engines }
        ∧ (∀ key, key ∉ ([e.val] : List Nat) → t.engine key = s.engine key)) ∧
  (∀ (e : Fin 136) (x : FmtT) (s : State),
      s.issues e.val (x.word 0x24) = true →
      (x.rb.val = 0 ∧ x.fn.val < 2) →
      s.gr e.val x.ra.val = 0 →
      ∃ t, exec (.adiv e x) s = .next t
        ∧ (t.engine e.val = (((s.engine e.val).flag 10 true).setReg x.rd.val (if 0 ≤ s.accu e.val (x.fn.val % 2) then 0x7FFFFFFF#32 else 0x80000000#32)).next)
        ∧ t = { s with engines := t.engines }
        ∧ (∀ key, key ∉ ([e.val] : List Nat) → t.engine key = s.engine key))

/-- Branches, guards, encodings that are illegal, and the exceptions of engines (parts of R138, R139, R140, R147, R148, R149, R154, R168, R169, R170, R179, R180, R182, R499). In clauses 1 to 5 an engine issues the named word: it runs, the word stands at its PC in clean memory, and its guard holds; beside what the clause gives nothing changes. From clause 6 on, (i, w, ok) is any of the 60 instructions of an engine with any operands, its word and whether its encoding is legal (engineForms). (1) BR: the PC becomes PC + 4 × sext(IMM22). (2) CALL: the same, and G15 gets PC + 4. (3) JR to an aligned ra: the PC becomes ra; with FN [0] = 1 G15 gets PC + 4. (4) FENCE on a chanter, or on a drone with no posted store without its response: the PC goes on by 4. (5) FENCE on a drone with one: it waits. (6) Legal, its guard false: it takes one instruction, with no effect: the PC goes on by 4. (7) An engine that does not run, or at whose PC another defined word stands, does nothing. (8) On a chanter, an illegal encoding or a reserved COND is the exception ILLEGAL (1), a PC beyond its instruction memory ACCESS (3): it halts, STATE is EXCEPTION, EXC_PC and GETS hold the cause and the PC, and event 7 is set; a pair's own chanter whose group has its spare IDLE, with no claim waiting and no self-test slice running, is claimed for retirement. (9) On a drone that has had no failure in the last second: it halts, the cause and the PC are recorded, a restart with ENTRY 2 is due, and 388 + its number is raised on the other drones. (10) An uncorrectable word at the PC is the exception POISON_I (4): the engine halts with the cause and the PC recorded. (11) JR to a target that is no multiple of 4 is the exception ALIGN (2): the same of a chanter and of a drone. Readings and choices of the model that it rests on: log entries 47, 48, 50. -/
def Obligations.BranchesAndExceptions : Prop :=
  (∀ (e : Fin 136) (x : FmtJ) (s : State),
      s.issues e.val (x.word 0x30) = true →
      ∃ t, exec (.br e x) s = .next t
        ∧ t.engine e.val = { s.engine e.val with pc := (s.engine e.val).pc + (BitVec.ofNat 22 x.imm.val).signExtend 32 * 4#32 }
        ∧ t = { s with engines := t.engines }
        ∧ (∀ key, key ∉ ([e.val] : List Nat) → t.engine key = s.engine key)) ∧
  (∀ (e : Fin 136) (x : FmtJ) (s : State),
      s.issues e.val (x.word 0x31) = true →
      ∃ t, exec (.call e x) s = .next t
        ∧ t.engine e.val = { (s.engine e.val).setReg 15 ((s.engine e.val).pc + 4#32) with pc := (s.engine e.val).pc + (BitVec.ofNat 22 x.imm.val).signExtend 32 * 4#32 }
        ∧ t = { s with engines := t.engines }
        ∧ (∀ key, key ∉ ([e.val] : List Nat) → t.engine key = s.engine key)) ∧
  (∀ (e : Fin 136) (x : FmtT) (s : State),
      s.issues e.val (x.word 0x32) = true →
      (x.rd.val = 0 ∧ x.rb.val = 0 ∧ x.fn.val < 2) →
      (s.gr e.val x.ra.val).toNat % 4 = 0 →
      ∃ t, exec (.jr e x) s = .next t
        ∧ (t.engine e.val = { (if x.fn.val = 1 then (s.engine e.val).setReg 15 ((s.engine e.val).pc + 4#32) else s.engine e.val) with pc := s.gr e.val x.ra.val })
        ∧ t = { s with engines := t.engines }
        ∧ (∀ key, key ∉ ([e.val] : List Nat) → t.engine key = s.engine key)) ∧
  (∀ (e : Fin 136) (x : FmtJ) (s : State),
      s.issues e.val (x.word 0x33) = true →
      x.imm.val = 0 →
      (e.val < 132 ∨ (s.engine e.val).posted = []) →
      ∃ t, exec (.fence e x) s = .next t
        ∧ t.engine e.val = (s.engine e.val).next
        ∧ t = { s with engines := t.engines }
        ∧ (∀ key, key ∉ ([e.val] : List Nat) → t.engine key = s.engine key)) ∧
  (∀ (e : Fin 136) (x : FmtJ) (s : State),
      s.issues e.val (x.word 0x33) = true →
      x.imm.val = 0 →
      132 ≤ e.val →
      (s.engine e.val).posted ≠ [] →
      ∃ t, exec (.fence e x) s = .next t
        ∧ t.engine e.val = { s.engine e.val with wait := .fence }
        ∧ t = { s with engines := t.engines }
        ∧ (∀ key, key ∉ ([e.val] : List Nat) → t.engine key = s.engine key)) ∧
  (∀ (e : Fin 136) (xt : FmtT) (xi : FmtI) (xl : FmtL) (xj : FmtJ) (i : Instr) (w : Word) (ok : Bool) (s : State),
      (i, w, ok) ∈ engineForms e xt xi xl xj →
      s.fetches e.val w = true →
      s.guard e.val (bitsOf w 31 28) = some false →
      ok = true →
      ∃ t, exec i s = .next t
        ∧ t.engine e.val = (s.engine e.val).next
        ∧ t = { s with engines := t.engines }
        ∧ (∀ key, key ∉ ([e.val] : List Nat) → t.engine key = s.engine key)) ∧
  (∀ (e : Fin 136) (xt : FmtT) (xi : FmtI) (xl : FmtL) (xj : FmtJ) (i : Instr) (w : Word) (ok : Bool) (v : Word) (s : State),
      (i, w, ok) ∈ engineForms e xt xi xl xj →
      (s.engineRuns e.val = false ∨ (s.fetches e.val v = true ∧ v ≠ w ∧ wordDefined v = true)) →
      ∃ t, exec i s = .next t
        ∧ t = s) ∧
  (∀ (e : Fin 136) (xt : FmtT) (xi : FmtI) (xl : FmtL) (xj : FmtJ) (k : Nat) (i : Instr) (w : Word) (ok : Bool) (s : State),
      (i, w, ok) ∈ engineForms e xt xi xl xj →
      ((k = 1 ∧ s.fetches e.val w = true ∧ (ok = false ∨ s.guard e.val (bitsOf w 31 28) = none)) ∨ (k = 3 ∧ s.engineRuns e.val = true ∧ (if e.val < 132 then 0x4000 else 0x10000) ≤ (s.engine e.val).pc.toNat)) →
      e.val < 132 →
      s.bist.slice = none →
      ∃ t, exec i s = .next t
        ∧ t.engine e.val = { s.engine e.val with on := false, wait := .none, exc := BitVec.ofNat 32 (k * 2 ^ 28 + (s.engine e.val).pc.toNat % 2 ^ 16) }
        ∧ t.get (F.CHT_C_STAT_STATE e.val) = C.exception
        ∧ t.rdN (R.CHT_C_EXC_PC e.val) = k * 2 ^ 28 + (s.engine e.val).pc.toNat % 2 ^ 16
        ∧ t.bitAt (R.CHT_C_STAT e.val) 7 = true
        ∧ (s.bitAt (R.CHT_C_STAT e.val) 7 = false → s.bitAt (R.CHT_C_CTL e.val) 7 = true → t.isPending (256 + e.val) = true)
        ∧ (e.val < 128 → s.get (F.CHT_GRP_SPARE_STATE (e.val / 32)) = 0 → s.claimWaits (e.val / 32) = false → t.claims = s.claims ++ [{ chanter := e.val, kind := .retire, at_ := s.now, made := s.now }])
        ∧ t = { s with regs := t.regs, irq := t.irq, sessions := t.sessions, modeCtl := t.modeCtl, mem := t.mem, notes := t.notes, engines := t.engines, claims := t.claims }
        ∧ (∀ key, key ∉ ([e.val] : List Nat) → t.engine key = s.engine key)) ∧
  (∀ (e : Fin 136) (xt : FmtT) (xi : FmtI) (xl : FmtL) (xj : FmtJ) (k : Nat) (i : Instr) (w : Word) (ok : Bool) (s : State),
      (i, w, ok) ∈ engineForms e xt xi xl xj →
      ((k = 1 ∧ s.fetches e.val w = true ∧ (ok = false ∨ s.guard e.val (bitsOf w 31 28) = none)) ∨ (k = 3 ∧ s.engineRuns e.val = true ∧ (if e.val < 132 then 0x4000 else 0x10000) ≤ (s.engine e.val).pc.toNat)) →
      132 ≤ e.val →
      (∀ a : Nat, (s.drone (e.val - 132)).lastExpiry = some a → secCycles ≤ s.now - a) →
      ∃ t, exec i s = .next t
        ∧ t.engine e.val = { s.engine e.val with on := false, wait := .none, exc := BitVec.ofNat 32 (k * 2 ^ 28 + (s.engine e.val).pc.toNat % 2 ^ 16) }
        ∧ t.drone (e.val - 132) = { s.drone (e.val - 132) with lastExpiry := some s.now, restart := some 2 }
        ∧ (∀ n : Fin 4, n.val ≠ e.val - 132 → s.retired n.val = false → (t.slot (388 + (e.val - 132)) n.val).pend = true)
        ∧ t = { s with regs := t.regs, irq := t.irq, engines := t.engines, drones := t.drones }
        ∧ (∀ adr, adr ∉ (coalesced : List Nat) → t.rd adr = s.rd adr)
        ∧ (∀ key, key ∉ ([e.val] : List Nat) → t.engine key = s.engine key)
        ∧ (∀ key, key ∉ ([e.val - 132] : List Nat) → t.drone key = s.drone key)
        ∧ (∀ num dr, num ∉ ([388 + (e.val - 132)] : List Nat) → t.slot num dr = s.slot num dr)) ∧
  (∀ (e : Fin 136) (xt : FmtT) (xi : FmtI) (xl : FmtL) (xj : FmtJ) (i : Instr) (w : Word) (ok : Bool) (s : State),
      (i, w, ok) ∈ engineForms e xt xi xl xj →
      s.engineRuns e.val = true →
      (s.engine e.val).pc.toNat < (if e.val < 132 then 0x4000 else 0x10000) →
      gridClassify (s.memWord (engineBase e.val + (s.engine e.val).pc.toNat)) = .uncorrectable →
      ∃ t, exec i s = .next t
        ∧ (t.engine e.val).on = false
        ∧ (t.engine e.val).exc = BitVec.ofNat 32 (4 * 2 ^ 28 + (s.engine e.val).pc.toNat % 2 ^ 16)
        ∧ (∀ key, key ∉ ([e.val] : List Nat) → t.engine key = s.engine key)) ∧
  (∀ (e : Fin 136) (x : FmtT) (s : State),
      s.issues e.val (x.word 0x32) = true →
      (x.rd.val = 0 ∧ x.rb.val = 0 ∧ x.fn.val < 2) →
      (s.gr e.val x.ra.val).toNat % 4 ≠ 0 →
      ∃ t, exec (.jr e x) s = .next t
        ∧ t = s.exception e.val 2
        ∧ (t.engine e.val).on = false
        ∧ (t.engine e.val).exc = BitVec.ofNat 32 (2 * 2 ^ 28 + (s.engine e.val).pc.toNat % 2 ^ 16)
        ∧ (∀ key, key ∉ ([e.val] : List Nat) → t.engine key = s.engine key))

/-- Loads and stores of engines, in their own memory and over the spine (parts of R11, R12, R154, R168, R169, R170, R171, R172, R179, R480). In clauses 1 to 10 an engine issues the named word: it runs, the word stands at its PC in clean memory, and its guard holds; a is ra + sext(IMM14), and beside what the clause gives nothing changes. The engine's own memory m for a is the data memory at a below 0x2000 of a chanter, and the instruction and data memory at a below 0x2_0000 of a drone. (1) LDW at a multiple of 4 in its own memory, the word v clean: rd gets the low half of v, or the high half where a mod 8 is 4. (2) LDD with rd even, at a multiple of 8 there: rd gets the low half and rd + 1 the high half. (3) LDW, or LDD with rd even, of an aligned uncorrectable word there is the exception POISON_D (5). (4) STD with rd even, at a multiple of 8 in its own data memory: the word there becomes {rd + 1, rd}, and no other word changes. (5) A drone's LDW over the spine (a from 0x2_0000, a multiple of 4) waits for its response. (6) Its LDD with rd even at a multiple of 8, not of a register block, likewise. (7) Its STW of a register, a a multiple of 4, is posted, and the PC goes on by 4; with four stores posted it waits. (8) Its STD with rd even at a multiple of 8 over the spine, not of a register block, likewise, with {rd + 1, rd}. (9) Of LDW, LDD, STW (a drone's) and STD (LDD and STD with rd even), an address that is no multiple of the width n is the exception ALIGN (2). (10) An aligned address that R168 to R171 do not allow is ACCESS (3): of a chanter from 0x2000; of a drone a store to its instruction memory, STW to its data memory or to a grid-coded memory, LDD and STD of a register block. (11) SPINE_LOAD_COMPLETE of a drone that waits for the load of a and has no posted store, whose access the spine answers without error, with data v, leaving state u: rd gets the low half of v, of an LDD rd + 1 the high half, and the drone goes on. (12) Answered with an error r: the same with the data that the error returns, and ST.BE is set, GETS items 10 and 11 hold the code and the address, and IRQ.BERR_COUNT counts it. (13) An address that decodes to nothing is answered DECODE (1) with data 0, one in a domain that is not ON and is not woken by accesses DOMAIN_OFF (4) with 0xDEAD_0FF0, and a register of a plain RC row without error, with its word, which then reads 0. (14) Where no load waits, or earlier stores have no response, SPINE_LOAD_COMPLETE does nothing. (15) POSTED_STORE_RESPONSE of a drone whose oldest posted store p the spine answers, with code r, leaving state u: p leaves the list; a fifth store that waits is posted, and a FENCE goes on when p was the last; an error sets ST.BE and GETS items 10 and 11. (16) Of a register whose row has no act, written with a word that meets no reserved encoding, in a domain that is ON: the answer has no error, and every field takes what its access code gives. (17) With no posted store POSTED_STORE_RESPONSE does nothing. Readings and choices of the model that it rests on: log entries 47, 48, 49. -/
def Obligations.LoadsAndStores : Prop :=
  (∀ (e : Fin 136) (x : FmtI) (a m : Nat) (v : BitVec 64) (s : State),
      s.issues e.val (x.word 0x28) = true →
      a = (s.gr e.val x.ra.val + x.sext).toNat →
      a < (if e.val < 132 then 0x2000 else 0x20000) →
      m = (if e.val < 132 then engineData e.val else engineBase e.val) + a →
      a % 4 = 0 →
      s.memWord m = gridEncode v →
      ∃ t, exec (.ldw e x) s = .next t
        ∧ t.engine e.val = ((s.engine e.val).setReg x.rd.val (if a % 8 = 0 then v.truncate 32 else (v >>> 32).truncate 32)).next
        ∧ t = { s with engines := t.engines }
        ∧ (∀ key, key ∉ ([e.val] : List Nat) → t.engine key = s.engine key)) ∧
  (∀ (e : Fin 136) (x : FmtI) (a m : Nat) (v : BitVec 64) (s : State),
      s.issues e.val (x.word 0x29) = true →
      a = (s.gr e.val x.ra.val + x.sext).toNat →
      a < (if e.val < 132 then 0x2000 else 0x20000) →
      m = (if e.val < 132 then engineData e.val else engineBase e.val) + a →
      x.rd.val % 2 = 0 →
      a % 8 = 0 →
      s.memWord m = gridEncode v →
      ∃ t, exec (.ldd e x) s = .next t
        ∧ t.engine e.val = (((s.engine e.val).setReg x.rd.val (v.truncate 32)).setReg (x.rd.val + 1) ((v >>> 32).truncate 32)).next
        ∧ t = { s with engines := t.engines }
        ∧ (∀ key, key ∉ ([e.val] : List Nat) → t.engine key = s.engine key)) ∧
  (∀ (e : Fin 136) (x : FmtI) (a m : Nat) (i : Instr) (w : Word) (n : Nat) (s : State),
      (i, w, n) ∈ [(.ldw e x, x.word 0x28, 4), (.ldd e x, x.word 0x29, 8)] →
      s.issues e.val w = true →
      a = (s.gr e.val x.ra.val + x.sext).toNat →
      a < (if e.val < 132 then 0x2000 else 0x20000) →
      m = (if e.val < 132 then engineData e.val else engineBase e.val) + a →
      (n = 8 → x.rd.val % 2 = 0) →
      a % n = 0 →
      gridClassify (s.memWord m) = .uncorrectable →
      ∃ t, exec i s = .next t
        ∧ (t.engine e.val).on = false
        ∧ (t.engine e.val).exc = BitVec.ofNat 32 (5 * 2 ^ 28 + (s.engine e.val).pc.toNat % 2 ^ 16)
        ∧ (∀ key, key ∉ ([e.val] : List Nat) → t.engine key = s.engine key)) ∧
  (∀ (e : Fin 136) (x : FmtI) (a m : Nat) (s : State),
      s.issues e.val (x.word 0x2B) = true →
      a = (s.gr e.val x.ra.val + x.sext).toNat →
      a < (if e.val < 132 then 0x2000 else 0x20000) →
      m = (if e.val < 132 then engineData e.val else engineBase e.val) + a →
      (132 ≤ e.val → 0x10000 ≤ a) →
      x.rd.val % 2 = 0 →
      a % 8 = 0 →
      ∃ t, exec (.std e x) s = .next t
        ∧ t.memWord m = gridEncode (s.gr e.val (x.rd.val + 1) ++ s.gr e.val x.rd.val)
        ∧ t.engine e.val = (s.engine e.val).next
        ∧ t = { s with mem := t.mem, engines := t.engines }
        ∧ (∀ key, key ∉ ([e.val] : List Nat) → t.engine key = s.engine key)
        ∧ (∀ adr, adr / 8 ≠ m / 8 → t.memWord adr = s.memWord adr)) ∧
  (∀ (e : Fin 136) (x : FmtI) (a : Nat) (s : State),
      s.issues e.val (x.word 0x28) = true →
      a = (s.gr e.val x.ra.val + x.sext).toNat →
      132 ≤ e.val →
      0x20000 ≤ a →
      a % 4 = 0 →
      ∃ t, exec (.ldw e x) s = .next t
        ∧ t.engine e.val = { s.engine e.val with wait := .load false x.rd.val a }
        ∧ t = { s with engines := t.engines }
        ∧ (∀ key, key ∉ ([e.val] : List Nat) → t.engine key = s.engine key)) ∧
  (∀ (e : Fin 136) (x : FmtI) (a : Nat) (s : State),
      s.issues e.val (x.word 0x29) = true →
      a = (s.gr e.val x.ra.val + x.sext).toNat →
      132 ≤ e.val →
      0x20000 ≤ a →
      (a < 0x10000000 ∨ 0x10140000 ≤ a) →
      x.rd.val % 2 = 0 →
      a % 8 = 0 →
      ∃ t, exec (.ldd e x) s = .next t
        ∧ t.engine e.val = { s.engine e.val with wait := .load true x.rd.val a }
        ∧ t = { s with engines := t.engines }
        ∧ (∀ key, key ∉ ([e.val] : List Nat) → t.engine key = s.engine key)) ∧
  (∀ (e : Fin 136) (x : FmtI) (a : Nat) (s : State),
      s.issues e.val (x.word 0x2A) = true →
      a = (s.gr e.val x.ra.val + x.sext).toNat →
      132 ≤ e.val →
      0x10000000 ≤ a →
      a < 0x10140000 →
      a % 4 = 0 →
      ∃ t, exec (.stw e x) s = .next t
        ∧ t.engine e.val = (if (s.engine e.val).posted.length < 4 then { (s.engine e.val).next with posted := (s.engine e.val).posted ++ [⟨a, false, (s.gr e.val x.rd.val).zeroExtend 64⟩] } else { s.engine e.val with wait := .post ⟨a, false, (s.gr e.val x.rd.val).zeroExtend 64⟩ })
        ∧ t = { s with engines := t.engines }
        ∧ (∀ key, key ∉ ([e.val] : List Nat) → t.engine key = s.engine key)) ∧
  (∀ (e : Fin 136) (x : FmtI) (a : Nat) (s : State),
      s.issues e.val (x.word 0x2B) = true →
      a = (s.gr e.val x.ra.val + x.sext).toNat →
      132 ≤ e.val →
      0x20000 ≤ a →
      (a < 0x10000000 ∨ 0x10140000 ≤ a) →
      x.rd.val % 2 = 0 →
      a % 8 = 0 →
      ∃ t, exec (.std e x) s = .next t
        ∧ t.engine e.val = (if (s.engine e.val).posted.length < 4 then { (s.engine e.val).next with posted := (s.engine e.val).posted ++ [⟨a, true, s.gr e.val (x.rd.val + 1) ++ s.gr e.val x.rd.val⟩] } else { s.engine e.val with wait := .post ⟨a, true, s.gr e.val (x.rd.val + 1) ++ s.gr e.val x.rd.val⟩ })
        ∧ t = { s with engines := t.engines }
        ∧ (∀ key, key ∉ ([e.val] : List Nat) → t.engine key = s.engine key)) ∧
  (∀ (e : Fin 136) (x : FmtI) (a : Nat) (i : Instr) (w : Word) (n : Nat) (st : Bool) (s : State),
      (i, w, n, st) ∈ [(.ldw e x, x.word 0x28, 4, false), (.ldd e x, x.word 0x29, 8, false), (.stw e x, x.word 0x2A, 4, true), (.std e x, x.word 0x2B, 8, true)] →
      s.issues e.val w = true →
      (n = 8 → x.rd.val % 2 = 0) →
      (st = true → n = 4 → 132 ≤ e.val) →
      a = (s.gr e.val x.ra.val + x.sext).toNat →
      a % n ≠ 0 →
      ∃ t, exec i s = .next t
        ∧ t = s.exception e.val 2
        ∧ (t.engine e.val).on = false
        ∧ (t.engine e.val).exc = BitVec.ofNat 32 (2 * 2 ^ 28 + (s.engine e.val).pc.toNat % 2 ^ 16)) ∧
  (∀ (e : Fin 136) (x : FmtI) (a : Nat) (i : Instr) (w : Word) (n : Nat) (st : Bool) (s : State),
      (i, w, n, st) ∈ [(.ldw e x, x.word 0x28, 4, false), (.ldd e x, x.word 0x29, 8, false), (.stw e x, x.word 0x2A, 4, true), (.std e x, x.word 0x2B, 8, true)] →
      s.issues e.val w = true →
      (n = 8 → x.rd.val % 2 = 0) →
      (st = true → n = 4 → 132 ≤ e.val) →
      a = (s.gr e.val x.ra.val + x.sext).toNat →
      a % n = 0 →
      ((e.val < 132 ∧ 0x2000 ≤ a) ∨ (132 ≤ e.val ∧ ((st = true ∧ (a < 0x10000 ∨ (n = 4 ∧ (a < 0x20000 ∨ spineKind a = 1)))) ∨ (n = 8 ∧ 0x10000000 ≤ a ∧ a < 0x10140000)))) →
      ∃ t, exec i s = .next t
        ∧ t = s.exception e.val 3
        ∧ (t.engine e.val).on = false
        ∧ (t.engine e.val).exc = BitVec.ofNat 32 (3 * 2 ^ 28 + (s.engine e.val).pc.toNat % 2 ^ 16)) ∧
  (∀ (d : Fin 4) (dbl : Bool) (rd : Fin 16) (a : Nat) (v : BitVec 64) (u s : State),
      (s.engine (132 + d.val)).wait = .load dbl rd.val a →
      (s.engine (132 + d.val)).posted = [] →
      s.spineTry (.drone d) none false a (if dbl then 8 else 4) 0 0 (.load (132 + d.val)) = (u, some (.ok, v)) →
      ∃ t, exec (.spineLoadComplete d) s = .next t
        ∧ t.respCode (.drone d) = 0
        ∧ t.engine (132 + d.val) = (if dbl then (((u.engine (132 + d.val)).setReg rd.val (v.truncate 32)).setReg (rd.val + 1) ((v >>> 32).truncate 32)) else (u.engine (132 + d.val)).setReg rd.val (v.truncate 32)).next.ready
        ∧ t = { u with engines := t.engines, spine := t.spine }
        ∧ (∀ key, key ∉ ([132 + d.val] : List Nat) → t.engine key = u.engine key)) ∧
  (∀ (d : Fin 4) (dbl : Bool) (rd : Fin 16) (a : Nat) (r : Resp) (v : BitVec 64) (u s : State),
      (s.engine (132 + d.val)).wait = .load dbl rd.val a →
      (s.engine (132 + d.val)).posted = [] →
      s.spineTry (.drone d) none false a (if dbl then 8 else 4) 0 0 (.load (132 + d.val)) = (u, some (r, v)) →
      r ≠ .ok →
      ∃ t, exec (.spineLoadComplete d) s = .next t
        ∧ t.respCode (.drone d) = r.code
        ∧ t.engine (132 + d.val) = (if dbl then ((({ (u.engine (132 + d.val)).flag 13 true with berr := r.code, berrAddr := BitVec.ofNat 32 a }).setReg rd.val (v.truncate 32)).setReg (rd.val + 1) ((v >>> 32).truncate 32)) else ({ (u.engine (132 + d.val)).flag 13 true with berr := r.code, berrAddr := BitVec.ofNat 32 a }).setReg rd.val (v.truncate 32)).next.ready
        ∧ t.rdN R.IRQ_BERR_COUNT = min 0xFFFFFFFF (u.rdN R.IRQ_BERR_COUNT + 1)
        ∧ t = { u with regs := t.regs, irq := t.irq, engines := t.engines, spine := t.spine, berrAt := t.berrAt }
        ∧ (∀ adr, adr ∉ (berrRegs : List Nat) → t.rd adr = u.rd adr)
        ∧ (∀ key, key ∉ ([132 + d.val] : List Nat) → t.engine key = u.engine key)
        ∧ (∀ num dr, num ∉ ([904, 905] : List Nat) → t.slot num dr = u.slot num dr)) ∧
  (∀ (d : Fin 4) (rd : Fin 16) (a : Nat) (s : State),
      (s.engine (132 + d.val)).wait = .load false rd.val a →
      (s.engine (132 + d.val)).posted = [] →
      s.stallFailed (.load (132 + d.val)) = false →
      (spineDecodes a = false ∨ (spineDecodes a = true ∧ s.domOn ((addrDomain a).getD 0) = false ∧ s.bit (F.PWR_D_CTL_WOA ((addrDomain a).getD 0)) = false) ∨ a ∈ [R.IRQ_BERR_COUNT, R.ECC_CORR_COUNT, R.ECC_UNCORR_COUNT]) →
      ∃ t, exec (.spineLoadComplete d) s = .next t
        ∧ t.respCode (.drone d) = (if spineDecodes a = false then 1 else if s.domOn ((addrDomain a).getD 0) = false then 4 else 0)
        ∧ (t.engine (132 + d.val)).reg rd.val = (if spineDecodes a = false then 0 else if s.domOn ((addrDomain a).getD 0) = false then 0xDEAD0FF0#32 else s.rd a)
        ∧ (a ∈ [R.ECC_CORR_COUNT, R.ECC_UNCORR_COUNT] → t.rd a = 0)
        ∧ (t.engine (132 + d.val)).wait = .none
        ∧ (t.engine (132 + d.val)).pc = (s.engine (132 + d.val)).pc + 4#32) ∧
  (∀ (d : Fin 4) (s : State),
      ((s.engine (132 + d.val)).posted ≠ [] ∨ (s.engine (132 + d.val)).wait = .none ∨ (s.engine (132 + d.val)).wait = .fence) →
      ∃ t, exec (.spineLoadComplete d) s = .next t
        ∧ t = s) ∧
  (∀ (d : Fin 4) (p : Posted) (q : List Posted) (r : Resp) (v : BitVec 64) (u s : State),
      (s.engine (132 + d.val)).posted = p :: q →
      s.spineTry (.drone d) none true p.addr (if p.double then 8 else 4) p.value 0 (.store (132 + d.val)) = (u, some (r, v)) →
      u.engine (132 + d.val) = s.engine (132 + d.val) →
      ∃ t, exec (.postedStoreResponse d) s = .next t
        ∧ t.respCode (.drone d) = r.code
        ∧ t.engine (132 + d.val) = storeAnswered (if r = .ok then s.engine (132 + d.val) else { (s.engine (132 + d.val)).flag 13 true with berr := r.code, berrAddr := BitVec.ofNat 32 p.addr })
        ∧ (r = .ok → t = { u with engines := t.engines, spine := t.spine })
        ∧ t = { u with regs := t.regs, irq := t.irq, engines := t.engines, spine := t.spine, berrAt := t.berrAt }
        ∧ (∀ adr, adr ∉ (berrRegs : List Nat) → t.rd adr = u.rd adr)
        ∧ (∀ key, key ∉ ([132 + d.val] : List Nat) → t.engine key = u.engine key)
        ∧ (∀ num dr, num ∉ ([904, 905] : List Nat) → t.slot num dr = u.slot num dr)) ∧
  (∀ (d : Fin 4) (g : RegDesc) (i j : Nat) (p : Posted) (q : List Posted) (s : State),
      (s.engine (132 + d.val)).posted = p :: q →
      p.double = false →
      p.addr % 4 = 0 →
      regRow? p.addr = some (g, i, j) →
      rowActs ((p.addr - 0x10000000) / 0x10000) g.off = false →
      g.takes (p.value.truncate 32) = true →
      s.domOn ((addrDomain p.addr).getD 0) = true →
      s.stallFailed (.store (132 + d.val)) = false →
      ∃ t, exec (.postedStoreResponse d) s = .next t
        ∧ t.respCode (.drone d) = 0
        ∧ (∀ f ∈ g.fields, bitsOf (t.rd p.addr) f.hi f.lo = fieldWritten (s.rd p.addr) (p.value.truncate 32) f)
        ∧ t.engine (132 + d.val) = storeAnswered (s.engine (132 + d.val))
        ∧ t = { s with regs := t.regs, engines := t.engines, spine := t.spine }
        ∧ (∀ adr, adr ∉ ([p.addr] : List Nat) → t.rd adr = s.rd adr)
        ∧ (∀ key, key ∉ ([132 + d.val] : List Nat) → t.engine key = s.engine key)) ∧
  (∀ (d : Fin 4) (s : State),
      (s.engine (132 + d.val)).posted = [] →
      ∃ t, exec (.postedStoreResponse d) s = .next t
        ∧ t = s)

/-- The instructions on time, domains, inserts, ST and interrupts (parts of R77, R78, R144, R155, R157, R158, R159, R164, R166, R177, R178). In each clause an engine issues the named word: it runs, the word stands at its PC in clean memory, and its guard holds. Beside what the clause gives nothing changes. (1) ANGLE of domain A or B (FN 1 or 2), rd a multiple of 8: rd and rd + 1 get the position now with REVERSE, STALLED and VALID, and REV; rd + 2 and rd + 3 SPEED and ACCEL; rd + 4 wheel time; rd + 5 the time of the last edge; rd + 6 the span of the edges averaged (0 before two edges); rd + 7 DOM_HW, where HW has a value. Low 32 bits of each. (2) ANGLE of domain T (FN 3): rd and rd + 1 get T's position and REV with VALID while T runs, else with STALLED; rd + 2 is 4096 · 2^16 by the length of the tick (TICK_CYC while T does not run), where that is not 0; rd + 3 is 0; rd + 4 wheel time; rd + 5 and rd + 6 the times of the last tick and of T's start; rd + 7 DOM_HW, where HW has a value. (3) TIME, rd even: rd and rd + 1 get wheel time. (4) GETS of item 0 to 11: rd gets it. (5) STS with FN[0] = 0: rd gets ST. (6) STS with FN[0] = 1: P0-P3 (on a drone IE_N and IE_F too) take the bits of ra, and the sticky bits 9-13 clear where ra has a 1. (7) WINS with WAIT = 0, fewer than 8 inserts unanswered or unread and fewer than 8 in the port's FIFO: the insert joins the FIFO, rd gets 0xF; a drone's INS_STAT counts it waiting. (8) WINS with WAIT = 1 there: the insert joins the FIFO, and the engine waits for the answer. (9) WINS, 8 inserts in the port's FIFO: rd gets 3 (BUSY) at once, and PORT_BUSY counts. (10) WINS with 8 inserts of the engine unanswered or unread: the engine waits at it. (11) WINSR: rd gets the oldest unread answer, or 0xF, with the number of outstanding inserts in bits 12:8. (12) IRET of the source in service at fast level: PC and ST come from FPC and FST, the source leaves the stack and is no longer active, and may be taken again at once if it is pending. (13) IRET at normal level, the word v at r14 clean: PC and ST come from v, r14 rises by 8; the source likewise. (14) IRET of a source that is not the one in service, or at base level: source 906 is pending, and the PC goes on by 4. (15) IRET at normal level with r14 outside the data memory or no multiple of 8, or the word there uncorrectable: the exception STACK (6). (16) SWI of a source n from 920 to 1,023, in its operand or in ra: n is pending, or, if it was, the raise is merged and counted. (17) SWI of a source below 920 in ra: the exception ACCESS (3). (18) WAITI, no BIST slice running: the drone waits, the PC past the instruction. Readings and choices of the model that it rests on: log entries 47, 49. -/
def Obligations.SpecialInstructions : Prop :=
  (∀ (e : Fin 136) (x : FmtT) (s : State),
      s.issues e.val (x.word 0x34) = true →
      (x.rd.val % 8 = 0 ∧ x.ra.val = 0 ∧ x.rb.val = 0) →
      (x.fn.val = 1 ∨ x.fn.val = 2) →
      ∃ t, exec (.angle e x) s = .next t
        ∧ (t.gr e.val x.rd.val = BitVec.ofNat 32 ((s.shaftPos (x.fn.val - 1) s.now % 16777216).toNat + (if (s.tracker (x.fn.val - 1)).reverse then 2 ^ 24 else 0) + (if (s.tracker (x.fn.val - 1)).stalled then 2 ^ 25 else 0) + (if (s.tracker (x.fn.val - 1)).valid then 2 ^ 26 else 0)))
        ∧ t.gr e.val (x.rd.val + 1) = BitVec.ofInt 32 (s.shaftPos (x.fn.val - 1) s.now / 16777216)
        ∧ t.gr e.val (x.rd.val + 2) = BitVec.ofInt 32 (s.tracker (x.fn.val - 1)).speed
        ∧ t.gr e.val (x.rd.val + 3) = BitVec.ofInt 32 (s.tracker (x.fn.val - 1)).accel
        ∧ t.gr e.val (x.rd.val + 4) = BitVec.ofNat 32 s.now
        ∧ t.gr e.val (x.rd.val + 5) = BitVec.ofNat 32 (s.tracker (x.fn.val - 1)).tk
        ∧ t.gr e.val (x.rd.val + 6) = (match (s.tracker (x.fn.val - 1)).hist[0]?, (s.tracker (x.fn.val - 1)).hist[min ((s.tracker (x.fn.val - 1)).j - 1) (s.shWindow (x.fn.val - 1))]? with | some (_, a, _), some (_, b, _) => BitVec.ofNat 32 (a - b) | _, _ => 0)
        ∧ (s.dom (x.fn.val - 1)).hw.all (fun v => decide (t.gr e.val (x.rd.val + 7) = BitVec.ofInt 32 v)) = true
        ∧ ((List.range 16).all (fun i => (decide (x.rd.val ≤ i) && decide (i < x.rd.val + 8)) || t.gr e.val i == s.gr e.val i) = true)
        ∧ t.engine e.val = { (s.engine e.val).next with regs := (t.engine e.val).regs }
        ∧ t = { s with engines := t.engines, free := t.free }
        ∧ (∀ key, key ∉ ([e.val] : List Nat) → t.engine key = s.engine key)) ∧
  (∀ (e : Fin 136) (x : FmtT) (on : Bool) (n : Nat) (s : State),
      s.issues e.val (x.word 0x34) = true →
      (x.rd.val % 8 = 0 ∧ x.ra.val = 0 ∧ x.rb.val = 0) →
      x.fn.val = 3 →
      on = (s.tRuns && s.tick.started) →
      n = (if on = true then s.tick.len else s.get F.WHEEL_T_CFG_TICK_CYC) →
      ∃ t, exec (.angle e x) s = .next t
        ∧ t.gr e.val x.rd.val = BitVec.ofNat 32 ((s.tPos s.now % 16777216).toNat + (if on = true then 2 ^ 26 else 2 ^ 25))
        ∧ t.gr e.val (x.rd.val + 1) = BitVec.ofInt 32 (s.tPos s.now / 16777216)
        ∧ (n ≠ 0 → t.gr e.val (x.rd.val + 2) = BitVec.ofNat 32 (2 ^ 28 / n))
        ∧ t.gr e.val (x.rd.val + 3) = 0#32
        ∧ t.gr e.val (x.rd.val + 4) = BitVec.ofNat 32 s.now
        ∧ t.gr e.val (x.rd.val + 5) = BitVec.ofNat 32 s.tick.last
        ∧ t.gr e.val (x.rd.val + 6) = BitVec.ofNat 32 s.tick.start
        ∧ (s.dom 2).hw.all (fun v => decide (t.gr e.val (x.rd.val + 7) = BitVec.ofInt 32 v)) = true
        ∧ ((List.range 16).all (fun i => (decide (x.rd.val ≤ i) && decide (i < x.rd.val + 8)) || t.gr e.val i == s.gr e.val i) = true)
        ∧ t.engine e.val = { (s.engine e.val).next with regs := (t.engine e.val).regs }
        ∧ t = { s with engines := t.engines, free := t.free }
        ∧ (∀ key, key ∉ ([e.val] : List Nat) → t.engine key = s.engine key)) ∧
  (∀ (e : Fin 136) (x : FmtT) (s : State),
      s.issues e.val (x.word 0x35) = true →
      (x.rd.val % 2 = 0 ∧ x.ra.val = 0 ∧ x.rb.val = 0 ∧ x.fn.val = 0) →
      ∃ t, exec (.time e x) s = .next t
        ∧ t.engine e.val = (((s.engine e.val).setReg x.rd.val (BitVec.ofNat 32 s.now)).setReg (x.rd.val + 1) (BitVec.ofNat 32 (s.now / 2 ^ 32))).next
        ∧ t = { s with engines := t.engines }
        ∧ (∀ key, key ∉ ([e.val] : List Nat) → t.engine key = s.engine key)) ∧
  (∀ (e : Fin 136) (x : FmtT) (s : State),
      s.issues e.val (x.word 0x36) = true →
      (x.ra.val = 0 ∧ x.rb.val = 0) →
      x.fn.val < 12 →
      ∃ t, exec (.gets e x) s = .next t
        ∧ (t.engine e.val = ((s.engine e.val).setReg x.rd.val (([BitVec.ofNat 32 e.val, s.rd R.SYS_MODE, BitVec.ofNat 32 (s.pairOf e.val), BitVec.ofNat 32 (openFrame s.now), BitVec.ofNat 32 (currentFrame s.now), BitVec.ofNat 32 (s.engine e.val).entry, (if e.val < 132 ∧ s.pairOf e.val < 128 then BitVec.ofNat 32 (s.pair (s.pairOf e.val)).drain.length else 0), (s.engine e.val).exc, s.inService e.val false, s.inService e.val true, BitVec.ofNat 32 (s.engine e.val).berr, (s.engine e.val).berrAddr] : List Word).getD x.fn.val 0)).next)
        ∧ t = { s with engines := t.engines }
        ∧ (∀ key, key ∉ ([e.val] : List Nat) → t.engine key = s.engine key)) ∧
  (∀ (e : Fin 136) (x : FmtT) (s : State),
      s.issues e.val (x.word 0x39) = true →
      (x.fn.val = 0 ∧ x.ra.val = 0 ∧ x.rb.val = 0) →
      ∃ t, exec (.sts e x) s = .next t
        ∧ t.engine e.val = ((s.engine e.val).setReg x.rd.val (s.engine e.val).st).next
        ∧ t = { s with engines := t.engines }
        ∧ (∀ key, key ∉ ([e.val] : List Nat) → t.engine key = s.engine key)) ∧
  (∀ (e : Fin 136) (x : FmtT) (s : State),
      s.issues e.val (x.word 0x39) = true →
      (x.fn.val = 1 ∧ x.rd.val = 0 ∧ x.rb.val = 0) →
      ∃ t, exec (.sts e x) s = .next t
        ∧ t.engine e.val = { (s.engine e.val).next with st := (t.engine e.val).st }
        ∧ ((List.range 32).all (fun b => (t.engine e.val).st.getLsbD b == (if b < 4 ∨ (132 ≤ e.val ∧ (b = 7 ∨ b = 8)) then (s.gr e.val x.ra.val).getLsbD b else if 9 ≤ b ∧ b ≤ 13 then (s.engine e.val).st.getLsbD b && !(s.gr e.val x.ra.val).getLsbD b else (s.engine e.val).st.getLsbD b)) = true)
        ∧ t = { s with engines := t.engines }
        ∧ (∀ key, key ∉ ([e.val] : List Nat) → t.engine key = s.engine key)) ∧
  (∀ (e : Fin 136) (x : FmtT) (s : State),
      s.issues e.val (x.word 0x37) = true →
      x.ra.val % 2 = 0 →
      x.fn.val = 0 →
      (s.engine e.val).inserts + (s.engine e.val).answers.length < 8 →
      (s.portFifo (insertPort (.engine e x.rd false))).length < 8 →
      ∃ t, exec (.wins e x) s = .next t
        ∧ t.portFifo (insertPort (.engine e x.rd false)) = s.portFifo (insertPort (.engine e x.rd false)) ++ [⟨bitsOf (s.gr e.val x.rb.val) 23 16, bitsOf (s.gr e.val x.rb.val) 11 0, s.gr e.val (x.ra.val + 1) ++ s.gr e.val x.ra.val, .engine e x.rd false⟩]
        ∧ t.engine e.val = { ((s.engine e.val).setReg x.rd.val 0xF#32).next with inserts := (s.engine e.val).inserts + 1 }
        ∧ (132 ≤ e.val → t.droneIns (e.val - 132) = { s.droneIns (e.val - 132) with waiting := (s.droneIns (e.val - 132)).waiting + 1 })
        ∧ t = { s with engines := t.engines, wheel := { s.wheel with ports := t.wheel.ports, drones := t.wheel.drones } }
        ∧ (∀ key, key ∉ ([e.val] : List Nat) → t.engine key = s.engine key)
        ∧ (∀ key, key ∉ ([insertPort (.engine e x.rd false)] : List Nat) → t.portFifo key = s.portFifo key)
        ∧ (∀ key, key ∉ (srcDrones (.engine e x.rd false) : List Nat) → t.droneIns key = s.droneIns key)) ∧
  (∀ (e : Fin 136) (x : FmtT) (s : State),
      s.issues e.val (x.word 0x37) = true →
      x.ra.val % 2 = 0 →
      x.fn.val = 1 →
      (s.engine e.val).inserts + (s.engine e.val).answers.length < 8 →
      (s.portFifo (insertPort (.engine e x.rd true))).length < 8 →
      ∃ t, exec (.wins e x) s = .next t
        ∧ t.portFifo (insertPort (.engine e x.rd true)) = s.portFifo (insertPort (.engine e x.rd true)) ++ [⟨bitsOf (s.gr e.val x.rb.val) 23 16, bitsOf (s.gr e.val x.rb.val) 11 0, s.gr e.val (x.ra.val + 1) ++ s.gr e.val x.ra.val, .engine e x.rd true⟩]
        ∧ t.engine e.val = { s.engine e.val with inserts := (s.engine e.val).inserts + 1, wait := .answer x.rd.val }
        ∧ (132 ≤ e.val → t.droneIns (e.val - 132) = { s.droneIns (e.val - 132) with waiting := (s.droneIns (e.val - 132)).waiting + 1 })
        ∧ t = { s with engines := t.engines, wheel := { s.wheel with ports := t.wheel.ports, drones := t.wheel.drones } }
        ∧ (∀ key, key ∉ ([e.val] : List Nat) → t.engine key = s.engine key)
        ∧ (∀ key, key ∉ ([insertPort (.engine e x.rd true)] : List Nat) → t.portFifo key = s.portFifo key)
        ∧ (∀ key, key ∉ (srcDrones (.engine e x.rd true) : List Nat) → t.droneIns key = s.droneIns key)) ∧
  (∀ (e : Fin 136) (x : FmtT) (s : State),
      s.issues e.val (x.word 0x37) = true →
      x.ra.val % 2 = 0 →
      x.fn.val < 2 →
      (s.engine e.val).inserts + (s.engine e.val).answers.length < 8 →
      8 ≤ (s.portFifo (insertPort (.engine e x.rd false))).length →
      ∃ t, exec (.wins e x) s = .next t
        ∧ t.engine e.val = ((s.engine e.val).setReg x.rd.val 3#32).next
        ∧ t.rdN (R.WHEEL_PORT_BUSY (insertPort (.engine e x.rd false))) = min 0xFFFFFFFF (s.rdN (R.WHEEL_PORT_BUSY (insertPort (.engine e x.rd false))) + 1)
        ∧ (132 ≤ e.val → t.droneIns (e.val - 132) = { s.droneIns (e.val - 132) with code := 3 })
        ∧ t = { s with regs := t.regs, engines := t.engines, wheel := { s.wheel with drones := t.wheel.drones } }
        ∧ (∀ adr, adr ∉ ([R.WHEEL_PORT_BUSY (insertPort (.engine e x.rd false))] : List Nat) → t.rd adr = s.rd adr)
        ∧ (∀ key, key ∉ ([e.val] : List Nat) → t.engine key = s.engine key)
        ∧ (∀ key, key ∉ (srcDrones (.engine e x.rd false) : List Nat) → t.droneIns key = s.droneIns key)) ∧
  (∀ (e : Fin 136) (x : FmtT) (s : State),
      s.issues e.val (x.word 0x37) = true →
      x.ra.val % 2 = 0 →
      x.fn.val < 2 →
      8 ≤ (s.engine e.val).inserts + (s.engine e.val).answers.length →
      ∃ t, exec (.wins e x) s = .next t
        ∧ t.engine e.val = { s.engine e.val with wait := .room }
        ∧ t = { s with engines := t.engines }
        ∧ (∀ key, key ∉ ([e.val] : List Nat) → t.engine key = s.engine key)) ∧
  (∀ (e : Fin 136) (x : FmtT) (s : State),
      s.issues e.val (x.word 0x38) = true →
      (x.ra.val = 0 ∧ x.rb.val = 0 ∧ x.fn.val = 0) →
      ∃ t, exec (.winsr e x) s = .next t
        ∧ t.engine e.val = { ((s.engine e.val).setReg x.rd.val (BitVec.ofNat 32 ((s.engine e.val).inserts * 256 + (s.engine e.val).answers.headD 0xF))).next with answers := (s.engine e.val).answers.tail }
        ∧ t = { s with engines := t.engines }
        ∧ (∀ key, key ∉ ([e.val] : List Nat) → t.engine key = s.engine key)) ∧
  (∀ (e : Fin 136) (x : FmtI) (n : Nat) (m : Bool) (r : List (Nat × Bool)) (s : State),
      s.issues e.val (x.word 0x2D) = true →
      132 ≤ e.val →
      x.rd.val = 0 →
      (x.ra.val = 0 ∧ x.imm.val < 1024 ∧ n = x.imm.val ∨ x.imm.val = 8192 ∧ n = (s.gr e.val x.ra.val).toNat % 1024) →
      (s.drone (e.val - 132)).stack = (n, m) :: r →
      s.level (e.val - 132) = Lv.fast →
      ∃ t, exec (.iret e x) s = .next t
        ∧ t.engine e.val = { s.engine e.val with pc := (s.engine e.val).fpc, st := (s.engine e.val).fst }
        ∧ t.drone (e.val - 132) = { s.drone (e.val - 132) with stack := r, refire := if (s.slot n (e.val - 132)).pend = true then n :: (s.drone (e.val - 132)).refire else (s.drone (e.val - 132)).refire }
        ∧ t.slot n (e.val - 132) = { s.slot n (e.val - 132) with act := false }
        ∧ t = { s with engines := t.engines, irq := t.irq, drones := t.drones }
        ∧ (∀ key, key ∉ ([e.val] : List Nat) → t.engine key = s.engine key)
        ∧ (∀ key, key ∉ ([e.val - 132] : List Nat) → t.drone key = s.drone key)
        ∧ (∀ num dr, (num, dr) ≠ (n, e.val - 132) → t.slot num dr = s.slot num dr)) ∧
  (∀ (e : Fin 136) (x : FmtI) (n : Nat) (v : BitVec 64) (m : Bool) (r : List (Nat × Bool)) (s : State),
      s.issues e.val (x.word 0x2D) = true →
      132 ≤ e.val →
      x.rd.val = 0 →
      (x.ra.val = 0 ∧ x.imm.val < 1024 ∧ n = x.imm.val ∨ x.imm.val = 8192 ∧ n = (s.gr e.val x.ra.val).toNat % 1024) →
      (s.drone (e.val - 132)).stack = (n, m) :: r →
      s.level (e.val - 132) = Lv.normal →
      stackOk ((s.engine e.val).reg 14).toNat = true →
      s.memWord (engineBase e.val + ((s.engine e.val).reg 14).toNat) = gridEncode v →
      ∃ t, exec (.iret e x) s = .next t
        ∧ (t.engine e.val).pc = ((v >>> 32).truncate 32 : Word) &&& 0xFFFFFFFC#32
        ∧ (t.engine e.val).st = (v.truncate 32 : Word) &&& 0x3FFF#32
        ∧ t.engine e.val = { (s.engine e.val).setReg 14 ((s.engine e.val).reg 14 + 8#32) with pc := (t.engine e.val).pc, st := (t.engine e.val).st }
        ∧ t.drone (e.val - 132) = { s.drone (e.val - 132) with stack := r, refire := if (s.slot n (e.val - 132)).pend = true then n :: (s.drone (e.val - 132)).refire else (s.drone (e.val - 132)).refire }
        ∧ t.slot n (e.val - 132) = { s.slot n (e.val - 132) with act := false }
        ∧ t = { s with engines := t.engines, irq := t.irq, drones := t.drones }
        ∧ (∀ key, key ∉ ([e.val] : List Nat) → t.engine key = s.engine key)
        ∧ (∀ key, key ∉ ([e.val - 132] : List Nat) → t.drone key = s.drone key)
        ∧ (∀ num dr, (num, dr) ≠ (n, e.val - 132) → t.slot num dr = s.slot num dr)) ∧
  (∀ (e : Fin 136) (x : FmtI) (n : Nat) (s : State),
      s.issues e.val (x.word 0x2D) = true →
      132 ≤ e.val →
      x.rd.val = 0 →
      (x.ra.val = 0 ∧ x.imm.val < 1024 ∧ n = x.imm.val ∨ x.imm.val = 8192 ∧ n = (s.gr e.val x.ra.val).toNat % 1024) →
      ((s.drone (e.val - 132)).stack.head?.map (fun y => y.1) ≠ some n ∨ s.level (e.val - 132) = Lv.base) →
      ∃ t, exec (.iret e x) s = .next t
        ∧ (t.slot 906 (e.val - 132)).pend = true
        ∧ (t.slot 906 (e.val - 132)).act = (s.slot 906 (e.val - 132)).act
        ∧ t.rdN (R.IRQ_D_COALESCED (e.val - 132)) = (if (s.slot 906 (e.val - 132)).pend = true then min 0xFFFFFFFF (s.rdN (R.IRQ_D_COALESCED (e.val - 132)) + 1) else s.rdN (R.IRQ_D_COALESCED (e.val - 132)))
        ∧ t.engine e.val = (s.engine e.val).next
        ∧ t = { s with regs := t.regs, irq := t.irq, engines := t.engines }
        ∧ (∀ adr, adr ∉ ([R.IRQ_D_COALESCED (e.val - 132)] : List Nat) → t.rd adr = s.rd adr)
        ∧ (∀ key, key ∉ ([e.val] : List Nat) → t.engine key = s.engine key)
        ∧ (∀ num dr, (num, dr) ≠ (906, e.val - 132) → t.slot num dr = s.slot num dr)) ∧
  (∀ (e : Fin 136) (x : FmtI) (n : Nat) (m : Bool) (r : List (Nat × Bool)) (s : State),
      s.issues e.val (x.word 0x2D) = true →
      132 ≤ e.val →
      x.rd.val = 0 →
      (x.ra.val = 0 ∧ x.imm.val < 1024 ∧ n = x.imm.val ∨ x.imm.val = 8192 ∧ n = (s.gr e.val x.ra.val).toNat % 1024) →
      (s.drone (e.val - 132)).stack = (n, m) :: r →
      s.level (e.val - 132) = Lv.normal →
      (stackOk ((s.engine e.val).reg 14).toNat = false ∨ gridClassify (s.memWord (engineBase e.val + ((s.engine e.val).reg 14).toNat)) = .uncorrectable) →
      ∃ t, exec (.iret e x) s = .next t
        ∧ (t.engine e.val).on = false
        ∧ (t.engine e.val).exc = BitVec.ofNat 32 (6 * 2 ^ 28 + (s.engine e.val).pc.toNat % 2 ^ 16)
        ∧ (∀ key, key ∉ ([e.val] : List Nat) → t.engine key = s.engine key)) ∧
  (∀ (e : Fin 136) (x : FmtI) (n : Nat) (s : State),
      s.issues e.val (x.word 0x2E) = true →
      132 ≤ e.val →
      x.rd.val = 0 →
      (x.ra.val = 0 ∧ x.imm.val < 1024 ∧ n = x.imm.val ∨ x.imm.val = 8192 ∧ n = (s.gr e.val x.ra.val).toNat % 1024) →
      920 ≤ n →
      ∃ t, exec (.swi e x) s = .next t
        ∧ t.isPending n = true
        ∧ t.engine e.val = (s.engine e.val).next
        ∧ t = { s with regs := t.regs, irq := t.irq, engines := t.engines }
        ∧ (∀ key, key ∉ ([e.val] : List Nat) → t.engine key = s.engine key)
        ∧ (∀ num dr, num ∉ ([n] : List Nat) → t.slot num dr = s.slot num dr)
        ∧ (s.isPending n = false → t.regs = s.regs)
        ∧ (∀ adr, adr ∉ (coalesced : List Nat) → t.rd adr = s.rd adr)) ∧
  (∀ (e : Fin 136) (x : FmtI) (s : State),
      s.issues e.val (x.word 0x2E) = true →
      132 ≤ e.val →
      x.rd.val = 0 →
      x.imm.val = 8192 →
      (s.gr e.val x.ra.val).toNat % 1024 < 920 →
      ∃ t, exec (.swi e x) s = .next t
        ∧ (t.engine e.val).on = false
        ∧ (t.engine e.val).exc = BitVec.ofNat 32 (3 * 2 ^ 28 + (s.engine e.val).pc.toNat % 2 ^ 16)
        ∧ (∀ key, key ∉ ([e.val] : List Nat) → t.engine key = s.engine key)) ∧
  (∀ (e : Fin 136) (x : FmtJ) (s : State),
      s.issues e.val (x.word 0x2F) = true →
      132 ≤ e.val →
      x.imm.val = 0 →
      s.bist.slice = none →
      ∃ t, exec (.waiti e x) s = .next t
        ∧ t.engine e.val = { (s.engine e.val).next with wait := .irq }
        ∧ t = { s with engines := t.engines }
        ∧ (∀ key, key ∉ ([e.val] : List Nat) → t.engine key = s.engine key))

/-- The chanter-only instructions (parts of R110, R115, R132, R134, R136, R160, R161, R162, R163, R165, R167, R179, R192). In each clause but the last three a chanter issues the named word: it runs, the word stands at its PC in clean memory, and its guard holds. p is the chanter whose pair is attached to it (0 to 127), where one is. What a clause does not name stays. (1) EVT with an entry i in the drain input, rd a multiple of 4: rd to rd + 3 get its event, REV, and VALID, domain and lane; the predicate is set. The entry stays. (2) EVT with none: the four registers and the predicate become 0. (3) WATCH acknowledges the oldest entry, and EVENTS counts it. (4) WATCH with no entry only goes on. (5) SLOT of a word whose ACTION is not NONE, its slot and frame free in the store of lane l, d frames from the earliest open frame and within the window (an OFFSET from 640 is filed one frame on, 640 lower), fewer than 32 entries held: the word w is stored (0); with ACK the oldest entry of the drain input is acknowledged. (6) The entry y of that slot and frame holds the same word: ABSORBED (1), the store as it was, ACK as before. (7) It holds another word with a higher OFFSET: w takes its place, and the answer is DISPLACED (2) with the old word; COLLIDE counts; ACK as before. (8) It holds another word with a lower or equal OFFSET: the answer is REFUSED (3) with the offered word; COLLIDE counts, and nothing is acknowledged. (9) A frame before the earliest open one: COMMITTED (4); after the current frame + 15: BEYOND (5); both with the offered word, the store as it was. (10) A free slot and frame within the window with 32 entries held: FULL (6) with the offered word; STORE_FULL counts. (11) A word whose ACTION is NONE: ABSORBED (1), whatever its frame, ACK as before. (12) CTXL of channel ra at IMM14, a multiple of 8, the word v clean: rd and rd + 1 get it. (13) CTXL of a word that is not clean, reading which leaves state u: with one bad bit rd and rd + 1 get the corrected word v; uncorrectable they become 0, ST.DP is set and there is no exception. (14) CTXS of channel ra at IMM14, a multiple of 8 and not the checkpoint word 0xF8 of a slot 0 to 7: the word becomes {rd + 1, rd}, and no other word changes. (15) CTXL or CTXS with no pair attached, ra over 23, IMM14 over 0xF8, or a CTXS of the checkpoint word of a slot 0 to 7: the exception ACCESS (3). (16) CTXL or CTXS of an IMM14 below 0xF8 that is no multiple of 8, a pair attached and ra at most 23: ALIGN (2). (17) SLOT or ECHO, its operands legal, with no pair attached: ACCESS (3). (18) DROP of reason k from 1 to 4: DROPPED counts, DROP_LAST takes the reason, the actuator channel of ra and the TAG (with ACK that of the oldest entry of the drain input, else rb[7:0]), STAT.DROP is set, and source 256 + e is raised where CTL asks and the bit was 0; with ACK that entry is acknowledged. (19) DROP of reason 15 or 0: reason 15 counts in DISCARD, reason 0 nowhere; ACK as before. (20) NOTE with fewer than 64 notes held: the note (chanter, KIND, the actuator channel of rb or 0 where rb names none, ra) is added, its predicate is 1, STAT.NOTE is set, and source 256 + e is raised where CTL asks and the bit was 0. (21) NOTE with 64 notes held: it is lost, NOTE_LOST counts, and the predicate is 0. (22) ECHO of frame f (the nearest to the earliest open frame that ra names), whose record r the lane keeps and of whose 8 later frames the last has not fallen due: rd gets the sense word of the slot, rd + 1 0 (PRESENT), the predicate 1; with ACC = 1 A0 or A1 becomes sat48(A + CURRENT), an overflow setting the sticky bit 9. (23) ECHO with no such record, or too old: rd and the predicate become 0, rd + 1 gets 3 (EXPIRED) where 8 later frames have fallen due, else 1 (PENDING) before the echo of f is due and 2 (LOST) from then on. (24) WFF: the earliest open frame is complete for the pair, and the chanter waits, unless WAKE_EVT = 1 and the drain input holds an entry. (25) WFF with WAKE_EVT = 1 and an entry waiting: the frame is complete, rd gets the earliest open frame, the predicate 1, and the chanter goes on. (26) WFF_WAKE of a waiting WFF at or after the deadline of its frame k: rd gets the earliest open frame, the predicate 0, and the chanter goes on. (27) Before that, with WAKE_EVT and an entry in the drain input, or with WAKE_EDGE and an edge or tick accepted since in the domain of a lane of the pair: the same with the predicate 1. (28) Otherwise the chanter waits on; and where no WFF waits nothing happens. Readings and choices of the model that it rests on: log entries 17, 47, 49, 181. -/
def Obligations.ChanterInstructions : Prop :=
  (∀ (e : Fin 136) (x : FmtT) (i : DrainItem) (r : List DrainItem) (s : State),
      s.issues e.val (x.word 0x3A) = true →
      e.val < 132 →
      (x.rd.val % 4 = 0 ∧ x.ra.val = 0 ∧ x.rb.val = 0 ∧ x.fn.val < 4) →
      s.drainOf e.val = i :: r →
      ∃ t, exec (.evt e x) s = .next t
        ∧ t.engine e.val = ((((((s.engine e.val).setReg x.rd.val (i.ev.truncate 32)).setReg (x.rd.val + 1) ((i.ev >>> 32).truncate 32)).setReg (x.rd.val + 2) (BitVec.ofInt 32 (i.pos / 4096))).setReg (x.rd.val + 3) (BitVec.ofNat 32 (2 ^ 31 + i.dom * 2 + i.lane % 2))).flag x.fn.val true).next
        ∧ t = { s with engines := t.engines }
        ∧ (∀ key, key ∉ ([e.val] : List Nat) → t.engine key = s.engine key)) ∧
  (∀ (e : Fin 136) (x : FmtT) (s : State),
      s.issues e.val (x.word 0x3A) = true →
      e.val < 132 →
      (x.rd.val % 4 = 0 ∧ x.ra.val = 0 ∧ x.rb.val = 0 ∧ x.fn.val < 4) →
      s.drainOf e.val = [] →
      ∃ t, exec (.evt e x) s = .next t
        ∧ t.engine e.val = ((((((s.engine e.val).setReg x.rd.val 0).setReg (x.rd.val + 1) 0).setReg (x.rd.val + 2) 0).setReg (x.rd.val + 3) 0).flag x.fn.val false).next
        ∧ t = { s with engines := t.engines }
        ∧ (∀ key, key ∉ ([e.val] : List Nat) → t.engine key = s.engine key)) ∧
  (∀ (e : Fin 136) (x : FmtT) (i : DrainItem) (r : List DrainItem) (s : State),
      s.issues e.val (x.word 0x27) = true →
      e.val < 132 →
      (x.rd.val = 0 ∧ x.ra.val = 0 ∧ x.rb.val = 0 ∧ x.fn.val = 0) →
      s.pairOf e.val < 128 →
      (s.pair (s.pairOf e.val)).drain = i :: r →
      ∃ t, exec (.watch e x) s = .next t
        ∧ t.engine e.val = (s.engine e.val).next
        ∧ t.pair (s.pairOf e.val) = { s.pair (s.pairOf e.val) with drain := r }
        ∧ t.rdN (R.CHT_C_EVENTS e.val) = (s.rdN (R.CHT_C_EVENTS e.val) + 1) % 2 ^ 32
        ∧ t = { s with regs := t.regs, engines := t.engines, pairs := t.pairs }
        ∧ (∀ adr, adr ∉ ([R.CHT_C_EVENTS e.val] : List Nat) → t.rd adr = s.rd adr)
        ∧ (∀ key, key ∉ ([e.val] : List Nat) → t.engine key = s.engine key)
        ∧ (∀ key, key ∉ ([s.pairOf e.val] : List Nat) → t.pair key = s.pair key)) ∧
  (∀ (e : Fin 136) (x : FmtT) (s : State),
      s.issues e.val (x.word 0x27) = true →
      e.val < 132 →
      (x.rd.val = 0 ∧ x.ra.val = 0 ∧ x.rb.val = 0 ∧ x.fn.val = 0) →
      s.drainOf e.val = [] →
      ∃ t, exec (.watch e x) s = .next t
        ∧ t.engine e.val = (s.engine e.val).next
        ∧ t = { s with engines := t.engines }
        ∧ (∀ key, key ∉ ([e.val] : List Nat) → t.engine key = s.engine key)) ∧
  (∀ (e : Fin 136) (x : FmtT) (p l f : Nat) (w : Word) (d : Int) (s : State),
      s.issues e.val (x.word 0x3B) = true →
      e.val < 132 →
      (x.rd.val % 2 = 0 ∧ x.fn.val < 64 ∧ x.fn.val / 2 % 16 < 12) →
      p = s.pairOf e.val →
      p < 128 →
      l = 2 * p + x.fn.val % 2 →
      bitsOf (s.gr e.val x.ra.val) 31 30 ≠ 0 →
      w = (if bitsOf (s.gr e.val x.ra.val) 23 14 < 640 then s.gr e.val x.ra.val else setBitsOf (s.gr e.val x.ra.val) 23 14 (bitsOf (s.gr e.val x.ra.val) 23 14 - 640)) →
      d = (s.gr e.val x.rb.val - BitVec.ofNat 32 (openFrame s.now)).toInt + (if bitsOf (s.gr e.val x.ra.val) 23 14 < 640 then 0 else 1) →
      0 ≤ d →
      d + openFrame s.now ≤ currentFrame s.now + 15 →
      f = openFrame s.now + d.toNat →
      (s.lane l).store.find? (fun y => y.frame == f && y.slot == x.fn.val / 2 % 16) = none →
      (s.lane l).store.length < 32 →
      ∃ t, exec (.slot e x) s = .next t
        ∧ t.lane l = { s.lane l with store := (s.lane l).store ++ [⟨f, x.fn.val / 2 % 16, w⟩] }
        ∧ t.engine e.val = (((s.engine e.val).setReg x.rd.val 0).setReg (x.rd.val + 1) 0).next
        ∧ t.get (F.LANE_STORE_COUNT l) = (s.lane l).store.length + 1
        ∧ t.pair p = { s.pair p with drain := if 32 ≤ x.fn.val then (s.pair p).drain.tail else (s.pair p).drain }
        ∧ t.rdN (R.CHT_C_EVENTS e.val) = (if 32 ≤ x.fn.val ∧ (s.pair p).drain ≠ [] then (s.rdN (R.CHT_C_EVENTS e.val) + 1) % 2 ^ 32 else s.rdN (R.CHT_C_EVENTS e.val))
        ∧ t = { s with regs := t.regs, engines := t.engines, lanes := t.lanes, pairs := t.pairs }
        ∧ (∀ adr, adr ∉ ([R.LANE_STORE l, R.CHT_C_EVENTS e.val] : List Nat) → t.rd adr = s.rd adr)
        ∧ (∀ key, key ∉ ([e.val] : List Nat) → t.engine key = s.engine key)
        ∧ (∀ key, key ∉ ([l] : List Nat) → t.lane key = s.lane key)
        ∧ (∀ key, key ∉ ([p] : List Nat) → t.pair key = s.pair key)) ∧
  (∀ (e : Fin 136) (x : FmtT) (p l f : Nat) (w : Word) (d : Int) (y : SlotEntry) (s : State),
      s.issues e.val (x.word 0x3B) = true →
      e.val < 132 →
      (x.rd.val % 2 = 0 ∧ x.fn.val < 64 ∧ x.fn.val / 2 % 16 < 12) →
      p = s.pairOf e.val →
      p < 128 →
      l = 2 * p + x.fn.val % 2 →
      bitsOf (s.gr e.val x.ra.val) 31 30 ≠ 0 →
      w = (if bitsOf (s.gr e.val x.ra.val) 23 14 < 640 then s.gr e.val x.ra.val else setBitsOf (s.gr e.val x.ra.val) 23 14 (bitsOf (s.gr e.val x.ra.val) 23 14 - 640)) →
      d = (s.gr e.val x.rb.val - BitVec.ofNat 32 (openFrame s.now)).toInt + (if bitsOf (s.gr e.val x.ra.val) 23 14 < 640 then 0 else 1) →
      0 ≤ d →
      d + openFrame s.now ≤ currentFrame s.now + 15 →
      f = openFrame s.now + d.toNat →
      (s.lane l).store.find? (fun z => z.frame == f && z.slot == x.fn.val / 2 % 16) = some y →
      y.word = w →
      ∃ t, exec (.slot e x) s = .next t
        ∧ t.engine e.val = (((s.engine e.val).setReg x.rd.val 1).setReg (x.rd.val + 1) 0).next
        ∧ t.pair p = { s.pair p with drain := if 32 ≤ x.fn.val then (s.pair p).drain.tail else (s.pair p).drain }
        ∧ t.rdN (R.CHT_C_EVENTS e.val) = (if 32 ≤ x.fn.val ∧ (s.pair p).drain ≠ [] then (s.rdN (R.CHT_C_EVENTS e.val) + 1) % 2 ^ 32 else s.rdN (R.CHT_C_EVENTS e.val))
        ∧ t = { s with regs := t.regs, engines := t.engines, pairs := t.pairs }
        ∧ (∀ adr, adr ∉ ([R.CHT_C_EVENTS e.val] : List Nat) → t.rd adr = s.rd adr)
        ∧ (∀ key, key ∉ ([e.val] : List Nat) → t.engine key = s.engine key)
        ∧ (∀ key, key ∉ ([p] : List Nat) → t.pair key = s.pair key)) ∧
  (∀ (e : Fin 136) (x : FmtT) (p l f : Nat) (w : Word) (d : Int) (y : SlotEntry) (s : State),
      s.issues e.val (x.word 0x3B) = true →
      e.val < 132 →
      (x.rd.val % 2 = 0 ∧ x.fn.val < 64 ∧ x.fn.val / 2 % 16 < 12) →
      p = s.pairOf e.val →
      p < 128 →
      l = 2 * p + x.fn.val % 2 →
      bitsOf (s.gr e.val x.ra.val) 31 30 ≠ 0 →
      w = (if bitsOf (s.gr e.val x.ra.val) 23 14 < 640 then s.gr e.val x.ra.val else setBitsOf (s.gr e.val x.ra.val) 23 14 (bitsOf (s.gr e.val x.ra.val) 23 14 - 640)) →
      d = (s.gr e.val x.rb.val - BitVec.ofNat 32 (openFrame s.now)).toInt + (if bitsOf (s.gr e.val x.ra.val) 23 14 < 640 then 0 else 1) →
      0 ≤ d →
      d + openFrame s.now ≤ currentFrame s.now + 15 →
      f = openFrame s.now + d.toNat →
      (s.lane l).store.find? (fun z => z.frame == f && z.slot == x.fn.val / 2 % 16) = some y →
      y.word ≠ w →
      bitsOf w 23 14 < bitsOf y.word 23 14 →
      ∃ t, exec (.slot e x) s = .next t
        ∧ t.lane l = { s.lane l with store := (s.lane l).store.map (fun z => if z.frame = f ∧ z.slot = x.fn.val / 2 % 16 then ⟨f, z.slot, w⟩ else z) }
        ∧ t.engine e.val = (((s.engine e.val).setReg x.rd.val 2).setReg (x.rd.val + 1) y.word).next
        ∧ t.rdN (R.LANE_COLLIDE l) = min 0xFFFFFFFF (s.rdN (R.LANE_COLLIDE l) + 1)
        ∧ t.get (F.LANE_STORE_COUNT l) = (s.lane l).store.length
        ∧ t.pair p = { s.pair p with drain := if 32 ≤ x.fn.val then (s.pair p).drain.tail else (s.pair p).drain }
        ∧ t.rdN (R.CHT_C_EVENTS e.val) = (if 32 ≤ x.fn.val ∧ (s.pair p).drain ≠ [] then (s.rdN (R.CHT_C_EVENTS e.val) + 1) % 2 ^ 32 else s.rdN (R.CHT_C_EVENTS e.val))
        ∧ t = { s with regs := t.regs, engines := t.engines, lanes := t.lanes, pairs := t.pairs }
        ∧ (∀ adr, adr ∉ ([R.LANE_STORE l, R.LANE_COLLIDE l, R.CHT_C_EVENTS e.val] : List Nat) → t.rd adr = s.rd adr)
        ∧ (∀ key, key ∉ ([e.val] : List Nat) → t.engine key = s.engine key)
        ∧ (∀ key, key ∉ ([l] : List Nat) → t.lane key = s.lane key)
        ∧ (∀ key, key ∉ ([p] : List Nat) → t.pair key = s.pair key)) ∧
  (∀ (e : Fin 136) (x : FmtT) (p l f : Nat) (w : Word) (d : Int) (y : SlotEntry) (s : State),
      s.issues e.val (x.word 0x3B) = true →
      e.val < 132 →
      (x.rd.val % 2 = 0 ∧ x.fn.val < 64 ∧ x.fn.val / 2 % 16 < 12) →
      p = s.pairOf e.val →
      p < 128 →
      l = 2 * p + x.fn.val % 2 →
      bitsOf (s.gr e.val x.ra.val) 31 30 ≠ 0 →
      w = (if bitsOf (s.gr e.val x.ra.val) 23 14 < 640 then s.gr e.val x.ra.val else setBitsOf (s.gr e.val x.ra.val) 23 14 (bitsOf (s.gr e.val x.ra.val) 23 14 - 640)) →
      d = (s.gr e.val x.rb.val - BitVec.ofNat 32 (openFrame s.now)).toInt + (if bitsOf (s.gr e.val x.ra.val) 23 14 < 640 then 0 else 1) →
      0 ≤ d →
      d + openFrame s.now ≤ currentFrame s.now + 15 →
      f = openFrame s.now + d.toNat →
      (s.lane l).store.find? (fun z => z.frame == f && z.slot == x.fn.val / 2 % 16) = some y →
      y.word ≠ w →
      bitsOf y.word 23 14 ≤ bitsOf w 23 14 →
      ∃ t, exec (.slot e x) s = .next t
        ∧ t.engine e.val = (((s.engine e.val).setReg x.rd.val 3).setReg (x.rd.val + 1) (s.gr e.val x.ra.val)).next
        ∧ t.rdN (R.LANE_COLLIDE l) = min 0xFFFFFFFF (s.rdN (R.LANE_COLLIDE l) + 1)
        ∧ t = { s with regs := t.regs, engines := t.engines }
        ∧ (∀ adr, adr ∉ ([R.LANE_COLLIDE l] : List Nat) → t.rd adr = s.rd adr)
        ∧ (∀ key, key ∉ ([e.val] : List Nat) → t.engine key = s.engine key)) ∧
  (∀ (e : Fin 136) (x : FmtT) (p l : Nat) (w : Word) (d : Int) (s : State),
      s.issues e.val (x.word 0x3B) = true →
      e.val < 132 →
      (x.rd.val % 2 = 0 ∧ x.fn.val < 64 ∧ x.fn.val / 2 % 16 < 12) →
      p = s.pairOf e.val →
      p < 128 →
      l = 2 * p + x.fn.val % 2 →
      bitsOf (s.gr e.val x.ra.val) 31 30 ≠ 0 →
      w = (if bitsOf (s.gr e.val x.ra.val) 23 14 < 640 then s.gr e.val x.ra.val else setBitsOf (s.gr e.val x.ra.val) 23 14 (bitsOf (s.gr e.val x.ra.val) 23 14 - 640)) →
      d = (s.gr e.val x.rb.val - BitVec.ofNat 32 (openFrame s.now)).toInt + (if bitsOf (s.gr e.val x.ra.val) 23 14 < 640 then 0 else 1) →
      (d < 0 ∨ (currentFrame s.now : Int) + 15 < d + openFrame s.now) →
      ∃ t, exec (.slot e x) s = .next t
        ∧ t.engine e.val = (((s.engine e.val).setReg x.rd.val (if d < 0 then 4 else 5)).setReg (x.rd.val + 1) (s.gr e.val x.ra.val)).next
        ∧ t = { s with engines := t.engines }
        ∧ (∀ key, key ∉ ([e.val] : List Nat) → t.engine key = s.engine key)) ∧
  (∀ (e : Fin 136) (x : FmtT) (p l f : Nat) (w : Word) (d : Int) (s : State),
      s.issues e.val (x.word 0x3B) = true →
      e.val < 132 →
      (x.rd.val % 2 = 0 ∧ x.fn.val < 64 ∧ x.fn.val / 2 % 16 < 12) →
      p = s.pairOf e.val →
      p < 128 →
      l = 2 * p + x.fn.val % 2 →
      bitsOf (s.gr e.val x.ra.val) 31 30 ≠ 0 →
      w = (if bitsOf (s.gr e.val x.ra.val) 23 14 < 640 then s.gr e.val x.ra.val else setBitsOf (s.gr e.val x.ra.val) 23 14 (bitsOf (s.gr e.val x.ra.val) 23 14 - 640)) →
      d = (s.gr e.val x.rb.val - BitVec.ofNat 32 (openFrame s.now)).toInt + (if bitsOf (s.gr e.val x.ra.val) 23 14 < 640 then 0 else 1) →
      0 ≤ d →
      d + openFrame s.now ≤ currentFrame s.now + 15 →
      f = openFrame s.now + d.toNat →
      (s.lane l).store.find? (fun y => y.frame == f && y.slot == x.fn.val / 2 % 16) = none →
      32 ≤ (s.lane l).store.length →
      ∃ t, exec (.slot e x) s = .next t
        ∧ t.engine e.val = (((s.engine e.val).setReg x.rd.val 6).setReg (x.rd.val + 1) (s.gr e.val x.ra.val)).next
        ∧ t.rdN (R.LANE_STORE_FULL l) = min 0xFFFFFFFF (s.rdN (R.LANE_STORE_FULL l) + 1)
        ∧ t = { s with regs := t.regs, engines := t.engines }
        ∧ (∀ adr, adr ∉ ([R.LANE_STORE_FULL l] : List Nat) → t.rd adr = s.rd adr)
        ∧ (∀ key, key ∉ ([e.val] : List Nat) → t.engine key = s.engine key)) ∧
  (∀ (e : Fin 136) (x : FmtT) (p : Nat) (s : State),
      s.issues e.val (x.word 0x3B) = true →
      e.val < 132 →
      (x.rd.val % 2 = 0 ∧ x.fn.val < 64 ∧ x.fn.val / 2 % 16 < 12) →
      p = s.pairOf e.val →
      p < 128 →
      bitsOf (s.gr e.val x.ra.val) 31 30 = 0 →
      ∃ t, exec (.slot e x) s = .next t
        ∧ t.engine e.val = (((s.engine e.val).setReg x.rd.val 1).setReg (x.rd.val + 1) 0).next
        ∧ t.pair p = { s.pair p with drain := if 32 ≤ x.fn.val then (s.pair p).drain.tail else (s.pair p).drain }
        ∧ t.rdN (R.CHT_C_EVENTS e.val) = (if 32 ≤ x.fn.val ∧ (s.pair p).drain ≠ [] then (s.rdN (R.CHT_C_EVENTS e.val) + 1) % 2 ^ 32 else s.rdN (R.CHT_C_EVENTS e.val))
        ∧ t = { s with regs := t.regs, engines := t.engines, pairs := t.pairs }
        ∧ (∀ adr, adr ∉ ([R.CHT_C_EVENTS e.val] : List Nat) → t.rd adr = s.rd adr)
        ∧ (∀ key, key ∉ ([e.val] : List Nat) → t.engine key = s.engine key)
        ∧ (∀ key, key ∉ ([p] : List Nat) → t.pair key = s.pair key)) ∧
  (∀ (e : Fin 136) (x : FmtI) (v : BitVec 64) (s : State),
      s.issues e.val (x.word 0x3C) = true →
      e.val < 132 →
      x.rd.val % 2 = 0 →
      s.pairOf e.val < 128 →
      (s.gr e.val x.ra.val).toNat ≤ 23 →
      (x.imm.val ≤ 0xF8 ∧ x.imm.val % 8 = 0) →
      s.memWord (0x22000000 + (s.pairOf e.val * 24 + (s.gr e.val x.ra.val).toNat) * 0x100 + x.imm.val) = gridEncode v →
      ∃ t, exec (.ctxl e x) s = .next t
        ∧ t.engine e.val = (((s.engine e.val).setReg x.rd.val (v.truncate 32)).setReg (x.rd.val + 1) ((v >>> 32).truncate 32)).next
        ∧ t = { s with engines := t.engines }
        ∧ (∀ key, key ∉ ([e.val] : List Nat) → t.engine key = s.engine key)) ∧
  (∀ (e : Fin 136) (x : FmtI) (v : Option (BitVec 64)) (u s : State),
      s.issues e.val (x.word 0x3C) = true →
      e.val < 132 →
      x.rd.val % 2 = 0 →
      s.pairOf e.val < 128 →
      (s.gr e.val x.ra.val).toNat ≤ 23 →
      (x.imm.val ≤ 0xF8 ∧ x.imm.val % 8 = 0) →
      s.memRead 7 (0x22000000 + (s.pairOf e.val * 24 + (s.gr e.val x.ra.val).toNat) * 0x100 + x.imm.val) = (u, v) →
      ∃ t, exec (.ctxl e x) s = .next t
        ∧ t.engine e.val = (match v with | some v => (((u.engine e.val).setReg x.rd.val (v.truncate 32)).setReg (x.rd.val + 1) ((v >>> 32).truncate 32)).next | none => ((((u.engine e.val).flag 12 true).setReg x.rd.val 0).setReg (x.rd.val + 1) 0).next)
        ∧ t = { u with engines := t.engines }
        ∧ (∀ key, key ∉ ([e.val] : List Nat) → t.engine key = u.engine key)) ∧
  (∀ (e : Fin 136) (x : FmtI) (s : State),
      s.issues e.val (x.word 0x3D) = true →
      e.val < 132 →
      x.rd.val % 2 = 0 →
      s.pairOf e.val < 128 →
      (s.gr e.val x.ra.val).toNat ≤ 23 →
      (x.imm.val ≤ 0xF8 ∧ x.imm.val % 8 = 0) →
      (x.imm.val = 0xF8 → 8 ≤ (s.gr e.val x.ra.val).toNat % 12) →
      ∃ t, exec (.ctxs e x) s = .next t
        ∧ t.memWord (0x22000000 + (s.pairOf e.val * 24 + (s.gr e.val x.ra.val).toNat) * 0x100 + x.imm.val) = gridEncode (s.gr e.val (x.rd.val + 1) ++ s.gr e.val x.rd.val)
        ∧ t.engine e.val = (s.engine e.val).next
        ∧ t = { s with mem := t.mem, engines := t.engines }
        ∧ (∀ key, key ∉ ([e.val] : List Nat) → t.engine key = s.engine key)
        ∧ (∀ adr, adr / 8 ∉ ([0x22000000 + (s.pairOf e.val * 24 + (s.gr e.val x.ra.val).toNat) * 0x100 + x.imm.val] : List Nat).map (· / 8) → t.memWord adr = s.memWord adr)) ∧
  (∀ (e : Fin 136) (x : FmtI) (i : Instr) (w : Word) (st : Bool) (s : State),
      (i, w, st) ∈ [(.ctxl e x, x.word 0x3C, false), (.ctxs e x, x.word 0x3D, true)] →
      s.issues e.val w = true →
      e.val < 132 →
      x.rd.val % 2 = 0 →
      (128 ≤ s.pairOf e.val ∨ 23 < (s.gr e.val x.ra.val).toNat ∨ 0xF8 < x.imm.val ∨ (st = true ∧ x.imm.val = 0xF8 ∧ (s.gr e.val x.ra.val).toNat % 12 < 8)) →
      ∃ t, exec i s = .next t
        ∧ t.rdN (R.CHT_C_EXC_PC e.val) = 3 * 2 ^ 28 + (s.engine e.val).pc.toNat % 2 ^ 16
        ∧ (t.engine e.val).exc = BitVec.ofNat 32 (3 * 2 ^ 28 + (s.engine e.val).pc.toNat % 2 ^ 16)
        ∧ (t.engine e.val).on = false
        ∧ (∀ key, key ∉ ([e.val] : List Nat) → t.engine key = s.engine key)) ∧
  (∀ (e : Fin 136) (x : FmtI) (i : Instr) (w : Word) (s : State),
      (i, w) ∈ [(.ctxl e x, x.word 0x3C), (.ctxs e x, x.word 0x3D)] →
      s.issues e.val w = true →
      e.val < 132 →
      x.rd.val % 2 = 0 →
      s.pairOf e.val < 128 →
      (s.gr e.val x.ra.val).toNat ≤ 23 →
      (x.imm.val < 0xF8 ∧ x.imm.val % 8 ≠ 0) →
      ∃ t, exec i s = .next t
        ∧ t.rdN (R.CHT_C_EXC_PC e.val) = 2 * 2 ^ 28 + (s.engine e.val).pc.toNat % 2 ^ 16
        ∧ (t.engine e.val).exc = BitVec.ofNat 32 (2 * 2 ^ 28 + (s.engine e.val).pc.toNat % 2 ^ 16)
        ∧ (t.engine e.val).on = false
        ∧ (∀ key, key ∉ ([e.val] : List Nat) → t.engine key = s.engine key)) ∧
  (∀ (e : Fin 136) (x : FmtT) (i : Instr) (w : Word) (s : State),
      (i, w, true) ∈ (formsT e x).filter (fun y => y.1 == .slot e x || y.1 == .echo e x) →
      s.issues e.val w = true →
      128 ≤ s.pairOf e.val →
      ∃ t, exec i s = .next t
        ∧ t.rdN (R.CHT_C_EXC_PC e.val) = 3 * 2 ^ 28 + (s.engine e.val).pc.toNat % 2 ^ 16
        ∧ (t.engine e.val).exc = BitVec.ofNat 32 (3 * 2 ^ 28 + (s.engine e.val).pc.toNat % 2 ^ 16)
        ∧ (t.engine e.val).on = false
        ∧ (∀ key, key ∉ ([e.val] : List Nat) → t.engine key = s.engine key)) ∧
  (∀ (e : Fin 136) (x : FmtT) (p k tag : Nat) (s : State),
      s.issues e.val (x.word 0x26) = true →
      e.val < 132 →
      (x.rd.val = 0 ∧ x.fn.val < 32) →
      p = s.pairOf e.val →
      p < 128 →
      k = x.fn.val % 16 →
      (1 ≤ k ∧ k < 5) →
      (16 ≤ x.fn.val → (s.pair p).drain ≠ []) →
      tag = (if 16 ≤ x.fn.val then (((s.pair p).drain.head?.map fun i => i.ev.toNat / 2 ^ 32 % 256).getD 0) else (s.gr e.val x.rb.val).toNat % 256) →
      ∃ t, exec (.drop e x) s = .next t
        ∧ t.rdN (R.CHT_C_DROPPED e.val) = min 0xFFFFFFFF (s.rdN (R.CHT_C_DROPPED e.val) + 1)
        ∧ t.rdN (R.CHT_C_DROP_LAST e.val) = k * 2 ^ 28 + (p * 24 + (s.gr e.val x.ra.val).toNat) % 4096 * 2 ^ 12 + tag
        ∧ t.rd (R.CHT_C_STAT e.val) = setBitsOf (s.rd (R.CHT_C_STAT e.val)) 4 4 1
        ∧ (s.bitAt (R.CHT_C_STAT e.val) 4 = false → s.bitAt (R.CHT_C_CTL e.val) 4 = true → t.isPending (256 + e.val) = true)
        ∧ t.engine e.val = (s.engine e.val).next
        ∧ t.pair p = { s.pair p with drain := if 16 ≤ x.fn.val then (s.pair p).drain.tail else (s.pair p).drain }
        ∧ t.rdN (R.CHT_C_EVENTS e.val) = (if 16 ≤ x.fn.val ∧ (s.pair p).drain ≠ [] then (s.rdN (R.CHT_C_EVENTS e.val) + 1) % 2 ^ 32 else s.rdN (R.CHT_C_EVENTS e.val))
        ∧ t = { s with regs := t.regs, irq := t.irq, engines := t.engines, pairs := t.pairs }
        ∧ (∀ adr, adr ∉ (R.CHT_C_DROPPED e.val :: R.CHT_C_DROP_LAST e.val :: R.CHT_C_STAT e.val :: R.CHT_C_EVENTS e.val :: coalesced : List Nat) → t.rd adr = s.rd adr)
        ∧ (∀ key, key ∉ ([e.val] : List Nat) → t.engine key = s.engine key)
        ∧ (∀ key, key ∉ ([p] : List Nat) → t.pair key = s.pair key)
        ∧ (∀ num dr, num ∉ ([256 + e.val] : List Nat) → t.slot num dr = s.slot num dr)) ∧
  (∀ (e : Fin 136) (x : FmtT) (p : Nat) (s : State),
      s.issues e.val (x.word 0x26) = true →
      e.val < 132 →
      (x.rd.val = 0 ∧ x.fn.val < 32) →
      p = s.pairOf e.val →
      p < 128 →
      (x.fn.val % 16 = 15 ∨ x.fn.val % 16 = 0) →
      ∃ t, exec (.drop e x) s = .next t
        ∧ t.rdN (R.CHT_C_DISCARD e.val) = (if x.fn.val % 16 = 15 then min 0xFFFFFFFF (s.rdN (R.CHT_C_DISCARD e.val) + 1) else s.rdN (R.CHT_C_DISCARD e.val))
        ∧ t.engine e.val = (s.engine e.val).next
        ∧ t.pair p = { s.pair p with drain := if 16 ≤ x.fn.val then (s.pair p).drain.tail else (s.pair p).drain }
        ∧ t.rdN (R.CHT_C_EVENTS e.val) = (if 16 ≤ x.fn.val ∧ (s.pair p).drain ≠ [] then (s.rdN (R.CHT_C_EVENTS e.val) + 1) % 2 ^ 32 else s.rdN (R.CHT_C_EVENTS e.val))
        ∧ t = { s with regs := t.regs, engines := t.engines, pairs := t.pairs }
        ∧ (∀ adr, adr ∉ ([R.CHT_C_DISCARD e.val, R.CHT_C_EVENTS e.val] : List Nat) → t.rd adr = s.rd adr)
        ∧ (∀ key, key ∉ ([e.val] : List Nat) → t.engine key = s.engine key)
        ∧ (∀ key, key ∉ ([p] : List Nat) → t.pair key = s.pair key)) ∧
  (∀ (e : Fin 136) (x : FmtT) (ch : Nat) (s : State),
      s.issues e.val (x.word 0x2C) = true →
      e.val < 132 →
      (x.rd.val = 0 ∧ x.fn.val < 64) →
      (1 ≤ x.fn.val % 16 ∧ x.fn.val % 16 ≤ 10) →
      s.pairOf e.val < 128 →
      ch = (if (s.gr e.val x.rb.val).toNat < 2 ^ 31 then (s.pairOf e.val * 24 + (s.gr e.val x.rb.val).toNat) % 4096 else 0) →
      s.notes.length < 64 →
      ∃ t, exec (.note e x) s = .next t
        ∧ t.notes = s.notes ++ [⟨e.val, x.fn.val % 16, ch, s.gr e.val x.ra.val⟩]
        ∧ t.engine e.val = ((s.engine e.val).flag (x.fn.val / 16) true).next
        ∧ t.rd (R.CHT_C_STAT e.val) = setBitsOf (s.rd (R.CHT_C_STAT e.val)) 8 8 1
        ∧ (s.bitAt (R.CHT_C_STAT e.val) 8 = false → s.bitAt (R.CHT_C_CTL e.val) 8 = true → t.isPending (256 + e.val) = true)
        ∧ t = { s with regs := t.regs, irq := t.irq, engines := t.engines, notes := t.notes }
        ∧ (∀ adr, adr ∉ (R.CHT_C_STAT e.val :: coalesced : List Nat) → t.rd adr = s.rd adr)
        ∧ (∀ key, key ∉ ([e.val] : List Nat) → t.engine key = s.engine key)
        ∧ (∀ num dr, num ∉ ([256 + e.val] : List Nat) → t.slot num dr = s.slot num dr)) ∧
  (∀ (e : Fin 136) (x : FmtT) (s : State),
      s.issues e.val (x.word 0x2C) = true →
      e.val < 132 →
      (x.rd.val = 0 ∧ x.fn.val < 64) →
      (1 ≤ x.fn.val % 16 ∧ x.fn.val % 16 ≤ 10) →
      64 ≤ s.notes.length →
      ∃ t, exec (.note e x) s = .next t
        ∧ t.rdN R.CHT_NOTE_LOST = min 0xFFFFFFFF (s.rdN R.CHT_NOTE_LOST + 1)
        ∧ t.engine e.val = ((s.engine e.val).flag (x.fn.val / 16) false).next
        ∧ t = { s with regs := t.regs, engines := t.engines }
        ∧ (∀ adr, adr ∉ ([R.CHT_NOTE_LOST] : List Nat) → t.rd adr = s.rd adr)
        ∧ (∀ key, key ∉ ([e.val] : List Nat) → t.engine key = s.engine key)) ∧
  (∀ (e : Fin 136) (x : FmtT) (l : Nat) (f : Int) (r : EchoRec) (w : Word) (g : Engine) (s : State),
      s.issues e.val (x.word 0x3E) = true →
      e.val < 132 →
      (x.rd.val % 2 = 0 ∧ x.rb.val = 0 ∧ x.fn.val < 512 ∧ x.fn.val % 32 / 2 < 12) →
      s.pairOf e.val < 128 →
      l = 2 * s.pairOf e.val + x.fn.val % 2 →
      f = (openFrame s.now : Int) + (s.gr e.val x.ra.val - BitVec.ofNat 32 (openFrame s.now)).toInt →
      0 ≤ f →
      s.now < dueOf (f.toNat + 8) →
      s.echoOf l f.toNat = some r →
      w = (r.sense[x.fn.val % 32 / 2]?).getD 0 →
      g = (if x.fn.val / 32 % 2 = 0 then s.engine e.val else if (sat48 (s.accu e.val (x.fn.val / 64 % 2) + (bitsOf w 31 20 : Nat))).2 = true then (s.setAccu e.val (x.fn.val / 64 % 2) (sat48 (s.accu e.val (x.fn.val / 64 % 2) + (bitsOf w 31 20 : Nat))).1).engine e.val |>.flag 9 true else (s.setAccu e.val (x.fn.val / 64 % 2) (sat48 (s.accu e.val (x.fn.val / 64 % 2) + (bitsOf w 31 20 : Nat))).1).engine e.val) →
      ∃ t, exec (.echo e x) s = .next t
        ∧ t.engine e.val = (((g.flag (x.fn.val / 128) true).setReg x.rd.val w).setReg (x.rd.val + 1) 0).next
        ∧ t = { s with engines := t.engines }
        ∧ (∀ key, key ∉ ([e.val] : List Nat) → t.engine key = s.engine key)) ∧
  (∀ (e : Fin 136) (x : FmtT) (l : Nat) (f : Int) (s : State),
      s.issues e.val (x.word 0x3E) = true →
      e.val < 132 →
      (x.rd.val % 2 = 0 ∧ x.rb.val = 0 ∧ x.fn.val < 512 ∧ x.fn.val % 32 / 2 < 12) →
      s.pairOf e.val < 128 →
      l = 2 * s.pairOf e.val + x.fn.val % 2 →
      f = (openFrame s.now : Int) + (s.gr e.val x.ra.val - BitVec.ofNat 32 (openFrame s.now)).toInt →
      (f < 0 ∨ dueOf (f.toNat + 8) ≤ s.now ∨ s.echoOf l f.toNat = none) →
      ∃ t, exec (.echo e x) s = .next t
        ∧ t.engine e.val = ((((s.engine e.val).flag (x.fn.val / 128) false).setReg x.rd.val 0).setReg (x.rd.val + 1) (if f < 0 ∨ dueOf (f.toNat + 8) ≤ s.now then 3 else if s.now < dueOf f.toNat then 1 else 2)).next
        ∧ t = { s with engines := t.engines }
        ∧ (∀ key, key ∉ ([e.val] : List Nat) → t.engine key = s.engine key)) ∧
  (∀ (e : Fin 136) (x : FmtT) (p : Nat) (s : State),
      s.issues e.val (x.word 0x3F) = true →
      e.val < 132 →
      (x.ra.val = 0 ∧ x.rb.val = 0 ∧ x.fn.val < 16) →
      p = s.pairOf e.val →
      p < 128 →
      (x.fn.val % 2 = 1 → (s.pair p).drain = []) →
      ∃ t, exec (.wff e x) s = .next t
        ∧ t.pair p = { s.pair p with complete := if (s.pair p).complete.contains (openFrame s.now) = true then (s.pair p).complete else (s.pair p).complete ++ [openFrame s.now] }
        ∧ t.engine e.val = { s.engine e.val with wait := .frame (openFrame s.now) (x.fn.val % 2 == 1) (x.fn.val / 2 % 2 == 1) x.rd.val (x.fn.val / 4) (s.laneEdges (2 * p)) (s.laneEdges (2 * p + 1)) }
        ∧ t = { s with engines := t.engines, pairs := t.pairs }
        ∧ (∀ key, key ∉ ([e.val] : List Nat) → t.engine key = s.engine key)
        ∧ (∀ key, key ∉ ([p] : List Nat) → t.pair key = s.pair key)) ∧
  (∀ (e : Fin 136) (x : FmtT) (p : Nat) (s : State),
      s.issues e.val (x.word 0x3F) = true →
      e.val < 132 →
      (x.ra.val = 0 ∧ x.rb.val = 0 ∧ x.fn.val < 16) →
      p = s.pairOf e.val →
      p < 128 →
      x.fn.val % 2 = 1 →
      (s.pair p).drain ≠ [] →
      ∃ t, exec (.wff e x) s = .next t
        ∧ t.pair p = { s.pair p with complete := if (s.pair p).complete.contains (openFrame s.now) = true then (s.pair p).complete else (s.pair p).complete ++ [openFrame s.now] }
        ∧ t.engine e.val = (((s.engine e.val).setReg x.rd.val (BitVec.ofNat 32 (openFrame s.now))).flag (x.fn.val / 4) true).next.ready
        ∧ t = { s with engines := t.engines, pairs := t.pairs }
        ∧ (∀ key, key ∉ ([e.val] : List Nat) → t.engine key = s.engine key)
        ∧ (∀ key, key ∉ ([p] : List Nat) → t.pair key = s.pair key)) ∧
  (∀ (n : Fin 132) (t0 : Nat) (k : Nat) (evt : Bool) (edge : Bool) (rd : Fin 16) (p : Fin 4) (e0 : Nat) (e1 : Nat) (s : State),
      (s.engine n.val).wait = .frame k evt edge rd.val p.val e0 e1 →
      deadlineOf k ≤ max s.now t0 →
      ∃ t, exec (.wffWake n t0) s = .next t
        ∧ t.engine n.val = ({ ((s.engine n.val).setReg rd.val (BitVec.ofNat 32 (openFrame (max s.now t0)))).flag p.val false with wait := .none } : Engine).next
        ∧ t.now = max s.now t0
        ∧ t = { s with engines := t.engines, now := t.now }
        ∧ (∀ key, key ∉ ([n.val] : List Nat) → t.engine key = s.engine key)) ∧
  (∀ (n : Fin 132) (t0 : Nat) (k : Nat) (evt : Bool) (edge : Bool) (rd : Fin 16) (p : Fin 4) (e0 : Nat) (e1 : Nat) (s : State),
      (s.engine n.val).wait = .frame k evt edge rd.val p.val e0 e1 →
      max s.now t0 < deadlineOf k →
      ((evt = true ∧ s.drainOf n.val ≠ []) ∨ (edge = true ∧ (s.laneEdges (2 * s.pairOf n.val) ≠ e0 ∨ s.laneEdges (2 * s.pairOf n.val + 1) ≠ e1))) →
      ∃ t, exec (.wffWake n t0) s = .next t
        ∧ t.engine n.val = ({ ((s.engine n.val).setReg rd.val (BitVec.ofNat 32 (openFrame (max s.now t0)))).flag p.val true with wait := .none } : Engine).next
        ∧ t.now = max s.now t0
        ∧ t = { s with engines := t.engines, now := t.now }
        ∧ (∀ key, key ∉ ([n.val] : List Nat) → t.engine key = s.engine key)) ∧
  (∀ (n : Fin 132) (t0 : Nat) (s : State),
      (match (s.engine n.val).wait with | .frame k evt edge _ _ e0 e1 => decide (max s.now t0 < deadlineOf k) && (!evt || s.drainOf n.val == []) && (!edge || decide (s.laneEdges (2 * s.pairOf n.val) = e0 ∧ s.laneEdges (2 * s.pairOf n.val + 1) = e1)) | _ => true) = true →
      ∃ t, exec (.wffWake n t0) s = .next t
        ∧ t.now = max s.now t0
        ∧ t = { s with now := t.now })

/-- The frame that a lane sends, and when lanes start, stop and time out (parts of R112, R182, R183, R184, R186, R188, R189, R193, R199, R201, R203, R206, R212, R216, R219). In clauses 1 to 5 lane l sends (STATE SENDING, LINKED or LOST, or BURST with frames of its burst left), frame f is the next or a later one, and x is the frame sent: the lane records it, codes its bytes with its CRC at its running disparity, awaits its echo, and counts it in FRAMES, and in SAFE_FRAMES where its type is SAFE (2). FLAGS are MB (128), SNAP (64, a trigger latched after the start of the frame before), RUN (32), SPARED (16), ROLE · 4 and MIRROR. The management word m is a request not sent yet (its DATA in a WRITE only), else NONE. What a clause does not name stays. (1) The lane is no STANDBY, nothing forces SAFE (the device runs with no transition at work, frame f was not committed as SAFE, FORCE_SAFE is 0, no burst), and no block waits or a slot of frame f has an action: NORMAL with the committed slots. (2) The same, but a block waits and no slot of frame f has an action: MGMT (3) with the block; BUSY and GO clear and SEQ takes f mod 256. (3) SAFE is forced: SAFE with no action, of a STANDBY lane too; a block that waits goes with it. (4) A STANDBY lane, nothing forces SAFE and its partner is sending: STANDBY (4), a copy of the slots and of MB of the partner's frame q (the one that it sends, or will send by these clauses), MIRROR its type. (5) A STANDBY lane whose partner is OFF, nothing forces SAFE: SAFE, with a block that waits. (6) An OFF lane with EN = 1 and a valid pair, or unpaired, its domain ON, in a mode from INIT on: it enters SENDING with f as its first frame and sends it; unpaired in a mode that does not run, as SAFE. (7) The same with a pair that is not valid: EN falls to 0, CFG_ERR (8) is set, and the lane stays OFF. (8) An OFF lane that does not start, a lane in BURST whose frames are all sent, or a frame already past: nothing is sent. (9) LANE_ENABLE of a lane with EN = 0 (OFF, or in its burst), unpaired or of a valid pair: EN = 1, and L of DELAY is 0. (10) Of a lane whose pair is not valid: EN stays 0 and CFG_ERR is set. (11) LANE_DISABLE of a lane in SENDING, LINKED or LOST: EN = 0, and a burst of 16 SAFE frames begins. (12) LANE_DISABLE of an OFF lane or during its burst: EN = 0, and the burst goes on as it is; of a lane with EN = 0, and LANE_ENABLE of one with EN = 1: nothing. (13) LANE_BURST_END at the start of the frame after the 16th, EN = 0: the lane is OFF. (14) EN = 1 with a valid pair, or unpaired: it enters SENDING, f its first frame. (15) EN = 1 with a pair that is no longer valid: OFF, EN = 0 and CFG_ERR. (16) Before the end of the burst, or outside BURST: nothing. (17) SENDING_TIMEOUT at 256 frame periods after the start of the first frame of a lane in SENDING: LOST, and ECHO_LOST (2) is set. (18) Earlier, or of a lane that is not in SENDING: nothing. Readings and choices of the model that it rests on: log entries 13, 53, 54. -/
def Obligations.LaneFramesAreSent : Prop :=
  (∀ (l : Fin 256) (f : Nat) (m : Word) (x : LaneFrame) (s : State),
      (s.laneState l.val ≠ L.off ∧ (s.laneState l.val = L.burst → 0 < (s.lane l.val).burst)) →
      (s.lane l.val).nextFrame ≤ f →
      m = (match (s.lane l.val).mg with | some ⟨_, none⟩ => if bitsOf (s.rd (R.LANE_MG_REQ l.val)) 31 30 = 2 then s.rd (R.LANE_MG_REQ l.val) else s.rd (R.LANE_MG_REQ l.val) &&& 0xFFFF0000#32 | _ => 0#32) →
      (s.running = true ∧ s.leaving = false ∧ (s.committedOf l.val f).safe = false ∧ s.bit (F.LANE_CFG_FORCE_SAFE l.val) = false ∧ s.laneState l.val ≠ L.burst) →
      s.get (F.LANE_CFG_ROLE l.val) ≠ 2 →
      (s.bit (F.LANE_BLK_CTL_BUSY l.val) = false ∨ (s.committedOf l.val f).words.all (fun w => bitsOf w 31 30 == 0) = false) →
      x = ⟨f, 1, ((if False then 128 else 0) + (if s.snapAt.any (fun u => decide (startOf (f - 1) < u)) = true then 64 else 0) + (if s.running = true then 32 else 0) + (if s.mode = M.runSpared then 16 else 0) + s.get (F.LANE_CFG_ROLE l.val) * 4 + 0), (s.committedOf l.val f).words, m⟩ →
      ∃ t, exec (.frameTransmitStart l f) s = .next t
        ∧ t.lane l.val = { s.lane l.val with sent := some x, line := (codeFrame (s.lane l.val).disparity x.bytes).1, disparity := (codeFrame (s.lane l.val).disparity x.bytes).2, nextFrame := f + 1, awaiting := (s.lane l.val).awaiting ++ [f], committed := (s.lane l.val).committed.filter (fun c => decide (f < c.frame)), burst := (if s.laneState l.val = L.burst then (s.lane l.val).burst - 1 else (s.lane l.val).burst), mg := (match (s.lane l.val).mg with | some ⟨tid, none⟩ => some ⟨tid, some f⟩ | q => q) }
        ∧ t.rdN (R.LANE_FRAMES l.val) = (s.rdN (R.LANE_FRAMES l.val) + 1) % 2 ^ 32
        ∧ t.rdN (R.LANE_SAFE_FRAMES l.val) = (s.rdN (R.LANE_SAFE_FRAMES l.val) + (if x.type = 2 then 1 else 0)) % 2 ^ 32
        ∧ t.now = max s.now (startOf f)
        ∧ t = { s with regs := t.regs, now := t.now, lanes := t.lanes }
        ∧ (∀ adr, adr ∉ ([R.LANE_FRAMES l.val, R.LANE_SAFE_FRAMES l.val] : List Nat) → t.rd adr = s.rd adr)
        ∧ (∀ key, key ∉ ([l.val] : List Nat) → t.lane key = s.lane key)) ∧
  (∀ (l : Fin 256) (f : Nat) (m : Word) (x : LaneFrame) (s : State),
      (s.laneState l.val ≠ L.off ∧ (s.laneState l.val = L.burst → 0 < (s.lane l.val).burst)) →
      (s.lane l.val).nextFrame ≤ f →
      m = (match (s.lane l.val).mg with | some ⟨_, none⟩ => if bitsOf (s.rd (R.LANE_MG_REQ l.val)) 31 30 = 2 then s.rd (R.LANE_MG_REQ l.val) else s.rd (R.LANE_MG_REQ l.val) &&& 0xFFFF0000#32 | _ => 0#32) →
      (s.running = true ∧ s.leaving = false ∧ (s.committedOf l.val f).safe = false ∧ s.bit (F.LANE_CFG_FORCE_SAFE l.val) = false ∧ s.laneState l.val ≠ L.burst) →
      s.get (F.LANE_CFG_ROLE l.val) ≠ 2 →
      s.bit (F.LANE_BLK_CTL_BUSY l.val) = true →
      (s.committedOf l.val f).words.all (fun w => bitsOf w 31 30 == 0) = true →
      x = ⟨f, 3, ((if True then 128 else 0) + (if s.snapAt.any (fun u => decide (startOf (f - 1) < u)) = true then 64 else 0) + (if s.running = true then 32 else 0) + (if s.mode = M.runSpared then 16 else 0) + s.get (F.LANE_CFG_ROLE l.val) * 4 + 0), (List.range 12).map (fun k => s.rd (R.LANE_BLK_DATA l.val k)), m⟩ →
      ∃ t, exec (.frameTransmitStart l f) s = .next t
        ∧ t.lane l.val = { s.lane l.val with sent := some x, line := (codeFrame (s.lane l.val).disparity x.bytes).1, disparity := (codeFrame (s.lane l.val).disparity x.bytes).2, nextFrame := f + 1, awaiting := (s.lane l.val).awaiting ++ [f], committed := (s.lane l.val).committed.filter (fun c => decide (f < c.frame)), burst := (if s.laneState l.val = L.burst then (s.lane l.val).burst - 1 else (s.lane l.val).burst), mg := (match (s.lane l.val).mg with | some ⟨tid, none⟩ => some ⟨tid, some f⟩ | q => q) }
        ∧ t.rdN (R.LANE_FRAMES l.val) = (s.rdN (R.LANE_FRAMES l.val) + 1) % 2 ^ 32
        ∧ t.rdN (R.LANE_SAFE_FRAMES l.val) = (s.rdN (R.LANE_SAFE_FRAMES l.val) + (if x.type = 2 then 1 else 0)) % 2 ^ 32
        ∧ (True → t.bit (F.LANE_BLK_CTL_BUSY l.val) = false ∧ t.bit (F.LANE_BLK_CTL_GO l.val) = false ∧ t.get (F.LANE_BLK_CTL_SEQ l.val) = f % 256)
        ∧ (¬ (True) → t.rd (R.LANE_BLK_CTL l.val) = s.rd (R.LANE_BLK_CTL l.val))
        ∧ t.now = max s.now (startOf f)
        ∧ t = { s with regs := t.regs, now := t.now, lanes := t.lanes }
        ∧ (∀ adr, adr ∉ ([R.LANE_FRAMES l.val, R.LANE_SAFE_FRAMES l.val, R.LANE_BLK_CTL l.val] : List Nat) → t.rd adr = s.rd adr)
        ∧ (∀ key, key ∉ ([l.val] : List Nat) → t.lane key = s.lane key)) ∧
  (∀ (l : Fin 256) (f : Nat) (m : Word) (x : LaneFrame) (s : State),
      (s.laneState l.val ≠ L.off ∧ (s.laneState l.val = L.burst → 0 < (s.lane l.val).burst)) →
      (s.lane l.val).nextFrame ≤ f →
      m = (match (s.lane l.val).mg with | some ⟨_, none⟩ => if bitsOf (s.rd (R.LANE_MG_REQ l.val)) 31 30 = 2 then s.rd (R.LANE_MG_REQ l.val) else s.rd (R.LANE_MG_REQ l.val) &&& 0xFFFF0000#32 | _ => 0#32) →
      (s.running = false ∨ s.leaving = true ∨ (s.committedOf l.val f).safe = true ∨ s.bit (F.LANE_CFG_FORCE_SAFE l.val) = true ∨ s.laneState l.val = L.burst) →
      x = ⟨f, 2, ((if s.bit (F.LANE_BLK_CTL_BUSY l.val) = true then 128 else 0) + (if s.snapAt.any (fun u => decide (startOf (f - 1) < u)) = true then 64 else 0) + (if s.running = true then 32 else 0) + (if s.mode = M.runSpared then 16 else 0) + s.get (F.LANE_CFG_ROLE l.val) * 4 + 0), (if s.bit (F.LANE_BLK_CTL_BUSY l.val) = true then (List.range 12).map (fun k => s.rd (R.LANE_BLK_DATA l.val k)) else List.replicate 12 0#32), m⟩ →
      ∃ t, exec (.frameTransmitStart l f) s = .next t
        ∧ t.lane l.val = { s.lane l.val with sent := some x, line := (codeFrame (s.lane l.val).disparity x.bytes).1, disparity := (codeFrame (s.lane l.val).disparity x.bytes).2, nextFrame := f + 1, awaiting := (s.lane l.val).awaiting ++ [f], committed := (s.lane l.val).committed.filter (fun c => decide (f < c.frame)), burst := (if s.laneState l.val = L.burst then (s.lane l.val).burst - 1 else (s.lane l.val).burst), mg := (match (s.lane l.val).mg with | some ⟨tid, none⟩ => some ⟨tid, some f⟩ | q => q) }
        ∧ t.rdN (R.LANE_FRAMES l.val) = (s.rdN (R.LANE_FRAMES l.val) + 1) % 2 ^ 32
        ∧ t.rdN (R.LANE_SAFE_FRAMES l.val) = (s.rdN (R.LANE_SAFE_FRAMES l.val) + (if x.type = 2 then 1 else 0)) % 2 ^ 32
        ∧ (s.bit (F.LANE_BLK_CTL_BUSY l.val) = true → t.bit (F.LANE_BLK_CTL_BUSY l.val) = false ∧ t.bit (F.LANE_BLK_CTL_GO l.val) = false ∧ t.get (F.LANE_BLK_CTL_SEQ l.val) = f % 256)
        ∧ (¬ (s.bit (F.LANE_BLK_CTL_BUSY l.val) = true) → t.rd (R.LANE_BLK_CTL l.val) = s.rd (R.LANE_BLK_CTL l.val))
        ∧ t.now = max s.now (startOf f)
        ∧ t = { s with regs := t.regs, now := t.now, lanes := t.lanes }
        ∧ (∀ adr, adr ∉ ([R.LANE_FRAMES l.val, R.LANE_SAFE_FRAMES l.val, R.LANE_BLK_CTL l.val] : List Nat) → t.rd adr = s.rd adr)
        ∧ (∀ key, key ∉ ([l.val] : List Nat) → t.lane key = s.lane key)) ∧
  (∀ (l : Fin 256) (f : Nat) (m : Word) (x : LaneFrame) (q : LaneFrame) (s : State),
      (s.laneState l.val ≠ L.off ∧ (s.laneState l.val = L.burst → 0 < (s.lane l.val).burst)) →
      (s.lane l.val).nextFrame ≤ f →
      m = (match (s.lane l.val).mg with | some ⟨_, none⟩ => if bitsOf (s.rd (R.LANE_MG_REQ l.val)) 31 30 = 2 then s.rd (R.LANE_MG_REQ l.val) else s.rd (R.LANE_MG_REQ l.val) &&& 0xFFFF0000#32 | _ => 0#32) →
      (s.running = true ∧ s.leaving = false ∧ (s.committedOf l.val f).safe = false ∧ s.bit (F.LANE_CFG_FORCE_SAFE l.val) = false ∧ s.laneState l.val ≠ L.burst) →
      s.get (F.LANE_CFG_ROLE l.val) = 2 →
      s.laneState (s.partner l.val) ≠ L.off →
      q = (match (s.lane (s.partner l.val)).sent with | some y => if y.frame = f then y else s.ownFrame (s.partner l.val) f | none => s.ownFrame (s.partner l.val) f) →
      x = ⟨f, 4, ((if q.flags.testBit 7 = true then 128 else 0) + (if s.snapAt.any (fun u => decide (startOf (f - 1) < u)) = true then 64 else 0) + (if s.running = true then 32 else 0) + (if s.mode = M.runSpared then 16 else 0) + s.get (F.LANE_CFG_ROLE l.val) * 4 + q.type), q.words, m⟩ →
      ∃ t, exec (.frameTransmitStart l f) s = .next t
        ∧ t.lane l.val = { s.lane l.val with sent := some x, line := (codeFrame (s.lane l.val).disparity x.bytes).1, disparity := (codeFrame (s.lane l.val).disparity x.bytes).2, nextFrame := f + 1, awaiting := (s.lane l.val).awaiting ++ [f], committed := (s.lane l.val).committed.filter (fun c => decide (f < c.frame)), burst := (if s.laneState l.val = L.burst then (s.lane l.val).burst - 1 else (s.lane l.val).burst), mg := (match (s.lane l.val).mg with | some ⟨tid, none⟩ => some ⟨tid, some f⟩ | q => q) }
        ∧ t.rdN (R.LANE_FRAMES l.val) = (s.rdN (R.LANE_FRAMES l.val) + 1) % 2 ^ 32
        ∧ t.rdN (R.LANE_SAFE_FRAMES l.val) = (s.rdN (R.LANE_SAFE_FRAMES l.val) + (if x.type = 2 then 1 else 0)) % 2 ^ 32
        ∧ t.now = max s.now (startOf f)
        ∧ t = { s with regs := t.regs, now := t.now, lanes := t.lanes }
        ∧ (∀ adr, adr ∉ ([R.LANE_FRAMES l.val, R.LANE_SAFE_FRAMES l.val] : List Nat) → t.rd adr = s.rd adr)
        ∧ (∀ key, key ∉ ([l.val] : List Nat) → t.lane key = s.lane key)) ∧
  (∀ (l : Fin 256) (f : Nat) (m : Word) (x : LaneFrame) (s : State),
      (s.laneState l.val ≠ L.off ∧ (s.laneState l.val = L.burst → 0 < (s.lane l.val).burst)) →
      (s.lane l.val).nextFrame ≤ f →
      m = (match (s.lane l.val).mg with | some ⟨_, none⟩ => if bitsOf (s.rd (R.LANE_MG_REQ l.val)) 31 30 = 2 then s.rd (R.LANE_MG_REQ l.val) else s.rd (R.LANE_MG_REQ l.val) &&& 0xFFFF0000#32 | _ => 0#32) →
      (s.running = true ∧ s.leaving = false ∧ (s.committedOf l.val f).safe = false ∧ s.bit (F.LANE_CFG_FORCE_SAFE l.val) = false ∧ s.laneState l.val ≠ L.burst) →
      s.get (F.LANE_CFG_ROLE l.val) = 2 →
      s.laneState (s.partner l.val) = L.off →
      x = ⟨f, 2, ((if s.bit (F.LANE_BLK_CTL_BUSY l.val) = true then 128 else 0) + (if s.snapAt.any (fun u => decide (startOf (f - 1) < u)) = true then 64 else 0) + (if s.running = true then 32 else 0) + (if s.mode = M.runSpared then 16 else 0) + s.get (F.LANE_CFG_ROLE l.val) * 4 + 0), (if s.bit (F.LANE_BLK_CTL_BUSY l.val) = true then (List.range 12).map (fun k => s.rd (R.LANE_BLK_DATA l.val k)) else List.replicate 12 0#32), m⟩ →
      ∃ t, exec (.frameTransmitStart l f) s = .next t
        ∧ t.lane l.val = { s.lane l.val with sent := some x, line := (codeFrame (s.lane l.val).disparity x.bytes).1, disparity := (codeFrame (s.lane l.val).disparity x.bytes).2, nextFrame := f + 1, awaiting := (s.lane l.val).awaiting ++ [f], committed := (s.lane l.val).committed.filter (fun c => decide (f < c.frame)), burst := (if s.laneState l.val = L.burst then (s.lane l.val).burst - 1 else (s.lane l.val).burst), mg := (match (s.lane l.val).mg with | some ⟨tid, none⟩ => some ⟨tid, some f⟩ | q => q) }
        ∧ t.rdN (R.LANE_FRAMES l.val) = (s.rdN (R.LANE_FRAMES l.val) + 1) % 2 ^ 32
        ∧ t.rdN (R.LANE_SAFE_FRAMES l.val) = (s.rdN (R.LANE_SAFE_FRAMES l.val) + (if x.type = 2 then 1 else 0)) % 2 ^ 32
        ∧ (s.bit (F.LANE_BLK_CTL_BUSY l.val) = true → t.bit (F.LANE_BLK_CTL_BUSY l.val) = false ∧ t.bit (F.LANE_BLK_CTL_GO l.val) = false ∧ t.get (F.LANE_BLK_CTL_SEQ l.val) = f % 256)
        ∧ (¬ (s.bit (F.LANE_BLK_CTL_BUSY l.val) = true) → t.rd (R.LANE_BLK_CTL l.val) = s.rd (R.LANE_BLK_CTL l.val))
        ∧ t.now = max s.now (startOf f)
        ∧ t = { s with regs := t.regs, now := t.now, lanes := t.lanes }
        ∧ (∀ adr, adr ∉ ([R.LANE_FRAMES l.val, R.LANE_SAFE_FRAMES l.val, R.LANE_BLK_CTL l.val] : List Nat) → t.rd adr = s.rd adr)
        ∧ (∀ key, key ∉ ([l.val] : List Nat) → t.lane key = s.lane key)) ∧
  (∀ (l : Fin 256) (f : Nat) (s : State),
      s.laneState l.val = L.off →
      (s.bit (F.LANE_CFG_EN l.val) = true ∧ s.get (F.LANE_CFG_ROLE l.val) ≠ 3 ∧ s.alive = true ∧ s.leaving = false ∧ s.domOn (14 + l.val / 64) = true) →
      s.pairValid l.val = true →
      ∃ t, exec (.frameTransmitStart l f) s = .next t
        ∧ t.laneState l.val = L.sending
        ∧ (t.lane l.val).firstFrame = f
        ∧ (t.lane l.val).nextFrame = f + 1
        ∧ (t.lane l.val).missed = 0
        ∧ (t.lane l.val).linked = false
        ∧ (t.lane l.val).sent.map (fun x => x.frame) = some f
        ∧ (s.running = false → (t.lane l.val).sent.map (fun x => x.type) = some 2)
        ∧ t.rdN (R.LANE_FRAMES l.val) = (s.rdN (R.LANE_FRAMES l.val) + 1) % 2 ^ 32
        ∧ t.now = max s.now (startOf f)
        ∧ t = { s with regs := t.regs, now := t.now, lanes := t.lanes }
        ∧ (∀ adr, adr ∉ ([R.LANE_STAT l.val, R.LANE_FRAMES l.val, R.LANE_SAFE_FRAMES l.val, R.LANE_BLK_CTL l.val] : List Nat) → t.rd adr = s.rd adr)
        ∧ (∀ key, key ∉ ([l.val] : List Nat) → t.lane key = s.lane key)) ∧
  (∀ (l : Fin 256) (f : Nat) (s : State),
      s.laneState l.val = L.off →
      (s.bit (F.LANE_CFG_EN l.val) = true ∧ s.get (F.LANE_CFG_ROLE l.val) ≠ 3 ∧ s.alive = true ∧ s.leaving = false ∧ s.domOn (14 + l.val / 64) = true) →
      s.pairValid l.val = false →
      ∃ t, exec (.frameTransmitStart l f) s = .next t
        ∧ t.rd (R.LANE_CFG l.val) = setBitsOf (s.rd (R.LANE_CFG l.val)) 31 31 0
        ∧ t.rd (R.LANE_STAT l.val) = setBitsOf (s.rd (R.LANE_STAT l.val)) 8 8 1
        ∧ (s.bitAt (R.LANE_STAT l.val) 8 = false → s.bitAt (R.LANE_IRQ_EN l.val) 8 = true → t.isPending (l.val) = true)
        ∧ t.now = max s.now (startOf f)
        ∧ t = { s with regs := t.regs, irq := t.irq, now := t.now }
        ∧ (∀ adr, adr ∉ (R.LANE_CFG l.val :: R.LANE_STAT l.val :: coalesced : List Nat) → t.rd adr = s.rd adr)
        ∧ (∀ num dr, num ∉ ([l.val] : List Nat) → t.slot num dr = s.slot num dr)) ∧
  (∀ (l : Fin 256) (f : Nat) (s : State),
      ((s.laneState l.val = L.off ∧ (s.bit (F.LANE_CFG_EN l.val) = false ∨ s.get (F.LANE_CFG_ROLE l.val) = 3 ∨ s.alive = false ∨ s.leaving = true ∨ s.domOn (14 + l.val / 64) = false)) ∨ (s.laneState l.val ≠ L.off ∧ (f < (s.lane l.val).nextFrame ∨ (s.laneState l.val = L.burst ∧ (s.lane l.val).burst = 0)))) →
      ∃ t, exec (.frameTransmitStart l f) s = .next t
        ∧ t.now = max s.now (startOf f)
        ∧ t = { s with now := t.now }) ∧
  (∀ (ini : Initiator) (l : Fin 256) (s : State),
      s.sends ini true (R.LANE_CFG l.val) = true →
      s.domOn (14 + l.val / 64) = true →
      s.regValid (R.LANE_CFG l.val) = true →
      s.bit (F.LANE_CFG_EN l.val) = false →
      s.pairValid l.val = true →
      ∃ t, exec (.laneEnable ini l) s = .next t
        ∧ t.respCode ini = 0
        ∧ t.rd (R.LANE_CFG l.val) = setBitsOf (s.rd (R.LANE_CFG l.val)) 31 31 1
        ∧ t.get (F.LANE_DELAY_L l.val) = 0
        ∧ t.get (F.LANE_DELAY_D l.val) = s.get (F.LANE_DELAY_D l.val)
        ∧ t.bit (F.LANE_DELAY_VALID l.val) = s.bit (F.LANE_DELAY_VALID l.val)
        ∧ t = { s with regs := t.regs, spine := t.spine, sec := { s.sec with tapOut := t.sec.tapOut } }
        ∧ (∀ adr, adr ∉ ([R.LANE_CFG l.val, R.LANE_DELAY l.val] : List Nat) → t.rd adr = s.rd adr)) ∧
  (∀ (ini : Initiator) (l : Fin 256) (s : State),
      s.sends ini true (R.LANE_CFG l.val) = true →
      s.domOn (14 + l.val / 64) = true →
      s.regValid (R.LANE_CFG l.val) = true →
      s.bit (F.LANE_CFG_EN l.val) = false →
      s.pairValid l.val = false →
      ∃ t, exec (.laneEnable ini l) s = .next t
        ∧ t.respCode ini = 0
        ∧ t.rd (R.LANE_CFG l.val) = s.rd (R.LANE_CFG l.val)
        ∧ t.rd (R.LANE_STAT l.val) = setBitsOf (s.rd (R.LANE_STAT l.val)) 8 8 1
        ∧ (s.bitAt (R.LANE_STAT l.val) 8 = false → s.bitAt (R.LANE_IRQ_EN l.val) 8 = true → t.isPending (l.val) = true)
        ∧ t = { s with regs := t.regs, irq := t.irq, spine := t.spine, sec := { s.sec with tapOut := t.sec.tapOut } }
        ∧ (∀ adr, adr ∉ (R.LANE_STAT l.val :: coalesced : List Nat) → t.rd adr = s.rd adr)
        ∧ (∀ num dr, num ∉ ([l.val] : List Nat) → t.slot num dr = s.slot num dr)) ∧
  (∀ (ini : Initiator) (l : Fin 256) (s : State),
      s.sends ini true (R.LANE_CFG l.val) = true →
      s.domOn (14 + l.val / 64) = true →
      s.regValid (R.LANE_CFG l.val) = true →
      s.bit (F.LANE_CFG_EN l.val) = true →
      s.laneState l.val ≠ L.off →
      s.laneState l.val ≠ L.burst →
      ∃ t, exec (.laneDisable ini l) s = .next t
        ∧ t.respCode ini = 0
        ∧ t.rd (R.LANE_CFG l.val) = setBitsOf (s.rd (R.LANE_CFG l.val)) 31 31 0
        ∧ t.laneState l.val = L.burst
        ∧ t.lane l.val = { s.lane l.val with burst := 16 }
        ∧ t = { s with regs := t.regs, spine := t.spine, sec := { s.sec with tapOut := t.sec.tapOut }, lanes := t.lanes }
        ∧ (∀ adr, adr ∉ ([R.LANE_CFG l.val, R.LANE_STAT l.val] : List Nat) → t.rd adr = s.rd adr)
        ∧ (∀ key, key ∉ ([l.val] : List Nat) → t.lane key = s.lane key)) ∧
  (∀ (ini : Initiator) (l : Fin 256) (i : Instr) (s : State),
      s.sends ini true (R.LANE_CFG l.val) = true →
      s.domOn (14 + l.val / 64) = true →
      s.regValid (R.LANE_CFG l.val) = true →
      ((i = .laneDisable ini l ∧ (s.bit (F.LANE_CFG_EN l.val) = false ∨ s.laneState l.val = L.off ∨ s.laneState l.val = L.burst)) ∨ (i = .laneEnable ini l ∧ s.bit (F.LANE_CFG_EN l.val) = true)) →
      ∃ t, exec i s = .next t
        ∧ t.respCode ini = 0
        ∧ t.rd (R.LANE_CFG l.val) = setBitsOf (s.rd (R.LANE_CFG l.val)) 31 31 (if i = .laneEnable ini l then 1 else 0)
        ∧ t = { s with regs := t.regs, spine := t.spine, sec := { s.sec with tapOut := t.sec.tapOut } }
        ∧ (∀ adr, adr ∉ ([R.LANE_CFG l.val] : List Nat) → t.rd adr = s.rd adr)) ∧
  (∀ (l : Fin 256) (f : Nat) (s : State),
      s.laneState l.val = L.burst →
      (s.lane l.val).burst = 0 →
      (s.lane l.val).nextFrame ≤ f →
      s.bit (F.LANE_CFG_EN l.val) = false →
      ∃ t, exec (.laneBurstEnd l f) s = .next t
        ∧ t.laneState l.val = L.off
        ∧ t.lane l.val = { s.lane l.val with burst := 0, missed := 0, linked := false }
        ∧ t.now = max s.now (startOf f)
        ∧ t = { s with regs := t.regs, now := t.now, lanes := t.lanes }
        ∧ (∀ adr, adr ∉ ([R.LANE_STAT l.val] : List Nat) → t.rd adr = s.rd adr)
        ∧ (∀ key, key ∉ ([l.val] : List Nat) → t.lane key = s.lane key)) ∧
  (∀ (l : Fin 256) (f : Nat) (s : State),
      s.laneState l.val = L.burst →
      (s.lane l.val).burst = 0 →
      (s.lane l.val).nextFrame ≤ f →
      s.bit (F.LANE_CFG_EN l.val) = true →
      s.pairValid l.val = true →
      ∃ t, exec (.laneBurstEnd l f) s = .next t
        ∧ t.laneState l.val = L.sending
        ∧ t.lane l.val = { s.lane l.val with firstFrame := f, nextFrame := f, missed := 0, linked := false }
        ∧ t.now = max s.now (startOf f)
        ∧ t = { s with regs := t.regs, now := t.now, lanes := t.lanes }
        ∧ (∀ adr, adr ∉ ([R.LANE_STAT l.val] : List Nat) → t.rd adr = s.rd adr)
        ∧ (∀ key, key ∉ ([l.val] : List Nat) → t.lane key = s.lane key)) ∧
  (∀ (l : Fin 256) (f : Nat) (s : State),
      s.laneState l.val = L.burst →
      (s.lane l.val).burst = 0 →
      (s.lane l.val).nextFrame ≤ f →
      s.bit (F.LANE_CFG_EN l.val) = true →
      s.pairValid l.val = false →
      ∃ t, exec (.laneBurstEnd l f) s = .next t
        ∧ t.laneState l.val = L.off
        ∧ t.lane l.val = { s.lane l.val with burst := 0, missed := 0, linked := false }
        ∧ t.rd (R.LANE_CFG l.val) = setBitsOf (s.rd (R.LANE_CFG l.val)) 31 31 0
        ∧ t.bitAt (R.LANE_STAT l.val) 8 = true
        ∧ (s.bitAt (R.LANE_STAT l.val) 8 = false → s.bitAt (R.LANE_IRQ_EN l.val) 8 = true → t.isPending (l.val) = true)
        ∧ t.now = max s.now (startOf f)
        ∧ t = { s with regs := t.regs, irq := t.irq, now := t.now, lanes := t.lanes }
        ∧ (∀ adr, adr ∉ (R.LANE_STAT l.val :: R.LANE_CFG l.val :: coalesced : List Nat) → t.rd adr = s.rd adr)
        ∧ (∀ key, key ∉ ([l.val] : List Nat) → t.lane key = s.lane key)
        ∧ (∀ num dr, num ∉ ([l.val] : List Nat) → t.slot num dr = s.slot num dr)) ∧
  (∀ (l : Fin 256) (f : Nat) (s : State),
      (s.laneState l.val ≠ L.burst ∨ (s.lane l.val).burst ≠ 0 ∨ f < (s.lane l.val).nextFrame) →
      ∃ t, exec (.laneBurstEnd l f) s = .next t
        ∧ t.now = max s.now (startOf f)
        ∧ t = { s with now := t.now }) ∧
  (∀ (l : Fin 256) (t0 : Nat) (s : State),
      s.laneState l.val = L.sending →
      startOf (s.lane l.val).firstFrame + 163840 ≤ t0 →
      ∃ t, exec (.sendingTimeout l t0) s = .next t
        ∧ t.rd (R.LANE_STAT l.val) = setBitsOf (setBitsOf (s.rd (R.LANE_STAT l.val)) 31 29 L.lost) 2 2 1
        ∧ (s.bitAt (R.LANE_STAT l.val) 2 = false → s.bitAt (R.LANE_IRQ_EN l.val) 2 = true → t.isPending (l.val) = true)
        ∧ t.now = max s.now t0
        ∧ t = { s with regs := t.regs, irq := t.irq, now := t.now }
        ∧ (∀ adr, adr ∉ (R.LANE_STAT l.val :: coalesced : List Nat) → t.rd adr = s.rd adr)
        ∧ (∀ num dr, num ∉ ([l.val] : List Nat) → t.slot num dr = s.slot num dr)) ∧
  (∀ (l : Fin 256) (t0 : Nat) (s : State),
      (s.laneState l.val ≠ L.sending ∨ t0 < startOf (s.lane l.val).firstFrame + 163840) →
      ∃ t, exec (.sendingTimeout l t0) s = .next t
        ∧ t.now = max s.now t0
        ∧ t = { s with now := t.now })

/-- Echoes, missed echoes, management requests and blocks (parts of R35, R165, R184, R185, R189, R195, R196, R198, R199, R200, R201, R203, R206, R214, R215, R218, R221, R222). In the clauses on ECHO_RECEIVE the device is in a mode from INIT on, the domain of lane l is ON, groups are the code groups of an echo frame whose first bit arrives at t0, b is the bytes that the receiver reads from them at its running disparity, which becomes d, and x is their fields (the sense words, LANE_TIME and so on of the layout). What a clause does not name stays. (1) Groups that are no valid frame (a group not in the tables or not at its disparity, byte 0 not K28.5, a control code after it, not 64 groups): discarded, counted in ECHO_BAD, ECHO_ERR (1) set, and the receiver aligns anew. (2) A wrong CRC or a TYPE other than 0x18: the same. (3) LANE_TIME names no frame near the one due next, or a frame f with another SEQ, not sent yet, or, not due yet, whose echo is not awaited: discarded, ECHO_MISMATCH and ECHO_ERR. (4) It names frame f, sent, with its SEQ, and the last bit arrives at or after the due time 640f + 1600: discarded, ECHO_LATE and ECHO_ERR. (5) It arrives in time but an echo of f was accepted before: only the running disparity goes on. (6) The echo of frame f, awaited, not accepted before and in time, is accepted: its record is kept (records whose 8 later frames have fallen due are dropped), missed counts 0, ECHO_LAST and ECHO_OK follow; SENDING and LOST become LINKED; D is dl = (e + L) div 2 with e = t0 − (640f + 672) (over 127 reads 255, not VALID; a negative one is left open); L follows a WRITE_OK of register 8; a response (done) within F to F + 2 with the request's TID goes to MG_RESP and ends it; SUBST counts; and the events ev are set: LINKED, ECHO_BACK, DEENERGISED, BOARD_ALT (STANDBY lanes), MG_DONE. For a STANDBY lane this clause takes the case that LANE_ALT already agrees with ON_STANDBY of this echo and of the other STANDBY lanes' last ones. (7) The same of a STANDBY lane with ON_STANDBY = 1 while LANE_ALT is clear: LANE_ALT of SPARED is set too, and RUN becomes RUN-SPARED with CAUSE 0x22, unless a transition is at work. (8) With ON_STANDBY = 0 while LANE_ALT is set and no other STANDBY lane's last echo has it: LANE_ALT is cleared, and RUN-SPARED becomes RUN where it was the last redundancy engaged. (9) Before INIT, or with the domain of the lane not ON, nothing is heard. (10) ECHO_DUE of a frame f whose echo is awaited and was not accepted, on a lane that is no PRIMARY, or whose partner has no echo of its own of f: ECHO_MISS counts; the third miss in a row of a LINKED lane makes it LOST with ECHO_LOST (2). (11) On a PRIMARY lane whose partner accepted echo e of f: the same, and the lane takes the partner's echo as merged, counts MERGED and shows it in ECHO_LAST. (12) Of a frame whose echo was accepted: the frame is awaited no more, and nothing else; of one not awaited: nothing. (13) MG_REQUEST of a READ or WRITE while none is pending: MG_REQ holds it, MG_PENDING is set, and it waits for the next frame. (14) While one is pending: PARAM, and nothing is sent; with another OP: PARAM, logged, and no request waits. (The other fields of the word are written as the register-write rule has them.) (15) MG_TIMEOUT at the due time of echo F + 2, the request that went with frame F unanswered: it ends, MG_TIMEOUTS counts, MG_TIMEOUT (7) is set. (16) Earlier, or with no request sent: nothing. (17) BLOCK_GO while no block waits: BUSY and GO are set; while one waits it is ignored. (18) REGISTER_WRITE of BLK_DATAk: the word is written, or, while a block waits, ignored. Readings and choices of the model that it rests on: log entries 13, 14, 52, 55, 154. -/
def Obligations.LaneEchoes : Prop :=
  (∀ (l : Fin 256) (t0 : Nat) (groups : List (BitVec 10)) (s : State),
      (s.alive = true ∧ s.domOn (14 + l.val / 64) = true) →
      readFrame (s.lane l.val).rx (groups.map BitVec.toNat) = none →
      ∃ t, exec (.echoReceive l t0 groups) s = .next t
        ∧ t.rdN (R.LANE_ECHO_BAD l.val) = min 0xFFFFFFFF (s.rdN (R.LANE_ECHO_BAD l.val) + 1)
        ∧ t.rd (R.LANE_STAT l.val) = setBitsOf (s.rd (R.LANE_STAT l.val)) 1 1 1
        ∧ (s.bitAt (R.LANE_STAT l.val) 1 = false → s.bitAt (R.LANE_IRQ_EN l.val) 1 = true → t.isPending (l.val) = true)
        ∧ t.lane l.val = { s.lane l.val with rx := none }
        ∧ t.now = max s.now (t0 + 640)
        ∧ t = { s with regs := t.regs, irq := t.irq, now := t.now, lanes := t.lanes }
        ∧ (∀ adr, adr ∉ (R.LANE_ECHO_BAD l.val :: R.LANE_STAT l.val :: coalesced : List Nat) → t.rd adr = s.rd adr)
        ∧ (∀ key, key ∉ ([l.val] : List Nat) → t.lane key = s.lane key)
        ∧ (∀ num dr, num ∉ ([l.val] : List Nat) → t.slot num dr = s.slot num dr)) ∧
  (∀ (l : Fin 256) (t0 : Nat) (groups : List (BitVec 10)) (b : List Nat) (d : Bool) (x : EchoFields) (s : State),
      (s.alive = true ∧ s.domOn (14 + l.val / 64) = true) →
      readFrame (s.lane l.val).rx (groups.map BitVec.toNat) = some (b, d) →
      x = EchoFields.ofBytes b →
      (x.crcOk = false ∨ x.type ≠ 0x18) →
      ∃ t, exec (.echoReceive l t0 groups) s = .next t
        ∧ t.rdN (R.LANE_ECHO_BAD l.val) = min 0xFFFFFFFF (s.rdN (R.LANE_ECHO_BAD l.val) + 1)
        ∧ t.rd (R.LANE_STAT l.val) = setBitsOf (s.rd (R.LANE_STAT l.val)) 1 1 1
        ∧ (s.bitAt (R.LANE_STAT l.val) 1 = false → s.bitAt (R.LANE_IRQ_EN l.val) 1 = true → t.isPending (l.val) = true)
        ∧ t.lane l.val = { s.lane l.val with rx := some d }
        ∧ t.now = max s.now (t0 + 640)
        ∧ t = { s with regs := t.regs, irq := t.irq, now := t.now, lanes := t.lanes }
        ∧ (∀ adr, adr ∉ (R.LANE_ECHO_BAD l.val :: R.LANE_STAT l.val :: coalesced : List Nat) → t.rd adr = s.rd adr)
        ∧ (∀ key, key ∉ ([l.val] : List Nat) → t.lane key = s.lane key)
        ∧ (∀ num dr, num ∉ ([l.val] : List Nat) → t.slot num dr = s.slot num dr)) ∧
  (∀ (l : Fin 256) (t0 : Nat) (groups : List (BitVec 10)) (b : List Nat) (d : Bool) (x : EchoFields) (s : State),
      (s.alive = true ∧ s.domOn (14 + l.val / 64) = true) →
      readFrame (s.lane l.val).rx (groups.map BitVec.toNat) = some (b, d) →
      x = EchoFields.ofBytes b →
      (x.crcOk = true ∧ x.type = 0x18) →
      ((match echoFrame (t0 + 640) x.laneTime with | none => true | some f => decide (x.seq ≠ f % 256 ∨ (s.lane l.val).nextFrame ≤ f ∨ (t0 + 640 < dueOf f ∧ (s.lane l.val).awaiting.contains f = false))) = true) →
      ∃ t, exec (.echoReceive l t0 groups) s = .next t
        ∧ t.rdN (R.LANE_ECHO_MISMATCH l.val) = min 0xFFFFFFFF (s.rdN (R.LANE_ECHO_MISMATCH l.val) + 1)
        ∧ t.rd (R.LANE_STAT l.val) = setBitsOf (s.rd (R.LANE_STAT l.val)) 1 1 1
        ∧ (s.bitAt (R.LANE_STAT l.val) 1 = false → s.bitAt (R.LANE_IRQ_EN l.val) 1 = true → t.isPending (l.val) = true)
        ∧ t.lane l.val = { s.lane l.val with rx := some d }
        ∧ t.now = max s.now (t0 + 640)
        ∧ t = { s with regs := t.regs, irq := t.irq, now := t.now, lanes := t.lanes }
        ∧ (∀ adr, adr ∉ (R.LANE_ECHO_MISMATCH l.val :: R.LANE_STAT l.val :: coalesced : List Nat) → t.rd adr = s.rd adr)
        ∧ (∀ key, key ∉ ([l.val] : List Nat) → t.lane key = s.lane key)
        ∧ (∀ num dr, num ∉ ([l.val] : List Nat) → t.slot num dr = s.slot num dr)) ∧
  (∀ (l : Fin 256) (t0 : Nat) (groups : List (BitVec 10)) (b : List Nat) (d : Bool) (x : EchoFields) (f : Nat) (s : State),
      (s.alive = true ∧ s.domOn (14 + l.val / 64) = true) →
      readFrame (s.lane l.val).rx (groups.map BitVec.toNat) = some (b, d) →
      x = EchoFields.ofBytes b →
      (x.crcOk = true ∧ x.type = 0x18) →
      echoFrame (t0 + 640) x.laneTime = some f →
      (x.seq = f % 256 ∧ f < (s.lane l.val).nextFrame) →
      dueOf f ≤ t0 + 640 →
      ∃ t, exec (.echoReceive l t0 groups) s = .next t
        ∧ t.rdN (R.LANE_ECHO_LATE l.val) = min 0xFFFFFFFF (s.rdN (R.LANE_ECHO_LATE l.val) + 1)
        ∧ t.rd (R.LANE_STAT l.val) = setBitsOf (s.rd (R.LANE_STAT l.val)) 1 1 1
        ∧ (s.bitAt (R.LANE_STAT l.val) 1 = false → s.bitAt (R.LANE_IRQ_EN l.val) 1 = true → t.isPending (l.val) = true)
        ∧ t.lane l.val = { s.lane l.val with rx := some d }
        ∧ t.now = max s.now (t0 + 640)
        ∧ t = { s with regs := t.regs, irq := t.irq, now := t.now, lanes := t.lanes }
        ∧ (∀ adr, adr ∉ (R.LANE_ECHO_LATE l.val :: R.LANE_STAT l.val :: coalesced : List Nat) → t.rd adr = s.rd adr)
        ∧ (∀ key, key ∉ ([l.val] : List Nat) → t.lane key = s.lane key)
        ∧ (∀ num dr, num ∉ ([l.val] : List Nat) → t.slot num dr = s.slot num dr)) ∧
  (∀ (l : Fin 256) (t0 : Nat) (groups : List (BitVec 10)) (b : List Nat) (d : Bool) (x : EchoFields) (f : Nat) (s : State),
      (s.alive = true ∧ s.domOn (14 + l.val / 64) = true) →
      readFrame (s.lane l.val).rx (groups.map BitVec.toNat) = some (b, d) →
      x = EchoFields.ofBytes b →
      (x.crcOk = true ∧ x.type = 0x18) →
      echoFrame (t0 + 640) x.laneTime = some f →
      (x.seq = f % 256 ∧ f < (s.lane l.val).nextFrame) →
      t0 + 640 < dueOf f →
      (s.lane l.val).awaiting.contains f = true →
      (s.echoOf l.val f).isSome = true →
      ∃ t, exec (.echoReceive l t0 groups) s = .next t
        ∧ t.lane l.val = { s.lane l.val with rx := some d }
        ∧ t.now = max s.now (t0 + 640)
        ∧ t = { s with now := t.now, lanes := t.lanes }
        ∧ (∀ key, key ∉ ([l.val] : List Nat) → t.lane key = s.lane key)) ∧
  (∀ (l : Fin 256) (t0 : Nat) (groups : List (BitVec 10)) (b : List Nat) (d : Bool) (x : EchoFields) (f : Nat) (done : Bool) (dl : Int) (ev : List (Nat × Bool)) (s : State),
      (s.alive = true ∧ s.domOn (14 + l.val / 64) = true) →
      readFrame (s.lane l.val).rx (groups.map BitVec.toNat) = some (b, d) →
      x = EchoFields.ofBytes b →
      (x.crcOk = true ∧ x.type = 0x18) →
      echoFrame (t0 + 640) x.laneTime = some f →
      (x.seq = f % 256 ∧ f < (s.lane l.val).nextFrame) →
      t0 + 640 < dueOf f →
      (s.lane l.val).awaiting.contains f = true →
      s.echoOf l.val f = none →
      done = (x.flags.testBit 2 && (match (s.lane l.val).mg with | some ⟨tid, some g⟩ => decide (g ≤ f ∧ f ≤ g + 2 ∧ bitsOf x.mgmt 29 24 = tid) | _ => false)) →
      dl = Int.tdiv ((t0 : Int) - (640 * f + 672) + s.get (F.LANE_DELAY_L l.val)) 2 →
      ev = [(0, !(s.lane l.val).linked), (3, s.laneState l.val == L.lost), (4, x.flags.testBit 7 && (s.lane l.val).heard.any (fun o => !o.testBit 7)), (5, s.get (F.LANE_CFG_ROLE l.val) == 2 && x.flags.testBit 6 && !(s.lane l.val).heard.any (fun o => o.testBit 6)), (6, done)] →
      (s.get (F.LANE_CFG_ROLE l.val) = 2 → s.bitAt R.SYS_SPARED 5 = (x.flags.testBit 6 || (List.range 256).any (fun k => k != l.val && s.get (F.LANE_CFG_ROLE k) == 2 && (s.lane k).heard.any (fun o => o.testBit 6)))) →
      ∃ t, exec (.echoReceive l t0 groups) s = .next t
        ∧ (∀ p ∈ ev, t.bitAt (R.LANE_STAT l.val) p.1 = (s.bitAt (R.LANE_STAT l.val) p.1 || p.2))
        ∧ (∀ p ∈ ev, p.2 = true → s.bitAt (R.LANE_STAT l.val) p.1 = false → s.bitAt (R.LANE_IRQ_EN l.val) p.1 = true → t.isPending l.val = true)
        ∧ t.laneState l.val = (if s.laneState l.val = L.sending ∨ s.laneState l.val = L.lost then L.linked else s.laneState l.val)
        ∧ t.bit (F.LANE_STAT_MG_PENDING l.val) = (s.bit (F.LANE_STAT_MG_PENDING l.val) && !done)
        ∧ (∀ k ∈ ([1, 2, 7, 8, 9] : List Nat), t.bitAt (R.LANE_STAT l.val) k = s.bitAt (R.LANE_STAT l.val) k)
        ∧ t.rd (R.LANE_MG_RESP l.val) = (if done = true then x.mgmt else s.rd (R.LANE_MG_RESP l.val))
        ∧ t.rd (R.LANE_ECHO_LAST l.val) = BitVec.ofNat 32 (x.flags % 256 * 2 ^ 16 + f % 256 * 2 ^ 8)
        ∧ t.rdN (R.LANE_ECHO_OK l.val) = (s.rdN (R.LANE_ECHO_OK l.val) + 1) % 2 ^ 32
        ∧ t.rdN (R.LANE_SUBST l.val) = (if x.flags.testBit 0 = true then min 0xFFFFFFFF (s.rdN (R.LANE_SUBST l.val) + 1) else s.rdN (R.LANE_SUBST l.val))
        ∧ (0 ≤ dl → t.get (F.LANE_DELAY_D l.val) = (if dl ≤ 127 then dl.toNat else 255) ∧ t.bit (F.LANE_DELAY_VALID l.val) = decide (dl ≤ 127))
        ∧ t.get (F.LANE_DELAY_L l.val) = (if x.flags.testBit 2 = true ∧ bitsOf x.mgmt 31 30 = 2 ∧ bitsOf x.mgmt 23 16 = 8 then bitsOf x.mgmt 6 0 else s.get (F.LANE_DELAY_L l.val))
        ∧ t.lane l.val = { s.lane l.val with rx := some d, echoes := ⟨f, x.flags, x.sense, false⟩ :: (s.lane l.val).echoes.filter (fun y => decide (max s.now (t0 + 640) < dueOf (y.frame + 8))), missed := 0, heard := some x.flags, linked := true, mg := if done = true then none else (s.lane l.val).mg }
        ∧ t.now = max s.now (t0 + 640)
        ∧ t = { s with regs := t.regs, irq := t.irq, now := t.now, lanes := t.lanes, free := t.free }
        ∧ (0 ≤ dl → t.free = s.free)
        ∧ (∀ adr, adr ∉ (R.LANE_ECHO_OK l.val :: R.LANE_ECHO_LAST l.val :: R.LANE_DELAY l.val :: R.LANE_SUBST l.val :: R.LANE_MG_RESP l.val :: R.LANE_STAT l.val :: coalesced : List Nat) → t.rd adr = s.rd adr)
        ∧ (∀ key, key ∉ ([l.val] : List Nat) → t.lane key = s.lane key)
        ∧ (∀ num dr, num ∉ ([l.val] : List Nat) → t.slot num dr = s.slot num dr)) ∧
  (∀ (l : Fin 256) (t0 : Nat) (groups : List (BitVec 10)) (b : List Nat) (d : Bool) (x : EchoFields) (f : Nat) (done : Bool) (dl : Int) (ev : List (Nat × Bool)) (s : State),
      (s.alive = true ∧ s.domOn (14 + l.val / 64) = true) →
      readFrame (s.lane l.val).rx (groups.map BitVec.toNat) = some (b, d) →
      x = EchoFields.ofBytes b →
      (x.crcOk = true ∧ x.type = 0x18) →
      echoFrame (t0 + 640) x.laneTime = some f →
      (x.seq = f % 256 ∧ f < (s.lane l.val).nextFrame) →
      t0 + 640 < dueOf f →
      (s.lane l.val).awaiting.contains f = true →
      s.echoOf l.val f = none →
      done = (x.flags.testBit 2 && (match (s.lane l.val).mg with | some ⟨tid, some g⟩ => decide (g ≤ f ∧ f ≤ g + 2 ∧ bitsOf x.mgmt 29 24 = tid) | _ => false)) →
      dl = Int.tdiv ((t0 : Int) - (640 * f + 672) + s.get (F.LANE_DELAY_L l.val)) 2 →
      ev = [(0, !(s.lane l.val).linked), (3, s.laneState l.val == L.lost), (4, x.flags.testBit 7 && (s.lane l.val).heard.any (fun o => !o.testBit 7)), (5, s.get (F.LANE_CFG_ROLE l.val) == 2 && x.flags.testBit 6 && !(s.lane l.val).heard.any (fun o => o.testBit 6)), (6, done)] →
      s.get (F.LANE_CFG_ROLE l.val) = 2 →
      x.flags.testBit 6 = true →
      s.bitAt R.SYS_SPARED 5 = false →
      ∃ t, exec (.echoReceive l t0 groups) s = .next t
        ∧ (∀ p ∈ ev, t.bitAt (R.LANE_STAT l.val) p.1 = (s.bitAt (R.LANE_STAT l.val) p.1 || p.2))
        ∧ (∀ p ∈ ev, p.2 = true → s.bitAt (R.LANE_STAT l.val) p.1 = false → s.bitAt (R.LANE_IRQ_EN l.val) p.1 = true → t.isPending l.val = true)
        ∧ t.laneState l.val = (if s.laneState l.val = L.sending ∨ s.laneState l.val = L.lost then L.linked else s.laneState l.val)
        ∧ t.bit (F.LANE_STAT_MG_PENDING l.val) = (s.bit (F.LANE_STAT_MG_PENDING l.val) && !done)
        ∧ (∀ k ∈ ([1, 2, 7, 8, 9] : List Nat), t.bitAt (R.LANE_STAT l.val) k = s.bitAt (R.LANE_STAT l.val) k)
        ∧ t.rd (R.LANE_MG_RESP l.val) = (if done = true then x.mgmt else s.rd (R.LANE_MG_RESP l.val))
        ∧ t.rd (R.LANE_ECHO_LAST l.val) = BitVec.ofNat 32 (x.flags % 256 * 2 ^ 16 + f % 256 * 2 ^ 8)
        ∧ t.rdN (R.LANE_ECHO_OK l.val) = (s.rdN (R.LANE_ECHO_OK l.val) + 1) % 2 ^ 32
        ∧ t.rdN (R.LANE_SUBST l.val) = (if x.flags.testBit 0 = true then min 0xFFFFFFFF (s.rdN (R.LANE_SUBST l.val) + 1) else s.rdN (R.LANE_SUBST l.val))
        ∧ (0 ≤ dl → t.get (F.LANE_DELAY_D l.val) = (if dl ≤ 127 then dl.toNat else 255) ∧ t.bit (F.LANE_DELAY_VALID l.val) = decide (dl ≤ 127))
        ∧ t.get (F.LANE_DELAY_L l.val) = (if x.flags.testBit 2 = true ∧ bitsOf x.mgmt 31 30 = 2 ∧ bitsOf x.mgmt 23 16 = 8 then bitsOf x.mgmt 6 0 else s.get (F.LANE_DELAY_L l.val))
        ∧ t.lane l.val = { s.lane l.val with rx := some d, echoes := ⟨f, x.flags, x.sense, false⟩ :: (s.lane l.val).echoes.filter (fun y => decide (max s.now (t0 + 640) < dueOf (y.frame + 8))), missed := 0, heard := some x.flags, linked := true, mg := if done = true then none else (s.lane l.val).mg }
        ∧ t.rd R.SYS_SPARED = setBitsOf (s.rd R.SYS_SPARED) 5 5 1
        ∧ t.mode = (if s.mode = M.run ∧ s.leaving = false then M.runSpared else s.mode)
        ∧ (s.mode = M.run → s.leaving = false → t.get F.SYS_MODE_CAUSE = 0x22)
        ∧ t.now = max s.now (t0 + 640)
        ∧ t = { s with regs := t.regs, irq := t.irq, sessions := t.sessions, modeCtl := t.modeCtl, now := t.now, lanes := t.lanes, free := t.free }
        ∧ (∀ adr, adr ∉ (R.LANE_ECHO_OK l.val :: R.LANE_ECHO_LAST l.val :: R.LANE_DELAY l.val :: R.LANE_SUBST l.val :: R.LANE_MG_RESP l.val :: R.LANE_STAT l.val :: R.SYS_SPARED :: modeRegs : List Nat) → t.rd adr = s.rd adr)
        ∧ (∀ key, key ∉ ([l.val] : List Nat) → t.lane key = s.lane key)
        ∧ (∀ num dr, num ∉ ([l.val, 824] : List Nat) → t.slot num dr = s.slot num dr)) ∧
  (∀ (l : Fin 256) (t0 : Nat) (groups : List (BitVec 10)) (b : List Nat) (d : Bool) (x : EchoFields) (f : Nat) (done : Bool) (dl : Int) (ev : List (Nat × Bool)) (s : State),
      (s.alive = true ∧ s.domOn (14 + l.val / 64) = true) →
      readFrame (s.lane l.val).rx (groups.map BitVec.toNat) = some (b, d) →
      x = EchoFields.ofBytes b →
      (x.crcOk = true ∧ x.type = 0x18) →
      echoFrame (t0 + 640) x.laneTime = some f →
      (x.seq = f % 256 ∧ f < (s.lane l.val).nextFrame) →
      t0 + 640 < dueOf f →
      (s.lane l.val).awaiting.contains f = true →
      s.echoOf l.val f = none →
      done = (x.flags.testBit 2 && (match (s.lane l.val).mg with | some ⟨tid, some g⟩ => decide (g ≤ f ∧ f ≤ g + 2 ∧ bitsOf x.mgmt 29 24 = tid) | _ => false)) →
      dl = Int.tdiv ((t0 : Int) - (640 * f + 672) + s.get (F.LANE_DELAY_L l.val)) 2 →
      ev = [(0, !(s.lane l.val).linked), (3, s.laneState l.val == L.lost), (4, x.flags.testBit 7 && (s.lane l.val).heard.any (fun o => !o.testBit 7)), (5, s.get (F.LANE_CFG_ROLE l.val) == 2 && x.flags.testBit 6 && !(s.lane l.val).heard.any (fun o => o.testBit 6)), (6, done)] →
      s.get (F.LANE_CFG_ROLE l.val) = 2 →
      x.flags.testBit 6 = false →
      s.bitAt R.SYS_SPARED 5 = true →
      (List.range 256).any (fun k => k != l.val && s.get (F.LANE_CFG_ROLE k) == 2 && (s.lane k).heard.any (fun o => o.testBit 6)) = false →
      ∃ t, exec (.echoReceive l t0 groups) s = .next t
        ∧ (∀ p ∈ ev, t.bitAt (R.LANE_STAT l.val) p.1 = (s.bitAt (R.LANE_STAT l.val) p.1 || p.2))
        ∧ (∀ p ∈ ev, p.2 = true → s.bitAt (R.LANE_STAT l.val) p.1 = false → s.bitAt (R.LANE_IRQ_EN l.val) p.1 = true → t.isPending l.val = true)
        ∧ t.laneState l.val = (if s.laneState l.val = L.sending ∨ s.laneState l.val = L.lost then L.linked else s.laneState l.val)
        ∧ t.bit (F.LANE_STAT_MG_PENDING l.val) = (s.bit (F.LANE_STAT_MG_PENDING l.val) && !done)
        ∧ (∀ k ∈ ([1, 2, 7, 8, 9] : List Nat), t.bitAt (R.LANE_STAT l.val) k = s.bitAt (R.LANE_STAT l.val) k)
        ∧ t.rd (R.LANE_MG_RESP l.val) = (if done = true then x.mgmt else s.rd (R.LANE_MG_RESP l.val))
        ∧ t.rd (R.LANE_ECHO_LAST l.val) = BitVec.ofNat 32 (x.flags % 256 * 2 ^ 16 + f % 256 * 2 ^ 8)
        ∧ t.rdN (R.LANE_ECHO_OK l.val) = (s.rdN (R.LANE_ECHO_OK l.val) + 1) % 2 ^ 32
        ∧ t.rdN (R.LANE_SUBST l.val) = (if x.flags.testBit 0 = true then min 0xFFFFFFFF (s.rdN (R.LANE_SUBST l.val) + 1) else s.rdN (R.LANE_SUBST l.val))
        ∧ (0 ≤ dl → t.get (F.LANE_DELAY_D l.val) = (if dl ≤ 127 then dl.toNat else 255) ∧ t.bit (F.LANE_DELAY_VALID l.val) = decide (dl ≤ 127))
        ∧ t.get (F.LANE_DELAY_L l.val) = (if x.flags.testBit 2 = true ∧ bitsOf x.mgmt 31 30 = 2 ∧ bitsOf x.mgmt 23 16 = 8 then bitsOf x.mgmt 6 0 else s.get (F.LANE_DELAY_L l.val))
        ∧ t.lane l.val = { s.lane l.val with rx := some d, echoes := ⟨f, x.flags, x.sense, false⟩ :: (s.lane l.val).echoes.filter (fun y => decide (max s.now (t0 + 640) < dueOf (y.frame + 8))), missed := 0, heard := some x.flags, linked := true, mg := if done = true then none else (s.lane l.val).mg }
        ∧ t.rd R.SYS_SPARED = setBitsOf (s.rd R.SYS_SPARED) 5 5 0
        ∧ t.mode = (if s.mode = M.runSpared ∧ s.rd R.SYS_SPARED = 0x20 ∧ s.leaving = false then M.run else s.mode)
        ∧ t.now = max s.now (t0 + 640)
        ∧ t = { s with regs := t.regs, irq := t.irq, sessions := t.sessions, modeCtl := t.modeCtl, now := t.now, lanes := t.lanes, free := t.free }
        ∧ (∀ adr, adr ∉ (R.LANE_ECHO_OK l.val :: R.LANE_ECHO_LAST l.val :: R.LANE_DELAY l.val :: R.LANE_SUBST l.val :: R.LANE_MG_RESP l.val :: R.LANE_STAT l.val :: R.SYS_SPARED :: modeRegs : List Nat) → t.rd adr = s.rd adr)
        ∧ (∀ key, key ∉ ([l.val] : List Nat) → t.lane key = s.lane key)
        ∧ (∀ num dr, num ∉ ([l.val, 824] : List Nat) → t.slot num dr = s.slot num dr)) ∧
  (∀ (l : Fin 256) (t0 : Nat) (groups : List (BitVec 10)) (s : State),
      (s.alive = false ∨ s.domOn (14 + l.val / 64) = false) →
      ∃ t, exec (.echoReceive l t0 groups) s = .next t
        ∧ t.now = max s.now (t0 + 640)
        ∧ t = { s with now := t.now }) ∧
  (∀ (l : Fin 256) (f : Nat) (m : Nat) (s : State),
      (s.lane l.val).awaiting.contains f = true →
      s.echoOf l.val f = none →
      m = (s.lane l.val).missed + 1 →
      (s.get (F.LANE_CFG_ROLE l.val) ≠ 1 ∨ (s.echoOf (s.partner l.val) f).all (fun e => e.merged) = true) →
      ∃ t, exec (.echoDue l f) s = .next t
        ∧ t.laneState l.val = (if s.laneState l.val = L.linked ∧ 3 ≤ m then L.lost else s.laneState l.val)
        ∧ t.bitAt (R.LANE_STAT l.val) 2 = (s.bitAt (R.LANE_STAT l.val) 2 || (decide (s.laneState l.val = L.linked) && decide (3 ≤ m)))
        ∧ (∀ k ∈ ([0, 1, 3, 4, 5, 6, 7, 8, 9, 28] : List Nat), t.bitAt (R.LANE_STAT l.val) k = s.bitAt (R.LANE_STAT l.val) k)
        ∧ (s.laneState l.val = L.linked → 3 ≤ m → s.bitAt (R.LANE_STAT l.val) 2 = false → s.bitAt (R.LANE_IRQ_EN l.val) 2 = true → t.isPending l.val = true)
        ∧ t.rdN (R.LANE_ECHO_MISS l.val) = min 0xFFFFFFFF (s.rdN (R.LANE_ECHO_MISS l.val) + 1)
        ∧ t.lane l.val = { s.lane l.val with awaiting := (s.lane l.val).awaiting.filter (fun k => k != f), missed := m }
        ∧ t.now = max s.now (dueOf f)
        ∧ t = { s with regs := t.regs, irq := t.irq, now := t.now, lanes := t.lanes }
        ∧ (∀ adr, adr ∉ (R.LANE_ECHO_MISS l.val :: R.LANE_STAT l.val :: coalesced : List Nat) → t.rd adr = s.rd adr)
        ∧ (∀ key, key ∉ ([l.val] : List Nat) → t.lane key = s.lane key)
        ∧ (∀ num dr, num ∉ ([l.val] : List Nat) → t.slot num dr = s.slot num dr)) ∧
  (∀ (l : Fin 256) (f : Nat) (m : Nat) (e : EchoRec) (s : State),
      (s.lane l.val).awaiting.contains f = true →
      s.echoOf l.val f = none →
      m = (s.lane l.val).missed + 1 →
      s.get (F.LANE_CFG_ROLE l.val) = 1 →
      s.partner l.val ≠ l.val →
      s.echoOf (s.partner l.val) f = some e →
      e.merged = false →
      ∃ t, exec (.echoDue l f) s = .next t
        ∧ t.laneState l.val = (if s.laneState l.val = L.linked ∧ 3 ≤ m then L.lost else s.laneState l.val)
        ∧ t.bitAt (R.LANE_STAT l.val) 2 = (s.bitAt (R.LANE_STAT l.val) 2 || (decide (s.laneState l.val = L.linked) && decide (3 ≤ m)))
        ∧ (∀ k ∈ ([0, 1, 3, 4, 5, 6, 7, 8, 9, 28] : List Nat), t.bitAt (R.LANE_STAT l.val) k = s.bitAt (R.LANE_STAT l.val) k)
        ∧ (s.laneState l.val = L.linked → 3 ≤ m → s.bitAt (R.LANE_STAT l.val) 2 = false → s.bitAt (R.LANE_IRQ_EN l.val) 2 = true → t.isPending l.val = true)
        ∧ t.rdN (R.LANE_ECHO_MISS l.val) = min 0xFFFFFFFF (s.rdN (R.LANE_ECHO_MISS l.val) + 1)
        ∧ t.lane l.val = { s.lane l.val with awaiting := (s.lane l.val).awaiting.filter (fun k => k != f), missed := m, echoes := { e with merged := true } :: (s.lane l.val).echoes.filter (fun y => decide (max s.now (dueOf f) < dueOf (y.frame + 8))) }
        ∧ t.rdN (R.LANE_MERGED l.val) = min 0xFFFFFFFF (s.rdN (R.LANE_MERGED l.val) + 1)
        ∧ t.rd (R.LANE_ECHO_LAST l.val) = BitVec.ofNat 32 (e.flags % 256 * 2 ^ 16 + e.frame % 256 * 2 ^ 8 + 1)
        ∧ t.now = max s.now (dueOf f)
        ∧ t = { s with regs := t.regs, irq := t.irq, now := t.now, lanes := t.lanes }
        ∧ (∀ adr, adr ∉ (R.LANE_ECHO_MISS l.val :: R.LANE_MERGED l.val :: R.LANE_ECHO_LAST l.val :: R.LANE_STAT l.val :: coalesced : List Nat) → t.rd adr = s.rd adr)
        ∧ (∀ key, key ∉ ([l.val] : List Nat) → t.lane key = s.lane key)
        ∧ (∀ num dr, num ∉ ([l.val] : List Nat) → t.slot num dr = s.slot num dr)) ∧
  (∀ (l : Fin 256) (f : Nat) (s : State),
      ((s.lane l.val).awaiting.contains f = false ∨ (s.echoOf l.val f).isSome = true) →
      ∃ t, exec (.echoDue l f) s = .next t
        ∧ ((s.lane l.val).awaiting.contains f = true → t.lane l.val = { s.lane l.val with awaiting := (s.lane l.val).awaiting.filter (fun k => k != f) })
        ∧ ((s.lane l.val).awaiting.contains f = false → t.lanes = s.lanes)
        ∧ t.now = max s.now (dueOf f)
        ∧ t = { s with now := t.now, lanes := t.lanes }
        ∧ (∀ key, key ∉ ([l.val] : List Nat) → t.lane key = s.lane key)) ∧
  (∀ (ini : Initiator) (l : Fin 256) (v : BitVec 32) (s : State),
      s.sends ini true (R.LANE_MG_REQ l.val) = true →
      s.domOn (14 + l.val / 64) = true →
      s.bit (F.LANE_STAT_MG_PENDING l.val) = false →
      (bitsOf v 31 30 = 1 ∨ bitsOf v 31 30 = 2) →
      ∃ t, exec (.mgRequest ini l v) s = .next t
        ∧ t.respCode ini = 0
        ∧ t.rd (R.LANE_MG_REQ l.val) = v
        ∧ t.rd (R.LANE_STAT l.val) = setBitsOf (s.rd (R.LANE_STAT l.val)) 28 28 1
        ∧ t.lane l.val = { s.lane l.val with mg := some ⟨bitsOf v 29 24, none⟩ }
        ∧ t = { s with regs := t.regs, spine := t.spine, sec := { s.sec with tapOut := t.sec.tapOut }, lanes := t.lanes }
        ∧ (∀ adr, adr ∉ ([R.LANE_MG_REQ l.val, R.LANE_STAT l.val] : List Nat) → t.rd adr = s.rd adr)
        ∧ (∀ key, key ∉ ([l.val] : List Nat) → t.lane key = s.lane key)) ∧
  (∀ (ini : Initiator) (l : Fin 256) (v : BitVec 32) (s : State),
      s.sends ini true (R.LANE_MG_REQ l.val) = true →
      s.domOn (14 + l.val / 64) = true →
      (s.bit (F.LANE_STAT_MG_PENDING l.val) = true ∨ (bitsOf v 31 30 ≠ 1 ∧ bitsOf v 31 30 ≠ 2)) →
      ∃ t, exec (.mgRequest ini l v) s = .next t
        ∧ t.respCode ini = 2
        ∧ (s.bit (F.LANE_STAT_MG_PENDING l.val) = true → t.rd (R.LANE_MG_REQ l.val) = s.rd (R.LANE_MG_REQ l.val))
        ∧ t.rdN R.IRQ_BERR_COUNT = min 0xFFFFFFFF (s.rdN R.IRQ_BERR_COUNT + 1)
        ∧ t = { s with regs := t.regs, engines := t.engines, spine := t.spine, berrAt := t.berrAt, sec := { s.sec with tapOut := t.sec.tapOut } }
        ∧ (∀ adr, adr ∉ (R.LANE_MG_REQ l.val :: berrRegs : List Nat) → t.rd adr = s.rd adr)
        ∧ (∀ key, key ∉ (iniEngines ini : List Nat) → t.engine key = s.engine key)) ∧
  (∀ (l : Fin 256) (t0 : Nat) (tid : Nat) (g : Nat) (s : State),
      (s.lane l.val).mg = some ⟨tid, some g⟩ →
      dueOf (g + 2) ≤ t0 →
      ∃ t, exec (.mgTimeout l t0) s = .next t
        ∧ t.lane l.val = { s.lane l.val with mg := none }
        ∧ t.rd (R.LANE_STAT l.val) = setBitsOf (setBitsOf (s.rd (R.LANE_STAT l.val)) 28 28 0) 7 7 1
        ∧ t.rdN (R.LANE_MG_TIMEOUTS l.val) = min 0xFFFFFFFF (s.rdN (R.LANE_MG_TIMEOUTS l.val) + 1)
        ∧ (s.bitAt (R.LANE_STAT l.val) 7 = false → s.bitAt (R.LANE_IRQ_EN l.val) 7 = true → t.isPending (l.val) = true)
        ∧ t.now = max s.now t0
        ∧ t = { s with regs := t.regs, irq := t.irq, now := t.now, lanes := t.lanes }
        ∧ (∀ adr, adr ∉ (R.LANE_MG_TIMEOUTS l.val :: R.LANE_STAT l.val :: coalesced : List Nat) → t.rd adr = s.rd adr)
        ∧ (∀ key, key ∉ ([l.val] : List Nat) → t.lane key = s.lane key)
        ∧ (∀ num dr, num ∉ ([l.val] : List Nat) → t.slot num dr = s.slot num dr)) ∧
  (∀ (l : Fin 256) (t0 : Nat) (s : State),
      ((s.lane l.val).mg.all (fun q => q.frame.all (fun g => decide (t0 < dueOf (g + 2)))) = true) →
      ∃ t, exec (.mgTimeout l t0) s = .next t
        ∧ t.now = max s.now t0
        ∧ t = { s with now := t.now }) ∧
  (∀ (ini : Initiator) (l : Fin 256) (s : State),
      s.sends ini true (R.LANE_BLK_CTL l.val) = true →
      s.domOn (14 + l.val / 64) = true →
      ∃ t, exec (.blockGo ini l) s = .next t
        ∧ t.respCode ini = 0
        ∧ t.rd (R.LANE_BLK_CTL l.val) = (if s.bit (F.LANE_BLK_CTL_BUSY l.val) = true then s.rd (R.LANE_BLK_CTL l.val) else setBitsOf (s.rd (R.LANE_BLK_CTL l.val)) 31 30 3)
        ∧ t = { s with regs := t.regs, spine := t.spine, sec := { s.sec with tapOut := t.sec.tapOut } }
        ∧ (∀ adr, adr ∉ ([R.LANE_BLK_CTL l.val] : List Nat) → t.rd adr = s.rd adr)) ∧
  (∀ (ini : Initiator) (l : Fin 256) (k : Fin 12) (v : BitVec 32) (s : State),
      s.sends ini true (R.LANE_BLK_DATA l.val k.val) = true →
      s.domOn (14 + l.val / 64) = true →
      ∃ t, exec (.registerWrite ini (R.LANE_BLK_DATA l.val k.val) 4 (v.zeroExtend 64)) s = .next t
        ∧ t.respCode ini = 0
        ∧ t.rd (R.LANE_BLK_DATA l.val k.val) = (if s.bit (F.LANE_BLK_CTL_BUSY l.val) = true then s.rd (R.LANE_BLK_DATA l.val k.val) else v)
        ∧ t = { s with regs := t.regs, spine := t.spine, sec := { s.sec with tapOut := t.sec.tapOut } }
        ∧ (∀ adr, adr ∉ ([R.LANE_BLK_DATA l.val k.val] : List Nat) → t.rd adr = s.rd adr))

/-- Enabling, disabling, starting and triggering a converter (parts of R8, R37, R224, R225, R226, R227, R228, R230, R231, R232, R235, R236, R248, R250). "Settled" of converters: by the moment given no triggered list has come to its slot boundary, and none is stealing slots. A converter acts when EN = 1 with a valid setting, the ADC clock and ANA ON. In clauses on a write the initiator sends, ANA is ON, ADCk_CTL holds no reserved encoding, and every other converter with EN = 1 acts (and no other). What a clause does not name stays. (1) ADC_ENABLE with EN = 0, the ADC clock running, a list that EN accepts (LIST_LEN from 1, within the table, no reserved entry), no overlap with an enabled converter and a valid ADCk_TRIG: EN = 1, the results of its entries count as first ones, and a calibration cycle begins; an entry still in progress from before completes first to OFF. (2) The same with an ADCk_TRIG that its image left reserved: EN = 1, but the converter stays as it is. (3) Without the ADC clock: EN stays 0, CLK_OFF (3) is set and source 660 + k raised. (4) With a list that EN does not accept, or that overlaps: EN stays 0, CFG_ERR (2) is set and the source raised. (5) ADC_DISABLE of a converter with EN = 1 that runs no list: EN = 0 and OFF, its calibration cycle and a list that waits for its boundary gone; stealing ends, its slots counted. (6) Of one that runs: the entry in progress goes on to its end. (7) ADC_DISABLE with EN = 0, and ADC_ENABLE with EN = 1 of a converter that acts: nothing. (8) ADC_START while WAITING with no list waiting for its boundary, no slot being stolen: the list will start at the next slot boundary, d cycles on (d is open, at most 160), or has started where d is 0. (9) While RUNNING: the overrun is counted, OVERRUN (1) set and source 660 + k raised. (10) In OFF, or while a list waits for its boundary: nothing. (11) ADC_TRIGGER by SYNC (TRIG 3) of a WAITING converter with no list waiting for its boundary, all settled: the list will start at that boundary, delay cycles on, or has started where delay is 0. (12) By the TIMER (TRIG 1), a whole number of PERIODs (ARG µs, not 0) after EN was set at e: the same. (13) By the SHAFT (TRIG 2) of domain d (1 A, 2 B, 3 T), valid, not reversed, not stalled, as its angle, in moving forward, has entered a bin b with b mod STEP = PHASE among the bins from the one after that before to that now: the same, once for that moment. (14) By fabric trigger line ARG (TRIG 4), as it rises at the edge that begins the micro-step at w or one of the two before: the same. (15) Any trigger that holds, while RUNNING: the overrun. (16) A trigger that does not hold (another TRIG, no such moment), of a converter that is OFF or whose list already waits for its boundary: nothing but a shaft entry taken. (17) With ANA not ON: nothing. (18) ADC_CAL_CYCLE_DONE of the cycle at the start of a converter that acts: it is WAITING (RUNNING with its first entry where TRIG is CONT), and AGE counts from now. (19) Of a later cycle, its steps in the idle slots of a WAITING converter: AGE counts from now; in stolen slots of a RUNNING one, the 64th stolen by now: stealing ends too, all counted. (20) Of a converter that does not act, with ANA not ON, or in RUNNING without stealing: nothing. (21) CAL_STEAL_START of a RUNNING converter that acts, 10 s after its last idle slot or later: STEALING is set, the slots stolen since that mark (the first there, one in every 1,000) are counted, and 667 is raised. (22) Earlier, or of a converter that does not run a list: nothing. (23) A list of converter k that waits for its boundary b has started there when the converters next act, here at a cycle end of a converter j that does not act: RUNNING with its first entry, TSTAMP b. Readings and choices of the model that it rests on: log entries 18, 56, 59, 164, 165, 166. -/
def Obligations.ConvertersStartAndStop : Prop :=
  (∀ (ini : Initiator) (k : Fin 4) (s : State),
      s.sends ini true (R.MEAS_ADC_CTL k.val) = true →
      s.domOn 20 = true →
      s.regValid (R.MEAS_ADC_CTL k.val) = true →
      (∀ j : Nat, j < 4 → j ≠ k.val → (s.adc j).live = s.bit (F.MEAS_ADC_CTL_EN j)) →
      s.bit (F.MEAS_ADC_CTL_EN k.val) = false →
      s.adcClock = true →
      s.listOk k.val = true →
      ([0, 1, 2, 3].any fun j => j != k.val && s.bit (F.MEAS_ADC_CTL_EN j) && s.listsMeet k.val j) = false →
      (s.regValid (R.MEAS_ADC_TRIG k.val) = true ∧ s.trigOk k.val = true) →
      (s.adc k.val).live = false →
      ∃ t, exec (.adcEnable ini k) s = .next t
        ∧ t.respCode ini = 0
        ∧ t.rd (R.MEAS_ADC_CTL k.val) = setBitsOf (s.rd (R.MEAS_ADC_CTL k.val)) 31 31 1
        ∧ t.adc k.val = { s.adc k.val with live := true, calib := true, stopping := s.get (F.MEAS_ADC_STAT_STATE k.val) == A.running, seen := [], enAt := some s.now, idleAt := s.now }
        ∧ t = { s with regs := t.regs, spine := t.spine, sec := { s.sec with tapOut := t.sec.tapOut }, adcs := t.adcs }
        ∧ (∀ adr, adr ∉ ([R.MEAS_ADC_CTL k.val] : List Nat) → t.rd adr = s.rd adr)
        ∧ (∀ key, key ∉ ([k.val] : List Nat) → t.adc key = s.adc key)) ∧
  (∀ (ini : Initiator) (k : Fin 4) (s : State),
      s.sends ini true (R.MEAS_ADC_CTL k.val) = true →
      s.domOn 20 = true →
      s.regValid (R.MEAS_ADC_CTL k.val) = true →
      (∀ j : Nat, j < 4 → j ≠ k.val → (s.adc j).live = s.bit (F.MEAS_ADC_CTL_EN j)) →
      s.bit (F.MEAS_ADC_CTL_EN k.val) = false →
      s.adcClock = true →
      s.listOk k.val = true →
      ([0, 1, 2, 3].any fun j => j != k.val && s.bit (F.MEAS_ADC_CTL_EN j) && s.listsMeet k.val j) = false →
      (s.regValid (R.MEAS_ADC_TRIG k.val) = false ∨ s.trigOk k.val = false) →
      ∃ t, exec (.adcEnable ini k) s = .next t
        ∧ t.respCode ini = 0
        ∧ t.rd (R.MEAS_ADC_CTL k.val) = setBitsOf (s.rd (R.MEAS_ADC_CTL k.val)) 31 31 1
        ∧ t.adc k.val = { s.adc k.val with seen := [], enAt := some s.now }
        ∧ t = { s with regs := t.regs, spine := t.spine, sec := { s.sec with tapOut := t.sec.tapOut }, adcs := t.adcs }
        ∧ (∀ adr, adr ∉ ([R.MEAS_ADC_CTL k.val] : List Nat) → t.rd adr = s.rd adr)
        ∧ (∀ key, key ∉ ([k.val] : List Nat) → t.adc key = s.adc key)) ∧
  (∀ (ini : Initiator) (k : Fin 4) (s : State),
      s.sends ini true (R.MEAS_ADC_CTL k.val) = true →
      s.domOn 20 = true →
      s.regValid (R.MEAS_ADC_CTL k.val) = true →
      (∀ j : Nat, j < 4 → j ≠ k.val → (s.adc j).live = s.bit (F.MEAS_ADC_CTL_EN j)) →
      s.bit (F.MEAS_ADC_CTL_EN k.val) = false →
      s.adcClock = false →
      ∃ t, exec (.adcEnable ini k) s = .next t
        ∧ t.respCode ini = 0
        ∧ t.rd (R.MEAS_ADC_CTL k.val) = s.rd (R.MEAS_ADC_CTL k.val)
        ∧ t.rd (R.MEAS_ADC_STAT k.val) = setBitsOf (s.rd (R.MEAS_ADC_STAT k.val)) 3 3 1
        ∧ t.isPending (660 + k.val) = true
        ∧ t = { s with regs := t.regs, irq := t.irq, spine := t.spine, sec := { s.sec with tapOut := t.sec.tapOut } }
        ∧ (∀ adr, adr ∉ (R.MEAS_ADC_STAT k.val :: coalesced : List Nat) → t.rd adr = s.rd adr)
        ∧ (∀ num dr, num ∉ ([660 + k.val] : List Nat) → t.slot num dr = s.slot num dr)) ∧
  (∀ (ini : Initiator) (k : Fin 4) (s : State),
      s.sends ini true (R.MEAS_ADC_CTL k.val) = true →
      s.domOn 20 = true →
      s.regValid (R.MEAS_ADC_CTL k.val) = true →
      (∀ j : Nat, j < 4 → j ≠ k.val → (s.adc j).live = s.bit (F.MEAS_ADC_CTL_EN j)) →
      s.bit (F.MEAS_ADC_CTL_EN k.val) = false →
      s.adcClock = true →
      (s.listOk k.val = false ∨ ([0, 1, 2, 3].any fun j => j != k.val && s.bit (F.MEAS_ADC_CTL_EN j) && s.listsMeet k.val j) = true) →
      ∃ t, exec (.adcEnable ini k) s = .next t
        ∧ t.respCode ini = 0
        ∧ t.rd (R.MEAS_ADC_CTL k.val) = s.rd (R.MEAS_ADC_CTL k.val)
        ∧ t.rd (R.MEAS_ADC_STAT k.val) = setBitsOf (s.rd (R.MEAS_ADC_STAT k.val)) 2 2 1
        ∧ t.isPending (660 + k.val) = true
        ∧ t = { s with regs := t.regs, irq := t.irq, spine := t.spine, sec := { s.sec with tapOut := t.sec.tapOut } }
        ∧ (∀ adr, adr ∉ (R.MEAS_ADC_STAT k.val :: coalesced : List Nat) → t.rd adr = s.rd adr)
        ∧ (∀ num dr, num ∉ ([660 + k.val] : List Nat) → t.slot num dr = s.slot num dr)) ∧
  (∀ (ini : Initiator) (k : Fin 4) (s : State),
      s.sends ini true (R.MEAS_ADC_CTL k.val) = true →
      s.domOn 20 = true →
      s.regValid (R.MEAS_ADC_CTL k.val) = true →
      (∀ j : Nat, j < 4 → j ≠ k.val → (s.adc j).live = s.bit (F.MEAS_ADC_CTL_EN j)) →
      s.bit (F.MEAS_ADC_CTL_EN k.val) = true →
      s.get (F.MEAS_ADC_STAT_STATE k.val) ≠ A.running →
      ∃ t, exec (.adcDisable ini k) s = .next t
        ∧ t.respCode ini = 0
        ∧ t.rd (R.MEAS_ADC_CTL k.val) = setBitsOf (s.rd (R.MEAS_ADC_CTL k.val)) 31 31 0
        ∧ t.rd (R.MEAS_ADC_STAT k.val) = setBitsOf (s.rd (R.MEAS_ADC_STAT k.val)) 31 30 A.off
        ∧ t.bit (F.MEAS_ADC_CAL_STEALING k.val) = false
        ∧ t.rdN (R.MEAS_ADC_STOLEN k.val) = (if s.bit (F.MEAS_ADC_CAL_STEALING k.val) = true then min 0xFFFFFFFF (s.rdN (R.MEAS_ADC_STOLEN k.val) + (min 64 (1 + (s.now - (s.adc k.val).stealAt) / 160000) - (s.adc k.val).stolen)) else s.rdN (R.MEAS_ADC_STOLEN k.val))
        ∧ t.adc k.val = { s.adc k.val with live := false, calib := false, due := none, stolen := (t.adc k.val).stolen }
        ∧ t = { s with regs := t.regs, spine := t.spine, sec := { s.sec with tapOut := t.sec.tapOut }, adcs := t.adcs }
        ∧ (∀ adr, adr ∉ ([R.MEAS_ADC_CTL k.val, R.MEAS_ADC_STAT k.val, R.MEAS_ADC_CAL k.val, R.MEAS_ADC_STOLEN k.val] : List Nat) → t.rd adr = s.rd adr)
        ∧ (∀ key, key ∉ ([k.val] : List Nat) → t.adc key = s.adc key)) ∧
  (∀ (ini : Initiator) (k : Fin 4) (s : State),
      s.sends ini true (R.MEAS_ADC_CTL k.val) = true →
      s.domOn 20 = true →
      s.regValid (R.MEAS_ADC_CTL k.val) = true →
      (∀ j : Nat, j < 4 → j ≠ k.val → (s.adc j).live = s.bit (F.MEAS_ADC_CTL_EN j)) →
      s.bit (F.MEAS_ADC_CTL_EN k.val) = true →
      s.get (F.MEAS_ADC_STAT_STATE k.val) = A.running →
      ∃ t, exec (.adcDisable ini k) s = .next t
        ∧ t.respCode ini = 0
        ∧ t.rd (R.MEAS_ADC_CTL k.val) = setBitsOf (s.rd (R.MEAS_ADC_CTL k.val)) 31 31 0
        ∧ t.bit (F.MEAS_ADC_CAL_STEALING k.val) = false
        ∧ t.rdN (R.MEAS_ADC_STOLEN k.val) = (if s.bit (F.MEAS_ADC_CAL_STEALING k.val) = true then min 0xFFFFFFFF (s.rdN (R.MEAS_ADC_STOLEN k.val) + (min 64 (1 + (s.now - (s.adc k.val).stealAt) / 160000) - (s.adc k.val).stolen)) else s.rdN (R.MEAS_ADC_STOLEN k.val))
        ∧ t.adc k.val = { s.adc k.val with live := false, stopping := true, stolen := (t.adc k.val).stolen }
        ∧ t = { s with regs := t.regs, spine := t.spine, sec := { s.sec with tapOut := t.sec.tapOut }, adcs := t.adcs }
        ∧ (∀ adr, adr ∉ ([R.MEAS_ADC_CTL k.val, R.MEAS_ADC_CAL k.val, R.MEAS_ADC_STOLEN k.val] : List Nat) → t.rd adr = s.rd adr)
        ∧ (∀ key, key ∉ ([k.val] : List Nat) → t.adc key = s.adc key)) ∧
  (∀ (ini : Initiator) (k : Fin 4) (i : Instr) (s : State),
      s.sends ini true (R.MEAS_ADC_CTL k.val) = true →
      s.domOn 20 = true →
      s.regValid (R.MEAS_ADC_CTL k.val) = true →
      (∀ j : Nat, j < 4 → (s.adc j).live = s.bit (F.MEAS_ADC_CTL_EN j)) →
      ((i = .adcDisable ini k ∧ s.bit (F.MEAS_ADC_CTL_EN k.val) = false) ∨ (i = .adcEnable ini k ∧ s.bit (F.MEAS_ADC_CTL_EN k.val) = true)) →
      ∃ t, exec i s = .next t
        ∧ t.respCode ini = 0
        ∧ t = { s with spine := t.spine, sec := { s.sec with tapOut := t.sec.tapOut } }) ∧
  (∀ (ini : Initiator) (k : Fin 4) (s : State),
      s.sends ini true (R.MEAS_ADC_CTL k.val) = true →
      s.domOn 20 = true →
      s.regValid (R.MEAS_ADC_CTL k.val) = true →
      (∀ j : Nat, j < 4 → (s.adc j).live = s.bit (F.MEAS_ADC_CTL_EN j)) →
      s.get (F.MEAS_ADC_STAT_STATE k.val) = A.waiting →
      (s.adc k.val).due = none →
      s.bit (F.MEAS_ADC_CAL_STEALING k.val) = false →
      ∃ t, exec (.adcStart ini k) s = .next t
        ∧ t.respCode ini = 0
        ∧ (0 < s.fresh % 161 → t.adc k.val = { s.adc k.val with due := some (s.now + s.fresh % 161) } ∧ t.rd (R.MEAS_ADC_STAT k.val) = s.rd (R.MEAS_ADC_STAT k.val) ∧ t.rd (R.MEAS_ADC_TSTAMP k.val) = s.rd (R.MEAS_ADC_TSTAMP k.val))
        ∧ (¬ 0 < s.fresh % 161 → t.adc k.val = { s.adc k.val with due := none, idleAt := s.now + s.fresh % 161, base := s.get (F.MEAS_ADC_CTL_LIST_BASE k.val), pos := 0, cur := s.rd (R.MEAS_SEQ (s.get (F.MEAS_ADC_CTL_LIST_BASE k.val))) } ∧ t.rd (R.MEAS_ADC_STAT k.val) = setBitsOf (s.rd (R.MEAS_ADC_STAT k.val)) 31 30 A.running ∧ t.rd (R.MEAS_ADC_TSTAMP k.val) = BitVec.ofNat 32 (s.now + s.fresh % 161))
        ∧ t = { s with regs := t.regs, spine := t.spine, sec := { s.sec with tapOut := t.sec.tapOut }, adcs := t.adcs, free := t.free }
        ∧ (∀ adr, adr ∉ ([R.MEAS_ADC_STAT k.val, R.MEAS_ADC_TSTAMP k.val] : List Nat) → t.rd adr = s.rd adr)
        ∧ (∀ key, key ∉ ([k.val] : List Nat) → t.adc key = s.adc key)) ∧
  (∀ (ini : Initiator) (k : Fin 4) (s : State),
      s.sends ini true (R.MEAS_ADC_CTL k.val) = true →
      s.domOn 20 = true →
      s.regValid (R.MEAS_ADC_CTL k.val) = true →
      (∀ j : Nat, j < 4 → (s.adc j).live = s.bit (F.MEAS_ADC_CTL_EN j)) →
      s.get (F.MEAS_ADC_STAT_STATE k.val) = A.running →
      ∃ t, exec (.adcStart ini k) s = .next t
        ∧ t.respCode ini = 0
        ∧ t.rdN (R.MEAS_ADC_OVERRUN k.val) = min 0xFFFFFFFF (s.rdN (R.MEAS_ADC_OVERRUN k.val) + 1)
        ∧ t.rd (R.MEAS_ADC_STAT k.val) = setBitsOf (s.rd (R.MEAS_ADC_STAT k.val)) 1 1 1
        ∧ t.isPending (660 + k.val) = true
        ∧ t = { s with regs := t.regs, irq := t.irq, spine := t.spine, sec := { s.sec with tapOut := t.sec.tapOut }, free := t.free }
        ∧ (∀ adr, adr ∉ (R.MEAS_ADC_STAT k.val :: R.MEAS_ADC_OVERRUN k.val :: coalesced : List Nat) → t.rd adr = s.rd adr)
        ∧ (∀ num dr, num ∉ ([660 + k.val] : List Nat) → t.slot num dr = s.slot num dr)) ∧
  (∀ (ini : Initiator) (k : Fin 4) (s : State),
      s.sends ini true (R.MEAS_ADC_CTL k.val) = true →
      s.domOn 20 = true →
      s.regValid (R.MEAS_ADC_CTL k.val) = true →
      (∀ j : Nat, j < 4 → (s.adc j).live = s.bit (F.MEAS_ADC_CTL_EN j)) →
      (s.get (F.MEAS_ADC_STAT_STATE k.val) = A.off ∨ (s.get (F.MEAS_ADC_STAT_STATE k.val) = A.waiting ∧ (s.adc k.val).due ≠ none)) →
      ∃ t, exec (.adcStart ini k) s = .next t
        ∧ t.respCode ini = 0
        ∧ t = { s with spine := t.spine, sec := { s.sec with tapOut := t.sec.tapOut }, free := t.free }) ∧
  (∀ (k : Fin 4) (w : Nat) (delay : Fin 161) (s : State),
      (∀ j : Nat, j < 4 → (s.adc j).due.all (fun b => decide (max s.now w < b)) = true ∧ s.bit (F.MEAS_ADC_CAL_STEALING j) = false) →
      s.domOn 20 = true →
      s.get (F.MEAS_ADC_CTL_TRIG k.val) = 3 →
      s.get (F.MEAS_ADC_STAT_STATE k.val) = A.waiting →
      (s.adc k.val).due = none →
      ∃ t, exec (.adcTrigger k .sync w delay) s = .next t
        ∧ (0 < delay.val → t.adc k.val = { s.adc k.val with due := some (max s.now w + delay.val) } ∧ t.rd (R.MEAS_ADC_STAT k.val) = s.rd (R.MEAS_ADC_STAT k.val) ∧ t.rd (R.MEAS_ADC_TSTAMP k.val) = s.rd (R.MEAS_ADC_TSTAMP k.val))
        ∧ (¬ 0 < delay.val → t.adc k.val = { s.adc k.val with due := none, idleAt := max s.now w + delay.val, base := s.get (F.MEAS_ADC_CTL_LIST_BASE k.val), pos := 0, cur := s.rd (R.MEAS_SEQ (s.get (F.MEAS_ADC_CTL_LIST_BASE k.val))) } ∧ t.rd (R.MEAS_ADC_STAT k.val) = setBitsOf (s.rd (R.MEAS_ADC_STAT k.val)) 31 30 A.running ∧ t.rd (R.MEAS_ADC_TSTAMP k.val) = BitVec.ofNat 32 (max s.now w + delay.val))
        ∧ t.now = max s.now w
        ∧ t = { s with regs := t.regs, now := t.now, adcs := t.adcs }
        ∧ (∀ adr, adr ∉ ([R.MEAS_ADC_STAT k.val, R.MEAS_ADC_TSTAMP k.val] : List Nat) → t.rd adr = s.rd adr)
        ∧ (∀ key, key ∉ ([k.val] : List Nat) → t.adc key = s.adc key)) ∧
  (∀ (k : Fin 4) (e : Nat) (w : Nat) (delay : Fin 161) (s : State),
      (∀ j : Nat, j < 4 → (s.adc j).due.all (fun b => decide (max s.now w < b)) = true ∧ s.bit (F.MEAS_ADC_CAL_STEALING j) = false) →
      s.domOn 20 = true →
      s.get (F.MEAS_ADC_CTL_TRIG k.val) = 1 →
      (s.adc k.val).enAt = some e →
      1 ≤ s.get (F.MEAS_ADC_TRIG_ARG k.val) →
      e < max s.now w →
      (max s.now w - e) % (s.get (F.MEAS_ADC_TRIG_ARG k.val) * 400) = 0 →
      s.get (F.MEAS_ADC_STAT_STATE k.val) = A.waiting →
      (s.adc k.val).due = none →
      ∃ t, exec (.adcTrigger k .timer w delay) s = .next t
        ∧ (0 < delay.val → t.adc k.val = { s.adc k.val with due := some (max s.now w + delay.val) } ∧ t.rd (R.MEAS_ADC_STAT k.val) = s.rd (R.MEAS_ADC_STAT k.val) ∧ t.rd (R.MEAS_ADC_TSTAMP k.val) = s.rd (R.MEAS_ADC_TSTAMP k.val))
        ∧ (¬ 0 < delay.val → t.adc k.val = { s.adc k.val with due := none, idleAt := max s.now w + delay.val, base := s.get (F.MEAS_ADC_CTL_LIST_BASE k.val), pos := 0, cur := s.rd (R.MEAS_SEQ (s.get (F.MEAS_ADC_CTL_LIST_BASE k.val))) } ∧ t.rd (R.MEAS_ADC_STAT k.val) = setBitsOf (s.rd (R.MEAS_ADC_STAT k.val)) 31 30 A.running ∧ t.rd (R.MEAS_ADC_TSTAMP k.val) = BitVec.ofNat 32 (max s.now w + delay.val))
        ∧ t.now = max s.now w
        ∧ t = { s with regs := t.regs, now := t.now, adcs := t.adcs }
        ∧ (∀ adr, adr ∉ ([R.MEAS_ADC_STAT k.val, R.MEAS_ADC_TSTAMP k.val] : List Nat) → t.rd adr = s.rd adr)
        ∧ (∀ key, key ∉ ([k.val] : List Nat) → t.adc key = s.adc key)) ∧
  (∀ (k : Fin 4) (d : Nat) (w : Nat) (delay : Fin 161) (s : State),
      (∀ j : Nat, j < 4 → (s.adc j).due.all (fun b => decide (max s.now w < b)) = true ∧ s.bit (F.MEAS_ADC_CAL_STEALING j) = false) →
      s.domOn 20 = true →
      s.get (F.MEAS_ADC_CTL_TRIG k.val) = 2 →
      s.trigOk k.val = true →
      d = s.get (F.MEAS_ADC_TRIG_DOM k.val) →
      d ≠ 0 →
      ((s.at_ w).domValid (d - 1) = true ∧ (s.at_ w).domReverse (d - 1) = false ∧ (s.at_ w).domStalled (d - 1) = false) →
      (s.adc k.val).shaftAt ≠ some (max s.now w) →
      (s.at_ w).binEntered (d - 1) (s.get (F.MEAS_ADC_TRIG_ARG k.val) % 8192) (s.get (F.MEAS_ADC_TRIG_PHASE k.val)) = true →
      s.get (F.MEAS_ADC_STAT_STATE k.val) = A.waiting →
      (s.adc k.val).due = none →
      ∃ t, exec (.adcTrigger k .shaft w delay) s = .next t
        ∧ (0 < delay.val → t.adc k.val = { { s.adc k.val with shaftAt := some (max s.now w) } with due := some (max s.now w + delay.val) } ∧ t.rd (R.MEAS_ADC_STAT k.val) = s.rd (R.MEAS_ADC_STAT k.val) ∧ t.rd (R.MEAS_ADC_TSTAMP k.val) = s.rd (R.MEAS_ADC_TSTAMP k.val))
        ∧ (¬ 0 < delay.val → t.adc k.val = { { s.adc k.val with shaftAt := some (max s.now w) } with due := none, idleAt := max s.now w + delay.val, base := s.get (F.MEAS_ADC_CTL_LIST_BASE k.val), pos := 0, cur := s.rd (R.MEAS_SEQ (s.get (F.MEAS_ADC_CTL_LIST_BASE k.val))) } ∧ t.rd (R.MEAS_ADC_STAT k.val) = setBitsOf (s.rd (R.MEAS_ADC_STAT k.val)) 31 30 A.running ∧ t.rd (R.MEAS_ADC_TSTAMP k.val) = BitVec.ofNat 32 (max s.now w + delay.val))
        ∧ t.now = max s.now w
        ∧ t = { s with regs := t.regs, now := t.now, adcs := t.adcs }
        ∧ (∀ adr, adr ∉ ([R.MEAS_ADC_STAT k.val, R.MEAS_ADC_TSTAMP k.val] : List Nat) → t.rd adr = s.rd adr)
        ∧ (∀ key, key ∉ ([k.val] : List Nat) → t.adc key = s.adc key)) ∧
  (∀ (k : Fin 4) (line : Fin 16) (m : Nat) (w : Nat) (delay : Fin 161) (s : State),
      (∀ j : Nat, j < 4 → (s.adc j).due.all (fun b => decide (max s.now w < b)) = true ∧ s.bit (F.MEAS_ADC_CAL_STEALING j) = false) →
      s.domOn 20 = true →
      s.get (F.MEAS_ADC_CTL_TRIG k.val) = 4 →
      s.get (F.MEAS_ADC_TRIG_ARG k.val) % 16 = line.val →
      (m = (s.at_ w).stepNow - 2 ∨ m = (s.at_ w).stepNow - 2 + 1) →
      (s.at_ w).rimRises m 0 (96 + line.val) 255 0 = true →
      s.get (F.MEAS_ADC_STAT_STATE k.val) = A.waiting →
      (s.adc k.val).due = none →
      ∃ t, exec (.adcTrigger k (.fabric line) w delay) s = .next t
        ∧ (0 < delay.val → t.adc k.val = { s.adc k.val with due := some (max s.now w + delay.val) } ∧ t.rd (R.MEAS_ADC_STAT k.val) = s.rd (R.MEAS_ADC_STAT k.val) ∧ t.rd (R.MEAS_ADC_TSTAMP k.val) = s.rd (R.MEAS_ADC_TSTAMP k.val))
        ∧ (¬ 0 < delay.val → t.adc k.val = { s.adc k.val with due := none, idleAt := max s.now w + delay.val, base := s.get (F.MEAS_ADC_CTL_LIST_BASE k.val), pos := 0, cur := s.rd (R.MEAS_SEQ (s.get (F.MEAS_ADC_CTL_LIST_BASE k.val))) } ∧ t.rd (R.MEAS_ADC_STAT k.val) = setBitsOf (s.rd (R.MEAS_ADC_STAT k.val)) 31 30 A.running ∧ t.rd (R.MEAS_ADC_TSTAMP k.val) = BitVec.ofNat 32 (max s.now w + delay.val))
        ∧ t.now = max s.now w
        ∧ t = { s with regs := t.regs, now := t.now, adcs := t.adcs }
        ∧ (∀ adr, adr ∉ ([R.MEAS_ADC_STAT k.val, R.MEAS_ADC_TSTAMP k.val] : List Nat) → t.rd adr = s.rd adr)
        ∧ (∀ key, key ∉ ([k.val] : List Nat) → t.adc key = s.adc key)) ∧
  (∀ (sh : Bool) (k : Fin 4) (src : AdcTrig) (w : Nat) (delay : Fin 161) (s : State),
      (∀ j : Nat, j < 4 → (s.adc j).due.all (fun b => decide (max s.now w < b)) = true ∧ s.bit (F.MEAS_ADC_CAL_STEALING j) = false) →
      s.domOn 20 = true →
      (s.at_ w).trigHolds k.val src = true →
      sh = (src == .shaft) →
      s.get (F.MEAS_ADC_STAT_STATE k.val) = A.running →
      ∃ t, exec (.adcTrigger k src w delay) s = .next t
        ∧ t.rdN (R.MEAS_ADC_OVERRUN k.val) = min 0xFFFFFFFF (s.rdN (R.MEAS_ADC_OVERRUN k.val) + 1)
        ∧ t.rd (R.MEAS_ADC_STAT k.val) = setBitsOf (s.rd (R.MEAS_ADC_STAT k.val)) 1 1 1
        ∧ t.isPending (660 + k.val) = true
        ∧ t.adc k.val = (if sh = true then { s.adc k.val with shaftAt := some (max s.now w) } else s.adc k.val)
        ∧ t.now = max s.now w
        ∧ t = { s with regs := t.regs, irq := t.irq, now := t.now, adcs := t.adcs }
        ∧ (∀ adr, adr ∉ (R.MEAS_ADC_STAT k.val :: R.MEAS_ADC_OVERRUN k.val :: coalesced : List Nat) → t.rd adr = s.rd adr)
        ∧ (∀ key, key ∉ ([k.val] : List Nat) → t.adc key = s.adc key)
        ∧ (∀ num dr, num ∉ ([660 + k.val] : List Nat) → t.slot num dr = s.slot num dr)) ∧
  (∀ (k : Fin 4) (src : AdcTrig) (w : Nat) (delay : Fin 161) (s : State),
      (∀ j : Nat, j < 4 → (s.adc j).due.all (fun b => decide (max s.now w < b)) = true ∧ s.bit (F.MEAS_ADC_CAL_STEALING j) = false) →
      s.domOn 20 = true →
      ((s.at_ w).trigHolds k.val src = false ∨ s.get (F.MEAS_ADC_STAT_STATE k.val) = A.off ∨ (s.get (F.MEAS_ADC_STAT_STATE k.val) = A.waiting ∧ (s.adc k.val).due ≠ none)) →
      ∃ t, exec (.adcTrigger k src w delay) s = .next t
        ∧ t.adc k.val = (if src = .shaft ∧ (s.at_ w).trigHolds k.val src = true then { s.adc k.val with shaftAt := some (max s.now w) } else s.adc k.val)
        ∧ t.now = max s.now w
        ∧ t = { s with now := t.now, adcs := t.adcs }
        ∧ (∀ key, key ∉ ([k.val] : List Nat) → t.adc key = s.adc key)) ∧
  (∀ (k : Fin 4) (src : AdcTrig) (w : Nat) (delay : Fin 161) (s : State),
      (∀ j : Nat, j < 4 → (s.adc j).due.all (fun b => decide (max s.now w < b)) = true ∧ s.bit (F.MEAS_ADC_CAL_STEALING j) = false) →
      s.domOn 20 = false →
      ∃ t, exec (.adcTrigger k src w delay) s = .next t
        ∧ t.now = max s.now w
        ∧ t = { s with now := t.now }) ∧
  (∀ (k : Fin 4) (w : Nat) (s : State),
      (∀ j : Nat, j < 4 → (s.adc j).due.all (fun b => decide (max s.now w < b)) = true ∧ (j ≠ k.val → s.bit (F.MEAS_ADC_CAL_STEALING j) = false)) →
      s.domOn 20 = true →
      s.bit (F.MEAS_ADC_CAL_STEALING k.val) = false →
      ((s.adc k.val).live = true ∧ (s.adc k.val).calib = true ∧ (s.adc k.val).stopping = false) →
      ∃ t, exec (.adcCalCycleDone k w) s = .next t
        ∧ t.rd (R.MEAS_ADC_STAT k.val) = setBitsOf (s.rd (R.MEAS_ADC_STAT k.val)) 31 30 (if s.get (F.MEAS_ADC_CTL_TRIG k.val) = 0 then A.running else A.waiting)
        ∧ t.rd (R.MEAS_ADC_TSTAMP k.val) = (if s.get (F.MEAS_ADC_CTL_TRIG k.val) = 0 then BitVec.ofNat 32 (max s.now w) else s.rd (R.MEAS_ADC_TSTAMP k.val))
        ∧ t.adc k.val = (if s.get (F.MEAS_ADC_CTL_TRIG k.val) = 0 then { s.adc k.val with calib := false, calAt := some (max s.now w), idleAt := max s.now w, due := none, base := s.get (F.MEAS_ADC_CTL_LIST_BASE k.val), pos := 0, cur := s.rd (R.MEAS_SEQ (s.get (F.MEAS_ADC_CTL_LIST_BASE k.val))) } else { s.adc k.val with calib := false, calAt := some (max s.now w), idleAt := max s.now w })
        ∧ t.now = max s.now w
        ∧ t = { s with regs := t.regs, now := t.now, adcs := t.adcs }
        ∧ (∀ adr, adr ∉ ([R.MEAS_ADC_STAT k.val, R.MEAS_ADC_TSTAMP k.val] : List Nat) → t.rd adr = s.rd adr)
        ∧ (∀ key, key ∉ ([k.val] : List Nat) → t.adc key = s.adc key)) ∧
  (∀ (k : Fin 4) (w : Nat) (s : State),
      (∀ j : Nat, j < 4 → (s.adc j).due.all (fun b => decide (max s.now w < b)) = true ∧ (j ≠ k.val → s.bit (F.MEAS_ADC_CAL_STEALING j) = false)) →
      s.domOn 20 = true →
      ((s.adc k.val).live = true ∧ (s.adc k.val).calib = false) →
      ((s.get (F.MEAS_ADC_STAT_STATE k.val) = A.waiting ∧ s.bit (F.MEAS_ADC_CAL_STEALING k.val) = false) ∨ (s.bit (F.MEAS_ADC_CAL_STEALING k.val) = true ∧ 63 * 160000 ≤ max s.now w - (s.adc k.val).stealAt)) →
      (s.adc k.val).stolen ≤ 64 →
      ∃ t, exec (.adcCalCycleDone k w) s = .next t
        ∧ t.rdN (R.MEAS_ADC_STOLEN k.val) = (if s.bit (F.MEAS_ADC_CAL_STEALING k.val) = true then min 0xFFFFFFFF (s.rdN (R.MEAS_ADC_STOLEN k.val) + (64 - (s.adc k.val).stolen)) else s.rdN (R.MEAS_ADC_STOLEN k.val))
        ∧ t.bit (F.MEAS_ADC_CAL_STEALING k.val) = false
        ∧ t.adc k.val = { s.adc k.val with calAt := some (max s.now w), idleAt := max s.now w, stolen := (t.adc k.val).stolen }
        ∧ t.now = max s.now w
        ∧ t = { s with regs := t.regs, now := t.now, adcs := t.adcs }
        ∧ (∀ adr, adr ∉ ([R.MEAS_ADC_CAL k.val, R.MEAS_ADC_STOLEN k.val] : List Nat) → t.rd adr = s.rd adr)
        ∧ (∀ key, key ∉ ([k.val] : List Nat) → t.adc key = s.adc key)) ∧
  (∀ (k : Fin 4) (w : Nat) (s : State),
      (∀ j : Nat, j < 4 → (s.adc j).due.all (fun b => decide (max s.now w < b)) = true ∧ s.bit (F.MEAS_ADC_CAL_STEALING j) = false) →
      ((s.adc k.val).live = false ∨ s.domOn 20 = false ∨ ((s.adc k.val).calib = false ∧ s.get (F.MEAS_ADC_STAT_STATE k.val) ≠ A.waiting)) →
      ∃ t, exec (.adcCalCycleDone k w) s = .next t
        ∧ t.now = max s.now w
        ∧ t = { s with now := t.now }) ∧
  (∀ (k : Fin 4) (w : Nat) (s : State),
      (∀ j : Nat, j < 4 → (s.adc j).due.all (fun b => decide (max s.now w < b)) = true ∧ s.bit (F.MEAS_ADC_CAL_STEALING j) = false) →
      s.domOn 20 = true →
      (s.adc k.val).live = true →
      s.get (F.MEAS_ADC_STAT_STATE k.val) = A.running →
      (s.adc k.val).idleAt + 4000000000 ≤ max s.now w →
      ∃ t, exec (.calStealStart k w) s = .next t
        ∧ t.rd (R.MEAS_ADC_CAL k.val) = setBitsOf (s.rd (R.MEAS_ADC_CAL k.val)) 31 31 1
        ∧ (t.adc k.val).stolen = min 64 (1 + (max s.now w - ((s.adc k.val).idleAt + 4000000000)) / 160000)
        ∧ t.adc k.val = { s.adc k.val with stealAt := (s.adc k.val).idleAt + 4000000000, stolen := (t.adc k.val).stolen }
        ∧ t.rdN (R.MEAS_ADC_STOLEN k.val) = min 0xFFFFFFFF (s.rdN (R.MEAS_ADC_STOLEN k.val) + (t.adc k.val).stolen)
        ∧ t.isPending 667 = true
        ∧ t.now = max s.now w
        ∧ t = { s with regs := t.regs, irq := t.irq, now := t.now, adcs := t.adcs }
        ∧ (∀ adr, adr ∉ (R.MEAS_ADC_CAL k.val :: R.MEAS_ADC_STOLEN k.val :: coalesced : List Nat) → t.rd adr = s.rd adr)
        ∧ (∀ key, key ∉ ([k.val] : List Nat) → t.adc key = s.adc key)
        ∧ (∀ num dr, num ∉ ([667] : List Nat) → t.slot num dr = s.slot num dr)) ∧
  (∀ (k : Fin 4) (w : Nat) (s : State),
      (∀ j : Nat, j < 4 → (s.adc j).due.all (fun b => decide (max s.now w < b)) = true ∧ s.bit (F.MEAS_ADC_CAL_STEALING j) = false) →
      (s.domOn 20 = false ∨ (s.adc k.val).live = false ∨ s.get (F.MEAS_ADC_STAT_STATE k.val) ≠ A.running ∨ max s.now w < (s.adc k.val).idleAt + 4000000000) →
      ∃ t, exec (.calStealStart k w) s = .next t
        ∧ t.now = max s.now w
        ∧ t = { s with now := t.now }) ∧
  (∀ (k j : Fin 4) (b w : Nat) (s : State),
      j ≠ k →
      (s.adc j.val).live = false →
      (s.adc k.val).due = some b →
      b ≤ max s.now w →
      (∀ i : Nat, i < 4 → (i ≠ k.val → (s.adc i).due.all (fun b => decide (max s.now w < b)) = true) ∧ s.bit (F.MEAS_ADC_CAL_STEALING i) = false) →
      ∃ t, exec (.adcCalCycleDone j w) s = .next t
        ∧ t.rd (R.MEAS_ADC_STAT k.val) = setBitsOf (s.rd (R.MEAS_ADC_STAT k.val)) 31 30 A.running
        ∧ t.rd (R.MEAS_ADC_TSTAMP k.val) = BitVec.ofNat 32 (b)
        ∧ t.adc k.val = { s.adc k.val with due := none, idleAt := b, base := s.get (F.MEAS_ADC_CTL_LIST_BASE k.val), pos := 0, cur := s.rd (R.MEAS_SEQ (s.get (F.MEAS_ADC_CTL_LIST_BASE k.val))) }
        ∧ t.now = max s.now w
        ∧ t = { s with regs := t.regs, now := t.now, adcs := t.adcs }
        ∧ (∀ adr, adr ∉ ([R.MEAS_ADC_STAT k.val, R.MEAS_ADC_TSTAMP k.val] : List Nat) → t.rd adr = s.rd adr)
        ∧ (∀ key, key ∉ ([k.val] : List Nat) → t.adc key = s.adc key))

/-- Results of entries, monitors and comparators (parts of R229, R232, R233, R234, R237, R238, R239, R240, R241, R242, R243, R246, R248, R249, R251, R252, R433). "Settled" as in O28. A result y is (raw · FG · (65536 + UG)) div 2^31 + FO + UO of its record, rounded toward zero, and v is y cut to 16 signed bits, saturated where it had to be cut; a word shows VALID, SAT, the window state st, COUNT one up and v. What a clause does not name stays. (1) SEQ_ENTRY_DONE of converter k while RUNNING, all settled, with its 2^AVG raw results, and no window event (st is not BELOW or ABOVE, or is that of the entry's last result, the first after EN being compared with INSIDE), not the last entry of the list and EN not cleared: RESi is the calibrated mean, RAW the last raw result; the next entry begins with its setting. (2) The last entry of the list: DONE (0) is set, source 656 + k raised, and the converter WAITING, or, with TRIG CONT, RUNNING the list again from its first entry at this boundary. (3) EN was cleared meanwhile: the result is written, and the converter is OFF. (4) A window event (the first line's condition turned round), in the middle of a list, SNAP = 0: the bit of the window in WIN_STAT is set, WIN_LAST records it unless a lower-numbered converter had an event at the same moment, and with IRQ = 1 source 664 is raised; the result and the list go on as in clause 1. (5) The same with SNAP = 1, no trigger being forwarded along the chain: the common SNAP trigger acts at that moment too, with source bit 6. (6) Of a converter that runs no list, with another number of raw results, or with ANA not ON: nothing. (7) MONITOR_CONVERSION once the device has left RESET, of the channel m whose turn it is: MONm is the calibrated value judged by its limits, and the next channel is up; when it leaves INSIDE (the first value counts from there) or changes between BELOW and ABOVE, its bit of MON_STAT is set and 665 (m to 3) or 666 raised. (8) In RESET: nothing. (9) COMPARATOR_STATE_CHANGE of an enabled comparator k whose input has held x for FILT + 1 ticks, none before a restart of its filter: lo and hi are its thresholds as the DAC realises them (a gain of 0 aside) and hy its hysteresis; new is the state that the table gives. In that state already: nothing. (10) A new state that EVT does not select: STATE only, and the filter restarts. (11) A new state that EVT selects, ACT neither SNAP nor WAKE: its event bit is set, and with ACT IRQ 648 + k raised. (12) With ACT SNAP, no trigger being forwarded along the chain: the common SNAP trigger acts too, with source bit 5. (13) With ACT WAKE alone, and CMPk_WAKE naming one domain d: what the event does is the wake of that domain beside its bit and STATE. (14) Of a comparator with EN = 0, or before FILT + 1 ticks have passed: nothing. (15) CMP_CONFIG_WRITE of CMPk_CFG with EN = 0: its fields take the value, the filter restarts, and the comparator is OFF, its event bits kept. (16) With EN = 1: its fields take the value and the filter restarts, the state kept; with TICK = 0 and no ADC clock CLK_FALLBACK (3) is set. (17) Of CMPk_THR, or of UCAL of its DAC: the word is written and the filter restarts, the state kept. Readings and choices of the model that it rests on: log entries 12, 18, 58, 59, 60. -/
def Obligations.ResultsAreCalibratedAndJudged : Prop :=
  (∀ (k : Fin 4) (w : Nat) (raws : List (BitVec 16)) (i n wn st prev : Nat) (y v : Int) (s : State),
      (∀ j : Nat, j < 4 → (s.adc j).due.all (fun b => decide (max s.now w < b)) = true ∧ s.bit (F.MEAS_ADC_CAL_STEALING j) = false) →
      s.domOn 20 = true →
      s.get (F.MEAS_ADC_STAT_STATE k.val) = A.running →
      raws.length = 2 ^ bitsOf (s.adc k.val).cur 16 14 →
      i = (s.adc k.val).base + (s.adc k.val).pos →
      i < 128 →
      n = 4 * k.val + bitsOf (s.adc k.val).cur 13 12 →
      y = Int.tdiv (Int.tdiv (raws.foldl (fun a r => a + r.toInt) 0) (2 ^ bitsOf (s.adc k.val).cur 16 14 : Nat) * (s.get (F.MEAS_FCAL_FG n) : Int) * (65536 + s.getS (F.MEAS_UCAL_UG n))) (2 ^ 31) + s.getS (F.MEAS_FCAL_FO n) + s.getS (F.MEAS_UCAL_UO n) →
      v = max (-32768) (min 32767 y) →
      wn = bitsOf (s.adc k.val).cur 25 21 →
      wn ≤ 16 →
      st = (if wn = 0 then 0 else if v < s.getS (F.MEAS_WIN_LO (wn - 1)) then W.below else if v < s.getS (F.MEAS_WIN_HI (wn - 1)) then W.inside else W.above) →
      prev = (if (s.adc k.val).seen.contains i = true ∧ s.get (F.MEAS_RES_WSTATE i) ≠ 0 then s.get (F.MEAS_RES_WSTATE i) else W.inside) →
      ¬ ((st = W.below ∨ st = W.above) ∧ st ≠ prev) →
      (s.adc k.val).stopping = false →
      (s.adc k.val).pos + 1 < s.get (F.MEAS_ADC_CTL_LIST_LEN k.val) →
      ∃ t, exec (.seqEntryDone k w raws) s = .next t
        ∧ t.rd (R.MEAS_RES i) = BitVec.ofNat 32 (2 ^ 31 + (if v = y then 0 else 2 ^ 30) + st * 2 ^ 26 + (s.get (F.MEAS_RES_COUNT i) + 1) % 256 * 2 ^ 16 + (v % 65536).toNat)
        ∧ t.get (F.MEAS_ADC_RAW_RAW k.val) = ((raws.getLast?).getD 0).toNat
        ∧ (t.adc k.val).seen = i :: (s.adc k.val).seen.filter (fun j => j != i)
        ∧ t.adc k.val = { s.adc k.val with seen := (t.adc k.val).seen, pos := (s.adc k.val).pos + 1, cur := t.rd (R.MEAS_SEQ (i + 1)) }
        ∧ t.now = max s.now w
        ∧ t = { s with regs := t.regs, now := t.now, adcs := t.adcs }
        ∧ (∀ adr, adr ∉ ([R.MEAS_ADC_RAW k.val, R.MEAS_RES i] : List Nat) → t.rd adr = s.rd adr)
        ∧ (∀ key, key ∉ ([k.val] : List Nat) → t.adc key = s.adc key)) ∧
  (∀ (k : Fin 4) (w : Nat) (raws : List (BitVec 16)) (i n wn st prev : Nat) (y v : Int) (s : State),
      (∀ j : Nat, j < 4 → (s.adc j).due.all (fun b => decide (max s.now w < b)) = true ∧ s.bit (F.MEAS_ADC_CAL_STEALING j) = false) →
      s.domOn 20 = true →
      s.get (F.MEAS_ADC_STAT_STATE k.val) = A.running →
      raws.length = 2 ^ bitsOf (s.adc k.val).cur 16 14 →
      i = (s.adc k.val).base + (s.adc k.val).pos →
      i < 128 →
      n = 4 * k.val + bitsOf (s.adc k.val).cur 13 12 →
      y = Int.tdiv (Int.tdiv (raws.foldl (fun a r => a + r.toInt) 0) (2 ^ bitsOf (s.adc k.val).cur 16 14 : Nat) * (s.get (F.MEAS_FCAL_FG n) : Int) * (65536 + s.getS (F.MEAS_UCAL_UG n))) (2 ^ 31) + s.getS (F.MEAS_FCAL_FO n) + s.getS (F.MEAS_UCAL_UO n) →
      v = max (-32768) (min 32767 y) →
      wn = bitsOf (s.adc k.val).cur 25 21 →
      wn ≤ 16 →
      st = (if wn = 0 then 0 else if v < s.getS (F.MEAS_WIN_LO (wn - 1)) then W.below else if v < s.getS (F.MEAS_WIN_HI (wn - 1)) then W.inside else W.above) →
      prev = (if (s.adc k.val).seen.contains i = true ∧ s.get (F.MEAS_RES_WSTATE i) ≠ 0 then s.get (F.MEAS_RES_WSTATE i) else W.inside) →
      ¬ ((st = W.below ∨ st = W.above) ∧ st ≠ prev) →
      (s.adc k.val).stopping = false →
      s.get (F.MEAS_ADC_CTL_LIST_LEN k.val) ≤ (s.adc k.val).pos + 1 →
      ∃ t, exec (.seqEntryDone k w raws) s = .next t
        ∧ t.rd (R.MEAS_RES i) = BitVec.ofNat 32 (2 ^ 31 + (if v = y then 0 else 2 ^ 30) + st * 2 ^ 26 + (s.get (F.MEAS_RES_COUNT i) + 1) % 256 * 2 ^ 16 + (v % 65536).toNat)
        ∧ t.get (F.MEAS_ADC_RAW_RAW k.val) = ((raws.getLast?).getD 0).toNat
        ∧ (t.adc k.val).seen = i :: (s.adc k.val).seen.filter (fun j => j != i)
        ∧ t.rd (R.MEAS_ADC_STAT k.val) = setBitsOf (setBitsOf (s.rd (R.MEAS_ADC_STAT k.val)) 0 0 1) 31 30 (if s.get (F.MEAS_ADC_CTL_TRIG k.val) = 0 then A.running else A.waiting)
        ∧ t.isPending (656 + k.val) = true
        ∧ t.rd (R.MEAS_ADC_TSTAMP k.val) = (if s.get (F.MEAS_ADC_CTL_TRIG k.val) = 0 then BitVec.ofNat 32 (max s.now w) else s.rd (R.MEAS_ADC_TSTAMP k.val))
        ∧ t.adc k.val = (if s.get (F.MEAS_ADC_CTL_TRIG k.val) = 0 then { s.adc k.val with seen := (t.adc k.val).seen, due := none, base := s.get (F.MEAS_ADC_CTL_LIST_BASE k.val), pos := 0, cur := s.rd (R.MEAS_SEQ (s.get (F.MEAS_ADC_CTL_LIST_BASE k.val))) } else { s.adc k.val with seen := (t.adc k.val).seen })
        ∧ t.now = max s.now w
        ∧ t = { s with regs := t.regs, irq := t.irq, now := t.now, adcs := t.adcs }
        ∧ (∀ adr, adr ∉ (R.MEAS_ADC_STAT k.val :: R.MEAS_ADC_TSTAMP k.val :: R.MEAS_ADC_RAW k.val :: R.MEAS_RES i :: coalesced : List Nat) → t.rd adr = s.rd adr)
        ∧ (∀ key, key ∉ ([k.val] : List Nat) → t.adc key = s.adc key)
        ∧ (∀ num dr, num ∉ ([656 + k.val] : List Nat) → t.slot num dr = s.slot num dr)) ∧
  (∀ (k : Fin 4) (w : Nat) (raws : List (BitVec 16)) (i n wn st prev : Nat) (y v : Int) (s : State),
      (∀ j : Nat, j < 4 → (s.adc j).due.all (fun b => decide (max s.now w < b)) = true ∧ s.bit (F.MEAS_ADC_CAL_STEALING j) = false) →
      s.domOn 20 = true →
      s.get (F.MEAS_ADC_STAT_STATE k.val) = A.running →
      raws.length = 2 ^ bitsOf (s.adc k.val).cur 16 14 →
      i = (s.adc k.val).base + (s.adc k.val).pos →
      i < 128 →
      n = 4 * k.val + bitsOf (s.adc k.val).cur 13 12 →
      y = Int.tdiv (Int.tdiv (raws.foldl (fun a r => a + r.toInt) 0) (2 ^ bitsOf (s.adc k.val).cur 16 14 : Nat) * (s.get (F.MEAS_FCAL_FG n) : Int) * (65536 + s.getS (F.MEAS_UCAL_UG n))) (2 ^ 31) + s.getS (F.MEAS_FCAL_FO n) + s.getS (F.MEAS_UCAL_UO n) →
      v = max (-32768) (min 32767 y) →
      wn = bitsOf (s.adc k.val).cur 25 21 →
      wn ≤ 16 →
      st = (if wn = 0 then 0 else if v < s.getS (F.MEAS_WIN_LO (wn - 1)) then W.below else if v < s.getS (F.MEAS_WIN_HI (wn - 1)) then W.inside else W.above) →
      prev = (if (s.adc k.val).seen.contains i = true ∧ s.get (F.MEAS_RES_WSTATE i) ≠ 0 then s.get (F.MEAS_RES_WSTATE i) else W.inside) →
      ¬ ((st = W.below ∨ st = W.above) ∧ st ≠ prev) →
      (s.adc k.val).stopping = true →
      ∃ t, exec (.seqEntryDone k w raws) s = .next t
        ∧ t.rd (R.MEAS_RES i) = BitVec.ofNat 32 (2 ^ 31 + (if v = y then 0 else 2 ^ 30) + st * 2 ^ 26 + (s.get (F.MEAS_RES_COUNT i) + 1) % 256 * 2 ^ 16 + (v % 65536).toNat)
        ∧ t.get (F.MEAS_ADC_RAW_RAW k.val) = ((raws.getLast?).getD 0).toNat
        ∧ (t.adc k.val).seen = i :: (s.adc k.val).seen.filter (fun j => j != i)
        ∧ t.rd (R.MEAS_ADC_STAT k.val) = setBitsOf (s.rd (R.MEAS_ADC_STAT k.val)) 31 30 A.off
        ∧ t.adc k.val = { s.adc k.val with seen := (t.adc k.val).seen, stopping := false }
        ∧ t.now = max s.now w
        ∧ t = { s with regs := t.regs, now := t.now, adcs := t.adcs }
        ∧ (∀ adr, adr ∉ ([R.MEAS_ADC_STAT k.val, R.MEAS_ADC_RAW k.val, R.MEAS_RES i] : List Nat) → t.rd adr = s.rd adr)
        ∧ (∀ key, key ∉ ([k.val] : List Nat) → t.adc key = s.adc key)) ∧
  (∀ (k : Fin 4) (w : Nat) (raws : List (BitVec 16)) (i n wn st prev : Nat) (y v : Int) (s : State),
      (∀ j : Nat, j < 4 → (s.adc j).due.all (fun b => decide (max s.now w < b)) = true ∧ s.bit (F.MEAS_ADC_CAL_STEALING j) = false) →
      s.domOn 20 = true →
      s.get (F.MEAS_ADC_STAT_STATE k.val) = A.running →
      raws.length = 2 ^ bitsOf (s.adc k.val).cur 16 14 →
      i = (s.adc k.val).base + (s.adc k.val).pos →
      i < 128 →
      n = 4 * k.val + bitsOf (s.adc k.val).cur 13 12 →
      y = Int.tdiv (Int.tdiv (raws.foldl (fun a r => a + r.toInt) 0) (2 ^ bitsOf (s.adc k.val).cur 16 14 : Nat) * (s.get (F.MEAS_FCAL_FG n) : Int) * (65536 + s.getS (F.MEAS_UCAL_UG n))) (2 ^ 31) + s.getS (F.MEAS_FCAL_FO n) + s.getS (F.MEAS_UCAL_UO n) →
      v = max (-32768) (min 32767 y) →
      wn = bitsOf (s.adc k.val).cur 25 21 →
      wn ≤ 16 →
      st = (if wn = 0 then 0 else if v < s.getS (F.MEAS_WIN_LO (wn - 1)) then W.below else if v < s.getS (F.MEAS_WIN_HI (wn - 1)) then W.inside else W.above) →
      prev = (if (s.adc k.val).seen.contains i = true ∧ s.get (F.MEAS_RES_WSTATE i) ≠ 0 then s.get (F.MEAS_RES_WSTATE i) else W.inside) →
      ((st = W.below ∨ st = W.above) ∧ st ≠ prev) →
      (s.adc k.val).stopping = false →
      (s.adc k.val).pos + 1 < s.get (F.MEAS_ADC_CTL_LIST_LEN k.val) →
      s.bit (F.MEAS_WIN_CTL_SNAP (wn - 1)) = false →
      ∃ t, exec (.seqEntryDone k w raws) s = .next t
        ∧ t.rd (R.MEAS_RES i) = BitVec.ofNat 32 (2 ^ 31 + (if v = y then 0 else 2 ^ 30) + st * 2 ^ 26 + (s.get (F.MEAS_RES_COUNT i) + 1) % 256 * 2 ^ 16 + (v % 65536).toNat)
        ∧ t.get (F.MEAS_ADC_RAW_RAW k.val) = ((raws.getLast?).getD 0).toNat
        ∧ (t.adc k.val).seen = i :: (s.adc k.val).seen.filter (fun j => j != i)
        ∧ t.bitAt R.MEAS_WIN_STAT (wn - 1) = true
        ∧ t.rd R.MEAS_WIN_LAST = (if (List.range k.val).any (fun j => (s.adc j).eventAt == some (max s.now w)) = true then s.rd R.MEAS_WIN_LAST else BitVec.ofNat 32 (st * 2 ^ 30 + i * 2 ^ 16 + (v % 65536).toNat))
        ∧ (s.bit (F.MEAS_WIN_CTL_IRQ (wn - 1)) = true → t.isPending 664 = true)
        ∧ (s.bit (F.MEAS_WIN_CTL_IRQ (wn - 1)) = false → t.irq = s.irq)
        ∧ t.adc k.val = { s.adc k.val with seen := (t.adc k.val).seen, eventAt := some (max s.now w), pos := (s.adc k.val).pos + 1, cur := t.rd (R.MEAS_SEQ (i + 1)) }
        ∧ t.now = max s.now w
        ∧ t = { s with regs := t.regs, irq := t.irq, now := t.now, adcs := t.adcs }
        ∧ (∀ adr, adr ∉ (R.MEAS_ADC_RAW k.val :: R.MEAS_RES i :: R.MEAS_WIN_STAT :: R.MEAS_WIN_LAST :: coalesced : List Nat) → t.rd adr = s.rd adr)
        ∧ (∀ key, key ∉ ([k.val] : List Nat) → t.adc key = s.adc key)
        ∧ (∀ num dr, num ∉ ([664] : List Nat) → t.slot num dr = s.slot num dr)) ∧
  (∀ (k : Fin 4) (w : Nat) (raws : List (BitVec 16)) (i n wn st prev : Nat) (y v : Int) (s : State),
      (∀ j : Nat, j < 4 → (s.adc j).due.all (fun b => decide (max s.now w < b)) = true ∧ s.bit (F.MEAS_ADC_CAL_STEALING j) = false) →
      s.domOn 20 = true →
      s.get (F.MEAS_ADC_STAT_STATE k.val) = A.running →
      raws.length = 2 ^ bitsOf (s.adc k.val).cur 16 14 →
      i = (s.adc k.val).base + (s.adc k.val).pos →
      i < 128 →
      n = 4 * k.val + bitsOf (s.adc k.val).cur 13 12 →
      y = Int.tdiv (Int.tdiv (raws.foldl (fun a r => a + r.toInt) 0) (2 ^ bitsOf (s.adc k.val).cur 16 14 : Nat) * (s.get (F.MEAS_FCAL_FG n) : Int) * (65536 + s.getS (F.MEAS_UCAL_UG n))) (2 ^ 31) + s.getS (F.MEAS_FCAL_FO n) + s.getS (F.MEAS_UCAL_UO n) →
      v = max (-32768) (min 32767 y) →
      wn = bitsOf (s.adc k.val).cur 25 21 →
      wn ≤ 16 →
      st = (if wn = 0 then 0 else if v < s.getS (F.MEAS_WIN_LO (wn - 1)) then W.below else if v < s.getS (F.MEAS_WIN_HI (wn - 1)) then W.inside else W.above) →
      prev = (if (s.adc k.val).seen.contains i = true ∧ s.get (F.MEAS_RES_WSTATE i) ≠ 0 then s.get (F.MEAS_RES_WSTATE i) else W.inside) →
      ((st = W.below ∨ st = W.above) ∧ st ≠ prev) →
      (s.adc k.val).stopping = false →
      (s.adc k.val).pos + 1 < s.get (F.MEAS_ADC_CTL_LIST_LEN k.val) →
      s.bit (F.MEAS_WIN_CTL_SNAP (wn - 1)) = true →
      s.alive = true →
      s.bit F.EMN_TRIG_CFG_SNAP_FWD = false →
      s.bit F.SNAP_STAT_FULL = false →
      s.snapAt ≠ some (max s.now w) →
      ∃ t, exec (.seqEntryDone k w raws) s = .next t
        ∧ t.bitAt R.MEAS_WIN_STAT (wn - 1) = true
        ∧ t.snapAt = some (max s.now w)
        ∧ t.bit F.SNAP_STAT_FULL = true
        ∧ t.get F.SNAP_STAT_SRC = 64
        ∧ t.isPending 908 = true) ∧
  (∀ (k : Fin 4) (w : Nat) (raws : List (BitVec 16)) (s : State),
      (∀ j : Nat, j < 4 → (s.adc j).due.all (fun b => decide (max s.now w < b)) = true ∧ s.bit (F.MEAS_ADC_CAL_STEALING j) = false) →
      (s.domOn 20 = false ∨ s.get (F.MEAS_ADC_STAT_STATE k.val) ≠ A.running ∨ raws.length ≠ 2 ^ bitsOf (s.adc k.val).cur 16 14) →
      ∃ t, exec (.seqEntryDone k w raws) s = .next t
        ∧ t.now = max s.now w
        ∧ t = { s with now := t.now }) ∧
  (∀ (raw : BitVec 16) (m n st prev : Nat) (y v : Int) (s : State),
      s.mode ≠ M.reset →
      m = s.monNext →
      m < 9 →
      n = 0x18 + m →
      y = Int.tdiv (raw.toInt * (s.get (F.MEAS_FCAL_FG n) : Int) * (65536 + s.getS (F.MEAS_UCAL_UG n))) (2 ^ 31) + s.getS (F.MEAS_FCAL_FO n) + s.getS (F.MEAS_UCAL_UO n) →
      v = max (-32768) (min 32767 y) →
      st = (if v < s.getS (F.MEAS_MON_LIM_LO m) then W.below else if v < s.getS (F.MEAS_MON_LIM_HI m) then W.inside else W.above) →
      prev = (if s.get (F.MEAS_MON_WSTATE m) = 0 then W.inside else s.get (F.MEAS_MON_WSTATE m)) →
      ∃ t, exec (.monitorConversion raw) s = .next t
        ∧ t.monNext = (m + 1) % 9
        ∧ t.rd (R.MEAS_MON m) = BitVec.ofNat 32 (2 ^ 31 + st * 2 ^ 26 + (s.get (F.MEAS_MON_COUNT m) + 1) % 256 * 2 ^ 16 + (v % 65536).toNat)
        ∧ (st ≠ W.inside → st ≠ prev → t.bitAt R.MEAS_MON_STAT m = true ∧ t.isPending (if m < 4 then 665 else 666) = true)
        ∧ (st = W.inside ∨ st = prev → t.rd R.MEAS_MON_STAT = s.rd R.MEAS_MON_STAT ∧ t.irq = s.irq)
        ∧ t = { s with regs := t.regs, irq := t.irq, monNext := t.monNext }
        ∧ (∀ adr, adr ∉ (R.MEAS_MON m :: R.MEAS_MON_STAT :: coalesced : List Nat) → t.rd adr = s.rd adr)
        ∧ (∀ num dr, num ∉ ([if m < 4 then 665 else 666] : List Nat) → t.slot num dr = s.slot num dr)) ∧
  (∀ (raw : BitVec 16) (s : State),
      s.mode = M.reset →
      ∃ t, exec (.monitorConversion raw) s = .next t
        ∧ t = s) ∧
  (∀ (k : Fin 8) (x : BitVec 16) (ticks w : Nat) (st new : Nat) (lo hi hy : Int) (s : State),
      s.bit (F.MEAS_CMP_CFG_EN k.val) = true →
      (s.get (F.MEAS_FCAL_FG (0x10 + k.val)) ≠ 0 ∧ s.get (F.MEAS_CMP_CFG_FILT k.val) + 1 ≤ min ticks ((s.at_ w).filterTicks k.val)) →
      lo = Int.fdiv (Int.tdiv ((s.getS (F.MEAS_CMP_THR_LO k.val) - s.getS (F.MEAS_FCAL_FO (0x10 + k.val)) - s.getS (F.MEAS_UCAL_UO (0x10 + k.val))) * 2 ^ 31) ((s.get (F.MEAS_FCAL_FG (0x10 + k.val)) : Int) * (65536 + s.getS (F.MEAS_UCAL_UG (0x10 + k.val))))) 64 * 64 →
      hi = Int.fdiv (Int.tdiv ((s.getS (F.MEAS_CMP_THR_HI k.val) - s.getS (F.MEAS_FCAL_FO (0x10 + k.val)) - s.getS (F.MEAS_UCAL_UO (0x10 + k.val))) * 2 ^ 31) ((s.get (F.MEAS_FCAL_FG (0x10 + k.val)) : Int) * (65536 + s.getS (F.MEAS_UCAL_UG (0x10 + k.val))))) 64 * 64 →
      hy = 8 * (s.get (F.MEAS_CMP_CFG_HYST k.val) : Int) →
      st = s.get (F.MEAS_CMP_STAT_STATE k.val) →
      new = (if x.toInt < lo then Cmp.below else if hi ≤ lo ∨ hi ≤ x.toInt then Cmp.above else if st = Cmp.below ∧ x.toInt < lo + hy then st else if st = Cmp.above ∧ hi - hy ≤ x.toInt then st else Cmp.inside) →
      new = st →
      ∃ t, exec (.comparatorStateChange k x ticks w) s = .next t
        ∧ t.now = max s.now w
        ∧ t = { s with now := t.now }) ∧
  (∀ (k : Fin 8) (x : BitVec 16) (ticks w : Nat) (st new b : Nat) (lo hi hy : Int) (s : State),
      s.bit (F.MEAS_CMP_CFG_EN k.val) = true →
      (s.get (F.MEAS_FCAL_FG (0x10 + k.val)) ≠ 0 ∧ s.get (F.MEAS_CMP_CFG_FILT k.val) + 1 ≤ min ticks ((s.at_ w).filterTicks k.val)) →
      lo = Int.fdiv (Int.tdiv ((s.getS (F.MEAS_CMP_THR_LO k.val) - s.getS (F.MEAS_FCAL_FO (0x10 + k.val)) - s.getS (F.MEAS_UCAL_UO (0x10 + k.val))) * 2 ^ 31) ((s.get (F.MEAS_FCAL_FG (0x10 + k.val)) : Int) * (65536 + s.getS (F.MEAS_UCAL_UG (0x10 + k.val))))) 64 * 64 →
      hi = Int.fdiv (Int.tdiv ((s.getS (F.MEAS_CMP_THR_HI k.val) - s.getS (F.MEAS_FCAL_FO (0x10 + k.val)) - s.getS (F.MEAS_UCAL_UO (0x10 + k.val))) * 2 ^ 31) ((s.get (F.MEAS_FCAL_FG (0x10 + k.val)) : Int) * (65536 + s.getS (F.MEAS_UCAL_UG (0x10 + k.val))))) 64 * 64 →
      hy = 8 * (s.get (F.MEAS_CMP_CFG_HYST k.val) : Int) →
      st = s.get (F.MEAS_CMP_STAT_STATE k.val) →
      new = (if x.toInt < lo then Cmp.below else if hi ≤ lo ∨ hi ≤ x.toInt then Cmp.above else if st = Cmp.below ∧ x.toInt < lo + hy then st else if st = Cmp.above ∧ hi - hy ≤ x.toInt then st else Cmp.inside) →
      new ≠ st →
      b = (if new = Cmp.below then 2 else if new = Cmp.above then 1 else 0) →
      (s.get (F.MEAS_CMP_CFG_EVT k.val)).testBit b = false →
      ∃ t, exec (.comparatorStateChange k x ticks w) s = .next t
        ∧ t.rd (R.MEAS_CMP_STAT k.val) = setBitsOf (s.rd (R.MEAS_CMP_STAT k.val)) 31 30 new
        ∧ Sparse.get (fun _ => 0) t.filters k.val = max s.now w
        ∧ t.now = max s.now w
        ∧ t = { s with regs := t.regs, now := t.now, filters := t.filters }
        ∧ (∀ adr, adr ∉ ([R.MEAS_CMP_STAT k.val] : List Nat) → t.rd adr = s.rd adr)) ∧
  (∀ (k : Fin 8) (x : BitVec 16) (ticks w : Nat) (st new b : Nat) (lo hi hy : Int) (s : State),
      s.bit (F.MEAS_CMP_CFG_EN k.val) = true →
      (s.get (F.MEAS_FCAL_FG (0x10 + k.val)) ≠ 0 ∧ s.get (F.MEAS_CMP_CFG_FILT k.val) + 1 ≤ min ticks ((s.at_ w).filterTicks k.val)) →
      lo = Int.fdiv (Int.tdiv ((s.getS (F.MEAS_CMP_THR_LO k.val) - s.getS (F.MEAS_FCAL_FO (0x10 + k.val)) - s.getS (F.MEAS_UCAL_UO (0x10 + k.val))) * 2 ^ 31) ((s.get (F.MEAS_FCAL_FG (0x10 + k.val)) : Int) * (65536 + s.getS (F.MEAS_UCAL_UG (0x10 + k.val))))) 64 * 64 →
      hi = Int.fdiv (Int.tdiv ((s.getS (F.MEAS_CMP_THR_HI k.val) - s.getS (F.MEAS_FCAL_FO (0x10 + k.val)) - s.getS (F.MEAS_UCAL_UO (0x10 + k.val))) * 2 ^ 31) ((s.get (F.MEAS_FCAL_FG (0x10 + k.val)) : Int) * (65536 + s.getS (F.MEAS_UCAL_UG (0x10 + k.val))))) 64 * 64 →
      hy = 8 * (s.get (F.MEAS_CMP_CFG_HYST k.val) : Int) →
      st = s.get (F.MEAS_CMP_STAT_STATE k.val) →
      new = (if x.toInt < lo then Cmp.below else if hi ≤ lo ∨ hi ≤ x.toInt then Cmp.above else if st = Cmp.below ∧ x.toInt < lo + hy then st else if st = Cmp.above ∧ hi - hy ≤ x.toInt then st else Cmp.inside) →
      new ≠ st →
      b = (if new = Cmp.below then 2 else if new = Cmp.above then 1 else 0) →
      (s.get (F.MEAS_CMP_CFG_EVT k.val)).testBit b = true →
      ((s.get (F.MEAS_CMP_CFG_ACT k.val)).testBit 0 = false ∧ (s.get (F.MEAS_CMP_CFG_ACT k.val)).testBit 2 = false) →
      ∃ t, exec (.comparatorStateChange k x ticks w) s = .next t
        ∧ t.rd (R.MEAS_CMP_STAT k.val) = (if new = Cmp.below then setBitsOf (setBitsOf (s.rd (R.MEAS_CMP_STAT k.val)) 31 30 new) 1 1 1 else if new = Cmp.above then setBitsOf (setBitsOf (s.rd (R.MEAS_CMP_STAT k.val)) 31 30 new) 2 2 1 else setBitsOf (setBitsOf (s.rd (R.MEAS_CMP_STAT k.val)) 31 30 new) 0 0 1)
        ∧ Sparse.get (fun _ => 0) t.filters k.val = max s.now w
        ∧ ((s.get (F.MEAS_CMP_CFG_ACT k.val)).testBit 1 = true → t.isPending (648 + k.val) = true)
        ∧ ((s.get (F.MEAS_CMP_CFG_ACT k.val)).testBit 1 = false → t.irq = s.irq)
        ∧ t.now = max s.now w
        ∧ t = { s with regs := t.regs, irq := t.irq, now := t.now, filters := t.filters }
        ∧ (∀ adr, adr ∉ (R.MEAS_CMP_STAT k.val :: coalesced : List Nat) → t.rd adr = s.rd adr)
        ∧ (∀ num dr, num ∉ ([648 + k.val] : List Nat) → t.slot num dr = s.slot num dr)) ∧
  (∀ (k : Fin 8) (x : BitVec 16) (ticks w : Nat) (st new b : Nat) (lo hi hy : Int) (s : State),
      s.bit (F.MEAS_CMP_CFG_EN k.val) = true →
      (s.get (F.MEAS_FCAL_FG (0x10 + k.val)) ≠ 0 ∧ s.get (F.MEAS_CMP_CFG_FILT k.val) + 1 ≤ min ticks ((s.at_ w).filterTicks k.val)) →
      lo = Int.fdiv (Int.tdiv ((s.getS (F.MEAS_CMP_THR_LO k.val) - s.getS (F.MEAS_FCAL_FO (0x10 + k.val)) - s.getS (F.MEAS_UCAL_UO (0x10 + k.val))) * 2 ^ 31) ((s.get (F.MEAS_FCAL_FG (0x10 + k.val)) : Int) * (65536 + s.getS (F.MEAS_UCAL_UG (0x10 + k.val))))) 64 * 64 →
      hi = Int.fdiv (Int.tdiv ((s.getS (F.MEAS_CMP_THR_HI k.val) - s.getS (F.MEAS_FCAL_FO (0x10 + k.val)) - s.getS (F.MEAS_UCAL_UO (0x10 + k.val))) * 2 ^ 31) ((s.get (F.MEAS_FCAL_FG (0x10 + k.val)) : Int) * (65536 + s.getS (F.MEAS_UCAL_UG (0x10 + k.val))))) 64 * 64 →
      hy = 8 * (s.get (F.MEAS_CMP_CFG_HYST k.val) : Int) →
      st = s.get (F.MEAS_CMP_STAT_STATE k.val) →
      new = (if x.toInt < lo then Cmp.below else if hi ≤ lo ∨ hi ≤ x.toInt then Cmp.above else if st = Cmp.below ∧ x.toInt < lo + hy then st else if st = Cmp.above ∧ hi - hy ≤ x.toInt then st else Cmp.inside) →
      new ≠ st →
      b = (if new = Cmp.below then 2 else if new = Cmp.above then 1 else 0) →
      (s.get (F.MEAS_CMP_CFG_EVT k.val)).testBit b = true →
      s.get (F.MEAS_CMP_CFG_ACT k.val) = 1 →
      s.alive = true →
      s.bit F.EMN_TRIG_CFG_SNAP_FWD = false →
      s.bit F.SNAP_STAT_FULL = false →
      s.snapAt ≠ some (max s.now w) →
      ∃ t, exec (.comparatorStateChange k x ticks w) s = .next t
        ∧ t.get (F.MEAS_CMP_STAT_STATE k.val) = new
        ∧ t.snapAt = some (max s.now w)
        ∧ t.bit F.SNAP_STAT_FULL = true
        ∧ t.get F.SNAP_STAT_SRC = 32
        ∧ t.isPending 908 = true) ∧
  (∀ (d : Fin 23) (u : State) (k : Fin 8) (x : BitVec 16) (ticks w : Nat) (st new b : Nat) (lo hi hy : Int) (s : State),
      s.bit (F.MEAS_CMP_CFG_EN k.val) = true →
      (s.get (F.MEAS_FCAL_FG (0x10 + k.val)) ≠ 0 ∧ s.get (F.MEAS_CMP_CFG_FILT k.val) + 1 ≤ min ticks ((s.at_ w).filterTicks k.val)) →
      lo = Int.fdiv (Int.tdiv ((s.getS (F.MEAS_CMP_THR_LO k.val) - s.getS (F.MEAS_FCAL_FO (0x10 + k.val)) - s.getS (F.MEAS_UCAL_UO (0x10 + k.val))) * 2 ^ 31) ((s.get (F.MEAS_FCAL_FG (0x10 + k.val)) : Int) * (65536 + s.getS (F.MEAS_UCAL_UG (0x10 + k.val))))) 64 * 64 →
      hi = Int.fdiv (Int.tdiv ((s.getS (F.MEAS_CMP_THR_HI k.val) - s.getS (F.MEAS_FCAL_FO (0x10 + k.val)) - s.getS (F.MEAS_UCAL_UO (0x10 + k.val))) * 2 ^ 31) ((s.get (F.MEAS_FCAL_FG (0x10 + k.val)) : Int) * (65536 + s.getS (F.MEAS_UCAL_UG (0x10 + k.val))))) 64 * 64 →
      hy = 8 * (s.get (F.MEAS_CMP_CFG_HYST k.val) : Int) →
      st = s.get (F.MEAS_CMP_STAT_STATE k.val) →
      new = (if x.toInt < lo then Cmp.below else if hi ≤ lo ∨ hi ≤ x.toInt then Cmp.above else if st = Cmp.below ∧ x.toInt < lo + hy then st else if st = Cmp.above ∧ hi - hy ≤ x.toInt then st else Cmp.inside) →
      new ≠ st →
      b = (if new = Cmp.below then 2 else if new = Cmp.above then 1 else 0) →
      (s.get (F.MEAS_CMP_CFG_EVT k.val)).testBit b = true →
      s.get (F.MEAS_CMP_CFG_ACT k.val) = 4 →
      s.rdN (R.MEAS_CMP_WAKE k.val) = 2 ^ d.val →
      u = { (s.wr (R.MEAS_CMP_STAT k.val) (setBitsOf (setBitsOf (s.rd (R.MEAS_CMP_STAT k.val)) 31 30 new) (if new = Cmp.below then 1 else if new = Cmp.above then 2 else 0) (if new = Cmp.below then 1 else if new = Cmp.above then 2 else 0) 1)) with now := max s.now w, filters := Sparse.put (fun _ => 0) s.filters k.val (max s.now w) } →
      ∃ t, exec (.comparatorStateChange k x ticks w) s = .next t
        ∧ t = u.wakeDomain d.val) ∧
  (∀ (k : Fin 8) (x : BitVec 16) (ticks w : Nat) (s : State),
      (s.bit (F.MEAS_CMP_CFG_EN k.val) = false ∨ min ticks ((s.at_ w).filterTicks k.val) < s.get (F.MEAS_CMP_CFG_FILT k.val) + 1) →
      ∃ t, exec (.comparatorStateChange k x ticks w) s = .next t
        ∧ t.now = max s.now w
        ∧ t = { s with now := t.now }) ∧
  (∀ (ini : Initiator) (k : Fin 8) (value : BitVec 32) (s : State),
      s.sends ini true (R.MEAS_CMP_CFG k.val) = true →
      value.getLsbD 31 = false →
      ∃ t, exec (.cmpConfigWrite ini k 0 value) s = .next t
        ∧ t.respCode ini = 0
        ∧ t.rd (R.MEAS_CMP_CFG k.val) = (value &&& 0xFFFFFF1F#32) ||| (s.rd (R.MEAS_CMP_CFG k.val) &&& 0xE0#32)
        ∧ t.rd (R.MEAS_CMP_STAT k.val) = setBitsOf (s.rd (R.MEAS_CMP_STAT k.val)) 31 30 Cmp.off
        ∧ Sparse.get (fun _ => 0) t.filters k.val = s.now
        ∧ t = { s with regs := t.regs, filters := t.filters, spine := t.spine, sec := { s.sec with tapOut := t.sec.tapOut } }
        ∧ (∀ adr, adr ∉ ([R.MEAS_CMP_CFG k.val, R.MEAS_CMP_STAT k.val] : List Nat) → t.rd adr = s.rd adr)) ∧
  (∀ (ini : Initiator) (k : Fin 8) (value : BitVec 32) (s : State),
      s.sends ini true (R.MEAS_CMP_CFG k.val) = true →
      value.getLsbD 31 = true →
      ∃ t, exec (.cmpConfigWrite ini k 0 value) s = .next t
        ∧ t.respCode ini = 0
        ∧ t.rd (R.MEAS_CMP_CFG k.val) = (value &&& 0xFFFFFF1F#32) ||| (s.rd (R.MEAS_CMP_CFG k.val) &&& 0xE0#32)
        ∧ t.rd (R.MEAS_CMP_STAT k.val) = (if value.getLsbD 30 = false ∧ s.adcClock = false then setBitsOf (s.rd (R.MEAS_CMP_STAT k.val)) 3 3 1 else s.rd (R.MEAS_CMP_STAT k.val))
        ∧ Sparse.get (fun _ => 0) t.filters k.val = s.now
        ∧ t = { s with regs := t.regs, filters := t.filters, spine := t.spine, sec := { s.sec with tapOut := t.sec.tapOut } }
        ∧ (∀ adr, adr ∉ ([R.MEAS_CMP_CFG k.val, R.MEAS_CMP_STAT k.val] : List Nat) → t.rd adr = s.rd adr)) ∧
  (∀ (ini : Initiator) (k : Fin 8) (reg : Fin 3) (a : Nat) (value : BitVec 32) (s : State),
      ((reg = 1 ∧ a = R.MEAS_CMP_THR k.val) ∨ (reg = 2 ∧ a = R.MEAS_UCAL (0x10 + k.val))) →
      s.sends ini true a = true →
      ∃ t, exec (.cmpConfigWrite ini k reg value) s = .next t
        ∧ t.respCode ini = 0
        ∧ t.rd a = value
        ∧ Sparse.get (fun _ => 0) t.filters k.val = s.now
        ∧ t = { s with regs := t.regs, filters := t.filters, spine := t.spine, sec := { s.sec with tapOut := t.sec.tapOut } }
        ∧ (∀ adr, adr ∉ ([a] : List Nat) → t.rd adr = s.rd adr))

/-- Links of the Emnodric chain: frames, training, delay, acknowledgement and credit (parts of R278, R279, R280, R281, R282, R283, R284, R285, R286, R287, R292, R293, R386). Port p is 0 for UP and 1 for DN, POS the register's position, b the characters of a data frame after SOF (TYPE, SEQ, DST, SRC, LEN, payload, CRC), tm the later of the moment given and wheel time. "Up" means domain NET ON outside RESET. Every frame that is sent joins the record of its port. What a clause does not name stays. (1) The characters of a frame: SOF (K28.5, or K28.1 for an urgent frame), the fields, high byte first, and the CRC-32C of what follows SOF. (2) EMN_DATA_FRAME_RX on a linked port, up: a frame of the right length and CRC with the next SEQ is accepted and answered with ACK. ENUM, and, in a device with a position outside VERIFY, LOAD, FALLBACK and QUARANTINE, a frame with DST = POS, is consumed. (3) Any other frame but EVT is forwarded on port q: with a position, DST above it on DN and below it on UP, and DST 0xFF away from the port of arrival, consumed as well; without one, or in those modes, away from the port of arrival. There a CFG frame is consumed as well by a device with a position that loads from UPSTREAM, when DST is its POS, or is 0xFF and its bit in the mask of the START is set or a stream to it is open. A port sends it while fewer than 8 frames are unacknowledged. (4) An EVT frame of n events to forward on q, where no EVT frame waits and n events of credit are there: it is sent, the credit is n less, and, unless this device consumes it too, CREDIT for n events goes back to the port of arrival. (5) Where the oldest EVT frame that waits there, or this one with none waiting, has more events than the credit, it waits behind them. (6) A frame already accepted (its SEQ up to 128 before the next one, cyclically) is acknowledged again and discarded; one with a later SEQ is discarded. (7) A frame with a wrong CRC, or whose LEN is above 1,024 or not that of its payload (log entry 160), is discarded: CRC_ERR counts, CRC of STAT is set and source 770 + p raised. (8) On a port that is not linked, or with the unit not up: nothing. (9) A DREQ, DRSP, ACK, CREDIT, SYNC or SNAP frame with a wrong CRC on a linked port, up: it is discarded, not repeated, and counted as in clause 7. (10) Such a frame on a port that is not linked, or with the unit not up: nothing. (11) DREQ is answered with DRSP, with the DREQ's SEQ and the turn-round time. (12) DRSP to the DREQ outstanding (same SEQ, sent at t1): D := ((t4 - t1) - TURN) div 2. D of at most 640 is valid; above it VALID = 0 and source 770 + p is raised. (13) A result that D does not hold, negative or above 4,095, leaves a free value there (log entries 64, 154); above 4,095 it is not valid and the source is raised. (14) A DRSP that answers no outstanding DREQ sets nothing. (15) ACK of a frame in the window: the frames up to it leave, and waiting frames go out in order while fewer than 8 are unacknowledged; both time-outs start again. (16) ACK of a frame that is not in the window changes nothing. (17) CREDIT adds to the event credit, up to 256; where the oldest EVT frame that waits has more events, or none waits, that is all. (18) With credit for the oldest EVT frame h that waits and none or not enough for the next: h goes out, and CREDIT for its events to the port it came from, if it came from one. (19) EMN_ACK_TIMEOUT of a linked port, 20 us (8,000 ENG cycles) after its oldest unacknowledged frame was sent: all of them are sent again from the oldest, REPLAYS counts and source 770 + p is raised. (20) Earlier, on a port not linked, or with nothing unacknowledged: nothing. (21) EMN_IDLE_TIMEOUT of a linked port 4 us (1,600 cycles) after the last valid character: it trains again, sending TRAIN; RETRAINS counts, LINK_CHG is set and source 768 + p raised. Data frames stay for the next link. (22) Earlier, or on a port not linked: nothing. (23) EMN_TRAIN_RX, up: on a port not linked a valid TRAIN frame of the opposite port type is counted, and the port trains on. (24) The 128th links the port: LINK_CHG is set and source 768 + p raised. (25) A TRAIN frame of the same port type, or on a linked port, is not counted. (26) One with a wrong CRC is counted as a CRC error. (27) With the unit not up: nothing. (28) EMN_PORT_LINKED of a port that has just linked: DREQ is sent, unacknowledged frames are sent again (REPLAYS and source 770 + p as in clause 20), and on DN a device with a position sends ENUM with the next position. (29) Of another port: nothing. (30) EMN_DELAY_MEASURE of a linked port sends a DREQ at that moment. (31) Of another port: nothing. Readings and choices of the model that it rests on: log entries 6, 64, 160, 161. -/
def Obligations.ChainLinks : Prop :=
  (∀ (type seq dst src origin age : Nat) (pl : List Nat),
      frameChars (.data type dst src pl) seq = 0xBC :: ([type, seq, dst, src] ++ bytesBE 2 pl.length ++ pl) ++ bytesBE 4 (crc32c ([type, seq, dst, src] ++ bytesBE 2 pl.length ++ pl)).toNat
        ∧ frameChars (.urgent type origin age pl) seq = 0x3C :: ((type * 16 + origin) :: bytesBE 3 age ++ pl) ++ bytesBE 4 (crc32c ((type * 16 + origin) :: bytesBE 3 age ++ pl)).toNat) ∧
  (∀ (p : Fin 2) (tm : Nat) (frame : List (BitVec 8)) (b : List Nat) (s : State),
      s.emnUp = true →
      s.linked p.val = true →
      b = frame.map BitVec.toNat →
      fieldBE b 4 2 ≤ 1024 →
      b.length = 10 + fieldBE b 4 2 →
      fieldBE b (b.length - 4) 4 = (crc32c (b.take (b.length - 4))).toNat →
      fieldBE b 1 1 = (s.emnPort p.val).seqIn →
      (fieldBE b 0 1 = 3 ∨ (s.bit F.EMN_POS_VALID = true ∧ s.passThrough = false ∧ fieldBE b 2 1 = s.get F.EMN_POS_POS)) →
      ∃ t, exec (.emnDataFrameRx p tm frame) s = .next t
        ∧ t.emnPort p.val = ({ s.emnPort p.val with lastValid := max s.now tm }).accepts (s.get F.EMN_POS_POS)
        ∧ (∀ key, key ∉ ([p.val] : List Nat) → t.emnPort key = s.emnPort key)
        ∧ t.emn = { s.emn with inbox := s.emn.inbox ++ [⟨p.val, fieldBE b 0 1, fieldBE b 3 1, slice b 6 (fieldBE b 4 2)⟩] }
        ∧ t = { s with emn := t.emn, now := max s.now tm, emnPorts := t.emnPorts }) ∧
  (∀ (p : Fin 2) (tm : Nat) (frame : List (BitVec 8)) (b : List Nat) (f : EmnFrame) (q : Nat) (has take : Bool) (s : State),
      s.emnUp = true →
      s.linked p.val = true →
      b = frame.map BitVec.toNat →
      fieldBE b 4 2 ≤ 1024 →
      b.length = 10 + fieldBE b 4 2 →
      fieldBE b (b.length - 4) 4 = (crc32c (b.take (b.length - 4))).toNat →
      fieldBE b 1 1 = (s.emnPort p.val).seqIn →
      f = .data (fieldBE b 0 1) (fieldBE b 2 1) (fieldBE b 3 1) (slice b 6 (fieldBE b 4 2)) →
      has = (s.bit F.EMN_POS_VALID && !s.passThrough) →
      ¬ (has = true ∧ fieldBE b 2 1 = s.get F.EMN_POS_POS) →
      q = (if has = true ∧ fieldBE b 2 1 ≠ 0xFF then (if s.get F.EMN_POS_POS < fieldBE b 2 1 then 1 else 0) else 1 - p.val) →
      take = (if has = true then decide (fieldBE b 2 1 = 0xFF) else decide (fieldBE b 0 1 = 1 ∧ s.bit F.EMN_POS_VALID = true ∧ s.emn.upstream = true ∧ (fieldBE b 2 1 = s.get F.EMN_POS_POS ∨ (fieldBE b 2 1 = 0xFF ∧ ((fieldBE (slice b 6 (fieldBE b 4 2)) 2 2).testBit (s.get F.EMN_POS_POS) = true ∨ (2 < (slice b 6 (fieldBE b 4 2)).headD 0 ∧ s.cfg.boot.open_ = true)))))) →
      fieldBE b 0 1 ≠ 2 →
      fieldBE b 0 1 ≠ 3 →
      ∃ t, exec (.emnDataFrameRx p tm frame) s = .next t
        ∧ (∀ key, t.emnPort key = if key = q then (if key = p.val then ({ s.emnPort p.val with lastValid := max s.now tm }).accepts (s.get F.EMN_POS_POS) else s.emnPort key).gets f (max s.now tm) else (if key = p.val then ({ s.emnPort p.val with lastValid := max s.now tm }).accepts (s.get F.EMN_POS_POS) else s.emnPort key))
        ∧ t.emn = { s.emn with inbox := if take = true then s.emn.inbox ++ [⟨p.val, fieldBE b 0 1, fieldBE b 3 1, slice b 6 (fieldBE b 4 2)⟩] else s.emn.inbox }
        ∧ t = { s with emn := t.emn, now := max s.now tm, emnPorts := t.emnPorts }) ∧
  (∀ (p : Fin 2) (tm : Nat) (frame : List (BitVec 8)) (b : List Nat) (f : EmnFrame) (q : Nat) (has take : Bool) (h : HeldEvt) (n : Nat) (s : State),
      s.emnUp = true →
      s.linked p.val = true →
      b = frame.map BitVec.toNat →
      fieldBE b 4 2 ≤ 1024 →
      b.length = 10 + fieldBE b 4 2 →
      fieldBE b (b.length - 4) 4 = (crc32c (b.take (b.length - 4))).toNat →
      fieldBE b 1 1 = (s.emnPort p.val).seqIn →
      f = .data (fieldBE b 0 1) (fieldBE b 2 1) (fieldBE b 3 1) (slice b 6 (fieldBE b 4 2)) →
      has = (s.bit F.EMN_POS_VALID && !s.passThrough) →
      ¬ (has = true ∧ fieldBE b 2 1 = s.get F.EMN_POS_POS) →
      q = (if has = true ∧ fieldBE b 2 1 ≠ 0xFF then (if s.get F.EMN_POS_POS < fieldBE b 2 1 then 1 else 0) else 1 - p.val) →
      h = (⟨fieldBE b 2 1, fieldBE b 3 1, slice b 6 (fieldBE b 4 2), if has = true ∧ fieldBE b 2 1 = 0xFF then none else some p.val⟩ : HeldEvt) →
      fieldBE b 0 1 = 2 →
      n = (slice b 6 (fieldBE b 4 2)).headD 0 →
      take = (has && decide (fieldBE b 2 1 = 0xFF)) →
      (s.emnPort q).held = [] →
      n ≤ (s.emnPort q).credit →
      ∃ t, exec (.emnDataFrameRx p tm frame) s = .next t
        ∧ (∀ key, key ≠ p.val → t.emnPort key = if key = q then { s.emnPort q with credit := (s.emnPort q).credit - n }.gets f (max s.now tm) else s.emnPort key)
        ∧ (q ≠ p.val → t.emnPort p.val = if take = true then ({ s.emnPort p.val with lastValid := max s.now tm }).accepts (s.get F.EMN_POS_POS) else (({ s.emnPort p.val with lastValid := max s.now tm }).accepts (s.get F.EMN_POS_POS)).says (.urgent 7 (s.get F.EMN_POS_POS) 0 (bytesBE 2 n ++ [0, 0, 0, 0, 0])))
        ∧ (q = p.val → t.emnPort p.val = ({ ({ s.emnPort p.val with lastValid := max s.now tm }).accepts (s.get F.EMN_POS_POS) with credit := (s.emnPort p.val).credit - n }.gets f (max s.now tm)).says (.urgent 7 (s.get F.EMN_POS_POS) 0 (bytesBE 2 n ++ [0, 0, 0, 0, 0])))
        ∧ t.emn = { s.emn with inbox := if take = true then s.emn.inbox ++ [⟨p.val, fieldBE b 0 1, fieldBE b 3 1, slice b 6 (fieldBE b 4 2)⟩] else s.emn.inbox }
        ∧ t = { s with emn := t.emn, now := max s.now tm, emnPorts := t.emnPorts }) ∧
  (∀ (p : Fin 2) (tm : Nat) (frame : List (BitVec 8)) (b : List Nat) (f : EmnFrame) (q : Nat) (has take : Bool) (h : HeldEvt) (s : State),
      s.emnUp = true →
      s.linked p.val = true →
      b = frame.map BitVec.toNat →
      fieldBE b 4 2 ≤ 1024 →
      b.length = 10 + fieldBE b 4 2 →
      fieldBE b (b.length - 4) 4 = (crc32c (b.take (b.length - 4))).toNat →
      fieldBE b 1 1 = (s.emnPort p.val).seqIn →
      f = .data (fieldBE b 0 1) (fieldBE b 2 1) (fieldBE b 3 1) (slice b 6 (fieldBE b 4 2)) →
      has = (s.bit F.EMN_POS_VALID && !s.passThrough) →
      ¬ (has = true ∧ fieldBE b 2 1 = s.get F.EMN_POS_POS) →
      q = (if has = true ∧ fieldBE b 2 1 ≠ 0xFF then (if s.get F.EMN_POS_POS < fieldBE b 2 1 then 1 else 0) else 1 - p.val) →
      h = (⟨fieldBE b 2 1, fieldBE b 3 1, slice b 6 (fieldBE b 4 2), if has = true ∧ fieldBE b 2 1 = 0xFF then none else some p.val⟩ : HeldEvt) →
      fieldBE b 0 1 = 2 →
      take = (has && decide (fieldBE b 2 1 = 0xFF)) →
      (s.emnPort q).credit < (((s.emnPort q).held ++ [h]).map fun x => x.payload.headD 0).headD 0 →
      ∃ t, exec (.emnDataFrameRx p tm frame) s = .next t
        ∧ (∀ key, t.emnPort key = if key = q then { (if key = p.val then ({ s.emnPort p.val with lastValid := max s.now tm }).accepts (s.get F.EMN_POS_POS) else s.emnPort key) with held := (s.emnPort q).held ++ [h] } else (if key = p.val then ({ s.emnPort p.val with lastValid := max s.now tm }).accepts (s.get F.EMN_POS_POS) else s.emnPort key))
        ∧ t.emn = { s.emn with inbox := if take = true then s.emn.inbox ++ [⟨p.val, fieldBE b 0 1, fieldBE b 3 1, slice b 6 (fieldBE b 4 2)⟩] else s.emn.inbox }
        ∧ t = { s with emn := t.emn, now := max s.now tm, emnPorts := t.emnPorts }) ∧
  (∀ (p : Fin 2) (tm : Nat) (frame : List (BitVec 8)) (b : List Nat) (s : State),
      s.emnUp = true →
      s.linked p.val = true →
      b = frame.map BitVec.toNat →
      fieldBE b 4 2 ≤ 1024 →
      b.length = 10 + fieldBE b 4 2 →
      fieldBE b (b.length - 4) 4 = (crc32c (b.take (b.length - 4))).toNat →
      fieldBE b 1 1 ≠ (s.emnPort p.val).seqIn →
      ∃ t, exec (.emnDataFrameRx p tm frame) s = .next t
        ∧ (t.emnPort p.val = if ((s.emnPort p.val).seqIn + 256 - fieldBE b 1 1) % 256 ≤ 128 then ({ s.emnPort p.val with lastValid := max s.now tm }).says (.urgent 6 (s.get F.EMN_POS_POS) 0 [fieldBE b 1 1, 0, 0, 0, 0, 0, 0]) else { s.emnPort p.val with lastValid := max s.now tm })
        ∧ (∀ key, key ∉ ([p.val] : List Nat) → t.emnPort key = s.emnPort key)
        ∧ t = { s with now := max s.now tm, emnPorts := t.emnPorts }) ∧
  (∀ (p : Fin 2) (tm : Nat) (frame : List (BitVec 8)) (b : List Nat) (s : State),
      s.emnUp = true →
      s.linked p.val = true →
      b = frame.map BitVec.toNat →
      ¬ (fieldBE b 4 2 ≤ 1024 ∧ b.length = 10 + fieldBE b 4 2 ∧ fieldBE b (b.length - 4) 4 = (crc32c (b.take (b.length - 4))).toNat) →
      ∃ t, exec (.emnDataFrameRx p tm frame) s = .next t
        ∧ t.rdN (R.EMN_P_CRC_ERR p.val) = min 0xFFFFFFFF (s.rdN (R.EMN_P_CRC_ERR p.val) + 1)
        ∧ t.rd (R.EMN_P_STAT p.val) = setBitsOf (s.rd (R.EMN_P_STAT p.val)) (F.EMN_P_STAT_CRC p.val).hi (F.EMN_P_STAT_CRC p.val).lo 1
        ∧ t.isPending (770 + p.val) = true
        ∧ t.emnPort p.val = { s.emnPort p.val with lastValid := max s.now tm }
        ∧ (∀ key, key ∉ ([p.val] : List Nat) → t.emnPort key = s.emnPort key)
        ∧ t = { s with regs := t.regs, irq := t.irq, now := max s.now tm, emnPorts := t.emnPorts }
        ∧ (∀ adr, adr ∉ (R.EMN_P_CRC_ERR p.val :: R.EMN_P_STAT p.val :: coalesced : List Nat) → t.rd adr = s.rd adr)
        ∧ (∀ num dr, num ∉ ([770 + p.val] : List Nat) → t.slot num dr = s.slot num dr)) ∧
  (∀ (p : Fin 2) (tm : Nat) (frame : List (BitVec 8)) (s : State),
      (s.emnUp = false ∨ s.linked p.val = false) →
      ∃ t, exec (.emnDataFrameRx p tm frame) s = .next t
        ∧ t = s) ∧
  (∀ (p : Fin 2) (u : UrgentRx) (seq : BitVec 8) (turn : BitVec 24) (count : BitVec 16) (ty : Nat) (pl : List Nat) (i : Instr) (tm : Nat) (s : State),
      (ty, pl, i) ∈ ([(4, [seq.toNat, 0, 0, 0, 0, 0, 0], .emnDreqRx p u seq), (5, seq.toNat :: bytesBE 3 turn.toNat ++ [0, 0, 0], .emnDrspRx p u seq turn), (6, [seq.toNat, 0, 0, 0, 0, 0, 0], .emnAckRx p u seq), (7, bytesBE 2 count.toNat ++ [0, 0, 0, 0, 0], .emnCreditRx p u count), (2, [seq.toNat, 0, 0, 0, 0, 0, 0], .emnSyncRx p u seq), (3, [seq.toNat, 0, 0, 0, 0, 0, 0], .emnSnapRx p u seq)] : List (Nat × List Nat × Instr)) →
      tm = u.t8 / 8 →
      s.emnUp = true →
      s.linked p.val = true →
      u.crc ≠ crc32c ((ty * 16 + u.origin.val) :: bytesBE 3 u.age.toNat ++ pl) →
      ∃ t, exec i s = .next t
        ∧ t.rdN (R.EMN_P_CRC_ERR p.val) = min 0xFFFFFFFF (s.rdN (R.EMN_P_CRC_ERR p.val) + 1)
        ∧ t.rd (R.EMN_P_STAT p.val) = setBitsOf (s.rd (R.EMN_P_STAT p.val)) (F.EMN_P_STAT_CRC p.val).hi (F.EMN_P_STAT_CRC p.val).lo 1
        ∧ t.isPending (770 + p.val) = true
        ∧ t.emnPort p.val = { s.emnPort p.val with lastValid := max s.now tm }
        ∧ (∀ key, key ∉ ([p.val] : List Nat) → t.emnPort key = s.emnPort key)
        ∧ t = { s with regs := t.regs, irq := t.irq, now := max s.now tm, emnPorts := t.emnPorts }
        ∧ (∀ adr, adr ∉ (R.EMN_P_CRC_ERR p.val :: R.EMN_P_STAT p.val :: coalesced : List Nat) → t.rd adr = s.rd adr)
        ∧ (∀ num dr, num ∉ ([770 + p.val] : List Nat) → t.slot num dr = s.slot num dr)) ∧
  (∀ (p : Fin 2) (u : UrgentRx) (seq : BitVec 8) (turn : BitVec 24) (count : BitVec 16) (ty : Nat) (pl : List Nat) (i : Instr) (s : State),
      (ty, pl, i) ∈ ([(4, [seq.toNat, 0, 0, 0, 0, 0, 0], .emnDreqRx p u seq), (5, seq.toNat :: bytesBE 3 turn.toNat ++ [0, 0, 0], .emnDrspRx p u seq turn), (6, [seq.toNat, 0, 0, 0, 0, 0, 0], .emnAckRx p u seq), (7, bytesBE 2 count.toNat ++ [0, 0, 0, 0, 0], .emnCreditRx p u count), (2, [seq.toNat, 0, 0, 0, 0, 0, 0], .emnSyncRx p u seq), (3, [seq.toNat, 0, 0, 0, 0, 0, 0], .emnSnapRx p u seq)] : List (Nat × List Nat × Instr)) →
      (s.emnUp = false ∨ s.linked p.val = false) →
      ∃ t, exec i s = .next t
        ∧ t = s) ∧
  (∀ (p : Fin 2) (u : UrgentRx) (seq : BitVec 8) (tm : Nat) (s : State),
      tm = u.t8 / 8 →
      s.emnUp = true →
      s.linked p.val = true →
      u.crc = crc32c ((4 * 16 + u.origin.val) :: bytesBE 3 u.age.toNat ++ [seq.toNat, 0, 0, 0, 0, 0, 0]) →
      ∃ t, exec (.emnDreqRx p u seq) s = .next t
        ∧ t.emnPort p.val = ({ s.emnPort p.val with lastValid := max s.now tm }).says (.urgent 5 (s.get F.EMN_POS_POS) 0 (seq.toNat :: bytesBE 3 u.hold8 ++ [0, 0, 0]))
        ∧ (∀ key, key ∉ ([p.val] : List Nat) → t.emnPort key = s.emnPort key)
        ∧ t = { s with now := max s.now tm, emnPorts := t.emnPorts }) ∧
  (∀ (p : Fin 2) (u : UrgentRx) (seq : BitVec 8) (turn : BitVec 24) (tm t1 : Nat) (d : Int) (s : State),
      tm = u.t8 / 8 →
      s.emnUp = true →
      s.linked p.val = true →
      u.crc = crc32c ((5 * 16 + u.origin.val) :: bytesBE 3 u.age.toNat ++ (seq.toNat :: bytesBE 3 turn.toNat ++ [0, 0, 0])) →
      (s.emnPort p.val).dreq = some (seq.toNat, t1) →
      d = Int.tdiv ((u.t8 : Int) - t1 - turn.toNat) 2 →
      0 ≤ d →
      d < 4096 →
      ∃ t, exec (.emnDrspRx p u seq turn) s = .next t
        ∧ t.rd (R.EMN_P_DELAY p.val) = setBitsOf (setBitsOf (s.rd (R.EMN_P_DELAY p.val)) (F.EMN_P_DELAY_D p.val).hi (F.EMN_P_DELAY_D p.val).lo d.toNat) (F.EMN_P_DELAY_VALID p.val).hi (F.EMN_P_DELAY_VALID p.val).lo (if d ≤ 640 then 1 else 0)
        ∧ (640 < d → t.isPending (770 + p.val) = true)
        ∧ (d ≤ 640 → t.irq = s.irq)
        ∧ t.emnPort p.val = { s.emnPort p.val with lastValid := max s.now tm, dreq := none }
        ∧ (∀ key, key ∉ ([p.val] : List Nat) → t.emnPort key = s.emnPort key)
        ∧ t = { s with regs := t.regs, irq := t.irq, now := max s.now tm, emnPorts := t.emnPorts }
        ∧ (∀ adr, adr ∉ (R.EMN_P_DELAY p.val :: coalesced : List Nat) → t.rd adr = s.rd adr)
        ∧ (∀ num dr, num ∉ ([770 + p.val] : List Nat) → t.slot num dr = s.slot num dr)) ∧
  (∀ (p : Fin 2) (u : UrgentRx) (seq : BitVec 8) (turn : BitVec 24) (tm t1 : Nat) (d : Int) (s : State),
      tm = u.t8 / 8 →
      s.emnUp = true →
      s.linked p.val = true →
      u.crc = crc32c ((5 * 16 + u.origin.val) :: bytesBE 3 u.age.toNat ++ (seq.toNat :: bytesBE 3 turn.toNat ++ [0, 0, 0])) →
      (s.emnPort p.val).dreq = some (seq.toNat, t1) →
      d = Int.tdiv ((u.t8 : Int) - t1 - turn.toNat) 2 →
      (d < 0 ∨ 4096 ≤ d) →
      ∃ t, exec (.emnDrspRx p u seq turn) s = .next t
        ∧ t.get (F.EMN_P_DELAY_D p.val) = s.fresh % 4096
        ∧ t.bit (F.EMN_P_DELAY_VALID p.val) = decide (d < 0 ∧ s.fresh % 4096 ≤ 640)
        ∧ (t.bit (F.EMN_P_DELAY_VALID p.val) = false → t.isPending (770 + p.val) = true)
        ∧ (t.bit (F.EMN_P_DELAY_VALID p.val) = true → t.irq = s.irq)
        ∧ t.free = s.free + 1
        ∧ t.emnPort p.val = { s.emnPort p.val with lastValid := max s.now tm, dreq := none }
        ∧ (∀ key, key ∉ ([p.val] : List Nat) → t.emnPort key = s.emnPort key)
        ∧ t = { s with regs := t.regs, irq := t.irq, free := t.free, now := max s.now tm, emnPorts := t.emnPorts }
        ∧ (∀ adr, adr ∉ (R.EMN_P_DELAY p.val :: coalesced : List Nat) → t.rd adr = s.rd adr)
        ∧ (∀ num dr, num ∉ ([770 + p.val] : List Nat) → t.slot num dr = s.slot num dr)) ∧
  (∀ (p : Fin 2) (u : UrgentRx) (seq : BitVec 8) (turn : BitVec 24) (tm : Nat) (s : State),
      tm = u.t8 / 8 →
      s.emnUp = true →
      s.linked p.val = true →
      u.crc = crc32c ((5 * 16 + u.origin.val) :: bytesBE 3 u.age.toNat ++ (seq.toNat :: bytesBE 3 turn.toNat ++ [0, 0, 0])) →
      ((s.emnPort p.val).dreq.map fun q => q.1) ≠ some seq.toNat →
      ∃ t, exec (.emnDrspRx p u seq turn) s = .next t
        ∧ t.emnPort p.val = { s.emnPort p.val with lastValid := max s.now tm }
        ∧ (∀ key, key ∉ ([p.val] : List Nat) → t.emnPort key = s.emnPort key)
        ∧ t = { s with now := max s.now tm, emnPorts := t.emnPorts }) ∧
  (∀ (p : Fin 2) (u : UrgentRx) (seq : BitVec 8) (tm room : Nat) (k : EmnPort) (s : State),
      tm = u.t8 / 8 →
      s.emnUp = true →
      s.linked p.val = true →
      u.crc = crc32c ((6 * 16 + u.origin.val) :: bytesBE 3 u.age.toNat ++ [seq.toNat, 0, 0, 0, 0, 0, 0]) →
      k = s.emnPort p.val →
      (k.window.any fun f => f.1 == seq.toNat) = true →
      room = 8 - ((k.window.dropWhile fun f => f.1 != seq.toNat).tail).length →
      ∃ t, exec (.emnAckRx p u seq) s = .next t
        ∧ (t.emnPort p.val).window = (k.window.dropWhile fun f => f.1 != seq.toNat).tail ++ (k.backlog.take room).zipIdx.map (fun x => ((k.seqOut + x.2) % 256, x.1))
        ∧ (t.emnPort p.val).sent = ((k.backlog.take room).zipIdx.map (fun x => frameChars x.1 ((k.seqOut + x.2) % 256))).reverse ++ k.sent
        ∧ t.emnPort p.val = { k with window := (t.emnPort p.val).window, sent := (t.emnPort p.val).sent, backlog := k.backlog.drop room, seqOut := (k.seqOut + (k.backlog.take room).length) % 256, sentAt := max s.now tm, ackAt := max s.now tm, lastValid := max s.now tm }
        ∧ (∀ key, key ∉ ([p.val] : List Nat) → t.emnPort key = s.emnPort key)
        ∧ t = { s with now := max s.now tm, emnPorts := t.emnPorts }) ∧
  (∀ (p : Fin 2) (u : UrgentRx) (seq : BitVec 8) (tm room : Nat) (k : EmnPort) (s : State),
      tm = u.t8 / 8 →
      s.emnUp = true →
      s.linked p.val = true →
      u.crc = crc32c ((6 * 16 + u.origin.val) :: bytesBE 3 u.age.toNat ++ [seq.toNat, 0, 0, 0, 0, 0, 0]) →
      k = s.emnPort p.val →
      (k.window.any fun f => f.1 == seq.toNat) = false →
      ∃ t, exec (.emnAckRx p u seq) s = .next t
        ∧ t.emnPort p.val = { s.emnPort p.val with lastValid := max s.now tm }
        ∧ (∀ key, key ∉ ([p.val] : List Nat) → t.emnPort key = s.emnPort key)
        ∧ t = { s with now := max s.now tm, emnPorts := t.emnPorts }) ∧
  (∀ (p : Fin 2) (u : UrgentRx) (count : BitVec 16) (tm c : Nat) (k : EmnPort) (s : State),
      tm = u.t8 / 8 →
      s.emnUp = true →
      s.linked p.val = true →
      u.crc = crc32c ((7 * 16 + u.origin.val) :: bytesBE 3 u.age.toNat ++ (bytesBE 2 count.toNat ++ [0, 0, 0, 0, 0])) →
      k = s.emnPort p.val →
      c = min 256 (k.credit + count.toNat) →
      (k.held = [] ∨ c < (k.held.map fun x => x.payload.headD 0).headD 0) →
      ∃ t, exec (.emnCreditRx p u count) s = .next t
        ∧ t.emnPort p.val = { k with lastValid := max s.now tm, credit := c }
        ∧ (∀ key, key ∉ ([p.val] : List Nat) → t.emnPort key = s.emnPort key)
        ∧ t = { s with now := max s.now tm, emnPorts := t.emnPorts }) ∧
  (∀ (p : Fin 2) (u : UrgentRx) (count : BitVec 16) (tm c : Nat) (k : EmnPort) (h : HeldEvt) (r : List HeldEvt) (n : Nat) (s : State),
      tm = u.t8 / 8 →
      s.emnUp = true →
      s.linked p.val = true →
      u.crc = crc32c ((7 * 16 + u.origin.val) :: bytesBE 3 u.age.toNat ++ (bytesBE 2 count.toNat ++ [0, 0, 0, 0, 0])) →
      k = s.emnPort p.val →
      c = min 256 (k.credit + count.toNat) →
      k.held = h :: r →
      n = h.payload.headD 0 →
      n ≤ c →
      (r = [] ∨ c - n < (r.map fun x => x.payload.headD 0).headD 0) →
      ∃ t, exec (.emnCreditRx p u count) s = .next t
        ∧ (h.from_ ≠ some p.val → t.emnPort p.val = { k with lastValid := max s.now tm, credit := c - n, held := r }.gets (.data 2 h.dst h.src h.payload) (max s.now tm))
        ∧ (h.from_ = some p.val → t.emnPort p.val = ({ k with lastValid := max s.now tm, credit := c - n, held := r }.gets (.data 2 h.dst h.src h.payload) (max s.now tm)).says (.urgent 7 (s.get F.EMN_POS_POS) 0 (bytesBE 2 n ++ [0, 0, 0, 0, 0])))
        ∧ (∀ key, key ≠ p.val → t.emnPort key = if h.from_ = some key then (s.emnPort key).says (.urgent 7 (s.get F.EMN_POS_POS) 0 (bytesBE 2 n ++ [0, 0, 0, 0, 0])) else s.emnPort key)
        ∧ t = { s with now := max s.now tm, emnPorts := t.emnPorts }) ∧
  (∀ (p : Fin 2) (tm : Nat) (s : State),
      s.linked p.val = true →
      (s.emnPort p.val).sentAt + 8000 ≤ max s.now tm →
      (s.emnPort p.val).window ≠ [] →
      ∃ t, exec (.emnAckTimeout p tm) s = .next t
        ∧ t.emnPort p.val = { s.emnPort p.val with sentAt := max s.now tm, sent := ((s.emnPort p.val).window.map fun f => frameChars f.2 f.1).reverse ++ (s.emnPort p.val).sent }
        ∧ (∀ key, key ∉ ([p.val] : List Nat) → t.emnPort key = s.emnPort key)
        ∧ t.rdN (R.EMN_P_REPLAYS p.val) = min 0xFFFFFFFF (s.rdN (R.EMN_P_REPLAYS p.val) + 1)
        ∧ t.isPending (770 + p.val) = true
        ∧ t = { s with regs := t.regs, irq := t.irq, now := max s.now tm, emnPorts := t.emnPorts }
        ∧ (∀ adr, adr ∉ (R.EMN_P_REPLAYS p.val :: coalesced : List Nat) → t.rd adr = s.rd adr)
        ∧ (∀ num dr, num ∉ ([770 + p.val] : List Nat) → t.slot num dr = s.slot num dr)) ∧
  (∀ (p : Fin 2) (tm : Nat) (s : State),
      (s.linked p.val = false ∨ max s.now tm < (s.emnPort p.val).sentAt + 8000 ∨ (s.emnPort p.val).window = []) →
      ∃ t, exec (.emnAckTimeout p tm) s = .next t
        ∧ t = { s with now := max s.now tm }) ∧
  (∀ (p : Fin 2) (tm : Nat) (s : State),
      s.linked p.val = true →
      (s.emnPort p.val).lastValid + 1600 ≤ max s.now tm →
      ∃ t, exec (.emnIdleTimeout p tm) s = .next t
        ∧ t.rd (R.EMN_P_STAT p.val) = setBitsOf (setBitsOf (s.rd (R.EMN_P_STAT p.val)) (F.EMN_P_STAT_STATE p.val).hi (F.EMN_P_STAT_STATE p.val).lo E.training) (F.EMN_P_STAT_LINK_CHG p.val).hi (F.EMN_P_STAT_LINK_CHG p.val).lo 1
        ∧ t.rdN (R.EMN_P_RETRAINS p.val) = min 0xFFFFFFFF (s.rdN (R.EMN_P_RETRAINS p.val) + 1)
        ∧ t.isPending (768 + p.val) = true
        ∧ t.emnPort p.val = { s.emnPort p.val with trains := 0, new := false, dreq := none }.says (.urgent 8 (s.get F.EMN_POS_POS) 0 [p.val, 0, 0, 0, 0, 0, 0])
        ∧ (∀ key, key ∉ ([p.val] : List Nat) → t.emnPort key = s.emnPort key)
        ∧ t = { s with regs := t.regs, irq := t.irq, now := max s.now tm, emnPorts := t.emnPorts }
        ∧ (∀ adr, adr ∉ (R.EMN_P_STAT p.val :: R.EMN_P_RETRAINS p.val :: coalesced : List Nat) → t.rd adr = s.rd adr)
        ∧ (∀ num dr, num ∉ ([768 + p.val] : List Nat) → t.slot num dr = s.slot num dr)) ∧
  (∀ (p : Fin 2) (tm : Nat) (s : State),
      (s.linked p.val = false ∨ max s.now tm < (s.emnPort p.val).lastValid + 1600) →
      ∃ t, exec (.emnIdleTimeout p tm) s = .next t
        ∧ t = { s with now := max s.now tm }) ∧
  (∀ (p : Fin 2) (u : UrgentRx) (port : BitVec 8) (tm : Nat) (s : State),
      tm = u.t8 / 8 →
      s.emnUp = true →
      u.crc = crc32c ((8 * 16 + u.origin.val) :: bytesBE 3 u.age.toNat ++ [port.toNat, 0, 0, 0, 0, 0, 0]) →
      s.linked p.val = false →
      port.toNat = 1 - p.val →
      (s.emnPort p.val).trains < 127 →
      ∃ t, exec (.emnTrainRx p u port) s = .next t
        ∧ t.rd (R.EMN_P_STAT p.val) = setBitsOf (s.rd (R.EMN_P_STAT p.val)) (F.EMN_P_STAT_STATE p.val).hi (F.EMN_P_STAT_STATE p.val).lo E.training
        ∧ t.emnPort p.val = { s.emnPort p.val with trains := (s.emnPort p.val).trains + 1, lastValid := max s.now tm }.says (.urgent 8 (s.get F.EMN_POS_POS) 0 [p.val, 0, 0, 0, 0, 0, 0])
        ∧ (∀ key, key ∉ ([p.val] : List Nat) → t.emnPort key = s.emnPort key)
        ∧ t = { s with regs := t.regs, now := max s.now tm, emnPorts := t.emnPorts }
        ∧ (∀ adr, adr ∉ ([R.EMN_P_STAT p.val] : List Nat) → t.rd adr = s.rd adr)) ∧
  (∀ (p : Fin 2) (u : UrgentRx) (port : BitVec 8) (tm : Nat) (s : State),
      tm = u.t8 / 8 →
      s.emnUp = true →
      u.crc = crc32c ((8 * 16 + u.origin.val) :: bytesBE 3 u.age.toNat ++ [port.toNat, 0, 0, 0, 0, 0, 0]) →
      s.linked p.val = false →
      port.toNat = 1 - p.val →
      127 ≤ (s.emnPort p.val).trains →
      ∃ t, exec (.emnTrainRx p u port) s = .next t
        ∧ t.rd (R.EMN_P_STAT p.val) = setBitsOf (setBitsOf (s.rd (R.EMN_P_STAT p.val)) (F.EMN_P_STAT_STATE p.val).hi (F.EMN_P_STAT_STATE p.val).lo E.linked) (F.EMN_P_STAT_LINK_CHG p.val).hi (F.EMN_P_STAT_LINK_CHG p.val).lo 1
        ∧ t.isPending (768 + p.val) = true
        ∧ t.emnPort p.val = { s.emnPort p.val with trains := 0, new := true, lastValid := max s.now tm }
        ∧ (∀ key, key ∉ ([p.val] : List Nat) → t.emnPort key = s.emnPort key)
        ∧ t = { s with regs := t.regs, irq := t.irq, now := max s.now tm, emnPorts := t.emnPorts }
        ∧ (∀ adr, adr ∉ (R.EMN_P_STAT p.val :: coalesced : List Nat) → t.rd adr = s.rd adr)
        ∧ (∀ num dr, num ∉ ([768 + p.val] : List Nat) → t.slot num dr = s.slot num dr)) ∧
  (∀ (p : Fin 2) (u : UrgentRx) (port : BitVec 8) (tm : Nat) (s : State),
      tm = u.t8 / 8 →
      s.emnUp = true →
      u.crc = crc32c ((8 * 16 + u.origin.val) :: bytesBE 3 u.age.toNat ++ [port.toNat, 0, 0, 0, 0, 0, 0]) →
      (s.linked p.val = true ∨ port.toNat ≠ 1 - p.val) →
      ∃ t, exec (.emnTrainRx p u port) s = .next t
        ∧ t.emnPort p.val = { s.emnPort p.val with lastValid := max s.now tm }
        ∧ (∀ key, key ∉ ([p.val] : List Nat) → t.emnPort key = s.emnPort key)
        ∧ t = { s with now := max s.now tm, emnPorts := t.emnPorts }) ∧
  (∀ (p : Fin 2) (u : UrgentRx) (port : BitVec 8) (tm : Nat) (s : State),
      tm = u.t8 / 8 →
      s.emnUp = true →
      u.crc ≠ crc32c ((8 * 16 + u.origin.val) :: bytesBE 3 u.age.toNat ++ [port.toNat, 0, 0, 0, 0, 0, 0]) →
      ∃ t, exec (.emnTrainRx p u port) s = .next t
        ∧ t.rdN (R.EMN_P_CRC_ERR p.val) = min 0xFFFFFFFF (s.rdN (R.EMN_P_CRC_ERR p.val) + 1)
        ∧ t.rd (R.EMN_P_STAT p.val) = setBitsOf (s.rd (R.EMN_P_STAT p.val)) (F.EMN_P_STAT_CRC p.val).hi (F.EMN_P_STAT_CRC p.val).lo 1
        ∧ t.isPending (770 + p.val) = true
        ∧ t.emnPort p.val = { s.emnPort p.val with lastValid := max s.now tm }
        ∧ (∀ key, key ∉ ([p.val] : List Nat) → t.emnPort key = s.emnPort key)
        ∧ t = { s with regs := t.regs, irq := t.irq, now := max s.now tm, emnPorts := t.emnPorts }
        ∧ (∀ adr, adr ∉ (R.EMN_P_CRC_ERR p.val :: R.EMN_P_STAT p.val :: coalesced : List Nat) → t.rd adr = s.rd adr)
        ∧ (∀ num dr, num ∉ ([770 + p.val] : List Nat) → t.slot num dr = s.slot num dr)) ∧
  (∀ (p : Fin 2) (u : UrgentRx) (port : BitVec 8) (s : State),
      s.emnUp = false →
      ∃ t, exec (.emnTrainRx p u port) s = .next t
        ∧ t = s) ∧
  (∀ (p : Fin 2) (t8 tm : Nat) (s : State),
      tm = t8 / 8 →
      s.linked p.val = true →
      (s.emnPort p.val).new = true →
      ∃ t, exec (.emnPortLinked p t8) s = .next t
        ∧ (t.emnPort p.val = if p.val = 1 ∧ s.bit F.EMN_POS_VALID = true then (({ s.emnPort p.val with new := false }.asks (s.get F.EMN_POS_POS) t8).resends (max s.now tm)).gets (.data 3 0xFF (s.get F.EMN_POS_POS) [s.get F.EMN_POS_POS + 1]) (max s.now tm) else ({ s.emnPort p.val with new := false }.asks (s.get F.EMN_POS_POS) t8).resends (max s.now tm))
        ∧ (∀ key, key ∉ ([p.val] : List Nat) → t.emnPort key = s.emnPort key)
        ∧ t.emn = { s.emn with enumAt := if p.val = 1 ∧ s.bit F.EMN_POS_VALID = true then none else s.emn.enumAt }
        ∧ ((s.emnPort p.val).window ≠ [] → t.rdN (R.EMN_P_REPLAYS p.val) = min 0xFFFFFFFF (s.rdN (R.EMN_P_REPLAYS p.val) + 1) ∧ t.isPending (770 + p.val) = true)
        ∧ ((s.emnPort p.val).window = [] → t.regs = s.regs ∧ t.irq = s.irq)
        ∧ t = { s with regs := t.regs, irq := t.irq, emn := t.emn, now := max s.now tm, emnPorts := t.emnPorts }
        ∧ (∀ adr, adr ∉ (R.EMN_P_REPLAYS p.val :: coalesced : List Nat) → t.rd adr = s.rd adr)
        ∧ (∀ num dr, num ∉ ([770 + p.val] : List Nat) → t.slot num dr = s.slot num dr)) ∧
  (∀ (p : Fin 2) (t8 tm : Nat) (s : State),
      tm = t8 / 8 →
      (s.linked p.val = false ∨ (s.emnPort p.val).new = false) →
      ∃ t, exec (.emnPortLinked p t8) s = .next t
        ∧ t = { s with now := max s.now tm }) ∧
  (∀ (p : Fin 2) (t8 tm : Nat) (s : State),
      tm = t8 / 8 →
      s.linked p.val = true →
      ∃ t, exec (.emnDelayMeasure p t8) s = .next t
        ∧ t.emnPort p.val = (s.emnPort p.val).asks (s.get F.EMN_POS_POS) t8
        ∧ (∀ key, key ∉ ([p.val] : List Nat) → t.emnPort key = s.emnPort key)
        ∧ t = { s with now := max s.now tm, emnPorts := t.emnPorts }) ∧
  (∀ (p : Fin 2) (t8 tm : Nat) (s : State),
      tm = t8 / 8 →
      s.linked p.val = false →
      ∃ t, exec (.emnDelayMeasure p t8) s = .next t
        ∧ t = { s with now := max s.now tm })

/-- Angles, triggers, numbering, events and firmware frames of the chain (parts of R42, R47, R63, R72, R263, R284, R285, R286, R288, R289, R290, R292, R296, R468, R487, R562). Port p is 0 for UP and 1 for DN, POS the register's position, tm the later of the moment given and wheel time; "acts" means a device with a position outside VERIFY, LOAD, FALLBACK and QUARANTINE; the origin instant tk is the arrival less D of the port and AGE. A frame that is repeated leaves on the other port with AGE + D + hold time. SYNC acting means: domain T, if armed with RUN = 1, starts; the capture unit, if its SYNC source is enabled, takes wheel time with SRC 4 (source 719); every PWM generator restarts. What a clause does not name stays. (1) EMN_ANGLE_RX on UP of a device that acts, for a domain whose tracker has source CHAIN, with VALID = 1 and another ANGLE and REV than the last frame taken: the frame is repeated, and the tracker takes an edge at tk: its angle is ANGLE + ZERO with the REV nearest its own, its direction (once valid) the sign of the change. (2) With VALID = 0, or repeating the last frame taken: the frame is repeated, the tracker's source is not silent, and no edge is taken. (3) Otherwise, where the device does not act, the frame came on DN, its domain is neither A nor B or the tracker has another source: it is repeated only. (4) With a wrong CRC it is discarded, not repeated, and counted: CRC of STAT is set, source 770 + p raised; on a port not linked, or with the unit not up, nothing happens. (5) EMN_SYNC_RX or EMN_SNAP_RX in a device that acts, its apply instant tk + BUDGET not passed: the frame is repeated and the trigger waits for that instant. (6) In a device that does not act, the frame is repeated only. (7) A SYNC whose apply instant has passed acts at once, with TRIG_LATE one up and source 773. (8) A SNAP likewise: where no snapshot is held unread, nor one was taken in this SPINE cycle, the shadows are latched with SRC 2 and source 908. (9) EMN_ANGLE_SEND with PERIOD in 400-40,000, in a device whose DN is linked, outside RESET and the modes that pass frames through: an ANGLE frame of each enabled domain, A before B, leaves on DN with that domain's flags, ANGLE and REV at that moment; its AGE is free. (10) Otherwise none is sent. (11) TRIGGER_APPLY with a SYNC due: it acts; the triggers that are not due keep waiting. (12) With a SNAP due: it acts with its SRC (the latch as in clause 8). (13) With none due: nothing. (14) SYNC_GO with SYNC_FWD = 0 (or TRIG_CFG holding a value it may not have): SYNC acts at once. (15) With SYNC_FWD = 1: SYNC leaves on both ports, its AGE free, and waits for its apply instant, BUDGET later. (16) SYNC_PIN_EDGE between INIT and QUARANTINE with SYNC_FWD = 0: SYNC acts at that edge. (17) With SYNC_FWD = 1: it is sent as in clause 15. (18) In the other modes: nothing. (19) ENUM_RX of an ENUM(n) that came on UP, n below 16, in a device that is not the head and has no position, or this one: POS is n and VALID, source 774; ENUM(n + 1) goes out on a linked DN, or the wait for DN begins. (20) In a head, or with another position: POS stays, POS_CONFLICT is set and source 774 raised. (21) ENUM(16) in a device without a position that is not the head: it takes none, CHAIN_LONG is set, and REPORT CHAIN_LONG goes to position 0 on UP. (22) With no ENUM at the head of the frames to be consumed, or one that came on DN, POS stays. (23) ENUM_TAIL_TIMEOUT 1 ms (400,000 cycles) after a position was taken with DN not linked, which it still is not: TAIL is set and REPORT TAIL with POS goes to position 0 on UP. (24) Otherwise: nothing. (25) EMN_EVT_RX of an EVT frame with n events (16 at most): the inserts, LANE, BIN and EVENT each, enter the FIFO of wheel port 5 in order while it has room and nothing waits there, and wait otherwise; each that enters gives one event of credit back to the port of arrival, each that waits counts in PORT5_BUSY. (26) With no EVT frame at the head of the frames to be consumed: nothing. (27) EMN_FW_RX with a FW frame at the head and a free receive buffer, b the lowest: the buffer takes SRC, type 5, LEN (2 bytes) and the payload, RXQ the buffer, and source 772 is raised. (28) With no FW frame at the head, or no free buffer, it waits. (29) EMN_TXQ of a transmit buffer (8-15) that holds DST, type 5, LEN and the payload: a FW frame goes out on DN where DST is above POS, on UP where it is below, on both for 0xFF, and is consumed here where it is POS. (30) Of type 2: an EVT frame of n events likewise, on each port where none waits: sent against n events of credit where these are there, and held otherwise. (31) Of a receive buffer (0-7) or another type: PARAM, and nothing is sent. (32) EMN_RX_DONE frees the receive buffer. Readings and choices of the model that it rests on: log entries 6, 22, 63, 65, 67, 68, 162. -/
def Obligations.ChainFramesAct : Prop :=
  (∀ (p : Fin 2) (u : UrgentRx) (flags : BitVec 8) (angle : BitVec 24) (rev : BitVec 24) (tm x : Nat) (th own : Int) (s : State),
      tm = u.t8 / 8 →
      s.emnUp = true →
      s.linked p.val = true →
      u.crc = crc32c ((1 * 16 + u.origin.val) :: bytesBE 3 u.age.toNat ++ (flags.toNat :: bytesBE 3 angle.toNat ++ bytesBE 3 rev.toNat)) →
      s.bit F.EMN_POS_VALID = true →
      s.passThrough = false →
      p.val = 0 →
      flags.toNat / 64 = x + 1 →
      x < 2 →
      s.shSource x = 3 →
      flags.getLsbD 5 = true →
      (s.tracker x).lastFrame ≠ some (angle.toNat, rev.toNat) →
      own = Int.fdiv (s.shaftPos x (max s.now tm)) 16777216 →
      (th - angle.toNat - s.get (F.WHEEL_SH_ZERO_ZERO x)) % 16777216 = 0 →
      (Int.fdiv (th - angle.toNat - s.get (F.WHEEL_SH_ZERO_ZERO x)) 16777216 - rev.toNat) % 16777216 = 0 →
      -8388608 ≤ Int.fdiv (th - angle.toNat - s.get (F.WHEEL_SH_ZERO_ZERO x)) 16777216 - own →
      Int.fdiv (th - angle.toNat - s.get (F.WHEEL_SH_ZERO_ZERO x)) 16777216 - own < 8388608 →
      ∃ t, exec (.emnAngleRx p u flags angle rev) s = .next t
        ∧ (t.tracker x).valid = true
        ∧ (t.tracker x).stalled = false
        ∧ (t.tracker x).theta = th
        ∧ (t.tracker x).tk = (Int.fdiv ((u.t8 : Int) - s.get (F.EMN_P_DELAY_D 0) - u.age.toNat) 8).toNat
        ∧ (t.tracker x).reverse = ((s.tracker x).valid && decide (th < (s.tracker x).theta))
        ∧ (t.tracker x).lastFrame = some (angle.toNat, rev.toNat)
        ∧ (t.tracker x).heardAt = some (max s.now tm)
        ∧ (t.tracker x).silent = false
        ∧ (t.dom x).edges = (s.dom x).edges + 1
        ∧ t.emnPort p.val = { s.emnPort p.val with lastValid := max s.now tm }
        ∧ t.emnPort (1 - p.val) = (s.emnPort (1 - p.val)).says (.urgent 1 u.origin.val ((u.age.toNat + s.get (F.EMN_P_DELAY_D p.val) + u.hold8) % 2 ^ 24) (flags.toNat :: bytesBE 3 angle.toNat ++ bytesBE 3 rev.toNat))
        ∧ (∀ key, key ∉ ([0, 1] : List Nat) → t.emnPort key = s.emnPort key)
        ∧ t.now = max s.now tm
        ∧ t = { s with regs := t.regs, irq := t.irq, now := t.now, free := t.free, emnPorts := t.emnPorts, trackers := t.trackers, doms := t.doms }
        ∧ (∀ adr, adr ∉ (R.WHEEL_SH_STAT x :: coalesced : List Nat) → t.rd adr = s.rd adr)
        ∧ (∀ key, key ∉ ([x] : List Nat) → t.tracker key = s.tracker key)
        ∧ (∀ key, key ∉ ([x] : List Nat) → t.dom key = s.dom key)
        ∧ (∀ num dr, num ∉ ([672 + 2 * x, 673 + 2 * x] : List Nat) → t.slot num dr = s.slot num dr)) ∧
  (∀ (p : Fin 2) (u : UrgentRx) (flags : BitVec 8) (angle : BitVec 24) (rev : BitVec 24) (tm x : Nat) (s : State),
      tm = u.t8 / 8 →
      s.emnUp = true →
      s.linked p.val = true →
      u.crc = crc32c ((1 * 16 + u.origin.val) :: bytesBE 3 u.age.toNat ++ (flags.toNat :: bytesBE 3 angle.toNat ++ bytesBE 3 rev.toNat)) →
      s.bit F.EMN_POS_VALID = true →
      s.passThrough = false →
      p.val = 0 →
      flags.toNat / 64 = x + 1 →
      x < 2 →
      s.shSource x = 3 →
      (flags.getLsbD 5 = false ∨ (s.tracker x).lastFrame = some (angle.toNat, rev.toNat)) →
      ∃ t, exec (.emnAngleRx p u flags angle rev) s = .next t
        ∧ t.tracker x = { s.tracker x with heardAt := some (max s.now tm), silent := false }
        ∧ t.emnPort p.val = { s.emnPort p.val with lastValid := max s.now tm }
        ∧ t.emnPort (1 - p.val) = (s.emnPort (1 - p.val)).says (.urgent 1 u.origin.val ((u.age.toNat + s.get (F.EMN_P_DELAY_D p.val) + u.hold8) % 2 ^ 24) (flags.toNat :: bytesBE 3 angle.toNat ++ bytesBE 3 rev.toNat))
        ∧ (∀ key, key ∉ ([0, 1] : List Nat) → t.emnPort key = s.emnPort key)
        ∧ t.now = max s.now tm
        ∧ t = { s with now := t.now, emnPorts := t.emnPorts, trackers := t.trackers }
        ∧ (∀ key, key ∉ ([x] : List Nat) → t.tracker key = s.tracker key)) ∧
  (∀ (p : Fin 2) (u : UrgentRx) (flags : BitVec 8) (angle : BitVec 24) (rev : BitVec 24) (tm : Nat) (s : State),
      tm = u.t8 / 8 →
      s.emnUp = true →
      s.linked p.val = true →
      u.crc = crc32c ((1 * 16 + u.origin.val) :: bytesBE 3 u.age.toNat ++ (flags.toNat :: bytesBE 3 angle.toNat ++ bytesBE 3 rev.toNat)) →
      (s.bit F.EMN_POS_VALID = false ∨ s.passThrough = true ∨ p.val = 1 ∨ flags.toNat / 64 = 0 ∨ flags.toNat / 64 = 3 ∨ s.shSource (flags.toNat / 64 - 1) ≠ 3) →
      ∃ t, exec (.emnAngleRx p u flags angle rev) s = .next t
        ∧ t.emnPort p.val = { s.emnPort p.val with lastValid := max s.now tm }
        ∧ t.emnPort (1 - p.val) = (s.emnPort (1 - p.val)).says (.urgent 1 u.origin.val ((u.age.toNat + s.get (F.EMN_P_DELAY_D p.val) + u.hold8) % 2 ^ 24) (flags.toNat :: bytesBE 3 angle.toNat ++ bytesBE 3 rev.toNat))
        ∧ (∀ key, key ∉ ([0, 1] : List Nat) → t.emnPort key = s.emnPort key)
        ∧ t.now = max s.now tm
        ∧ t = { s with now := t.now, emnPorts := t.emnPorts }) ∧
  (∀ (p : Fin 2) (u : UrgentRx) (flags : BitVec 8) (angle : BitVec 24) (rev : BitVec 24) (tm : Nat) (s : State),
      tm = u.t8 / 8 →
      (s.emnUp = true → s.linked p.val = true → u.crc ≠ crc32c ((1 * 16 + u.origin.val) :: bytesBE 3 u.age.toNat ++ (flags.toNat :: bytesBE 3 angle.toNat ++ bytesBE 3 rev.toNat))) →
      ∃ t, exec (.emnAngleRx p u flags angle rev) s = .next t
        ∧ (s.emnUp = false ∨ s.linked p.val = false → t = s)
        ∧ (s.emnUp = true ∧ s.linked p.val = true → t.rdN (R.EMN_P_CRC_ERR p.val) = min 0xFFFFFFFF (s.rdN (R.EMN_P_CRC_ERR p.val) + 1) ∧ t.bit (F.EMN_P_STAT_CRC p.val) = true ∧ t.isPending (770 + p.val) = true ∧ t.emnPort p.val = { s.emnPort p.val with lastValid := max s.now tm } ∧ t.now = max s.now tm)
        ∧ t = { s with regs := t.regs, irq := t.irq, now := t.now, emnPorts := t.emnPorts }
        ∧ (∀ adr, adr ∉ (R.EMN_P_CRC_ERR p.val :: R.EMN_P_STAT p.val :: coalesced : List Nat) → t.rd adr = s.rd adr)
        ∧ (∀ num dr, num ∉ ([770 + p.val] : List Nat) → t.slot num dr = s.slot num dr)
        ∧ (∀ key, key ∉ ([p.val] : List Nat) → t.emnPort key = s.emnPort key)) ∧
  (∀ (p : Fin 2) (u : UrgentRx) (seq : BitVec 8) (tm a : Nat) (ty : Nat) (snap : Bool) (i : Instr) (s : State),
      tm = u.t8 / 8 →
      s.emnUp = true →
      s.linked p.val = true →
      (ty, snap, i) ∈ ([(2, false, .emnSyncRx p u seq), (3, true, .emnSnapRx p u seq)] : List (Nat × Bool × Instr)) →
      u.crc = crc32c ((ty * 16 + u.origin.val) :: bytesBE 3 u.age.toNat ++ [seq.toNat, 0, 0, 0, 0, 0, 0]) →
      s.bit F.EMN_POS_VALID = true →
      s.passThrough = false →
      a = (Int.fdiv ((u.t8 : Int) - s.get (F.EMN_P_DELAY_D p.val) - u.age.toNat) 8).toNat + s.get F.EMN_TRIG_CFG_BUDGET →
      max s.now tm ≤ a →
      ∃ t, exec i s = .next t
        ∧ t.emn = { s.emn with triggers := s.emn.triggers ++ [⟨snap, a, 2⟩] }
        ∧ t.emnPort p.val = { s.emnPort p.val with lastValid := max s.now tm }
        ∧ t.emnPort (1 - p.val) = (s.emnPort (1 - p.val)).says (.urgent ty u.origin.val ((u.age.toNat + s.get (F.EMN_P_DELAY_D p.val) + u.hold8) % 2 ^ 24) [seq.toNat, 0, 0, 0, 0, 0, 0])
        ∧ (∀ key, key ∉ ([0, 1] : List Nat) → t.emnPort key = s.emnPort key)
        ∧ t.now = max s.now tm
        ∧ t = { s with now := t.now, emnPorts := t.emnPorts, emn := t.emn }) ∧
  (∀ (p : Fin 2) (u : UrgentRx) (seq : BitVec 8) (tm : Nat) (ty : Nat) (snap : Bool) (i : Instr) (s : State),
      tm = u.t8 / 8 →
      s.emnUp = true →
      s.linked p.val = true →
      (ty, snap, i) ∈ ([(2, false, .emnSyncRx p u seq), (3, true, .emnSnapRx p u seq)] : List (Nat × Bool × Instr)) →
      u.crc = crc32c ((ty * 16 + u.origin.val) :: bytesBE 3 u.age.toNat ++ [seq.toNat, 0, 0, 0, 0, 0, 0]) →
      (s.bit F.EMN_POS_VALID = false ∨ s.passThrough = true) →
      ∃ t, exec i s = .next t
        ∧ t.emnPort p.val = { s.emnPort p.val with lastValid := max s.now tm }
        ∧ t.emnPort (1 - p.val) = (s.emnPort (1 - p.val)).says (.urgent ty u.origin.val ((u.age.toNat + s.get (F.EMN_P_DELAY_D p.val) + u.hold8) % 2 ^ 24) [seq.toNat, 0, 0, 0, 0, 0, 0])
        ∧ (∀ key, key ∉ ([0, 1] : List Nat) → t.emnPort key = s.emnPort key)
        ∧ t.now = max s.now tm
        ∧ t = { s with now := t.now, emnPorts := t.emnPorts }) ∧
  (∀ (p : Fin 2) (u : UrgentRx) (seq : BitVec 8) (tm a : Nat) (s : State),
      tm = u.t8 / 8 →
      s.emnUp = true →
      s.linked p.val = true →
      u.crc = crc32c ((2 * 16 + u.origin.val) :: bytesBE 3 u.age.toNat ++ [seq.toNat, 0, 0, 0, 0, 0, 0]) →
      s.bit F.EMN_POS_VALID = true →
      s.passThrough = false →
      a = (Int.fdiv ((u.t8 : Int) - s.get (F.EMN_P_DELAY_D p.val) - u.age.toNat) 8).toNat + s.get F.EMN_TRIG_CFG_BUDGET →
      a < max s.now tm →
      ∃ t, exec (.emnSyncRx p u seq) s = .next t
        ∧ t.rdN R.EMN_TRIG_LATE = min 0xFFFFFFFF (s.rdN R.EMN_TRIG_LATE + 1)
        ∧ t.isPending 773 = true
        ∧ t.clk.syncAt = some (max s.now tm)
        ∧ (s.tick.armed = true → s.tRuns = true → t.tick = { s.tick with started := true, armed := false, count := 0, last := max s.now tm, start := max s.now tm, len := s.get F.WHEEL_T_CFG_TICK_CYC, held := 0 })
        ∧ (¬ (s.tick.armed = true ∧ s.tRuns = true) → t.tick = s.tick ∧ t.doms = s.doms)
        ∧ ((s.get F.NET_XCAP_CTL_EN).testBit 2 = true → s.domOn 18 = true → t.rdN R.NET_XCAP_WT_LO = (max s.now tm) % 2 ^ 32 ∧ t.rdN R.NET_XCAP_WT_HI = (max s.now tm) / 2 ^ 32 % 2 ^ 32 ∧ t.get F.NET_XCAP_S_HI_SRC = 4 ∧ t.ptp.capUnread = true ∧ t.isPending 719 = true)
        ∧ (¬ ((s.get F.NET_XCAP_CTL_EN).testBit 2 = true ∧ s.domOn 18 = true) → t.ptp = s.ptp)
        ∧ (∀ j : Nat, j < 8 → (Sparse.get (fun _ => {}) t.gpio.pwm j : PwmGen) = { cur := s.rd (R.GPIO_PWM j), start := max s.now tm, nxt := s.rd (R.GPIO_PWM j), nxtAt := max s.now tm })
        ∧ t.emnPort p.val = { s.emnPort p.val with lastValid := max s.now tm }
        ∧ t.emnPort (1 - p.val) = (s.emnPort (1 - p.val)).says (.urgent 2 u.origin.val ((u.age.toNat + s.get (F.EMN_P_DELAY_D p.val) + u.hold8) % 2 ^ 24) [seq.toNat, 0, 0, 0, 0, 0, 0])
        ∧ (∀ key, key ∉ ([0, 1] : List Nat) → t.emnPort key = s.emnPort key)
        ∧ t.now = max s.now tm
        ∧ t = { s with regs := t.regs, irq := t.irq, now := t.now, free := t.free, doms := t.doms, tick := t.tick, ptp := t.ptp, clk := { s.clk with outs := t.clk.outs, syncAt := t.clk.syncAt }, gpio := { s.gpio with pwm := t.gpio.pwm }, emnPorts := t.emnPorts }
        ∧ (∀ adr, adr ∉ (R.EMN_TRIG_LATE :: R.NET_XCAP_WT_LO :: R.NET_XCAP_WT_HI :: R.NET_XCAP_NS :: R.NET_XCAP_S_LO :: R.NET_XCAP_S_HI :: R.NET_XCAP_CTL :: R.CLK_SYNC_PHASE :: coalesced : List Nat) → t.rd adr = s.rd adr)
        ∧ (∀ num dr, num ∉ ([719, 773] : List Nat) → t.slot num dr = s.slot num dr)) ∧
  (∀ (p : Fin 2) (u : UrgentRx) (seq : BitVec 8) (tm a : Nat) (s : State),
      tm = u.t8 / 8 →
      s.emnUp = true →
      s.linked p.val = true →
      u.crc = crc32c ((3 * 16 + u.origin.val) :: bytesBE 3 u.age.toNat ++ [seq.toNat, 0, 0, 0, 0, 0, 0]) →
      s.bit F.EMN_POS_VALID = true →
      s.passThrough = false →
      a = (Int.fdiv ((u.t8 : Int) - s.get (F.EMN_P_DELAY_D p.val) - u.age.toNat) 8).toNat + s.get F.EMN_TRIG_CFG_BUDGET →
      a < max s.now tm →
      s.alive = true →
      s.bit F.SNAP_STAT_FULL = false →
      (s.at_ tm).snapNow = false →
      ∃ t, exec (.emnSnapRx p u seq) s = .next t
        ∧ t.rdN R.EMN_TRIG_LATE = min 0xFFFFFFFF (s.rdN R.EMN_TRIG_LATE + 1)
        ∧ t.isPending 773 = true
        ∧ t.snapAt = some (max s.now tm)
        ∧ t.bit F.SNAP_STAT_FULL = true
        ∧ t.get F.SNAP_STAT_SRC = 2
        ∧ t.isPending 908 = true
        ∧ t.emnPort p.val = { s.emnPort p.val with lastValid := max s.now tm }
        ∧ t.emnPort (1 - p.val) = (s.emnPort (1 - p.val)).says (.urgent 3 u.origin.val ((u.age.toNat + s.get (F.EMN_P_DELAY_D p.val) + u.hold8) % 2 ^ 24) [seq.toNat, 0, 0, 0, 0, 0, 0])
        ∧ (∀ key, key ∉ ([0, 1] : List Nat) → t.emnPort key = s.emnPort key)
        ∧ t.now = max s.now tm
        ∧ t = { s with regs := t.regs, irq := t.irq, now := t.now, emnPorts := t.emnPorts, ptp := t.ptp, snapAt := t.snapAt, capWait := t.capWait }) ∧
  (∀ (tm : Nat) (txA txB : Bool) (s : State),
      s.emnUp = true →
      s.passThrough = false →
      s.linked 1 = true →
      400 ≤ s.get F.EMN_ANG_CFG_PERIOD →
      s.get F.EMN_ANG_CFG_PERIOD ≤ 40000 →
      txA = s.bit F.EMN_ANG_CFG_TX_A →
      txB = s.bit F.EMN_ANG_CFG_TX_B →
      ∃ t, exec (.emnAngleSend tm) s = .next t
        ∧ (txA = true → txB = false → t.emnPort 1 = (s.emnPort 1).says (.urgent 1 (s.get F.EMN_POS_POS) (s.fresh % 2 ^ 24) ((1 * 64 + (if (s.tracker 0).valid = true then 32 else 0) + (if (s.tracker 0).reverse = true then 16 else 0) + (if (s.tracker 0).stalled = true then 8 else 0)) :: bytesBE 3 (s.shaftPos 0 (max s.now tm) % 16777216).toNat ++ bytesBE 3 (Int.fdiv (s.shaftPos 0 (max s.now tm)) 16777216 % 16777216).toNat)))
        ∧ (txA = false → txB = true → t.emnPort 1 = (s.emnPort 1).says (.urgent 1 (s.get F.EMN_POS_POS) (s.fresh % 2 ^ 24) ((2 * 64 + (if (s.tracker 1).valid = true then 32 else 0) + (if (s.tracker 1).reverse = true then 16 else 0) + (if (s.tracker 1).stalled = true then 8 else 0)) :: bytesBE 3 (s.shaftPos 1 (max s.now tm) % 16777216).toNat ++ bytesBE 3 (Int.fdiv (s.shaftPos 1 (max s.now tm)) 16777216 % 16777216).toNat)))
        ∧ (txA = true → txB = true → t.emnPort 1 = ((s.emnPort 1).says (.urgent 1 (s.get F.EMN_POS_POS) (s.fresh % 2 ^ 24) ((1 * 64 + (if (s.tracker 0).valid = true then 32 else 0) + (if (s.tracker 0).reverse = true then 16 else 0) + (if (s.tracker 0).stalled = true then 8 else 0)) :: bytesBE 3 (s.shaftPos 0 (max s.now tm) % 16777216).toNat ++ bytesBE 3 (Int.fdiv (s.shaftPos 0 (max s.now tm)) 16777216 % 16777216).toNat))).says (.urgent 1 (s.get F.EMN_POS_POS) (s.drawn.fresh % 2 ^ 24) ((2 * 64 + (if (s.tracker 1).valid = true then 32 else 0) + (if (s.tracker 1).reverse = true then 16 else 0) + (if (s.tracker 1).stalled = true then 8 else 0)) :: bytesBE 3 (s.shaftPos 1 (max s.now tm) % 16777216).toNat ++ bytesBE 3 (Int.fdiv (s.shaftPos 1 (max s.now tm)) 16777216 % 16777216).toNat)))
        ∧ (txA = false → txB = false → t.emnPort 1 = s.emnPort 1)
        ∧ t = { s with now := max s.now tm, free := s.free + (if txA = true then 1 else 0) + (if txB = true then 1 else 0), emnPorts := t.emnPorts }
        ∧ (∀ key, key ∉ ([1] : List Nat) → t.emnPort key = s.emnPort key)) ∧
  (∀ (tm : Nat) (s : State),
      (s.emnUp = false ∨ s.passThrough = true ∨ s.linked 1 = false ∨ s.get F.EMN_ANG_CFG_PERIOD < 400 ∨ 40000 < s.get F.EMN_ANG_CFG_PERIOD) →
      ∃ t, exec (.emnAngleSend tm) s = .next t
        ∧ t = { s with now := max s.now tm }) ∧
  (∀ (tm a src : Nat) (s : State),
      s.emn.triggers.filter (fun x => decide (x.at_ ≤ max s.now tm)) = [⟨false, a, src⟩] →
      ∃ t, exec (.triggerApply tm) s = .next t
        ∧ t.emn = { s.emn with triggers := s.emn.triggers.filter fun x => decide (max s.now tm < x.at_) }
        ∧ t.now = max s.now tm
        ∧ t.clk.syncAt = some (max s.now tm)
        ∧ (s.tick.armed = true → s.tRuns = true → t.tick = { s.tick with started := true, armed := false, count := 0, last := max s.now tm, start := max s.now tm, len := s.get F.WHEEL_T_CFG_TICK_CYC, held := 0 })
        ∧ (¬ (s.tick.armed = true ∧ s.tRuns = true) → t.tick = s.tick ∧ t.doms = s.doms)
        ∧ ((s.get F.NET_XCAP_CTL_EN).testBit 2 = true → s.domOn 18 = true → t.rdN R.NET_XCAP_WT_LO = (max s.now tm) % 2 ^ 32 ∧ t.rdN R.NET_XCAP_WT_HI = (max s.now tm) / 2 ^ 32 % 2 ^ 32 ∧ t.get F.NET_XCAP_S_HI_SRC = 4 ∧ t.ptp.capUnread = true ∧ t.isPending 719 = true)
        ∧ (¬ ((s.get F.NET_XCAP_CTL_EN).testBit 2 = true ∧ s.domOn 18 = true) → t.ptp = s.ptp)
        ∧ (∀ j : Nat, j < 8 → (Sparse.get (fun _ => {}) t.gpio.pwm j : PwmGen) = { cur := s.rd (R.GPIO_PWM j), start := max s.now tm, nxt := s.rd (R.GPIO_PWM j), nxtAt := max s.now tm })
        ∧ t = { s with regs := t.regs, irq := t.irq, now := t.now, free := t.free, doms := t.doms, tick := t.tick, ptp := t.ptp, clk := { s.clk with outs := t.clk.outs, syncAt := t.clk.syncAt }, gpio := { s.gpio with pwm := t.gpio.pwm }, emn := t.emn }
        ∧ (∀ adr, adr ∉ (R.NET_XCAP_WT_LO :: R.NET_XCAP_WT_HI :: R.NET_XCAP_NS :: R.NET_XCAP_S_LO :: R.NET_XCAP_S_HI :: R.NET_XCAP_CTL :: R.CLK_SYNC_PHASE :: coalesced : List Nat) → t.rd adr = s.rd adr)
        ∧ (∀ num dr, num ∉ ([719] : List Nat) → t.slot num dr = s.slot num dr)) ∧
  (∀ (tm a src : Nat) (s : State),
      s.emn.triggers.filter (fun x => decide (x.at_ ≤ max s.now tm)) = [⟨true, a, src⟩] →
      src < 128 →
      s.alive = true →
      s.bit F.SNAP_STAT_FULL = false →
      (s.at_ tm).snapNow = false →
      ∃ t, exec (.triggerApply tm) s = .next t
        ∧ t.emn = { s.emn with triggers := s.emn.triggers.filter fun x => decide (max s.now tm < x.at_) }
        ∧ t.now = max s.now tm
        ∧ t.snapAt = some (max s.now tm)
        ∧ t.bit F.SNAP_STAT_FULL = true
        ∧ t.get F.SNAP_STAT_SRC = src
        ∧ t.isPending 908 = true
        ∧ t = { s with regs := t.regs, irq := t.irq, now := t.now, ptp := t.ptp, snapAt := t.snapAt, capWait := t.capWait, emn := t.emn }) ∧
  (∀ (tm : Nat) (s : State),
      s.emn.triggers.filter (fun x => decide (x.at_ ≤ max s.now tm)) = [] →
      ∃ t, exec (.triggerApply tm) s = .next t
        ∧ t = { s with now := max s.now tm }) ∧
  (∀ (ini : Initiator) (s : State),
      s.sends ini true R.EMN_TRIG_CTL = true →
      s.domOn 18 = true →
      (s.bit F.EMN_TRIG_CFG_SYNC_FWD = false ∨ s.regValid R.EMN_TRIG_CFG = false) →
      ∃ t, exec (.syncGo ini) s = .next t
        ∧ t.respCode ini = 0
        ∧ t.clk.syncAt = some (s.now)
        ∧ (s.tick.armed = true → s.tRuns = true → t.tick = { s.tick with started := true, armed := false, count := 0, last := s.now, start := s.now, len := s.get F.WHEEL_T_CFG_TICK_CYC, held := 0 })
        ∧ (¬ (s.tick.armed = true ∧ s.tRuns = true) → t.tick = s.tick ∧ t.doms = s.doms)
        ∧ ((s.get F.NET_XCAP_CTL_EN).testBit 2 = true → s.domOn 18 = true → t.rdN R.NET_XCAP_WT_LO = (s.now) % 2 ^ 32 ∧ t.rdN R.NET_XCAP_WT_HI = (s.now) / 2 ^ 32 % 2 ^ 32 ∧ t.get F.NET_XCAP_S_HI_SRC = 4 ∧ t.ptp.capUnread = true ∧ t.isPending 719 = true)
        ∧ (¬ ((s.get F.NET_XCAP_CTL_EN).testBit 2 = true ∧ s.domOn 18 = true) → t.ptp = s.ptp)
        ∧ (∀ j : Nat, j < 8 → (Sparse.get (fun _ => {}) t.gpio.pwm j : PwmGen) = { cur := s.rd (R.GPIO_PWM j), start := s.now, nxt := s.rd (R.GPIO_PWM j), nxtAt := s.now })
        ∧ t = { s with regs := t.regs, irq := t.irq, now := t.now, free := t.free, doms := t.doms, tick := t.tick, ptp := t.ptp, clk := { s.clk with outs := t.clk.outs, syncAt := t.clk.syncAt }, gpio := { s.gpio with pwm := t.gpio.pwm }, spine := t.spine, sec := { s.sec with tapOut := t.sec.tapOut } }
        ∧ (∀ adr, adr ∉ (R.NET_XCAP_WT_LO :: R.NET_XCAP_WT_HI :: R.NET_XCAP_NS :: R.NET_XCAP_S_LO :: R.NET_XCAP_S_HI :: R.NET_XCAP_CTL :: R.CLK_SYNC_PHASE :: coalesced : List Nat) → t.rd adr = s.rd adr)
        ∧ (∀ num dr, num ∉ ([719] : List Nat) → t.slot num dr = s.slot num dr)) ∧
  (∀ (ini : Initiator) (s : State),
      s.sends ini true R.EMN_TRIG_CTL = true →
      s.domOn 18 = true →
      s.bit F.EMN_TRIG_CFG_SYNC_FWD = true →
      s.regValid R.EMN_TRIG_CFG = true →
      ∃ t, exec (.syncGo ini) s = .next t
        ∧ t.respCode ini = 0
        ∧ t.emn = { s.emn with trigSeq := s.emn.trigSeq + 1, triggers := s.emn.triggers ++ [⟨false, s.now + s.get F.EMN_TRIG_CFG_BUDGET, 0⟩] }
        ∧ t.emnPort 0 = (s.emnPort 0).says (.urgent 2 (s.get F.EMN_POS_POS) (s.fresh % 2 ^ 24) [s.emn.trigSeq % 256, 0, 0, 0, 0, 0, 0])
        ∧ t.emnPort 1 = (s.emnPort 1).says (.urgent 2 (s.get F.EMN_POS_POS) (s.drawn.fresh % 2 ^ 24) [s.emn.trigSeq % 256, 0, 0, 0, 0, 0, 0])
        ∧ (∀ key, key ∉ ([0, 1] : List Nat) → t.emnPort key = s.emnPort key)
        ∧ t = { s with free := s.free + 2, emnPorts := t.emnPorts, emn := t.emn, spine := t.spine, sec := { s.sec with tapOut := t.sec.tapOut } }) ∧
  (∀ (tm : Nat) (s : State),
      s.alive = true →
      (s.bit F.EMN_TRIG_CFG_SYNC_FWD = false ∨ s.regValid R.EMN_TRIG_CFG = false) →
      ∃ t, exec (.syncPinEdge tm) s = .next t
        ∧ t.now = max s.now tm
        ∧ t.clk.syncAt = some (max s.now tm)
        ∧ (s.tick.armed = true → s.tRuns = true → t.tick = { s.tick with started := true, armed := false, count := 0, last := max s.now tm, start := max s.now tm, len := s.get F.WHEEL_T_CFG_TICK_CYC, held := 0 })
        ∧ (¬ (s.tick.armed = true ∧ s.tRuns = true) → t.tick = s.tick ∧ t.doms = s.doms)
        ∧ ((s.get F.NET_XCAP_CTL_EN).testBit 2 = true → s.domOn 18 = true → t.rdN R.NET_XCAP_WT_LO = (max s.now tm) % 2 ^ 32 ∧ t.rdN R.NET_XCAP_WT_HI = (max s.now tm) / 2 ^ 32 % 2 ^ 32 ∧ t.get F.NET_XCAP_S_HI_SRC = 4 ∧ t.ptp.capUnread = true ∧ t.isPending 719 = true)
        ∧ (¬ ((s.get F.NET_XCAP_CTL_EN).testBit 2 = true ∧ s.domOn 18 = true) → t.ptp = s.ptp)
        ∧ (∀ j : Nat, j < 8 → (Sparse.get (fun _ => {}) t.gpio.pwm j : PwmGen) = { cur := s.rd (R.GPIO_PWM j), start := max s.now tm, nxt := s.rd (R.GPIO_PWM j), nxtAt := max s.now tm })
        ∧ t = { s with regs := t.regs, irq := t.irq, now := t.now, free := t.free, doms := t.doms, tick := t.tick, ptp := t.ptp, clk := { s.clk with outs := t.clk.outs, syncAt := t.clk.syncAt }, gpio := { s.gpio with pwm := t.gpio.pwm } }
        ∧ (∀ adr, adr ∉ (R.NET_XCAP_WT_LO :: R.NET_XCAP_WT_HI :: R.NET_XCAP_NS :: R.NET_XCAP_S_LO :: R.NET_XCAP_S_HI :: R.NET_XCAP_CTL :: R.CLK_SYNC_PHASE :: coalesced : List Nat) → t.rd adr = s.rd adr)
        ∧ (∀ num dr, num ∉ ([719] : List Nat) → t.slot num dr = s.slot num dr)) ∧
  (∀ (tm : Nat) (s : State),
      s.alive = true →
      s.bit F.EMN_TRIG_CFG_SYNC_FWD = true →
      s.regValid R.EMN_TRIG_CFG = true →
      ∃ t, exec (.syncPinEdge tm) s = .next t
        ∧ t.now = max s.now tm
        ∧ t.emn = { s.emn with trigSeq := s.emn.trigSeq + 1, triggers := s.emn.triggers ++ [⟨false, max s.now tm + s.get F.EMN_TRIG_CFG_BUDGET, 0⟩] }
        ∧ t.emnPort 0 = (s.emnPort 0).says (.urgent 2 (s.get F.EMN_POS_POS) (s.fresh % 2 ^ 24) [s.emn.trigSeq % 256, 0, 0, 0, 0, 0, 0])
        ∧ t.emnPort 1 = (s.emnPort 1).says (.urgent 2 (s.get F.EMN_POS_POS) (s.drawn.fresh % 2 ^ 24) [s.emn.trigSeq % 256, 0, 0, 0, 0, 0, 0])
        ∧ (∀ key, key ∉ ([0, 1] : List Nat) → t.emnPort key = s.emnPort key)
        ∧ t = { s with now := t.now, free := s.free + 2, emnPorts := t.emnPorts, emn := t.emn }) ∧
  (∀ (tm : Nat) (s : State),
      s.alive = false →
      ∃ t, exec (.syncPinEdge tm) s = .next t
        ∧ t = { s with now := max s.now tm }) ∧
  (∀ (tm n : Nat) (x : EmnIn) (r : List EmnIn) (s : State),
      s.emn.inbox = x :: r →
      x.type = 3 →
      x.port = 0 →
      n = x.payload.headD 0 →
      n < 16 →
      s.emn.head = false →
      (s.bit F.EMN_POS_VALID = true → s.get F.EMN_POS_POS = n) →
      ∃ t, exec (.enumRx tm) s = .next t
        ∧ t.rd R.EMN_POS = setBitsOf (setBitsOf (s.rd R.EMN_POS) F.EMN_POS_POS.hi F.EMN_POS_POS.lo n) F.EMN_POS_VALID.hi F.EMN_POS_VALID.lo 1
        ∧ t.isPending 774 = true
        ∧ t.emnPort 1 = (if s.linked 1 = true then (s.emnPort 1).gets (.data 3 0xFF n [n + 1]) (max s.now tm) else s.emnPort 1)
        ∧ t.emn = { s.emn with inbox := r, enumAt := if s.linked 1 = true then s.emn.enumAt else some (max s.now tm) }
        ∧ t = { s with regs := t.regs, irq := t.irq, now := max s.now tm, emnPorts := t.emnPorts, emn := t.emn }
        ∧ (∀ adr, adr ∉ (R.EMN_POS :: coalesced : List Nat) → t.rd adr = s.rd adr)
        ∧ (∀ num dr, num ∉ ([774] : List Nat) → t.slot num dr = s.slot num dr)
        ∧ (∀ key, key ∉ ([1] : List Nat) → t.emnPort key = s.emnPort key)) ∧
  (∀ (tm n : Nat) (x : EmnIn) (r : List EmnIn) (s : State),
      s.emn.inbox = x :: r →
      x.type = 3 →
      x.port = 0 →
      n = x.payload.headD 0 →
      (s.emn.head = true ∨ (s.bit F.EMN_POS_VALID = true ∧ s.get F.EMN_POS_POS ≠ n)) →
      ∃ t, exec (.enumRx tm) s = .next t
        ∧ t.bit F.EMN_STAT_POS_CONFLICT = true
        ∧ t.isPending 774 = true
        ∧ t.emn = { s.emn with inbox := r }
        ∧ t = { s with regs := t.regs, irq := t.irq, now := max s.now tm, emn := t.emn }
        ∧ (∀ adr, adr ∉ (R.EMN_STAT :: coalesced : List Nat) → t.rd adr = s.rd adr)
        ∧ (∀ num dr, num ∉ ([774] : List Nat) → t.slot num dr = s.slot num dr)) ∧
  (∀ (tm n : Nat) (x : EmnIn) (r : List EmnIn) (s : State),
      s.emn.inbox = x :: r →
      x.type = 3 →
      x.port = 0 →
      n = x.payload.headD 0 →
      16 ≤ n →
      s.emn.head = false →
      (s.bit F.EMN_POS_VALID = true → s.get F.EMN_POS_POS = n) →
      ∃ t, exec (.enumRx tm) s = .next t
        ∧ t.bit F.EMN_STAT_CHAIN_LONG = true
        ∧ t.emnPort 0 = (s.emnPort 0).gets (.data 4 0 (s.get F.EMN_POS_POS) [2]) (max s.now tm)
        ∧ t.emn = { s.emn with inbox := r }
        ∧ t = { s with regs := t.regs, now := max s.now tm, emnPorts := t.emnPorts, emn := t.emn }
        ∧ (∀ adr, adr ∉ ([R.EMN_STAT] : List Nat) → t.rd adr = s.rd adr)
        ∧ (∀ key, key ∉ ([0] : List Nat) → t.emnPort key = s.emnPort key)) ∧
  (∀ (tm : Nat) (s : State),
      (s.emn.inbox.head?.all (fun x => x.type != 3 || x.port != 0)) = true →
      ∃ t, exec (.enumRx tm) s = .next t
        ∧ t = { s with emn := t.emn, now := t.now }
        ∧ t.emn = { s.emn with inbox := t.emn.inbox }) ∧
  (∀ (tm a : Nat) (s : State),
      s.emn.enumAt = some a →
      a + 400000 ≤ max s.now tm →
      s.linked 1 = false →
      ∃ t, exec (.enumTailTimeout tm) s = .next t
        ∧ t.bit F.EMN_POS_TAIL = true
        ∧ t.emnPort 0 = (s.emnPort 0).gets (.data 4 0 (s.get F.EMN_POS_POS) [1, s.get F.EMN_POS_POS]) (max s.now tm)
        ∧ t.emn = { s.emn with enumAt := none }
        ∧ t = { s with regs := t.regs, now := max s.now tm, emnPorts := t.emnPorts, emn := t.emn }
        ∧ (∀ adr, adr ∉ ([R.EMN_POS] : List Nat) → t.rd adr = s.rd adr)
        ∧ (∀ key, key ∉ ([0] : List Nat) → t.emnPort key = s.emnPort key)) ∧
  (∀ (tm : Nat) (s : State),
      (s.emn.enumAt = none ∨ s.linked 1 = true ∨ s.emn.enumAt.all (fun a => decide (max s.now tm < a + 400000)) = true) →
      ∃ t, exec (.enumTailTimeout tm) s = .next t
        ∧ t = { s with now := max s.now tm }) ∧
  (∀ (x : EmnIn) (r : List EmnIn) (ins : List Insert) (n room : Nat) (s : State),
      s.emn.inbox = x :: r →
      x.type = 2 →
      n = min 16 (x.payload.headD 0) →
      ins = (List.range n).map (fun k => ⟨fieldBE x.payload (2 + 12 * k) 1, fieldBE x.payload (4 + 12 * k) 2 % 4096, BitVec.ofNat 64 (fieldBE x.payload (6 + 12 * k) 8), .chain⟩) →
      room = (if s.portWaiting 5 = [] then 8 - (s.portFifo 5).length else 0) →
      (s.portWaiting 5 = [] → s.emn.evtPorts = []) →
      ∃ t, exec .emnEvtRx s = .next t
        ∧ t.portFifo 5 = s.portFifo 5 ++ ins.take room
        ∧ t.portWaiting 5 = s.portWaiting 5 ++ ins.drop room
        ∧ t.rdN (R.WHEEL_PORT_BUSY 5) = min 0xFFFFFFFF (s.rdN (R.WHEEL_PORT_BUSY 5) + (n - room))
        ∧ t.emn = { s.emn with inbox := r, evtPorts := s.emn.evtPorts ++ List.replicate (n - room) (if x.port < 2 then some x.port else none) }
        ∧ (∀ key, t.emnPort key = if key = x.port ∧ key < 2 then { s.emnPort key with sent := List.replicate (min n room) (frameChars (.urgent 7 (s.get F.EMN_POS_POS) 0 [0, 1, 0, 0, 0, 0, 0]) 0) ++ (s.emnPort key).sent } else s.emnPort key)
        ∧ t = { s with regs := t.regs, emnPorts := t.emnPorts, emn := t.emn, wheel := { s.wheel with ports := t.wheel.ports, waiting := t.wheel.waiting } }
        ∧ (∀ adr, adr ∉ ([R.WHEEL_PORT_BUSY 5] : List Nat) → t.rd adr = s.rd adr)
        ∧ (∀ key, key ∉ ([5] : List Nat) → t.portFifo key = s.portFifo key)
        ∧ (∀ key, key ∉ ([5] : List Nat) → t.portWaiting key = s.portWaiting key)) ∧
  (∀ (s : State),
      (s.emn.inbox.head?.all (fun x => x.type != 2)) = true →
      ∃ t, exec .emnEvtRx s = .next t
        ∧ t = s) ∧
  (∀ (x : EmnIn) (r : List EmnIn) (b : Nat) (y : List Nat) (s : State),
      s.emn.inbox = x :: r →
      x.type = 5 →
      b < 8 →
      (s.emn.rxq.any (fun q => q.2 == b)) = false →
      (∀ j : Nat, j < b → (s.emn.rxq.any (fun q => q.2 == j)) = true) →
      y = [x.src, 5] ++ bytesLE 2 x.payload.length ++ x.payload →
      x.payload.length ≤ 1024 →
      ∃ t, exec .emnFwRx s = .next t
        ∧ (∀ i : Nat, i < (y.length + 3) / 4 → t.rd (R.EMN_BUF b i) = BitVec.ofNat 32 (fieldLE y (4 * i) 4))
        ∧ t.emn = { s.emn with inbox := r, rxq := s.emn.rxq ++ [(x.src, b)] }
        ∧ t.isPending 772 = true
        ∧ t = { s with regs := t.regs, irq := t.irq, emn := t.emn }
        ∧ (∀ adr, adr ∉ ((List.range ((y.length + 3) / 4)).map (fun i => R.EMN_BUF b i) ++ coalesced : List Nat) → t.rd adr = s.rd adr)
        ∧ (∀ num dr, num ∉ ([772] : List Nat) → t.slot num dr = s.slot num dr)) ∧
  (∀ (s : State),
      ((s.emn.inbox.head?.all (fun x => x.type != 5)) = true ∨ (∀ b : Nat, b < 8 → (s.emn.rxq.any (fun q => q.2 == b)) = true)) →
      ∃ t, exec .emnFwRx s = .next t
        ∧ t = s) ∧
  (∀ (ini : Initiator) (buf : Fin 16) (h dst len : Nat) (pl : List Nat) (ports : List Nat) (s : State),
      s.sends ini true R.EMN_TXQ = true →
      s.domOn 18 = true →
      8 ≤ buf.val →
      h = s.rdN (R.EMN_BUF buf.val 0) →
      dst = h % 256 →
      len = min 1024 (h / 65536) →
      pl = ((List.range ((len + 3) / 4)).flatMap (fun i => bytesLE 4 (s.rdN (R.EMN_BUF buf.val (i + 1))))).take len →
      ports = (if dst = 0xFF then [0, 1] else if s.get F.EMN_POS_POS < dst then [1] else if dst < s.get F.EMN_POS_POS then [0] else []) →
      h / 256 % 256 = 5 →
      ∃ t, exec (.emnTxq ini buf) s = .next t
        ∧ t.respCode ini = 0
        ∧ (∀ key, t.emnPort key = if key ∈ ports then (s.emnPort key).gets (.data 5 dst (s.get F.EMN_POS_POS) pl) s.now else s.emnPort key)
        ∧ t.emn = { s.emn with inbox := if ports = [] then s.emn.inbox ++ [⟨2, 5, s.get F.EMN_POS_POS, pl⟩] else s.emn.inbox }
        ∧ t = { s with emnPorts := t.emnPorts, emn := t.emn, spine := t.spine, sec := { s.sec with tapOut := t.sec.tapOut } }) ∧
  (∀ (ini : Initiator) (buf : Fin 16) (h dst len : Nat) (pl : List Nat) (ports : List Nat) (n : Nat) (s : State),
      s.sends ini true R.EMN_TXQ = true →
      s.domOn 18 = true →
      8 ≤ buf.val →
      h = s.rdN (R.EMN_BUF buf.val 0) →
      dst = h % 256 →
      len = min 1024 (h / 65536) →
      pl = ((List.range ((len + 3) / 4)).flatMap (fun i => bytesLE 4 (s.rdN (R.EMN_BUF buf.val (i + 1))))).take len →
      ports = (if dst = 0xFF then [0, 1] else if s.get F.EMN_POS_POS < dst then [1] else if dst < s.get F.EMN_POS_POS then [0] else []) →
      h / 256 % 256 = 2 →
      n = pl.headD 0 →
      (∀ q ∈ ports, (s.emnPort q).held = []) →
      ∃ t, exec (.emnTxq ini buf) s = .next t
        ∧ t.respCode ini = 0
        ∧ (∀ key, t.emnPort key = if key ∈ ports then (if n ≤ (s.emnPort key).credit then { s.emnPort key with credit := (s.emnPort key).credit - n }.gets (.data 2 dst (s.get F.EMN_POS_POS) pl) s.now else { s.emnPort key with held := [⟨dst, s.get F.EMN_POS_POS, pl, none⟩] }) else s.emnPort key)
        ∧ t.emn = { s.emn with inbox := if ports = [] then s.emn.inbox ++ [⟨2, 2, s.get F.EMN_POS_POS, pl⟩] else s.emn.inbox }
        ∧ t = { s with emnPorts := t.emnPorts, emn := t.emn, spine := t.spine, sec := { s.sec with tapOut := t.sec.tapOut } }) ∧
  (∀ (ini : Initiator) (buf : Fin 16) (s : State),
      s.sends ini true R.EMN_TXQ = true →
      s.domOn 18 = true →
      (buf.val < 8 ∨ (s.rdN (R.EMN_BUF buf.val 0) / 256 % 256 ≠ 2 ∧ s.rdN (R.EMN_BUF buf.val 0) / 256 % 256 ≠ 5)) →
      ∃ t, exec (.emnTxq ini buf) s = .next t
        ∧ t.respCode ini = 2
        ∧ t = { s with regs := t.regs, spine := t.spine, berrAt := t.berrAt, engines := t.engines, sec := { s.sec with tapOut := t.sec.tapOut } }
        ∧ (∀ adr, adr ∉ (berrRegs : List Nat) → t.rd adr = s.rd adr)
        ∧ (∀ key, key ∉ (iniEngines ini : List Nat) → t.engine key = s.engine key)) ∧
  (∀ (ini : Initiator) (buf : Fin 16) (s : State),
      s.sends ini true R.EMN_RX_DONE = true →
      s.domOn 18 = true →
      ∃ t, exec (.emnRxDone ini buf) s = .next t
        ∧ t.respCode ini = 0
        ∧ t.emn = { s.emn with rxq := s.emn.rxq.filter (fun q => q.2 != buf.val) }
        ∧ t = { s with emn := t.emn, spine := t.spine, sec := { s.sec with tapOut := t.sec.tapOut } })

/-- The requests of an Ivwyn session that hardware works, each with its response (parts of R3, R5, R8, R18, R23, R24, R29, R30, R264, R266, R267, R268, R269, R270, R271, R272, R273, R275, R277, R447, R480, R487, R501, R539). A session works the request at the head of its queue; "answered" means that the response with that status and body is kept among the 16 most recent, the request is gone, MCTR is one more, and the encrypted datagram is sent from the Ivwyn port to where the request came from. What a clause does not name stays. (1) CLOSE, PING, IDENT, RESTART or SNAP with a body: BAD_LENGTH, and no effect. (2) Where no request of the type of the command is next, or it is being worked: nothing. (3) PING: OK. (4) IDENT: OK with SYS.IDCODE, SYS.MODE, POS, the lifecycle and two 0 bytes. (5) CLOSE of a session that does not hold SERVICE: OK, and the session closes: its registers are 0, OPEN_COUNT is one less, source 738 is raised. (6) CLOSE by the session that holds SERVICE, entered from HOLD, no drone halted, free: the same, and the device is back in HOLD with CAUSE 0x41; SVC_STAT and SVC_CTL are 0. (7) RESTART in INIT, ARMED, HOLD, SERVICE or, from the minimal responder, QUARANTINE, free, while no lane sends: OK, then RESET with CAUSE 0x03; the memories and wheel time stay, of the session only what it sent. (8) While a lane sends: OK, and the SAFE burst to RESET begins, with its end at the start of the 17th frame from now; an arm that waits is given up, REFUSED and LAST_REQ 6. (9) RESTART in another mode, or while a restart or the way to QUARANTINE is in progress: MODE_ERROR, REFUSED and LAST_REQ 15. (10) MODE with a body other than 4 bytes: BAD_LENGTH; with REQ other than 5, 6 and 8 or a nonzero byte after it: BAD_PARAM. (11) MODE with REQ 5, 6 or 8: the request takes effect, or is refused, as a write of SYS.MODE_CTL would (r and ok are its state and whether it is taken; O1), and is answered OK or MODE_ERROR with SYS.MODE after it. (12) Such a request is refused where REQ 5 comes in another mode than INIT and HOLD, 6 in another than ARMED, 8 in another than ARMED, RUN and RUN-SPARED, or a restart or the way to QUARANTINE is in progress: MODE_ERROR, MODE stays, REFUSED and LAST_REQ show it. (13) REQ 8 in ARMED, RUN or RUN-SPARED, free: HOLD with HOLD_REQUEST, answered OK with the new SYS.MODE. (14) SNAP between INIT and QUARANTINE with SNAP_FWD = 0, no snapshot held unread and none taken in this SPINE cycle: the shadows are latched with SRC 128 and source 908, and it is answered OK. (15) With SNAP_FWD = 1 the trigger leaves on both Emnodric ports and waits BUDGET for its apply instant, with SRC 130. (16) SUBSCRIBE with 4 bytes: a mask below 16 is taken and answered OK, another is BAD_PARAM; with another length it is BAD_LENGTH. (17) A REG or MEM request shorter than ADDR, COUNT and 0, with COUNT 0, more than 1,024 bytes of words, or a body that is not 8 bytes and its words: BAD_LENGTH; with the two bytes after COUNT nonzero, or a MEM address that is no multiple of 8: BAD_PARAM; no access is made. (18) REG_READ of n registers from a, in domains that are ON, whose rows show the words they hold and have no RC or WO field: OK with the n words. (19) REG_WRITE of n registers from a, in domains that are ON, whose rows have no act of their own and whose RW fields take the values: every field of each takes what its access code gives, and the answer is OK. (20) A REG_READ whose first j words are as in clause 17 and whose next address lies in no range or register list (code 1), or in a domain that is not ON and has no wake on access (code 4): BUS_ERROR with index j and that code, logged. (21) A REG or MEM access whose next word lies in a domain that is not ON and has wake on access: the domain gets a wake event, and the request waits, unanswered. (22) MEM_READ of n words from a, of grid-coded memory in domains that are ON, all clean: OK with their data. (23) MEM_WRITE of n words from a, of the RAM or the context and pair regions with no spare on loan, in domains that are ON: each word is stored with its grid code, and the answer is OK. (24) INSERT of n events, 1 to 112: they are offered to wheel port 4 in order: those for which its FIFO has room, nothing waiting there, enter it, the others wait and count in PORT4_BUSY; the request stays until all are answered. (25) An INSERT whose COUNT is not 1 to 112 or does not fit its length: BAD_LENGTH; with a reserved byte nonzero or a BIN of 4,096 or more: BAD_PARAM; no event is offered, and the credit comes back. Readings and choices of the model that it rests on: log entries 20, 24, 70, 139, 143, 145. -/
def Obligations.IvwynRequests : Prop :=
  (∀ (x : Fin 256) (q : IvwReq) (ty : Nat) (i : Instr) (s : State),
      (ty, i) ∈ ([(3, .ivwynClose x), (4, .ivwynPing x), (5, .ivwynIdent x), (6, .ivwynRestart x), (0x23, .ivwynSnap x)] : List (Nat × Instr)) →
      s.ivwHead x.val ty = some q →
      q.body ≠ [] →
      ∃ t, exec i s = .next t
        ∧ t.session x.val = (s.session x.val).replied s x.val ty 1 q.txn []
        ∧ (∀ key, key ∉ ([x.val] : List Nat) → t.session key = s.session key)
        ∧ t = { s with sessions := t.sessions }) ∧
  (∀ (x : Fin 256) (ty : Nat) (i : Instr) (s : State),
      (ty, i) ∈ ([(3, .ivwynClose x), (4, .ivwynPing x), (5, .ivwynIdent x), (6, .ivwynRestart x), (0x10, .ivwynRegRead x), (0x11, .ivwynRegWrite x), (0x12, .ivwynMemRead x), (0x13, .ivwynMemWrite x), (0x20, .ivwynInsert x), (0x22, .ivwynMode x), (0x23, .ivwynSnap x), (0x24, .ivwynSubscribe x), (2, .ivwynConfirm x)] : List (Nat × Instr)) →
      s.ivwHead x.val ty = none →
      ∃ t, exec i s = .next t
        ∧ t = s) ∧
  (∀ (x : Fin 256) (q : IvwReq) (s : State),
      s.ivwHead x.val 4 = some q →
      q.body = [] →
      ∃ t, exec (.ivwynPing x) s = .next t
        ∧ t.session x.val = (s.session x.val).replied s x.val 4 0 q.txn []
        ∧ (∀ key, key ∉ ([x.val] : List Nat) → t.session key = s.session key)
        ∧ t = { s with sessions := t.sessions }) ∧
  (∀ (x : Fin 256) (q : IvwReq) (s : State),
      s.ivwHead x.val 5 = some q →
      q.body = [] →
      ∃ t, exec (.ivwynIdent x) s = .next t
        ∧ t.session x.val = (s.session x.val).replied s x.val 5 0 q.txn (bytesBE 4 (s.rdN R.SYS_IDCODE) ++ bytesBE 4 (s.rdN R.SYS_MODE) ++ [s.get F.EMN_POS_POS, s.lifecycle, 0, 0])
        ∧ (∀ key, key ∉ ([x.val] : List Nat) → t.session key = s.session key)
        ∧ t = { s with sessions := t.sessions }) ∧
  (∀ (x : Fin 256) (q : IvwReq) (s : State),
      s.ivwHead x.val 3 = some q →
      q.body = [] →
      s.bit (F.IVW_S_STATE_OPEN x.val) = true →
      (s.holderOf ≠ 1 ∨ s.get F.SEC_SVC_STAT_SESSION ≠ x.val) →
      ∃ t, exec (.ivwynClose x) s = .next t
        ∧ t.session x.val = { out := ((s.session x.val).replied s x.val 3 0 q.txn []).out }
        ∧ t.rd (R.IVW_S_STATE x.val) = 0
        ∧ t.rd (R.IVW_S_PEER_IP x.val) = 0
        ∧ t.rd (R.IVW_S_PEER_PORT x.val) = 0
        ∧ t.get F.IVW_OPEN_COUNT = s.get F.IVW_OPEN_COUNT - 1
        ∧ t.isPending 738 = true
        ∧ t.ivw.rx = s.ivw.rx.map (fun b => if b.session = x.val then { b with live := false } else b)
        ∧ t.ivw.confirms = s.ivw.confirms.filter (fun c => c.1 != x.val)
        ∧ t.ivw = { s.ivw with rx := t.ivw.rx, confirms := t.ivw.confirms }
        ∧ t = { s with regs := t.regs, irq := t.irq, sessions := t.sessions, ivw := t.ivw }
        ∧ (∀ adr, adr ∉ (R.IVW_OPEN :: R.IVW_S_STATE x.val :: R.IVW_S_PEER_IP x.val :: R.IVW_S_PEER_PORT x.val :: coalesced : List Nat) → t.rd adr = s.rd adr)
        ∧ (∀ key, key ∉ ([x.val] : List Nat) → t.session key = s.session key)
        ∧ (∀ num dr, num ∉ ([738] : List Nat) → t.slot num dr = s.slot num dr)) ∧
  (∀ (x : Fin 256) (q : IvwReq) (s : State),
      s.ivwHead x.val 3 = some q →
      q.body = [] →
      s.bit (F.IVW_S_STATE_OPEN x.val) = true →
      s.holderOf = 1 →
      s.get F.SEC_SVC_STAT_SESSION = x.val →
      s.mode = M.service →
      s.leaving = false →
      s.modeCtl.from_ = M.hold →
      (∀ d : Nat, d < 4 → (s.drone d).halted = false) →
      ∃ t, exec (.ivwynClose x) s = .next t
        ∧ (t.session x.val).queue = []
        ∧ (t.session x.val).out.head? = ((s.session x.val).replied s x.val 3 0 q.txn []).out.head?
        ∧ t.rd (R.IVW_S_STATE x.val) = 0
        ∧ t.rd (R.IVW_S_PEER_IP x.val) = 0
        ∧ t.rd (R.IVW_S_PEER_PORT x.val) = 0
        ∧ t.get F.IVW_OPEN_COUNT = s.get F.IVW_OPEN_COUNT - 1
        ∧ t.isPending 738 = true
        ∧ t.ivw.rx = s.ivw.rx.map (fun b => if b.session = x.val then { b with live := false } else b)
        ∧ t.ivw.confirms = s.ivw.confirms.filter (fun c => c.1 != x.val)
        ∧ t.ivw = { s.ivw with rx := t.ivw.rx, confirms := t.ivw.confirms }
        ∧ t.mode = M.hold
        ∧ t.get F.SYS_MODE_CAUSE = 0x41
        ∧ t.get F.SYS_MODE_PREV = M.service
        ∧ t.rd R.SEC_SVC_STAT = 0
        ∧ t.rd R.SEC_SVC_CTL = 0
        ∧ t.isPending 824 = true
        ∧ t = { s with regs := t.regs, irq := t.irq, sessions := t.sessions, ivw := t.ivw, modeCtl := t.modeCtl }
        ∧ (∀ adr, adr ∉ (R.IVW_OPEN :: R.IVW_S_STATE x.val :: R.IVW_S_PEER_IP x.val :: R.IVW_S_PEER_PORT x.val :: R.SEC_SVC_STAT :: R.SEC_SVC_CTL :: modeRegs : List Nat) → t.rd adr = s.rd adr)
        ∧ (∀ num dr, num ∉ ([738, 824] : List Nat) → t.slot num dr = s.slot num dr)) ∧
  (∀ (x : Fin 256) (q : IvwReq) (s : State),
      s.ivwHead x.val 6 = some q →
      q.body = [] →
      s.leaving = false →
      (s.mode = M.init ∨ s.mode = M.armed ∨ s.mode = M.hold ∨ s.mode = M.service ∨ s.mode = M.quarantine) →
      s.sendingLanes = [] →
      ∃ t, exec (.ivwynRestart x) s = .next t
        ∧ t.session x.val = { out := ((s.session x.val).replied s x.val 6 0 q.txn []).out }
        ∧ (∀ key, key ∉ ([x.val] : List Nat) → t.session key = {})
        ∧ t.mode = M.reset
        ∧ t.get F.SYS_MODE_CAUSE = 3
        ∧ t.get F.SYS_MODE_PREV = s.mode
        ∧ t.now = s.now
        ∧ t.mem = s.mem
        ∧ t.supply = s.supply
        ∧ t.pending = s.pending
        ∧ t.engines = []) ∧
  (∀ (x : Fin 256) (q : IvwReq) (s : State),
      s.ivwHead x.val 6 = some q →
      q.body = [] →
      s.leaving = false →
      (s.mode = M.init ∨ s.mode = M.armed ∨ s.mode = M.hold ∨ s.mode = M.service ∨ s.mode = M.quarantine) →
      s.sendingLanes ≠ [] →
      ∃ t, exec (.ivwynRestart x) s = .next t
        ∧ t.session x.val = (s.session x.val).replied s x.val 6 0 q.txn []
        ∧ (∀ key, key ∉ ([x.val] : List Nat) → t.session key = s.session key)
        ∧ t.modeCtl = { s.modeCtl with restart := true, restartAt := s.now, cause := 3, arm := none, burst := some (currentFrame s.now + 17) }
        ∧ (s.modeCtl.arm = none → t.regs = s.regs)
        ∧ (s.modeCtl.arm ≠ none → t.bit F.SYS_MODE_STAT_REFUSED = true ∧ t.get F.SYS_MODE_STAT_LAST_REQ = 6)
        ∧ t = { s with regs := t.regs, sessions := t.sessions, modeCtl := t.modeCtl }
        ∧ (∀ adr, adr ∉ ([R.SYS_MODE_STAT] : List Nat) → t.rd adr = s.rd adr)) ∧
  (∀ (x : Fin 256) (q : IvwReq) (s : State),
      s.ivwHead x.val 6 = some q →
      q.body = [] →
      (s.leaving = true ∨ ¬ (s.mode = M.init ∨ s.mode = M.armed ∨ s.mode = M.hold ∨ s.mode = M.service ∨ s.mode = M.quarantine)) →
      ∃ t, exec (.ivwynRestart x) s = .next t
        ∧ t.session x.val = (s.session x.val).replied s x.val 6 6 q.txn []
        ∧ (∀ key, key ∉ ([x.val] : List Nat) → t.session key = s.session key)
        ∧ t.bit F.SYS_MODE_STAT_REFUSED = true
        ∧ t.get F.SYS_MODE_STAT_LAST_REQ = 15
        ∧ t = { s with regs := t.regs, sessions := t.sessions }
        ∧ (∀ adr, adr ∉ ([R.SYS_MODE_STAT] : List Nat) → t.rd adr = s.rd adr)) ∧
  (∀ (x : Fin 256) (q : IvwReq) (s : State),
      s.ivwHead x.val 0x22 = some q →
      (q.body.length ≠ 4 ∨ (fieldBE q.body 0 1 ≠ 5 ∧ fieldBE q.body 0 1 ≠ 6 ∧ fieldBE q.body 0 1 ≠ 8) ∨ (∃ j : Fin 4, 0 < j.val ∧ q.body[j.val]? ≠ some 0)) →
      ∃ t, exec (.ivwynMode x) s = .next t
        ∧ t.session x.val = (s.session x.val).replied s x.val 0x22 (if q.body.length ≠ 4 then 1 else 0xB) q.txn []
        ∧ (∀ key, key ∉ ([x.val] : List Nat) → t.session key = s.session key)
        ∧ t = { s with sessions := t.sessions }) ∧
  (∀ (x : Fin 256) (req : Nat) (q : IvwReq) (r : State) (ok : Bool) (s : State),
      s.ivwHead x.val 0x22 = some q →
      q.body = [req, 0, 0, 0] →
      (req = 5 ∨ req = 6 ∨ req = 8) →
      r = (s.request req false).1 →
      ok = (s.request req false).2 →
      ∃ t, exec (.ivwynMode x) s = .next t
        ∧ t.session x.val = (r.session x.val).replied r x.val 0x22 (if ok = true then 0 else 6) q.txn (bytesBE 4 (r.rdN R.SYS_MODE))
        ∧ (∀ key, key ∉ ([x.val] : List Nat) → t.session key = r.session key)
        ∧ t = { r with sessions := t.sessions }) ∧
  (∀ (x : Fin 256) (req : Nat) (q : IvwReq) (s : State),
      s.ivwHead x.val 0x22 = some q →
      q.body = [req, 0, 0, 0] →
      (req = 5 ∧ s.mode ≠ M.init ∧ s.mode ≠ M.hold ∨ req = 6 ∧ (s.mode ≠ M.armed ∨ s.leaving = true) ∨ req = 8 ∧ ((s.mode ≠ M.armed ∧ s.mode ≠ M.run ∧ s.mode ≠ M.runSpared) ∨ s.leaving = true)) →
      ∃ t, exec (.ivwynMode x) s = .next t
        ∧ t.session x.val = (s.session x.val).replied s x.val 0x22 6 q.txn (bytesBE 4 (s.rdN R.SYS_MODE))
        ∧ (∀ key, key ∉ ([x.val] : List Nat) → t.session key = s.session key)
        ∧ t.bit F.SYS_MODE_STAT_REFUSED = true
        ∧ t.get F.SYS_MODE_STAT_LAST_REQ = req
        ∧ t = { s with regs := t.regs, sessions := t.sessions }
        ∧ (∀ adr, adr ∉ ([R.SYS_MODE_STAT] : List Nat) → t.rd adr = s.rd adr)) ∧
  (∀ (x : Fin 256) (q : IvwReq) (s : State),
      s.ivwHead x.val 0x22 = some q →
      q.body = [8, 0, 0, 0] →
      s.leaving = false →
      (s.mode = M.armed ∨ s.mode = M.run ∨ s.mode = M.runSpared) →
      ∃ t, exec (.ivwynMode x) s = .next t
        ∧ t.mode = M.hold
        ∧ t.bitAt R.SYS_HOLD_CAUSES 0 = true
        ∧ t.isPending 824 = true
        ∧ (t.session x.val).retained.head? = some ⟨0x22, 0, q.txn, bytesBE 4 (t.rdN R.SYS_MODE)⟩
        ∧ (t.session x.val).queue = (s.session x.val).queue.tail
        ∧ t = { s with regs := t.regs, irq := t.irq, sessions := t.sessions, modeCtl := t.modeCtl }
        ∧ (∀ adr, adr ∉ (R.SYS_HOLD_CAUSES :: modeRegs : List Nat) → t.rd adr = s.rd adr)
        ∧ (∀ num dr, num ∉ ([824] : List Nat) → t.slot num dr = s.slot num dr)) ∧
  (∀ (x : Fin 256) (q : IvwReq) (s : State),
      s.ivwHead x.val 0x23 = some q →
      q.body = [] →
      s.alive = true →
      s.bit F.EMN_TRIG_CFG_SNAP_FWD = false →
      s.bit F.SNAP_STAT_FULL = false →
      s.snapNow = false →
      ∃ t, exec (.ivwynSnap x) s = .next t
        ∧ t.bit F.SNAP_STAT_FULL = true
        ∧ t.get F.SNAP_STAT_SRC = 128
        ∧ t.snapAt = some s.now
        ∧ t.isPending 908 = true
        ∧ t.session x.val = (s.session x.val).replied s x.val 0x23 0 q.txn []
        ∧ (∀ key, key ∉ ([x.val] : List Nat) → t.session key = s.session key)
        ∧ t = { s with regs := t.regs, irq := t.irq, ptp := t.ptp, snapAt := t.snapAt, capWait := t.capWait, sessions := t.sessions }) ∧
  (∀ (x : Fin 256) (q : IvwReq) (s : State),
      s.ivwHead x.val 0x23 = some q →
      q.body = [] →
      s.alive = true →
      s.bit F.EMN_TRIG_CFG_SNAP_FWD = true →
      s.regValid R.EMN_TRIG_CFG = true →
      ∃ t, exec (.ivwynSnap x) s = .next t
        ∧ t.emn = { s.emn with trigSeq := s.emn.trigSeq + 1, triggers := s.emn.triggers ++ [⟨true, s.now + s.get F.EMN_TRIG_CFG_BUDGET, 130⟩] }
        ∧ t.emnPort 0 = (s.emnPort 0).says (.urgent 3 (s.get F.EMN_POS_POS) (s.fresh % 2 ^ 24) [s.emn.trigSeq % 256, 0, 0, 0, 0, 0, 0])
        ∧ t.emnPort 1 = (s.emnPort 1).says (.urgent 3 (s.get F.EMN_POS_POS) (s.drawn.fresh % 2 ^ 24) [s.emn.trigSeq % 256, 0, 0, 0, 0, 0, 0])
        ∧ (∀ key, key ∉ ([0, 1] : List Nat) → t.emnPort key = s.emnPort key)
        ∧ t.session x.val = (s.session x.val).replied s x.val 0x23 0 q.txn []
        ∧ (∀ key, key ∉ ([x.val] : List Nat) → t.session key = s.session key)
        ∧ t = { s with free := s.free + 2, emn := t.emn, emnPorts := t.emnPorts, sessions := t.sessions }) ∧
  (∀ (x : Fin 256) (q : IvwReq) (s : State),
      s.ivwHead x.val 0x24 = some q →
      ∃ t, exec (.ivwynSubscribe x) s = .next t
        ∧ t.session x.val = (s.session x.val).replied s x.val 0x24 (if q.body.length ≠ 4 then 1 else if fieldBE q.body 0 4 < 16 then 0 else 0xB) q.txn []
        ∧ (∀ key, key ∉ ([x.val] : List Nat) → t.session key = s.session key)
        ∧ t.rd (R.IVW_S_STATE x.val) = (if q.body.length = 4 ∧ fieldBE q.body 0 4 < 16 then setBitsOf (s.rd (R.IVW_S_STATE x.val)) (F.IVW_S_STATE_MASK x.val).hi (F.IVW_S_STATE_MASK x.val).lo (fieldBE q.body 0 4) else s.rd (R.IVW_S_STATE x.val))
        ∧ t = { s with regs := t.regs, sessions := t.sessions }
        ∧ (∀ adr, adr ∉ ([R.IVW_S_STATE x.val] : List Nat) → t.rd adr = s.rd adr)) ∧
  (∀ (x : Fin 256) (q : IvwReq) (ty w : Nat) (wr : Bool) (i : Instr) (n : Nat) (s : State),
      (ty, w, wr, i) ∈ ([(0x10, 4, false, .ivwynRegRead x), (0x11, 4, true, .ivwynRegWrite x), (0x12, 8, false, .ivwynMemRead x), (0x13, 8, true, .ivwynMemWrite x)] : List (Nat × Nat × Bool × Instr)) →
      s.ivwHead x.val ty = some q →
      n = fieldBE q.body 4 2 →
      (q.body.length < 8 ∨ n < 1 ∨ 1024 < n * w ∨ q.body.length ≠ 8 + (if wr = true then n * w else 0) ∨ fieldBE q.body 6 2 ≠ 0 ∨ (w = 8 ∧ fieldBE q.body 0 4 % 8 ≠ 0)) →
      ∃ t, exec i s = .next t
        ∧ t.session x.val = (s.session x.val).replied s x.val ty (if q.body.length < 8 ∨ n < 1 ∨ 1024 < n * w ∨ q.body.length ≠ 8 + (if wr = true then n * w else 0) then 1 else 0xB) q.txn []
        ∧ (∀ key, key ∉ ([x.val] : List Nat) → t.session key = s.session key)
        ∧ t = { s with sessions := t.sessions }) ∧
  (∀ (x : Fin 256) (a n : Nat) (q : IvwReq) (s : State),
      s.ivwHead x.val 0x10 = some q →
      q.body = bytesBE 4 a ++ bytesBE 2 n ++ [0, 0] →
      a < 2 ^ 32 - 1024 →
      a % 4 = 0 →
      1 ≤ n →
      n ≤ 256 →
      s.bit (F.IVW_S_STATE_OPEN x.val) = true →
      ((s.session x.val).busIdx = 0 ∧ (s.session x.val).busData = []) →
      s.stalls = [] →
      (∀ k : Nat, k < n → ((regRow? (a + 4 * k)).any (fun r => !rowShows ((a + 4 * k - 0x10000000) / 0x10000) r.1.off && r.1.fields.all (fun f => f.acc != .wo && f.acc != .rc)) && s.domOn ((addrDomain (a + 4 * k)).getD 0)) = true) →
      ∃ t, exec (.ivwynRegRead x) s = .next t
        ∧ t.respCode .ivwyn = 0
        ∧ t.session x.val = (s.session x.val).replied s x.val 0x10 0 q.txn ((List.range n).flatMap (fun k => bytesBE 4 (s.rdN (a + 4 * k))))
        ∧ (∀ key, key ∉ ([x.val] : List Nat) → t.session key = s.session key)
        ∧ t = { s with spine := t.spine, sessions := t.sessions }) ∧
  (∀ (x : Fin 256) (a n : Nat) (vs : List Nat) (q : IvwReq) (s : State),
      s.ivwHead x.val 0x11 = some q →
      q.body = bytesBE 4 a ++ bytesBE 2 n ++ [0, 0] ++ vs →
      vs.length = 4 * n →
      a < 2 ^ 32 - 1024 →
      a % 4 = 0 →
      1 ≤ n →
      n ≤ 256 →
      s.bit (F.IVW_S_STATE_OPEN x.val) = true →
      ((s.session x.val).busIdx = 0 ∧ (s.session x.val).busData = []) →
      s.stalls = [] →
      (∀ k : Nat, k < n → ((regRow? (a + 4 * k)).any (fun r => !rowActs ((a + 4 * k - 0x10000000) / 0x10000) r.1.off && r.1.takes (BitVec.ofNat 32 (fieldBE vs (4 * k) 4))) && s.domOn ((addrDomain (a + 4 * k)).getD 0)) = true) →
      (∀ k : Nat, k < n → a + 4 * k ≠ R.IVW_S_STATE x.val) →
      ∃ t, exec (.ivwynRegWrite x) s = .next t
        ∧ t.respCode .ivwyn = 0
        ∧ (∀ k : Nat, k < n → ((regRow? (a + 4 * k)).all (fun r => r.1.fields.all (fun f => bitsOf (t.rd (a + 4 * k)) f.hi f.lo == fieldWritten (s.rd (a + 4 * k)) (BitVec.ofNat 32 (fieldBE vs (4 * k) 4)) f))) = true)
        ∧ t.session x.val = (s.session x.val).replied { s with regs := t.regs } x.val 0x11 0 q.txn []
        ∧ (∀ key, key ∉ ([x.val] : List Nat) → t.session key = s.session key)
        ∧ t = { s with regs := t.regs, spine := t.spine, sessions := t.sessions }
        ∧ (∀ adr, adr ∉ ((List.range n).map (fun k => a + 4 * k) : List Nat) → t.rd adr = s.rd adr)) ∧
  (∀ (x : Fin 256) (a n j c : Nat) (q : IvwReq) (s : State),
      s.ivwHead x.val 0x10 = some q →
      q.body = bytesBE 4 a ++ bytesBE 2 n ++ [0, 0] →
      a < 2 ^ 32 - 1024 →
      a % 4 = 0 →
      j < n →
      n ≤ 256 →
      s.bit (F.IVW_S_STATE_OPEN x.val) = true →
      ((s.session x.val).busIdx = 0 ∧ (s.session x.val).busData = []) →
      s.stalls = [] →
      (∀ k : Nat, k < j → ((regRow? (a + 4 * k)).any (fun r => !rowShows ((a + 4 * k - 0x10000000) / 0x10000) r.1.off && r.1.fields.all (fun f => f.acc != .wo && f.acc != .rc)) && s.domOn ((addrDomain (a + 4 * k)).getD 0)) = true) →
      (c = 1 ∧ spineDecodes (a + 4 * j) = false ∨ c = 4 ∧ spineDecodes (a + 4 * j) = true ∧ s.domOn ((addrDomain (a + 4 * j)).getD 0) = false ∧ s.bit (F.PWR_D_CTL_WOA ((addrDomain (a + 4 * j)).getD 0)) = false) →
      ∃ t, exec (.ivwynRegRead x) s = .next t
        ∧ t.respCode .ivwyn = c
        ∧ t.session x.val = (s.session x.val).replied { s with regs := t.regs } x.val 0x10 5 q.txn (bytesBE 2 j ++ [c, 0])
        ∧ (∀ key, key ∉ ([x.val] : List Nat) → t.session key = s.session key)
        ∧ (s.logTakes .ivwyn = true → t.rdN R.IRQ_BERR_ADDR = a + 4 * j ∧ t.get F.IRQ_BERR_INFO_CODE = c)
        ∧ t.rdN R.IRQ_BERR_COUNT = min 0xFFFFFFFF (s.rdN R.IRQ_BERR_COUNT + 1)
        ∧ (c = 4 → t.isPending 905 = true)
        ∧ t = { s with regs := t.regs, irq := t.irq, spine := t.spine, berrAt := t.berrAt, sessions := t.sessions }
        ∧ (∀ adr, adr ∉ (berrRegs : List Nat) → t.rd adr = s.rd adr)
        ∧ (∀ num dr, num ∉ ([905] : List Nat) → t.slot num dr = s.slot num dr)) ∧
  (∀ (x : Fin 256) (a n ty w d : Nat) (q : IvwReq) (i : Instr) (s : State),
      (ty, w, i) ∈ ([(0x10, 4, .ivwynRegRead x), (0x12, 8, .ivwynMemRead x)] : List (Nat × Nat × Instr)) →
      s.ivwHead x.val ty = some q →
      q.body = bytesBE 4 a ++ bytesBE 2 n ++ [0, 0] →
      a < 2 ^ 32 →
      a % w = 0 →
      1 ≤ n →
      n ≤ 128 →
      ((s.session x.val).busIdx = 0 ∧ (s.session x.val).busData = []) →
      s.stalls = [] →
      spineDecodes a = true →
      d = (addrDomain a).getD 0 →
      s.domOn d = false →
      s.bit (F.PWR_D_CTL_WOA d) = true →
      ∃ t, exec i s = .next t
        ∧ t = { s.wakeDomain d with stalls := [{ dom := d, by_ := .session x.val }], sessions := t.sessions }
        ∧ (∀ key, t.session key = (s.wakeDomain d).session key)) ∧
  (∀ (x : Fin 256) (a n : Nat) (q : IvwReq) (s : State),
      s.ivwHead x.val 0x12 = some q →
      q.body = bytesBE 4 a ++ bytesBE 2 n ++ [0, 0] →
      a < 2 ^ 32 - 1024 →
      a % 8 = 0 →
      1 ≤ n →
      n ≤ 128 →
      s.bit (F.IVW_S_STATE_OPEN x.val) = true →
      ((s.session x.val).busIdx = 0 ∧ (s.session x.val).busData = []) →
      s.stalls = [] →
      (∀ k : Nat, k < n → spineKind (a + 8 * k) = 1 ∧ spineDecodes (a + 8 * k) = true ∧ s.domOn ((addrDomain (a + 8 * k)).getD 0) = true ∧ gridClassify (s.memWord (a + 8 * k)) = .clean) →
      ∃ t, exec (.ivwynMemRead x) s = .next t
        ∧ t.respCode .ivwyn = 0
        ∧ t.session x.val = (s.session x.val).replied s x.val 0x12 0 q.txn ((List.range n).flatMap (fun k => bytesBE 8 ((s.memWord (a + 8 * k)).truncate 64 : BitVec 64).toNat))
        ∧ (∀ key, key ∉ ([x.val] : List Nat) → t.session key = s.session key)
        ∧ t = { s with spine := t.spine, sessions := t.sessions }) ∧
  (∀ (x : Fin 256) (a n : Nat) (vs : List Nat) (q : IvwReq) (s : State),
      s.ivwHead x.val 0x13 = some q →
      q.body = bytesBE 4 a ++ bytesBE 2 n ++ [0, 0] ++ vs →
      vs.length = 8 * n →
      a % 8 = 0 →
      (0x22000000 ≤ a ∧ a + 8 * n ≤ 0x220C0000 ∨ 0x23000000 ≤ a ∧ a + 8 * n ≤ 0x23400000) →
      1 ≤ n →
      n ≤ 128 →
      s.bit (F.IVW_S_STATE_OPEN x.val) = true →
      ((s.session x.val).busIdx = 0 ∧ (s.session x.val).busData = []) →
      s.stalls = [] →
      (∀ k : Nat, k < n → s.domOn ((addrDomain (a + 8 * k)).getD 0) = true) →
      s.claims = [] →
      ∃ t, exec (.ivwynMemWrite x) s = .next t
        ∧ t.respCode .ivwyn = 0
        ∧ (∀ k : Nat, k < n → t.memWord (a + 8 * k) = gridEncode (BitVec.ofNat 64 (fieldBE vs (8 * k) 8)))
        ∧ t.session x.val = (s.session x.val).replied s x.val 0x13 0 q.txn []
        ∧ (∀ key, key ∉ ([x.val] : List Nat) → t.session key = s.session key)
        ∧ t = { s with mem := t.mem, spine := t.spine, sessions := t.sessions }
        ∧ (∀ adr, adr / 8 ∉ ((List.range n).map (fun k => a / 8 + k) : List Nat) → t.memWord adr = s.memWord adr)) ∧
  (∀ (x : Fin 256) (n room : Nat) (ins : List Insert) (q : IvwReq) (s : State),
      s.ivwHead x.val 0x20 = some q →
      n = fieldBE q.body 0 2 →
      1 ≤ n →
      n ≤ 112 →
      q.body.length = 4 + 12 * n →
      fieldBE q.body 2 2 = 0 →
      (∀ k : Nat, k < n → fieldBE q.body (5 + 12 * k) 1 = 0 ∧ fieldBE q.body (6 + 12 * k) 2 < 4096) →
      ins = (List.range n).map (fun k => ⟨fieldBE q.body (4 + 12 * k) 1, fieldBE q.body (6 + 12 * k) 2, BitVec.ofNat 64 (fieldBE q.body (8 + 12 * k) 8), .ivwyn x q.txn⟩) →
      room = (if s.portWaiting 4 = [] then 8 - (s.portFifo 4).length else 0) →
      ∃ t, exec (.ivwynInsert x) s = .next t
        ∧ t.portFifo 4 = s.portFifo 4 ++ ins.take room
        ∧ t.portWaiting 4 = s.portWaiting 4 ++ ins.drop room
        ∧ t.rdN (R.WHEEL_PORT_BUSY 4) = min 0xFFFFFFFF (s.rdN (R.WHEEL_PORT_BUSY 4) + (n - room))
        ∧ t.session x.val = { s.session x.val with running := true, insertLeft := n, insertCodes := [] }
        ∧ t = { s with regs := t.regs, wheel := { s.wheel with ports := t.wheel.ports, waiting := t.wheel.waiting }, sessions := t.sessions }
        ∧ (∀ adr, adr ∉ ([R.WHEEL_PORT_BUSY 4] : List Nat) → t.rd adr = s.rd adr)
        ∧ (∀ key, key ∉ ([x.val] : List Nat) → t.session key = s.session key)
        ∧ (∀ key, key ∉ ([4] : List Nat) → t.portFifo key = s.portFifo key)
        ∧ (∀ key, key ∉ ([4] : List Nat) → t.portWaiting key = s.portWaiting key)) ∧
  (∀ (x : Fin 256) (q : IvwReq) (s : State),
      s.ivwHead x.val 0x20 = some q →
      ((q.body.length < 4 ∨ fieldBE q.body 0 2 < 1 ∨ 112 < fieldBE q.body 0 2 ∨ q.body.length ≠ 4 + 12 * fieldBE q.body 0 2) ∨ fieldBE q.body 2 2 ≠ 0 ∨ ((List.range (fieldBE q.body 0 2)).any (fun k => fieldBE q.body (5 + 12 * k) 1 != 0 || decide (4096 ≤ fieldBE q.body (6 + 12 * k) 2))) = true) →
      ∃ t, exec (.ivwynInsert x) s = .next t
        ∧ t.session x.val = ({ s.session x.val with climit := ((s.session x.val).climit + 1) % 2 ^ 32 } : Session).replied s x.val 0x20 (if q.body.length < 4 ∨ fieldBE q.body 0 2 < 1 ∨ 112 < fieldBE q.body 0 2 ∨ q.body.length ≠ 4 + 12 * fieldBE q.body 0 2 then 1 else 0xB) q.txn []
        ∧ (∀ key, key ∉ ([x.val] : List Nat) → t.session key = s.session key)
        ∧ t = { s with sessions := t.sessions })

/-- Received datagrams, the opening and the end of sessions, firmware buffers (parts of R23, R36, R37, R256, R264, R265, R266, R267, R268, R269, R270, R271, R272, R273, R274, R276, R277, R294, R295, R535, R536, R537, R538). b is the UDP payload of a datagram, tm the later of the moment given and wheel time. "Heard and reached" means that the Ivwyn engine listens on the port of arrival and that the datagram came to the stack's address, the Ivwyn port and the management VLAN. "Passes" means that the tag is right under the session's key and MCTR is above the highest accepted: then the counter, the idle time and the source are kept, and the further rows of R274 apply; otherwise AUTH_FAIL counts and source 740 is raised. Cryptographic functions are open; "refused" keeps and sends an empty response of that status. What a clause does not name stays. (1) IVWYN_DATAGRAM_RX, heard and reached: MAGIC, VER or LENGTH wrong (OPEN has no tag, every other type 16 bytes), more than 1,472 bytes or a body of more than 1,428: BAD_HDR counts. (2) Not heard, or not to that address, port and VLAN: nothing. (3) An OPEN joins those that passed the checks. (4) Another type for a session that is not open, unless it is the CONFIRM that one waits for: NO_SESSION, without a tag, to the source. (5) A message for an open session, or the CONFIRM that one waits for, whose TXN equals a retained response: where it passes, that response is sent again, with a new MCTR, to where the message came from. (6) One whose TXN equals a request still executing: where it passes, it is discarded. (7) One whose TYPE is not defined, or in QUARANTINE is not OPEN, CONFIRM, CLOSE, PING, IDENT or RESTART: where it passes, refused with BAD_TYPE. (8) One whose TYPE the role of the session may not send: where it passes, refused with NOT_PERMITTED. (9) A CONFIRM for a session that waits for none: where it passes, refused with BAD_TYPE. (10) A credited type (INSERT, ROW, APP) whose CSEQ is not below CLIMIT: where it passes, refused with NO_CREDIT; IVW.NO_CREDIT counts and source 741 is raised. (11) A ROW or APP while 8 are in receive buffers or wait for one: where it passes, refused with BUSY, the credit back at once. (12) Any other: where it passes, it is executed: it joins the queue of its session with the address and port it came from, its header and its plaintext. (13) IVWYN_OPEN of the oldest OPEN, resent after its answer: the same answer is sent again. (14) Resent while it is queued: it is dropped. (15) With every session open or awaiting its CONFIRM (256, in QUARANTINE one): SESSIONS_FULL. (16) With fewer than 4 queued, it joins SEC's queue, and SEC, if idle, begins its next piece of work, a CONFIRM before an OPEN; with 4 queued it is discarded and OPEN_DROP counts. (17) With no OPEN to take: nothing. (18) SEC_OPEN_DONE of the OPEN that SEC works on, domain SEC ON: the status st is that of the rows of R536. A status other than OK is answered to the source without a tag, AUTH_REFUSED counts and source 888 is raised (not for SESSIONS_FULL). With OK, the response carries a random nonce, an ephemeral key, the device key and its signature; an unused session number waits for its CONFIRM with the role of the slot and the keys of R535. The answer is kept for a resend, and SEC begins its next piece of work. (19) With no OPEN in SEC's work, or SEC not ON: nothing. (20) IVWYN_CONFIRM of a session whose next request is a CONFIRM: it goes to SEC, ahead of every OPEN, and is being worked. (21) SEC_CONFIRM_DONE of the CONFIRM that SEC works on, domain SEC ON, of a session that no longer waits: nothing but SEC's next piece of work. (22) With a body other than 96 bytes: BAD_LENGTH, and the number still waits. (23) With the host's signature over TH right, a role other than S, or QUARANTINE: the session opens with its role, the host's address and port and the window of CREDITS, OPEN_COUNT is one more, source 737 is raised, the CONFIRM answered OK. With a wrong signature: NOT_PERMITTED, AUTH_REFUSED counts, source 888, and the number is free. (24) Role S outside QUARANTINE, from ARMED or HOLD, free, with no holder of the service: with a right signature the session opens likewise and holds SERVICE, entered with CAUSE 0x40; a wrong one as in clause 24. (25) Role S where the mode no longer allows the service, or another party holds it: with a right signature MODE_ERROR, and the number is free; a wrong one as in clause 24. (26) With SEC not ON, or no CONFIRM in its work: no session changes. (27) CONFIRM_TIMEOUT of a number that waits, with no CONFIRM in its queue, 5 s after the OPEN response: it is free. (28) Otherwise: nothing. (29) SESSION_IDLE_TIMEOUT of an open session that does not hold SERVICE, 5 s after its last accepted message: it closes, and source 738 is raised. (30) Of the session that holds SERVICE, entered from HOLD, no drone halted, free: it closes, and the device is back in HOLD with CAUSE 0x41. (31) Earlier, or of a session that is not open: nothing. (32) IVWYN_ROW or IVWYN_APP, that request next and a receive buffer free, b the lowest: the buffer takes header and body, RXQ the buffer, source 736 is raised, and the 8 ms begin. (33) With no such request next, or no free buffer: it waits. (34) FW_TIMEOUT 8 ms after the delivery of the ROW or APP being worked, firmware having queued no answer to it: it is answered FW_TIMEOUT, counted, and source 739 raised. (35) Otherwise: nothing. (36) IVW_RX_DONE of a buffer in use frees it; its session, if it has not closed since, has one credit more. (37) Of a buffer that is not in use: nothing. (38) IVW_TXQ of a transmit buffer (8-15) that is not queued queues it. (39) Of one that is queued already, or of a receive buffer: PARAM, and it is ignored. Readings and choices of the model that it rests on: log entries 6, 20, 69, 70, 71, 72, 73, 163. -/
def Obligations.IvwynSessions : Prop :=
  (∀ (p : Fin 4) (t0 tm : Nat) (ip : BitVec 32) (port : BitVec 16) (dest : UdpDest) (payload : List (BitVec 8)) (b : List Nat) (s : State),
      s.ivwHears p.val = true →
      s.ivwReached dest = true →
      tm = max s.now t0 →
      b = payload.map BitVec.toNat →
      (b.length < 28 ∨ 1472 < b.length ∨ 1428 < fieldBE b 24 2 ∨ fieldBE b 0 2 ≠ 0x4957 ∨ fieldBE b 2 1 ≠ 1 ∨ b.length ≠ 28 + fieldBE b 24 2 + (if fieldBE b 3 1 = 1 then 0 else 16)) →
      ∃ t, exec (.ivwynDatagramRx p t0 ip port dest payload) s = .next t
        ∧ t.rdN R.IVW_BAD_HDR = min 0xFFFFFFFF (s.rdN R.IVW_BAD_HDR + 1)
        ∧ t = { s with regs := t.regs, now := tm }
        ∧ (∀ adr, adr ∉ ([R.IVW_BAD_HDR] : List Nat) → t.rd adr = s.rd adr)) ∧
  (∀ (p : Fin 4) (t0 : Nat) (ip : BitVec 32) (port : BitVec 16) (dest : UdpDest) (payload : List (BitVec 8)) (s : State),
      (s.ivwHears p.val = false ∨ s.ivwReached dest = false) →
      ∃ t, exec (.ivwynDatagramRx p t0 ip port dest payload) s = .next t
        ∧ t = { s with now := max s.now t0 }) ∧
  (∀ (p : Fin 4) (t0 tm : Nat) (ip : BitVec 32) (port : BitVec 16) (dest : UdpDest) (payload : List (BitVec 8)) (b : List Nat) (s : State),
      s.ivwHears p.val = true →
      s.ivwReached dest = true →
      tm = max s.now t0 →
      b = payload.map BitVec.toNat →
      28 ≤ b.length →
      b.length ≤ 1472 →
      fieldBE b 24 2 ≤ 1428 →
      fieldBE b 0 2 = 0x4957 →
      fieldBE b 2 1 = 1 →
      b.length = 28 + fieldBE b 24 2 + (if fieldBE b 3 1 = 1 then 0 else 16) →
      fieldBE b 3 1 = 1 →
      ∃ t, exec (.ivwynDatagramRx p t0 ip port dest payload) s = .next t
        ∧ t.ivw = { s.ivw with openIn := s.ivw.openIn ++ [⟨ip, port.toNat, fieldBE b 8 4, b.take 28, b.drop 28⟩] }
        ∧ t = { s with now := tm, ivw := t.ivw }) ∧
  (∀ (p : Fin 4) (t0 tm : Nat) (ip : BitVec 32) (port : BitVec 16) (dest : UdpDest) (payload : List (BitVec 8)) (b : List Nat) (s : State),
      s.ivwHears p.val = true →
      s.ivwReached dest = true →
      tm = max s.now t0 →
      b = payload.map BitVec.toNat →
      28 ≤ b.length →
      b.length ≤ 1472 →
      fieldBE b 24 2 ≤ 1428 →
      fieldBE b 0 2 = 0x4957 →
      fieldBE b 2 1 = 1 →
      b.length = 28 + fieldBE b 24 2 + (if fieldBE b 3 1 = 1 then 0 else 16) →
      fieldBE b 3 1 ≠ 1 →
      (256 ≤ fieldBE b 4 2 ∨ (s.bit (F.IVW_S_STATE_OPEN (fieldBE b 4 2)) = false ∧ ((s.session (fieldBE b 4 2)).waiting = false ∨ fieldBE b 3 1 ≠ 2))) →
      ∃ t, exec (.ivwynDatagramRx p t0 ip port dest payload) s = .next t
        ∧ t.ivw = { s.ivw with out := s.datagram ip port.toNat (s.plain (fieldBE b 3 1) 8 (fieldBE b 8 4)) :: s.ivw.out }
        ∧ t = { s with now := tm, free := s.free + 2, ivw := t.ivw }) ∧
  (∀ (p : Fin 4) (t0 tm : Nat) (ip : BitVec 32) (port : BitVec 16) (dest : UdpDest) (payload : List (BitVec 8)) (b : List Nat) (type x txn mctr : Nat) (k : Session) (r : Reply) (s : State),
      s.ivwHears p.val = true →
      s.ivwReached dest = true →
      tm = max s.now t0 →
      b = payload.map BitVec.toNat →
      28 ≤ b.length →
      b.length ≤ 1472 →
      fieldBE b 24 2 ≤ 1428 →
      fieldBE b 0 2 = 0x4957 →
      fieldBE b 2 1 = 1 →
      b.length = 28 + fieldBE b 24 2 + (if fieldBE b 3 1 = 1 then 0 else 16) →
      type = fieldBE b 3 1 →
      x = fieldBE b 4 2 →
      txn = fieldBE b 8 4 →
      mctr = fieldBE b 16 8 →
      x < 256 →
      type ≠ 1 →
      (s.bit (F.IVW_S_STATE_OPEN x) = true ∨ ((s.session x).waiting = true ∧ type = 2)) →
      k = { s.session x with mctrIn := mctr, idleRef := tm, fromIp := ip, fromPort := port.toNat } →
      (s.session x).retained.find? (fun r => r.txn == txn) = some r →
      ∃ t, exec (.ivwynDatagramRx p t0 ip port dest payload) s = .next t
        ∧ ((Config.gcmOpen (s.session x).keyIn (bytesBE 4 1 ++ bytesBE 8 mctr) (b.take 28) (b.drop 28)).isNone = true ∨ mctr ≤ (s.session x).mctrIn → t.session x = s.session x ∧ t.isPending 740 = true ∧ t.rdN R.IVW_AUTH_FAIL = min 0xFFFFFFFF (s.rdN R.IVW_AUTH_FAIL + 1) ∧ t.rd R.IVW_NO_CREDIT = s.rd R.IVW_NO_CREDIT)
        ∧ ((s.session x).mctrIn < mctr → (Config.gcmOpen (s.session x).keyIn (bytesBE 4 1 ++ bytesBE 8 mctr) (b.take 28) (b.drop 28)).all (fun _ => decide (t.session x = k.sends s x ip port.toNat r.type 0x80 r.status txn r.body ∧ t.regs = s.regs ∧ t.irq = s.irq)) = true)
        ∧ t = { s with regs := t.regs, irq := t.irq, now := tm, sessions := t.sessions }
        ∧ (∀ adr, adr ∉ (R.IVW_AUTH_FAIL :: R.IVW_NO_CREDIT :: coalesced : List Nat) → t.rd adr = s.rd adr)
        ∧ (∀ key, key ∉ ([x] : List Nat) → t.session key = s.session key)
        ∧ (∀ num dr, num ∉ ([740, 741] : List Nat) → t.slot num dr = s.slot num dr)) ∧
  (∀ (p : Fin 4) (t0 tm : Nat) (ip : BitVec 32) (port : BitVec 16) (dest : UdpDest) (payload : List (BitVec 8)) (b : List Nat) (type x txn mctr : Nat) (k : Session) (s : State),
      s.ivwHears p.val = true →
      s.ivwReached dest = true →
      tm = max s.now t0 →
      b = payload.map BitVec.toNat →
      28 ≤ b.length →
      b.length ≤ 1472 →
      fieldBE b 24 2 ≤ 1428 →
      fieldBE b 0 2 = 0x4957 →
      fieldBE b 2 1 = 1 →
      b.length = 28 + fieldBE b 24 2 + (if fieldBE b 3 1 = 1 then 0 else 16) →
      type = fieldBE b 3 1 →
      x = fieldBE b 4 2 →
      txn = fieldBE b 8 4 →
      mctr = fieldBE b 16 8 →
      x < 256 →
      type ≠ 1 →
      (s.bit (F.IVW_S_STATE_OPEN x) = true ∨ ((s.session x).waiting = true ∧ type = 2)) →
      k = { s.session x with mctrIn := mctr, idleRef := tm, fromIp := ip, fromPort := port.toNat } →
      ((s.session x).retained.any (fun r => r.txn == txn)) = false →
      ((s.session x).queue.any (fun q => q.txn == txn)) = true →
      ∃ t, exec (.ivwynDatagramRx p t0 ip port dest payload) s = .next t
        ∧ ((Config.gcmOpen (s.session x).keyIn (bytesBE 4 1 ++ bytesBE 8 mctr) (b.take 28) (b.drop 28)).isNone = true ∨ mctr ≤ (s.session x).mctrIn → t.session x = s.session x ∧ t.isPending 740 = true ∧ t.rdN R.IVW_AUTH_FAIL = min 0xFFFFFFFF (s.rdN R.IVW_AUTH_FAIL + 1) ∧ t.rd R.IVW_NO_CREDIT = s.rd R.IVW_NO_CREDIT)
        ∧ ((s.session x).mctrIn < mctr → (Config.gcmOpen (s.session x).keyIn (bytesBE 4 1 ++ bytesBE 8 mctr) (b.take 28) (b.drop 28)).all (fun _ => decide (t.session x = k ∧ t.regs = s.regs ∧ t.irq = s.irq)) = true)
        ∧ t = { s with regs := t.regs, irq := t.irq, now := tm, sessions := t.sessions }
        ∧ (∀ adr, adr ∉ (R.IVW_AUTH_FAIL :: R.IVW_NO_CREDIT :: coalesced : List Nat) → t.rd adr = s.rd adr)
        ∧ (∀ key, key ∉ ([x] : List Nat) → t.session key = s.session key)
        ∧ (∀ num dr, num ∉ ([740, 741] : List Nat) → t.slot num dr = s.slot num dr)) ∧
  (∀ (p : Fin 4) (t0 tm : Nat) (ip : BitVec 32) (port : BitVec 16) (dest : UdpDest) (payload : List (BitVec 8)) (b : List Nat) (type x txn mctr : Nat) (k : Session) (s : State),
      s.ivwHears p.val = true →
      s.ivwReached dest = true →
      tm = max s.now t0 →
      b = payload.map BitVec.toNat →
      28 ≤ b.length →
      b.length ≤ 1472 →
      fieldBE b 24 2 ≤ 1428 →
      fieldBE b 0 2 = 0x4957 →
      fieldBE b 2 1 = 1 →
      b.length = 28 + fieldBE b 24 2 + (if fieldBE b 3 1 = 1 then 0 else 16) →
      type = fieldBE b 3 1 →
      x = fieldBE b 4 2 →
      txn = fieldBE b 8 4 →
      mctr = fieldBE b 16 8 →
      x < 256 →
      type ≠ 1 →
      (s.bit (F.IVW_S_STATE_OPEN x) = true ∨ ((s.session x).waiting = true ∧ type = 2)) →
      k = { s.session x with mctrIn := mctr, idleRef := tm, fromIp := ip, fromPort := port.toNat } →
      ((s.session x).retained.any (fun r => r.txn == txn)) = false →
      ((s.session x).queue.any (fun q => q.txn == txn)) = false →
      ¬ (type ∈ ([1, 2, 3, 4, 5, 6, 0x10, 0x11, 0x12, 0x13, 0x20, 0x21, 0x22, 0x23, 0x24, 0x30, 0x40] : List Nat) ∧ (s.mode = M.quarantine → type ≤ 6)) →
      ∃ t, exec (.ivwynDatagramRx p t0 ip port dest payload) s = .next t
        ∧ ((Config.gcmOpen (s.session x).keyIn (bytesBE 4 1 ++ bytesBE 8 mctr) (b.take 28) (b.drop 28)).isNone = true ∨ mctr ≤ (s.session x).mctrIn → t.session x = s.session x ∧ t.isPending 740 = true ∧ t.rdN R.IVW_AUTH_FAIL = min 0xFFFFFFFF (s.rdN R.IVW_AUTH_FAIL + 1) ∧ t.rd R.IVW_NO_CREDIT = s.rd R.IVW_NO_CREDIT)
        ∧ ((s.session x).mctrIn < mctr → (Config.gcmOpen (s.session x).keyIn (bytesBE 4 1 ++ bytesBE 8 mctr) (b.take 28) (b.drop 28)).all (fun _ => decide (t.session x = k.refuses s x type 2 txn ∧ t.regs = s.regs ∧ t.irq = s.irq)) = true)
        ∧ t = { s with regs := t.regs, irq := t.irq, now := tm, sessions := t.sessions }
        ∧ (∀ adr, adr ∉ (R.IVW_AUTH_FAIL :: R.IVW_NO_CREDIT :: coalesced : List Nat) → t.rd adr = s.rd adr)
        ∧ (∀ key, key ∉ ([x] : List Nat) → t.session key = s.session key)
        ∧ (∀ num dr, num ∉ ([740, 741] : List Nat) → t.slot num dr = s.slot num dr)) ∧
  (∀ (p : Fin 4) (t0 tm : Nat) (ip : BitVec 32) (port : BitVec 16) (dest : UdpDest) (payload : List (BitVec 8)) (b : List Nat) (type x txn mctr : Nat) (k : Session) (s : State),
      s.ivwHears p.val = true →
      s.ivwReached dest = true →
      tm = max s.now t0 →
      b = payload.map BitVec.toNat →
      28 ≤ b.length →
      b.length ≤ 1472 →
      fieldBE b 24 2 ≤ 1428 →
      fieldBE b 0 2 = 0x4957 →
      fieldBE b 2 1 = 1 →
      b.length = 28 + fieldBE b 24 2 + (if fieldBE b 3 1 = 1 then 0 else 16) →
      type = fieldBE b 3 1 →
      x = fieldBE b 4 2 →
      txn = fieldBE b 8 4 →
      mctr = fieldBE b 16 8 →
      x < 256 →
      type ≠ 1 →
      (s.bit (F.IVW_S_STATE_OPEN x) = true ∨ ((s.session x).waiting = true ∧ type = 2)) →
      k = { s.session x with mctrIn := mctr, idleRef := tm, fromIp := ip, fromPort := port.toNat } →
      ((s.session x).retained.any (fun r => r.txn == txn)) = false →
      ((s.session x).queue.any (fun q => q.txn == txn)) = false →
      (type ∈ ([1, 2, 3, 4, 5, 6, 0x10, 0x11, 0x12, 0x13, 0x20, 0x21, 0x22, 0x23, 0x24, 0x30, 0x40] : List Nat) ∧ (s.mode = M.quarantine → type ≤ 6)) →
      ¬ (type ∈ ([1, 2, 3, 4, 5, 0x10, 0x12, 0x24] : List Nat) ∨ (type ∈ ([0x11, 0x13, 0x20, 0x21, 0x22, 0x23, 0x40] : List Nat) ∧ 2 ≤ (s.session x).role) ∨ (type = 6 ∧ (s.session x).role = 3)) →
      ∃ t, exec (.ivwynDatagramRx p t0 ip port dest payload) s = .next t
        ∧ ((Config.gcmOpen (s.session x).keyIn (bytesBE 4 1 ++ bytesBE 8 mctr) (b.take 28) (b.drop 28)).isNone = true ∨ mctr ≤ (s.session x).mctrIn → t.session x = s.session x ∧ t.isPending 740 = true ∧ t.rdN R.IVW_AUTH_FAIL = min 0xFFFFFFFF (s.rdN R.IVW_AUTH_FAIL + 1) ∧ t.rd R.IVW_NO_CREDIT = s.rd R.IVW_NO_CREDIT)
        ∧ ((s.session x).mctrIn < mctr → (Config.gcmOpen (s.session x).keyIn (bytesBE 4 1 ++ bytesBE 8 mctr) (b.take 28) (b.drop 28)).all (fun _ => decide (t.session x = k.refuses s x type 4 txn ∧ t.regs = s.regs ∧ t.irq = s.irq)) = true)
        ∧ t = { s with regs := t.regs, irq := t.irq, now := tm, sessions := t.sessions }
        ∧ (∀ adr, adr ∉ (R.IVW_AUTH_FAIL :: R.IVW_NO_CREDIT :: coalesced : List Nat) → t.rd adr = s.rd adr)
        ∧ (∀ key, key ∉ ([x] : List Nat) → t.session key = s.session key)
        ∧ (∀ num dr, num ∉ ([740, 741] : List Nat) → t.slot num dr = s.slot num dr)) ∧
  (∀ (p : Fin 4) (t0 tm : Nat) (ip : BitVec 32) (port : BitVec 16) (dest : UdpDest) (payload : List (BitVec 8)) (b : List Nat) (type x txn mctr : Nat) (k : Session) (s : State),
      s.ivwHears p.val = true →
      s.ivwReached dest = true →
      tm = max s.now t0 →
      b = payload.map BitVec.toNat →
      28 ≤ b.length →
      b.length ≤ 1472 →
      fieldBE b 24 2 ≤ 1428 →
      fieldBE b 0 2 = 0x4957 →
      fieldBE b 2 1 = 1 →
      b.length = 28 + fieldBE b 24 2 + (if fieldBE b 3 1 = 1 then 0 else 16) →
      type = fieldBE b 3 1 →
      x = fieldBE b 4 2 →
      txn = fieldBE b 8 4 →
      mctr = fieldBE b 16 8 →
      x < 256 →
      type ≠ 1 →
      (s.bit (F.IVW_S_STATE_OPEN x) = true ∨ ((s.session x).waiting = true ∧ type = 2)) →
      k = { s.session x with mctrIn := mctr, idleRef := tm, fromIp := ip, fromPort := port.toNat } →
      ((s.session x).retained.any (fun r => r.txn == txn)) = false →
      ((s.session x).queue.any (fun q => q.txn == txn)) = false →
      type = 2 →
      (s.session x).waiting = false →
      ∃ t, exec (.ivwynDatagramRx p t0 ip port dest payload) s = .next t
        ∧ ((Config.gcmOpen (s.session x).keyIn (bytesBE 4 1 ++ bytesBE 8 mctr) (b.take 28) (b.drop 28)).isNone = true ∨ mctr ≤ (s.session x).mctrIn → t.session x = s.session x ∧ t.isPending 740 = true ∧ t.rdN R.IVW_AUTH_FAIL = min 0xFFFFFFFF (s.rdN R.IVW_AUTH_FAIL + 1) ∧ t.rd R.IVW_NO_CREDIT = s.rd R.IVW_NO_CREDIT)
        ∧ ((s.session x).mctrIn < mctr → (Config.gcmOpen (s.session x).keyIn (bytesBE 4 1 ++ bytesBE 8 mctr) (b.take 28) (b.drop 28)).all (fun _ => decide (t.session x = k.refuses s x type 2 txn ∧ t.regs = s.regs ∧ t.irq = s.irq)) = true)
        ∧ t = { s with regs := t.regs, irq := t.irq, now := tm, sessions := t.sessions }
        ∧ (∀ adr, adr ∉ (R.IVW_AUTH_FAIL :: R.IVW_NO_CREDIT :: coalesced : List Nat) → t.rd adr = s.rd adr)
        ∧ (∀ key, key ∉ ([x] : List Nat) → t.session key = s.session key)
        ∧ (∀ num dr, num ∉ ([740, 741] : List Nat) → t.slot num dr = s.slot num dr)) ∧
  (∀ (p : Fin 4) (t0 tm : Nat) (ip : BitVec 32) (port : BitVec 16) (dest : UdpDest) (payload : List (BitVec 8)) (b : List Nat) (type x txn mctr : Nat) (k : Session) (s : State),
      s.ivwHears p.val = true →
      s.ivwReached dest = true →
      tm = max s.now t0 →
      b = payload.map BitVec.toNat →
      28 ≤ b.length →
      b.length ≤ 1472 →
      fieldBE b 24 2 ≤ 1428 →
      fieldBE b 0 2 = 0x4957 →
      fieldBE b 2 1 = 1 →
      b.length = 28 + fieldBE b 24 2 + (if fieldBE b 3 1 = 1 then 0 else 16) →
      type = fieldBE b 3 1 →
      x = fieldBE b 4 2 →
      txn = fieldBE b 8 4 →
      mctr = fieldBE b 16 8 →
      x < 256 →
      type ≠ 1 →
      (s.bit (F.IVW_S_STATE_OPEN x) = true ∨ ((s.session x).waiting = true ∧ type = 2)) →
      k = { s.session x with mctrIn := mctr, idleRef := tm, fromIp := ip, fromPort := port.toNat } →
      ((s.session x).retained.any (fun r => r.txn == txn)) = false →
      ((s.session x).queue.any (fun q => q.txn == txn)) = false →
      (type ∈ ([1, 2, 3, 4, 5, 6, 0x10, 0x11, 0x12, 0x13, 0x20, 0x21, 0x22, 0x23, 0x24, 0x30, 0x40] : List Nat) ∧ (s.mode = M.quarantine → type ≤ 6)) →
      (type ∈ ([1, 2, 3, 4, 5, 0x10, 0x12, 0x24] : List Nat) ∨ (type ∈ ([0x11, 0x13, 0x20, 0x21, 0x22, 0x23, 0x40] : List Nat) ∧ 2 ≤ (s.session x).role) ∨ (type = 6 ∧ (s.session x).role = 3)) →
      type ∈ ([0x20, 0x21, 0x40] : List Nat) →
      (BitVec.ofNat 32 (s.session x).climit).toInt ≤ (BitVec.ofNat 32 (fieldBE b 12 4)).toInt →
      ∃ t, exec (.ivwynDatagramRx p t0 ip port dest payload) s = .next t
        ∧ ((Config.gcmOpen (s.session x).keyIn (bytesBE 4 1 ++ bytesBE 8 mctr) (b.take 28) (b.drop 28)).isNone = true ∨ mctr ≤ (s.session x).mctrIn → t.session x = s.session x ∧ t.isPending 740 = true ∧ t.rdN R.IVW_AUTH_FAIL = min 0xFFFFFFFF (s.rdN R.IVW_AUTH_FAIL + 1) ∧ t.rd R.IVW_NO_CREDIT = s.rd R.IVW_NO_CREDIT)
        ∧ ((s.session x).mctrIn < mctr → (Config.gcmOpen (s.session x).keyIn (bytesBE 4 1 ++ bytesBE 8 mctr) (b.take 28) (b.drop 28)).all (fun _ => decide (t.session x = k.refuses s x type 3 txn ∧ t.rdN R.IVW_NO_CREDIT = min 0xFFFFFFFF (s.rdN R.IVW_NO_CREDIT + 1) ∧ t.isPending 741 = true ∧ t.rd R.IVW_AUTH_FAIL = s.rd R.IVW_AUTH_FAIL)) = true)
        ∧ t = { s with regs := t.regs, irq := t.irq, now := tm, sessions := t.sessions }
        ∧ (∀ adr, adr ∉ (R.IVW_AUTH_FAIL :: R.IVW_NO_CREDIT :: coalesced : List Nat) → t.rd adr = s.rd adr)
        ∧ (∀ key, key ∉ ([x] : List Nat) → t.session key = s.session key)
        ∧ (∀ num dr, num ∉ ([740, 741] : List Nat) → t.slot num dr = s.slot num dr)) ∧
  (∀ (p : Fin 4) (t0 tm : Nat) (ip : BitVec 32) (port : BitVec 16) (dest : UdpDest) (payload : List (BitVec 8)) (b : List Nat) (type x txn mctr : Nat) (k : Session) (s : State),
      s.ivwHears p.val = true →
      s.ivwReached dest = true →
      tm = max s.now t0 →
      b = payload.map BitVec.toNat →
      28 ≤ b.length →
      b.length ≤ 1472 →
      fieldBE b 24 2 ≤ 1428 →
      fieldBE b 0 2 = 0x4957 →
      fieldBE b 2 1 = 1 →
      b.length = 28 + fieldBE b 24 2 + (if fieldBE b 3 1 = 1 then 0 else 16) →
      type = fieldBE b 3 1 →
      x = fieldBE b 4 2 →
      txn = fieldBE b 8 4 →
      mctr = fieldBE b 16 8 →
      x < 256 →
      type ≠ 1 →
      (s.bit (F.IVW_S_STATE_OPEN x) = true ∨ ((s.session x).waiting = true ∧ type = 2)) →
      k = { s.session x with mctrIn := mctr, idleRef := tm, fromIp := ip, fromPort := port.toNat } →
      ((s.session x).retained.any (fun r => r.txn == txn)) = false →
      ((s.session x).queue.any (fun q => q.txn == txn)) = false →
      (type ∈ ([1, 2, 3, 4, 5, 6, 0x10, 0x11, 0x12, 0x13, 0x20, 0x21, 0x22, 0x23, 0x24, 0x30, 0x40] : List Nat) ∧ (s.mode = M.quarantine → type ≤ 6)) →
      (type ∈ ([1, 2, 3, 4, 5, 0x10, 0x12, 0x24] : List Nat) ∨ (type ∈ ([0x11, 0x13, 0x20, 0x21, 0x22, 0x23, 0x40] : List Nat) ∧ 2 ≤ (s.session x).role) ∨ (type = 6 ∧ (s.session x).role = 3)) →
      (type = 0x21 ∨ type = 0x40) →
      ¬ (BitVec.ofNat 32 (s.session x).climit).toInt ≤ (BitVec.ofNat 32 (fieldBE b 12 4)).toInt →
      8 ≤ s.ivw.rx.length + s.rowsWaiting →
      ∃ t, exec (.ivwynDatagramRx p t0 ip port dest payload) s = .next t
        ∧ ((Config.gcmOpen (s.session x).keyIn (bytesBE 4 1 ++ bytesBE 8 mctr) (b.take 28) (b.drop 28)).isNone = true ∨ mctr ≤ (s.session x).mctrIn → t.session x = s.session x ∧ t.isPending 740 = true ∧ t.rdN R.IVW_AUTH_FAIL = min 0xFFFFFFFF (s.rdN R.IVW_AUTH_FAIL + 1) ∧ t.rd R.IVW_NO_CREDIT = s.rd R.IVW_NO_CREDIT)
        ∧ ((s.session x).mctrIn < mctr → (Config.gcmOpen (s.session x).keyIn (bytesBE 4 1 ++ bytesBE 8 mctr) (b.take 28) (b.drop 28)).all (fun _ => decide (t.session x = ({ k with climit := (k.climit + 1) % 2 ^ 32 } : Session).refuses s x type 7 txn ∧ t.regs = s.regs ∧ t.irq = s.irq)) = true)
        ∧ t = { s with regs := t.regs, irq := t.irq, now := tm, sessions := t.sessions }
        ∧ (∀ adr, adr ∉ (R.IVW_AUTH_FAIL :: R.IVW_NO_CREDIT :: coalesced : List Nat) → t.rd adr = s.rd adr)
        ∧ (∀ key, key ∉ ([x] : List Nat) → t.session key = s.session key)
        ∧ (∀ num dr, num ∉ ([740, 741] : List Nat) → t.slot num dr = s.slot num dr)) ∧
  (∀ (p : Fin 4) (t0 tm : Nat) (ip : BitVec 32) (port : BitVec 16) (dest : UdpDest) (payload : List (BitVec 8)) (b : List Nat) (type x txn mctr : Nat) (k : Session) (s : State),
      s.ivwHears p.val = true →
      s.ivwReached dest = true →
      tm = max s.now t0 →
      b = payload.map BitVec.toNat →
      28 ≤ b.length →
      b.length ≤ 1472 →
      fieldBE b 24 2 ≤ 1428 →
      fieldBE b 0 2 = 0x4957 →
      fieldBE b 2 1 = 1 →
      b.length = 28 + fieldBE b 24 2 + (if fieldBE b 3 1 = 1 then 0 else 16) →
      type = fieldBE b 3 1 →
      x = fieldBE b 4 2 →
      txn = fieldBE b 8 4 →
      mctr = fieldBE b 16 8 →
      x < 256 →
      type ≠ 1 →
      (s.bit (F.IVW_S_STATE_OPEN x) = true ∨ ((s.session x).waiting = true ∧ type = 2)) →
      k = { s.session x with mctrIn := mctr, idleRef := tm, fromIp := ip, fromPort := port.toNat } →
      ((s.session x).retained.any (fun r => r.txn == txn)) = false →
      ((s.session x).queue.any (fun q => q.txn == txn)) = false →
      (type ∈ ([1, 2, 3, 4, 5, 6, 0x10, 0x11, 0x12, 0x13, 0x20, 0x21, 0x22, 0x23, 0x24, 0x30, 0x40] : List Nat) ∧ (s.mode = M.quarantine → type ≤ 6)) →
      (type ∈ ([1, 2, 3, 4, 5, 0x10, 0x12, 0x24] : List Nat) ∨ (type ∈ ([0x11, 0x13, 0x20, 0x21, 0x22, 0x23, 0x40] : List Nat) ∧ 2 ≤ (s.session x).role) ∨ (type = 6 ∧ (s.session x).role = 3)) →
      (type = 2 → (s.session x).waiting = true) →
      (type ∈ ([0x20, 0x21, 0x40] : List Nat) → ¬ (BitVec.ofNat 32 (s.session x).climit).toInt ≤ (BitVec.ofNat 32 (fieldBE b 12 4)).toInt) →
      (type = 0x21 ∨ type = 0x40 → s.ivw.rx.length + s.rowsWaiting < 8) →
      ∃ t, exec (.ivwynDatagramRx p t0 ip port dest payload) s = .next t
        ∧ ((Config.gcmOpen (s.session x).keyIn (bytesBE 4 1 ++ bytesBE 8 mctr) (b.take 28) (b.drop 28)).isNone = true ∨ mctr ≤ (s.session x).mctrIn → t.session x = s.session x ∧ t.isPending 740 = true ∧ t.rdN R.IVW_AUTH_FAIL = min 0xFFFFFFFF (s.rdN R.IVW_AUTH_FAIL + 1) ∧ t.rd R.IVW_NO_CREDIT = s.rd R.IVW_NO_CREDIT)
        ∧ ((s.session x).mctrIn < mctr → (Config.gcmOpen (s.session x).keyIn (bytesBE 4 1 ++ bytesBE 8 mctr) (b.take 28) (b.drop 28)).all (fun body => decide (t.session x = { k with queue := k.queue ++ [⟨type, txn, ip, port.toNat, b.take 28, body⟩] } ∧ t.regs = s.regs ∧ t.irq = s.irq)) = true)
        ∧ t = { s with regs := t.regs, irq := t.irq, now := tm, sessions := t.sessions }
        ∧ (∀ adr, adr ∉ (R.IVW_AUTH_FAIL :: R.IVW_NO_CREDIT :: coalesced : List Nat) → t.rd adr = s.rd adr)
        ∧ (∀ key, key ∉ ([x] : List Nat) → t.session key = s.session key)
        ∧ (∀ num dr, num ∉ ([740, 741] : List Nat) → t.slot num dr = s.slot num dr)) ∧
  (∀ (o : OpenReq) (r : List OpenReq) (a : Word × Nat × Nat × List Nat) (s : State),
      s.ivw.openIn = o :: r →
      (s.ivw.answered.find? (fun a => a.1 == o.ip && a.2.1 == o.port && a.2.2.1 == o.txn)) = some a →
      ∃ t, exec .ivwynOpen s = .next t
        ∧ t.ivw = { s.ivw with openIn := r, out := s.datagram o.ip o.port a.2.2.2 :: s.ivw.out }
        ∧ t = { s with ivw := t.ivw }) ∧
  (∀ (o : OpenReq) (r : List OpenReq) (s : State),
      s.ivw.openIn = o :: r →
      (s.ivw.answered.find? (fun a => a.1 == o.ip && a.2.1 == o.port && a.2.2.1 == o.txn)) = none →
      (s.ivw.opens.any (fun q => q.ip == o.ip && q.port == o.port && q.txn == o.txn)) = true →
      ∃ t, exec .ivwynOpen s = .next t
        ∧ t = { s with ivw := { s.ivw with openIn := r } }) ∧
  (∀ (o : OpenReq) (r : List OpenReq) (s : State),
      s.ivw.openIn = o :: r →
      (s.ivw.answered.find? (fun a => a.1 == o.ip && a.2.1 == o.port && a.2.2.1 == o.txn)) = none →
      (s.ivw.opens.any (fun q => q.ip == o.ip && q.port == o.port && q.txn == o.txn)) = false →
      s.sessionRoom ≤ s.sessionsUsed.length →
      ∃ t, exec .ivwynOpen s = .next t
        ∧ t.ivw = { s.ivw with openIn := r, out := s.datagram o.ip o.port (s.plain 1 0xA o.txn) :: s.ivw.out }
        ∧ t = { s with free := s.free + 2, ivw := t.ivw }) ∧
  (∀ (o : OpenReq) (r : List OpenReq) (s : State),
      s.ivw.openIn = o :: r →
      (s.ivw.answered.find? (fun a => a.1 == o.ip && a.2.1 == o.port && a.2.2.1 == o.txn)) = none →
      (s.ivw.opens.any (fun q => q.ip == o.ip && q.port == o.port && q.txn == o.txn)) = false →
      s.sessionsUsed.length < s.sessionRoom →
      ∃ t, exec .ivwynOpen s = .next t
        ∧ (s.ivw.opens.length < 4 → t.ivw = { s.ivw with openIn := r, opens := s.ivw.opens ++ [o], working := if s.ivw.working ≠ 0 then s.ivw.working else if s.ivw.confirms ≠ [] then 2 else 1 } ∧ t.regs = s.regs)
        ∧ (4 ≤ s.ivw.opens.length → t.ivw = { s.ivw with openIn := r } ∧ t.rdN R.SEC_OPEN_DROP = min 0xFFFFFFFF (s.rdN R.SEC_OPEN_DROP + 1))
        ∧ t = { s with regs := t.regs, ivw := t.ivw }
        ∧ (∀ adr, adr ∉ ([R.SEC_OPEN_DROP] : List Nat) → t.rd adr = s.rd adr)) ∧
  (∀ (s : State),
      s.ivw.openIn = [] →
      ∃ t, exec .ivwynOpen s = .next t
        ∧ t = s) ∧
  (∀ (tm st : Nat) (o : OpenReq) (r : List OpenReq) (s : State),
      s.ivw.opens = o :: r →
      s.ivw.working = 1 →
      s.domOn 19 = true →
      st = (if o.body.length ≠ 232 + fieldBE o.body 2 2 ∨ fieldBE o.body 2 2 < 1 ∨ 1024 < fieldBE o.body 2 2 then 1 else if fieldBE o.body 0 1 ≠ 1 ∨ fieldBE o.body 1 1 ≠ 0 ∨ slice o.body 230 2 ≠ [0, 0] ∨ Config.onCurve (slice o.body 36 97) = false ∨ Config.certKey (slice o.body 232 (fieldBE o.body 2 2)) = none then 0xB else if s.roleOf (slice o.body 133 97) = 0 ∨ Config.certSigned (slice o.body 232 (fieldBE o.body 2 2)) (slice o.body 133 97) = false ∨ s.lifecycle = 3 ∨ s.keyBad = true then 4 else if s.roleOf (slice o.body 133 97) = 3 ∧ (¬ (s.mode = M.armed ∨ s.mode = M.hold ∨ s.mode = M.quarantine) ∨ s.holderOf ≠ 0) then 6 else if s.sessionRoom ≤ s.sessionsUsed.length then 0xA else 0) →
      ∃ t, exec (.secOpenDone tm) s = .next t
        ∧ t.ivw = { s.ivw with opens := r, working := if s.ivw.confirms ≠ [] then 2 else if r ≠ [] then 1 else 0, out := t.ivw.out, answered := s.ivw.answered ++ [(o.ip, o.port, o.txn, (t.ivw.out.head?.map fun d => d.payload).getD [])] }
        ∧ (st ≠ 0 → t.sessions = s.sessions ∧ t.ivw.out = s.datagram o.ip o.port (s.plain 1 st o.txn) :: s.ivw.out ∧ t.free = s.free + 2)
        ∧ (st = 0xA → t.regs = s.regs ∧ t.irq = s.irq)
        ∧ (st ≠ 0 → st ≠ 0xA → t.isPending 888 = true ∧ t.rdN R.SEC_AUTH_REFUSED = min 0xFFFFFFFF (s.rdN R.SEC_AUTH_REFUSED + 1))
        ∧ (st = 0 → t.regs = s.regs ∧ t.irq = s.irq ∧ ((List.range 256).any fun x => (fun (nonce eph resp : List Nat) (k : Session) => decide (s.sessionsUsed.contains x = false ∧ resp = ivwHeader x 1 0x80 0 o.txn (fieldBE resp 12 4) 1 (nonce.length + (Config.ecPublic eph).length + s.devicePub.length + 98) ++ (nonce ++ Config.ecPublic eph ++ s.devicePub ++ [0, 0]) ++ Config.ecdsaSign s.devicePriv (Config.sha384 (o.header ++ o.body ++ resp.take 28 ++ (nonce ++ Config.ecPublic eph ++ s.devicePub ++ [0, 0]))) (Config.freeValue (s.free + 13)).toNat ∧ t.ivw.out = s.datagram o.ip o.port resp :: s.ivw.out ∧ k = { waiting := true, role := s.roleOf (slice o.body 133 97), ip := o.ip, port := o.port, answered := max s.now tm, idleRef := max s.now tm, hostKey := (Config.certKey (slice o.body 232 (fieldBE o.body 2 2))).getD [], th := Config.sha384 (o.header ++ o.body ++ resp), keyIn := (Config.sha384 ([1] ++ Config.ecdhX eph (slice o.body 36 97) ++ k.th)).take 32, keyOut := (Config.sha384 ([2] ++ Config.ecdhX eph (slice o.body 36 97) ++ k.th)).take 32, mctrIn := fieldBE o.header 16 8, mctrOut := 1, fromIp := o.ip, fromPort := o.port, out := (s.session x).out })) (s.drawn.randomBytes 32).2 ((s.drawn.randomBytes 32).1.randomBytes 48).2 ((t.ivw.out.head?.map fun d => d.payload).getD []) (t.session x)) = true)
        ∧ t = { s with regs := t.regs, irq := t.irq, now := max s.now tm, free := t.free, ivw := t.ivw, sessions := t.sessions }
        ∧ (∀ adr, adr ∉ (R.SEC_AUTH_REFUSED :: coalesced : List Nat) → t.rd adr = s.rd adr)
        ∧ (∀ num dr, num ∉ ([888] : List Nat) → t.slot num dr = s.slot num dr)) ∧
  (∀ (tm : Nat) (s : State),
      (s.ivw.opens = [] ∨ s.ivw.working ≠ 1 ∨ s.domOn 19 = false) →
      ∃ t, exec (.secOpenDone tm) s = .next t
        ∧ t = { s with now := max s.now tm }) ∧
  (∀ (x : Fin 256) (q : IvwReq) (s : State),
      s.ivwHead x.val 2 = some q →
      ∃ t, exec (.ivwynConfirm x) s = .next t
        ∧ t.session x.val = { s.session x.val with running := true }
        ∧ t.ivw = { s.ivw with confirms := s.ivw.confirms ++ [(x.val, q.txn, q.body)], working := if s.ivw.working ≠ 0 then s.ivw.working else 2 }
        ∧ t = { s with sessions := t.sessions, ivw := t.ivw }
        ∧ (∀ key, key ∉ ([x.val] : List Nat) → t.session key = s.session key)) ∧
  (∀ (tm : Nat) (x : Fin 256) (txn : Nat) (body : List Nat) (r : List (Nat × Nat × List Nat)) (k : Session) (s : State),
      s.ivw.confirms = (x.val, txn, body) :: r →
      s.ivw.working = 2 →
      s.domOn 19 = true →
      k = s.session x.val →
      k.waiting = false →
      ∃ t, exec (.secConfirmDone tm) s = .next t
        ∧ t.ivw = { s.ivw with confirms := r, working := if r ≠ [] then 2 else if s.ivw.opens ≠ [] then 1 else 0 }
        ∧ t = { s with now := max s.now tm, ivw := t.ivw }) ∧
  (∀ (tm : Nat) (x : Fin 256) (txn : Nat) (body : List Nat) (r : List (Nat × Nat × List Nat)) (k : Session) (s : State),
      s.ivw.confirms = (x.val, txn, body) :: r →
      s.ivw.working = 2 →
      s.domOn 19 = true →
      k = s.session x.val →
      k.waiting = true →
      (k.queue.head?.map fun q => q.txn) = some txn →
      body.length ≠ 96 →
      ∃ t, exec (.secConfirmDone tm) s = .next t
        ∧ t.ivw = { s.ivw with confirms := r, working := if r ≠ [] then 2 else if s.ivw.opens ≠ [] then 1 else 0 }
        ∧ t.session x.val = k.replied s x.val 2 1 txn []
        ∧ t = { s with now := max s.now tm, ivw := t.ivw, sessions := t.sessions }
        ∧ (∀ key, key ∉ ([x.val] : List Nat) → t.session key = s.session key)) ∧
  (∀ (tm : Nat) (x : Fin 256) (txn : Nat) (body : List Nat) (r : List (Nat × Nat × List Nat)) (k : Session) (s : State),
      s.ivw.confirms = (x.val, txn, body) :: r →
      s.ivw.working = 2 →
      s.domOn 19 = true →
      k = s.session x.val →
      k.waiting = true →
      (k.queue.head?.map fun q => q.txn) = some txn →
      (k.role ≠ 3 ∨ s.mode = M.quarantine) →
      k.role < 4 →
      s.bit (F.IVW_S_STATE_OPEN x.val) = false →
      s.get F.IVW_OPEN_COUNT < 256 →
      body.length = 96 →
      (r.all fun c => c.1 != x.val) = true →
      (s.ivw.rx.all fun c => c.session != x.val) = true →
      ∃ t, exec (.secConfirmDone tm) s = .next t
        ∧ t.ivw = { s.ivw with confirms := r, working := if r ≠ [] then 2 else if s.ivw.opens ≠ [] then 1 else 0 }
        ∧ (Config.ecdsaVerify k.hostKey (Config.sha384 (k.th ++ [3])) body = true → t.rd (R.IVW_S_STATE x.val) = setBitsOf (setBitsOf (s.rd (R.IVW_S_STATE x.val)) (F.IVW_S_STATE_OPEN x.val).hi (F.IVW_S_STATE_OPEN x.val).lo 1) (F.IVW_S_STATE_ROLE x.val).hi (F.IVW_S_STATE_ROLE x.val).lo k.role ∧ t.rd (R.IVW_S_PEER_IP x.val) = k.ip ∧ t.rd (R.IVW_S_PEER_PORT x.val) = BitVec.ofNat 32 k.port ∧ t.get F.IVW_OPEN_COUNT = s.get F.IVW_OPEN_COUNT + 1 ∧ t.isPending 737 = true ∧ t.session x.val = ({ k with waiting := false, climit := s.get F.IVW_CFG_CREDITS } : Session).replied s x.val 2 0 txn [])
        ∧ (Config.ecdsaVerify k.hostKey (Config.sha384 (k.th ++ [3])) body = false → t.session x.val = { out := (k.sends s x.val k.fromIp k.fromPort 2 0x80 4 txn []).out } ∧ t.isPending 888 = true ∧ t.rdN R.SEC_AUTH_REFUSED = min 0xFFFFFFFF (s.rdN R.SEC_AUTH_REFUSED + 1) ∧ t.rd (R.IVW_S_STATE x.val) = 0 ∧ t.get F.IVW_OPEN_COUNT = s.get F.IVW_OPEN_COUNT)
        ∧ t = { s with regs := t.regs, irq := t.irq, now := max s.now tm, ivw := t.ivw, sessions := t.sessions }
        ∧ (∀ adr, adr ∉ (R.IVW_OPEN :: R.IVW_S_STATE x.val :: R.IVW_S_PEER_IP x.val :: R.IVW_S_PEER_PORT x.val :: R.SEC_AUTH_REFUSED :: coalesced : List Nat) → t.rd adr = s.rd adr)
        ∧ (∀ key, key ∉ ([x.val] : List Nat) → t.session key = s.session key)
        ∧ (∀ num dr, num ∉ ([737, 888] : List Nat) → t.slot num dr = s.slot num dr)) ∧
  (∀ (tm : Nat) (x : Fin 256) (txn : Nat) (body : List Nat) (r : List (Nat × Nat × List Nat)) (k : Session) (s : State),
      s.ivw.confirms = (x.val, txn, body) :: r →
      s.ivw.working = 2 →
      s.domOn 19 = true →
      k = s.session x.val →
      k.waiting = true →
      (k.queue.head?.map fun q => q.txn) = some txn →
      k.role = 3 →
      (s.mode = M.armed ∨ s.mode = M.hold) →
      s.leaving = false →
      s.modeCtl.arm = none →
      s.holderOf = 0 →
      s.bit (F.IVW_S_STATE_OPEN x.val) = false →
      s.get F.IVW_OPEN_COUNT < 256 →
      body.length = 96 →
      (r.all fun c => c.1 != x.val) = true →
      (s.ivw.rx.all fun c => c.session != x.val) = true →
      ∃ t, exec (.secConfirmDone tm) s = .next t
        ∧ t.ivw = { s.ivw with confirms := r, working := if r ≠ [] then 2 else if s.ivw.opens ≠ [] then 1 else 0 }
        ∧ (Config.ecdsaVerify k.hostKey (Config.sha384 (k.th ++ [3])) body = true → t.rd (R.IVW_S_STATE x.val) = setBitsOf (setBitsOf (s.rd (R.IVW_S_STATE x.val)) (F.IVW_S_STATE_OPEN x.val).hi (F.IVW_S_STATE_OPEN x.val).lo 1) (F.IVW_S_STATE_ROLE x.val).hi (F.IVW_S_STATE_ROLE x.val).lo k.role ∧ t.rd (R.IVW_S_PEER_IP x.val) = k.ip ∧ t.rd (R.IVW_S_PEER_PORT x.val) = BitVec.ofNat 32 k.port ∧ t.get F.IVW_OPEN_COUNT = s.get F.IVW_OPEN_COUNT + 1 ∧ t.isPending 737 = true ∧ t.mode = M.service ∧ t.get F.SYS_MODE_CAUSE = 0x40 ∧ t.get F.SYS_MODE_PREV = s.mode ∧ t.holderOf = 1 ∧ t.get F.SEC_SVC_STAT_SESSION = x.val ∧ t.modeCtl.from_ = s.mode ∧ (t.session x.val).waiting = false ∧ (t.session x.val).retained.head? = some ⟨2, 0, txn, []⟩)
        ∧ (Config.ecdsaVerify k.hostKey (Config.sha384 (k.th ++ [3])) body = false → t.session x.val = { out := (k.sends s x.val k.fromIp k.fromPort 2 0x80 4 txn []).out } ∧ t.isPending 888 = true ∧ t.rdN R.SEC_AUTH_REFUSED = min 0xFFFFFFFF (s.rdN R.SEC_AUTH_REFUSED + 1) ∧ t.rd (R.IVW_S_STATE x.val) = 0 ∧ t.get F.IVW_OPEN_COUNT = s.get F.IVW_OPEN_COUNT)
        ∧ t = { s with regs := t.regs, irq := t.irq, now := max s.now tm, ivw := t.ivw, sessions := t.sessions, modeCtl := t.modeCtl }
        ∧ (∀ adr, adr ∉ (R.IVW_OPEN :: R.IVW_S_STATE x.val :: R.IVW_S_PEER_IP x.val :: R.IVW_S_PEER_PORT x.val :: R.SEC_AUTH_REFUSED :: R.SEC_SVC_STAT :: modeRegs : List Nat) → t.rd adr = s.rd adr)
        ∧ (∀ num dr, num ∉ ([737, 824, 888] : List Nat) → t.slot num dr = s.slot num dr)) ∧
  (∀ (tm : Nat) (x : Fin 256) (txn : Nat) (body : List Nat) (r : List (Nat × Nat × List Nat)) (k : Session) (s : State),
      s.ivw.confirms = (x.val, txn, body) :: r →
      s.ivw.working = 2 →
      s.domOn 19 = true →
      k = s.session x.val →
      k.waiting = true →
      (k.queue.head?.map fun q => q.txn) = some txn →
      k.role = 3 →
      s.mode ≠ M.quarantine →
      (¬ (s.mode = M.armed ∨ s.mode = M.hold) ∨ s.leaving = true ∨ s.holderOf ≠ 0) →
      s.bit (F.IVW_S_STATE_OPEN x.val) = false →
      s.get F.IVW_OPEN_COUNT < 256 →
      body.length = 96 →
      (r.all fun c => c.1 != x.val) = true →
      (s.ivw.rx.all fun c => c.session != x.val) = true →
      ∃ t, exec (.secConfirmDone tm) s = .next t
        ∧ t.ivw = { s.ivw with confirms := r, working := if r ≠ [] then 2 else if s.ivw.opens ≠ [] then 1 else 0 }
        ∧ (Config.ecdsaVerify k.hostKey (Config.sha384 (k.th ++ [3])) body = true → t.session x.val = { out := (k.sends s x.val k.fromIp k.fromPort 2 0x80 6 txn []).out } ∧ t.rd (R.IVW_S_STATE x.val) = 0 ∧ t.irq = s.irq ∧ t.get F.IVW_OPEN_COUNT = s.get F.IVW_OPEN_COUNT)
        ∧ (Config.ecdsaVerify k.hostKey (Config.sha384 (k.th ++ [3])) body = false → t.session x.val = { out := (k.sends s x.val k.fromIp k.fromPort 2 0x80 4 txn []).out } ∧ t.isPending 888 = true ∧ t.rdN R.SEC_AUTH_REFUSED = min 0xFFFFFFFF (s.rdN R.SEC_AUTH_REFUSED + 1) ∧ t.rd (R.IVW_S_STATE x.val) = 0 ∧ t.get F.IVW_OPEN_COUNT = s.get F.IVW_OPEN_COUNT)
        ∧ t = { s with regs := t.regs, irq := t.irq, now := max s.now tm, ivw := t.ivw, sessions := t.sessions }
        ∧ (∀ adr, adr ∉ (R.IVW_OPEN :: R.IVW_S_STATE x.val :: R.IVW_S_PEER_IP x.val :: R.IVW_S_PEER_PORT x.val :: R.SEC_AUTH_REFUSED :: coalesced : List Nat) → t.rd adr = s.rd adr)
        ∧ (∀ key, key ∉ ([x.val] : List Nat) → t.session key = s.session key)
        ∧ (∀ num dr, num ∉ ([737, 888] : List Nat) → t.slot num dr = s.slot num dr)) ∧
  (∀ (tm : Nat) (s : State),
      (s.ivw.confirms = [] ∨ s.ivw.working ≠ 2 ∨ s.domOn 19 = false) →
      ∃ t, exec (.secConfirmDone tm) s = .next t
        ∧ (s.ivw.confirms ≠ [] → t.ivw = s.ivw)
        ∧ t.ivw = { s.ivw with working := t.ivw.working }
        ∧ t = { s with now := max s.now tm, ivw := t.ivw }) ∧
  (∀ (x : Fin 256) (tm : Nat) (s : State),
      (s.session x.val).waiting = true →
      (s.session x.val).queue = [] →
      s.bit (F.IVW_S_STATE_OPEN x.val) = false →
      (s.session x.val).answered + 5 * secCycles ≤ tm →
      ∃ t, exec (.confirmTimeout x tm) s = .next t
        ∧ t.session x.val = { out := (s.session x.val).out }
        ∧ t.rd (R.IVW_S_STATE x.val) = 0
        ∧ t.rd (R.IVW_S_PEER_IP x.val) = 0
        ∧ t.rd (R.IVW_S_PEER_PORT x.val) = 0
        ∧ t.ivw = { s.ivw with rx := s.ivw.rx.map (fun b => if b.session = x.val then { b with live := false } else b), confirms := s.ivw.confirms.filter (fun c => c.1 != x.val) }
        ∧ (∀ key, key ∉ ([x.val] : List Nat) → t.session key = s.session key)
        ∧ t = { s with regs := t.regs, now := max s.now tm, sessions := t.sessions, ivw := t.ivw }
        ∧ t.get F.IVW_OPEN_COUNT = s.get F.IVW_OPEN_COUNT
        ∧ (∀ adr, adr ∉ ([R.IVW_OPEN, R.IVW_S_STATE x.val, R.IVW_S_PEER_IP x.val, R.IVW_S_PEER_PORT x.val] : List Nat) → t.rd adr = s.rd adr)) ∧
  (∀ (x : Fin 256) (tm : Nat) (s : State),
      ((s.session x.val).waiting = false ∨ (s.session x.val).queue ≠ [] ∨ tm < (s.session x.val).answered + 5 * secCycles) →
      ∃ t, exec (.confirmTimeout x tm) s = .next t
        ∧ t = { s with now := max s.now tm }) ∧
  (∀ (x : Fin 256) (tm : Nat) (s : State),
      s.bit (F.IVW_S_STATE_OPEN x.val) = true →
      (s.session x.val).idleRef + 5 * secCycles ≤ tm →
      (s.holderOf ≠ 1 ∨ s.get F.SEC_SVC_STAT_SESSION ≠ x.val) →
      ∃ t, exec (.sessionIdleTimeout x tm) s = .next t
        ∧ t.session x.val = { out := (s.session x.val).out }
        ∧ t.rd (R.IVW_S_STATE x.val) = 0
        ∧ t.rd (R.IVW_S_PEER_IP x.val) = 0
        ∧ t.rd (R.IVW_S_PEER_PORT x.val) = 0
        ∧ t.ivw = { s.ivw with rx := s.ivw.rx.map (fun b => if b.session = x.val then { b with live := false } else b), confirms := s.ivw.confirms.filter (fun c => c.1 != x.val) }
        ∧ (∀ key, key ∉ ([x.val] : List Nat) → t.session key = s.session key)
        ∧ t.get F.IVW_OPEN_COUNT = s.get F.IVW_OPEN_COUNT - 1
        ∧ t.isPending 738 = true
        ∧ t = { s with regs := t.regs, irq := t.irq, now := max s.now tm, sessions := t.sessions, ivw := t.ivw }
        ∧ (∀ adr, adr ∉ (R.IVW_OPEN :: R.IVW_S_STATE x.val :: R.IVW_S_PEER_IP x.val :: R.IVW_S_PEER_PORT x.val :: coalesced : List Nat) → t.rd adr = s.rd adr)
        ∧ (∀ num dr, num ∉ ([738] : List Nat) → t.slot num dr = s.slot num dr)) ∧
  (∀ (x : Fin 256) (tm : Nat) (s : State),
      s.bit (F.IVW_S_STATE_OPEN x.val) = true →
      (s.session x.val).idleRef + 5 * secCycles ≤ tm →
      s.holderOf = 1 →
      s.get F.SEC_SVC_STAT_SESSION = x.val →
      s.mode = M.service →
      s.leaving = false →
      s.modeCtl.from_ = M.hold →
      (∀ d : Nat, d < 4 → (s.drone d).halted = false) →
      ∃ t, exec (.sessionIdleTimeout x tm) s = .next t
        ∧ (t.session x.val).queue = []
        ∧ t.rd (R.IVW_S_STATE x.val) = 0
        ∧ t.rd (R.IVW_S_PEER_IP x.val) = 0
        ∧ t.rd (R.IVW_S_PEER_PORT x.val) = 0
        ∧ t.ivw = { s.ivw with rx := s.ivw.rx.map (fun b => if b.session = x.val then { b with live := false } else b), confirms := s.ivw.confirms.filter (fun c => c.1 != x.val) }
        ∧ t.mode = M.hold
        ∧ t.get F.SYS_MODE_CAUSE = 0x41
        ∧ t.rd R.SEC_SVC_STAT = 0
        ∧ t.rd R.SEC_SVC_CTL = 0
        ∧ t.isPending 738 = true
        ∧ t.isPending 824 = true
        ∧ t = { s with regs := t.regs, irq := t.irq, now := max s.now tm, sessions := t.sessions, ivw := t.ivw, modeCtl := t.modeCtl }
        ∧ (∀ adr, adr ∉ (R.IVW_OPEN :: R.IVW_S_STATE x.val :: R.IVW_S_PEER_IP x.val :: R.IVW_S_PEER_PORT x.val :: R.SEC_SVC_STAT :: R.SEC_SVC_CTL :: modeRegs : List Nat) → t.rd adr = s.rd adr)
        ∧ (∀ num dr, num ∉ ([738, 824] : List Nat) → t.slot num dr = s.slot num dr)) ∧
  (∀ (x : Fin 256) (tm : Nat) (s : State),
      (s.bit (F.IVW_S_STATE_OPEN x.val) = false ∨ tm < (s.session x.val).idleRef + 5 * secCycles) →
      ∃ t, exec (.sessionIdleTimeout x tm) s = .next t
        ∧ t = { s with now := max s.now tm }) ∧
  (∀ (x : Fin 256) (tm ty b : Nat) (y : List Nat) (q : IvwReq) (i : Instr) (s : State),
      (ty, i) ∈ ([(0x21, .ivwynRow x tm), (0x40, .ivwynApp x tm)] : List (Nat × Instr)) →
      s.ivwHead x.val ty = some q →
      b < 8 →
      (s.ivw.rx.any fun r => r.buf == b) = false →
      (∀ j : Nat, j < b → (s.ivw.rx.any fun r => r.buf == j) = true) →
      y = q.header ++ q.body →
      y.length ≤ 2048 →
      ∃ t, exec i s = .next t
        ∧ t.ivw = { s.ivw with rx := s.ivw.rx ++ [{ buf := b, session := x.val, type := ty }] }
        ∧ t.session x.val = { s.session x.val with running := true, fwAt := max s.now tm }
        ∧ (∀ j : Nat, j < (y.length + 3) / 4 → t.rd (R.IVW_BUF b j) = BitVec.ofNat 32 (fieldLE y (4 * j) 4))
        ∧ t.isPending 736 = true
        ∧ t = { s with regs := t.regs, irq := t.irq, now := max s.now tm, sessions := t.sessions, ivw := t.ivw }
        ∧ (∀ adr, adr ∉ ((List.range ((y.length + 3) / 4)).map (R.IVW_BUF b) ++ coalesced : List Nat) → t.rd adr = s.rd adr)
        ∧ (∀ key, key ∉ ([x.val] : List Nat) → t.session key = s.session key)
        ∧ (∀ num dr, num ∉ ([736] : List Nat) → t.slot num dr = s.slot num dr)) ∧
  (∀ (x : Fin 256) (tm ty : Nat) (i : Instr) (s : State),
      (ty, i) ∈ ([(0x21, .ivwynRow x tm), (0x40, .ivwynApp x tm)] : List (Nat × Instr)) →
      (s.ivwHead x.val ty = none ∨ (∀ j : Nat, j < 8 → (s.ivw.rx.any fun r => r.buf == j) = true)) →
      ∃ t, exec i s = .next t
        ∧ t = { s with now := max s.now tm }) ∧
  (∀ (x : Fin 256) (tm : Nat) (q : IvwReq) (r : List IvwReq) (s : State),
      (s.session x.val).queue = q :: r →
      (s.session x.val).running = true →
      (q.type = 0x21 ∨ q.type = 0x40) →
      (s.session x.val).fwAt + 8000 * usCycles ≤ tm →
      (s.ivw.txq.any fun b => (s.bufHead b).2.1 == x.val && (s.bufHead b).2.2 == q.txn && (s.bufHead b).1 != 0x30) = false →
      ∃ t, exec (.fwTimeout x tm) s = .next t
        ∧ t.rdN R.IVW_FW_TIMEOUT = min 0xFFFFFFFF (s.rdN R.IVW_FW_TIMEOUT + 1)
        ∧ t.isPending 739 = true
        ∧ t.session x.val = (s.session x.val).replied s x.val q.type 9 q.txn []
        ∧ t = { s with regs := t.regs, irq := t.irq, now := max s.now tm, sessions := t.sessions }
        ∧ (∀ adr, adr ∉ (R.IVW_FW_TIMEOUT :: coalesced : List Nat) → t.rd adr = s.rd adr)
        ∧ (∀ key, key ∉ ([x.val] : List Nat) → t.session key = s.session key)
        ∧ (∀ num dr, num ∉ ([739] : List Nat) → t.slot num dr = s.slot num dr)) ∧
  (∀ (x : Fin 256) (tm : Nat) (s : State),
      ((s.session x.val).running = false ∨ tm < (s.session x.val).fwAt + 8000 * usCycles ∨ ((s.session x.val).queue.head?.all fun q => (q.type != 0x21 && q.type != 0x40) || (s.ivw.txq.any fun b => (s.bufHead b).2.1 == x.val && (s.bufHead b).2.2 == q.txn && (s.bufHead b).1 != 0x30)) = true) →
      ∃ t, exec (.fwTimeout x tm) s = .next t
        ∧ t = { s with now := max s.now tm }) ∧
  (∀ (ini : Initiator) (buf : Fin 8) (r : RxBuf) (s : State),
      s.sends ini true R.IVW_RX_DONE = true →
      s.domOn 18 = true →
      s.ivw.rx.find? (fun q => q.buf == buf.val) = some r →
      ∃ t, exec (.ivwRxDone ini buf) s = .next t
        ∧ t.respCode ini = 0
        ∧ t.ivw = { s.ivw with rx := s.ivw.rx.filter fun q => q.buf != buf.val }
        ∧ t.session r.session = { s.session r.session with climit := if r.live = true then ((s.session r.session).climit + 1) % 2 ^ 32 else (s.session r.session).climit }
        ∧ t = { s with sessions := t.sessions, ivw := t.ivw, spine := t.spine, sec := { s.sec with tapOut := t.sec.tapOut } }
        ∧ (∀ key, key ∉ ([r.session] : List Nat) → t.session key = s.session key)) ∧
  (∀ (ini : Initiator) (buf : Fin 8) (s : State),
      s.sends ini true R.IVW_RX_DONE = true →
      s.domOn 18 = true →
      (s.ivw.rx.any fun q => q.buf == buf.val) = false →
      ∃ t, exec (.ivwRxDone ini buf) s = .next t
        ∧ t.respCode ini = 0
        ∧ t = { s with spine := t.spine, sec := { s.sec with tapOut := t.sec.tapOut } }) ∧
  (∀ (ini : Initiator) (buf : Fin 16) (s : State),
      s.sends ini true R.IVW_TXQ = true →
      s.domOn 18 = true →
      8 ≤ buf.val →
      s.ivw.txq.contains buf.val = false →
      ∃ t, exec (.ivwTxq ini buf) s = .next t
        ∧ t.respCode ini = 0
        ∧ t.ivw = { s.ivw with txq := s.ivw.txq ++ [buf.val] }
        ∧ t = { s with ivw := t.ivw, spine := t.spine, sec := { s.sec with tapOut := t.sec.tapOut } }) ∧
  (∀ (ini : Initiator) (buf : Fin 16) (s : State),
      s.sends ini true R.IVW_TXQ = true →
      s.domOn 18 = true →
      (buf.val < 8 ∨ s.ivw.txq.contains buf.val = true) →
      ∃ t, exec (.ivwTxq ini buf) s = .next t
        ∧ t.respCode ini = 2
        ∧ t = { s with regs := t.regs, spine := t.spine, berrAt := t.berrAt, engines := t.engines, sec := { s.sec with tapOut := t.sec.tapOut } }
        ∧ (∀ adr, adr ∉ (berrRegs : List Nat) → t.rd adr = s.rd adr)
        ∧ (∀ key, key ∉ (iniEngines ini : List Nat) → t.engine key = s.engine key))

/-- The Ethernet switch: transmission, discards, VLANs, policing, learning, forwarding, ageing and links (parts of R26, R253, R254, R255, R256, R258, R259, R260, R261, R264, R293). SWITCH_FRAME_RX first lets each port of `sent` send one frame, which gives u, then receives the frame f on port p (4 = stack port). What a clause does not name stays. (1) While the network does not serve, or port p is disabled or its link is down, a frame does nothing; wheel time is no earlier than the time of the command. (2) A port with no frame that may start, in no traffic class with an open gate, sends nothing. (3) A port sends the oldest frame of the highest traffic class whose gate lets it start; a frame leaves the buffer when it waits for no other port. A port untags it as the VLAN says. (4) Sent to the stack port it joins the receive queue of 64 frames; a full queue loses it and raises source 718. (5) A gPTP message is sent untagged in traffic class 7; two-step: the departure of a Sync of the grandmaster, or of an answer to a peer delay request, puts its follow-up with the time of departure into the queue. (6) The departure of a Sync that a slave relays puts a Follow_Up into the queue with the origin time of the master and the correction grown by the time that the Sync stayed here; any other gPTP message leaves nothing behind. (7) A PAUSE frame, one of more than 1,522 bytes, with an FCS error or with a second tag is discarded; a network port counts it in RX_ERR and raises its error source. (8) So is a frame whose VID (its tag's, or untagged the PVID of its port) is in no enabled entry of the VLAN table, or whose port is no member; the stack port is a member of the management VLAN only. (9) A best-effort frame beyond the token bucket of its port (RATE in Mb/s, BURST in KiB) is discarded: DROP_BE counts it. (10) Within its bucket, a best-effort frame that finds the buffer filled to BE_THR is discarded: DROP_BE, source 713. (11) A frame of a class below 6 that finds it filled to 95 % and is no best-effort frame of the rows before, or any frame that does not fit, is discarded: DROP_OTHER, source 713. (12) Any other frame is accepted: its source is learned (the first vacant entry of the table takes it) and it waits for its egress ports: the one port of a known unicast address, none if that is its own, else every other member port. (13) A known source is learned again at once, on a new port as well; a static entry stays. (14) With no vacant entry of 4,096 the address is not learned: LEARN_FULL counts it and source 712 is raised; the frame goes on. (15) FDB_AGE_EXPIRY removes the entry of an address that is not static and was last seen AGE_S seconds ago or more, AGE_S having a valid value. (16) Before that, for a static or unknown address, or with an AGE_S that is not valid, it does nothing. (17) ETH_LINK_CHANGE: a link comes up with its speed and raises its link source; the first one makes the stack send a gratuitous ARP. No grandmaster has been chosen. (18) A link that goes down, or whose partner offers only half duplex, which sets HDX, is down and raises its source. No grandmaster has been chosen. (19) With no change of the link only HDX may be set; while NET is not on nothing happens. (20) The loss of the slave port's link, when no other announced master counts and another port takes part, makes the device grandmaster: GM, source 714. (21) A link change while a role has been chosen has these effects and chooses the best master again: what it changes beside them is the gPTP role, PTP_STAT and source 714. Readings and choices of the model that it rests on: log entries 23, 61, 62, 160. -/
def Obligations.TheSwitchForwards : Prop :=
  (∀ (p : Fin 5) (w : Nat) (sent : List (Fin 5)) (f : EthFrame) (s : State),
      (s.netUp = false ∨ s.portOn p.val = false) →
      ∃ t, exec (.switchFrameRx p w sent f) s = .next t
        ∧ t = { s with now := max s.now w }) ∧
  (∀ (q : Fin 5) (w : Nat) (f : EthFrame) (r s : State),
      s.netUp = true →
      f.etype = 0x8808#16 →
      r = s.at_ w →
      (∀ k : Nat, k < 8 → (r.net.frames.find? (fun x => x.ports.contains q.val && x.tc == k)).all (fun x => !r.gateOpen q.val k x.len) = true) →
      ∃ t, exec (.switchFrameRx 4 w [q] f) s = .next t
        ∧ t = { s with now := max s.now w }) ∧
  (∀ (q : Fin 5) (w c : Nat) (f : EthFrame) (g : NetFrame) (r s : State),
      s.netUp = true →
      f.etype = 0x8808#16 →
      r = s.at_ w →
      c < 8 →
      r.net.frames.find? (fun x => x.ports.contains q.val && x.tc == c) = some g →
      r.gateOpen q.val c g.len = true →
      (∀ k : Nat, k < 8 → c < k → (r.net.frames.find? (fun x => x.ports.contains q.val && x.tc == k)).all (fun x => !r.gateOpen q.val k x.len) = true) →
      q.val < 4 →
      g.ptp = none →
      ∃ t, exec (.switchFrameRx 4 w [q] f) s = .next t
        ∧ t.net.frames = dropPort q.val g s.net.frames
        ∧ Sparse.get (fun _ => none) t.net.out q.val = some ⟨g.dst, g.src, g.vid, g.pri, g.len, !(match r.vlanOf g.vid with | some v => (s.get (F.NET_VLAN_B_UNTAG v)).testBit q.val | none => false), none⟩
        ∧ (∀ k, k ≠ q.val → Sparse.get (fun _ => none) t.net.out k = Sparse.get (fun _ => none) s.net.out k)
        ∧ t = { s with now := max s.now w, net := { s.net with frames := t.net.frames, out := t.net.out } }) ∧
  (∀ (q : Fin 5) (w c : Nat) (f : EthFrame) (g : NetFrame) (r s : State),
      s.netUp = true →
      f.etype = 0x8808#16 →
      r = s.at_ w →
      c < 8 →
      r.net.frames.find? (fun x => x.ports.contains q.val && x.tc == c) = some g →
      r.gateOpen q.val c g.len = true →
      (∀ k : Nat, k < 8 → c < k → (r.net.frames.find? (fun x => x.ports.contains q.val && x.tc == k)).all (fun x => !r.gateOpen q.val k x.len) = true) →
      q.val = 4 →
      ∃ t, exec (.switchFrameRx 4 w [q] f) s = .next t
        ∧ t.net.frames = dropPort 4 g s.net.frames
        ∧ t.net.stackQ = (if 64 ≤ s.net.stackQ then s.net.stackQ else s.net.stackQ + 1)
        ∧ (64 ≤ s.net.stackQ → t.isPending 718 = true)
        ∧ (s.net.stackQ < 64 → t.regs = s.regs ∧ t.irq = s.irq)
        ∧ t = { s with regs := t.regs, irq := t.irq, now := max s.now w, net := { s.net with frames := t.net.frames, stackQ := t.net.stackQ } }
        ∧ (∀ adr, adr ∉ (coalesced : List Nat) → t.rd adr = s.rd adr)
        ∧ (∀ num dr, num ∉ ([718] : List Nat) → t.slot num dr = s.slot num dr)) ∧
  (∀ (q : Fin 5) (w n a : Nat) (m x : PtpOut) (f : EthFrame) (g : NetFrame) (r s : State),
      s.netUp = true →
      f.etype = 0x8808#16 →
      r = s.at_ w →
      r.net.frames.find? (fun x => x.ports.contains q.val && x.tc == 7) = some g →
      r.gateOpen q.val 7 g.len = true →
      q.val < 4 →
      s.ptpPort q.val = true →
      g.ptp = some m →
      (m = .sync n ∧ s.ptp.role.all (fun y => y.1) = true ∧ x = .followUp n r.ptpNs 0 ∨ m = .pdelayResp n a ∧ x = .pdelayRespFollowUp n r.ptpNs) →
      ∃ t, exec (.switchFrameRx 4 w [q] f) s = .next t
        ∧ t.net.frames = dropPort q.val g s.net.frames ++ [⟨0x0180C200000E, s.stackMac, 0, 7, 7, x.len, [q.val], some x⟩]
        ∧ Sparse.get (fun _ => none) t.net.out q.val = some ⟨g.dst, g.src, g.vid, g.pri, g.len, false, some m⟩
        ∧ t = { s with now := max s.now w, net := { s.net with frames := t.net.frames, out := t.net.out } }) ∧
  (∀ (q : Fin 5) (w n : Nat) (m : PtpOut) (f : EthFrame) (g : NetFrame) (r s : State),
      s.netUp = true →
      f.etype = 0x8808#16 →
      r = s.at_ w →
      r.net.frames.find? (fun x => x.ports.contains q.val && x.tc == 7) = some g →
      r.gateOpen q.val 7 g.len = true →
      q.val < 4 →
      s.ptpPort q.val = true →
      g.ptp = some m →
      (match m with | .sync k => k == n && !(s.ptp.role.all (fun y => y.1)) | .pdelayResp _ _ => false | _ => true) = true →
      ∃ t, exec (.switchFrameRx 4 w [q] f) s = .next t
        ∧ t.net.frames = dropPort q.val g s.net.frames ++ (if m = .sync n then [⟨0x0180C200000E, s.stackMac, 0, 7, 7, 94, [q.val], some (.followUp n s.ptp.relay.1 (s.ptp.relay.2.1 + ((r.ptpNs : Int) - s.ptp.relay.2.2)))⟩] else [])
        ∧ Sparse.get (fun _ => none) t.net.out q.val = some ⟨g.dst, g.src, g.vid, g.pri, g.len, false, some m⟩
        ∧ t = { s with now := max s.now w, net := { s.net with frames := t.net.frames, out := t.net.out } }) ∧
  (∀ (p : Fin 5) (w : Nat) (sent : List (Fin 5)) (f : EthFrame) (u s : State),
      s.netUp = true →
      s.portOn p.val = true →
      u = sent.foldl (fun (x : State) q => x.transmit q.val) (s.at_ w) →
      (f.etype = 0x8808#16 ∨ 1522 < f.len ∨ f.fcsOk = false ∨ (f.tag.isSome = true ∧ (f.etype = 0x8100#16 ∨ f.etype = 0x88A8#16))) →
      ∃ t, exec (.switchFrameRx p w sent f) s = .next t
        ∧ (p.val = 4 → t = u)
        ∧ (p.val < 4 → t.rdN (R.NET_E_RX_ERR p.val) = min 0xFFFFFFFF (u.rdN (R.NET_E_RX_ERR p.val) + 1) ∧ t.isPending (708 + p.val) = true)
        ∧ t = { u with regs := t.regs, irq := t.irq }
        ∧ (∀ adr, adr ∉ (R.NET_E_RX_ERR p.val :: coalesced : List Nat) → t.rd adr = u.rd adr)
        ∧ (∀ num dr, num ∉ ([708 + p.val] : List Nat) → t.slot num dr = u.slot num dr)) ∧
  (∀ (p : Fin 5) (w vid : Nat) (sent : List (Fin 5)) (f : EthFrame) (u s : State),
      s.netUp = true →
      s.portOn p.val = true →
      u = sent.foldl (fun (x : State) q => x.transmit q.val) (s.at_ w) →
      f.etype ≠ 0x8808#16 →
      f.len ≤ 1522 →
      f.fcsOk = true →
      (f.tag = none ∨ (f.etype ≠ 0x8100#16 ∧ f.etype ≠ 0x88A8#16)) →
      vid = (match f.tag with | some x => x.2.val | none => if p.val < 4 then s.get (F.NET_E_CFG_PVID p.val) else s.get F.NET_SW_VLAN_MVID) →
      (s.vlanOf vid).all (fun i => !s.vlanMember i p.val) = true →
      ∃ t, exec (.switchFrameRx p w sent f) s = .next t
        ∧ (p.val = 4 → t = u)
        ∧ (p.val < 4 → t.rdN (R.NET_E_RX_ERR p.val) = min 0xFFFFFFFF (u.rdN (R.NET_E_RX_ERR p.val) + 1) ∧ t.isPending (708 + p.val) = true)
        ∧ t = { u with regs := t.regs, irq := t.irq }
        ∧ (∀ adr, adr ∉ (R.NET_E_RX_ERR p.val :: coalesced : List Nat) → t.rd adr = u.rd adr)
        ∧ (∀ num dr, num ∉ ([708 + p.val] : List Nat) → t.slot num dr = u.slot num dr)) ∧
  (∀ (p : Fin 5) (w vid i pri tc used : Nat) (sent : List (Fin 5)) (f : EthFrame) (u s : State),
      s.netUp = true →
      s.portOn p.val = true →
      u = sent.foldl (fun (x : State) q => x.transmit q.val) (s.at_ w) →
      f.etype ≠ 0x8808#16 →
      f.len ≤ 1522 →
      f.fcsOk = true →
      (f.tag = none ∨ (f.etype ≠ 0x8100#16 ∧ f.etype ≠ 0x88A8#16)) →
      vid = (match f.tag with | some x => x.2.val | none => if p.val < 4 then s.get (F.NET_E_CFG_PVID p.val) else s.get F.NET_SW_VLAN_MVID) →
      s.vlanOf vid = some i →
      s.vlanMember i p.val = true →
      pri = (if p.val = 4 then s.get F.NET_SW_CFG_STACK_PRI else match f.tag with | some x => x.1.val | none => s.get (F.NET_E_CFG_PRI p.val)) →
      tc = (if p.val < 4 then s.get (F.NET_E_TCMAP_MAP p.val) / 8 ^ pri % 8 else pri) →
      used = (if p.val < 4 then Sparse.get (fun _ => 0) s.net.used p.val - s.get (F.NET_E_POLICE_RATE p.val) * (max s.now w - Sparse.get (fun _ => 0) s.net.usedAt p.val) else 0) →
      p.val < 4 →
      (s.get F.NET_SW_CFG_BE_MASK).testBit tc = true →
      s.get (F.NET_E_POLICE_BURST p.val) * 3276800 < used + f.len * 3200 →
      ∃ t, exec (.switchFrameRx p w sent f) s = .next t
        ∧ t.rdN (R.NET_E_DROP_BE p.val) = min 0xFFFFFFFF (u.rdN (R.NET_E_DROP_BE p.val) + 1)
        ∧ (p.val < 4 → Sparse.get (fun _ => 0) t.net.used p.val = used ∧ Sparse.get (fun _ => 0) t.net.usedAt p.val = max s.now w)
        ∧ (p.val = 4 → t.net.used = s.net.used ∧ t.net.usedAt = s.net.usedAt)
        ∧ (∀ k, k ≠ p.val → Sparse.get (fun _ => 0) t.net.used k = Sparse.get (fun _ => 0) s.net.used k ∧ Sparse.get (fun _ => 0) t.net.usedAt k = Sparse.get (fun _ => 0) s.net.usedAt k)
        ∧ t = { u with regs := t.regs, net := { u.net with used := t.net.used, usedAt := t.net.usedAt } }
        ∧ (∀ adr, adr ∉ ([R.NET_E_DROP_BE p.val] : List Nat) → t.rd adr = u.rd adr)) ∧
  (∀ (p : Fin 5) (w vid i pri tc used : Nat) (sent : List (Fin 5)) (f : EthFrame) (u s : State),
      s.netUp = true →
      s.portOn p.val = true →
      u = sent.foldl (fun (x : State) q => x.transmit q.val) (s.at_ w) →
      f.etype ≠ 0x8808#16 →
      f.len ≤ 1522 →
      f.fcsOk = true →
      (f.tag = none ∨ (f.etype ≠ 0x8100#16 ∧ f.etype ≠ 0x88A8#16)) →
      vid = (match f.tag with | some x => x.2.val | none => if p.val < 4 then s.get (F.NET_E_CFG_PVID p.val) else s.get F.NET_SW_VLAN_MVID) →
      s.vlanOf vid = some i →
      s.vlanMember i p.val = true →
      pri = (if p.val = 4 then s.get F.NET_SW_CFG_STACK_PRI else match f.tag with | some x => x.1.val | none => s.get (F.NET_E_CFG_PRI p.val)) →
      tc = (if p.val < 4 then s.get (F.NET_E_TCMAP_MAP p.val) / 8 ^ pri % 8 else pri) →
      used = (if p.val < 4 then Sparse.get (fun _ => 0) s.net.used p.val - s.get (F.NET_E_POLICE_RATE p.val) * (max s.now w - Sparse.get (fun _ => 0) s.net.usedAt p.val) else 0) →
      (s.get F.NET_SW_CFG_BE_MASK).testBit tc = true →
      (p.val < 4 → ¬ s.get (F.NET_E_POLICE_BURST p.val) * 3276800 < used + f.len * 3200) →
      s.get F.NET_SW_CFG_BE_THR * netBuffer ≤ u.net.occupancy * 16 →
      ∃ t, exec (.switchFrameRx p w sent f) s = .next t
        ∧ (p.val < 4 → t.rdN (R.NET_E_DROP_BE p.val) = min 0xFFFFFFFF (u.rdN (R.NET_E_DROP_BE p.val) + 1))
        ∧ t.isPending 713 = true
        ∧ (p.val < 4 → Sparse.get (fun _ => 0) t.net.used p.val = used ∧ Sparse.get (fun _ => 0) t.net.usedAt p.val = max s.now w)
        ∧ (p.val = 4 → t.net.used = s.net.used ∧ t.net.usedAt = s.net.usedAt)
        ∧ (∀ k, k ≠ p.val → Sparse.get (fun _ => 0) t.net.used k = Sparse.get (fun _ => 0) s.net.used k ∧ Sparse.get (fun _ => 0) t.net.usedAt k = Sparse.get (fun _ => 0) s.net.usedAt k)
        ∧ t = { u with regs := t.regs, irq := t.irq, net := { u.net with used := t.net.used, usedAt := t.net.usedAt } }
        ∧ (∀ adr, adr ∉ ((if p.val < 4 then [R.NET_E_DROP_BE p.val] else []) ++ coalesced : List Nat) → t.rd adr = u.rd adr)
        ∧ (∀ num dr, num ∉ ([713] : List Nat) → t.slot num dr = u.slot num dr)) ∧
  (∀ (p : Fin 5) (w vid i pri tc used : Nat) (sent : List (Fin 5)) (f : EthFrame) (u s : State),
      s.netUp = true →
      s.portOn p.val = true →
      u = sent.foldl (fun (x : State) q => x.transmit q.val) (s.at_ w) →
      f.etype ≠ 0x8808#16 →
      f.len ≤ 1522 →
      f.fcsOk = true →
      (f.tag = none ∨ (f.etype ≠ 0x8100#16 ∧ f.etype ≠ 0x88A8#16)) →
      vid = (match f.tag with | some x => x.2.val | none => if p.val < 4 then s.get (F.NET_E_CFG_PVID p.val) else s.get F.NET_SW_VLAN_MVID) →
      s.vlanOf vid = some i →
      s.vlanMember i p.val = true →
      pri = (if p.val = 4 then s.get F.NET_SW_CFG_STACK_PRI else match f.tag with | some x => x.1.val | none => s.get (F.NET_E_CFG_PRI p.val)) →
      tc = (if p.val < 4 then s.get (F.NET_E_TCMAP_MAP p.val) / 8 ^ pri % 8 else pri) →
      used = (if p.val < 4 then Sparse.get (fun _ => 0) s.net.used p.val - s.get (F.NET_E_POLICE_RATE p.val) * (max s.now w - Sparse.get (fun _ => 0) s.net.usedAt p.val) else 0) →
      ((s.get F.NET_SW_CFG_BE_MASK).testBit tc = true → ¬ s.get F.NET_SW_CFG_BE_THR * netBuffer ≤ u.net.occupancy * 16 ∧ (p.val < 4 → ¬ s.get (F.NET_E_POLICE_BURST p.val) * 3276800 < used + f.len * 3200)) →
      (95 * netBuffer ≤ u.net.occupancy * 100 ∧ tc < 6 ∨ netBuffer < u.net.occupancy + f.len) →
      ∃ t, exec (.switchFrameRx p w sent f) s = .next t
        ∧ (p.val < 4 → t.rdN (R.NET_E_DROP_OTHER p.val) = min 0xFFFFFFFF (u.rdN (R.NET_E_DROP_OTHER p.val) + 1))
        ∧ t.isPending 713 = true
        ∧ (p.val < 4 → Sparse.get (fun _ => 0) t.net.used p.val = used ∧ Sparse.get (fun _ => 0) t.net.usedAt p.val = max s.now w)
        ∧ (p.val = 4 → t.net.used = s.net.used ∧ t.net.usedAt = s.net.usedAt)
        ∧ (∀ k, k ≠ p.val → Sparse.get (fun _ => 0) t.net.used k = Sparse.get (fun _ => 0) s.net.used k ∧ Sparse.get (fun _ => 0) t.net.usedAt k = Sparse.get (fun _ => 0) s.net.usedAt k)
        ∧ t = { u with regs := t.regs, irq := t.irq, net := { u.net with used := t.net.used, usedAt := t.net.usedAt } }
        ∧ (∀ adr, adr ∉ ((if p.val < 4 then [R.NET_E_DROP_OTHER p.val] else []) ++ coalesced : List Nat) → t.rd adr = u.rd adr)
        ∧ (∀ num dr, num ∉ ([713] : List Nat) → t.slot num dr = u.slot num dr)) ∧
  (∀ (p : Fin 5) (w vid i pri tc used e : Nat) (sent : List (Fin 5)) (f : EthFrame) (u s : State),
      s.netUp = true →
      s.portOn p.val = true →
      u = sent.foldl (fun (x : State) q => x.transmit q.val) (s.at_ w) →
      f.etype ≠ 0x8808#16 →
      f.len ≤ 1522 →
      f.fcsOk = true →
      (f.tag = none ∨ (f.etype ≠ 0x8100#16 ∧ f.etype ≠ 0x88A8#16)) →
      vid = (match f.tag with | some x => x.2.val | none => if p.val < 4 then s.get (F.NET_E_CFG_PVID p.val) else s.get F.NET_SW_VLAN_MVID) →
      s.vlanOf vid = some i →
      s.vlanMember i p.val = true →
      pri = (if p.val = 4 then s.get F.NET_SW_CFG_STACK_PRI else match f.tag with | some x => x.1.val | none => s.get (F.NET_E_CFG_PRI p.val)) →
      tc = (if p.val < 4 then s.get (F.NET_E_TCMAP_MAP p.val) / 8 ^ pri % 8 else pri) →
      used = (if p.val < 4 then Sparse.get (fun _ => 0) s.net.used p.val - s.get (F.NET_E_POLICE_RATE p.val) * (max s.now w - Sparse.get (fun _ => 0) s.net.usedAt p.val) else 0) →
      ((s.get F.NET_SW_CFG_BE_MASK).testBit tc = true → ¬ s.get F.NET_SW_CFG_BE_THR * netBuffer ≤ u.net.occupancy * 16 ∧ (p.val < 4 → ¬ s.get (F.NET_E_POLICE_BURST p.val) * 3276800 < used + f.len * 3200)) →
      (u.net.occupancy * 100 < 95 * netBuffer ∨ 6 ≤ tc) →
      u.net.occupancy + f.len ≤ netBuffer →
      s.fdbFind vid f.src.toNat = none →
      (List.range 4096).find? (fun e => !s.fdbUsed.contains e) = some e →
      ∃ t, exec (.switchFrameRx p w sent f) s = .next t
        ∧ t.fdb e = ⟨f.src.toNat, vid % 4096, p.val, false⟩
        ∧ Sparse.get (fun _ => 0) t.net.seen e = max s.now w
        ∧ t.net.frames = u.net.frames ++ (let ports := (match (if Nat.testBit f.dst.toNat 40 then none else t.fdbFind vid f.dst.toNat) with | some d => (if (t.fdb d).port = p.val then [] else [(t.fdb d).port]) | none => [0, 1, 2, 3, 4].filter (fun q => q != p.val && s.vlanMember i q)).filter (fun q => s.portOn q); if ports = [] then [] else [⟨f.dst.toNat, f.src.toNat, vid, pri, tc, f.len, ports, none⟩])
        ∧ (p.val < 4 → Sparse.get (fun _ => 0) t.net.used p.val = (if (s.get F.NET_SW_CFG_BE_MASK).testBit tc = true then used + f.len * 3200 else used) ∧ Sparse.get (fun _ => 0) t.net.usedAt p.val = max s.now w)
        ∧ (p.val = 4 → t.net.used = s.net.used ∧ t.net.usedAt = s.net.usedAt)
        ∧ (∀ k, k ≠ p.val → Sparse.get (fun _ => 0) t.net.used k = Sparse.get (fun _ => 0) s.net.used k ∧ Sparse.get (fun _ => 0) t.net.usedAt k = Sparse.get (fun _ => 0) s.net.usedAt k)
        ∧ t = { u with regs := t.regs, net := { u.net with frames := t.net.frames, seen := t.net.seen, used := t.net.used, usedAt := t.net.usedAt } }
        ∧ (∀ adr, adr ∉ ([R.NET_FDB_A e, R.NET_FDB_B e] : List Nat) → t.rd adr = u.rd adr)) ∧
  (∀ (p : Fin 5) (w vid i pri tc used e : Nat) (sent : List (Fin 5)) (f : EthFrame) (u s : State),
      s.netUp = true →
      s.portOn p.val = true →
      u = sent.foldl (fun (x : State) q => x.transmit q.val) (s.at_ w) →
      f.etype ≠ 0x8808#16 →
      f.len ≤ 1522 →
      f.fcsOk = true →
      (f.tag = none ∨ (f.etype ≠ 0x8100#16 ∧ f.etype ≠ 0x88A8#16)) →
      vid = (match f.tag with | some x => x.2.val | none => if p.val < 4 then s.get (F.NET_E_CFG_PVID p.val) else s.get F.NET_SW_VLAN_MVID) →
      s.vlanOf vid = some i →
      s.vlanMember i p.val = true →
      pri = (if p.val = 4 then s.get F.NET_SW_CFG_STACK_PRI else match f.tag with | some x => x.1.val | none => s.get (F.NET_E_CFG_PRI p.val)) →
      tc = (if p.val < 4 then s.get (F.NET_E_TCMAP_MAP p.val) / 8 ^ pri % 8 else pri) →
      used = (if p.val < 4 then Sparse.get (fun _ => 0) s.net.used p.val - s.get (F.NET_E_POLICE_RATE p.val) * (max s.now w - Sparse.get (fun _ => 0) s.net.usedAt p.val) else 0) →
      ((s.get F.NET_SW_CFG_BE_MASK).testBit tc = true → ¬ s.get F.NET_SW_CFG_BE_THR * netBuffer ≤ u.net.occupancy * 16 ∧ (p.val < 4 → ¬ s.get (F.NET_E_POLICE_BURST p.val) * 3276800 < used + f.len * 3200)) →
      (u.net.occupancy * 100 < 95 * netBuffer ∨ 6 ≤ tc) →
      u.net.occupancy + f.len ≤ netBuffer →
      s.fdbFind vid f.src.toNat = some e →
      ∃ t, exec (.switchFrameRx p w sent f) s = .next t
        ∧ ((s.fdb e).fixed = false → t.fdb e = ⟨f.src.toNat, vid % 4096, p.val, false⟩ ∧ Sparse.get (fun _ => 0) t.net.seen e = max s.now w)
        ∧ ((s.fdb e).fixed = true → t.regs = u.regs ∧ t.net.seen = u.net.seen)
        ∧ t.net.frames = u.net.frames ++ (let ports := (match (if Nat.testBit f.dst.toNat 40 then none else t.fdbFind vid f.dst.toNat) with | some d => (if (t.fdb d).port = p.val then [] else [(t.fdb d).port]) | none => [0, 1, 2, 3, 4].filter (fun q => q != p.val && s.vlanMember i q)).filter (fun q => s.portOn q); if ports = [] then [] else [⟨f.dst.toNat, f.src.toNat, vid, pri, tc, f.len, ports, none⟩])
        ∧ (p.val < 4 → Sparse.get (fun _ => 0) t.net.used p.val = (if (s.get F.NET_SW_CFG_BE_MASK).testBit tc = true then used + f.len * 3200 else used) ∧ Sparse.get (fun _ => 0) t.net.usedAt p.val = max s.now w)
        ∧ (p.val = 4 → t.net.used = s.net.used ∧ t.net.usedAt = s.net.usedAt)
        ∧ (∀ k, k ≠ p.val → Sparse.get (fun _ => 0) t.net.used k = Sparse.get (fun _ => 0) s.net.used k ∧ Sparse.get (fun _ => 0) t.net.usedAt k = Sparse.get (fun _ => 0) s.net.usedAt k)
        ∧ t = { u with regs := t.regs, net := { u.net with frames := t.net.frames, seen := t.net.seen, used := t.net.used, usedAt := t.net.usedAt } }
        ∧ (∀ adr, adr ∉ ([R.NET_FDB_A e, R.NET_FDB_B e] : List Nat) → t.rd adr = u.rd adr)) ∧
  (∀ (p : Fin 5) (w vid i pri tc used : Nat) (sent : List (Fin 5)) (f : EthFrame) (u s : State),
      s.netUp = true →
      s.portOn p.val = true →
      u = sent.foldl (fun (x : State) q => x.transmit q.val) (s.at_ w) →
      f.etype ≠ 0x8808#16 →
      f.len ≤ 1522 →
      f.fcsOk = true →
      (f.tag = none ∨ (f.etype ≠ 0x8100#16 ∧ f.etype ≠ 0x88A8#16)) →
      vid = (match f.tag with | some x => x.2.val | none => if p.val < 4 then s.get (F.NET_E_CFG_PVID p.val) else s.get F.NET_SW_VLAN_MVID) →
      s.vlanOf vid = some i →
      s.vlanMember i p.val = true →
      pri = (if p.val = 4 then s.get F.NET_SW_CFG_STACK_PRI else match f.tag with | some x => x.1.val | none => s.get (F.NET_E_CFG_PRI p.val)) →
      tc = (if p.val < 4 then s.get (F.NET_E_TCMAP_MAP p.val) / 8 ^ pri % 8 else pri) →
      used = (if p.val < 4 then Sparse.get (fun _ => 0) s.net.used p.val - s.get (F.NET_E_POLICE_RATE p.val) * (max s.now w - Sparse.get (fun _ => 0) s.net.usedAt p.val) else 0) →
      ((s.get F.NET_SW_CFG_BE_MASK).testBit tc = true → ¬ s.get F.NET_SW_CFG_BE_THR * netBuffer ≤ u.net.occupancy * 16 ∧ (p.val < 4 → ¬ s.get (F.NET_E_POLICE_BURST p.val) * 3276800 < used + f.len * 3200)) →
      (u.net.occupancy * 100 < 95 * netBuffer ∨ 6 ≤ tc) →
      u.net.occupancy + f.len ≤ netBuffer →
      s.fdbFind vid f.src.toNat = none →
      (List.range 4096).find? (fun e => !s.fdbUsed.contains e) = none →
      ∃ t, exec (.switchFrameRx p w sent f) s = .next t
        ∧ t.rdN R.NET_LEARN_FULL = min 0xFFFFFFFF (u.rdN R.NET_LEARN_FULL + 1)
        ∧ t.isPending 712 = true
        ∧ t.net.frames = u.net.frames ++ (let ports := (match (if Nat.testBit f.dst.toNat 40 then none else t.fdbFind vid f.dst.toNat) with | some d => (if (t.fdb d).port = p.val then [] else [(t.fdb d).port]) | none => [0, 1, 2, 3, 4].filter (fun q => q != p.val && s.vlanMember i q)).filter (fun q => s.portOn q); if ports = [] then [] else [⟨f.dst.toNat, f.src.toNat, vid, pri, tc, f.len, ports, none⟩])
        ∧ (p.val < 4 → Sparse.get (fun _ => 0) t.net.used p.val = (if (s.get F.NET_SW_CFG_BE_MASK).testBit tc = true then used + f.len * 3200 else used) ∧ Sparse.get (fun _ => 0) t.net.usedAt p.val = max s.now w)
        ∧ (p.val = 4 → t.net.used = s.net.used ∧ t.net.usedAt = s.net.usedAt)
        ∧ (∀ k, k ≠ p.val → Sparse.get (fun _ => 0) t.net.used k = Sparse.get (fun _ => 0) s.net.used k ∧ Sparse.get (fun _ => 0) t.net.usedAt k = Sparse.get (fun _ => 0) s.net.usedAt k)
        ∧ t = { u with regs := t.regs, irq := t.irq, net := { u.net with frames := t.net.frames, used := t.net.used, usedAt := t.net.usedAt } }
        ∧ (∀ adr, adr ∉ (R.NET_LEARN_FULL :: coalesced : List Nat) → t.rd adr = u.rd adr)
        ∧ (∀ num dr, num ∉ ([712] : List Nat) → t.slot num dr = u.slot num dr)) ∧
  (∀ (vid : Fin 4096) (mac : BitVec 48) (w e : Nat) (s : State),
      s.fdbFind vid.val mac.toNat = some e →
      (s.fdb e).fixed = false →
      s.regValid R.NET_SW_CFG = true →
      Sparse.get (fun _ => 0) s.net.seen e + s.get F.NET_SW_CFG_AGE_S * secCycles ≤ max s.now w →
      ∃ t, exec (.fdbAgeExpiry vid mac w) s = .next t
        ∧ t.rd (R.NET_FDB_A e) = 0
        ∧ t.rd (R.NET_FDB_B e) = 0
        ∧ t = { s with regs := t.regs, now := max s.now w }
        ∧ (∀ adr, adr ∉ ([R.NET_FDB_A e, R.NET_FDB_B e] : List Nat) → t.rd adr = s.rd adr)) ∧
  (∀ (vid : Fin 4096) (mac : BitVec 48) (w : Nat) (s : State),
      (s.fdbFind vid.val mac.toNat).all (fun e => (s.fdb e).fixed || !s.regValid R.NET_SW_CFG || decide (max s.now w < Sparse.get (fun _ => 0) s.net.seen e + s.get F.NET_SW_CFG_AGE_S * secCycles)) = true →
      ∃ t, exec (.fdbAgeExpiry vid mac w) s = .next t
        ∧ t = { s with now := max s.now w }) ∧
  (∀ (p : Fin 4) (up : Bool) (speed : Fin 3) (half : Bool) (s : State),
      s.domOn 18 = true →
      up = true →
      half = false →
      s.bit (F.NET_E_STAT_LINK p.val) = false →
      s.ptp.role = none →
      ∃ t, exec (.ethLinkChange p up speed half) s = .next t
        ∧ t.bit (F.NET_E_STAT_LINK p.val) = true
        ∧ t.get (F.NET_E_STAT_SPEED p.val) = speed.val
        ∧ t.isPending (704 + p.val) = true
        ∧ t.net = (if s.stackUp = true ∧ ∀ k : Nat, k < 4 → s.bit (F.NET_E_STAT_LINK k) = false then { s.net with stackOut := .gratuitous s.stackAddr s.stackMac :: s.net.stackOut } else s.net)
        ∧ t = { s with regs := t.regs, irq := t.irq, net := t.net }
        ∧ (∀ adr, adr ∉ (R.NET_E_STAT p.val :: coalesced : List Nat) → t.rd adr = s.rd adr)
        ∧ (∀ num dr, num ∉ ([704 + p.val] : List Nat) → t.slot num dr = s.slot num dr)) ∧
  (∀ (p : Fin 4) (up : Bool) (speed : Fin 3) (half : Bool) (s : State),
      s.domOn 18 = true →
      (up = false ∨ half = true) →
      s.bit (F.NET_E_STAT_LINK p.val) = true →
      s.ptp.role = none →
      ∃ t, exec (.ethLinkChange p up speed half) s = .next t
        ∧ t.bit (F.NET_E_STAT_LINK p.val) = false
        ∧ t.bit (F.NET_E_STAT_HDX p.val) = (s.bit (F.NET_E_STAT_HDX p.val) || half)
        ∧ t.isPending (704 + p.val) = true
        ∧ t = { s with regs := t.regs, irq := t.irq }
        ∧ (∀ adr, adr ∉ (R.NET_E_STAT p.val :: coalesced : List Nat) → t.rd adr = s.rd adr)
        ∧ (∀ num dr, num ∉ ([704 + p.val] : List Nat) → t.slot num dr = s.slot num dr)) ∧
  (∀ (p : Fin 4) (up : Bool) (speed : Fin 3) (half : Bool) (s : State),
      (s.domOn 18 = false ∨ s.bit (F.NET_E_STAT_LINK p.val) = (up && !half)) →
      ∃ t, exec (.ethLinkChange p up speed half) s = .next t
        ∧ (s.domOn 18 = false ∨ half = false → t = s)
        ∧ (s.domOn 18 = true → half = true → t.bit (F.NET_E_STAT_HDX p.val) = true)
        ∧ t = { s with regs := t.regs }
        ∧ (∀ adr, adr ∉ ([R.NET_E_STAT p.val] : List Nat) → t.rd adr = s.rd adr)) ∧
  (∀ (p : Fin 4) (up : Bool) (speed : Fin 3) (half : Bool) (s : State),
      s.domOn 18 = true →
      up = false →
      s.bit (F.NET_E_STAT_LINK p.val) = true →
      s.netUp = true →
      s.ptp.role.any (fun x => !x.1 && x.2.1 == p.val) = true →
      s.ptpMasters.all (fun x => x.1 == p.val) = true →
      (∃ k : Fin 4, k ≠ p ∧ s.ptpPort k.val = true) →
      half = false →
      ∃ t, exec (.ethLinkChange p up speed half) s = .next t
        ∧ t.bit (F.NET_E_STAT_LINK p.val) = false
        ∧ t.isPending (704 + p.val) = true
        ∧ t.bit F.NET_PTP_STAT_GM = true
        ∧ t.get F.NET_PTP_STAT_SLAVE_PORT = 0
        ∧ t.ptp = { s.ptp with role := some (true, 0, s.ownVector.ident) }
        ∧ t.isPending 714 = true
        ∧ t = { s with regs := t.regs, irq := t.irq, ptp := t.ptp }
        ∧ (∀ adr, adr ∉ (R.NET_E_STAT p.val :: R.NET_PTP_STAT :: coalesced : List Nat) → t.rd adr = s.rd adr)
        ∧ (∀ num dr, num ∉ ([704 + p.val, 714] : List Nat) → t.slot num dr = s.slot num dr)) ∧
  (∀ (p : Fin 4) (up : Bool) (speed : Fin 3) (half : Bool) (s : State),
      s.domOn 18 = true →
      s.bit (F.NET_E_STAT_LINK p.val) ≠ (up && !half) →
      s.ptp.role.isSome = true →
      ∃ t, exec (.ethLinkChange p up speed half) s = .next t
        ∧ t.bit (F.NET_E_STAT_LINK p.val) = (up && !half)
        ∧ t.bit (F.NET_E_STAT_HDX p.val) = (s.bit (F.NET_E_STAT_HDX p.val) || half)
        ∧ t.isPending (704 + p.val) = true
        ∧ t.net = (if up = true ∧ half = false ∧ s.stackUp = true ∧ ∀ k : Nat, k < 4 → s.bit (F.NET_E_STAT_LINK k) = false then { s.net with stackOut := .gratuitous s.stackAddr s.stackMac :: s.net.stackOut } else s.net)
        ∧ t.ptp = { s.ptp with role := t.ptp.role }
        ∧ (t.ptp.role ≠ s.ptp.role → t.isPending 714 = true)
        ∧ t = { s with regs := t.regs, irq := t.irq, net := t.net, ptp := t.ptp }
        ∧ (∀ adr, adr ∉ (R.NET_E_STAT p.val :: R.NET_PTP_STAT :: coalesced : List Nat) → t.rd adr = s.rd adr)
        ∧ (∀ num dr, num ∉ ([704 + p.val, 714] : List Nat) → t.slot num dr = s.slot num dr))

/-- Gate control lists, gPTP, the capture unit and the IPv4 stack (parts of R3, R5, R26, R253, R258, R260, R261, R262, R263, R264, R265, R277, R293, R501). gPTP messages of this device wait in the switch for their ports in traffic class 7. What a clause does not name stays. The message lengths, the announce interval and the order of the master vectors are the model's, taken from IEEE 802.1AS. (1) GCL_CTL.CHANGE with 1 to 256 entries and no reserved INTERVAL among them: the administrative list waits, CHANGE and PENDING read 1. (2) With a reserved INTERVAL among the first LEN entries it is refused: GCL_ERR, CHANGE reads 0, source 717. (3) So it is with LEN 0, which is no value of its field: the answer is PARAM, logged. (4) GCL_SWAP at the first cycle start (BASE, or BASE and whole cycles, in gPTP time) at or after BASE while PENDING: the list becomes operational, CHANGE and PENDING read 0, source 716. (5) Not pending, or at no such cycle start, it does nothing. (6) GCL_ENTRY_ADVANCE: entry i of the operational list is in force, where the time in the cycle lies between its start and its end, the last entry being held to the end of the cycle. (7) With no operational list it does nothing. (8) PTP_MESSAGE_RX on a port that does not take part (gPTP off, disabled, link down, network not serving) does nothing. (9) A Sync on the slave port of the domain PTP_CFG.DOMAIN is stamped with gPTP time. (10) In another domain, or on another port, it does nothing. (11) Its Follow_Up gives PTP_OFFSET, the stamp less the origin time, the correction and the delay of the link; SYNCED is 1; the servo steers the increment (a free value) from the gPTP time of now; a Sync goes to every other port that takes part. (12) A Follow_Up of another Sync, domain or port does nothing. (13) An Announce of another clock in the domain is heard, and the best master of those heard within 3 s and of this clock is chosen: it is grandmaster when its own vector is better than every one heard, else slave of the best, with fewer steps and then a lower port deciding. A new role or grandmaster is shown in PTP_STAT and raises source 714. (14) An Announce in another domain or of this clock does nothing. (15) A peer delay request of any domain is answered on its port, with the time of its arrival. (16) The completed exchange of a request that is outstanding on its port gives the delay of the link; another one does nothing. (17) PTP_SYNC_INTERVAL chooses the best master again, as above, which gives u. A grandmaster then sends a Sync on every port that takes part. (18) A slave sends none. (19) When a second has passed since the last Announce, a grandmaster sends its Syncs, and an Announce and a peer delay request on each of these ports. (20) A slave then sends a peer delay request on each, and on each but the slave port an Announce of its master, one step further. (21) With no port that takes part it does nothing. (22) PTP_SYNC_LOST: a slave with no Sync for 3 sync intervals raises source 715. (23) Earlier, of no slave, or while the network does not serve, it does nothing. (24) XCAP_CTL.GO while it is enabled captures wheel time and gPTP time of the same cycle, with SRC 1; over an unread capture XCAP_LOST is set; source 719. (25) Not enabled, it captures nothing. (26) The rollover of the gPTP seconds captures likewise with SRC 2 while it is enabled and NET is on. (27) Else it does nothing. (28) The stack serves while the network does, and in QUARANTINE. IP_DATAGRAM_RX takes a frame from its queue; a datagram with options, a fragment, one with a bad header or UDP checksum, for another address, or of UDP for another port than the Ivwyn port, is discarded and counted in IP_DROP. (29) An ARP request for its address is answered, and the asker enters the ARP cache in place of its old entry; a full cache of 64 gives up one entry, which one the spec does not say. (30) One for another address only leaves the queue. (31) An ICMP echo request with up to 1,472 bytes of data is answered, with TTL 64 and DF 1, by the next hop: the sender within the mask of the stack, else the gateway. (32) While the stack does not serve, a datagram, an ARP request or an echo request does nothing (wheel time is no earlier than the command's); nor does an echo request with more data. (33) ARP_CACHE_EXPIRY removes the entry of an address 60 s after it was made, and no other. (34) IP_ADDR takes the written address, and the stack sends a gratuitous ARP for it. Readings and choices of the model that it rests on: log entries 3, 15, 19, 74, 160. -/
def Obligations.ScheduledTrafficAndTime : Prop :=
  (∀ (ini : Initiator) (p : Fin 4) (s : State),
      s.sends ini true (R.NET_E_GCL_CTL p.val) = true →
      s.domOn 18 = true →
      0 < s.get (F.NET_E_GCL_CTL_LEN p.val) →
      s.get (F.NET_E_GCL_CTL_LEN p.val) ≤ 256 →
      (∀ i : Nat, i < s.get (F.NET_E_GCL_CTL_LEN p.val) → s.get (F.NET_GCL_ADMIN_INTERVAL p.val i) ≠ 0) →
      ∃ t, exec (.gclChange ini p) s = .next t
        ∧ t.respCode ini = 0
        ∧ t.bit (F.NET_E_GCL_CTL_PENDING p.val) = true
        ∧ t.bit (F.NET_E_GCL_CTL_CHANGE p.val) = true
        ∧ t.get (F.NET_E_GCL_CTL_LEN p.val) = s.get (F.NET_E_GCL_CTL_LEN p.val)
        ∧ t.bit (F.NET_E_GCL_CTL_EN p.val) = s.bit (F.NET_E_GCL_CTL_EN p.val)
        ∧ t = { s with regs := t.regs, spine := t.spine, sec := { s.sec with tapOut := t.sec.tapOut } }
        ∧ (∀ adr, adr ∉ ([R.NET_E_GCL_CTL p.val] : List Nat) → t.rd adr = s.rd adr)) ∧
  (∀ (ini : Initiator) (p : Fin 4) (s : State),
      s.sends ini true (R.NET_E_GCL_CTL p.val) = true →
      s.domOn 18 = true →
      s.get (F.NET_E_GCL_CTL_LEN p.val) ≤ 256 →
      (∃ i : Nat, i < s.get (F.NET_E_GCL_CTL_LEN p.val) ∧ s.get (F.NET_GCL_ADMIN_INTERVAL p.val i) = 0) →
      ∃ t, exec (.gclChange ini p) s = .next t
        ∧ t.respCode ini = 0
        ∧ t.bit (F.NET_E_GCL_CTL_GCL_ERR p.val) = true
        ∧ t.bit (F.NET_E_GCL_CTL_CHANGE p.val) = false
        ∧ t.bit (F.NET_E_GCL_CTL_PENDING p.val) = s.bit (F.NET_E_GCL_CTL_PENDING p.val)
        ∧ t.isPending 717 = true
        ∧ t = { s with regs := t.regs, irq := t.irq, spine := t.spine, sec := { s.sec with tapOut := t.sec.tapOut } }
        ∧ (∀ adr, adr ∉ (R.NET_E_GCL_CTL p.val :: coalesced : List Nat) → t.rd adr = s.rd adr)
        ∧ (∀ num dr, num ∉ ([717] : List Nat) → t.slot num dr = s.slot num dr)) ∧
  (∀ (ini : Initiator) (p : Fin 4) (s : State),
      s.sends ini true (R.NET_E_GCL_CTL p.val) = true →
      s.domOn 18 = true →
      s.get (F.NET_E_GCL_CTL_LEN p.val) = 0 →
      ∃ t, exec (.gclChange ini p) s = .next t
        ∧ t.respCode ini = 2
        ∧ t.bit (F.NET_E_GCL_CTL_GCL_ERR p.val) = true
        ∧ t.bit (F.NET_E_GCL_CTL_CHANGE p.val) = false
        ∧ t.bit (F.NET_E_GCL_CTL_PENDING p.val) = s.bit (F.NET_E_GCL_CTL_PENDING p.val)
        ∧ t.isPending 717 = true
        ∧ t = { s with regs := t.regs, irq := t.irq, spine := t.spine, sec := { s.sec with tapOut := t.sec.tapOut }, berrAt := t.berrAt, engines := t.engines }
        ∧ (∀ adr, adr ∉ (R.NET_E_GCL_CTL p.val :: coalesced ++ berrRegs : List Nat) → t.rd adr = s.rd adr)
        ∧ (∀ num dr, num ∉ ([717] : List Nat) → t.slot num dr = s.slot num dr)
        ∧ (∀ key, key ∉ (iniEngines ini : List Nat) → t.engine key = s.engine key)) ∧
  (∀ (p : Fin 4) (w : Nat) (s : State),
      s.bit (F.NET_E_GCL_CTL_PENDING p.val) = true →
      (s.at_ w).cycleStarts p.val = true →
      ∃ t, exec (.gclSwap p w) s = .next t
        ∧ (∀ i : Nat, i < 256 → t.rd (R.NET_GCL_OPER p.val i) = s.rd (R.NET_GCL_ADMIN p.val i))
        ∧ t.gcl p.val = ⟨s.get (F.NET_E_GCL_CTL_LEN p.val), s.get (F.NET_E_GCL_CYCLE_CYCLE_NS p.val), s.gclBase p.val, 0⟩
        ∧ (∀ k, k ≠ p.val → t.gcl k = s.gcl k)
        ∧ t.bit (F.NET_E_GCL_CTL_PENDING p.val) = false
        ∧ t.bit (F.NET_E_GCL_CTL_CHANGE p.val) = false
        ∧ t.isPending 716 = true
        ∧ t = { s with regs := t.regs, irq := t.irq, now := max s.now w, net := { s.net with gcl := t.net.gcl } }
        ∧ (∀ adr, adr ∉ (R.NET_E_GCL_CTL p.val :: coalesced ++ (List.range 256).map (R.NET_GCL_OPER p.val) : List Nat) → t.rd adr = s.rd adr)
        ∧ (∀ num dr, num ∉ ([716] : List Nat) → t.slot num dr = s.slot num dr)) ∧
  (∀ (p : Fin 4) (w : Nat) (s : State),
      (s.bit (F.NET_E_GCL_CTL_PENDING p.val) = false ∨ (s.at_ w).cycleStarts p.val = false) →
      ∃ t, exec (.gclSwap p w) s = .next t
        ∧ t = { s with now := max s.now w }) ∧
  (∀ (p : Fin 4) (w i off : Nat) (s : State),
      off = ((s.at_ w).ptpNs - (s.gcl p.val).base) % (s.gcl p.val).cycle →
      i < (s.gcl p.val).len →
      s.gclStart p.val i ≤ off →
      (i + 1 = (s.gcl p.val).len ∨ off < s.gclStart p.val (i + 1)) →
      ∃ t, exec (.gclEntryAdvance p w) s = .next t
        ∧ t.gcl p.val = { s.gcl p.val with idx := i }
        ∧ (∀ k, k ≠ p.val → t.gcl k = s.gcl k)
        ∧ t = { s with now := max s.now w, net := { s.net with gcl := t.net.gcl } }) ∧
  (∀ (p : Fin 4) (w : Nat) (s : State),
      (s.gcl p.val).len = 0 →
      ∃ t, exec (.gclEntryAdvance p w) s = .next t
        ∧ t = { s with now := max s.now w }) ∧
  (∀ (p : Fin 4) (w : Nat) (dom : Fin 256) (m : PtpMsg) (s : State),
      (s.netUp = false ∨ s.ptpPort p.val = false) →
      ∃ t, exec (.ptpMessageRx p w dom m) s = .next t
        ∧ t = { s with now := max s.now w }) ∧
  (∀ (p : Fin 4) (w : Nat) (dom : Fin 256) (q : BitVec 16) (s : State),
      s.netUp = true →
      s.ptpPort p.val = true →
      dom.val = s.get F.NET_PTP_CFG_DOMAIN →
      s.ptp.role.any (fun x => !x.1 && x.2.1 == p.val) = true →
      ∃ t, exec (.ptpMessageRx p w dom (.sync q)) s = .next t
        ∧ t.ptp = { s.ptp with lastSync := max s.now w, stamp := (s.at_ w).ptpNs, syncSeq := q.toNat }
        ∧ t = { s with now := max s.now w, ptp := t.ptp }) ∧
  (∀ (p : Fin 4) (w : Nat) (dom : Fin 256) (q : BitVec 16) (s : State),
      s.netUp = true →
      s.ptpPort p.val = true →
      (dom.val ≠ s.get F.NET_PTP_CFG_DOMAIN ∨ s.ptp.role.all (fun x => x.1 || x.2.1 != p.val) = true) →
      ∃ t, exec (.ptpMessageRx p w dom (.sync q)) s = .next t
        ∧ t = { s with now := max s.now w }) ∧
  (∀ (p : Fin 4) (w : Nat) (dom : Fin 256) (q : BitVec 16) (origin : Nat) (corr : Int) (s : State),
      s.netUp = true →
      s.ptpPort p.val = true →
      dom.val = s.get F.NET_PTP_CFG_DOMAIN →
      s.ptp.role.any (fun x => !x.1 && x.2.1 == p.val) = true →
      s.ptp.syncSeq = q.toNat →
      ∃ t, exec (.ptpMessageRx p w dom (.followUp q origin corr)) s = .next t
        ∧ t.rd R.NET_PTP_OFFSET = BitVec.ofInt 32 ((s.ptp.stamp : Int) - (origin + corr + (Sparse.get (fun _ => 0) s.ptp.delay p.val : Nat)))
        ∧ t.bit F.NET_PTP_STAT_SYNCED = true
        ∧ t.ptp = { s.ptp with halfNs := (s.at_ w).ptpHalf, ref := max s.now w, inc := t.ptp.inc, relay := (origin, corr + (Sparse.get (fun _ => 0) s.ptp.delay p.val : Nat), s.ptp.stamp), seqOut := (s.ptp.seqOut + 1) % 65536 }
        ∧ t.net = { s.net with frames := s.net.frames ++ ([0, 1, 2, 3].filter (fun k => k != p.val && s.ptpPort k)).map (fun k => ⟨0x0180C200000E, s.stackMac, 0, 7, 7, 64, [k], some (.sync s.ptp.seqOut)⟩) }
        ∧ t.free = s.free + 1
        ∧ t = { s with regs := t.regs, now := max s.now w, free := t.free, net := t.net, ptp := t.ptp }
        ∧ t.get F.NET_PTP_STAT_GM = s.get F.NET_PTP_STAT_GM
        ∧ t.get F.NET_PTP_STAT_SLAVE_PORT = s.get F.NET_PTP_STAT_SLAVE_PORT
        ∧ (∀ adr, adr ∉ ([R.NET_PTP_OFFSET, R.NET_PTP_STAT] : List Nat) → t.rd adr = s.rd adr)) ∧
  (∀ (p : Fin 4) (w : Nat) (dom : Fin 256) (q : BitVec 16) (origin : Nat) (corr : Int) (s : State),
      s.netUp = true →
      s.ptpPort p.val = true →
      (dom.val ≠ s.get F.NET_PTP_CFG_DOMAIN ∨ s.ptp.role.all (fun x => x.1 || x.2.1 != p.val) = true ∨ s.ptp.syncSeq ≠ q.toNat) →
      ∃ t, exec (.ptpMessageRx p w dom (.followUp q origin corr)) s = .next t
        ∧ t = { s with now := max s.now w }) ∧
  (∀ (p : Fin 4) (w : Nat) (dom : Fin 256) (a b c d e f steps : Nat) (s : State),
      s.netUp = true →
      s.ptpPort p.val = true →
      dom.val = s.get F.NET_PTP_CFG_DOMAIN →
      f ≠ s.ownVector.ident →
      ∃ t, exec (.ptpMessageRx p w dom (.announce a b c d e f steps)) s = .next t
        ∧ Sparse.get (fun _ => none) t.ptp.heard p.val = some ⟨⟨a, b, c, d, e, f⟩, steps, max s.now w⟩
        ∧ (∀ k, k ≠ p.val → Sparse.get (fun _ => none) t.ptp.heard k = Sparse.get (fun _ => none) s.ptp.heard k)
        ∧ t.ptpChosen = true
        ∧ (t.ptp.role = s.ptp.role → t.regs = s.regs ∧ t.irq = s.irq)
        ∧ (t.ptp.role ≠ s.ptp.role → t.isPending 714 = true ∧ t.ptp.role.all (fun x => decide (t.bit F.NET_PTP_STAT_GM = x.1 ∧ t.get F.NET_PTP_STAT_SLAVE_PORT = x.2.1)) = true)
        ∧ t.ptp = { s.ptp with heard := t.ptp.heard, role := t.ptp.role }
        ∧ t = { s with regs := t.regs, irq := t.irq, now := max s.now w, ptp := t.ptp }
        ∧ (∀ adr, adr ∉ (R.NET_PTP_STAT :: coalesced : List Nat) → t.rd adr = s.rd adr)
        ∧ (∀ num dr, num ∉ ([714] : List Nat) → t.slot num dr = s.slot num dr)) ∧
  (∀ (p : Fin 4) (w : Nat) (dom : Fin 256) (a b c d e f steps : Nat) (s : State),
      s.netUp = true →
      s.ptpPort p.val = true →
      (dom.val ≠ s.get F.NET_PTP_CFG_DOMAIN ∨ f = s.ownVector.ident) →
      ∃ t, exec (.ptpMessageRx p w dom (.announce a b c d e f steps)) s = .next t
        ∧ t = { s with now := max s.now w }) ∧
  (∀ (p : Fin 4) (w : Nat) (dom : Fin 256) (q : BitVec 16) (s : State),
      s.netUp = true →
      s.ptpPort p.val = true →
      ∃ t, exec (.ptpMessageRx p w dom (.pdelayReq q)) s = .next t
        ∧ t.net = { s.net with frames := s.net.frames ++ [⟨0x0180C200000E, s.stackMac, 0, 7, 7, 72, [p.val], some (.pdelayResp q.toNat (s.at_ w).ptpNs)⟩] }
        ∧ t = { s with now := max s.now w, net := t.net }) ∧
  (∀ (p : Fin 4) (w : Nat) (dom : Fin 256) (q : BitVec 16) (dl : Nat) (s : State),
      s.netUp = true →
      s.ptpPort p.val = true →
      ∃ t, exec (.ptpMessageRx p w dom (.pdelayDone q dl)) s = .next t
        ∧ (Sparse.get (fun _ => none) s.ptp.asked p.val = some q.toNat → Sparse.get (fun _ => 0) t.ptp.delay p.val = dl ∧ Sparse.get (fun _ => none) t.ptp.asked p.val = none)
        ∧ (Sparse.get (fun _ => none) s.ptp.asked p.val ≠ some q.toNat → t.ptp = s.ptp)
        ∧ t.ptp = { s.ptp with delay := t.ptp.delay, asked := t.ptp.asked }
        ∧ (∀ k, k ≠ p.val → Sparse.get (fun _ => 0) t.ptp.delay k = Sparse.get (fun _ => 0) s.ptp.delay k ∧ Sparse.get (fun _ => none) t.ptp.asked k = Sparse.get (fun _ => none) s.ptp.asked k)
        ∧ t = { s with now := max s.now w, ptp := t.ptp }) ∧
  (∀ (w : Nat) (u s : State),
      s.netUp = true →
      (∃ k : Fin 4, s.ptpPort k.val = true) →
      u = (s.at_ w).ptpSelect →
      s.ptp.announcedAt.any (fun a => decide (max s.now w < a + secCycles)) = true →
      u.ptp.role.any (fun x => x.1) = true →
      ∃ t, exec (.ptpSyncInterval w) s = .next t
        ∧ t.ptp = { u.ptp with seqOut := (s.ptp.seqOut + 1) % 65536 }
        ∧ t.net = { s.net with frames := s.net.frames ++ ([0, 1, 2, 3].filter s.ptpPort).map (fun k => ⟨0x0180C200000E, s.stackMac, 0, 7, 7, 64, [k], some (.sync s.ptp.seqOut)⟩) }
        ∧ t = { u with net := t.net, ptp := t.ptp }
        ∧ u.ptpChosen = true
        ∧ u = { s with regs := u.regs, irq := u.irq, now := max s.now w, ptp := { s.ptp with role := u.ptp.role } }
        ∧ (∀ adr, adr ∉ (R.NET_PTP_STAT :: coalesced : List Nat) → u.rd adr = s.rd adr)
        ∧ (∀ num dr, num ∉ ([714] : List Nat) → u.slot num dr = s.slot num dr)) ∧
  (∀ (w : Nat) (u s : State),
      s.netUp = true →
      (∃ k : Fin 4, s.ptpPort k.val = true) →
      u = (s.at_ w).ptpSelect →
      s.ptp.announcedAt.any (fun a => decide (max s.now w < a + secCycles)) = true →
      u.ptp.role.any (fun x => !x.1) = true →
      ∃ t, exec (.ptpSyncInterval w) s = .next t
        ∧ t = u
        ∧ u.ptpChosen = true
        ∧ u = { s with regs := u.regs, irq := u.irq, now := max s.now w, ptp := { s.ptp with role := u.ptp.role } }
        ∧ (∀ adr, adr ∉ (R.NET_PTP_STAT :: coalesced : List Nat) → u.rd adr = s.rd adr)
        ∧ (∀ num dr, num ∉ ([714] : List Nat) → u.slot num dr = s.slot num dr)) ∧
  (∀ (w : Nat) (u s : State),
      s.netUp = true →
      (∃ k : Fin 4, s.ptpPort k.val = true) →
      u = (s.at_ w).ptpSelect →
      s.ptp.announcedAt.all (fun a => decide (a + secCycles ≤ max s.now w)) = true →
      u.ptp.role.any (fun x => x.1) = true →
      ∃ t, exec (.ptpSyncInterval w) s = .next t
        ∧ t.net = { s.net with frames := s.net.frames ++ ([0, 1, 2, 3].filter s.ptpPort).map (fun k => ⟨0x0180C200000E, s.stackMac, 0, 7, 7, 64, [k], some (.sync s.ptp.seqOut)⟩) ++ ([0, 1, 2, 3].filter s.ptpPort).flatMap (fun k => (if k = 4 then [] else [⟨0x0180C200000E, s.stackMac, 0, 7, 7, 94, [k], some (.announce ((s.ptp.seqOut + 1) % 65536) s.ownVector 0)⟩]) ++ [⟨0x0180C200000E, s.stackMac, 0, 7, 7, 72, [k], some (.pdelayReq ((s.ptp.seqOut + 1) % 65536))⟩]) }
        ∧ t.ptp = { u.ptp with seqOut := ((s.ptp.seqOut + 1) % 65536 + 1) % 65536, announcedAt := some (max s.now w), asked := t.ptp.asked }
        ∧ (∀ k, Sparse.get (fun _ => none) t.ptp.asked k = if k < 4 ∧ s.ptpPort k = true then some ((s.ptp.seqOut + 1) % 65536) else Sparse.get (fun _ => none) s.ptp.asked k)
        ∧ t = { u with net := t.net, ptp := t.ptp }
        ∧ u.ptpChosen = true
        ∧ u = { s with regs := u.regs, irq := u.irq, now := max s.now w, ptp := { s.ptp with role := u.ptp.role } }
        ∧ (∀ adr, adr ∉ (R.NET_PTP_STAT :: coalesced : List Nat) → u.rd adr = s.rd adr)
        ∧ (∀ num dr, num ∉ ([714] : List Nat) → u.slot num dr = s.slot num dr)) ∧
  (∀ (w q : Nat) (h : PtpHeard) (u s : State),
      s.netUp = true →
      (∃ k : Fin 4, s.ptpPort k.val = true) →
      u = (s.at_ w).ptpSelect →
      s.ptp.announcedAt.all (fun a => decide (a + secCycles ≤ max s.now w)) = true →
      u.ptp.role.any (fun x => !x.1 && x.2.1 == q) = true →
      Sparse.get (fun _ => none) s.ptp.heard q = some h →
      ∃ t, exec (.ptpSyncInterval w) s = .next t
        ∧ t.net = { s.net with frames := s.net.frames ++ ([0, 1, 2, 3].filter s.ptpPort).flatMap (fun k => (if k = q then [] else [⟨0x0180C200000E, s.stackMac, 0, 7, 7, 94, [k], some (.announce s.ptp.seqOut h.v (h.steps + 1))⟩]) ++ [⟨0x0180C200000E, s.stackMac, 0, 7, 7, 72, [k], some (.pdelayReq s.ptp.seqOut)⟩]) }
        ∧ t.ptp = { u.ptp with seqOut := (s.ptp.seqOut + 1) % 65536, announcedAt := some (max s.now w), asked := t.ptp.asked }
        ∧ (∀ k, Sparse.get (fun _ => none) t.ptp.asked k = if k < 4 ∧ s.ptpPort k = true then some s.ptp.seqOut else Sparse.get (fun _ => none) s.ptp.asked k)
        ∧ t = { u with net := t.net, ptp := t.ptp }
        ∧ u.ptpChosen = true
        ∧ u = { s with regs := u.regs, irq := u.irq, now := max s.now w, ptp := { s.ptp with role := u.ptp.role } }
        ∧ (∀ adr, adr ∉ (R.NET_PTP_STAT :: coalesced : List Nat) → u.rd adr = s.rd adr)
        ∧ (∀ num dr, num ∉ ([714] : List Nat) → u.slot num dr = s.slot num dr)) ∧
  (∀ (w : Nat) (s : State),
      (s.netUp = false ∨ ∀ k : Fin 4, s.ptpPort k.val = false) →
      ∃ t, exec (.ptpSyncInterval w) s = .next t
        ∧ t = { s with now := max s.now w }) ∧
  (∀ (w : Nat) (s : State),
      s.netUp = true →
      s.ptp.role.any (fun x => !x.1) = true →
      s.ptp.lastSync + 3 * (secCycles / 2 ^ s.get F.NET_PTP_CFG_LOG_SYNC) ≤ max s.now w →
      ∃ t, exec (.ptpSyncLost w) s = .next t
        ∧ t.isPending 715 = true
        ∧ t = { s with regs := t.regs, irq := t.irq, now := max s.now w }
        ∧ (∀ adr, adr ∉ (coalesced : List Nat) → t.rd adr = s.rd adr)
        ∧ (∀ num dr, num ∉ ([715] : List Nat) → t.slot num dr = s.slot num dr)) ∧
  (∀ (w : Nat) (s : State),
      (s.netUp = false ∨ s.ptp.role.all (fun x => x.1) = true ∨ max s.now w < s.ptp.lastSync + 3 * (secCycles / 2 ^ s.get F.NET_PTP_CFG_LOG_SYNC)) →
      ∃ t, exec (.ptpSyncLost w) s = .next t
        ∧ t = { s with now := max s.now w }) ∧
  (∀ (ini : Initiator) (s : State),
      s.sends ini true R.NET_XCAP_CTL = true →
      s.domOn 18 = true →
      (s.get F.NET_XCAP_CTL_EN).testBit 0 = true →
      ∃ t, exec (.xcapGo ini) s = .next t
        ∧ t.respCode ini = 0
        ∧ t.rd R.NET_XCAP_WT_LO = BitVec.ofNat 32 s.now
        ∧ t.rd R.NET_XCAP_WT_HI = BitVec.ofNat 32 (s.now / 2 ^ 32)
        ∧ t.rdN R.NET_XCAP_NS = s.ptpNs % 1000000000
        ∧ t.rd R.NET_XCAP_S_LO = BitVec.ofNat 32 (s.ptpNs / 1000000000)
        ∧ t.get F.NET_XCAP_S_HI_SEC = s.ptpNs / 1000000000 / 2 ^ 32 % 65536
        ∧ t.get F.NET_XCAP_S_HI_SRC = 1
        ∧ (s.ptp.capUnread = true → t.bit F.NET_XCAP_CTL_XCAP_LOST = true)
        ∧ (s.ptp.capUnread = false → t.bit F.NET_XCAP_CTL_XCAP_LOST = s.bit F.NET_XCAP_CTL_XCAP_LOST)
        ∧ t.get F.NET_XCAP_CTL_EN = s.get F.NET_XCAP_CTL_EN
        ∧ t.ptp = { s.ptp with capUnread := true }
        ∧ t.isPending 719 = true
        ∧ t = { s with regs := t.regs, irq := t.irq, spine := t.spine, sec := { s.sec with tapOut := t.sec.tapOut }, ptp := t.ptp }
        ∧ (∀ adr, adr ∉ ([R.NET_XCAP_CTL, R.NET_XCAP_WT_LO, R.NET_XCAP_WT_HI, R.NET_XCAP_NS, R.NET_XCAP_S_LO, R.NET_XCAP_S_HI] ++ coalesced : List Nat) → t.rd adr = s.rd adr)
        ∧ (∀ num dr, num ∉ ([719] : List Nat) → t.slot num dr = s.slot num dr)) ∧
  (∀ (ini : Initiator) (s : State),
      s.sends ini true R.NET_XCAP_CTL = true →
      s.domOn 18 = true →
      (s.get F.NET_XCAP_CTL_EN).testBit 0 = false →
      ∃ t, exec (.xcapGo ini) s = .next t
        ∧ t.respCode ini = 0
        ∧ t = { s with spine := t.spine, sec := { s.sec with tapOut := t.sec.tapOut } }) ∧
  (∀ (w : Nat) (s : State),
      s.domOn 18 = true →
      (s.get F.NET_XCAP_CTL_EN).testBit 1 = true →
      ∃ t, exec (.gptpSecondRollover w) s = .next t
        ∧ t.rd R.NET_XCAP_WT_LO = BitVec.ofNat 32 (max s.now w)
        ∧ t.rd R.NET_XCAP_WT_HI = BitVec.ofNat 32 ((max s.now w) / 2 ^ 32)
        ∧ t.rdN R.NET_XCAP_NS = (s.at_ w).ptpNs % 1000000000
        ∧ t.rd R.NET_XCAP_S_LO = BitVec.ofNat 32 ((s.at_ w).ptpNs / 1000000000)
        ∧ t.get F.NET_XCAP_S_HI_SEC = (s.at_ w).ptpNs / 1000000000 / 2 ^ 32 % 65536
        ∧ t.get F.NET_XCAP_S_HI_SRC = 2
        ∧ (s.ptp.capUnread = true → t.bit F.NET_XCAP_CTL_XCAP_LOST = true)
        ∧ (s.ptp.capUnread = false → t.bit F.NET_XCAP_CTL_XCAP_LOST = s.bit F.NET_XCAP_CTL_XCAP_LOST)
        ∧ t.get F.NET_XCAP_CTL_EN = s.get F.NET_XCAP_CTL_EN
        ∧ t.ptp = { s.ptp with capUnread := true }
        ∧ t.isPending 719 = true
        ∧ t = { s with regs := t.regs, irq := t.irq, now := max s.now w, ptp := t.ptp }
        ∧ (∀ adr, adr ∉ ([R.NET_XCAP_CTL, R.NET_XCAP_WT_LO, R.NET_XCAP_WT_HI, R.NET_XCAP_NS, R.NET_XCAP_S_LO, R.NET_XCAP_S_HI] ++ coalesced : List Nat) → t.rd adr = s.rd adr)
        ∧ (∀ num dr, num ∉ ([719] : List Nat) → t.slot num dr = s.slot num dr)) ∧
  (∀ (w : Nat) (s : State),
      (s.domOn 18 = false ∨ (s.get F.NET_XCAP_CTL_EN).testBit 1 = false) →
      ∃ t, exec (.gptpSecondRollover w) s = .next t
        ∧ t = { s with now := max s.now w }) ∧
  (∀ (d : IpDatagram) (s : State),
      s.stackUp = true →
      ∃ t, exec (.ipDatagramRx d) s = .next t
        ∧ t.net = { s.net with stackQ := s.net.stackQ - 1 }
        ∧ t.rdN R.NET_IP_DROP = (if d.options = true ∨ d.fragment = true ∨ d.headerOk = false ∨ d.dst ≠ s.stackAddr ∨ (d.proto = 17#8 ∧ (d.udpOk = false ∨ d.port.toNat ≠ s.ivwPort)) then min 0xFFFFFFFF (s.rdN R.NET_IP_DROP + 1) else s.rdN R.NET_IP_DROP)
        ∧ t = { s with regs := t.regs, net := t.net }
        ∧ (∀ adr, adr ∉ ([R.NET_IP_DROP] : List Nat) → t.rd adr = s.rd adr)) ∧
  (∀ (w : Nat) (target sender : BitVec 32) (mac : BitVec 48) (s : State),
      s.stackUp = true →
      target = s.stackAddr →
      ∃ t, exec (.arpRequestRx w target sender mac) s = .next t
        ∧ t.net.stackOut = .arpReply sender mac.toNat s.stackAddr s.stackMac :: s.net.stackOut
        ∧ ((s.net.arp.filter (fun e => e.1 != sender)).length < 64 → t.free = s.free ∧ t.net.arp = s.net.arp.filter (fun e => e.1 != sender) ++ [(sender, mac.toNat, max s.now w)])
        ∧ (64 ≤ (s.net.arp.filter (fun e => e.1 != sender)).length → t.free = s.free + 1 ∧ ∃ j : Fin 64, t.net.arp = (s.net.arp.filter (fun e => e.1 != sender)).eraseIdx j.val ++ [(sender, mac.toNat, max s.now w)])
        ∧ t = { s with now := max s.now w, free := t.free, net := { s.net with stackQ := s.net.stackQ - 1, arp := t.net.arp, stackOut := t.net.stackOut } }) ∧
  (∀ (w : Nat) (target sender : BitVec 32) (mac : BitVec 48) (s : State),
      s.stackUp = true →
      target ≠ s.stackAddr →
      ∃ t, exec (.arpRequestRx w target sender mac) s = .next t
        ∧ t = { s with now := max s.now w, net := { s.net with stackQ := s.net.stackQ - 1 } }) ∧
  (∀ (src : BitVec 32) (len : Nat) (s : State),
      s.stackUp = true →
      len ≤ 1472 →
      ∃ t, exec (.icmpEchoRx src len) s = .next t
        ∧ t = { s with net := { s.net with stackOut := .echoReply src (if src &&& s.stackMask = s.stackAddr &&& s.stackMask then src else s.stackGw) 64 true len :: s.net.stackOut } }) ∧
  (∀ (w : Nat) (i : Instr) (d : IpDatagram) (target sender : BitVec 32) (mac : BitVec 48) (len : Nat) (s : State),
      (w, i) ∈ ([(0, .ipDatagramRx d), (w, .arpRequestRx w target sender mac), (0, .icmpEchoRx sender len)] : List (Nat × Instr)) →
      (s.stackUp = false ∨ i = .icmpEchoRx sender len ∧ 1472 < len) →
      ∃ t, exec i s = .next t
        ∧ t = { s with now := max s.now w }) ∧
  (∀ (ip : BitVec 32) (w : Nat) (s : State),
      ∃ t, exec (.arpCacheExpiry ip w) s = .next t
        ∧ t.net.arp = s.net.arp.filter (fun e => !(e.1 == ip && decide (e.2.2 + 60 * secCycles ≤ max s.now w)))
        ∧ t = { s with now := max s.now w, net := { s.net with arp := t.net.arp } }) ∧
  (∀ (ini : Initiator) (v : BitVec 32) (s : State),
      s.sends ini true R.NET_IP_ADDR = true →
      s.domOn 18 = true →
      ∃ t, exec (.ipAddrWrite ini v) s = .next t
        ∧ t.respCode ini = 0
        ∧ t.rd R.NET_IP_ADDR = v
        ∧ t.net = { s.net with stackOut := .gratuitous v s.stackMac :: s.net.stackOut }
        ∧ t = { s with regs := t.regs, spine := t.spine, sec := { s.sec with tapOut := t.sec.tapOut }, net := t.net }
        ∧ (∀ adr, adr ∉ ([R.NET_IP_ADDR] : List Nat) → t.rd adr = s.rd adr))

/-- Release, rim signals, the spine master port, contention and capture of the fabric (parts of R5, R8, R23, R24, R299, R315, R316, R317, R326, R327, R330, R331, R332, R333, R334, R335, R336, R337, R338, R339, R340, R447, R480, R529). A rim signal is sampled from lane A of its rim cell at the edge that begins micro-step m; u is the state at that moment. It rises, or toggles, against the edge before, and not while its cell's tract is in set-reset. What a clause does not name stays. (1) FAB.CTL.RELEASE in INIT while PIPE runs, with an order of four quadrants, not done and none in progress: the release begins, and RELEASE reads 1. (2) Before PIPE runs it only sets NO_CLOCK. (3) Outside INIT, with DONE, during a release, or with an order that names a quadrant twice, it does nothing. (4) QUADRANT_RELEASE at a PIPE edge with E = 0, the first after the write or 840 micro-steps after the step before: the quadrant that is next in the order is released if it is on, but for tracts that a restore, a partial load or a self-test holds; after the fourth step DONE is set, RELEASE reads 0 and source 501 is raised. No cell state changes. (5) With no release in progress, before its moment, or at another edge, it does nothing. (6) FIRQ_EDGE: a rising edge of rim line FIRQx raises source 392 + x; without one nothing happens. (7) FABRIC_HOLD_CHANGE with HOLD_EN = 1 and HOLD = 1: the cause FABRIC_HOLD is present; free, it takes ARMED, RUN and RUN-SPARED to HOLD with CAUSE 0x36. (8) In another mode, or on the way to RESET or QUARANTINE, the cause is only shown. (9) With HOLD = 0 the cause clears; with HOLD_EN = 0 HOLD is no cause. The mode stays. (10) RIM_CAPTURE_EDGE: a rising edge of CAPTURE with SRC_RIM = 1, while none is pending and no unread capture is held, or with OVERWRITE, requests a capture; PENDING shows it with ALIGN. (11) While an unread capture is held, without OVERWRITE: refused, MISSED counts, source 498. (12) With no edge, SRC_RIM = 0, a capture pending (which it joins), outside the modes in which the device serves, or with an EDGE that is no value: nothing. (13) CAP_CTL.GO requests a capture likewise. (14) Refused as above. (15) Joined to one that is pending, or in a mode in which the device does not serve: nothing. (16) CAP_CTL.FREE clears FULL. (17) CAPTURE_TAKEN: a requested capture is taken at the PIPE edge that begins micro-step m, with ALIGN one at which E is EDGE: it holds the user state and the latches of all cells, and which are off or in set-reset; FULL, E, the wheel time; source 497. (18) With none requested, PIPE not running, or at another edge with ALIGN: nothing. (19) The record of a cell that ran, in eight words: Q1 Q0; Q3 Q2; RAMWD PREV; CONT [8] (a driver latched off), STEP [7:5] (the micro-step just completed), F [1], C [0]; the output registers, the B lane high, 0 where not owned. One that was off or in set-reset reads 0. (20) CAP_DATA_READ in SERVICE, or in any mode in lifecycle VENDOR or OPEN: the word of the capture at CAP_ADDR, word WORD of the 16 records of frame FRAME; WORD advances, past 127 to word 0 of the next frame. (21) Else it reads 0 with PARAM, logged, and nothing advances. (22) SPM_REQUEST: REQ toggles with EN = 1 and no request unanswered: the request with WRITE, ADDR and WDATA of the lanes waits; the port reaches reads and writes of the GPIO, MEAS, WHEEL, LANE, CHT and FAB registers and reads of the fabric RAM, and answers any other itself. (23) A toggle before the last request is answered is ignored and counted in SPM_ERR, source 500. (24) With EN = 0 or no toggle: nothing. (25) SPM_RESPONSE gives the answer: ACK toggles. To a request that the port does not let through, CODE 2 with RDATA 0; SPM_ERR counts, source 500. (26) With no request: nothing. (27) To a read of a register in a domain that is ON whose row shows the word it holds: CODE 0 with the fields of the word, 0 where they are WO; RC fields clear. (28) To a write of a register in a domain that is ON whose row has no act of its own: its fields take what their access codes give; CODE 0, or 2 where a field meets a reserved encoding. (29) To a read of a fabric RAM word without error in a quadrant that is ON, aligned to 4: CODE 0 and half the word. (30) To one of an address with no register (CODE 1), or in a domain that is not ON and has no wake on access, or whose wake has failed (CODE 4): RDATA 0, or 0xDEAD_0FF0 for a read of such a domain; the error is logged, SPM_ERR counts, source 500, with CODE 4 source 905. (31) With wake on access the domain gets a wake event and the request waits. (32) CONFIG_UPSET flips the bits it names in the configuration of a frame; running cells keep their state. Where it makes both ends of a lane owners, the east or north end is latched off (CONTENTION, COUNT, the lowest in CONT_CELL if VALID was 0, source 496); where an owner bit of a latched end is 0, its latch clears. (33) One upset that makes (X, Y) and its east neighbour owners of one lane between them latches off the east end's driver: COUNT is one up, CONTENTION is set, CONT_CELL, if it was not valid, names the east cell and its lane, and source 496 is raised. (34) CONT_CLR.REENABLE: the latches clear where their lanes are contended no more. (35) One that is contended still is set again at once, counted again, and raises source 496 again. Readings and choices of the model that it rests on: log entries 75, 76, 80, 168. -/
def Obligations.TheFabricIsReleasedAndCaptured : Prop :=
  (∀ (ini : Initiator) (s : State),
      s.sends ini true R.FAB_CTL = true →
      s.clk.epoch.isSome = true →
      s.mode = M.init →
      srOrderOk (s.rd R.FAB_SR_ORDER) = true →
      s.bit F.FAB_SR_STAT_DONE = false →
      s.fab.step = none →
      ∃ t, exec (.fabricRelease ini) s = .next t
        ∧ t.respCode ini = 0
        ∧ t.fab = { s.fab with step := some 0, stepAt := s.now + 1 }
        ∧ t.bit F.FAB_CTL_RELEASE = true
        ∧ t = { s with regs := t.regs, fab := t.fab, spine := t.spine, sec := { s.sec with tapOut := t.sec.tapOut } }
        ∧ (∀ adr, adr ∉ ([R.FAB_CTL] : List Nat) → t.rd adr = s.rd adr)) ∧
  (∀ (ini : Initiator) (s : State),
      s.sends ini true R.FAB_CTL = true →
      s.clk.epoch = none →
      ∃ t, exec (.fabricRelease ini) s = .next t
        ∧ t.respCode ini = 0
        ∧ t.bit F.FAB_SR_STAT_NO_CLOCK = true
        ∧ t = { s with regs := t.regs, spine := t.spine, sec := { s.sec with tapOut := t.sec.tapOut } }
        ∧ (∀ adr, adr ∉ ([R.FAB_SR_STAT] : List Nat) → t.rd adr = s.rd adr)) ∧
  (∀ (ini : Initiator) (s : State),
      s.sends ini true R.FAB_CTL = true →
      s.clk.epoch.isSome = true →
      (s.mode ≠ M.init ∨ srOrderOk (s.rd R.FAB_SR_ORDER) = false ∨ s.bit F.FAB_SR_STAT_DONE = true ∨ s.fab.step.isSome = true) →
      ∃ t, exec (.fabricRelease ini) s = .next t
        ∧ t.respCode ini = 0
        ∧ t = { s with spine := t.spine, sec := { s.sec with tapOut := t.sec.tapOut } }) ∧
  (∀ (w k q : Nat) (s : State),
      s.fab.step = some k →
      s.epochAt (max s.now w) = 0 →
      s.fab.stepAt ≤ max s.now w →
      q = s.get F.FAB_SR_ORDER_ORDER / 4 ^ k % 4 →
      ∃ t, exec (.quadrantRelease w) s = .next t
        ∧ t.get F.FAB_SR_STAT_RELEASED = (if s.quadOn q = true then Nat.lor (s.get F.FAB_SR_STAT_RELEASED) (2 ^ q) else s.get F.FAB_SR_STAT_RELEASED)
        ∧ (∀ j : Nat, j < 256 → t.tractFree j = ((s.at_ w).tractFree j || (s.quadOn q && tractQuad j == q && !s.tractBusy j)))
        ∧ (k < 3 → t.fab.step = some (k + 1) ∧ t.fab.stepAt = max s.now w + 420 ∧ t.bit F.FAB_SR_STAT_DONE = s.bit F.FAB_SR_STAT_DONE ∧ t.bit F.FAB_CTL_RELEASE = s.bit F.FAB_CTL_RELEASE)
        ∧ (3 ≤ k → t.fab.step = none ∧ t.bit F.FAB_SR_STAT_DONE = true ∧ t.bit F.FAB_CTL_RELEASE = false ∧ t.isPending 501 = true)
        ∧ t.fab = { s.fab with free := t.fab.free, freeAt := t.fab.freeAt, step := t.fab.step, stepAt := t.fab.stepAt }
        ∧ t = { s with regs := t.regs, irq := t.irq, now := max s.now w, fab := t.fab }
        ∧ (∀ adr, adr ∉ (R.FAB_CTL :: R.FAB_SR_STAT :: coalesced : List Nat) → t.rd adr = s.rd adr)
        ∧ (∀ num dr, num ∉ ([501] : List Nat) → t.slot num dr = s.slot num dr)) ∧
  (∀ (w : Nat) (s : State),
      (s.fab.step = none ∨ s.epochAt (max s.now w) ≠ 0 ∨ max s.now w < s.fab.stepAt) →
      ∃ t, exec (.quadrantRelease w) s = .next t
        ∧ t = { s with now := max s.now w }) ∧
  (∀ (x : Fin 96) (m : Nat) (u s : State),
      u = s.at_ (s.stepTime m) →
      ∃ t, exec (.firqEdge x m) s = .next t
        ∧ (u.rimRises m 0 x.val 255 0 = false → t = u)
        ∧ (u.rimRises m 0 x.val 255 0 = true → t.isPending (392 + x.val) = true)
        ∧ t = { u with regs := t.regs, irq := t.irq }
        ∧ (∀ adr, adr ∉ (coalesced : List Nat) → t.rd adr = s.rd adr)
        ∧ (∀ num dr, num ∉ ([392 + x.val] : List Nat) → t.slot num dr = s.slot num dr)) ∧
  (∀ (m : Nat) (u s : State),
      u = s.at_ (s.stepTime m) →
      s.bit F.FAB_RIM_CTL_HOLD_EN = true →
      (u.rimOut m 0 112 255).getLsbD 1 = true →
      s.leaving = false →
      (s.mode = M.armed ∨ s.mode = M.run ∨ s.mode = M.runSpared) →
      ∃ t, exec (.fabricHoldChange m) s = .next t
        ∧ t.fab = { s.fab with hold := true }
        ∧ t.rd R.SYS_HOLD_CAUSES = s.rd R.SYS_HOLD_CAUSES ||| 64#32
        ∧ t.mode = M.hold
        ∧ t.get F.SYS_MODE_CAUSE = 0x36
        ∧ t.get F.SYS_MODE_PREV = s.mode
        ∧ t.isPending 824 = true
        ∧ t = { u with regs := t.regs, irq := t.irq, sessions := t.sessions, modeCtl := t.modeCtl, fab := t.fab }
        ∧ (∀ adr, adr ∉ (R.SYS_HOLD_CAUSES :: modeRegs : List Nat) → t.rd adr = s.rd adr)
        ∧ (∀ num dr, num ∉ ([824] : List Nat) → t.slot num dr = s.slot num dr)) ∧
  (∀ (m : Nat) (u s : State),
      u = s.at_ (s.stepTime m) →
      s.bit F.FAB_RIM_CTL_HOLD_EN = true →
      (u.rimOut m 0 112 255).getLsbD 1 = true →
      (s.leaving = true ∨ (s.mode ≠ M.armed ∧ s.mode ≠ M.run ∧ s.mode ≠ M.runSpared)) →
      ∃ t, exec (.fabricHoldChange m) s = .next t
        ∧ t.fab = { s.fab with hold := true }
        ∧ t.rd R.SYS_HOLD_CAUSES = s.rd R.SYS_HOLD_CAUSES ||| 64#32
        ∧ t = { u with regs := t.regs, fab := t.fab }
        ∧ (∀ adr, adr ∉ ([R.SYS_HOLD_CAUSES] : List Nat) → t.rd adr = s.rd adr)) ∧
  (∀ (m : Nat) (u s : State),
      u = s.at_ (s.stepTime m) →
      (s.bit F.FAB_RIM_CTL_HOLD_EN = false ∨ (u.rimOut m 0 112 255).getLsbD 1 = false) →
      ∃ t, exec (.fabricHoldChange m) s = .next t
        ∧ t.fab = { s.fab with hold := (u.rimOut m 0 112 255).getLsbD 1 }
        ∧ t.rd R.SYS_HOLD_CAUSES = (if s.bit F.FAB_RIM_CTL_HOLD_EN = true then s.rd R.SYS_HOLD_CAUSES &&& ~~~64#32 else s.rd R.SYS_HOLD_CAUSES)
        ∧ t = { u with regs := t.regs, fab := t.fab }
        ∧ (∀ adr, adr ∉ ([R.SYS_HOLD_CAUSES] : List Nat) → t.rd adr = s.rd adr)) ∧
  (∀ (m : Nat) (u s : State),
      u = s.at_ (s.stepTime m) →
      s.bit F.FAB_CAP_CTL_SRC_RIM = true →
      u.rimRises m 0 112 255 2 = true →
      s.alive = true →
      s.regValid R.FAB_CAP_CTL = true →
      s.capWait = false →
      (s.bit F.FAB_CAP_STAT_FULL = false ∨ s.bit F.FAB_CAP_CTL_OVERWRITE = true) →
      ∃ t, exec (.rimCaptureEdge m) s = .next t
        ∧ t.capWait = true
        ∧ t.bit F.FAB_CAP_STAT_PENDING = (s.bit F.FAB_CAP_STAT_PENDING || s.bit F.FAB_CAP_CTL_ALIGN)
        ∧ t = { u with regs := t.regs, capWait := t.capWait }
        ∧ (∀ adr, adr ∉ ([R.FAB_CAP_STAT] : List Nat) → t.rd adr = s.rd adr)) ∧
  (∀ (m : Nat) (u s : State),
      u = s.at_ (s.stepTime m) →
      s.bit F.FAB_CAP_CTL_SRC_RIM = true →
      u.rimRises m 0 112 255 2 = true →
      s.alive = true →
      s.regValid R.FAB_CAP_CTL = true →
      s.capWait = false →
      s.bit F.FAB_CAP_STAT_FULL = true →
      s.bit F.FAB_CAP_CTL_OVERWRITE = false →
      ∃ t, exec (.rimCaptureEdge m) s = .next t
        ∧ t.rdN R.FAB_CAP_MISSED = min 0xFFFFFFFF (s.rdN R.FAB_CAP_MISSED + 1)
        ∧ t.isPending 498 = true
        ∧ t = { u with regs := t.regs, irq := t.irq }
        ∧ (∀ adr, adr ∉ (R.FAB_CAP_MISSED :: coalesced : List Nat) → t.rd adr = s.rd adr)
        ∧ (∀ num dr, num ∉ ([498] : List Nat) → t.slot num dr = s.slot num dr)) ∧
  (∀ (m : Nat) (u s : State),
      u = s.at_ (s.stepTime m) →
      (s.bit F.FAB_CAP_CTL_SRC_RIM = false ∨ u.rimRises m 0 112 255 2 = false ∨ s.capWait = true ∨ s.alive = false ∨ s.regValid R.FAB_CAP_CTL = false) →
      ∃ t, exec (.rimCaptureEdge m) s = .next t
        ∧ t = u) ∧
  (∀ (ini : Initiator) (s : State),
      s.sends ini true R.FAB_CAP_CTL = true →
      s.alive = true →
      s.regValid R.FAB_CAP_CTL = true →
      s.capWait = false →
      (s.bit F.FAB_CAP_STAT_FULL = false ∨ s.bit F.FAB_CAP_CTL_OVERWRITE = true) →
      ∃ t, exec (.captureGo ini) s = .next t
        ∧ t.respCode ini = 0
        ∧ t.capWait = true
        ∧ t.bit F.FAB_CAP_STAT_PENDING = (s.bit F.FAB_CAP_STAT_PENDING || s.bit F.FAB_CAP_CTL_ALIGN)
        ∧ t.bit F.FAB_CAP_CTL_GO = s.bit F.FAB_CAP_CTL_GO
        ∧ t = { s with regs := t.regs, capWait := t.capWait, spine := t.spine, sec := { s.sec with tapOut := t.sec.tapOut } }
        ∧ (∀ adr, adr ∉ ([R.FAB_CAP_STAT] : List Nat) → t.rd adr = s.rd adr)) ∧
  (∀ (ini : Initiator) (s : State),
      s.sends ini true R.FAB_CAP_CTL = true →
      s.alive = true →
      s.regValid R.FAB_CAP_CTL = true →
      s.capWait = false →
      s.bit F.FAB_CAP_STAT_FULL = true →
      s.bit F.FAB_CAP_CTL_OVERWRITE = false →
      ∃ t, exec (.captureGo ini) s = .next t
        ∧ t.respCode ini = 0
        ∧ t.rdN R.FAB_CAP_MISSED = min 0xFFFFFFFF (s.rdN R.FAB_CAP_MISSED + 1)
        ∧ t.isPending 498 = true
        ∧ t = { s with regs := t.regs, irq := t.irq, spine := t.spine, sec := { s.sec with tapOut := t.sec.tapOut } }
        ∧ (∀ adr, adr ∉ (R.FAB_CAP_MISSED :: coalesced : List Nat) → t.rd adr = s.rd adr)
        ∧ (∀ num dr, num ∉ ([498] : List Nat) → t.slot num dr = s.slot num dr)) ∧
  (∀ (ini : Initiator) (s : State),
      s.sends ini true R.FAB_CAP_CTL = true →
      s.regValid R.FAB_CAP_CTL = true →
      (s.alive = false ∨ s.capWait = true) →
      ∃ t, exec (.captureGo ini) s = .next t
        ∧ t.respCode ini = 0
        ∧ t = { s with spine := t.spine, sec := { s.sec with tapOut := t.sec.tapOut } }) ∧
  (∀ (ini : Initiator) (s : State),
      s.sends ini true R.FAB_CAP_CTL = true →
      s.regValid R.FAB_CAP_CTL = true →
      ∃ t, exec (.captureFree ini) s = .next t
        ∧ t.respCode ini = 0
        ∧ t.bit F.FAB_CAP_STAT_FULL = false
        ∧ t.get F.FAB_CAP_STAT_EDGE_TAKEN = s.get F.FAB_CAP_STAT_EDGE_TAKEN
        ∧ t.bit F.FAB_CAP_STAT_PENDING = s.bit F.FAB_CAP_STAT_PENDING
        ∧ t = { s with regs := t.regs, spine := t.spine, sec := { s.sec with tapOut := t.sec.tapOut } }
        ∧ (∀ adr, adr ∉ ([R.FAB_CAP_STAT] : List Nat) → t.rd adr = s.rd adr)) ∧
  (∀ (m : Nat) (u s : State),
      u = s.at_ (s.stepTime m) →
      s.capWait = true →
      s.clk.epoch.isSome = true →
      (s.bit F.FAB_CAP_CTL_ALIGN = false ∨ s.get F.FAB_CAP_CTL_EDGE = m % 840) →
      ∃ t, exec (.captureTaken m) s = .next t
        ∧ t.capWait = false
        ∧ t.fab = { s.fab with cap := { cells := s.fab.cells, cfg := s.fab.cfg, free := s.fab.free.filter (fun e => u.tractFree e.1), latch := s.fab.latch, on := [0, 1, 2, 3].filter (fun q => s.quadOn q), edge := m % 840 } }
        ∧ t.rd R.FAB_CAP_STAT = BitVec.ofNat 32 (2 ^ 31 + m % 840)
        ∧ t.rd R.FAB_CAP_TIME_LO = BitVec.ofNat 32 u.now
        ∧ t.rd R.FAB_CAP_TIME_HI = BitVec.ofNat 32 (u.now / 2 ^ 32)
        ∧ t.bit F.FAB_CAP_CTL_GO = false
        ∧ t.isPending 497 = true
        ∧ t = { u with regs := t.regs, irq := t.irq, fab := t.fab, capWait := t.capWait }
        ∧ (∀ adr, adr ∉ (R.FAB_CAP_CTL :: R.FAB_CAP_STAT :: R.FAB_CAP_TIME_LO :: R.FAB_CAP_TIME_HI :: coalesced : List Nat) → t.rd adr = s.rd adr)
        ∧ (∀ num dr, num ∉ ([497] : List Nat) → t.slot num dr = s.slot num dr)) ∧
  (∀ (m : Nat) (u s : State),
      u = s.at_ (s.stepTime m) →
      (s.capWait = false ∨ s.clk.epoch = none ∨ (s.bit F.FAB_CAP_CTL_ALIGN = true ∧ s.get F.FAB_CAP_CTL_EDGE ≠ m % 840)) →
      ∃ t, exec (.captureTaken m) s = .next t
        ∧ t = u) ∧
  (∀ (c : Capture) (id : Nat) (cfg : BitVec 320) (k : Cell) (o : Nat → BitVec 16) (s : State),
      cfg = Sparse.get (fun _ => 0) c.cfg id →
      k = Sparse.get (fun _ => { q0 := cfgInit cfg }) c.cells id →
      (∀ l : Nat, l < 8 → o l = if cfgOwn cfg l = true then (Sparse.get (fun _ => {}) k.out l : Reg2).cur else 0) →
      ((Sparse.get (fun _ => false) c.free (id / 256) = false ∨ c.on.contains (tractQuad (id / 256)) = false) → ∀ w : Nat, w < 8 → c.word id w = 0)
        ∧ (Sparse.get (fun _ => false) c.free (id / 256) = true → c.on.contains (tractQuad (id / 256)) = true → c.word id 0 = k.q1 ++ k.q0 ∧ c.word id 1 = k.q3 ++ k.q2 ∧ c.word id 2 = k.ramwd.cur ++ k.prev ∧ c.word id 3 = BitVec.ofNat 32 ((if (List.range 8).any (fun l => Sparse.get (fun _ => false) c.latch (id * 8 + l)) = true then 256 else 0) + (c.edge + 839) % 840 % cfgPhrase cfg * 32 + (if k.f = true then 2 else 0) + (if k.c = true then 1 else 0)) ∧ c.word id 4 = o 1 ++ o 0 ∧ c.word id 5 = o 3 ++ o 2 ∧ c.word id 6 = o 5 ++ o 4 ∧ c.word id 7 = o 7 ++ o 6)) ∧
  (∀ (ini : Initiator) (s : State),
      s.sends ini false R.FAB_CAP_DATA = true →
      (s.mode = M.service ∨ s.lifecycle ≤ 1) →
      ∃ t, exec (.capDataRead ini) s = .next t
        ∧ t.respCode ini = 0
        ∧ t.respData ini = (s.fab.cap.word (s.get F.FAB_CAP_ADDR_FRAME * 16 + s.get F.FAB_CAP_ADDR_WORD / 8) (s.get F.FAB_CAP_ADDR_WORD % 8)).zeroExtend 64
        ∧ t.get F.FAB_CAP_ADDR_WORD = (s.get F.FAB_CAP_ADDR_WORD + 1) % 128
        ∧ t.get F.FAB_CAP_ADDR_FRAME = (s.get F.FAB_CAP_ADDR_FRAME + (if s.get F.FAB_CAP_ADDR_WORD = 127 then 1 else 0)) % 4096
        ∧ t = { s with regs := t.regs, spine := t.spine, sec := { s.sec with tapOut := t.sec.tapOut } }
        ∧ (∀ adr, adr ∉ ([R.FAB_CAP_ADDR] : List Nat) → t.rd adr = s.rd adr)) ∧
  (∀ (ini : Initiator) (s : State),
      s.sends ini false R.FAB_CAP_DATA = true →
      s.mode ≠ M.service →
      1 < s.lifecycle →
      ∃ t, exec (.capDataRead ini) s = .next t
        ∧ t.respCode ini = 2
        ∧ t.respData ini = 0
        ∧ (s.logTakes ini = true → t.rdN R.IRQ_BERR_ADDR = R.FAB_CAP_DATA ∧ t.get F.IRQ_BERR_INFO_CODE = 2)
        ∧ t.rdN R.IRQ_BERR_COUNT = min 0xFFFFFFFF (s.rdN R.IRQ_BERR_COUNT + 1)
        ∧ t = { s with regs := t.regs, spine := t.spine, berrAt := t.berrAt, engines := t.engines, sec := { s.sec with tapOut := t.sec.tapOut } }
        ∧ (∀ adr, adr ∉ (berrRegs : List Nat) → t.rd adr = s.rd adr)
        ∧ (∀ key, key ∉ (iniEngines ini : List Nat) → t.engine key = s.engine key)) ∧
  (∀ (m : Nat) (u s : State),
      u = s.at_ (s.stepTime m) →
      s.bit F.FAB_SPM_CTL_EN = true →
      u.rimToggles m 1 255 196 0 = true →
      s.fab.spm.busy = false →
      ∃ t, exec (.spmRequest m) s = .next t
        ∧ t.fab.spm = { s.fab.spm with busy := true, write := (u.rimOut m 1 255 196).getLsbD 1, addr := (u.rimOut m 1 255 192).toNat + (u.rimOut m 1 255 193).toNat * 65536, data := u.rimOut m 1 255 195 ++ u.rimOut m 1 255 194, direct := !fabricReach ((u.rimOut m 1 255 196).getLsbD 1) ((u.rimOut m 1 255 192).toNat + (u.rimOut m 1 255 193).toNat * 65536) }
        ∧ t = { u with fab := { s.fab with spm := t.fab.spm } }) ∧
  (∀ (m : Nat) (u s : State),
      u = s.at_ (s.stepTime m) →
      s.bit F.FAB_SPM_CTL_EN = true →
      u.rimToggles m 1 255 196 0 = true →
      s.fab.spm.busy = true →
      ∃ t, exec (.spmRequest m) s = .next t
        ∧ t.rdN R.FAB_SPM_ERR = min 0xFFFFFFFF (s.rdN R.FAB_SPM_ERR + 1)
        ∧ t.isPending 500 = true
        ∧ t = { u with regs := t.regs, irq := t.irq }
        ∧ (∀ adr, adr ∉ (R.FAB_SPM_ERR :: coalesced : List Nat) → t.rd adr = s.rd adr)
        ∧ (∀ num dr, num ∉ ([500] : List Nat) → t.slot num dr = s.slot num dr)) ∧
  (∀ (m : Nat) (u s : State),
      u = s.at_ (s.stepTime m) →
      (s.bit F.FAB_SPM_CTL_EN = false ∨ u.rimToggles m 1 255 196 0 = false) →
      ∃ t, exec (.spmRequest m) s = .next t
        ∧ t = u) ∧
  (∀ (s : State),
      s.fab.spm.busy = true →
      s.fab.spm.direct = true →
      ∃ t, exec .spmResponse s = .next t
        ∧ t.fab = { s.fab with spm := { s.fab.spm with busy := false, direct := false, ack := !s.fab.spm.ack, code := 2, rdata := 0 } }
        ∧ t.rdN R.FAB_SPM_ERR = min 0xFFFFFFFF (s.rdN R.FAB_SPM_ERR + 1)
        ∧ t.isPending 500 = true
        ∧ t = { s with regs := t.regs, irq := t.irq, fab := t.fab }
        ∧ (∀ adr, adr ∉ (R.FAB_SPM_ERR :: coalesced : List Nat) → t.rd adr = s.rd adr)
        ∧ (∀ num dr, num ∉ ([500] : List Nat) → t.slot num dr = s.slot num dr)) ∧
  (∀ (s : State),
      s.fab.spm.busy = false →
      ∃ t, exec .spmResponse s = .next t
        ∧ t = s) ∧
  (∀ (d : RegDesc) (i j a : Nat) (s : State),
      s.fab.spm.busy = true →
      s.fab.spm.direct = false →
      s.fab.spm.write = false →
      s.fab.spm.addr = a →
      s.stallFailed .fabric = false →
      regRow? a = some (d, i, j) →
      a % 4 = 0 →
      s.domOn ((addrDomain a).getD 0) = true →
      rowShows ((a - 0x10000000) / 0x10000) d.off = false →
      ∃ t, exec .spmResponse s = .next t
        ∧ t.fab = { s.fab with spm := { s.fab.spm with busy := false, direct := false, ack := !s.fab.spm.ack, code := 0, rdata := t.fab.spm.rdata } }
        ∧ (∀ f ∈ d.fields, bitsOf t.fab.spm.rdata f.hi f.lo = if f.acc = .wo then 0 else bitsOf (s.rd a) f.hi f.lo)
        ∧ (∀ f ∈ d.fields, bitsOf (t.rd a) f.hi f.lo = if f.acc = .rc then 0 else bitsOf (s.rd a) f.hi f.lo)
        ∧ t = { s with regs := t.regs, spine := t.spine, fab := t.fab }
        ∧ (∀ adr, adr ∉ ([a] : List Nat) → t.rd adr = s.rd adr)) ∧
  (∀ (d : RegDesc) (i j a : Nat) (s : State),
      s.fab.spm.busy = true →
      s.fab.spm.direct = false →
      s.fab.spm.write = true →
      s.fab.spm.addr = a →
      s.stallFailed .fabric = false →
      regRow? a = some (d, i, j) →
      a % 4 = 0 →
      s.domOn ((addrDomain a).getD 0) = true →
      rowActs ((a - 0x10000000) / 0x10000) d.off = false →
      ∃ t, exec .spmResponse s = .next t
        ∧ t.fab = { s.fab with spm := { s.fab.spm with busy := false, direct := false, ack := !s.fab.spm.ack, code := (if d.takes s.fab.spm.data = true then 0 else 2), rdata := 0 } }
        ∧ (∀ f ∈ d.fields, a ≠ R.FAB_SPM_ERR → bitsOf (t.rd a) f.hi f.lo = fieldWritten (s.rd a) s.fab.spm.data f)
        ∧ (d.takes s.fab.spm.data = true → t.irq = s.irq)
        ∧ (d.takes s.fab.spm.data = false → t.isPending 500 = true)
        ∧ t = { s with regs := t.regs, irq := t.irq, spine := t.spine, berrAt := t.berrAt, fab := t.fab }
        ∧ (∀ adr, adr ∉ (a :: if d.takes s.fab.spm.data then [] else R.FAB_SPM_ERR :: berrRegs : List Nat) → t.rd adr = s.rd adr)
        ∧ (∀ num dr, num ∉ ([500] : List Nat) → t.slot num dr = s.slot num dr)) ∧
  (∀ (a : Nat) (v : BitVec 64) (s : State),
      s.fab.spm.busy = true →
      s.fab.spm.direct = false →
      s.fab.spm.write = false →
      s.fab.spm.addr = a →
      s.stallFailed .fabric = false →
      0x23000000 ≤ a →
      a < 0x23400000 →
      a % 4 = 0 →
      s.domOn ((addrDomain a).getD 0) = true →
      gridClassify (s.memWord (a / 8 * 8)) = .clean →
      gridData (s.memWord (a / 8 * 8)) = some v →
      ∃ t, exec .spmResponse s = .next t
        ∧ t.fab = { s.fab with spm := { s.fab.spm with busy := false, direct := false, ack := !s.fab.spm.ack, code := 0, rdata := t.fab.spm.rdata } }
        ∧ t.fab.spm.rdata = BitVec.ofNat 32 (if a % 8 = 0 then v.toNat else v.toNat / 2 ^ 32)
        ∧ t = { s with spine := t.spine, fab := t.fab }) ∧
  (∀ (a c : Nat) (s : State),
      s.fab.spm.busy = true →
      s.fab.spm.direct = false →
      s.fab.spm.addr = a →
      (c = 1 ∧ spineDecodes a = false ∨ c = 4 ∧ spineDecodes a = true ∧ (s.stallFailed .fabric = true ∨ s.domOn ((addrDomain a).getD 0) = false ∧ s.bit (F.PWR_D_CTL_WOA ((addrDomain a).getD 0)) = false)) →
      ∃ t, exec .spmResponse s = .next t
        ∧ t.fab = { s.fab with spm := { s.fab.spm with busy := false, direct := false, ack := !s.fab.spm.ack, code := c, rdata := (if c = 4 ∧ s.fab.spm.write = false then 0xDEAD0FF0#32 else 0) } }
        ∧ t.rdN R.FAB_SPM_ERR = min 0xFFFFFFFF (s.rdN R.FAB_SPM_ERR + 1)
        ∧ t.isPending 500 = true
        ∧ (s.logTakes .fabric = true → t.rdN R.IRQ_BERR_ADDR = a % 2 ^ 32 ∧ t.get F.IRQ_BERR_INFO_INITIATOR = 5 ∧ t.get F.IRQ_BERR_INFO_CODE = c)
        ∧ t.rdN R.IRQ_BERR_COUNT = min 0xFFFFFFFF (s.rdN R.IRQ_BERR_COUNT + 1)
        ∧ (c = 4 → t.isPending 905 = true)
        ∧ t.stalls = (if c = 4 ∧ s.stallFailed .fabric = true then s.stalls.filter (fun e => e.by_ != .fabric) else s.stalls)
        ∧ t = { s with regs := t.regs, irq := t.irq, spine := t.spine, berrAt := t.berrAt, fab := t.fab, stalls := t.stalls }
        ∧ (∀ adr, adr ∉ (R.FAB_SPM_ERR :: berrRegs : List Nat) → t.rd adr = s.rd adr)
        ∧ (∀ num dr, num ∉ ([500, 905] : List Nat) → t.slot num dr = s.slot num dr)) ∧
  (∀ (a : Nat) (s : State),
      s.fab.spm.busy = true →
      s.fab.spm.direct = false →
      s.fab.spm.addr = a →
      spineDecodes a = true →
      s.stallFailed .fabric = false →
      s.domOn ((addrDomain a).getD 0) = false →
      s.bit (F.PWR_D_CTL_WOA ((addrDomain a).getD 0)) = true →
      s.stalls.any (fun e => e.by_ == .fabric) = false →
      ∃ t, exec .spmResponse s = .next t
        ∧ t = { s.wakeDomain ((addrDomain a).getD 0) with stalls := s.stalls ++ [{ dom := (addrDomain a).getD 0, by_ := .fabric }] }) ∧
  (∀ (frame : Fin 4096) (bits : List (Fin 5120)) (s : State),
      ∃ t, exec (.configUpset frame bits) s = .next t
        ∧ ((List.range 16).all (fun j => decide (t.cellCfg (frame.val * 16 + j) = (bits.filter fun b => b.val / 320 == j).foldl (fun w b => w ^^^ BitVec.ofNat 320 (2 ^ (b.val % 320))) (s.cellCfg (frame.val * 16 + j)))) = true)
        ∧ ((List.range 16).all (fun j => !s.tractFree ((frame.val * 16 + j) / 256) || decide (t.cell (frame.val * 16 + j) = s.cell (frame.val * 16 + j))) = true)
        ∧ ((List.range 16).all (fun j => (List.range 8).all (fun l => !t.latched (frame.val * 16 + j) l || cfgOwn (t.cellCfg (frame.val * 16 + j)) l)) = true)
        ∧ ((List.range 16).all (fun j => (List.range 8).all (fun l => (t.contends (frame.val * 16 + j) l).all (fun e => t.latched e.1 e.2))) = true)
        ∧ t = { s with regs := t.regs, irq := t.irq, fab := { s.fab with cfg := t.fab.cfg, cells := t.fab.cells, latch := t.fab.latch } }
        ∧ (∀ adr, adr ∉ (R.FAB_CONT_COUNT :: R.FAB_CONT_STAT :: R.FAB_CONT_CELL :: coalesced : List Nat) → t.rd adr = s.rd adr)
        ∧ (∀ num dr, num ∉ ([496] : List Nat) → t.slot num dr = s.slot num dr)
        ∧ (∀ key, key ∉ ((List.range 16).map fun j => frame.val * 16 + j : List Nat) → t.cellCfg key = s.cellCfg key)) ∧
  (∀ (x y l : Nat) (s : State),
      x < 255 →
      y < 256 →
      (l = 2 ∨ l = 3) →
      cfgOwn (s.cellCfg (cellAt (x + 1) y)) (l + 4) = true →
      cfgOwn (s.cellCfg (cellAt x y)) l = false →
      (∀ j : Nat, j < 16 → ∀ k : Nat, k < 8 → s.contends (cellAt x y / 16 * 16 + j) k = none ∧ s.latched (cellAt x y / 16 * 16 + j) k = false) →
      s.latched (cellAt (x + 1) y) (l + 4) = false →
      ∃ t, exec (.configUpset ⟨cellAt x y / 16 % 4096, Nat.mod_lt _ (by decide)⟩ [⟨(cellAt x y % 16 * 320 + 314 - l) % 5120, Nat.mod_lt _ (by decide)⟩]) s = .next t
        ∧ t.latched (cellAt (x + 1) y) (l + 4) = true
        ∧ t.rdN R.FAB_CONT_COUNT = min 0xFFFFFFFF (s.rdN R.FAB_CONT_COUNT + 1)
        ∧ t.bit F.FAB_CONT_STAT_CONTENTION = true
        ∧ t.rd R.FAB_CONT_CELL = (if s.bit F.FAB_CONT_CELL_VALID = true then s.rd R.FAB_CONT_CELL else BitVec.ofNat 32 (2 ^ 31 + (x + 1) * 65536 + y * 256 + l + 4))
        ∧ t.isPending 496 = true) ∧
  (∀ (ini : Initiator) (s : State),
      s.sends ini true R.FAB_CONT_CLR = true →
      (s.fab.latch.all (fun e => (List.range 8).all (fun l => (s.contends (e.1 / 8) l).isNone))) = true →
      ∃ t, exec (.contReenable ini) s = .next t
        ∧ t.respCode ini = 0
        ∧ t.fab = { s.fab with latch := [] }
        ∧ t = { s with fab := t.fab, spine := t.spine, sec := { s.sec with tapOut := t.sec.tapOut } }) ∧
  (∀ (ini : Initiator) (s : State),
      s.sends ini true R.FAB_CONT_CLR = true →
      s.fab.latch.map (fun e => e.2) = [true] →
      (s.fab.latch.all (fun e => decide ((List.range 8).filterMap (fun l => s.contends (e.1 / 8) l) = [(e.1 / 8, e.1 % 8)]))) = true →
      ∃ t, exec (.contReenable ini) s = .next t
        ∧ t.respCode ini = 0
        ∧ t.fab = s.fab
        ∧ t.rdN R.FAB_CONT_COUNT = min 0xFFFFFFFF (s.rdN R.FAB_CONT_COUNT + 1)
        ∧ t.bit F.FAB_CONT_STAT_CONTENTION = true
        ∧ (s.bit F.FAB_CONT_CELL_VALID = true → t.rd R.FAB_CONT_CELL = s.rd R.FAB_CONT_CELL)
        ∧ t.isPending 496 = true
        ∧ t = { s with regs := t.regs, irq := t.irq, spine := t.spine, sec := { s.sec with tapOut := t.sec.tapOut } }
        ∧ (∀ adr, adr ∉ (R.FAB_CONT_COUNT :: R.FAB_CONT_STAT :: R.FAB_CONT_CELL :: coalesced : List Nat) → t.rd adr = s.rd adr)
        ∧ (∀ num dr, num ∉ ([496] : List Nat) → t.slot num dr = s.slot num dr))

/-- The arithmetic of a reed cell (parts of R299, R300, R302, R305, R306, R307, R308, R316, R329, R332). s.inStep m is the state at the micro-step m of the user cycles in which the cell c acts: wheel time and the feed words are those of the micro-step. a, b and d are the sources that the instruction names (with TRIPLE those latched in the first of its three micro-steps), C and F the flags before. "Gives" says what is registered, with TRIPLE by majority in the third micro-step: the result in PREV and in the destination, C and F. The other cells, and what a clause does not name, stay. (1) Feed words are sampled at every edge with E mod 8 = 0 and held for 8 micro-steps: the first cell to act in those 8 finds the sample of their first edge, the others the same. (2) The feed words of a sample at time w: ANGLE, VALID, STALLED, REVERSE and SPEED of domains A and B; the angle of domain T and whether it runs; wheel time; MODE; whether the internal SYNC and the SNAP trigger came within 8 micro-steps. (3) The sources: Q0-Q3; the lanes NA-WB as the cell sees them; the immediate [11:0], sign-extended; ZERO; PREV; RAMD; C in bit 0 and F in bit 1. (4) MOV: a. (5) ADD: a + b; C is the carry out. (6) ADC: a + b + C; C is the carry out. (7) SUB: a - b; C is a ≥ b, unsigned. (8) SBC: a - b - (1 - C); C is 1 when there is no borrow. (9) MULL: bits [15:0] of a × b. (10) MULH: bits [31:16] of a × b, signed. (11) MULHU: bits [31:16] of a × b, unsigned. (12) MIN: the smaller of a and b, signed. (13) MAX: the greater, signed. (14) MINU: the smaller, unsigned. (15) MAXU: the greater, unsigned. (16) ADDS: a + b, signed, saturated to 16 bits; C is 1 if it was saturated. (17) SUBS: a - b, likewise. (18) INCEQ: a + 1; F is whether that equals b. (19) In a micro-step in which the cell is in set-reset, off, in bit mode, or its instruction is another, the command of an operation changes no cell. Readings and choices of the model that it rests on: log entries 75, 77, 81. -/
def Obligations.ReedArithmetic : Prop :=
  (∀ (m : Nat) (s : State),
      ((s.fab.feedAt = m / 8 + 1 → (s.inStep m).fab = s.fab) ∧ (s.fab.feedAt ≠ m / 8 + 1 → (s.inStep m).fab.feedAt = m / 8 + 1 ∧ (s.inStep m).fab.feed = (List.range 16).map (fun j => (s.at_ (s.stepTime m)).feedWord (s.stepTime (m - m % 8)) j)))
        ∧ s.inStep m = { s with now := max s.now (s.stepTime m), fab := { s.fab with feedAt := (s.inStep m).fab.feedAt, feed := (s.inStep m).fab.feed, ser := (s.inStep m).fab.ser } }) ∧
  (∀ (w : Nat) (s : State),
      (s.feedWord w 0 = BitVec.ofNat 16 (s.domAngle 0 w % revUnits).toNat ∧ s.feedWord w 1 = BitVec.ofNat 16 ((s.domAngle 0 w % revUnits).toNat / 65536 % 256 + (if s.domValid 0 = true then 0x100 else 0) + (if s.domStalled 0 = true then 0x200 else 0) + (if s.domReverse 0 = true then 0x400 else 0)) ∧ s.feedWord w 2 = BitVec.ofInt 16 (s.domSpeed 0) ∧ s.feedWord w 3 = BitVec.ofInt 16 (s.domSpeed 0 / 65536))
        ∧ (s.feedWord w 4 = BitVec.ofNat 16 (s.domAngle 1 w % revUnits).toNat ∧ s.feedWord w 5 = BitVec.ofNat 16 ((s.domAngle 1 w % revUnits).toNat / 65536 % 256 + (if s.domValid 1 = true then 0x100 else 0) + (if s.domStalled 1 = true then 0x200 else 0) + (if s.domReverse 1 = true then 0x400 else 0)) ∧ s.feedWord w 6 = BitVec.ofInt 16 (s.domSpeed 1) ∧ s.feedWord w 7 = BitVec.ofInt 16 (s.domSpeed 1 / 65536))
        ∧ s.feedWord w 8 = BitVec.ofNat 16 (s.domAngle 2 w % revUnits).toNat
        ∧ s.feedWord w 9 = BitVec.ofNat 16 ((s.domAngle 2 w % revUnits).toNat / 65536 % 256 + (if (s.tRuns && s.tick.started) = true then 0x100 else 0))
        ∧ (∀ j : Nat, j < 4 → s.feedWord w (10 + j) = BitVec.ofNat 16 (w / 2 ^ (16 * j)))
        ∧ s.feedWord w 14 = BitVec.ofNat 16 s.mode
        ∧ (s.feedWord w 15).getLsbD 0 = s.clk.syncAt.any (fun x => decide (x ≤ w ∧ w < x + 4))
        ∧ (s.feedWord w 15).getLsbD 1 = s.snapAt.any (fun x => decide (x ≤ w ∧ w < x + 4))) ∧
  (∀ (id m w : Nat) (s : State),
      (s.source id m w 0 = (s.cell id).q0 ∧ s.source id m w 1 = (s.cell id).q1 ∧ s.source id m w 2 = (s.cell id).q2 ∧ s.source id m w 3 = (s.cell id).q3)
        ∧ (∀ l : Nat, l < 8 → s.source id m w (l + 4) = s.seeLane m 8 id l)
        ∧ (s.source id m w 12).toInt = (if w % 4096 < 2048 then (w % 4096 : Nat) else (w % 4096 : Nat) - 4096 : Int)
        ∧ s.source id m w 13 = 0
        ∧ s.source id m w 14 = (s.cell id).prev
        ∧ s.source id m w 15 = (s.cell id).ramd.see m
        ∧ s.source id m w 16 = BitVec.ofNat 16 ((if (s.cell id).c = true then 1 else 0) + (if (s.cell id).f = true then 2 else 0))) ∧
  (∀ (c : Fin 65536) (m : Nat) (s : State),
      s.reedIssues 0x01 c.val m = true →
      ∃ t, exec (.reedMov c m) s = .next t
        ∧ t.cell c.val = s.reedCell c.val m ((s.reedSrc c.val m 17)) ((s.cell c.val).c) ((s.cell c.val).f)
        ∧ t = { s.inStep m with fab := { (s.inStep m).fab with cells := t.fab.cells } }
        ∧ (∀ key, key ∉ ([c.val] : List Nat) → t.cell key = s.cell key)) ∧
  (∀ (c : Fin 65536) (m : Nat) (s : State),
      s.reedIssues 0x02 c.val m = true →
      ∃ t, exec (.reedAdd c m) s = .next t
        ∧ t.cell c.val = s.reedCell c.val m ((s.reedSrc c.val m 17) + (s.reedSrc c.val m 12)) (decide (65536 ≤ (s.reedSrc c.val m 17).toNat + (s.reedSrc c.val m 12).toNat)) ((s.cell c.val).f)
        ∧ t = { s.inStep m with fab := { (s.inStep m).fab with cells := t.fab.cells } }
        ∧ (∀ key, key ∉ ([c.val] : List Nat) → t.cell key = s.cell key)) ∧
  (∀ (c : Fin 65536) (m : Nat) (s : State),
      s.reedIssues 0x03 c.val m = true →
      ∃ t, exec (.reedAdc c m) s = .next t
        ∧ t.cell c.val = s.reedCell c.val m ((s.reedSrc c.val m 17) + (s.reedSrc c.val m 12) + (if (s.cell c.val).c = true then 1 else 0)) (decide (65536 ≤ (s.reedSrc c.val m 17).toNat + (s.reedSrc c.val m 12).toNat + (if (s.cell c.val).c = true then 1 else 0))) ((s.cell c.val).f)
        ∧ t = { s.inStep m with fab := { (s.inStep m).fab with cells := t.fab.cells } }
        ∧ (∀ key, key ∉ ([c.val] : List Nat) → t.cell key = s.cell key)) ∧
  (∀ (c : Fin 65536) (m : Nat) (s : State),
      s.reedIssues 0x04 c.val m = true →
      ∃ t, exec (.reedSub c m) s = .next t
        ∧ t.cell c.val = s.reedCell c.val m ((s.reedSrc c.val m 17) - (s.reedSrc c.val m 12)) (decide ((s.reedSrc c.val m 12).toNat ≤ (s.reedSrc c.val m 17).toNat)) ((s.cell c.val).f)
        ∧ t = { s.inStep m with fab := { (s.inStep m).fab with cells := t.fab.cells } }
        ∧ (∀ key, key ∉ ([c.val] : List Nat) → t.cell key = s.cell key)) ∧
  (∀ (c : Fin 65536) (m : Nat) (s : State),
      s.reedIssues 0x05 c.val m = true →
      ∃ t, exec (.reedSbc c m) s = .next t
        ∧ t.cell c.val = s.reedCell c.val m ((s.reedSrc c.val m 17) - (s.reedSrc c.val m 12) - (if (s.cell c.val).c = true then 0 else 1)) (decide ((s.reedSrc c.val m 12).toNat + (if (s.cell c.val).c = true then 0 else 1) ≤ (s.reedSrc c.val m 17).toNat)) ((s.cell c.val).f)
        ∧ t = { s.inStep m with fab := { (s.inStep m).fab with cells := t.fab.cells } }
        ∧ (∀ key, key ∉ ([c.val] : List Nat) → t.cell key = s.cell key)) ∧
  (∀ (c : Fin 65536) (m : Nat) (s : State),
      s.reedIssues 0x0F c.val m = true →
      ∃ t, exec (.reedMull c m) s = .next t
        ∧ t.cell c.val = s.reedCell c.val m ((s.reedSrc c.val m 17) * (s.reedSrc c.val m 12)) ((s.cell c.val).c) ((s.cell c.val).f)
        ∧ t = { s.inStep m with fab := { (s.inStep m).fab with cells := t.fab.cells } }
        ∧ (∀ key, key ∉ ([c.val] : List Nat) → t.cell key = s.cell key)) ∧
  (∀ (c : Fin 65536) (m : Nat) (s : State),
      s.reedIssues 0x10 c.val m = true →
      ∃ t, exec (.reedMulh c m) s = .next t
        ∧ t.cell c.val = s.reedCell c.val m (((s.reedSrc c.val m 17).signExtend 32 * (s.reedSrc c.val m 12).signExtend 32).extractLsb' 16 16) ((s.cell c.val).c) ((s.cell c.val).f)
        ∧ t = { s.inStep m with fab := { (s.inStep m).fab with cells := t.fab.cells } }
        ∧ (∀ key, key ∉ ([c.val] : List Nat) → t.cell key = s.cell key)) ∧
  (∀ (c : Fin 65536) (m : Nat) (s : State),
      s.reedIssues 0x11 c.val m = true →
      ∃ t, exec (.reedMulhu c m) s = .next t
        ∧ t.cell c.val = s.reedCell c.val m (((s.reedSrc c.val m 17).zeroExtend 32 * (s.reedSrc c.val m 12).zeroExtend 32).extractLsb' 16 16) ((s.cell c.val).c) ((s.cell c.val).f)
        ∧ t = { s.inStep m with fab := { (s.inStep m).fab with cells := t.fab.cells } }
        ∧ (∀ key, key ∉ ([c.val] : List Nat) → t.cell key = s.cell key)) ∧
  (∀ (c : Fin 65536) (m : Nat) (s : State),
      s.reedIssues 0x12 c.val m = true →
      ∃ t, exec (.reedMin c m) s = .next t
        ∧ t.cell c.val = s.reedCell c.val m (if (s.reedSrc c.val m 17).slt (s.reedSrc c.val m 12) = true then (s.reedSrc c.val m 17) else (s.reedSrc c.val m 12)) ((s.cell c.val).c) ((s.cell c.val).f)
        ∧ t = { s.inStep m with fab := { (s.inStep m).fab with cells := t.fab.cells } }
        ∧ (∀ key, key ∉ ([c.val] : List Nat) → t.cell key = s.cell key)) ∧
  (∀ (c : Fin 65536) (m : Nat) (s : State),
      s.reedIssues 0x13 c.val m = true →
      ∃ t, exec (.reedMax c m) s = .next t
        ∧ t.cell c.val = s.reedCell c.val m (if (s.reedSrc c.val m 17).slt (s.reedSrc c.val m 12) = true then (s.reedSrc c.val m 12) else (s.reedSrc c.val m 17)) ((s.cell c.val).c) ((s.cell c.val).f)
        ∧ t = { s.inStep m with fab := { (s.inStep m).fab with cells := t.fab.cells } }
        ∧ (∀ key, key ∉ ([c.val] : List Nat) → t.cell key = s.cell key)) ∧
  (∀ (c : Fin 65536) (m : Nat) (s : State),
      s.reedIssues 0x14 c.val m = true →
      ∃ t, exec (.reedMinu c m) s = .next t
        ∧ t.cell c.val = s.reedCell c.val m (if (s.reedSrc c.val m 17).ult (s.reedSrc c.val m 12) = true then (s.reedSrc c.val m 17) else (s.reedSrc c.val m 12)) ((s.cell c.val).c) ((s.cell c.val).f)
        ∧ t = { s.inStep m with fab := { (s.inStep m).fab with cells := t.fab.cells } }
        ∧ (∀ key, key ∉ ([c.val] : List Nat) → t.cell key = s.cell key)) ∧
  (∀ (c : Fin 65536) (m : Nat) (s : State),
      s.reedIssues 0x15 c.val m = true →
      ∃ t, exec (.reedMaxu c m) s = .next t
        ∧ t.cell c.val = s.reedCell c.val m (if (s.reedSrc c.val m 17).ult (s.reedSrc c.val m 12) = true then (s.reedSrc c.val m 12) else (s.reedSrc c.val m 17)) ((s.cell c.val).c) ((s.cell c.val).f)
        ∧ t = { s.inStep m with fab := { (s.inStep m).fab with cells := t.fab.cells } }
        ∧ (∀ key, key ∉ ([c.val] : List Nat) → t.cell key = s.cell key)) ∧
  (∀ (c : Fin 65536) (m : Nat) (s : State),
      s.reedIssues 0x1D c.val m = true →
      ∃ t, exec (.reedAdds c m) s = .next t
        ∧ t.cell c.val = s.reedCell c.val m (BitVec.ofInt 16 (max (-32768) (min 32767 ((s.reedSrc c.val m 17).toInt + (s.reedSrc c.val m 12).toInt)))) (decide (((s.reedSrc c.val m 17).toInt + (s.reedSrc c.val m 12).toInt) < -32768 ∨ 32767 < ((s.reedSrc c.val m 17).toInt + (s.reedSrc c.val m 12).toInt))) ((s.cell c.val).f)
        ∧ t = { s.inStep m with fab := { (s.inStep m).fab with cells := t.fab.cells } }
        ∧ (∀ key, key ∉ ([c.val] : List Nat) → t.cell key = s.cell key)) ∧
  (∀ (c : Fin 65536) (m : Nat) (s : State),
      s.reedIssues 0x1E c.val m = true →
      ∃ t, exec (.reedSubs c m) s = .next t
        ∧ t.cell c.val = s.reedCell c.val m (BitVec.ofInt 16 (max (-32768) (min 32767 ((s.reedSrc c.val m 17).toInt - (s.reedSrc c.val m 12).toInt)))) (decide (((s.reedSrc c.val m 17).toInt - (s.reedSrc c.val m 12).toInt) < -32768 ∨ 32767 < ((s.reedSrc c.val m 17).toInt - (s.reedSrc c.val m 12).toInt))) ((s.cell c.val).f)
        ∧ t = { s.inStep m with fab := { (s.inStep m).fab with cells := t.fab.cells } }
        ∧ (∀ key, key ∉ ([c.val] : List Nat) → t.cell key = s.cell key)) ∧
  (∀ (c : Fin 65536) (m : Nat) (s : State),
      s.reedIssues 0x1F c.val m = true →
      ∃ t, exec (.reedInceq c m) s = .next t
        ∧ t.cell c.val = s.reedCell c.val m ((s.reedSrc c.val m 17) + 1) ((s.cell c.val).c) ((s.reedSrc c.val m 17) + 1 == (s.reedSrc c.val m 12))
        ∧ t = { s.inStep m with fab := { (s.inStep m).fab with cells := t.fab.cells } }
        ∧ (∀ key, key ∉ ([c.val] : List Nat) → t.cell key = s.cell key)) ∧
  (∀ (c : Fin 65536) (m : Nat) (op : Nat) (i : Instr) (s : State),
      (op, i) ∈ ([(0x01, .reedMov c m), (0x02, .reedAdd c m), (0x03, .reedAdc c m), (0x04, .reedSub c m), (0x05, .reedSbc c m), (0x0F, .reedMull c m), (0x10, .reedMulh c m), (0x11, .reedMulhu c m), (0x12, .reedMin c m), (0x13, .reedMax c m), (0x14, .reedMinu c m), (0x15, .reedMaxu c m), (0x1D, .reedAdds c m), (0x1E, .reedSubs c m), (0x1F, .reedInceq c m)] : List (Nat × Instr)) →
      s.reedIssues op c.val m = false →
      ∃ t, exec i s = .next t
        ∧ t = s.inStep m)

/-- Logic, tests, selections, RAM and look-up tables of a reed cell (parts of R299, R300, R302, R305, R306, R307, R308, R309, R310, R316, R319, R320, R321, R323, R329, R332, R496, R498, R500). s.inStep m is the state at the micro-step m of the user cycles in which the cell c acts: wheel time and the feed words are those of the micro-step. a, b and d are the sources that the instruction names (with TRIPLE those latched in the first of its three micro-steps), C and F the flags before. "Gives" says what is registered, with TRIPLE by majority in the third micro-step: the result in PREV and in the destination, C and F. The other cells, and what a clause does not name, stay. (1) NOP registers nothing; with TRIPLE its micro-steps hold their sources and results like any other. (2) AND: a and b, bit by bit. (3) OR. (4) XOR. (5) ANDN: a and not b. (6) NOT: not a. (7) SHL by b[3:0]. (8) SHR, logical, by b[3:0]. (9) SRA, arithmetic, by b[3:0]. (10) ROL: a rotated left by b[3:0]. (11) EQ: all ones if a = b, else 0; F says so. (12) LT: the same of a < b, signed. (13) LTU: of a < b, unsigned. (14) TST: a and b; F is whether that is not 0. (15) SEL: a if F, else b. (16) BSEL: a if bit X[3:0] of d is 1, else b. (17) MUXQ: Q of (a >> X[3:0]) and 3. (18) FLAG: a; F is bit X[3:0] of a. (19) RAMRD by the address cell of a RAM group, at the end of the micro-step that registers its result a (with TRIPLE the majority): the word at a[8:0] of its block, if it has no error, appears on RAMD of the four cells from the next micro-step on, cell 0 bits [15:0]. C and F stay. (20) A word with one bad bit is delivered corrected, and logged as a foreground read by the fabric (r is the state after the read of the word, O54). (21) An uncorrectable word delivers 0 on all four, sets F of the address cell, and is logged likewise; RAM_STAT.POISON, the address of the word in POISON_ADDR, POISON_CNT one up, source 499. (22) RAMWR by the address cell writes to word a[8:0] the RAMWD values of its four cells, as they stood before this micro-step, cell 3 in bits [63:48] (it has not registered one for a later micro-step). (23) By another cell, and in the first two micro-steps of a TRIPLE, RAMRD and RAMWR give a and touch no RAM. (24) RAM addresses: the block of the address cell, 512 words of 8 bytes, blocks following each other from 0x2300_0000 in the order of tracts, four to a tract. (25) REED_LUT_STEP of a running bit-mode cell in micro-step WR_STEP of its phrase: output bit j is the entry of look-up table j that bits j of its four sources select, d3 the highest; the sixteen bits are registered in the destination. C and F stay. (26) In another micro-step, in word mode, or in set-reset: nothing. (27) In a micro-step in which the cell is in set-reset, off, in bit mode, or its instruction is another, the command of an operation changes no cell. Readings and choices of the model that it rests on: log entries 75, 77, 81. -/
def Obligations.ReedLogic : Prop :=
  (∀ (c : Fin 65536) (m : Nat) (s : State),
      s.reedIssues 0x00 c.val m = true →
      ∃ t, exec (.reedNop c m) s = .next t
        ∧ (cfgTriple (s.cellCfg c.val) = false ∨ s.reedPlace c.val m % 3 = 2 → t = s.inStep m)
        ∧ (cfgTriple (s.cellCfg c.val) = true → s.reedPlace c.val m % 3 ≠ 2 → t.cell c.val = s.reedCell c.val m 0 (s.cell c.val).c (s.cell c.val).f)
        ∧ t = { s.inStep m with fab := { (s.inStep m).fab with cells := t.fab.cells } }
        ∧ (∀ key, key ∉ ([c.val] : List Nat) → t.cell key = s.cell key)) ∧
  (∀ (c : Fin 65536) (m : Nat) (s : State),
      s.reedIssues 0x06 c.val m = true →
      ∃ t, exec (.reedAnd c m) s = .next t
        ∧ t.cell c.val = s.reedCell c.val m ((s.reedSrc c.val m 17) &&& (s.reedSrc c.val m 12)) ((s.cell c.val).c) ((s.cell c.val).f)
        ∧ t = { s.inStep m with fab := { (s.inStep m).fab with cells := t.fab.cells } }
        ∧ (∀ key, key ∉ ([c.val] : List Nat) → t.cell key = s.cell key)) ∧
  (∀ (c : Fin 65536) (m : Nat) (s : State),
      s.reedIssues 0x07 c.val m = true →
      ∃ t, exec (.reedOr c m) s = .next t
        ∧ t.cell c.val = s.reedCell c.val m ((s.reedSrc c.val m 17) ||| (s.reedSrc c.val m 12)) ((s.cell c.val).c) ((s.cell c.val).f)
        ∧ t = { s.inStep m with fab := { (s.inStep m).fab with cells := t.fab.cells } }
        ∧ (∀ key, key ∉ ([c.val] : List Nat) → t.cell key = s.cell key)) ∧
  (∀ (c : Fin 65536) (m : Nat) (s : State),
      s.reedIssues 0x08 c.val m = true →
      ∃ t, exec (.reedXor c m) s = .next t
        ∧ t.cell c.val = s.reedCell c.val m ((s.reedSrc c.val m 17) ^^^ (s.reedSrc c.val m 12)) ((s.cell c.val).c) ((s.cell c.val).f)
        ∧ t = { s.inStep m with fab := { (s.inStep m).fab with cells := t.fab.cells } }
        ∧ (∀ key, key ∉ ([c.val] : List Nat) → t.cell key = s.cell key)) ∧
  (∀ (c : Fin 65536) (m : Nat) (s : State),
      s.reedIssues 0x09 c.val m = true →
      ∃ t, exec (.reedAndn c m) s = .next t
        ∧ t.cell c.val = s.reedCell c.val m ((s.reedSrc c.val m 17) &&& ~~~(s.reedSrc c.val m 12)) ((s.cell c.val).c) ((s.cell c.val).f)
        ∧ t = { s.inStep m with fab := { (s.inStep m).fab with cells := t.fab.cells } }
        ∧ (∀ key, key ∉ ([c.val] : List Nat) → t.cell key = s.cell key)) ∧
  (∀ (c : Fin 65536) (m : Nat) (s : State),
      s.reedIssues 0x0A c.val m = true →
      ∃ t, exec (.reedNot c m) s = .next t
        ∧ t.cell c.val = s.reedCell c.val m (~~~(s.reedSrc c.val m 17)) ((s.cell c.val).c) ((s.cell c.val).f)
        ∧ t = { s.inStep m with fab := { (s.inStep m).fab with cells := t.fab.cells } }
        ∧ (∀ key, key ∉ ([c.val] : List Nat) → t.cell key = s.cell key)) ∧
  (∀ (c : Fin 65536) (m : Nat) (s : State),
      s.reedIssues 0x0B c.val m = true →
      ∃ t, exec (.reedShl c m) s = .next t
        ∧ t.cell c.val = s.reedCell c.val m ((s.reedSrc c.val m 17) <<< ((s.reedSrc c.val m 12).toNat % 16)) ((s.cell c.val).c) ((s.cell c.val).f)
        ∧ t = { s.inStep m with fab := { (s.inStep m).fab with cells := t.fab.cells } }
        ∧ (∀ key, key ∉ ([c.val] : List Nat) → t.cell key = s.cell key)) ∧
  (∀ (c : Fin 65536) (m : Nat) (s : State),
      s.reedIssues 0x0C c.val m = true →
      ∃ t, exec (.reedShr c m) s = .next t
        ∧ t.cell c.val = s.reedCell c.val m ((s.reedSrc c.val m 17) >>> ((s.reedSrc c.val m 12).toNat % 16)) ((s.cell c.val).c) ((s.cell c.val).f)
        ∧ t = { s.inStep m with fab := { (s.inStep m).fab with cells := t.fab.cells } }
        ∧ (∀ key, key ∉ ([c.val] : List Nat) → t.cell key = s.cell key)) ∧
  (∀ (c : Fin 65536) (m : Nat) (s : State),
      s.reedIssues 0x0D c.val m = true →
      ∃ t, exec (.reedSra c m) s = .next t
        ∧ t.cell c.val = s.reedCell c.val m ((s.reedSrc c.val m 17).sshiftRight ((s.reedSrc c.val m 12).toNat % 16)) ((s.cell c.val).c) ((s.cell c.val).f)
        ∧ t = { s.inStep m with fab := { (s.inStep m).fab with cells := t.fab.cells } }
        ∧ (∀ key, key ∉ ([c.val] : List Nat) → t.cell key = s.cell key)) ∧
  (∀ (c : Fin 65536) (m : Nat) (s : State),
      s.reedIssues 0x0E c.val m = true →
      ∃ t, exec (.reedRol c m) s = .next t
        ∧ t.cell c.val = s.reedCell c.val m ((s.reedSrc c.val m 17) <<< ((s.reedSrc c.val m 12).toNat % 16) ||| (s.reedSrc c.val m 17) >>> (16 - ((s.reedSrc c.val m 12).toNat % 16))) ((s.cell c.val).c) ((s.cell c.val).f)
        ∧ t = { s.inStep m with fab := { (s.inStep m).fab with cells := t.fab.cells } }
        ∧ (∀ key, key ∉ ([c.val] : List Nat) → t.cell key = s.cell key)) ∧
  (∀ (c : Fin 65536) (m : Nat) (s : State),
      s.reedIssues 0x16 c.val m = true →
      ∃ t, exec (.reedEq c m) s = .next t
        ∧ t.cell c.val = s.reedCell c.val m (if (s.reedSrc c.val m 17) = (s.reedSrc c.val m 12) then 0xFFFF#16 else 0) ((s.cell c.val).c) ((s.reedSrc c.val m 17) == (s.reedSrc c.val m 12))
        ∧ t = { s.inStep m with fab := { (s.inStep m).fab with cells := t.fab.cells } }
        ∧ (∀ key, key ∉ ([c.val] : List Nat) → t.cell key = s.cell key)) ∧
  (∀ (c : Fin 65536) (m : Nat) (s : State),
      s.reedIssues 0x17 c.val m = true →
      ∃ t, exec (.reedLt c m) s = .next t
        ∧ t.cell c.val = s.reedCell c.val m (if (s.reedSrc c.val m 17).slt (s.reedSrc c.val m 12) = true then 0xFFFF#16 else 0) ((s.cell c.val).c) ((s.reedSrc c.val m 17).slt (s.reedSrc c.val m 12))
        ∧ t = { s.inStep m with fab := { (s.inStep m).fab with cells := t.fab.cells } }
        ∧ (∀ key, key ∉ ([c.val] : List Nat) → t.cell key = s.cell key)) ∧
  (∀ (c : Fin 65536) (m : Nat) (s : State),
      s.reedIssues 0x18 c.val m = true →
      ∃ t, exec (.reedLtu c m) s = .next t
        ∧ t.cell c.val = s.reedCell c.val m (if (s.reedSrc c.val m 17).ult (s.reedSrc c.val m 12) = true then 0xFFFF#16 else 0) ((s.cell c.val).c) ((s.reedSrc c.val m 17).ult (s.reedSrc c.val m 12))
        ∧ t = { s.inStep m with fab := { (s.inStep m).fab with cells := t.fab.cells } }
        ∧ (∀ key, key ∉ ([c.val] : List Nat) → t.cell key = s.cell key)) ∧
  (∀ (c : Fin 65536) (m : Nat) (s : State),
      s.reedIssues 0x19 c.val m = true →
      ∃ t, exec (.reedTst c m) s = .next t
        ∧ t.cell c.val = s.reedCell c.val m ((s.reedSrc c.val m 17) &&& (s.reedSrc c.val m 12)) ((s.cell c.val).c) ((s.reedSrc c.val m 17) &&& (s.reedSrc c.val m 12) != 0)
        ∧ t = { s.inStep m with fab := { (s.inStep m).fab with cells := t.fab.cells } }
        ∧ (∀ key, key ∉ ([c.val] : List Nat) → t.cell key = s.cell key)) ∧
  (∀ (c : Fin 65536) (m : Nat) (s : State),
      s.reedIssues 0x1A c.val m = true →
      ∃ t, exec (.reedSel c m) s = .next t
        ∧ t.cell c.val = s.reedCell c.val m (if (s.cell c.val).f = true then (s.reedSrc c.val m 17) else (s.reedSrc c.val m 12)) ((s.cell c.val).c) ((s.cell c.val).f)
        ∧ t = { s.inStep m with fab := { (s.inStep m).fab with cells := t.fab.cells } }
        ∧ (∀ key, key ∉ ([c.val] : List Nat) → t.cell key = s.cell key)) ∧
  (∀ (c : Fin 65536) (m : Nat) (s : State),
      s.reedIssues 0x1B c.val m = true →
      ∃ t, exec (.reedBsel c m) s = .next t
        ∧ t.cell c.val = s.reedCell c.val m (if (s.reedSrc c.val m 7).getLsbD (s.reedWord c.val m % 16) = true then (s.reedSrc c.val m 17) else (s.reedSrc c.val m 12)) ((s.cell c.val).c) ((s.cell c.val).f)
        ∧ t = { s.inStep m with fab := { (s.inStep m).fab with cells := t.fab.cells } }
        ∧ (∀ key, key ∉ ([c.val] : List Nat) → t.cell key = s.cell key)) ∧
  (∀ (c : Fin 65536) (m : Nat) (s : State),
      s.reedIssues 0x1C c.val m = true →
      ∃ t, exec (.reedMuxq c m) s = .next t
        ∧ t.cell c.val = s.reedCell c.val m ([(s.cell c.val).q0, (s.cell c.val).q1, (s.cell c.val).q2, (s.cell c.val).q3].getD (((s.reedSrc c.val m 17) >>> (s.reedWord c.val m % 16)).toNat % 4) 0) ((s.cell c.val).c) ((s.cell c.val).f)
        ∧ t = { s.inStep m with fab := { (s.inStep m).fab with cells := t.fab.cells } }
        ∧ (∀ key, key ∉ ([c.val] : List Nat) → t.cell key = s.cell key)) ∧
  (∀ (c : Fin 65536) (m : Nat) (s : State),
      s.reedIssues 0x22 c.val m = true →
      ∃ t, exec (.reedFlag c m) s = .next t
        ∧ t.cell c.val = s.reedCell c.val m ((s.reedSrc c.val m 17)) ((s.cell c.val).c) ((s.reedSrc c.val m 17).getLsbD (s.reedWord c.val m % 16))
        ∧ t = { s.inStep m with fab := { (s.inStep m).fab with cells := t.fab.cells } }
        ∧ (∀ key, key ∉ ([c.val] : List Nat) → t.cell key = s.cell key)) ∧
  (∀ (c : Fin 65536) (m w : Nat) (x : BitVec 16) (v : BitVec 64) (s : State),
      s.reedIssues 0x20 c.val m = true →
      s.reedLast c.val m = true →
      isRamAddr c.val = true →
      x = (s.reedCell c.val m (s.reedSrc c.val m 17) (s.cell c.val).c (s.cell c.val).f).prev →
      w = ramAddr c.val (x.toNat % 512) →
      gridClassify (s.memWord w) = .clean →
      gridData (s.memWord w) = some v →
      ∃ t, exec (.reedRamrd c m) s = .next t
        ∧ t.cell c.val = { s.reedCell c.val m (s.reedSrc c.val m 17) (s.cell c.val).c (s.cell c.val).f with ramd := (t.cell c.val).ramd }
        ∧ (t.cell c.val).ramd = (s.cell c.val).ramd.write m (BitVec.ofNat 16 v.toNat)
        ∧ (t.cell (c.val + 16)).ramd = (s.cell (c.val + 16)).ramd.write m (BitVec.ofNat 16 (v.toNat / 2 ^ 16))
        ∧ (t.cell (c.val + 32)).ramd = (s.cell (c.val + 32)).ramd.write m (BitVec.ofNat 16 (v.toNat / 2 ^ 32))
        ∧ (t.cell (c.val + 48)).ramd = (s.cell (c.val + 48)).ramd.write m (BitVec.ofNat 16 (v.toNat / 2 ^ 48))
        ∧ (∀ j ∈ ([16, 32, 48] : List Nat), t.cell (c.val + j) = { s.cell (c.val + j) with ramd := (t.cell (c.val + j)).ramd })
        ∧ t = { s.inStep m with fab := { (s.inStep m).fab with cells := t.fab.cells } }
        ∧ (∀ key, key ∉ ([c.val, c.val + 16, c.val + 32, c.val + 48] : List Nat) → t.cell key = s.cell key)) ∧
  (∀ (c : Fin 65536) (m w : Nat) (x : BitVec 16) (v : BitVec 64) (r : State) (s : State),
      s.reedIssues 0x20 c.val m = true →
      s.reedLast c.val m = true →
      isRamAddr c.val = true →
      x = (s.reedCell c.val m (s.reedSrc c.val m 17) (s.cell c.val).c (s.cell c.val).f).prev →
      w = ramAddr c.val (x.toNat % 512) →
      (gridClassify (s.memWord w) ≠ .clean ∧ gridClassify (s.memWord w) ≠ .uncorrectable) →
      gridData (s.memWord w) = some v →
      r = (s.memRead 5 w).1 →
      ∃ t, exec (.reedRamrd c m) s = .next t
        ∧ t.cell c.val = { s.reedCell c.val m (s.reedSrc c.val m 17) (s.cell c.val).c (s.cell c.val).f with ramd := (t.cell c.val).ramd }
        ∧ (t.cell c.val).ramd = (s.cell c.val).ramd.write m (BitVec.ofNat 16 v.toNat)
        ∧ (t.cell (c.val + 16)).ramd = (s.cell (c.val + 16)).ramd.write m (BitVec.ofNat 16 (v.toNat / 2 ^ 16))
        ∧ (t.cell (c.val + 32)).ramd = (s.cell (c.val + 32)).ramd.write m (BitVec.ofNat 16 (v.toNat / 2 ^ 32))
        ∧ (t.cell (c.val + 48)).ramd = (s.cell (c.val + 48)).ramd.write m (BitVec.ofNat 16 (v.toNat / 2 ^ 48))
        ∧ (∀ j ∈ ([16, 32, 48] : List Nat), t.cell (c.val + j) = { s.cell (c.val + j) with ramd := (t.cell (c.val + j)).ramd })
        ∧ t.irq = r.irq
        ∧ t.regs = r.regs
        ∧ t.rdN R.ECC_CORR_COUNT = min 0xFFFFFFFF (s.rdN R.ECC_CORR_COUNT + 1)
        ∧ t.rd R.ECC_LAST_CORR = BitVec.ofNat 32 w
        ∧ t = { s.inStep m with regs := t.regs, irq := t.irq, fab := { (s.inStep m).fab with cells := t.fab.cells } }
        ∧ (∀ key, key ∉ ([c.val, c.val + 16, c.val + 32, c.val + 48] : List Nat) → t.cell key = s.cell key)) ∧
  (∀ (c : Fin 65536) (m w : Nat) (x : BitVec 16) (r : State) (s : State),
      s.reedIssues 0x20 c.val m = true →
      s.reedLast c.val m = true →
      isRamAddr c.val = true →
      x = (s.reedCell c.val m (s.reedSrc c.val m 17) (s.cell c.val).c (s.cell c.val).f).prev →
      w = ramAddr c.val (x.toNat % 512) →
      gridClassify (s.memWord w) = .uncorrectable →
      r = (s.memRead 5 w).1 →
      ∃ t, exec (.reedRamrd c m) s = .next t
        ∧ t.cell c.val = { s.reedCell c.val m (s.reedSrc c.val m 17) (s.cell c.val).c (s.cell c.val).f with ramd := (t.cell c.val).ramd, f := true }
        ∧ (t.cell c.val).ramd = (s.cell c.val).ramd.write m (BitVec.ofNat 16 0)
        ∧ (t.cell (c.val + 16)).ramd = (s.cell (c.val + 16)).ramd.write m (BitVec.ofNat 16 (0 / 2 ^ 16))
        ∧ (t.cell (c.val + 32)).ramd = (s.cell (c.val + 32)).ramd.write m (BitVec.ofNat 16 (0 / 2 ^ 32))
        ∧ (t.cell (c.val + 48)).ramd = (s.cell (c.val + 48)).ramd.write m (BitVec.ofNat 16 (0 / 2 ^ 48))
        ∧ (∀ j ∈ ([16, 32, 48] : List Nat), t.cell (c.val + j) = { s.cell (c.val + j) with ramd := (t.cell (c.val + j)).ramd })
        ∧ t.bit F.FAB_RAM_STAT_POISON = true
        ∧ t.rd R.FAB_RAM_POISON_ADDR = BitVec.ofNat 32 (w - 0x23000000)
        ∧ t.rdN R.FAB_RAM_POISON_CNT = min 0xFFFFFFFF (s.rdN R.FAB_RAM_POISON_CNT + 1)
        ∧ t.isPending 499 = true
        ∧ t.isPending 859 = true
        ∧ t = { s.inStep m with regs := t.regs, irq := t.irq, fab := { (s.inStep m).fab with cells := t.fab.cells } }
        ∧ (∀ adr, adr ∉ (R.FAB_RAM_STAT :: R.FAB_RAM_POISON_ADDR :: R.FAB_RAM_POISON_CNT :: coalesced : List Nat) → t.rd adr = r.rd adr)
        ∧ (∀ num dr, num ∉ ([499] : List Nat) → t.slot num dr = r.slot num dr)
        ∧ (∀ key, key ∉ ([c.val, c.val + 16, c.val + 32, c.val + 48] : List Nat) → t.cell key = s.cell key)) ∧
  (∀ (c : Fin 65536) (m w : Nat) (x : BitVec 16) (s : State),
      s.reedIssues 0x21 c.val m = true →
      s.reedLast c.val m = true →
      isRamAddr c.val = true →
      (s.cell c.val).ramwd.at_ ≤ m + 1 →
      x = (s.reedCell c.val m (s.reedSrc c.val m 17) (s.cell c.val).c (s.cell c.val).f).prev →
      w = ramAddr c.val (x.toNat % 512) →
      ∃ t, exec (.reedRamwr c m) s = .next t
        ∧ t.memWord w = gridEncode (((s.cell (c.val + 48)).ramwd.see m ++ (s.cell (c.val + 32)).ramwd.see m ++ (s.cell (c.val + 16)).ramwd.see m ++ (s.cell c.val).ramwd.see m : BitVec 64))
        ∧ t.cell c.val = s.reedCell c.val m (s.reedSrc c.val m 17) (s.cell c.val).c (s.cell c.val).f
        ∧ t = { s.inStep m with mem := t.mem, fab := { (s.inStep m).fab with cells := t.fab.cells } }
        ∧ (∀ adr, adr / 8 ∉ ([w] : List Nat).map (· / 8) → t.memWord adr = s.memWord adr)
        ∧ (∀ key, key ∉ ([c.val] : List Nat) → t.cell key = s.cell key)) ∧
  (∀ (c : Fin 65536) (m op : Nat) (i : Instr) (s : State),
      (op, i) ∈ ([(0x20, .reedRamrd c m), (0x21, .reedRamwr c m)] : List (Nat × Instr)) →
      s.reedIssues op c.val m = true →
      (isRamAddr c.val = false ∨ s.reedLast c.val m = false) →
      ∃ t, exec i s = .next t
        ∧ t.cell c.val = s.reedCell c.val m (s.reedSrc c.val m 17) (s.cell c.val).c (s.cell c.val).f
        ∧ t = { s.inStep m with fab := { (s.inStep m).fab with cells := t.fab.cells } }
        ∧ (∀ key, key ∉ ([c.val] : List Nat) → t.cell key = s.cell key)) ∧
  (∀ (id w : Nat) (s : State),
      (isRamAddr id = true ↔ id % 16 = 15 ∧ id / 16 % 4 = 0)
        ∧ ramAddr id w = 0x23000000 + (4 * (id / 256) + id / 16 % 16 / 4) * 4096 + w * 8) ∧
  (∀ (c : Fin 65536) (m : Nat) (v : Nat → BitVec 16) (r : BitVec 16) (s : State),
      (s.at_ (s.stepTime m)).cellRuns c.val = true →
      cfgBit (s.cellCfg c.val) = true →
      s.reedPlace c.val m = mBits (s.cellCfg c.val) 12 10 →
      (∀ k : Nat, k < 4 → v k = (s.inStep m).source c.val m 0 (mBits (s.cellCfg c.val) (21 + 5 * (3 - k)) (17 + 5 * (3 - k)))) →
      (∀ j : Nat, j < 16 → r.getLsbD j = (s.cellCfg c.val).getLsbD (32 * (j / 2) + 16 * (j % 2) + (if (v 3).getLsbD j = true then 8 else 0) + (if (v 2).getLsbD j = true then 4 else 0) + (if (v 1).getLsbD j = true then 2 else 0) + (if (v 0).getLsbD j = true then 1 else 0))) →
      ∃ t, exec (.reedLutStep c m) s = .next t
        ∧ t.cell c.val = (s.cell c.val).takes m (mBits (s.cellCfg c.val) 16 13) (!s.latched c.val (mBits (s.cellCfg c.val) 16 13 - 4)) r (s.cell c.val).c (s.cell c.val).f
        ∧ t = { s.inStep m with fab := { (s.inStep m).fab with cells := t.fab.cells } }
        ∧ (∀ key, key ∉ ([c.val] : List Nat) → t.cell key = s.cell key)) ∧
  (∀ (c : Fin 65536) (m : Nat) (s : State),
      ((s.at_ (s.stepTime m)).cellRuns c.val = false ∨ cfgBit (s.cellCfg c.val) = false ∨ s.reedPlace c.val m ≠ mBits (s.cellCfg c.val) 12 10) →
      ∃ t, exec (.reedLutStep c m) s = .next t
        ∧ t = s.inStep m) ∧
  (∀ (c : Fin 65536) (m : Nat) (op : Nat) (i : Instr) (s : State),
      (op, i) ∈ ([(0x00, .reedNop c m), (0x06, .reedAnd c m), (0x07, .reedOr c m), (0x08, .reedXor c m), (0x09, .reedAndn c m), (0x0A, .reedNot c m), (0x0B, .reedShl c m), (0x0C, .reedShr c m), (0x0D, .reedSra c m), (0x0E, .reedRol c m), (0x16, .reedEq c m), (0x17, .reedLt c m), (0x18, .reedLtu c m), (0x19, .reedTst c m), (0x1A, .reedSel c m), (0x1B, .reedBsel c m), (0x1C, .reedMuxq c m), (0x20, .reedRamrd c m), (0x21, .reedRamwr c m), (0x22, .reedFlag c m)] : List (Nat × Instr)) →
      s.reedIssues op c.val m = false →
      ∃ t, exec i s = .next t
        ∧ t = s.inStep m)

/-- The reconfiguration port, the scanner, repair and the restore of a quadrant (parts of R5, R8, R302, R314, R315, R317, R318, R330, R332, R333, R342, R344, R345, R346, R347, R348, R349, R350, R351, R352, R353, R354, R355, R356, R357, R359, R360, R363, R364, R369, R371, R379, R414, R416, R500, R523). A stream is rejected: STATE is REJECTED with its CODE and FRAME, START reads 0, PR_REJECTED counts, source 833 is raised, and fabric, records and keys stay. A rim command is sampled from the rows 246-253 at the edge that begins micro-step m; u is the state at that moment. A frame read, a repair, or a stage that ends does so at wheel time w. What a clause does not name stays. (1) PR_CLAIM by a write of OWNER: 1 claims a port that is NONE, sets CLAIM_REFUSED where the fabric holds it, and changes nothing where drones hold it; 0 releases a port of drones that is IDLE, DONE or REJECTED. OWNER stays otherwise. (2) OWNER = 3 is reserved: PARAM, and nothing else changes. (3) From the rim: CLAIM that rises claims a port that is NONE while FAB_ALLOW = 1, and sets CLAIM_REFUSED where drones hold it; CLAIM that is 0 releases a port of the fabric that is IDLE, DONE or REJECTED. (4) PR_START by the drones that own the port, with no stream in hand, up to 1 MiB long, in a mode in which the device serves and with no tract self-test slice: STAGING of the LEN bytes at SRC_ADDR, or of pushed bytes; the read of CFLASH suspends an operation. (5) Outside such a mode it is rejected with MODE, 0x10; above 1 MiB with TOO_LARGE, 0x03. (6) During the self-test slice of a tract it waits for the end of the slice. (7) Not by the owner, or while a stream is in hand, it only writes SRC. (8) PR_ABORT by the owner before APPLY: rejected with ABORTED, 0x0F. (9) Not by the owner, with no stream in hand or during APPLY, it does nothing. (10) PR_DATA_PUSH: the next 4 bytes of a PUSH stream in STAGING, the earliest in [31:24]. (11) Above LEN the stream is rejected with TOO_LARGE, 0x03. (12) In another stage, or in a stream of the fabric or from CFLASH, it does nothing. (13) A rim command is taken when REQ toggles with its CMD; else nothing happens. (14) While the fabric does not own the port it is answered with ACK and does nothing else. (15) PUSH in STAGING of a PUSH stream of the fabric: the first BYTES, 1 to 8, of rows 249 to 246; ACK toggles with this and every command. (16) Above LEN the stream is rejected with TOO_LARGE. (17) With another number of bytes, in another stage, or in another stream, it is only answered. (18) START_PUSH starts a PUSH stream of the fabric, its LEN in rows 251 and 252; under the conditions of PR_START. (19) Rejected, or left to wait, as PR_START is. (20) START_FLASH starts one from CFLASH at the address in rows 251 and 252, its length that of PR_LEN; under the conditions of PR_START. (21) Rejected, or left to wait, as PR_START is. (22) While a stream is in hand a start is only answered. (23) ABORT before APPLY: rejected with ABORTED. (24) With no stream or during APPLY it is only answered. (25) The lanes B of rows 246-253 show ACK and STATE, CODE, and whether the fabric owns the port. (26) PR_STAGING_DONE of a PUSH stream whose LEN bytes have come: AUTH. (27) Of one whose bytes have not all come, or in another stage: nothing. (28) Of a stream from CFLASH whose sectors are all sealed and readable: its bytes are those of CFLASH; AUTH. (29) Of one that was uncorrectable, lies outside the array or meets a sector that is not sealed: rejected with SOURCE, 0x0E. (30) PR_AUTH_DONE makes the header checks in their order: fewer than 480 bytes, SHORT_STREAM 0x02; a field of step 1, BAD_HEADER 0x11; family, WRONG_DEVICE 0x01; KIND of a full image, NOT_PARTIAL 0x04; lengths, TOO_LARGE 0x03; a body cut short, 0x02; the signature, SIGNATURE 0x05; the hash of the body, HASH 0x06. The first that fails rejects; none, DECRYPT. (31) In another stage it does nothing, as PR_DECRYPT_DONE and PR_APPLY_DONE in another stage. (32) PR_DECRYPT_DONE: the first check of the segments, records, frames, links and quadrants that fails rejects the stream with its CODE, and FRAME where a frame check failed; one that passes waits for a PIPE edge with E = 0, and enters APPLY there: the set-reset of its region is asserted, the user state of its cells cleared, the pins of the region that have function F1 hold their outputs, and its frames leave the repair queue. (33) PR_APPLY_DONE at a PIPE edge with E = 0: DONE, START reads 0, PR_APPLIED counts, source 832; the tracts of the region are released whose quadrants are released and no restore holds; the pins of the region follow their cells; only frames that the stream carries and their records change. (34) At another edge it waits. (35) A fabric frame of the stream, the last of its number: the 16 cells take their words from it, and its record its golden signature and place; from CFLASH it is GOOD with its source and the key entry of its segment where the table had room, pushed it is NO_SOURCE. (36) A RAM frame likewise: the words of its block, written with their check bits. (37) SCAN_FRAME_READ with the scanner off, outside the modes in which the device serves, or with a PASS_US that is no value: nothing. (38) Frames that a quadrant back from retention puts first are read first, in their order; a frame is scanned whose quadrant is on and not being restored, that no APPLY or self-test slice holds, that is not UNREPAIRABLE, and not NO_SOURCE since before the lap. (39) With none of these, the next frame is the first in ascending order that is scanned. (40) After the last a lap is counted, frames that are NO_SOURCE then are left out of the next, which begins with frame 0. (41) Where no frame can be scanned nothing else changes. (42) A frame whose CRC-32C is its golden signature stays as it is. (43) One that differs becomes REPAIRING and enters the repair queue. (44) It stays where it is in the queue if it is there; while the queue holds 8 others QUEUE_FULL counts. (45) One that became NO_SOURCE during the lap and differs becomes UNREPAIRABLE: source 836. (46) One whose golden signature is uncorrectable becomes UNREPAIRABLE likewise; the read is logged as one of an internal array by the scanner, source 859; which address it logs is open. (47) FRAME_REPAIR with an empty queue does nothing. (48) A frame whose quadrant is off, or whose tract is under APPLY, leaves the queue. (49) One whose source is behind the head asks the head for the bytes of its place: data frame type 1 to position 0, with the offset and length. (50) It waits until they have come. (51) With the bytes at hand: those whose CRC, decrypted, is the golden signature rewrite the frame, whatever contention latches its lanes held; it is GOOD, REPAIRS counts, REPAIR_LAST says which frame and how many bits changed, source 834. Without: REPAIR_FAIL counts and source 835 is raised; after the third failure in a row it is UNREPAIRABLE, source 836. It leaves the queue. (52) REPAIR_CHAIN_TIMEOUT, no answer within 10 ms: counted as a failure. (53) With no request or before then: nothing. (54) QUADRANT_RESTORE_DONE: where every frame and block of the quadrant was written from its source, source 837 is raised, and after the first release of the fabric the quadrant is RELEASED and its tracts free. Where one is NO_SOURCE or UNREPAIRABLE, has no key, or was not read, the quadrant is held: INCOMPLETE, and QUADRANT names it. Records that were written are GOOD. (55) Of a quadrant that is not being restored: nothing. (56) RESTORE_RELEASE: the quadrant held that QUADRANT names is held no more; after the first release of the fabric it is RELEASED and its tracts are free from the next edge with E = 0 on, but while a restore of it runs. QUADRANT names another that is held, if there is one; INCOMPLETE stays. (57) Where QUADRANT names none that is held: nothing. Readings and choices of the model that it rests on: log entries 76, 80, 82, 83, 84, 85, 86, 87, 168, 170, 176. -/
def Obligations.TheReconfigurationPort : Prop :=
  (∀ (ini : Initiator) (o : Fin 4) (s : State),
      s.sends ini true R.CFG_PR_CTL = true →
      o ≠ 3 →
      ∃ t, exec (.prClaim (.write ini o)) s = .next t
        ∧ t.respCode ini = 0
        ∧ t.get F.CFG_PR_CTL_OWNER = (if o.val = 1 ∧ s.get F.CFG_PR_CTL_OWNER = 0 then 1 else if o.val = 0 ∧ s.get F.CFG_PR_CTL_OWNER = 1 ∧ s.prBusy = false then 0 else s.get F.CFG_PR_CTL_OWNER)
        ∧ t.bit F.CFG_PR_STAT_CLAIM_REFUSED = (s.bit F.CFG_PR_STAT_CLAIM_REFUSED || o.val == 1 && s.get F.CFG_PR_CTL_OWNER == 2)
        ∧ (t.bit F.CFG_PR_CTL_START = s.bit F.CFG_PR_CTL_START ∧ t.bit F.CFG_PR_CTL_SRC = s.bit F.CFG_PR_CTL_SRC ∧ t.bit F.CFG_PR_CTL_FAB_ALLOW = s.bit F.CFG_PR_CTL_FAB_ALLOW)
        ∧ (t.prState = s.prState ∧ t.get F.CFG_PR_STAT_CODE = s.get F.CFG_PR_STAT_CODE ∧ t.get F.CFG_PR_STAT_FRAME = s.get F.CFG_PR_STAT_FRAME)
        ∧ t = { s with regs := t.regs, spine := t.spine, sec := { s.sec with tapOut := t.sec.tapOut } }
        ∧ (∀ adr, adr ∉ ([R.CFG_PR_CTL, R.CFG_PR_STAT] : List Nat) → t.rd adr = s.rd adr)) ∧
  (∀ (ini : Initiator) (o : Fin 4) (s : State),
      s.sends ini true R.CFG_PR_CTL = true →
      o = 3 →
      ∃ t, exec (.prClaim (.write ini o)) s = .next t
        ∧ t.respCode ini = 2
        ∧ t = { s with regs := t.regs, spine := t.spine, berrAt := t.berrAt, engines := t.engines, sec := { s.sec with tapOut := t.sec.tapOut } }
        ∧ (∀ adr, adr ∉ (berrRegs : List Nat) → t.rd adr = s.rd adr)
        ∧ (∀ key, key ∉ (iniEngines ini : List Nat) → t.engine key = s.engine key)) ∧
  (∀ (m : Nat) (u s : State),
      u = s.at_ (s.stepTime m) →
      ∃ t, exec (.prClaim (.rim m)) s = .next t
        ∧ t.get F.CFG_PR_CTL_OWNER = (if ((u.rimOut m 3 0 253).getLsbD 0) = true ∧ s.cfg.pr.claim = false ∧ s.get F.CFG_PR_CTL_OWNER = 0 ∧ s.bit F.CFG_PR_CTL_FAB_ALLOW = true then 2 else if ((u.rimOut m 3 0 253).getLsbD 0) = false ∧ s.get F.CFG_PR_CTL_OWNER = 2 ∧ s.prBusy = false then 0 else s.get F.CFG_PR_CTL_OWNER)
        ∧ t.bit F.CFG_PR_STAT_CLAIM_REFUSED = (s.bit F.CFG_PR_STAT_CLAIM_REFUSED || ((u.rimOut m 3 0 253).getLsbD 0) && !s.cfg.pr.claim && s.get F.CFG_PR_CTL_OWNER == 1)
        ∧ (t.bit F.CFG_PR_CTL_START = s.bit F.CFG_PR_CTL_START ∧ t.bit F.CFG_PR_CTL_SRC = s.bit F.CFG_PR_CTL_SRC ∧ t.bit F.CFG_PR_CTL_FAB_ALLOW = s.bit F.CFG_PR_CTL_FAB_ALLOW)
        ∧ (t.prState = s.prState ∧ t.get F.CFG_PR_STAT_CODE = s.get F.CFG_PR_STAT_CODE ∧ t.get F.CFG_PR_STAT_FRAME = s.get F.CFG_PR_STAT_FRAME)
        ∧ t.cfg = { s.cfg with pr := { s.cfg.pr with claim := ((u.rimOut m 3 0 253).getLsbD 0) } }
        ∧ t = { u with regs := t.regs, cfg := t.cfg }
        ∧ (∀ adr, adr ∉ ([R.CFG_PR_CTL, R.CFG_PR_STAT] : List Nat) → t.rd adr = s.rd adr)) ∧
  (∀ (ini : Initiator) (flash : Bool) (s : State),
      s.sends ini true R.CFG_PR_CTL = true →
      s.get F.CFG_PR_CTL_OWNER = 1 →
      s.prBusy = false →
      s.alive = true →
      s.rdN R.CFG_PR_LEN ≤ 0x100000 →
      s.tractSlice = false →
      ∃ t, exec (.prStart ini flash) s = .next t
        ∧ t.respCode ini = 0
        ∧ t.bit F.CFG_PR_CTL_SRC = flash
        ∧ t.prState = Pr.staging
        ∧ t.get F.CFG_PR_STAT_CODE = 0
        ∧ t.get F.CFG_PR_STAT_FRAME = 0
        ∧ t.bit F.CFG_PR_CTL_START = true
        ∧ t.cfg = { s.cfg with pr := { flash := flash, src := s.rdN R.CFG_PR_SRC_ADDR, len := s.rdN R.CFG_PR_LEN, ack := s.cfg.pr.ack, claim := s.cfg.pr.claim } }
        ∧ (flash = false → t.flash = s.flash ∧ t.rd R.FLASH_STAT = s.rd R.FLASH_STAT)
        ∧ (flash = true → t.flash.lastRead = s.now ∧ t.flashRuns = false)
        ∧ (t.get F.CFG_PR_CTL_OWNER = s.get F.CFG_PR_CTL_OWNER ∧ t.bit F.CFG_PR_CTL_FAB_ALLOW = s.bit F.CFG_PR_CTL_FAB_ALLOW)
        ∧ t.bit F.CFG_PR_STAT_CLAIM_REFUSED = s.bit F.CFG_PR_STAT_CLAIM_REFUSED
        ∧ t = { s with regs := t.regs, spine := t.spine, sec := { s.sec with tapOut := t.sec.tapOut }, flash := t.flash, cfg := t.cfg }
        ∧ (∀ adr, adr ∉ ([R.CFG_PR_CTL, R.CFG_PR_STAT, R.FLASH_STAT] : List Nat) → t.rd adr = s.rd adr)) ∧
  (∀ (ini : Initiator) (flash : Bool) (s : State),
      s.sends ini true R.CFG_PR_CTL = true →
      s.get F.CFG_PR_CTL_OWNER = 1 →
      s.prBusy = false →
      (s.alive = false ∨ 0x100000 < s.rdN R.CFG_PR_LEN) →
      ∃ t, exec (.prStart ini flash) s = .next t
        ∧ t.respCode ini = 0
        ∧ t.bit F.CFG_PR_CTL_SRC = flash
        ∧ t.prState = Pr.rejected
        ∧ t.get F.CFG_PR_STAT_CODE = (if s.alive = false then 0x10 else 0x03)
        ∧ t.get F.CFG_PR_STAT_FRAME = 0
        ∧ t.bit F.CFG_PR_CTL_START = false
        ∧ t.rdN R.CFG_PR_REJECTED = min 0xFFFFFFFF (s.rdN R.CFG_PR_REJECTED + 1)
        ∧ t.isPending 833 = true
        ∧ t.cfg = { s.cfg with pr := { flash := flash, src := s.rdN R.CFG_PR_SRC_ADDR, len := s.rdN R.CFG_PR_LEN, ack := s.cfg.pr.ack, claim := s.cfg.pr.claim } }
        ∧ (t.get F.CFG_PR_CTL_OWNER = s.get F.CFG_PR_CTL_OWNER ∧ t.bit F.CFG_PR_CTL_FAB_ALLOW = s.bit F.CFG_PR_CTL_FAB_ALLOW)
        ∧ t.bit F.CFG_PR_STAT_CLAIM_REFUSED = s.bit F.CFG_PR_STAT_CLAIM_REFUSED
        ∧ t = { s with regs := t.regs, spine := t.spine, sec := { s.sec with tapOut := t.sec.tapOut }, irq := t.irq, cfg := t.cfg }
        ∧ (∀ adr, adr ∉ (R.CFG_PR_CTL :: R.CFG_PR_STAT :: R.CFG_PR_REJECTED :: coalesced : List Nat) → t.rd adr = s.rd adr)
        ∧ (∀ num dr, num ∉ ([833] : List Nat) → t.slot num dr = s.slot num dr)) ∧
  (∀ (ini : Initiator) (flash : Bool) (s : State),
      s.sends ini true R.CFG_PR_CTL = true →
      s.get F.CFG_PR_CTL_OWNER = 1 →
      s.prBusy = false →
      s.alive = true →
      s.rdN R.CFG_PR_LEN ≤ 0x100000 →
      s.tractSlice = true →
      ∃ t, exec (.prStart ini flash) s = .next t
        ∧ t.respCode ini = 0
        ∧ t.bit F.CFG_PR_CTL_SRC = flash
        ∧ t.prState = Pr.idle
        ∧ t.get F.CFG_PR_STAT_CODE = 0
        ∧ t.get F.CFG_PR_STAT_FRAME = 0
        ∧ t.bit F.CFG_PR_CTL_START = true
        ∧ t.cfg = { s.cfg with pr := { flash := flash, src := s.rdN R.CFG_PR_SRC_ADDR, len := s.rdN R.CFG_PR_LEN, ack := s.cfg.pr.ack, claim := s.cfg.pr.claim } }
        ∧ (t.get F.CFG_PR_CTL_OWNER = s.get F.CFG_PR_CTL_OWNER ∧ t.bit F.CFG_PR_CTL_FAB_ALLOW = s.bit F.CFG_PR_CTL_FAB_ALLOW)
        ∧ t.bit F.CFG_PR_STAT_CLAIM_REFUSED = s.bit F.CFG_PR_STAT_CLAIM_REFUSED
        ∧ t = { s with regs := t.regs, spine := t.spine, sec := { s.sec with tapOut := t.sec.tapOut }, cfg := t.cfg }
        ∧ (∀ adr, adr ∉ ([R.CFG_PR_CTL, R.CFG_PR_STAT] : List Nat) → t.rd adr = s.rd adr)) ∧
  (∀ (ini : Initiator) (flash : Bool) (s : State),
      s.sends ini true R.CFG_PR_CTL = true →
      (s.get F.CFG_PR_CTL_OWNER = 0 ∨ s.get F.CFG_PR_CTL_OWNER = 2 ∨ s.get F.CFG_PR_CTL_OWNER = 1 ∧ s.prBusy = true) →
      ∃ t, exec (.prStart ini flash) s = .next t
        ∧ t.respCode ini = 0
        ∧ t.bit F.CFG_PR_CTL_SRC = flash
        ∧ t.bit F.CFG_PR_CTL_START = s.bit F.CFG_PR_CTL_START
        ∧ (t.get F.CFG_PR_CTL_OWNER = s.get F.CFG_PR_CTL_OWNER ∧ t.bit F.CFG_PR_CTL_FAB_ALLOW = s.bit F.CFG_PR_CTL_FAB_ALLOW)
        ∧ t = { s with regs := t.regs, spine := t.spine, sec := { s.sec with tapOut := t.sec.tapOut } }
        ∧ (∀ adr, adr ∉ ([R.CFG_PR_CTL] : List Nat) → t.rd adr = s.rd adr)) ∧
  (∀ (ini : Initiator) (s : State),
      s.sends ini true R.CFG_PR_CTL = true →
      s.get F.CFG_PR_CTL_OWNER = 1 →
      (s.prState = 1 ∨ s.prState = 2 ∨ s.prState = 3) →
      ∃ t, exec (.prAbort ini) s = .next t
        ∧ t.respCode ini = 0
        ∧ t.prState = Pr.rejected
        ∧ t.get F.CFG_PR_STAT_CODE = 0x0F
        ∧ t.get F.CFG_PR_STAT_FRAME = 0
        ∧ t.bit F.CFG_PR_CTL_START = false
        ∧ t.rdN R.CFG_PR_REJECTED = min 0xFFFFFFFF (s.rdN R.CFG_PR_REJECTED + 1)
        ∧ t.isPending 833 = true
        ∧ (t.get F.CFG_PR_CTL_OWNER = s.get F.CFG_PR_CTL_OWNER ∧ t.bit F.CFG_PR_CTL_FAB_ALLOW = s.bit F.CFG_PR_CTL_FAB_ALLOW)
        ∧ t.bit F.CFG_PR_STAT_CLAIM_REFUSED = s.bit F.CFG_PR_STAT_CLAIM_REFUSED
        ∧ t.bit F.CFG_PR_CTL_SRC = s.bit F.CFG_PR_CTL_SRC
        ∧ t = { s with regs := t.regs, spine := t.spine, sec := { s.sec with tapOut := t.sec.tapOut }, irq := t.irq }
        ∧ (∀ adr, adr ∉ (R.CFG_PR_CTL :: R.CFG_PR_STAT :: R.CFG_PR_REJECTED :: coalesced : List Nat) → t.rd adr = s.rd adr)
        ∧ (∀ num dr, num ∉ ([833] : List Nat) → t.slot num dr = s.slot num dr)) ∧
  (∀ (ini : Initiator) (s : State),
      s.sends ini true R.CFG_PR_CTL = true →
      (s.get F.CFG_PR_CTL_OWNER = 0 ∨ s.get F.CFG_PR_CTL_OWNER = 2 ∨ s.get F.CFG_PR_CTL_OWNER = 1 ∧ (s.prState = 0 ∨ 4 ≤ s.prState)) →
      ∃ t, exec (.prAbort ini) s = .next t
        ∧ t.respCode ini = 0
        ∧ t = { s with regs := t.regs, spine := t.spine, sec := { s.sec with tapOut := t.sec.tapOut } }
        ∧ (∀ adr, adr ∉ ([] : List Nat) → t.rd adr = s.rd adr)) ∧
  (∀ (ini : Initiator) (value : BitVec 32) (s : State),
      s.sends ini true R.CFG_PR_DATA = true →
      s.prState = Pr.staging →
      s.cfg.pr.fabric = false →
      s.cfg.pr.flash = false →
      s.cfg.pr.count + 4 ≤ s.cfg.pr.len →
      ∃ t, exec (.prDataPush ini value) s = .next t
        ∧ t.respCode ini = 0
        ∧ t.cfg = { s.cfg with pr := { s.cfg.pr with bytes := s.cfg.pr.bytes ++ [value.toNat / 2 ^ 24, value.toNat / 2 ^ 16 % 256, value.toNat / 2 ^ 8 % 256, value.toNat % 256], count := s.cfg.pr.count + 4 } }
        ∧ t = { s with cfg := t.cfg, spine := t.spine, sec := { s.sec with tapOut := t.sec.tapOut } }) ∧
  (∀ (ini : Initiator) (value : BitVec 32) (s : State),
      s.sends ini true R.CFG_PR_DATA = true →
      s.prState = Pr.staging →
      s.cfg.pr.fabric = false →
      s.cfg.pr.flash = false →
      s.cfg.pr.len < s.cfg.pr.count + 4 →
      ∃ t, exec (.prDataPush ini value) s = .next t
        ∧ t.respCode ini = 0
        ∧ t.prState = Pr.rejected
        ∧ t.get F.CFG_PR_STAT_CODE = 0x03
        ∧ t.get F.CFG_PR_STAT_FRAME = 0
        ∧ t.bit F.CFG_PR_CTL_START = false
        ∧ t.rdN R.CFG_PR_REJECTED = min 0xFFFFFFFF (s.rdN R.CFG_PR_REJECTED + 1)
        ∧ t.isPending 833 = true
        ∧ (t.get F.CFG_PR_CTL_OWNER = s.get F.CFG_PR_CTL_OWNER ∧ t.bit F.CFG_PR_CTL_FAB_ALLOW = s.bit F.CFG_PR_CTL_FAB_ALLOW)
        ∧ t.bit F.CFG_PR_STAT_CLAIM_REFUSED = s.bit F.CFG_PR_STAT_CLAIM_REFUSED
        ∧ t = { s with regs := t.regs, spine := t.spine, sec := { s.sec with tapOut := t.sec.tapOut }, irq := t.irq }
        ∧ (∀ adr, adr ∉ (R.CFG_PR_CTL :: R.CFG_PR_STAT :: R.CFG_PR_REJECTED :: coalesced : List Nat) → t.rd adr = s.rd adr)
        ∧ (∀ num dr, num ∉ ([833] : List Nat) → t.slot num dr = s.slot num dr)) ∧
  (∀ (ini : Initiator) (value : BitVec 32) (s : State),
      s.sends ini true R.CFG_PR_DATA = true →
      (s.prState ≠ Pr.staging ∨ s.cfg.pr.fabric = true ∨ s.cfg.pr.flash = true) →
      ∃ t, exec (.prDataPush ini value) s = .next t
        ∧ t.respCode ini = 0
        ∧ t = { s with spine := t.spine, sec := { s.sec with tapOut := t.sec.tapOut } }) ∧
  (∀ (m cmd : Nat) (i : Instr) (u s : State),
      (cmd, i) ∈ ([(1, .prRimPush m), (2, .prRimStartFlash m), (3, .prRimStartPush m), (4, .prRimAbort m)] : List (Nat × Instr)) →
      u = s.at_ (s.stepTime m) →
      (u.rimToggles m 3 0 250 15 = false ∨ (u.rimOut m 3 0 250).toNat % 8 ≠ cmd) →
      ∃ t, exec i s = .next t
        ∧ t = u) ∧
  (∀ (m cmd : Nat) (i : Instr) (u s : State),
      (cmd, i) ∈ ([(1, .prRimPush m), (2, .prRimStartFlash m), (3, .prRimStartPush m), (4, .prRimAbort m)] : List (Nat × Instr)) →
      u = s.at_ (s.stepTime m) →
      u.rimToggles m 3 0 250 15 = true →
      (u.rimOut m 3 0 250).toNat % 8 = cmd →
      s.get F.CFG_PR_CTL_OWNER ≠ 2 →
      ∃ t, exec i s = .next t
        ∧ t = { u with cfg := { s.cfg with pr := { s.cfg.pr with ack := !s.cfg.pr.ack } } }) ∧
  (∀ (m : Nat) (u s : State),
      u = s.at_ (s.stepTime m) →
      u.rimToggles m 3 0 250 15 = true →
      (u.rimOut m 3 0 250).toNat % 8 = 1 →
      s.get F.CFG_PR_CTL_OWNER = 2 →
      s.prState = Pr.staging →
      s.cfg.pr.fabric = true →
      s.cfg.pr.flash = false →
      1 ≤ (u.rimOut m 3 0 250).toNat / 8 % 16 →
      (u.rimOut m 3 0 250).toNat / 8 % 16 ≤ 8 →
      s.cfg.pr.count + (u.rimOut m 3 0 250).toNat / 8 % 16 ≤ s.cfg.pr.len →
      ∃ t, exec (.prRimPush m) s = .next t
        ∧ t = { u with cfg := { s.cfg with pr := { s.cfg.pr with bytes := s.cfg.pr.bytes ++ ([(u.rimOut m 3 0 249).toNat / 256 % 256, (u.rimOut m 3 0 249).toNat % 256, (u.rimOut m 3 0 248).toNat / 256 % 256, (u.rimOut m 3 0 248).toNat % 256, (u.rimOut m 3 0 247).toNat / 256 % 256, (u.rimOut m 3 0 247).toNat % 256, (u.rimOut m 3 0 246).toNat / 256 % 256, (u.rimOut m 3 0 246).toNat % 256]).take ((u.rimOut m 3 0 250).toNat / 8 % 16), count := s.cfg.pr.count + (u.rimOut m 3 0 250).toNat / 8 % 16, ack := !s.cfg.pr.ack } } }) ∧
  (∀ (m : Nat) (u s : State),
      u = s.at_ (s.stepTime m) →
      u.rimToggles m 3 0 250 15 = true →
      (u.rimOut m 3 0 250).toNat % 8 = 1 →
      s.get F.CFG_PR_CTL_OWNER = 2 →
      s.prState = Pr.staging →
      s.cfg.pr.fabric = true →
      s.cfg.pr.flash = false →
      1 ≤ (u.rimOut m 3 0 250).toNat / 8 % 16 →
      (u.rimOut m 3 0 250).toNat / 8 % 16 ≤ 8 →
      s.cfg.pr.len < s.cfg.pr.count + (u.rimOut m 3 0 250).toNat / 8 % 16 →
      ∃ t, exec (.prRimPush m) s = .next t
        ∧ t.prState = Pr.rejected
        ∧ t.get F.CFG_PR_STAT_CODE = 0x03
        ∧ t.get F.CFG_PR_STAT_FRAME = 0
        ∧ t.bit F.CFG_PR_CTL_START = false
        ∧ t.rdN R.CFG_PR_REJECTED = min 0xFFFFFFFF (s.rdN R.CFG_PR_REJECTED + 1)
        ∧ t.isPending 833 = true
        ∧ (t.get F.CFG_PR_CTL_OWNER = s.get F.CFG_PR_CTL_OWNER ∧ t.bit F.CFG_PR_CTL_FAB_ALLOW = s.bit F.CFG_PR_CTL_FAB_ALLOW)
        ∧ t.bit F.CFG_PR_STAT_CLAIM_REFUSED = s.bit F.CFG_PR_STAT_CLAIM_REFUSED
        ∧ t.cfg = { s.cfg with pr := { s.cfg.pr with ack := !s.cfg.pr.ack } }
        ∧ t = { u with regs := t.regs, irq := t.irq, cfg := t.cfg }
        ∧ (∀ adr, adr ∉ (R.CFG_PR_CTL :: R.CFG_PR_STAT :: R.CFG_PR_REJECTED :: coalesced : List Nat) → t.rd adr = s.rd adr)
        ∧ (∀ num dr, num ∉ ([833] : List Nat) → t.slot num dr = s.slot num dr)) ∧
  (∀ (m : Nat) (u s : State),
      u = s.at_ (s.stepTime m) →
      u.rimToggles m 3 0 250 15 = true →
      (u.rimOut m 3 0 250).toNat % 8 = 1 →
      s.get F.CFG_PR_CTL_OWNER = 2 →
      (s.prState ≠ Pr.staging ∨ s.cfg.pr.fabric = false ∨ s.cfg.pr.flash = true ∨ (u.rimOut m 3 0 250).toNat / 8 % 16 = 0 ∨ 8 < (u.rimOut m 3 0 250).toNat / 8 % 16) →
      ∃ t, exec (.prRimPush m) s = .next t
        ∧ t = { u with cfg := { s.cfg with pr := { s.cfg.pr with ack := !s.cfg.pr.ack } } }) ∧
  (∀ (m : Nat) (u s : State),
      u = s.at_ (s.stepTime m) →
      u.rimToggles m 3 0 250 15 = true →
      (u.rimOut m 3 0 250).toNat % 8 = 3 →
      s.get F.CFG_PR_CTL_OWNER = 2 →
      s.prBusy = false →
      s.alive = true →
      ((u.rimOut m 3 0 251).toNat + (u.rimOut m 3 0 252).toNat * 65536) ≤ 0x100000 →
      s.tractSlice = false →
      ∃ t, exec (.prRimStartPush m) s = .next t
        ∧ t.prState = Pr.staging
        ∧ t.get F.CFG_PR_STAT_CODE = 0
        ∧ t.get F.CFG_PR_STAT_FRAME = 0
        ∧ t.bit F.CFG_PR_CTL_START = true
        ∧ t.cfg = { s.cfg with pr := { fabric := true, len := ((u.rimOut m 3 0 251).toNat + (u.rimOut m 3 0 252).toNat * 65536), ack := !s.cfg.pr.ack, claim := s.cfg.pr.claim } }
        ∧ (t.get F.CFG_PR_CTL_OWNER = s.get F.CFG_PR_CTL_OWNER ∧ t.bit F.CFG_PR_CTL_FAB_ALLOW = s.bit F.CFG_PR_CTL_FAB_ALLOW)
        ∧ t.bit F.CFG_PR_STAT_CLAIM_REFUSED = s.bit F.CFG_PR_STAT_CLAIM_REFUSED
        ∧ t = { u with regs := t.regs, cfg := t.cfg }
        ∧ (∀ adr, adr ∉ ([R.CFG_PR_CTL, R.CFG_PR_STAT] : List Nat) → t.rd adr = s.rd adr)) ∧
  (∀ (m : Nat) (u s : State),
      u = s.at_ (s.stepTime m) →
      u.rimToggles m 3 0 250 15 = true →
      (u.rimOut m 3 0 250).toNat % 8 = 3 →
      s.get F.CFG_PR_CTL_OWNER = 2 →
      s.prBusy = false →
      (s.alive = false ∨ 0x100000 < ((u.rimOut m 3 0 251).toNat + (u.rimOut m 3 0 252).toNat * 65536) ∨ s.tractSlice = true) →
      ∃ t, exec (.prRimStartPush m) s = .next t
        ∧ (s.alive = false ∨ 0x100000 < ((u.rimOut m 3 0 251).toNat + (u.rimOut m 3 0 252).toNat * 65536) → t.prState = Pr.rejected ∧ t.get F.CFG_PR_STAT_CODE = (if s.alive = false then 0x10 else 0x03) ∧ t.bit F.CFG_PR_CTL_START = false ∧ t.rdN R.CFG_PR_REJECTED = min 0xFFFFFFFF (s.rdN R.CFG_PR_REJECTED + 1) ∧ t.isPending 833 = true)
        ∧ (s.alive = true ∧ ((u.rimOut m 3 0 251).toNat + (u.rimOut m 3 0 252).toNat * 65536) ≤ 0x100000 → t.prState = Pr.idle ∧ t.get F.CFG_PR_STAT_CODE = 0 ∧ t.bit F.CFG_PR_CTL_START = true ∧ t.rdN R.CFG_PR_REJECTED = s.rdN R.CFG_PR_REJECTED ∧ t.irq = s.irq)
        ∧ t.get F.CFG_PR_STAT_FRAME = 0
        ∧ t.cfg = { s.cfg with pr := { fabric := true, len := ((u.rimOut m 3 0 251).toNat + (u.rimOut m 3 0 252).toNat * 65536), ack := !s.cfg.pr.ack, claim := s.cfg.pr.claim } }
        ∧ (t.get F.CFG_PR_CTL_OWNER = s.get F.CFG_PR_CTL_OWNER ∧ t.bit F.CFG_PR_CTL_FAB_ALLOW = s.bit F.CFG_PR_CTL_FAB_ALLOW)
        ∧ t.bit F.CFG_PR_STAT_CLAIM_REFUSED = s.bit F.CFG_PR_STAT_CLAIM_REFUSED
        ∧ t = { u with regs := t.regs, irq := t.irq, cfg := t.cfg }
        ∧ (∀ adr, adr ∉ (R.CFG_PR_CTL :: R.CFG_PR_STAT :: R.CFG_PR_REJECTED :: coalesced : List Nat) → t.rd adr = s.rd adr)
        ∧ (∀ num dr, num ∉ ([833] : List Nat) → t.slot num dr = s.slot num dr)) ∧
  (∀ (m : Nat) (u s : State),
      u = s.at_ (s.stepTime m) →
      u.rimToggles m 3 0 250 15 = true →
      (u.rimOut m 3 0 250).toNat % 8 = 2 →
      s.get F.CFG_PR_CTL_OWNER = 2 →
      s.prBusy = false →
      s.alive = true →
      (s.rdN R.CFG_PR_LEN) ≤ 0x100000 →
      s.tractSlice = false →
      ∃ t, exec (.prRimStartFlash m) s = .next t
        ∧ t.prState = Pr.staging
        ∧ t.get F.CFG_PR_STAT_CODE = 0
        ∧ t.get F.CFG_PR_STAT_FRAME = 0
        ∧ t.bit F.CFG_PR_CTL_START = true
        ∧ t.cfg = { s.cfg with pr := { fabric := true, flash := true, src := ((u.rimOut m 3 0 251).toNat + (u.rimOut m 3 0 252).toNat * 65536), len := s.rdN R.CFG_PR_LEN, ack := !s.cfg.pr.ack, claim := s.cfg.pr.claim } }
        ∧ t.flash.lastRead = u.now
        ∧ t.flashRuns = false
        ∧ (t.get F.CFG_PR_CTL_OWNER = s.get F.CFG_PR_CTL_OWNER ∧ t.bit F.CFG_PR_CTL_FAB_ALLOW = s.bit F.CFG_PR_CTL_FAB_ALLOW)
        ∧ t.bit F.CFG_PR_STAT_CLAIM_REFUSED = s.bit F.CFG_PR_STAT_CLAIM_REFUSED
        ∧ t = { u with regs := t.regs, cfg := t.cfg, flash := t.flash }
        ∧ (∀ adr, adr ∉ ([R.CFG_PR_CTL, R.CFG_PR_STAT, R.FLASH_STAT] : List Nat) → t.rd adr = s.rd adr)) ∧
  (∀ (m : Nat) (u s : State),
      u = s.at_ (s.stepTime m) →
      u.rimToggles m 3 0 250 15 = true →
      (u.rimOut m 3 0 250).toNat % 8 = 2 →
      s.get F.CFG_PR_CTL_OWNER = 2 →
      s.prBusy = false →
      (s.alive = false ∨ 0x100000 < (s.rdN R.CFG_PR_LEN) ∨ s.tractSlice = true) →
      ∃ t, exec (.prRimStartFlash m) s = .next t
        ∧ (s.alive = false ∨ 0x100000 < (s.rdN R.CFG_PR_LEN) → t.prState = Pr.rejected ∧ t.get F.CFG_PR_STAT_CODE = (if s.alive = false then 0x10 else 0x03) ∧ t.bit F.CFG_PR_CTL_START = false ∧ t.rdN R.CFG_PR_REJECTED = min 0xFFFFFFFF (s.rdN R.CFG_PR_REJECTED + 1) ∧ t.isPending 833 = true)
        ∧ (s.alive = true ∧ (s.rdN R.CFG_PR_LEN) ≤ 0x100000 → t.prState = Pr.idle ∧ t.get F.CFG_PR_STAT_CODE = 0 ∧ t.bit F.CFG_PR_CTL_START = true ∧ t.rdN R.CFG_PR_REJECTED = s.rdN R.CFG_PR_REJECTED ∧ t.irq = s.irq)
        ∧ t.get F.CFG_PR_STAT_FRAME = 0
        ∧ t.cfg = { s.cfg with pr := { fabric := true, flash := true, src := ((u.rimOut m 3 0 251).toNat + (u.rimOut m 3 0 252).toNat * 65536), len := s.rdN R.CFG_PR_LEN, ack := !s.cfg.pr.ack, claim := s.cfg.pr.claim } }
        ∧ (t.get F.CFG_PR_CTL_OWNER = s.get F.CFG_PR_CTL_OWNER ∧ t.bit F.CFG_PR_CTL_FAB_ALLOW = s.bit F.CFG_PR_CTL_FAB_ALLOW)
        ∧ t.bit F.CFG_PR_STAT_CLAIM_REFUSED = s.bit F.CFG_PR_STAT_CLAIM_REFUSED
        ∧ t = { u with regs := t.regs, irq := t.irq, cfg := t.cfg }
        ∧ (∀ adr, adr ∉ (R.CFG_PR_CTL :: R.CFG_PR_STAT :: R.CFG_PR_REJECTED :: coalesced : List Nat) → t.rd adr = s.rd adr)
        ∧ (∀ num dr, num ∉ ([833] : List Nat) → t.slot num dr = s.slot num dr)) ∧
  (∀ (m cmd : Nat) (i : Instr) (u s : State),
      (cmd, i) ∈ ([(2, .prRimStartFlash m), (3, .prRimStartPush m)] : List (Nat × Instr)) →
      u = s.at_ (s.stepTime m) →
      u.rimToggles m 3 0 250 15 = true →
      (u.rimOut m 3 0 250).toNat % 8 = cmd →
      s.get F.CFG_PR_CTL_OWNER = 2 →
      s.prBusy = true →
      ∃ t, exec i s = .next t
        ∧ t = { u with cfg := { s.cfg with pr := { s.cfg.pr with ack := !s.cfg.pr.ack } } }) ∧
  (∀ (m : Nat) (u s : State),
      u = s.at_ (s.stepTime m) →
      u.rimToggles m 3 0 250 15 = true →
      (u.rimOut m 3 0 250).toNat % 8 = 4 →
      s.get F.CFG_PR_CTL_OWNER = 2 →
      (s.prState = 1 ∨ s.prState = 2 ∨ s.prState = 3) →
      ∃ t, exec (.prRimAbort m) s = .next t
        ∧ t.prState = Pr.rejected
        ∧ t.get F.CFG_PR_STAT_CODE = 0x0F
        ∧ t.get F.CFG_PR_STAT_FRAME = 0
        ∧ t.bit F.CFG_PR_CTL_START = false
        ∧ t.rdN R.CFG_PR_REJECTED = min 0xFFFFFFFF (s.rdN R.CFG_PR_REJECTED + 1)
        ∧ t.isPending 833 = true
        ∧ (t.get F.CFG_PR_CTL_OWNER = s.get F.CFG_PR_CTL_OWNER ∧ t.bit F.CFG_PR_CTL_FAB_ALLOW = s.bit F.CFG_PR_CTL_FAB_ALLOW)
        ∧ t.bit F.CFG_PR_STAT_CLAIM_REFUSED = s.bit F.CFG_PR_STAT_CLAIM_REFUSED
        ∧ t.cfg = { s.cfg with pr := { s.cfg.pr with ack := !s.cfg.pr.ack } }
        ∧ t = { u with regs := t.regs, irq := t.irq, cfg := t.cfg }
        ∧ (∀ adr, adr ∉ (R.CFG_PR_CTL :: R.CFG_PR_STAT :: R.CFG_PR_REJECTED :: coalesced : List Nat) → t.rd adr = s.rd adr)
        ∧ (∀ num dr, num ∉ ([833] : List Nat) → t.slot num dr = s.slot num dr)) ∧
  (∀ (m : Nat) (u s : State),
      u = s.at_ (s.stepTime m) →
      u.rimToggles m 3 0 250 15 = true →
      (u.rimOut m 3 0 250).toNat % 8 = 4 →
      s.get F.CFG_PR_CTL_OWNER = 2 →
      (s.prState = 0 ∨ 4 ≤ s.prState) →
      ∃ t, exec (.prRimAbort m) s = .next t
        ∧ t = { u with cfg := { s.cfg with pr := { s.cfg.pr with ack := !s.cfg.pr.ack } } }) ∧
  (∀ (m y : Nat) (s : State),
      246 ≤ y →
      y ≤ 253 →
      ((s.rimIn m 3 0 250).toNat = s.prState + (if s.cfg.pr.ack = true then 0x8000 else 0))
        ∧ (s.rimIn m 3 0 251).toNat = s.get F.CFG_PR_STAT_CODE
        ∧ (s.rimIn m 3 0 253).toNat = (if s.get F.CFG_PR_CTL_OWNER = 2 then 1 else 0)
        ∧ (y ≠ 250 → y ≠ 251 → y ≠ 253 → s.rimIn m 3 0 y = 0)) ∧
  (∀ (w : Nat) (bad : Bool) (s : State),
      s.prState = Pr.staging →
      s.cfg.pr.flash = false →
      s.cfg.pr.count = s.cfg.pr.len →
      ∃ t, exec (.prStagingDone w bad) s = .next t
        ∧ t.prState = Pr.auth
        ∧ t = { (s.at_ w).set F.CFG_PR_STAT_STATE 2 with now := max s.now w }) ∧
  (∀ (w : Nat) (bad : Bool) (s : State),
      (s.prState ≠ Pr.staging ∨ s.cfg.pr.flash = false ∧ s.cfg.pr.count ≠ s.cfg.pr.len) →
      ∃ t, exec (.prStagingDone w bad) s = .next t
        ∧ t = { s with now := max s.now w }) ∧
  (∀ (w : Nat) (bad : Bool) (s : State),
      s.prState = Pr.staging →
      s.cfg.pr.flash = true →
      bad = false →
      0x30000000 ≤ s.cfg.pr.src →
      s.cfg.pr.src + s.cfg.pr.len ≤ 0x32FF0000 →
      (∀ i : Nat, i < (s.cfg.pr.src % 0x10000 + s.cfg.pr.len + 0xFFFF) / 0x10000 → (s.sector ((s.cfg.pr.src - 0x30000000) / 0x10000 + i)).state = Fs.sealed) →
      ∃ t, exec (.prStagingDone w bad) s = .next t
        ∧ t.prState = Pr.auth
        ∧ t.cfg = { s.cfg with pr := { s.cfg.pr with bytes := (List.range s.cfg.pr.len).map fun i => Sparse.get (fun _ => 255) s.flash.cf (s.cfg.pr.src - 0x30000000 + i) } }
        ∧ t.flash.lastRead = max s.now w
        ∧ t.flashRuns = false
        ∧ (t.get F.CFG_PR_STAT_CODE = s.get F.CFG_PR_STAT_CODE ∧ t.get F.CFG_PR_STAT_FRAME = s.get F.CFG_PR_STAT_FRAME)
        ∧ t.bit F.CFG_PR_STAT_CLAIM_REFUSED = s.bit F.CFG_PR_STAT_CLAIM_REFUSED
        ∧ t = { s with regs := t.regs, now := max s.now w, flash := t.flash, cfg := t.cfg }
        ∧ (∀ adr, adr ∉ ([R.CFG_PR_STAT, R.FLASH_STAT] : List Nat) → t.rd adr = s.rd adr)) ∧
  (∀ (w : Nat) (bad : Bool) (s : State),
      s.prState = Pr.staging →
      s.cfg.pr.flash = true →
      (bad = true ∨ s.cfg.pr.src < 0x30000000 ∨ 0x32FF0000 < s.cfg.pr.src + s.cfg.pr.len ∨ (∃ i : Nat, i < (s.cfg.pr.src % 0x10000 + s.cfg.pr.len + 0xFFFF) / 0x10000 ∧ (s.sector ((s.cfg.pr.src - 0x30000000) / 0x10000 + i)).state ≠ Fs.sealed)) →
      ∃ t, exec (.prStagingDone w bad) s = .next t
        ∧ t.prState = Pr.rejected
        ∧ t.get F.CFG_PR_STAT_CODE = 0x0E
        ∧ t.get F.CFG_PR_STAT_FRAME = 0
        ∧ t.bit F.CFG_PR_CTL_START = false
        ∧ t.rdN R.CFG_PR_REJECTED = min 0xFFFFFFFF (s.rdN R.CFG_PR_REJECTED + 1)
        ∧ t.isPending 833 = true
        ∧ t.bit F.CFG_PR_STAT_CLAIM_REFUSED = s.bit F.CFG_PR_STAT_CLAIM_REFUSED
        ∧ t = { s with regs := t.regs, irq := t.irq, now := max s.now w }
        ∧ (∀ adr, adr ∉ (R.CFG_PR_CTL :: R.CFG_PR_STAT :: R.CFG_PR_REJECTED :: coalesced : List Nat) → t.rd adr = s.rd adr)
        ∧ (∀ num dr, num ∉ ([833] : List Nat) → t.slot num dr = s.slot num dr)) ∧
  (∀ (w code : Nat) (s : State),
      s.prState = Pr.auth →
      ∃ t, exec (.prAuthDone w) s = .next t
        ∧ (code = (if s.cfg.pr.bytes.length < 480 then 0x02 else if headerLegal (s.cfg.pr.bytes.take 480) = false then 0x11 else if fieldBE (s.cfg.pr.bytes.take 480) 6 2 ≠ 0x6128 then 0x01 else if fieldBE (s.cfg.pr.bytes.take 480) 8 1 = 1 then 0x04 else if headerSizes (s.cfg.pr.bytes.take 480) 16 = false ∨ 0x100000 < 480 + fieldBE (s.cfg.pr.bytes.take 480) 12 4 then 0x03 else if s.cfg.pr.bytes.length < 480 + fieldBE (s.cfg.pr.bytes.take 480) 12 4 then 0x02 else if s.signatureOk (s.cfg.pr.bytes.take 480) = false then 0x05 else if Config.sha384 (slice s.cfg.pr.bytes 480 (fieldBE (s.cfg.pr.bytes.take 480) 12 4)) ≠ slice (s.cfg.pr.bytes.take 480) 32 48 then 0x06 else 0) → code = 0 → t.prState = Pr.decrypt ∧ t.irq = s.irq ∧ t.rd R.CFG_PR_REJECTED = s.rd R.CFG_PR_REJECTED ∧ t.rd R.CFG_PR_CTL = s.rd R.CFG_PR_CTL ∧ t.get F.CFG_PR_STAT_CODE = s.get F.CFG_PR_STAT_CODE)
        ∧ (code = (if s.cfg.pr.bytes.length < 480 then 0x02 else if headerLegal (s.cfg.pr.bytes.take 480) = false then 0x11 else if fieldBE (s.cfg.pr.bytes.take 480) 6 2 ≠ 0x6128 then 0x01 else if fieldBE (s.cfg.pr.bytes.take 480) 8 1 = 1 then 0x04 else if headerSizes (s.cfg.pr.bytes.take 480) 16 = false ∨ 0x100000 < 480 + fieldBE (s.cfg.pr.bytes.take 480) 12 4 then 0x03 else if s.cfg.pr.bytes.length < 480 + fieldBE (s.cfg.pr.bytes.take 480) 12 4 then 0x02 else if s.signatureOk (s.cfg.pr.bytes.take 480) = false then 0x05 else if Config.sha384 (slice s.cfg.pr.bytes 480 (fieldBE (s.cfg.pr.bytes.take 480) 12 4)) ≠ slice (s.cfg.pr.bytes.take 480) 32 48 then 0x06 else 0) → code ≠ 0 → t.prState = Pr.rejected ∧ t.get F.CFG_PR_STAT_CODE = code ∧ t.get F.CFG_PR_STAT_FRAME = 0 ∧ t.bit F.CFG_PR_CTL_START = false ∧ t.rdN R.CFG_PR_REJECTED = min 0xFFFFFFFF (s.rdN R.CFG_PR_REJECTED + 1) ∧ t.isPending 833 = true)
        ∧ t.bit F.CFG_PR_STAT_CLAIM_REFUSED = s.bit F.CFG_PR_STAT_CLAIM_REFUSED
        ∧ t = { s with regs := t.regs, irq := t.irq, now := max s.now w }
        ∧ (∀ adr, adr ∉ (R.CFG_PR_CTL :: R.CFG_PR_STAT :: R.CFG_PR_REJECTED :: coalesced : List Nat) → t.rd adr = s.rd adr)
        ∧ (∀ num dr, num ∉ ([833] : List Nat) → t.slot num dr = s.slot num dr)) ∧
  (∀ (w n : Nat) (i : Instr) (s : State),
      (n, i) ∈ ([(Pr.auth, .prAuthDone w), (Pr.decrypt, .prDecryptDone w), (Pr.applying, .prApplyDone w)] : List (Nat × Instr)) →
      s.prState ≠ n →
      ∃ t, exec i s = .next t
        ∧ t = { s with now := max s.now w }) ∧
  (∀ (w : Nat) (s : State),
      s.prState = Pr.decrypt →
      ∃ t, exec (.prDecryptDone w) s = .next t
        ∧ ((s.at_ w).decryptChecks.1 ≠ 0 → t.prState = Pr.rejected ∧ t.get F.CFG_PR_STAT_CODE = (s.at_ w).decryptChecks.1 % 256 ∧ t.get F.CFG_PR_STAT_FRAME = (s.at_ w).decryptChecks.2.1 % 8192 ∧ t.bit F.CFG_PR_CTL_START = false ∧ t.rdN R.CFG_PR_REJECTED = min 0xFFFFFFFF (s.rdN R.CFG_PR_REJECTED + 1) ∧ t.isPending 833 = true ∧ t.fab = s.fab ∧ t.cfg = s.cfg)
        ∧ ((s.at_ w).decryptChecks.1 = 0 → s.epochAt (max s.now w) ≠ 0 → t = s.at_ w)
        ∧ ((s.at_ w).decryptChecks.1 = 0 → s.epochAt (max s.now w) = 0 → t.prState = Pr.applying ∧ t.irq = s.irq ∧ t.rd R.CFG_PR_CTL = s.rd R.CFG_PR_CTL ∧ t.rd R.CFG_PR_REJECTED = s.rd R.CFG_PR_REJECTED)
        ∧ ((s.at_ w).decryptChecks.1 = 0 → s.epochAt (max s.now w) = 0 → t.cfg = { s.cfg with pr := { s.cfg.pr with recs := (s.at_ w).decryptChecks.2.2.recs, keys := (s.at_ w).decryptChecks.2.2.keys, region := (headerRegion (s.cfg.pr.bytes.take 480)), pins := (s.at_ w).heldPins (headerRegion (s.cfg.pr.bytes.take 480)) }, queue := s.cfg.queue.filter (fun f => !(headerRegion (s.cfg.pr.bytes.take 480)).contains (f / 16)), asked := t.cfg.asked, answer := t.cfg.answer })
        ∧ ((s.at_ w).decryptChecks.1 = 0 → s.epochAt (max s.now w) = 0 → t.fab = { s.fab with free := t.fab.free, cells := t.fab.cells })
        ∧ ((s.at_ w).decryptChecks.1 = 0 → s.epochAt (max s.now w) = 0 → ∀ j : Nat, j < 256 → t.tractFree j = ((s.at_ w).tractFree j && !(headerRegion (s.cfg.pr.bytes.take 480)).contains j))
        ∧ t.bit F.CFG_PR_STAT_CLAIM_REFUSED = s.bit F.CFG_PR_STAT_CLAIM_REFUSED
        ∧ t = { s with regs := t.regs, irq := t.irq, now := max s.now w, fab := t.fab, cfg := t.cfg }
        ∧ (∀ adr, adr ∉ (R.CFG_PR_CTL :: R.CFG_PR_STAT :: R.CFG_PR_REJECTED :: coalesced : List Nat) → t.rd adr = s.rd adr)
        ∧ (∀ num dr, num ∉ ([833] : List Nat) → t.slot num dr = s.slot num dr)
        ∧ (∀ key, (s.at_ w).decryptChecks.1 = 0 → s.epochAt (max s.now w) = 0 → (headerRegion (s.cfg.pr.bytes.take 480)).contains (key / 256) = false → t.cell key = s.cell key)) ∧
  (∀ (w : Nat) (s : State),
      s.prState = Pr.applying →
      s.epochAt (max s.now w) = 0 →
      ∃ t, exec (.prApplyDone w) s = .next t
        ∧ t.prState = Pr.done
        ∧ t.bit F.CFG_PR_CTL_START = false
        ∧ t.rdN R.CFG_PR_APPLIED = (s.rdN R.CFG_PR_APPLIED + 1) % 2 ^ 32
        ∧ t.isPending 832 = true
        ∧ t.cfg = { s.cfg with recs := t.cfg.recs, keyTab := t.cfg.keyTab, keysFull := t.cfg.keysFull, pr := { s.cfg.pr with bytes := [], recs := [], keys := [], pins := [] } }
        ∧ (∀ j : Nat, j < 256 → t.tractFree j = ((s.at_ w).tractFree j || (s.cfg.pr.region.contains j && (s.get F.FAB_SR_STAT_RELEASED).testBit (tractQuad j) && !s.cfg.held.contains (tractQuad j) && !s.cfg.restoring.contains (tractQuad j))))
        ∧ (t.get F.CFG_PR_STAT_CODE = s.get F.CFG_PR_STAT_CODE ∧ t.get F.CFG_PR_STAT_FRAME = s.get F.CFG_PR_STAT_FRAME)
        ∧ t.fab = { s.fab with cfg := t.fab.cfg, free := t.fab.free, freeAt := t.fab.freeAt, cells := t.fab.cells, latch := t.fab.latch }
        ∧ (t.get F.CFG_PR_CTL_OWNER = s.get F.CFG_PR_CTL_OWNER ∧ t.bit F.CFG_PR_CTL_FAB_ALLOW = s.bit F.CFG_PR_CTL_FAB_ALLOW)
        ∧ t.bit F.CFG_PR_STAT_CLAIM_REFUSED = s.bit F.CFG_PR_STAT_CLAIM_REFUSED
        ∧ t = { s with regs := t.regs, irq := t.irq, now := max s.now w, mem := t.mem, fab := t.fab, cfg := t.cfg }
        ∧ (∀ adr, adr ∉ (R.CFG_PR_CTL :: R.CFG_PR_STAT :: R.CFG_PR_APPLIED :: R.FAB_CONT_COUNT :: R.FAB_CONT_STAT :: R.FAB_CONT_CELL :: coalesced : List Nat) → t.rd adr = s.rd adr)
        ∧ (∀ num dr, num ∉ ([832, 496] : List Nat) → t.slot num dr = s.slot num dr)
        ∧ (∀ key, (∀ r ∈ (s.cfg.pr.recs : List ImgRec), (match r with | .frame ram n _ _ _ _ _ => (if ram = true then 4096 + n else n) != key | _ => true) = true) → t.frameRec key = s.frameRec key)
        ∧ (∀ key, (∀ r ∈ (s.cfg.pr.recs : List ImgRec), (match r with | .frame ram n _ _ _ _ _ => (if ram = true then 4096 + n else n) != key / 16 | _ => true) = true) → t.cellCfg key = s.cellCfg key)) ∧
  (∀ (w : Nat) (s : State),
      s.prState = Pr.applying →
      s.epochAt (max s.now w) ≠ 0 →
      ∃ t, exec (.prApplyDone w) s = .next t
        ∧ t = { s with now := max s.now w }) ∧
  (∀ (w n crc seg pos off : Nat) (pay : List Nat) (l1 l2 : List ImgRec) (s : State),
      s.prState = Pr.applying →
      s.epochAt (max s.now w) = 0 →
      s.cfg.pr.recs = l1 ++ .frame false n pay crc seg pos off :: l2 →
      (∀ r ∈ (l2 : List ImgRec), (match r with | .frame ram n _ _ _ _ _ => (if ram = true then 4096 + n else n) != n | _ => true) = true) →
      n < 4096 →
      ∃ t, exec (.prApplyDone w) s = .next t
        ∧ (∀ i : Nat, i < 16 → t.cellCfg (n * 16 + i) = BitVec.ofNat 320 (numBE pay / 2 ^ (320 * i)))
        ∧ (t.frameRec n).golden = crc
        ∧ (t.frameRec n).pos = pos
        ∧ ((t.frameRec n).fails = 0 ∧ (t.frameRec n).chain = false)
        ∧ (s.cfg.pr.flash = false → (t.frameRec n).state = 2)
        ∧ (s.cfg.pr.flash = true → s.cfg.pr.keys[seg]? ≠ none → (∀ i : Nat, i < s.cfg.pr.recs.length → (s.keyEntry i).isNone = true) → s.cfg.pr.recs.length ≤ 512 → (t.frameRec n).state = 0)
        ∧ ((t.frameRec n).state = 0 → (t.frameRec n).src = s.cfg.pr.src + 480 + 65536 * seg + pos ∧ t.keyEntry (t.frameRec n).key = s.cfg.pr.keys[seg]?)
        ∧ ((t.frameRec n).state = 0 ∨ (t.frameRec n).state = 2)) ∧
  (∀ (w n crc seg pos off : Nat) (pay : List Nat) (l1 l2 : List ImgRec) (s : State),
      s.prState = Pr.applying →
      s.epochAt (max s.now w) = 0 →
      s.cfg.pr.recs = l1 ++ .frame true n pay crc seg pos off :: l2 →
      (∀ r ∈ (l2 : List ImgRec), (match r with | .frame ram n _ _ _ _ _ => (if ram = true then 4096 + n else n) != 4096 + n | _ => true) = true) →
      n < 1024 →
      ∃ t, exec (.prApplyDone w) s = .next t
        ∧ (∀ i : Nat, i < 512 → t.memWord (0x23000000 + n * 0x1000 + 8 * i) = gridEncode (BitVec.ofNat 64 (fieldBE pay (8 * i) 8)))
        ∧ (t.frameRec (4096 + n)).golden = crc
        ∧ (t.frameRec (4096 + n)).pos = pos
        ∧ ((t.frameRec (4096 + n)).fails = 0 ∧ (t.frameRec (4096 + n)).chain = false)
        ∧ (s.cfg.pr.flash = false → (t.frameRec (4096 + n)).state = 2)
        ∧ (s.cfg.pr.flash = true → s.cfg.pr.keys[seg]? ≠ none → (∀ i : Nat, i < s.cfg.pr.recs.length → (s.keyEntry i).isNone = true) → s.cfg.pr.recs.length ≤ 512 → (t.frameRec (4096 + n)).state = 0)
        ∧ ((t.frameRec (4096 + n)).state = 0 → (t.frameRec (4096 + n)).src = s.cfg.pr.src + 480 + 65536 * seg + pos ∧ t.keyEntry (t.frameRec (4096 + n)).key = s.cfg.pr.keys[seg]?)
        ∧ ((t.frameRec (4096 + n)).state = 0 ∨ (t.frameRec (4096 + n)).state = 2)) ∧
  (∀ (w : Nat) (gb : Bool) (s : State),
      (s.alive = false ∨ s.bit F.CFG_SCAN_CTL_EN = false ∨ s.regValid R.CFG_SCAN_CTL = false) →
      ∃ t, exec (.scanFrameRead w gb) s = .next t
        ∧ t = { s with now := max s.now w }) ∧
  (∀ (w : Nat) (gb : Bool) (n : Nat) (r : List Nat) (s : State),
      s.alive = true →
      s.bit F.CFG_SCAN_CTL_EN = true →
      s.regValid R.CFG_SCAN_CTL = true →
      s.cfg.scanFirst = n :: r →
      s.scans n = true →
      ∃ t, exec (.scanFrameRead w gb) s = .next t
        ∧ t.cfg.scanFirst = r
        ∧ t.cfg.scanNext = s.cfg.scanNext
        ∧ t.rd R.CFG_SCAN_LAPS = s.rd R.CFG_SCAN_LAPS
        ∧ (s.scans n = true ↔ (s.quadOn (tractQuad (n / 16)) = true ∧ s.cfg.restoring.contains (tractQuad (n / 16)) = false ∧ ¬ (s.prState = Pr.applying ∧ s.cfg.pr.region.contains (n / 16) = true) ∧ (match s.bist.slice with | some x => x.kind != 6 || x.unit != n / 16 | none => true) = true ∧ (s.frameRec n).state ≠ 3 ∧ ((s.frameRec n).state = 2 → s.cfg.lapSkip.contains n = false)))) ∧
  (∀ (w : Nat) (gb : Bool) (n : Nat) (s : State),
      s.alive = true →
      s.bit F.CFG_SCAN_CTL_EN = true →
      s.regValid R.CFG_SCAN_CTL = true →
      (∀ j ∈ (s.cfg.scanFirst : List Nat), s.scans j = false) →
      s.cfg.scanNext ≤ n →
      n < 4096 →
      s.scans n = true →
      (∀ j : Nat, j < n → s.cfg.scanNext ≤ j → s.scans j = false) →
      ∃ t, exec (.scanFrameRead w gb) s = .next t
        ∧ (s.at_ w).scanTake.2 = some n
        ∧ t.cfg.scanNext = n + 1
        ∧ t.cfg.scanFirst = []
        ∧ t.rd R.CFG_SCAN_LAPS = s.rd R.CFG_SCAN_LAPS) ∧
  (∀ (w : Nat) (gb : Bool) (s : State),
      s.alive = true →
      s.bit F.CFG_SCAN_CTL_EN = true →
      s.regValid R.CFG_SCAN_CTL = true →
      (∀ j ∈ (s.cfg.scanFirst : List Nat), s.scans j = false) →
      (∀ i : Nat, i < 64 → ∀ j : Nat, j < 64 → s.cfg.scanNext ≤ 64 * i + j → s.scans (64 * i + j) = false) →
      ∃ t, exec (.scanFrameRead w gb) s = .next t
        ∧ t.rdN R.CFG_SCAN_LAPS = (s.rdN R.CFG_SCAN_LAPS + 1) % 2 ^ 32
        ∧ t.cfg.lapSkip = s.cfg.recs.filterMap (fun e => if e.1 < 4096 ∧ e.2.state = 2 then some e.1 else none)
        ∧ t.cfg.scanFirst = []
        ∧ (∀ k : Nat, k < 1 → (s.frameRec k).state < 2 → s.scans k = true → t.cfg.scanNext = k + 1)) ∧
  (∀ (w : Nat) (gb : Bool) (s : State),
      s.alive = true →
      s.bit F.CFG_SCAN_CTL_EN = true →
      s.regValid R.CFG_SCAN_CTL = true →
      (s.at_ w).scanTake.2 = none →
      ∃ t, exec (.scanFrameRead w gb) s = .next t
        ∧ t.cfg = { s.cfg with scanNext := t.cfg.scanNext, scanFirst := t.cfg.scanFirst, lapSkip := t.cfg.lapSkip }
        ∧ t = { s with regs := t.regs, now := max s.now w, cfg := t.cfg }
        ∧ (∀ adr, adr ∉ ([R.CFG_SCAN_LAPS] : List Nat) → t.rd adr = s.rd adr)) ∧
  (∀ (w n : Nat) (s : State),
      s.alive = true →
      s.bit F.CFG_SCAN_CTL_EN = true →
      s.regValid R.CFG_SCAN_CTL = true →
      (s.at_ w).scanTake.2 = some n →
      (crc32c (s.framePayload n)).toNat = (s.frameRec n).golden →
      ∃ t, exec (.scanFrameRead w false) s = .next t
        ∧ t.cfg = { s.cfg with scanNext := t.cfg.scanNext, scanFirst := t.cfg.scanFirst, lapSkip := t.cfg.lapSkip }
        ∧ t = { s with regs := t.regs, now := max s.now w, cfg := t.cfg }
        ∧ (∀ adr, adr ∉ ([R.CFG_SCAN_LAPS] : List Nat) → t.rd adr = s.rd adr)) ∧
  (∀ (w n : Nat) (s : State),
      s.alive = true →
      s.bit F.CFG_SCAN_CTL_EN = true →
      s.regValid R.CFG_SCAN_CTL = true →
      (s.at_ w).scanTake.2 = some n →
      (crc32c (s.framePayload n)).toNat ≠ (s.frameRec n).golden →
      (s.frameRec n).state ≠ 2 →
      s.cfg.queue.contains n = false →
      s.cfg.queue.length < 8 →
      ∃ t, exec (.scanFrameRead w false) s = .next t
        ∧ t.frameRec n = { s.frameRec n with state := 1 }
        ∧ t.cfg = { s.cfg with scanNext := t.cfg.scanNext, scanFirst := t.cfg.scanFirst, lapSkip := t.cfg.lapSkip, recs := t.cfg.recs, queue := s.cfg.queue ++ [n] }
        ∧ t = { s with regs := t.regs, now := max s.now w, cfg := t.cfg }
        ∧ (∀ adr, adr ∉ ([R.CFG_SCAN_LAPS] : List Nat) → t.rd adr = s.rd adr)
        ∧ (∀ key, key ∉ ([n] : List Nat) → t.frameRec key = s.frameRec key)) ∧
  (∀ (w n : Nat) (s : State),
      s.alive = true →
      s.bit F.CFG_SCAN_CTL_EN = true →
      s.regValid R.CFG_SCAN_CTL = true →
      (s.at_ w).scanTake.2 = some n →
      (crc32c (s.framePayload n)).toNat ≠ (s.frameRec n).golden →
      (s.frameRec n).state ≠ 2 →
      (s.cfg.queue.contains n = true ∨ 8 ≤ s.cfg.queue.length) →
      ∃ t, exec (.scanFrameRead w false) s = .next t
        ∧ t.rdN R.CFG_QUEUE_FULL = (if s.cfg.queue.contains n = true then s.rdN R.CFG_QUEUE_FULL else min 0xFFFFFFFF (s.rdN R.CFG_QUEUE_FULL + 1))
        ∧ t.cfg = { s.cfg with scanNext := t.cfg.scanNext, scanFirst := t.cfg.scanFirst, lapSkip := t.cfg.lapSkip }
        ∧ t = { s with regs := t.regs, now := max s.now w, cfg := t.cfg }
        ∧ (∀ adr, adr ∉ ([R.CFG_SCAN_LAPS, R.CFG_QUEUE_FULL] : List Nat) → t.rd adr = s.rd adr)) ∧
  (∀ (w n : Nat) (s : State),
      s.alive = true →
      s.bit F.CFG_SCAN_CTL_EN = true →
      s.regValid R.CFG_SCAN_CTL = true →
      (s.at_ w).scanTake.2 = some n →
      (crc32c (s.framePayload n)).toNat ≠ (s.frameRec n).golden →
      (s.frameRec n).state = 2 →
      ∃ t, exec (.scanFrameRead w false) s = .next t
        ∧ t.frameRec n = { s.frameRec n with state := 3 }
        ∧ t.isPending 836 = true
        ∧ t.cfg = { s.cfg with scanNext := t.cfg.scanNext, scanFirst := t.cfg.scanFirst, lapSkip := t.cfg.lapSkip, recs := t.cfg.recs }
        ∧ t = { s with regs := t.regs, now := max s.now w, cfg := t.cfg, irq := t.irq }
        ∧ (∀ adr, adr ∉ (R.CFG_SCAN_LAPS :: coalesced : List Nat) → t.rd adr = s.rd adr)
        ∧ (∀ num dr, num ∉ ([836] : List Nat) → t.slot num dr = s.slot num dr)
        ∧ (∀ key, key ∉ ([n] : List Nat) → t.frameRec key = s.frameRec key)) ∧
  (∀ (w n : Nat) (s : State),
      s.alive = true →
      s.bit F.CFG_SCAN_CTL_EN = true →
      s.regValid R.CFG_SCAN_CTL = true →
      (s.at_ w).scanTake.2 = some n →
      ∃ t, exec (.scanFrameRead w true) s = .next t
        ∧ t.frameRec n = { s.frameRec n with state := 3 }
        ∧ t.isPending 836 = true
        ∧ t.isPending 859 = true
        ∧ t.bit F.ECC_STAT_UNCORR = true
        ∧ t.rdN R.ECC_UNCORR_COUNT = min 0xFFFFFFFF (s.rdN R.ECC_UNCORR_COUNT + 1)
        ∧ t.rdN R.ECC_LAST_INFO = 9 * 2 ^ 28 + 5 * 2 ^ 25 + 3 * 2 ^ 16
        ∧ t.cfg = { s.cfg with scanNext := t.cfg.scanNext, scanFirst := t.cfg.scanFirst, lapSkip := t.cfg.lapSkip, recs := t.cfg.recs }
        ∧ t = { s with regs := t.regs, now := max s.now w, cfg := t.cfg, irq := t.irq, free := s.free + 1 }
        ∧ (∀ adr, adr ∉ (R.CFG_SCAN_LAPS :: R.ECC_UNCORR_COUNT :: R.ECC_LAST_UNCORR :: R.ECC_LAST_INFO :: R.ECC_STAT :: coalesced : List Nat) → t.rd adr = s.rd adr)
        ∧ (∀ num dr, num ∉ ([836, 859] : List Nat) → t.slot num dr = s.slot num dr)
        ∧ (∀ key, key ∉ ([n] : List Nat) → t.frameRec key = s.frameRec key)) ∧
  (∀ (w : Nat) (bad : Bool) (s : State),
      s.cfg.queue = [] →
      ∃ t, exec (.frameRepair w bad) s = .next t
        ∧ t = { s with now := max s.now w }) ∧
  (∀ (w : Nat) (bad : Bool) (n : Nat) (r : List Nat) (s : State),
      s.cfg.queue = n :: r →
      (s.quadOn (tractQuad (n / 16)) = false ∨ s.prState = Pr.applying ∧ s.cfg.pr.region.contains (n / 16) = true) →
      ∃ t, exec (.frameRepair w bad) s = .next t
        ∧ t = { s with now := max s.now w, cfg := { s.cfg with queue := r, asked := none, answer := [] } }) ∧
  (∀ (w : Nat) (bad : Bool) (n : Nat) (r : List Nat) (s : State),
      s.cfg.queue = n :: r →
      s.quadOn (tractQuad (n / 16)) = true →
      ¬ (s.prState = Pr.applying ∧ s.cfg.pr.region.contains (n / 16) = true) →
      (s.frameRec n).chain = true →
      s.cfg.asked = none →
      ∃ t, exec (.frameRepair w bad) s = .next t
        ∧ (let u := { s.at_ w with cfg := { s.cfg with asked := some (n, w), answer := [] } }; t = u.emnData 1 0 ([5, 0, 0, 0] ++ bytesBE 4 ((s.frameRec n).src - (s.frameRec n).pos % 16) ++ bytesBE 2 (640 + (s.frameRec n).pos % 16)))) ∧
  (∀ (w : Nat) (bad : Bool) (n : Nat) (r : List Nat) (s : State),
      s.cfg.queue = n :: r →
      s.quadOn (tractQuad (n / 16)) = true →
      ¬ (s.prState = Pr.applying ∧ s.cfg.pr.region.contains (n / 16) = true) →
      (s.frameRec n).chain = true →
      s.cfg.asked.isSome = true →
      s.cfg.answer.length < (640 + (s.frameRec n).pos % 16) →
      ∃ t, exec (.frameRepair w bad) s = .next t
        ∧ t = { s with now := max s.now w }) ∧
  (∀ (w : Nat) (bad : Bool) (n : Nat) (r : List Nat) (s : State),
      s.cfg.queue = n :: r →
      s.quadOn (tractQuad (n / 16)) = true →
      ¬ (s.prState = Pr.applying ∧ s.cfg.pr.region.contains (n / 16) = true) →
      ((s.frameRec n).chain = false ∨ s.cfg.asked.isSome = true ∧ (640 + (s.frameRec n).pos % 16) ≤ s.cfg.answer.length) →
      ∃ t, exec (.frameRepair w bad) s = .next t
        ∧ ((match (if (s.frameRec n).chain = true then s.at_ w else (s.at_ w).flashTouch).sourcePayload n bad (s.cfg.answer.take (640 + (s.frameRec n).pos % 16)) with | some p => decide (t.rdN R.CFG_REPAIRS = min 0xFFFFFFFF (s.rdN R.CFG_REPAIRS + 1) ∧ t.rd R.CFG_REPAIR_FAIL = s.rd R.CFG_REPAIR_FAIL ∧ t.isPending 834 = true ∧ t.frameRec n = { s.frameRec n with state := 0, fails := 0 } ∧ t.get F.CFG_REPAIR_LAST_FRAME = n % 4096 ∧ t.get F.CFG_REPAIR_LAST_BITS = min 4095 (bitCount 5120 (Nat.xor (numBE (s.framePayload n)) (numBE p)))) && (List.range 16).all (fun i => decide (t.cellCfg (16 * n + i) = BitVec.ofNat 320 (numBE p / 2 ^ (320 * i)))) | none => decide (t.rdN R.CFG_REPAIR_FAIL = min 0xFFFFFFFF (s.rdN R.CFG_REPAIR_FAIL + 1) ∧ t.rd R.CFG_REPAIRS = s.rd R.CFG_REPAIRS ∧ t.isPending 835 = true ∧ t.fab = s.fab ∧ t.frameRec n = { s.frameRec n with fails := min 3 ((s.frameRec n).fails + 1), state := if 2 ≤ (s.frameRec n).fails then 3 else (s.frameRec n).state } ∧ (2 ≤ (s.frameRec n).fails → t.isPending 836 = true))) = true)
        ∧ (2 ≤ (s.frameRec n).state ∨ bad = true ∨ s.keyEntry (s.frameRec n).key = none → ((if (s.frameRec n).chain = true then s.at_ w else (s.at_ w).flashTouch).sourcePayload n bad (s.cfg.answer.take (640 + (s.frameRec n).pos % 16))).isNone = true)
        ∧ t.cfg = { s.cfg with queue := r, asked := none, answer := [], recs := t.cfg.recs }
        ∧ t.fab = { s.fab with cfg := t.fab.cfg, cells := t.fab.cells, latch := t.fab.latch }
        ∧ t = { s with regs := t.regs, irq := t.irq, now := max s.now w, fab := t.fab, flash := t.flash, cfg := t.cfg }
        ∧ (∀ adr, adr ∉ (R.CFG_REPAIRS :: R.CFG_REPAIR_LAST :: R.CFG_REPAIR_FAIL :: R.FLASH_STAT :: R.FAB_CONT_COUNT :: R.FAB_CONT_STAT :: R.FAB_CONT_CELL :: coalesced : List Nat) → t.rd adr = s.rd adr)
        ∧ (∀ num dr, num ∉ ([834, 835, 836, 496] : List Nat) → t.slot num dr = s.slot num dr)
        ∧ (∀ key, key ∉ ([n] : List Nat) → t.frameRec key = s.frameRec key)
        ∧ (∀ key, key / 16 ∉ ([n] : List Nat) → t.cellCfg key = s.cellCfg key)) ∧
  (∀ (w n a : Nat) (s : State),
      s.cfg.asked = some (n, a) →
      a + 4000000 ≤ w →
      ∃ t, exec (.repairChainTimeout w) s = .next t
        ∧ t.rdN R.CFG_REPAIR_FAIL = min 0xFFFFFFFF (s.rdN R.CFG_REPAIR_FAIL + 1)
        ∧ t.frameRec n = { s.frameRec n with fails := min 3 ((s.frameRec n).fails + 1), state := if 2 ≤ (s.frameRec n).fails then 3 else (s.frameRec n).state }
        ∧ t.isPending 835 = true
        ∧ (2 ≤ (s.frameRec n).fails → t.isPending 836 = true)
        ∧ t.cfg = { s.cfg with queue := s.cfg.queue.tail, asked := none, answer := [], recs := t.cfg.recs }
        ∧ t = { s with regs := t.regs, irq := t.irq, now := max s.now w, cfg := t.cfg }
        ∧ (∀ adr, adr ∉ (R.CFG_REPAIR_FAIL :: coalesced : List Nat) → t.rd adr = s.rd adr)
        ∧ (∀ num dr, num ∉ ([835, 836] : List Nat) → t.slot num dr = s.slot num dr)
        ∧ (∀ key, key ∉ ([n] : List Nat) → t.frameRec key = s.frameRec key)) ∧
  (∀ (w : Nat) (s : State),
      (match s.cfg.asked with | some (_, a) => decide (w < a + 4000000) | none => true) = true →
      ∃ t, exec (.repairChainTimeout w) s = .next t
        ∧ t = { s with now := max s.now w }) ∧
  (∀ (q : Fin 4) (w : Nat) (bad : Bool) (fetched : List (List (BitVec 8))) (s : State),
      s.cfg.restoring.contains q.val = true →
      s.cfg.held.contains q.val = false →
      ∃ t, exec (.quadrantRestoreDone q w bad fetched) s = .next t
        ∧ t.cfg = { s.cfg with recs := t.cfg.recs, restoring := s.cfg.restoring.filter (fun k => k != q.val), held := t.cfg.held }
        ∧ (bad = true ∨ (quadRecs q.val).any (fun k => decide (2 ≤ (s.frameRec k).state ∨ s.keyEntry (s.frameRec k).key = none)) = true → t.cfg.held = q.val :: s.cfg.held)
        ∧ (t.cfg.held = s.cfg.held ∨ t.cfg.held = q.val :: s.cfg.held)
        ∧ (t.cfg.held = q.val :: s.cfg.held → t.bit F.CFG_RESTORE_STAT_INCOMPLETE = true ∧ t.get F.CFG_RESTORE_STAT_QUADRANT = q.val ∧ t.fab.free = s.fab.free ∧ t.rd R.FAB_SR_STAT = s.rd R.FAB_SR_STAT ∧ (∀ dr ∈ ([0, 1, 2, 3] : List Nat), t.slot 837 dr = s.slot 837 dr))
        ∧ (t.cfg.held = s.cfg.held → t.isPending 837 = true ∧ t.rd R.CFG_RESTORE_STAT = s.rd R.CFG_RESTORE_STAT ∧ t.get F.FAB_SR_STAT_RELEASED = (if s.bit F.FAB_SR_STAT_DONE = true then Nat.lor (s.get F.FAB_SR_STAT_RELEASED) (2 ^ q.val) else s.get F.FAB_SR_STAT_RELEASED) ∧ (∀ j : Nat, j < 256 → Sparse.get (fun _ => false) t.fab.free j = (Sparse.get (fun _ => false) s.fab.free j || tractQuad j == q.val && (t.get F.FAB_SR_STAT_RELEASED).testBit q.val)))
        ∧ t = { s with regs := t.regs, irq := t.irq, now := max s.now w, mem := t.mem, fab := t.fab, flash := t.flash, cfg := t.cfg }
        ∧ (∀ adr, adr ∉ (R.CFG_RESTORE_STAT :: R.FAB_SR_STAT :: R.FLASH_STAT :: R.FAB_CONT_COUNT :: R.FAB_CONT_STAT :: R.FAB_CONT_CELL :: coalesced : List Nat) → t.rd adr = s.rd adr)
        ∧ (∀ num dr, num ∉ ([837, 496] : List Nat) → t.slot num dr = s.slot num dr)
        ∧ (∀ key, t.frameRec key = s.frameRec key ∨ key ∈ quadRecs q.val ∧ (s.frameRec key).state < 2 ∧ t.frameRec key = { s.frameRec key with state := 0, fails := 0 })) ∧
  (∀ (q : Fin 4) (w : Nat) (bad : Bool) (fetched : List (List (BitVec 8))) (s : State),
      s.cfg.restoring.contains q.val = false →
      ∃ t, exec (.quadrantRestoreDone q w bad fetched) s = .next t
        ∧ t = { s with now := max s.now w }) ∧
  (∀ (ini : Initiator) (q : Nat) (s : State),
      s.sends ini true R.CFG_RESTORE_STAT = true →
      s.get F.CFG_RESTORE_STAT_QUADRANT = q →
      s.cfg.held.contains q = true →
      ∃ t, exec (.restoreRelease ini) s = .next t
        ∧ t.respCode ini = 0
        ∧ t.cfg = { s.cfg with held := s.cfg.held.filter (fun k => k != q) }
        ∧ t.get F.CFG_RESTORE_STAT_QUADRANT = ((s.cfg.held.filter (fun k => k != q)).headD q) % 4
        ∧ t.bit F.CFG_RESTORE_STAT_INCOMPLETE = s.bit F.CFG_RESTORE_STAT_INCOMPLETE
        ∧ t.get F.FAB_SR_STAT_RELEASED = (if s.bit F.FAB_SR_STAT_DONE = true then Nat.lor (s.get F.FAB_SR_STAT_RELEASED) (2 ^ q) else s.get F.FAB_SR_STAT_RELEASED)
        ∧ (∀ j : Nat, j < 256 → Sparse.get (fun _ => false) t.fab.free j = (Sparse.get (fun _ => false) s.fab.free j || tractQuad j == q && (t.get F.FAB_SR_STAT_RELEASED).testBit q && !s.cfg.restoring.contains q))
        ∧ (∀ j : Nat, j < 256 → Sparse.get (fun _ => 0) t.fab.freeAt j = (if tractQuad j = q ∧ (t.get F.FAB_SR_STAT_RELEASED).testBit q = true ∧ s.cfg.restoring.contains q = false then s.epochStart s.now else Sparse.get (fun _ => 0) s.fab.freeAt j))
        ∧ t.fab = { s.fab with free := t.fab.free, freeAt := t.fab.freeAt }
        ∧ t = { s with regs := t.regs, spine := t.spine, sec := { s.sec with tapOut := t.sec.tapOut }, fab := t.fab, cfg := t.cfg }
        ∧ (∀ adr, adr ∉ ([R.FAB_SR_STAT, R.CFG_RESTORE_STAT] : List Nat) → t.rd adr = s.rd adr)) ∧
  (∀ (ini : Initiator) (q : Nat) (s : State),
      s.sends ini true R.CFG_RESTORE_STAT = true →
      s.get F.CFG_RESTORE_STAT_QUADRANT = q →
      s.cfg.held.contains q = false →
      ∃ t, exec (.restoreRelease ini) s = .next t
        ∧ t.respCode ini = 0
        ∧ t = { s with spine := t.spine, sec := { s.sec with tapOut := t.sec.tapOut } })

/-- Passes of the loader, streamed passes, the background verify and promotion (parts of R5, R18, R21, R23, R29, R36, R37, R175, R342, R344, R366, R367, R368, R369, R371, R378, R379, R380, R381, R382, R383, R385, R386, R387, R388, R390, R391, R394, R395, R396, R397, R398, R405, R406, R409, R420, R589). A pass ends, or a frame comes, at wheel time w. Rejected with a code and a stream offset: a primary pass leads to FALLBACK, CAUSE 0x11, PRIMARY_CODE, with every image field 0 and no frame record or key left; a golden one to QUARANTINE, CAUSE 0x12, GOLDEN_CODE, after the SAFE burst where a lane sends; REJECT_OFFSET holds the offset, and a device behind a head reports both. The order of checks is that of R379. Clauses that end a pass speak of states whose register file is canonical, as every step keeps it (O59). (1) What a slot offers: with a sector that is not sealed, SUSPECT 0x15; a plain image, with the whole slot for room; with another MAGIC, BAD_HEADER 0x11; a container whose directory fails its checks or names no member for position 0, CHAIN_DIR 0x19; else that member. A pass reads the primary slot, in FALLBACK SLOT0. (2) The first checks of an image, in order: an uncorrectable header, SOURCE 0x0E; BAD_HEADER 0x11; WRONG_DEVICE 0x01; NOT_FULL 0x18; WRONG_POSITION 0x12; TOO_LARGE 0x03; a key that does not unwrap, SEGMENT_TAG 0x07; each at offset 0. Then the segments; and after the last the hash of the stream, HASH 0x06, the checks across frames, INCOMPLETE 0x14 and SIGNATURE 0x05, at its length. (3) VERIFY_PASS_DONE, the first pass, of a slot that offers no image: rejected with the code, at offset 0. (4) Of an image: accepted, VERIFY goes to LOAD, CAUSE 0x10, and FALLBACK to its second pass, with HDR_HASH kept; or rejected where the checks say; or SHORT_STREAM where the slot ends first. It writes nothing. (5) It does nothing on a device that loads from upstream, in another mode, in the second pass, or 200 ms from the start of the pass on. (6) LOAD_PASS_DONE, the second pass, of a slot that offers no image: rejected with the code. (7) Of an image: with another HDR_HASH than the one accepted, PASS_MISMATCH 0x17 at offset 0; else judged as in VERIFY, records written as they pass; accepted, INIT with CAUSE 0x10. (8) It does nothing on a device that loads from upstream, in another mode, in the first pass, or from 200 ms on. (9) PASS_TIMEOUT when a pass has lasted 200 ms, behind a head from its BEGIN: rejected with PASS_TIMEOUT 0x16 at the bytes read. (10) Before then, in another mode, or while a device behind a head waits for a BEGIN: nothing. (11) READY_REPORT_SEND, first and then every 10 ms while a device behind a head that has its position waits for a BEGIN: REPORT READY to the head, with whether the golden member is awaited. (12) Else nothing. (13) The commands of CFG frames take the oldest frame that waits, where it is a CFG frame of their OP; else nothing happens. (14) CFG_BEGIN of the pass that is due, in FALLBACK a golden one: it opens now, with its LENGTH. (15) Another is dropped. (16) DATA, END and ABORT outside a pass are dropped. (17) From 200 ms after its BEGIN each ends the pass with PASS_TIMEOUT; a gap in the offsets of DATA, or an END before LENGTH, with SHORT_STREAM 0x02; an ABORT with ABORTED 0x0F; each at the bytes read. (18) CFG_DATA that follows: its bytes, up to LENGTH, join the pass; a check that they fail rejects it at once, in the second pass also a header other than the one accepted, PASS_MISMATCH. (19) CFG_END after LENGTH bytes: the pass is judged as that of a local device; the member has to be built for this position or for any. (20) UPD_GO while no background verify runs: it runs; GO reads 1, STATE RUNNING, CODE 0, STALE 0. (21) While one runs: nothing. (22) The staging slot, the one of SLOT1 and SLOT2 that is not primary: with a sector not sealed, SUSPECT at 0; a plain image is checked as in VERIFY; another MAGIC, BAD_HEADER; a container with a bad directory, CHAIN_DIR at 0; else the members of the directory one by one, each member once, and the first that fails tells. (23) UPD_DONE of the verify that runs: VERIFIED, or REJECTED with CODE and UPD_OFFSET; GO reads 0, source 825. (24) With none running: nothing. (25) PROMOTE of a staging slot that is VERIFIED and not STALE, where FWP_N or the protection map allows the journal write, no command waits for a compaction, and the journal half has room: a SLOT_SELECT record that names the slot and its image identifier, or the directory CRC of a container, is written after the locations that failed; source 826. (26) After three failed locations it is refused: PROMOTE_REFUSED, source 847. (27) With fewer than 8 free locations it waits for the compaction; PROMOTE reads 1. (28) Else it is refused: PROMOTE_REFUSED. Readings and choices of the model that it rests on: log entries 88, 89, 91, 92, 93, 171. -/
def Obligations.StartUpPasses : Prop :=
  (∀ (k : Nat) (d : List Nat) (s : State),
      d = s.cfBytes (0x30000000 + k * 0xE00000) 272 →
      (s.passSlot = if s.mode = M.fallback then 0 else s.primarySlot)
        ∧ ((∃ i : Nat, i < 224 ∧ (s.sector (224 * k + i)).state ≠ Fs.sealed) → s.ownImage k = .inl 0x15)
        ∧ ((∀ i : Nat, i < 224 → (s.sector (224 * k + i)).state = Fs.sealed) → fieldBE d 0 4 = 0x4336494D → s.ownImage k = .inr (0, 0xE00000))
        ∧ ((∀ i : Nat, i < 224 → (s.sector (224 * k + i)).state = Fs.sealed) → fieldBE d 0 4 ≠ 0x4336494D → fieldBE d 0 4 ≠ 0x43364348 → s.ownImage k = .inl 0x11)
        ∧ ((∀ i : Nat, i < 224 → (s.sector (224 * k + i)).state = Fs.sealed) → fieldBE d 0 4 = 0x43364348 → (fieldBE d 4 2 ≠ 1 ∨ fieldBE d 12 4 ≠ (crc32c (d.take 12 ++ (d.drop 16).take 256)).toNat ∨ (∃ p : Nat, p < 16 ∧ fieldBE d (16 + 16 * p) 4 ≠ 0 ∧ 0xE00000 < fieldBE d (16 + 16 * p) 4 + fieldBE d (20 + 16 * p) 4) ∨ fieldBE d 16 4 = 0) → s.ownImage k = .inl 0x19)
        ∧ ((∀ i : Nat, i < 224 → (s.sector (224 * k + i)).state = Fs.sealed) → fieldBE d 0 4 = 0x43364348 → fieldBE d 4 2 = 1 → fieldBE d 12 4 = (crc32c (d.take 12 ++ (d.drop 16).take 256)).toNat → (∀ p : Nat, p < 16 → fieldBE d (16 + 16 * p) 4 = 0 ∨ fieldBE d (16 + 16 * p) 4 + fieldBE d (20 + 16 * p) 4 ≤ 0xE00000) → fieldBE d 16 4 ≠ 0 → s.ownImage k = .inr (fieldBE d 16 4, fieldBE d 20 4))) ∧
  (∀ (bytes h : List Nat) (bad : Option Nat) (room len : Nat) (pos : Nat → Bool) (v : Verdict) (s : State),
      h = bytes.take 480 →
      len = fieldBE h 12 4 →
      v = (s.checkImage bytes bad room pos).2 →
      (bad.getD 480 < 480 → v = .reject 0x0E 0)
        ∧ (480 ≤ bad.getD 480 → bytes.length < 480 → v = .more)
        ∧ (480 ≤ bad.getD 480 → 480 ≤ bytes.length → headerLegal h = false → v = .reject 0x11 0)
        ∧ (480 ≤ bad.getD 480 → 480 ≤ bytes.length → headerLegal h = true → fieldBE h 6 2 ≠ 0x6128 → v = .reject 0x01 0)
        ∧ (480 ≤ bad.getD 480 → 480 ≤ bytes.length → headerLegal h = true → fieldBE h 6 2 = 0x6128 → fieldBE h 8 1 = 2 → v = .reject 0x18 0)
        ∧ (480 ≤ bad.getD 480 → 480 ≤ bytes.length → headerLegal h = true → fieldBE h 6 2 = 0x6128 → fieldBE h 8 1 = 1 → fieldBE h 9 1 ≠ 0xFF → pos (fieldBE h 9 1) = false → v = .reject 0x12 0)
        ∧ (480 ≤ bad.getD 480 → 480 ≤ bytes.length → headerLegal h = true → fieldBE h 6 2 = 0x6128 → fieldBE h 8 1 = 1 → (fieldBE h 9 1 = 0xFF ∨ pos (fieldBE h 9 1) = true) → (headerSizes h 224 = false ∨ room < 480 + len) → v = .reject 0x03 0)
        ∧ (480 ≤ bad.getD 480 → 480 ≤ bytes.length → headerLegal h = true → fieldBE h 6 2 = 0x6128 → fieldBE h 8 1 = 1 → (fieldBE h 9 1 = 0xFF ∨ pos (fieldBE h 9 1) = true) → headerSizes h 224 = true → 480 + len ≤ room → (s.unwrap h).isNone = true → v = .reject 0x07 0)
        ∧ (v = .ok → Config.sha384 (slice bytes 480 len) = slice h 32 48 ∧ s.signatureOk h = true ∧ passComplete h (s.checkImage bytes bad room pos).1.recs = true ∧ crossCheck (s.checkImage bytes bad room pos).1.recs (fun _ => 0) = .ok)) ∧
  (∀ (w : Nat) (bad : Option Nat) (c : Nat) (s : State),
      s.RegsCanonical →
      s.emn.upstream = false →
      (s.mode = M.verify ∨ s.mode = M.fallback) →
      s.cfg.boot.second = false →
      max s.now w < s.cfg.boot.start + 80000000 →
      s.ownImage s.passSlot = .inl c →
      ∃ t, exec (.verifyPassDone w bad) s = .next t
        ∧ (s.at_ w).passRejected t c 0 = true
        ∧ (t.mem = s.mem ∧ t.fab.cfg = s.fab.cfg ∧ t.flash = s.flash ∧ t.clk = s.clk ∧ t.supply = s.supply ∧ t.pending = s.pending)
        ∧ (s.mode = M.verify → s.cfg.boot.golden = false → t = { s with regs := t.regs, irq := t.irq, now := max s.now w, sessions := t.sessions, shadow := t.shadow, cfg := { s.cfg with recs := t.cfg.recs, keyTab := t.cfg.keyTab, keysFull := t.cfg.keysFull, boot := t.cfg.boot } })
        ∧ (∀ adr, t.mode = M.load → adr ∉ (modeRegs : List Nat) → t.rd adr = s.rd adr)
        ∧ (∀ adr, s.mode = M.verify → s.cfg.boot.golden = false → t.mode = M.fallback → adr ∉ (R.CFG_BOOT :: R.CFG_REJECT_OFFSET :: (List.range 8).map R.MEAS_CMP_STAT ++ modeRegs : List Nat) → t.rd adr = s.rd adr &&& ~~~BitVec.ofNat 32 (imageMask adr))) ∧
  (∀ (w : Nat) (bad : Option Nat) (o room : Nat) (s : State),
      s.RegsCanonical →
      s.emn.upstream = false →
      (s.mode = M.verify ∨ s.mode = M.fallback) →
      s.cfg.boot.second = false →
      max s.now w < s.cfg.boot.start + 80000000 →
      s.ownImage s.passSlot = .inr (o, room) →
      ∃ t, exec (.verifyPassDone w bad) s = .next t
        ∧ ((match ((s.at_ w).checkImage (s.cfBytes (slotBase s.passSlot + o) (min room (slotSize - o))) bad room fun p => p == 0).2 with | .ok => (s.at_ w).passVerified t (Config.sha384 (slice (s.cfBytes (slotBase s.passSlot + o) (min room (slotSize - o))) 0 384)) | .reject c off => (s.at_ w).passRejected t c off | .more => (s.at_ w).passRejected t 0x02 ((s.cfBytes (slotBase s.passSlot + o) (min room (slotSize - o))).length - 480)) = true)
        ∧ (t.mem = s.mem ∧ t.fab.cfg = s.fab.cfg ∧ t.flash = s.flash ∧ t.clk = s.clk ∧ t.supply = s.supply ∧ t.pending = s.pending)
        ∧ (s.mode = M.verify → s.cfg.boot.golden = false → t = { s with regs := t.regs, irq := t.irq, now := max s.now w, sessions := t.sessions, shadow := t.shadow, cfg := { s.cfg with recs := t.cfg.recs, keyTab := t.cfg.keyTab, keysFull := t.cfg.keysFull, boot := t.cfg.boot } })
        ∧ (∀ adr, t.mode = M.load → adr ∉ (modeRegs : List Nat) → t.rd adr = s.rd adr)
        ∧ (∀ adr, s.mode = M.verify → s.cfg.boot.golden = false → t.mode = M.fallback → adr ∉ (R.CFG_BOOT :: R.CFG_REJECT_OFFSET :: (List.range 8).map R.MEAS_CMP_STAT ++ modeRegs : List Nat) → t.rd adr = s.rd adr &&& ~~~BitVec.ofNat 32 (imageMask adr))) ∧
  (∀ (w : Nat) (bad : Option Nat) (s : State),
      (s.emn.upstream = true ∨ (s.mode ≠ M.verify ∧ s.mode ≠ M.fallback) ∨ s.cfg.boot.second = true ∨ s.cfg.boot.start + 80000000 ≤ max s.now w) →
      ∃ t, exec (.verifyPassDone w bad) s = .next t
        ∧ t = { s with now := max s.now w }) ∧
  (∀ (w : Nat) (bad : Option Nat) (c : Nat) (s : State),
      s.RegsCanonical →
      s.emn.upstream = false →
      (s.mode = M.load ∨ s.mode = M.fallback) →
      s.cfg.boot.second = true →
      max s.now w < s.cfg.boot.start + 80000000 →
      s.ownImage s.passSlot = .inl c →
      ∃ t, exec (.loadPassDone w bad) s = .next t
        ∧ (s.at_ w).passRejected t c 0 = true
        ∧ (t.mem = s.mem ∧ t.fab.cfg = s.fab.cfg ∧ t.flash = s.flash ∧ t.pending = s.pending)) ∧
  (∀ (w : Nat) (bad : Option Nat) (o room : Nat) (s : State),
      s.RegsCanonical →
      s.emn.upstream = false →
      (s.mode = M.load ∨ s.mode = M.fallback) →
      s.cfg.boot.second = true →
      max s.now w < s.cfg.boot.start + 80000000 →
      s.ownImage s.passSlot = .inr (o, room) →
      ∃ t, exec (.loadPassDone w bad) s = .next t
        ∧ (if 480 ≤ (s.cfBytes (slotBase s.passSlot + o) (min room (slotSize - o))).length ∧ 480 ≤ bad.getD 480 ∧ Config.sha384 (slice ((s.cfBytes (slotBase s.passSlot + o) (min room (slotSize - o))).take 480) 0 384) ≠ s.cfg.boot.hash then (s.at_ w).passRejected t 0x17 0 = true else (match ((s.at_ w).checkImage (s.cfBytes (slotBase s.passSlot + o) (min room (slotSize - o))) bad room fun p => p == 0).2 with | .ok => (s.at_ w).passLoaded t ((s.cfBytes (slotBase s.passSlot + o) (min room (slotSize - o))).take 480) ((s.at_ w).checkImage (s.cfBytes (slotBase s.passSlot + o) (min room (slotSize - o))) bad room fun p => p == 0).1 s.passSlot (slotBase s.passSlot + o) | .reject c off => (s.at_ w).passRejected t c off | .more => (s.at_ w).passRejected t 0x02 ((s.cfBytes (slotBase s.passSlot + o) (min room (slotSize - o))).length - 480)) = true)
        ∧ t.pending = s.pending) ∧
  (∀ (w : Nat) (bad : Option Nat) (s : State),
      (s.emn.upstream = true ∨ (s.mode ≠ M.load ∧ s.mode ≠ M.fallback) ∨ s.cfg.boot.second = false ∨ s.cfg.boot.start + 80000000 ≤ max s.now w) →
      ∃ t, exec (.loadPassDone w bad) s = .next t
        ∧ t = { s with now := max s.now w }) ∧
  (∀ (w read : Nat) (s : State),
      s.RegsCanonical →
      (s.mode = M.verify ∨ s.mode = M.load ∨ s.mode = M.fallback) →
      s.cfg.boot.start + 80000000 ≤ max s.now w →
      (s.emn.upstream = false ∨ s.cfg.boot.open_ = true) →
      ∃ t, exec (.passTimeout w read) s = .next t
        ∧ (s.at_ w).passRejected t 0x16 (if s.emn.upstream = true then s.cfg.boot.bytes.length - 480 else read) = true
        ∧ (t.mem = s.mem ∧ t.fab.cfg = s.fab.cfg ∧ t.flash = s.flash ∧ t.pending = s.pending)) ∧
  (∀ (w read : Nat) (s : State),
      (¬ (s.mode = M.verify ∨ s.mode = M.load ∨ s.mode = M.fallback) ∨ max s.now w < s.cfg.boot.start + 80000000 ∨ s.emn.upstream = true ∧ s.cfg.boot.open_ = false) →
      ∃ t, exec (.passTimeout w read) s = .next t
        ∧ t = { s with now := max s.now w }) ∧
  (∀ (w : Nat) (s : State),
      (s.emn.upstream = true ∧ s.bit F.EMN_POS_VALID = true ∧ (s.mode = M.verify ∨ s.mode = M.fallback) ∧ s.cfg.boot.open_ = false ∧ s.cfg.boot.second = false ∧ (s.cfg.readyAt = 0 ∨ s.cfg.readyAt + 4000000 ≤ max s.now w)) →
      0 < s.get F.EMN_POS_POS →
      ∃ t, exec (.readyReportSend w) s = .next t
        ∧ t.cfg = { s.cfg with readyAt := max s.now w }
        ∧ ((s.emnPort 0).window.length < 8 → (t.emnPort 0).window = (s.emnPort 0).window ++ [((s.emnPort 0).seqOut, .data 4 0 (s.get F.EMN_POS_POS) [0x10, if s.mode = M.fallback then 1 else 0])])
        ∧ (8 ≤ (s.emnPort 0).window.length → (t.emnPort 0).backlog = (s.emnPort 0).backlog ++ [.data 4 0 (s.get F.EMN_POS_POS) [0x10, if s.mode = M.fallback then 1 else 0]])
        ∧ t = { s with now := max s.now w, emnPorts := t.emnPorts, cfg := t.cfg }
        ∧ (∀ key, key ∉ ([0] : List Nat) → t.emnPort key = s.emnPort key)) ∧
  (∀ (w : Nat) (s : State),
      ¬ (s.emn.upstream = true ∧ s.bit F.EMN_POS_VALID = true ∧ (s.mode = M.verify ∨ s.mode = M.fallback) ∧ s.cfg.boot.open_ = false ∧ s.cfg.boot.second = false ∧ (s.cfg.readyAt = 0 ∨ s.cfg.readyAt + 4000000 ≤ max s.now w)) →
      ∃ t, exec (.readyReportSend w) s = .next t
        ∧ t = { s with now := max s.now w }) ∧
  (∀ (w op : Nat) (i : Instr) (s : State),
      (op, i) ∈ ([(1, .cfgBegin w), (2, .cfgData w), (3, .cfgEnd w), (4, .cfgAbort w)] : List (Nat × Instr)) →
      (match s.emn.inbox with | [] => true | x :: _ => x.type != 1 || x.payload.headD 0 != op) = true →
      ∃ t, exec i s = .next t
        ∧ t = s) ∧
  (∀ (w : Nat) (x : EmnIn) (r : List EmnIn) (s : State),
      s.emn.inbox = x :: r →
      x.type = 1 →
      x.payload.headD 0 = 1 →
      (s.emn.upstream = true ∧ (s.mode = M.verify ∨ s.mode = M.load ∨ s.mode = M.fallback) ∧ fieldBE x.payload 1 1 % 4 = (if s.cfg.boot.second = true then 2 else 1) ∧ (s.mode = M.fallback → 128 ≤ fieldBE x.payload 1 1)) →
      ∃ t, exec (.cfgBegin w) s = .next t
        ∧ t = { s with now := max s.now w, emn := { s.emn with inbox := r }, cfg := { s.cfg with boot := { s.cfg.boot with golden := decide (128 ≤ fieldBE x.payload 1 1), open_ := true, start := max s.now w, length := fieldBE x.payload 8 4, bytes := [] } } }) ∧
  (∀ (w : Nat) (x : EmnIn) (r : List EmnIn) (s : State),
      s.emn.inbox = x :: r →
      x.type = 1 →
      x.payload.headD 0 = 1 →
      ¬ (s.emn.upstream = true ∧ (s.mode = M.verify ∨ s.mode = M.load ∨ s.mode = M.fallback) ∧ fieldBE x.payload 1 1 % 4 = (if s.cfg.boot.second = true then 2 else 1) ∧ (s.mode = M.fallback → 128 ≤ fieldBE x.payload 1 1)) →
      ∃ t, exec (.cfgBegin w) s = .next t
        ∧ t = { s with now := max s.now w, emn := { s.emn with inbox := r } }) ∧
  (∀ (w op : Nat) (i : Instr) (x : EmnIn) (r : List EmnIn) (s : State),
      (op, i) ∈ ([(2, .cfgData w), (3, .cfgEnd w), (4, .cfgAbort w)] : List (Nat × Instr)) →
      s.emn.inbox = x :: r →
      x.type = 1 →
      x.payload.headD 0 = op →
      (s.cfg.boot.open_ = false ∨ ¬ (s.mode = M.verify ∨ s.mode = M.load ∨ s.mode = M.fallback)) →
      ∃ t, exec i s = .next t
        ∧ t = { s with now := max s.now w, emn := { s.emn with inbox := r } }) ∧
  (∀ (w op : Nat) (i : Instr) (x : EmnIn) (r : List EmnIn) (s : State),
      (op, i) ∈ ([(2, .cfgData w), (3, .cfgEnd w), (4, .cfgAbort w)] : List (Nat × Instr)) →
      s.emn.inbox = x :: r →
      x.type = 1 →
      x.payload.headD 0 = op →
      s.RegsCanonical →
      s.cfg.boot.open_ = true →
      (s.mode = M.verify ∨ s.mode = M.load ∨ s.mode = M.fallback) →
      (s.cfg.boot.start + 80000000 ≤ max s.now w ∨ op = 4 ∨ op = 2 ∧ fieldBE x.payload 4 4 ≠ s.cfg.boot.bytes.length ∨ op = 3 ∧ s.cfg.boot.bytes.length < s.cfg.boot.length) →
      ∃ t, exec i s = .next t
        ∧ (s.at_ w).passRejected t (if s.cfg.boot.start + 80000000 ≤ max s.now w then 0x16 else if op = 4 then 0x0F else 0x02) (s.cfg.boot.bytes.length - 480) = true
        ∧ (t.mem = s.mem ∧ t.fab.cfg = s.fab.cfg ∧ t.flash = s.flash ∧ t.pending = s.pending)
        ∧ t.emn = { s.emn with inbox := t.emn.inbox }
        ∧ (0 < s.get F.EMN_POS_POS → t.emn.inbox = r)) ∧
  (∀ (w : Nat) (x : EmnIn) (r : List EmnIn) (s : State),
      s.emn.inbox = x :: r →
      x.type = 1 →
      x.payload.headD 0 = 2 →
      s.RegsCanonical →
      s.cfg.boot.open_ = true →
      (s.mode = M.verify ∨ s.mode = M.load ∨ s.mode = M.fallback) →
      max s.now w < s.cfg.boot.start + 80000000 →
      fieldBE x.payload 4 4 = s.cfg.boot.bytes.length →
      ∃ t, exec (.cfgData w) s = .next t
        ∧ (if s.cfg.boot.second = true ∧ 480 ≤ ((s.cfg.boot.bytes ++ x.payload.drop 8).take s.cfg.boot.length).length ∧ Config.sha384 (slice (((s.cfg.boot.bytes ++ x.payload.drop 8).take s.cfg.boot.length).take 480) 0 384) ≠ s.cfg.boot.hash then (s.at_ w).passRejected t 0x17 0 = true else (match ((s.at_ w).checkImage ((s.cfg.boot.bytes ++ x.payload.drop 8).take s.cfg.boot.length) none s.cfg.boot.length fun p => p == s.get F.EMN_POS_POS).2 with | .reject c off => (s.at_ w).passRejected t c off | _ => decide (t = { s with now := max s.now w, emn := { s.emn with inbox := r }, cfg := { s.cfg with boot := { s.cfg.boot with bytes := ((s.cfg.boot.bytes ++ x.payload.drop 8).take s.cfg.boot.length) } } })) = true)
        ∧ (s.cfg.boot.second = false → t.mem = s.mem ∧ t.fab.cfg = s.fab.cfg)
        ∧ t.pending = s.pending) ∧
  (∀ (w : Nat) (x : EmnIn) (r : List EmnIn) (s : State),
      s.emn.inbox = x :: r →
      x.type = 1 →
      x.payload.headD 0 = 3 →
      s.RegsCanonical →
      s.cfg.boot.open_ = true →
      (s.mode = M.verify ∨ s.mode = M.load ∨ s.mode = M.fallback) →
      max s.now w < s.cfg.boot.start + 80000000 →
      s.cfg.boot.length ≤ s.cfg.boot.bytes.length →
      ∃ t, exec (.cfgEnd w) s = .next t
        ∧ (if s.cfg.boot.second = true ∧ 480 ≤ s.cfg.boot.bytes.length ∧ Config.sha384 (slice (s.cfg.boot.bytes.take 480) 0 384) ≠ s.cfg.boot.hash then (s.at_ w).passRejected t 0x17 0 = true else (match ((s.at_ w).checkImage s.cfg.boot.bytes none s.cfg.boot.length fun p => p == s.get F.EMN_POS_POS).2 with | .reject c off => (s.at_ w).passRejected t c off | .more => (s.at_ w).passRejected t 0x02 (s.cfg.boot.bytes.length - 480) | .ok => if s.cfg.boot.second = true then (s.at_ w).passLoaded t (s.cfg.boot.bytes.take 480) ((s.at_ w).checkImage s.cfg.boot.bytes none s.cfg.boot.length fun p => p == s.get F.EMN_POS_POS).1 3 0 else (s.at_ w).passVerified t (Config.sha384 (slice s.cfg.boot.bytes 0 384))) = true)
        ∧ (s.cfg.boot.second = false → t.mem = s.mem ∧ t.fab.cfg = s.fab.cfg)
        ∧ t.pending = s.pending) ∧
  (∀ (ini : Initiator) (s : State),
      s.sends ini true R.CFG_UPD_CTL = true →
      s.get F.CFG_UPD_STAT_STATE ≠ 1 →
      ∃ t, exec (.updGo ini) s = .next t
        ∧ t.respCode ini = 0
        ∧ t.bit F.CFG_UPD_CTL_GO = true
        ∧ t.bit F.CFG_UPD_CTL_PROMOTE = s.bit F.CFG_UPD_CTL_PROMOTE
        ∧ t.get F.CFG_UPD_STAT_STATE = 1
        ∧ t.get F.CFG_UPD_STAT_CODE = 0
        ∧ t.bit F.CFG_UPD_STAT_STALE = false
        ∧ t.bit F.CFG_UPD_STAT_PROMOTE_REFUSED = s.bit F.CFG_UPD_STAT_PROMOTE_REFUSED
        ∧ t = { s with regs := t.regs, spine := t.spine, sec := { s.sec with tapOut := t.sec.tapOut } }
        ∧ (∀ adr, adr ∉ ([R.CFG_UPD_CTL, R.CFG_UPD_STAT] : List Nat) → t.rd adr = s.rd adr)) ∧
  (∀ (ini : Initiator) (s : State),
      s.sends ini true R.CFG_UPD_CTL = true →
      s.get F.CFG_UPD_STAT_STATE = 1 →
      ∃ t, exec (.updGo ini) s = .next t
        ∧ t.respCode ini = 0
        ∧ t = { s with spine := t.spine, sec := { s.sec with tapOut := t.sec.tapOut } }) ∧
  (∀ (k : Nat) (bad : Option Nat) (d : List Nat) (s : State),
      k = s.stagingSlot →
      d = s.cfBytes (0x30000000 + k * 0xE00000) 272 →
      (s.stagingSlot = if s.bit F.CFG_SLOT_SEL_PRIMARY = true then 1 else 2)
        ∧ ((∃ i : Nat, i < 224 ∧ (s.sector (224 * k + i)).state ≠ Fs.sealed) → s.updCheck k bad = some (0x15, 0))
        ∧ ((∀ i : Nat, i < 224 → (s.sector (224 * k + i)).state = Fs.sealed) → fieldBE d 0 4 = 0x4336494D → s.updCheck k bad = s.updImage k 0 0xE00000 bad (fun p => p == s.get F.EMN_POS_POS) false)
        ∧ ((∀ i : Nat, i < 224 → (s.sector (224 * k + i)).state = Fs.sealed) → fieldBE d 0 4 ≠ 0x4336494D → fieldBE d 0 4 ≠ 0x43364348 → s.updCheck k bad = some (0x11, 0))
        ∧ ((∀ i : Nat, i < 224 → (s.sector (224 * k + i)).state = Fs.sealed) → fieldBE d 0 4 = 0x43364348 → dirOk d = false → s.updCheck k bad = some (0x19, 0))
        ∧ ((∀ i : Nat, i < 224 → (s.sector (224 * k + i)).state = Fs.sealed) → fieldBE d 0 4 = 0x43364348 → dirOk d = true → s.updCheck k bad = ((List.range 16).filterMap fun p => dirMember d p).eraseDups.findSome? fun m => s.updImage k m.1 m.2 bad (fun p => dirMember d p == some m) true)) ∧
  (∀ (w : Nat) (bad : Option Nat) (s : State),
      s.get F.CFG_UPD_STAT_STATE = 1 →
      ∃ t, exec (.updDone w bad) s = .next t
        ∧ ((match ((s.at_ w).set F.CFG_UPD_CTL_GO 0).updCheck s.stagingSlot bad with | none => decide (t.get F.CFG_UPD_STAT_STATE = 2 ∧ t.rdN R.CFG_UPD_OFFSET = 0 ∧ t.get F.CFG_UPD_STAT_CODE = s.get F.CFG_UPD_STAT_CODE) | some (c, o) => decide (t.get F.CFG_UPD_STAT_STATE = 3 ∧ t.get F.CFG_UPD_STAT_CODE = c % 256 ∧ t.rdN R.CFG_UPD_OFFSET = o % 2 ^ 32)) = true)
        ∧ t.bit F.CFG_UPD_CTL_GO = false
        ∧ t.bit F.CFG_UPD_CTL_PROMOTE = s.bit F.CFG_UPD_CTL_PROMOTE
        ∧ (t.bit F.CFG_UPD_STAT_STALE = s.bit F.CFG_UPD_STAT_STALE ∧ t.bit F.CFG_UPD_STAT_PROMOTE_REFUSED = s.bit F.CFG_UPD_STAT_PROMOTE_REFUSED)
        ∧ t.isPending 825 = true
        ∧ t = { s with regs := t.regs, irq := t.irq, now := max s.now w }
        ∧ (∀ adr, adr ∉ (R.CFG_UPD_CTL :: R.CFG_UPD_STAT :: R.CFG_UPD_OFFSET :: coalesced : List Nat) → t.rd adr = s.rd adr)
        ∧ (∀ num dr, num ∉ ([825] : List Nat) → t.slot num dr = s.slot num dr)) ∧
  (∀ (w : Nat) (bad : Option Nat) (s : State),
      s.get F.CFG_UPD_STAT_STATE ≠ 1 →
      ∃ t, exec (.updDone w bad) s = .next t
        ∧ t = { s with now := max s.now w }) ∧
  (∀ (ini : Initiator) (fwp : Bool) (jfails : Fin 4) (s : State),
      s.sends ini true R.CFG_UPD_CTL = true →
      s.get F.CFG_UPD_STAT_STATE = 2 →
      s.bit F.CFG_UPD_STAT_STALE = false →
      s.flash.after = none →
      (fwp = true ∨ s.bitAt (R.FLASH_PROT_CF 23) 31 = false) →
      8 ≤ s.journalHalf.free →
      jfails.val < 3 →
      ∃ t, exec (.promote ini fwp jfails) s = .next t
        ∧ t.respCode ini = 0
        ∧ t.primaryNow = s.stagingSlot
        ∧ t.flash.select = some ([s.stagingSlot, 0, 0, 0, 0, 0, 0, 0] ++ (if numBE (s.cfBytes (0x30000000 + s.stagingSlot * 0xE00000) 4) = 0x43364348 then bytesLE 8 (numBE (s.cfBytes (0x30000000 + s.stagingSlot * 0xE00000 + 12) 4)) else bytesLE 8 (numBE (s.cfBytes (0x30000000 + s.stagingSlot * 0xE00000 + 16) 8))))
        ∧ t.journalHalf = { s.journalHalf with recs := s.journalHalf.recs ++ List.replicate jfails.val none ++ [some { type := 5, sector := 0xFFFF, seq := s.flash.seq + 1, erases := 0, data := t.flash.select.getD [] }] }
        ∧ t.isPending 826 = true
        ∧ t.flash = { s.flash with fwp := fwp, seq := s.flash.seq + 1, select := t.flash.select, j0 := t.flash.j0, j1 := t.flash.j1 }
        ∧ (s.flash.half = true → t.flash.j0 = s.flash.j0)
        ∧ (s.flash.half = false → t.flash.j1 = s.flash.j1)
        ∧ t = { s with regs := t.regs, irq := t.irq, flash := t.flash, spine := t.spine, sec := { s.sec with tapOut := t.sec.tapOut } }
        ∧ (∀ adr, adr ∉ (coalesced : List Nat) → t.rd adr = s.rd adr)
        ∧ (∀ num dr, num ∉ ([826] : List Nat) → t.slot num dr = s.slot num dr)) ∧
  (∀ (ini : Initiator) (fwp : Bool) (jfails : Fin 4) (s : State),
      s.sends ini true R.CFG_UPD_CTL = true →
      s.get F.CFG_UPD_STAT_STATE = 2 →
      s.bit F.CFG_UPD_STAT_STALE = false →
      s.flash.after = none →
      (fwp = true ∨ s.bitAt (R.FLASH_PROT_CF 23) 31 = false) →
      8 ≤ s.journalHalf.free →
      jfails.val = 3 →
      ∃ t, exec (.promote ini fwp jfails) s = .next t
        ∧ t.respCode ini = 0
        ∧ t.bit F.CFG_UPD_STAT_PROMOTE_REFUSED = true
        ∧ (t.get F.CFG_UPD_STAT_STATE = 2 ∧ t.bit F.CFG_UPD_STAT_STALE = false ∧ t.get F.CFG_UPD_STAT_CODE = s.get F.CFG_UPD_STAT_CODE)
        ∧ t.isPending 847 = true
        ∧ t = { s with regs := t.regs, irq := t.irq, flash := { s.flash with fwp := fwp }, spine := t.spine, sec := { s.sec with tapOut := t.sec.tapOut } }
        ∧ (∀ adr, adr ∉ (R.CFG_UPD_STAT :: coalesced : List Nat) → t.rd adr = s.rd adr)
        ∧ (∀ num dr, num ∉ ([847] : List Nat) → t.slot num dr = s.slot num dr)) ∧
  (∀ (ini : Initiator) (fwp : Bool) (jfails : Fin 4) (s : State),
      s.sends ini true R.CFG_UPD_CTL = true →
      s.get F.CFG_UPD_STAT_STATE = 2 →
      s.bit F.CFG_UPD_STAT_STALE = false →
      s.flash.after = none →
      (fwp = true ∨ s.bitAt (R.FLASH_PROT_CF 23) 31 = false) →
      s.journalHalf.free < 8 →
      ∃ t, exec (.promote ini fwp jfails) s = .next t
        ∧ t.respCode ini = 0
        ∧ t.bit F.CFG_UPD_CTL_PROMOTE = true
        ∧ t.bit F.CFG_UPD_CTL_GO = s.bit F.CFG_UPD_CTL_GO
        ∧ t.bit F.FLASH_STAT_COMPACTING = true
        ∧ t.flash = { s.flash with fwp := fwp, after := some { op := 0xF, addr := 0 } }
        ∧ t = { s with regs := t.regs, flash := t.flash, spine := t.spine, sec := { s.sec with tapOut := t.sec.tapOut } }
        ∧ (∀ adr, adr ∉ ([R.CFG_UPD_CTL, R.FLASH_STAT] : List Nat) → t.rd adr = s.rd adr)) ∧
  (∀ (ini : Initiator) (fwp : Bool) (jfails : Fin 4) (s : State),
      s.sends ini true R.CFG_UPD_CTL = true →
      (s.get F.CFG_UPD_STAT_STATE ≠ 2 ∨ s.bit F.CFG_UPD_STAT_STALE = true ∨ s.flash.after.isSome = true ∨ (fwp = false ∧ s.bitAt (R.FLASH_PROT_CF 23) 31 = true)) →
      ∃ t, exec (.promote ini fwp jfails) s = .next t
        ∧ t.respCode ini = 0
        ∧ t.bit F.CFG_UPD_STAT_PROMOTE_REFUSED = true
        ∧ (t.get F.CFG_UPD_STAT_STATE = s.get F.CFG_UPD_STAT_STATE ∧ t.bit F.CFG_UPD_STAT_STALE = s.bit F.CFG_UPD_STAT_STALE ∧ t.get F.CFG_UPD_STAT_CODE = s.get F.CFG_UPD_STAT_CODE)
        ∧ t = { s with regs := t.regs, flash := { s.flash with fwp := fwp }, spine := t.spine, sec := { s.sec with tapOut := t.sec.tapOut } }
        ∧ (∀ adr, adr ∉ ([R.CFG_UPD_STAT] : List Nat) → t.rd adr = s.rd adr))

/-- What the head of a chain streams, aborts, answers and records (parts of R281, R283, R284, R285, R292, R346, R357, R366, R385, R386, R387, R388, R389, R390, R392, R393, R397, R398, R414, R416). A frame is sent as the first clause says. CHAIN_POSp holds RESULT, CODE and STREAMS of position p. A position leaves the pass: MASK names it no more; with no position left the pass ends, ACTIVE reads 0, and source 828 is raised when no position that sent READY is left to serve. What a clause does not name stays. (1) A data frame of the device, with its position as source: to 0xFF on both ports, to a higher position on DN, to a lower one on UP; it joins the 8 frames of a port that wait for their ACK, or waits behind them; one to itself is taken in. (2) CHAIN_PASS_SEND not at the head, outside the modes in which it serves, or when END is sent: nothing. (3) In a pass: DATA with the next 1,016 bytes of the member, or what is left, read from CFLASH; with MASK in a broadcast. (4) After the last byte, END. (5) Between passes: after a first pass that positions passed, the second pass to them. (6) Then a position that failed: its member of the golden container, to it alone. (7) Without one it is FAILED, or NO_MEMBER where the primary container names none either; source 829. (8) With CHAIN_CTL.HOLD = 1, or with no position that sent READY, nothing more is served. (9) Else one of those that sent READY is picked, at first the one whose member names the lowest position, later the first; where it does not await the golden member and the container names a member, that member goes to all that sent READY and name it, later to it alone. (10) Where it awaits the golden member, or the container names none (GOLDEN_ONLY), its member of the golden container goes to it alone. (11) Without one there it fails: NO_MEMBER where neither container names one, else FAILED. (12) CHAIN_ACK_STALL, no ACK on DN for 10 ms with frames outstanding: ABORT goes to every position of the pass, and the pass ends. From a primary pass they are ABORTED, to be served from the golden container; from a golden one FAILED, source 829. (13) Else, or with no position in the pass, nothing. (14) CHAIN_REPORT_TIMEOUT, the report of a position missing 10 ms after END: ABORT goes to it, and it alone leaves the pass; ABORTED or FAILED as above. (15) Else nothing. (16) EMN_REPORT_RX with no REPORT as the oldest frame that waits: nothing; not at the head it is dropped. (17) At the head each raises source 774. Code 1 gives the chain length, code 2 sets CHAIN_LONG. (18) READY, 0x10, of a position that is not being served: WAITING, to be served. (19) READY of another, VERIFIED (0x11) or REJECTED (0x12) of one that is not in the pass, VERIFIED in a second pass, and a code with no act: CODE alone. (20) VERIFIED of one in the first pass: it leaves it, to take part in the second. (21) REJECTED of one in a pass: it leaves it; from a primary pass it is served from the golden container next, from a golden one it is FAILED, source 829. (22) LOADED: source 827; RESULT is LOADED, or LOADED_GOLDEN, but GOLDEN_ONLY stays; a position in the pass leaves it. (23) Of one outside the pass. (24) QUARANTINED: source 827; the position is FAILED, source 829 if it was not; it leaves the pass. (25) Of one outside the pass. (26) A load result of no position, or outside the modes in which the head serves, only raises 774. (27) CFG_REPAIR_REQ at the head, from INIT on, of a position that has loaded, for 16 to 8,192 bytes: the bytes of the member from the slot that supplied it, in frames of at most 1,016. (28) Any other is dropped without an answer. (29) CFG_REPAIR_DATA: its bytes join those that have come for the repair that waits; with none it is dropped. (30) Each of the two takes the oldest frame that waits, where it is a CFG frame of its OP; else nothing happens. Readings and choices of the model that it rests on: log entries 68, 85, 90. -/
def Obligations.TheHeadServesTheChain : Prop :=
  (∀ (type dst : Nat) (pl : List Nat) (f : EmnFrame) (u s : State),
      f = .data type dst (s.get F.EMN_POS_POS) pl →
      u = s.emnData type dst pl →
      (∀ q ∈ ([0, 1] : List Nat), (dst = 255 ∨ s.get F.EMN_POS_POS < dst ∧ q = 1 ∨ dst < s.get F.EMN_POS_POS ∧ q = 0) → ((s.emnPort q).window.length < 8 → (u.emnPort q).window = (s.emnPort q).window ++ [((s.emnPort q).seqOut, f)] ∧ (u.emnPort q).seqOut = ((s.emnPort q).seqOut + 1) % 256 ∧ (u.emnPort q).backlog = (s.emnPort q).backlog) ∧ (8 ≤ (s.emnPort q).window.length → u.emnPort q = { s.emnPort q with backlog := (s.emnPort q).backlog ++ [f] }))
        ∧ (∀ q ∈ ([0, 1] : List Nat), ¬ (dst = 255 ∨ s.get F.EMN_POS_POS < dst ∧ q = 1 ∨ dst < s.get F.EMN_POS_POS ∧ q = 0) → u.emnPort q = s.emnPort q)
        ∧ u.emn.inbox = (if dst ≠ 255 ∧ dst = s.get F.EMN_POS_POS then s.emn.inbox ++ [⟨2, type, s.get F.EMN_POS_POS, pl⟩] else s.emn.inbox)
        ∧ u = { s with emn := { s.emn with inbox := u.emn.inbox }, emnPorts := u.emnPorts }) ∧
  (∀ (w : Nat) (s : State),
      (s.emn.head = false ∨ s.alive = false ∨ s.cfg.chain.active = true ∧ s.cfg.chain.next = none) →
      ∃ t, exec (.chainPassSend w) s = .next t
        ∧ t = { s with now := max s.now w }) ∧
  (∀ (w o : Nat) (s : State),
      s.emn.head = true →
      s.alive = true →
      s.cfg.chain.active = true →
      s.cfg.chain.next = some o →
      o < s.cfg.chain.len →
      ∃ t, exec (.chainPassSend w) s = .next t
        ∧ t.cfg = { s.cfg with chain := { s.cfg.chain with next := some (o + min 1016 (s.cfg.chain.len - o)) } }
        ∧ (let u := (s.at_ w).emnData 1 s.cfg.chain.dst ([2, (if s.cfg.chain.golden = true then 128 else 0) + (if s.cfg.chain.second = true then 2 else 1)] ++ bytesBE 2 (if s.cfg.chain.dst = 255 then maskBits s.cfg.chain.mask else 0) ++ bytesBE 4 o ++ s.cfBytes (slotBase s.cfg.chain.slot + s.cfg.chain.off + o) (min 1016 (s.cfg.chain.len - o))); t.emnPorts = u.emnPorts ∧ t.emn = u.emn)
        ∧ (t.flash.lastRead = max s.now w ∧ t.flashRuns = false)
        ∧ t = { s with regs := t.regs, now := max s.now w, emn := t.emn, emnPorts := t.emnPorts, flash := t.flash, cfg := t.cfg }
        ∧ (∀ adr, adr ∉ ([R.FLASH_STAT] : List Nat) → t.rd adr = s.rd adr)) ∧
  (∀ (w o : Nat) (s : State),
      s.emn.head = true →
      s.alive = true →
      s.cfg.chain.active = true →
      s.cfg.chain.next = some o →
      s.cfg.chain.len ≤ o →
      ∃ t, exec (.chainPassSend w) s = .next t
        ∧ t.cfg = { s.cfg with chain := { s.cfg.chain with next := none, ended := some (max s.now w) } }
        ∧ (let u := (s.at_ w).emnData 1 s.cfg.chain.dst ([3, (if s.cfg.chain.golden = true then 128 else 0) + (if s.cfg.chain.second = true then 2 else 1), 0, 0] ++ bytesBE 4 o); t.emnPorts = u.emnPorts ∧ t.emn = u.emn)
        ∧ t = { s with now := max s.now w, emn := t.emn, emnPorts := t.emnPorts, cfg := t.cfg }) ∧
  (∀ (w : Nat) (s : State),
      s.emn.head = true →
      s.alive = true →
      s.cfg.chain.active = false →
      s.cfg.chain.passed ≠ [] →
      s.cfg.chain.second = false →
      ∃ t, exec (.chainPassSend w) s = .next t
        ∧ (s.at_ w).passBegun t s.cfg.chain.slot (s.cfg.chain.off, s.cfg.chain.len) s.cfg.chain.golden true s.cfg.chain.dst s.cfg.chain.passed = true
        ∧ (t.cfg.chain.ready = s.cfg.chain.ready ∧ t.cfg.chain.retry = s.cfg.chain.retry)
        ∧ t = { s with regs := t.regs, now := max s.now w, emn := t.emn, emnPorts := t.emnPorts, cfg := t.cfg }
        ∧ (∀ adr, adr ∉ (R.CFG_CHAIN_STAT :: s.cfg.chain.passed.map R.CFG_CHAIN_POS : List Nat) → t.rd adr = s.rd adr)) ∧
  (∀ (w : Nat) (p : Nat) (r : List Nat) (m : Nat × Nat) (s : State),
      s.emn.head = true →
      s.alive = true →
      s.cfg.chain.active = false →
      (s.cfg.chain.passed = [] ∨ s.cfg.chain.second = true) →
      s.cfg.chain.retry = p :: r →
      ((s.directory 0).bind fun d => dirMember d p) = some m →
      ∃ t, exec (.chainPassSend w) s = .next t
        ∧ (s.at_ w).passBegun t 0 m true false p [p] = true
        ∧ (t.cfg.chain.ready = s.cfg.chain.ready ∧ t.cfg.chain.retry = r)
        ∧ t = { s with regs := t.regs, now := max s.now w, emn := t.emn, emnPorts := t.emnPorts, cfg := t.cfg }
        ∧ (∀ adr, adr ∉ (R.CFG_CHAIN_STAT :: [R.CFG_CHAIN_POS p] : List Nat) → t.rd adr = s.rd adr)) ∧
  (∀ (w : Nat) (p : Nat) (r : List Nat) (s : State),
      s.emn.head = true →
      s.alive = true →
      s.cfg.chain.active = false →
      (s.cfg.chain.passed = [] ∨ s.cfg.chain.second = true) →
      s.cfg.chain.retry = p :: r →
      ((s.directory 0).bind fun d => dirMember d p) = none →
      ∃ t, exec (.chainPassSend w) s = .next t
        ∧ t.get (F.CFG_CHAIN_POS_RESULT p) = (if s.get (F.CFG_CHAIN_POS_RESULT p) = 3 then 6 else 5)
        ∧ (t.get (F.CFG_CHAIN_POS_CODE p) = s.get (F.CFG_CHAIN_POS_CODE p) ∧ t.get (F.CFG_CHAIN_POS_STREAMS p) = s.get (F.CFG_CHAIN_POS_STREAMS p))
        ∧ t.isPending 829 = true
        ∧ t = { s with regs := t.regs, irq := t.irq, now := max s.now w, cfg := t.cfg }
        ∧ (∀ adr, adr ∉ (R.CFG_CHAIN_POS p :: coalesced : List Nat) → t.rd adr = s.rd adr)
        ∧ (∀ num dr, num ∉ ([829] : List Nat) → t.slot num dr = s.slot num dr)
        ∧ t.cfg = { s.cfg with chain := { s.cfg.chain with retry := r } }) ∧
  (∀ (w : Nat) (s : State),
      s.emn.head = true →
      s.alive = true →
      s.cfg.chain.active = false →
      (s.cfg.chain.passed = [] ∨ s.cfg.chain.second = true) →
      s.cfg.chain.retry = [] →
      (s.bit F.CFG_CHAIN_CTL_HOLD = true ∨ s.cfg.chain.ready = []) →
      ∃ t, exec (.chainPassSend w) s = .next t
        ∧ t = { s with now := max s.now w }) ∧
  (∀ (w : Nat) (p : Nat) (g : Bool) (l1 l2 : List (Nat × Bool)) (m : Nat × Nat) (to_ : List Nat) (s : State),
      s.emn.head = true →
      s.alive = true →
      s.cfg.chain.active = false →
      (s.cfg.chain.passed = [] ∨ s.cfg.chain.second = true) →
      s.cfg.chain.retry = [] →
      s.bit F.CFG_CHAIN_CTL_HOLD = false →
      s.cfg.chain.ready = l1 ++ (p, g) :: l2 →
      (if s.cfg.chain.later = true then l1 = [] else (∀ r ∈ (s.cfg.chain.ready : List (Nat × Bool)), s.chainRank (p, g) ≤ s.chainRank r) ∧ (∀ r ∈ (l1 : List (Nat × Bool)), s.chainRank (p, g) < s.chainRank r)) →
      g = false →
      s.chainMember p = some m →
      (to_ = if s.cfg.chain.later = true then [p] else (s.cfg.chain.ready.filter fun r => !r.2 && s.chainMember r.1 == some m).map fun r => r.1) →
      ∃ t, exec (.chainPassSend w) s = .next t
        ∧ (s.at_ w).passBegun t s.chainSlot m (s.chainSlot == 0) false 255 to_ = true
        ∧ t.cfg.chain.ready = s.cfg.chain.ready.filter (fun r => !to_.contains r.1)
        ∧ t.cfg.chain.retry = []
        ∧ t = { s with regs := t.regs, now := max s.now w, emn := t.emn, emnPorts := t.emnPorts, cfg := t.cfg }
        ∧ (∀ adr, adr ∉ (R.CFG_CHAIN_STAT :: to_.map R.CFG_CHAIN_POS : List Nat) → t.rd adr = s.rd adr)) ∧
  (∀ (w : Nat) (p : Nat) (g : Bool) (l1 l2 : List (Nat × Bool)) (m : Nat × Nat) (s : State),
      s.emn.head = true →
      s.alive = true →
      s.cfg.chain.active = false →
      (s.cfg.chain.passed = [] ∨ s.cfg.chain.second = true) →
      s.cfg.chain.retry = [] →
      s.bit F.CFG_CHAIN_CTL_HOLD = false →
      s.cfg.chain.ready = l1 ++ (p, g) :: l2 →
      (if s.cfg.chain.later = true then l1 = [] else (∀ r ∈ (s.cfg.chain.ready : List (Nat × Bool)), s.chainRank (p, g) ≤ s.chainRank r) ∧ (∀ r ∈ (l1 : List (Nat × Bool)), s.chainRank (p, g) < s.chainRank r)) →
      (g = true ∨ s.chainMember p = none) →
      ((s.directory 0).bind fun d => dirMember d p) = some m →
      ∃ t, exec (.chainPassSend w) s = .next t
        ∧ (s.at_ w).passBegun t 0 m true false p [p] = true
        ∧ t.get (F.CFG_CHAIN_POS_RESULT p) = (if g = true then s.get (F.CFG_CHAIN_POS_RESULT p) else 3)
        ∧ t.cfg.chain.ready = s.cfg.chain.ready.filter (fun r => r.1 != p)
        ∧ t.cfg.chain.retry = []
        ∧ t = { s with regs := t.regs, now := max s.now w, emn := t.emn, emnPorts := t.emnPorts, cfg := t.cfg }
        ∧ (∀ adr, adr ∉ (R.CFG_CHAIN_STAT :: [R.CFG_CHAIN_POS p] : List Nat) → t.rd adr = s.rd adr)) ∧
  (∀ (w : Nat) (p : Nat) (g : Bool) (l1 l2 : List (Nat × Bool)) (s : State),
      s.emn.head = true →
      s.alive = true →
      s.cfg.chain.active = false →
      (s.cfg.chain.passed = [] ∨ s.cfg.chain.second = true) →
      s.cfg.chain.retry = [] →
      s.bit F.CFG_CHAIN_CTL_HOLD = false →
      s.cfg.chain.ready = l1 ++ (p, g) :: l2 →
      (if s.cfg.chain.later = true then l1 = [] else (∀ r ∈ (s.cfg.chain.ready : List (Nat × Bool)), s.chainRank (p, g) ≤ s.chainRank r) ∧ (∀ r ∈ (l1 : List (Nat × Bool)), s.chainRank (p, g) < s.chainRank r)) →
      (g = true ∨ s.chainMember p = none) →
      ((s.directory 0).bind fun d => dirMember d p) = none →
      ∃ t, exec (.chainPassSend w) s = .next t
        ∧ t.get (F.CFG_CHAIN_POS_RESULT p) = (if g = false ∨ s.get (F.CFG_CHAIN_POS_RESULT p) = 3 then 6 else 5)
        ∧ (t.get (F.CFG_CHAIN_POS_CODE p) = s.get (F.CFG_CHAIN_POS_CODE p) ∧ t.get (F.CFG_CHAIN_POS_STREAMS p) = s.get (F.CFG_CHAIN_POS_STREAMS p))
        ∧ t.isPending 829 = true
        ∧ t = { s with regs := t.regs, irq := t.irq, now := max s.now w, cfg := t.cfg }
        ∧ (∀ adr, adr ∉ (R.CFG_CHAIN_POS p :: coalesced : List Nat) → t.rd adr = s.rd adr)
        ∧ (∀ num dr, num ∉ ([829] : List Nat) → t.slot num dr = s.slot num dr)
        ∧ t.cfg = { s.cfg with chain := { s.cfg.chain with ready := s.cfg.chain.ready.filter (fun r => r.1 != p) } }) ∧
  (∀ (w : Nat) (s : State),
      (s.emn.head = true ∧ s.cfg.chain.active = true ∧ (s.emnPort 1).window ≠ [] ∧ (s.emnPort 1).ackAt + 4000000 ≤ max s.now w) →
      s.cfg.chain.mask ≠ [] →
      ∃ t, exec (.chainAckStall w) s = .next t
        ∧ t.cfg = { s.cfg with chain := { s.cfg.chain with active := false, next := none, ended := none, mask := [], retry := t.cfg.chain.retry, later := t.cfg.chain.later } }
        ∧ t.cfg.chain.retry = (if s.cfg.chain.golden = true then s.cfg.chain.retry else s.cfg.chain.retry ++ s.cfg.chain.mask)
        ∧ (∀ p ∈ (s.cfg.chain.mask : List Nat), t.get (F.CFG_CHAIN_POS_RESULT p) = if s.cfg.chain.golden = true then 5 else 4)
        ∧ (∀ p ∈ (s.cfg.chain.mask : List Nat), t.get (F.CFG_CHAIN_POS_CODE p) = s.get (F.CFG_CHAIN_POS_CODE p) ∧ t.get (F.CFG_CHAIN_POS_STREAMS p) = s.get (F.CFG_CHAIN_POS_STREAMS p))
        ∧ (s.cfg.chain.golden = true → t.isPending 829 = true)
        ∧ (s.cfg.chain.golden = true ∧ s.chainIdle = true → t.isPending 828 = true ∧ t.cfg.chain.later = true)
        ∧ (s.cfg.chain.golden = false → t.irq = s.irq ∧ t.cfg.chain.later = s.cfg.chain.later)
        ∧ (t.bit F.CFG_CHAIN_STAT_ACTIVE = false ∧ t.get F.CFG_CHAIN_STAT_MASK = 0)
        ∧ (let u := s.cfg.chain.mask.foldl (fun v p => v.emnData 1 p [4, 0, 0, 0, 0, 0, 0, 0]) (s.at_ w); t.emnPorts = u.emnPorts ∧ t.emn = u.emn)
        ∧ t = { s with regs := t.regs, irq := t.irq, now := max s.now w, emnPorts := t.emnPorts, emn := t.emn, cfg := t.cfg }
        ∧ (∀ adr, adr ∉ (R.CFG_CHAIN_STAT :: coalesced ++ s.cfg.chain.mask.map R.CFG_CHAIN_POS : List Nat) → t.rd adr = s.rd adr)
        ∧ (∀ num dr, num ∉ ([828, 829] : List Nat) → t.slot num dr = s.slot num dr)) ∧
  (∀ (w : Nat) (s : State),
      (¬ (s.emn.head = true ∧ s.cfg.chain.active = true ∧ (s.emnPort 1).window ≠ [] ∧ (s.emnPort 1).ackAt + 4000000 ≤ max s.now w) ∨ s.cfg.chain.mask = []) →
      ∃ t, exec (.chainAckStall w) s = .next t
        ∧ t = { s with now := max s.now w }) ∧
  (∀ (p : Fin 16) (w e : Nat) (s : State),
      s.cfg.chain.ended = some e →
      e + 4000000 ≤ max s.now w →
      s.cfg.chain.mask.contains p.val = true →
      ∃ t, exec (.chainReportTimeout p w) s = .next t
        ∧ (s.at_ w).passLeft t p.val s.cfg.chain.passed (if s.cfg.chain.golden = true then s.cfg.chain.retry else s.cfg.chain.retry ++ [p.val]) = true
        ∧ t.get (F.CFG_CHAIN_POS_RESULT p.val) = (if s.cfg.chain.golden = true then 5 else 4)
        ∧ (t.get (F.CFG_CHAIN_POS_CODE p.val) = s.get (F.CFG_CHAIN_POS_CODE p.val) ∧ t.get (F.CFG_CHAIN_POS_STREAMS p.val) = s.get (F.CFG_CHAIN_POS_STREAMS p.val))
        ∧ (s.cfg.chain.golden = true → t.isPending 829 = true)
        ∧ (s.cfg.chain.golden = false → ∀ dr ∈ ([0, 1, 2, 3] : List Nat), t.slot 829 dr = s.slot 829 dr)
        ∧ (let u := (s.at_ w).emnData 1 p.val [4, 0, 0, 0, 0, 0, 0, 0]; t.emnPorts = u.emnPorts ∧ t.emn = u.emn)
        ∧ t = { s with regs := t.regs, irq := t.irq, now := max s.now w, emnPorts := t.emnPorts, emn := t.emn, cfg := t.cfg }
        ∧ (∀ adr, adr ∉ (R.CFG_CHAIN_POS p.val :: R.CFG_CHAIN_STAT :: coalesced : List Nat) → t.rd adr = s.rd adr)
        ∧ (∀ num dr, num ∉ ([828, 829] : List Nat) → t.slot num dr = s.slot num dr)) ∧
  (∀ (p : Fin 16) (w : Nat) (s : State),
      (s.cfg.chain.mask.contains p.val = false ∨ (match s.cfg.chain.ended with | some e => decide (max s.now w < e + 4000000) | none => true) = true) →
      ∃ t, exec (.chainReportTimeout p w) s = .next t
        ∧ t = { s with now := max s.now w }) ∧
  (∀ (s : State),
      (match s.emn.inbox with | [] => true | x :: _ => x.type != 4 || !s.emn.head) = true →
      ∃ t, exec .emnReportRx s = .next t
        ∧ t = { s with emn := { s.emn with inbox := (match s.emn.inbox with | x :: r => if x.type = 4 then r else x :: r | [] => []) } }) ∧
  (∀ (x : EmnIn) (r : List EmnIn) (s : State),
      s.emn.inbox = x :: r →
      x.type = 4 →
      s.emn.head = true →
      (x.payload.headD 0 = 1 ∨ x.payload.headD 0 = 2) →
      ∃ t, exec .emnReportRx s = .next t
        ∧ t.get F.EMN_POS_LEN = (if x.payload.headD 0 = 1 then (fieldBE x.payload 1 1 + 1) % 32 else s.get F.EMN_POS_LEN)
        ∧ (t.bit F.EMN_POS_VALID = s.bit F.EMN_POS_VALID ∧ t.bit F.EMN_POS_HEAD = s.bit F.EMN_POS_HEAD ∧ t.get F.EMN_POS_POS = s.get F.EMN_POS_POS)
        ∧ t.rd R.EMN_STAT = (if x.payload.headD 0 = 2 then setBitsOf (s.rd R.EMN_STAT) F.EMN_STAT_CHAIN_LONG.hi F.EMN_STAT_CHAIN_LONG.lo 1 else s.rd R.EMN_STAT)
        ∧ t.emn = { s.emn with inbox := r }
        ∧ t.isPending 774 = true
        ∧ t = { s with regs := t.regs, irq := t.irq, emn := t.emn }
        ∧ (∀ adr, adr ∉ (R.EMN_POS :: R.EMN_STAT :: coalesced : List Nat) → t.rd adr = s.rd adr)
        ∧ (∀ num dr, num ∉ ([774] : List Nat) → t.slot num dr = s.slot num dr)) ∧
  (∀ (x : EmnIn) (r : List EmnIn) (p : Nat) (s : State),
      s.emn.inbox = x :: r →
      x.type = 4 →
      s.emn.head = true →
      s.alive = true →
      x.src = p →
      p < 16 →
      x.payload.headD 0 = 0x10 →
      ¬ (s.cfg.chain.active = true ∧ s.cfg.chain.mask.contains p = true ∨ s.cfg.chain.passed.contains p = true ∨ s.cfg.chain.retry.contains p = true ∨ (s.cfg.chain.ready.any fun e => e.1 == p) = true) →
      ∃ t, exec .emnReportRx s = .next t
        ∧ t.get (F.CFG_CHAIN_POS_CODE p) = 0x10
        ∧ t.get (F.CFG_CHAIN_POS_STREAMS p) = s.get (F.CFG_CHAIN_POS_STREAMS p)
        ∧ t.get (F.CFG_CHAIN_POS_RESULT p) = 7
        ∧ t.cfg = { s.cfg with chain := { s.cfg.chain with ready := s.cfg.chain.ready ++ [(p, (x.payload.drop 1).headD 0 % 2 == 1)] } }
        ∧ t.emn = { s.emn with inbox := r }
        ∧ t.isPending 774 = true
        ∧ t = { s with regs := t.regs, irq := t.irq, emn := t.emn, cfg := t.cfg }
        ∧ (∀ adr, adr ∉ (R.CFG_CHAIN_POS p :: coalesced : List Nat) → t.rd adr = s.rd adr)
        ∧ (∀ num dr, num ∉ ([774] : List Nat) → t.slot num dr = s.slot num dr)) ∧
  (∀ (x : EmnIn) (r : List EmnIn) (p : Nat) (s : State),
      s.emn.inbox = x :: r →
      x.type = 4 →
      s.emn.head = true →
      s.alive = true →
      x.src = p →
      p < 16 →
      (x.payload.headD 0 = 0x10 ∧ (s.cfg.chain.active = true ∧ s.cfg.chain.mask.contains p = true ∨ s.cfg.chain.passed.contains p = true ∨ s.cfg.chain.retry.contains p = true ∨ (s.cfg.chain.ready.any fun e => e.1 == p) = true) ∨ x.payload.headD 0 = 0x11 ∧ ((s.cfg.chain.active && s.cfg.chain.mask.contains p) = false ∨ s.cfg.chain.second = true) ∨ x.payload.headD 0 = 0x12 ∧ (s.cfg.chain.active && s.cfg.chain.mask.contains p) = false ∨ x.payload.headD 0 ∉ ([1, 2, 0x10, 0x11, 0x12, 0x13, 0x14] : List Nat)) →
      ∃ t, exec .emnReportRx s = .next t
        ∧ t.get (F.CFG_CHAIN_POS_CODE p) = x.payload.headD 0 % 256
        ∧ t.get (F.CFG_CHAIN_POS_STREAMS p) = s.get (F.CFG_CHAIN_POS_STREAMS p)
        ∧ t.get (F.CFG_CHAIN_POS_RESULT p) = s.get (F.CFG_CHAIN_POS_RESULT p)
        ∧ t.emn = { s.emn with inbox := r }
        ∧ t.isPending 774 = true
        ∧ t = { s with regs := t.regs, irq := t.irq, emn := t.emn }
        ∧ (∀ adr, adr ∉ (R.CFG_CHAIN_POS p :: coalesced : List Nat) → t.rd adr = s.rd adr)
        ∧ (∀ num dr, num ∉ ([774] : List Nat) → t.slot num dr = s.slot num dr)) ∧
  (∀ (x : EmnIn) (r : List EmnIn) (p : Nat) (s : State),
      s.emn.inbox = x :: r →
      x.type = 4 →
      s.emn.head = true →
      s.alive = true →
      x.src = p →
      p < 16 →
      x.payload.headD 0 = 0x11 →
      (s.cfg.chain.active && s.cfg.chain.mask.contains p) = true →
      s.cfg.chain.second = false →
      ∃ t, exec .emnReportRx s = .next t
        ∧ t.get (F.CFG_CHAIN_POS_CODE p) = 0x11
        ∧ t.get (F.CFG_CHAIN_POS_STREAMS p) = s.get (F.CFG_CHAIN_POS_STREAMS p)
        ∧ t.get (F.CFG_CHAIN_POS_RESULT p) = s.get (F.CFG_CHAIN_POS_RESULT p)
        ∧ s.passLeft t p (s.cfg.chain.passed ++ [p]) s.cfg.chain.retry = true
        ∧ t.emn = { s.emn with inbox := r }
        ∧ t.isPending 774 = true
        ∧ t = { s with regs := t.regs, irq := t.irq, emn := t.emn, cfg := t.cfg }
        ∧ (∀ adr, adr ∉ (R.CFG_CHAIN_POS p :: R.CFG_CHAIN_STAT :: coalesced : List Nat) → t.rd adr = s.rd adr)
        ∧ (∀ num dr, num ∉ ([774, 828] : List Nat) → t.slot num dr = s.slot num dr)) ∧
  (∀ (x : EmnIn) (r : List EmnIn) (p : Nat) (s : State),
      s.emn.inbox = x :: r →
      x.type = 4 →
      s.emn.head = true →
      s.alive = true →
      x.src = p →
      p < 16 →
      x.payload.headD 0 = 0x12 →
      (s.cfg.chain.active && s.cfg.chain.mask.contains p) = true →
      ∃ t, exec .emnReportRx s = .next t
        ∧ t.get (F.CFG_CHAIN_POS_CODE p) = 0x12
        ∧ t.get (F.CFG_CHAIN_POS_STREAMS p) = s.get (F.CFG_CHAIN_POS_STREAMS p)
        ∧ t.get (F.CFG_CHAIN_POS_RESULT p) = (if s.cfg.chain.golden = true then 5 else s.get (F.CFG_CHAIN_POS_RESULT p))
        ∧ (s.cfg.chain.golden = true → t.isPending 829 = true)
        ∧ (s.cfg.chain.golden = false → ∀ dr ∈ ([0, 1, 2, 3] : List Nat), t.slot 829 dr = s.slot 829 dr)
        ∧ s.passLeft t p s.cfg.chain.passed (if s.cfg.chain.golden = true then s.cfg.chain.retry else s.cfg.chain.retry ++ [p]) = true
        ∧ t.emn = { s.emn with inbox := r }
        ∧ t.isPending 774 = true
        ∧ t = { s with regs := t.regs, irq := t.irq, emn := t.emn, cfg := t.cfg }
        ∧ (∀ adr, adr ∉ (R.CFG_CHAIN_POS p :: R.CFG_CHAIN_STAT :: coalesced : List Nat) → t.rd adr = s.rd adr)
        ∧ (∀ num dr, num ∉ ([774, 828, 829] : List Nat) → t.slot num dr = s.slot num dr)) ∧
  (∀ (x : EmnIn) (r : List EmnIn) (p : Nat) (s : State),
      s.emn.inbox = x :: r →
      x.type = 4 →
      s.emn.head = true →
      s.alive = true →
      x.src = p →
      p < 16 →
      x.payload.headD 0 = 19 →
      (s.cfg.chain.active && s.cfg.chain.mask.contains p) = true →
      ∃ t, exec .emnReportRx s = .next t
        ∧ t.get (F.CFG_CHAIN_POS_CODE p) = 19
        ∧ t.get (F.CFG_CHAIN_POS_STREAMS p) = s.get (F.CFG_CHAIN_POS_STREAMS p)
        ∧ t.get (F.CFG_CHAIN_POS_RESULT p) = (if s.get (F.CFG_CHAIN_POS_RESULT p) = 3 then 3 else if (x.payload.drop 1).headD 0 = 1 then 2 else 1)
        ∧ t.isPending 827 = true
        ∧ s.passLeft t p s.cfg.chain.passed s.cfg.chain.retry = true
        ∧ t.emn = { s.emn with inbox := r }
        ∧ t.isPending 774 = true
        ∧ t = { s with regs := t.regs, irq := t.irq, emn := t.emn, cfg := t.cfg }
        ∧ (∀ adr, adr ∉ (R.CFG_CHAIN_POS p :: R.CFG_CHAIN_STAT :: coalesced : List Nat) → t.rd adr = s.rd adr)
        ∧ (∀ num dr, num ∉ ([774, 827, 828] : List Nat) → t.slot num dr = s.slot num dr)) ∧
  (∀ (x : EmnIn) (r : List EmnIn) (p : Nat) (s : State),
      s.emn.inbox = x :: r →
      x.type = 4 →
      s.emn.head = true →
      s.alive = true →
      x.src = p →
      p < 16 →
      x.payload.headD 0 = 19 →
      (s.cfg.chain.active && s.cfg.chain.mask.contains p) = false →
      ∃ t, exec .emnReportRx s = .next t
        ∧ t.get (F.CFG_CHAIN_POS_CODE p) = 19
        ∧ t.get (F.CFG_CHAIN_POS_STREAMS p) = s.get (F.CFG_CHAIN_POS_STREAMS p)
        ∧ t.get (F.CFG_CHAIN_POS_RESULT p) = (if s.get (F.CFG_CHAIN_POS_RESULT p) = 3 then 3 else if (x.payload.drop 1).headD 0 = 1 then 2 else 1)
        ∧ t.isPending 827 = true
        ∧ t.emn = { s.emn with inbox := r }
        ∧ t.isPending 774 = true
        ∧ t = { s with regs := t.regs, irq := t.irq, emn := t.emn }
        ∧ (∀ adr, adr ∉ (R.CFG_CHAIN_POS p :: coalesced : List Nat) → t.rd adr = s.rd adr)
        ∧ (∀ num dr, num ∉ ([774, 827] : List Nat) → t.slot num dr = s.slot num dr)) ∧
  (∀ (x : EmnIn) (r : List EmnIn) (p : Nat) (s : State),
      s.emn.inbox = x :: r →
      x.type = 4 →
      s.emn.head = true →
      s.alive = true →
      x.src = p →
      p < 16 →
      x.payload.headD 0 = 20 →
      (s.cfg.chain.active && s.cfg.chain.mask.contains p) = true →
      ∃ t, exec .emnReportRx s = .next t
        ∧ t.get (F.CFG_CHAIN_POS_CODE p) = 20
        ∧ t.get (F.CFG_CHAIN_POS_STREAMS p) = s.get (F.CFG_CHAIN_POS_STREAMS p)
        ∧ t.get (F.CFG_CHAIN_POS_RESULT p) = 5
        ∧ t.isPending 827 = true
        ∧ (s.get (F.CFG_CHAIN_POS_RESULT p) ≠ 5 → t.isPending 829 = true)
        ∧ (s.get (F.CFG_CHAIN_POS_RESULT p) = 5 → ∀ dr ∈ ([0, 1, 2, 3] : List Nat), t.slot 829 dr = s.slot 829 dr)
        ∧ s.passLeft t p s.cfg.chain.passed s.cfg.chain.retry = true
        ∧ t.emn = { s.emn with inbox := r }
        ∧ t.isPending 774 = true
        ∧ t = { s with regs := t.regs, irq := t.irq, emn := t.emn, cfg := t.cfg }
        ∧ (∀ adr, adr ∉ (R.CFG_CHAIN_POS p :: R.CFG_CHAIN_STAT :: coalesced : List Nat) → t.rd adr = s.rd adr)
        ∧ (∀ num dr, num ∉ ([774, 827, 828, 829] : List Nat) → t.slot num dr = s.slot num dr)) ∧
  (∀ (x : EmnIn) (r : List EmnIn) (p : Nat) (s : State),
      s.emn.inbox = x :: r →
      x.type = 4 →
      s.emn.head = true →
      s.alive = true →
      x.src = p →
      p < 16 →
      x.payload.headD 0 = 20 →
      (s.cfg.chain.active && s.cfg.chain.mask.contains p) = false →
      ∃ t, exec .emnReportRx s = .next t
        ∧ t.get (F.CFG_CHAIN_POS_CODE p) = 20
        ∧ t.get (F.CFG_CHAIN_POS_STREAMS p) = s.get (F.CFG_CHAIN_POS_STREAMS p)
        ∧ t.get (F.CFG_CHAIN_POS_RESULT p) = 5
        ∧ t.isPending 827 = true
        ∧ (s.get (F.CFG_CHAIN_POS_RESULT p) ≠ 5 → t.isPending 829 = true)
        ∧ (s.get (F.CFG_CHAIN_POS_RESULT p) = 5 → ∀ dr ∈ ([0, 1, 2, 3] : List Nat), t.slot 829 dr = s.slot 829 dr)
        ∧ t.emn = { s.emn with inbox := r }
        ∧ t.isPending 774 = true
        ∧ t = { s with regs := t.regs, irq := t.irq, emn := t.emn }
        ∧ (∀ adr, adr ∉ (R.CFG_CHAIN_POS p :: coalesced : List Nat) → t.rd adr = s.rd adr)
        ∧ (∀ num dr, num ∉ ([774, 827, 829] : List Nat) → t.slot num dr = s.slot num dr)) ∧
  (∀ (x : EmnIn) (r : List EmnIn) (s : State),
      s.emn.inbox = x :: r →
      x.type = 4 →
      s.emn.head = true →
      (s.alive = false ∨ 16 ≤ x.src) →
      x.payload.headD 0 ≠ 1 →
      x.payload.headD 0 ≠ 2 →
      ∃ t, exec .emnReportRx s = .next t
        ∧ t.emn = { s.emn with inbox := r }
        ∧ t.isPending 774 = true
        ∧ t = { s with regs := t.regs, irq := t.irq, emn := t.emn }
        ∧ (∀ adr, adr ∉ (coalesced : List Nat) → t.rd adr = s.rd adr)
        ∧ (∀ num dr, num ∉ ([774] : List Nat) → t.slot num dr = s.slot num dr)) ∧
  (∀ (w : Nat) (x : EmnIn) (r : List EmnIn) (m l : Nat) (s : State),
      s.emn.inbox = x :: r →
      x.type = 1 →
      x.payload.headD 0 = 5 →
      (s.emn.head = true ∧ s.alive = true ∧ (s.get (F.CFG_CHAIN_POS_RESULT x.src) = 1 ∨ s.get (F.CFG_CHAIN_POS_RESULT x.src) = 2 ∨ s.get (F.CFG_CHAIN_POS_RESULT x.src) = 3) ∧ 16 ≤ fieldBE x.payload 8 2 ∧ fieldBE x.payload 8 2 ≤ 8192) →
      ((s.directory (if s.get (F.CFG_CHAIN_POS_RESULT x.src) = 1 then s.chainSlot else 0)).bind fun d => dirMember d x.src) = some (m, l) →
      ∃ t, exec (.cfgRepairReq w) s = .next t
        ∧ (let u := (List.range ((fieldBE x.payload 8 2 + 1015) / 1016)).foldl (fun v i => v.emnData 1 x.src ([6, 0, 0, 0] ++ bytesBE 4 (fieldBE x.payload 4 4 + 1016 * i) ++ s.cfBytes (slotBase (if s.get (F.CFG_CHAIN_POS_RESULT x.src) = 1 then s.chainSlot else 0) + m + fieldBE x.payload 4 4 + 1016 * i) (min 1016 (fieldBE x.payload 8 2 - 1016 * i)))) { s with now := max s.now w, emn := { s.emn with inbox := r } }; t.emnPorts = u.emnPorts ∧ t.emn = u.emn)
        ∧ (t.flash.lastRead = max s.now w ∧ t.flashRuns = false)
        ∧ t = { s with regs := t.regs, now := max s.now w, emnPorts := t.emnPorts, emn := t.emn, flash := t.flash }
        ∧ (∀ adr, adr ∉ ([R.FLASH_STAT] : List Nat) → t.rd adr = s.rd adr)) ∧
  (∀ (w : Nat) (x : EmnIn) (r : List EmnIn) (s : State),
      s.emn.inbox = x :: r →
      x.type = 1 →
      x.payload.headD 0 = 5 →
      (¬ (s.emn.head = true ∧ s.alive = true ∧ (s.get (F.CFG_CHAIN_POS_RESULT x.src) = 1 ∨ s.get (F.CFG_CHAIN_POS_RESULT x.src) = 2 ∨ s.get (F.CFG_CHAIN_POS_RESULT x.src) = 3) ∧ 16 ≤ fieldBE x.payload 8 2 ∧ fieldBE x.payload 8 2 ≤ 8192) ∨ ((s.directory (if s.get (F.CFG_CHAIN_POS_RESULT x.src) = 1 then s.chainSlot else 0)).bind fun d => dirMember d x.src) = none) →
      ∃ t, exec (.cfgRepairReq w) s = .next t
        ∧ t = { s with now := max s.now w, emn := { s.emn with inbox := r } }) ∧
  (∀ (w : Nat) (x : EmnIn) (r : List EmnIn) (s : State),
      s.emn.inbox = x :: r →
      x.type = 1 →
      x.payload.headD 0 = 6 →
      ∃ t, exec (.cfgRepairData w) s = .next t
        ∧ t = { s with now := max s.now w, emn := { s.emn with inbox := r }, cfg := { s.cfg with answer := if s.cfg.asked.isSome = true then s.cfg.answer ++ x.payload.drop 8 else s.cfg.answer } }) ∧
  (∀ (w op : Nat) (i : Instr) (s : State),
      (op, i) ∈ ([(5, .cfgRepairReq w), (6, .cfgRepairData w)] : List (Nat × Instr)) →
      (match s.emn.inbox with | [] => true | x :: _ => x.type != 1 || x.payload.headD 0 != op) = true →
      ∃ t, exec i s = .next t
        ∧ t = s)

/-- How commands of the flash arrays and of the OTP row start, are refused, wait, are suspended and end (parts of R5, R395, R400, R401, R402, R405, R406, R407, R409, R411, R412, R413, R414, R415, R416, R417, R418, R420, R421, R422, R424, R425, R426, R429, R430, R431). A command that ends writes its CODE, sets its done bit and raises 840, with a code other than OK also 841; 842 and 843 for the parameter array. FWP_N is sampled by the commands that program or erase. What a clause does not name stays; an access is made as O5 says, and answered without error. (1) A command with operand ADDR is checked in this order: MODE, RANGE, BUSY, PROTECTED, SOURCE_LOCKED, STATE, PROG_TWICE. (2) Byte i of the buffer a command takes is byte i of FLASH.BUF, or of FLASH.PF_DATA. (3) Each command of FLASH.CMD that fails a check ends at once with that code. (4) One that passes them while fewer than 8 locations of the active half of the journal are free waits for a compaction, with FLASH.BUF or FLASH.PF_DATA as they are now; COMPACTING reads 1. (5) PAGE_PROG starts: the page buffer is taken; a page of the staging slot makes its verification stale. (6) SEAL, CHECK_SEAL and MARGIN_READ start. (7) SECTOR_ERASE starts: ERASE_BEGIN with the new erase count goes to the journal, after the locations whose verify failed; the sector reads ERASING. (8) After three failures in a row it ends with JOURNAL and source 847. (9) PF_PROG and PF_ERASE start, beside a command of the other array. (10) SUSPEND and RESUME in a mode that accepts no command end with MODE. (11) SUSPEND with no operation, and RESUME with nothing suspended, have no effect. (12) SUSPEND: the innermost operation is suspended, and only RESUME ends that, also where a read had suspended it. (13) RESUME: the innermost suspended operation goes on; under a program that runs, it goes on by itself after that. (14) An operation that a read suspended goes on by itself 50 µs after the last read of CFLASH. (15) Else AUTO_RESUME does nothing. (16) FLASH_COMMAND_DONE with no command in the array, or with its innermost one suspended: nothing. (17) A PAGE_PROG that verifies: the page holds the buffer, and counts in its sector, which is OPEN. (18) One that does not: PROG_FAIL; the sector is FAILED with a FAIL record, source 845, and what the page holds is open. (19) The same where its FAIL record fails three times: source 847 as well, and no record. (20) A SECTOR_ERASE that verifies: the sector reads all ones and is ERASED, with ERASE_END in the journal. (21) Where ERASE_END cannot be written: JOURNAL, source 847, and the sector is SUSPECT. (22) One that does not verify: ERASE_FAIL; the sector is FAILED with a FAIL record, source 845, and what its pages hold is open. (23) The same where its FAIL record fails three times. (24) SEAL: a SEAL record with the CRC of the 65,536 bytes of the sector and the pages programmed goes to the journal; the sector is SEALED. (25) After three failures in a row it ends with JOURNAL and source 847. (26) CHECK_SEAL ends with OK where the CRC of the sector is the one of its SEAL, else with SEAL_MISMATCH. (27) Where a SNAPSHOT stands in place of the SEAL, which of the two is open. (28) MARGIN_READ ends: FLASH.MARGIN shows what the read found. (29) PF_PROG ends: the word is written; where the pulse did not do its work, what it reads is open. (30) PF_ERASE ends: the words of the sector are blank; where the pulse did not do its work, what they read is open. (31) The half that a compaction leaves: 192 SNAPSHOT records over sectors 0 to 767, the latest SLOT_SELECT, and a header with the next GENERATION, in the order they are written. (32) COMPACTION_DONE with no command waiting: nothing. (33) The journal goes on in the half the compaction wrote, source 846 is raised, and the command that waited starts: PAGE_PROG, SEAL, CHECK_SEAL, MARGIN_READ. (34) PF_PROG and PF_ERASE the same. (35) SECTOR_ERASE then writes its ERASE_BEGIN into the new half. (36) Where that fails three times it ends with JOURNAL and source 847. (37) A promotion that waited writes its SLOT_SELECT, which names the staging slot and its identity, and PROMOTE reads 0 again; source 826. (38) Where that fails three times, PROMOTE_REFUSED and source 847. (39) OTP.CTL.GO starts the program of the word in ADDR with DATA, where the area may be programmed (MODE), no program runs (BUSY), FWP_N is high (PROTECTED), the word is not programmed (PROG_TWICE) and its area is not one of SEC (SEC_ONLY); GO and BUSY read 1. (40) A program that fails a check ends at once with that code, and sources 848 and 849. (41) OTP_PROGRAM_DONE with no program running: nothing. (42) The program ends: the word is programmed, also where it failed (PROG_FAIL); GO and BUSY read 0; sources 848, and 849 where it failed. Readings and choices of the model that it rests on: log entries 94, 95, 97, 98, 99. -/
def Obligations.FlashCommands : Prop :=
  (∀ (op a n : Nat) (x : Sector) (s : State),
      op ∈ ([1, 2, 3, 4, 5, 8, 9] : List Nat) →
      (n = (if op < 8 then (a - 0x30000000) / 0x10000 else (a - 0x33000000) / 0x1000) ∧ x = s.sector ((a - 0x30000000) / 0x10000)) →
      (s.flashCheck op a = (
          if s.mode = M.reset ∨ s.mode = M.verify ∨ s.mode = M.load ∨ s.mode = M.fallback ∨ s.mode = M.quarantine then 1
          else if ¬ (if op < 8 then 0x30000000 ≤ a ∧ a < 0x32FF0000 ∧ a % (if op = 1 then 0x1000 else 0x10000) = 0 else 0x33000000 ≤ a ∧ a < 0x33200000 ∧ a % (if op = 8 then 16 else 0x1000) = 0) then 2
          else if s.flash.after.isSome = true ∨ (if op < 8 then (match s.flash.ops with | [] => false | [e] => !(op == 1 && e.op == 2 && e.susp && decide (n ≠ (e.addr - 0x30000000) / 0x10000)) | _ => true) else s.flash.pfOp.isSome) = true then 3
          else if s.flash.fwp = false ∧ (op ≤ 2 ∧ (n < 224 ∨ s.bitAt (R.FLASH_PROT_CF (n / 32)) (n % 32) = true) ∨ 8 ≤ op ∧ s.bitAt (R.FLASH_PROT_PF (n / 32)) (n % 32) = true) then 4
          else if op ≤ 3 ∧ (n < 672 ∧ (s.cfg.boot.slot = n / 224 ∨ s.cfg.chain.served.contains (n / 224) = true) ∨ 672 ≤ n ∧ (s.cfg.recs.any fun e => decide (e.2.state ≤ 1 ∧ e.2.chain = false ∧ e.2.src < 0x30000000 + (n + 1) * 0x10000 ∧ 0x30000000 + n * 0x10000 < e.2.src + (if e.1 < 4096 then 640 else 4096))) = true) then 5
          else if op = 1 ∧ ¬ ((x.state = 2 ∨ x.state = 3) ∧ a / 0x1000 % 16 = x.pages) ∨ op = 2 ∧ x.state = 1 ∨ op = 3 ∧ x.state ≠ 2 ∧ x.state ≠ 3 ∨ op = 4 ∧ x.state ≠ 0 ∨ op = 5 ∧ x.state = 1 then 6
          else if op = 8 ∧ (Sparse.get (fun _ => none) s.flash.pf ((a - 0x33000000) / 16)).isSome = true then 9 else 0))) ∧
  (∀ (i : Nat) (s : State),
      i < 4096 →
      (bufByte (s.regRun (R.FLASH_BUF 0) (R.FLASH_BUF 1024)) (R.FLASH_BUF 0) i = s.rdN (R.FLASH_BUF (i / 4)) / 256 ^ (i % 4) % 256)
        ∧ (i < 16 → bufByte (s.regRun (R.FLASH_PF_DATA 0) (R.FLASH_PF_DATA 4)) (R.FLASH_PF_DATA 0) i = s.rdN (R.FLASH_PF_DATA (i / 4)) / 256 ^ (i % 4) % 256)) ∧
  (∀ (ini : Initiator) (fwp : Bool) (jf : Fin 4) (op : Nat) (i : Instr) (u s : State),
      (op, i) ∈ ([(1, .pageProg ini fwp), (2, .sectorErase ini fwp jf), (3, .seal ini), (4, .checkSeal ini), (5, .marginRead ini), (8, .pfProg ini fwp), (9, .pfErase ini fwp)] : List (Nat × Instr)) →
      u = (if op = 3 ∨ op = 4 ∨ op = 5 then s else s.withFwp fwp) →
      s.sends ini true R.FLASH_CMD = true →
      u.flashCheck op (s.rdN R.FLASH_ADDR) ≠ 0 →
      ∃ t, exec i s = .next t
        ∧ t.respCode ini = 0
        ∧ (let c := some (u.flashCheck op (s.rdN R.FLASH_ADDR)); s.flashEnds t (if op < 8 then c else none) (if op < 8 then none else c) = true)
        ∧ t.flash = u.flash
        ∧ t = { s with regs := t.regs, irq := t.irq, flash := t.flash, spine := t.spine, sec := { s.sec with tapOut := t.sec.tapOut } }
        ∧ (∀ adr, adr ∉ (R.FLASH_STAT :: coalesced : List Nat) → t.rd adr = s.rd adr)
        ∧ (∀ num dr, num ∉ ([840, 841, 842, 843] : List Nat) → t.slot num dr = s.slot num dr)) ∧
  (∀ (ini : Initiator) (fwp : Bool) (jf : Fin 4) (op : Nat) (i : Instr) (u s : State),
      (op, i) ∈ ([(1, .pageProg ini fwp), (2, .sectorErase ini fwp jf), (3, .seal ini), (4, .checkSeal ini), (5, .marginRead ini), (8, .pfProg ini fwp), (9, .pfErase ini fwp)] : List (Nat × Instr)) →
      u = (if op = 3 ∨ op = 4 ∨ op = 5 then s else s.withFwp fwp) →
      s.sends ini true R.FLASH_CMD = true →
      u.flashCheck op (s.rdN R.FLASH_ADDR) = 0 →
      s.journalHalf.free < 8 →
      ∃ t, exec i s = .next t
        ∧ t.respCode ini = 0
        ∧ t.flash = { u.flash with after := some { op := op, addr := s.rdN R.FLASH_ADDR, buf := if op = 1 then s.regRun (R.FLASH_BUF 0) (R.FLASH_BUF 1024) else if op = 8 then s.regRun (R.FLASH_PF_DATA 0) (R.FLASH_PF_DATA 4) else [] } }
        ∧ s.flashEnds t none none = true
        ∧ t = { s with regs := t.regs, flash := t.flash, spine := t.spine, sec := { s.sec with tapOut := t.sec.tapOut } }
        ∧ (∀ adr, adr ∉ ([R.FLASH_STAT] : List Nat) → t.rd adr = s.rd adr)) ∧
  (∀ (ini : Initiator) (fwp : Bool) (s : State),
      s.sends ini true R.FLASH_CMD = true →
      (s.withFwp fwp).flashCheck 1 (s.rdN R.FLASH_ADDR) = 0 →
      8 ≤ s.journalHalf.free →
      ∃ t, exec (.pageProg ini fwp) s = .next t
        ∧ t.respCode ini = 0
        ∧ t.flash = { s.flash with fwp := fwp, ops := { op := 1, addr := s.rdN R.FLASH_ADDR, buf := s.regRun (R.FLASH_BUF 0) (R.FLASH_BUF 1024) } :: s.flash.ops }
        ∧ s.flashEnds t none none = true
        ∧ t.bit F.CFG_UPD_STAT_STALE = (s.bit F.CFG_UPD_STAT_STALE || decide (s.get F.CFG_UPD_STAT_STATE = 2 ∧ (s.rdN R.FLASH_ADDR - 0x30000000) / 0x10000 / 224 + s.primarySlot = 3))
        ∧ (∀ k : Nat, k < 32 → k ≠ F.CFG_UPD_STAT_STALE.lo → t.bitAt R.CFG_UPD_STAT k = s.bitAt R.CFG_UPD_STAT k)
        ∧ t = { s with regs := t.regs, flash := t.flash, spine := t.spine, sec := { s.sec with tapOut := t.sec.tapOut } }
        ∧ (∀ adr, adr ∉ ([R.FLASH_STAT, R.CFG_UPD_STAT] : List Nat) → t.rd adr = s.rd adr)) ∧
  (∀ (ini : Initiator) (op : Nat) (i : Instr) (s : State),
      (op, i) ∈ ([(3, .seal ini), (4, .checkSeal ini), (5, .marginRead ini)] : List (Nat × Instr)) →
      s.sends ini true R.FLASH_CMD = true →
      s.flashCheck op (s.rdN R.FLASH_ADDR) = 0 →
      8 ≤ s.journalHalf.free →
      ∃ t, exec i s = .next t
        ∧ t.respCode ini = 0
        ∧ t.flash = { s.flash with ops := { op := op, addr := s.rdN R.FLASH_ADDR } :: s.flash.ops }
        ∧ s.flashEnds t none none = true
        ∧ t = { s with regs := t.regs, flash := t.flash, spine := t.spine, sec := { s.sec with tapOut := t.sec.tapOut } }
        ∧ (∀ adr, adr ∉ ([R.FLASH_STAT] : List Nat) → t.rd adr = s.rd adr)) ∧
  (∀ (ini : Initiator) (fwp : Bool) (jf : Fin 4) (n : Nat) (s : State),
      s.sends ini true R.FLASH_CMD = true →
      (s.withFwp fwp).flashCheck 2 (s.rdN R.FLASH_ADDR) = 0 →
      8 ≤ s.journalHalf.free →
      n = (s.rdN R.FLASH_ADDR - 0x30000000) / 0x10000 →
      jf.val < 3 →
      ∃ t, exec (.sectorErase ini fwp jf) s = .next t
        ∧ t.respCode ini = 0
        ∧ t.sector n = { state := 1, pages := (s.sector n).pages, erases := (s.sector n).erases + 1 }
        ∧ t.journalHalf = { s.journalHalf with recs := s.journalHalf.recs ++ List.replicate jf.val none ++ [some { type := 2, sector := n, seq := s.flash.seq + 1, erases := (s.sector n).erases + 1, data := [] }] }
        ∧ t.flash = { s.flash with fwp := fwp, sectors := t.flash.sectors, j0 := t.flash.j0, j1 := t.flash.j1, seq := s.flash.seq + 1, ops := { op := 2, addr := s.rdN R.FLASH_ADDR } :: s.flash.ops }
        ∧ (if s.flash.half then t.flash.j0 = s.flash.j0 else t.flash.j1 = s.flash.j1)
        ∧ s.flashEnds t none none = true
        ∧ t.bit F.CFG_UPD_STAT_STALE = (s.bit F.CFG_UPD_STAT_STALE || decide (s.get F.CFG_UPD_STAT_STATE = 2 ∧ n / 224 + s.primarySlot = 3))
        ∧ (∀ k : Nat, k < 32 → k ≠ F.CFG_UPD_STAT_STALE.lo → t.bitAt R.CFG_UPD_STAT k = s.bitAt R.CFG_UPD_STAT k)
        ∧ t = { s with regs := t.regs, flash := t.flash, spine := t.spine, sec := { s.sec with tapOut := t.sec.tapOut } }
        ∧ (∀ adr, adr ∉ ([R.FLASH_STAT, R.CFG_UPD_STAT] : List Nat) → t.rd adr = s.rd adr)
        ∧ (∀ key, key ∉ ([n] : List Nat) → t.sector key = s.sector key)) ∧
  (∀ (ini : Initiator) (fwp : Bool) (jf : Fin 4) (n : Nat) (s : State),
      s.sends ini true R.FLASH_CMD = true →
      (s.withFwp fwp).flashCheck 2 (s.rdN R.FLASH_ADDR) = 0 →
      8 ≤ s.journalHalf.free →
      n = (s.rdN R.FLASH_ADDR - 0x30000000) / 0x10000 →
      jf.val = 3 →
      ∃ t, exec (.sectorErase ini fwp jf) s = .next t
        ∧ t.respCode ini = 0
        ∧ s.flashEnds t (some 0xB) none = true
        ∧ t.isPending 847 = true
        ∧ t.flash = { s.flash with fwp := fwp }
        ∧ t = { s with regs := t.regs, irq := t.irq, flash := t.flash, spine := t.spine, sec := { s.sec with tapOut := t.sec.tapOut } }
        ∧ (∀ adr, adr ∉ (R.FLASH_STAT :: coalesced : List Nat) → t.rd adr = s.rd adr)
        ∧ (∀ num dr, num ∉ ([840, 841, 847] : List Nat) → t.slot num dr = s.slot num dr)) ∧
  (∀ (ini : Initiator) (fwp : Bool) (op : Nat) (i : Instr) (s : State),
      (op, i) ∈ ([(8, .pfProg ini fwp), (9, .pfErase ini fwp)] : List (Nat × Instr)) →
      s.sends ini true R.FLASH_CMD = true →
      (s.withFwp fwp).flashCheck op (s.rdN R.FLASH_ADDR) = 0 →
      8 ≤ s.journalHalf.free →
      ∃ t, exec i s = .next t
        ∧ t.respCode ini = 0
        ∧ t.flash = { s.flash with fwp := fwp, pfOp := some { op := op, addr := s.rdN R.FLASH_ADDR, buf := if op = 8 then s.regRun (R.FLASH_PF_DATA 0) (R.FLASH_PF_DATA 4) else [] } }
        ∧ s.flashEnds t none none = true
        ∧ t = { s with regs := t.regs, flash := t.flash, spine := t.spine, sec := { s.sec with tapOut := t.sec.tapOut } }
        ∧ (∀ adr, adr ∉ ([R.FLASH_STAT] : List Nat) → t.rd adr = s.rd adr)) ∧
  (∀ (ini : Initiator) (i : Instr) (s : State),
      i ∈ ([.suspend ini, .resume ini] : List Instr) →
      s.sends ini true R.FLASH_CMD = true →
      s.alive = false →
      ∃ t, exec i s = .next t
        ∧ t.respCode ini = 0
        ∧ s.flashEnds t (some 1) none = true
        ∧ t = { s with regs := t.regs, irq := t.irq, flash := s.flash, spine := t.spine, sec := { s.sec with tapOut := t.sec.tapOut } }
        ∧ (∀ adr, adr ∉ (R.FLASH_STAT :: coalesced : List Nat) → t.rd adr = s.rd adr)
        ∧ (∀ num dr, num ∉ ([840, 841] : List Nat) → t.slot num dr = s.slot num dr)) ∧
  (∀ (ini : Initiator) (i : Instr) (s : State),
      i ∈ ([.suspend ini, .resume ini] : List Instr) →
      s.sends ini true R.FLASH_CMD = true →
      s.alive = true →
      (if i = .suspend ini then s.flash.ops = [] else (s.flash.ops = [] ∨ ∃ k : Nat, k < s.flash.ops.length ∧ s.flash.ops.length = 1 ∧ (s.flash.ops.all fun o => !o.susp) = true)) →
      ∃ t, exec i s = .next t
        ∧ t.respCode ini = 0
        ∧ t = { s with spine := t.spine, sec := { s.sec with tapOut := t.sec.tapOut } }) ∧
  (∀ (ini : Initiator) (o : FlashOp) (r : List FlashOp) (s : State),
      s.sends ini true R.FLASH_CMD = true →
      s.alive = true →
      s.flash.ops = o :: r →
      ∃ t, exec (.suspend ini) s = .next t
        ∧ t.respCode ini = 0
        ∧ t.flash = { s.flash with ops := { o with susp := true, byCmd := true } :: r }
        ∧ s.flashEnds t (some 0) none = true
        ∧ t = { s with regs := t.regs, irq := t.irq, flash := t.flash, spine := t.spine, sec := { s.sec with tapOut := t.sec.tapOut } }
        ∧ (∀ adr, adr ∉ (R.FLASH_STAT :: coalesced : List Nat) → t.rd adr = s.rd adr)
        ∧ (∀ num dr, num ∉ ([840] : List Nat) → t.slot num dr = s.slot num dr)) ∧
  (∀ (ini : Initiator) (o : FlashOp) (r : List FlashOp) (s : State),
      s.sends ini true R.FLASH_CMD = true →
      s.alive = true →
      s.flash.ops = o :: r →
      (o.susp = true ∨ r ≠ []) →
      ∃ t, exec (.resume ini) s = .next t
        ∧ t.respCode ini = 0
        ∧ t.flash = { s.flash with ops := if o.susp = true then { o with susp := false, byCmd := false } :: r else o :: r.map fun x => { x with byCmd := false } }
        ∧ s.flashEnds t (some 0) none = true
        ∧ t = { s with regs := t.regs, irq := t.irq, flash := t.flash, spine := t.spine, sec := { s.sec with tapOut := t.sec.tapOut } }
        ∧ (∀ adr, adr ∉ (R.FLASH_STAT :: coalesced : List Nat) → t.rd adr = s.rd adr)
        ∧ (∀ num dr, num ∉ ([840] : List Nat) → t.slot num dr = s.slot num dr)) ∧
  (∀ (w : Nat) (o : FlashOp) (r : List FlashOp) (s : State),
      s.flash.ops = o :: r →
      o.susp = true →
      o.byCmd = false →
      s.flash.lastRead + 20000 ≤ w →
      ∃ t, exec (.autoResume w) s = .next t
        ∧ t.flash = { s.flash with ops := { o with susp := false } :: r }
        ∧ s.flashEnds t none none = true
        ∧ t = { s with regs := t.regs, now := max s.now w, flash := t.flash }
        ∧ (∀ adr, adr ∉ ([R.FLASH_STAT] : List Nat) → t.rd adr = s.rd adr)) ∧
  (∀ (w : Nat) (s : State),
      (∀ k ∈ (s.flash.ops.take 1 : List FlashOp), k.susp = false ∨ k.byCmd = true ∨ w < s.flash.lastRead + 20000) →
      ∃ t, exec (.autoResume w) s = .next t
        ∧ t = { s with now := max s.now w }) ∧
  (∀ (cf : Bool) (w : Nat) (pass : Bool) (jf : Fin 4) (corr : Fin 4096) (mb : Fin 4) (unc : Fin 4096) (s : State),
      (if cf = true then (∀ k ∈ (s.flash.ops.take 1 : List FlashOp), k.susp = true) else s.flash.pfOp = none) →
      ∃ t, exec (.flashCommandDone cf w pass jf corr mb unc) s = .next t
        ∧ t = { s with now := max s.now w }) ∧
  (∀ (w : Nat) (pass : Bool) (jf : Fin 4) (corr : Fin 4096) (mb : Fin 4) (unc : Fin 4096) (o : FlashOp) (r : List FlashOp) (n : Nat) (s : State),
      s.flash.ops = o :: r →
      (o.op = 1 ∧ o.susp = false ∧ 0x30000000 ≤ o.addr ∧ n = (o.addr - 0x30000000) / 0x10000) →
      pass = true →
      ∃ t, exec (.flashCommandDone true w pass jf corr mb unc) s = .next t
        ∧ (∀ i : Nat, i < 0x1000 → t.cfByte (o.addr - 0x30000000 + i) = bufByte o.buf (R.FLASH_BUF 0) i)
        ∧ t.sector n = { s.sector n with state := 3, pages := (s.sector n).pages + 1 }
        ∧ t.flash = { s.flash with cf := t.flash.cf, sectors := t.flash.sectors, ops := r }
        ∧ s.flashEnds t (some 0) none = true
        ∧ t = { s with regs := t.regs, irq := t.irq, now := max s.now w, flash := t.flash }
        ∧ (∀ adr, adr ∉ (R.FLASH_STAT :: coalesced : List Nat) → t.rd adr = s.rd adr)
        ∧ (∀ num dr, num ∉ ([840] : List Nat) → t.slot num dr = s.slot num dr)
        ∧ (∀ key, key ∉ ([n] : List Nat) → t.sector key = s.sector key)
        ∧ (∀ key, (key < o.addr - 0x30000000 ∨ o.addr - 0x30000000 + 0x1000 ≤ key) → t.cfByte key = s.cfByte key)) ∧
  (∀ (w : Nat) (pass : Bool) (jf : Fin 4) (corr : Fin 4096) (mb : Fin 4) (unc : Fin 4096) (o : FlashOp) (r : List FlashOp) (n : Nat) (s : State),
      s.flash.ops = o :: r →
      (o.op = 1 ∧ o.susp = false ∧ 0x30000000 ≤ o.addr ∧ n = (o.addr - 0x30000000) / 0x10000) →
      pass = false →
      jf.val < 3 →
      ∃ t, exec (.flashCommandDone true w pass jf corr mb unc) s = .next t
        ∧ t.sector n = { s.sector n with state := 4, crc := none }
        ∧ t.journalHalf = { s.journalHalf with recs := s.journalHalf.recs ++ List.replicate jf.val none ++ [some { type := 7, sector := n, seq := s.flash.seq + 1, erases := (s.sector n).erases, data := [1] }] }
        ∧ (if s.flash.half then t.flash.j0 = s.flash.j0 else t.flash.j1 = s.flash.j1)
        ∧ t.flash = { s.flash with damaged := (let p := (o.addr - 0x30000000) / 0x1000; [p] ++ s.flash.damaged.filter fun q => !([p]).contains q), sectors := t.flash.sectors, j0 := t.flash.j0, j1 := t.flash.j1, seq := s.flash.seq + 1, ops := r }
        ∧ s.flashEnds t (some 7) none = true
        ∧ (t.isPending 845 = true)
        ∧ t = { s with regs := t.regs, irq := t.irq, now := max s.now w, flash := t.flash }
        ∧ (∀ adr, adr ∉ (R.FLASH_STAT :: coalesced : List Nat) → t.rd adr = s.rd adr)
        ∧ (∀ num dr, num ∉ ([840, 841, 845] : List Nat) → t.slot num dr = s.slot num dr)
        ∧ (∀ key, key ∉ ([n] : List Nat) → t.sector key = s.sector key)) ∧
  (∀ (w : Nat) (pass : Bool) (jf : Fin 4) (corr : Fin 4096) (mb : Fin 4) (unc : Fin 4096) (o : FlashOp) (r : List FlashOp) (n : Nat) (s : State),
      s.flash.ops = o :: r →
      (o.op = 1 ∧ o.susp = false ∧ 0x30000000 ≤ o.addr ∧ n = (o.addr - 0x30000000) / 0x10000) →
      pass = false →
      jf.val = 3 →
      ∃ t, exec (.flashCommandDone true w pass jf corr mb unc) s = .next t
        ∧ t.sector n = { s.sector n with state := 4, crc := none }
        ∧ t.flash = { s.flash with damaged := (let p := (o.addr - 0x30000000) / 0x1000; [p] ++ s.flash.damaged.filter fun q => !([p]).contains q), sectors := t.flash.sectors, ops := r }
        ∧ s.flashEnds t (some 7) none = true
        ∧ (t.isPending 845 = true ∧ t.isPending 847 = true)
        ∧ t = { s with regs := t.regs, irq := t.irq, now := max s.now w, flash := t.flash }
        ∧ (∀ adr, adr ∉ (R.FLASH_STAT :: coalesced : List Nat) → t.rd adr = s.rd adr)
        ∧ (∀ num dr, num ∉ ([840, 841, 845, 847] : List Nat) → t.slot num dr = s.slot num dr)
        ∧ (∀ key, key ∉ ([n] : List Nat) → t.sector key = s.sector key)) ∧
  (∀ (w : Nat) (pass : Bool) (jf : Fin 4) (corr : Fin 4096) (mb : Fin 4) (unc : Fin 4096) (o : FlashOp) (r : List FlashOp) (n : Nat) (s : State),
      s.flash.ops = o :: r →
      (o.op = 2 ∧ o.susp = false ∧ 0x30000000 ≤ o.addr ∧ n = (o.addr - 0x30000000) / 0x10000) →
      o.addr % 0x10000 = 0 →
      pass = true →
      jf.val < 3 →
      ∃ t, exec (.flashCommandDone true w pass jf corr mb unc) s = .next t
        ∧ (∀ i : Nat, i < 0x10000 → t.cfByte (o.addr - 0x30000000 + i) = 255)
        ∧ t.sector n = { s.sector n with state := 2, pages := 0 }
        ∧ t.journalHalf = { s.journalHalf with recs := s.journalHalf.recs ++ List.replicate jf.val none ++ [some { type := 3, sector := n, seq := s.flash.seq + 1, erases := (s.sector n).erases, data := [] }] }
        ∧ (if s.flash.half then t.flash.j0 = s.flash.j0 else t.flash.j1 = s.flash.j1)
        ∧ t.flash = { s.flash with cf := t.flash.cf, damaged := s.flash.damaged.filter fun q => decide (q / 16 ≠ n), sectors := t.flash.sectors, j0 := t.flash.j0, j1 := t.flash.j1, seq := s.flash.seq + 1, ops := r }
        ∧ s.flashEnds t (some 0) none = true
        ∧ t = { s with regs := t.regs, irq := t.irq, now := max s.now w, flash := t.flash }
        ∧ (∀ adr, adr ∉ (R.FLASH_STAT :: coalesced : List Nat) → t.rd adr = s.rd adr)
        ∧ (∀ num dr, num ∉ ([840] : List Nat) → t.slot num dr = s.slot num dr)
        ∧ (∀ key, key ∉ ([n] : List Nat) → t.sector key = s.sector key)
        ∧ (∀ key, (key < o.addr - 0x30000000 ∨ o.addr - 0x30000000 + 0x10000 ≤ key) → t.cfByte key = s.cfByte key)) ∧
  (∀ (w : Nat) (pass : Bool) (jf : Fin 4) (corr : Fin 4096) (mb : Fin 4) (unc : Fin 4096) (o : FlashOp) (r : List FlashOp) (n : Nat) (s : State),
      s.flash.ops = o :: r →
      (o.op = 2 ∧ o.susp = false ∧ 0x30000000 ≤ o.addr ∧ n = (o.addr - 0x30000000) / 0x10000) →
      o.addr % 0x10000 = 0 →
      pass = true →
      jf.val = 3 →
      ∃ t, exec (.flashCommandDone true w pass jf corr mb unc) s = .next t
        ∧ (∀ i : Nat, i < 0x10000 → t.cfByte (o.addr - 0x30000000 + i) = 255)
        ∧ t.sector n = { s.sector n with state := 5, pages := 0 }
        ∧ t.flash = { s.flash with cf := t.flash.cf, damaged := s.flash.damaged.filter fun q => decide (q / 16 ≠ n), sectors := t.flash.sectors, ops := r }
        ∧ s.flashEnds t (some 0xB) none = true
        ∧ t.isPending 847 = true
        ∧ t = { s with regs := t.regs, irq := t.irq, now := max s.now w, flash := t.flash }
        ∧ (∀ adr, adr ∉ (R.FLASH_STAT :: coalesced : List Nat) → t.rd adr = s.rd adr)
        ∧ (∀ num dr, num ∉ ([840, 841, 847] : List Nat) → t.slot num dr = s.slot num dr)
        ∧ (∀ key, key ∉ ([n] : List Nat) → t.sector key = s.sector key)
        ∧ (∀ key, (key < o.addr - 0x30000000 ∨ o.addr - 0x30000000 + 0x10000 ≤ key) → t.cfByte key = s.cfByte key)) ∧
  (∀ (w : Nat) (pass : Bool) (jf : Fin 4) (corr : Fin 4096) (mb : Fin 4) (unc : Fin 4096) (o : FlashOp) (r : List FlashOp) (n : Nat) (s : State),
      s.flash.ops = o :: r →
      (o.op = 2 ∧ o.susp = false ∧ 0x30000000 ≤ o.addr ∧ n = (o.addr - 0x30000000) / 0x10000) →
      pass = false →
      jf.val < 3 →
      ∃ t, exec (.flashCommandDone true w pass jf corr mb unc) s = .next t
        ∧ t.sector n = { s.sector n with state := 4, crc := none }
        ∧ t.journalHalf = { s.journalHalf with recs := s.journalHalf.recs ++ List.replicate jf.val none ++ [some { type := 7, sector := n, seq := s.flash.seq + 1, erases := (s.sector n).erases, data := [2] }] }
        ∧ (if s.flash.half then t.flash.j0 = s.flash.j0 else t.flash.j1 = s.flash.j1)
        ∧ t.flash = { s.flash with damaged := (let p := (o.addr - 0x30000000) / 0x1000; ((List.range 16).map fun i => p + i) ++ s.flash.damaged.filter fun q => !(((List.range 16).map fun i => p + i)).contains q), sectors := t.flash.sectors, j0 := t.flash.j0, j1 := t.flash.j1, seq := s.flash.seq + 1, ops := r }
        ∧ s.flashEnds t (some 8) none = true
        ∧ (t.isPending 845 = true)
        ∧ t = { s with regs := t.regs, irq := t.irq, now := max s.now w, flash := t.flash }
        ∧ (∀ adr, adr ∉ (R.FLASH_STAT :: coalesced : List Nat) → t.rd adr = s.rd adr)
        ∧ (∀ num dr, num ∉ ([840, 841, 845] : List Nat) → t.slot num dr = s.slot num dr)
        ∧ (∀ key, key ∉ ([n] : List Nat) → t.sector key = s.sector key)) ∧
  (∀ (w : Nat) (pass : Bool) (jf : Fin 4) (corr : Fin 4096) (mb : Fin 4) (unc : Fin 4096) (o : FlashOp) (r : List FlashOp) (n : Nat) (s : State),
      s.flash.ops = o :: r →
      (o.op = 2 ∧ o.susp = false ∧ 0x30000000 ≤ o.addr ∧ n = (o.addr - 0x30000000) / 0x10000) →
      pass = false →
      jf.val = 3 →
      ∃ t, exec (.flashCommandDone true w pass jf corr mb unc) s = .next t
        ∧ t.sector n = { s.sector n with state := 4, crc := none }
        ∧ t.flash = { s.flash with damaged := (let p := (o.addr - 0x30000000) / 0x1000; ((List.range 16).map fun i => p + i) ++ s.flash.damaged.filter fun q => !(((List.range 16).map fun i => p + i)).contains q), sectors := t.flash.sectors, ops := r }
        ∧ s.flashEnds t (some 8) none = true
        ∧ (t.isPending 845 = true ∧ t.isPending 847 = true)
        ∧ t = { s with regs := t.regs, irq := t.irq, now := max s.now w, flash := t.flash }
        ∧ (∀ adr, adr ∉ (R.FLASH_STAT :: coalesced : List Nat) → t.rd adr = s.rd adr)
        ∧ (∀ num dr, num ∉ ([840, 841, 845, 847] : List Nat) → t.slot num dr = s.slot num dr)
        ∧ (∀ key, key ∉ ([n] : List Nat) → t.sector key = s.sector key)) ∧
  (∀ (w : Nat) (pass : Bool) (jf : Fin 4) (corr : Fin 4096) (mb : Fin 4) (unc : Fin 4096) (o : FlashOp) (r : List FlashOp) (n : Nat) (s : State),
      s.flash.ops = o :: r →
      (o.op = 3 ∧ o.susp = false ∧ 0x30000000 ≤ o.addr ∧ n = (o.addr - 0x30000000) / 0x10000) →
      jf.val < 3 →
      ∃ t, exec (.flashCommandDone true w pass jf corr mb unc) s = .next t
        ∧ t.sector n = { s.sector n with state := 0, crc := some (s.sectorCrc n) }
        ∧ t.journalHalf = { s.journalHalf with recs := s.journalHalf.recs ++ List.replicate jf.val none ++ [some { type := 4, sector := n, seq := s.flash.seq + 1, erases := (s.sector n).erases, data := bytesLE 4 (s.sectorCrc n) ++ [(s.sector n).pages] }] }
        ∧ (if s.flash.half then t.flash.j0 = s.flash.j0 else t.flash.j1 = s.flash.j1)
        ∧ t.flash = { s.flash with sectors := t.flash.sectors, j0 := t.flash.j0, j1 := t.flash.j1, seq := s.flash.seq + 1, ops := r }
        ∧ s.flashEnds t (some 0) none = true
        ∧ t = { s with regs := t.regs, irq := t.irq, now := max s.now w, flash := t.flash }
        ∧ (∀ adr, adr ∉ (R.FLASH_STAT :: coalesced : List Nat) → t.rd adr = s.rd adr)
        ∧ (∀ num dr, num ∉ ([840] : List Nat) → t.slot num dr = s.slot num dr)
        ∧ (∀ key, key ∉ ([n] : List Nat) → t.sector key = s.sector key)) ∧
  (∀ (w : Nat) (pass : Bool) (jf : Fin 4) (corr : Fin 4096) (mb : Fin 4) (unc : Fin 4096) (o : FlashOp) (r : List FlashOp) (n : Nat) (s : State),
      s.flash.ops = o :: r →
      (o.op = 3 ∧ o.susp = false ∧ 0x30000000 ≤ o.addr ∧ n = (o.addr - 0x30000000) / 0x10000) →
      jf.val = 3 →
      ∃ t, exec (.flashCommandDone true w pass jf corr mb unc) s = .next t
        ∧ t.flash = { s.flash with ops := r }
        ∧ s.flashEnds t (some 0xB) none = true
        ∧ t.isPending 847 = true
        ∧ t = { s with regs := t.regs, irq := t.irq, now := max s.now w, flash := t.flash }
        ∧ (∀ adr, adr ∉ (R.FLASH_STAT :: coalesced : List Nat) → t.rd adr = s.rd adr)
        ∧ (∀ num dr, num ∉ ([840, 841, 847] : List Nat) → t.slot num dr = s.slot num dr)) ∧
  (∀ (w : Nat) (pass : Bool) (jf : Fin 4) (corr : Fin 4096) (mb : Fin 4) (unc : Fin 4096) (o : FlashOp) (r : List FlashOp) (n : Nat) (s : State),
      s.flash.ops = o :: r →
      (o.op = 4 ∧ o.susp = false ∧ 0x30000000 ≤ o.addr ∧ n = (o.addr - 0x30000000) / 0x10000) →
      (s.sector n).crc.isSome = true →
      ∃ t, exec (.flashCommandDone true w pass jf corr mb unc) s = .next t
        ∧ t.flash = { s.flash with ops := r }
        ∧ s.flashEnds t (some (if (s.sector n).crc = some (s.sectorCrc n) then 0 else 0xA)) none = true
        ∧ t = { s with regs := t.regs, irq := t.irq, now := max s.now w, flash := t.flash }
        ∧ (∀ adr, adr ∉ (R.FLASH_STAT :: coalesced : List Nat) → t.rd adr = s.rd adr)
        ∧ (∀ num dr, num ∉ ([840, 841] : List Nat) → t.slot num dr = s.slot num dr)) ∧
  (∀ (w : Nat) (pass : Bool) (jf : Fin 4) (corr : Fin 4096) (mb : Fin 4) (unc : Fin 4096) (o : FlashOp) (r : List FlashOp) (n : Nat) (s : State),
      s.flash.ops = o :: r →
      (o.op = 4 ∧ o.susp = false ∧ 0x30000000 ≤ o.addr ∧ n = (o.addr - 0x30000000) / 0x10000) →
      (s.sector n).crc = none →
      ∃ t, exec (.flashCommandDone true w pass jf corr mb unc) s = .next t
        ∧ t.flash = { s.flash with ops := r }
        ∧ (if t.get F.FLASH_STAT_CF_CODE = 0 then s.flashEnds t (some 0) none else s.flashEnds t (some 0xA) none) = true
        ∧ t = { s with regs := t.regs, irq := t.irq, now := max s.now w, flash := t.flash, free := s.free + 1 }
        ∧ (∀ adr, adr ∉ (R.FLASH_STAT :: coalesced : List Nat) → t.rd adr = s.rd adr)
        ∧ (∀ num dr, num ∉ ([840, 841] : List Nat) → t.slot num dr = s.slot num dr)) ∧
  (∀ (w : Nat) (pass : Bool) (jf : Fin 4) (corr : Fin 4096) (mb : Fin 4) (unc : Fin 4096) (o : FlashOp) (r : List FlashOp) (n : Nat) (s : State),
      s.flash.ops = o :: r →
      (o.op = 5 ∧ o.susp = false ∧ 0x30000000 ≤ o.addr ∧ n = (o.addr - 0x30000000) / 0x10000) →
      ∃ t, exec (.flashCommandDone true w pass jf corr mb unc) s = .next t
        ∧ t.flash = { s.flash with ops := r }
        ∧ (t.get F.FLASH_MARGIN_UNCORR = unc.val ∧ t.get F.FLASH_MARGIN_MAXBITS = mb.val ∧ t.get F.FLASH_MARGIN_CORR_WORDS = corr.val)
        ∧ s.flashEnds t (some 0) none = true
        ∧ t = { s with regs := t.regs, irq := t.irq, now := max s.now w, flash := t.flash }
        ∧ (∀ adr, adr ∉ (R.FLASH_STAT :: R.FLASH_MARGIN :: coalesced : List Nat) → t.rd adr = s.rd adr)
        ∧ (∀ num dr, num ∉ ([840] : List Nat) → t.slot num dr = s.slot num dr)) ∧
  (∀ (w : Nat) (pass : Bool) (jf : Fin 4) (corr : Fin 4096) (mb : Fin 4) (unc : Fin 4096) (o : FlashOp) (s : State),
      s.flash.pfOp = some o →
      o.op = 8 →
      ∃ t, exec (.flashCommandDone false w pass jf corr mb unc) s = .next t
        ∧ Sparse.get (fun _ => none) t.flash.pf ((o.addr - 0x33000000) / 16) = some (BitVec.ofNat 128 (numLE ((List.range 16).map fun i => bufByte o.buf (R.FLASH_PF_DATA 0) i)))
        ∧ t.flash = { s.flash with pf := t.flash.pf, pfOp := none, pfBad := if pass = true then s.flash.pfBad else (o.addr - 0x33000000) / 16 :: s.flash.pfBad }
        ∧ s.flashEnds t none (some 0) = true
        ∧ t = { s with regs := t.regs, irq := t.irq, now := max s.now w, flash := t.flash }
        ∧ (∀ adr, adr ∉ (R.FLASH_STAT :: coalesced : List Nat) → t.rd adr = s.rd adr)
        ∧ (∀ num dr, num ∉ ([842] : List Nat) → t.slot num dr = s.slot num dr)
        ∧ (∀ key, key ∉ ([(o.addr - 0x33000000) / 16] : List Nat) → Sparse.get (fun _ => none) t.flash.pf key = Sparse.get (fun _ => none) s.flash.pf key)) ∧
  (∀ (w : Nat) (pass : Bool) (jf : Fin 4) (corr : Fin 4096) (mb : Fin 4) (unc : Fin 4096) (o : FlashOp) (s : State),
      s.flash.pfOp = some o →
      o.op = 9 →
      ∃ t, exec (.flashCommandDone false w pass jf corr mb unc) s = .next t
        ∧ (pass = true → ∀ k : Nat, k < 256 → Sparse.get (fun _ => none) t.flash.pf ((o.addr - 0x33000000) / 16 + k) = none)
        ∧ (pass = false → t.flash.pf = s.flash.pf)
        ∧ t.flash = { s.flash with pf := t.flash.pf, pfOp := none, pfBad := (if pass = true then [] else (List.range 256).map fun i => (o.addr - 0x33000000) / 16 + i) ++ s.flash.pfBad.filter fun p => decide (p < (o.addr - 0x33000000) / 16 ∨ (o.addr - 0x33000000) / 16 + 256 ≤ p) }
        ∧ s.flashEnds t none (some 0) = true
        ∧ t = { s with regs := t.regs, irq := t.irq, now := max s.now w, flash := t.flash }
        ∧ (∀ adr, adr ∉ (R.FLASH_STAT :: coalesced : List Nat) → t.rd adr = s.rd adr)
        ∧ (∀ num dr, num ∉ ([842] : List Nat) → t.slot num dr = s.slot num dr)
        ∧ (∀ key, (key < (o.addr - 0x33000000) / 16 ∨ (o.addr - 0x33000000) / 16 + 256 ≤ key) → Sparse.get (fun _ => none) t.flash.pf key = Sparse.get (fun _ => none) s.flash.pf key)) ∧
  (∀ (k : Nat) (s : State),
      k < 192 →
      ((s.compacted.recs[k]?).join = some { type := 6, sector := 4 * k, seq := s.flash.seq + k + 1, erases := (s.sector (4 * k)).erases, data := ((List.range 4).map fun i => bytesLE 4 (if 4 * k + i = 767 then 0 else (if (s.sector (4 * k + i)).state = 0 then 0x40000000 else 0) + (s.sector (4 * k + i)).erases % 2 ^ 24)).flatten })
        ∧ s.compacted.recs.length = 192 + (if s.flash.select.isSome then 1 else 0)
        ∧ (s.flash.select.isSome = true → (s.compacted.recs[192]?).join = some { type := 5, sector := 0xFFFF, seq := s.flash.seq + 193, erases := 0, data := s.flash.select.getD [] })
        ∧ s.compacted.header = some { type := 1, sector := 0xFFFF, seq := s.flash.seq + 193 + (if s.flash.select.isSome then 1 else 0), erases := 0, data := bytesLE 4 (s.journalHalf.generation.getD 0 + 1) ++ List.replicate 12 0 }) ∧
  (∀ (w : Nat) (jf : Fin 4) (s : State),
      s.flash.after = none →
      ∃ t, exec (.compactionDone w jf) s = .next t
        ∧ t = { s with now := max s.now w }) ∧
  (∀ (w : Nat) (jf : Fin 4) (o : FlashOp) (s : State),
      s.flash.after = some o →
      o.op ∈ ([1, 3, 4, 5] : List Nat) →
      ∃ t, exec (.compactionDone w jf) s = .next t
        ∧ t.isPending 846 = true
        ∧ (t.flash.half = !s.flash.half ∧ t.flash.after = none ∧ (if s.flash.half then t.flash.j1 else t.flash.j0) = {})
        ∧ t.journalHalf = s.compacted
        ∧ t.flash.seq = (s.flash.seq + 193 + (if s.flash.select.isSome then 1 else 0))
        ∧ t.flash = { s.flash with j0 := t.flash.j0, j1 := t.flash.j1, half := t.flash.half, seq := t.flash.seq, sectors := t.flash.sectors, after := none, ops := o :: s.flash.ops }
        ∧ s.flashEnds t none none = true
        ∧ t.bit F.CFG_UPD_STAT_STALE = (s.bit F.CFG_UPD_STAT_STALE || decide (o.op = 1 ∧ s.get F.CFG_UPD_STAT_STATE = 2 ∧ (o.addr - 0x30000000) / 0x10000 / 224 + s.primarySlot = 3))
        ∧ (∀ k : Nat, k < 32 → k ≠ F.CFG_UPD_STAT_STALE.lo → t.bitAt R.CFG_UPD_STAT k = s.bitAt R.CFG_UPD_STAT k)
        ∧ t = { s with regs := t.regs, irq := t.irq, now := max s.now w, flash := t.flash }
        ∧ (∀ adr, adr ∉ (R.FLASH_STAT :: R.CFG_UPD_STAT :: coalesced : List Nat) → t.rd adr = s.rd adr)
        ∧ (∀ num dr, num ∉ ([846] : List Nat) → t.slot num dr = s.slot num dr)
        ∧ (∀ key, t.sector key = { s.sector key with crc := none })) ∧
  (∀ (w : Nat) (jf : Fin 4) (o : FlashOp) (s : State),
      s.flash.after = some o →
      o.op ∈ ([8, 9] : List Nat) →
      ∃ t, exec (.compactionDone w jf) s = .next t
        ∧ t.isPending 846 = true
        ∧ (t.flash.half = !s.flash.half ∧ t.flash.after = none ∧ (if s.flash.half then t.flash.j1 else t.flash.j0) = {})
        ∧ t.journalHalf = s.compacted
        ∧ t.flash.seq = (s.flash.seq + 193 + (if s.flash.select.isSome then 1 else 0))
        ∧ t.flash = { s.flash with j0 := t.flash.j0, j1 := t.flash.j1, half := t.flash.half, seq := t.flash.seq, sectors := t.flash.sectors, after := none, pfOp := some o }
        ∧ s.flashEnds t none none = true
        ∧ t = { s with regs := t.regs, irq := t.irq, now := max s.now w, flash := t.flash }
        ∧ (∀ adr, adr ∉ (R.FLASH_STAT :: coalesced : List Nat) → t.rd adr = s.rd adr)
        ∧ (∀ num dr, num ∉ ([846] : List Nat) → t.slot num dr = s.slot num dr)
        ∧ (∀ key, t.sector key = { s.sector key with crc := none })) ∧
  (∀ (w : Nat) (jf : Fin 4) (o : FlashOp) (s : State),
      s.flash.after = some o →
      o.op = 2 →
      jf.val < 3 →
      ∃ t, exec (.compactionDone w jf) s = .next t
        ∧ t.isPending 846 = true
        ∧ (t.flash.half = !s.flash.half ∧ t.flash.after = none ∧ (if s.flash.half then t.flash.j1 else t.flash.j0) = {})
        ∧ t.journalHalf = { s.compacted with recs := s.compacted.recs ++ List.replicate jf.val none ++ [some { type := 2, sector := ((o.addr - 0x30000000) / 0x10000), seq := (s.flash.seq + 193 + (if s.flash.select.isSome then 1 else 0)) + 1, erases := (s.sector ((o.addr - 0x30000000) / 0x10000)).erases + 1, data := [] }] }
        ∧ t.flash.seq = (s.flash.seq + 193 + (if s.flash.select.isSome then 1 else 0)) + 1
        ∧ t.sector ((o.addr - 0x30000000) / 0x10000) = { state := 1, pages := (s.sector ((o.addr - 0x30000000) / 0x10000)).pages, erases := (s.sector ((o.addr - 0x30000000) / 0x10000)).erases + 1 }
        ∧ t.flash = { s.flash with j0 := t.flash.j0, j1 := t.flash.j1, half := t.flash.half, seq := t.flash.seq, sectors := t.flash.sectors, after := none, ops := o :: s.flash.ops }
        ∧ s.flashEnds t none none = true
        ∧ t.bit F.CFG_UPD_STAT_STALE = (s.bit F.CFG_UPD_STAT_STALE || decide (s.get F.CFG_UPD_STAT_STATE = 2 ∧ ((o.addr - 0x30000000) / 0x10000) / 224 + s.primarySlot = 3))
        ∧ (∀ k : Nat, k < 32 → k ≠ F.CFG_UPD_STAT_STALE.lo → t.bitAt R.CFG_UPD_STAT k = s.bitAt R.CFG_UPD_STAT k)
        ∧ t = { s with regs := t.regs, irq := t.irq, now := max s.now w, flash := t.flash }
        ∧ (∀ adr, adr ∉ (R.FLASH_STAT :: R.CFG_UPD_STAT :: coalesced : List Nat) → t.rd adr = s.rd adr)
        ∧ (∀ num dr, num ∉ ([846] : List Nat) → t.slot num dr = s.slot num dr)
        ∧ (∀ key, key ∉ ([((o.addr - 0x30000000) / 0x10000)] : List Nat) → t.sector key = { s.sector key with crc := none })) ∧
  (∀ (w : Nat) (jf : Fin 4) (o : FlashOp) (s : State),
      s.flash.after = some o →
      o.op = 2 →
      jf.val = 3 →
      ∃ t, exec (.compactionDone w jf) s = .next t
        ∧ t.isPending 846 = true
        ∧ (t.flash.half = !s.flash.half ∧ t.flash.after = none ∧ (if s.flash.half then t.flash.j1 else t.flash.j0) = {})
        ∧ t.journalHalf = s.compacted
        ∧ t.flash.seq = (s.flash.seq + 193 + (if s.flash.select.isSome then 1 else 0))
        ∧ t.flash = { s.flash with j0 := t.flash.j0, j1 := t.flash.j1, half := t.flash.half, seq := t.flash.seq, sectors := t.flash.sectors, after := none }
        ∧ s.flashEnds t (some 0xB) none = true
        ∧ t.isPending 847 = true
        ∧ t = { s with regs := t.regs, irq := t.irq, now := max s.now w, flash := t.flash }
        ∧ (∀ adr, adr ∉ (R.FLASH_STAT :: coalesced : List Nat) → t.rd adr = s.rd adr)
        ∧ (∀ num dr, num ∉ ([840, 841, 846, 847] : List Nat) → t.slot num dr = s.slot num dr)
        ∧ (∀ key, t.sector key = { s.sector key with crc := none })) ∧
  (∀ (w : Nat) (jf : Fin 4) (o : FlashOp) (s : State),
      s.flash.after = some o →
      o.op = 15 →
      jf.val < 3 →
      ∃ t, exec (.compactionDone w jf) s = .next t
        ∧ t.isPending 846 = true
        ∧ (t.flash.half = !s.flash.half ∧ t.flash.after = none ∧ (if s.flash.half then t.flash.j1 else t.flash.j0) = {})
        ∧ t.journalHalf = { s.compacted with recs := s.compacted.recs ++ List.replicate jf.val none ++ [some { type := 5, sector := 0xFFFF, seq := (s.flash.seq + 193 + (if s.flash.select.isSome then 1 else 0)) + 1, erases := 0, data := ([s.stagingSlot, 0, 0, 0, 0, 0, 0, 0] ++ (let b := 0x30000000 + s.stagingSlot * 0xE00000; if numBE (s.cfBytes b 4) = 0x43364348 then bytesLE 8 (numBE (s.cfBytes (b + 12) 4)) else bytesLE 8 (numBE (s.cfBytes (b + 16) 8)))) }] }
        ∧ t.flash.seq = (s.flash.seq + 193 + (if s.flash.select.isSome then 1 else 0)) + 1
        ∧ t.flash = { s.flash with j0 := t.flash.j0, j1 := t.flash.j1, half := t.flash.half, seq := t.flash.seq, sectors := t.flash.sectors, after := none, select := some ([s.stagingSlot, 0, 0, 0, 0, 0, 0, 0] ++ (let b := 0x30000000 + s.stagingSlot * 0xE00000; if numBE (s.cfBytes b 4) = 0x43364348 then bytesLE 8 (numBE (s.cfBytes (b + 12) 4)) else bytesLE 8 (numBE (s.cfBytes (b + 16) 8)))) }
        ∧ (t.bit F.CFG_UPD_CTL_PROMOTE = false ∧ t.isPending 826 = true)
        ∧ s.flashEnds t none none = true
        ∧ t = { s with regs := t.regs, irq := t.irq, now := max s.now w, flash := t.flash }
        ∧ (∀ adr, adr ∉ (R.FLASH_STAT :: R.CFG_UPD_CTL :: coalesced : List Nat) → t.rd adr = s.rd adr)
        ∧ (∀ num dr, num ∉ ([846, 826] : List Nat) → t.slot num dr = s.slot num dr)
        ∧ (∀ key, t.sector key = { s.sector key with crc := none })) ∧
  (∀ (w : Nat) (jf : Fin 4) (o : FlashOp) (s : State),
      s.flash.after = some o →
      o.op = 15 →
      jf.val = 3 →
      ∃ t, exec (.compactionDone w jf) s = .next t
        ∧ t.isPending 846 = true
        ∧ (t.flash.half = !s.flash.half ∧ t.flash.after = none ∧ (if s.flash.half then t.flash.j1 else t.flash.j0) = {})
        ∧ t.journalHalf = s.compacted
        ∧ t.flash.seq = (s.flash.seq + 193 + (if s.flash.select.isSome then 1 else 0))
        ∧ t.flash = { s.flash with j0 := t.flash.j0, j1 := t.flash.j1, half := t.flash.half, seq := t.flash.seq, sectors := t.flash.sectors, after := none }
        ∧ (t.bit F.CFG_UPD_CTL_PROMOTE = false ∧ t.bit F.CFG_UPD_STAT_PROMOTE_REFUSED = true ∧ t.isPending 847 = true)
        ∧ s.flashEnds t none none = true
        ∧ t = { s with regs := t.regs, irq := t.irq, now := max s.now w, flash := t.flash }
        ∧ (∀ adr, adr ∉ (R.FLASH_STAT :: R.CFG_UPD_CTL :: R.CFG_UPD_STAT :: coalesced : List Nat) → t.rd adr = s.rd adr)
        ∧ (∀ num dr, num ∉ ([846, 847] : List Nat) → t.slot num dr = s.slot num dr)
        ∧ (∀ key, t.sector key = { s.sector key with crc := none })) ∧
  (∀ (ini : Initiator) (fwp : Bool) (k o c : Nat) (s : State),
      s.sends ini true R.OTP_CTL = true →
      (k = s.get F.OTP_ADDR_WORD ∧ o = 8 * k) →
      (c = (if s.alive = false then 1 else if (if o < 0x100 ∨ 0x1000 ≤ o ∧ o < 0x1100 ∨ 0x1180 ≤ o ∧ o < 0x1240 then false else if 0x100 ≤ o ∧ o < 0x120 ∨ 0x200 ≤ o ∧ o < 0x408 ∨ 0x500 ≤ o ∧ o < 0x548 ∨ 0x800 ≤ o ∧ o < 0x1000 ∨ 0x1100 ≤ o ∧ o < 0x1180 then decide (s.get F.SEC_STAT_LIFECYCLE ≠ 0) else if 0x580 ≤ o ∧ o < 0x5A0 ∨ 0x2000 ≤ o ∧ o < 0x4000 then decide (s.get F.SEC_STAT_LIFECYCLE ≠ 0 ∧ s.mode ≠ M.provision) else true) = true then 1 else if s.flash.otpOp.isSome = true then 3 else if fwp = false then 4 else if (s.otpWord? k).isSome = true then 9 else if o < 0x100 ∨ 0x1000 ≤ o ∧ o < 0x1100 ∨ 0x1180 ≤ o ∧ o < 0x1240 then 0xC else 0)) →
      c = 0 →
      ∃ t, exec (.otpProgram ini fwp) s = .next t
        ∧ t.respCode ini = 0
        ∧ t.flash = { s.flash with fwp := fwp, otpOp := some (k, s.rd R.OTP_DATA_HI ++ s.rd R.OTP_DATA_LO) }
        ∧ (t.bit F.OTP_CTL_GO = true ∧ t.bit F.OTP_STAT_BUSY = true ∧ t.get F.OTP_STAT_CODE = s.get F.OTP_STAT_CODE)
        ∧ t = { s with regs := t.regs, flash := t.flash, spine := t.spine, sec := { s.sec with tapOut := t.sec.tapOut } }
        ∧ (∀ adr, adr ∉ ([R.OTP_STAT, R.OTP_CTL] : List Nat) → t.rd adr = s.rd adr)) ∧
  (∀ (ini : Initiator) (fwp : Bool) (k o c : Nat) (s : State),
      s.sends ini true R.OTP_CTL = true →
      (k = s.get F.OTP_ADDR_WORD ∧ o = 8 * k) →
      (c = (if s.alive = false then 1 else if (if o < 0x100 ∨ 0x1000 ≤ o ∧ o < 0x1100 ∨ 0x1180 ≤ o ∧ o < 0x1240 then false else if 0x100 ≤ o ∧ o < 0x120 ∨ 0x200 ≤ o ∧ o < 0x408 ∨ 0x500 ≤ o ∧ o < 0x548 ∨ 0x800 ≤ o ∧ o < 0x1000 ∨ 0x1100 ≤ o ∧ o < 0x1180 then decide (s.get F.SEC_STAT_LIFECYCLE ≠ 0) else if 0x580 ≤ o ∧ o < 0x5A0 ∨ 0x2000 ≤ o ∧ o < 0x4000 then decide (s.get F.SEC_STAT_LIFECYCLE ≠ 0 ∧ s.mode ≠ M.provision) else true) = true then 1 else if s.flash.otpOp.isSome = true then 3 else if fwp = false then 4 else if (s.otpWord? k).isSome = true then 9 else if o < 0x100 ∨ 0x1000 ≤ o ∧ o < 0x1100 ∨ 0x1180 ≤ o ∧ o < 0x1240 then 0xC else 0)) →
      c ≠ 0 →
      ∃ t, exec (.otpProgram ini fwp) s = .next t
        ∧ t.respCode ini = 0
        ∧ t.flash = { s.flash with fwp := fwp }
        ∧ (t.get F.OTP_STAT_CODE = c ∧ t.bit F.OTP_STAT_BUSY = s.flash.otpOp.isSome ∧ t.isPending 848 = true ∧ t.isPending 849 = true)
        ∧ t = { s with regs := t.regs, irq := t.irq, flash := t.flash, spine := t.spine, sec := { s.sec with tapOut := t.sec.tapOut } }
        ∧ (∀ adr, adr ∉ (R.OTP_STAT :: coalesced : List Nat) → t.rd adr = s.rd adr)
        ∧ (∀ num dr, num ∉ ([848, 849] : List Nat) → t.slot num dr = s.slot num dr)) ∧
  (∀ (pass : Bool) (s : State),
      s.flash.otpOp = none →
      ∃ t, exec (.otpProgramDone pass) s = .next t
        ∧ t = s) ∧
  (∀ (pass : Bool) (k : Nat) (v : BitVec 64) (s : State),
      s.flash.otpOp = some (k, v) →
      ∃ t, exec (.otpProgramDone pass) s = .next t
        ∧ t.otpWord? k = some v
        ∧ t.flash = { s.flash with otp := t.flash.otp, otpOp := none, otpBad := if pass = true then s.flash.otpBad else k :: s.flash.otpBad }
        ∧ (t.get F.OTP_STAT_CODE = (if pass = true then 0 else 7) ∧ t.bit F.OTP_STAT_BUSY = false ∧ t.bit F.OTP_CTL_GO = false ∧ t.isPending 848 = true)
        ∧ (pass = false → t.isPending 849 = true)
        ∧ t = { s with regs := t.regs, irq := t.irq, flash := t.flash }
        ∧ (∀ adr, adr ∉ (R.OTP_CTL :: R.OTP_STAT :: coalesced : List Nat) → t.rd adr = s.rd adr)
        ∧ (∀ num dr, num ∉ (if pass = true then [848] else [848, 849] : List Nat) → t.slot num dr = s.slot num dr)
        ∧ (∀ key, key ∉ ([k] : List Nat) → t.otpWord? key = s.otpWord? key))

/-- A stop of the supply enters RESET with cause SUPPLY_STOP and shuts the rails down (parts of R16, R22, R410, R432, R434, R435, R436, R437, R449, R502). An entry to RESET leaves every unit afresh and each register at its reset value, but for those of the mode, the supply fault and the lost phases; what the memories held is lost, and a flash operation is abandoned. A rail fault counts as a failed attempt; below three in a row the rails start again 100 ms later. (1) VIN falls through 3.9 V: kind 1; the count of failed attempts returns to 0. (2) VIN rises through 19.5 V: kind 2. (3) The bellows die reaches 130 °C: kind 3. (4) A comparator that already stops the supply does so no more. (5) A rail is low for 10 µs, or in overcurrent, while the rails are good: kind 4, or 6, and the rail. (6) Rails that are not good have no rail fault. (7) While the rails still start, a rail fault shuts them down in RESET, where the cause kept stays: the model's choice. Readings and choices of the model that it rests on: log entries 94, 106, 158. -/
def Obligations.SupplyStops : Prop :=
  (∀ (w : Nat) (s : State),
      s.supply.uvlo = false →
      ∃ t, exec (.uvloFall w) s = .next t
        ∧ { s with now := max s.now w }.wentToReset t 2 true = true
        ∧ (t.get F.PWR_RAIL_FAULT_KIND = 1 ∧ t.get F.PWR_RAIL_FAULT_RAIL = 0)
        ∧ t.supply = { s.supply with uvlo := true, rails := false, starting := false, fails := 0, retryAt := none, testing := 0 }
        ∧ (List.range 23).all t.domOn = true
        ∧ (∀ adr, adr ∉ ([R.SYS_MODE, R.PWR_RAIL_FAULT, R.PWR_PHASE_STAT, R.SYS_SPARED, R.SYS_HOLD_CAUSES] : List Nat) → t.rd adr = regReset adr)) ∧
  (∀ (w : Nat) (s : State),
      s.supply.overvolt = false →
      ∃ t, exec (.overvoltageStop w) s = .next t
        ∧ { s with now := max s.now w }.wentToReset t 2 true = true
        ∧ (t.get F.PWR_RAIL_FAULT_KIND = 2 ∧ t.get F.PWR_RAIL_FAULT_RAIL = 0)
        ∧ t.supply = { s.supply with overvolt := true, rails := false, starting := false, retryAt := none, testing := 0 }
        ∧ (List.range 23).all t.domOn = true
        ∧ (∀ adr, adr ∉ ([R.SYS_MODE, R.PWR_RAIL_FAULT, R.PWR_PHASE_STAT, R.SYS_SPARED, R.SYS_HOLD_CAUSES] : List Nat) → t.rd adr = regReset adr)) ∧
  (∀ (w : Nat) (s : State),
      s.supply.hot = false →
      ∃ t, exec (.thermalStop w) s = .next t
        ∧ { s with now := max s.now w }.wentToReset t 2 true = true
        ∧ (t.get F.PWR_RAIL_FAULT_KIND = 3 ∧ t.get F.PWR_RAIL_FAULT_RAIL = 0)
        ∧ t.supply = { s.supply with hot := true, rails := false, starting := false, retryAt := none, testing := 0 }
        ∧ (List.range 23).all t.domOn = true
        ∧ (∀ adr, adr ∉ ([R.SYS_MODE, R.PWR_RAIL_FAULT, R.PWR_PHASE_STAT, R.SYS_SPARED, R.SYS_HOLD_CAUSES] : List Nat) → t.rd adr = regReset adr)) ∧
  (∀ (w : Nat) (k : Nat) (i : Instr) (s : State),
      (k, i) ∈ ([(0, .uvloFall w), (1, .overvoltageStop w), (2, .thermalStop w)] : List (Nat × Instr)) →
      (if k = 0 then s.supply.uvlo else if k = 1 then s.supply.overvolt else s.supply.hot) = true →
      ∃ t, exec i s = .next t
        ∧ t = { s with now := max s.now w }) ∧
  (∀ (rail : Fin 4) (oc : Bool) (w : Nat) (s : State),
      s.supply.rails = true →
      s.supply.starting = false →
      ∃ t, exec (.railFault rail oc w) s = .next t
        ∧ { s with now := max s.now w }.wentToReset t 2 true = true
        ∧ (t.get F.PWR_RAIL_FAULT_KIND = (if oc = true then 6 else 4) ∧ t.get F.PWR_RAIL_FAULT_RAIL = rail.val + 1)
        ∧ t.supply = { s.supply with rails := false, fails := s.supply.fails + 1, testing := 0, retryAt := if s.supply.fails + 1 < 3 then some (max s.now w + 40000000) else none }
        ∧ (List.range 23).all t.domOn = true
        ∧ (∀ adr, adr ∉ ([R.SYS_MODE, R.PWR_RAIL_FAULT, R.PWR_PHASE_STAT, R.SYS_SPARED, R.SYS_HOLD_CAUSES] : List Nat) → t.rd adr = regReset adr)) ∧
  (∀ (rail : Fin 4) (oc : Bool) (w : Nat) (s : State),
      s.supply.rails = false →
      ∃ t, exec (.railFault rail oc w) s = .next t
        ∧ t = { s with now := max s.now w }) ∧
  (∀ (rail : Fin 4) (oc : Bool) (w : Nat) (s : State),
      s.supply.rails = true →
      s.supply.starting = true →
      ∃ t, exec (.railFault rail oc w) s = .next t
        ∧ (t.get F.PWR_RAIL_FAULT_KIND = (if oc = true then 6 else 4) ∧ t.get F.PWR_RAIL_FAULT_RAIL = rail.val + 1)
        ∧ t.supply = { s.supply with starting := false, rails := false, fails := s.supply.fails + 1, testing := 0, retryAt := if s.supply.fails + 1 < 3 then some (max s.now w + 40000000) else none }
        ∧ t = { s with regs := t.regs, now := max s.now w, supply := t.supply }
        ∧ (∀ adr, adr ∉ ([R.PWR_RAIL_FAULT] : List Nat) → t.rd adr = s.rd adr))

/-- The rails start, are good, fail to start and are retried (parts of R16, R22, R432, R434, R435, R436, R454). The rails start when no comparator stops them, fewer than three attempts in a row have failed, and they are neither good nor starting: all six phases come up afresh. What a clause does not name stays. (1) VIN falls back through 19.0 V: the rails start. (2) Where they may not start, only the comparator changes. (3) The bellows die falls through 115 °C: the rails start. (4) Where they may not start, only the comparator changes. (5) VIN rises through 4.2 V: the rails start; whether the bellows AON domain was unpowered is open, and if so the supply fault is forgotten and the next CAUSE is POWER_ON. (6) Where they may not start, only the comparator changes, and what the AON domain forgot. (7) A comparator that does not stop the supply has nothing to release. (8) 100 ms after the shutdown the rails start again. (9) Where they may not, the retry is done with. (10) RAIL_RETRY before its time, or with none due: nothing. (11) RAILS_GOOD ends the start; the band table of OTP is copied, or the nominal one where its CRC fails or a word of it is uncorrectable, with BANDS_BAD. (12) A rail that is not good within 2 ms of its ramp, the first of which begins 0.25 ms after the start: the rails shut down, the attempt counts, and below three in a row the start is retried after 100 ms. RAIL_FAULT names the rail, kind 5; the cause kept stays, by the model's choice. (13) RAILS_GOOD or RAIL_START_TIMEOUT with no start in progress, or the latter earlier: nothing. (14) Rails good for 1 s: the count of failed attempts is 0; wheel time that began at 0 meanwhile counts from before that. (15) Else FAIL_COUNT_CLEAR does nothing. Readings and choices of the model that it rests on: log entries 97, 106, 158, 174. -/
def Obligations.SupplyStarts : Prop :=
  (∀ (w : Nat) (s : State),
      s.supply.overvolt = true →
      s.supply.rails = false →
      s.supply.starting = false →
      s.supply.uvlo = false →
      s.supply.hot = false →
      s.supply.fails < 3 →
      ∃ t, exec (.overvoltageRelease w) s = .next t
        ∧ t.supply = { s.supply with overvolt := false, starting := true, retryAt := none, testing := 0, since := max s.now w, before := 0 }
        ∧ (t.get F.PWR_PHASE_STAT_LOST = 0 ∧ t.bit F.SYS_SPARED_VPHASE = false ∧ t.bit F.SYS_HOLD_CAUSES_VCORE_CAPACITY = false)
        ∧ (∀ k : Nat, k < 32 → (k ≠ F.SYS_SPARED_VPHASE.lo → t.bitAt R.SYS_SPARED k = s.bitAt R.SYS_SPARED k) ∧ (k ≠ F.SYS_HOLD_CAUSES_VCORE_CAPACITY.lo → t.bitAt R.SYS_HOLD_CAUSES k = s.bitAt R.SYS_HOLD_CAUSES k))
        ∧ t = { s with regs := t.regs, now := max s.now w, supply := t.supply }
        ∧ (∀ adr, adr ∉ ([R.PWR_PHASE_STAT, R.SYS_SPARED, R.SYS_HOLD_CAUSES] : List Nat) → t.rd adr = s.rd adr)) ∧
  (∀ (w : Nat) (s : State),
      s.supply.overvolt = true →
      (s.supply.rails = true ∨ s.supply.starting = true ∨ s.supply.uvlo = true ∨ s.supply.hot = true ∨ 3 ≤ s.supply.fails) →
      ∃ t, exec (.overvoltageRelease w) s = .next t
        ∧ t.supply = { s.supply with overvolt := false }
        ∧ t = { s with now := max s.now w, supply := t.supply }) ∧
  (∀ (w : Nat) (s : State),
      s.supply.hot = true →
      s.supply.rails = false →
      s.supply.starting = false →
      s.supply.uvlo = false →
      s.supply.overvolt = false →
      s.supply.fails < 3 →
      ∃ t, exec (.thermalStopRelease w) s = .next t
        ∧ t.supply = { s.supply with hot := false, starting := true, retryAt := none, testing := 0, since := max s.now w, before := 0 }
        ∧ (t.get F.PWR_PHASE_STAT_LOST = 0 ∧ t.bit F.SYS_SPARED_VPHASE = false ∧ t.bit F.SYS_HOLD_CAUSES_VCORE_CAPACITY = false)
        ∧ (∀ k : Nat, k < 32 → (k ≠ F.SYS_SPARED_VPHASE.lo → t.bitAt R.SYS_SPARED k = s.bitAt R.SYS_SPARED k) ∧ (k ≠ F.SYS_HOLD_CAUSES_VCORE_CAPACITY.lo → t.bitAt R.SYS_HOLD_CAUSES k = s.bitAt R.SYS_HOLD_CAUSES k))
        ∧ t = { s with regs := t.regs, now := max s.now w, supply := t.supply }
        ∧ (∀ adr, adr ∉ ([R.PWR_PHASE_STAT, R.SYS_SPARED, R.SYS_HOLD_CAUSES] : List Nat) → t.rd adr = s.rd adr)) ∧
  (∀ (w : Nat) (s : State),
      s.supply.hot = true →
      (s.supply.rails = true ∨ s.supply.starting = true ∨ s.supply.uvlo = true ∨ s.supply.overvolt = true ∨ 3 ≤ s.supply.fails) →
      ∃ t, exec (.thermalStopRelease w) s = .next t
        ∧ t.supply = { s.supply with hot := false }
        ∧ t = { s with now := max s.now w, supply := t.supply }) ∧
  (∀ (w : Nat) (s : State),
      s.supply.uvlo = true →
      s.supply.rails = false →
      s.supply.starting = false →
      s.supply.overvolt = false →
      s.supply.hot = false →
      s.supply.fails < 3 →
      ∃ t, exec (.uvloRise w) s = .next t
        ∧ t.supply = { s.supply with uvlo := false, starting := true, retryAt := none, testing := 0, since := max s.now w, before := 0 }
        ∧ (t.get F.PWR_PHASE_STAT_LOST = 0 ∧ t.bit F.SYS_SPARED_VPHASE = false ∧ t.bit F.SYS_HOLD_CAUSES_VCORE_CAPACITY = false)
        ∧ (∀ k : Nat, k < 32 → (k ≠ F.SYS_SPARED_VPHASE.lo → t.bitAt R.SYS_SPARED k = s.bitAt R.SYS_SPARED k) ∧ (k ≠ F.SYS_HOLD_CAUSES_VCORE_CAPACITY.lo → t.bitAt R.SYS_HOLD_CAUSES k = s.bitAt R.SYS_HOLD_CAUSES k))
        ∧ (t.modeCtl = s.modeCtl ∧ t.rd R.PWR_RAIL_FAULT = s.rd R.PWR_RAIL_FAULT ∧ t.rd R.SYS_MODE = s.rd R.SYS_MODE ∨ t.modeCtl = { s.modeCtl with fresh := true, aonCause := 0 } ∧ t.rd R.PWR_RAIL_FAULT = 0 ∧ t.get F.SYS_MODE_CAUSE = 0 ∧ t.get F.SYS_MODE_PREV = s.get F.SYS_MODE_PREV ∧ t.mode = s.mode)
        ∧ t = { s with regs := t.regs, now := max s.now w, free := s.free + 1, modeCtl := t.modeCtl, supply := t.supply }
        ∧ (∀ adr, adr ∉ (R.SYS_MODE :: R.PWR_RAIL_FAULT :: [R.PWR_PHASE_STAT, R.SYS_SPARED, R.SYS_HOLD_CAUSES] : List Nat) → t.rd adr = s.rd adr)) ∧
  (∀ (w : Nat) (s : State),
      s.supply.uvlo = true →
      (s.supply.rails = true ∨ s.supply.starting = true ∨ s.supply.overvolt = true ∨ s.supply.hot = true ∨ 3 ≤ s.supply.fails) →
      ∃ t, exec (.uvloRise w) s = .next t
        ∧ t.supply = { s.supply with uvlo := false }
        ∧ (t.modeCtl = s.modeCtl ∧ t.rd R.PWR_RAIL_FAULT = s.rd R.PWR_RAIL_FAULT ∧ t.rd R.SYS_MODE = s.rd R.SYS_MODE ∨ t.modeCtl = { s.modeCtl with fresh := true, aonCause := 0 } ∧ t.rd R.PWR_RAIL_FAULT = 0 ∧ t.get F.SYS_MODE_CAUSE = 0 ∧ t.get F.SYS_MODE_PREV = s.get F.SYS_MODE_PREV ∧ t.mode = s.mode)
        ∧ t = { s with regs := t.regs, now := max s.now w, free := s.free + 1, modeCtl := t.modeCtl, supply := t.supply }
        ∧ (∀ adr, adr ∉ ([R.SYS_MODE, R.PWR_RAIL_FAULT] : List Nat) → t.rd adr = s.rd adr)) ∧
  (∀ (w k : Nat) (i : Instr) (s : State),
      (k, i) ∈ ([(0, .uvloRise w), (1, .overvoltageRelease w), (2, .thermalStopRelease w)] : List (Nat × Instr)) →
      (if k = 0 then s.supply.uvlo else if k = 1 then s.supply.overvolt else s.supply.hot) = false →
      ∃ t, exec i s = .next t
        ∧ t = { s with now := max s.now w }) ∧
  (∀ (r w : Nat) (s : State),
      s.supply.retryAt = some r →
      r ≤ w →
      s.supply.rails = false →
      s.supply.starting = false →
      s.supply.uvlo = false →
      s.supply.overvolt = false →
      s.supply.hot = false →
      s.supply.fails < 3 →
      ∃ t, exec (.railRetry w) s = .next t
        ∧ t.supply = { s.supply with starting := true, retryAt := none, testing := 0, since := max s.now w, before := 0 }
        ∧ (t.get F.PWR_PHASE_STAT_LOST = 0 ∧ t.bit F.SYS_SPARED_VPHASE = false ∧ t.bit F.SYS_HOLD_CAUSES_VCORE_CAPACITY = false)
        ∧ (∀ k : Nat, k < 32 → (k ≠ F.SYS_SPARED_VPHASE.lo → t.bitAt R.SYS_SPARED k = s.bitAt R.SYS_SPARED k) ∧ (k ≠ F.SYS_HOLD_CAUSES_VCORE_CAPACITY.lo → t.bitAt R.SYS_HOLD_CAUSES k = s.bitAt R.SYS_HOLD_CAUSES k))
        ∧ t = { s with regs := t.regs, now := max s.now w, supply := t.supply }
        ∧ (∀ adr, adr ∉ ([R.PWR_PHASE_STAT, R.SYS_SPARED, R.SYS_HOLD_CAUSES] : List Nat) → t.rd adr = s.rd adr)) ∧
  (∀ (r w : Nat) (s : State),
      s.supply.retryAt = some r →
      r ≤ w →
      (s.supply.rails = true ∨ s.supply.starting = true ∨ s.supply.uvlo = true ∨ s.supply.overvolt = true ∨ s.supply.hot = true ∨ 3 ≤ s.supply.fails) →
      ∃ t, exec (.railRetry w) s = .next t
        ∧ t.supply = { s.supply with retryAt := none }
        ∧ t = { s with now := max s.now w, supply := t.supply }) ∧
  (∀ (w : Nat) (s : State),
      (∀ r ∈ (s.supply.retryAt.toList : List Nat), w < r) →
      ∃ t, exec (.railRetry w) s = .next t
        ∧ t = { s with now := max s.now w }) ∧
  (∀ (w : Nat) (bad : Bool) (s : State),
      s.supply.starting = true →
      bad = (decide (fieldLE (s.otpBytes 0x540 4) 0 4 ≠ (crc32c (s.otpBytes 0x500 64)).toNat) || (s.flash.otpBad ++ s.flash.otpUnc).any fun k => decide (0xA0 ≤ k ∧ k ≤ 0xA8)) →
      ∃ t, exec (.railsGood w) s = .next t
        ∧ t.supply = { s.supply with rails := true, starting := false, since := max s.now w, before := 0 }
        ∧ (∀ b : Nat, b < 16 → t.rd (R.CLK_BAND b) = if bad = true then nominalBand b else BitVec.ofNat 32 (fieldLE (s.otpBytes 0x500 64) (4 * b) 4) &&& 0xFFFFFFFD#32)
        ∧ t.bit F.CLK_STAT_BANDS_BAD = (bad || s.bit F.CLK_STAT_BANDS_BAD)
        ∧ (∀ k : Nat, k < 32 → k ≠ F.CLK_STAT_BANDS_BAD.lo → t.bitAt R.CLK_STAT k = s.bitAt R.CLK_STAT k)
        ∧ t = { s with regs := t.regs, now := max s.now w, supply := t.supply }
        ∧ (∀ adr, adr ∉ (R.CLK_STAT :: (List.range 16).map R.CLK_BAND : List Nat) → t.rd adr = s.rd adr)) ∧
  (∀ (rail : Fin 4) (w : Nat) (s : State),
      s.supply.starting = true →
      s.supply.since + 900000 ≤ max s.now w →
      ∃ t, exec (.railStartTimeout rail w) s = .next t
        ∧ t.supply = { s.supply with rails := false, starting := false, fails := s.supply.fails + 1, testing := 0, retryAt := if s.supply.fails + 1 < 3 then some (max s.now w + 40000000) else none }
        ∧ (t.get F.PWR_RAIL_FAULT_KIND = 5 ∧ t.get F.PWR_RAIL_FAULT_RAIL = rail.val + 1)
        ∧ t = { s with regs := t.regs, now := max s.now w, supply := t.supply }
        ∧ (∀ adr, adr ∉ ([R.PWR_RAIL_FAULT] : List Nat) → t.rd adr = s.rd adr)) ∧
  (∀ (w : Nat) (rail : Fin 4) (k : Nat) (i : Instr) (s : State),
      (k, i) ∈ ([(0, .railsGood w), (1, .railStartTimeout rail w)] : List (Nat × Instr)) →
      (s.supply.starting = false ∨ k = 1 ∧ max s.now w < s.supply.since + 900000) →
      ∃ t, exec i s = .next t
        ∧ t = { s with now := max s.now w }) ∧
  (∀ (w : Nat) (s : State),
      s.supply.rails = true →
      400000000 ≤ s.supply.before + (max s.now w - s.supply.since) →
      ∃ t, exec (.failCountClear w) s = .next t
        ∧ t = { s with now := max s.now w, supply := { s.supply with fails := 0 } }) ∧
  (∀ (w : Nat) (s : State),
      (s.supply.rails = false ∨ s.supply.before + (max s.now w - s.supply.since) < 400000000) →
      ∃ t, exec (.failCountClear w) s = .next t
        ∧ t = { s with now := max s.now w })

/-- The hold-up warning, and the loss and test of VCORE phases (parts of R20, R21, R23, R24, R25, R29, R31, R32, R35, R432, R434, R450). A HOLD cause is shown in every mode, and takes ARMED, RUN and RUN-SPARED to HOLD, unless a restart or the way to QUARANTINE is in progress. What a clause does not name stays. (1) VIN below THR with the warning enabled: HOLDUP and HOLDUP_SEEN, source 776 and the HOLD cause HOLDUP, 3. (2) With the warning disabled, THR outside 40 to 170 or HOLDUP set already: nothing. (3) VIN at THR + 200 mV: HOLDUP and its HOLD cause clear; the mode stays. (4) HOLDUP_RELEASE with HOLDUP clear: nothing. (5) The first phase is lost: LOST and VPHASE, source 777; RUN becomes RUN-SPARED. (6) The second: sources 777 and 778 and the HOLD cause VCORE_CAPACITY, 4. (7) A later one: LOST and source 777. (8) A phase that is lost already, or with the rails down: nothing. (9) PHASE_CTL.REARM puts the lost phases it names under test. (10) A test passed: LOST of the phase clears; with the last lost phase VPHASE clears as well, and RUN-SPARED with no other redundancy engaged becomes RUN. (11) A test failed: source 777; the phase stays lost. (12) A phase that is not under test: nothing. Readings and choices of the model that it rests on: log entries 107. -/
def Obligations.HoldupAndPhases : Prop :=
  (∀ (s : State),
      s.bit F.PWR_HOLDUP_CFG_EN = true →
      (40 ≤ s.get F.PWR_HOLDUP_CFG_THR ∧ s.get F.PWR_HOLDUP_CFG_THR ≤ 170) →
      s.bit F.PWR_SUPPLY_STAT_HOLDUP = false →
      ∃ t, exec (.holdupTrip) s = .next t
        ∧ (t.bit F.PWR_SUPPLY_STAT_HOLDUP = true ∧ t.bit F.PWR_SUPPLY_STAT_HOLDUP_SEEN = true ∧ t.isPending 776 = true)
        ∧ s.holdTaken t 3 = true
        ∧ (∀ k : Nat, k < 32 → k ∉ ([F.PWR_SUPPLY_STAT_HOLDUP.lo, F.PWR_SUPPLY_STAT_HOLDUP_SEEN.lo] : List Nat) → t.bitAt R.PWR_SUPPLY_STAT k = s.bitAt R.PWR_SUPPLY_STAT k)
        ∧ t = { s with regs := t.regs, irq := t.irq, sessions := t.sessions, modeCtl := t.modeCtl }
        ∧ (∀ adr, adr ∉ (R.PWR_SUPPLY_STAT :: R.SYS_HOLD_CAUSES :: modeRegs : List Nat) → t.rd adr = s.rd adr)
        ∧ (∀ num dr, num ∉ ([776, 824] : List Nat) → t.slot num dr = s.slot num dr)) ∧
  (∀ (s : State),
      (s.bit F.PWR_HOLDUP_CFG_EN = false ∨ s.get F.PWR_HOLDUP_CFG_THR < 40 ∨ 170 < s.get F.PWR_HOLDUP_CFG_THR ∨ s.bit F.PWR_SUPPLY_STAT_HOLDUP = true) →
      ∃ t, exec (.holdupTrip) s = .next t
        ∧ t = s) ∧
  (∀ (s : State),
      s.bit F.PWR_SUPPLY_STAT_HOLDUP = true →
      ∃ t, exec (.holdupRelease) s = .next t
        ∧ t.bit F.PWR_SUPPLY_STAT_HOLDUP = false
        ∧ s.holdCleared t 3 = true
        ∧ (∀ k : Nat, k < 32 → k ∉ ([F.PWR_SUPPLY_STAT_HOLDUP.lo] : List Nat) → t.bitAt R.PWR_SUPPLY_STAT k = s.bitAt R.PWR_SUPPLY_STAT k)
        ∧ t = { s with regs := t.regs }
        ∧ (∀ adr, adr ∉ ([R.PWR_SUPPLY_STAT, R.SYS_HOLD_CAUSES] : List Nat) → t.rd adr = s.rd adr)) ∧
  (∀ (s : State),
      s.bit F.PWR_SUPPLY_STAT_HOLDUP = false →
      ∃ t, exec (.holdupRelease) s = .next t
        ∧ t = s) ∧
  (∀ (p : Fin 6) (s : State),
      s.supply.rails = true →
      (s.get F.PWR_PHASE_STAT_LOST).testBit p.val = false →
      s.get F.PWR_PHASE_STAT_LOST = 0 →
      ∃ t, exec (.vcorePhaseLost p) s = .next t
        ∧ (t.get F.PWR_PHASE_STAT_LOST = s.get F.PWR_PHASE_STAT_LOST + 2 ^ p.val ∧ t.isPending 777 = true)
        ∧ t.bit F.SYS_SPARED_VPHASE = true
        ∧ s.modeMoves t (if s.mode = M.run ∧ s.leaving = false then some (M.runSpared, 0x22) else none) = true
        ∧ (∀ k : Nat, k < 32 → k ∉ ([F.SYS_SPARED_VPHASE.lo] : List Nat) → t.bitAt R.SYS_SPARED k = s.bitAt R.SYS_SPARED k)
        ∧ t = { s with regs := t.regs, irq := t.irq, sessions := t.sessions, modeCtl := t.modeCtl }
        ∧ (∀ adr, adr ∉ (R.PWR_PHASE_STAT :: R.SYS_SPARED :: modeRegs : List Nat) → t.rd adr = s.rd adr)
        ∧ (∀ num dr, num ∉ ([777, 824] : List Nat) → t.slot num dr = s.slot num dr)) ∧
  (∀ (p : Fin 6) (s : State),
      s.supply.rails = true →
      (s.get F.PWR_PHASE_STAT_LOST).testBit p.val = false →
      bitCount 6 (s.get F.PWR_PHASE_STAT_LOST) = 1 →
      ∃ t, exec (.vcorePhaseLost p) s = .next t
        ∧ (t.get F.PWR_PHASE_STAT_LOST = s.get F.PWR_PHASE_STAT_LOST + 2 ^ p.val ∧ t.isPending 777 = true)
        ∧ t.isPending 778 = true
        ∧ s.holdTaken t 4 = true
        ∧ t = { s with regs := t.regs, irq := t.irq, sessions := t.sessions, modeCtl := t.modeCtl }
        ∧ (∀ adr, adr ∉ (R.PWR_PHASE_STAT :: R.SYS_HOLD_CAUSES :: modeRegs : List Nat) → t.rd adr = s.rd adr)
        ∧ (∀ num dr, num ∉ ([777, 778, 824] : List Nat) → t.slot num dr = s.slot num dr)) ∧
  (∀ (p : Fin 6) (s : State),
      s.supply.rails = true →
      (s.get F.PWR_PHASE_STAT_LOST).testBit p.val = false →
      2 ≤ bitCount 6 (s.get F.PWR_PHASE_STAT_LOST) →
      ∃ t, exec (.vcorePhaseLost p) s = .next t
        ∧ (t.get F.PWR_PHASE_STAT_LOST = s.get F.PWR_PHASE_STAT_LOST + 2 ^ p.val ∧ t.isPending 777 = true)
        ∧ t = { s with regs := t.regs, irq := t.irq }
        ∧ (∀ adr, adr ∉ (R.PWR_PHASE_STAT :: coalesced : List Nat) → t.rd adr = s.rd adr)
        ∧ (∀ num dr, num ∉ ([777] : List Nat) → t.slot num dr = s.slot num dr)) ∧
  (∀ (p : Fin 6) (s : State),
      (s.supply.rails = false ∨ (s.get F.PWR_PHASE_STAT_LOST).testBit p.val = true) →
      ∃ t, exec (.vcorePhaseLost p) s = .next t
        ∧ t = s) ∧
  (∀ (ini : Initiator) (mask : Fin 64) (s : State),
      s.sends ini true R.PWR_PHASE_CTL = true →
      ∃ t, exec (.phaseRearm ini mask) s = .next t
        ∧ t.respCode ini = 0
        ∧ t = { s with spine := t.spine, sec := { s.sec with tapOut := t.sec.tapOut }, supply := { s.supply with testing := t.supply.testing } }
        ∧ (∀ k : Nat, k < 6 → t.supply.testing.testBit k = (s.supply.testing.testBit k || (mask.val.testBit k && (s.get F.PWR_PHASE_STAT_LOST).testBit k)))) ∧
  (∀ (p : Fin 6) (s : State),
      s.supply.testing.testBit p.val = true →
      (s.get F.PWR_PHASE_STAT_LOST).testBit p.val = true →
      ∃ t, exec (.phaseRearmDone p true) s = .next t
        ∧ t.get F.PWR_PHASE_STAT_LOST = s.get F.PWR_PHASE_STAT_LOST - 2 ^ p.val
        ∧ t.bit F.SYS_SPARED_VPHASE = (s.bit F.SYS_SPARED_VPHASE && decide (s.get F.PWR_PHASE_STAT_LOST ≠ 2 ^ p.val))
        ∧ s.modeMoves t (if s.mode = M.runSpared ∧ s.leaving = false ∧ s.get F.PWR_PHASE_STAT_LOST = 2 ^ p.val ∧ s.bit F.SYS_SPARED_VPHASE = true ∧ t.rd R.SYS_SPARED = 0 then some (M.run, 0x23) else none) = true
        ∧ (∀ k : Nat, k < 32 → k ∉ ([F.SYS_SPARED_VPHASE.lo] : List Nat) → t.bitAt R.SYS_SPARED k = s.bitAt R.SYS_SPARED k)
        ∧ t = { s with regs := t.regs, irq := t.irq, sessions := t.sessions, modeCtl := t.modeCtl, supply := { s.supply with testing := s.supply.testing - 2 ^ p.val } }
        ∧ (∀ adr, adr ∉ (R.PWR_PHASE_STAT :: R.SYS_SPARED :: modeRegs : List Nat) → t.rd adr = s.rd adr)
        ∧ (∀ num dr, num ∉ ([824] : List Nat) → t.slot num dr = s.slot num dr)) ∧
  (∀ (p : Fin 6) (s : State),
      s.supply.testing.testBit p.val = true →
      ∃ t, exec (.phaseRearmDone p false) s = .next t
        ∧ t.isPending 777 = true
        ∧ t = { s with regs := t.regs, irq := t.irq, supply := { s.supply with testing := s.supply.testing - 2 ^ p.val } }
        ∧ (∀ adr, adr ∉ (coalesced : List Nat) → t.rd adr = s.rd adr)
        ∧ (∀ num dr, num ∉ ([777] : List Nat) → t.slot num dr = s.slot num dr)) ∧
  (∀ (p : Fin 6) (pass : Bool) (s : State),
      s.supply.testing.testBit p.val = false →
      ∃ t, exec (.phaseRearmDone p pass) s = .next t
        ∧ t = s)

/-- A request of a power domain is accepted, refused, held or not defined (parts of R8, R12, R217, R224, R438, R439, R440, R441, R446, R480, R505, R523). DOMAIN_REQUEST writes REQ of the domain and leaves WOA and RETRIES. In clauses on it the initiator sends. "Acted on": the state of the domain is settled, that is, not ENTERING or WAKING, and no wake is to be tried again. What a clause does not name stays. (1) The unit that refuses RETENTION or OFF, in the order of R441. FLASH: the flash controller with an operation in progress, suspended or waiting, then CFG while a background verify runs. CGg and LNg: the first lane of the group with EN = 1 or in BURST; CGg then the first of a wheel domain, then a chanter of the group under test. (2) FQq: CFG while a partial load is past IDLE with a tract in the quadrant, or a quadrant restore runs. DRN: the first drone that does not wait in WAITI. EVM: the wheel while drains are on or held. CTX: the first CG domain that is not OFF or in RETENTION. NET: an open session, then a valid chain position. SEC: a partial load past IDLE, then a session open or opening. ANA: none. PLLA and PLLB: the supply of the core clocks, or standing by. (3) AON has no such register: DECODE. (4) A state that the domain does not accept, and the code 3, are reserved: PARAM, and nothing of the domain changes. (5) While the domain is ENTERING or WAKING, or a wake of it is to be tried again, the request is held; a later one replaces it. (6) ON while ON: no effect. (7) A request equal to the state: no effect. (8) ON from RETENTION or OFF: a wake begins. (9) RETENTION or OFF while a memory slice of the domain runs: the slice is sealed INCOMPLETE with cause DOMAIN, with an open signature, and restored; the request is held until then. (10) While the region of such a slice is still to be restored, the request is held. (11) RETENTION while OFF is refused by the power controller. (12) A request that a unit refuses: the domain keeps its state; REFUSED counts, REFUSER names the unit, and source 782 is raised. (13) Else the domain enters ENTERING; a scrub pass over its memory stops. (14) ANA is never refused: its converters, brought up to now, stop at once in STATE OFF. Readings and choices of the model that it rests on: log entries 100, 101, 102, 121. -/
def Obligations.DomainRequests : Prop :=
  (∀ (g i : Nat) (s : State),
      g < 4 →
      i < 64 →
      (s.refuser 1 = (if s.flash.ops ≠ [] ∨ s.flash.after ≠ none ∨ s.flash.pfOp ≠ none then some (5, 0) else if s.get F.CFG_UPD_STAT_STATE = 1 then some (6, 0) else none))
        ∧ ((s.bit (F.LANE_CFG_EN (64 * g + i)) = true ∨ s.laneState (64 * g + i) = L.burst) ∧ (∀ j : Nat, j < i → ¬ (s.bit (F.LANE_CFG_EN (64 * g + j)) = true ∨ s.laneState (64 * g + j) = L.burst)) → s.refuser (6 + g) = some (1, 64 * g + i) ∧ s.refuser (14 + g) = some (1, 64 * g + i))
        ∧ ((∀ j : Nat, j < 64 → ¬ (s.bit (F.LANE_CFG_EN (64 * g + j)) = true ∨ s.laneState (64 * g + j) = L.burst)) → s.refuser (14 + g) = none ∧ (s.laneDom (64 * g + i) ≠ 0 ∧ (∀ j : Nat, j < i → s.laneDom (64 * g + j) = 0) → s.refuser (6 + g) = some (4, 64 * g + i)) ∧ ((∀ j : Nat, j < 64 → s.laneDom (64 * g + j) = 0) → s.refuser (6 + g) = (match s.bist.slice with | some x => if x.kind = 1 ∧ (x.unit < 128 ∧ x.unit / 32 = g ∨ x.unit = 128 + g) then some (10, x.unit) else none | none => none)))) ∧
  (∀ (q k : Nat) (s : State),
      q < 4 →
      k < 4 →
      (s.refuser (2 + q) = (if 1 ≤ s.get F.CFG_PR_STAT_STATE ∧ s.get F.CFG_PR_STAT_STATE ≤ 4 ∧ (s.prTracts.any fun t => decide (2 * (t / 128) + t % 16 / 8 = q)) = true ∨ s.cfg.restoring ≠ [] then some (6, q) else none))
        ∧ ((s.engine (132 + k)).wait ≠ .irq ∧ (∀ j : Nat, j < k → (s.engine (132 + j)).wait = .irq) → s.refuser 10 = some (3, k))
        ∧ ((∀ j : Nat, j < 4 → (s.engine (132 + j)).wait = .irq) → s.refuser 10 = none)
        ∧ (s.refuser 11 = (if s.drainState = 0 then none else some (4, 0)) ∧ s.refuser 12 = s.refuser 11)
        ∧ (s.pwrState (6 + k) ≠ P.off ∧ s.pwrState (6 + k) ≠ P.retention ∧ (∀ j : Nat, j < k → s.pwrState (6 + j) = P.off ∨ s.pwrState (6 + j) = P.retention) → s.refuser 13 = some (2, k))
        ∧ ((∀ j : Nat, j < 4 → s.pwrState (6 + j) = P.off ∨ s.pwrState (6 + j) = P.retention) → s.refuser 13 = none)
        ∧ (s.refuser 18 = (if s.get F.IVW_OPEN_COUNT ≠ 0 then some (7, 0) else if s.bit F.EMN_POS_VALID = true then some (8, 0) else none))
        ∧ (s.refuser 19 = (if 1 ≤ s.get F.CFG_PR_STAT_STATE ∧ s.get F.CFG_PR_STAT_STATE ≤ 4 then some (6, 0) else if s.get F.IVW_OPEN_COUNT ≠ 0 ∨ s.ivw.opens ≠ [] ∨ s.ivw.confirms ≠ [] ∨ ((List.range 256).any fun x => (s.session x).waiting) = true then some (7, 0) else none))
        ∧ s.refuser 20 = none
        ∧ (k < 2 → s.refuser (21 + k) = (if s.get F.CLK_STAT_SUPPLY = k ∨ s.bit (F.CLK_PLL_STAT_STANDING_BY k) = true then some (9, 0) else none))) ∧
  (∀ (ini : Initiator) (d : Fin 23) (req : Fin 4) (s : State),
      s.sends ini true (R.PWR_D_CTL d.val) = true →
      d.val = 0 →
      ∃ t, exec (.domainRequest ini d req) s = .next t
        ∧ t.respCode ini = 1
        ∧ t = { s with regs := t.regs, irq := t.irq, spine := t.spine, berrAt := t.berrAt, engines := t.engines, sec := { s.sec with tapOut := t.sec.tapOut } }
        ∧ (∀ adr, adr ∉ (berrRegs : List Nat) → t.rd adr = s.rd adr)
        ∧ (∀ key, key ∉ (iniEngines ini : List Nat) → t.engine key = s.engine key)
        ∧ (∀ num dr, num ∉ ([904, 905] : List Nat) → t.slot num dr = s.slot num dr)) ∧
  (∀ (ini : Initiator) (d : Fin 23) (req : Fin 4) (s : State),
      s.sends ini true (R.PWR_D_CTL d.val) = true →
      d.val ≠ 0 →
      (req.val = 3 ∨ req.val = 1 ∧ 21 ≤ d.val ∨ req.val = 2 ∧ d.val ∈ ([1, 6, 7, 8, 9, 10, 19] : List Nat)) →
      ∃ t, exec (.domainRequest ini d req) s = .next t
        ∧ t.respCode ini = 2
        ∧ t = { s with regs := t.regs, irq := t.irq, spine := t.spine, berrAt := t.berrAt, engines := t.engines, sec := { s.sec with tapOut := t.sec.tapOut } }
        ∧ (∀ adr, adr ∉ (berrRegs : List Nat) → t.rd adr = s.rd adr)
        ∧ (∀ key, key ∉ (iniEngines ini : List Nat) → t.engine key = s.engine key)
        ∧ (∀ num dr, num ∉ ([904, 905] : List Nat) → t.slot num dr = s.slot num dr)) ∧
  (∀ (ini : Initiator) (d : Fin 23) (req : Fin 4) (s : State),
      s.sends ini true (R.PWR_D_CTL d.val) = true →
      d.val ≠ 0 →
      (req.val = 0 ∨ req.val = 1 ∧ d.val < 21 ∨ req.val = 2 ∧ d.val ∉ ([1, 6, 7, 8, 9, 10, 19] : List Nat)) →
      (s.pwrState d.val = P.entering ∨ s.pwrState d.val = P.waking ∨ (s.pwrDom d.val).retry = true) →
      ∃ t, exec (.domainRequest ini d req) s = .next t
        ∧ (t.respCode ini = 0 ∧ t.rd (R.PWR_D_CTL d.val) = setBitsOf (s.rd (R.PWR_D_CTL d.val)) 1 0 req.val)
        ∧ t.pwrDom d.val = { s.pwrDom d.val with held := some req.val }
        ∧ t = { s with regs := t.regs, spine := t.spine, sec := { s.sec with tapOut := t.sec.tapOut }, pwr := t.pwr }
        ∧ (∀ adr, adr ∉ ([R.PWR_D_CTL d.val] : List Nat) → t.rd adr = s.rd adr)
        ∧ (∀ key, key ∉ ([d.val] : List Nat) → t.pwrDom key = s.pwrDom key)) ∧
  (∀ (ini : Initiator) (d : Fin 23) (req : Fin 4) (s : State),
      s.sends ini true (R.PWR_D_CTL d.val) = true →
      d.val ≠ 0 →
      ((s.pwrDom d.val).retry = false ∧ s.pwrState d.val ≠ P.entering ∧ s.pwrState d.val ≠ P.waking) →
      (req.val = 0 ∧ s.pwrState d.val = P.on) →
      ∃ t, exec (.domainRequest ini d req) s = .next t
        ∧ (t.respCode ini = 0 ∧ t.rd (R.PWR_D_CTL d.val) = setBitsOf (s.rd (R.PWR_D_CTL d.val)) 1 0 req.val)
        ∧ t.pwrDom d.val = { s.pwrDom d.val with held := none }
        ∧ t = { s with regs := t.regs, spine := t.spine, sec := { s.sec with tapOut := t.sec.tapOut }, pwr := t.pwr }
        ∧ (∀ adr, adr ∉ ([R.PWR_D_CTL d.val] : List Nat) → t.rd adr = s.rd adr)
        ∧ (∀ key, key ∉ ([d.val] : List Nat) → t.pwrDom key = s.pwrDom key)) ∧
  (∀ (ini : Initiator) (d : Fin 23) (req : Fin 4) (s : State),
      s.sends ini true (R.PWR_D_CTL d.val) = true →
      d.val ≠ 0 →
      ((s.pwrDom d.val).retry = false ∧ s.pwrState d.val ≠ P.entering ∧ s.pwrState d.val ≠ P.waking) →
      (req.val = 1 ∧ s.pwrState d.val = P.retention ∧ d.val < 21 ∨ req.val = 2 ∧ s.pwrState d.val = P.off ∧ d.val ∉ ([1, 6, 7, 8, 9, 10, 19] : List Nat)) →
      ∃ t, exec (.domainRequest ini d req) s = .next t
        ∧ (t.respCode ini = 0 ∧ t.rd (R.PWR_D_CTL d.val) = setBitsOf (s.rd (R.PWR_D_CTL d.val)) 1 0 req.val)
        ∧ t = { s with regs := t.regs, spine := t.spine, sec := { s.sec with tapOut := t.sec.tapOut }, pwr := s.pwr }
        ∧ (∀ adr, adr ∉ ([R.PWR_D_CTL d.val] : List Nat) → t.rd adr = s.rd adr)) ∧
  (∀ (ini : Initiator) (d : Fin 23) (req : Fin 4) (s : State),
      s.sends ini true (R.PWR_D_CTL d.val) = true →
      d.val ≠ 0 →
      ((s.pwrDom d.val).retry = false ∧ s.pwrState d.val ≠ P.entering ∧ s.pwrState d.val ≠ P.waking) →
      (req.val = 0 ∧ (s.pwrState d.val = P.retention ∨ s.pwrState d.val = P.off)) →
      ∃ t, exec (.domainRequest ini d req) s = .next t
        ∧ (t.respCode ini = 0 ∧ t.rd (R.PWR_D_CTL d.val) = setBitsOf (s.rd (R.PWR_D_CTL d.val)) 1 0 req.val)
        ∧ (t.pwrState d.val = P.waking ∧ setBitsOf (t.rd (R.PWR_D_STAT d.val)) 31 29 0 = setBitsOf (s.rd (R.PWR_D_STAT d.val)) 31 29 0)
        ∧ t.pwrDom d.val = { s.pwrDom d.val with held := none, prior := s.pwrState d.val, attempts := 0, wakeAt := s.now }
        ∧ t = { s with regs := t.regs, spine := t.spine, sec := { s.sec with tapOut := t.sec.tapOut }, pwr := t.pwr }
        ∧ (∀ adr, adr ∉ ([R.PWR_D_CTL d.val, R.PWR_D_STAT d.val] : List Nat) → t.rd adr = s.rd adr)
        ∧ (∀ key, key ∉ ([d.val] : List Nat) → t.pwrDom key = s.pwrDom key)) ∧
  (∀ (ini : Initiator) (d : Fin 23) (req : Fin 4) (s : State),
      s.sends ini true (R.PWR_D_CTL d.val) = true →
      d.val ≠ 0 →
      (req.val = 0 ∨ req.val = 1 ∧ d.val < 21 ∨ req.val = 2 ∧ d.val ∉ ([1, 6, 7, 8, 9, 10, 19] : List Nat)) →
      ((s.pwrDom d.val).retry = false ∧ s.pwrState d.val ≠ P.entering ∧ s.pwrState d.val ≠ P.waking) →
      (req.val = 1 ∧ s.pwrState d.val ≠ P.retention ∨ req.val = 2 ∧ s.pwrState d.val ≠ P.off) →
      (∀ y ∈ (s.bist.slice.toList : List Slice), 3 ≤ y.kind ∧ y.kind ≤ 5 ∧ unitDomain y.kind y.unit = d.val ∧ y.result = none) →
      s.bist.slice.isSome = true →
      ∃ t, exec (.domainRequest ini d req) s = .next t
        ∧ (t.respCode ini = 0 ∧ t.rd (R.PWR_D_CTL d.val) = setBitsOf (s.rd (R.PWR_D_CTL d.val)) 1 0 req.val)
        ∧ t.pwrDom d.val = { s.pwrDom d.val with held := some req.val }
        ∧ (match s.bist.slice with | some y => s.sliceSealed t y 2 3 none && decide (t.bist.slice = some { y with result := some 2 }) | none => false) = true
        ∧ s.sliceShown t 3 = true
        ∧ t = { s with regs := t.regs, spine := t.spine, sec := { s.sec with tapOut := t.sec.tapOut }, pwr := t.pwr, irq := t.irq, free := s.free + 1, bist := t.bist }
        ∧ (∀ adr, adr ∉ (R.PWR_D_CTL d.val :: sealRegs : List Nat) → t.rd adr = s.rd adr)
        ∧ (∀ num dr, num ∉ ([874] : List Nat) → t.slot num dr = s.slot num dr)
        ∧ (∀ key, key ∉ ([d.val] : List Nat) → t.pwrDom key = s.pwrDom key)) ∧
  (∀ (ini : Initiator) (d : Fin 23) (req : Fin 4) (s : State),
      s.sends ini true (R.PWR_D_CTL d.val) = true →
      d.val ≠ 0 →
      (req.val = 0 ∨ req.val = 1 ∧ d.val < 21 ∨ req.val = 2 ∧ d.val ∉ ([1, 6, 7, 8, 9, 10, 19] : List Nat)) →
      ((s.pwrDom d.val).retry = false ∧ s.pwrState d.val ≠ P.entering ∧ s.pwrState d.val ≠ P.waking) →
      (req.val = 1 ∧ s.pwrState d.val ≠ P.retention ∨ req.val = 2 ∧ s.pwrState d.val ≠ P.off) →
      (∀ y ∈ (s.bist.slice.toList : List Slice), 3 ≤ y.kind ∧ y.kind ≤ 5 ∧ unitDomain y.kind y.unit = d.val ∧ y.result.isSome = true) →
      s.bist.slice.isSome = true →
      ∃ t, exec (.domainRequest ini d req) s = .next t
        ∧ (t.respCode ini = 0 ∧ t.rd (R.PWR_D_CTL d.val) = setBitsOf (s.rd (R.PWR_D_CTL d.val)) 1 0 req.val)
        ∧ t.pwrDom d.val = { s.pwrDom d.val with held := some req.val }
        ∧ t = { s with regs := t.regs, spine := t.spine, sec := { s.sec with tapOut := t.sec.tapOut }, pwr := t.pwr }
        ∧ (∀ adr, adr ∉ ([R.PWR_D_CTL d.val] : List Nat) → t.rd adr = s.rd adr)
        ∧ (∀ key, key ∉ ([d.val] : List Nat) → t.pwrDom key = s.pwrDom key)) ∧
  (∀ (ini : Initiator) (d : Fin 23) (req : Fin 4) (s : State),
      s.sends ini true (R.PWR_D_CTL d.val) = true →
      d.val ≠ 0 →
      ((s.pwrDom d.val).retry = false ∧ s.pwrState d.val ≠ P.entering ∧ s.pwrState d.val ≠ P.waking) →
      (∀ y ∈ (s.bist.slice.toList : List Slice), ¬ (3 ≤ y.kind ∧ y.kind ≤ 5 ∧ unitDomain y.kind y.unit = d.val)) →
      (req.val = 1 ∧ d.val < 21 ∧ s.pwrState d.val = P.off) →
      ∃ t, exec (.domainRequest ini d req) s = .next t
        ∧ (t.respCode ini = 0 ∧ t.rd (R.PWR_D_CTL d.val) = setBitsOf (s.rd (R.PWR_D_CTL d.val)) 1 0 req.val)
        ∧ (t.get (F.PWR_D_REFUSER_CLASS d.val) = 0xB ∧ t.get (F.PWR_D_REFUSER_INDEX d.val) = 0)
        ∧ t.rdN (R.PWR_D_REFUSED d.val) = min 0xFFFFFFFF (s.rdN (R.PWR_D_REFUSED d.val) + 1)
        ∧ t.rd (R.PWR_D_STAT d.val) = setBitsOf (s.rd (R.PWR_D_STAT d.val)) 3 3 1
        ∧ t.isPending 782 = true
        ∧ t.pwrDom d.val = { s.pwrDom d.val with held := none }
        ∧ t = { s with regs := t.regs, spine := t.spine, sec := { s.sec with tapOut := t.sec.tapOut }, pwr := t.pwr, irq := t.irq }
        ∧ (∀ adr, adr ∉ (R.PWR_D_CTL d.val :: R.PWR_D_STAT d.val :: R.PWR_D_REFUSER d.val :: R.PWR_D_REFUSED d.val :: coalesced : List Nat) → t.rd adr = s.rd adr)
        ∧ (∀ num dr, num ∉ ([782] : List Nat) → t.slot num dr = s.slot num dr)
        ∧ (∀ key, key ∉ ([d.val] : List Nat) → t.pwrDom key = s.pwrDom key)) ∧
  (∀ (ini : Initiator) (d : Fin 23) (req : Fin 4) (s : State),
      s.sends ini true (R.PWR_D_CTL d.val) = true →
      d.val ≠ 0 →
      ((s.pwrDom d.val).retry = false ∧ s.pwrState d.val ≠ P.entering ∧ s.pwrState d.val ≠ P.waking) →
      (∀ y ∈ (s.bist.slice.toList : List Slice), ¬ (3 ≤ y.kind ∧ y.kind ≤ 5 ∧ unitDomain y.kind y.unit = d.val)) →
      (req.val = 1 ∧ d.val < 21 ∧ s.pwrState d.val = P.on ∨ req.val = 2 ∧ d.val ∉ ([1, 6, 7, 8, 9, 10, 19] : List Nat) ∧ (s.pwrState d.val = P.on ∨ s.pwrState d.val = P.retention)) →
      (s.refuser d.val).isSome = true →
      ∃ t, exec (.domainRequest ini d req) s = .next t
        ∧ (t.respCode ini = 0 ∧ t.rd (R.PWR_D_CTL d.val) = setBitsOf (s.rd (R.PWR_D_CTL d.val)) 1 0 req.val)
        ∧ s.refuser d.val = some (t.get (F.PWR_D_REFUSER_CLASS d.val), t.get (F.PWR_D_REFUSER_INDEX d.val))
        ∧ t.rdN (R.PWR_D_REFUSED d.val) = min 0xFFFFFFFF (s.rdN (R.PWR_D_REFUSED d.val) + 1)
        ∧ t.rd (R.PWR_D_STAT d.val) = setBitsOf (s.rd (R.PWR_D_STAT d.val)) 3 3 1
        ∧ t.isPending 782 = true
        ∧ t.pwrDom d.val = { s.pwrDom d.val with held := none }
        ∧ t = { s with regs := t.regs, spine := t.spine, sec := { s.sec with tapOut := t.sec.tapOut }, pwr := t.pwr, irq := t.irq }
        ∧ (∀ adr, adr ∉ (R.PWR_D_CTL d.val :: R.PWR_D_STAT d.val :: R.PWR_D_REFUSER d.val :: R.PWR_D_REFUSED d.val :: coalesced : List Nat) → t.rd adr = s.rd adr)
        ∧ (∀ num dr, num ∉ ([782] : List Nat) → t.slot num dr = s.slot num dr)
        ∧ (∀ key, key ∉ ([d.val] : List Nat) → t.pwrDom key = s.pwrDom key)) ∧
  (∀ (ini : Initiator) (d : Fin 23) (req : Fin 4) (s : State),
      s.sends ini true (R.PWR_D_CTL d.val) = true →
      d.val ≠ 0 →
      ((s.pwrDom d.val).retry = false ∧ s.pwrState d.val ≠ P.entering ∧ s.pwrState d.val ≠ P.waking) →
      (∀ y ∈ (s.bist.slice.toList : List Slice), ¬ (3 ≤ y.kind ∧ y.kind ≤ 5 ∧ unitDomain y.kind y.unit = d.val)) →
      (req.val = 1 ∧ d.val < 21 ∧ s.pwrState d.val = P.on ∨ req.val = 2 ∧ d.val ∉ ([1, 6, 7, 8, 9, 10, 19] : List Nat) ∧ (s.pwrState d.val = P.on ∨ s.pwrState d.val = P.retention)) →
      d.val ≠ 20 →
      s.refuser d.val = none →
      ∃ t, exec (.domainRequest ini d req) s = .next t
        ∧ (t.respCode ini = 0 ∧ t.rd (R.PWR_D_CTL d.val) = setBitsOf (s.rd (R.PWR_D_CTL d.val)) 1 0 req.val)
        ∧ (t.pwrState d.val = P.entering ∧ setBitsOf (t.rd (R.PWR_D_STAT d.val)) 31 29 0 = setBitsOf (s.rd (R.PWR_D_STAT d.val)) 31 29 0)
        ∧ t.scrub = { s.scrub with left := s.scrub.left || decide (s.get F.ECC_SCRUB_STAT_STATE = 1 ∧ ((List.range ((s.rdN R.ECC_SCRUB_END - s.rdN R.ECC_SCRUB_START) / 8)).any fun i => addrDomain (s.rdN R.ECC_SCRUB_START + 8 * i) == some d.val) = true) }
        ∧ t.pwrDom d.val = { s.pwrDom d.val with target := req.val, reqAt := s.now, wakeNext := false, held := none }
        ∧ t = { s with regs := t.regs, spine := t.spine, sec := { s.sec with tapOut := t.sec.tapOut }, pwr := t.pwr, scrub := t.scrub }
        ∧ (∀ adr, adr ∉ ([R.PWR_D_CTL d.val, R.PWR_D_STAT d.val] : List Nat) → t.rd adr = s.rd adr)
        ∧ (∀ key, key ∉ ([d.val] : List Nat) → t.pwrDom key = s.pwrDom key)) ∧
  (∀ (ini : Initiator) (d : Fin 23) (req : Fin 4) (s : State),
      s.sends ini true (R.PWR_D_CTL d.val) = true →
      ((s.pwrDom d.val).retry = false ∧ s.pwrState d.val ≠ P.entering ∧ s.pwrState d.val ≠ P.waking) →
      (∀ y ∈ (s.bist.slice.toList : List Slice), ¬ (3 ≤ y.kind ∧ y.kind ≤ 5 ∧ unitDomain y.kind y.unit = d.val)) →
      (req.val = 1 ∧ d.val < 21 ∧ s.pwrState d.val = P.on ∨ req.val = 2 ∧ d.val ∉ ([1, 6, 7, 8, 9, 10, 19] : List Nat) ∧ (s.pwrState d.val = P.on ∨ s.pwrState d.val = P.retention)) →
      d.val = 20 →
      ∃ t, exec (.domainRequest ini d req) s = .next t
        ∧ (t.respCode ini = 0 ∧ t.rd (R.PWR_D_CTL d.val) = setBitsOf (s.rd (R.PWR_D_CTL d.val)) 1 0 req.val)
        ∧ (t.pwrState d.val = P.entering ∧ setBitsOf (t.rd (R.PWR_D_STAT d.val)) 31 29 0 = setBitsOf (s.rd (R.PWR_D_STAT d.val)) 31 29 0)
        ∧ t.scrub = { s.scrub with left := s.scrub.left || decide (s.get F.ECC_SCRUB_STAT_STATE = 1 ∧ ((List.range ((s.rdN R.ECC_SCRUB_END - s.rdN R.ECC_SCRUB_START) / 8)).any fun i => addrDomain (s.rdN R.ECC_SCRUB_START + 8 * i) == some d.val) = true) }
        ∧ t.pwrDom d.val = { s.pwrDom d.val with target := req.val, reqAt := s.now, wakeNext := false, held := none }
        ∧ (∀ k : Nat, k < 4 → t.get (F.MEAS_ADC_STAT_STATE k) = A.off ∧ t.bit (F.MEAS_ADC_CAL_STEALING k) = false ∧ t.adc k = { s.adcsDue.adc k with live := false, calib := false, stopping := false, due := none })
        ∧ (∀ k : Nat, k < 4 → setBitsOf (t.rd (R.MEAS_ADC_STAT k)) (F.MEAS_ADC_STAT_STATE k).hi (F.MEAS_ADC_STAT_STATE k).lo 0 = setBitsOf (s.adcsDue.rd (R.MEAS_ADC_STAT k)) (F.MEAS_ADC_STAT_STATE k).hi (F.MEAS_ADC_STAT_STATE k).lo 0)
        ∧ t = { s with regs := t.regs, spine := t.spine, sec := { s.sec with tapOut := t.sec.tapOut }, pwr := t.pwr, scrub := t.scrub, adcs := t.adcs }
        ∧ (∀ adr, adr ∉ ([R.PWR_D_CTL 20, R.PWR_D_STAT 20] ++ (List.range 4).map R.MEAS_ADC_STAT ++ (List.range 4).map R.MEAS_ADC_CAL : List Nat) → t.rd adr = s.adcsDue.rd adr)
        ∧ (∀ key, key ∉ ([d.val] : List Nat) → t.pwrDom key = s.pwrDom key))

/-- Entries and wakes of power domains end (parts of R8, R24, R36, R37, R65, R89, R224, R318, R356, R360, R439, R442, R443, R444, R445, R446, R447, R453, R478, R481, R499, R500). STATE of a domain in its STAT: the other bits of STAT stay. "Nothing held": no REQ was written and no wake event came meanwhile. What a clause does not name stays. (1) DOMAIN_ENTRY_DONE of a domain that is not ENTERING, or once its three steps of 50 µs are over: nothing. (2) The entry to RETENTION is done: ENTRIES counts, source 780; registers and memories stay. (3) The entry to OFF is done: the registers of the domain return to reset. A quadrant loses its configuration, cells, latches, RAM blocks, held frames and waiting repairs. (4) EVM0 and EVM1, and CTX, lose their memory; WHEEL.STAT.READY reads 0 once an EVM domain is OFF. (5) A group of lanes loses what its lanes hold. (6) NET loses its sessions and what switch, stack, gPTP and the chain ports hold. (7) ANA loses what its converters hold. (8) A PLL is not locked and does not stand by any more: source 808 or 809 where it was; with the other not locked either, source 817 and the HOLD cause CLOCK_LOST, 5. (9) With a wake event during the entry, it completes and the domain wakes at once; a REQ held as well waits on. (10) With a REQ held, the entry completes and the request is then acted on, as O46 says. (11) DOMAIN_ENTRY_ABORT of a domain that is not ENTERING, before 50 µs, or naming no step of the entry: nothing. (12) A step is not acknowledged within 50 µs: the domain is ON; ABORTED counts, REFUSER names class 0xB and the step, source 783. A wake event has no effect. (13) The same of ANA: the enabled converters start again with a calibration cycle. (14) With a REQ held, it is then acted on. (15) DOMAIN_WAKE in RETENTION or OFF: an attempt begins; DRN wakes where a drone in WAITI may take a pending source. (16) While ENTERING: the domain wakes at once after the entry. In the SPINE cycle of the request IMMEDIATE_WAKE counts, with source 785, later ENTRY_WAKE; STAT.IMM is set. (17) Else it has no effect: the domain is ON or WAKING already, the event is kept already, the next attempt of a wake is due, or no drone may take a source. (18) DOMAIN_WAKE_DONE of a domain that is not WAKING, from 250 µs on, or of a PLL that is not locked or from 100 µs on: nothing. (19) The domain is ON: source 781; a HOLD cause WAKE_FAILED clears with the last domain whose failed wake set it. After OFF the image fields come from the configuration shadow. (20) A quadrant after OFF begins its restore; after RETENTION its frames are scanned first. (21) DRN: the watchdogs go on from where the retention stopped them. (22) NET after OFF: the gate lists that the image left start at once, and a chain head has its position, with source 774. (23) ANA: the enabled converters start with a calibration cycle. (24) Accesses of an initiator that waited for the domain are then made, in order, as of then; those that an engine, a posted store, a session or the fabric makes end at their next response. (25) With a REQ held, it is then acted on. (26) WAKE_ATTEMPT_FAIL with a cause that the attempt cannot have yet: REG_TIMEOUT 1 and ISO_TIMEOUT 2 come from 250 µs on, PLL_LOCK 3 of a PLL that is not locked from 100 µs on or with no band, RESTORE 4 from OFF: nothing. (27) A failed attempt: the state before the wake; the next one follows after 10 µs, up to RETRIES of them. RESTORE logs an uncorrectable word of the shadow. (28) The last one: FAIL_CAUSE and WAKE_FAIL, the count of WAKE_FAIL, source 784; in RUN_NEED the HOLD cause WAKE_FAILED, 1. (29) With a REQ held, it is then acted on. (30) Accesses that waited for the domain are answered with DOMAIN_OFF, at once or at their next response; a read with 0xDEAD0FF0. (31) WAKE_RETRY 10 µs after a failed attempt: the next attempt begins. (32) Earlier, or with no attempt due: nothing. Readings and choices of the model that it rests on: log entries 102, 103, 104, 105, 108, 174. -/
def Obligations.DomainTransitions : Prop :=
  (∀ (d : Fin 23) (w : Nat) (s : State),
      (d.val = 0 ∨ s.pwrState d.val ≠ P.entering ∨ (s.pwrDom d.val).reqAt + 60000 ≤ max s.now w) →
      ∃ t, exec (.domainEntryDone d w) s = .next t
        ∧ t = { s with now := max s.now w }) ∧
  (∀ (d : Fin 23) (w : Nat) (s : State),
      d.val ≠ 0 →
      s.pwrState d.val = P.entering →
      max s.now w < (s.pwrDom d.val).reqAt + 60000 →
      (s.pwrDom d.val).target ≠ 2 →
      ((s.pwrDom d.val).held = none ∧ (s.pwrDom d.val).wakeNext = false) →
      ∃ t, exec (.domainEntryDone d w) s = .next t
        ∧ t.pwrState d.val = P.retention
        ∧ setBitsOf (t.rd (R.PWR_D_STAT d.val)) 31 29 0 = setBitsOf (s.rd (R.PWR_D_STAT d.val)) 31 29 0
        ∧ (t.rdN (R.PWR_D_ENTRIES d.val) = (s.rdN (R.PWR_D_ENTRIES d.val) + 1) % 2 ^ 32 ∧ t.isPending 780 = true)
        ∧ t.pwrDom d.val = { s.pwrDom d.val with doneAt := max s.now w }
        ∧ t = { s with regs := t.regs, now := max s.now w, pwr := t.pwr, irq := t.irq }
        ∧ (∀ adr, adr ∉ (R.PWR_D_STAT d.val :: R.PWR_D_ENTRIES d.val :: coalesced : List Nat) → t.rd adr = s.rd adr)
        ∧ (∀ num dr, num ∉ ([780] : List Nat) → t.slot num dr = s.slot num dr)
        ∧ (∀ key, key ∉ ([d.val] : List Nat) → t.pwrDom key = s.pwrDom key)) ∧
  (∀ (d : Fin 23) (w : Nat) (s : State),
      d.val ≠ 0 →
      s.pwrState d.val = P.entering →
      max s.now w < (s.pwrDom d.val).reqAt + 60000 →
      (s.pwrDom d.val).target = 2 →
      ((s.pwrDom d.val).held = none ∧ (s.pwrDom d.val).wakeNext = false) →
      (2 ≤ d.val ∧ d.val ≤ 5) →
      ∃ t, exec (.domainEntryDone d w) s = .next t
        ∧ t.pwrState d.val = P.off
        ∧ setBitsOf (t.rd (R.PWR_D_STAT d.val)) 31 29 0 = setBitsOf (s.rd (R.PWR_D_STAT d.val)) 31 29 0
        ∧ (t.rdN (R.PWR_D_ENTRIES d.val) = (s.rdN (R.PWR_D_ENTRIES d.val) + 1) % 2 ^ 32 ∧ t.isPending 780 = true)
        ∧ t.pwrDom d.val = { s.pwrDom d.val with doneAt := max s.now w }
        ∧ t.fab = (let k := fun (c : Nat) => decide (2 * (c / 256 / 128) + c / 256 % 16 / 8 ≠ d.val - 2); { s.fab with cfg := s.fab.cfg.filter (fun e => k e.1), cells := s.fab.cells.filter (fun e => k e.1), latch := s.fab.latch.filter (fun e => k (e.1 / 8)), free := s.fab.free.filter (fun e => k (256 * e.1)) })
        ∧ (let k := fun (f : Nat) => decide (2 * (f / 16 / 128) + f / 16 % 16 / 8 ≠ d.val - 2); t.cfg = { s.cfg with held := s.cfg.held.filter (fun h => h != d.val - 2), queue := s.cfg.queue.filter k, asked := s.cfg.asked.filter (fun a => k a.1), answer := t.cfg.answer } ∧ t.cfg.answer = (if t.cfg.asked = none then [] else s.cfg.answer))
        ∧ t = { s with regs := t.regs, now := max s.now w, pwr := t.pwr, irq := t.irq, mem := t.mem, fab := t.fab, cfg := t.cfg }
        ∧ (∀ adr, adr ∉ (R.PWR_D_STAT d.val :: R.PWR_D_ENTRIES d.val :: coalesced : List Nat) → t.rd adr = if addrDomain adr = some d.val then regReset adr else s.rd adr)
        ∧ (∀ num dr, num ∉ ([780] : List Nat) → t.slot num dr = s.slot num dr)
        ∧ (∀ key, t.memWord (8 * key) = if addrDomain (8 * key) = some d.val then gridUnwritten else s.memWord (8 * key))
        ∧ (∀ key, key ∉ ([d.val] : List Nat) → t.pwrDom key = s.pwrDom key)) ∧
  (∀ (d : Fin 23) (w : Nat) (s : State),
      d.val ≠ 0 →
      s.pwrState d.val = P.entering →
      max s.now w < (s.pwrDom d.val).reqAt + 60000 →
      (s.pwrDom d.val).target = 2 →
      ((s.pwrDom d.val).held = none ∧ (s.pwrDom d.val).wakeNext = false) →
      (11 ≤ d.val ∧ d.val ≤ 13) →
      ∃ t, exec (.domainEntryDone d w) s = .next t
        ∧ t.pwrState d.val = P.off
        ∧ setBitsOf (t.rd (R.PWR_D_STAT d.val)) 31 29 0 = setBitsOf (s.rd (R.PWR_D_STAT d.val)) 31 29 0
        ∧ (t.rdN (R.PWR_D_ENTRIES d.val) = (s.rdN (R.PWR_D_ENTRIES d.val) + 1) % 2 ^ 32 ∧ t.isPending 780 = true)
        ∧ t.pwrDom d.val = { s.pwrDom d.val with doneAt := max s.now w }
        ∧ t.wheel = { s.wheel with inited := s.wheel.inited && d.val != 11, inited1 := s.wheel.inited1 && d.val != 12 }
        ∧ (d.val < 13 → t.rd R.WHEEL_STAT = setBitsOf (s.rd R.WHEEL_STAT) F.WHEEL_STAT_READY.hi F.WHEEL_STAT_READY.lo 0)
        ∧ (d.val = 13 → t.rd R.WHEEL_STAT = s.rd R.WHEEL_STAT)
        ∧ t = { s with regs := t.regs, now := max s.now w, pwr := t.pwr, irq := t.irq, mem := t.mem, wheel := t.wheel }
        ∧ (∀ adr, adr ∉ (R.PWR_D_STAT d.val :: R.PWR_D_ENTRIES d.val :: R.WHEEL_STAT :: coalesced : List Nat) → t.rd adr = if addrDomain adr = some d.val then regReset adr else s.rd adr)
        ∧ (∀ num dr, num ∉ ([780] : List Nat) → t.slot num dr = s.slot num dr)
        ∧ (∀ key, t.memWord (8 * key) = if addrDomain (8 * key) = some d.val then gridUnwritten else s.memWord (8 * key))
        ∧ (∀ key, key ∉ ([d.val] : List Nat) → t.pwrDom key = s.pwrDom key)) ∧
  (∀ (d : Fin 23) (w : Nat) (s : State),
      d.val ≠ 0 →
      s.pwrState d.val = P.entering →
      max s.now w < (s.pwrDom d.val).reqAt + 60000 →
      (s.pwrDom d.val).target = 2 →
      ((s.pwrDom d.val).held = none ∧ (s.pwrDom d.val).wakeNext = false) →
      (14 ≤ d.val ∧ d.val ≤ 17) →
      ∃ t, exec (.domainEntryDone d w) s = .next t
        ∧ t.pwrState d.val = P.off
        ∧ setBitsOf (t.rd (R.PWR_D_STAT d.val)) 31 29 0 = setBitsOf (s.rd (R.PWR_D_STAT d.val)) 31 29 0
        ∧ (t.rdN (R.PWR_D_ENTRIES d.val) = (s.rdN (R.PWR_D_ENTRIES d.val) + 1) % 2 ^ 32 ∧ t.isPending 780 = true)
        ∧ t.pwrDom d.val = { s.pwrDom d.val with doneAt := max s.now w }
        ∧ t = { s with regs := t.regs, now := max s.now w, pwr := t.pwr, irq := t.irq, lanes := t.lanes }
        ∧ (∀ adr, adr ∉ (R.PWR_D_STAT d.val :: R.PWR_D_ENTRIES d.val :: coalesced : List Nat) → t.rd adr = if addrDomain adr = some d.val then regReset adr else s.rd adr)
        ∧ (∀ num dr, num ∉ ([780] : List Nat) → t.slot num dr = s.slot num dr)
        ∧ (∀ key, Sparse.get (fun _ => ({} : Lane)) t.lanes key = if key / 64 = d.val - 14 then {} else Sparse.get (fun _ => ({} : Lane)) s.lanes key)
        ∧ (∀ j : Nat, j < 23 → j ≠ d.val → t.pwrDom j = s.pwrDom j)) ∧
  (∀ (d : Fin 23) (w : Nat) (s : State),
      d.val ≠ 0 →
      s.pwrState d.val = P.entering →
      max s.now w < (s.pwrDom d.val).reqAt + 60000 →
      (s.pwrDom d.val).target = 2 →
      ((s.pwrDom d.val).held = none ∧ (s.pwrDom d.val).wakeNext = false) →
      d.val = 18 →
      ∃ t, exec (.domainEntryDone d w) s = .next t
        ∧ t.pwrState d.val = P.off
        ∧ setBitsOf (t.rd (R.PWR_D_STAT d.val)) 31 29 0 = setBitsOf (s.rd (R.PWR_D_STAT d.val)) 31 29 0
        ∧ (t.rdN (R.PWR_D_ENTRIES d.val) = (s.rdN (R.PWR_D_ENTRIES d.val) + 1) % 2 ^ 32 ∧ t.isPending 780 = true)
        ∧ t.pwrDom d.val = { s.pwrDom d.val with doneAt := max s.now w }
        ∧ t = { s with regs := t.regs, now := max s.now w, pwr := t.pwr, irq := t.irq, net := {}, ptp := { ref := max s.now w }, sessions := [], ivw := {}, emnPorts := [], emn := { head := s.emn.head, upstream := s.emn.upstream } }
        ∧ (∀ adr, adr ∉ (R.PWR_D_STAT d.val :: R.PWR_D_ENTRIES d.val :: coalesced : List Nat) → t.rd adr = if addrDomain adr = some d.val then regReset adr else s.rd adr)
        ∧ (∀ num dr, num ∉ ([780] : List Nat) → t.slot num dr = s.slot num dr)
        ∧ (∀ key, key ∉ ([d.val] : List Nat) → t.pwrDom key = s.pwrDom key)) ∧
  (∀ (d : Fin 23) (w : Nat) (s : State),
      d.val ≠ 0 →
      s.pwrState d.val = P.entering →
      max s.now w < (s.pwrDom d.val).reqAt + 60000 →
      (s.pwrDom d.val).target = 2 →
      ((s.pwrDom d.val).held = none ∧ (s.pwrDom d.val).wakeNext = false) →
      d.val = 20 →
      ∃ t, exec (.domainEntryDone d w) s = .next t
        ∧ t.pwrState d.val = P.off
        ∧ setBitsOf (t.rd (R.PWR_D_STAT d.val)) 31 29 0 = setBitsOf (s.rd (R.PWR_D_STAT d.val)) 31 29 0
        ∧ (t.rdN (R.PWR_D_ENTRIES d.val) = (s.rdN (R.PWR_D_ENTRIES d.val) + 1) % 2 ^ 32 ∧ t.isPending 780 = true)
        ∧ t.pwrDom d.val = { s.pwrDom d.val with doneAt := max s.now w }
        ∧ t = { s with regs := t.regs, now := max s.now w, pwr := t.pwr, irq := t.irq, adcs := [] }
        ∧ (∀ adr, adr ∉ (R.PWR_D_STAT d.val :: R.PWR_D_ENTRIES d.val :: coalesced : List Nat) → t.rd adr = if addrDomain adr = some d.val then regReset adr else s.rd adr)
        ∧ (∀ num dr, num ∉ ([780] : List Nat) → t.slot num dr = s.slot num dr)
        ∧ (∀ key, key ∉ ([d.val] : List Nat) → t.pwrDom key = s.pwrDom key)) ∧
  (∀ (d : Fin 23) (w : Nat) (s : State),
      d.val ≠ 0 →
      s.pwrState d.val = P.entering →
      max s.now w < (s.pwrDom d.val).reqAt + 60000 →
      (s.pwrDom d.val).target = 2 →
      ((s.pwrDom d.val).held = none ∧ (s.pwrDom d.val).wakeNext = false) →
      21 ≤ d.val →
      ∃ t, exec (.domainEntryDone d w) s = .next t
        ∧ t.pwrState d.val = P.off
        ∧ setBitsOf (t.rd (R.PWR_D_STAT d.val)) 31 29 0 = setBitsOf (s.rd (R.PWR_D_STAT d.val)) 31 29 0
        ∧ (t.rdN (R.PWR_D_ENTRIES d.val) = (s.rdN (R.PWR_D_ENTRIES d.val) + 1) % 2 ^ 32 ∧ t.isPending 780 = true)
        ∧ t.pwrDom d.val = { s.pwrDom d.val with doneAt := max s.now w }
        ∧ (t.locked (d.val - 21) = false ∧ t.standsBy (d.val - 21) = false)
        ∧ (∀ k : Nat, k < 32 → k ≠ (F.CLK_PLL_STAT_LOCKED 0).lo → k ≠ (F.CLK_PLL_STAT_STANDING_BY 0).lo → t.bitAt (R.CLK_PLL_STAT (d.val - 21)) k = s.bitAt (R.CLK_PLL_STAT (d.val - 21)) k)
        ∧ (s.locked (d.val - 21) = true → t.isPending (808 + (d.val - 21)) = true)
        ∧ (if s.locked (d.val - 21) = true ∧ s.locked (22 - d.val) = false then t.isPending 817 = true ∧ (s.at_ w).holdTaken t 5 = true else t.rd R.SYS_HOLD_CAUSES = s.rd R.SYS_HOLD_CAUSES ∧ s.modeMoves t none = true)
        ∧ t = { s with regs := t.regs, now := max s.now w, pwr := t.pwr, irq := t.irq, sessions := t.sessions, modeCtl := t.modeCtl }
        ∧ (∀ adr, adr ∉ ([R.PWR_D_STAT d.val, R.PWR_D_ENTRIES d.val, R.CLK_PLL_STAT (d.val - 21), R.SYS_HOLD_CAUSES] ++ modeRegs : List Nat) → t.rd adr = s.rd adr)
        ∧ (∀ num dr, num ∉ (if s.locked (d.val - 21) = true then [780, 808 + (d.val - 21)] ++ (if s.locked (22 - d.val) = true then [] else [817, 824]) else [780] : List Nat) → t.slot num dr = s.slot num dr)
        ∧ (∀ key, key ∉ ([d.val] : List Nat) → t.pwrDom key = s.pwrDom key)) ∧
  (∀ (d : Fin 23) (w : Nat) (s : State),
      d.val ≠ 0 →
      s.pwrState d.val = P.entering →
      max s.now w < (s.pwrDom d.val).reqAt + 60000 →
      ((s.pwrDom d.val).wakeNext = true ∧ (s.pwrDom d.val).retry = false) →
      ∃ t, exec (.domainEntryDone d w) s = .next t
        ∧ t.pwrState d.val = P.waking
        ∧ (match exec (.domainEntryDone d w) (s.setPwrDom d.val { s.pwrDom d.val with held := none, wakeNext := false }) with | .next v => decide (t = { v with regs := t.regs, pwr := t.pwr } ∧ t.pwrDom d.val = { v.pwrDom d.val with prior := v.pwrState d.val, attempts := 0, wakeAt := max s.now w, held := (s.pwrDom d.val).held } ∧ t.rd (R.PWR_D_STAT d.val) = setBitsOf (v.rd (R.PWR_D_STAT d.val)) 31 29 4) | _ => false) = true
        ∧ (∀ key, key ∉ ([d.val] : List Nat) → t.pwrDom key = s.pwrDom key)) ∧
  (∀ (d : Fin 23) (w r : Nat) (s : State),
      d.val ≠ 0 →
      s.pwrState d.val = P.entering →
      max s.now w < (s.pwrDom d.val).reqAt + 60000 →
      ((s.pwrDom d.val).held = some r ∧ (s.pwrDom d.val).wakeNext = false) →
      ∃ t, exec (.domainEntryDone d w) s = .next t
        ∧ (match exec (.domainEntryDone d w) (s.setPwrDom d.val { s.pwrDom d.val with held := none, wakeNext := false }) with | .next v => decide (t = v.domRequest d.val r) | _ => false) = true) ∧
  (∀ (d : Fin 23) (step : Fin 5) (w : Nat) (s : State),
      (d.val = 0 ∨ s.pwrState d.val ≠ P.entering ∨ max s.now w < (s.pwrDom d.val).reqAt + 20000 ∨ step.val ∉ ([1, 2, if (s.pwrDom d.val).target = 2 then 4 else 3] : List Nat)) →
      ∃ t, exec (.domainEntryAbort d step w) s = .next t
        ∧ t = { s with now := max s.now w }) ∧
  (∀ (d : Fin 23) (step : Fin 5) (w : Nat) (s : State),
      d.val ≠ 0 →
      s.pwrState d.val = P.entering →
      (s.pwrDom d.val).reqAt + 20000 ≤ max s.now w →
      (step.val = 1 ∨ step.val = 2 ∨ step.val = (if (s.pwrDom d.val).target = 2 then 4 else 3)) →
      d.val ≠ 20 →
      (s.pwrDom d.val).held = none →
      ∃ t, exec (.domainEntryAbort d step w) s = .next t
        ∧ (t.get (F.PWR_D_REFUSER_CLASS d.val) = 0xB ∧ t.get (F.PWR_D_REFUSER_INDEX d.val) = step.val)
        ∧ (t.rdN (R.PWR_D_ABORTED d.val) = min 0xFFFFFFFF (s.rdN (R.PWR_D_ABORTED d.val) + 1) ∧ t.isPending 783 = true)
        ∧ t.rd (R.PWR_D_STAT d.val) = setBitsOf (setBitsOf (s.rd (R.PWR_D_STAT d.val)) 31 29 0) 2 2 1
        ∧ t.pwrDom d.val = { s.pwrDom d.val with wakeNext := false }
        ∧ t = { s with regs := t.regs, now := max s.now w, pwr := t.pwr, irq := t.irq }
        ∧ (∀ adr, adr ∉ (R.PWR_D_STAT d.val :: R.PWR_D_REFUSER d.val :: R.PWR_D_ABORTED d.val :: coalesced : List Nat) → t.rd adr = s.rd adr)
        ∧ (∀ num dr, num ∉ ([783] : List Nat) → t.slot num dr = s.slot num dr)
        ∧ (∀ key, key ∉ ([d.val] : List Nat) → t.pwrDom key = s.pwrDom key)) ∧
  (∀ (d : Fin 23) (step : Fin 5) (w : Nat) (s : State),
      d.val ≠ 0 →
      s.pwrState d.val = P.entering →
      (s.pwrDom d.val).reqAt + 20000 ≤ max s.now w →
      (step.val = 1 ∨ step.val = 2 ∨ step.val = (if (s.pwrDom d.val).target = 2 then 4 else 3)) →
      d.val = 20 →
      (s.pwrDom d.val).held = none →
      ∃ t, exec (.domainEntryAbort d step w) s = .next t
        ∧ (t.get (F.PWR_D_REFUSER_CLASS d.val) = 0xB ∧ t.get (F.PWR_D_REFUSER_INDEX d.val) = step.val)
        ∧ (t.rdN (R.PWR_D_ABORTED d.val) = min 0xFFFFFFFF (s.rdN (R.PWR_D_ABORTED d.val) + 1) ∧ t.isPending 783 = true)
        ∧ t.rd (R.PWR_D_STAT d.val) = setBitsOf (setBitsOf (s.rd (R.PWR_D_STAT d.val)) 31 29 0) 2 2 1
        ∧ t.pwrDom d.val = { s.pwrDom d.val with wakeNext := false }
        ∧ (∀ k : Nat, k < 4 → t.adc k = if (s.bit (F.MEAS_ADC_CTL_EN k) && s.adcClock && !(s.adc k).live && t.adcFits k && [0, 1, 2, 3].all fun j => j == k || !(if j < k then t.adc j else s.adc j).live || !t.listsMeet k j) = true then { s.adc k with live := true, calib := true, stopping := s.get (F.MEAS_ADC_STAT_STATE k) == A.running, enAt := some ((s.adc k).enAt.getD (max s.now w)), idleAt := max s.now w } else s.adc k)
        ∧ t = { s with regs := t.regs, now := max s.now w, pwr := t.pwr, irq := t.irq, adcs := t.adcs }
        ∧ (∀ adr, adr ∉ (R.PWR_D_STAT d.val :: R.PWR_D_REFUSER d.val :: R.PWR_D_ABORTED d.val :: coalesced : List Nat) → t.rd adr = s.rd adr)
        ∧ (∀ num dr, num ∉ ([783] : List Nat) → t.slot num dr = s.slot num dr)
        ∧ (∀ key, key ∉ ([d.val] : List Nat) → t.pwrDom key = s.pwrDom key)) ∧
  (∀ (d : Fin 23) (step : Fin 5) (w r : Nat) (s : State),
      d.val ≠ 0 →
      s.pwrState d.val = P.entering →
      (s.pwrDom d.val).reqAt + 20000 ≤ max s.now w →
      (step.val = 1 ∨ step.val = 2 ∨ step.val = (if (s.pwrDom d.val).target = 2 then 4 else 3)) →
      ((s.pwrDom d.val).held = some r ∧ (s.pwrDom d.val).wakeNext = false) →
      ∃ t, exec (.domainEntryAbort d step w) s = .next t
        ∧ (match exec (.domainEntryAbort d step w) (s.setPwrDom d.val { s.pwrDom d.val with held := none, wakeNext := false }) with | .next v => decide (t = v.domRequest d.val r) | _ => false) = true) ∧
  (∀ (d : Fin 23) (w : Nat) (s : State),
      d.val ≠ 0 →
      (d.val ≠ 10 ∨ (s.at_ w).drnWakes = true) →
      (s.pwrState d.val = P.retention ∨ s.pwrState d.val = P.off) →
      (s.pwrDom d.val).retry = false →
      ∃ t, exec (.domainWake d w) s = .next t
        ∧ t.pwrState d.val = P.waking
        ∧ setBitsOf (t.rd (R.PWR_D_STAT d.val)) 31 29 0 = setBitsOf (s.rd (R.PWR_D_STAT d.val)) 31 29 0
        ∧ t.pwrDom d.val = { s.pwrDom d.val with prior := s.pwrState d.val, attempts := 0, wakeAt := max s.now w }
        ∧ t = { s with regs := t.regs, now := max s.now w, pwr := t.pwr }
        ∧ (∀ adr, adr ∉ ([R.PWR_D_STAT d.val] : List Nat) → t.rd adr = s.rd adr)
        ∧ (∀ key, key ∉ ([d.val] : List Nat) → t.pwrDom key = s.pwrDom key)) ∧
  (∀ (d : Fin 23) (w : Nat) (s : State),
      d.val ≠ 0 →
      (d.val ≠ 10 ∨ (s.at_ w).drnWakes = true) →
      s.pwrState d.val = P.entering →
      (s.pwrDom d.val).wakeNext = false →
      ∃ t, exec (.domainWake d w) s = .next t
        ∧ t.rd (R.PWR_D_STAT d.val) = setBitsOf (s.rd (R.PWR_D_STAT d.val)) 0 0 1
        ∧ t.pwrDom d.val = { s.pwrDom d.val with wakeNext := true }
        ∧ (let same := decide (max s.now w / 2 = (s.pwrDom d.val).reqAt / 2); t.get (F.PWR_D_IMMEDIATE_IMMEDIATE_WAKE d.val) = min 65535 (s.get (F.PWR_D_IMMEDIATE_IMMEDIATE_WAKE d.val) + if same = true then 1 else 0) ∧ t.get (F.PWR_D_IMMEDIATE_ENTRY_WAKE d.val) = min 65535 (s.get (F.PWR_D_IMMEDIATE_ENTRY_WAKE d.val) + if same = true then 0 else 1) ∧ (same = true → t.isPending 785 = true) ∧ (same = false → t.irq = s.irq))
        ∧ t = { s with regs := t.regs, now := max s.now w, pwr := t.pwr, irq := t.irq }
        ∧ (∀ adr, adr ∉ (R.PWR_D_STAT d.val :: R.PWR_D_IMMEDIATE d.val :: coalesced : List Nat) → t.rd adr = s.rd adr)
        ∧ (∀ num dr, num ∉ ([785] : List Nat) → t.slot num dr = s.slot num dr)
        ∧ (∀ key, key ∉ ([d.val] : List Nat) → t.pwrDom key = s.pwrDom key)) ∧
  (∀ (d : Fin 23) (w : Nat) (s : State),
      (d.val = 0 ∨ d.val = 10 ∧ (s.at_ w).drnWakes = false ∨ s.pwrState d.val = P.on ∨ 4 ≤ s.pwrState d.val ∨ s.pwrState d.val = P.entering ∧ (s.pwrDom d.val).wakeNext = true ∨ s.pwrState d.val ≠ P.entering ∧ (s.pwrDom d.val).retry = true) →
      ∃ t, exec (.domainWake d w) s = .next t
        ∧ t = { s with now := max s.now w }) ∧
  (∀ (d : Fin 23) (w : Nat) (s : State),
      (s.pwrState d.val ≠ P.waking ∨ (s.pwrDom d.val).wakeAt + (if 21 ≤ d.val then 40000 else 100000) ≤ max s.now w ∨ 21 ≤ d.val ∧ s.locked (d.val - 21) = false) →
      ∃ t, exec (.domainWakeDone d w) s = .next t
        ∧ t = { s with now := max s.now w }) ∧
  (∀ (d : Fin 23) (w : Nat) (s : State),
      d.val ≠ 0 →
      s.pwrState d.val = P.waking →
      max s.now w < (s.pwrDom d.val).wakeAt + (if 21 ≤ d.val then 40000 else 100000) →
      (d.val < 21 ∨ s.locked (d.val - 21) = true) →
      (d.val ∉ ([2, 3, 4, 5, 10, 18, 20] : List Nat)) →
      ((s.pwrDom d.val).held = none ∧ (s.pwrDom d.val).wakeNext = false) →
      (∀ e ∈ (s.stalls : List Stall), e.dom ≠ d.val) →
      ∃ t, exec (.domainWakeDone d w) s = .next t
        ∧ t.pwrState d.val = P.on
        ∧ setBitsOf (t.rd (R.PWR_D_STAT d.val)) 31 29 0 = setBitsOf (s.rd (R.PWR_D_STAT d.val)) 31 29 0
        ∧ t.pwrDom d.val = { s.pwrDom d.val with attempts := 0, retry := false, failed := false }
        ∧ t.isPending 781 = true
        ∧ (if (s.pwrDom d.val).failed = true ∧ ((List.range 23).any fun k => k != d.val && (s.pwrDom k).failed) = false then s.holdCleared t 1 = true else t.rd R.SYS_HOLD_CAUSES = s.rd R.SYS_HOLD_CAUSES)
        ∧ t = { s with regs := t.regs, now := max s.now w, pwr := t.pwr, irq := t.irq }
        ∧ (∀ adr, adr ∉ (R.PWR_D_STAT d.val :: R.SYS_HOLD_CAUSES :: coalesced : List Nat) → t.rd adr = match (if (s.pwrDom d.val).prior = P.off ∧ addrDomain adr = some d.val then s.shadow.filter fun e => e.1 == adr else []).getLast? with | some e => regReset adr ||| e.2 | none => s.rd adr)
        ∧ (∀ num dr, num ∉ ([781] : List Nat) → t.slot num dr = s.slot num dr)
        ∧ (∀ key, key ∉ ([d.val] : List Nat) → t.pwrDom key = s.pwrDom key)) ∧
  (∀ (d : Fin 23) (w : Nat) (s : State),
      d.val ≠ 0 →
      s.pwrState d.val = P.waking →
      max s.now w < (s.pwrDom d.val).wakeAt + (if 21 ≤ d.val then 40000 else 100000) →
      (d.val < 21 ∨ s.locked (d.val - 21) = true) →
      (2 ≤ d.val ∧ d.val ≤ 5) →
      ((s.pwrDom d.val).held = none ∧ (s.pwrDom d.val).wakeNext = false) →
      (∀ e ∈ (s.stalls : List Stall), e.dom ≠ d.val) →
      ∃ t, exec (.domainWakeDone d w) s = .next t
        ∧ t.pwrState d.val = P.on
        ∧ setBitsOf (t.rd (R.PWR_D_STAT d.val)) 31 29 0 = setBitsOf (s.rd (R.PWR_D_STAT d.val)) 31 29 0
        ∧ t.pwrDom d.val = { s.pwrDom d.val with attempts := 0, retry := false, failed := false }
        ∧ t.isPending 781 = true
        ∧ (if (s.pwrDom d.val).failed = true ∧ ((List.range 23).any fun k => k != d.val && (s.pwrDom k).failed) = false then s.holdCleared t 1 = true else t.rd R.SYS_HOLD_CAUSES = s.rd R.SYS_HOLD_CAUSES)
        ∧ t.cfg = (if (s.pwrDom d.val).prior = P.off then { s.cfg with restoring := (d.val - 2) :: s.cfg.restoring } else { s.cfg with scanFirst := s.cfg.scanFirst ++ (List.range 4096).filter fun f => decide (2 * (f / 16 / 128) + f / 16 % 16 / 8 = d.val - 2) })
        ∧ t = { s with regs := t.regs, now := max s.now w, pwr := t.pwr, irq := t.irq, cfg := t.cfg }
        ∧ (∀ adr, adr ∉ (R.PWR_D_STAT d.val :: R.SYS_HOLD_CAUSES :: coalesced : List Nat) → t.rd adr = match (if (s.pwrDom d.val).prior = P.off ∧ addrDomain adr = some d.val then s.shadow.filter fun e => e.1 == adr else []).getLast? with | some e => regReset adr ||| e.2 | none => s.rd adr)
        ∧ (∀ num dr, num ∉ ([781] : List Nat) → t.slot num dr = s.slot num dr)
        ∧ (∀ key, key ∉ ([d.val] : List Nat) → t.pwrDom key = s.pwrDom key)) ∧
  (∀ (d : Fin 23) (w : Nat) (s : State),
      d.val ≠ 0 →
      s.pwrState d.val = P.waking →
      max s.now w < (s.pwrDom d.val).wakeAt + (if 21 ≤ d.val then 40000 else 100000) →
      (d.val < 21 ∨ s.locked (d.val - 21) = true) →
      d.val = 10 →
      ((s.pwrDom d.val).held = none ∧ (s.pwrDom d.val).wakeNext = false) →
      (∀ e ∈ (s.stalls : List Stall), e.dom ≠ d.val) →
      ∃ t, exec (.domainWakeDone d w) s = .next t
        ∧ t.pwrState d.val = P.on
        ∧ setBitsOf (t.rd (R.PWR_D_STAT d.val)) 31 29 0 = setBitsOf (s.rd (R.PWR_D_STAT d.val)) 31 29 0
        ∧ t.pwrDom d.val = { s.pwrDom d.val with attempts := 0, retry := false, failed := false }
        ∧ t.isPending 781 = true
        ∧ (if (s.pwrDom d.val).failed = true ∧ ((List.range 23).any fun k => k != d.val && (s.pwrDom k).failed) = false then s.holdCleared t 1 = true else t.rd R.SYS_HOLD_CAUSES = s.rd R.SYS_HOLD_CAUSES)
        ∧ (∀ k : Nat, k < 4 → t.drone k = { s.drone k with wdRef := max s.now w - ((s.pwrDom 10).doneAt - (s.drone k).wdRef) })
        ∧ t = { s with regs := t.regs, now := max s.now w, pwr := t.pwr, irq := t.irq, drones := t.drones }
        ∧ (∀ adr, adr ∉ (R.PWR_D_STAT d.val :: R.SYS_HOLD_CAUSES :: coalesced : List Nat) → t.rd adr = match (if (s.pwrDom d.val).prior = P.off ∧ addrDomain adr = some d.val then s.shadow.filter fun e => e.1 == adr else []).getLast? with | some e => regReset adr ||| e.2 | none => s.rd adr)
        ∧ (∀ num dr, num ∉ ([781] : List Nat) → t.slot num dr = s.slot num dr)
        ∧ (∀ key, key ∉ ([d.val] : List Nat) → t.pwrDom key = s.pwrDom key)) ∧
  (∀ (d : Fin 23) (w : Nat) (s : State),
      d.val ≠ 0 →
      s.pwrState d.val = P.waking →
      max s.now w < (s.pwrDom d.val).wakeAt + (if 21 ≤ d.val then 40000 else 100000) →
      (d.val < 21 ∨ s.locked (d.val - 21) = true) →
      d.val = 18 →
      (∀ e ∈ (s.shadow : Sparse Word), e.1 ≠ R.EMN_POS) →
      ((s.pwrDom d.val).held = none ∧ (s.pwrDom d.val).wakeNext = false) →
      (∀ e ∈ (s.stalls : List Stall), e.dom ≠ d.val) →
      ∃ t, exec (.domainWakeDone d w) s = .next t
        ∧ t.pwrState d.val = P.on
        ∧ setBitsOf (t.rd (R.PWR_D_STAT d.val)) 31 29 0 = setBitsOf (s.rd (R.PWR_D_STAT d.val)) 31 29 0
        ∧ t.pwrDom d.val = { s.pwrDom d.val with attempts := 0, retry := false, failed := false }
        ∧ t.isPending 781 = true
        ∧ (if (s.pwrDom d.val).failed = true ∧ ((List.range 23).any fun k => k != d.val && (s.pwrDom k).failed) = false then s.holdCleared t 1 = true else t.rd R.SYS_HOLD_CAUSES = s.rd R.SYS_HOLD_CAUSES)
        ∧ (∀ p : Nat, p < 4 → t.gcl p = if (s.pwrDom d.val).prior = P.off ∧ t.get (F.NET_E_GCL_CTL_LEN p) ≠ 0 then ⟨t.get (F.NET_E_GCL_CTL_LEN p), t.get (F.NET_E_GCL_CYCLE_CYCLE_NS p), t.gclBase p, 0⟩ else s.gcl p)
        ∧ (if (s.pwrDom d.val).prior = P.off ∧ s.emn.head = true ∧ s.bit F.EMN_POS_VALID = false then t.bit F.EMN_POS_VALID = true ∧ t.bit F.EMN_POS_HEAD = true ∧ t.get F.EMN_POS_POS = 0 ∧ t.isPending 774 = true else t.rd R.EMN_POS = s.rd R.EMN_POS ∧ ∀ dr : Nat, dr < 4 → t.slot 774 dr = s.slot 774 dr)
        ∧ t = { s with regs := t.regs, now := max s.now w, pwr := t.pwr, irq := t.irq, net := { s.net with gcl := t.net.gcl } }
        ∧ (∀ adr, adr ∉ (R.PWR_D_STAT d.val :: R.SYS_HOLD_CAUSES :: R.EMN_POS :: coalesced : List Nat) → t.rd adr = match (if (s.pwrDom d.val).prior = P.off ∧ addrDomain adr = some d.val then s.shadow.filter fun e => e.1 == adr else []).getLast? with | some e => regReset adr ||| e.2 | none => s.rd adr)
        ∧ (∀ num dr, num ∉ ([774, 781] : List Nat) → t.slot num dr = s.slot num dr)
        ∧ (∀ key, key ∉ ([d.val] : List Nat) → t.pwrDom key = s.pwrDom key)) ∧
  (∀ (d : Fin 23) (w : Nat) (s : State),
      d.val ≠ 0 →
      s.pwrState d.val = P.waking →
      max s.now w < (s.pwrDom d.val).wakeAt + (if 21 ≤ d.val then 40000 else 100000) →
      (d.val < 21 ∨ s.locked (d.val - 21) = true) →
      d.val = 20 →
      ((s.pwrDom d.val).held = none ∧ (s.pwrDom d.val).wakeNext = false) →
      (∀ e ∈ (s.stalls : List Stall), e.dom ≠ d.val) →
      ∃ t, exec (.domainWakeDone d w) s = .next t
        ∧ t.pwrState d.val = P.on
        ∧ setBitsOf (t.rd (R.PWR_D_STAT d.val)) 31 29 0 = setBitsOf (s.rd (R.PWR_D_STAT d.val)) 31 29 0
        ∧ t.pwrDom d.val = { s.pwrDom d.val with attempts := 0, retry := false, failed := false }
        ∧ t.isPending 781 = true
        ∧ (if (s.pwrDom d.val).failed = true ∧ ((List.range 23).any fun k => k != d.val && (s.pwrDom k).failed) = false then s.holdCleared t 1 = true else t.rd R.SYS_HOLD_CAUSES = s.rd R.SYS_HOLD_CAUSES)
        ∧ (∀ k : Nat, k < 4 → t.adc k = if (t.bit (F.MEAS_ADC_CTL_EN k) && s.adcClock && !(s.adc k).live && t.adcFits k && [0, 1, 2, 3].all fun j => j == k || !(if j < k then t.adc j else s.adc j).live || !t.listsMeet k j) = true then { s.adc k with live := true, calib := true, stopping := t.get (F.MEAS_ADC_STAT_STATE k) == A.running, enAt := some ((s.adc k).enAt.getD (max s.now w)), idleAt := max s.now w } else s.adc k)
        ∧ t = { s with regs := t.regs, now := max s.now w, pwr := t.pwr, irq := t.irq, adcs := t.adcs }
        ∧ (∀ adr, adr ∉ (R.PWR_D_STAT d.val :: R.SYS_HOLD_CAUSES :: coalesced : List Nat) → t.rd adr = match (if (s.pwrDom d.val).prior = P.off ∧ addrDomain adr = some d.val then s.shadow.filter fun e => e.1 == adr else []).getLast? with | some e => regReset adr ||| e.2 | none => s.rd adr)
        ∧ (∀ num dr, num ∉ ([781] : List Nat) → t.slot num dr = s.slot num dr)
        ∧ (∀ key, key ∉ ([d.val] : List Nat) → t.pwrDom key = s.pwrDom key)) ∧
  (∀ (d : Fin 23) (w : Nat) (s : State),
      d.val ≠ 0 →
      s.pwrState d.val = P.waking →
      max s.now w < (s.pwrDom d.val).wakeAt + (if 21 ≤ d.val then 40000 else 100000) →
      (d.val < 21 ∨ s.locked (d.val - 21) = true) →
      ((s.pwrDom d.val).held = none ∧ (s.pwrDom d.val).wakeNext = false) →
      ∃ t, exec (.domainWakeDone d w) s = .next t
        ∧ (match exec (.domainWakeDone d w) { s with stalls := s.stalls.filter fun e => e.dom != d.val } with | .next v => decide (t = (s.stalls.filter fun e => e.dom == d.val).foldl (fun (u : State) e => match e.by_ with | .access ini write a k x bad => u.spineAccess ini write a k x bad | _ => u) v) | _ => false) = true) ∧
  (∀ (d : Fin 23) (w r : Nat) (s : State),
      d.val ≠ 0 →
      s.pwrState d.val = P.waking →
      max s.now w < (s.pwrDom d.val).wakeAt + (if 21 ≤ d.val then 40000 else 100000) →
      (d.val < 21 ∨ s.locked (d.val - 21) = true) →
      ((s.pwrDom d.val).held = some r ∧ (s.pwrDom d.val).wakeNext = false) →
      ∃ t, exec (.domainWakeDone d w) s = .next t
        ∧ (match exec (.domainWakeDone d w) (s.setPwrDom d.val { s.pwrDom d.val with held := none, wakeNext := false }) with | .next v => decide (t = v.domRequest d.val r) | _ => false) = true) ∧
  (∀ (d : Fin 23) (cause : Fin 5) (w : Nat) (s : State),
      (s.pwrState d.val ≠ P.waking ∨ ¬ (if cause.val = 1 ∨ cause.val = 2 then (s.pwrDom d.val).wakeAt + 100000 ≤ max s.now w else if cause.val = 3 then 21 ≤ d.val ∧ s.locked (d.val - 21) = false ∧ (s.nextBand (d.val - 21) = none ∨ (s.pwrDom d.val).wakeAt + 40000 ≤ max s.now w) else cause.val = 4 ∧ (s.pwrDom d.val).prior = P.off ∧ d.val ≤ 20)) →
      ∃ t, exec (.wakeAttemptFail d cause w) s = .next t
        ∧ t = { s with now := max s.now w }) ∧
  (∀ (d : Fin 23) (cause : Fin 5) (w : Nat) (s : State),
      d.val ≠ 0 →
      s.pwrState d.val = P.waking →
      (if cause.val = 1 ∨ cause.val = 2 then (s.pwrDom d.val).wakeAt + 100000 ≤ max s.now w else if cause.val = 3 then 21 ≤ d.val ∧ s.locked (d.val - 21) = false ∧ (s.nextBand (d.val - 21) = none ∨ (s.pwrDom d.val).wakeAt + 40000 ≤ max s.now w) else cause.val = 4 ∧ (s.pwrDom d.val).prior = P.off ∧ d.val ≤ 20) →
      (s.pwrDom d.val).attempts < s.get (F.PWR_D_CTL_RETRIES d.val) →
      (∀ e ∈ (s.stalls : List Stall), e.dom ≠ d.val) →
      ∃ t, exec (.wakeAttemptFail d cause w) s = .next t
        ∧ t.pwrState d.val = (s.pwrDom d.val).prior % 8
        ∧ setBitsOf (t.rd (R.PWR_D_STAT d.val)) 31 29 0 = setBitsOf (s.rd (R.PWR_D_STAT d.val)) 31 29 0
        ∧ t.pwrDom d.val = { s.pwrDom d.val with attempts := (s.pwrDom d.val).attempts + 1, retry := true, failAt := max s.now w }
        ∧ (if cause.val = 4 then t.rdN R.ECC_UNCORR_COUNT = min 0xFFFFFFFF (s.rdN R.ECC_UNCORR_COUNT + 1) ∧ t.rdN R.ECC_LAST_INFO = 0xAA030000 ∧ t.rd R.ECC_STAT = setBitsOf (s.rd R.ECC_STAT) F.ECC_STAT_UNCORR.hi F.ECC_STAT_UNCORR.lo 1 ∧ t.isPending 859 = true else ∀ adr ∈ ([R.ECC_UNCORR_COUNT, R.ECC_LAST_INFO, R.ECC_STAT, R.ECC_LAST_UNCORR] : List Nat), t.rd adr = s.rd adr)
        ∧ t = { s with regs := t.regs, now := max s.now w, pwr := t.pwr, irq := t.irq, free := s.free + if cause.val = 4 then 1 else 0 }
        ∧ (∀ adr, adr ∉ (R.PWR_D_STAT d.val :: R.ECC_UNCORR_COUNT :: R.ECC_LAST_UNCORR :: R.ECC_LAST_INFO :: R.ECC_STAT :: coalesced : List Nat) → t.rd adr = s.rd adr)
        ∧ (∀ num dr, num ∉ (if cause.val = 4 then [859] else [] : List Nat) → t.slot num dr = s.slot num dr)
        ∧ (∀ key, key ∉ ([d.val] : List Nat) → t.pwrDom key = s.pwrDom key)) ∧
  (∀ (d : Fin 23) (cause : Fin 5) (w : Nat) (s : State),
      d.val ≠ 0 →
      s.pwrState d.val = P.waking →
      (if cause.val = 1 ∨ cause.val = 2 then (s.pwrDom d.val).wakeAt + 100000 ≤ max s.now w else if cause.val = 3 then 21 ≤ d.val ∧ s.locked (d.val - 21) = false ∧ (s.nextBand (d.val - 21) = none ∨ (s.pwrDom d.val).wakeAt + 40000 ≤ max s.now w) else cause.val = 4 ∧ (s.pwrDom d.val).prior = P.off ∧ d.val ≤ 20) →
      s.get (F.PWR_D_CTL_RETRIES d.val) ≤ (s.pwrDom d.val).attempts →
      ((s.pwrDom d.val).held = none ∧ (s.pwrDom d.val).wakeNext = false) →
      (∀ e ∈ (s.stalls : List Stall), e.dom ≠ d.val) →
      ∃ t, exec (.wakeAttemptFail d cause w) s = .next t
        ∧ t.rd (R.PWR_D_STAT d.val) = setBitsOf (setBitsOf (setBitsOf (s.rd (R.PWR_D_STAT d.val)) 31 29 (s.pwrDom d.val).prior) 27 24 cause.val) 1 1 1
        ∧ (t.rdN (R.PWR_D_WAKE_FAIL d.val) = min 0xFFFFFFFF (s.rdN (R.PWR_D_WAKE_FAIL d.val) + 1) ∧ t.isPending 784 = true)
        ∧ t.pwrDom d.val = { s.pwrDom d.val with attempts := 0, retry := false, failed := (s.pwrDom d.val).failed || s.bitAt R.PWR_RUN_NEED d.val }
        ∧ (if s.bitAt R.PWR_RUN_NEED d.val = true then (s.at_ w).holdTaken t 1 = true else t.rd R.SYS_HOLD_CAUSES = s.rd R.SYS_HOLD_CAUSES ∧ s.modeMoves t none = true)
        ∧ (if cause.val = 4 then t.rdN R.ECC_UNCORR_COUNT = min 0xFFFFFFFF (s.rdN R.ECC_UNCORR_COUNT + 1) ∧ t.rdN R.ECC_LAST_INFO = 0xAA030000 ∧ t.rd R.ECC_STAT = setBitsOf (s.rd R.ECC_STAT) F.ECC_STAT_UNCORR.hi F.ECC_STAT_UNCORR.lo 1 ∧ t.isPending 859 = true else ∀ adr ∈ ([R.ECC_UNCORR_COUNT, R.ECC_LAST_INFO, R.ECC_STAT, R.ECC_LAST_UNCORR] : List Nat), t.rd adr = s.rd adr)
        ∧ t = { s with regs := t.regs, now := max s.now w, pwr := t.pwr, irq := t.irq, sessions := t.sessions, modeCtl := t.modeCtl, free := s.free + if cause.val = 4 then 1 else 0 }
        ∧ (∀ adr, adr ∉ (R.PWR_D_STAT d.val :: R.PWR_D_WAKE_FAIL d.val :: R.SYS_HOLD_CAUSES :: R.ECC_UNCORR_COUNT :: R.ECC_LAST_UNCORR :: R.ECC_LAST_INFO :: R.ECC_STAT :: modeRegs : List Nat) → t.rd adr = s.rd adr)
        ∧ (∀ num dr, num ∉ ((if cause.val = 4 then [859] else []) ++ (if s.bitAt R.PWR_RUN_NEED d.val = true then [784, 824] else [784]) : List Nat) → t.slot num dr = s.slot num dr)
        ∧ (∀ key, key ∉ ([d.val] : List Nat) → t.pwrDom key = s.pwrDom key)) ∧
  (∀ (d : Fin 23) (cause : Fin 5) (w r : Nat) (s : State),
      d.val ≠ 0 →
      s.pwrState d.val = P.waking →
      (if cause.val = 1 ∨ cause.val = 2 then (s.pwrDom d.val).wakeAt + 100000 ≤ max s.now w else if cause.val = 3 then 21 ≤ d.val ∧ s.locked (d.val - 21) = false ∧ (s.nextBand (d.val - 21) = none ∨ (s.pwrDom d.val).wakeAt + 40000 ≤ max s.now w) else cause.val = 4 ∧ (s.pwrDom d.val).prior = P.off ∧ d.val ≤ 20) →
      s.get (F.PWR_D_CTL_RETRIES d.val) ≤ (s.pwrDom d.val).attempts →
      (∀ e ∈ (s.stalls : List Stall), e.dom ≠ d.val) →
      ((s.pwrDom d.val).held = some r ∧ (s.pwrDom d.val).wakeNext = false) →
      ∃ t, exec (.wakeAttemptFail d cause w) s = .next t
        ∧ (match exec (.wakeAttemptFail d cause w) (s.setPwrDom d.val { s.pwrDom d.val with held := none, wakeNext := false }) with | .next v => decide (t = v.domRequest d.val r) | _ => false) = true) ∧
  (∀ (d : Fin 23) (cause : Fin 5) (w : Nat) (s : State),
      d.val ≠ 0 →
      s.pwrState d.val = P.waking →
      (if cause.val = 1 ∨ cause.val = 2 then (s.pwrDom d.val).wakeAt + 100000 ≤ max s.now w else if cause.val = 3 then 21 ≤ d.val ∧ s.locked (d.val - 21) = false ∧ (s.nextBand (d.val - 21) = none ∨ (s.pwrDom d.val).wakeAt + 40000 ≤ max s.now w) else cause.val = 4 ∧ (s.pwrDom d.val).prior = P.off ∧ d.val ≤ 20) →
      ∃ t, exec (.wakeAttemptFail d cause w) s = .next t
        ∧ (match exec (.wakeAttemptFail d cause w) { s with stalls := s.stalls.filter fun e => e.dom != d.val } with | .next v => decide (t = (s.stalls.filter fun e => e.dom == d.val).foldl (fun (u : State) e => match e.by_ with | .access ini write a _ _ _ => u.respond ini a .domainOff (if write = true then 0 else 0xDEAD0FF0#64) | b => { u with stalls := u.stalls ++ [{ dom := d.val, by_ := b, failed := true }] }) v) | _ => false) = true) ∧
  (∀ (d : Fin 23) (w : Nat) (s : State),
      (s.pwrDom d.val).retry = true →
      (s.pwrDom d.val).failAt + 4000 ≤ max s.now w →
      ∃ t, exec (.wakeRetry d w) s = .next t
        ∧ t.pwrState d.val = P.waking
        ∧ setBitsOf (t.rd (R.PWR_D_STAT d.val)) 31 29 0 = setBitsOf (s.rd (R.PWR_D_STAT d.val)) 31 29 0
        ∧ t.pwrDom d.val = { s.pwrDom d.val with retry := false, wakeAt := max s.now w }
        ∧ t = { s with regs := t.regs, now := max s.now w, pwr := t.pwr }
        ∧ (∀ adr, adr ∉ ([R.PWR_D_STAT d.val] : List Nat) → t.rd adr = s.rd adr)
        ∧ (∀ key, key ∉ ([d.val] : List Nat) → t.pwrDom key = s.pwrDom key)) ∧
  (∀ (d : Fin 23) (w : Nat) (s : State),
      ((s.pwrDom d.val).retry = false ∨ max s.now w < (s.pwrDom d.val).failAt + 4000) →
      ∃ t, exec (.wakeRetry d w) s = .next t
        ∧ t = { s with now := max s.now w })

/-- The reference is found, and the PLLs choose a band, lock, fail, retry and are measured (parts of R8, R246, R444, R451, R452, R453, R455, R459, R462, R463, R464, R471). PLL x is A for 0 and B for 1. Times in wheel-time units of 2.5 ns: 40,000 are 100 µs and 400,000 are 1 ms. "It tries": PLL x is not locked, the reference is not lost, and its domain is WAKING for less than 100 µs, or ON with an attempt that has no bound (the return of the reference) or began less than 100 µs ago, or ON in RESET. What a clause does not name stays. (1) REF_DETECT in RESET with no reference taken yet: the LVDS clock where 400 to 600 edges came in 20 µs, else the LVCMOS clock, else the crystal where it reaches amplitude, else none. (2) Outside RESET, or with a reference taken: it holds. (3) The band of the next lock. A fresh choice is the lowest entry that is VALID with FMIN ≤ 4,000 < FMAX; else the band last locked in, or, where VTUNE was high (low), the next entry above (below) it that qualifies, if any. (4) PLL_LOCK while it tries: LOCKED on that band with the reference modifier set (the reserved code keeps the one in use); a RELOCK is done; source 808 + x. With STANDBY = 1 a PLL that does not supply stands by. BAND_MARGIN clears where the lock chose afresh or moved. (5) The lock that ends a RELOCK of the supplying PLL, whose planned return still stands: supply goes back to it, and the other stands by if it is locked; no source 810, and SWITCHES stays. (6) With no entry that qualifies the attempt fails at once: NO_BAND, no planned return, the RELOCK ended, and 1 ms to the next attempt. (7) While it does not try: nothing. (8) PLL_LOCK_TIMEOUT 100 µs after an attempt began: it has failed, and a planned return is not made. (9) Earlier, with no attempt, or with the relock of a returned reference: nothing. (10) PLL_LOCK_RETRY of a PLL out of lock, ON, that does not try, 1 ms after its last attempt or loss: an attempt begins; in RESET with a fresh choice. (11) Otherwise nothing. (12) VTUNE_MEASURE of a locked PLL within [300, 900) mV: VTUNE is the value calibrated by record 0x25 + x. (13) Outside it also BAND_MARGIN and source 814, and the next lock moves up from 900 mV on, down below 300 mV. The lock is kept. (14) With the PLL not locked: nothing. Readings and choices of the model that it rests on: log entries 109, 110, 111, 112, 169, 172. -/
def Obligations.ThePllsLock : Prop :=
  (∀ (lvds lvcmos : Nat) (xtal : Bool) (s : State),
      s.mode = M.reset →
      s.get F.CLK_REF_CFG_SRC = 0 →
      ∃ t, exec (.refDetect lvds lvcmos xtal) s = .next t
        ∧ t.rd R.CLK_REF_CFG = setBitsOf (s.rd R.CLK_REF_CFG) 31 30 (if 400 ≤ lvds ∧ lvds ≤ 600 then 1 else if 400 ≤ lvcmos ∧ lvcmos ≤ 600 then 2 else if xtal = true then 3 else 0)
        ∧ t = { s with regs := t.regs }
        ∧ (∀ adr, adr ∉ ([R.CLK_REF_CFG] : List Nat) → t.rd adr = s.rd adr)) ∧
  (∀ (lvds lvcmos : Nat) (xtal : Bool) (s : State),
      (s.mode ≠ M.reset ∨ s.get F.CLK_REF_CFG_SRC ≠ 0) →
      ∃ t, exec (.refDetect lvds lvcmos xtal) s = .next t
        ∧ t = s) ∧
  (∀ (x : Fin 2) (s : State),
      ((s.pll x.val).choose = true ∨ (s.pll x.val).used = none → s.nextBand x.val = (List.range 16).find? (fun (b : Nat) => (s.rd (R.CLK_BAND b)).getLsbD 0 && decide (bitsOf (s.rd (R.CLK_BAND b)) 31 19 ≤ 4000) && decide (4000 < bitsOf (s.rd (R.CLK_BAND b)) 18 6)))
        ∧ ((s.pll x.val).choose = false → ∀ u ∈ ((s.pll x.val).used.toList : List Nat), s.nextBand x.val = some (match (s.pll x.val).move with | none => u | some true => (((List.range 16).find? fun b => (fun (b : Nat) => (s.rd (R.CLK_BAND b)).getLsbD 0 && decide (bitsOf (s.rd (R.CLK_BAND b)) 31 19 ≤ 4000) && decide (4000 < bitsOf (s.rd (R.CLK_BAND b)) 18 6)) b && decide (u < b)).getD u) | some false => (((List.range 16).reverse.find? fun b => (fun (b : Nat) => (s.rd (R.CLK_BAND b)).getLsbD 0 && decide (bitsOf (s.rd (R.CLK_BAND b)) 31 19 ≤ 4000) && decide (4000 < bitsOf (s.rd (R.CLK_BAND b)) 18 6)) b && decide (b < u)).getD u)))) ∧
  (∀ (x : Fin 2) (w : Nat) (b : Fin 16) (s : State),
      (s.locked x.val = false ∧ s.bit F.CLK_STAT_REF_LOST = false ∧ (s.pwrState (21 + x.val) = P.waking ∧ max s.now w < (s.pwrDom (21 + x.val)).wakeAt + 40000 ∨ s.pwrState (21 + x.val) = P.on ∧ ((s.pll x.val).trying = true ∧ (∀ a ∈ ((s.pll x.val).tryAt.toList : List Nat), max s.now w < a + 40000) ∨ (s.pll x.val).trying = false ∧ s.mode = M.reset))) →
      s.nextBand x.val = some b.val →
      ¬ ((s.pll x.val).goHome = true ∧ s.supplyPll ≠ x.val ∧ s.bit F.CLK_CTL_STANDBY = true) →
      ∃ t, exec (.pllLock x w) s = .next t
        ∧ (t.locked x.val = true ∧ t.standsBy x.val = (s.standsBy x.val || decide (s.supplyPll ≠ x.val) && s.bit F.CLK_CTL_STANDBY) ∧ t.bit (F.CLK_PLL_STAT_HOLDOVER x.val) = false ∧ t.bit (F.CLK_PLL_STAT_NO_BAND x.val) = false ∧ t.get (F.CLK_PLL_STAT_BAND x.val) = b.val ∧ t.get (F.CLK_PLL_STAT_VTUNE x.val) = s.get (F.CLK_PLL_STAT_VTUNE x.val))
        ∧ t.bit (F.CLK_PLL_STAT_BAND_MARGIN x.val) = (s.bit (F.CLK_PLL_STAT_BAND_MARGIN x.val) && !((s.pll x.val).choose || (s.pll x.val).move.isSome && (s.pll x.val).used != some b.val))
        ∧ t.bit (F.CLK_PLL_CTL_RELOCK x.val) = false
        ∧ t.pll x.val = { s.pll x.val with used := some b.val, choose := false, move := none, trying := false, tryAt := none, goHome := (s.pll x.val).goHome, refmod := let m := if x.val = 0 then s.get F.CLK_REF_CFG_REFMOD_A else s.get F.CLK_REF_CFG_REFMOD_B; if m = 3 then (s.pll x.val).refmod else m }
        ∧ t.isPending (808 + x.val) = true
        ∧ t = { s with now := max s.now w, regs := t.regs, clk := { s.clk with plls := t.clk.plls }, irq := t.irq }
        ∧ (∀ adr, adr ∉ (R.CLK_PLL_STAT x.val :: R.CLK_PLL_CTL x.val :: coalesced : List Nat) → t.rd adr = s.rd adr)
        ∧ (∀ num dr, num ∉ ([808 + x.val] : List Nat) → t.slot num dr = s.slot num dr)
        ∧ (∀ key, key ∉ ([x.val] : List Nat) → t.pll key = s.pll key)) ∧
  (∀ (x : Fin 2) (w : Nat) (b : Fin 16) (s : State),
      (s.locked x.val = false ∧ s.bit F.CLK_STAT_REF_LOST = false ∧ (s.pwrState (21 + x.val) = P.waking ∧ max s.now w < (s.pwrDom (21 + x.val)).wakeAt + 40000 ∨ s.pwrState (21 + x.val) = P.on ∧ ((s.pll x.val).trying = true ∧ (∀ a ∈ ((s.pll x.val).tryAt.toList : List Nat), max s.now w < a + 40000) ∨ (s.pll x.val).trying = false ∧ s.mode = M.reset))) →
      s.nextBand x.val = some b.val →
      ((s.pll x.val).goHome = true ∧ s.supplyPll = 1 - x.val ∧ s.bit F.CLK_CTL_STANDBY = true) →
      ∃ t, exec (.pllLock x w) s = .next t
        ∧ (t.locked x.val = true ∧ t.standsBy x.val = false ∧ t.bit (F.CLK_PLL_STAT_HOLDOVER x.val) = false ∧ t.bit (F.CLK_PLL_STAT_NO_BAND x.val) = false ∧ t.get (F.CLK_PLL_STAT_BAND x.val) = b.val ∧ t.get (F.CLK_PLL_STAT_VTUNE x.val) = s.get (F.CLK_PLL_STAT_VTUNE x.val))
        ∧ t.bit (F.CLK_PLL_STAT_BAND_MARGIN x.val) = (s.bit (F.CLK_PLL_STAT_BAND_MARGIN x.val) && !((s.pll x.val).choose || (s.pll x.val).move.isSome && (s.pll x.val).used != some b.val))
        ∧ t.bit (F.CLK_PLL_CTL_RELOCK x.val) = false
        ∧ t.pll x.val = { s.pll x.val with used := some b.val, choose := false, move := none, trying := false, tryAt := none, goHome := false, refmod := let m := if x.val = 0 then s.get F.CLK_REF_CFG_REFMOD_A else s.get F.CLK_REF_CFG_REFMOD_B; if m = 3 then (s.pll x.val).refmod else m }
        ∧ t.isPending (808 + x.val) = true
        ∧ (t.supplyPll = x.val ∧ setBitsOf (t.rd R.CLK_STAT) 31 31 0 = setBitsOf (s.rd R.CLK_STAT) 31 31 0)
        ∧ t.rd (R.CLK_PLL_STAT (1 - x.val)) = (if s.locked (1 - x.val) = true then setBitsOf (s.rd (R.CLK_PLL_STAT (1 - x.val))) 30 30 1 else s.rd (R.CLK_PLL_STAT (1 - x.val)))
        ∧ t = { s with now := max s.now w, regs := t.regs, clk := { s.clk with plls := t.clk.plls }, irq := t.irq }
        ∧ (∀ adr, adr ∉ (R.CLK_PLL_STAT 0 :: R.CLK_PLL_STAT 1 :: R.CLK_STAT :: R.CLK_PLL_CTL x.val :: coalesced : List Nat) → t.rd adr = s.rd adr)
        ∧ (∀ num dr, num ∉ ([808 + x.val] : List Nat) → t.slot num dr = s.slot num dr)
        ∧ (∀ key, key ∉ ([x.val] : List Nat) → t.pll key = s.pll key)) ∧
  (∀ (x : Fin 2) (w : Nat) (s : State),
      (s.locked x.val = false ∧ s.bit F.CLK_STAT_REF_LOST = false ∧ (s.pwrState (21 + x.val) = P.waking ∧ max s.now w < (s.pwrDom (21 + x.val)).wakeAt + 40000 ∨ s.pwrState (21 + x.val) = P.on ∧ ((s.pll x.val).trying = true ∧ (∀ a ∈ ((s.pll x.val).tryAt.toList : List Nat), max s.now w < a + 40000) ∨ (s.pll x.val).trying = false ∧ s.mode = M.reset))) →
      s.nextBand x.val = none →
      ∃ t, exec (.pllLock x w) s = .next t
        ∧ t.rd (R.CLK_PLL_STAT x.val) = setBitsOf (s.rd (R.CLK_PLL_STAT x.val)) 28 28 1
        ∧ t.bit (F.CLK_PLL_CTL_RELOCK x.val) = false
        ∧ t.pll x.val = { s.pll x.val with trying := false, goHome := false, tryAt := some (max s.now w) }
        ∧ t = { s with now := max s.now w, regs := t.regs, clk := { s.clk with plls := t.clk.plls } }
        ∧ (∀ adr, adr ∉ ([R.CLK_PLL_STAT x.val, R.CLK_PLL_CTL x.val] : List Nat) → t.rd adr = s.rd adr)
        ∧ (∀ key, key ∉ ([x.val] : List Nat) → t.pll key = s.pll key)) ∧
  (∀ (x : Fin 2) (w : Nat) (s : State),
      ¬ (s.locked x.val = false ∧ s.bit F.CLK_STAT_REF_LOST = false ∧ (s.pwrState (21 + x.val) = P.waking ∧ max s.now w < (s.pwrDom (21 + x.val)).wakeAt + 40000 ∨ s.pwrState (21 + x.val) = P.on ∧ ((s.pll x.val).trying = true ∧ (∀ a ∈ ((s.pll x.val).tryAt.toList : List Nat), max s.now w < a + 40000) ∨ (s.pll x.val).trying = false ∧ s.mode = M.reset))) →
      ∃ t, exec (.pllLock x w) s = .next t
        ∧ t = { s with now := max s.now w }) ∧
  (∀ (x : Fin 2) (w : Nat) (s : State),
      ((s.pll x.val).trying = true ∧ (s.pll x.val).tryAt.isSome = true ∧ (∀ a ∈ ((s.pll x.val).tryAt.toList : List Nat), a + 40000 ≤ max s.now w)) →
      ∃ t, exec (.pllLockTimeout x w) s = .next t
        ∧ t.pll x.val = { s.pll x.val with trying := false, goHome := false }
        ∧ t.bit (F.CLK_PLL_CTL_RELOCK x.val) = false
        ∧ t = { s with now := max s.now w, regs := t.regs, clk := { s.clk with plls := t.clk.plls } }
        ∧ (∀ adr, adr ∉ ([R.CLK_PLL_CTL x.val] : List Nat) → t.rd adr = s.rd adr)
        ∧ (∀ key, key ∉ ([x.val] : List Nat) → t.pll key = s.pll key)) ∧
  (∀ (x : Fin 2) (w : Nat) (s : State),
      ¬ ((s.pll x.val).trying = true ∧ (s.pll x.val).tryAt.isSome = true ∧ (∀ a ∈ ((s.pll x.val).tryAt.toList : List Nat), a + 40000 ≤ max s.now w)) →
      ∃ t, exec (.pllLockTimeout x w) s = .next t
        ∧ t = { s with now := max s.now w }) ∧
  (∀ (x : Fin 2) (w : Nat) (s : State),
      (s.locked x.val = false ∧ s.pwrState (21 + x.val) = P.on ∧ (s.pll x.val).trying = false ∧ (∀ a ∈ ((s.pll x.val).tryAt.toList : List Nat), a + 400000 ≤ max s.now w)) →
      ∃ t, exec (.pllLockRetry x w) s = .next t
        ∧ t.pll x.val = { s.pll x.val with trying := true, tryAt := some (max s.now w), choose := (s.pll x.val).choose || decide (s.mode = M.reset) }
        ∧ t = { s with now := max s.now w, clk := { s.clk with plls := t.clk.plls } }
        ∧ (∀ key, key ∉ ([x.val] : List Nat) → t.pll key = s.pll key)) ∧
  (∀ (x : Fin 2) (w : Nat) (s : State),
      ¬ (s.locked x.val = false ∧ s.pwrState (21 + x.val) = P.on ∧ (s.pll x.val).trying = false ∧ (∀ a ∈ ((s.pll x.val).tryAt.toList : List Nat), a + 400000 ≤ max s.now w)) →
      ∃ t, exec (.pllLockRetry x w) s = .next t
        ∧ t = { s with now := max s.now w }) ∧
  (∀ (x : Fin 2) (raw : BitVec 16) (y : Int) (s : State),
      s.locked x.val = true →
      y = max (-32768) (min 32767 (Int.tdiv (raw.toInt * (s.get (F.MEAS_FCAL_FG (0x25 + x.val)) : Int) * (65536 + s.getS (F.MEAS_UCAL_UG (0x25 + x.val)))) 2147483648 + s.getS (F.MEAS_FCAL_FO (0x25 + x.val)) + s.getS (F.MEAS_UCAL_UO (0x25 + x.val)))) →
      (300 ≤ y ∧ y < 900) →
      ∃ t, exec (.vtuneMeasure x raw) s = .next t
        ∧ t.rd (R.CLK_PLL_STAT x.val) = setBitsOf (s.rd (R.CLK_PLL_STAT x.val)) 15 0 y.toNat
        ∧ t = { s with regs := t.regs }
        ∧ (∀ adr, adr ∉ ([R.CLK_PLL_STAT x.val] : List Nat) → t.rd adr = s.rd adr)) ∧
  (∀ (x : Fin 2) (raw : BitVec 16) (y : Int) (s : State),
      s.locked x.val = true →
      y = max (-32768) (min 32767 (Int.tdiv (raw.toInt * (s.get (F.MEAS_FCAL_FG (0x25 + x.val)) : Int) * (65536 + s.getS (F.MEAS_UCAL_UG (0x25 + x.val)))) 2147483648 + s.getS (F.MEAS_FCAL_FO (0x25 + x.val)) + s.getS (F.MEAS_UCAL_UO (0x25 + x.val)))) →
      (y < 300 ∨ 900 ≤ y) →
      ∃ t, exec (.vtuneMeasure x raw) s = .next t
        ∧ (t.getS (F.CLK_PLL_STAT_VTUNE x.val) = y ∧ t.bit (F.CLK_PLL_STAT_BAND_MARGIN x.val) = true)
        ∧ setBitsOf (setBitsOf (t.rd (R.CLK_PLL_STAT x.val)) 15 0 0) 27 27 0 = setBitsOf (setBitsOf (s.rd (R.CLK_PLL_STAT x.val)) 15 0 0) 27 27 0
        ∧ (t.isPending 814 = true ∧ t.pll x.val = { s.pll x.val with move := some (decide (900 ≤ y)) })
        ∧ t = { s with regs := t.regs, clk := { s.clk with plls := t.clk.plls }, irq := t.irq }
        ∧ (∀ adr, adr ∉ (R.CLK_PLL_STAT x.val :: coalesced : List Nat) → t.rd adr = s.rd adr)
        ∧ (∀ num dr, num ∉ ([814] : List Nat) → t.slot num dr = s.slot num dr)
        ∧ (∀ key, key ∉ ([x.val] : List Nat) → t.pll key = s.pll key)) ∧
  (∀ (x : Fin 2) (raw : BitVec 16) (s : State),
      s.locked x.val = false →
      ∃ t, exec (.vtuneMeasure x raw) s = .next t
        ∧ t = s)

/-- Faulty PLLs, the commands of CTL and RELOCK, the reference lost and back, the band table and the clock outputs (parts of R7, R8, R18, R20, R23, R24, R32, R35, R301, R453, R454, R455, R456, R457, R458, R459, R460, R461, R462, R463, R464, R465, R466, R467, R469, R470, R471, R480, R569). PLL x is A for 0 and B for 1; the other one is 1 - x. In clauses on a write the initiator sends. "Settled": with STANDBY = 1 the locked PLL that does not supply stands by, and no return to it is planned; with STANDBY = 0 it does not stand by, and no return to it is planned. "HOLD with CLOCK_LOST": HOLD cause 5 is present, and ARMED, RUN and RUN-SPARED go to HOLD, CAUSE 0x35, unless a restart or the way to QUARANTINE is in progress. A mode change writes MODE, PREV and CAUSE, raises source 824 and notifies the sessions that ask for it. Clock outputs are counted in VCO periods of 0.25 ns, ten to a unit of wheel time. What a clause does not name stays. (1) PLL_LOCK_LOSS of the supplying PLL while the other stands by: SUPPLY moves to it, which counts in SWITCHES and raises 810; the faulty PLL is out of lock, raises 808 + x and retries after 1 ms. When PLLA is lost SPARED.PLLB is set, and RUN becomes RUN-SPARED, CAUSE 0x22. (2) PLL_LOCK_LOSS with no switch, the other PLL locked: it is out of lock and no longer stands by; 808 + x. (3) PLL_LOCK_LOSS with no switch, the other PLL out of lock as well: also source 817, and HOLD with CLOCK_LOST. (4) A PLL that is not locked loses no lock. (5) PLL_DISAGREEMENT of two locked PLLs: the one with the larger phase-detector error is faulty, with equal errors the one that does not supply; it ends as its PLL_LOCK_LOSS does. (6) No comparison is made against a PLL out of lock. (7) CORE_SWITCH with the supplying PLL locked: CORE, source 815, and the fabric epoch in the window of R458, whose place in it is a free value. (8) The same with ANA ON: the converters have their clock now, and those with EN = 1 start with a calibration cycle. (9) CORE_SWITCH with the supplying PLL out of lock is refused: CORE_REFUSED. (10) CORE_SWITCH once the core runs on the PLLs: no effect. (11) PLL_RETURN while PLLB supplies and PLLA stands by: PLLA supplies, and PLLB, where it is locked, stands by; source 816; SPARED.PLLB clears, and RUN-SPARED with nothing else spared becomes RUN, CAUSE 0x23. No 810, no count in SWITCHES. (12) PLL_RETURN while PLLA supplies, or does not stand by: RETURN_REFUSED. (13) A write of CTL with CORE and RETURN: RETURN acts first, then CORE. (14) STANDBY written 0: the PLL that does not supply stops standing by, and a planned return is not made. (15) STANDBY written 1 with no return planned: the PLL that does not supply stands by where it is locked, and SUPPLY does not move. (16) PLL_RELOCK of the supplying PLL while the other stands by: supply moves to the other, a return is planned, and the PLL relocks; 808 + x, but no 810, no SPARED and no count. (17) While the other does not: RELOCK_REFUSED. (18) PLL_RELOCK of the other PLL, in a domain that is ON: it stops standing by and relocks; 808 + x where it was locked. (19) The same when the supplying PLL is out of lock: with it both are, so source 817, and HOLD with CLOCK_LOST. (20) PLL_RELOCK of a PLL whose domain is not ON: no effect. (21) REF_LOST: both PLLs are out of lock, in holdover where their domain is ON, with 808 and 809 of those that were locked; REF_LOST, REF_SEEN_LOST, sources 811 and 817, and HOLD with CLOCK_LOST. (22) REF_RETURN: source 812, and each PLL whose domain is ON relocks, with no bound on its time. (23) REF_LOST while it is lost, and REF_RETURN while it is not: nothing. (24) A write of a BANDb, whose bit 1 stays 0: the next lock of each PLL chooses afresh, and a pending move is dropped. (25) The pins of output k in VCO period v, from what drives it: the latest drive that has begun gives them. It is high from its first rising edge on for (D + 1) / 2 of every D periods, until it stops; CLKOUTk_N is the opposite in LVDS and low in the other formats. Outside INIT, ARMED, RUN, RUN-SPARED, HOLD, SERVICE and PROVISION the output is low. (26) CLKOUT_CFG_WRITE of settings allowed together sets them. EN on an output that does not run starts it: its first rising edge, with a full high phase, comes within D periods of now, or of the end of what it drove; where in them is a free value. (27) EN cleared on an output that runs: a high phase in progress finishes, then it is low. (28) Another D or FMT while it runs takes effect at the next falling edge; the period from there on is whole: low, then high. (29) The same of an output that has driven nothing yet starts it. (30) Otherwise what drives the output stays. (31) Settings reserved together: FMT, D and PHASE stay, EN and SYNC_EN are written, and the answer is PARAM. What drives the output stays unless EN changes. (32) The same with EN set over settings that are allowed: the output starts with those it keeps. (33) And with EN cleared over them: it stops. Readings and choices of the model that it rests on: log entries 18, 109, 113, 114, 166, 173. -/
def Obligations.ClocksFailOver : Prop :=
  (∀ (x : Fin 2) (s : State),
      s.locked x.val = true →
      s.supplyPll = x.val →
      s.standsBy (1 - x.val) = true →
      ∃ t, exec (.pllLockLoss x) s = .next t
        ∧ t.rd (R.CLK_PLL_STAT x.val) = setBitsOf (s.rd (R.CLK_PLL_STAT x.val)) 31 30 0
        ∧ (t.pll x.val = { s.pll x.val with tryAt := some s.now } ∧ t.isPending (808 + x.val) = true)
        ∧ (t.supplyPll = (1 - x.val) ∧ setBitsOf (t.rd R.CLK_STAT) 31 31 0 = setBitsOf (s.rd R.CLK_STAT) 31 31 0)
        ∧ t.rd (R.CLK_PLL_STAT (1 - x.val)) = setBitsOf (s.rd (R.CLK_PLL_STAT (1 - x.val))) 30 30 0
        ∧ (t.rdN R.CLK_SWITCHES = min 0xFFFFFFFF (s.rdN R.CLK_SWITCHES + 1) ∧ t.isPending 810 = true)
        ∧ t.rd R.SYS_SPARED = (if x.val = 0 then s.rd R.SYS_SPARED ||| 0x40#32 else s.rd R.SYS_SPARED)
        ∧ s.modeMoves t (if x.val = 0 ∧ s.mode = M.run ∧ s.leaving = false then some (M.runSpared, 0x22) else none) = true
        ∧ t = { s with regs := t.regs, irq := t.irq, sessions := t.sessions, modeCtl := t.modeCtl, clk := { s.clk with plls := t.clk.plls } }
        ∧ (∀ adr, adr ∉ (R.CLK_PLL_STAT 0 :: R.CLK_PLL_STAT 1 :: R.CLK_STAT :: R.CLK_SWITCHES :: R.SYS_SPARED :: modeRegs : List Nat) → t.rd adr = s.rd adr)
        ∧ (∀ num dr, num ∉ ([808 + x.val, 810, 824] : List Nat) → t.slot num dr = s.slot num dr)
        ∧ (∀ key, key ∉ ([x.val] : List Nat) → t.pll key = s.pll key)) ∧
  (∀ (x : Fin 2) (s : State),
      s.locked x.val = true →
      s.locked (1 - x.val) = true →
      (s.supplyPll ≠ x.val ∨ s.standsBy (1 - x.val) = false) →
      ∃ t, exec (.pllLockLoss x) s = .next t
        ∧ t.rd (R.CLK_PLL_STAT x.val) = setBitsOf (s.rd (R.CLK_PLL_STAT x.val)) 31 30 0
        ∧ (t.pll x.val = { s.pll x.val with tryAt := some s.now } ∧ t.isPending (808 + x.val) = true)
        ∧ t = { s with regs := t.regs, irq := t.irq, clk := { s.clk with plls := t.clk.plls } }
        ∧ (∀ adr, adr ∉ (R.CLK_PLL_STAT x.val :: coalesced : List Nat) → t.rd adr = s.rd adr)
        ∧ (∀ num dr, num ∉ ([808 + x.val] : List Nat) → t.slot num dr = s.slot num dr)
        ∧ (∀ key, key ∉ ([x.val] : List Nat) → t.pll key = s.pll key)) ∧
  (∀ (x : Fin 2) (s : State),
      s.locked x.val = true →
      s.locked (1 - x.val) = false →
      (s.supplyPll ≠ x.val ∨ s.standsBy (1 - x.val) = false) →
      ∃ t, exec (.pllLockLoss x) s = .next t
        ∧ t.rd (R.CLK_PLL_STAT x.val) = setBitsOf (s.rd (R.CLK_PLL_STAT x.val)) 31 30 0
        ∧ (t.pll x.val = { s.pll x.val with tryAt := some s.now } ∧ t.isPending (808 + x.val) = true)
        ∧ t.isPending 817 = true
        ∧ s.holdTaken t 5 = true
        ∧ t = { s with regs := t.regs, irq := t.irq, sessions := t.sessions, modeCtl := t.modeCtl, clk := { s.clk with plls := t.clk.plls } }
        ∧ (∀ adr, adr ∉ (R.CLK_PLL_STAT x.val :: R.SYS_HOLD_CAUSES :: modeRegs : List Nat) → t.rd adr = s.rd adr)
        ∧ (∀ num dr, num ∉ ([808 + x.val, 817, 824] : List Nat) → t.slot num dr = s.slot num dr)
        ∧ (∀ key, key ∉ ([x.val] : List Nat) → t.pll key = s.pll key)) ∧
  (∀ (x : Fin 2) (s : State),
      s.locked x.val = false →
      ∃ t, exec (.pllLockLoss x) s = .next t
        ∧ t = s) ∧
  (∀ (errA errB : Nat) (x : Fin 2) (s : State),
      s.locked 0 = true →
      s.locked 1 = true →
      (if errA = errB then x.val ≠ s.supplyPll else if errB < errA then x.val = 0 else x.val = 1) →
      ∃ t, exec (.pllDisagreement errA errB) s = .next t
        ∧ (match exec (.pllLockLoss x) s with | .next v => decide (t = v) | _ => false) = true) ∧
  (∀ (errA errB : Nat) (s : State),
      (s.locked 0 = false ∨ s.locked 1 = false) →
      ∃ t, exec (.pllDisagreement errA errB) s = .next t
        ∧ t = s) ∧
  (∀ (ini : Initiator) (s : State),
      s.sends ini true R.CLK_CTL = true →
      (if s.bit F.CLK_CTL_STANDBY = true then s.locked (1 - s.supplyPll) = true → s.standsBy (1 - s.supplyPll) = true ∧ (s.pll (1 - s.supplyPll)).goHome = false else s.standsBy (1 - s.supplyPll) = false ∧ (s.pll (1 - s.supplyPll)).goHome = false) →
      s.bit F.CLK_CTL_CORE = false →
      s.locked s.supplyPll = true →
      s.domOn 20 = false →
      ∃ t, exec (.coreSwitch ini) s = .next t
        ∧ t.respCode ini = 0
        ∧ t.rd R.CLK_CTL = setBitsOf (s.rd R.CLK_CTL) 31 31 1
        ∧ (t.isPending 815 = true ∧ t.clk.epoch = some (s.now + 16 + s.fresh % 9))
        ∧ t = { s with regs := t.regs, irq := t.irq, spine := t.spine, sec := { s.sec with tapOut := t.sec.tapOut }, clk := { s.clk with plls := t.clk.plls, epoch := t.clk.epoch }, free := s.free + 1 }
        ∧ (∀ adr, adr ∉ (R.CLK_CTL :: coalesced : List Nat) → t.rd adr = s.rd adr)
        ∧ (∀ num dr, num ∉ ([815] : List Nat) → t.slot num dr = s.slot num dr)
        ∧ (∀ key, t.pll key = s.pll key)) ∧
  (∀ (ini : Initiator) (s : State),
      s.sends ini true R.CLK_CTL = true →
      (if s.bit F.CLK_CTL_STANDBY = true then s.locked (1 - s.supplyPll) = true → s.standsBy (1 - s.supplyPll) = true ∧ (s.pll (1 - s.supplyPll)).goHome = false else s.standsBy (1 - s.supplyPll) = false ∧ (s.pll (1 - s.supplyPll)).goHome = false) →
      s.bit F.CLK_CTL_CORE = false →
      s.locked s.supplyPll = true →
      s.domOn 20 = true →
      ∃ t, exec (.coreSwitch ini) s = .next t
        ∧ t.respCode ini = 0
        ∧ t.rd R.CLK_CTL = setBitsOf (s.rd R.CLK_CTL) 31 31 1
        ∧ (t.isPending 815 = true ∧ t.clk.epoch = some (s.now + 16 + s.fresh % 9))
        ∧ (∀ k : Nat, k < 4 → t.adc k = if (s.bit (F.MEAS_ADC_CTL_EN k) && !(s.adc k).live && t.adcFits k && [0, 1, 2, 3].all fun j => j == k || !(if j < k then t.adc j else s.adc j).live || !t.listsMeet k j) = true then { s.adc k with live := true, calib := true, stopping := s.get (F.MEAS_ADC_STAT_STATE k) == A.running, enAt := some ((s.adc k).enAt.getD s.now), idleAt := s.now } else s.adc k)
        ∧ t = { s with regs := t.regs, irq := t.irq, spine := t.spine, sec := { s.sec with tapOut := t.sec.tapOut }, adcs := t.adcs, clk := { s.clk with plls := t.clk.plls, epoch := t.clk.epoch }, free := s.free + 1 }
        ∧ (∀ adr, adr ∉ (R.CLK_CTL :: coalesced : List Nat) → t.rd adr = s.rd adr)
        ∧ (∀ num dr, num ∉ ([815] : List Nat) → t.slot num dr = s.slot num dr)
        ∧ (∀ key, t.pll key = s.pll key)) ∧
  (∀ (ini : Initiator) (s : State),
      s.sends ini true R.CLK_CTL = true →
      (if s.bit F.CLK_CTL_STANDBY = true then s.locked (1 - s.supplyPll) = true → s.standsBy (1 - s.supplyPll) = true ∧ (s.pll (1 - s.supplyPll)).goHome = false else s.standsBy (1 - s.supplyPll) = false ∧ (s.pll (1 - s.supplyPll)).goHome = false) →
      s.bit F.CLK_CTL_CORE = false →
      s.locked s.supplyPll = false →
      ∃ t, exec (.coreSwitch ini) s = .next t
        ∧ t.respCode ini = 0
        ∧ t.rd R.CLK_STAT = setBitsOf (s.rd R.CLK_STAT) 3 3 1
        ∧ t = { s with regs := t.regs, spine := t.spine, sec := { s.sec with tapOut := t.sec.tapOut }, clk := { s.clk with plls := t.clk.plls } }
        ∧ (∀ adr, adr ∉ ([R.CLK_STAT] : List Nat) → t.rd adr = s.rd adr)
        ∧ (∀ key, t.pll key = s.pll key)) ∧
  (∀ (ini : Initiator) (s : State),
      s.sends ini true R.CLK_CTL = true →
      (if s.bit F.CLK_CTL_STANDBY = true then s.locked (1 - s.supplyPll) = true → s.standsBy (1 - s.supplyPll) = true ∧ (s.pll (1 - s.supplyPll)).goHome = false else s.standsBy (1 - s.supplyPll) = false ∧ (s.pll (1 - s.supplyPll)).goHome = false) →
      s.bit F.CLK_CTL_CORE = true →
      ∃ t, exec (.coreSwitch ini) s = .next t
        ∧ t.respCode ini = 0
        ∧ t = { s with regs := t.regs, spine := t.spine, sec := { s.sec with tapOut := t.sec.tapOut }, clk := { s.clk with plls := t.clk.plls } }
        ∧ (∀ adr, adr ∉ ([] : List Nat) → t.rd adr = s.rd adr)
        ∧ (∀ key, t.pll key = s.pll key)) ∧
  (∀ (ini : Initiator) (s : State),
      s.sends ini true R.CLK_CTL = true →
      (if s.bit F.CLK_CTL_STANDBY = true then s.locked (1 - s.supplyPll) = true → s.standsBy (1 - s.supplyPll) = true ∧ (s.pll (1 - s.supplyPll)).goHome = false else s.standsBy (1 - s.supplyPll) = false ∧ (s.pll (1 - s.supplyPll)).goHome = false) →
      s.supplyPll = 1 →
      s.standsBy 0 = true →
      (s.pll 1).goHome = false →
      ∃ t, exec (.pllReturn ini) s = .next t
        ∧ t.respCode ini = 0
        ∧ (t.supplyPll = 0 ∧ setBitsOf (t.rd R.CLK_STAT) 31 31 0 = setBitsOf (s.rd R.CLK_STAT) 31 31 0)
        ∧ t.rd (R.CLK_PLL_STAT 0) = setBitsOf (s.rd (R.CLK_PLL_STAT 0)) 30 30 0
        ∧ t.rd (R.CLK_PLL_STAT 1) = (if s.locked 1 = true then setBitsOf (s.rd (R.CLK_PLL_STAT 1)) 30 30 1 else s.rd (R.CLK_PLL_STAT 1))
        ∧ (t.isPending 816 = true ∧ t.rd R.SYS_SPARED = s.rd R.SYS_SPARED &&& 0xFFFFFFBF#32)
        ∧ s.modeMoves t (if s.mode = M.runSpared ∧ t.rd R.SYS_SPARED = 0 ∧ s.bitAt R.SYS_SPARED 6 = true ∧ s.leaving = false then some (M.run, 0x23) else none) = true
        ∧ t = { s with regs := t.regs, irq := t.irq, spine := t.spine, sec := { s.sec with tapOut := t.sec.tapOut }, sessions := t.sessions, modeCtl := t.modeCtl, clk := { s.clk with plls := t.clk.plls } }
        ∧ (∀ adr, adr ∉ (R.CLK_PLL_STAT 0 :: R.CLK_PLL_STAT 1 :: R.CLK_STAT :: R.SYS_SPARED :: modeRegs : List Nat) → t.rd adr = s.rd adr)
        ∧ (∀ num dr, num ∉ ([816, 824] : List Nat) → t.slot num dr = s.slot num dr)
        ∧ (∀ key, t.pll key = s.pll key)) ∧
  (∀ (ini : Initiator) (s : State),
      s.sends ini true R.CLK_CTL = true →
      (if s.bit F.CLK_CTL_STANDBY = true then s.locked (1 - s.supplyPll) = true → s.standsBy (1 - s.supplyPll) = true ∧ (s.pll (1 - s.supplyPll)).goHome = false else s.standsBy (1 - s.supplyPll) = false ∧ (s.pll (1 - s.supplyPll)).goHome = false) →
      (s.supplyPll = 0 ∨ s.standsBy 0 = false) →
      ∃ t, exec (.pllReturn ini) s = .next t
        ∧ t.respCode ini = 0
        ∧ t.rd R.CLK_STAT = setBitsOf (s.rd R.CLK_STAT) 2 2 1
        ∧ t = { s with regs := t.regs, spine := t.spine, sec := { s.sec with tapOut := t.sec.tapOut }, clk := { s.clk with plls := t.clk.plls } }
        ∧ (∀ adr, adr ∉ ([R.CLK_STAT] : List Nat) → t.rd adr = s.rd adr)
        ∧ (∀ key, t.pll key = s.pll key)) ∧
  (∀ (ini : Initiator) (v : BitVec 64) (s : State),
      s.sends ini true R.CLK_CTL = true →
      (if s.bit F.CLK_CTL_STANDBY = true then s.locked (1 - s.supplyPll) = true → s.standsBy (1 - s.supplyPll) = true ∧ (s.pll (1 - s.supplyPll)).goHome = false else s.standsBy (1 - s.supplyPll) = false ∧ (s.pll (1 - s.supplyPll)).goHome = false) →
      (s.pll 1).goHome = false →
      v.getLsbD 31 = true →
      v.getLsbD 29 = true →
      v.getLsbD 30 = s.bit F.CLK_CTL_STANDBY →
      ∃ t, exec (.registerWrite ini R.CLK_CTL 4 v) s = .next t
        ∧ (match exec (.pllReturn ini) s with | .next u => (match exec (.coreSwitch ini) u with | .next w => decide ({ t with clk := { t.clk with plls := [] }, regs := [] } = { w with clk := { w.clk with plls := [] }, regs := [] } ∧ ∀ key : Nat, key < 2 → t.pll key = w.pll key) && (R.CLK_CTL :: R.CLK_PLL_STAT 0 :: R.CLK_PLL_STAT 1 :: R.CLK_STAT :: R.SYS_SPARED :: modeRegs).all fun adr => decide (t.rd adr = w.rd adr) | _ => false) | _ => false) = true
        ∧ (∀ adr, adr ∉ (R.CLK_CTL :: R.CLK_PLL_STAT 0 :: R.CLK_PLL_STAT 1 :: R.CLK_STAT :: R.SYS_SPARED :: modeRegs ++ [R.MEAS_ADC_STAT 0, R.MEAS_ADC_STAT 1, R.MEAS_ADC_STAT 2, R.MEAS_ADC_STAT 3] : List Nat) → t.rd adr = s.rd adr)) ∧
  (∀ (ini : Initiator) (v : BitVec 64) (s : State),
      s.sends ini true R.CLK_CTL = true →
      v.getLsbD 31 = false →
      v.getLsbD 29 = false →
      v.getLsbD 30 = false →
      ∃ t, exec (.registerWrite ini R.CLK_CTL 4 v) s = .next t
        ∧ t.respCode ini = 0
        ∧ t.rd R.CLK_CTL = setBitsOf (s.rd R.CLK_CTL) 30 30 0
        ∧ (t.rd (R.CLK_PLL_STAT (1 - s.supplyPll)) = setBitsOf (s.rd (R.CLK_PLL_STAT (1 - s.supplyPll))) 30 30 0 ∧ t.pll (1 - s.supplyPll) = { s.pll (1 - s.supplyPll) with goHome := false })
        ∧ t = { s with regs := t.regs, spine := t.spine, sec := { s.sec with tapOut := t.sec.tapOut }, clk := { s.clk with plls := t.clk.plls } }
        ∧ (∀ adr, adr ∉ ([R.CLK_CTL, R.CLK_PLL_STAT (1 - s.supplyPll)] : List Nat) → t.rd adr = s.rd adr)
        ∧ (∀ key, key ∉ ([(1 - s.supplyPll)] : List Nat) → t.pll key = s.pll key)) ∧
  (∀ (ini : Initiator) (v : BitVec 64) (s : State),
      s.sends ini true R.CLK_CTL = true →
      v.getLsbD 31 = false →
      v.getLsbD 29 = false →
      v.getLsbD 30 = true →
      ((s.pll (1 - s.supplyPll)).goHome = false ∨ s.locked (1 - s.supplyPll) = false) →
      ∃ t, exec (.registerWrite ini R.CLK_CTL 4 v) s = .next t
        ∧ t.respCode ini = 0
        ∧ t.rd R.CLK_CTL = setBitsOf (s.rd R.CLK_CTL) 30 30 1
        ∧ t.rd (R.CLK_PLL_STAT (1 - s.supplyPll)) = (if s.locked (1 - s.supplyPll) = true then setBitsOf (s.rd (R.CLK_PLL_STAT (1 - s.supplyPll))) 30 30 1 else s.rd (R.CLK_PLL_STAT (1 - s.supplyPll)))
        ∧ t = { s with regs := t.regs, spine := t.spine, sec := { s.sec with tapOut := t.sec.tapOut }, clk := { s.clk with plls := t.clk.plls } }
        ∧ (∀ adr, adr ∉ ([R.CLK_CTL, R.CLK_PLL_STAT (1 - s.supplyPll)] : List Nat) → t.rd adr = s.rd adr)
        ∧ (∀ key, t.pll key = s.pll key)) ∧
  (∀ (ini : Initiator) (x : Fin 2) (s : State),
      s.sends ini true (R.CLK_PLL_CTL x.val) = true →
      s.supplyPll = x.val →
      s.standsBy (1 - x.val) = true →
      ∃ t, exec (.pllRelock ini x) s = .next t
        ∧ t.respCode ini = 0
        ∧ (t.pll x.val = { s.pll x.val with trying := true, tryAt := some s.now, goHome := true } ∧ t.rd (R.CLK_PLL_CTL x.val) = setBitsOf (s.rd (R.CLK_PLL_CTL x.val)) 31 31 1)
        ∧ t.rd (R.CLK_PLL_STAT x.val) = setBitsOf (s.rd (R.CLK_PLL_STAT x.val)) 31 31 0
        ∧ (t.supplyPll = (1 - x.val) ∧ setBitsOf (t.rd R.CLK_STAT) 31 31 0 = setBitsOf (s.rd R.CLK_STAT) 31 31 0)
        ∧ t.rd (R.CLK_PLL_STAT (1 - x.val)) = setBitsOf (s.rd (R.CLK_PLL_STAT (1 - x.val))) 30 30 0
        ∧ t.isPending (808 + x.val) = true
        ∧ t = { s with regs := t.regs, irq := t.irq, spine := t.spine, sec := { s.sec with tapOut := t.sec.tapOut }, clk := { s.clk with plls := t.clk.plls } }
        ∧ (∀ adr, adr ∉ (R.CLK_PLL_STAT 0 :: R.CLK_PLL_STAT 1 :: R.CLK_STAT :: R.CLK_PLL_CTL x.val :: coalesced : List Nat) → t.rd adr = s.rd adr)
        ∧ (∀ num dr, num ∉ ([808 + x.val] : List Nat) → t.slot num dr = s.slot num dr)
        ∧ (∀ key, key ∉ ([x.val] : List Nat) → t.pll key = s.pll key)) ∧
  (∀ (ini : Initiator) (x : Fin 2) (s : State),
      s.sends ini true (R.CLK_PLL_CTL x.val) = true →
      s.supplyPll = x.val →
      s.standsBy (1 - x.val) = false →
      ∃ t, exec (.pllRelock ini x) s = .next t
        ∧ t.respCode ini = 0
        ∧ t.rd R.CLK_STAT = setBitsOf (s.rd R.CLK_STAT) 1 1 1
        ∧ t = { s with regs := t.regs, spine := t.spine, sec := { s.sec with tapOut := t.sec.tapOut } }
        ∧ (∀ adr, adr ∉ ([R.CLK_STAT] : List Nat) → t.rd adr = s.rd adr)) ∧
  (∀ (ini : Initiator) (x : Fin 2) (s : State),
      s.sends ini true (R.CLK_PLL_CTL x.val) = true →
      s.supplyPll ≠ x.val →
      s.domOn (21 + x.val) = true →
      (s.locked x.val = false ∨ s.locked (1 - x.val) = true) →
      ∃ t, exec (.pllRelock ini x) s = .next t
        ∧ t.respCode ini = 0
        ∧ (t.pll x.val = { s.pll x.val with trying := true, tryAt := some s.now } ∧ t.rd (R.CLK_PLL_CTL x.val) = setBitsOf (s.rd (R.CLK_PLL_CTL x.val)) 31 31 1)
        ∧ t.rd (R.CLK_PLL_STAT x.val) = setBitsOf (s.rd (R.CLK_PLL_STAT x.val)) 31 30 0
        ∧ (s.locked x.val = true → t.isPending (808 + x.val) = true)
        ∧ t = { s with regs := t.regs, irq := t.irq, spine := t.spine, sec := { s.sec with tapOut := t.sec.tapOut }, clk := { s.clk with plls := t.clk.plls } }
        ∧ (∀ adr, adr ∉ (R.CLK_PLL_STAT x.val :: R.CLK_PLL_CTL x.val :: coalesced : List Nat) → t.rd adr = s.rd adr)
        ∧ (∀ num dr, num ∉ (if s.locked x.val = true then [808 + x.val] else [] : List Nat) → t.slot num dr = s.slot num dr)
        ∧ (∀ key, key ∉ ([x.val] : List Nat) → t.pll key = s.pll key)) ∧
  (∀ (ini : Initiator) (x : Fin 2) (s : State),
      s.sends ini true (R.CLK_PLL_CTL x.val) = true →
      s.supplyPll ≠ x.val →
      s.domOn (21 + x.val) = true →
      s.locked x.val = true →
      s.locked (1 - x.val) = false →
      ∃ t, exec (.pllRelock ini x) s = .next t
        ∧ t.respCode ini = 0
        ∧ (t.pll x.val = { s.pll x.val with trying := true, tryAt := some s.now } ∧ t.rd (R.CLK_PLL_CTL x.val) = setBitsOf (s.rd (R.CLK_PLL_CTL x.val)) 31 31 1)
        ∧ t.rd (R.CLK_PLL_STAT x.val) = setBitsOf (s.rd (R.CLK_PLL_STAT x.val)) 31 30 0
        ∧ (t.isPending (808 + x.val) = true ∧ t.isPending 817 = true)
        ∧ s.holdTaken t 5 = true
        ∧ t = { s with regs := t.regs, irq := t.irq, spine := t.spine, sec := { s.sec with tapOut := t.sec.tapOut }, sessions := t.sessions, modeCtl := t.modeCtl, clk := { s.clk with plls := t.clk.plls } }
        ∧ (∀ adr, adr ∉ (R.CLK_PLL_STAT x.val :: R.CLK_PLL_CTL x.val :: R.SYS_HOLD_CAUSES :: modeRegs : List Nat) → t.rd adr = s.rd adr)
        ∧ (∀ num dr, num ∉ ([808 + x.val, 817, 824] : List Nat) → t.slot num dr = s.slot num dr)
        ∧ (∀ key, key ∉ ([x.val] : List Nat) → t.pll key = s.pll key)) ∧
  (∀ (ini : Initiator) (x : Fin 2) (s : State),
      s.sends ini true (R.CLK_PLL_CTL x.val) = true →
      s.supplyPll ≠ x.val →
      s.domOn (21 + x.val) = false →
      ∃ t, exec (.pllRelock ini x) s = .next t
        ∧ t.respCode ini = 0
        ∧ t = { s with spine := t.spine, sec := { s.sec with tapOut := t.sec.tapOut } }) ∧
  (∀ (s : State),
      s.bit F.CLK_STAT_REF_LOST = false →
      ∃ t, exec (.refLost) s = .next t
        ∧ (∀ x : Nat, x < 2 → t.rd (R.CLK_PLL_STAT x) = setBitsOf (setBitsOf (s.rd (R.CLK_PLL_STAT x)) 31 30 0) 29 29 (if s.domOn (21 + x) = true then 1 else 0) ∧ (s.locked x = true → t.isPending (808 + x) = true))
        ∧ t.rd R.CLK_STAT = setBitsOf (setBitsOf (s.rd R.CLK_STAT) 30 30 1) 0 0 1
        ∧ (t.isPending 811 = true ∧ t.isPending 817 = true)
        ∧ s.holdTaken t 5 = true
        ∧ t = { s with regs := t.regs, irq := t.irq, sessions := t.sessions, modeCtl := t.modeCtl }
        ∧ (∀ adr, adr ∉ (R.CLK_PLL_STAT 0 :: R.CLK_PLL_STAT 1 :: R.CLK_STAT :: R.SYS_HOLD_CAUSES :: modeRegs : List Nat) → t.rd adr = s.rd adr)
        ∧ (∀ num dr, num ∉ ([0, 1].filter s.locked |>.map (808 + ·) |>.append [811, 817, 824] : List Nat) → t.slot num dr = s.slot num dr)) ∧
  (∀ (s : State),
      s.bit F.CLK_STAT_REF_LOST = true →
      ∃ t, exec (.refReturn) s = .next t
        ∧ (t.rd R.CLK_STAT = setBitsOf (s.rd R.CLK_STAT) 30 30 0 ∧ t.isPending 812 = true)
        ∧ (∀ x : Nat, x < 2 → t.pll x = if s.domOn (21 + x) = true then { s.pll x with trying := true, tryAt := none } else s.pll x)
        ∧ t = { s with regs := t.regs, irq := t.irq, clk := { s.clk with plls := t.clk.plls } }
        ∧ (∀ adr, adr ∉ (R.CLK_STAT :: coalesced : List Nat) → t.rd adr = s.rd adr)
        ∧ (∀ num dr, num ∉ ([812] : List Nat) → t.slot num dr = s.slot num dr)
        ∧ (∀ key, key ∉ ([0, 1] : List Nat) → t.pll key = s.pll key)) ∧
  (∀ (s : State) (i : Instr) (lost : Bool),
      (lost, i) ∈ ([(true, .refLost), (false, .refReturn)] : List (Bool × Instr)) →
      s.bit F.CLK_STAT_REF_LOST = lost →
      ∃ t, exec i s = .next t
        ∧ t = s) ∧
  (∀ (ini : Initiator) (b : Fin 16) (v : BitVec 64) (s : State),
      s.sends ini true (R.CLK_BAND b.val) = true →
      ∃ t, exec (.registerWrite ini (R.CLK_BAND b.val) 4 v) s = .next t
        ∧ t.respCode ini = 0
        ∧ t.rd (R.CLK_BAND b.val) = v.setWidth 32 &&& 0xFFFFFFFD#32
        ∧ (∀ x : Nat, x < 2 → t.pll x = { s.pll x with choose := true, move := none })
        ∧ t = { s with regs := t.regs, spine := t.spine, sec := { s.sec with tapOut := t.sec.tapOut }, clk := { s.clk with plls := t.clk.plls } }
        ∧ (∀ adr, adr ∉ ([R.CLK_BAND b.val] : List Nat) → t.rd adr = s.rd adr)
        ∧ (∀ key, key ∉ ([0, 1] : List Nat) → t.pll key = s.pll key)) ∧
  (∀ (k : Fin 4) (v : Nat) (s : State),
      (s.clkoutPins k.val v = (let w := if s.mode ∈ ([M.init, M.armed, M.run, M.runSpared, M.hold, M.service, M.provision] : List Nat) then (s.waves k.val).find? (fun w => decide (w.since ≤ v)) else none; let fmt := match w with | some w => w.fmt | none => s.get (F.CLK_CLKOUT_CFG_FMT k.val); let p := match w with | some w => decide (w.first ≤ v) && w.stop.all (fun x => decide (v < x)) && decide ((v - w.first) % w.d < (w.d + 1) / 2) | none => false; (p, fmt == 2 && !p)))) ∧
  (∀ (ini : Initiator) (k : Fin 4) (value : BitVec 32) (s : State),
      s.sends ini true (R.CLK_CLKOUT_CFG k.val) = true →
      (bitsOf value 30 29 ≠ 3 ∧ (if bitsOf value 30 29 = 0 then 40 else if bitsOf value 30 29 = 1 then 20 else 5) ≤ bitsOf value 11 0 ∧ bitsOf value 23 12 < bitsOf value 11 0) →
      value.getLsbD 31 = true →
      (s.bit (F.CLK_CLKOUT_CFG_EN k.val) && decide (s.get (F.CLK_CLKOUT_CFG_FMT k.val) ≠ 3 ∧ (if s.get (F.CLK_CLKOUT_CFG_FMT k.val) = 0 then 40 else if s.get (F.CLK_CLKOUT_CFG_FMT k.val) = 1 then 20 else 5) ≤ s.get (F.CLK_CLKOUT_CFG_D k.val) ∧ s.get (F.CLK_CLKOUT_CFG_PHASE k.val) < s.get (F.CLK_CLKOUT_CFG_D k.val))) = false →
      ∃ t, exec (.clkoutCfgWrite ini k value) s = .next t
        ∧ t.respCode ini = 0
        ∧ (t.bit (F.CLK_CLKOUT_CFG_EN k.val) = value.getLsbD 31 ∧ t.bit (F.CLK_CLKOUT_CFG_SYNC_EN k.val) = value.getLsbD 28 ∧ bitsOf (t.rd (R.CLK_CLKOUT_CFG k.val)) 27 24 = bitsOf (s.rd (R.CLK_CLKOUT_CFG k.val)) 27 24)
        ∧ (t.get (F.CLK_CLKOUT_CFG_FMT k.val) = bitsOf value 30 29 ∧ t.get (F.CLK_CLKOUT_CFG_D k.val) = bitsOf value 11 0 ∧ t.get (F.CLK_CLKOUT_CFG_PHASE k.val) = bitsOf value 23 12)
        ∧ (let a := max (10 * s.now) (match s.waves k.val with | w :: _ => w.stop.getD 0 | [] => 0); t.waves k.val = ({ since := a, fmt := bitsOf value 30 29, d := bitsOf value 11 0, first := a + s.fresh % bitsOf value 11 0 } :: s.waves k.val).take 3)
        ∧ t = { s with regs := t.regs, spine := t.spine, sec := { s.sec with tapOut := t.sec.tapOut }, clk := { s.clk with outs := t.clk.outs }, free := s.free + 1 }
        ∧ (∀ key : Nat, key < 4 → key ≠ k.val → t.waves key = s.waves key)
        ∧ (∀ adr, adr ∉ ([R.CLK_CLKOUT_CFG k.val] : List Nat) → t.rd adr = s.rd adr)) ∧
  (∀ (ini : Initiator) (k : Fin 4) (value : BitVec 32) (s : State),
      s.sends ini true (R.CLK_CLKOUT_CFG k.val) = true →
      (bitsOf value 30 29 ≠ 3 ∧ (if bitsOf value 30 29 = 0 then 40 else if bitsOf value 30 29 = 1 then 20 else 5) ≤ bitsOf value 11 0 ∧ bitsOf value 23 12 < bitsOf value 11 0) →
      value.getLsbD 31 = false →
      (s.bit (F.CLK_CLKOUT_CFG_EN k.val) && decide (s.get (F.CLK_CLKOUT_CFG_FMT k.val) ≠ 3 ∧ (if s.get (F.CLK_CLKOUT_CFG_FMT k.val) = 0 then 40 else if s.get (F.CLK_CLKOUT_CFG_FMT k.val) = 1 then 20 else 5) ≤ s.get (F.CLK_CLKOUT_CFG_D k.val) ∧ s.get (F.CLK_CLKOUT_CFG_PHASE k.val) < s.get (F.CLK_CLKOUT_CFG_D k.val))) = true →
      ∃ t, exec (.clkoutCfgWrite ini k value) s = .next t
        ∧ t.respCode ini = 0
        ∧ (t.bit (F.CLK_CLKOUT_CFG_EN k.val) = value.getLsbD 31 ∧ t.bit (F.CLK_CLKOUT_CFG_SYNC_EN k.val) = value.getLsbD 28 ∧ bitsOf (t.rd (R.CLK_CLKOUT_CFG k.val)) 27 24 = bitsOf (s.rd (R.CLK_CLKOUT_CFG k.val)) 27 24)
        ∧ (t.get (F.CLK_CLKOUT_CFG_FMT k.val) = bitsOf value 30 29 ∧ t.get (F.CLK_CLKOUT_CFG_D k.val) = bitsOf value 11 0 ∧ t.get (F.CLK_CLKOUT_CFG_PHASE k.val) = bitsOf value 23 12)
        ∧ t.waves k.val = (match s.waves k.val with | w :: r => ({ w with stop := some (if decide (w.first ≤ 10 * s.now) && w.stop.all (fun x => decide (10 * s.now < x)) && decide ((10 * s.now - w.first) % w.d < (w.d + 1) / 2) then 10 * s.now - (10 * s.now - w.first) % w.d + (w.d + 1) / 2 else 10 * s.now) } :: r).take 3 | [] => [])
        ∧ t = { s with regs := t.regs, spine := t.spine, sec := { s.sec with tapOut := t.sec.tapOut }, clk := { s.clk with outs := t.clk.outs } }
        ∧ (∀ key : Nat, key < 4 → key ≠ k.val → t.waves key = s.waves key)
        ∧ (∀ adr, adr ∉ ([R.CLK_CLKOUT_CFG k.val] : List Nat) → t.rd adr = s.rd adr)) ∧
  (∀ (ini : Initiator) (k : Fin 4) (value : BitVec 32) (s : State),
      s.sends ini true (R.CLK_CLKOUT_CFG k.val) = true →
      (bitsOf value 30 29 ≠ 3 ∧ (if bitsOf value 30 29 = 0 then 40 else if bitsOf value 30 29 = 1 then 20 else 5) ≤ bitsOf value 11 0 ∧ bitsOf value 23 12 < bitsOf value 11 0) →
      value.getLsbD 31 = true →
      (s.bit (F.CLK_CLKOUT_CFG_EN k.val) && decide (s.get (F.CLK_CLKOUT_CFG_FMT k.val) ≠ 3 ∧ (if s.get (F.CLK_CLKOUT_CFG_FMT k.val) = 0 then 40 else if s.get (F.CLK_CLKOUT_CFG_FMT k.val) = 1 then 20 else 5) ≤ s.get (F.CLK_CLKOUT_CFG_D k.val) ∧ s.get (F.CLK_CLKOUT_CFG_PHASE k.val) < s.get (F.CLK_CLKOUT_CFG_D k.val))) = true →
      s.waves k.val ≠ [] →
      (bitsOf value 11 0 ≠ s.get (F.CLK_CLKOUT_CFG_D k.val) ∨ bitsOf value 30 29 ≠ s.get (F.CLK_CLKOUT_CFG_FMT k.val)) →
      ∃ t, exec (.clkoutCfgWrite ini k value) s = .next t
        ∧ t.respCode ini = 0
        ∧ (t.bit (F.CLK_CLKOUT_CFG_EN k.val) = value.getLsbD 31 ∧ t.bit (F.CLK_CLKOUT_CFG_SYNC_EN k.val) = value.getLsbD 28 ∧ bitsOf (t.rd (R.CLK_CLKOUT_CFG k.val)) 27 24 = bitsOf (s.rd (R.CLK_CLKOUT_CFG k.val)) 27 24)
        ∧ (t.get (F.CLK_CLKOUT_CFG_FMT k.val) = bitsOf value 30 29 ∧ t.get (F.CLK_CLKOUT_CFG_D k.val) = bitsOf value 11 0 ∧ t.get (F.CLK_CLKOUT_CFG_PHASE k.val) = bitsOf value 23 12)
        ∧ (match s.waves k.val with | w :: r => (let v := 10 * s.now; let h := (w.d + 1) / 2; let f := if v < w.first then w.first + h else if w.stop.all (fun x => decide (v < x)) && decide ((v - w.first) % w.d < h) then v - (v - w.first) % w.d + h else v - (v - w.first) % w.d + w.d + h; let d := bitsOf value 11 0; decide (t.waves k.val = ({ since := f, fmt := bitsOf value 30 29, d := d, first := f + (d - (d + 1) / 2) } :: { w with stop := some f } :: r).take 3)) | [] => false) = true
        ∧ t = { s with regs := t.regs, spine := t.spine, sec := { s.sec with tapOut := t.sec.tapOut }, clk := { s.clk with outs := t.clk.outs } }
        ∧ (∀ key : Nat, key < 4 → key ≠ k.val → t.waves key = s.waves key)
        ∧ (∀ adr, adr ∉ ([R.CLK_CLKOUT_CFG k.val] : List Nat) → t.rd adr = s.rd adr)) ∧
  (∀ (ini : Initiator) (k : Fin 4) (value : BitVec 32) (s : State),
      s.sends ini true (R.CLK_CLKOUT_CFG k.val) = true →
      (bitsOf value 30 29 ≠ 3 ∧ (if bitsOf value 30 29 = 0 then 40 else if bitsOf value 30 29 = 1 then 20 else 5) ≤ bitsOf value 11 0 ∧ bitsOf value 23 12 < bitsOf value 11 0) →
      value.getLsbD 31 = true →
      (s.bit (F.CLK_CLKOUT_CFG_EN k.val) && decide (s.get (F.CLK_CLKOUT_CFG_FMT k.val) ≠ 3 ∧ (if s.get (F.CLK_CLKOUT_CFG_FMT k.val) = 0 then 40 else if s.get (F.CLK_CLKOUT_CFG_FMT k.val) = 1 then 20 else 5) ≤ s.get (F.CLK_CLKOUT_CFG_D k.val) ∧ s.get (F.CLK_CLKOUT_CFG_PHASE k.val) < s.get (F.CLK_CLKOUT_CFG_D k.val))) = true →
      s.waves k.val = [] →
      (bitsOf value 11 0 ≠ s.get (F.CLK_CLKOUT_CFG_D k.val) ∨ bitsOf value 30 29 ≠ s.get (F.CLK_CLKOUT_CFG_FMT k.val)) →
      ∃ t, exec (.clkoutCfgWrite ini k value) s = .next t
        ∧ t.respCode ini = 0
        ∧ (t.bit (F.CLK_CLKOUT_CFG_EN k.val) = value.getLsbD 31 ∧ t.bit (F.CLK_CLKOUT_CFG_SYNC_EN k.val) = value.getLsbD 28 ∧ bitsOf (t.rd (R.CLK_CLKOUT_CFG k.val)) 27 24 = bitsOf (s.rd (R.CLK_CLKOUT_CFG k.val)) 27 24)
        ∧ (t.get (F.CLK_CLKOUT_CFG_FMT k.val) = bitsOf value 30 29 ∧ t.get (F.CLK_CLKOUT_CFG_D k.val) = bitsOf value 11 0 ∧ t.get (F.CLK_CLKOUT_CFG_PHASE k.val) = bitsOf value 23 12)
        ∧ t.waves k.val = [{ since := 10 * s.now, fmt := bitsOf value 30 29, d := bitsOf value 11 0, first := 10 * s.now + s.fresh % bitsOf value 11 0 }]
        ∧ t = { s with regs := t.regs, spine := t.spine, sec := { s.sec with tapOut := t.sec.tapOut }, clk := { s.clk with outs := t.clk.outs }, free := s.free + 1 }
        ∧ (∀ key : Nat, key < 4 → key ≠ k.val → t.waves key = s.waves key)
        ∧ (∀ adr, adr ∉ ([R.CLK_CLKOUT_CFG k.val] : List Nat) → t.rd adr = s.rd adr)) ∧
  (∀ (ini : Initiator) (k : Fin 4) (value : BitVec 32) (s : State),
      s.sends ini true (R.CLK_CLKOUT_CFG k.val) = true →
      (bitsOf value 30 29 ≠ 3 ∧ (if bitsOf value 30 29 = 0 then 40 else if bitsOf value 30 29 = 1 then 20 else 5) ≤ bitsOf value 11 0 ∧ bitsOf value 23 12 < bitsOf value 11 0) →
      (value.getLsbD 31 = false ∧ (s.bit (F.CLK_CLKOUT_CFG_EN k.val) && decide (s.get (F.CLK_CLKOUT_CFG_FMT k.val) ≠ 3 ∧ (if s.get (F.CLK_CLKOUT_CFG_FMT k.val) = 0 then 40 else if s.get (F.CLK_CLKOUT_CFG_FMT k.val) = 1 then 20 else 5) ≤ s.get (F.CLK_CLKOUT_CFG_D k.val) ∧ s.get (F.CLK_CLKOUT_CFG_PHASE k.val) < s.get (F.CLK_CLKOUT_CFG_D k.val))) = false ∨ value.getLsbD 31 = true ∧ (s.bit (F.CLK_CLKOUT_CFG_EN k.val) && decide (s.get (F.CLK_CLKOUT_CFG_FMT k.val) ≠ 3 ∧ (if s.get (F.CLK_CLKOUT_CFG_FMT k.val) = 0 then 40 else if s.get (F.CLK_CLKOUT_CFG_FMT k.val) = 1 then 20 else 5) ≤ s.get (F.CLK_CLKOUT_CFG_D k.val) ∧ s.get (F.CLK_CLKOUT_CFG_PHASE k.val) < s.get (F.CLK_CLKOUT_CFG_D k.val))) = true ∧ ¬ (bitsOf value 11 0 ≠ s.get (F.CLK_CLKOUT_CFG_D k.val) ∨ bitsOf value 30 29 ≠ s.get (F.CLK_CLKOUT_CFG_FMT k.val))) →
      ∃ t, exec (.clkoutCfgWrite ini k value) s = .next t
        ∧ t.respCode ini = 0
        ∧ (t.bit (F.CLK_CLKOUT_CFG_EN k.val) = value.getLsbD 31 ∧ t.bit (F.CLK_CLKOUT_CFG_SYNC_EN k.val) = value.getLsbD 28 ∧ bitsOf (t.rd (R.CLK_CLKOUT_CFG k.val)) 27 24 = bitsOf (s.rd (R.CLK_CLKOUT_CFG k.val)) 27 24)
        ∧ (t.get (F.CLK_CLKOUT_CFG_FMT k.val) = bitsOf value 30 29 ∧ t.get (F.CLK_CLKOUT_CFG_D k.val) = bitsOf value 11 0 ∧ t.get (F.CLK_CLKOUT_CFG_PHASE k.val) = bitsOf value 23 12)
        ∧ (∀ key : Nat, key < 4 → t.waves key = s.waves key)
        ∧ t = { s with regs := t.regs, spine := t.spine, sec := { s.sec with tapOut := t.sec.tapOut }, clk := { s.clk with outs := t.clk.outs } }
        ∧ (∀ key : Nat, key < 4 → key ≠ k.val → t.waves key = s.waves key)
        ∧ (∀ adr, adr ∉ ([R.CLK_CLKOUT_CFG k.val] : List Nat) → t.rd adr = s.rd adr)) ∧
  (∀ (ini : Initiator) (k : Fin 4) (value : BitVec 32) (s : State),
      s.sends ini true (R.CLK_CLKOUT_CFG k.val) = true →
      ¬ (bitsOf value 30 29 ≠ 3 ∧ (if bitsOf value 30 29 = 0 then 40 else if bitsOf value 30 29 = 1 then 20 else 5) ≤ bitsOf value 11 0 ∧ bitsOf value 23 12 < bitsOf value 11 0) →
      (value.getLsbD 31 = s.bit (F.CLK_CLKOUT_CFG_EN k.val) ∨ (decide (s.get (F.CLK_CLKOUT_CFG_FMT k.val) ≠ 3 ∧ (if s.get (F.CLK_CLKOUT_CFG_FMT k.val) = 0 then 40 else if s.get (F.CLK_CLKOUT_CFG_FMT k.val) = 1 then 20 else 5) ≤ s.get (F.CLK_CLKOUT_CFG_D k.val) ∧ s.get (F.CLK_CLKOUT_CFG_PHASE k.val) < s.get (F.CLK_CLKOUT_CFG_D k.val))) = false) →
      ∃ t, exec (.clkoutCfgWrite ini k value) s = .next t
        ∧ t.respCode ini = 2
        ∧ (t.bit (F.CLK_CLKOUT_CFG_EN k.val) = value.getLsbD 31 ∧ t.bit (F.CLK_CLKOUT_CFG_SYNC_EN k.val) = value.getLsbD 28 ∧ bitsOf (t.rd (R.CLK_CLKOUT_CFG k.val)) 27 24 = bitsOf (s.rd (R.CLK_CLKOUT_CFG k.val)) 27 24)
        ∧ (t.get (F.CLK_CLKOUT_CFG_FMT k.val) = s.get (F.CLK_CLKOUT_CFG_FMT k.val) ∧ t.get (F.CLK_CLKOUT_CFG_D k.val) = s.get (F.CLK_CLKOUT_CFG_D k.val) ∧ t.get (F.CLK_CLKOUT_CFG_PHASE k.val) = s.get (F.CLK_CLKOUT_CFG_PHASE k.val))
        ∧ (∀ key : Nat, key < 4 → t.waves key = s.waves key)
        ∧ t = { s with regs := t.regs, irq := t.irq, berrAt := t.berrAt, engines := t.engines, spine := t.spine, sec := { s.sec with tapOut := t.sec.tapOut }, clk := { s.clk with outs := t.clk.outs } }
        ∧ (∀ key : Nat, key < 4 → key ≠ k.val → t.waves key = s.waves key)
        ∧ (∀ adr, adr ∉ (R.CLK_CLKOUT_CFG k.val :: berrRegs : List Nat) → t.rd adr = s.rd adr)
        ∧ (∀ key, key ∉ (iniEngines ini : List Nat) → t.engine key = s.engine key)
        ∧ (∀ num dr, num ∉ ([904, 905] : List Nat) → t.slot num dr = s.slot num dr)) ∧
  (∀ (ini : Initiator) (k : Fin 4) (value : BitVec 32) (s : State),
      s.sends ini true (R.CLK_CLKOUT_CFG k.val) = true →
      ¬ (bitsOf value 30 29 ≠ 3 ∧ (if bitsOf value 30 29 = 0 then 40 else if bitsOf value 30 29 = 1 then 20 else 5) ≤ bitsOf value 11 0 ∧ bitsOf value 23 12 < bitsOf value 11 0) →
      value.getLsbD 31 = true →
      s.bit (F.CLK_CLKOUT_CFG_EN k.val) = false →
      (decide (s.get (F.CLK_CLKOUT_CFG_FMT k.val) ≠ 3 ∧ (if s.get (F.CLK_CLKOUT_CFG_FMT k.val) = 0 then 40 else if s.get (F.CLK_CLKOUT_CFG_FMT k.val) = 1 then 20 else 5) ≤ s.get (F.CLK_CLKOUT_CFG_D k.val) ∧ s.get (F.CLK_CLKOUT_CFG_PHASE k.val) < s.get (F.CLK_CLKOUT_CFG_D k.val))) = true →
      ∃ t, exec (.clkoutCfgWrite ini k value) s = .next t
        ∧ t.respCode ini = 2
        ∧ (t.bit (F.CLK_CLKOUT_CFG_EN k.val) = value.getLsbD 31 ∧ t.bit (F.CLK_CLKOUT_CFG_SYNC_EN k.val) = value.getLsbD 28 ∧ bitsOf (t.rd (R.CLK_CLKOUT_CFG k.val)) 27 24 = bitsOf (s.rd (R.CLK_CLKOUT_CFG k.val)) 27 24)
        ∧ (t.get (F.CLK_CLKOUT_CFG_FMT k.val) = s.get (F.CLK_CLKOUT_CFG_FMT k.val) ∧ t.get (F.CLK_CLKOUT_CFG_D k.val) = s.get (F.CLK_CLKOUT_CFG_D k.val) ∧ t.get (F.CLK_CLKOUT_CFG_PHASE k.val) = s.get (F.CLK_CLKOUT_CFG_PHASE k.val))
        ∧ (let a := max (10 * s.now) (match s.waves k.val with | w :: _ => w.stop.getD 0 | [] => 0); t.waves k.val = ({ since := a, fmt := s.get (F.CLK_CLKOUT_CFG_FMT k.val), d := s.get (F.CLK_CLKOUT_CFG_D k.val), first := a + s.fresh % s.get (F.CLK_CLKOUT_CFG_D k.val) } :: s.waves k.val).take 3)
        ∧ t = { s with regs := t.regs, irq := t.irq, berrAt := t.berrAt, engines := t.engines, spine := t.spine, sec := { s.sec with tapOut := t.sec.tapOut }, clk := { s.clk with outs := t.clk.outs }, free := s.free + 1 }
        ∧ (∀ key : Nat, key < 4 → key ≠ k.val → t.waves key = s.waves key)
        ∧ (∀ adr, adr ∉ (R.CLK_CLKOUT_CFG k.val :: berrRegs : List Nat) → t.rd adr = s.rd adr)
        ∧ (∀ key, key ∉ (iniEngines ini : List Nat) → t.engine key = s.engine key)
        ∧ (∀ num dr, num ∉ ([904, 905] : List Nat) → t.slot num dr = s.slot num dr)) ∧
  (∀ (ini : Initiator) (k : Fin 4) (value : BitVec 32) (s : State),
      s.sends ini true (R.CLK_CLKOUT_CFG k.val) = true →
      ¬ (bitsOf value 30 29 ≠ 3 ∧ (if bitsOf value 30 29 = 0 then 40 else if bitsOf value 30 29 = 1 then 20 else 5) ≤ bitsOf value 11 0 ∧ bitsOf value 23 12 < bitsOf value 11 0) →
      value.getLsbD 31 = false →
      s.bit (F.CLK_CLKOUT_CFG_EN k.val) = true →
      (decide (s.get (F.CLK_CLKOUT_CFG_FMT k.val) ≠ 3 ∧ (if s.get (F.CLK_CLKOUT_CFG_FMT k.val) = 0 then 40 else if s.get (F.CLK_CLKOUT_CFG_FMT k.val) = 1 then 20 else 5) ≤ s.get (F.CLK_CLKOUT_CFG_D k.val) ∧ s.get (F.CLK_CLKOUT_CFG_PHASE k.val) < s.get (F.CLK_CLKOUT_CFG_D k.val))) = true →
      ∃ t, exec (.clkoutCfgWrite ini k value) s = .next t
        ∧ t.respCode ini = 2
        ∧ (t.bit (F.CLK_CLKOUT_CFG_EN k.val) = value.getLsbD 31 ∧ t.bit (F.CLK_CLKOUT_CFG_SYNC_EN k.val) = value.getLsbD 28 ∧ bitsOf (t.rd (R.CLK_CLKOUT_CFG k.val)) 27 24 = bitsOf (s.rd (R.CLK_CLKOUT_CFG k.val)) 27 24)
        ∧ (t.get (F.CLK_CLKOUT_CFG_FMT k.val) = s.get (F.CLK_CLKOUT_CFG_FMT k.val) ∧ t.get (F.CLK_CLKOUT_CFG_D k.val) = s.get (F.CLK_CLKOUT_CFG_D k.val) ∧ t.get (F.CLK_CLKOUT_CFG_PHASE k.val) = s.get (F.CLK_CLKOUT_CFG_PHASE k.val))
        ∧ t.waves k.val = (match s.waves k.val with | w :: r => ({ w with stop := some (if decide (w.first ≤ 10 * s.now) && w.stop.all (fun x => decide (10 * s.now < x)) && decide ((10 * s.now - w.first) % w.d < (w.d + 1) / 2) then 10 * s.now - (10 * s.now - w.first) % w.d + (w.d + 1) / 2 else 10 * s.now) } :: r).take 3 | [] => [])
        ∧ t = { s with regs := t.regs, irq := t.irq, berrAt := t.berrAt, engines := t.engines, spine := t.spine, sec := { s.sec with tapOut := t.sec.tapOut }, clk := { s.clk with outs := t.clk.outs } }
        ∧ (∀ key : Nat, key < 4 → key ≠ k.val → t.waves key = s.waves key)
        ∧ (∀ adr, adr ∉ (R.CLK_CLKOUT_CFG k.val :: berrRegs : List Nat) → t.rd adr = s.rd adr)
        ∧ (∀ key, key ∉ (iniEngines ini : List Nat) → t.engine key = s.engine key)
        ∧ (∀ num dr, num ∉ ([904, 905] : List Nat) → t.slot num dr = s.slot num dr))

/-- What a raise does, which source a drone takes, and taking it (parts of R144, R177, R178, R179, R180, R472, R473, R474, R476, R477, R478, R484, R493, R519). Source n has on each drone a raise: pending, active, and of class F or N. A drone is at a boundary when it runs in a domain that is ON and waits for nothing, or in WAITI. What a clause does not name stays. (1) Where a raise of source n goes: to the drone that holds one pending, else to the drone that TARGET names, or to its successor while that drone is retired or out for its self-test slice. It is pending there, with the class of CLASS (906 always F); one that is pending already merges, which COALESCED of its drone counts. (2) The successor of a drone: the one that SUCC names, unless that is the drone itself or retired; then the first of the three after it that is not. (3) The source a drone takes next is among those pending on it and enabled that it may take: class F with IE_F = 1 below level fast, class N with IE_N = 1 at level base. None of these goes before it: F before N, then those that completed into a refire, then the higher PRIO, then the lower number. With none of these there is no such source. (4) INTERRUPT_TAKE at a boundary, of a source of class N: it is active and no longer pending, on top of the stack. PC and ST go to G14 - 8 in the data memory of the drone, and G14 to there; LEVEL is normal, and the PC 0x0008. (5) With that word outside the data memory or not aligned the source is taken, and the drone has the exception STACK (6). (6) INTERRUPT_TAKE while the drone is not at a boundary, or has no source to take, or one of class F: nothing. (7) FAST_INTERRUPT_TAKE at a boundary, of a source of class F: it is active and no longer pending, on top of the stack. FPC and FST keep PC and ST; BANK is F, LEVEL fast, and the PC 0x000C. (8) FAST_INTERRUPT_TAKE while the drone is not at a boundary, or has no source to take, or one of class N: nothing. Readings and choices of the model that it rests on: log entries 42, 115, 117. -/
def Obligations.InterruptTaking : Prop :=
  (∀ (n : Nat) (d : Nat) (t : State) (s : State),
      n < 1024 →
      d = (match ([0, 1, 2, 3].find? fun k => (s.slot n k).pend) with | some k => k | none => if s.retired (s.get (F.IRQ_SRC_CFG_TARGET n)) = true ∨ (∃ x ∈ s.bist.slice, x.kind = 2 ∧ x.unit = s.get (F.IRQ_SRC_CFG_TARGET n) ∧ x.direct = false ∧ x.taken.isSome = true) then s.successor (s.get (F.IRQ_SRC_CFG_TARGET n)) else s.get (F.IRQ_SRC_CFG_TARGET n)) →
      t = s.raise n →
      (if (s.slot n d).pend = true then t.rdN (R.IRQ_D_COALESCED d) = min 0xFFFFFFFF (s.rdN (R.IRQ_D_COALESCED d) + 1) ∧ t.slot n d = s.slot n d ∧ t.irq = s.irq else t.slot n d = { s.slot n d with pend := true, fast := decide (n = 906) || s.bit (F.IRQ_SRC_CFG_CLASS n) } ∧ t.regs = s.regs)
        ∧ t = { s with regs := t.regs, irq := t.irq }
        ∧ (∀ adr, adr ∉ ([R.IRQ_D_COALESCED d] : List Nat) → t.rd adr = s.rd adr)
        ∧ (∀ num dr, ¬ (num = n ∧ dr = d) → dr < 4 → t.slot num dr = s.slot num dr)) ∧
  (∀ (d : Fin 4) (s : State),
      (s.successor d.val = (let c := s.get (F.IRQ_D_CTL_SUCC d.val); if c ≠ d.val ∧ s.retired c = false then c else if s.retired ((d.val + 1) % 4) = false then (d.val + 1) % 4 else if s.retired ((d.val + 2) % 4) = false then (d.val + 2) % 4 else if s.retired ((d.val + 3) % 4) = false then (d.val + 3) % 4 else d.val))) ∧
  (∀ (d : Fin 4) (s : State),
      ((match s.choose d.val with | none => s.irq.all (fun e => !(decide (e.1 % 4 = d.val) && e.2.pend && s.bit (F.IRQ_SRC_CFG_EN (e.1 / 4)) && if e.2.fast then (s.engine (132 + d.val)).st.getLsbD 8 && decide (s.level d.val ≠ 2) else (s.engine (132 + d.val)).st.getLsbD 7 && decide (s.level d.val = 0))) | some x => s.irq.any (fun e => (decide (e.1 % 4 = d.val) && e.2.pend && s.bit (F.IRQ_SRC_CFG_EN (e.1 / 4)) && if e.2.fast then (s.engine (132 + d.val)).st.getLsbD 8 && decide (s.level d.val ≠ 2) else (s.engine (132 + d.val)).st.getLsbD 7 && decide (s.level d.val = 0)) && e.1 / 4 == x.1 && e.2.fast == x.2) && s.irq.all (fun e => !((decide (e.1 % 4 = d.val) && e.2.pend && s.bit (F.IRQ_SRC_CFG_EN (e.1 / 4)) && if e.2.fast then (s.engine (132 + d.val)).st.getLsbD 8 && decide (s.level d.val ≠ 2) else (s.engine (132 + d.val)).st.getLsbD 7 && decide (s.level d.val = 0)) && (e.2.fast && !x.2 || e.2.fast == x.2 && ((s.drone d.val).refire.contains (e.1 / 4) && !(s.drone d.val).refire.contains x.1 || (s.drone d.val).refire.contains (e.1 / 4) == (s.drone d.val).refire.contains x.1 && (decide (s.get (F.IRQ_SRC_CFG_PRIO x.1) < s.get (F.IRQ_SRC_CFG_PRIO (e.1 / 4))) || decide (s.get (F.IRQ_SRC_CFG_PRIO (e.1 / 4)) = s.get (F.IRQ_SRC_CFG_PRIO x.1)) && decide (e.1 / 4 < x.1))))))) = true)) ∧
  (∀ (d : Fin 4) (n : Nat) (s : State),
      s.choose d.val = some (n, false) →
      ((s.engine (132 + d.val)).on = true ∧ s.domOn 10 = true ∧ ((s.engine (132 + d.val)).wait = .none ∨ (s.engine (132 + d.val)).wait = .irq)) →
      (0x10000 ≤ ((s.engine (132 + d.val)).reg 14 - 8#32).toNat ∧ ((s.engine (132 + d.val)).reg 14 - 8#32).toNat < 0x20000 ∧ ((s.engine (132 + d.val)).reg 14 - 8#32).toNat % 8 = 0) →
      ∃ t, exec (.interruptTake d) s = .next t
        ∧ t.slot n d.val = { s.slot n d.val with pend := false, act := true, fast := false }
        ∧ t.drone d.val = { s.drone d.val with stack := (n, false) :: (s.drone d.val).stack, refire := (s.drone d.val).refire.filter fun m => m != n }
        ∧ t.memWord (engineBase (132 + d.val) + ((s.engine (132 + d.val)).reg 14 - 8#32).toNat) = gridEncode ((s.engine (132 + d.val)).pc ++ (s.engine (132 + d.val)).st)
        ∧ t.engine (132 + d.val) = { (s.engine (132 + d.val)).setReg 14 ((s.engine (132 + d.val)).reg 14 - 8#32) with wait := .none, st := setBitsOf (s.engine (132 + d.val)).st 6 5 1, pc := 8 }
        ∧ t = { s with irq := t.irq, drones := t.drones, engines := t.engines, mem := t.mem }
        ∧ (∀ key, key ∉ ([132 + d.val] : List Nat) → t.engine key = s.engine key)
        ∧ (∀ key, key ∉ ([d.val] : List Nat) → t.drone key = s.drone key)
        ∧ (∀ num dr, num ∉ ([n] : List Nat) → t.slot num dr = s.slot num dr)
        ∧ (∀ dr : Nat, dr < 4 → dr ≠ d.val → t.slot n dr = s.slot n dr)
        ∧ (∀ adr, adr / 8 ∉ ([engineBase (132 + d.val) + (((s.engine (132 + d.val)).reg 14) - 8#32).toNat] : List Nat).map (· / 8) → t.memWord adr = s.memWord adr)) ∧
  (∀ (d : Fin 4) (n : Nat) (u : State) (s : State),
      s.choose d.val = some (n, false) →
      ((s.engine (132 + d.val)).on = true ∧ s.domOn 10 = true ∧ ((s.engine (132 + d.val)).wait = .none ∨ (s.engine (132 + d.val)).wait = .irq)) →
      ¬ (0x10000 ≤ ((s.engine (132 + d.val)).reg 14 - 8#32).toNat ∧ ((s.engine (132 + d.val)).reg 14 - 8#32).toNat < 0x20000 ∧ ((s.engine (132 + d.val)).reg 14 - 8#32).toNat % 8 = 0) →
      u = (s.setSlot n d.val { s.slot n d.val with pend := false, act := true, fast := false }).setDrone d.val { s.drone d.val with stack := (n, false) :: (s.drone d.val).stack, refire := (s.drone d.val).refire.filter fun m => m != n } →
      ∃ t, exec (.interruptTake d) s = .next t
        ∧ t = u.exception (132 + d.val) 6) ∧
  (∀ (d : Fin 4) (s : State),
      (s.atBoundary d.val = false ∨ s.choose d.val = none ∨ ∃ x ∈ s.choose d.val, x.2 = true) →
      ∃ t, exec (.interruptTake d) s = .next t
        ∧ t = s) ∧
  (∀ (d : Fin 4) (n : Nat) (s : State),
      s.choose d.val = some (n, true) →
      ((s.engine (132 + d.val)).on = true ∧ s.domOn 10 = true ∧ ((s.engine (132 + d.val)).wait = .none ∨ (s.engine (132 + d.val)).wait = .irq)) →
      ∃ t, exec (.fastInterruptTake d) s = .next t
        ∧ t.slot n d.val = { s.slot n d.val with pend := false, act := true, fast := true }
        ∧ t.drone d.val = { s.drone d.val with stack := (n, true) :: (s.drone d.val).stack, refire := (s.drone d.val).refire.filter fun m => m != n }
        ∧ t.engine (132 + d.val) = { s.engine (132 + d.val) with wait := .none, fpc := (s.engine (132 + d.val)).pc, fst := (s.engine (132 + d.val)).st, st := setBitsOf (setBitsOf (s.engine (132 + d.val)).st 6 5 2) 4 4 1, pc := 0xC }
        ∧ t = { s with irq := t.irq, drones := t.drones, engines := t.engines }
        ∧ (∀ key, key ∉ ([132 + d.val] : List Nat) → t.engine key = s.engine key)
        ∧ (∀ key, key ∉ ([d.val] : List Nat) → t.drone key = s.drone key)
        ∧ (∀ num dr, num ∉ ([n] : List Nat) → t.slot num dr = s.slot num dr)
        ∧ (∀ dr : Nat, dr < 4 → dr ≠ d.val → t.slot n dr = s.slot n dr)) ∧
  (∀ (d : Fin 4) (s : State),
      (s.atBoundary d.val = false ∨ s.choose d.val = none ∨ ∃ x ∈ s.choose d.val, x.2 = false) →
      ∃ t, exec (.fastInterruptTake d) s = .next t
        ∧ t = s)

/-- Software raises, pending clears, what the controller shows, watchdog registers and the return of a retired drone (parts of R5, R8, R12, R18, R20, R23, R35, R144, R176, R473, R474, R478, R480, R481, R485, R486, R492, R493, R519). In clauses on an access the initiator sends. Source n has on each drone a raise: pending, active, and of class F or N. What a clause does not name stays. (1) IRQ_RAISE raises each source 920-1023 whose bit is written 1, as a raise of it goes, and no other: those pending already merge, which COALESCED of the drone counts that holds them. (2) IRQ_PEND_CLEAR discards the pending raises of the sources written 1, on every drone; active ones stay. (3) PENDk and ACTIVEk read, bit j, whether source 32k + j is pending, or active, on some drone. (4) Dd_STACK reads the stack of taken sources: of two the top in SRC1 with V1 and the lower in SRC0 with V0; of one, it in SRC0. Dd_STAT reads LEVEL of the drone. (5) WD_ENABLE with PERIOD from 10 to 100,000 sets it and EN; where EN was 0 the count starts now. (6) With another PERIOD that field stays: PARAM; EN is set all the same. (7) WD_KICK with 0x0000_C0DE by the drone itself: the count starts anew, unless it has just run out: then the expiry stands. (8) Any other value, or another initiator: ignored, with PARAM. (9) DRONE_UNRETIRE of a retired drone that is not under test: it starts at 0x0000 with ENTRY START, REASON 0, counted in RESTARTS; its active raises are abandoned. The pending raises of the sources that TARGET it move back to it with their class; one that it holds already merges. 388 + d is raised on the other drones that are not retired. With no drone retired any more SPARED.DRONE clears, and RUN-SPARED with nothing spared becomes RUN, CAUSE 0x23. (No drone slice waits, and the list of raises names each once.) (10) With a slice of another drone that waits to take it, the slice takes it then if its conditions are met. (11) Of a drone that is not retired, or while its self-test slice runs: PARAM. Readings and choices of the model that it rests on: log entries 115, 116, 117. -/
def Obligations.InterruptRegisters : Prop :=
  (∀ (ini : Initiator) (k : Fin 32) (v : BitVec 32) (s : State),
      s.sends ini true (R.IRQ_RAISE k.val) = true →
      ∃ t, exec (.irqRaise ini k v) s = .next t
        ∧ t.respCode ini = 0
        ∧ (∀ j : Nat, j < 32 → v.getLsbD j = true ∧ 920 ≤ 32 * k.val + j → t.isPending (32 * k.val + j) = true ∧ ∀ dr : Nat, dr < 4 → t.slot (32 * k.val + j) dr = (s.raise (32 * k.val + j)).slot (32 * k.val + j) dr)
        ∧ (∀ dr : Nat, dr < 4 → t.rdN (R.IRQ_D_COALESCED dr) = min 0xFFFFFFFF (s.rdN (R.IRQ_D_COALESCED dr) + ((((List.range 32).filter fun j => v.getLsbD j && decide (920 ≤ 32 * k.val + j)).map (32 * k.val + ·) : List Nat).filter fun n => decide (([0, 1, 2, 3].find? fun q => (s.slot n q).pend) = some dr)).length))
        ∧ t = { s with regs := t.regs, irq := t.irq, spine := t.spine, sec := { s.sec with tapOut := t.sec.tapOut } }
        ∧ (∀ adr, adr ∉ (coalesced : List Nat) → t.rd adr = s.rd adr)
        ∧ (∀ num dr, num ∉ (((List.range 32).filter fun j => v.getLsbD j && decide (920 ≤ 32 * k.val + j)).map (32 * k.val + ·) : List Nat) → t.slot num dr = s.slot num dr)) ∧
  (∀ (ini : Initiator) (k : Fin 32) (v : BitVec 32) (s : State),
      s.sends ini true (R.IRQ_PEND k.val) = true →
      ∃ t, exec (.irqPendClear ini k v) s = .next t
        ∧ t.respCode ini = 0
        ∧ (∀ j : Nat, j < 32 → ∀ d : Nat, d < 4 → t.slot (32 * k.val + j) d = { s.slot (32 * k.val + j) d with pend := (s.slot (32 * k.val + j) d).pend && !v.getLsbD j })
        ∧ t = { s with irq := t.irq, spine := t.spine, sec := { s.sec with tapOut := t.sec.tapOut } }
        ∧ (∀ num dr, num ∉ (((List.range 32).filter fun j => v.getLsbD j).map (32 * k.val + ·) : List Nat) → t.slot num dr = s.slot num dr)) ∧
  (∀ (ini : Initiator) (k : Fin 32) (s : State),
      s.sends ini false (R.IRQ_PEND k.val) = true →
      s.sends ini false (R.IRQ_ACTIVE k.val) = true →
      ∃ t, exec (.rcRead ini (R.IRQ_PEND k.val) 4) s = .next t
        ∧ (∀ j : Nat, j < 32 → (t.respData ini).getLsbD j = ((s.slot (32 * k.val + j) 0).pend || (s.slot (32 * k.val + j) 1).pend || (s.slot (32 * k.val + j) 2).pend || (s.slot (32 * k.val + j) 3).pend))
        ∧ (match exec (.rcRead ini (R.IRQ_ACTIVE k.val) 4) s with | .next u => (List.range 32).all (fun j => (u.respData ini).getLsbD j == ((s.slot (32 * k.val + j) 0).act || (s.slot (32 * k.val + j) 1).act || (s.slot (32 * k.val + j) 2).act || (s.slot (32 * k.val + j) 3).act)) | _ => false) = true) ∧
  (∀ (ini : Initiator) (d : Fin 4) (s : State),
      s.sends ini false (R.IRQ_D_STACK d.val) = true →
      s.sends ini false (R.IRQ_D_STAT d.val) = true →
      ∃ t, exec (.rcRead ini (R.IRQ_D_STACK d.val) 4) s = .next t
        ∧ ((t.respData ini).toNat = (match (s.drone d.val).stack with | [] => 0 | [x] => 0x8000 + x.1 % 2 ^ 17 | x :: y :: _ => (0x80008000 + x.1 * 0x10000 + y.1) % 2 ^ 32) ∨ ∃ x ∈ (s.drone d.val).stack, 1024 ≤ x.1)
        ∧ (match exec (.rcRead ini (R.IRQ_D_STAT d.val) 4) s with | .next u => decide (bitsOf ((u.respData ini).setWidth 32) 30 29 = bitsOf (s.engine (132 + d.val)).st 6 5) | _ => false) = true) ∧
  (∀ (ini : Initiator) (d : Fin 4) (period : Nat) (s : State),
      s.sends ini true (R.IRQ_D_WD_CFG d.val) = true →
      10 ≤ period →
      period ≤ 100000 →
      ∃ t, exec (.wdEnable ini d period) s = .next t
        ∧ t.respCode ini = 0
        ∧ t.rd (R.IRQ_D_WD_CFG d.val) = setBitsOf (setBitsOf (s.rd (R.IRQ_D_WD_CFG d.val)) 16 0 period) 31 31 1
        ∧ t.drone d.val = (if s.bit (F.IRQ_D_WD_CFG_EN d.val) = true then s.drone d.val else { s.drone d.val with wdRef := s.now })
        ∧ (∀ key, key ∉ ([d.val] : List Nat) → t.drone key = s.drone key)
        ∧ t = { s with regs := t.regs, drones := t.drones, spine := t.spine, sec := { s.sec with tapOut := t.sec.tapOut } }
        ∧ (∀ adr, adr ∉ ([R.IRQ_D_WD_CFG d.val] : List Nat) → t.rd adr = s.rd adr)) ∧
  (∀ (ini : Initiator) (d : Fin 4) (period : Nat) (s : State),
      s.sends ini true (R.IRQ_D_WD_CFG d.val) = true →
      (period < 10 ∨ 100000 < period) →
      period < 131072 →
      ∃ t, exec (.wdEnable ini d period) s = .next t
        ∧ t.respCode ini = 2
        ∧ t.rd (R.IRQ_D_WD_CFG d.val) = setBitsOf (s.rd (R.IRQ_D_WD_CFG d.val)) 31 31 1
        ∧ t.drone d.val = (if s.bit (F.IRQ_D_WD_CFG_EN d.val) = true then s.drone d.val else { s.drone d.val with wdRef := s.now })
        ∧ (∀ key, key ∉ ([d.val] : List Nat) → t.drone key = s.drone key)
        ∧ t = { s with regs := t.regs, irq := t.irq, berrAt := t.berrAt, engines := t.engines, drones := t.drones, spine := t.spine, sec := { s.sec with tapOut := t.sec.tapOut } }
        ∧ (∀ adr, adr ∉ (R.IRQ_D_WD_CFG d.val :: berrRegs : List Nat) → t.rd adr = s.rd adr)
        ∧ (∀ key, key ∉ (iniEngines ini : List Nat) → t.engine key = s.engine key)
        ∧ (∀ num dr, num ∉ ([904, 905] : List Nat) → t.slot num dr = s.slot num dr)) ∧
  (∀ (d : Fin 4) (v : BitVec 32) (s : State),
      s.sends (.drone d) true (R.IRQ_D_WD_KICK d.val) = true →
      v = 0xC0DE →
      ∃ t, exec (.wdKick (.drone d) d v) s = .next t
        ∧ t.respCode (.drone d) = 0
        ∧ t.drone d.val = (if s.bit (F.IRQ_D_WD_CFG_EN d.val) = true ∧ (s.drone d.val).wdRef + 400 * s.get (F.IRQ_D_WD_CFG_PERIOD d.val) ≤ s.now then s.drone d.val else { s.drone d.val with wdRef := s.now })
        ∧ t = { s with drones := t.drones, spine := t.spine }
        ∧ (∀ key, key ∉ ([d.val] : List Nat) → t.drone key = s.drone key)) ∧
  (∀ (ini : Initiator) (d : Fin 4) (v : BitVec 32) (s : State),
      s.sends ini true (R.IRQ_D_WD_KICK d.val) = true →
      (v ≠ 0xC0DE ∨ ini ≠ .drone d) →
      ∃ t, exec (.wdKick ini d v) s = .next t
        ∧ t.respCode ini = 2
        ∧ t = { s with regs := t.regs, irq := t.irq, berrAt := t.berrAt, engines := t.engines, spine := t.spine, sec := { s.sec with tapOut := t.sec.tapOut } }
        ∧ (∀ adr, adr ∉ (berrRegs : List Nat) → t.rd adr = s.rd adr)
        ∧ (∀ key, key ∉ (iniEngines ini : List Nat) → t.engine key = s.engine key)
        ∧ (∀ num dr, num ∉ ([904, 905] : List Nat) → t.slot num dr = s.slot num dr)) ∧
  (∀ (ini : Initiator) (d : Fin 4) (s : State),
      s.sends ini true (R.IRQ_D_CTL d.val) = true →
      s.retired d.val = true →
      (∀ x ∈ (s.bist.slice.toList : List Slice), ¬ (x.kind = 2 ∧ x.unit = d.val)) →
      (∀ x ∈ (s.bist.slice.toList : List Slice), ¬ (x.kind = 2 ∧ x.taken = none ∧ x.direct = false)) →
      (s.irq.map fun e => e.1).Nodup →
      ∃ t, exec (.droneUnretire ini d) s = .next t
        ∧ t.respCode ini = 0
        ∧ t.rd (R.IRQ_D_STAT d.val) = setBitsOf (setBitsOf (setBitsOf (s.rd (R.IRQ_D_STAT d.val)) 31 31 0) 27 24 0) 7 0 (min 255 (s.get (F.IRQ_D_STAT_ABANDONED d.val) + (s.irq.filter fun e => decide (e.1 % 4 = d.val) && e.2.act).length))
        ∧ t.rdN (R.IRQ_D_RESTARTS d.val) = (s.rdN (R.IRQ_D_RESTARTS d.val) + 1) % 2 ^ 32
        ∧ t.engine (132 + d.val) = { ({} : Engine) with on := true, exc := (s.engine (132 + d.val)).exc, berr := (s.engine (132 + d.val)).berr, berrAddr := (s.engine (132 + d.val)).berrAddr, inserts := (s.engine (132 + d.val)).inserts, answers := (s.engine (132 + d.val)).answers, posted := (s.engine (132 + d.val)).posted }
        ∧ t.drone d.val = { s.drone d.val with stack := [], refire := [], restart := none, wdRef := s.now }
        ∧ (∀ n : Nat, n < 1024 → t.slot n d.val = (let x := s.slot n d.val; let q := ([0, 1, 2, 3].filter fun q => q != d.val).find? (fun q => (decide (s.get (F.IRQ_SRC_CFG_TARGET n) = d.val) && !(decide (388 ≤ n) && decide (n ≤ 391)) && n != 904 && n != 905 && n != 906) && (s.slot n q).pend); { x with act := false, pend := x.pend || q.isSome, fast := if x.pend = true then x.fast else match q with | some y => (s.slot n y).fast | none => x.fast }))
        ∧ (∀ n : Nat, n < 1024 → ∀ q : Nat, q < 4 → q ≠ d.val → (n ≠ 388 + d.val ∨ s.retired q = true) → t.slot n q = { s.slot n q with pend := (s.slot n q).pend && !(decide (s.get (F.IRQ_SRC_CFG_TARGET n) = d.val) && !(decide (388 ≤ n) && decide (n ≤ 391)) && n != 904 && n != 905 && n != 906) })
        ∧ (∀ q : Nat, q < 4 → q ≠ d.val → s.retired q = false → (t.slot (388 + d.val) q).pend = true)
        ∧ (∀ q : Nat, q < 4 → q ≠ d.val → t.rdN (R.IRQ_D_COALESCED q) = min 0xFFFFFFFF (s.rdN (R.IRQ_D_COALESCED q) + (if s.retired q = false ∧ (s.slot (388 + d.val) q).pend = true then 1 else 0) + if (∀ y : Nat, y < 4 → y ≠ d.val → s.retired y = false) ∧ s.mode = M.runSpared ∧ s.rd R.SYS_SPARED = 0x10#32 ∧ s.leaving = false ∧ ([0, 1, 2, 3].find? fun y => (s.slot 824 y).pend) = some q then 1 else 0))
        ∧ t.rd R.SYS_SPARED = (if (∀ q : Nat, q < 4 → q ≠ d.val → s.retired q = false) then s.rd R.SYS_SPARED &&& 0xFFFFFFEF#32 else s.rd R.SYS_SPARED)
        ∧ s.modeMoves t (if (∀ q : Nat, q < 4 → q ≠ d.val → s.retired q = false) ∧ s.mode = M.runSpared ∧ s.rd R.SYS_SPARED = 0x10#32 ∧ s.leaving = false then some (M.run, 0x23) else none) = true
        ∧ t = { s with regs := t.regs, irq := t.irq, drones := t.drones, engines := t.engines, sessions := t.sessions, modeCtl := t.modeCtl, spine := t.spine, sec := { s.sec with tapOut := t.sec.tapOut } }
        ∧ (∀ adr, adr ∉ (R.IRQ_D_STAT d.val :: R.IRQ_D_RESTARTS d.val :: R.SYS_SPARED :: modeRegs : List Nat) → t.rd adr = s.rd adr)
        ∧ (∀ key, key ∉ ([132 + d.val] : List Nat) → t.engine key = s.engine key)
        ∧ (∀ key, key ∉ ([d.val] : List Nat) → t.drone key = s.drone key)) ∧
  (∀ (ini : Initiator) (d : Fin 4) (s : State),
      s.sends ini true (R.IRQ_D_CTL d.val) = true →
      s.retired d.val = true →
      (∀ x ∈ (s.bist.slice.toList : List Slice), ¬ (x.kind = 2 ∧ x.unit = d.val)) →
      (∃ x ∈ (s.bist.slice.toList : List Slice), x.kind = 2 ∧ x.taken = none ∧ x.direct = false) →
      ∃ t, exec (.droneUnretire ini d) s = .next t
        ∧ (match exec (.droneUnretire ini d) { s with bist := { s.bist with slice := none } } with | .next u => decide (t = ({ u with bist := s.bist } : State).droneSliceTry) | _ => false) = true) ∧
  (∀ (ini : Initiator) (d : Fin 4) (s : State),
      s.sends ini true (R.IRQ_D_CTL d.val) = true →
      (s.retired d.val = false ∨ ¬ (∀ x ∈ (s.bist.slice.toList : List Slice), ¬ (x.kind = 2 ∧ x.unit = d.val))) →
      ∃ t, exec (.droneUnretire ini d) s = .next t
        ∧ t.respCode ini = 2
        ∧ t = { s with regs := t.regs, irq := t.irq, berrAt := t.berrAt, engines := t.engines, spine := t.spine, sec := { s.sec with tapOut := t.sec.tapOut } }
        ∧ (∀ adr, adr ∉ (berrRegs : List Nat) → t.rd adr = s.rd adr)
        ∧ (∀ key, key ∉ (iniEngines ini : List Nat) → t.engine key = s.engine key)
        ∧ (∀ num dr, num ∉ ([904, 905] : List Nat) → t.slot num dr = s.slot num dr))

/-- Watchdog expiries and exceptions restart a drone, and a second within 1 s retires it or holds the device (parts of R18, R20, R23, R24, R26, R32, R33, R176, R179, R180, R472, R473, R474, R475, R478, R481, R482, R483, R484, R486, R519). Drone d "fails" by a watchdog expiry, ENTRY 1, or an exception, ENTRY 2: it halts, the moment is kept, and 388 + d is raised on the other drones that are not retired. "Again": the failure before came less than 1 s, 400,000,000 units of wheel time, earlier. The list of the raises names each once. What a clause does not name stays. (1) WATCHDOG_EXPIRY of an enabled watchdog with a legal PERIOD, PERIOD µs after it began to count, outside RESET to FALLBACK and QUARANTINE, with the drone not halted, not retired, not under test nor about to restart, and DRN ON: counted in WD_EXPIRIES; 907 is raised on the drone of its TARGET, or the successor where that is d itself. Accesses and posted stores of the drone that wait for a wake are withdrawn. The drone fails; not again: it restarts with ENTRY 1. (2) Again, with another drone retired: it restarts, NOT_RETIRED is set, and HOLD cause 2 arises: ARMED, RUN and RUN-SPARED go to HOLD, CAUSE 0x32, unless a restart or the way to QUARANTINE is in progress. (3) Again, with no drone retired: it retires, with REASON 0xF. Its pending raises go to its successor with their class, merging with one pending there; 904-906 pending on it and its active raises are counted in ABANDONED and lost; 388-391 stay. 910 is raised, SPARED.DRONE is set, and RUN becomes RUN-SPARED, CAUSE 0x22. (4) Otherwise, or earlier, a WATCHDOG_EXPIRY does nothing. (5) An exception of drone d with cause k, not again: the cause and the low half of the PC are recorded; it restarts with ENTRY 2. (6) Again, with another drone retired: it restarts, NOT_RETIRED is set, and HOLD cause 2 arises, as above. (7) Again, with no drone retired: it retires, as above. (8) DRONE_RESTART of a drone about to restart: it enters at 0x0004 with that ENTRY and registers of 0, and REASON tells it; RESTARTS counts, and its active raises are lost, counted in ABANDONED. It keeps the exception and the bus error, its inserts and posted stores. One that a service session halts stays halted. Its watchdog counts from now. (9) With no restart due: nothing. Readings and choices of the model that it rests on: log entries 115, 117. -/
def Obligations.DroneFailures : Prop :=
  (∀ (d : Fin 4) (w : Nat) (s : State),
      (s.bit (F.IRQ_D_WD_CFG_EN d.val) = true ∧ 10 ≤ s.get (F.IRQ_D_WD_CFG_PERIOD d.val) ∧ s.get (F.IRQ_D_WD_CFG_PERIOD d.val) ≤ 100000 ∧ s.mode ∈ ([M.init, M.armed, M.run, M.runSpared, M.hold, M.service, M.provision] : List Nat) ∧ (s.drone d.val).halted = false ∧ s.retired d.val = false ∧ (∀ x ∈ (s.bist.slice.toList : List Slice), ¬ (x.kind = 2 ∧ x.unit = d.val ∧ x.direct = false ∧ x.taken.isSome = true)) ∧ s.domOn 10 = true ∧ (s.drone d.val).restart = none ∧ (s.drone d.val).wdRef + s.get (F.IRQ_D_WD_CFG_PERIOD d.val) * 400 ≤ w) →
      ¬ (∃ a ∈ ((s.drone d.val).lastExpiry.toList : List Nat), (max s.now w) - a < 400000000) →
      ∃ t, exec (.watchdogExpiry d w) s = .next t
        ∧ t.engine (132 + d.val) = { s.engine (132 + d.val) with on := false, wait := .none, posted := (s.engine (132 + d.val)).posted.filter fun p => match addrDomain p.addr with | some k => s.domOn k | none => true }
        ∧ t.stalls = s.stalls.filter (fun y => match y.by_ with | .access (.drone k) _ _ _ _ _ => k.val != d.val | .load e => e != 132 + d.val | .store e => e != 132 + d.val | _ => true)
        ∧ t.drone d.val = { s.drone d.val with lastExpiry := some (max s.now w), restart := some 1 }
        ∧ (∀ q : Nat, q < 4 → q ≠ d.val → s.retired q = false → (t.slot (388 + d.val) q).pend = true)
        ∧ t.rdN (R.IRQ_D_WD_EXPIRIES d.val) = min 0xFFFFFFFF (s.rdN (R.IRQ_D_WD_EXPIRIES d.val) + 1)
        ∧ (t.isPending 907 = true ∧ (s.isPending 907 = false → (t.slot 907 (if s.targetOf 907 = d.val then s.successor d.val else s.targetOf 907)).pend = true))
        ∧ t = { s with now := max s.now w, stalls := t.stalls, regs := t.regs, irq := t.irq, drones := t.drones, engines := t.engines }
        ∧ (∀ adr, adr ∉ (R.IRQ_D_WD_EXPIRIES d.val :: coalesced : List Nat) → t.rd adr = s.rd adr)
        ∧ (∀ key, key ∉ ([132 + d.val] : List Nat) → t.engine key = s.engine key)
        ∧ (∀ key, key ∉ ([d.val] : List Nat) → t.drone key = s.drone key)
        ∧ (∀ num dr, num ∉ ([907, 388 + d.val] : List Nat) → t.slot num dr = s.slot num dr)) ∧
  (∀ (d : Fin 4) (w : Nat) (s : State),
      (s.bit (F.IRQ_D_WD_CFG_EN d.val) = true ∧ 10 ≤ s.get (F.IRQ_D_WD_CFG_PERIOD d.val) ∧ s.get (F.IRQ_D_WD_CFG_PERIOD d.val) ≤ 100000 ∧ s.mode ∈ ([M.init, M.armed, M.run, M.runSpared, M.hold, M.service, M.provision] : List Nat) ∧ (s.drone d.val).halted = false ∧ s.retired d.val = false ∧ (∀ x ∈ (s.bist.slice.toList : List Slice), ¬ (x.kind = 2 ∧ x.unit = d.val ∧ x.direct = false ∧ x.taken.isSome = true)) ∧ s.domOn 10 = true ∧ (s.drone d.val).restart = none ∧ (s.drone d.val).wdRef + s.get (F.IRQ_D_WD_CFG_PERIOD d.val) * 400 ≤ w) →
      (∃ a ∈ ((s.drone d.val).lastExpiry.toList : List Nat), (max s.now w) - a < 400000000) →
      ¬ (∀ q : Nat, q < 4 → s.retired q = false) →
      ∃ t, exec (.watchdogExpiry d w) s = .next t
        ∧ t.engine (132 + d.val) = { s.engine (132 + d.val) with on := false, wait := .none, posted := (s.engine (132 + d.val)).posted.filter fun p => match addrDomain p.addr with | some k => s.domOn k | none => true }
        ∧ t.stalls = s.stalls.filter (fun y => match y.by_ with | .access (.drone k) _ _ _ _ _ => k.val != d.val | .load e => e != 132 + d.val | .store e => e != 132 + d.val | _ => true)
        ∧ t.drone d.val = { s.drone d.val with lastExpiry := some (max s.now w), restart := some 1 }
        ∧ t.rd (R.IRQ_D_STAT d.val) = setBitsOf (s.rd (R.IRQ_D_STAT d.val)) 28 28 1
        ∧ (s.at_ w).holdTaken t 2 = true
        ∧ (∀ q : Nat, q < 4 → q ≠ d.val → s.retired q = false → (t.slot (388 + d.val) q).pend = true)
        ∧ t.rdN (R.IRQ_D_WD_EXPIRIES d.val) = min 0xFFFFFFFF (s.rdN (R.IRQ_D_WD_EXPIRIES d.val) + 1)
        ∧ (t.isPending 907 = true ∧ (s.isPending 907 = false → (t.slot 907 (if s.targetOf 907 = d.val then s.successor d.val else s.targetOf 907)).pend = true))
        ∧ t = { s with now := max s.now w, stalls := t.stalls, regs := t.regs, irq := t.irq, drones := t.drones, engines := t.engines, sessions := t.sessions, modeCtl := t.modeCtl }
        ∧ (∀ adr, adr ∉ (R.IRQ_D_WD_EXPIRIES d.val :: R.IRQ_D_STAT d.val :: R.SYS_HOLD_CAUSES :: modeRegs : List Nat) → t.rd adr = s.rd adr)
        ∧ (∀ key, key ∉ ([132 + d.val] : List Nat) → t.engine key = s.engine key)
        ∧ (∀ key, key ∉ ([d.val] : List Nat) → t.drone key = s.drone key)
        ∧ (∀ num dr, num ∉ ([907, 388 + d.val, 824] : List Nat) → t.slot num dr = s.slot num dr)) ∧
  (∀ (d : Fin 4) (w : Nat) (s : State),
      (s.bit (F.IRQ_D_WD_CFG_EN d.val) = true ∧ 10 ≤ s.get (F.IRQ_D_WD_CFG_PERIOD d.val) ∧ s.get (F.IRQ_D_WD_CFG_PERIOD d.val) ≤ 100000 ∧ s.mode ∈ ([M.init, M.armed, M.run, M.runSpared, M.hold, M.service, M.provision] : List Nat) ∧ (s.drone d.val).halted = false ∧ s.retired d.val = false ∧ (∀ x ∈ (s.bist.slice.toList : List Slice), ¬ (x.kind = 2 ∧ x.unit = d.val ∧ x.direct = false ∧ x.taken.isSome = true)) ∧ s.domOn 10 = true ∧ (s.drone d.val).restart = none ∧ (s.drone d.val).wdRef + s.get (F.IRQ_D_WD_CFG_PERIOD d.val) * 400 ≤ w) →
      (∃ a ∈ ((s.drone d.val).lastExpiry.toList : List Nat), (max s.now w) - a < 400000000) →
      (∀ q : Nat, q < 4 → s.retired q = false) →
      (s.irq.map fun e => e.1).Nodup →
      ∃ t, exec (.watchdogExpiry d w) s = .next t
        ∧ t.engine (132 + d.val) = { s.engine (132 + d.val) with on := false, wait := .none, posted := (s.engine (132 + d.val)).posted.filter fun p => match addrDomain p.addr with | some k => s.domOn k | none => true }
        ∧ t.stalls = s.stalls.filter (fun y => match y.by_ with | .access (.drone k) _ _ _ _ _ => k.val != d.val | .load e => e != 132 + d.val | .store e => e != 132 + d.val | _ => true)
        ∧ t.drone d.val = { s.drone d.val with lastExpiry := some (max s.now w), restart := none, stack := [], refire := [] }
        ∧ t.rd (R.IRQ_D_STAT d.val) = setBitsOf (setBitsOf (setBitsOf (s.rd (R.IRQ_D_STAT d.val)) 31 31 1) 27 24 15) 7 0 (min 255 (s.get (F.IRQ_D_STAT_ABANDONED d.val) + (s.irq.filter fun e => decide (e.1 % 4 = d.val) && e.2.act).length + (s.irq.filter fun e => decide (e.1 % 4 = d.val) && e.2.pend && [904, 905, 906].contains (e.1 / 4)).length))
        ∧ (∀ n : Nat, n < 1024 → n ∉ ([907, 388 + d.val, 824, 910] : List Nat) → ∀ q : Nat, q < 4 → t.slot n q = if q = d.val then { s.slot n q with pend := (s.slot n q).pend && decide (388 ≤ n) && decide (n ≤ 391), act := false } else if q = s.successor d.val ∧ (!(decide (388 ≤ n) && decide (n ≤ 391)) && n != 904 && n != 905 && n != 906) = true ∧ (s.slot n d.val).pend = true ∧ (s.slot n q).pend = false then { s.slot n q with pend := true, fast := (s.slot n d.val).fast } else s.slot n q)
        ∧ t.isPending 910 = true
        ∧ t.rd R.SYS_SPARED = s.rd R.SYS_SPARED ||| 0x10#32
        ∧ ([0, 1, 2, 3].all fun q => decide (t.get (F.IRQ_D_STAT_RETIRED q) = if q = d.val then 1 else 0)) = true
        ∧ (if s.mode = M.run ∧ s.leaving = false then s.modeMoves t (some (M.runSpared, 0x22)) = true else t.rd R.SYS_MODE = s.rd R.SYS_MODE ∧ t.sessions = s.sessions)
        ∧ (∀ q : Nat, q < 4 → q ≠ d.val → s.retired q = false → (t.slot (388 + d.val) q).pend = true)
        ∧ t.rdN (R.IRQ_D_WD_EXPIRIES d.val) = min 0xFFFFFFFF (s.rdN (R.IRQ_D_WD_EXPIRIES d.val) + 1)
        ∧ (t.isPending 907 = true ∧ (s.isPending 907 = false → (t.slot 907 (if s.targetOf 907 = d.val then s.successor d.val else s.targetOf 907)).pend = true))
        ∧ t = { s with now := max s.now w, stalls := t.stalls, regs := t.regs, irq := t.irq, drones := t.drones, engines := t.engines, sessions := t.sessions }
        ∧ (∀ adr, adr ∉ (R.IRQ_D_WD_EXPIRIES d.val :: R.IRQ_D_STAT d.val :: R.SYS_SPARED :: R.SYS_MODE :: coalesced : List Nat) → t.rd adr = s.rd adr)
        ∧ (∀ key, key ∉ ([132 + d.val] : List Nat) → t.engine key = s.engine key)
        ∧ (∀ key, key ∉ ([d.val] : List Nat) → t.drone key = s.drone key)) ∧
  (∀ (d : Fin 4) (w : Nat) (s : State),
      ¬ (s.bit (F.IRQ_D_WD_CFG_EN d.val) = true ∧ 10 ≤ s.get (F.IRQ_D_WD_CFG_PERIOD d.val) ∧ s.get (F.IRQ_D_WD_CFG_PERIOD d.val) ≤ 100000 ∧ s.mode ∈ ([M.init, M.armed, M.run, M.runSpared, M.hold, M.service, M.provision] : List Nat) ∧ (s.drone d.val).halted = false ∧ s.retired d.val = false ∧ (∀ x ∈ (s.bist.slice.toList : List Slice), ¬ (x.kind = 2 ∧ x.unit = d.val ∧ x.direct = false ∧ x.taken.isSome = true)) ∧ s.domOn 10 = true ∧ (s.drone d.val).restart = none ∧ (s.drone d.val).wdRef + s.get (F.IRQ_D_WD_CFG_PERIOD d.val) * 400 ≤ w) →
      ∃ t, exec (.watchdogExpiry d w) s = .next t
        ∧ t = { s with now := max s.now w }) ∧
  (∀ (d : Fin 4) (k : Nat) (t : State) (s : State),
      ¬ (∃ a ∈ ((s.drone d.val).lastExpiry.toList : List Nat), s.now - a < 400000000) →
      t = s.exception (132 + d.val) k →
      t.engine (132 + d.val) = { s.engine (132 + d.val) with on := false, wait := .none, exc := BitVec.ofNat 32 (k * 2 ^ 28 + (s.engine (132 + d.val)).pc.toNat % 2 ^ 16) }
        ∧ t.drone d.val = { s.drone d.val with lastExpiry := some s.now, restart := some 2 }
        ∧ (∀ q : Nat, q < 4 → q ≠ d.val → s.retired q = false → (t.slot (388 + d.val) q).pend = true)
        ∧ t = { s with regs := t.regs, irq := t.irq, drones := t.drones, engines := t.engines }
        ∧ (∀ adr, adr ∉ (coalesced : List Nat) → t.rd adr = s.rd adr)
        ∧ (∀ key, key ∉ ([132 + d.val] : List Nat) → t.engine key = s.engine key)
        ∧ (∀ key, key ∉ ([d.val] : List Nat) → t.drone key = s.drone key)
        ∧ (∀ num dr, num ∉ ([388 + d.val] : List Nat) → t.slot num dr = s.slot num dr)) ∧
  (∀ (d : Fin 4) (k : Nat) (t : State) (s : State),
      (∃ a ∈ ((s.drone d.val).lastExpiry.toList : List Nat), s.now - a < 400000000) →
      ¬ (∀ q : Nat, q < 4 → s.retired q = false) →
      t = s.exception (132 + d.val) k →
      t.engine (132 + d.val) = { s.engine (132 + d.val) with on := false, wait := .none, exc := BitVec.ofNat 32 (k * 2 ^ 28 + (s.engine (132 + d.val)).pc.toNat % 2 ^ 16) }
        ∧ t.drone d.val = { s.drone d.val with lastExpiry := some s.now, restart := some 2 }
        ∧ t.rd (R.IRQ_D_STAT d.val) = setBitsOf (s.rd (R.IRQ_D_STAT d.val)) 28 28 1
        ∧ s.holdTaken t 2 = true
        ∧ (∀ q : Nat, q < 4 → q ≠ d.val → s.retired q = false → (t.slot (388 + d.val) q).pend = true)
        ∧ t = { s with regs := t.regs, irq := t.irq, drones := t.drones, engines := t.engines, sessions := t.sessions, modeCtl := t.modeCtl }
        ∧ (∀ adr, adr ∉ (R.IRQ_D_STAT d.val :: R.SYS_HOLD_CAUSES :: modeRegs : List Nat) → t.rd adr = s.rd adr)
        ∧ (∀ key, key ∉ ([132 + d.val] : List Nat) → t.engine key = s.engine key)
        ∧ (∀ key, key ∉ ([d.val] : List Nat) → t.drone key = s.drone key)
        ∧ (∀ num dr, num ∉ ([388 + d.val, 824] : List Nat) → t.slot num dr = s.slot num dr)) ∧
  (∀ (d : Fin 4) (k : Nat) (t : State) (s : State),
      (∃ a ∈ ((s.drone d.val).lastExpiry.toList : List Nat), s.now - a < 400000000) →
      (∀ q : Nat, q < 4 → s.retired q = false) →
      (s.irq.map fun e => e.1).Nodup →
      t = s.exception (132 + d.val) k →
      t.engine (132 + d.val) = { s.engine (132 + d.val) with on := false, wait := .none, exc := BitVec.ofNat 32 (k * 2 ^ 28 + (s.engine (132 + d.val)).pc.toNat % 2 ^ 16) }
        ∧ t.drone d.val = { s.drone d.val with lastExpiry := some s.now, restart := none, stack := [], refire := [] }
        ∧ t.rd (R.IRQ_D_STAT d.val) = setBitsOf (setBitsOf (setBitsOf (s.rd (R.IRQ_D_STAT d.val)) 31 31 1) 27 24 15) 7 0 (min 255 (s.get (F.IRQ_D_STAT_ABANDONED d.val) + (s.irq.filter fun e => decide (e.1 % 4 = d.val) && e.2.act).length + (s.irq.filter fun e => decide (e.1 % 4 = d.val) && e.2.pend && [904, 905, 906].contains (e.1 / 4)).length))
        ∧ (∀ n : Nat, n < 1024 → n ∉ ([388 + d.val, 824, 910] : List Nat) → ∀ q : Nat, q < 4 → t.slot n q = if q = d.val then { s.slot n q with pend := (s.slot n q).pend && decide (388 ≤ n) && decide (n ≤ 391), act := false } else if q = s.successor d.val ∧ (!(decide (388 ≤ n) && decide (n ≤ 391)) && n != 904 && n != 905 && n != 906) = true ∧ (s.slot n d.val).pend = true ∧ (s.slot n q).pend = false then { s.slot n q with pend := true, fast := (s.slot n d.val).fast } else s.slot n q)
        ∧ t.isPending 910 = true
        ∧ t.rd R.SYS_SPARED = s.rd R.SYS_SPARED ||| 0x10#32
        ∧ ([0, 1, 2, 3].all fun q => decide (t.get (F.IRQ_D_STAT_RETIRED q) = if q = d.val then 1 else 0)) = true
        ∧ (if s.mode = M.run ∧ s.leaving = false then s.modeMoves t (some (M.runSpared, 0x22)) = true else t.rd R.SYS_MODE = s.rd R.SYS_MODE ∧ t.sessions = s.sessions)
        ∧ (∀ q : Nat, q < 4 → q ≠ d.val → s.retired q = false → (t.slot (388 + d.val) q).pend = true)
        ∧ t = { s with regs := t.regs, irq := t.irq, drones := t.drones, engines := t.engines, sessions := t.sessions }
        ∧ (∀ adr, adr ∉ (R.IRQ_D_STAT d.val :: R.SYS_SPARED :: R.SYS_MODE :: coalesced : List Nat) → t.rd adr = s.rd adr)
        ∧ (∀ key, key ∉ ([132 + d.val] : List Nat) → t.engine key = s.engine key)
        ∧ (∀ key, key ∉ ([d.val] : List Nat) → t.drone key = s.drone key)) ∧
  (∀ (d : Fin 4) (w : Nat) (entry : Fin 16) (s : State),
      (s.drone d.val).restart = some entry.val →
      (s.irq.map fun e => e.1).Nodup →
      ∃ t, exec (.droneRestart d w) s = .next t
        ∧ t.engine (132 + d.val) = { ({} : Engine) with on := !(s.drone d.val).halted, pc := 4, entry := entry.val, exc := (s.engine (132 + d.val)).exc, berr := (s.engine (132 + d.val)).berr, berrAddr := (s.engine (132 + d.val)).berrAddr, inserts := (s.engine (132 + d.val)).inserts, answers := (s.engine (132 + d.val)).answers, posted := (s.engine (132 + d.val)).posted }
        ∧ t.drone d.val = { s.drone d.val with restart := none, stack := [], refire := [], wdRef := max s.now w }
        ∧ t.rd (R.IRQ_D_STAT d.val) = setBitsOf (setBitsOf (s.rd (R.IRQ_D_STAT d.val)) 27 24 entry.val) 7 0 (min 255 (s.get (F.IRQ_D_STAT_ABANDONED d.val) + (s.irq.filter fun e => decide (e.1 % 4 = d.val) && e.2.act).length))
        ∧ t.rdN (R.IRQ_D_RESTARTS d.val) = (s.rdN (R.IRQ_D_RESTARTS d.val) + 1) % 2 ^ 32
        ∧ (∀ n : Nat, n < 1024 → ∀ q : Nat, q < 4 → t.slot n q = if q = d.val then { s.slot n q with act := false } else s.slot n q)
        ∧ t = { s with now := max s.now w, regs := t.regs, irq := t.irq, drones := t.drones, engines := t.engines }
        ∧ (∀ adr, adr ∉ ([R.IRQ_D_STAT d.val, R.IRQ_D_RESTARTS d.val] : List Nat) → t.rd adr = s.rd adr)
        ∧ (∀ key, key ∉ ([132 + d.val] : List Nat) → t.engine key = s.engine key)
        ∧ (∀ key, key ∉ ([d.val] : List Nat) → t.drone key = s.drone key)) ∧
  (∀ (d : Fin 4) (w : Nat) (s : State),
      (s.drone d.val).restart = none →
      ∃ t, exec (.droneRestart d w) s = .next t
        ∧ t = { s with now := max s.now w })

/-- The SNAP trigger: its sources, the shadows it latches, and its other consumers (parts of R5, R10, R24, R263, R288, R290, R330, R336, R338, R487, R488, R489, R490, R491). "The trigger is asserted" by sources M, a mask of R487, in state u: the later clauses say what that does. Two moments are in one SPINE cycle when half their wheel time is the same. What a clause does not name stays. (1) SNAP_TRIGGER of several sources in one SPINE cycle makes one assertion by those whose gate lets them: the pin where PIN_EN = 1, the rim where SNAP_EN = 1 and its SNAP rises at the edge that begins micro-step m. (2) With none, nothing. (3) SNAP_PIN_EDGE held low for 2 SPINE cycles, with PIN_EN = 1: the pin asserts the trigger. Shorter, or with PIN_EN = 0: nothing. (4) SNAP_GO: the write is answered, and asserts the trigger as source 2. (5) SNAP_FREE clears FULL, unless the shadows have been latched in this SPINE cycle. (6) FREE and GO in one write: FULL clears, then the trigger is asserted. (7) Asserted in RESET, VERIFY, LOAD, FALLBACK or QUARANTINE: ignored. (8) Asserted from INIT on, with SNAP_FWD = 1 and a legal TRIG_CFG: it leaves on both Emnodric ports, with the AGE of each a free value, and waits BUDGET for its apply instant, with SRC bit 1 added. (9) Without, in a SPINE cycle in which the trigger has acted already: SRC of the shadows latched in it records the source too. (10) Else it acts. While an unread snapshot is held, with OVERWRITE = 0, the shadows stay: MISSED counts, source 909. Either way, the capture unit takes wheel time and gPTP time where bit 3 of EN is 1, over an unread one with XCAP_LOST, source 719; and with ON_SNAP a fabric capture is requested, which is missed while an unread one is held without OVERWRITE, counted and source 498, or joins one that waits. (11) With none held, or with OVERWRITE = 1, the shadows are latched: FULL, SRC, SEQ, the wheel time, source 908; each shadow takes what its register reads at that moment, or 0xDEAD_0FF0 where its domain is not ON. (12) Which shadows there are (R489). Readings and choices of the model that it rests on: log entries 15, 118, 162. -/
def Obligations.Snapshots : Prop :=
  (∀ (src m : Nat) (M : Fin 256) (s u : State),
      (∀ i : Nat, i < 8 → M.val.testBit i = (src.testBit i && (i != 0 || s.bit F.SNAP_CTL_PIN_EN) && (i != 3 || (s.bit F.FAB_RIM_CTL_SNAP_EN && u.rimRises m 0 112 255 0)))) →
      M.val ≠ 0 →
      u = (if src.testBit 3 = true then s.at_ (s.clk.epoch.getD 0 + m / 2) else s) →
      ∃ t, exec (.snapTrigger src m) s = .next t
        ∧ t = u.assertSnap M.val) ∧
  (∀ (src m : Nat) (M : Fin 256) (s u : State),
      (∀ i : Nat, i < 8 → M.val.testBit i = (src.testBit i && (i != 0 || s.bit F.SNAP_CTL_PIN_EN) && (i != 3 || (s.bit F.FAB_RIM_CTL_SNAP_EN && u.rimRises m 0 112 255 0)))) →
      M.val = 0 →
      u = (if src.testBit 3 = true then s.at_ (s.clk.epoch.getD 0 + m / 2) else s) →
      ∃ t, exec (.snapTrigger src m) s = .next t
        ∧ t = u) ∧
  (∀ (low : Nat) (s : State),
      ∃ t, exec (.snapPinEdge low) s = .next t
        ∧ t = (if s.bit F.SNAP_CTL_PIN_EN = true ∧ 2 ≤ low then s.assertSnap 1 else s)) ∧
  (∀ (ini : Initiator) (s u : State),
      s.sends ini true R.SNAP_CTL = true →
      u = s.assertSnap 4 →
      ∃ t, exec (.snapGo ini) s = .next t
        ∧ t.respCode ini = 0
        ∧ t = { u with regs := t.regs, spine := t.spine, sec := { u.sec with tapOut := t.sec.tapOut } }
        ∧ (∀ adr, t.rd adr = u.rd adr)) ∧
  (∀ (ini : Initiator) (s : State),
      s.sends ini true R.SNAP_CTL = true →
      ∃ t, exec (.snapFree ini) s = .next t
        ∧ t.respCode ini = 0
        ∧ t.rd R.SNAP_STAT = (if (s.snapAt.map (· / 2) = some (s.now / 2) ∧ s.bit F.SNAP_STAT_FULL = true ∧ (s.rdN R.SNAP_TIME_HI * 2 ^ 32 + s.rdN R.SNAP_TIME_LO) / 2 = s.now / 2 % 2 ^ 63) then s.rd R.SNAP_STAT else setBitsOf (s.rd R.SNAP_STAT) F.SNAP_STAT_FULL.hi F.SNAP_STAT_FULL.lo 0)
        ∧ t = { s with regs := t.regs, spine := t.spine, sec := { s.sec with tapOut := t.sec.tapOut } }
        ∧ (∀ adr, adr ∉ ([R.SNAP_STAT] : List Nat) → t.rd adr = s.rd adr)) ∧
  (∀ (ini : Initiator) (v : BitVec 64) (s u : State),
      s.sends ini true R.SNAP_CTL = true →
      v.getLsbD 31 = true →
      v.getLsbD 30 = true →
      bitsOf (v.setWidth 32) 1 0 = bitsOf (s.rd R.SNAP_CTL) 1 0 →
      ¬ (s.snapAt.map (· / 2) = some (s.now / 2) ∧ s.bit F.SNAP_STAT_FULL = true ∧ (s.rdN R.SNAP_TIME_HI * 2 ^ 32 + s.rdN R.SNAP_TIME_LO) / 2 = s.now / 2 % 2 ^ 63) →
      u = (s.set F.SNAP_STAT_FULL 0).assertSnap 4 →
      ∃ t, exec (.registerWrite ini R.SNAP_CTL 4 v) s = .next t
        ∧ t.respCode ini = 0
        ∧ t = { u with regs := t.regs, spine := t.spine, sec := { u.sec with tapOut := t.sec.tapOut } }
        ∧ (∀ adr, t.rd adr = u.rd adr)) ∧
  (∀ (src : Nat) (t s : State),
      ¬ s.mode ∈ ([M.init, M.armed, M.run, M.runSpared, M.hold, M.service, M.provision] : List Nat) →
      t = s.assertSnap src →
      t = s) ∧
  (∀ (src : Nat) (t s : State),
      s.mode ∈ ([M.init, M.armed, M.run, M.runSpared, M.hold, M.service, M.provision] : List Nat) →
      (s.bit F.EMN_TRIG_CFG_SNAP_FWD && s.regValid R.EMN_TRIG_CFG) = true →
      t = s.assertSnap src →
      t.emn = { s.emn with trigSeq := s.emn.trigSeq + 1, triggers := s.emn.triggers ++ [⟨true, s.now + s.get F.EMN_TRIG_CFG_BUDGET, src ||| 2⟩] }
        ∧ t.emnPort 0 = (s.emnPort 0).says (.urgent 3 (s.get F.EMN_POS_POS) (s.fresh % 2 ^ 24) [s.emn.trigSeq % 256, 0, 0, 0, 0, 0, 0])
        ∧ t.emnPort 1 = (s.emnPort 1).says (.urgent 3 (s.get F.EMN_POS_POS) (s.drawn.fresh % 2 ^ 24) [s.emn.trigSeq % 256, 0, 0, 0, 0, 0, 0])
        ∧ (∀ key, key ∉ ([0, 1] : List Nat) → t.emnPort key = s.emnPort key)
        ∧ t = { s with free := s.free + 2, emn := t.emn, emnPorts := t.emnPorts }) ∧
  (∀ (src : Nat) (t s : State),
      s.mode ∈ ([M.init, M.armed, M.run, M.runSpared, M.hold, M.service, M.provision] : List Nat) →
      (s.bit F.EMN_TRIG_CFG_SNAP_FWD && s.regValid R.EMN_TRIG_CFG) = false →
      s.snapAt.map (· / 2) = some (s.now / 2) →
      t = s.assertSnap src →
      t.get F.SNAP_STAT_SRC = (if (s.snapAt.map (· / 2) = some (s.now / 2) ∧ s.bit F.SNAP_STAT_FULL = true ∧ (s.rdN R.SNAP_TIME_HI * 2 ^ 32 + s.rdN R.SNAP_TIME_LO) / 2 = s.now / 2 % 2 ^ 63) then (s.get F.SNAP_STAT_SRC ||| src) % 256 else s.get F.SNAP_STAT_SRC)
        ∧ setBitsOf (t.rd R.SNAP_STAT) F.SNAP_STAT_SRC.hi F.SNAP_STAT_SRC.lo 0 = setBitsOf (s.rd R.SNAP_STAT) F.SNAP_STAT_SRC.hi F.SNAP_STAT_SRC.lo 0
        ∧ t = { s with regs := t.regs }
        ∧ (∀ adr, adr ∉ ([R.SNAP_STAT] : List Nat) → t.rd adr = s.rd adr)) ∧
  (∀ (src : Nat) (t s : State),
      s.mode ∈ ([M.init, M.armed, M.run, M.runSpared, M.hold, M.service, M.provision] : List Nat) →
      (s.bit F.EMN_TRIG_CFG_SNAP_FWD && s.regValid R.EMN_TRIG_CFG) = false →
      s.snapAt.map (· / 2) ≠ some (s.now / 2) →
      s.bit F.SNAP_STAT_FULL = true →
      s.bit F.SNAP_CTL_OVERWRITE = false →
      t = s.assertSnap src →
      (t.rdN R.SNAP_MISSED = min 0xFFFFFFFF (s.rdN R.SNAP_MISSED + 1) ∧ t.isPending 909 = true)
        ∧ (if (s.get F.NET_XCAP_CTL_EN).testBit 3 = true ∧ s.domOn 18 = true then (t.rd R.NET_XCAP_WT_LO = BitVec.ofNat 32 s.now ∧ t.rd R.NET_XCAP_WT_HI = BitVec.ofNat 32 (s.now / 2 ^ 32) ∧ t.rdN R.NET_XCAP_NS = s.ptpNs % 1000000000 ∧ t.rd R.NET_XCAP_S_LO = BitVec.ofNat 32 (s.ptpNs / 1000000000) ∧ t.get F.NET_XCAP_S_HI_SEC = s.ptpNs / 1000000000 / 2 ^ 32 % 65536 ∧ t.get F.NET_XCAP_S_HI_SRC = 8 ∧ t.bit F.NET_XCAP_CTL_XCAP_LOST = (s.ptp.capUnread || s.bit F.NET_XCAP_CTL_XCAP_LOST) ∧ t.get F.NET_XCAP_CTL_EN = s.get F.NET_XCAP_CTL_EN ∧ t.ptp = { s.ptp with capUnread := true } ∧ t.isPending 719 = true) else t.ptp = s.ptp ∧ (∀ adr ∈ ([R.NET_XCAP_CTL, R.NET_XCAP_WT_LO, R.NET_XCAP_WT_HI, R.NET_XCAP_NS, R.NET_XCAP_S_LO, R.NET_XCAP_S_HI] : List Nat), t.rd adr = s.rd adr) ∧ ∀ q : Nat, q < 4 → t.slot 719 q = s.slot 719 q)
        ∧ (if s.bit F.FAB_CAP_CTL_ON_SNAP = true ∧ s.capWait = false ∧ s.regValid R.FAB_CAP_CTL = true then (if s.bit F.FAB_CAP_STAT_FULL = true ∧ s.bit F.FAB_CAP_CTL_OVERWRITE = false then t.rdN R.FAB_CAP_MISSED = min 0xFFFFFFFF (s.rdN R.FAB_CAP_MISSED + 1) ∧ t.isPending 498 = true ∧ t.rd R.FAB_CAP_STAT = s.rd R.FAB_CAP_STAT ∧ t.capWait = false else t.capWait = true ∧ t.rd R.FAB_CAP_STAT = (if s.bit F.FAB_CAP_CTL_ALIGN = true then setBitsOf (s.rd R.FAB_CAP_STAT) F.FAB_CAP_STAT_PENDING.hi F.FAB_CAP_STAT_PENDING.lo 1 else s.rd R.FAB_CAP_STAT) ∧ t.rd R.FAB_CAP_MISSED = s.rd R.FAB_CAP_MISSED ∧ ∀ q : Nat, q < 4 → t.slot 498 q = s.slot 498 q) else t.capWait = s.capWait ∧ t.rd R.FAB_CAP_STAT = s.rd R.FAB_CAP_STAT ∧ t.rd R.FAB_CAP_MISSED = s.rd R.FAB_CAP_MISSED ∧ ∀ q : Nat, q < 4 → t.slot 498 q = s.slot 498 q)
        ∧ t = { s with regs := t.regs, irq := t.irq, ptp := t.ptp, capWait := t.capWait, snapAt := some s.now }
        ∧ (∀ adr, adr ∉ ([R.SNAP_MISSED] ++ [R.NET_XCAP_CTL, R.NET_XCAP_WT_LO, R.NET_XCAP_WT_HI, R.NET_XCAP_NS, R.NET_XCAP_S_LO, R.NET_XCAP_S_HI] ++ [R.FAB_CAP_STAT, R.FAB_CAP_MISSED] ++ coalesced : List Nat) → t.rd adr = s.rd adr)
        ∧ (∀ num dr, num ∉ ([909, 498, 719] : List Nat) → t.slot num dr = s.slot num dr)) ∧
  (∀ (src : Nat) (t s : State),
      s.mode ∈ ([M.init, M.armed, M.run, M.runSpared, M.hold, M.service, M.provision] : List Nat) →
      (s.bit F.EMN_TRIG_CFG_SNAP_FWD && s.regValid R.EMN_TRIG_CFG) = false →
      s.snapAt.map (· / 2) ≠ some (s.now / 2) →
      (s.bit F.SNAP_STAT_FULL = false ∨ s.bit F.SNAP_CTL_OVERWRITE = true) →
      src < 256 →
      t = s.assertSnap src →
      (t.bit F.SNAP_STAT_FULL = true ∧ t.get F.SNAP_STAT_SRC = src ∧ t.rdN R.SNAP_SEQ = (s.rdN R.SNAP_SEQ + 1) % 2 ^ 32 ∧ t.rdN R.SNAP_TIME_LO = s.now % 2 ^ 32 ∧ t.rdN R.SNAP_TIME_HI = s.now / 2 ^ 32 % 2 ^ 32 ∧ t.isPending 908 = true)
        ∧ (∀ e ∈ shadowMap, t.rd e.1 = if (match addrDomain e.2 with | some d => s.domOn d | none => true) = true then (match exec (.rcRead .tap e.2 4) s with | .next u => (u.respData .tap).setWidth 32 | _ => 0) else 0xDEAD0FF0)
        ∧ (if (s.get F.NET_XCAP_CTL_EN).testBit 3 = true ∧ s.domOn 18 = true then (t.rd R.NET_XCAP_WT_LO = BitVec.ofNat 32 s.now ∧ t.rd R.NET_XCAP_WT_HI = BitVec.ofNat 32 (s.now / 2 ^ 32) ∧ t.rdN R.NET_XCAP_NS = s.ptpNs % 1000000000 ∧ t.rd R.NET_XCAP_S_LO = BitVec.ofNat 32 (s.ptpNs / 1000000000) ∧ t.get F.NET_XCAP_S_HI_SEC = s.ptpNs / 1000000000 / 2 ^ 32 % 65536 ∧ t.get F.NET_XCAP_S_HI_SRC = 8 ∧ t.bit F.NET_XCAP_CTL_XCAP_LOST = (s.ptp.capUnread || s.bit F.NET_XCAP_CTL_XCAP_LOST) ∧ t.get F.NET_XCAP_CTL_EN = s.get F.NET_XCAP_CTL_EN ∧ t.ptp = { s.ptp with capUnread := true } ∧ t.isPending 719 = true) else t.ptp = s.ptp ∧ (∀ adr ∈ ([R.NET_XCAP_CTL, R.NET_XCAP_WT_LO, R.NET_XCAP_WT_HI, R.NET_XCAP_NS, R.NET_XCAP_S_LO, R.NET_XCAP_S_HI] : List Nat), t.rd adr = s.rd adr) ∧ ∀ q : Nat, q < 4 → t.slot 719 q = s.slot 719 q)
        ∧ (if s.bit F.FAB_CAP_CTL_ON_SNAP = true ∧ s.capWait = false ∧ s.regValid R.FAB_CAP_CTL = true then (if s.bit F.FAB_CAP_STAT_FULL = true ∧ s.bit F.FAB_CAP_CTL_OVERWRITE = false then t.rdN R.FAB_CAP_MISSED = min 0xFFFFFFFF (s.rdN R.FAB_CAP_MISSED + 1) ∧ t.isPending 498 = true ∧ t.rd R.FAB_CAP_STAT = s.rd R.FAB_CAP_STAT ∧ t.capWait = false else t.capWait = true ∧ t.rd R.FAB_CAP_STAT = (if s.bit F.FAB_CAP_CTL_ALIGN = true then setBitsOf (s.rd R.FAB_CAP_STAT) F.FAB_CAP_STAT_PENDING.hi F.FAB_CAP_STAT_PENDING.lo 1 else s.rd R.FAB_CAP_STAT) ∧ t.rd R.FAB_CAP_MISSED = s.rd R.FAB_CAP_MISSED ∧ ∀ q : Nat, q < 4 → t.slot 498 q = s.slot 498 q) else t.capWait = s.capWait ∧ t.rd R.FAB_CAP_STAT = s.rd R.FAB_CAP_STAT ∧ t.rd R.FAB_CAP_MISSED = s.rd R.FAB_CAP_MISSED ∧ ∀ q : Nat, q < 4 → t.slot 498 q = s.slot 498 q)
        ∧ t = { s with regs := t.regs, irq := t.irq, ptp := t.ptp, capWait := t.capWait, snapAt := some s.now }
        ∧ (∀ adr, adr ∉ (R.SNAP_TIME_LO :: R.SNAP_TIME_HI :: R.SNAP_SEQ :: R.SNAP_STAT :: shadowMap.map (fun e => e.1) ++ [R.NET_XCAP_CTL, R.NET_XCAP_WT_LO, R.NET_XCAP_WT_HI, R.NET_XCAP_NS, R.NET_XCAP_S_LO, R.NET_XCAP_S_HI] ++ [R.FAB_CAP_STAT, R.FAB_CAP_MISSED] ++ coalesced : List Nat) → t.rd adr = s.rd adr)
        ∧ (∀ num dr, num ∉ ([908, 498, 719] : List Nat) → t.slot num dr = s.slot num dr)) ∧
  (∀ (n : Nat) (s : State),
      n < 256 →
      (n < 2 → ∀ i : Nat, i < 5 → (R.SNAP_SH_TRACK n i, R.WHEEL_SH_ANGLE n + 4 * i) ∈ shadowMap ∧ R.SNAP_SH_TRACK n i = R.SNAP_CTL + 0x100 + 0x20 * n + 4 * i)
        ∧ (n < 3 → (R.SNAP_CTL + 0x140 + 8 * n, R.WHEEL_DOM_LP n) ∈ shadowMap ∧ (R.SNAP_CTL + 0x144 + 8 * n, R.WHEEL_DOM_HW n) ∈ shadowMap)
        ∧ (∀ e ∈ ([(0x160, R.WHEEL_T_ANGLE), (0x164, R.WHEEL_T_REV), (0x168, R.WHEEL_POOL_FREE), (0x16C, R.WHEEL_POOL_IN_USE), (0x170, R.SYS_MODE), (0x174, R.SYS_SPARED)] : List (Nat × Nat)), (R.SNAP_CTL + e.1, e.2) ∈ shadowMap)
        ∧ (n < 128 → (R.SNAP_CTL + 0x200 + 4 * n, R.MEAS_RES n) ∈ shadowMap)
        ∧ (n < 9 → (R.SNAP_CTL + 0x400 + 4 * n, R.MEAS_MON n) ∈ shadowMap)
        ∧ (n < 132 → (R.SNAP_CTL + 0x800 + 4 * n, R.CHT_C_STAT n) ∈ shadowMap ∧ (R.SNAP_CTL + 0xC00 + 4 * n, R.CHT_C_EVENTS n) ∈ shadowMap)
        ∧ (∀ e ∈ ([(0, R.LANE_STAT n), (4, R.LANE_ECHO_LAST n), (8, R.LANE_FRAMES n), (12, R.LANE_STORE n)] : List (Nat × Nat)), (R.SNAP_CTL + 0x1000 + 16 * n + e.1, e.2) ∈ shadowMap)
        ∧ shadowMap.length = 1447)

/-- Upsets of stored bits, scrub and fill passes, the idle walkers (parts of R5, R11, R12, R65, R438, R480, R495, R496, R498, R499, R504, R505, R506, R507, R508, R509, R510). In clauses on a write the initiator sends. "A pass runs": STATE of SCRUB_STAT is 1. "Corrected": a word with one bad bit, of the data or of a parity, holds its data with clean parities afterwards. A word is held while its domain is not OFF. What a clause does not name stays. (1) The words of the grid-coded memories (R11): EVM, CTX, the fabric RAM window, chanter memories without their gaps, drone memories. (2) BIT_UPSET inverts the stored bits it names of a word that is held, and no other word. (3) At another address, or where the domain is OFF: nothing. (4) SCRUB_PASS, and FILL_PASS in INIT, ARMED or SERVICE while the drains are not on, over a range that is aligned to 8, not empty and within one memory, while no pass runs: OP and GO, STATE 1, CAUSE 0, POS at the start and the summary 0. (5) Over another range, or a FILL_PASS outside its modes: not started, REFUSED is set, PARAM. (6) While a pass runs: it goes on, PARAM. (7) SCRUB_ABORT sets ABORT of a pass that runs; without one it does nothing. (8) A request that takes a domain out of ON marks a pass that runs over words of it: DOMAIN_REQUEST, where it is acted on and no unit refuses. (9) SCRUB_PASS_DONE of a SCRUB. It takes the words of the range in order, without the gaps, a word in a SPINE cycle at most: all of them, or, where ABORT was written (CAUSE 1) or a domain of the range left ON (CAUSE 2), the first ones: STATE 2 DONE or 3 ABORTED, POS, source 856. A corrected word is written back and counted in CORR. An uncorrectable one is counted in UNC, the first 16 with their addresses; with any, SCRUB_UNC and source 857. (10) Of a FILL: each word it takes that no foreground write reached later holds the fill data, clean. (11) Before the last of these words can have been taken, or with no pass: nothing. (12) The words of a class m: 0 to 4 the grid-coded memories in ascending order of their addresses, 5 none that the spine reads. (13) WALKER_LAP_DONE with IDLE_EN = 1 and the domain of its last word ON: of the words whose domain is ON the corrected ones are written back and counted in IDLE_CORR, the uncorrectable ones counted in IDLE_UNC, the last of them named in IDLE_UADDR, with source 860. LAP takes the time of the lap in ms, without the time its domain was not ON, and LAP_WORST keeps the longest. (14) With IDLE_EN = 0, or that domain not ON: nothing. (15) FORCED_GRANT to a pass that runs, or to a walker with IDLE_EN = 1: counted in FORCED; STARVED is set, with source 862 where it was 0. (16) Otherwise nothing. Readings and choices of the model that it rests on: log entries 119, 120, 121. -/
def Obligations.UpsetsAndScrubbing : Prop :=
  (∀ (a : Nat) (s : State),
      (gridWord a = (decide (0x20000000 ≤ a ∧ a < 0x22000000) || decide (0x22000000 ≤ a ∧ a < 0x220C0000) || decide (0x23000000 ≤ a ∧ a < 0x23400000) || decide (0x40000000 ≤ a ∧ a < 0x40420000 ∧ a % 0x8000 < 0x6000) || decide (0x41000000 ≤ a ∧ a < 0x41080000)))) ∧
  (∀ (a : Nat) (bits : List (Fin 80)) (s : State),
      gridWord a = true →
      s.wordHeld a = true →
      ∃ t, exec (.bitUpset a bits) s = .next t
        ∧ t.memWord a = bits.foldl (fun w b => w ^^^ BitVec.ofNat 80 (2 ^ b.val)) (s.memWord a)
        ∧ t = { s with mem := t.mem }
        ∧ (∀ adr, adr / 8 ∉ ([a] : List Nat).map (· / 8) → t.memWord adr = s.memWord adr)) ∧
  (∀ (a : Nat) (bits : List (Fin 80)) (s : State),
      (gridWord a = false ∨ s.wordHeld a = false) →
      ∃ t, exec (.bitUpset a bits) s = .next t
        ∧ t = s) ∧
  (∀ (ini : Initiator) (i : Instr) (op : Nat) (s : State),
      (op, i) ∈ ([(0, .scrubPass ini), (1, .fillPass ini)] : List (Nat × Instr)) →
      s.sends ini true R.ECC_SCRUB_CTL = true →
      s.get F.ECC_SCRUB_STAT_STATE ≠ 1 →
      ((s.rdN R.ECC_SCRUB_START) % 8 = 0 ∧ (s.rdN R.ECC_SCRUB_END) % 8 = 0 ∧ (s.rdN R.ECC_SCRUB_START) < (s.rdN R.ECC_SCRUB_END) ∧ (0x20000000 ≤ (s.rdN R.ECC_SCRUB_START) ∧ (s.rdN R.ECC_SCRUB_END) ≤ 0x22000000 ∨ 0x22000000 ≤ (s.rdN R.ECC_SCRUB_START) ∧ (s.rdN R.ECC_SCRUB_END) ≤ 0x220C0000 ∨ 0x23000000 ≤ (s.rdN R.ECC_SCRUB_START) ∧ (s.rdN R.ECC_SCRUB_END) ≤ 0x23400000 ∨ 0x40000000 ≤ (s.rdN R.ECC_SCRUB_START) ∧ (s.rdN R.ECC_SCRUB_END) ≤ 0x40420000 ∨ 0x41000000 ≤ (s.rdN R.ECC_SCRUB_START) ∧ (s.rdN R.ECC_SCRUB_END) ≤ 0x41080000)) →
      (op = 0 ∨ ((s.mode = M.init ∨ s.mode = M.armed ∨ s.mode = M.service) ∧ s.drainState ≠ 2)) →
      ∃ t, exec i s = .next t
        ∧ t.respCode ini = 0
        ∧ t.rd R.ECC_SCRUB_CTL = setBitsOf (setBitsOf (s.rd R.ECC_SCRUB_CTL) 31 31 1) 1 0 op
        ∧ t.rd R.ECC_SCRUB_STAT = setBitsOf (setBitsOf (s.rd R.ECC_SCRUB_STAT) 31 30 1) 3 0 0
        ∧ (t.rdN R.ECC_SCRUB_CORR = 0 ∧ t.rdN R.ECC_SCRUB_UNC = 0 ∧ t.rd R.ECC_SCRUB_POS = s.rd R.ECC_SCRUB_START ∧ ∀ k : Nat, k < 16 → t.rdN (R.ECC_SCRUB_UADDR k) = 0)
        ∧ t.scrub = { s.scrub with passOp := op, left := false, from_ := s.now }
        ∧ t = { s with regs := t.regs, scrub := t.scrub, spine := t.spine, sec := { s.sec with tapOut := t.sec.tapOut } }
        ∧ (∀ adr, adr ∉ ([R.ECC_SCRUB_CTL, R.ECC_SCRUB_STAT, R.ECC_SCRUB_CORR, R.ECC_SCRUB_UNC, R.ECC_SCRUB_POS] ++ (List.range 16).map R.ECC_SCRUB_UADDR : List Nat) → t.rd adr = s.rd adr)) ∧
  (∀ (ini : Initiator) (i : Instr) (op : Nat) (s : State),
      (op, i) ∈ ([(0, .scrubPass ini), (1, .fillPass ini)] : List (Nat × Instr)) →
      s.sends ini true R.ECC_SCRUB_CTL = true →
      s.get F.ECC_SCRUB_STAT_STATE ≠ 1 →
      (¬ ((s.rdN R.ECC_SCRUB_START) % 8 = 0 ∧ (s.rdN R.ECC_SCRUB_END) % 8 = 0 ∧ (s.rdN R.ECC_SCRUB_START) < (s.rdN R.ECC_SCRUB_END) ∧ (0x20000000 ≤ (s.rdN R.ECC_SCRUB_START) ∧ (s.rdN R.ECC_SCRUB_END) ≤ 0x22000000 ∨ 0x22000000 ≤ (s.rdN R.ECC_SCRUB_START) ∧ (s.rdN R.ECC_SCRUB_END) ≤ 0x220C0000 ∨ 0x23000000 ≤ (s.rdN R.ECC_SCRUB_START) ∧ (s.rdN R.ECC_SCRUB_END) ≤ 0x23400000 ∨ 0x40000000 ≤ (s.rdN R.ECC_SCRUB_START) ∧ (s.rdN R.ECC_SCRUB_END) ≤ 0x40420000 ∨ 0x41000000 ≤ (s.rdN R.ECC_SCRUB_START) ∧ (s.rdN R.ECC_SCRUB_END) ≤ 0x41080000)) ∨ op = 1 ∧ ¬ ((s.mode = M.init ∨ s.mode = M.armed ∨ s.mode = M.service) ∧ s.drainState ≠ 2)) →
      ∃ t, exec i s = .next t
        ∧ t.respCode ini = 2
        ∧ t.rd R.ECC_SCRUB_CTL = setBitsOf (s.rd R.ECC_SCRUB_CTL) 1 0 op
        ∧ t.rd R.ECC_SCRUB_STAT = setBitsOf (s.rd R.ECC_SCRUB_STAT) 29 29 1
        ∧ t = { s with regs := t.regs, irq := t.irq, berrAt := t.berrAt, engines := t.engines, spine := t.spine, sec := { s.sec with tapOut := t.sec.tapOut } }
        ∧ (∀ adr, adr ∉ (R.ECC_SCRUB_CTL :: R.ECC_SCRUB_STAT :: berrRegs : List Nat) → t.rd adr = s.rd adr)
        ∧ (∀ key, key ∉ (iniEngines ini : List Nat) → t.engine key = s.engine key)
        ∧ (∀ num dr, num ∉ ([904, 905] : List Nat) → t.slot num dr = s.slot num dr)) ∧
  (∀ (ini : Initiator) (i : Instr) (op : Nat) (s : State),
      (op, i) ∈ ([(0, .scrubPass ini), (1, .fillPass ini)] : List (Nat × Instr)) →
      s.sends ini true R.ECC_SCRUB_CTL = true →
      s.get F.ECC_SCRUB_STAT_STATE = 1 →
      ∃ t, exec i s = .next t
        ∧ t.respCode ini = 2
        ∧ t.rd R.ECC_SCRUB_CTL = setBitsOf (s.rd R.ECC_SCRUB_CTL) 1 0 op
        ∧ t = { s with regs := t.regs, irq := t.irq, berrAt := t.berrAt, engines := t.engines, spine := t.spine, sec := { s.sec with tapOut := t.sec.tapOut } }
        ∧ (∀ adr, adr ∉ (R.ECC_SCRUB_CTL :: berrRegs : List Nat) → t.rd adr = s.rd adr)
        ∧ (∀ key, key ∉ (iniEngines ini : List Nat) → t.engine key = s.engine key)
        ∧ (∀ num dr, num ∉ ([904, 905] : List Nat) → t.slot num dr = s.slot num dr)) ∧
  (∀ (ini : Initiator) (s : State),
      s.sends ini true R.ECC_SCRUB_CTL = true →
      s.get F.ECC_SCRUB_CTL_OP ≤ 1 →
      ∃ t, exec (.scrubAbort ini) s = .next t
        ∧ t.respCode ini = 0
        ∧ t.rd R.ECC_SCRUB_CTL = (if s.get F.ECC_SCRUB_STAT_STATE = 1 then setBitsOf (s.rd R.ECC_SCRUB_CTL) 30 30 1 else s.rd R.ECC_SCRUB_CTL)
        ∧ t = { s with regs := t.regs, spine := t.spine, sec := { s.sec with tapOut := t.sec.tapOut } }
        ∧ (∀ adr, adr ∉ ([R.ECC_SCRUB_CTL] : List Nat) → t.rd adr = s.rd adr)) ∧
  (∀ (d : Nat) (t s : State),
      d < 23 →
      t = s.scrubLeave d →
      t.scrub = { s.scrub with left := s.scrub.left || (decide (s.get F.ECC_SCRUB_STAT_STATE = 1) && ((List.range (((s.rdN R.ECC_SCRUB_END) - (s.rdN R.ECC_SCRUB_START)) / 8)).any fun i => addrDomain ((s.rdN R.ECC_SCRUB_START) + 8 * i) == some d)) }
        ∧ t = { s with scrub := t.scrub }) ∧
  (∀ (w words c : Nat) (late L D : List Nat) (s : State),
      s.get F.ECC_SCRUB_STAT_STATE = 1 →
      (s.scrub.passOp ≠ 1 ∧ s.rdN R.ECC_SCRUB_CORR = 0 ∧ s.rdN R.ECC_SCRUB_UNC = 0) →
      L = ((List.range (((s.rdN R.ECC_SCRUB_END) - (s.rdN R.ECC_SCRUB_START)) / 8)).map fun i => (s.rdN R.ECC_SCRUB_START) + 8 * i).filter gridWord →
      c = (if s.bit F.ECC_SCRUB_CTL_ABORT = true then 1 else if s.scrub.left = false ∧ (∀ x ∈ L, s.wordOn x = true) then 0 else 2) →
      D = (if c = 0 then L else L.take (min words ((max s.now w - s.scrub.from_) / 2))) →
      D.length ≤ (max s.now w - s.scrub.from_) / 2 →
      ∃ t, exec (.scrubPassDone w words late) s = .next t
        ∧ (t.rd R.ECC_SCRUB_STAT = setBitsOf (setBitsOf (s.rd R.ECC_SCRUB_STAT) 31 30 (if c = 0 then 2 else 3)) 3 0 c ∧ t.rd R.ECC_SCRUB_CTL = setBitsOf (s.rd R.ECC_SCRUB_CTL) 31 30 0)
        ∧ t.rd R.ECC_SCRUB_POS = BitVec.ofNat 32 ((L.drop D.length).headD (s.rdN R.ECC_SCRUB_END))
        ∧ t.isPending 856 = true
        ∧ (∀ x ∈ D, t.memWord x = if s.wordHeld x = true then (match gridClassify (s.memWord x), gridData (s.memWord x) with | .clean, _ => s.memWord x | .uncorrectable, _ => s.memWord x | _, some v => gridEncode v | _, none => s.memWord x) else s.memWord x)
        ∧ (t.rdN R.ECC_SCRUB_CORR = min 0xFFFFFFFF (D.filter fun x => s.wordHeld x && gridClassify (s.memWord x) != .clean && gridClassify (s.memWord x) != .uncorrectable).length ∧ t.rdN R.ECC_SCRUB_UNC = min 0xFFFFFFFF (D.filter fun x => s.wordHeld x && gridClassify (s.memWord x) == .uncorrectable).length)
        ∧ (∀ k : Nat, k < 16 → k < (D.filter fun x => s.wordHeld x && gridClassify (s.memWord x) == .uncorrectable).length → some (t.rdN (R.ECC_SCRUB_UADDR k)) = (D.filter fun x => s.wordHeld x && gridClassify (s.memWord x) == .uncorrectable)[k]?)
        ∧ (∀ k : Nat, k < 16 → (D.filter fun x => s.wordHeld x && gridClassify (s.memWord x) == .uncorrectable).length ≤ k → t.rd (R.ECC_SCRUB_UADDR k) = s.rd (R.ECC_SCRUB_UADDR k))
        ∧ (if (D.filter fun x => s.wordHeld x && gridClassify (s.memWord x) == .uncorrectable) = [] then t.rd R.ECC_STAT = s.rd R.ECC_STAT ∧ ∀ q : Nat, q < 4 → t.slot 857 q = s.slot 857 q else t.rd R.ECC_STAT = setBitsOf (s.rd R.ECC_STAT) 2 2 1 ∧ t.isPending 857 = true)
        ∧ t = { s with now := max s.now w, regs := t.regs, irq := t.irq, mem := t.mem }
        ∧ (∀ adr, adr ∉ ([R.ECC_SCRUB_CTL, R.ECC_SCRUB_STAT, R.ECC_SCRUB_CORR, R.ECC_SCRUB_UNC, R.ECC_SCRUB_POS, R.ECC_STAT] ++ (List.range 16).map R.ECC_SCRUB_UADDR ++ coalesced : List Nat) → t.rd adr = s.rd adr)
        ∧ (∀ num dr, num ∉ ([856, 857] : List Nat) → t.slot num dr = s.slot num dr)
        ∧ (∀ adr, adr / 8 ∉ (D : List Nat).map (· / 8) → t.memWord adr = s.memWord adr)) ∧
  (∀ (w words c : Nat) (late L D : List Nat) (s : State),
      s.get F.ECC_SCRUB_STAT_STATE = 1 →
      s.scrub.passOp = 1 →
      L = ((List.range (((s.rdN R.ECC_SCRUB_END) - (s.rdN R.ECC_SCRUB_START)) / 8)).map fun i => (s.rdN R.ECC_SCRUB_START) + 8 * i).filter gridWord →
      c = (if s.bit F.ECC_SCRUB_CTL_ABORT = true then 1 else if s.scrub.left = false ∧ (∀ x ∈ L, s.wordOn x = true) then 0 else 2) →
      D = (if c = 0 then L else L.take (min words ((max s.now w - s.scrub.from_) / 2))) →
      D.length ≤ (max s.now w - s.scrub.from_) / 2 →
      ∃ t, exec (.scrubPassDone w words late) s = .next t
        ∧ (t.rd R.ECC_SCRUB_STAT = setBitsOf (setBitsOf (s.rd R.ECC_SCRUB_STAT) 31 30 (if c = 0 then 2 else 3)) 3 0 c ∧ t.rd R.ECC_SCRUB_CTL = setBitsOf (s.rd R.ECC_SCRUB_CTL) 31 30 0)
        ∧ t.rd R.ECC_SCRUB_POS = BitVec.ofNat 32 ((L.drop D.length).headD (s.rdN R.ECC_SCRUB_END))
        ∧ t.isPending 856 = true
        ∧ (∀ x ∈ D, t.memWord x = if s.wordHeld x = true ∧ x ∉ late then gridEncode (s.rd R.ECC_SCRUB_FILL_HI ++ s.rd R.ECC_SCRUB_FILL_LO) else s.memWord x)
        ∧ (if s.rd R.ECC_SCRUB_UNC = 0 then t.rd R.ECC_STAT = s.rd R.ECC_STAT ∧ ∀ q : Nat, q < 4 → t.slot 857 q = s.slot 857 q else t.rd R.ECC_STAT = setBitsOf (s.rd R.ECC_STAT) 2 2 1 ∧ t.isPending 857 = true)
        ∧ t = { s with now := max s.now w, regs := t.regs, irq := t.irq, mem := t.mem }
        ∧ (∀ adr, adr ∉ ([R.ECC_SCRUB_CTL, R.ECC_SCRUB_STAT, R.ECC_SCRUB_POS, R.ECC_STAT] ++ coalesced : List Nat) → t.rd adr = s.rd adr)
        ∧ (∀ num dr, num ∉ ([856, 857] : List Nat) → t.slot num dr = s.slot num dr)
        ∧ (∀ adr, adr / 8 ∉ (D : List Nat).map (· / 8) → t.memWord adr = s.memWord adr)) ∧
  (∀ (w words c : Nat) (late L D : List Nat) (s : State),
      L = ((List.range (((s.rdN R.ECC_SCRUB_END) - (s.rdN R.ECC_SCRUB_START)) / 8)).map fun i => (s.rdN R.ECC_SCRUB_START) + 8 * i).filter gridWord →
      c = (if s.bit F.ECC_SCRUB_CTL_ABORT = true then 1 else if s.scrub.left = false ∧ (∀ x ∈ L, s.wordOn x = true) then 0 else 2) →
      D = (if c = 0 then L else L.take (min words ((max s.now w - s.scrub.from_) / 2))) →
      (s.get F.ECC_SCRUB_STAT_STATE ≠ 1 ∨ (max s.now w - s.scrub.from_) / 2 < D.length) →
      ∃ t, exec (.scrubPassDone w words late) s = .next t
        ∧ t = { s with now := max s.now w }) ∧
  (∀ (m : Fin 6) (a : Nat) (s : State),
      a % 8 = 0 →
      (decide (a ∈ classWords m.val) = (gridWord a && (m.val == (if a < 0x22000000 then 0 else if a < 0x23000000 then 1 else if a < 0x30000000 then 2 else if a < 0x41000000 then 3 else 4))))) ∧
  (∀ (m : Fin 6) (w paused : Nat) (V : List Nat) (s : State),
      V = ((classWords m.val).filter s.wordOn) →
      s.bit F.ECC_CTL_IDLE_EN = true →
      (m.val = 5 ∨ ∃ e ∈ ([(0, 0x21FFFFF8), (1, 0x220BFFF8), (2, 0x233FFFF8), (3, 0x4041DFF8), (4, 0x4107FFF8)] : List (Nat × Nat)), e.1 = m.val ∧ s.wordOn e.2 = true) →
      ∃ t, exec (.walkerLapDone m w paused) s = .next t
        ∧ t.rdN (R.ECC_LAP m.val) = ((w - Sparse.get (fun _ => 0) s.scrub.lapStart m.val - paused) / 400000) % 2 ^ 32
        ∧ t.rdN (R.ECC_LAP_WORST m.val) = (if s.rdN (R.ECC_LAP_WORST m.val) < ((w - Sparse.get (fun _ => 0) s.scrub.lapStart m.val - paused) / 400000) then ((w - Sparse.get (fun _ => 0) s.scrub.lapStart m.val - paused) / 400000) % 2 ^ 32 else s.rdN (R.ECC_LAP_WORST m.val))
        ∧ t.scrub = { s.scrub with lapStart := t.scrub.lapStart }
        ∧ (∀ key, Sparse.get (fun _ => 0) t.scrub.lapStart key = if key = m.val then w else Sparse.get (fun _ => 0) s.scrub.lapStart key)
        ∧ (∀ x ∈ V, t.memWord x = (match gridClassify (s.memWord x), gridData (s.memWord x) with | .clean, _ => s.memWord x | .uncorrectable, _ => s.memWord x | _, some v => gridEncode v | _, none => s.memWord x))
        ∧ (t.rdN R.ECC_IDLE_CORR = min 0xFFFFFFFF (s.rdN R.ECC_IDLE_CORR + (V.filter fun x => gridClassify (s.memWord x) != .clean && gridClassify (s.memWord x) != .uncorrectable).length) ∧ t.rdN R.ECC_IDLE_UNC = min 0xFFFFFFFF (s.rdN R.ECC_IDLE_UNC + (V.filter fun x => gridClassify (s.memWord x) == .uncorrectable).length))
        ∧ (if (V.filter fun x => gridClassify (s.memWord x) == .uncorrectable) = [] then t.rd R.ECC_IDLE_UADDR = s.rd R.ECC_IDLE_UADDR ∧ ∀ q : Nat, q < 4 → t.slot 860 q = s.slot 860 q else some (t.rdN R.ECC_IDLE_UADDR) = (V.filter fun x => gridClassify (s.memWord x) == .uncorrectable).getLast? ∧ t.isPending 860 = true)
        ∧ t = { s with now := max s.now w, regs := t.regs, irq := t.irq, mem := t.mem, scrub := t.scrub }
        ∧ (∀ adr, adr ∉ (R.ECC_LAP m.val :: R.ECC_LAP_WORST m.val :: R.ECC_IDLE_CORR :: R.ECC_IDLE_UNC :: R.ECC_IDLE_UADDR :: coalesced : List Nat) → t.rd adr = s.rd adr)
        ∧ (∀ num dr, num ∉ ([860] : List Nat) → t.slot num dr = s.slot num dr)
        ∧ (∀ adr, adr / 8 ∉ (V : List Nat).map (· / 8) → t.memWord adr = s.memWord adr)) ∧
  (∀ (m : Fin 6) (w paused : Nat) (s : State),
      (s.bit F.ECC_CTL_IDLE_EN = false ∨ ¬ (m.val = 5 ∨ ∃ e ∈ ([(0, 0x21FFFFF8), (1, 0x220BFFF8), (2, 0x233FFFF8), (3, 0x4041DFF8), (4, 0x4107FFF8)] : List (Nat × Nat)), e.1 = m.val ∧ s.wordOn e.2 = true)) →
      ∃ t, exec (.walkerLapDone m w paused) s = .next t
        ∧ t = { s with now := max s.now w }) ∧
  (∀ (p : Bool) (m : Fin 6) (s : State),
      (if p = true then s.get F.ECC_SCRUB_STAT_STATE = 1 else s.bit F.ECC_CTL_IDLE_EN = true) →
      ∃ t, exec (.forcedGrant p m) s = .next t
        ∧ t.rdN R.ECC_FORCED = min 0xFFFFFFFF (s.rdN R.ECC_FORCED + 1)
        ∧ t.rd R.ECC_STAT = setBitsOf (s.rd R.ECC_STAT) 3 3 1
        ∧ (s.bit F.ECC_STAT_STARVED = false → t.isPending 862 = true)
        ∧ t = { s with regs := t.regs, irq := t.irq }
        ∧ (∀ adr, adr ∉ (R.ECC_FORCED :: R.ECC_STAT :: coalesced : List Nat) → t.rd adr = s.rd adr)
        ∧ (∀ num dr, num ∉ (if s.bit F.ECC_STAT_STARVED = true then [] else [862] : List Nat) → t.slot num dr = s.slot num dr)) ∧
  (∀ (p : Bool) (m : Fin 6) (s : State),
      ¬ (if p = true then s.get F.ECC_SCRUB_STAT_STATE = 1 else s.bit F.ECC_CTL_IDLE_EN = true) →
      ∃ t, exec (.forcedGrant p m) s = .next t
        ∧ t = s)

/-- Self-test slices: the plan, how a unit is taken, the seal, the return, manual slices (parts of R5, R8, R20, R23, R24, R29, R31, R127, R129, R131, R473, R474, R484, R485, R486, R512, R513, R514, R515, R516, R517, R518, R519, R520, R521, R522, R523, R524, R525, R526, R527). A slice x of a unit starts in state u, and is sealed with its result (0 PASS, 1 FAIL, 2 INCOMPLETE, 3 NOT_STARTED), cause and signature: the later clauses say what that does. The seal's record is LAST, the signature, the counter and the source of the result, the place in the plan and MAN_GO. Where nothing better names it the signature is open. The list of the raises names each once. In clauses on a write the initiator sends. What a clause does not name stays. (1) SELFTEST_TICK that is no period tick, because CFG is not legal or the time since the last tick is not a whole number of periods: nothing. (2) A period tick in another mode than the six, or while a slice runs, starts none; nor does one with EN = 0 and no manual slice due. (3) With a manual slice due, the slice of its KIND and UNIT starts, whether EN is 1 or not. (4) Otherwise the slice of the unit in use of the plan starts: entry e of it, past the end of the plan entry 0, and the unit FIRST + i of that entry. (5) An entry that the image brought and that names a unit its kind does not have: the plan moves on. With no plan at all nothing starts. (6) A slice starts whose unit's domain is not ON: NOT_STARTED, cause 0xA DOMAIN_OFF. (7) The domains of the units: CGg of a chanter of group g or its spare, DRN, EVM0 for the first half of the EVM regions and EVM1, CTX, and of a fabric RAM block or a tract the quadrant. (8) A memory region is taken at once: TESTING, the budget starts. (9) A tract that may be tested, not in TRACT_BAD and its 16 golden signatures those of frames of zeros, is taken at once, with no partial load past IDLE. (10) With a partial load past IDLE: NOT_STARTED, cause 9 BUSY. (11) A tract that may not be tested: NOT_STARTED, cause 0xC NOT_SPARE. (12) A RETIRED chanter is taken at once, and tested in place. (13) Another chanter, its group spare IDLE and no claim waiting: it is claimed as a loan now, its pair region is copied to the spare, and the slice waits for the handover, TAKING. (14) With its spare not IDLE, or a claim waiting in its group: NOT_STARTED, cause 8 SPARE_BUSY, and REFUSED of the group is set. (15) A spare that holds no pair, no claim waiting in its group: it halts, is taken at once, and tested in place. (16) Another spare: NOT_STARTED, cause 8 SPARE_BUSY, and REFUSED of the group is set. (17) A retired drone is taken at once, and tested in place. (18) A drone that waits in WAITI at base level with an empty stack, no drone retired, is taken at once: it halts, and its pending raises go to its successor with their class, merging with one pending there; 904-906 pending on it are counted in ABANDONED and lost, 388-391 stay. (19) A drone that does not yet meet these conditions: the slice waits, TAKING. (20) DRONE_SLICE_WAIT_TIMEOUT 1 ms or more after the tick, the drone not taken: NOT_STARTED, cause 0xB DRONE_BUSY. (21) Otherwise nothing. (22) SLICE_SEAL, the sequence of the unit taken at k complete within the budget, no shorter than it takes: it is sealed PASS where the signature of the responses equals REF of its kind, and FAIL otherwise, with that signature. (23) With no such slice, earlier, or at the end of the budget or later: nothing. (24) The signature: it starts at all ones; a response word r makes m the value m shifted left by one, with 0x1B added where bit 63 was 1, XOR r. (25) SLICE_BUDGET_EXPIRY at the end of the budget or later, the slice not yet sealed: it is sealed INCOMPLETE, cause 1 BUDGET. (26) Otherwise nothing. (27) The record of a seal of a slice that is over. (28) Of a memory region: it is restored next, RESTORING; a failed one raises 873. (29) Of a tract that passes or is cut short: the same. (30) Of a tract that fails: its bit in TRACT_BAD is set, and 876 is raised. (31) Of a unit tested in place that does not fail: its record only; an idle spare, a retired chanter or drone stays as it is. (32) Of an idle spare that fails: it is RETIRED, SPARE_STATE 3, and 876 is raised. (33) Of a retired chanter or drone, or a spare that was removed before, that fails: it stays so, and 873 is raised. (34) Of a lent chanter on loan that does not fail: its return is claimed now, and the region of the pair is copied back. Where a claim waits in the group already, it comes first. (35) Of one on loan that fails: the loan becomes a retirement: the chanter is RETIRED, the spare SERVING, its bit of SYS.SPARED is set, and RUN becomes RUN-SPARED, CAUSE 0x22; 873 is raised. (36) Of one whose handover has not come: its claim is withdrawn. (37) Of a drone that was taken and does not fail: it starts at 0x0000 with ENTRY START, REASON 0, counted in RESTARTS. The pending raises of the sources that TARGET it move back to it with their class; one that it holds already merges. 388 + d is raised on the other drones that are not retired. (38) Of one that fails while another drone is retired: it starts again in the same way; NOT_RETIRED is set, and HOLD cause 2 arises: ARMED, RUN and RUN-SPARED go to HOLD, CAUSE 0x32; 873 is raised. (39) Of one that fails with none retired: it retires, with REASON 0xF. Raises that its successor does not have yet go there, 904-906 and active ones are counted in ABANDONED; 388 + d is raised on the others, 910 on the successor, SPARED.DRONE is set, and RUN becomes RUN-SPARED, CAUSE 0x22; 873 is raised. (40) A claim in group g, by failure or by RETIRE, cuts short a slice that holds a lent chanter of the group or tests its spare: INCOMPLETE, cause 2 CLAIM. It leaves any other slice. (41) CHANTER_RETIRE of a chanter whose spare is IDLE and under test, no claim waiting: the slice is cut so, and then the command does what it does with no slice. (42) SLICE_RESTORE_DONE of a tract, no partial START waiting: its 16 frames are frames of zeros, and GOOD. The slice is over. (43) With a partial START waiting: the same, and staging begins: STATE 1; a stream from flash reads it from then on, which suspends an operation that runs. (44) Of a memory region that did not fail: the slice is over. A wake that waited for the domain begins, or else a request that waited is acted on. (45) There the end of the slice: STATE is IDLE. (46) Of one that failed, in another mode than the six, on the way to QUARANTINE already, or with a restart taken in the same SPINE cycle: the cause is dropped, and the slice ends as above. (47) Else it goes to QUARANTINE with CAUSE 0x60. While lanes send, the SAFE burst comes first, through the 16 frames after the one in progress; an arm that has not taken effect is refused, and a restart that is in its burst gives way. (48) With none sending, at once: MODE is QUARANTINE with PREV the mode left and CAUSE 0x60, 824 is pending, no session is open, and no engine and no slice is left; memories, supply and the queue stay. (49) With no slice that is restored: nothing. (50) MANUAL_SLICE of a unit that exists, in VENDOR or OPEN in the six modes, in LOCKED in SERVICE: the slice of KIND and UNIT in MAN is due, and MAN_GO reads 1. (51) Otherwise: PARAM, MAN_REFUSED is set, and nothing starts. (52) A write of CTL without MAN_GO sets EN, which in LOCKED or SCRAPPED a write does not clear: PARAM. (53) There. (54) A write of PLANe in VENDOR or OPEN, KIND 0 or a run of units its kind has: the entry. (55) Another entry, or in LOCKED or SCRAPPED: PARAM. (56) A write of CFG or REFk in LOCKED or SCRAPPED: PARAM. (57) In VENDOR or OPEN: REFk, or the two fields of CFG with values in their ranges. (58) TRACT_USE_WRITE with VALID = 1: the tract; SPARED.TRACT is set, and RUN becomes RUN-SPARED, CAUSE 0x22, where it was not set before. (59) With VALID = 0 after a VALID = 1: SPARED.TRACT clears, and RUN-SPARED with nothing spared any more becomes RUN, CAUSE 0x23. (60) With VALID = 0 before any: the tract only. Readings and choices of the model that it rests on: log entries 5, 16, 121, 122, 123, 124, 125, 126, 143, 177, 178. -/
def Obligations.SelfTestSlices : Prop :=
  (∀ (w : Nat) (s : State),
      ¬ (1 ≤ s.get F.BIST_CFG_PERIOD_MS ∧ 10 ≤ s.get F.BIST_CFG_BUDGET_US ∧ s.get F.BIST_CFG_BUDGET_US ≤ 1000 ∧ (∀ a ∈ (s.bist.tickAt.toList : List Nat), a < (max s.now w) ∧ ((max s.now w) - a) % (s.get F.BIST_CFG_PERIOD_MS * 400000) = 0)) →
      ∃ t, exec (.selftestTick w) s = .next t
        ∧ t = { s with now := (max s.now w) }) ∧
  (∀ (w : Nat) (s : State),
      (1 ≤ s.get F.BIST_CFG_PERIOD_MS ∧ 10 ≤ s.get F.BIST_CFG_BUDGET_US ∧ s.get F.BIST_CFG_BUDGET_US ≤ 1000 ∧ (∀ a ∈ (s.bist.tickAt.toList : List Nat), a < (max s.now w) ∧ ((max s.now w) - a) % (s.get F.BIST_CFG_PERIOD_MS * 400000) = 0)) →
      (¬ (s.mode ∈ ([M.init, M.armed, M.run, M.runSpared, M.hold, M.service] : List Nat) ∧ s.bist.slice = none) ∨ s.bist.manual = none ∧ s.bit F.BIST_CTL_EN = false) →
      ∃ t, exec (.selftestTick w) s = .next t
        ∧ t = { s with now := (max s.now w), bist := { s.bist with tickAt := some (max s.now w) } }) ∧
  (∀ (w k n : Nat) (s u : State),
      (1 ≤ s.get F.BIST_CFG_PERIOD_MS ∧ 10 ≤ s.get F.BIST_CFG_BUDGET_US ∧ s.get F.BIST_CFG_BUDGET_US ≤ 1000 ∧ (∀ a ∈ (s.bist.tickAt.toList : List Nat), a < (max s.now w) ∧ ((max s.now w) - a) % (s.get F.BIST_CFG_PERIOD_MS * 400000) = 0)) →
      (s.mode ∈ ([M.init, M.armed, M.run, M.runSpared, M.hold, M.service] : List Nat) ∧ s.bist.slice = none) →
      s.bist.manual = some (k, n) →
      u = { s with now := (max s.now w), bist := { s.bist with tickAt := some (max s.now w), manual := none } } →
      ∃ t, exec (.selftestTick w) s = .next t
        ∧ t = u.sliceStart { manual := true, kind := k, unit := n, at_ := u.now }) ∧
  (∀ (w e i : Nat) (s u : State),
      (1 ≤ s.get F.BIST_CFG_PERIOD_MS ∧ 10 ≤ s.get F.BIST_CFG_BUDGET_US ∧ s.get F.BIST_CFG_BUDGET_US ≤ 1000 ∧ (∀ a ∈ (s.bist.tickAt.toList : List Nat), a < (max s.now w) ∧ ((max s.now w) - a) % (s.get F.BIST_CFG_PERIOD_MS * 400000) = 0)) →
      (s.mode ∈ ([M.init, M.armed, M.run, M.runSpared, M.hold, M.service] : List Nat) ∧ s.bist.slice = none) →
      (s.bist.manual = none ∧ s.bit F.BIST_CTL_EN = true) →
      (e = (if s.get (F.BIST_PLAN_KIND s.bist.entry) = 0 then 0 else s.bist.entry) ∧ i = (if s.get (F.BIST_PLAN_KIND s.bist.entry) = 0 then 0 else s.bist.idx)) →
      ((s.get (F.BIST_PLAN_KIND e)) = 1 ∧ (s.get (F.BIST_PLAN_FIRST e) + i) < 132 ∨ (s.get (F.BIST_PLAN_KIND e)) = 2 ∧ (s.get (F.BIST_PLAN_FIRST e) + i) < 4 ∨ (s.get (F.BIST_PLAN_KIND e)) = 3 ∧ (s.get (F.BIST_PLAN_FIRST e) + i) < 8192 ∨ (s.get (F.BIST_PLAN_KIND e)) = 4 ∧ (s.get (F.BIST_PLAN_FIRST e) + i) < 192 ∨ (s.get (F.BIST_PLAN_KIND e)) = 5 ∧ (s.get (F.BIST_PLAN_FIRST e) + i) < 1024 ∨ (s.get (F.BIST_PLAN_KIND e)) = 6 ∧ (s.get (F.BIST_PLAN_FIRST e) + i) < 256) →
      u = { s with now := (max s.now w), bist := { s.bist with tickAt := some (max s.now w), entry := e, idx := i } } →
      ∃ t, exec (.selftestTick w) s = .next t
        ∧ t = u.sliceStart { manual := false, kind := (s.get (F.BIST_PLAN_KIND e)), unit := (s.get (F.BIST_PLAN_FIRST e) + i), at_ := u.now }) ∧
  (∀ (w e i : Nat) (s u : State),
      (1 ≤ s.get F.BIST_CFG_PERIOD_MS ∧ 10 ≤ s.get F.BIST_CFG_BUDGET_US ∧ s.get F.BIST_CFG_BUDGET_US ≤ 1000 ∧ (∀ a ∈ (s.bist.tickAt.toList : List Nat), a < (max s.now w) ∧ ((max s.now w) - a) % (s.get F.BIST_CFG_PERIOD_MS * 400000) = 0)) →
      (s.mode ∈ ([M.init, M.armed, M.run, M.runSpared, M.hold, M.service] : List Nat) ∧ s.bist.slice = none) →
      (s.bist.manual = none ∧ s.bit F.BIST_CTL_EN = true) →
      (e = (if s.get (F.BIST_PLAN_KIND s.bist.entry) = 0 then 0 else s.bist.entry) ∧ i = (if s.get (F.BIST_PLAN_KIND s.bist.entry) = 0 then 0 else s.bist.idx)) →
      ¬ ((s.get (F.BIST_PLAN_KIND e)) = 1 ∧ (s.get (F.BIST_PLAN_FIRST e) + i) < 132 ∨ (s.get (F.BIST_PLAN_KIND e)) = 2 ∧ (s.get (F.BIST_PLAN_FIRST e) + i) < 4 ∨ (s.get (F.BIST_PLAN_KIND e)) = 3 ∧ (s.get (F.BIST_PLAN_FIRST e) + i) < 8192 ∨ (s.get (F.BIST_PLAN_KIND e)) = 4 ∧ (s.get (F.BIST_PLAN_FIRST e) + i) < 192 ∨ (s.get (F.BIST_PLAN_KIND e)) = 5 ∧ (s.get (F.BIST_PLAN_FIRST e) + i) < 1024 ∨ (s.get (F.BIST_PLAN_KIND e)) = 6 ∧ (s.get (F.BIST_PLAN_FIRST e) + i) < 256) →
      u = { s with now := (max s.now w), bist := { s.bist with tickAt := some (max s.now w), entry := e, idx := i } } →
      ∃ t, exec (.selftestTick w) s = .next t
        ∧ t.bist = (if (s.get (F.BIST_PLAN_KIND e)) = 0 then u.bist else { u.bist with entry := if (i + 1 < s.get (F.BIST_PLAN_COUNT e)) then e else if (¬ (i + 1 < s.get (F.BIST_PLAN_COUNT e)) ∧ (e + 1 = 256 ∨ s.get (F.BIST_PLAN_KIND ((e + 1) % 256)) = 0)) then 0 else e + 1, idx := if (i + 1 < s.get (F.BIST_PLAN_COUNT e)) then i + 1 else 0, lapAt := if (¬ (i + 1 < s.get (F.BIST_PLAN_COUNT e)) ∧ (e + 1 = 256 ∨ s.get (F.BIST_PLAN_KIND ((e + 1) % 256)) = 0)) then (max s.now w) else s.bist.lapAt })
        ∧ t.rd R.BIST_LAP_S = (if (s.get (F.BIST_PLAN_KIND e)) ≠ 0 ∧ (¬ (i + 1 < s.get (F.BIST_PLAN_COUNT e)) ∧ (e + 1 = 256 ∨ s.get (F.BIST_PLAN_KIND ((e + 1) % 256)) = 0)) then BitVec.ofNat 32 (((max s.now w) - s.bist.lapAt) / 400000000) else s.rd R.BIST_LAP_S)
        ∧ t = { u with regs := t.regs, bist := t.bist }
        ∧ (∀ adr, adr ∉ ([R.BIST_LAP_S] : List Nat) → t.rd adr = s.rd adr)) ∧
  (∀ (x : Slice) (t s : State),
      s.domOn (unitDomain x.kind x.unit) = false →
      t = s.sliceStart x →
      (s.sliceSealed t x 3 0xA none = true ∧ t.bist.slice = none ∧ s.sliceShown t 0 = true)
        ∧ t = { s with regs := t.regs, irq := t.irq, free := s.free + 1, bist := t.bist }
        ∧ (∀ adr, adr ∉ (sealRegs : List Nat) → t.rd adr = s.rd adr)
        ∧ (∀ num dr, num ∉ ([877] : List Nat) → t.slot num dr = s.slot num dr)) ∧
  (∀ (n : Nat) (s : State),
      (n < 128 → unitDomain 1 n = 6 + n / 32 ∧ unitDomain 1 (128 + n / 32) = 6 + n / 32)
        ∧ (unitDomain 2 n = 10 ∧ unitDomain 3 n = (if n < 4096 then 11 else 12) ∧ unitDomain 4 n = 13)
        ∧ (unitDomain 5 n = 2 + (2 * (n / 4 / 128) + n / 4 % 16 / 8) ∧ unitDomain 6 n = 2 + (2 * (n / 128) + n % 16 / 8))) ∧
  (∀ (x : Slice) (t s : State),
      (x.kind = 3 ∨ x.kind = 4 ∨ x.kind = 5) →
      s.domOn (unitDomain x.kind x.unit) = true →
      t = s.sliceStart x →
      t.bist = { s.bist with slice := some { x with taken := some s.now } }
        ∧ s.sliceShown t 2 = true
        ∧ t = { s with regs := t.regs, bist := t.bist }
        ∧ (∀ adr, adr ∉ ([R.BIST_STAT] : List Nat) → t.rd adr = s.rd adr)) ∧
  (∀ (x : Slice) (t s : State),
      x.kind = 6 →
      s.domOn (unitDomain x.kind x.unit) = true →
      ¬ (1 ≤ s.get F.CFG_PR_STAT_STATE ∧ s.get F.CFG_PR_STAT_STATE ≤ 4) →
      (s.bitAt (R.BIST_TRACT_BAD (x.unit / 32)) (x.unit % 32) = false ∧ ∀ i : Nat, i < 16 → (s.frameRec (16 * x.unit + i)).golden = (crc32c (zeros 640)).toNat) →
      t = s.sliceStart x →
      t.bist = { s.bist with slice := some { x with taken := some s.now } }
        ∧ s.sliceShown t 2 = true
        ∧ t = { s with regs := t.regs, bist := t.bist }
        ∧ (∀ adr, adr ∉ ([R.BIST_STAT] : List Nat) → t.rd adr = s.rd adr)) ∧
  (∀ (x : Slice) (t s : State),
      x.kind = 6 →
      s.domOn (unitDomain x.kind x.unit) = true →
      (1 ≤ s.get F.CFG_PR_STAT_STATE ∧ s.get F.CFG_PR_STAT_STATE ≤ 4) →
      t = s.sliceStart x →
      (s.sliceSealed t x 3 9 none = true ∧ t.bist.slice = none ∧ s.sliceShown t 0 = true)
        ∧ t = { s with regs := t.regs, irq := t.irq, free := s.free + 1, bist := t.bist }
        ∧ (∀ adr, adr ∉ (sealRegs : List Nat) → t.rd adr = s.rd adr)
        ∧ (∀ num dr, num ∉ ([877] : List Nat) → t.slot num dr = s.slot num dr)) ∧
  (∀ (x : Slice) (t s : State),
      x.kind = 6 →
      s.domOn (unitDomain x.kind x.unit) = true →
      ¬ (1 ≤ s.get F.CFG_PR_STAT_STATE ∧ s.get F.CFG_PR_STAT_STATE ≤ 4) →
      ¬ (s.bitAt (R.BIST_TRACT_BAD (x.unit / 32)) (x.unit % 32) = false ∧ ∀ i : Nat, i < 16 → (s.frameRec (16 * x.unit + i)).golden = (crc32c (zeros 640)).toNat) →
      t = s.sliceStart x →
      (s.sliceSealed t x 3 0xC none = true ∧ t.bist.slice = none ∧ s.sliceShown t 0 = true)
        ∧ t = { s with regs := t.regs, irq := t.irq, free := s.free + 1, bist := t.bist }
        ∧ (∀ adr, adr ∉ (sealRegs : List Nat) → t.rd adr = s.rd adr)
        ∧ (∀ num dr, num ∉ ([877] : List Nat) → t.slot num dr = s.slot num dr)) ∧
  (∀ (x : Slice) (t s : State),
      (x.kind = 1 ∧ x.unit < 128) →
      s.domOn (unitDomain x.kind x.unit) = true →
      s.get (F.CHT_C_STAT_STATE x.unit) = C.retired →
      t = s.sliceStart x →
      t.bist = { s.bist with slice := some { x with direct := true, taken := some s.now } }
        ∧ s.sliceShown t 2 = true
        ∧ t = { s with regs := t.regs, bist := t.bist }
        ∧ (∀ adr, adr ∉ ([R.BIST_STAT] : List Nat) → t.rd adr = s.rd adr)) ∧
  (∀ (x : Slice) (t s : State),
      (x.kind = 1 ∧ x.unit < 128) →
      s.domOn (unitDomain x.kind x.unit) = true →
      s.get (F.CHT_C_STAT_STATE x.unit) ≠ C.retired →
      (s.get (F.CHT_GRP_SPARE_STATE (x.unit / 32)) = 0 ∧ s.claimWaits (x.unit / 32) = false) →
      t = s.sliceStart x →
      t.bist = { s.bist with slice := some x }
        ∧ s.sliceShown t 1 = true
        ∧ t.claims = s.claims ++ [{ chanter := x.unit, kind := .loan, at_ := s.now, made := s.now }]
        ∧ t = { s.copyRegion (pairRegion x.unit) (pairRegion (128 + (x.unit / 32))) (128 + (x.unit / 32)) with regs := t.regs, claims := t.claims, bist := t.bist }
        ∧ (∀ adr, adr ∉ ([R.BIST_STAT] : List Nat) → t.rd adr = (s.copyRegion (pairRegion x.unit) (pairRegion (128 + (x.unit / 32))) (128 + (x.unit / 32))).rd adr)) ∧
  (∀ (x : Slice) (t s : State),
      (x.kind = 1 ∧ x.unit < 128) →
      s.domOn (unitDomain x.kind x.unit) = true →
      s.get (F.CHT_C_STAT_STATE x.unit) ≠ C.retired →
      (s.get (F.CHT_GRP_SPARE_STATE (x.unit / 32)) ≠ 0 ∨ s.claimWaits (x.unit / 32) = true) →
      t = s.sliceStart x →
      t.rd (R.CHT_GRP (x.unit / 32)) = (s.set (F.CHT_GRP_REFUSED (x.unit / 32)) 1).rd (R.CHT_GRP (x.unit / 32))
        ∧ (s.sliceSealed t x 3 8 none = true ∧ t.bist.slice = none ∧ s.sliceShown t 0 = true)
        ∧ t = { s with regs := t.regs, irq := t.irq, free := s.free + 1, bist := t.bist }
        ∧ (∀ adr, adr ∉ (R.CHT_GRP (x.unit / 32) :: sealRegs : List Nat) → t.rd adr = s.rd adr)
        ∧ (∀ num dr, num ∉ ([877] : List Nat) → t.slot num dr = s.slot num dr)) ∧
  (∀ (x : Slice) (t s : State),
      (x.kind = 1 ∧ 128 ≤ x.unit ∧ x.unit < 132) →
      s.domOn (unitDomain x.kind x.unit) = true →
      (s.get (F.CHT_C_STAT_PAIR x.unit) = 0xFF ∧ s.claimWaits (x.unit - 128) = false) →
      t = s.sliceStart x →
      t.bist = { s.bist with slice := some { x with direct := true, taken := some s.now } }
        ∧ s.sliceShown t 2 = true
        ∧ t.engine x.unit = { s.engine x.unit with on := false, wait := .none }
        ∧ t = { s with regs := t.regs, engines := t.engines, bist := t.bist }
        ∧ (∀ adr, adr ∉ ([R.BIST_STAT] : List Nat) → t.rd adr = s.rd adr)
        ∧ (∀ key, key ∉ ([x.unit] : List Nat) → t.engine key = s.engine key)) ∧
  (∀ (x : Slice) (t s : State),
      (x.kind = 1 ∧ 128 ≤ x.unit ∧ x.unit < 132) →
      s.domOn (unitDomain x.kind x.unit) = true →
      ¬ (s.get (F.CHT_C_STAT_PAIR x.unit) = 0xFF ∧ s.claimWaits (x.unit - 128) = false) →
      t = s.sliceStart x →
      t.rd (R.CHT_GRP (x.unit - 128)) = (s.set (F.CHT_GRP_REFUSED (x.unit - 128)) 1).rd (R.CHT_GRP (x.unit - 128))
        ∧ (s.sliceSealed t x 3 8 none = true ∧ t.bist.slice = none ∧ s.sliceShown t 0 = true)
        ∧ t = { s with regs := t.regs, irq := t.irq, free := s.free + 1, bist := t.bist }
        ∧ (∀ adr, adr ∉ (R.CHT_GRP (x.unit - 128) :: sealRegs : List Nat) → t.rd adr = s.rd adr)
        ∧ (∀ num dr, num ∉ ([877] : List Nat) → t.slot num dr = s.slot num dr)) ∧
  (∀ (x : Slice) (t s : State),
      (x.kind = 2 ∧ x.unit < 4) →
      s.domOn (unitDomain x.kind x.unit) = true →
      s.retired x.unit = true →
      t = s.sliceStart x →
      t.bist = { s.bist with slice := some { x with direct := true, taken := some s.now } }
        ∧ s.sliceShown t 2 = true
        ∧ t = { s with regs := t.regs, bist := t.bist }
        ∧ (∀ adr, adr ∉ ([R.BIST_STAT] : List Nat) → t.rd adr = s.rd adr)) ∧
  (∀ (x : Slice) (t s : State),
      (x.kind = 2 ∧ x.unit < 4) →
      s.domOn (unitDomain x.kind x.unit) = true →
      ((s.engine (132 + x.unit)).on = true ∧ (s.engine (132 + x.unit)).wait = .irq ∧ bitsOf (s.engine (132 + x.unit)).st 6 5 = 0 ∧ (s.drone x.unit).stack = [] ∧ ∀ q : Nat, q < 4 → s.retired q = false) →
      (s.irq.map fun e => e.1).Nodup →
      t = s.sliceStart x →
      t.bist = { s.bist with slice := some { x with taken := some s.now } }
        ∧ s.sliceShown t 2 = true
        ∧ t.engine (132 + x.unit) = { s.engine (132 + x.unit) with on := false, wait := .none }
        ∧ t.drone x.unit = { s.drone x.unit with stack := [], refire := [], restart := none }
        ∧ t.rd (R.IRQ_D_STAT x.unit) = setBitsOf (s.rd (R.IRQ_D_STAT x.unit)) 7 0 (min 255 (s.get (F.IRQ_D_STAT_ABANDONED x.unit) + (s.irq.filter fun e => decide (e.1 % 4 = x.unit) && e.2.act).length + (s.irq.filter fun e => decide (e.1 % 4 = x.unit) && e.2.pend && [904, 905, 906].contains (e.1 / 4)).length))
        ∧ (∀ n : Nat, n < 1024 → ∀ q : Nat, q < 4 → t.slot n q = if q = x.unit then { s.slot n q with pend := (s.slot n q).pend && decide (388 ≤ n) && decide (n ≤ 391), act := false } else if q = s.successor x.unit ∧ (!(decide (388 ≤ n) && decide (n ≤ 391)) && n != 904 && n != 905 && n != 906) = true ∧ (s.slot n x.unit).pend = true ∧ (s.slot n q).pend = false then { s.slot n q with pend := true, fast := (s.slot n x.unit).fast } else s.slot n q)
        ∧ t = { s with regs := t.regs, irq := t.irq, engines := t.engines, drones := t.drones, bist := t.bist }
        ∧ (∀ adr, adr ∉ (R.BIST_STAT :: R.IRQ_D_STAT x.unit :: coalesced : List Nat) → t.rd adr = s.rd adr)
        ∧ (∀ key, key ∉ ([132 + x.unit] : List Nat) → t.engine key = s.engine key)
        ∧ (∀ key, key ∉ ([x.unit] : List Nat) → t.drone key = s.drone key)) ∧
  (∀ (x : Slice) (t s : State),
      (x.kind = 2 ∧ x.unit < 4) →
      s.domOn (unitDomain x.kind x.unit) = true →
      s.retired x.unit = false →
      ¬ ((s.engine (132 + x.unit)).on = true ∧ (s.engine (132 + x.unit)).wait = .irq ∧ bitsOf (s.engine (132 + x.unit)).st 6 5 = 0 ∧ (s.drone x.unit).stack = [] ∧ ∀ q : Nat, q < 4 → s.retired q = false) →
      (x.taken = none ∧ x.direct = false) →
      t = s.sliceStart x →
      t.bist = { s.bist with slice := some x }
        ∧ s.sliceShown t 1 = true
        ∧ t = { s with regs := t.regs, bist := t.bist }
        ∧ (∀ adr, adr ∉ ([R.BIST_STAT] : List Nat) → t.rd adr = s.rd adr)) ∧
  (∀ (w : Nat) (x : Slice) (s : State),
      s.bist.slice = some x →
      (x.kind = 2 ∧ x.taken = none ∧ x.at_ + 400000 ≤ w) →
      ∃ t, exec (.droneSliceWaitTimeout w) s = .next t
        ∧ ((s.at_ w).sliceSealed t x 3 0xB none = true ∧ t.bist.slice = none ∧ s.sliceShown t 0 = true)
        ∧ t = { s with now := max s.now w, regs := t.regs, irq := t.irq, free := s.free + 1, bist := t.bist }
        ∧ (∀ adr, adr ∉ (sealRegs : List Nat) → t.rd adr = s.rd adr)
        ∧ (∀ num dr, num ∉ ([877] : List Nat) → t.slot num dr = s.slot num dr)) ∧
  (∀ (w : Nat) (s : State),
      (∀ x ∈ (s.bist.slice.toList : List Slice), ¬ (x.kind = 2 ∧ x.taken = none ∧ x.at_ + 400000 ≤ w)) →
      ∃ t, exec (.droneSliceWaitTimeout w) s = .next t
        ∧ t = { s with now := max s.now w }) ∧
  (∀ (w k : Nat) (resp : List (BitVec 64)) (x : Slice) (s u : State),
      s.bist.slice = some x →
      (x.taken = some k ∧ x.result = none) →
      w < k + s.get F.BIST_CFG_BUDGET_US * 400 →
      k + (if x.kind = 1 then 60000 else if x.kind = 2 then 40000 else if x.kind = 6 then 11400 else 11280) ≤ w →
      u = { s with now := max s.now w } →
      ∃ t, exec (.sliceSeal w resp) s = .next t
        ∧ t = u.sealSlice x (if (misrOf resp = s.rd (R.BIST_REF_HI (x.kind - 1)) ++ s.rd (R.BIST_REF_LO (x.kind - 1))) then 0 else 1) 0 (misrOf resp)) ∧
  (∀ (w : Nat) (resp : List (BitVec 64)) (s : State),
      (∀ x ∈ (s.bist.slice.toList : List Slice), x.result = none → ∀ k ∈ (x.taken.toList : List Nat), ¬ (w < k + s.get F.BIST_CFG_BUDGET_US * 400 ∧ k + (if x.kind = 1 then 60000 else if x.kind = 2 then 40000 else if x.kind = 6 then 11400 else 11280) ≤ w)) →
      ∃ t, exec (.sliceSeal w resp) s = .next t
        ∧ t = { s with now := max s.now w }) ∧
  (∀ (l : List (BitVec 64)) (r : BitVec 64) (s : State),
      (misrOf [] = 0xFFFFFFFFFFFFFFFF#64 ∧ misrOf (l ++ [r]) = (misrOf l <<< 1) ^^^ (if (misrOf l).getLsbD 63 = true then 0x1B#64 else 0#64) ^^^ r)) ∧
  (∀ (w k : Nat) (x : Slice) (s u : State),
      s.bist.slice = some x →
      (x.taken = some k ∧ x.result = none) →
      k + s.get F.BIST_CFG_BUDGET_US * 400 ≤ w →
      u = { s with now := max s.now w } →
      ∃ t, exec (.sliceBudgetExpiry w) s = .next t
        ∧ t = u.drawn.sealSlice x 2 1 (Config.freeValue s.free)) ∧
  (∀ (w : Nat) (s : State),
      (∀ x ∈ (s.bist.slice.toList : List Slice), x.result = none → ∀ k ∈ (x.taken.toList : List Nat), w < k + s.get F.BIST_CFG_BUDGET_US * 400) →
      ∃ t, exec (.sliceBudgetExpiry w) s = .next t
        ∧ t = { s with now := max s.now w }) ∧
  (∀ (x : Slice) (r c : Nat) (m : BitVec 64) (t s : State),
      (r < 4 ∧ c < 16) →
      t = (s.sealRecord x r c m).endSlice →
      (s.sliceSealed t x r c (some m) = true ∧ t.bist.slice = none ∧ s.sliceShown t 0 = true)
        ∧ t = { s with regs := t.regs, irq := t.irq, bist := t.bist }
        ∧ (∀ adr, adr ∉ (sealRegs : List Nat) → t.rd adr = s.rd adr)
        ∧ (∀ num dr, num ∉ (if r = 0 then [872] else if r = 2 then [874] else if r = 3 then [877] else [] : List Nat) → t.slot num dr = s.slot num dr)) ∧
  (∀ (x : Slice) (r c : Nat) (m : BitVec 64) (t s : State),
      (r < 4 ∧ c < 16) →
      (3 ≤ x.kind ∧ x.kind ≤ 5) →
      t = s.sealSlice x r c m →
      (s.sliceSealed t x r c (some m) = true ∧ t.bist.slice = some { x with result := some r } ∧ s.sliceShown t 3 = true)
        ∧ (r = 1 → t.isPending 873 = true)
        ∧ t = { s with regs := t.regs, irq := t.irq, bist := t.bist }
        ∧ (∀ adr, adr ∉ (sealRegs : List Nat) → t.rd adr = s.rd adr)
        ∧ (∀ num dr, num ∉ (if r = 0 then [872] else if r = 2 then [874] else if r = 3 then [877] else [873] : List Nat) → t.slot num dr = s.slot num dr)) ∧
  (∀ (x : Slice) (r c : Nat) (m : BitVec 64) (t s : State),
      (r < 4 ∧ c < 16) →
      (x.kind = 6 ∧ r ≠ 1) →
      t = s.sealSlice x r c m →
      (s.sliceSealed t x r c (some m) = true ∧ t.bist.slice = some { x with result := some r } ∧ s.sliceShown t 3 = true)
        ∧ t = { s with regs := t.regs, irq := t.irq, bist := t.bist }
        ∧ (∀ adr, adr ∉ (sealRegs : List Nat) → t.rd adr = s.rd adr)
        ∧ (∀ num dr, num ∉ (if r = 0 then [872] else if r = 2 then [874] else [877] : List Nat) → t.slot num dr = s.slot num dr)) ∧
  (∀ (x : Slice) (r c : Nat) (m : BitVec 64) (t s : State),
      (r < 4 ∧ c < 16) →
      (x.kind = 6 ∧ x.unit < 256 ∧ r = 1) →
      t = s.sealSlice x r c m →
      (s.sliceSealed t x r c (some m) = true ∧ t.bist.slice = some { x with result := some r } ∧ s.sliceShown t 3 = true)
        ∧ (t.rd (R.BIST_TRACT_BAD (x.unit / 32)) = s.rd (R.BIST_TRACT_BAD (x.unit / 32)) ||| BitVec.ofNat 32 (2 ^ (x.unit % 32)) ∧ t.isPending 876 = true)
        ∧ t = { s with regs := t.regs, irq := t.irq, bist := t.bist }
        ∧ (∀ adr, adr ∉ (R.BIST_TRACT_BAD (x.unit / 32) :: sealRegs : List Nat) → t.rd adr = s.rd adr)
        ∧ (∀ num dr, num ∉ ([876] : List Nat) → t.slot num dr = s.slot num dr)) ∧
  (∀ (x : Slice) (r c : Nat) (m : BitVec 64) (t s u : State),
      (r < 4 ∧ c < 16) →
      (x.kind ≤ 2 ∧ x.direct = true ∧ r ≠ 1) →
      u = (s.sealRecord x r c m).endSlice →
      t = s.sealSlice x r c m →
      (t = u)) ∧
  (∀ (x : Slice) (r c : Nat) (m : BitVec 64) (t s u : State),
      (r < 4 ∧ c < 16) →
      (x.kind = 1 ∧ 128 ≤ x.unit ∧ x.unit < 132 ∧ x.direct = true ∧ r = 1) →
      s.get (F.CHT_GRP_SPARE_STATE (x.unit - 128)) = 0 →
      u = (s.sealRecord x r c m).endSlice →
      t = s.sealSlice x r c m →
      (t.rd (R.CHT_GRP (x.unit - 128)) = (s.set (F.CHT_GRP_SPARE_STATE (x.unit - 128)) 3).rd (R.CHT_GRP (x.unit - 128)) ∧ t.rd (R.CHT_C_STAT x.unit) = (s.set (F.CHT_C_STAT_STATE x.unit) C.retired).rd (R.CHT_C_STAT x.unit) ∧ t.isPending 876 = true)
        ∧ t = { u with regs := t.regs, irq := t.irq }
        ∧ (∀ adr, adr ∉ (R.CHT_GRP (x.unit - 128) :: R.CHT_C_STAT x.unit :: coalesced : List Nat) → t.rd adr = u.rd adr)
        ∧ (∀ num dr, num ∉ ([876] : List Nat) → t.slot num dr = u.slot num dr)) ∧
  (∀ (x : Slice) (r c : Nat) (m : BitVec 64) (t s u : State),
      (r < 4 ∧ c < 16) →
      (x.kind = 1 ∧ (x.unit < 128 ∨ s.get (F.CHT_GRP_SPARE_STATE (x.unit - 128)) ≠ 0) ∨ x.kind = 2) →
      (x.direct = true ∧ r = 1) →
      u = (s.sealRecord x r c m).endSlice →
      t = s.sealSlice x r c m →
      t.isPending 873 = true
        ∧ t = { u with regs := t.regs, irq := t.irq }
        ∧ (∀ adr, adr ∉ (coalesced : List Nat) → t.rd adr = u.rd adr)
        ∧ (∀ num dr, num ∉ ([873] : List Nat) → t.slot num dr = u.slot num dr)) ∧
  (∀ (x : Slice) (r c : Nat) (m : BitVec 64) (t s u : State),
      (r < 4 ∧ c < 16) →
      (x.kind = 1 ∧ x.unit < 128 ∧ x.direct = false) →
      (s.get (F.CHT_GRP_SPARE_STATE (x.unit / 32)) = 2 ∧ s.get (F.CHT_C_STAT_STATE x.unit) = C.onLoan) →
      r ≠ 1 →
      u = (s.sealRecord x r c m).endSlice →
      t = s.sealSlice x r c m →
      (if u.claimWaits (x.unit / 32) = true then decide (t = u) else decide (t = { (u.copyRegion (pairRegion (128 + (x.unit / 32))) (pairRegion x.unit) x.unit) with claims := t.claims } ∧ t.claims = s.claims ++ [{ chanter := x.unit, kind := .loanReturn, at_ := s.now, made := s.now }])) = true) ∧
  (∀ (x : Slice) (r c : Nat) (m : BitVec 64) (t s u : State),
      (r < 4 ∧ c < 16) →
      (x.kind = 1 ∧ x.unit < 128 ∧ x.direct = false) →
      (s.get (F.CHT_GRP_SPARE_STATE (x.unit / 32)) = 2 ∧ s.get (F.CHT_C_STAT_STATE x.unit) = C.onLoan) →
      r = 1 →
      u = (s.sealRecord x r c m).endSlice →
      t = s.sealSlice x r c m →
      (t.rd (R.CHT_GRP (x.unit / 32)) = (s.set (F.CHT_GRP_SPARE_STATE (x.unit / 32)) 1).rd (R.CHT_GRP (x.unit / 32)) ∧ t.rd (R.CHT_C_STAT x.unit) = (s.set (F.CHT_C_STAT_STATE x.unit) C.retired).rd (R.CHT_C_STAT x.unit) ∧ t.isPending 873 = true)
        ∧ t.rd R.SYS_SPARED = s.rd R.SYS_SPARED ||| BitVec.ofNat 32 (2 ^ (x.unit / 32))
        ∧ u.modeMoves t (if s.mode = M.run ∧ s.leaving = false then some (M.runSpared, 0x22) else none) = true
        ∧ t = { u with regs := t.regs, irq := t.irq, sessions := t.sessions, modeCtl := t.modeCtl }
        ∧ (∀ adr, adr ∉ (R.CHT_GRP (x.unit / 32) :: R.CHT_C_STAT x.unit :: R.SYS_SPARED :: modeRegs : List Nat) → t.rd adr = u.rd adr)
        ∧ (∀ num dr, num ∉ ([873, 824] : List Nat) → t.slot num dr = u.slot num dr)) ∧
  (∀ (x : Slice) (r c : Nat) (m : BitVec 64) (t s u : State),
      (r < 4 ∧ c < 16) →
      (x.kind = 1 ∧ x.unit < 128 ∧ x.direct = false) →
      ¬ (s.get (F.CHT_GRP_SPARE_STATE (x.unit / 32)) = 2 ∧ s.get (F.CHT_C_STAT_STATE x.unit) = C.onLoan) →
      r ≠ 1 →
      u = (s.sealRecord x r c m).endSlice →
      t = s.sealSlice x r c m →
      (t = { u with claims := s.claims.filter fun y => !(y.chanter == x.unit && y.kind == .loan) })) ∧
  (∀ (x : Slice) (r c : Nat) (m : BitVec 64) (t s u : State),
      (r < 4 ∧ c < 16) →
      (x.kind = 2 ∧ x.unit < 4 ∧ x.direct = false) →
      r ≠ 1 →
      ((s.sealRecord x r c m).endSlice.irq.map fun e => e.1).Nodup →
      u = (s.sealRecord x r c m).endSlice →
      t = s.sealSlice x r c m →
      t.engine (132 + x.unit) = { ({} : Engine) with on := true, exc := (s.engine (132 + x.unit)).exc, berr := (s.engine (132 + x.unit)).berr, berrAddr := (s.engine (132 + x.unit)).berrAddr, inserts := (s.engine (132 + x.unit)).inserts, answers := (s.engine (132 + x.unit)).answers, posted := (s.engine (132 + x.unit)).posted }
        ∧ t.drone x.unit = { s.drone x.unit with stack := [], refire := [], restart := none, wdRef := s.now }
        ∧ t.rd (R.IRQ_D_STAT x.unit) = setBitsOf (setBitsOf (s.rd (R.IRQ_D_STAT x.unit)) 27 24 0) 7 0 (min 255 (s.get (F.IRQ_D_STAT_ABANDONED x.unit) + (u.irq.filter fun e => decide (e.1 % 4 = x.unit) && e.2.act).length))
        ∧ (∀ n : Nat, n < 1024 → n ∉ ([] : List Nat) → t.slot n x.unit = (let y := u.slot n x.unit; let q := ([0, 1, 2, 3].filter fun q => q != x.unit).find? (fun q => (decide (s.get (F.IRQ_SRC_CFG_TARGET n) = x.unit) && !(decide (388 ≤ n) && decide (n ≤ 391)) && n != 904 && n != 905 && n != 906) && (u.slot n q).pend); { y with act := false, pend := y.pend || q.isSome, fast := if y.pend = true then y.fast else match q with | some z => (u.slot n z).fast | none => y.fast }))
        ∧ (∀ n : Nat, n < 1024 → n ∉ ([] : List Nat) → ∀ q : Nat, q < 4 → q ≠ x.unit → (n ≠ 388 + x.unit ∨ s.retired q = true) → t.slot n q = { u.slot n q with pend := (u.slot n q).pend && !(decide (s.get (F.IRQ_SRC_CFG_TARGET n) = x.unit) && !(decide (388 ≤ n) && decide (n ≤ 391)) && n != 904 && n != 905 && n != 906) })
        ∧ (∀ q : Nat, q < 4 → q ≠ x.unit → s.retired q = false → (t.slot (388 + x.unit) q).pend = true)
        ∧ t.rdN (R.IRQ_D_RESTARTS x.unit) = (s.rdN (R.IRQ_D_RESTARTS x.unit) + 1) % 2 ^ 32
        ∧ t = { u with regs := t.regs, irq := t.irq, drones := t.drones, engines := t.engines }
        ∧ (∀ adr, adr ∉ (R.IRQ_D_STAT x.unit :: R.IRQ_D_RESTARTS x.unit :: coalesced : List Nat) → t.rd adr = u.rd adr)
        ∧ (∀ key, key ∉ ([132 + x.unit] : List Nat) → t.engine key = u.engine key)
        ∧ (∀ key, key ∉ ([x.unit] : List Nat) → t.drone key = u.drone key)) ∧
  (∀ (x : Slice) (r c : Nat) (m : BitVec 64) (t s u : State),
      (r < 4 ∧ c < 16) →
      (x.kind = 2 ∧ x.unit < 4 ∧ x.direct = false) →
      (r = 1 ∧ ([0, 1, 2, 3].any fun q => s.retired q) = true) →
      ((s.sealRecord x r c m).endSlice.irq.map fun e => e.1).Nodup →
      u = (s.sealRecord x r c m).endSlice →
      t = s.sealSlice x r c m →
      t.engine (132 + x.unit) = { ({} : Engine) with on := true, exc := (s.engine (132 + x.unit)).exc, berr := (s.engine (132 + x.unit)).berr, berrAddr := (s.engine (132 + x.unit)).berrAddr, inserts := (s.engine (132 + x.unit)).inserts, answers := (s.engine (132 + x.unit)).answers, posted := (s.engine (132 + x.unit)).posted }
        ∧ t.drone x.unit = { s.drone x.unit with stack := [], refire := [], restart := none, wdRef := s.now }
        ∧ t.rd (R.IRQ_D_STAT x.unit) = setBitsOf (setBitsOf (setBitsOf (s.rd (R.IRQ_D_STAT x.unit)) 28 28 1) 27 24 0) 7 0 (min 255 (s.get (F.IRQ_D_STAT_ABANDONED x.unit) + (u.irq.filter fun e => decide (e.1 % 4 = x.unit) && e.2.act).length))
        ∧ (t.isPending 873 = true ∧ ∀ k : Nat, k < 32 → t.bitAt R.SYS_HOLD_CAUSES k = (s.bitAt R.SYS_HOLD_CAUSES k || k == 2))
        ∧ (if s.mode ∈ ([M.armed, M.run, M.runSpared] : List Nat) ∧ s.leaving = false then u.modeMoves t (some (M.hold, 0x32)) = true else t.rd R.SYS_MODE = s.rd R.SYS_MODE ∧ t.rd R.SYS_MODE_STAT = s.rd R.SYS_MODE_STAT ∧ t.modeCtl = s.modeCtl ∧ t.sessions = s.sessions)
        ∧ (∀ n : Nat, n < 1024 → n ∉ ([824, 873] : List Nat) → t.slot n x.unit = (let y := u.slot n x.unit; let q := ([0, 1, 2, 3].filter fun q => q != x.unit).find? (fun q => (decide (s.get (F.IRQ_SRC_CFG_TARGET n) = x.unit) && !(decide (388 ≤ n) && decide (n ≤ 391)) && n != 904 && n != 905 && n != 906) && (u.slot n q).pend); { y with act := false, pend := y.pend || q.isSome, fast := if y.pend = true then y.fast else match q with | some z => (u.slot n z).fast | none => y.fast }))
        ∧ (∀ n : Nat, n < 1024 → n ∉ ([824, 873] : List Nat) → ∀ q : Nat, q < 4 → q ≠ x.unit → (n ≠ 388 + x.unit ∨ s.retired q = true) → t.slot n q = { u.slot n q with pend := (u.slot n q).pend && !(decide (s.get (F.IRQ_SRC_CFG_TARGET n) = x.unit) && !(decide (388 ≤ n) && decide (n ≤ 391)) && n != 904 && n != 905 && n != 906) })
        ∧ (∀ q : Nat, q < 4 → q ≠ x.unit → s.retired q = false → (t.slot (388 + x.unit) q).pend = true)
        ∧ t.rdN (R.IRQ_D_RESTARTS x.unit) = (s.rdN (R.IRQ_D_RESTARTS x.unit) + 1) % 2 ^ 32
        ∧ t = { u with regs := t.regs, irq := t.irq, drones := t.drones, engines := t.engines, sessions := t.sessions, modeCtl := t.modeCtl }
        ∧ (∀ adr, adr ∉ (R.IRQ_D_STAT x.unit :: R.IRQ_D_RESTARTS x.unit :: R.SYS_HOLD_CAUSES :: modeRegs : List Nat) → t.rd adr = u.rd adr)
        ∧ (∀ key, key ∉ ([132 + x.unit] : List Nat) → t.engine key = u.engine key)
        ∧ (∀ key, key ∉ ([x.unit] : List Nat) → t.drone key = u.drone key)) ∧
  (∀ (x : Slice) (r c : Nat) (m : BitVec 64) (t s u : State),
      (r < 4 ∧ c < 16) →
      (x.kind = 2 ∧ x.unit < 4 ∧ x.direct = false) →
      (r = 1 ∧ ([0, 1, 2, 3].all fun q => !s.retired q) = true) →
      ((s.sealRecord x r c m).endSlice.irq.map fun e => e.1).Nodup →
      u = (s.sealRecord x r c m).endSlice →
      t = s.sealSlice x r c m →
      t.engine (132 + x.unit) = { s.engine (132 + x.unit) with on := false, wait := .none }
        ∧ t.drone x.unit = { s.drone x.unit with stack := [], refire := [], restart := none }
        ∧ t.rd (R.IRQ_D_STAT x.unit) = setBitsOf (setBitsOf (setBitsOf (s.rd (R.IRQ_D_STAT x.unit)) 31 31 1) 27 24 15) 7 0 (min 255 (s.get (F.IRQ_D_STAT_ABANDONED x.unit) + (u.irq.filter fun e => decide (e.1 % 4 = x.unit) && e.2.act).length + (u.irq.filter fun e => decide (e.1 % 4 = x.unit) && e.2.pend && [904, 905, 906].contains (e.1 / 4)).length))
        ∧ (∀ n : Nat, n < 1024 → n ∉ ([388 + x.unit, 824, 910, 873] : List Nat) → ∀ q : Nat, q < 4 → t.slot n q = if q = x.unit then { u.slot n q with pend := (u.slot n q).pend && decide (388 ≤ n) && decide (n ≤ 391), act := false } else if q = s.successor x.unit ∧ (!(decide (388 ≤ n) && decide (n ≤ 391)) && n != 904 && n != 905 && n != 906) = true ∧ (u.slot n x.unit).pend = true ∧ (u.slot n q).pend = false then { u.slot n q with pend := true, fast := (u.slot n x.unit).fast } else u.slot n q)
        ∧ (t.isPending 910 = true ∧ t.isPending 873 = true ∧ ∀ q : Nat, q < 4 → q ≠ x.unit → (t.slot (388 + x.unit) q).pend = true)
        ∧ t.rd R.SYS_SPARED = s.rd R.SYS_SPARED ||| 0x10#32
        ∧ (if s.mode = M.run ∧ s.leaving = false then u.modeMoves t (some (M.runSpared, 0x22)) = true else t.rd R.SYS_MODE = s.rd R.SYS_MODE ∧ t.sessions = s.sessions)
        ∧ t = { u with regs := t.regs, irq := t.irq, drones := t.drones, engines := t.engines, sessions := t.sessions }
        ∧ (∀ adr, adr ∉ (R.IRQ_D_STAT x.unit :: R.SYS_SPARED :: R.SYS_MODE :: coalesced : List Nat) → t.rd adr = u.rd adr)
        ∧ (∀ key, key ∉ ([132 + x.unit] : List Nat) → t.engine key = u.engine key)
        ∧ (∀ key, key ∉ ([x.unit] : List Nat) → t.drone key = u.drone key)) ∧
  (∀ (g : Nat) (t s : State),
      g < 4 →
      t = s.cutForClaim g →
      (match s.bist.slice with | some x => (if x.kind = 1 ∧ ((x.unit < 128 ∧ x.unit / 32 = g ∧ x.direct = false) ∨ x.unit = 128 + g) then s.sliceSealed t x 2 2 none && s.sliceShown t 0 && decide (t.bist.slice = none ∧ t.free = s.free + 1) else decide (t = s)) | none => decide (t = s)) = true
        ∧ t = { s with regs := t.regs, irq := t.irq, free := t.free, bist := t.bist }
        ∧ (∀ adr, adr ∉ (sealRegs : List Nat) → t.rd adr = s.rd adr)
        ∧ (∀ num dr, num ∉ ([874] : List Nat) → t.slot num dr = s.slot num dr)) ∧
  (∀ (ini : Initiator) (n : Fin 132) (s u : State),
      s.sends ini true (R.CHT_C_CTL n.val) = true →
      (n.val < 128 ∧ s.domOn ((addrDomain (R.CHT_C_CTL n.val)).getD 0) = true ∧ s.get (F.CHT_GRP_SPARE_STATE (n.val / 32)) = 0 ∧ s.claimWaits (n.val / 32) = false) →
      u = s.cutForClaim (n.val / 32) →
      ∃ t, exec (.chanterRetire ini n) s = .next t
        ∧ (match exec (.chanterRetire ini n) u with | .next v => decide (t = v) | _ => false) = true) ∧
  (∀ (w r : Nat) (x : Slice) (s : State),
      s.bist.slice = some x →
      (x.kind = 6 ∧ x.unit < 256 ∧ x.result = some r) →
      ¬ (s.bit F.CFG_PR_CTL_START = true ∧ ¬ (1 ≤ s.get F.CFG_PR_STAT_STATE ∧ s.get F.CFG_PR_STAT_STATE ≤ 4)) →
      ∃ t, exec (.sliceRestoreDone w) s = .next t
        ∧ (∀ i : Nat, i < 256 → t.cellCfg (256 * x.unit + i) = 0)
        ∧ (∀ i : Nat, i < 16 → t.frameRec (16 * x.unit + i) = { s.frameRec (16 * x.unit + i) with state := 0 })
        ∧ s.sliceShown t 0 = true
        ∧ t.bist = { s.bist with slice := none }
        ∧ t.fab = { s.fab with cfg := t.fab.cfg, cells := t.fab.cells }
        ∧ t.cfg = { s.cfg with recs := t.cfg.recs }
        ∧ (∀ key, key / 256 ∉ ([x.unit] : List Nat) → t.cellCfg key = s.cellCfg key ∧ t.cell key = s.cell key)
        ∧ (∀ key, key / 16 ∉ ([x.unit] : List Nat) → t.frameRec key = s.frameRec key)
        ∧ t = { s with now := max s.now w, regs := t.regs, bist := t.bist, fab := t.fab, cfg := t.cfg }
        ∧ (∀ adr, adr ∉ ([R.BIST_STAT] : List Nat) → t.rd adr = s.rd adr)) ∧
  (∀ (w r : Nat) (x : Slice) (s : State),
      s.bist.slice = some x →
      (x.kind = 6 ∧ x.unit < 256 ∧ x.result = some r) →
      (s.bit F.CFG_PR_CTL_START = true ∧ ¬ (1 ≤ s.get F.CFG_PR_STAT_STATE ∧ s.get F.CFG_PR_STAT_STATE ≤ 4)) →
      ∃ t, exec (.sliceRestoreDone w) s = .next t
        ∧ (∀ i : Nat, i < 256 → t.cellCfg (256 * x.unit + i) = 0)
        ∧ (∀ i : Nat, i < 16 → t.frameRec (16 * x.unit + i) = { s.frameRec (16 * x.unit + i) with state := 0 })
        ∧ s.sliceShown t 0 = true
        ∧ t.bist = { s.bist with slice := none }
        ∧ t.fab = { s.fab with cfg := t.fab.cfg, cells := t.fab.cells }
        ∧ t.cfg = { s.cfg with recs := t.cfg.recs }
        ∧ (∀ key, key / 256 ∉ ([x.unit] : List Nat) → t.cellCfg key = s.cellCfg key ∧ t.cell key = s.cell key)
        ∧ (∀ key, key / 16 ∉ ([x.unit] : List Nat) → t.frameRec key = s.frameRec key)
        ∧ t.rd R.CFG_PR_STAT = (s.set F.CFG_PR_STAT_STATE 1).rd R.CFG_PR_STAT
        ∧ (if s.cfg.pr.flash = true then t.flash = (s.at_ w).flashTouch.flash ∧ t.rd R.FLASH_STAT = (s.at_ w).flashTouch.rd R.FLASH_STAT else t.flash = s.flash ∧ t.rd R.FLASH_STAT = s.rd R.FLASH_STAT)
        ∧ t = { s with now := max s.now w, regs := t.regs, bist := t.bist, fab := t.fab, cfg := t.cfg, flash := t.flash }
        ∧ (∀ adr, adr ∉ ([R.BIST_STAT, R.CFG_PR_STAT, R.FLASH_STAT] : List Nat) → t.rd adr = s.rd adr)) ∧
  (∀ (w r : Nat) (x : Slice) (s u : State),
      s.bist.slice = some x →
      x.result = some r →
      (3 ≤ x.kind ∧ x.kind ≤ 5) →
      r ≠ 1 →
      u = ({ s with now := max s.now w } : State).endSlice →
      ∃ t, exec (.sliceRestoreDone w) s = .next t
        ∧ t = (let y := s.pwrDom (unitDomain x.kind x.unit); if y.wakeNext = true then (u.setPwrDom (unitDomain x.kind x.unit) { y with wakeNext := false }).wakeDomain (unitDomain x.kind x.unit) else match y.held with | some q => (u.setPwrDom (unitDomain x.kind x.unit) { y with held := none }).domRequest (unitDomain x.kind x.unit) q | none => u)) ∧
  (∀ (t s : State),
      s.bist.slice.isSome = true →
      t = s.endSlice →
      s.sliceShown t 0 = true
        ∧ t = { s with regs := t.regs, bist := { s.bist with slice := none } }
        ∧ (∀ adr, adr ∉ ([R.BIST_STAT] : List Nat) → t.rd adr = s.rd adr)) ∧
  (∀ (w r : Nat) (x : Slice) (s u : State),
      s.bist.slice = some x →
      x.result = some r →
      (3 ≤ x.kind ∧ x.kind ≤ 5) →
      r = 1 →
      (s.modeCtl.toQuarantine = true ∨ ¬ s.mode ∈ ([M.init, M.armed, M.run, M.runSpared, M.hold, M.service] : List Nat) ∨ s.modeCtl.restart = true ∧ s.modeCtl.restartAt / 2 = (max s.now w) / 2) →
      u = ({ s with now := max s.now w } : State).endSlice →
      ∃ t, exec (.sliceRestoreDone w) s = .next t
        ∧ t = u.settle (unitDomain x.kind x.unit)) ∧
  (∀ (w r : Nat) (x : Slice) (s u : State),
      s.bist.slice = some x →
      x.result = some r →
      (3 ≤ x.kind ∧ x.kind ≤ 5) →
      r = 1 →
      ¬ (s.modeCtl.toQuarantine = true ∨ ¬ s.mode ∈ ([M.init, M.armed, M.run, M.runSpared, M.hold, M.service] : List Nat) ∨ s.modeCtl.restart = true ∧ s.modeCtl.restartAt / 2 = (max s.now w) / 2) →
      s.sendingLanes ≠ [] →
      ((s.pwrDom (unitDomain x.kind x.unit)).wakeNext = false ∧ (s.pwrDom (unitDomain x.kind x.unit)).held = none) →
      u = ({ s with now := max s.now w } : State).endSlice →
      ∃ t, exec (.sliceRestoreDone w) s = .next t
        ∧ t.modeCtl = { s.modeCtl with toQuarantine := true, restart := false, cause := 0x60, arm := none, burst := some (currentFrame (max s.now w) + 17) }
        ∧ (if s.modeCtl.arm = none then t.rd R.SYS_MODE_STAT = s.rd R.SYS_MODE_STAT else t.bit F.SYS_MODE_STAT_REFUSED = true ∧ t.get F.SYS_MODE_STAT_LAST_REQ = 6)
        ∧ t = { u with regs := t.regs, modeCtl := t.modeCtl }
        ∧ (∀ adr, adr ∉ ([R.SYS_MODE_STAT] : List Nat) → t.rd adr = u.rd adr)) ∧
  (∀ (w r : Nat) (x : Slice) (s u : State),
      s.bist.slice = some x →
      x.result = some r →
      (3 ≤ x.kind ∧ x.kind ≤ 5) →
      r = 1 →
      ¬ (s.modeCtl.toQuarantine = true ∨ ¬ s.mode ∈ ([M.init, M.armed, M.run, M.runSpared, M.hold, M.service] : List Nat) ∨ s.modeCtl.restart = true ∧ s.modeCtl.restartAt / 2 = (max s.now w) / 2) →
      s.sendingLanes = [] →
      ((s.pwrDom (unitDomain x.kind x.unit)).wakeNext = false ∧ (s.pwrDom (unitDomain x.kind x.unit)).held = none) →
      u = ({ s with now := max s.now w } : State).endSlice →
      ∃ t, exec (.sliceRestoreDone w) s = .next t
        ∧ (t.mode = M.quarantine ∧ t.get F.SYS_MODE_PREV = s.mode ∧ t.get F.SYS_MODE_CAUSE = 0x60 ∧ t.isPending 824 = true)
        ∧ (t.sendingLanes = [] ∧ t.engines = [] ∧ t.bist.slice = none ∧ (List.range 256).all (fun n => !t.bit (F.IVW_S_STATE_OPEN n)) = true)
        ∧ (t.modeCtl.burst = none ∧ t.modeCtl.toQuarantine = false ∧ t.modeCtl.restart = false ∧ t.modeCtl.arm = none)
        ∧ (t.mem = s.mem ∧ t.pending = s.pending ∧ t.supply = s.supply ∧ t.get F.BIST_LAST_RESULT = s.get F.BIST_LAST_RESULT ∧ t.get F.BIST_LAST_UNIT = s.get F.BIST_LAST_UNIT ∧ t.rd R.SEC_SVC_STAT = 0)) ∧
  (∀ (w : Nat) (s : State),
      (∀ x ∈ (s.bist.slice.toList : List Slice), x.result = none) →
      ∃ t, exec (.sliceRestoreDone w) s = .next t
        ∧ t = { s with now := max s.now w }) ∧
  (∀ (ini : Initiator) (s : State),
      s.sends ini true R.BIST_CTL = true →
      ((s.lifecycle = 0 ∨ s.lifecycle = 1) ∧ s.mode ∈ ([M.init, M.armed, M.run, M.runSpared, M.hold, M.service] : List Nat) ∨ s.lifecycle = 2 ∧ s.mode = M.service) →
      (s.get F.BIST_MAN_KIND = 1 ∧ s.get F.BIST_MAN_UNIT < 132 ∨ s.get F.BIST_MAN_KIND = 2 ∧ s.get F.BIST_MAN_UNIT < 4 ∨ s.get F.BIST_MAN_KIND = 3 ∧ s.get F.BIST_MAN_UNIT < 8192 ∨ s.get F.BIST_MAN_KIND = 4 ∧ s.get F.BIST_MAN_UNIT < 192 ∨ s.get F.BIST_MAN_KIND = 5 ∧ s.get F.BIST_MAN_UNIT < 1024 ∨ s.get F.BIST_MAN_KIND = 6 ∧ s.get F.BIST_MAN_UNIT < 256) →
      ∃ t, exec (.manualSlice ini) s = .next t
        ∧ t.respCode ini = 0
        ∧ t.rd R.BIST_CTL = setBitsOf (s.rd R.BIST_CTL) 30 30 1
        ∧ t = { s with regs := t.regs, bist := { s.bist with manual := some (s.get F.BIST_MAN_KIND, s.get F.BIST_MAN_UNIT) }, spine := t.spine, sec := { s.sec with tapOut := t.sec.tapOut } }
        ∧ (∀ adr, adr ∉ ([R.BIST_CTL] : List Nat) → t.rd adr = s.rd adr)) ∧
  (∀ (ini : Initiator) (s : State),
      s.sends ini true R.BIST_CTL = true →
      ¬ (((s.lifecycle = 0 ∨ s.lifecycle = 1) ∧ s.mode ∈ ([M.init, M.armed, M.run, M.runSpared, M.hold, M.service] : List Nat) ∨ s.lifecycle = 2 ∧ s.mode = M.service) ∧ (s.get F.BIST_MAN_KIND = 1 ∧ s.get F.BIST_MAN_UNIT < 132 ∨ s.get F.BIST_MAN_KIND = 2 ∧ s.get F.BIST_MAN_UNIT < 4 ∨ s.get F.BIST_MAN_KIND = 3 ∧ s.get F.BIST_MAN_UNIT < 8192 ∨ s.get F.BIST_MAN_KIND = 4 ∧ s.get F.BIST_MAN_UNIT < 192 ∨ s.get F.BIST_MAN_KIND = 5 ∧ s.get F.BIST_MAN_UNIT < 1024 ∨ s.get F.BIST_MAN_KIND = 6 ∧ s.get F.BIST_MAN_UNIT < 256)) →
      ∃ t, exec (.manualSlice ini) s = .next t
        ∧ t.respCode ini = 2
        ∧ t.rd R.BIST_STAT = setBitsOf (s.rd R.BIST_STAT) 29 29 1
        ∧ t = { s with regs := t.regs, irq := t.irq, berrAt := t.berrAt, engines := t.engines, spine := t.spine, sec := { s.sec with tapOut := t.sec.tapOut } }
        ∧ (∀ adr, adr ∉ (R.BIST_STAT :: berrRegs : List Nat) → t.rd adr = s.rd adr)
        ∧ (∀ key, key ∉ (iniEngines ini : List Nat) → t.engine key = s.engine key)
        ∧ (∀ num dr, num ∉ ([904, 905] : List Nat) → t.slot num dr = s.slot num dr)) ∧
  (∀ (ini : Initiator) (v : BitVec 64) (s : State),
      s.sends ini true R.BIST_CTL = true →
      v.getLsbD 30 = false →
      ¬ (2 ≤ s.lifecycle ∧ s.bit F.BIST_CTL_EN = true ∧ v.getLsbD 31 = false) →
      ∃ t, exec (.registerWrite ini R.BIST_CTL 4 v) s = .next t
        ∧ t.respCode ini = 0
        ∧ t.rd R.BIST_CTL = setBitsOf (s.rd R.BIST_CTL) 31 31 (if v.getLsbD 31 = true then 1 else 0)
        ∧ t = { s with regs := t.regs, spine := t.spine, sec := { s.sec with tapOut := t.sec.tapOut } }
        ∧ (∀ adr, adr ∉ ([R.BIST_CTL] : List Nat) → t.rd adr = s.rd adr)) ∧
  (∀ (ini : Initiator) (v : BitVec 64) (s : State),
      s.sends ini true R.BIST_CTL = true →
      v.getLsbD 30 = false →
      (2 ≤ s.lifecycle ∧ s.bit F.BIST_CTL_EN = true ∧ v.getLsbD 31 = false) →
      ∃ t, exec (.registerWrite ini R.BIST_CTL 4 v) s = .next t
        ∧ t.respCode ini = 2
        ∧ t = { s with regs := t.regs, irq := t.irq, berrAt := t.berrAt, engines := t.engines, spine := t.spine, sec := { s.sec with tapOut := t.sec.tapOut } }
        ∧ (∀ adr, adr ∉ (berrRegs : List Nat) → t.rd adr = s.rd adr)
        ∧ (∀ key, key ∉ (iniEngines ini : List Nat) → t.engine key = s.engine key)
        ∧ (∀ num dr, num ∉ ([904, 905] : List Nat) → t.slot num dr = s.slot num dr)) ∧
  (∀ (ini : Initiator) (e : Fin 256) (v : BitVec 64) (s : State),
      s.sends ini true (R.BIST_PLAN e.val) = true →
      s.lifecycle < 2 →
      (bitsOf (v.truncate 32) 31 28 = 0 ∨ 1 ≤ bitsOf (v.truncate 32) 27 16 ∧ (bitsOf (v.truncate 32) 31 28 = 1 ∧ bitsOf (v.truncate 32) 15 0 + bitsOf (v.truncate 32) 27 16 - 1 < 132 ∨ bitsOf (v.truncate 32) 31 28 = 2 ∧ bitsOf (v.truncate 32) 15 0 + bitsOf (v.truncate 32) 27 16 - 1 < 4 ∨ bitsOf (v.truncate 32) 31 28 = 3 ∧ bitsOf (v.truncate 32) 15 0 + bitsOf (v.truncate 32) 27 16 - 1 < 8192 ∨ bitsOf (v.truncate 32) 31 28 = 4 ∧ bitsOf (v.truncate 32) 15 0 + bitsOf (v.truncate 32) 27 16 - 1 < 192 ∨ bitsOf (v.truncate 32) 31 28 = 5 ∧ bitsOf (v.truncate 32) 15 0 + bitsOf (v.truncate 32) 27 16 - 1 < 1024 ∨ bitsOf (v.truncate 32) 31 28 = 6 ∧ bitsOf (v.truncate 32) 15 0 + bitsOf (v.truncate 32) 27 16 - 1 < 256)) →
      ∃ t, exec (.registerWrite ini (R.BIST_PLAN e.val) 4 v) s = .next t
        ∧ t.respCode ini = 0
        ∧ t.rd (R.BIST_PLAN e.val) = v.truncate 32
        ∧ t = { s with regs := t.regs, spine := t.spine, sec := { s.sec with tapOut := t.sec.tapOut } }
        ∧ (∀ adr, adr ∉ ([(R.BIST_PLAN e.val)] : List Nat) → t.rd adr = s.rd adr)) ∧
  (∀ (ini : Initiator) (e : Fin 256) (v : BitVec 64) (s : State),
      s.sends ini true (R.BIST_PLAN e.val) = true →
      ¬ (s.lifecycle < 2 ∧ (bitsOf (v.truncate 32) 31 28 = 0 ∨ 1 ≤ bitsOf (v.truncate 32) 27 16 ∧ (bitsOf (v.truncate 32) 31 28 = 1 ∧ bitsOf (v.truncate 32) 15 0 + bitsOf (v.truncate 32) 27 16 - 1 < 132 ∨ bitsOf (v.truncate 32) 31 28 = 2 ∧ bitsOf (v.truncate 32) 15 0 + bitsOf (v.truncate 32) 27 16 - 1 < 4 ∨ bitsOf (v.truncate 32) 31 28 = 3 ∧ bitsOf (v.truncate 32) 15 0 + bitsOf (v.truncate 32) 27 16 - 1 < 8192 ∨ bitsOf (v.truncate 32) 31 28 = 4 ∧ bitsOf (v.truncate 32) 15 0 + bitsOf (v.truncate 32) 27 16 - 1 < 192 ∨ bitsOf (v.truncate 32) 31 28 = 5 ∧ bitsOf (v.truncate 32) 15 0 + bitsOf (v.truncate 32) 27 16 - 1 < 1024 ∨ bitsOf (v.truncate 32) 31 28 = 6 ∧ bitsOf (v.truncate 32) 15 0 + bitsOf (v.truncate 32) 27 16 - 1 < 256))) →
      ∃ t, exec (.registerWrite ini (R.BIST_PLAN e.val) 4 v) s = .next t
        ∧ t.respCode ini = 2
        ∧ t = { s with regs := t.regs, irq := t.irq, berrAt := t.berrAt, engines := t.engines, spine := t.spine, sec := { s.sec with tapOut := t.sec.tapOut } }
        ∧ (∀ adr, adr ∉ (berrRegs : List Nat) → t.rd adr = s.rd adr)
        ∧ (∀ key, key ∉ (iniEngines ini : List Nat) → t.engine key = s.engine key)
        ∧ (∀ num dr, num ∉ ([904, 905] : List Nat) → t.slot num dr = s.slot num dr)) ∧
  (∀ (ini : Initiator) (a : Nat) (v : BitVec 64) (s : State),
      a ∈ (R.BIST_CFG :: ((List.range 6).map R.BIST_REF_HI ++ (List.range 6).map R.BIST_REF_LO) : List Nat) →
      s.sends ini true a = true →
      2 ≤ s.lifecycle →
      ∃ t, exec (.registerWrite ini a 4 v) s = .next t
        ∧ t.respCode ini = 2
        ∧ t = { s with regs := t.regs, irq := t.irq, berrAt := t.berrAt, engines := t.engines, spine := t.spine, sec := { s.sec with tapOut := t.sec.tapOut } }
        ∧ (∀ adr, adr ∉ (berrRegs : List Nat) → t.rd adr = s.rd adr)
        ∧ (∀ key, key ∉ (iniEngines ini : List Nat) → t.engine key = s.engine key)
        ∧ (∀ num dr, num ∉ ([904, 905] : List Nat) → t.slot num dr = s.slot num dr)) ∧
  (∀ (ini : Initiator) (a : Nat) (v : BitVec 64) (s : State),
      a ∈ (R.BIST_CFG :: ((List.range 6).map R.BIST_REF_HI ++ (List.range 6).map R.BIST_REF_LO) : List Nat) →
      s.sends ini true a = true →
      s.lifecycle < 2 →
      ¬ (a = R.BIST_CFG ∧ ¬ (1 ≤ bitsOf (v.truncate 32) 31 16 ∧ 10 ≤ bitsOf (v.truncate 32) 9 0 ∧ bitsOf (v.truncate 32) 9 0 ≤ 1000)) →
      ∃ t, exec (.registerWrite ini a 4 v) s = .next t
        ∧ t.respCode ini = 0
        ∧ t.rd a = (if a = R.BIST_CFG then setBitsOf (setBitsOf (s.rd a) 31 16 (bitsOf (v.truncate 32) 31 16)) 9 0 (bitsOf (v.truncate 32) 9 0) else v.truncate 32)
        ∧ t = { s with regs := t.regs, spine := t.spine, sec := { s.sec with tapOut := t.sec.tapOut } }
        ∧ (∀ adr, adr ∉ ([a] : List Nat) → t.rd adr = s.rd adr)) ∧
  (∀ (ini : Initiator) (v : BitVec 32) (s : State),
      s.sends ini true R.BIST_TRACT_USE = true →
      v.getLsbD 31 = true →
      ∃ t, exec (.tractUseWrite ini v) s = .next t
        ∧ t.respCode ini = 0
        ∧ t.rd R.BIST_TRACT_USE = setBitsOf (setBitsOf (s.rd R.BIST_TRACT_USE) 31 31 (bitsOf v 31 31)) 7 0 (bitsOf v 7 0)
        ∧ t.rd R.SYS_SPARED = s.rd R.SYS_SPARED ||| 0x100#32
        ∧ s.modeMoves t (if s.bitAt R.SYS_SPARED 8 = false ∧ s.mode = M.run ∧ s.leaving = false then some (M.runSpared, 0x22) else none) = true
        ∧ t = { s with regs := t.regs, irq := t.irq, sessions := t.sessions, modeCtl := t.modeCtl, spine := t.spine, sec := { s.sec with tapOut := t.sec.tapOut } }
        ∧ (∀ adr, adr ∉ (R.BIST_TRACT_USE :: R.SYS_SPARED :: modeRegs : List Nat) → t.rd adr = s.rd adr)
        ∧ (∀ num dr, num ∉ ([824] : List Nat) → t.slot num dr = s.slot num dr)) ∧
  (∀ (ini : Initiator) (v : BitVec 32) (s : State),
      s.sends ini true R.BIST_TRACT_USE = true →
      (v.getLsbD 31 = false ∧ s.bit F.BIST_TRACT_USE_VALID = true) →
      ∃ t, exec (.tractUseWrite ini v) s = .next t
        ∧ t.respCode ini = 0
        ∧ t.rd R.BIST_TRACT_USE = setBitsOf (setBitsOf (s.rd R.BIST_TRACT_USE) 31 31 (bitsOf v 31 31)) 7 0 (bitsOf v 7 0)
        ∧ t.rd R.SYS_SPARED = s.rd R.SYS_SPARED &&& 0xFFFFFEFF#32
        ∧ s.modeMoves t (if s.mode = M.runSpared ∧ s.rd R.SYS_SPARED = 0x100#32 ∧ s.leaving = false then some (M.run, 0x23) else none) = true
        ∧ t = { s with regs := t.regs, irq := t.irq, sessions := t.sessions, modeCtl := t.modeCtl, spine := t.spine, sec := { s.sec with tapOut := t.sec.tapOut } }
        ∧ (∀ adr, adr ∉ (R.BIST_TRACT_USE :: R.SYS_SPARED :: modeRegs : List Nat) → t.rd adr = s.rd adr)
        ∧ (∀ num dr, num ∉ ([824] : List Nat) → t.slot num dr = s.slot num dr)) ∧
  (∀ (ini : Initiator) (v : BitVec 32) (s : State),
      s.sends ini true R.BIST_TRACT_USE = true →
      (v.getLsbD 31 = false ∧ s.bit F.BIST_TRACT_USE_VALID = false) →
      ∃ t, exec (.tractUseWrite ini v) s = .next t
        ∧ t.respCode ini = 0
        ∧ t.rd R.BIST_TRACT_USE = setBitsOf (setBitsOf (s.rd R.BIST_TRACT_USE) 31 31 (bitsOf v 31 31)) 7 0 (bitsOf v 7 0)
        ∧ t.rd R.SYS_SPARED = s.rd R.SYS_SPARED
        ∧ s.modeMoves t (none) = true
        ∧ t = { s with regs := t.regs, irq := t.irq, sessions := t.sessions, modeCtl := t.modeCtl, spine := t.spine, sec := { s.sec with tapOut := t.sec.tapOut } }
        ∧ (∀ adr, adr ∉ (R.BIST_TRACT_USE :: R.SYS_SPARED :: modeRegs : List Nat) → t.rd adr = s.rd adr)
        ∧ (∀ num dr, num ∉ ([824] : List Nat) → t.slot num dr = s.slot num dr))

/-- The TAP, its channels and the unlock, the holder of SERVICE, and how SERVICE ends (parts of R13, R18, R21, R23, R24, R29, R31, R176, R268, R474, R478, R484, R493, R528, R532, R533, R536, R538, R539, R540, R541, R542). The lifecycle: 0 VENDOR, 1 OPEN, 2 LOCKED, 3 SCRAPPED. The holder: 0 none, 1 an Ivwyn session, 2 the TAP. In clauses on a write the initiator sends and SEC is ON. The list of the raises names each once. The numbers of STATUS and what the boundary cells capture are the model's (log entry 127). What a clause does not name stays. (1) The drones of a mask that the holder halted restart: each enters at 0x0004 with ENTRY SERVICE and registers of 0, no longer halted; REASON tells it, RESTARTS counts, its active raises are lost, counted in ABANDONED; it keeps the exception and the bus error, its inserts and posted stores, and its watchdog counts from now. 388 + d is raised on the other drones that are not retired. (2) The holder's writes of SVC_CTL in SERVICE: SVC_HALT adds the drones of a mask to HALT; SVC_RESTART takes them out and restarts them; a plain write sets HALT and restarts the drones of its RESTART bits. The restarts come first. Then every drone of HALT that is not halted and not retired halts: it executes no more and no longer waits in WAITI; an access in progress completes. (3) From any other initiator, or outside SERVICE: PARAM. (4) SERVICE ends: SVC_STAT and SVC_CTL are 0 and every halted drone restarts, as above. In another mode, or while a restart or the way to QUARANTINE is in progress, the mode stays. (5) Otherwise, entered from HOLD, it is left for HOLD with CAUSE 0x41. (6) Entered from ARMED, for ARMED with CAUSE 0x41; a HOLD cause that is present then takes it to HOLD, and CAUSE names the lowest. (7) TAP_SERVICE_IDLE, the TAP the holder and 5 s passed since its last CH_SPINE access: SERVICE ends. Otherwise nothing. (8) CH_RELOCK by the TAP that holds SERVICE: SERVICE ends. Otherwise BYPASS. (9) TAP_IDCODE: IDCODE is shifted out. (10) TAP_BYPASS: a 0, then the bit. (11) TAP_SAMPLE_PRELOAD: the boundary register takes the data, and as many bits are captured, whose values are open. (12) TAP_EXTEST in SERVICE and QUARANTINE: the same, and the pins are driven from the boundary register. (13) In another mode: BYPASS. (14) CH_STATUS: SYS.MODE, SEC.STAT and the STATUS of the last unlock. (15) CH_CHALLENGE: a fresh challenge of 32 open bytes, the latest from now, then SERIAL and IDCODE. (16) In SCRAPPED: BYPASS. (17) CH_SCAN in VENDOR: the production scan. Otherwise BYPASS. (18) CH_UNLOCK in SCRAPPED: BYPASS. (19) Otherwise the challenge is spent. While a session holds SERVICE: STATUS BUSY. (20) Else outside ARMED and HOLD: STATUS MODE. (21) Else an unlock that does not pass: STATUS failed, UNLOCK_FAIL counts, source 893. (22) One that passes: STATUS passed, and SERVICE follows. (Stated with both outcomes, since whether a signature verifies is open.) (23) An unlock passes when its CERT_LEN is 1 to 1,024, its ROOT_KEY is that of a slot read as ACTIVE at start, in OPEN or LOCKED, whose ROLE is S, the certificate is signed by it and has a key, a challenge is current, and the signature over challenge, SERIAL and IDCODE verifies. (24) UNLOCKED after a pass, with no session holding SERVICE, in ARMED or HOLD: source 889, and SERVICE is entered with CAUSE 0x40, the TAP its holder; the mode left is kept. Not while a restart or the way to QUARANTINE is in progress, nor in the SPINE cycle in which HOLD was entered. (25) Otherwise STATUS becomes BUSY where a session holds SERVICE, else MODE. With no pass nothing happens. (26) CH_SPINE in VENDOR, in OPEN from INIT on, and in LOCKED while the TAP holds SERVICE: CMD 1 reads and CMD 2 writes the 32-bit word at ADDR as the TAP; another CMD makes no access. The moment is kept. (27) What the TAP shifts out next: the code of the access and the read data: a read of IDCODE, and a write of an output register. (28) Outside that: BYPASS. Readings and choices of the model that it rests on: log entries 3, 26, 127, 128, 132, 141. -/
def Obligations.TheServiceHolder : Prop :=
  (∀ (r : Fin 16) (t s : State),
      (s.irq.map fun e => e.1).Nodup →
      t = ([0, 1, 2, 3].filter fun d => (r.val : Nat).testBit d).foldl State.svcStart s →
      (∀ q : Nat, q < 4 → t.engine (132 + q) = if (r.val.testBit q = true ∧ (s.drone q).halted = true) then { ({} : Engine) with on := true, pc := 4, entry := 6, exc := (s.engine (132 + q)).exc, berr := (s.engine (132 + q)).berr, berrAddr := (s.engine (132 + q)).berrAddr, inserts := (s.engine (132 + q)).inserts, answers := (s.engine (132 + q)).answers, posted := (s.engine (132 + q)).posted } else s.engine (132 + q))
        ∧ (∀ q : Nat, q < 4 → t.drone q = if (r.val.testBit q = true ∧ (s.drone q).halted = true) then { s.drone q with halted := false, stack := [], refire := [], restart := none, wdRef := s.now } else s.drone q)
        ∧ (∀ q : Nat, q < 4 → t.rd (R.IRQ_D_STAT q) = if (r.val.testBit q = true ∧ (s.drone q).halted = true) then setBitsOf (setBitsOf (s.rd (R.IRQ_D_STAT q)) 27 24 6) 7 0 (min 255 (s.get (F.IRQ_D_STAT_ABANDONED q) + (s.irq.filter fun e => decide (e.1 % 4 = q) && e.2.act).length)) else s.rd (R.IRQ_D_STAT q))
        ∧ (∀ q : Nat, q < 4 → t.rdN (R.IRQ_D_RESTARTS q) = if (r.val.testBit q = true ∧ (s.drone q).halted = true) then (s.rdN (R.IRQ_D_RESTARTS q) + 1) % 2 ^ 32 else s.rdN (R.IRQ_D_RESTARTS q))
        ∧ (∀ n : Nat, n < 1024 → ∀ q : Nat, q < 4 → (if 388 ≤ n ∧ n ≤ 391 ∧ n ≠ 388 + q ∧ s.retired q = false ∧ r.val.testBit (n - 388) = true ∧ (s.drone (n - 388)).halted = true then decide ((t.slot n q).pend = true ∧ (t.slot n q).act = ((s.slot n q).act && !decide (r.val.testBit q = true ∧ (s.drone q).halted = true))) else decide (t.slot n q = { s.slot n q with act := (s.slot n q).act && !decide (r.val.testBit q = true ∧ (s.drone q).halted = true) })) = true)
        ∧ t = { s with regs := t.regs, irq := t.irq, engines := t.engines, drones := t.drones }
        ∧ (∀ adr, adr ∉ ((List.range 4).flatMap fun q => [R.IRQ_D_STAT q, R.IRQ_D_RESTARTS q, R.IRQ_D_COALESCED q] : List Nat) → t.rd adr = s.rd adr)
        ∧ (∀ key, key ∉ ([132, 133, 134, 135] : List Nat) → t.engine key = s.engine key)
        ∧ (∀ key, key ∉ ([0, 1, 2, 3] : List Nat) → t.drone key = s.drone key)) ∧
  (∀ (ini : Initiator) (mask : Fin 16) (v : BitVec 64) (h r : Nat) (i : Instr) (s u : State),
      (h, r, i) ∈ ([(Nat.lor (s.get F.SEC_SVC_CTL_HALT) mask.val, 0, .svcHalt ini mask), (Nat.land (s.get F.SEC_SVC_CTL_HALT) (15 - mask.val), mask.val, .svcRestart ini mask), (v.toNat % 16, v.toNat / 16 % 16, .registerWrite ini R.SEC_SVC_CTL 4 v)] : List (Nat × Nat × Instr)) →
      s.sends ini true R.SEC_SVC_CTL = true →
      s.domOn 19 = true →
      (s.mode = M.service ∧ (ini = .ivwyn ∧ s.holderOf = 1 ∨ ini = .tap ∧ s.holderOf = 2)) →
      u = ([0, 1, 2, 3].filter fun d => (r : Nat).testBit d).foldl State.svcStart (s.set F.SEC_SVC_CTL_HALT h) →
      ∃ t, exec i s = .next t
        ∧ t.respCode ini = 0
        ∧ t.get F.SEC_SVC_CTL_HALT = h
        ∧ (∀ d : Nat, d < 4 → t.engine (132 + d) = if h.testBit d = true ∧ (u.drone d).halted = false ∧ u.retired d = false then { u.engine (132 + d) with on := false, wait := if (u.engine (132 + d)).wait = .irq then .none else (u.engine (132 + d)).wait } else u.engine (132 + d))
        ∧ (∀ d : Nat, d < 4 → t.drone d = if h.testBit d = true ∧ (u.drone d).halted = false ∧ u.retired d = false then { u.drone d with halted := true } else u.drone d)
        ∧ t = { u with regs := t.regs, engines := t.engines, drones := t.drones, spine := t.spine, sec := { s.sec with tapOut := t.sec.tapOut } }
        ∧ (∀ adr, adr ∉ ([] : List Nat) → t.rd adr = u.rd adr)
        ∧ (∀ key, key ∉ ([132, 133, 134, 135] : List Nat) → t.engine key = u.engine key)
        ∧ (∀ key, key ∉ ([0, 1, 2, 3] : List Nat) → t.drone key = u.drone key)) ∧
  (∀ (ini : Initiator) (mask : Fin 16) (v : BitVec 64) (h r : Nat) (i : Instr) (s : State),
      (h, r, i) ∈ ([(Nat.lor (s.get F.SEC_SVC_CTL_HALT) mask.val, 0, .svcHalt ini mask), (Nat.land (s.get F.SEC_SVC_CTL_HALT) (15 - mask.val), mask.val, .svcRestart ini mask), (v.toNat % 16, v.toNat / 16 % 16, .registerWrite ini R.SEC_SVC_CTL 4 v)] : List (Nat × Nat × Instr)) →
      s.sends ini true R.SEC_SVC_CTL = true →
      s.domOn 19 = true →
      ¬ (s.mode = M.service ∧ (ini = .ivwyn ∧ s.holderOf = 1 ∨ ini = .tap ∧ s.holderOf = 2)) →
      ∃ t, exec i s = .next t
        ∧ t.respCode ini = 2
        ∧ t = { s with regs := t.regs, irq := t.irq, berrAt := t.berrAt, engines := t.engines, spine := t.spine, sec := { s.sec with tapOut := t.sec.tapOut } }
        ∧ (∀ adr, adr ∉ (berrRegs : List Nat) → t.rd adr = s.rd adr)
        ∧ (∀ key, key ∉ (iniEngines ini : List Nat) → t.engine key = s.engine key)
        ∧ (∀ num dr, num ∉ ([904, 905] : List Nat) → t.slot num dr = s.slot num dr)) ∧
  (∀ (t s u : State),
      s.holderOf ≠ 0 →
      (s.mode ≠ M.service ∨ s.leaving = true) →
      u = ([0, 1, 2, 3].filter fun d => (15 : Nat).testBit d).foldl State.svcStart ((s.wr R.SEC_SVC_STAT 0).wr R.SEC_SVC_CTL 0) →
      t = s.endService →
      (t = u)) ∧
  (∀ (t s u : State),
      s.holderOf ≠ 0 →
      (s.mode = M.service ∧ s.leaving = false ∧ s.modeCtl.from_ = M.hold) →
      u = ([0, 1, 2, 3].filter fun d => (15 : Nat).testBit d).foldl State.svcStart ((s.wr R.SEC_SVC_STAT 0).wr R.SEC_SVC_CTL 0) →
      t = s.endService →
      u.modeMoves { t with modeCtl := { t.modeCtl with heldAt := some t.now } } (some (M.hold, 0x41)) = true
        ∧ t.modeCtl = u.modeCtl
        ∧ t = { u with regs := t.regs, irq := t.irq, sessions := t.sessions, modeCtl := t.modeCtl }
        ∧ (∀ adr, adr ∉ (modeRegs : List Nat) → t.rd adr = u.rd adr)
        ∧ (∀ num dr, num ∉ ([824] : List Nat) → t.slot num dr = u.slot num dr)) ∧
  (∀ (t s u v : State),
      s.holderOf ≠ 0 →
      (s.mode = M.service ∧ s.leaving = false ∧ s.modeCtl.from_ = M.armed) →
      u = ([0, 1, 2, 3].filter fun d => (15 : Nat).testBit d).foldl State.svcStart ((s.wr R.SEC_SVC_STAT 0).wr R.SEC_SVC_CTL 0) →
      v = u.changeMode M.armed 0x41 →
      t = s.endService →
      u.modeMoves v (some (M.armed, 0x41)) = true
        ∧ (match (List.range 7).find? fun i => s.bitAt R.SYS_HOLD_CAUSES i with | some i => v.modeMoves t (some (M.hold, 0x30 + i)) | none => decide (t = v)) = true
        ∧ t = { u with regs := t.regs, irq := t.irq, sessions := t.sessions, modeCtl := t.modeCtl }
        ∧ (∀ adr, adr ∉ (modeRegs : List Nat) → t.rd adr = u.rd adr)
        ∧ (∀ num dr, num ∉ ([824] : List Nat) → t.slot num dr = u.slot num dr)) ∧
  (∀ (w : Nat) (s : State),
      ∃ t, exec (.tapServiceIdle w) s = .next t
        ∧ t = (if s.holderOf = 2 ∧ s.sec.lastTap + 2000000000 ≤ w then (s.at_ w).endService else { s with now := max s.now w })) ∧
  (∀ (s : State),
      ∃ t, exec (.chRelock) s = .next t
        ∧ t = (if s.holderOf = 2 then { s.endService with sec := { s.endService.sec with ir := 0x24, tapOut := [], extest := false } } else { s with sec := { s.sec with ir := 0xFF, tapOut := [0], extest := false } })) ∧
  (∀ (s : State),
      ∃ t, exec (.tapIdcode) s = .next t
        ∧ t.sec = { s.sec with ir := 2, tapOut := bytesBE 4 (s.rdN R.SYS_IDCODE), extest := false }
        ∧ t = { s with sec := t.sec }) ∧
  (∀ (b : Bool) (s : State),
      ∃ t, exec (.tapBypass b) s = .next t
        ∧ t.sec = { s.sec with ir := 0xFF, tapOut := [0, if b = true then 1 else 0], extest := false }
        ∧ t = { s with sec := t.sec }) ∧
  (∀ (data : List Bool) (s : State),
      ∃ t, exec (.tapSamplePreload data) s = .next t
        ∧ t.sec = { s.sec with ir := 1, tapOut := t.sec.tapOut, extest := false, boundary := (data.map fun b => if b = true then 1 else 0) }
        ∧ (t.sec.tapOut.length = data.length ∧ (∀ b ∈ (t.sec.tapOut : List Nat), b < 2) ∧ t.free = s.free + (data.length + 7) / 8)
        ∧ t = { s with sec := t.sec, free := t.free }) ∧
  (∀ (data : List Bool) (s : State),
      (s.mode = M.service ∨ s.mode = M.quarantine) →
      ∃ t, exec (.tapExtest data) s = .next t
        ∧ t.sec = { s.sec with ir := 0, tapOut := t.sec.tapOut, extest := true, boundary := (data.map fun b => if b = true then 1 else 0) }
        ∧ (t.sec.tapOut.length = data.length ∧ (∀ b ∈ (t.sec.tapOut : List Nat), b < 2) ∧ t.free = s.free + (data.length + 7) / 8)
        ∧ t = { s with sec := t.sec, free := t.free }) ∧
  (∀ (data : List Bool) (s : State),
      ¬ (s.mode = M.service ∨ s.mode = M.quarantine) →
      ∃ t, exec (.tapExtest data) s = .next t
        ∧ t.sec = { s.sec with ir := 0xFF, tapOut := [0], extest := false }
        ∧ t = { s with sec := t.sec }) ∧
  (∀ (s : State),
      ∃ t, exec (.chStatus) s = .next t
        ∧ t.sec = { s.sec with ir := 0x20, tapOut := bytesBE 4 (s.rdN R.SYS_MODE) ++ bytesBE 4 (s.rdN R.SEC_STAT) ++ [s.sec.unlock], extest := false }
        ∧ t = { s with sec := t.sec }) ∧
  (∀ (s : State),
      s.lifecycle ≠ 3 →
      ∃ t, exec (.chChallenge) s = .next t
        ∧ t.sec = { s.sec with ir := 0x21, extest := false, challenge := t.sec.challenge, tapOut := t.sec.challenge ++ s.serial ++ bytesBE 4 (s.rdN R.SYS_IDCODE) }
        ∧ (t.sec.challenge.length = 32 ∧ (∀ b ∈ (t.sec.challenge : List Nat), b < 256) ∧ t.free = s.free + 4)
        ∧ t = { s with sec := t.sec, free := t.free }) ∧
  (∀ (s : State),
      s.lifecycle = 3 →
      ∃ t, exec (.chChallenge) s = .next t
        ∧ t.sec = { s.sec with ir := 0xFF, tapOut := [0], extest := false }
        ∧ t = { s with sec := t.sec }) ∧
  (∀ (s : State),
      ∃ t, exec (.chScan) s = .next t
        ∧ t.sec = (if s.lifecycle = 0 then { s.sec with ir := 0x30, tapOut := [], extest := false } else { s.sec with ir := 0xFF, tapOut := [0], extest := false })
        ∧ t = { s with sec := t.sec }) ∧
  (∀ (w : Nat) (data : List (BitVec 8)) (s : State),
      s.lifecycle = 3 →
      ∃ t, exec (.chUnlock w data) s = .next t
        ∧ t = { s with now := max s.now w, sec := { s.sec with ir := 0xFF, tapOut := [0], extest := false } }) ∧
  (∀ (w : Nat) (data : List (BitVec 8)) (s : State),
      s.lifecycle ≠ 3 →
      s.holderOf = 1 →
      ∃ t, exec (.chUnlock w data) s = .next t
        ∧ t = { s with now := max s.now w, sec := { s.sec with ir := 0x22, tapOut := [], extest := false, challenge := [], unlock := 3, unlocking := false } }) ∧
  (∀ (w : Nat) (data : List (BitVec 8)) (s : State),
      s.lifecycle ≠ 3 →
      s.holderOf ≠ 1 →
      ¬ (s.mode = M.armed ∨ s.mode = M.hold) →
      ∃ t, exec (.chUnlock w data) s = .next t
        ∧ t = { s with now := max s.now w, sec := { s.sec with ir := 0x22, tapOut := [], extest := false, challenge := [], unlock := 4, unlocking := false } }) ∧
  (∀ (w : Nat) (data : List (BitVec 8)) (s : State),
      s.lifecycle ≠ 3 →
      s.holderOf ≠ 1 →
      (s.mode = M.armed ∨ s.mode = M.hold) →
      s.unlockOk (data.map BitVec.toNat) = false →
      ∃ t, exec (.chUnlock w data) s = .next t
        ∧ (t.rdN R.SEC_UNLOCK_FAIL = min 0xFFFFFFFF (s.rdN R.SEC_UNLOCK_FAIL + 1) ∧ t.isPending 893 = true)
        ∧ t = { s with now := max s.now w, sec := { s.sec with ir := 0x22, tapOut := [], extest := false, challenge := [], unlock := 2, unlocking := false }, regs := t.regs, irq := t.irq }
        ∧ (∀ adr, adr ∉ (R.SEC_UNLOCK_FAIL :: coalesced : List Nat) → t.rd adr = s.rd adr)
        ∧ (∀ num dr, num ∉ ([893] : List Nat) → t.slot num dr = s.slot num dr)) ∧
  (∀ (w : Nat) (data : List (BitVec 8)) (s : State),
      s.lifecycle ≠ 3 →
      (s.holderOf ≠ 1 ∧ (s.mode = M.armed ∨ s.mode = M.hold)) →
      ∃ t, exec (.chUnlock w data) s = .next t
        ∧ (s.unlockOk (data.map BitVec.toNat) = true → t = { s with now := max s.now w, sec := { s.sec with ir := 0x22, tapOut := [], extest := false, challenge := [], unlock := 1, unlocking := true } })) ∧
  (∀ (data cert : List Nat) (n : Nat) (s : State),
      n = fieldBE data 97 2 →
      cert = slice data 100 n →
      (s.unlockOk data = (decide (1 ≤ n ∧ n ≤ 1024 ∧ s.sec.challenge ≠ [] ∧ (s.lifecycle = 1 ∨ s.lifecycle = 2)) && (match ([0, 1, 2, 3].find? fun k => s.get ⟨R.SEC_STAT, 9 + 2 * k, 8 + 2 * k⟩ == 1 && Config.sha384 (slice data 0 97) == s.slotHash k) with | some j => decide (s.rdN R.SEC_SLOT_FLAGS / 2 ^ (8 * j + 2) % 4 = 3) | none => false) && Config.certSigned cert (slice data 0 97) && (match Config.certKey cert with | some p => Config.ecdsaVerify p (Config.sha384 (s.sec.challenge ++ s.serial ++ bytesBE 4 (s.rdN R.SYS_IDCODE))) (slice data (100 + n) 96) | none => false)))) ∧
  (∀ (w : Nat) (s : State),
      s.sec.unlocking = true →
      s.holderOf ≠ 1 →
      (s.leaving = false ∧ (s.mode = M.armed ∨ s.mode = M.hold ∧ s.modeCtl.heldAt.map (· / 2) ≠ some (max s.now w / 2))) →
      ∃ t, exec (.unlocked w) s = .next t
        ∧ (t.holderOf = 2 ∧ t.get F.SEC_SVC_STAT_SESSION = 0 ∧ t.isPending 889 = true)
        ∧ ({ s with now := max s.now w, modeCtl := { s.modeCtl with from_ := s.mode } } : State).modeMoves t (some (M.service, 0x40)) = true
        ∧ t.sec = { s.sec with unlocking := false, lastTap := max s.now w }
        ∧ t = { s with now := max s.now w, regs := t.regs, irq := t.irq, sessions := t.sessions, modeCtl := t.modeCtl, sec := t.sec }
        ∧ (∀ adr, adr ∉ (R.SEC_SVC_STAT :: modeRegs : List Nat) → t.rd adr = s.rd adr)
        ∧ (∀ num dr, num ∉ ([824, 889] : List Nat) → t.slot num dr = s.slot num dr)) ∧
  (∀ (w : Nat) (s : State),
      ¬ (s.sec.unlocking = true ∧ s.holderOf ≠ 1 ∧ (s.leaving = false ∧ (s.mode = M.armed ∨ s.mode = M.hold ∧ s.modeCtl.heldAt.map (· / 2) ≠ some (max s.now w / 2)))) →
      ∃ t, exec (.unlocked w) s = .next t
        ∧ t = { s with now := max s.now w, sec := if s.sec.unlocking = true then { s.sec with unlocking := false, unlock := if s.holderOf = 1 then 3 else 4 } else s.sec }) ∧
  (∀ (w : Nat) (cmd : Fin 16) (addr data : BitVec 32) (s u : State),
      (s.lifecycle = 0 ∨ s.lifecycle = 1 ∧ s.mode ∈ ([M.init, M.armed, M.run, M.runSpared, M.hold, M.service, M.provision] : List Nat) ∨ s.lifecycle = 2 ∧ s.mode = M.service ∧ s.holderOf = 2) →
      u = { s with now := max s.now w, sec := { s.sec with ir := 0x23, extest := false, lastTap := max s.now w } } →
      ∃ t, exec (.chSpine w cmd addr data) s = .next t
        ∧ (if cmd.val = 1 then (match exec (.rcRead .tap addr.toNat 4) u with | .next v => decide (t = v) | _ => false) else if cmd.val = 2 then (match exec (.registerWrite .tap addr.toNat 4 (data.zeroExtend 64)) u with | .next v => decide (t = v) | _ => false) else decide (t = u)) = true) ∧
  (∀ (w : Nat) (cmd : Fin 16) (addr data : BitVec 32) (s : State),
      (s.lifecycle = 0 ∨ s.lifecycle = 1 ∧ s.mode ∈ ([M.init, M.armed, M.run, M.runSpared, M.hold, M.service, M.provision] : List Nat) ∨ s.lifecycle = 2 ∧ s.mode = M.service ∧ s.holderOf = 2) →
      (cmd.val = 1 ∧ addr.toNat = R.SYS_IDCODE ∨ cmd.val = 2 ∧ addr.toNat = R.GPIO_OUT_SET 1) →
      ∃ t, exec (.chSpine w cmd addr data) s = .next t
        ∧ t.sec = { s.sec with ir := 0x23, extest := false, lastTap := max s.now w, tapOut := 0 :: if cmd.val = 1 then bytesBE 4 (s.rdN R.SYS_IDCODE) else [0, 0, 0, 0] }
        ∧ (t.respCode .tap = 0 ∧ (cmd.val = 1 → t.respData .tap = (s.rd R.SYS_IDCODE).zeroExtend 64))
        ∧ t.rd (R.GPIO_OUT 1) = (if cmd.val = 1 then s.rd (R.GPIO_OUT 1) else s.rd (R.GPIO_OUT 1) ||| (data &&& 0xFFFF#32))
        ∧ t = { s with regs := t.regs, now := max s.now w, spine := t.spine, sec := t.sec }
        ∧ (∀ adr, adr ∉ ([R.GPIO_OUT 1] : List Nat) → t.rd adr = s.rd adr)) ∧
  (∀ (w : Nat) (cmd : Fin 16) (addr data : BitVec 32) (s : State),
      ¬ (s.lifecycle = 0 ∨ s.lifecycle = 1 ∧ s.mode ∈ ([M.init, M.armed, M.run, M.runSpared, M.hold, M.service, M.provision] : List Nat) ∨ s.lifecycle = 2 ∧ s.mode = M.service ∧ s.holderOf = 2) →
      ∃ t, exec (.chSpine w cmd addr data) s = .next t
        ∧ t = { s with now := max s.now w, sec := { s.sec with ir := 0xFF, tapOut := [0], extest := false } })

/-- Provisioning records and attestation reports (parts of R5, R12, R18, R21, R23, R26, R420, R425, R480, R528, R532, R533, R534, R543, R544, R545, R546, R547, R548, R549). In clauses on a write the initiator sends and SEC is ON. "Allowed": it is a drone, or the holder of SERVICE (an Ivwyn session or the TAP). A record is b; its fields lie where R545 has them. The bytes of a challenge, the value programmed into REVOKE and the random number of a signature are open. What a clause does not name stays. (1) CHALLENGE_NEW: 32 fresh bytes, the current challenge from now. (2) PROV_GO, allowed, while none is worked: the record in PROV_BUF is checked, with FWP_N as it is then, and the challenge is spent. One that a check fails: CODE tells which, source 892; nothing else changes. (3) One that passes, in ARMED or PROVISION: it is worked, BUSY and GO read 1, and ARMED becomes PROVISION with CAUSE 0x50. (Stated with both outcomes, since whether a signature verifies is open.) (4) While one is worked: PARAM; with the moment and FWP_N of the command. (5) A write of PROV_CTL or PROV_BUF from an initiator that is not allowed: PARAM. (6) PROV_BUF takes a word from one that is. (7) A record is well formed: MAGIC, PVER, FAMILY, OP 1 to 6, ARG a slot for OP 1 and 2 and 0 otherwise, and the zero fields 0: bytes 10, 11 and 149 to 151, the bytes of PAYLOAD that the OP does not use, three within SET_FLEET's, and the upper half of ADD_ROOT's FLAGS. (8) The checks in their order, with the CODE of the first that fails: MODE 7, PROTECTED 6, BAD_RECORD 1, WRONG_UNIT 2, STALE 3, SIGNER 5, SIGNATURE 4, STATE 8, UNWRAP 0xA. A slot counts by OTP as it stands, the lifecycle as read at the start. (9) The slots: EMPTY 0 when bytes 0 to 55 are 0; else REVOKED 2 when REVOKE is not 0; else BAD 3 when the CRC fails or a word is uncorrectable; else ACTIVE 1. The fleet key: absent when its CRC fails or a word of it is uncorrectable. The key in a SET_FLEET record is opened with the device key, which KEY_BAD refuses. (10) ADD_ROOT programs HASH, FLAGS and their CRC into slot ARG. A record that is done: BUSY and GO 0, CODE 0 and source 891; a word whose program failed is uncorrectable, and CODE is OTP_FAIL. (11) REVOKE_ROOT programs REVOKE of slot ARG with some value other than 0. (12) SET_FLEET programs the key of the record and its CRC. (13) LOCK programs the eight words of group LOCKED. (14) SCRAP those of group SCRAPPED. (15) PROV_RELEASE those of group OPEN. (16) With no record being worked, or one of another OP: nothing (REVOKE_ROOT has drawn an open value). (17) PROV_END, allowed, in PROVISION: RESET with CAUSE 0x04 LIFECYCLE. (18) In another mode: nothing. (19) PROV_ABANDON 30 s or more after the last GO in PROVISION: the same RESET. (20) Otherwise nothing. (21) ATTEST_GO while no report is built: BUSY and GO read 1, READY and CODE 0, and the build starts now. (22) In SCRAPPED or with KEY_BAD: CODE REFUSED, and no report is built. (23) While a report is built: PARAM. (24) ATTEST_DONE of a build that began at a: the report of R544, with the signature of its hash by the device key, fills ATT_REP; READY, BUSY and GO 0, source 890. (25) With no report being built: nothing. Readings and choices of the model that it rests on: log entries 3, 20, 129, 130, 131. -/
def Obligations.ProvisioningAndAttestation : Prop :=
  (∀ (ini : Initiator) (s : State),
      s.sends ini true R.SEC_CHAL_CTL = true →
      s.domOn 19 = true →
      ∃ t, exec (.challengeNew ini) s = .next t
        ∧ t.respCode ini = 0
        ∧ (t.regBytes (R.SEC_CHALLENGE 0) 8 = ((List.range 4).flatMap fun i => bytesBE 8 (Config.freeValue (s.free + i)).toNat).take 32)
        ∧ t = { s with regs := t.regs, spine := t.spine, sec := { s.sec with provFresh := true, tapOut := t.sec.tapOut }, free := s.free + 4 }
        ∧ (∀ adr, adr ∉ ((List.range 8).map R.SEC_CHALLENGE : List Nat) → t.rd adr = s.rd adr)) ∧
  (∀ (ini : Initiator) (w : Nat) (fwp : Bool) (b : List Nat) (s u : State),
      s.sends ini true R.SEC_PROV_CTL = true →
      s.domOn 19 = true →
      ((match ini with | .drone _ => true | .ivwyn => decide (s.holderOf = 1) | .tap => decide (s.holderOf = 2) | _ => false) = true) →
      s.bit F.SEC_PROV_STAT_BUSY = false →
      u.provCheck b ≠ 0 →
      b = s.regBytes (R.SEC_PROV_BUF 0) 102 →
      u = { s with now := max s.now w, flash := { s.flash with fwp := fwp } } →
      ∃ t, exec (.provGo ini w fwp) s = .next t
        ∧ t.respCode ini = 0
        ∧ t.rd R.SEC_PROV_STAT = (s.set F.SEC_PROV_STAT_CODE (u.provCheck b)).rd R.SEC_PROV_STAT
        ∧ t.isPending 892 = true
        ∧ t = { s with now := max s.now w, flash := { s.flash with fwp := fwp }, regs := t.regs, irq := t.irq, spine := t.spine, sec := { s.sec with provFresh := false, lastGo := u.now, tapOut := t.sec.tapOut } }
        ∧ (∀ adr, adr ∉ (R.SEC_PROV_STAT :: coalesced : List Nat) → t.rd adr = s.rd adr)
        ∧ (∀ num dr, num ∉ ([892] : List Nat) → t.slot num dr = s.slot num dr)) ∧
  (∀ (ini : Initiator) (w : Nat) (fwp : Bool) (b : List Nat) (s u : State),
      s.sends ini true R.SEC_PROV_CTL = true →
      s.domOn 19 = true →
      ((match ini with | .drone _ => true | .ivwyn => decide (s.holderOf = 1) | .tap => decide (s.holderOf = 2) | _ => false) = true) →
      s.bit F.SEC_PROV_STAT_BUSY = false →
      (s.mode = M.armed ∨ s.mode = M.provision) →
      b = s.regBytes (R.SEC_PROV_BUF 0) 102 →
      u = { s with now := max s.now w, flash := { s.flash with fwp := fwp } } →
      ∃ t, exec (.provGo ini w fwp) s = .next t
        ∧ t.respCode ini = 0
        ∧ (u.provCheck b = 0 → t.rd R.SEC_PROV_STAT = ((s.set F.SEC_PROV_STAT_CODE 0).set F.SEC_PROV_STAT_BUSY 1).rd R.SEC_PROV_STAT ∧ t.bit F.SEC_PROV_CTL_GO = true)
        ∧ (u.provCheck b = 0 → u.modeMoves t (if s.mode = M.armed then some (M.provision, 0x50) else none) = true)
        ∧ (u.provCheck b = 0 → t = { u with regs := t.regs, irq := t.irq, sessions := t.sessions, modeCtl := t.modeCtl, spine := t.spine, sec := { s.sec with provFresh := false, lastGo := u.now, prov := b, tapOut := t.sec.tapOut } })
        ∧ (∀ adr, u.provCheck b = 0 → adr ∉ (R.SEC_PROV_STAT :: R.SEC_PROV_CTL :: modeRegs : List Nat) → t.rd adr = s.rd adr)
        ∧ (∀ num dr, u.provCheck b = 0 → num ∉ ([824] : List Nat) → t.slot num dr = s.slot num dr)) ∧
  (∀ (ini : Initiator) (w : Nat) (fwp : Bool) (s : State),
      s.sends ini true R.SEC_PROV_CTL = true →
      s.domOn 19 = true →
      ((match ini with | .drone _ => true | .ivwyn => decide (s.holderOf = 1) | .tap => decide (s.holderOf = 2) | _ => false) = true) →
      s.bit F.SEC_PROV_STAT_BUSY = true →
      ∃ t, exec (.provGo ini w fwp) s = .next t
        ∧ t.respCode ini = 2
        ∧ t = { s with now := max s.now w, flash := { s.flash with fwp := fwp }, regs := t.regs, irq := t.irq, berrAt := t.berrAt, engines := t.engines, spine := t.spine, sec := { s.sec with tapOut := t.sec.tapOut } }
        ∧ (∀ adr, adr ∉ (berrRegs : List Nat) → t.rd adr = s.rd adr)
        ∧ (∀ key, key ∉ (iniEngines ini : List Nat) → t.engine key = s.engine key)
        ∧ (∀ num dr, num ∉ ([904, 905] : List Nat) → t.slot num dr = s.slot num dr)) ∧
  (∀ (ini : Initiator) (v : BitVec 64) (k : Fin 102) (a : Nat) (i : Instr) (s : State),
      (a, i) ∈ ([(R.SEC_PROV_CTL, .provGo ini s.now s.flash.fwp), (R.SEC_PROV_CTL, .provEnd ini), (R.SEC_PROV_CTL, .registerWrite ini R.SEC_PROV_CTL 4 v), (R.SEC_PROV_BUF k.val, .registerWrite ini (R.SEC_PROV_BUF k.val) 4 v)] : List (Nat × Instr)) →
      s.sends ini true a = true →
      s.domOn 19 = true →
      ((match ini with | .drone _ => true | .ivwyn => decide (s.holderOf = 1) | .tap => decide (s.holderOf = 2) | _ => false) = false) →
      ∃ t, exec i s = .next t
        ∧ t.respCode ini = 2
        ∧ t = { s with regs := t.regs, irq := t.irq, berrAt := t.berrAt, engines := t.engines, spine := t.spine, sec := { s.sec with tapOut := t.sec.tapOut } }
        ∧ (∀ adr, adr ∉ (berrRegs : List Nat) → t.rd adr = s.rd adr)
        ∧ (∀ key, key ∉ (iniEngines ini : List Nat) → t.engine key = s.engine key)
        ∧ (∀ num dr, num ∉ ([904, 905] : List Nat) → t.slot num dr = s.slot num dr)) ∧
  (∀ (ini : Initiator) (v : BitVec 64) (k : Fin 102) (s : State),
      s.sends ini true (R.SEC_PROV_BUF k.val) = true →
      s.domOn 19 = true →
      ((match ini with | .drone _ => true | .ivwyn => decide (s.holderOf = 1) | .tap => decide (s.holderOf = 2) | _ => false) = true) →
      ∃ t, exec (.registerWrite ini (R.SEC_PROV_BUF k.val) 4 v) s = .next t
        ∧ t.respCode ini = 0
        ∧ t.rd (R.SEC_PROV_BUF k.val) = v.truncate 32
        ∧ t = { s with regs := t.regs, spine := t.spine, sec := { s.sec with tapOut := t.sec.tapOut } }
        ∧ (∀ adr, adr ∉ ([R.SEC_PROV_BUF k.val] : List Nat) → t.rd adr = s.rd adr)) ∧
  (∀ (b : List Nat) (n : Nat) (s : State),
      b.length = 408 →
      n = (if fieldBE b 8 1 = 1 then 49 else if fieldBE b 8 1 = 3 then 160 else 0) →
      (provRecord b = (decide (slice b 0 8 = [0x43, 0x36, 0x50, 0x52, 0, 1, 0x61, 0x28]) && decide (1 ≤ fieldBE b 8 1 ∧ fieldBE b 8 1 ≤ 6) && decide (if fieldBE b 8 1 ≤ 2 then fieldBE b 9 1 ≤ 3 else fieldBE b 9 1 = 0) && decide (slice b 10 2 = zeros 2) && decide (slice b 149 3 = zeros 3) && decide (slice b (152 + n) (160 - n) = zeros (160 - n)) && decide (fieldBE b 8 1 = 3 → slice b 249 3 = zeros 3) && decide (fieldBE b 8 1 = 1 → fieldBE b 200 1 < 16)))) ∧
  (∀ (b key : List Nat) (op arg : Nat) (s : State),
      (op = fieldBE b 8 1 ∧ arg = fieldBE b 9 1) →
      key = slice b 52 97 →
      (s.provCheck b = (if ¬ (s.mode = M.armed ∨ s.mode = M.provision) ∨ s.leaving = true then 7 else if s.flash.fwp = false then 6 else if provRecord b = false then 1 else if slice b 12 8 ≠ s.serial then 2 else if s.sec.provFresh = false ∨ slice b 20 32 ≠ s.regBytes (R.SEC_CHALLENGE 0) 8 then 3 else if ¬ (if op = 1 then (s.lifecycle = 1 ∨ s.lifecycle = 2) ∧ (([0, 1, 2, 3].any fun k => s.slotState k == 1 && (s.slotFlags k).testBit 1 && Config.sha384 key == s.slotHash k) = true ∨ s.lifecycle = 1 ∧ ([0, 1, 2, 3].any fun k => (s.slotState k == 1 && (s.slotFlags k).testBit 1)) = false ∧ slice b 152 48 = Config.sha384 key ∧ (fieldBE b 200 1).testBit 1 = true) else if op ≤ 3 then (s.lifecycle = 1 ∨ s.lifecycle = 2) ∧ ([0, 1, 2, 3].any fun k => s.slotState k == 1 && (s.slotFlags k).testBit 1 && Config.sha384 key == s.slotHash k) = true else if op = 4 then s.lifecycle = 1 ∧ ([0, 1, 2, 3].any fun k => s.slotState k == 1 && (s.slotFlags k).testBit 1 && Config.sha384 key == s.slotHash k) = true else if op = 5 then (if s.lifecycle = 0 then Config.sha384 key = Config.productionHash else s.lifecycle ≠ 3 ∧ ([0, 1, 2, 3].any fun k => s.slotState k == 1 && (s.slotFlags k).testBit 1 && Config.sha384 key == s.slotHash k) = true) else s.lifecycle = 0 ∧ Config.sha384 key = Config.productionHash) then 5 else if Config.ecdsaVerify key (Config.sha384 (slice b 0 312)) (slice b 312 96) = false then 4 else if ¬ (if op = 1 then s.slotState arg = 0 else if op = 2 then ([0, 1, 2, 3].any fun k => k != arg && (s.slotState k == 1 && (s.slotFlags k).testBit 1)) = true ∧ (s.lifecycle = 2 → ([0, 1, 2, 3].any fun k => k != arg && (s.slotState k == 1 && (s.slotFlags k).testBit 0)) = true) else if op = 3 then s.fleetKey = none else if op = 4 then ([0, 1, 2, 3].any fun k => (s.slotState k == 1 && (s.slotFlags k).testBit 0)) = true else True) then 8 else if op = 3 ∧ s.fleetOf b = none then 0xA else 0))) ∧
  (∀ (k : Nat) (b c : List Nat) (s : State),
      k < 4 →
      c = s.otpBytes (0x1000 + 64 * k) 64 →
      (s.slotState k = (if c.take 56 = zeros 56 then 0 else if c.drop 56 ≠ zeros 8 then 2 else if fieldLE c 52 4 ≠ (crc32c (c.take 52)).toNat ∨ (List.range 8).any (fun i => s.otpUncorr (0x200 + 8 * k + i)) = true then 3 else 1))
        ∧ (s.slotHash k = c.take 48 ∧ s.slotFlags k = c.getD 48 0)
        ∧ s.fleetKey = (if fieldLE (s.otpBytes 0x1200 36) 32 4 = (crc32c (s.otpBytes 0x1200 32)).toNat ∧ (List.range 8).any (fun i => s.otpUncorr (0x240 + i)) = false then some (s.otpBytes 0x1200 32) else none)
        ∧ s.fleetOf b = (if s.keyBad = true then none else Config.gcmOpen ((Config.sha384 (Config.ecdhX (s.otpBytes 0x1180 48) (slice b 152 97) ++ slice b 20 32)).take 32) (slice b 252 12) (slice b 0 152) (slice b 264 48))) ∧
  (∀ (w : Nat) (bad : Option Nat) (s : State),
      (s.sec.prov.length = 408 ∧ fieldBE s.sec.prov 8 1 = 1) →
      fieldBE s.sec.prov 9 1 < 4 →
      ∃ t, exec (.addRoot w bad) s = .next t
        ∧ (∀ i : Nat, i < 7 → t.otpWord? ((0x200 + 8 * fieldBE s.sec.prov 9 1) + i) = some (BitVec.ofNat 64 (fieldLE (slice s.sec.prov 152 49 ++ zeros 3 ++ bytesLE 4 (crc32c (slice s.sec.prov 152 49 ++ zeros 3)).toNat) (8 * i) 8)))
        ∧ t.flash = { s.flash with otp := t.flash.otp, otpBad := (match bad with | some i => if i < 7 then ((0x200 + 8 * fieldBE s.sec.prov 9 1) + i) :: s.flash.otpBad else s.flash.otpBad | none => s.flash.otpBad) }
        ∧ (t.bit F.SEC_PROV_STAT_BUSY = false ∧ t.bit F.SEC_PROV_CTL_GO = false)
        ∧ t.rd R.SEC_PROV_STAT = ((s.set F.SEC_PROV_STAT_BUSY 0).set F.SEC_PROV_STAT_CODE (if bad.any (fun i => decide (i < 7)) = true then 9 else 0)).rd R.SEC_PROV_STAT
        ∧ (bad.any (fun i => decide (i < 7)) = false → t.isPending 891 = true)
        ∧ t = { s with now := max s.now w, regs := t.regs, irq := t.irq, flash := t.flash, sec := { s.sec with prov := [] } }
        ∧ (∀ adr, adr ∉ (R.SEC_PROV_STAT :: R.SEC_PROV_CTL :: coalesced : List Nat) → t.rd adr = s.rd adr)
        ∧ (∀ num dr, num ∉ (if bad.any (fun i => decide (i < 7)) = true then [] else [891] : List Nat) → t.slot num dr = s.slot num dr)
        ∧ (∀ key, key ∉ ((List.range 7).map fun i => (0x200 + 8 * fieldBE s.sec.prov 9 1) + i : List Nat) → t.otpWord? key = s.otpWord? key)) ∧
  (∀ (w : Nat) (bad : Option Nat) (s : State),
      (s.sec.prov.length = 408 ∧ fieldBE s.sec.prov 8 1 = 2) →
      fieldBE s.sec.prov 9 1 < 4 →
      ∃ t, exec (.revokeRoot w bad) s = .next t
        ∧ (∀ i : Nat, i < 1 → t.otpWord? ((0x207 + 8 * fieldBE s.sec.prov 9 1) + i) = some (BitVec.ofNat 64 (fieldLE (bytesLE 8 (max 1 s.fresh)) (8 * i) 8)))
        ∧ t.flash = { s.flash with otp := t.flash.otp, otpBad := (match bad with | some i => if i < 1 then ((0x207 + 8 * fieldBE s.sec.prov 9 1) + i) :: s.flash.otpBad else s.flash.otpBad | none => s.flash.otpBad) }
        ∧ (t.bit F.SEC_PROV_STAT_BUSY = false ∧ t.bit F.SEC_PROV_CTL_GO = false)
        ∧ t.rd R.SEC_PROV_STAT = ((s.set F.SEC_PROV_STAT_BUSY 0).set F.SEC_PROV_STAT_CODE (if bad.any (fun i => decide (i < 1)) = true then 9 else 0)).rd R.SEC_PROV_STAT
        ∧ (bad.any (fun i => decide (i < 1)) = false → t.isPending 891 = true)
        ∧ t = { s with now := max s.now w, regs := t.regs, irq := t.irq, flash := t.flash, sec := { s.sec with prov := [] }, free := s.free + 1 }
        ∧ (∀ adr, adr ∉ (R.SEC_PROV_STAT :: R.SEC_PROV_CTL :: coalesced : List Nat) → t.rd adr = s.rd adr)
        ∧ (∀ num dr, num ∉ (if bad.any (fun i => decide (i < 1)) = true then [] else [891] : List Nat) → t.slot num dr = s.slot num dr)
        ∧ (∀ key, key ∉ ((List.range 1).map fun i => (0x207 + 8 * fieldBE s.sec.prov 9 1) + i : List Nat) → t.otpWord? key = s.otpWord? key)) ∧
  (∀ (w : Nat) (bad : Option Nat) (s : State),
      (s.sec.prov.length = 408 ∧ fieldBE s.sec.prov 8 1 = 3) →
      ∃ t, exec (.setFleet w bad) s = .next t
        ∧ (∀ i : Nat, i < 5 → t.otpWord? (0x240 + i) = some (BitVec.ofNat 64 (fieldLE ((((s.fleetOf s.sec.prov).getD [] ++ zeros 32).take 32) ++ bytesLE 4 (crc32c (((s.fleetOf s.sec.prov).getD [] ++ zeros 32).take 32)).toNat ++ zeros 4) (8 * i) 8)))
        ∧ t.flash = { s.flash with otp := t.flash.otp, otpBad := (match bad with | some i => if i < 5 then (0x240 + i) :: s.flash.otpBad else s.flash.otpBad | none => s.flash.otpBad) }
        ∧ (t.bit F.SEC_PROV_STAT_BUSY = false ∧ t.bit F.SEC_PROV_CTL_GO = false)
        ∧ t.rd R.SEC_PROV_STAT = ((s.set F.SEC_PROV_STAT_BUSY 0).set F.SEC_PROV_STAT_CODE (if bad.any (fun i => decide (i < 5)) = true then 9 else 0)).rd R.SEC_PROV_STAT
        ∧ (bad.any (fun i => decide (i < 5)) = false → t.isPending 891 = true)
        ∧ t = { s with now := max s.now w, regs := t.regs, irq := t.irq, flash := t.flash, sec := { s.sec with prov := [] } }
        ∧ (∀ adr, adr ∉ (R.SEC_PROV_STAT :: R.SEC_PROV_CTL :: coalesced : List Nat) → t.rd adr = s.rd adr)
        ∧ (∀ num dr, num ∉ (if bad.any (fun i => decide (i < 5)) = true then [] else [891] : List Nat) → t.slot num dr = s.slot num dr)
        ∧ (∀ key, key ∉ ((List.range 5).map fun i => 0x240 + i : List Nat) → t.otpWord? key = s.otpWord? key)) ∧
  (∀ (w : Nat) (bad : Option Nat) (s : State),
      (s.sec.prov.length = 408 ∧ fieldBE s.sec.prov 8 1 = 4) →
      ∃ t, exec (.lock w bad) s = .next t
        ∧ (∀ i : Nat, i < 8 → t.otpWord? (8 + i) = some (BitVec.ofNat 64 (fieldLE ((List.range 8).flatMap fun _ => bytesLE 8 0x6128000261280002) (8 * i) 8)))
        ∧ t.flash = { s.flash with otp := t.flash.otp, otpBad := (match bad with | some i => if i < 8 then (8 + i) :: s.flash.otpBad else s.flash.otpBad | none => s.flash.otpBad) }
        ∧ (t.bit F.SEC_PROV_STAT_BUSY = false ∧ t.bit F.SEC_PROV_CTL_GO = false)
        ∧ t.rd R.SEC_PROV_STAT = ((s.set F.SEC_PROV_STAT_BUSY 0).set F.SEC_PROV_STAT_CODE (if bad.any (fun i => decide (i < 8)) = true then 9 else 0)).rd R.SEC_PROV_STAT
        ∧ (bad.any (fun i => decide (i < 8)) = false → t.isPending 891 = true)
        ∧ t = { s with now := max s.now w, regs := t.regs, irq := t.irq, flash := t.flash, sec := { s.sec with prov := [] } }
        ∧ (∀ adr, adr ∉ (R.SEC_PROV_STAT :: R.SEC_PROV_CTL :: coalesced : List Nat) → t.rd adr = s.rd adr)
        ∧ (∀ num dr, num ∉ (if bad.any (fun i => decide (i < 8)) = true then [] else [891] : List Nat) → t.slot num dr = s.slot num dr)
        ∧ (∀ key, key ∉ ((List.range 8).map fun i => 8 + i : List Nat) → t.otpWord? key = s.otpWord? key)) ∧
  (∀ (w : Nat) (bad : Option Nat) (s : State),
      (s.sec.prov.length = 408 ∧ fieldBE s.sec.prov 8 1 = 5) →
      ∃ t, exec (.scrap w bad) s = .next t
        ∧ (∀ i : Nat, i < 8 → t.otpWord? (16 + i) = some (BitVec.ofNat 64 (fieldLE ((List.range 8).flatMap fun _ => bytesLE 8 0x6128000361280003) (8 * i) 8)))
        ∧ t.flash = { s.flash with otp := t.flash.otp, otpBad := (match bad with | some i => if i < 8 then (16 + i) :: s.flash.otpBad else s.flash.otpBad | none => s.flash.otpBad) }
        ∧ (t.bit F.SEC_PROV_STAT_BUSY = false ∧ t.bit F.SEC_PROV_CTL_GO = false)
        ∧ t.rd R.SEC_PROV_STAT = ((s.set F.SEC_PROV_STAT_BUSY 0).set F.SEC_PROV_STAT_CODE (if bad.any (fun i => decide (i < 8)) = true then 9 else 0)).rd R.SEC_PROV_STAT
        ∧ (bad.any (fun i => decide (i < 8)) = false → t.isPending 891 = true)
        ∧ t = { s with now := max s.now w, regs := t.regs, irq := t.irq, flash := t.flash, sec := { s.sec with prov := [] } }
        ∧ (∀ adr, adr ∉ (R.SEC_PROV_STAT :: R.SEC_PROV_CTL :: coalesced : List Nat) → t.rd adr = s.rd adr)
        ∧ (∀ num dr, num ∉ (if bad.any (fun i => decide (i < 8)) = true then [] else [891] : List Nat) → t.slot num dr = s.slot num dr)
        ∧ (∀ key, key ∉ ((List.range 8).map fun i => 16 + i : List Nat) → t.otpWord? key = s.otpWord? key)) ∧
  (∀ (w : Nat) (bad : Option Nat) (s : State),
      (s.sec.prov.length = 408 ∧ fieldBE s.sec.prov 8 1 = 6) →
      ∃ t, exec (.provRelease w bad) s = .next t
        ∧ (∀ i : Nat, i < 8 → t.otpWord? (0 + i) = some (BitVec.ofNat 64 (fieldLE ((List.range 8).flatMap fun _ => bytesLE 8 0x6128000161280001) (8 * i) 8)))
        ∧ t.flash = { s.flash with otp := t.flash.otp, otpBad := (match bad with | some i => if i < 8 then (0 + i) :: s.flash.otpBad else s.flash.otpBad | none => s.flash.otpBad) }
        ∧ (t.bit F.SEC_PROV_STAT_BUSY = false ∧ t.bit F.SEC_PROV_CTL_GO = false)
        ∧ t.rd R.SEC_PROV_STAT = ((s.set F.SEC_PROV_STAT_BUSY 0).set F.SEC_PROV_STAT_CODE (if bad.any (fun i => decide (i < 8)) = true then 9 else 0)).rd R.SEC_PROV_STAT
        ∧ (bad.any (fun i => decide (i < 8)) = false → t.isPending 891 = true)
        ∧ t = { s with now := max s.now w, regs := t.regs, irq := t.irq, flash := t.flash, sec := { s.sec with prov := [] } }
        ∧ (∀ adr, adr ∉ (R.SEC_PROV_STAT :: R.SEC_PROV_CTL :: coalesced : List Nat) → t.rd adr = s.rd adr)
        ∧ (∀ num dr, num ∉ (if bad.any (fun i => decide (i < 8)) = true then [] else [891] : List Nat) → t.slot num dr = s.slot num dr)
        ∧ (∀ key, key ∉ ((List.range 8).map fun i => 0 + i : List Nat) → t.otpWord? key = s.otpWord? key)) ∧
  (∀ (w : Nat) (bad : Option Nat) (op : Nat) (i : Instr) (s : State),
      (op, i) ∈ ([(1, .addRoot w bad), (2, .revokeRoot w bad), (3, .setFleet w bad), (4, .lock w bad), (5, .scrap w bad), (6, .provRelease w bad)] : List (Nat × Instr)) →
      (s.sec.prov = [] ∨ fieldBE s.sec.prov 8 1 ≠ op) →
      ∃ t, exec i s = .next t
        ∧ t = { s with now := max s.now w, free := if op = 2 then s.free + 1 else s.free }) ∧
  (∀ (ini : Initiator) (s : State),
      s.sends ini true R.SEC_PROV_CTL = true →
      s.domOn 19 = true →
      ((match ini with | .drone _ => true | .ivwyn => decide (s.holderOf = 1) | .tap => decide (s.holderOf = 2) | _ => false) = true) →
      s.mode = M.provision →
      ∃ t, exec (.provEnd ini) s = .next t
        ∧ t.respCode ini = 0
        ∧ s.wentToReset { t with spine := [], sec := { t.sec with tapOut := s.sec.tapOut } } 4 false = true
        ∧ (∀ adr, adr ∉ (R.SYS_MODE :: R.PWR_RAIL_FAULT :: R.PWR_PHASE_STAT :: R.SYS_SPARED :: R.SYS_HOLD_CAUSES :: R.CLK_STAT :: (List.range 16).map R.CLK_BAND : List Nat) → t.rd adr = regReset adr)
        ∧ (t.engines = [] ∧ t.mem = s.mem ∧ t.flash.otp = s.flash.otp)) ∧
  (∀ (ini : Initiator) (s : State),
      s.sends ini true R.SEC_PROV_CTL = true →
      s.domOn 19 = true →
      ((match ini with | .drone _ => true | .ivwyn => decide (s.holderOf = 1) | .tap => decide (s.holderOf = 2) | _ => false) = true) →
      s.mode ≠ M.provision →
      ∃ t, exec (.provEnd ini) s = .next t
        ∧ t.respCode ini = 0
        ∧ t = { s with regs := t.regs, spine := t.spine, sec := { s.sec with tapOut := t.sec.tapOut } }
        ∧ (∀ adr, adr ∉ ([] : List Nat) → t.rd adr = s.rd adr)) ∧
  (∀ (w : Nat) (s : State),
      (s.mode = M.provision ∧ s.sec.lastGo + 12000000000 ≤ w) →
      ∃ t, exec (.provAbandon w) s = .next t
        ∧ (s.at_ w).wentToReset t 4 false = true
        ∧ (∀ adr, adr ∉ (R.SYS_MODE :: R.PWR_RAIL_FAULT :: R.PWR_PHASE_STAT :: R.SYS_SPARED :: R.SYS_HOLD_CAUSES :: R.CLK_STAT :: (List.range 16).map R.CLK_BAND : List Nat) → t.rd adr = regReset adr)
        ∧ (t.engines = [] ∧ t.mem = s.mem ∧ t.flash.otp = s.flash.otp)) ∧
  (∀ (w : Nat) (s : State),
      ¬ (s.mode = M.provision ∧ s.sec.lastGo + 12000000000 ≤ w) →
      ∃ t, exec (.provAbandon w) s = .next t
        ∧ t = { s with now := max s.now w }) ∧
  (∀ (ini : Initiator) (w : Nat) (s : State),
      s.sends ini true R.SEC_ATT_CTL = true →
      s.domOn 19 = true →
      (s.bit F.SEC_ATT_STAT_BUSY = false ∧ s.lifecycle ≠ 3 ∧ s.keyBad = false) →
      ∃ t, exec (.attestGo ini w) s = .next t
        ∧ t.respCode ini = 0
        ∧ (t.bit F.SEC_ATT_STAT_BUSY = true ∧ t.bit F.SEC_ATT_STAT_READY = false ∧ t.bit F.SEC_ATT_STAT_REFUSED = false ∧ t.bit F.SEC_ATT_CTL_GO = true)
        ∧ t = { s with now := max s.now w, regs := t.regs, spine := t.spine, sec := { s.sec with att := some (max s.now w), tapOut := t.sec.tapOut } }
        ∧ (∀ adr, adr ∉ ([R.SEC_ATT_CTL, R.SEC_ATT_STAT] : List Nat) → t.rd adr = s.rd adr)) ∧
  (∀ (ini : Initiator) (w : Nat) (s : State),
      s.sends ini true R.SEC_ATT_CTL = true →
      s.domOn 19 = true →
      (s.bit F.SEC_ATT_STAT_BUSY = false ∧ (s.lifecycle = 3 ∨ s.keyBad = true)) →
      ∃ t, exec (.attestGo ini w) s = .next t
        ∧ t.respCode ini = 0
        ∧ (t.bit F.SEC_ATT_STAT_REFUSED = true ∧ t.bit F.SEC_ATT_STAT_BUSY = false ∧ t.bit F.SEC_ATT_STAT_READY = false)
        ∧ t = { s with now := max s.now w, regs := t.regs, spine := t.spine, sec := { s.sec with tapOut := t.sec.tapOut } }
        ∧ (∀ adr, adr ∉ ([R.SEC_ATT_STAT] : List Nat) → t.rd adr = s.rd adr)) ∧
  (∀ (ini : Initiator) (w : Nat) (s : State),
      s.sends ini true R.SEC_ATT_CTL = true →
      s.domOn 19 = true →
      s.bit F.SEC_ATT_STAT_BUSY = true →
      ∃ t, exec (.attestGo ini w) s = .next t
        ∧ t.respCode ini = 2
        ∧ t = { s with now := max s.now w, regs := t.regs, irq := t.irq, berrAt := t.berrAt, engines := t.engines, spine := t.spine, sec := { s.sec with tapOut := t.sec.tapOut } }
        ∧ (∀ adr, adr ∉ (berrRegs : List Nat) → t.rd adr = s.rd adr)
        ∧ (∀ key, key ∉ (iniEngines ini : List Nat) → t.engine key = s.engine key)
        ∧ (∀ num dr, num ∉ ([904, 905] : List Nat) → t.slot num dr = s.slot num dr)) ∧
  (∀ (w a : Nat) (b r : List Nat) (s : State),
      s.sec.att = some a →
      b = ([0x43, 0x36, 0x41, 0x54, 0, 1, 0x61, 0x28] ++ bytesBE 4 (s.rdN R.SYS_IDCODE) ++ [s.lifecycle, s.mode, s.get F.CFG_BOOT_SOURCE * 64 + s.get F.CFG_BOOT_GOLDEN, if s.bit F.EMN_POS_VALID = true then s.get F.EMN_POS_POS else 0] ++ s.serial ++ s.regBytes (R.SEC_ATT_NONCE 0) 8 ++ bytesBE 4 (s.rdN R.CFG_IMAGE_ID_HI) ++ bytesBE 4 (s.rdN R.CFG_IMAGE_ID_LO) ++ bytesBE 4 (s.rdN R.CFG_IMAGE_BUILD) ++ (s.sec.imageHash ++ zeros 48).take 48 ++ bytesBE 4 (s.rdN R.CFG_PR_APPLIED) ++ bytesBE 4 (s.rdN R.SYS_SPARED) ++ [s.get F.SEC_STAT_SLOTS, s.get F.SEC_STAT_FLEET, 0, 0] ++ bytesBE 8 a ++ Config.sha384 ((List.range 4096).flatMap fun n => bytesBE 4 (s.frameRec n).golden)) →
      r = b ++ Config.ecdsaSign (s.otpBytes 0x1180 48) (Config.sha384 b) s.fresh →
      ∃ t, exec (.attestDone w) s = .next t
        ∧ (∀ k : Nat, k < 70 → k < r.length / 4 → t.rdN (R.SEC_ATT_REP k) = fieldBE r (4 * k) 4 % 2 ^ 32)
        ∧ (t.bit F.SEC_ATT_STAT_READY = true ∧ t.bit F.SEC_ATT_STAT_BUSY = false ∧ t.bit F.SEC_ATT_CTL_GO = false ∧ t.isPending 890 = true)
        ∧ t = { s with now := max s.now w, regs := t.regs, irq := t.irq, sec := { s.sec with att := none }, free := s.free + 1 }
        ∧ (∀ adr, adr ∉ (R.SEC_ATT_CTL :: R.SEC_ATT_STAT :: (coalesced ++ (List.range (r.length / 4)).map fun k => R.SEC_ATT_REP 0 + 4 * k) : List Nat) → t.rd adr = s.rd adr)
        ∧ (∀ num dr, num ∉ ([890] : List Nat) → t.slot num dr = s.slot num dr)) ∧
  (∀ (w : Nat) (s : State),
      s.sec.att = none →
      ∃ t, exec (.attestDone w) s = .next t
        ∧ t = { s with now := max s.now w })

/-- Pins, captures, serial ports and PWM generators (parts of R5, R7, R8, R26, R333, R355, R467, R480, R541, R557, R558, R559, R560, R561, R562, R563, R564, R565, R566, R567, R570, R571, R572). In clauses on a write or a read the initiator sends it. A pin's event is blocked for two filter periods after its configuration is written, and at a pin of position 4 that has F2, F3 or F4. What a clause does not name stays. (1) OUT_SET, OUT_CLR and OUT_TGL set, clear and invert the bits of OUT that are written 1; a write of OUT replaces them. (2) OUT_SET and OUT_CLR read OUT; CAP_INFO reads VALID, CAP_OVF and the pin and direction of the oldest entry. (3) GP_CFG_WRITE with a FUNC that the position has and no reserved code: the configuration, and the filter restarts. (4) Otherwise the fields with a reserved code, or with a FUNC the position lacks, keep theirs, the rest is written, the filter restarts: PARAM. (5) GPIO_INPUT_CHANGE in RESET: the level at the pin, and the word its serialiser has received, alone. (6) Elsewhere, a level that IN shows already: with a level mode of IRQ for it the bit of IRQ_STAT is set, unless blocked; a bit that becomes 1 raises 520 + n. (7) A new level of m samples, each 2^FILT_TB SPINE cycles, since the filter restarted: FILTER takes it from FILT_N + 1 samples on, DEBOUNCE from the first unless one was taken within FILT_N + 1 samples, off from the first. Not taken: the pin alone. (8) Taken: IN shows it; an edge or level mode of IRQ for it sets the bit of IRQ_STAT unless blocked, a bit that becomes 1 raising 520 + n; an F10 pin whose IRQ selects the edge captures the pin, its direction and the time of its first sample, lost with CAP_OVF where 8 wait. (9) A write of IRQ_STAT clears the bits written 1; a level mode whose level holds sets its bit again, unless blocked, and raises 520 + n. (10) CAP_TIME_READ answers the wheel time of the oldest entry and removes it; with none, 0. (11) PORT_TX_WRITE and the I2C commands queue their entry, CMD in [11:8], where fewer than 16 wait and, in I2C mode, CMD is 1 to 5. (12) Otherwise: PARAM, and nothing is queued. (13) PORT_TRANSFER_DONE of an entry sent, in a mode other than off, once its frame has had its time: 10 to 12 bits of a UART, 8 of SPI, 9 of I2C or 1 for START and STOP. The entry leaves. SPI and I2C READ receive a byte: queued where fewer than 16 wait, else OVERRUN; a WRITE not acknowledged sets NACK. The port's event: the queue sent empty, data become present, an error. (14) Before that time, in mode off, or with nothing to send: nothing but the moment. (15) A byte received by a UART: queued where fewer than 16 wait, else OVERRUN; a parity error with parity on sets PARITY, a framing error FRAME. The event: data become present, an error. (16) In another mode: nothing but the moment. (17) PORT_RX_READ answers VALID and the oldest byte and removes it; with none, 0. (18) A write of PORT_CFG: the settings, with which what waits is sent afresh. (19) Parity code 3 of a UART is reserved: PARITY stays, the rest is written, PARAM. (20) PWM_WRITE with PERIOD 2 or more and HIGH at most PERIOD: the register; the generator takes it at the next start of a period, 10 ns a unit, of the setting in force. (21) Another setting: PARAM. (22) The generator is high for the first HIGH units of each period of the setting in force, from the start of that setting. (23) The PULLSEL pull, up or down, is at a user pin in RESET, where the strap itself acts, and, as latched, before INIT, in QUARANTINE and in INIT until its bank is released; otherwise PULL is. (24) A pin's output value and enable. Under EXTEST in QUARANTINE or SERVICE the boundary register has the pin; with the PULLSEL pull, or no bank supply, it is high-Z; an F1 pin of a region that a partial load applies follows HOLD (its level and enable as held), SAFE or FLOAT; else its function drives it. (25) A pin's function. F0: its bits of OUT and OE. F1: bits 0 and 8 of its rim lane. F2, F3, F4: the port, none as a level, where MODE matches and the pin is an output of it, else high-Z. F5: the SSI clock, none as a level. F6: its PWM generator. F7: its serialiser. F8: high for 100 ns from a snapshot. F9: its clock output. F10: an input. F11: driven low in HOLD, else high-Z. OUT_INV inverts F6 to F9. Readings and choices of the model that it rests on: log entries 3, 134, 135, 179. -/
def Obligations.PinsAndPorts : Prop :=
  (∀ (ini : Initiator) (k : Fin 8) (v x : BitVec 32) (a : Nat) (i : Instr) (s : State),
      (a, x, i) ∈ ([(R.GPIO_OUT_SET k.val, s.rd (R.GPIO_OUT k.val) ||| (v &&& 0xFFFF#32), .outSet ini k v), (R.GPIO_OUT_CLR k.val, s.rd (R.GPIO_OUT k.val) &&& ~~~(v &&& 0xFFFF#32), .outClr ini k v), (R.GPIO_OUT_TGL k.val, s.rd (R.GPIO_OUT k.val) ^^^ (v &&& 0xFFFF#32), .outTgl ini k v), (R.GPIO_OUT k.val, v &&& 0xFFFF#32, .registerWrite ini (R.GPIO_OUT k.val) 4 ((v).zeroExtend 64))] : List (Nat × BitVec 32 × Instr)) →
      s.sends ini true a = true →
      ∃ t, exec i s = .next t
        ∧ t.respCode ini = 0
        ∧ t.rd (R.GPIO_OUT k.val) = x
        ∧ t = { s with regs := t.regs, spine := t.spine, sec := { s.sec with tapOut := t.sec.tapOut } }
        ∧ (∀ adr, adr ∉ ([R.GPIO_OUT k.val] : List Nat) → t.rd adr = s.rd adr)) ∧
  (∀ (ini : Initiator) (k : Fin 8) (x : BitVec 32) (a : Nat) (i : Instr) (s : State),
      (a, x, i) ∈ ([(R.GPIO_OUT_SET k.val, s.rd (R.GPIO_OUT k.val), .rcRead ini (R.GPIO_OUT_SET k.val) 4), (R.GPIO_OUT_CLR k.val, s.rd (R.GPIO_OUT k.val), .rcRead ini (R.GPIO_OUT_CLR k.val) 4), (R.GPIO_CAP_INFO k.val, (match s.capFifo k.val with | e :: _ => BitVec.ofNat 32 (2 ^ 31 + 2 ^ 30 * s.get (F.GPIO_CAP_INFO_OVF k.val) + (if e.rise = true then 16 else 0) + e.pin) | [] => BitVec.ofNat 32 (2 ^ 30 * s.get (F.GPIO_CAP_INFO_OVF k.val))), .rcRead ini (R.GPIO_CAP_INFO k.val) 4)] : List (Nat × BitVec 32 × Instr)) →
      s.sends ini false a = true →
      ∃ t, exec i s = .next t
        ∧ t.respCode ini = 0
        ∧ t.respData ini = x.zeroExtend 64
        ∧ t = { s with spine := t.spine, sec := { s.sec with tapOut := t.sec.tapOut } }) ∧
  (∀ (ini : Initiator) (n : Fin 128) (v : BitVec 32) (i : Instr) (s : State),
      i ∈ ([.gpCfgWrite ini n v, .registerWrite ini (R.GPIO_GP_CFG n.val) 4 ((v).zeroExtend 64)] : List Instr) →
      s.sends ini true (R.GPIO_GP_CFG n.val) = true →
      ((if bitsOf v 3 0 = 2 ∨ bitsOf v 3 0 = 3 then 4 ≤ n.val % 16 ∧ n.val % 16 ≤ 7 else if bitsOf v 3 0 = 4 then n.val % 16 = 4 ∨ n.val % 16 = 5 else if bitsOf v 3 0 = 5 then n.val % 16 ≤ 1 else bitsOf v 3 0 ≤ 11) ∧ bitsOf v 9 8 < 3 ∧ bitsOf v 15 14 < 3 ∧ bitsOf v 18 16 < 6 ∧ bitsOf v 23 22 < 3) →
      ∃ t, exec i s = .next t
        ∧ t.respCode ini = 0
        ∧ t.rd (R.GPIO_GP_CFG n.val) = v &&& 0xFFFFF3BF#32
        ∧ t.pinIn n.val = { takenAt := none, quietTo := s.now + 2 * ((bitsOf v 31 28 + 1) * 2 ^ bitsOf v 27 24 * 2), since := s.now }
        ∧ (∀ key, key ∉ ([n.val] : List Nat) → t.pinIn key = s.pinIn key)
        ∧ t = { s with regs := t.regs, gpio := { s.gpio with pins := t.gpio.pins }, spine := t.spine, sec := { s.sec with tapOut := t.sec.tapOut } }
        ∧ (∀ adr, adr ∉ ([R.GPIO_GP_CFG n.val] : List Nat) → t.rd adr = s.rd adr)) ∧
  (∀ (ini : Initiator) (n : Fin 128) (v : BitVec 32) (i : Instr) (s : State),
      i ∈ ([.gpCfgWrite ini n v, .registerWrite ini (R.GPIO_GP_CFG n.val) 4 ((v).zeroExtend 64)] : List Instr) →
      s.sends ini true (R.GPIO_GP_CFG n.val) = true →
      ¬ ((if bitsOf v 3 0 = 2 ∨ bitsOf v 3 0 = 3 then 4 ≤ n.val % 16 ∧ n.val % 16 ≤ 7 else if bitsOf v 3 0 = 4 then n.val % 16 = 4 ∨ n.val % 16 = 5 else if bitsOf v 3 0 = 5 then n.val % 16 ≤ 1 else bitsOf v 3 0 ≤ 11) ∧ bitsOf v 9 8 < 3 ∧ bitsOf v 15 14 < 3 ∧ bitsOf v 18 16 < 6 ∧ bitsOf v 23 22 < 3) →
      ∃ t, exec i s = .next t
        ∧ t.rd (R.GPIO_GP_CFG n.val) = ([(3, 0, decide (if bitsOf v 3 0 = 2 ∨ bitsOf v 3 0 = 3 then 4 ≤ n.val % 16 ∧ n.val % 16 ≤ 7 else if bitsOf v 3 0 = 4 then n.val % 16 = 4 ∨ n.val % 16 = 5 else if bitsOf v 3 0 = 5 then n.val % 16 ≤ 1 else bitsOf v 3 0 ≤ 11)), (9, 8, decide (bitsOf v 9 8 < 3)), (15, 14, decide (bitsOf v 15 14 < 3)), (18, 16, decide (bitsOf v 18 16 < 6)), (23, 22, decide (bitsOf v 23 22 < 3))].foldl (fun (u : BitVec 32) f => if f.2.2 = true then u else setBitsOf u f.1 f.2.1 (bitsOf (s.rd (R.GPIO_GP_CFG n.val)) f.1 f.2.1)) (v &&& 0xFFFFF3BF#32))
        ∧ t.pinIn n.val = { takenAt := none, quietTo := s.now + 2 * ((bitsOf v 31 28 + 1) * 2 ^ bitsOf v 27 24 * 2), since := s.now }
        ∧ (∀ key, key ∉ ([n.val] : List Nat) → t.pinIn key = s.pinIn key)
        ∧ t.respCode ini = 2
        ∧ t = { s with regs := t.regs, irq := t.irq, berrAt := t.berrAt, engines := t.engines, gpio := { s.gpio with pins := t.gpio.pins }, spine := t.spine, sec := { s.sec with tapOut := t.sec.tapOut } }
        ∧ (∀ adr, adr ∉ ((R.GPIO_GP_CFG n.val) :: berrRegs : List Nat) → t.rd adr = s.rd adr)
        ∧ (∀ key, key ∉ (iniEngines ini : List Nat) → t.engine key = s.engine key)
        ∧ (∀ num dr, num ∉ ([904, 905] : List Nat) → t.slot num dr = s.slot num dr)) ∧
  (∀ (n : Fin 128) (w samples : Nat) (level : Bool) (word : Fin 256) (s : State),
      s.mode = M.reset →
      ∃ t, exec (.gpioInputChange n w level samples word) s = .next t
        ∧ Sparse.get (fun _ => 0) t.fab.pins n.val = 2 * word.val + (if level = true then 1 else 0)
        ∧ (∀ key, key ∉ ([n.val] : List Nat) → Sparse.get (fun _ => 0) t.fab.pins key = Sparse.get (fun _ => 0) s.fab.pins key)
        ∧ t = { s with now := max s.now w, fab := { s.fab with pins := t.fab.pins } }) ∧
  (∀ (n : Fin 128) (w samples : Nat) (level : Bool) (word : Fin 256) (e : Bool) (s : State),
      s.mode ≠ M.reset →
      s.bitAt (R.GPIO_IN (n.val / 16)) (n.val % 16) = level →
      e = (((level && decide (s.get (F.GPIO_GP_CFG_IRQ n.val) = 4)) || (!level && decide (s.get (F.GPIO_GP_CFG_IRQ n.val) = 5))) && (decide ((s.pinIn n.val).quietTo ≤ max s.now w) && !(decide (n.val % 16 = 4) && decide (2 ≤ s.pinFunc n.val ∧ s.pinFunc n.val ≤ 4)))) →
      ∃ t, exec (.gpioInputChange n w level samples word) s = .next t
        ∧ Sparse.get (fun _ => 0) t.fab.pins n.val = 2 * word.val + (if level = true then 1 else 0)
        ∧ (∀ key, key ∉ ([n.val] : List Nat) → Sparse.get (fun _ => 0) t.fab.pins key = Sparse.get (fun _ => 0) s.fab.pins key)
        ∧ t.rd (R.GPIO_IRQ_STAT (n.val / 16)) = (if e = true then setBitsOf (s.rd (R.GPIO_IRQ_STAT (n.val / 16))) (n.val % 16) (n.val % 16) 1 else s.rd (R.GPIO_IRQ_STAT (n.val / 16)))
        ∧ (e = true → s.bitAt (R.GPIO_IRQ_STAT (n.val / 16)) (n.val % 16) = false → t.isPending (520 + n.val) = true)
        ∧ (∀ num dr, num ∉ (if e = true ∧ s.bitAt (R.GPIO_IRQ_STAT (n.val / 16)) (n.val % 16) = false then [520 + n.val] else [] : List Nat) → t.slot num dr = s.slot num dr)
        ∧ t = { s with regs := t.regs, irq := t.irq, now := max s.now w, fab := { s.fab with pins := t.fab.pins } }
        ∧ (∀ adr, adr ∉ ((R.GPIO_IRQ_STAT (n.val / 16)) :: coalesced : List Nat) → t.rd adr = s.rd adr)) ∧
  (∀ (n : Fin 128) (w samples : Nat) (level : Bool) (word : Fin 256) (m p : Nat) (s : State),
      s.mode ≠ M.reset →
      s.bitAt (R.GPIO_IN (n.val / 16)) (n.val % 16) ≠ level →
      p = 2 * 2 ^ s.get (F.GPIO_GP_CFG_FILT_TB n.val) →
      m = samples - ((s.pinIn n.val).since - w + p - 1) / p →
      ¬ (if s.get (F.GPIO_GP_CFG_FMODE n.val) = 1 then s.get (F.GPIO_GP_CFG_FILT_N n.val) + 1 ≤ m else if s.get (F.GPIO_GP_CFG_FMODE n.val) = 2 then 1 ≤ m ∧ (match (s.pinIn n.val).takenAt with | some q => decide (q + (s.get (F.GPIO_GP_CFG_FILT_N n.val) + 1) * p < max s.now w) | none => true) = true else 1 ≤ m) →
      ∃ t, exec (.gpioInputChange n w level samples word) s = .next t
        ∧ Sparse.get (fun _ => 0) t.fab.pins n.val = 2 * word.val + (if level = true then 1 else 0)
        ∧ (∀ key, key ∉ ([n.val] : List Nat) → Sparse.get (fun _ => 0) t.fab.pins key = Sparse.get (fun _ => 0) s.fab.pins key)
        ∧ t = { s with now := max s.now w, fab := { s.fab with pins := t.fab.pins } }) ∧
  (∀ (n : Fin 128) (w samples : Nat) (level : Bool) (word : Fin 256) (m p : Nat) (e : Bool) (s : State),
      s.mode ≠ M.reset →
      s.bitAt (R.GPIO_IN (n.val / 16)) (n.val % 16) ≠ level →
      p = 2 * 2 ^ s.get (F.GPIO_GP_CFG_FILT_TB n.val) →
      m = samples - ((s.pinIn n.val).since - w + p - 1) / p →
      (if s.get (F.GPIO_GP_CFG_FMODE n.val) = 1 then s.get (F.GPIO_GP_CFG_FILT_N n.val) + 1 ≤ m else if s.get (F.GPIO_GP_CFG_FMODE n.val) = 2 then 1 ≤ m ∧ (match (s.pinIn n.val).takenAt with | some q => decide (q + (s.get (F.GPIO_GP_CFG_FILT_N n.val) + 1) * p < max s.now w) | none => true) = true else 1 ≤ m) →
      e = (((decide (s.get (F.GPIO_GP_CFG_IRQ n.val) = 3) || (level && decide (s.get (F.GPIO_GP_CFG_IRQ n.val) = 1)) || (!level && decide (s.get (F.GPIO_GP_CFG_IRQ n.val) = 2))) || ((level && decide (s.get (F.GPIO_GP_CFG_IRQ n.val) = 4)) || (!level && decide (s.get (F.GPIO_GP_CFG_IRQ n.val) = 5)))) && (decide ((s.pinIn n.val).quietTo ≤ max s.now w) && !(decide (n.val % 16 = 4) && decide (2 ≤ s.pinFunc n.val ∧ s.pinFunc n.val ≤ 4)))) →
      ∃ t, exec (.gpioInputChange n w level samples word) s = .next t
        ∧ Sparse.get (fun _ => 0) t.fab.pins n.val = 2 * word.val + (if level = true then 1 else 0)
        ∧ (∀ key, key ∉ ([n.val] : List Nat) → Sparse.get (fun _ => 0) t.fab.pins key = Sparse.get (fun _ => 0) s.fab.pins key)
        ∧ t.rd (R.GPIO_IRQ_STAT (n.val / 16)) = (if e = true then setBitsOf (s.rd (R.GPIO_IRQ_STAT (n.val / 16))) (n.val % 16) (n.val % 16) 1 else s.rd (R.GPIO_IRQ_STAT (n.val / 16)))
        ∧ (e = true → s.bitAt (R.GPIO_IRQ_STAT (n.val / 16)) (n.val % 16) = false → t.isPending (520 + n.val) = true)
        ∧ (∀ num dr, num ∉ (if e = true ∧ s.bitAt (R.GPIO_IRQ_STAT (n.val / 16)) (n.val % 16) = false then [520 + n.val] else [] : List Nat) → t.slot num dr = s.slot num dr)
        ∧ t.rd (R.GPIO_IN (n.val / 16)) = setBitsOf (s.rd (R.GPIO_IN (n.val / 16))) (n.val % 16) (n.val % 16) (if level = true then 1 else 0)
        ∧ t.pinIn n.val = { s.pinIn n.val with takenAt := some (max s.now w) }
        ∧ (∀ key, key ∉ ([n.val] : List Nat) → t.pinIn key = s.pinIn key)
        ∧ t.capFifo (n.val / 16) = s.capFifo (n.val / 16) ++ (if s.pinFunc n.val = 10 ∧ (decide (s.get (F.GPIO_GP_CFG_IRQ n.val) = 3) || (level && decide (s.get (F.GPIO_GP_CFG_IRQ n.val) = 1)) || (!level && decide (s.get (F.GPIO_GP_CFG_IRQ n.val) = 2))) = true ∧ (s.capFifo (n.val / 16)).length < 8 then [⟨n.val % 16, level, (w + ((s.pinIn n.val).since - w + p - 1) / p * p) % 2 ^ 32⟩] else [])
        ∧ (∀ key, key ∉ ([n.val / 16] : List Nat) → t.capFifo key = s.capFifo key)
        ∧ t.rd (R.GPIO_CAP_INFO (n.val / 16)) = (if s.pinFunc n.val = 10 ∧ (decide (s.get (F.GPIO_GP_CFG_IRQ n.val) = 3) || (level && decide (s.get (F.GPIO_GP_CFG_IRQ n.val) = 1)) || (!level && decide (s.get (F.GPIO_GP_CFG_IRQ n.val) = 2))) = true ∧ 8 ≤ (s.capFifo (n.val / 16)).length then setBitsOf (s.rd (R.GPIO_CAP_INFO (n.val / 16))) 30 30 1 else s.rd (R.GPIO_CAP_INFO (n.val / 16)))
        ∧ t = { s with regs := t.regs, irq := t.irq, gpio := { s.gpio with pins := t.gpio.pins, caps := t.gpio.caps }, now := max s.now w, fab := { s.fab with pins := t.fab.pins } }
        ∧ (∀ adr, adr ∉ ((R.GPIO_IN (n.val / 16)) :: (R.GPIO_IRQ_STAT (n.val / 16)) :: R.GPIO_CAP_INFO (n.val / 16) :: coalesced : List Nat) → t.rd adr = s.rd adr)) ∧
  (∀ (ini : Initiator) (k : Fin 8) (v : BitVec 64) (s : State),
      s.sends ini true (R.GPIO_IRQ_STAT k.val) = true →
      ∃ t, exec (.registerWrite ini (R.GPIO_IRQ_STAT k.val) 4 v) s = .next t
        ∧ t.respCode ini = 0
        ∧ (∀ j : Nat, j < 16 → t.bitAt (R.GPIO_IRQ_STAT k.val) j = (s.bitAt (R.GPIO_IRQ_STAT k.val) j && !v.getLsbD j || (v.getLsbD j && ((s.bitAt (R.GPIO_IN k.val) j && decide (s.get (F.GPIO_GP_CFG_IRQ (16 * k.val + j)) = 4)) || (!s.bitAt (R.GPIO_IN k.val) j && decide (s.get (F.GPIO_GP_CFG_IRQ (16 * k.val + j)) = 5))) && decide ((s.pinIn (16 * k.val + j)).quietTo ≤ s.now) && !(decide (j = 4) && decide (2 ≤ s.pinFunc (16 * k.val + j) ∧ s.pinFunc (16 * k.val + j) ≤ 4)))))
        ∧ bitsOf (t.rd (R.GPIO_IRQ_STAT k.val)) 31 16 = bitsOf (s.rd (R.GPIO_IRQ_STAT k.val)) 31 16
        ∧ (∀ j : Nat, j < 16 → (v.getLsbD j && ((s.bitAt (R.GPIO_IN k.val) j && decide (s.get (F.GPIO_GP_CFG_IRQ (16 * k.val + j)) = 4)) || (!s.bitAt (R.GPIO_IN k.val) j && decide (s.get (F.GPIO_GP_CFG_IRQ (16 * k.val + j)) = 5))) && decide ((s.pinIn (16 * k.val + j)).quietTo ≤ s.now) && !(decide (j = 4) && decide (2 ≤ s.pinFunc (16 * k.val + j) ∧ s.pinFunc (16 * k.val + j) ≤ 4))) = true → t.isPending (520 + (16 * k.val + j)) = true)
        ∧ t = { s with regs := t.regs, irq := t.irq, spine := t.spine, sec := { s.sec with tapOut := t.sec.tapOut } }
        ∧ (∀ adr, adr ∉ ((R.GPIO_IRQ_STAT k.val) :: coalesced : List Nat) → t.rd adr = s.rd adr)
        ∧ (∀ num dr, num ∉ ((List.range 16).filterMap fun j => if (v.getLsbD j && ((s.bitAt (R.GPIO_IN k.val) j && decide (s.get (F.GPIO_GP_CFG_IRQ (16 * k.val + j)) = 4)) || (!s.bitAt (R.GPIO_IN k.val) j && decide (s.get (F.GPIO_GP_CFG_IRQ (16 * k.val + j)) = 5))) && decide ((s.pinIn (16 * k.val + j)).quietTo ≤ s.now) && !(decide (j = 4) && decide (2 ≤ s.pinFunc (16 * k.val + j) ∧ s.pinFunc (16 * k.val + j) ≤ 4))) = true then some (520 + (16 * k.val + j)) else none : List Nat) → t.slot num dr = s.slot num dr)) ∧
  (∀ (ini : Initiator) (k : Fin 8) (l : List CapEntry) (i : Instr) (s : State),
      i ∈ ([.capTimeRead ini k, .rcRead ini (R.GPIO_CAP_TIME k.val) 4] : List Instr) →
      s.sends ini false (R.GPIO_CAP_TIME k.val) = true →
      s.capFifo k.val = l →
      ∃ t, exec i s = .next t
        ∧ t.respCode ini = 0
        ∧ t.respData ini = BitVec.ofNat 64 ((match l with | e :: _ => e.time | [] => 0) % 2 ^ 32)
        ∧ t.capFifo k.val = l.tail
        ∧ (∀ key, key ∉ ([k.val] : List Nat) → t.capFifo key = s.capFifo key)
        ∧ t = { s with gpio := { s.gpio with caps := t.gpio.caps }, spine := t.spine, sec := { s.sec with tapOut := t.sec.tapOut } }) ∧
  (∀ (ini : Initiator) (k : Fin 8) (v : BitVec 32) (d : BitVec 8) (x : Nat) (i : Instr) (s : State),
      (x, i) ∈ ([(v.toNat % 4096, .portTxWrite ini k v), (v.toNat % 4096, .registerWrite ini (R.GPIO_PORT_TX k.val) 4 ((v).zeroExtend 64)), (0x100, .i2cStart ini k), (0x200 + d.toNat, .i2cWrite ini k d), (0x300, .i2cReadAck ini k), (0x400, .i2cReadNack ini k), (0x500, .i2cStop ini k)] : List (Nat × Instr)) →
      s.sends ini true (R.GPIO_PORT_TX k.val) = true →
      ((s.port k.val).tx.length < 16 ∧ (s.get (F.GPIO_PORT_CFG_MODE k.val) ≠ 3 ∨ 1 ≤ x / 256 ∧ x / 256 ≤ 5)) →
      ∃ t, exec i s = .next t
        ∧ t.respCode ini = 0
        ∧ t.port k.val = { s.port k.val with tx := (s.port k.val).tx ++ [x], at_ := (if (s.port k.val).tx = [] then s.now else (s.port k.val).at_) }
        ∧ t.rd (R.GPIO_PORT_STAT k.val) = setBitsOf (setBitsOf (setBitsOf (s.rd (R.GPIO_PORT_STAT k.val)) 20 16 (((s.port k.val).tx ++ [x])).length) 12 8 ((s.port k.val).rx).length) 0 0 (if ((s.port k.val).tx ++ [x]) = [] then 0 else 1)
        ∧ (∀ key, key ∉ ([k.val] : List Nat) → t.port key = s.port key)
        ∧ t = { s with regs := t.regs, gpio := { s.gpio with ports := t.gpio.ports }, spine := t.spine, sec := { s.sec with tapOut := t.sec.tapOut } }
        ∧ (∀ adr, adr ∉ ([R.GPIO_PORT_STAT k.val] : List Nat) → t.rd adr = s.rd adr)) ∧
  (∀ (ini : Initiator) (k : Fin 8) (v : BitVec 32) (d : BitVec 8) (x : Nat) (i : Instr) (s : State),
      (x, i) ∈ ([(v.toNat % 4096, .portTxWrite ini k v), (v.toNat % 4096, .registerWrite ini (R.GPIO_PORT_TX k.val) 4 ((v).zeroExtend 64)), (0x100, .i2cStart ini k), (0x200 + d.toNat, .i2cWrite ini k d), (0x300, .i2cReadAck ini k), (0x400, .i2cReadNack ini k), (0x500, .i2cStop ini k)] : List (Nat × Instr)) →
      s.sends ini true (R.GPIO_PORT_TX k.val) = true →
      ¬ ((s.port k.val).tx.length < 16 ∧ (s.get (F.GPIO_PORT_CFG_MODE k.val) ≠ 3 ∨ 1 ≤ x / 256 ∧ x / 256 ≤ 5)) →
      ∃ t, exec i s = .next t
        ∧ t.respCode ini = 2
        ∧ t = { s with regs := t.regs, irq := t.irq, berrAt := t.berrAt, engines := t.engines, spine := t.spine, sec := { s.sec with tapOut := t.sec.tapOut } }
        ∧ (∀ adr, adr ∉ (berrRegs : List Nat) → t.rd adr = s.rd adr)
        ∧ (∀ key, key ∉ (iniEngines ini : List Nat) → t.engine key = s.engine key)
        ∧ (∀ num dr, num ∉ ([904, 905] : List Nat) → t.slot num dr = s.slot num dr)) ∧
  (∀ (k : Fin 8) (w : Nat) (data : BitVec 8) (nack : Bool) (e : Nat) (r q : List Nat) (get lost na : Bool) (s : State),
      (s.port k.val).tx = e :: r →
      (s.get (F.GPIO_PORT_CFG_MODE k.val) ≠ 0 ∧ (s.port k.val).at_ + (if s.get (F.GPIO_PORT_CFG_MODE k.val) = 1 then (10 + (if s.get (F.GPIO_PORT_CFG_OPT k.val) % 4 = 0 then 0 else 1) + s.get (F.GPIO_PORT_CFG_OPT k.val) / 4 % 2) * (16 * (s.get (F.GPIO_PORT_CFG_DIV k.val) + 1)) * 2 else if s.get (F.GPIO_PORT_CFG_MODE k.val) = 2 then 8 * (2 * (s.get (F.GPIO_PORT_CFG_DIV k.val) + 1)) * 2 else (if e / 256 % 16 = 1 ∨ e / 256 % 16 = 5 then 1 else 9) * (4 * (s.get (F.GPIO_PORT_CFG_DIV k.val) + 1)) * 2) ≤ max s.now w) →
      get = (decide (s.get (F.GPIO_PORT_CFG_MODE k.val) = 2) || decide (s.get (F.GPIO_PORT_CFG_MODE k.val) = 3) && (decide (e / 256 % 16 = 3) || decide (e / 256 % 16 = 4))) →
      lost = (get && decide (16 ≤ (s.port k.val).rx.length)) →
      na = (decide (s.get (F.GPIO_PORT_CFG_MODE k.val) = 3) && decide (e / 256 % 16 = 2) && nack) →
      q = (s.port k.val).rx ++ (if get = true ∧ lost = false then [data.toNat] else []) →
      ∃ t, exec (.portTransferDone k w (.sent data nack)) s = .next t
        ∧ t.port k.val = { tx := r, rx := q, at_ := max s.now w }
        ∧ t.rd (R.GPIO_PORT_STAT k.val) = setBitsOf (setBitsOf (setBitsOf (setBitsOf (setBitsOf (s.rd (R.GPIO_PORT_STAT k.val)) 20 16 (r).length) 12 8 (q).length) 0 0 (if r = [] then 0 else 1)) 3 3 (if lost = true then 1 else bitsOf (s.rd (R.GPIO_PORT_STAT k.val)) 3 3)) 4 4 (if na = true then 1 else bitsOf (s.rd (R.GPIO_PORT_STAT k.val)) 4 4)
        ∧ (r = [] ∨ get = true ∧ (s.port k.val).rx = [] ∨ lost = true ∨ na = true → t.isPending (524 + 16 * k.val) = true)
        ∧ (∀ key, key ∉ ([k.val] : List Nat) → t.port key = s.port key)
        ∧ t = { s with now := max s.now w, regs := t.regs, irq := t.irq, gpio := { s.gpio with ports := t.gpio.ports } }
        ∧ (∀ adr, adr ∉ ((R.GPIO_PORT_STAT k.val) :: coalesced : List Nat) → t.rd adr = s.rd adr)
        ∧ (∀ num dr, num ∉ (if r = [] ∨ get = true ∧ (s.port k.val).rx = [] ∨ lost = true ∨ na = true then [524 + 16 * k.val] else [] : List Nat) → t.slot num dr = s.slot num dr)) ∧
  (∀ (k : Fin 8) (w : Nat) (data : BitVec 8) (nack : Bool) (s : State),
      (match (s.port k.val).tx with | e :: _ => !(decide (s.get (F.GPIO_PORT_CFG_MODE k.val) ≠ 0 ∧ (s.port k.val).at_ + (if s.get (F.GPIO_PORT_CFG_MODE k.val) = 1 then (10 + (if s.get (F.GPIO_PORT_CFG_OPT k.val) % 4 = 0 then 0 else 1) + s.get (F.GPIO_PORT_CFG_OPT k.val) / 4 % 2) * (16 * (s.get (F.GPIO_PORT_CFG_DIV k.val) + 1)) * 2 else if s.get (F.GPIO_PORT_CFG_MODE k.val) = 2 then 8 * (2 * (s.get (F.GPIO_PORT_CFG_DIV k.val) + 1)) * 2 else (if e / 256 % 16 = 1 ∨ e / 256 % 16 = 5 then 1 else 9) * (4 * (s.get (F.GPIO_PORT_CFG_DIV k.val) + 1)) * 2) ≤ max s.now w)) | [] => true) = true →
      ∃ t, exec (.portTransferDone k w (.sent data nack)) s = .next t
        ∧ t = { s with now := max s.now w }) ∧
  (∀ (k : Fin 8) (w : Nat) (data : BitVec 8) (pe fe : Bool) (q : List Nat) (s : State),
      s.get (F.GPIO_PORT_CFG_MODE k.val) = 1 →
      q = (s.port k.val).rx ++ (if 16 ≤ (s.port k.val).rx.length then [] else [data.toNat]) →
      ∃ t, exec (.portTransferDone k w (.received data pe fe)) s = .next t
        ∧ t.port k.val = { s.port k.val with rx := q }
        ∧ t.rd (R.GPIO_PORT_STAT k.val) = setBitsOf (setBitsOf (setBitsOf (if 16 ≤ (s.port k.val).rx.length then s.rd (R.GPIO_PORT_STAT k.val) else setBitsOf (setBitsOf (setBitsOf (s.rd (R.GPIO_PORT_STAT k.val)) 20 16 ((s.port k.val).tx).length) 12 8 (q).length) 0 0 (if (s.port k.val).tx = [] then 0 else 1)) 3 3 (if 16 ≤ (s.port k.val).rx.length then 1 else bitsOf (s.rd (R.GPIO_PORT_STAT k.val)) 3 3)) 2 2 (if pe = true ∧ s.get (F.GPIO_PORT_CFG_OPT k.val) % 4 ≠ 0 then 1 else bitsOf (s.rd (R.GPIO_PORT_STAT k.val)) 2 2)) 1 1 (if fe = true then 1 else bitsOf (s.rd (R.GPIO_PORT_STAT k.val)) 1 1)
        ∧ ((s.port k.val).rx = [] ∨ 16 ≤ (s.port k.val).rx.length ∨ pe = true ∧ s.get (F.GPIO_PORT_CFG_OPT k.val) % 4 ≠ 0 ∨ fe = true → t.isPending (524 + 16 * k.val) = true)
        ∧ (∀ key, key ∉ ([k.val] : List Nat) → t.port key = s.port key)
        ∧ t = { s with now := max s.now w, regs := t.regs, irq := t.irq, gpio := { s.gpio with ports := t.gpio.ports } }
        ∧ (∀ adr, adr ∉ ((R.GPIO_PORT_STAT k.val) :: coalesced : List Nat) → t.rd adr = s.rd adr)
        ∧ (∀ num dr, num ∉ (if (s.port k.val).rx = [] ∨ 16 ≤ (s.port k.val).rx.length ∨ pe = true ∧ s.get (F.GPIO_PORT_CFG_OPT k.val) % 4 ≠ 0 ∨ fe = true then [524 + 16 * k.val] else [] : List Nat) → t.slot num dr = s.slot num dr)) ∧
  (∀ (k : Fin 8) (w : Nat) (data : BitVec 8) (pe fe : Bool) (s : State),
      s.get (F.GPIO_PORT_CFG_MODE k.val) ≠ 1 →
      ∃ t, exec (.portTransferDone k w (.received data pe fe)) s = .next t
        ∧ t = { s with now := max s.now w }) ∧
  (∀ (ini : Initiator) (k : Fin 8) (l : List Nat) (i : Instr) (s : State),
      i ∈ ([.portRxRead ini k, .rcRead ini (R.GPIO_PORT_RX k.val) 4] : List Instr) →
      s.sends ini false (R.GPIO_PORT_RX k.val) = true →
      (s.port k.val).rx = l →
      ∃ t, exec i s = .next t
        ∧ t.respCode ini = 0
        ∧ t.respData ini = (match l with | d :: _ => BitVec.ofNat 64 ((2 ^ 31 + d) % 2 ^ 32) | [] => 0)
        ∧ t.port k.val = { s.port k.val with rx := l.tail }
        ∧ t.rd (R.GPIO_PORT_STAT k.val) = setBitsOf (setBitsOf (setBitsOf (s.rd (R.GPIO_PORT_STAT k.val)) 20 16 ((s.port k.val).tx).length) 12 8 (l.tail).length) 0 0 (if (s.port k.val).tx = [] then 0 else 1)
        ∧ (∀ key, key ∉ ([k.val] : List Nat) → t.port key = s.port key)
        ∧ t = { s with regs := t.regs, gpio := { s.gpio with ports := t.gpio.ports }, spine := t.spine, sec := { s.sec with tapOut := t.sec.tapOut } }
        ∧ (∀ adr, adr ∉ ([R.GPIO_PORT_STAT k.val] : List Nat) → t.rd adr = s.rd adr)) ∧
  (∀ (ini : Initiator) (k : Fin 8) (v : BitVec 64) (s : State),
      s.sends ini true (R.GPIO_PORT_CFG k.val) = true →
      ¬ (bitsOf (v.truncate 32) 31 30 = 1 ∧ bitsOf (v.truncate 32) 1 0 = 3) →
      ∃ t, exec (.registerWrite ini (R.GPIO_PORT_CFG k.val) 4 v) s = .next t
        ∧ t.respCode ini = 0
        ∧ t.rd (R.GPIO_PORT_CFG k.val) = v.truncate 32 &&& 0xCFFF000F#32
        ∧ t.port k.val = { s.port k.val with at_ := s.now }
        ∧ (∀ key, key ∉ ([k.val] : List Nat) → t.port key = s.port key)
        ∧ t.rd (R.GPIO_PORT_STAT k.val) = setBitsOf (setBitsOf (setBitsOf (s.rd (R.GPIO_PORT_STAT k.val)) 20 16 ((s.port k.val).tx).length) 12 8 ((s.port k.val).rx).length) 0 0 (if (s.port k.val).tx = [] then 0 else 1)
        ∧ t = { s with regs := t.regs, gpio := { s.gpio with ports := t.gpio.ports }, spine := t.spine, sec := { s.sec with tapOut := t.sec.tapOut } }
        ∧ (∀ adr, adr ∉ ([R.GPIO_PORT_CFG k.val, R.GPIO_PORT_STAT k.val] : List Nat) → t.rd adr = s.rd adr)) ∧
  (∀ (ini : Initiator) (k : Fin 8) (v : BitVec 64) (s : State),
      s.sends ini true (R.GPIO_PORT_CFG k.val) = true →
      (bitsOf (v.truncate 32) 31 30 = 1 ∧ bitsOf (v.truncate 32) 1 0 = 3) →
      ∃ t, exec (.registerWrite ini (R.GPIO_PORT_CFG k.val) 4 v) s = .next t
        ∧ t.rd (R.GPIO_PORT_CFG k.val) = setBitsOf (v.truncate 32 &&& 0xCFFF000F#32) 1 0 (bitsOf (s.rd (R.GPIO_PORT_CFG k.val)) 1 0)
        ∧ t.port k.val = { s.port k.val with at_ := s.now }
        ∧ (∀ key, key ∉ ([k.val] : List Nat) → t.port key = s.port key)
        ∧ t.rd (R.GPIO_PORT_STAT k.val) = setBitsOf (setBitsOf (setBitsOf (s.rd (R.GPIO_PORT_STAT k.val)) 20 16 ((s.port k.val).tx).length) 12 8 ((s.port k.val).rx).length) 0 0 (if (s.port k.val).tx = [] then 0 else 1)
        ∧ t.respCode ini = 2
        ∧ t = { s with regs := t.regs, irq := t.irq, berrAt := t.berrAt, engines := t.engines, gpio := { s.gpio with ports := t.gpio.ports }, spine := t.spine, sec := { s.sec with tapOut := t.sec.tapOut } }
        ∧ (∀ adr, adr ∉ ((R.GPIO_PORT_CFG k.val) :: (R.GPIO_PORT_STAT k.val) :: berrRegs : List Nat) → t.rd adr = s.rd adr)
        ∧ (∀ key, key ∉ (iniEngines ini : List Nat) → t.engine key = s.engine key)
        ∧ (∀ num dr, num ∉ ([904, 905] : List Nat) → t.slot num dr = s.slot num dr)) ∧
  (∀ (ini : Initiator) (k : Fin 8) (v cur : BitVec 32) (a : Nat) (i : Instr) (s : State),
      i ∈ ([.pwmWrite ini k v, .registerWrite ini (R.GPIO_PWM k.val) 4 ((v).zeroExtend 64)] : List Instr) →
      s.sends ini true (R.GPIO_PWM k.val) = true →
      (2 ≤ bitsOf v 31 16 ∧ bitsOf v 15 0 ≤ bitsOf v 31 16) →
      (cur, a) = (if (Sparse.get (fun _ => {}) s.gpio.pwm k.val : PwmGen).nxtAt ≤ s.now then ((Sparse.get (fun _ => {}) s.gpio.pwm k.val : PwmGen).nxt, (Sparse.get (fun _ => {}) s.gpio.pwm k.val : PwmGen).nxtAt) else ((Sparse.get (fun _ => {}) s.gpio.pwm k.val : PwmGen).cur, (Sparse.get (fun _ => {}) s.gpio.pwm k.val : PwmGen).start)) →
      ∃ t, exec i s = .next t
        ∧ t.respCode ini = 0
        ∧ t.rd (R.GPIO_PWM k.val) = v
        ∧ (Sparse.get (fun _ => {}) t.gpio.pwm k.val : PwmGen) = { cur := cur, start := a, nxt := v, nxtAt := (if bitsOf cur 31 16 = 0 then s.now else a + ((s.now - a) / (4 * bitsOf cur 31 16) + 1) * (4 * bitsOf cur 31 16)) }
        ∧ (∀ key, key ∉ ([k.val] : List Nat) → (Sparse.get (fun _ => {}) t.gpio.pwm key : PwmGen) = Sparse.get (fun _ => {}) s.gpio.pwm key)
        ∧ t = { s with regs := t.regs, gpio := { s.gpio with pwm := t.gpio.pwm }, spine := t.spine, sec := { s.sec with tapOut := t.sec.tapOut } }
        ∧ (∀ adr, adr ∉ ([R.GPIO_PWM k.val] : List Nat) → t.rd adr = s.rd adr)) ∧
  (∀ (ini : Initiator) (k : Fin 8) (v : BitVec 32) (i : Instr) (s : State),
      i ∈ ([.pwmWrite ini k v, .registerWrite ini (R.GPIO_PWM k.val) 4 ((v).zeroExtend 64)] : List Instr) →
      s.sends ini true (R.GPIO_PWM k.val) = true →
      ¬ (2 ≤ bitsOf v 31 16 ∧ bitsOf v 15 0 ≤ bitsOf v 31 16) →
      ∃ t, exec i s = .next t
        ∧ t.respCode ini = 2
        ∧ t = { s with regs := t.regs, irq := t.irq, berrAt := t.berrAt, engines := t.engines, spine := t.spine, sec := { s.sec with tapOut := t.sec.tapOut } }
        ∧ (∀ adr, adr ∉ (berrRegs : List Nat) → t.rd adr = s.rd adr)
        ∧ (∀ key, key ∉ (iniEngines ini : List Nat) → t.engine key = s.engine key)
        ∧ (∀ num dr, num ∉ ([904, 905] : List Nat) → t.slot num dr = s.slot num dr)) ∧
  (∀ (k : Nat) (cur : BitVec 32) (a : Nat) (s : State),
      k < 8 →
      (cur, a) = (if (Sparse.get (fun _ => {}) s.gpio.pwm k : PwmGen).nxtAt ≤ s.now then ((Sparse.get (fun _ => {}) s.gpio.pwm k : PwmGen).nxt, (Sparse.get (fun _ => {}) s.gpio.pwm k : PwmGen).nxtAt) else ((Sparse.get (fun _ => {}) s.gpio.pwm k : PwmGen).cur, (Sparse.get (fun _ => {}) s.gpio.pwm k : PwmGen).start)) →
      (s.pwmLevel k = decide (2 ≤ bitsOf cur 31 16 ∧ bitsOf cur 15 0 ≤ bitsOf cur 31 16 ∧ (s.now - a) / 4 % bitsOf cur 31 16 < bitsOf cur 15 0))) ∧
  (∀ (n : Fin 128) (strap : Bool) (s : State),
      (s.pinPull strap n.val = (if (s.alive = false ∨ s.mode = M.init ∧ s.tractFree (n.val / 16 * 2) = false) then (if (if s.mode = M.reset then strap else s.bit F.GPIO_STRAPS_PULLSEL) = true then 1 else 2) else s.get (F.GPIO_GP_CFG_PULL n.val)))
        ∧ s.pullPhase n.val = decide (s.alive = false ∨ s.mode = M.init ∧ s.tractFree (n.val / 16 * 2) = false)) ∧
  (∀ (n : Fin 128) (s : State),
      (s.pinOut n.val = (if s.sec.extest = true ∧ (s.mode = M.quarantine ∨ s.mode = M.service) then none else if (s.alive = false ∨ s.mode = M.init ∧ s.tractFree (n.val / 16 * 2) = false) ∨ bitsOf (s.rd R.GPIO_BANK_STAT) (2 * (n.val / 16) + 1) (2 * (n.val / 16)) = 0 then some (false, false) else if s.get F.CFG_PR_STAT_STATE = 4 ∧ s.cfg.pr.region.contains (n.val / 8) = true ∧ s.pinFunc n.val = 1 then (if s.get (F.GPIO_GP_CFG_HOLD n.val) = 0 then some ((Sparse.get (fun _ => 0) s.cfg.pr.pins n.val).testBit 0, (Sparse.get (fun _ => 0) s.cfg.pr.pins n.val).testBit 1) else if s.get (F.GPIO_GP_CFG_HOLD n.val) = 1 then some (s.bit (F.GPIO_GP_CFG_SAFE_VAL n.val), s.bit (F.GPIO_GP_CFG_SAFE_OE n.val)) else some (false, false)) else s.pinFunction n.val))) ∧
  (∀ (n : Fin 128) (f : Nat) (s : State),
      f = s.pinFunc n.val →
      (s.pinFunction n.val = (if f = 0 then some (s.bitAt (R.GPIO_OUT (n.val / 16)) (n.val % 16), s.bitAt (R.GPIO_OE (n.val / 16)) (n.val % 16)) else if f = 1 then some ((s.rimPin n.val).getLsbD 0, (s.rimPin n.val).getLsbD 8) else if 2 ≤ f ∧ f ≤ 4 then (if (if f = 2 then s.get (F.GPIO_PORT_CFG_MODE (n.val / 16)) = 1 ∧ (n.val % 16 = 4 ∨ n.val % 16 = 6) else if f = 3 then s.get (F.GPIO_PORT_CFG_MODE (n.val / 16)) = 2 ∧ n.val % 16 ∈ [4, 5, 7] else s.get (F.GPIO_PORT_CFG_MODE (n.val / 16)) = 3) then none else some (false, false)) else if f = 6 then some (s.pwmLevel (n.val / 16) != s.bit (F.GPIO_GP_CFG_OUT_INV n.val), true) else if f = 7 then (s.serialOut n.val).map (fun x => (x.1 != s.bit (F.GPIO_GP_CFG_OUT_INV n.val), x.2)) else if f = 8 then some ((match s.snapAt with | some q => decide (s.now < q + 40) | none => false) != s.bit (F.GPIO_GP_CFG_OUT_INV n.val), true) else if f = 9 then some ((s.clkoutLevel (n.val % 4) s.vcoNow).1 != s.bit (F.GPIO_GP_CFG_OUT_INV n.val), true) else if f = 10 then some (false, false) else if f = 11 then some (false, decide (s.mode = M.hold)) else none)))

/-- Every step keeps the register file in its canonical form (R4, R5, R6, R12). For every state whose register list is canonical (addresses rising strictly, no entry equal to the reset value of its register), the next state of a step has a canonical register list too, whatever command is at the front: equal register contents are equal data. -/
def Obligations.StepsKeepTheRegistersCanonical : Prop :=
  ∀ s t : State, s.RegsCanonical → step s = .next t → t.RegsCanonical

/-- The machine after RESET (R6, R16, R23, R41, R437, R502). State.reset is in mode VERIFY with GOLDEN 0 and cause POWER_ON, at wheel time 0, every domain ON, no command waiting, every word of memory unwritten; sources 667, 774, 813, 824 and 894 are pending on drone 0 and no other, it is the head of its chain at position 0, both PLLs use band 10, and every other unit is as its structure leaves it: empty, idle, 0. The register list and the memory are in their canonical form. That it is the first exit from RESET of a unit as shipped, and what its start has done, is the model's choice (log entries 27, 28, 29). -/
def Obligations.ResetState : Prop :=
  State.reset.mode = M.verify ∧ State.reset.get F.SYS_MODE_CAUSE = 0 ∧ State.reset.bit F.SYS_MODE_GOLDEN = false ∧ State.reset.now = 0 ∧ State.reset.pending = [] ∧
  (List.range 23).all State.reset.domOn = true ∧ (∀ a : Nat, State.reset.memWord a = gridUnwritten) ∧
  (∀ num dr : Nat, dr < 4 → State.reset.slot num dr = if dr = 0 ∧ num ∈ [667, 774, 813, 824, 894] then { pend := true } else {}) ∧
  State.reset.bit F.EMN_POS_VALID = true ∧ State.reset.get F.EMN_POS_POS = 0 ∧
  State.reset = { regs := State.reset.regs, irq := State.reset.irq, emn := { head := true }, clk := { plls := [(0, { used := some 10, choose := false }), (1, { used := some 10, choose := false })] } } ∧
  State.reset.RegsCanonical ∧ Memory.wf State.reset = true
end

