-- ==== Sys2Proof/Laws/Bits.lean ====
section
/-! SUPPORT. Sys2Proof/Laws/Bits.lean: fields of a word: reading a field after a field is replaced. -/
namespace Sys2Proof.Machine

/-- A bit of the mask of a field. -/
theorem getLsbD_maskOf (hi lo i : Nat) : (maskOf hi lo).getLsbD i = (decide (i < 32) && decide (lo ≤ i) && decide (i < lo + (hi + 1 - lo))) := by
  simp only [maskOf, BitVec.getLsbD_ofNat, Nat.testBit_mul_two_pow, Nat.testBit_two_pow_sub_one]
  by_cases h1 : i < 32 <;> by_cases h2 : lo ≤ i <;> simp [h1, h2] <;> omega

/-- A bit of a word with a field replaced. -/
theorem getLsbD_setBitsOf (w : Word) (hi lo v i : Nat) :
    (setBitsOf w hi lo v).getLsbD i =
      if lo ≤ i ∧ i < lo + (hi + 1 - lo) then decide (i < 32) && v.testBit (i - lo) else w.getLsbD i := by
  simp only [setBitsOf, BitVec.getLsbD_or, BitVec.getLsbD_and, BitVec.getLsbD_not, getLsbD_maskOf, BitVec.getLsbD_ofNat, Nat.testBit_mul_two_pow,
    Nat.testBit_mod_two_pow]
  by_cases h : i < 32
  · by_cases h1 : lo ≤ i <;> by_cases h2 : i < lo + (hi + 1 - lo)
    · have : i - lo < hi + 1 - lo := by omega
      simp [h, h1, h2, this]
    · have : ¬ i - lo < hi + 1 - lo := by omega
      simp [h, h1, h2, this]
    · simp [h, h1]
    · simp [h, h1]
  · have hw : w.getLsbD i = false := BitVec.getLsbD_of_ge w i (by omega)
    simp [h, hw]

/-- A bit of a field as a number. -/
theorem testBit_bitsOf (w : Word) (hi lo i : Nat) : (bitsOf w hi lo).testBit i = (decide (i < hi + 1 - lo) && w.getLsbD (lo + i)) := by
  simp only [bitsOf, Nat.testBit_mod_two_pow, Nat.testBit_div_two_pow, BitVec.testBit_toNat, Nat.add_comm i lo]

/-- A field that is replaced reads as the low bits of its new value. -/
theorem bitsOf_setBitsOf (w : Word) (hi lo v : Nat) (h : hi < 32) : bitsOf (setBitsOf w hi lo v) hi lo = v % 2 ^ (hi + 1 - lo) := by
  apply Nat.eq_of_testBit_eq
  intro i
  rw [testBit_bitsOf, getLsbD_setBitsOf, Nat.testBit_mod_two_pow]
  by_cases h1 : i < hi + 1 - lo
  · have h2 : lo ≤ lo + i ∧ lo + i < lo + (hi + 1 - lo) := by omega
    have h3 : lo + i < 32 := by omega
    simp [h1, h2, h3]
  · simp [h1]

/-- A field that does not meet the one replaced reads as before. -/
theorem bitsOf_setBitsOf_of_disjoint (w : Word) (hi lo hi' lo' v : Nat) (h : hi < lo' ∨ hi' < lo) (hl : lo' ≤ hi') :
    bitsOf (setBitsOf w hi' lo' v) hi lo = bitsOf w hi lo := by
  apply Nat.eq_of_testBit_eq
  intro i
  rw [testBit_bitsOf, testBit_bitsOf, getLsbD_setBitsOf]
  by_cases h1 : i < hi + 1 - lo
  · have h2 : ¬ (lo' ≤ lo + i ∧ lo + i < lo' + (hi' + 1 - lo')) := by omega
    rw [if_neg h2]
  · simp [h1]

/-- A field is below the power of two of its width. -/
theorem bitsOf_lt (w : Word) (hi lo : Nat) : bitsOf w hi lo < 2 ^ (hi + 1 - lo) := Nat.mod_lt _ (Nat.two_pow_pos _)

/-- Putting back what a field holds changes nothing. -/
theorem setBitsOf_bitsOf (w : Word) (hi lo : Nat) : setBitsOf w hi lo (bitsOf w hi lo) = w := by
  apply BitVec.eq_of_getLsbD_eq
  intro i hi'
  rw [getLsbD_setBitsOf, testBit_bitsOf]
  split
  · next h =>
    have h1 : i - lo < hi + 1 - lo := by omega
    have h2 : lo + (i - lo) = i := by omega
    simp [h1, h2, hi']
  · rfl

end Sys2Proof.Machine
end

