-- ==== Sys2Proof/Laws/Bytes.lean ====
section
/-! SUPPORT. Sys2Proof/Laws/Bytes.lean: CRC-32C as a fold over the bytes, and the lengths of byte strings. -/
namespace Sys2Proof.Machine

/-- The remainder after a string is the fold of `crcByte` over it. -/
theorem crcBytes_eq (l : List Nat) (c : BitVec 32) : crcBytes l c.toNat = (l.foldl crcByte c).toNat := by
  induction l generalizing c with
  | nil => rfl
  | cons b r ih =>
    have h : crcBytes (b :: r) c.toNat = crcBytes r (crcByte (BitVec.ofNat 32 c.toNat) b).toNat := by
      rw [crcBytes]; split <;> simp_all
    rw [h]; simp [ih]

/-- CRC-32C as a fold. -/
theorem crc32c_eq (l : List Nat) : crc32c l = l.foldl crcByte 0xFFFFFFFF#32 ^^^ 0xFFFFFFFF#32 := by
  have h := crcBytes_eq l 0xFFFFFFFF#32
  simp only [crc32c]
  rw [show (0xFFFFFFFF : Nat) = (0xFFFFFFFF#32).toNat from rfl, h]; simp

@[simp] theorem length_bytesBE (n v : Nat) : (bytesBE n v).length = n := by simp [bytesBE]
@[simp] theorem length_bytesLE (n v : Nat) : (bytesLE n v).length = n := by simp [bytesLE]
@[simp] theorem length_zeros (n : Nat) : (zeros n).length = n := by simp [zeros]

end Sys2Proof.Machine
end

