-- ==== Sys2Proof/Laws/Sparse.lean ====
section
/-! SUPPORT. Sys2Proof/Laws/Sparse.lean: reads after writes of data held by key, and every operation keeps its canonical form. -/
namespace Sys2Proof.Machine

variable {α : Type} {d : Nat → α}

/-! ## Reads -/

/-- A key that is left out reads as the default. -/
theorem Sparse.get_erase (m : Sparse α) (k : Nat) : Sparse.get d (m.filter fun e => decide (e.1 ≠ k)) k = d k := by
  induction m with
  | nil => rfl
  | cons e r ih =>
    by_cases h : e.1 = k
    · simpa [List.filter, h] using ih
    · simp only [List.filter, ne_eq, h, not_false_eq_true, decide_true, Sparse.get, if_false]
      simpa using ih

/-- A key that a filter leaves reads as before. -/
theorem Sparse.get_filter {p : Nat × α → Bool} (m : Sparse α) (k : Nat) (hp : ∀ v, p (k, v) = true) :
    Sparse.get d (m.filter p) k = Sparse.get d m k := by
  induction m with
  | nil => rfl
  | cons e r ih =>
    obtain ⟨k', v⟩ := e
    by_cases hk : k' = k
    · subst hk
      simp [List.filter, hp, Sparse.get]
    · simp only [List.filter]
      split
      · simp only [Sparse.get, if_neg hk]; exact ih
      · simp only [Sparse.get, if_neg hk]; exact ih

/-- The entry that is put in is read where no other has its key. -/
theorem Sparse.get_insert_self (m : Sparse α) (k : Nat) (v : α) (h : ∀ e ∈ m, e.1 ≠ k) : Sparse.get d (Sparse.insert k v m) k = v := by
  induction m with
  | nil => simp [Sparse.insert, Sparse.get]
  | cons e r ih =>
    have h1 : e.1 ≠ k := h e (by simp)
    simp only [Sparse.insert]
    split
    · simp [Sparse.get]
    · simp only [Sparse.get, if_neg h1]
      exact ih fun x hx => h x (by simp [hx])

/-- The other keys read as before. -/
theorem Sparse.get_insert_ne (m : Sparse α) (k : Nat) (v : α) {j : Nat} (h : j ≠ k) : Sparse.get d (Sparse.insert k v m) j = Sparse.get d m j := by
  induction m with
  | nil => simp [Sparse.insert, Sparse.get, Ne.symm h]
  | cons e r ih =>
    simp only [Sparse.insert]
    split
    · simp [Sparse.get, Ne.symm h]
    · simp only [Sparse.get]; split
      · rfl
      · exact ih

/-- A write is read back. -/
@[simp] theorem Sparse.get_put_self [DecidableEq α] (m : Sparse α) (k : Nat) (v : α) : Sparse.get d (Sparse.put d m k v) k = v := by
  simp only [Sparse.put]
  split
  · next e => rw [Sparse.get_erase, e]
  · exact Sparse.get_insert_self _ _ _ fun e he => by simpa using (List.mem_filter.mp he).2

/-- A write leaves every other key as it was. -/
theorem Sparse.get_put_ne [DecidableEq α] (m : Sparse α) {k j : Nat} (v : α) (h : j ≠ k) : Sparse.get d (Sparse.put d m k v) j = Sparse.get d m j := by
  have hf : Sparse.get d (m.filter fun e => decide (e.1 ≠ k)) j = Sparse.get d m j := Sparse.get_filter m j fun _ => by simpa using h
  simp only [Sparse.put]
  split
  · exact hf
  · rw [Sparse.get_insert_ne _ _ _ h]; exact hf

/-- A read after a write. -/
theorem Sparse.get_put [DecidableEq α] (m : Sparse α) (k j : Nat) (v : α) :
    Sparse.get d (Sparse.put d m k v) j = if j = k then v else Sparse.get d m j := by
  split
  · next e => subst e; exact Sparse.get_put_self m j v
  · next e => exact Sparse.get_put_ne m v e

/-! ## The canonical form -/

variable [DecidableEq α]

/-- Canonical from `lo` on is canonical from below. -/
theorem Sparse.wfFrom_mono {m : Sparse α} {lo lo' : Nat} (h : Sparse.wfFrom d lo m = true) (hl : lo' ≤ lo) : Sparse.wfFrom d lo' m = true := by
  cases m with
  | nil => rfl
  | cons e r =>
    obtain ⟨k', v⟩ := e
    simp only [Sparse.wfFrom, Bool.and_eq_true, decide_eq_true_eq] at h ⊢
    exact ⟨⟨by omega, h.1.2⟩, h.2⟩

/-- Leaving entries out keeps the canonical form. -/
theorem Sparse.wfFrom_filter {m : Sparse α} {lo : Nat} (p : Nat × α → Bool) (h : Sparse.wfFrom d lo m = true) :
    Sparse.wfFrom d lo (m.filter p) = true := by
  induction m generalizing lo with
  | nil => rfl
  | cons e r ih =>
    obtain ⟨k, v⟩ := e
    simp only [Sparse.wfFrom, Bool.and_eq_true, decide_eq_true_eq] at h
    simp only [List.filter]
    split
    · simp only [Sparse.wfFrom, Bool.and_eq_true, decide_eq_true_eq]
      exact ⟨h.1, ih h.2⟩
    · exact Sparse.wfFrom_mono (ih h.2) (by omega)

/-- Putting in an entry that is not the default, with a key that is not there, keeps the canonical form. -/
theorem Sparse.wfFrom_insert {m : Sparse α} {lo k : Nat} {v : α} (h : Sparse.wfFrom d lo m = true) (hv : v ≠ d k) (hm : ∀ e ∈ m, e.1 ≠ k) :
    Sparse.wfFrom d (min lo k) (Sparse.insert k v m) = true := by
  induction m generalizing lo with
  | nil => simp [Sparse.insert, Sparse.wfFrom, hv]
  | cons e r ih =>
    obtain ⟨k', w⟩ := e
    have hne : k' ≠ k := hm (k', w) (by simp)
    simp only [Sparse.wfFrom, Bool.and_eq_true, decide_eq_true_eq] at h
    simp only [Sparse.insert]
    split
    · next hk =>
      simp only [Sparse.wfFrom, Bool.and_eq_true, decide_eq_true_eq]
      exact ⟨⟨by omega, hv⟩, ⟨by omega, h.1.2⟩, h.2⟩
    · simp only [Sparse.wfFrom, Bool.and_eq_true, decide_eq_true_eq]
      exact ⟨⟨by omega, h.1.2⟩, Sparse.wfFrom_mono (ih h.2 fun e he => hm e (by simp [he])) (by omega)⟩

/-- A write keeps the canonical form. -/
theorem Sparse.wf_put {m : Sparse α} (k : Nat) (v : α) (h : Sparse.wf d m = true) : Sparse.wf d (Sparse.put d m k v) = true := by
  have hf := Sparse.wfFrom_filter (fun e => decide (e.1 ≠ k)) h
  simp only [Sparse.put, Sparse.wf]
  split
  · exact hf
  · next hv =>
    exact Sparse.wfFrom_mono (Sparse.wfFrom_insert hf hv fun e he => by simpa using (List.mem_filter.mp he).2) (Nat.zero_le _)

/-- Leaving entries out keeps the canonical form. -/
theorem Sparse.wf_filter {m : Sparse α} (p : Nat × α → Bool) (h : Sparse.wf d m = true) : Sparse.wf d (m.filter p) = true :=
  Sparse.wfFrom_filter p h

/-- Clearing a range keeps the canonical form. -/
theorem Sparse.wf_clear {m : Sparse α} (lo hi : Nat) (h : Sparse.wf d m = true) : Sparse.wf d (Sparse.clear lo hi m) = true :=
  Sparse.wf_filter _ h

/-- Changing the values of entries and leaving out those that reach the default keeps the canonical form. -/
theorem Sparse.wfFrom_filterMap {m : Sparse α} {lo : Nat} (f : Nat × α → Option (Nat × α))
    (hf : ∀ e x, f e = some x → x.1 = e.1 ∧ x.2 ≠ d e.1) (h : Sparse.wfFrom d lo m = true) : Sparse.wfFrom d lo (m.filterMap f) = true := by
  induction m generalizing lo with
  | nil => rfl
  | cons e r ih =>
    obtain ⟨k, v⟩ := e
    simp only [Sparse.wfFrom, Bool.and_eq_true, decide_eq_true_eq] at h
    simp only [List.filterMap]
    split
    · exact Sparse.wfFrom_mono (ih h.2) (by omega)
    · next x hx =>
      obtain ⟨h1, h2⟩ := hf _ _ hx
      obtain ⟨k2, v2⟩ := x
      simp only at h1 h2
      subst h1
      simp only [Sparse.wfFrom, Bool.and_eq_true, decide_eq_true_eq]
      exact ⟨⟨h.1.1, h2⟩, ih h.2⟩

end Sys2Proof.Machine
end

