-- ==== Sys2Proof/Laws/State.lean ====
section
/-! SUPPORT. Sys2Proof/Laws/State.lean: what each update of the state leaves as it is, one lemma per field and per reader, and what a reader
finds after an update of its own unit. -/
namespace Sys2Proof.Machine

/-! ### State.wr -/

@[simp] theorem State.now_wr (s : State) (a : Nat) (w : Word) : (s.wr a w).now = s.now := rfl
@[simp] theorem State.free_wr (s : State) (a : Nat) (w : Word) : (s.wr a w).free = s.free := rfl
@[simp] theorem State.spine_wr (s : State) (a : Nat) (w : Word) : (s.wr a w).spine = s.spine := rfl
@[simp] theorem State.mem_wr (s : State) (a : Nat) (w : Word) : (s.wr a w).mem = s.mem := rfl
@[simp] theorem State.modeCtl_wr (s : State) (a : Nat) (w : Word) : (s.wr a w).modeCtl = s.modeCtl := rfl
@[simp] theorem State.irq_wr (s : State) (a : Nat) (w : Word) : (s.wr a w).irq = s.irq := rfl
@[simp] theorem State.drones_wr (s : State) (a : Nat) (w : Word) : (s.wr a w).drones = s.drones := rfl
@[simp] theorem State.scrub_wr (s : State) (a : Nat) (w : Word) : (s.wr a w).scrub = s.scrub := rfl
@[simp] theorem State.trackers_wr (s : State) (a : Nat) (w : Word) : (s.wr a w).trackers = s.trackers := rfl
@[simp] theorem State.doms_wr (s : State) (a : Nat) (w : Word) : (s.wr a w).doms = s.doms := rfl
@[simp] theorem State.tick_wr (s : State) (a : Nat) (w : Word) : (s.wr a w).tick = s.tick := rfl
@[simp] theorem State.wheel_wr (s : State) (a : Nat) (w : Word) : (s.wr a w).wheel = s.wheel := rfl
@[simp] theorem State.sessions_wr (s : State) (a : Nat) (w : Word) : (s.wr a w).sessions = s.sessions := rfl
@[simp] theorem State.ivw_wr (s : State) (a : Nat) (w : Word) : (s.wr a w).ivw = s.ivw := rfl
@[simp] theorem State.emnPorts_wr (s : State) (a : Nat) (w : Word) : (s.wr a w).emnPorts = s.emnPorts := rfl
@[simp] theorem State.emn_wr (s : State) (a : Nat) (w : Word) : (s.wr a w).emn = s.emn := rfl
@[simp] theorem State.clk_wr (s : State) (a : Nat) (w : Word) : (s.wr a w).clk = s.clk := rfl
@[simp] theorem State.ptp_wr (s : State) (a : Nat) (w : Word) : (s.wr a w).ptp = s.ptp := rfl
@[simp] theorem State.net_wr (s : State) (a : Nat) (w : Word) : (s.wr a w).net = s.net := rfl
@[simp] theorem State.capWait_wr (s : State) (a : Nat) (w : Word) : (s.wr a w).capWait = s.capWait := rfl
@[simp] theorem State.snapAt_wr (s : State) (a : Nat) (w : Word) : (s.wr a w).snapAt = s.snapAt := rfl
@[simp] theorem State.syncIn_wr (s : State) (a : Nat) (w : Word) : (s.wr a w).syncIn = s.syncIn := rfl
@[simp] theorem State.pairs_wr (s : State) (a : Nat) (w : Word) : (s.wr a w).pairs = s.pairs := rfl
@[simp] theorem State.claims_wr (s : State) (a : Nat) (w : Word) : (s.wr a w).claims = s.claims := rfl
@[simp] theorem State.notes_wr (s : State) (a : Nat) (w : Word) : (s.wr a w).notes = s.notes := rfl
@[simp] theorem State.engines_wr (s : State) (a : Nat) (w : Word) : (s.wr a w).engines = s.engines := rfl
@[simp] theorem State.lanes_wr (s : State) (a : Nat) (w : Word) : (s.wr a w).lanes = s.lanes := rfl
@[simp] theorem State.adcs_wr (s : State) (a : Nat) (w : Word) : (s.wr a w).adcs = s.adcs := rfl
@[simp] theorem State.monNext_wr (s : State) (a : Nat) (w : Word) : (s.wr a w).monNext = s.monNext := rfl
@[simp] theorem State.filters_wr (s : State) (a : Nat) (w : Word) : (s.wr a w).filters = s.filters := rfl
@[simp] theorem State.berrAt_wr (s : State) (a : Nat) (w : Word) : (s.wr a w).berrAt = s.berrAt := rfl
@[simp] theorem State.fab_wr (s : State) (a : Nat) (w : Word) : (s.wr a w).fab = s.fab := rfl
@[simp] theorem State.pwr_wr (s : State) (a : Nat) (w : Word) : (s.wr a w).pwr = s.pwr := rfl
@[simp] theorem State.stalls_wr (s : State) (a : Nat) (w : Word) : (s.wr a w).stalls = s.stalls := rfl
@[simp] theorem State.supply_wr (s : State) (a : Nat) (w : Word) : (s.wr a w).supply = s.supply := rfl
@[simp] theorem State.shadow_wr (s : State) (a : Nat) (w : Word) : (s.wr a w).shadow = s.shadow := rfl
@[simp] theorem State.flash_wr (s : State) (a : Nat) (w : Word) : (s.wr a w).flash = s.flash := rfl
@[simp] theorem State.cfg_wr (s : State) (a : Nat) (w : Word) : (s.wr a w).cfg = s.cfg := rfl
@[simp] theorem State.bist_wr (s : State) (a : Nat) (w : Word) : (s.wr a w).bist = s.bist := rfl
@[simp] theorem State.sec_wr (s : State) (a : Nat) (w : Word) : (s.wr a w).sec = s.sec := rfl
@[simp] theorem State.gpio_wr (s : State) (a : Nat) (w : Word) : (s.wr a w).gpio = s.gpio := rfl
@[simp] theorem State.lastNet_wr (s : State) (a : Nat) (w : Word) : (s.wr a w).lastNet = s.lastNet := rfl
@[simp] theorem State.responder_wr (s : State) (a : Nat) (w : Word) : (s.wr a w).responder = s.responder := rfl
@[simp] theorem State.pending_wr (s : State) (a : Nat) (w : Word) : (s.wr a w).pending = s.pending := rfl
@[simp] theorem State.fresh_wr (s : State) (a : Nat) (w : Word) : (s.wr a w).fresh = s.fresh := rfl
@[simp] theorem State.slot_wr (s : State) (a : Nat) (w : Word) (j l : Nat) : (s.wr a w).slot j l = s.slot j l := rfl
@[simp] theorem State.drone_wr (s : State) (a : Nat) (w : Word) (j : Nat) : (s.wr a w).drone j = s.drone j := rfl
@[simp] theorem State.tracker_wr (s : State) (a : Nat) (w : Word) (j : Nat) : (s.wr a w).tracker j = s.tracker j := rfl
@[simp] theorem State.dom_wr (s : State) (a : Nat) (w : Word) (j : Nat) : (s.wr a w).dom j = s.dom j := rfl
@[simp] theorem State.session_wr (s : State) (a : Nat) (w : Word) (j : Nat) : (s.wr a w).session j = s.session j := rfl
@[simp] theorem State.emnPort_wr (s : State) (a : Nat) (w : Word) (j : Nat) : (s.wr a w).emnPort j = s.emnPort j := rfl
@[simp] theorem State.pair_wr (s : State) (a : Nat) (w : Word) (j : Nat) : (s.wr a w).pair j = s.pair j := rfl
@[simp] theorem State.engine_wr (s : State) (a : Nat) (w : Word) (j : Nat) : (s.wr a w).engine j = s.engine j := rfl
@[simp] theorem State.lane_wr (s : State) (a : Nat) (w : Word) (j : Nat) : (s.wr a w).lane j = s.lane j := rfl
@[simp] theorem State.adc_wr (s : State) (a : Nat) (w : Word) (j : Nat) : (s.wr a w).adc j = s.adc j := rfl
@[simp] theorem State.pwrDom_wr (s : State) (a : Nat) (w : Word) (j : Nat) : (s.wr a w).pwrDom j = s.pwrDom j := rfl
@[simp] theorem State.memWord_wr (s : State) (a : Nat) (w : Word) (j : Nat) : (s.wr a w).memWord j = s.memWord j := rfl

/-! ### State.set -/

@[simp] theorem State.now_set (s : State) (f : FieldAt) (v : Nat) : (s.set f v).now = s.now := rfl
@[simp] theorem State.free_set (s : State) (f : FieldAt) (v : Nat) : (s.set f v).free = s.free := rfl
@[simp] theorem State.spine_set (s : State) (f : FieldAt) (v : Nat) : (s.set f v).spine = s.spine := rfl
@[simp] theorem State.mem_set (s : State) (f : FieldAt) (v : Nat) : (s.set f v).mem = s.mem := rfl
@[simp] theorem State.modeCtl_set (s : State) (f : FieldAt) (v : Nat) : (s.set f v).modeCtl = s.modeCtl := rfl
@[simp] theorem State.irq_set (s : State) (f : FieldAt) (v : Nat) : (s.set f v).irq = s.irq := rfl
@[simp] theorem State.drones_set (s : State) (f : FieldAt) (v : Nat) : (s.set f v).drones = s.drones := rfl
@[simp] theorem State.scrub_set (s : State) (f : FieldAt) (v : Nat) : (s.set f v).scrub = s.scrub := rfl
@[simp] theorem State.trackers_set (s : State) (f : FieldAt) (v : Nat) : (s.set f v).trackers = s.trackers := rfl
@[simp] theorem State.doms_set (s : State) (f : FieldAt) (v : Nat) : (s.set f v).doms = s.doms := rfl
@[simp] theorem State.tick_set (s : State) (f : FieldAt) (v : Nat) : (s.set f v).tick = s.tick := rfl
@[simp] theorem State.wheel_set (s : State) (f : FieldAt) (v : Nat) : (s.set f v).wheel = s.wheel := rfl
@[simp] theorem State.sessions_set (s : State) (f : FieldAt) (v : Nat) : (s.set f v).sessions = s.sessions := rfl
@[simp] theorem State.ivw_set (s : State) (f : FieldAt) (v : Nat) : (s.set f v).ivw = s.ivw := rfl
@[simp] theorem State.emnPorts_set (s : State) (f : FieldAt) (v : Nat) : (s.set f v).emnPorts = s.emnPorts := rfl
@[simp] theorem State.emn_set (s : State) (f : FieldAt) (v : Nat) : (s.set f v).emn = s.emn := rfl
@[simp] theorem State.clk_set (s : State) (f : FieldAt) (v : Nat) : (s.set f v).clk = s.clk := rfl
@[simp] theorem State.ptp_set (s : State) (f : FieldAt) (v : Nat) : (s.set f v).ptp = s.ptp := rfl
@[simp] theorem State.net_set (s : State) (f : FieldAt) (v : Nat) : (s.set f v).net = s.net := rfl
@[simp] theorem State.capWait_set (s : State) (f : FieldAt) (v : Nat) : (s.set f v).capWait = s.capWait := rfl
@[simp] theorem State.snapAt_set (s : State) (f : FieldAt) (v : Nat) : (s.set f v).snapAt = s.snapAt := rfl
@[simp] theorem State.syncIn_set (s : State) (f : FieldAt) (v : Nat) : (s.set f v).syncIn = s.syncIn := rfl
@[simp] theorem State.pairs_set (s : State) (f : FieldAt) (v : Nat) : (s.set f v).pairs = s.pairs := rfl
@[simp] theorem State.claims_set (s : State) (f : FieldAt) (v : Nat) : (s.set f v).claims = s.claims := rfl
@[simp] theorem State.notes_set (s : State) (f : FieldAt) (v : Nat) : (s.set f v).notes = s.notes := rfl
@[simp] theorem State.engines_set (s : State) (f : FieldAt) (v : Nat) : (s.set f v).engines = s.engines := rfl
@[simp] theorem State.lanes_set (s : State) (f : FieldAt) (v : Nat) : (s.set f v).lanes = s.lanes := rfl
@[simp] theorem State.adcs_set (s : State) (f : FieldAt) (v : Nat) : (s.set f v).adcs = s.adcs := rfl
@[simp] theorem State.monNext_set (s : State) (f : FieldAt) (v : Nat) : (s.set f v).monNext = s.monNext := rfl
@[simp] theorem State.filters_set (s : State) (f : FieldAt) (v : Nat) : (s.set f v).filters = s.filters := rfl
@[simp] theorem State.berrAt_set (s : State) (f : FieldAt) (v : Nat) : (s.set f v).berrAt = s.berrAt := rfl
@[simp] theorem State.fab_set (s : State) (f : FieldAt) (v : Nat) : (s.set f v).fab = s.fab := rfl
@[simp] theorem State.pwr_set (s : State) (f : FieldAt) (v : Nat) : (s.set f v).pwr = s.pwr := rfl
@[simp] theorem State.stalls_set (s : State) (f : FieldAt) (v : Nat) : (s.set f v).stalls = s.stalls := rfl
@[simp] theorem State.supply_set (s : State) (f : FieldAt) (v : Nat) : (s.set f v).supply = s.supply := rfl
@[simp] theorem State.shadow_set (s : State) (f : FieldAt) (v : Nat) : (s.set f v).shadow = s.shadow := rfl
@[simp] theorem State.flash_set (s : State) (f : FieldAt) (v : Nat) : (s.set f v).flash = s.flash := rfl
@[simp] theorem State.cfg_set (s : State) (f : FieldAt) (v : Nat) : (s.set f v).cfg = s.cfg := rfl
@[simp] theorem State.bist_set (s : State) (f : FieldAt) (v : Nat) : (s.set f v).bist = s.bist := rfl
@[simp] theorem State.sec_set (s : State) (f : FieldAt) (v : Nat) : (s.set f v).sec = s.sec := rfl
@[simp] theorem State.gpio_set (s : State) (f : FieldAt) (v : Nat) : (s.set f v).gpio = s.gpio := rfl
@[simp] theorem State.lastNet_set (s : State) (f : FieldAt) (v : Nat) : (s.set f v).lastNet = s.lastNet := rfl
@[simp] theorem State.responder_set (s : State) (f : FieldAt) (v : Nat) : (s.set f v).responder = s.responder := rfl
@[simp] theorem State.pending_set (s : State) (f : FieldAt) (v : Nat) : (s.set f v).pending = s.pending := rfl
@[simp] theorem State.fresh_set (s : State) (f : FieldAt) (v : Nat) : (s.set f v).fresh = s.fresh := rfl
@[simp] theorem State.slot_set (s : State) (f : FieldAt) (v : Nat) (j l : Nat) : (s.set f v).slot j l = s.slot j l := rfl
@[simp] theorem State.drone_set (s : State) (f : FieldAt) (v : Nat) (j : Nat) : (s.set f v).drone j = s.drone j := rfl
@[simp] theorem State.tracker_set (s : State) (f : FieldAt) (v : Nat) (j : Nat) : (s.set f v).tracker j = s.tracker j := rfl
@[simp] theorem State.dom_set (s : State) (f : FieldAt) (v : Nat) (j : Nat) : (s.set f v).dom j = s.dom j := rfl
@[simp] theorem State.session_set (s : State) (f : FieldAt) (v : Nat) (j : Nat) : (s.set f v).session j = s.session j := rfl
@[simp] theorem State.emnPort_set (s : State) (f : FieldAt) (v : Nat) (j : Nat) : (s.set f v).emnPort j = s.emnPort j := rfl
@[simp] theorem State.pair_set (s : State) (f : FieldAt) (v : Nat) (j : Nat) : (s.set f v).pair j = s.pair j := rfl
@[simp] theorem State.engine_set (s : State) (f : FieldAt) (v : Nat) (j : Nat) : (s.set f v).engine j = s.engine j := rfl
@[simp] theorem State.lane_set (s : State) (f : FieldAt) (v : Nat) (j : Nat) : (s.set f v).lane j = s.lane j := rfl
@[simp] theorem State.adc_set (s : State) (f : FieldAt) (v : Nat) (j : Nat) : (s.set f v).adc j = s.adc j := rfl
@[simp] theorem State.pwrDom_set (s : State) (f : FieldAt) (v : Nat) (j : Nat) : (s.set f v).pwrDom j = s.pwrDom j := rfl
@[simp] theorem State.memWord_set (s : State) (f : FieldAt) (v : Nat) (j : Nat) : (s.set f v).memWord j = s.memWord j := rfl

/-! ### State.setBitAt -/

@[simp] theorem State.now_setBitAt (s : State) (a i : Nat) : (s.setBitAt a i).now = s.now := rfl
@[simp] theorem State.free_setBitAt (s : State) (a i : Nat) : (s.setBitAt a i).free = s.free := rfl
@[simp] theorem State.spine_setBitAt (s : State) (a i : Nat) : (s.setBitAt a i).spine = s.spine := rfl
@[simp] theorem State.mem_setBitAt (s : State) (a i : Nat) : (s.setBitAt a i).mem = s.mem := rfl
@[simp] theorem State.modeCtl_setBitAt (s : State) (a i : Nat) : (s.setBitAt a i).modeCtl = s.modeCtl := rfl
@[simp] theorem State.irq_setBitAt (s : State) (a i : Nat) : (s.setBitAt a i).irq = s.irq := rfl
@[simp] theorem State.drones_setBitAt (s : State) (a i : Nat) : (s.setBitAt a i).drones = s.drones := rfl
@[simp] theorem State.scrub_setBitAt (s : State) (a i : Nat) : (s.setBitAt a i).scrub = s.scrub := rfl
@[simp] theorem State.trackers_setBitAt (s : State) (a i : Nat) : (s.setBitAt a i).trackers = s.trackers := rfl
@[simp] theorem State.doms_setBitAt (s : State) (a i : Nat) : (s.setBitAt a i).doms = s.doms := rfl
@[simp] theorem State.tick_setBitAt (s : State) (a i : Nat) : (s.setBitAt a i).tick = s.tick := rfl
@[simp] theorem State.wheel_setBitAt (s : State) (a i : Nat) : (s.setBitAt a i).wheel = s.wheel := rfl
@[simp] theorem State.sessions_setBitAt (s : State) (a i : Nat) : (s.setBitAt a i).sessions = s.sessions := rfl
@[simp] theorem State.ivw_setBitAt (s : State) (a i : Nat) : (s.setBitAt a i).ivw = s.ivw := rfl
@[simp] theorem State.emnPorts_setBitAt (s : State) (a i : Nat) : (s.setBitAt a i).emnPorts = s.emnPorts := rfl
@[simp] theorem State.emn_setBitAt (s : State) (a i : Nat) : (s.setBitAt a i).emn = s.emn := rfl
@[simp] theorem State.clk_setBitAt (s : State) (a i : Nat) : (s.setBitAt a i).clk = s.clk := rfl
@[simp] theorem State.ptp_setBitAt (s : State) (a i : Nat) : (s.setBitAt a i).ptp = s.ptp := rfl
@[simp] theorem State.net_setBitAt (s : State) (a i : Nat) : (s.setBitAt a i).net = s.net := rfl
@[simp] theorem State.capWait_setBitAt (s : State) (a i : Nat) : (s.setBitAt a i).capWait = s.capWait := rfl
@[simp] theorem State.snapAt_setBitAt (s : State) (a i : Nat) : (s.setBitAt a i).snapAt = s.snapAt := rfl
@[simp] theorem State.syncIn_setBitAt (s : State) (a i : Nat) : (s.setBitAt a i).syncIn = s.syncIn := rfl
@[simp] theorem State.pairs_setBitAt (s : State) (a i : Nat) : (s.setBitAt a i).pairs = s.pairs := rfl
@[simp] theorem State.claims_setBitAt (s : State) (a i : Nat) : (s.setBitAt a i).claims = s.claims := rfl
@[simp] theorem State.notes_setBitAt (s : State) (a i : Nat) : (s.setBitAt a i).notes = s.notes := rfl
@[simp] theorem State.engines_setBitAt (s : State) (a i : Nat) : (s.setBitAt a i).engines = s.engines := rfl
@[simp] theorem State.lanes_setBitAt (s : State) (a i : Nat) : (s.setBitAt a i).lanes = s.lanes := rfl
@[simp] theorem State.adcs_setBitAt (s : State) (a i : Nat) : (s.setBitAt a i).adcs = s.adcs := rfl
@[simp] theorem State.monNext_setBitAt (s : State) (a i : Nat) : (s.setBitAt a i).monNext = s.monNext := rfl
@[simp] theorem State.filters_setBitAt (s : State) (a i : Nat) : (s.setBitAt a i).filters = s.filters := rfl
@[simp] theorem State.berrAt_setBitAt (s : State) (a i : Nat) : (s.setBitAt a i).berrAt = s.berrAt := rfl
@[simp] theorem State.fab_setBitAt (s : State) (a i : Nat) : (s.setBitAt a i).fab = s.fab := rfl
@[simp] theorem State.pwr_setBitAt (s : State) (a i : Nat) : (s.setBitAt a i).pwr = s.pwr := rfl
@[simp] theorem State.stalls_setBitAt (s : State) (a i : Nat) : (s.setBitAt a i).stalls = s.stalls := rfl
@[simp] theorem State.supply_setBitAt (s : State) (a i : Nat) : (s.setBitAt a i).supply = s.supply := rfl
@[simp] theorem State.shadow_setBitAt (s : State) (a i : Nat) : (s.setBitAt a i).shadow = s.shadow := rfl
@[simp] theorem State.flash_setBitAt (s : State) (a i : Nat) : (s.setBitAt a i).flash = s.flash := rfl
@[simp] theorem State.cfg_setBitAt (s : State) (a i : Nat) : (s.setBitAt a i).cfg = s.cfg := rfl
@[simp] theorem State.bist_setBitAt (s : State) (a i : Nat) : (s.setBitAt a i).bist = s.bist := rfl
@[simp] theorem State.sec_setBitAt (s : State) (a i : Nat) : (s.setBitAt a i).sec = s.sec := rfl
@[simp] theorem State.gpio_setBitAt (s : State) (a i : Nat) : (s.setBitAt a i).gpio = s.gpio := rfl
@[simp] theorem State.lastNet_setBitAt (s : State) (a i : Nat) : (s.setBitAt a i).lastNet = s.lastNet := rfl
@[simp] theorem State.responder_setBitAt (s : State) (a i : Nat) : (s.setBitAt a i).responder = s.responder := rfl
@[simp] theorem State.pending_setBitAt (s : State) (a i : Nat) : (s.setBitAt a i).pending = s.pending := rfl
@[simp] theorem State.fresh_setBitAt (s : State) (a i : Nat) : (s.setBitAt a i).fresh = s.fresh := rfl
@[simp] theorem State.slot_setBitAt (s : State) (a i : Nat) (j l : Nat) : (s.setBitAt a i).slot j l = s.slot j l := rfl
@[simp] theorem State.drone_setBitAt (s : State) (a i : Nat) (j : Nat) : (s.setBitAt a i).drone j = s.drone j := rfl
@[simp] theorem State.tracker_setBitAt (s : State) (a i : Nat) (j : Nat) : (s.setBitAt a i).tracker j = s.tracker j := rfl
@[simp] theorem State.dom_setBitAt (s : State) (a i : Nat) (j : Nat) : (s.setBitAt a i).dom j = s.dom j := rfl
@[simp] theorem State.session_setBitAt (s : State) (a i : Nat) (j : Nat) : (s.setBitAt a i).session j = s.session j := rfl
@[simp] theorem State.emnPort_setBitAt (s : State) (a i : Nat) (j : Nat) : (s.setBitAt a i).emnPort j = s.emnPort j := rfl
@[simp] theorem State.pair_setBitAt (s : State) (a i : Nat) (j : Nat) : (s.setBitAt a i).pair j = s.pair j := rfl
@[simp] theorem State.engine_setBitAt (s : State) (a i : Nat) (j : Nat) : (s.setBitAt a i).engine j = s.engine j := rfl
@[simp] theorem State.lane_setBitAt (s : State) (a i : Nat) (j : Nat) : (s.setBitAt a i).lane j = s.lane j := rfl
@[simp] theorem State.adc_setBitAt (s : State) (a i : Nat) (j : Nat) : (s.setBitAt a i).adc j = s.adc j := rfl
@[simp] theorem State.pwrDom_setBitAt (s : State) (a i : Nat) (j : Nat) : (s.setBitAt a i).pwrDom j = s.pwrDom j := rfl
@[simp] theorem State.memWord_setBitAt (s : State) (a i : Nat) (j : Nat) : (s.setBitAt a i).memWord j = s.memWord j := rfl

/-! ### State.clrBitAt -/

@[simp] theorem State.now_clrBitAt (s : State) (a i : Nat) : (s.clrBitAt a i).now = s.now := rfl
@[simp] theorem State.free_clrBitAt (s : State) (a i : Nat) : (s.clrBitAt a i).free = s.free := rfl
@[simp] theorem State.spine_clrBitAt (s : State) (a i : Nat) : (s.clrBitAt a i).spine = s.spine := rfl
@[simp] theorem State.mem_clrBitAt (s : State) (a i : Nat) : (s.clrBitAt a i).mem = s.mem := rfl
@[simp] theorem State.modeCtl_clrBitAt (s : State) (a i : Nat) : (s.clrBitAt a i).modeCtl = s.modeCtl := rfl
@[simp] theorem State.irq_clrBitAt (s : State) (a i : Nat) : (s.clrBitAt a i).irq = s.irq := rfl
@[simp] theorem State.drones_clrBitAt (s : State) (a i : Nat) : (s.clrBitAt a i).drones = s.drones := rfl
@[simp] theorem State.scrub_clrBitAt (s : State) (a i : Nat) : (s.clrBitAt a i).scrub = s.scrub := rfl
@[simp] theorem State.trackers_clrBitAt (s : State) (a i : Nat) : (s.clrBitAt a i).trackers = s.trackers := rfl
@[simp] theorem State.doms_clrBitAt (s : State) (a i : Nat) : (s.clrBitAt a i).doms = s.doms := rfl
@[simp] theorem State.tick_clrBitAt (s : State) (a i : Nat) : (s.clrBitAt a i).tick = s.tick := rfl
@[simp] theorem State.wheel_clrBitAt (s : State) (a i : Nat) : (s.clrBitAt a i).wheel = s.wheel := rfl
@[simp] theorem State.sessions_clrBitAt (s : State) (a i : Nat) : (s.clrBitAt a i).sessions = s.sessions := rfl
@[simp] theorem State.ivw_clrBitAt (s : State) (a i : Nat) : (s.clrBitAt a i).ivw = s.ivw := rfl
@[simp] theorem State.emnPorts_clrBitAt (s : State) (a i : Nat) : (s.clrBitAt a i).emnPorts = s.emnPorts := rfl
@[simp] theorem State.emn_clrBitAt (s : State) (a i : Nat) : (s.clrBitAt a i).emn = s.emn := rfl
@[simp] theorem State.clk_clrBitAt (s : State) (a i : Nat) : (s.clrBitAt a i).clk = s.clk := rfl
@[simp] theorem State.ptp_clrBitAt (s : State) (a i : Nat) : (s.clrBitAt a i).ptp = s.ptp := rfl
@[simp] theorem State.net_clrBitAt (s : State) (a i : Nat) : (s.clrBitAt a i).net = s.net := rfl
@[simp] theorem State.capWait_clrBitAt (s : State) (a i : Nat) : (s.clrBitAt a i).capWait = s.capWait := rfl
@[simp] theorem State.snapAt_clrBitAt (s : State) (a i : Nat) : (s.clrBitAt a i).snapAt = s.snapAt := rfl
@[simp] theorem State.syncIn_clrBitAt (s : State) (a i : Nat) : (s.clrBitAt a i).syncIn = s.syncIn := rfl
@[simp] theorem State.pairs_clrBitAt (s : State) (a i : Nat) : (s.clrBitAt a i).pairs = s.pairs := rfl
@[simp] theorem State.claims_clrBitAt (s : State) (a i : Nat) : (s.clrBitAt a i).claims = s.claims := rfl
@[simp] theorem State.notes_clrBitAt (s : State) (a i : Nat) : (s.clrBitAt a i).notes = s.notes := rfl
@[simp] theorem State.engines_clrBitAt (s : State) (a i : Nat) : (s.clrBitAt a i).engines = s.engines := rfl
@[simp] theorem State.lanes_clrBitAt (s : State) (a i : Nat) : (s.clrBitAt a i).lanes = s.lanes := rfl
@[simp] theorem State.adcs_clrBitAt (s : State) (a i : Nat) : (s.clrBitAt a i).adcs = s.adcs := rfl
@[simp] theorem State.monNext_clrBitAt (s : State) (a i : Nat) : (s.clrBitAt a i).monNext = s.monNext := rfl
@[simp] theorem State.filters_clrBitAt (s : State) (a i : Nat) : (s.clrBitAt a i).filters = s.filters := rfl
@[simp] theorem State.berrAt_clrBitAt (s : State) (a i : Nat) : (s.clrBitAt a i).berrAt = s.berrAt := rfl
@[simp] theorem State.fab_clrBitAt (s : State) (a i : Nat) : (s.clrBitAt a i).fab = s.fab := rfl
@[simp] theorem State.pwr_clrBitAt (s : State) (a i : Nat) : (s.clrBitAt a i).pwr = s.pwr := rfl
@[simp] theorem State.stalls_clrBitAt (s : State) (a i : Nat) : (s.clrBitAt a i).stalls = s.stalls := rfl
@[simp] theorem State.supply_clrBitAt (s : State) (a i : Nat) : (s.clrBitAt a i).supply = s.supply := rfl
@[simp] theorem State.shadow_clrBitAt (s : State) (a i : Nat) : (s.clrBitAt a i).shadow = s.shadow := rfl
@[simp] theorem State.flash_clrBitAt (s : State) (a i : Nat) : (s.clrBitAt a i).flash = s.flash := rfl
@[simp] theorem State.cfg_clrBitAt (s : State) (a i : Nat) : (s.clrBitAt a i).cfg = s.cfg := rfl
@[simp] theorem State.bist_clrBitAt (s : State) (a i : Nat) : (s.clrBitAt a i).bist = s.bist := rfl
@[simp] theorem State.sec_clrBitAt (s : State) (a i : Nat) : (s.clrBitAt a i).sec = s.sec := rfl
@[simp] theorem State.gpio_clrBitAt (s : State) (a i : Nat) : (s.clrBitAt a i).gpio = s.gpio := rfl
@[simp] theorem State.lastNet_clrBitAt (s : State) (a i : Nat) : (s.clrBitAt a i).lastNet = s.lastNet := rfl
@[simp] theorem State.responder_clrBitAt (s : State) (a i : Nat) : (s.clrBitAt a i).responder = s.responder := rfl
@[simp] theorem State.pending_clrBitAt (s : State) (a i : Nat) : (s.clrBitAt a i).pending = s.pending := rfl
@[simp] theorem State.fresh_clrBitAt (s : State) (a i : Nat) : (s.clrBitAt a i).fresh = s.fresh := rfl
@[simp] theorem State.slot_clrBitAt (s : State) (a i : Nat) (j l : Nat) : (s.clrBitAt a i).slot j l = s.slot j l := rfl
@[simp] theorem State.drone_clrBitAt (s : State) (a i : Nat) (j : Nat) : (s.clrBitAt a i).drone j = s.drone j := rfl
@[simp] theorem State.tracker_clrBitAt (s : State) (a i : Nat) (j : Nat) : (s.clrBitAt a i).tracker j = s.tracker j := rfl
@[simp] theorem State.dom_clrBitAt (s : State) (a i : Nat) (j : Nat) : (s.clrBitAt a i).dom j = s.dom j := rfl
@[simp] theorem State.session_clrBitAt (s : State) (a i : Nat) (j : Nat) : (s.clrBitAt a i).session j = s.session j := rfl
@[simp] theorem State.emnPort_clrBitAt (s : State) (a i : Nat) (j : Nat) : (s.clrBitAt a i).emnPort j = s.emnPort j := rfl
@[simp] theorem State.pair_clrBitAt (s : State) (a i : Nat) (j : Nat) : (s.clrBitAt a i).pair j = s.pair j := rfl
@[simp] theorem State.engine_clrBitAt (s : State) (a i : Nat) (j : Nat) : (s.clrBitAt a i).engine j = s.engine j := rfl
@[simp] theorem State.lane_clrBitAt (s : State) (a i : Nat) (j : Nat) : (s.clrBitAt a i).lane j = s.lane j := rfl
@[simp] theorem State.adc_clrBitAt (s : State) (a i : Nat) (j : Nat) : (s.clrBitAt a i).adc j = s.adc j := rfl
@[simp] theorem State.pwrDom_clrBitAt (s : State) (a i : Nat) (j : Nat) : (s.clrBitAt a i).pwrDom j = s.pwrDom j := rfl
@[simp] theorem State.memWord_clrBitAt (s : State) (a i : Nat) (j : Nat) : (s.clrBitAt a i).memWord j = s.memWord j := rfl

/-! ### State.countBy -/

@[simp] theorem State.now_countBy (s : State) (a k : Nat) : (s.countBy a k).now = s.now := rfl
@[simp] theorem State.free_countBy (s : State) (a k : Nat) : (s.countBy a k).free = s.free := rfl
@[simp] theorem State.spine_countBy (s : State) (a k : Nat) : (s.countBy a k).spine = s.spine := rfl
@[simp] theorem State.mem_countBy (s : State) (a k : Nat) : (s.countBy a k).mem = s.mem := rfl
@[simp] theorem State.modeCtl_countBy (s : State) (a k : Nat) : (s.countBy a k).modeCtl = s.modeCtl := rfl
@[simp] theorem State.irq_countBy (s : State) (a k : Nat) : (s.countBy a k).irq = s.irq := rfl
@[simp] theorem State.drones_countBy (s : State) (a k : Nat) : (s.countBy a k).drones = s.drones := rfl
@[simp] theorem State.scrub_countBy (s : State) (a k : Nat) : (s.countBy a k).scrub = s.scrub := rfl
@[simp] theorem State.trackers_countBy (s : State) (a k : Nat) : (s.countBy a k).trackers = s.trackers := rfl
@[simp] theorem State.doms_countBy (s : State) (a k : Nat) : (s.countBy a k).doms = s.doms := rfl
@[simp] theorem State.tick_countBy (s : State) (a k : Nat) : (s.countBy a k).tick = s.tick := rfl
@[simp] theorem State.wheel_countBy (s : State) (a k : Nat) : (s.countBy a k).wheel = s.wheel := rfl
@[simp] theorem State.sessions_countBy (s : State) (a k : Nat) : (s.countBy a k).sessions = s.sessions := rfl
@[simp] theorem State.ivw_countBy (s : State) (a k : Nat) : (s.countBy a k).ivw = s.ivw := rfl
@[simp] theorem State.emnPorts_countBy (s : State) (a k : Nat) : (s.countBy a k).emnPorts = s.emnPorts := rfl
@[simp] theorem State.emn_countBy (s : State) (a k : Nat) : (s.countBy a k).emn = s.emn := rfl
@[simp] theorem State.clk_countBy (s : State) (a k : Nat) : (s.countBy a k).clk = s.clk := rfl
@[simp] theorem State.ptp_countBy (s : State) (a k : Nat) : (s.countBy a k).ptp = s.ptp := rfl
@[simp] theorem State.net_countBy (s : State) (a k : Nat) : (s.countBy a k).net = s.net := rfl
@[simp] theorem State.capWait_countBy (s : State) (a k : Nat) : (s.countBy a k).capWait = s.capWait := rfl
@[simp] theorem State.snapAt_countBy (s : State) (a k : Nat) : (s.countBy a k).snapAt = s.snapAt := rfl
@[simp] theorem State.syncIn_countBy (s : State) (a k : Nat) : (s.countBy a k).syncIn = s.syncIn := rfl
@[simp] theorem State.pairs_countBy (s : State) (a k : Nat) : (s.countBy a k).pairs = s.pairs := rfl
@[simp] theorem State.claims_countBy (s : State) (a k : Nat) : (s.countBy a k).claims = s.claims := rfl
@[simp] theorem State.notes_countBy (s : State) (a k : Nat) : (s.countBy a k).notes = s.notes := rfl
@[simp] theorem State.engines_countBy (s : State) (a k : Nat) : (s.countBy a k).engines = s.engines := rfl
@[simp] theorem State.lanes_countBy (s : State) (a k : Nat) : (s.countBy a k).lanes = s.lanes := rfl
@[simp] theorem State.adcs_countBy (s : State) (a k : Nat) : (s.countBy a k).adcs = s.adcs := rfl
@[simp] theorem State.monNext_countBy (s : State) (a k : Nat) : (s.countBy a k).monNext = s.monNext := rfl
@[simp] theorem State.filters_countBy (s : State) (a k : Nat) : (s.countBy a k).filters = s.filters := rfl
@[simp] theorem State.berrAt_countBy (s : State) (a k : Nat) : (s.countBy a k).berrAt = s.berrAt := rfl
@[simp] theorem State.fab_countBy (s : State) (a k : Nat) : (s.countBy a k).fab = s.fab := rfl
@[simp] theorem State.pwr_countBy (s : State) (a k : Nat) : (s.countBy a k).pwr = s.pwr := rfl
@[simp] theorem State.stalls_countBy (s : State) (a k : Nat) : (s.countBy a k).stalls = s.stalls := rfl
@[simp] theorem State.supply_countBy (s : State) (a k : Nat) : (s.countBy a k).supply = s.supply := rfl
@[simp] theorem State.shadow_countBy (s : State) (a k : Nat) : (s.countBy a k).shadow = s.shadow := rfl
@[simp] theorem State.flash_countBy (s : State) (a k : Nat) : (s.countBy a k).flash = s.flash := rfl
@[simp] theorem State.cfg_countBy (s : State) (a k : Nat) : (s.countBy a k).cfg = s.cfg := rfl
@[simp] theorem State.bist_countBy (s : State) (a k : Nat) : (s.countBy a k).bist = s.bist := rfl
@[simp] theorem State.sec_countBy (s : State) (a k : Nat) : (s.countBy a k).sec = s.sec := rfl
@[simp] theorem State.gpio_countBy (s : State) (a k : Nat) : (s.countBy a k).gpio = s.gpio := rfl
@[simp] theorem State.lastNet_countBy (s : State) (a k : Nat) : (s.countBy a k).lastNet = s.lastNet := rfl
@[simp] theorem State.responder_countBy (s : State) (a k : Nat) : (s.countBy a k).responder = s.responder := rfl
@[simp] theorem State.pending_countBy (s : State) (a k : Nat) : (s.countBy a k).pending = s.pending := rfl
@[simp] theorem State.fresh_countBy (s : State) (a k : Nat) : (s.countBy a k).fresh = s.fresh := rfl
@[simp] theorem State.slot_countBy (s : State) (a k : Nat) (j l : Nat) : (s.countBy a k).slot j l = s.slot j l := rfl
@[simp] theorem State.drone_countBy (s : State) (a k : Nat) (j : Nat) : (s.countBy a k).drone j = s.drone j := rfl
@[simp] theorem State.tracker_countBy (s : State) (a k : Nat) (j : Nat) : (s.countBy a k).tracker j = s.tracker j := rfl
@[simp] theorem State.dom_countBy (s : State) (a k : Nat) (j : Nat) : (s.countBy a k).dom j = s.dom j := rfl
@[simp] theorem State.session_countBy (s : State) (a k : Nat) (j : Nat) : (s.countBy a k).session j = s.session j := rfl
@[simp] theorem State.emnPort_countBy (s : State) (a k : Nat) (j : Nat) : (s.countBy a k).emnPort j = s.emnPort j := rfl
@[simp] theorem State.pair_countBy (s : State) (a k : Nat) (j : Nat) : (s.countBy a k).pair j = s.pair j := rfl
@[simp] theorem State.engine_countBy (s : State) (a k : Nat) (j : Nat) : (s.countBy a k).engine j = s.engine j := rfl
@[simp] theorem State.lane_countBy (s : State) (a k : Nat) (j : Nat) : (s.countBy a k).lane j = s.lane j := rfl
@[simp] theorem State.adc_countBy (s : State) (a k : Nat) (j : Nat) : (s.countBy a k).adc j = s.adc j := rfl
@[simp] theorem State.pwrDom_countBy (s : State) (a k : Nat) (j : Nat) : (s.countBy a k).pwrDom j = s.pwrDom j := rfl
@[simp] theorem State.memWord_countBy (s : State) (a k : Nat) (j : Nat) : (s.countBy a k).memWord j = s.memWord j := rfl

/-! ### State.count -/

@[simp] theorem State.now_count (s : State) (a : Nat) : (s.count a).now = s.now := rfl
@[simp] theorem State.free_count (s : State) (a : Nat) : (s.count a).free = s.free := rfl
@[simp] theorem State.spine_count (s : State) (a : Nat) : (s.count a).spine = s.spine := rfl
@[simp] theorem State.mem_count (s : State) (a : Nat) : (s.count a).mem = s.mem := rfl
@[simp] theorem State.modeCtl_count (s : State) (a : Nat) : (s.count a).modeCtl = s.modeCtl := rfl
@[simp] theorem State.irq_count (s : State) (a : Nat) : (s.count a).irq = s.irq := rfl
@[simp] theorem State.drones_count (s : State) (a : Nat) : (s.count a).drones = s.drones := rfl
@[simp] theorem State.scrub_count (s : State) (a : Nat) : (s.count a).scrub = s.scrub := rfl
@[simp] theorem State.trackers_count (s : State) (a : Nat) : (s.count a).trackers = s.trackers := rfl
@[simp] theorem State.doms_count (s : State) (a : Nat) : (s.count a).doms = s.doms := rfl
@[simp] theorem State.tick_count (s : State) (a : Nat) : (s.count a).tick = s.tick := rfl
@[simp] theorem State.wheel_count (s : State) (a : Nat) : (s.count a).wheel = s.wheel := rfl
@[simp] theorem State.sessions_count (s : State) (a : Nat) : (s.count a).sessions = s.sessions := rfl
@[simp] theorem State.ivw_count (s : State) (a : Nat) : (s.count a).ivw = s.ivw := rfl
@[simp] theorem State.emnPorts_count (s : State) (a : Nat) : (s.count a).emnPorts = s.emnPorts := rfl
@[simp] theorem State.emn_count (s : State) (a : Nat) : (s.count a).emn = s.emn := rfl
@[simp] theorem State.clk_count (s : State) (a : Nat) : (s.count a).clk = s.clk := rfl
@[simp] theorem State.ptp_count (s : State) (a : Nat) : (s.count a).ptp = s.ptp := rfl
@[simp] theorem State.net_count (s : State) (a : Nat) : (s.count a).net = s.net := rfl
@[simp] theorem State.capWait_count (s : State) (a : Nat) : (s.count a).capWait = s.capWait := rfl
@[simp] theorem State.snapAt_count (s : State) (a : Nat) : (s.count a).snapAt = s.snapAt := rfl
@[simp] theorem State.syncIn_count (s : State) (a : Nat) : (s.count a).syncIn = s.syncIn := rfl
@[simp] theorem State.pairs_count (s : State) (a : Nat) : (s.count a).pairs = s.pairs := rfl
@[simp] theorem State.claims_count (s : State) (a : Nat) : (s.count a).claims = s.claims := rfl
@[simp] theorem State.notes_count (s : State) (a : Nat) : (s.count a).notes = s.notes := rfl
@[simp] theorem State.engines_count (s : State) (a : Nat) : (s.count a).engines = s.engines := rfl
@[simp] theorem State.lanes_count (s : State) (a : Nat) : (s.count a).lanes = s.lanes := rfl
@[simp] theorem State.adcs_count (s : State) (a : Nat) : (s.count a).adcs = s.adcs := rfl
@[simp] theorem State.monNext_count (s : State) (a : Nat) : (s.count a).monNext = s.monNext := rfl
@[simp] theorem State.filters_count (s : State) (a : Nat) : (s.count a).filters = s.filters := rfl
@[simp] theorem State.berrAt_count (s : State) (a : Nat) : (s.count a).berrAt = s.berrAt := rfl
@[simp] theorem State.fab_count (s : State) (a : Nat) : (s.count a).fab = s.fab := rfl
@[simp] theorem State.pwr_count (s : State) (a : Nat) : (s.count a).pwr = s.pwr := rfl
@[simp] theorem State.stalls_count (s : State) (a : Nat) : (s.count a).stalls = s.stalls := rfl
@[simp] theorem State.supply_count (s : State) (a : Nat) : (s.count a).supply = s.supply := rfl
@[simp] theorem State.shadow_count (s : State) (a : Nat) : (s.count a).shadow = s.shadow := rfl
@[simp] theorem State.flash_count (s : State) (a : Nat) : (s.count a).flash = s.flash := rfl
@[simp] theorem State.cfg_count (s : State) (a : Nat) : (s.count a).cfg = s.cfg := rfl
@[simp] theorem State.bist_count (s : State) (a : Nat) : (s.count a).bist = s.bist := rfl
@[simp] theorem State.sec_count (s : State) (a : Nat) : (s.count a).sec = s.sec := rfl
@[simp] theorem State.gpio_count (s : State) (a : Nat) : (s.count a).gpio = s.gpio := rfl
@[simp] theorem State.lastNet_count (s : State) (a : Nat) : (s.count a).lastNet = s.lastNet := rfl
@[simp] theorem State.responder_count (s : State) (a : Nat) : (s.count a).responder = s.responder := rfl
@[simp] theorem State.pending_count (s : State) (a : Nat) : (s.count a).pending = s.pending := rfl
@[simp] theorem State.fresh_count (s : State) (a : Nat) : (s.count a).fresh = s.fresh := rfl
@[simp] theorem State.slot_count (s : State) (a : Nat) (j l : Nat) : (s.count a).slot j l = s.slot j l := rfl
@[simp] theorem State.drone_count (s : State) (a : Nat) (j : Nat) : (s.count a).drone j = s.drone j := rfl
@[simp] theorem State.tracker_count (s : State) (a : Nat) (j : Nat) : (s.count a).tracker j = s.tracker j := rfl
@[simp] theorem State.dom_count (s : State) (a : Nat) (j : Nat) : (s.count a).dom j = s.dom j := rfl
@[simp] theorem State.session_count (s : State) (a : Nat) (j : Nat) : (s.count a).session j = s.session j := rfl
@[simp] theorem State.emnPort_count (s : State) (a : Nat) (j : Nat) : (s.count a).emnPort j = s.emnPort j := rfl
@[simp] theorem State.pair_count (s : State) (a : Nat) (j : Nat) : (s.count a).pair j = s.pair j := rfl
@[simp] theorem State.engine_count (s : State) (a : Nat) (j : Nat) : (s.count a).engine j = s.engine j := rfl
@[simp] theorem State.lane_count (s : State) (a : Nat) (j : Nat) : (s.count a).lane j = s.lane j := rfl
@[simp] theorem State.adc_count (s : State) (a : Nat) (j : Nat) : (s.count a).adc j = s.adc j := rfl
@[simp] theorem State.pwrDom_count (s : State) (a : Nat) (j : Nat) : (s.count a).pwrDom j = s.pwrDom j := rfl
@[simp] theorem State.memWord_count (s : State) (a : Nat) (j : Nat) : (s.count a).memWord j = s.memWord j := rfl

/-! ### State.countField -/

@[simp] theorem State.now_countField (s : State) (f : FieldAt) (k : Nat) : (s.countField f k).now = s.now := rfl
@[simp] theorem State.free_countField (s : State) (f : FieldAt) (k : Nat) : (s.countField f k).free = s.free := rfl
@[simp] theorem State.spine_countField (s : State) (f : FieldAt) (k : Nat) : (s.countField f k).spine = s.spine := rfl
@[simp] theorem State.mem_countField (s : State) (f : FieldAt) (k : Nat) : (s.countField f k).mem = s.mem := rfl
@[simp] theorem State.modeCtl_countField (s : State) (f : FieldAt) (k : Nat) : (s.countField f k).modeCtl = s.modeCtl := rfl
@[simp] theorem State.irq_countField (s : State) (f : FieldAt) (k : Nat) : (s.countField f k).irq = s.irq := rfl
@[simp] theorem State.drones_countField (s : State) (f : FieldAt) (k : Nat) : (s.countField f k).drones = s.drones := rfl
@[simp] theorem State.scrub_countField (s : State) (f : FieldAt) (k : Nat) : (s.countField f k).scrub = s.scrub := rfl
@[simp] theorem State.trackers_countField (s : State) (f : FieldAt) (k : Nat) : (s.countField f k).trackers = s.trackers := rfl
@[simp] theorem State.doms_countField (s : State) (f : FieldAt) (k : Nat) : (s.countField f k).doms = s.doms := rfl
@[simp] theorem State.tick_countField (s : State) (f : FieldAt) (k : Nat) : (s.countField f k).tick = s.tick := rfl
@[simp] theorem State.wheel_countField (s : State) (f : FieldAt) (k : Nat) : (s.countField f k).wheel = s.wheel := rfl
@[simp] theorem State.sessions_countField (s : State) (f : FieldAt) (k : Nat) : (s.countField f k).sessions = s.sessions := rfl
@[simp] theorem State.ivw_countField (s : State) (f : FieldAt) (k : Nat) : (s.countField f k).ivw = s.ivw := rfl
@[simp] theorem State.emnPorts_countField (s : State) (f : FieldAt) (k : Nat) : (s.countField f k).emnPorts = s.emnPorts := rfl
@[simp] theorem State.emn_countField (s : State) (f : FieldAt) (k : Nat) : (s.countField f k).emn = s.emn := rfl
@[simp] theorem State.clk_countField (s : State) (f : FieldAt) (k : Nat) : (s.countField f k).clk = s.clk := rfl
@[simp] theorem State.ptp_countField (s : State) (f : FieldAt) (k : Nat) : (s.countField f k).ptp = s.ptp := rfl
@[simp] theorem State.net_countField (s : State) (f : FieldAt) (k : Nat) : (s.countField f k).net = s.net := rfl
@[simp] theorem State.capWait_countField (s : State) (f : FieldAt) (k : Nat) : (s.countField f k).capWait = s.capWait := rfl
@[simp] theorem State.snapAt_countField (s : State) (f : FieldAt) (k : Nat) : (s.countField f k).snapAt = s.snapAt := rfl
@[simp] theorem State.syncIn_countField (s : State) (f : FieldAt) (k : Nat) : (s.countField f k).syncIn = s.syncIn := rfl
@[simp] theorem State.pairs_countField (s : State) (f : FieldAt) (k : Nat) : (s.countField f k).pairs = s.pairs := rfl
@[simp] theorem State.claims_countField (s : State) (f : FieldAt) (k : Nat) : (s.countField f k).claims = s.claims := rfl
@[simp] theorem State.notes_countField (s : State) (f : FieldAt) (k : Nat) : (s.countField f k).notes = s.notes := rfl
@[simp] theorem State.engines_countField (s : State) (f : FieldAt) (k : Nat) : (s.countField f k).engines = s.engines := rfl
@[simp] theorem State.lanes_countField (s : State) (f : FieldAt) (k : Nat) : (s.countField f k).lanes = s.lanes := rfl
@[simp] theorem State.adcs_countField (s : State) (f : FieldAt) (k : Nat) : (s.countField f k).adcs = s.adcs := rfl
@[simp] theorem State.monNext_countField (s : State) (f : FieldAt) (k : Nat) : (s.countField f k).monNext = s.monNext := rfl
@[simp] theorem State.filters_countField (s : State) (f : FieldAt) (k : Nat) : (s.countField f k).filters = s.filters := rfl
@[simp] theorem State.berrAt_countField (s : State) (f : FieldAt) (k : Nat) : (s.countField f k).berrAt = s.berrAt := rfl
@[simp] theorem State.fab_countField (s : State) (f : FieldAt) (k : Nat) : (s.countField f k).fab = s.fab := rfl
@[simp] theorem State.pwr_countField (s : State) (f : FieldAt) (k : Nat) : (s.countField f k).pwr = s.pwr := rfl
@[simp] theorem State.stalls_countField (s : State) (f : FieldAt) (k : Nat) : (s.countField f k).stalls = s.stalls := rfl
@[simp] theorem State.supply_countField (s : State) (f : FieldAt) (k : Nat) : (s.countField f k).supply = s.supply := rfl
@[simp] theorem State.shadow_countField (s : State) (f : FieldAt) (k : Nat) : (s.countField f k).shadow = s.shadow := rfl
@[simp] theorem State.flash_countField (s : State) (f : FieldAt) (k : Nat) : (s.countField f k).flash = s.flash := rfl
@[simp] theorem State.cfg_countField (s : State) (f : FieldAt) (k : Nat) : (s.countField f k).cfg = s.cfg := rfl
@[simp] theorem State.bist_countField (s : State) (f : FieldAt) (k : Nat) : (s.countField f k).bist = s.bist := rfl
@[simp] theorem State.sec_countField (s : State) (f : FieldAt) (k : Nat) : (s.countField f k).sec = s.sec := rfl
@[simp] theorem State.gpio_countField (s : State) (f : FieldAt) (k : Nat) : (s.countField f k).gpio = s.gpio := rfl
@[simp] theorem State.lastNet_countField (s : State) (f : FieldAt) (k : Nat) : (s.countField f k).lastNet = s.lastNet := rfl
@[simp] theorem State.responder_countField (s : State) (f : FieldAt) (k : Nat) : (s.countField f k).responder = s.responder := rfl
@[simp] theorem State.pending_countField (s : State) (f : FieldAt) (k : Nat) : (s.countField f k).pending = s.pending := rfl
@[simp] theorem State.fresh_countField (s : State) (f : FieldAt) (k : Nat) : (s.countField f k).fresh = s.fresh := rfl
@[simp] theorem State.slot_countField (s : State) (f : FieldAt) (k : Nat) (j l : Nat) : (s.countField f k).slot j l = s.slot j l := rfl
@[simp] theorem State.drone_countField (s : State) (f : FieldAt) (k : Nat) (j : Nat) : (s.countField f k).drone j = s.drone j := rfl
@[simp] theorem State.tracker_countField (s : State) (f : FieldAt) (k : Nat) (j : Nat) : (s.countField f k).tracker j = s.tracker j := rfl
@[simp] theorem State.dom_countField (s : State) (f : FieldAt) (k : Nat) (j : Nat) : (s.countField f k).dom j = s.dom j := rfl
@[simp] theorem State.session_countField (s : State) (f : FieldAt) (k : Nat) (j : Nat) : (s.countField f k).session j = s.session j := rfl
@[simp] theorem State.emnPort_countField (s : State) (f : FieldAt) (k : Nat) (j : Nat) : (s.countField f k).emnPort j = s.emnPort j := rfl
@[simp] theorem State.pair_countField (s : State) (f : FieldAt) (k : Nat) (j : Nat) : (s.countField f k).pair j = s.pair j := rfl
@[simp] theorem State.engine_countField (s : State) (f : FieldAt) (k : Nat) (j : Nat) : (s.countField f k).engine j = s.engine j := rfl
@[simp] theorem State.lane_countField (s : State) (f : FieldAt) (k : Nat) (j : Nat) : (s.countField f k).lane j = s.lane j := rfl
@[simp] theorem State.adc_countField (s : State) (f : FieldAt) (k : Nat) (j : Nat) : (s.countField f k).adc j = s.adc j := rfl
@[simp] theorem State.pwrDom_countField (s : State) (f : FieldAt) (k : Nat) (j : Nat) : (s.countField f k).pwrDom j = s.pwrDom j := rfl
@[simp] theorem State.memWord_countField (s : State) (f : FieldAt) (k : Nat) (j : Nat) : (s.countField f k).memWord j = s.memWord j := rfl

/-! ### State.wrap -/

@[simp] theorem State.now_wrap (s : State) (a k : Nat) : (s.wrap a k).now = s.now := rfl
@[simp] theorem State.free_wrap (s : State) (a k : Nat) : (s.wrap a k).free = s.free := rfl
@[simp] theorem State.spine_wrap (s : State) (a k : Nat) : (s.wrap a k).spine = s.spine := rfl
@[simp] theorem State.mem_wrap (s : State) (a k : Nat) : (s.wrap a k).mem = s.mem := rfl
@[simp] theorem State.modeCtl_wrap (s : State) (a k : Nat) : (s.wrap a k).modeCtl = s.modeCtl := rfl
@[simp] theorem State.irq_wrap (s : State) (a k : Nat) : (s.wrap a k).irq = s.irq := rfl
@[simp] theorem State.drones_wrap (s : State) (a k : Nat) : (s.wrap a k).drones = s.drones := rfl
@[simp] theorem State.scrub_wrap (s : State) (a k : Nat) : (s.wrap a k).scrub = s.scrub := rfl
@[simp] theorem State.trackers_wrap (s : State) (a k : Nat) : (s.wrap a k).trackers = s.trackers := rfl
@[simp] theorem State.doms_wrap (s : State) (a k : Nat) : (s.wrap a k).doms = s.doms := rfl
@[simp] theorem State.tick_wrap (s : State) (a k : Nat) : (s.wrap a k).tick = s.tick := rfl
@[simp] theorem State.wheel_wrap (s : State) (a k : Nat) : (s.wrap a k).wheel = s.wheel := rfl
@[simp] theorem State.sessions_wrap (s : State) (a k : Nat) : (s.wrap a k).sessions = s.sessions := rfl
@[simp] theorem State.ivw_wrap (s : State) (a k : Nat) : (s.wrap a k).ivw = s.ivw := rfl
@[simp] theorem State.emnPorts_wrap (s : State) (a k : Nat) : (s.wrap a k).emnPorts = s.emnPorts := rfl
@[simp] theorem State.emn_wrap (s : State) (a k : Nat) : (s.wrap a k).emn = s.emn := rfl
@[simp] theorem State.clk_wrap (s : State) (a k : Nat) : (s.wrap a k).clk = s.clk := rfl
@[simp] theorem State.ptp_wrap (s : State) (a k : Nat) : (s.wrap a k).ptp = s.ptp := rfl
@[simp] theorem State.net_wrap (s : State) (a k : Nat) : (s.wrap a k).net = s.net := rfl
@[simp] theorem State.capWait_wrap (s : State) (a k : Nat) : (s.wrap a k).capWait = s.capWait := rfl
@[simp] theorem State.snapAt_wrap (s : State) (a k : Nat) : (s.wrap a k).snapAt = s.snapAt := rfl
@[simp] theorem State.syncIn_wrap (s : State) (a k : Nat) : (s.wrap a k).syncIn = s.syncIn := rfl
@[simp] theorem State.pairs_wrap (s : State) (a k : Nat) : (s.wrap a k).pairs = s.pairs := rfl
@[simp] theorem State.claims_wrap (s : State) (a k : Nat) : (s.wrap a k).claims = s.claims := rfl
@[simp] theorem State.notes_wrap (s : State) (a k : Nat) : (s.wrap a k).notes = s.notes := rfl
@[simp] theorem State.engines_wrap (s : State) (a k : Nat) : (s.wrap a k).engines = s.engines := rfl
@[simp] theorem State.lanes_wrap (s : State) (a k : Nat) : (s.wrap a k).lanes = s.lanes := rfl
@[simp] theorem State.adcs_wrap (s : State) (a k : Nat) : (s.wrap a k).adcs = s.adcs := rfl
@[simp] theorem State.monNext_wrap (s : State) (a k : Nat) : (s.wrap a k).monNext = s.monNext := rfl
@[simp] theorem State.filters_wrap (s : State) (a k : Nat) : (s.wrap a k).filters = s.filters := rfl
@[simp] theorem State.berrAt_wrap (s : State) (a k : Nat) : (s.wrap a k).berrAt = s.berrAt := rfl
@[simp] theorem State.fab_wrap (s : State) (a k : Nat) : (s.wrap a k).fab = s.fab := rfl
@[simp] theorem State.pwr_wrap (s : State) (a k : Nat) : (s.wrap a k).pwr = s.pwr := rfl
@[simp] theorem State.stalls_wrap (s : State) (a k : Nat) : (s.wrap a k).stalls = s.stalls := rfl
@[simp] theorem State.supply_wrap (s : State) (a k : Nat) : (s.wrap a k).supply = s.supply := rfl
@[simp] theorem State.shadow_wrap (s : State) (a k : Nat) : (s.wrap a k).shadow = s.shadow := rfl
@[simp] theorem State.flash_wrap (s : State) (a k : Nat) : (s.wrap a k).flash = s.flash := rfl
@[simp] theorem State.cfg_wrap (s : State) (a k : Nat) : (s.wrap a k).cfg = s.cfg := rfl
@[simp] theorem State.bist_wrap (s : State) (a k : Nat) : (s.wrap a k).bist = s.bist := rfl
@[simp] theorem State.sec_wrap (s : State) (a k : Nat) : (s.wrap a k).sec = s.sec := rfl
@[simp] theorem State.gpio_wrap (s : State) (a k : Nat) : (s.wrap a k).gpio = s.gpio := rfl
@[simp] theorem State.lastNet_wrap (s : State) (a k : Nat) : (s.wrap a k).lastNet = s.lastNet := rfl
@[simp] theorem State.responder_wrap (s : State) (a k : Nat) : (s.wrap a k).responder = s.responder := rfl
@[simp] theorem State.pending_wrap (s : State) (a k : Nat) : (s.wrap a k).pending = s.pending := rfl
@[simp] theorem State.fresh_wrap (s : State) (a k : Nat) : (s.wrap a k).fresh = s.fresh := rfl
@[simp] theorem State.slot_wrap (s : State) (a k : Nat) (j l : Nat) : (s.wrap a k).slot j l = s.slot j l := rfl
@[simp] theorem State.drone_wrap (s : State) (a k : Nat) (j : Nat) : (s.wrap a k).drone j = s.drone j := rfl
@[simp] theorem State.tracker_wrap (s : State) (a k : Nat) (j : Nat) : (s.wrap a k).tracker j = s.tracker j := rfl
@[simp] theorem State.dom_wrap (s : State) (a k : Nat) (j : Nat) : (s.wrap a k).dom j = s.dom j := rfl
@[simp] theorem State.session_wrap (s : State) (a k : Nat) (j : Nat) : (s.wrap a k).session j = s.session j := rfl
@[simp] theorem State.emnPort_wrap (s : State) (a k : Nat) (j : Nat) : (s.wrap a k).emnPort j = s.emnPort j := rfl
@[simp] theorem State.pair_wrap (s : State) (a k : Nat) (j : Nat) : (s.wrap a k).pair j = s.pair j := rfl
@[simp] theorem State.engine_wrap (s : State) (a k : Nat) (j : Nat) : (s.wrap a k).engine j = s.engine j := rfl
@[simp] theorem State.lane_wrap (s : State) (a k : Nat) (j : Nat) : (s.wrap a k).lane j = s.lane j := rfl
@[simp] theorem State.adc_wrap (s : State) (a k : Nat) (j : Nat) : (s.wrap a k).adc j = s.adc j := rfl
@[simp] theorem State.pwrDom_wrap (s : State) (a k : Nat) (j : Nat) : (s.wrap a k).pwrDom j = s.pwrDom j := rfl
@[simp] theorem State.memWord_wrap (s : State) (a k : Nat) (j : Nat) : (s.wrap a k).memWord j = s.memWord j := rfl

/-! ### State.drawn -/

@[simp] theorem State.regs_drawn (s : State) : (s.drawn).regs = s.regs := rfl
@[simp] theorem State.now_drawn (s : State) : (s.drawn).now = s.now := rfl
@[simp] theorem State.spine_drawn (s : State) : (s.drawn).spine = s.spine := rfl
@[simp] theorem State.mem_drawn (s : State) : (s.drawn).mem = s.mem := rfl
@[simp] theorem State.modeCtl_drawn (s : State) : (s.drawn).modeCtl = s.modeCtl := rfl
@[simp] theorem State.irq_drawn (s : State) : (s.drawn).irq = s.irq := rfl
@[simp] theorem State.drones_drawn (s : State) : (s.drawn).drones = s.drones := rfl
@[simp] theorem State.scrub_drawn (s : State) : (s.drawn).scrub = s.scrub := rfl
@[simp] theorem State.trackers_drawn (s : State) : (s.drawn).trackers = s.trackers := rfl
@[simp] theorem State.doms_drawn (s : State) : (s.drawn).doms = s.doms := rfl
@[simp] theorem State.tick_drawn (s : State) : (s.drawn).tick = s.tick := rfl
@[simp] theorem State.wheel_drawn (s : State) : (s.drawn).wheel = s.wheel := rfl
@[simp] theorem State.sessions_drawn (s : State) : (s.drawn).sessions = s.sessions := rfl
@[simp] theorem State.ivw_drawn (s : State) : (s.drawn).ivw = s.ivw := rfl
@[simp] theorem State.emnPorts_drawn (s : State) : (s.drawn).emnPorts = s.emnPorts := rfl
@[simp] theorem State.emn_drawn (s : State) : (s.drawn).emn = s.emn := rfl
@[simp] theorem State.clk_drawn (s : State) : (s.drawn).clk = s.clk := rfl
@[simp] theorem State.ptp_drawn (s : State) : (s.drawn).ptp = s.ptp := rfl
@[simp] theorem State.net_drawn (s : State) : (s.drawn).net = s.net := rfl
@[simp] theorem State.capWait_drawn (s : State) : (s.drawn).capWait = s.capWait := rfl
@[simp] theorem State.snapAt_drawn (s : State) : (s.drawn).snapAt = s.snapAt := rfl
@[simp] theorem State.syncIn_drawn (s : State) : (s.drawn).syncIn = s.syncIn := rfl
@[simp] theorem State.pairs_drawn (s : State) : (s.drawn).pairs = s.pairs := rfl
@[simp] theorem State.claims_drawn (s : State) : (s.drawn).claims = s.claims := rfl
@[simp] theorem State.notes_drawn (s : State) : (s.drawn).notes = s.notes := rfl
@[simp] theorem State.engines_drawn (s : State) : (s.drawn).engines = s.engines := rfl
@[simp] theorem State.lanes_drawn (s : State) : (s.drawn).lanes = s.lanes := rfl
@[simp] theorem State.adcs_drawn (s : State) : (s.drawn).adcs = s.adcs := rfl
@[simp] theorem State.monNext_drawn (s : State) : (s.drawn).monNext = s.monNext := rfl
@[simp] theorem State.filters_drawn (s : State) : (s.drawn).filters = s.filters := rfl
@[simp] theorem State.berrAt_drawn (s : State) : (s.drawn).berrAt = s.berrAt := rfl
@[simp] theorem State.fab_drawn (s : State) : (s.drawn).fab = s.fab := rfl
@[simp] theorem State.pwr_drawn (s : State) : (s.drawn).pwr = s.pwr := rfl
@[simp] theorem State.stalls_drawn (s : State) : (s.drawn).stalls = s.stalls := rfl
@[simp] theorem State.supply_drawn (s : State) : (s.drawn).supply = s.supply := rfl
@[simp] theorem State.shadow_drawn (s : State) : (s.drawn).shadow = s.shadow := rfl
@[simp] theorem State.flash_drawn (s : State) : (s.drawn).flash = s.flash := rfl
@[simp] theorem State.cfg_drawn (s : State) : (s.drawn).cfg = s.cfg := rfl
@[simp] theorem State.bist_drawn (s : State) : (s.drawn).bist = s.bist := rfl
@[simp] theorem State.sec_drawn (s : State) : (s.drawn).sec = s.sec := rfl
@[simp] theorem State.gpio_drawn (s : State) : (s.drawn).gpio = s.gpio := rfl
@[simp] theorem State.lastNet_drawn (s : State) : (s.drawn).lastNet = s.lastNet := rfl
@[simp] theorem State.responder_drawn (s : State) : (s.drawn).responder = s.responder := rfl
@[simp] theorem State.pending_drawn (s : State) : (s.drawn).pending = s.pending := rfl
@[simp] theorem State.rd_drawn (s : State) (b : Nat) : (s.drawn).rd b = s.rd b := rfl
@[simp] theorem State.rdN_drawn (s : State) (b : Nat) : (s.drawn).rdN b = s.rdN b := rfl
@[simp] theorem State.get_drawn (s : State) (g : FieldAt) : (s.drawn).get g = s.get g := rfl
@[simp] theorem State.bit_drawn (s : State) (g : FieldAt) : (s.drawn).bit g = s.bit g := rfl
@[simp] theorem State.bitAt_drawn (s : State) (b j : Nat) : (s.drawn).bitAt b j = s.bitAt b j := rfl
@[simp] theorem State.mode_drawn (s : State) : (s.drawn).mode = s.mode := rfl
@[simp] theorem State.domOn_drawn (s : State) (j : Nat) : (s.drawn).domOn j = s.domOn j := rfl
@[simp] theorem State.slot_drawn (s : State) (j l : Nat) : (s.drawn).slot j l = s.slot j l := rfl
@[simp] theorem State.drone_drawn (s : State) (j : Nat) : (s.drawn).drone j = s.drone j := rfl
@[simp] theorem State.tracker_drawn (s : State) (j : Nat) : (s.drawn).tracker j = s.tracker j := rfl
@[simp] theorem State.dom_drawn (s : State) (j : Nat) : (s.drawn).dom j = s.dom j := rfl
@[simp] theorem State.session_drawn (s : State) (j : Nat) : (s.drawn).session j = s.session j := rfl
@[simp] theorem State.emnPort_drawn (s : State) (j : Nat) : (s.drawn).emnPort j = s.emnPort j := rfl
@[simp] theorem State.pair_drawn (s : State) (j : Nat) : (s.drawn).pair j = s.pair j := rfl
@[simp] theorem State.engine_drawn (s : State) (j : Nat) : (s.drawn).engine j = s.engine j := rfl
@[simp] theorem State.lane_drawn (s : State) (j : Nat) : (s.drawn).lane j = s.lane j := rfl
@[simp] theorem State.adc_drawn (s : State) (j : Nat) : (s.drawn).adc j = s.adc j := rfl
@[simp] theorem State.pwrDom_drawn (s : State) (j : Nat) : (s.drawn).pwrDom j = s.pwrDom j := rfl
@[simp] theorem State.memWord_drawn (s : State) (j : Nat) : (s.drawn).memWord j = s.memWord j := rfl

/-! ### State.at_ -/

@[simp] theorem State.regs_at_ (s : State) (t : Nat) : (s.at_ t).regs = s.regs := rfl
@[simp] theorem State.free_at_ (s : State) (t : Nat) : (s.at_ t).free = s.free := rfl
@[simp] theorem State.spine_at_ (s : State) (t : Nat) : (s.at_ t).spine = s.spine := rfl
@[simp] theorem State.mem_at_ (s : State) (t : Nat) : (s.at_ t).mem = s.mem := rfl
@[simp] theorem State.modeCtl_at_ (s : State) (t : Nat) : (s.at_ t).modeCtl = s.modeCtl := rfl
@[simp] theorem State.irq_at_ (s : State) (t : Nat) : (s.at_ t).irq = s.irq := rfl
@[simp] theorem State.drones_at_ (s : State) (t : Nat) : (s.at_ t).drones = s.drones := rfl
@[simp] theorem State.scrub_at_ (s : State) (t : Nat) : (s.at_ t).scrub = s.scrub := rfl
@[simp] theorem State.trackers_at_ (s : State) (t : Nat) : (s.at_ t).trackers = s.trackers := rfl
@[simp] theorem State.doms_at_ (s : State) (t : Nat) : (s.at_ t).doms = s.doms := rfl
@[simp] theorem State.tick_at_ (s : State) (t : Nat) : (s.at_ t).tick = s.tick := rfl
@[simp] theorem State.wheel_at_ (s : State) (t : Nat) : (s.at_ t).wheel = s.wheel := rfl
@[simp] theorem State.sessions_at_ (s : State) (t : Nat) : (s.at_ t).sessions = s.sessions := rfl
@[simp] theorem State.ivw_at_ (s : State) (t : Nat) : (s.at_ t).ivw = s.ivw := rfl
@[simp] theorem State.emnPorts_at_ (s : State) (t : Nat) : (s.at_ t).emnPorts = s.emnPorts := rfl
@[simp] theorem State.emn_at_ (s : State) (t : Nat) : (s.at_ t).emn = s.emn := rfl
@[simp] theorem State.clk_at_ (s : State) (t : Nat) : (s.at_ t).clk = s.clk := rfl
@[simp] theorem State.ptp_at_ (s : State) (t : Nat) : (s.at_ t).ptp = s.ptp := rfl
@[simp] theorem State.net_at_ (s : State) (t : Nat) : (s.at_ t).net = s.net := rfl
@[simp] theorem State.capWait_at_ (s : State) (t : Nat) : (s.at_ t).capWait = s.capWait := rfl
@[simp] theorem State.snapAt_at_ (s : State) (t : Nat) : (s.at_ t).snapAt = s.snapAt := rfl
@[simp] theorem State.syncIn_at_ (s : State) (t : Nat) : (s.at_ t).syncIn = s.syncIn := rfl
@[simp] theorem State.pairs_at_ (s : State) (t : Nat) : (s.at_ t).pairs = s.pairs := rfl
@[simp] theorem State.claims_at_ (s : State) (t : Nat) : (s.at_ t).claims = s.claims := rfl
@[simp] theorem State.notes_at_ (s : State) (t : Nat) : (s.at_ t).notes = s.notes := rfl
@[simp] theorem State.engines_at_ (s : State) (t : Nat) : (s.at_ t).engines = s.engines := rfl
@[simp] theorem State.lanes_at_ (s : State) (t : Nat) : (s.at_ t).lanes = s.lanes := rfl
@[simp] theorem State.adcs_at_ (s : State) (t : Nat) : (s.at_ t).adcs = s.adcs := rfl
@[simp] theorem State.monNext_at_ (s : State) (t : Nat) : (s.at_ t).monNext = s.monNext := rfl
@[simp] theorem State.filters_at_ (s : State) (t : Nat) : (s.at_ t).filters = s.filters := rfl
@[simp] theorem State.berrAt_at_ (s : State) (t : Nat) : (s.at_ t).berrAt = s.berrAt := rfl
@[simp] theorem State.fab_at_ (s : State) (t : Nat) : (s.at_ t).fab = s.fab := rfl
@[simp] theorem State.pwr_at_ (s : State) (t : Nat) : (s.at_ t).pwr = s.pwr := rfl
@[simp] theorem State.stalls_at_ (s : State) (t : Nat) : (s.at_ t).stalls = s.stalls := rfl
@[simp] theorem State.supply_at_ (s : State) (t : Nat) : (s.at_ t).supply = s.supply := rfl
@[simp] theorem State.shadow_at_ (s : State) (t : Nat) : (s.at_ t).shadow = s.shadow := rfl
@[simp] theorem State.flash_at_ (s : State) (t : Nat) : (s.at_ t).flash = s.flash := rfl
@[simp] theorem State.cfg_at_ (s : State) (t : Nat) : (s.at_ t).cfg = s.cfg := rfl
@[simp] theorem State.bist_at_ (s : State) (t : Nat) : (s.at_ t).bist = s.bist := rfl
@[simp] theorem State.sec_at_ (s : State) (t : Nat) : (s.at_ t).sec = s.sec := rfl
@[simp] theorem State.gpio_at_ (s : State) (t : Nat) : (s.at_ t).gpio = s.gpio := rfl
@[simp] theorem State.lastNet_at_ (s : State) (t : Nat) : (s.at_ t).lastNet = s.lastNet := rfl
@[simp] theorem State.responder_at_ (s : State) (t : Nat) : (s.at_ t).responder = s.responder := rfl
@[simp] theorem State.pending_at_ (s : State) (t : Nat) : (s.at_ t).pending = s.pending := rfl
@[simp] theorem State.rd_at_ (s : State) (t : Nat) (b : Nat) : (s.at_ t).rd b = s.rd b := rfl
@[simp] theorem State.rdN_at_ (s : State) (t : Nat) (b : Nat) : (s.at_ t).rdN b = s.rdN b := rfl
@[simp] theorem State.get_at_ (s : State) (t : Nat) (g : FieldAt) : (s.at_ t).get g = s.get g := rfl
@[simp] theorem State.bit_at_ (s : State) (t : Nat) (g : FieldAt) : (s.at_ t).bit g = s.bit g := rfl
@[simp] theorem State.bitAt_at_ (s : State) (t : Nat) (b j : Nat) : (s.at_ t).bitAt b j = s.bitAt b j := rfl
@[simp] theorem State.mode_at_ (s : State) (t : Nat) : (s.at_ t).mode = s.mode := rfl
@[simp] theorem State.domOn_at_ (s : State) (t : Nat) (j : Nat) : (s.at_ t).domOn j = s.domOn j := rfl
@[simp] theorem State.fresh_at_ (s : State) (t : Nat) : (s.at_ t).fresh = s.fresh := rfl
@[simp] theorem State.slot_at_ (s : State) (t : Nat) (j l : Nat) : (s.at_ t).slot j l = s.slot j l := rfl
@[simp] theorem State.drone_at_ (s : State) (t : Nat) (j : Nat) : (s.at_ t).drone j = s.drone j := rfl
@[simp] theorem State.tracker_at_ (s : State) (t : Nat) (j : Nat) : (s.at_ t).tracker j = s.tracker j := rfl
@[simp] theorem State.dom_at_ (s : State) (t : Nat) (j : Nat) : (s.at_ t).dom j = s.dom j := rfl
@[simp] theorem State.session_at_ (s : State) (t : Nat) (j : Nat) : (s.at_ t).session j = s.session j := rfl
@[simp] theorem State.emnPort_at_ (s : State) (t : Nat) (j : Nat) : (s.at_ t).emnPort j = s.emnPort j := rfl
@[simp] theorem State.pair_at_ (s : State) (t : Nat) (j : Nat) : (s.at_ t).pair j = s.pair j := rfl
@[simp] theorem State.engine_at_ (s : State) (t : Nat) (j : Nat) : (s.at_ t).engine j = s.engine j := rfl
@[simp] theorem State.lane_at_ (s : State) (t : Nat) (j : Nat) : (s.at_ t).lane j = s.lane j := rfl
@[simp] theorem State.adc_at_ (s : State) (t : Nat) (j : Nat) : (s.at_ t).adc j = s.adc j := rfl
@[simp] theorem State.pwrDom_at_ (s : State) (t : Nat) (j : Nat) : (s.at_ t).pwrDom j = s.pwrDom j := rfl
@[simp] theorem State.memWord_at_ (s : State) (t : Nat) (j : Nat) : (s.at_ t).memWord j = s.memWord j := rfl

/-! ### State.setSlot -/

@[simp] theorem State.regs_setSlot (s : State) (n d : Nat) (x : IrqSlot) : (s.setSlot n d x).regs = s.regs := rfl
@[simp] theorem State.now_setSlot (s : State) (n d : Nat) (x : IrqSlot) : (s.setSlot n d x).now = s.now := rfl
@[simp] theorem State.free_setSlot (s : State) (n d : Nat) (x : IrqSlot) : (s.setSlot n d x).free = s.free := rfl
@[simp] theorem State.spine_setSlot (s : State) (n d : Nat) (x : IrqSlot) : (s.setSlot n d x).spine = s.spine := rfl
@[simp] theorem State.mem_setSlot (s : State) (n d : Nat) (x : IrqSlot) : (s.setSlot n d x).mem = s.mem := rfl
@[simp] theorem State.modeCtl_setSlot (s : State) (n d : Nat) (x : IrqSlot) : (s.setSlot n d x).modeCtl = s.modeCtl := rfl
@[simp] theorem State.drones_setSlot (s : State) (n d : Nat) (x : IrqSlot) : (s.setSlot n d x).drones = s.drones := rfl
@[simp] theorem State.scrub_setSlot (s : State) (n d : Nat) (x : IrqSlot) : (s.setSlot n d x).scrub = s.scrub := rfl
@[simp] theorem State.trackers_setSlot (s : State) (n d : Nat) (x : IrqSlot) : (s.setSlot n d x).trackers = s.trackers := rfl
@[simp] theorem State.doms_setSlot (s : State) (n d : Nat) (x : IrqSlot) : (s.setSlot n d x).doms = s.doms := rfl
@[simp] theorem State.tick_setSlot (s : State) (n d : Nat) (x : IrqSlot) : (s.setSlot n d x).tick = s.tick := rfl
@[simp] theorem State.wheel_setSlot (s : State) (n d : Nat) (x : IrqSlot) : (s.setSlot n d x).wheel = s.wheel := rfl
@[simp] theorem State.sessions_setSlot (s : State) (n d : Nat) (x : IrqSlot) : (s.setSlot n d x).sessions = s.sessions := rfl
@[simp] theorem State.ivw_setSlot (s : State) (n d : Nat) (x : IrqSlot) : (s.setSlot n d x).ivw = s.ivw := rfl
@[simp] theorem State.emnPorts_setSlot (s : State) (n d : Nat) (x : IrqSlot) : (s.setSlot n d x).emnPorts = s.emnPorts := rfl
@[simp] theorem State.emn_setSlot (s : State) (n d : Nat) (x : IrqSlot) : (s.setSlot n d x).emn = s.emn := rfl
@[simp] theorem State.clk_setSlot (s : State) (n d : Nat) (x : IrqSlot) : (s.setSlot n d x).clk = s.clk := rfl
@[simp] theorem State.ptp_setSlot (s : State) (n d : Nat) (x : IrqSlot) : (s.setSlot n d x).ptp = s.ptp := rfl
@[simp] theorem State.net_setSlot (s : State) (n d : Nat) (x : IrqSlot) : (s.setSlot n d x).net = s.net := rfl
@[simp] theorem State.capWait_setSlot (s : State) (n d : Nat) (x : IrqSlot) : (s.setSlot n d x).capWait = s.capWait := rfl
@[simp] theorem State.snapAt_setSlot (s : State) (n d : Nat) (x : IrqSlot) : (s.setSlot n d x).snapAt = s.snapAt := rfl
@[simp] theorem State.syncIn_setSlot (s : State) (n d : Nat) (x : IrqSlot) : (s.setSlot n d x).syncIn = s.syncIn := rfl
@[simp] theorem State.pairs_setSlot (s : State) (n d : Nat) (x : IrqSlot) : (s.setSlot n d x).pairs = s.pairs := rfl
@[simp] theorem State.claims_setSlot (s : State) (n d : Nat) (x : IrqSlot) : (s.setSlot n d x).claims = s.claims := rfl
@[simp] theorem State.notes_setSlot (s : State) (n d : Nat) (x : IrqSlot) : (s.setSlot n d x).notes = s.notes := rfl
@[simp] theorem State.engines_setSlot (s : State) (n d : Nat) (x : IrqSlot) : (s.setSlot n d x).engines = s.engines := rfl
@[simp] theorem State.lanes_setSlot (s : State) (n d : Nat) (x : IrqSlot) : (s.setSlot n d x).lanes = s.lanes := rfl
@[simp] theorem State.adcs_setSlot (s : State) (n d : Nat) (x : IrqSlot) : (s.setSlot n d x).adcs = s.adcs := rfl
@[simp] theorem State.monNext_setSlot (s : State) (n d : Nat) (x : IrqSlot) : (s.setSlot n d x).monNext = s.monNext := rfl
@[simp] theorem State.filters_setSlot (s : State) (n d : Nat) (x : IrqSlot) : (s.setSlot n d x).filters = s.filters := rfl
@[simp] theorem State.berrAt_setSlot (s : State) (n d : Nat) (x : IrqSlot) : (s.setSlot n d x).berrAt = s.berrAt := rfl
@[simp] theorem State.fab_setSlot (s : State) (n d : Nat) (x : IrqSlot) : (s.setSlot n d x).fab = s.fab := rfl
@[simp] theorem State.pwr_setSlot (s : State) (n d : Nat) (x : IrqSlot) : (s.setSlot n d x).pwr = s.pwr := rfl
@[simp] theorem State.stalls_setSlot (s : State) (n d : Nat) (x : IrqSlot) : (s.setSlot n d x).stalls = s.stalls := rfl
@[simp] theorem State.supply_setSlot (s : State) (n d : Nat) (x : IrqSlot) : (s.setSlot n d x).supply = s.supply := rfl
@[simp] theorem State.shadow_setSlot (s : State) (n d : Nat) (x : IrqSlot) : (s.setSlot n d x).shadow = s.shadow := rfl
@[simp] theorem State.flash_setSlot (s : State) (n d : Nat) (x : IrqSlot) : (s.setSlot n d x).flash = s.flash := rfl
@[simp] theorem State.cfg_setSlot (s : State) (n d : Nat) (x : IrqSlot) : (s.setSlot n d x).cfg = s.cfg := rfl
@[simp] theorem State.bist_setSlot (s : State) (n d : Nat) (x : IrqSlot) : (s.setSlot n d x).bist = s.bist := rfl
@[simp] theorem State.sec_setSlot (s : State) (n d : Nat) (x : IrqSlot) : (s.setSlot n d x).sec = s.sec := rfl
@[simp] theorem State.gpio_setSlot (s : State) (n d : Nat) (x : IrqSlot) : (s.setSlot n d x).gpio = s.gpio := rfl
@[simp] theorem State.lastNet_setSlot (s : State) (n d : Nat) (x : IrqSlot) : (s.setSlot n d x).lastNet = s.lastNet := rfl
@[simp] theorem State.responder_setSlot (s : State) (n d : Nat) (x : IrqSlot) : (s.setSlot n d x).responder = s.responder := rfl
@[simp] theorem State.pending_setSlot (s : State) (n d : Nat) (x : IrqSlot) : (s.setSlot n d x).pending = s.pending := rfl
@[simp] theorem State.rd_setSlot (s : State) (n d : Nat) (x : IrqSlot) (b : Nat) : (s.setSlot n d x).rd b = s.rd b := rfl
@[simp] theorem State.rdN_setSlot (s : State) (n d : Nat) (x : IrqSlot) (b : Nat) : (s.setSlot n d x).rdN b = s.rdN b := rfl
@[simp] theorem State.get_setSlot (s : State) (n d : Nat) (x : IrqSlot) (g : FieldAt) : (s.setSlot n d x).get g = s.get g := rfl
@[simp] theorem State.bit_setSlot (s : State) (n d : Nat) (x : IrqSlot) (g : FieldAt) : (s.setSlot n d x).bit g = s.bit g := rfl
@[simp] theorem State.bitAt_setSlot (s : State) (n d : Nat) (x : IrqSlot) (b j : Nat) : (s.setSlot n d x).bitAt b j = s.bitAt b j := rfl
@[simp] theorem State.mode_setSlot (s : State) (n d : Nat) (x : IrqSlot) : (s.setSlot n d x).mode = s.mode := rfl
@[simp] theorem State.domOn_setSlot (s : State) (n d : Nat) (x : IrqSlot) (j : Nat) : (s.setSlot n d x).domOn j = s.domOn j := rfl
@[simp] theorem State.fresh_setSlot (s : State) (n d : Nat) (x : IrqSlot) : (s.setSlot n d x).fresh = s.fresh := rfl
@[simp] theorem State.drone_setSlot (s : State) (n d : Nat) (x : IrqSlot) (j : Nat) : (s.setSlot n d x).drone j = s.drone j := rfl
@[simp] theorem State.tracker_setSlot (s : State) (n d : Nat) (x : IrqSlot) (j : Nat) : (s.setSlot n d x).tracker j = s.tracker j := rfl
@[simp] theorem State.dom_setSlot (s : State) (n d : Nat) (x : IrqSlot) (j : Nat) : (s.setSlot n d x).dom j = s.dom j := rfl
@[simp] theorem State.session_setSlot (s : State) (n d : Nat) (x : IrqSlot) (j : Nat) : (s.setSlot n d x).session j = s.session j := rfl
@[simp] theorem State.emnPort_setSlot (s : State) (n d : Nat) (x : IrqSlot) (j : Nat) : (s.setSlot n d x).emnPort j = s.emnPort j := rfl
@[simp] theorem State.pair_setSlot (s : State) (n d : Nat) (x : IrqSlot) (j : Nat) : (s.setSlot n d x).pair j = s.pair j := rfl
@[simp] theorem State.engine_setSlot (s : State) (n d : Nat) (x : IrqSlot) (j : Nat) : (s.setSlot n d x).engine j = s.engine j := rfl
@[simp] theorem State.lane_setSlot (s : State) (n d : Nat) (x : IrqSlot) (j : Nat) : (s.setSlot n d x).lane j = s.lane j := rfl
@[simp] theorem State.adc_setSlot (s : State) (n d : Nat) (x : IrqSlot) (j : Nat) : (s.setSlot n d x).adc j = s.adc j := rfl
@[simp] theorem State.pwrDom_setSlot (s : State) (n d : Nat) (x : IrqSlot) (j : Nat) : (s.setSlot n d x).pwrDom j = s.pwrDom j := rfl
@[simp] theorem State.memWord_setSlot (s : State) (n d : Nat) (x : IrqSlot) (j : Nat) : (s.setSlot n d x).memWord j = s.memWord j := rfl

/-! ### State.setDrone -/

@[simp] theorem State.regs_setDrone (s : State) (d : Nat) (x : DroneCtl) : (s.setDrone d x).regs = s.regs := rfl
@[simp] theorem State.now_setDrone (s : State) (d : Nat) (x : DroneCtl) : (s.setDrone d x).now = s.now := rfl
@[simp] theorem State.free_setDrone (s : State) (d : Nat) (x : DroneCtl) : (s.setDrone d x).free = s.free := rfl
@[simp] theorem State.spine_setDrone (s : State) (d : Nat) (x : DroneCtl) : (s.setDrone d x).spine = s.spine := rfl
@[simp] theorem State.mem_setDrone (s : State) (d : Nat) (x : DroneCtl) : (s.setDrone d x).mem = s.mem := rfl
@[simp] theorem State.modeCtl_setDrone (s : State) (d : Nat) (x : DroneCtl) : (s.setDrone d x).modeCtl = s.modeCtl := rfl
@[simp] theorem State.irq_setDrone (s : State) (d : Nat) (x : DroneCtl) : (s.setDrone d x).irq = s.irq := rfl
@[simp] theorem State.scrub_setDrone (s : State) (d : Nat) (x : DroneCtl) : (s.setDrone d x).scrub = s.scrub := rfl
@[simp] theorem State.trackers_setDrone (s : State) (d : Nat) (x : DroneCtl) : (s.setDrone d x).trackers = s.trackers := rfl
@[simp] theorem State.doms_setDrone (s : State) (d : Nat) (x : DroneCtl) : (s.setDrone d x).doms = s.doms := rfl
@[simp] theorem State.tick_setDrone (s : State) (d : Nat) (x : DroneCtl) : (s.setDrone d x).tick = s.tick := rfl
@[simp] theorem State.wheel_setDrone (s : State) (d : Nat) (x : DroneCtl) : (s.setDrone d x).wheel = s.wheel := rfl
@[simp] theorem State.sessions_setDrone (s : State) (d : Nat) (x : DroneCtl) : (s.setDrone d x).sessions = s.sessions := rfl
@[simp] theorem State.ivw_setDrone (s : State) (d : Nat) (x : DroneCtl) : (s.setDrone d x).ivw = s.ivw := rfl
@[simp] theorem State.emnPorts_setDrone (s : State) (d : Nat) (x : DroneCtl) : (s.setDrone d x).emnPorts = s.emnPorts := rfl
@[simp] theorem State.emn_setDrone (s : State) (d : Nat) (x : DroneCtl) : (s.setDrone d x).emn = s.emn := rfl
@[simp] theorem State.clk_setDrone (s : State) (d : Nat) (x : DroneCtl) : (s.setDrone d x).clk = s.clk := rfl
@[simp] theorem State.ptp_setDrone (s : State) (d : Nat) (x : DroneCtl) : (s.setDrone d x).ptp = s.ptp := rfl
@[simp] theorem State.net_setDrone (s : State) (d : Nat) (x : DroneCtl) : (s.setDrone d x).net = s.net := rfl
@[simp] theorem State.capWait_setDrone (s : State) (d : Nat) (x : DroneCtl) : (s.setDrone d x).capWait = s.capWait := rfl
@[simp] theorem State.snapAt_setDrone (s : State) (d : Nat) (x : DroneCtl) : (s.setDrone d x).snapAt = s.snapAt := rfl
@[simp] theorem State.syncIn_setDrone (s : State) (d : Nat) (x : DroneCtl) : (s.setDrone d x).syncIn = s.syncIn := rfl
@[simp] theorem State.pairs_setDrone (s : State) (d : Nat) (x : DroneCtl) : (s.setDrone d x).pairs = s.pairs := rfl
@[simp] theorem State.claims_setDrone (s : State) (d : Nat) (x : DroneCtl) : (s.setDrone d x).claims = s.claims := rfl
@[simp] theorem State.notes_setDrone (s : State) (d : Nat) (x : DroneCtl) : (s.setDrone d x).notes = s.notes := rfl
@[simp] theorem State.engines_setDrone (s : State) (d : Nat) (x : DroneCtl) : (s.setDrone d x).engines = s.engines := rfl
@[simp] theorem State.lanes_setDrone (s : State) (d : Nat) (x : DroneCtl) : (s.setDrone d x).lanes = s.lanes := rfl
@[simp] theorem State.adcs_setDrone (s : State) (d : Nat) (x : DroneCtl) : (s.setDrone d x).adcs = s.adcs := rfl
@[simp] theorem State.monNext_setDrone (s : State) (d : Nat) (x : DroneCtl) : (s.setDrone d x).monNext = s.monNext := rfl
@[simp] theorem State.filters_setDrone (s : State) (d : Nat) (x : DroneCtl) : (s.setDrone d x).filters = s.filters := rfl
@[simp] theorem State.berrAt_setDrone (s : State) (d : Nat) (x : DroneCtl) : (s.setDrone d x).berrAt = s.berrAt := rfl
@[simp] theorem State.fab_setDrone (s : State) (d : Nat) (x : DroneCtl) : (s.setDrone d x).fab = s.fab := rfl
@[simp] theorem State.pwr_setDrone (s : State) (d : Nat) (x : DroneCtl) : (s.setDrone d x).pwr = s.pwr := rfl
@[simp] theorem State.stalls_setDrone (s : State) (d : Nat) (x : DroneCtl) : (s.setDrone d x).stalls = s.stalls := rfl
@[simp] theorem State.supply_setDrone (s : State) (d : Nat) (x : DroneCtl) : (s.setDrone d x).supply = s.supply := rfl
@[simp] theorem State.shadow_setDrone (s : State) (d : Nat) (x : DroneCtl) : (s.setDrone d x).shadow = s.shadow := rfl
@[simp] theorem State.flash_setDrone (s : State) (d : Nat) (x : DroneCtl) : (s.setDrone d x).flash = s.flash := rfl
@[simp] theorem State.cfg_setDrone (s : State) (d : Nat) (x : DroneCtl) : (s.setDrone d x).cfg = s.cfg := rfl
@[simp] theorem State.bist_setDrone (s : State) (d : Nat) (x : DroneCtl) : (s.setDrone d x).bist = s.bist := rfl
@[simp] theorem State.sec_setDrone (s : State) (d : Nat) (x : DroneCtl) : (s.setDrone d x).sec = s.sec := rfl
@[simp] theorem State.gpio_setDrone (s : State) (d : Nat) (x : DroneCtl) : (s.setDrone d x).gpio = s.gpio := rfl
@[simp] theorem State.lastNet_setDrone (s : State) (d : Nat) (x : DroneCtl) : (s.setDrone d x).lastNet = s.lastNet := rfl
@[simp] theorem State.responder_setDrone (s : State) (d : Nat) (x : DroneCtl) : (s.setDrone d x).responder = s.responder := rfl
@[simp] theorem State.pending_setDrone (s : State) (d : Nat) (x : DroneCtl) : (s.setDrone d x).pending = s.pending := rfl
@[simp] theorem State.rd_setDrone (s : State) (d : Nat) (x : DroneCtl) (b : Nat) : (s.setDrone d x).rd b = s.rd b := rfl
@[simp] theorem State.rdN_setDrone (s : State) (d : Nat) (x : DroneCtl) (b : Nat) : (s.setDrone d x).rdN b = s.rdN b := rfl
@[simp] theorem State.get_setDrone (s : State) (d : Nat) (x : DroneCtl) (g : FieldAt) : (s.setDrone d x).get g = s.get g := rfl
@[simp] theorem State.bit_setDrone (s : State) (d : Nat) (x : DroneCtl) (g : FieldAt) : (s.setDrone d x).bit g = s.bit g := rfl
@[simp] theorem State.bitAt_setDrone (s : State) (d : Nat) (x : DroneCtl) (b j : Nat) : (s.setDrone d x).bitAt b j = s.bitAt b j := rfl
@[simp] theorem State.mode_setDrone (s : State) (d : Nat) (x : DroneCtl) : (s.setDrone d x).mode = s.mode := rfl
@[simp] theorem State.domOn_setDrone (s : State) (d : Nat) (x : DroneCtl) (j : Nat) : (s.setDrone d x).domOn j = s.domOn j := rfl
@[simp] theorem State.fresh_setDrone (s : State) (d : Nat) (x : DroneCtl) : (s.setDrone d x).fresh = s.fresh := rfl
@[simp] theorem State.slot_setDrone (s : State) (d : Nat) (x : DroneCtl) (j l : Nat) : (s.setDrone d x).slot j l = s.slot j l := rfl
@[simp] theorem State.tracker_setDrone (s : State) (d : Nat) (x : DroneCtl) (j : Nat) : (s.setDrone d x).tracker j = s.tracker j := rfl
@[simp] theorem State.dom_setDrone (s : State) (d : Nat) (x : DroneCtl) (j : Nat) : (s.setDrone d x).dom j = s.dom j := rfl
@[simp] theorem State.session_setDrone (s : State) (d : Nat) (x : DroneCtl) (j : Nat) : (s.setDrone d x).session j = s.session j := rfl
@[simp] theorem State.emnPort_setDrone (s : State) (d : Nat) (x : DroneCtl) (j : Nat) : (s.setDrone d x).emnPort j = s.emnPort j := rfl
@[simp] theorem State.pair_setDrone (s : State) (d : Nat) (x : DroneCtl) (j : Nat) : (s.setDrone d x).pair j = s.pair j := rfl
@[simp] theorem State.engine_setDrone (s : State) (d : Nat) (x : DroneCtl) (j : Nat) : (s.setDrone d x).engine j = s.engine j := rfl
@[simp] theorem State.lane_setDrone (s : State) (d : Nat) (x : DroneCtl) (j : Nat) : (s.setDrone d x).lane j = s.lane j := rfl
@[simp] theorem State.adc_setDrone (s : State) (d : Nat) (x : DroneCtl) (j : Nat) : (s.setDrone d x).adc j = s.adc j := rfl
@[simp] theorem State.pwrDom_setDrone (s : State) (d : Nat) (x : DroneCtl) (j : Nat) : (s.setDrone d x).pwrDom j = s.pwrDom j := rfl
@[simp] theorem State.memWord_setDrone (s : State) (d : Nat) (x : DroneCtl) (j : Nat) : (s.setDrone d x).memWord j = s.memWord j := rfl

/-! ### State.setTracker -/

@[simp] theorem State.regs_setTracker (s : State) (k : Nat) (x : Tracker) : (s.setTracker k x).regs = s.regs := rfl
@[simp] theorem State.now_setTracker (s : State) (k : Nat) (x : Tracker) : (s.setTracker k x).now = s.now := rfl
@[simp] theorem State.free_setTracker (s : State) (k : Nat) (x : Tracker) : (s.setTracker k x).free = s.free := rfl
@[simp] theorem State.spine_setTracker (s : State) (k : Nat) (x : Tracker) : (s.setTracker k x).spine = s.spine := rfl
@[simp] theorem State.mem_setTracker (s : State) (k : Nat) (x : Tracker) : (s.setTracker k x).mem = s.mem := rfl
@[simp] theorem State.modeCtl_setTracker (s : State) (k : Nat) (x : Tracker) : (s.setTracker k x).modeCtl = s.modeCtl := rfl
@[simp] theorem State.irq_setTracker (s : State) (k : Nat) (x : Tracker) : (s.setTracker k x).irq = s.irq := rfl
@[simp] theorem State.drones_setTracker (s : State) (k : Nat) (x : Tracker) : (s.setTracker k x).drones = s.drones := rfl
@[simp] theorem State.scrub_setTracker (s : State) (k : Nat) (x : Tracker) : (s.setTracker k x).scrub = s.scrub := rfl
@[simp] theorem State.doms_setTracker (s : State) (k : Nat) (x : Tracker) : (s.setTracker k x).doms = s.doms := rfl
@[simp] theorem State.tick_setTracker (s : State) (k : Nat) (x : Tracker) : (s.setTracker k x).tick = s.tick := rfl
@[simp] theorem State.wheel_setTracker (s : State) (k : Nat) (x : Tracker) : (s.setTracker k x).wheel = s.wheel := rfl
@[simp] theorem State.sessions_setTracker (s : State) (k : Nat) (x : Tracker) : (s.setTracker k x).sessions = s.sessions := rfl
@[simp] theorem State.ivw_setTracker (s : State) (k : Nat) (x : Tracker) : (s.setTracker k x).ivw = s.ivw := rfl
@[simp] theorem State.emnPorts_setTracker (s : State) (k : Nat) (x : Tracker) : (s.setTracker k x).emnPorts = s.emnPorts := rfl
@[simp] theorem State.emn_setTracker (s : State) (k : Nat) (x : Tracker) : (s.setTracker k x).emn = s.emn := rfl
@[simp] theorem State.clk_setTracker (s : State) (k : Nat) (x : Tracker) : (s.setTracker k x).clk = s.clk := rfl
@[simp] theorem State.ptp_setTracker (s : State) (k : Nat) (x : Tracker) : (s.setTracker k x).ptp = s.ptp := rfl
@[simp] theorem State.net_setTracker (s : State) (k : Nat) (x : Tracker) : (s.setTracker k x).net = s.net := rfl
@[simp] theorem State.capWait_setTracker (s : State) (k : Nat) (x : Tracker) : (s.setTracker k x).capWait = s.capWait := rfl
@[simp] theorem State.snapAt_setTracker (s : State) (k : Nat) (x : Tracker) : (s.setTracker k x).snapAt = s.snapAt := rfl
@[simp] theorem State.syncIn_setTracker (s : State) (k : Nat) (x : Tracker) : (s.setTracker k x).syncIn = s.syncIn := rfl
@[simp] theorem State.pairs_setTracker (s : State) (k : Nat) (x : Tracker) : (s.setTracker k x).pairs = s.pairs := rfl
@[simp] theorem State.claims_setTracker (s : State) (k : Nat) (x : Tracker) : (s.setTracker k x).claims = s.claims := rfl
@[simp] theorem State.notes_setTracker (s : State) (k : Nat) (x : Tracker) : (s.setTracker k x).notes = s.notes := rfl
@[simp] theorem State.engines_setTracker (s : State) (k : Nat) (x : Tracker) : (s.setTracker k x).engines = s.engines := rfl
@[simp] theorem State.lanes_setTracker (s : State) (k : Nat) (x : Tracker) : (s.setTracker k x).lanes = s.lanes := rfl
@[simp] theorem State.adcs_setTracker (s : State) (k : Nat) (x : Tracker) : (s.setTracker k x).adcs = s.adcs := rfl
@[simp] theorem State.monNext_setTracker (s : State) (k : Nat) (x : Tracker) : (s.setTracker k x).monNext = s.monNext := rfl
@[simp] theorem State.filters_setTracker (s : State) (k : Nat) (x : Tracker) : (s.setTracker k x).filters = s.filters := rfl
@[simp] theorem State.berrAt_setTracker (s : State) (k : Nat) (x : Tracker) : (s.setTracker k x).berrAt = s.berrAt := rfl
@[simp] theorem State.fab_setTracker (s : State) (k : Nat) (x : Tracker) : (s.setTracker k x).fab = s.fab := rfl
@[simp] theorem State.pwr_setTracker (s : State) (k : Nat) (x : Tracker) : (s.setTracker k x).pwr = s.pwr := rfl
@[simp] theorem State.stalls_setTracker (s : State) (k : Nat) (x : Tracker) : (s.setTracker k x).stalls = s.stalls := rfl
@[simp] theorem State.supply_setTracker (s : State) (k : Nat) (x : Tracker) : (s.setTracker k x).supply = s.supply := rfl
@[simp] theorem State.shadow_setTracker (s : State) (k : Nat) (x : Tracker) : (s.setTracker k x).shadow = s.shadow := rfl
@[simp] theorem State.flash_setTracker (s : State) (k : Nat) (x : Tracker) : (s.setTracker k x).flash = s.flash := rfl
@[simp] theorem State.cfg_setTracker (s : State) (k : Nat) (x : Tracker) : (s.setTracker k x).cfg = s.cfg := rfl
@[simp] theorem State.bist_setTracker (s : State) (k : Nat) (x : Tracker) : (s.setTracker k x).bist = s.bist := rfl
@[simp] theorem State.sec_setTracker (s : State) (k : Nat) (x : Tracker) : (s.setTracker k x).sec = s.sec := rfl
@[simp] theorem State.gpio_setTracker (s : State) (k : Nat) (x : Tracker) : (s.setTracker k x).gpio = s.gpio := rfl
@[simp] theorem State.lastNet_setTracker (s : State) (k : Nat) (x : Tracker) : (s.setTracker k x).lastNet = s.lastNet := rfl
@[simp] theorem State.responder_setTracker (s : State) (k : Nat) (x : Tracker) : (s.setTracker k x).responder = s.responder := rfl
@[simp] theorem State.pending_setTracker (s : State) (k : Nat) (x : Tracker) : (s.setTracker k x).pending = s.pending := rfl
@[simp] theorem State.rd_setTracker (s : State) (k : Nat) (x : Tracker) (b : Nat) : (s.setTracker k x).rd b = s.rd b := rfl
@[simp] theorem State.rdN_setTracker (s : State) (k : Nat) (x : Tracker) (b : Nat) : (s.setTracker k x).rdN b = s.rdN b := rfl
@[simp] theorem State.get_setTracker (s : State) (k : Nat) (x : Tracker) (g : FieldAt) : (s.setTracker k x).get g = s.get g := rfl
@[simp] theorem State.bit_setTracker (s : State) (k : Nat) (x : Tracker) (g : FieldAt) : (s.setTracker k x).bit g = s.bit g := rfl
@[simp] theorem State.bitAt_setTracker (s : State) (k : Nat) (x : Tracker) (b j : Nat) : (s.setTracker k x).bitAt b j = s.bitAt b j := rfl
@[simp] theorem State.mode_setTracker (s : State) (k : Nat) (x : Tracker) : (s.setTracker k x).mode = s.mode := rfl
@[simp] theorem State.domOn_setTracker (s : State) (k : Nat) (x : Tracker) (j : Nat) : (s.setTracker k x).domOn j = s.domOn j := rfl
@[simp] theorem State.fresh_setTracker (s : State) (k : Nat) (x : Tracker) : (s.setTracker k x).fresh = s.fresh := rfl
@[simp] theorem State.slot_setTracker (s : State) (k : Nat) (x : Tracker) (j l : Nat) : (s.setTracker k x).slot j l = s.slot j l := rfl
@[simp] theorem State.drone_setTracker (s : State) (k : Nat) (x : Tracker) (j : Nat) : (s.setTracker k x).drone j = s.drone j := rfl
@[simp] theorem State.dom_setTracker (s : State) (k : Nat) (x : Tracker) (j : Nat) : (s.setTracker k x).dom j = s.dom j := rfl
@[simp] theorem State.session_setTracker (s : State) (k : Nat) (x : Tracker) (j : Nat) : (s.setTracker k x).session j = s.session j := rfl
@[simp] theorem State.emnPort_setTracker (s : State) (k : Nat) (x : Tracker) (j : Nat) : (s.setTracker k x).emnPort j = s.emnPort j := rfl
@[simp] theorem State.pair_setTracker (s : State) (k : Nat) (x : Tracker) (j : Nat) : (s.setTracker k x).pair j = s.pair j := rfl
@[simp] theorem State.engine_setTracker (s : State) (k : Nat) (x : Tracker) (j : Nat) : (s.setTracker k x).engine j = s.engine j := rfl
@[simp] theorem State.lane_setTracker (s : State) (k : Nat) (x : Tracker) (j : Nat) : (s.setTracker k x).lane j = s.lane j := rfl
@[simp] theorem State.adc_setTracker (s : State) (k : Nat) (x : Tracker) (j : Nat) : (s.setTracker k x).adc j = s.adc j := rfl
@[simp] theorem State.pwrDom_setTracker (s : State) (k : Nat) (x : Tracker) (j : Nat) : (s.setTracker k x).pwrDom j = s.pwrDom j := rfl
@[simp] theorem State.memWord_setTracker (s : State) (k : Nat) (x : Tracker) (j : Nat) : (s.setTracker k x).memWord j = s.memWord j := rfl

/-! ### State.setDom -/

@[simp] theorem State.regs_setDom (s : State) (k : Nat) (x : Domain) : (s.setDom k x).regs = s.regs := rfl
@[simp] theorem State.now_setDom (s : State) (k : Nat) (x : Domain) : (s.setDom k x).now = s.now := rfl
@[simp] theorem State.free_setDom (s : State) (k : Nat) (x : Domain) : (s.setDom k x).free = s.free := rfl
@[simp] theorem State.spine_setDom (s : State) (k : Nat) (x : Domain) : (s.setDom k x).spine = s.spine := rfl
@[simp] theorem State.mem_setDom (s : State) (k : Nat) (x : Domain) : (s.setDom k x).mem = s.mem := rfl
@[simp] theorem State.modeCtl_setDom (s : State) (k : Nat) (x : Domain) : (s.setDom k x).modeCtl = s.modeCtl := rfl
@[simp] theorem State.irq_setDom (s : State) (k : Nat) (x : Domain) : (s.setDom k x).irq = s.irq := rfl
@[simp] theorem State.drones_setDom (s : State) (k : Nat) (x : Domain) : (s.setDom k x).drones = s.drones := rfl
@[simp] theorem State.scrub_setDom (s : State) (k : Nat) (x : Domain) : (s.setDom k x).scrub = s.scrub := rfl
@[simp] theorem State.trackers_setDom (s : State) (k : Nat) (x : Domain) : (s.setDom k x).trackers = s.trackers := rfl
@[simp] theorem State.tick_setDom (s : State) (k : Nat) (x : Domain) : (s.setDom k x).tick = s.tick := rfl
@[simp] theorem State.wheel_setDom (s : State) (k : Nat) (x : Domain) : (s.setDom k x).wheel = s.wheel := rfl
@[simp] theorem State.sessions_setDom (s : State) (k : Nat) (x : Domain) : (s.setDom k x).sessions = s.sessions := rfl
@[simp] theorem State.ivw_setDom (s : State) (k : Nat) (x : Domain) : (s.setDom k x).ivw = s.ivw := rfl
@[simp] theorem State.emnPorts_setDom (s : State) (k : Nat) (x : Domain) : (s.setDom k x).emnPorts = s.emnPorts := rfl
@[simp] theorem State.emn_setDom (s : State) (k : Nat) (x : Domain) : (s.setDom k x).emn = s.emn := rfl
@[simp] theorem State.clk_setDom (s : State) (k : Nat) (x : Domain) : (s.setDom k x).clk = s.clk := rfl
@[simp] theorem State.ptp_setDom (s : State) (k : Nat) (x : Domain) : (s.setDom k x).ptp = s.ptp := rfl
@[simp] theorem State.net_setDom (s : State) (k : Nat) (x : Domain) : (s.setDom k x).net = s.net := rfl
@[simp] theorem State.capWait_setDom (s : State) (k : Nat) (x : Domain) : (s.setDom k x).capWait = s.capWait := rfl
@[simp] theorem State.snapAt_setDom (s : State) (k : Nat) (x : Domain) : (s.setDom k x).snapAt = s.snapAt := rfl
@[simp] theorem State.syncIn_setDom (s : State) (k : Nat) (x : Domain) : (s.setDom k x).syncIn = s.syncIn := rfl
@[simp] theorem State.pairs_setDom (s : State) (k : Nat) (x : Domain) : (s.setDom k x).pairs = s.pairs := rfl
@[simp] theorem State.claims_setDom (s : State) (k : Nat) (x : Domain) : (s.setDom k x).claims = s.claims := rfl
@[simp] theorem State.notes_setDom (s : State) (k : Nat) (x : Domain) : (s.setDom k x).notes = s.notes := rfl
@[simp] theorem State.engines_setDom (s : State) (k : Nat) (x : Domain) : (s.setDom k x).engines = s.engines := rfl
@[simp] theorem State.lanes_setDom (s : State) (k : Nat) (x : Domain) : (s.setDom k x).lanes = s.lanes := rfl
@[simp] theorem State.adcs_setDom (s : State) (k : Nat) (x : Domain) : (s.setDom k x).adcs = s.adcs := rfl
@[simp] theorem State.monNext_setDom (s : State) (k : Nat) (x : Domain) : (s.setDom k x).monNext = s.monNext := rfl
@[simp] theorem State.filters_setDom (s : State) (k : Nat) (x : Domain) : (s.setDom k x).filters = s.filters := rfl
@[simp] theorem State.berrAt_setDom (s : State) (k : Nat) (x : Domain) : (s.setDom k x).berrAt = s.berrAt := rfl
@[simp] theorem State.fab_setDom (s : State) (k : Nat) (x : Domain) : (s.setDom k x).fab = s.fab := rfl
@[simp] theorem State.pwr_setDom (s : State) (k : Nat) (x : Domain) : (s.setDom k x).pwr = s.pwr := rfl
@[simp] theorem State.stalls_setDom (s : State) (k : Nat) (x : Domain) : (s.setDom k x).stalls = s.stalls := rfl
@[simp] theorem State.supply_setDom (s : State) (k : Nat) (x : Domain) : (s.setDom k x).supply = s.supply := rfl
@[simp] theorem State.shadow_setDom (s : State) (k : Nat) (x : Domain) : (s.setDom k x).shadow = s.shadow := rfl
@[simp] theorem State.flash_setDom (s : State) (k : Nat) (x : Domain) : (s.setDom k x).flash = s.flash := rfl
@[simp] theorem State.cfg_setDom (s : State) (k : Nat) (x : Domain) : (s.setDom k x).cfg = s.cfg := rfl
@[simp] theorem State.bist_setDom (s : State) (k : Nat) (x : Domain) : (s.setDom k x).bist = s.bist := rfl
@[simp] theorem State.sec_setDom (s : State) (k : Nat) (x : Domain) : (s.setDom k x).sec = s.sec := rfl
@[simp] theorem State.gpio_setDom (s : State) (k : Nat) (x : Domain) : (s.setDom k x).gpio = s.gpio := rfl
@[simp] theorem State.lastNet_setDom (s : State) (k : Nat) (x : Domain) : (s.setDom k x).lastNet = s.lastNet := rfl
@[simp] theorem State.responder_setDom (s : State) (k : Nat) (x : Domain) : (s.setDom k x).responder = s.responder := rfl
@[simp] theorem State.pending_setDom (s : State) (k : Nat) (x : Domain) : (s.setDom k x).pending = s.pending := rfl
@[simp] theorem State.rd_setDom (s : State) (k : Nat) (x : Domain) (b : Nat) : (s.setDom k x).rd b = s.rd b := rfl
@[simp] theorem State.rdN_setDom (s : State) (k : Nat) (x : Domain) (b : Nat) : (s.setDom k x).rdN b = s.rdN b := rfl
@[simp] theorem State.get_setDom (s : State) (k : Nat) (x : Domain) (g : FieldAt) : (s.setDom k x).get g = s.get g := rfl
@[simp] theorem State.bit_setDom (s : State) (k : Nat) (x : Domain) (g : FieldAt) : (s.setDom k x).bit g = s.bit g := rfl
@[simp] theorem State.bitAt_setDom (s : State) (k : Nat) (x : Domain) (b j : Nat) : (s.setDom k x).bitAt b j = s.bitAt b j := rfl
@[simp] theorem State.mode_setDom (s : State) (k : Nat) (x : Domain) : (s.setDom k x).mode = s.mode := rfl
@[simp] theorem State.domOn_setDom (s : State) (k : Nat) (x : Domain) (j : Nat) : (s.setDom k x).domOn j = s.domOn j := rfl
@[simp] theorem State.fresh_setDom (s : State) (k : Nat) (x : Domain) : (s.setDom k x).fresh = s.fresh := rfl
@[simp] theorem State.slot_setDom (s : State) (k : Nat) (x : Domain) (j l : Nat) : (s.setDom k x).slot j l = s.slot j l := rfl
@[simp] theorem State.drone_setDom (s : State) (k : Nat) (x : Domain) (j : Nat) : (s.setDom k x).drone j = s.drone j := rfl
@[simp] theorem State.tracker_setDom (s : State) (k : Nat) (x : Domain) (j : Nat) : (s.setDom k x).tracker j = s.tracker j := rfl
@[simp] theorem State.session_setDom (s : State) (k : Nat) (x : Domain) (j : Nat) : (s.setDom k x).session j = s.session j := rfl
@[simp] theorem State.emnPort_setDom (s : State) (k : Nat) (x : Domain) (j : Nat) : (s.setDom k x).emnPort j = s.emnPort j := rfl
@[simp] theorem State.pair_setDom (s : State) (k : Nat) (x : Domain) (j : Nat) : (s.setDom k x).pair j = s.pair j := rfl
@[simp] theorem State.engine_setDom (s : State) (k : Nat) (x : Domain) (j : Nat) : (s.setDom k x).engine j = s.engine j := rfl
@[simp] theorem State.lane_setDom (s : State) (k : Nat) (x : Domain) (j : Nat) : (s.setDom k x).lane j = s.lane j := rfl
@[simp] theorem State.adc_setDom (s : State) (k : Nat) (x : Domain) (j : Nat) : (s.setDom k x).adc j = s.adc j := rfl
@[simp] theorem State.pwrDom_setDom (s : State) (k : Nat) (x : Domain) (j : Nat) : (s.setDom k x).pwrDom j = s.pwrDom j := rfl
@[simp] theorem State.memWord_setDom (s : State) (k : Nat) (x : Domain) (j : Nat) : (s.setDom k x).memWord j = s.memWord j := rfl

/-! ### State.setSession -/

@[simp] theorem State.regs_setSession (s : State) (k : Nat) (x : Session) : (s.setSession k x).regs = s.regs := rfl
@[simp] theorem State.now_setSession (s : State) (k : Nat) (x : Session) : (s.setSession k x).now = s.now := rfl
@[simp] theorem State.free_setSession (s : State) (k : Nat) (x : Session) : (s.setSession k x).free = s.free := rfl
@[simp] theorem State.spine_setSession (s : State) (k : Nat) (x : Session) : (s.setSession k x).spine = s.spine := rfl
@[simp] theorem State.mem_setSession (s : State) (k : Nat) (x : Session) : (s.setSession k x).mem = s.mem := rfl
@[simp] theorem State.modeCtl_setSession (s : State) (k : Nat) (x : Session) : (s.setSession k x).modeCtl = s.modeCtl := rfl
@[simp] theorem State.irq_setSession (s : State) (k : Nat) (x : Session) : (s.setSession k x).irq = s.irq := rfl
@[simp] theorem State.drones_setSession (s : State) (k : Nat) (x : Session) : (s.setSession k x).drones = s.drones := rfl
@[simp] theorem State.scrub_setSession (s : State) (k : Nat) (x : Session) : (s.setSession k x).scrub = s.scrub := rfl
@[simp] theorem State.trackers_setSession (s : State) (k : Nat) (x : Session) : (s.setSession k x).trackers = s.trackers := rfl
@[simp] theorem State.doms_setSession (s : State) (k : Nat) (x : Session) : (s.setSession k x).doms = s.doms := rfl
@[simp] theorem State.tick_setSession (s : State) (k : Nat) (x : Session) : (s.setSession k x).tick = s.tick := rfl
@[simp] theorem State.wheel_setSession (s : State) (k : Nat) (x : Session) : (s.setSession k x).wheel = s.wheel := rfl
@[simp] theorem State.ivw_setSession (s : State) (k : Nat) (x : Session) : (s.setSession k x).ivw = s.ivw := rfl
@[simp] theorem State.emnPorts_setSession (s : State) (k : Nat) (x : Session) : (s.setSession k x).emnPorts = s.emnPorts := rfl
@[simp] theorem State.emn_setSession (s : State) (k : Nat) (x : Session) : (s.setSession k x).emn = s.emn := rfl
@[simp] theorem State.clk_setSession (s : State) (k : Nat) (x : Session) : (s.setSession k x).clk = s.clk := rfl
@[simp] theorem State.ptp_setSession (s : State) (k : Nat) (x : Session) : (s.setSession k x).ptp = s.ptp := rfl
@[simp] theorem State.net_setSession (s : State) (k : Nat) (x : Session) : (s.setSession k x).net = s.net := rfl
@[simp] theorem State.capWait_setSession (s : State) (k : Nat) (x : Session) : (s.setSession k x).capWait = s.capWait := rfl
@[simp] theorem State.snapAt_setSession (s : State) (k : Nat) (x : Session) : (s.setSession k x).snapAt = s.snapAt := rfl
@[simp] theorem State.syncIn_setSession (s : State) (k : Nat) (x : Session) : (s.setSession k x).syncIn = s.syncIn := rfl
@[simp] theorem State.pairs_setSession (s : State) (k : Nat) (x : Session) : (s.setSession k x).pairs = s.pairs := rfl
@[simp] theorem State.claims_setSession (s : State) (k : Nat) (x : Session) : (s.setSession k x).claims = s.claims := rfl
@[simp] theorem State.notes_setSession (s : State) (k : Nat) (x : Session) : (s.setSession k x).notes = s.notes := rfl
@[simp] theorem State.engines_setSession (s : State) (k : Nat) (x : Session) : (s.setSession k x).engines = s.engines := rfl
@[simp] theorem State.lanes_setSession (s : State) (k : Nat) (x : Session) : (s.setSession k x).lanes = s.lanes := rfl
@[simp] theorem State.adcs_setSession (s : State) (k : Nat) (x : Session) : (s.setSession k x).adcs = s.adcs := rfl
@[simp] theorem State.monNext_setSession (s : State) (k : Nat) (x : Session) : (s.setSession k x).monNext = s.monNext := rfl
@[simp] theorem State.filters_setSession (s : State) (k : Nat) (x : Session) : (s.setSession k x).filters = s.filters := rfl
@[simp] theorem State.berrAt_setSession (s : State) (k : Nat) (x : Session) : (s.setSession k x).berrAt = s.berrAt := rfl
@[simp] theorem State.fab_setSession (s : State) (k : Nat) (x : Session) : (s.setSession k x).fab = s.fab := rfl
@[simp] theorem State.pwr_setSession (s : State) (k : Nat) (x : Session) : (s.setSession k x).pwr = s.pwr := rfl
@[simp] theorem State.stalls_setSession (s : State) (k : Nat) (x : Session) : (s.setSession k x).stalls = s.stalls := rfl
@[simp] theorem State.supply_setSession (s : State) (k : Nat) (x : Session) : (s.setSession k x).supply = s.supply := rfl
@[simp] theorem State.shadow_setSession (s : State) (k : Nat) (x : Session) : (s.setSession k x).shadow = s.shadow := rfl
@[simp] theorem State.flash_setSession (s : State) (k : Nat) (x : Session) : (s.setSession k x).flash = s.flash := rfl
@[simp] theorem State.cfg_setSession (s : State) (k : Nat) (x : Session) : (s.setSession k x).cfg = s.cfg := rfl
@[simp] theorem State.bist_setSession (s : State) (k : Nat) (x : Session) : (s.setSession k x).bist = s.bist := rfl
@[simp] theorem State.sec_setSession (s : State) (k : Nat) (x : Session) : (s.setSession k x).sec = s.sec := rfl
@[simp] theorem State.gpio_setSession (s : State) (k : Nat) (x : Session) : (s.setSession k x).gpio = s.gpio := rfl
@[simp] theorem State.lastNet_setSession (s : State) (k : Nat) (x : Session) : (s.setSession k x).lastNet = s.lastNet := rfl
@[simp] theorem State.responder_setSession (s : State) (k : Nat) (x : Session) : (s.setSession k x).responder = s.responder := rfl
@[simp] theorem State.pending_setSession (s : State) (k : Nat) (x : Session) : (s.setSession k x).pending = s.pending := rfl
@[simp] theorem State.rd_setSession (s : State) (k : Nat) (x : Session) (b : Nat) : (s.setSession k x).rd b = s.rd b := rfl
@[simp] theorem State.rdN_setSession (s : State) (k : Nat) (x : Session) (b : Nat) : (s.setSession k x).rdN b = s.rdN b := rfl
@[simp] theorem State.get_setSession (s : State) (k : Nat) (x : Session) (g : FieldAt) : (s.setSession k x).get g = s.get g := rfl
@[simp] theorem State.bit_setSession (s : State) (k : Nat) (x : Session) (g : FieldAt) : (s.setSession k x).bit g = s.bit g := rfl
@[simp] theorem State.bitAt_setSession (s : State) (k : Nat) (x : Session) (b j : Nat) : (s.setSession k x).bitAt b j = s.bitAt b j := rfl
@[simp] theorem State.mode_setSession (s : State) (k : Nat) (x : Session) : (s.setSession k x).mode = s.mode := rfl
@[simp] theorem State.domOn_setSession (s : State) (k : Nat) (x : Session) (j : Nat) : (s.setSession k x).domOn j = s.domOn j := rfl
@[simp] theorem State.fresh_setSession (s : State) (k : Nat) (x : Session) : (s.setSession k x).fresh = s.fresh := rfl
@[simp] theorem State.slot_setSession (s : State) (k : Nat) (x : Session) (j l : Nat) : (s.setSession k x).slot j l = s.slot j l := rfl
@[simp] theorem State.drone_setSession (s : State) (k : Nat) (x : Session) (j : Nat) : (s.setSession k x).drone j = s.drone j := rfl
@[simp] theorem State.tracker_setSession (s : State) (k : Nat) (x : Session) (j : Nat) : (s.setSession k x).tracker j = s.tracker j := rfl
@[simp] theorem State.dom_setSession (s : State) (k : Nat) (x : Session) (j : Nat) : (s.setSession k x).dom j = s.dom j := rfl
@[simp] theorem State.emnPort_setSession (s : State) (k : Nat) (x : Session) (j : Nat) : (s.setSession k x).emnPort j = s.emnPort j := rfl
@[simp] theorem State.pair_setSession (s : State) (k : Nat) (x : Session) (j : Nat) : (s.setSession k x).pair j = s.pair j := rfl
@[simp] theorem State.engine_setSession (s : State) (k : Nat) (x : Session) (j : Nat) : (s.setSession k x).engine j = s.engine j := rfl
@[simp] theorem State.lane_setSession (s : State) (k : Nat) (x : Session) (j : Nat) : (s.setSession k x).lane j = s.lane j := rfl
@[simp] theorem State.adc_setSession (s : State) (k : Nat) (x : Session) (j : Nat) : (s.setSession k x).adc j = s.adc j := rfl
@[simp] theorem State.pwrDom_setSession (s : State) (k : Nat) (x : Session) (j : Nat) : (s.setSession k x).pwrDom j = s.pwrDom j := rfl
@[simp] theorem State.memWord_setSession (s : State) (k : Nat) (x : Session) (j : Nat) : (s.setSession k x).memWord j = s.memWord j := rfl

/-! ### State.setEmnPort -/

@[simp] theorem State.regs_setEmnPort (s : State) (k : Nat) (x : EmnPort) : (s.setEmnPort k x).regs = s.regs := rfl
@[simp] theorem State.now_setEmnPort (s : State) (k : Nat) (x : EmnPort) : (s.setEmnPort k x).now = s.now := rfl
@[simp] theorem State.free_setEmnPort (s : State) (k : Nat) (x : EmnPort) : (s.setEmnPort k x).free = s.free := rfl
@[simp] theorem State.spine_setEmnPort (s : State) (k : Nat) (x : EmnPort) : (s.setEmnPort k x).spine = s.spine := rfl
@[simp] theorem State.mem_setEmnPort (s : State) (k : Nat) (x : EmnPort) : (s.setEmnPort k x).mem = s.mem := rfl
@[simp] theorem State.modeCtl_setEmnPort (s : State) (k : Nat) (x : EmnPort) : (s.setEmnPort k x).modeCtl = s.modeCtl := rfl
@[simp] theorem State.irq_setEmnPort (s : State) (k : Nat) (x : EmnPort) : (s.setEmnPort k x).irq = s.irq := rfl
@[simp] theorem State.drones_setEmnPort (s : State) (k : Nat) (x : EmnPort) : (s.setEmnPort k x).drones = s.drones := rfl
@[simp] theorem State.scrub_setEmnPort (s : State) (k : Nat) (x : EmnPort) : (s.setEmnPort k x).scrub = s.scrub := rfl
@[simp] theorem State.trackers_setEmnPort (s : State) (k : Nat) (x : EmnPort) : (s.setEmnPort k x).trackers = s.trackers := rfl
@[simp] theorem State.doms_setEmnPort (s : State) (k : Nat) (x : EmnPort) : (s.setEmnPort k x).doms = s.doms := rfl
@[simp] theorem State.tick_setEmnPort (s : State) (k : Nat) (x : EmnPort) : (s.setEmnPort k x).tick = s.tick := rfl
@[simp] theorem State.wheel_setEmnPort (s : State) (k : Nat) (x : EmnPort) : (s.setEmnPort k x).wheel = s.wheel := rfl
@[simp] theorem State.sessions_setEmnPort (s : State) (k : Nat) (x : EmnPort) : (s.setEmnPort k x).sessions = s.sessions := rfl
@[simp] theorem State.ivw_setEmnPort (s : State) (k : Nat) (x : EmnPort) : (s.setEmnPort k x).ivw = s.ivw := rfl
@[simp] theorem State.emn_setEmnPort (s : State) (k : Nat) (x : EmnPort) : (s.setEmnPort k x).emn = s.emn := rfl
@[simp] theorem State.clk_setEmnPort (s : State) (k : Nat) (x : EmnPort) : (s.setEmnPort k x).clk = s.clk := rfl
@[simp] theorem State.ptp_setEmnPort (s : State) (k : Nat) (x : EmnPort) : (s.setEmnPort k x).ptp = s.ptp := rfl
@[simp] theorem State.net_setEmnPort (s : State) (k : Nat) (x : EmnPort) : (s.setEmnPort k x).net = s.net := rfl
@[simp] theorem State.capWait_setEmnPort (s : State) (k : Nat) (x : EmnPort) : (s.setEmnPort k x).capWait = s.capWait := rfl
@[simp] theorem State.snapAt_setEmnPort (s : State) (k : Nat) (x : EmnPort) : (s.setEmnPort k x).snapAt = s.snapAt := rfl
@[simp] theorem State.syncIn_setEmnPort (s : State) (k : Nat) (x : EmnPort) : (s.setEmnPort k x).syncIn = s.syncIn := rfl
@[simp] theorem State.pairs_setEmnPort (s : State) (k : Nat) (x : EmnPort) : (s.setEmnPort k x).pairs = s.pairs := rfl
@[simp] theorem State.claims_setEmnPort (s : State) (k : Nat) (x : EmnPort) : (s.setEmnPort k x).claims = s.claims := rfl
@[simp] theorem State.notes_setEmnPort (s : State) (k : Nat) (x : EmnPort) : (s.setEmnPort k x).notes = s.notes := rfl
@[simp] theorem State.engines_setEmnPort (s : State) (k : Nat) (x : EmnPort) : (s.setEmnPort k x).engines = s.engines := rfl
@[simp] theorem State.lanes_setEmnPort (s : State) (k : Nat) (x : EmnPort) : (s.setEmnPort k x).lanes = s.lanes := rfl
@[simp] theorem State.adcs_setEmnPort (s : State) (k : Nat) (x : EmnPort) : (s.setEmnPort k x).adcs = s.adcs := rfl
@[simp] theorem State.monNext_setEmnPort (s : State) (k : Nat) (x : EmnPort) : (s.setEmnPort k x).monNext = s.monNext := rfl
@[simp] theorem State.filters_setEmnPort (s : State) (k : Nat) (x : EmnPort) : (s.setEmnPort k x).filters = s.filters := rfl
@[simp] theorem State.berrAt_setEmnPort (s : State) (k : Nat) (x : EmnPort) : (s.setEmnPort k x).berrAt = s.berrAt := rfl
@[simp] theorem State.fab_setEmnPort (s : State) (k : Nat) (x : EmnPort) : (s.setEmnPort k x).fab = s.fab := rfl
@[simp] theorem State.pwr_setEmnPort (s : State) (k : Nat) (x : EmnPort) : (s.setEmnPort k x).pwr = s.pwr := rfl
@[simp] theorem State.stalls_setEmnPort (s : State) (k : Nat) (x : EmnPort) : (s.setEmnPort k x).stalls = s.stalls := rfl
@[simp] theorem State.supply_setEmnPort (s : State) (k : Nat) (x : EmnPort) : (s.setEmnPort k x).supply = s.supply := rfl
@[simp] theorem State.shadow_setEmnPort (s : State) (k : Nat) (x : EmnPort) : (s.setEmnPort k x).shadow = s.shadow := rfl
@[simp] theorem State.flash_setEmnPort (s : State) (k : Nat) (x : EmnPort) : (s.setEmnPort k x).flash = s.flash := rfl
@[simp] theorem State.cfg_setEmnPort (s : State) (k : Nat) (x : EmnPort) : (s.setEmnPort k x).cfg = s.cfg := rfl
@[simp] theorem State.bist_setEmnPort (s : State) (k : Nat) (x : EmnPort) : (s.setEmnPort k x).bist = s.bist := rfl
@[simp] theorem State.sec_setEmnPort (s : State) (k : Nat) (x : EmnPort) : (s.setEmnPort k x).sec = s.sec := rfl
@[simp] theorem State.gpio_setEmnPort (s : State) (k : Nat) (x : EmnPort) : (s.setEmnPort k x).gpio = s.gpio := rfl
@[simp] theorem State.lastNet_setEmnPort (s : State) (k : Nat) (x : EmnPort) : (s.setEmnPort k x).lastNet = s.lastNet := rfl
@[simp] theorem State.responder_setEmnPort (s : State) (k : Nat) (x : EmnPort) : (s.setEmnPort k x).responder = s.responder := rfl
@[simp] theorem State.pending_setEmnPort (s : State) (k : Nat) (x : EmnPort) : (s.setEmnPort k x).pending = s.pending := rfl
@[simp] theorem State.rd_setEmnPort (s : State) (k : Nat) (x : EmnPort) (b : Nat) : (s.setEmnPort k x).rd b = s.rd b := rfl
@[simp] theorem State.rdN_setEmnPort (s : State) (k : Nat) (x : EmnPort) (b : Nat) : (s.setEmnPort k x).rdN b = s.rdN b := rfl
@[simp] theorem State.get_setEmnPort (s : State) (k : Nat) (x : EmnPort) (g : FieldAt) : (s.setEmnPort k x).get g = s.get g := rfl
@[simp] theorem State.bit_setEmnPort (s : State) (k : Nat) (x : EmnPort) (g : FieldAt) : (s.setEmnPort k x).bit g = s.bit g := rfl
@[simp] theorem State.bitAt_setEmnPort (s : State) (k : Nat) (x : EmnPort) (b j : Nat) : (s.setEmnPort k x).bitAt b j = s.bitAt b j := rfl
@[simp] theorem State.mode_setEmnPort (s : State) (k : Nat) (x : EmnPort) : (s.setEmnPort k x).mode = s.mode := rfl
@[simp] theorem State.domOn_setEmnPort (s : State) (k : Nat) (x : EmnPort) (j : Nat) : (s.setEmnPort k x).domOn j = s.domOn j := rfl
@[simp] theorem State.fresh_setEmnPort (s : State) (k : Nat) (x : EmnPort) : (s.setEmnPort k x).fresh = s.fresh := rfl
@[simp] theorem State.slot_setEmnPort (s : State) (k : Nat) (x : EmnPort) (j l : Nat) : (s.setEmnPort k x).slot j l = s.slot j l := rfl
@[simp] theorem State.drone_setEmnPort (s : State) (k : Nat) (x : EmnPort) (j : Nat) : (s.setEmnPort k x).drone j = s.drone j := rfl
@[simp] theorem State.tracker_setEmnPort (s : State) (k : Nat) (x : EmnPort) (j : Nat) : (s.setEmnPort k x).tracker j = s.tracker j := rfl
@[simp] theorem State.dom_setEmnPort (s : State) (k : Nat) (x : EmnPort) (j : Nat) : (s.setEmnPort k x).dom j = s.dom j := rfl
@[simp] theorem State.session_setEmnPort (s : State) (k : Nat) (x : EmnPort) (j : Nat) : (s.setEmnPort k x).session j = s.session j := rfl
@[simp] theorem State.pair_setEmnPort (s : State) (k : Nat) (x : EmnPort) (j : Nat) : (s.setEmnPort k x).pair j = s.pair j := rfl
@[simp] theorem State.engine_setEmnPort (s : State) (k : Nat) (x : EmnPort) (j : Nat) : (s.setEmnPort k x).engine j = s.engine j := rfl
@[simp] theorem State.lane_setEmnPort (s : State) (k : Nat) (x : EmnPort) (j : Nat) : (s.setEmnPort k x).lane j = s.lane j := rfl
@[simp] theorem State.adc_setEmnPort (s : State) (k : Nat) (x : EmnPort) (j : Nat) : (s.setEmnPort k x).adc j = s.adc j := rfl
@[simp] theorem State.pwrDom_setEmnPort (s : State) (k : Nat) (x : EmnPort) (j : Nat) : (s.setEmnPort k x).pwrDom j = s.pwrDom j := rfl
@[simp] theorem State.memWord_setEmnPort (s : State) (k : Nat) (x : EmnPort) (j : Nat) : (s.setEmnPort k x).memWord j = s.memWord j := rfl

/-! ### State.setPair -/

@[simp] theorem State.regs_setPair (s : State) (k : Nat) (x : Pair) : (s.setPair k x).regs = s.regs := rfl
@[simp] theorem State.now_setPair (s : State) (k : Nat) (x : Pair) : (s.setPair k x).now = s.now := rfl
@[simp] theorem State.free_setPair (s : State) (k : Nat) (x : Pair) : (s.setPair k x).free = s.free := rfl
@[simp] theorem State.spine_setPair (s : State) (k : Nat) (x : Pair) : (s.setPair k x).spine = s.spine := rfl
@[simp] theorem State.mem_setPair (s : State) (k : Nat) (x : Pair) : (s.setPair k x).mem = s.mem := rfl
@[simp] theorem State.modeCtl_setPair (s : State) (k : Nat) (x : Pair) : (s.setPair k x).modeCtl = s.modeCtl := rfl
@[simp] theorem State.irq_setPair (s : State) (k : Nat) (x : Pair) : (s.setPair k x).irq = s.irq := rfl
@[simp] theorem State.drones_setPair (s : State) (k : Nat) (x : Pair) : (s.setPair k x).drones = s.drones := rfl
@[simp] theorem State.scrub_setPair (s : State) (k : Nat) (x : Pair) : (s.setPair k x).scrub = s.scrub := rfl
@[simp] theorem State.trackers_setPair (s : State) (k : Nat) (x : Pair) : (s.setPair k x).trackers = s.trackers := rfl
@[simp] theorem State.doms_setPair (s : State) (k : Nat) (x : Pair) : (s.setPair k x).doms = s.doms := rfl
@[simp] theorem State.tick_setPair (s : State) (k : Nat) (x : Pair) : (s.setPair k x).tick = s.tick := rfl
@[simp] theorem State.wheel_setPair (s : State) (k : Nat) (x : Pair) : (s.setPair k x).wheel = s.wheel := rfl
@[simp] theorem State.sessions_setPair (s : State) (k : Nat) (x : Pair) : (s.setPair k x).sessions = s.sessions := rfl
@[simp] theorem State.ivw_setPair (s : State) (k : Nat) (x : Pair) : (s.setPair k x).ivw = s.ivw := rfl
@[simp] theorem State.emnPorts_setPair (s : State) (k : Nat) (x : Pair) : (s.setPair k x).emnPorts = s.emnPorts := rfl
@[simp] theorem State.emn_setPair (s : State) (k : Nat) (x : Pair) : (s.setPair k x).emn = s.emn := rfl
@[simp] theorem State.clk_setPair (s : State) (k : Nat) (x : Pair) : (s.setPair k x).clk = s.clk := rfl
@[simp] theorem State.ptp_setPair (s : State) (k : Nat) (x : Pair) : (s.setPair k x).ptp = s.ptp := rfl
@[simp] theorem State.net_setPair (s : State) (k : Nat) (x : Pair) : (s.setPair k x).net = s.net := rfl
@[simp] theorem State.capWait_setPair (s : State) (k : Nat) (x : Pair) : (s.setPair k x).capWait = s.capWait := rfl
@[simp] theorem State.snapAt_setPair (s : State) (k : Nat) (x : Pair) : (s.setPair k x).snapAt = s.snapAt := rfl
@[simp] theorem State.syncIn_setPair (s : State) (k : Nat) (x : Pair) : (s.setPair k x).syncIn = s.syncIn := rfl
@[simp] theorem State.claims_setPair (s : State) (k : Nat) (x : Pair) : (s.setPair k x).claims = s.claims := rfl
@[simp] theorem State.notes_setPair (s : State) (k : Nat) (x : Pair) : (s.setPair k x).notes = s.notes := rfl
@[simp] theorem State.engines_setPair (s : State) (k : Nat) (x : Pair) : (s.setPair k x).engines = s.engines := rfl
@[simp] theorem State.lanes_setPair (s : State) (k : Nat) (x : Pair) : (s.setPair k x).lanes = s.lanes := rfl
@[simp] theorem State.adcs_setPair (s : State) (k : Nat) (x : Pair) : (s.setPair k x).adcs = s.adcs := rfl
@[simp] theorem State.monNext_setPair (s : State) (k : Nat) (x : Pair) : (s.setPair k x).monNext = s.monNext := rfl
@[simp] theorem State.filters_setPair (s : State) (k : Nat) (x : Pair) : (s.setPair k x).filters = s.filters := rfl
@[simp] theorem State.berrAt_setPair (s : State) (k : Nat) (x : Pair) : (s.setPair k x).berrAt = s.berrAt := rfl
@[simp] theorem State.fab_setPair (s : State) (k : Nat) (x : Pair) : (s.setPair k x).fab = s.fab := rfl
@[simp] theorem State.pwr_setPair (s : State) (k : Nat) (x : Pair) : (s.setPair k x).pwr = s.pwr := rfl
@[simp] theorem State.stalls_setPair (s : State) (k : Nat) (x : Pair) : (s.setPair k x).stalls = s.stalls := rfl
@[simp] theorem State.supply_setPair (s : State) (k : Nat) (x : Pair) : (s.setPair k x).supply = s.supply := rfl
@[simp] theorem State.shadow_setPair (s : State) (k : Nat) (x : Pair) : (s.setPair k x).shadow = s.shadow := rfl
@[simp] theorem State.flash_setPair (s : State) (k : Nat) (x : Pair) : (s.setPair k x).flash = s.flash := rfl
@[simp] theorem State.cfg_setPair (s : State) (k : Nat) (x : Pair) : (s.setPair k x).cfg = s.cfg := rfl
@[simp] theorem State.bist_setPair (s : State) (k : Nat) (x : Pair) : (s.setPair k x).bist = s.bist := rfl
@[simp] theorem State.sec_setPair (s : State) (k : Nat) (x : Pair) : (s.setPair k x).sec = s.sec := rfl
@[simp] theorem State.gpio_setPair (s : State) (k : Nat) (x : Pair) : (s.setPair k x).gpio = s.gpio := rfl
@[simp] theorem State.lastNet_setPair (s : State) (k : Nat) (x : Pair) : (s.setPair k x).lastNet = s.lastNet := rfl
@[simp] theorem State.responder_setPair (s : State) (k : Nat) (x : Pair) : (s.setPair k x).responder = s.responder := rfl
@[simp] theorem State.pending_setPair (s : State) (k : Nat) (x : Pair) : (s.setPair k x).pending = s.pending := rfl
@[simp] theorem State.rd_setPair (s : State) (k : Nat) (x : Pair) (b : Nat) : (s.setPair k x).rd b = s.rd b := rfl
@[simp] theorem State.rdN_setPair (s : State) (k : Nat) (x : Pair) (b : Nat) : (s.setPair k x).rdN b = s.rdN b := rfl
@[simp] theorem State.get_setPair (s : State) (k : Nat) (x : Pair) (g : FieldAt) : (s.setPair k x).get g = s.get g := rfl
@[simp] theorem State.bit_setPair (s : State) (k : Nat) (x : Pair) (g : FieldAt) : (s.setPair k x).bit g = s.bit g := rfl
@[simp] theorem State.bitAt_setPair (s : State) (k : Nat) (x : Pair) (b j : Nat) : (s.setPair k x).bitAt b j = s.bitAt b j := rfl
@[simp] theorem State.mode_setPair (s : State) (k : Nat) (x : Pair) : (s.setPair k x).mode = s.mode := rfl
@[simp] theorem State.domOn_setPair (s : State) (k : Nat) (x : Pair) (j : Nat) : (s.setPair k x).domOn j = s.domOn j := rfl
@[simp] theorem State.fresh_setPair (s : State) (k : Nat) (x : Pair) : (s.setPair k x).fresh = s.fresh := rfl
@[simp] theorem State.slot_setPair (s : State) (k : Nat) (x : Pair) (j l : Nat) : (s.setPair k x).slot j l = s.slot j l := rfl
@[simp] theorem State.drone_setPair (s : State) (k : Nat) (x : Pair) (j : Nat) : (s.setPair k x).drone j = s.drone j := rfl
@[simp] theorem State.tracker_setPair (s : State) (k : Nat) (x : Pair) (j : Nat) : (s.setPair k x).tracker j = s.tracker j := rfl
@[simp] theorem State.dom_setPair (s : State) (k : Nat) (x : Pair) (j : Nat) : (s.setPair k x).dom j = s.dom j := rfl
@[simp] theorem State.session_setPair (s : State) (k : Nat) (x : Pair) (j : Nat) : (s.setPair k x).session j = s.session j := rfl
@[simp] theorem State.emnPort_setPair (s : State) (k : Nat) (x : Pair) (j : Nat) : (s.setPair k x).emnPort j = s.emnPort j := rfl
@[simp] theorem State.engine_setPair (s : State) (k : Nat) (x : Pair) (j : Nat) : (s.setPair k x).engine j = s.engine j := rfl
@[simp] theorem State.lane_setPair (s : State) (k : Nat) (x : Pair) (j : Nat) : (s.setPair k x).lane j = s.lane j := rfl
@[simp] theorem State.adc_setPair (s : State) (k : Nat) (x : Pair) (j : Nat) : (s.setPair k x).adc j = s.adc j := rfl
@[simp] theorem State.pwrDom_setPair (s : State) (k : Nat) (x : Pair) (j : Nat) : (s.setPair k x).pwrDom j = s.pwrDom j := rfl
@[simp] theorem State.memWord_setPair (s : State) (k : Nat) (x : Pair) (j : Nat) : (s.setPair k x).memWord j = s.memWord j := rfl

/-! ### State.setEngine -/

@[simp] theorem State.regs_setEngine (s : State) (k : Nat) (x : Engine) : (s.setEngine k x).regs = s.regs := rfl
@[simp] theorem State.now_setEngine (s : State) (k : Nat) (x : Engine) : (s.setEngine k x).now = s.now := rfl
@[simp] theorem State.free_setEngine (s : State) (k : Nat) (x : Engine) : (s.setEngine k x).free = s.free := rfl
@[simp] theorem State.spine_setEngine (s : State) (k : Nat) (x : Engine) : (s.setEngine k x).spine = s.spine := rfl
@[simp] theorem State.mem_setEngine (s : State) (k : Nat) (x : Engine) : (s.setEngine k x).mem = s.mem := rfl
@[simp] theorem State.modeCtl_setEngine (s : State) (k : Nat) (x : Engine) : (s.setEngine k x).modeCtl = s.modeCtl := rfl
@[simp] theorem State.irq_setEngine (s : State) (k : Nat) (x : Engine) : (s.setEngine k x).irq = s.irq := rfl
@[simp] theorem State.drones_setEngine (s : State) (k : Nat) (x : Engine) : (s.setEngine k x).drones = s.drones := rfl
@[simp] theorem State.scrub_setEngine (s : State) (k : Nat) (x : Engine) : (s.setEngine k x).scrub = s.scrub := rfl
@[simp] theorem State.trackers_setEngine (s : State) (k : Nat) (x : Engine) : (s.setEngine k x).trackers = s.trackers := rfl
@[simp] theorem State.doms_setEngine (s : State) (k : Nat) (x : Engine) : (s.setEngine k x).doms = s.doms := rfl
@[simp] theorem State.tick_setEngine (s : State) (k : Nat) (x : Engine) : (s.setEngine k x).tick = s.tick := rfl
@[simp] theorem State.wheel_setEngine (s : State) (k : Nat) (x : Engine) : (s.setEngine k x).wheel = s.wheel := rfl
@[simp] theorem State.sessions_setEngine (s : State) (k : Nat) (x : Engine) : (s.setEngine k x).sessions = s.sessions := rfl
@[simp] theorem State.ivw_setEngine (s : State) (k : Nat) (x : Engine) : (s.setEngine k x).ivw = s.ivw := rfl
@[simp] theorem State.emnPorts_setEngine (s : State) (k : Nat) (x : Engine) : (s.setEngine k x).emnPorts = s.emnPorts := rfl
@[simp] theorem State.emn_setEngine (s : State) (k : Nat) (x : Engine) : (s.setEngine k x).emn = s.emn := rfl
@[simp] theorem State.clk_setEngine (s : State) (k : Nat) (x : Engine) : (s.setEngine k x).clk = s.clk := rfl
@[simp] theorem State.ptp_setEngine (s : State) (k : Nat) (x : Engine) : (s.setEngine k x).ptp = s.ptp := rfl
@[simp] theorem State.net_setEngine (s : State) (k : Nat) (x : Engine) : (s.setEngine k x).net = s.net := rfl
@[simp] theorem State.capWait_setEngine (s : State) (k : Nat) (x : Engine) : (s.setEngine k x).capWait = s.capWait := rfl
@[simp] theorem State.snapAt_setEngine (s : State) (k : Nat) (x : Engine) : (s.setEngine k x).snapAt = s.snapAt := rfl
@[simp] theorem State.syncIn_setEngine (s : State) (k : Nat) (x : Engine) : (s.setEngine k x).syncIn = s.syncIn := rfl
@[simp] theorem State.pairs_setEngine (s : State) (k : Nat) (x : Engine) : (s.setEngine k x).pairs = s.pairs := rfl
@[simp] theorem State.claims_setEngine (s : State) (k : Nat) (x : Engine) : (s.setEngine k x).claims = s.claims := rfl
@[simp] theorem State.notes_setEngine (s : State) (k : Nat) (x : Engine) : (s.setEngine k x).notes = s.notes := rfl
@[simp] theorem State.lanes_setEngine (s : State) (k : Nat) (x : Engine) : (s.setEngine k x).lanes = s.lanes := rfl
@[simp] theorem State.adcs_setEngine (s : State) (k : Nat) (x : Engine) : (s.setEngine k x).adcs = s.adcs := rfl
@[simp] theorem State.monNext_setEngine (s : State) (k : Nat) (x : Engine) : (s.setEngine k x).monNext = s.monNext := rfl
@[simp] theorem State.filters_setEngine (s : State) (k : Nat) (x : Engine) : (s.setEngine k x).filters = s.filters := rfl
@[simp] theorem State.berrAt_setEngine (s : State) (k : Nat) (x : Engine) : (s.setEngine k x).berrAt = s.berrAt := rfl
@[simp] theorem State.fab_setEngine (s : State) (k : Nat) (x : Engine) : (s.setEngine k x).fab = s.fab := rfl
@[simp] theorem State.pwr_setEngine (s : State) (k : Nat) (x : Engine) : (s.setEngine k x).pwr = s.pwr := rfl
@[simp] theorem State.stalls_setEngine (s : State) (k : Nat) (x : Engine) : (s.setEngine k x).stalls = s.stalls := rfl
@[simp] theorem State.supply_setEngine (s : State) (k : Nat) (x : Engine) : (s.setEngine k x).supply = s.supply := rfl
@[simp] theorem State.shadow_setEngine (s : State) (k : Nat) (x : Engine) : (s.setEngine k x).shadow = s.shadow := rfl
@[simp] theorem State.flash_setEngine (s : State) (k : Nat) (x : Engine) : (s.setEngine k x).flash = s.flash := rfl
@[simp] theorem State.cfg_setEngine (s : State) (k : Nat) (x : Engine) : (s.setEngine k x).cfg = s.cfg := rfl
@[simp] theorem State.bist_setEngine (s : State) (k : Nat) (x : Engine) : (s.setEngine k x).bist = s.bist := rfl
@[simp] theorem State.sec_setEngine (s : State) (k : Nat) (x : Engine) : (s.setEngine k x).sec = s.sec := rfl
@[simp] theorem State.gpio_setEngine (s : State) (k : Nat) (x : Engine) : (s.setEngine k x).gpio = s.gpio := rfl
@[simp] theorem State.lastNet_setEngine (s : State) (k : Nat) (x : Engine) : (s.setEngine k x).lastNet = s.lastNet := rfl
@[simp] theorem State.responder_setEngine (s : State) (k : Nat) (x : Engine) : (s.setEngine k x).responder = s.responder := rfl
@[simp] theorem State.pending_setEngine (s : State) (k : Nat) (x : Engine) : (s.setEngine k x).pending = s.pending := rfl
@[simp] theorem State.rd_setEngine (s : State) (k : Nat) (x : Engine) (b : Nat) : (s.setEngine k x).rd b = s.rd b := rfl
@[simp] theorem State.rdN_setEngine (s : State) (k : Nat) (x : Engine) (b : Nat) : (s.setEngine k x).rdN b = s.rdN b := rfl
@[simp] theorem State.get_setEngine (s : State) (k : Nat) (x : Engine) (g : FieldAt) : (s.setEngine k x).get g = s.get g := rfl
@[simp] theorem State.bit_setEngine (s : State) (k : Nat) (x : Engine) (g : FieldAt) : (s.setEngine k x).bit g = s.bit g := rfl
@[simp] theorem State.bitAt_setEngine (s : State) (k : Nat) (x : Engine) (b j : Nat) : (s.setEngine k x).bitAt b j = s.bitAt b j := rfl
@[simp] theorem State.mode_setEngine (s : State) (k : Nat) (x : Engine) : (s.setEngine k x).mode = s.mode := rfl
@[simp] theorem State.domOn_setEngine (s : State) (k : Nat) (x : Engine) (j : Nat) : (s.setEngine k x).domOn j = s.domOn j := rfl
@[simp] theorem State.fresh_setEngine (s : State) (k : Nat) (x : Engine) : (s.setEngine k x).fresh = s.fresh := rfl
@[simp] theorem State.slot_setEngine (s : State) (k : Nat) (x : Engine) (j l : Nat) : (s.setEngine k x).slot j l = s.slot j l := rfl
@[simp] theorem State.drone_setEngine (s : State) (k : Nat) (x : Engine) (j : Nat) : (s.setEngine k x).drone j = s.drone j := rfl
@[simp] theorem State.tracker_setEngine (s : State) (k : Nat) (x : Engine) (j : Nat) : (s.setEngine k x).tracker j = s.tracker j := rfl
@[simp] theorem State.dom_setEngine (s : State) (k : Nat) (x : Engine) (j : Nat) : (s.setEngine k x).dom j = s.dom j := rfl
@[simp] theorem State.session_setEngine (s : State) (k : Nat) (x : Engine) (j : Nat) : (s.setEngine k x).session j = s.session j := rfl
@[simp] theorem State.emnPort_setEngine (s : State) (k : Nat) (x : Engine) (j : Nat) : (s.setEngine k x).emnPort j = s.emnPort j := rfl
@[simp] theorem State.pair_setEngine (s : State) (k : Nat) (x : Engine) (j : Nat) : (s.setEngine k x).pair j = s.pair j := rfl
@[simp] theorem State.lane_setEngine (s : State) (k : Nat) (x : Engine) (j : Nat) : (s.setEngine k x).lane j = s.lane j := rfl
@[simp] theorem State.adc_setEngine (s : State) (k : Nat) (x : Engine) (j : Nat) : (s.setEngine k x).adc j = s.adc j := rfl
@[simp] theorem State.pwrDom_setEngine (s : State) (k : Nat) (x : Engine) (j : Nat) : (s.setEngine k x).pwrDom j = s.pwrDom j := rfl
@[simp] theorem State.memWord_setEngine (s : State) (k : Nat) (x : Engine) (j : Nat) : (s.setEngine k x).memWord j = s.memWord j := rfl

/-! ### State.setLane -/

@[simp] theorem State.regs_setLane (s : State) (k : Nat) (x : Lane) : (s.setLane k x).regs = s.regs := rfl
@[simp] theorem State.now_setLane (s : State) (k : Nat) (x : Lane) : (s.setLane k x).now = s.now := rfl
@[simp] theorem State.free_setLane (s : State) (k : Nat) (x : Lane) : (s.setLane k x).free = s.free := rfl
@[simp] theorem State.spine_setLane (s : State) (k : Nat) (x : Lane) : (s.setLane k x).spine = s.spine := rfl
@[simp] theorem State.mem_setLane (s : State) (k : Nat) (x : Lane) : (s.setLane k x).mem = s.mem := rfl
@[simp] theorem State.modeCtl_setLane (s : State) (k : Nat) (x : Lane) : (s.setLane k x).modeCtl = s.modeCtl := rfl
@[simp] theorem State.irq_setLane (s : State) (k : Nat) (x : Lane) : (s.setLane k x).irq = s.irq := rfl
@[simp] theorem State.drones_setLane (s : State) (k : Nat) (x : Lane) : (s.setLane k x).drones = s.drones := rfl
@[simp] theorem State.scrub_setLane (s : State) (k : Nat) (x : Lane) : (s.setLane k x).scrub = s.scrub := rfl
@[simp] theorem State.trackers_setLane (s : State) (k : Nat) (x : Lane) : (s.setLane k x).trackers = s.trackers := rfl
@[simp] theorem State.doms_setLane (s : State) (k : Nat) (x : Lane) : (s.setLane k x).doms = s.doms := rfl
@[simp] theorem State.tick_setLane (s : State) (k : Nat) (x : Lane) : (s.setLane k x).tick = s.tick := rfl
@[simp] theorem State.wheel_setLane (s : State) (k : Nat) (x : Lane) : (s.setLane k x).wheel = s.wheel := rfl
@[simp] theorem State.sessions_setLane (s : State) (k : Nat) (x : Lane) : (s.setLane k x).sessions = s.sessions := rfl
@[simp] theorem State.ivw_setLane (s : State) (k : Nat) (x : Lane) : (s.setLane k x).ivw = s.ivw := rfl
@[simp] theorem State.emnPorts_setLane (s : State) (k : Nat) (x : Lane) : (s.setLane k x).emnPorts = s.emnPorts := rfl
@[simp] theorem State.emn_setLane (s : State) (k : Nat) (x : Lane) : (s.setLane k x).emn = s.emn := rfl
@[simp] theorem State.clk_setLane (s : State) (k : Nat) (x : Lane) : (s.setLane k x).clk = s.clk := rfl
@[simp] theorem State.ptp_setLane (s : State) (k : Nat) (x : Lane) : (s.setLane k x).ptp = s.ptp := rfl
@[simp] theorem State.net_setLane (s : State) (k : Nat) (x : Lane) : (s.setLane k x).net = s.net := rfl
@[simp] theorem State.capWait_setLane (s : State) (k : Nat) (x : Lane) : (s.setLane k x).capWait = s.capWait := rfl
@[simp] theorem State.snapAt_setLane (s : State) (k : Nat) (x : Lane) : (s.setLane k x).snapAt = s.snapAt := rfl
@[simp] theorem State.syncIn_setLane (s : State) (k : Nat) (x : Lane) : (s.setLane k x).syncIn = s.syncIn := rfl
@[simp] theorem State.pairs_setLane (s : State) (k : Nat) (x : Lane) : (s.setLane k x).pairs = s.pairs := rfl
@[simp] theorem State.claims_setLane (s : State) (k : Nat) (x : Lane) : (s.setLane k x).claims = s.claims := rfl
@[simp] theorem State.notes_setLane (s : State) (k : Nat) (x : Lane) : (s.setLane k x).notes = s.notes := rfl
@[simp] theorem State.engines_setLane (s : State) (k : Nat) (x : Lane) : (s.setLane k x).engines = s.engines := rfl
@[simp] theorem State.adcs_setLane (s : State) (k : Nat) (x : Lane) : (s.setLane k x).adcs = s.adcs := rfl
@[simp] theorem State.monNext_setLane (s : State) (k : Nat) (x : Lane) : (s.setLane k x).monNext = s.monNext := rfl
@[simp] theorem State.filters_setLane (s : State) (k : Nat) (x : Lane) : (s.setLane k x).filters = s.filters := rfl
@[simp] theorem State.berrAt_setLane (s : State) (k : Nat) (x : Lane) : (s.setLane k x).berrAt = s.berrAt := rfl
@[simp] theorem State.fab_setLane (s : State) (k : Nat) (x : Lane) : (s.setLane k x).fab = s.fab := rfl
@[simp] theorem State.pwr_setLane (s : State) (k : Nat) (x : Lane) : (s.setLane k x).pwr = s.pwr := rfl
@[simp] theorem State.stalls_setLane (s : State) (k : Nat) (x : Lane) : (s.setLane k x).stalls = s.stalls := rfl
@[simp] theorem State.supply_setLane (s : State) (k : Nat) (x : Lane) : (s.setLane k x).supply = s.supply := rfl
@[simp] theorem State.shadow_setLane (s : State) (k : Nat) (x : Lane) : (s.setLane k x).shadow = s.shadow := rfl
@[simp] theorem State.flash_setLane (s : State) (k : Nat) (x : Lane) : (s.setLane k x).flash = s.flash := rfl
@[simp] theorem State.cfg_setLane (s : State) (k : Nat) (x : Lane) : (s.setLane k x).cfg = s.cfg := rfl
@[simp] theorem State.bist_setLane (s : State) (k : Nat) (x : Lane) : (s.setLane k x).bist = s.bist := rfl
@[simp] theorem State.sec_setLane (s : State) (k : Nat) (x : Lane) : (s.setLane k x).sec = s.sec := rfl
@[simp] theorem State.gpio_setLane (s : State) (k : Nat) (x : Lane) : (s.setLane k x).gpio = s.gpio := rfl
@[simp] theorem State.lastNet_setLane (s : State) (k : Nat) (x : Lane) : (s.setLane k x).lastNet = s.lastNet := rfl
@[simp] theorem State.responder_setLane (s : State) (k : Nat) (x : Lane) : (s.setLane k x).responder = s.responder := rfl
@[simp] theorem State.pending_setLane (s : State) (k : Nat) (x : Lane) : (s.setLane k x).pending = s.pending := rfl
@[simp] theorem State.rd_setLane (s : State) (k : Nat) (x : Lane) (b : Nat) : (s.setLane k x).rd b = s.rd b := rfl
@[simp] theorem State.rdN_setLane (s : State) (k : Nat) (x : Lane) (b : Nat) : (s.setLane k x).rdN b = s.rdN b := rfl
@[simp] theorem State.get_setLane (s : State) (k : Nat) (x : Lane) (g : FieldAt) : (s.setLane k x).get g = s.get g := rfl
@[simp] theorem State.bit_setLane (s : State) (k : Nat) (x : Lane) (g : FieldAt) : (s.setLane k x).bit g = s.bit g := rfl
@[simp] theorem State.bitAt_setLane (s : State) (k : Nat) (x : Lane) (b j : Nat) : (s.setLane k x).bitAt b j = s.bitAt b j := rfl
@[simp] theorem State.mode_setLane (s : State) (k : Nat) (x : Lane) : (s.setLane k x).mode = s.mode := rfl
@[simp] theorem State.domOn_setLane (s : State) (k : Nat) (x : Lane) (j : Nat) : (s.setLane k x).domOn j = s.domOn j := rfl
@[simp] theorem State.fresh_setLane (s : State) (k : Nat) (x : Lane) : (s.setLane k x).fresh = s.fresh := rfl
@[simp] theorem State.slot_setLane (s : State) (k : Nat) (x : Lane) (j l : Nat) : (s.setLane k x).slot j l = s.slot j l := rfl
@[simp] theorem State.drone_setLane (s : State) (k : Nat) (x : Lane) (j : Nat) : (s.setLane k x).drone j = s.drone j := rfl
@[simp] theorem State.tracker_setLane (s : State) (k : Nat) (x : Lane) (j : Nat) : (s.setLane k x).tracker j = s.tracker j := rfl
@[simp] theorem State.dom_setLane (s : State) (k : Nat) (x : Lane) (j : Nat) : (s.setLane k x).dom j = s.dom j := rfl
@[simp] theorem State.session_setLane (s : State) (k : Nat) (x : Lane) (j : Nat) : (s.setLane k x).session j = s.session j := rfl
@[simp] theorem State.emnPort_setLane (s : State) (k : Nat) (x : Lane) (j : Nat) : (s.setLane k x).emnPort j = s.emnPort j := rfl
@[simp] theorem State.pair_setLane (s : State) (k : Nat) (x : Lane) (j : Nat) : (s.setLane k x).pair j = s.pair j := rfl
@[simp] theorem State.engine_setLane (s : State) (k : Nat) (x : Lane) (j : Nat) : (s.setLane k x).engine j = s.engine j := rfl
@[simp] theorem State.adc_setLane (s : State) (k : Nat) (x : Lane) (j : Nat) : (s.setLane k x).adc j = s.adc j := rfl
@[simp] theorem State.pwrDom_setLane (s : State) (k : Nat) (x : Lane) (j : Nat) : (s.setLane k x).pwrDom j = s.pwrDom j := rfl
@[simp] theorem State.memWord_setLane (s : State) (k : Nat) (x : Lane) (j : Nat) : (s.setLane k x).memWord j = s.memWord j := rfl

/-! ### State.setAdc -/

@[simp] theorem State.regs_setAdc (s : State) (k : Nat) (x : Adc) : (s.setAdc k x).regs = s.regs := rfl
@[simp] theorem State.now_setAdc (s : State) (k : Nat) (x : Adc) : (s.setAdc k x).now = s.now := rfl
@[simp] theorem State.free_setAdc (s : State) (k : Nat) (x : Adc) : (s.setAdc k x).free = s.free := rfl
@[simp] theorem State.spine_setAdc (s : State) (k : Nat) (x : Adc) : (s.setAdc k x).spine = s.spine := rfl
@[simp] theorem State.mem_setAdc (s : State) (k : Nat) (x : Adc) : (s.setAdc k x).mem = s.mem := rfl
@[simp] theorem State.modeCtl_setAdc (s : State) (k : Nat) (x : Adc) : (s.setAdc k x).modeCtl = s.modeCtl := rfl
@[simp] theorem State.irq_setAdc (s : State) (k : Nat) (x : Adc) : (s.setAdc k x).irq = s.irq := rfl
@[simp] theorem State.drones_setAdc (s : State) (k : Nat) (x : Adc) : (s.setAdc k x).drones = s.drones := rfl
@[simp] theorem State.scrub_setAdc (s : State) (k : Nat) (x : Adc) : (s.setAdc k x).scrub = s.scrub := rfl
@[simp] theorem State.trackers_setAdc (s : State) (k : Nat) (x : Adc) : (s.setAdc k x).trackers = s.trackers := rfl
@[simp] theorem State.doms_setAdc (s : State) (k : Nat) (x : Adc) : (s.setAdc k x).doms = s.doms := rfl
@[simp] theorem State.tick_setAdc (s : State) (k : Nat) (x : Adc) : (s.setAdc k x).tick = s.tick := rfl
@[simp] theorem State.wheel_setAdc (s : State) (k : Nat) (x : Adc) : (s.setAdc k x).wheel = s.wheel := rfl
@[simp] theorem State.sessions_setAdc (s : State) (k : Nat) (x : Adc) : (s.setAdc k x).sessions = s.sessions := rfl
@[simp] theorem State.ivw_setAdc (s : State) (k : Nat) (x : Adc) : (s.setAdc k x).ivw = s.ivw := rfl
@[simp] theorem State.emnPorts_setAdc (s : State) (k : Nat) (x : Adc) : (s.setAdc k x).emnPorts = s.emnPorts := rfl
@[simp] theorem State.emn_setAdc (s : State) (k : Nat) (x : Adc) : (s.setAdc k x).emn = s.emn := rfl
@[simp] theorem State.clk_setAdc (s : State) (k : Nat) (x : Adc) : (s.setAdc k x).clk = s.clk := rfl
@[simp] theorem State.ptp_setAdc (s : State) (k : Nat) (x : Adc) : (s.setAdc k x).ptp = s.ptp := rfl
@[simp] theorem State.net_setAdc (s : State) (k : Nat) (x : Adc) : (s.setAdc k x).net = s.net := rfl
@[simp] theorem State.capWait_setAdc (s : State) (k : Nat) (x : Adc) : (s.setAdc k x).capWait = s.capWait := rfl
@[simp] theorem State.snapAt_setAdc (s : State) (k : Nat) (x : Adc) : (s.setAdc k x).snapAt = s.snapAt := rfl
@[simp] theorem State.syncIn_setAdc (s : State) (k : Nat) (x : Adc) : (s.setAdc k x).syncIn = s.syncIn := rfl
@[simp] theorem State.pairs_setAdc (s : State) (k : Nat) (x : Adc) : (s.setAdc k x).pairs = s.pairs := rfl
@[simp] theorem State.claims_setAdc (s : State) (k : Nat) (x : Adc) : (s.setAdc k x).claims = s.claims := rfl
@[simp] theorem State.notes_setAdc (s : State) (k : Nat) (x : Adc) : (s.setAdc k x).notes = s.notes := rfl
@[simp] theorem State.engines_setAdc (s : State) (k : Nat) (x : Adc) : (s.setAdc k x).engines = s.engines := rfl
@[simp] theorem State.lanes_setAdc (s : State) (k : Nat) (x : Adc) : (s.setAdc k x).lanes = s.lanes := rfl
@[simp] theorem State.monNext_setAdc (s : State) (k : Nat) (x : Adc) : (s.setAdc k x).monNext = s.monNext := rfl
@[simp] theorem State.filters_setAdc (s : State) (k : Nat) (x : Adc) : (s.setAdc k x).filters = s.filters := rfl
@[simp] theorem State.berrAt_setAdc (s : State) (k : Nat) (x : Adc) : (s.setAdc k x).berrAt = s.berrAt := rfl
@[simp] theorem State.fab_setAdc (s : State) (k : Nat) (x : Adc) : (s.setAdc k x).fab = s.fab := rfl
@[simp] theorem State.pwr_setAdc (s : State) (k : Nat) (x : Adc) : (s.setAdc k x).pwr = s.pwr := rfl
@[simp] theorem State.stalls_setAdc (s : State) (k : Nat) (x : Adc) : (s.setAdc k x).stalls = s.stalls := rfl
@[simp] theorem State.supply_setAdc (s : State) (k : Nat) (x : Adc) : (s.setAdc k x).supply = s.supply := rfl
@[simp] theorem State.shadow_setAdc (s : State) (k : Nat) (x : Adc) : (s.setAdc k x).shadow = s.shadow := rfl
@[simp] theorem State.flash_setAdc (s : State) (k : Nat) (x : Adc) : (s.setAdc k x).flash = s.flash := rfl
@[simp] theorem State.cfg_setAdc (s : State) (k : Nat) (x : Adc) : (s.setAdc k x).cfg = s.cfg := rfl
@[simp] theorem State.bist_setAdc (s : State) (k : Nat) (x : Adc) : (s.setAdc k x).bist = s.bist := rfl
@[simp] theorem State.sec_setAdc (s : State) (k : Nat) (x : Adc) : (s.setAdc k x).sec = s.sec := rfl
@[simp] theorem State.gpio_setAdc (s : State) (k : Nat) (x : Adc) : (s.setAdc k x).gpio = s.gpio := rfl
@[simp] theorem State.lastNet_setAdc (s : State) (k : Nat) (x : Adc) : (s.setAdc k x).lastNet = s.lastNet := rfl
@[simp] theorem State.responder_setAdc (s : State) (k : Nat) (x : Adc) : (s.setAdc k x).responder = s.responder := rfl
@[simp] theorem State.pending_setAdc (s : State) (k : Nat) (x : Adc) : (s.setAdc k x).pending = s.pending := rfl
@[simp] theorem State.rd_setAdc (s : State) (k : Nat) (x : Adc) (b : Nat) : (s.setAdc k x).rd b = s.rd b := rfl
@[simp] theorem State.rdN_setAdc (s : State) (k : Nat) (x : Adc) (b : Nat) : (s.setAdc k x).rdN b = s.rdN b := rfl
@[simp] theorem State.get_setAdc (s : State) (k : Nat) (x : Adc) (g : FieldAt) : (s.setAdc k x).get g = s.get g := rfl
@[simp] theorem State.bit_setAdc (s : State) (k : Nat) (x : Adc) (g : FieldAt) : (s.setAdc k x).bit g = s.bit g := rfl
@[simp] theorem State.bitAt_setAdc (s : State) (k : Nat) (x : Adc) (b j : Nat) : (s.setAdc k x).bitAt b j = s.bitAt b j := rfl
@[simp] theorem State.mode_setAdc (s : State) (k : Nat) (x : Adc) : (s.setAdc k x).mode = s.mode := rfl
@[simp] theorem State.domOn_setAdc (s : State) (k : Nat) (x : Adc) (j : Nat) : (s.setAdc k x).domOn j = s.domOn j := rfl
@[simp] theorem State.fresh_setAdc (s : State) (k : Nat) (x : Adc) : (s.setAdc k x).fresh = s.fresh := rfl
@[simp] theorem State.slot_setAdc (s : State) (k : Nat) (x : Adc) (j l : Nat) : (s.setAdc k x).slot j l = s.slot j l := rfl
@[simp] theorem State.drone_setAdc (s : State) (k : Nat) (x : Adc) (j : Nat) : (s.setAdc k x).drone j = s.drone j := rfl
@[simp] theorem State.tracker_setAdc (s : State) (k : Nat) (x : Adc) (j : Nat) : (s.setAdc k x).tracker j = s.tracker j := rfl
@[simp] theorem State.dom_setAdc (s : State) (k : Nat) (x : Adc) (j : Nat) : (s.setAdc k x).dom j = s.dom j := rfl
@[simp] theorem State.session_setAdc (s : State) (k : Nat) (x : Adc) (j : Nat) : (s.setAdc k x).session j = s.session j := rfl
@[simp] theorem State.emnPort_setAdc (s : State) (k : Nat) (x : Adc) (j : Nat) : (s.setAdc k x).emnPort j = s.emnPort j := rfl
@[simp] theorem State.pair_setAdc (s : State) (k : Nat) (x : Adc) (j : Nat) : (s.setAdc k x).pair j = s.pair j := rfl
@[simp] theorem State.engine_setAdc (s : State) (k : Nat) (x : Adc) (j : Nat) : (s.setAdc k x).engine j = s.engine j := rfl
@[simp] theorem State.lane_setAdc (s : State) (k : Nat) (x : Adc) (j : Nat) : (s.setAdc k x).lane j = s.lane j := rfl
@[simp] theorem State.pwrDom_setAdc (s : State) (k : Nat) (x : Adc) (j : Nat) : (s.setAdc k x).pwrDom j = s.pwrDom j := rfl
@[simp] theorem State.memWord_setAdc (s : State) (k : Nat) (x : Adc) (j : Nat) : (s.setAdc k x).memWord j = s.memWord j := rfl

/-! ### State.setPwrDom -/

@[simp] theorem State.regs_setPwrDom (s : State) (k : Nat) (x : PwrDom) : (s.setPwrDom k x).regs = s.regs := rfl
@[simp] theorem State.now_setPwrDom (s : State) (k : Nat) (x : PwrDom) : (s.setPwrDom k x).now = s.now := rfl
@[simp] theorem State.free_setPwrDom (s : State) (k : Nat) (x : PwrDom) : (s.setPwrDom k x).free = s.free := rfl
@[simp] theorem State.spine_setPwrDom (s : State) (k : Nat) (x : PwrDom) : (s.setPwrDom k x).spine = s.spine := rfl
@[simp] theorem State.mem_setPwrDom (s : State) (k : Nat) (x : PwrDom) : (s.setPwrDom k x).mem = s.mem := rfl
@[simp] theorem State.modeCtl_setPwrDom (s : State) (k : Nat) (x : PwrDom) : (s.setPwrDom k x).modeCtl = s.modeCtl := rfl
@[simp] theorem State.irq_setPwrDom (s : State) (k : Nat) (x : PwrDom) : (s.setPwrDom k x).irq = s.irq := rfl
@[simp] theorem State.drones_setPwrDom (s : State) (k : Nat) (x : PwrDom) : (s.setPwrDom k x).drones = s.drones := rfl
@[simp] theorem State.scrub_setPwrDom (s : State) (k : Nat) (x : PwrDom) : (s.setPwrDom k x).scrub = s.scrub := rfl
@[simp] theorem State.trackers_setPwrDom (s : State) (k : Nat) (x : PwrDom) : (s.setPwrDom k x).trackers = s.trackers := rfl
@[simp] theorem State.doms_setPwrDom (s : State) (k : Nat) (x : PwrDom) : (s.setPwrDom k x).doms = s.doms := rfl
@[simp] theorem State.tick_setPwrDom (s : State) (k : Nat) (x : PwrDom) : (s.setPwrDom k x).tick = s.tick := rfl
@[simp] theorem State.wheel_setPwrDom (s : State) (k : Nat) (x : PwrDom) : (s.setPwrDom k x).wheel = s.wheel := rfl
@[simp] theorem State.sessions_setPwrDom (s : State) (k : Nat) (x : PwrDom) : (s.setPwrDom k x).sessions = s.sessions := rfl
@[simp] theorem State.ivw_setPwrDom (s : State) (k : Nat) (x : PwrDom) : (s.setPwrDom k x).ivw = s.ivw := rfl
@[simp] theorem State.emnPorts_setPwrDom (s : State) (k : Nat) (x : PwrDom) : (s.setPwrDom k x).emnPorts = s.emnPorts := rfl
@[simp] theorem State.emn_setPwrDom (s : State) (k : Nat) (x : PwrDom) : (s.setPwrDom k x).emn = s.emn := rfl
@[simp] theorem State.clk_setPwrDom (s : State) (k : Nat) (x : PwrDom) : (s.setPwrDom k x).clk = s.clk := rfl
@[simp] theorem State.ptp_setPwrDom (s : State) (k : Nat) (x : PwrDom) : (s.setPwrDom k x).ptp = s.ptp := rfl
@[simp] theorem State.net_setPwrDom (s : State) (k : Nat) (x : PwrDom) : (s.setPwrDom k x).net = s.net := rfl
@[simp] theorem State.capWait_setPwrDom (s : State) (k : Nat) (x : PwrDom) : (s.setPwrDom k x).capWait = s.capWait := rfl
@[simp] theorem State.snapAt_setPwrDom (s : State) (k : Nat) (x : PwrDom) : (s.setPwrDom k x).snapAt = s.snapAt := rfl
@[simp] theorem State.syncIn_setPwrDom (s : State) (k : Nat) (x : PwrDom) : (s.setPwrDom k x).syncIn = s.syncIn := rfl
@[simp] theorem State.pairs_setPwrDom (s : State) (k : Nat) (x : PwrDom) : (s.setPwrDom k x).pairs = s.pairs := rfl
@[simp] theorem State.claims_setPwrDom (s : State) (k : Nat) (x : PwrDom) : (s.setPwrDom k x).claims = s.claims := rfl
@[simp] theorem State.notes_setPwrDom (s : State) (k : Nat) (x : PwrDom) : (s.setPwrDom k x).notes = s.notes := rfl
@[simp] theorem State.engines_setPwrDom (s : State) (k : Nat) (x : PwrDom) : (s.setPwrDom k x).engines = s.engines := rfl
@[simp] theorem State.lanes_setPwrDom (s : State) (k : Nat) (x : PwrDom) : (s.setPwrDom k x).lanes = s.lanes := rfl
@[simp] theorem State.adcs_setPwrDom (s : State) (k : Nat) (x : PwrDom) : (s.setPwrDom k x).adcs = s.adcs := rfl
@[simp] theorem State.monNext_setPwrDom (s : State) (k : Nat) (x : PwrDom) : (s.setPwrDom k x).monNext = s.monNext := rfl
@[simp] theorem State.filters_setPwrDom (s : State) (k : Nat) (x : PwrDom) : (s.setPwrDom k x).filters = s.filters := rfl
@[simp] theorem State.berrAt_setPwrDom (s : State) (k : Nat) (x : PwrDom) : (s.setPwrDom k x).berrAt = s.berrAt := rfl
@[simp] theorem State.fab_setPwrDom (s : State) (k : Nat) (x : PwrDom) : (s.setPwrDom k x).fab = s.fab := rfl
@[simp] theorem State.stalls_setPwrDom (s : State) (k : Nat) (x : PwrDom) : (s.setPwrDom k x).stalls = s.stalls := rfl
@[simp] theorem State.supply_setPwrDom (s : State) (k : Nat) (x : PwrDom) : (s.setPwrDom k x).supply = s.supply := rfl
@[simp] theorem State.shadow_setPwrDom (s : State) (k : Nat) (x : PwrDom) : (s.setPwrDom k x).shadow = s.shadow := rfl
@[simp] theorem State.flash_setPwrDom (s : State) (k : Nat) (x : PwrDom) : (s.setPwrDom k x).flash = s.flash := rfl
@[simp] theorem State.cfg_setPwrDom (s : State) (k : Nat) (x : PwrDom) : (s.setPwrDom k x).cfg = s.cfg := rfl
@[simp] theorem State.bist_setPwrDom (s : State) (k : Nat) (x : PwrDom) : (s.setPwrDom k x).bist = s.bist := rfl
@[simp] theorem State.sec_setPwrDom (s : State) (k : Nat) (x : PwrDom) : (s.setPwrDom k x).sec = s.sec := rfl
@[simp] theorem State.gpio_setPwrDom (s : State) (k : Nat) (x : PwrDom) : (s.setPwrDom k x).gpio = s.gpio := rfl
@[simp] theorem State.lastNet_setPwrDom (s : State) (k : Nat) (x : PwrDom) : (s.setPwrDom k x).lastNet = s.lastNet := rfl
@[simp] theorem State.responder_setPwrDom (s : State) (k : Nat) (x : PwrDom) : (s.setPwrDom k x).responder = s.responder := rfl
@[simp] theorem State.pending_setPwrDom (s : State) (k : Nat) (x : PwrDom) : (s.setPwrDom k x).pending = s.pending := rfl
@[simp] theorem State.rd_setPwrDom (s : State) (k : Nat) (x : PwrDom) (b : Nat) : (s.setPwrDom k x).rd b = s.rd b := rfl
@[simp] theorem State.rdN_setPwrDom (s : State) (k : Nat) (x : PwrDom) (b : Nat) : (s.setPwrDom k x).rdN b = s.rdN b := rfl
@[simp] theorem State.get_setPwrDom (s : State) (k : Nat) (x : PwrDom) (g : FieldAt) : (s.setPwrDom k x).get g = s.get g := rfl
@[simp] theorem State.bit_setPwrDom (s : State) (k : Nat) (x : PwrDom) (g : FieldAt) : (s.setPwrDom k x).bit g = s.bit g := rfl
@[simp] theorem State.bitAt_setPwrDom (s : State) (k : Nat) (x : PwrDom) (b j : Nat) : (s.setPwrDom k x).bitAt b j = s.bitAt b j := rfl
@[simp] theorem State.mode_setPwrDom (s : State) (k : Nat) (x : PwrDom) : (s.setPwrDom k x).mode = s.mode := rfl
@[simp] theorem State.domOn_setPwrDom (s : State) (k : Nat) (x : PwrDom) (j : Nat) : (s.setPwrDom k x).domOn j = s.domOn j := rfl
@[simp] theorem State.fresh_setPwrDom (s : State) (k : Nat) (x : PwrDom) : (s.setPwrDom k x).fresh = s.fresh := rfl
@[simp] theorem State.slot_setPwrDom (s : State) (k : Nat) (x : PwrDom) (j l : Nat) : (s.setPwrDom k x).slot j l = s.slot j l := rfl
@[simp] theorem State.drone_setPwrDom (s : State) (k : Nat) (x : PwrDom) (j : Nat) : (s.setPwrDom k x).drone j = s.drone j := rfl
@[simp] theorem State.tracker_setPwrDom (s : State) (k : Nat) (x : PwrDom) (j : Nat) : (s.setPwrDom k x).tracker j = s.tracker j := rfl
@[simp] theorem State.dom_setPwrDom (s : State) (k : Nat) (x : PwrDom) (j : Nat) : (s.setPwrDom k x).dom j = s.dom j := rfl
@[simp] theorem State.session_setPwrDom (s : State) (k : Nat) (x : PwrDom) (j : Nat) : (s.setPwrDom k x).session j = s.session j := rfl
@[simp] theorem State.emnPort_setPwrDom (s : State) (k : Nat) (x : PwrDom) (j : Nat) : (s.setPwrDom k x).emnPort j = s.emnPort j := rfl
@[simp] theorem State.pair_setPwrDom (s : State) (k : Nat) (x : PwrDom) (j : Nat) : (s.setPwrDom k x).pair j = s.pair j := rfl
@[simp] theorem State.engine_setPwrDom (s : State) (k : Nat) (x : PwrDom) (j : Nat) : (s.setPwrDom k x).engine j = s.engine j := rfl
@[simp] theorem State.lane_setPwrDom (s : State) (k : Nat) (x : PwrDom) (j : Nat) : (s.setPwrDom k x).lane j = s.lane j := rfl
@[simp] theorem State.adc_setPwrDom (s : State) (k : Nat) (x : PwrDom) (j : Nat) : (s.setPwrDom k x).adc j = s.adc j := rfl
@[simp] theorem State.memWord_setPwrDom (s : State) (k : Nat) (x : PwrDom) (j : Nat) : (s.setPwrDom k x).memWord j = s.memWord j := rfl

/-! ### State.setMemWord -/

@[simp] theorem State.regs_setMemWord (s : State) (a : Nat) (w : BitVec 80) : (s.setMemWord a w).regs = s.regs := rfl
@[simp] theorem State.now_setMemWord (s : State) (a : Nat) (w : BitVec 80) : (s.setMemWord a w).now = s.now := rfl
@[simp] theorem State.free_setMemWord (s : State) (a : Nat) (w : BitVec 80) : (s.setMemWord a w).free = s.free := rfl
@[simp] theorem State.spine_setMemWord (s : State) (a : Nat) (w : BitVec 80) : (s.setMemWord a w).spine = s.spine := rfl
@[simp] theorem State.modeCtl_setMemWord (s : State) (a : Nat) (w : BitVec 80) : (s.setMemWord a w).modeCtl = s.modeCtl := rfl
@[simp] theorem State.irq_setMemWord (s : State) (a : Nat) (w : BitVec 80) : (s.setMemWord a w).irq = s.irq := rfl
@[simp] theorem State.drones_setMemWord (s : State) (a : Nat) (w : BitVec 80) : (s.setMemWord a w).drones = s.drones := rfl
@[simp] theorem State.scrub_setMemWord (s : State) (a : Nat) (w : BitVec 80) : (s.setMemWord a w).scrub = s.scrub := rfl
@[simp] theorem State.trackers_setMemWord (s : State) (a : Nat) (w : BitVec 80) : (s.setMemWord a w).trackers = s.trackers := rfl
@[simp] theorem State.doms_setMemWord (s : State) (a : Nat) (w : BitVec 80) : (s.setMemWord a w).doms = s.doms := rfl
@[simp] theorem State.tick_setMemWord (s : State) (a : Nat) (w : BitVec 80) : (s.setMemWord a w).tick = s.tick := rfl
@[simp] theorem State.wheel_setMemWord (s : State) (a : Nat) (w : BitVec 80) : (s.setMemWord a w).wheel = s.wheel := rfl
@[simp] theorem State.sessions_setMemWord (s : State) (a : Nat) (w : BitVec 80) : (s.setMemWord a w).sessions = s.sessions := rfl
@[simp] theorem State.ivw_setMemWord (s : State) (a : Nat) (w : BitVec 80) : (s.setMemWord a w).ivw = s.ivw := rfl
@[simp] theorem State.emnPorts_setMemWord (s : State) (a : Nat) (w : BitVec 80) : (s.setMemWord a w).emnPorts = s.emnPorts := rfl
@[simp] theorem State.emn_setMemWord (s : State) (a : Nat) (w : BitVec 80) : (s.setMemWord a w).emn = s.emn := rfl
@[simp] theorem State.clk_setMemWord (s : State) (a : Nat) (w : BitVec 80) : (s.setMemWord a w).clk = s.clk := rfl
@[simp] theorem State.ptp_setMemWord (s : State) (a : Nat) (w : BitVec 80) : (s.setMemWord a w).ptp = s.ptp := rfl
@[simp] theorem State.net_setMemWord (s : State) (a : Nat) (w : BitVec 80) : (s.setMemWord a w).net = s.net := rfl
@[simp] theorem State.capWait_setMemWord (s : State) (a : Nat) (w : BitVec 80) : (s.setMemWord a w).capWait = s.capWait := rfl
@[simp] theorem State.snapAt_setMemWord (s : State) (a : Nat) (w : BitVec 80) : (s.setMemWord a w).snapAt = s.snapAt := rfl
@[simp] theorem State.syncIn_setMemWord (s : State) (a : Nat) (w : BitVec 80) : (s.setMemWord a w).syncIn = s.syncIn := rfl
@[simp] theorem State.pairs_setMemWord (s : State) (a : Nat) (w : BitVec 80) : (s.setMemWord a w).pairs = s.pairs := rfl
@[simp] theorem State.claims_setMemWord (s : State) (a : Nat) (w : BitVec 80) : (s.setMemWord a w).claims = s.claims := rfl
@[simp] theorem State.notes_setMemWord (s : State) (a : Nat) (w : BitVec 80) : (s.setMemWord a w).notes = s.notes := rfl
@[simp] theorem State.engines_setMemWord (s : State) (a : Nat) (w : BitVec 80) : (s.setMemWord a w).engines = s.engines := rfl
@[simp] theorem State.lanes_setMemWord (s : State) (a : Nat) (w : BitVec 80) : (s.setMemWord a w).lanes = s.lanes := rfl
@[simp] theorem State.adcs_setMemWord (s : State) (a : Nat) (w : BitVec 80) : (s.setMemWord a w).adcs = s.adcs := rfl
@[simp] theorem State.monNext_setMemWord (s : State) (a : Nat) (w : BitVec 80) : (s.setMemWord a w).monNext = s.monNext := rfl
@[simp] theorem State.filters_setMemWord (s : State) (a : Nat) (w : BitVec 80) : (s.setMemWord a w).filters = s.filters := rfl
@[simp] theorem State.berrAt_setMemWord (s : State) (a : Nat) (w : BitVec 80) : (s.setMemWord a w).berrAt = s.berrAt := rfl
@[simp] theorem State.fab_setMemWord (s : State) (a : Nat) (w : BitVec 80) : (s.setMemWord a w).fab = s.fab := rfl
@[simp] theorem State.pwr_setMemWord (s : State) (a : Nat) (w : BitVec 80) : (s.setMemWord a w).pwr = s.pwr := rfl
@[simp] theorem State.stalls_setMemWord (s : State) (a : Nat) (w : BitVec 80) : (s.setMemWord a w).stalls = s.stalls := rfl
@[simp] theorem State.supply_setMemWord (s : State) (a : Nat) (w : BitVec 80) : (s.setMemWord a w).supply = s.supply := rfl
@[simp] theorem State.shadow_setMemWord (s : State) (a : Nat) (w : BitVec 80) : (s.setMemWord a w).shadow = s.shadow := rfl
@[simp] theorem State.flash_setMemWord (s : State) (a : Nat) (w : BitVec 80) : (s.setMemWord a w).flash = s.flash := rfl
@[simp] theorem State.cfg_setMemWord (s : State) (a : Nat) (w : BitVec 80) : (s.setMemWord a w).cfg = s.cfg := rfl
@[simp] theorem State.bist_setMemWord (s : State) (a : Nat) (w : BitVec 80) : (s.setMemWord a w).bist = s.bist := rfl
@[simp] theorem State.sec_setMemWord (s : State) (a : Nat) (w : BitVec 80) : (s.setMemWord a w).sec = s.sec := rfl
@[simp] theorem State.gpio_setMemWord (s : State) (a : Nat) (w : BitVec 80) : (s.setMemWord a w).gpio = s.gpio := rfl
@[simp] theorem State.lastNet_setMemWord (s : State) (a : Nat) (w : BitVec 80) : (s.setMemWord a w).lastNet = s.lastNet := rfl
@[simp] theorem State.responder_setMemWord (s : State) (a : Nat) (w : BitVec 80) : (s.setMemWord a w).responder = s.responder := rfl
@[simp] theorem State.pending_setMemWord (s : State) (a : Nat) (w : BitVec 80) : (s.setMemWord a w).pending = s.pending := rfl
@[simp] theorem State.rd_setMemWord (s : State) (a : Nat) (w : BitVec 80) (b : Nat) : (s.setMemWord a w).rd b = s.rd b := rfl
@[simp] theorem State.rdN_setMemWord (s : State) (a : Nat) (w : BitVec 80) (b : Nat) : (s.setMemWord a w).rdN b = s.rdN b := rfl
@[simp] theorem State.get_setMemWord (s : State) (a : Nat) (w : BitVec 80) (g : FieldAt) : (s.setMemWord a w).get g = s.get g := rfl
@[simp] theorem State.bit_setMemWord (s : State) (a : Nat) (w : BitVec 80) (g : FieldAt) : (s.setMemWord a w).bit g = s.bit g := rfl
@[simp] theorem State.bitAt_setMemWord (s : State) (a : Nat) (w : BitVec 80) (b j : Nat) : (s.setMemWord a w).bitAt b j = s.bitAt b j := rfl
@[simp] theorem State.mode_setMemWord (s : State) (a : Nat) (w : BitVec 80) : (s.setMemWord a w).mode = s.mode := rfl
@[simp] theorem State.domOn_setMemWord (s : State) (a : Nat) (w : BitVec 80) (j : Nat) : (s.setMemWord a w).domOn j = s.domOn j := rfl
@[simp] theorem State.fresh_setMemWord (s : State) (a : Nat) (w : BitVec 80) : (s.setMemWord a w).fresh = s.fresh := rfl
@[simp] theorem State.slot_setMemWord (s : State) (a : Nat) (w : BitVec 80) (j l : Nat) : (s.setMemWord a w).slot j l = s.slot j l := rfl
@[simp] theorem State.drone_setMemWord (s : State) (a : Nat) (w : BitVec 80) (j : Nat) : (s.setMemWord a w).drone j = s.drone j := rfl
@[simp] theorem State.tracker_setMemWord (s : State) (a : Nat) (w : BitVec 80) (j : Nat) : (s.setMemWord a w).tracker j = s.tracker j := rfl
@[simp] theorem State.dom_setMemWord (s : State) (a : Nat) (w : BitVec 80) (j : Nat) : (s.setMemWord a w).dom j = s.dom j := rfl
@[simp] theorem State.session_setMemWord (s : State) (a : Nat) (w : BitVec 80) (j : Nat) : (s.setMemWord a w).session j = s.session j := rfl
@[simp] theorem State.emnPort_setMemWord (s : State) (a : Nat) (w : BitVec 80) (j : Nat) : (s.setMemWord a w).emnPort j = s.emnPort j := rfl
@[simp] theorem State.pair_setMemWord (s : State) (a : Nat) (w : BitVec 80) (j : Nat) : (s.setMemWord a w).pair j = s.pair j := rfl
@[simp] theorem State.engine_setMemWord (s : State) (a : Nat) (w : BitVec 80) (j : Nat) : (s.setMemWord a w).engine j = s.engine j := rfl
@[simp] theorem State.lane_setMemWord (s : State) (a : Nat) (w : BitVec 80) (j : Nat) : (s.setMemWord a w).lane j = s.lane j := rfl
@[simp] theorem State.adc_setMemWord (s : State) (a : Nat) (w : BitVec 80) (j : Nat) : (s.setMemWord a w).adc j = s.adc j := rfl
@[simp] theorem State.pwrDom_setMemWord (s : State) (a : Nat) (w : BitVec 80) (j : Nat) : (s.setMemWord a w).pwrDom j = s.pwrDom j := rfl

/-! ### State.memWrite -/

@[simp] theorem State.regs_memWrite (s : State) (a : Nat) (w : BitVec 64) : (s.memWrite a w).regs = s.regs := rfl
@[simp] theorem State.now_memWrite (s : State) (a : Nat) (w : BitVec 64) : (s.memWrite a w).now = s.now := rfl
@[simp] theorem State.free_memWrite (s : State) (a : Nat) (w : BitVec 64) : (s.memWrite a w).free = s.free := rfl
@[simp] theorem State.spine_memWrite (s : State) (a : Nat) (w : BitVec 64) : (s.memWrite a w).spine = s.spine := rfl
@[simp] theorem State.modeCtl_memWrite (s : State) (a : Nat) (w : BitVec 64) : (s.memWrite a w).modeCtl = s.modeCtl := rfl
@[simp] theorem State.irq_memWrite (s : State) (a : Nat) (w : BitVec 64) : (s.memWrite a w).irq = s.irq := rfl
@[simp] theorem State.drones_memWrite (s : State) (a : Nat) (w : BitVec 64) : (s.memWrite a w).drones = s.drones := rfl
@[simp] theorem State.scrub_memWrite (s : State) (a : Nat) (w : BitVec 64) : (s.memWrite a w).scrub = s.scrub := rfl
@[simp] theorem State.trackers_memWrite (s : State) (a : Nat) (w : BitVec 64) : (s.memWrite a w).trackers = s.trackers := rfl
@[simp] theorem State.doms_memWrite (s : State) (a : Nat) (w : BitVec 64) : (s.memWrite a w).doms = s.doms := rfl
@[simp] theorem State.tick_memWrite (s : State) (a : Nat) (w : BitVec 64) : (s.memWrite a w).tick = s.tick := rfl
@[simp] theorem State.wheel_memWrite (s : State) (a : Nat) (w : BitVec 64) : (s.memWrite a w).wheel = s.wheel := rfl
@[simp] theorem State.sessions_memWrite (s : State) (a : Nat) (w : BitVec 64) : (s.memWrite a w).sessions = s.sessions := rfl
@[simp] theorem State.ivw_memWrite (s : State) (a : Nat) (w : BitVec 64) : (s.memWrite a w).ivw = s.ivw := rfl
@[simp] theorem State.emnPorts_memWrite (s : State) (a : Nat) (w : BitVec 64) : (s.memWrite a w).emnPorts = s.emnPorts := rfl
@[simp] theorem State.emn_memWrite (s : State) (a : Nat) (w : BitVec 64) : (s.memWrite a w).emn = s.emn := rfl
@[simp] theorem State.clk_memWrite (s : State) (a : Nat) (w : BitVec 64) : (s.memWrite a w).clk = s.clk := rfl
@[simp] theorem State.ptp_memWrite (s : State) (a : Nat) (w : BitVec 64) : (s.memWrite a w).ptp = s.ptp := rfl
@[simp] theorem State.net_memWrite (s : State) (a : Nat) (w : BitVec 64) : (s.memWrite a w).net = s.net := rfl
@[simp] theorem State.capWait_memWrite (s : State) (a : Nat) (w : BitVec 64) : (s.memWrite a w).capWait = s.capWait := rfl
@[simp] theorem State.snapAt_memWrite (s : State) (a : Nat) (w : BitVec 64) : (s.memWrite a w).snapAt = s.snapAt := rfl
@[simp] theorem State.syncIn_memWrite (s : State) (a : Nat) (w : BitVec 64) : (s.memWrite a w).syncIn = s.syncIn := rfl
@[simp] theorem State.pairs_memWrite (s : State) (a : Nat) (w : BitVec 64) : (s.memWrite a w).pairs = s.pairs := rfl
@[simp] theorem State.claims_memWrite (s : State) (a : Nat) (w : BitVec 64) : (s.memWrite a w).claims = s.claims := rfl
@[simp] theorem State.notes_memWrite (s : State) (a : Nat) (w : BitVec 64) : (s.memWrite a w).notes = s.notes := rfl
@[simp] theorem State.engines_memWrite (s : State) (a : Nat) (w : BitVec 64) : (s.memWrite a w).engines = s.engines := rfl
@[simp] theorem State.lanes_memWrite (s : State) (a : Nat) (w : BitVec 64) : (s.memWrite a w).lanes = s.lanes := rfl
@[simp] theorem State.adcs_memWrite (s : State) (a : Nat) (w : BitVec 64) : (s.memWrite a w).adcs = s.adcs := rfl
@[simp] theorem State.monNext_memWrite (s : State) (a : Nat) (w : BitVec 64) : (s.memWrite a w).monNext = s.monNext := rfl
@[simp] theorem State.filters_memWrite (s : State) (a : Nat) (w : BitVec 64) : (s.memWrite a w).filters = s.filters := rfl
@[simp] theorem State.berrAt_memWrite (s : State) (a : Nat) (w : BitVec 64) : (s.memWrite a w).berrAt = s.berrAt := rfl
@[simp] theorem State.fab_memWrite (s : State) (a : Nat) (w : BitVec 64) : (s.memWrite a w).fab = s.fab := rfl
@[simp] theorem State.pwr_memWrite (s : State) (a : Nat) (w : BitVec 64) : (s.memWrite a w).pwr = s.pwr := rfl
@[simp] theorem State.stalls_memWrite (s : State) (a : Nat) (w : BitVec 64) : (s.memWrite a w).stalls = s.stalls := rfl
@[simp] theorem State.supply_memWrite (s : State) (a : Nat) (w : BitVec 64) : (s.memWrite a w).supply = s.supply := rfl
@[simp] theorem State.shadow_memWrite (s : State) (a : Nat) (w : BitVec 64) : (s.memWrite a w).shadow = s.shadow := rfl
@[simp] theorem State.flash_memWrite (s : State) (a : Nat) (w : BitVec 64) : (s.memWrite a w).flash = s.flash := rfl
@[simp] theorem State.cfg_memWrite (s : State) (a : Nat) (w : BitVec 64) : (s.memWrite a w).cfg = s.cfg := rfl
@[simp] theorem State.bist_memWrite (s : State) (a : Nat) (w : BitVec 64) : (s.memWrite a w).bist = s.bist := rfl
@[simp] theorem State.sec_memWrite (s : State) (a : Nat) (w : BitVec 64) : (s.memWrite a w).sec = s.sec := rfl
@[simp] theorem State.gpio_memWrite (s : State) (a : Nat) (w : BitVec 64) : (s.memWrite a w).gpio = s.gpio := rfl
@[simp] theorem State.lastNet_memWrite (s : State) (a : Nat) (w : BitVec 64) : (s.memWrite a w).lastNet = s.lastNet := rfl
@[simp] theorem State.responder_memWrite (s : State) (a : Nat) (w : BitVec 64) : (s.memWrite a w).responder = s.responder := rfl
@[simp] theorem State.pending_memWrite (s : State) (a : Nat) (w : BitVec 64) : (s.memWrite a w).pending = s.pending := rfl
@[simp] theorem State.rd_memWrite (s : State) (a : Nat) (w : BitVec 64) (b : Nat) : (s.memWrite a w).rd b = s.rd b := rfl
@[simp] theorem State.rdN_memWrite (s : State) (a : Nat) (w : BitVec 64) (b : Nat) : (s.memWrite a w).rdN b = s.rdN b := rfl
@[simp] theorem State.get_memWrite (s : State) (a : Nat) (w : BitVec 64) (g : FieldAt) : (s.memWrite a w).get g = s.get g := rfl
@[simp] theorem State.bit_memWrite (s : State) (a : Nat) (w : BitVec 64) (g : FieldAt) : (s.memWrite a w).bit g = s.bit g := rfl
@[simp] theorem State.bitAt_memWrite (s : State) (a : Nat) (w : BitVec 64) (b j : Nat) : (s.memWrite a w).bitAt b j = s.bitAt b j := rfl
@[simp] theorem State.mode_memWrite (s : State) (a : Nat) (w : BitVec 64) : (s.memWrite a w).mode = s.mode := rfl
@[simp] theorem State.domOn_memWrite (s : State) (a : Nat) (w : BitVec 64) (j : Nat) : (s.memWrite a w).domOn j = s.domOn j := rfl
@[simp] theorem State.fresh_memWrite (s : State) (a : Nat) (w : BitVec 64) : (s.memWrite a w).fresh = s.fresh := rfl
@[simp] theorem State.slot_memWrite (s : State) (a : Nat) (w : BitVec 64) (j l : Nat) : (s.memWrite a w).slot j l = s.slot j l := rfl
@[simp] theorem State.drone_memWrite (s : State) (a : Nat) (w : BitVec 64) (j : Nat) : (s.memWrite a w).drone j = s.drone j := rfl
@[simp] theorem State.tracker_memWrite (s : State) (a : Nat) (w : BitVec 64) (j : Nat) : (s.memWrite a w).tracker j = s.tracker j := rfl
@[simp] theorem State.dom_memWrite (s : State) (a : Nat) (w : BitVec 64) (j : Nat) : (s.memWrite a w).dom j = s.dom j := rfl
@[simp] theorem State.session_memWrite (s : State) (a : Nat) (w : BitVec 64) (j : Nat) : (s.memWrite a w).session j = s.session j := rfl
@[simp] theorem State.emnPort_memWrite (s : State) (a : Nat) (w : BitVec 64) (j : Nat) : (s.memWrite a w).emnPort j = s.emnPort j := rfl
@[simp] theorem State.pair_memWrite (s : State) (a : Nat) (w : BitVec 64) (j : Nat) : (s.memWrite a w).pair j = s.pair j := rfl
@[simp] theorem State.engine_memWrite (s : State) (a : Nat) (w : BitVec 64) (j : Nat) : (s.memWrite a w).engine j = s.engine j := rfl
@[simp] theorem State.lane_memWrite (s : State) (a : Nat) (w : BitVec 64) (j : Nat) : (s.memWrite a w).lane j = s.lane j := rfl
@[simp] theorem State.adc_memWrite (s : State) (a : Nat) (w : BitVec 64) (j : Nat) : (s.memWrite a w).adc j = s.adc j := rfl
@[simp] theorem State.pwrDom_memWrite (s : State) (a : Nat) (w : BitVec 64) (j : Nat) : (s.memWrite a w).pwrDom j = s.pwrDom j := rfl

/-! ### Units after an update of their own kind -/

@[simp] theorem State.drone_setDrone_self (s : State) (k : Nat) (x : DroneCtl) : (s.setDrone k x).drone k = x := Sparse.get_put_self _ _ _
theorem State.drone_setDrone_ne (s : State) {k j : Nat} (x : DroneCtl) (h : j ≠ k) : (s.setDrone k x).drone j = s.drone j := Sparse.get_put_ne _ _ h
theorem State.drone_setDrone (s : State) (k j : Nat) (x : DroneCtl) : (s.setDrone k x).drone j = if j = k then x else s.drone j := Sparse.get_put _ _ _ _
@[simp] theorem State.tracker_setTracker_self (s : State) (k : Nat) (x : Tracker) : (s.setTracker k x).tracker k = x := Sparse.get_put_self _ _ _
theorem State.tracker_setTracker_ne (s : State) {k j : Nat} (x : Tracker) (h : j ≠ k) : (s.setTracker k x).tracker j = s.tracker j := Sparse.get_put_ne _ _ h
theorem State.tracker_setTracker (s : State) (k j : Nat) (x : Tracker) : (s.setTracker k x).tracker j = if j = k then x else s.tracker j := Sparse.get_put _ _ _ _
@[simp] theorem State.dom_setDom_self (s : State) (k : Nat) (x : Domain) : (s.setDom k x).dom k = x := Sparse.get_put_self _ _ _
theorem State.dom_setDom_ne (s : State) {k j : Nat} (x : Domain) (h : j ≠ k) : (s.setDom k x).dom j = s.dom j := Sparse.get_put_ne _ _ h
theorem State.dom_setDom (s : State) (k j : Nat) (x : Domain) : (s.setDom k x).dom j = if j = k then x else s.dom j := Sparse.get_put _ _ _ _
@[simp] theorem State.session_setSession_self (s : State) (k : Nat) (x : Session) : (s.setSession k x).session k = x := Sparse.get_put_self _ _ _
theorem State.session_setSession_ne (s : State) {k j : Nat} (x : Session) (h : j ≠ k) : (s.setSession k x).session j = s.session j := Sparse.get_put_ne _ _ h
theorem State.session_setSession (s : State) (k j : Nat) (x : Session) : (s.setSession k x).session j = if j = k then x else s.session j := Sparse.get_put _ _ _ _
@[simp] theorem State.emnPort_setEmnPort_self (s : State) (k : Nat) (x : EmnPort) : (s.setEmnPort k x).emnPort k = x := Sparse.get_put_self _ _ _
theorem State.emnPort_setEmnPort_ne (s : State) {k j : Nat} (x : EmnPort) (h : j ≠ k) : (s.setEmnPort k x).emnPort j = s.emnPort j := Sparse.get_put_ne _ _ h
theorem State.emnPort_setEmnPort (s : State) (k j : Nat) (x : EmnPort) : (s.setEmnPort k x).emnPort j = if j = k then x else s.emnPort j := Sparse.get_put _ _ _ _
@[simp] theorem State.pair_setPair_self (s : State) (k : Nat) (x : Pair) : (s.setPair k x).pair k = x := Sparse.get_put_self _ _ _
theorem State.pair_setPair_ne (s : State) {k j : Nat} (x : Pair) (h : j ≠ k) : (s.setPair k x).pair j = s.pair j := Sparse.get_put_ne _ _ h
theorem State.pair_setPair (s : State) (k j : Nat) (x : Pair) : (s.setPair k x).pair j = if j = k then x else s.pair j := Sparse.get_put _ _ _ _
@[simp] theorem State.engine_setEngine_self (s : State) (k : Nat) (x : Engine) : (s.setEngine k x).engine k = x := Sparse.get_put_self _ _ _
theorem State.engine_setEngine_ne (s : State) {k j : Nat} (x : Engine) (h : j ≠ k) : (s.setEngine k x).engine j = s.engine j := Sparse.get_put_ne _ _ h
theorem State.engine_setEngine (s : State) (k j : Nat) (x : Engine) : (s.setEngine k x).engine j = if j = k then x else s.engine j := Sparse.get_put _ _ _ _
@[simp] theorem State.lane_setLane_self (s : State) (k : Nat) (x : Lane) : (s.setLane k x).lane k = x := Sparse.get_put_self _ _ _
theorem State.lane_setLane_ne (s : State) {k j : Nat} (x : Lane) (h : j ≠ k) : (s.setLane k x).lane j = s.lane j := Sparse.get_put_ne _ _ h
theorem State.lane_setLane (s : State) (k j : Nat) (x : Lane) : (s.setLane k x).lane j = if j = k then x else s.lane j := Sparse.get_put _ _ _ _
@[simp] theorem State.adc_setAdc_self (s : State) (k : Nat) (x : Adc) : (s.setAdc k x).adc k = x := Sparse.get_put_self _ _ _
theorem State.adc_setAdc_ne (s : State) {k j : Nat} (x : Adc) (h : j ≠ k) : (s.setAdc k x).adc j = s.adc j := Sparse.get_put_ne _ _ h
theorem State.adc_setAdc (s : State) (k j : Nat) (x : Adc) : (s.setAdc k x).adc j = if j = k then x else s.adc j := Sparse.get_put _ _ _ _
@[simp] theorem State.pwrDom_setPwrDom_self (s : State) (k : Nat) (x : PwrDom) : (s.setPwrDom k x).pwrDom k = x := Sparse.get_put_self _ _ _
theorem State.pwrDom_setPwrDom_ne (s : State) {k j : Nat} (x : PwrDom) (h : j ≠ k) : (s.setPwrDom k x).pwrDom j = s.pwrDom j := Sparse.get_put_ne _ _ h
theorem State.pwrDom_setPwrDom (s : State) (k j : Nat) (x : PwrDom) : (s.setPwrDom k x).pwrDom j = if j = k then x else s.pwrDom j := Sparse.get_put _ _ _ _
@[simp] theorem State.slot_setSlot_self (s : State) (n d : Nat) (x : IrqSlot) : (s.setSlot n d x).slot n d = x := Sparse.get_put_self _ _ _
theorem State.slot_setSlot (s : State) (n d m e : Nat) (x : IrqSlot) (hd : d < 4) (he : e < 4) :
    (s.setSlot n d x).slot m e = if m = n ∧ e = d then x else s.slot m e := by
  have h : (m * 4 + e = n * 4 + d) ↔ (m = n ∧ e = d) := by omega
  simp only [State.slot, State.setSlot, Sparse.get_put, h]
@[simp] theorem State.memWord_setMemWord_self (s : State) (a : Nat) (w : BitVec 80) : (s.setMemWord a w).memWord a = w := Sparse.get_put_self _ _ _
theorem State.memWord_setMemWord (s : State) (a b : Nat) (w : BitVec 80) :
    (s.setMemWord a w).memWord b = if b / 8 = a / 8 then w else s.memWord b := Sparse.get_put _ _ _ _
@[simp] theorem State.now_at__eq (s : State) (t : Nat) : (s.at_ t).now = max s.now t := rfl
@[simp] theorem State.free_drawn_eq (s : State) : s.drawn.free = s.free + 1 := rfl

end Sys2Proof.Machine
end

