-- ==== Sys2Proof/Laws/Registers.lean ====
section
/-! SUPPORT. Sys2Proof/Laws/Registers.lean: registers and fields after a write of one, and what a raise of an interrupt source does. -/
namespace Sys2Proof.Machine

/-! ## Registers and fields -/

/-- A register that is written holds the word. -/
@[simp] theorem State.rd_wr_self (s : State) (a : Nat) (w : Word) : (s.wr a w).rd a = w := Sparse.get_put_self _ _ _

/-- The other registers read as before. -/
theorem State.rd_wr_ne (s : State) {a b : Nat} (w : Word) (h : b ≠ a) : (s.wr a w).rd b = s.rd b := Sparse.get_put_ne _ _ h

/-- A register after a write of one. -/
theorem State.rd_wr (s : State) (a b : Nat) (w : Word) : (s.wr a w).rd b = if b = a then w else s.rd b := Sparse.get_put _ _ _ _

/-- A register whose field is written. -/
theorem State.rd_set_self (s : State) (f : FieldAt) (v : Nat) : (s.set f v).rd f.addr = setBitsOf (s.rd f.addr) f.hi f.lo v :=
  State.rd_wr_self _ _ _

/-- The other registers read as before. -/
theorem State.rd_set_ne (s : State) (f : FieldAt) (v : Nat) {b : Nat} (h : b ≠ f.addr) : (s.set f v).rd b = s.rd b := State.rd_wr_ne _ _ h

/-- A field that is written holds the value, as far as it is wide. -/
theorem State.get_set_self (s : State) (f : FieldAt) (v : Nat) (h : f.hi < 32) : (s.set f v).get f = v % 2 ^ (f.hi + 1 - f.lo) := by
  simp only [State.get, State.rd_set_self]
  exact bitsOf_setBitsOf _ _ _ _ h

/-- A field of another register reads as before. -/
theorem State.get_set_ne (s : State) (f g : FieldAt) (v : Nat) (h : g.addr ≠ f.addr) : (s.set f v).get g = s.get g := by
  simp only [State.get, State.rd_set_ne s f v h]

/-- A field that does not meet the one that is written reads as before. -/
theorem State.get_set_of_disjoint (s : State) (f g : FieldAt) (v : Nat) (h : g.hi < f.lo ∨ f.hi < g.lo) (hl : f.lo ≤ f.hi) :
    (s.set f v).get g = s.get g := by
  by_cases ha : g.addr = f.addr
  · simp only [State.get, ha, State.rd_set_self]
    exact bitsOf_setBitsOf_of_disjoint _ _ _ _ _ _ h hl
  · exact State.get_set_ne s f g v ha

/-- A field of another register reads as before when a register is written. -/
theorem State.get_wr_ne (s : State) (a : Nat) (w : Word) (g : FieldAt) (h : g.addr ≠ a) : (s.wr a w).get g = s.get g := by
  simp only [State.get, State.rd_wr_ne s w h]

/-- A field of a register that is written is that field of the word. -/
theorem State.get_wr_self (s : State) (w : Word) (g : FieldAt) : (s.wr g.addr w).get g = bitsOf w g.hi g.lo := by
  simp only [State.get, State.rd_wr_self]

/-- The counters leave the other registers as they are (R9). -/
theorem State.rd_count_ne (s : State) {a b : Nat} (h : b ≠ a) : (s.count a).rd b = s.rd b := State.rd_wr_ne _ _ h

theorem State.rd_countField_ne (s : State) (f : FieldAt) (k : Nat) {b : Nat} (h : b ≠ f.addr) : (s.countField f k).rd b = s.rd b :=
  State.rd_set_ne _ _ _ h

theorem State.rd_wrap_ne (s : State) {a b : Nat} (k : Nat) (h : b ≠ a) : (s.wrap a k).rd b = s.rd b := State.rd_wr_ne _ _ h

/-! ## The canonical form of the register file -/

theorem State.regs_wr (s : State) (a : Nat) (w : Word) : (s.wr a w).regs = Sparse.put regReset s.regs a w := rfl

/-- A write keeps the canonical form. -/
theorem State.wf_wr {s : State} (a : Nat) (w : Word) (h : Sparse.wf regReset s.regs = true) : Sparse.wf regReset (s.wr a w).regs = true :=
  Sparse.wf_put _ _ h

theorem State.wf_set {s : State} (f : FieldAt) (v : Nat) (h : Sparse.wf regReset s.regs = true) : Sparse.wf regReset (s.set f v).regs = true :=
  State.wf_wr _ _ h

theorem State.wf_count {s : State} (a : Nat) (h : Sparse.wf regReset s.regs = true) : Sparse.wf regReset (s.count a).regs = true :=
  State.wf_wr _ _ h

/-- A write of grid-coded memory keeps its canonical form. -/
theorem State.wf_setMemWord {s : State} (a : Nat) (w : BitVec 80) (h : Sparse.wf (memReset s.wheel.inited s.wheel.inited1) s.mem = true) :
    Sparse.wf (memReset (s.setMemWord a w).wheel.inited (s.setMemWord a w).wheel.inited1) (s.setMemWord a w).mem = true :=
  Sparse.wf_put _ _ h

/-! ## Interrupt sources (R473) -/

/-- A raise changes the register file and the sources, nothing else. -/
theorem State.raiseOn_frame (s : State) (n d : Nat) : s.raiseOn n d = { s with regs := (s.raiseOn n d).regs, irq := (s.raiseOn n d).irq } := by
  simp only [State.raiseOn]
  split <;> rfl

/-- A raise changes the register file and the sources, nothing else. -/
theorem State.raise_frame (s : State) (n : Nat) : s.raise n = { s with regs := (s.raise n).regs, irq := (s.raise n).irq } := by
  simp only [State.raise]
  split <;> exact State.raiseOn_frame _ _ _

/-- Of the registers, a raise on a drone changes its count of merged raises only. -/
theorem State.rd_raiseOn (s : State) (n d : Nat) {a : Nat} (h : a ≠ R.IRQ_D_COALESCED d) : (s.raiseOn n d).rd a = s.rd a := by
  simp only [State.raiseOn]
  split
  · exact State.rd_count_ne _ h
  · rfl

/-- The successor of a drone is a drone (R483). -/
theorem State.successor_lt (s : State) {d : Nat} (h : d < 4) : s.successor d < 4 := by
  have hc : s.get (F.IRQ_D_CTL_SUCC d) < 4 := bitsOf_lt _ _ _
  simp only [State.successor]
  split
  · exact hc
  · cases hf : ([1, 2, 3].map fun k => (d + k) % 4).find? fun k => s.retired k = false with
    | none => simpa using h
    | some k =>
      have := List.mem_of_find?_eq_some hf
      simp only [List.map_cons, List.map_nil, List.mem_cons, List.not_mem_nil, or_false] at this
      simp only [Option.getD_some]
      omega

/-- A source is delivered to a drone (R474). -/
theorem State.targetOf_lt (s : State) (n : Nat) : s.targetOf n < 4 := by
  have hc : s.get (F.IRQ_SRC_CFG_TARGET n) < 4 := bitsOf_lt _ _ _
  simp only [State.targetOf]
  split
  · exact State.successor_lt s hc
  · exact hc

/-- The drone that holds a pending source is a drone. -/
theorem State.pendingOn_lt {s : State} {n d : Nat} (h : s.pendingOn n = some d) : d < 4 := by
  have := List.mem_of_find?_eq_some h
  simp only [List.mem_cons, List.not_mem_nil, or_false] at this
  omega

/-- Of the registers, a raise changes the drones' counts of merged raises only. -/
theorem State.rd_raise (s : State) (n : Nat) {a : Nat} (h : ∀ d, d < 4 → a ≠ R.IRQ_D_COALESCED d) : (s.raise n).rd a = s.rd a := by
  simp only [State.raise]
  split
  · next d hd => exact State.rd_raiseOn _ _ _ (h d (State.pendingOn_lt hd))
  · exact State.rd_raiseOn _ _ _ (h _ (State.targetOf_lt s n))

/-- A source that is raised on a drone is pending there. -/
theorem State.pend_raiseOn (s : State) (n d : Nat) : ((s.raiseOn n d).slot n d).pend = true := by
  simp only [State.raiseOn]
  split
  · next h => exact h
  · simp

/-- A raise on a drone leaves every other source, and every other drone, as it was. -/
theorem State.slot_raiseOn_ne (s : State) {n d m e : Nat} (hd : d < 4) (he : e < 4) (h : ¬ (m = n ∧ e = d)) :
    (s.raiseOn n d).slot m e = s.slot m e := by
  simp only [State.raiseOn]
  split
  · rfl
  · rw [State.slot_setSlot _ _ _ _ _ _ hd he, if_neg h]

/-- A pending raise stays pending through another raise. -/
theorem State.pend_raiseOn_mono (s : State) {n d m e : Nat} (hd : d < 4) (he : e < 4) (h : (s.slot m e).pend = true) :
    ((s.raiseOn n d).slot m e).pend = true := by
  by_cases hm : m = n ∧ e = d
  · obtain ⟨rfl, rfl⟩ := hm; exact State.pend_raiseOn s m e
  · rw [State.slot_raiseOn_ne s hd he hm]; exact h

end Sys2Proof.Machine
end

