-- ==== Sys2Proof/Laws/Spine.lean ====
section
/-! SUPPORT. Sys2Proof/Laws/Spine.lean: what a spine access that reaches its target does, what a response leaves, and that none of it disturbs
the canonical form of the registers. -/
namespace Sys2Proof.Machine

/-! ## Responses (R480, R493) -/

/-- An entry of the error log changes registers and its moment only. -/
theorem State.logEntry_frame (s : State) (ini : Initiator) (a : Nat) (r : Resp) :
    s.logEntry ini a r = { s with regs := (s.logEntry ini a r).regs, berrAt := some s.now } := by
  simp only [State.logEntry]
  split <;> rfl

/-- Logging an error changes registers, sources and the moment of the last error. -/
theorem State.logError_frame (s : State) (ini : Initiator) (a : Nat) (r : Resp) :
    s.logError ini a r = { s with regs := (s.logError ini a r).regs, irq := (s.logError ini a r).irq, berrAt := (s.logError ini a r).berrAt } := by
  simp only [State.logError]
  split
  · rfl
  · obtain ⟨x, hs⟩ : ∃ x, s.logEntry ini a r = { s with regs := x, berrAt := some s.now } := ⟨_, State.logEntry_frame s ini a r⟩
    rw [hs]
    split
    · cases ini
      case drone k => dsimp only; rw [State.raiseOn_frame]
      all_goals dsimp only; rw [State.raise_frame]
    · rfl

/-- A response changes registers, sources, the initiator's record, for a drone its error record and for the TAP what it shifts out. -/
theorem State.respond_frame (s : State) (ini : Initiator) (a : Nat) (r : Resp) (d : BitVec 64) :
    s.respond ini a r d = { s with
      regs := (s.respond ini a r d).regs, irq := (s.respond ini a r d).irq, berrAt := (s.respond ini a r d).berrAt, spine := (s.respond ini a r d).spine
      engines := (s.respond ini a r d).engines, sec := (s.respond ini a r d).sec } := by
  have h := State.logError_frame s ini a r
  simp only [State.respond, State.answer, State.droneError, State.setSt]
  rw [h]
  cases ini
  case drone k => dsimp only; split <;> rfl
  all_goals rfl

/-- A drone's record of an error response is in its engine. -/
@[simp] theorem State.spine_droneError (s : State) (d a : Nat) (r : Resp) : (s.droneError d a r).spine = s.spine := by
  cases r <;> rfl

@[simp] theorem State.regs_droneError (s : State) (d a : Nat) (r : Resp) : (s.droneError d a r).regs = s.regs := by
  cases r <;> rfl

/-- A response without error leaves registers and sources alone. -/
theorem State.respond_ok (s : State) (ini : Initiator) (a : Nat) (d : BitVec 64) :
    s.respond ini a .ok d = { s with spine := (s.respond ini a .ok d).spine, sec := (s.respond ini a .ok d).sec } := by
  cases ini <;> rfl

@[simp] theorem State.regs_respond_ok (s : State) (ini : Initiator) (a : Nat) (d : BitVec 64) : (s.respond ini a .ok d).regs = s.regs := by
  cases ini <;> rfl

@[simp] theorem State.irq_respond_ok (s : State) (ini : Initiator) (a : Nat) (d : BitVec 64) : (s.respond ini a .ok d).irq = s.irq := by
  cases ini <;> rfl

@[simp] theorem State.rd_respond_ok (s : State) (ini : Initiator) (a : Nat) (d : BitVec 64) (b : Nat) : (s.respond ini a .ok d).rd b = s.rd b := by
  cases ini <;> rfl

/-- The initiator's record holds the response code. -/
@[simp] theorem State.respCode_respond (s : State) (ini : Initiator) (a : Nat) (r : Resp) (d : BitVec 64) :
    (s.respond ini a r d).respCode ini = r.code := by
  cases ini <;> simp [State.respond, State.answer, State.respCode, iniCode]

/-- The initiator's record holds the read data. -/
@[simp] theorem State.respData_respond (s : State) (ini : Initiator) (a : Nat) (r : Resp) (d : BitVec 64) :
    (s.respond ini a r d).respData ini = d := by
  cases ini <;> simp [State.respond, State.answer, State.respData, iniCode]

/-! ## Accesses (R4, R12, R169-R171, R331) -/

/-- No access by itself is one that waits for a wake that failed. -/
@[simp] theorem State.stallFailed_access (s : State) (ini : Initiator) (w : Bool) (a n : Nat) (v : BitVec 64) (b : Nat) :
    s.stallFailed (.access ini w a n v b) = false := rfl

/-- An access of an ON domain reaches its target, and its response is recorded. -/
theorem State.spineAccess_eq (s : State) (ini : Initiator) (write : Bool) (a w : Nat) (v : BitVec 64) (bad : Nat)
    (hd : spineDecodes a = true) (ho : s.domOn ((addrDomain a).getD 0) = true) :
    s.spineAccess ini write a w v bad =
      (s.spineReach ini none write a w v bad).1.respond ini a (s.spineReach ini none write a w v bad).2.1
        (s.spineReach ini none write a w v bad).2.2 := by
  simp [State.spineAccess, State.spineTry, hd, ho]

/-- A 32-bit access that its initiator sends goes over the spine. -/
theorem State.access_of_sends (s : State) (ini : Initiator) (write : Bool) (a : Nat) (v : BitVec 64) (bad : Nat)
    (hs : s.sends ini write a = true) : s.access ini write a 4 v bad = s.spineAccess ini write a 4 v bad := by
  cases ini with
  | drone d =>
    simp only [State.sends, Bool.and_eq_true, decide_eq_true_eq] at hs
    simp [State.access, hs.1, hs.2]
  | fabric =>
    simp only [State.sends] at hs
    simp [State.access, hs]
  | ivwyn => rfl
  | tap => rfl

/-- A 32-bit register write by an initiator: the register's act, then the response. -/
theorem State.put_eq (s : State) (ini : Initiator) (a : Nat) (v : Word) (hs : s.sends ini true a = true) (hd : spineDecodes a = true)
    (hk : spineKind a = 0) (ha : a % 4 = 0) (ho : s.domOn ((addrDomain a).getD 0) = true) :
    s.put ini a v = (s.regWrite ini none a v).1.respond ini a (if (s.regWrite ini none a v).2 then .param else .ok) 0 := by
  rw [State.put, State.access_of_sends _ _ _ _ _ _ hs, State.spineAccess_eq _ _ _ _ _ _ _ hd ho]
  simp [State.spineReach, hk, ha]

/-- A 32-bit register read by an initiator: the register's act, then the response with what it shows. -/
theorem State.fetch_eq (s : State) (ini : Initiator) (a : Nat) (hs : s.sends ini false a = true) (hd : spineDecodes a = true)
    (hk : spineKind a = 0) (ha : a % 4 = 0) (ho : s.domOn ((addrDomain a).getD 0) = true) :
    s.fetch ini a = (s.regRead ini a).1.respond ini a (s.regRead ini a).2.1 ((s.regRead ini a).2.2.zeroExtend 64) := by
  rw [State.fetch, State.access_of_sends _ _ _ _ _ _ hs, State.spineAccess_eq _ _ _ _ _ _ _ hd ho]
  simp [State.spineReach, hk, ha]

/-! ## The canonical form of the registers -/

theorem State.canonical_wr {s : State} (a : Nat) (w : Word) (h : s.RegsCanonical) : (s.wr a w).RegsCanonical := State.wf_wr _ _ h

theorem State.canonical_set {s : State} (f : FieldAt) (v : Nat) (h : s.RegsCanonical) : (s.set f v).RegsCanonical := State.wf_wr _ _ h

theorem State.canonical_count {s : State} (a : Nat) (h : s.RegsCanonical) : (s.count a).RegsCanonical := State.wf_wr _ _ h

theorem State.canonical_raiseOn {s : State} (n d : Nat) (h : s.RegsCanonical) : (s.raiseOn n d).RegsCanonical := by
  simp only [State.raiseOn]
  split
  · exact State.canonical_count _ h
  · exact h

theorem State.canonical_raise {s : State} (n : Nat) (h : s.RegsCanonical) : (s.raise n).RegsCanonical := by
  simp only [State.raise]
  split <;> exact State.canonical_raiseOn _ _ h

theorem State.canonical_logError {s : State} (ini : Initiator) (a : Nat) (r : Resp) (h : s.RegsCanonical) : (s.logError ini a r).RegsCanonical := by
  have h2 : (s.logEntry ini a r).RegsCanonical := by
    simp only [State.logEntry]
    split
    · exact State.canonical_count R.IRQ_BERR_COUNT (State.canonical_set F.IRQ_BERR_INFO_CODE r.code (State.canonical_set F.IRQ_BERR_INFO_INITIATOR (iniCode ini)
        (State.canonical_wr R.IRQ_BERR_ADDR (BitVec.ofNat 32 a) h)))
    · exact State.canonical_count R.IRQ_BERR_COUNT h
  simp only [State.logError]
  split
  · exact h
  · split
    · cases ini <;> first | exact State.canonical_raiseOn _ _ h2 | exact State.canonical_raise _ h2
    · exact h2

theorem State.canonical_respond {s : State} (ini : Initiator) (a : Nat) (r : Resp) (d : BitVec 64) (h : s.RegsCanonical) :
    (s.respond ini a r d).RegsCanonical := by
  have h1 := State.canonical_logError ini a r h
  cases ini
  case drone k => simpa only [State.respond, State.RegsCanonical, State.regs_droneError, State.answer] using h1
  all_goals exact h1

theorem State.canonical_mergeWrite {s : State} (a : Nat) (v : Word) (h : s.RegsCanonical) : (s.mergeWrite a v).1.RegsCanonical := by
  simp only [State.mergeWrite]
  split
  · exact State.canonical_wr _ _ h
  · exact h

end Sys2Proof.Machine
end

