-- ==== Sys2Proof/WellFormed.lean ====
section
/-! DEFINITION. Sys2Proof/WellFormed.lean: which operands a command may carry: the ranges that the spec gives them and that their types do
not. A command whose operands are out of range stands for nothing the outside world can do. -/
namespace Sys2Proof

/-- A spine access: a 32-bit address, 32 or 64 bits (R4, R11). -/
def accessWf (addr width : Nat) : Bool := decide (addr < 2 ^ 32) && (width == 4 || width == 8)

/-- A received Ethernet frame has at least 64 bytes (R253); a longer one than 1,522 is an error of R254. -/
def EthFrame.wf (f : EthFrame) : Bool := decide (64 ≤ f.len)

/-- A gPTP message: its fields have the widths of IEEE 802.1AS (R261). -/
def PtpMsg.wf (m : PtpMsg) : Bool :=
  match m with
  | .announce prio1 cls acc var prio2 ident steps =>
    decide (prio1 < 256) && decide (cls < 256) && decide (acc < 256) && decide (var < 65536) && decide (prio2 < 256) && decide (ident < 2 ^ 64) &&
    decide (steps < 65536)
  | _ => true

/-- The operands of a command are in range. -/
def Instr.wf (i : Instr) : Bool :=
  match i with
  | .registerWrite _ a w _ | .rcRead _ a w | .spineMemoryWrite _ a w _ | .spineMemoryRead _ a w _ | .spineTimeout _ _ a w _ _ => accessWf a w
  | .ssiSample _ _ word => decide (word < 2 ^ 32)
  | .snapTrigger src _ => decide (src < 256)
  | .wdEnable _ _ period => decide (period < 131072)
  | .echoReceive _ _ groups => decide (groups.length = 64)
  | .switchFrameRx _ _ _ f => f.wf
  | .ptpMessageRx _ _ _ m => m.wf
  | .icmpEchoRx _ len => decide (len ≤ 1472)
  | .ivwynDatagramRx _ _ _ _ _ payload => decide (payload.length ≤ 65507)
  | .configUpset _ bits => decide bits.Nodup
  | .bitUpset addr bits => decide (addr < 2 ^ 32) && decide bits.Nodup
  | .resetExit _ _ banks _ => decide (banks.length = 8)
  | _ => true

end Sys2Proof
end

