-- ==== Sys2Proof/Tests/Slice0.lean ====
section
/-! SUPPORT. Sys2Proof/Tests/Slice0.lean: ill-formed commands that WellFormed refuses; the spec's worked examples; the states and the theorems
that show the hypotheses of every obligation met. -/

section Slice0
set_option Elab.async false
set_option linter.unusedVariables false

namespace Sys2Proof.Machine

/-! ## States for the witnesses -/

/-- A state after reset in mode `m`. -/
def wMode (m : Nat) : State := State.reset.set F.SYS_MODE_MODE m

/-- The rails are down. -/
def wDown (p : Supply) : State := (wMode M.reset).setSupply { p with rails := false }

/-- Domain `d` in power state `x`, in INIT. -/
def wDom (d x : Nat) (p : PwrDom) : State := ((wMode M.init).setPwrState d x).setPwrDom d p

/-- Both trackers follow an encoder of 1,000 edges and are valid, in RUN. -/
def wQuad : State :=
  [0, 1].foldl (fun (s : State) x => ((((((s.set (F.WHEEL_SH_CFG_SRC x) 1).set (F.WHEEL_SH_EDGES_E x) 1000).set (F.WHEEL_SH_STALL_US x) 10000).set
    (F.WHEEL_SH_SSI_PERIOD x) 100).set (F.WHEEL_SH_SSI_POS_BITS x) 24).set (F.WHEEL_SH_SSI_WORD_BITS x) 24).setTracker x
    { valid := true, n := 5, theta := 83886, base := 83886, anchor := some 0, j := 1, hist := [(83886, 0, 0)] }) (wMode M.run)

/-- Tracker 0 reads an SSI encoder of 24 bits, in RUN. -/
def wSsi : State :=
  (((((((wMode M.run).set (F.WHEEL_SH_CFG_SRC 0) 2).set (F.WHEEL_SH_EDGES_E 0) 1000).set (F.WHEEL_SH_STALL_US 0) 10000).set (F.WHEEL_SH_SSI_PERIOD 0) 100).set
    (F.WHEEL_SH_SSI_POS_BITS 0) 24).set (F.WHEEL_SH_SSI_WORD_BITS 0) 24).set (F.WHEEL_SH_SSI_GRAY 0) 0

/-- Domain T runs with ticks of 400 cycles. -/
def wTick : State :=
  let s := ((wMode M.run).set F.WHEEL_T_CFG_TICK_CYC 400).set F.WHEEL_T_CFG_RUN 1
  { s with tick := { started := true, len := 400, last := 500 } }

/-- The wheel is ready with every lane in domain A, drains on. -/
def wWheel : State :=
  let s := (List.range 16).foldl (fun (s : State) k => s.wr (R.WHEEL_LANE_DOM k) 0x55555555#32) wQuad
  let s := ((s.set F.WHEEL_STAT_READY 1).wr R.WHEEL_POOL_FREE 3145720#32).wr R.WHEEL_POOL_IN_USE 8#32
  { s.setDom 0 { lp := 500000, hw := some 100 } with wheel := { inited := true, inited1 := true, next := 8 } }

/-- RUN on the PLL clocks. -/
def wCht : State := (wMode M.run).set F.CLK_CTL_CORE 1

/-- Lane 7 has sent frames below 30. -/
def wLane : State := (wCht.setLaneState 7 L.sending).setLane 7 { nextFrame := 30 }

/-- The bytes of an echo frame with sense words 1 to 12 and its CRC. -/
def wEchoBytes (type seq fl lt : Nat) (mg : Nat) : List Nat :=
  let b := [type, seq, fl] ++ (List.range 12).flatMap (fun k => bytesBE 4 (k + 1)) ++ bytesBE 4 lt ++ bytesBE 4 mg
  0xBC :: b ++ bytesBE 4 (crc32c b).toNat

/-- Its code groups for a receiver that has not aligned. -/
def wEcho (type seq fl lt : Nat) (mg : Nat) : List (BitVec 10) := (codeFrame false (wEchoBytes type seq fl lt mg)).1.map (BitVec.ofNat 10)

/-- Engines 5, 132 and 135 run from clean instruction memory in RUN on the PLL clocks. -/
def wEng : State :=
  [5, 33, 132, 135].foldl (fun (s : State) e => (s.memWrite (engineBase e) 0).setEngine e
    { on := true, regs := [(1, 0x12345678), (2, 0xFFFFFFF7), (4, 0x00001000), (6, 0x20), (8, 0x1C00), (17, 0x80000000), (18, 3)], st := 0x5 }) wCht

/-- Engine `e` of those stands before the instruction word `w`. -/
def wOp (e : Nat) (w : Word) : State := wEng.memWrite (engineBase e) (w.zeroExtend 64)

/-- Source 920 is pending, enabled, on drone 1, which may take it. -/
def wIrq (fast : Bool) : State :=
  (((wMode M.run).set (F.IRQ_SRC_CFG_EN 920) 1).setSlot 920 1 { pend := true, fast := fast }).setEngine 133
    { on := true, pc := 0x100, st := 0x180, regs := [(14, 0x10100)] }

/-- A scrub range of two words in the fabric RAM window, in RUN. -/
def wScrub : State := (((wMode M.run).wr R.ECC_SCRUB_START 0x23000010).wr R.ECC_SCRUB_END 0x23000020).set F.ECC_CTL_IDLE_EN 1

/-- A self-test plan of one entry over the banks of CTX. -/
def wBist : State :=
  ((((((wMode M.run).set F.BIST_CTL_EN 1).set F.BIST_CFG_PERIOD_MS 1).set F.BIST_CFG_BUDGET_US 1000).set (F.BIST_PLAN_KIND 0) 4).set
    (F.BIST_PLAN_COUNT 0) 10)

/-- Converters 0 to 3 wait with lists of four entries, in RUN on the PLL clocks. -/
def wMeas : State :=
  [0, 1, 2, 3].foldl (fun (s : State) k => (((((s.set (F.MEAS_ADC_CTL_EN k) 1).set (F.MEAS_ADC_CTL_TRIG k) 4).set (F.MEAS_ADC_CTL_LIST_BASE k) (4 * k)).set
    (F.MEAS_ADC_CTL_LIST_LEN k) (if k = 1 then 1 else 4)).set (F.MEAS_ADC_STAT_STATE k) A.waiting).setAdc k { live := true }) (
    [0, 1, 2, 3].foldl (fun (s : State) k => s.set (F.MEAS_ADC_TRIG_DOM k) 1) wCht)

/-- Converter 2 waits for a shaft trigger at every bin 256 n of domain A, whose angle has come to bin 256 at time 800. -/
def wShaftTrig : State :=
  (((((((wMeas.set (F.MEAS_ADC_CTL_TRIG 2) 2).set (F.MEAS_ADC_TRIG_ARG 2) 256).set (F.WHEEL_SH_CFG_SRC 0) 1).set (F.WHEEL_SH_EDGES_E 0) 1000).set
    (F.WHEEL_SH_STALL_US 0) 10000).set (F.WHEEL_SH_SSI_PERIOD 0) 100).set (F.WHEEL_SH_SSI_POS_BITS 0) 24 |>.set (F.WHEEL_SH_SSI_WORD_BITS 0) 24).setTracker 0
    { valid := true, n := 62, theta := 1048576, base := 1048576, baseT := 800, jump := some (1048575, 800), anchor := some 0, j := 1 }

/-- Both PLLs are locked with the nominal band table, A supplies and B stands by, in RUN on the PLL clocks. -/
def wClk : State :=
  let s := (List.range 16).foldl (fun (u : State) b => u.wr (R.CLK_BAND b) (nominalBand b)) wCht
  (((s.set (F.CLK_PLL_STAT_LOCKED 0) 1).set (F.CLK_PLL_STAT_LOCKED 1) 1).set F.CLK_CTL_STANDBY 1).set (F.CLK_PLL_STAT_STANDING_BY 1) 1

/-- SERVICE, entered from HOLD and held by the TAP; the drones run. -/
def wSvc : State :=
  let s := (((wMode M.service).set F.SEC_SVC_STAT_HOLDER 2).set F.SYS_MODE_CAUSE 0x40).set F.SEC_STAT_LIFECYCLE 2
  let s := [0, 1, 2, 3].foldl (fun (u : State) d => u.setEngine (132 + d) { on := true, pc := 0x40 }) s
  { s with modeCtl := { s.modeCtl with from_ := M.hold } }

/-- PROVISION while a record of operation `op` for slot 2 is applied. -/
def wProv (op : Nat) : State :=
  let s := (wMode M.provision).set F.SEC_PROV_STAT_BUSY 1
  { s with sec := { s.sec with prov := bytesBE 4 0x43365052 ++ [0, 1, 0x61, 0x28, op, 2] ++ List.replicate 142 0 ++ List.replicate 49 5 ++ List.replicate 207 0 } }

/-- Slot 1 holds a container with one member of 500 bytes for positions 0 and 3. -/
def wSlot (s : State) : State :=
  let e : List Nat := bytesBE 4 0x200 ++ bytesBE 4 500 ++ zeros 8
  let body := e ++ zeros 32 ++ e ++ zeros 192
  let head : List Nat := bytesBE 4 0x43364348 ++ [0, 1] ++ zeros 6
  let d := head ++ bytesBE 4 (crc32c (head ++ body)).toNat ++ body
  { s with flash := { s.flash with cf := (List.range d.length).map fun i => (0xE00000 + i, d.getD i 0) } }

/-- A device with CHAIN_SRC = UPSTREAM at position 3. -/
def wUp (s : State) : State :=
  let s := (s.set F.EMN_POS_VALID 1).set F.EMN_POS_POS 3
  { s with emn := { s.emn with upstream := true } }

/-- The head of a chain, in RUN, from slot 1. -/
def wHead : State :=
  let s := wSlot (((wMode M.run).set F.EMN_POS_VALID 1).set F.EMN_POS_HEAD 1)
  { s with emn := { s.emn with head := true }, cfg := { s.cfg with boot := { s.cfg.boot with slot := 1 } } }

/-- Tract 2 is released, and its cell (47, 0), the address cell of a RAM group, holds instruction `w` in word mode. -/
def wReed (w : Nat) : State :=
  let s := { wCht with clk := { wCht.clk with epoch := some 0 } }
  let s := (s.setCellCfg 0x20F (BitVec.ofNat 320 w)).freeTract 2
  s.setCell 0x20F { q0 := 0x8001, q1 := 0x7FF2, q2 := 3, c := true, ramwd := { cur := 0x55 } }

/-- The rim cell (x, y) runs and its lane A on side `d` turns from 0 to `v` at the edge that begins micro-step 20. -/
def wRimAt (s : State) (d x y : Nat) (v : BitVec 16) : State :=
  let s := { s with clk := { s.clk with epoch := some 0 } }
  let s := (s.setCellCfg (cellAt x y) (BitVec.ofNat 320 (2 ^ (314 - 2 * d)))).freeTract (cellAt x y / 256)
  s.setCell (cellAt x y) { out := [(2 * d, { cur := v, old := 0, at_ := 20 })] }

/-- Both Emnodric ports are linked, at position 1, in RUN on the PLL clocks. -/
def wEmn : State :=
  (((wCht.set (F.EMN_P_STAT_STATE 0) E.linked).set (F.EMN_P_STAT_STATE 1) E.linked).set F.EMN_POS_VALID 1).set F.EMN_POS_POS 1

/-- A data frame with its CRC. -/
def wFrame (b : List Nat) : List (BitVec 8) := (b ++ bytesBE 4 (crc32c b).toNat).map (BitVec.ofNat 8)

/-- Four linked ports in VLAN 5 with gPTP on, in RUN on the PLL clocks. -/
def wNet : State :=
  let s := [0, 1, 2, 3].foldl (fun (u : State) p => ((u.set (F.NET_E_CFG_EN p) 1).set (F.NET_E_STAT_LINK p) 1).set (F.NET_E_CFG_PTP p) 1) wCht
  let s := ((s.set (F.NET_VLAN_A_EN 0) 1).set (F.NET_VLAN_A_VID 0) 5).set (F.NET_VLAN_B_MEMBER 0) 15
  [0, 1, 2, 3].foldl (fun (u : State) p => u.set (F.NET_E_TCMAP_MAP p) 0xFAC688) ((s.set F.NET_SW_CFG_BE_MASK 15).set F.NET_SW_CFG_AGE_S 300)

/-- The same with a full learning table of addresses of VLAN 0. -/
def wFull : State :=
  { wNet with regs := wNet.regs.filter (fun r => decide (r.1 < 0x100D2000)) ++
      ((List.range 4096).flatMap (fun e => [(R.NET_FDB_A e, 1#32), (R.NET_FDB_B e, 1#32)]) ++
        wNet.regs.filter (fun r => decide (0x100DA000 ≤ r.1))) }

/-- Session 5 is open with role OPERATE and a window of 64, the request `q` at the head of its queue, in RUN. -/
def wIvw (q : IvwReq) : State :=
  let s := (((((wMode M.run).set F.IVW_CFG_EN 1).set F.IVW_CFG_CREDITS 64).set F.IVW_CFG_PORT 47043).set (F.IVW_S_STATE_OPEN 5) 1).set (F.IVW_S_STATE_ROLE 5) 2
  (s.set F.IVW_OPEN_COUNT 1).setSession 5 { role := 2, climit := 64, queue := [q] }

/-- A message header of a host: type, session, number, CSEQ, counter, body length. -/
def wHdr (type x txn cseq mctr len : Nat) : List Nat :=
  bytesBE 2 0x4957 ++ [1, type] ++ bytesBE 2 x ++ [0, 0] ++ bytesBE 4 txn ++ bytesBE 4 cseq ++ bytesBE 8 mctr ++ bytesBE 2 len ++ [0, 0]

end Sys2Proof.Machine

namespace Sys2Proof.Machine

/-! ## Ill-formed commands are refused -/

theorem test_wf_address : (Instr.registerWrite .tap (2 ^ 32) 4 0).wf = false := by decide +kernel
theorem test_wf_width : (Instr.spineMemoryRead .tap 0x23000000 2 0).wf = false := by decide +kernel
theorem test_wf_read : (Instr.rcRead .tap 0x10000000 1).wf = false := by decide +kernel
theorem test_wf_store : (Instr.spineMemoryWrite .ivwyn 0x23000000 16 0).wf = false := by decide +kernel
theorem test_wf_timeout : (Instr.spineTimeout .tap false (2 ^ 40) 4 0 false).wf = false := by decide +kernel
theorem test_wf_ssi_word : (Instr.ssiSample 0 0 (2 ^ 32)).wf = false := by decide +kernel
theorem test_wf_snap_sources : (Instr.snapTrigger 256 0).wf = false := by decide +kernel
theorem test_wf_watchdog_period : (Instr.wdEnable .tap 0 131072).wf = false := by decide +kernel
theorem test_wf_echo_sense : (Instr.echoReceive 0 0 []).wf = false := by decide +kernel
theorem test_wf_short_frame : (Instr.switchFrameRx 0 0 [] ⟨0, 0, none, 0, 63, true⟩).wf = false := by decide +kernel
theorem test_wf_announce : (Instr.ptpMessageRx 0 0 0 (.announce 256 0 0 0 0 0 0)).wf = false := by decide +kernel
theorem test_wf_echo_data : (Instr.icmpEchoRx 0 1473).wf = false := by decide +kernel
theorem test_wf_datagram : (Instr.ivwynDatagramRx 0 0 0 0 ⟨0, 0, 0⟩ (List.replicate 65508 0#8)).wf = false := by
  simp only [Instr.wf, List.length_replicate]; decide
theorem test_wf_upset_twice : (Instr.configUpset 0 [3, 3]).wf = false := by decide +kernel
theorem test_wf_bits_twice : (Instr.bitUpset 0 [7, 7]).wf = false := by decide +kernel
theorem test_wf_straps : (Instr.resetExit false false [0] []).wf = false := by decide +kernel
theorem test_wf_accepts : (Instr.registerWrite .tap 0x10000000 4 0).wf = true := by decide +kernel

/-! ## Worked examples of the spec -/

/-- The worked example of R111 (conversion while the shaft accelerates): frame 1,562,505, OFFSET 625. -/
theorem test_conversion_example :
    (convertShaft
      { en := true, rowProfile := 0, defLevel := 0, latTrim := 40, tempCoef := 64, tempRef := 40, tempSrc := 0, wearCoef := 32, compLim := 1280,
        lateTol := 0, angleTrim := 0, fireOfs := 0, relOfs := 0, envLen := 0, noteThresh := 0, statusMask := 0, env := [] }
      { now := 1000000000, angle := 0, rev := 0, speed := 65536, accel := 2097152, tk := 1000000000, span := 4096, reverse := false, stalled := false }
      0 4000 896 52428800) = some 1000003825 ∧ frameOf 1000003825 = (1562505, 625) := by decide +kernel

/-- The worked example of chapter 6: 12,000 with FG 33,096, FO -21, UG -328 and UO 40 gives 12,078, which is INSIDE [9,600, 16,000). -/
theorem test_calibration_example :
    ((State.reset.wr (R.MEAS_FCAL 4) 0x8148FFEB#32).wr (R.MEAS_UCAL 4) 0xFEB80028#32).calibrate 4 12000 = (12078, false) ∧
      windowState 9600 16000 12078 = W.inside ∧ windowState 9600 16000 4010 = W.below := by decide +kernel

/-- The worked example of chapter 15: data bit 27 alone is row 3, column 3; bits 27 and 45 together are uncorrectable. -/
theorem test_double_upset_example :
    gridClassify (gridEncode 0x0123456789ABCDEF#64 ^^^ BitVec.ofNat 80 (2 ^ 27)) = .dataBit 3 3 ∧
      gridClassify (gridEncode 0x0123456789ABCDEF#64 ^^^ BitVec.ofNat 80 (2 ^ 27 + 2 ^ 45)) = .uncorrectable := by decide +kernel

/-- RFC 3720: CRC-32C of 32 bytes of zeros is 0x8A91_36AA (R189 names that CRC). -/
theorem test_crc32c : crc32c (zeros 32) = 0x8A9136AA#32 := by decide +kernel

/-- Engine 5 with the figures and the machine words of the worked example of chapter 4, at `pc` with status `st`. -/
def testFirstOrder (pc : Nat) (st : Word) : State :=
  let s := ((wEng.memWrite 0x40028200 0x2C00000C0644D001).memWrite 0x40028208 0x0800480007090000).memWrite 0x40028210 0x000000000910C000
  s.setEngine 5 { s.engine 5 with regs := [(1, 4000), (2, 65536), (3, 65792)], pc := BitVec.ofNat 32 pc, st := st }

/-- What a command leaves, where it answers a next state. -/
def testAfter (o : Out) (f : State → Bool) : Bool := match o with | .next t => f t | _ => false

/-- CMPI P1, G3, 1, LT: P1 = 0, since 65,792 is not less than 1; the next word is at 0x0204. -/
theorem test_cmpi_example :
    testAfter (exec (.cmpi 5 ⟨0, 1, 3, 0x1001⟩) (testFirstOrder 0x200 2)) (fun t => !(t.engine 5).st.getLsbD 1 && (t.engine 5).pc == 0x204) = true := by
  decide +kernel

/-- MOVI G2, 65,536. -/
theorem test_movi_example : testAfter (exec (.movi 5 ⟨0, 2, 0x10000⟩) ((testFirstOrder 0x208 0).setGr 5 2 7)) (fun t => t.gr 5 2 == 65536) = true := by
  decide +kernel

/-- AMUL A0, G1, G2: A0 = 262,144,000. -/
theorem test_amul_example : testAfter (exec (.amul 5 ⟨0, 0, 1, 2, 0⟩) (testFirstOrder 0x20C 0)) (fun t => t.accu 5 0 == 262144000) = true := by decide +kernel

/-- ADIV G4, A0, G3: G4 = 3,984. -/
theorem test_adiv_example : testAfter (exec (.adiv 5 ⟨0, 4, 3, 0, 0⟩) ((testFirstOrder 0x210 0).setAccu 5 0 262144000)) (fun t => t.gr 5 4 == 3984) = true := by
  decide +kernel

/-- BR.P1 is not taken with P1 = 0, and is taken to 0x0234 with P1 = 1. -/
theorem test_br_example :
    testAfter (exec (.br 5 ⟨2, 12⟩) (testFirstOrder 0x204 1)) (fun t => (t.engine 5).pc == 0x208) = true ∧
      testAfter (exec (.br 5 ⟨2, 12⟩) (testFirstOrder 0x204 3)) (fun t => (t.engine 5).pc == 0x234) = true := by
  decide +kernel

/-- SPEED of the worked example of chapter 2: 8,192 units in 16,384 cycles is 32,768, in 17,408 cycles 30,840. -/
theorem test_speed_example : (8192 * 65536 : Int).tdiv 16384 = 32768 ∧ (8192 * 65536 : Int).tdiv 17408 = 30840 := by decide +kernel

/-- The queue: a PING waits behind an IDENT, and a step takes the IDENT. -/
theorem test_queue_order :
    testAfter (step (State.reset.withPending [.ivwynIdent 0, .ivwynPing 0])) (fun t => t.pending == [.ivwynPing 0]) = true := by decide +kernel

/-- Register canonical form: a register that takes its reset value again is not listed. -/
theorem test_canonical : ((State.reset.wr R.NET_IP_ADDR 5#32).wr R.NET_IP_ADDR 0#32).regs = State.reset.regs := by decide +kernel

end Sys2Proof.Machine

/-! ## The hypotheses of the obligations are met -/

open Sys2Proof Sys2Proof.Machine

/-- The hypotheses of ModeRequests are met. -/
theorem wit_ModeRequests :
    (∃ (ini : Initiator) (s : State), s.sends ini true R.SYS_MODE_CTL = true ∧ s.leaving = false ∧ s.mode = M.init ∧ (∀ i : Nat, i < 7 → s.bitAt R.SYS_HOLD_CAUSES i = false)) ∧
    (∃ (i : Nat) (ini : Initiator) (s : State), s.sends ini true R.SYS_MODE_CTL = true ∧ s.leaving = false ∧ s.mode = M.init ∧ i < 7 ∧ s.bitAt R.SYS_HOLD_CAUSES i = true ∧ (∀ j < i, s.bitAt R.SYS_HOLD_CAUSES j = false)) ∧
    (∃ (ini : Initiator) (s : State), s.sends ini true R.SYS_MODE_CTL = true ∧ s.leaving = false ∧ s.mode = M.hold ∧ s.rdN R.SYS_HOLD_CAUSES / 2 = 0) ∧
    (∃ (ini : Initiator) (s : State), s.sends ini true R.SYS_MODE_CTL = true ∧ s.leaving = false ∧ s.mode = M.hold ∧ s.rdN R.SYS_HOLD_CAUSES / 2 ≠ 0) ∧
    (∃ (ini : Initiator) (s : State), s.sends ini true R.SYS_MODE_CTL = true ∧ s.leaving = true ∧ s.mode = M.hold) ∧
    (∃ (ini : Initiator) (s : State), s.sends ini true R.SYS_MODE_CTL = true ∧ s.mode ≠ M.hold ∧ (s.leaving = true ∨ s.mode ≠ M.init)) ∧
    (∃ (ini : Initiator) (s : State), s.sends ini true R.SYS_MODE_CTL = true ∧ s.leaving = false ∧ s.mode = M.armed) ∧
    (∃ (ini : Initiator) (s : State), s.sends ini true R.SYS_MODE_CTL = true ∧ (s.leaving = true ∨ s.mode ≠ M.armed)) ∧
    (∃ (ini : Initiator) (s : State), s.sends ini true R.SYS_MODE_CTL = true ∧ s.leaving = false ∧ (s.mode = M.armed ∨ s.mode = M.run ∨ s.mode = M.runSpared)) ∧
    (∃ (ini : Initiator) (s : State), s.sends ini true R.SYS_MODE_CTL = true ∧ (s.leaving = true ∨ (s.mode ≠ M.armed ∧ s.mode ≠ M.run ∧ s.mode ≠ M.runSpared))) ∧
    (∃ (ini : Initiator) (s : State), s.sends ini true R.SYS_MODE_CTL = true ∧ s.leaving = false ∧ (s.mode = M.init ∨ s.mode = M.armed ∨ s.mode = M.hold ∨ s.mode = M.service) ∧ s.sendingLanes = []) ∧
    (∃ (ini : Initiator) (s : State), s.sends ini true R.SYS_MODE_CTL = true ∧ s.leaving = false ∧ (s.mode = M.init ∨ s.mode = M.armed ∨ s.mode = M.hold ∨ s.mode = M.service) ∧ s.sendingLanes ≠ []) ∧
    (∃ (ini : Initiator) (s : State), s.sends ini true R.SYS_MODE_CTL = true ∧ (s.leaving = true ∨ (s.mode ≠ M.init ∧ s.mode ≠ M.armed ∧ s.mode ≠ M.hold ∧ s.mode ≠ M.service))) ∧
    (∃ (ini : Initiator) (v : BitVec 64) (s : State), s.sends ini true R.SYS_MODE_CTL = true ∧ v.toNat % 16 ∉ [5, 6, 8] ∧ (v.toNat % 16 = 15 → v.toNat / 256 % 256 ≠ 0xA5)) ∧
    (∃ (f k : Nat) (s : State), s.modeCtl.arm = some k ∧ k ≤ f ∧ s.mode = M.armed ∧ s.leaving = false) ∧
    (∃ (f : Nat) (s : State), (s.modeCtl.arm.all (fun k => decide (f < k)) = true ∨ s.mode ≠ M.armed ∨ s.leaving = true)) :=
  ⟨⟨(.tap), wMode M.init, by decide +kernel⟩,
   ⟨(3), (.ivwyn), (wMode M.init).wr R.SYS_HOLD_CAUSES 0x48#32, by decide +kernel⟩,
   ⟨(.ivwyn), (wMode M.hold).setBitAt R.SYS_HOLD_CAUSES 0, by decide +kernel⟩,
   ⟨(.ivwyn), (wMode M.hold).setBitAt R.SYS_HOLD_CAUSES 3, by decide +kernel⟩,
   ⟨(.tap), { (wMode M.hold).wr R.SYS_HOLD_CAUSES 0x41#32 with modeCtl := { restart := true, burst := some 3, cause := 3 } }, by decide +kernel⟩,
   ⟨(.ivwyn), wMode M.run, by decide +kernel⟩,
   ⟨(.drone 2), (wMode M.armed).setEngine 134 { on := true }, by decide +kernel⟩,
   ⟨(.ivwyn), wMode M.hold, by decide +kernel⟩,
   ⟨(.tap), wMode M.runSpared, by decide +kernel⟩,
   ⟨(.ivwyn), wMode M.init, by decide +kernel⟩,
   ⟨(.tap), wMode M.hold, by decide +kernel⟩,
   ⟨(.tap), (wMode M.hold).setLaneState 7 L.sending, by decide +kernel⟩,
   ⟨(.ivwyn), wMode M.run, by decide +kernel⟩,
   ⟨(.tap), (0xA30F), wMode M.hold, by decide +kernel⟩,
   ⟨(7), (7), { wMode M.armed with modeCtl := { arm := some 7 } }, by decide +kernel⟩,
   ⟨(6), { wMode M.armed with modeCtl := { arm := some 7 } }, by decide +kernel⟩⟩

/-- The hypotheses of ResetEntryAndExit are met. -/
theorem wit_ResetEntryAndExit :
    (∃ (s : State), s.modeCtl.burst.isSome = true ∧ s.modeCtl.toQuarantine = true) ∧
    (∃ (s : State), s.modeCtl.burst.isSome = true ∧ s.modeCtl.toQuarantine = false) ∧
    (∃ (s : State), s.modeCtl.burst = none) ∧
    (∃ (ns : Nat) (s : State), 1000 ≤ ns) ∧
    (∃ (ns : Nat) (s : State), ns < 100) ∧
    (∃ (ns : Nat) (s : State), 100 ≤ ns ∧ ns < 1000) ∧
    (∃ (chainUp : Bool) (pullUp : Bool) (banks : List (Fin 3)) (unc : List (Fin 2048)) (s : State), s.mode = M.reset ∧ s.supply.rails = true ∧ ((s.startRef.startLock 0).startLock 1).locked 0 = true ∧ ((s.startRef.startLock 0).startLock 1).locked 1 = true) ∧
    (∃ (chainUp : Bool) (pullUp : Bool) (banks : List (Fin 3)) (unc : List (Fin 2048)) (s : State), s.mode = M.reset ∧ s.supply.rails = true ∧ (((s.startRef.startLock 0).startLock 1).locked 0 = false ∨ ((s.startRef.startLock 0).startLock 1).locked 1 = false)) ∧
    (∃ (chainUp : Bool) (pullUp : Bool) (banks : List (Fin 3)) (unc : List (Fin 2048)) (s : State), (s.mode ≠ M.reset ∨ s.supply.rails = false)) :=
  ⟨⟨{ wMode M.run with modeCtl := { burst := some 3, toQuarantine := true, cause := 0x42 } }, by decide +kernel⟩,
   ⟨{ wMode M.hold with modeCtl := { burst := some 3, restart := true, cause := 3 } }, by decide +kernel⟩,
   ⟨wMode M.run, by decide +kernel⟩,
   ⟨(1000), wMode M.run, by decide +kernel⟩,
   ⟨(99), wMode M.run, by decide +kernel⟩,
   ⟨(500), wMode M.run, by decide +kernel⟩,
   ⟨(true), (false), ([2, 1, 0, 2, 2, 2, 2, 2]), ([]), ((((wMode M.reset).set F.CLK_REF_CFG_SRC 1).setSupply { rails := true }).set (F.CLK_PLL_STAT_LOCKED 0) 1).set (F.CLK_PLL_STAT_LOCKED 1) 1, by decide +kernel⟩,
   ⟨(true), (false), ([]), ([]), let s := (List.range 16).foldl (fun u b => u.wr (R.CLK_BAND b) 0) (((wMode M.reset).setSupply { rails := true }).wr (R.CLK_PLL_STAT 0) 0#32); { s with clk := {} }, by decide +kernel⟩,
   ⟨(true), (false), ([]), ([]), wMode M.run, by decide +kernel⟩⟩

/-- The hypothesis of StepWithoutACommand is met. -/
theorem wit_StepWithoutACommand : ∃ s : State, s.pending = [] ∧ (s.get F.CHT_INFO_PROGRAM ≠ 1 ∨ (List.range 132).all (fun n => !s.tickOne.stdReady n) = true) ∧ (s.ivw.txq = [] ∨ s.domOn 18 = false) :=
  ⟨State.reset, by decide +kernel, by decide +kernel, by decide +kernel⟩

/-- The hypotheses of RegisterWrites are met. -/
theorem wit_RegisterWrites :
    (∃ (d : RegDesc) (i j : Nat) (ini : Initiator) (a : Nat) (v : BitVec 64) (s : State), s.sends ini true a = true ∧ regRow? a = some (d, i, j) ∧ a % 4 = 0 ∧ s.domOn ((addrDomain a).getD 0) = true ∧ rowActs ((a - 0x10000000) / 0x10000) d.off = false) ∧
    (∃ (d : RegDesc) (i j : Nat) (ini : Initiator) (a : Nat) (v : BitVec 64) (s : State), s.sends ini true a = true ∧ regRow? a = some (d, i, j) ∧ a % 4 = 0 ∧ s.domOn ((addrDomain a).getD 0) = true) ∧
    (∃ (ini : Initiator) (a : Nat) (w : Nat) (v : BitVec 64) (s : State), (ini = .tap ∨ ini = .ivwyn) ∧ spineDecodes a = true ∧ spineKind a = 0 ∧ s.domOn ((addrDomain a).getD 0) = true ∧ (w ≠ 4 ∨ a % 4 ≠ 0)) ∧
    (∃ (ini : Initiator) (a : Nat) (w : Nat) (v : BitVec 64) (s : State), (ini = .tap ∨ ini = .ivwyn) ∧ spineDecodes a = false) ∧
    (∃ (ini : Initiator) (a : Nat) (v : BitVec 64) (s : State), s.sends ini true a = true ∧ spineDecodes a = false) ∧
    (∃ (ini : Initiator) (a : Nat) (v : BitVec 64) (s : State), s.sends ini true a = true ∧ spineDecodes a = true ∧ s.domOn ((addrDomain a).getD 0) = false ∧ s.bit (F.PWR_D_CTL_WOA ((addrDomain a).getD 0)) = false) ∧
    (∃ (ini : Initiator) (a : Nat) (v : BitVec 64) (s : State), s.sends ini true a = true ∧ spineDecodes a = true ∧ s.domOn ((addrDomain a).getD 0) = false ∧ s.bit (F.PWR_D_CTL_WOA ((addrDomain a).getD 0)) = true ∧ (s.stalls.any (fun e => e.by_ == .access ini true a 4 v 0) = false)) ∧
    (∃ (k : Fin 4) (a w : Nat) (v : BitVec 64) (s : State), s.droneRuns k.val = false) ∧
    (∃ (k : Fin 4) (x a w : Nat) (v : BitVec 64) (s : State), s.droneRuns k.val = true ∧ accessOf (132 + k.val) a w true = .raise_ x) ∧
    (∃ (a w : Nat) (v : BitVec 64) (s : State), fabricReach true a = false) :=
  ⟨⟨((regRow? R.ECC_SCRUB_FILL_HI).get (by decide +kernel)).1, 0, 0, (.tap), (R.ECC_SCRUB_FILL_HI), (0x12345678), State.reset, by decide +kernel⟩,
   ⟨((regRow? R.SYS_MODE_CTL).get (by decide +kernel)).1, 0, 0, (.tap), (R.SYS_MODE_CTL), (0xA50F), wMode M.init, by decide +kernel⟩,
   ⟨(.ivwyn), (R.WHEEL_POOL_MIN), (8), (3), State.reset, by decide +kernel⟩,
   ⟨(.tap), (0x15000000), (4), (3), State.reset, by decide +kernel⟩,
   ⟨(.drone 2), (0x10000FF0), (3), (wMode M.init).setEngine 134 { on := true }, by decide +kernel⟩,
   ⟨(.ivwyn), (R.NET_IP_MASK), (3), wDom 18 P.off {}, by decide +kernel⟩,
   ⟨(.ivwyn), (R.NET_IP_MASK), (3), (wDom 18 P.off {}).set (F.PWR_D_CTL_WOA 18) 1, by decide +kernel⟩,
   ⟨(1), (R.SYS_MODE_CTL), (4), (5), wMode M.init, by decide +kernel⟩,
   ⟨(1), (3), (R.SYS_IDCODE), (8), (5), (wMode M.init).setEngine 133 { on := true }, by decide +kernel⟩,
   ⟨(R.SYS_MODE_CTL), (4), (5), wMode M.init, by decide +kernel⟩⟩

/-- The hypotheses of RegisterReads are met. -/
theorem wit_RegisterReads :
    (∃ (d : RegDesc) (i j : Nat) (ini : Initiator) (a : Nat) (s : State), s.sends ini false a = true ∧ regRow? a = some (d, i, j) ∧ a % 4 = 0 ∧ s.domOn ((addrDomain a).getD 0) = true ∧ rowShows ((a - 0x10000000) / 0x10000) d.off = false) ∧
    (∃ (d : RegDesc) (i j : Nat) (ini : Initiator) (a : Nat) (s : State), s.sends ini false a = true ∧ regRow? a = some (d, i, j) ∧ a % 4 = 0 ∧ s.domOn ((addrDomain a).getD 0) = true) ∧
    (∃ (ini : Initiator) (a : Nat) (w : Nat) (s : State), (ini = .tap ∨ ini = .ivwyn) ∧ spineDecodes a = true ∧ spineKind a = 0 ∧ s.domOn ((addrDomain a).getD 0) = true ∧ (w ≠ 4 ∨ a % 4 ≠ 0)) ∧
    (∃ (ini : Initiator) (a : Nat) (s : State), s.sends ini false a = true ∧ spineDecodes a = false) ∧
    (∃ (ini : Initiator) (a : Nat) (s : State), s.sends ini false a = true ∧ spineDecodes a = true ∧ s.domOn ((addrDomain a).getD 0) = false ∧ s.bit (F.PWR_D_CTL_WOA ((addrDomain a).getD 0)) = false) ∧
    (∃ (ini : Initiator) (a : Nat) (s : State), s.sends ini false a = true ∧ spineDecodes a = true ∧ s.domOn ((addrDomain a).getD 0) = false ∧ s.bit (F.PWR_D_CTL_WOA ((addrDomain a).getD 0)) = true ∧ (s.stalls.any (fun e => e.by_ == .access ini false a 4 0 0) = false)) ∧
    (∃ (ini : Initiator) (a : Nat) (s : State), s.sends ini false a = true ∧ spineDecodes a = true ∧ (addrDomain a = some 18 ∨ addrDomain a = some 19) ∧ s.pwrState ((addrDomain a).getD 0) = P.off ∧ (s.pwrDom ((addrDomain a).getD 0)).retry = false ∧ s.bit (F.PWR_D_CTL_WOA ((addrDomain a).getD 0)) = true ∧ (s.stalls.any (fun e => e.by_ == .access ini false a 4 0 0) = false)) ∧
    (∃ (k : Fin 4) (a w : Nat) (s : State), s.droneRuns k.val = false) ∧
    (∃ (k : Fin 4) (x a w : Nat) (s : State), s.droneRuns k.val = true ∧ accessOf (132 + k.val) a w false = .raise_ x) ∧
    (∃ (a w : Nat) (s : State), fabricReach false a = false) ∧
    (∃ (ini : Initiator) (s : State), s.sends ini false R.WHEEL_TIME_LO = true) :=
  ⟨⟨((regRow? R.IRQ_BERR_COUNT).get (by decide +kernel)).1, 0, 0, (.tap), (R.IRQ_BERR_COUNT), (wMode M.run).wr R.IRQ_BERR_COUNT 77, by decide +kernel⟩,
   ⟨((regRow? R.WHEEL_NOTIFY_B).get (by decide +kernel)).1, 0, 0, (.tap), (R.WHEEL_NOTIFY_B), wMode M.run, by decide +kernel⟩,
   ⟨(.ivwyn), (R.WHEEL_POOL_MIN), (8), State.reset, by decide +kernel⟩,
   ⟨(.drone 2), (0x10000FF0), (wMode M.init).setEngine 134 { on := true }, by decide +kernel⟩,
   ⟨(.ivwyn), (R.NET_IP_MASK), wDom 18 P.off {}, by decide +kernel⟩,
   ⟨(.ivwyn), (R.NET_IP_MASK), (wDom 18 P.off {}).set (F.PWR_D_CTL_WOA 18) 1, by decide +kernel⟩,
   ⟨(.ivwyn), (R.NET_IP_MASK), (wDom 18 P.off {}).set (F.PWR_D_CTL_WOA 18) 1, by decide +kernel⟩,
   ⟨(1), (R.SYS_MODE_CTL), (4), wMode M.init, by decide +kernel⟩,
   ⟨(1), (3), (R.SYS_IDCODE), (8), (wMode M.init).setEngine 133 { on := true }, by decide +kernel⟩,
   ⟨(R.SYS_MODE_CTL), (4), wMode M.init, by decide +kernel⟩,
   ⟨(.tap), { wMode M.run with now := 0x123456789A }, by decide +kernel⟩⟩

/-- The hypotheses of GridMemoryAccess are met. -/
theorem wit_GridMemoryAccess :
    (∃ (ini : Initiator) (a : Nat) (v : BitVec 64) (m : List Nat) (s : State), ((match ini with | .drone d => s.droneRuns d.val && decide (accessOf (132 + d.val) a 8 true = .spine) | .fabric => fabricReach true a | _ => true) = true) ∧ (spineKind a = 1 ∧ spineDecodes a = true ∧ s.domOn ((addrDomain a).getD 0) = true) ∧ a % 8 = 0 ∧ (¬ (a < 0x22000000 ∧ s.drainState ≠ 0)) ∧ (if a < 0x40000000 then True else if a < 0x41000000 then 0x4000 ≤ a % 0x8000 ∨ s.get (F.CHT_C_STAT_STATE ((a - 0x40000000) / 0x8000)) = 1 ∨ s.get (F.CHT_C_STAT_STATE ((a - 0x40000000) / 0x8000)) = 3 else 0x10000 ≤ a % 0x20000 ∨ (s.drone ((a - 0x41000000) / 0x20000)).halted = true) ∧ m = (match s.mirrorOf a with | some b => [b] | none => [])) ∧
    (∃ (a from_ to_ : Nat) (x : Claim) (s : State), s.claims = [x] ∧ ((from_, to_) = (if x.kind = .retire ∨ x.kind = .loan then (x.chanter, 128 + x.chanter / 32) else (128 + x.chanter / 32, x.chanter)))) ∧
    (∃ (ini : Initiator) (a : Nat) (v : BitVec 64) (s : State), ((match ini with | .drone d => s.droneRuns d.val && decide (accessOf (132 + d.val) a 8 true = .spine) | .fabric => fabricReach true a | _ => true) = true) ∧ (spineKind a = 1 ∧ spineDecodes a = true ∧ s.domOn ((addrDomain a).getD 0) = true) ∧ a % 8 = 0 ∧ (a < 0x22000000 ∧ s.drainState ≠ 0)) ∧
    (∃ (ini : Initiator) (a : Nat) (w : Nat) (v : BitVec 64) (s : State), ((match ini with | .drone d => s.droneRuns d.val && decide (accessOf (132 + d.val) a w true = .spine) | .fabric => fabricReach true a | _ => true) = true) ∧ (spineKind a = 1 ∧ spineDecodes a = true ∧ s.domOn ((addrDomain a).getD 0) = true) ∧ (w ≠ 8 ∨ a % 8 ≠ 0 ∨ ¬ (if a < 0x40000000 then True else if a < 0x41000000 then 0x4000 ≤ a % 0x8000 ∨ s.get (F.CHT_C_STAT_STATE ((a - 0x40000000) / 0x8000)) = 1 ∨ s.get (F.CHT_C_STAT_STATE ((a - 0x40000000) / 0x8000)) = 3 else 0x10000 ≤ a % 0x20000 ∨ (s.drone ((a - 0x41000000) / 0x20000)).halted = true))) ∧
    (∃ (ini : Initiator) (a : Nat) (w : Nat) (v : BitVec 64) (s : State), ((match ini with | .drone d => s.droneRuns d.val && decide (accessOf (132 + d.val) a w true = .spine) | .fabric => fabricReach true a | _ => true) = true) ∧ (spineKind a = 2 ∧ spineDecodes a = true ∧ s.domOn ((addrDomain a).getD 0) = true)) ∧
    (∃ (ini : Initiator) (a : Nat) (w bad : Nat) (s : State), ((match ini with | .drone d => s.droneRuns d.val && decide (accessOf (132 + d.val) a w false = .spine) | .fabric => fabricReach false a | _ => true) = true) ∧ (spineKind a = 1 ∧ spineDecodes a = true ∧ s.domOn ((addrDomain a).getD 0) = true) ∧ ((w = 4 ∨ w = 8) ∧ a % w = 0) ∧ gridClassify (s.memWord a) = .clean) ∧
    (∃ (ini : Initiator) (a : Nat) (w bad kd i j : Nat) (s : State), ((match ini with | .drone d => s.droneRuns d.val && decide (accessOf (132 + d.val) a w false = .spine) | .fabric => fabricReach false a | _ => true) = true) ∧ (spineKind a = 1 ∧ spineDecodes a = true ∧ s.domOn ((addrDomain a).getD 0) = true) ∧ ((w = 4 ∨ w = 8) ∧ a % w = 0) ∧ (kd < 3 ∧ (kd = 1 → j = 0) ∧ (kd = 2 → i = 0)) ∧ gridClassify (s.memWord a) = (if kd = 0 then .dataBit i j else if kd = 1 then .rowBit i else .colBit j)) ∧
    (∃ (ini : Initiator) (a : Nat) (w bad : Nat) (s : State), ((match ini with | .drone d => s.droneRuns d.val && decide (accessOf (132 + d.val) a w false = .spine) | .fabric => fabricReach false a | _ => true) = true) ∧ (spineKind a = 1 ∧ spineDecodes a = true ∧ s.domOn ((addrDomain a).getD 0) = true) ∧ ((w = 4 ∨ w = 8) ∧ a % w = 0) ∧ gridClassify (s.memWord a) = .uncorrectable) ∧
    (∃ (ini : Initiator) (a : Nat) (w bad : Nat) (s : State), ((match ini with | .drone d => s.droneRuns d.val && decide (accessOf (132 + d.val) a w false = .spine) | .fabric => fabricReach false a | _ => true) = true) ∧ ((spineKind a = 1 ∨ spineKind a = 2) ∧ spineDecodes a = true ∧ s.domOn ((addrDomain a).getD 0) = true) ∧ (¬ ((w = 4 ∨ w = 8) ∧ a % w = 0))) ∧
    (∃ (d : Fin 4) (a m : Nat) (w : Nat) (v : BitVec 64) (s : State), (s.droneRuns d.val = true ∧ a < 0x20000 ∧ a % w = 0) ∧ (w = 8 ∧ 0x10000 ≤ a) ∧ m = 0x41000000 + 0x20000 * d.val + a) ∧
    (∃ (d : Fin 4) (a m : Nat) (w bad : Nat) (kd i j : Nat) (s : State), (s.droneRuns d.val = true ∧ a < 0x20000 ∧ a % w = 0) ∧ (w = 4 ∨ w = 8) ∧ ((kd = 3 ∧ i = 0 ∨ kd < 3) ∧ (kd = 1 ∨ kd = 3 → j = 0) ∧ (kd = 2 → i = 0)) ∧ gridClassify (s.memWord (0x41000000 + 0x20000 * d.val + a)) = (if kd = 0 then .dataBit i j else if kd = 1 then .rowBit i else if kd = 2 then .colBit j else .clean) ∧ m = 0x41000000 + 0x20000 * d.val + a) ∧
    (∃ (d : Fin 4) (a m : Nat) (w bad : Nat) (u : State) (s : State), (s.droneRuns d.val = true ∧ a < 0x20000 ∧ a % w = 0) ∧ (w = 4 ∨ w = 8) ∧ gridClassify (s.memWord (0x41000000 + 0x20000 * d.val + a)) = .uncorrectable ∧ u = s.exception (132 + d.val) 5 ∧ m = 0x41000000 + 0x20000 * d.val + a) ∧
    (∃ (ini : Initiator) (a : Nat) (w bad : Nat) (s : State), ((match ini with | .drone d => s.droneRuns d.val && decide (accessOf (132 + d.val) a w false = .spine) | .fabric => fabricReach false a | _ => true) = true) ∧ (spineKind a = 2 ∧ spineDecodes a = true ∧ s.domOn ((addrDomain a).getD 0) = true) ∧ ((w = 4 ∨ w = 8) ∧ a % w = 0) ∧ a < 0x33000000 ∧ (a - 0x30000000) < 0x2FF0000 ∧ ¬ ((s.flash.ops.head?.any fun o => !o.susp) = true) ∧ (¬ (s.flash.ops.any (fun x => x.susp && (decide (x.op = 1 ∧ x.addr / 0x1000 = a / 0x1000) || decide (x.op = 2 ∧ x.addr / 0x10000 = a / 0x10000))) = true)) ∧ s.flash.damaged.contains ((a - 0x30000000) / 0x1000) = false ∧ bad ≤ 2) ∧
    (∃ (ini : Initiator) (a : Nat) (w bad : Nat) (s : State), ((match ini with | .drone d => s.droneRuns d.val && decide (accessOf (132 + d.val) a w false = .spine) | .fabric => fabricReach false a | _ => true) = true) ∧ (spineKind a = 2 ∧ spineDecodes a = true ∧ s.domOn ((addrDomain a).getD 0) = true) ∧ ((w = 4 ∨ w = 8) ∧ a % w = 0) ∧ a < 0x33000000 ∧ 0x2FF0000 ≤ (a - 0x30000000) ∧ ¬ ((s.flash.ops.head?.any fun o => !o.susp) = true) ∧ (¬ (s.flash.ops.any (fun x => x.susp && (decide (x.op = 1 ∧ x.addr / 0x1000 = a / 0x1000) || decide (x.op = 2 ∧ x.addr / 0x10000 = a / 0x10000))) = true)) ∧ s.flash.damaged.contains ((a - 0x30000000) / 0x1000) = false ∧ bad ≤ 2) ∧
    (∃ (ini : Initiator) (a : Nat) (w bad : Nat) (s : State), ((match ini with | .drone d => s.droneRuns d.val && decide (accessOf (132 + d.val) a w false = .spine) | .fabric => fabricReach false a | _ => true) = true) ∧ (spineKind a = 2 ∧ spineDecodes a = true ∧ s.domOn ((addrDomain a).getD 0) = true) ∧ ((w = 4 ∨ w = 8) ∧ a % w = 0) ∧ a < 0x33000000 ∧ ((s.flash.ops.head?.any fun o => !o.susp) = true)) ∧
    (∃ (ini : Initiator) (a : Nat) (w bad : Nat) (s : State), ((match ini with | .drone d => s.droneRuns d.val && decide (accessOf (132 + d.val) a w false = .spine) | .fabric => fabricReach false a | _ => true) = true) ∧ (spineKind a = 2 ∧ spineDecodes a = true ∧ s.domOn ((addrDomain a).getD 0) = true) ∧ ((w = 4 ∨ w = 8) ∧ a % w = 0) ∧ a < 0x33000000 ∧ ¬ ((s.flash.ops.head?.any fun o => !o.susp) = true) ∧ (s.flash.ops.any (fun x => x.susp && (decide (x.op = 1 ∧ x.addr / 0x1000 = a / 0x1000) || decide (x.op = 2 ∧ x.addr / 0x10000 = a / 0x10000))) = true)) ∧
    (∃ (ini : Initiator) (a : Nat) (w bad : Nat) (s : State), ((match ini with | .drone d => s.droneRuns d.val && decide (accessOf (132 + d.val) a w false = .spine) | .fabric => fabricReach false a | _ => true) = true) ∧ (spineKind a = 2 ∧ spineDecodes a = true ∧ s.domOn ((addrDomain a).getD 0) = true) ∧ ((w = 4 ∨ w = 8) ∧ a % w = 0) ∧ a < 0x33000000 ∧ ¬ ((s.flash.ops.head?.any fun o => !o.susp) = true) ∧ (¬ (s.flash.ops.any (fun x => x.susp && (decide (x.op = 1 ∧ x.addr / 0x1000 = a / 0x1000) || decide (x.op = 2 ∧ x.addr / 0x10000 = a / 0x10000))) = true)) ∧ s.flash.damaged.contains ((a - 0x30000000) / 0x1000) = false ∧ 2 < bad) ∧
    (∃ (ini : Initiator) (a : Nat) (w bad : Nat) (q : Nat) (s : State), ((match ini with | .drone d => s.droneRuns d.val && decide (accessOf (132 + d.val) a w false = .spine) | .fabric => fabricReach false a | _ => true) = true) ∧ (spineKind a = 2 ∧ spineDecodes a = true ∧ s.domOn ((addrDomain a).getD 0) = true) ∧ ((w = 4 ∨ w = 8) ∧ a % w = 0) ∧ a < 0x33000000 ∧ ¬ ((s.flash.ops.head?.any fun o => !o.susp) = true) ∧ (¬ (s.flash.ops.any (fun x => x.susp && (decide (x.op = 1 ∧ x.addr / 0x1000 = a / 0x1000) || decide (x.op = 2 ∧ x.addr / 0x10000 = a / 0x10000))) = true)) ∧ s.flash.damaged.contains ((a - 0x30000000) / 0x1000) = true ∧ q = (Config.freeValue s.free).toNat) ∧
    (∃ (ini : Initiator) (a : Nat) (w bad : Nat) (fast : Bool) (s : State), ((match ini with | .drone d => s.droneRuns d.val && decide (accessOf (132 + d.val) a w false = .spine) | .fabric => fabricReach false a | _ => true) = true) ∧ (spineKind a = 2 ∧ spineDecodes a = true ∧ s.domOn ((addrDomain a).getD 0) = true) ∧ ((w = 4 ∨ w = 8) ∧ a % w = 0) ∧ (0x33000000 ≤ a ∧ a < 0x34000000) ∧ s.flash.pfOp.isSome = false ∧ s.flash.pfBad.contains ((a - 0x33000000) / 16) = false ∧ bad ≤ 1 ∧ fast = decide (s.get F.FLASH_PF_WS_WS < (if s.bit F.CLK_CTL_CORE = true then 5 else 2))) ∧
    (∃ (ini : Initiator) (a : Nat) (w bad : Nat) (s : State), ((match ini with | .drone d => s.droneRuns d.val && decide (accessOf (132 + d.val) a w false = .spine) | .fabric => fabricReach false a | _ => true) = true) ∧ (spineKind a = 2 ∧ spineDecodes a = true ∧ s.domOn ((addrDomain a).getD 0) = true) ∧ ((w = 4 ∨ w = 8) ∧ a % w = 0) ∧ (0x33000000 ≤ a ∧ a < 0x34000000) ∧ s.flash.pfOp.isSome = true) ∧
    (∃ (ini : Initiator) (a : Nat) (w bad : Nat) (s : State), ((match ini with | .drone d => s.droneRuns d.val && decide (accessOf (132 + d.val) a w false = .spine) | .fabric => fabricReach false a | _ => true) = true) ∧ (spineKind a = 2 ∧ spineDecodes a = true ∧ s.domOn ((addrDomain a).getD 0) = true) ∧ ((w = 4 ∨ w = 8) ∧ a % w = 0) ∧ (0x33000000 ≤ a ∧ a < 0x34000000) ∧ s.flash.pfOp.isSome = false ∧ s.flash.pfBad.contains ((a - 0x33000000) / 16) = false ∧ 1 < bad) ∧
    (∃ (ini : Initiator) (a : Nat) (w bad : Nat) (q : Nat) (s : State), ((match ini with | .drone d => s.droneRuns d.val && decide (accessOf (132 + d.val) a w false = .spine) | .fabric => fabricReach false a | _ => true) = true) ∧ (spineKind a = 2 ∧ spineDecodes a = true ∧ s.domOn ((addrDomain a).getD 0) = true) ∧ ((w = 4 ∨ w = 8) ∧ a % w = 0) ∧ (0x33000000 ≤ a ∧ a < 0x34000000) ∧ s.flash.pfOp.isSome = false ∧ s.flash.pfBad.contains ((a - 0x33000000) / 16) = true ∧ q = (Config.freeValue s.free).toNat) ∧
    (∃ (ini : Initiator) (a : Nat) (w bad : Nat) (s : State), ((match ini with | .drone d => s.droneRuns d.val && decide (accessOf (132 + d.val) a w false = .spine) | .fabric => fabricReach false a | _ => true) = true) ∧ (spineKind a = 2 ∧ spineDecodes a = true ∧ s.domOn ((addrDomain a).getD 0) = true) ∧ ((w = 4 ∨ w = 8) ∧ a % w = 0) ∧ (0x34000000 ≤ a) ∧ (¬ (0x1180 ≤ (a - 0x34000000) ∧ (a - 0x34000000) < 0x1240)) ∧ s.flash.otpBad.contains ((a - 0x34000000) / 8) = false ∧ bad ≤ 1) ∧
    (∃ (ini : Initiator) (a : Nat) (w bad : Nat) (s : State), ((match ini with | .drone d => s.droneRuns d.val && decide (accessOf (132 + d.val) a w false = .spine) | .fabric => fabricReach false a | _ => true) = true) ∧ (spineKind a = 2 ∧ spineDecodes a = true ∧ s.domOn ((addrDomain a).getD 0) = true) ∧ ((w = 4 ∨ w = 8) ∧ a % w = 0) ∧ (0x34000000 ≤ a) ∧ ((0x1180 ≤ (a - 0x34000000) ∧ (a - 0x34000000) < 0x1240) ∨ 1 < bad ∧ s.flash.otpBad.contains ((a - 0x34000000) / 8) = false)) ∧
    (∃ (ini : Initiator) (a : Nat) (w bad : Nat) (q : Nat) (s : State), ((match ini with | .drone d => s.droneRuns d.val && decide (accessOf (132 + d.val) a w false = .spine) | .fabric => fabricReach false a | _ => true) = true) ∧ (spineKind a = 2 ∧ spineDecodes a = true ∧ s.domOn ((addrDomain a).getD 0) = true) ∧ ((w = 4 ∨ w = 8) ∧ a % w = 0) ∧ (0x34000000 ≤ a) ∧ (¬ (0x1180 ≤ (a - 0x34000000) ∧ (a - 0x34000000) < 0x1240)) ∧ s.flash.otpBad.contains ((a - 0x34000000) / 8) = true ∧ q = (Config.freeValue s.free).toNat) ∧
    (∃ (write landed : Bool) (a w : Nat) (v : BitVec 64) (ini : Initiator) (u s : State), (match ini with | .tap => true | .drone d => s.droneRuns d.val && decide (accessOf (132 + d.val) a w write = .spine) && (s.engine (132 + d.val)).posted.isEmpty && (match (s.engine (132 + d.val)).wait with | .load _ _ _ => false | _ => true) | _ => false) = true ∧ (u = (if landed = true ∧ spineDecodes a = true ∧ s.domOn ((addrDomain a).getD 0) = true then (s.spineReach ini none write a w v 0).1 else s))) ∧
    (∃ (landed dbl : Bool) (d : Fin 4) (a w : Nat) (rd : Fin 16) (v : BitVec 64) (write : Bool) (u s : State), write = false ∧ ((s.engine (132 + d.val)).wait = .load dbl rd.val a ∧ (s.engine (132 + d.val)).posted = []) ∧ (u = (if landed = true ∧ spineDecodes a = true ∧ s.domOn ((addrDomain a).getD 0) = true then (s.spineReach (.drone d) none write a (if dbl then 8 else 4) 0 0).1 else s))) ∧
    (∃ (landed : Bool) (d : Fin 4) (p : Posted) (q : List Posted) (a w : Nat) (v : BitVec 64) (write : Bool) (u s : State), write = true ∧ ((s.engine (132 + d.val)).posted = p :: q ∧ p.addr = a) ∧ (u = (if landed = true ∧ spineDecodes a = true ∧ s.domOn ((addrDomain a).getD 0) = true then (s.spineReach (.drone d) none write a (if p.double then 8 else 4) p.value 0).1 else s)) ∧ u.engine (132 + d.val) = s.engine (132 + d.val)) ∧
    (∃ (landed write : Bool) (a w : Nat) (v : BitVec 64) (u s : State), (s.fab.spm.busy = true ∧ s.fab.spm.direct = false ∧ s.fab.spm.addr = a ∧ s.fab.spm.write = write) ∧ (u = (if landed = true ∧ spineDecodes a = true ∧ s.domOn ((addrDomain a).getD 0) = true then (s.spineReach .fabric none write a 4 (s.fab.spm.data.zeroExtend 64) 0).1 else s)) ∧ u.fab.spm = s.fab.spm) ∧
    (∃ (landed write : Bool) (a w j : Nat) (v : BitVec 64) (x : Fin 256) (q : IvwReq) (r : BusReq) (u s : State), s.busWaits write a = some (x.val, q, r) ∧ ((s.session x.val).busIdx = j ∧ a = r.addr + r.w * j ∧ 0 < r.w) ∧ (u = (if landed = true ∧ spineDecodes a = true ∧ s.domOn ((addrDomain a).getD 0) = true then (s.spineReach .ivwyn (some x.val) write a r.w (BitVec.ofNat 64 (fieldBE r.words (r.w * j) r.w)) 0).1 else s)) ∧ u.sessions = s.sessions) ∧
    (∃ (write landed : Bool) (a w : Nat) (v : BitVec 64) (ini : Initiator) (s : State), (match ini with | .fabric => !(s.fab.spm.busy && !s.fab.spm.direct && decide (s.fab.spm.addr = a) && decide (s.fab.spm.write = write)) | .ivwyn => (s.busWaits write a).isNone | .drone d => !(s.droneRuns d.val) && (s.engine (132 + d.val)).posted.isEmpty && (match (s.engine (132 + d.val)).wait with | .load _ _ _ => false | _ => true) | .tap => false) = true) :=
  ⟨⟨.tap, 0x23000010, 0x0123456789ABCDEF, [], (wMode M.run), by decide +kernel, by decide +kernel, by decide +kernel, by decide +kernel, by decide +kernel, by decide +kernel⟩,
   ⟨0x40405C08, 128, 5, { chanter := 5, kind := .handback, at_ := 9, made := 8 }, let s := (wMode M.run); { s with claims := [{ chanter := 5, kind := .handback, at_ := 9, made := 8 }] }, by decide +kernel, by decide +kernel⟩,
   ⟨.tap, 0x20000010, 0x01234567, (wMode M.run), by decide +kernel, by decide +kernel, by decide +kernel, by decide +kernel⟩,
   ⟨.tap, 0x20000010, 4, 0x01234567, (wMode M.run), by decide +kernel, by decide +kernel, by decide +kernel⟩,
   ⟨.tap, 0x30000010, 8, 0x01234567, (wMode M.run), by decide +kernel, by decide +kernel⟩,
   ⟨.tap, 0x23000010, 8, 0, (wMode M.run).memWrite 0x23000010 0x0123456789ABCDEF, by decide +kernel, by decide +kernel, by decide +kernel, by decide +kernel⟩,
   ⟨.tap, 0x23000010, 8, 0, 0, 3, 5, (wMode M.run).setMemWord 0x23000010 (gridEncode 0x0123456789ABCDEF ^^^ BitVec.ofNat 80 (2 ^ 29)), by decide +kernel, by decide +kernel, by decide +kernel, by decide +kernel, by decide +kernel⟩,
   ⟨.tap, 0x23000010, 8, 0, (wMode M.run), by decide +kernel, by decide +kernel, by decide +kernel, by decide +kernel⟩,
   ⟨.tap, 0x23000010, 2, 0, (wMode M.run), by decide +kernel, by decide +kernel, by decide +kernel⟩,
   ⟨2, 0x10018, 0x41050018, 8, 0x0123456789ABCDEF, (wMode M.run).setEngine 134 { on := true }, by decide +kernel, by decide +kernel, by decide +kernel⟩,
   ⟨2, 0x1001C, 0x4105001C, 4, 0, 3, 0, 0, ((wMode M.run).memWrite 0x41050018 0x0123456789ABCDEF).setEngine 134 { on := true }, by decide +kernel, by decide +kernel, by decide +kernel, by decide +kernel, by decide +kernel⟩,
   ⟨2, 0x1001C, 0x4105001C, 4, 0, ((wMode M.run).setEngine 134 { on := true }).exception 134 5, (wMode M.run).setEngine 134 { on := true }, by decide +kernel, by decide +kernel, by decide +kernel, by decide +kernel, by decide +kernel⟩,
   ⟨.tap, 0x30000010, 8, 1, let s := (wMode M.run); { s with flash := { s.flash with cf := [(0x11, 7), (0x17, 9)] } }, by decide +kernel, by decide +kernel, by decide +kernel, by decide +kernel, by decide +kernel, by decide +kernel, by decide +kernel, by decide +kernel, by decide +kernel⟩,
   ⟨.tap, 0x32FF0020, 8, 1, (wMode M.run), by decide +kernel, by decide +kernel, by decide +kernel, by decide +kernel, by decide +kernel, by decide +kernel, by decide +kernel, by decide +kernel, by decide +kernel⟩,
   ⟨.tap, 0x30000010, 8, 0, let s := (wMode M.run); { s with flash := { s.flash with ops := [{ op := Fo.prog, addr := 0x30001000 }] } }, by decide +kernel, by decide +kernel, by decide +kernel, by decide +kernel, by decide +kernel⟩,
   ⟨.tap, 0x30000010, 8, 0, let s := (wMode M.run); { s with flash := { s.flash with ops := [{ op := Fo.erase, addr := 0x30001000, susp := true }] } }, by decide +kernel, by decide +kernel, by decide +kernel, by decide +kernel, by decide +kernel, by decide +kernel⟩,
   ⟨.tap, 0x30000010, 8, 3, (wMode M.run), by decide +kernel, by decide +kernel, by decide +kernel, by decide +kernel, by decide +kernel, by decide +kernel, by decide +kernel, by decide +kernel⟩,
   ⟨.tap, 0x30000010, 8, 3, (Config.freeValue 0).toNat, let s := (wMode M.run); { s with flash := { s.flash with damaged := [0] } }, by decide +kernel, by decide +kernel, by decide +kernel, by decide +kernel, by decide +kernel, by decide +kernel, by decide +kernel, rfl⟩,
   ⟨.tap, 0x33000018, 8, 1, false, let s := (wMode M.run); { s with flash := { s.flash with pf := [(1, some 0x00112233445566778899AABBCCDDEEFF#128)] } }, by decide +kernel, by decide +kernel, by decide +kernel, by decide +kernel, by decide +kernel, by decide +kernel, by decide +kernel, by decide +kernel⟩,
   ⟨.tap, 0x33000018, 8, 1, let s := (wMode M.run); { s with flash := { s.flash with pfOp := some { op := Fo.prog, addr := 0x33001000 } } }, by decide +kernel, by decide +kernel, by decide +kernel, by decide +kernel, by decide +kernel⟩,
   ⟨.tap, 0x33000018, 8, 2, (wMode M.run), by decide +kernel, by decide +kernel, by decide +kernel, by decide +kernel, by decide +kernel, by decide +kernel, by decide +kernel⟩,
   ⟨.tap, 0x33000018, 8, 2, (Config.freeValue 0).toNat, let s := (wMode M.run); { s with flash := { s.flash with pfBad := [1] } }, by decide +kernel, by decide +kernel, by decide +kernel, by decide +kernel, by decide +kernel, by decide +kernel, rfl⟩,
   ⟨.tap, 0x34000018, 8, 1, (wMode M.run), by decide +kernel, by decide +kernel, by decide +kernel, by decide +kernel, by decide +kernel, by decide +kernel, by decide +kernel⟩,
   ⟨.tap, 0x34001180, 8, 0, (wMode M.run), by decide +kernel, by decide +kernel, by decide +kernel, by decide +kernel, by decide +kernel⟩,
   ⟨.tap, 0x34000018, 8, 0, (Config.freeValue 0).toNat, let s := (wMode M.run); { s with flash := { s.flash with otpBad := [3] } }, by decide +kernel, by decide +kernel, by decide +kernel, by decide +kernel, by decide +kernel, by decide +kernel, rfl⟩,
   ⟨true, true, R.ECC_SCRUB_FILL_LO, 4, 99, .tap, (wMode M.run).wr R.ECC_SCRUB_FILL_LO 99, (wMode M.run), by decide +kernel, by decide +kernel⟩,
   ⟨true, false, 3, R.IRQ_BERR_COUNT, 4, 9, 0, false, (wEng.setEngine 135 { wEng.engine 135 with wait := .load false 9 R.IRQ_BERR_COUNT }), (wEng.setEngine 135 { wEng.engine 135 with wait := .load false 9 R.IRQ_BERR_COUNT }).wr R.IRQ_BERR_COUNT 55, by decide +kernel, by decide +kernel, by decide +kernel⟩,
   ⟨true, 3, ⟨R.ECC_SCRUB_FILL_LO, false, 99⟩, [], R.ECC_SCRUB_FILL_LO, 4, 99, true, (wEng.setEngine 135 { wEng.engine 135 with posted := [⟨R.ECC_SCRUB_FILL_LO, false, 99⟩], wait := .fence }).wr R.ECC_SCRUB_FILL_LO 99, wEng.setEngine 135 { wEng.engine 135 with posted := [⟨R.ECC_SCRUB_FILL_LO, false, 99⟩], wait := .fence }, by decide +kernel, by decide +kernel, by decide +kernel, by decide +kernel⟩,
   ⟨false, false, R.FAB_CAP_MISSED, 4, 0, (let s := (wMode M.run).wr R.FAB_CAP_MISSED 7#32; { s with fab := { s.fab with spm := { busy := true, addr := R.FAB_CAP_MISSED } } }), let s := (wMode M.run).wr R.FAB_CAP_MISSED 7#32; { s with fab := { s.fab with spm := { busy := true, addr := R.FAB_CAP_MISSED } } }, by decide +kernel, by decide +kernel, by decide +kernel⟩,
   ⟨true, false, R.NET_IP_MASK, 4, 0, 0, 5, ⟨0x10, 17, 0x0A000005, 4000, [], (bytesBE 4 R.NET_IP_MASK ++ [0, 2, 0, 0])⟩, ⟨false, 4, R.NET_IP_MASK, 2, []⟩, wIvw ⟨0x10, 17, 0x0A000005, 4000, [], (bytesBE 4 R.NET_IP_MASK ++ [0, 2, 0, 0])⟩, wIvw ⟨0x10, 17, 0x0A000005, 4000, [], (bytesBE 4 R.NET_IP_MASK ++ [0, 2, 0, 0])⟩, by decide +kernel, by decide +kernel, by decide +kernel, by decide +kernel⟩,
   ⟨false, true, R.NET_IP_MASK, 4, 0, .fabric, (wMode M.run), by decide +kernel⟩⟩

/-- The hypotheses of ShaftEdges are met. -/
theorem wit_ShaftEdges :
    (∃ (x : Fin 2) (t0 stood : Nat) (a0 b0 a1 b1 : Bool) (s : State), s.shSource x.val = 1 ∧ s.get (F.WHEEL_SH_CFG_FILT x.val) ≤ stood ∧ (s.tracker x.val).lost = false ∧ a0 ≠ a1 ∧ b0 ≠ b1) ∧
    (∃ (x : Fin 2) (t0 stood : Nat) (a0 b0 a1 b1 fwd : Bool) (s : State), s.shSource x.val = 1 ∧ s.get (F.WHEEL_SH_CFG_FILT x.val) ≤ stood ∧ (s.tracker x.val).lost = false ∧ (a0 = a1 ↔ b0 ≠ b1) ∧ (a0 = a1 → s.get (F.WHEEL_SH_CFG_QMODE x.val) = 0) ∧ (b0 = b1 → s.get (F.WHEEL_SH_CFG_QMODE x.val) = 2 → a1 = true) ∧ fwd = ((if a0 = a1 then a1 == b1 else a1 != b1) != s.bit (F.WHEEL_SH_CFG_DIR_INV x.val)) ∧ (s.tracker x.val).valid = true) ∧
    (∃ (x : Fin 2) (t0 stood h0 : Nat) (th0 v0 v : Int) (a0 b0 a1 b1 : Bool) (s : State), s.shSource x.val = 1 ∧ s.get (F.WHEEL_SH_CFG_FILT x.val) ≤ stood ∧ (s.tracker x.val).lost = false ∧ (a0 = a1 ↔ b0 ≠ b1) ∧ (a0 = a1 → s.get (F.WHEEL_SH_CFG_QMODE x.val) = 0) ∧ (b0 = b1 → s.get (F.WHEEL_SH_CFG_QMODE x.val) = 2 → a1 = true) ∧ (s.tracker x.val).valid = true ∧ 0 < min (s.tracker x.val).j (s.shWindow x.val) ∧ (s.tracker x.val).hist[min (s.tracker x.val).j (s.shWindow x.val) - 1]? = some (th0, h0, v0) ∧ h0 < t0 ∧ -2147483648 ≤ v ∧ v ≤ 2147483647) ∧
    (∃ (x : Fin 2) (t0 stood : Nat) (a0 b0 a1 b1 fwd : Bool) (s : State), s.shSource x.val = 1 ∧ s.get (F.WHEEL_SH_CFG_FILT x.val) ≤ stood ∧ (s.tracker x.val).lost = false ∧ (a0 = a1 ↔ b0 ≠ b1) ∧ (a0 = a1 → s.get (F.WHEEL_SH_CFG_QMODE x.val) = 0) ∧ (b0 = b1 → s.get (F.WHEEL_SH_CFG_QMODE x.val) = 2 → a1 = true) ∧ fwd = ((if a0 = a1 then a1 == b1 else a1 != b1) != s.bit (F.WHEEL_SH_CFG_DIR_INV x.val)) ∧ (s.tracker x.val).valid = false ∧ s.bit (F.WHEEL_SH_CFG_INDEX_REQ x.val) = true) ∧
    (∃ (x : Fin 2) (t0 stood : Nat) (a0 b0 a1 b1 fwd : Bool) (s : State), s.shSource x.val = 1 ∧ s.get (F.WHEEL_SH_CFG_FILT x.val) ≤ stood ∧ (s.tracker x.val).lost = false ∧ (a0 = a1 ↔ b0 ≠ b1) ∧ (a0 = a1 → s.get (F.WHEEL_SH_CFG_QMODE x.val) = 0) ∧ (b0 = b1 → s.get (F.WHEEL_SH_CFG_QMODE x.val) = 2 → a1 = true) ∧ fwd = ((if a0 = a1 then a1 == b1 else a1 != b1) != s.bit (F.WHEEL_SH_CFG_DIR_INV x.val)) ∧ (s.tracker x.val).valid = false ∧ s.bit (F.WHEEL_SH_CFG_INDEX_REQ x.val) = false) ∧
    (∃ (x : Fin 2) (t0 stood : Nat) (a0 b0 a1 b1 : Bool) (s : State), ((a0 = a1 ∧ b0 = b1) ∨ (a0 = a1 ∧ b0 ≠ b1 ∧ s.get (F.WHEEL_SH_CFG_QMODE x.val) ≠ 0) ∨ (a0 ≠ a1 ∧ b0 = b1 ∧ s.get (F.WHEEL_SH_CFG_QMODE x.val) = 2 ∧ a1 = false))) ∧
    (∃ (x : Fin 2) (t0 stood : Nat) (a0 b0 a1 b1 : Bool) (s : State), (s.shSource x.val ≠ 1 ∨ stood < s.get (F.WHEEL_SH_CFG_FILT x.val) ∨ (s.tracker x.val).lost = true)) ∧
    (∃ (x : Fin 2) (t0 : Nat) (s : State), s.shSource x.val = 1 ∧ (s.tracker x.val).reverse = false ∧ (s.tracker x.val).valid = true ∧ (s.tracker x.val).n ≠ 0) ∧
    (∃ (x : Fin 2) (t0 : Nat) (s : State), s.shSource x.val = 1 ∧ (s.tracker x.val).reverse = false ∧ (s.tracker x.val).valid = false ∧ s.bit (F.WHEEL_SH_CFG_INDEX_REQ x.val) = true) ∧
    (∃ (x : Fin 2) (t0 : Nat) (s : State), s.shSource x.val = 1 ∧ (s.tracker x.val).reverse = false ∧ (((s.tracker x.val).valid = true ∧ (s.tracker x.val).n = 0) ∨ ((s.tracker x.val).valid = false ∧ s.bit (F.WHEEL_SH_CFG_INDEX_REQ x.val) = false))) ∧
    (∃ (x : Fin 2) (t0 : Nat) (s : State), (s.shSource x.val ≠ 1 ∨ (s.tracker x.val).reverse = true)) ∧
    (∃ (x : Fin 2) (t0 : Nat) (s : State), s.shSource x.val ≠ 0 ∧ (s.tracker x.val).stalled = false ∧ ((s.tracker x.val).anchor.any (fun a => a + s.get (F.WHEEL_SH_STALL_US x.val) * 400 ≤ t0) = true)) ∧
    (∃ (x : Fin 2) (t0 : Nat) (s : State), (s.shSource x.val = 0 ∨ (s.tracker x.val).stalled = true ∨ (s.tracker x.val).anchor.all (fun a => t0 < a + s.get (F.WHEEL_SH_STALL_US x.val) * 400) = true)) :=
  ⟨⟨(1), (1000), (9), (false), (true), (true), (false), wQuad, by decide +kernel⟩,
   ⟨(0), (1000), (9), (false), (false), (true), (false), (true), wQuad, by decide +kernel⟩,
   ⟨(0), (1000), (9), (0), (83886), (0), (1100000), (false), (false), (true), (false), wQuad, by decide +kernel⟩,
   ⟨(1), (1000), (9), (false), (false), (true), (false), (true), (wQuad.setTracker 1 { n := 5 }).set (F.WHEEL_SH_CFG_INDEX_REQ 1) 1, by decide +kernel⟩,
   ⟨(1), (1000), (9), (false), (false), (true), (false), (true), wQuad.setTracker 1 { n := 5 }, by decide +kernel⟩,
   ⟨(0), (1000), (9), (true), (false), (true), (false), wQuad, by decide +kernel⟩,
   ⟨(0), (1000), (9), (true), (false), (false), (false), wQuad.setTracker 0 { lost := true }, by decide +kernel⟩,
   ⟨(0), (1000), wQuad, by decide +kernel⟩,
   ⟨(1), (1000), (wQuad.setTracker 1 { n := 5 }).set (F.WHEEL_SH_CFG_INDEX_REQ 1) 1, by decide +kernel⟩,
   ⟨(1), (1000), wQuad.setTracker 1 { n := 5 }, by decide +kernel⟩,
   ⟨(1), (1000), wQuad.setTracker 1 { reverse := true }, by decide +kernel⟩,
   ⟨(0), (9000000), wQuad, by decide +kernel⟩,
   ⟨(0), (900), wQuad, by decide +kernel⟩⟩

/-- The hypotheses of ShaftSamplesAndTicks are met. -/
theorem wit_ShaftSamplesAndTicks :
    (∃ (x : Fin 2) (t0 word : Nat) (s : State), s.shSource x.val = 2 ∧ s.ssiDue x.val t0 = true ∧ (s.tracker x.val).lost = false ∧ (s.tracker x.val).valid = false) ∧
    (∃ (x : Fin 2) (t0 word : Nat) (s : State), s.shSource x.val = 2 ∧ s.ssiDue x.val t0 = true ∧ (s.tracker x.val).lost = false ∧ (s.tracker x.val).valid = true ∧ -262144 ≤ s.ssiMiss x.val word t0 ∧ s.ssiMiss x.val word t0 ≤ 262144) ∧
    (∃ (x : Fin 2) (t0 word : Nat) (s : State), s.shSource x.val = 2 ∧ s.ssiDue x.val t0 = true ∧ (s.tracker x.val).lost = false ∧ (s.tracker x.val).valid = true ∧ (s.ssiMiss x.val word t0 < -262144 ∨ 262144 < s.ssiMiss x.val word t0) ∧ (s.tracker x.val).discards < 2) ∧
    (∃ (x : Fin 2) (t0 word : Nat) (s : State), s.shSource x.val = 2 ∧ s.ssiDue x.val t0 = true ∧ (s.tracker x.val).lost = false ∧ (s.tracker x.val).valid = true ∧ (s.ssiMiss x.val word t0 < -262144 ∨ 262144 < s.ssiMiss x.val word t0) ∧ 2 ≤ (s.tracker x.val).discards) ∧
    (∃ (x : Fin 2) (t0 word : Nat) (s : State), (s.shSource x.val ≠ 2 ∨ s.ssiDue x.val t0 = false ∨ (s.tracker x.val).lost = true)) ∧
    (∃ (ini : Initiator) (x : Fin 2) (reg : Fin 3) (v : BitVec 32) (s : State), s.sends ini true (trackerReg x reg) = true ∧ ((reg = 0 ∧ bitsOf (s.rd (trackerReg x reg)) 31 28 ≠ bitsOf (s.written (trackerReg x reg) v).1 31 28) ∨ (reg ≠ 0 ∧ s.rd (trackerReg x reg) ≠ (s.written (trackerReg x reg) v).1)) ∧ (reg = 1 → bitsOf (s.rd (trackerReg x reg)) 18 0 ≠ bitsOf (s.written (trackerReg x reg) v).1 18 0) ∧ (reg = 2 → bitsOf (s.rd (trackerReg x reg)) 23 0 ≠ bitsOf (s.written (trackerReg x reg) v).1 23 0)) ∧
    (∃ (ini : Initiator) (x : Fin 2) (reg : Fin 3) (v : BitVec 32) (s : State), s.sends ini true (trackerReg x reg) = true ∧ (reg = 0 → bitsOf (s.rd (trackerReg x reg)) 31 28 = bitsOf (s.written (trackerReg x reg) v).1 31 28) ∧ (reg = 1 → bitsOf (s.rd (trackerReg x reg)) 18 0 = bitsOf (s.written (trackerReg x reg) v).1 18 0) ∧ (reg = 2 → bitsOf (s.rd (trackerReg x reg)) 23 0 = bitsOf (s.written (trackerReg x reg) v).1 23 0)) ∧
    (∃ (t0 : Nat) (s : State), s.tRuns = true ∧ s.tick.started = true ∧ s.tick.last + s.tick.len ≤ t0) ∧
    (∃ (t0 : Nat) (s : State), (s.tRuns = false ∨ s.tick.started = false ∨ t0 < s.tick.last + s.tick.len)) ∧
    (∃ (ini : Initiator) (v : BitVec 32) (s : State), s.sends ini true R.WHEEL_T_CFG = true ∧ s.tRuns = false ∧ (s.mergeWrite R.WHEEL_T_CFG v).1.tRuns = true ∧ (s.mergeWrite R.WHEEL_T_CFG v).1.bit F.WHEEL_T_CFG_START_SYNC = false) ∧
    (∃ (ini : Initiator) (v : BitVec 32) (s : State), s.sends ini true R.WHEEL_T_CFG = true ∧ s.tRuns = false ∧ (s.mergeWrite R.WHEEL_T_CFG v).1.tRuns = true ∧ (s.mergeWrite R.WHEEL_T_CFG v).1.bit F.WHEEL_T_CFG_START_SYNC = true) ∧
    (∃ (ini : Initiator) (v : BitVec 32) (s : State), s.sends ini true R.WHEEL_T_CFG = true ∧ s.tRuns = true ∧ (s.mergeWrite R.WHEEL_T_CFG v).1.tRuns = false) ∧
    (∃ (ini : Initiator) (v : BitVec 32) (s : State), s.sends ini true R.WHEEL_T_CFG = true ∧ (s.mergeWrite R.WHEEL_T_CFG v).1.tRuns = s.tRuns) ∧
    (∃ (ini : Initiator) (k : Fin 16) (v : BitVec 32) (s : State), s.sends ini true (R.WHEEL_LANE_DOM k.val) = true ∧ s.drainState = 1) ∧
    (∃ (ini : Initiator) (k : Fin 16) (v : BitVec 32) (s : State), s.sends ini true (R.WHEEL_LANE_DOM k.val) = true ∧ s.drainState ≠ 1 ∧ s.rd (R.WHEEL_LANE_DOM k.val) ≠ v) ∧
    (∃ (ini : Initiator) (k : Fin 16) (s : State), s.sends ini true (R.WHEEL_LANE_DOM k.val) = true) ∧
    (∃ (ini : Initiator) (d : Fin 3) (s : State), s.sends ini true (R.WHEEL_DOM_CTL d.val) = true ∧ s.drainState ≠ 0 ∧ s.domValid d.val = true) ∧
    (∃ (ini : Initiator) (d : Fin 3) (s : State), s.sends ini true (R.WHEEL_DOM_CTL d.val) = true ∧ (s.drainState = 0 ∨ s.domValid d.val = false)) :=
  ⟨⟨(0), (1000), (0xABC), wSsi, by decide +kernel⟩,
   ⟨(0), (1000), (0x3FFFF), wSsi.setTracker 0 { valid := true, discards := 1 }, by decide +kernel⟩,
   ⟨(0), (1000), (0x400000), wSsi.setTracker 0 { valid := true, discards := 1 }, by decide +kernel⟩,
   ⟨(0), (1000), (0x400000), wSsi.setTracker 0 { valid := true, discards := 2 }, by decide +kernel⟩,
   ⟨(0), (1000), (0x400000), wQuad, by decide +kernel⟩,
   ⟨(.tap), (0), (2), (0x123456), wQuad, by decide +kernel⟩,
   ⟨(.tap), (0), (1), (7), wQuad, by decide +kernel⟩,
   ⟨(900), wTick, by decide +kernel⟩,
   ⟨(899), wTick, by decide +kernel⟩,
   ⟨(.tap), (0x800003E8), wMode M.run, by decide +kernel⟩,
   ⟨(.tap), (0xC00003E8), wMode M.run, by decide +kernel⟩,
   ⟨(.tap), (0x000003E8), wTick, by decide +kernel⟩,
   ⟨(.tap), (0x800003E8), wTick, by decide +kernel⟩,
   ⟨(.tap), (3), (0x55555555), wMode M.armed, by decide +kernel⟩,
   ⟨(.tap), (3), (0x55555555), wMode M.run, by decide +kernel⟩,
   ⟨(.tap), (3), wMode M.run, by decide +kernel⟩,
   ⟨(.tap), (0), wQuad, by decide +kernel⟩,
   ⟨(.tap), (2), wQuad, by decide +kernel⟩⟩

/-- The hypotheses of InsertOffers are met. -/
theorem wit_InsertOffers :
    (∃ (x : Fin 256) (txn : Nat) (lane : Fin 256) (bin : Fin 4096) (ev : BitVec 64) (s : State), (s.portFifo 4).length < 8 ∧ s.portWaiting 4 = []) ∧
    (∃ (lane : Fin 256) (bin : Fin 4096) (ev : BitVec 64) (s : State), (s.portFifo 5).length < 8 ∧ s.portWaiting 5 = [] ∧ s.emn.evtPorts = []) ∧
    (∃ (x : Fin 256) (txn : Nat) (lane : Fin 256) (bin : Fin 4096) (ev : BitVec 64) (s : State), 8 ≤ (s.portFifo 4).length) ∧
    (∃ (p : Fin 16) (m : Nat) (s : State), (s.at_ (s.stepTime m)).rimToggles m 3 0 (16 * p.val + 5) 15 = true ∧ (s.portFifo (8 + p.val)).length < 8) ∧
    (∃ (p : Fin 16) (m : Nat) (s : State), (s.at_ (s.stepTime m)).rimToggles m 3 0 (16 * p.val + 5) 15 = true ∧ 8 ≤ (s.portFifo (8 + p.val)).length) ∧
    (∃ (p : Fin 16) (m : Nat) (s : State), (s.at_ (s.stepTime m)).rimToggles m 3 0 (16 * p.val + 5) 15 = false) ∧
    (∃ (d : Fin 4) (v : BitVec 32) (s : State), s.sends (.drone d) true R.WHEEL_INS_EV_HI = true ∧ (s.portFifo d.val).length < 8) ∧
    (∃ (d : Fin 4) (v : BitVec 32) (s : State), s.sends (.drone d) true R.WHEEL_INS_EV_HI = true ∧ 8 ≤ (s.portFifo d.val).length) ∧
    (∃ (s : State), s.nextPort = none) ∧
    (∃ (p c : Nat) (i : Insert) (r : List Insert) (s : State), s.nextPort = some p ∧ s.portFifo p = i :: r ∧ insertPort i.src = p ∧ s.portWaiting p = [] ∧ i.lane < 256 ∧ i.bin < 4096 ∧ (c = (if s.wheelReady = false then 12 else if s.laneDom i.lane = 0 then 9 else if 12 ≤ dbits i.ev 63 60 ∧ dbits i.ev 63 60 ≤ 14 then 10 else 11)) ∧ (s.wheelReady = false ∨ s.laneDom i.lane = 0 ∨ (12 ≤ dbits i.ev 63 60 ∧ dbits i.ev 63 60 ≤ 14) ∨ s.wheel.flushLane = some i.lane)) ∧
    (∃ (p c d x y : Nat) (h : Int) (i : Insert) (r : List Insert) (s : State), s.nextPort = some p ∧ s.portFifo p = i :: r ∧ insertPort i.src = p ∧ s.portWaiting p = [] ∧ i.lane < 256 ∧ i.bin < 4096 ∧ s.wheelReady = true ∧ s.laneDom i.lane ≠ 0 ∧ (dbits i.ev 63 60 < 12 ∨ dbits i.ev 63 60 = 15) ∧ s.wheel.flushLane ≠ some i.lane ∧ (s.dom (s.laneDom i.lane - 1)).hw = some h ∧ d = ((h % 4096).toNat + 4096 - i.bin) % 4096 ∧ (if dbits i.ev 31 31 = 1 ∧ d < 2048 then (if s.drainState = 1 ∨ s.domReverse (s.laneDom i.lane - 1) = true ∨ s.domStalled (s.laneDom i.lane - 1) = true then c = 5 else s.get (F.WHEEL_DOM_CTL_LATE_TOL (s.laneDom i.lane - 1)) < d ∧ c = 4) else if s.rdN R.WHEEL_POOL_FREE = 0 then c = 6 else if s.rdN R.WHEEL_POOL_FREE ≤ s.rdN R.WHEEL_POOL_RESERVE ∧ s.bitAt R.WHEEL_PORT_PRIV p = false then c = 7 else x < poolSize ∧ y < poolSize ∧ s.memWord (descAddr i.bin i.lane) = gridEncode (packDesc x y 4095) ∧ c = 8)) ∧
    (∃ (p d : Nat) (h : Int) (i : Insert) (r : List Insert) (s : State), s.nextPort = some p ∧ s.portFifo p = i :: r ∧ insertPort i.src = p ∧ s.portWaiting p = [] ∧ i.lane < 256 ∧ i.bin < 4096 ∧ s.wheelReady = true ∧ s.laneDom i.lane ≠ 0 ∧ (dbits i.ev 63 60 < 12 ∨ dbits i.ev 63 60 = 15) ∧ s.wheel.flushLane ≠ some i.lane ∧ (s.dom (s.laneDom i.lane - 1)).hw = some h ∧ d = ((h % 4096).toNat + 4096 - i.bin) % 4096 ∧ dbits i.ev 31 31 = 1 ∧ d < 2048 ∧ s.drainState = 2 ∧ s.domReverse (s.laneDom i.lane - 1) = false ∧ s.domStalled (s.laneDom i.lane - 1) = false ∧ d ≤ s.get (F.WHEEL_DOM_CTL_LATE_TOL (s.laneDom i.lane - 1)) ∧ (s.pair (i.lane / 2)).drain.length < 64 ∧ s.wheel.notify.length < 64) :=
  ⟨⟨(5), (7), (200), (4095), (0x10), wWheel, by decide +kernel⟩,
   ⟨(200), (4095), (0x10), wWheel, by decide +kernel⟩,
   ⟨(5), (7), (200), (4095), (0x10), wWheel.setPortFifo 4 (List.replicate 8 ⟨1, 2, 3, .ivwyn 5 6⟩), by decide +kernel⟩,
   ⟨(3), (20), wRimAt wWheel 3 0 53 0x80C8, by decide +kernel⟩,
   ⟨(15), (20), (wRimAt wWheel 3 0 245 0x8001).setPortFifo 23 (List.replicate 8 ⟨1, 2, 3, .fabric 15⟩), by decide +kernel⟩,
   ⟨(3), (21), wRimAt wWheel 3 0 53 0x80C8, by decide +kernel⟩,
   ⟨(2), (0x10000000), (wWheel.setEngine 134 { on := true }).setDroneIns 2 { addr := 0x50FFF, evLo := 7 }, by decide +kernel⟩,
   ⟨(2), (0x10000000), (wWheel.setEngine 134 { on := true }).setPortFifo 2 (List.replicate 8 ⟨1, 2, 3, .drone 2⟩), by decide +kernel⟩,
   ⟨wWheel, by decide +kernel⟩,
   ⟨(12), (12), (⟨5, 6, 0x10, .fabric 4⟩), ([⟨7, 6, 0x10, .fabric 4⟩]), (wWheel.setPortFifo 12 [⟨5, 6, 0x10, .fabric 4⟩, ⟨7, 6, 0x10, .fabric 4⟩]).set F.WHEEL_STAT_READY 0, by decide +kernel⟩,
   ⟨(12), (4), (94), (0), (0), (100), (⟨5, 6, 0x80000000, .fabric 4⟩), ([]), wWheel.setPortFifo 12 [⟨5, 6, 0x80000000, .fabric 4⟩], by decide +kernel⟩,
   ⟨(12), (1), (100), (⟨5, 99, 0xC0000000, .fabric 4⟩), ([]), (wWheel.set (F.WHEEL_DOM_CTL_LATE_TOL 0) 1).setPortFifo 12 [⟨5, 99, 0xC0000000, .fabric 4⟩], by decide +kernel⟩⟩

/-- The hypotheses of InsertsAreLinked are met. -/
theorem wit_InsertsAreLinked :
    (∃ (p d e : Nat) (h : Int) (i : Insert) (r : List Insert) (s : State), s.nextPort = some p ∧ s.portFifo p = i :: r ∧ insertPort i.src = p ∧ s.portWaiting p = [] ∧ i.lane < 256 ∧ i.bin < 4096 ∧ s.wheelReady = true ∧ s.laneDom i.lane ≠ 0 ∧ (dbits i.ev 63 60 < 12 ∨ dbits i.ev 63 60 = 15) ∧ s.wheel.flushLane ≠ some i.lane ∧ (s.dom (s.laneDom i.lane - 1)).hw = some h ∧ d = ((h % 4096).toNat + 4096 - i.bin) % 4096 ∧ (dbits i.ev 31 31 = 0 ∨ 2048 ≤ d) ∧ 0 < s.rdN R.WHEEL_POOL_FREE ∧ (s.rdN R.WHEEL_POOL_RESERVE < s.rdN R.WHEEL_POOL_FREE ∨ s.bitAt R.WHEEL_PORT_PRIV p = true) ∧ e = s.popFree.2 ∧ e < poolSize ∧ s.memWord (descAddr i.bin i.lane) = gridEncode emptyDesc) ∧
    (∃ (p d e x y c : Nat) (v : BitVec 64) (h : Int) (i : Insert) (r : List Insert) (s : State), s.nextPort = some p ∧ s.portFifo p = i :: r ∧ insertPort i.src = p ∧ s.portWaiting p = [] ∧ i.lane < 256 ∧ i.bin < 4096 ∧ s.wheelReady = true ∧ s.laneDom i.lane ≠ 0 ∧ (dbits i.ev 63 60 < 12 ∨ dbits i.ev 63 60 = 15) ∧ s.wheel.flushLane ≠ some i.lane ∧ (s.dom (s.laneDom i.lane - 1)).hw = some h ∧ d = ((h % 4096).toNat + 4096 - i.bin) % 4096 ∧ (dbits i.ev 31 31 = 0 ∨ 2048 ≤ d) ∧ 0 < s.rdN R.WHEEL_POOL_FREE ∧ (s.rdN R.WHEEL_POOL_RESERVE < s.rdN R.WHEEL_POOL_FREE ∨ s.bitAt R.WHEEL_PORT_PRIV p = true) ∧ e = s.popFree.2 ∧ e < poolSize ∧ x < poolSize ∧ y < poolSize ∧ y ≠ e ∧ 0 < c ∧ c < 4095 ∧ s.memWord (descAddr i.bin i.lane) = gridEncode (packDesc x y c) ∧ s.memWord (poolAddr y) = gridEncode v ∧ dbits v 21 0 = 0x3FFFFF) :=
  ⟨⟨(12), (3196), (8), (100), (⟨5, 1000, 0xF000000000000010, .fabric 4⟩), ([]), wWheel.setPortFifo 12 [⟨5, 1000, 0xF000000000000010, .fabric 4⟩], by decide +kernel⟩,
   ⟨(12), (3196), (8), (2), (3), (7), (0x10000000003FFFFF), (100), (⟨5, 1000, 0xF000000000000010, .fabric 4⟩), ([]), ((wWheel.setPortFifo 12 [⟨5, 1000, 0xF000000000000010, .fabric 4⟩]).memWrite (descAddr 1000 5) (packDesc 2 3 7)).memWrite (poolAddr 3) 0x10000000003FFFFF, by decide +kernel⟩⟩

/-- The hypotheses of WheelDrains are met. -/
theorem wit_WheelDrains :
    (∃ (d : Fin 3) (t0 b l x y c : Nat) (h : Int) (s : State), (s.dom d.val).hw = some h ∧ s.drainState = 2 ∧ s.domValid d.val = true ∧ s.domReverse d.val = false ∧ h < posOf (s.lpAt d.val (max s.now t0)) ∧ (∀ q ∈ (s.dom d.val).detached, q.late = true ∨ posOf (s.lpAt d.val (max s.now t0)) ≤ q.pos) ∧ b = ((h + 1) % 4096).toNat ∧ (∀ k : Nat, k < 256 → s.laneDom k = d.val + 1 → s.occupied b k = true → s.wheel.flushLane ≠ some k → (s.readDesc b k).1 = s ∧ (s.readDesc b k).2.isSome = true)) ∧
    (∃ (d : Fin 3) (t0 : Nat) (s : State), ((s.dom d.val).hw = none ∨ s.drainState ≠ 2 ∨ s.domValid d.val = false ∨ s.domReverse d.val = true ∨ posOf (s.lpAt d.val (max s.now t0)) ≤ (s.dom d.val).hw.getD 0) ∧ (∀ q ∈ (s.dom d.val).detached, q.late = true ∨ posOf (s.lpAt d.val (max s.now t0)) ≤ q.pos)) ∧
    (∃ (d : Fin 3) (t0 : Nat) (q : Detached) (s : State), ((s.dom d.val).hw = none ∨ s.domValid d.val = false) ∧ (s.dom d.val).detached = [q] ∧ q.late = false ∧ q.pos < posOf (s.lpAt d.val (max s.now t0))) ∧
    (∃ (d : Fin 3) (t0 : Nat) (h : Int) (s : State), (s.dom d.val).hw = some h ∧ s.drainState = 1 ∧ s.domValid d.val = true ∧ h < posOf (s.lpAt d.val (max s.now t0)) ∧ (∀ q ∈ (s.dom d.val).detached, q.late = true ∨ posOf (s.lpAt d.val (max s.now t0)) ≤ q.pos)) ∧
    (∃ (d : Fin 3) (t0 : Nat) (s : State), ((s.dom d.val).hw = none ∨ s.drainState ≠ 1 ∨ s.domValid d.val = false ∨ posOf (s.lpAt d.val (max s.now t0)) ≤ (s.dom d.val).hw.getD 0) ∧ (∀ q ∈ (s.dom d.val).detached, q.late = true ∨ posOf (s.lpAt d.val (max s.now t0)) ≤ q.pos)) ∧
    (∃ (d : Fin 3) (pre post : List Detached) (q : Detached) (v : BitVec 64) (s : State), s.drainState ≠ 0 ∧ (s.dom d.val).detached = pre ++ q :: post ∧ (∀ k ∈ pre, 64 ≤ (s.pair (k.lane / 2)).drain.length) ∧ (s.pair (q.lane / 2)).drain.length < 64 ∧ (∀ k ∈ (s.dom d.val).detached, k.late = true ∨ posOf (s.lpAt d.val s.now) ≤ k.pos) ∧ s.memWord (poolAddr q.head) = gridEncode v ∧ badIndex (dbits v 21 0) = false ∧ (dbits v 53 52 = 2 → s.bit F.WHEEL_MARK_TAG_EN = false ∨ s.get F.WHEEL_MARK_TAG_TAG ≠ dbits v 39 32) ∧ s.rdN R.WHEEL_POOL_FREE < 3145728 ∧ 0 < s.rdN R.WHEEL_POOL_IN_USE) ∧
    (∃ (d : Fin 3) (s : State), (s.drainState = 0 ∨ ∀ k ∈ (s.dom d.val).detached, 64 ≤ (s.pair (k.lane / 2)).drain.length ∧ (k.late = true ∨ posOf (s.lpAt d.val s.now) ≤ k.pos))) ∧
    (∃ (ini : Initiator) (s : State), s.sends ini false R.WHEEL_NOTIFY_B = true) :=
  ⟨⟨(0), (1000), (101), (5), (0), (1), (2), (100), (wWheel.setOcc 101 5 true).memWrite (descAddr 101 5) (packDesc 0 1 2), by decide +kernel⟩,
   ⟨(0), (1000), wWheel.set F.SYS_MODE_MODE M.armed, by decide +kernel⟩,
   ⟨(0), (1000), (⟨5, 7, 3, 1, false⟩), wWheel.setDom 0 { lp := 500000, hw := none, detached := [⟨5, 7, 3, 1, false⟩] }, by decide +kernel⟩,
   ⟨(0), (1000), (100), wWheel.set F.SYS_MODE_MODE M.armed, by decide +kernel⟩,
   ⟨(0), (1000), wWheel, by decide +kernel⟩,
   ⟨(1), ([]), ([⟨3, 4097, 2, 1, false⟩]), (⟨255, 4097, 9, 1, false⟩), (0x10200000403FFFFF), (wWheel.setDom 1 { hw := some 4097, detached := [⟨255, 4097, 9, 1, false⟩, ⟨3, 4097, 2, 1, false⟩] }).memWrite (poolAddr 9) 0x10200000403FFFFF, by decide +kernel⟩,
   ⟨(1), wWheel, by decide +kernel⟩,
   ⟨(.tap), { wWheel with wheel := { wWheel.wheel with notify := [⟨1, 200, 4095, 0xAB, 1, 0xF, 5, false⟩] } }, by decide +kernel⟩⟩

/-- The hypotheses of WheelInitAndFlush are met. -/
theorem wit_WheelInitAndFlush :
    (∃ (ini : Initiator) (s : State), s.sends ini true R.WHEEL_CTL = true ∧ s.drainState ≠ 2) ∧
    (∃ (ini : Initiator) (s : State), s.sends ini true R.WHEEL_CTL = true ∧ s.drainState = 2) ∧
    (∃ (b : Fin 4096) (l : Fin 256) (s : State), s.bit F.WHEEL_CTL_INIT = true) ∧
    (∃ (s : State), s.bit F.WHEEL_CTL_INIT = false) ∧
    (∃ (ini : Initiator) (lane : Fin 256) (b : Fin 4096) (x y c : Nat) (s : State), s.sends ini true R.WHEEL_FLUSH = true ∧ s.bit F.WHEEL_FLUSH_BUSY = false ∧ (∀ i : Nat, i < 64 → ∀ k : Nat, k < 64 → s.occupied (64 * i + k) lane.val = true → (s.readDesc (64 * i + k) lane.val).1 = s ∧ (s.readDesc (64 * i + k) lane.val).2.isSome = true)) ∧
    (∃ (ini : Initiator) (lane : Fin 256) (s : State), s.sends ini true R.WHEEL_FLUSH = true ∧ s.bit F.WHEEL_FLUSH_BUSY = true) ∧
    (∃ (l k : Fin 256) (b : Fin 4096) (s : State), s.wheel.flushLane = some l.val ∧ k ≠ l) ∧
    (∃ (l : Fin 256) (b : Fin 4096) (e : Nat) (v : BitVec 64) (s : State), s.wheel.flushLane = some l.val ∧ (∀ i : Nat, i < 64 → ∀ k : Nat, k < 64 → s.occupied (64 * i + k) l.val = decide (64 * i + k = b.val)) ∧ e < poolSize ∧ s.memWord (descAddr b.val l.val) = gridEncode (packDescAs .flushing e e 1) ∧ s.memWord (poolAddr e) = gridEncode v ∧ dbits v 21 0 = 0x3FFFFF ∧ s.rdN R.WHEEL_POOL_FREE < 3145728 ∧ 0 < s.rdN R.WHEEL_POOL_IN_USE) ∧
    (∃ (s : State), s.wheel.flushLane = none) :=
  ⟨⟨(.tap), wWheel.set F.SYS_MODE_MODE M.armed, by decide +kernel⟩,
   ⟨(.tap), wWheel, by decide +kernel⟩,
   ⟨(4095), (255), wWheel.set F.WHEEL_CTL_INIT 1, by decide +kernel⟩,
   ⟨wWheel, by decide +kernel⟩,
   ⟨(.tap), (5), (101), (0), (1), (2), (wWheel.setOcc 101 5 true).memWrite (descAddr 101 5) (packDesc 0 1 2), by decide +kernel⟩,
   ⟨(.tap), (255), wWheel.set F.WHEEL_FLUSH_BUSY 1, by decide +kernel⟩,
   ⟨(5), (6), (101), { (wWheel.setOcc 101 5 true).memWrite (descAddr 101 5) (packDescAs .flushing 0 0 1) with wheel := { (wWheel.setOcc 101 5 true).wheel with flushLane := some 5 } }, by decide +kernel⟩,
   ⟨(5), (101), (7), (0x10000000003FFFFF), { ((wWheel.setOcc 101 5 true).memWrite (descAddr 101 5) (packDescAs .flushing 7 7 1)).memWrite (poolAddr 7) 0x10000000003FFFFF with wheel := { (wWheel.setOcc 101 5 true).wheel with flushLane := some 5 } }, by decide +kernel⟩,
   ⟨wWheel, by decide +kernel⟩⟩

/-- The hypotheses of FramesAreCommitted are met. -/
theorem wit_FramesAreCommitted :
    (∃ (c : Fin 128) (h : Fin 2) (f : Nat) (s : State), s.alive = true ∧ (s.pair c.val).last ≤ f ∧ s.get (F.LANE_CFG_ROLE (2 * c.val + h.val)) ≠ 2) ∧
    (∃ (c : Fin 128) (h : Fin 2) (f : Nat) (s : State), s.alive = true ∧ (s.pair c.val).last ≤ f ∧ s.get (F.LANE_CFG_ROLE (2 * c.val + h.val)) = 2) ∧
    (∃ (c : Fin 128) (h : Fin 2) (n f : Nat) (w : List (BitVec 64)) (s : State), s.alive = true ∧ (s.pair c.val).last ≤ f ∧ s.holder c.val = some n ∧ n < 132 ∧ w.length = 7 ∧ (∀ i : Nat, i < 7 → s.memWord (pairRegion n + 0x380 + h.val * 0x40 + 8 * i) = gridEncode (w.getD i 0))) ∧
    (∃ (c : Fin 128) (n f : Nat) (s : State), s.alive = true ∧ (s.pair c.val).last ≤ f ∧ s.holder c.val = some n ∧ n < 132 ∧ s.bit F.CLK_CTL_CORE = true ∧ (s.pair c.val).complete.contains f = true ∧ (∀ i : Nat, i < 14 → gridClassify (s.memWord (pairRegion n + 0x380 + i / 7 * 0x40 + 8 * (i % 7))) = .clean)) ∧
    (∃ (c : Fin 128) (n f : Nat) (s : State), s.alive = true ∧ (s.pair c.val).last ≤ f ∧ s.holder c.val = some n ∧ n < 132 ∧ s.bit F.CLK_CTL_CORE = true ∧ (s.pair c.val).complete.contains f = false ∧ s.get (F.CHT_C_STAT_MISS_RUN n) ≠ 1 ∧ (∀ i : Nat, i < 14 → gridClassify (s.memWord (pairRegion n + 0x380 + i / 7 * 0x40 + 8 * (i % 7))) = .clean)) ∧
    (∃ (c : Fin 128) (f : Nat) (s : State), s.alive = true ∧ (s.pair c.val).last ≤ f ∧ s.get (F.CHT_C_STAT_PAIR c.val) = c.val ∧ s.bit F.CLK_CTL_CORE = true ∧ (s.pair c.val).complete.contains f = false ∧ s.get (F.CHT_C_STAT_MISS_RUN c.val) = 1 ∧ s.get (F.CHT_GRP_SPARE_STATE (c.val / 32)) = 0 ∧ s.claimWaits (c.val / 32) = false ∧ s.bist.slice = none) ∧
    (∃ (c : Fin 128) (n f : Nat) (s : State), s.alive = true ∧ (s.pair c.val).last ≤ f ∧ s.holder c.val = some n ∧ s.bit F.CLK_CTL_CORE = true ∧ (s.pair c.val).complete.contains f = false ∧ s.get (F.CHT_C_STAT_MISS_RUN n) = 1 ∧ (s.get (F.CHT_GRP_SPARE_STATE (c.val / 32)) = 1 ∨ s.get (F.CHT_GRP_SPARE_STATE (c.val / 32)) = 3) ∧ s.claimWaits (c.val / 32) = false) ∧
    (∃ (c : Fin 128) (f : Nat) (s : State), s.alive = true ∧ (s.pair c.val).last ≤ f ∧ (s.holder c.val = none ∨ s.bit F.CLK_CTL_CORE = false) ∧ (∀ n : Nat, n < 132 → s.holder c.val = some n → ∀ i : Nat, i < 14 → gridClassify (s.memWord (pairRegion n + 0x380 + i / 7 * 0x40 + 8 * (i % 7))) = .clean)) ∧
    (∃ (c : Fin 128) (f : Nat) (s : State), (s.alive = false ∨ f < (s.pair c.val).last)) :=
  ⟨⟨(5), (1), (20), ((wCht).setPair 5 { complete := [20, 21] }).setLane 11 { store := [⟨20, 3, 0x40000000⟩, ⟨21, 3, 0x40000001⟩] }, by decide +kernel⟩,
   ⟨(5), (1), (20), ((wCht).setLane 11 { store := [⟨20, 3, 0x40000000⟩, ⟨21, 3, 0x40000001⟩] }).set (F.LANE_CFG_ROLE 11) 2, by decide +kernel⟩,
   ⟨(5), (1), (5), (20), ([1, 2, 3, 4, 5, 6, 7]), ((List.range 7).foldl (fun (u : State) i => u.memWrite (pairRegion 5 + 0x380 + 0x40 + 8 * i) (BitVec.ofNat 64 (i + 1))) wCht), by decide +kernel⟩,
   ⟨(5), (5), (20), ((List.range 14).foldl (fun (u : State) i => u.memWrite (pairRegion 5 + 0x380 + i / 7 * 0x40 + 8 * (i % 7)) 7) ((wCht).setPair 5 { complete := [20] })).set (F.CHT_C_STAT_MISS_RUN 5) 1, by decide +kernel⟩,
   ⟨(5), (5), (20), ((List.range 14).foldl (fun (u : State) i => u.memWrite (pairRegion 5 + 0x380 + i / 7 * 0x40 + 8 * (i % 7)) 7) (wCht.setBitAt (R.CHT_C_CTL 5) 0)), by decide +kernel⟩,
   ⟨(5), (20), wCht.set (F.CHT_C_STAT_MISS_RUN 5) 1, by decide +kernel⟩,
   ⟨(5), (5), (20), (wCht.set (F.CHT_C_STAT_MISS_RUN 5) 1).set (F.CHT_GRP_SPARE_STATE 0) 1, by decide +kernel⟩,
   ⟨(5), (20), wCht.set (F.CHT_C_STAT_PAIR 5) 255, by decide +kernel⟩,
   ⟨(5), (20), wCht.setPair 5 { last := 21 }, by decide +kernel⟩⟩

/-- The hypotheses of ChanterClaims are met. -/
theorem wit_ChanterClaims :
    (∃ (ini : Initiator) (n : Fin 132) (i : Fin 128) (v : BitVec 64) (s : State), s.sends ini true (R.CHT_C_CTL n.val) = true ∧ n.val < 128 ∧ s.domOn ((addrDomain (R.CHT_C_CTL n.val)).getD 0) = true ∧ s.get (F.CHT_GRP_SPARE_STATE (n.val / 32)) = 0 ∧ s.claimWaits (n.val / 32) = false ∧ s.bist.slice = none ∧ (∀ k : Nat, k < 128 → gridClassify (s.memWord (pairRegion n.val + 8 * k)) = .clean) ∧ s.memWord (pairRegion n.val + 8 * i.val) = gridEncode v) ∧
    (∃ (ini : Initiator) (n : Fin 132) (s : State), s.sends ini true (R.CHT_C_CTL n.val) = true ∧ s.domOn ((addrDomain (R.CHT_C_CTL n.val)).getD 0) = true ∧ (128 ≤ n.val ∨ s.get (F.CHT_GRP_SPARE_STATE (n.val / 32)) ≠ 0 ∨ s.claimWaits (n.val / 32) = true)) ∧
    (∃ (g : Fin 4) (f : Nat) (x : Claim) (s : State), s.claims.filter (fun y => y.chanter / 32 == g.val && decide (y.at_ + 128 ≤ startOf f)) = [x] ∧ x.kind = .retire ∧ x.chanter < 128) ∧
    (∃ (g : Fin 4) (f : Nat) (x : Claim) (s : State), s.claims.filter (fun y => y.chanter / 32 == g.val && decide (y.at_ + 128 ≤ startOf f)) = [x] ∧ x.kind = .loan ∧ x.chanter < 128 ∧ s.bist.slice = none) ∧
    (∃ (g : Fin 4) (f : Nat) (x : Claim) (s : State), s.claims.filter (fun y => y.chanter / 32 == g.val && decide (y.at_ + 128 ≤ startOf f)) = [x] ∧ (x.kind = .loanReturn ∨ x.kind = .handback) ∧ x.chanter < 128) ∧
    (∃ (g : Fin 4) (f : Nat) (s : State), s.claims.filter (fun y => y.chanter / 32 == g.val && decide (y.at_ + 128 ≤ startOf f)) = []) ∧
    (∃ (ini : Initiator) (g : Fin 4) (c : Fin 128) (i : Fin 128) (v : BitVec 64) (s : State), s.sends ini true (R.CHT_C_CTL (128 + g.val)) = true ∧ s.domOn ((addrDomain (R.CHT_C_CTL (128 + g.val))).getD 0) = true ∧ (s.get (F.CHT_GRP_SPARE_STATE g.val) = 1 ∨ s.get (F.CHT_GRP_SPARE_STATE g.val) = 3) ∧ s.claimWaits g.val = false ∧ s.bist.slice = none ∧ s.get (F.CHT_C_STAT_PAIR (128 + g.val)) = c.val ∧ (∀ k : Nat, k < 128 → gridClassify (s.memWord (pairRegion (128 + g.val) + 8 * k)) = .clean) ∧ s.memWord (pairRegion (128 + g.val) + 8 * i.val) = gridEncode v) ∧
    (∃ (ini : Initiator) (n : Fin 132) (s : State), s.sends ini true (R.CHT_C_CTL n.val) = true ∧ s.domOn ((addrDomain (R.CHT_C_CTL n.val)).getD 0) = true ∧ (n.val < 128 ∨ s.get (F.CHT_GRP_SPARE_STATE (n.val - 128)) = 0 ∨ s.get (F.CHT_GRP_SPARE_STATE (n.val - 128)) = 2 ∨ s.get (F.CHT_C_STAT_PAIR n.val) = 0xFF ∨ s.claimWaits (n.val - 128) = true)) ∧
    (∃ (ini : Initiator) (s : State), s.sends ini false R.CHT_NOTE_B = true) ∧
    (∃ (a b : Fin 132) (t s : State), a ≠ b ∧ (∀ i : Nat, i < 128 → gridClassify (s.memWord (pairRegion a.val + 8 * i)) = .clean ∨ gridClassify (s.memWord (pairRegion a.val + 8 * i)) = .uncorrectable) ∧ t = s.copyRegion (pairRegion a.val) (pairRegion b.val) b.val) :=
  ⟨⟨(.tap), (33), (127), (0xABCD), (List.range 128).foldl (fun (u : State) i => u.memWrite (pairRegion 33 + 8 * i) 0xABCD) wCht, by decide +kernel⟩,
   ⟨(.tap), (33), wCht.set (F.CHT_GRP_SPARE_STATE 1) 3, by decide +kernel⟩,
   ⟨(1), (20), (⟨33, .retire, 100, 100⟩), { wCht with claims := [⟨33, .retire, 100, 100⟩, ⟨5, .retire, 100, 100⟩] }, by decide +kernel⟩,
   ⟨(1), (20), (⟨33, .loan, 100, 100⟩), { wCht with claims := [⟨33, .loan, 100, 100⟩] }, by decide +kernel⟩,
   ⟨(1), (20), (⟨33, .handback, 100, 100⟩), { ((wCht.set (F.CHT_GRP_SPARE_STATE 1) 1).wr R.SYS_SPARED 2).set F.SYS_MODE_MODE M.runSpared with claims := [⟨33, .handback, 100, 100⟩] }, by decide +kernel⟩,
   ⟨(1), (20), { wCht with claims := [⟨33, .retire, 12700, 12700⟩] }, by decide +kernel⟩,
   ⟨(.tap), (1), (33), (5), (7), (List.range 128).foldl (fun (u : State) i => u.memWrite (pairRegion 129 + 8 * i) 7) ((wCht.set (F.CHT_GRP_SPARE_STATE 1) 1).set (F.CHT_C_STAT_PAIR 129) 33), by decide +kernel⟩,
   ⟨(.tap), (129), wCht, by decide +kernel⟩,
   ⟨(.tap), { wCht with notes := [⟨33, 2, 700, 0xABCD⟩] }, by decide +kernel⟩,
   ⟨37, 129, wCht.copyRegion (pairRegion 37) (pairRegion 129) 129, wCht, by decide, by decide +kernel, rfl⟩⟩

/-- The hypotheses of IntegerInstructions are met. -/
theorem wit_IntegerInstructions :
    (∃ (e : Fin 136) (x : FmtT) (s : State), s.issues e.val (x.word 0x02) = true ∧ x.fn.val = 0) ∧
    (∃ (e : Fin 136) (x : FmtT) (s : State), s.issues e.val (x.word 0x03) = true ∧ x.fn.val = 0) ∧
    (∃ (e : Fin 136) (x : FmtT) (s : State), s.issues e.val (x.word 0x04) = true ∧ x.fn.val = 0) ∧
    (∃ (e : Fin 136) (x : FmtT) (s : State), s.issues e.val (x.word 0x05) = true ∧ x.fn.val = 0) ∧
    (∃ (e : Fin 136) (x : FmtT) (s : State), s.issues e.val (x.word 0x06) = true ∧ x.fn.val = 0) ∧
    (∃ (e : Fin 136) (x : FmtT) (s : State), s.issues e.val (x.word 0x07) = true ∧ x.fn.val = 0) ∧
    (∃ (e : Fin 136) (x : FmtT) (s : State), s.issues e.val (x.word 0x08) = true ∧ x.fn.val = 0) ∧
    (∃ (e : Fin 136) (x : FmtT) (s : State), s.issues e.val (x.word 0x09) = true ∧ x.fn.val = 0) ∧
    (∃ (e : Fin 136) (x : FmtT) (s : State), s.issues e.val (x.word 0x0A) = true ∧ x.fn.val = 0) ∧
    (∃ (e : Fin 136) (x : FmtT) (s : State), s.issues e.val (x.word 0x0B) = true ∧ x.fn.val = 0) ∧
    (∃ (e : Fin 136) (x : FmtT) (s : State), s.issues e.val (x.word 0x0B) = true ∧ x.fn.val = 1) ∧
    (∃ (e : Fin 136) (x : FmtT) (s : State), s.issues e.val (x.word 0x0C) = true ∧ x.fn.val = 0) ∧
    (∃ (e : Fin 136) (x : FmtT) (s : State), s.issues e.val (x.word 0x0C) = true ∧ x.fn.val = 1) ∧
    (∃ (e : Fin 136) (x : FmtT) (s : State), s.issues e.val (x.word 0x0D) = true ∧ x.fn.val = 0) ∧
    (∃ (e : Fin 136) (x : FmtT) (s : State), s.issues e.val (x.word 0x0D) = true ∧ x.fn.val = 1) ∧
    (∃ (e : Fin 136) (x : FmtT) (s : State), s.issues e.val (x.word 0x0F) = true ∧ x.fn.val < 4) :=
  ⟨⟨(5), (⟨0, 15, 1, 2, 0⟩), (wOp 5 (FmtT.word ⟨0, 15, 1, 2, 0⟩ 0x02)), by decide +kernel⟩,
   ⟨(5), (⟨0, 15, 1, 2, 0⟩), (wOp 5 (FmtT.word ⟨0, 15, 1, 2, 0⟩ 0x03)), by decide +kernel⟩,
   ⟨(5), (⟨0, 15, 1, 2, 0⟩), (wOp 5 (FmtT.word ⟨0, 15, 1, 2, 0⟩ 0x04)), by decide +kernel⟩,
   ⟨(5), (⟨0, 15, 1, 2, 0⟩), (wOp 5 (FmtT.word ⟨0, 15, 1, 2, 0⟩ 0x05)), by decide +kernel⟩,
   ⟨(5), (⟨0, 15, 1, 2, 0⟩), (wOp 5 (FmtT.word ⟨0, 15, 1, 2, 0⟩ 0x06)), by decide +kernel⟩,
   ⟨(5), (⟨0, 15, 1, 2, 0⟩), (wOp 5 (FmtT.word ⟨0, 15, 1, 2, 0⟩ 0x07)), by decide +kernel⟩,
   ⟨(5), (⟨0, 15, 1, 2, 0⟩), (wOp 5 (FmtT.word ⟨0, 15, 1, 2, 0⟩ 0x08)), by decide +kernel⟩,
   ⟨(5), (⟨0, 15, 1, 2, 0⟩), (wOp 5 (FmtT.word ⟨0, 15, 1, 2, 0⟩ 0x09)), by decide +kernel⟩,
   ⟨(5), (⟨0, 15, 1, 2, 0⟩), (wOp 5 (FmtT.word ⟨0, 15, 1, 2, 0⟩ 0x0A)), by decide +kernel⟩,
   ⟨(5), (⟨0, 15, 1, 2, 0⟩), (wOp 5 (FmtT.word ⟨0, 15, 1, 2, 0⟩ 0x0B)), by decide +kernel⟩,
   ⟨(5), (⟨0, 15, 1, 2, 1⟩), (wOp 5 (FmtT.word ⟨0, 15, 1, 2, 1⟩ 0x0B)), by decide +kernel⟩,
   ⟨(5), (⟨0, 15, 1, 2, 0⟩), (wOp 5 (FmtT.word ⟨0, 15, 1, 2, 0⟩ 0x0C)), by decide +kernel⟩,
   ⟨(5), (⟨0, 15, 1, 2, 1⟩), (wOp 5 (FmtT.word ⟨0, 15, 1, 2, 1⟩ 0x0C)), by decide +kernel⟩,
   ⟨(5), (⟨0, 15, 1, 2, 0⟩), (wOp 5 (FmtT.word ⟨0, 15, 1, 2, 0⟩ 0x0D)), by decide +kernel⟩,
   ⟨(5), (⟨0, 15, 1, 2, 1⟩), (wOp 5 (FmtT.word ⟨0, 15, 1, 2, 1⟩ 0x0D)), by decide +kernel⟩,
   ⟨(5), (⟨0, 15, 1, 2, 3⟩), (wOp 5 (FmtT.word ⟨0, 15, 1, 2, 3⟩ 0x0F)), by decide +kernel⟩⟩

/-- The hypotheses of ImmediateInstructions are met. -/
theorem wit_ImmediateInstructions :
    (∃ (e : Fin 136) (x : FmtI) (s : State), s.issues e.val (x.word 0x12) = true) ∧
    (∃ (e : Fin 136) (x : FmtI) (s : State), s.issues e.val (x.word 0x13) = true) ∧
    (∃ (e : Fin 136) (x : FmtI) (s : State), s.issues e.val (x.word 0x14) = true) ∧
    (∃ (e : Fin 136) (x : FmtI) (s : State), s.issues e.val (x.word 0x15) = true) ∧
    (∃ (e : Fin 136) (x : FmtI) (s : State), s.issues e.val (x.word 0x16) = true ∧ x.imm.val < 32) ∧
    (∃ (e : Fin 136) (x : FmtI) (s : State), s.issues e.val (x.word 0x17) = true ∧ x.imm.val < 32) ∧
    (∃ (e : Fin 136) (x : FmtI) (s : State), s.issues e.val (x.word 0x18) = true ∧ x.imm.val < 32) ∧
    (∃ (e : Fin 136) (x : FmtI) (s : State), s.issues e.val (x.word 0x1A) = true ∧ (x.imm.val < 1024 ∧ (x.imm.val % 32) + (x.imm.val / 32 % 32 + 1) ≤ 32)) ∧
    (∃ (e : Fin 136) (x : FmtI) (s : State), s.issues e.val (x.word 0x1A) = true ∧ (1024 ≤ x.imm.val ∧ x.imm.val < 2048 ∧ (x.imm.val % 32) + (x.imm.val / 32 % 32 + 1) ≤ 32)) ∧
    (∃ (e : Fin 136) (x : FmtI) (s : State), s.issues e.val (x.word 0x1B) = true ∧ (x.imm.val < 1024 ∧ (x.imm.val % 32) + (x.imm.val / 32 % 32 + 1) ≤ 32)) ∧
    (∃ (e : Fin 136) (x : FmtL) (s : State), s.issues e.val (x.word 0x1C) = true) ∧
    (∃ (e : Fin 136) (x : FmtL) (s : State), s.issues e.val (x.word 0x1D) = true) ∧
    (∃ (e : Fin 136) (x : FmtJ) (s : State), s.issues e.val (x.word 0x01) = true ∧ x.imm.val = 0) :=
  ⟨⟨(132), (⟨0, 15, 1, 16383⟩), (wOp 132 (FmtI.word ⟨0, 15, 1, 16383⟩ 0x12)), by decide +kernel⟩,
   ⟨(132), (⟨0, 15, 1, 16383⟩), (wOp 132 (FmtI.word ⟨0, 15, 1, 16383⟩ 0x13)), by decide +kernel⟩,
   ⟨(132), (⟨0, 15, 1, 16383⟩), (wOp 132 (FmtI.word ⟨0, 15, 1, 16383⟩ 0x14)), by decide +kernel⟩,
   ⟨(132), (⟨0, 15, 1, 16383⟩), (wOp 132 (FmtI.word ⟨0, 15, 1, 16383⟩ 0x15)), by decide +kernel⟩,
   ⟨(132), (⟨0, 15, 1, 31⟩), (wOp 132 (FmtI.word ⟨0, 15, 1, 31⟩ 0x16)), by decide +kernel⟩,
   ⟨(132), (⟨0, 15, 1, 31⟩), (wOp 132 (FmtI.word ⟨0, 15, 1, 31⟩ 0x17)), by decide +kernel⟩,
   ⟨(132), (⟨0, 15, 1, 31⟩), (wOp 132 (FmtI.word ⟨0, 15, 1, 31⟩ 0x18)), by decide +kernel⟩,
   ⟨(132), (⟨0, 15, 1, 228⟩), (wOp 132 (FmtI.word ⟨0, 15, 1, 228⟩ 0x1A)), by decide +kernel⟩,
   ⟨(132), (⟨0, 15, 1, 1252⟩), (wOp 132 (FmtI.word ⟨0, 15, 1, 1252⟩ 0x1A)), by decide +kernel⟩,
   ⟨(132), (⟨0, 15, 1, 228⟩), (wOp 132 (FmtI.word ⟨0, 15, 1, 228⟩ 0x1B)), by decide +kernel⟩,
   ⟨(132), (⟨0, 15, 0x3FFFF⟩), (wOp 132 (FmtL.word ⟨0, 15, 0x3FFFF⟩ 0x1C)), by decide +kernel⟩,
   ⟨(132), (⟨0, 15, 0x3FFFF⟩), (wOp 132 (FmtL.word ⟨0, 15, 0x3FFFF⟩ 0x1D)), by decide +kernel⟩,
   ⟨(5), (⟨0, 0⟩), (wOp 5 (FmtJ.word ⟨0, 0⟩ 0x01)), by decide +kernel⟩⟩

/-- The hypotheses of ConditionsAndDivision are met. -/
theorem wit_ConditionsAndDivision :
    (∃ (e : Fin 136) (x : FmtT) (s : State), s.issues e.val (x.word 0x10) = true ∧ x.rd.val = 0 ∧ x.fn.val / 4 = 0) ∧
    (∃ (e : Fin 136) (x : FmtT) (s : State), s.issues e.val (x.word 0x10) = true ∧ x.rd.val = 0 ∧ x.fn.val / 4 = 1) ∧
    (∃ (e : Fin 136) (x : FmtT) (s : State), s.issues e.val (x.word 0x10) = true ∧ x.rd.val = 0 ∧ x.fn.val / 4 = 2) ∧
    (∃ (e : Fin 136) (x : FmtT) (s : State), s.issues e.val (x.word 0x10) = true ∧ x.rd.val = 0 ∧ x.fn.val / 4 = 3) ∧
    (∃ (e : Fin 136) (x : FmtT) (s : State), s.issues e.val (x.word 0x10) = true ∧ x.rd.val = 0 ∧ x.fn.val / 4 = 4) ∧
    (∃ (e : Fin 136) (x : FmtT) (s : State), s.issues e.val (x.word 0x10) = true ∧ x.rd.val = 0 ∧ x.fn.val / 4 = 5) ∧
    (∃ (e : Fin 136) (x : FmtT) (s : State), s.issues e.val (x.word 0x10) = true ∧ x.rd.val = 0 ∧ x.fn.val / 4 = 6) ∧
    (∃ (e : Fin 136) (x : FmtI) (s : State), s.issues e.val (x.word 0x19) = true ∧ x.rd.val < 4 ∧ x.imm.val / 2048 = 0) ∧
    (∃ (e : Fin 136) (x : FmtI) (s : State), s.issues e.val (x.word 0x19) = true ∧ x.rd.val < 4 ∧ x.imm.val / 2048 = 2) ∧
    (∃ (e : Fin 136) (x : FmtI) (s : State), s.issues e.val (x.word 0x19) = true ∧ x.rd.val < 4 ∧ x.imm.val / 2048 = 4) ∧
    (∃ (e : Fin 136) (x : FmtI) (s : State), s.issues e.val (x.word 0x19) = true ∧ x.rd.val < 4 ∧ x.imm.val / 2048 = 6) ∧
    (∃ (e : Fin 136) (x : FmtI) (s : State), s.issues e.val (x.word 0x19) = true ∧ x.rd.val < 4 ∧ x.imm.val / 2048 = 1) ∧
    (∃ (e : Fin 136) (x : FmtI) (s : State), s.issues e.val (x.word 0x19) = true ∧ x.rd.val < 4 ∧ x.imm.val / 2048 = 3) ∧
    (∃ (e : Fin 136) (x : FmtI) (s : State), s.issues e.val (x.word 0x19) = true ∧ x.rd.val < 4 ∧ x.imm.val / 2048 = 5) ∧
    (∃ (e : Fin 136) (x : FmtT) (s : State), s.issues e.val (x.word 0x11) = true ∧ (x.rd.val < 4 ∧ x.ra.val < 4 ∧ x.rb.val < 4) ∧ x.fn.val < 8) ∧
    (∃ (e : Fin 136) (x : FmtT) (s : State), s.issues e.val (x.word 0x0E) = true ∧ x.fn.val = 0 ∧ s.gr e.val x.rb.val ≠ 0 ∧ (¬ (s.gr e.val x.ra.val = 0x80000000#32 ∧ s.gr e.val x.rb.val = 0xFFFFFFFF#32))) ∧
    (∃ (e : Fin 136) (x : FmtT) (s : State), s.issues e.val (x.word 0x0E) = true ∧ x.fn.val = 0 ∧ s.gr e.val x.ra.val = 0x80000000#32 ∧ s.gr e.val x.rb.val = 0xFFFFFFFF#32) ∧
    (∃ (e : Fin 136) (x : FmtT) (s : State), s.issues e.val (x.word 0x0E) = true ∧ x.fn.val = 0 ∧ s.gr e.val x.rb.val = 0) ∧
    (∃ (e : Fin 136) (x : FmtT) (s : State), s.issues e.val (x.word 0x0E) = true ∧ x.fn.val = 1 ∧ s.gr e.val x.rb.val ≠ 0) ∧
    (∃ (e : Fin 136) (x : FmtT) (s : State), s.issues e.val (x.word 0x0E) = true ∧ x.fn.val = 1 ∧ s.gr e.val x.rb.val = 0) :=
  ⟨⟨(5), (⟨0, 0, 1, 2, 1⟩), (wOp 5 (FmtT.word ⟨0, 0, 1, 2, 1⟩ 0x10)), by decide +kernel⟩,
   ⟨(5), (⟨0, 0, 1, 2, 5⟩), (wOp 5 (FmtT.word ⟨0, 0, 1, 2, 5⟩ 0x10)), by decide +kernel⟩,
   ⟨(5), (⟨0, 0, 1, 2, 9⟩), (wOp 5 (FmtT.word ⟨0, 0, 1, 2, 9⟩ 0x10)), by decide +kernel⟩,
   ⟨(5), (⟨0, 0, 1, 2, 13⟩), (wOp 5 (FmtT.word ⟨0, 0, 1, 2, 13⟩ 0x10)), by decide +kernel⟩,
   ⟨(5), (⟨0, 0, 1, 2, 17⟩), (wOp 5 (FmtT.word ⟨0, 0, 1, 2, 17⟩ 0x10)), by decide +kernel⟩,
   ⟨(5), (⟨0, 0, 1, 2, 21⟩), (wOp 5 (FmtT.word ⟨0, 0, 1, 2, 21⟩ 0x10)), by decide +kernel⟩,
   ⟨(5), (⟨0, 0, 1, 2, 25⟩), (wOp 5 (FmtT.word ⟨0, 0, 1, 2, 25⟩ 0x10)), by decide +kernel⟩,
   ⟨(5), (⟨0, 3, 1, 2047⟩), (wOp 5 (FmtI.word ⟨0, 3, 1, 2047⟩ 0x19)), by decide +kernel⟩,
   ⟨(5), (⟨0, 3, 1, 6143⟩), (wOp 5 (FmtI.word ⟨0, 3, 1, 6143⟩ 0x19)), by decide +kernel⟩,
   ⟨(5), (⟨0, 3, 1, 10239⟩), (wOp 5 (FmtI.word ⟨0, 3, 1, 10239⟩ 0x19)), by decide +kernel⟩,
   ⟨(5), (⟨0, 3, 1, 14335⟩), (wOp 5 (FmtI.word ⟨0, 3, 1, 14335⟩ 0x19)), by decide +kernel⟩,
   ⟨(5), (⟨0, 3, 1, 4095⟩), (wOp 5 (FmtI.word ⟨0, 3, 1, 4095⟩ 0x19)), by decide +kernel⟩,
   ⟨(5), (⟨0, 3, 1, 8191⟩), (wOp 5 (FmtI.word ⟨0, 3, 1, 8191⟩ 0x19)), by decide +kernel⟩,
   ⟨(5), (⟨0, 3, 1, 10245⟩), (wOp 5 (FmtI.word ⟨0, 3, 1, 10245⟩ 0x19)), by decide +kernel⟩,
   ⟨(5), (⟨0, 3, 1, 2, 2⟩), (wOp 5 (FmtT.word ⟨0, 3, 1, 2, 2⟩ 0x11)), by decide +kernel⟩,
   ⟨(5), (⟨0, 15, 1, 2, 0⟩), (wOp 5 (FmtT.word ⟨0, 15, 1, 2, 0⟩ 0x0E)), by decide +kernel⟩,
   ⟨(5), (⟨0, 15, 1, 2, 0⟩), (wOp 5 (FmtT.word ⟨0, 15, 1, 2, 0⟩ 0x0E)).setEngine 5 { (wOp 5 (FmtT.word ⟨0, 15, 1, 2, 0⟩ 0x0E)).engine 5 with regs := [(1, 0x80000000), (2, 0xFFFFFFFF)] }, by decide +kernel⟩,
   ⟨(5), (⟨0, 15, 1, 3, 0⟩), (wOp 5 (FmtT.word ⟨0, 15, 1, 3, 0⟩ 0x0E)), by decide +kernel⟩,
   ⟨(5), (⟨0, 15, 1, 2, 1⟩), (wOp 5 (FmtT.word ⟨0, 15, 1, 2, 1⟩ 0x0E)), by decide +kernel⟩,
   ⟨(5), (⟨0, 15, 1, 3, 1⟩), (wOp 5 (FmtT.word ⟨0, 15, 1, 3, 1⟩ 0x0E)), by decide +kernel⟩⟩

/-- The hypotheses of AccumulatorInstructions are met. -/
theorem wit_AccumulatorInstructions :
    (∃ (e : Fin 136) (x : FmtT) (v : Int) (s : State), s.issues e.val (x.word 0x20) = true ∧ (x.rd.val = 0 ∧ x.fn.val < 2) ∧ v = (s.gr e.val x.ra.val).toInt * (s.gr e.val x.rb.val).toInt) ∧
    (∃ (e : Fin 136) (x : FmtT) (v : Int) (s : State), s.issues e.val (x.word 0x21) = true ∧ (x.rd.val = 0 ∧ x.fn.val < 2) ∧ v = s.accu e.val (x.fn.val % 2) + (BitVec.ofNat 24 (s.gr e.val x.ra.val).toNat).toInt * (BitVec.ofNat 24 (s.gr e.val x.rb.val).toNat).toInt) ∧
    (∃ (e : Fin 136) (x : FmtT) (v : Int) (s : State), s.issues e.val (x.word 0x22) = true ∧ (x.rd.val = 0 ∧ x.rb.val = 0 ∧ x.fn.val < 2) ∧ v = s.accu e.val (x.fn.val % 2) + (s.gr e.val x.ra.val).toInt) ∧
    (∃ (e : Fin 136) (x : FmtT) (v : Int) (s : State), s.issues e.val (x.word 0x22) = true ∧ (x.rd.val = 0 ∧ x.rb.val = 0 ∧ 2 ≤ x.fn.val ∧ x.fn.val < 4) ∧ v = (s.gr e.val x.ra.val).toInt) ∧
    (∃ (e : Fin 136) (x : FmtT) (v : Int) (s : State), s.issues e.val (x.word 0x23) = true ∧ (x.ra.val = 0 ∧ x.rb.val = 0 ∧ x.fn.val < 256 ∧ (x.fn.val / 2 % 64) < 48) ∧ (v = (s.accu e.val (x.fn.val % 2) + if 128 ≤ x.fn.val ∧ 0 < (x.fn.val / 2 % 64) then 2 ^ ((x.fn.val / 2 % 64) - 1) else 0) / 2 ^ (x.fn.val / 2 % 64))) ∧
    (∃ (e : Fin 136) (x : FmtT) (v : Int) (s : State), s.issues e.val (x.word 0x24) = true ∧ (x.rb.val = 0 ∧ x.fn.val < 2) ∧ s.gr e.val x.ra.val ≠ 0 ∧ v = Int.tdiv (s.accu e.val (x.fn.val % 2)) (s.gr e.val x.ra.val).toInt) ∧
    (∃ (e : Fin 136) (x : FmtT) (s : State), s.issues e.val (x.word 0x24) = true ∧ (x.rb.val = 0 ∧ x.fn.val < 2) ∧ s.gr e.val x.ra.val = 0) :=
  ⟨⟨(5), (⟨0, 0, 1, 2, 1⟩), (-2748779064), (wOp 5 (FmtT.word ⟨0, 0, 1, 2, 1⟩ 0x20)), by decide +kernel⟩,
   ⟨(5), (⟨0, 0, 1, 2, 0⟩), (-30870072), (wOp 5 (FmtT.word ⟨0, 0, 1, 2, 0⟩ 0x21)), by decide +kernel⟩,
   ⟨(5), (⟨0, 0, 1, 0, 1⟩), (305419896), (wOp 5 (FmtT.word ⟨0, 0, 1, 0, 1⟩ 0x22)), by decide +kernel⟩,
   ⟨(5), (⟨0, 0, 1, 0, 3⟩), (305419896), (wOp 5 (FmtT.word ⟨0, 0, 1, 0, 3⟩ 0x22)), by decide +kernel⟩,
   ⟨(5), (⟨0, 15, 0, 0, 137⟩), (62500), ((wOp 5 (FmtT.word ⟨0, 15, 0, 0, 137⟩ 0x23)).setAccu 5 1 1000000), by decide +kernel⟩,
   ⟨(5), (⟨0, 15, 2, 0, 0⟩), (-111111), ((wOp 5 (FmtT.word ⟨0, 15, 2, 0, 0⟩ 0x24)).setAccu 5 0 1000000), by decide +kernel⟩,
   ⟨(5), (⟨0, 15, 3, 0, 0⟩), (wOp 5 (FmtT.word ⟨0, 15, 3, 0, 0⟩ 0x24)).setAccu 5 0 (-1), by decide +kernel⟩⟩

/-- The hypotheses of BranchesAndExceptions are met. -/
theorem wit_BranchesAndExceptions :
    (∃ (e : Fin 136) (x : FmtJ) (s : State), s.issues e.val (x.word 0x30) = true) ∧
    (∃ (e : Fin 136) (x : FmtJ) (s : State), s.issues e.val (x.word 0x31) = true) ∧
    (∃ (e : Fin 136) (x : FmtT) (s : State), s.issues e.val (x.word 0x32) = true ∧ (x.rd.val = 0 ∧ x.rb.val = 0 ∧ x.fn.val < 2) ∧ (s.gr e.val x.ra.val).toNat % 4 = 0) ∧
    (∃ (e : Fin 136) (x : FmtJ) (s : State), s.issues e.val (x.word 0x33) = true ∧ x.imm.val = 0 ∧ (e.val < 132 ∨ (s.engine e.val).posted = [])) ∧
    (∃ (e : Fin 136) (x : FmtJ) (s : State), s.issues e.val (x.word 0x33) = true ∧ x.imm.val = 0 ∧ 132 ≤ e.val ∧ (s.engine e.val).posted ≠ []) ∧
    (∃ (e : Fin 136) (xt : FmtT) (xi : FmtI) (xl : FmtL) (xj : FmtJ) (i : Instr) (w : Word) (ok : Bool) (s : State), (i, w, ok) ∈ engineForms e xt xi xl xj ∧ s.fetches e.val w = true ∧ s.guard e.val (bitsOf w 31 28) = some false ∧ ok = true) ∧
    (∃ (e : Fin 136) (xt : FmtT) (xi : FmtI) (xl : FmtL) (xj : FmtJ) (i : Instr) (w : Word) (ok : Bool) (v : Word) (s : State), (i, w, ok) ∈ engineForms e xt xi xl xj ∧ (s.engineRuns e.val = false ∨ (s.fetches e.val v = true ∧ v ≠ w ∧ wordDefined v = true))) ∧
    (∃ (e : Fin 136) (xt : FmtT) (xi : FmtI) (xl : FmtL) (xj : FmtJ) (k : Nat) (i : Instr) (w : Word) (ok : Bool) (s : State), (i, w, ok) ∈ engineForms e xt xi xl xj ∧ ((k = 1 ∧ s.fetches e.val w = true ∧ (ok = false ∨ s.guard e.val (bitsOf w 31 28) = none)) ∨ (k = 3 ∧ s.engineRuns e.val = true ∧ (if e.val < 132 then 0x4000 else 0x10000) ≤ (s.engine e.val).pc.toNat)) ∧ e.val < 132 ∧ s.bist.slice = none) ∧
    (∃ (e : Fin 136) (xt : FmtT) (xi : FmtI) (xl : FmtL) (xj : FmtJ) (k : Nat) (i : Instr) (w : Word) (ok : Bool) (s : State), (i, w, ok) ∈ engineForms e xt xi xl xj ∧ ((k = 1 ∧ s.fetches e.val w = true ∧ (ok = false ∨ s.guard e.val (bitsOf w 31 28) = none)) ∨ (k = 3 ∧ s.engineRuns e.val = true ∧ (if e.val < 132 then 0x4000 else 0x10000) ≤ (s.engine e.val).pc.toNat)) ∧ 132 ≤ e.val ∧ (∀ a : Nat, (s.drone (e.val - 132)).lastExpiry = some a → secCycles ≤ s.now - a)) ∧
    (∃ (e : Fin 136) (xt : FmtT) (xi : FmtI) (xl : FmtL) (xj : FmtJ) (i : Instr) (w : Word) (ok : Bool) (s : State), (i, w, ok) ∈ engineForms e xt xi xl xj ∧ s.engineRuns e.val = true ∧ (s.engine e.val).pc.toNat < (if e.val < 132 then 0x4000 else 0x10000) ∧ gridClassify (s.memWord (engineBase e.val + (s.engine e.val).pc.toNat)) = .uncorrectable) ∧
    (∃ (e : Fin 136) (x : FmtT) (s : State), s.issues e.val (x.word 0x32) = true ∧ (x.rd.val = 0 ∧ x.rb.val = 0 ∧ x.fn.val < 2) ∧ (s.gr e.val x.ra.val).toNat % 4 ≠ 0) :=
  ⟨⟨(5), (⟨0, 0x3FFFFF⟩), (wOp 5 (FmtJ.word ⟨0, 0x3FFFFF⟩ 0x30)), by decide +kernel⟩,
   ⟨(132), (⟨0, 5⟩), (wOp 132 (FmtJ.word ⟨0, 5⟩ 0x31)), by decide +kernel⟩,
   ⟨(132), (⟨0, 0, 6, 0, 1⟩), (wOp 132 (FmtT.word ⟨0, 0, 6, 0, 1⟩ 0x32)), by decide +kernel⟩,
   ⟨(132), (⟨0, 0⟩), (wOp 132 (FmtJ.word ⟨0, 0⟩ 0x33)), by decide +kernel⟩,
   ⟨(135), (⟨0, 0⟩), (wOp 135 (FmtJ.word ⟨0, 0⟩ 0x33)).setEngine 135 { (wOp 135 (FmtJ.word ⟨0, 0⟩ 0x33)).engine 135 with posted := [⟨0x23000000, true, 5⟩] }, by decide +kernel⟩,
   ⟨(5), (⟨2, 1, 2, 3, 0⟩), (⟨0, 0, 0, 0⟩), (⟨0, 0, 0⟩), (⟨0, 0⟩), (.add 5 ⟨2, 1, 2, 3, 0⟩), (FmtT.word ⟨2, 1, 2, 3, 0⟩ 0x02), (true), wOp 5 (FmtT.word ⟨2, 1, 2, 3, 0⟩ 0x02), by decide +kernel⟩,
   ⟨(5), (⟨2, 1, 2, 3, 0⟩), (⟨0, 0, 0, 0⟩), (⟨0, 0, 0⟩), (⟨0, 0⟩), (.add 5 ⟨2, 1, 2, 3, 0⟩), (FmtT.word ⟨2, 1, 2, 3, 0⟩ 0x02), (true), (0), wCht, by decide +kernel⟩,
   ⟨(5), (⟨0, 1, 2, 3, 1⟩), (⟨0, 0, 0, 0⟩), (⟨0, 0, 0⟩), (⟨0, 0⟩), (1), (.add 5 ⟨0, 1, 2, 3, 1⟩), (FmtT.word ⟨0, 1, 2, 3, 1⟩ 0x02), (false), wOp 5 (FmtT.word ⟨0, 1, 2, 3, 1⟩ 0x02), by decide +kernel⟩,
   ⟨(132), (⟨0, 1, 2, 3, 1⟩), (⟨0, 0, 0, 0⟩), (⟨0, 0, 0⟩), (⟨0, 0⟩), (1), (.add 132 ⟨0, 1, 2, 3, 1⟩), (FmtT.word ⟨0, 1, 2, 3, 1⟩ 0x02), (false), wOp 132 (FmtT.word ⟨0, 1, 2, 3, 1⟩ 0x02), by decide +kernel⟩,
   ⟨(5), (⟨2, 1, 2, 3, 0⟩), (⟨0, 0, 0, 0⟩), (⟨0, 0, 0⟩), (⟨0, 0⟩), (.add 5 ⟨2, 1, 2, 3, 0⟩), (FmtT.word ⟨2, 1, 2, 3, 0⟩ 0x02), (true), wEng.setMemWord (engineBase 5) gridUnwritten, by decide +kernel⟩,
   ⟨(132), (⟨0, 0, 1, 0, 0⟩), (wOp 132 (FmtT.word ⟨0, 0, 1, 0, 0⟩ 0x32)).setEngine 132 { (wOp 132 (FmtT.word ⟨0, 0, 1, 0, 0⟩ 0x32)).engine 132 with regs := [(1, 2)] }, by decide +kernel⟩⟩

/-- The hypotheses of LoadsAndStores are met. -/
theorem wit_LoadsAndStores :
    (∃ (e : Fin 136) (x : FmtI) (a m : Nat) (v : BitVec 64) (s : State), s.issues e.val (x.word 0x28) = true ∧ a = (s.gr e.val x.ra.val + x.sext).toNat ∧ a < (if e.val < 132 then 0x2000 else 0x20000) ∧ m = (if e.val < 132 then engineData e.val else engineBase e.val) + a ∧ a % 4 = 0 ∧ s.memWord m = gridEncode v) ∧
    (∃ (e : Fin 136) (x : FmtI) (a m : Nat) (v : BitVec 64) (s : State), s.issues e.val (x.word 0x29) = true ∧ a = (s.gr e.val x.ra.val + x.sext).toNat ∧ a < (if e.val < 132 then 0x2000 else 0x20000) ∧ m = (if e.val < 132 then engineData e.val else engineBase e.val) + a ∧ x.rd.val % 2 = 0 ∧ a % 8 = 0 ∧ s.memWord m = gridEncode v) ∧
    (∃ (e : Fin 136) (x : FmtI) (a m : Nat) (i : Instr) (w : Word) (n : Nat) (s : State), (i, w, n) ∈ [(.ldw e x, x.word 0x28, 4), (.ldd e x, x.word 0x29, 8)] ∧ s.issues e.val w = true ∧ a = (s.gr e.val x.ra.val + x.sext).toNat ∧ a < (if e.val < 132 then 0x2000 else 0x20000) ∧ m = (if e.val < 132 then engineData e.val else engineBase e.val) + a ∧ (n = 8 → x.rd.val % 2 = 0) ∧ a % n = 0 ∧ gridClassify (s.memWord m) = .uncorrectable) ∧
    (∃ (e : Fin 136) (x : FmtI) (a m : Nat) (s : State), s.issues e.val (x.word 0x2B) = true ∧ a = (s.gr e.val x.ra.val + x.sext).toNat ∧ a < (if e.val < 132 then 0x2000 else 0x20000) ∧ m = (if e.val < 132 then engineData e.val else engineBase e.val) + a ∧ (132 ≤ e.val → 0x10000 ≤ a) ∧ x.rd.val % 2 = 0 ∧ a % 8 = 0) ∧
    (∃ (e : Fin 136) (x : FmtI) (a : Nat) (s : State), s.issues e.val (x.word 0x28) = true ∧ a = (s.gr e.val x.ra.val + x.sext).toNat ∧ 132 ≤ e.val ∧ 0x20000 ≤ a ∧ a % 4 = 0) ∧
    (∃ (e : Fin 136) (x : FmtI) (a : Nat) (s : State), s.issues e.val (x.word 0x29) = true ∧ a = (s.gr e.val x.ra.val + x.sext).toNat ∧ 132 ≤ e.val ∧ 0x20000 ≤ a ∧ (a < 0x10000000 ∨ 0x10140000 ≤ a) ∧ x.rd.val % 2 = 0 ∧ a % 8 = 0) ∧
    (∃ (e : Fin 136) (x : FmtI) (a : Nat) (s : State), s.issues e.val (x.word 0x2A) = true ∧ a = (s.gr e.val x.ra.val + x.sext).toNat ∧ 132 ≤ e.val ∧ 0x10000000 ≤ a ∧ a < 0x10140000 ∧ a % 4 = 0) ∧
    (∃ (e : Fin 136) (x : FmtI) (a : Nat) (s : State), s.issues e.val (x.word 0x2B) = true ∧ a = (s.gr e.val x.ra.val + x.sext).toNat ∧ 132 ≤ e.val ∧ 0x20000 ≤ a ∧ (a < 0x10000000 ∨ 0x10140000 ≤ a) ∧ x.rd.val % 2 = 0 ∧ a % 8 = 0) ∧
    (∃ (e : Fin 136) (x : FmtI) (a : Nat) (i : Instr) (w : Word) (n : Nat) (st : Bool) (s : State), (i, w, n, st) ∈ [(.ldw e x, x.word 0x28, 4, false), (.ldd e x, x.word 0x29, 8, false), (.stw e x, x.word 0x2A, 4, true), (.std e x, x.word 0x2B, 8, true)] ∧ s.issues e.val w = true ∧ (n = 8 → x.rd.val % 2 = 0) ∧ (st = true → n = 4 → 132 ≤ e.val) ∧ a = (s.gr e.val x.ra.val + x.sext).toNat ∧ a % n ≠ 0) ∧
    (∃ (e : Fin 136) (x : FmtI) (a : Nat) (i : Instr) (w : Word) (n : Nat) (st : Bool) (s : State), (i, w, n, st) ∈ [(.ldw e x, x.word 0x28, 4, false), (.ldd e x, x.word 0x29, 8, false), (.stw e x, x.word 0x2A, 4, true), (.std e x, x.word 0x2B, 8, true)] ∧ s.issues e.val w = true ∧ (n = 8 → x.rd.val % 2 = 0) ∧ (st = true → n = 4 → 132 ≤ e.val) ∧ a = (s.gr e.val x.ra.val + x.sext).toNat ∧ a % n = 0 ∧ ((e.val < 132 ∧ 0x2000 ≤ a) ∨ (132 ≤ e.val ∧ ((st = true ∧ (a < 0x10000 ∨ (n = 4 ∧ (a < 0x20000 ∨ spineKind a = 1)))) ∨ (n = 8 ∧ 0x10000000 ≤ a ∧ a < 0x10140000))))) ∧
    (∃ (d : Fin 4) (dbl : Bool) (rd : Fin 16) (a : Nat) (v : BitVec 64) (u s : State), (s.engine (132 + d.val)).wait = .load dbl rd.val a ∧ (s.engine (132 + d.val)).posted = [] ∧ s.spineTry (.drone d) none false a (if dbl then 8 else 4) 0 0 (.load (132 + d.val)) = (u, some (.ok, v))) ∧
    (∃ (d : Fin 4) (dbl : Bool) (rd : Fin 16) (a : Nat) (r : Resp) (v : BitVec 64) (u s : State), (s.engine (132 + d.val)).wait = .load dbl rd.val a ∧ (s.engine (132 + d.val)).posted = [] ∧ s.spineTry (.drone d) none false a (if dbl then 8 else 4) 0 0 (.load (132 + d.val)) = (u, some (r, v)) ∧ r ≠ .ok) ∧
    (∃ (d : Fin 4) (rd : Fin 16) (a : Nat) (s : State), (s.engine (132 + d.val)).wait = .load false rd.val a ∧ (s.engine (132 + d.val)).posted = [] ∧ s.stallFailed (.load (132 + d.val)) = false ∧ (spineDecodes a = false ∨ (spineDecodes a = true ∧ s.domOn ((addrDomain a).getD 0) = false ∧ s.bit (F.PWR_D_CTL_WOA ((addrDomain a).getD 0)) = false) ∨ a ∈ [R.IRQ_BERR_COUNT, R.ECC_CORR_COUNT, R.ECC_UNCORR_COUNT])) ∧
    (∃ (d : Fin 4) (s : State), ((s.engine (132 + d.val)).posted ≠ [] ∨ (s.engine (132 + d.val)).wait = .none ∨ (s.engine (132 + d.val)).wait = .fence)) ∧
    (∃ (d : Fin 4) (p : Posted) (q : List Posted) (r : Resp) (v : BitVec 64) (u s : State), (s.engine (132 + d.val)).posted = p :: q ∧ s.spineTry (.drone d) none true p.addr (if p.double then 8 else 4) p.value 0 (.store (132 + d.val)) = (u, some (r, v)) ∧ u.engine (132 + d.val) = s.engine (132 + d.val)) ∧
    (∃ (d : Fin 4) (g : RegDesc) (i j : Nat) (p : Posted) (q : List Posted) (s : State), (s.engine (132 + d.val)).posted = p :: q ∧ p.double = false ∧ p.addr % 4 = 0 ∧ regRow? p.addr = some (g, i, j) ∧ rowActs ((p.addr - 0x10000000) / 0x10000) g.off = false ∧ g.takes (p.value.truncate 32) = true ∧ s.domOn ((addrDomain p.addr).getD 0) = true ∧ s.stallFailed (.store (132 + d.val)) = false) ∧
    (∃ (d : Fin 4) (s : State), (s.engine (132 + d.val)).posted = []) :=
  ⟨⟨(5), (⟨0, 15, 6, 4⟩), (0x24), (0x4002C024), (0x1122334455667788), (wOp 5 (FmtI.word ⟨0, 15, 6, 4⟩ 0x28)).memWrite (engineData 5 + 0x20) 0x1122334455667788, by decide +kernel⟩,
   ⟨(5), (⟨0, 14, 6, 0⟩), (0x20), (0x4002C020), (0x1122334455667788), (wOp 5 (FmtI.word ⟨0, 14, 6, 0⟩ 0x29)).memWrite (engineData 5 + 0x20) 0x1122334455667788, by decide +kernel⟩,
   ⟨(5), (⟨0, 14, 6, 0⟩), (0x20), (0x4002C020), (.ldd 5 ⟨0, 14, 6, 0⟩), (FmtI.word ⟨0, 14, 6, 0⟩ 0x29), (8), (wOp 5 (FmtI.word ⟨0, 14, 6, 0⟩ 0x29)).setMemWord (engineData 5 + 0x20) gridUnwritten, by decide +kernel⟩,
   ⟨(5), (⟨0, 2, 6, 8⟩), (0x28), (0x4002C028), (wOp 5 (FmtI.word ⟨0, 2, 6, 8⟩ 0x2B)), by decide +kernel⟩,
   ⟨(132), (⟨0, 15, 1, 0⟩), (R.IRQ_BERR_COUNT), (wOp 132 (FmtI.word ⟨0, 15, 1, 0⟩ 0x28)).setEngine 132 { (wOp 132 (FmtI.word ⟨0, 15, 1, 0⟩ 0x28)).engine 132 with regs := [(1, BitVec.ofNat 32 R.IRQ_BERR_COUNT)] }, by decide +kernel⟩,
   ⟨(132), (⟨0, 14, 1, 0⟩), (0x23000000), (wOp 132 (FmtI.word ⟨0, 14, 1, 0⟩ 0x29)).setEngine 132 { (wOp 132 (FmtI.word ⟨0, 14, 1, 0⟩ 0x29)).engine 132 with regs := [(1, 0x23000000)] }, by decide +kernel⟩,
   ⟨(132), (⟨0, 2, 1, 0⟩), (R.WHEEL_PORT_PRIV), (wOp 132 (FmtI.word ⟨0, 2, 1, 0⟩ 0x2A)).setEngine 132 { (wOp 132 (FmtI.word ⟨0, 2, 1, 0⟩ 0x2A)).engine 132 with regs := [(1, BitVec.ofNat 32 R.WHEEL_PORT_PRIV), (2, 77)] }, by decide +kernel⟩,
   ⟨(132), (⟨0, 2, 1, 0⟩), (0x23000000), (wOp 132 (FmtI.word ⟨0, 2, 1, 0⟩ 0x2B)).setEngine 132 { (wOp 132 (FmtI.word ⟨0, 2, 1, 0⟩ 0x2B)).engine 132 with regs := [(1, 0x23000000), (2, 77)] }, by decide +kernel⟩,
   ⟨(132), (⟨0, 15, 1, 0⟩), (0x10000002), (.ldw 132 ⟨0, 15, 1, 0⟩), (FmtI.word ⟨0, 15, 1, 0⟩ 0x28), (4), (false), (wOp 132 (FmtI.word ⟨0, 15, 1, 0⟩ 0x28)).setEngine 132 { (wOp 132 (FmtI.word ⟨0, 15, 1, 0⟩ 0x28)).engine 132 with regs := [(1, 0x10000002)] }, by decide +kernel⟩,
   ⟨(132), (⟨0, 14, 1, 0⟩), (0x10000000), (.ldd 132 ⟨0, 14, 1, 0⟩), (FmtI.word ⟨0, 14, 1, 0⟩ 0x29), (8), (false), (wOp 132 (FmtI.word ⟨0, 14, 1, 0⟩ 0x29)).setEngine 132 { (wOp 132 (FmtI.word ⟨0, 14, 1, 0⟩ 0x29)).engine 132 with regs := [(1, 0x10000000)] }, by decide +kernel⟩,
   ⟨(3), (false), (9), (R.IRQ_BERR_COUNT), (55), (wEng.setEngine 135 { wEng.engine 135 with wait := .load false 9 R.IRQ_BERR_COUNT }), (wEng.setEngine 135 { wEng.engine 135 with wait := .load false 9 R.IRQ_BERR_COUNT }).wr R.IRQ_BERR_COUNT 55, by decide +kernel⟩,
   ⟨(3), (false), (9), (0x50000000), (.decode), (0), (wEng.setEngine 135 { wEng.engine 135 with wait := .load false 9 0x50000000 }), (wEng.setEngine 135 { wEng.engine 135 with wait := .load false 9 0x50000000 }), by decide +kernel⟩,
   ⟨(3), (9), (0x50000000), (wEng.setEngine 135 { wEng.engine 135 with wait := .load false 9 0x50000000 }), by decide +kernel⟩,
   ⟨(3), wEng, by decide +kernel⟩,
   ⟨(3), (⟨R.ECC_SCRUB_FILL_LO, false, 99⟩), ([]), (.ok), (0), (wEng.setEngine 135 { wEng.engine 135 with posted := [⟨R.ECC_SCRUB_FILL_LO, false, 99⟩], wait := .fence }).wr R.ECC_SCRUB_FILL_LO 99, wEng.setEngine 135 { wEng.engine 135 with posted := [⟨R.ECC_SCRUB_FILL_LO, false, 99⟩], wait := .fence }, by decide +kernel⟩,
   ⟨(3), ((regRow? R.ECC_SCRUB_FILL_LO).get (by decide +kernel)).1, 0, 0, (⟨R.ECC_SCRUB_FILL_LO, false, 99⟩), ([]), wEng.setEngine 135 { wEng.engine 135 with posted := [⟨R.ECC_SCRUB_FILL_LO, false, 99⟩], wait := .fence }, by decide +kernel⟩,
   ⟨(3), wEng, by decide +kernel⟩⟩

/-- The hypotheses of SpecialInstructions are met. -/
theorem wit_SpecialInstructions :
    (∃ (e : Fin 136) (x : FmtT) (s : State), s.issues e.val (x.word 0x34) = true ∧ (x.rd.val % 8 = 0 ∧ x.ra.val = 0 ∧ x.rb.val = 0) ∧ (x.fn.val = 1 ∨ x.fn.val = 2)) ∧
    (∃ (e : Fin 136) (x : FmtT) (on : Bool) (n : Nat) (s : State), s.issues e.val (x.word 0x34) = true ∧ (x.rd.val % 8 = 0 ∧ x.ra.val = 0 ∧ x.rb.val = 0) ∧ x.fn.val = 3 ∧ on = (s.tRuns && s.tick.started) ∧ n = (if on = true then s.tick.len else s.get F.WHEEL_T_CFG_TICK_CYC)) ∧
    (∃ (e : Fin 136) (x : FmtT) (s : State), s.issues e.val (x.word 0x35) = true ∧ (x.rd.val % 2 = 0 ∧ x.ra.val = 0 ∧ x.rb.val = 0 ∧ x.fn.val = 0)) ∧
    (∃ (e : Fin 136) (x : FmtT) (s : State), s.issues e.val (x.word 0x36) = true ∧ (x.ra.val = 0 ∧ x.rb.val = 0) ∧ x.fn.val < 12) ∧
    (∃ (e : Fin 136) (x : FmtT) (s : State), s.issues e.val (x.word 0x39) = true ∧ (x.fn.val = 0 ∧ x.ra.val = 0 ∧ x.rb.val = 0)) ∧
    (∃ (e : Fin 136) (x : FmtT) (s : State), s.issues e.val (x.word 0x39) = true ∧ (x.fn.val = 1 ∧ x.rd.val = 0 ∧ x.rb.val = 0)) ∧
    (∃ (e : Fin 136) (x : FmtT) (s : State), s.issues e.val (x.word 0x37) = true ∧ x.ra.val % 2 = 0 ∧ x.fn.val = 0 ∧ (s.engine e.val).inserts + (s.engine e.val).answers.length < 8 ∧ (s.portFifo (insertPort (.engine e x.rd false))).length < 8) ∧
    (∃ (e : Fin 136) (x : FmtT) (s : State), s.issues e.val (x.word 0x37) = true ∧ x.ra.val % 2 = 0 ∧ x.fn.val = 1 ∧ (s.engine e.val).inserts + (s.engine e.val).answers.length < 8 ∧ (s.portFifo (insertPort (.engine e x.rd true))).length < 8) ∧
    (∃ (e : Fin 136) (x : FmtT) (s : State), s.issues e.val (x.word 0x37) = true ∧ x.ra.val % 2 = 0 ∧ x.fn.val < 2 ∧ (s.engine e.val).inserts + (s.engine e.val).answers.length < 8 ∧ 8 ≤ (s.portFifo (insertPort (.engine e x.rd false))).length) ∧
    (∃ (e : Fin 136) (x : FmtT) (s : State), s.issues e.val (x.word 0x37) = true ∧ x.ra.val % 2 = 0 ∧ x.fn.val < 2 ∧ 8 ≤ (s.engine e.val).inserts + (s.engine e.val).answers.length) ∧
    (∃ (e : Fin 136) (x : FmtT) (s : State), s.issues e.val (x.word 0x38) = true ∧ (x.ra.val = 0 ∧ x.rb.val = 0 ∧ x.fn.val = 0)) ∧
    (∃ (e : Fin 136) (x : FmtI) (n : Nat) (m : Bool) (r : List (Nat × Bool)) (s : State), s.issues e.val (x.word 0x2D) = true ∧ 132 ≤ e.val ∧ x.rd.val = 0 ∧ (x.ra.val = 0 ∧ x.imm.val < 1024 ∧ n = x.imm.val ∨ x.imm.val = 8192 ∧ n = (s.gr e.val x.ra.val).toNat % 1024) ∧ (s.drone (e.val - 132)).stack = (n, m) :: r ∧ s.level (e.val - 132) = Lv.fast) ∧
    (∃ (e : Fin 136) (x : FmtI) (n : Nat) (v : BitVec 64) (m : Bool) (r : List (Nat × Bool)) (s : State), s.issues e.val (x.word 0x2D) = true ∧ 132 ≤ e.val ∧ x.rd.val = 0 ∧ (x.ra.val = 0 ∧ x.imm.val < 1024 ∧ n = x.imm.val ∨ x.imm.val = 8192 ∧ n = (s.gr e.val x.ra.val).toNat % 1024) ∧ (s.drone (e.val - 132)).stack = (n, m) :: r ∧ s.level (e.val - 132) = Lv.normal ∧ stackOk ((s.engine e.val).reg 14).toNat = true ∧ s.memWord (engineBase e.val + ((s.engine e.val).reg 14).toNat) = gridEncode v) ∧
    (∃ (e : Fin 136) (x : FmtI) (n : Nat) (s : State), s.issues e.val (x.word 0x2D) = true ∧ 132 ≤ e.val ∧ x.rd.val = 0 ∧ (x.ra.val = 0 ∧ x.imm.val < 1024 ∧ n = x.imm.val ∨ x.imm.val = 8192 ∧ n = (s.gr e.val x.ra.val).toNat % 1024) ∧ ((s.drone (e.val - 132)).stack.head?.map (fun y => y.1) ≠ some n ∨ s.level (e.val - 132) = Lv.base)) ∧
    (∃ (e : Fin 136) (x : FmtI) (n : Nat) (m : Bool) (r : List (Nat × Bool)) (s : State), s.issues e.val (x.word 0x2D) = true ∧ 132 ≤ e.val ∧ x.rd.val = 0 ∧ (x.ra.val = 0 ∧ x.imm.val < 1024 ∧ n = x.imm.val ∨ x.imm.val = 8192 ∧ n = (s.gr e.val x.ra.val).toNat % 1024) ∧ (s.drone (e.val - 132)).stack = (n, m) :: r ∧ s.level (e.val - 132) = Lv.normal ∧ (stackOk ((s.engine e.val).reg 14).toNat = false ∨ gridClassify (s.memWord (engineBase e.val + ((s.engine e.val).reg 14).toNat)) = .uncorrectable)) ∧
    (∃ (e : Fin 136) (x : FmtI) (n : Nat) (s : State), s.issues e.val (x.word 0x2E) = true ∧ 132 ≤ e.val ∧ x.rd.val = 0 ∧ (x.ra.val = 0 ∧ x.imm.val < 1024 ∧ n = x.imm.val ∨ x.imm.val = 8192 ∧ n = (s.gr e.val x.ra.val).toNat % 1024) ∧ 920 ≤ n) ∧
    (∃ (e : Fin 136) (x : FmtI) (s : State), s.issues e.val (x.word 0x2E) = true ∧ 132 ≤ e.val ∧ x.rd.val = 0 ∧ x.imm.val = 8192 ∧ (s.gr e.val x.ra.val).toNat % 1024 < 920) ∧
    (∃ (e : Fin 136) (x : FmtJ) (s : State), s.issues e.val (x.word 0x2F) = true ∧ 132 ≤ e.val ∧ x.imm.val = 0 ∧ s.bist.slice = none) :=
  ⟨⟨(5), (⟨0, 8, 0, 0, 1⟩), (wOp 5 (FmtT.word ⟨0, 8, 0, 0, 1⟩ 0x34)), by decide +kernel⟩,
   ⟨(5), (⟨0, 8, 0, 0, 3⟩), true, 640, { (wOp 5 (FmtT.word ⟨0, 8, 0, 0, 3⟩ 0x34)) with tick := { started := true, len := 640, last := 1280, start := 64 } }.set F.WHEEL_T_CFG_RUN 1 |>.set F.WHEEL_T_CFG_TICK_CYC 640 |>.setDom 2 { hw := some 77 }, by decide +kernel⟩,
   ⟨(5), (⟨0, 14, 0, 0, 0⟩), { (wOp 5 (FmtT.word ⟨0, 14, 0, 0, 0⟩ 0x35)) with now := 0x123456789AB }, by decide +kernel⟩,
   ⟨(5), (⟨0, 14, 0, 0, 3⟩), (wOp 5 (FmtT.word ⟨0, 14, 0, 0, 3⟩ 0x36)), by decide +kernel⟩,
   ⟨(5), (⟨0, 14, 0, 0, 0⟩), (wOp 5 (FmtT.word ⟨0, 14, 0, 0, 0⟩ 0x39)), by decide +kernel⟩,
   ⟨(132), (⟨0, 0, 1, 0, 1⟩), (wOp 132 (FmtT.word ⟨0, 0, 1, 0, 1⟩ 0x39)).setEngine 132 { (wOp 132 (FmtT.word ⟨0, 0, 1, 0, 1⟩ 0x39)).engine 132 with st := 0x3E05, regs := [(1, 0x0A8A)] }, by decide +kernel⟩,
   ⟨(5), (⟨0, 9, 2, 1, 0⟩), (wOp 5 (FmtT.word ⟨0, 9, 2, 1, 0⟩ 0x37)), by decide +kernel⟩,
   ⟨(5), (⟨0, 9, 2, 1, 1⟩), (wOp 5 (FmtT.word ⟨0, 9, 2, 1, 1⟩ 0x37)), by decide +kernel⟩,
   ⟨(135), (⟨0, 9, 2, 1, 1⟩), (wOp 135 (FmtT.word ⟨0, 9, 2, 1, 1⟩ 0x37)).setPortFifo 3 (List.replicate 8 ⟨1, 2, 3, .drone 3⟩), by decide +kernel⟩,
   ⟨(5), (⟨0, 9, 2, 1, 0⟩), (wOp 5 (FmtT.word ⟨0, 9, 2, 1, 0⟩ 0x37)).setEngine 5 { (wOp 5 (FmtT.word ⟨0, 9, 2, 1, 0⟩ 0x37)).engine 5 with answers := [4, 0, 0], inserts := 5 }, by decide +kernel⟩,
   ⟨(5), (⟨0, 9, 0, 0, 0⟩), (wOp 5 (FmtT.word ⟨0, 9, 0, 0, 0⟩ 0x38)).setEngine 5 { (wOp 5 (FmtT.word ⟨0, 9, 0, 0, 0⟩ 0x38)).engine 5 with answers := [4, 0], inserts := 2 }, by decide +kernel⟩,
   ⟨(132), (⟨0, 0, 0, 910⟩), (910), (true), ([(5, false)]), ((wOp 132 (FmtI.word ⟨0, 0, 0, 910⟩ 0x2D)).setEngine 132 { (wOp 132 (FmtI.word ⟨0, 0, 0, 910⟩ 0x2D)).engine 132 with st := 0x50, fpc := 0x120, fst := 0x185 }).setDrone 0 { stack := [(910, true), (5, false)] }, by decide +kernel⟩,
   ⟨(132), (⟨0, 0, 0, 5⟩), (5), (0x0000012000000185), (false), ([]), (((wOp 132 (FmtI.word ⟨0, 0, 0, 5⟩ 0x2D)).setEngine 132 { (wOp 132 (FmtI.word ⟨0, 0, 0, 5⟩ 0x2D)).engine 132 with st := 0x20, regs := [(14, 0x10100)] }).setDrone 0 { stack := [(5, false)] }).memWrite (engineBase 132 + 0x10100) 0x0000012000000185, by decide +kernel⟩,
   ⟨(132), (⟨0, 0, 0, 5⟩), (5), (wOp 132 (FmtI.word ⟨0, 0, 0, 5⟩ 0x2D)), by decide +kernel⟩,
   ⟨(132), (⟨0, 0, 0, 5⟩), (5), (false), ([]), ((wOp 132 (FmtI.word ⟨0, 0, 0, 5⟩ 0x2D)).setEngine 132 { (wOp 132 (FmtI.word ⟨0, 0, 0, 5⟩ 0x2D)).engine 132 with st := 0x20, regs := [(14, 0x10104)] }).setDrone 0 { stack := [(5, false)] }, by decide +kernel⟩,
   ⟨(132), (⟨0, 0, 0, 920⟩), (920), (wOp 132 (FmtI.word ⟨0, 0, 0, 920⟩ 0x2E)), by decide +kernel⟩,
   ⟨(132), (⟨0, 0, 15, 8192⟩), (wOp 132 (FmtI.word ⟨0, 0, 15, 8192⟩ 0x2E)), by decide +kernel⟩,
   ⟨(132), (⟨0, 0⟩), (wOp 132 (FmtJ.word ⟨0, 0⟩ 0x2F)), by decide +kernel⟩⟩

/-- The hypotheses of ChanterInstructions are met. -/
theorem wit_ChanterInstructions :
    (∃ (e : Fin 136) (x : FmtT) (i : DrainItem) (r : List DrainItem) (s : State), s.issues e.val (x.word 0x3A) = true ∧ e.val < 132 ∧ (x.rd.val % 4 = 0 ∧ x.ra.val = 0 ∧ x.rb.val = 0 ∧ x.fn.val < 4) ∧ s.drainOf e.val = i :: r) ∧
    (∃ (e : Fin 136) (x : FmtT) (s : State), s.issues e.val (x.word 0x3A) = true ∧ e.val < 132 ∧ (x.rd.val % 4 = 0 ∧ x.ra.val = 0 ∧ x.rb.val = 0 ∧ x.fn.val < 4) ∧ s.drainOf e.val = []) ∧
    (∃ (e : Fin 136) (x : FmtT) (i : DrainItem) (r : List DrainItem) (s : State), s.issues e.val (x.word 0x27) = true ∧ e.val < 132 ∧ (x.rd.val = 0 ∧ x.ra.val = 0 ∧ x.rb.val = 0 ∧ x.fn.val = 0) ∧ s.pairOf e.val < 128 ∧ (s.pair (s.pairOf e.val)).drain = i :: r) ∧
    (∃ (e : Fin 136) (x : FmtT) (s : State), s.issues e.val (x.word 0x27) = true ∧ e.val < 132 ∧ (x.rd.val = 0 ∧ x.ra.val = 0 ∧ x.rb.val = 0 ∧ x.fn.val = 0) ∧ s.drainOf e.val = []) ∧
    (∃ (e : Fin 136) (x : FmtT) (p l f : Nat) (w : Word) (d : Int) (s : State), s.issues e.val (x.word 0x3B) = true ∧ e.val < 132 ∧ (x.rd.val % 2 = 0 ∧ x.fn.val < 64 ∧ x.fn.val / 2 % 16 < 12) ∧ p = s.pairOf e.val ∧ p < 128 ∧ l = 2 * p + x.fn.val % 2 ∧ bitsOf (s.gr e.val x.ra.val) 31 30 ≠ 0 ∧ w = (if bitsOf (s.gr e.val x.ra.val) 23 14 < 640 then s.gr e.val x.ra.val else setBitsOf (s.gr e.val x.ra.val) 23 14 (bitsOf (s.gr e.val x.ra.val) 23 14 - 640)) ∧ d = (s.gr e.val x.rb.val - BitVec.ofNat 32 (openFrame s.now)).toInt + (if bitsOf (s.gr e.val x.ra.val) 23 14 < 640 then 0 else 1) ∧ 0 ≤ d ∧ d + openFrame s.now ≤ currentFrame s.now + 15 ∧ f = openFrame s.now + d.toNat ∧ (s.lane l).store.find? (fun y => y.frame == f && y.slot == x.fn.val / 2 % 16) = none ∧ (s.lane l).store.length < 32) ∧
    (∃ (e : Fin 136) (x : FmtT) (p l f : Nat) (w : Word) (d : Int) (y : SlotEntry) (s : State), s.issues e.val (x.word 0x3B) = true ∧ e.val < 132 ∧ (x.rd.val % 2 = 0 ∧ x.fn.val < 64 ∧ x.fn.val / 2 % 16 < 12) ∧ p = s.pairOf e.val ∧ p < 128 ∧ l = 2 * p + x.fn.val % 2 ∧ bitsOf (s.gr e.val x.ra.val) 31 30 ≠ 0 ∧ w = (if bitsOf (s.gr e.val x.ra.val) 23 14 < 640 then s.gr e.val x.ra.val else setBitsOf (s.gr e.val x.ra.val) 23 14 (bitsOf (s.gr e.val x.ra.val) 23 14 - 640)) ∧ d = (s.gr e.val x.rb.val - BitVec.ofNat 32 (openFrame s.now)).toInt + (if bitsOf (s.gr e.val x.ra.val) 23 14 < 640 then 0 else 1) ∧ 0 ≤ d ∧ d + openFrame s.now ≤ currentFrame s.now + 15 ∧ f = openFrame s.now + d.toNat ∧ (s.lane l).store.find? (fun z => z.frame == f && z.slot == x.fn.val / 2 % 16) = some y ∧ y.word = w) ∧
    (∃ (e : Fin 136) (x : FmtT) (p l f : Nat) (w : Word) (d : Int) (y : SlotEntry) (s : State), s.issues e.val (x.word 0x3B) = true ∧ e.val < 132 ∧ (x.rd.val % 2 = 0 ∧ x.fn.val < 64 ∧ x.fn.val / 2 % 16 < 12) ∧ p = s.pairOf e.val ∧ p < 128 ∧ l = 2 * p + x.fn.val % 2 ∧ bitsOf (s.gr e.val x.ra.val) 31 30 ≠ 0 ∧ w = (if bitsOf (s.gr e.val x.ra.val) 23 14 < 640 then s.gr e.val x.ra.val else setBitsOf (s.gr e.val x.ra.val) 23 14 (bitsOf (s.gr e.val x.ra.val) 23 14 - 640)) ∧ d = (s.gr e.val x.rb.val - BitVec.ofNat 32 (openFrame s.now)).toInt + (if bitsOf (s.gr e.val x.ra.val) 23 14 < 640 then 0 else 1) ∧ 0 ≤ d ∧ d + openFrame s.now ≤ currentFrame s.now + 15 ∧ f = openFrame s.now + d.toNat ∧ (s.lane l).store.find? (fun z => z.frame == f && z.slot == x.fn.val / 2 % 16) = some y ∧ y.word ≠ w ∧ bitsOf w 23 14 < bitsOf y.word 23 14) ∧
    (∃ (e : Fin 136) (x : FmtT) (p l f : Nat) (w : Word) (d : Int) (y : SlotEntry) (s : State), s.issues e.val (x.word 0x3B) = true ∧ e.val < 132 ∧ (x.rd.val % 2 = 0 ∧ x.fn.val < 64 ∧ x.fn.val / 2 % 16 < 12) ∧ p = s.pairOf e.val ∧ p < 128 ∧ l = 2 * p + x.fn.val % 2 ∧ bitsOf (s.gr e.val x.ra.val) 31 30 ≠ 0 ∧ w = (if bitsOf (s.gr e.val x.ra.val) 23 14 < 640 then s.gr e.val x.ra.val else setBitsOf (s.gr e.val x.ra.val) 23 14 (bitsOf (s.gr e.val x.ra.val) 23 14 - 640)) ∧ d = (s.gr e.val x.rb.val - BitVec.ofNat 32 (openFrame s.now)).toInt + (if bitsOf (s.gr e.val x.ra.val) 23 14 < 640 then 0 else 1) ∧ 0 ≤ d ∧ d + openFrame s.now ≤ currentFrame s.now + 15 ∧ f = openFrame s.now + d.toNat ∧ (s.lane l).store.find? (fun z => z.frame == f && z.slot == x.fn.val / 2 % 16) = some y ∧ y.word ≠ w ∧ bitsOf y.word 23 14 ≤ bitsOf w 23 14) ∧
    (∃ (e : Fin 136) (x : FmtT) (p l : Nat) (w : Word) (d : Int) (s : State), s.issues e.val (x.word 0x3B) = true ∧ e.val < 132 ∧ (x.rd.val % 2 = 0 ∧ x.fn.val < 64 ∧ x.fn.val / 2 % 16 < 12) ∧ p = s.pairOf e.val ∧ p < 128 ∧ l = 2 * p + x.fn.val % 2 ∧ bitsOf (s.gr e.val x.ra.val) 31 30 ≠ 0 ∧ w = (if bitsOf (s.gr e.val x.ra.val) 23 14 < 640 then s.gr e.val x.ra.val else setBitsOf (s.gr e.val x.ra.val) 23 14 (bitsOf (s.gr e.val x.ra.val) 23 14 - 640)) ∧ d = (s.gr e.val x.rb.val - BitVec.ofNat 32 (openFrame s.now)).toInt + (if bitsOf (s.gr e.val x.ra.val) 23 14 < 640 then 0 else 1) ∧ (d < 0 ∨ (currentFrame s.now : Int) + 15 < d + openFrame s.now)) ∧
    (∃ (e : Fin 136) (x : FmtT) (p l f : Nat) (w : Word) (d : Int) (s : State), s.issues e.val (x.word 0x3B) = true ∧ e.val < 132 ∧ (x.rd.val % 2 = 0 ∧ x.fn.val < 64 ∧ x.fn.val / 2 % 16 < 12) ∧ p = s.pairOf e.val ∧ p < 128 ∧ l = 2 * p + x.fn.val % 2 ∧ bitsOf (s.gr e.val x.ra.val) 31 30 ≠ 0 ∧ w = (if bitsOf (s.gr e.val x.ra.val) 23 14 < 640 then s.gr e.val x.ra.val else setBitsOf (s.gr e.val x.ra.val) 23 14 (bitsOf (s.gr e.val x.ra.val) 23 14 - 640)) ∧ d = (s.gr e.val x.rb.val - BitVec.ofNat 32 (openFrame s.now)).toInt + (if bitsOf (s.gr e.val x.ra.val) 23 14 < 640 then 0 else 1) ∧ 0 ≤ d ∧ d + openFrame s.now ≤ currentFrame s.now + 15 ∧ f = openFrame s.now + d.toNat ∧ (s.lane l).store.find? (fun y => y.frame == f && y.slot == x.fn.val / 2 % 16) = none ∧ 32 ≤ (s.lane l).store.length) ∧
    (∃ (e : Fin 136) (x : FmtT) (p : Nat) (s : State), s.issues e.val (x.word 0x3B) = true ∧ e.val < 132 ∧ (x.rd.val % 2 = 0 ∧ x.fn.val < 64 ∧ x.fn.val / 2 % 16 < 12) ∧ p = s.pairOf e.val ∧ p < 128 ∧ bitsOf (s.gr e.val x.ra.val) 31 30 = 0) ∧
    (∃ (e : Fin 136) (x : FmtI) (v : BitVec 64) (s : State), s.issues e.val (x.word 0x3C) = true ∧ e.val < 132 ∧ x.rd.val % 2 = 0 ∧ s.pairOf e.val < 128 ∧ (s.gr e.val x.ra.val).toNat ≤ 23 ∧ (x.imm.val ≤ 0xF8 ∧ x.imm.val % 8 = 0) ∧ s.memWord (0x22000000 + (s.pairOf e.val * 24 + (s.gr e.val x.ra.val).toNat) * 0x100 + x.imm.val) = gridEncode v) ∧
    (∃ (e : Fin 136) (x : FmtI) (v : Option (BitVec 64)) (u s : State), s.issues e.val (x.word 0x3C) = true ∧ e.val < 132 ∧ x.rd.val % 2 = 0 ∧ s.pairOf e.val < 128 ∧ (s.gr e.val x.ra.val).toNat ≤ 23 ∧ (x.imm.val ≤ 0xF8 ∧ x.imm.val % 8 = 0) ∧ s.memRead 7 (0x22000000 + (s.pairOf e.val * 24 + (s.gr e.val x.ra.val).toNat) * 0x100 + x.imm.val) = (u, v)) ∧
    (∃ (e : Fin 136) (x : FmtI) (s : State), s.issues e.val (x.word 0x3D) = true ∧ e.val < 132 ∧ x.rd.val % 2 = 0 ∧ s.pairOf e.val < 128 ∧ (s.gr e.val x.ra.val).toNat ≤ 23 ∧ (x.imm.val ≤ 0xF8 ∧ x.imm.val % 8 = 0) ∧ (x.imm.val = 0xF8 → 8 ≤ (s.gr e.val x.ra.val).toNat % 12)) ∧
    (∃ (e : Fin 136) (x : FmtI) (i : Instr) (w : Word) (st : Bool) (s : State), (i, w, st) ∈ [(.ctxl e x, x.word 0x3C, false), (.ctxs e x, x.word 0x3D, true)] ∧ s.issues e.val w = true ∧ e.val < 132 ∧ x.rd.val % 2 = 0 ∧ (128 ≤ s.pairOf e.val ∨ 23 < (s.gr e.val x.ra.val).toNat ∨ 0xF8 < x.imm.val ∨ (st = true ∧ x.imm.val = 0xF8 ∧ (s.gr e.val x.ra.val).toNat % 12 < 8))) ∧
    (∃ (e : Fin 136) (x : FmtI) (i : Instr) (w : Word) (s : State), (i, w) ∈ [(.ctxl e x, x.word 0x3C), (.ctxs e x, x.word 0x3D)] ∧ s.issues e.val w = true ∧ e.val < 132 ∧ x.rd.val % 2 = 0 ∧ s.pairOf e.val < 128 ∧ (s.gr e.val x.ra.val).toNat ≤ 23 ∧ (x.imm.val < 0xF8 ∧ x.imm.val % 8 ≠ 0)) ∧
    (∃ (e : Fin 136) (x : FmtT) (i : Instr) (w : Word) (s : State), (i, w, true) ∈ (formsT e x).filter (fun y => y.1 == .slot e x || y.1 == .echo e x) ∧ s.issues e.val w = true ∧ 128 ≤ s.pairOf e.val) ∧
    (∃ (e : Fin 136) (x : FmtT) (p k tag : Nat) (s : State), s.issues e.val (x.word 0x26) = true ∧ e.val < 132 ∧ (x.rd.val = 0 ∧ x.fn.val < 32) ∧ p = s.pairOf e.val ∧ p < 128 ∧ k = x.fn.val % 16 ∧ (1 ≤ k ∧ k < 5) ∧ (16 ≤ x.fn.val → (s.pair p).drain ≠ []) ∧ tag = (if 16 ≤ x.fn.val then (((s.pair p).drain.head?.map fun i => i.ev.toNat / 2 ^ 32 % 256).getD 0) else (s.gr e.val x.rb.val).toNat % 256)) ∧
    (∃ (e : Fin 136) (x : FmtT) (p : Nat) (s : State), s.issues e.val (x.word 0x26) = true ∧ e.val < 132 ∧ (x.rd.val = 0 ∧ x.fn.val < 32) ∧ p = s.pairOf e.val ∧ p < 128 ∧ (x.fn.val % 16 = 15 ∨ x.fn.val % 16 = 0)) ∧
    (∃ (e : Fin 136) (x : FmtT) (ch : Nat) (s : State), s.issues e.val (x.word 0x2C) = true ∧ e.val < 132 ∧ (x.rd.val = 0 ∧ x.fn.val < 64) ∧ (1 ≤ x.fn.val % 16 ∧ x.fn.val % 16 ≤ 10) ∧ s.pairOf e.val < 128 ∧ ch = (if (s.gr e.val x.rb.val).toNat < 2 ^ 31 then (s.pairOf e.val * 24 + (s.gr e.val x.rb.val).toNat) % 4096 else 0) ∧ s.notes.length < 64) ∧
    (∃ (e : Fin 136) (x : FmtT) (s : State), s.issues e.val (x.word 0x2C) = true ∧ e.val < 132 ∧ (x.rd.val = 0 ∧ x.fn.val < 64) ∧ (1 ≤ x.fn.val % 16 ∧ x.fn.val % 16 ≤ 10) ∧ 64 ≤ s.notes.length) ∧
    (∃ (e : Fin 136) (x : FmtT) (l : Nat) (f : Int) (r : EchoRec) (w : Word) (g : Engine) (s : State), s.issues e.val (x.word 0x3E) = true ∧ e.val < 132 ∧ (x.rd.val % 2 = 0 ∧ x.rb.val = 0 ∧ x.fn.val < 512 ∧ x.fn.val % 32 / 2 < 12) ∧ s.pairOf e.val < 128 ∧ l = 2 * s.pairOf e.val + x.fn.val % 2 ∧ f = (openFrame s.now : Int) + (s.gr e.val x.ra.val - BitVec.ofNat 32 (openFrame s.now)).toInt ∧ 0 ≤ f ∧ s.now < dueOf (f.toNat + 8) ∧ s.echoOf l f.toNat = some r ∧ w = (r.sense[x.fn.val % 32 / 2]?).getD 0 ∧ g = (if x.fn.val / 32 % 2 = 0 then s.engine e.val else if (sat48 (s.accu e.val (x.fn.val / 64 % 2) + (bitsOf w 31 20 : Nat))).2 = true then (s.setAccu e.val (x.fn.val / 64 % 2) (sat48 (s.accu e.val (x.fn.val / 64 % 2) + (bitsOf w 31 20 : Nat))).1).engine e.val |>.flag 9 true else (s.setAccu e.val (x.fn.val / 64 % 2) (sat48 (s.accu e.val (x.fn.val / 64 % 2) + (bitsOf w 31 20 : Nat))).1).engine e.val)) ∧
    (∃ (e : Fin 136) (x : FmtT) (l : Nat) (f : Int) (s : State), s.issues e.val (x.word 0x3E) = true ∧ e.val < 132 ∧ (x.rd.val % 2 = 0 ∧ x.rb.val = 0 ∧ x.fn.val < 512 ∧ x.fn.val % 32 / 2 < 12) ∧ s.pairOf e.val < 128 ∧ l = 2 * s.pairOf e.val + x.fn.val % 2 ∧ f = (openFrame s.now : Int) + (s.gr e.val x.ra.val - BitVec.ofNat 32 (openFrame s.now)).toInt ∧ (f < 0 ∨ dueOf (f.toNat + 8) ≤ s.now ∨ s.echoOf l f.toNat = none)) ∧
    (∃ (e : Fin 136) (x : FmtT) (p : Nat) (s : State), s.issues e.val (x.word 0x3F) = true ∧ e.val < 132 ∧ (x.ra.val = 0 ∧ x.rb.val = 0 ∧ x.fn.val < 16) ∧ p = s.pairOf e.val ∧ p < 128 ∧ (x.fn.val % 2 = 1 → (s.pair p).drain = [])) ∧
    (∃ (e : Fin 136) (x : FmtT) (p : Nat) (s : State), s.issues e.val (x.word 0x3F) = true ∧ e.val < 132 ∧ (x.ra.val = 0 ∧ x.rb.val = 0 ∧ x.fn.val < 16) ∧ p = s.pairOf e.val ∧ p < 128 ∧ x.fn.val % 2 = 1 ∧ (s.pair p).drain ≠ []) ∧
    (∃ (n : Fin 132) (t0 : Nat) (k : Nat) (evt : Bool) (edge : Bool) (rd : Fin 16) (p : Fin 4) (e0 : Nat) (e1 : Nat) (s : State), (s.engine n.val).wait = .frame k evt edge rd.val p.val e0 e1 ∧ deadlineOf k ≤ max s.now t0) ∧
    (∃ (n : Fin 132) (t0 : Nat) (k : Nat) (evt : Bool) (edge : Bool) (rd : Fin 16) (p : Fin 4) (e0 : Nat) (e1 : Nat) (s : State), (s.engine n.val).wait = .frame k evt edge rd.val p.val e0 e1 ∧ max s.now t0 < deadlineOf k ∧ ((evt = true ∧ s.drainOf n.val ≠ []) ∨ (edge = true ∧ (s.laneEdges (2 * s.pairOf n.val) ≠ e0 ∨ s.laneEdges (2 * s.pairOf n.val + 1) ≠ e1)))) ∧
    (∃ (n : Fin 132) (t0 : Nat) (s : State), (match (s.engine n.val).wait with | .frame k evt edge _ _ e0 e1 => decide (max s.now t0 < deadlineOf k) && (!evt || s.drainOf n.val == []) && (!edge || decide (s.laneEdges (2 * s.pairOf n.val) = e0 ∧ s.laneEdges (2 * s.pairOf n.val + 1) = e1)) | _ => true) = true) :=
  ⟨⟨(5), (⟨0, 12, 0, 0, 1⟩), (⟨0x123456789ABCDEF0, 11, 1, -5⟩), ([]), (wOp 5 (FmtT.word ⟨0, 12, 0, 0, 1⟩ 0x3A)).setPair 5 { drain := [⟨0x123456789ABCDEF0, 11, 1, -5⟩] }, by decide +kernel⟩,
   ⟨(5), (⟨0, 12, 0, 0, 1⟩), (wOp 5 (FmtT.word ⟨0, 12, 0, 0, 1⟩ 0x3A)), by decide +kernel⟩,
   ⟨(5), (⟨0, 0, 0, 0, 0⟩), (⟨0x123456789ABCDEF0, 11, 1, -5⟩), ([]), (wOp 5 (FmtT.word ⟨0, 0, 0, 0, 0⟩ 0x27)).setPair 5 { drain := [⟨0x123456789ABCDEF0, 11, 1, -5⟩] }, by decide +kernel⟩,
   ⟨(5), (⟨0, 0, 0, 0, 0⟩), (wOp 5 (FmtT.word ⟨0, 0, 0, 0, 0⟩ 0x27)), by decide +kernel⟩,
   ⟨(5), (⟨0, 14, 1, 4, 7⟩), 5, 11, 5, 0x40004000, 2, (wOp 5 (FmtT.word ⟨0, 14, 1, 4, 7⟩ 0x3B)).setEngine 5 { (wOp 5 (FmtT.word ⟨0, 14, 1, 4, 7⟩ 0x3B)).engine 5 with regs := [(1, 0x40004000), (4, 5)] }, by decide +kernel⟩,
   ⟨(5), (⟨0, 14, 1, 4, 39⟩), 5, 11, 5, 0x40004000, 2, ⟨5, 3, 0x40004000⟩, (((wOp 5 (FmtT.word ⟨0, 14, 1, 4, 39⟩ 0x3B)).setEngine 5 { (wOp 5 (FmtT.word ⟨0, 14, 1, 4, 39⟩ 0x3B)).engine 5 with regs := [(1, 0x40004000), (4, 5)] }).setLane 11 { store := [⟨5, 3, 0x40004000⟩] }).setPair 5 { drain := [⟨0x123456789ABCDEF0, 11, 1, -5⟩] }, by decide +kernel⟩,
   ⟨(5), (⟨0, 14, 1, 4, 39⟩), 5, 11, 5, 0x40004000, 2, ⟨5, 3, 0x40008000⟩, (((wOp 5 (FmtT.word ⟨0, 14, 1, 4, 39⟩ 0x3B)).setEngine 5 { (wOp 5 (FmtT.word ⟨0, 14, 1, 4, 39⟩ 0x3B)).engine 5 with regs := [(1, 0x40004000), (4, 5)] }).setLane 11 { store := [⟨5, 3, 0x40008000⟩] }).setPair 5 { drain := [⟨0x123456789ABCDEF0, 11, 1, -5⟩] }, by decide +kernel⟩,
   ⟨(5), (⟨0, 14, 1, 4, 39⟩), 5, 11, 5, 0x40004000, 2, ⟨5, 3, 0x40000000⟩, (((wOp 5 (FmtT.word ⟨0, 14, 1, 4, 39⟩ 0x3B)).setEngine 5 { (wOp 5 (FmtT.word ⟨0, 14, 1, 4, 39⟩ 0x3B)).engine 5 with regs := [(1, 0x40004000), (4, 5)] }).setLane 11 { store := [⟨5, 3, 0x40000000⟩] }).setPair 5 { drain := [⟨0x123456789ABCDEF0, 11, 1, -5⟩] }, by decide +kernel⟩,
   ⟨(5), (⟨0, 14, 1, 4, 39⟩), 5, 11, 0x40004000, 16, (wOp 5 (FmtT.word ⟨0, 14, 1, 4, 39⟩ 0x3B)).setEngine 5 { (wOp 5 (FmtT.word ⟨0, 14, 1, 4, 39⟩ 0x3B)).engine 5 with regs := [(1, 0x40A04000), (4, 18)] }, by decide +kernel⟩,
   ⟨(5), (⟨0, 14, 1, 4, 39⟩), 5, 11, 5, 0x40004000, 2, ((wOp 5 (FmtT.word ⟨0, 14, 1, 4, 39⟩ 0x3B)).setEngine 5 { (wOp 5 (FmtT.word ⟨0, 14, 1, 4, 39⟩ 0x3B)).engine 5 with regs := [(1, 0x40004000), (4, 5)] }).setLane 11 { store := List.replicate 32 ⟨6, 1, 0x40000000⟩ }, by decide +kernel⟩,
   ⟨(5), (⟨0, 14, 1, 4, 39⟩), 5, ((wOp 5 (FmtT.word ⟨0, 14, 1, 4, 39⟩ 0x3B)).setEngine 5 { (wOp 5 (FmtT.word ⟨0, 14, 1, 4, 39⟩ 0x3B)).engine 5 with regs := [(4, 99)] }).setPair 5 { drain := [⟨0x123456789ABCDEF0, 11, 1, -5⟩] }, by decide +kernel⟩,
   ⟨(5), (⟨0, 14, 2, 0xF8⟩), (0x1122334455667788), ((wOp 5 (FmtI.word ⟨0, 14, 2, 0xF8⟩ 0x3C)).setEngine 5 { (wOp 5 (FmtI.word ⟨0, 14, 2, 0xF8⟩ 0x3C)).engine 5 with regs := [(2, 23)] }).memWrite (0x22000000 + (5 * 24 + 23) * 0x100 + 0xF8) 0x1122334455667788, by decide +kernel⟩,
   ⟨(5), (⟨0, 14, 3, 0xF8⟩), none, (((wOp 5 (FmtI.word ⟨0, 14, 3, 0xF8⟩ 0x3C)).setMemWord (0x22000000 + (5 * 24) * 0x100 + 0xF8) gridUnwritten).memRead 7 (0x22000000 + (5 * 24) * 0x100 + 0xF8)).1, (wOp 5 (FmtI.word ⟨0, 14, 3, 0xF8⟩ 0x3C)).setMemWord (0x22000000 + (5 * 24) * 0x100 + 0xF8) gridUnwritten, by decide +kernel⟩,
   ⟨(5), (⟨0, 14, 2, 0xF0⟩), (wOp 5 (FmtI.word ⟨0, 14, 2, 0xF0⟩ 0x3D)).setEngine 5 { (wOp 5 (FmtI.word ⟨0, 14, 2, 0xF0⟩ 0x3D)).engine 5 with regs := [(2, 23), (14, 9)] }, by decide +kernel⟩,
   ⟨(5), (⟨0, 14, 2, 0xF8⟩), .ctxs 5 ⟨0, 14, 2, 0xF8⟩, (FmtI.word ⟨0, 14, 2, 0xF8⟩ 0x3D), true, (wOp 5 (FmtI.word ⟨0, 14, 2, 0xF8⟩ 0x3D)).setEngine 5 { (wOp 5 (FmtI.word ⟨0, 14, 2, 0xF8⟩ 0x3D)).engine 5 with regs := [(2, 19)] }, by decide +kernel⟩,
   ⟨(5), (⟨0, 14, 3, 0xF4⟩), .ctxs 5 ⟨0, 14, 3, 0xF4⟩, (FmtI.word ⟨0, 14, 3, 0xF4⟩ 0x3D), (wOp 5 (FmtI.word ⟨0, 14, 3, 0xF4⟩ 0x3D)), by decide +kernel⟩,
   ⟨(5), (⟨0, 14, 2, 0, 5⟩), .echo 5 ⟨0, 14, 2, 0, 5⟩, (FmtT.word ⟨0, 14, 2, 0, 5⟩ 0x3E), (wOp 5 (FmtT.word ⟨0, 14, 2, 0, 5⟩ 0x3E)).set (F.CHT_C_STAT_PAIR 5) 0xFF, by decide +kernel⟩,
   ⟨(5), (⟨0, 0, 1, 2, 4⟩), 5, 4, 0xAB, ((wOp 5 (FmtT.word ⟨0, 0, 1, 2, 4⟩ 0x26)).wr (R.CHT_C_CTL 5) 0x10).setEngine 5 { (wOp 5 (FmtT.word ⟨0, 0, 1, 2, 4⟩ 0x26)).engine 5 with regs := [(1, 23), (2, 0x1AB)] }, by decide +kernel⟩,
   ⟨(5), (⟨0, 0, 1, 2, 31⟩), 5, ((wOp 5 (FmtT.word ⟨0, 0, 1, 2, 31⟩ 0x26))).setPair 5 { drain := [⟨0x123456789ABCDEF0, 11, 1, -5⟩] }, by decide +kernel⟩,
   ⟨(5), (⟨0, 0, 1, 2, 5⟩), 143, ((wOp 5 (FmtT.word ⟨0, 0, 1, 2, 5⟩ 0x2C)).wr (R.CHT_C_CTL 5) 0x100).setEngine 5 { (wOp 5 (FmtT.word ⟨0, 0, 1, 2, 5⟩ 0x2C)).engine 5 with regs := [(1, 0xAAAA), (2, 23)] }, by decide +kernel⟩,
   ⟨(5), (⟨0, 0, 1, 2, 0x35⟩), { (wOp 5 (FmtT.word ⟨0, 0, 1, 2, 0x35⟩ 0x2C)) with notes := List.replicate 64 ⟨5, 1, 0, 0⟩ }, by decide +kernel⟩,
   ⟨(5), (⟨0, 14, 4, 0, 7⟩), 11, 3, (⟨3, 0, [1, 2, 3, 0xABC00000], false⟩), 0xABC00000, (((wOp 5 (FmtT.word ⟨0, 14, 4, 0, 7⟩ 0x3E)).setEngine 5 { (wOp 5 (FmtT.word ⟨0, 14, 4, 0, 7⟩ 0x3E)).engine 5 with regs := [(4, 3)] }).engine 5), ((wOp 5 (FmtT.word ⟨0, 14, 4, 0, 7⟩ 0x3E)).setEngine 5 { (wOp 5 (FmtT.word ⟨0, 14, 4, 0, 7⟩ 0x3E)).engine 5 with regs := [(4, 3)] }).setLane 11 { echoes := [⟨3, 0, [1, 2, 3, 0xABC00000], false⟩] }, by decide +kernel⟩,
   ⟨(5), (⟨0, 14, 4, 0, 39⟩), 11, 2, ((wOp 5 (FmtT.word ⟨0, 14, 4, 0, 39⟩ 0x3E)).setEngine 5 { (wOp 5 (FmtT.word ⟨0, 14, 4, 0, 39⟩ 0x3E)).engine 5 with regs := [(4, 2)] }), by decide +kernel⟩,
   ⟨(5), (⟨0, 14, 0, 0, 7⟩), 5, (wOp 5 (FmtT.word ⟨0, 14, 0, 0, 7⟩ 0x3F)), by decide +kernel⟩,
   ⟨(5), (⟨0, 14, 0, 0, 5⟩), 5, (wOp 5 (FmtT.word ⟨0, 14, 0, 0, 5⟩ 0x3F)).setPair 5 { drain := [⟨1, 1, 1, 1⟩] }, by decide +kernel⟩,
   ⟨(5), (320), (3), (false), (false), (14), (1), (0), (0), wEng.setEngine 5 { wEng.engine 5 with wait := .frame 3 false false 14 1 0 0 }, by decide +kernel⟩,
   ⟨(5), (20), (3), (true), (false), (14), (1), (0), (0), (wEng.setEngine 5 { wEng.engine 5 with wait := .frame 3 true false 14 1 0 0 }).setPair 5 { drain := [⟨1, 1, 1, 1⟩] }, by decide +kernel⟩,
   ⟨(5), (20), (wEng.setEngine 5 { wEng.engine 5 with wait := .frame 3 true true 14 1 0 0 }), by decide +kernel⟩⟩

/-- The hypotheses of LaneFramesAreSent are met. -/
theorem wit_LaneFramesAreSent :
    (∃ (l : Fin 256) (f : Nat) (m : Word) (x : LaneFrame) (s : State), (s.laneState l.val ≠ L.off ∧ (s.laneState l.val = L.burst → 0 < (s.lane l.val).burst)) ∧ (s.lane l.val).nextFrame ≤ f ∧ m = (match (s.lane l.val).mg with | some ⟨_, none⟩ => if bitsOf (s.rd (R.LANE_MG_REQ l.val)) 31 30 = 2 then s.rd (R.LANE_MG_REQ l.val) else s.rd (R.LANE_MG_REQ l.val) &&& 0xFFFF0000#32 | _ => 0#32) ∧ (s.running = true ∧ s.leaving = false ∧ (s.committedOf l.val f).safe = false ∧ s.bit (F.LANE_CFG_FORCE_SAFE l.val) = false ∧ s.laneState l.val ≠ L.burst) ∧ s.get (F.LANE_CFG_ROLE l.val) ≠ 2 ∧ (s.bit (F.LANE_BLK_CTL_BUSY l.val) = false ∨ (s.committedOf l.val f).words.all (fun w => bitsOf w 31 30 == 0) = false) ∧ x = ⟨f, 1, ((if False then 128 else 0) + (if s.snapAt.any (fun u => decide (startOf (f - 1) < u)) = true then 64 else 0) + (if s.running = true then 32 else 0) + (if s.mode = M.runSpared then 16 else 0) + s.get (F.LANE_CFG_ROLE l.val) * 4 + 0), (s.committedOf l.val f).words, m⟩) ∧
    (∃ (l : Fin 256) (f : Nat) (m : Word) (x : LaneFrame) (s : State), (s.laneState l.val ≠ L.off ∧ (s.laneState l.val = L.burst → 0 < (s.lane l.val).burst)) ∧ (s.lane l.val).nextFrame ≤ f ∧ m = (match (s.lane l.val).mg with | some ⟨_, none⟩ => if bitsOf (s.rd (R.LANE_MG_REQ l.val)) 31 30 = 2 then s.rd (R.LANE_MG_REQ l.val) else s.rd (R.LANE_MG_REQ l.val) &&& 0xFFFF0000#32 | _ => 0#32) ∧ (s.running = true ∧ s.leaving = false ∧ (s.committedOf l.val f).safe = false ∧ s.bit (F.LANE_CFG_FORCE_SAFE l.val) = false ∧ s.laneState l.val ≠ L.burst) ∧ s.get (F.LANE_CFG_ROLE l.val) ≠ 2 ∧ s.bit (F.LANE_BLK_CTL_BUSY l.val) = true ∧ (s.committedOf l.val f).words.all (fun w => bitsOf w 31 30 == 0) = true ∧ x = ⟨f, 3, ((if True then 128 else 0) + (if s.snapAt.any (fun u => decide (startOf (f - 1) < u)) = true then 64 else 0) + (if s.running = true then 32 else 0) + (if s.mode = M.runSpared then 16 else 0) + s.get (F.LANE_CFG_ROLE l.val) * 4 + 0), (List.range 12).map (fun k => s.rd (R.LANE_BLK_DATA l.val k)), m⟩) ∧
    (∃ (l : Fin 256) (f : Nat) (m : Word) (x : LaneFrame) (s : State), (s.laneState l.val ≠ L.off ∧ (s.laneState l.val = L.burst → 0 < (s.lane l.val).burst)) ∧ (s.lane l.val).nextFrame ≤ f ∧ m = (match (s.lane l.val).mg with | some ⟨_, none⟩ => if bitsOf (s.rd (R.LANE_MG_REQ l.val)) 31 30 = 2 then s.rd (R.LANE_MG_REQ l.val) else s.rd (R.LANE_MG_REQ l.val) &&& 0xFFFF0000#32 | _ => 0#32) ∧ (s.running = false ∨ s.leaving = true ∨ (s.committedOf l.val f).safe = true ∨ s.bit (F.LANE_CFG_FORCE_SAFE l.val) = true ∨ s.laneState l.val = L.burst) ∧ x = ⟨f, 2, ((if s.bit (F.LANE_BLK_CTL_BUSY l.val) = true then 128 else 0) + (if s.snapAt.any (fun u => decide (startOf (f - 1) < u)) = true then 64 else 0) + (if s.running = true then 32 else 0) + (if s.mode = M.runSpared then 16 else 0) + s.get (F.LANE_CFG_ROLE l.val) * 4 + 0), (if s.bit (F.LANE_BLK_CTL_BUSY l.val) = true then (List.range 12).map (fun k => s.rd (R.LANE_BLK_DATA l.val k)) else List.replicate 12 0#32), m⟩) ∧
    (∃ (l : Fin 256) (f : Nat) (m : Word) (x : LaneFrame) (q : LaneFrame) (s : State), (s.laneState l.val ≠ L.off ∧ (s.laneState l.val = L.burst → 0 < (s.lane l.val).burst)) ∧ (s.lane l.val).nextFrame ≤ f ∧ m = (match (s.lane l.val).mg with | some ⟨_, none⟩ => if bitsOf (s.rd (R.LANE_MG_REQ l.val)) 31 30 = 2 then s.rd (R.LANE_MG_REQ l.val) else s.rd (R.LANE_MG_REQ l.val) &&& 0xFFFF0000#32 | _ => 0#32) ∧ (s.running = true ∧ s.leaving = false ∧ (s.committedOf l.val f).safe = false ∧ s.bit (F.LANE_CFG_FORCE_SAFE l.val) = false ∧ s.laneState l.val ≠ L.burst) ∧ s.get (F.LANE_CFG_ROLE l.val) = 2 ∧ s.laneState (s.partner l.val) ≠ L.off ∧ q = (match (s.lane (s.partner l.val)).sent with | some y => if y.frame = f then y else s.ownFrame (s.partner l.val) f | none => s.ownFrame (s.partner l.val) f) ∧ x = ⟨f, 4, ((if q.flags.testBit 7 = true then 128 else 0) + (if s.snapAt.any (fun u => decide (startOf (f - 1) < u)) = true then 64 else 0) + (if s.running = true then 32 else 0) + (if s.mode = M.runSpared then 16 else 0) + s.get (F.LANE_CFG_ROLE l.val) * 4 + q.type), q.words, m⟩) ∧
    (∃ (l : Fin 256) (f : Nat) (m : Word) (x : LaneFrame) (s : State), (s.laneState l.val ≠ L.off ∧ (s.laneState l.val = L.burst → 0 < (s.lane l.val).burst)) ∧ (s.lane l.val).nextFrame ≤ f ∧ m = (match (s.lane l.val).mg with | some ⟨_, none⟩ => if bitsOf (s.rd (R.LANE_MG_REQ l.val)) 31 30 = 2 then s.rd (R.LANE_MG_REQ l.val) else s.rd (R.LANE_MG_REQ l.val) &&& 0xFFFF0000#32 | _ => 0#32) ∧ (s.running = true ∧ s.leaving = false ∧ (s.committedOf l.val f).safe = false ∧ s.bit (F.LANE_CFG_FORCE_SAFE l.val) = false ∧ s.laneState l.val ≠ L.burst) ∧ s.get (F.LANE_CFG_ROLE l.val) = 2 ∧ s.laneState (s.partner l.val) = L.off ∧ x = ⟨f, 2, ((if s.bit (F.LANE_BLK_CTL_BUSY l.val) = true then 128 else 0) + (if s.snapAt.any (fun u => decide (startOf (f - 1) < u)) = true then 64 else 0) + (if s.running = true then 32 else 0) + (if s.mode = M.runSpared then 16 else 0) + s.get (F.LANE_CFG_ROLE l.val) * 4 + 0), (if s.bit (F.LANE_BLK_CTL_BUSY l.val) = true then (List.range 12).map (fun k => s.rd (R.LANE_BLK_DATA l.val k)) else List.replicate 12 0#32), m⟩) ∧
    (∃ (l : Fin 256) (f : Nat) (s : State), s.laneState l.val = L.off ∧ (s.bit (F.LANE_CFG_EN l.val) = true ∧ s.get (F.LANE_CFG_ROLE l.val) ≠ 3 ∧ s.alive = true ∧ s.leaving = false ∧ s.domOn (14 + l.val / 64) = true) ∧ s.pairValid l.val = true) ∧
    (∃ (l : Fin 256) (f : Nat) (s : State), s.laneState l.val = L.off ∧ (s.bit (F.LANE_CFG_EN l.val) = true ∧ s.get (F.LANE_CFG_ROLE l.val) ≠ 3 ∧ s.alive = true ∧ s.leaving = false ∧ s.domOn (14 + l.val / 64) = true) ∧ s.pairValid l.val = false) ∧
    (∃ (l : Fin 256) (f : Nat) (s : State), ((s.laneState l.val = L.off ∧ (s.bit (F.LANE_CFG_EN l.val) = false ∨ s.get (F.LANE_CFG_ROLE l.val) = 3 ∨ s.alive = false ∨ s.leaving = true ∨ s.domOn (14 + l.val / 64) = false)) ∨ (s.laneState l.val ≠ L.off ∧ (f < (s.lane l.val).nextFrame ∨ (s.laneState l.val = L.burst ∧ (s.lane l.val).burst = 0))))) ∧
    (∃ (ini : Initiator) (l : Fin 256) (s : State), s.sends ini true (R.LANE_CFG l.val) = true ∧ s.domOn (14 + l.val / 64) = true ∧ s.regValid (R.LANE_CFG l.val) = true ∧ s.bit (F.LANE_CFG_EN l.val) = false ∧ s.pairValid l.val = true) ∧
    (∃ (ini : Initiator) (l : Fin 256) (s : State), s.sends ini true (R.LANE_CFG l.val) = true ∧ s.domOn (14 + l.val / 64) = true ∧ s.regValid (R.LANE_CFG l.val) = true ∧ s.bit (F.LANE_CFG_EN l.val) = false ∧ s.pairValid l.val = false) ∧
    (∃ (ini : Initiator) (l : Fin 256) (s : State), s.sends ini true (R.LANE_CFG l.val) = true ∧ s.domOn (14 + l.val / 64) = true ∧ s.regValid (R.LANE_CFG l.val) = true ∧ s.bit (F.LANE_CFG_EN l.val) = true ∧ s.laneState l.val ≠ L.off ∧ s.laneState l.val ≠ L.burst) ∧
    (∃ (ini : Initiator) (l : Fin 256) (i : Instr) (s : State), s.sends ini true (R.LANE_CFG l.val) = true ∧ s.domOn (14 + l.val / 64) = true ∧ s.regValid (R.LANE_CFG l.val) = true ∧ ((i = .laneDisable ini l ∧ (s.bit (F.LANE_CFG_EN l.val) = false ∨ s.laneState l.val = L.off ∨ s.laneState l.val = L.burst)) ∨ (i = .laneEnable ini l ∧ s.bit (F.LANE_CFG_EN l.val) = true))) ∧
    (∃ (l : Fin 256) (f : Nat) (s : State), s.laneState l.val = L.burst ∧ (s.lane l.val).burst = 0 ∧ (s.lane l.val).nextFrame ≤ f ∧ s.bit (F.LANE_CFG_EN l.val) = false) ∧
    (∃ (l : Fin 256) (f : Nat) (s : State), s.laneState l.val = L.burst ∧ (s.lane l.val).burst = 0 ∧ (s.lane l.val).nextFrame ≤ f ∧ s.bit (F.LANE_CFG_EN l.val) = true ∧ s.pairValid l.val = true) ∧
    (∃ (l : Fin 256) (f : Nat) (s : State), s.laneState l.val = L.burst ∧ (s.lane l.val).burst = 0 ∧ (s.lane l.val).nextFrame ≤ f ∧ s.bit (F.LANE_CFG_EN l.val) = true ∧ s.pairValid l.val = false) ∧
    (∃ (l : Fin 256) (f : Nat) (s : State), (s.laneState l.val ≠ L.burst ∨ (s.lane l.val).burst ≠ 0 ∨ f < (s.lane l.val).nextFrame)) ∧
    (∃ (l : Fin 256) (t0 : Nat) (s : State), s.laneState l.val = L.sending ∧ startOf (s.lane l.val).firstFrame + 163840 ≤ t0) ∧
    (∃ (l : Fin 256) (t0 : Nat) (s : State), (s.laneState l.val ≠ L.sending ∨ t0 < startOf (s.lane l.val).firstFrame + 163840)) :=
  ⟨⟨(200), (20), 0, ⟨20, 1, 32, List.replicate 12 0x40000000, 0⟩, ((wCht.set (F.LANE_STAT_STATE 200) L.linked).setLane 200 { committed := [⟨20, List.replicate 12 0x40000000, false⟩] }), by decide +kernel⟩,
   ⟨(200), (20), 0, ⟨20, 3, 160, (List.range 12).map (fun k => if k = 3 then 77 else 0), 0⟩, (((wCht.set (F.LANE_STAT_STATE 200) L.linked).set (F.LANE_BLK_CTL_BUSY 200) 1).wr (R.LANE_BLK_DATA 200 3) 77), by decide +kernel⟩,
   ⟨(200), (20), 0, ⟨20, 2, 0, List.replicate 12 0, 0⟩, ((wCht.set F.SYS_MODE_MODE M.hold).set (F.LANE_STAT_STATE 200) L.linked).setLane 200 { committed := [⟨20, List.replicate 12 0x40000000, false⟩] }, by decide +kernel⟩,
   ⟨(200), (20), 0, ⟨20, 4, 41, List.replicate 12 0x40000000, 0⟩, ⟨20, 1, 36, List.replicate 12 0x40000000, 0x55⟩, (((wCht.set (F.LANE_STAT_STATE 200) L.linked).set (F.LANE_CFG_ROLE 200) 2).set (F.LANE_STAT_STATE 0) L.linked).setLane 0 { sent := some ⟨20, 1, 36, List.replicate 12 0x40000000, 0x55⟩ }, by decide +kernel⟩,
   ⟨(200), (20), 0, ⟨20, 2, 168, List.replicate 12 0, 0⟩, ((wCht.set (F.LANE_STAT_STATE 200) L.linked).set (F.LANE_CFG_ROLE 200) 2).set (F.LANE_BLK_CTL_BUSY 200) 1, by decide +kernel⟩,
   ⟨(200), (20), (wMode M.init).set (F.LANE_CFG_EN 200) 1, by decide +kernel⟩,
   ⟨(200), (20), ((wMode M.init).set (F.LANE_CFG_EN 200) 1).set (F.LANE_CFG_ROLE 200) 1 |>.wr (R.LANE_IRQ_EN 200) 0x3FF, by decide +kernel⟩,
   ⟨(200), (20), wCht, by decide +kernel⟩,
   ⟨(.tap), (7), wCht, by decide +kernel⟩,
   ⟨(.tap), (7), (wCht.set (F.LANE_CFG_ROLE 7) 1).wr (R.LANE_IRQ_EN 7) 0x100, by decide +kernel⟩,
   ⟨(.tap), (7), (wCht.set (F.LANE_CFG_EN 7) 1).set (F.LANE_STAT_STATE 7) L.linked, by decide +kernel⟩,
   ⟨(.tap), (7), .laneDisable .tap 7, (wCht.set (F.LANE_CFG_EN 7) 1).set (F.LANE_STAT_STATE 7) L.burst, by decide +kernel⟩,
   ⟨(7), (20), wCht.set (F.LANE_STAT_STATE 7) L.burst, by decide +kernel⟩,
   ⟨(7), (20), (wCht.set (F.LANE_STAT_STATE 7) L.burst).set (F.LANE_CFG_EN 7) 1, by decide +kernel⟩,
   ⟨(7), (20), ((wCht.set (F.LANE_STAT_STATE 7) L.burst).set (F.LANE_CFG_EN 7) 1).set (F.LANE_CFG_ROLE 7) 2, by decide +kernel⟩,
   ⟨(7), (20), wLane, by decide +kernel⟩,
   ⟨(7), (1000000), (wCht.set (F.LANE_STAT_STATE 7) L.sending).wr (R.LANE_IRQ_EN 7) 4, by decide +kernel⟩,
   ⟨(7), (1000), wLane, by decide +kernel⟩⟩

/-- The hypotheses of LaneEchoes are met. -/
theorem wit_LaneEchoes :
    (∃ (l : Fin 256) (t0 : Nat) (groups : List (BitVec 10)) (s : State), (s.alive = true ∧ s.domOn (14 + l.val / 64) = true) ∧ readFrame (s.lane l.val).rx (groups.map BitVec.toNat) = none) ∧
    (∃ (l : Fin 256) (t0 : Nat) (groups : List (BitVec 10)) (b : List Nat) (d : Bool) (x : EchoFields) (s : State), (s.alive = true ∧ s.domOn (14 + l.val / 64) = true) ∧ readFrame (s.lane l.val).rx (groups.map BitVec.toNat) = some (b, d) ∧ x = EchoFields.ofBytes b ∧ (x.crcOk = false ∨ x.type ≠ 0x18)) ∧
    (∃ (l : Fin 256) (t0 : Nat) (groups : List (BitVec 10)) (b : List Nat) (d : Bool) (x : EchoFields) (s : State), (s.alive = true ∧ s.domOn (14 + l.val / 64) = true) ∧ readFrame (s.lane l.val).rx (groups.map BitVec.toNat) = some (b, d) ∧ x = EchoFields.ofBytes b ∧ (x.crcOk = true ∧ x.type = 0x18) ∧ ((match echoFrame (t0 + 640) x.laneTime with | none => true | some f => decide (x.seq ≠ f % 256 ∨ (s.lane l.val).nextFrame ≤ f ∨ (t0 + 640 < dueOf f ∧ (s.lane l.val).awaiting.contains f = false))) = true)) ∧
    (∃ (l : Fin 256) (t0 : Nat) (groups : List (BitVec 10)) (b : List Nat) (d : Bool) (x : EchoFields) (f : Nat) (s : State), (s.alive = true ∧ s.domOn (14 + l.val / 64) = true) ∧ readFrame (s.lane l.val).rx (groups.map BitVec.toNat) = some (b, d) ∧ x = EchoFields.ofBytes b ∧ (x.crcOk = true ∧ x.type = 0x18) ∧ echoFrame (t0 + 640) x.laneTime = some f ∧ (x.seq = f % 256 ∧ f < (s.lane l.val).nextFrame) ∧ dueOf f ≤ t0 + 640) ∧
    (∃ (l : Fin 256) (t0 : Nat) (groups : List (BitVec 10)) (b : List Nat) (d : Bool) (x : EchoFields) (f : Nat) (s : State), (s.alive = true ∧ s.domOn (14 + l.val / 64) = true) ∧ readFrame (s.lane l.val).rx (groups.map BitVec.toNat) = some (b, d) ∧ x = EchoFields.ofBytes b ∧ (x.crcOk = true ∧ x.type = 0x18) ∧ echoFrame (t0 + 640) x.laneTime = some f ∧ (x.seq = f % 256 ∧ f < (s.lane l.val).nextFrame) ∧ t0 + 640 < dueOf f ∧ (s.lane l.val).awaiting.contains f = true ∧ (s.echoOf l.val f).isSome = true) ∧
    (∃ (l : Fin 256) (t0 : Nat) (groups : List (BitVec 10)) (b : List Nat) (d : Bool) (x : EchoFields) (f : Nat) (done : Bool) (dl : Int) (ev : List (Nat × Bool)) (s : State), (s.alive = true ∧ s.domOn (14 + l.val / 64) = true) ∧ readFrame (s.lane l.val).rx (groups.map BitVec.toNat) = some (b, d) ∧ x = EchoFields.ofBytes b ∧ (x.crcOk = true ∧ x.type = 0x18) ∧ echoFrame (t0 + 640) x.laneTime = some f ∧ (x.seq = f % 256 ∧ f < (s.lane l.val).nextFrame) ∧ t0 + 640 < dueOf f ∧ (s.lane l.val).awaiting.contains f = true ∧ s.echoOf l.val f = none ∧ (done = (x.flags.testBit 2 && (match (s.lane l.val).mg with | some ⟨tid, some g⟩ => decide (g ≤ f ∧ f ≤ g + 2 ∧ bitsOf x.mgmt 29 24 = tid) | _ => false))) ∧ dl = Int.tdiv ((t0 : Int) - (640 * f + 672) + s.get (F.LANE_DELAY_L l.val)) 2 ∧ ev = [(0, !(s.lane l.val).linked), (3, s.laneState l.val == L.lost), (4, x.flags.testBit 7 && (s.lane l.val).heard.any (fun o => !o.testBit 7)), (5, s.get (F.LANE_CFG_ROLE l.val) == 2 && x.flags.testBit 6 && !(s.lane l.val).heard.any (fun o => o.testBit 6)), (6, done)] ∧ (s.get (F.LANE_CFG_ROLE l.val) = 2 → s.bitAt R.SYS_SPARED 5 = (x.flags.testBit 6 || (List.range 256).any (fun k => k != l.val && s.get (F.LANE_CFG_ROLE k) == 2 && (s.lane k).heard.any (fun o => o.testBit 6))))) ∧
    (∃ (l : Fin 256) (t0 : Nat) (groups : List (BitVec 10)) (b : List Nat) (d : Bool) (x : EchoFields) (f : Nat) (done : Bool) (dl : Int) (ev : List (Nat × Bool)) (s : State), (s.alive = true ∧ s.domOn (14 + l.val / 64) = true) ∧ readFrame (s.lane l.val).rx (groups.map BitVec.toNat) = some (b, d) ∧ x = EchoFields.ofBytes b ∧ (x.crcOk = true ∧ x.type = 0x18) ∧ echoFrame (t0 + 640) x.laneTime = some f ∧ (x.seq = f % 256 ∧ f < (s.lane l.val).nextFrame) ∧ t0 + 640 < dueOf f ∧ (s.lane l.val).awaiting.contains f = true ∧ s.echoOf l.val f = none ∧ (done = (x.flags.testBit 2 && (match (s.lane l.val).mg with | some ⟨tid, some g⟩ => decide (g ≤ f ∧ f ≤ g + 2 ∧ bitsOf x.mgmt 29 24 = tid) | _ => false))) ∧ dl = Int.tdiv ((t0 : Int) - (640 * f + 672) + s.get (F.LANE_DELAY_L l.val)) 2 ∧ ev = [(0, !(s.lane l.val).linked), (3, s.laneState l.val == L.lost), (4, x.flags.testBit 7 && (s.lane l.val).heard.any (fun o => !o.testBit 7)), (5, s.get (F.LANE_CFG_ROLE l.val) == 2 && x.flags.testBit 6 && !(s.lane l.val).heard.any (fun o => o.testBit 6)), (6, done)] ∧ s.get (F.LANE_CFG_ROLE l.val) = 2 ∧ x.flags.testBit 6 = true ∧ s.bitAt R.SYS_SPARED 5 = false) ∧
    (∃ (l : Fin 256) (t0 : Nat) (groups : List (BitVec 10)) (b : List Nat) (d : Bool) (x : EchoFields) (f : Nat) (done : Bool) (dl : Int) (ev : List (Nat × Bool)) (s : State), (s.alive = true ∧ s.domOn (14 + l.val / 64) = true) ∧ readFrame (s.lane l.val).rx (groups.map BitVec.toNat) = some (b, d) ∧ x = EchoFields.ofBytes b ∧ (x.crcOk = true ∧ x.type = 0x18) ∧ echoFrame (t0 + 640) x.laneTime = some f ∧ (x.seq = f % 256 ∧ f < (s.lane l.val).nextFrame) ∧ t0 + 640 < dueOf f ∧ (s.lane l.val).awaiting.contains f = true ∧ s.echoOf l.val f = none ∧ (done = (x.flags.testBit 2 && (match (s.lane l.val).mg with | some ⟨tid, some g⟩ => decide (g ≤ f ∧ f ≤ g + 2 ∧ bitsOf x.mgmt 29 24 = tid) | _ => false))) ∧ dl = Int.tdiv ((t0 : Int) - (640 * f + 672) + s.get (F.LANE_DELAY_L l.val)) 2 ∧ ev = [(0, !(s.lane l.val).linked), (3, s.laneState l.val == L.lost), (4, x.flags.testBit 7 && (s.lane l.val).heard.any (fun o => !o.testBit 7)), (5, s.get (F.LANE_CFG_ROLE l.val) == 2 && x.flags.testBit 6 && !(s.lane l.val).heard.any (fun o => o.testBit 6)), (6, done)] ∧ s.get (F.LANE_CFG_ROLE l.val) = 2 ∧ x.flags.testBit 6 = false ∧ s.bitAt R.SYS_SPARED 5 = true ∧ (List.range 256).any (fun k => k != l.val && s.get (F.LANE_CFG_ROLE k) == 2 && (s.lane k).heard.any (fun o => o.testBit 6)) = false) ∧
    (∃ (l : Fin 256) (t0 : Nat) (groups : List (BitVec 10)) (s : State), (s.alive = false ∨ s.domOn (14 + l.val / 64) = false)) ∧
    (∃ (l : Fin 256) (f : Nat) (m : Nat) (s : State), (s.lane l.val).awaiting.contains f = true ∧ s.echoOf l.val f = none ∧ m = (s.lane l.val).missed + 1 ∧ (s.get (F.LANE_CFG_ROLE l.val) ≠ 1 ∨ (s.echoOf (s.partner l.val) f).all (fun e => e.merged) = true)) ∧
    (∃ (l : Fin 256) (f : Nat) (m : Nat) (e : EchoRec) (s : State), (s.lane l.val).awaiting.contains f = true ∧ s.echoOf l.val f = none ∧ m = (s.lane l.val).missed + 1 ∧ s.get (F.LANE_CFG_ROLE l.val) = 1 ∧ s.partner l.val ≠ l.val ∧ s.echoOf (s.partner l.val) f = some e ∧ e.merged = false) ∧
    (∃ (l : Fin 256) (f : Nat) (s : State), ((s.lane l.val).awaiting.contains f = false ∨ (s.echoOf l.val f).isSome = true)) ∧
    (∃ (ini : Initiator) (l : Fin 256) (v : BitVec 32) (s : State), s.sends ini true (R.LANE_MG_REQ l.val) = true ∧ s.domOn (14 + l.val / 64) = true ∧ s.bit (F.LANE_STAT_MG_PENDING l.val) = false ∧ (bitsOf v 31 30 = 1 ∨ bitsOf v 31 30 = 2)) ∧
    (∃ (ini : Initiator) (l : Fin 256) (v : BitVec 32) (s : State), s.sends ini true (R.LANE_MG_REQ l.val) = true ∧ s.domOn (14 + l.val / 64) = true ∧ (s.bit (F.LANE_STAT_MG_PENDING l.val) = true ∨ (bitsOf v 31 30 ≠ 1 ∧ bitsOf v 31 30 ≠ 2))) ∧
    (∃ (l : Fin 256) (t0 : Nat) (tid : Nat) (g : Nat) (s : State), (s.lane l.val).mg = some ⟨tid, some g⟩ ∧ dueOf (g + 2) ≤ t0) ∧
    (∃ (l : Fin 256) (t0 : Nat) (s : State), ((s.lane l.val).mg.all (fun q => q.frame.all (fun g => decide (t0 < dueOf (g + 2)))) = true)) ∧
    (∃ (ini : Initiator) (l : Fin 256) (s : State), s.sends ini true (R.LANE_BLK_CTL l.val) = true ∧ s.domOn (14 + l.val / 64) = true) ∧
    (∃ (ini : Initiator) (l : Fin 256) (k : Fin 12) (v : BitVec 32) (s : State), s.sends ini true (R.LANE_BLK_DATA l.val k.val) = true ∧ s.domOn (14 + l.val / 64) = true) :=
  ⟨⟨(7), (13472), (List.replicate 64 0), (wLane.wr (R.LANE_IRQ_EN 7) 2), by decide +kernel⟩,
   ⟨(7), (13472), (wEcho 0x11 20 0 12800 0), (wEchoBytes 0x11 20 0 12800 0), (codeFrame false (wEchoBytes 0x11 20 0 12800 0)).2, (EchoFields.ofBytes (wEchoBytes 0x11 20 0 12800 0)), (wLane.setLane 7 { nextFrame := 30, awaiting := [18, 19, 20, 21] }), by decide +kernel⟩,
   ⟨(7), (13472), (wEcho 0x18 21 0 12800 0), (wEchoBytes 0x18 21 0 12800 0), (codeFrame false (wEchoBytes 0x18 21 0 12800 0)).2, (EchoFields.ofBytes (wEchoBytes 0x18 21 0 12800 0)), (wLane.setLane 7 { nextFrame := 30, awaiting := [18, 19, 20, 21] }), by decide +kernel⟩,
   ⟨(7), (13760), (wEcho 0x18 20 0 12800 0), (wEchoBytes 0x18 20 0 12800 0), (codeFrame false (wEchoBytes 0x18 20 0 12800 0)).2, (EchoFields.ofBytes (wEchoBytes 0x18 20 0 12800 0)), 20, (wLane.setLane 7 { nextFrame := 30, awaiting := [18, 19, 20, 21] }), by decide +kernel⟩,
   ⟨(7), (13472), (wEcho 0x18 20 0 12800 0), (wEchoBytes 0x18 20 0 12800 0), (codeFrame false (wEchoBytes 0x18 20 0 12800 0)).2, (EchoFields.ofBytes (wEchoBytes 0x18 20 0 12800 0)), 20, (wLane.setLane 7 { nextFrame := 30, awaiting := [18, 19, 20, 21], echoes := [⟨20, 0, [], true⟩] }), by decide +kernel⟩,
   ⟨(7), (13500), (wEcho 0x18 20 0x81 12800 0), (wEchoBytes 0x18 20 0x81 12800 0), (codeFrame false (wEchoBytes 0x18 20 0x81 12800 0)).2, (EchoFields.ofBytes (wEchoBytes 0x18 20 0x81 12800 0)), 20, false, 14, [(0, true), (3, false), (4, false), (5, false), (6, false)], (wLane.wr (R.LANE_IRQ_EN 7) 0x3FF).setLane 7 { nextFrame := 30, awaiting := [18, 19, 20, 21] }, by decide +kernel⟩,
   ⟨(7), (13500), (wEcho 0x18 20 0x40 12800 0), (wEchoBytes 0x18 20 0x40 12800 0), (codeFrame false (wEchoBytes 0x18 20 0x40 12800 0)).2, (EchoFields.ofBytes (wEchoBytes 0x18 20 0x40 12800 0)), 20, false, 14, [(0, false), (3, false), (4, false), (5, true), (6, false)], (((wLane.wr (R.LANE_IRQ_EN 7) 0x20).setLaneState 7 L.linked).set (F.LANE_CFG_ROLE 7) 2).setLane 7 { nextFrame := 30, awaiting := [18, 19, 20, 21], heard := some 0, linked := true }, by decide +kernel⟩,
   ⟨(7), (13500), (wEcho 0x18 20 0 12800 0), (wEchoBytes 0x18 20 0 12800 0), (codeFrame false (wEchoBytes 0x18 20 0 12800 0)).2, (EchoFields.ofBytes (wEchoBytes 0x18 20 0 12800 0)), 20, false, 14, [(0, false), (3, false), (4, false), (5, false), (6, false)], ((((wLane.wr R.SYS_SPARED 0x20).set F.SYS_MODE_MODE M.runSpared).setLaneState 7 L.linked).set (F.LANE_CFG_ROLE 7) 2).setLane 7 { nextFrame := 30, awaiting := [18, 19, 20, 21], heard := some 0x40, linked := true }, by decide +kernel⟩,
   ⟨(7), (13472), (List.replicate 64 0), State.reset, by decide +kernel⟩,
   ⟨(7), (20), (3), ((wLane.setLaneState 7 L.linked).wr (R.LANE_IRQ_EN 7) 4).setLane 7 { nextFrame := 30, missed := 2, awaiting := [20, 21] }, by decide +kernel⟩,
   ⟨(7), (20), (3), ⟨20, 0x20, [1, 2], false⟩, ((((wLane.setLaneState 7 L.linked).set (F.LANE_CFG_ROLE 7) 1).set (F.LANE_CFG_PARTNER 7) 40).setLane 7 { nextFrame := 30, missed := 2, awaiting := [20, 21] }).setLane 40 { echoes := [⟨20, 0x20, [1, 2], false⟩] }, by decide +kernel⟩,
   ⟨(7), (20), wLane.setLane 7 { nextFrame := 30, awaiting := [20, 21], echoes := [⟨20, 0, [], false⟩] }, by decide +kernel⟩,
   ⟨(.tap), (7), (0x45120000), wLane, by decide +kernel⟩,
   ⟨(.tap), (7), (0x45120000), wLane.set (F.LANE_STAT_MG_PENDING 7) 1, by decide +kernel⟩,
   ⟨(7), (16640), (5), (20), (wLane.wr (R.LANE_IRQ_EN 7) 0x80).setLane 7 { mg := some ⟨5, some 20⟩ }, by decide +kernel⟩,
   ⟨(7), (15670), wLane.setLane 7 { mg := some ⟨5, some 20⟩ }, by decide +kernel⟩,
   ⟨(.tap), (7), wLane, by decide +kernel⟩,
   ⟨(.tap), (7), (11), 0x1234, wLane, by decide +kernel⟩⟩

/-- The hypotheses of ConvertersStartAndStop are met. -/
theorem wit_ConvertersStartAndStop :
    (∃ (ini : Initiator) (k : Fin 4) (s : State), s.sends ini true (R.MEAS_ADC_CTL k.val) = true ∧ s.domOn 20 = true ∧ s.regValid (R.MEAS_ADC_CTL k.val) = true ∧ (∀ j : Nat, j < 4 → j ≠ k.val → (s.adc j).live = s.bit (F.MEAS_ADC_CTL_EN j)) ∧ s.bit (F.MEAS_ADC_CTL_EN k.val) = false ∧ s.adcClock = true ∧ s.listOk k.val = true ∧ ([0, 1, 2, 3].any fun j => j != k.val && s.bit (F.MEAS_ADC_CTL_EN j) && s.listsMeet k.val j) = false ∧ (s.regValid (R.MEAS_ADC_TRIG k.val) = true ∧ s.trigOk k.val = true) ∧ (s.adc k.val).live = false) ∧
    (∃ (ini : Initiator) (k : Fin 4) (s : State), s.sends ini true (R.MEAS_ADC_CTL k.val) = true ∧ s.domOn 20 = true ∧ s.regValid (R.MEAS_ADC_CTL k.val) = true ∧ (∀ j : Nat, j < 4 → j ≠ k.val → (s.adc j).live = s.bit (F.MEAS_ADC_CTL_EN j)) ∧ s.bit (F.MEAS_ADC_CTL_EN k.val) = false ∧ s.adcClock = true ∧ s.listOk k.val = true ∧ ([0, 1, 2, 3].any fun j => j != k.val && s.bit (F.MEAS_ADC_CTL_EN j) && s.listsMeet k.val j) = false ∧ (s.regValid (R.MEAS_ADC_TRIG k.val) = false ∨ s.trigOk k.val = false)) ∧
    (∃ (ini : Initiator) (k : Fin 4) (s : State), s.sends ini true (R.MEAS_ADC_CTL k.val) = true ∧ s.domOn 20 = true ∧ s.regValid (R.MEAS_ADC_CTL k.val) = true ∧ (∀ j : Nat, j < 4 → j ≠ k.val → (s.adc j).live = s.bit (F.MEAS_ADC_CTL_EN j)) ∧ s.bit (F.MEAS_ADC_CTL_EN k.val) = false ∧ s.adcClock = false) ∧
    (∃ (ini : Initiator) (k : Fin 4) (s : State), s.sends ini true (R.MEAS_ADC_CTL k.val) = true ∧ s.domOn 20 = true ∧ s.regValid (R.MEAS_ADC_CTL k.val) = true ∧ (∀ j : Nat, j < 4 → j ≠ k.val → (s.adc j).live = s.bit (F.MEAS_ADC_CTL_EN j)) ∧ s.bit (F.MEAS_ADC_CTL_EN k.val) = false ∧ s.adcClock = true ∧ (s.listOk k.val = false ∨ ([0, 1, 2, 3].any fun j => j != k.val && s.bit (F.MEAS_ADC_CTL_EN j) && s.listsMeet k.val j) = true)) ∧
    (∃ (ini : Initiator) (k : Fin 4) (s : State), s.sends ini true (R.MEAS_ADC_CTL k.val) = true ∧ s.domOn 20 = true ∧ s.regValid (R.MEAS_ADC_CTL k.val) = true ∧ (∀ j : Nat, j < 4 → j ≠ k.val → (s.adc j).live = s.bit (F.MEAS_ADC_CTL_EN j)) ∧ s.bit (F.MEAS_ADC_CTL_EN k.val) = true ∧ s.get (F.MEAS_ADC_STAT_STATE k.val) ≠ A.running) ∧
    (∃ (ini : Initiator) (k : Fin 4) (s : State), s.sends ini true (R.MEAS_ADC_CTL k.val) = true ∧ s.domOn 20 = true ∧ s.regValid (R.MEAS_ADC_CTL k.val) = true ∧ (∀ j : Nat, j < 4 → j ≠ k.val → (s.adc j).live = s.bit (F.MEAS_ADC_CTL_EN j)) ∧ s.bit (F.MEAS_ADC_CTL_EN k.val) = true ∧ s.get (F.MEAS_ADC_STAT_STATE k.val) = A.running) ∧
    (∃ (ini : Initiator) (k : Fin 4) (i : Instr) (s : State), s.sends ini true (R.MEAS_ADC_CTL k.val) = true ∧ s.domOn 20 = true ∧ s.regValid (R.MEAS_ADC_CTL k.val) = true ∧ (∀ j : Nat, j < 4 → (s.adc j).live = s.bit (F.MEAS_ADC_CTL_EN j)) ∧ ((i = .adcDisable ini k ∧ s.bit (F.MEAS_ADC_CTL_EN k.val) = false) ∨ (i = .adcEnable ini k ∧ s.bit (F.MEAS_ADC_CTL_EN k.val) = true))) ∧
    (∃ (ini : Initiator) (k : Fin 4) (s : State), s.sends ini true (R.MEAS_ADC_CTL k.val) = true ∧ s.domOn 20 = true ∧ s.regValid (R.MEAS_ADC_CTL k.val) = true ∧ (∀ j : Nat, j < 4 → (s.adc j).live = s.bit (F.MEAS_ADC_CTL_EN j)) ∧ s.get (F.MEAS_ADC_STAT_STATE k.val) = A.waiting ∧ (s.adc k.val).due = none ∧ s.bit (F.MEAS_ADC_CAL_STEALING k.val) = false) ∧
    (∃ (ini : Initiator) (k : Fin 4) (s : State), s.sends ini true (R.MEAS_ADC_CTL k.val) = true ∧ s.domOn 20 = true ∧ s.regValid (R.MEAS_ADC_CTL k.val) = true ∧ (∀ j : Nat, j < 4 → (s.adc j).live = s.bit (F.MEAS_ADC_CTL_EN j)) ∧ s.get (F.MEAS_ADC_STAT_STATE k.val) = A.running) ∧
    (∃ (ini : Initiator) (k : Fin 4) (s : State), s.sends ini true (R.MEAS_ADC_CTL k.val) = true ∧ s.domOn 20 = true ∧ s.regValid (R.MEAS_ADC_CTL k.val) = true ∧ (∀ j : Nat, j < 4 → (s.adc j).live = s.bit (F.MEAS_ADC_CTL_EN j)) ∧ (s.get (F.MEAS_ADC_STAT_STATE k.val) = A.off ∨ (s.get (F.MEAS_ADC_STAT_STATE k.val) = A.waiting ∧ (s.adc k.val).due ≠ none))) ∧
    (∃ (k : Fin 4) (w : Nat) (delay : Fin 161) (s : State), (∀ j : Nat, j < 4 → (s.adc j).due.all (fun b => decide (max s.now w < b)) = true ∧ s.bit (F.MEAS_ADC_CAL_STEALING j) = false) ∧ s.domOn 20 = true ∧ s.get (F.MEAS_ADC_CTL_TRIG k.val) = 3 ∧ s.get (F.MEAS_ADC_STAT_STATE k.val) = A.waiting ∧ (s.adc k.val).due = none) ∧
    (∃ (k : Fin 4) (e : Nat) (w : Nat) (delay : Fin 161) (s : State), (∀ j : Nat, j < 4 → (s.adc j).due.all (fun b => decide (max s.now w < b)) = true ∧ s.bit (F.MEAS_ADC_CAL_STEALING j) = false) ∧ s.domOn 20 = true ∧ s.get (F.MEAS_ADC_CTL_TRIG k.val) = 1 ∧ (s.adc k.val).enAt = some e ∧ 1 ≤ s.get (F.MEAS_ADC_TRIG_ARG k.val) ∧ e < max s.now w ∧ (max s.now w - e) % (s.get (F.MEAS_ADC_TRIG_ARG k.val) * 400) = 0 ∧ s.get (F.MEAS_ADC_STAT_STATE k.val) = A.waiting ∧ (s.adc k.val).due = none) ∧
    (∃ (k : Fin 4) (d : Nat) (w : Nat) (delay : Fin 161) (s : State), (∀ j : Nat, j < 4 → (s.adc j).due.all (fun b => decide (max s.now w < b)) = true ∧ s.bit (F.MEAS_ADC_CAL_STEALING j) = false) ∧ s.domOn 20 = true ∧ s.get (F.MEAS_ADC_CTL_TRIG k.val) = 2 ∧ s.trigOk k.val = true ∧ d = s.get (F.MEAS_ADC_TRIG_DOM k.val) ∧ d ≠ 0 ∧ ((s.at_ w).domValid (d - 1) = true ∧ (s.at_ w).domReverse (d - 1) = false ∧ (s.at_ w).domStalled (d - 1) = false) ∧ (s.adc k.val).shaftAt ≠ some (max s.now w) ∧ (s.at_ w).binEntered (d - 1) (s.get (F.MEAS_ADC_TRIG_ARG k.val) % 8192) (s.get (F.MEAS_ADC_TRIG_PHASE k.val)) = true ∧ s.get (F.MEAS_ADC_STAT_STATE k.val) = A.waiting ∧ (s.adc k.val).due = none) ∧
    (∃ (k : Fin 4) (line : Fin 16) (m : Nat) (w : Nat) (delay : Fin 161) (s : State), (∀ j : Nat, j < 4 → (s.adc j).due.all (fun b => decide (max s.now w < b)) = true ∧ s.bit (F.MEAS_ADC_CAL_STEALING j) = false) ∧ s.domOn 20 = true ∧ s.get (F.MEAS_ADC_CTL_TRIG k.val) = 4 ∧ s.get (F.MEAS_ADC_TRIG_ARG k.val) % 16 = line.val ∧ (m = (s.at_ w).stepNow - 2 ∨ m = (s.at_ w).stepNow - 2 + 1) ∧ (s.at_ w).rimRises m 0 (96 + line.val) 255 0 = true ∧ s.get (F.MEAS_ADC_STAT_STATE k.val) = A.waiting ∧ (s.adc k.val).due = none) ∧
    (∃ (sh : Bool) (k : Fin 4) (src : AdcTrig) (w : Nat) (delay : Fin 161) (s : State), (∀ j : Nat, j < 4 → (s.adc j).due.all (fun b => decide (max s.now w < b)) = true ∧ s.bit (F.MEAS_ADC_CAL_STEALING j) = false) ∧ s.domOn 20 = true ∧ (s.at_ w).trigHolds k.val src = true ∧ sh = (src == .shaft) ∧ s.get (F.MEAS_ADC_STAT_STATE k.val) = A.running) ∧
    (∃ (k : Fin 4) (src : AdcTrig) (w : Nat) (delay : Fin 161) (s : State), (∀ j : Nat, j < 4 → (s.adc j).due.all (fun b => decide (max s.now w < b)) = true ∧ s.bit (F.MEAS_ADC_CAL_STEALING j) = false) ∧ s.domOn 20 = true ∧ ((s.at_ w).trigHolds k.val src = false ∨ s.get (F.MEAS_ADC_STAT_STATE k.val) = A.off ∨ (s.get (F.MEAS_ADC_STAT_STATE k.val) = A.waiting ∧ (s.adc k.val).due ≠ none))) ∧
    (∃ (k : Fin 4) (src : AdcTrig) (w : Nat) (delay : Fin 161) (s : State), (∀ j : Nat, j < 4 → (s.adc j).due.all (fun b => decide (max s.now w < b)) = true ∧ s.bit (F.MEAS_ADC_CAL_STEALING j) = false) ∧ s.domOn 20 = false) ∧
    (∃ (k : Fin 4) (w : Nat) (s : State), (∀ j : Nat, j < 4 → (s.adc j).due.all (fun b => decide (max s.now w < b)) = true ∧ (j ≠ k.val → s.bit (F.MEAS_ADC_CAL_STEALING j) = false)) ∧ s.domOn 20 = true ∧ s.bit (F.MEAS_ADC_CAL_STEALING k.val) = false ∧ ((s.adc k.val).live = true ∧ (s.adc k.val).calib = true ∧ (s.adc k.val).stopping = false)) ∧
    (∃ (k : Fin 4) (w : Nat) (s : State), (∀ j : Nat, j < 4 → (s.adc j).due.all (fun b => decide (max s.now w < b)) = true ∧ (j ≠ k.val → s.bit (F.MEAS_ADC_CAL_STEALING j) = false)) ∧ s.domOn 20 = true ∧ ((s.adc k.val).live = true ∧ (s.adc k.val).calib = false) ∧ ((s.get (F.MEAS_ADC_STAT_STATE k.val) = A.waiting ∧ s.bit (F.MEAS_ADC_CAL_STEALING k.val) = false) ∨ (s.bit (F.MEAS_ADC_CAL_STEALING k.val) = true ∧ 63 * 160000 ≤ max s.now w - (s.adc k.val).stealAt)) ∧ (s.adc k.val).stolen ≤ 64) ∧
    (∃ (k : Fin 4) (w : Nat) (s : State), (∀ j : Nat, j < 4 → (s.adc j).due.all (fun b => decide (max s.now w < b)) = true ∧ s.bit (F.MEAS_ADC_CAL_STEALING j) = false) ∧ ((s.adc k.val).live = false ∨ s.domOn 20 = false ∨ ((s.adc k.val).calib = false ∧ s.get (F.MEAS_ADC_STAT_STATE k.val) ≠ A.waiting))) ∧
    (∃ (k : Fin 4) (w : Nat) (s : State), (∀ j : Nat, j < 4 → (s.adc j).due.all (fun b => decide (max s.now w < b)) = true ∧ s.bit (F.MEAS_ADC_CAL_STEALING j) = false) ∧ s.domOn 20 = true ∧ (s.adc k.val).live = true ∧ s.get (F.MEAS_ADC_STAT_STATE k.val) = A.running ∧ (s.adc k.val).idleAt + 4000000000 ≤ max s.now w) ∧
    (∃ (k : Fin 4) (w : Nat) (s : State), (∀ j : Nat, j < 4 → (s.adc j).due.all (fun b => decide (max s.now w < b)) = true ∧ s.bit (F.MEAS_ADC_CAL_STEALING j) = false) ∧ (s.domOn 20 = false ∨ (s.adc k.val).live = false ∨ s.get (F.MEAS_ADC_STAT_STATE k.val) ≠ A.running ∨ max s.now w < (s.adc k.val).idleAt + 4000000000)) ∧
    (∃ (k j : Fin 4) (b w : Nat) (s : State), j ≠ k ∧ (s.adc j.val).live = false ∧ (s.adc k.val).due = some b ∧ b ≤ max s.now w ∧ (∀ i : Nat, i < 4 → (i ≠ k.val → (s.adc i).due.all (fun b => decide (max s.now w < b)) = true) ∧ s.bit (F.MEAS_ADC_CAL_STEALING i) = false)) :=
  ⟨⟨(.tap), (2), ((wMeas.set (F.MEAS_ADC_CTL_EN 2) 0).set (F.MEAS_ADC_STAT_STATE 2) A.off).setAdc 2 {}, by decide +kernel⟩,
   ⟨(.tap), (2), (((wMeas.set (F.MEAS_ADC_CTL_EN 2) 0).set (F.MEAS_ADC_STAT_STATE 2) A.off).set (F.MEAS_ADC_TRIG_DOM 2) 0).setAdc 2 {}, by decide +kernel⟩,
   ⟨(.tap), (2), ((wMeas.set (F.MEAS_ADC_CTL_EN 2) 0).set (F.MEAS_ADC_STAT_STATE 2) A.off).set F.CLK_CTL_CORE 0, by decide +kernel⟩,
   ⟨(.tap), (2), ((wMeas.set (F.MEAS_ADC_CTL_EN 2) 0).set (F.MEAS_ADC_STAT_STATE 2) A.off).set (F.MEAS_ADC_CTL_LIST_BASE 2) 3, by decide +kernel⟩,
   ⟨(.tap), (2), wMeas, by decide +kernel⟩,
   ⟨(.tap), (2), { ((wMeas.set (F.MEAS_ADC_STAT_STATE 2) A.running).set (F.MEAS_ADC_CAL_STEALING 2) 1).setAdc 2 { live := true, stealAt := 4000000000, stolen := 1 } with now := 4000500000 }, by decide +kernel⟩,
   ⟨(.tap), (2), .adcEnable .tap 2, wMeas, by decide +kernel⟩,
   ⟨(.tap), (2), wMeas, by decide +kernel⟩,
   ⟨(.tap), (2), wMeas.set (F.MEAS_ADC_STAT_STATE 2) A.running, by decide +kernel⟩,
   ⟨(.tap), (2), wMeas.set (F.MEAS_ADC_STAT_STATE 2) A.off, by decide +kernel⟩,
   ⟨(2), (800), (160), (wMeas.set (F.MEAS_ADC_CTL_TRIG 2) 3), by decide +kernel⟩,
   ⟨(2), (20), (1220), (160), ((wMeas.set (F.MEAS_ADC_CTL_TRIG 2) 1).set (F.MEAS_ADC_TRIG_ARG 2) 3).setAdc 2 { live := true, enAt := some 20 }, by decide +kernel⟩,
   ⟨(2), (1), (800), (160), wShaftTrig, by decide +kernel⟩,
   ⟨(2), (9), (20), (10), (160), (wRimAt ((wMeas.set (F.MEAS_ADC_CTL_TRIG 2) 4).set (F.MEAS_ADC_TRIG_ARG 2) 9) 0 105 255 1), by decide +kernel⟩,
   ⟨false, (1), .sync, (800), (0), (wMeas.set (F.MEAS_ADC_CTL_TRIG 1) 3).set (F.MEAS_ADC_STAT_STATE 1) A.running, by decide +kernel⟩,
   ⟨(1), .sync, (800), (0), wMeas, by decide +kernel⟩,
   ⟨(1), .sync, (800), (0), ((wMeas.set (F.MEAS_ADC_CTL_TRIG 1) 3).setPwrState 20 3), by decide +kernel⟩,
   ⟨(3), (26240), (wMeas.set (F.MEAS_ADC_CTL_TRIG 3) 4).setAdc 3 { live := true, calib := true }, by decide +kernel⟩,
   ⟨(3), (26240), wMeas, by decide +kernel⟩,
   ⟨(3), (26240), (wMeas.set (F.MEAS_ADC_STAT_STATE 3) A.running), by decide +kernel⟩,
   ⟨(0), (4000000000), wMeas.set (F.MEAS_ADC_STAT_STATE 0) A.running, by decide +kernel⟩,
   ⟨(0), (3999999999), wMeas.set (F.MEAS_ADC_STAT_STATE 0) A.running, by decide +kernel⟩,
   ⟨(3), (0), (900), (1000), (wMeas.setAdc 3 { live := true, due := some 900 }).setAdc 0 {}, by decide +kernel⟩⟩

/-- The hypotheses of ResultsAreCalibratedAndJudged are met. -/
theorem wit_ResultsAreCalibratedAndJudged :
    (∃ (k : Fin 4) (w : Nat) (raws : List (BitVec 16)) (i n wn st prev : Nat) (y v : Int) (s : State), (∀ j : Nat, j < 4 → (s.adc j).due.all (fun b => decide (max s.now w < b)) = true ∧ s.bit (F.MEAS_ADC_CAL_STEALING j) = false) ∧ s.domOn 20 = true ∧ s.get (F.MEAS_ADC_STAT_STATE k.val) = A.running ∧ raws.length = 2 ^ bitsOf (s.adc k.val).cur 16 14 ∧ i = (s.adc k.val).base + (s.adc k.val).pos ∧ i < 128 ∧ n = 4 * k.val + bitsOf (s.adc k.val).cur 13 12 ∧ y = Int.tdiv (Int.tdiv (raws.foldl (fun a r => a + r.toInt) 0) (2 ^ bitsOf (s.adc k.val).cur 16 14 : Nat) * (s.get (F.MEAS_FCAL_FG n) : Int) * (65536 + s.getS (F.MEAS_UCAL_UG n))) (2 ^ 31) + s.getS (F.MEAS_FCAL_FO n) + s.getS (F.MEAS_UCAL_UO n) ∧ v = max (-32768) (min 32767 y) ∧ wn = bitsOf (s.adc k.val).cur 25 21 ∧ wn ≤ 16 ∧ st = (if wn = 0 then 0 else if v < s.getS (F.MEAS_WIN_LO (wn - 1)) then W.below else if v < s.getS (F.MEAS_WIN_HI (wn - 1)) then W.inside else W.above) ∧ (prev = (if (s.adc k.val).seen.contains i = true ∧ s.get (F.MEAS_RES_WSTATE i) ≠ 0 then s.get (F.MEAS_RES_WSTATE i) else W.inside)) ∧ (¬ ((st = W.below ∨ st = W.above) ∧ st ≠ prev)) ∧ (s.adc k.val).stopping = false ∧ (s.adc k.val).pos + 1 < s.get (F.MEAS_ADC_CTL_LIST_LEN k.val)) ∧
    (∃ (k : Fin 4) (w : Nat) (raws : List (BitVec 16)) (i n wn st prev : Nat) (y v : Int) (s : State), (∀ j : Nat, j < 4 → (s.adc j).due.all (fun b => decide (max s.now w < b)) = true ∧ s.bit (F.MEAS_ADC_CAL_STEALING j) = false) ∧ s.domOn 20 = true ∧ s.get (F.MEAS_ADC_STAT_STATE k.val) = A.running ∧ raws.length = 2 ^ bitsOf (s.adc k.val).cur 16 14 ∧ i = (s.adc k.val).base + (s.adc k.val).pos ∧ i < 128 ∧ n = 4 * k.val + bitsOf (s.adc k.val).cur 13 12 ∧ y = Int.tdiv (Int.tdiv (raws.foldl (fun a r => a + r.toInt) 0) (2 ^ bitsOf (s.adc k.val).cur 16 14 : Nat) * (s.get (F.MEAS_FCAL_FG n) : Int) * (65536 + s.getS (F.MEAS_UCAL_UG n))) (2 ^ 31) + s.getS (F.MEAS_FCAL_FO n) + s.getS (F.MEAS_UCAL_UO n) ∧ v = max (-32768) (min 32767 y) ∧ wn = bitsOf (s.adc k.val).cur 25 21 ∧ wn ≤ 16 ∧ st = (if wn = 0 then 0 else if v < s.getS (F.MEAS_WIN_LO (wn - 1)) then W.below else if v < s.getS (F.MEAS_WIN_HI (wn - 1)) then W.inside else W.above) ∧ (prev = (if (s.adc k.val).seen.contains i = true ∧ s.get (F.MEAS_RES_WSTATE i) ≠ 0 then s.get (F.MEAS_RES_WSTATE i) else W.inside)) ∧ (¬ ((st = W.below ∨ st = W.above) ∧ st ≠ prev)) ∧ (s.adc k.val).stopping = false ∧ s.get (F.MEAS_ADC_CTL_LIST_LEN k.val) ≤ (s.adc k.val).pos + 1) ∧
    (∃ (k : Fin 4) (w : Nat) (raws : List (BitVec 16)) (i n wn st prev : Nat) (y v : Int) (s : State), (∀ j : Nat, j < 4 → (s.adc j).due.all (fun b => decide (max s.now w < b)) = true ∧ s.bit (F.MEAS_ADC_CAL_STEALING j) = false) ∧ s.domOn 20 = true ∧ s.get (F.MEAS_ADC_STAT_STATE k.val) = A.running ∧ raws.length = 2 ^ bitsOf (s.adc k.val).cur 16 14 ∧ i = (s.adc k.val).base + (s.adc k.val).pos ∧ i < 128 ∧ n = 4 * k.val + bitsOf (s.adc k.val).cur 13 12 ∧ y = Int.tdiv (Int.tdiv (raws.foldl (fun a r => a + r.toInt) 0) (2 ^ bitsOf (s.adc k.val).cur 16 14 : Nat) * (s.get (F.MEAS_FCAL_FG n) : Int) * (65536 + s.getS (F.MEAS_UCAL_UG n))) (2 ^ 31) + s.getS (F.MEAS_FCAL_FO n) + s.getS (F.MEAS_UCAL_UO n) ∧ v = max (-32768) (min 32767 y) ∧ wn = bitsOf (s.adc k.val).cur 25 21 ∧ wn ≤ 16 ∧ st = (if wn = 0 then 0 else if v < s.getS (F.MEAS_WIN_LO (wn - 1)) then W.below else if v < s.getS (F.MEAS_WIN_HI (wn - 1)) then W.inside else W.above) ∧ (prev = (if (s.adc k.val).seen.contains i = true ∧ s.get (F.MEAS_RES_WSTATE i) ≠ 0 then s.get (F.MEAS_RES_WSTATE i) else W.inside)) ∧ (¬ ((st = W.below ∨ st = W.above) ∧ st ≠ prev)) ∧ (s.adc k.val).stopping = true) ∧
    (∃ (k : Fin 4) (w : Nat) (raws : List (BitVec 16)) (i n wn st prev : Nat) (y v : Int) (s : State), (∀ j : Nat, j < 4 → (s.adc j).due.all (fun b => decide (max s.now w < b)) = true ∧ s.bit (F.MEAS_ADC_CAL_STEALING j) = false) ∧ s.domOn 20 = true ∧ s.get (F.MEAS_ADC_STAT_STATE k.val) = A.running ∧ raws.length = 2 ^ bitsOf (s.adc k.val).cur 16 14 ∧ i = (s.adc k.val).base + (s.adc k.val).pos ∧ i < 128 ∧ n = 4 * k.val + bitsOf (s.adc k.val).cur 13 12 ∧ y = Int.tdiv (Int.tdiv (raws.foldl (fun a r => a + r.toInt) 0) (2 ^ bitsOf (s.adc k.val).cur 16 14 : Nat) * (s.get (F.MEAS_FCAL_FG n) : Int) * (65536 + s.getS (F.MEAS_UCAL_UG n))) (2 ^ 31) + s.getS (F.MEAS_FCAL_FO n) + s.getS (F.MEAS_UCAL_UO n) ∧ v = max (-32768) (min 32767 y) ∧ wn = bitsOf (s.adc k.val).cur 25 21 ∧ wn ≤ 16 ∧ st = (if wn = 0 then 0 else if v < s.getS (F.MEAS_WIN_LO (wn - 1)) then W.below else if v < s.getS (F.MEAS_WIN_HI (wn - 1)) then W.inside else W.above) ∧ (prev = (if (s.adc k.val).seen.contains i = true ∧ s.get (F.MEAS_RES_WSTATE i) ≠ 0 then s.get (F.MEAS_RES_WSTATE i) else W.inside)) ∧ ((st = W.below ∨ st = W.above) ∧ st ≠ prev) ∧ (s.adc k.val).stopping = false ∧ (s.adc k.val).pos + 1 < s.get (F.MEAS_ADC_CTL_LIST_LEN k.val) ∧ s.bit (F.MEAS_WIN_CTL_SNAP (wn - 1)) = false) ∧
    (∃ (k : Fin 4) (w : Nat) (raws : List (BitVec 16)) (i n wn st prev : Nat) (y v : Int) (s : State), (∀ j : Nat, j < 4 → (s.adc j).due.all (fun b => decide (max s.now w < b)) = true ∧ s.bit (F.MEAS_ADC_CAL_STEALING j) = false) ∧ s.domOn 20 = true ∧ s.get (F.MEAS_ADC_STAT_STATE k.val) = A.running ∧ raws.length = 2 ^ bitsOf (s.adc k.val).cur 16 14 ∧ i = (s.adc k.val).base + (s.adc k.val).pos ∧ i < 128 ∧ n = 4 * k.val + bitsOf (s.adc k.val).cur 13 12 ∧ y = Int.tdiv (Int.tdiv (raws.foldl (fun a r => a + r.toInt) 0) (2 ^ bitsOf (s.adc k.val).cur 16 14 : Nat) * (s.get (F.MEAS_FCAL_FG n) : Int) * (65536 + s.getS (F.MEAS_UCAL_UG n))) (2 ^ 31) + s.getS (F.MEAS_FCAL_FO n) + s.getS (F.MEAS_UCAL_UO n) ∧ v = max (-32768) (min 32767 y) ∧ wn = bitsOf (s.adc k.val).cur 25 21 ∧ wn ≤ 16 ∧ st = (if wn = 0 then 0 else if v < s.getS (F.MEAS_WIN_LO (wn - 1)) then W.below else if v < s.getS (F.MEAS_WIN_HI (wn - 1)) then W.inside else W.above) ∧ (prev = (if (s.adc k.val).seen.contains i = true ∧ s.get (F.MEAS_RES_WSTATE i) ≠ 0 then s.get (F.MEAS_RES_WSTATE i) else W.inside)) ∧ ((st = W.below ∨ st = W.above) ∧ st ≠ prev) ∧ (s.adc k.val).stopping = false ∧ (s.adc k.val).pos + 1 < s.get (F.MEAS_ADC_CTL_LIST_LEN k.val) ∧ s.bit (F.MEAS_WIN_CTL_SNAP (wn - 1)) = true ∧ s.alive = true ∧ s.bit F.EMN_TRIG_CFG_SNAP_FWD = false ∧ s.bit F.SNAP_STAT_FULL = false ∧ s.snapAt ≠ some (max s.now w)) ∧
    (∃ (k : Fin 4) (w : Nat) (raws : List (BitVec 16)) (s : State), (∀ j : Nat, j < 4 → (s.adc j).due.all (fun b => decide (max s.now w < b)) = true ∧ s.bit (F.MEAS_ADC_CAL_STEALING j) = false) ∧ (s.domOn 20 = false ∨ s.get (F.MEAS_ADC_STAT_STATE k.val) ≠ A.running ∨ raws.length ≠ 2 ^ bitsOf (s.adc k.val).cur 16 14)) ∧
    (∃ (raw : BitVec 16) (m n st prev : Nat) (y v : Int) (s : State), s.mode ≠ M.reset ∧ m = s.monNext ∧ m < 9 ∧ n = 0x18 + m ∧ y = Int.tdiv (raw.toInt * (s.get (F.MEAS_FCAL_FG n) : Int) * (65536 + s.getS (F.MEAS_UCAL_UG n))) (2 ^ 31) + s.getS (F.MEAS_FCAL_FO n) + s.getS (F.MEAS_UCAL_UO n) ∧ v = max (-32768) (min 32767 y) ∧ st = (if v < s.getS (F.MEAS_MON_LIM_LO m) then W.below else if v < s.getS (F.MEAS_MON_LIM_HI m) then W.inside else W.above) ∧ prev = (if s.get (F.MEAS_MON_WSTATE m) = 0 then W.inside else s.get (F.MEAS_MON_WSTATE m))) ∧
    (∃ (raw : BitVec 16) (s : State), s.mode = M.reset) ∧
    (∃ (k : Fin 8) (x : BitVec 16) (ticks w : Nat) (st new : Nat) (lo hi hy : Int) (s : State), s.bit (F.MEAS_CMP_CFG_EN k.val) = true ∧ (s.get (F.MEAS_FCAL_FG (0x10 + k.val)) ≠ 0 ∧ s.get (F.MEAS_CMP_CFG_FILT k.val) + 1 ≤ min ticks ((s.at_ w).filterTicks k.val)) ∧ lo = Int.fdiv (Int.tdiv ((s.getS (F.MEAS_CMP_THR_LO k.val) - s.getS (F.MEAS_FCAL_FO (0x10 + k.val)) - s.getS (F.MEAS_UCAL_UO (0x10 + k.val))) * 2 ^ 31) ((s.get (F.MEAS_FCAL_FG (0x10 + k.val)) : Int) * (65536 + s.getS (F.MEAS_UCAL_UG (0x10 + k.val))))) 64 * 64 ∧ hi = Int.fdiv (Int.tdiv ((s.getS (F.MEAS_CMP_THR_HI k.val) - s.getS (F.MEAS_FCAL_FO (0x10 + k.val)) - s.getS (F.MEAS_UCAL_UO (0x10 + k.val))) * 2 ^ 31) ((s.get (F.MEAS_FCAL_FG (0x10 + k.val)) : Int) * (65536 + s.getS (F.MEAS_UCAL_UG (0x10 + k.val))))) 64 * 64 ∧ hy = 8 * (s.get (F.MEAS_CMP_CFG_HYST k.val) : Int) ∧ st = s.get (F.MEAS_CMP_STAT_STATE k.val) ∧ (new = (if x.toInt < lo then Cmp.below else if hi ≤ lo ∨ hi ≤ x.toInt then Cmp.above else if st = Cmp.below ∧ x.toInt < lo + hy then st else if st = Cmp.above ∧ hi - hy ≤ x.toInt then st else Cmp.inside)) ∧ new = st) ∧
    (∃ (k : Fin 8) (x : BitVec 16) (ticks w : Nat) (st new b : Nat) (lo hi hy : Int) (s : State), s.bit (F.MEAS_CMP_CFG_EN k.val) = true ∧ (s.get (F.MEAS_FCAL_FG (0x10 + k.val)) ≠ 0 ∧ s.get (F.MEAS_CMP_CFG_FILT k.val) + 1 ≤ min ticks ((s.at_ w).filterTicks k.val)) ∧ lo = Int.fdiv (Int.tdiv ((s.getS (F.MEAS_CMP_THR_LO k.val) - s.getS (F.MEAS_FCAL_FO (0x10 + k.val)) - s.getS (F.MEAS_UCAL_UO (0x10 + k.val))) * 2 ^ 31) ((s.get (F.MEAS_FCAL_FG (0x10 + k.val)) : Int) * (65536 + s.getS (F.MEAS_UCAL_UG (0x10 + k.val))))) 64 * 64 ∧ hi = Int.fdiv (Int.tdiv ((s.getS (F.MEAS_CMP_THR_HI k.val) - s.getS (F.MEAS_FCAL_FO (0x10 + k.val)) - s.getS (F.MEAS_UCAL_UO (0x10 + k.val))) * 2 ^ 31) ((s.get (F.MEAS_FCAL_FG (0x10 + k.val)) : Int) * (65536 + s.getS (F.MEAS_UCAL_UG (0x10 + k.val))))) 64 * 64 ∧ hy = 8 * (s.get (F.MEAS_CMP_CFG_HYST k.val) : Int) ∧ st = s.get (F.MEAS_CMP_STAT_STATE k.val) ∧ (new = (if x.toInt < lo then Cmp.below else if hi ≤ lo ∨ hi ≤ x.toInt then Cmp.above else if st = Cmp.below ∧ x.toInt < lo + hy then st else if st = Cmp.above ∧ hi - hy ≤ x.toInt then st else Cmp.inside)) ∧ new ≠ st ∧ b = (if new = Cmp.below then 2 else if new = Cmp.above then 1 else 0) ∧ (s.get (F.MEAS_CMP_CFG_EVT k.val)).testBit b = false) ∧
    (∃ (k : Fin 8) (x : BitVec 16) (ticks w : Nat) (st new b : Nat) (lo hi hy : Int) (s : State), s.bit (F.MEAS_CMP_CFG_EN k.val) = true ∧ (s.get (F.MEAS_FCAL_FG (0x10 + k.val)) ≠ 0 ∧ s.get (F.MEAS_CMP_CFG_FILT k.val) + 1 ≤ min ticks ((s.at_ w).filterTicks k.val)) ∧ lo = Int.fdiv (Int.tdiv ((s.getS (F.MEAS_CMP_THR_LO k.val) - s.getS (F.MEAS_FCAL_FO (0x10 + k.val)) - s.getS (F.MEAS_UCAL_UO (0x10 + k.val))) * 2 ^ 31) ((s.get (F.MEAS_FCAL_FG (0x10 + k.val)) : Int) * (65536 + s.getS (F.MEAS_UCAL_UG (0x10 + k.val))))) 64 * 64 ∧ hi = Int.fdiv (Int.tdiv ((s.getS (F.MEAS_CMP_THR_HI k.val) - s.getS (F.MEAS_FCAL_FO (0x10 + k.val)) - s.getS (F.MEAS_UCAL_UO (0x10 + k.val))) * 2 ^ 31) ((s.get (F.MEAS_FCAL_FG (0x10 + k.val)) : Int) * (65536 + s.getS (F.MEAS_UCAL_UG (0x10 + k.val))))) 64 * 64 ∧ hy = 8 * (s.get (F.MEAS_CMP_CFG_HYST k.val) : Int) ∧ st = s.get (F.MEAS_CMP_STAT_STATE k.val) ∧ (new = (if x.toInt < lo then Cmp.below else if hi ≤ lo ∨ hi ≤ x.toInt then Cmp.above else if st = Cmp.below ∧ x.toInt < lo + hy then st else if st = Cmp.above ∧ hi - hy ≤ x.toInt then st else Cmp.inside)) ∧ new ≠ st ∧ b = (if new = Cmp.below then 2 else if new = Cmp.above then 1 else 0) ∧ (s.get (F.MEAS_CMP_CFG_EVT k.val)).testBit b = true ∧ ((s.get (F.MEAS_CMP_CFG_ACT k.val)).testBit 0 = false ∧ (s.get (F.MEAS_CMP_CFG_ACT k.val)).testBit 2 = false)) ∧
    (∃ (k : Fin 8) (x : BitVec 16) (ticks w : Nat) (st new b : Nat) (lo hi hy : Int) (s : State), s.bit (F.MEAS_CMP_CFG_EN k.val) = true ∧ (s.get (F.MEAS_FCAL_FG (0x10 + k.val)) ≠ 0 ∧ s.get (F.MEAS_CMP_CFG_FILT k.val) + 1 ≤ min ticks ((s.at_ w).filterTicks k.val)) ∧ lo = Int.fdiv (Int.tdiv ((s.getS (F.MEAS_CMP_THR_LO k.val) - s.getS (F.MEAS_FCAL_FO (0x10 + k.val)) - s.getS (F.MEAS_UCAL_UO (0x10 + k.val))) * 2 ^ 31) ((s.get (F.MEAS_FCAL_FG (0x10 + k.val)) : Int) * (65536 + s.getS (F.MEAS_UCAL_UG (0x10 + k.val))))) 64 * 64 ∧ hi = Int.fdiv (Int.tdiv ((s.getS (F.MEAS_CMP_THR_HI k.val) - s.getS (F.MEAS_FCAL_FO (0x10 + k.val)) - s.getS (F.MEAS_UCAL_UO (0x10 + k.val))) * 2 ^ 31) ((s.get (F.MEAS_FCAL_FG (0x10 + k.val)) : Int) * (65536 + s.getS (F.MEAS_UCAL_UG (0x10 + k.val))))) 64 * 64 ∧ hy = 8 * (s.get (F.MEAS_CMP_CFG_HYST k.val) : Int) ∧ st = s.get (F.MEAS_CMP_STAT_STATE k.val) ∧ (new = (if x.toInt < lo then Cmp.below else if hi ≤ lo ∨ hi ≤ x.toInt then Cmp.above else if st = Cmp.below ∧ x.toInt < lo + hy then st else if st = Cmp.above ∧ hi - hy ≤ x.toInt then st else Cmp.inside)) ∧ new ≠ st ∧ b = (if new = Cmp.below then 2 else if new = Cmp.above then 1 else 0) ∧ (s.get (F.MEAS_CMP_CFG_EVT k.val)).testBit b = true ∧ s.get (F.MEAS_CMP_CFG_ACT k.val) = 1 ∧ s.alive = true ∧ s.bit F.EMN_TRIG_CFG_SNAP_FWD = false ∧ s.bit F.SNAP_STAT_FULL = false ∧ s.snapAt ≠ some (max s.now w)) ∧
    (∃ (d : Fin 23) (u : State) (k : Fin 8) (x : BitVec 16) (ticks w : Nat) (st new b : Nat) (lo hi hy : Int) (s : State), s.bit (F.MEAS_CMP_CFG_EN k.val) = true ∧ (s.get (F.MEAS_FCAL_FG (0x10 + k.val)) ≠ 0 ∧ s.get (F.MEAS_CMP_CFG_FILT k.val) + 1 ≤ min ticks ((s.at_ w).filterTicks k.val)) ∧ lo = Int.fdiv (Int.tdiv ((s.getS (F.MEAS_CMP_THR_LO k.val) - s.getS (F.MEAS_FCAL_FO (0x10 + k.val)) - s.getS (F.MEAS_UCAL_UO (0x10 + k.val))) * 2 ^ 31) ((s.get (F.MEAS_FCAL_FG (0x10 + k.val)) : Int) * (65536 + s.getS (F.MEAS_UCAL_UG (0x10 + k.val))))) 64 * 64 ∧ hi = Int.fdiv (Int.tdiv ((s.getS (F.MEAS_CMP_THR_HI k.val) - s.getS (F.MEAS_FCAL_FO (0x10 + k.val)) - s.getS (F.MEAS_UCAL_UO (0x10 + k.val))) * 2 ^ 31) ((s.get (F.MEAS_FCAL_FG (0x10 + k.val)) : Int) * (65536 + s.getS (F.MEAS_UCAL_UG (0x10 + k.val))))) 64 * 64 ∧ hy = 8 * (s.get (F.MEAS_CMP_CFG_HYST k.val) : Int) ∧ st = s.get (F.MEAS_CMP_STAT_STATE k.val) ∧ (new = (if x.toInt < lo then Cmp.below else if hi ≤ lo ∨ hi ≤ x.toInt then Cmp.above else if st = Cmp.below ∧ x.toInt < lo + hy then st else if st = Cmp.above ∧ hi - hy ≤ x.toInt then st else Cmp.inside)) ∧ new ≠ st ∧ b = (if new = Cmp.below then 2 else if new = Cmp.above then 1 else 0) ∧ (s.get (F.MEAS_CMP_CFG_EVT k.val)).testBit b = true ∧ s.get (F.MEAS_CMP_CFG_ACT k.val) = 4 ∧ s.rdN (R.MEAS_CMP_WAKE k.val) = 2 ^ d.val ∧ u = { (s.wr (R.MEAS_CMP_STAT k.val) (setBitsOf (setBitsOf (s.rd (R.MEAS_CMP_STAT k.val)) 31 30 new) (if new = Cmp.below then 1 else if new = Cmp.above then 2 else 0) (if new = Cmp.below then 1 else if new = Cmp.above then 2 else 0) 1)) with now := max s.now w, filters := Sparse.put (fun _ => 0) s.filters k.val (max s.now w) }) ∧
    (∃ (k : Fin 8) (x : BitVec 16) (ticks w : Nat) (s : State), (s.bit (F.MEAS_CMP_CFG_EN k.val) = false ∨ min ticks ((s.at_ w).filterTicks k.val) < s.get (F.MEAS_CMP_CFG_FILT k.val) + 1)) ∧
    (∃ (ini : Initiator) (k : Fin 8) (value : BitVec 32) (s : State), s.sends ini true (R.MEAS_CMP_CFG k.val) = true ∧ value.getLsbD 31 = false) ∧
    (∃ (ini : Initiator) (k : Fin 8) (value : BitVec 32) (s : State), s.sends ini true (R.MEAS_CMP_CFG k.val) = true ∧ value.getLsbD 31 = true) ∧
    (∃ (ini : Initiator) (k : Fin 8) (reg : Fin 3) (a : Nat) (value : BitVec 32) (s : State), ((reg = 1 ∧ a = R.MEAS_CMP_THR k.val) ∨ (reg = 2 ∧ a = R.MEAS_UCAL (0x10 + k.val))) ∧ s.sends ini true a = true) :=
  ⟨⟨(1), (960), ([100#16, 104#16]), 0, 4, 0, 0, 1, 102, 102, ((wMeas.set (F.MEAS_ADC_CTL_LIST_LEN 1) 4).set (F.MEAS_ADC_STAT_STATE 1) A.running).setAdc 1 { live := true, cur := 0x4000#32 }, by decide +kernel⟩,
   ⟨(1), (960), ([100#16]), 0, 4, 0, 0, 1, 100, 100, (wMeas.set (F.MEAS_ADC_STAT_STATE 1) A.running).setAdc 1 { live := true, cur := 0#32 }, by decide +kernel⟩,
   ⟨(1), (960), ([100#16, 104#16]), 0, 4, 0, 0, 1, 102, 102, ((wMeas.set (F.MEAS_ADC_CTL_LIST_LEN 1) 4).set (F.MEAS_ADC_STAT_STATE 1) A.running).setAdc 1 { stopping := true, cur := 0x4000#32 }, by decide +kernel⟩,
   ⟨(1), (960), ([100#16, -104#16]), 5, 6, 1, 2, 1, -12, -12, (((((((wMeas.set (F.MEAS_ADC_CTL_LIST_LEN 1) 4).set (F.MEAS_ADC_STAT_STATE 1) A.running).setAdc 1 { live := true, base := 4, pos := 1, cur := 0x206000#32 }).set (F.MEAS_FCAL_FG 6) 32768).set (F.MEAS_FCAL_FO 6) 0xFFF6).set (F.MEAS_WIN_LO 0) 0xFFFA).set (F.MEAS_WIN_CTL_IRQ 0) 1), by decide +kernel⟩,
   ⟨(1), (960), ([100#16, -104#16]), 5, 6, 1, 2, 1, -12, -12, (((((((wMeas.set (F.MEAS_ADC_CTL_LIST_LEN 1) 4).set (F.MEAS_ADC_STAT_STATE 1) A.running).setAdc 1 { live := true, base := 4, pos := 1, cur := 0x206000#32 }).set (F.MEAS_FCAL_FG 6) 32768).set (F.MEAS_FCAL_FO 6) 0xFFF6).set (F.MEAS_WIN_LO 0) 0xFFFA).set (F.MEAS_WIN_CTL_IRQ 0) 1).set (F.MEAS_WIN_CTL_SNAP 0) 1, by decide +kernel⟩,
   ⟨(1), (960), ([]), wMeas, by decide +kernel⟩,
   ⟨(2000#16), 0, 0x18, 3, 1, 2020, 2020, ((wMeas.set (F.MEAS_MON_LIM_HI 0) 1000).set (F.MEAS_MON_LIM_LO 0) 100).set (F.MEAS_FCAL_FO 0x18) 20, by decide +kernel⟩,
   ⟨(5), wMode M.reset, by decide +kernel⟩,
   ⟨(5), (4090#16), (1), (10), 3, 3, 0, 4096, 8, (((((wMeas.set (F.MEAS_CMP_CFG_EN 5) 1).set (F.MEAS_CMP_CFG_EVT 5) 2).set (F.MEAS_CMP_CFG_ACT 5) 2).set (F.MEAS_FCAL_FG 0x15) 32768).set (F.MEAS_CMP_THR_HI 5) 4100).set (F.MEAS_CMP_STAT_STATE 5) 3 |>.set (F.MEAS_CMP_CFG_HYST 5) 1, by decide +kernel⟩,
   ⟨(5), (4087#16), (1), (10), 3, 2, 0, 0, 4096, 8, (((((wMeas.set (F.MEAS_CMP_CFG_EN 5) 1).set (F.MEAS_CMP_CFG_EVT 5) 2).set (F.MEAS_CMP_CFG_ACT 5) 2).set (F.MEAS_FCAL_FG 0x15) 32768).set (F.MEAS_CMP_THR_HI 5) 4100).set (F.MEAS_CMP_STAT_STATE 5) 3 |>.set (F.MEAS_CMP_CFG_HYST 5) 1, by decide +kernel⟩,
   ⟨(5), (0x1000#16), (1), (10), 0, 3, 1, 0, 4096, 0, ((((wMeas.set (F.MEAS_CMP_CFG_EN 5) 1).set (F.MEAS_CMP_CFG_EVT 5) 2).set (F.MEAS_CMP_CFG_ACT 5) 2).set (F.MEAS_FCAL_FG 0x15) 32768).set (F.MEAS_CMP_THR_HI 5) 4100, by decide +kernel⟩,
   ⟨(5), (0x1000#16), (1), (10), 0, 3, 1, 0, 4096, 0, ((((((wMeas.set (F.MEAS_CMP_CFG_EN 5) 1).set (F.MEAS_CMP_CFG_EVT 5) 2).set (F.MEAS_CMP_CFG_ACT 5) 2).set (F.MEAS_FCAL_FG 0x15) 32768).set (F.MEAS_CMP_THR_HI 5) 4100).set (F.MEAS_CMP_CFG_ACT 5) 1), by decide +kernel⟩,
   ⟨(20), ((((((((wMeas.set (F.MEAS_CMP_CFG_EN 5) 1).set (F.MEAS_CMP_CFG_EVT 5) 2).set (F.MEAS_CMP_CFG_ACT 5) 2).set (F.MEAS_FCAL_FG 0x15) 32768).set (F.MEAS_CMP_THR_HI 5) 4100).set (F.MEAS_CMP_CFG_ACT 5) 4).wr (R.MEAS_CMP_WAKE 5) 0x100000).setPwrState 20 2 |> fun z => { (z.wr (R.MEAS_CMP_STAT 5) 0xC0000004) with now := 10, filters := [(5, 10)] }), (5), (0x1000#16), (1), (10), 0, 3, 1, 0, 4096, 0, (((((((wMeas.set (F.MEAS_CMP_CFG_EN 5) 1).set (F.MEAS_CMP_CFG_EVT 5) 2).set (F.MEAS_CMP_CFG_ACT 5) 2).set (F.MEAS_FCAL_FG 0x15) 32768).set (F.MEAS_CMP_THR_HI 5) 4100).set (F.MEAS_CMP_CFG_ACT 5) 4).wr (R.MEAS_CMP_WAKE 5) 0x100000).setPwrState 20 2, by decide +kernel⟩,
   ⟨(5), (0x7000#16), (0), (10), wMeas, by decide +kernel⟩,
   ⟨(.tap), (7), (0x12345678#32), wMeas.set (F.MEAS_CMP_STAT_STATE 7) 2, by decide +kernel⟩,
   ⟨(.tap), (7), (0x92345678#32), (wMeas.set (F.MEAS_CMP_STAT_STATE 7) 2).set F.CLK_CTL_CORE 0, by decide +kernel⟩,
   ⟨(.tap), (7), 2, R.MEAS_UCAL 0x17, (0x12345678#32), wMeas, by decide +kernel⟩⟩

/-- The hypotheses of ChainLinks are met. -/
theorem wit_ChainLinks :
    (∃ (p : Fin 2) (tm : Nat) (frame : List (BitVec 8)) (b : List Nat) (s : State), s.emnUp = true ∧ s.linked p.val = true ∧ b = frame.map BitVec.toNat ∧ fieldBE b 4 2 ≤ 1024 ∧ b.length = 10 + fieldBE b 4 2 ∧ fieldBE b (b.length - 4) 4 = (crc32c (b.take (b.length - 4))).toNat ∧ fieldBE b 1 1 = (s.emnPort p.val).seqIn ∧ (fieldBE b 0 1 = 3 ∨ (s.bit F.EMN_POS_VALID = true ∧ s.passThrough = false ∧ fieldBE b 2 1 = s.get F.EMN_POS_POS))) ∧
    (∃ (p : Fin 2) (tm : Nat) (frame : List (BitVec 8)) (b : List Nat) (f : EmnFrame) (q : Nat) (has take : Bool) (s : State), s.emnUp = true ∧ s.linked p.val = true ∧ b = frame.map BitVec.toNat ∧ fieldBE b 4 2 ≤ 1024 ∧ b.length = 10 + fieldBE b 4 2 ∧ fieldBE b (b.length - 4) 4 = (crc32c (b.take (b.length - 4))).toNat ∧ fieldBE b 1 1 = (s.emnPort p.val).seqIn ∧ f = .data (fieldBE b 0 1) (fieldBE b 2 1) (fieldBE b 3 1) (slice b 6 (fieldBE b 4 2)) ∧ has = (s.bit F.EMN_POS_VALID && !s.passThrough) ∧ (¬ (has = true ∧ fieldBE b 2 1 = s.get F.EMN_POS_POS)) ∧ (q = (if has = true ∧ fieldBE b 2 1 ≠ 0xFF then (if s.get F.EMN_POS_POS < fieldBE b 2 1 then 1 else 0) else 1 - p.val)) ∧ (take = (if has = true then decide (fieldBE b 2 1 = 0xFF) else decide (fieldBE b 0 1 = 1 ∧ s.bit F.EMN_POS_VALID = true ∧ s.emn.upstream = true ∧ (fieldBE b 2 1 = s.get F.EMN_POS_POS ∨ (fieldBE b 2 1 = 0xFF ∧ ((fieldBE (slice b 6 (fieldBE b 4 2)) 2 2).testBit (s.get F.EMN_POS_POS) = true ∨ (2 < (slice b 6 (fieldBE b 4 2)).headD 0 ∧ s.cfg.boot.open_ = true))))))) ∧ fieldBE b 0 1 ≠ 2 ∧ fieldBE b 0 1 ≠ 3) ∧
    (∃ (p : Fin 2) (tm : Nat) (frame : List (BitVec 8)) (b : List Nat) (f : EmnFrame) (q : Nat) (has take : Bool) (h : HeldEvt) (n : Nat) (s : State), s.emnUp = true ∧ s.linked p.val = true ∧ b = frame.map BitVec.toNat ∧ fieldBE b 4 2 ≤ 1024 ∧ b.length = 10 + fieldBE b 4 2 ∧ fieldBE b (b.length - 4) 4 = (crc32c (b.take (b.length - 4))).toNat ∧ fieldBE b 1 1 = (s.emnPort p.val).seqIn ∧ f = .data (fieldBE b 0 1) (fieldBE b 2 1) (fieldBE b 3 1) (slice b 6 (fieldBE b 4 2)) ∧ has = (s.bit F.EMN_POS_VALID && !s.passThrough) ∧ (¬ (has = true ∧ fieldBE b 2 1 = s.get F.EMN_POS_POS)) ∧ (q = (if has = true ∧ fieldBE b 2 1 ≠ 0xFF then (if s.get F.EMN_POS_POS < fieldBE b 2 1 then 1 else 0) else 1 - p.val)) ∧ (h = (⟨fieldBE b 2 1, fieldBE b 3 1, slice b 6 (fieldBE b 4 2), if has = true ∧ fieldBE b 2 1 = 0xFF then none else some p.val⟩ : HeldEvt)) ∧ fieldBE b 0 1 = 2 ∧ n = (slice b 6 (fieldBE b 4 2)).headD 0 ∧ take = (has && decide (fieldBE b 2 1 = 0xFF)) ∧ (s.emnPort q).held = [] ∧ n ≤ (s.emnPort q).credit) ∧
    (∃ (p : Fin 2) (tm : Nat) (frame : List (BitVec 8)) (b : List Nat) (f : EmnFrame) (q : Nat) (has take : Bool) (h : HeldEvt) (s : State), s.emnUp = true ∧ s.linked p.val = true ∧ b = frame.map BitVec.toNat ∧ fieldBE b 4 2 ≤ 1024 ∧ b.length = 10 + fieldBE b 4 2 ∧ fieldBE b (b.length - 4) 4 = (crc32c (b.take (b.length - 4))).toNat ∧ fieldBE b 1 1 = (s.emnPort p.val).seqIn ∧ f = .data (fieldBE b 0 1) (fieldBE b 2 1) (fieldBE b 3 1) (slice b 6 (fieldBE b 4 2)) ∧ has = (s.bit F.EMN_POS_VALID && !s.passThrough) ∧ (¬ (has = true ∧ fieldBE b 2 1 = s.get F.EMN_POS_POS)) ∧ (q = (if has = true ∧ fieldBE b 2 1 ≠ 0xFF then (if s.get F.EMN_POS_POS < fieldBE b 2 1 then 1 else 0) else 1 - p.val)) ∧ (h = (⟨fieldBE b 2 1, fieldBE b 3 1, slice b 6 (fieldBE b 4 2), if has = true ∧ fieldBE b 2 1 = 0xFF then none else some p.val⟩ : HeldEvt)) ∧ fieldBE b 0 1 = 2 ∧ take = (has && decide (fieldBE b 2 1 = 0xFF)) ∧ (s.emnPort q).credit < (((s.emnPort q).held ++ [h]).map fun x => x.payload.headD 0).headD 0) ∧
    (∃ (p : Fin 2) (tm : Nat) (frame : List (BitVec 8)) (b : List Nat) (s : State), s.emnUp = true ∧ s.linked p.val = true ∧ b = frame.map BitVec.toNat ∧ fieldBE b 4 2 ≤ 1024 ∧ b.length = 10 + fieldBE b 4 2 ∧ fieldBE b (b.length - 4) 4 = (crc32c (b.take (b.length - 4))).toNat ∧ fieldBE b 1 1 ≠ (s.emnPort p.val).seqIn) ∧
    (∃ (p : Fin 2) (tm : Nat) (frame : List (BitVec 8)) (b : List Nat) (s : State), s.emnUp = true ∧ s.linked p.val = true ∧ b = frame.map BitVec.toNat ∧ (¬ (fieldBE b 4 2 ≤ 1024 ∧ b.length = 10 + fieldBE b 4 2 ∧ fieldBE b (b.length - 4) 4 = (crc32c (b.take (b.length - 4))).toNat))) ∧
    (∃ (p : Fin 2) (tm : Nat) (frame : List (BitVec 8)) (s : State), (s.emnUp = false ∨ s.linked p.val = false)) ∧
    (∃ (p : Fin 2) (u : UrgentRx) (seq : BitVec 8) (turn : BitVec 24) (count : BitVec 16) (ty : Nat) (pl : List Nat) (i : Instr) (tm : Nat) (s : State), (ty, pl, i) ∈ ([(4, [seq.toNat, 0, 0, 0, 0, 0, 0], .emnDreqRx p u seq), (5, seq.toNat :: bytesBE 3 turn.toNat ++ [0, 0, 0], .emnDrspRx p u seq turn), (6, [seq.toNat, 0, 0, 0, 0, 0, 0], .emnAckRx p u seq), (7, bytesBE 2 count.toNat ++ [0, 0, 0, 0, 0], .emnCreditRx p u count), (2, [seq.toNat, 0, 0, 0, 0, 0, 0], .emnSyncRx p u seq), (3, [seq.toNat, 0, 0, 0, 0, 0, 0], .emnSnapRx p u seq)] : List (Nat × List Nat × Instr)) ∧ tm = u.t8 / 8 ∧ s.emnUp = true ∧ s.linked p.val = true ∧ u.crc ≠ crc32c ((ty * 16 + u.origin.val) :: bytesBE 3 u.age.toNat ++ pl)) ∧
    (∃ (p : Fin 2) (u : UrgentRx) (seq : BitVec 8) (turn : BitVec 24) (count : BitVec 16) (ty : Nat) (pl : List Nat) (i : Instr) (s : State), (ty, pl, i) ∈ ([(4, [seq.toNat, 0, 0, 0, 0, 0, 0], .emnDreqRx p u seq), (5, seq.toNat :: bytesBE 3 turn.toNat ++ [0, 0, 0], .emnDrspRx p u seq turn), (6, [seq.toNat, 0, 0, 0, 0, 0, 0], .emnAckRx p u seq), (7, bytesBE 2 count.toNat ++ [0, 0, 0, 0, 0], .emnCreditRx p u count), (2, [seq.toNat, 0, 0, 0, 0, 0, 0], .emnSyncRx p u seq), (3, [seq.toNat, 0, 0, 0, 0, 0, 0], .emnSnapRx p u seq)] : List (Nat × List Nat × Instr)) ∧ (s.emnUp = false ∨ s.linked p.val = false)) ∧
    (∃ (p : Fin 2) (u : UrgentRx) (seq : BitVec 8) (tm : Nat) (s : State), tm = u.t8 / 8 ∧ s.emnUp = true ∧ s.linked p.val = true ∧ u.crc = crc32c ((4 * 16 + u.origin.val) :: bytesBE 3 u.age.toNat ++ [seq.toNat, 0, 0, 0, 0, 0, 0])) ∧
    (∃ (p : Fin 2) (u : UrgentRx) (seq : BitVec 8) (turn : BitVec 24) (tm t1 : Nat) (d : Int) (s : State), tm = u.t8 / 8 ∧ s.emnUp = true ∧ s.linked p.val = true ∧ u.crc = crc32c ((5 * 16 + u.origin.val) :: bytesBE 3 u.age.toNat ++ (seq.toNat :: bytesBE 3 turn.toNat ++ [0, 0, 0])) ∧ (s.emnPort p.val).dreq = some (seq.toNat, t1) ∧ d = Int.tdiv ((u.t8 : Int) - t1 - turn.toNat) 2 ∧ 0 ≤ d ∧ d < 4096) ∧
    (∃ (p : Fin 2) (u : UrgentRx) (seq : BitVec 8) (turn : BitVec 24) (tm t1 : Nat) (d : Int) (s : State), tm = u.t8 / 8 ∧ s.emnUp = true ∧ s.linked p.val = true ∧ u.crc = crc32c ((5 * 16 + u.origin.val) :: bytesBE 3 u.age.toNat ++ (seq.toNat :: bytesBE 3 turn.toNat ++ [0, 0, 0])) ∧ (s.emnPort p.val).dreq = some (seq.toNat, t1) ∧ d = Int.tdiv ((u.t8 : Int) - t1 - turn.toNat) 2 ∧ (d < 0 ∨ 4096 ≤ d)) ∧
    (∃ (p : Fin 2) (u : UrgentRx) (seq : BitVec 8) (turn : BitVec 24) (tm : Nat) (s : State), tm = u.t8 / 8 ∧ s.emnUp = true ∧ s.linked p.val = true ∧ u.crc = crc32c ((5 * 16 + u.origin.val) :: bytesBE 3 u.age.toNat ++ (seq.toNat :: bytesBE 3 turn.toNat ++ [0, 0, 0])) ∧ ((s.emnPort p.val).dreq.map fun q => q.1) ≠ some seq.toNat) ∧
    (∃ (p : Fin 2) (u : UrgentRx) (seq : BitVec 8) (tm room : Nat) (k : EmnPort) (s : State), tm = u.t8 / 8 ∧ s.emnUp = true ∧ s.linked p.val = true ∧ u.crc = crc32c ((6 * 16 + u.origin.val) :: bytesBE 3 u.age.toNat ++ [seq.toNat, 0, 0, 0, 0, 0, 0]) ∧ k = s.emnPort p.val ∧ (k.window.any fun f => f.1 == seq.toNat) = true ∧ room = 8 - ((k.window.dropWhile fun f => f.1 != seq.toNat).tail).length) ∧
    (∃ (p : Fin 2) (u : UrgentRx) (seq : BitVec 8) (tm room : Nat) (k : EmnPort) (s : State), tm = u.t8 / 8 ∧ s.emnUp = true ∧ s.linked p.val = true ∧ u.crc = crc32c ((6 * 16 + u.origin.val) :: bytesBE 3 u.age.toNat ++ [seq.toNat, 0, 0, 0, 0, 0, 0]) ∧ k = s.emnPort p.val ∧ (k.window.any fun f => f.1 == seq.toNat) = false) ∧
    (∃ (p : Fin 2) (u : UrgentRx) (count : BitVec 16) (tm c : Nat) (k : EmnPort) (s : State), tm = u.t8 / 8 ∧ s.emnUp = true ∧ s.linked p.val = true ∧ u.crc = crc32c ((7 * 16 + u.origin.val) :: bytesBE 3 u.age.toNat ++ (bytesBE 2 count.toNat ++ [0, 0, 0, 0, 0])) ∧ k = s.emnPort p.val ∧ c = min 256 (k.credit + count.toNat) ∧ (k.held = [] ∨ c < (k.held.map fun x => x.payload.headD 0).headD 0)) ∧
    (∃ (p : Fin 2) (u : UrgentRx) (count : BitVec 16) (tm c : Nat) (k : EmnPort) (h : HeldEvt) (r : List HeldEvt) (n : Nat) (s : State), tm = u.t8 / 8 ∧ s.emnUp = true ∧ s.linked p.val = true ∧ u.crc = crc32c ((7 * 16 + u.origin.val) :: bytesBE 3 u.age.toNat ++ (bytesBE 2 count.toNat ++ [0, 0, 0, 0, 0])) ∧ k = s.emnPort p.val ∧ c = min 256 (k.credit + count.toNat) ∧ k.held = h :: r ∧ n = h.payload.headD 0 ∧ n ≤ c ∧ (r = [] ∨ c - n < (r.map fun x => x.payload.headD 0).headD 0)) ∧
    (∃ (p : Fin 2) (tm : Nat) (s : State), s.linked p.val = true ∧ (s.emnPort p.val).sentAt + 8000 ≤ max s.now tm ∧ (s.emnPort p.val).window ≠ []) ∧
    (∃ (p : Fin 2) (tm : Nat) (s : State), (s.linked p.val = false ∨ max s.now tm < (s.emnPort p.val).sentAt + 8000 ∨ (s.emnPort p.val).window = [])) ∧
    (∃ (p : Fin 2) (tm : Nat) (s : State), s.linked p.val = true ∧ (s.emnPort p.val).lastValid + 1600 ≤ max s.now tm) ∧
    (∃ (p : Fin 2) (tm : Nat) (s : State), (s.linked p.val = false ∨ max s.now tm < (s.emnPort p.val).lastValid + 1600)) ∧
    (∃ (p : Fin 2) (u : UrgentRx) (port : BitVec 8) (tm : Nat) (s : State), tm = u.t8 / 8 ∧ s.emnUp = true ∧ u.crc = crc32c ((8 * 16 + u.origin.val) :: bytesBE 3 u.age.toNat ++ [port.toNat, 0, 0, 0, 0, 0, 0]) ∧ s.linked p.val = false ∧ port.toNat = 1 - p.val ∧ (s.emnPort p.val).trains < 127) ∧
    (∃ (p : Fin 2) (u : UrgentRx) (port : BitVec 8) (tm : Nat) (s : State), tm = u.t8 / 8 ∧ s.emnUp = true ∧ u.crc = crc32c ((8 * 16 + u.origin.val) :: bytesBE 3 u.age.toNat ++ [port.toNat, 0, 0, 0, 0, 0, 0]) ∧ s.linked p.val = false ∧ port.toNat = 1 - p.val ∧ 127 ≤ (s.emnPort p.val).trains) ∧
    (∃ (p : Fin 2) (u : UrgentRx) (port : BitVec 8) (tm : Nat) (s : State), tm = u.t8 / 8 ∧ s.emnUp = true ∧ u.crc = crc32c ((8 * 16 + u.origin.val) :: bytesBE 3 u.age.toNat ++ [port.toNat, 0, 0, 0, 0, 0, 0]) ∧ (s.linked p.val = true ∨ port.toNat ≠ 1 - p.val)) ∧
    (∃ (p : Fin 2) (u : UrgentRx) (port : BitVec 8) (tm : Nat) (s : State), tm = u.t8 / 8 ∧ s.emnUp = true ∧ u.crc ≠ crc32c ((8 * 16 + u.origin.val) :: bytesBE 3 u.age.toNat ++ [port.toNat, 0, 0, 0, 0, 0, 0])) ∧
    (∃ (p : Fin 2) (u : UrgentRx) (port : BitVec 8) (s : State), s.emnUp = false) ∧
    (∃ (p : Fin 2) (t8 tm : Nat) (s : State), tm = t8 / 8 ∧ s.linked p.val = true ∧ (s.emnPort p.val).new = true) ∧
    (∃ (p : Fin 2) (t8 tm : Nat) (s : State), tm = t8 / 8 ∧ (s.linked p.val = false ∨ (s.emnPort p.val).new = false)) ∧
    (∃ (p : Fin 2) (t8 tm : Nat) (s : State), tm = t8 / 8 ∧ s.linked p.val = true) ∧
    (∃ (p : Fin 2) (t8 tm : Nat) (s : State), tm = t8 / 8 ∧ s.linked p.val = false) :=
  ⟨⟨(1), (400), (wFrame [5, 9, 1, 0, 0, 2, 7, 8]), ((wFrame [5, 9, 1, 0, 0, 2, 7, 8]).map BitVec.toNat), wEmn.setEmnPort 1 { seqIn := 9 }, by decide +kernel⟩,
   ⟨(1), (400), (wFrame [5, 9, 0, 2, 0, 2, 7, 8]), ((wFrame [5, 9, 0, 2, 0, 2, 7, 8]).map BitVec.toNat), .data 5 0 2 [7, 8], 0, true, false, wEmn.setEmnPort 1 { seqIn := 9 }, by decide +kernel⟩,
   ⟨(1), (400), (wFrame [2, 9, 0, 2, 0, 14, 1, 0, 200, 0, 0, 77, 0, 0, 0, 0, 0, 0, 0, 16]), ((wFrame [2, 9, 0, 2, 0, 14, 1, 0, 200, 0, 0, 77, 0, 0, 0, 0, 0, 0, 0, 16]).map BitVec.toNat), .data 2 0 2 [1, 0, 200, 0, 0, 77, 0, 0, 0, 0, 0, 0, 0, 16], 0, true, false, ⟨0, 2, [1, 0, 200, 0, 0, 77, 0, 0, 0, 0, 0, 0, 0, 16], some 1⟩, 1, wEmn.setEmnPort 1 { seqIn := 9 }, by decide +kernel⟩,
   ⟨(1), (400), (wFrame [2, 9, 0, 2, 0, 3, 16, 0, 200]), ((wFrame [2, 9, 0, 2, 0, 3, 16, 0, 200]).map BitVec.toNat), .data 2 0 2 [16, 0, 200], 0, true, false, ⟨0, 2, [16, 0, 200], some 1⟩, (wEmn.setEmnPort 1 { seqIn := 9 }).setEmnPort 0 { credit := 15 }, by decide +kernel⟩,
   ⟨(1), (400), (wFrame [5, 8, 1, 0, 0, 2, 7, 8]), ((wFrame [5, 8, 1, 0, 0, 2, 7, 8]).map BitVec.toNat), wEmn.setEmnPort 1 { seqIn := 9 }, by decide +kernel⟩,
   ⟨(1), (400), ([5, 9, 3, 0, 0, 2, 7, 8, 0, 0, 0, 0]), [5, 9, 3, 0, 0, 2, 7, 8, 0, 0, 0, 0], wEmn, by decide +kernel⟩,
   ⟨(1), (400), (wFrame [5, 9, 1, 0, 0, 2, 7, 8]), wEmn.set (F.EMN_P_STAT_STATE 1) 0, by decide +kernel⟩,
   ⟨(1), ⟨8000, 16, 3, 0, 55⟩, 9, 5, 7, 4, [9, 0, 0, 0, 0, 0, 0], .emnDreqRx 1 ⟨8000, 16, 3, 0, 55⟩ 9, 1000, wEmn, by decide +kernel⟩,
   ⟨(1), ⟨8000, 16, 3, 0, 55⟩, 9, 5, 7, 4, [9, 0, 0, 0, 0, 0, 0], .emnDreqRx 1 ⟨8000, 16, 3, 0, 55⟩ 9, wEmn.set (F.EMN_P_STAT_STATE 1) 0, by decide +kernel⟩,
   ⟨(0), ⟨8000, 16, 3, crc32c (67 :: bytesBE 3 16 ++ [7, 0, 0, 0, 0, 0, 0]), 55⟩, 7, 1000, wEmn, by decide +kernel⟩,
   ⟨(0), ⟨8980, 16, 3, crc32c (83 :: bytesBE 3 16 ++ [7, 0, 1, 144, 0, 0, 0]), 55⟩, 7, 400, 1122, 8000, 290, wEmn.setEmnPort 0 { dreq := some (7, 8000) }, by decide +kernel⟩,
   ⟨(0), ⟨16192, 16, 3, crc32c (83 :: bytesBE 3 16 ++ [7, 0, 0, 0, 0, 0, 0]), 55⟩, 7, 0, 2024, 8000, 4096, wEmn.setEmnPort 0 { dreq := some (7, 8000) }, by decide +kernel⟩,
   ⟨(0), ⟨8980, 16, 3, crc32c (83 :: bytesBE 3 16 ++ [7, 0, 1, 144, 0, 0, 0]), 55⟩, 7, 400, 1122, wEmn.setEmnPort 0 { dreq := some (6, 8000) }, by decide +kernel⟩,
   ⟨(0), ⟨8000, 16, 3, crc32c (99 :: bytesBE 3 16 ++ [7, 0, 0, 0, 0, 0, 0]), 55⟩, 7, 1000, 7, { window := [(6, .data 5 3 0 []), (7, .data 5 3 0 [1]), (8, .data 5 3 0 [2])], seqOut := 9 }, wEmn.setEmnPort 0 { window := [(6, .data 5 3 0 []), (7, .data 5 3 0 [1]), (8, .data 5 3 0 [2])], seqOut := 9 }, by decide +kernel⟩,
   ⟨(0), ⟨8000, 16, 3, crc32c (99 :: bytesBE 3 16 ++ [7, 0, 0, 0, 0, 0, 0]), 55⟩, 7, 1000, 0, { window := [(6, .data 5 3 0 [])] }, wEmn.setEmnPort 0 { window := [(6, .data 5 3 0 [])] }, by decide +kernel⟩,
   ⟨(0), ⟨8000, 16, 3, crc32c (115 :: bytesBE 3 16 ++ [0, 7, 0, 0, 0, 0, 0]), 55⟩, 7, 1000, 256, { credit := 253 }, wEmn.setEmnPort 0 { credit := 253 }, by decide +kernel⟩,
   ⟨(0), ⟨8000, 16, 3, crc32c (115 :: bytesBE 3 16 ++ [0, 7, 0, 0, 0, 0, 0]), 55⟩, 7, 1000, 9, { credit := 2, held := [⟨0, 1, [9], some 1⟩] }, ⟨0, 1, [9], some 1⟩, [], 9, wEmn.setEmnPort 0 { credit := 2, held := [⟨0, 1, [9], some 1⟩] }, by decide +kernel⟩,
   ⟨(0), (8000), wEmn.setEmnPort 0 { window := [(3, .data 5 3 0 []), (4, .data 5 3 0 [1])] }, by decide +kernel⟩,
   ⟨(0), (7999), wEmn.setEmnPort 0 { window := [(3, .data 5 3 0 [])] }, by decide +kernel⟩,
   ⟨(0), (1600), wEmn, by decide +kernel⟩,
   ⟨(0), (1599), wEmn, by decide +kernel⟩,
   ⟨(0), ⟨8000, 16, 3, crc32c (131 :: bytesBE 3 16 ++ [1, 0, 0, 0, 0, 0, 0]), 55⟩, 1, 1000, (wEmn.set (F.EMN_P_STAT_STATE 0) 0).setEmnPort 0 { trains := 126 }, by decide +kernel⟩,
   ⟨(0), ⟨8000, 16, 3, crc32c (131 :: bytesBE 3 16 ++ [1, 0, 0, 0, 0, 0, 0]), 55⟩, 1, 1000, (wEmn.set (F.EMN_P_STAT_STATE 0) 1).setEmnPort 0 { trains := 127 }, by decide +kernel⟩,
   ⟨(0), ⟨8000, 16, 3, crc32c (131 :: bytesBE 3 16 ++ [0, 0, 0, 0, 0, 0, 0]), 55⟩, 0, 1000, (wEmn.set (F.EMN_P_STAT_STATE 0) 1).setEmnPort 0 { trains := 127 }, by decide +kernel⟩,
   ⟨(0), ⟨8000, 16, 3, 5, 55⟩, 1, 1000, wEmn.set (F.EMN_P_STAT_STATE 0) 1, by decide +kernel⟩,
   ⟨(0), ⟨8000, 16, 3, crc32c (131 :: bytesBE 3 16 ++ [1, 0, 0, 0, 0, 0, 0]), 55⟩, 1, wMode M.reset, by decide +kernel⟩,
   ⟨(1), (8000), 1000, wEmn.setEmnPort 1 { new := true }, by decide +kernel⟩,
   ⟨(1), (8000), 1000, wEmn, by decide +kernel⟩,
   ⟨(0), (3200000), 400000, wEmn, by decide +kernel⟩,
   ⟨(0), (3200000), 400000, wMode M.run, by decide +kernel⟩⟩

/-- The hypotheses of ChainFramesAct are met. -/
theorem wit_ChainFramesAct :
    (∃ (p : Fin 2) (u : UrgentRx) (flags : BitVec 8) (angle : BitVec 24) (rev : BitVec 24) (tm x : Nat) (th own : Int) (s : State), tm = u.t8 / 8 ∧ s.emnUp = true ∧ s.linked p.val = true ∧ u.crc = crc32c ((1 * 16 + u.origin.val) :: bytesBE 3 u.age.toNat ++ (flags.toNat :: bytesBE 3 angle.toNat ++ bytesBE 3 rev.toNat)) ∧ s.bit F.EMN_POS_VALID = true ∧ s.passThrough = false ∧ p.val = 0 ∧ flags.toNat / 64 = x + 1 ∧ x < 2 ∧ s.shSource x = 3 ∧ flags.getLsbD 5 = true ∧ (s.tracker x).lastFrame ≠ some (angle.toNat, rev.toNat) ∧ own = Int.fdiv (s.shaftPos x (max s.now tm)) 16777216 ∧ (th - angle.toNat - s.get (F.WHEEL_SH_ZERO_ZERO x)) % 16777216 = 0 ∧ (Int.fdiv (th - angle.toNat - s.get (F.WHEEL_SH_ZERO_ZERO x)) 16777216 - rev.toNat) % 16777216 = 0 ∧ -8388608 ≤ Int.fdiv (th - angle.toNat - s.get (F.WHEEL_SH_ZERO_ZERO x)) 16777216 - own ∧ Int.fdiv (th - angle.toNat - s.get (F.WHEEL_SH_ZERO_ZERO x)) 16777216 - own < 8388608) ∧
    (∃ (p : Fin 2) (u : UrgentRx) (flags : BitVec 8) (angle : BitVec 24) (rev : BitVec 24) (tm x : Nat) (s : State), tm = u.t8 / 8 ∧ s.emnUp = true ∧ s.linked p.val = true ∧ u.crc = crc32c ((1 * 16 + u.origin.val) :: bytesBE 3 u.age.toNat ++ (flags.toNat :: bytesBE 3 angle.toNat ++ bytesBE 3 rev.toNat)) ∧ s.bit F.EMN_POS_VALID = true ∧ s.passThrough = false ∧ p.val = 0 ∧ flags.toNat / 64 = x + 1 ∧ x < 2 ∧ s.shSource x = 3 ∧ (flags.getLsbD 5 = false ∨ (s.tracker x).lastFrame = some (angle.toNat, rev.toNat))) ∧
    (∃ (p : Fin 2) (u : UrgentRx) (flags : BitVec 8) (angle : BitVec 24) (rev : BitVec 24) (tm : Nat) (s : State), tm = u.t8 / 8 ∧ s.emnUp = true ∧ s.linked p.val = true ∧ u.crc = crc32c ((1 * 16 + u.origin.val) :: bytesBE 3 u.age.toNat ++ (flags.toNat :: bytesBE 3 angle.toNat ++ bytesBE 3 rev.toNat)) ∧ (s.bit F.EMN_POS_VALID = false ∨ s.passThrough = true ∨ p.val = 1 ∨ flags.toNat / 64 = 0 ∨ flags.toNat / 64 = 3 ∨ s.shSource (flags.toNat / 64 - 1) ≠ 3)) ∧
    (∃ (p : Fin 2) (u : UrgentRx) (flags : BitVec 8) (angle : BitVec 24) (rev : BitVec 24) (tm : Nat) (s : State), tm = u.t8 / 8 ∧ (s.emnUp = true → s.linked p.val = true → u.crc ≠ crc32c ((1 * 16 + u.origin.val) :: bytesBE 3 u.age.toNat ++ (flags.toNat :: bytesBE 3 angle.toNat ++ bytesBE 3 rev.toNat)))) ∧
    (∃ (p : Fin 2) (u : UrgentRx) (seq : BitVec 8) (tm a : Nat) (ty : Nat) (snap : Bool) (i : Instr) (s : State), tm = u.t8 / 8 ∧ s.emnUp = true ∧ s.linked p.val = true ∧ (ty, snap, i) ∈ ([(2, false, .emnSyncRx p u seq), (3, true, .emnSnapRx p u seq)] : List (Nat × Bool × Instr)) ∧ u.crc = crc32c ((ty * 16 + u.origin.val) :: bytesBE 3 u.age.toNat ++ [seq.toNat, 0, 0, 0, 0, 0, 0]) ∧ s.bit F.EMN_POS_VALID = true ∧ s.passThrough = false ∧ a = (Int.fdiv ((u.t8 : Int) - s.get (F.EMN_P_DELAY_D p.val) - u.age.toNat) 8).toNat + s.get F.EMN_TRIG_CFG_BUDGET ∧ max s.now tm ≤ a) ∧
    (∃ (p : Fin 2) (u : UrgentRx) (seq : BitVec 8) (tm : Nat) (ty : Nat) (snap : Bool) (i : Instr) (s : State), tm = u.t8 / 8 ∧ s.emnUp = true ∧ s.linked p.val = true ∧ (ty, snap, i) ∈ ([(2, false, .emnSyncRx p u seq), (3, true, .emnSnapRx p u seq)] : List (Nat × Bool × Instr)) ∧ u.crc = crc32c ((ty * 16 + u.origin.val) :: bytesBE 3 u.age.toNat ++ [seq.toNat, 0, 0, 0, 0, 0, 0]) ∧ (s.bit F.EMN_POS_VALID = false ∨ s.passThrough = true)) ∧
    (∃ (p : Fin 2) (u : UrgentRx) (seq : BitVec 8) (tm a : Nat) (s : State), tm = u.t8 / 8 ∧ s.emnUp = true ∧ s.linked p.val = true ∧ u.crc = crc32c ((2 * 16 + u.origin.val) :: bytesBE 3 u.age.toNat ++ [seq.toNat, 0, 0, 0, 0, 0, 0]) ∧ s.bit F.EMN_POS_VALID = true ∧ s.passThrough = false ∧ a = (Int.fdiv ((u.t8 : Int) - s.get (F.EMN_P_DELAY_D p.val) - u.age.toNat) 8).toNat + s.get F.EMN_TRIG_CFG_BUDGET ∧ a < max s.now tm) ∧
    (∃ (p : Fin 2) (u : UrgentRx) (seq : BitVec 8) (tm a : Nat) (s : State), tm = u.t8 / 8 ∧ s.emnUp = true ∧ s.linked p.val = true ∧ u.crc = crc32c ((3 * 16 + u.origin.val) :: bytesBE 3 u.age.toNat ++ [seq.toNat, 0, 0, 0, 0, 0, 0]) ∧ s.bit F.EMN_POS_VALID = true ∧ s.passThrough = false ∧ a = (Int.fdiv ((u.t8 : Int) - s.get (F.EMN_P_DELAY_D p.val) - u.age.toNat) 8).toNat + s.get F.EMN_TRIG_CFG_BUDGET ∧ a < max s.now tm ∧ s.alive = true ∧ s.bit F.SNAP_STAT_FULL = false ∧ (s.at_ tm).snapNow = false) ∧
    (∃ (tm : Nat) (txA txB : Bool) (s : State), s.emnUp = true ∧ s.passThrough = false ∧ s.linked 1 = true ∧ 400 ≤ s.get F.EMN_ANG_CFG_PERIOD ∧ s.get F.EMN_ANG_CFG_PERIOD ≤ 40000 ∧ txA = s.bit F.EMN_ANG_CFG_TX_A ∧ txB = s.bit F.EMN_ANG_CFG_TX_B) ∧
    (∃ (tm : Nat) (s : State), (s.emnUp = false ∨ s.passThrough = true ∨ s.linked 1 = false ∨ s.get F.EMN_ANG_CFG_PERIOD < 400 ∨ 40000 < s.get F.EMN_ANG_CFG_PERIOD)) ∧
    (∃ (tm a src : Nat) (s : State), s.emn.triggers.filter (fun x => decide (x.at_ ≤ max s.now tm)) = [⟨false, a, src⟩]) ∧
    (∃ (tm a src : Nat) (s : State), s.emn.triggers.filter (fun x => decide (x.at_ ≤ max s.now tm)) = [⟨true, a, src⟩] ∧ src < 128 ∧ s.alive = true ∧ s.bit F.SNAP_STAT_FULL = false ∧ (s.at_ tm).snapNow = false) ∧
    (∃ (tm : Nat) (s : State), s.emn.triggers.filter (fun x => decide (x.at_ ≤ max s.now tm)) = []) ∧
    (∃ (ini : Initiator) (s : State), s.sends ini true R.EMN_TRIG_CTL = true ∧ s.domOn 18 = true ∧ (s.bit F.EMN_TRIG_CFG_SYNC_FWD = false ∨ s.regValid R.EMN_TRIG_CFG = false)) ∧
    (∃ (ini : Initiator) (s : State), s.sends ini true R.EMN_TRIG_CTL = true ∧ s.domOn 18 = true ∧ s.bit F.EMN_TRIG_CFG_SYNC_FWD = true ∧ s.regValid R.EMN_TRIG_CFG = true) ∧
    (∃ (tm : Nat) (s : State), s.alive = true ∧ (s.bit F.EMN_TRIG_CFG_SYNC_FWD = false ∨ s.regValid R.EMN_TRIG_CFG = false)) ∧
    (∃ (tm : Nat) (s : State), s.alive = true ∧ s.bit F.EMN_TRIG_CFG_SYNC_FWD = true ∧ s.regValid R.EMN_TRIG_CFG = true) ∧
    (∃ (tm : Nat) (s : State), s.alive = false) ∧
    (∃ (tm n : Nat) (x : EmnIn) (r : List EmnIn) (s : State), s.emn.inbox = x :: r ∧ x.type = 3 ∧ x.port = 0 ∧ n = x.payload.headD 0 ∧ n < 16 ∧ s.emn.head = false ∧ (s.bit F.EMN_POS_VALID = true → s.get F.EMN_POS_POS = n)) ∧
    (∃ (tm n : Nat) (x : EmnIn) (r : List EmnIn) (s : State), s.emn.inbox = x :: r ∧ x.type = 3 ∧ x.port = 0 ∧ n = x.payload.headD 0 ∧ (s.emn.head = true ∨ (s.bit F.EMN_POS_VALID = true ∧ s.get F.EMN_POS_POS ≠ n))) ∧
    (∃ (tm n : Nat) (x : EmnIn) (r : List EmnIn) (s : State), s.emn.inbox = x :: r ∧ x.type = 3 ∧ x.port = 0 ∧ n = x.payload.headD 0 ∧ 16 ≤ n ∧ s.emn.head = false ∧ (s.bit F.EMN_POS_VALID = true → s.get F.EMN_POS_POS = n)) ∧
    (∃ (tm : Nat) (s : State), (s.emn.inbox.head?.all (fun x => x.type != 3 || x.port != 0)) = true) ∧
    (∃ (tm a : Nat) (s : State), s.emn.enumAt = some a ∧ a + 400000 ≤ max s.now tm ∧ s.linked 1 = false) ∧
    (∃ (tm : Nat) (s : State), (s.emn.enumAt = none ∨ s.linked 1 = true ∨ s.emn.enumAt.all (fun a => decide (max s.now tm < a + 400000)) = true)) ∧
    (∃ (x : EmnIn) (r : List EmnIn) (ins : List Insert) (n room : Nat) (s : State), s.emn.inbox = x :: r ∧ x.type = 2 ∧ n = min 16 (x.payload.headD 0) ∧ ins = (List.range n).map (fun k => ⟨fieldBE x.payload (2 + 12 * k) 1, fieldBE x.payload (4 + 12 * k) 2 % 4096, BitVec.ofNat 64 (fieldBE x.payload (6 + 12 * k) 8), .chain⟩) ∧ room = (if s.portWaiting 5 = [] then 8 - (s.portFifo 5).length else 0) ∧ (s.portWaiting 5 = [] → s.emn.evtPorts = [])) ∧
    (∃ (s : State), (s.emn.inbox.head?.all (fun x => x.type != 2)) = true) ∧
    (∃ (x : EmnIn) (r : List EmnIn) (b : Nat) (y : List Nat) (s : State), s.emn.inbox = x :: r ∧ x.type = 5 ∧ b < 8 ∧ (s.emn.rxq.any (fun q => q.2 == b)) = false ∧ (∀ j : Nat, j < b → (s.emn.rxq.any (fun q => q.2 == j)) = true) ∧ y = [x.src, 5] ++ bytesLE 2 x.payload.length ++ x.payload ∧ x.payload.length ≤ 1024) ∧
    (∃ (s : State), ((s.emn.inbox.head?.all (fun x => x.type != 5)) = true ∨ (∀ b : Nat, b < 8 → (s.emn.rxq.any (fun q => q.2 == b)) = true))) ∧
    (∃ (ini : Initiator) (buf : Fin 16) (h dst len : Nat) (pl : List Nat) (ports : List Nat) (s : State), s.sends ini true R.EMN_TXQ = true ∧ s.domOn 18 = true ∧ 8 ≤ buf.val ∧ h = s.rdN (R.EMN_BUF buf.val 0) ∧ dst = h % 256 ∧ len = min 1024 (h / 65536) ∧ pl = ((List.range ((len + 3) / 4)).flatMap (fun i => bytesLE 4 (s.rdN (R.EMN_BUF buf.val (i + 1))))).take len ∧ ports = (if dst = 0xFF then [0, 1] else if s.get F.EMN_POS_POS < dst then [1] else if dst < s.get F.EMN_POS_POS then [0] else []) ∧ h / 256 % 256 = 5) ∧
    (∃ (ini : Initiator) (buf : Fin 16) (h dst len : Nat) (pl : List Nat) (ports : List Nat) (n : Nat) (s : State), s.sends ini true R.EMN_TXQ = true ∧ s.domOn 18 = true ∧ 8 ≤ buf.val ∧ h = s.rdN (R.EMN_BUF buf.val 0) ∧ dst = h % 256 ∧ len = min 1024 (h / 65536) ∧ pl = ((List.range ((len + 3) / 4)).flatMap (fun i => bytesLE 4 (s.rdN (R.EMN_BUF buf.val (i + 1))))).take len ∧ ports = (if dst = 0xFF then [0, 1] else if s.get F.EMN_POS_POS < dst then [1] else if dst < s.get F.EMN_POS_POS then [0] else []) ∧ h / 256 % 256 = 2 ∧ n = pl.headD 0 ∧ (∀ q ∈ ports, (s.emnPort q).held = [])) ∧
    (∃ (ini : Initiator) (buf : Fin 16) (s : State), s.sends ini true R.EMN_TXQ = true ∧ s.domOn 18 = true ∧ (buf.val < 8 ∨ (s.rdN (R.EMN_BUF buf.val 0) / 256 % 256 ≠ 2 ∧ s.rdN (R.EMN_BUF buf.val 0) / 256 % 256 ≠ 5))) ∧
    (∃ (ini : Initiator) (buf : Fin 16) (s : State), s.sends ini true R.EMN_RX_DONE = true ∧ s.domOn 18 = true) :=
  ⟨⟨0, ⟨8000, 16, 3, crc32c (19 :: bytesBE 3 16 ++ [0x60, 0x12, 0x34, 0x56, 0, 0, 2]), 55⟩, 0x60, 0x123456, 2, 1000, 0, 0x2123456, 0, ((((((wEmn.set (F.WHEEL_SH_EDGES_E 0) 4000).set (F.WHEEL_SH_SSI_PERIOD 0) 100).set (F.WHEEL_SH_SSI_WORD_BITS 0) 24).set (F.WHEEL_SH_SSI_POS_BITS 0) 18).set (F.WHEEL_SH_CFG_SRC 0) 3).set (F.WHEEL_SH_STALL_US 0) 10000), by decide +kernel⟩,
   ⟨0, ⟨8000, 16, 3, crc32c (19 :: bytesBE 3 16 ++ [0x60, 0x12, 0x34, 0x56, 0, 0, 2]), 55⟩, 0x60, 0x123456, 2, 1000, 0, ((((((wEmn.set (F.WHEEL_SH_EDGES_E 0) 4000).set (F.WHEEL_SH_SSI_PERIOD 0) 100).set (F.WHEEL_SH_SSI_WORD_BITS 0) 24).set (F.WHEEL_SH_SSI_POS_BITS 0) 18).set (F.WHEEL_SH_CFG_SRC 0) 3).set (F.WHEEL_SH_STALL_US 0) 10000).setTracker 0 { lastFrame := some (0x123456, 2) }, by decide +kernel⟩,
   ⟨0, ⟨8000, 16, 3, crc32c (19 :: bytesBE 3 16 ++ [0x60, 0x12, 0x34, 0x56, 0, 0, 2]), 55⟩, 0x60, 0x123456, 2, 1000, wEmn, by decide +kernel⟩,
   ⟨0, ⟨8000, 16, 3, 5, 55⟩, 0x60, 0x123456, 2, 1000, wEmn, by decide +kernel⟩,
   ⟨0, ⟨8000, 16, 3, crc32c (35 :: bytesBE 3 16 ++ [9, 0, 0, 0, 0, 0, 0]), 55⟩, 9, 1000, 4998, 2, false, .emnSyncRx 0 ⟨8000, 16, 3, crc32c (35 :: bytesBE 3 16 ++ [9, 0, 0, 0, 0, 0, 0]), 55⟩ 9, wEmn.set F.EMN_TRIG_CFG_BUDGET 4000, by decide +kernel⟩,
   ⟨0, ⟨8000, 16, 3, crc32c (35 :: bytesBE 3 16 ++ [9, 0, 0, 0, 0, 0, 0]), 55⟩, 9, 1000, 2, false, .emnSyncRx 0 ⟨8000, 16, 3, crc32c (35 :: bytesBE 3 16 ++ [9, 0, 0, 0, 0, 0, 0]), 55⟩ 9, wEmn.set F.EMN_POS_VALID 0, by decide +kernel⟩,
   ⟨0, ⟨8000, 16, 3, crc32c (35 :: bytesBE 3 16 ++ [9, 0, 0, 0, 0, 0, 0]), 55⟩, 9, 1000, 998, wEmn.set F.EMN_TRIG_CFG_BUDGET 0, by decide +kernel⟩,
   ⟨0, ⟨8000, 16, 3, crc32c (51 :: bytesBE 3 16 ++ [9, 0, 0, 0, 0, 0, 0]), 55⟩, 9, 1000, 998, wEmn.set F.EMN_TRIG_CFG_BUDGET 0, by decide +kernel⟩,
   ⟨8000, true, true, ((wEmn.set F.EMN_ANG_CFG_PERIOD 400).set F.EMN_ANG_CFG_TX_A 1).set F.EMN_ANG_CFG_TX_B 1, by decide +kernel⟩,
   ⟨8000, (wEmn.set F.EMN_ANG_CFG_PERIOD 399).set F.EMN_ANG_CFG_TX_A 1, by decide +kernel⟩,
   ⟨8000, 7000, 2, let s := wEmn; { s with emn := { s.emn with triggers := [⟨true, 8001, 2⟩, ⟨false, 7000, 2⟩] } }, by decide +kernel⟩,
   ⟨8000, 7000, 6, let s := wEmn; { s with emn := { s.emn with triggers := [⟨false, 8001, 2⟩, ⟨true, 7000, 6⟩] } }, by decide +kernel⟩,
   ⟨8000, let s := wEmn; { s with emn := { s.emn with triggers := [⟨false, 8001, 2⟩] } }, by decide +kernel⟩,
   ⟨.tap, wEmn, by decide +kernel⟩,
   ⟨.tap, wEmn.set F.EMN_TRIG_CFG_SYNC_FWD 1 |>.set F.EMN_TRIG_CFG_BUDGET 4000, by decide +kernel⟩,
   ⟨8000, wEmn, by decide +kernel⟩,
   ⟨8000, wEmn.set F.EMN_TRIG_CFG_SYNC_FWD 1 |>.set F.EMN_TRIG_CFG_BUDGET 4000, by decide +kernel⟩,
   ⟨8000, wMode M.load, by decide +kernel⟩,
   ⟨8000, 3, ⟨0, 3, 2, [3]⟩, [], let s := wEmn.set F.EMN_POS_VALID 0; { s with emn := { s.emn with head := false, inbox := [⟨0, 3, 2, [3]⟩] } }, by decide +kernel⟩,
   ⟨8000, 3, ⟨0, 3, 2, [3]⟩, [], let s := wEmn; { s with emn := { s.emn with inbox := [⟨0, 3, 2, [3]⟩] } }, by decide +kernel⟩,
   ⟨8000, 16, ⟨0, 3, 2, [16]⟩, [], let s := wEmn.set F.EMN_POS_VALID 0; { s with emn := { s.emn with head := false, inbox := [⟨0, 3, 2, [16]⟩] } }, by decide +kernel⟩,
   ⟨8000, wEmn, by decide +kernel⟩,
   ⟨400000, 0, let s := wEmn.set (F.EMN_P_STAT_STATE 1) E.training; { s with emn := { s.emn with enumAt := some 0 } }, by decide +kernel⟩,
   ⟨399999, let s := wEmn.set (F.EMN_P_STAT_STATE 1) E.training; { s with emn := { s.emn with enumAt := some 0 } }, by decide +kernel⟩,
   ⟨⟨1, 2, 2, [2, 0, 200, 0, 0, 77, 0, 0, 0, 0, 0, 0, 0, 16, 201, 0, 1, 77, 0, 0, 0, 0, 0, 0, 0, 17]⟩, [], [⟨200, 77, 16, .chain⟩, ⟨201, 333, 17, .chain⟩], 2, 8, let s := wEmn; { s with emn := { s.emn with inbox := [⟨1, 2, 2, [2, 0, 200, 0, 0, 77, 0, 0, 0, 0, 0, 0, 0, 16, 201, 0, 1, 77, 0, 0, 0, 0, 0, 0, 0, 17]⟩] } }, by decide +kernel⟩,
   ⟨wEmn, by decide +kernel⟩,
   ⟨⟨0, 5, 2, [1, 2, 3, 4, 5]⟩, [], 1, [2, 5, 5, 0, 1, 2, 3, 4, 5], let s := wEmn; { s with emn := { s.emn with inbox := [⟨0, 5, 2, [1, 2, 3, 4, 5]⟩], rxq := [(3, 2), (4, 0)] } }, by decide +kernel⟩,
   ⟨let s := wEmn; { s with emn := { s.emn with inbox := [⟨0, 5, 2, [1, 2, 3, 4, 5]⟩], rxq := (List.range 8).map fun b => (3, b) } }, by decide +kernel⟩,
   ⟨.tap, 12, 0x00040509, 9, 4, [17, 34, 51, 68], [1], (wEmn.wr (R.EMN_BUF 12 0) 0x00040509#32).wr (R.EMN_BUF 12 1) 0x44332211#32, by decide +kernel⟩,
   ⟨.tap, 12, 0x00040209, 9, 4, [16, 34, 51, 68], [1], 16, (wEmn.wr (R.EMN_BUF 12 0) 0x00040209#32).wr (R.EMN_BUF 12 1) 0x44332210#32, by decide +kernel⟩,
   ⟨.tap, 7, wEmn, by decide +kernel⟩,
   ⟨.tap, 1, let s := wEmn; { s with emn := { s.emn with rxq := [(3, 0), (4, 1)] } }, by decide +kernel⟩⟩

/-- The hypotheses of IvwynRequests are met. -/
theorem wit_IvwynRequests :
    (∃ (x : Fin 256) (q : IvwReq) (ty : Nat) (i : Instr) (s : State), (ty, i) ∈ ([(3, .ivwynClose x), (4, .ivwynPing x), (5, .ivwynIdent x), (6, .ivwynRestart x), (0x23, .ivwynSnap x)] : List (Nat × Instr)) ∧ s.ivwHead x.val ty = some q ∧ q.body ≠ []) ∧
    (∃ (x : Fin 256) (ty : Nat) (i : Instr) (s : State), (ty, i) ∈ ([(3, .ivwynClose x), (4, .ivwynPing x), (5, .ivwynIdent x), (6, .ivwynRestart x), (0x10, .ivwynRegRead x), (0x11, .ivwynRegWrite x), (0x12, .ivwynMemRead x), (0x13, .ivwynMemWrite x), (0x20, .ivwynInsert x), (0x22, .ivwynMode x), (0x23, .ivwynSnap x), (0x24, .ivwynSubscribe x), (2, .ivwynConfirm x)] : List (Nat × Instr)) ∧ s.ivwHead x.val ty = none) ∧
    (∃ (x : Fin 256) (q : IvwReq) (s : State), s.ivwHead x.val 4 = some q ∧ q.body = []) ∧
    (∃ (x : Fin 256) (q : IvwReq) (s : State), s.ivwHead x.val 5 = some q ∧ q.body = []) ∧
    (∃ (x : Fin 256) (q : IvwReq) (s : State), s.ivwHead x.val 3 = some q ∧ q.body = [] ∧ s.bit (F.IVW_S_STATE_OPEN x.val) = true ∧ (s.holderOf ≠ 1 ∨ s.get F.SEC_SVC_STAT_SESSION ≠ x.val)) ∧
    (∃ (x : Fin 256) (q : IvwReq) (s : State), s.ivwHead x.val 3 = some q ∧ q.body = [] ∧ s.bit (F.IVW_S_STATE_OPEN x.val) = true ∧ s.holderOf = 1 ∧ s.get F.SEC_SVC_STAT_SESSION = x.val ∧ s.mode = M.service ∧ s.leaving = false ∧ s.modeCtl.from_ = M.hold ∧ (∀ d : Nat, d < 4 → (s.drone d).halted = false)) ∧
    (∃ (x : Fin 256) (q : IvwReq) (s : State), s.ivwHead x.val 6 = some q ∧ q.body = [] ∧ s.leaving = false ∧ (s.mode = M.init ∨ s.mode = M.armed ∨ s.mode = M.hold ∨ s.mode = M.service ∨ s.mode = M.quarantine) ∧ s.sendingLanes = []) ∧
    (∃ (x : Fin 256) (q : IvwReq) (s : State), s.ivwHead x.val 6 = some q ∧ q.body = [] ∧ s.leaving = false ∧ (s.mode = M.init ∨ s.mode = M.armed ∨ s.mode = M.hold ∨ s.mode = M.service ∨ s.mode = M.quarantine) ∧ s.sendingLanes ≠ []) ∧
    (∃ (x : Fin 256) (q : IvwReq) (s : State), s.ivwHead x.val 6 = some q ∧ q.body = [] ∧ (s.leaving = true ∨ ¬ (s.mode = M.init ∨ s.mode = M.armed ∨ s.mode = M.hold ∨ s.mode = M.service ∨ s.mode = M.quarantine))) ∧
    (∃ (x : Fin 256) (q : IvwReq) (s : State), s.ivwHead x.val 0x22 = some q ∧ (q.body.length ≠ 4 ∨ (fieldBE q.body 0 1 ≠ 5 ∧ fieldBE q.body 0 1 ≠ 6 ∧ fieldBE q.body 0 1 ≠ 8) ∨ (∃ j : Fin 4, 0 < j.val ∧ q.body[j.val]? ≠ some 0))) ∧
    (∃ (x : Fin 256) (req : Nat) (q : IvwReq) (r : State) (ok : Bool) (s : State), s.ivwHead x.val 0x22 = some q ∧ q.body = [req, 0, 0, 0] ∧ (req = 5 ∨ req = 6 ∨ req = 8) ∧ r = (s.request req false).1 ∧ ok = (s.request req false).2) ∧
    (∃ (x : Fin 256) (req : Nat) (q : IvwReq) (s : State), s.ivwHead x.val 0x22 = some q ∧ q.body = [req, 0, 0, 0] ∧ (req = 5 ∧ s.mode ≠ M.init ∧ s.mode ≠ M.hold ∨ req = 6 ∧ (s.mode ≠ M.armed ∨ s.leaving = true) ∨ req = 8 ∧ ((s.mode ≠ M.armed ∧ s.mode ≠ M.run ∧ s.mode ≠ M.runSpared) ∨ s.leaving = true))) ∧
    (∃ (x : Fin 256) (q : IvwReq) (s : State), s.ivwHead x.val 0x22 = some q ∧ q.body = [8, 0, 0, 0] ∧ s.leaving = false ∧ (s.mode = M.armed ∨ s.mode = M.run ∨ s.mode = M.runSpared)) ∧
    (∃ (x : Fin 256) (q : IvwReq) (s : State), s.ivwHead x.val 0x23 = some q ∧ q.body = [] ∧ s.alive = true ∧ s.bit F.EMN_TRIG_CFG_SNAP_FWD = false ∧ s.bit F.SNAP_STAT_FULL = false ∧ s.snapNow = false) ∧
    (∃ (x : Fin 256) (q : IvwReq) (s : State), s.ivwHead x.val 0x23 = some q ∧ q.body = [] ∧ s.alive = true ∧ s.bit F.EMN_TRIG_CFG_SNAP_FWD = true ∧ s.regValid R.EMN_TRIG_CFG = true) ∧
    (∃ (x : Fin 256) (q : IvwReq) (s : State), s.ivwHead x.val 0x24 = some q) ∧
    (∃ (x : Fin 256) (q : IvwReq) (ty w : Nat) (wr : Bool) (i : Instr) (n : Nat) (s : State), (ty, w, wr, i) ∈ ([(0x10, 4, false, .ivwynRegRead x), (0x11, 4, true, .ivwynRegWrite x), (0x12, 8, false, .ivwynMemRead x), (0x13, 8, true, .ivwynMemWrite x)] : List (Nat × Nat × Bool × Instr)) ∧ s.ivwHead x.val ty = some q ∧ n = fieldBE q.body 4 2 ∧ (q.body.length < 8 ∨ n < 1 ∨ 1024 < n * w ∨ q.body.length ≠ 8 + (if wr = true then n * w else 0) ∨ fieldBE q.body 6 2 ≠ 0 ∨ (w = 8 ∧ fieldBE q.body 0 4 % 8 ≠ 0))) ∧
    (∃ (x : Fin 256) (a n : Nat) (q : IvwReq) (s : State), s.ivwHead x.val 0x10 = some q ∧ q.body = bytesBE 4 a ++ bytesBE 2 n ++ [0, 0] ∧ a < 2 ^ 32 - 1024 ∧ a % 4 = 0 ∧ 1 ≤ n ∧ n ≤ 256 ∧ s.bit (F.IVW_S_STATE_OPEN x.val) = true ∧ ((s.session x.val).busIdx = 0 ∧ (s.session x.val).busData = []) ∧ s.stalls = [] ∧ (∀ k : Nat, k < n → ((regRow? (a + 4 * k)).any (fun r => !rowShows ((a + 4 * k - 0x10000000) / 0x10000) r.1.off && r.1.fields.all (fun f => f.acc != .wo && f.acc != .rc)) && s.domOn ((addrDomain (a + 4 * k)).getD 0)) = true)) ∧
    (∃ (x : Fin 256) (a n : Nat) (vs : List Nat) (q : IvwReq) (s : State), s.ivwHead x.val 0x11 = some q ∧ q.body = bytesBE 4 a ++ bytesBE 2 n ++ [0, 0] ++ vs ∧ vs.length = 4 * n ∧ a < 2 ^ 32 - 1024 ∧ a % 4 = 0 ∧ 1 ≤ n ∧ n ≤ 256 ∧ s.bit (F.IVW_S_STATE_OPEN x.val) = true ∧ ((s.session x.val).busIdx = 0 ∧ (s.session x.val).busData = []) ∧ s.stalls = [] ∧ (∀ k : Nat, k < n → ((regRow? (a + 4 * k)).any (fun r => !rowActs ((a + 4 * k - 0x10000000) / 0x10000) r.1.off && r.1.takes (BitVec.ofNat 32 (fieldBE vs (4 * k) 4))) && s.domOn ((addrDomain (a + 4 * k)).getD 0)) = true) ∧ (∀ k : Nat, k < n → a + 4 * k ≠ R.IVW_S_STATE x.val)) ∧
    (∃ (x : Fin 256) (a n j c : Nat) (q : IvwReq) (s : State), s.ivwHead x.val 0x10 = some q ∧ q.body = bytesBE 4 a ++ bytesBE 2 n ++ [0, 0] ∧ a < 2 ^ 32 - 1024 ∧ a % 4 = 0 ∧ j < n ∧ n ≤ 256 ∧ s.bit (F.IVW_S_STATE_OPEN x.val) = true ∧ ((s.session x.val).busIdx = 0 ∧ (s.session x.val).busData = []) ∧ s.stalls = [] ∧ (∀ k : Nat, k < j → ((regRow? (a + 4 * k)).any (fun r => !rowShows ((a + 4 * k - 0x10000000) / 0x10000) r.1.off && r.1.fields.all (fun f => f.acc != .wo && f.acc != .rc)) && s.domOn ((addrDomain (a + 4 * k)).getD 0)) = true) ∧ (c = 1 ∧ spineDecodes (a + 4 * j) = false ∨ c = 4 ∧ spineDecodes (a + 4 * j) = true ∧ s.domOn ((addrDomain (a + 4 * j)).getD 0) = false ∧ s.bit (F.PWR_D_CTL_WOA ((addrDomain (a + 4 * j)).getD 0)) = false)) ∧
    (∃ (x : Fin 256) (a n ty w d : Nat) (q : IvwReq) (i : Instr) (s : State), (ty, w, i) ∈ ([(0x10, 4, .ivwynRegRead x), (0x12, 8, .ivwynMemRead x)] : List (Nat × Nat × Instr)) ∧ s.ivwHead x.val ty = some q ∧ q.body = bytesBE 4 a ++ bytesBE 2 n ++ [0, 0] ∧ a < 2 ^ 32 ∧ a % w = 0 ∧ 1 ≤ n ∧ n ≤ 128 ∧ ((s.session x.val).busIdx = 0 ∧ (s.session x.val).busData = []) ∧ s.stalls = [] ∧ spineDecodes a = true ∧ d = (addrDomain a).getD 0 ∧ s.domOn d = false ∧ s.bit (F.PWR_D_CTL_WOA d) = true) ∧
    (∃ (x : Fin 256) (a n : Nat) (q : IvwReq) (s : State), s.ivwHead x.val 0x12 = some q ∧ q.body = bytesBE 4 a ++ bytesBE 2 n ++ [0, 0] ∧ a < 2 ^ 32 - 1024 ∧ a % 8 = 0 ∧ 1 ≤ n ∧ n ≤ 128 ∧ s.bit (F.IVW_S_STATE_OPEN x.val) = true ∧ ((s.session x.val).busIdx = 0 ∧ (s.session x.val).busData = []) ∧ s.stalls = [] ∧ (∀ k : Nat, k < n → spineKind (a + 8 * k) = 1 ∧ spineDecodes (a + 8 * k) = true ∧ s.domOn ((addrDomain (a + 8 * k)).getD 0) = true ∧ gridClassify (s.memWord (a + 8 * k)) = .clean)) ∧
    (∃ (x : Fin 256) (a n : Nat) (vs : List Nat) (q : IvwReq) (s : State), s.ivwHead x.val 0x13 = some q ∧ q.body = bytesBE 4 a ++ bytesBE 2 n ++ [0, 0] ++ vs ∧ vs.length = 8 * n ∧ a % 8 = 0 ∧ (0x22000000 ≤ a ∧ a + 8 * n ≤ 0x220C0000 ∨ 0x23000000 ≤ a ∧ a + 8 * n ≤ 0x23400000) ∧ 1 ≤ n ∧ n ≤ 128 ∧ s.bit (F.IVW_S_STATE_OPEN x.val) = true ∧ ((s.session x.val).busIdx = 0 ∧ (s.session x.val).busData = []) ∧ s.stalls = [] ∧ (∀ k : Nat, k < n → s.domOn ((addrDomain (a + 8 * k)).getD 0) = true) ∧ s.claims = []) ∧
    (∃ (x : Fin 256) (n room : Nat) (ins : List Insert) (q : IvwReq) (s : State), s.ivwHead x.val 0x20 = some q ∧ n = fieldBE q.body 0 2 ∧ 1 ≤ n ∧ n ≤ 112 ∧ q.body.length = 4 + 12 * n ∧ fieldBE q.body 2 2 = 0 ∧ (∀ k : Nat, k < n → fieldBE q.body (5 + 12 * k) 1 = 0 ∧ fieldBE q.body (6 + 12 * k) 2 < 4096) ∧ ins = (List.range n).map (fun k => ⟨fieldBE q.body (4 + 12 * k) 1, fieldBE q.body (6 + 12 * k) 2, BitVec.ofNat 64 (fieldBE q.body (8 + 12 * k) 8), .ivwyn x q.txn⟩) ∧ room = (if s.portWaiting 4 = [] then 8 - (s.portFifo 4).length else 0)) ∧
    (∃ (x : Fin 256) (q : IvwReq) (s : State), s.ivwHead x.val 0x20 = some q ∧ ((q.body.length < 4 ∨ fieldBE q.body 0 2 < 1 ∨ 112 < fieldBE q.body 0 2 ∨ q.body.length ≠ 4 + 12 * fieldBE q.body 0 2) ∨ fieldBE q.body 2 2 ≠ 0 ∨ ((List.range (fieldBE q.body 0 2)).any (fun k => fieldBE q.body (5 + 12 * k) 1 != 0 || decide (4096 ≤ fieldBE q.body (6 + 12 * k) 2))) = true)) :=
  ⟨⟨5, ⟨6, 17, 0x0A000005, 4000, [], [1]⟩, 6, .ivwynRestart 5, wIvw ⟨6, 17, 0x0A000005, 4000, [], [1]⟩, by decide +kernel⟩,
   ⟨5, 0x12, .ivwynMemRead 5, wIvw ⟨6, 17, 0x0A000005, 4000, [], [1]⟩, by decide +kernel⟩,
   ⟨5, ⟨4, 17, 0x0A000005, 4000, [], []⟩, wIvw ⟨4, 17, 0x0A000005, 4000, [], []⟩, by decide +kernel⟩,
   ⟨5, ⟨5, 17, 0x0A000005, 4000, [], []⟩, wIvw ⟨5, 17, 0x0A000005, 4000, [], []⟩, by decide +kernel⟩,
   ⟨5, ⟨3, 17, 0x0A000005, 4000, [], []⟩, wIvw ⟨3, 17, 0x0A000005, 4000, [], []⟩, by decide +kernel⟩,
   ⟨5, ⟨3, 17, 0x0A000005, 4000, [], []⟩, let s := ((((wIvw ⟨3, 17, 0x0A000005, 4000, [], []⟩).set F.SYS_MODE_MODE M.service).set F.SEC_SVC_STAT_HOLDER 1).set F.SEC_SVC_STAT_SESSION 5); { s with modeCtl := { s.modeCtl with from_ := M.hold } }, by decide +kernel⟩,
   ⟨5, ⟨6, 17, 0x0A000005, 4000, [], []⟩, (wIvw ⟨6, 17, 0x0A000005, 4000, [], []⟩).set F.SYS_MODE_MODE M.hold, by decide +kernel⟩,
   ⟨5, ⟨6, 17, 0x0A000005, 4000, [], []⟩, ((wIvw ⟨6, 17, 0x0A000005, 4000, [], []⟩).set F.SYS_MODE_MODE M.hold).set (F.LANE_STAT_STATE 3) L.sending, by decide +kernel⟩,
   ⟨5, ⟨6, 17, 0x0A000005, 4000, [], []⟩, wIvw ⟨6, 17, 0x0A000005, 4000, [], []⟩, by decide +kernel⟩,
   ⟨5, ⟨0x22, 17, 0x0A000005, 4000, [], [8, 0, 0, 1]⟩, wIvw ⟨0x22, 17, 0x0A000005, 4000, [], [8, 0, 0, 1]⟩, by decide +kernel⟩,
   ⟨5, 8, ⟨0x22, 17, 0x0A000005, 4000, [], [8, 0, 0, 0]⟩, ((wIvw ⟨0x22, 17, 0x0A000005, 4000, [], [8, 0, 0, 0]⟩).request 8 false).1, true, wIvw ⟨0x22, 17, 0x0A000005, 4000, [], [8, 0, 0, 0]⟩, by decide +kernel⟩,
   ⟨5, 6, ⟨0x22, 17, 0x0A000005, 4000, [], [6, 0, 0, 0]⟩, wIvw ⟨0x22, 17, 0x0A000005, 4000, [], [6, 0, 0, 0]⟩, by decide +kernel⟩,
   ⟨5, ⟨0x22, 17, 0x0A000005, 4000, [], [8, 0, 0, 0]⟩, wIvw ⟨0x22, 17, 0x0A000005, 4000, [], [8, 0, 0, 0]⟩, by decide +kernel⟩,
   ⟨5, ⟨0x23, 17, 0x0A000005, 4000, [], []⟩, wIvw ⟨0x23, 17, 0x0A000005, 4000, [], []⟩, by decide +kernel⟩,
   ⟨5, ⟨0x23, 17, 0x0A000005, 4000, [], []⟩, ((wIvw ⟨0x23, 17, 0x0A000005, 4000, [], []⟩).set F.EMN_TRIG_CFG_SNAP_FWD 1).set F.EMN_TRIG_CFG_BUDGET 900, by decide +kernel⟩,
   ⟨5, ⟨0x24, 17, 0x0A000005, 4000, [], [0, 0, 0, 5]⟩, wIvw ⟨0x24, 17, 0x0A000005, 4000, [], [0, 0, 0, 5]⟩, by decide +kernel⟩,
   ⟨5, ⟨0x12, 17, 0x0A000005, 4000, [], [0x23, 0, 0, 4, 0, 1, 0, 0]⟩, 0x12, 8, false, .ivwynMemRead 5, 1, wIvw ⟨0x12, 17, 0x0A000005, 4000, [], [0x23, 0, 0, 4, 0, 1, 0, 0]⟩, by decide +kernel⟩,
   ⟨5, R.SYS_IDCODE, 1, ⟨0x10, 17, 0x0A000005, 4000, [], [0x10, 0, 0, 0, 0, 1, 0, 0]⟩, wIvw ⟨0x10, 17, 0x0A000005, 4000, [], [0x10, 0, 0, 0, 0, 1, 0, 0]⟩, by decide +kernel⟩,
   ⟨5, R.ECC_SCRUB_FILL_HI, 1, [0x12, 0x34, 0x56, 0x78], ⟨0x11, 17, 0x0A000005, 4000, [], (bytesBE 4 R.ECC_SCRUB_FILL_HI ++ [0, 1, 0, 0] ++ [0x12, 0x34, 0x56, 0x78])⟩, wIvw ⟨0x11, 17, 0x0A000005, 4000, [], (bytesBE 4 R.ECC_SCRUB_FILL_HI ++ [0, 1, 0, 0] ++ [0x12, 0x34, 0x56, 0x78])⟩, by decide +kernel⟩,
   ⟨5, 0x15000000, 2, 0, 1, ⟨0x10, 17, 0x0A000005, 4000, [], [0x15, 0, 0, 0, 0, 2, 0, 0]⟩, wIvw ⟨0x10, 17, 0x0A000005, 4000, [], [0x15, 0, 0, 0, 0, 2, 0, 0]⟩, by decide +kernel⟩,
   ⟨5, R.NET_IP_MASK, 1, 0x10, 4, 18, ⟨0x10, 17, 0x0A000005, 4000, [], (bytesBE 4 R.NET_IP_MASK ++ [0, 1, 0, 0])⟩, .ivwynRegRead 5, ((wDom 18 P.off {}).setSession 5 { queue := [⟨0x10, 17, 0x0A000005, 4000, [], (bytesBE 4 R.NET_IP_MASK ++ [0, 1, 0, 0])⟩] }).set (F.PWR_D_CTL_WOA 18) 1, by decide +kernel⟩,
   ⟨5, 0x23000010, 2, ⟨0x12, 17, 0x0A000005, 4000, [], (bytesBE 4 0x23000010 ++ [0, 2, 0, 0])⟩, ((wIvw ⟨0x12, 17, 0x0A000005, 4000, [], (bytesBE 4 0x23000010 ++ [0, 2, 0, 0])⟩).memWrite 0x23000010 0x0123456789ABCDEF).memWrite 0x23000018 5, by decide +kernel⟩,
   ⟨5, 0x23000010, 2, bytesBE 8 0x0123456789ABCDEF ++ bytesBE 8 7, ⟨0x13, 17, 0x0A000005, 4000, [], (bytesBE 4 0x23000010 ++ [0, 2, 0, 0] ++ bytesBE 8 0x0123456789ABCDEF ++ bytesBE 8 7)⟩, wIvw ⟨0x13, 17, 0x0A000005, 4000, [], (bytesBE 4 0x23000010 ++ [0, 2, 0, 0] ++ bytesBE 8 0x0123456789ABCDEF ++ bytesBE 8 7)⟩, by decide +kernel⟩,
   ⟨5, 1, 8, [⟨9, 700, 0x1122334455667788, .ivwyn 5 17⟩], ⟨0x20, 17, 0x0A000005, 4000, [], ([0, 1, 0, 0, 9, 0] ++ bytesBE 2 700 ++ bytesBE 8 0x1122334455667788)⟩, wIvw ⟨0x20, 17, 0x0A000005, 4000, [], ([0, 1, 0, 0, 9, 0] ++ bytesBE 2 700 ++ bytesBE 8 0x1122334455667788)⟩, by decide +kernel⟩,
   ⟨5, ⟨0x20, 17, 0x0A000005, 4000, [], [0, 0, 0, 0]⟩, wIvw ⟨0x20, 17, 0x0A000005, 4000, [], [0, 0, 0, 0]⟩, by decide +kernel⟩⟩

/-- The hypotheses of IvwynSessions are met. -/
theorem wit_IvwynSessions :
    (∃ (p : Fin 4) (t0 tm : Nat) (ip : BitVec 32) (port : BitVec 16) (dest : UdpDest) (payload : List (BitVec 8)) (b : List Nat) (s : State), s.ivwHears p.val = true ∧ s.ivwReached dest = true ∧ tm = max s.now t0 ∧ b = payload.map BitVec.toNat ∧ (b.length < 28 ∨ 1472 < b.length ∨ 1428 < fieldBE b 24 2 ∨ fieldBE b 0 2 ≠ 0x4957 ∨ fieldBE b 2 1 ≠ 1 ∨ b.length ≠ 28 + fieldBE b 24 2 + (if fieldBE b 3 1 = 1 then 0 else 16))) ∧
    (∃ (p : Fin 4) (t0 : Nat) (ip : BitVec 32) (port : BitVec 16) (dest : UdpDest) (payload : List (BitVec 8)) (s : State), (s.ivwHears p.val = false ∨ s.ivwReached dest = false)) ∧
    (∃ (p : Fin 4) (t0 tm : Nat) (ip : BitVec 32) (port : BitVec 16) (dest : UdpDest) (payload : List (BitVec 8)) (b : List Nat) (s : State), s.ivwHears p.val = true ∧ s.ivwReached dest = true ∧ tm = max s.now t0 ∧ b = payload.map BitVec.toNat ∧ 28 ≤ b.length ∧ b.length ≤ 1472 ∧ fieldBE b 24 2 ≤ 1428 ∧ fieldBE b 0 2 = 0x4957 ∧ fieldBE b 2 1 = 1 ∧ b.length = 28 + fieldBE b 24 2 + (if fieldBE b 3 1 = 1 then 0 else 16) ∧ fieldBE b 3 1 = 1) ∧
    (∃ (p : Fin 4) (t0 tm : Nat) (ip : BitVec 32) (port : BitVec 16) (dest : UdpDest) (payload : List (BitVec 8)) (b : List Nat) (s : State), s.ivwHears p.val = true ∧ s.ivwReached dest = true ∧ tm = max s.now t0 ∧ b = payload.map BitVec.toNat ∧ 28 ≤ b.length ∧ b.length ≤ 1472 ∧ fieldBE b 24 2 ≤ 1428 ∧ fieldBE b 0 2 = 0x4957 ∧ fieldBE b 2 1 = 1 ∧ b.length = 28 + fieldBE b 24 2 + (if fieldBE b 3 1 = 1 then 0 else 16) ∧ fieldBE b 3 1 ≠ 1 ∧ (256 ≤ fieldBE b 4 2 ∨ (s.bit (F.IVW_S_STATE_OPEN (fieldBE b 4 2)) = false ∧ ((s.session (fieldBE b 4 2)).waiting = false ∨ fieldBE b 3 1 ≠ 2)))) ∧
    (∃ (p : Fin 4) (t0 tm : Nat) (ip : BitVec 32) (port : BitVec 16) (dest : UdpDest) (payload : List (BitVec 8)) (b : List Nat) (type x txn mctr : Nat) (k : Session) (r : Reply) (s : State), s.ivwHears p.val = true ∧ s.ivwReached dest = true ∧ tm = max s.now t0 ∧ b = payload.map BitVec.toNat ∧ 28 ≤ b.length ∧ b.length ≤ 1472 ∧ fieldBE b 24 2 ≤ 1428 ∧ fieldBE b 0 2 = 0x4957 ∧ fieldBE b 2 1 = 1 ∧ b.length = 28 + fieldBE b 24 2 + (if fieldBE b 3 1 = 1 then 0 else 16) ∧ type = fieldBE b 3 1 ∧ x = fieldBE b 4 2 ∧ txn = fieldBE b 8 4 ∧ mctr = fieldBE b 16 8 ∧ x < 256 ∧ type ≠ 1 ∧ (s.bit (F.IVW_S_STATE_OPEN x) = true ∨ ((s.session x).waiting = true ∧ type = 2)) ∧ k = { s.session x with mctrIn := mctr, idleRef := tm, fromIp := ip, fromPort := port.toNat } ∧ (s.session x).retained.find? (fun r => r.txn == txn) = some r) ∧
    (∃ (p : Fin 4) (t0 tm : Nat) (ip : BitVec 32) (port : BitVec 16) (dest : UdpDest) (payload : List (BitVec 8)) (b : List Nat) (type x txn mctr : Nat) (k : Session) (s : State), s.ivwHears p.val = true ∧ s.ivwReached dest = true ∧ tm = max s.now t0 ∧ b = payload.map BitVec.toNat ∧ 28 ≤ b.length ∧ b.length ≤ 1472 ∧ fieldBE b 24 2 ≤ 1428 ∧ fieldBE b 0 2 = 0x4957 ∧ fieldBE b 2 1 = 1 ∧ b.length = 28 + fieldBE b 24 2 + (if fieldBE b 3 1 = 1 then 0 else 16) ∧ type = fieldBE b 3 1 ∧ x = fieldBE b 4 2 ∧ txn = fieldBE b 8 4 ∧ mctr = fieldBE b 16 8 ∧ x < 256 ∧ type ≠ 1 ∧ (s.bit (F.IVW_S_STATE_OPEN x) = true ∨ ((s.session x).waiting = true ∧ type = 2)) ∧ k = { s.session x with mctrIn := mctr, idleRef := tm, fromIp := ip, fromPort := port.toNat } ∧ ((s.session x).retained.any (fun r => r.txn == txn)) = false ∧ ((s.session x).queue.any (fun q => q.txn == txn)) = true) ∧
    (∃ (p : Fin 4) (t0 tm : Nat) (ip : BitVec 32) (port : BitVec 16) (dest : UdpDest) (payload : List (BitVec 8)) (b : List Nat) (type x txn mctr : Nat) (k : Session) (s : State), s.ivwHears p.val = true ∧ s.ivwReached dest = true ∧ tm = max s.now t0 ∧ b = payload.map BitVec.toNat ∧ 28 ≤ b.length ∧ b.length ≤ 1472 ∧ fieldBE b 24 2 ≤ 1428 ∧ fieldBE b 0 2 = 0x4957 ∧ fieldBE b 2 1 = 1 ∧ b.length = 28 + fieldBE b 24 2 + (if fieldBE b 3 1 = 1 then 0 else 16) ∧ type = fieldBE b 3 1 ∧ x = fieldBE b 4 2 ∧ txn = fieldBE b 8 4 ∧ mctr = fieldBE b 16 8 ∧ x < 256 ∧ type ≠ 1 ∧ (s.bit (F.IVW_S_STATE_OPEN x) = true ∨ ((s.session x).waiting = true ∧ type = 2)) ∧ k = { s.session x with mctrIn := mctr, idleRef := tm, fromIp := ip, fromPort := port.toNat } ∧ ((s.session x).retained.any (fun r => r.txn == txn)) = false ∧ ((s.session x).queue.any (fun q => q.txn == txn)) = false ∧ (¬ (type ∈ ([1, 2, 3, 4, 5, 6, 0x10, 0x11, 0x12, 0x13, 0x20, 0x21, 0x22, 0x23, 0x24, 0x30, 0x40] : List Nat) ∧ (s.mode = M.quarantine → type ≤ 6)))) ∧
    (∃ (p : Fin 4) (t0 tm : Nat) (ip : BitVec 32) (port : BitVec 16) (dest : UdpDest) (payload : List (BitVec 8)) (b : List Nat) (type x txn mctr : Nat) (k : Session) (s : State), s.ivwHears p.val = true ∧ s.ivwReached dest = true ∧ tm = max s.now t0 ∧ b = payload.map BitVec.toNat ∧ 28 ≤ b.length ∧ b.length ≤ 1472 ∧ fieldBE b 24 2 ≤ 1428 ∧ fieldBE b 0 2 = 0x4957 ∧ fieldBE b 2 1 = 1 ∧ b.length = 28 + fieldBE b 24 2 + (if fieldBE b 3 1 = 1 then 0 else 16) ∧ type = fieldBE b 3 1 ∧ x = fieldBE b 4 2 ∧ txn = fieldBE b 8 4 ∧ mctr = fieldBE b 16 8 ∧ x < 256 ∧ type ≠ 1 ∧ (s.bit (F.IVW_S_STATE_OPEN x) = true ∨ ((s.session x).waiting = true ∧ type = 2)) ∧ k = { s.session x with mctrIn := mctr, idleRef := tm, fromIp := ip, fromPort := port.toNat } ∧ ((s.session x).retained.any (fun r => r.txn == txn)) = false ∧ ((s.session x).queue.any (fun q => q.txn == txn)) = false ∧ (type ∈ ([1, 2, 3, 4, 5, 6, 0x10, 0x11, 0x12, 0x13, 0x20, 0x21, 0x22, 0x23, 0x24, 0x30, 0x40] : List Nat) ∧ (s.mode = M.quarantine → type ≤ 6)) ∧ (¬ (type ∈ ([1, 2, 3, 4, 5, 0x10, 0x12, 0x24] : List Nat) ∨ (type ∈ ([0x11, 0x13, 0x20, 0x21, 0x22, 0x23, 0x40] : List Nat) ∧ 2 ≤ (s.session x).role) ∨ (type = 6 ∧ (s.session x).role = 3)))) ∧
    (∃ (p : Fin 4) (t0 tm : Nat) (ip : BitVec 32) (port : BitVec 16) (dest : UdpDest) (payload : List (BitVec 8)) (b : List Nat) (type x txn mctr : Nat) (k : Session) (s : State), s.ivwHears p.val = true ∧ s.ivwReached dest = true ∧ tm = max s.now t0 ∧ b = payload.map BitVec.toNat ∧ 28 ≤ b.length ∧ b.length ≤ 1472 ∧ fieldBE b 24 2 ≤ 1428 ∧ fieldBE b 0 2 = 0x4957 ∧ fieldBE b 2 1 = 1 ∧ b.length = 28 + fieldBE b 24 2 + (if fieldBE b 3 1 = 1 then 0 else 16) ∧ type = fieldBE b 3 1 ∧ x = fieldBE b 4 2 ∧ txn = fieldBE b 8 4 ∧ mctr = fieldBE b 16 8 ∧ x < 256 ∧ type ≠ 1 ∧ (s.bit (F.IVW_S_STATE_OPEN x) = true ∨ ((s.session x).waiting = true ∧ type = 2)) ∧ k = { s.session x with mctrIn := mctr, idleRef := tm, fromIp := ip, fromPort := port.toNat } ∧ ((s.session x).retained.any (fun r => r.txn == txn)) = false ∧ ((s.session x).queue.any (fun q => q.txn == txn)) = false ∧ type = 2 ∧ (s.session x).waiting = false) ∧
    (∃ (p : Fin 4) (t0 tm : Nat) (ip : BitVec 32) (port : BitVec 16) (dest : UdpDest) (payload : List (BitVec 8)) (b : List Nat) (type x txn mctr : Nat) (k : Session) (s : State), s.ivwHears p.val = true ∧ s.ivwReached dest = true ∧ tm = max s.now t0 ∧ b = payload.map BitVec.toNat ∧ 28 ≤ b.length ∧ b.length ≤ 1472 ∧ fieldBE b 24 2 ≤ 1428 ∧ fieldBE b 0 2 = 0x4957 ∧ fieldBE b 2 1 = 1 ∧ b.length = 28 + fieldBE b 24 2 + (if fieldBE b 3 1 = 1 then 0 else 16) ∧ type = fieldBE b 3 1 ∧ x = fieldBE b 4 2 ∧ txn = fieldBE b 8 4 ∧ mctr = fieldBE b 16 8 ∧ x < 256 ∧ type ≠ 1 ∧ (s.bit (F.IVW_S_STATE_OPEN x) = true ∨ ((s.session x).waiting = true ∧ type = 2)) ∧ k = { s.session x with mctrIn := mctr, idleRef := tm, fromIp := ip, fromPort := port.toNat } ∧ ((s.session x).retained.any (fun r => r.txn == txn)) = false ∧ ((s.session x).queue.any (fun q => q.txn == txn)) = false ∧ (type ∈ ([1, 2, 3, 4, 5, 6, 0x10, 0x11, 0x12, 0x13, 0x20, 0x21, 0x22, 0x23, 0x24, 0x30, 0x40] : List Nat) ∧ (s.mode = M.quarantine → type ≤ 6)) ∧ (type ∈ ([1, 2, 3, 4, 5, 0x10, 0x12, 0x24] : List Nat) ∨ (type ∈ ([0x11, 0x13, 0x20, 0x21, 0x22, 0x23, 0x40] : List Nat) ∧ 2 ≤ (s.session x).role) ∨ (type = 6 ∧ (s.session x).role = 3)) ∧ type ∈ ([0x20, 0x21, 0x40] : List Nat) ∧ (BitVec.ofNat 32 (s.session x).climit).toInt ≤ (BitVec.ofNat 32 (fieldBE b 12 4)).toInt) ∧
    (∃ (p : Fin 4) (t0 tm : Nat) (ip : BitVec 32) (port : BitVec 16) (dest : UdpDest) (payload : List (BitVec 8)) (b : List Nat) (type x txn mctr : Nat) (k : Session) (s : State), s.ivwHears p.val = true ∧ s.ivwReached dest = true ∧ tm = max s.now t0 ∧ b = payload.map BitVec.toNat ∧ 28 ≤ b.length ∧ b.length ≤ 1472 ∧ fieldBE b 24 2 ≤ 1428 ∧ fieldBE b 0 2 = 0x4957 ∧ fieldBE b 2 1 = 1 ∧ b.length = 28 + fieldBE b 24 2 + (if fieldBE b 3 1 = 1 then 0 else 16) ∧ type = fieldBE b 3 1 ∧ x = fieldBE b 4 2 ∧ txn = fieldBE b 8 4 ∧ mctr = fieldBE b 16 8 ∧ x < 256 ∧ type ≠ 1 ∧ (s.bit (F.IVW_S_STATE_OPEN x) = true ∨ ((s.session x).waiting = true ∧ type = 2)) ∧ k = { s.session x with mctrIn := mctr, idleRef := tm, fromIp := ip, fromPort := port.toNat } ∧ ((s.session x).retained.any (fun r => r.txn == txn)) = false ∧ ((s.session x).queue.any (fun q => q.txn == txn)) = false ∧ (type ∈ ([1, 2, 3, 4, 5, 6, 0x10, 0x11, 0x12, 0x13, 0x20, 0x21, 0x22, 0x23, 0x24, 0x30, 0x40] : List Nat) ∧ (s.mode = M.quarantine → type ≤ 6)) ∧ (type ∈ ([1, 2, 3, 4, 5, 0x10, 0x12, 0x24] : List Nat) ∨ (type ∈ ([0x11, 0x13, 0x20, 0x21, 0x22, 0x23, 0x40] : List Nat) ∧ 2 ≤ (s.session x).role) ∨ (type = 6 ∧ (s.session x).role = 3)) ∧ (type = 0x21 ∨ type = 0x40) ∧ ¬ (BitVec.ofNat 32 (s.session x).climit).toInt ≤ (BitVec.ofNat 32 (fieldBE b 12 4)).toInt ∧ 8 ≤ s.ivw.rx.length + s.rowsWaiting) ∧
    (∃ (p : Fin 4) (t0 tm : Nat) (ip : BitVec 32) (port : BitVec 16) (dest : UdpDest) (payload : List (BitVec 8)) (b : List Nat) (type x txn mctr : Nat) (k : Session) (s : State), s.ivwHears p.val = true ∧ s.ivwReached dest = true ∧ tm = max s.now t0 ∧ b = payload.map BitVec.toNat ∧ 28 ≤ b.length ∧ b.length ≤ 1472 ∧ fieldBE b 24 2 ≤ 1428 ∧ fieldBE b 0 2 = 0x4957 ∧ fieldBE b 2 1 = 1 ∧ b.length = 28 + fieldBE b 24 2 + (if fieldBE b 3 1 = 1 then 0 else 16) ∧ type = fieldBE b 3 1 ∧ x = fieldBE b 4 2 ∧ txn = fieldBE b 8 4 ∧ mctr = fieldBE b 16 8 ∧ x < 256 ∧ type ≠ 1 ∧ (s.bit (F.IVW_S_STATE_OPEN x) = true ∨ ((s.session x).waiting = true ∧ type = 2)) ∧ k = { s.session x with mctrIn := mctr, idleRef := tm, fromIp := ip, fromPort := port.toNat } ∧ ((s.session x).retained.any (fun r => r.txn == txn)) = false ∧ ((s.session x).queue.any (fun q => q.txn == txn)) = false ∧ (type ∈ ([1, 2, 3, 4, 5, 6, 0x10, 0x11, 0x12, 0x13, 0x20, 0x21, 0x22, 0x23, 0x24, 0x30, 0x40] : List Nat) ∧ (s.mode = M.quarantine → type ≤ 6)) ∧ (type ∈ ([1, 2, 3, 4, 5, 0x10, 0x12, 0x24] : List Nat) ∨ (type ∈ ([0x11, 0x13, 0x20, 0x21, 0x22, 0x23, 0x40] : List Nat) ∧ 2 ≤ (s.session x).role) ∨ (type = 6 ∧ (s.session x).role = 3)) ∧ (type = 2 → (s.session x).waiting = true) ∧ (type ∈ ([0x20, 0x21, 0x40] : List Nat) → ¬ (BitVec.ofNat 32 (s.session x).climit).toInt ≤ (BitVec.ofNat 32 (fieldBE b 12 4)).toInt) ∧ (type = 0x21 ∨ type = 0x40 → s.ivw.rx.length + s.rowsWaiting < 8)) ∧
    (∃ (o : OpenReq) (r : List OpenReq) (a : Word × Nat × Nat × List Nat) (s : State), s.ivw.openIn = o :: r ∧ (s.ivw.answered.find? (fun a => a.1 == o.ip && a.2.1 == o.port && a.2.2.1 == o.txn)) = some a) ∧
    (∃ (o : OpenReq) (r : List OpenReq) (s : State), s.ivw.openIn = o :: r ∧ (s.ivw.answered.find? (fun a => a.1 == o.ip && a.2.1 == o.port && a.2.2.1 == o.txn)) = none ∧ (s.ivw.opens.any (fun q => q.ip == o.ip && q.port == o.port && q.txn == o.txn)) = true) ∧
    (∃ (o : OpenReq) (r : List OpenReq) (s : State), s.ivw.openIn = o :: r ∧ (s.ivw.answered.find? (fun a => a.1 == o.ip && a.2.1 == o.port && a.2.2.1 == o.txn)) = none ∧ (s.ivw.opens.any (fun q => q.ip == o.ip && q.port == o.port && q.txn == o.txn)) = false ∧ s.sessionRoom ≤ s.sessionsUsed.length) ∧
    (∃ (o : OpenReq) (r : List OpenReq) (s : State), s.ivw.openIn = o :: r ∧ (s.ivw.answered.find? (fun a => a.1 == o.ip && a.2.1 == o.port && a.2.2.1 == o.txn)) = none ∧ (s.ivw.opens.any (fun q => q.ip == o.ip && q.port == o.port && q.txn == o.txn)) = false ∧ s.sessionsUsed.length < s.sessionRoom) ∧
    (∃ (s : State), s.ivw.openIn = []) ∧
    (∃ (tm st : Nat) (o : OpenReq) (r : List OpenReq) (s : State), s.ivw.opens = o :: r ∧ s.ivw.working = 1 ∧ s.domOn 19 = true ∧ (st = (if o.body.length ≠ 232 + fieldBE o.body 2 2 ∨ fieldBE o.body 2 2 < 1 ∨ 1024 < fieldBE o.body 2 2 then 1 else if fieldBE o.body 0 1 ≠ 1 ∨ fieldBE o.body 1 1 ≠ 0 ∨ slice o.body 230 2 ≠ [0, 0] ∨ Config.onCurve (slice o.body 36 97) = false ∨ Config.certKey (slice o.body 232 (fieldBE o.body 2 2)) = none then 0xB else if s.roleOf (slice o.body 133 97) = 0 ∨ Config.certSigned (slice o.body 232 (fieldBE o.body 2 2)) (slice o.body 133 97) = false ∨ s.lifecycle = 3 ∨ s.keyBad = true then 4 else if s.roleOf (slice o.body 133 97) = 3 ∧ (¬ (s.mode = M.armed ∨ s.mode = M.hold ∨ s.mode = M.quarantine) ∨ s.holderOf ≠ 0) then 6 else if s.sessionRoom ≤ s.sessionsUsed.length then 0xA else 0))) ∧
    (∃ (tm : Nat) (s : State), (s.ivw.opens = [] ∨ s.ivw.working ≠ 1 ∨ s.domOn 19 = false)) ∧
    (∃ (x : Fin 256) (q : IvwReq) (s : State), s.ivwHead x.val 2 = some q) ∧
    (∃ (tm : Nat) (x : Fin 256) (txn : Nat) (body : List Nat) (r : List (Nat × Nat × List Nat)) (k : Session) (s : State), s.ivw.confirms = (x.val, txn, body) :: r ∧ s.ivw.working = 2 ∧ s.domOn 19 = true ∧ k = s.session x.val ∧ k.waiting = false) ∧
    (∃ (tm : Nat) (x : Fin 256) (txn : Nat) (body : List Nat) (r : List (Nat × Nat × List Nat)) (k : Session) (s : State), s.ivw.confirms = (x.val, txn, body) :: r ∧ s.ivw.working = 2 ∧ s.domOn 19 = true ∧ k = s.session x.val ∧ k.waiting = true ∧ (k.queue.head?.map fun q => q.txn) = some txn ∧ body.length ≠ 96) ∧
    (∃ (tm : Nat) (x : Fin 256) (txn : Nat) (body : List Nat) (r : List (Nat × Nat × List Nat)) (k : Session) (s : State), s.ivw.confirms = (x.val, txn, body) :: r ∧ s.ivw.working = 2 ∧ s.domOn 19 = true ∧ k = s.session x.val ∧ k.waiting = true ∧ (k.queue.head?.map fun q => q.txn) = some txn ∧ (k.role ≠ 3 ∨ s.mode = M.quarantine) ∧ k.role < 4 ∧ s.bit (F.IVW_S_STATE_OPEN x.val) = false ∧ s.get F.IVW_OPEN_COUNT < 256 ∧ body.length = 96 ∧ (r.all fun c => c.1 != x.val) = true ∧ (s.ivw.rx.all fun c => c.session != x.val) = true) ∧
    (∃ (tm : Nat) (x : Fin 256) (txn : Nat) (body : List Nat) (r : List (Nat × Nat × List Nat)) (k : Session) (s : State), s.ivw.confirms = (x.val, txn, body) :: r ∧ s.ivw.working = 2 ∧ s.domOn 19 = true ∧ k = s.session x.val ∧ k.waiting = true ∧ (k.queue.head?.map fun q => q.txn) = some txn ∧ k.role = 3 ∧ (s.mode = M.armed ∨ s.mode = M.hold) ∧ s.leaving = false ∧ s.modeCtl.arm = none ∧ s.holderOf = 0 ∧ s.bit (F.IVW_S_STATE_OPEN x.val) = false ∧ s.get F.IVW_OPEN_COUNT < 256 ∧ body.length = 96 ∧ (r.all fun c => c.1 != x.val) = true ∧ (s.ivw.rx.all fun c => c.session != x.val) = true) ∧
    (∃ (tm : Nat) (x : Fin 256) (txn : Nat) (body : List Nat) (r : List (Nat × Nat × List Nat)) (k : Session) (s : State), s.ivw.confirms = (x.val, txn, body) :: r ∧ s.ivw.working = 2 ∧ s.domOn 19 = true ∧ k = s.session x.val ∧ k.waiting = true ∧ (k.queue.head?.map fun q => q.txn) = some txn ∧ k.role = 3 ∧ s.mode ≠ M.quarantine ∧ (¬ (s.mode = M.armed ∨ s.mode = M.hold) ∨ s.leaving = true ∨ s.holderOf ≠ 0) ∧ s.bit (F.IVW_S_STATE_OPEN x.val) = false ∧ s.get F.IVW_OPEN_COUNT < 256 ∧ body.length = 96 ∧ (r.all fun c => c.1 != x.val) = true ∧ (s.ivw.rx.all fun c => c.session != x.val) = true) ∧
    (∃ (tm : Nat) (s : State), (s.ivw.confirms = [] ∨ s.ivw.working ≠ 2 ∨ s.domOn 19 = false)) ∧
    (∃ (x : Fin 256) (tm : Nat) (s : State), (s.session x.val).waiting = true ∧ (s.session x.val).queue = [] ∧ s.bit (F.IVW_S_STATE_OPEN x.val) = false ∧ (s.session x.val).answered + 5 * secCycles ≤ tm) ∧
    (∃ (x : Fin 256) (tm : Nat) (s : State), ((s.session x.val).waiting = false ∨ (s.session x.val).queue ≠ [] ∨ tm < (s.session x.val).answered + 5 * secCycles)) ∧
    (∃ (x : Fin 256) (tm : Nat) (s : State), s.bit (F.IVW_S_STATE_OPEN x.val) = true ∧ (s.session x.val).idleRef + 5 * secCycles ≤ tm ∧ (s.holderOf ≠ 1 ∨ s.get F.SEC_SVC_STAT_SESSION ≠ x.val)) ∧
    (∃ (x : Fin 256) (tm : Nat) (s : State), s.bit (F.IVW_S_STATE_OPEN x.val) = true ∧ (s.session x.val).idleRef + 5 * secCycles ≤ tm ∧ s.holderOf = 1 ∧ s.get F.SEC_SVC_STAT_SESSION = x.val ∧ s.mode = M.service ∧ s.leaving = false ∧ s.modeCtl.from_ = M.hold ∧ (∀ d : Nat, d < 4 → (s.drone d).halted = false)) ∧
    (∃ (x : Fin 256) (tm : Nat) (s : State), (s.bit (F.IVW_S_STATE_OPEN x.val) = false ∨ tm < (s.session x.val).idleRef + 5 * secCycles)) ∧
    (∃ (x : Fin 256) (tm ty b : Nat) (y : List Nat) (q : IvwReq) (i : Instr) (s : State), (ty, i) ∈ ([(0x21, .ivwynRow x tm), (0x40, .ivwynApp x tm)] : List (Nat × Instr)) ∧ s.ivwHead x.val ty = some q ∧ b < 8 ∧ (s.ivw.rx.any fun r => r.buf == b) = false ∧ (∀ j : Nat, j < b → (s.ivw.rx.any fun r => r.buf == j) = true) ∧ y = q.header ++ q.body ∧ y.length ≤ 2048) ∧
    (∃ (x : Fin 256) (tm ty : Nat) (i : Instr) (s : State), (ty, i) ∈ ([(0x21, .ivwynRow x tm), (0x40, .ivwynApp x tm)] : List (Nat × Instr)) ∧ (s.ivwHead x.val ty = none ∨ (∀ j : Nat, j < 8 → (s.ivw.rx.any fun r => r.buf == j) = true))) ∧
    (∃ (x : Fin 256) (tm : Nat) (q : IvwReq) (r : List IvwReq) (s : State), (s.session x.val).queue = q :: r ∧ (s.session x.val).running = true ∧ (q.type = 0x21 ∨ q.type = 0x40) ∧ (s.session x.val).fwAt + 8000 * usCycles ≤ tm ∧ (s.ivw.txq.any fun b => (s.bufHead b).2.1 == x.val && (s.bufHead b).2.2 == q.txn && (s.bufHead b).1 != 0x30) = false) ∧
    (∃ (x : Fin 256) (tm : Nat) (s : State), ((s.session x.val).running = false ∨ tm < (s.session x.val).fwAt + 8000 * usCycles ∨ ((s.session x.val).queue.head?.all fun q => (q.type != 0x21 && q.type != 0x40) || (s.ivw.txq.any fun b => (s.bufHead b).2.1 == x.val && (s.bufHead b).2.2 == q.txn && (s.bufHead b).1 != 0x30)) = true)) ∧
    (∃ (ini : Initiator) (buf : Fin 8) (r : RxBuf) (s : State), s.sends ini true R.IVW_RX_DONE = true ∧ s.domOn 18 = true ∧ s.ivw.rx.find? (fun q => q.buf == buf.val) = some r) ∧
    (∃ (ini : Initiator) (buf : Fin 8) (s : State), s.sends ini true R.IVW_RX_DONE = true ∧ s.domOn 18 = true ∧ (s.ivw.rx.any fun q => q.buf == buf.val) = false) ∧
    (∃ (ini : Initiator) (buf : Fin 16) (s : State), s.sends ini true R.IVW_TXQ = true ∧ s.domOn 18 = true ∧ 8 ≤ buf.val ∧ s.ivw.txq.contains buf.val = false) ∧
    (∃ (ini : Initiator) (buf : Fin 16) (s : State), s.sends ini true R.IVW_TXQ = true ∧ s.domOn 18 = true ∧ (buf.val < 8 ∨ s.ivw.txq.contains buf.val = true)) :=
  ⟨⟨0, 400, 400, 0x0A000002, 4000, ⟨0#32, 47043#16, 0⟩, ([0x49, 0x57]).map (BitVec.ofNat 8), ([0x49, 0x57]), (wIvw ⟨4, 17, 0x0A000005, 4000, [], []⟩), by decide +kernel⟩,
   ⟨0, 400, 0x0A000002, 4000, ⟨0#32, 47044#16, 0⟩, [], (wIvw ⟨4, 17, 0x0A000005, 4000, [], []⟩), by decide +kernel⟩,
   ⟨0, 400, 400, 0x0A000002, 4000, ⟨0#32, 47043#16, 0⟩, (wHdr 1 0xFFFF 9 0 1 2 ++ [7, 8]).map (BitVec.ofNat 8), (wHdr 1 0xFFFF 9 0 1 2 ++ [7, 8]), (wIvw ⟨4, 17, 0x0A000005, 4000, [], []⟩), by decide +kernel⟩,
   ⟨0, 400, 400, 0x0A000002, 4000, ⟨0#32, 47043#16, 0⟩, (wHdr 4 6 9 0 1 0 ++ zeros 16).map (BitVec.ofNat 8), (wHdr 4 6 9 0 1 0 ++ zeros 16), (wIvw ⟨4, 17, 0x0A000005, 4000, [], []⟩), by decide +kernel⟩,
   ⟨0, 400, 400, 0x0A000002, 4000, ⟨0#32, 47043#16, 0⟩, (wHdr 4 5 9 0 1 0 ++ zeros 16).map (BitVec.ofNat 8), (wHdr 4 5 9 0 1 0 ++ zeros 16), 4, 5, 9, 1, { (((wIvw ⟨4, 17, 0x0A000005, 4000, [], []⟩).setSession 5 { role := 2, climit := 64, retained := [⟨4, 0, 9, [1]⟩, ⟨5, 0, 8, []⟩] })).session 5 with mctrIn := 1, idleRef := 400, fromIp := 0x0A000002, fromPort := 4000 }, ⟨4, 0, 9, [1]⟩, ((wIvw ⟨4, 17, 0x0A000005, 4000, [], []⟩).setSession 5 { role := 2, climit := 64, retained := [⟨4, 0, 9, [1]⟩, ⟨5, 0, 8, []⟩] }), by decide +kernel⟩,
   ⟨0, 400, 400, 0x0A000002, 4000, ⟨0#32, 47043#16, 0⟩, (wHdr 4 5 17 0 1 0 ++ zeros 16).map (BitVec.ofNat 8), (wHdr 4 5 17 0 1 0 ++ zeros 16), 4, 5, 17, 1, { ((wIvw ⟨4, 17, 0x0A000005, 4000, [], []⟩)).session 5 with mctrIn := 1, idleRef := 400, fromIp := 0x0A000002, fromPort := 4000 }, (wIvw ⟨4, 17, 0x0A000005, 4000, [], []⟩), by decide +kernel⟩,
   ⟨0, 400, 400, 0x0A000002, 4000, ⟨0#32, 47043#16, 0⟩, (wHdr 7 5 9 0 1 0 ++ zeros 16).map (BitVec.ofNat 8), (wHdr 7 5 9 0 1 0 ++ zeros 16), 7, 5, 9, 1, { ((wIvw ⟨4, 17, 0x0A000005, 4000, [], []⟩)).session 5 with mctrIn := 1, idleRef := 400, fromIp := 0x0A000002, fromPort := 4000 }, (wIvw ⟨4, 17, 0x0A000005, 4000, [], []⟩), by decide +kernel⟩,
   ⟨0, 400, 400, 0x0A000002, 4000, ⟨0#32, 47043#16, 0⟩, (wHdr 6 5 9 0 1 0 ++ zeros 16).map (BitVec.ofNat 8), (wHdr 6 5 9 0 1 0 ++ zeros 16), 6, 5, 9, 1, { ((wIvw ⟨4, 17, 0x0A000005, 4000, [], []⟩)).session 5 with mctrIn := 1, idleRef := 400, fromIp := 0x0A000002, fromPort := 4000 }, (wIvw ⟨4, 17, 0x0A000005, 4000, [], []⟩), by decide +kernel⟩,
   ⟨0, 400, 400, 0x0A000002, 4000, ⟨0#32, 47043#16, 0⟩, (wHdr 2 5 9 0 1 0 ++ zeros 16).map (BitVec.ofNat 8), (wHdr 2 5 9 0 1 0 ++ zeros 16), 2, 5, 9, 1, { ((wIvw ⟨4, 17, 0x0A000005, 4000, [], []⟩)).session 5 with mctrIn := 1, idleRef := 400, fromIp := 0x0A000002, fromPort := 4000 }, (wIvw ⟨4, 17, 0x0A000005, 4000, [], []⟩), by decide +kernel⟩,
   ⟨0, 400, 400, 0x0A000002, 4000, ⟨0#32, 47043#16, 0⟩, (wHdr 0x21 5 9 64 1 0 ++ zeros 16).map (BitVec.ofNat 8), (wHdr 0x21 5 9 64 1 0 ++ zeros 16), 0x21, 5, 9, 1, { ((wIvw ⟨4, 17, 0x0A000005, 4000, [], []⟩)).session 5 with mctrIn := 1, idleRef := 400, fromIp := 0x0A000002, fromPort := 4000 }, (wIvw ⟨4, 17, 0x0A000005, 4000, [], []⟩), by decide +kernel⟩,
   ⟨0, 400, 400, 0x0A000002, 4000, ⟨0#32, 47043#16, 0⟩, (wHdr 0x21 5 9 0 1 0 ++ zeros 16).map (BitVec.ofNat 8), (wHdr 0x21 5 9 0 1 0 ++ zeros 16), 0x21, 5, 9, 1, { ((let s := (wIvw ⟨4, 17, 0x0A000005, 4000, [], []⟩); { s with ivw := { s.ivw with rx := List.replicate 8 { buf := 0, session := 3, type := 0x40 } } } : State)).session 5 with mctrIn := 1, idleRef := 400, fromIp := 0x0A000002, fromPort := 4000 }, (let s := (wIvw ⟨4, 17, 0x0A000005, 4000, [], []⟩); { s with ivw := { s.ivw with rx := List.replicate 8 { buf := 0, session := 3, type := 0x40 } } } : State), by decide +kernel⟩,
   ⟨0, 400, 400, 0x0A000002, 4000, ⟨0#32, 47043#16, 0⟩, (wHdr 4 5 9 0 1 0 ++ zeros 16).map (BitVec.ofNat 8), (wHdr 4 5 9 0 1 0 ++ zeros 16), 4, 5, 9, 1, { ((wIvw ⟨4, 17, 0x0A000005, 4000, [], []⟩)).session 5 with mctrIn := 1, idleRef := 400, fromIp := 0x0A000002, fromPort := 4000 }, (wIvw ⟨4, 17, 0x0A000005, 4000, [], []⟩), by decide +kernel⟩,
   ⟨⟨5#32, 6, 7, [], []⟩, [], (5#32, 6, 7, [1, 2]), let s := (wIvw ⟨4, 17, 0x0A000005, 4000, [], []⟩); { s with ivw := { s.ivw with openIn := [⟨5#32, 6, 7, [], []⟩], answered := [(5#32, 6, 7, [1, 2])] } }, by decide +kernel⟩,
   ⟨⟨5#32, 6, 7, [], []⟩, [], let s := (wIvw ⟨4, 17, 0x0A000005, 4000, [], []⟩); { s with ivw := { s.ivw with openIn := [⟨5#32, 6, 7, [], []⟩], opens := [⟨5#32, 6, 7, [], []⟩] } }, by decide +kernel⟩,
   ⟨⟨5#32, 6, 7, [], []⟩, [], let s := ((wIvw ⟨4, 17, 0x0A000005, 4000, [], []⟩).set F.SYS_MODE_MODE M.quarantine); { s with ivw := { s.ivw with openIn := [⟨5#32, 6, 7, [], []⟩] } }, by decide +kernel⟩,
   ⟨⟨5#32, 6, 7, [], []⟩, [], let s := (wIvw ⟨4, 17, 0x0A000005, 4000, [], []⟩); { s with ivw := { s.ivw with openIn := [⟨5#32, 6, 7, [], []⟩] } }, by decide +kernel⟩,
   ⟨(wIvw ⟨4, 17, 0x0A000005, 4000, [], []⟩), by decide +kernel⟩,
   ⟨4000, 1, ⟨5#32, 6, 7, [], [1, 2]⟩, [], let s := (wIvw ⟨4, 17, 0x0A000005, 4000, [], []⟩); { s with ivw := { s.ivw with opens := [⟨5#32, 6, 7, [], [1, 2]⟩], working := 1 } }, by decide +kernel⟩,
   ⟨4000, (wIvw ⟨4, 17, 0x0A000005, 4000, [], []⟩), by decide +kernel⟩,
   ⟨5, ⟨2, 17, 0x0A000005, 4000, [], [1]⟩, wIvw ⟨2, 17, 0x0A000005, 4000, [], [1]⟩, by decide +kernel⟩,
   ⟨4000, 9, 17, zeros 96, [], { waiting := false, role := 2, queue := [⟨2, 17, 0x0A000005, 4000, [], []⟩], running := true }, let s := ((wIvw ⟨4, 17, 0x0A000005, 4000, [], []⟩)).setSession 9 { waiting := false, role := 2, queue := [⟨2, 17, 0x0A000005, 4000, [], []⟩], running := true }; { s with ivw := { s.ivw with confirms := [(9, 17, zeros 96)], working := 2 } }, by decide +kernel⟩,
   ⟨4000, 9, 17, [1], [], { waiting := true, role := 2, queue := [⟨2, 17, 0x0A000005, 4000, [], []⟩], running := true }, let s := ((wIvw ⟨4, 17, 0x0A000005, 4000, [], []⟩)).setSession 9 { waiting := true, role := 2, queue := [⟨2, 17, 0x0A000005, 4000, [], []⟩], running := true }; { s with ivw := { s.ivw with confirms := [(9, 17, [1])], working := 2 } }, by decide +kernel⟩,
   ⟨4000, 9, 17, zeros 96, [], { waiting := true, role := 2, queue := [⟨2, 17, 0x0A000005, 4000, [], []⟩], running := true }, let s := ((wIvw ⟨4, 17, 0x0A000005, 4000, [], []⟩)).setSession 9 { waiting := true, role := 2, queue := [⟨2, 17, 0x0A000005, 4000, [], []⟩], running := true }; { s with ivw := { s.ivw with confirms := [(9, 17, zeros 96)], working := 2 } }, by decide +kernel⟩,
   ⟨4000, 9, 17, zeros 96, [], { waiting := true, role := 3, queue := [⟨2, 17, 0x0A000005, 4000, [], []⟩], running := true }, let s := (((wIvw ⟨4, 17, 0x0A000005, 4000, [], []⟩).set F.SYS_MODE_MODE M.hold)).setSession 9 { waiting := true, role := 3, queue := [⟨2, 17, 0x0A000005, 4000, [], []⟩], running := true }; { s with ivw := { s.ivw with confirms := [(9, 17, zeros 96)], working := 2 } }, by decide +kernel⟩,
   ⟨4000, 9, 17, zeros 96, [], { waiting := true, role := 3, queue := [⟨2, 17, 0x0A000005, 4000, [], []⟩], running := true }, let s := ((wIvw ⟨4, 17, 0x0A000005, 4000, [], []⟩)).setSession 9 { waiting := true, role := 3, queue := [⟨2, 17, 0x0A000005, 4000, [], []⟩], running := true }; { s with ivw := { s.ivw with confirms := [(9, 17, zeros 96)], working := 2 } }, by decide +kernel⟩,
   ⟨4000, (wIvw ⟨4, 17, 0x0A000005, 4000, [], []⟩), by decide +kernel⟩,
   ⟨9, 2000000000, (wIvw ⟨4, 17, 0x0A000005, 4000, [], []⟩).setSession 9 { waiting := true, role := 2 }, by decide +kernel⟩,
   ⟨9, 1999999999, (wIvw ⟨4, 17, 0x0A000005, 4000, [], []⟩).setSession 9 { waiting := true, role := 2 }, by decide +kernel⟩,
   ⟨5, 2000000000, (wIvw ⟨4, 17, 0x0A000005, 4000, [], []⟩), by decide +kernel⟩,
   ⟨5, 2000000000, let s := (((((wIvw ⟨4, 17, 0x0A000005, 4000, [], []⟩)).set F.SYS_MODE_MODE M.service).set F.SEC_SVC_STAT_HOLDER 1).set F.SEC_SVC_STAT_SESSION 5); { s with modeCtl := { s.modeCtl with from_ := M.hold } }, by decide +kernel⟩,
   ⟨5, 1999999999, (wIvw ⟨4, 17, 0x0A000005, 4000, [], []⟩), by decide +kernel⟩,
   ⟨5, 400, 0x21, 1, wHdr 0x21 5 17 0 1 5 ++ [1, 2, 3, 4, 5], ⟨0x21, 17, 0x0A000005, 4000, wHdr 0x21 5 17 0 1 5, [1, 2, 3, 4, 5]⟩, .ivwynRow 5 400, let s := wIvw ⟨0x21, 17, 0x0A000005, 4000, wHdr 0x21 5 17 0 1 5, [1, 2, 3, 4, 5]⟩; { s with ivw := { s.ivw with rx := [{ buf := 0, session := 3, type := 0x40 }] } }, by decide +kernel⟩,
   ⟨5, 400, 0x40, .ivwynApp 5 400, (wIvw ⟨4, 17, 0x0A000005, 4000, [], []⟩), by decide +kernel⟩,
   ⟨5, 3200000, ⟨0x40, 17, 0x0A000005, 4000, [], []⟩, [], let s := wIvw ⟨0x40, 17, 0x0A000005, 4000, [], []⟩; s.setSession 5 { s.session 5 with running := true }, by decide +kernel⟩,
   ⟨5, 3200000, wIvw ⟨0x40, 17, 0x0A000005, 4000, [], []⟩, by decide +kernel⟩,
   ⟨.tap, 3, { buf := 3, session := 5, type := 0x40 }, let s := (wIvw ⟨4, 17, 0x0A000005, 4000, [], []⟩); { s with ivw := { s.ivw with rx := [{ buf := 0, session := 3, type := 0x40 }, { buf := 3, session := 5, type := 0x40 }] } }, by decide +kernel⟩,
   ⟨.tap, 3, (wIvw ⟨4, 17, 0x0A000005, 4000, [], []⟩), by decide +kernel⟩,
   ⟨.tap, 9, (wIvw ⟨4, 17, 0x0A000005, 4000, [], []⟩), by decide +kernel⟩,
   ⟨.tap, 7, (wIvw ⟨4, 17, 0x0A000005, 4000, [], []⟩), by decide +kernel⟩⟩

/-- A key listed with one value reads as it. -/
theorem get_of_mem {α : Type} {d : Nat → α} {m : Sparse α} {k : Nat} {v : α} (h : (k, v) ∈ m) (hu : ∀ w, (k, w) ∈ m → w = v) :
    Sparse.get d m k = v := by
  induction m with
  | nil => cases h
  | cons e r ih =>
    obtain ⟨k', v'⟩ := e
    simp only [Sparse.get]
    split
    · next hk => subst hk; exact hu v' (.head _)
    · next hk =>
      rcases List.mem_cons.mp h with he | hr
      · cases he; exact absurd rfl hk
      · exact ih hr fun w hw => hu w (.tail _ hw)

theorem wFull_used (e : Nat) : e ∈ wFull.fdbUsed ↔ e < 4096 := by
  simp only [State.fdbUsed, List.mem_eraseDups, List.mem_filterMap, wFull, List.mem_append, List.mem_filter, List.mem_flatMap, List.mem_range]
  constructor
  · rintro ⟨r, -, hr⟩
    simp only [R.NET_FDB_A] at hr
    split at hr
    · cases hr; omega
    · cases hr
  · intro h
    exact ⟨(R.NET_FDB_A e, 1#32), .inr (.inl ⟨e, h, .head _⟩), by simp only [R.NET_FDB_A]; rw [if_pos (by omega)]; congr 1; omega⟩

theorem wFull_vid {e : Nat} (h : e < 4096) : (wFull.fdb e).vid = 0 := by
  have hr : wFull.rd (R.NET_FDB_B e) = 1#32 := by
    refine get_of_mem (m := wFull.regs) ?_ ?_
    · simp only [wFull, List.mem_append, List.mem_filter, List.mem_flatMap, List.mem_range]
      exact .inr (.inl ⟨e, h, .tail _ (.head _)⟩)
    · intro w hw
      simp only [wFull, List.mem_append, List.mem_filter, List.mem_flatMap, List.mem_range, decide_eq_true_eq, R.NET_FDB_A, R.NET_FDB_B,
        List.mem_cons, Prod.mk.injEq, List.not_mem_nil, or_false] at hw
      rcases hw with ⟨-, h1⟩ | ⟨x, -, ⟨h1, h2⟩ | ⟨h1, h2⟩⟩ | ⟨-, h1⟩
      · omega
      · exact h2
      · exact h2
      · omega
  simp only [State.fdb, State.rdN, hr]; decide

theorem wFull_new (mac : Nat) : wFull.fdbFind 5 mac = none := by
  refine List.find?_eq_none.mpr fun e he => ?_
  rw [wFull_vid ((wFull_used e).mp he)]; simp

theorem wFull_full : (List.range 4096).find? (fun e => !wFull.fdbUsed.contains e) = none :=
  List.find?_eq_none.mpr fun e he => by simpa [List.contains_iff_mem] using (wFull_used e).mpr (List.mem_range.mp he)

/-- The hypotheses of TheSwitchForwards are met. -/
theorem wit_TheSwitchForwards :
    (∃ (p : Fin 5) (w : Nat) (sent : List (Fin 5)) (f : EthFrame) (s : State), (s.netUp = false ∨ s.portOn p.val = false)) ∧
    (∃ (q : Fin 5) (w : Nat) (f : EthFrame) (r s : State), s.netUp = true ∧ f.etype = 0x8808#16 ∧ r = s.at_ w ∧ (∀ k : Nat, k < 8 → (r.net.frames.find? (fun x => x.ports.contains q.val && x.tc == k)).all (fun x => !r.gateOpen q.val k x.len) = true)) ∧
    (∃ (q : Fin 5) (w c : Nat) (f : EthFrame) (g : NetFrame) (r s : State), s.netUp = true ∧ f.etype = 0x8808#16 ∧ r = s.at_ w ∧ c < 8 ∧ r.net.frames.find? (fun x => x.ports.contains q.val && x.tc == c) = some g ∧ r.gateOpen q.val c g.len = true ∧ (∀ k : Nat, k < 8 → c < k → (r.net.frames.find? (fun x => x.ports.contains q.val && x.tc == k)).all (fun x => !r.gateOpen q.val k x.len) = true) ∧ q.val < 4 ∧ g.ptp = none) ∧
    (∃ (q : Fin 5) (w c : Nat) (f : EthFrame) (g : NetFrame) (r s : State), s.netUp = true ∧ f.etype = 0x8808#16 ∧ r = s.at_ w ∧ c < 8 ∧ r.net.frames.find? (fun x => x.ports.contains q.val && x.tc == c) = some g ∧ r.gateOpen q.val c g.len = true ∧ (∀ k : Nat, k < 8 → c < k → (r.net.frames.find? (fun x => x.ports.contains q.val && x.tc == k)).all (fun x => !r.gateOpen q.val k x.len) = true) ∧ q.val = 4) ∧
    (∃ (q : Fin 5) (w n a : Nat) (m x : PtpOut) (f : EthFrame) (g : NetFrame) (r s : State), s.netUp = true ∧ f.etype = 0x8808#16 ∧ r = s.at_ w ∧ r.net.frames.find? (fun x => x.ports.contains q.val && x.tc == 7) = some g ∧ r.gateOpen q.val 7 g.len = true ∧ q.val < 4 ∧ s.ptpPort q.val = true ∧ g.ptp = some m ∧ (m = .sync n ∧ s.ptp.role.all (fun y => y.1) = true ∧ x = .followUp n r.ptpNs 0 ∨ m = .pdelayResp n a ∧ x = .pdelayRespFollowUp n r.ptpNs)) ∧
    (∃ (q : Fin 5) (w n : Nat) (m : PtpOut) (f : EthFrame) (g : NetFrame) (r s : State), s.netUp = true ∧ f.etype = 0x8808#16 ∧ r = s.at_ w ∧ r.net.frames.find? (fun x => x.ports.contains q.val && x.tc == 7) = some g ∧ r.gateOpen q.val 7 g.len = true ∧ q.val < 4 ∧ s.ptpPort q.val = true ∧ g.ptp = some m ∧ (match m with | .sync k => k == n && !(s.ptp.role.all (fun y => y.1)) | .pdelayResp _ _ => false | _ => true) = true) ∧
    (∃ (p : Fin 5) (w : Nat) (sent : List (Fin 5)) (f : EthFrame) (u s : State), s.netUp = true ∧ s.portOn p.val = true ∧ u = sent.foldl (fun (x : State) q => x.transmit q.val) (s.at_ w) ∧ (f.etype = 0x8808#16 ∨ 1522 < f.len ∨ f.fcsOk = false ∨ (f.tag.isSome = true ∧ (f.etype = 0x8100#16 ∨ f.etype = 0x88A8#16)))) ∧
    (∃ (p : Fin 5) (w vid : Nat) (sent : List (Fin 5)) (f : EthFrame) (u s : State), s.netUp = true ∧ s.portOn p.val = true ∧ u = sent.foldl (fun (x : State) q => x.transmit q.val) (s.at_ w) ∧ f.etype ≠ 0x8808#16 ∧ f.len ≤ 1522 ∧ f.fcsOk = true ∧ (f.tag = none ∨ (f.etype ≠ 0x8100#16 ∧ f.etype ≠ 0x88A8#16)) ∧ vid = (match f.tag with | some x => x.2.val | none => if p.val < 4 then s.get (F.NET_E_CFG_PVID p.val) else s.get F.NET_SW_VLAN_MVID) ∧ (s.vlanOf vid).all (fun i => !s.vlanMember i p.val) = true) ∧
    (∃ (p : Fin 5) (w vid i pri tc used : Nat) (sent : List (Fin 5)) (f : EthFrame) (u s : State), s.netUp = true ∧ s.portOn p.val = true ∧ u = sent.foldl (fun (x : State) q => x.transmit q.val) (s.at_ w) ∧ f.etype ≠ 0x8808#16 ∧ f.len ≤ 1522 ∧ f.fcsOk = true ∧ (f.tag = none ∨ (f.etype ≠ 0x8100#16 ∧ f.etype ≠ 0x88A8#16)) ∧ vid = (match f.tag with | some x => x.2.val | none => if p.val < 4 then s.get (F.NET_E_CFG_PVID p.val) else s.get F.NET_SW_VLAN_MVID) ∧ s.vlanOf vid = some i ∧ s.vlanMember i p.val = true ∧ pri = (if p.val = 4 then s.get F.NET_SW_CFG_STACK_PRI else match f.tag with | some x => x.1.val | none => s.get (F.NET_E_CFG_PRI p.val)) ∧ tc = (if p.val < 4 then s.get (F.NET_E_TCMAP_MAP p.val) / 8 ^ pri % 8 else pri) ∧ used = (if p.val < 4 then Sparse.get (fun _ => 0) s.net.used p.val - s.get (F.NET_E_POLICE_RATE p.val) * (max s.now w - Sparse.get (fun _ => 0) s.net.usedAt p.val) else 0) ∧ p.val < 4 ∧ (s.get F.NET_SW_CFG_BE_MASK).testBit tc = true ∧ s.get (F.NET_E_POLICE_BURST p.val) * 3276800 < used + f.len * 3200) ∧
    (∃ (p : Fin 5) (w vid i pri tc used : Nat) (sent : List (Fin 5)) (f : EthFrame) (u s : State), s.netUp = true ∧ s.portOn p.val = true ∧ u = sent.foldl (fun (x : State) q => x.transmit q.val) (s.at_ w) ∧ f.etype ≠ 0x8808#16 ∧ f.len ≤ 1522 ∧ f.fcsOk = true ∧ (f.tag = none ∨ (f.etype ≠ 0x8100#16 ∧ f.etype ≠ 0x88A8#16)) ∧ vid = (match f.tag with | some x => x.2.val | none => if p.val < 4 then s.get (F.NET_E_CFG_PVID p.val) else s.get F.NET_SW_VLAN_MVID) ∧ s.vlanOf vid = some i ∧ s.vlanMember i p.val = true ∧ pri = (if p.val = 4 then s.get F.NET_SW_CFG_STACK_PRI else match f.tag with | some x => x.1.val | none => s.get (F.NET_E_CFG_PRI p.val)) ∧ tc = (if p.val < 4 then s.get (F.NET_E_TCMAP_MAP p.val) / 8 ^ pri % 8 else pri) ∧ used = (if p.val < 4 then Sparse.get (fun _ => 0) s.net.used p.val - s.get (F.NET_E_POLICE_RATE p.val) * (max s.now w - Sparse.get (fun _ => 0) s.net.usedAt p.val) else 0) ∧ (s.get F.NET_SW_CFG_BE_MASK).testBit tc = true ∧ (p.val < 4 → ¬ s.get (F.NET_E_POLICE_BURST p.val) * 3276800 < used + f.len * 3200) ∧ s.get F.NET_SW_CFG_BE_THR * netBuffer ≤ u.net.occupancy * 16) ∧
    (∃ (p : Fin 5) (w vid i pri tc used : Nat) (sent : List (Fin 5)) (f : EthFrame) (u s : State), s.netUp = true ∧ s.portOn p.val = true ∧ u = sent.foldl (fun (x : State) q => x.transmit q.val) (s.at_ w) ∧ f.etype ≠ 0x8808#16 ∧ f.len ≤ 1522 ∧ f.fcsOk = true ∧ (f.tag = none ∨ (f.etype ≠ 0x8100#16 ∧ f.etype ≠ 0x88A8#16)) ∧ vid = (match f.tag with | some x => x.2.val | none => if p.val < 4 then s.get (F.NET_E_CFG_PVID p.val) else s.get F.NET_SW_VLAN_MVID) ∧ s.vlanOf vid = some i ∧ s.vlanMember i p.val = true ∧ pri = (if p.val = 4 then s.get F.NET_SW_CFG_STACK_PRI else match f.tag with | some x => x.1.val | none => s.get (F.NET_E_CFG_PRI p.val)) ∧ tc = (if p.val < 4 then s.get (F.NET_E_TCMAP_MAP p.val) / 8 ^ pri % 8 else pri) ∧ used = (if p.val < 4 then Sparse.get (fun _ => 0) s.net.used p.val - s.get (F.NET_E_POLICE_RATE p.val) * (max s.now w - Sparse.get (fun _ => 0) s.net.usedAt p.val) else 0) ∧ ((s.get F.NET_SW_CFG_BE_MASK).testBit tc = true → ¬ s.get F.NET_SW_CFG_BE_THR * netBuffer ≤ u.net.occupancy * 16 ∧ (p.val < 4 → ¬ s.get (F.NET_E_POLICE_BURST p.val) * 3276800 < used + f.len * 3200)) ∧ (95 * netBuffer ≤ u.net.occupancy * 100 ∧ tc < 6 ∨ netBuffer < u.net.occupancy + f.len)) ∧
    (∃ (p : Fin 5) (w vid i pri tc used e : Nat) (sent : List (Fin 5)) (f : EthFrame) (u s : State), s.netUp = true ∧ s.portOn p.val = true ∧ u = sent.foldl (fun (x : State) q => x.transmit q.val) (s.at_ w) ∧ f.etype ≠ 0x8808#16 ∧ f.len ≤ 1522 ∧ f.fcsOk = true ∧ (f.tag = none ∨ (f.etype ≠ 0x8100#16 ∧ f.etype ≠ 0x88A8#16)) ∧ vid = (match f.tag with | some x => x.2.val | none => if p.val < 4 then s.get (F.NET_E_CFG_PVID p.val) else s.get F.NET_SW_VLAN_MVID) ∧ s.vlanOf vid = some i ∧ s.vlanMember i p.val = true ∧ pri = (if p.val = 4 then s.get F.NET_SW_CFG_STACK_PRI else match f.tag with | some x => x.1.val | none => s.get (F.NET_E_CFG_PRI p.val)) ∧ tc = (if p.val < 4 then s.get (F.NET_E_TCMAP_MAP p.val) / 8 ^ pri % 8 else pri) ∧ used = (if p.val < 4 then Sparse.get (fun _ => 0) s.net.used p.val - s.get (F.NET_E_POLICE_RATE p.val) * (max s.now w - Sparse.get (fun _ => 0) s.net.usedAt p.val) else 0) ∧ ((s.get F.NET_SW_CFG_BE_MASK).testBit tc = true → ¬ s.get F.NET_SW_CFG_BE_THR * netBuffer ≤ u.net.occupancy * 16 ∧ (p.val < 4 → ¬ s.get (F.NET_E_POLICE_BURST p.val) * 3276800 < used + f.len * 3200)) ∧ (u.net.occupancy * 100 < 95 * netBuffer ∨ 6 ≤ tc) ∧ u.net.occupancy + f.len ≤ netBuffer ∧ s.fdbFind vid f.src.toNat = none ∧ (List.range 4096).find? (fun e => !s.fdbUsed.contains e) = some e) ∧
    (∃ (p : Fin 5) (w vid i pri tc used e : Nat) (sent : List (Fin 5)) (f : EthFrame) (u s : State), s.netUp = true ∧ s.portOn p.val = true ∧ u = sent.foldl (fun (x : State) q => x.transmit q.val) (s.at_ w) ∧ f.etype ≠ 0x8808#16 ∧ f.len ≤ 1522 ∧ f.fcsOk = true ∧ (f.tag = none ∨ (f.etype ≠ 0x8100#16 ∧ f.etype ≠ 0x88A8#16)) ∧ vid = (match f.tag with | some x => x.2.val | none => if p.val < 4 then s.get (F.NET_E_CFG_PVID p.val) else s.get F.NET_SW_VLAN_MVID) ∧ s.vlanOf vid = some i ∧ s.vlanMember i p.val = true ∧ pri = (if p.val = 4 then s.get F.NET_SW_CFG_STACK_PRI else match f.tag with | some x => x.1.val | none => s.get (F.NET_E_CFG_PRI p.val)) ∧ tc = (if p.val < 4 then s.get (F.NET_E_TCMAP_MAP p.val) / 8 ^ pri % 8 else pri) ∧ used = (if p.val < 4 then Sparse.get (fun _ => 0) s.net.used p.val - s.get (F.NET_E_POLICE_RATE p.val) * (max s.now w - Sparse.get (fun _ => 0) s.net.usedAt p.val) else 0) ∧ ((s.get F.NET_SW_CFG_BE_MASK).testBit tc = true → ¬ s.get F.NET_SW_CFG_BE_THR * netBuffer ≤ u.net.occupancy * 16 ∧ (p.val < 4 → ¬ s.get (F.NET_E_POLICE_BURST p.val) * 3276800 < used + f.len * 3200)) ∧ (u.net.occupancy * 100 < 95 * netBuffer ∨ 6 ≤ tc) ∧ u.net.occupancy + f.len ≤ netBuffer ∧ s.fdbFind vid f.src.toNat = some e) ∧
    (∃ (p : Fin 5) (w vid i pri tc used : Nat) (sent : List (Fin 5)) (f : EthFrame) (u s : State), s.netUp = true ∧ s.portOn p.val = true ∧ u = sent.foldl (fun (x : State) q => x.transmit q.val) (s.at_ w) ∧ f.etype ≠ 0x8808#16 ∧ f.len ≤ 1522 ∧ f.fcsOk = true ∧ (f.tag = none ∨ (f.etype ≠ 0x8100#16 ∧ f.etype ≠ 0x88A8#16)) ∧ vid = (match f.tag with | some x => x.2.val | none => if p.val < 4 then s.get (F.NET_E_CFG_PVID p.val) else s.get F.NET_SW_VLAN_MVID) ∧ s.vlanOf vid = some i ∧ s.vlanMember i p.val = true ∧ pri = (if p.val = 4 then s.get F.NET_SW_CFG_STACK_PRI else match f.tag with | some x => x.1.val | none => s.get (F.NET_E_CFG_PRI p.val)) ∧ tc = (if p.val < 4 then s.get (F.NET_E_TCMAP_MAP p.val) / 8 ^ pri % 8 else pri) ∧ used = (if p.val < 4 then Sparse.get (fun _ => 0) s.net.used p.val - s.get (F.NET_E_POLICE_RATE p.val) * (max s.now w - Sparse.get (fun _ => 0) s.net.usedAt p.val) else 0) ∧ ((s.get F.NET_SW_CFG_BE_MASK).testBit tc = true → ¬ s.get F.NET_SW_CFG_BE_THR * netBuffer ≤ u.net.occupancy * 16 ∧ (p.val < 4 → ¬ s.get (F.NET_E_POLICE_BURST p.val) * 3276800 < used + f.len * 3200)) ∧ (u.net.occupancy * 100 < 95 * netBuffer ∨ 6 ≤ tc) ∧ u.net.occupancy + f.len ≤ netBuffer ∧ s.fdbFind vid f.src.toNat = none ∧ (List.range 4096).find? (fun e => !s.fdbUsed.contains e) = none) ∧
    (∃ (vid : Fin 4096) (mac : BitVec 48) (w e : Nat) (s : State), s.fdbFind vid.val mac.toNat = some e ∧ (s.fdb e).fixed = false ∧ s.regValid R.NET_SW_CFG = true ∧ Sparse.get (fun _ => 0) s.net.seen e + s.get F.NET_SW_CFG_AGE_S * secCycles ≤ max s.now w) ∧
    (∃ (vid : Fin 4096) (mac : BitVec 48) (w : Nat) (s : State), (s.fdbFind vid.val mac.toNat).all (fun e => (s.fdb e).fixed || !s.regValid R.NET_SW_CFG || decide (max s.now w < Sparse.get (fun _ => 0) s.net.seen e + s.get F.NET_SW_CFG_AGE_S * secCycles)) = true) ∧
    (∃ (p : Fin 4) (up : Bool) (speed : Fin 3) (half : Bool) (s : State), s.domOn 18 = true ∧ up = true ∧ half = false ∧ s.bit (F.NET_E_STAT_LINK p.val) = false ∧ s.ptp.role = none) ∧
    (∃ (p : Fin 4) (up : Bool) (speed : Fin 3) (half : Bool) (s : State), s.domOn 18 = true ∧ (up = false ∨ half = true) ∧ s.bit (F.NET_E_STAT_LINK p.val) = true ∧ s.ptp.role = none) ∧
    (∃ (p : Fin 4) (up : Bool) (speed : Fin 3) (half : Bool) (s : State), (s.domOn 18 = false ∨ s.bit (F.NET_E_STAT_LINK p.val) = (up && !half))) ∧
    (∃ (p : Fin 4) (up : Bool) (speed : Fin 3) (half : Bool) (s : State), s.domOn 18 = true ∧ up = false ∧ s.bit (F.NET_E_STAT_LINK p.val) = true ∧ s.netUp = true ∧ s.ptp.role.any (fun x => !x.1 && x.2.1 == p.val) = true ∧ s.ptpMasters.all (fun x => x.1 == p.val) = true ∧ (∃ k : Fin 4, k ≠ p ∧ s.ptpPort k.val = true) ∧ half = false) ∧
    (∃ (p : Fin 4) (up : Bool) (speed : Fin 3) (half : Bool) (s : State), s.domOn 18 = true ∧ s.bit (F.NET_E_STAT_LINK p.val) ≠ (up && !half) ∧ s.ptp.role.isSome = true) :=
  ⟨⟨1, 400, [2], ⟨0x010203040506#48, 0x0A0B0C0D0E0F#48, none, 0x0800#16, 64, true⟩, wNet.set (F.NET_E_CFG_EN 1) 0, by decide +kernel⟩,
   ⟨2, 400, ⟨0x010203040506#48, 0x0A0B0C0D0E0F#48, none, 0x8808#16, 64, true⟩, wNet.at_ 400, wNet, by decide +kernel⟩,
   ⟨2, 400, 6, ⟨0x010203040506#48, 0x0A0B0C0D0E0F#48, none, 0x8808#16, 64, true⟩, ⟨7, 2, 5, 6, 6, 64, [2], none⟩, (let s := wNet.wr (R.NET_VLAN_B 0) 0x0004000F#32; { s with net := { s.net with frames := [⟨1, 2, 5, 3, 3, 64, [1, 2], none⟩, ⟨7, 2, 5, 6, 6, 64, [2], none⟩, ⟨8, 2, 5, 6, 6, 64, [2, 4], none⟩] } }).at_ 400, (let s := wNet.wr (R.NET_VLAN_B 0) 0x0004000F#32; { s with net := { s.net with frames := [⟨1, 2, 5, 3, 3, 64, [1, 2], none⟩, ⟨7, 2, 5, 6, 6, 64, [2], none⟩, ⟨8, 2, 5, 6, 6, 64, [2, 4], none⟩] } }), by decide +kernel⟩,
   ⟨4, 400, 6, ⟨0x010203040506#48, 0x0A0B0C0D0E0F#48, none, 0x8808#16, 64, true⟩, ⟨8, 2, 5, 6, 6, 64, [4], none⟩, (let s := wNet; { s with net := { s.net with stackQ := 63, frames := [⟨8, 2, 5, 6, 6, 64, [4], none⟩] } }).at_ 400, (let s := wNet; { s with net := { s.net with stackQ := 63, frames := [⟨8, 2, 5, 6, 6, 64, [4], none⟩] } }), by decide +kernel⟩,
   ⟨2, 400, 17, 0, .sync 17, .followUp 17 (wNet.at_ 400).ptpNs 0, ⟨0x010203040506#48, 0x0A0B0C0D0E0F#48, none, 0x8808#16, 64, true⟩, ⟨0x0180C200000E, 9, 0, 7, 7, 64, [2], some (.sync 17)⟩, (let s := wNet; { s with net := { s.net with frames := [⟨0x0180C200000E, 9, 0, 7, 7, 64, [2], some (.sync 17)⟩] } }).at_ 400, (let s := wNet; { s with net := { s.net with frames := [⟨0x0180C200000E, 9, 0, 7, 7, 64, [2], some (.sync 17)⟩] } }), by decide +kernel⟩,
   ⟨2, 400, 17, .sync 17, ⟨0x010203040506#48, 0x0A0B0C0D0E0F#48, none, 0x8808#16, 64, true⟩, ⟨0x0180C200000E, 9, 0, 7, 7, 64, [2], some (.sync 17)⟩, (let s := (let s := wNet; { s with net := { s.net with frames := [⟨0x0180C200000E, 9, 0, 7, 7, 64, [2], some (.sync 17)⟩] } }); { s with ptp := { s.ptp with role := some (false, 0, 8), relay := (5000, 3, 40) } }).at_ 400, (let s := (let s := wNet; { s with net := { s.net with frames := [⟨0x0180C200000E, 9, 0, 7, 7, 64, [2], some (.sync 17)⟩] } }); { s with ptp := { s.ptp with role := some (false, 0, 8), relay := (5000, 3, 40) } }), by decide +kernel⟩,
   ⟨0, 400, [], ⟨0x010203040506#48, 0x0A0B0C0D0E0F#48, none, 0x8808#16, 64, true⟩, wNet.at_ 400, wNet, by decide +kernel⟩,
   ⟨0, 400, 77, [], ⟨0x010203040506#48, 0x0A0B0C0D0E0F#48, some (3, 77), 0x0800#16, 64, true⟩, wNet.at_ 400, wNet, by decide +kernel⟩,
   ⟨0, 400, 5, 0, 1, 1, 0, [], ⟨0x010203040506#48, 0x0A0B0C0D0E0F#48, some (1, 5), 0x0800#16, 64, true⟩, (wNet.wr (R.NET_E_POLICE 0) 0#32).at_ 400, wNet.wr (R.NET_E_POLICE 0) 0#32, by decide +kernel⟩,
   ⟨0, 400, 5, 0, 1, 1, 0, [], ⟨0x010203040506#48, 0x0A0B0C0D0E0F#48, some (1, 5), 0x0800#16, 64, true⟩, ((let s := ((wNet.set (F.NET_E_POLICE_BURST 0) 2047).set F.NET_SW_CFG_BE_THR 12); { s with net := { s.net with frames := [⟨1, 2, 5, 0, 0, 393216, [1], none⟩] } })).at_ 400, (let s := ((wNet.set (F.NET_E_POLICE_BURST 0) 2047).set F.NET_SW_CFG_BE_THR 12); { s with net := { s.net with frames := [⟨1, 2, 5, 0, 0, 393216, [1], none⟩] } }), by decide +kernel⟩,
   ⟨0, 400, 5, 0, 6, 6, 0, [], ⟨0x010203040506#48, 0x0A0B0C0D0E0F#48, some (6, 5), 0x0800#16, 64, true⟩, ((let s := ((wNet.set (F.NET_E_POLICE_BURST 0) 2047).set F.NET_SW_CFG_BE_THR 12); { s with net := { s.net with frames := [⟨1, 2, 5, 0, 0, 524288, [1], none⟩] } })).at_ 400, (let s := ((wNet.set (F.NET_E_POLICE_BURST 0) 2047).set F.NET_SW_CFG_BE_THR 12); { s with net := { s.net with frames := [⟨1, 2, 5, 0, 0, 524288, [1], none⟩] } }), by decide +kernel⟩,
   ⟨0, 400, 5, 0, 6, 6, 0, 0, [], ⟨0x010203040506#48, 0x0A0B0C0D0E0F#48, some (6, 5), 0x0800#16, 64, true⟩, (wNet).at_ 400, wNet, by decide +kernel⟩,
   ⟨0, 400, 5, 0, 6, 6, 0, 7, [], ⟨0x020203040506#48, 0x0A0B0C0D0E0F#48, some (6, 5), 0x0800#16, 64, true⟩, ((wNet.setFdb 7 ⟨0x0A0B0C0D0E0F, 5, 2, false⟩).setFdb 9 ⟨0x020203040506, 5, 2, false⟩).at_ 400, (wNet.setFdb 7 ⟨0x0A0B0C0D0E0F, 5, 2, false⟩).setFdb 9 ⟨0x020203040506, 5, 2, false⟩, by decide +kernel⟩,
   ⟨0, 400, 5, 0, 6, 6, 0, [], ⟨0x010203040506#48, 0x0A0B0C0D0E0F#48, some (6, 5), 0x0800#16, 64, true⟩, wFull.at_ 400, wFull, by decide +kernel, by decide +kernel, rfl, by decide +kernel, by decide +kernel, by decide +kernel, by decide +kernel, rfl, by decide +kernel, by decide +kernel, by decide +kernel, by decide +kernel, by decide +kernel, by decide +kernel, by decide +kernel, by decide +kernel, wFull_new _, wFull_full⟩,
   ⟨5, 0x010203040506#48, 120000000000, 9, wNet.setFdb 9 ⟨0x010203040506, 5, 2, false⟩, by decide +kernel⟩,
   ⟨5, 0x010203040506#48, 119999999999, wNet.setFdb 9 ⟨0x010203040506, 5, 2, false⟩, by decide +kernel⟩,
   ⟨3, true, 2, false, ([0, 1, 2, 3].foldl (fun (u : State) p => u.set (F.NET_E_STAT_LINK p) 0) wNet).wr R.NET_IP_ADDR 0x0A000001#32, by decide +kernel⟩,
   ⟨3, true, 1, true, wNet, by decide +kernel⟩,
   ⟨3, true, 1, true, wNet.set (F.NET_E_STAT_LINK 3) 0, by decide +kernel⟩,
   ⟨1, false, 0, false, let s := wNet.set F.NET_PTP_STAT_SLAVE_PORT 1; { s with ptp := { s.ptp with role := some (false, 1, 7), heard := [(1, some ⟨⟨1, 1, 1, 1, 1, 7⟩, 0, s.now⟩)] } }, by decide +kernel⟩,
   ⟨2, true, 2, false, let s := wNet.set (F.NET_E_STAT_LINK 2) 0; { s with ptp := { s.ptp with role := some (false, 1, 7), heard := [(1, some ⟨⟨1, 1, 1, 1, 1, 7⟩, 0, s.now⟩)] } }, by decide +kernel⟩⟩

/-- The hypotheses of ScheduledTrafficAndTime are met. -/
theorem wit_ScheduledTrafficAndTime :
    (∃ (ini : Initiator) (p : Fin 4) (s : State), s.sends ini true (R.NET_E_GCL_CTL p.val) = true ∧ s.domOn 18 = true ∧ 0 < s.get (F.NET_E_GCL_CTL_LEN p.val) ∧ s.get (F.NET_E_GCL_CTL_LEN p.val) ≤ 256 ∧ (∀ i : Nat, i < s.get (F.NET_E_GCL_CTL_LEN p.val) → s.get (F.NET_GCL_ADMIN_INTERVAL p.val i) ≠ 0)) ∧
    (∃ (ini : Initiator) (p : Fin 4) (s : State), s.sends ini true (R.NET_E_GCL_CTL p.val) = true ∧ s.domOn 18 = true ∧ s.get (F.NET_E_GCL_CTL_LEN p.val) ≤ 256 ∧ (∃ i : Nat, i < s.get (F.NET_E_GCL_CTL_LEN p.val) ∧ s.get (F.NET_GCL_ADMIN_INTERVAL p.val i) = 0)) ∧
    (∃ (ini : Initiator) (p : Fin 4) (s : State), s.sends ini true (R.NET_E_GCL_CTL p.val) = true ∧ s.domOn 18 = true ∧ s.get (F.NET_E_GCL_CTL_LEN p.val) = 0) ∧
    (∃ (p : Fin 4) (w : Nat) (s : State), s.bit (F.NET_E_GCL_CTL_PENDING p.val) = true ∧ (s.at_ w).cycleStarts p.val = true) ∧
    (∃ (p : Fin 4) (w : Nat) (s : State), (s.bit (F.NET_E_GCL_CTL_PENDING p.val) = false ∨ (s.at_ w).cycleStarts p.val = false)) ∧
    (∃ (p : Fin 4) (w i off : Nat) (s : State), off = ((s.at_ w).ptpNs - (s.gcl p.val).base) % (s.gcl p.val).cycle ∧ i < (s.gcl p.val).len ∧ s.gclStart p.val i ≤ off ∧ (i + 1 = (s.gcl p.val).len ∨ off < s.gclStart p.val (i + 1))) ∧
    (∃ (p : Fin 4) (w : Nat) (s : State), (s.gcl p.val).len = 0) ∧
    (∃ (p : Fin 4) (w : Nat) (dom : Fin 256) (m : PtpMsg) (s : State), (s.netUp = false ∨ s.ptpPort p.val = false)) ∧
    (∃ (p : Fin 4) (w : Nat) (dom : Fin 256) (q : BitVec 16) (s : State), s.netUp = true ∧ s.ptpPort p.val = true ∧ dom.val = s.get F.NET_PTP_CFG_DOMAIN ∧ s.ptp.role.any (fun x => !x.1 && x.2.1 == p.val) = true) ∧
    (∃ (p : Fin 4) (w : Nat) (dom : Fin 256) (q : BitVec 16) (s : State), s.netUp = true ∧ s.ptpPort p.val = true ∧ (dom.val ≠ s.get F.NET_PTP_CFG_DOMAIN ∨ s.ptp.role.all (fun x => x.1 || x.2.1 != p.val) = true)) ∧
    (∃ (p : Fin 4) (w : Nat) (dom : Fin 256) (q : BitVec 16) (origin : Nat) (corr : Int) (s : State), s.netUp = true ∧ s.ptpPort p.val = true ∧ dom.val = s.get F.NET_PTP_CFG_DOMAIN ∧ s.ptp.role.any (fun x => !x.1 && x.2.1 == p.val) = true ∧ s.ptp.syncSeq = q.toNat) ∧
    (∃ (p : Fin 4) (w : Nat) (dom : Fin 256) (q : BitVec 16) (origin : Nat) (corr : Int) (s : State), s.netUp = true ∧ s.ptpPort p.val = true ∧ (dom.val ≠ s.get F.NET_PTP_CFG_DOMAIN ∨ s.ptp.role.all (fun x => x.1 || x.2.1 != p.val) = true ∨ s.ptp.syncSeq ≠ q.toNat)) ∧
    (∃ (p : Fin 4) (w : Nat) (dom : Fin 256) (a b c d e f steps : Nat) (s : State), s.netUp = true ∧ s.ptpPort p.val = true ∧ dom.val = s.get F.NET_PTP_CFG_DOMAIN ∧ f ≠ s.ownVector.ident) ∧
    (∃ (p : Fin 4) (w : Nat) (dom : Fin 256) (a b c d e f steps : Nat) (s : State), s.netUp = true ∧ s.ptpPort p.val = true ∧ (dom.val ≠ s.get F.NET_PTP_CFG_DOMAIN ∨ f = s.ownVector.ident)) ∧
    (∃ (p : Fin 4) (w : Nat) (dom : Fin 256) (q : BitVec 16) (s : State), s.netUp = true ∧ s.ptpPort p.val = true) ∧
    (∃ (p : Fin 4) (w : Nat) (dom : Fin 256) (q : BitVec 16) (dl : Nat) (s : State), s.netUp = true ∧ s.ptpPort p.val = true) ∧
    (∃ (w : Nat) (u s : State), s.netUp = true ∧ (∃ k : Fin 4, s.ptpPort k.val = true) ∧ u = (s.at_ w).ptpSelect ∧ s.ptp.announcedAt.any (fun a => decide (max s.now w < a + secCycles)) = true ∧ u.ptp.role.any (fun x => x.1) = true) ∧
    (∃ (w : Nat) (u s : State), s.netUp = true ∧ (∃ k : Fin 4, s.ptpPort k.val = true) ∧ u = (s.at_ w).ptpSelect ∧ s.ptp.announcedAt.any (fun a => decide (max s.now w < a + secCycles)) = true ∧ u.ptp.role.any (fun x => !x.1) = true) ∧
    (∃ (w : Nat) (u s : State), s.netUp = true ∧ (∃ k : Fin 4, s.ptpPort k.val = true) ∧ u = (s.at_ w).ptpSelect ∧ s.ptp.announcedAt.all (fun a => decide (a + secCycles ≤ max s.now w)) = true ∧ u.ptp.role.any (fun x => x.1) = true) ∧
    (∃ (w q : Nat) (h : PtpHeard) (u s : State), s.netUp = true ∧ (∃ k : Fin 4, s.ptpPort k.val = true) ∧ u = (s.at_ w).ptpSelect ∧ s.ptp.announcedAt.all (fun a => decide (a + secCycles ≤ max s.now w)) = true ∧ u.ptp.role.any (fun x => !x.1 && x.2.1 == q) = true ∧ Sparse.get (fun _ => none) s.ptp.heard q = some h) ∧
    (∃ (w : Nat) (s : State), (s.netUp = false ∨ ∀ k : Fin 4, s.ptpPort k.val = false)) ∧
    (∃ (w : Nat) (s : State), s.netUp = true ∧ s.ptp.role.any (fun x => !x.1) = true ∧ s.ptp.lastSync + 3 * (secCycles / 2 ^ s.get F.NET_PTP_CFG_LOG_SYNC) ≤ max s.now w) ∧
    (∃ (w : Nat) (s : State), (s.netUp = false ∨ s.ptp.role.all (fun x => x.1) = true ∨ max s.now w < s.ptp.lastSync + 3 * (secCycles / 2 ^ s.get F.NET_PTP_CFG_LOG_SYNC))) ∧
    (∃ (ini : Initiator) (s : State), s.sends ini true R.NET_XCAP_CTL = true ∧ s.domOn 18 = true ∧ (s.get F.NET_XCAP_CTL_EN).testBit 0 = true) ∧
    (∃ (ini : Initiator) (s : State), s.sends ini true R.NET_XCAP_CTL = true ∧ s.domOn 18 = true ∧ (s.get F.NET_XCAP_CTL_EN).testBit 0 = false) ∧
    (∃ (w : Nat) (s : State), s.domOn 18 = true ∧ (s.get F.NET_XCAP_CTL_EN).testBit 1 = true) ∧
    (∃ (w : Nat) (s : State), (s.domOn 18 = false ∨ (s.get F.NET_XCAP_CTL_EN).testBit 1 = false)) ∧
    (∃ (d : IpDatagram) (s : State), s.stackUp = true) ∧
    (∃ (w : Nat) (target sender : BitVec 32) (mac : BitVec 48) (s : State), s.stackUp = true ∧ target = s.stackAddr) ∧
    (∃ (w : Nat) (target sender : BitVec 32) (mac : BitVec 48) (s : State), s.stackUp = true ∧ target ≠ s.stackAddr) ∧
    (∃ (src : BitVec 32) (len : Nat) (s : State), s.stackUp = true ∧ len ≤ 1472) ∧
    (∃ (w : Nat) (i : Instr) (d : IpDatagram) (target sender : BitVec 32) (mac : BitVec 48) (len : Nat) (s : State), (w, i) ∈ ([(0, .ipDatagramRx d), (w, .arpRequestRx w target sender mac), (0, .icmpEchoRx sender len)] : List (Nat × Instr)) ∧ (s.stackUp = false ∨ i = .icmpEchoRx sender len ∧ 1472 < len)) ∧
    (∃ (ini : Initiator) (v : BitVec 32) (s : State), s.sends ini true R.NET_IP_ADDR = true ∧ s.domOn 18 = true) :=
  ⟨⟨.tap, 2, (wNet.set (F.NET_E_GCL_CTL_LEN 2) 2 |>.set (F.NET_GCL_ADMIN_INTERVAL 2 0) 500).set (F.NET_GCL_ADMIN_INTERVAL 2 1) 700, by decide +kernel⟩,
   ⟨.tap, 2, (wNet.set (F.NET_E_GCL_CTL_LEN 2) 2 |>.set (F.NET_GCL_ADMIN_INTERVAL 2 0) 500).set (F.NET_GCL_ADMIN_INTERVAL 2 1) 0, by decide +kernel⟩,
   ⟨.tap, 2, wNet, by decide +kernel⟩,
   ⟨2, 4000, (((wNet.set (F.NET_E_GCL_CTL_LEN 2) 2).set (F.NET_E_GCL_CTL_PENDING 2) 1).set (F.NET_E_GCL_CYCLE_CYCLE_NS 2) 1000).wr (R.NET_GCL_ADMIN 2 1) 0x30000100#32, by decide +kernel⟩,
   ⟨2, 4001, ((wNet.set (F.NET_E_GCL_CTL_LEN 2) 2).set (F.NET_E_GCL_CTL_PENDING 2) 1).set (F.NET_E_GCL_CYCLE_CYCLE_NS 2) 1000, by decide +kernel⟩,
   ⟨2, 240, 1, 600, ((wNet.wr (R.NET_GCL_OPER 2 0) 0xFF0001F4#32).wr (R.NET_GCL_OPER 2 1) 0x0F0001F4#32).setGcl 2 ⟨2, 1000, 0, 0⟩, by decide +kernel⟩,
   ⟨2, 240, wNet, by decide +kernel⟩,
   ⟨1, 8000, 0, .pdelayReq 5, wNet.set (F.NET_E_CFG_PTP 1) 0, by decide +kernel⟩,
   ⟨1, 8000, 0, 77, (let s := wNet; { s with ptp := { s.ptp with role := some (false, 1, 7), syncSeq := 9, stamp := 40, seqOut := 65535, delay := [(1, 55)] } }), by decide +kernel⟩,
   ⟨1, 8000, 3, 77, (let s := wNet; { s with ptp := { s.ptp with role := some (false, 1, 7), syncSeq := 9, stamp := 40, seqOut := 65535, delay := [(1, 55)] } }), by decide +kernel⟩,
   ⟨1, 8000, 0, 9, 3000, 12, (let s := wNet; { s with ptp := { s.ptp with role := some (false, 1, 7), syncSeq := 9, stamp := 40, seqOut := 65535, delay := [(1, 55)] } }), by decide +kernel⟩,
   ⟨1, 8000, 0, 10, 3000, 12, (let s := wNet; { s with ptp := { s.ptp with role := some (false, 1, 7), syncSeq := 9, stamp := 40, seqOut := 65535, delay := [(1, 55)] } }), by decide +kernel⟩,
   ⟨1, 8000, 0, 10, 6, 0x20, 0x4000, 100, 77, 0, (let s := wNet.set F.NET_PTP_CFG_PRIO1 246; { s with ptp := { s.ptp with role := some (true, 0, s.ownVector.ident), heard := [(3, some ⟨⟨246, 0, 0, 0, 0, 66⟩, 2, s.now⟩)] } }), by decide +kernel⟩,
   ⟨1, 8000, 2, 10, 6, 0x20, 0x4000, 100, 77, 0, (let s := wNet.set F.NET_PTP_CFG_PRIO1 246; { s with ptp := { s.ptp with role := some (true, 0, s.ownVector.ident), heard := [(3, some ⟨⟨246, 0, 0, 0, 0, 66⟩, 2, s.now⟩)] } }), by decide +kernel⟩,
   ⟨1, 8000, 9, 45, wNet, by decide +kernel⟩,
   ⟨1, 8000, 9, 45, 300, (let s := wNet; { s with ptp := { s.ptp with asked := [(1, some 45)] } }), by decide +kernel⟩,
   ⟨8000, ((let s := wNet; { s with ptp := { s.ptp with role := some (true, 0, s.ownVector.ident), seqOut := 65535, announcedAt := some 0 } }).at_ 8000).ptpSelect, (let s := wNet; { s with ptp := { s.ptp with role := some (true, 0, s.ownVector.ident), seqOut := 65535, announcedAt := some 0 } }), by decide +kernel⟩,
   ⟨8000, ((let s := wNet; { s with ptp := { s.ptp with role := some (true, 0, 0), heard := [(1, some ⟨⟨0, 0, 0, 0, 0, 66⟩, 2, s.now⟩)], announcedAt := some 0 } }).at_ 8000).ptpSelect, (let s := wNet; { s with ptp := { s.ptp with role := some (true, 0, 0), heard := [(1, some ⟨⟨0, 0, 0, 0, 0, 66⟩, 2, s.now⟩)], announcedAt := some 0 } }), by decide +kernel⟩,
   ⟨8000, ((let s := wNet; { s with ptp := { s.ptp with role := some (true, 0, s.ownVector.ident), seqOut := 65535, announcedAt := none } }).at_ 8000).ptpSelect, (let s := wNet; { s with ptp := { s.ptp with role := some (true, 0, s.ownVector.ident), seqOut := 65535, announcedAt := none } }), by decide +kernel⟩,
   ⟨8000, 1, ⟨⟨0, 0, 0, 0, 0, 66⟩, 2, 0⟩, ((let s := wNet; { s with ptp := { s.ptp with role := some (true, 0, 0), heard := [(1, some ⟨⟨0, 0, 0, 0, 0, 66⟩, 2, s.now⟩)], announcedAt := none } }).at_ 8000).ptpSelect, (let s := wNet; { s with ptp := { s.ptp with role := some (true, 0, 0), heard := [(1, some ⟨⟨0, 0, 0, 0, 0, 66⟩, 2, s.now⟩)], announcedAt := none } }), by decide +kernel⟩,
   ⟨8000, wCht, by decide +kernel⟩,
   ⟨1200000000, (let s := wNet; { s with ptp := { s.ptp with role := some (false, 1, 7), syncSeq := 9, stamp := 40, seqOut := 65535, delay := [(1, 55)] } }), by decide +kernel⟩,
   ⟨1, (let s := wNet; { s with ptp := { s.ptp with role := some (false, 1, 7), lastSync := 1, syncSeq := 9, stamp := 40, seqOut := 65535, delay := [(1, 55)] } }), by decide +kernel⟩,
   ⟨.tap, (let s := wNet.set F.NET_XCAP_CTL_EN 1; { s with now := 123456789012, ptp := { s.ptp with capUnread := true } }), by decide +kernel⟩,
   ⟨.tap, wNet, by decide +kernel⟩,
   ⟨400000000, wNet.set F.NET_XCAP_CTL_EN 2, by decide +kernel⟩,
   ⟨400000000, wNet.set F.NET_XCAP_CTL_EN 1, by decide +kernel⟩,
   ⟨⟨0x0A000001#32, false, true, true, 17#8, 47043#16, true⟩, wNet.wr R.NET_IP_ADDR 0x0A000001#32, by decide +kernel⟩,
   ⟨400, 0x0A000001#32, 0x0A000002#32, 0x010203040506#48, (let s := wNet.wr R.NET_IP_ADDR 0x0A000001#32; { s with net := { s.net with stackQ := 3, arp := (List.range 64).map (fun k => (BitVec.ofNat 32 k, k, 0)) } }), by decide +kernel⟩,
   ⟨400, 0x0A000003#32, 0x0A000002#32, 0x010203040506#48, (let s := wNet.wr R.NET_IP_ADDR 0x0A000001#32; { s with net := { s.net with stackQ := 3, arp := (List.range 4).map (fun k => (BitVec.ofNat 32 k, k, 0)) } }), by decide +kernel⟩,
   ⟨0x0A000002#32, 1472, wNet.wr R.NET_IP_GW 0x0A000001#32, by decide +kernel⟩,
   ⟨0, .icmpEchoRx 5#32 1473, ⟨0x0A000001#32, false, true, true, 17#8, 47043#16, true⟩, 1#32, 5#32, 5#48, 1473, wNet, by decide +kernel⟩,
   ⟨.tap, 0x0A000009#32, wNet, by decide +kernel⟩⟩

/-- The hypotheses of TheFabricIsReleasedAndCaptured are met. -/
theorem wit_TheFabricIsReleasedAndCaptured :
    (∃ (ini : Initiator) (s : State), s.sends ini true R.FAB_CTL = true ∧ s.clk.epoch.isSome = true ∧ s.mode = M.init ∧ srOrderOk (s.rd R.FAB_SR_ORDER) = true ∧ s.bit F.FAB_SR_STAT_DONE = false ∧ s.fab.step = none) ∧
    (∃ (ini : Initiator) (s : State), s.sends ini true R.FAB_CTL = true ∧ s.clk.epoch = none) ∧
    (∃ (ini : Initiator) (s : State), s.sends ini true R.FAB_CTL = true ∧ s.clk.epoch.isSome = true ∧ (s.mode ≠ M.init ∨ srOrderOk (s.rd R.FAB_SR_ORDER) = false ∨ s.bit F.FAB_SR_STAT_DONE = true ∨ s.fab.step.isSome = true)) ∧
    (∃ (w k q : Nat) (s : State), s.fab.step = some k ∧ s.epochAt (max s.now w) = 0 ∧ s.fab.stepAt ≤ max s.now w ∧ q = s.get F.FAB_SR_ORDER_ORDER / 4 ^ k % 4) ∧
    (∃ (w : Nat) (s : State), (s.fab.step = none ∨ s.epochAt (max s.now w) ≠ 0 ∨ max s.now w < s.fab.stepAt)) ∧
    (∃ (x : Fin 96) (m : Nat) (u s : State), u = s.at_ (s.stepTime m)) ∧
    (∃ (m : Nat) (u s : State), u = s.at_ (s.stepTime m) ∧ s.bit F.FAB_RIM_CTL_HOLD_EN = true ∧ (u.rimOut m 0 112 255).getLsbD 1 = true ∧ s.leaving = false ∧ (s.mode = M.armed ∨ s.mode = M.run ∨ s.mode = M.runSpared)) ∧
    (∃ (m : Nat) (u s : State), u = s.at_ (s.stepTime m) ∧ s.bit F.FAB_RIM_CTL_HOLD_EN = true ∧ (u.rimOut m 0 112 255).getLsbD 1 = true ∧ (s.leaving = true ∨ (s.mode ≠ M.armed ∧ s.mode ≠ M.run ∧ s.mode ≠ M.runSpared))) ∧
    (∃ (m : Nat) (u s : State), u = s.at_ (s.stepTime m) ∧ (s.bit F.FAB_RIM_CTL_HOLD_EN = false ∨ (u.rimOut m 0 112 255).getLsbD 1 = false)) ∧
    (∃ (m : Nat) (u s : State), u = s.at_ (s.stepTime m) ∧ s.bit F.FAB_CAP_CTL_SRC_RIM = true ∧ u.rimRises m 0 112 255 2 = true ∧ s.alive = true ∧ s.regValid R.FAB_CAP_CTL = true ∧ s.capWait = false ∧ (s.bit F.FAB_CAP_STAT_FULL = false ∨ s.bit F.FAB_CAP_CTL_OVERWRITE = true)) ∧
    (∃ (m : Nat) (u s : State), u = s.at_ (s.stepTime m) ∧ s.bit F.FAB_CAP_CTL_SRC_RIM = true ∧ u.rimRises m 0 112 255 2 = true ∧ s.alive = true ∧ s.regValid R.FAB_CAP_CTL = true ∧ s.capWait = false ∧ s.bit F.FAB_CAP_STAT_FULL = true ∧ s.bit F.FAB_CAP_CTL_OVERWRITE = false) ∧
    (∃ (m : Nat) (u s : State), u = s.at_ (s.stepTime m) ∧ (s.bit F.FAB_CAP_CTL_SRC_RIM = false ∨ u.rimRises m 0 112 255 2 = false ∨ s.capWait = true ∨ s.alive = false ∨ s.regValid R.FAB_CAP_CTL = false)) ∧
    (∃ (ini : Initiator) (s : State), s.sends ini true R.FAB_CAP_CTL = true ∧ s.alive = true ∧ s.regValid R.FAB_CAP_CTL = true ∧ s.capWait = false ∧ (s.bit F.FAB_CAP_STAT_FULL = false ∨ s.bit F.FAB_CAP_CTL_OVERWRITE = true)) ∧
    (∃ (ini : Initiator) (s : State), s.sends ini true R.FAB_CAP_CTL = true ∧ s.alive = true ∧ s.regValid R.FAB_CAP_CTL = true ∧ s.capWait = false ∧ s.bit F.FAB_CAP_STAT_FULL = true ∧ s.bit F.FAB_CAP_CTL_OVERWRITE = false) ∧
    (∃ (ini : Initiator) (s : State), s.sends ini true R.FAB_CAP_CTL = true ∧ s.regValid R.FAB_CAP_CTL = true ∧ (s.alive = false ∨ s.capWait = true)) ∧
    (∃ (ini : Initiator) (s : State), s.sends ini true R.FAB_CAP_CTL = true ∧ s.regValid R.FAB_CAP_CTL = true) ∧
    (∃ (m : Nat) (u s : State), u = s.at_ (s.stepTime m) ∧ s.capWait = true ∧ s.clk.epoch.isSome = true ∧ (s.bit F.FAB_CAP_CTL_ALIGN = false ∨ s.get F.FAB_CAP_CTL_EDGE = m % 840)) ∧
    (∃ (m : Nat) (u s : State), u = s.at_ (s.stepTime m) ∧ (s.capWait = false ∨ s.clk.epoch = none ∨ (s.bit F.FAB_CAP_CTL_ALIGN = true ∧ s.get F.FAB_CAP_CTL_EDGE ≠ m % 840))) ∧
    (∃ (c : Capture) (id : Nat) (cfg : BitVec 320) (k : Cell) (o : Nat → BitVec 16) (s : State), cfg = Sparse.get (fun _ => 0) c.cfg id ∧ k = Sparse.get (fun _ => { q0 := cfgInit cfg }) c.cells id ∧ (∀ l : Nat, l < 8 → o l = if cfgOwn cfg l = true then (Sparse.get (fun _ => {}) k.out l : Reg2).cur else 0)) ∧
    (∃ (ini : Initiator) (s : State), s.sends ini false R.FAB_CAP_DATA = true ∧ (s.mode = M.service ∨ s.lifecycle ≤ 1)) ∧
    (∃ (ini : Initiator) (s : State), s.sends ini false R.FAB_CAP_DATA = true ∧ s.mode ≠ M.service ∧ 1 < s.lifecycle) ∧
    (∃ (m : Nat) (u s : State), u = s.at_ (s.stepTime m) ∧ s.bit F.FAB_SPM_CTL_EN = true ∧ u.rimToggles m 1 255 196 0 = true ∧ s.fab.spm.busy = false) ∧
    (∃ (m : Nat) (u s : State), u = s.at_ (s.stepTime m) ∧ s.bit F.FAB_SPM_CTL_EN = true ∧ u.rimToggles m 1 255 196 0 = true ∧ s.fab.spm.busy = true) ∧
    (∃ (m : Nat) (u s : State), u = s.at_ (s.stepTime m) ∧ (s.bit F.FAB_SPM_CTL_EN = false ∨ u.rimToggles m 1 255 196 0 = false)) ∧
    (∃ (s : State), s.fab.spm.busy = true ∧ s.fab.spm.direct = true) ∧
    (∃ (s : State), s.fab.spm.busy = false) ∧
    (∃ (d : RegDesc) (i j a : Nat) (s : State), s.fab.spm.busy = true ∧ s.fab.spm.direct = false ∧ s.fab.spm.write = false ∧ s.fab.spm.addr = a ∧ s.stallFailed .fabric = false ∧ regRow? a = some (d, i, j) ∧ a % 4 = 0 ∧ s.domOn ((addrDomain a).getD 0) = true ∧ rowShows ((a - 0x10000000) / 0x10000) d.off = false) ∧
    (∃ (d : RegDesc) (i j a : Nat) (s : State), s.fab.spm.busy = true ∧ s.fab.spm.direct = false ∧ s.fab.spm.write = true ∧ s.fab.spm.addr = a ∧ s.stallFailed .fabric = false ∧ regRow? a = some (d, i, j) ∧ a % 4 = 0 ∧ s.domOn ((addrDomain a).getD 0) = true ∧ rowActs ((a - 0x10000000) / 0x10000) d.off = false) ∧
    (∃ (a : Nat) (v : BitVec 64) (s : State), s.fab.spm.busy = true ∧ s.fab.spm.direct = false ∧ s.fab.spm.write = false ∧ s.fab.spm.addr = a ∧ s.stallFailed .fabric = false ∧ 0x23000000 ≤ a ∧ a < 0x23400000 ∧ a % 4 = 0 ∧ s.domOn ((addrDomain a).getD 0) = true ∧ gridClassify (s.memWord (a / 8 * 8)) = .clean ∧ gridData (s.memWord (a / 8 * 8)) = some v) ∧
    (∃ (a c : Nat) (s : State), s.fab.spm.busy = true ∧ s.fab.spm.direct = false ∧ s.fab.spm.addr = a ∧ (c = 1 ∧ spineDecodes a = false ∨ c = 4 ∧ spineDecodes a = true ∧ (s.stallFailed .fabric = true ∨ s.domOn ((addrDomain a).getD 0) = false ∧ s.bit (F.PWR_D_CTL_WOA ((addrDomain a).getD 0)) = false))) ∧
    (∃ (a : Nat) (s : State), s.fab.spm.busy = true ∧ s.fab.spm.direct = false ∧ s.fab.spm.addr = a ∧ spineDecodes a = true ∧ s.stallFailed .fabric = false ∧ s.domOn ((addrDomain a).getD 0) = false ∧ s.bit (F.PWR_D_CTL_WOA ((addrDomain a).getD 0)) = true ∧ s.stalls.any (fun e => e.by_ == .fabric) = false) ∧
    (∃ (x y l : Nat) (s : State), x < 255 ∧ y < 256 ∧ (l = 2 ∨ l = 3) ∧ cfgOwn (s.cellCfg (cellAt (x + 1) y)) (l + 4) = true ∧ cfgOwn (s.cellCfg (cellAt x y)) l = false ∧ (∀ j : Nat, j < 16 → ∀ k : Nat, k < 8 → s.contends (cellAt x y / 16 * 16 + j) k = none ∧ s.latched (cellAt x y / 16 * 16 + j) k = false) ∧ s.latched (cellAt (x + 1) y) (l + 4) = false) ∧
    (∃ (ini : Initiator) (s : State), s.sends ini true R.FAB_CONT_CLR = true ∧ (s.fab.latch.all (fun e => (List.range 8).all (fun l => (s.contends (e.1 / 8) l).isNone))) = true) ∧
    (∃ (ini : Initiator) (s : State), s.sends ini true R.FAB_CONT_CLR = true ∧ s.fab.latch.map (fun e => e.2) = [true] ∧ (s.fab.latch.all (fun e => decide ((List.range 8).filterMap (fun l => s.contends (e.1 / 8) l) = [(e.1 / 8, e.1 % 8)]))) = true) :=
  ⟨⟨.tap, (let s := (wMode M.init).set F.FAB_SR_ORDER_ORDER 0xE4; { s with clk := { s.clk with epoch := some 0 } }), by decide +kernel⟩,
   ⟨.tap, wMode M.init, by decide +kernel⟩,
   ⟨.tap, (let s := (wMode M.init).set F.FAB_SR_ORDER_ORDER 0xE4; { s with clk := { s.clk with epoch := some 0 } }).set F.FAB_SR_STAT_DONE 1, by decide +kernel⟩,
   ⟨840, 1, 1, let s := (let s := (wMode M.init).set F.FAB_SR_ORDER_ORDER 0xE4; { s with clk := { s.clk with epoch := some 0 } }); { s with fab := { s.fab with step := some 1 } }, by decide +kernel⟩,
   ⟨841, let s := (let s := (wMode M.init).set F.FAB_SR_ORDER_ORDER 0xE4; { s with clk := { s.clk with epoch := some 0 } }); { s with fab := { s.fab with step := some 1 } }, by decide +kernel⟩,
   ⟨95, 20, (wRimAt (wMode M.run) 0 95 255 1).at_ 10, (wRimAt (wMode M.run) 0 95 255 1), by decide +kernel⟩,
   ⟨20, ((wRimAt (wMode M.run) 0 112 255 2).set F.FAB_RIM_CTL_HOLD_EN 1).at_ 10, ((wRimAt (wMode M.run) 0 112 255 2).set F.FAB_RIM_CTL_HOLD_EN 1), by decide +kernel⟩,
   ⟨20, ((wRimAt (wMode M.init) 0 112 255 2).set F.FAB_RIM_CTL_HOLD_EN 1).at_ 10, ((wRimAt (wMode M.init) 0 112 255 2).set F.FAB_RIM_CTL_HOLD_EN 1), by decide +kernel⟩,
   ⟨19, ((wRimAt (wMode M.hold) 0 112 255 2).set F.FAB_RIM_CTL_HOLD_EN 1).wr R.SYS_HOLD_CAUSES 0x41#32 |>.at_ 9, ((wRimAt (wMode M.hold) 0 112 255 2).set F.FAB_RIM_CTL_HOLD_EN 1).wr R.SYS_HOLD_CAUSES 0x41#32, by decide +kernel⟩,
   ⟨20, ((wRimAt (wMode M.run) 0 112 255 4).set F.FAB_CAP_CTL_SRC_RIM 1).at_ 10, ((wRimAt (wMode M.run) 0 112 255 4).set F.FAB_CAP_CTL_SRC_RIM 1), by decide +kernel⟩,
   ⟨20, ((wRimAt (wMode M.run) 0 112 255 4).set F.FAB_CAP_CTL_SRC_RIM 1 |>.set F.FAB_CAP_STAT_FULL 1).at_ 10, ((wRimAt (wMode M.run) 0 112 255 4).set F.FAB_CAP_CTL_SRC_RIM 1 |>.set F.FAB_CAP_STAT_FULL 1), by decide +kernel⟩,
   ⟨21, ((wRimAt (wMode M.run) 0 112 255 4).set F.FAB_CAP_CTL_SRC_RIM 1).at_ 10, ((wRimAt (wMode M.run) 0 112 255 4).set F.FAB_CAP_CTL_SRC_RIM 1), by decide +kernel⟩,
   ⟨.tap, wMode M.run, by decide +kernel⟩,
   ⟨.tap, (wMode M.run).set F.FAB_CAP_STAT_FULL 1, by decide +kernel⟩,
   ⟨.tap, { wMode M.run with capWait := true }, by decide +kernel⟩,
   ⟨.tap, (wMode M.run).set F.FAB_CAP_STAT_FULL 1, by decide +kernel⟩,
   ⟨841, ({ (wReed 0).set F.FAB_CAP_CTL_GO 1 with capWait := true }).at_ 420, ({ (wReed 0).set F.FAB_CAP_CTL_GO 1 with capWait := true }), by decide +kernel⟩,
   ⟨841, (wReed 0).at_ 420, wReed 0, by decide +kernel⟩,
   ⟨{ cells := [(0x20F, { q0 := 5 })], free := [(2, true)], on := [0, 1, 2, 3] }, 0x20F, 0, { q0 := 5 }, fun _ => 0, State.reset, by decide +kernel⟩,
   ⟨.tap, let s := ((wSvc.set F.FAB_CAP_STAT_FULL 1).set F.FAB_CAP_ADDR_FRAME 0x20).set F.FAB_CAP_ADDR_WORD 127; { s with fab := { s.fab with cap := { cells := [(0x20F, { q0 := 5, out := [(7, { cur := 9 })] })], cfg := [(0x20F, BitVec.ofNat 320 (2 ^ 307))], free := [(2, true)], on := [0, 1, 2, 3] } } }, by decide +kernel⟩,
   ⟨.tap, ((wMode M.run).set F.SEC_STAT_LIFECYCLE 3), by decide +kernel⟩,
   ⟨20, ((wRimAt (wMode M.run) 1 255 196 3).set F.FAB_SPM_CTL_EN 1).at_ 10, ((wRimAt (wMode M.run) 1 255 196 3).set F.FAB_SPM_CTL_EN 1), by decide +kernel⟩,
   ⟨20, (let s := ((wRimAt (wMode M.run) 1 255 196 3).set F.FAB_SPM_CTL_EN 1); { s with fab := { s.fab with spm := { busy := true } } }).at_ 10, (let s := ((wRimAt (wMode M.run) 1 255 196 3).set F.FAB_SPM_CTL_EN 1); { s with fab := { s.fab with spm := { busy := true } } }), by decide +kernel⟩,
   ⟨22, ((wRimAt (wMode M.run) 1 255 196 3).set F.FAB_SPM_CTL_EN 1).at_ 11, ((wRimAt (wMode M.run) 1 255 196 3).set F.FAB_SPM_CTL_EN 1), by decide +kernel⟩,
   ⟨let s := wMode M.run; { s with fab := { s.fab with spm := { busy := true, write := true, addr := 0x10000000, data := 0x30005, direct := true } } }, by decide +kernel⟩,
   ⟨wMode M.run, by decide +kernel⟩,
   ⟨((regRow? R.FAB_CAP_MISSED).get (by decide +kernel)).1, 0, 0, R.FAB_CAP_MISSED, let s := (wMode M.run).wr R.FAB_CAP_MISSED 7#32; { s with fab := { s.fab with spm := { busy := true, addr := R.FAB_CAP_MISSED } } }, by decide +kernel⟩,
   ⟨((regRow? (R.FAB_MBOX_IN 3)).get (by decide +kernel)).1, 3, 0, R.FAB_MBOX_IN 3, let s := wMode M.run; { s with fab := { s.fab with spm := { busy := true, write := true, addr := R.FAB_MBOX_IN 3, data := 0x12345 } } }, by decide +kernel⟩,
   ⟨0x2300000C, 0x1122334455667788#64, let s := (wMode M.run).memWrite 0x23000008 0x1122334455667788#64; { s with fab := { s.fab with spm := { busy := true, addr := 0x2300000C } } }, by decide +kernel⟩,
   ⟨0x100C0FFC, 1, let s := wMode M.run; { s with fab := { s.fab with spm := { busy := true, addr := 0x100C0FFC } } }, by decide +kernel⟩,
   ⟨R.MEAS_SEQ 3, let s := ((wMode M.run).setPwrState 20 3).set (F.PWR_D_CTL_WOA 20) 1; { s with fab := { s.fab with spm := { busy := true, addr := R.MEAS_SEQ 3 } } }, by decide +kernel⟩,
   ⟨4, 8, 2, (let s := wMode M.run; (s.setCellCfg (cellAt 5 8) (BitVec.ofNat 320 (2 ^ 308)))), by decide +kernel⟩,
   ⟨.tap, (wReed 0).setLatch 0x20F 3 true, by decide +kernel⟩,
   ⟨.tap, (let s := wMode M.run; ((s.setCellCfg (cellAt 5 8) (BitVec.ofNat 320 (2 ^ 308))).setCellCfg (cellAt 4 8) (BitVec.ofNat 320 (2 ^ 312))).setLatch (cellAt 5 8) 6 true), by decide +kernel⟩⟩

/-- The hypotheses of ReedArithmetic are met. -/
theorem wit_ReedArithmetic :
    (∃ (c : Fin 65536) (m : Nat) (s : State), s.reedIssues 0x01 c.val m = true) ∧
    (∃ (c : Fin 65536) (m : Nat) (s : State), s.reedIssues 0x02 c.val m = true) ∧
    (∃ (c : Fin 65536) (m : Nat) (s : State), s.reedIssues 0x03 c.val m = true) ∧
    (∃ (c : Fin 65536) (m : Nat) (s : State), s.reedIssues 0x04 c.val m = true) ∧
    (∃ (c : Fin 65536) (m : Nat) (s : State), s.reedIssues 0x05 c.val m = true) ∧
    (∃ (c : Fin 65536) (m : Nat) (s : State), s.reedIssues 0x0F c.val m = true) ∧
    (∃ (c : Fin 65536) (m : Nat) (s : State), s.reedIssues 0x10 c.val m = true) ∧
    (∃ (c : Fin 65536) (m : Nat) (s : State), s.reedIssues 0x11 c.val m = true) ∧
    (∃ (c : Fin 65536) (m : Nat) (s : State), s.reedIssues 0x12 c.val m = true) ∧
    (∃ (c : Fin 65536) (m : Nat) (s : State), s.reedIssues 0x13 c.val m = true) ∧
    (∃ (c : Fin 65536) (m : Nat) (s : State), s.reedIssues 0x14 c.val m = true) ∧
    (∃ (c : Fin 65536) (m : Nat) (s : State), s.reedIssues 0x15 c.val m = true) ∧
    (∃ (c : Fin 65536) (m : Nat) (s : State), s.reedIssues 0x1D c.val m = true) ∧
    (∃ (c : Fin 65536) (m : Nat) (s : State), s.reedIssues 0x1E c.val m = true) ∧
    (∃ (c : Fin 65536) (m : Nat) (s : State), s.reedIssues 0x1F c.val m = true) ∧
    (∃ (c : Fin 65536) (m : Nat) (op : Nat) (i : Instr) (s : State), (op, i) ∈ ([(0x01, .reedMov c m), (0x02, .reedAdd c m), (0x03, .reedAdc c m), (0x04, .reedSub c m), (0x05, .reedSbc c m), (0x0F, .reedMull c m), (0x10, .reedMulh c m), (0x11, .reedMulhu c m), (0x12, .reedMin c m), (0x13, .reedMax c m), (0x14, .reedMinu c m), (0x15, .reedMaxu c m), (0x1D, .reedAdds c m), (0x1E, .reedSubs c m), (0x1F, .reedInceq c m)] : List (Nat × Instr)) ∧ s.reedIssues op c.val m = false) :=
  ⟨⟨0x20F, 840, wReed (0x01 * 2 ^ 26 + 0 * 2 ^ 22 + 1 * 2 ^ 12 + 2 * 2 ^ 7 + 3), by decide +kernel⟩,
   ⟨0x20F, 840, wReed (0x02 * 2 ^ 26 + 5 * 2 ^ 22 + 1 * 2 ^ 12 + 2 * 2 ^ 7 + 3), by decide +kernel⟩,
   ⟨0x20F, 840, wReed (0x03 * 2 ^ 26 + 13 * 2 ^ 22 + 1 * 2 ^ 12 + 2 * 2 ^ 7 + 3), by decide +kernel⟩,
   ⟨0x20F, 840, wReed (0x04 * 2 ^ 26 + 2 * 2 ^ 22 + 1 * 2 ^ 12 + 2 * 2 ^ 7 + 3), by decide +kernel⟩,
   ⟨0x20F, 840, wReed (0x05 * 2 ^ 26 + 3 * 2 ^ 22 + 1 * 2 ^ 12 + 2 * 2 ^ 7 + 3), by decide +kernel⟩,
   ⟨0x20F, 840, wReed (0x0F * 2 ^ 26 + 12 * 2 ^ 22 + 1 * 2 ^ 12 + 2 * 2 ^ 7 + 3), by decide +kernel⟩,
   ⟨0x20F, 840, wReed (0x10 * 2 ^ 26 + 1 * 2 ^ 22 + 1 * 2 ^ 12 + 2 * 2 ^ 7 + 3), by decide +kernel⟩,
   ⟨0x20F, 840, wReed (0x11 * 2 ^ 26 + 1 * 2 ^ 22 + 1 * 2 ^ 12 + 2 * 2 ^ 7 + 3), by decide +kernel⟩,
   ⟨0x20F, 840, wReed (0x12 * 2 ^ 26 + 11 * 2 ^ 22 + 1 * 2 ^ 12 + 2 * 2 ^ 7 + 3), by decide +kernel⟩,
   ⟨0x20F, 840, wReed (0x13 * 2 ^ 26 + 11 * 2 ^ 22 + 1 * 2 ^ 12 + 2 * 2 ^ 7 + 3), by decide +kernel⟩,
   ⟨0x20F, 840, wReed (0x14 * 2 ^ 26 + 11 * 2 ^ 22 + 1 * 2 ^ 12 + 2 * 2 ^ 7 + 3), by decide +kernel⟩,
   ⟨0x20F, 840, wReed (0x15 * 2 ^ 26 + 11 * 2 ^ 22 + 1 * 2 ^ 12 + 2 * 2 ^ 7 + 3), by decide +kernel⟩,
   ⟨0x20F, 840, wReed (0x1D * 2 ^ 26 + 4 * 2 ^ 22 + 1 * 2 ^ 12 + 2 * 2 ^ 7 + 3), by decide +kernel⟩,
   ⟨0x20F, 840, wReed (0x1E * 2 ^ 26 + 4 * 2 ^ 22 + 1 * 2 ^ 12 + 2 * 2 ^ 7 + 3), by decide +kernel⟩,
   ⟨0x20F, 840, wReed (0x1F * 2 ^ 26 + 0 * 2 ^ 22 + 1 * 2 ^ 12 + 2 * 2 ^ 7 + 3), by decide +kernel⟩,
   ⟨0x20F, 840, 0x1F, .reedInceq 0x20F 840, wReed 0x23, by decide +kernel⟩⟩

/-- The hypotheses of ReedLogic are met. -/
theorem wit_ReedLogic :
    (∃ (c : Fin 65536) (m : Nat) (s : State), s.reedIssues 0x00 c.val m = true) ∧
    (∃ (c : Fin 65536) (m : Nat) (s : State), s.reedIssues 0x06 c.val m = true) ∧
    (∃ (c : Fin 65536) (m : Nat) (s : State), s.reedIssues 0x07 c.val m = true) ∧
    (∃ (c : Fin 65536) (m : Nat) (s : State), s.reedIssues 0x08 c.val m = true) ∧
    (∃ (c : Fin 65536) (m : Nat) (s : State), s.reedIssues 0x09 c.val m = true) ∧
    (∃ (c : Fin 65536) (m : Nat) (s : State), s.reedIssues 0x0A c.val m = true) ∧
    (∃ (c : Fin 65536) (m : Nat) (s : State), s.reedIssues 0x0B c.val m = true) ∧
    (∃ (c : Fin 65536) (m : Nat) (s : State), s.reedIssues 0x0C c.val m = true) ∧
    (∃ (c : Fin 65536) (m : Nat) (s : State), s.reedIssues 0x0D c.val m = true) ∧
    (∃ (c : Fin 65536) (m : Nat) (s : State), s.reedIssues 0x0E c.val m = true) ∧
    (∃ (c : Fin 65536) (m : Nat) (s : State), s.reedIssues 0x16 c.val m = true) ∧
    (∃ (c : Fin 65536) (m : Nat) (s : State), s.reedIssues 0x17 c.val m = true) ∧
    (∃ (c : Fin 65536) (m : Nat) (s : State), s.reedIssues 0x18 c.val m = true) ∧
    (∃ (c : Fin 65536) (m : Nat) (s : State), s.reedIssues 0x19 c.val m = true) ∧
    (∃ (c : Fin 65536) (m : Nat) (s : State), s.reedIssues 0x1A c.val m = true) ∧
    (∃ (c : Fin 65536) (m : Nat) (s : State), s.reedIssues 0x1B c.val m = true) ∧
    (∃ (c : Fin 65536) (m : Nat) (s : State), s.reedIssues 0x1C c.val m = true) ∧
    (∃ (c : Fin 65536) (m : Nat) (s : State), s.reedIssues 0x22 c.val m = true) ∧
    (∃ (c : Fin 65536) (m w : Nat) (x : BitVec 16) (v : BitVec 64) (s : State), s.reedIssues 0x20 c.val m = true ∧ s.reedLast c.val m = true ∧ isRamAddr c.val = true ∧ x = (s.reedCell c.val m (s.reedSrc c.val m 17) (s.cell c.val).c (s.cell c.val).f).prev ∧ w = ramAddr c.val (x.toNat % 512) ∧ gridClassify (s.memWord w) = .clean ∧ gridData (s.memWord w) = some v) ∧
    (∃ (c : Fin 65536) (m w : Nat) (x : BitVec 16) (v : BitVec 64) (r : State) (s : State), s.reedIssues 0x20 c.val m = true ∧ s.reedLast c.val m = true ∧ isRamAddr c.val = true ∧ x = (s.reedCell c.val m (s.reedSrc c.val m 17) (s.cell c.val).c (s.cell c.val).f).prev ∧ w = ramAddr c.val (x.toNat % 512) ∧ (gridClassify (s.memWord w) ≠ .clean ∧ gridClassify (s.memWord w) ≠ .uncorrectable) ∧ gridData (s.memWord w) = some v ∧ r = (s.memRead 5 w).1) ∧
    (∃ (c : Fin 65536) (m w : Nat) (x : BitVec 16) (r : State) (s : State), s.reedIssues 0x20 c.val m = true ∧ s.reedLast c.val m = true ∧ isRamAddr c.val = true ∧ x = (s.reedCell c.val m (s.reedSrc c.val m 17) (s.cell c.val).c (s.cell c.val).f).prev ∧ w = ramAddr c.val (x.toNat % 512) ∧ gridClassify (s.memWord w) = .uncorrectable ∧ r = (s.memRead 5 w).1) ∧
    (∃ (c : Fin 65536) (m w : Nat) (x : BitVec 16) (s : State), s.reedIssues 0x21 c.val m = true ∧ s.reedLast c.val m = true ∧ isRamAddr c.val = true ∧ (s.cell c.val).ramwd.at_ ≤ m + 1 ∧ x = (s.reedCell c.val m (s.reedSrc c.val m 17) (s.cell c.val).c (s.cell c.val).f).prev ∧ w = ramAddr c.val (x.toNat % 512)) ∧
    (∃ (c : Fin 65536) (m op : Nat) (i : Instr) (s : State), (op, i) ∈ ([(0x20, .reedRamrd c m), (0x21, .reedRamwr c m)] : List (Nat × Instr)) ∧ s.reedIssues op c.val m = true ∧ (isRamAddr c.val = false ∨ s.reedLast c.val m = false)) ∧
    (∃ (c : Fin 65536) (m : Nat) (v : Nat → BitVec 16) (r : BitVec 16) (s : State), (s.at_ (s.stepTime m)).cellRuns c.val = true ∧ cfgBit (s.cellCfg c.val) = true ∧ s.reedPlace c.val m = mBits (s.cellCfg c.val) 12 10 ∧ (∀ k : Nat, k < 4 → v k = (s.inStep m).source c.val m 0 (mBits (s.cellCfg c.val) (21 + 5 * (3 - k)) (17 + 5 * (3 - k)))) ∧ (∀ j : Nat, j < 16 → r.getLsbD j = (s.cellCfg c.val).getLsbD (32 * (j / 2) + 16 * (j % 2) + (if (v 3).getLsbD j = true then 8 else 0) + (if (v 2).getLsbD j = true then 4 else 0) + (if (v 1).getLsbD j = true then 2 else 0) + (if (v 0).getLsbD j = true then 1 else 0)))) ∧
    (∃ (c : Fin 65536) (m : Nat) (s : State), ((s.at_ (s.stepTime m)).cellRuns c.val = false ∨ cfgBit (s.cellCfg c.val) = false ∨ s.reedPlace c.val m ≠ mBits (s.cellCfg c.val) 12 10)) ∧
    (∃ (c : Fin 65536) (m : Nat) (op : Nat) (i : Instr) (s : State), (op, i) ∈ ([(0x00, .reedNop c m), (0x06, .reedAnd c m), (0x07, .reedOr c m), (0x08, .reedXor c m), (0x09, .reedAndn c m), (0x0A, .reedNot c m), (0x0B, .reedShl c m), (0x0C, .reedShr c m), (0x0D, .reedSra c m), (0x0E, .reedRol c m), (0x16, .reedEq c m), (0x17, .reedLt c m), (0x18, .reedLtu c m), (0x19, .reedTst c m), (0x1A, .reedSel c m), (0x1B, .reedBsel c m), (0x1C, .reedMuxq c m), (0x20, .reedRamrd c m), (0x21, .reedRamwr c m), (0x22, .reedFlag c m)] : List (Nat × Instr)) ∧ s.reedIssues op c.val m = false) :=
  ⟨⟨0x20F, 840, wReed (12 * 2 ^ 22 + 1 * 2 ^ 12), by decide +kernel⟩,
   ⟨0x20F, 840, wReed (0x06 * 2 ^ 26 + 0 * 2 ^ 22 + 1 * 2 ^ 12 + 2 * 2 ^ 7 + 3), by decide +kernel⟩,
   ⟨0x20F, 840, wReed (0x07 * 2 ^ 26 + 1 * 2 ^ 22 + 1 * 2 ^ 12 + 2 * 2 ^ 7 + 3), by decide +kernel⟩,
   ⟨0x20F, 840, wReed (0x08 * 2 ^ 26 + 2 * 2 ^ 22 + 1 * 2 ^ 12 + 2 * 2 ^ 7 + 3), by decide +kernel⟩,
   ⟨0x20F, 840, wReed (0x09 * 2 ^ 26 + 3 * 2 ^ 22 + 1 * 2 ^ 12 + 2 * 2 ^ 7 + 3), by decide +kernel⟩,
   ⟨0x20F, 840, wReed (0x0A * 2 ^ 26 + 4 * 2 ^ 22 + 1 * 2 ^ 12 + 2 * 2 ^ 7 + 3), by decide +kernel⟩,
   ⟨0x20F, 840, wReed (0x0B * 2 ^ 26 + 11 * 2 ^ 22 + 1 * 2 ^ 12 + 2 * 2 ^ 7 + 3), by decide +kernel⟩,
   ⟨0x20F, 840, wReed (0x0C * 2 ^ 26 + 12 * 2 ^ 22 + 1 * 2 ^ 12 + 2 * 2 ^ 7 + 3), by decide +kernel⟩,
   ⟨0x20F, 840, wReed (0x0D * 2 ^ 26 + 13 * 2 ^ 22 + 1 * 2 ^ 12 + 2 * 2 ^ 7 + 3), by decide +kernel⟩,
   ⟨0x20F, 840, wReed (0x0E * 2 ^ 26 + 5 * 2 ^ 22 + 1 * 2 ^ 12 + 2 * 2 ^ 7 + 3), by decide +kernel⟩,
   ⟨0x20F, 840, wReed (0x16 * 2 ^ 26 + 0 * 2 ^ 22 + 1 * 2 ^ 12 + 2 * 2 ^ 7 + 3), by decide +kernel⟩,
   ⟨0x20F, 840, wReed (0x17 * 2 ^ 26 + 1 * 2 ^ 22 + 1 * 2 ^ 12 + 2 * 2 ^ 7 + 3), by decide +kernel⟩,
   ⟨0x20F, 840, wReed (0x18 * 2 ^ 26 + 2 * 2 ^ 22 + 1 * 2 ^ 12 + 2 * 2 ^ 7 + 3), by decide +kernel⟩,
   ⟨0x20F, 840, wReed (0x19 * 2 ^ 26 + 3 * 2 ^ 22 + 1 * 2 ^ 12 + 2 * 2 ^ 7 + 3), by decide +kernel⟩,
   ⟨0x20F, 840, wReed (0x1A * 2 ^ 26 + 4 * 2 ^ 22 + 1 * 2 ^ 12 + 2 * 2 ^ 7 + 3), by decide +kernel⟩,
   ⟨0x20F, 840, wReed (0x1B * 2 ^ 26 + 5 * 2 ^ 22 + 1 * 2 ^ 12 + 2 * 2 ^ 7 + 3), by decide +kernel⟩,
   ⟨0x20F, 840, wReed (0x1C * 2 ^ 26 + 6 * 2 ^ 22 + 1 * 2 ^ 12 + 2 * 2 ^ 7 + 3), by decide +kernel⟩,
   ⟨0x20F, 840, wReed (0x22 * 2 ^ 26 + 7 * 2 ^ 22 + 1 * 2 ^ 12 + 2 * 2 ^ 7 + 3), by decide +kernel⟩,
   ⟨0x20F, 840, ramAddr 0x20F 1, 0x8001, 0x1122334455667788#64, (let s := wReed (0x20 * 2 ^ 26 + 0 * 2 ^ 22 + 1 * 2 ^ 12 + 3); s.setCell 0x20F { s.cell 0x20F with la := 0x8123, t0 := ⟨0x1234, true, false⟩, t1 := ⟨0x5235, false, true⟩ }).memWrite (ramAddr 0x20F 1) 0x1122334455667788#64, by decide +kernel⟩,
   ⟨0x20F, 840, ramAddr 0x20F 1, 0x8001, 0x1122334455667788#64, ((let s := (let s := wReed (0x20 * 2 ^ 26 + 0 * 2 ^ 22 + 1 * 2 ^ 12 + 3); s.setCell 0x20F { s.cell 0x20F with la := 0x8123, t0 := ⟨0x1234, true, false⟩, t1 := ⟨0x5235, false, true⟩ }); { s with mem := Sparse.put (memReset s.wheel.inited s.wheel.inited1) s.mem (ramAddr 0x20F 1 / 8) (gridEncode 0x1122334455667788#64 ^^^ BitVec.ofNat 80 (2 ^ 70)) }).memRead 5 (ramAddr 0x20F 1)).1, (let s := (let s := wReed (0x20 * 2 ^ 26 + 0 * 2 ^ 22 + 1 * 2 ^ 12 + 3); s.setCell 0x20F { s.cell 0x20F with la := 0x8123, t0 := ⟨0x1234, true, false⟩, t1 := ⟨0x5235, false, true⟩ }); { s with mem := Sparse.put (memReset s.wheel.inited s.wheel.inited1) s.mem (ramAddr 0x20F 1 / 8) (gridEncode 0x1122334455667788#64 ^^^ BitVec.ofNat 80 (2 ^ 70)) }), by decide +kernel⟩,
   ⟨0x20F, 840, ramAddr 0x20F 1, 0x8001, ((let s := (let s := wReed (0x20 * 2 ^ 26 + 0 * 2 ^ 22 + 1 * 2 ^ 12 + 3); s.setCell 0x20F { s.cell 0x20F with la := 0x8123, t0 := ⟨0x1234, true, false⟩, t1 := ⟨0x5235, false, true⟩ }); { s with mem := Sparse.put (memReset s.wheel.inited s.wheel.inited1) s.mem (ramAddr 0x20F 1 / 8) (gridEncode 0x1122334455667788#64 ^^^ BitVec.ofNat 80 (2 ^ 70 + 3 * 2 ^ 12)) }).memRead 5 (ramAddr 0x20F 1)).1, (let s := (let s := wReed (0x20 * 2 ^ 26 + 0 * 2 ^ 22 + 1 * 2 ^ 12 + 3); s.setCell 0x20F { s.cell 0x20F with la := 0x8123, t0 := ⟨0x1234, true, false⟩, t1 := ⟨0x5235, false, true⟩ }); { s with mem := Sparse.put (memReset s.wheel.inited s.wheel.inited1) s.mem (ramAddr 0x20F 1 / 8) (gridEncode 0x1122334455667788#64 ^^^ BitVec.ofNat 80 (2 ^ 70 + 3 * 2 ^ 12)) }), by decide +kernel⟩,
   ⟨0x20F, 840, ramAddr 0x20F 1, 0x8001, (let s := wReed (0x21 * 2 ^ 26 + 0 * 2 ^ 22 + 1 * 2 ^ 12 + 3); s.setCell 0x20F { s.cell 0x20F with la := 0x8123, t0 := ⟨0x1234, true, false⟩, t1 := ⟨0x5235, false, true⟩ }), by decide +kernel⟩,
   ⟨0x20F, 841, 0x21, .reedRamwr 0x20F 841, (let s := wReed (0x21 * 2 ^ 26 + 0 * 2 ^ 22 + 1 * 2 ^ 12 + 3 + 2 ^ 315 + 2 ^ 317); s.setCell 0x20F { s.cell 0x20F with la := 0x8123, t0 := ⟨0x1234, true, false⟩, t1 := ⟨0x5235, false, true⟩ }), by decide +kernel⟩,
   ⟨0x20F, 840, fun _ => 0xFFFF, 1, (let s := (((wReed 0).setCellCfg 0x20F (BitVec.ofNat 320 (2 ^ 319 + 0x8001 + 5 * 2 ^ 269 + 1 * 2 ^ 273 + 2 * 2 ^ 278 + 3 * 2 ^ 283 + 0 * 2 ^ 288)))); s.setCell 0x20F { q0 := 0xFFFF, q1 := 0xFFFF, q2 := 0xFFFF, q3 := 0xFFFF }), by decide +kernel⟩,
   ⟨0x20F, 840, wReed 0, by decide +kernel⟩,
   ⟨0x20F, 840, 0x22, .reedFlag 0x20F 840, wReed 0x0C000000, by decide +kernel⟩⟩

/-- The hypotheses of TheReconfigurationPort are met. -/
theorem wit_TheReconfigurationPort :
    (∃ (ini : Initiator) (o : Fin 4) (s : State), s.sends ini true R.CFG_PR_CTL = true ∧ o ≠ 3) ∧
    (∃ (ini : Initiator) (o : Fin 4) (s : State), s.sends ini true R.CFG_PR_CTL = true ∧ o = 3) ∧
    (∃ (m : Nat) (u s : State), u = s.at_ (s.stepTime m)) ∧
    (∃ (ini : Initiator) (flash : Bool) (s : State), s.sends ini true R.CFG_PR_CTL = true ∧ s.get F.CFG_PR_CTL_OWNER = 1 ∧ s.prBusy = false ∧ s.alive = true ∧ s.rdN R.CFG_PR_LEN ≤ 0x100000 ∧ s.tractSlice = false) ∧
    (∃ (ini : Initiator) (flash : Bool) (s : State), s.sends ini true R.CFG_PR_CTL = true ∧ s.get F.CFG_PR_CTL_OWNER = 1 ∧ s.prBusy = false ∧ (s.alive = false ∨ 0x100000 < s.rdN R.CFG_PR_LEN)) ∧
    (∃ (ini : Initiator) (flash : Bool) (s : State), s.sends ini true R.CFG_PR_CTL = true ∧ s.get F.CFG_PR_CTL_OWNER = 1 ∧ s.prBusy = false ∧ s.alive = true ∧ s.rdN R.CFG_PR_LEN ≤ 0x100000 ∧ s.tractSlice = true) ∧
    (∃ (ini : Initiator) (flash : Bool) (s : State), s.sends ini true R.CFG_PR_CTL = true ∧ (s.get F.CFG_PR_CTL_OWNER = 0 ∨ s.get F.CFG_PR_CTL_OWNER = 2 ∨ s.get F.CFG_PR_CTL_OWNER = 1 ∧ s.prBusy = true)) ∧
    (∃ (ini : Initiator) (s : State), s.sends ini true R.CFG_PR_CTL = true ∧ s.get F.CFG_PR_CTL_OWNER = 1 ∧ (s.prState = 1 ∨ s.prState = 2 ∨ s.prState = 3)) ∧
    (∃ (ini : Initiator) (s : State), s.sends ini true R.CFG_PR_CTL = true ∧ (s.get F.CFG_PR_CTL_OWNER = 0 ∨ s.get F.CFG_PR_CTL_OWNER = 2 ∨ s.get F.CFG_PR_CTL_OWNER = 1 ∧ (s.prState = 0 ∨ 4 ≤ s.prState))) ∧
    (∃ (ini : Initiator) (value : BitVec 32) (s : State), s.sends ini true R.CFG_PR_DATA = true ∧ s.prState = Pr.staging ∧ s.cfg.pr.fabric = false ∧ s.cfg.pr.flash = false ∧ s.cfg.pr.count + 4 ≤ s.cfg.pr.len) ∧
    (∃ (ini : Initiator) (value : BitVec 32) (s : State), s.sends ini true R.CFG_PR_DATA = true ∧ s.prState = Pr.staging ∧ s.cfg.pr.fabric = false ∧ s.cfg.pr.flash = false ∧ s.cfg.pr.len < s.cfg.pr.count + 4) ∧
    (∃ (ini : Initiator) (value : BitVec 32) (s : State), s.sends ini true R.CFG_PR_DATA = true ∧ (s.prState ≠ Pr.staging ∨ s.cfg.pr.fabric = true ∨ s.cfg.pr.flash = true)) ∧
    (∃ (m cmd : Nat) (i : Instr) (u s : State), (cmd, i) ∈ ([(1, .prRimPush m), (2, .prRimStartFlash m), (3, .prRimStartPush m), (4, .prRimAbort m)] : List (Nat × Instr)) ∧ u = s.at_ (s.stepTime m) ∧ (u.rimToggles m 3 0 250 15 = false ∨ (u.rimOut m 3 0 250).toNat % 8 ≠ cmd)) ∧
    (∃ (m cmd : Nat) (i : Instr) (u s : State), (cmd, i) ∈ ([(1, .prRimPush m), (2, .prRimStartFlash m), (3, .prRimStartPush m), (4, .prRimAbort m)] : List (Nat × Instr)) ∧ u = s.at_ (s.stepTime m) ∧ u.rimToggles m 3 0 250 15 = true ∧ (u.rimOut m 3 0 250).toNat % 8 = cmd ∧ s.get F.CFG_PR_CTL_OWNER ≠ 2) ∧
    (∃ (m : Nat) (u s : State), u = s.at_ (s.stepTime m) ∧ u.rimToggles m 3 0 250 15 = true ∧ (u.rimOut m 3 0 250).toNat % 8 = 1 ∧ s.get F.CFG_PR_CTL_OWNER = 2 ∧ s.prState = Pr.staging ∧ s.cfg.pr.fabric = true ∧ s.cfg.pr.flash = false ∧ 1 ≤ (u.rimOut m 3 0 250).toNat / 8 % 16 ∧ (u.rimOut m 3 0 250).toNat / 8 % 16 ≤ 8 ∧ s.cfg.pr.count + (u.rimOut m 3 0 250).toNat / 8 % 16 ≤ s.cfg.pr.len) ∧
    (∃ (m : Nat) (u s : State), u = s.at_ (s.stepTime m) ∧ u.rimToggles m 3 0 250 15 = true ∧ (u.rimOut m 3 0 250).toNat % 8 = 1 ∧ s.get F.CFG_PR_CTL_OWNER = 2 ∧ s.prState = Pr.staging ∧ s.cfg.pr.fabric = true ∧ s.cfg.pr.flash = false ∧ 1 ≤ (u.rimOut m 3 0 250).toNat / 8 % 16 ∧ (u.rimOut m 3 0 250).toNat / 8 % 16 ≤ 8 ∧ s.cfg.pr.len < s.cfg.pr.count + (u.rimOut m 3 0 250).toNat / 8 % 16) ∧
    (∃ (m : Nat) (u s : State), u = s.at_ (s.stepTime m) ∧ u.rimToggles m 3 0 250 15 = true ∧ (u.rimOut m 3 0 250).toNat % 8 = 1 ∧ s.get F.CFG_PR_CTL_OWNER = 2 ∧ (s.prState ≠ Pr.staging ∨ s.cfg.pr.fabric = false ∨ s.cfg.pr.flash = true ∨ (u.rimOut m 3 0 250).toNat / 8 % 16 = 0 ∨ 8 < (u.rimOut m 3 0 250).toNat / 8 % 16)) ∧
    (∃ (m : Nat) (u s : State), u = s.at_ (s.stepTime m) ∧ u.rimToggles m 3 0 250 15 = true ∧ (u.rimOut m 3 0 250).toNat % 8 = 3 ∧ s.get F.CFG_PR_CTL_OWNER = 2 ∧ s.prBusy = false ∧ s.alive = true ∧ ((u.rimOut m 3 0 251).toNat + (u.rimOut m 3 0 252).toNat * 65536) ≤ 0x100000 ∧ s.tractSlice = false) ∧
    (∃ (m : Nat) (u s : State), u = s.at_ (s.stepTime m) ∧ u.rimToggles m 3 0 250 15 = true ∧ (u.rimOut m 3 0 250).toNat % 8 = 3 ∧ s.get F.CFG_PR_CTL_OWNER = 2 ∧ s.prBusy = false ∧ (s.alive = false ∨ 0x100000 < ((u.rimOut m 3 0 251).toNat + (u.rimOut m 3 0 252).toNat * 65536) ∨ s.tractSlice = true)) ∧
    (∃ (m : Nat) (u s : State), u = s.at_ (s.stepTime m) ∧ u.rimToggles m 3 0 250 15 = true ∧ (u.rimOut m 3 0 250).toNat % 8 = 2 ∧ s.get F.CFG_PR_CTL_OWNER = 2 ∧ s.prBusy = false ∧ s.alive = true ∧ (s.rdN R.CFG_PR_LEN) ≤ 0x100000 ∧ s.tractSlice = false) ∧
    (∃ (m : Nat) (u s : State), u = s.at_ (s.stepTime m) ∧ u.rimToggles m 3 0 250 15 = true ∧ (u.rimOut m 3 0 250).toNat % 8 = 2 ∧ s.get F.CFG_PR_CTL_OWNER = 2 ∧ s.prBusy = false ∧ (s.alive = false ∨ 0x100000 < (s.rdN R.CFG_PR_LEN) ∨ s.tractSlice = true)) ∧
    (∃ (m cmd : Nat) (i : Instr) (u s : State), (cmd, i) ∈ ([(2, .prRimStartFlash m), (3, .prRimStartPush m)] : List (Nat × Instr)) ∧ u = s.at_ (s.stepTime m) ∧ u.rimToggles m 3 0 250 15 = true ∧ (u.rimOut m 3 0 250).toNat % 8 = cmd ∧ s.get F.CFG_PR_CTL_OWNER = 2 ∧ s.prBusy = true) ∧
    (∃ (m : Nat) (u s : State), u = s.at_ (s.stepTime m) ∧ u.rimToggles m 3 0 250 15 = true ∧ (u.rimOut m 3 0 250).toNat % 8 = 4 ∧ s.get F.CFG_PR_CTL_OWNER = 2 ∧ (s.prState = 1 ∨ s.prState = 2 ∨ s.prState = 3)) ∧
    (∃ (m : Nat) (u s : State), u = s.at_ (s.stepTime m) ∧ u.rimToggles m 3 0 250 15 = true ∧ (u.rimOut m 3 0 250).toNat % 8 = 4 ∧ s.get F.CFG_PR_CTL_OWNER = 2 ∧ (s.prState = 0 ∨ 4 ≤ s.prState)) ∧
    (∃ (m y : Nat) (s : State), 246 ≤ y ∧ y ≤ 253) ∧
    (∃ (w : Nat) (bad : Bool) (s : State), s.prState = Pr.staging ∧ s.cfg.pr.flash = false ∧ s.cfg.pr.count = s.cfg.pr.len) ∧
    (∃ (w : Nat) (bad : Bool) (s : State), (s.prState ≠ Pr.staging ∨ s.cfg.pr.flash = false ∧ s.cfg.pr.count ≠ s.cfg.pr.len)) ∧
    (∃ (w : Nat) (bad : Bool) (s : State), s.prState = Pr.staging ∧ s.cfg.pr.flash = true ∧ bad = false ∧ 0x30000000 ≤ s.cfg.pr.src ∧ s.cfg.pr.src + s.cfg.pr.len ≤ 0x32FF0000 ∧ (∀ i : Nat, i < (s.cfg.pr.src % 0x10000 + s.cfg.pr.len + 0xFFFF) / 0x10000 → (s.sector ((s.cfg.pr.src - 0x30000000) / 0x10000 + i)).state = Fs.sealed)) ∧
    (∃ (w : Nat) (bad : Bool) (s : State), s.prState = Pr.staging ∧ s.cfg.pr.flash = true ∧ (bad = true ∨ s.cfg.pr.src < 0x30000000 ∨ 0x32FF0000 < s.cfg.pr.src + s.cfg.pr.len ∨ (∃ i : Nat, i < (s.cfg.pr.src % 0x10000 + s.cfg.pr.len + 0xFFFF) / 0x10000 ∧ (s.sector ((s.cfg.pr.src - 0x30000000) / 0x10000 + i)).state ≠ Fs.sealed))) ∧
    (∃ (w code : Nat) (s : State), s.prState = Pr.auth) ∧
    (∃ (w n : Nat) (i : Instr) (s : State), (n, i) ∈ ([(Pr.auth, .prAuthDone w), (Pr.decrypt, .prDecryptDone w), (Pr.applying, .prApplyDone w)] : List (Nat × Instr)) ∧ s.prState ≠ n) ∧
    (∃ (w : Nat) (s : State), s.prState = Pr.decrypt) ∧
    (∃ (w : Nat) (s : State), s.prState = Pr.applying ∧ s.epochAt (max s.now w) = 0) ∧
    (∃ (w : Nat) (s : State), s.prState = Pr.applying ∧ s.epochAt (max s.now w) ≠ 0) ∧
    (∃ (w n crc seg pos off : Nat) (pay : List Nat) (l1 l2 : List ImgRec) (s : State), s.prState = Pr.applying ∧ s.epochAt (max s.now w) = 0 ∧ s.cfg.pr.recs = l1 ++ .frame false n pay crc seg pos off :: l2 ∧ (∀ r ∈ (l2 : List ImgRec), (match r with | .frame ram n _ _ _ _ _ => (if ram = true then 4096 + n else n) != n | _ => true) = true) ∧ n < 4096) ∧
    (∃ (w n crc seg pos off : Nat) (pay : List Nat) (l1 l2 : List ImgRec) (s : State), s.prState = Pr.applying ∧ s.epochAt (max s.now w) = 0 ∧ s.cfg.pr.recs = l1 ++ .frame true n pay crc seg pos off :: l2 ∧ (∀ r ∈ (l2 : List ImgRec), (match r with | .frame ram n _ _ _ _ _ => (if ram = true then 4096 + n else n) != 4096 + n | _ => true) = true) ∧ n < 1024) ∧
    (∃ (w : Nat) (gb : Bool) (s : State), (s.alive = false ∨ s.bit F.CFG_SCAN_CTL_EN = false ∨ s.regValid R.CFG_SCAN_CTL = false)) ∧
    (∃ (w : Nat) (gb : Bool) (n : Nat) (r : List Nat) (s : State), s.alive = true ∧ s.bit F.CFG_SCAN_CTL_EN = true ∧ s.regValid R.CFG_SCAN_CTL = true ∧ s.cfg.scanFirst = n :: r ∧ s.scans n = true) ∧
    (∃ (w : Nat) (gb : Bool) (n : Nat) (s : State), s.alive = true ∧ s.bit F.CFG_SCAN_CTL_EN = true ∧ s.regValid R.CFG_SCAN_CTL = true ∧ (∀ j ∈ (s.cfg.scanFirst : List Nat), s.scans j = false) ∧ s.cfg.scanNext ≤ n ∧ n < 4096 ∧ s.scans n = true ∧ (∀ j : Nat, j < n → s.cfg.scanNext ≤ j → s.scans j = false)) ∧
    (∃ (w : Nat) (gb : Bool) (s : State), s.alive = true ∧ s.bit F.CFG_SCAN_CTL_EN = true ∧ s.regValid R.CFG_SCAN_CTL = true ∧ (∀ j ∈ (s.cfg.scanFirst : List Nat), s.scans j = false) ∧ (∀ i : Nat, i < 64 → ∀ j : Nat, j < 64 → s.cfg.scanNext ≤ 64 * i + j → s.scans (64 * i + j) = false)) ∧
    (∃ (w : Nat) (gb : Bool) (s : State), s.alive = true ∧ s.bit F.CFG_SCAN_CTL_EN = true ∧ s.regValid R.CFG_SCAN_CTL = true ∧ (s.at_ w).scanTake.2 = none) ∧
    (∃ (w n : Nat) (s : State), s.alive = true ∧ s.bit F.CFG_SCAN_CTL_EN = true ∧ s.regValid R.CFG_SCAN_CTL = true ∧ (s.at_ w).scanTake.2 = some n ∧ (crc32c (s.framePayload n)).toNat = (s.frameRec n).golden) ∧
    (∃ (w n : Nat) (s : State), s.alive = true ∧ s.bit F.CFG_SCAN_CTL_EN = true ∧ s.regValid R.CFG_SCAN_CTL = true ∧ (s.at_ w).scanTake.2 = some n ∧ (crc32c (s.framePayload n)).toNat ≠ (s.frameRec n).golden ∧ (s.frameRec n).state ≠ 2 ∧ s.cfg.queue.contains n = false ∧ s.cfg.queue.length < 8) ∧
    (∃ (w n : Nat) (s : State), s.alive = true ∧ s.bit F.CFG_SCAN_CTL_EN = true ∧ s.regValid R.CFG_SCAN_CTL = true ∧ (s.at_ w).scanTake.2 = some n ∧ (crc32c (s.framePayload n)).toNat ≠ (s.frameRec n).golden ∧ (s.frameRec n).state ≠ 2 ∧ (s.cfg.queue.contains n = true ∨ 8 ≤ s.cfg.queue.length)) ∧
    (∃ (w n : Nat) (s : State), s.alive = true ∧ s.bit F.CFG_SCAN_CTL_EN = true ∧ s.regValid R.CFG_SCAN_CTL = true ∧ (s.at_ w).scanTake.2 = some n ∧ (crc32c (s.framePayload n)).toNat ≠ (s.frameRec n).golden ∧ (s.frameRec n).state = 2) ∧
    (∃ (w n : Nat) (s : State), s.alive = true ∧ s.bit F.CFG_SCAN_CTL_EN = true ∧ s.regValid R.CFG_SCAN_CTL = true ∧ (s.at_ w).scanTake.2 = some n) ∧
    (∃ (w : Nat) (bad : Bool) (s : State), s.cfg.queue = []) ∧
    (∃ (w : Nat) (bad : Bool) (n : Nat) (r : List Nat) (s : State), s.cfg.queue = n :: r ∧ (s.quadOn (tractQuad (n / 16)) = false ∨ s.prState = Pr.applying ∧ s.cfg.pr.region.contains (n / 16) = true)) ∧
    (∃ (w : Nat) (bad : Bool) (n : Nat) (r : List Nat) (s : State), s.cfg.queue = n :: r ∧ s.quadOn (tractQuad (n / 16)) = true ∧ (¬ (s.prState = Pr.applying ∧ s.cfg.pr.region.contains (n / 16) = true)) ∧ (s.frameRec n).chain = true ∧ s.cfg.asked = none) ∧
    (∃ (w : Nat) (bad : Bool) (n : Nat) (r : List Nat) (s : State), s.cfg.queue = n :: r ∧ s.quadOn (tractQuad (n / 16)) = true ∧ (¬ (s.prState = Pr.applying ∧ s.cfg.pr.region.contains (n / 16) = true)) ∧ (s.frameRec n).chain = true ∧ s.cfg.asked.isSome = true ∧ s.cfg.answer.length < (640 + (s.frameRec n).pos % 16)) ∧
    (∃ (w : Nat) (bad : Bool) (n : Nat) (r : List Nat) (s : State), s.cfg.queue = n :: r ∧ s.quadOn (tractQuad (n / 16)) = true ∧ (¬ (s.prState = Pr.applying ∧ s.cfg.pr.region.contains (n / 16) = true)) ∧ ((s.frameRec n).chain = false ∨ s.cfg.asked.isSome = true ∧ (640 + (s.frameRec n).pos % 16) ≤ s.cfg.answer.length)) ∧
    (∃ (w n a : Nat) (s : State), s.cfg.asked = some (n, a) ∧ a + 4000000 ≤ w) ∧
    (∃ (w : Nat) (s : State), (match s.cfg.asked with | some (_, a) => decide (w < a + 4000000) | none => true) = true) ∧
    (∃ (q : Fin 4) (w : Nat) (bad : Bool) (fetched : List (List (BitVec 8))) (s : State), s.cfg.restoring.contains q.val = true ∧ s.cfg.held.contains q.val = false) ∧
    (∃ (q : Fin 4) (w : Nat) (bad : Bool) (fetched : List (List (BitVec 8))) (s : State), s.cfg.restoring.contains q.val = false) ∧
    (∃ (ini : Initiator) (q : Nat) (s : State), s.sends ini true R.CFG_RESTORE_STAT = true ∧ s.get F.CFG_RESTORE_STAT_QUADRANT = q ∧ s.cfg.held.contains q = true) ∧
    (∃ (ini : Initiator) (q : Nat) (s : State), s.sends ini true R.CFG_RESTORE_STAT = true ∧ s.get F.CFG_RESTORE_STAT_QUADRANT = q ∧ s.cfg.held.contains q = false) :=
  ⟨⟨.tap, 1, (wMode M.run).set F.CFG_PR_CTL_FAB_ALLOW 1, by decide +kernel⟩,
   ⟨.tap, 3, wMode M.run, by decide +kernel⟩,
   ⟨20, ((wRimAt (wMode M.run) 3 0 253 0x1#16).set F.CFG_PR_CTL_FAB_ALLOW 1).at_ 10, ((wRimAt (wMode M.run) 3 0 253 0x1#16).set F.CFG_PR_CTL_FAB_ALLOW 1), by decide +kernel⟩,
   ⟨.tap, false, ((wMode M.run).set F.CFG_PR_CTL_OWNER 1).wr R.CFG_PR_LEN 8#32, by decide +kernel⟩,
   ⟨.tap, true, ((wMode M.run).set F.CFG_PR_CTL_OWNER 1).wr R.CFG_PR_LEN 0x100001#32, by decide +kernel⟩,
   ⟨.tap, true, (let s := ((wMode M.run).set F.CFG_PR_CTL_OWNER 1).wr R.CFG_PR_LEN 8#32; { s with bist := { s.bist with slice := some { manual := false, kind := 6, unit := 3, at_ := 0 } } }), by decide +kernel⟩,
   ⟨.tap, true, (wMode M.run).set F.CFG_PR_CTL_OWNER 2, by decide +kernel⟩,
   ⟨.tap, ((wMode M.run).set F.CFG_PR_CTL_OWNER 1).set F.CFG_PR_STAT_STATE 3, by decide +kernel⟩,
   ⟨.tap, ((wMode M.run).set F.CFG_PR_CTL_OWNER 1).set F.CFG_PR_STAT_STATE 4, by decide +kernel⟩,
   ⟨.tap, 0x01020304#32, (((wMode M.run).set F.CFG_PR_STAT_STATE 1).setPr { len := 4 }), by decide +kernel⟩,
   ⟨.tap, 0x01020304#32, (((wMode M.run).set F.CFG_PR_STAT_STATE 1).setPr { len := 3 }), by decide +kernel⟩,
   ⟨.tap, 0x01020304#32, (((wMode M.run).set F.CFG_PR_STAT_STATE 1).setPr { len := 8, fabric := true }), by decide +kernel⟩,
   ⟨20, 2, .prRimStartFlash 20, ((wRimAt (wMode M.run) 3 0 250 0x8019#16) |>.set F.CFG_PR_CTL_OWNER 2).at_ 10, ((wRimAt (wMode M.run) 3 0 250 0x8019#16) |>.set F.CFG_PR_CTL_OWNER 2), by decide +kernel⟩,
   ⟨20, 3, .prRimStartPush 20, ((wRimAt (wMode M.run) 3 0 250 0x8003#16)).at_ 10, ((wRimAt (wMode M.run) 3 0 250 0x8003#16)), by decide +kernel⟩,
   ⟨20, (((wRimAt (wRimAt (wRimAt (wRimAt (wRimAt (wMode M.run) 3 0 249 0x102#16) 3 0 248 0x304#16) 3 0 247 0x506#16) 3 0 246 0x708#16) 3 0 250 0x8019#16) |>.set F.CFG_PR_CTL_OWNER 2 |>.set F.CFG_PR_STAT_STATE 1 |>.setPr { len := 9, count := 6, fabric := true })).at_ 10, ((wRimAt (wRimAt (wRimAt (wRimAt (wRimAt (wMode M.run) 3 0 249 0x102#16) 3 0 248 0x304#16) 3 0 247 0x506#16) 3 0 246 0x708#16) 3 0 250 0x8019#16) |>.set F.CFG_PR_CTL_OWNER 2 |>.set F.CFG_PR_STAT_STATE 1 |>.setPr { len := 9, count := 6, fabric := true }), by decide +kernel⟩,
   ⟨20, (((wRimAt (wMode M.run) 3 0 250 0x8019#16) |>.set F.CFG_PR_CTL_OWNER 2 |>.set F.CFG_PR_STAT_STATE 1 |>.setPr { len := 8, count := 6, fabric := true })).at_ 10, ((wRimAt (wMode M.run) 3 0 250 0x8019#16) |>.set F.CFG_PR_CTL_OWNER 2 |>.set F.CFG_PR_STAT_STATE 1 |>.setPr { len := 8, count := 6, fabric := true }), by decide +kernel⟩,
   ⟨20, (((wRimAt (wMode M.run) 3 0 250 0x8049#16) |>.set F.CFG_PR_CTL_OWNER 2 |>.set F.CFG_PR_STAT_STATE 1 |>.setPr { len := 18, count := 6, fabric := true })).at_ 10, ((wRimAt (wMode M.run) 3 0 250 0x8049#16) |>.set F.CFG_PR_CTL_OWNER 2 |>.set F.CFG_PR_STAT_STATE 1 |>.setPr { len := 18, count := 6, fabric := true }), by decide +kernel⟩,
   ⟨20, (((wRimAt (wRimAt (wRimAt (wMode M.run) 3 0 251 0x0#16) 3 0 252 0x10#16) 3 0 250 0x8003#16) |>.set F.CFG_PR_CTL_OWNER 2)).at_ 10, ((wRimAt (wRimAt (wRimAt (wMode M.run) 3 0 251 0x0#16) 3 0 252 0x10#16) 3 0 250 0x8003#16) |>.set F.CFG_PR_CTL_OWNER 2), by decide +kernel⟩,
   ⟨20, (((wRimAt (wRimAt (wRimAt (wMode M.run) 3 0 251 0x1#16) 3 0 252 0x10#16) 3 0 250 0x8003#16) |>.set F.CFG_PR_CTL_OWNER 2)).at_ 10, ((wRimAt (wRimAt (wRimAt (wMode M.run) 3 0 251 0x1#16) 3 0 252 0x10#16) 3 0 250 0x8003#16) |>.set F.CFG_PR_CTL_OWNER 2), by decide +kernel⟩,
   ⟨20, (((wRimAt (wRimAt (wRimAt (wMode M.run) 3 0 251 0x0#16) 3 0 252 0x32A0#16) 3 0 250 0x8002#16) |>.set F.CFG_PR_CTL_OWNER 2 |>.wr R.CFG_PR_LEN 1048576#32)).at_ 10, ((wRimAt (wRimAt (wRimAt (wMode M.run) 3 0 251 0x0#16) 3 0 252 0x32A0#16) 3 0 250 0x8002#16) |>.set F.CFG_PR_CTL_OWNER 2 |>.wr R.CFG_PR_LEN 1048576#32), by decide +kernel⟩,
   ⟨20, (((wRimAt (wRimAt (wRimAt (wMode M.run) 3 0 251 0x0#16) 3 0 252 0x32A0#16) 3 0 250 0x8002#16) |>.set F.CFG_PR_CTL_OWNER 2 |>.wr R.CFG_PR_LEN 1048577#32)).at_ 10, ((wRimAt (wRimAt (wRimAt (wMode M.run) 3 0 251 0x0#16) 3 0 252 0x32A0#16) 3 0 250 0x8002#16) |>.set F.CFG_PR_CTL_OWNER 2 |>.wr R.CFG_PR_LEN 1048577#32), by decide +kernel⟩,
   ⟨20, 3, .prRimStartPush 20, ((wRimAt (wMode M.run) 3 0 250 0x8003#16) |>.set F.CFG_PR_CTL_OWNER 2 |>.set F.CFG_PR_STAT_STATE 4).at_ 10, ((wRimAt (wMode M.run) 3 0 250 0x8003#16) |>.set F.CFG_PR_CTL_OWNER 2 |>.set F.CFG_PR_STAT_STATE 4), by decide +kernel⟩,
   ⟨20, (((wRimAt (wMode M.run) 3 0 250 0x8004#16) |>.set F.CFG_PR_CTL_OWNER 2 |>.set F.CFG_PR_STAT_STATE 2)).at_ 10, ((wRimAt (wMode M.run) 3 0 250 0x8004#16) |>.set F.CFG_PR_CTL_OWNER 2 |>.set F.CFG_PR_STAT_STATE 2), by decide +kernel⟩,
   ⟨20, (((wRimAt (wMode M.run) 3 0 250 0x8004#16) |>.set F.CFG_PR_CTL_OWNER 2 |>.set F.CFG_PR_STAT_STATE 4)).at_ 10, ((wRimAt (wMode M.run) 3 0 250 0x8004#16) |>.set F.CFG_PR_CTL_OWNER 2 |>.set F.CFG_PR_STAT_STATE 4), by decide +kernel⟩,
   ⟨20, 248, ((wMode M.run).setPr { ack := true }).set F.CFG_PR_STAT_STATE 3, by decide +kernel⟩,
   ⟨400, true, ((wMode M.run).set F.CFG_PR_STAT_STATE 1).setPr { len := 2, count := 2, bytes := [1, 2] }, by decide +kernel⟩,
   ⟨400, false, ((wMode M.run).set F.CFG_PR_STAT_STATE 1).setPr { len := 3, count := 2, bytes := [1, 2] }, by decide +kernel⟩,
   ⟨400, false, ((wMode M.run).set F.CFG_PR_STAT_STATE 1).setPr { flash := true, src := 0x32A0FFFE, len := 4 }, by decide +kernel⟩,
   ⟨400, true, ((wMode M.run).set F.CFG_PR_STAT_STATE 1).setPr { flash := true, src := 0x32A00000, len := 2 }, by decide +kernel⟩,
   ⟨400, 2, ((wMode M.run).set F.CFG_PR_STAT_STATE 2).setPr { bytes := [1, 2] }, by decide +kernel⟩,
   ⟨400, 2, .prAuthDone 400, wMode M.run, by decide +kernel⟩,
   ⟨420, ((wMode M.run).set F.CFG_PR_STAT_STATE 3).setPr { bytes := zeros 480 }, by decide +kernel⟩,
   ⟨420, (let s := ((((wMode M.run).set F.CFG_PR_STAT_STATE 4).set F.FAB_SR_STAT_RELEASED 15).set F.CFG_PR_CTL_START 1).setPr { recs := [.frame false 77 (zeros 640) 5 0 8 8, .frame false 78 (zeros 640) 6 0 700 700], region := [4, 5] }; { s with clk := { s.clk with epoch := some 0 } }), by decide +kernel⟩,
   ⟨421, (let s := ((((wMode M.run).set F.CFG_PR_STAT_STATE 4).set F.FAB_SR_STAT_RELEASED 15).set F.CFG_PR_CTL_START 1).setPr { recs := [], region := [4] }; { s with clk := { s.clk with epoch := some 0 } }), by decide +kernel⟩,
   ⟨420, 77, 5, 0, 8, 8, 3 :: zeros 639, [.frame false 77 (zeros 640) 6 0 700 700], [.frame true 5 (zeros 4096) 6 0 1700 1700], (let s := ((((wMode M.run).set F.CFG_PR_STAT_STATE 4).set F.FAB_SR_STAT_RELEASED 15).set F.CFG_PR_CTL_START 1).setPr { recs := [.frame false 77 (zeros 640) 6 0 700 700, .frame false 77 (3 :: zeros 639) 5 0 8 8, .frame true 5 (zeros 4096) 6 0 1700 1700], region := [4] }; { s with clk := { s.clk with epoch := some 0 } }), by decide +kernel⟩,
   ⟨420, 5, 6, 0, 8, 8, 3 :: zeros 4095, [.frame false 77 (zeros 640) 6 0 700 700], [], (let s := ((((wMode M.run).set F.CFG_PR_STAT_STATE 4).set F.FAB_SR_STAT_RELEASED 15).set F.CFG_PR_CTL_START 1).setPr { recs := [.frame false 77 (zeros 640) 6 0 700 700, .frame true 5 (3 :: zeros 4095) 6 0 8 8], region := [4] }; { s with clk := { s.clk with epoch := some 0 } }), by decide +kernel⟩,
   ⟨400, false, wMode M.run, by decide +kernel⟩,
   ⟨400, false, 300, [301], let s := ((wMode M.run).set F.CFG_SCAN_CTL_EN 1 |>.set F.CFG_SCAN_CTL_PASS_US 40960); { s with cfg := { s.cfg with scanFirst := [300, 301], scanNext := 7 } }, by decide +kernel⟩,
   ⟨400, false, 7, let s := ((wMode M.run).set F.CFG_SCAN_CTL_EN 1 |>.set F.CFG_SCAN_CTL_PASS_US 40960).setFrameRec 6 { state := 3 }; { s with cfg := { s.cfg with scanNext := 6 } }, by decide +kernel⟩,
   ⟨400, false, let s := ((wMode M.run).set F.CFG_SCAN_CTL_EN 1 |>.set F.CFG_SCAN_CTL_PASS_US 40960).setFrameRec 6 { state := 2 }; { s with cfg := { s.cfg with scanNext := 4096 } }, by decide +kernel⟩,
   ⟨400, false, (List.range 4).foldl (fun u d => u.setPwrState (2 + d) 3) ((wMode M.run).set F.CFG_SCAN_CTL_EN 1 |>.set F.CFG_SCAN_CTL_PASS_US 40960), by decide +kernel⟩,
   ⟨400, 0, ((wMode M.run).set F.CFG_SCAN_CTL_EN 1 |>.set F.CFG_SCAN_CTL_PASS_US 40960).setFrameRec 0 { golden := (crc32c (zeros 640)).toNat }, by decide +kernel⟩,
   ⟨400, 0, ((wMode M.run).set F.CFG_SCAN_CTL_EN 1 |>.set F.CFG_SCAN_CTL_PASS_US 40960), by decide +kernel⟩,
   ⟨400, 0, let s := ((wMode M.run).set F.CFG_SCAN_CTL_EN 1 |>.set F.CFG_SCAN_CTL_PASS_US 40960); { s with cfg := { s.cfg with queue := [1, 2, 3, 4, 5, 6, 7, 8] } }, by decide +kernel⟩,
   ⟨400, 0, ((wMode M.run).set F.CFG_SCAN_CTL_EN 1 |>.set F.CFG_SCAN_CTL_PASS_US 40960).setFrameRec 0 { state := 2 }, by decide +kernel⟩,
   ⟨400, 0, ((wMode M.run).set F.CFG_SCAN_CTL_EN 1 |>.set F.CFG_SCAN_CTL_PASS_US 40960), by decide +kernel⟩,
   ⟨400, false, wMode M.run, by decide +kernel⟩,
   ⟨400, false, 77, [78], let s := (wMode M.run).setPwrState 2 3; { s with cfg := { s.cfg with queue := [77, 78] } }, by decide +kernel⟩,
   ⟨400, false, 77, [78], let s := (wMode M.run).setFrameRec 77 { chain := true }; { s with cfg := { s.cfg with queue := [77, 78] } }, by decide +kernel⟩,
   ⟨400, false, 77, [78], let s := (wMode M.run).setFrameRec 77 { chain := true }; { s with cfg := { s.cfg with queue := [77, 78], asked := some (77, 0), answer := zeros 639 } }, by decide +kernel⟩,
   ⟨400, false, 77, [78], let s := wMode M.run; { s with cfg := { s.cfg with queue := [77, 78] } }, by decide +kernel⟩,
   ⟨4000000, 0, 0, let s := wMode M.run; { s with cfg := { s.cfg with queue := [0], asked := some (0, 0) } }, by decide +kernel⟩,
   ⟨3999999, let s := wMode M.run; { s with cfg := { s.cfg with queue := [0], asked := some (0, 0) } }, by decide +kernel⟩,
   ⟨1, 400, false, [], let s := (wMode M.run).setFrameRec 128 { state := 2 }; { s with cfg := { s.cfg with restoring := [1, 2] } }, by decide +kernel⟩,
   ⟨3, 400, false, [], let s := wMode M.run; { s with cfg := { s.cfg with restoring := [1, 2] } }, by decide +kernel⟩,
   ⟨.tap, 1, (let s := ((wMode M.run).set F.CFG_RESTORE_STAT_QUADRANT 1).set F.FAB_SR_STAT_DONE 1; { s with cfg := { s.cfg with held := [3, 1] } }), by decide +kernel⟩,
   ⟨.tap, 1, (let s := ((wMode M.run).set F.CFG_RESTORE_STAT_QUADRANT 1).set F.FAB_SR_STAT_DONE 1; { s with cfg := { s.cfg with held := [3] } }), by decide +kernel⟩⟩

/-- The hypotheses of StartUpPasses are met. -/
theorem wit_StartUpPasses :
    (∃ (k : Nat) (d : List Nat) (s : State), d = s.cfBytes (0x30000000 + k * 0xE00000) 272) ∧
    (∃ (bytes h : List Nat) (bad : Option Nat) (room len : Nat) (pos : Nat → Bool) (v : Verdict) (s : State), h = bytes.take 480 ∧ len = fieldBE h 12 4 ∧ v = (s.checkImage bytes bad room pos).2) ∧
    (∃ (w : Nat) (bad : Option Nat) (c : Nat) (s : State), s.RegsCanonical ∧ s.emn.upstream = false ∧ (s.mode = M.verify ∨ s.mode = M.fallback) ∧ s.cfg.boot.second = false ∧ max s.now w < s.cfg.boot.start + 80000000 ∧ s.ownImage s.passSlot = .inl c) ∧
    (∃ (w : Nat) (bad : Option Nat) (o room : Nat) (s : State), s.RegsCanonical ∧ s.emn.upstream = false ∧ (s.mode = M.verify ∨ s.mode = M.fallback) ∧ s.cfg.boot.second = false ∧ max s.now w < s.cfg.boot.start + 80000000 ∧ s.ownImage s.passSlot = .inr (o, room)) ∧
    (∃ (w : Nat) (bad : Option Nat) (s : State), (s.emn.upstream = true ∨ (s.mode ≠ M.verify ∧ s.mode ≠ M.fallback) ∨ s.cfg.boot.second = true ∨ s.cfg.boot.start + 80000000 ≤ max s.now w)) ∧
    (∃ (w : Nat) (bad : Option Nat) (c : Nat) (s : State), s.RegsCanonical ∧ s.emn.upstream = false ∧ (s.mode = M.load ∨ s.mode = M.fallback) ∧ s.cfg.boot.second = true ∧ max s.now w < s.cfg.boot.start + 80000000 ∧ s.ownImage s.passSlot = .inl c) ∧
    (∃ (w : Nat) (bad : Option Nat) (o room : Nat) (s : State), s.RegsCanonical ∧ s.emn.upstream = false ∧ (s.mode = M.load ∨ s.mode = M.fallback) ∧ s.cfg.boot.second = true ∧ max s.now w < s.cfg.boot.start + 80000000 ∧ s.ownImage s.passSlot = .inr (o, room)) ∧
    (∃ (w : Nat) (bad : Option Nat) (s : State), (s.emn.upstream = true ∨ (s.mode ≠ M.load ∧ s.mode ≠ M.fallback) ∨ s.cfg.boot.second = false ∨ s.cfg.boot.start + 80000000 ≤ max s.now w)) ∧
    (∃ (w read : Nat) (s : State), s.RegsCanonical ∧ (s.mode = M.verify ∨ s.mode = M.load ∨ s.mode = M.fallback) ∧ s.cfg.boot.start + 80000000 ≤ max s.now w ∧ (s.emn.upstream = false ∨ s.cfg.boot.open_ = true)) ∧
    (∃ (w read : Nat) (s : State), (¬ (s.mode = M.verify ∨ s.mode = M.load ∨ s.mode = M.fallback) ∨ max s.now w < s.cfg.boot.start + 80000000 ∨ s.emn.upstream = true ∧ s.cfg.boot.open_ = false)) ∧
    (∃ (w : Nat) (s : State), (s.emn.upstream = true ∧ s.bit F.EMN_POS_VALID = true ∧ (s.mode = M.verify ∨ s.mode = M.fallback) ∧ s.cfg.boot.open_ = false ∧ s.cfg.boot.second = false ∧ (s.cfg.readyAt = 0 ∨ s.cfg.readyAt + 4000000 ≤ max s.now w)) ∧ 0 < s.get F.EMN_POS_POS) ∧
    (∃ (w : Nat) (s : State), (¬ (s.emn.upstream = true ∧ s.bit F.EMN_POS_VALID = true ∧ (s.mode = M.verify ∨ s.mode = M.fallback) ∧ s.cfg.boot.open_ = false ∧ s.cfg.boot.second = false ∧ (s.cfg.readyAt = 0 ∨ s.cfg.readyAt + 4000000 ≤ max s.now w)))) ∧
    (∃ (w op : Nat) (i : Instr) (s : State), (op, i) ∈ ([(1, .cfgBegin w), (2, .cfgData w), (3, .cfgEnd w), (4, .cfgAbort w)] : List (Nat × Instr)) ∧ (match s.emn.inbox with | [] => true | x :: _ => x.type != 1 || x.payload.headD 0 != op) = true) ∧
    (∃ (w : Nat) (x : EmnIn) (r : List EmnIn) (s : State), s.emn.inbox = x :: r ∧ x.type = 1 ∧ x.payload.headD 0 = 1 ∧ (s.emn.upstream = true ∧ (s.mode = M.verify ∨ s.mode = M.load ∨ s.mode = M.fallback) ∧ fieldBE x.payload 1 1 % 4 = (if s.cfg.boot.second = true then 2 else 1) ∧ (s.mode = M.fallback → 128 ≤ fieldBE x.payload 1 1))) ∧
    (∃ (w : Nat) (x : EmnIn) (r : List EmnIn) (s : State), s.emn.inbox = x :: r ∧ x.type = 1 ∧ x.payload.headD 0 = 1 ∧ (¬ (s.emn.upstream = true ∧ (s.mode = M.verify ∨ s.mode = M.load ∨ s.mode = M.fallback) ∧ fieldBE x.payload 1 1 % 4 = (if s.cfg.boot.second = true then 2 else 1) ∧ (s.mode = M.fallback → 128 ≤ fieldBE x.payload 1 1)))) ∧
    (∃ (w op : Nat) (i : Instr) (x : EmnIn) (r : List EmnIn) (s : State), (op, i) ∈ ([(2, .cfgData w), (3, .cfgEnd w), (4, .cfgAbort w)] : List (Nat × Instr)) ∧ s.emn.inbox = x :: r ∧ x.type = 1 ∧ x.payload.headD 0 = op ∧ (s.cfg.boot.open_ = false ∨ ¬ (s.mode = M.verify ∨ s.mode = M.load ∨ s.mode = M.fallback))) ∧
    (∃ (w op : Nat) (i : Instr) (x : EmnIn) (r : List EmnIn) (s : State), (op, i) ∈ ([(2, .cfgData w), (3, .cfgEnd w), (4, .cfgAbort w)] : List (Nat × Instr)) ∧ s.emn.inbox = x :: r ∧ x.type = 1 ∧ x.payload.headD 0 = op ∧ s.RegsCanonical ∧ s.cfg.boot.open_ = true ∧ (s.mode = M.verify ∨ s.mode = M.load ∨ s.mode = M.fallback) ∧ (s.cfg.boot.start + 80000000 ≤ max s.now w ∨ op = 4 ∨ op = 2 ∧ fieldBE x.payload 4 4 ≠ s.cfg.boot.bytes.length ∨ op = 3 ∧ s.cfg.boot.bytes.length < s.cfg.boot.length)) ∧
    (∃ (w : Nat) (x : EmnIn) (r : List EmnIn) (s : State), s.emn.inbox = x :: r ∧ x.type = 1 ∧ x.payload.headD 0 = 2 ∧ s.RegsCanonical ∧ s.cfg.boot.open_ = true ∧ (s.mode = M.verify ∨ s.mode = M.load ∨ s.mode = M.fallback) ∧ max s.now w < s.cfg.boot.start + 80000000 ∧ fieldBE x.payload 4 4 = s.cfg.boot.bytes.length) ∧
    (∃ (w : Nat) (x : EmnIn) (r : List EmnIn) (s : State), s.emn.inbox = x :: r ∧ x.type = 1 ∧ x.payload.headD 0 = 3 ∧ s.RegsCanonical ∧ s.cfg.boot.open_ = true ∧ (s.mode = M.verify ∨ s.mode = M.load ∨ s.mode = M.fallback) ∧ max s.now w < s.cfg.boot.start + 80000000 ∧ s.cfg.boot.length ≤ s.cfg.boot.bytes.length) ∧
    (∃ (ini : Initiator) (s : State), s.sends ini true R.CFG_UPD_CTL = true ∧ s.get F.CFG_UPD_STAT_STATE ≠ 1) ∧
    (∃ (ini : Initiator) (s : State), s.sends ini true R.CFG_UPD_CTL = true ∧ s.get F.CFG_UPD_STAT_STATE = 1) ∧
    (∃ (k : Nat) (bad : Option Nat) (d : List Nat) (s : State), k = s.stagingSlot ∧ d = s.cfBytes (0x30000000 + k * 0xE00000) 272) ∧
    (∃ (w : Nat) (bad : Option Nat) (s : State), s.get F.CFG_UPD_STAT_STATE = 1) ∧
    (∃ (w : Nat) (bad : Option Nat) (s : State), s.get F.CFG_UPD_STAT_STATE ≠ 1) ∧
    (∃ (ini : Initiator) (fwp : Bool) (jfails : Fin 4) (s : State), s.sends ini true R.CFG_UPD_CTL = true ∧ s.get F.CFG_UPD_STAT_STATE = 2 ∧ s.bit F.CFG_UPD_STAT_STALE = false ∧ s.flash.after = none ∧ (fwp = true ∨ s.bitAt (R.FLASH_PROT_CF 23) 31 = false) ∧ 8 ≤ s.journalHalf.free ∧ jfails.val < 3) ∧
    (∃ (ini : Initiator) (fwp : Bool) (jfails : Fin 4) (s : State), s.sends ini true R.CFG_UPD_CTL = true ∧ s.get F.CFG_UPD_STAT_STATE = 2 ∧ s.bit F.CFG_UPD_STAT_STALE = false ∧ s.flash.after = none ∧ (fwp = true ∨ s.bitAt (R.FLASH_PROT_CF 23) 31 = false) ∧ 8 ≤ s.journalHalf.free ∧ jfails.val = 3) ∧
    (∃ (ini : Initiator) (fwp : Bool) (jfails : Fin 4) (s : State), s.sends ini true R.CFG_UPD_CTL = true ∧ s.get F.CFG_UPD_STAT_STATE = 2 ∧ s.bit F.CFG_UPD_STAT_STALE = false ∧ s.flash.after = none ∧ (fwp = true ∨ s.bitAt (R.FLASH_PROT_CF 23) 31 = false) ∧ s.journalHalf.free < 8) ∧
    (∃ (ini : Initiator) (fwp : Bool) (jfails : Fin 4) (s : State), s.sends ini true R.CFG_UPD_CTL = true ∧ (s.get F.CFG_UPD_STAT_STATE ≠ 2 ∨ s.bit F.CFG_UPD_STAT_STALE = true ∨ s.flash.after.isSome = true ∨ (fwp = false ∧ s.bitAt (R.FLASH_PROT_CF 23) 31 = true))) :=
  ⟨⟨1, (wSlot (wMode M.verify)).cfBytes 0x30E00000 272, wSlot (wMode M.verify), by decide +kernel⟩,
   ⟨zeros 480, zeros 480, none, 500, 0, fun _ => true, .reject 0x11 0, wMode M.verify, by decide +kernel⟩,
   ⟨400, none, 0x15, ((wMode M.verify).set (F.GPIO_GP_CFG_FUNC 5) 1).setSector 230 { state := Fs.erased }, by decide +kernel⟩,
   ⟨400, none, 0x200, 500, wSlot (wMode M.verify), by decide +kernel⟩,
   ⟨80000000, none, wMode M.verify, by decide +kernel⟩,
   ⟨400, none, 0x15, ((wMode M.load).setBoot { second := true }).setSector 230 { state := Fs.erased }, by decide +kernel⟩,
   ⟨400, some 3, 0x200, 500, wSlot ((wMode M.load).setBoot { second := true }), by decide +kernel⟩,
   ⟨80000000, none, (wMode M.load).setBoot { second := true }, by decide +kernel⟩,
   ⟨80000000, 65536, wMode M.load, by decide +kernel⟩,
   ⟨80000000, 65536, wUp (wMode M.verify), by decide +kernel⟩,
   ⟨4000000, wUp (wMode M.verify), by decide +kernel⟩,
   ⟨3999999, (let s := wUp (wMode M.verify); { s with cfg := { s.cfg with readyAt := 1 } }), by decide +kernel⟩,
   ⟨400, 1, .cfgBegin 400, (let s := wUp (wMode M.verify); { s with emn := { s.emn with inbox := [⟨0, 1, 0, [2, 1, 0, 8, 0, 0, 0, 0, 0, 0, 1, 0]⟩] } }), by decide +kernel⟩,
   ⟨400, ⟨0, 1, 0, [1, 1, 0, 8, 0, 0, 0, 0, 0, 0, 1, 0]⟩, [], let s := wUp (wMode M.verify); { s with emn := { s.emn with inbox := [⟨0, 1, 0, [1, 1, 0, 8, 0, 0, 0, 0, 0, 0, 1, 0]⟩] } }, by decide +kernel⟩,
   ⟨400, ⟨0, 1, 0, [1, 1, 0, 8, 0, 0, 0, 0, 0, 0, 1, 0]⟩, [], let s := wUp (wMode M.fallback); { s with emn := { s.emn with inbox := [⟨0, 1, 0, [1, 1, 0, 8, 0, 0, 0, 0, 0, 0, 1, 0]⟩] } }, by decide +kernel⟩,
   ⟨400, 3, .cfgEnd 400, ⟨0, 1, 0, [3, 1, 0, 0, 0, 0, 0, 2]⟩, [], let s := wUp (wMode M.verify); { s with emn := { s.emn with inbox := [⟨0, 1, 0, [3, 1, 0, 0, 0, 0, 0, 2]⟩] } }, by decide +kernel⟩,
   ⟨400, 2, .cfgData 400, ⟨0, 1, 0, [2, 1, 0, 8, 0, 0, 0, 3, 77, 78]⟩, [], let s := (wUp (wMode M.verify)).setBoot { open_ := true, length := 200, bytes := [5, 6] }; { s with emn := { s.emn with inbox := [⟨0, 1, 0, [2, 1, 0, 8, 0, 0, 0, 3, 77, 78]⟩] } }, by decide +kernel⟩,
   ⟨400, ⟨0, 1, 0, [2, 1, 0, 8, 0, 0, 0, 2, 77, 78]⟩, [], let s := (wUp (wMode M.verify)).setBoot { open_ := true, length := 200, bytes := [5, 6] }; { s with emn := { s.emn with inbox := [⟨0, 1, 0, [2, 1, 0, 8, 0, 0, 0, 2, 77, 78]⟩] } }, by decide +kernel⟩,
   ⟨400, ⟨0, 1, 0, [3, 1, 0, 0, 0, 0, 0, 2]⟩, [], let s := (wUp (wMode M.verify)).setBoot { open_ := true, length := 2, bytes := [5, 6] }; { s with emn := { s.emn with inbox := [⟨0, 1, 0, [3, 1, 0, 0, 0, 0, 0, 2]⟩] } }, by decide +kernel⟩,
   ⟨.tap, (wMode M.run).set F.CFG_UPD_STAT_CODE 7, by decide +kernel⟩,
   ⟨.tap, (wMode M.run).set F.CFG_UPD_STAT_STATE 1, by decide +kernel⟩,
   ⟨1, none, (wSlot ((wMode M.run).set F.CFG_SLOT_SEL_PRIMARY 1)).cfBytes 0x30E00000 272, wSlot ((wMode M.run).set F.CFG_SLOT_SEL_PRIMARY 1), by decide +kernel⟩,
   ⟨400, none, ((wMode M.run).set F.CFG_UPD_STAT_STATE 1).set F.CFG_UPD_CTL_GO 1, by decide +kernel⟩,
   ⟨400, none, wMode M.run, by decide +kernel⟩,
   ⟨.tap, true, 2, (wMode M.run).set F.CFG_UPD_STAT_STATE 2, by decide +kernel⟩,
   ⟨.tap, true, 3, (wMode M.run).set F.CFG_UPD_STAT_STATE 2, by decide +kernel⟩,
   ⟨.tap, true, 0, (let s := (wMode M.run).set F.CFG_UPD_STAT_STATE 2; s.setJournalHalf { s.journalHalf with recs := List.replicate 1016 none }), by decide +kernel⟩,
   ⟨.tap, true, 0, (wMode M.run).set F.CFG_UPD_STAT_STATE 1, by decide +kernel⟩⟩

/-- The hypotheses of TheHeadServesTheChain are met. -/
theorem wit_TheHeadServesTheChain :
    (∃ (type dst : Nat) (pl : List Nat) (f : EmnFrame) (u s : State), f = .data type dst (s.get F.EMN_POS_POS) pl ∧ u = s.emnData type dst pl) ∧
    (∃ (w : Nat) (s : State), (s.emn.head = false ∨ s.alive = false ∨ s.cfg.chain.active = true ∧ s.cfg.chain.next = none)) ∧
    (∃ (w o : Nat) (s : State), s.emn.head = true ∧ s.alive = true ∧ s.cfg.chain.active = true ∧ s.cfg.chain.next = some o ∧ o < s.cfg.chain.len) ∧
    (∃ (w o : Nat) (s : State), s.emn.head = true ∧ s.alive = true ∧ s.cfg.chain.active = true ∧ s.cfg.chain.next = some o ∧ s.cfg.chain.len ≤ o) ∧
    (∃ (w : Nat) (s : State), s.emn.head = true ∧ s.alive = true ∧ s.cfg.chain.active = false ∧ s.cfg.chain.passed ≠ [] ∧ s.cfg.chain.second = false) ∧
    (∃ (w : Nat) (p : Nat) (r : List Nat) (m : Nat × Nat) (s : State), s.emn.head = true ∧ s.alive = true ∧ s.cfg.chain.active = false ∧ (s.cfg.chain.passed = [] ∨ s.cfg.chain.second = true) ∧ s.cfg.chain.retry = p :: r ∧ ((s.directory 0).bind fun d => dirMember d p) = some m) ∧
    (∃ (w : Nat) (p : Nat) (r : List Nat) (s : State), s.emn.head = true ∧ s.alive = true ∧ s.cfg.chain.active = false ∧ (s.cfg.chain.passed = [] ∨ s.cfg.chain.second = true) ∧ s.cfg.chain.retry = p :: r ∧ ((s.directory 0).bind fun d => dirMember d p) = none) ∧
    (∃ (w : Nat) (s : State), s.emn.head = true ∧ s.alive = true ∧ s.cfg.chain.active = false ∧ (s.cfg.chain.passed = [] ∨ s.cfg.chain.second = true) ∧ s.cfg.chain.retry = [] ∧ (s.bit F.CFG_CHAIN_CTL_HOLD = true ∨ s.cfg.chain.ready = [])) ∧
    (∃ (w : Nat) (p : Nat) (g : Bool) (l1 l2 : List (Nat × Bool)) (m : Nat × Nat) (to_ : List Nat) (s : State), s.emn.head = true ∧ s.alive = true ∧ s.cfg.chain.active = false ∧ (s.cfg.chain.passed = [] ∨ s.cfg.chain.second = true) ∧ s.cfg.chain.retry = [] ∧ s.bit F.CFG_CHAIN_CTL_HOLD = false ∧ s.cfg.chain.ready = l1 ++ (p, g) :: l2 ∧ (if s.cfg.chain.later = true then l1 = [] else (∀ r ∈ (s.cfg.chain.ready : List (Nat × Bool)), s.chainRank (p, g) ≤ s.chainRank r) ∧ (∀ r ∈ (l1 : List (Nat × Bool)), s.chainRank (p, g) < s.chainRank r)) ∧ g = false ∧ s.chainMember p = some m ∧ (to_ = if s.cfg.chain.later = true then [p] else (s.cfg.chain.ready.filter fun r => !r.2 && s.chainMember r.1 == some m).map fun r => r.1)) ∧
    (∃ (w : Nat) (p : Nat) (g : Bool) (l1 l2 : List (Nat × Bool)) (m : Nat × Nat) (s : State), s.emn.head = true ∧ s.alive = true ∧ s.cfg.chain.active = false ∧ (s.cfg.chain.passed = [] ∨ s.cfg.chain.second = true) ∧ s.cfg.chain.retry = [] ∧ s.bit F.CFG_CHAIN_CTL_HOLD = false ∧ s.cfg.chain.ready = l1 ++ (p, g) :: l2 ∧ (if s.cfg.chain.later = true then l1 = [] else (∀ r ∈ (s.cfg.chain.ready : List (Nat × Bool)), s.chainRank (p, g) ≤ s.chainRank r) ∧ (∀ r ∈ (l1 : List (Nat × Bool)), s.chainRank (p, g) < s.chainRank r)) ∧ (g = true ∨ s.chainMember p = none) ∧ ((s.directory 0).bind fun d => dirMember d p) = some m) ∧
    (∃ (w : Nat) (p : Nat) (g : Bool) (l1 l2 : List (Nat × Bool)) (s : State), s.emn.head = true ∧ s.alive = true ∧ s.cfg.chain.active = false ∧ (s.cfg.chain.passed = [] ∨ s.cfg.chain.second = true) ∧ s.cfg.chain.retry = [] ∧ s.bit F.CFG_CHAIN_CTL_HOLD = false ∧ s.cfg.chain.ready = l1 ++ (p, g) :: l2 ∧ (if s.cfg.chain.later = true then l1 = [] else (∀ r ∈ (s.cfg.chain.ready : List (Nat × Bool)), s.chainRank (p, g) ≤ s.chainRank r) ∧ (∀ r ∈ (l1 : List (Nat × Bool)), s.chainRank (p, g) < s.chainRank r)) ∧ (g = true ∨ s.chainMember p = none) ∧ ((s.directory 0).bind fun d => dirMember d p) = none) ∧
    (∃ (w : Nat) (s : State), (s.emn.head = true ∧ s.cfg.chain.active = true ∧ (s.emnPort 1).window ≠ [] ∧ (s.emnPort 1).ackAt + 4000000 ≤ max s.now w) ∧ s.cfg.chain.mask ≠ []) ∧
    (∃ (w : Nat) (s : State), (¬ (s.emn.head = true ∧ s.cfg.chain.active = true ∧ (s.emnPort 1).window ≠ [] ∧ (s.emnPort 1).ackAt + 4000000 ≤ max s.now w) ∨ s.cfg.chain.mask = [])) ∧
    (∃ (p : Fin 16) (w e : Nat) (s : State), s.cfg.chain.ended = some e ∧ e + 4000000 ≤ max s.now w ∧ s.cfg.chain.mask.contains p.val = true) ∧
    (∃ (p : Fin 16) (w : Nat) (s : State), (s.cfg.chain.mask.contains p.val = false ∨ (match s.cfg.chain.ended with | some e => decide (max s.now w < e + 4000000) | none => true) = true)) ∧
    (∃ (s : State), (match s.emn.inbox with | [] => true | x :: _ => x.type != 4 || !s.emn.head) = true) ∧
    (∃ (x : EmnIn) (r : List EmnIn) (s : State), s.emn.inbox = x :: r ∧ x.type = 4 ∧ s.emn.head = true ∧ (x.payload.headD 0 = 1 ∨ x.payload.headD 0 = 2)) ∧
    (∃ (x : EmnIn) (r : List EmnIn) (p : Nat) (s : State), s.emn.inbox = x :: r ∧ x.type = 4 ∧ s.emn.head = true ∧ s.alive = true ∧ x.src = p ∧ p < 16 ∧ x.payload.headD 0 = 0x10 ∧ (¬ (s.cfg.chain.active = true ∧ s.cfg.chain.mask.contains p = true ∨ s.cfg.chain.passed.contains p = true ∨ s.cfg.chain.retry.contains p = true ∨ (s.cfg.chain.ready.any fun e => e.1 == p) = true))) ∧
    (∃ (x : EmnIn) (r : List EmnIn) (p : Nat) (s : State), s.emn.inbox = x :: r ∧ x.type = 4 ∧ s.emn.head = true ∧ s.alive = true ∧ x.src = p ∧ p < 16 ∧ (x.payload.headD 0 = 0x10 ∧ (s.cfg.chain.active = true ∧ s.cfg.chain.mask.contains p = true ∨ s.cfg.chain.passed.contains p = true ∨ s.cfg.chain.retry.contains p = true ∨ (s.cfg.chain.ready.any fun e => e.1 == p) = true) ∨ x.payload.headD 0 = 0x11 ∧ ((s.cfg.chain.active && s.cfg.chain.mask.contains p) = false ∨ s.cfg.chain.second = true) ∨ x.payload.headD 0 = 0x12 ∧ (s.cfg.chain.active && s.cfg.chain.mask.contains p) = false ∨ x.payload.headD 0 ∉ ([1, 2, 0x10, 0x11, 0x12, 0x13, 0x14] : List Nat))) ∧
    (∃ (x : EmnIn) (r : List EmnIn) (p : Nat) (s : State), s.emn.inbox = x :: r ∧ x.type = 4 ∧ s.emn.head = true ∧ s.alive = true ∧ x.src = p ∧ p < 16 ∧ x.payload.headD 0 = 0x11 ∧ (s.cfg.chain.active && s.cfg.chain.mask.contains p) = true ∧ s.cfg.chain.second = false) ∧
    (∃ (x : EmnIn) (r : List EmnIn) (p : Nat) (s : State), s.emn.inbox = x :: r ∧ x.type = 4 ∧ s.emn.head = true ∧ s.alive = true ∧ x.src = p ∧ p < 16 ∧ x.payload.headD 0 = 0x12 ∧ (s.cfg.chain.active && s.cfg.chain.mask.contains p) = true) ∧
    (∃ (x : EmnIn) (r : List EmnIn) (p : Nat) (s : State), s.emn.inbox = x :: r ∧ x.type = 4 ∧ s.emn.head = true ∧ s.alive = true ∧ x.src = p ∧ p < 16 ∧ x.payload.headD 0 = 19 ∧ (s.cfg.chain.active && s.cfg.chain.mask.contains p) = true) ∧
    (∃ (x : EmnIn) (r : List EmnIn) (p : Nat) (s : State), s.emn.inbox = x :: r ∧ x.type = 4 ∧ s.emn.head = true ∧ s.alive = true ∧ x.src = p ∧ p < 16 ∧ x.payload.headD 0 = 19 ∧ (s.cfg.chain.active && s.cfg.chain.mask.contains p) = false) ∧
    (∃ (x : EmnIn) (r : List EmnIn) (p : Nat) (s : State), s.emn.inbox = x :: r ∧ x.type = 4 ∧ s.emn.head = true ∧ s.alive = true ∧ x.src = p ∧ p < 16 ∧ x.payload.headD 0 = 20 ∧ (s.cfg.chain.active && s.cfg.chain.mask.contains p) = true) ∧
    (∃ (x : EmnIn) (r : List EmnIn) (p : Nat) (s : State), s.emn.inbox = x :: r ∧ x.type = 4 ∧ s.emn.head = true ∧ s.alive = true ∧ x.src = p ∧ p < 16 ∧ x.payload.headD 0 = 20 ∧ (s.cfg.chain.active && s.cfg.chain.mask.contains p) = false) ∧
    (∃ (x : EmnIn) (r : List EmnIn) (s : State), s.emn.inbox = x :: r ∧ x.type = 4 ∧ s.emn.head = true ∧ (s.alive = false ∨ 16 ≤ x.src) ∧ x.payload.headD 0 ≠ 1 ∧ x.payload.headD 0 ≠ 2) ∧
    (∃ (w : Nat) (x : EmnIn) (r : List EmnIn) (m l : Nat) (s : State), s.emn.inbox = x :: r ∧ x.type = 1 ∧ x.payload.headD 0 = 5 ∧ (s.emn.head = true ∧ s.alive = true ∧ (s.get (F.CFG_CHAIN_POS_RESULT x.src) = 1 ∨ s.get (F.CFG_CHAIN_POS_RESULT x.src) = 2 ∨ s.get (F.CFG_CHAIN_POS_RESULT x.src) = 3) ∧ 16 ≤ fieldBE x.payload 8 2 ∧ fieldBE x.payload 8 2 ≤ 8192) ∧ ((s.directory (if s.get (F.CFG_CHAIN_POS_RESULT x.src) = 1 then s.chainSlot else 0)).bind fun d => dirMember d x.src) = some (m, l)) ∧
    (∃ (w : Nat) (x : EmnIn) (r : List EmnIn) (s : State), s.emn.inbox = x :: r ∧ x.type = 1 ∧ x.payload.headD 0 = 5 ∧ (¬ (s.emn.head = true ∧ s.alive = true ∧ (s.get (F.CFG_CHAIN_POS_RESULT x.src) = 1 ∨ s.get (F.CFG_CHAIN_POS_RESULT x.src) = 2 ∨ s.get (F.CFG_CHAIN_POS_RESULT x.src) = 3) ∧ 16 ≤ fieldBE x.payload 8 2 ∧ fieldBE x.payload 8 2 ≤ 8192) ∨ ((s.directory (if s.get (F.CFG_CHAIN_POS_RESULT x.src) = 1 then s.chainSlot else 0)).bind fun d => dirMember d x.src) = none)) ∧
    (∃ (w : Nat) (x : EmnIn) (r : List EmnIn) (s : State), s.emn.inbox = x :: r ∧ x.type = 1 ∧ x.payload.headD 0 = 6) ∧
    (∃ (w op : Nat) (i : Instr) (s : State), (op, i) ∈ ([(5, .cfgRepairReq w), (6, .cfgRepairData w)] : List (Nat × Instr)) ∧ (match s.emn.inbox with | [] => true | x :: _ => x.type != 1 || x.payload.headD 0 != op) = true) :=
  ⟨⟨1, 255, [2], .data 1 255 0 [2], wHead.emnData 1 255 [2], wHead, by decide +kernel⟩,
   ⟨400, (let s := wHead; s.setChain { s.cfg.chain with active := true, next := none }), by decide +kernel⟩,
   ⟨400, 0, (let s := wHead; s.setChain { s.cfg.chain with active := true, slot := 1, off := 0x200, len := 20, next := some 0, mask := [3] }), by decide +kernel⟩,
   ⟨400, 20, (let s := wHead; s.setChain { s.cfg.chain with active := true, slot := 1, off := 0x200, len := 20, next := some 20, mask := [3] }), by decide +kernel⟩,
   ⟨400, (let s := wHead; s.setChain { s.cfg.chain with slot := 1, off := 0x200, len := 20, passed := [3, 5] }), by decide +kernel⟩,
   ⟨400, 3, [5], (0x200, 500), (let s := (let s := wHead; { s with flash := { s.flash with cf := s.flash.cf.map fun (e : Nat × Nat) => (e.1 - 0xE00000, e.2) } }); s.setChain { s.cfg.chain with retry := [3, 5] }), by decide +kernel⟩,
   ⟨400, 3, [5], (let s := wHead; s.setChain { s.cfg.chain with retry := [3, 5] }), by decide +kernel⟩,
   ⟨400, (let s := wHead; s.setChain { s.cfg.chain with ready := [] }), by decide +kernel⟩,
   ⟨400, 3, false, [(4, true)], [], (0x200, 500), [3], (let s := wHead; s.setChain { s.cfg.chain with ready := [(4, true), (3, false)] }), by decide +kernel⟩,
   ⟨400, 3, true, [], [], (0x200, 500), (let s := (let s := wHead; { s with flash := { s.flash with cf := s.flash.cf.map fun (e : Nat × Nat) => (e.1 - 0xE00000, e.2) } }); s.setChain { s.cfg.chain with ready := [(3, true)] }), by decide +kernel⟩,
   ⟨400, 5, false, [], [], (let s := wHead; s.setChain { s.cfg.chain with ready := [(5, false)] }), by decide +kernel⟩,
   ⟨4000000, (let s := (wHead.setEmnPort 1 { window := [(0, .data 1 0xFF 0 [2])] }); s.setChain { s.cfg.chain with active := true, mask := [3, 5] }), by decide +kernel⟩,
   ⟨3999999, (let s := (wHead.setEmnPort 1 { window := [(0, .data 1 0xFF 0 [2])] }); s.setChain { s.cfg.chain with active := true, mask := [3, 5] }), by decide +kernel⟩,
   ⟨3, 4000000, 0, (let s := wHead; s.setChain { s.cfg.chain with active := true, mask := [3, 5], ended := some 0 }), by decide +kernel⟩,
   ⟨3, 3999999, (let s := wHead; s.setChain { s.cfg.chain with active := true, mask := [3, 5], ended := some 0 }), by decide +kernel⟩,
   ⟨wHead, by decide +kernel⟩,
   ⟨⟨1, 4, 5, [1, 5]⟩, [], let s := wHead; { s with emn := { s.emn with inbox := [⟨1, 4, 5, [1, 5]⟩] } }, by decide +kernel⟩,
   ⟨⟨1, 4, 5, [0x10, 1]⟩, [], 5, let s := wHead; { s with emn := { s.emn with inbox := [⟨1, 4, 5, [0x10, 1]⟩] } }, by decide +kernel⟩,
   ⟨⟨1, 4, 5, [0x11, 1]⟩, [], 5, let s := wHead; { s with emn := { s.emn with inbox := [⟨1, 4, 5, [0x11, 1]⟩] } }, by decide +kernel⟩,
   ⟨⟨1, 4, 5, [0x11, 1]⟩, [], 5, let s := (let s := wHead; s.setChain { s.cfg.chain with active := true, mask := [5] }); { s with emn := { s.emn with inbox := [⟨1, 4, 5, [0x11, 1]⟩] } }, by decide +kernel⟩,
   ⟨⟨1, 4, 5, [0x12, 1]⟩, [], 5, let s := (let s := wHead; s.setChain { s.cfg.chain with active := true, mask := [5, 6] }); { s with emn := { s.emn with inbox := [⟨1, 4, 5, [0x12, 1]⟩] } }, by decide +kernel⟩,
   ⟨⟨1, 4, 5, [19, 1]⟩, [], 5, let s := (let s := wHead; s.setChain { s.cfg.chain with active := true, second := true, mask := [5] }); { s with emn := { s.emn with inbox := [⟨1, 4, 5, [19, 1]⟩] } }, by decide +kernel⟩,
   ⟨⟨1, 4, 5, [19, 0]⟩, [], 5, let s := wHead; { s with emn := { s.emn with inbox := [⟨1, 4, 5, [19, 0]⟩] } }, by decide +kernel⟩,
   ⟨⟨1, 4, 5, [20, 1]⟩, [], 5, let s := (let s := wHead; s.setChain { s.cfg.chain with active := true, second := true, mask := [5] }); { s with emn := { s.emn with inbox := [⟨1, 4, 5, [20, 1]⟩] } }, by decide +kernel⟩,
   ⟨⟨1, 4, 5, [20, 0]⟩, [], 5, let s := wHead; { s with emn := { s.emn with inbox := [⟨1, 4, 5, [20, 0]⟩] } }, by decide +kernel⟩,
   ⟨⟨1, 4, 5, [0x10, 5]⟩, [], let s := wHead.set F.SYS_MODE_MODE M.load; { s with emn := { s.emn with inbox := [⟨1, 4, 5, [0x10, 5]⟩] } }, by decide +kernel⟩,
   ⟨400, ⟨1, 1, 3, [5, 0, 0, 0, 0, 0, 0, 0, 0, 16]⟩, [], 0x200, 500, let s := wHead.set (F.CFG_CHAIN_POS_RESULT 3) 1; { s with emn := { s.emn with inbox := [⟨1, 1, 3, [5, 0, 0, 0, 0, 0, 0, 0, 0, 16]⟩] } }, by decide +kernel⟩,
   ⟨400, ⟨1, 1, 3, [5, 0, 0, 0, 0, 0, 0, 0, 0, 15]⟩, [], let s := wHead.set (F.CFG_CHAIN_POS_RESULT 3) 1; { s with emn := { s.emn with inbox := [⟨1, 1, 3, [5, 0, 0, 0, 0, 0, 0, 0, 0, 15]⟩] } }, by decide +kernel⟩,
   ⟨400, ⟨0, 1, 0, [6, 0, 0, 0, 0, 0, 0, 0, 1, 2, 3]⟩, [], let s := wUp (wMode M.run); { s with emn := { s.emn with inbox := [⟨0, 1, 0, [6, 0, 0, 0, 0, 0, 0, 0, 1, 2, 3]⟩] }, cfg := { s.cfg with asked := some (5, 0) } }, by decide +kernel⟩,
   ⟨400, 5, .cfgRepairReq 400, wHead, by decide +kernel⟩⟩

/-- The hypotheses of FlashCommands are met. -/
theorem wit_FlashCommands :
    (∃ (op a n : Nat) (x : Sector) (s : State), op ∈ ([1, 2, 3, 4, 5, 8, 9] : List Nat) ∧ (n = (if op < 8 then (a - 0x30000000) / 0x10000 else (a - 0x33000000) / 0x1000) ∧ x = s.sector ((a - 0x30000000) / 0x10000))) ∧
    (∃ (i : Nat) (s : State), i < 4096) ∧
    (∃ (ini : Initiator) (fwp : Bool) (jf : Fin 4) (op : Nat) (i : Instr) (u s : State), (op, i) ∈ ([(1, .pageProg ini fwp), (2, .sectorErase ini fwp jf), (3, .seal ini), (4, .checkSeal ini), (5, .marginRead ini), (8, .pfProg ini fwp), (9, .pfErase ini fwp)] : List (Nat × Instr)) ∧ (u = (if op = 3 ∨ op = 4 ∨ op = 5 then s else s.withFwp fwp)) ∧ s.sends ini true R.FLASH_CMD = true ∧ u.flashCheck op (s.rdN R.FLASH_ADDR) ≠ 0) ∧
    (∃ (ini : Initiator) (fwp : Bool) (jf : Fin 4) (op : Nat) (i : Instr) (u s : State), (op, i) ∈ ([(1, .pageProg ini fwp), (2, .sectorErase ini fwp jf), (3, .seal ini), (4, .checkSeal ini), (5, .marginRead ini), (8, .pfProg ini fwp), (9, .pfErase ini fwp)] : List (Nat × Instr)) ∧ (u = (if op = 3 ∨ op = 4 ∨ op = 5 then s else s.withFwp fwp)) ∧ s.sends ini true R.FLASH_CMD = true ∧ u.flashCheck op (s.rdN R.FLASH_ADDR) = 0 ∧ s.journalHalf.free < 8) ∧
    (∃ (ini : Initiator) (fwp : Bool) (s : State), s.sends ini true R.FLASH_CMD = true ∧ (s.withFwp fwp).flashCheck 1 (s.rdN R.FLASH_ADDR) = 0 ∧ 8 ≤ s.journalHalf.free) ∧
    (∃ (ini : Initiator) (op : Nat) (i : Instr) (s : State), (op, i) ∈ ([(3, .seal ini), (4, .checkSeal ini), (5, .marginRead ini)] : List (Nat × Instr)) ∧ s.sends ini true R.FLASH_CMD = true ∧ s.flashCheck op (s.rdN R.FLASH_ADDR) = 0 ∧ 8 ≤ s.journalHalf.free) ∧
    (∃ (ini : Initiator) (fwp : Bool) (jf : Fin 4) (n : Nat) (s : State), s.sends ini true R.FLASH_CMD = true ∧ (s.withFwp fwp).flashCheck 2 (s.rdN R.FLASH_ADDR) = 0 ∧ 8 ≤ s.journalHalf.free ∧ n = (s.rdN R.FLASH_ADDR - 0x30000000) / 0x10000 ∧ jf.val < 3) ∧
    (∃ (ini : Initiator) (fwp : Bool) (jf : Fin 4) (n : Nat) (s : State), s.sends ini true R.FLASH_CMD = true ∧ (s.withFwp fwp).flashCheck 2 (s.rdN R.FLASH_ADDR) = 0 ∧ 8 ≤ s.journalHalf.free ∧ n = (s.rdN R.FLASH_ADDR - 0x30000000) / 0x10000 ∧ jf.val = 3) ∧
    (∃ (ini : Initiator) (fwp : Bool) (op : Nat) (i : Instr) (s : State), (op, i) ∈ ([(8, .pfProg ini fwp), (9, .pfErase ini fwp)] : List (Nat × Instr)) ∧ s.sends ini true R.FLASH_CMD = true ∧ (s.withFwp fwp).flashCheck op (s.rdN R.FLASH_ADDR) = 0 ∧ 8 ≤ s.journalHalf.free) ∧
    (∃ (ini : Initiator) (i : Instr) (s : State), i ∈ ([.suspend ini, .resume ini] : List Instr) ∧ s.sends ini true R.FLASH_CMD = true ∧ s.alive = false) ∧
    (∃ (ini : Initiator) (i : Instr) (s : State), i ∈ ([.suspend ini, .resume ini] : List Instr) ∧ s.sends ini true R.FLASH_CMD = true ∧ s.alive = true ∧ (if i = .suspend ini then s.flash.ops = [] else (s.flash.ops = [] ∨ ∃ k : Nat, k < s.flash.ops.length ∧ s.flash.ops.length = 1 ∧ (s.flash.ops.all fun o => !o.susp) = true))) ∧
    (∃ (ini : Initiator) (o : FlashOp) (r : List FlashOp) (s : State), s.sends ini true R.FLASH_CMD = true ∧ s.alive = true ∧ s.flash.ops = o :: r) ∧
    (∃ (ini : Initiator) (o : FlashOp) (r : List FlashOp) (s : State), s.sends ini true R.FLASH_CMD = true ∧ s.alive = true ∧ s.flash.ops = o :: r ∧ (o.susp = true ∨ r ≠ [])) ∧
    (∃ (w : Nat) (o : FlashOp) (r : List FlashOp) (s : State), s.flash.ops = o :: r ∧ o.susp = true ∧ o.byCmd = false ∧ s.flash.lastRead + 20000 ≤ w) ∧
    (∃ (w : Nat) (s : State), (∀ k ∈ (s.flash.ops.take 1 : List FlashOp), k.susp = false ∨ k.byCmd = true ∨ w < s.flash.lastRead + 20000)) ∧
    (∃ (cf : Bool) (w : Nat) (pass : Bool) (jf : Fin 4) (corr : Fin 4096) (mb : Fin 4) (unc : Fin 4096) (s : State), (if cf = true then (∀ k ∈ (s.flash.ops.take 1 : List FlashOp), k.susp = true) else s.flash.pfOp = none)) ∧
    (∃ (w : Nat) (pass : Bool) (jf : Fin 4) (corr : Fin 4096) (mb : Fin 4) (unc : Fin 4096) (o : FlashOp) (r : List FlashOp) (n : Nat) (s : State), s.flash.ops = o :: r ∧ (o.op = 1 ∧ o.susp = false ∧ 0x30000000 ≤ o.addr ∧ n = (o.addr - 0x30000000) / 0x10000) ∧ pass = true) ∧
    (∃ (w : Nat) (pass : Bool) (jf : Fin 4) (corr : Fin 4096) (mb : Fin 4) (unc : Fin 4096) (o : FlashOp) (r : List FlashOp) (n : Nat) (s : State), s.flash.ops = o :: r ∧ (o.op = 1 ∧ o.susp = false ∧ 0x30000000 ≤ o.addr ∧ n = (o.addr - 0x30000000) / 0x10000) ∧ pass = false ∧ jf.val < 3) ∧
    (∃ (w : Nat) (pass : Bool) (jf : Fin 4) (corr : Fin 4096) (mb : Fin 4) (unc : Fin 4096) (o : FlashOp) (r : List FlashOp) (n : Nat) (s : State), s.flash.ops = o :: r ∧ (o.op = 1 ∧ o.susp = false ∧ 0x30000000 ≤ o.addr ∧ n = (o.addr - 0x30000000) / 0x10000) ∧ pass = false ∧ jf.val = 3) ∧
    (∃ (w : Nat) (pass : Bool) (jf : Fin 4) (corr : Fin 4096) (mb : Fin 4) (unc : Fin 4096) (o : FlashOp) (r : List FlashOp) (n : Nat) (s : State), s.flash.ops = o :: r ∧ (o.op = 2 ∧ o.susp = false ∧ 0x30000000 ≤ o.addr ∧ n = (o.addr - 0x30000000) / 0x10000) ∧ o.addr % 0x10000 = 0 ∧ pass = true ∧ jf.val < 3) ∧
    (∃ (w : Nat) (pass : Bool) (jf : Fin 4) (corr : Fin 4096) (mb : Fin 4) (unc : Fin 4096) (o : FlashOp) (r : List FlashOp) (n : Nat) (s : State), s.flash.ops = o :: r ∧ (o.op = 2 ∧ o.susp = false ∧ 0x30000000 ≤ o.addr ∧ n = (o.addr - 0x30000000) / 0x10000) ∧ o.addr % 0x10000 = 0 ∧ pass = true ∧ jf.val = 3) ∧
    (∃ (w : Nat) (pass : Bool) (jf : Fin 4) (corr : Fin 4096) (mb : Fin 4) (unc : Fin 4096) (o : FlashOp) (r : List FlashOp) (n : Nat) (s : State), s.flash.ops = o :: r ∧ (o.op = 2 ∧ o.susp = false ∧ 0x30000000 ≤ o.addr ∧ n = (o.addr - 0x30000000) / 0x10000) ∧ pass = false ∧ jf.val < 3) ∧
    (∃ (w : Nat) (pass : Bool) (jf : Fin 4) (corr : Fin 4096) (mb : Fin 4) (unc : Fin 4096) (o : FlashOp) (r : List FlashOp) (n : Nat) (s : State), s.flash.ops = o :: r ∧ (o.op = 2 ∧ o.susp = false ∧ 0x30000000 ≤ o.addr ∧ n = (o.addr - 0x30000000) / 0x10000) ∧ pass = false ∧ jf.val = 3) ∧
    (∃ (w : Nat) (pass : Bool) (jf : Fin 4) (corr : Fin 4096) (mb : Fin 4) (unc : Fin 4096) (o : FlashOp) (r : List FlashOp) (n : Nat) (s : State), s.flash.ops = o :: r ∧ (o.op = 3 ∧ o.susp = false ∧ 0x30000000 ≤ o.addr ∧ n = (o.addr - 0x30000000) / 0x10000) ∧ jf.val < 3) ∧
    (∃ (w : Nat) (pass : Bool) (jf : Fin 4) (corr : Fin 4096) (mb : Fin 4) (unc : Fin 4096) (o : FlashOp) (r : List FlashOp) (n : Nat) (s : State), s.flash.ops = o :: r ∧ (o.op = 3 ∧ o.susp = false ∧ 0x30000000 ≤ o.addr ∧ n = (o.addr - 0x30000000) / 0x10000) ∧ jf.val = 3) ∧
    (∃ (w : Nat) (pass : Bool) (jf : Fin 4) (corr : Fin 4096) (mb : Fin 4) (unc : Fin 4096) (o : FlashOp) (r : List FlashOp) (n : Nat) (s : State), s.flash.ops = o :: r ∧ (o.op = 4 ∧ o.susp = false ∧ 0x30000000 ≤ o.addr ∧ n = (o.addr - 0x30000000) / 0x10000) ∧ (s.sector n).crc.isSome = true) ∧
    (∃ (w : Nat) (pass : Bool) (jf : Fin 4) (corr : Fin 4096) (mb : Fin 4) (unc : Fin 4096) (o : FlashOp) (r : List FlashOp) (n : Nat) (s : State), s.flash.ops = o :: r ∧ (o.op = 4 ∧ o.susp = false ∧ 0x30000000 ≤ o.addr ∧ n = (o.addr - 0x30000000) / 0x10000) ∧ (s.sector n).crc = none) ∧
    (∃ (w : Nat) (pass : Bool) (jf : Fin 4) (corr : Fin 4096) (mb : Fin 4) (unc : Fin 4096) (o : FlashOp) (r : List FlashOp) (n : Nat) (s : State), s.flash.ops = o :: r ∧ (o.op = 5 ∧ o.susp = false ∧ 0x30000000 ≤ o.addr ∧ n = (o.addr - 0x30000000) / 0x10000)) ∧
    (∃ (w : Nat) (pass : Bool) (jf : Fin 4) (corr : Fin 4096) (mb : Fin 4) (unc : Fin 4096) (o : FlashOp) (s : State), s.flash.pfOp = some o ∧ o.op = 8) ∧
    (∃ (w : Nat) (pass : Bool) (jf : Fin 4) (corr : Fin 4096) (mb : Fin 4) (unc : Fin 4096) (o : FlashOp) (s : State), s.flash.pfOp = some o ∧ o.op = 9) ∧
    (∃ (k : Nat) (s : State), k < 192) ∧
    (∃ (w : Nat) (jf : Fin 4) (s : State), s.flash.after = none) ∧
    (∃ (w : Nat) (jf : Fin 4) (o : FlashOp) (s : State), s.flash.after = some o ∧ o.op ∈ ([1, 3, 4, 5] : List Nat)) ∧
    (∃ (w : Nat) (jf : Fin 4) (o : FlashOp) (s : State), s.flash.after = some o ∧ o.op ∈ ([8, 9] : List Nat)) ∧
    (∃ (w : Nat) (jf : Fin 4) (o : FlashOp) (s : State), s.flash.after = some o ∧ o.op = 2 ∧ jf.val < 3) ∧
    (∃ (w : Nat) (jf : Fin 4) (o : FlashOp) (s : State), s.flash.after = some o ∧ o.op = 2 ∧ jf.val = 3) ∧
    (∃ (w : Nat) (jf : Fin 4) (o : FlashOp) (s : State), s.flash.after = some o ∧ o.op = 15 ∧ jf.val < 3) ∧
    (∃ (w : Nat) (jf : Fin 4) (o : FlashOp) (s : State), s.flash.after = some o ∧ o.op = 15 ∧ jf.val = 3) ∧
    (∃ (ini : Initiator) (fwp : Bool) (k o c : Nat) (s : State), s.sends ini true R.OTP_CTL = true ∧ (k = s.get F.OTP_ADDR_WORD ∧ o = 8 * k) ∧ (c = (if s.alive = false then 1 else if (if o < 0x100 ∨ 0x1000 ≤ o ∧ o < 0x1100 ∨ 0x1180 ≤ o ∧ o < 0x1240 then false else if 0x100 ≤ o ∧ o < 0x120 ∨ 0x200 ≤ o ∧ o < 0x408 ∨ 0x500 ≤ o ∧ o < 0x548 ∨ 0x800 ≤ o ∧ o < 0x1000 ∨ 0x1100 ≤ o ∧ o < 0x1180 then decide (s.get F.SEC_STAT_LIFECYCLE ≠ 0) else if 0x580 ≤ o ∧ o < 0x5A0 ∨ 0x2000 ≤ o ∧ o < 0x4000 then decide (s.get F.SEC_STAT_LIFECYCLE ≠ 0 ∧ s.mode ≠ M.provision) else true) = true then 1 else if s.flash.otpOp.isSome = true then 3 else if fwp = false then 4 else if (s.otpWord? k).isSome = true then 9 else if o < 0x100 ∨ 0x1000 ≤ o ∧ o < 0x1100 ∨ 0x1180 ≤ o ∧ o < 0x1240 then 0xC else 0)) ∧ c = 0) ∧
    (∃ (ini : Initiator) (fwp : Bool) (k o c : Nat) (s : State), s.sends ini true R.OTP_CTL = true ∧ (k = s.get F.OTP_ADDR_WORD ∧ o = 8 * k) ∧ (c = (if s.alive = false then 1 else if (if o < 0x100 ∨ 0x1000 ≤ o ∧ o < 0x1100 ∨ 0x1180 ≤ o ∧ o < 0x1240 then false else if 0x100 ≤ o ∧ o < 0x120 ∨ 0x200 ≤ o ∧ o < 0x408 ∨ 0x500 ≤ o ∧ o < 0x548 ∨ 0x800 ≤ o ∧ o < 0x1000 ∨ 0x1100 ≤ o ∧ o < 0x1180 then decide (s.get F.SEC_STAT_LIFECYCLE ≠ 0) else if 0x580 ≤ o ∧ o < 0x5A0 ∨ 0x2000 ≤ o ∧ o < 0x4000 then decide (s.get F.SEC_STAT_LIFECYCLE ≠ 0 ∧ s.mode ≠ M.provision) else true) = true then 1 else if s.flash.otpOp.isSome = true then 3 else if fwp = false then 4 else if (s.otpWord? k).isSome = true then 9 else if o < 0x100 ∨ 0x1000 ≤ o ∧ o < 0x1100 ∨ 0x1180 ≤ o ∧ o < 0x1240 then 0xC else 0)) ∧ c ≠ 0) ∧
    (∃ (pass : Bool) (s : State), s.flash.otpOp = none) ∧
    (∃ (pass : Bool) (k : Nat) (v : BitVec 64) (s : State), s.flash.otpOp = some (k, v)) :=
  ⟨⟨1, 0x30E00000, 224, { state := 2 }, (wMode M.run).setSector 224 { state := 2 }, by decide, by decide +kernel⟩,
   ⟨6, ((wMode M.run).wr (R.FLASH_BUF 1) 0x12345678#32).wr (R.FLASH_PF_DATA 1) 0x23456789#32, by decide⟩,
   ⟨.tap, false, 0, 1, .pageProg .tap false, ((wMode M.run).wr R.FLASH_ADDR 0x30000000#32).withFwp false, ((wMode M.run).wr R.FLASH_ADDR 0x30000000#32).withFwp true, by decide, by decide +kernel⟩,
   ⟨.tap, true, 0, 9, .pfErase .tap true, (let s := (wMode M.run).wr R.FLASH_ADDR 0x33001000#32; s.setJournalHalf { s.journalHalf with recs := List.replicate 1020 none }).withFwp true, (let s := (wMode M.run).wr R.FLASH_ADDR 0x33001000#32; s.setJournalHalf { s.journalHalf with recs := List.replicate 1020 none }), by decide, by decide +kernel⟩,
   ⟨.tap, true, ((wMode M.run).wr R.FLASH_ADDR 0x30E00000#32).setSector 224 { state := 2 }, by decide +kernel⟩,
   ⟨.tap, 3, .seal .tap, ((wMode M.run).wr R.FLASH_ADDR 0x30E00000#32).setSector 224 { state := 3, pages := 3, erases := 9 }, by decide, by decide +kernel⟩,
   ⟨.tap, true, 2, 224, ((wMode M.run).wr R.FLASH_ADDR 0x30E00000#32).setSector 224 { pages := 3, erases := 9 }, by decide +kernel⟩,
   ⟨.tap, true, 3, 224, ((wMode M.run).wr R.FLASH_ADDR 0x30E00000#32).setSector 224 { pages := 3, erases := 9 }, by decide +kernel⟩,
   ⟨.tap, true, 8, .pfProg .tap true, (wMode M.run).wr R.FLASH_ADDR 0x33000010#32, by decide, by decide +kernel⟩,
   ⟨.tap, .suspend .tap, wMode M.verify, by decide, by decide +kernel⟩,
   ⟨.tap, .suspend .tap, wMode M.run, by decide, by decide +kernel⟩,
   ⟨.tap, { op := 2, addr := 0x30E00000 }, [], (wMode M.run).setOps [{ op := 2, addr := 0x30E00000 }], by decide +kernel⟩,
   ⟨.tap, { op := 2, addr := 0x30E00000, susp := true, byCmd := true }, [], (wMode M.run).setOps [{ op := 2, addr := 0x30E00000, susp := true, byCmd := true }], by decide +kernel⟩,
   ⟨20000, { op := 2, addr := 0x30E00000, susp := true }, [], (wMode M.run).setOps [{ op := 2, addr := 0x30E00000, susp := true }], by decide +kernel⟩,
   ⟨19999, (wMode M.run).setOps [{ op := 2, addr := 0x30E00000, susp := true }], by decide +kernel⟩,
   ⟨true, 400, true, 0, 0, 0, 0, (wMode M.run).setOps [{ op := 2, addr := 0x30E00000, susp := true }], by decide +kernel⟩,
   ⟨400, true, 0, 0, 0, 0, { op := 1, addr := 0x30E00000, buf := [(0x10041000, 7#32)] }, [], 224, ((wMode M.run).setSector 224 { state := 2 }).setOps [{ op := 1, addr := 0x30E00000, buf := [(0x10041000, 7#32)] }], by decide +kernel⟩,
   ⟨400, false, 2, 0, 0, 0, { op := 1, addr := 0x30E00000 }, [], 224, ((wMode M.run).setSector 224 { state := 2, erases := 4 }).setOps [{ op := 1, addr := 0x30E00000 }], by decide +kernel⟩,
   ⟨400, false, 3, 0, 0, 0, { op := 1, addr := 0x30E00000 }, [], 224, ((wMode M.run).setSector 224 { state := 2, erases := 4 }).setOps [{ op := 1, addr := 0x30E00000 }], by decide +kernel⟩,
   ⟨400, true, 1, 0, 0, 0, { op := 2, addr := 0x30E00000 }, [], 224, let s := ((wMode M.run).setSector 224 { state := 1, pages := 4, erases := 7 }).setOps [{ op := 2, addr := 0x30E00000 }]; { s with flash := { s.flash with cf := [(0xE00000, 5), (0xE10000, 6)], damaged := [3583, 3584, 3599, 3600] } }, by decide +kernel⟩,
   ⟨400, true, 3, 0, 0, 0, { op := 2, addr := 0x30E00000 }, [], 224, let s := ((wMode M.run).setSector 224 { state := 1, pages := 4, erases := 7 }).setOps [{ op := 2, addr := 0x30E00000 }]; { s with flash := { s.flash with cf := [(0xE00000, 5), (0xE10000, 6)], damaged := [3583, 3584, 3599, 3600] } }, by decide +kernel⟩,
   ⟨400, false, 2, 0, 0, 0, { op := 2, addr := 0x30E00000 }, [], 224, ((wMode M.run).setSector 224 { state := 1, erases := 4 }).setOps [{ op := 2, addr := 0x30E00000 }], by decide +kernel⟩,
   ⟨400, false, 3, 0, 0, 0, { op := 2, addr := 0x30E00000 }, [], 224, ((wMode M.run).setSector 224 { state := 1, erases := 4 }).setOps [{ op := 2, addr := 0x30E00000 }], by decide +kernel⟩,
   ⟨400, true, 1, 0, 0, 0, { op := 3, addr := 0x30E00000 }, [], 224, ((wMode M.run).setSector 224 { state := 3, pages := 4, erases := 7 }).setOps [{ op := 3, addr := 0x30E00000 }], by decide +kernel⟩,
   ⟨400, true, 3, 0, 0, 0, { op := 3, addr := 0x30E00000 }, [], 224, ((wMode M.run).setSector 224 { state := 3, pages := 4, erases := 7 }).setOps [{ op := 3, addr := 0x30E00000 }], by decide +kernel⟩,
   ⟨400, true, 0, 0, 0, 0, { op := 4, addr := 0x30E00000 }, [], 224, ((wMode M.run).setSector 224 { state := 0, pages := 4, crc := some 7 }).setOps [{ op := 4, addr := 0x30E00000 }], by decide +kernel⟩,
   ⟨400, true, 0, 0, 0, 0, { op := 4, addr := 0x30E00000 }, [], 224, ((wMode M.run).setSector 224 { state := 0, pages := 4 }).setOps [{ op := 4, addr := 0x30E00000 }], by decide +kernel⟩,
   ⟨400, true, 0, 77, 2, 5, { op := 5, addr := 0x30E00000 }, [], 224, (wMode M.run).setOps [{ op := 5, addr := 0x30E00000 }], by decide +kernel⟩,
   ⟨400, true, 0, 0, 0, 0, { op := 8, addr := 0x33000010, buf := [(0x10040010, 7#32)] }, let s := wMode M.run; { s with flash := { s.flash with pfOp := some { op := 8, addr := 0x33000010, buf := [(0x10040010, 7#32)] }, pf := [(2, some 7#128)] } }, by decide +kernel⟩,
   ⟨400, true, 0, 0, 0, 0, { op := 9, addr := 0x33001000 }, let s := wMode M.run; { s with flash := { s.flash with pfOp := some { op := 9, addr := 0x33001000 }, pf := [(2, some 7#128), (257, some 8#128)], pfBad := [2, 257] } }, by decide +kernel⟩,
   ⟨191, let s := (wMode M.run).setSector 764 { erases := 9, state := 3 }; { s with flash := { s.flash with select := some [2, 0] } }, by decide⟩,
   ⟨400, 0, wMode M.run, by decide +kernel⟩,
   ⟨400, 0, { op := 3, addr := 0x30E00000 }, let s := ((wMode M.run).setSector 224 { state := 3, pages := 3, crc := some 7 }).set F.CFG_UPD_CTL_PROMOTE 1; { s with flash := { s.flash with after := some { op := 3, addr := 0x30E00000 } } }, by decide +kernel⟩,
   ⟨400, 0, { op := 9, addr := 0x33000000 }, let s := ((wMode M.run).setSector 224 { state := 3, pages := 3, crc := some 7 }).set F.CFG_UPD_CTL_PROMOTE 1; { s with flash := { s.flash with after := some { op := 9, addr := 0x33000000 } } }, by decide +kernel⟩,
   ⟨400, 2, { op := 2, addr := 0x30E00000 }, let s := ((wMode M.run).setSector 224 { state := 3, pages := 3, crc := some 7 }).set F.CFG_UPD_CTL_PROMOTE 1; { s with flash := { s.flash with after := some { op := 2, addr := 0x30E00000 } } }, by decide +kernel⟩,
   ⟨400, 3, { op := 2, addr := 0x30E00000 }, let s := ((wMode M.run).setSector 224 { state := 3, pages := 3, crc := some 7 }).set F.CFG_UPD_CTL_PROMOTE 1; { s with flash := { s.flash with after := some { op := 2, addr := 0x30E00000 } } }, by decide +kernel⟩,
   ⟨400, 1, { op := 15, addr := 0 }, let s := ((wMode M.run).setSector 224 { state := 3, pages := 3, crc := some 7 }).set F.CFG_UPD_CTL_PROMOTE 1; { s with flash := { s.flash with after := some { op := 15, addr := 0 } } }, by decide +kernel⟩,
   ⟨400, 3, { op := 15, addr := 0 }, let s := ((wMode M.run).setSector 224 { state := 3, pages := 3, crc := some 7 }).set F.CFG_UPD_CTL_PROMOTE 1; { s with flash := { s.flash with after := some { op := 15, addr := 0 } } }, by decide +kernel⟩,
   ⟨.tap, true, 0x400, 0x2000, 0, ((wMode M.provision).wr R.OTP_ADDR 0x400#32).wr R.OTP_DATA_LO 0x77#32, by decide +kernel⟩,
   ⟨.tap, true, 0, 0, 9, (wMode M.provision).wr R.OTP_ADDR 0#32, by decide +kernel⟩,
   ⟨true, wMode M.run, by decide +kernel⟩,
   ⟨false, 0x400, 0x77#64, let s := (wMode M.provision).set F.OTP_CTL_GO 1; { s with flash := { s.flash with otpOp := some (0x400, 0x77#64) } }, by decide +kernel⟩⟩

/-- The hypotheses of SupplyStops are met. -/
theorem wit_SupplyStops :
    (∃ (w : Nat) (s : State), s.supply.uvlo = false) ∧
    (∃ (w : Nat) (s : State), s.supply.overvolt = false) ∧
    (∃ (w : Nat) (s : State), s.supply.hot = false) ∧
    (∃ (w : Nat) (k : Nat) (i : Instr) (s : State), (k, i) ∈ ([(0, .uvloFall w), (1, .overvoltageStop w), (2, .thermalStop w)] : List (Nat × Instr)) ∧ (if k = 0 then s.supply.uvlo else if k = 1 then s.supply.overvolt else s.supply.hot) = true) ∧
    (∃ (rail : Fin 4) (oc : Bool) (w : Nat) (s : State), s.supply.rails = true ∧ s.supply.starting = false) ∧
    (∃ (rail : Fin 4) (oc : Bool) (w : Nat) (s : State), s.supply.rails = false) ∧
    (∃ (rail : Fin 4) (oc : Bool) (w : Nat) (s : State), s.supply.rails = true ∧ s.supply.starting = true) :=
  ⟨⟨5, wMode M.run, by decide +kernel⟩,
   ⟨5, wMode M.run, by decide +kernel⟩,
   ⟨5, wMode M.run, by decide +kernel⟩,
   ⟨5, 2, .thermalStop 5, wDown { hot := true }, by decide, by decide +kernel⟩,
   ⟨0, true, 5, wMode M.run, by decide +kernel⟩,
   ⟨0, true, 5, wDown { starting := true }, by decide +kernel⟩,
   ⟨0, true, 5, (wMode M.reset).setSupply { starting := true }, by decide +kernel⟩⟩

/-- The hypotheses of SupplyStarts are met. -/
theorem wit_SupplyStarts :
    (∃ (w : Nat) (s : State), s.supply.overvolt = true ∧ s.supply.rails = false ∧ s.supply.starting = false ∧ s.supply.uvlo = false ∧ s.supply.hot = false ∧ s.supply.fails < 3) ∧
    (∃ (w : Nat) (s : State), s.supply.overvolt = true ∧ (s.supply.rails = true ∨ s.supply.starting = true ∨ s.supply.uvlo = true ∨ s.supply.hot = true ∨ 3 ≤ s.supply.fails)) ∧
    (∃ (w : Nat) (s : State), s.supply.hot = true ∧ s.supply.rails = false ∧ s.supply.starting = false ∧ s.supply.uvlo = false ∧ s.supply.overvolt = false ∧ s.supply.fails < 3) ∧
    (∃ (w : Nat) (s : State), s.supply.hot = true ∧ (s.supply.rails = true ∨ s.supply.starting = true ∨ s.supply.uvlo = true ∨ s.supply.overvolt = true ∨ 3 ≤ s.supply.fails)) ∧
    (∃ (w : Nat) (s : State), s.supply.uvlo = true ∧ s.supply.rails = false ∧ s.supply.starting = false ∧ s.supply.overvolt = false ∧ s.supply.hot = false ∧ s.supply.fails < 3) ∧
    (∃ (w : Nat) (s : State), s.supply.uvlo = true ∧ (s.supply.rails = true ∨ s.supply.starting = true ∨ s.supply.overvolt = true ∨ s.supply.hot = true ∨ 3 ≤ s.supply.fails)) ∧
    (∃ (w k : Nat) (i : Instr) (s : State), (k, i) ∈ ([(0, .uvloRise w), (1, .overvoltageRelease w), (2, .thermalStopRelease w)] : List (Nat × Instr)) ∧ (if k = 0 then s.supply.uvlo else if k = 1 then s.supply.overvolt else s.supply.hot) = false) ∧
    (∃ (r w : Nat) (s : State), s.supply.retryAt = some r ∧ r ≤ w ∧ s.supply.rails = false ∧ s.supply.starting = false ∧ s.supply.uvlo = false ∧ s.supply.overvolt = false ∧ s.supply.hot = false ∧ s.supply.fails < 3) ∧
    (∃ (r w : Nat) (s : State), s.supply.retryAt = some r ∧ r ≤ w ∧ (s.supply.rails = true ∨ s.supply.starting = true ∨ s.supply.uvlo = true ∨ s.supply.overvolt = true ∨ s.supply.hot = true ∨ 3 ≤ s.supply.fails)) ∧
    (∃ (w : Nat) (s : State), (∀ r ∈ (s.supply.retryAt.toList : List Nat), w < r)) ∧
    (∃ (w : Nat) (bad : Bool) (s : State), s.supply.starting = true ∧ (bad = (decide (fieldLE (s.otpBytes 0x540 4) 0 4 ≠ (crc32c (s.otpBytes 0x500 64)).toNat) || (s.flash.otpBad ++ s.flash.otpUnc).any fun k => decide (0xA0 ≤ k ∧ k ≤ 0xA8)))) ∧
    (∃ (rail : Fin 4) (w : Nat) (s : State), s.supply.starting = true ∧ s.supply.since + 900000 ≤ max s.now w) ∧
    (∃ (w : Nat) (rail : Fin 4) (k : Nat) (i : Instr) (s : State), (k, i) ∈ ([(0, .railsGood w), (1, .railStartTimeout rail w)] : List (Nat × Instr)) ∧ (s.supply.starting = false ∨ k = 1 ∧ max s.now w < s.supply.since + 900000)) ∧
    (∃ (w : Nat) (s : State), s.supply.rails = true ∧ 400000000 ≤ s.supply.before + (max s.now w - s.supply.since)) ∧
    (∃ (w : Nat) (s : State), (s.supply.rails = false ∨ s.supply.before + (max s.now w - s.supply.since) < 400000000)) :=
  ⟨⟨5, wDown { overvolt := true }, by decide +kernel⟩,
   ⟨5, wDown { overvolt := true, fails := 3 }, by decide +kernel⟩,
   ⟨5, wDown { hot := true }, by decide +kernel⟩,
   ⟨5, wDown { hot := true, fails := 3 }, by decide +kernel⟩,
   ⟨5, wDown { uvlo := true }, by decide +kernel⟩,
   ⟨5, wDown { uvlo := true, hot := true }, by decide +kernel⟩,
   ⟨5, 2, .thermalStopRelease 5, wDown {}, by decide, by decide +kernel⟩,
   ⟨5, 5, wDown { retryAt := some 5 }, by decide +kernel⟩,
   ⟨5, 5, wDown { retryAt := some 5, hot := true }, by decide +kernel⟩,
   ⟨4, wDown { retryAt := some 5 }, by decide +kernel⟩,
   ⟨5, true, wDown { starting := true }, by decide +kernel, by decide +kernel⟩,
   ⟨3, 900005, wDown { starting := true, fails := 2, since := 5 }, by decide +kernel⟩,
   ⟨5, 0, 0, .railsGood 5, wDown {}, by decide, by decide +kernel⟩,
   ⟨300000000, (wMode M.run).setSupply { fails := 2, before := 100000000 }, by decide +kernel⟩,
   ⟨300000000, (wMode M.run).setSupply { fails := 2 }, by decide +kernel⟩⟩

/-- The hypotheses of HoldupAndPhases are met. -/
theorem wit_HoldupAndPhases :
    (∃ (s : State), s.bit F.PWR_HOLDUP_CFG_EN = true ∧ (40 ≤ s.get F.PWR_HOLDUP_CFG_THR ∧ s.get F.PWR_HOLDUP_CFG_THR ≤ 170) ∧ s.bit F.PWR_SUPPLY_STAT_HOLDUP = false) ∧
    (∃ (s : State), (s.bit F.PWR_HOLDUP_CFG_EN = false ∨ s.get F.PWR_HOLDUP_CFG_THR < 40 ∨ 170 < s.get F.PWR_HOLDUP_CFG_THR ∨ s.bit F.PWR_SUPPLY_STAT_HOLDUP = true)) ∧
    (∃ (s : State), s.bit F.PWR_SUPPLY_STAT_HOLDUP = true) ∧
    (∃ (s : State), s.bit F.PWR_SUPPLY_STAT_HOLDUP = false) ∧
    (∃ (p : Fin 6) (s : State), s.supply.rails = true ∧ (s.get F.PWR_PHASE_STAT_LOST).testBit p.val = false ∧ s.get F.PWR_PHASE_STAT_LOST = 0) ∧
    (∃ (p : Fin 6) (s : State), s.supply.rails = true ∧ (s.get F.PWR_PHASE_STAT_LOST).testBit p.val = false ∧ bitCount 6 (s.get F.PWR_PHASE_STAT_LOST) = 1) ∧
    (∃ (p : Fin 6) (s : State), s.supply.rails = true ∧ (s.get F.PWR_PHASE_STAT_LOST).testBit p.val = false ∧ 2 ≤ bitCount 6 (s.get F.PWR_PHASE_STAT_LOST)) ∧
    (∃ (p : Fin 6) (s : State), (s.supply.rails = false ∨ (s.get F.PWR_PHASE_STAT_LOST).testBit p.val = true)) ∧
    (∃ (ini : Initiator) (mask : Fin 64) (s : State), s.sends ini true R.PWR_PHASE_CTL = true) ∧
    (∃ (p : Fin 6) (s : State), s.supply.testing.testBit p.val = true ∧ (s.get F.PWR_PHASE_STAT_LOST).testBit p.val = true) ∧
    (∃ (p : Fin 6) (s : State), s.supply.testing.testBit p.val = true) ∧
    (∃ (p : Fin 6) (pass : Bool) (s : State), s.supply.testing.testBit p.val = false) :=
  ⟨⟨((wMode M.run).set F.PWR_HOLDUP_CFG_EN 1).set F.PWR_HOLDUP_CFG_THR 100, by decide +kernel⟩,
   ⟨wMode M.run, by decide +kernel⟩,
   ⟨(wMode M.hold).set F.PWR_SUPPLY_STAT_HOLDUP 1, by decide +kernel⟩,
   ⟨wMode M.run, by decide +kernel⟩,
   ⟨5, wMode M.run, by decide +kernel⟩,
   ⟨5, (wMode M.runSpared).set F.PWR_PHASE_STAT_LOST 1, by decide +kernel⟩,
   ⟨5, (wMode M.hold).set F.PWR_PHASE_STAT_LOST 3, by decide +kernel⟩,
   ⟨1, (wMode M.hold).set F.PWR_PHASE_STAT_LOST 3, by decide +kernel⟩,
   ⟨.tap, 63, (wMode M.run).set F.PWR_PHASE_STAT_LOST 1, by decide +kernel⟩,
   ⟨5, (((wMode M.runSpared).set F.PWR_PHASE_STAT_LOST 32).set F.SYS_SPARED_VPHASE 1).setSupply { testing := 32 }, by decide +kernel⟩,
   ⟨0, ((wMode M.run).set F.PWR_PHASE_STAT_LOST 1).setSupply { testing := 1 }, by decide +kernel⟩,
   ⟨0, true, wMode M.run, by decide +kernel⟩⟩

/-- The hypotheses of DomainRequests are met. -/
theorem wit_DomainRequests :
    (∃ (g i : Nat) (s : State), g < 4 ∧ i < 64) ∧
    (∃ (q k : Nat) (s : State), q < 4 ∧ k < 4) ∧
    (∃ (ini : Initiator) (d : Fin 23) (req : Fin 4) (s : State), s.sends ini true (R.PWR_D_CTL d.val) = true ∧ d.val = 0) ∧
    (∃ (ini : Initiator) (d : Fin 23) (req : Fin 4) (s : State), s.sends ini true (R.PWR_D_CTL d.val) = true ∧ d.val ≠ 0 ∧ (req.val = 3 ∨ req.val = 1 ∧ 21 ≤ d.val ∨ req.val = 2 ∧ d.val ∈ ([1, 6, 7, 8, 9, 10, 19] : List Nat))) ∧
    (∃ (ini : Initiator) (d : Fin 23) (req : Fin 4) (s : State), s.sends ini true (R.PWR_D_CTL d.val) = true ∧ d.val ≠ 0 ∧ (req.val = 0 ∨ req.val = 1 ∧ d.val < 21 ∨ req.val = 2 ∧ d.val ∉ ([1, 6, 7, 8, 9, 10, 19] : List Nat)) ∧ (s.pwrState d.val = P.entering ∨ s.pwrState d.val = P.waking ∨ (s.pwrDom d.val).retry = true)) ∧
    (∃ (ini : Initiator) (d : Fin 23) (req : Fin 4) (s : State), s.sends ini true (R.PWR_D_CTL d.val) = true ∧ d.val ≠ 0 ∧ ((s.pwrDom d.val).retry = false ∧ s.pwrState d.val ≠ P.entering ∧ s.pwrState d.val ≠ P.waking) ∧ (req.val = 0 ∧ s.pwrState d.val = P.on)) ∧
    (∃ (ini : Initiator) (d : Fin 23) (req : Fin 4) (s : State), s.sends ini true (R.PWR_D_CTL d.val) = true ∧ d.val ≠ 0 ∧ ((s.pwrDom d.val).retry = false ∧ s.pwrState d.val ≠ P.entering ∧ s.pwrState d.val ≠ P.waking) ∧ (req.val = 1 ∧ s.pwrState d.val = P.retention ∧ d.val < 21 ∨ req.val = 2 ∧ s.pwrState d.val = P.off ∧ d.val ∉ ([1, 6, 7, 8, 9, 10, 19] : List Nat))) ∧
    (∃ (ini : Initiator) (d : Fin 23) (req : Fin 4) (s : State), s.sends ini true (R.PWR_D_CTL d.val) = true ∧ d.val ≠ 0 ∧ ((s.pwrDom d.val).retry = false ∧ s.pwrState d.val ≠ P.entering ∧ s.pwrState d.val ≠ P.waking) ∧ (req.val = 0 ∧ (s.pwrState d.val = P.retention ∨ s.pwrState d.val = P.off))) ∧
    (∃ (ini : Initiator) (d : Fin 23) (req : Fin 4) (s : State), s.sends ini true (R.PWR_D_CTL d.val) = true ∧ d.val ≠ 0 ∧ (req.val = 0 ∨ req.val = 1 ∧ d.val < 21 ∨ req.val = 2 ∧ d.val ∉ ([1, 6, 7, 8, 9, 10, 19] : List Nat)) ∧ ((s.pwrDom d.val).retry = false ∧ s.pwrState d.val ≠ P.entering ∧ s.pwrState d.val ≠ P.waking) ∧ (req.val = 1 ∧ s.pwrState d.val ≠ P.retention ∨ req.val = 2 ∧ s.pwrState d.val ≠ P.off) ∧ (∀ y ∈ (s.bist.slice.toList : List Slice), 3 ≤ y.kind ∧ y.kind ≤ 5 ∧ unitDomain y.kind y.unit = d.val ∧ y.result = none) ∧ s.bist.slice.isSome = true) ∧
    (∃ (ini : Initiator) (d : Fin 23) (req : Fin 4) (s : State), s.sends ini true (R.PWR_D_CTL d.val) = true ∧ d.val ≠ 0 ∧ (req.val = 0 ∨ req.val = 1 ∧ d.val < 21 ∨ req.val = 2 ∧ d.val ∉ ([1, 6, 7, 8, 9, 10, 19] : List Nat)) ∧ ((s.pwrDom d.val).retry = false ∧ s.pwrState d.val ≠ P.entering ∧ s.pwrState d.val ≠ P.waking) ∧ (req.val = 1 ∧ s.pwrState d.val ≠ P.retention ∨ req.val = 2 ∧ s.pwrState d.val ≠ P.off) ∧ (∀ y ∈ (s.bist.slice.toList : List Slice), 3 ≤ y.kind ∧ y.kind ≤ 5 ∧ unitDomain y.kind y.unit = d.val ∧ y.result.isSome = true) ∧ s.bist.slice.isSome = true) ∧
    (∃ (ini : Initiator) (d : Fin 23) (req : Fin 4) (s : State), s.sends ini true (R.PWR_D_CTL d.val) = true ∧ d.val ≠ 0 ∧ ((s.pwrDom d.val).retry = false ∧ s.pwrState d.val ≠ P.entering ∧ s.pwrState d.val ≠ P.waking) ∧ (∀ y ∈ (s.bist.slice.toList : List Slice), ¬ (3 ≤ y.kind ∧ y.kind ≤ 5 ∧ unitDomain y.kind y.unit = d.val)) ∧ (req.val = 1 ∧ d.val < 21 ∧ s.pwrState d.val = P.off)) ∧
    (∃ (ini : Initiator) (d : Fin 23) (req : Fin 4) (s : State), s.sends ini true (R.PWR_D_CTL d.val) = true ∧ d.val ≠ 0 ∧ ((s.pwrDom d.val).retry = false ∧ s.pwrState d.val ≠ P.entering ∧ s.pwrState d.val ≠ P.waking) ∧ (∀ y ∈ (s.bist.slice.toList : List Slice), ¬ (3 ≤ y.kind ∧ y.kind ≤ 5 ∧ unitDomain y.kind y.unit = d.val)) ∧ (req.val = 1 ∧ d.val < 21 ∧ s.pwrState d.val = P.on ∨ req.val = 2 ∧ d.val ∉ ([1, 6, 7, 8, 9, 10, 19] : List Nat) ∧ (s.pwrState d.val = P.on ∨ s.pwrState d.val = P.retention)) ∧ (s.refuser d.val).isSome = true) ∧
    (∃ (ini : Initiator) (d : Fin 23) (req : Fin 4) (s : State), s.sends ini true (R.PWR_D_CTL d.val) = true ∧ d.val ≠ 0 ∧ ((s.pwrDom d.val).retry = false ∧ s.pwrState d.val ≠ P.entering ∧ s.pwrState d.val ≠ P.waking) ∧ (∀ y ∈ (s.bist.slice.toList : List Slice), ¬ (3 ≤ y.kind ∧ y.kind ≤ 5 ∧ unitDomain y.kind y.unit = d.val)) ∧ (req.val = 1 ∧ d.val < 21 ∧ s.pwrState d.val = P.on ∨ req.val = 2 ∧ d.val ∉ ([1, 6, 7, 8, 9, 10, 19] : List Nat) ∧ (s.pwrState d.val = P.on ∨ s.pwrState d.val = P.retention)) ∧ d.val ≠ 20 ∧ s.refuser d.val = none) ∧
    (∃ (ini : Initiator) (d : Fin 23) (req : Fin 4) (s : State), s.sends ini true (R.PWR_D_CTL d.val) = true ∧ ((s.pwrDom d.val).retry = false ∧ s.pwrState d.val ≠ P.entering ∧ s.pwrState d.val ≠ P.waking) ∧ (∀ y ∈ (s.bist.slice.toList : List Slice), ¬ (3 ≤ y.kind ∧ y.kind ≤ 5 ∧ unitDomain y.kind y.unit = d.val)) ∧ (req.val = 1 ∧ d.val < 21 ∧ s.pwrState d.val = P.on ∨ req.val = 2 ∧ d.val ∉ ([1, 6, 7, 8, 9, 10, 19] : List Nat) ∧ (s.pwrState d.val = P.on ∨ s.pwrState d.val = P.retention)) ∧ d.val = 20) :=
  ⟨⟨1, 7, (wMode M.run).set (F.LANE_CFG_EN 71) 1, by decide, by decide⟩,
   ⟨1, 1, wMode M.run, by decide, by decide⟩,
   ⟨.tap, 0, 2, wMode M.run, by decide, by decide +kernel⟩,
   ⟨.tap, 1, 2, wMode M.init, by decide +kernel⟩,
   ⟨.tap, 5, 2, wDom 5 P.waking { held := some 1 }, by decide +kernel⟩,
   ⟨.tap, 5, 0, wMode M.run, by decide +kernel⟩,
   ⟨.tap, 6, 1, wDom 6 P.retention {}, by decide +kernel⟩,
   ⟨.tap, 22, 0, wDom 22 P.off {}, by decide +kernel⟩,
   ⟨.tap, 13, 2, wBist.putSlice { manual := false, kind := 4, unit := 5, at_ := 50, taken := some 50 } 2, by decide +kernel⟩,
   ⟨.tap, 13, 2, wBist.putSlice { manual := false, kind := 4, unit := 5, at_ := 50, taken := some 50, result := some 0 } 3, by decide +kernel⟩,
   ⟨.tap, 11, 1, wDom 11 P.off {}, by decide +kernel⟩,
   ⟨.tap, 13, 2, wMode M.init, by decide +kernel⟩,
   ⟨.tap, 13, 2, ((wMode M.init).setPwrState 6 3 |>.setPwrState 7 3 |>.setPwrState 8 2 |>.setPwrState 9 2), by decide +kernel⟩,
   ⟨.tap, 20, 2, wMeas, by decide +kernel⟩⟩

/-- The hypotheses of DomainTransitions are met. -/
theorem wit_DomainTransitions :
    (∃ (d : Fin 23) (w : Nat) (s : State), (d.val = 0 ∨ s.pwrState d.val ≠ P.entering ∨ (s.pwrDom d.val).reqAt + 60000 ≤ max s.now w)) ∧
    (∃ (d : Fin 23) (w : Nat) (s : State), d.val ≠ 0 ∧ s.pwrState d.val = P.entering ∧ max s.now w < (s.pwrDom d.val).reqAt + 60000 ∧ (s.pwrDom d.val).target ≠ 2 ∧ ((s.pwrDom d.val).held = none ∧ (s.pwrDom d.val).wakeNext = false)) ∧
    (∃ (d : Fin 23) (w : Nat) (s : State), d.val ≠ 0 ∧ s.pwrState d.val = P.entering ∧ max s.now w < (s.pwrDom d.val).reqAt + 60000 ∧ (s.pwrDom d.val).target = 2 ∧ ((s.pwrDom d.val).held = none ∧ (s.pwrDom d.val).wakeNext = false) ∧ (2 ≤ d.val ∧ d.val ≤ 5)) ∧
    (∃ (d : Fin 23) (w : Nat) (s : State), d.val ≠ 0 ∧ s.pwrState d.val = P.entering ∧ max s.now w < (s.pwrDom d.val).reqAt + 60000 ∧ (s.pwrDom d.val).target = 2 ∧ ((s.pwrDom d.val).held = none ∧ (s.pwrDom d.val).wakeNext = false) ∧ (11 ≤ d.val ∧ d.val ≤ 13)) ∧
    (∃ (d : Fin 23) (w : Nat) (s : State), d.val ≠ 0 ∧ s.pwrState d.val = P.entering ∧ max s.now w < (s.pwrDom d.val).reqAt + 60000 ∧ (s.pwrDom d.val).target = 2 ∧ ((s.pwrDom d.val).held = none ∧ (s.pwrDom d.val).wakeNext = false) ∧ (14 ≤ d.val ∧ d.val ≤ 17)) ∧
    (∃ (d : Fin 23) (w : Nat) (s : State), d.val ≠ 0 ∧ s.pwrState d.val = P.entering ∧ max s.now w < (s.pwrDom d.val).reqAt + 60000 ∧ (s.pwrDom d.val).target = 2 ∧ ((s.pwrDom d.val).held = none ∧ (s.pwrDom d.val).wakeNext = false) ∧ d.val = 18) ∧
    (∃ (d : Fin 23) (w : Nat) (s : State), d.val ≠ 0 ∧ s.pwrState d.val = P.entering ∧ max s.now w < (s.pwrDom d.val).reqAt + 60000 ∧ (s.pwrDom d.val).target = 2 ∧ ((s.pwrDom d.val).held = none ∧ (s.pwrDom d.val).wakeNext = false) ∧ d.val = 20) ∧
    (∃ (d : Fin 23) (w : Nat) (s : State), d.val ≠ 0 ∧ s.pwrState d.val = P.entering ∧ max s.now w < (s.pwrDom d.val).reqAt + 60000 ∧ (s.pwrDom d.val).target = 2 ∧ ((s.pwrDom d.val).held = none ∧ (s.pwrDom d.val).wakeNext = false) ∧ 21 ≤ d.val) ∧
    (∃ (d : Fin 23) (w : Nat) (s : State), d.val ≠ 0 ∧ s.pwrState d.val = P.entering ∧ max s.now w < (s.pwrDom d.val).reqAt + 60000 ∧ ((s.pwrDom d.val).wakeNext = true ∧ (s.pwrDom d.val).retry = false)) ∧
    (∃ (d : Fin 23) (w r : Nat) (s : State), d.val ≠ 0 ∧ s.pwrState d.val = P.entering ∧ max s.now w < (s.pwrDom d.val).reqAt + 60000 ∧ ((s.pwrDom d.val).held = some r ∧ (s.pwrDom d.val).wakeNext = false)) ∧
    (∃ (d : Fin 23) (step : Fin 5) (w : Nat) (s : State), (d.val = 0 ∨ s.pwrState d.val ≠ P.entering ∨ max s.now w < (s.pwrDom d.val).reqAt + 20000 ∨ step.val ∉ ([1, 2, if (s.pwrDom d.val).target = 2 then 4 else 3] : List Nat))) ∧
    (∃ (d : Fin 23) (step : Fin 5) (w : Nat) (s : State), d.val ≠ 0 ∧ s.pwrState d.val = P.entering ∧ (s.pwrDom d.val).reqAt + 20000 ≤ max s.now w ∧ (step.val = 1 ∨ step.val = 2 ∨ step.val = (if (s.pwrDom d.val).target = 2 then 4 else 3)) ∧ d.val ≠ 20 ∧ (s.pwrDom d.val).held = none) ∧
    (∃ (d : Fin 23) (step : Fin 5) (w : Nat) (s : State), d.val ≠ 0 ∧ s.pwrState d.val = P.entering ∧ (s.pwrDom d.val).reqAt + 20000 ≤ max s.now w ∧ (step.val = 1 ∨ step.val = 2 ∨ step.val = (if (s.pwrDom d.val).target = 2 then 4 else 3)) ∧ d.val = 20 ∧ (s.pwrDom d.val).held = none) ∧
    (∃ (d : Fin 23) (step : Fin 5) (w r : Nat) (s : State), d.val ≠ 0 ∧ s.pwrState d.val = P.entering ∧ (s.pwrDom d.val).reqAt + 20000 ≤ max s.now w ∧ (step.val = 1 ∨ step.val = 2 ∨ step.val = (if (s.pwrDom d.val).target = 2 then 4 else 3)) ∧ ((s.pwrDom d.val).held = some r ∧ (s.pwrDom d.val).wakeNext = false)) ∧
    (∃ (d : Fin 23) (w : Nat) (s : State), d.val ≠ 0 ∧ (d.val ≠ 10 ∨ (s.at_ w).drnWakes = true) ∧ (s.pwrState d.val = P.retention ∨ s.pwrState d.val = P.off) ∧ (s.pwrDom d.val).retry = false) ∧
    (∃ (d : Fin 23) (w : Nat) (s : State), d.val ≠ 0 ∧ (d.val ≠ 10 ∨ (s.at_ w).drnWakes = true) ∧ s.pwrState d.val = P.entering ∧ (s.pwrDom d.val).wakeNext = false) ∧
    (∃ (d : Fin 23) (w : Nat) (s : State), (d.val = 0 ∨ d.val = 10 ∧ (s.at_ w).drnWakes = false ∨ s.pwrState d.val = P.on ∨ 4 ≤ s.pwrState d.val ∨ s.pwrState d.val = P.entering ∧ (s.pwrDom d.val).wakeNext = true ∨ s.pwrState d.val ≠ P.entering ∧ (s.pwrDom d.val).retry = true)) ∧
    (∃ (d : Fin 23) (w : Nat) (s : State), (s.pwrState d.val ≠ P.waking ∨ (s.pwrDom d.val).wakeAt + (if 21 ≤ d.val then 40000 else 100000) ≤ max s.now w ∨ 21 ≤ d.val ∧ s.locked (d.val - 21) = false)) ∧
    (∃ (d : Fin 23) (w : Nat) (s : State), d.val ≠ 0 ∧ s.pwrState d.val = P.waking ∧ max s.now w < (s.pwrDom d.val).wakeAt + (if 21 ≤ d.val then 40000 else 100000) ∧ (d.val < 21 ∨ s.locked (d.val - 21) = true) ∧ (d.val ∉ ([2, 3, 4, 5, 10, 18, 20] : List Nat)) ∧ ((s.pwrDom d.val).held = none ∧ (s.pwrDom d.val).wakeNext = false) ∧ (∀ e ∈ (s.stalls : List Stall), e.dom ≠ d.val)) ∧
    (∃ (d : Fin 23) (w : Nat) (s : State), d.val ≠ 0 ∧ s.pwrState d.val = P.waking ∧ max s.now w < (s.pwrDom d.val).wakeAt + (if 21 ≤ d.val then 40000 else 100000) ∧ (d.val < 21 ∨ s.locked (d.val - 21) = true) ∧ (2 ≤ d.val ∧ d.val ≤ 5) ∧ ((s.pwrDom d.val).held = none ∧ (s.pwrDom d.val).wakeNext = false) ∧ (∀ e ∈ (s.stalls : List Stall), e.dom ≠ d.val)) ∧
    (∃ (d : Fin 23) (w : Nat) (s : State), d.val ≠ 0 ∧ s.pwrState d.val = P.waking ∧ max s.now w < (s.pwrDom d.val).wakeAt + (if 21 ≤ d.val then 40000 else 100000) ∧ (d.val < 21 ∨ s.locked (d.val - 21) = true) ∧ d.val = 10 ∧ ((s.pwrDom d.val).held = none ∧ (s.pwrDom d.val).wakeNext = false) ∧ (∀ e ∈ (s.stalls : List Stall), e.dom ≠ d.val)) ∧
    (∃ (d : Fin 23) (w : Nat) (s : State), d.val ≠ 0 ∧ s.pwrState d.val = P.waking ∧ max s.now w < (s.pwrDom d.val).wakeAt + (if 21 ≤ d.val then 40000 else 100000) ∧ (d.val < 21 ∨ s.locked (d.val - 21) = true) ∧ d.val = 18 ∧ (∀ e ∈ (s.shadow : Sparse Word), e.1 ≠ R.EMN_POS) ∧ ((s.pwrDom d.val).held = none ∧ (s.pwrDom d.val).wakeNext = false) ∧ (∀ e ∈ (s.stalls : List Stall), e.dom ≠ d.val)) ∧
    (∃ (d : Fin 23) (w : Nat) (s : State), d.val ≠ 0 ∧ s.pwrState d.val = P.waking ∧ max s.now w < (s.pwrDom d.val).wakeAt + (if 21 ≤ d.val then 40000 else 100000) ∧ (d.val < 21 ∨ s.locked (d.val - 21) = true) ∧ d.val = 20 ∧ ((s.pwrDom d.val).held = none ∧ (s.pwrDom d.val).wakeNext = false) ∧ (∀ e ∈ (s.stalls : List Stall), e.dom ≠ d.val)) ∧
    (∃ (d : Fin 23) (w : Nat) (s : State), d.val ≠ 0 ∧ s.pwrState d.val = P.waking ∧ max s.now w < (s.pwrDom d.val).wakeAt + (if 21 ≤ d.val then 40000 else 100000) ∧ (d.val < 21 ∨ s.locked (d.val - 21) = true) ∧ ((s.pwrDom d.val).held = none ∧ (s.pwrDom d.val).wakeNext = false)) ∧
    (∃ (d : Fin 23) (w r : Nat) (s : State), d.val ≠ 0 ∧ s.pwrState d.val = P.waking ∧ max s.now w < (s.pwrDom d.val).wakeAt + (if 21 ≤ d.val then 40000 else 100000) ∧ (d.val < 21 ∨ s.locked (d.val - 21) = true) ∧ ((s.pwrDom d.val).held = some r ∧ (s.pwrDom d.val).wakeNext = false)) ∧
    (∃ (d : Fin 23) (cause : Fin 5) (w : Nat) (s : State), (s.pwrState d.val ≠ P.waking ∨ ¬ (if cause.val = 1 ∨ cause.val = 2 then (s.pwrDom d.val).wakeAt + 100000 ≤ max s.now w else if cause.val = 3 then 21 ≤ d.val ∧ s.locked (d.val - 21) = false ∧ (s.nextBand (d.val - 21) = none ∨ (s.pwrDom d.val).wakeAt + 40000 ≤ max s.now w) else cause.val = 4 ∧ (s.pwrDom d.val).prior = P.off ∧ d.val ≤ 20))) ∧
    (∃ (d : Fin 23) (cause : Fin 5) (w : Nat) (s : State), d.val ≠ 0 ∧ s.pwrState d.val = P.waking ∧ (if cause.val = 1 ∨ cause.val = 2 then (s.pwrDom d.val).wakeAt + 100000 ≤ max s.now w else if cause.val = 3 then 21 ≤ d.val ∧ s.locked (d.val - 21) = false ∧ (s.nextBand (d.val - 21) = none ∨ (s.pwrDom d.val).wakeAt + 40000 ≤ max s.now w) else cause.val = 4 ∧ (s.pwrDom d.val).prior = P.off ∧ d.val ≤ 20) ∧ (s.pwrDom d.val).attempts < s.get (F.PWR_D_CTL_RETRIES d.val) ∧ (∀ e ∈ (s.stalls : List Stall), e.dom ≠ d.val)) ∧
    (∃ (d : Fin 23) (cause : Fin 5) (w : Nat) (s : State), d.val ≠ 0 ∧ s.pwrState d.val = P.waking ∧ (if cause.val = 1 ∨ cause.val = 2 then (s.pwrDom d.val).wakeAt + 100000 ≤ max s.now w else if cause.val = 3 then 21 ≤ d.val ∧ s.locked (d.val - 21) = false ∧ (s.nextBand (d.val - 21) = none ∨ (s.pwrDom d.val).wakeAt + 40000 ≤ max s.now w) else cause.val = 4 ∧ (s.pwrDom d.val).prior = P.off ∧ d.val ≤ 20) ∧ s.get (F.PWR_D_CTL_RETRIES d.val) ≤ (s.pwrDom d.val).attempts ∧ ((s.pwrDom d.val).held = none ∧ (s.pwrDom d.val).wakeNext = false) ∧ (∀ e ∈ (s.stalls : List Stall), e.dom ≠ d.val)) ∧
    (∃ (d : Fin 23) (cause : Fin 5) (w r : Nat) (s : State), d.val ≠ 0 ∧ s.pwrState d.val = P.waking ∧ (if cause.val = 1 ∨ cause.val = 2 then (s.pwrDom d.val).wakeAt + 100000 ≤ max s.now w else if cause.val = 3 then 21 ≤ d.val ∧ s.locked (d.val - 21) = false ∧ (s.nextBand (d.val - 21) = none ∨ (s.pwrDom d.val).wakeAt + 40000 ≤ max s.now w) else cause.val = 4 ∧ (s.pwrDom d.val).prior = P.off ∧ d.val ≤ 20) ∧ s.get (F.PWR_D_CTL_RETRIES d.val) ≤ (s.pwrDom d.val).attempts ∧ (∀ e ∈ (s.stalls : List Stall), e.dom ≠ d.val) ∧ ((s.pwrDom d.val).held = some r ∧ (s.pwrDom d.val).wakeNext = false)) ∧
    (∃ (d : Fin 23) (cause : Fin 5) (w : Nat) (s : State), d.val ≠ 0 ∧ s.pwrState d.val = P.waking ∧ (if cause.val = 1 ∨ cause.val = 2 then (s.pwrDom d.val).wakeAt + 100000 ≤ max s.now w else if cause.val = 3 then 21 ≤ d.val ∧ s.locked (d.val - 21) = false ∧ (s.nextBand (d.val - 21) = none ∨ (s.pwrDom d.val).wakeAt + 40000 ≤ max s.now w) else cause.val = 4 ∧ (s.pwrDom d.val).prior = P.off ∧ d.val ≤ 20)) ∧
    (∃ (d : Fin 23) (w : Nat) (s : State), (s.pwrDom d.val).retry = true ∧ (s.pwrDom d.val).failAt + 4000 ≤ max s.now w) ∧
    (∃ (d : Fin 23) (w : Nat) (s : State), ((s.pwrDom d.val).retry = false ∨ max s.now w < (s.pwrDom d.val).failAt + 4000)) :=
  ⟨⟨6, 70000, wDom 6 P.entering { target := 1 }, by decide +kernel⟩,
   ⟨6, 5, wDom 6 P.entering { target := 1 }, by decide +kernel⟩,
   ⟨3, 5, (let s := wMode M.init; (s.setPwrState 3 P.entering).setPwrDom 3 { target := 2 }), by decide +kernel⟩,
   ⟨13, 5, (let s := wMode M.init; (s.setPwrState 13 P.entering).setPwrDom 13 { target := 2 }), by decide +kernel⟩,
   ⟨14, 5, (let s := wMode M.init; (s.setPwrState 14 P.entering).setPwrDom 14 { target := 2 }), by decide +kernel⟩,
   ⟨18, 5, (let s := wMode M.init; (s.setPwrState 18 P.entering).setPwrDom 18 { target := 2 }), by decide +kernel⟩,
   ⟨20, 5, (let s := wMode M.init; (s.setPwrState 20 P.entering).setPwrDom 20 { target := 2 }), by decide +kernel⟩,
   ⟨22, 5, (let s := wMode M.init; (s.setPwrState 22 P.entering).setPwrDom 22 { target := 2 }), by decide +kernel⟩,
   ⟨11, 5, (wDom 11 P.entering { target := 2, wakeNext := true, held := some 1 }), by decide +kernel⟩,
   ⟨11, 5, 0, wDom 11 P.entering { target := 2, held := some 0 }, by decide +kernel⟩,
   ⟨6, 3, 19999, wDom 6 P.entering { target := 1 }, by decide +kernel⟩,
   ⟨6, 3, 20000, wDom 6 P.entering { target := 1 }, by decide +kernel⟩,
   ⟨20, 3, 20000, wDom 20 P.entering { target := 1 }, by decide +kernel⟩,
   ⟨11, 2, 20000, 2, wDom 11 P.entering { target := 1, held := some 2 }, by decide +kernel⟩,
   ⟨11, 5, wDom 11 P.off {}, by decide +kernel⟩,
   ⟨11, 5, wDom 11 P.entering { reqAt := 4 }, by decide +kernel⟩,
   ⟨11, 5, wDom 11 P.waking { reqAt := 4 }, by decide +kernel⟩,
   ⟨11, 100005, wDom 11 P.waking { wakeAt := 4 }, by decide +kernel⟩,
   ⟨6, 5, wDom 6 P.waking { prior := 2 }, by decide +kernel⟩,
   ⟨3, 5, wDom 3 P.waking { prior := 2 }, by decide +kernel⟩,
   ⟨10, 500, wDom 10 P.waking { prior := 2, wakeAt := 400, doneAt := 300 }, by decide +kernel⟩,
   ⟨18, 5, wDom 18 P.waking { prior := 3 }, by decide +kernel⟩,
   ⟨20, 5, wDom 20 P.waking { prior := 2 }, by decide +kernel⟩,
   ⟨14, 5, let s := wDom 14 P.waking { prior := 3 }; { s with stalls := [{ dom := 14, by_ := .access .tap true (R.LANE_CFG 3) 4 0x700#64 0 }, { dom := 6, by_ := .access .tap true (R.LANE_CFG 70) 4 0x700#64 0 }] }, by decide +kernel⟩,
   ⟨11, 5, 2, wDom 11 P.waking { prior := 2, held := some 2 }, by decide +kernel⟩,
   ⟨11, 2, 5, wDom 11 P.waking {}, by decide +kernel⟩,
   ⟨21, 3, 100000, ((wDom 21 P.waking { prior := 3 }).set (F.CLK_PLL_STAT_LOCKED 0) 0).set (F.PWR_D_CTL_RETRIES 21) 3, by decide +kernel⟩,
   ⟨6, 2, 100000, ((wDom 6 P.waking { prior := 2 }).set F.SYS_MODE_MODE M.run).wr R.PWR_RUN_NEED 64, by decide +kernel⟩,
   ⟨11, 2, 100000, 2, wDom 11 P.waking { prior := 2, held := some 2 }, by decide +kernel⟩,
   ⟨14, 2, 100000, let s := wDom 14 P.waking { prior := 3 }; { s with stalls := [{ dom := 14, by_ := .access .tap false (R.LANE_CFG 3) 4 0#64 0 }, { dom := 6, by_ := .access .tap true (R.LANE_CFG 70) 4 0x700#64 0 }] }, by decide +kernel⟩,
   ⟨6, 4000, wDom 6 P.retention { retry := true }, by decide +kernel⟩,
   ⟨6, 3999, wDom 6 P.retention { retry := true }, by decide +kernel⟩⟩

/-- The hypotheses of ThePllsLock are met. -/
theorem wit_ThePllsLock :
    (∃ (lvds lvcmos : Nat) (xtal : Bool) (s : State), s.mode = M.reset ∧ s.get F.CLK_REF_CFG_SRC = 0) ∧
    (∃ (lvds lvcmos : Nat) (xtal : Bool) (s : State), (s.mode ≠ M.reset ∨ s.get F.CLK_REF_CFG_SRC ≠ 0)) ∧
    (∃ (x : Fin 2) (w : Nat) (b : Fin 16) (s : State), (s.locked x.val = false ∧ s.bit F.CLK_STAT_REF_LOST = false ∧ (s.pwrState (21 + x.val) = P.waking ∧ max s.now w < (s.pwrDom (21 + x.val)).wakeAt + 40000 ∨ s.pwrState (21 + x.val) = P.on ∧ ((s.pll x.val).trying = true ∧ (∀ a ∈ ((s.pll x.val).tryAt.toList : List Nat), max s.now w < a + 40000) ∨ (s.pll x.val).trying = false ∧ s.mode = M.reset))) ∧ s.nextBand x.val = some b.val ∧ (¬ ((s.pll x.val).goHome = true ∧ s.supplyPll ≠ x.val ∧ s.bit F.CLK_CTL_STANDBY = true))) ∧
    (∃ (x : Fin 2) (w : Nat) (b : Fin 16) (s : State), (s.locked x.val = false ∧ s.bit F.CLK_STAT_REF_LOST = false ∧ (s.pwrState (21 + x.val) = P.waking ∧ max s.now w < (s.pwrDom (21 + x.val)).wakeAt + 40000 ∨ s.pwrState (21 + x.val) = P.on ∧ ((s.pll x.val).trying = true ∧ (∀ a ∈ ((s.pll x.val).tryAt.toList : List Nat), max s.now w < a + 40000) ∨ (s.pll x.val).trying = false ∧ s.mode = M.reset))) ∧ s.nextBand x.val = some b.val ∧ ((s.pll x.val).goHome = true ∧ s.supplyPll = 1 - x.val ∧ s.bit F.CLK_CTL_STANDBY = true)) ∧
    (∃ (x : Fin 2) (w : Nat) (s : State), (s.locked x.val = false ∧ s.bit F.CLK_STAT_REF_LOST = false ∧ (s.pwrState (21 + x.val) = P.waking ∧ max s.now w < (s.pwrDom (21 + x.val)).wakeAt + 40000 ∨ s.pwrState (21 + x.val) = P.on ∧ ((s.pll x.val).trying = true ∧ (∀ a ∈ ((s.pll x.val).tryAt.toList : List Nat), max s.now w < a + 40000) ∨ (s.pll x.val).trying = false ∧ s.mode = M.reset))) ∧ s.nextBand x.val = none) ∧
    (∃ (x : Fin 2) (w : Nat) (s : State), (¬ (s.locked x.val = false ∧ s.bit F.CLK_STAT_REF_LOST = false ∧ (s.pwrState (21 + x.val) = P.waking ∧ max s.now w < (s.pwrDom (21 + x.val)).wakeAt + 40000 ∨ s.pwrState (21 + x.val) = P.on ∧ ((s.pll x.val).trying = true ∧ (∀ a ∈ ((s.pll x.val).tryAt.toList : List Nat), max s.now w < a + 40000) ∨ (s.pll x.val).trying = false ∧ s.mode = M.reset))))) ∧
    (∃ (x : Fin 2) (w : Nat) (s : State), ((s.pll x.val).trying = true ∧ (s.pll x.val).tryAt.isSome = true ∧ (∀ a ∈ ((s.pll x.val).tryAt.toList : List Nat), a + 40000 ≤ max s.now w))) ∧
    (∃ (x : Fin 2) (w : Nat) (s : State), (¬ ((s.pll x.val).trying = true ∧ (s.pll x.val).tryAt.isSome = true ∧ (∀ a ∈ ((s.pll x.val).tryAt.toList : List Nat), a + 40000 ≤ max s.now w)))) ∧
    (∃ (x : Fin 2) (w : Nat) (s : State), (s.locked x.val = false ∧ s.pwrState (21 + x.val) = P.on ∧ (s.pll x.val).trying = false ∧ (∀ a ∈ ((s.pll x.val).tryAt.toList : List Nat), a + 400000 ≤ max s.now w))) ∧
    (∃ (x : Fin 2) (w : Nat) (s : State), (¬ (s.locked x.val = false ∧ s.pwrState (21 + x.val) = P.on ∧ (s.pll x.val).trying = false ∧ (∀ a ∈ ((s.pll x.val).tryAt.toList : List Nat), a + 400000 ≤ max s.now w)))) ∧
    (∃ (x : Fin 2) (raw : BitVec 16) (y : Int) (s : State), s.locked x.val = true ∧ y = max (-32768) (min 32767 (Int.tdiv (raw.toInt * (s.get (F.MEAS_FCAL_FG (0x25 + x.val)) : Int) * (65536 + s.getS (F.MEAS_UCAL_UG (0x25 + x.val)))) 2147483648 + s.getS (F.MEAS_FCAL_FO (0x25 + x.val)) + s.getS (F.MEAS_UCAL_UO (0x25 + x.val)))) ∧ (300 ≤ y ∧ y < 900)) ∧
    (∃ (x : Fin 2) (raw : BitVec 16) (y : Int) (s : State), s.locked x.val = true ∧ y = max (-32768) (min 32767 (Int.tdiv (raw.toInt * (s.get (F.MEAS_FCAL_FG (0x25 + x.val)) : Int) * (65536 + s.getS (F.MEAS_UCAL_UG (0x25 + x.val)))) 2147483648 + s.getS (F.MEAS_FCAL_FO (0x25 + x.val)) + s.getS (F.MEAS_UCAL_UO (0x25 + x.val)))) ∧ (y < 300 ∨ 900 ≤ y)) ∧
    (∃ (x : Fin 2) (raw : BitVec 16) (s : State), s.locked x.val = false) :=
  ⟨⟨399, 600, true, (wMode M.reset).set F.CLK_REF_CFG_SRC 0, by decide +kernel⟩,
   ⟨500, 0, false, (wMode M.reset).set F.CLK_REF_CFG_SRC 2, by decide +kernel⟩,
   ⟨1, 39999, 10, ((wClk.setPll 1 { trying := true, tryAt := some 0 }).set (F.CLK_PLL_STAT_LOCKED 1) 0).set (F.CLK_PLL_STAT_STANDING_BY 1) 0, by decide +kernel⟩,
   ⟨0, 7, 10, (((wClk.setPll 0 { trying := true, goHome := true, tryAt := some 0 }).set (F.CLK_PLL_STAT_LOCKED 0) 0).set (F.CLK_PLL_STAT_STANDING_BY 1) 0).set F.CLK_STAT_SUPPLY 1, by decide +kernel⟩,
   ⟨0, 9, (List.range 16).foldl (fun (u : State) b => u.wr (R.CLK_BAND b) 0) ((wClk.setPll 0 { trying := true, goHome := true }).set (F.CLK_PLL_STAT_LOCKED 0) 0), by decide +kernel⟩,
   ⟨1, 40000, (wClk.setPll 1 { trying := true, tryAt := some 0 }).set (F.CLK_PLL_STAT_LOCKED 1) 0, by decide +kernel⟩,
   ⟨1, 40007, wClk.setPll 1 { trying := true, goHome := true, tryAt := some 7 }, by decide +kernel⟩,
   ⟨1, 40006, wClk.setPll 1 { trying := true, goHome := true, tryAt := some 7 }, by decide +kernel⟩,
   ⟨1, 400000, (wClk.setPll 1 { tryAt := some 0, choose := false, used := some 10 }).set (F.CLK_PLL_STAT_LOCKED 1) 0, by decide +kernel⟩,
   ⟨1, 399999, (wClk.setPll 1 { tryAt := some 0 }).set (F.CLK_PLL_STAT_LOCKED 1) 0, by decide +kernel⟩,
   ⟨0, 899#16, 899, wClk.set (F.MEAS_FCAL_FG 0x25) 32768, by decide +kernel⟩,
   ⟨0, 900#16, 900, wClk.set (F.MEAS_FCAL_FG 0x25) 32768, by decide +kernel⟩,
   ⟨0, 900#16, wClk.set (F.CLK_PLL_STAT_LOCKED 0) 0, by decide +kernel⟩⟩

/-- The hypotheses of ClocksFailOver are met. -/
theorem wit_ClocksFailOver :
    (∃ (x : Fin 2) (s : State), s.locked x.val = true ∧ s.supplyPll = x.val ∧ s.standsBy (1 - x.val) = true) ∧
    (∃ (x : Fin 2) (s : State), s.locked x.val = true ∧ s.locked (1 - x.val) = true ∧ (s.supplyPll ≠ x.val ∨ s.standsBy (1 - x.val) = false)) ∧
    (∃ (x : Fin 2) (s : State), s.locked x.val = true ∧ s.locked (1 - x.val) = false ∧ (s.supplyPll ≠ x.val ∨ s.standsBy (1 - x.val) = false)) ∧
    (∃ (x : Fin 2) (s : State), s.locked x.val = false) ∧
    (∃ (errA errB : Nat) (x : Fin 2) (s : State), s.locked 0 = true ∧ s.locked 1 = true ∧ (if errA = errB then x.val ≠ s.supplyPll else if errB < errA then x.val = 0 else x.val = 1)) ∧
    (∃ (errA errB : Nat) (s : State), (s.locked 0 = false ∨ s.locked 1 = false)) ∧
    (∃ (ini : Initiator) (s : State), s.sends ini true R.CLK_CTL = true ∧ (if s.bit F.CLK_CTL_STANDBY = true then s.locked (1 - s.supplyPll) = true → s.standsBy (1 - s.supplyPll) = true ∧ (s.pll (1 - s.supplyPll)).goHome = false else s.standsBy (1 - s.supplyPll) = false ∧ (s.pll (1 - s.supplyPll)).goHome = false) ∧ s.bit F.CLK_CTL_CORE = false ∧ s.locked s.supplyPll = true ∧ s.domOn 20 = false) ∧
    (∃ (ini : Initiator) (s : State), s.sends ini true R.CLK_CTL = true ∧ (if s.bit F.CLK_CTL_STANDBY = true then s.locked (1 - s.supplyPll) = true → s.standsBy (1 - s.supplyPll) = true ∧ (s.pll (1 - s.supplyPll)).goHome = false else s.standsBy (1 - s.supplyPll) = false ∧ (s.pll (1 - s.supplyPll)).goHome = false) ∧ s.bit F.CLK_CTL_CORE = false ∧ s.locked s.supplyPll = true ∧ s.domOn 20 = true) ∧
    (∃ (ini : Initiator) (s : State), s.sends ini true R.CLK_CTL = true ∧ (if s.bit F.CLK_CTL_STANDBY = true then s.locked (1 - s.supplyPll) = true → s.standsBy (1 - s.supplyPll) = true ∧ (s.pll (1 - s.supplyPll)).goHome = false else s.standsBy (1 - s.supplyPll) = false ∧ (s.pll (1 - s.supplyPll)).goHome = false) ∧ s.bit F.CLK_CTL_CORE = false ∧ s.locked s.supplyPll = false) ∧
    (∃ (ini : Initiator) (s : State), s.sends ini true R.CLK_CTL = true ∧ (if s.bit F.CLK_CTL_STANDBY = true then s.locked (1 - s.supplyPll) = true → s.standsBy (1 - s.supplyPll) = true ∧ (s.pll (1 - s.supplyPll)).goHome = false else s.standsBy (1 - s.supplyPll) = false ∧ (s.pll (1 - s.supplyPll)).goHome = false) ∧ s.bit F.CLK_CTL_CORE = true) ∧
    (∃ (ini : Initiator) (s : State), s.sends ini true R.CLK_CTL = true ∧ (if s.bit F.CLK_CTL_STANDBY = true then s.locked (1 - s.supplyPll) = true → s.standsBy (1 - s.supplyPll) = true ∧ (s.pll (1 - s.supplyPll)).goHome = false else s.standsBy (1 - s.supplyPll) = false ∧ (s.pll (1 - s.supplyPll)).goHome = false) ∧ s.supplyPll = 1 ∧ s.standsBy 0 = true ∧ (s.pll 1).goHome = false) ∧
    (∃ (ini : Initiator) (s : State), s.sends ini true R.CLK_CTL = true ∧ (if s.bit F.CLK_CTL_STANDBY = true then s.locked (1 - s.supplyPll) = true → s.standsBy (1 - s.supplyPll) = true ∧ (s.pll (1 - s.supplyPll)).goHome = false else s.standsBy (1 - s.supplyPll) = false ∧ (s.pll (1 - s.supplyPll)).goHome = false) ∧ (s.supplyPll = 0 ∨ s.standsBy 0 = false)) ∧
    (∃ (ini : Initiator) (v : BitVec 64) (s : State), s.sends ini true R.CLK_CTL = true ∧ (if s.bit F.CLK_CTL_STANDBY = true then s.locked (1 - s.supplyPll) = true → s.standsBy (1 - s.supplyPll) = true ∧ (s.pll (1 - s.supplyPll)).goHome = false else s.standsBy (1 - s.supplyPll) = false ∧ (s.pll (1 - s.supplyPll)).goHome = false) ∧ (s.pll 1).goHome = false ∧ v.getLsbD 31 = true ∧ v.getLsbD 29 = true ∧ v.getLsbD 30 = s.bit F.CLK_CTL_STANDBY) ∧
    (∃ (ini : Initiator) (v : BitVec 64) (s : State), s.sends ini true R.CLK_CTL = true ∧ v.getLsbD 31 = false ∧ v.getLsbD 29 = false ∧ v.getLsbD 30 = false) ∧
    (∃ (ini : Initiator) (v : BitVec 64) (s : State), s.sends ini true R.CLK_CTL = true ∧ v.getLsbD 31 = false ∧ v.getLsbD 29 = false ∧ v.getLsbD 30 = true ∧ ((s.pll (1 - s.supplyPll)).goHome = false ∨ s.locked (1 - s.supplyPll) = false)) ∧
    (∃ (ini : Initiator) (x : Fin 2) (s : State), s.sends ini true (R.CLK_PLL_CTL x.val) = true ∧ s.supplyPll = x.val ∧ s.standsBy (1 - x.val) = true) ∧
    (∃ (ini : Initiator) (x : Fin 2) (s : State), s.sends ini true (R.CLK_PLL_CTL x.val) = true ∧ s.supplyPll = x.val ∧ s.standsBy (1 - x.val) = false) ∧
    (∃ (ini : Initiator) (x : Fin 2) (s : State), s.sends ini true (R.CLK_PLL_CTL x.val) = true ∧ s.supplyPll ≠ x.val ∧ s.domOn (21 + x.val) = true ∧ (s.locked x.val = false ∨ s.locked (1 - x.val) = true)) ∧
    (∃ (ini : Initiator) (x : Fin 2) (s : State), s.sends ini true (R.CLK_PLL_CTL x.val) = true ∧ s.supplyPll ≠ x.val ∧ s.domOn (21 + x.val) = true ∧ s.locked x.val = true ∧ s.locked (1 - x.val) = false) ∧
    (∃ (ini : Initiator) (x : Fin 2) (s : State), s.sends ini true (R.CLK_PLL_CTL x.val) = true ∧ s.supplyPll ≠ x.val ∧ s.domOn (21 + x.val) = false) ∧
    (∃ (s : State), s.bit F.CLK_STAT_REF_LOST = false) ∧
    (∃ (s : State), s.bit F.CLK_STAT_REF_LOST = true) ∧
    (∃ (s : State) (i : Instr) (lost : Bool), (lost, i) ∈ ([(true, .refLost), (false, .refReturn)] : List (Bool × Instr)) ∧ s.bit F.CLK_STAT_REF_LOST = lost) ∧
    (∃ (ini : Initiator) (b : Fin 16) (v : BitVec 64) (s : State), s.sends ini true (R.CLK_BAND b.val) = true) ∧
    (∃ (ini : Initiator) (k : Fin 4) (value : BitVec 32) (s : State), s.sends ini true (R.CLK_CLKOUT_CFG k.val) = true ∧ (bitsOf value 30 29 ≠ 3 ∧ (if bitsOf value 30 29 = 0 then 40 else if bitsOf value 30 29 = 1 then 20 else 5) ≤ bitsOf value 11 0 ∧ bitsOf value 23 12 < bitsOf value 11 0) ∧ value.getLsbD 31 = true ∧ (s.bit (F.CLK_CLKOUT_CFG_EN k.val) && decide (s.get (F.CLK_CLKOUT_CFG_FMT k.val) ≠ 3 ∧ (if s.get (F.CLK_CLKOUT_CFG_FMT k.val) = 0 then 40 else if s.get (F.CLK_CLKOUT_CFG_FMT k.val) = 1 then 20 else 5) ≤ s.get (F.CLK_CLKOUT_CFG_D k.val) ∧ s.get (F.CLK_CLKOUT_CFG_PHASE k.val) < s.get (F.CLK_CLKOUT_CFG_D k.val))) = false) ∧
    (∃ (ini : Initiator) (k : Fin 4) (value : BitVec 32) (s : State), s.sends ini true (R.CLK_CLKOUT_CFG k.val) = true ∧ (bitsOf value 30 29 ≠ 3 ∧ (if bitsOf value 30 29 = 0 then 40 else if bitsOf value 30 29 = 1 then 20 else 5) ≤ bitsOf value 11 0 ∧ bitsOf value 23 12 < bitsOf value 11 0) ∧ value.getLsbD 31 = false ∧ (s.bit (F.CLK_CLKOUT_CFG_EN k.val) && decide (s.get (F.CLK_CLKOUT_CFG_FMT k.val) ≠ 3 ∧ (if s.get (F.CLK_CLKOUT_CFG_FMT k.val) = 0 then 40 else if s.get (F.CLK_CLKOUT_CFG_FMT k.val) = 1 then 20 else 5) ≤ s.get (F.CLK_CLKOUT_CFG_D k.val) ∧ s.get (F.CLK_CLKOUT_CFG_PHASE k.val) < s.get (F.CLK_CLKOUT_CFG_D k.val))) = true) ∧
    (∃ (ini : Initiator) (k : Fin 4) (value : BitVec 32) (s : State), s.sends ini true (R.CLK_CLKOUT_CFG k.val) = true ∧ (bitsOf value 30 29 ≠ 3 ∧ (if bitsOf value 30 29 = 0 then 40 else if bitsOf value 30 29 = 1 then 20 else 5) ≤ bitsOf value 11 0 ∧ bitsOf value 23 12 < bitsOf value 11 0) ∧ value.getLsbD 31 = true ∧ (s.bit (F.CLK_CLKOUT_CFG_EN k.val) && decide (s.get (F.CLK_CLKOUT_CFG_FMT k.val) ≠ 3 ∧ (if s.get (F.CLK_CLKOUT_CFG_FMT k.val) = 0 then 40 else if s.get (F.CLK_CLKOUT_CFG_FMT k.val) = 1 then 20 else 5) ≤ s.get (F.CLK_CLKOUT_CFG_D k.val) ∧ s.get (F.CLK_CLKOUT_CFG_PHASE k.val) < s.get (F.CLK_CLKOUT_CFG_D k.val))) = true ∧ s.waves k.val ≠ [] ∧ (bitsOf value 11 0 ≠ s.get (F.CLK_CLKOUT_CFG_D k.val) ∨ bitsOf value 30 29 ≠ s.get (F.CLK_CLKOUT_CFG_FMT k.val))) ∧
    (∃ (ini : Initiator) (k : Fin 4) (value : BitVec 32) (s : State), s.sends ini true (R.CLK_CLKOUT_CFG k.val) = true ∧ (bitsOf value 30 29 ≠ 3 ∧ (if bitsOf value 30 29 = 0 then 40 else if bitsOf value 30 29 = 1 then 20 else 5) ≤ bitsOf value 11 0 ∧ bitsOf value 23 12 < bitsOf value 11 0) ∧ value.getLsbD 31 = true ∧ (s.bit (F.CLK_CLKOUT_CFG_EN k.val) && decide (s.get (F.CLK_CLKOUT_CFG_FMT k.val) ≠ 3 ∧ (if s.get (F.CLK_CLKOUT_CFG_FMT k.val) = 0 then 40 else if s.get (F.CLK_CLKOUT_CFG_FMT k.val) = 1 then 20 else 5) ≤ s.get (F.CLK_CLKOUT_CFG_D k.val) ∧ s.get (F.CLK_CLKOUT_CFG_PHASE k.val) < s.get (F.CLK_CLKOUT_CFG_D k.val))) = true ∧ s.waves k.val = [] ∧ (bitsOf value 11 0 ≠ s.get (F.CLK_CLKOUT_CFG_D k.val) ∨ bitsOf value 30 29 ≠ s.get (F.CLK_CLKOUT_CFG_FMT k.val))) ∧
    (∃ (ini : Initiator) (k : Fin 4) (value : BitVec 32) (s : State), s.sends ini true (R.CLK_CLKOUT_CFG k.val) = true ∧ (bitsOf value 30 29 ≠ 3 ∧ (if bitsOf value 30 29 = 0 then 40 else if bitsOf value 30 29 = 1 then 20 else 5) ≤ bitsOf value 11 0 ∧ bitsOf value 23 12 < bitsOf value 11 0) ∧ (value.getLsbD 31 = false ∧ (s.bit (F.CLK_CLKOUT_CFG_EN k.val) && decide (s.get (F.CLK_CLKOUT_CFG_FMT k.val) ≠ 3 ∧ (if s.get (F.CLK_CLKOUT_CFG_FMT k.val) = 0 then 40 else if s.get (F.CLK_CLKOUT_CFG_FMT k.val) = 1 then 20 else 5) ≤ s.get (F.CLK_CLKOUT_CFG_D k.val) ∧ s.get (F.CLK_CLKOUT_CFG_PHASE k.val) < s.get (F.CLK_CLKOUT_CFG_D k.val))) = false ∨ value.getLsbD 31 = true ∧ (s.bit (F.CLK_CLKOUT_CFG_EN k.val) && decide (s.get (F.CLK_CLKOUT_CFG_FMT k.val) ≠ 3 ∧ (if s.get (F.CLK_CLKOUT_CFG_FMT k.val) = 0 then 40 else if s.get (F.CLK_CLKOUT_CFG_FMT k.val) = 1 then 20 else 5) ≤ s.get (F.CLK_CLKOUT_CFG_D k.val) ∧ s.get (F.CLK_CLKOUT_CFG_PHASE k.val) < s.get (F.CLK_CLKOUT_CFG_D k.val))) = true ∧ ¬ (bitsOf value 11 0 ≠ s.get (F.CLK_CLKOUT_CFG_D k.val) ∨ bitsOf value 30 29 ≠ s.get (F.CLK_CLKOUT_CFG_FMT k.val)))) ∧
    (∃ (ini : Initiator) (k : Fin 4) (value : BitVec 32) (s : State), s.sends ini true (R.CLK_CLKOUT_CFG k.val) = true ∧ (¬ (bitsOf value 30 29 ≠ 3 ∧ (if bitsOf value 30 29 = 0 then 40 else if bitsOf value 30 29 = 1 then 20 else 5) ≤ bitsOf value 11 0 ∧ bitsOf value 23 12 < bitsOf value 11 0)) ∧ (value.getLsbD 31 = s.bit (F.CLK_CLKOUT_CFG_EN k.val) ∨ (decide (s.get (F.CLK_CLKOUT_CFG_FMT k.val) ≠ 3 ∧ (if s.get (F.CLK_CLKOUT_CFG_FMT k.val) = 0 then 40 else if s.get (F.CLK_CLKOUT_CFG_FMT k.val) = 1 then 20 else 5) ≤ s.get (F.CLK_CLKOUT_CFG_D k.val) ∧ s.get (F.CLK_CLKOUT_CFG_PHASE k.val) < s.get (F.CLK_CLKOUT_CFG_D k.val))) = false)) ∧
    (∃ (ini : Initiator) (k : Fin 4) (value : BitVec 32) (s : State), s.sends ini true (R.CLK_CLKOUT_CFG k.val) = true ∧ (¬ (bitsOf value 30 29 ≠ 3 ∧ (if bitsOf value 30 29 = 0 then 40 else if bitsOf value 30 29 = 1 then 20 else 5) ≤ bitsOf value 11 0 ∧ bitsOf value 23 12 < bitsOf value 11 0)) ∧ value.getLsbD 31 = true ∧ s.bit (F.CLK_CLKOUT_CFG_EN k.val) = false ∧ (decide (s.get (F.CLK_CLKOUT_CFG_FMT k.val) ≠ 3 ∧ (if s.get (F.CLK_CLKOUT_CFG_FMT k.val) = 0 then 40 else if s.get (F.CLK_CLKOUT_CFG_FMT k.val) = 1 then 20 else 5) ≤ s.get (F.CLK_CLKOUT_CFG_D k.val) ∧ s.get (F.CLK_CLKOUT_CFG_PHASE k.val) < s.get (F.CLK_CLKOUT_CFG_D k.val))) = true) ∧
    (∃ (ini : Initiator) (k : Fin 4) (value : BitVec 32) (s : State), s.sends ini true (R.CLK_CLKOUT_CFG k.val) = true ∧ (¬ (bitsOf value 30 29 ≠ 3 ∧ (if bitsOf value 30 29 = 0 then 40 else if bitsOf value 30 29 = 1 then 20 else 5) ≤ bitsOf value 11 0 ∧ bitsOf value 23 12 < bitsOf value 11 0)) ∧ value.getLsbD 31 = false ∧ s.bit (F.CLK_CLKOUT_CFG_EN k.val) = true ∧ (decide (s.get (F.CLK_CLKOUT_CFG_FMT k.val) ≠ 3 ∧ (if s.get (F.CLK_CLKOUT_CFG_FMT k.val) = 0 then 40 else if s.get (F.CLK_CLKOUT_CFG_FMT k.val) = 1 then 20 else 5) ≤ s.get (F.CLK_CLKOUT_CFG_D k.val) ∧ s.get (F.CLK_CLKOUT_CFG_PHASE k.val) < s.get (F.CLK_CLKOUT_CFG_D k.val))) = true) :=
  ⟨⟨0, wClk, by decide +kernel⟩,
   ⟨1, wClk, by decide +kernel⟩,
   ⟨0, (wClk.set (F.CLK_PLL_STAT_LOCKED 1) 0).set (F.CLK_PLL_STAT_STANDING_BY 1) 0, by decide +kernel⟩,
   ⟨0, wClk.set (F.CLK_PLL_STAT_LOCKED 0) 0, by decide +kernel⟩,
   ⟨5, 5, 1, wClk, by decide +kernel⟩,
   ⟨5, 4, wClk.set (F.CLK_PLL_STAT_LOCKED 1) 0, by decide +kernel⟩,
   ⟨.tap, (wClk.set F.CLK_CTL_CORE 0).set (F.PWR_D_STAT_STATE 20) 2, by decide +kernel⟩,
   ⟨.tap, wClk.set F.CLK_CTL_CORE 0, by decide +kernel⟩,
   ⟨.tap, (wClk.set F.CLK_CTL_CORE 0).set (F.CLK_PLL_STAT_LOCKED 0) 0, by decide +kernel⟩,
   ⟨.tap, wClk.set F.CLK_CTL_CORE 1, by decide +kernel⟩,
   ⟨.tap, ((wClk.set F.CLK_STAT_SUPPLY 1).set (F.CLK_PLL_STAT_STANDING_BY 0) 1).set (F.CLK_PLL_STAT_STANDING_BY 1) 0, by decide +kernel⟩,
   ⟨.tap, wClk, by decide +kernel⟩,
   ⟨.tap, 0xE0000000#64, (((wClk.set F.CLK_STAT_SUPPLY 1).set (F.CLK_PLL_STAT_STANDING_BY 0) 1).set (F.CLK_PLL_STAT_STANDING_BY 1) 0).set F.CLK_CTL_CORE 0, by decide +kernel⟩,
   ⟨.tap, 0#64, wClk.setPll 1 { goHome := true }, by decide +kernel⟩,
   ⟨.tap, 0x40000000#64, (wClk.set F.CLK_CTL_STANDBY 0).set (F.CLK_PLL_STAT_STANDING_BY 1) 0, by decide +kernel⟩,
   ⟨.tap, 0, wClk, by decide +kernel⟩,
   ⟨.tap, 0, wClk.set (F.CLK_PLL_STAT_STANDING_BY 1) 0, by decide +kernel⟩,
   ⟨.tap, 1, wClk, by decide +kernel⟩,
   ⟨.tap, 1, wClk.set (F.CLK_PLL_STAT_LOCKED 0) 0, by decide +kernel⟩,
   ⟨.tap, 1, wClk.setPwrState 22 P.off, by decide +kernel⟩,
   ⟨wClk, by decide +kernel⟩,
   ⟨wClk.set F.CLK_STAT_REF_LOST 1, by decide +kernel⟩,
   ⟨wClk.set F.CLK_STAT_REF_LOST 1, .refLost, true, by decide, by decide +kernel⟩,
   ⟨.tap, 10, 0xFFFFFFFF#64, wClk.setPll 1 { used := some 3, choose := false, move := some true }, by decide +kernel⟩,
   ⟨.tap, 3, 0xD0004005#32, wClk, by decide +kernel⟩,
   ⟨.tap, 3, 0x40003007#32, (wClk.wr (R.CLK_CLKOUT_CFG 3) 0xC0003007).setWaves 3 [{ since := 1, fmt := 2, d := 7, first := 3 }], by decide +kernel⟩,
   ⟨.tap, 3, 0xC0003008#32, (wClk.wr (R.CLK_CLKOUT_CFG 3) 0xC0003007).setWaves 3 [{ since := 1, fmt := 2, d := 7, first := 3 }], by decide +kernel⟩,
   ⟨.tap, 3, 0xC0003008#32, wClk.wr (R.CLK_CLKOUT_CFG 3) 0xC0003007, by decide +kernel⟩,
   ⟨.tap, 3, 0xD0004007#32, (wClk.wr (R.CLK_CLKOUT_CFG 3) 0xC0003007).setWaves 3 [{ since := 1, fmt := 2, d := 7, first := 3 }], by decide +kernel⟩,
   ⟨.tap, 3, 0xC0000004#32, wClk, by decide +kernel⟩,
   ⟨.tap, 3, 0xC0000004#32, wClk.wr (R.CLK_CLKOUT_CFG 3) 0x40003007, by decide +kernel⟩,
   ⟨.tap, 3, 0x40000004#32, (wClk.wr (R.CLK_CLKOUT_CFG 3) 0xC0003007).setWaves 3 [{ since := 1, fmt := 2, d := 7, first := 3 }], by decide +kernel⟩⟩

/-- The hypotheses of InterruptTaking are met. -/
theorem wit_InterruptTaking :
    (∃ (n : Nat) (d : Nat) (t : State) (s : State), n < 1024 ∧ (d = (match ([0, 1, 2, 3].find? fun k => (s.slot n k).pend) with | some k => k | none => if s.retired (s.get (F.IRQ_SRC_CFG_TARGET n)) = true ∨ (∃ x ∈ s.bist.slice, x.kind = 2 ∧ x.unit = s.get (F.IRQ_SRC_CFG_TARGET n) ∧ x.direct = false ∧ x.taken.isSome = true) then s.successor (s.get (F.IRQ_SRC_CFG_TARGET n)) else s.get (F.IRQ_SRC_CFG_TARGET n))) ∧ t = s.raise n) ∧
    (∃ (d : Fin 4) (n : Nat) (s : State), s.choose d.val = some (n, false) ∧ ((s.engine (132 + d.val)).on = true ∧ s.domOn 10 = true ∧ ((s.engine (132 + d.val)).wait = .none ∨ (s.engine (132 + d.val)).wait = .irq)) ∧ (0x10000 ≤ ((s.engine (132 + d.val)).reg 14 - 8#32).toNat ∧ ((s.engine (132 + d.val)).reg 14 - 8#32).toNat < 0x20000 ∧ ((s.engine (132 + d.val)).reg 14 - 8#32).toNat % 8 = 0)) ∧
    (∃ (d : Fin 4) (n : Nat) (u : State) (s : State), s.choose d.val = some (n, false) ∧ ((s.engine (132 + d.val)).on = true ∧ s.domOn 10 = true ∧ ((s.engine (132 + d.val)).wait = .none ∨ (s.engine (132 + d.val)).wait = .irq)) ∧ (¬ (0x10000 ≤ ((s.engine (132 + d.val)).reg 14 - 8#32).toNat ∧ ((s.engine (132 + d.val)).reg 14 - 8#32).toNat < 0x20000 ∧ ((s.engine (132 + d.val)).reg 14 - 8#32).toNat % 8 = 0)) ∧ u = (s.setSlot n d.val { s.slot n d.val with pend := false, act := true, fast := false }).setDrone d.val { s.drone d.val with stack := (n, false) :: (s.drone d.val).stack, refire := (s.drone d.val).refire.filter fun m => m != n }) ∧
    (∃ (d : Fin 4) (s : State), (s.atBoundary d.val = false ∨ s.choose d.val = none ∨ ∃ x ∈ s.choose d.val, x.2 = true)) ∧
    (∃ (d : Fin 4) (n : Nat) (s : State), s.choose d.val = some (n, true) ∧ ((s.engine (132 + d.val)).on = true ∧ s.domOn 10 = true ∧ ((s.engine (132 + d.val)).wait = .none ∨ (s.engine (132 + d.val)).wait = .irq))) ∧
    (∃ (d : Fin 4) (s : State), (s.atBoundary d.val = false ∨ s.choose d.val = none ∨ ∃ x ∈ s.choose d.val, x.2 = false)) :=
  ⟨⟨808, 0, (wMode M.run).raise 808, wMode M.run, by decide, by decide +kernel, rfl⟩,
   ⟨1, 920, wIrq false, by decide +kernel⟩,
   ⟨1, 920, (((wIrq false).setEngine 133 { on := true, pc := 0x100, st := 0x180, regs := [(14, 0x10104)] }).setSlot 920 1 { act := true }).setDrone 1 { stack := [(920, false)] }, (wIrq false).setEngine 133 { on := true, pc := 0x100, st := 0x180, regs := [(14, 0x10104)] }, by decide +kernel, by decide +kernel, by decide +kernel, by decide +kernel⟩,
   ⟨1, wIrq true, by decide +kernel⟩,
   ⟨1, 920, wIrq true, by decide +kernel⟩,
   ⟨1, wIrq false, by decide +kernel⟩⟩

/-- The hypotheses of InterruptRegisters are met. -/
theorem wit_InterruptRegisters :
    (∃ (ini : Initiator) (k : Fin 32) (v : BitVec 32) (s : State), s.sends ini true (R.IRQ_RAISE k.val) = true) ∧
    (∃ (ini : Initiator) (k : Fin 32) (v : BitVec 32) (s : State), s.sends ini true (R.IRQ_PEND k.val) = true) ∧
    (∃ (ini : Initiator) (k : Fin 32) (s : State), s.sends ini false (R.IRQ_PEND k.val) = true ∧ s.sends ini false (R.IRQ_ACTIVE k.val) = true) ∧
    (∃ (ini : Initiator) (d : Fin 4) (s : State), s.sends ini false (R.IRQ_D_STACK d.val) = true ∧ s.sends ini false (R.IRQ_D_STAT d.val) = true) ∧
    (∃ (ini : Initiator) (d : Fin 4) (period : Nat) (s : State), s.sends ini true (R.IRQ_D_WD_CFG d.val) = true ∧ 10 ≤ period ∧ period ≤ 100000) ∧
    (∃ (ini : Initiator) (d : Fin 4) (period : Nat) (s : State), s.sends ini true (R.IRQ_D_WD_CFG d.val) = true ∧ (period < 10 ∨ 100000 < period) ∧ period < 131072) ∧
    (∃ (d : Fin 4) (v : BitVec 32) (s : State), s.sends (.drone d) true (R.IRQ_D_WD_KICK d.val) = true ∧ v = 0xC0DE) ∧
    (∃ (ini : Initiator) (d : Fin 4) (v : BitVec 32) (s : State), s.sends ini true (R.IRQ_D_WD_KICK d.val) = true ∧ (v ≠ 0xC0DE ∨ ini ≠ .drone d)) ∧
    (∃ (ini : Initiator) (d : Fin 4) (s : State), s.sends ini true (R.IRQ_D_CTL d.val) = true ∧ s.retired d.val = true ∧ (∀ x ∈ (s.bist.slice.toList : List Slice), ¬ (x.kind = 2 ∧ x.unit = d.val)) ∧ (∀ x ∈ (s.bist.slice.toList : List Slice), ¬ (x.kind = 2 ∧ x.taken = none ∧ x.direct = false)) ∧ (s.irq.map fun e => e.1).Nodup) ∧
    (∃ (ini : Initiator) (d : Fin 4) (s : State), s.sends ini true (R.IRQ_D_CTL d.val) = true ∧ s.retired d.val = true ∧ (∀ x ∈ (s.bist.slice.toList : List Slice), ¬ (x.kind = 2 ∧ x.unit = d.val)) ∧ (∃ x ∈ (s.bist.slice.toList : List Slice), x.kind = 2 ∧ x.taken = none ∧ x.direct = false)) ∧
    (∃ (ini : Initiator) (d : Fin 4) (s : State), s.sends ini true (R.IRQ_D_CTL d.val) = true ∧ (s.retired d.val = false ∨ ¬ (∀ x ∈ (s.bist.slice.toList : List Slice), ¬ (x.kind = 2 ∧ x.unit = d.val)))) :=
  ⟨⟨.tap, 28, 0x81FFFFFF, wMode M.run, by decide +kernel⟩,
   ⟨.tap, 28, 0x01000000, wIrq true, by decide +kernel⟩,
   ⟨.tap, 28, (wIrq true).setSlot 921 3 { act := true }, by decide +kernel, by decide +kernel⟩,
   ⟨.tap, 1, (wIrq true).setDrone 1 { stack := [(808, true), (657, false)] }, by decide +kernel, by decide +kernel⟩,
   ⟨.tap, 2, 100000, wMode M.run, by decide +kernel⟩,
   ⟨.tap, 2, 9, { wMode M.run with now := 900 }, by decide +kernel⟩,
   ⟨3, 0xC0DE, { wEng with now := 777 }, by decide +kernel, by decide⟩,
   ⟨.tap, 3, 0xC0DE, { wEng with now := 777 }, by decide +kernel, by decide⟩,
   ⟨.tap, 3, (wMode M.run).set (F.IRQ_D_STAT_RETIRED 3) 1, by decide +kernel⟩,
   ⟨.tap, 3, (((wBist.set (F.IRQ_D_STAT_RETIRED 3) 1).putSlice { manual := false, kind := 2, unit := 1, at_ := 50 } 1).setEngine 133 { on := true, wait := .irq }), by decide +kernel⟩,
   ⟨.tap, 3, wMode M.run, by decide +kernel⟩⟩

/-- The hypotheses of DroneFailures are met. -/
theorem wit_DroneFailures :
    (∃ (d : Fin 4) (w : Nat) (s : State), (s.bit (F.IRQ_D_WD_CFG_EN d.val) = true ∧ 10 ≤ s.get (F.IRQ_D_WD_CFG_PERIOD d.val) ∧ s.get (F.IRQ_D_WD_CFG_PERIOD d.val) ≤ 100000 ∧ s.mode ∈ ([M.init, M.armed, M.run, M.runSpared, M.hold, M.service, M.provision] : List Nat) ∧ (s.drone d.val).halted = false ∧ s.retired d.val = false ∧ (∀ x ∈ (s.bist.slice.toList : List Slice), ¬ (x.kind = 2 ∧ x.unit = d.val ∧ x.direct = false ∧ x.taken.isSome = true)) ∧ s.domOn 10 = true ∧ (s.drone d.val).restart = none ∧ (s.drone d.val).wdRef + s.get (F.IRQ_D_WD_CFG_PERIOD d.val) * 400 ≤ w) ∧ ¬ (∃ a ∈ ((s.drone d.val).lastExpiry.toList : List Nat), (max s.now w) - a < 400000000)) ∧
    (∃ (d : Fin 4) (w : Nat) (s : State), (s.bit (F.IRQ_D_WD_CFG_EN d.val) = true ∧ 10 ≤ s.get (F.IRQ_D_WD_CFG_PERIOD d.val) ∧ s.get (F.IRQ_D_WD_CFG_PERIOD d.val) ≤ 100000 ∧ s.mode ∈ ([M.init, M.armed, M.run, M.runSpared, M.hold, M.service, M.provision] : List Nat) ∧ (s.drone d.val).halted = false ∧ s.retired d.val = false ∧ (∀ x ∈ (s.bist.slice.toList : List Slice), ¬ (x.kind = 2 ∧ x.unit = d.val ∧ x.direct = false ∧ x.taken.isSome = true)) ∧ s.domOn 10 = true ∧ (s.drone d.val).restart = none ∧ (s.drone d.val).wdRef + s.get (F.IRQ_D_WD_CFG_PERIOD d.val) * 400 ≤ w) ∧ (∃ a ∈ ((s.drone d.val).lastExpiry.toList : List Nat), (max s.now w) - a < 400000000) ∧ (¬ (∀ q : Nat, q < 4 → s.retired q = false))) ∧
    (∃ (d : Fin 4) (w : Nat) (s : State), (s.bit (F.IRQ_D_WD_CFG_EN d.val) = true ∧ 10 ≤ s.get (F.IRQ_D_WD_CFG_PERIOD d.val) ∧ s.get (F.IRQ_D_WD_CFG_PERIOD d.val) ≤ 100000 ∧ s.mode ∈ ([M.init, M.armed, M.run, M.runSpared, M.hold, M.service, M.provision] : List Nat) ∧ (s.drone d.val).halted = false ∧ s.retired d.val = false ∧ (∀ x ∈ (s.bist.slice.toList : List Slice), ¬ (x.kind = 2 ∧ x.unit = d.val ∧ x.direct = false ∧ x.taken.isSome = true)) ∧ s.domOn 10 = true ∧ (s.drone d.val).restart = none ∧ (s.drone d.val).wdRef + s.get (F.IRQ_D_WD_CFG_PERIOD d.val) * 400 ≤ w) ∧ (∃ a ∈ ((s.drone d.val).lastExpiry.toList : List Nat), (max s.now w) - a < 400000000) ∧ (∀ q : Nat, q < 4 → s.retired q = false) ∧ (s.irq.map fun e => e.1).Nodup) ∧
    (∃ (d : Fin 4) (w : Nat) (s : State), (¬ (s.bit (F.IRQ_D_WD_CFG_EN d.val) = true ∧ 10 ≤ s.get (F.IRQ_D_WD_CFG_PERIOD d.val) ∧ s.get (F.IRQ_D_WD_CFG_PERIOD d.val) ≤ 100000 ∧ s.mode ∈ ([M.init, M.armed, M.run, M.runSpared, M.hold, M.service, M.provision] : List Nat) ∧ (s.drone d.val).halted = false ∧ s.retired d.val = false ∧ (∀ x ∈ (s.bist.slice.toList : List Slice), ¬ (x.kind = 2 ∧ x.unit = d.val ∧ x.direct = false ∧ x.taken.isSome = true)) ∧ s.domOn 10 = true ∧ (s.drone d.val).restart = none ∧ (s.drone d.val).wdRef + s.get (F.IRQ_D_WD_CFG_PERIOD d.val) * 400 ≤ w))) ∧
    (∃ (d : Fin 4) (k : Nat) (t : State) (s : State), ¬ (∃ a ∈ ((s.drone d.val).lastExpiry.toList : List Nat), s.now - a < 400000000) ∧ t = s.exception (132 + d.val) k) ∧
    (∃ (d : Fin 4) (k : Nat) (t : State) (s : State), (∃ a ∈ ((s.drone d.val).lastExpiry.toList : List Nat), s.now - a < 400000000) ∧ (¬ (∀ q : Nat, q < 4 → s.retired q = false)) ∧ t = s.exception (132 + d.val) k) ∧
    (∃ (d : Fin 4) (k : Nat) (t : State) (s : State), (∃ a ∈ ((s.drone d.val).lastExpiry.toList : List Nat), s.now - a < 400000000) ∧ (∀ q : Nat, q < 4 → s.retired q = false) ∧ (s.irq.map fun e => e.1).Nodup ∧ t = s.exception (132 + d.val) k) ∧
    (∃ (d : Fin 4) (w : Nat) (entry : Fin 16) (s : State), (s.drone d.val).restart = some entry.val ∧ (s.irq.map fun e => e.1).Nodup) ∧
    (∃ (d : Fin 4) (w : Nat) (s : State), (s.drone d.val).restart = none) :=
  ⟨⟨1, 4000, ((wMode M.run).set (F.IRQ_D_WD_CFG_EN 1) 1).set (F.IRQ_D_WD_CFG_PERIOD 1) 10, by decide +kernel⟩,
   ⟨1, 4000, ((((wMode M.run).set (F.IRQ_D_WD_CFG_EN 1) 1).set (F.IRQ_D_WD_CFG_PERIOD 1) 10).setDrone 1 { lastExpiry := some 5 }).set (F.IRQ_D_STAT_RETIRED 2) 1, by decide +kernel⟩,
   ⟨1, 4000, (((wMode M.run).set (F.IRQ_D_WD_CFG_EN 1) 1).set (F.IRQ_D_WD_CFG_PERIOD 1) 10).setDrone 1 { lastExpiry := some 5 }, by decide +kernel⟩,
   ⟨1, 3999, ((wMode M.run).set (F.IRQ_D_WD_CFG_EN 1) 1).set (F.IRQ_D_WD_CFG_PERIOD 1) 10, by decide +kernel⟩,
   ⟨1, 6, wEng.exception 133 6, wEng, by decide +kernel, rfl⟩,
   ⟨1, 6, ((wEng.setDrone 1 { lastExpiry := some 0 }).set (F.IRQ_D_STAT_RETIRED 2) 1).exception 133 6, (wEng.setDrone 1 { lastExpiry := some 0 }).set (F.IRQ_D_STAT_RETIRED 2) 1, by decide +kernel, by decide +kernel, rfl⟩,
   ⟨1, 6, (wEng.setDrone 1 { lastExpiry := some 0 }).exception 133 6, wEng.setDrone 1 { lastExpiry := some 0 }, by decide +kernel, by decide +kernel, by decide +kernel, rfl⟩,
   ⟨1, 4000, 1, (wMode M.run).setDrone 1 { restart := some 1 }, by decide +kernel⟩,
   ⟨1, 4000, wMode M.run, by decide +kernel⟩⟩

/-- The hypotheses of Snapshots are met. -/
theorem wit_Snapshots :
    (∃ (src m : Nat) (M : Fin 256) (s u : State), (∀ i : Nat, i < 8 → M.val.testBit i = (src.testBit i && (i != 0 || s.bit F.SNAP_CTL_PIN_EN) && (i != 3 || (s.bit F.FAB_RIM_CTL_SNAP_EN && u.rimRises m 0 112 255 0)))) ∧ M.val ≠ 0 ∧ u = (if src.testBit 3 = true then s.at_ (s.clk.epoch.getD 0 + m / 2) else s)) ∧
    (∃ (src m : Nat) (M : Fin 256) (s u : State), (∀ i : Nat, i < 8 → M.val.testBit i = (src.testBit i && (i != 0 || s.bit F.SNAP_CTL_PIN_EN) && (i != 3 || (s.bit F.FAB_RIM_CTL_SNAP_EN && u.rimRises m 0 112 255 0)))) ∧ M.val = 0 ∧ u = (if src.testBit 3 = true then s.at_ (s.clk.epoch.getD 0 + m / 2) else s)) ∧
    (∃ (ini : Initiator) (s u : State), s.sends ini true R.SNAP_CTL = true ∧ u = s.assertSnap 4) ∧
    (∃ (ini : Initiator) (s : State), s.sends ini true R.SNAP_CTL = true) ∧
    (∃ (ini : Initiator) (v : BitVec 64) (s u : State), s.sends ini true R.SNAP_CTL = true ∧ v.getLsbD 31 = true ∧ v.getLsbD 30 = true ∧ bitsOf (v.setWidth 32) 1 0 = bitsOf (s.rd R.SNAP_CTL) 1 0 ∧ (¬ (s.snapAt.map (· / 2) = some (s.now / 2) ∧ s.bit F.SNAP_STAT_FULL = true ∧ (s.rdN R.SNAP_TIME_HI * 2 ^ 32 + s.rdN R.SNAP_TIME_LO) / 2 = s.now / 2 % 2 ^ 63)) ∧ u = (s.set F.SNAP_STAT_FULL 0).assertSnap 4) ∧
    (∃ (src : Nat) (t s : State), ¬ s.mode ∈ ([M.init, M.armed, M.run, M.runSpared, M.hold, M.service, M.provision] : List Nat) ∧ t = s.assertSnap src) ∧
    (∃ (src : Nat) (t s : State), s.mode ∈ ([M.init, M.armed, M.run, M.runSpared, M.hold, M.service, M.provision] : List Nat) ∧ (s.bit F.EMN_TRIG_CFG_SNAP_FWD && s.regValid R.EMN_TRIG_CFG) = true ∧ t = s.assertSnap src) ∧
    (∃ (src : Nat) (t s : State), s.mode ∈ ([M.init, M.armed, M.run, M.runSpared, M.hold, M.service, M.provision] : List Nat) ∧ (s.bit F.EMN_TRIG_CFG_SNAP_FWD && s.regValid R.EMN_TRIG_CFG) = false ∧ s.snapAt.map (· / 2) = some (s.now / 2) ∧ t = s.assertSnap src) ∧
    (∃ (src : Nat) (t s : State), s.mode ∈ ([M.init, M.armed, M.run, M.runSpared, M.hold, M.service, M.provision] : List Nat) ∧ (s.bit F.EMN_TRIG_CFG_SNAP_FWD && s.regValid R.EMN_TRIG_CFG) = false ∧ s.snapAt.map (· / 2) ≠ some (s.now / 2) ∧ s.bit F.SNAP_STAT_FULL = true ∧ s.bit F.SNAP_CTL_OVERWRITE = false ∧ t = s.assertSnap src) ∧
    (∃ (src : Nat) (t s : State), s.mode ∈ ([M.init, M.armed, M.run, M.runSpared, M.hold, M.service, M.provision] : List Nat) ∧ (s.bit F.EMN_TRIG_CFG_SNAP_FWD && s.regValid R.EMN_TRIG_CFG) = false ∧ s.snapAt.map (· / 2) ≠ some (s.now / 2) ∧ (s.bit F.SNAP_STAT_FULL = false ∨ s.bit F.SNAP_CTL_OVERWRITE = true) ∧ src < 256 ∧ t = s.assertSnap src) ∧
    (∃ (n : Nat) (s : State), n < 256) :=
  ⟨⟨0x29, 20, 0x20, wMode M.run, (wMode M.run).at_ 10, by decide +kernel, by decide, by decide +kernel⟩,
   ⟨9, 20, 0, wMode M.run, (wMode M.run).at_ 10, by decide +kernel, by decide, by decide +kernel⟩,
   ⟨.tap, wMode M.run, (wMode M.run).assertSnap 4, by decide +kernel, rfl⟩,
   ⟨.tap, (wMode M.run).set F.SNAP_STAT_FULL 1, by decide +kernel⟩,
   ⟨.tap, 0xC0000000#64, (wMode M.run).set F.SNAP_STAT_FULL 1, ((wMode M.run).set F.SNAP_STAT_FULL 1 |>.set F.SNAP_STAT_FULL 0).assertSnap 4, by decide +kernel, by decide, by decide, by decide +kernel, by decide +kernel, rfl⟩,
   ⟨4, (wMode M.quarantine).assertSnap 4, wMode M.quarantine, by decide +kernel, rfl⟩,
   ⟨4, ((wEmn.set F.EMN_TRIG_CFG_SNAP_FWD 1).set F.EMN_TRIG_CFG_BUDGET 900).assertSnap 4, (wEmn.set F.EMN_TRIG_CFG_SNAP_FWD 1).set F.EMN_TRIG_CFG_BUDGET 900, by decide +kernel, by decide +kernel, rfl⟩,
   ⟨0x20, { (wMode M.run).set F.SNAP_STAT_FULL 1 with snapAt := some 0 }.assertSnap 0x20, { (wMode M.run).set F.SNAP_STAT_FULL 1 with snapAt := some 0 }, by decide +kernel, by decide +kernel, by decide +kernel, rfl⟩,
   ⟨0x20, ((wMode M.run).set F.SNAP_STAT_FULL 1).assertSnap 0x20, (wMode M.run).set F.SNAP_STAT_FULL 1, by decide +kernel, by decide +kernel, by decide +kernel, by decide +kernel, by decide +kernel, rfl⟩,
   ⟨0x20, ({ wMode M.run with now := 0x123456789A }).assertSnap 0x20, { wMode M.run with now := 0x123456789A }, by decide +kernel, by decide +kernel, by decide +kernel, by decide +kernel, by decide +kernel, rfl⟩,
   ⟨1, wMode M.run, by decide +kernel⟩⟩

/-- The hypotheses of UpsetsAndScrubbing are met. -/
theorem wit_UpsetsAndScrubbing :
    (∃ (a : Nat) (bits : List (Fin 80)) (s : State), gridWord a = true ∧ s.wordHeld a = true) ∧
    (∃ (a : Nat) (bits : List (Fin 80)) (s : State), (gridWord a = false ∨ s.wordHeld a = false)) ∧
    (∃ (ini : Initiator) (i : Instr) (op : Nat) (s : State), (op, i) ∈ ([(0, .scrubPass ini), (1, .fillPass ini)] : List (Nat × Instr)) ∧ s.sends ini true R.ECC_SCRUB_CTL = true ∧ s.get F.ECC_SCRUB_STAT_STATE ≠ 1 ∧ ((s.rdN R.ECC_SCRUB_START) % 8 = 0 ∧ (s.rdN R.ECC_SCRUB_END) % 8 = 0 ∧ (s.rdN R.ECC_SCRUB_START) < (s.rdN R.ECC_SCRUB_END) ∧ (0x20000000 ≤ (s.rdN R.ECC_SCRUB_START) ∧ (s.rdN R.ECC_SCRUB_END) ≤ 0x22000000 ∨ 0x22000000 ≤ (s.rdN R.ECC_SCRUB_START) ∧ (s.rdN R.ECC_SCRUB_END) ≤ 0x220C0000 ∨ 0x23000000 ≤ (s.rdN R.ECC_SCRUB_START) ∧ (s.rdN R.ECC_SCRUB_END) ≤ 0x23400000 ∨ 0x40000000 ≤ (s.rdN R.ECC_SCRUB_START) ∧ (s.rdN R.ECC_SCRUB_END) ≤ 0x40420000 ∨ 0x41000000 ≤ (s.rdN R.ECC_SCRUB_START) ∧ (s.rdN R.ECC_SCRUB_END) ≤ 0x41080000)) ∧ (op = 0 ∨ ((s.mode = M.init ∨ s.mode = M.armed ∨ s.mode = M.service) ∧ s.drainState ≠ 2))) ∧
    (∃ (ini : Initiator) (i : Instr) (op : Nat) (s : State), (op, i) ∈ ([(0, .scrubPass ini), (1, .fillPass ini)] : List (Nat × Instr)) ∧ s.sends ini true R.ECC_SCRUB_CTL = true ∧ s.get F.ECC_SCRUB_STAT_STATE ≠ 1 ∧ (¬ ((s.rdN R.ECC_SCRUB_START) % 8 = 0 ∧ (s.rdN R.ECC_SCRUB_END) % 8 = 0 ∧ (s.rdN R.ECC_SCRUB_START) < (s.rdN R.ECC_SCRUB_END) ∧ (0x20000000 ≤ (s.rdN R.ECC_SCRUB_START) ∧ (s.rdN R.ECC_SCRUB_END) ≤ 0x22000000 ∨ 0x22000000 ≤ (s.rdN R.ECC_SCRUB_START) ∧ (s.rdN R.ECC_SCRUB_END) ≤ 0x220C0000 ∨ 0x23000000 ≤ (s.rdN R.ECC_SCRUB_START) ∧ (s.rdN R.ECC_SCRUB_END) ≤ 0x23400000 ∨ 0x40000000 ≤ (s.rdN R.ECC_SCRUB_START) ∧ (s.rdN R.ECC_SCRUB_END) ≤ 0x40420000 ∨ 0x41000000 ≤ (s.rdN R.ECC_SCRUB_START) ∧ (s.rdN R.ECC_SCRUB_END) ≤ 0x41080000)) ∨ op = 1 ∧ ¬ ((s.mode = M.init ∨ s.mode = M.armed ∨ s.mode = M.service) ∧ s.drainState ≠ 2))) ∧
    (∃ (ini : Initiator) (i : Instr) (op : Nat) (s : State), (op, i) ∈ ([(0, .scrubPass ini), (1, .fillPass ini)] : List (Nat × Instr)) ∧ s.sends ini true R.ECC_SCRUB_CTL = true ∧ s.get F.ECC_SCRUB_STAT_STATE = 1) ∧
    (∃ (ini : Initiator) (s : State), s.sends ini true R.ECC_SCRUB_CTL = true ∧ s.get F.ECC_SCRUB_CTL_OP ≤ 1) ∧
    (∃ (d : Nat) (t s : State), d < 23 ∧ t = s.scrubLeave d) ∧
    (∃ (w words c : Nat) (late L D : List Nat) (s : State), s.get F.ECC_SCRUB_STAT_STATE = 1 ∧ (s.scrub.passOp ≠ 1 ∧ s.rdN R.ECC_SCRUB_CORR = 0 ∧ s.rdN R.ECC_SCRUB_UNC = 0) ∧ L = ((List.range (((s.rdN R.ECC_SCRUB_END) - (s.rdN R.ECC_SCRUB_START)) / 8)).map fun i => (s.rdN R.ECC_SCRUB_START) + 8 * i).filter gridWord ∧ (c = (if s.bit F.ECC_SCRUB_CTL_ABORT = true then 1 else if s.scrub.left = false ∧ (∀ x ∈ L, s.wordOn x = true) then 0 else 2)) ∧ D = (if c = 0 then L else L.take (min words ((max s.now w - s.scrub.from_) / 2))) ∧ D.length ≤ (max s.now w - s.scrub.from_) / 2) ∧
    (∃ (w words c : Nat) (late L D : List Nat) (s : State), s.get F.ECC_SCRUB_STAT_STATE = 1 ∧ s.scrub.passOp = 1 ∧ L = ((List.range (((s.rdN R.ECC_SCRUB_END) - (s.rdN R.ECC_SCRUB_START)) / 8)).map fun i => (s.rdN R.ECC_SCRUB_START) + 8 * i).filter gridWord ∧ (c = (if s.bit F.ECC_SCRUB_CTL_ABORT = true then 1 else if s.scrub.left = false ∧ (∀ x ∈ L, s.wordOn x = true) then 0 else 2)) ∧ D = (if c = 0 then L else L.take (min words ((max s.now w - s.scrub.from_) / 2))) ∧ D.length ≤ (max s.now w - s.scrub.from_) / 2) ∧
    (∃ (w words c : Nat) (late L D : List Nat) (s : State), L = ((List.range (((s.rdN R.ECC_SCRUB_END) - (s.rdN R.ECC_SCRUB_START)) / 8)).map fun i => (s.rdN R.ECC_SCRUB_START) + 8 * i).filter gridWord ∧ (c = (if s.bit F.ECC_SCRUB_CTL_ABORT = true then 1 else if s.scrub.left = false ∧ (∀ x ∈ L, s.wordOn x = true) then 0 else 2)) ∧ D = (if c = 0 then L else L.take (min words ((max s.now w - s.scrub.from_) / 2))) ∧ (s.get F.ECC_SCRUB_STAT_STATE ≠ 1 ∨ (max s.now w - s.scrub.from_) / 2 < D.length)) ∧
    (∃ (m : Fin 6) (a : Nat) (s : State), a % 8 = 0) ∧
    (∃ (m : Fin 6) (w paused : Nat) (V : List Nat) (s : State), V = ((classWords m.val).filter s.wordOn) ∧ s.bit F.ECC_CTL_IDLE_EN = true ∧ (m.val = 5 ∨ ∃ e ∈ ([(0, 0x21FFFFF8), (1, 0x220BFFF8), (2, 0x233FFFF8), (3, 0x4041DFF8), (4, 0x4107FFF8)] : List (Nat × Nat)), e.1 = m.val ∧ s.wordOn e.2 = true)) ∧
    (∃ (m : Fin 6) (w paused : Nat) (s : State), (s.bit F.ECC_CTL_IDLE_EN = false ∨ ¬ (m.val = 5 ∨ ∃ e ∈ ([(0, 0x21FFFFF8), (1, 0x220BFFF8), (2, 0x233FFFF8), (3, 0x4041DFF8), (4, 0x4107FFF8)] : List (Nat × Nat)), e.1 = m.val ∧ s.wordOn e.2 = true))) ∧
    (∃ (p : Bool) (m : Fin 6) (s : State), (if p = true then s.get F.ECC_SCRUB_STAT_STATE = 1 else s.bit F.ECC_CTL_IDLE_EN = true)) ∧
    (∃ (p : Bool) (m : Fin 6) (s : State), ¬ (if p = true then s.get F.ECC_SCRUB_STAT_STATE = 1 else s.bit F.ECC_CTL_IDLE_EN = true)) :=
  ⟨⟨0x23000010, [0, 79], wMode M.run, by decide, by decide +kernel⟩,
   ⟨0x40007000, [0, 79], wMode M.run, by decide +kernel⟩,
   ⟨.tap, .scrubPass .tap, 0, wScrub, by decide, by decide +kernel⟩,
   ⟨.tap, .fillPass .tap, 1, wScrub, by decide, by decide +kernel⟩,
   ⟨.tap, .fillPass .tap, 1, wScrub.set F.ECC_SCRUB_STAT_STATE 1, by decide, by decide +kernel⟩,
   ⟨.tap, wScrub.set F.ECC_SCRUB_STAT_STATE 1, by decide +kernel, by decide +kernel⟩,
   ⟨2, (wScrub.set F.ECC_SCRUB_STAT_STATE 1).scrubLeave 2, wScrub.set F.ECC_SCRUB_STAT_STATE 1, by decide, rfl⟩,
   ⟨100, 0, 0, [], [0x23000010, 0x23000018], [0x23000010, 0x23000018], ((wScrub.set F.ECC_SCRUB_STAT_STATE 1).setMemWord 0x23000010 (gridEncode 5 ^^^ BitVec.ofNat 80 (2 ^ 79))), by decide +kernel, by decide +kernel, by decide +kernel, by decide +kernel, by decide +kernel, by decide +kernel⟩,
   ⟨100, 0, 0, [0x23000018], [0x23000010, 0x23000018], [0x23000010, 0x23000018], { (((wScrub.set F.ECC_SCRUB_STAT_STATE 1).wr R.ECC_SCRUB_FILL_HI 7).wr R.ECC_SCRUB_FILL_LO 9) with scrub := { passOp := 1 } }, by decide +kernel, by decide +kernel, by decide +kernel, by decide +kernel, by decide +kernel, by decide +kernel⟩,
   ⟨3, 0, 0, [], [0x23000010, 0x23000018], [0x23000010, 0x23000018], (wScrub.set F.ECC_SCRUB_STAT_STATE 1), by decide +kernel, by decide +kernel, by decide +kernel, by decide +kernel⟩,
   ⟨1, 0x220BFFF8, wMode M.run, by decide⟩,
   ⟨5, 4000000, 400000, [], wScrub, by decide +kernel, by decide +kernel, by decide +kernel⟩,
   ⟨5, 4000000, 400000, wScrub.set F.ECC_CTL_IDLE_EN 0, by decide +kernel⟩,
   ⟨false, 3, wScrub, by decide +kernel⟩,
   ⟨true, 3, wScrub, by decide +kernel⟩⟩

/-- The hypotheses of SelfTestSlices are met. -/
theorem wit_SelfTestSlices :
    (∃ (w : Nat) (s : State), (¬ (1 ≤ s.get F.BIST_CFG_PERIOD_MS ∧ 10 ≤ s.get F.BIST_CFG_BUDGET_US ∧ s.get F.BIST_CFG_BUDGET_US ≤ 1000 ∧ (∀ a ∈ (s.bist.tickAt.toList : List Nat), a < (max s.now w) ∧ ((max s.now w) - a) % (s.get F.BIST_CFG_PERIOD_MS * 400000) = 0)))) ∧
    (∃ (w : Nat) (s : State), (1 ≤ s.get F.BIST_CFG_PERIOD_MS ∧ 10 ≤ s.get F.BIST_CFG_BUDGET_US ∧ s.get F.BIST_CFG_BUDGET_US ≤ 1000 ∧ (∀ a ∈ (s.bist.tickAt.toList : List Nat), a < (max s.now w) ∧ ((max s.now w) - a) % (s.get F.BIST_CFG_PERIOD_MS * 400000) = 0)) ∧ (¬ (s.mode ∈ ([M.init, M.armed, M.run, M.runSpared, M.hold, M.service] : List Nat) ∧ s.bist.slice = none) ∨ s.bist.manual = none ∧ s.bit F.BIST_CTL_EN = false)) ∧
    (∃ (w k n : Nat) (s u : State), (1 ≤ s.get F.BIST_CFG_PERIOD_MS ∧ 10 ≤ s.get F.BIST_CFG_BUDGET_US ∧ s.get F.BIST_CFG_BUDGET_US ≤ 1000 ∧ (∀ a ∈ (s.bist.tickAt.toList : List Nat), a < (max s.now w) ∧ ((max s.now w) - a) % (s.get F.BIST_CFG_PERIOD_MS * 400000) = 0)) ∧ (s.mode ∈ ([M.init, M.armed, M.run, M.runSpared, M.hold, M.service] : List Nat) ∧ s.bist.slice = none) ∧ s.bist.manual = some (k, n) ∧ u = { s with now := (max s.now w), bist := { s.bist with tickAt := some (max s.now w), manual := none } }) ∧
    (∃ (w e i : Nat) (s u : State), (1 ≤ s.get F.BIST_CFG_PERIOD_MS ∧ 10 ≤ s.get F.BIST_CFG_BUDGET_US ∧ s.get F.BIST_CFG_BUDGET_US ≤ 1000 ∧ (∀ a ∈ (s.bist.tickAt.toList : List Nat), a < (max s.now w) ∧ ((max s.now w) - a) % (s.get F.BIST_CFG_PERIOD_MS * 400000) = 0)) ∧ (s.mode ∈ ([M.init, M.armed, M.run, M.runSpared, M.hold, M.service] : List Nat) ∧ s.bist.slice = none) ∧ (s.bist.manual = none ∧ s.bit F.BIST_CTL_EN = true) ∧ (e = (if s.get (F.BIST_PLAN_KIND s.bist.entry) = 0 then 0 else s.bist.entry) ∧ i = (if s.get (F.BIST_PLAN_KIND s.bist.entry) = 0 then 0 else s.bist.idx)) ∧ ((s.get (F.BIST_PLAN_KIND e)) = 1 ∧ (s.get (F.BIST_PLAN_FIRST e) + i) < 132 ∨ (s.get (F.BIST_PLAN_KIND e)) = 2 ∧ (s.get (F.BIST_PLAN_FIRST e) + i) < 4 ∨ (s.get (F.BIST_PLAN_KIND e)) = 3 ∧ (s.get (F.BIST_PLAN_FIRST e) + i) < 8192 ∨ (s.get (F.BIST_PLAN_KIND e)) = 4 ∧ (s.get (F.BIST_PLAN_FIRST e) + i) < 192 ∨ (s.get (F.BIST_PLAN_KIND e)) = 5 ∧ (s.get (F.BIST_PLAN_FIRST e) + i) < 1024 ∨ (s.get (F.BIST_PLAN_KIND e)) = 6 ∧ (s.get (F.BIST_PLAN_FIRST e) + i) < 256) ∧ u = { s with now := (max s.now w), bist := { s.bist with tickAt := some (max s.now w), entry := e, idx := i } }) ∧
    (∃ (w e i : Nat) (s u : State), (1 ≤ s.get F.BIST_CFG_PERIOD_MS ∧ 10 ≤ s.get F.BIST_CFG_BUDGET_US ∧ s.get F.BIST_CFG_BUDGET_US ≤ 1000 ∧ (∀ a ∈ (s.bist.tickAt.toList : List Nat), a < (max s.now w) ∧ ((max s.now w) - a) % (s.get F.BIST_CFG_PERIOD_MS * 400000) = 0)) ∧ (s.mode ∈ ([M.init, M.armed, M.run, M.runSpared, M.hold, M.service] : List Nat) ∧ s.bist.slice = none) ∧ (s.bist.manual = none ∧ s.bit F.BIST_CTL_EN = true) ∧ (e = (if s.get (F.BIST_PLAN_KIND s.bist.entry) = 0 then 0 else s.bist.entry) ∧ i = (if s.get (F.BIST_PLAN_KIND s.bist.entry) = 0 then 0 else s.bist.idx)) ∧ (¬ ((s.get (F.BIST_PLAN_KIND e)) = 1 ∧ (s.get (F.BIST_PLAN_FIRST e) + i) < 132 ∨ (s.get (F.BIST_PLAN_KIND e)) = 2 ∧ (s.get (F.BIST_PLAN_FIRST e) + i) < 4 ∨ (s.get (F.BIST_PLAN_KIND e)) = 3 ∧ (s.get (F.BIST_PLAN_FIRST e) + i) < 8192 ∨ (s.get (F.BIST_PLAN_KIND e)) = 4 ∧ (s.get (F.BIST_PLAN_FIRST e) + i) < 192 ∨ (s.get (F.BIST_PLAN_KIND e)) = 5 ∧ (s.get (F.BIST_PLAN_FIRST e) + i) < 1024 ∨ (s.get (F.BIST_PLAN_KIND e)) = 6 ∧ (s.get (F.BIST_PLAN_FIRST e) + i) < 256)) ∧ u = { s with now := (max s.now w), bist := { s.bist with tickAt := some (max s.now w), entry := e, idx := i } }) ∧
    (∃ (x : Slice) (t s : State), s.domOn (unitDomain x.kind x.unit) = false ∧ t = s.sliceStart x) ∧
    (∃ (x : Slice) (t s : State), (x.kind = 3 ∨ x.kind = 4 ∨ x.kind = 5) ∧ s.domOn (unitDomain x.kind x.unit) = true ∧ t = s.sliceStart x) ∧
    (∃ (x : Slice) (t s : State), x.kind = 6 ∧ s.domOn (unitDomain x.kind x.unit) = true ∧ (¬ (1 ≤ s.get F.CFG_PR_STAT_STATE ∧ s.get F.CFG_PR_STAT_STATE ≤ 4)) ∧ (s.bitAt (R.BIST_TRACT_BAD (x.unit / 32)) (x.unit % 32) = false ∧ ∀ i : Nat, i < 16 → (s.frameRec (16 * x.unit + i)).golden = (crc32c (zeros 640)).toNat) ∧ t = s.sliceStart x) ∧
    (∃ (x : Slice) (t s : State), x.kind = 6 ∧ s.domOn (unitDomain x.kind x.unit) = true ∧ (1 ≤ s.get F.CFG_PR_STAT_STATE ∧ s.get F.CFG_PR_STAT_STATE ≤ 4) ∧ t = s.sliceStart x) ∧
    (∃ (x : Slice) (t s : State), x.kind = 6 ∧ s.domOn (unitDomain x.kind x.unit) = true ∧ (¬ (1 ≤ s.get F.CFG_PR_STAT_STATE ∧ s.get F.CFG_PR_STAT_STATE ≤ 4)) ∧ (¬ (s.bitAt (R.BIST_TRACT_BAD (x.unit / 32)) (x.unit % 32) = false ∧ ∀ i : Nat, i < 16 → (s.frameRec (16 * x.unit + i)).golden = (crc32c (zeros 640)).toNat)) ∧ t = s.sliceStart x) ∧
    (∃ (x : Slice) (t s : State), (x.kind = 1 ∧ x.unit < 128) ∧ s.domOn (unitDomain x.kind x.unit) = true ∧ s.get (F.CHT_C_STAT_STATE x.unit) = C.retired ∧ t = s.sliceStart x) ∧
    (∃ (x : Slice) (t s : State), (x.kind = 1 ∧ x.unit < 128) ∧ s.domOn (unitDomain x.kind x.unit) = true ∧ s.get (F.CHT_C_STAT_STATE x.unit) ≠ C.retired ∧ (s.get (F.CHT_GRP_SPARE_STATE (x.unit / 32)) = 0 ∧ s.claimWaits (x.unit / 32) = false) ∧ t = s.sliceStart x) ∧
    (∃ (x : Slice) (t s : State), (x.kind = 1 ∧ x.unit < 128) ∧ s.domOn (unitDomain x.kind x.unit) = true ∧ s.get (F.CHT_C_STAT_STATE x.unit) ≠ C.retired ∧ (s.get (F.CHT_GRP_SPARE_STATE (x.unit / 32)) ≠ 0 ∨ s.claimWaits (x.unit / 32) = true) ∧ t = s.sliceStart x) ∧
    (∃ (x : Slice) (t s : State), (x.kind = 1 ∧ 128 ≤ x.unit ∧ x.unit < 132) ∧ s.domOn (unitDomain x.kind x.unit) = true ∧ (s.get (F.CHT_C_STAT_PAIR x.unit) = 0xFF ∧ s.claimWaits (x.unit - 128) = false) ∧ t = s.sliceStart x) ∧
    (∃ (x : Slice) (t s : State), (x.kind = 1 ∧ 128 ≤ x.unit ∧ x.unit < 132) ∧ s.domOn (unitDomain x.kind x.unit) = true ∧ (¬ (s.get (F.CHT_C_STAT_PAIR x.unit) = 0xFF ∧ s.claimWaits (x.unit - 128) = false)) ∧ t = s.sliceStart x) ∧
    (∃ (x : Slice) (t s : State), (x.kind = 2 ∧ x.unit < 4) ∧ s.domOn (unitDomain x.kind x.unit) = true ∧ s.retired x.unit = true ∧ t = s.sliceStart x) ∧
    (∃ (x : Slice) (t s : State), (x.kind = 2 ∧ x.unit < 4) ∧ s.domOn (unitDomain x.kind x.unit) = true ∧ ((s.engine (132 + x.unit)).on = true ∧ (s.engine (132 + x.unit)).wait = .irq ∧ bitsOf (s.engine (132 + x.unit)).st 6 5 = 0 ∧ (s.drone x.unit).stack = [] ∧ ∀ q : Nat, q < 4 → s.retired q = false) ∧ (s.irq.map fun e => e.1).Nodup ∧ t = s.sliceStart x) ∧
    (∃ (x : Slice) (t s : State), (x.kind = 2 ∧ x.unit < 4) ∧ s.domOn (unitDomain x.kind x.unit) = true ∧ s.retired x.unit = false ∧ (¬ ((s.engine (132 + x.unit)).on = true ∧ (s.engine (132 + x.unit)).wait = .irq ∧ bitsOf (s.engine (132 + x.unit)).st 6 5 = 0 ∧ (s.drone x.unit).stack = [] ∧ ∀ q : Nat, q < 4 → s.retired q = false)) ∧ (x.taken = none ∧ x.direct = false) ∧ t = s.sliceStart x) ∧
    (∃ (w : Nat) (x : Slice) (s : State), s.bist.slice = some x ∧ (x.kind = 2 ∧ x.taken = none ∧ x.at_ + 400000 ≤ w)) ∧
    (∃ (w : Nat) (s : State), (∀ x ∈ (s.bist.slice.toList : List Slice), ¬ (x.kind = 2 ∧ x.taken = none ∧ x.at_ + 400000 ≤ w))) ∧
    (∃ (w k : Nat) (resp : List (BitVec 64)) (x : Slice) (s u : State), s.bist.slice = some x ∧ (x.taken = some k ∧ x.result = none) ∧ w < k + s.get F.BIST_CFG_BUDGET_US * 400 ∧ k + (if x.kind = 1 then 60000 else if x.kind = 2 then 40000 else if x.kind = 6 then 11400 else 11280) ≤ w ∧ u = { s with now := max s.now w }) ∧
    (∃ (w : Nat) (resp : List (BitVec 64)) (s : State), (∀ x ∈ (s.bist.slice.toList : List Slice), x.result = none → ∀ k ∈ (x.taken.toList : List Nat), ¬ (w < k + s.get F.BIST_CFG_BUDGET_US * 400 ∧ k + (if x.kind = 1 then 60000 else if x.kind = 2 then 40000 else if x.kind = 6 then 11400 else 11280) ≤ w))) ∧
    (∃ (w k : Nat) (x : Slice) (s u : State), s.bist.slice = some x ∧ (x.taken = some k ∧ x.result = none) ∧ k + s.get F.BIST_CFG_BUDGET_US * 400 ≤ w ∧ u = { s with now := max s.now w }) ∧
    (∃ (w : Nat) (s : State), (∀ x ∈ (s.bist.slice.toList : List Slice), x.result = none → ∀ k ∈ (x.taken.toList : List Nat), w < k + s.get F.BIST_CFG_BUDGET_US * 400)) ∧
    (∃ (x : Slice) (r c : Nat) (m : BitVec 64) (t s : State), (r < 4 ∧ c < 16) ∧ t = (s.sealRecord x r c m).endSlice) ∧
    (∃ (x : Slice) (r c : Nat) (m : BitVec 64) (t s : State), (r < 4 ∧ c < 16) ∧ (3 ≤ x.kind ∧ x.kind ≤ 5) ∧ t = s.sealSlice x r c m) ∧
    (∃ (x : Slice) (r c : Nat) (m : BitVec 64) (t s : State), (r < 4 ∧ c < 16) ∧ (x.kind = 6 ∧ r ≠ 1) ∧ t = s.sealSlice x r c m) ∧
    (∃ (x : Slice) (r c : Nat) (m : BitVec 64) (t s : State), (r < 4 ∧ c < 16) ∧ (x.kind = 6 ∧ x.unit < 256 ∧ r = 1) ∧ t = s.sealSlice x r c m) ∧
    (∃ (x : Slice) (r c : Nat) (m : BitVec 64) (t s u : State), (r < 4 ∧ c < 16) ∧ (x.kind ≤ 2 ∧ x.direct = true ∧ r ≠ 1) ∧ u = (s.sealRecord x r c m).endSlice ∧ t = s.sealSlice x r c m) ∧
    (∃ (x : Slice) (r c : Nat) (m : BitVec 64) (t s u : State), (r < 4 ∧ c < 16) ∧ (x.kind = 1 ∧ 128 ≤ x.unit ∧ x.unit < 132 ∧ x.direct = true ∧ r = 1) ∧ s.get (F.CHT_GRP_SPARE_STATE (x.unit - 128)) = 0 ∧ u = (s.sealRecord x r c m).endSlice ∧ t = s.sealSlice x r c m) ∧
    (∃ (x : Slice) (r c : Nat) (m : BitVec 64) (t s u : State), (r < 4 ∧ c < 16) ∧ (x.kind = 1 ∧ (x.unit < 128 ∨ s.get (F.CHT_GRP_SPARE_STATE (x.unit - 128)) ≠ 0) ∨ x.kind = 2) ∧ (x.direct = true ∧ r = 1) ∧ u = (s.sealRecord x r c m).endSlice ∧ t = s.sealSlice x r c m) ∧
    (∃ (x : Slice) (r c : Nat) (m : BitVec 64) (t s u : State), (r < 4 ∧ c < 16) ∧ (x.kind = 1 ∧ x.unit < 128 ∧ x.direct = false) ∧ (s.get (F.CHT_GRP_SPARE_STATE (x.unit / 32)) = 2 ∧ s.get (F.CHT_C_STAT_STATE x.unit) = C.onLoan) ∧ r ≠ 1 ∧ u = (s.sealRecord x r c m).endSlice ∧ t = s.sealSlice x r c m) ∧
    (∃ (x : Slice) (r c : Nat) (m : BitVec 64) (t s u : State), (r < 4 ∧ c < 16) ∧ (x.kind = 1 ∧ x.unit < 128 ∧ x.direct = false) ∧ (s.get (F.CHT_GRP_SPARE_STATE (x.unit / 32)) = 2 ∧ s.get (F.CHT_C_STAT_STATE x.unit) = C.onLoan) ∧ r = 1 ∧ u = (s.sealRecord x r c m).endSlice ∧ t = s.sealSlice x r c m) ∧
    (∃ (x : Slice) (r c : Nat) (m : BitVec 64) (t s u : State), (r < 4 ∧ c < 16) ∧ (x.kind = 1 ∧ x.unit < 128 ∧ x.direct = false) ∧ (¬ (s.get (F.CHT_GRP_SPARE_STATE (x.unit / 32)) = 2 ∧ s.get (F.CHT_C_STAT_STATE x.unit) = C.onLoan)) ∧ r ≠ 1 ∧ u = (s.sealRecord x r c m).endSlice ∧ t = s.sealSlice x r c m) ∧
    (∃ (x : Slice) (r c : Nat) (m : BitVec 64) (t s u : State), (r < 4 ∧ c < 16) ∧ (x.kind = 2 ∧ x.unit < 4 ∧ x.direct = false) ∧ r ≠ 1 ∧ ((s.sealRecord x r c m).endSlice.irq.map fun e => e.1).Nodup ∧ u = (s.sealRecord x r c m).endSlice ∧ t = s.sealSlice x r c m) ∧
    (∃ (x : Slice) (r c : Nat) (m : BitVec 64) (t s u : State), (r < 4 ∧ c < 16) ∧ (x.kind = 2 ∧ x.unit < 4 ∧ x.direct = false) ∧ (r = 1 ∧ ([0, 1, 2, 3].any fun q => s.retired q) = true) ∧ ((s.sealRecord x r c m).endSlice.irq.map fun e => e.1).Nodup ∧ u = (s.sealRecord x r c m).endSlice ∧ t = s.sealSlice x r c m) ∧
    (∃ (x : Slice) (r c : Nat) (m : BitVec 64) (t s u : State), (r < 4 ∧ c < 16) ∧ (x.kind = 2 ∧ x.unit < 4 ∧ x.direct = false) ∧ (r = 1 ∧ ([0, 1, 2, 3].all fun q => !s.retired q) = true) ∧ ((s.sealRecord x r c m).endSlice.irq.map fun e => e.1).Nodup ∧ u = (s.sealRecord x r c m).endSlice ∧ t = s.sealSlice x r c m) ∧
    (∃ (g : Nat) (t s : State), g < 4 ∧ t = s.cutForClaim g) ∧
    (∃ (ini : Initiator) (n : Fin 132) (s u : State), s.sends ini true (R.CHT_C_CTL n.val) = true ∧ (n.val < 128 ∧ s.domOn ((addrDomain (R.CHT_C_CTL n.val)).getD 0) = true ∧ s.get (F.CHT_GRP_SPARE_STATE (n.val / 32)) = 0 ∧ s.claimWaits (n.val / 32) = false) ∧ u = s.cutForClaim (n.val / 32)) ∧
    (∃ (w r : Nat) (x : Slice) (s : State), s.bist.slice = some x ∧ (x.kind = 6 ∧ x.unit < 256 ∧ x.result = some r) ∧ (¬ (s.bit F.CFG_PR_CTL_START = true ∧ ¬ (1 ≤ s.get F.CFG_PR_STAT_STATE ∧ s.get F.CFG_PR_STAT_STATE ≤ 4)))) ∧
    (∃ (w r : Nat) (x : Slice) (s : State), s.bist.slice = some x ∧ (x.kind = 6 ∧ x.unit < 256 ∧ x.result = some r) ∧ (s.bit F.CFG_PR_CTL_START = true ∧ ¬ (1 ≤ s.get F.CFG_PR_STAT_STATE ∧ s.get F.CFG_PR_STAT_STATE ≤ 4))) ∧
    (∃ (w r : Nat) (x : Slice) (s u : State), s.bist.slice = some x ∧ x.result = some r ∧ (3 ≤ x.kind ∧ x.kind ≤ 5) ∧ r ≠ 1 ∧ u = ({ s with now := max s.now w } : State).endSlice) ∧
    (∃ (t s : State), s.bist.slice.isSome = true ∧ t = s.endSlice) ∧
    (∃ (w r : Nat) (x : Slice) (s u : State), s.bist.slice = some x ∧ x.result = some r ∧ (3 ≤ x.kind ∧ x.kind ≤ 5) ∧ r = 1 ∧ (s.modeCtl.toQuarantine = true ∨ ¬ s.mode ∈ ([M.init, M.armed, M.run, M.runSpared, M.hold, M.service] : List Nat) ∨ s.modeCtl.restart = true ∧ s.modeCtl.restartAt / 2 = (max s.now w) / 2) ∧ u = ({ s with now := max s.now w } : State).endSlice) ∧
    (∃ (w r : Nat) (x : Slice) (s u : State), s.bist.slice = some x ∧ x.result = some r ∧ (3 ≤ x.kind ∧ x.kind ≤ 5) ∧ r = 1 ∧ (¬ (s.modeCtl.toQuarantine = true ∨ ¬ s.mode ∈ ([M.init, M.armed, M.run, M.runSpared, M.hold, M.service] : List Nat) ∨ s.modeCtl.restart = true ∧ s.modeCtl.restartAt / 2 = (max s.now w) / 2)) ∧ s.sendingLanes ≠ [] ∧ ((s.pwrDom (unitDomain x.kind x.unit)).wakeNext = false ∧ (s.pwrDom (unitDomain x.kind x.unit)).held = none) ∧ u = ({ s with now := max s.now w } : State).endSlice) ∧
    (∃ (w r : Nat) (x : Slice) (s u : State), s.bist.slice = some x ∧ x.result = some r ∧ (3 ≤ x.kind ∧ x.kind ≤ 5) ∧ r = 1 ∧ (¬ (s.modeCtl.toQuarantine = true ∨ ¬ s.mode ∈ ([M.init, M.armed, M.run, M.runSpared, M.hold, M.service] : List Nat) ∨ s.modeCtl.restart = true ∧ s.modeCtl.restartAt / 2 = (max s.now w) / 2)) ∧ s.sendingLanes = [] ∧ ((s.pwrDom (unitDomain x.kind x.unit)).wakeNext = false ∧ (s.pwrDom (unitDomain x.kind x.unit)).held = none) ∧ u = ({ s with now := max s.now w } : State).endSlice) ∧
    (∃ (w : Nat) (s : State), (∀ x ∈ (s.bist.slice.toList : List Slice), x.result = none)) ∧
    (∃ (ini : Initiator) (s : State), s.sends ini true R.BIST_CTL = true ∧ ((s.lifecycle = 0 ∨ s.lifecycle = 1) ∧ s.mode ∈ ([M.init, M.armed, M.run, M.runSpared, M.hold, M.service] : List Nat) ∨ s.lifecycle = 2 ∧ s.mode = M.service) ∧ (s.get F.BIST_MAN_KIND = 1 ∧ s.get F.BIST_MAN_UNIT < 132 ∨ s.get F.BIST_MAN_KIND = 2 ∧ s.get F.BIST_MAN_UNIT < 4 ∨ s.get F.BIST_MAN_KIND = 3 ∧ s.get F.BIST_MAN_UNIT < 8192 ∨ s.get F.BIST_MAN_KIND = 4 ∧ s.get F.BIST_MAN_UNIT < 192 ∨ s.get F.BIST_MAN_KIND = 5 ∧ s.get F.BIST_MAN_UNIT < 1024 ∨ s.get F.BIST_MAN_KIND = 6 ∧ s.get F.BIST_MAN_UNIT < 256)) ∧
    (∃ (ini : Initiator) (s : State), s.sends ini true R.BIST_CTL = true ∧ (¬ (((s.lifecycle = 0 ∨ s.lifecycle = 1) ∧ s.mode ∈ ([M.init, M.armed, M.run, M.runSpared, M.hold, M.service] : List Nat) ∨ s.lifecycle = 2 ∧ s.mode = M.service) ∧ (s.get F.BIST_MAN_KIND = 1 ∧ s.get F.BIST_MAN_UNIT < 132 ∨ s.get F.BIST_MAN_KIND = 2 ∧ s.get F.BIST_MAN_UNIT < 4 ∨ s.get F.BIST_MAN_KIND = 3 ∧ s.get F.BIST_MAN_UNIT < 8192 ∨ s.get F.BIST_MAN_KIND = 4 ∧ s.get F.BIST_MAN_UNIT < 192 ∨ s.get F.BIST_MAN_KIND = 5 ∧ s.get F.BIST_MAN_UNIT < 1024 ∨ s.get F.BIST_MAN_KIND = 6 ∧ s.get F.BIST_MAN_UNIT < 256)))) ∧
    (∃ (ini : Initiator) (v : BitVec 64) (s : State), s.sends ini true R.BIST_CTL = true ∧ v.getLsbD 30 = false ∧ (¬ (2 ≤ s.lifecycle ∧ s.bit F.BIST_CTL_EN = true ∧ v.getLsbD 31 = false))) ∧
    (∃ (ini : Initiator) (v : BitVec 64) (s : State), s.sends ini true R.BIST_CTL = true ∧ v.getLsbD 30 = false ∧ (2 ≤ s.lifecycle ∧ s.bit F.BIST_CTL_EN = true ∧ v.getLsbD 31 = false)) ∧
    (∃ (ini : Initiator) (e : Fin 256) (v : BitVec 64) (s : State), s.sends ini true (R.BIST_PLAN e.val) = true ∧ s.lifecycle < 2 ∧ (bitsOf (v.truncate 32) 31 28 = 0 ∨ 1 ≤ bitsOf (v.truncate 32) 27 16 ∧ (bitsOf (v.truncate 32) 31 28 = 1 ∧ bitsOf (v.truncate 32) 15 0 + bitsOf (v.truncate 32) 27 16 - 1 < 132 ∨ bitsOf (v.truncate 32) 31 28 = 2 ∧ bitsOf (v.truncate 32) 15 0 + bitsOf (v.truncate 32) 27 16 - 1 < 4 ∨ bitsOf (v.truncate 32) 31 28 = 3 ∧ bitsOf (v.truncate 32) 15 0 + bitsOf (v.truncate 32) 27 16 - 1 < 8192 ∨ bitsOf (v.truncate 32) 31 28 = 4 ∧ bitsOf (v.truncate 32) 15 0 + bitsOf (v.truncate 32) 27 16 - 1 < 192 ∨ bitsOf (v.truncate 32) 31 28 = 5 ∧ bitsOf (v.truncate 32) 15 0 + bitsOf (v.truncate 32) 27 16 - 1 < 1024 ∨ bitsOf (v.truncate 32) 31 28 = 6 ∧ bitsOf (v.truncate 32) 15 0 + bitsOf (v.truncate 32) 27 16 - 1 < 256))) ∧
    (∃ (ini : Initiator) (e : Fin 256) (v : BitVec 64) (s : State), s.sends ini true (R.BIST_PLAN e.val) = true ∧ (¬ (s.lifecycle < 2 ∧ (bitsOf (v.truncate 32) 31 28 = 0 ∨ 1 ≤ bitsOf (v.truncate 32) 27 16 ∧ (bitsOf (v.truncate 32) 31 28 = 1 ∧ bitsOf (v.truncate 32) 15 0 + bitsOf (v.truncate 32) 27 16 - 1 < 132 ∨ bitsOf (v.truncate 32) 31 28 = 2 ∧ bitsOf (v.truncate 32) 15 0 + bitsOf (v.truncate 32) 27 16 - 1 < 4 ∨ bitsOf (v.truncate 32) 31 28 = 3 ∧ bitsOf (v.truncate 32) 15 0 + bitsOf (v.truncate 32) 27 16 - 1 < 8192 ∨ bitsOf (v.truncate 32) 31 28 = 4 ∧ bitsOf (v.truncate 32) 15 0 + bitsOf (v.truncate 32) 27 16 - 1 < 192 ∨ bitsOf (v.truncate 32) 31 28 = 5 ∧ bitsOf (v.truncate 32) 15 0 + bitsOf (v.truncate 32) 27 16 - 1 < 1024 ∨ bitsOf (v.truncate 32) 31 28 = 6 ∧ bitsOf (v.truncate 32) 15 0 + bitsOf (v.truncate 32) 27 16 - 1 < 256))))) ∧
    (∃ (ini : Initiator) (a : Nat) (v : BitVec 64) (s : State), a ∈ (R.BIST_CFG :: ((List.range 6).map R.BIST_REF_HI ++ (List.range 6).map R.BIST_REF_LO) : List Nat) ∧ s.sends ini true a = true ∧ 2 ≤ s.lifecycle) ∧
    (∃ (ini : Initiator) (a : Nat) (v : BitVec 64) (s : State), a ∈ (R.BIST_CFG :: ((List.range 6).map R.BIST_REF_HI ++ (List.range 6).map R.BIST_REF_LO) : List Nat) ∧ s.sends ini true a = true ∧ s.lifecycle < 2 ∧ (¬ (a = R.BIST_CFG ∧ ¬ (1 ≤ bitsOf (v.truncate 32) 31 16 ∧ 10 ≤ bitsOf (v.truncate 32) 9 0 ∧ bitsOf (v.truncate 32) 9 0 ≤ 1000)))) ∧
    (∃ (ini : Initiator) (v : BitVec 32) (s : State), s.sends ini true R.BIST_TRACT_USE = true ∧ v.getLsbD 31 = true) ∧
    (∃ (ini : Initiator) (v : BitVec 32) (s : State), s.sends ini true R.BIST_TRACT_USE = true ∧ (v.getLsbD 31 = false ∧ s.bit F.BIST_TRACT_USE_VALID = true)) ∧
    (∃ (ini : Initiator) (v : BitVec 32) (s : State), s.sends ini true R.BIST_TRACT_USE = true ∧ (v.getLsbD 31 = false ∧ s.bit F.BIST_TRACT_USE_VALID = false)) :=
  ⟨⟨399999, { wBist with bist := { tickAt := some 0 } }, by decide +kernel⟩,
   ⟨800000, { wBist.set F.SYS_MODE_MODE M.load with bist := { tickAt := some 0 } }, by decide +kernel, by decide +kernel⟩,
   ⟨800000, 4, 5, { wBist.set F.BIST_CTL_EN 0 with bist := { tickAt := some 0, manual := some (4, 5) } }, { wBist.set F.BIST_CTL_EN 0 with now := 800000, bist := { tickAt := some 800000 } }, by decide +kernel, by decide +kernel, by decide +kernel, by decide +kernel⟩,
   ⟨5, 0, 3, { wBist with bist := { idx := 3 } }, (let s := { wBist with bist := { idx := 3 } }; let u : State := { s with now := max s.now 5, bist := { s.bist with tickAt := some (max s.now 5), entry := 0, idx := 3 } }; u), by decide +kernel, by decide +kernel, by decide +kernel, by decide +kernel, by decide +kernel, rfl⟩,
   ⟨5, 0, 3, { wBist.set (F.BIST_PLAN_KIND 0) 9 with bist := { idx := 3 } }, (let s := { wBist.set (F.BIST_PLAN_KIND 0) 9 with bist := { idx := 3 } }; let u : State := { s with now := max s.now 5, bist := { s.bist with tickAt := some (max s.now 5), entry := 0, idx := 3 } }; u), by decide +kernel, by decide +kernel, by decide +kernel, by decide +kernel, by decide +kernel, rfl⟩,
   ⟨{ manual := false, kind := 4, unit := 5, at_ := 50 }, ((wDom 13 P.off {}).set (F.BIST_PLAN_KIND 0) 4).sliceStart { manual := false, kind := 4, unit := 5, at_ := 50 }, (wDom 13 P.off {}).set (F.BIST_PLAN_KIND 0) 4, by decide +kernel, rfl⟩,
   ⟨{ manual := false, kind := 4, unit := 5, at_ := 50 }, ({ wBist with now := 800 }).sliceStart { manual := false, kind := 4, unit := 5, at_ := 50 }, { wBist with now := 800 }, by decide +kernel, by decide +kernel, rfl⟩,
   ⟨{ manual := false, kind := 6, unit := 77, at_ := 50 }, (((List.range 16).foldl (fun (u : State) i => u.setFrameRec (16 * 77 + i) { golden := (crc32c (zeros 640)).toNat }) wBist)).sliceStart { manual := false, kind := 6, unit := 77, at_ := 50 }, ((List.range 16).foldl (fun (u : State) i => u.setFrameRec (16 * 77 + i) { golden := (crc32c (zeros 640)).toNat }) wBist), by decide +kernel, by decide +kernel, by decide +kernel, by decide +kernel, rfl⟩,
   ⟨{ manual := false, kind := 6, unit := 77, at_ := 50 }, (((List.range 16).foldl (fun (u : State) i => u.setFrameRec (16 * 77 + i) { golden := (crc32c (zeros 640)).toNat }) wBist).set F.CFG_PR_STAT_STATE 2).sliceStart { manual := false, kind := 6, unit := 77, at_ := 50 }, ((List.range 16).foldl (fun (u : State) i => u.setFrameRec (16 * 77 + i) { golden := (crc32c (zeros 640)).toNat }) wBist).set F.CFG_PR_STAT_STATE 2, by decide +kernel, by decide +kernel, by decide +kernel, rfl⟩,
   ⟨{ manual := false, kind := 6, unit := 77, at_ := 50 }, (((List.range 16).foldl (fun (u : State) i => u.setFrameRec (16 * 77 + i) { golden := (crc32c (zeros 640)).toNat }) wBist).wr (R.BIST_TRACT_BAD 2) 0x2000).sliceStart { manual := false, kind := 6, unit := 77, at_ := 50 }, ((List.range 16).foldl (fun (u : State) i => u.setFrameRec (16 * 77 + i) { golden := (crc32c (zeros 640)).toNat }) wBist).wr (R.BIST_TRACT_BAD 2) 0x2000, by decide +kernel, by decide +kernel, by decide +kernel, by decide +kernel, rfl⟩,
   ⟨{ manual := false, kind := 1, unit := 37, at_ := 50 }, (wBist.set (F.CHT_C_STAT_STATE 37) C.retired).sliceStart { manual := false, kind := 1, unit := 37, at_ := 50 }, wBist.set (F.CHT_C_STAT_STATE 37) C.retired, by decide +kernel, by decide +kernel, by decide +kernel, rfl⟩,
   ⟨{ manual := false, kind := 1, unit := 37, at_ := 50 }, (wBist).sliceStart { manual := false, kind := 1, unit := 37, at_ := 50 }, wBist, by decide +kernel, by decide +kernel, by decide +kernel, by decide +kernel, rfl⟩,
   ⟨{ manual := false, kind := 1, unit := 37, at_ := 50 }, (wBist.set (F.CHT_GRP_SPARE_STATE 1) 1).sliceStart { manual := false, kind := 1, unit := 37, at_ := 50 }, wBist.set (F.CHT_GRP_SPARE_STATE 1) 1, by decide +kernel, by decide +kernel, by decide +kernel, by decide +kernel, rfl⟩,
   ⟨{ manual := false, kind := 1, unit := 129, at_ := 50 }, ((wBist.set (F.CHT_C_STAT_PAIR 129) 0xFF).setEngine 129 { on := true }).sliceStart { manual := false, kind := 1, unit := 129, at_ := 50 }, (wBist.set (F.CHT_C_STAT_PAIR 129) 0xFF).setEngine 129 { on := true }, by decide +kernel, by decide +kernel, by decide +kernel, rfl⟩,
   ⟨{ manual := false, kind := 1, unit := 129, at_ := 50 }, (wBist.set (F.CHT_C_STAT_PAIR 129) 37).sliceStart { manual := false, kind := 1, unit := 129, at_ := 50 }, wBist.set (F.CHT_C_STAT_PAIR 129) 37, by decide +kernel, by decide +kernel, by decide +kernel, rfl⟩,
   ⟨{ manual := false, kind := 2, unit := 1, at_ := 50 }, (wBist.set (F.IRQ_D_STAT_RETIRED 1) 1).sliceStart { manual := false, kind := 2, unit := 1, at_ := 50 }, wBist.set (F.IRQ_D_STAT_RETIRED 1) 1, by decide +kernel, by decide +kernel, by decide +kernel, rfl⟩,
   ⟨{ manual := false, kind := 2, unit := 1, at_ := 50 }, ((let s := wBist.setEngine 133 { on := true, wait := .irq }; s)).sliceStart { manual := false, kind := 2, unit := 1, at_ := 50 }, (let s := wBist.setEngine 133 { on := true, wait := .irq }; s), by decide +kernel, by decide +kernel, by decide +kernel, by decide +kernel, rfl⟩,
   ⟨{ manual := false, kind := 2, unit := 1, at_ := 50 }, (wBist.setEngine 133 { on := true }).sliceStart { manual := false, kind := 2, unit := 1, at_ := 50 }, wBist.setEngine 133 { on := true }, by decide +kernel, by decide +kernel, by decide +kernel, by decide +kernel, by decide +kernel, rfl⟩,
   ⟨400050, { manual := false, kind := 2, unit := 3, at_ := 50 }, (let s : State := wBist; { s with bist := { s.bist with slice := some { manual := false, kind := 2, unit := 3, at_ := 50 } } }), by decide +kernel, by decide +kernel⟩,
   ⟨5, wBist, by decide +kernel⟩,
   ⟨12000, 50, [7], { manual := false, kind := 4, unit := 5, at_ := 50, taken := some 50 }, (let s : State := wBist; { s with bist := { s.bist with slice := some { manual := false, kind := 4, unit := 5, at_ := 50, taken := some 50 } } }), { (let s : State := wBist; { s with bist := { s.bist with slice := some { manual := false, kind := 4, unit := 5, at_ := 50, taken := some 50 } } }) with now := 12000 }, by decide +kernel, by decide +kernel, by decide +kernel, by decide +kernel, rfl⟩,
   ⟨400050, [], (let s : State := wBist; { s with bist := { s.bist with slice := some { manual := false, kind := 4, unit := 5, at_ := 50, taken := some 50 } } }), by decide +kernel⟩,
   ⟨400050, 50, { manual := false, kind := 4, unit := 5, at_ := 50, taken := some 50 }, (let s : State := wBist; { s with bist := { s.bist with slice := some { manual := false, kind := 4, unit := 5, at_ := 50, taken := some 50 } } }), { (let s : State := wBist; { s with bist := { s.bist with slice := some { manual := false, kind := 4, unit := 5, at_ := 50, taken := some 50 } } }) with now := 400050 }, by decide +kernel, by decide +kernel, by decide +kernel, rfl⟩,
   ⟨400049, (let s : State := wBist; { s with bist := { s.bist with slice := some { manual := false, kind := 4, unit := 5, at_ := 50, taken := some 50 } } }), by decide +kernel⟩,
   ⟨{ manual := false, kind := 2, unit := 3, at_ := 50 }, 0, 0, 77, (wBist.sealRecord { manual := false, kind := 2, unit := 3, at_ := 50 } 0 0 77).endSlice, wBist, by decide +kernel, rfl⟩,
   ⟨{ manual := false, kind := 4, unit := 5, at_ := 50, taken := some 50 }, 1, 0, 77, (wBist).sealSlice { manual := false, kind := 4, unit := 5, at_ := 50, taken := some 50 } 1 0 77, wBist, by decide +kernel, by decide +kernel, rfl⟩,
   ⟨{ manual := false, kind := 6, unit := 77, at_ := 50, taken := some 50 }, 0, 0, 77, (wBist).sealSlice { manual := false, kind := 6, unit := 77, at_ := 50, taken := some 50 } 0 0 77, wBist, by decide +kernel, by decide +kernel, rfl⟩,
   ⟨{ manual := false, kind := 6, unit := 77, at_ := 50, taken := some 50 }, 1, 0, 77, (wBist).sealSlice { manual := false, kind := 6, unit := 77, at_ := 50, taken := some 50 } 1 0 77, wBist, by decide +kernel, by decide +kernel, rfl⟩,
   ⟨{ manual := false, kind := 1, unit := 129, at_ := 50, taken := some 50, direct := true }, 0, 0, 77, (wBist).sealSlice { manual := false, kind := 1, unit := 129, at_ := 50, taken := some 50, direct := true } 0 0 77, wBist, ((wBist).sealRecord { manual := false, kind := 1, unit := 129, at_ := 50, taken := some 50, direct := true } 0 0 77).endSlice, by decide +kernel, by decide +kernel, rfl, rfl⟩,
   ⟨{ manual := false, kind := 1, unit := 129, at_ := 50, taken := some 50, direct := true }, 1, 0, 77, (wBist.set (F.CHT_C_STAT_PAIR 129) 0xFF).sealSlice { manual := false, kind := 1, unit := 129, at_ := 50, taken := some 50, direct := true } 1 0 77, wBist.set (F.CHT_C_STAT_PAIR 129) 0xFF, ((wBist.set (F.CHT_C_STAT_PAIR 129) 0xFF).sealRecord { manual := false, kind := 1, unit := 129, at_ := 50, taken := some 50, direct := true } 1 0 77).endSlice, by decide +kernel, by decide +kernel, by decide +kernel, rfl, rfl⟩,
   ⟨{ manual := false, kind := 1, unit := 37, at_ := 50, direct := true }, 1, 0, 77, (wBist).sealSlice { manual := false, kind := 1, unit := 37, at_ := 50, direct := true } 1 0 77, wBist, ((wBist).sealRecord { manual := false, kind := 1, unit := 37, at_ := 50, direct := true } 1 0 77).endSlice, by decide +kernel, by decide +kernel, by decide +kernel, rfl, rfl⟩,
   ⟨{ manual := false, kind := 1, unit := 37, at_ := 50, taken := some 50 }, 0, 0, 77, (((wBist.set (F.CHT_GRP_SPARE_STATE 1) 2).set (F.CHT_C_STAT_STATE 37) C.onLoan)).sealSlice { manual := false, kind := 1, unit := 37, at_ := 50, taken := some 50 } 0 0 77, ((wBist.set (F.CHT_GRP_SPARE_STATE 1) 2).set (F.CHT_C_STAT_STATE 37) C.onLoan), ((((wBist.set (F.CHT_GRP_SPARE_STATE 1) 2).set (F.CHT_C_STAT_STATE 37) C.onLoan)).sealRecord { manual := false, kind := 1, unit := 37, at_ := 50, taken := some 50 } 0 0 77).endSlice, by decide +kernel, by decide +kernel, by decide +kernel, by decide +kernel, rfl, rfl⟩,
   ⟨{ manual := false, kind := 1, unit := 37, at_ := 50, taken := some 50 }, 1, 0, 77, (((wBist.set (F.CHT_GRP_SPARE_STATE 1) 2).set (F.CHT_C_STAT_STATE 37) C.onLoan)).sealSlice { manual := false, kind := 1, unit := 37, at_ := 50, taken := some 50 } 1 0 77, ((wBist.set (F.CHT_GRP_SPARE_STATE 1) 2).set (F.CHT_C_STAT_STATE 37) C.onLoan), ((((wBist.set (F.CHT_GRP_SPARE_STATE 1) 2).set (F.CHT_C_STAT_STATE 37) C.onLoan)).sealRecord { manual := false, kind := 1, unit := 37, at_ := 50, taken := some 50 } 1 0 77).endSlice, by decide +kernel, by decide +kernel, by decide +kernel, by decide +kernel, rfl, rfl⟩,
   ⟨{ manual := false, kind := 1, unit := 37, at_ := 50 }, 2, 2, 77, ({ wBist with claims := [⟨37, .loan, 5, 5⟩, ⟨97, .loan, 5, 5⟩] }).sealSlice { manual := false, kind := 1, unit := 37, at_ := 50 } 2 2 77, { wBist with claims := [⟨37, .loan, 5, 5⟩, ⟨97, .loan, 5, 5⟩] }, (({ wBist with claims := [⟨37, .loan, 5, 5⟩, ⟨97, .loan, 5, 5⟩] }).sealRecord { manual := false, kind := 1, unit := 37, at_ := 50 } 2 2 77).endSlice, by decide +kernel, by decide +kernel, by decide +kernel, by decide +kernel, rfl, rfl⟩,
   ⟨{ manual := false, kind := 2, unit := 1, at_ := 50, taken := some 50 }, 0, 0, 77, ((((wBist.setEngine 133 { on := false }).set (F.IRQ_SRC_CFG_TARGET 657) 1).setSlot 657 2 { pend := true, fast := true } |>.setSlot 390 1 { pend := true } |>.setSlot 389 2 { pend := true } |>.set (F.IRQ_SRC_CFG_TARGET 872) 1)).sealSlice { manual := false, kind := 2, unit := 1, at_ := 50, taken := some 50 } 0 0 77, (((wBist.setEngine 133 { on := false }).set (F.IRQ_SRC_CFG_TARGET 657) 1).setSlot 657 2 { pend := true, fast := true } |>.setSlot 390 1 { pend := true } |>.setSlot 389 2 { pend := true } |>.set (F.IRQ_SRC_CFG_TARGET 872) 1), (((((wBist.setEngine 133 { on := false }).set (F.IRQ_SRC_CFG_TARGET 657) 1).setSlot 657 2 { pend := true, fast := true } |>.setSlot 390 1 { pend := true } |>.setSlot 389 2 { pend := true } |>.set (F.IRQ_SRC_CFG_TARGET 872) 1)).sealRecord { manual := false, kind := 2, unit := 1, at_ := 50, taken := some 50 } 0 0 77).endSlice, by decide +kernel, by decide +kernel, by decide +kernel, by decide +kernel, rfl, rfl⟩,
   ⟨{ manual := false, kind := 2, unit := 1, at_ := 50, taken := some 50 }, 1, 0, 77, ((((wBist.setEngine 133 { on := false }).set (F.IRQ_SRC_CFG_TARGET 657) 1).setSlot 657 2 { pend := true, fast := true } |>.setSlot 390 1 { pend := true } |>.setSlot 389 2 { pend := true } |>.set (F.IRQ_SRC_CFG_TARGET 872) 1).set (F.IRQ_D_STAT_RETIRED 3) 1).sealSlice { manual := false, kind := 2, unit := 1, at_ := 50, taken := some 50 } 1 0 77, (((wBist.setEngine 133 { on := false }).set (F.IRQ_SRC_CFG_TARGET 657) 1).setSlot 657 2 { pend := true, fast := true } |>.setSlot 390 1 { pend := true } |>.setSlot 389 2 { pend := true } |>.set (F.IRQ_SRC_CFG_TARGET 872) 1).set (F.IRQ_D_STAT_RETIRED 3) 1, (((((wBist.setEngine 133 { on := false }).set (F.IRQ_SRC_CFG_TARGET 657) 1).setSlot 657 2 { pend := true, fast := true } |>.setSlot 390 1 { pend := true } |>.setSlot 389 2 { pend := true } |>.set (F.IRQ_SRC_CFG_TARGET 872) 1).set (F.IRQ_D_STAT_RETIRED 3) 1).sealRecord { manual := false, kind := 2, unit := 1, at_ := 50, taken := some 50 } 1 0 77).endSlice, by decide +kernel, by decide +kernel, by decide +kernel, by decide +kernel, rfl, rfl⟩,
   ⟨{ manual := false, kind := 2, unit := 1, at_ := 50, taken := some 50 }, 1, 0, 77, ((((wBist.setEngine 133 { on := false }).set (F.IRQ_SRC_CFG_TARGET 657) 1).setSlot 657 2 { pend := true, fast := true } |>.setSlot 390 1 { pend := true } |>.setSlot 389 2 { pend := true } |>.set (F.IRQ_SRC_CFG_TARGET 872) 1)).sealSlice { manual := false, kind := 2, unit := 1, at_ := 50, taken := some 50 } 1 0 77, (((wBist.setEngine 133 { on := false }).set (F.IRQ_SRC_CFG_TARGET 657) 1).setSlot 657 2 { pend := true, fast := true } |>.setSlot 390 1 { pend := true } |>.setSlot 389 2 { pend := true } |>.set (F.IRQ_SRC_CFG_TARGET 872) 1), (((((wBist.setEngine 133 { on := false }).set (F.IRQ_SRC_CFG_TARGET 657) 1).setSlot 657 2 { pend := true, fast := true } |>.setSlot 390 1 { pend := true } |>.setSlot 389 2 { pend := true } |>.set (F.IRQ_SRC_CFG_TARGET 872) 1)).sealRecord { manual := false, kind := 2, unit := 1, at_ := 50, taken := some 50 } 1 0 77).endSlice, by decide +kernel, by decide +kernel, by decide +kernel, by decide +kernel, rfl, rfl⟩,
   ⟨1, ((wBist.putSlice { manual := false, kind := 1, unit := 129, at_ := 50, taken := some 50, direct := true } 2)).cutForClaim 1, (wBist.putSlice { manual := false, kind := 1, unit := 129, at_ := 50, taken := some 50, direct := true } 2), by decide, rfl⟩,
   ⟨.tap, 37, (wBist.putSlice { manual := false, kind := 1, unit := 129, at_ := 50, taken := some 50, direct := true } 2), ((wBist.putSlice { manual := false, kind := 1, unit := 129, at_ := 50, taken := some 50, direct := true } 2)).cutForClaim 1, by decide +kernel, by decide +kernel, rfl⟩,
   ⟨900, 0, { manual := false, kind := 6, unit := 77, at_ := 50, taken := some 50, result := some 0 }, (let s : State := wBist; { s.putSlice { manual := false, kind := 6, unit := 77, at_ := 50, taken := some 50, result := some 0 } 3 with bist := { (s.putSlice { manual := false, kind := 6, unit := 77, at_ := 50, taken := some 50, result := some 0 } 3).bist with slice := some { manual := false, kind := 6, unit := 77, at_ := 50, taken := some 50, result := some 0 } } }), by decide +kernel, by decide +kernel, by decide +kernel⟩,
   ⟨900, 0, { manual := false, kind := 6, unit := 77, at_ := 50, taken := some 50, result := some 0 }, (let s : State := wBist; { s.putSlice { manual := false, kind := 6, unit := 77, at_ := 50, taken := some 50, result := some 0 } 3 with bist := { (s.putSlice { manual := false, kind := 6, unit := 77, at_ := 50, taken := some 50, result := some 0 } 3).bist with slice := some { manual := false, kind := 6, unit := 77, at_ := 50, taken := some 50, result := some 0 } } }).set F.CFG_PR_CTL_START 1, by decide +kernel, by decide +kernel, by decide +kernel⟩,
   ⟨900, 0, { manual := false, kind := 4, unit := 5, at_ := 50, taken := some 50, result := some 0 }, (let s : State := wBist; { s.putSlice { manual := false, kind := 4, unit := 5, at_ := 50, taken := some 50, result := some 0 } 3 with bist := { (s.putSlice { manual := false, kind := 4, unit := 5, at_ := 50, taken := some 50, result := some 0 } 3).bist with slice := some { manual := false, kind := 4, unit := 5, at_ := 50, taken := some 50, result := some 0 } } }), (let s : State := (let s : State := wBist; { s.putSlice { manual := false, kind := 4, unit := 5, at_ := 50, taken := some 50, result := some 0 } 3 with bist := { (s.putSlice { manual := false, kind := 4, unit := 5, at_ := 50, taken := some 50, result := some 0 } 3).bist with slice := some { manual := false, kind := 4, unit := 5, at_ := 50, taken := some 50, result := some 0 } } }); ({ s with now := max s.now 900 } : State).endSlice), by decide +kernel, by decide +kernel, by decide +kernel, by decide +kernel, rfl⟩,
   ⟨(wBist.putSlice { manual := false, kind := 4, unit := 5, at_ := 50, taken := some 50, result := some 0 } 3).endSlice, wBist.putSlice { manual := false, kind := 4, unit := 5, at_ := 50, taken := some 50, result := some 0 } 3, by decide, rfl⟩,
   ⟨900, 1, { manual := false, kind := 4, unit := 5, at_ := 50, taken := some 50, result := some 1 }, (let s : State := { wBist with modeCtl := { toQuarantine := true, cause := 0x61 } }; { s.putSlice { manual := false, kind := 4, unit := 5, at_ := 50, taken := some 50, result := some 1 } 3 with bist := { (s.putSlice { manual := false, kind := 4, unit := 5, at_ := 50, taken := some 50, result := some 1 } 3).bist with slice := some { manual := false, kind := 4, unit := 5, at_ := 50, taken := some 50, result := some 1 } } }), (let s : State := (let s : State := { wBist with modeCtl := { toQuarantine := true, cause := 0x61 } }; { s.putSlice { manual := false, kind := 4, unit := 5, at_ := 50, taken := some 50, result := some 1 } 3 with bist := { (s.putSlice { manual := false, kind := 4, unit := 5, at_ := 50, taken := some 50, result := some 1 } 3).bist with slice := some { manual := false, kind := 4, unit := 5, at_ := 50, taken := some 50, result := some 1 } } }); ({ s with now := max s.now 900 } : State).endSlice), by decide +kernel, by decide +kernel, by decide +kernel, by decide +kernel, by decide +kernel, rfl⟩,
   ⟨900, 1, { manual := false, kind := 4, unit := 5, at_ := 50, taken := some 50, result := some 1 }, (let s : State := wBist.setLaneState 7 L.sending; { s.putSlice { manual := false, kind := 4, unit := 5, at_ := 50, taken := some 50, result := some 1 } 3 with bist := { (s.putSlice { manual := false, kind := 4, unit := 5, at_ := 50, taken := some 50, result := some 1 } 3).bist with slice := some { manual := false, kind := 4, unit := 5, at_ := 50, taken := some 50, result := some 1 } } }), (let s : State := (let s : State := wBist.setLaneState 7 L.sending; { s.putSlice { manual := false, kind := 4, unit := 5, at_ := 50, taken := some 50, result := some 1 } 3 with bist := { (s.putSlice { manual := false, kind := 4, unit := 5, at_ := 50, taken := some 50, result := some 1 } 3).bist with slice := some { manual := false, kind := 4, unit := 5, at_ := 50, taken := some 50, result := some 1 } } }); ({ s with now := max s.now 900 } : State).endSlice), by decide +kernel, by decide +kernel, by decide +kernel, by decide +kernel, by decide +kernel, by decide +kernel, by decide +kernel, rfl⟩,
   ⟨900, 1, { manual := false, kind := 4, unit := 5, at_ := 50, taken := some 50, result := some 1 }, (let s : State := wBist; { s.putSlice { manual := false, kind := 4, unit := 5, at_ := 50, taken := some 50, result := some 1 } 3 with bist := { (s.putSlice { manual := false, kind := 4, unit := 5, at_ := 50, taken := some 50, result := some 1 } 3).bist with slice := some { manual := false, kind := 4, unit := 5, at_ := 50, taken := some 50, result := some 1 } } }), (let s : State := (let s : State := wBist; { s.putSlice { manual := false, kind := 4, unit := 5, at_ := 50, taken := some 50, result := some 1 } 3 with bist := { (s.putSlice { manual := false, kind := 4, unit := 5, at_ := 50, taken := some 50, result := some 1 } 3).bist with slice := some { manual := false, kind := 4, unit := 5, at_ := 50, taken := some 50, result := some 1 } } }); ({ s with now := max s.now 900 } : State).endSlice), by decide +kernel, by decide +kernel, by decide +kernel, by decide +kernel, by decide +kernel, by decide +kernel, by decide +kernel, rfl⟩,
   ⟨900, (let s : State := wBist; { s with bist := { s.bist with slice := some { manual := false, kind := 4, unit := 5, at_ := 50, taken := some 50 } } }), by decide +kernel⟩,
   ⟨.tap, ((wBist.set F.BIST_MAN_KIND 4).set F.BIST_MAN_UNIT 191), by decide +kernel, by decide +kernel, by decide +kernel⟩,
   ⟨.tap, ((wBist.set F.BIST_MAN_KIND 4).set F.BIST_MAN_UNIT 192), by decide +kernel, by decide +kernel⟩,
   ⟨.tap, 0, wBist, by decide +kernel, by decide +kernel, by decide +kernel⟩,
   ⟨.tap, 0, wBist.set F.SEC_STAT_LIFECYCLE 2, by decide +kernel, by decide +kernel, by decide +kernel⟩,
   ⟨.tap, 7, 0x10840000, wBist, by decide +kernel, by decide +kernel, by decide +kernel⟩,
   ⟨.tap, 7, 0x10840001, wBist, by decide +kernel, by decide +kernel⟩,
   ⟨.tap, R.BIST_CFG, 0x00640020, wBist.set F.SEC_STAT_LIFECYCLE 2, by decide +kernel, by decide +kernel, by decide +kernel⟩,
   ⟨.tap, R.BIST_CFG, 0x00640020, wBist, by decide +kernel, by decide +kernel, by decide +kernel, by decide +kernel⟩,
   ⟨.tap, 0x80000005, wBist, by decide +kernel, by decide +kernel⟩,
   ⟨.tap, 5, ((wBist.set F.SYS_MODE_MODE M.runSpared).wr R.SYS_SPARED 0x100).set F.BIST_TRACT_USE_VALID 1, by decide +kernel, by decide +kernel⟩,
   ⟨.tap, 5, wBist, by decide +kernel, by decide +kernel⟩⟩

/-- The hypotheses of TheServiceHolder are met. -/
theorem wit_TheServiceHolder :
    (∃ (r : Fin 16) (t s : State), (s.irq.map fun e => e.1).Nodup ∧ t = ([0, 1, 2, 3].filter fun d => (r.val : Nat).testBit d).foldl State.svcStart s) ∧
    (∃ (ini : Initiator) (mask : Fin 16) (v : BitVec 64) (h r : Nat) (i : Instr) (s u : State), (h, r, i) ∈ ([(Nat.lor (s.get F.SEC_SVC_CTL_HALT) mask.val, 0, .svcHalt ini mask), (Nat.land (s.get F.SEC_SVC_CTL_HALT) (15 - mask.val), mask.val, .svcRestart ini mask), (v.toNat % 16, v.toNat / 16 % 16, .registerWrite ini R.SEC_SVC_CTL 4 v)] : List (Nat × Nat × Instr)) ∧ s.sends ini true R.SEC_SVC_CTL = true ∧ s.domOn 19 = true ∧ (s.mode = M.service ∧ (ini = .ivwyn ∧ s.holderOf = 1 ∨ ini = .tap ∧ s.holderOf = 2)) ∧ u = ([0, 1, 2, 3].filter fun d => (r : Nat).testBit d).foldl State.svcStart (s.set F.SEC_SVC_CTL_HALT h)) ∧
    (∃ (ini : Initiator) (mask : Fin 16) (v : BitVec 64) (h r : Nat) (i : Instr) (s : State), (h, r, i) ∈ ([(Nat.lor (s.get F.SEC_SVC_CTL_HALT) mask.val, 0, .svcHalt ini mask), (Nat.land (s.get F.SEC_SVC_CTL_HALT) (15 - mask.val), mask.val, .svcRestart ini mask), (v.toNat % 16, v.toNat / 16 % 16, .registerWrite ini R.SEC_SVC_CTL 4 v)] : List (Nat × Nat × Instr)) ∧ s.sends ini true R.SEC_SVC_CTL = true ∧ s.domOn 19 = true ∧ (¬ (s.mode = M.service ∧ (ini = .ivwyn ∧ s.holderOf = 1 ∨ ini = .tap ∧ s.holderOf = 2)))) ∧
    (∃ (t s u : State), s.holderOf ≠ 0 ∧ (s.mode ≠ M.service ∨ s.leaving = true) ∧ u = ([0, 1, 2, 3].filter fun d => (15 : Nat).testBit d).foldl State.svcStart ((s.wr R.SEC_SVC_STAT 0).wr R.SEC_SVC_CTL 0) ∧ t = s.endService) ∧
    (∃ (t s u : State), s.holderOf ≠ 0 ∧ (s.mode = M.service ∧ s.leaving = false ∧ s.modeCtl.from_ = M.hold) ∧ u = ([0, 1, 2, 3].filter fun d => (15 : Nat).testBit d).foldl State.svcStart ((s.wr R.SEC_SVC_STAT 0).wr R.SEC_SVC_CTL 0) ∧ t = s.endService) ∧
    (∃ (t s u v : State), s.holderOf ≠ 0 ∧ (s.mode = M.service ∧ s.leaving = false ∧ s.modeCtl.from_ = M.armed) ∧ u = ([0, 1, 2, 3].filter fun d => (15 : Nat).testBit d).foldl State.svcStart ((s.wr R.SEC_SVC_STAT 0).wr R.SEC_SVC_CTL 0) ∧ v = u.changeMode M.armed 0x41 ∧ t = s.endService) ∧
    (∃ (data : List Bool) (s : State), (s.mode = M.service ∨ s.mode = M.quarantine)) ∧
    (∃ (data : List Bool) (s : State), (¬ (s.mode = M.service ∨ s.mode = M.quarantine))) ∧
    (∃ (s : State), s.lifecycle ≠ 3) ∧
    (∃ (s : State), s.lifecycle = 3) ∧
    (∃ (w : Nat) (data : List (BitVec 8)) (s : State), s.lifecycle = 3) ∧
    (∃ (w : Nat) (data : List (BitVec 8)) (s : State), s.lifecycle ≠ 3 ∧ s.holderOf = 1) ∧
    (∃ (w : Nat) (data : List (BitVec 8)) (s : State), s.lifecycle ≠ 3 ∧ s.holderOf ≠ 1 ∧ (¬ (s.mode = M.armed ∨ s.mode = M.hold))) ∧
    (∃ (w : Nat) (data : List (BitVec 8)) (s : State), s.lifecycle ≠ 3 ∧ s.holderOf ≠ 1 ∧ (s.mode = M.armed ∨ s.mode = M.hold) ∧ s.unlockOk (data.map BitVec.toNat) = false) ∧
    (∃ (w : Nat) (data : List (BitVec 8)) (s : State), s.lifecycle ≠ 3 ∧ (s.holderOf ≠ 1 ∧ (s.mode = M.armed ∨ s.mode = M.hold))) ∧
    (∃ (data cert : List Nat) (n : Nat) (s : State), n = fieldBE data 97 2 ∧ cert = slice data 100 n) ∧
    (∃ (w : Nat) (s : State), s.sec.unlocking = true ∧ s.holderOf ≠ 1 ∧ (s.leaving = false ∧ (s.mode = M.armed ∨ s.mode = M.hold ∧ s.modeCtl.heldAt.map (· / 2) ≠ some (max s.now w / 2)))) ∧
    (∃ (w : Nat) (s : State), (¬ (s.sec.unlocking = true ∧ s.holderOf ≠ 1 ∧ (s.leaving = false ∧ (s.mode = M.armed ∨ s.mode = M.hold ∧ s.modeCtl.heldAt.map (· / 2) ≠ some (max s.now w / 2)))))) ∧
    (∃ (w : Nat) (cmd : Fin 16) (addr data : BitVec 32) (s u : State), (s.lifecycle = 0 ∨ s.lifecycle = 1 ∧ s.mode ∈ ([M.init, M.armed, M.run, M.runSpared, M.hold, M.service, M.provision] : List Nat) ∨ s.lifecycle = 2 ∧ s.mode = M.service ∧ s.holderOf = 2) ∧ u = { s with now := max s.now w, sec := { s.sec with ir := 0x23, extest := false, lastTap := max s.now w } }) ∧
    (∃ (w : Nat) (cmd : Fin 16) (addr data : BitVec 32) (s : State), (s.lifecycle = 0 ∨ s.lifecycle = 1 ∧ s.mode ∈ ([M.init, M.armed, M.run, M.runSpared, M.hold, M.service, M.provision] : List Nat) ∨ s.lifecycle = 2 ∧ s.mode = M.service ∧ s.holderOf = 2) ∧ (cmd.val = 1 ∧ addr.toNat = R.SYS_IDCODE ∨ cmd.val = 2 ∧ addr.toNat = R.GPIO_OUT_SET 1)) ∧
    (∃ (w : Nat) (cmd : Fin 16) (addr data : BitVec 32) (s : State), (¬ (s.lifecycle = 0 ∨ s.lifecycle = 1 ∧ s.mode ∈ ([M.init, M.armed, M.run, M.runSpared, M.hold, M.service, M.provision] : List Nat) ∨ s.lifecycle = 2 ∧ s.mode = M.service ∧ s.holderOf = 2))) :=
  ⟨⟨2, ([0, 1, 2, 3].filter fun d => (2 : Nat).testBit d).foldl State.svcStart (wSvc.setDrone 1 { halted := true }), wSvc.setDrone 1 { halted := true }, by decide +kernel, rfl⟩,
   ⟨.tap, 9, 0, 9, 0, .svcHalt .tap 9, wSvc, wSvc.set F.SEC_SVC_CTL_HALT 9, by decide, by decide +kernel, by decide +kernel, by decide +kernel, rfl⟩,
   ⟨.tap, 9, 0, 9, 0, .svcHalt .tap 9, wMode M.run, by decide, by decide +kernel, by decide +kernel, by decide +kernel⟩,
   ⟨({ wSvc.setDrone 1 { halted := true } with modeCtl := { restart := true, burst := some 3 } }).endService, { wSvc.setDrone 1 { halted := true } with modeCtl := { restart := true, burst := some 3 } }, (let s : State := { wSvc.setDrone 1 { halted := true } with modeCtl := { restart := true, burst := some 3 } }; ([0, 1, 2, 3].filter fun d => (15 : Nat).testBit d).foldl State.svcStart ((s.wr R.SEC_SVC_STAT 0).wr R.SEC_SVC_CTL 0)), by decide +kernel, by decide +kernel, rfl, rfl⟩,
   ⟨(wSvc).endService, wSvc, (let s : State := wSvc; ([0, 1, 2, 3].filter fun d => (15 : Nat).testBit d).foldl State.svcStart ((s.wr R.SEC_SVC_STAT 0).wr R.SEC_SVC_CTL 0)), by decide +kernel, by decide +kernel, rfl, rfl⟩,
   ⟨(let s : State := { wSvc with modeCtl := { from_ := M.armed } }; s.endService), { wSvc with modeCtl := { from_ := M.armed } }, (let s : State := { wSvc with modeCtl := { from_ := M.armed } }; ([0, 1, 2, 3].filter fun d => (15 : Nat).testBit d).foldl State.svcStart ((s.wr R.SEC_SVC_STAT 0).wr R.SEC_SVC_CTL 0)), (let s : State := { wSvc with modeCtl := { from_ := M.armed } }; State.changeMode (([0, 1, 2, 3].filter fun d => (15 : Nat).testBit d).foldl State.svcStart ((s.wr R.SEC_SVC_STAT 0).wr R.SEC_SVC_CTL 0)) M.armed 0x41), by decide +kernel, by decide +kernel, rfl, rfl, rfl⟩,
   ⟨[true, false, true], wSvc, by decide +kernel⟩,
   ⟨[true], wMode M.run, by decide +kernel⟩,
   ⟨wSvc, by decide +kernel⟩,
   ⟨wSvc.set F.SEC_STAT_LIFECYCLE 3, by decide +kernel⟩,
   ⟨4000, [1, 2], wSvc.set F.SEC_STAT_LIFECYCLE 3, by decide +kernel⟩,
   ⟨4000, [1, 2], wSvc.set F.SEC_SVC_STAT_HOLDER 1, by decide +kernel, by decide +kernel⟩,
   ⟨4000, [1, 2], wMode M.run, by decide +kernel, by decide +kernel, by decide +kernel⟩,
   ⟨4000, [1, 2], wMode M.armed, by decide +kernel, by decide +kernel, by decide +kernel, by decide +kernel⟩,
   ⟨4000, [1, 2], wMode M.armed, by decide +kernel, by decide +kernel⟩,
   ⟨[1, 2], [], 0, wSvc, by decide +kernel, by decide +kernel⟩,
   ⟨4000, let s := wMode M.hold; { s with sec := { s.sec with unlocking := true, unlock := 1 } }, by decide +kernel, by decide +kernel, by decide +kernel⟩,
   ⟨4000, let s := wMode M.run; { s with sec := { s.sec with unlocking := true, unlock := 1 } }, by decide +kernel⟩,
   ⟨4000, 1, 0x10000000#32, 7#32, wSvc, { wSvc with now := 4000, sec := { wSvc.sec with ir := 0x23, extest := false, lastTap := 4000 } }, by decide +kernel, rfl⟩,
   ⟨4000, 1, 0x10000000#32, 7#32, wSvc, by decide +kernel, by decide +kernel⟩,
   ⟨4000, 1, 0x10000000#32, 7#32, wSvc.set F.SEC_SVC_STAT_HOLDER 1, by decide +kernel⟩⟩

/-- The hypotheses of ProvisioningAndAttestation are met. -/
theorem wit_ProvisioningAndAttestation :
    (∃ (ini : Initiator) (s : State), s.sends ini true R.SEC_CHAL_CTL = true ∧ s.domOn 19 = true) ∧
    (∃ (ini : Initiator) (w : Nat) (fwp : Bool) (b : List Nat) (s u : State), s.sends ini true R.SEC_PROV_CTL = true ∧ s.domOn 19 = true ∧ ((match ini with | .drone _ => true | .ivwyn => decide (s.holderOf = 1) | .tap => decide (s.holderOf = 2) | _ => false) = true) ∧ s.bit F.SEC_PROV_STAT_BUSY = false ∧ u.provCheck b ≠ 0 ∧ b = s.regBytes (R.SEC_PROV_BUF 0) 102 ∧ u = { s with now := max s.now w, flash := { s.flash with fwp := fwp } }) ∧
    (∃ (ini : Initiator) (w : Nat) (fwp : Bool) (b : List Nat) (s u : State), s.sends ini true R.SEC_PROV_CTL = true ∧ s.domOn 19 = true ∧ ((match ini with | .drone _ => true | .ivwyn => decide (s.holderOf = 1) | .tap => decide (s.holderOf = 2) | _ => false) = true) ∧ s.bit F.SEC_PROV_STAT_BUSY = false ∧ (s.mode = M.armed ∨ s.mode = M.provision) ∧ b = s.regBytes (R.SEC_PROV_BUF 0) 102 ∧ u = { s with now := max s.now w, flash := { s.flash with fwp := fwp } }) ∧
    (∃ (ini : Initiator) (w : Nat) (fwp : Bool) (s : State), s.sends ini true R.SEC_PROV_CTL = true ∧ s.domOn 19 = true ∧ ((match ini with | .drone _ => true | .ivwyn => decide (s.holderOf = 1) | .tap => decide (s.holderOf = 2) | _ => false) = true) ∧ s.bit F.SEC_PROV_STAT_BUSY = true) ∧
    (∃ (ini : Initiator) (v : BitVec 64) (k : Fin 102) (a : Nat) (i : Instr) (s : State), (a, i) ∈ ([(R.SEC_PROV_CTL, .provGo ini s.now s.flash.fwp), (R.SEC_PROV_CTL, .provEnd ini), (R.SEC_PROV_CTL, .registerWrite ini R.SEC_PROV_CTL 4 v), (R.SEC_PROV_BUF k.val, .registerWrite ini (R.SEC_PROV_BUF k.val) 4 v)] : List (Nat × Instr)) ∧ s.sends ini true a = true ∧ s.domOn 19 = true ∧ ((match ini with | .drone _ => true | .ivwyn => decide (s.holderOf = 1) | .tap => decide (s.holderOf = 2) | _ => false) = false)) ∧
    (∃ (ini : Initiator) (v : BitVec 64) (k : Fin 102) (s : State), s.sends ini true (R.SEC_PROV_BUF k.val) = true ∧ s.domOn 19 = true ∧ ((match ini with | .drone _ => true | .ivwyn => decide (s.holderOf = 1) | .tap => decide (s.holderOf = 2) | _ => false) = true)) ∧
    (∃ (b : List Nat) (n : Nat) (s : State), b.length = 408 ∧ n = (if fieldBE b 8 1 = 1 then 49 else if fieldBE b 8 1 = 3 then 160 else 0)) ∧
    (∃ (b key : List Nat) (op arg : Nat) (s : State), (op = fieldBE b 8 1 ∧ arg = fieldBE b 9 1) ∧ key = slice b 52 97) ∧
    (∃ (k : Nat) (b c : List Nat) (s : State), k < 4 ∧ c = s.otpBytes (0x1000 + 64 * k) 64) ∧
    (∃ (w : Nat) (bad : Option Nat) (s : State), (s.sec.prov.length = 408 ∧ fieldBE s.sec.prov 8 1 = 1) ∧ fieldBE s.sec.prov 9 1 < 4) ∧
    (∃ (w : Nat) (bad : Option Nat) (s : State), (s.sec.prov.length = 408 ∧ fieldBE s.sec.prov 8 1 = 2) ∧ fieldBE s.sec.prov 9 1 < 4) ∧
    (∃ (w : Nat) (bad : Option Nat) (s : State), (s.sec.prov.length = 408 ∧ fieldBE s.sec.prov 8 1 = 3)) ∧
    (∃ (w : Nat) (bad : Option Nat) (s : State), (s.sec.prov.length = 408 ∧ fieldBE s.sec.prov 8 1 = 4)) ∧
    (∃ (w : Nat) (bad : Option Nat) (s : State), (s.sec.prov.length = 408 ∧ fieldBE s.sec.prov 8 1 = 5)) ∧
    (∃ (w : Nat) (bad : Option Nat) (s : State), (s.sec.prov.length = 408 ∧ fieldBE s.sec.prov 8 1 = 6)) ∧
    (∃ (w : Nat) (bad : Option Nat) (op : Nat) (i : Instr) (s : State), (op, i) ∈ ([(1, .addRoot w bad), (2, .revokeRoot w bad), (3, .setFleet w bad), (4, .lock w bad), (5, .scrap w bad), (6, .provRelease w bad)] : List (Nat × Instr)) ∧ (s.sec.prov = [] ∨ fieldBE s.sec.prov 8 1 ≠ op)) ∧
    (∃ (ini : Initiator) (s : State), s.sends ini true R.SEC_PROV_CTL = true ∧ s.domOn 19 = true ∧ ((match ini with | .drone _ => true | .ivwyn => decide (s.holderOf = 1) | .tap => decide (s.holderOf = 2) | _ => false) = true) ∧ s.mode = M.provision) ∧
    (∃ (ini : Initiator) (s : State), s.sends ini true R.SEC_PROV_CTL = true ∧ s.domOn 19 = true ∧ ((match ini with | .drone _ => true | .ivwyn => decide (s.holderOf = 1) | .tap => decide (s.holderOf = 2) | _ => false) = true) ∧ s.mode ≠ M.provision) ∧
    (∃ (w : Nat) (s : State), (s.mode = M.provision ∧ s.sec.lastGo + 12000000000 ≤ w)) ∧
    (∃ (w : Nat) (s : State), (¬ (s.mode = M.provision ∧ s.sec.lastGo + 12000000000 ≤ w))) ∧
    (∃ (ini : Initiator) (w : Nat) (s : State), s.sends ini true R.SEC_ATT_CTL = true ∧ s.domOn 19 = true ∧ (s.bit F.SEC_ATT_STAT_BUSY = false ∧ s.lifecycle ≠ 3 ∧ s.keyBad = false)) ∧
    (∃ (ini : Initiator) (w : Nat) (s : State), s.sends ini true R.SEC_ATT_CTL = true ∧ s.domOn 19 = true ∧ (s.bit F.SEC_ATT_STAT_BUSY = false ∧ (s.lifecycle = 3 ∨ s.keyBad = true))) ∧
    (∃ (ini : Initiator) (w : Nat) (s : State), s.sends ini true R.SEC_ATT_CTL = true ∧ s.domOn 19 = true ∧ s.bit F.SEC_ATT_STAT_BUSY = true) ∧
    (∃ (w a : Nat) (b r : List Nat) (s : State), s.sec.att = some a ∧ b = ([0x43, 0x36, 0x41, 0x54, 0, 1, 0x61, 0x28] ++ bytesBE 4 (s.rdN R.SYS_IDCODE) ++ [s.lifecycle, s.mode, s.get F.CFG_BOOT_SOURCE * 64 + s.get F.CFG_BOOT_GOLDEN, if s.bit F.EMN_POS_VALID = true then s.get F.EMN_POS_POS else 0] ++ s.serial ++ s.regBytes (R.SEC_ATT_NONCE 0) 8 ++ bytesBE 4 (s.rdN R.CFG_IMAGE_ID_HI) ++ bytesBE 4 (s.rdN R.CFG_IMAGE_ID_LO) ++ bytesBE 4 (s.rdN R.CFG_IMAGE_BUILD) ++ (s.sec.imageHash ++ zeros 48).take 48 ++ bytesBE 4 (s.rdN R.CFG_PR_APPLIED) ++ bytesBE 4 (s.rdN R.SYS_SPARED) ++ [s.get F.SEC_STAT_SLOTS, s.get F.SEC_STAT_FLEET, 0, 0] ++ bytesBE 8 a ++ Config.sha384 ((List.range 4096).flatMap fun n => bytesBE 4 (s.frameRec n).golden)) ∧ r = b ++ Config.ecdsaSign (s.otpBytes 0x1180 48) (Config.sha384 b) s.fresh) ∧
    (∃ (w : Nat) (s : State), s.sec.att = none) :=
  ⟨⟨.drone 2, (wMode M.armed).setEngine 134 { on := true }, by decide +kernel, by decide +kernel⟩,
   ⟨.drone 2, 400, true, (((wMode M.armed).setEngine 134 { on := true })).regBytes (R.SEC_PROV_BUF 0) 102, ((wMode M.armed).setEngine 134 { on := true }), { ((wMode M.armed).setEngine 134 { on := true }) with now := 400, flash := { (((wMode M.armed).setEngine 134 { on := true })).flash with fwp := true } }, by decide +kernel, by decide +kernel, by decide +kernel, by decide +kernel, by decide +kernel, by decide +kernel, rfl⟩,
   ⟨.drone 2, 400, true, (((wMode M.armed).setEngine 134 { on := true })).regBytes (R.SEC_PROV_BUF 0) 102, ((wMode M.armed).setEngine 134 { on := true }), { ((wMode M.armed).setEngine 134 { on := true }) with now := 400, flash := { (((wMode M.armed).setEngine 134 { on := true })).flash with fwp := true } }, by decide +kernel, by decide +kernel, by decide +kernel, by decide +kernel, by decide +kernel, by decide +kernel, rfl⟩,
   ⟨.drone 2, 400, true, ((wMode M.armed).setEngine 134 { on := true }).set F.SEC_PROV_STAT_BUSY 1, by decide +kernel, by decide +kernel, by decide +kernel, by decide +kernel⟩,
   ⟨.tap, 0xC0000000, 0, R.SEC_PROV_CTL, .provGo .tap 0 (wMode M.armed).flash.fwp, wMode M.armed, by decide, by decide +kernel, by decide +kernel, by decide +kernel⟩,
   ⟨.drone 2, 0x43365052, 0, ((wMode M.armed).setEngine 134 { on := true }), by decide +kernel, by decide +kernel, by decide +kernel⟩,
   ⟨wProv 1 |>.sec.prov, 49, wProv 1, by decide +kernel, by decide +kernel⟩,
   ⟨wProv 1 |>.sec.prov, List.replicate 97 0, 1, 2, wProv 1, by decide +kernel, by decide +kernel⟩,
   ⟨2, [], (wProv 1).otpBytes 0x1080 64, wProv 1, by decide +kernel, by decide +kernel⟩,
   ⟨400, none, wProv 1, by decide +kernel, by decide +kernel⟩,
   ⟨400, none, wProv 2, by decide +kernel, by decide +kernel⟩,
   ⟨400, none, wProv 3, by decide +kernel⟩,
   ⟨400, none, wProv 4, by decide +kernel⟩,
   ⟨400, none, wProv 5, by decide +kernel⟩,
   ⟨400, none, wProv 6, by decide +kernel⟩,
   ⟨400, none, 1, .addRoot 400 none, wProv 3, by decide, by decide +kernel⟩,
   ⟨.drone 2, (wMode M.provision).setEngine 134 { on := true }, by decide +kernel, by decide +kernel, by decide +kernel, by decide +kernel⟩,
   ⟨.drone 2, ((wMode M.armed).setEngine 134 { on := true }), by decide +kernel, by decide +kernel, by decide +kernel, by decide +kernel⟩,
   ⟨12000000000, wMode M.provision, by decide +kernel⟩,
   ⟨11999999999, wMode M.provision, by decide +kernel⟩,
   ⟨.tap, 400, ((wMode M.run).set F.SEC_STAT_LIFECYCLE 2).set F.SEC_STAT_KEY_BAD 0, by decide +kernel, by decide +kernel, by decide +kernel⟩,
   ⟨.tap, 400, (wMode M.run).set F.SEC_STAT_KEY_BAD 1, by decide +kernel, by decide +kernel, by decide +kernel⟩,
   ⟨.tap, 400, (wMode M.run).set F.SEC_ATT_STAT_BUSY 1, by decide +kernel, by decide +kernel, by decide +kernel⟩,
   ⟨400, 5, (let s : State := { wMode M.run with sec := { att := some 5 } }; (([0x43, 0x36, 0x41, 0x54, 0, 1, 0x61, 0x28] ++ bytesBE 4 (s.rdN R.SYS_IDCODE) ++ [s.lifecycle, s.mode, s.get F.CFG_BOOT_SOURCE * 64 + s.get F.CFG_BOOT_GOLDEN, if s.bit F.EMN_POS_VALID = true then s.get F.EMN_POS_POS else 0] ++ s.serial ++ s.regBytes (R.SEC_ATT_NONCE 0) 8 ++ bytesBE 4 (s.rdN R.CFG_IMAGE_ID_HI) ++ bytesBE 4 (s.rdN R.CFG_IMAGE_ID_LO) ++ bytesBE 4 (s.rdN R.CFG_IMAGE_BUILD) ++ (s.sec.imageHash ++ zeros 48).take 48 ++ bytesBE 4 (s.rdN R.CFG_PR_APPLIED) ++ bytesBE 4 (s.rdN R.SYS_SPARED) ++ [s.get F.SEC_STAT_SLOTS, s.get F.SEC_STAT_FLEET, 0, 0] ++ bytesBE 8 5 ++ Config.sha384 ((List.range 4096).flatMap fun n => bytesBE 4 (s.frameRec n).golden)))), (let s : State := { wMode M.run with sec := { att := some 5 } }; (([0x43, 0x36, 0x41, 0x54, 0, 1, 0x61, 0x28] ++ bytesBE 4 (s.rdN R.SYS_IDCODE) ++ [s.lifecycle, s.mode, s.get F.CFG_BOOT_SOURCE * 64 + s.get F.CFG_BOOT_GOLDEN, if s.bit F.EMN_POS_VALID = true then s.get F.EMN_POS_POS else 0] ++ s.serial ++ s.regBytes (R.SEC_ATT_NONCE 0) 8 ++ bytesBE 4 (s.rdN R.CFG_IMAGE_ID_HI) ++ bytesBE 4 (s.rdN R.CFG_IMAGE_ID_LO) ++ bytesBE 4 (s.rdN R.CFG_IMAGE_BUILD) ++ (s.sec.imageHash ++ zeros 48).take 48 ++ bytesBE 4 (s.rdN R.CFG_PR_APPLIED) ++ bytesBE 4 (s.rdN R.SYS_SPARED) ++ [s.get F.SEC_STAT_SLOTS, s.get F.SEC_STAT_FLEET, 0, 0] ++ bytesBE 8 5 ++ Config.sha384 ((List.range 4096).flatMap fun n => bytesBE 4 (s.frameRec n).golden)))) ++ Config.ecdsaSign (({ wMode M.run with sec := { att := some 5 } }).otpBytes 0x1180 48) (Config.sha384 (let s : State := { wMode M.run with sec := { att := some 5 } }; (([0x43, 0x36, 0x41, 0x54, 0, 1, 0x61, 0x28] ++ bytesBE 4 (s.rdN R.SYS_IDCODE) ++ [s.lifecycle, s.mode, s.get F.CFG_BOOT_SOURCE * 64 + s.get F.CFG_BOOT_GOLDEN, if s.bit F.EMN_POS_VALID = true then s.get F.EMN_POS_POS else 0] ++ s.serial ++ s.regBytes (R.SEC_ATT_NONCE 0) 8 ++ bytesBE 4 (s.rdN R.CFG_IMAGE_ID_HI) ++ bytesBE 4 (s.rdN R.CFG_IMAGE_ID_LO) ++ bytesBE 4 (s.rdN R.CFG_IMAGE_BUILD) ++ (s.sec.imageHash ++ zeros 48).take 48 ++ bytesBE 4 (s.rdN R.CFG_PR_APPLIED) ++ bytesBE 4 (s.rdN R.SYS_SPARED) ++ [s.get F.SEC_STAT_SLOTS, s.get F.SEC_STAT_FLEET, 0, 0] ++ bytesBE 8 5 ++ Config.sha384 ((List.range 4096).flatMap fun n => bytesBE 4 (s.frameRec n).golden))))) ({ wMode M.run with sec := { att := some 5 } }).fresh, { wMode M.run with sec := { att := some 5 } }, by decide +kernel, rfl, rfl⟩,
   ⟨400, wMode M.run, by decide +kernel⟩⟩

/-- The hypotheses of PinsAndPorts are met. -/
theorem wit_PinsAndPorts :
    (∃ (ini : Initiator) (k : Fin 8) (v x : BitVec 32) (a : Nat) (i : Instr) (s : State), (a, x, i) ∈ ([(R.GPIO_OUT_SET k.val, s.rd (R.GPIO_OUT k.val) ||| (v &&& 0xFFFF#32), .outSet ini k v), (R.GPIO_OUT_CLR k.val, s.rd (R.GPIO_OUT k.val) &&& ~~~(v &&& 0xFFFF#32), .outClr ini k v), (R.GPIO_OUT_TGL k.val, s.rd (R.GPIO_OUT k.val) ^^^ (v &&& 0xFFFF#32), .outTgl ini k v), (R.GPIO_OUT k.val, v &&& 0xFFFF#32, .registerWrite ini (R.GPIO_OUT k.val) 4 ((v).zeroExtend 64))] : List (Nat × BitVec 32 × Instr)) ∧ s.sends ini true a = true) ∧
    (∃ (ini : Initiator) (k : Fin 8) (x : BitVec 32) (a : Nat) (i : Instr) (s : State), (a, x, i) ∈ ([(R.GPIO_OUT_SET k.val, s.rd (R.GPIO_OUT k.val), .rcRead ini (R.GPIO_OUT_SET k.val) 4), (R.GPIO_OUT_CLR k.val, s.rd (R.GPIO_OUT k.val), .rcRead ini (R.GPIO_OUT_CLR k.val) 4), (R.GPIO_CAP_INFO k.val, (match s.capFifo k.val with | e :: _ => BitVec.ofNat 32 (2 ^ 31 + 2 ^ 30 * s.get (F.GPIO_CAP_INFO_OVF k.val) + (if e.rise = true then 16 else 0) + e.pin) | [] => BitVec.ofNat 32 (2 ^ 30 * s.get (F.GPIO_CAP_INFO_OVF k.val))), .rcRead ini (R.GPIO_CAP_INFO k.val) 4)] : List (Nat × BitVec 32 × Instr)) ∧ s.sends ini false a = true) ∧
    (∃ (ini : Initiator) (n : Fin 128) (v : BitVec 32) (i : Instr) (s : State), i ∈ ([.gpCfgWrite ini n v, .registerWrite ini (R.GPIO_GP_CFG n.val) 4 ((v).zeroExtend 64)] : List Instr) ∧ s.sends ini true (R.GPIO_GP_CFG n.val) = true ∧ ((if bitsOf v 3 0 = 2 ∨ bitsOf v 3 0 = 3 then 4 ≤ n.val % 16 ∧ n.val % 16 ≤ 7 else if bitsOf v 3 0 = 4 then n.val % 16 = 4 ∨ n.val % 16 = 5 else if bitsOf v 3 0 = 5 then n.val % 16 ≤ 1 else bitsOf v 3 0 ≤ 11) ∧ bitsOf v 9 8 < 3 ∧ bitsOf v 15 14 < 3 ∧ bitsOf v 18 16 < 6 ∧ bitsOf v 23 22 < 3)) ∧
    (∃ (ini : Initiator) (n : Fin 128) (v : BitVec 32) (i : Instr) (s : State), i ∈ ([.gpCfgWrite ini n v, .registerWrite ini (R.GPIO_GP_CFG n.val) 4 ((v).zeroExtend 64)] : List Instr) ∧ s.sends ini true (R.GPIO_GP_CFG n.val) = true ∧ (¬ ((if bitsOf v 3 0 = 2 ∨ bitsOf v 3 0 = 3 then 4 ≤ n.val % 16 ∧ n.val % 16 ≤ 7 else if bitsOf v 3 0 = 4 then n.val % 16 = 4 ∨ n.val % 16 = 5 else if bitsOf v 3 0 = 5 then n.val % 16 ≤ 1 else bitsOf v 3 0 ≤ 11) ∧ bitsOf v 9 8 < 3 ∧ bitsOf v 15 14 < 3 ∧ bitsOf v 18 16 < 6 ∧ bitsOf v 23 22 < 3))) ∧
    (∃ (n : Fin 128) (w samples : Nat) (level : Bool) (word : Fin 256) (s : State), s.mode = M.reset) ∧
    (∃ (n : Fin 128) (w samples : Nat) (level : Bool) (word : Fin 256) (e : Bool) (s : State), s.mode ≠ M.reset ∧ s.bitAt (R.GPIO_IN (n.val / 16)) (n.val % 16) = level ∧ (e = (((level && decide (s.get (F.GPIO_GP_CFG_IRQ n.val) = 4)) || (!level && decide (s.get (F.GPIO_GP_CFG_IRQ n.val) = 5))) && (decide ((s.pinIn n.val).quietTo ≤ max s.now w) && !(decide (n.val % 16 = 4) && decide (2 ≤ s.pinFunc n.val ∧ s.pinFunc n.val ≤ 4)))))) ∧
    (∃ (n : Fin 128) (w samples : Nat) (level : Bool) (word : Fin 256) (m p : Nat) (s : State), s.mode ≠ M.reset ∧ s.bitAt (R.GPIO_IN (n.val / 16)) (n.val % 16) ≠ level ∧ p = 2 * 2 ^ s.get (F.GPIO_GP_CFG_FILT_TB n.val) ∧ m = samples - ((s.pinIn n.val).since - w + p - 1) / p ∧ (¬ (if s.get (F.GPIO_GP_CFG_FMODE n.val) = 1 then s.get (F.GPIO_GP_CFG_FILT_N n.val) + 1 ≤ m else if s.get (F.GPIO_GP_CFG_FMODE n.val) = 2 then 1 ≤ m ∧ (match (s.pinIn n.val).takenAt with | some q => decide (q + (s.get (F.GPIO_GP_CFG_FILT_N n.val) + 1) * p < max s.now w) | none => true) = true else 1 ≤ m))) ∧
    (∃ (n : Fin 128) (w samples : Nat) (level : Bool) (word : Fin 256) (m p : Nat) (e : Bool) (s : State), s.mode ≠ M.reset ∧ s.bitAt (R.GPIO_IN (n.val / 16)) (n.val % 16) ≠ level ∧ p = 2 * 2 ^ s.get (F.GPIO_GP_CFG_FILT_TB n.val) ∧ m = samples - ((s.pinIn n.val).since - w + p - 1) / p ∧ (if s.get (F.GPIO_GP_CFG_FMODE n.val) = 1 then s.get (F.GPIO_GP_CFG_FILT_N n.val) + 1 ≤ m else if s.get (F.GPIO_GP_CFG_FMODE n.val) = 2 then 1 ≤ m ∧ (match (s.pinIn n.val).takenAt with | some q => decide (q + (s.get (F.GPIO_GP_CFG_FILT_N n.val) + 1) * p < max s.now w) | none => true) = true else 1 ≤ m) ∧ (e = (((decide (s.get (F.GPIO_GP_CFG_IRQ n.val) = 3) || (level && decide (s.get (F.GPIO_GP_CFG_IRQ n.val) = 1)) || (!level && decide (s.get (F.GPIO_GP_CFG_IRQ n.val) = 2))) || ((level && decide (s.get (F.GPIO_GP_CFG_IRQ n.val) = 4)) || (!level && decide (s.get (F.GPIO_GP_CFG_IRQ n.val) = 5)))) && (decide ((s.pinIn n.val).quietTo ≤ max s.now w) && !(decide (n.val % 16 = 4) && decide (2 ≤ s.pinFunc n.val ∧ s.pinFunc n.val ≤ 4)))))) ∧
    (∃ (ini : Initiator) (k : Fin 8) (v : BitVec 64) (s : State), s.sends ini true (R.GPIO_IRQ_STAT k.val) = true) ∧
    (∃ (ini : Initiator) (k : Fin 8) (l : List CapEntry) (i : Instr) (s : State), i ∈ ([.capTimeRead ini k, .rcRead ini (R.GPIO_CAP_TIME k.val) 4] : List Instr) ∧ s.sends ini false (R.GPIO_CAP_TIME k.val) = true ∧ s.capFifo k.val = l) ∧
    (∃ (ini : Initiator) (k : Fin 8) (v : BitVec 32) (d : BitVec 8) (x : Nat) (i : Instr) (s : State), (x, i) ∈ ([(v.toNat % 4096, .portTxWrite ini k v), (v.toNat % 4096, .registerWrite ini (R.GPIO_PORT_TX k.val) 4 ((v).zeroExtend 64)), (0x100, .i2cStart ini k), (0x200 + d.toNat, .i2cWrite ini k d), (0x300, .i2cReadAck ini k), (0x400, .i2cReadNack ini k), (0x500, .i2cStop ini k)] : List (Nat × Instr)) ∧ s.sends ini true (R.GPIO_PORT_TX k.val) = true ∧ ((s.port k.val).tx.length < 16 ∧ (s.get (F.GPIO_PORT_CFG_MODE k.val) ≠ 3 ∨ 1 ≤ x / 256 ∧ x / 256 ≤ 5))) ∧
    (∃ (ini : Initiator) (k : Fin 8) (v : BitVec 32) (d : BitVec 8) (x : Nat) (i : Instr) (s : State), (x, i) ∈ ([(v.toNat % 4096, .portTxWrite ini k v), (v.toNat % 4096, .registerWrite ini (R.GPIO_PORT_TX k.val) 4 ((v).zeroExtend 64)), (0x100, .i2cStart ini k), (0x200 + d.toNat, .i2cWrite ini k d), (0x300, .i2cReadAck ini k), (0x400, .i2cReadNack ini k), (0x500, .i2cStop ini k)] : List (Nat × Instr)) ∧ s.sends ini true (R.GPIO_PORT_TX k.val) = true ∧ (¬ ((s.port k.val).tx.length < 16 ∧ (s.get (F.GPIO_PORT_CFG_MODE k.val) ≠ 3 ∨ 1 ≤ x / 256 ∧ x / 256 ≤ 5)))) ∧
    (∃ (k : Fin 8) (w : Nat) (data : BitVec 8) (nack : Bool) (e : Nat) (r q : List Nat) (get lost na : Bool) (s : State), (s.port k.val).tx = e :: r ∧ (s.get (F.GPIO_PORT_CFG_MODE k.val) ≠ 0 ∧ (s.port k.val).at_ + (if s.get (F.GPIO_PORT_CFG_MODE k.val) = 1 then (10 + (if s.get (F.GPIO_PORT_CFG_OPT k.val) % 4 = 0 then 0 else 1) + s.get (F.GPIO_PORT_CFG_OPT k.val) / 4 % 2) * (16 * (s.get (F.GPIO_PORT_CFG_DIV k.val) + 1)) * 2 else if s.get (F.GPIO_PORT_CFG_MODE k.val) = 2 then 8 * (2 * (s.get (F.GPIO_PORT_CFG_DIV k.val) + 1)) * 2 else (if e / 256 % 16 = 1 ∨ e / 256 % 16 = 5 then 1 else 9) * (4 * (s.get (F.GPIO_PORT_CFG_DIV k.val) + 1)) * 2) ≤ max s.now w) ∧ get = (decide (s.get (F.GPIO_PORT_CFG_MODE k.val) = 2) || decide (s.get (F.GPIO_PORT_CFG_MODE k.val) = 3) && (decide (e / 256 % 16 = 3) || decide (e / 256 % 16 = 4))) ∧ lost = (get && decide (16 ≤ (s.port k.val).rx.length)) ∧ na = (decide (s.get (F.GPIO_PORT_CFG_MODE k.val) = 3) && decide (e / 256 % 16 = 2) && nack) ∧ (q = (s.port k.val).rx ++ (if get = true ∧ lost = false then [data.toNat] else []))) ∧
    (∃ (k : Fin 8) (w : Nat) (data : BitVec 8) (nack : Bool) (s : State), ((match (s.port k.val).tx with | e :: _ => !(decide (s.get (F.GPIO_PORT_CFG_MODE k.val) ≠ 0 ∧ (s.port k.val).at_ + (if s.get (F.GPIO_PORT_CFG_MODE k.val) = 1 then (10 + (if s.get (F.GPIO_PORT_CFG_OPT k.val) % 4 = 0 then 0 else 1) + s.get (F.GPIO_PORT_CFG_OPT k.val) / 4 % 2) * (16 * (s.get (F.GPIO_PORT_CFG_DIV k.val) + 1)) * 2 else if s.get (F.GPIO_PORT_CFG_MODE k.val) = 2 then 8 * (2 * (s.get (F.GPIO_PORT_CFG_DIV k.val) + 1)) * 2 else (if e / 256 % 16 = 1 ∨ e / 256 % 16 = 5 then 1 else 9) * (4 * (s.get (F.GPIO_PORT_CFG_DIV k.val) + 1)) * 2) ≤ max s.now w)) | [] => true) = true)) ∧
    (∃ (k : Fin 8) (w : Nat) (data : BitVec 8) (pe fe : Bool) (q : List Nat) (s : State), s.get (F.GPIO_PORT_CFG_MODE k.val) = 1 ∧ q = (s.port k.val).rx ++ (if 16 ≤ (s.port k.val).rx.length then [] else [data.toNat])) ∧
    (∃ (k : Fin 8) (w : Nat) (data : BitVec 8) (pe fe : Bool) (s : State), s.get (F.GPIO_PORT_CFG_MODE k.val) ≠ 1) ∧
    (∃ (ini : Initiator) (k : Fin 8) (l : List Nat) (i : Instr) (s : State), i ∈ ([.portRxRead ini k, .rcRead ini (R.GPIO_PORT_RX k.val) 4] : List Instr) ∧ s.sends ini false (R.GPIO_PORT_RX k.val) = true ∧ (s.port k.val).rx = l) ∧
    (∃ (ini : Initiator) (k : Fin 8) (v : BitVec 64) (s : State), s.sends ini true (R.GPIO_PORT_CFG k.val) = true ∧ (¬ (bitsOf (v.truncate 32) 31 30 = 1 ∧ bitsOf (v.truncate 32) 1 0 = 3))) ∧
    (∃ (ini : Initiator) (k : Fin 8) (v : BitVec 64) (s : State), s.sends ini true (R.GPIO_PORT_CFG k.val) = true ∧ (bitsOf (v.truncate 32) 31 30 = 1 ∧ bitsOf (v.truncate 32) 1 0 = 3)) ∧
    (∃ (ini : Initiator) (k : Fin 8) (v cur : BitVec 32) (a : Nat) (i : Instr) (s : State), i ∈ ([.pwmWrite ini k v, .registerWrite ini (R.GPIO_PWM k.val) 4 ((v).zeroExtend 64)] : List Instr) ∧ s.sends ini true (R.GPIO_PWM k.val) = true ∧ (2 ≤ bitsOf v 31 16 ∧ bitsOf v 15 0 ≤ bitsOf v 31 16) ∧ (cur, a) = (if (Sparse.get (fun _ => {}) s.gpio.pwm k.val : PwmGen).nxtAt ≤ s.now then ((Sparse.get (fun _ => {}) s.gpio.pwm k.val : PwmGen).nxt, (Sparse.get (fun _ => {}) s.gpio.pwm k.val : PwmGen).nxtAt) else ((Sparse.get (fun _ => {}) s.gpio.pwm k.val : PwmGen).cur, (Sparse.get (fun _ => {}) s.gpio.pwm k.val : PwmGen).start))) ∧
    (∃ (ini : Initiator) (k : Fin 8) (v : BitVec 32) (i : Instr) (s : State), i ∈ ([.pwmWrite ini k v, .registerWrite ini (R.GPIO_PWM k.val) 4 ((v).zeroExtend 64)] : List Instr) ∧ s.sends ini true (R.GPIO_PWM k.val) = true ∧ (¬ (2 ≤ bitsOf v 31 16 ∧ bitsOf v 15 0 ≤ bitsOf v 31 16))) ∧
    (∃ (k : Nat) (cur : BitVec 32) (a : Nat) (s : State), k < 8 ∧ (cur, a) = (if (Sparse.get (fun _ => {}) s.gpio.pwm k : PwmGen).nxtAt ≤ s.now then ((Sparse.get (fun _ => {}) s.gpio.pwm k : PwmGen).nxt, (Sparse.get (fun _ => {}) s.gpio.pwm k : PwmGen).nxtAt) else ((Sparse.get (fun _ => {}) s.gpio.pwm k : PwmGen).cur, (Sparse.get (fun _ => {}) s.gpio.pwm k : PwmGen).start))) ∧
    (∃ (n : Fin 128) (f : Nat) (s : State), f = s.pinFunc n.val) :=
  ⟨⟨.tap, 5, 0x3C0F0F1#32, 0xF0FF#32, R.GPIO_OUT_SET 5, .outSet .tap 5 0x3C0F0F1#32, (wMode M.run).wr (R.GPIO_OUT 5) 0xFF#32, by decide, by decide +kernel⟩,
   ⟨.tap, 5, 0xFF#32, R.GPIO_OUT_SET 5, .rcRead .tap (R.GPIO_OUT_SET 5) 4, (wMode M.run).wr (R.GPIO_OUT 5) 0xFF#32, by decide, by decide +kernel⟩,
   ⟨.tap, 127, 0x1100BC4A#32, .gpCfgWrite .tap 127 0x1100BC4A#32, (wMode M.run), by decide, by decide +kernel, by decide +kernel⟩,
   ⟨.tap, 16, 0x1100BC42#32, .gpCfgWrite .tap 16 0x1100BC42#32, (wMode M.run), by decide, by decide +kernel, by decide +kernel⟩,
   ⟨20, 900, 3, true, 0xA5, wMode M.reset, by decide +kernel⟩,
   ⟨20, 900, 1, false, 0, true, (wMode M.run).wr (R.GPIO_GP_CFG 20) 0x00050000#32, by decide +kernel, by decide +kernel, by decide +kernel⟩,
   ⟨20, 900, 1, true, 0, 1, 2, (wMode M.run).wr (R.GPIO_GP_CFG 20) 0x10410000#32, by decide +kernel, by decide +kernel, by decide +kernel, by decide +kernel, by decide +kernel⟩,
   ⟨20, 900, 2, true, 0x80, 2, 2, true, (wMode M.run).wr (R.GPIO_GP_CFG 20) 0x10410000#32, by decide +kernel, by decide +kernel, by decide +kernel, by decide +kernel, by decide +kernel, by decide +kernel⟩,
   ⟨.tap, 1, 0x70, (((wMode M.run).wr (R.GPIO_GP_CFG 20) 0x00050000#32).wr (R.GPIO_GP_CFG 21) 0x00040000#32).wr (R.GPIO_IRQ_STAT 1) 0xFF#32, by decide +kernel⟩,
   ⟨.tap, 7, [⟨3, true, 0x12345678⟩, ⟨4, false, 9⟩], .capTimeRead .tap 7, (wMode M.run).setCapFifo 7 [⟨3, true, 0x12345678⟩, ⟨4, false, 9⟩], by decide, by decide +kernel, by decide +kernel⟩,
   ⟨.tap, 1, 0xF155#32, 0, 0x155, .portTxWrite .tap 1 0xF155#32, (wMode M.run).set (F.GPIO_PORT_CFG_MODE 1) 3, by decide, by decide +kernel, by decide +kernel⟩,
   ⟨.tap, 1, 0x655#32, 0, 0x655, .portTxWrite .tap 1 0x655#32, (wMode M.run).set (F.GPIO_PORT_CFG_MODE 1) 3, by decide, by decide +kernel, by decide +kernel⟩,
   ⟨2, 72, 0x33, true, 0x2A0, [], [], false, false, true, ((wMode M.run).set (F.GPIO_PORT_CFG_MODE 2) 3).setPort 2 { tx := [0x2A0] }, by decide +kernel, by decide +kernel, by decide +kernel, by decide +kernel, by decide +kernel, by decide +kernel⟩,
   ⟨2, 71, 0x33, true, ((wMode M.run).set (F.GPIO_PORT_CFG_MODE 2) 3).setPort 2 { tx := [0x2A0] }, by decide +kernel⟩,
   ⟨2, 9, 0x33, true, true, [0x33], ((wMode M.run).set (F.GPIO_PORT_CFG_MODE 2) 1).set (F.GPIO_PORT_CFG_OPT 2) 1, by decide +kernel, by decide +kernel⟩,
   ⟨2, 71, 0x33, true, true, (wMode M.run).set (F.GPIO_PORT_CFG_MODE 2) 2, by decide +kernel⟩,
   ⟨.tap, 2, [5, 6], .portRxRead .tap 2, (wMode M.run).setPort 2 { rx := [5, 6] }, by decide, by decide +kernel, by decide +kernel⟩,
   ⟨.tap, 6, 0x9FFFFFF3, ((wMode M.run).setPort 6 { tx := [3] }), by decide +kernel, by decide +kernel⟩,
   ⟨.tap, 6, 0x41230007, ((wMode M.run).setPort 6 { tx := [3] }).wr (R.GPIO_PORT_CFG 6) 1#32, by decide +kernel, by decide +kernel⟩,
   ⟨.tap, 6, 0x00640032#32, 0#32, 0, .pwmWrite .tap 6 0x00640032#32, (wMode M.run), by decide, by decide +kernel, by decide +kernel, by decide +kernel⟩,
   ⟨.tap, 6, 0x00010001#32, .pwmWrite .tap 6 0x00010001#32, (wMode M.run), by decide, by decide +kernel, by decide +kernel⟩,
   ⟨6, 0x000A0005#32, 7, let s := (wMode M.run); { s with now := 100, gpio := { s.gpio with pwm := Sparse.put (fun _ => {}) [] 6 { nxt := 0x000A0005#32, nxtAt := 7 } } }, by decide +kernel, by decide +kernel⟩,
   ⟨20, 0, (wMode M.run), by decide +kernel⟩⟩

/-- The hypotheses of StepsKeepTheRegistersCanonical are met. -/
theorem wit_StepsKeepTheRegistersCanonical : ∃ s t : State, s.RegsCanonical ∧ step s = .next t := ⟨State.reset, State.reset.tickOne, by decide +kernel, rfl⟩
end Slice0
end

section
/-! PROOFS. The machine after RESET. -/
namespace Sys2Proof.Machine

/-- Before a wheel area is initialised every word of memory is at its unwritten reset value. -/
theorem memReset_uninited (k : Nat) : memReset false false k = gridUnwritten := by
  simp [memReset]

theorem State.memWord_reset (a : Nat) : State.reset.memWord a = gridUnwritten :=
  memReset_uninited (a / 8)

/-- Where the sources of a list are pending on drone 0 and nothing else is, a slot is pending exactly when it is one of theirs. -/
theorem Sparse.get_pendingOnDrone0 {l : List Nat} {num dr : Nat} (hdr : dr < 4) :
    Sparse.get (fun _ => {}) (l.map fun n => (n * 4, ({ pend := true } : IrqSlot))) (num * 4 + dr) =
      if dr = 0 ∧ num ∈ l then { pend := true } else {} := by
  induction l with
  | nil => simp [Sparse.get]
  | cons n r ih =>
    have hkey : n * 4 = num * 4 + dr ↔ dr = 0 ∧ num = n := by omega
    by_cases hn : dr = 0 ∧ num = n
    · simp [Sparse.get, hn]
    · have hmem : (dr = 0 ∧ num ∈ n :: r) ↔ dr = 0 ∧ num ∈ r := by grind
      simp only [List.map_cons, Sparse.get, hkey, hn, hmem, if_false, ih]

theorem State.slot_reset {num dr : Nat} (hdr : dr < 4) :
    State.reset.slot num dr = if dr = 0 ∧ num ∈ [667, 774, 813, 824, 894] then { pend := true } else {} :=
  Sparse.get_pendingOnDrone0 (l := [667, 774, 813, 824, 894]) hdr

/-- Settles O60: the clauses over every address and every slot by their lemmas, the others by evaluation of the reset state. -/
theorem resetState : Obligations.ResetState := by
  unfold Obligations.ResetState
  exact ⟨by decide +kernel, by decide +kernel, by decide +kernel, rfl, rfl, by decide +kernel, State.memWord_reset,
    fun _ _ => State.slot_reset, by decide +kernel, by decide +kernel, rfl, by decide +kernel, rfl⟩

end Sys2Proof.Machine
end

section
/-! PROOFS. Every step keeps the register list canonical. Four operations replace the register list: `State.wr` puts
one entry, and the others keep some of the entries (`State.clearImage`, the loss of a domain's power) or none (`State.resetRegs`); each keeps
the list canonical. Every other operation changes it through these four or leaves it. So there is one lemma for each operation, in the order
of the model's files, from the lemmas of the operations it calls along the branches of its own definition. -/
namespace Sys2Proof.Machine

/-! ## What the operations return -/

/-- A pair whose state has a canonical register list. -/
def PairCanonical {α : Type} (p : State × α) : Prop := p.1.RegsCanonical

/-- An outcome that is a next state, with a canonical register list. -/
inductive OutCanonical : Out → Prop
  | next {s : State} (h : s.RegsCanonical) : OutCanonical (.next s)

/-- Where there is a result, its state has a canonical register list. -/
def OptCanonical {α : Type} (o : Option (State × α)) : Prop := ∀ p, o = some p → PairCanonical p

/-! ## Branches and folds -/

theorem State.canonical_ite {c : Prop} {_ : Decidable c} {a b : State} (ha : a.RegsCanonical) (hb : b.RegsCanonical) :
    (if c then a else b).RegsCanonical := by
  split
  · exact ha
  · exact hb

theorem State.canonical_foldl {α : Type} {f : State → α → State} {l : List α} {s : State}
    (hf : ∀ t x, t.RegsCanonical → (f t x).RegsCanonical) (h : s.RegsCanonical) : (l.foldl f s).RegsCanonical := by
  induction l generalizing s with
  | nil => exact h
  | cons x r ih => exact ih (hf s x h)

theorem State.canonical_getD {o : Option State} {s : State} (ho : ∀ {t}, o = some t → t.RegsCanonical) (h : s.RegsCanonical) :
    (o.getD s).RegsCanonical := by
  cases o with
  | none => exact h
  | some t => exact ho rfl

/-- The image fields of a canonical register list are cleared entry by entry, and an entry that reaches its reset value is left
out (R382). -/
theorem State.wf_filterMap_clearImage {m : Sparse Word} (h : Sparse.wf regReset m = true) :
    Sparse.wf regReset (m.filterMap Machine.clearImage) = true := by
  refine Sparse.wfFrom_filterMap _ (fun e x hx => ?_) h
  unfold Machine.clearImage at hx
  extract_lets w at hx
  split at hx
  · cases hx
  · next hw =>
    cases hx
    exact ⟨rfl, hw⟩

theorem PairCanonical.mk {α : Type} {s : State} {x : α} (h : s.RegsCanonical) : PairCanonical (s, x) := h

theorem PairCanonical.of_eq {α : Type} {p : State × α} {s : State} {x : α} (e : p = (s, x)) (h : PairCanonical p) :
    s.RegsCanonical := by
  subst e
  exact h

theorem PairCanonical.ite {α : Type} {c : Prop} {_ : Decidable c} {a b : State × α} (ha : PairCanonical a) (hb : PairCanonical b) :
    PairCanonical (if c then a else b) := by
  split
  · exact ha
  · exact hb

theorem PairCanonical.foldl {α β : Type} {f : State × β → α → State × β} {l : List α} {p : State × β}
    (hf : ∀ t x, PairCanonical t → PairCanonical (f t x)) (h : PairCanonical p) : PairCanonical (l.foldl f p) := by
  induction l generalizing p with
  | nil => exact h
  | cons x r ih => exact ih (hf p x h)

theorem OptCanonical.none {α : Type} : OptCanonical (none : Option (State × α)) := fun _ e => nomatch e

theorem OptCanonical.some {α : Type} {p : State × α} (h : PairCanonical p) : OptCanonical (some p) := by
  intro q e
  cases e
  exact h

theorem OptCanonical.of_eq {α : Type} {o : Option (State × α)} {s : State} {x : α} (e : o = Option.some (s, x)) (h : OptCanonical o) :
    s.RegsCanonical := h (s, x) e

theorem OptCanonical.ite {α : Type} {c : Prop} {_ : Decidable c} {a b : Option (State × α)} (ha : OptCanonical a) (hb : OptCanonical b) :
    OptCanonical (if c then a else b) := by
  split
  · exact ha
  · exact hb

theorem OutCanonical.ite {c : Prop} {_ : Decidable c} {a b : Out} (ha : OutCanonical a) (hb : OutCanonical b) :
    OutCanonical (if c then a else b) := by
  split
  · exact ha
  · exact hb

namespace State
variable {s : State}

/-! ## The operations, file by file -/

/-! ### Machine/Ops.lean -/

theorem canonical_setBitAt {a i : Nat} (h : s.RegsCanonical) : (s.setBitAt a i).RegsCanonical := canonical_set _ _ h

theorem canonical_clrBitAt {a i : Nat} (h : s.RegsCanonical) : (s.clrBitAt a i).RegsCanonical := canonical_set _ _ h

theorem canonical_countBy {a k : Nat} (h : s.RegsCanonical) : (s.countBy a k).RegsCanonical := canonical_wr _ _ h

theorem canonical_countField {f : FieldAt} {k : Nat} (h : s.RegsCanonical) : (s.countField f k).RegsCanonical := canonical_set _ _ h

theorem canonical_wrap {a k : Nat} (h : s.RegsCanonical) : (s.wrap a k).RegsCanonical := canonical_wr _ _ h

theorem canonical_drawn (h : s.RegsCanonical) : s.drawn.RegsCanonical := h

theorem canonical_at_ {t : Nat} (h : s.RegsCanonical) : (s.at_ t).RegsCanonical := h

theorem canonical_fit32 {v : Int} (h : s.RegsCanonical) : PairCanonical (s.fit32 v) := .ite (.mk h) (.mk (canonical_drawn h))

theorem canonical_div32 {x y : Int} (h : s.RegsCanonical) : PairCanonical (s.div32 x y) :=
  .ite (.mk (canonical_drawn h)) (canonical_fit32 h)

theorem canonical_setTracker {x : Nat} {v : Tracker} (h : s.RegsCanonical) : (s.setTracker x v).RegsCanonical := h

theorem canonical_setDom {x : Nat} {v : Domain} (h : s.RegsCanonical) : (s.setDom x v).RegsCanonical := h

theorem canonical_setSlot {n d : Nat} {v : IrqSlot} (h : s.RegsCanonical) : (s.setSlot n d v).RegsCanonical := h

theorem canonical_setDrone {d : Nat} {v : DroneCtl} (h : s.RegsCanonical) : (s.setDrone d v).RegsCanonical := h

theorem canonical_setSession {x : Nat} {v : Session} (h : s.RegsCanonical) : (s.setSession x v).RegsCanonical := h

theorem canonical_setEmnPort {x : Nat} {v : EmnPort} (h : s.RegsCanonical) : (s.setEmnPort x v).RegsCanonical := h

theorem canonical_setPair {x : Nat} {v : Pair} (h : s.RegsCanonical) : (s.setPair x v).RegsCanonical := h

theorem canonical_setEngine {x : Nat} {v : Engine} (h : s.RegsCanonical) : (s.setEngine x v).RegsCanonical := h

theorem canonical_setLane {x : Nat} {v : Lane} (h : s.RegsCanonical) : (s.setLane x v).RegsCanonical := h

theorem canonical_setAdc {x : Nat} {v : Adc} (h : s.RegsCanonical) : (s.setAdc x v).RegsCanonical := h

theorem canonical_setPwrDom {x : Nat} {v : PwrDom} (h : s.RegsCanonical) : (s.setPwrDom x v).RegsCanonical := h

theorem canonical_raiseFor {n d : Nat} (h : s.RegsCanonical) : (s.raiseFor n d).RegsCanonical := canonical_raiseOn _ _ h

theorem canonical_raiseDroneEvent {d : Nat} (h : s.RegsCanonical) : (s.raiseDroneEvent d).RegsCanonical :=
  canonical_foldl (fun _ _ ht => canonical_raiseOn _ _ ht) h

theorem canonical_answer {ini : Initiator} {addr : Nat} {r : Resp} {data : BitVec 64} (h : s.RegsCanonical) :
    (s.answer ini addr r data).RegsCanonical := by
  unfold State.answer
  extract_lets s1
  have h1 : s1.RegsCanonical := canonical_logError _ _ _ h
  exact h1

theorem canonical_setMemWord {addr : Nat} {w : BitVec 80} (h : s.RegsCanonical) : (s.setMemWord addr w).RegsCanonical := h

theorem canonical_memWrite {addr : Nat} {d : BitVec 64} (h : s.RegsCanonical) : (s.memWrite addr d).RegsCanonical := canonical_setMemWord h

theorem canonical_eccInfo {ini addr kind i j : Nat} (h : s.RegsCanonical) : (s.eccInfo ini addr kind i j).RegsCanonical :=
  canonical_wr _ _ h

theorem canonical_eccCorrected {ini addr kind i j : Nat} (h : s.RegsCanonical) : (s.eccCorrected ini addr kind i j).RegsCanonical := by
  unfold State.eccCorrected
  extract_lets s1
  have h1 : s1.RegsCanonical := canonical_eccInfo (canonical_wr _ _ (canonical_count _ h))
  exact canonical_ite h1 (canonical_raise _ (canonical_set _ _ h1))

theorem canonical_eccUncorrectable {ini addr : Nat} (h : s.RegsCanonical) : (s.eccUncorrectable ini addr).RegsCanonical :=
  canonical_raise _ (canonical_set _ _ (canonical_eccInfo (canonical_wr _ _ (canonical_count _ h))))

theorem canonical_eccInternal {ini : Nat} (h : s.RegsCanonical) : (s.eccInternal ini).RegsCanonical := by
  unfold State.eccInternal
  extract_lets s1 s2
  have h1 : s1.RegsCanonical := canonical_count _ (canonical_drawn h)
  have h2 : s2.RegsCanonical := canonical_wr _ _ (canonical_wr _ _ h1)
  exact canonical_raise _ (canonical_set _ _ h2)

theorem canonical_memRead {ini addr : Nat} (h : s.RegsCanonical) : PairCanonical (s.memRead ini addr) := by
  unfold State.memRead
  extract_lets
  split
  · exact .mk h
  · exact .mk (canonical_eccCorrected h)
  · exact .mk (canonical_eccCorrected h)
  · exact .mk (canonical_eccCorrected h)
  · exact .mk (canonical_eccUncorrectable h)

theorem canonical_ivwSend {x : Nat} {ip : Word} {port type flags status txn : Nat} {body : List Nat} (h : s.RegsCanonical) :
    (s.ivwSend x ip port type flags status txn body).RegsCanonical :=
  canonical_setSession h

theorem canonical_notifyOne {x k : Nat} {data : List Nat} (h : s.RegsCanonical) : (s.notifyOne x k data).RegsCanonical := by
  unfold State.notifyOne
  extract_lets _ s1
  have h1 : s1.RegsCanonical := canonical_ivwSend h
  exact canonical_setSession h1

theorem canonical_notify {k : Nat} {data : List Nat} (h : s.RegsCanonical) : (s.notify k data).RegsCanonical :=
  canonical_foldl (fun _ _ ht => canonical_notifyOne ht) h

theorem canonical_refuseRequest {req : Nat} (h : s.RegsCanonical) : (s.refuseRequest req).RegsCanonical :=
  canonical_set _ _ (canonical_set _ _ h)

theorem canonical_changeMode {to_ cause : Nat} (h : s.RegsCanonical) : (s.changeMode to_ cause).RegsCanonical := by
  unfold State.changeMode
  extract_lets _ s0 s1
  have h0 : s0.RegsCanonical := canonical_ite (canonical_refuseRequest h) h
  have h1 : s1.RegsCanonical := canonical_set _ _ (canonical_set _ _ (canonical_set _ _ h0))
  exact canonical_notify (canonical_raise _ h1)

theorem canonical_holdNow {i : Nat} (h : s.RegsCanonical) : (s.holdNow i).RegsCanonical := by
  unfold State.holdNow
  extract_lets s1
  have h1 : s1.RegsCanonical := canonical_changeMode h
  exact h1

theorem canonical_raiseHold {i : Nat} (h : s.RegsCanonical) : (s.raiseHold i).RegsCanonical := by
  unfold State.raiseHold
  extract_lets s1
  have h1 : s1.RegsCanonical := canonical_setBitAt h
  exact canonical_ite (canonical_holdNow h1) h1

theorem canonical_clearHold {i : Nat} (h : s.RegsCanonical) : (s.clearHold i).RegsCanonical := canonical_clrBitAt h

theorem canonical_enterArmed {cause : Nat} (h : s.RegsCanonical) : (s.enterArmed cause).RegsCanonical := by
  unfold State.enterArmed
  extract_lets s1
  have h1 : s1.RegsCanonical := canonical_changeMode h
  split
  · exact canonical_holdNow h1
  · exact h1

theorem canonical_engageSpare {i : Nat} (h : s.RegsCanonical) : (s.engageSpare i).RegsCanonical := by
  unfold State.engageSpare
  extract_lets s1
  have h1 : s1.RegsCanonical := canonical_setBitAt h
  exact canonical_ite (canonical_changeMode h1) h1

theorem canonical_releaseSpare {i : Nat} (h : s.RegsCanonical) : (s.releaseSpare i).RegsCanonical := by
  unfold State.releaseSpare
  extract_lets s1
  have h1 : s1.RegsCanonical := canonical_clrBitAt h
  exact canonical_ite (canonical_changeMode h1) h1

/-! ### Machine/Shaft.lean -/

theorem canonical_moveLp {d t : Nat} (h : s.RegsCanonical) : (s.moveLp d t).RegsCanonical := canonical_setDom h

theorem canonical_edgeTaken {d : Nat} (h : s.RegsCanonical) : (s.edgeTaken d).RegsCanonical := canonical_setDom h

theorem canonical_relead {d t : Nat} (h : s.RegsCanonical) : (s.relead d t).RegsCanonical := canonical_moveLp (canonical_setDom h)

theorem canonical_startDom {d t : Nat} (h : s.RegsCanonical) : (s.startDom d t).RegsCanonical := canonical_setDom h

theorem canonical_shFault {x b : Nat} (h : s.RegsCanonical) : (s.shFault x b).RegsCanonical := canonical_raise _ (canonical_setBitAt h)

theorem canonical_turn {x : Nat} {fwd : Bool} (h : s.RegsCanonical) : (s.turn x fwd).RegsCanonical := by
  unfold State.turn
  extract_lets _ s1
  have h1 : s1.RegsCanonical := canonical_setTracker h
  exact canonical_ite (canonical_raise _ (canonical_set _ _ h1)) h1

theorem canonical_edgeSpeed {x : Nat} {th : Int} {t : Nat} (h : s.RegsCanonical) : PairCanonical (s.edgeSpeed x th t) := by
  unfold State.edgeSpeed
  extract_lets
  split
  · exact .ite (.mk h) (canonical_div32 h)
  · exact .mk h

theorem canonical_edgeAccel {x : Nat} {v : Int} {t : Nat} (h : s.RegsCanonical) : PairCanonical (s.edgeAccel x v t) := by
  unfold State.edgeAccel
  extract_lets
  split
  · exact .ite (.mk h) (canonical_div32 h)
  · exact .mk h

theorem canonical_takeEdge {x : Nat} {th : Int} {t : Nat} {fwd : Bool} (h : s.RegsCanonical) : (s.takeEdge x th t fwd).RegsCanonical := by
  unfold State.takeEdge
  extract_lets _ s1 p q _ s2 s3
  have h1 : s1.RegsCanonical := canonical_turn (canonical_edgeTaken (canonical_moveLp h))
  have hp : PairCanonical p := canonical_edgeSpeed h1
  have hq : PairCanonical q := canonical_edgeAccel hp
  have h2 : s2.RegsCanonical := canonical_setTracker hq
  have h3 : s3.RegsCanonical := canonical_ite (canonical_shFault h2) h2
  exact canonical_ite (canonical_startDom h3) (canonical_relead h3)

theorem canonical_shRestart {x : Nat} (h : s.RegsCanonical) : (s.shRestart x).RegsCanonical := by
  unfold State.shRestart
  extract_lets _ _ s1
  have h1 : s1.RegsCanonical := canonical_setTracker h
  exact canonical_setDom h1

theorem canonical_awaitEdge {x : Nat} {a : Int} {t : Nat} {fwd : Bool} (h : s.RegsCanonical) : (s.awaitEdge x a t fwd).RegsCanonical :=
  canonical_turn (canonical_edgeTaken (canonical_setTracker h))

theorem canonical_execEncoderEdge {x : Fin 2} {t stood : Nat} {a0 b0 a1 b1 : Bool} (h : s.RegsCanonical) :
    OutCanonical (execEncoderEdge x t stood a0 b0 a1 b1 s) := by
  unfold execEncoderEdge
  extract_lets s' _ _ _ _ _ _ _ s1
  have h' : s'.RegsCanonical := canonical_at_ h
  have h1 : s1.RegsCanonical := canonical_setTracker h'
  refine .ite ?_ (.next h')
  exact .ite (.next (canonical_shFault (canonical_count _ h'))) (.ite
    (.ite (.next (canonical_awaitEdge h1)) (.next (canonical_takeEdge h1))) (.next h'))

theorem canonical_execIndexPulse {x : Fin 2} {t : Nat} (h : s.RegsCanonical) : OutCanonical (execIndexPulse x t s) := by
  unfold execIndexPulse
  extract_lets s' _ s'' _ _ _ s1 s2 _ s3
  have h' : s'.RegsCanonical := canonical_at_ h
  have h'' : s''.RegsCanonical := canonical_raise _ h'
  have h1 : s1.RegsCanonical := canonical_moveLp h''
  have h2 : s2.RegsCanonical := canonical_setTracker h1
  have h3 : s3.RegsCanonical := canonical_ite (canonical_setDom h2) (canonical_moveLp h2)
  refine .ite ?_ (.next h')
  exact .ite (.ite (.next (canonical_startDom (canonical_setTracker h''))) (.next h''))
    (.ite (.next h'') (.next (canonical_shFault (canonical_count _ h3))))

theorem canonical_execSsiSample {x : Fin 2} {t word : Nat} (h : s.RegsCanonical) : OutCanonical (execSsiSample x t word s) := by
  unfold execSsiSample
  extract_lets s' _ s'' _ _ _ _ _ _ _ _ s1 s2
  have h' : s'.RegsCanonical := canonical_at_ h
  have h'' : s''.RegsCanonical := canonical_setTracker h'
  have h1 : s1.RegsCanonical := canonical_setTracker h''
  have h2 : s2.RegsCanonical := canonical_ite (canonical_shFault h1) h1
  refine .ite ?_ (.next h')
  exact .ite (.next (canonical_takeEdge h'')) (.ite (.next (canonical_count _ (canonical_setTracker h''))) (.next (canonical_takeEdge h2)))

theorem canonical_chainSilence {x t : Nat} (h : s.RegsCanonical) : (s.chainSilence x t).RegsCanonical := by
  unfold State.chainSilence
  extract_lets
  split
  · exact canonical_ite (canonical_shFault (canonical_setTracker h)) h
  · exact h

theorem canonical_execTrackerStall {x : Fin 2} {t : Nat} (h : s.RegsCanonical) : OutCanonical (execTrackerStall x t s) := by
  unfold execTrackerStall
  extract_lets s' _ s1 s2
  have h' : s'.RegsCanonical := canonical_at_ h
  have h1 : s1.RegsCanonical := canonical_moveLp h'
  have h2 : s2.RegsCanonical := canonical_setTracker h1
  split
  · exact .ite (.next (canonical_chainSilence (canonical_relead (canonical_shFault h2)))) (.next (canonical_chainSilence h'))
  · exact .next h'

theorem canonical_execReceiverPairLoss {x : Fin 2} {lost : Bool} (h : s.RegsCanonical) : OutCanonical (execReceiverPairLoss x lost s) := by
  unfold execReceiverPairLoss
  extract_lets _ s1
  have h1 : s1.RegsCanonical := canonical_setTracker h
  exact .next (canonical_ite (canonical_shFault h1) h1)

theorem canonical_trackerWrite {x a : Nat} {v : Word} (h : s.RegsCanonical) : PairCanonical (s.trackerWrite x a v) := by
  unfold State.trackerWrite
  extract_lets p _ s1
  have h1 : s1.RegsCanonical := canonical_shRestart h
  have hp : PairCanonical p := canonical_mergeWrite _ _ h
  exact .ite (.mk (canonical_mergeWrite _ _ h1)) hp

theorem canonical_ssiWrite {x : Nat} {v : Word} (h : s.RegsCanonical) : PairCanonical (s.ssiWrite x v) := by
  unfold State.ssiWrite
  extract_lets p
  have hp : PairCanonical p := canonical_mergeWrite _ _ h
  exact .ite (.mk (canonical_set _ _ (canonical_set _ _ (canonical_set _ _ hp)))) hp

theorem canonical_startT {t : Nat} (h : s.RegsCanonical) : (s.startT t).RegsCanonical := canonical_startDom h

theorem canonical_tCfgWrite {v : Word} (h : s.RegsCanonical) : PairCanonical (s.tCfgWrite v) := by
  unfold State.tCfgWrite
  extract_lets p
  have hp : PairCanonical p := canonical_mergeWrite _ _ h
  exact .ite (.ite (.mk hp) (.mk (canonical_startT hp))) (.ite (.mk (canonical_relead hp)) (.mk hp))

theorem canonical_execTTick {t : Nat} (h : s.RegsCanonical) : OutCanonical (execTTick t s) := by
  unfold execTTick
  extract_lets s' s1
  have h' : s'.RegsCanonical := canonical_at_ h
  have h1 : s1.RegsCanonical := canonical_edgeTaken (canonical_moveLp h')
  exact .ite (.next (canonical_relead h1)) (.next h')

theorem canonical_syncT (h : s.RegsCanonical) : s.syncT.RegsCanonical := canonical_ite (canonical_startT h) h

/-! ### Machine/Snap.lean -/

theorem canonical_xcap {i : Nat} (h : s.RegsCanonical) : (s.xcap i).RegsCanonical := by
  unfold State.xcap
  extract_lets _ _ s1 s2 s3 s4
  have h1 : s1.RegsCanonical := canonical_wr _ _ (canonical_wr _ _ h)
  have h2 : s2.RegsCanonical := canonical_wr _ _ (canonical_wr _ _ h1)
  have h3 : s3.RegsCanonical := canonical_set _ _ (canonical_set _ _ h2)
  have h4 : s4.RegsCanonical := canonical_ite (canonical_set _ _ h3) h3
  exact canonical_ite (canonical_raise _ h4) h

theorem canonical_requestCapture (h : s.RegsCanonical) : s.requestCapture.RegsCanonical := by
  unfold State.requestCapture
  extract_lets
  refine canonical_ite h ?_
  refine canonical_ite h ?_
  exact canonical_ite (canonical_raise _ (canonical_count _ h)) (canonical_ite (canonical_set _ _ h) h)

theorem canonical_sendUrgent {p : Nat} {f : EmnFrame} (h : s.RegsCanonical) : (s.sendUrgent p f).RegsCanonical := canonical_setEmnPort h

theorem canonical_snapLatch {src : Nat} (h : s.RegsCanonical) : (s.snapLatch src).RegsCanonical := by
  unfold State.snapLatch
  extract_lets s1 s2
  have h1 : s1.RegsCanonical := canonical_foldl (fun _ _ ht => canonical_wr _ _ ht) h
  have h2 : s2.RegsCanonical := canonical_wr _ _ (canonical_wr _ _ h1)
  exact canonical_ite (canonical_raise _ (canonical_count _ h)) (canonical_raise _
    (canonical_set _ _ (canonical_set _ _ (canonical_wrap h2))))

theorem canonical_snapAct {src : Nat} (h : s.RegsCanonical) : (s.snapAct src).RegsCanonical := by
  unfold State.snapAct
  extract_lets s1 s2
  have h1 : s1.RegsCanonical := canonical_xcap (canonical_snapLatch h)
  have h2 : s2.RegsCanonical := canonical_ite (canonical_requestCapture h1) h1
  exact canonical_ite (canonical_ite (canonical_set _ _ h) h) (canonical_ite h2 h)

theorem canonical_forwardTrigger {snap : Bool} {src : Nat} (h : s.RegsCanonical) : (s.forwardTrigger snap src).RegsCanonical := by
  unfold State.forwardTrigger
  extract_lets _ s1
  have h1 : s1.RegsCanonical := canonical_drawn (canonical_drawn (canonical_sendUrgent (canonical_sendUrgent h)))
  exact h1

theorem canonical_assertSnap {src : Nat} (h : s.RegsCanonical) : (s.assertSnap src).RegsCanonical :=
  canonical_ite h (canonical_ite (canonical_forwardTrigger h) (canonical_snapAct h))

theorem canonical_snapCtlWrite {v : Word} (h : s.RegsCanonical) : (s.snapCtlWrite v).RegsCanonical := by
  unfold State.snapCtlWrite
  extract_lets s1 s2
  have h1 : s1.RegsCanonical := canonical_mergeWrite _ _ h
  have h2 : s2.RegsCanonical := canonical_ite (canonical_set _ _ h1) h1
  exact canonical_ite (canonical_assertSnap h2) h2

/-! ### Machine/Wheel.lean -/

theorem canonical_setOcc {b l : Nat} {v : Bool} (h : s.RegsCanonical) : (s.setOcc b l v).RegsCanonical := h

theorem canonical_setPoolFree {v : Nat} (h : s.RegsCanonical) : (s.setPoolFree v).RegsCanonical := by
  unfold State.setPoolFree
  extract_lets s1 s2 _ s3
  have h1 : s1.RegsCanonical := canonical_wr _ _ h
  have h2 : s2.RegsCanonical := canonical_ite (canonical_wr _ _ h1) h1
  have h3 : s3.RegsCanonical := canonical_ite (canonical_raise _ h2) h2
  exact canonical_ite (canonical_raise _ h3) h3

theorem canonical_useEntries {d : Int} (h : s.RegsCanonical) : (s.useEntries d).RegsCanonical := canonical_wr _ _ h

theorem canonical_freeEntry {e : Nat} (h : s.RegsCanonical) : (s.freeEntry e).RegsCanonical :=
  canonical_setPoolFree (canonical_useEntries h)

theorem canonical_popFree (h : s.RegsCanonical) : PairCanonical s.popFree := .mk (canonical_setPoolFree (canonical_useEntries h))

theorem canonical_poison {addr n : Nat} (h : s.RegsCanonical) : (s.poison addr n).RegsCanonical :=
  canonical_useEntries (canonical_countBy (canonical_wr _ _ (canonical_set _ _ h)))

theorem canonical_readEvent {e : Nat} (h : s.RegsCanonical) : PairCanonical (s.readEvent e) := by
  unfold State.readEvent
  extract_lets p
  have hp : PairCanonical p := canonical_memRead h
  split
  · exact .mk hp
  · exact .mk hp

theorem canonical_readDesc {b l : Nat} (h : s.RegsCanonical) : PairCanonical (s.readDesc b l) := by
  unfold State.readDesc
  extract_lets p
  have hp : PairCanonical p := canonical_memRead h
  split
  · extract_lets
    exact .mk hp
  · exact .mk hp

theorem canonical_emptyQueue {b l : Nat} (h : s.RegsCanonical) : (s.emptyQueue b l).RegsCanonical := canonical_setOcc (canonical_memWrite h)

theorem canonical_setDroneIns {d : Nat} {v : DroneInsert} (h : s.RegsCanonical) : (s.setDroneIns d v).RegsCanonical := h

theorem canonical_ivwAnswer {x type status txn : Nat} {body : List Nat} (h : s.RegsCanonical) :
    (s.ivwAnswer x type status txn body).RegsCanonical :=
  canonical_ivwSend (canonical_setSession h)

theorem canonical_insertAnswer {x txn c : Nat} (h : s.RegsCanonical) : (s.insertAnswer x txn c).RegsCanonical := by
  unfold State.insertAnswer
  extract_lets
  split
  · exact canonical_ite (canonical_ite (canonical_ivwAnswer (canonical_setSession h)) (canonical_setSession h)) h
  · exact h

theorem canonical_giveResult {src : InsertSource} {held : Bool} {c : Nat} (h : s.RegsCanonical) :
    (s.giveResult src held c).RegsCanonical := by
  unfold State.giveResult
  extract_lets s0
  have h0 : s0.RegsCanonical := by
    unfold s0
    split
    · extract_lets
      exact canonical_setDroneIns h
    · exact h
  split
  · exact h0
  · exact h0
  · extract_lets
    refine canonical_ite ?_ (canonical_setEngine h0)
    exact canonical_ite (canonical_ite (canonical_setEngine h0) (canonical_setEngine h0)) (canonical_setEngine h0)
  · exact canonical_insertAnswer h0
  · extract_lets
    exact h0

theorem canonical_setPortFifo {p : Nat} {l : List Insert} (h : s.RegsCanonical) : (s.setPortFifo p l).RegsCanonical := h

theorem canonical_offer {i : Insert} (h : s.RegsCanonical) : (s.offer i).RegsCanonical := by
  unfold State.offer
  extract_lets _ s1
  have h1 : s1.RegsCanonical := canonical_setPortFifo h
  refine canonical_ite (canonical_giveResult (canonical_count _ h)) ?_
  split
  · extract_lets
    exact canonical_setDroneIns h1
  · exact h1

theorem canonical_setPortWaiting {p : Nat} {l : List Insert} (h : s.RegsCanonical) : (s.setPortWaiting p l).RegsCanonical := h

theorem canonical_creditBack {src : InsertSource} (h : s.RegsCanonical) : (s.creditBack src).RegsCanonical := by
  unfold State.creditBack
  extract_lets
  split
  · extract_lets
    split
    · exact canonical_sendUrgent h
    · exact h
  · exact h

theorem canonical_offerWait {i : Insert} (h : s.RegsCanonical) : (s.offerWait i).RegsCanonical :=
  canonical_ite (canonical_setPortWaiting (canonical_count _ h)) (canonical_creditBack (canonical_offer h))

theorem canonical_offerNext {p : Nat} (h : s.RegsCanonical) : (s.offerNext p).RegsCanonical := by
  unfold State.offerNext
  split
  · exact h
  · exact canonical_ite h (canonical_creditBack (canonical_offer (canonical_setPortWaiting h)))

theorem canonical_portResult {i : Insert} {c : Nat} (h : s.RegsCanonical) : (s.portResult i c).RegsCanonical := by
  unfold State.portResult
  extract_lets _ s1
  have h1 : s1.RegsCanonical := canonical_raise _ (canonical_wr _ _ (canonical_count _ h))
  exact canonical_ite (canonical_wrap h) (canonical_ite (canonical_raise _ h1) h1)

theorem canonical_notifyAdd {n : NotifyEntry} (h : s.RegsCanonical) : (s.notifyAdd n).RegsCanonical :=
  canonical_ite (canonical_raise _ (canonical_count _ h)) (canonical_ite (canonical_raise _ h) h)

theorem canonical_handOver {lane dom : Nat} {pos : Int} {ev : BitVec 64} {imm : Bool} (h : s.RegsCanonical) :
    (s.handOver lane dom pos ev imm).RegsCanonical := by
  unfold State.handOver
  extract_lets _ _ s1 s2 s3
  have h1 : s1.RegsCanonical := canonical_setPair h
  have h2 : s2.RegsCanonical := canonical_ite (canonical_notifyAdd h1) h1
  have h3 : s3.RegsCanonical := canonical_raise _ h2
  exact canonical_ite (canonical_ite (canonical_assertSnap h3) h3) h2

theorem canonical_hwBin {d : Nat} (h : s.RegsCanonical) : PairCanonical (s.hwBin d) := by
  unfold State.hwBin
  split
  · exact .mk h
  · exact .mk (canonical_drawn h)

theorem canonical_link {i : Insert} {closed : Bool} (h : s.RegsCanonical) : PairCanonical (s.link i closed) := by
  unfold State.link
  extract_lets p q c r e s2 t w s3
  have hp : PairCanonical p := canonical_readDesc h
  have hq : PairCanonical q := by
    unfold q
    split
    · exact .mk hp
    · exact .mk (canonical_poison (canonical_emptyQueue hp))
  have hr : PairCanonical r := canonical_popFree hq
  have h2 : s2.RegsCanonical := canonical_memWrite hr
  have ht : PairCanonical t := canonical_readEvent h2
  have hw : PairCanonical w := by
    unfold w
    refine .ite (.mk h2) ?_
    split
    · exact .mk (canonical_memWrite ht)
    · exact .mk (canonical_poison ht)
  have h3 : s3.RegsCanonical := canonical_setOcc (canonical_memWrite hw)
  exact .ite (.mk hq) (.mk h3)

theorem canonical_judge {i : Insert} (h : s.RegsCanonical) : OptCanonical (s.judge i) := by
  unfold State.judge
  extract_lets _ _ _ p
  have hp : PairCanonical p := canonical_hwBin h
  refine .ite (.some (.mk h)) ?_
  refine .ite (.some (.mk h)) ?_
  refine .ite (.some (.mk h)) ?_
  refine .ite (.some (.mk h)) ?_
  refine .ite ?_ (.ite (.some (.mk hp)) (.ite (.some (.mk hp)) (.some (canonical_link hp))))
  exact .ite (.some (.mk hp)) (.ite (.some (.mk hp)) (.ite (.some (.mk (canonical_handOver hp))) .none))

theorem canonical_execWheelInsert (h : s.RegsCanonical) : OutCanonical (execWheelInsert s) := by
  unfold execWheelInsert
  extract_lets
  split
  · exact .next h
  · extract_lets
    split
    · exact .next h
    · split
      · exact .next h
      · next s1 _ e =>
          have h1 : s1.RegsCanonical := OptCanonical.of_eq e (canonical_judge h)
          extract_lets
          exact .next (canonical_giveResult (canonical_portResult (canonical_offerNext (canonical_setPortFifo h1))))

theorem canonical_insEvHi {d : Fin 4} {hi : Word} (h : s.RegsCanonical) : (s.insEvHi d hi).RegsCanonical := canonical_offer h

theorem canonical_detach {d : Nat} {pos : Int} {b l : Nat} (h : s.RegsCanonical) : (s.detach d pos b l).RegsCanonical := by
  unfold State.detach
  extract_lets p s1
  have hp : PairCanonical p := canonical_readDesc h
  have h1 : s1.RegsCanonical := canonical_emptyQueue hp
  split
  · exact canonical_poison (canonical_emptyQueue hp)
  · exact canonical_setDom h1

theorem canonical_drainLag {d : Nat} (h : s.RegsCanonical) : (s.drainLag d).RegsCanonical := by
  unfold State.drainLag
  extract_lets _ _ s1
  have h1 : s1.RegsCanonical := canonical_setDom h
  exact canonical_foldl (fun _ _ ht => canonical_raise _ (canonical_count _ ht)) h1

theorem canonical_execDrainPosition {d : Fin 3} {t : Nat} (h : s.RegsCanonical) : OutCanonical (execDrainPosition d t s) := by
  unfold execDrainPosition
  extract_lets s'
  have h' : s'.RegsCanonical := canonical_drainLag (canonical_moveLp (canonical_at_ h))
  split
  · exact .next h'
  · extract_lets _ s2 s3
    have h2 : s2.RegsCanonical := canonical_wrap (canonical_setDom h')
    have h3 : s3.RegsCanonical := canonical_ite (canonical_raise _ h2) h2
    exact .ite (.next (canonical_drainLag (canonical_foldl (fun _ _ hu => canonical_ite (canonical_detach hu) hu) h3))) (.next h')

theorem canonical_execHeldBinSkip {d : Fin 3} {t : Nat} (h : s.RegsCanonical) : OutCanonical (execHeldBinSkip d t s) := by
  unfold execHeldBinSkip
  extract_lets s'
  have h' : s'.RegsCanonical := canonical_drainLag (canonical_moveLp (canonical_at_ h))
  split
  · exact .next h'
  · exact .ite (.next (canonical_countBy (canonical_setDom h'))) (.next h')

theorem canonical_execEventDelivery {d : Fin 3} (h : s.RegsCanonical) : OutCanonical (execEventDelivery d s) := by
  unfold execEventDelivery
  extract_lets s'
  have h' : s'.RegsCanonical := canonical_ite h (canonical_drainLag h)
  split
  · exact .next h'
  · extract_lets p s1
    have hp : PairCanonical p := canonical_readEvent h'
    have h1 : s1.RegsCanonical := canonical_poison hp
    split
    · exact .next (canonical_setDom h1)
    · extract_lets _ s1'
      have h1' : s1'.RegsCanonical := canonical_freeEntry (canonical_handOver hp)
      exact .next (canonical_setDom h1')

theorem canonical_hwReset {d : Nat} (h : s.RegsCanonical) : (s.hwReset d).RegsCanonical := canonical_ite (canonical_setDom h) h

theorem canonical_leaveStopped (h : s.RegsCanonical) : s.leaveStopped.RegsCanonical :=
  canonical_hwReset (canonical_hwReset (canonical_hwReset h))

theorem canonical_wheelInit (h : s.RegsCanonical) : s.wheelInit.RegsCanonical := by
  unfold State.wheelInit
  extract_lets s1
  have h1 : s1.RegsCanonical := canonical_set _ _ (canonical_set _ _ h)
  exact canonical_ite (canonical_set _ _ h) (canonical_ite (canonical_foldl (fun _ _ ht => canonical_setDom ht) h1) h1)

theorem canonical_execWheelInitDone (h : s.RegsCanonical) : OutCanonical (execWheelInitDone s) := by
  unfold execWheelInitDone
  extract_lets _ _ _ s2 _ s3 s4
  have h2 : s2.RegsCanonical := canonical_foldl (fun _ _ ht => canonical_setDom ht) h
  have h3 : s3.RegsCanonical := canonical_wr _ _ (canonical_wr _ _ (canonical_wr _ _ h2))
  have h4 : s4.RegsCanonical := canonical_raise _ (canonical_set _ _ (canonical_set _ _ h3))
  exact .ite (.next (canonical_ite (canonical_leaveStopped h4) h4)) (.next h)

theorem canonical_markFlushing {b l : Nat} (h : s.RegsCanonical) : (s.markFlushing b l).RegsCanonical := by
  unfold State.markFlushing
  split
  · next s1 e =>
      have h1 : s1.RegsCanonical := PairCanonical.of_eq e (canonical_readDesc h)
      exact canonical_poison (canonical_emptyQueue h1)
  · next s1' _ _ _ e' =>
      have h1' : s1'.RegsCanonical := PairCanonical.of_eq e' (canonical_readDesc h)
      exact canonical_memWrite h1'

theorem canonical_wheelFlush (h : s.RegsCanonical) : s.wheelFlush.RegsCanonical := by
  unfold State.wheelFlush
  extract_lets _ _ s1
  have h1 : s1.RegsCanonical := canonical_set _ _ (canonical_set _ _ h)
  exact canonical_ite h (canonical_foldl (fun _ _ ht => canonical_ite (canonical_markFlushing ht) ht) h1)

theorem canonical_freeList {n e : Nat} (h : s.RegsCanonical) : (State.freeList n e s).RegsCanonical := by
  induction n generalizing e s with
  | zero => exact h
  | succ n ih =>
    unfold State.freeList
    extract_lets p
    have hp : PairCanonical p := canonical_readEvent h
    split
    · exact canonical_poison hp
    · exact ih (canonical_freeEntry hp)

theorem canonical_flushQueue {b l : Nat} (h : s.RegsCanonical) : (s.flushQueue b l).RegsCanonical := by
  unfold State.flushQueue
  extract_lets p
  have hp : PairCanonical p := canonical_readDesc h
  split
  · exact canonical_poison (canonical_emptyQueue hp)
  · exact canonical_emptyQueue (canonical_freeList hp)

theorem canonical_flushEnd (h : s.RegsCanonical) :
    OutCanonical
      (.next (({ s with wheel := { s.wheel with flushLane := none } }.set F.WHEEL_FLUSH_BUSY 0).set F.WHEEL_FLUSH_GO 0 |>.raise 688)) :=
  .next (canonical_raise _ (canonical_set _ _ (canonical_set _ _ h)))

theorem canonical_execWheelFlushDone (h : s.RegsCanonical) : OutCanonical (execWheelFlushDone s) := by
  unfold execWheelFlushDone
  split
  · exact .next h
  · exact canonical_flushEnd (canonical_foldl (fun _ _ ht => canonical_ite (canonical_flushQueue ht) ht) h)

theorem canonical_notifyPop (h : s.RegsCanonical) : s.notifyPop.RegsCanonical := h

theorem canonical_latchTime (h : s.RegsCanonical) : s.latchTime.RegsCanonical := h

theorem canonical_laneDomWrite {k : Nat} {v : Word} (h : s.RegsCanonical) : (s.laneDomWrite k v).RegsCanonical :=
  canonical_ite h (canonical_ite (canonical_set _ _ h) (canonical_wr _ _ h))

theorem canonical_poolWarnWrite {v : Word} (h : s.RegsCanonical) : (s.poolWarnWrite v).RegsCanonical := by
  unfold State.poolWarnWrite
  extract_lets s1
  have h1 : s1.RegsCanonical := canonical_wr _ _ h
  exact canonical_ite (canonical_raise _ h1) h1

/-! ### Machine/Lane.lean -/

theorem canonical_setLaneState {l v : Nat} (h : s.RegsCanonical) : (s.setLaneState l v).RegsCanonical := canonical_set _ _ h

theorem canonical_laneEvent {l b : Nat} (h : s.RegsCanonical) : (s.laneEvent l b).RegsCanonical := by
  unfold State.laneEvent
  extract_lets _ s1
  have h1 : s1.RegsCanonical := canonical_setBitAt h
  exact canonical_ite (canonical_raise _ h1) h1

theorem canonical_laneAlt (h : s.RegsCanonical) : s.laneAlt.RegsCanonical :=
  canonical_ite (canonical_engageSpare h) (canonical_ite (canonical_releaseSpare h) h)

theorem canonical_putStore {l : Nat} {st : List SlotEntry} (h : s.RegsCanonical) : (s.putStore l st).RegsCanonical :=
  canonical_set _ _ (canonical_setLane h)

theorem canonical_slotWrite {l slot : Nat} {df : Int} {word : Word} (h : s.RegsCanonical) : PairCanonical (s.slotWrite l slot df word) := by
  unfold State.slotWrite
  extract_lets
  refine .ite (.mk h) ?_
  refine .ite (.mk h) ?_
  refine .ite (.mk h) ?_
  split
  · exact .ite (.mk h) (.ite (.mk (canonical_count _ (canonical_putStore h))) (.mk (canonical_count _ h)))
  · exact .ite (.mk (canonical_count _ h)) (.mk (canonical_putStore h))

theorem canonical_commitLane {l f : Nat} (h : s.RegsCanonical) : (s.commitLane l f).RegsCanonical := by
  unfold State.commitLane
  extract_lets _ _ _ _ s1 s2
  have h1 : s1.RegsCanonical := canonical_ite (canonical_countBy h) h
  have h2 : s2.RegsCanonical := canonical_putStore h1
  exact canonical_setLane h2

theorem canonical_sendFrame {l : Nat} {x : LaneFrame} (h : s.RegsCanonical) : (s.sendFrame l x).RegsCanonical := by
  unfold State.sendFrame
  extract_lets _ _ s1 s2 s3
  have h1 : s1.RegsCanonical := canonical_setLane h
  have h2 : s2.RegsCanonical := canonical_wrap h1
  have h3 : s3.RegsCanonical := canonical_ite (canonical_wrap h2) h2
  exact canonical_ite (canonical_set _ _ (canonical_set _ _ (canonical_set _ _ h3))) h3

theorem canonical_startLane {l f : Nat} (h : s.RegsCanonical) : (s.startLane l f).RegsCanonical := by
  unfold State.startLane
  extract_lets s1
  have h1 : s1.RegsCanonical := canonical_setLaneState h
  exact canonical_setLane h1

theorem canonical_refuseLane {l : Nat} (h : s.RegsCanonical) : (s.refuseLane l).RegsCanonical := canonical_laneEvent (canonical_set _ _ h)

theorem canonical_execFrameTransmitStart {l : Fin 256} {f : Nat} (h : s.RegsCanonical) : OutCanonical (execFrameTransmitStart l f s) := by
  unfold execFrameTransmitStart
  extract_lets s' s1
  have h' : s'.RegsCanonical := canonical_at_ h
  have h1 : s1.RegsCanonical := canonical_ite (canonical_startLane h') (canonical_ite (canonical_refuseLane h') h')
  exact .ite (.next (canonical_sendFrame h1)) (.next h1)

theorem canonical_keepEcho {l : Nat} {e : EchoRec} (h : s.RegsCanonical) : (s.keepEcho l e).RegsCanonical := by
  unfold State.keepEcho
  extract_lets _ s1
  have h1 : s1.RegsCanonical := canonical_setLane h
  exact canonical_wr _ _ h1

theorem canonical_takeMg {l f flags : Nat} {mgmt : Word} (h : s.RegsCanonical) : (s.takeMg l f flags mgmt).RegsCanonical := by
  unfold State.takeMg
  extract_lets s1
  have h1 : s1.RegsCanonical := canonical_ite (canonical_set _ _ h) h
  refine canonical_ite ?_ h
  split
  · exact canonical_ite (canonical_laneEvent (canonical_set _ _ (canonical_wr _ _ (canonical_setLane h1)))) h1
  · exact h1

theorem canonical_measureDelay {l : Nat} {e : Int} (h : s.RegsCanonical) : (s.measureDelay l e).RegsCanonical := by
  unfold State.measureDelay
  extract_lets
  refine canonical_ite (canonical_set _ _ (canonical_set _ _ (canonical_drawn h))) ?_
  exact canonical_ite (canonical_set _ _ (canonical_set _ _ h)) (canonical_set _ _ (canonical_set _ _ h))

theorem canonical_acceptEcho {l f flags : Nat} {e : Int} {sense : List Word} {mgmt : Word} (h : s.RegsCanonical) :
    (s.acceptEcho l f flags e sense mgmt).RegsCanonical := by
  unfold State.acceptEcho
  extract_lets _ s1 _ s2 s3 _ s4 s5 s6 s7 s8 _ s9
  have h1 : s1.RegsCanonical := canonical_wrap (canonical_keepEcho h)
  have h2 : s2.RegsCanonical := canonical_setLane h1
  have h3 : s3.RegsCanonical := canonical_measureDelay h2
  have h4 : s4.RegsCanonical := canonical_ite (canonical_setLaneState h3) h3
  have h5 : s5.RegsCanonical := canonical_ite (canonical_laneEvent h4) h4
  have h6 : s6.RegsCanonical := canonical_ite (canonical_laneEvent h5) h5
  have h7 : s7.RegsCanonical := canonical_ite (canonical_count _ h6) h6
  have h8 : s8.RegsCanonical := by
    unfold s8
    split
    · exact canonical_ite (canonical_laneEvent h7) h7
    · exact h7
  have h9 : s9.RegsCanonical := canonical_ite (canonical_laneAlt (canonical_ite (canonical_laneEvent h8) h8)) h8
  exact canonical_takeMg h9

theorem canonical_discardEcho {l reg : Nat} (h : s.RegsCanonical) : (s.discardEcho l reg).RegsCanonical :=
  canonical_laneEvent (canonical_count _ h)

theorem canonical_judgeEcho {l t : Nat} {x : EchoFields} (h : s.RegsCanonical) : (s.judgeEcho l t x).RegsCanonical := by
  unfold State.judgeEcho
  refine canonical_ite (canonical_discardEcho h) ?_
  split
  · exact canonical_discardEcho h
  · refine canonical_ite (canonical_discardEcho h) ?_
    exact canonical_ite (canonical_discardEcho h) (canonical_ite (canonical_discardEcho h) (canonical_ite h (canonical_acceptEcho h)))

theorem canonical_execEchoReceive {l : Fin 256} {t : Nat} {groups : List (BitVec 10)} (h : s.RegsCanonical) :
    OutCanonical (execEchoReceive l t groups s) := by
  unfold execEchoReceive
  extract_lets s'
  have h' : s'.RegsCanonical := canonical_at_ h
  refine .ite (.next h') ?_
  split
  · exact .next (canonical_discardEcho (canonical_setLane h'))
  · exact .next (canonical_judgeEcho (canonical_setLane h'))

theorem canonical_execEchoDue {l : Fin 256} {f : Nat} (h : s.RegsCanonical) : OutCanonical (execEchoDue l f s) := by
  unfold execEchoDue
  extract_lets s' _ _ s1 s2 s3 _ _ s4
  have h' : s'.RegsCanonical := canonical_at_ h
  have h1 : s1.RegsCanonical := canonical_setLane h'
  have h2 : s2.RegsCanonical := canonical_count _ h1
  have h3 : s3.RegsCanonical := by
    unfold s3
    refine canonical_ite ?_ h2
    split
    · exact canonical_ite h2 (canonical_count _ (canonical_keepEcho h2))
    · exact h2
  have h4 : s4.RegsCanonical := canonical_setLane h3
  refine .ite ?_ (.next h')
  split
  · exact .next h1
  · exact .next (canonical_ite (canonical_laneEvent (canonical_setLaneState h4)) h4)

theorem canonical_execSendingTimeout {l : Fin 256} {t : Nat} (h : s.RegsCanonical) : OutCanonical (execSendingTimeout l t s) := by
  unfold execSendingTimeout
  extract_lets s'
  have h' : s'.RegsCanonical := canonical_at_ h
  exact .ite (.next (canonical_laneEvent (canonical_setLaneState h'))) (.next h')

theorem canonical_execMgTimeout {l : Fin 256} {t : Nat} (h : s.RegsCanonical) : OutCanonical (execMgTimeout l t s) := by
  unfold execMgTimeout
  extract_lets s'
  have h' : s'.RegsCanonical := canonical_at_ h
  split
  · exact .ite (.next (canonical_laneEvent (canonical_count _ (canonical_set _ _ (canonical_setLane h'))))) (.next h')
  · exact .next h'

theorem canonical_mgReqWrite {l : Nat} {v : Word} (h : s.RegsCanonical) : PairCanonical (s.mgReqWrite l v) := by
  unfold State.mgReqWrite
  extract_lets p
  have hp : PairCanonical p := canonical_mergeWrite _ _ h
  exact .ite (.mk h) (.ite hp (.mk (canonical_set _ _ (canonical_setLane hp))))

theorem canonical_blkCtlWrite {l : Nat} {v : Word} (h : s.RegsCanonical) : (s.blkCtlWrite l v).RegsCanonical :=
  canonical_ite (canonical_set _ _ (canonical_set _ _ h)) h

theorem canonical_blkDataWrite {l k : Nat} {v : Word} (h : s.RegsCanonical) : (s.blkDataWrite l k v).RegsCanonical :=
  canonical_ite h (canonical_wr _ _ h)

theorem canonical_laneCfgWrite {l : Nat} {v : Word} (h : s.RegsCanonical) : PairCanonical (s.laneCfgWrite l v) := by
  unfold State.laneCfgWrite
  extract_lets p _ _ s1
  have hp : PairCanonical p := canonical_mergeWrite _ _ h
  have h1 : s1.RegsCanonical := canonical_ite (canonical_laneEvent (canonical_set _ _ (canonical_set _ _ hp))) hp
  exact .ite (.ite (.mk (canonical_set _ _ h1)) (.mk (canonical_refuseLane h1)))
    (.ite (.ite (.mk h1) (.mk (canonical_setLane (canonical_setLaneState h1)))) (.mk h1))

theorem canonical_laneOff {l : Nat} (h : s.RegsCanonical) : (s.laneOff l).RegsCanonical := by
  unfold State.laneOff
  extract_lets s1
  have h1 : s1.RegsCanonical := canonical_setLaneState h
  exact canonical_setLane h1

theorem canonical_execLaneBurstEnd {l : Fin 256} {f : Nat} (h : s.RegsCanonical) : OutCanonical (execLaneBurstEnd l f s) := by
  unfold execLaneBurstEnd
  extract_lets s'
  have h' : s'.RegsCanonical := canonical_at_ h
  refine .ite ?_ (.next h')
  exact .next (canonical_ite (canonical_ite (canonical_startLane h') (canonical_refuseLane (canonical_laneOff h'))) (canonical_laneOff h'))

/-! ### Machine/BistBase.lean -/

theorem canonical_putSlice {x : Slice} {state : Nat} (h : s.RegsCanonical) : (s.putSlice x state).RegsCanonical :=
  canonical_set _ _ (canonical_set _ _ (canonical_set _ _ (canonical_set _ _ (canonical_set _ _ h))))

theorem canonical_endSlice (h : s.RegsCanonical) : s.endSlice.RegsCanonical := canonical_set _ _ h

theorem canonical_sliceTaken {x : Slice} {t : Nat} (h : s.RegsCanonical) : (s.sliceTaken x t).RegsCanonical := canonical_putSlice h

theorem canonical_planNext (h : s.RegsCanonical) : s.planNext.RegsCanonical := canonical_ite h (canonical_ite (canonical_wr _ _ h) h)

theorem canonical_sealRecord {x : Slice} {result cause : Nat} {misr : BitVec 64} (h : s.RegsCanonical) :
    (s.sealRecord x result cause misr).RegsCanonical := by
  unfold State.sealRecord
  extract_lets s1 s2 _ _ _ _ s5 s4
  have h1 : s1.RegsCanonical := canonical_set _ _ (canonical_set _ _ (canonical_set _ _ (canonical_set _ _ (canonical_set _ _ h))))
  have h2 : s2.RegsCanonical := canonical_wr _ _ (canonical_wr _ _ h1)
  have h5 : s5.RegsCanonical := canonical_count _ h2
  have h4 : s4.RegsCanonical := canonical_ite (canonical_raise _ (canonical_wrap h2))
    (canonical_ite (canonical_count _ h2) (canonical_ite (canonical_ite (canonical_raise _ h5) h5)
    (canonical_raise _ (canonical_count _ h2))))
  exact canonical_ite (canonical_ite h4 (canonical_ite h4 (canonical_set _ _ h4))) (canonical_ite h4 (canonical_planNext h4))

theorem canonical_sealCut {x : Slice} {result cause : Nat} (h : s.RegsCanonical) : (s.sealCut x result cause).RegsCanonical :=
  canonical_endSlice (canonical_sealRecord (canonical_drawn h))

theorem canonical_sealRestore {x : Slice} {result cause : Nat} {misr : BitVec 64} (h : s.RegsCanonical) :
    (s.sealRestore x result cause misr).RegsCanonical :=
  canonical_putSlice (canonical_sealRecord h)

theorem canonical_cutForClaim {g : Nat} (h : s.RegsCanonical) : (s.cutForClaim g).RegsCanonical := by
  unfold State.cutForClaim
  split
  · exact canonical_ite (canonical_sealCut h) h
  · exact h

/-! ### Machine/Chanter.lean -/

theorem canonical_startEngine {e pc entry : Nat} (h : s.RegsCanonical) : (s.startEngine e pc entry).RegsCanonical := by
  unfold State.startEngine
  extract_lets _ _ s1
  have h1 : s1.RegsCanonical := canonical_setEngine h
  exact canonical_ite h1 (canonical_setDrone h1)

theorem canonical_haltEngine {e : Nat} (h : s.RegsCanonical) : (s.haltEngine e).RegsCanonical := canonical_setEngine h

theorem canonical_chanterEvent {n b : Nat} (h : s.RegsCanonical) : (s.chanterEvent n b).RegsCanonical := by
  unfold State.chanterEvent
  extract_lets _ s1
  have h1 : s1.RegsCanonical := canonical_setBitAt h
  exact canonical_ite (canonical_raise _ h1) h1

theorem canonical_noteAdd {x : Note} (h : s.RegsCanonical) : PairCanonical (s.noteAdd x) :=
  .ite (.mk (canonical_count _ h)) (.mk (canonical_chanterEvent h))

theorem canonical_notePop (h : s.RegsCanonical) : s.notePop.RegsCanonical := h

theorem canonical_loseWord {src dst b i : Nat} (h : s.RegsCanonical) : (s.loseWord src dst b i).RegsCanonical := by
  unfold State.loseWord
  extract_lets
  exact canonical_ite (canonical_noteAdd (canonical_memWrite (canonical_memWrite h)))
    (canonical_ite (canonical_memWrite h) (canonical_memWrite h))

theorem canonical_copyRegion {src dst b : Nat} (h : s.RegsCanonical) : (s.copyRegion src dst b).RegsCanonical := by
  unfold State.copyRegion
  refine PairCanonical.foldl (fun _ _ ha => ?_) (.mk h)
  extract_lets p
  have hp : PairCanonical p := canonical_memRead ha
  split
  · exact .mk (canonical_ite hp (canonical_memWrite hp))
  · exact .ite (.mk hp) (.mk (canonical_loseWord hp))

theorem canonical_addClaim {c a b : Nat} {k : ClaimKind} {more : Nat} (h : s.RegsCanonical) : (s.addClaim c a b k more).RegsCanonical := by
  unfold State.addClaim
  extract_lets s1
  have h1 : s1.RegsCanonical := canonical_copyRegion h
  exact h1

theorem canonical_claimFailed {c : Nat} (h : s.RegsCanonical) : (s.claimFailed c).RegsCanonical := by
  unfold State.claimFailed
  extract_lets _ _ _ s' _ s1
  have h' : s'.RegsCanonical := canonical_cutForClaim h
  have h1 : s1.RegsCanonical := canonical_ite h' (canonical_addClaim h')
  refine canonical_ite (canonical_raiseHold (canonical_set _ _ h)) ?_
  refine canonical_ite h ?_
  split
  · exact canonical_ite (canonical_raiseHold (canonical_addClaim h)) (canonical_raiseHold h)
  · exact canonical_ite (canonical_addClaim h') (canonical_ite (canonical_addClaim h1) (canonical_raiseHold h))

theorem canonical_retireWrite {n : Nat} (h : s.RegsCanonical) : (s.retireWrite n).RegsCanonical :=
  canonical_ite (canonical_set _ _ h) (canonical_ite (canonical_set _ _ h)
    (canonical_addClaim (canonical_set _ _ (canonical_cutForClaim h))))

theorem canonical_claimLoan {c : Nat} (h : s.RegsCanonical) : PairCanonical (s.claimLoan c) :=
  .ite (.mk (canonical_set _ _ h)) (.mk (canonical_addClaim h))

theorem canonical_handbackWrite {n : Nat} {testing : Bool} (h : s.RegsCanonical) : (s.handbackWrite n testing).RegsCanonical :=
  canonical_ite (canonical_set _ _ h) (canonical_ite (canonical_set _ _ h) (canonical_addClaim (canonical_set _ _ h)))

theorem canonical_endLoan {c : Nat} {failed : Bool} (h : s.RegsCanonical) : (s.endLoan c failed).RegsCanonical := by
  unfold State.endLoan
  extract_lets
  refine canonical_ite ?_ h
  exact canonical_ite (canonical_engageSpare (canonical_set _ _ (canonical_set _ _ h))) (canonical_ite h (canonical_addClaim h))

theorem canonical_attach {c a b st entry : Nat} (h : s.RegsCanonical) : (s.attach c a b st entry).RegsCanonical := by
  unfold State.attach
  extract_lets s1 s2
  have h1 : s1.RegsCanonical := canonical_set _ _ (canonical_haltEngine h)
  have h2 : s2.RegsCanonical := canonical_set _ _ (canonical_set _ _ (canonical_set _ _ h1))
  exact canonical_startEngine h2

theorem canonical_handover {x : Claim} (h : s.RegsCanonical) : (s.handover x).RegsCanonical := by
  unfold State.handover
  extract_lets _ _ _ s1 s2 s1' s2' s3 s1'' s1''' s2''
  have h1 : s1.RegsCanonical := canonical_set _ _ (canonical_attach (canonical_set _ _ h))
  have h2 : s2.RegsCanonical := canonical_set _ _ (canonical_set _ _ h1)
  have h1' : s1'.RegsCanonical := canonical_set _ _ (canonical_attach h)
  have h2' : s2'.RegsCanonical := canonical_set _ _ (canonical_set _ _ h1')
  have h3 : s3.RegsCanonical := by
    unfold s3
    split
    · exact canonical_ite (canonical_sliceTaken h2') h2'
    · exact h2'
  have h1'' : s1''.RegsCanonical := canonical_set _ _ (canonical_attach h)
  have h1''' : s1'''.RegsCanonical := canonical_set _ _ (canonical_attach (canonical_set _ _ h))
  have h2'' : s2''.RegsCanonical := canonical_ite h1''' (canonical_set _ _ h1''')
  split
  · exact canonical_engageSpare (canonical_chanterEvent (canonical_chanterEvent h2))
  · exact canonical_chanterEvent (canonical_chanterEvent h3)
  · exact canonical_chanterEvent (canonical_set _ _ h1'')
  · exact canonical_releaseSpare (canonical_chanterEvent h2'')

theorem canonical_execPairHandover {g : Fin 4} {f : Nat} (h : s.RegsCanonical) : OutCanonical (execPairHandover g f s) := by
  unfold execPairHandover
  extract_lets s'
  have h' : s'.RegsCanonical := canonical_at_ h
  exact .next (canonical_foldl (fun _ _ ht => canonical_handover ht) h')

theorem canonical_checkpoint {n lane f : Nat} (h : s.RegsCanonical) : (s.checkpoint n lane f).RegsCanonical := by
  unfold State.checkpoint
  extract_lets _ _ p
  have hp : PairCanonical p := by
    unfold p
    refine .foldl (fun _ _ ha => ?_) (.mk h)
    extract_lets r
    have hr : PairCanonical r := canonical_memRead ha
    split
    · exact .mk (canonical_memWrite hr)
    · exact .mk (canonical_setMemWord hr)
  exact canonical_memWrite hp

theorem canonical_deadline {c f : Nat} (h : s.RegsCanonical) : (s.deadline c f).RegsCanonical := by
  unfold State.deadline
  split
  · exact h
  · extract_lets _ s1
    have h1 : s1.RegsCanonical := canonical_chanterEvent (canonical_set _ _ (canonical_count _ h))
    exact canonical_ite h (canonical_ite (canonical_set _ _ h) (canonical_ite (canonical_claimFailed h1) h1))

theorem canonical_execFrameCommit {c : Fin 128} {f : Nat} (h : s.RegsCanonical) : OutCanonical (execFrameCommit c f s) := by
  unfold execFrameCommit
  extract_lets s' _ s1 s2 s3
  have h' : s'.RegsCanonical := canonical_at_ h
  have h1 : s1.RegsCanonical := canonical_commitLane (canonical_commitLane h')
  have h2 : s2.RegsCanonical := by
    unfold s2
    split
    · exact canonical_checkpoint (canonical_checkpoint h1)
    · exact h1
  have h3 : s3.RegsCanonical := canonical_deadline h2
  exact .ite (.next (canonical_setPair h3)) (.next h')

theorem canonical_chanterException {n : Nat} {rec : Word} (h : s.RegsCanonical) : (s.chanterException n rec).RegsCanonical := by
  unfold State.chanterException
  extract_lets s1
  have h1 : s1.RegsCanonical := canonical_wr _ _ (canonical_set _ _ (canonical_haltEngine h))
  exact canonical_claimFailed (canonical_chanterEvent h1)

/-! ### Machine/Irq.lean -/

theorem canonical_takeSource {n d : Nat} {fast : Bool} (h : s.RegsCanonical) : (s.takeSource n d fast).RegsCanonical := by
  unfold State.takeSource
  extract_lets _ s1
  have h1 : s1.RegsCanonical := canonical_setSlot h
  exact canonical_setDrone h1

theorem canonical_abandon {d : Nat} (h : s.RegsCanonical) : (s.abandon d).RegsCanonical :=
  canonical_foldl (fun _ _ ht => canonical_ite (canonical_countField (canonical_setSlot ht)) ht) h

theorem canonical_movePending {d k : Nat} {p : Nat → Bool} (h : s.RegsCanonical) : (s.movePending d k p).RegsCanonical := by
  unfold State.movePending
  refine canonical_foldl (fun _ _ ht => ?_) h
  extract_lets _ _ t1
  have ht1 : t1.RegsCanonical := canonical_setSlot ht
  exact canonical_ite (canonical_ite (canonical_count _ ht1) (canonical_setSlot ht1)) ht

theorem canonical_unroute {s1 : State} {d : Nat} (h1 : s1.RegsCanonical) : (s1.unroute d).RegsCanonical := by
  unfold State.unroute
  extract_lets _ _ s2 s3
  have h2 : s2.RegsCanonical := canonical_movePending h1
  have h3 : s3.RegsCanonical := canonical_foldl (fun _ _ ht => canonical_ite (canonical_countField (canonical_setSlot ht)) ht) h2
  exact canonical_setDrone (canonical_abandon h3)

theorem canonical_reroute {d : Nat} (h : s.RegsCanonical) : (s.reroute d).RegsCanonical :=
  canonical_foldl (fun _ _ ht => canonical_movePending ht) h

theorem canonical_retireDrone {d : Nat} (h : s.RegsCanonical) : (s.retireDrone d).RegsCanonical := by
  unfold State.retireDrone
  extract_lets s1
  have h1 : s1.RegsCanonical := canonical_set _ _ (canonical_set _ _ (canonical_haltEngine h))
  exact canonical_engageSpare (canonical_raiseFor (canonical_raiseDroneEvent (canonical_unroute h1)))

theorem canonical_droneFail {d entry : Nat} (h : s.RegsCanonical) : (s.droneFail d entry).RegsCanonical := by
  unfold State.droneFail
  extract_lets _ _ s1 _ s2
  have h1 : s1.RegsCanonical := canonical_setDrone (canonical_haltEngine h)
  have h2 : s2.RegsCanonical := canonical_setDrone h1
  exact canonical_ite (canonical_ite (canonical_raiseHold (canonical_set _ _ (canonical_raiseDroneEvent h2))) (canonical_retireDrone h1))
    (canonical_raiseDroneEvent (canonical_setDrone h1))

theorem canonical_exception {e k : Nat} (h : s.RegsCanonical) : (s.exception e k).RegsCanonical := by
  unfold State.exception
  extract_lets _ _ s1
  have h1 : s1.RegsCanonical := canonical_setEngine h
  exact canonical_ite (canonical_chanterException h1) (canonical_droneFail h1)

theorem canonical_execWatchdogExpiry {d : Fin 4} {t : Nat} (h : s.RegsCanonical) : OutCanonical (execWatchdogExpiry d t s) := by
  unfold execWatchdogExpiry
  extract_lets s' _ _ _ _ s1
  have h' : s'.RegsCanonical := canonical_at_ h
  have h1 : s1.RegsCanonical := canonical_setEngine h'
  exact .ite (.next (canonical_droneFail (canonical_raiseFor (canonical_count _ h1)))) (.next h')

theorem canonical_enterDrone {d pc entry : Nat} (h : s.RegsCanonical) : (s.enterDrone d pc entry).RegsCanonical :=
  canonical_wrap (canonical_set _ _ (canonical_startEngine (canonical_abandon h)))

theorem canonical_execDroneRestart {d : Fin 4} {t : Nat} (h : s.RegsCanonical) : OutCanonical (execDroneRestart d t s) := by
  unfold execDroneRestart
  extract_lets s'
  have h' : s'.RegsCanonical := canonical_at_ h
  split
  · extract_lets s1
    have h1 : s1.RegsCanonical := canonical_enterDrone h'
    exact .next (canonical_ite (canonical_haltEngine h1) h1)
  · exact .next h'

theorem canonical_droneSliceTry (h : s.RegsCanonical) : s.droneSliceTry.RegsCanonical := by
  unfold State.droneSliceTry
  split
  · extract_lets
    exact canonical_ite (canonical_sliceTaken (canonical_unroute (canonical_haltEngine h))) h
  · exact h

theorem canonical_unretire {d : Nat} {testing : Bool} (h : s.RegsCanonical) : PairCanonical (s.unretire d testing) := by
  unfold State.unretire
  extract_lets s1 s3
  have h1 : s1.RegsCanonical := canonical_set _ _ h
  have h3 : s3.RegsCanonical := canonical_raiseDroneEvent (canonical_enterDrone (canonical_reroute h1))
  exact .ite (.mk h) (.mk (canonical_droneSliceTry (canonical_ite h3 (canonical_releaseSpare h3))))

theorem canonical_wdKick {ini : Initiator} {d : Nat} {v : Word} (h : s.RegsCanonical) : PairCanonical (s.wdKick ini d v) :=
  .ite (.mk (canonical_ite h (canonical_setDrone h))) (.mk h)

theorem canonical_wdCfgWrite {d : Nat} {v : Word} (h : s.RegsCanonical) : PairCanonical (s.wdCfgWrite d v) := by
  unfold State.wdCfgWrite
  extract_lets p
  have hp : PairCanonical p := canonical_mergeWrite _ _ h
  exact .ite (.mk (canonical_setDrone hp)) hp

theorem canonical_execInterruptTake {d : Fin 4} (h : s.RegsCanonical) : OutCanonical (execInterruptTake d s) := by
  unfold execInterruptTake
  extract_lets
  split
  · extract_lets s1 _ _ s2
    have h1 : s1.RegsCanonical := canonical_takeSource h
    have h2 : s2.RegsCanonical := canonical_memWrite h1
    exact .ite (.ite (.next (canonical_setEngine h2)) (.next (canonical_exception h1))) (.next h)
  · exact .next h

theorem canonical_execFastInterruptTake {d : Fin 4} (h : s.RegsCanonical) : OutCanonical (execFastInterruptTake d s) := by
  unfold execFastInterruptTake
  extract_lets
  split
  · extract_lets s1
    have h1 : s1.RegsCanonical := canonical_takeSource h
    exact .ite (.next (canonical_setEngine h1)) (.next h)
  · exact .next h

theorem canonical_completeSource {n d : Nat} (h : s.RegsCanonical) : (s.completeSource n d).RegsCanonical := by
  unfold State.completeSource
  extract_lets _ s1
  have h1 : s1.RegsCanonical := canonical_setSlot h
  exact canonical_setDrone h1

theorem canonical_pendClear {k : Nat} {v : Word} (h : s.RegsCanonical) : (s.pendClear k v).RegsCanonical :=
  canonical_foldl (fun _ _ ht => canonical_ite (canonical_setSlot ht) ht) h

theorem canonical_irqRaise {k : Nat} {v : Word} (h : s.RegsCanonical) : (s.irqRaise k v).RegsCanonical :=
  canonical_foldl (fun _ _ ht => canonical_ite (canonical_raise _ ht) ht) h

/-! ### Machine/Engine.lean -/

theorem canonical_setGr {e i : Nat} {v : Word} (h : s.RegsCanonical) : (s.setGr e i v).RegsCanonical := canonical_setEngine h

theorem canonical_setAccu {e i : Nat} {v : Int} (h : s.RegsCanonical) : (s.setAccu e i v).RegsCanonical := canonical_setEngine h

theorem canonical_setSt {e b : Nat} {v : Bool} (h : s.RegsCanonical) : (s.setSt e b v).RegsCanonical := canonical_setEngine h

theorem canonical_step4 {e : Nat} (h : s.RegsCanonical) : (s.step4 e).RegsCanonical := canonical_setEngine h

theorem canonical_jump {e : Nat} {a : Word} (h : s.RegsCanonical) : (s.jump e a).RegsCanonical := canonical_setEngine h

theorem canonical_instrWord {e : Nat} (h : s.RegsCanonical) : PairCanonical (s.instrWord e) := by
  unfold State.instrWord
  extract_lets _ p
  have hp : PairCanonical p := canonical_memRead h
  exact .mk hp

theorem canonical_issue {e : Nat} {w : Word} {legal : Bool} {act : State → State} (h : s.RegsCanonical)
    (hact : ∀ t, t.RegsCanonical → (act t).RegsCanonical) :
    (s.issue e w legal act).RegsCanonical := by
  unfold State.issue
  extract_lets p
  have hp : PairCanonical p := canonical_instrWord h
  refine canonical_ite ?_ h
  refine canonical_ite (canonical_exception h) ?_
  split
  · exact canonical_exception hp
  · refine canonical_ite (canonical_exception hp) ?_
    refine canonical_ite h ?_
    split
    · exact canonical_exception hp
    · exact canonical_ite (canonical_exception hp) (canonical_ite (hact _ hp) (canonical_step4 hp))

theorem canonical_issueRd {e : Nat} {w : Word} {rd : Fin 16} {legal : Bool} {v : State → Word} (h : s.RegsCanonical) :
    OutCanonical (s.issueRd e w rd legal v) :=
  .next (canonical_issue h (fun _ ht => canonical_step4 (canonical_setGr ht)))

theorem canonical_putDiv {e rd : Nat} {r : Word × Bool × Bool} (h : s.RegsCanonical) : (s.putDiv e rd r).RegsCanonical := by
  unfold State.putDiv
  extract_lets s1 s2
  have h1 : s1.RegsCanonical := canonical_ite (canonical_setSt h) h
  have h2 : s2.RegsCanonical := canonical_ite (canonical_setSt h1) h1
  exact canonical_step4 (canonical_setGr h2)

theorem canonical_putAcc {e i : Nat} {v : Int} (h : s.RegsCanonical) : (s.putAcc e i v).RegsCanonical := by
  unfold State.putAcc
  extract_lets _ s1
  have h1 : s1.RegsCanonical := canonical_setAccu h
  exact canonical_step4 (canonical_ite (canonical_setSt h1) h1)

theorem canonical_execArd {e : Fin 136} {x : FmtT} (h : s.RegsCanonical) : OutCanonical (execArd e x s) :=
  .next (canonical_issue h (fun _ ht => canonical_step4 (canonical_setGr (canonical_ite (canonical_setSt ht) ht))))

theorem canonical_execJr {e : Fin 136} {x : FmtT} (h : s.RegsCanonical) : OutCanonical (execJr e x s) :=
  .next (canonical_issue h (fun _ ht => canonical_ite (canonical_exception ht) (canonical_jump (canonical_ite (canonical_setGr ht) ht))))

theorem canonical_execFence {e : Fin 136} {x : FmtJ} (h : s.RegsCanonical) : OutCanonical (execFence e x s) :=
  .next (canonical_issue h (fun _ ht => canonical_ite (canonical_step4 ht) (canonical_setEngine ht)))

/-! ### Machine/EngineSpecial.lean -/

theorem canonical_putPair {e rd : Nat} {lo hi : Word} (h : s.RegsCanonical) : (s.putPair e rd lo hi).RegsCanonical :=
  canonical_step4 (canonical_setGr (canonical_setGr h))

theorem canonical_putRegs {e rd : Nat} {l : List Word} (h : s.RegsCanonical) : (s.putRegs e rd l).RegsCanonical := by
  induction l generalizing rd s with
  | nil => exact h
  | cons v r ih =>
    unfold State.putRegs
    exact ih (canonical_setGr h)

theorem canonical_execAngle {e : Fin 136} {x : FmtT} (h : s.RegsCanonical) : OutCanonical (execAngle e x s) :=
  .next (canonical_issue h (fun _ ht => canonical_step4 (canonical_putRegs (canonical_drawn (canonical_drawn ht)))))

theorem canonical_execWins {e : Fin 136} {x : FmtT} (h : s.RegsCanonical) : OutCanonical (execWins e x s) := by
  unfold execWins
  extract_lets
  refine .next ?_
  refine canonical_issue h (fun _ ht => ?_)
  extract_lets _ _ _ u
  have hu : u.RegsCanonical := canonical_offer ht
  refine canonical_ite (canonical_setEngine ht) ?_
  exact canonical_ite (canonical_offer ht) (canonical_ite (canonical_setEngine hu) (canonical_setEngine hu))

theorem canonical_execWinsr {e : Fin 136} {x : FmtT} (h : s.RegsCanonical) : OutCanonical (execWinsr e x s) :=
  .next (canonical_issue h (fun _ ht => canonical_step4 (canonical_setGr (canonical_setEngine ht))))

theorem canonical_execSts {e : Fin 136} {x : FmtT} (h : s.RegsCanonical) : OutCanonical (execSts e x s) :=
  .next (canonical_issue h (fun _ ht => canonical_ite (canonical_setEngine ht) (canonical_step4 (canonical_setGr ht))))

theorem canonical_ackDrain {e : Nat} (h : s.RegsCanonical) : (s.ackDrain e).RegsCanonical := by
  unfold State.ackDrain
  extract_lets
  split
  · exact h
  · exact canonical_wrap (canonical_setPair h)

theorem canonical_execEvt {e : Fin 136} {x : FmtT} (h : s.RegsCanonical) : OutCanonical (execEvt e x s) := by
  unfold execEvt
  refine .next ?_
  refine canonical_issue h (fun _ ht => ?_)
  split
  · exact canonical_step4 (canonical_setSt (canonical_putRegs ht))
  · exact canonical_step4 (canonical_setSt (canonical_putRegs ht))

theorem canonical_execSlot {e : Fin 136} {x : FmtT} (h : s.RegsCanonical) : OutCanonical (execSlot e x s) := by
  unfold execSlot
  refine .next ?_
  refine canonical_issue h (fun _ ht => ?_)
  extract_lets _ _ r u
  have hr : PairCanonical r := canonical_slotWrite ht
  have hu : u.RegsCanonical := canonical_ite (canonical_ackDrain hr) hr
  exact canonical_ite (canonical_exception ht) (canonical_putPair hu)

theorem canonical_execCtxl {e : Fin 136} {x : FmtI} (h : s.RegsCanonical) : OutCanonical (execCtxl e x s) := by
  unfold execCtxl
  refine .next ?_
  refine canonical_issue h (fun _ ht => ?_)
  split
  · exact canonical_exception ht
  · extract_lets p
    have hp : PairCanonical p := canonical_memRead ht
    split
    · exact canonical_putPair hp
    · exact canonical_putPair (canonical_setSt hp)

theorem canonical_execCtxs {e : Fin 136} {x : FmtI} (h : s.RegsCanonical) : OutCanonical (execCtxs e x s) := by
  unfold execCtxs
  refine .next ?_
  refine canonical_issue h (fun _ ht => ?_)
  split
  · exact canonical_exception ht
  · exact canonical_step4 (canonical_memWrite ht)

theorem canonical_execDrop {e : Fin 136} {x : FmtT} (h : s.RegsCanonical) : OutCanonical (execDrop e x s) := by
  unfold execDrop
  extract_lets
  refine .next ?_
  refine canonical_issue h (fun _ ht => ?_)
  extract_lets _ _ u
  have hu : u.RegsCanonical :=
    canonical_ite (canonical_count _ ht) (canonical_ite ht (canonical_chanterEvent (canonical_wr _ _ (canonical_count _ ht))))
  exact canonical_step4 (canonical_ite (canonical_ackDrain hu) hu)

theorem canonical_execNote {e : Fin 136} {x : FmtT} (h : s.RegsCanonical) : OutCanonical (execNote e x s) := by
  unfold execNote
  refine .next ?_
  refine canonical_issue h (fun _ ht => ?_)
  extract_lets _ _ p
  have hp : PairCanonical p := canonical_noteAdd ht
  exact canonical_step4 (canonical_setSt hp)

theorem canonical_execEcho {e : Fin 136} {x : FmtT} (h : s.RegsCanonical) : OutCanonical (execEcho e x s) := by
  unfold execEcho
  extract_lets
  refine .next ?_
  refine canonical_issue h (fun _ ht => ?_)
  extract_lets _ _ _ _ t1 u
  have ht1 : t1.RegsCanonical := canonical_setAccu ht
  have hu : u.RegsCanonical := canonical_ite (canonical_ite (canonical_setSt ht1) ht1) ht
  exact canonical_ite (canonical_exception ht) (canonical_putPair (canonical_setSt hu))

theorem canonical_endWff {e rd p : Nat} {early : Bool} (h : s.RegsCanonical) : (s.endWff e rd p early).RegsCanonical := by
  unfold State.endWff
  extract_lets _ s1
  have h1 : s1.RegsCanonical := canonical_setEngine h
  exact canonical_step4 (canonical_setSt (canonical_setGr h1))

theorem canonical_execWff {e : Fin 136} {x : FmtT} (h : s.RegsCanonical) : OutCanonical (execWff e x s) := by
  unfold execWff
  refine .next ?_
  refine canonical_issue h (fun _ ht => ?_)
  extract_lets _ _ _ u
  have hu : u.RegsCanonical := canonical_ite (canonical_setPair ht) ht
  exact canonical_ite (canonical_endWff hu) (canonical_setEngine hu)

theorem canonical_execWffWake {n : Fin 132} {t : Nat} (h : s.RegsCanonical) : OutCanonical (execWffWake n t s) := by
  unfold execWffWake
  extract_lets s'
  have h' : s'.RegsCanonical := canonical_at_ h
  split
  · exact .ite (.next (canonical_endWff h')) (.ite (.next (canonical_endWff h')) (.ite (.next (canonical_endWff h')) (.next h')))
  · exact .next h'

theorem canonical_stackFault {e : Nat} (h : s.RegsCanonical) : (s.stackFault e).RegsCanonical := canonical_step4 (canonical_raiseOn _ _ h)

theorem canonical_execIret {e : Fin 136} {x : FmtI} (h : s.RegsCanonical) : OutCanonical (execIret e x s) := by
  unfold execIret
  extract_lets
  refine .next ?_
  refine canonical_issue h (fun _ ht => ?_)
  extract_lets _ _ _ p
  have hp : PairCanonical p := canonical_memRead ht
  split
  · exact canonical_stackFault ht
  · refine canonical_ite (canonical_stackFault ht) ?_
    refine canonical_ite (canonical_completeSource (canonical_setEngine ht)) ?_
    refine canonical_ite ?_ (canonical_stackFault ht)
    refine canonical_ite ?_ (canonical_exception ht)
    split
    · exact canonical_exception hp
    · exact canonical_completeSource (canonical_setEngine hp)

theorem canonical_execSwi {e : Fin 136} {x : FmtI} (h : s.RegsCanonical) : OutCanonical (execSwi e x s) :=
  .next (canonical_issue h (fun _ ht => canonical_ite (canonical_exception ht) (canonical_step4 (canonical_raise _ ht))))

theorem canonical_loadOp {e rd a w : Nat} (h : s.RegsCanonical) : (s.loadOp e rd a w).RegsCanonical := by
  unfold State.loadOp
  extract_lets
  split
  · exact canonical_exception h
  · exact canonical_setEngine h
  · extract_lets p
    have hp : PairCanonical p := canonical_memRead h
    split
    · exact canonical_exception hp
    · exact canonical_ite (canonical_putPair hp) (canonical_step4 (canonical_setGr hp))

theorem canonical_storeOp {e a w : Nat} {v : BitVec 64} (h : s.RegsCanonical) : (s.storeOp e a w v).RegsCanonical := by
  unfold State.storeOp
  extract_lets
  split
  · exact canonical_exception h
  · exact canonical_step4 (canonical_memWrite h)
  · exact canonical_ite (canonical_setEngine h) (canonical_setEngine h)

/-! ### Machine/Links.lean -/

theorem canonical_setCell {id : Nat} {v : Cell} (h : s.RegsCanonical) : (s.setCell id v).RegsCanonical := h

theorem canonical_setLatch {id l : Nat} {v : Bool} (h : s.RegsCanonical) : (s.setLatch id l v).RegsCanonical := h

theorem canonical_feedSample {m : Nat} (h : s.RegsCanonical) : (s.feedSample m).RegsCanonical := canonical_ite h h

/-! ### Machine/PowerBase.lean -/

theorem canonical_setPwrState {d v : Nat} (h : s.RegsCanonical) : (s.setPwrState d v).RegsCanonical := canonical_set _ _ h

theorem canonical_wakeDomain {d : Nat} (h : s.RegsCanonical) : (s.wakeDomain d).RegsCanonical := by
  unfold State.wakeDomain
  extract_lets _ _ s1
  have h1 : s1.RegsCanonical := canonical_set _ _ (canonical_setPwrDom h)
  refine canonical_ite h ?_
  refine canonical_ite (canonical_ite h (canonical_setPwrState (canonical_setPwrDom h))) ?_
  refine canonical_ite ?_ h
  exact canonical_ite h (canonical_ite (canonical_raise _ (canonical_countField h1)) (canonical_countField h1))

/-! ### Machine/Meas.lean -/

theorem canonical_adcEvent {k b : Nat} (h : s.RegsCanonical) : (s.adcEvent k b).RegsCanonical := canonical_raise _ (canonical_setBitAt h)

theorem canonical_stealCount {k : Nat} (h : s.RegsCanonical) : (s.stealCount k).RegsCanonical :=
  canonical_ite (canonical_setAdc (canonical_countBy h)) h

theorem canonical_stealEnd {k : Nat} (h : s.RegsCanonical) : (s.stealEnd k).RegsCanonical :=
  canonical_ite (canonical_set _ _ (canonical_stealCount h)) h

theorem canonical_adcStart {k t : Nat} (h : s.RegsCanonical) : (s.adcStart k t).RegsCanonical := by
  unfold State.adcStart
  extract_lets _ s1
  have h1 : s1.RegsCanonical := canonical_wr _ _ (canonical_set _ _ h)
  exact canonical_setAdc h1

theorem canonical_adcDue {k : Nat} (h : s.RegsCanonical) : (s.adcDue k).RegsCanonical := by
  unfold State.adcDue
  extract_lets s1
  have h1 : s1.RegsCanonical := canonical_stealCount h
  split
  · exact canonical_ite (canonical_adcStart (canonical_setAdc h1)) h1
  · exact h1

theorem canonical_adcsDue (h : s.RegsCanonical) : s.adcsDue.RegsCanonical :=
  canonical_adcDue (canonical_adcDue (canonical_adcDue (canonical_adcDue h)))

theorem canonical_adcTrigger {k t : Nat} (h : s.RegsCanonical) : (s.adcTrigger k t).RegsCanonical := by
  unfold State.adcTrigger
  extract_lets
  exact canonical_ite (canonical_ite h (canonical_adcDue (canonical_setAdc h))) (canonical_ite (canonical_adcEvent (canonical_count _ h)) h)

theorem canonical_adcWake {k : Nat} (h : s.RegsCanonical) : (s.adcWake k).RegsCanonical := canonical_ite (canonical_setAdc h) h

theorem canonical_adcsWake (h : s.RegsCanonical) : s.adcsWake.RegsCanonical :=
  canonical_adcWake (canonical_adcWake (canonical_adcWake (canonical_adcWake h)))

theorem canonical_adcCtlWrite {k : Nat} {v : Word} (h : s.RegsCanonical) : PairCanonical (s.adcCtlWrite k v) := by
  unfold State.adcCtlWrite
  extract_lets p _ _ s0 _ s1 _ _ u _ s2 s3 s4
  have hp : PairCanonical p := canonical_mergeWrite _ _ h
  have h0 : s0.RegsCanonical := canonical_ite (canonical_set _ _ (canonical_set _ _ hp)) hp
  have h1 : s1.RegsCanonical := canonical_ite (canonical_set _ _ h0) h0
  have hu : u.RegsCanonical := canonical_stealEnd h1
  have h2 : s2.RegsCanonical := canonical_ite (canonical_ite (canonical_adcEvent (canonical_set _ _ h1))
    (canonical_ite (canonical_adcEvent (canonical_set _ _ h1)) (canonical_setAdc h1)))
    (canonical_ite (canonical_ite (canonical_setAdc hu) (canonical_setAdc (canonical_set _ _ hu))) h1)
  have h3 : s3.RegsCanonical := canonical_adcsWake h2
  have h4 : s4.RegsCanonical := canonical_ite (canonical_adcTrigger (canonical_drawn h3)) h3
  exact .mk h4

theorem canonical_adcTrigWrite {k : Nat} {v : Word} (h : s.RegsCanonical) : PairCanonical (s.adcTrigWrite k v) := by
  unfold State.adcTrigWrite
  extract_lets p
  have hp : PairCanonical p := canonical_mergeWrite _ _ h
  exact .ite (.mk (canonical_adcsWake hp)) (.mk (canonical_adcsWake (canonical_set _ _ (canonical_set _ _ hp))))

theorem canonical_seqWrite {a : Nat} {v : Word} (h : s.RegsCanonical) : PairCanonical (s.seqWrite a v) := by
  unfold State.seqWrite
  extract_lets p
  have hp : PairCanonical p := canonical_mergeWrite _ _ h
  exact .mk (canonical_adcsWake hp)

theorem canonical_shaftTaken {k : Nat} {src : AdcTrig} (h : s.RegsCanonical) : (s.shaftTaken k src).RegsCanonical :=
  canonical_ite (canonical_setAdc h) h

theorem canonical_execAdcTrigger {k : Fin 4} {src : AdcTrig} {t : Nat} {delay : Fin 161} (h : s.RegsCanonical) :
    OutCanonical (execAdcTrigger k src t delay s) := by
  unfold execAdcTrigger
  extract_lets s'
  have h' : s'.RegsCanonical := canonical_adcsDue (canonical_at_ h)
  exact .next (canonical_ite (canonical_adcTrigger (canonical_shaftTaken h')) h')

theorem canonical_execAdcCalCycleDone {k : Fin 4} {t : Nat} (h : s.RegsCanonical) : OutCanonical (execAdcCalCycleDone k t s) := by
  unfold execAdcCalCycleDone
  extract_lets s' _ _ _ s1 _ s2 s3
  have h' : s'.RegsCanonical := canonical_adcsDue (canonical_at_ h)
  have h1 : s1.RegsCanonical := canonical_stealEnd h'
  have h2 : s2.RegsCanonical := canonical_setAdc h1
  have h3 : s3.RegsCanonical := canonical_set _ _ h2
  exact .ite (.ite (.next (canonical_ite (canonical_adcStart h3) h3)) (.next h2)) (.next h')

theorem canonical_windowEvent {k i w st : Nat} {v : Int} (h : s.RegsCanonical) : (s.windowEvent k i w st v).RegsCanonical := by
  unfold State.windowEvent
  extract_lets s0 s1 s2 s3
  have h0 : s0.RegsCanonical := canonical_setBitAt h
  have h1 : s1.RegsCanonical := canonical_ite h0 (canonical_wr _ _ h0)
  have h2 : s2.RegsCanonical := canonical_ite (canonical_raise _ h1) h1
  have h3 : s3.RegsCanonical := canonical_ite (canonical_assertSnap h2) h2
  exact canonical_setAdc h3

theorem canonical_putResult {k i w : Nat} {r : Int × Bool} (h : s.RegsCanonical) : (s.putResult k i w r).RegsCanonical := by
  unfold State.putResult
  extract_lets _ _ _ _ s1 _ s2
  have h1 : s1.RegsCanonical := canonical_wr _ _ h
  have h2 : s2.RegsCanonical := canonical_setAdc h1
  exact canonical_ite (canonical_windowEvent h2) h2

theorem canonical_execSeqEntryDone {k : Fin 4} {t : Nat} {raws : List (BitVec 16)} (h : s.RegsCanonical) :
    OutCanonical (execSeqEntryDone k t raws s) := by
  unfold execSeqEntryDone
  extract_lets s' _ _ _ _ _ _ s1 s2 _ s3
  have h' : s'.RegsCanonical := canonical_adcsDue (canonical_at_ h)
  have h1 : s1.RegsCanonical := canonical_set _ _ h'
  have h2 : s2.RegsCanonical := canonical_putResult h1
  have h3 : s3.RegsCanonical := canonical_adcEvent (canonical_set _ _ h2)
  refine .ite ?_ (.next h')
  exact .ite (.next (canonical_setAdc (canonical_set _ _ h2))) (.ite (.next (canonical_ite (canonical_adcStart h3) h3))
    (.next (canonical_setAdc h2)))

theorem canonical_execCalStealStart {k : Fin 4} {t : Nat} (h : s.RegsCanonical) : OutCanonical (execCalStealStart k t s) := by
  unfold execCalStealStart
  extract_lets s' _ _ _ s1
  have h' : s'.RegsCanonical := canonical_adcsDue (canonical_at_ h)
  have h1 : s1.RegsCanonical := canonical_setAdc (canonical_set _ _ h')
  exact .ite (.next (canonical_raise _ (canonical_stealCount h1))) (.next h')

theorem canonical_adcStop {clock : Bool} (h : s.RegsCanonical) : (s.adcStop clock).RegsCanonical := by
  unfold State.adcStop
  refine canonical_foldl (fun _ _ ht => ?_) h
  extract_lets u _ t1
  have hu : u.RegsCanonical := canonical_stealEnd (canonical_adcDue ht)
  have ht1 : t1.RegsCanonical := canonical_setAdc (canonical_set _ _ hu)
  exact canonical_ite (canonical_adcEvent ht1) ht1

theorem canonical_adcResume (h : s.RegsCanonical) : s.adcResume.RegsCanonical := canonical_adcsWake h

theorem canonical_execMonitorConversion {raw : BitVec 16} (h : s.RegsCanonical) : OutCanonical (execMonitorConversion raw s) := by
  unfold execMonitorConversion
  extract_lets _ _ _ _ _ _ s1
  have h1 : s1.RegsCanonical := canonical_wr _ _ h
  exact .ite (.next h) (.next (canonical_ite (canonical_raise _ (canonical_setBitAt h1)) h1))

theorem canonical_cmpThreshold {k : Nat} {v : Int} (h : s.RegsCanonical) : PairCanonical (s.cmpThreshold k v) := by
  unfold State.cmpThreshold
  extract_lets _ _ p
  have hp : PairCanonical p := .ite (.mk (canonical_drawn h)) (.mk h)
  exact .mk hp

theorem canonical_wakeMask {w : Word} (h : s.RegsCanonical) : (s.wakeMask w).RegsCanonical :=
  canonical_foldl (fun _ _ ht => canonical_ite (canonical_wakeDomain ht) ht) h

theorem canonical_restartFilter {k : Nat} (h : s.RegsCanonical) : (s.restartFilter k).RegsCanonical := h

theorem canonical_execComparatorStateChange {k : Fin 8} {x : BitVec 16} {ticks t : Nat} (h : s.RegsCanonical) :
    OutCanonical (execComparatorStateChange k x ticks t s) := by
  unfold execComparatorStateChange
  extract_lets s' _ p q _ _ _ s2 _ _ _ s3 s4 s5
  have h' : s'.RegsCanonical := canonical_at_ h
  have hp : PairCanonical p := canonical_cmpThreshold h'
  have hq : PairCanonical q := canonical_cmpThreshold hp
  have h2 : s2.RegsCanonical := canonical_restartFilter (canonical_set _ _ hq)
  have h3 : s3.RegsCanonical := canonical_setBitAt h2
  have h4 : s4.RegsCanonical := canonical_ite (canonical_raise _ h3) h3
  have h5 : s5.RegsCanonical := canonical_ite (canonical_assertSnap h4) h4
  exact .ite (.next h') (.ite (.next hq) (.ite (.next (canonical_ite (canonical_wakeMask h5) h5)) (.next h2)))

theorem canonical_cmpFallback {k : Nat} (h : s.RegsCanonical) : (s.cmpFallback k).RegsCanonical := canonical_ite (canonical_set _ _ h) h

theorem canonical_cmpLoaded {a : Nat} (h : s.RegsCanonical) : (s.cmpLoaded a).RegsCanonical :=
  canonical_ite (canonical_cmpFallback (canonical_restartFilter h)) h

theorem canonical_cmpsOff (h : s.RegsCanonical) : s.cmpsOff.RegsCanonical :=
  canonical_foldl (fun _ _ ht => canonical_ite ht (canonical_set _ _ ht)) h

theorem canonical_cmpCfgWrite {k : Nat} {v : Word} (h : s.RegsCanonical) : PairCanonical (s.cmpCfgWrite k v) := by
  unfold State.cmpCfgWrite
  extract_lets p
  have hp : PairCanonical p := canonical_mergeWrite _ _ (canonical_restartFilter h)
  exact .ite (.mk (canonical_cmpFallback hp)) (.mk (canonical_set _ _ hp))

theorem canonical_cmpThrWrite {k : Nat} {v : Word} (h : s.RegsCanonical) : PairCanonical (s.cmpThrWrite k v) :=
  canonical_mergeWrite _ _ (canonical_restartFilter h)

theorem canonical_trimCheck {id : Nat} (h : s.RegsCanonical) : (s.trimCheck id).RegsCanonical :=
  canonical_ite (canonical_raise _ (canonical_set _ _ h)) h

theorem canonical_ucalWrite {id : Nat} {v : Word} (h : s.RegsCanonical) : (s.ucalWrite id v).RegsCanonical := by
  unfold State.ucalWrite
  extract_lets s0 s1
  have h0 : s0.RegsCanonical := canonical_wr _ _ h
  have h1 : s1.RegsCanonical := canonical_ite (canonical_restartFilter h0) h0
  exact canonical_ite (canonical_trimCheck h1) h1

/-! ### Machine/Net.lean -/

theorem canonical_setGcl {p : Nat} {g : Gcl} (h : s.RegsCanonical) : (s.setGcl p g).RegsCanonical := h

theorem canonical_ptpQueue {p : Nat} {m : PtpOut} (h : s.RegsCanonical) : (s.ptpQueue p m).RegsCanonical := canonical_ite h h

theorem canonical_ptpSent {p : Nat} {m : PtpOut} (h : s.RegsCanonical) : (s.ptpSent p m).RegsCanonical := by
  unfold State.ptpSent
  extract_lets
  split
  · split
    · exact canonical_ptpQueue h
    · exact canonical_ptpQueue h
  · exact canonical_ptpQueue h
  · exact h

theorem canonical_transmit {p : Nat} (h : s.RegsCanonical) : (s.transmit p).RegsCanonical := by
  unfold State.transmit
  extract_lets
  split
  · exact h
  · extract_lets
    refine canonical_ite (canonical_ite (canonical_raise _ h) h) ?_
    split
    · exact canonical_ptpSent h
    · exact h

theorem canonical_rxErr {p : Nat} (h : s.RegsCanonical) : (s.rxErr p).RegsCanonical :=
  canonical_ite (canonical_raise _ (canonical_count _ h)) h

theorem canonical_refill {p : Nat} (h : s.RegsCanonical) : (s.refill p).RegsCanonical := h

theorem canonical_police {p tc len : Nat} (h : s.RegsCanonical) : PairCanonical (s.police p tc len) := by
  unfold State.police
  extract_lets _ s1
  have h1 : s1.RegsCanonical := canonical_ite (canonical_refill h) h
  refine .ite (.mk (canonical_count _ h1)) ?_
  refine .ite (.mk (canonical_raise _ (canonical_ite (canonical_count _ h1) h1))) ?_
  exact .ite (.mk (canonical_raise _ (canonical_ite (canonical_count _ h1) h1))) (.mk (canonical_ite h1 h1))

theorem canonical_setFdb {e : Nat} {x : FdbEntry} (h : s.RegsCanonical) : (s.setFdb e x).RegsCanonical := by
  unfold State.setFdb
  extract_lets s1
  have h1 : s1.RegsCanonical := canonical_wr _ _ (canonical_wr _ _ h)
  exact h1

theorem canonical_learn {vid mac p : Nat} (h : s.RegsCanonical) : (s.learn vid mac p).RegsCanonical := by
  unfold State.learn
  extract_lets
  split
  · exact canonical_ite h (canonical_setFdb h)
  · split
    · exact canonical_setFdb h
    · exact canonical_raise _ (canonical_count _ h)

theorem canonical_forward {p v vid pri tc : Nat} {f : EthFrame} (h : s.RegsCanonical) : (s.forward p v vid pri tc f).RegsCanonical :=
  canonical_ite h h

theorem canonical_execSwitchFrameRx {p : Fin 5} {t : Nat} {sent : List (Fin 5)} {f : EthFrame} (h : s.RegsCanonical) :
    OutCanonical (execSwitchFrameRx p t sent f s) := by
  unfold execSwitchFrameRx
  extract_lets s' s'' _ _ _ _ r
  have h' : s'.RegsCanonical := canonical_at_ h
  have h'' : s''.RegsCanonical := canonical_foldl (fun _ _ hu => canonical_transmit hu) h'
  have hr : PairCanonical r := canonical_police h''
  refine .ite ?_ (.next h')
  refine .ite (.next (canonical_rxErr h'')) ?_
  split
  · exact .next (canonical_rxErr h'')
  · exact .ite (.next (canonical_rxErr h'')) (.ite (.next (canonical_forward (canonical_learn hr))) (.next hr))

theorem canonical_execFdbAgeExpiry {vid : Fin 4096} {mac : BitVec 48} {t : Nat} (h : s.RegsCanonical) :
    OutCanonical (execFdbAgeExpiry vid mac t s) := by
  unfold execFdbAgeExpiry
  extract_lets s'
  have h' : s'.RegsCanonical := canonical_at_ h
  split
  · exact .ite (.next (canonical_wr _ _ (canonical_wr _ _ h'))) (.next h')
  · exact .next h'

theorem canonical_ptpRole {gm : Bool} {port ident : Nat} (h : s.RegsCanonical) : (s.ptpRole gm port ident).RegsCanonical :=
  canonical_ite h (canonical_raise _ (canonical_set _ _ (canonical_set _ _ h)))

theorem canonical_ptpSelect (h : s.RegsCanonical) : s.ptpSelect.RegsCanonical := by
  unfold State.ptpSelect
  refine canonical_ite h ?_
  split
  · exact canonical_ptpRole h
  · extract_lets
    exact canonical_ite (canonical_ptpRole h) (canonical_ptpRole h)

theorem canonical_stackSend {p : StackOut} (h : s.RegsCanonical) : (s.stackSend p).RegsCanonical := h

theorem canonical_execEthLinkChange {p : Fin 4} {up : Bool} {speed : Fin 3} {halfDuplex : Bool} (h : s.RegsCanonical) :
    OutCanonical (execEthLinkChange p up speed halfDuplex s) := by
  unfold execEthLinkChange
  extract_lets s0 _ _ _ s1 s2 s3
  have h0 : s0.RegsCanonical := canonical_ite (canonical_set _ _ h) h
  have h1 : s1.RegsCanonical := canonical_set _ _ (canonical_set _ _ h0)
  have h2 : s2.RegsCanonical := canonical_raise _ h1
  have h3 : s3.RegsCanonical := canonical_ite (canonical_stackSend h2) h2
  exact .ite (.ite (.next h0) (.next (canonical_ite (canonical_ptpSelect h3) h3))) (.next h)

theorem canonical_gclChange {p : Nat} (h : s.RegsCanonical) : (s.gclChange p).RegsCanonical :=
  canonical_ite (canonical_raise _ (canonical_set _ _ (canonical_set _ _ h))) (canonical_set _ _ (canonical_set _ _ h))

theorem canonical_gclCtlWrite {p : Nat} {v : Word} (h : s.RegsCanonical) : PairCanonical (s.gclCtlWrite p v) := by
  unfold State.gclCtlWrite
  extract_lets r
  have hr : PairCanonical r := canonical_mergeWrite _ _ h
  exact .mk (canonical_ite (canonical_gclChange hr) hr)

theorem canonical_startGcl (h : s.RegsCanonical) : s.startGcl.RegsCanonical :=
  canonical_foldl (fun _ _ hu => canonical_ite hu (canonical_setGcl hu)) h

theorem canonical_execGclSwap {p : Fin 4} {t : Nat} (h : s.RegsCanonical) : OutCanonical (execGclSwap p t s) := by
  unfold execGclSwap
  extract_lets s' s1 s2
  have h' : s'.RegsCanonical := canonical_at_ h
  have h1 : s1.RegsCanonical := canonical_foldl (fun _ _ hu => canonical_wr _ _ hu) h'
  have h2 : s2.RegsCanonical := canonical_setGcl h1
  exact .ite (.next (canonical_raise _ (canonical_set _ _ (canonical_set _ _ h2)))) (.next h')

theorem canonical_execGclEntryAdvance {p : Fin 4} {t : Nat} (h : s.RegsCanonical) : OutCanonical (execGclEntryAdvance p t s) := by
  unfold execGclEntryAdvance
  extract_lets s'
  have h' : s'.RegsCanonical := canonical_at_ h
  exact .ite (.next h') (.next (canonical_setGcl h'))

theorem canonical_execPtpMessageRx {p : Fin 4} {t : Nat} {dom : Fin 256} {m : PtpMsg} (h : s.RegsCanonical) :
    OutCanonical (execPtpMessageRx p t dom m s) := by
  unfold execPtpMessageRx
  extract_lets s'
  have h' : s'.RegsCanonical := canonical_at_ h
  refine .ite ?_ (.next h')
  split
  · exact .next (canonical_ite h' h')
  · extract_lets _ _ s1 src
    have h1 : s1.RegsCanonical := canonical_set _ _ (canonical_wr _ _ h')
    have hsrc : src.RegsCanonical := canonical_drawn h1
    exact .ite (.next (canonical_foldl (fun _ _ hu => canonical_ptpQueue hu) hsrc)) (.next h')
  · exact .ite (.next (canonical_ptpSelect h')) (.next h')
  · exact .next (canonical_ptpQueue h')
  · exact .next (canonical_ite h' h')

theorem canonical_ptpAnnounce (h : s.RegsCanonical) : s.ptpAnnounce.RegsCanonical := by
  unfold State.ptpAnnounce
  extract_lets
  refine canonical_foldl (fun _ _ hu => ?_) h
  extract_lets u1 src
  have hu1 : u1.RegsCanonical := canonical_ite hu (canonical_ptpQueue hu)
  have hsrc : src.RegsCanonical := canonical_ptpQueue hu1
  exact canonical_ite hsrc hu1

theorem canonical_execPtpSyncInterval {t : Nat} (h : s.RegsCanonical) : OutCanonical (execPtpSyncInterval t s) := by
  unfold execPtpSyncInterval
  extract_lets s' s1 _ _ s2
  have h' : s'.RegsCanonical := canonical_at_ h
  have h1 : s1.RegsCanonical := canonical_ptpSelect h'
  have h2 : s2.RegsCanonical := by
    unfold s2
    split
    · exact canonical_foldl (fun _ _ hu => canonical_ptpQueue hu) h1
    · exact h1
  exact .ite (.next (canonical_ite (canonical_ptpAnnounce h2) h2)) (.next h')

theorem canonical_execPtpSyncLost {t : Nat} (h : s.RegsCanonical) : OutCanonical (execPtpSyncLost t s) := by
  unfold execPtpSyncLost
  extract_lets s'
  have h' : s'.RegsCanonical := canonical_at_ h
  exact .ite (.next (canonical_raise _ h')) (.next h')

theorem canonical_xcapCtlWrite {v : Word} (h : s.RegsCanonical) : (s.xcapCtlWrite v).RegsCanonical := by
  unfold State.xcapCtlWrite
  extract_lets s1
  have h1 : s1.RegsCanonical := canonical_mergeWrite _ _ h
  exact canonical_ite (canonical_xcap h1) h1

theorem canonical_stackTake (h : s.RegsCanonical) : s.stackTake.RegsCanonical := h

theorem canonical_execIpDatagramRx {d : IpDatagram} (h : s.RegsCanonical) : OutCanonical (execIpDatagramRx d s) := by
  unfold execIpDatagramRx
  extract_lets s'
  have h' : s'.RegsCanonical := canonical_stackTake h
  exact .ite (.next (canonical_ite (canonical_count _ h') h')) (.next h)

theorem canonical_arpLearn {ip : Word} {mac : Nat} (h : s.RegsCanonical) : (s.arpLearn ip mac).RegsCanonical := by
  unfold State.arpLearn
  extract_lets _ _ src
  have hsrc : src.RegsCanonical := canonical_drawn h
  exact canonical_ite h hsrc

theorem canonical_execArpRequestRx {t : Nat} {target sender : BitVec 32} {mac : BitVec 48} (h : s.RegsCanonical) :
    OutCanonical (execArpRequestRx t target sender mac s) := by
  unfold execArpRequestRx
  extract_lets s' s1
  have h' : s'.RegsCanonical := canonical_at_ h
  have h1 : s1.RegsCanonical := canonical_stackTake h'
  exact .ite (.ite (.next (canonical_stackSend (canonical_arpLearn h1))) (.next h1)) (.next h')

theorem canonical_execArpCacheExpiry {ip : BitVec 32} {t : Nat} (h : s.RegsCanonical) : OutCanonical (execArpCacheExpiry ip t s) := by
  unfold execArpCacheExpiry
  extract_lets s'
  have h' : s'.RegsCanonical := canonical_at_ h
  exact .next h'

theorem canonical_ipAddrWrite {v : Word} (h : s.RegsCanonical) : (s.ipAddrWrite v).RegsCanonical := canonical_stackSend (canonical_wr _ _ h)

/-! ### Machine/Clock.lean -/

theorem canonical_setPll {x : Nat} {v : Pll} (h : s.RegsCanonical) : (s.setPll x v).RegsCanonical := h

theorem canonical_clockLost (h : s.RegsCanonical) : s.clockLost.RegsCanonical := canonical_raiseHold (canonical_raise _ h)

theorem canonical_standBy {x : Nat} (h : s.RegsCanonical) : (s.standBy x).RegsCanonical := by
  unfold State.standBy
  extract_lets s1 _ _ s2
  have h1 : s1.RegsCanonical := canonical_set _ _ h
  have h2 : s2.RegsCanonical := canonical_set _ _ (canonical_set _ _ (canonical_setPll h1))
  exact canonical_ite (canonical_ite (canonical_ite (canonical_set _ _ h2) h2) h1) h

theorem canonical_pllFault {x : Nat} (h : s.RegsCanonical) : (s.pllFault x).RegsCanonical := by
  unfold State.pllFault
  extract_lets _ _ s1 s2
  have h1 : s1.RegsCanonical := canonical_raise _ (canonical_set _ _ (canonical_set _ _ (canonical_setPll h)))
  have h2 : s2.RegsCanonical := canonical_count _ (canonical_raise _ (canonical_set _ _ (canonical_set _ _ h1)))
  refine canonical_ite ?_ (canonical_ite h1 (canonical_clockLost h1))
  exact canonical_ite (canonical_ite (canonical_engageSpare h2) h2) (canonical_ite h1 (canonical_clockLost h1))

theorem canonical_execPllLock {x : Fin 2} {t : Nat} (h : s.RegsCanonical) : OutCanonical (execPllLock x t s) := by
  unfold execPllLock
  extract_lets s'
  have h' : s'.RegsCanonical := canonical_at_ h
  refine .ite (.next h') ?_
  split
  · exact .next (canonical_setPll (canonical_set _ _ (canonical_set _ _ h')))
  · extract_lets _ s1 s2 s3
    have h1 : s1.RegsCanonical := canonical_setPll h'
    have h2 : s2.RegsCanonical := canonical_set _ _ (canonical_set _ _ (canonical_set _ _ h1))
    have h3 : s3.RegsCanonical := canonical_ite (canonical_set _ _ h2) h2
    exact .next (canonical_standBy (canonical_raise _ (canonical_set _ _ (canonical_set _ _ h3))))

theorem canonical_execPllLockTimeout {x : Fin 2} {t : Nat} (h : s.RegsCanonical) : OutCanonical (execPllLockTimeout x t s) := by
  unfold execPllLockTimeout
  extract_lets s'
  have h' : s'.RegsCanonical := canonical_at_ h
  exact .ite (.next (canonical_set _ _ (canonical_setPll h'))) (.next h')

theorem canonical_execPllLockRetry {x : Fin 2} {t : Nat} (h : s.RegsCanonical) : OutCanonical (execPllLockRetry x t s) := by
  unfold execPllLockRetry
  extract_lets s'
  have h' : s'.RegsCanonical := canonical_at_ h
  exact .ite (.next (canonical_setPll h')) (.next h')

theorem canonical_execVtuneMeasure {x : Fin 2} {raw : BitVec 16} (h : s.RegsCanonical) : OutCanonical (execVtuneMeasure x raw s) := by
  unfold execVtuneMeasure
  extract_lets _ s1
  have h1 : s1.RegsCanonical := canonical_set _ _ h
  exact .ite (.ite (.next (canonical_setPll (canonical_raise _ (canonical_set _ _ h1)))) (.next h1)) (.next h)

theorem canonical_coreSwitch (h : s.RegsCanonical) : s.coreSwitch.RegsCanonical := by
  unfold State.coreSwitch
  extract_lets s1 _ s2
  have h1 : s1.RegsCanonical := canonical_drawn h
  have h2 : s2.RegsCanonical := canonical_raise _ (canonical_set _ _ h1)
  exact canonical_ite h (canonical_ite (canonical_ite (canonical_adcResume h2) h2) (canonical_set _ _ h))

theorem canonical_pllReturn (h : s.RegsCanonical) : s.pllReturn.RegsCanonical := by
  unfold State.pllReturn
  extract_lets s1
  have h1 : s1.RegsCanonical := canonical_set _ _ (canonical_set _ _ h)
  exact canonical_ite (canonical_raise _ (canonical_releaseSpare (canonical_standBy h1))) (canonical_set _ _ h)

theorem canonical_pllRelock {x : Nat} (h : s.RegsCanonical) : (s.pllRelock x).RegsCanonical := by
  unfold State.pllRelock
  extract_lets _ s1 _ s1' _ s2 s3
  have h1 : s1.RegsCanonical := canonical_set _ _ (canonical_set _ _ (canonical_set _ _ h))
  have h1' : s1'.RegsCanonical := canonical_set _ _ (canonical_set _ _ h)
  have h2 : s2.RegsCanonical := canonical_set _ _ (canonical_setPll h1')
  have h3 : s3.RegsCanonical := canonical_raise _ h2
  refine canonical_ite ?_ (canonical_ite (canonical_ite (canonical_ite h3 (canonical_clockLost h3)) h2) h)
  exact canonical_ite (canonical_raise _ (canonical_set _ _ (canonical_setPll h1))) (canonical_set _ _ h)

theorem canonical_clkCtlWrite {v : Word} (h : s.RegsCanonical) : (s.clkCtlWrite v).RegsCanonical := by
  unfold State.clkCtlWrite
  extract_lets s1 _ _ s2 s3
  have h1 : s1.RegsCanonical := canonical_set _ _ h
  have h2 : s2.RegsCanonical := canonical_ite (canonical_standBy h1) (canonical_setPll (canonical_set _ _ h1))
  have h3 : s3.RegsCanonical := canonical_ite (canonical_pllReturn h2) h2
  exact canonical_ite (canonical_coreSwitch h3) h3

theorem canonical_bandWrite {a : Nat} {v : Word} (h : s.RegsCanonical) : (s.bandWrite a v).RegsCanonical :=
  canonical_foldl (fun _ _ ht => canonical_setPll ht) (canonical_wr _ _ h)

theorem canonical_execRefLost (h : s.RegsCanonical) : OutCanonical (execRefLost s) := by
  unfold execRefLost
  extract_lets s1
  have h1 : s1.RegsCanonical := by
    unfold s1
    refine canonical_foldl (fun _ _ ht => ?_) h
    extract_lets u
    have hu : u.RegsCanonical := canonical_set _ _ (canonical_set _ _ (canonical_set _ _ ht))
    exact canonical_ite (canonical_raise _ hu) hu
  exact .ite (.next h) (.next (canonical_clockLost (canonical_raise _ (canonical_set _ _ (canonical_set _ _ h1)))))

theorem canonical_execRefReturn (h : s.RegsCanonical) : OutCanonical (execRefReturn s) := by
  unfold execRefReturn
  extract_lets s1
  have h1 : s1.RegsCanonical := canonical_foldl (fun _ _ ht => canonical_ite (canonical_setPll ht) ht) h
  exact .ite (.next (canonical_raise _ (canonical_set _ _ h1))) (.next h)

theorem canonical_setWaves {k : Nat} {l : List OutWave} (h : s.RegsCanonical) : (s.setWaves k l).RegsCanonical := h

theorem canonical_clkoutStart {k : Nat} (h : s.RegsCanonical) : (s.clkoutStart k).RegsCanonical := canonical_setWaves (canonical_drawn h)

theorem canonical_clkoutStop {k : Nat} (h : s.RegsCanonical) : (s.clkoutStop k).RegsCanonical := by
  unfold State.clkoutStop
  split
  · exact canonical_setWaves h
  · exact h

theorem canonical_clkoutChange {k : Nat} (h : s.RegsCanonical) : (s.clkoutChange k).RegsCanonical := by
  unfold State.clkoutChange
  extract_lets
  split
  · extract_lets
    exact canonical_setWaves h
  · exact canonical_clkoutStart h

theorem canonical_clkoutFollow {old : State} {k : Nat} (h : s.RegsCanonical) : (s.clkoutFollow old k).RegsCanonical := by
  unfold State.clkoutFollow
  exact canonical_ite (canonical_ite (canonical_clkoutStop h) h)
    (canonical_ite (canonical_clkoutStart h) (canonical_ite (canonical_clkoutChange h) h))

theorem canonical_clkoutWrite {k : Nat} {v : Word} (h : s.RegsCanonical) : PairCanonical (s.clkoutWrite k v) := by
  unfold State.clkoutWrite
  extract_lets r _ u
  have hr : PairCanonical r := canonical_mergeWrite _ _ h
  have hu : u.RegsCanonical := canonical_set _ _ (canonical_set _ _ (canonical_set _ _ hr))
  exact .ite (.mk (canonical_clkoutFollow hr)) (.mk (canonical_clkoutFollow hu))

theorem canonical_clkoutsStart (h : s.RegsCanonical) : s.clkoutsStart.RegsCanonical :=
  canonical_foldl (fun _ _ ht => canonical_ite (canonical_clkoutStart ht) ht) h

theorem canonical_clkSync (h : s.RegsCanonical) : s.clkSync.RegsCanonical := by
  unfold State.clkSync
  extract_lets _ s1
  have h1 : s1.RegsCanonical := by
    unfold s1
    refine canonical_foldl (fun _ _ ht => ?_) h
    extract_lets
    refine canonical_ite ?_ ht
    split
    · extract_lets
      exact canonical_setWaves ht
    · exact ht
  exact canonical_ite (canonical_set _ _ (canonical_drawn h1)) h

theorem canonical_pwmSync (h : s.RegsCanonical) : s.pwmSync.RegsCanonical := h

theorem canonical_syncAct (h : s.RegsCanonical) : s.syncAct.RegsCanonical := by
  unfold State.syncAct
  extract_lets s1
  have h1 : s1.RegsCanonical := canonical_pwmSync (canonical_clkSync (canonical_xcap (canonical_syncT h)))
  exact h1

theorem canonical_syncLocal (h : s.RegsCanonical) : s.syncLocal.RegsCanonical :=
  canonical_ite (canonical_forwardTrigger h) (canonical_syncAct h)

/-! ### Machine/Emn.lean -/

theorem canonical_sendTrain {p : Nat} (h : s.RegsCanonical) : (s.sendTrain p).RegsCanonical := canonical_sendUrgent h

theorem canonical_heard {p t : Nat} (h : s.RegsCanonical) : (s.heard p t).RegsCanonical := canonical_setEmnPort (canonical_at_ h)

theorem canonical_emnCrcErr {p : Nat} (h : s.RegsCanonical) : (s.emnCrcErr p).RegsCanonical :=
  canonical_raise _ (canonical_set _ _ (canonical_count _ h))

theorem canonical_emnSend {p : Nat} {f : EmnFrame} (h : s.RegsCanonical) : (s.emnSend p f).RegsCanonical :=
  canonical_ite (canonical_setEmnPort h) (canonical_setEmnPort h)

theorem canonical_creditForwarded {h : HeldEvt} (hs : s.RegsCanonical) : (s.creditForwarded h).RegsCanonical := by
  unfold State.creditForwarded
  split
  · exact canonical_sendUrgent hs
  · exact hs

theorem canonical_sendHeld {p : Nat} {l : List HeldEvt} (h : s.RegsCanonical) : (State.sendHeld p l s).RegsCanonical := by
  induction l generalizing s with
  | nil => exact canonical_setEmnPort h
  | cons x r ih =>
    unfold State.sendHeld
    extract_lets
    exact canonical_ite (ih (canonical_creditForwarded (canonical_emnSend (canonical_setEmnPort h)))) (canonical_setEmnPort h)

theorem canonical_sendEvt {p : Nat} {h : HeldEvt} (hs : s.RegsCanonical) : (s.sendEvt p h).RegsCanonical := canonical_sendHeld hs

theorem canonical_emnForward {q p : Nat} {also : Bool} {type dst src : Nat} {pl : List Nat} (h : s.RegsCanonical) :
    (s.emnForward q p also type dst src pl).RegsCanonical :=
  canonical_ite (canonical_sendEvt h) (canonical_emnSend h)

theorem canonical_emnRoute {f : EmnFrame} (h : s.RegsCanonical) : (s.emnRoute f).RegsCanonical := by
  unfold State.emnRoute
  extract_lets
  split
  · exact canonical_ite (canonical_emnSend (canonical_emnSend h))
      (canonical_ite (canonical_emnSend h) (canonical_ite (canonical_emnSend h) h))
  · exact h

theorem canonical_emnData {type dst : Nat} {pl : List Nat} (h : s.RegsCanonical) : (s.emnData type dst pl).RegsCanonical :=
  canonical_emnRoute h

theorem canonical_emnAccept {p type dst src : Nat} {pl : List Nat} (h : s.RegsCanonical) :
    (s.emnAccept p type dst src pl).RegsCanonical := by
  unfold State.emnAccept
  extract_lets _ _ take s1
  have htake : ∀ t, t.RegsCanonical → (take t).RegsCanonical := fun _ hu => hu
  have h1 : s1.RegsCanonical := canonical_emnForward h
  refine canonical_ite (htake _ h) ?_
  refine canonical_ite ?_ (canonical_ite (htake _ h1) h1)
  exact canonical_ite (htake _ h) (canonical_ite (canonical_emnForward (htake _ h)) (canonical_emnForward h))

theorem canonical_execEmnDataFrameRx {p : Fin 2} {t : Nat} {frame : List (BitVec 8)} (h : s.RegsCanonical) :
    OutCanonical (execEmnDataFrameRx p t frame s) := by
  unfold execEmnDataFrameRx
  extract_lets _ s' _ _ _ s1
  have h' : s'.RegsCanonical := canonical_heard h
  have h1 : s1.RegsCanonical := canonical_sendUrgent (canonical_setEmnPort h')
  refine .ite ?_ (.next h)
  exact .ite (.next (canonical_emnCrcErr h')) (.ite (.next (canonical_emnAccept h1)) (.ite (.next (canonical_sendUrgent h')) (.next h')))

theorem canonical_replay {p : Nat} (h : s.RegsCanonical) : (s.replay p).RegsCanonical :=
  canonical_ite h (canonical_raise _ (canonical_count _ (canonical_setEmnPort h)))

theorem canonical_execEmnAckTimeout {p : Fin 2} {t : Nat} (h : s.RegsCanonical) : OutCanonical (execEmnAckTimeout p t s) := by
  unfold execEmnAckTimeout
  extract_lets s'
  have h' : s'.RegsCanonical := canonical_at_ h
  exact .ite (.next (canonical_replay h')) (.next h')

theorem canonical_execEmnIdleTimeout {p : Fin 2} {t : Nat} (h : s.RegsCanonical) : OutCanonical (execEmnIdleTimeout p t s) := by
  unfold execEmnIdleTimeout
  extract_lets s' _ s1
  have h' : s'.RegsCanonical := canonical_at_ h
  have h1 : s1.RegsCanonical := canonical_sendTrain (canonical_setEmnPort h')
  exact .ite (.next (canonical_raise _ (canonical_count _ (canonical_set _ _ (canonical_set _ _ h1))))) (.next h')

theorem canonical_execEmnTrainRx {p : Fin 2} {u : UrgentRx} {port : BitVec 8} (h : s.RegsCanonical) :
    OutCanonical (execEmnTrainRx p u port s) := by
  unfold execEmnTrainRx
  extract_lets s' _ s1 _ s2
  have h' : s'.RegsCanonical := canonical_heard h
  have h1 : s1.RegsCanonical := canonical_set _ _ (canonical_setEmnPort h')
  have h2 : s2.RegsCanonical := canonical_setEmnPort h1
  refine .ite ?_ (.next h)
  refine .ite (.next (canonical_emnCrcErr h')) ?_
  refine .ite ?_ (.next h')
  exact .ite (.next (canonical_raise _ (canonical_set _ _ (canonical_set _ _ h2)))) (.next (canonical_sendTrain h1))

theorem canonical_sendDreq {p t8 : Nat} (h : s.RegsCanonical) : (s.sendDreq p t8).RegsCanonical :=
  canonical_sendUrgent (canonical_setEmnPort h)

theorem canonical_sendEnum (h : s.RegsCanonical) : s.sendEnum.RegsCanonical := canonical_emnSend h

theorem canonical_takeHead (h : s.RegsCanonical) : s.takeHead.RegsCanonical :=
  canonical_ite (canonical_raise _ (canonical_set _ _ (canonical_set _ _ (canonical_set _ _ h)))) h

theorem canonical_execEmnPortLinked {p : Fin 2} {t8 : Nat} (h : s.RegsCanonical) : OutCanonical (execEmnPortLinked p t8 s) := by
  unfold execEmnPortLinked
  extract_lets s' _ s1 s2
  have h' : s'.RegsCanonical := canonical_at_ h
  have h1 : s1.RegsCanonical := canonical_setEmnPort h'
  have h2 : s2.RegsCanonical := canonical_replay (canonical_sendDreq h1)
  clear_value s2
  exact .ite (.ite (.next (canonical_sendEnum h2)) (.next h2)) (.next h')

theorem canonical_urgentIn {p type : Nat} {u : UrgentRx} {pl : List Nat} (h : s.RegsCanonical) :
    PairCanonical (s.urgentIn p type u pl) := by
  unfold State.urgentIn
  extract_lets s' s1
  have h' : s'.RegsCanonical := canonical_heard h
  have h1 : s1.RegsCanonical := canonical_sendUrgent h'
  exact .ite (.mk h) (.ite (.mk (canonical_emnCrcErr h')) (.mk h1))

theorem canonical_linkIn {p type : Nat} {u : UrgentRx} {pl : List Nat} (h : s.RegsCanonical) : PairCanonical (s.linkIn p type u pl) := by
  unfold State.linkIn
  extract_lets s'
  have h' : s'.RegsCanonical := canonical_heard h
  exact .ite (.mk h) (.ite (.mk (canonical_emnCrcErr h')) (.mk h'))

theorem canonical_chainHeard {x : Nat} (h : s.RegsCanonical) : (s.chainHeard x).RegsCanonical := canonical_setTracker h

theorem canonical_execEmnAngleRx {p : Fin 2} {u : UrgentRx} {flags : BitVec 8} {angle rev : BitVec 24} (h : s.RegsCanonical) :
    OutCanonical (execEmnAngleRx p u flags angle rev s) := by
  unfold execEmnAngleRx
  extract_lets r _ _ s' _ _ _ _ s1
  have hr : PairCanonical r := canonical_urgentIn h
  have h' : s'.RegsCanonical := canonical_chainHeard hr
  have h1 : s1.RegsCanonical := canonical_setTracker h'
  exact .ite (.ite (.next h') (.next (canonical_takeEdge h1))) (.next hr)

theorem canonical_triggerIn {p : Nat} {u : UrgentRx} {snap : Bool} (h : s.RegsCanonical) : (s.triggerIn p u snap).RegsCanonical := by
  unfold State.triggerIn
  extract_lets _ s1
  have h1 : s1.RegsCanonical := canonical_raise _ (canonical_count _ h)
  exact canonical_ite (canonical_ite (canonical_snapAct h1) (canonical_syncAct h1)) h

theorem canonical_execEmnSyncRx {p : Fin 2} {u : UrgentRx} {seq : BitVec 8} (h : s.RegsCanonical) :
    OutCanonical (execEmnSyncRx p u seq s) := by
  unfold execEmnSyncRx
  extract_lets r
  have hr : PairCanonical r := canonical_urgentIn h
  exact .next (canonical_ite (canonical_triggerIn hr) hr)

theorem canonical_execEmnSnapRx {p : Fin 2} {u : UrgentRx} {seq : BitVec 8} (h : s.RegsCanonical) :
    OutCanonical (execEmnSnapRx p u seq s) := by
  unfold execEmnSnapRx
  extract_lets r
  have hr : PairCanonical r := canonical_urgentIn h
  exact .next (canonical_ite (canonical_triggerIn hr) hr)

theorem canonical_execEmnDreqRx {p : Fin 2} {u : UrgentRx} {seq : BitVec 8} (h : s.RegsCanonical) :
    OutCanonical (execEmnDreqRx p u seq s) := by
  unfold execEmnDreqRx
  extract_lets r
  have hr : PairCanonical r := canonical_linkIn h
  exact .next (canonical_ite (canonical_sendUrgent hr) hr)

theorem canonical_execEmnDrspRx {p : Fin 2} {u : UrgentRx} {seq : BitVec 8} {turn : BitVec 24} (h : s.RegsCanonical) :
    OutCanonical (execEmnDrspRx p u seq turn s) := by
  unfold execEmnDrspRx
  extract_lets r _ s0
  have hr : PairCanonical r := canonical_linkIn h
  have h0 : s0.RegsCanonical := canonical_setEmnPort hr
  split
  · extract_lets _ s1
    have h1 : s1.RegsCanonical := canonical_ite (canonical_set _ _ h0) (canonical_set _ _ (canonical_drawn h0))
    exact .ite (.next (canonical_ite (canonical_raise _ (canonical_set _ _ h1)) (canonical_set _ _ h1))) (.next hr)
  · exact .next hr

theorem canonical_fillWindow {p : Nat} (h : s.RegsCanonical) : (s.fillWindow p).RegsCanonical := canonical_setEmnPort h

theorem canonical_execEmnAckRx {p : Fin 2} {u : UrgentRx} {seq : BitVec 8} (h : s.RegsCanonical) :
    OutCanonical (execEmnAckRx p u seq s) := by
  unfold execEmnAckRx
  extract_lets r
  have hr : PairCanonical r := canonical_linkIn h
  exact .ite (.next (canonical_fillWindow (canonical_setEmnPort hr))) (.next hr)

theorem canonical_execEmnCreditRx {p : Fin 2} {u : UrgentRx} {count : BitVec 16} (h : s.RegsCanonical) :
    OutCanonical (execEmnCreditRx p u count s) := by
  unfold execEmnCreditRx
  extract_lets r
  have hr : PairCanonical r := canonical_linkIn h
  exact .ite (.next (canonical_sendHeld (canonical_setEmnPort hr))) (.next hr)

theorem canonical_execEmnDelayMeasure {p : Fin 2} {t8 : Nat} (h : s.RegsCanonical) : OutCanonical (execEmnDelayMeasure p t8 s) := by
  unfold execEmnDelayMeasure
  extract_lets s'
  have h' : s'.RegsCanonical := canonical_at_ h
  exact .ite (.next (canonical_sendDreq h')) (.next h')

theorem canonical_sendAngle {d : Nat} (h : s.RegsCanonical) : (s.sendAngle d).RegsCanonical := canonical_drawn (canonical_sendUrgent h)

theorem canonical_execEmnAngleSend {t : Nat} (h : s.RegsCanonical) : OutCanonical (execEmnAngleSend t s) := by
  unfold execEmnAngleSend
  extract_lets s' _ s1
  have h' : s'.RegsCanonical := canonical_at_ h
  have h1 : s1.RegsCanonical := canonical_ite (canonical_sendAngle h') h'
  exact .ite (.next (canonical_ite (canonical_sendAngle h1) h1)) (.next h')

theorem canonical_execTriggerApply {t : Nat} (h : s.RegsCanonical) : OutCanonical (execTriggerApply t s) := by
  unfold execTriggerApply
  extract_lets s'
  have h' : s'.RegsCanonical := canonical_at_ h
  exact .next (canonical_foldl (fun _ _ hu => canonical_ite (canonical_snapAct hu) (canonical_syncAct hu)) h')

theorem canonical_inboxTake {n : Nat} (h : s.RegsCanonical) : OptCanonical (s.inboxTake n) := by
  unfold State.inboxTake
  extract_lets
  split
  · exact .ite (.some (.mk h)) .none
  · exact .none

theorem canonical_execEnumRx {t : Nat} (h : s.RegsCanonical) : OutCanonical (execEnumRx t s) := by
  unfold execEnumRx
  split
  · exact .next h
  · next s' _ e =>
      have h' : s'.RegsCanonical := OptCanonical.of_eq e (canonical_inboxTake (canonical_at_ h))
      extract_lets _ s1
      have h1 : s1.RegsCanonical := canonical_raise _ (canonical_set _ _ (canonical_set _ _ h'))
      refine .ite (.next h') ?_
      refine .ite (.next (canonical_raise _ (canonical_set _ _ h'))) ?_
      exact .ite (.next (canonical_emnSend (canonical_set _ _ h'))) (.ite (.next (canonical_sendEnum h1)) (.next h1))

theorem canonical_execEnumTailTimeout {t : Nat} (h : s.RegsCanonical) : OutCanonical (execEnumTailTimeout t s) := by
  unfold execEnumTailTimeout
  extract_lets s' _ s1
  have h' : s'.RegsCanonical := canonical_at_ h
  have h1 : s1.RegsCanonical := canonical_set _ _ h'
  split
  · exact .ite (.next (canonical_emnSend h1)) (.next h')
  · exact .next h'

theorem canonical_execEmnEvtRx (h : s.RegsCanonical) : OutCanonical (execEmnEvtRx s) := by
  unfold execEmnEvtRx
  split
  · exact .next h
  · next s' _ e =>
      have h' : s'.RegsCanonical := OptCanonical.of_eq e (canonical_inboxTake h)
      exact .next (canonical_foldl (fun _ _ hu => canonical_offerWait hu) h')

theorem canonical_wrBytes {a : Nat} {l : List Nat} (h : s.RegsCanonical) : (s.wrBytes a l).RegsCanonical :=
  canonical_foldl (fun _ _ hu => canonical_wr _ _ hu) h

theorem canonical_execEmnFwRx (h : s.RegsCanonical) : OutCanonical (execEmnFwRx s) := by
  unfold execEmnFwRx
  split
  · next u _ _ e =>
      have hu : u.RegsCanonical := OptCanonical.of_eq e (canonical_inboxTake h)
      extract_lets u1
      have hu1 : u1.RegsCanonical := canonical_wrBytes hu
      exact .next (canonical_raise _ hu1)
  · exact .next h

theorem canonical_emnTxq {b : Nat} (h : s.RegsCanonical) : PairCanonical (s.emnTxq b) := by
  unfold State.emnTxq
  extract_lets
  refine .ite (.mk h) ?_
  refine .ite (.mk (canonical_emnData h)) ?_
  exact .ite (.mk (canonical_emnData h)) (.mk (canonical_foldl (fun _ _ hu => canonical_sendEvt hu) h))

theorem canonical_emnRxDone {b : Nat} (h : s.RegsCanonical) : (s.emnRxDone b).RegsCanonical := h

/-! ### Machine/Fabric.lean -/

theorem canonical_register {id m dst : Nat} {v : BitVec 16} (h : s.RegsCanonical) : (s.register id m dst v).RegsCanonical :=
  canonical_setCell h

theorem canonical_retire {op id m w : Nat} {o : ReedOut} {act : State → BitVec 16 → State}
    (h : s.RegsCanonical)
    (hact : ∀ t x, t.RegsCanonical → (act t x).RegsCanonical) :
    (s.retire op id m w o act).RegsCanonical := by
  unfold State.retire
  extract_lets s1
  have h1 : s1.RegsCanonical := canonical_register h
  exact canonical_ite h (hact _ _ (canonical_setCell h1))

theorem canonical_reed {op : Nat} {c : Fin 65536} {m : Nat} {g : ReedIn → ReedOut} {act : State → BitVec 16 → State}
    (h : s.RegsCanonical)
    (hact : ∀ t x, t.RegsCanonical → (act t x).RegsCanonical) :
    (s.reed op c m g act).RegsCanonical := by
  unfold State.reed
  extract_lets s'
  have h' : s'.RegsCanonical := canonical_feedSample (canonical_at_ h)
  refine canonical_ite h' ?_
  refine canonical_ite (canonical_retire h' (fun _ _ ht => hact _ _ ht)) ?_
  exact canonical_ite (canonical_setCell h') (canonical_ite (canonical_setCell h') (canonical_retire h' (fun _ _ ht => hact _ _ ht)))

theorem canonical_ramRead {id m : Nat} {a : BitVec 16} (h : s.RegsCanonical) : (s.ramRead id m a).RegsCanonical := by
  unfold State.ramRead
  extract_lets _ p deliver s1 _ s2
  have hdeliver : ∀ t x, t.RegsCanonical → (deliver t x).RegsCanonical :=
    fun _ _ ht => canonical_foldl (fun _ _ hu => canonical_setCell hu) ht
  have hp : PairCanonical p := canonical_memRead h
  have h1 : s1.RegsCanonical := hdeliver _ _ hp
  have h2 : s2.RegsCanonical := canonical_setCell h1
  refine canonical_ite ?_ h
  split
  · exact hdeliver _ _ hp
  · exact canonical_raise _ (canonical_count _ (canonical_wr _ _ (canonical_set _ _ h2)))

theorem canonical_ramWrite {id m : Nat} {a : BitVec 16} (h : s.RegsCanonical) : (s.ramWrite id m a).RegsCanonical :=
  canonical_ite (canonical_memWrite h) h

theorem canonical_execReedLutStep {c : Fin 65536} {m : Nat} (h : s.RegsCanonical) : OutCanonical (execReedLutStep c m s) := by
  unfold execReedLutStep
  extract_lets s'
  have h' : s'.RegsCanonical := canonical_feedSample (canonical_at_ h)
  exact .ite (.next (canonical_register h')) (.next h')

theorem canonical_holdTract {t : Nat} (h : s.RegsCanonical) : (s.holdTract t).RegsCanonical := h

theorem canonical_freeTract {t : Nat} (h : s.RegsCanonical) : (s.freeTract t).RegsCanonical := h

theorem canonical_globalSetReset (h : s.RegsCanonical) : s.globalSetReset.RegsCanonical :=
  canonical_set _ _ (canonical_set _ _ (canonical_set _ _ h))

theorem canonical_fabricRelease (h : s.RegsCanonical) : s.fabricRelease.RegsCanonical :=
  canonical_ite (canonical_set _ _ h) (canonical_ite h (canonical_set _ _ h))

theorem canonical_execQuadrantRelease {t : Nat} (h : s.RegsCanonical) : OutCanonical (execQuadrantRelease t s) := by
  unfold execQuadrantRelease
  extract_lets s'
  have h' : s'.RegsCanonical := canonical_at_ h
  split
  · exact .next h'
  · extract_lets _ s1
    have h1 : s1.RegsCanonical :=
      canonical_ite (canonical_set _ _ (canonical_foldl (fun _ _ hu => canonical_ite (canonical_freeTract hu) hu) h')) h'
    exact .ite (.next h') (.ite (.next h1) (.next (canonical_raise _ (canonical_set _ _ (canonical_set _ _ h1)))))

theorem canonical_srOrderWrite {v : Word} (h : s.RegsCanonical) : PairCanonical (s.srOrderWrite v) :=
  .ite (canonical_mergeWrite _ _ h) (.mk h)

theorem canonical_execFirqEdge {x : Fin 96} {m : Nat} (h : s.RegsCanonical) : OutCanonical (execFirqEdge x m s) := by
  unfold execFirqEdge
  extract_lets s'
  have h' : s'.RegsCanonical := canonical_at_ h
  exact .next (canonical_ite (canonical_raise _ h') h')

theorem canonical_execFabricHoldChange {m : Nat} (h : s.RegsCanonical) : OutCanonical (execFabricHoldChange m s) := by
  unfold execFabricHoldChange
  extract_lets s'
  have h' : s'.RegsCanonical := canonical_at_ h
  exact .next (canonical_ite (canonical_ite (canonical_raiseHold h') (canonical_clearHold h')) h')

theorem canonical_execSnapTrigger {src m : Nat} (h : s.RegsCanonical) : OutCanonical (execSnapTrigger src m s) := by
  unfold execSnapTrigger
  extract_lets s'
  have h' : s'.RegsCanonical := canonical_ite (canonical_at_ h) h
  exact .next (canonical_ite h' (canonical_assertSnap h'))

theorem canonical_execWheelInsertOffer {o : InsertOffer} (h : s.RegsCanonical) : OutCanonical (execWheelInsertOffer o s) := by
  unfold execWheelInsertOffer
  extract_lets
  split
  · exact .next (canonical_offerWait h)
  · exact .next (canonical_offerWait h)
  · extract_lets s'
    have h' : s'.RegsCanonical := canonical_at_ h
    exact .next (canonical_ite (canonical_offer h') h')

theorem canonical_rimCtlWrite {v : Word} (h : s.RegsCanonical) : PairCanonical (s.rimCtlWrite v) := by
  unfold State.rimCtlWrite
  extract_lets p
  have hp : PairCanonical p := canonical_mergeWrite _ _ h
  exact .mk (canonical_ite (canonical_raiseHold hp) (canonical_ite (canonical_clearHold hp) hp))

theorem canonical_execRimCaptureEdge {m : Nat} (h : s.RegsCanonical) : OutCanonical (execRimCaptureEdge m s) := by
  unfold execRimCaptureEdge
  extract_lets s'
  have h' : s'.RegsCanonical := canonical_at_ h
  exact .next (canonical_ite (canonical_requestCapture h') h')

theorem canonical_arbitrate {rewritten : Bool} {ids : List Nat} (h : s.RegsCanonical) : (s.arbitrate rewritten ids).RegsCanonical := by
  unfold State.arbitrate
  extract_lets _ clear _ _ first s1
  have hclear : clear.RegsCanonical := canonical_foldl (fun _ _ ht => canonical_ite (canonical_setLatch ht) ht) h
  have h1 : s1.RegsCanonical := canonical_foldl (fun _ _ ht => canonical_raise _ (canonical_count _ (canonical_setLatch ht))) hclear
  clear_value first s1
  cases first with
  | none => exact h1
  | some e =>
    have h2 : (s1.set F.FAB_CONT_STAT_CONTENTION 1).RegsCanonical := canonical_set _ _ h1
    exact canonical_ite h2 (canonical_wr _ _ h2)

theorem canonical_contReenable (h : s.RegsCanonical) : s.contReenable.RegsCanonical := canonical_arbitrate h

theorem canonical_contStatWrite {v : Word} (h : s.RegsCanonical) : (s.contStatWrite v).RegsCanonical :=
  canonical_ite (canonical_wr _ _ (canonical_set _ _ h)) h

theorem canonical_setCellCfg {id : Nat} {w : BitVec 320} (h : s.RegsCanonical) : (s.setCellCfg id w).RegsCanonical :=
  canonical_ite (canonical_setCell h) h

theorem canonical_execConfigUpset {frame : Fin 4096} {bits : List (Fin 5120)} (h : s.RegsCanonical) :
    OutCanonical (execConfigUpset frame bits s) := by
  unfold execConfigUpset
  extract_lets _ s1
  have h1 : s1.RegsCanonical := canonical_foldl (fun _ _ hu => canonical_setCellCfg hu) h
  exact .next (canonical_arbitrate h1)

theorem canonical_execCaptureTaken {m : Nat} (h : s.RegsCanonical) : OutCanonical (execCaptureTaken m s) := by
  unfold execCaptureTaken
  extract_lets s' _ _ _ _ _ s2
  have h' : s'.RegsCanonical := canonical_at_ h
  have h2 : s2.RegsCanonical := canonical_wr _ _ (canonical_wr _ _ h')
  exact .ite (.next (canonical_raise _ (canonical_set _ _ (canonical_wr _ _ h2)))) (.next h')

theorem canonical_capCtlWrite {v : Word} (h : s.RegsCanonical) : PairCanonical (s.capCtlWrite v) := by
  unfold State.capCtlWrite
  extract_lets p s1 s2
  have hp : PairCanonical p := canonical_mergeWrite _ _ h
  have h1 : s1.RegsCanonical := canonical_ite (canonical_set _ _ hp) hp
  have h2 : s2.RegsCanonical := canonical_ite (canonical_requestCapture h1) h1
  exact .mk h2

theorem canonical_capAdvance (h : s.RegsCanonical) : s.capAdvance.RegsCanonical :=
  canonical_ite (canonical_set _ _ (canonical_set _ _ h)) (canonical_set _ _ h)

/-! ### Machine/Flash.lean -/

theorem canonical_setSector {n : Nat} {x : Sector} (h : s.RegsCanonical) : (s.setSector n x).RegsCanonical := h

theorem canonical_setJournalHalf {h : JHalf} (hs : s.RegsCanonical) : (s.setJournalHalf h).RegsCanonical := hs

theorem canonical_journal {fails type sector erases : Nat} {data : List Nat} (h : s.RegsCanonical) :
    (s.journal fails type sector erases data).RegsCanonical := by
  unfold State.journal
  extract_lets _ _ s1
  have h1 : s1.RegsCanonical := canonical_setJournalHalf h
  exact h1

theorem canonical_flashStat (h : s.RegsCanonical) : s.flashStat.RegsCanonical := by
  unfold State.flashStat
  extract_lets _ s1 s2
  have h1 : s1.RegsCanonical := canonical_set _ _ (canonical_set _ _ h)
  have h2 : s2.RegsCanonical := canonical_set _ _ h1
  exact canonical_set _ _ (canonical_set _ _ h2)

theorem canonical_setOps {l : List FlashOp} (h : s.RegsCanonical) : (s.setOps l).RegsCanonical := h

theorem canonical_flashSuspend {byCmd : Bool} (h : s.RegsCanonical) : (s.flashSuspend byCmd).RegsCanonical := by
  unfold State.flashSuspend
  split
  · exact canonical_flashStat (canonical_setOps h)
  · exact h

theorem canonical_flashTouch (h : s.RegsCanonical) : s.flashTouch.RegsCanonical := by
  unfold State.flashTouch
  extract_lets s1
  have h1 : s1.RegsCanonical := canonical_ite (canonical_flashSuspend h) h
  exact h1

theorem canonical_flashUncorr {a : Nat} (h : s.RegsCanonical) : (s.flashUncorr a).RegsCanonical :=
  canonical_raise _ (canonical_set _ _ (canonical_wr _ _ h))

theorem canonical_cfRead {a n bad : Nat} (h : s.RegsCanonical) : PairCanonical (s.cfRead a n bad) := by
  unfold State.cfRead
  extract_lets _ _ s1 s2
  have h1 : s1.RegsCanonical := canonical_flashTouch h
  have h2 : s2.RegsCanonical := canonical_ite h1 (canonical_count _ h1)
  refine .ite (.mk h1) ?_
  refine .ite (.mk h1) ?_
  exact .ite (.ite (.mk (canonical_flashUncorr (canonical_drawn h1))) (.mk (canonical_drawn h1)))
    (.ite (.mk (canonical_flashUncorr h1)) (.ite (.mk h2) (.mk (canonical_drawn h2))))

theorem canonical_pfRead {a n bad : Nat} (h : s.RegsCanonical) : PairCanonical (s.pfRead a n bad) := by
  unfold State.pfRead
  extract_lets _ s1
  have h1 : s1.RegsCanonical := canonical_ite h (canonical_count _ h)
  refine .ite (.mk h) ?_
  exact .ite (.ite (.mk (canonical_flashUncorr (canonical_drawn h))) (.mk (canonical_drawn h)))
    (.ite (.mk (canonical_flashUncorr h)) (.ite (.mk (canonical_drawn h1)) (.mk h1)))

theorem canonical_setOtp {k : Nat} {w : BitVec 64} (h : s.RegsCanonical) : (s.setOtp k w).RegsCanonical := h

theorem canonical_otpProgramRun {o : Nat} {l : List Nat} {bad : Option Nat} (h : s.RegsCanonical) :
    (s.otpProgramRun o l bad).RegsCanonical := by
  unfold State.otpProgramRun
  refine canonical_foldl (fun _ _ ht => ?_) h
  extract_lets t1
  have ht1 : t1.RegsCanonical := canonical_setOtp ht
  exact canonical_ite ht1 ht1

theorem canonical_otpRead {a n bad : Nat} (h : s.RegsCanonical) : PairCanonical (s.otpRead a n bad) := by
  unfold State.otpRead
  extract_lets
  exact .ite (.mk h) (.ite (.ite (.mk (canonical_drawn h)) (.mk (canonical_drawn h))) (.ite (.mk h) (.mk h)))

theorem canonical_cfEnd {code : Nat} (h : s.RegsCanonical) : (s.cfEnd code).RegsCanonical := by
  unfold State.cfEnd
  extract_lets s1
  have h1 : s1.RegsCanonical := canonical_raise _ (canonical_set _ _ (canonical_set _ _ h))
  exact canonical_flashStat (canonical_ite h1 (canonical_raise _ h1))

theorem canonical_pfEnd {code : Nat} (h : s.RegsCanonical) : (s.pfEnd code).RegsCanonical := by
  unfold State.pfEnd
  extract_lets s1
  have h1 : s1.RegsCanonical := canonical_raise _ (canonical_set _ _ (canonical_set _ _ h))
  exact canonical_flashStat (canonical_ite h1 (canonical_raise _ h1))

theorem canonical_slotTouched {n : Nat} (h : s.RegsCanonical) : (s.slotTouched n).RegsCanonical := canonical_ite (canonical_set _ _ h) h

theorem canonical_flashStart {o : FlashOp} {jfails : Nat} (h : s.RegsCanonical) : (s.flashStart o jfails).RegsCanonical := by
  unfold State.flashStart
  extract_lets _ _ _ s1 s2 s1'
  have h1 : s1.RegsCanonical := canonical_setSector (canonical_journal h)
  clear_value s1
  have h2 : s2.RegsCanonical := canonical_slotTouched h1
  have h1' : s1'.RegsCanonical := canonical_ite (canonical_slotTouched h) h
  clear_value s1' s2
  refine canonical_ite (canonical_flashStat h) ?_
  refine canonical_ite ?_ (canonical_flashStat (canonical_setOps h1'))
  exact canonical_ite (canonical_raise _ (canonical_cfEnd h)) (canonical_flashStat (canonical_setOps h2))

theorem canonical_flashCmd {op jfails : Nat} (h : s.RegsCanonical) : (s.flashCmd op jfails).RegsCanonical := by
  unfold State.flashCmd
  extract_lets
  refine canonical_ite ?_ ?_
  · refine canonical_ite (canonical_cfEnd h) ?_
    refine canonical_ite ?_ ?_
    · split
      · exact h
      · exact canonical_cfEnd (canonical_flashSuspend h)
    · split
      · exact canonical_ite (canonical_cfEnd (canonical_setOps h)) (canonical_ite h (canonical_cfEnd (canonical_setOps h)))
      · exact h
  · exact canonical_ite (canonical_ite (canonical_pfEnd h) (canonical_cfEnd h))
      (canonical_ite (canonical_flashStat h) (canonical_flashStart h))

theorem canonical_undamage {lo hi : Nat} (h : s.RegsCanonical) : (s.undamage lo hi).RegsCanonical := h

theorem canonical_damage {l : List Nat} (h : s.RegsCanonical) : (s.damage l).RegsCanonical := h

theorem canonical_sectorFail {n op jfails : Nat} (h : s.RegsCanonical) : (s.sectorFail n op jfails).RegsCanonical :=
  canonical_raise _ (canonical_setSector (canonical_ite (canonical_journal h) (canonical_raise _ h)))

theorem canonical_cfDone {o : FlashOp} {pass : Bool} {jfails corr maxbits unc : Nat} (h : s.RegsCanonical) :
    PairCanonical (s.cfDone o pass jfails corr maxbits unc) := by
  unfold State.cfDone
  extract_lets _ _ _ _ _ s1
  have h1 : s1.RegsCanonical := canonical_undamage h
  refine .ite (.ite (.mk (canonical_setSector h)) (.mk (canonical_sectorFail (canonical_damage h)))) ?_
  refine .ite ?_ ?_
  · refine .ite ?_ (.mk (canonical_sectorFail (canonical_damage h)))
    exact .ite (.mk (canonical_raise _ (canonical_setSector h1))) (.mk (canonical_setSector (canonical_journal h1)))
  · refine .ite (.ite (.mk (canonical_raise _ h)) (.mk (canonical_setSector (canonical_journal h)))) ?_
    refine .ite ?_ (.mk (canonical_set _ _ (canonical_set _ _ (canonical_set _ _ h))))
    split
    · exact .mk h
    · exact .mk (canonical_drawn h)

theorem canonical_pfDone {o : FlashOp} {pass : Bool} (h : s.RegsCanonical) : (s.pfDone o pass).RegsCanonical := by
  unfold State.pfDone
  extract_lets
  refine canonical_ite h ?_
  split
  extract_lets
  exact canonical_ite h h

theorem canonical_execFlashCommandDone {cf : Bool} {t : Nat} {pass : Bool} {jfails : Fin 4} {corr : Fin 4096} {maxbits : Fin 4}
    {unc : Fin 4096} (h : s.RegsCanonical) :
    OutCanonical (execFlashCommandDone cf t pass jfails corr maxbits unc s) := by
  unfold execFlashCommandDone
  extract_lets s0
  have h0 : s0.RegsCanonical := canonical_at_ h
  refine .ite ?_ ?_
  · split
    · refine .ite (.next h0) ?_
      split
      rename_i s1 _ e
      have h1 : s1.RegsCanonical := PairCanonical.of_eq e (canonical_cfDone h0)
      exact .next (canonical_cfEnd (canonical_setOps h1))
    · exact .next h0
  · split
    · extract_lets s1'
      have h1' : s1'.RegsCanonical := canonical_pfDone h0
      exact .next (canonical_pfEnd h1')
    · exact .next h0

theorem canonical_execAutoResume {t : Nat} (h : s.RegsCanonical) : OutCanonical (execAutoResume t s) := by
  unfold execAutoResume
  extract_lets s0
  have h0 : s0.RegsCanonical := canonical_at_ h
  split
  · exact .ite (.next (canonical_flashStat (canonical_setOps h0))) (.next h0)
  · exact .next h0

theorem canonical_promoteWrite {jfails : Nat} (h : s.RegsCanonical) : (s.promoteWrite jfails).RegsCanonical := by
  unfold State.promoteWrite
  extract_lets _ _ _ s1
  have h1 : s1.RegsCanonical := canonical_journal h
  exact canonical_ite (canonical_raise _ (canonical_set _ _ h)) (canonical_raise _ h1)

theorem canonical_promote {jfails : Nat} (h : s.RegsCanonical) : (s.promote jfails).RegsCanonical := by
  unfold State.promote
  extract_lets
  exact canonical_ite (canonical_ite (canonical_set _ _ (canonical_flashStat h)) (canonical_promoteWrite h)) (canonical_set _ _ h)

theorem canonical_execCompactionDone {t : Nat} {jfails : Fin 4} (h : s.RegsCanonical) : OutCanonical (execCompactionDone t jfails s) := by
  unfold execCompactionDone
  extract_lets s0 _ _ _ s2
  have h0 : s0.RegsCanonical := canonical_at_ h
  have h2 : s2.RegsCanonical := canonical_raise _ (canonical_flashStat h0)
  split
  · exact .next h0
  · exact .next (canonical_ite (canonical_promoteWrite (canonical_set _ _ h2)) (canonical_flashStart h2))

theorem canonical_journalScan (h : s.RegsCanonical) : s.journalScan.RegsCanonical := by
  unfold State.journalScan
  extract_lets _ _ _ _ _ _ _ _ s2
  have h2 : s2.RegsCanonical := canonical_set _ _ h
  exact canonical_ite (canonical_raise _ h2) h2

theorem canonical_otpEnd {code : Nat} (h : s.RegsCanonical) : (s.otpEnd code).RegsCanonical := by
  unfold State.otpEnd
  extract_lets s1
  have h1 : s1.RegsCanonical := canonical_raise _ (canonical_set _ _ (canonical_set _ _ h))
  exact canonical_ite h1 (canonical_raise _ h1)

theorem canonical_otpGo (h : s.RegsCanonical) : s.otpGo.RegsCanonical :=
  canonical_ite (canonical_otpEnd h) (canonical_set _ _ (canonical_set _ _ h))

theorem canonical_execOtpProgramDone {pass : Bool} (h : s.RegsCanonical) : OutCanonical (execOtpProgramDone pass s) := by
  unfold execOtpProgramDone
  split
  · exact .next h
  · extract_lets s1
    have h1 : s1.RegsCanonical := canonical_setOtp h
    exact .next (canonical_otpEnd (canonical_set _ _ h1))

/-! ### Machine/Image.lean -/

theorem canonical_imageRegister {a v : Nat} (h : s.RegsCanonical) : (s.imageRegister a v).RegsCanonical := by
  unfold State.imageRegister
  extract_lets _ _ s1
  have h1 : s1.RegsCanonical := canonical_cmpLoaded (canonical_wr _ _ h)
  exact canonical_ite h1 h1

theorem canonical_writeFrame {n : Nat} {payload : List Nat} (h : s.RegsCanonical) : (s.writeFrame n payload).RegsCanonical :=
  canonical_foldl (fun _ _ ht => canonical_setCellCfg ht) h

theorem canonical_writeRam {b : Nat} {payload : List Nat} (h : s.RegsCanonical) : (s.writeRam b payload).RegsCanonical :=
  canonical_foldl (fun _ _ ht => canonical_memWrite ht) h

theorem canonical_putFrame {ram : Bool} {n : Nat} {payload : List Nat} (h : s.RegsCanonical) : (s.putFrame ram n payload).RegsCanonical :=
  canonical_ite (canonical_writeRam h) (canonical_writeFrame h)

theorem canonical_setFrameRec {k : Nat} {r : FrameRec} (h : s.RegsCanonical) : (s.setFrameRec k r).RegsCanonical := h

theorem canonical_writeRec {chain : Bool} {src : Nat} {r : ImgRec} (h : s.RegsCanonical) : (s.writeRec chain src r).RegsCanonical := by
  unfold State.writeRec
  split
  · exact canonical_setFrameRec (canonical_putFrame h)
  · exact canonical_foldl (fun _ _ ht => canonical_memWrite ht) h
  · exact canonical_foldl (fun _ _ ht => canonical_imageRegister ht) h

theorem canonical_writePass {chain : Bool} {src : Nat} {d : PassData} (h : s.RegsCanonical) : (s.writePass chain src d).RegsCanonical := by
  unfold State.writePass
  extract_lets s1
  have h1 : s1.RegsCanonical := canonical_foldl (fun _ _ ht => canonical_writeRec ht) h
  exact h1

theorem canonical_clearImage (h : s.RegsCanonical) : s.clearImage.RegsCanonical := canonical_cmpsOff (wf_filterMap_clearImage h)

/-! ### Machine/Gpio.lean -/

theorem canonical_setPinIn {n : Nat} {x : PinIn} (h : s.RegsCanonical) : (s.setPinIn n x).RegsCanonical := h

theorem canonical_pinEvent {n : Nat} (h : s.RegsCanonical) : (s.pinEvent n).RegsCanonical :=
  canonical_ite h (canonical_ite h (canonical_ite h (canonical_raise _ (canonical_setBitAt h))))

theorem canonical_setCapFifo {k : Nat} {l : List CapEntry} (h : s.RegsCanonical) : (s.setCapFifo k l).RegsCanonical := h

theorem canonical_pinCapture {n : Nat} {level : Bool} {t : Nat} (h : s.RegsCanonical) : (s.pinCapture n level t).RegsCanonical :=
  canonical_ite (canonical_ite (canonical_set _ _ h) (canonical_setCapFifo h)) h

theorem canonical_setPinLevel {n : Nat} {level : Bool} {word : Nat} (h : s.RegsCanonical) : (s.setPinLevel n level word).RegsCanonical := h

theorem canonical_execGpioInputChange {n : Fin 128} {t : Nat} {level : Bool} {samples : Nat} {word : Fin 256} (h : s.RegsCanonical) :
    OutCanonical (execGpioInputChange n t level samples word s) := by
  unfold execGpioInputChange
  extract_lets s1 _ _ _ s2
  have h1 : s1.RegsCanonical := canonical_setPinLevel (canonical_at_ h)
  have h2 : s2.RegsCanonical := canonical_setPinIn (canonical_set _ _ h1)
  refine .ite (.next h1) ?_
  exact .ite (.next (canonical_ite (canonical_pinEvent h1) h1)) (.ite (.next h1)
    (.next (canonical_pinCapture (canonical_ite (canonical_pinEvent h2) h2))))

theorem canonical_pinStatWrite {k : Nat} {v : Word} (h : s.RegsCanonical) : PairCanonical (s.pinStatWrite k v) := by
  unfold State.pinStatWrite
  extract_lets p
  have hp : PairCanonical p := canonical_mergeWrite _ _ h
  exact .mk (canonical_foldl (fun _ _ hu => canonical_ite (canonical_pinEvent hu) hu) hp)

theorem canonical_gpCfgWrite {n : Nat} {v : Word} (h : s.RegsCanonical) : PairCanonical (s.gpCfgWrite n v) := by
  unfold State.gpCfgWrite
  extract_lets _ _ _ p
  have hp : PairCanonical p := canonical_mergeWrite _ _ h
  exact .mk (canonical_setPinIn hp)

theorem canonical_pwmWrite {k : Nat} {v : Word} (h : s.RegsCanonical) : PairCanonical (s.pwmWrite k v) := by
  unfold State.pwmWrite
  extract_lets _ _ s1
  have h1 : s1.RegsCanonical := canonical_wr _ _ h
  refine .ite (.mk h) ?_
  split
  extract_lets
  exact .mk h1

theorem canonical_setPort {k : Nat} {x : Port} (h : s.RegsCanonical) : (s.setPort k x).RegsCanonical :=
  canonical_set _ _ (canonical_set _ _ (canonical_set _ _ h))

theorem canonical_portCfgWrite {k : Nat} {v : Word} (h : s.RegsCanonical) : PairCanonical (s.portCfgWrite k v) := by
  unfold State.portCfgWrite
  extract_lets _ s0
  have h0 : s0.RegsCanonical := canonical_setPort h
  exact .ite (.mk (canonical_mergeWrite _ _ h0)) (canonical_mergeWrite _ _ h0)

theorem canonical_portEvent {k : Nat} (h : s.RegsCanonical) : (s.portEvent k).RegsCanonical := canonical_raise _ h

theorem canonical_portTx {k : Nat} {v : Word} (h : s.RegsCanonical) : PairCanonical (s.portTx k v) :=
  .ite (.mk h) (.ite (.mk h) (.mk (canonical_setPort h)))

theorem canonical_portRx {k data : Nat} (h : s.RegsCanonical) : (s.portRx k data).RegsCanonical := by
  unfold State.portRx
  extract_lets _ s1
  have h1 : s1.RegsCanonical := canonical_setPort h
  exact canonical_ite (canonical_portEvent (canonical_set _ _ h)) (canonical_ite (canonical_portEvent h1) h1)

theorem canonical_execPortTransferDone {k : Fin 8} {t : Nat} {d : PortDone} {s0 : State} (h0 : s0.RegsCanonical) :
    OutCanonical (execPortTransferDone k t d s0) := by
  unfold execPortTransferDone
  extract_lets s
  have h : s.RegsCanonical := canonical_at_ h0
  split
  · split
    · exact .next h
    · extract_lets s1 s2 _ s3
      have h1 : s1.RegsCanonical := canonical_setPort h
      have h2 : s2.RegsCanonical := canonical_ite (canonical_portEvent h1) h1
      have h3 : s3.RegsCanonical := canonical_ite (canonical_portRx h2) h2
      exact .ite (.next h) (.next (canonical_ite (canonical_portEvent (canonical_set _ _ h3)) h3))
  · extract_lets s1 s2
    have h1' : s1.RegsCanonical := canonical_portRx h
    have h2' : s2.RegsCanonical := canonical_ite (canonical_portEvent (canonical_set _ _ h1')) h1'
    exact .ite (.next h) (.next (canonical_ite (canonical_portEvent (canonical_set _ _ h2')) h2'))

theorem canonical_portRxPop {k : Nat} (h : s.RegsCanonical) : (s.portRxPop k).RegsCanonical := canonical_setPort h

theorem canonical_capPop {k : Nat} (h : s.RegsCanonical) : (s.capPop k).RegsCanonical := canonical_setCapFifo h

theorem canonical_outSet {k : Nat} {v : Word} (h : s.RegsCanonical) : (s.outSet k v).RegsCanonical := canonical_wr _ _ h

theorem canonical_outClr {k : Nat} {v : Word} (h : s.RegsCanonical) : (s.outClr k v).RegsCanonical := canonical_wr _ _ h

theorem canonical_outTgl {k : Nat} {v : Word} (h : s.RegsCanonical) : (s.outTgl k v).RegsCanonical := canonical_wr _ _ h

/-! ### Machine/Pr.lean -/

theorem canonical_setPr {p : Pr} (h : s.RegsCanonical) : (s.setPr p).RegsCanonical := h

theorem canonical_prReject {code frame : Nat} (h : s.RegsCanonical) : (s.prReject code frame).RegsCanonical := by
  unfold State.prReject
  extract_lets s1
  have h1 : s1.RegsCanonical := canonical_set _ _ (canonical_set _ _ (canonical_set _ _ h))
  exact canonical_raise _ (canonical_count _ (canonical_set _ _ h1))

theorem canonical_prBegin (h : s.RegsCanonical) : s.prBegin.RegsCanonical := by
  unfold State.prBegin
  extract_lets s1
  have h1 : s1.RegsCanonical := canonical_set _ _ h
  exact canonical_ite (canonical_flashTouch h1) h1

theorem canonical_prStart {fabric flash : Bool} {src len : Nat} (h : s.RegsCanonical) : (s.prStart fabric flash src len).RegsCanonical := by
  unfold State.prStart
  extract_lets s1 s2
  have h1 : s1.RegsCanonical := canonical_setPr h
  have h2 : s2.RegsCanonical := canonical_set _ _ (canonical_set _ _ (canonical_set _ _ h1))
  refine canonical_ite h ?_
  refine canonical_ite (canonical_prReject h2) ?_
  exact canonical_ite (canonical_prReject h2) (canonical_ite (canonical_set _ _ h2) (canonical_prBegin h2))

theorem canonical_prAbort (h : s.RegsCanonical) : s.prAbort.RegsCanonical := canonical_ite (canonical_prReject h) h

theorem canonical_prPush {l : List Nat} (h : s.RegsCanonical) : (s.prPush l).RegsCanonical :=
  canonical_ite (canonical_ite (canonical_prReject h) (canonical_setPr h)) h

theorem canonical_prOwner {o : Nat} (h : s.RegsCanonical) : PairCanonical (s.prOwner o) := by
  unfold State.prOwner
  extract_lets
  refine .ite (.mk h) ?_
  exact .ite (.mk (canonical_ite (canonical_set _ _ h) (canonical_ite (canonical_set _ _ h) h)))
    (.ite (.mk (canonical_ite (canonical_set _ _ h) h)) (.mk h))

theorem canonical_prCtlWrite {v : Word} (h : s.RegsCanonical) : PairCanonical (s.prCtlWrite v) := by
  unfold State.prCtlWrite
  split
  rename_i s1 _ e
  have h1 : s1.RegsCanonical := PairCanonical.of_eq e (canonical_prOwner h)
  extract_lets s2 s3 s4
  have h2 : s2.RegsCanonical := canonical_set _ _ (canonical_set _ _ h1)
  have h3 : s3.RegsCanonical := canonical_ite (canonical_prAbort h2) h2
  have h4 : s4.RegsCanonical := canonical_ite (canonical_prStart h3) h3
  exact .mk h4

theorem canonical_prDataWrite {v : Word} (h : s.RegsCanonical) : (s.prDataWrite v).RegsCanonical := canonical_ite h (canonical_prPush h)

theorem canonical_prClaim {level : Bool} (h : s.RegsCanonical) : (s.prClaim level).RegsCanonical := by
  unfold State.prClaim
  extract_lets _ _ s1
  have h1 : s1.RegsCanonical := canonical_setPr h
  exact canonical_ite (canonical_ite (canonical_set _ _ h1) (canonical_ite (canonical_set _ _ h1) h1))
    (canonical_ite (canonical_set _ _ h1) h1)

theorem canonical_prRim {cmd m : Nat} {act : State → State} (h : s.RegsCanonical)
    (hact : ∀ t, t.RegsCanonical → (act t).RegsCanonical) :
    (s.prRim cmd m act).RegsCanonical := by
  unfold State.prRim
  extract_lets s' s1
  have h' : s'.RegsCanonical := canonical_at_ h
  have h1 : s1.RegsCanonical := canonical_ite (hact _ h') h'
  exact canonical_ite h' (canonical_setPr h1)

theorem canonical_execPrStagingDone {t : Nat} {bad : Bool} (h : s.RegsCanonical) : OutCanonical (execPrStagingDone t bad s) := by
  unfold execPrStagingDone
  extract_lets s0
  have h0 : s0.RegsCanonical := canonical_at_ h
  refine .ite (.next h0) ?_
  refine .ite ?_ (.ite (.next (canonical_set _ _ h0)) (.next h0))
  exact .ite (.next (canonical_prReject h0)) (.next (canonical_set _ _ (canonical_flashTouch (canonical_setPr h0))))

theorem canonical_execPrAuthDone {t : Nat} (h : s.RegsCanonical) : OutCanonical (execPrAuthDone t s) := by
  unfold execPrAuthDone
  extract_lets s0
  have h0 : s0.RegsCanonical := canonical_at_ h
  exact .ite (.next h0) (.next (canonical_ite (canonical_set _ _ h0) (canonical_prReject h0)))

theorem canonical_queueDrop {p : Nat → Bool} (h : s.RegsCanonical) : (s.queueDrop p).RegsCanonical := h

theorem canonical_prHold {region : List Nat} (h : s.RegsCanonical) : (s.prHold region).RegsCanonical := by
  unfold State.prHold
  extract_lets _ s1 s2
  have h1 : s1.RegsCanonical := canonical_setPr h
  have h2 : s2.RegsCanonical := canonical_foldl (fun _ _ ht => canonical_holdTract ht) h1
  exact canonical_queueDrop h2

theorem canonical_execPrDecryptDone {t : Nat} (h : s.RegsCanonical) : OutCanonical (execPrDecryptDone t s) := by
  unfold execPrDecryptDone
  extract_lets s0
  have h0 : s0.RegsCanonical := canonical_at_ h
  refine .ite (.next h0) ?_
  split
  · exact .next (canonical_prReject h0)
  · split
    extract_lets s1
    have h1 : s1.RegsCanonical := canonical_setPr h0
    split
    · exact .next (canonical_prReject h0)
    · exact .next (canonical_prReject h0)
    · refine .ite (.next (canonical_prReject h0)) ?_
      split
      · exact .next (canonical_prReject h0)
      · exact .ite (.next (canonical_prReject h0)) (.ite (.next h0) (.next (canonical_set _ _ (canonical_prHold h1))))

theorem canonical_keyAlloc {k : KeyEntry} (h : s.RegsCanonical) : PairCanonical (s.keyAlloc k) := by
  unfold State.keyAlloc
  extract_lets
  split
  · exact .mk h
  · exact .mk h

theorem canonical_keyFree (h : s.RegsCanonical) : s.keyFree.RegsCanonical := by
  unfold State.keyFree
  extract_lets
  exact h

theorem canonical_prKeys {segs : List Nat} {keys : List KeyEntry} (h : s.RegsCanonical) : PairCanonical (s.prKeys segs keys) := by
  unfold State.prKeys
  refine .foldl (fun _ _ ha => ?_) (.mk h)
  split
  · split
    rename_i t _ e
    have ht : t.RegsCanonical := PairCanonical.of_eq e (canonical_keyAlloc ha)
    exact .mk ht
  · exact ha

theorem canonical_prWrite (h : s.RegsCanonical) : s.prWrite.RegsCanonical := by
  unfold State.prWrite
  extract_lets
  split
  rename_i s1 _ e
  have h1 : s1.RegsCanonical := PairCanonical.of_eq e (.ite (canonical_prKeys h) (.mk h))
  extract_lets s2
  have h2 : s2.RegsCanonical := by
    unfold s2
    refine canonical_foldl (fun _ _ ht => ?_) h1
    split
    · extract_lets t1
      have ht1 : t1.RegsCanonical := canonical_putFrame ht
      exact canonical_setFrameRec ht1
    · exact ht
  exact canonical_keyFree (canonical_arbitrate h2)

theorem canonical_releaseTracts {l : List Nat} (h : s.RegsCanonical) : (s.releaseTracts l).RegsCanonical :=
  canonical_foldl (fun _ _ ht => canonical_ite (canonical_freeTract ht) ht) h

theorem canonical_execPrApplyDone {t : Nat} (h : s.RegsCanonical) : OutCanonical (execPrApplyDone t s) := by
  unfold execPrApplyDone
  extract_lets s0 s1 s2 s3
  have h0 : s0.RegsCanonical := canonical_at_ h
  have h1 : s1.RegsCanonical := canonical_releaseTracts (canonical_prWrite h0)
  have h2 : s2.RegsCanonical := canonical_set _ _ (canonical_set _ _ h1)
  have h3 : s3.RegsCanonical := canonical_raise _ (canonical_wrap h2)
  exact .ite (.next h0) (.next (canonical_setPr h3))

theorem canonical_scanTake (h : s.RegsCanonical) : PairCanonical s.scanTake := by
  unfold State.scanTake
  extract_lets _ _ _ s1
  have h1 : s1.RegsCanonical := canonical_wrap h
  split
  · exact .mk h
  · split
    · exact .mk h
    · split
      · exact .mk h1
      · exact .mk h1

theorem canonical_unrepairable {n : Nat} (h : s.RegsCanonical) : (s.unrepairable n).RegsCanonical :=
  canonical_raise _ (canonical_setFrameRec h)

theorem canonical_execScanFrameRead {t : Nat} {goldenBad : Bool} (h : s.RegsCanonical) :
    OutCanonical (execScanFrameRead t goldenBad s) := by
  unfold execScanFrameRead
  extract_lets s0
  have h0 : s0.RegsCanonical := canonical_at_ h
  refine .ite (.next h0) ?_
  split
  · next s1 e =>
      have h1 : s1.RegsCanonical := PairCanonical.of_eq e (canonical_scanTake h0)
      exact .next h1
  · next s1' _ e' =>
      have h1' : s1'.RegsCanonical := PairCanonical.of_eq e' (canonical_scanTake h0)
      extract_lets _ s2
      have h2 : s2.RegsCanonical := canonical_setFrameRec h1'
      refine .ite (.next (canonical_unrepairable (canonical_eccInternal h1'))) ?_
      refine .ite (.next h1') ?_
      exact .ite (.next (canonical_unrepairable h1')) (.ite (.next h1') (.ite (.next (canonical_count _ h1')) (.next h2)))

theorem canonical_queuePop (h : s.RegsCanonical) : s.queuePop.RegsCanonical := h

theorem canonical_repairFailed {n : Nat} (h : s.RegsCanonical) : (s.repairFailed n).RegsCanonical := by
  unfold State.repairFailed
  extract_lets _ s1
  have h1 : s1.RegsCanonical := canonical_raise _ (canonical_count _ (canonical_setFrameRec (canonical_queuePop h)))
  exact canonical_ite (canonical_unrepairable h1) h1

theorem canonical_repairWrite {n : Nat} {p : List Nat} (h : s.RegsCanonical) : (s.repairWrite n p).RegsCanonical := by
  unfold State.repairWrite
  extract_lets _ _ s1 s2
  have h1 : s1.RegsCanonical := canonical_setFrameRec (canonical_arbitrate (canonical_writeFrame (canonical_queuePop h)))
  have h2 : s2.RegsCanonical := canonical_set _ _ (canonical_set _ _ h1)
  exact canonical_raise _ (canonical_count _ h2)

theorem canonical_execFrameRepair {t : Nat} {bad : Bool} (h : s.RegsCanonical) : OutCanonical (execFrameRepair t bad s) := by
  unfold execFrameRepair
  extract_lets s0
  have h0 : s0.RegsCanonical := canonical_at_ h
  split
  · exact .next h0
  · extract_lets _ _ _ s1'
    have h1' : s1'.RegsCanonical := canonical_ite h0 (canonical_flashTouch h0)
    refine .ite (.next (canonical_queuePop h0)) ?_
    refine .ite (.next (canonical_emnData h0)) ?_
    refine .ite (.next h0) ?_
    split
    · exact .next (canonical_repairWrite h1')
    · exact .next (canonical_repairFailed h1')

theorem canonical_execRepairChainTimeout {t : Nat} (h : s.RegsCanonical) : OutCanonical (execRepairChainTimeout t s) := by
  unfold execRepairChainTimeout
  extract_lets s0
  have h0 : s0.RegsCanonical := canonical_at_ h
  split
  · exact .ite (.next (canonical_repairFailed h0)) (.next h0)
  · exact .next h0

theorem canonical_restoreRec {bad : Bool} {a : State × Bool × List (List Nat)} {k : Nat} (ha : PairCanonical a) :
    PairCanonical (State.restoreRec bad a k) := by
  unfold State.restoreRec
  extract_lets
  split
  split
  · extract_lets t
    have ht : t.RegsCanonical := canonical_setFrameRec (canonical_putFrame ha)
    exact .mk (canonical_ite ht (canonical_arbitrate ht))
  · exact .mk ha

theorem canonical_execQuadrantRestoreDone {q : Fin 4} {t : Nat} {bad : Bool} {fetched : List (List (BitVec 8))} (h : s.RegsCanonical) :
    OutCanonical (execQuadrantRestoreDone q t bad fetched s) := by
  unfold execQuadrantRestoreDone
  extract_lets s0
  have h0 : s0.RegsCanonical := canonical_at_ h
  refine .ite (.next h0) ?_
  split
  rename_i s1 _ _ e
  have h1 : s1.RegsCanonical := PairCanonical.of_eq e (.foldl (fun _ _ ht => canonical_restoreRec ht) (.mk (canonical_flashTouch h0)))
  extract_lets _ _ s3
  have h3 : s3.RegsCanonical := canonical_ite (canonical_set _ _ h1) h1
  exact .ite (.next (canonical_raise _ (canonical_releaseTracts h3))) (.next (canonical_set _ _ (canonical_set _ _ h1)))

theorem canonical_restoreWrite {v : Word} (h : s.RegsCanonical) : (s.restoreWrite v).RegsCanonical := by
  unfold State.restoreWrite
  extract_lets s1 _ _ _ _ s3
  have h1 : s1.RegsCanonical := canonical_ite (canonical_set _ _ h) h
  have h3 : s3.RegsCanonical := canonical_ite (canonical_set _ _ h1) h1
  exact canonical_ite (canonical_ite (canonical_releaseTracts (canonical_set _ _ h3)) h1) h1

/-! ### Machine/Modes.lean -/

theorem canonical_resetRegs {cause : Nat} : (s.resetRegs cause).RegsCanonical := by
  unfold State.resetRegs
  extract_lets _ _ _ _ s1 s2 s3
  have h1 : s1.RegsCanonical := canonical_set _ _ (canonical_wr _ _ rfl)
  have h2 : s2.RegsCanonical := canonical_ite h1 (canonical_set _ _ h1)
  have h3 : s3.RegsCanonical := canonical_ite h2 (canonical_set _ _ h2)
  exact canonical_set _ _ (canonical_set _ _ (canonical_set _ _ h3))

theorem canonical_loadBands (h : s.RegsCanonical) : s.loadBands.RegsCanonical := by
  unfold State.loadBands
  extract_lets _ _ s1
  have h1 : s1.RegsCanonical := canonical_foldl (fun _ _ hu => canonical_wr _ _ hu) h
  exact canonical_ite (canonical_set _ _ h1) h1

theorem canonical_enterReset {cause : Nat} {down : Bool} : (s.enterReset cause down).RegsCanonical := by
  unfold State.enterReset
  extract_lets
  exact canonical_ite canonical_resetRegs (canonical_loadBands canonical_resetRegs)

theorem canonical_lanesOff (h : s.RegsCanonical) : s.lanesOff.RegsCanonical := canonical_foldl (fun _ _ ht => canonical_laneOff ht) h

theorem canonical_dropSession {x : Nat} (h : s.RegsCanonical) : (s.dropSession x).RegsCanonical := by
  unfold State.dropSession
  extract_lets _ s1
  have h1 : s1.RegsCanonical := canonical_set _ _ (canonical_setSession (canonical_wr _ _ (canonical_wr _ _ (canonical_wr _ _ h))))
  exact canonical_ite (canonical_raise _ h1) h1

theorem canonical_stopWheel (h : s.RegsCanonical) : s.stopWheel.RegsCanonical := canonical_foldl (fun _ _ ht => canonical_setDom ht) h

theorem canonical_quietUnits (h : s.RegsCanonical) : s.quietUnits.RegsCanonical := by
  unfold State.quietUnits
  extract_lets s' s1 _ _ _ s3
  have h' : s'.RegsCanonical := canonical_ite (canonical_prReject h) (canonical_ite (canonical_set _ _ h) h)
  have h1 : s1.RegsCanonical := canonical_foldl (fun _ _ ht => canonical_dropSession ht) h'
  have h3 : s3.RegsCanonical := canonical_set _ _ (canonical_set _ _
    (canonical_stopWheel (canonical_globalSetReset (canonical_wr _ _ (canonical_wr _ _ (canonical_endSlice h1))))))
  exact canonical_ite (canonical_set _ _ (canonical_set _ _ (canonical_set _ _ h3))) h3

theorem canonical_quarantineNow {cause : Nat} (h : s.RegsCanonical) : (s.quarantineNow cause).RegsCanonical := by
  unfold State.quarantineNow
  extract_lets s1
  have h1 : s1.RegsCanonical := canonical_quietUnits (canonical_lanesOff (canonical_changeMode h))
  exact canonical_foldl (fun _ _ ht => canonical_wakeDomain ht) h1

theorem canonical_enterQuarantine {cause : Nat} (h : s.RegsCanonical) : (s.enterQuarantine cause).RegsCanonical := by
  unfold State.enterQuarantine
  extract_lets s1
  have h1 : s1.RegsCanonical := canonical_ite (canonical_refuseRequest h) h
  exact canonical_ite h (canonical_ite (canonical_quarantineNow h) h1)

theorem canonical_takeRestart (h : s.RegsCanonical) : s.takeRestart.RegsCanonical := by
  unfold State.takeRestart
  extract_lets _ s1
  have h1 : s1.RegsCanonical := canonical_ite (canonical_refuseRequest h) h
  exact canonical_ite canonical_enterReset h1

theorem canonical_request {req : Nat} {minimal : Bool} (h : s.RegsCanonical) : PairCanonical (s.request req minimal) := by
  unfold State.request
  extract_lets no s1
  have h1 : s1.RegsCanonical := canonical_clearHold h
  have hno : PairCanonical no := .mk (canonical_refuseRequest h)
  refine .ite (.mk (canonical_refuseRequest (canonical_ite (canonical_clearHold h) h))) ?_
  refine .ite ?_ ?_
  · refine .ite ?_ (.ite (.ite (.mk (canonical_enterArmed h1)) (.mk (canonical_refuseRequest h1))) hno)
    exact .mk (canonical_ite (canonical_leaveStopped (canonical_enterArmed h)) (canonical_enterArmed h))
  · exact .ite (.ite (.mk h) hno) (.ite (.ite (.mk (canonical_raiseHold h)) hno) (.ite (.mk (canonical_takeRestart h)) hno))

theorem canonical_modeCtlWrite {v : Word} (h : s.RegsCanonical) : PairCanonical (s.modeCtlWrite v) :=
  .ite (.mk (canonical_request h)) (.mk h)

theorem canonical_execArmTakeEffect {f : Nat} (h : s.RegsCanonical) : OutCanonical (execArmTakeEffect f s) := by
  unfold execArmTakeEffect
  extract_lets s1 s2
  have h1 : s1.RegsCanonical := canonical_at_ h
  have h2 : s2.RegsCanonical := canonical_changeMode h1
  split
  · exact .ite (.next h2) (.next h)
  · exact .next h

theorem canonical_execSafeBurstEnd (h : s.RegsCanonical) : OutCanonical (execSafeBurstEnd s) := by
  unfold execSafeBurstEnd
  split
  · extract_lets s1
    have h1 : s1.RegsCanonical := canonical_at_ h
    exact .next (canonical_ite (canonical_quarantineNow h1) canonical_enterReset)
  · exact .next h

theorem canonical_execResetPin {ns : Nat} (h : s.RegsCanonical) : OutCanonical (execResetPin ns s) := by
  unfold execResetPin
  exact .ite (.next canonical_enterReset) (.ite (.next h) (.ite (.next canonical_enterReset) (.next (canonical_drawn h))))

theorem canonical_loadCal (h : s.RegsCanonical) : s.loadCal.RegsCanonical := by
  unfold State.loadCal
  extract_lets
  exact canonical_ite (canonical_raise _ (canonical_set _ _ (canonical_foldl (fun _ _ hu => canonical_wr _ _ hu) h)))
    (canonical_set _ _ (canonical_foldl (fun _ _ hu => canonical_wr _ _ hu) h))

theorem canonical_loadSec (h : s.RegsCanonical) : s.loadSec.RegsCanonical := by
  unfold State.loadSec
  extract_lets _ _ _ s1 s2
  have h1 : s1.RegsCanonical := canonical_set _ _ (canonical_set _ _ (canonical_set _ _ (canonical_set _ _ h)))
  have h2 : s2.RegsCanonical := canonical_wr _ _ h1
  exact canonical_ite (canonical_raise _ h2) h2

theorem canonical_startLock {x : Nat} (h : s.RegsCanonical) : (s.startLock x).RegsCanonical := by
  unfold State.startLock
  extract_lets
  refine canonical_ite h ?_
  split
  · exact canonical_set _ _ h
  · exact canonical_set _ _ (canonical_set _ _ (canonical_set _ _ (canonical_setPll h)))

theorem canonical_startRef (h : s.RegsCanonical) : s.startRef.RegsCanonical := canonical_ite (canonical_set _ _ (canonical_drawn h)) h

theorem canonical_leaveReset {chainUp pullUp : Bool} {banks : Nat} (h : s.RegsCanonical) :
    (s.leaveReset chainUp pullUp banks).RegsCanonical := by
  unfold State.leaveReset
  extract_lets _ _ s2 s3 s4
  have h2 : s2.RegsCanonical := canonical_loadSec (canonical_loadCal (canonical_standBy h))
  have h3 : s3.RegsCanonical := canonical_ite (canonical_raise _ h2) h2
  have h4 : s4.RegsCanonical := canonical_wr _ _ (canonical_set _ _ (canonical_set _ _ (canonical_journalScan h3)))
  exact canonical_changeMode (canonical_takeHead h4)

theorem canonical_execResetExit {chainUp pullUp : Bool} {banks : List (Fin 3)} {unc : List (Fin 2048)} (h : s.RegsCanonical) :
    OutCanonical (execResetExit chainUp pullUp banks unc s) := by
  unfold execResetExit
  extract_lets _ _ s1
  have h1 : s1.RegsCanonical := canonical_startLock (canonical_startLock (canonical_startRef h))
  exact .ite (.ite (.next (canonical_leaveReset h1)) (.next h1)) (.next h)

/-! ### Machine/Boot.lean -/

theorem canonical_setBoot {b : BootPass} (h : s.RegsCanonical) : (s.setBoot b).RegsCanonical := h

theorem canonical_report {code : Nat} {data : List Nat} (h : s.RegsCanonical) : (s.report code data).RegsCanonical :=
  canonical_ite (canonical_emnData h) h

theorem canonical_rejectPass {code off : Nat} (h : s.RegsCanonical) : (s.rejectPass code off).RegsCanonical := by
  unfold State.rejectPass
  extract_lets s1 s2 s3 s4 s3'
  have h1 : s1.RegsCanonical := canonical_report h
  have h2 : s2.RegsCanonical := canonical_wr _ _ h1
  have h3 : s3.RegsCanonical := canonical_ite h2 (canonical_changeMode (canonical_clearImage h2))
  have h4 : s4.RegsCanonical := canonical_report (canonical_set _ _ h3)
  have h3' : s3'.RegsCanonical := canonical_changeMode (canonical_clearImage (canonical_set _ _ h2))
  exact canonical_ite (canonical_enterQuarantine (canonical_setBoot h4)) (canonical_setBoot h3')

theorem canonical_acceptVerify {hash : List Nat} (h : s.RegsCanonical) : (s.acceptVerify hash).RegsCanonical := by
  unfold State.acceptVerify
  extract_lets _ s1 s2
  have h1 : s1.RegsCanonical := canonical_setBoot h
  have h2 : s2.RegsCanonical := canonical_report h1
  exact canonical_ite (canonical_changeMode h2) h2

theorem canonical_startFields (h : s.RegsCanonical) : s.startFields.RegsCanonical := by
  unfold State.startFields
  extract_lets s2
  have h2 : s2.RegsCanonical :=
    canonical_clkoutsStart (canonical_pwmSync (canonical_foldl (fun _ _ hu => canonical_trimCheck hu) (canonical_startGcl h)))
  exact canonical_ite h2 (canonical_ite h2 (canonical_startT h2))

theorem canonical_finishLoad {h : List Nat} {slot base : Nat} (hs : s.RegsCanonical) : (s.finishLoad h slot base).RegsCanonical := by
  unfold State.finishLoad
  extract_lets _ _ s1 s2 s3 s4 src _ _ s6 s7
  have h1 : s1.RegsCanonical := canonical_wr _ _ (canonical_wr _ _ (canonical_wr _ _ hs))
  have h2 : s2.RegsCanonical := canonical_set _ _ (canonical_set _ _ (canonical_set _ _ (canonical_set _ _ h1)))
  have h3 : s3.RegsCanonical := canonical_ite (canonical_set _ _ (canonical_set _ _ h2)) h2
  have h4 : s4.RegsCanonical := canonical_ite (canonical_foldl (fun _ _ hu => canonical_bandWrite hu) h3) h3
  have hsrc : src.RegsCanonical := canonical_setBoot h4
  have h6 : s6.RegsCanonical := canonical_changeMode (canonical_startFields hsrc)
  have h7 : s7.RegsCanonical := canonical_foldl (fun _ _ hu => canonical_startEngine hu) h6
  exact canonical_report h7

theorem canonical_judgeLoad {bytes : List Nat} {bad : Option Nat} {room slot base : Nat} {pos : Nat → Bool} {chain : Bool}
    (h : s.RegsCanonical)
    {t : State} (e : s.judgeLoad bytes bad room pos chain slot base = some t) : t.RegsCanonical := by
  unfold State.judgeLoad at e
  extract_lets _ r at e
  have hr : (s.writePass chain base r.1).RegsCanonical := canonical_writePass h
  split at e
  · cases e
    exact canonical_rejectPass h
  · split at e
    · cases e
    · cases e
      exact canonical_rejectPass hr
    · cases e
      exact canonical_finishLoad hr

theorem canonical_execVerifyPassDone {t : Nat} {bad : Option Nat} (h : s.RegsCanonical) : OutCanonical (execVerifyPassDone t bad s) := by
  unfold execVerifyPassDone
  extract_lets s'
  have h' : s'.RegsCanonical := canonical_at_ h
  refine .ite (.next h') ?_
  split
  · exact .next (canonical_rejectPass h')
  · extract_lets
    split
    · exact .next (canonical_acceptVerify h')
    · exact .next (canonical_rejectPass h')
    · exact .next (canonical_rejectPass h')

theorem canonical_execLoadPassDone {t : Nat} {bad : Option Nat} (h : s.RegsCanonical) : OutCanonical (execLoadPassDone t bad s) := by
  unfold execLoadPassDone
  extract_lets
  have ht : (s.at_ t).RegsCanonical := canonical_at_ h
  refine .ite (.next ht) ?_
  split
  · exact .next (canonical_rejectPass ht)
  · exact .next (canonical_getD (canonical_judgeLoad ht) (canonical_rejectPass ht))

theorem canonical_execPassTimeout {t read : Nat} (h : s.RegsCanonical) : OutCanonical (execPassTimeout t read s) := by
  unfold execPassTimeout
  extract_lets s'
  have h' : s'.RegsCanonical := canonical_at_ h
  exact .ite (.next (canonical_rejectPass h')) (.next h')

theorem canonical_cfgTake {op : Nat} (h : s.RegsCanonical) : OptCanonical (s.cfgTake op) := by
  unfold State.cfgTake
  split
  · next s1 _ e =>
      have h1 : s1.RegsCanonical := OptCanonical.of_eq e (canonical_inboxTake h)
      exact .ite (.some (.mk h1)) .none
  · exact .none

theorem canonical_execReadyReportSend {t : Nat} (h : s.RegsCanonical) : OutCanonical (execReadyReportSend t s) := by
  unfold execReadyReportSend
  extract_lets s'
  have h' : s'.RegsCanonical := canonical_at_ h
  exact .ite (.next (canonical_report h')) (.next h')

theorem canonical_execCfgBegin {t : Nat} (h : s.RegsCanonical) : OutCanonical (execCfgBegin t s) := by
  unfold execCfgBegin
  split
  · exact .next h
  · next s' _ e =>
      have h' : s'.RegsCanonical := OptCanonical.of_eq e (canonical_cfgTake (canonical_at_ h))
      extract_lets
      exact .ite (.next (canonical_setBoot h')) (.next h')

theorem canonical_judgeStream {atEnd : Bool} (h : s.RegsCanonical) : (s.judgeStream atEnd).RegsCanonical := by
  unfold State.judgeStream
  extract_lets _ short
  have hshort : short.RegsCanonical := canonical_rejectPass h
  refine canonical_ite hshort (canonical_ite ?_ ?_)
  · split
    · next s1 e => exact canonical_ite (canonical_judgeLoad h e) h
    · exact canonical_ite hshort h
  · split
    · exact canonical_rejectPass h
    · exact canonical_ite (canonical_acceptVerify h) h
    · exact canonical_ite hshort h

theorem canonical_execCfgData {t : Nat} (h : s.RegsCanonical) : OutCanonical (execCfgData t s) := by
  unfold execCfgData
  split
  · exact .next h
  · next s' _ e =>
      have h' : s'.RegsCanonical := OptCanonical.of_eq e (canonical_cfgTake (canonical_at_ h))
      extract_lets
      refine .ite (.next h') ?_
      exact .ite (.next (canonical_rejectPass h')) (.ite (.next (canonical_rejectPass h'))
        (.next (canonical_judgeStream (canonical_setBoot h'))))

theorem canonical_execCfgEnd {t : Nat} (h : s.RegsCanonical) : OutCanonical (execCfgEnd t s) := by
  unfold execCfgEnd
  split
  · exact .next h
  · next s' _ e =>
      have h' : s'.RegsCanonical := OptCanonical.of_eq e (canonical_cfgTake (canonical_at_ h))
      exact .ite (.next h') (.ite (.next (canonical_rejectPass h')) (.next (canonical_judgeStream h')))

theorem canonical_execCfgAbort {t : Nat} (h : s.RegsCanonical) : OutCanonical (execCfgAbort t s) := by
  unfold execCfgAbort
  split
  · exact .next h
  · next s' _ e =>
      have h' : s'.RegsCanonical := OptCanonical.of_eq e (canonical_cfgTake (canonical_at_ h))
      exact .ite (.next (canonical_rejectPass h')) (.next h')

theorem canonical_execCfgRepairData {t : Nat} (h : s.RegsCanonical) : OutCanonical (execCfgRepairData t s) := by
  unfold execCfgRepairData
  split
  · exact .next h
  · next s' _ e =>
      have h' : s'.RegsCanonical := OptCanonical.of_eq e (canonical_cfgTake (canonical_at_ h))
      extract_lets
      exact .ite (.next h') (.next h')

theorem canonical_setChain {c : ChainStream} (h : s.RegsCanonical) : (s.setChain c).RegsCanonical := h

theorem canonical_chainFail {p result : Nat} (h : s.RegsCanonical) : (s.chainFail p result).RegsCanonical :=
  canonical_raise _ (canonical_set _ _ h)

theorem canonical_beginPass {slot : Nat} {m : Nat × Nat} {golden second : Bool} {dst : Nat} {mask : List Nat} (h : s.RegsCanonical) :
    (s.beginPass slot m golden second dst mask).RegsCanonical := by
  unfold State.beginPass
  extract_lets _ s1 _ s2 s3 s4
  have h1 : s1.RegsCanonical := canonical_setChain h
  have h2 : s2.RegsCanonical := canonical_set _ _ (canonical_set _ _ (canonical_set _ _ h1))
  have h3 : s3.RegsCanonical := canonical_set _ _ h2
  have h4 : s4.RegsCanonical := canonical_foldl (fun _ _ hu => canonical_set _ _ hu) h3
  exact canonical_emnData h4

theorem canonical_serveGolden {p : Nat} (h : s.RegsCanonical) : (s.serveGolden p).RegsCanonical := by
  unfold State.serveGolden
  split
  · exact canonical_beginPass h
  · exact canonical_chainFail h

theorem canonical_serveReady (h : s.RegsCanonical) : s.serveReady.RegsCanonical := by
  unfold State.serveReady
  extract_lets
  split
  · exact h
  · extract_lets s1
    have h1 : s1.RegsCanonical := canonical_setChain h
    split
    · extract_lets
      exact canonical_beginPass (canonical_setChain h)
    · exact canonical_serveGolden (canonical_ite h1 (canonical_set _ _ h1))

theorem canonical_endPass (h : s.RegsCanonical) : s.endPass.RegsCanonical := by
  unfold State.endPass
  extract_lets _ s1
  have h1 : s1.RegsCanonical := canonical_set _ _ (canonical_setChain h)
  exact canonical_ite (canonical_ite (canonical_raise _ (canonical_setChain h1)) h1) h

theorem canonical_dropPos {p : Nat} (h : s.RegsCanonical) : (s.dropPos p).RegsCanonical := canonical_set _ _ (canonical_setChain h)

theorem canonical_passFailed {p : Nat} (h : s.RegsCanonical) : (s.passFailed p).RegsCanonical := by
  unfold State.passFailed
  extract_lets s1
  have h1 : s1.RegsCanonical := canonical_dropPos h
  exact canonical_endPass (canonical_ite (canonical_chainFail h1) (canonical_setChain h1))

theorem canonical_abortPos {p : Nat} (h : s.RegsCanonical) : (s.abortPos p).RegsCanonical :=
  canonical_passFailed (canonical_set _ _ (canonical_emnData h))

theorem canonical_execChainPassSend {t : Nat} (h : s.RegsCanonical) : OutCanonical (execChainPassSend t s) := by
  unfold execChainPassSend
  extract_lets s' _ _ s1
  have h' : s'.RegsCanonical := canonical_at_ h
  have h1 : s1.RegsCanonical := canonical_flashTouch h'
  refine .ite (.next h') ?_
  refine .ite ?_ ?_
  · split
    · exact .next h'
    · extract_lets _ s2
      have h2 : s2.RegsCanonical := canonical_setChain h1
      exact .ite (.next (canonical_emnData h2)) (.next (canonical_emnData (canonical_setChain h')))
  · refine .ite (.next (canonical_beginPass h')) ?_
    split
    · exact .next (canonical_serveGolden (canonical_setChain h'))
    · exact .ite (.next h') (.next (canonical_serveReady h'))

theorem canonical_execChainAckStall {t : Nat} (h : s.RegsCanonical) : OutCanonical (execChainAckStall t s) := by
  unfold execChainAckStall
  extract_lets s'
  have h' : s'.RegsCanonical := canonical_at_ h
  exact .ite (.next (canonical_foldl (fun _ _ hu => canonical_abortPos hu) h')) (.next h')

theorem canonical_execChainReportTimeout {p : Fin 16} {t : Nat} (h : s.RegsCanonical) : OutCanonical (execChainReportTimeout p t s) := by
  unfold execChainReportTimeout
  extract_lets s'
  have h' : s'.RegsCanonical := canonical_at_ h
  split
  · exact .ite (.next (canonical_abortPos h')) (.next h')
  · exact .next h'

theorem canonical_loadReport {p code : Nat} {data : List Nat} (h : s.RegsCanonical) : (s.loadReport p code data).RegsCanonical := by
  unfold State.loadReport
  extract_lets _ _ s' _ s1 s2 s1' s2'
  have h' : s'.RegsCanonical := canonical_set _ _ h
  have h1 : s1.RegsCanonical := canonical_ite h' (canonical_set _ _ h')
  have h2 : s2.RegsCanonical := canonical_raise _ h1
  have h1' : s1'.RegsCanonical := canonical_raise _ h'
  have h2' : s2'.RegsCanonical := canonical_ite h1' (canonical_chainFail h1')
  split
  · exact canonical_ite h' (canonical_setChain (canonical_set _ _ h'))
  · exact canonical_ite (canonical_endPass (canonical_setChain (canonical_dropPos h'))) h'
  · exact canonical_ite (canonical_passFailed h') h'
  · exact canonical_ite (canonical_endPass (canonical_dropPos h2)) h2
  · exact canonical_ite (canonical_endPass (canonical_dropPos h2')) h2'
  · exact h'

theorem canonical_execEmnReportRx (h : s.RegsCanonical) : OutCanonical (execEmnReportRx s) := by
  unfold execEmnReportRx
  split
  · exact .next h
  · next s' _ e =>
      have h' : s'.RegsCanonical := OptCanonical.of_eq e (canonical_inboxTake h)
      extract_lets s1
      have h1 : s1.RegsCanonical := canonical_raise _ h'
      refine .ite (.next h') ?_
      exact .ite (.next (canonical_set _ _ h1)) (.ite (.next (canonical_set _ _ h1)) (.ite (.next (canonical_loadReport h1)) (.next h1)))

theorem canonical_execCfgRepairReq {t : Nat} (h : s.RegsCanonical) : OutCanonical (execCfgRepairReq t s) := by
  unfold execCfgRepairReq
  split
  · exact .next h
  · next s' _ e =>
      have h' : s'.RegsCanonical := OptCanonical.of_eq e (canonical_cfgTake (canonical_at_ h))
      extract_lets _ _ _ _ s1
      have h1 : s1.RegsCanonical := canonical_flashTouch h'
      refine .ite (.next h') ?_
      split
      · exact .next h'
      · exact .next (canonical_foldl (fun _ _ hu => canonical_emnData hu) h1)

theorem canonical_updCtlWrite {v : Word} {jfails : Nat} (h : s.RegsCanonical) : (s.updCtlWrite v jfails).RegsCanonical := by
  unfold State.updCtlWrite
  extract_lets s1
  have h1 : s1.RegsCanonical := canonical_ite (canonical_set _ _ (canonical_set _ _ (canonical_set _ _ (canonical_set _ _ h)))) h
  exact canonical_ite (canonical_promote h1) h1

theorem canonical_execUpdDone {t : Nat} {bad : Option Nat} (h : s.RegsCanonical) : OutCanonical (execUpdDone t bad s) := by
  unfold execUpdDone
  extract_lets s' s1
  have h' : s'.RegsCanonical := canonical_at_ h
  have h1 : s1.RegsCanonical := canonical_set _ _ h'
  refine .ite (.next h') ?_
  split
  · exact .next (canonical_raise _ (canonical_wr _ _ (canonical_set _ _ h1)))
  · exact .next (canonical_raise _ (canonical_wr _ _ (canonical_set _ _ (canonical_set _ _ h1))))

/-! ### Machine/Power.lean -/

theorem canonical_refuseDomain {d cls idx : Nat} (h : s.RegsCanonical) : (s.refuseDomain d cls idx).RegsCanonical :=
  canonical_raise _ (canonical_set _ _ (canonical_set _ _ (canonical_set _ _ (canonical_count _ h))))

theorem canonical_scrubLeave {d : Nat} (h : s.RegsCanonical) : (s.scrubLeave d).RegsCanonical := canonical_ite h h

theorem canonical_domRequest {d req : Nat} (h : s.RegsCanonical) : (s.domRequest d req).RegsCanonical := by
  unfold State.domRequest
  extract_lets _ _ s1 s1' s2
  have h1 : s1.RegsCanonical := canonical_setPwrDom h
  have h1' : s1'.RegsCanonical := canonical_setPwrDom h
  have h2 : s2.RegsCanonical := canonical_setPwrState (canonical_scrubLeave (canonical_setPwrDom h1))
  refine canonical_ite (canonical_setPwrDom h) ?_
  refine canonical_ite (canonical_ite h1 (canonical_wakeDomain h1)) ?_
  refine canonical_ite h ?_
  split
  · exact canonical_ite (canonical_sealRestore (canonical_drawn h1')) h1'
  · refine canonical_ite (canonical_refuseDomain h1) ?_
    split
    · exact canonical_refuseDomain h1
    · exact canonical_ite (canonical_adcStop h2) h2

theorem canonical_settle {d : Nat} (h : s.RegsCanonical) : (s.settle d).RegsCanonical := by
  unfold State.settle
  extract_lets
  refine canonical_ite (canonical_wakeDomain (canonical_setPwrDom h)) ?_
  split
  · exact canonical_domRequest (canonical_setPwrDom h)
  · exact h

theorem canonical_dropMem {lo hi : Nat} (h : s.RegsCanonical) : (s.dropMem lo hi).RegsCanonical := h

theorem canonical_loseDomain {d : Nat} (h : s.RegsCanonical) : (s.loseDomain d).RegsCanonical := by
  unfold State.loseDomain
  extract_lets s0 _ _ _ _ _ s1' _ s1'' _ _ s1''' s2
  have h0 : s0.RegsCanonical := Sparse.wf_filter _ h
  have h1' : s1'.RegsCanonical := canonical_set _ _ (canonical_dropMem h0)
  have h1'' : s1''.RegsCanonical := canonical_set _ _ (canonical_dropMem h0)
  have h1''' : s1'''.RegsCanonical := canonical_set _ _ (canonical_set _ _ h0)
  have h2 : s2.RegsCanonical := canonical_raise _ h1'''
  refine canonical_ite (canonical_queueDrop h0) ?_
  refine canonical_ite h1' ?_
  refine canonical_ite h1'' ?_
  refine canonical_ite (canonical_dropMem h0) ?_
  refine canonical_ite h0 ?_
  refine canonical_ite h0 ?_
  exact canonical_ite h0 (canonical_ite (canonical_ite (canonical_ite h2 (canonical_clockLost h2)) h1''') h0)

theorem canonical_execDomainEntryDone {d : Fin 23} {t : Nat} (h : s.RegsCanonical) : OutCanonical (execDomainEntryDone d t s) := by
  unfold execDomainEntryDone
  extract_lets s0 _ _ s2 s3
  have h0 : s0.RegsCanonical := canonical_at_ h
  have h2 : s2.RegsCanonical := canonical_ite (canonical_loseDomain h0) h0
  have h3 : s3.RegsCanonical := canonical_raise _ (canonical_wrap (canonical_setPwrState h2))
  exact .ite (.next h0) (.next (canonical_settle (canonical_setPwrDom h3)))

theorem canonical_execDomainEntryAbort {d : Fin 23} {step : Fin 5} {t : Nat} (h : s.RegsCanonical) :
    OutCanonical (execDomainEntryAbort d step t s) := by
  unfold execDomainEntryAbort
  extract_lets s0 _ _ s1 s2
  have h0 : s0.RegsCanonical := canonical_at_ h
  have h1 : s1.RegsCanonical := canonical_set _ _ (canonical_set _ _
    (canonical_count _ (canonical_ite (canonical_adcResume (canonical_setPwrState h0)) (canonical_setPwrState h0))))
  have h2 : s2.RegsCanonical := canonical_raise _ (canonical_set _ _ h1)
  exact .ite (.next h0) (.next (canonical_settle (canonical_setPwrDom h2)))

theorem canonical_execDomainWake {d : Fin 23} {t : Nat} (h : s.RegsCanonical) : OutCanonical (execDomainWake d t s) := by
  unfold execDomainWake
  extract_lets s0
  have h0 : s0.RegsCanonical := canonical_at_ h
  exact .next (canonical_ite h0 (canonical_wakeDomain h0))

theorem canonical_domainUp {d : Nat} (h : s.RegsCanonical) : (s.domainUp d).RegsCanonical := by
  unfold State.domainUp
  extract_lets _ _ s1 s2 _ s3 s4
  have h1 : s1.RegsCanonical := canonical_setPwrDom (canonical_setPwrState h)
  have h2 : s2.RegsCanonical := canonical_ite (canonical_foldl (fun _ _ ht => canonical_wr _ _ ht) h1) h1
  have h3 : s3.RegsCanonical := canonical_ite (canonical_ite h2 h2)
    (canonical_ite (canonical_ite (canonical_takeHead (canonical_startGcl h2)) h2)
    (canonical_ite (canonical_foldl (fun _ _ ht => canonical_setDrone ht) h2)
    (canonical_ite (canonical_ite (canonical_adcResume h2) h2) h2)))
  have h4 : s4.RegsCanonical := canonical_ite h3 (canonical_clearHold h3)
  exact canonical_raise _ h4

theorem canonical_wakeFailed {d cause : Nat} (h : s.RegsCanonical) : (s.wakeFailed d cause).RegsCanonical := by
  unfold State.wakeFailed
  extract_lets _ s1 _ s2 s3
  have h1 : s1.RegsCanonical := canonical_setPwrState h
  have h2 : s2.RegsCanonical := canonical_count _ (canonical_setPwrDom h1)
  have h3 : s3.RegsCanonical := canonical_raise _ (canonical_set _ _ (canonical_set _ _ h2))
  exact canonical_ite (canonical_setPwrDom h1) (canonical_settle (canonical_ite (canonical_raiseHold h3) h3))

theorem canonical_execWakeRetry {d : Fin 23} {t : Nat} (h : s.RegsCanonical) : OutCanonical (execWakeRetry d t s) := by
  unfold execWakeRetry
  extract_lets s0
  have h0 : s0.RegsCanonical := canonical_at_ h
  exact .ite (.next (canonical_setPwrState (canonical_setPwrDom h0))) (.next h0)

theorem canonical_setSupply {x : Supply} (h : s.RegsCanonical) : (s.setSupply x).RegsCanonical := h

theorem canonical_railRecord {kind rail : Nat} (h : s.RegsCanonical) : (s.railRecord kind rail).RegsCanonical :=
  canonical_set _ _ (canonical_set _ _ h)

theorem canonical_startRails (h : s.RegsCanonical) : s.startRails.RegsCanonical := by
  unfold State.startRails
  extract_lets _ s1
  have h1 : s1.RegsCanonical := canonical_setSupply h
  exact canonical_ite h (canonical_set _ _ (canonical_set _ _ (canonical_set _ _ h1)))

theorem canonical_supplyStop {kind : Nat} {p : Supply} : (s.supplyStop kind p).RegsCanonical := canonical_railRecord canonical_enterReset

theorem canonical_railDown {kind rail : Nat} (h : s.RegsCanonical) : (s.railDown kind rail).RegsCanonical := by
  unfold State.railDown
  extract_lets _ s1
  have h1 : s1.RegsCanonical := canonical_setSupply h
  exact canonical_railRecord (canonical_ite h1 canonical_enterReset)

theorem canonical_execUvloRise {t : Nat} (h : s.RegsCanonical) : OutCanonical (execUvloRise t s) := by
  unfold execUvloRise
  extract_lets s0 _ s1 s2 src _ s3
  have h0 : s0.RegsCanonical := canonical_at_ h
  have h1 : s1.RegsCanonical := canonical_setSupply h0
  have h2 : s2.RegsCanonical := canonical_drawn h1
  have hsrc : src.RegsCanonical := canonical_set _ _ (canonical_wr _ _ h2)
  have h3 : s3.RegsCanonical := canonical_ite hsrc h2
  exact .ite (.next (canonical_startRails h3)) (.next h0)

theorem canonical_execUvloFall {t : Nat} (h : s.RegsCanonical) : OutCanonical (execUvloFall t s) := by
  unfold execUvloFall
  extract_lets s0
  have h0 : s0.RegsCanonical := canonical_at_ h
  exact .ite (.next h0) (.next canonical_supplyStop)

theorem canonical_execOvervoltageStop {t : Nat} (h : s.RegsCanonical) : OutCanonical (execOvervoltageStop t s) := by
  unfold execOvervoltageStop
  extract_lets s0
  have h0 : s0.RegsCanonical := canonical_at_ h
  exact .ite (.next h0) (.next canonical_supplyStop)

theorem canonical_execOvervoltageRelease {t : Nat} (h : s.RegsCanonical) : OutCanonical (execOvervoltageRelease t s) := by
  unfold execOvervoltageRelease
  extract_lets s0
  have h0 : s0.RegsCanonical := canonical_at_ h
  exact .ite (.next (canonical_startRails (canonical_setSupply h0))) (.next h0)

theorem canonical_execThermalStop {t : Nat} (h : s.RegsCanonical) : OutCanonical (execThermalStop t s) := by
  unfold execThermalStop
  extract_lets s0
  have h0 : s0.RegsCanonical := canonical_at_ h
  exact .ite (.next h0) (.next canonical_supplyStop)

theorem canonical_execThermalStopRelease {t : Nat} (h : s.RegsCanonical) : OutCanonical (execThermalStopRelease t s) := by
  unfold execThermalStopRelease
  extract_lets s0
  have h0 : s0.RegsCanonical := canonical_at_ h
  exact .ite (.next (canonical_startRails (canonical_setSupply h0))) (.next h0)

theorem canonical_execRailsGood {t : Nat} (h : s.RegsCanonical) : OutCanonical (execRailsGood t s) := by
  unfold execRailsGood
  extract_lets s0
  have h0 : s0.RegsCanonical := canonical_at_ h
  exact .ite (.next (canonical_loadBands (canonical_setSupply h0))) (.next h0)

theorem canonical_execRailStartTimeout {rail : Fin 4} {t : Nat} (h : s.RegsCanonical) : OutCanonical (execRailStartTimeout rail t s) := by
  unfold execRailStartTimeout
  extract_lets s0
  have h0 : s0.RegsCanonical := canonical_at_ h
  exact .ite (.next (canonical_railDown h0)) (.next h0)

theorem canonical_execRailRetry {t : Nat} (h : s.RegsCanonical) : OutCanonical (execRailRetry t s) := by
  unfold execRailRetry
  extract_lets s0
  have h0 : s0.RegsCanonical := canonical_at_ h
  split
  · exact .ite (.next (canonical_startRails (canonical_setSupply h0))) (.next h0)
  · exact .next h0

theorem canonical_execRailFault {rail : Fin 4} {overcurrent : Bool} {t : Nat} (h : s.RegsCanonical) :
    OutCanonical (execRailFault rail overcurrent t s) := by
  unfold execRailFault
  extract_lets s0
  have h0 : s0.RegsCanonical := canonical_at_ h
  exact .ite (.next (canonical_railDown h0)) (.next h0)

theorem canonical_execFailCountClear {t : Nat} (h : s.RegsCanonical) : OutCanonical (execFailCountClear t s) := by
  unfold execFailCountClear
  extract_lets s0
  have h0 : s0.RegsCanonical := canonical_at_ h
  exact .ite (.next (canonical_setSupply h0)) (.next h0)

theorem canonical_execHoldupTrip (h : s.RegsCanonical) : OutCanonical (execHoldupTrip s) :=
  .ite (.next (canonical_raiseHold (canonical_raise _ (canonical_set _ _ (canonical_set _ _ h))))) (.next h)

theorem canonical_execVcorePhaseLost {p : Fin 6} (h : s.RegsCanonical) : OutCanonical (execVcorePhaseLost p s) := by
  unfold execVcorePhaseLost
  extract_lets _ s1
  have h1 : s1.RegsCanonical := canonical_raise _ (canonical_set _ _ h)
  refine .ite (.next h) ?_
  exact .next (canonical_ite (canonical_engageSpare h1) (canonical_ite (canonical_raiseHold (canonical_raise _ h1)) h1))

theorem canonical_phaseRearm {mask : Nat} (h : s.RegsCanonical) : (s.phaseRearm mask).RegsCanonical := canonical_setSupply h

theorem canonical_execPhaseRearmDone {p : Fin 6} {pass : Bool} (h : s.RegsCanonical) : OutCanonical (execPhaseRearmDone p pass s) := by
  unfold execPhaseRearmDone
  extract_lets _ s1 _ s2
  have h1 : s1.RegsCanonical := canonical_setSupply h
  have h2 : s2.RegsCanonical := canonical_set _ _ h1
  exact .ite (.ite (.next (canonical_ite (canonical_releaseSpare h2) h2)) (.next (canonical_raise _ h1))) (.next h)

/-! ### Machine/Ecc.lean -/

theorem canonical_scrubWord {addr : Nat} (h : s.RegsCanonical) : PairCanonical (s.scrubWord addr) := by
  unfold State.scrubWord
  extract_lets
  split
  · exact .mk h
  · exact .mk h
  · split
    · exact .mk (canonical_memWrite h)
    · exact .mk h

theorem canonical_scrubGo (h : s.RegsCanonical) : PairCanonical s.scrubGo := by
  unfold State.scrubGo
  extract_lets _ _ _ s1 s2 s3
  have h1 : s1.RegsCanonical := canonical_set _ _ (canonical_wr _ _ (canonical_wr _ _ (canonical_wr _ _ h)))
  have h2 : s2.RegsCanonical := canonical_foldl (fun _ _ ht => canonical_wr _ _ ht) h1
  have h3 : s3.RegsCanonical := canonical_set _ _ (canonical_set _ _ h2)
  exact .ite (.mk h) (.ite (.mk (canonical_set _ _ h)) (.mk h3))

theorem canonical_scrubCtlWrite {v : Word} (h : s.RegsCanonical) : PairCanonical (s.scrubCtlWrite v) := by
  unfold State.scrubCtlWrite
  extract_lets _ s1
  have h1 : s1.RegsCanonical := canonical_ite h (canonical_set _ _ h)
  split
  rename_i s1' _ e
  have h1' : s1'.RegsCanonical := PairCanonical.of_eq e (.ite (canonical_scrubGo h1) (.mk h1))
  exact .mk (canonical_ite (canonical_set _ _ h1') h1')

theorem canonical_passWord {late : List Nat} {addr : Nat} (h : s.RegsCanonical) : (State.passWord late s addr).RegsCanonical := by
  unfold State.passWord
  refine canonical_ite (canonical_ite h (canonical_memWrite h)) ?_
  split
  · next s1 _ e =>
      have h1 : s1.RegsCanonical := PairCanonical.of_eq e (canonical_scrubWord h)
      exact canonical_count _ h1
  · next s1' _ _ e' =>
      have h1' : s1'.RegsCanonical := PairCanonical.of_eq e' (canonical_scrubWord h)
      extract_lets _ s2
      have h2 : s2.RegsCanonical := canonical_count _ h1'
      exact canonical_ite (canonical_wr _ _ h2) h2
  · next s1'' _ _ _ _ e'' =>
      have h1'' : s1''.RegsCanonical := PairCanonical.of_eq e'' (canonical_scrubWord h)
      exact h1''

theorem canonical_execScrubPassDone {t words : Nat} {late : List Nat} (h : s.RegsCanonical) :
    OutCanonical (execScrubPassDone t words late s) := by
  unfold execScrubPassDone
  extract_lets s0 _ _ _ _ s1 s2 s3 s4
  have h0 : s0.RegsCanonical := canonical_at_ h
  have h1 : s1.RegsCanonical := canonical_foldl (fun _ _ ht => canonical_passWord ht) h0
  have h2 : s2.RegsCanonical := canonical_wr _ _ h1
  have h3 : s3.RegsCanonical := canonical_set _ _ (canonical_set _ _ (canonical_set _ _ h2))
  have h4 : s4.RegsCanonical := canonical_raise _ (canonical_set _ _ h3)
  exact .ite (.next h0) (.ite (.next h0) (.next (canonical_ite h4 (canonical_raise _ (canonical_set _ _ h4)))))

theorem canonical_walkWord {addr : Nat} (h : s.RegsCanonical) : (s.walkWord addr).RegsCanonical := by
  unfold State.walkWord
  refine canonical_ite ?_ h
  split
  · next s1 _ e =>
      have h1 : s1.RegsCanonical := PairCanonical.of_eq e (canonical_scrubWord h)
      exact canonical_count _ h1
  · next s1' _ _ e' =>
      have h1' : s1'.RegsCanonical := PairCanonical.of_eq e' (canonical_scrubWord h)
      exact canonical_raise _ (canonical_wr _ _ (canonical_count _ h1'))
  · next s1'' _ _ _ _ e'' =>
      have h1'' : s1''.RegsCanonical := PairCanonical.of_eq e'' (canonical_scrubWord h)
      exact h1''

theorem canonical_execWalkerLapDone {m : Fin 6} {t paused : Nat} (h : s.RegsCanonical) : OutCanonical (execWalkerLapDone m t paused s) := by
  unfold execWalkerLapDone
  extract_lets s0 s1 _ s2 s3
  have h0 : s0.RegsCanonical := canonical_at_ h
  have h1 : s1.RegsCanonical := canonical_foldl (fun _ _ ht => canonical_walkWord ht) h0
  have h2 : s2.RegsCanonical := canonical_wr _ _ h1
  have h3 : s3.RegsCanonical := canonical_ite (canonical_wr _ _ h2) h2
  exact .ite (.next h0) (.next h3)

theorem canonical_execForcedGrant {pass : Bool} {_m : Fin 6} (h : s.RegsCanonical) : OutCanonical (execForcedGrant pass _m s) := by
  unfold execForcedGrant
  extract_lets s1
  have h1 : s1.RegsCanonical := canonical_count _ h
  exact .ite (.next (canonical_ite h1 (canonical_raise _ (canonical_set _ _ h1)))) (.next h)

/-! ### Machine/Bist.lean -/

theorem canonical_sliceStart {x : Slice} (h : s.RegsCanonical) : (s.sliceStart x).RegsCanonical := by
  unfold State.sliceStart
  extract_lets
  refine canonical_ite (canonical_sealCut h) ?_
  split
  · refine canonical_ite ?_ ?_
    · refine canonical_ite (canonical_sliceTaken h) ?_
      split
      · next s1 e =>
          have h1 : s1.RegsCanonical := PairCanonical.of_eq e (canonical_claimLoan h)
          exact canonical_putSlice h1
      · next s1' e' =>
          have h1' : s1'.RegsCanonical := PairCanonical.of_eq e' (canonical_claimLoan h)
          exact canonical_sealCut h1'
    · exact canonical_ite (canonical_sliceTaken (canonical_haltEngine h)) (canonical_sealCut (canonical_set _ _ h))
  · exact canonical_ite (canonical_sliceTaken h) (canonical_droneSliceTry (canonical_putSlice h))
  · exact canonical_ite (canonical_sealCut h) (canonical_ite (canonical_sliceTaken h) (canonical_sealCut h))
  · exact canonical_sliceTaken h

theorem canonical_planHere (h : s.RegsCanonical) : s.planHere.RegsCanonical := canonical_ite h h

theorem canonical_execSelftestTick {t : Nat} (h : s.RegsCanonical) : OutCanonical (execSelftestTick t s) := by
  unfold execSelftestTick
  extract_lets s9 _ _ _ _ s1'
  have h9 : s9.RegsCanonical := canonical_at_ h
  have h1' : s1'.RegsCanonical := canonical_planHere h9
  refine .ite (.next h9) ?_
  refine .ite (.next h9) ?_
  split
  · exact .next (canonical_sliceStart h9)
  · exact .ite (.ite (.next h1') (.ite (.next (canonical_planNext h1')) (.next (canonical_sliceStart h1')))) (.next h9)

theorem canonical_execDroneSliceWaitTimeout {t : Nat} (h : s.RegsCanonical) : OutCanonical (execDroneSliceWaitTimeout t s) := by
  unfold execDroneSliceWaitTimeout
  extract_lets s0
  have h0 : s0.RegsCanonical := canonical_at_ h
  split
  · exact .ite (.next (canonical_sealCut h0)) (.next h0)
  · exact .next h0

theorem canonical_sealSlice {x : Slice} {result cause : Nat} {misr : BitVec 64} (h : s.RegsCanonical) :
    (s.sealSlice x result cause misr).RegsCanonical := by
  unfold State.sealSlice
  extract_lets _ _ s1 s1' s2 back
  have h1 : s1.RegsCanonical := canonical_sealRestore h
  have h1' : s1'.RegsCanonical := canonical_endSlice (canonical_sealRecord h)
  have h2 : s2.RegsCanonical := canonical_endLoan h1'
  have hback : ∀ t, t.RegsCanonical → (back t).RegsCanonical :=
    fun _ ht => canonical_raiseDroneEvent (canonical_enterDrone (canonical_reroute ht))
  refine canonical_ite ?_ ?_
  · exact canonical_ite (canonical_ite (canonical_raise _ (canonical_setBitAt h1)) (canonical_raise _ h1)) h1
  · refine canonical_ite ?_ ?_
    · refine canonical_ite (canonical_ite (canonical_raise _ h2) h2) ?_
      refine canonical_ite h1' ?_
      exact canonical_ite (canonical_raise _ (canonical_set _ _ (canonical_set _ _ h1'))) (canonical_raise _ h1')
    · refine canonical_ite (canonical_ite (canonical_raise _ h1') h1') ?_
      refine canonical_ite (hback _ h1') ?_
      exact canonical_ite (canonical_raise _ (canonical_raiseHold (canonical_set _ _ (hback _ h1'))))
        (canonical_raise _ (canonical_retireDrone h1'))

theorem canonical_execSliceBudgetExpiry {t : Nat} (h : s.RegsCanonical) : OutCanonical (execSliceBudgetExpiry t s) := by
  unfold execSliceBudgetExpiry
  extract_lets s0
  have h0 : s0.RegsCanonical := canonical_at_ h
  split
  · split
    · exact .ite (.next (canonical_sealSlice (canonical_drawn h0))) (.next h0)
    · exact .next h0
  · exact .next h0

theorem canonical_execSliceSeal {t : Nat} {responses : List (BitVec 64)} (h : s.RegsCanonical) :
    OutCanonical (execSliceSeal t responses s) := by
  unfold execSliceSeal
  extract_lets s0
  have h0 : s0.RegsCanonical := canonical_at_ h
  split
  · extract_lets
    split
    · exact .ite (.next (canonical_sealSlice h0)) (.next h0)
    · exact .next h0
  · exact .next h0

theorem canonical_tractRewrite {u : Nat} (h : s.RegsCanonical) : (s.tractRewrite u).RegsCanonical :=
  canonical_foldl (fun _ _ ht => canonical_setFrameRec (canonical_writeFrame ht)) h

theorem canonical_execSliceRestoreDone {t : Nat} (h : s.RegsCanonical) : OutCanonical (execSliceRestoreDone t s) := by
  unfold execSliceRestoreDone
  extract_lets s0 s1
  have h0 : s0.RegsCanonical := canonical_at_ h
  have h1 : s1.RegsCanonical := canonical_endSlice h0
  split
  · extract_lets s2
    have h2 : s2.RegsCanonical := canonical_tractRewrite h1
    split
    · extract_lets s2'
      have h2' : s2'.RegsCanonical := canonical_ite (canonical_enterQuarantine h1) h1
      exact .ite (.next (canonical_ite (canonical_prBegin h2) h2)) (.next (canonical_settle h2'))
    · exact .next h0
  · exact .next h0

theorem canonical_manGo (h : s.RegsCanonical) : PairCanonical s.manGo := .ite (.mk (canonical_set _ _ h)) (.mk (canonical_set _ _ h))

theorem canonical_bistCtlWrite {v : Word} (h : s.RegsCanonical) : PairCanonical (s.bistCtlWrite v) := by
  unfold State.bistCtlWrite
  extract_lets
  split
  rename_i s1 _ e
  have h1 : s1.RegsCanonical := PairCanonical.of_eq e (.ite (canonical_manGo h) (.mk h))
  exact .mk (canonical_ite h1 (canonical_set _ _ h1))

theorem canonical_tractUse {v : Word} (h : s.RegsCanonical) : (s.tractUse v).RegsCanonical := by
  unfold State.tractUse
  extract_lets _ s1
  have h1 : s1.RegsCanonical := canonical_mergeWrite _ _ h
  exact canonical_ite (canonical_ite h1 (canonical_engageSpare h1)) (canonical_ite (canonical_releaseSpare h1) h1)

/-! ### Machine/Sec.lean -/

theorem canonical_randomBytes {n : Nat} (h : s.RegsCanonical) : PairCanonical (s.randomBytes n) := .mk h

theorem canonical_enterService {holder x : Nat} (h : s.RegsCanonical) : (s.enterService holder x).RegsCanonical := by
  unfold State.enterService
  extract_lets _ s1
  have h1 : s1.RegsCanonical := canonical_set _ _ (canonical_set _ _ h)
  exact canonical_changeMode h1

theorem canonical_svcStart {d : Nat} (h : s.RegsCanonical) : (s.svcStart d).RegsCanonical :=
  canonical_ite (canonical_raiseDroneEvent (canonical_enterDrone (canonical_setDrone h))) h

theorem canonical_endService (h : s.RegsCanonical) : s.endService.RegsCanonical := by
  unfold State.endService
  extract_lets s1 s2
  have h1 : s1.RegsCanonical := canonical_wr _ _ (canonical_wr _ _ h)
  have h2 : s2.RegsCanonical := canonical_foldl (fun _ _ ht => canonical_svcStart ht) h1
  exact canonical_ite h (canonical_ite h2 (canonical_ite (canonical_enterArmed h2) (canonical_changeMode h2)))

theorem canonical_svcHalt {d : Nat} (h : s.RegsCanonical) : (s.svcHalt d).RegsCanonical :=
  canonical_ite h (canonical_setDrone (canonical_setEngine h))

theorem canonical_svcCtlWrite {ini : Initiator} {x : Option Nat} {v : Word} (h : s.RegsCanonical) :
    PairCanonical (s.svcCtlWrite ini x v) := by
  unfold State.svcCtlWrite
  extract_lets s1 s2
  have h1 : s1.RegsCanonical := canonical_set _ _ h
  have h2 : s2.RegsCanonical := canonical_foldl (fun _ _ ht => canonical_ite (canonical_svcStart ht) ht) h1
  exact .ite (.mk (canonical_foldl (fun _ _ ht => canonical_ite (canonical_svcHalt ht) ht) h2)) (.mk h)

theorem canonical_tap {ir : Nat} {out : List Nat} (h : s.RegsCanonical) : (s.tap ir out).RegsCanonical := h

theorem canonical_tapBypassed (h : s.RegsCanonical) : s.tapBypassed.RegsCanonical := canonical_tap h

theorem canonical_captured {n : Nat} (h : s.RegsCanonical) : PairCanonical (s.captured n) := by
  unfold State.captured
  extract_lets r
  have hr : PairCanonical r := canonical_randomBytes h
  exact .mk hr

theorem canonical_execTapExtest {data : List Bool} (h : s.RegsCanonical) : OutCanonical (execTapExtest data s) := by
  unfold execTapExtest
  extract_lets r s1
  have hr : PairCanonical r := canonical_captured h
  have h1 : s1.RegsCanonical := canonical_tap hr
  exact .ite (.next h1) (.next (canonical_tapBypassed h))

theorem canonical_execTapSamplePreload {data : List Bool} (h : s.RegsCanonical) : OutCanonical (execTapSamplePreload data s) := by
  unfold execTapSamplePreload
  extract_lets r s1
  have hr : PairCanonical r := canonical_captured h
  have h1 : s1.RegsCanonical := canonical_tap hr
  exact .next h1

theorem canonical_execChChallenge (h : s.RegsCanonical) : OutCanonical (execChChallenge s) := by
  unfold execChChallenge
  extract_lets r s1
  have hr : PairCanonical r := canonical_randomBytes h
  have h1 : s1.RegsCanonical := canonical_tap hr
  exact .ite (.next (canonical_tapBypassed h)) (.next h1)

theorem canonical_execChUnlock {t : Nat} {data : List (BitVec 8)} (h : s.RegsCanonical) : OutCanonical (execChUnlock t data s) := by
  unfold execChUnlock
  extract_lets s0 _ s1 _ put
  have h0 : s0.RegsCanonical := canonical_at_ h
  have h1 : s1.RegsCanonical := canonical_tap h0
  have hput : ∀ x y, (put x y).RegsCanonical := fun _ _  => h1
  refine .ite (.next (canonical_tapBypassed h0)) ?_
  refine .ite (.next (hput _ _)) ?_
  exact .ite (.next (hput _ _)) (.ite (.next (hput _ _)) (.next (canonical_raise _ (canonical_count _ (hput _ _)))))

theorem canonical_execUnlocked {t : Nat} (h : s.RegsCanonical) : OutCanonical (execUnlocked t s) := by
  unfold execUnlocked
  extract_lets s0 _ _ _ s2
  have h0 : s0.RegsCanonical := canonical_at_ h
  have h2 : s2.RegsCanonical := canonical_enterService (canonical_raise _ h0)
  exact .ite (.ite (.next h0) (.ite (.next h0) (.next h2))) (.next h0)

theorem canonical_execTapServiceIdle {t : Nat} (h : s.RegsCanonical) : OutCanonical (execTapServiceIdle t s) := by
  unfold execTapServiceIdle
  extract_lets s0
  have h0 : s0.RegsCanonical := canonical_at_ h
  exact .ite (.next (canonical_endService h0)) (.next h0)

theorem canonical_putRegBytes {a : Nat} {l : List Nat} (h : s.RegsCanonical) : (s.putRegBytes a l).RegsCanonical :=
  canonical_foldl (fun _ _ ht => canonical_wr _ _ ht) h

theorem canonical_attGo (h : s.RegsCanonical) : PairCanonical s.attGo := by
  unfold State.attGo
  extract_lets s1
  have h1 : s1.RegsCanonical := canonical_wr _ _ h
  exact .ite (.mk h) (.ite (.mk (canonical_set _ _ h1)) (.mk (canonical_set _ _ (canonical_set _ _ h1))))

theorem canonical_execAttestDone {t : Nat} (h : s.RegsCanonical) : OutCanonical (execAttestDone t s) := by
  unfold execAttestDone
  extract_lets s0 src
  have h0 : s0.RegsCanonical := canonical_at_ h
  have hsrc : src.RegsCanonical := canonical_drawn h0
  split
  · extract_lets _ s2
    have h2 : s2.RegsCanonical := canonical_putRegBytes hsrc
    exact .next (canonical_raise _ (canonical_set _ _ (canonical_set _ _ (canonical_set _ _ h2))))
  · exact .next h0

theorem canonical_chalNew (h : s.RegsCanonical) : s.chalNew.RegsCanonical := by
  unfold State.chalNew
  extract_lets r s1
  have hr : PairCanonical r := canonical_randomBytes h
  have h1 : s1.RegsCanonical := canonical_putRegBytes hr
  exact h1

theorem canonical_provGo (h : s.RegsCanonical) : PairCanonical s.provGo := by
  unfold State.provGo
  extract_lets _ _ _ _ s2 _ s3
  have h2 : s2.RegsCanonical := canonical_set _ _ h
  have h3 : s3.RegsCanonical := canonical_set _ _ (canonical_set _ _ h2)
  exact .ite (.mk h) (.ite (.mk (canonical_raise _ h2)) (.mk (canonical_ite (canonical_changeMode h3) h3)))

theorem canonical_provApply {t op o : Nat} {l : List Nat} {bad : Option Nat} (h : s.RegsCanonical) :
    (s.provApply t op o l bad).RegsCanonical := by
  unfold State.provApply
  extract_lets s0 s1 _ _ _ s3
  have h0 : s0.RegsCanonical := canonical_at_ h
  have h1 : s1.RegsCanonical := canonical_otpProgramRun h0
  have h3 : s3.RegsCanonical := canonical_set _ _ (canonical_set _ _ (canonical_set _ _ h1))
  exact canonical_ite (canonical_ite h3 (canonical_raise _ h3)) h0

theorem canonical_provEnd (h : s.RegsCanonical) : s.provEnd.RegsCanonical := canonical_ite canonical_enterReset h

theorem canonical_execProvAbandon {t : Nat} (h : s.RegsCanonical) : OutCanonical (execProvAbandon t s) := by
  unfold execProvAbandon
  extract_lets s0
  have h0 : s0.RegsCanonical := canonical_at_ h
  exact .ite (.next canonical_enterReset) (.next h0)

theorem canonical_provCtlWrite {ini : Initiator} {x : Option Nat} {v : Word} (h : s.RegsCanonical) :
    PairCanonical (s.provCtlWrite ini x v) := by
  unfold State.provCtlWrite
  extract_lets
  refine .ite ?_ (.mk h)
  split
  rename_i s1 _ e
  have h1 : s1.RegsCanonical := PairCanonical.of_eq e (.ite (canonical_provGo h) (.mk h))
  exact .mk (canonical_ite (canonical_provEnd h1) h1)

/-! ### Machine/Ivwyn.lean -/

theorem canonical_plainHeader {type x status txn : Nat} {mctr : Option Nat} {len : Nat} (h : s.RegsCanonical) :
    PairCanonical (s.plainHeader type x status txn mctr len) := by
  unfold State.plainHeader
  extract_lets _ s1
  have h1 : s1.RegsCanonical := canonical_drawn h
  exact .mk (canonical_drawn h1)

theorem canonical_plainSend {ip : Word} {port : Nat} {d : List Nat} (h : s.RegsCanonical) : (s.plainSend ip port d).RegsCanonical := h

theorem canonical_plainAnswer {ip : Word} {port type x status txn : Nat} {body : List Nat} (h : s.RegsCanonical) :
    PairCanonical (s.plainAnswer ip port type x status txn body) := by
  unfold State.plainAnswer
  split
  rename_i s1 _ e
  have h1 : s1.RegsCanonical := PairCanonical.of_eq e (canonical_plainHeader h)
  exact .mk (canonical_plainSend h1)

theorem canonical_closeSession {x : Nat} (h : s.RegsCanonical) : (s.closeSession x).RegsCanonical := by
  unfold State.closeSession
  extract_lets _ s1
  have h1 : s1.RegsCanonical := canonical_dropSession h
  exact canonical_ite (canonical_endService h1) h1

theorem canonical_ivwTake {x type txn cseq : Nat} {header body : List Nat} (h : s.RegsCanonical) :
    (s.ivwTake x type txn cseq header body).RegsCanonical := by
  unfold State.ivwTake
  extract_lets
  split
  · exact canonical_ivwSend h
  · refine canonical_ite h ?_
    refine canonical_ite (canonical_ivwAnswer h) ?_
    refine canonical_ite (canonical_ivwAnswer h) ?_
    refine canonical_ite (canonical_ivwAnswer h) ?_
    exact canonical_ite (canonical_ivwAnswer (canonical_raise _ (canonical_count _ h)))
      (canonical_ite (canonical_ivwAnswer (canonical_setSession h)) (canonical_setSession h))

theorem canonical_execIvwynDatagramRx {p : Fin 4} {t : Nat} {ip : BitVec 32} {port : BitVec 16} {dest : UdpDest} {payload : List (BitVec 8)}
    (h : s.RegsCanonical) :
    OutCanonical (execIvwynDatagramRx p t ip port dest payload s) := by
  unfold execIvwynDatagramRx
  extract_lets s'
  have h' : s'.RegsCanonical := canonical_at_ h
  refine .ite (.next h') ?_
  refine .ite (.next (canonical_count _ h')) ?_
  refine .ite (.next h') ?_
  refine .ite ?_ (.next (canonical_plainAnswer h'))
  split
  · exact .ite (.next (canonical_raise _ (canonical_count _ h'))) (.next (canonical_ivwTake (canonical_setSession h')))
  · exact .next (canonical_raise _ (canonical_count _ h'))

theorem canonical_secKick (h : s.RegsCanonical) : s.secKick.RegsCanonical := canonical_ite h (canonical_ite h (canonical_ite h h))

theorem canonical_execIvwynOpen (h : s.RegsCanonical) : OutCanonical (execIvwynOpen s) := by
  unfold execIvwynOpen
  extract_lets
  split
  · exact .next h
  · extract_lets
    split
    · exact .next (canonical_plainSend h)
    · refine .ite (.next h) ?_
      exact .ite (.next (canonical_plainAnswer h)) (.ite (.next (canonical_count _ h)) (.next (canonical_secKick h)))

theorem canonical_openAccept {o : OpenReq} {role : Nat} (h : s.RegsCanonical) : PairCanonical (s.openAccept o role) := by
  unfold State.openAccept
  extract_lets
  split
  rename_i s1 _ e
  have h1 : s1.RegsCanonical := PairCanonical.of_eq e (canonical_randomBytes (canonical_drawn h))
  split
  rename_i s1 _ e _ s1' _ e'
  have h1' : s1'.RegsCanonical := PairCanonical.of_eq e' (canonical_randomBytes h1)
  extract_lets
  split
  rename_i s1 _ e _ s1' _ e' _ s1'' _ e''
  have h1'' : s1''.RegsCanonical := PairCanonical.of_eq e'' (canonical_plainHeader h1')
  extract_lets _ _ _ s4
  have h4 : s4.RegsCanonical := canonical_setSession (canonical_drawn h1'')
  exact .mk (canonical_plainSend h4)

theorem canonical_execSecOpenDone {t : Nat} (h : s.RegsCanonical) : OutCanonical (execSecOpenDone t s) := by
  unfold execSecOpenDone
  extract_lets s'
  have h' : s'.RegsCanonical := canonical_at_ h
  split
  · extract_lets
    refine .ite ?_ (.next h')
    split
    rename_i s1'' _ e'
    have h1'' : s1''.RegsCanonical := by
      refine PairCanonical.of_eq e' ?_
      refine .ite (canonical_openAccept h') ?_
      split
      rename_i s1' _ e
      have h1' : s1'.RegsCanonical := PairCanonical.of_eq e (canonical_plainAnswer h')
      exact .mk (canonical_ite h1' (canonical_raise _ (canonical_count _ h1')))
    extract_lets
    exact .next (canonical_secKick h1'')
  · exact .next h'

theorem canonical_confirmRefuse {x txn status : Nat} (h : s.RegsCanonical) : (s.confirmRefuse x txn status).RegsCanonical :=
  canonical_dropSession (canonical_ivwSend h)

theorem canonical_execSecConfirmDone {t : Nat} (h : s.RegsCanonical) : OutCanonical (execSecConfirmDone t s) := by
  unfold execSecConfirmDone
  extract_lets s'
  have h' : s'.RegsCanonical := canonical_at_ h
  split
  · extract_lets _ _ opened
    have hopened : ∀ t, t.RegsCanonical → (opened t).RegsCanonical := by
      intro _ hu
      unfold opened
      extract_lets _ u1 u2 u3
      have hu1 : u1.RegsCanonical := canonical_setSession hu
      have hu2 : u2.RegsCanonical := canonical_wr _ _ (canonical_set _ _ (canonical_set _ _ hu1))
      have hu3 : u3.RegsCanonical := canonical_set _ _ (canonical_wr _ _ hu2)
      exact canonical_ivwAnswer (canonical_raise _ hu3)
    refine .ite ?_ (.next h')
    refine .ite (.next (canonical_secKick h')) ?_
    refine .ite (.next (canonical_secKick (canonical_ivwAnswer h'))) ?_
    refine .ite ?_ ?_
    · exact .next (canonical_secKick (canonical_raise _ (canonical_count _ (canonical_confirmRefuse h'))))
    · refine .ite ?_ (.next (canonical_secKick (hopened _ h')))
      exact .ite (.next (canonical_secKick (hopened _ (canonical_enterService h'))))
        (.next (canonical_secKick (canonical_confirmRefuse h')))
  · exact .next (canonical_secKick h')

theorem canonical_execConfirmTimeout {x : Fin 256} {t : Nat} (h : s.RegsCanonical) : OutCanonical (execConfirmTimeout x t s) := by
  unfold execConfirmTimeout
  extract_lets s'
  have h' : s'.RegsCanonical := canonical_at_ h
  exact .ite (.next (canonical_dropSession h')) (.next h')

theorem canonical_execSessionIdleTimeout {x : Fin 256} {t : Nat} (h : s.RegsCanonical) : OutCanonical (execSessionIdleTimeout x t s) := by
  unfold execSessionIdleTimeout
  extract_lets s'
  have h' : s'.RegsCanonical := canonical_at_ h
  exact .ite (.next (canonical_closeSession h')) (.next h')

theorem canonical_ivwRun {x : Nat} (h : s.RegsCanonical) : (s.ivwRun x).RegsCanonical := canonical_setSession h

theorem canonical_execIvwynConfirm {x : Fin 256} (h : s.RegsCanonical) : OutCanonical (execIvwynConfirm x s) := by
  unfold execIvwynConfirm
  extract_lets s1
  have h1 : s1.RegsCanonical := canonical_ivwRun h
  split
  · exact .next (canonical_secKick h1)
  · exact .next h

theorem canonical_ivwEmpty {x type : Nat} {act : State → Nat → State} (h : s.RegsCanonical)
    (hact : ∀ t x, t.RegsCanonical → (act t x).RegsCanonical) :
    (s.ivwEmpty x type act).RegsCanonical := by
  unfold State.ivwEmpty
  split
  · exact canonical_ite (canonical_ivwAnswer h) (hact _ _ h)
  · exact h

theorem canonical_execIvwynRestart {x : Fin 256} (h : s.RegsCanonical) : OutCanonical (execIvwynRestart x s) := by
  unfold execIvwynRestart
  refine .next ?_
  refine canonical_ivwEmpty h (fun _ _ hu => ?_)
  extract_lets _ a r
  have ha : a.RegsCanonical := canonical_ivwAnswer hu
  have hr : r.RegsCanonical := canonical_request ha
  exact canonical_ite (canonical_setSession hr) (canonical_ivwAnswer (canonical_request hu))

theorem canonical_execIvwynMode {x : Fin 256} (h : s.RegsCanonical) : OutCanonical (execIvwynMode x s) := by
  unfold execIvwynMode
  split
  · extract_lets _ r
    have hr : PairCanonical r := canonical_request h
    exact .ite (.next (canonical_ivwAnswer h)) (.ite (.next (canonical_ivwAnswer h)) (.next (canonical_ivwAnswer hr)))
  · exact .next h

theorem canonical_execIvwynSubscribe {x : Fin 256} (h : s.RegsCanonical) : OutCanonical (execIvwynSubscribe x s) := by
  unfold execIvwynSubscribe
  split
  · exact .ite (.next (canonical_ivwAnswer h)) (.ite (.next (canonical_ivwAnswer h)) (.next (canonical_ivwAnswer (canonical_set _ _ h))))
  · exact .next h

theorem canonical_creditReturn {x : Nat} (h : s.RegsCanonical) : (s.creditReturn x).RegsCanonical := canonical_setSession h

theorem canonical_execIvwynInsert {x : Fin 256} (h : s.RegsCanonical) : OutCanonical (execIvwynInsert x s) := by
  unfold execIvwynInsert
  extract_lets
  split
  · extract_lets _ _ s1
    have h1 : s1.RegsCanonical := canonical_setSession h
    refine .ite (.next (canonical_ivwAnswer (canonical_creditReturn h))) ?_
    exact .ite (.next (canonical_ivwAnswer (canonical_creditReturn h))) (.next (canonical_foldl (fun _ _ hu => canonical_offerWait hu) h1))
  · exact .next h

theorem canonical_toFirmware {x type : Nat} (h : s.RegsCanonical) : (s.toFirmware x type).RegsCanonical := by
  unfold State.toFirmware
  extract_lets
  split
  · extract_lets s1
    have h1 : s1.RegsCanonical := canonical_wrBytes (canonical_setSession h)
    exact canonical_raise _ h1
  · exact h

theorem canonical_execFwTimeout {x : Fin 256} {t : Nat} (h : s.RegsCanonical) : OutCanonical (execFwTimeout x t s) := by
  unfold execFwTimeout
  extract_lets s'
  have h' : s'.RegsCanonical := canonical_at_ h
  split
  · exact .ite (.next (canonical_ivwAnswer (canonical_raise _ (canonical_count _ h')))) (.next h')
  · exact .next h'

theorem canonical_ivwRxDone {b : Nat} (h : s.RegsCanonical) : (s.ivwRxDone b).RegsCanonical := by
  unfold State.ivwRxDone
  extract_lets
  split
  · exact canonical_ite (canonical_creditReturn h) h
  · exact h

theorem canonical_ivwTxq {b : Nat} (h : s.RegsCanonical) : PairCanonical (s.ivwTxq b) := .ite (.mk h) (.mk h)

theorem canonical_ivwTxSend {b : Nat} (h : s.RegsCanonical) : (s.ivwTxSend b).RegsCanonical := by
  unfold State.ivwTxSend
  extract_lets
  refine canonical_ite h ?_
  refine canonical_ite (canonical_ite (canonical_notifyOne h) h) ?_
  split
  · exact canonical_ite (canonical_ivwAnswer h) h
  · exact h

theorem canonical_ivwTxNext (h : s.RegsCanonical) : s.ivwTxNext.RegsCanonical := by
  unfold State.ivwTxNext
  extract_lets
  split
  · exact canonical_ite (canonical_ivwTxSend h) h
  · exact h

/-! ### Machine/Spine.lean -/

theorem canonical_onBit {v : Word} {i : Nat} {act : State → State} (hact : ∀ t, t.RegsCanonical → (act t).RegsCanonical)
    (h : s.RegsCanonical) :
    (onBit v i act s).RegsCanonical :=
  canonical_ite (hact _ h) h

theorem canonical_done (h : s.RegsCanonical) : PairCanonical (done s) := .mk h

theorem canonical_mergeThen {a : Nat} {v cmd : Word} {act : State → State} (h : s.RegsCanonical)
    (hact : ∀ t, t.RegsCanonical → (act t).RegsCanonical) :
    PairCanonical (s.mergeThen a v cmd act) := by
  unfold State.mergeThen
  extract_lets p
  have hp : PairCanonical p := canonical_mergeWrite _ _ h
  exact .mk (hact _ hp)

theorem canonical_domCtlWrite {d : Nat} {v : Word} (h : s.RegsCanonical) : PairCanonical (s.domCtlWrite d v) := by
  unfold State.domCtlWrite
  extract_lets s1
  have h1 : s1.RegsCanonical := canonical_set _ _ (canonical_set _ _ h)
  exact .ite (.mk (canonical_domRequest (canonical_set _ _ h1))) (.mk h1)

theorem canonical_insWrite {ini : Initiator} {k : Nat} {v : Word} (h : s.RegsCanonical) : (s.insWrite ini k v).RegsCanonical := by
  unfold State.insWrite
  split
  · extract_lets
    exact canonical_ite (canonical_setDroneIns h) (canonical_ite (canonical_setDroneIns h) (canonical_insEvHi h))
  · exact h

theorem canonical_ctlWrite {b r i a : Nat} {v : Word} (h : s.RegsCanonical) : PairCanonical (s.ctlWrite b r i a v) := by
  unfold State.ctlWrite
  split
  · exact .ite (canonical_modeCtlWrite h) (canonical_mergeWrite _ _ h)
  · split
    · exact canonical_done (canonical_phaseRearm h)
    · exact canonical_domCtlWrite h
    · exact canonical_mergeWrite _ _ h
  · split
    · exact canonical_done (canonical_clkCtlWrite (canonical_mergeWrite _ _ h))
    · exact canonical_done (canonical_onBit (fun _ ht => canonical_pllRelock ht) h)
    · exact canonical_done (canonical_bandWrite h)
    · exact canonical_clkoutWrite h
    · exact canonical_mergeWrite _ _ h
  · split
    · exact canonical_done (canonical_updCtlWrite h)
    · exact canonical_prCtlWrite h
    · exact canonical_done (canonical_prDataWrite h)
    · exact canonical_done (canonical_restoreWrite h)
    · exact canonical_mergeWrite _ _ h

theorem canonical_flashCmdWrite {v : Word} {jfails : Nat} (h : s.RegsCanonical) : PairCanonical (s.flashCmdWrite v jfails) :=
  .ite (.mk (canonical_flashCmd h)) (.mk h)

theorem canonical_sysWrite {ini : Initiator} {b r i a : Nat} {v : Word} (h : s.RegsCanonical) :
    PairCanonical (s.sysWrite ini b r i a v) := by
  unfold State.sysWrite
  extract_lets p
  have hp : PairCanonical p := canonical_mergeWrite _ _ h
  split
  · exact .ite (canonical_flashCmdWrite h) (canonical_mergeWrite _ _ h)
  · exact .ite (canonical_done (canonical_onBit (fun _ ht => canonical_otpGo ht) h)) (canonical_mergeWrite _ _ h)
  · split
    · exact .ite (canonical_unretire hp) hp
    · exact canonical_wdCfgWrite h
    · exact canonical_wdKick h
    · exact canonical_done (canonical_pendClear h)
    · exact canonical_done (canonical_irqRaise h)
    · exact canonical_mergeWrite _ _ h
  · exact .ite (canonical_done (canonical_snapCtlWrite h)) (canonical_mergeWrite _ _ h)
  · exact .ite (canonical_scrubCtlWrite h) (canonical_mergeWrite _ _ h)

theorem canonical_bistWrite {r a : Nat} {v : Word} (h : s.RegsCanonical) : PairCanonical (s.bistWrite r a v) := by
  unfold State.bistWrite
  split
  · exact canonical_bistCtlWrite h
  · exact .ite (.mk h) (canonical_mergeWrite _ _ h)
  · exact .ite (.mk h) (canonical_mergeWrite _ _ h)
  · exact .ite (.mk h) (canonical_mergeWrite _ _ h)
  · exact .ite (.mk h) (canonical_mergeWrite _ _ h)
  · exact canonical_done (canonical_tractUse h)
  · exact canonical_mergeWrite _ _ h

theorem canonical_secWrite {ini : Initiator} {x : Option Nat} {r a : Nat} {v : Word} (h : s.RegsCanonical) :
    PairCanonical (s.secWrite ini x r a v) := by
  unfold State.secWrite
  split
  · exact canonical_svcCtlWrite h
  · exact canonical_done (canonical_onBit (fun _ ht => canonical_chalNew ht) h)
  · exact canonical_provCtlWrite h
  · exact .ite (canonical_mergeWrite _ _ h) (.mk h)
  · exact .ite (canonical_attGo h) (.mk h)
  · exact canonical_mergeWrite _ _ h

theorem canonical_gpioWrite {r i a : Nat} {v : Word} (h : s.RegsCanonical) : PairCanonical (s.gpioWrite r i a v) := by
  unfold State.gpioWrite
  split
  · exact canonical_gpCfgWrite h
  · exact canonical_done (canonical_outSet h)
  · exact canonical_done (canonical_outClr h)
  · exact canonical_done (canonical_outTgl h)
  · exact canonical_pinStatWrite h
  · exact canonical_portCfgWrite h
  · exact canonical_portTx h
  · exact canonical_pwmWrite h
  · exact canonical_mergeWrite _ _ h

theorem canonical_measWrite {r i a : Nat} {v : Word} (h : s.RegsCanonical) : PairCanonical (s.measWrite r i a v) := by
  unfold State.measWrite
  split
  · exact canonical_adcCtlWrite (canonical_adcsDue h)
  · exact canonical_adcTrigWrite (canonical_adcsDue h)
  · exact canonical_seqWrite (canonical_adcsDue h)
  · exact canonical_cmpCfgWrite h
  · exact canonical_cmpThrWrite h
  · exact canonical_done (canonical_ucalWrite h)
  · exact canonical_mergeWrite _ _ h

theorem canonical_netWrite {b r i a : Nat} {v : Word} (h : s.RegsCanonical) : PairCanonical (s.netWrite b r i a v) := by
  unfold State.netWrite
  split
  · split
    · exact canonical_gclCtlWrite h
    · exact canonical_done (canonical_ipAddrWrite h)
    · exact canonical_done (canonical_xcapCtlWrite h)
    · exact .ite (.mk h) (canonical_mergeWrite _ _ h)
    · exact canonical_mergeWrite _ _ h
  · split
    · exact canonical_done (canonical_ivwRxDone h)
    · exact canonical_ivwTxq h
    · exact canonical_mergeWrite _ _ h
  · split
    · exact canonical_done (canonical_onBit (fun _ ht => canonical_syncLocal ht) h)
    · exact canonical_emnTxq h
    · exact canonical_done (canonical_emnRxDone h)
    · exact canonical_mergeWrite _ _ h

theorem canonical_wheelWrite {ini : Initiator} {r i a : Nat} {v : Word} (h : s.RegsCanonical) :
    PairCanonical (s.wheelWrite ini r i a v) := by
  unfold State.wheelWrite
  split
  · exact canonical_trackerWrite h
  · exact canonical_trackerWrite h
  · exact canonical_trackerWrite h
  · exact canonical_ssiWrite h
  · exact canonical_mergeThen h (fun _ ht => canonical_onBit (fun _ ht' => canonical_hwReset ht') ht)
  · exact canonical_tCfgWrite h
  · exact canonical_done (canonical_laneDomWrite h)
  · exact canonical_done (canonical_onBit (fun _ ht => canonical_wheelInit ht) h)
  · exact canonical_done (canonical_poolWarnWrite h)
  · exact canonical_mergeThen h (fun _ ht => canonical_onBit (fun _ ht' => canonical_wheelFlush ht') ht)
  · exact canonical_done (canonical_insWrite h)
  · exact canonical_done (canonical_insWrite h)
  · exact canonical_done (canonical_insWrite h)
  · exact canonical_mergeWrite _ _ h

theorem canonical_unitWrite {b r i j a : Nat} {v : Word} (h : s.RegsCanonical) : PairCanonical (s.unitWrite b r i j a v) := by
  unfold State.unitWrite
  extract_lets
  split
  · split
    · exact canonical_laneCfgWrite h
    · exact canonical_mgReqWrite h
    · exact canonical_done (canonical_blkCtlWrite h)
    · exact canonical_done (canonical_blkDataWrite h)
    · exact canonical_mergeWrite _ _ h
  · refine .ite ?_ (canonical_mergeWrite _ _ h)
    exact canonical_mergeThen h (fun _ ht => canonical_onBit (fun _ hu => canonical_handbackWrite hu)
      (canonical_onBit (fun _ hu => canonical_retireWrite hu) ht))
  · split
    · exact canonical_done (canonical_onBit (fun _ ht => canonical_fabricRelease ht) h)
    · exact canonical_srOrderWrite h
    · exact canonical_done (canonical_contStatWrite h)
    · exact canonical_done (canonical_onBit (fun _ ht => canonical_contReenable ht) h)
    · exact canonical_capCtlWrite h
    · exact canonical_rimCtlWrite h
    · exact canonical_mergeWrite _ _ h

theorem canonical_regWrite {ini : Initiator} {x : Option Nat} {a : Nat} {v : Word} (h : s.RegsCanonical) :
    PairCanonical (s.regWrite ini x a v) := by
  unfold State.regWrite
  extract_lets
  split
  · exact .mk h
  · refine .ite (canonical_ctlWrite h) ?_
    refine .ite (canonical_sysWrite h) ?_
    refine .ite (canonical_bistWrite h) ?_
    refine .ite (canonical_secWrite h) ?_
    refine .ite (canonical_gpioWrite h) ?_
    exact .ite (canonical_measWrite h) (.ite (canonical_netWrite h) (.ite (canonical_wheelWrite h) (canonical_unitWrite h)))

theorem canonical_regAfterRead {b : Nat} {d : RegDesc} {i a : Nat} (h : s.RegsCanonical) : (s.regAfterRead b d i a).RegsCanonical := by
  unfold State.regAfterRead
  extract_lets s1
  have h1 : s1.RegsCanonical := canonical_wr _ _ h
  split
  · exact canonical_portRxPop h1
  · exact canonical_capPop h1
  · exact canonical_ite (canonical_drawn h1) h1
  · exact h1
  · exact canonical_latchTime h1
  · exact canonical_notifyPop h1
  · exact canonical_drawn h1
  · exact canonical_notePop h1
  · exact canonical_capAdvance h1
  · exact h1

theorem canonical_regRead {ini : Initiator} {a : Nat} (h : s.RegsCanonical) : PairCanonical (s.regRead ini a) := by
  have h' {c : Prop} {_ : Decidable c} : (if c then s.adcsDue else s).RegsCanonical := canonical_ite (canonical_adcsDue h) h
  unfold State.regRead
  split
  · exact .mk h
  · exact .ite (.mk h') (.mk (canonical_regAfterRead h'))

theorem canonical_gridWrite {a w : Nat} {v : BitVec 64} (h : s.RegsCanonical) : PairCanonical (s.gridWrite a w v) := by
  unfold State.gridWrite
  extract_lets s1
  have h1 : s1.RegsCanonical := canonical_memWrite h
  refine .ite (.mk h) ?_
  refine .ite (.mk (canonical_set _ _ h)) ?_
  refine .ite (.mk h) ?_
  refine .mk ?_
  split
  · exact canonical_memWrite h1
  · exact h1

theorem canonical_gridRead {ini : Initiator} {a w : Nat} (h : s.RegsCanonical) : PairCanonical (s.gridRead ini a w) := by
  unfold State.gridRead
  extract_lets p
  have hp : PairCanonical p := canonical_memRead h
  refine .ite (.mk h) ?_
  split
  · exact .mk hp
  · exact .mk hp

theorem canonical_nvRead {a w bad : Nat} (h : s.RegsCanonical) : PairCanonical (s.nvRead a w bad) := by
  unfold State.nvRead
  extract_lets p
  have hp : PairCanonical p := .ite (canonical_cfRead h) (.ite (canonical_pfRead h) (canonical_otpRead h))
  exact .ite (.mk h) (.mk hp)

theorem canonical_spineReach {ini : Initiator} {x : Option Nat} {write : Bool} {a w : Nat} {v : BitVec 64} {bad : Nat}
    (h : s.RegsCanonical) :
    PairCanonical (s.spineReach ini x write a w v bad) := by
  unfold State.spineReach
  extract_lets p p'
  have hp : PairCanonical p := canonical_regWrite h
  have hp' : PairCanonical p' := canonical_regRead h
  split
  · exact .ite (.mk h) (.ite (.mk hp) (.mk hp'))
  · exact .ite (.mk (canonical_gridWrite h)) (canonical_gridRead h)
  · exact .ite (.mk h) (canonical_nvRead h)
  · exact .mk h

theorem canonical_spineTry {ini : Initiator} {x : Option Nat} {write : Bool} {a w : Nat} {v : BitVec 64} {bad : Nat} {by_ : StallBy}
    (h : s.RegsCanonical) :
    PairCanonical (s.spineTry ini x write a w v bad by_) := by
  unfold State.spineTry
  extract_lets _ p s1
  have hp : PairCanonical p := canonical_spineReach h
  have h1 : s1.RegsCanonical := canonical_wakeDomain h
  exact .ite (.mk h) (.ite (.mk h) (.ite (.mk hp) (.ite (.mk (canonical_ite h1 h1)) (.mk h))))

theorem canonical_spineAccess {ini : Initiator} {write : Bool} {a w : Nat} {v : BitVec 64} {bad : Nat} (h : s.RegsCanonical) :
    (s.spineAccess ini write a w v bad).RegsCanonical := by
  unfold State.spineAccess
  split
  · next s1 _ _ e =>
      have h1 : s1.RegsCanonical := PairCanonical.of_eq e (canonical_spineTry h)
      exact canonical_respond _ _ _ _ h1
  · next s1' e' =>
      have h1' : s1'.RegsCanonical := PairCanonical.of_eq e' (canonical_spineTry h)
      exact h1'

theorem canonical_access {ini : Initiator} {write : Bool} {a w : Nat} {v : BitVec 64} {bad : Nat} (h : s.RegsCanonical) :
    (s.access ini write a w v bad).RegsCanonical := by
  unfold State.access
  split
  · extract_lets
    refine canonical_ite h ?_
    split
    · exact canonical_exception h
    · exact canonical_spineAccess h
    · extract_lets p
      have hp : PairCanonical p := canonical_memRead h
      refine canonical_ite (canonical_memWrite h) ?_
      split
      · exact canonical_exception hp
      · exact canonical_answer hp
  · exact canonical_ite (canonical_spineAccess h) h
  · exact canonical_spineAccess h

theorem canonical_put {ini : Initiator} {a : Nat} {v : Word} (h : s.RegsCanonical) : (s.put ini a v).RegsCanonical := canonical_access h

theorem canonical_putN {ini : Initiator} {a v : Nat} (h : s.RegsCanonical) : (s.putN ini a v).RegsCanonical := canonical_put h

theorem canonical_fetch {ini : Initiator} {a : Nat} (h : s.RegsCanonical) : (s.fetch ini a).RegsCanonical := canonical_access h

/-! ### Machine/SpineUse.lean -/

theorem canonical_loadEnds {d : Fin 4} {double : Bool} {rd a : Nat} {r : Resp} {v : BitVec 64} (h : s.RegsCanonical) :
    (s.loadEnds d double rd a r v).RegsCanonical := by
  unfold State.loadEnds
  extract_lets _ s1 _ s2
  have h1 : s1.RegsCanonical := canonical_respond _ _ _ _ h
  have h2 : s2.RegsCanonical := canonical_setEngine h1
  exact canonical_ite (canonical_putPair h2) (canonical_step4 (canonical_setGr h2))

theorem canonical_storeEnds {d : Fin 4} {a : Nat} {r : Resp} (h : s.RegsCanonical) : (s.storeEnds d a r).RegsCanonical := by
  unfold State.storeEnds
  extract_lets _ s1
  have h1 : s1.RegsCanonical := canonical_respond _ _ _ _ h
  split
  · exact canonical_setEngine h1
  · exact canonical_ite (canonical_setEngine h1) (canonical_setEngine h1)
  · exact canonical_setEngine h1

theorem canonical_execSpineLoadComplete {d : Fin 4} (h : s.RegsCanonical) : OutCanonical (execSpineLoadComplete d s) := by
  unfold execSpineLoadComplete
  extract_lets
  split
  · split
    · next s1 _ _ e =>
        have h1 : s1.RegsCanonical := PairCanonical.of_eq e (canonical_spineTry h)
        exact .next (canonical_loadEnds h1)
    · next s1' e' =>
        have h1' : s1'.RegsCanonical := PairCanonical.of_eq e' (canonical_spineTry h)
        exact .next h1'
  · exact .next h

theorem canonical_execPostedStoreResponse {d : Fin 4} (h : s.RegsCanonical) : OutCanonical (execPostedStoreResponse d s) := by
  unfold execPostedStoreResponse
  split
  · split
    · next s1 _ _ e =>
        have h1 : s1.RegsCanonical := PairCanonical.of_eq e (canonical_spineTry h)
        exact .next (canonical_storeEnds h1)
    · next s1' e' =>
        have h1' : s1'.RegsCanonical := PairCanonical.of_eq e' (canonical_spineTry h)
        exact .next h1'
  · exact .next h

theorem canonical_execSpmRequest {m : Nat} (h : s.RegsCanonical) : OutCanonical (execSpmRequest m s) := by
  unfold execSpmRequest
  extract_lets s'
  have h' : s'.RegsCanonical := canonical_at_ h
  exact .ite (.next h') (.ite (.next (canonical_raise _ (canonical_count _ h'))) (.next h'))

theorem canonical_spmEnds {code : Nat} {v : BitVec 64} (h : s.RegsCanonical) : (s.spmEnds code v).RegsCanonical :=
  canonical_ite h (canonical_raise _ (canonical_count _ h))

theorem canonical_execSpmResponse (h : s.RegsCanonical) : OutCanonical (execSpmResponse s) := by
  unfold execSpmResponse
  extract_lets
  refine .ite (.next h) ?_
  refine .ite (.next (canonical_spmEnds h)) ?_
  split
  · next s1 _ _ e =>
      have h1 : s1.RegsCanonical := PairCanonical.of_eq e (canonical_spineTry h)
      exact .next (canonical_spmEnds (canonical_respond _ _ _ _ h1))
  · next s1' e' =>
      have h1' : s1'.RegsCanonical := PairCanonical.of_eq e' (canonical_spineTry h)
      exact .next h1'

theorem canonical_busWords {x left i : Nat} {q : BusReq} {acc : List Nat} (h : s.RegsCanonical) :
    PairCanonical (State.busWords x q left i acc s) := by
  induction left generalizing i acc s with
  | zero => exact .mk h
  | succ left ih =>
    unfold State.busWords
    extract_lets
    split
    · next s1 e => exact .mk (PairCanonical.of_eq e (canonical_spineTry h))
    · next s1 r d e =>
      extract_lets s2
      have h2 : s2.RegsCanonical := canonical_respond _ _ _ _ (PairCanonical.of_eq e (canonical_spineTry h))
      exact .ite (.mk h2) (.ite (.mk h2) (ih h2))

theorem canonical_busAnswer {x : Nat} {q : IvwReq} {e : BusEnd} (h : s.RegsCanonical) : (s.busAnswer x q e).RegsCanonical := by
  unfold State.busAnswer
  extract_lets _ s1
  have h1 : s1.RegsCanonical := canonical_setSession h
  split
  · exact canonical_ivwAnswer h1
  · exact canonical_ivwAnswer h1
  · exact canonical_setSession h
  · exact h

theorem canonical_busRun {x type : Nat} (h : s.RegsCanonical) : (s.busRun x type).RegsCanonical := by
  unfold State.busRun
  extract_lets
  split
  · split
    · exact canonical_ivwAnswer h
    · extract_lets p
      have hp : PairCanonical p := canonical_busWords h
      exact canonical_busAnswer hp
  · exact h

theorem canonical_execChSpine {t : Nat} {cmd : Fin 16} {addr data : BitVec 32} (h : s.RegsCanonical) :
    OutCanonical (execChSpine t cmd addr data s) := by
  unfold execChSpine
  extract_lets s0 s1
  have h0 : s0.RegsCanonical := canonical_at_ h
  have h1 : s1.RegsCanonical := canonical_tap h0
  exact .ite (.next (canonical_tapBypassed h0)) (.ite (.next (canonical_access h1)) (.ite (.next (canonical_access h1)) (.next h1)))

theorem canonical_execSpineTimeout {ini : Initiator} {write : Bool} {addr width : Nat} {value : BitVec 64} {landed : Bool}
    (h : s.RegsCanonical) :
    OutCanonical (execSpineTimeout ini write addr width value landed s) := by
  unfold execSpineTimeout
  extract_lets reach
  have hreach : ∀ t x y z, t.RegsCanonical → (reach t x y z).RegsCanonical :=
    fun _ _ _ _ hu => canonical_ite (canonical_spineReach hu) hu
  split
  · extract_lets
    split
    · exact .ite (.next (canonical_storeEnds (hreach _ _ _ _ h))) (.next h)
    · exact .ite (.next (canonical_loadEnds (hreach _ _ _ _ h))) (.next h)
    · exact .ite (.next (canonical_respond _ _ _ _ (hreach _ _ _ _ h))) (.next h)
  · exact .ite (.next (canonical_spmEnds (canonical_respond _ _ _ _ (hreach _ _ _ _ h)))) (.next h)
  · split
    · extract_lets _ _ p
      have hp : PairCanonical p := canonical_busWords h
      split
      · exact .next (canonical_busAnswer (canonical_respond _ _ _ _ (hreach _ _ _ _ hp)))
      · exact .next (canonical_busAnswer hp)
    · exact .next h
  · exact .next (canonical_respond _ _ _ _ (hreach _ _ _ _ h))

/-! ### Machine/Wake.lean -/

theorem canonical_stallsGo {d : Nat} (h : s.RegsCanonical) : (s.stallsGo d).RegsCanonical := by
  unfold State.stallsGo
  refine canonical_foldl (fun _ _ hu => ?_) h
  split
  · exact canonical_spineAccess hu
  · exact hu

theorem canonical_stallsFail {d : Nat} (h : s.RegsCanonical) : (s.stallsFail d).RegsCanonical := by
  unfold State.stallsFail
  refine canonical_foldl (fun _ _ hu => ?_) h
  split
  · exact canonical_respond _ _ _ _ hu
  · exact hu

theorem canonical_execDomainWakeDone {d : Fin 23} {t : Nat} (h : s.RegsCanonical) : OutCanonical (execDomainWakeDone d t s) := by
  unfold execDomainWakeDone
  extract_lets s0
  have h0 : s0.RegsCanonical := canonical_at_ h
  exact .ite (.next (canonical_settle (canonical_stallsGo (canonical_domainUp h0)))) (.next h0)

theorem canonical_execWakeAttemptFail {d : Fin 23} {cause : Fin 5} {t : Nat} (h : s.RegsCanonical) :
    OutCanonical (execWakeAttemptFail d cause t s) := by
  unfold execWakeAttemptFail
  extract_lets s0
  have h0 : s0.RegsCanonical := canonical_at_ h
  exact .ite (.next (canonical_stallsFail (canonical_wakeFailed (canonical_ite (canonical_eccInternal h0) h0)))) (.next h0)

/-! ### Machine/SpineRows.lean -/

theorem canonical_putKeep {ini : Initiator} {a keep set : Nat} (h : s.RegsCanonical) : (s.putKeep ini a keep set).RegsCanonical :=
  canonical_put h

theorem canonical_withFwp {high : Bool} (h : s.RegsCanonical) : (s.withFwp high).RegsCanonical := h

theorem canonical_actAs {ini : Initiator} {a : Nat} {act : State → State × Bool} (h : s.RegsCanonical)
    (hact : ∀ t, t.RegsCanonical → PairCanonical (act t)) :
    (s.actAs ini a act).RegsCanonical := by
  unfold State.actAs
  extract_lets p go
  have hp : PairCanonical p := hact _ h
  have hgo : go.RegsCanonical := canonical_respond _ _ _ _ hp
  split
  · exact canonical_ite hgo h
  · exact h
  · exact hgo

theorem canonical_execPrClaim {x : PrClaim} (h : s.RegsCanonical) : OutCanonical (execPrClaim x s) := by
  unfold execPrClaim
  split
  · exact .next (canonical_putKeep h)
  · extract_lets s'
    have h' : s'.RegsCanonical := canonical_at_ h
    exact .next (canonical_prClaim h')

/-! ### Machine/StdProgram.lean -/

theorem canonical_ctxGet {n c ch off : Nat} (h : s.RegsCanonical) : PairCanonical (s.ctxGet n c ch off) := by
  unfold State.ctxGet
  extract_lets p
  have hp : PairCanonical p := canonical_memRead h
  split
  · exact .mk hp
  · exact .mk (canonical_setSt hp)

theorem canonical_ctxGets {n c ch : Nat} {offs : List Nat} (h : s.RegsCanonical) : PairCanonical (s.ctxGets n c ch offs) := by
  unfold State.ctxGets
  refine .foldl (fun _ _ ha => ?_) (.mk h)
  extract_lets p
  have hp : PairCanonical p := canonical_ctxGet ha
  exact .mk hp

theorem canonical_ctxCfg {n c ch : Nat} (h : s.RegsCanonical) : PairCanonical (s.ctxCfg n c ch) := by
  unfold State.ctxCfg
  extract_lets p
  have hp : PairCanonical p := canonical_ctxGets h
  exact .mk hp

theorem canonical_tempEntry {n j : Nat} (h : s.RegsCanonical) : PairCanonical (s.tempEntry n j) := by
  unfold State.tempEntry
  extract_lets p
  have hp : PairCanonical p := canonical_memRead h
  exact .mk hp

theorem canonical_fireTime {n c ch : Nat} {k : CtxCfg} {p fine : Int} (h : s.RegsCanonical) :
    PairCanonical (s.fireTime n c ch k p fine) := by
  unfold State.fireTime
  extract_lets t f
  have ht : PairCanonical t := canonical_tempEntry h
  have hf : PairCanonical f := canonical_ctxGet ht
  exact .mk hf

theorem canonical_setProg {c : Nat} {v : Prog} (h : s.RegsCanonical) : (s.setProg c v).RegsCanonical := canonical_setPair h

theorem canonical_stdNote {n kind channel tag value : Nat} (h : s.RegsCanonical) : (s.stdNote n kind channel tag value).RegsCanonical :=
  canonical_noteAdd h

theorem canonical_stdDrop {n c ch tag reason : Nat} (h : s.RegsCanonical) : (s.stdDrop n c ch tag reason).RegsCanonical := by
  have h1 {b : Nat} {w : Word} : (((s.count (R.CHT_C_DROPPED n)).wr (R.CHT_C_DROP_LAST n) w).chanterEvent n b).RegsCanonical :=
    canonical_chanterEvent (canonical_wr _ _ (canonical_count _ h))
  unfold State.stdDrop
  exact canonical_ite (canonical_stdNote h1) h1

theorem canonical_watchAdd {n c ch : Nat} {entry : BitVec 64} (h : s.RegsCanonical) : (s.watchAdd n c ch entry).RegsCanonical :=
  canonical_ite (canonical_stdDrop h) (canonical_memWrite (canonical_setProg h))

theorem canonical_watchTake {n c b : Nat} (h : s.RegsCanonical) : PairCanonical (s.watchTake n c b) := by
  unfold State.watchTake
  extract_lets _ p
  have hp : PairCanonical p := by
    unfold p
    refine .foldl (fun _ _ ha => ?_) (.mk h)
    extract_lets q
    have hq : PairCanonical q := canonical_memRead ha
    exact .mk hq
  exact .mk (canonical_setProg hp)

theorem canonical_putSlot {n c fuel : Nat} {p : Placed} (h : s.RegsCanonical) : (State.putSlot n c fuel p s).RegsCanonical := by
  induction fuel generalizing p s with
  | zero => exact h
  | succ fuel ih =>
    unfold State.putSlot
    extract_lets _ r known defer
    have hr : PairCanonical r := canonical_slotWrite h
    have hdefer : ∀ q t, t.RegsCanonical → (defer q t).RegsCanonical := by
      intro q t ht
      unfold defer
      split
      · exact ih (canonical_count _ ht)
      · exact canonical_stdDrop ht
    split
    · exact canonical_setProg hr
    · exact hr
    · exact hdefer _ _ (canonical_setProg hr)
    · exact hdefer _ _ hr
    · exact canonical_watchAdd hr

theorem canonical_stdPlace {n c ch : Nat} {p : Int} {ev : BitVec 64} (h : s.RegsCanonical) : (s.stdPlace n c ch p ev).RegsCanonical := by
  unfold State.stdPlace
  extract_lets _ _ q t
  have hq : PairCanonical q := canonical_ctxCfg h
  have ht : PairCanonical t := canonical_fireTime hq
  refine canonical_ite (canonical_stdDrop hq) ?_
  split
  · exact canonical_watchAdd ht
  · split
    · exact canonical_watchAdd ht
    · exact canonical_stdDrop ht
    · extract_lets u
      have hu : u.RegsCanonical := canonical_putSlot ht
      exact canonical_ite (canonical_chanterEvent (canonical_count _ hu)) hu

theorem canonical_stdEvent {n c : Nat} {i : DrainItem} (h : s.RegsCanonical) : (s.stdEvent n c i).RegsCanonical := by
  unfold State.stdEvent
  extract_lets
  split
  · exact h
  · exact canonical_stdNote h
  · exact canonical_ite (canonical_foldl (fun _ _ ht => canonical_stdPlace ht) h) (canonical_countBy h)

theorem canonical_stdDrain {n c fuel : Nat} (h : s.RegsCanonical) : (State.stdDrain n c fuel s).RegsCanonical := by
  induction fuel generalizing s with
  | zero => exact h
  | succ fuel ih =>
    unfold State.stdDrain
    split
    · exact h
    · extract_lets t
      have ht : t.RegsCanonical := canonical_ackDrain (canonical_stdEvent h)
      exact ih (canonical_setProg ht)

theorem canonical_stdWithdraw {n c b : Nat} (h : s.RegsCanonical) : (s.stdWithdraw n c b).RegsCanonical := by
  unfold State.stdWithdraw
  extract_lets
  refine canonical_ite ?_ h
  exact canonical_ite (canonical_foldl (fun _ _ ht => canonical_watchAdd (canonical_putStore ht)) (canonical_setProg h)) h

theorem canonical_stdReconvert {n c b : Nat} (h : s.RegsCanonical) : (s.stdReconvert n c b).RegsCanonical := by
  unfold State.stdReconvert
  extract_lets _ _ _ s1 _ p
  have h1 : s1.RegsCanonical := canonical_setProg h
  have hp : PairCanonical p := canonical_watchTake h1
  exact canonical_ite h (canonical_foldl (fun _ _ ht => canonical_stdPlace ht) hp)

theorem canonical_rowEvents {n c : Nat} {w : Row} (h : s.RegsCanonical) : PairCanonical (s.rowEvents n c w) := by
  unfold State.rowEvents
  extract_lets one
  have hone : ∀ t x y, PairCanonical t → PairCanonical (one t x y) := by
    intro _ _ _ ha'
    unfold one
    extract_lets q
    have hq : PairCanonical q := canonical_ctxCfg ha'
    exact .mk hq
  refine .foldl (fun _ _ ha => ?_) (.mk h)
  extract_lets a1
  have ha1 : PairCanonical a1 := .ite (hone _ _ _ ha) ha
  exact .ite (hone _ _ _ ha1) ha1

theorem canonical_rowMark {n c r state result inserted failed : Nat} (h : s.RegsCanonical) :
    (s.rowMark n c r state result inserted failed).RegsCanonical := by
  unfold State.rowMark
  extract_lets s1 p s2
  have h1 : s1.RegsCanonical := canonical_memWrite h
  have hp : PairCanonical p := canonical_memRead h1
  have h2 : s2.RegsCanonical := canonical_memWrite hp
  exact canonical_setProg h2

theorem canonical_rowLook {n c r : Nat} (h : s.RegsCanonical) : (s.rowLook n c r).RegsCanonical := by
  unfold State.rowLook
  extract_lets a b0 b1 _ p
  have ha : PairCanonical a := canonical_memRead h
  have hb0 : PairCanonical b0 := canonical_memRead ha
  have hb1 : PairCanonical b1 := canonical_memRead hb0
  have hp : PairCanonical p := canonical_rowEvents hb1
  refine canonical_ite h ?_
  refine canonical_ite ha ?_
  split
  · exact hp
  · exact canonical_stdNote (canonical_rowMark hp)
  · exact canonical_setProg hp

theorem canonical_rowAnswers {n c fuel : Nat} (h : s.RegsCanonical) : (State.rowAnswers n c fuel s).RegsCanonical := by
  induction fuel generalizing s with
  | zero => exact h
  | succ fuel ih =>
    unfold State.rowAnswers
    extract_lets
    split
    · extract_lets s1
      have h1 : s1.RegsCanonical := canonical_setEngine h
      split
      · exact ih h1
      · extract_lets _ s2 p
        have h2 : s2.RegsCanonical := canonical_setProg h1
        have hp : PairCanonical p := canonical_memRead h2
        exact ih (canonical_ite h2 (canonical_stdNote hp))
    · exact h

theorem canonical_rowOffers {n c fuel : Nat} (h : s.RegsCanonical) : (State.rowOffers n c fuel s).RegsCanonical := by
  induction fuel generalizing s with
  | zero => exact h
  | succ fuel ih =>
    unfold State.rowOffers
    split
    · split
      · extract_lets _ _ _ _ s2
        have h2 : s2.RegsCanonical := canonical_setEngine (canonical_offer h)
        exact canonical_ite h (canonical_ite (canonical_count _ h) (ih (canonical_setProg h2)))
      · exact h
    · exact h

theorem canonical_stdRows {n c : Nat} (h : s.RegsCanonical) : (s.stdRows n c).RegsCanonical := by
  unfold State.stdRows
  extract_lets _ s1 s2
  have h1 : s1.RegsCanonical := canonical_foldl (fun _ _ ht => canonical_rowLook ht) h
  have h2 : s2.RegsCanonical := canonical_rowOffers (canonical_rowAnswers h1)
  split
  · exact canonical_ite (canonical_rowMark h2) h2
  · exact h2

theorem canonical_endWindow {n c : Nat} {w : EchoWin} (h : s.RegsCanonical) : (s.endWindow n c w).RegsCanonical := by
  unfold State.endWindow
  extract_lets q p _ _ _ _ _ _ s1 s2
  have hq : PairCanonical q := canonical_ctxCfg h
  have hp : PairCanonical p := canonical_ctxGets hq
  have h1 : s1.RegsCanonical := canonical_memWrite (canonical_memWrite (canonical_memWrite hp))
  have h2 : s2.RegsCanonical := canonical_ite (canonical_chanterEvent (canonical_count _ h1)) h1
  exact canonical_ite (canonical_stdNote h2) h2

theorem canonical_stdWindows {n c : Nat} (h : s.RegsCanonical) : (s.stdWindows n c).RegsCanonical := by
  unfold State.stdWindows
  refine canonical_foldl (fun _ _ ht => ?_) h
  extract_lets q
  have hq : PairCanonical q := canonical_ctxCfg ht
  exact canonical_ite (canonical_setProg (canonical_endWindow hq)) (canonical_setProg hq)

theorem canonical_stdCommitted {n c : Nat} {p : Placed} (h : s.RegsCanonical) : (s.stdCommitted n c p).RegsCanonical := by
  unfold State.stdCommitted
  extract_lets _ _ _ s1 d
  have h1 : s1.RegsCanonical := by
    unfold s1
    split
    · exact canonical_endWindow h
    · exact h
  have hd : PairCanonical d := canonical_ctxGet h
  exact canonical_ite (canonical_setProg (canonical_memWrite h1)) (canonical_ite (canonical_setProg (canonical_memWrite hd)) h)

theorem canonical_stdCommits {n c : Nat} (h : s.RegsCanonical) : (s.stdCommits n c).RegsCanonical :=
  canonical_foldl (fun _ _ ht => canonical_stdCommitted ht) (canonical_setProg h)

theorem canonical_stdComplete {c : Nat} (h : s.RegsCanonical) : (s.stdComplete c).RegsCanonical := by
  unfold State.stdComplete
  extract_lets
  exact canonical_ite (canonical_setPair h) h

theorem canonical_stdSources {n c : Nat} (h : s.RegsCanonical) : (s.stdSources n c).RegsCanonical :=
  canonical_foldl (fun _ _ ht => canonical_foldl (fun _ _ hu => canonical_memWrite hu) ht) h

theorem canonical_resumeBad {n c b : Nat} (h : s.RegsCanonical) : (s.resumeBad n c b).RegsCanonical := by
  unfold State.resumeBad
  extract_lets p _ t
  have hp : PairCanonical p := by
    unfold p
    refine .foldl (fun _ _ ha => ?_) (.mk h)
    extract_lets d
    have hd : PairCanonical d := canonical_ctxGet ha
    exact .mk hd
  have ht : t.RegsCanonical := canonical_setProg hp
  exact canonical_stdNote (canonical_chanterEvent ht)

theorem canonical_stdResume {n c b : Nat} (h : s.RegsCanonical) : (s.stdResume n c b).RegsCanonical := by
  unfold State.stdResume
  extract_lets p
  have hp : PairCanonical p := by
    unfold p
    refine .foldl (fun _ _ ha => ?_) (.mk h)
    extract_lets q
    have hq : PairCanonical q := canonical_memRead ha
    exact .mk hq
  exact canonical_ite (canonical_setProg hp) (canonical_resumeBad hp)

theorem canonical_stdEnter {n c : Nat} (h : s.RegsCanonical) : (s.stdEnter n c).RegsCanonical := by
  unfold State.stdEnter
  extract_lets _ t
  have ht : t.RegsCanonical := canonical_stdResume (canonical_stdResume h)
  refine canonical_ite h ?_
  exact canonical_ite (canonical_ite (canonical_stdNote ht) (canonical_stdNote ht)) (canonical_setProg h)

theorem canonical_stdPass {n : Nat} (h : s.RegsCanonical) : (s.stdPass n).RegsCanonical := by
  unfold State.stdPass
  extract_lets _ s0 s1 s2 s3 s4 s5
  have h0 : s0.RegsCanonical := canonical_stdEnter h
  have h1 : s1.RegsCanonical := canonical_stdWindows (canonical_stdCommits h0)
  have h2 : s2.RegsCanonical := canonical_stdWithdraw (canonical_stdWithdraw h1)
  have h3 : s3.RegsCanonical := canonical_stdReconvert (canonical_stdReconvert h2)
  have h4 : s4.RegsCanonical := canonical_stdComplete (canonical_stdRows (canonical_stdDrain h3))
  have h5 : s5.RegsCanonical := canonical_stdSources h4
  split
  · exact canonical_exception (canonical_memRead h0)
  · exact canonical_setEngine h5

theorem canonical_programs (h : s.RegsCanonical) : s.programs.RegsCanonical :=
  canonical_ite (canonical_foldl (fun _ _ ht => canonical_ite (canonical_stdPass ht) ht) h) h

/-! ### Machine/Step.lean -/

theorem canonical_withPending {q : List Instr} (h : s.RegsCanonical) : (s.withPending q).RegsCanonical := h

theorem canonical_tickOne (h : s.RegsCanonical) : s.tickOne.RegsCanonical := h

/-! ## The commands and the step -/

/-- The command at the front: a command that is one operation by the lemma of that operation, every other by its own lemma. -/
theorem canonical_exec (i : Instr) (h : s.RegsCanonical) : OutCanonical (exec i s) := by
  unfold exec
  cases i with
  | registerWrite => exact .next (canonical_access h)
  | rcRead => exact .next (canonical_access h)
  | spineMemoryWrite => exact .next (canonical_access h)
  | spineMemoryRead => exact .next (canonical_access h)
  | spineTimeout => exact canonical_execSpineTimeout h
  | reqArmed => exact .next (canonical_putN h)
  | reqRun => exact .next (canonical_putN h)
  | reqHold => exact .next (canonical_putN h)
  | reqRestart => exact .next (canonical_putN h)
  | armTakeEffect => exact canonical_execArmTakeEffect h
  | safeBurstEnd => exact canonical_execSafeBurstEnd h
  | resetPin => exact canonical_execResetPin h
  | resetExit => exact canonical_execResetExit h
  | encoderEdge => exact canonical_execEncoderEdge h
  | indexPulse => exact canonical_execIndexPulse h
  | ssiSample => exact canonical_execSsiSample h
  | trackerStall => exact canonical_execTrackerStall h
  | trackerCfgWrite => exact .next (canonical_put h)
  | tTick => exact canonical_execTTick h
  | tCfgWrite => exact .next (canonical_put h)
  | laneDomWrite => exact .next (canonical_put h)
  | domHwReset => exact .next (canonical_putKeep h)
  | wheelInsertOffer => exact canonical_execWheelInsertOffer h
  | insEvHiWrite => exact .next (canonical_put h)
  | wheelInsert => exact canonical_execWheelInsert h
  | drainPosition => exact canonical_execDrainPosition h
  | heldBinSkip => exact canonical_execHeldBinSkip h
  | eventDelivery => exact canonical_execEventDelivery h
  | wheelInit => exact .next (canonical_putN h)
  | wheelInitDone => exact canonical_execWheelInitDone h
  | wheelFlush => exact .next (canonical_putN h)
  | wheelFlushDone => exact canonical_execWheelFlushDone h
  | notifyBRead => exact .next (canonical_fetch h)
  | timeLoRead => exact .next (canonical_fetch h)
  | frameCommit => exact canonical_execFrameCommit h
  | pairHandover => exact canonical_execPairHandover h
  | chanterRetire => exact .next (canonical_putKeep h)
  | chanterHandback => exact .next (canonical_putKeep h)
  | noteBRead => exact .next (canonical_fetch h)
  | nop => exact .next (canonical_issue h (fun _ ht => canonical_step4 ht))
  | add => exact canonical_issueRd h
  | sub => exact canonical_issueRd h
  | and => exact canonical_issueRd h
  | or => exact canonical_issueRd h
  | xor => exact canonical_issueRd h
  | shl => exact canonical_issueRd h
  | shr => exact canonical_issueRd h
  | sra => exact canonical_issueRd h
  | mul => exact canonical_issueRd h
  | mulh => exact canonical_issueRd h
  | min => exact canonical_issueRd h
  | max => exact canonical_issueRd h
  | div => exact .next (canonical_issue h (fun _ ht => canonical_putDiv ht))
  | sel => exact canonical_issueRd h
  | cmp => exact .next (canonical_issue h (fun _ ht => canonical_step4 (canonical_setSt ht)))
  | plog => exact .next (canonical_issue h (fun _ ht => canonical_step4 (canonical_setSt ht)))
  | addi => exact canonical_issueRd h
  | andi => exact canonical_issueRd h
  | ori => exact canonical_issueRd h
  | xori => exact canonical_issueRd h
  | shli => exact canonical_issueRd h
  | shri => exact canonical_issueRd h
  | srai => exact canonical_issueRd h
  | cmpi => exact .next (canonical_issue h (fun _ ht => canonical_step4 (canonical_setSt ht)))
  | ext => exact canonical_issueRd h
  | dep => exact canonical_issueRd h
  | movi => exact canonical_issueRd h
  | movhi => exact canonical_issueRd h
  | amul => exact .next (canonical_issue h (fun _ ht => canonical_putAcc ht))
  | amac => exact .next (canonical_issue h (fun _ ht => canonical_putAcc ht))
  | aadd => exact .next (canonical_issue h (fun _ ht => canonical_putAcc ht))
  | ard => exact canonical_execArd h
  | adiv => exact .next (canonical_issue h (fun _ ht => canonical_putDiv ht))
  | ldw => exact .next (canonical_issue h (fun _ ht => canonical_loadOp ht))
  | ldd => exact .next (canonical_issue h (fun _ ht => canonical_loadOp ht))
  | stw => exact .next (canonical_issue h (fun _ ht => canonical_storeOp ht))
  | std => exact .next (canonical_issue h (fun _ ht => canonical_storeOp ht))
  | br => exact .next (canonical_issue h (fun _ ht => canonical_jump ht))
  | call => exact .next (canonical_issue h (fun _ ht => canonical_jump (canonical_setGr ht)))
  | jr => exact canonical_execJr h
  | fence => exact canonical_execFence h
  | spineLoadComplete => exact canonical_execSpineLoadComplete h
  | postedStoreResponse => exact canonical_execPostedStoreResponse h
  | angle => exact canonical_execAngle h
  | time => exact .next (canonical_issue h (fun _ ht => canonical_putPair ht))
  | gets => exact canonical_issueRd h
  | wins => exact canonical_execWins h
  | winsr => exact canonical_execWinsr h
  | sts => exact canonical_execSts h
  | drop => exact canonical_execDrop h
  | watch => exact .next (canonical_issue h (fun _ ht => canonical_step4 (canonical_ackDrain ht)))
  | note => exact canonical_execNote h
  | evt => exact canonical_execEvt h
  | slot => exact canonical_execSlot h
  | ctxl => exact canonical_execCtxl h
  | ctxs => exact canonical_execCtxs h
  | echo => exact canonical_execEcho h
  | wff => exact canonical_execWff h
  | wffWake => exact canonical_execWffWake h
  | iret => exact canonical_execIret h
  | swi => exact canonical_execSwi h
  | waiti => exact .next (canonical_issue h (fun _ ht => canonical_droneSliceTry (canonical_setEngine ht)))
  | interruptTake => exact canonical_execInterruptTake h
  | fastInterruptTake => exact canonical_execFastInterruptTake h
  | droneRestart => exact canonical_execDroneRestart h
  | frameTransmitStart => exact canonical_execFrameTransmitStart h
  | echoReceive => exact canonical_execEchoReceive h
  | echoDue => exact canonical_execEchoDue h
  | sendingTimeout => exact canonical_execSendingTimeout h
  | mgRequest => exact .next (canonical_put h)
  | mgTimeout => exact canonical_execMgTimeout h
  | blockGo => exact .next (canonical_putN h)
  | laneEnable => exact .next (canonical_putKeep h)
  | laneDisable => exact .next (canonical_putKeep h)
  | laneBurstEnd => exact canonical_execLaneBurstEnd h
  | adcEnable => exact .next (canonical_putKeep h)
  | adcDisable => exact .next (canonical_putKeep h)
  | adcStart => exact .next (canonical_putKeep h)
  | adcTrigger => exact canonical_execAdcTrigger h
  | adcCalCycleDone => exact canonical_execAdcCalCycleDone h
  | seqEntryDone => exact canonical_execSeqEntryDone h
  | calStealStart => exact canonical_execCalStealStart h
  | monitorConversion => exact canonical_execMonitorConversion h
  | comparatorStateChange => exact canonical_execComparatorStateChange h
  | cmpConfigWrite => exact .next (canonical_put h)
  | switchFrameRx => exact canonical_execSwitchFrameRx h
  | fdbAgeExpiry => exact canonical_execFdbAgeExpiry h
  | ethLinkChange => exact canonical_execEthLinkChange h
  | gclChange => exact .next (canonical_putKeep h)
  | gclSwap => exact canonical_execGclSwap h
  | gclEntryAdvance => exact canonical_execGclEntryAdvance h
  | ptpMessageRx => exact canonical_execPtpMessageRx h
  | ptpSyncInterval => exact canonical_execPtpSyncInterval h
  | ptpSyncLost => exact canonical_execPtpSyncLost h
  | xcapGo => exact .next (canonical_putKeep h)
  | gptpSecondRollover => exact .next (canonical_xcap (canonical_at_ h))
  | ipDatagramRx => exact canonical_execIpDatagramRx h
  | arpRequestRx => exact canonical_execArpRequestRx h
  | icmpEchoRx => exact .ite (.next (canonical_stackSend h)) (.next h)
  | arpCacheExpiry => exact canonical_execArpCacheExpiry h
  | ipAddrWrite => exact .next (canonical_put h)
  | ivwynDatagramRx => exact canonical_execIvwynDatagramRx h
  | ivwynOpen => exact canonical_execIvwynOpen h
  | ivwynConfirm => exact canonical_execIvwynConfirm h
  | ivwynClose => exact .next (canonical_ivwEmpty h (fun _ _ hu => canonical_closeSession (canonical_ivwAnswer hu)))
  | ivwynPing => exact .next (canonical_ivwEmpty h (fun _ _ hu => canonical_ivwAnswer hu))
  | ivwynIdent => exact .next (canonical_ivwEmpty h (fun _ _ hu => canonical_ivwAnswer hu))
  | ivwynRestart => exact canonical_execIvwynRestart h
  | ivwynRegRead => exact .next (canonical_busRun h)
  | ivwynRegWrite => exact .next (canonical_busRun h)
  | ivwynMemRead => exact .next (canonical_busRun h)
  | ivwynMemWrite => exact .next (canonical_busRun h)
  | ivwynInsert => exact canonical_execIvwynInsert h
  | ivwynRow => exact .next (canonical_toFirmware (canonical_at_ h))
  | ivwynApp => exact .next (canonical_toFirmware (canonical_at_ h))
  | ivwynMode => exact canonical_execIvwynMode h
  | ivwynSnap => exact .next (canonical_ivwEmpty h (fun _ _ hu => canonical_ivwAnswer (canonical_assertSnap hu)))
  | ivwynSubscribe => exact canonical_execIvwynSubscribe h
  | fwTimeout => exact canonical_execFwTimeout h
  | ivwRxDone => exact .next (canonical_putN h)
  | ivwTxq => exact .next (canonical_putN h)
  | sessionIdleTimeout => exact canonical_execSessionIdleTimeout h
  | confirmTimeout => exact canonical_execConfirmTimeout h
  | secOpenDone => exact canonical_execSecOpenDone h
  | secConfirmDone => exact canonical_execSecConfirmDone h
  | emnDataFrameRx => exact canonical_execEmnDataFrameRx h
  | emnAckTimeout => exact canonical_execEmnAckTimeout h
  | emnIdleTimeout => exact canonical_execEmnIdleTimeout h
  | emnTrainRx => exact canonical_execEmnTrainRx h
  | emnPortLinked => exact canonical_execEmnPortLinked h
  | emnAngleRx => exact canonical_execEmnAngleRx h
  | emnSyncRx => exact canonical_execEmnSyncRx h
  | emnSnapRx => exact canonical_execEmnSnapRx h
  | emnDreqRx => exact canonical_execEmnDreqRx h
  | emnDrspRx => exact canonical_execEmnDrspRx h
  | emnAckRx => exact canonical_execEmnAckRx h
  | emnCreditRx => exact canonical_execEmnCreditRx h
  | emnDelayMeasure => exact canonical_execEmnDelayMeasure h
  | emnAngleSend => exact canonical_execEmnAngleSend h
  | triggerApply => exact canonical_execTriggerApply h
  | syncGo => exact .next (canonical_putN h)
  | syncPinEdge => exact .next (canonical_ite (canonical_syncLocal (canonical_at_ h)) (canonical_at_ h))
  | enumRx => exact canonical_execEnumRx h
  | enumTailTimeout => exact canonical_execEnumTailTimeout h
  | emnReportRx => exact canonical_execEmnReportRx h
  | emnEvtRx => exact canonical_execEmnEvtRx h
  | emnFwRx => exact canonical_execEmnFwRx h
  | emnTxq => exact .next (canonical_putN h)
  | emnRxDone => exact .next (canonical_putN h)
  | cfgBegin => exact canonical_execCfgBegin h
  | cfgData => exact canonical_execCfgData h
  | cfgEnd => exact canonical_execCfgEnd h
  | cfgAbort => exact canonical_execCfgAbort h
  | cfgRepairReq => exact canonical_execCfgRepairReq h
  | cfgRepairData => exact canonical_execCfgRepairData h
  | reedNop => exact .next (canonical_reed h (fun _ _ ht => ht))
  | reedMov => exact .next (canonical_reed h (fun _ _ ht => ht))
  | reedAdd => exact .next (canonical_reed h (fun _ _ ht => ht))
  | reedAdc => exact .next (canonical_reed h (fun _ _ ht => ht))
  | reedSub => exact .next (canonical_reed h (fun _ _ ht => ht))
  | reedSbc => exact .next (canonical_reed h (fun _ _ ht => ht))
  | reedAnd => exact .next (canonical_reed h (fun _ _ ht => ht))
  | reedOr => exact .next (canonical_reed h (fun _ _ ht => ht))
  | reedXor => exact .next (canonical_reed h (fun _ _ ht => ht))
  | reedAndn => exact .next (canonical_reed h (fun _ _ ht => ht))
  | reedNot => exact .next (canonical_reed h (fun _ _ ht => ht))
  | reedShl => exact .next (canonical_reed h (fun _ _ ht => ht))
  | reedShr => exact .next (canonical_reed h (fun _ _ ht => ht))
  | reedSra => exact .next (canonical_reed h (fun _ _ ht => ht))
  | reedRol => exact .next (canonical_reed h (fun _ _ ht => ht))
  | reedMull => exact .next (canonical_reed h (fun _ _ ht => ht))
  | reedMulh => exact .next (canonical_reed h (fun _ _ ht => ht))
  | reedMulhu => exact .next (canonical_reed h (fun _ _ ht => ht))
  | reedMin => exact .next (canonical_reed h (fun _ _ ht => ht))
  | reedMax => exact .next (canonical_reed h (fun _ _ ht => ht))
  | reedMinu => exact .next (canonical_reed h (fun _ _ ht => ht))
  | reedMaxu => exact .next (canonical_reed h (fun _ _ ht => ht))
  | reedEq => exact .next (canonical_reed h (fun _ _ ht => ht))
  | reedLt => exact .next (canonical_reed h (fun _ _ ht => ht))
  | reedLtu => exact .next (canonical_reed h (fun _ _ ht => ht))
  | reedTst => exact .next (canonical_reed h (fun _ _ ht => ht))
  | reedSel => exact .next (canonical_reed h (fun _ _ ht => ht))
  | reedBsel => exact .next (canonical_reed h (fun _ _ ht => ht))
  | reedMuxq => exact .next (canonical_reed h (fun _ _ ht => ht))
  | reedAdds => exact .next (canonical_reed h (fun _ _ ht => ht))
  | reedSubs => exact .next (canonical_reed h (fun _ _ ht => ht))
  | reedInceq => exact .next (canonical_reed h (fun _ _ ht => ht))
  | reedRamrd => exact .next (canonical_reed h (fun _ _ ht => canonical_ramRead ht))
  | reedRamwr => exact .next (canonical_reed h (fun _ _ ht => canonical_ramWrite ht))
  | reedFlag => exact .next (canonical_reed h (fun _ _ ht => ht))
  | reedLutStep => exact canonical_execReedLutStep h
  | fabricRelease => exact .next (canonical_putN h)
  | quadrantRelease => exact canonical_execQuadrantRelease h
  | firqEdge => exact canonical_execFirqEdge h
  | fabricHoldChange => exact canonical_execFabricHoldChange h
  | spmRequest => exact canonical_execSpmRequest h
  | spmResponse => exact canonical_execSpmResponse h
  | configUpset => exact canonical_execConfigUpset h
  | contReenable => exact .next (canonical_putN h)
  | captureGo => exact .next (canonical_putKeep h)
  | captureTaken => exact canonical_execCaptureTaken h
  | captureFree => exact .next (canonical_putKeep h)
  | capDataRead => exact .next (canonical_fetch h)
  | prClaim => exact canonical_execPrClaim h
  | prStart => exact .next (canonical_putKeep h)
  | prAbort => exact .next (canonical_putKeep h)
  | prDataPush => exact .next (canonical_put h)
  | prRimPush => exact .next (canonical_prRim h (fun _ ht => canonical_ite (canonical_prPush ht) ht))
  | prRimStartFlash => exact .next (canonical_prRim h (fun _ ht => canonical_prStart ht))
  | prRimStartPush => exact .next (canonical_prRim h (fun _ ht => canonical_prStart ht))
  | prRimAbort => exact .next (canonical_prRim h (fun _ ht => canonical_prAbort ht))
  | prStagingDone => exact canonical_execPrStagingDone h
  | prAuthDone => exact canonical_execPrAuthDone h
  | prDecryptDone => exact canonical_execPrDecryptDone h
  | prApplyDone => exact canonical_execPrApplyDone h
  | scanFrameRead => exact canonical_execScanFrameRead h
  | frameRepair => exact canonical_execFrameRepair h
  | repairChainTimeout => exact canonical_execRepairChainTimeout h
  | quadrantRestoreDone => exact canonical_execQuadrantRestoreDone h
  | restoreRelease => exact .next (canonical_putN h)
  | verifyPassDone => exact canonical_execVerifyPassDone h
  | loadPassDone => exact canonical_execLoadPassDone h
  | passTimeout => exact canonical_execPassTimeout h
  | chainPassSend => exact canonical_execChainPassSend h
  | chainAckStall => exact canonical_execChainAckStall h
  | chainReportTimeout => exact canonical_execChainReportTimeout h
  | readyReportSend => exact canonical_execReadyReportSend h
  | updGo => exact .next (canonical_putN h)
  | updDone => exact canonical_execUpdDone h
  | promote => exact .next (canonical_actAs (canonical_withFwp h) (fun _ ht => .mk (canonical_updCtlWrite ht)))
  | pageProg => exact .next (canonical_putN (canonical_withFwp h))
  | sectorErase => exact .next (canonical_actAs (canonical_withFwp h) (fun _ ht => canonical_flashCmdWrite ht))
  | checkSeal => exact .next (canonical_putN h)
  | marginRead => exact .next (canonical_putN h)
  | suspend => exact .next (canonical_putN h)
  | resume => exact .next (canonical_putN h)
  | pfProg => exact .next (canonical_putN (canonical_withFwp h))
  | pfErase => exact .next (canonical_putN (canonical_withFwp h))
  | flashCommandDone => exact canonical_execFlashCommandDone h
  | autoResume => exact canonical_execAutoResume h
  | compactionDone => exact canonical_execCompactionDone h
  | otpProgram => exact .next (canonical_putN (canonical_withFwp h))
  | otpProgramDone => exact canonical_execOtpProgramDone h
  | uvloRise => exact canonical_execUvloRise h
  | uvloFall => exact canonical_execUvloFall h
  | overvoltageStop => exact canonical_execOvervoltageStop h
  | thermalStop => exact canonical_execThermalStop h
  | holdupTrip => exact canonical_execHoldupTrip h
  | holdupRelease => exact .ite (.next (canonical_clearHold (canonical_set _ _ h))) (.next h)
  | railsGood => exact canonical_execRailsGood h
  | railStartTimeout => exact canonical_execRailStartTimeout h
  | railRetry => exact canonical_execRailRetry h
  | railFault => exact canonical_execRailFault h
  | failCountClear => exact canonical_execFailCountClear h
  | vcorePhaseLost => exact canonical_execVcorePhaseLost h
  | phaseRearm => exact .next (canonical_putN h)
  | phaseRearmDone => exact canonical_execPhaseRearmDone h
  | domainRequest => exact .next (canonical_putKeep h)
  | domainEntryDone => exact canonical_execDomainEntryDone h
  | domainEntryAbort => exact canonical_execDomainEntryAbort h
  | domainWake => exact canonical_execDomainWake h
  | domainWakeDone => exact canonical_execDomainWakeDone h
  | wakeAttemptFail => exact canonical_execWakeAttemptFail h
  | wakeRetry => exact canonical_execWakeRetry h
  | refDetect => exact .ite (.next (canonical_set _ _ h)) (.next h)
  | pllLock => exact canonical_execPllLock h
  | pllLockTimeout => exact canonical_execPllLockTimeout h
  | pllLockRetry => exact canonical_execPllLockRetry h
  | pllLockLoss => exact .ite (.next (canonical_pllFault h)) (.next h)
  | vtuneMeasure => exact canonical_execVtuneMeasure h
  | pllDisagreement => exact .ite (.next (canonical_pllFault h)) (.next h)
  | coreSwitch => exact .next (canonical_putKeep h)
  | pllReturn => exact .next (canonical_putKeep h)
  | pllRelock => exact .next (canonical_putN h)
  | refLost => exact canonical_execRefLost h
  | refReturn => exact canonical_execRefReturn h
  | clkoutCfgWrite => exact .next (canonical_put h)
  | irqRaise => exact .next (canonical_put h)
  | irqPendClear => exact .next (canonical_put h)
  | wdEnable => exact .next (canonical_putN h)
  | wdKick => exact .next (canonical_put h)
  | watchdogExpiry => exact canonical_execWatchdogExpiry h
  | droneUnretire => exact .next (canonical_putKeep h)
  | snapTrigger => exact canonical_execSnapTrigger h
  | snapGo => exact .next (canonical_putKeep h)
  | snapFree => exact .next (canonical_putKeep h)
  | snapPinEdge => exact .next (canonical_ite (canonical_assertSnap h) h)
  | bitUpset => exact .ite (.next (canonical_setMemWord h)) (.next h)
  | scrubPass => exact .next (canonical_putN h)
  | fillPass => exact .next (canonical_putN h)
  | scrubAbort => exact .next (canonical_putKeep h)
  | scrubPassDone => exact canonical_execScrubPassDone h
  | walkerLapDone => exact canonical_execWalkerLapDone h
  | forcedGrant => exact canonical_execForcedGrant h
  | selftestTick => exact canonical_execSelftestTick h
  | manualSlice => exact .next (canonical_putKeep h)
  | droneSliceWaitTimeout => exact canonical_execDroneSliceWaitTimeout h
  | sliceBudgetExpiry => exact canonical_execSliceBudgetExpiry h
  | sliceSeal => exact canonical_execSliceSeal h
  | sliceRestoreDone => exact canonical_execSliceRestoreDone h
  | tractUseWrite => exact .next (canonical_put h)
  | svcHalt => exact .next (canonical_putKeep h)
  | svcRestart => exact .next (canonical_putKeep h)
  | tapExtest => exact canonical_execTapExtest h
  | tapSamplePreload => exact canonical_execTapSamplePreload h
  | tapIdcode => exact .next (canonical_tap h)
  | tapBypass => exact .next (canonical_tap h)
  | chStatus => exact .next (canonical_tap h)
  | chChallenge => exact canonical_execChChallenge h
  | chUnlock => exact canonical_execChUnlock h
  | chSpine => exact canonical_execChSpine h
  | chRelock => exact .ite (.next (canonical_tap (canonical_endService h))) (.next (canonical_tapBypassed h))
  | chScan => exact .ite (.next (canonical_tap h)) (.next (canonical_tapBypassed h))
  | tapServiceIdle => exact canonical_execTapServiceIdle h
  | challengeNew => exact .next (canonical_putN h)
  | provGo => exact .next (canonical_putN (canonical_withFwp (canonical_at_ h)))
  | addRoot => exact .next (canonical_provApply h)
  | revokeRoot => exact .next (canonical_provApply (canonical_drawn h))
  | setFleet => exact .next (canonical_provApply h)
  | lock => exact .next (canonical_provApply h)
  | scrap => exact .next (canonical_provApply h)
  | provRelease => exact .next (canonical_provApply h)
  | provEnd => exact .next (canonical_putN h)
  | provAbandon => exact canonical_execProvAbandon h
  | attestGo => exact .next (canonical_putN (canonical_at_ h))
  | attestDone => exact canonical_execAttestDone h
  | outSet => exact .next (canonical_put h)
  | outClr => exact .next (canonical_put h)
  | outTgl => exact .next (canonical_put h)
  | gpCfgWrite => exact .next (canonical_put h)
  | gpioInputChange => exact canonical_execGpioInputChange h
  | capTimeRead => exact .next (canonical_fetch h)
  | portTxWrite => exact .next (canonical_put h)
  | i2cStart => exact .next (canonical_putN h)
  | i2cWrite => exact .next (canonical_putN h)
  | i2cReadAck => exact .next (canonical_putN h)
  | i2cReadNack => exact .next (canonical_putN h)
  | i2cStop => exact .next (canonical_putN h)
  | portTransferDone => exact canonical_execPortTransferDone h
  | portRxRead => exact .next (canonical_fetch h)
  | pwmWrite => exact .next (canonical_put h)
  | receiverPairLoss => exact canonical_execReceiverPairLoss h
  | overvoltageRelease => exact canonical_execOvervoltageRelease h
  | thermalStopRelease => exact canonical_execThermalStopRelease h
  | rimCaptureEdge => exact canonical_execRimCaptureEdge h
  | unlocked => exact canonical_execUnlocked h
  -- the one command left is `seal`, whose name is a keyword of Lean
  | _ => exact .next (canonical_putN h)

theorem canonical_step (h : s.RegsCanonical) : OutCanonical (step s) := by
  unfold step
  split
  · exact .next (canonical_ivwTxNext (canonical_programs (canonical_tickOne h)))
  · exact canonical_exec _ (canonical_withPending h)

end State

/-- Settles O59: the outcome of a step is a next state with a canonical register list, by one lemma for each operation of the model and the
cases of the command at the front. -/
theorem stepsKeepTheRegistersCanonical : Obligations.StepsKeepTheRegistersCanonical := by
  unfold Obligations.StepsKeepTheRegistersCanonical
  intro s t h e
  have hs : OutCanonical (.next t) := e ▸ State.canonical_step h
  cases hs with
  | next ht => exact ht

end Sys2Proof.Machine
end

section
/-! PROOFS. The grid code (R495-R497). Each check bit makes a line of nine stored bits, a row or a column with its own parity bit, whose
exclusive-or is 0 in a stored word. That exclusive-or is the line's bit of the syndrome, and it is linear: in a stored word with some bits
inverted it says whether an odd number of the bad bits lie on the line, whatever the data. So the classification of R496 follows from the rows
and the columns in which the bad bits lie. -/
namespace Sys2Proof.Machine

/-! ## Exclusive-or of a list of bits -/

@[simp] theorem xorBits_concat (l : List Bool) (b : Bool) : xorBits (l ++ [b]) = (xorBits l != b) := by
  simp [xorBits]

theorem xorBits_map_bne {α : Type} (f g : α → Bool) (l : List α) :
    xorBits (l.map fun x => f x != g x) = (xorBits (l.map f) != xorBits (l.map g)) := by
  induction l using List.reverseRecOn with
  | nil => rfl
  | append_singleton l x ih =>
    rw [List.map_append, List.map_append, List.map_append, List.map_singleton, List.map_singleton, List.map_singleton,
      xorBits_concat, xorBits_concat, xorBits_concat, ih]
    cases xorBits (l.map f) <;> cases xorBits (l.map g) <;> simp

theorem xorBits_map_eq_of_nodup {l : List Nat} (h : l.Nodup) (n : Nat) : xorBits (l.map fun k => decide (n = k)) = decide (n ∈ l) := by
  induction l using List.reverseRecOn with
  | nil => rfl
  | append_singleton l x ih =>
    obtain ⟨hl, hx⟩ : l.Nodup ∧ x ∉ l := by simpa [List.nodup_append, imp_not_comm] using h
    rw [List.map_append, List.map_singleton, xorBits_concat, ih hl]
    by_cases e : n = x
    · simp [e, hx]
    · simp [e]

/-! ## Lines of the grid and their syndrome -/

/-- The stored bits of row i: its eight data bits and RP[i] (R495). -/
def gridRowLine (i : Nat) : List Nat := (List.range 8).map (fun j => 8 * i + j) ++ [64 + i]

/-- The stored bits of column j: its eight data bits and CP[j] (R495). -/
def gridColLine (j : Nat) : List Nat := (List.range 8).map (fun i => 8 * i + j) ++ [72 + j]

/-- The syndrome of a line: the exclusive-or of its stored bits. -/
def gridSyndrome (w : BitVec 80) (l : List Nat) : Bool := xorBits (l.map w.getLsbD)

theorem nodup_gridRowLine {i : Nat} (hi : i < 8) : (gridRowLine i).Nodup := by
  interval_cases i <;> decide

theorem nodup_gridColLine {j : Nat} (hj : j < 8) : (gridColLine j).Nodup := by
  interval_cases j <;> decide

theorem rowParity_truncate (w : BitVec 80) {i : Nat} (hi : i < 8) :
    rowParity (w.truncate 64) i = xorBits ((List.range 8).map fun j => w.getLsbD (8 * i + j)) := by
  unfold rowParity
  congr 1
  refine List.map_congr_left fun j hj => ?_
  have hj : j < 8 := List.mem_range.mp hj
  have hlt : 8 * i + j < 64 := by omega
  simp [hlt]

theorem colParity_truncate (w : BitVec 80) {j : Nat} (hj : j < 8) :
    colParity (w.truncate 64) j = xorBits ((List.range 8).map fun i => w.getLsbD (8 * i + j)) := by
  unfold colParity
  congr 1
  refine List.map_congr_left fun i hi => ?_
  have hi : i < 8 := List.mem_range.mp hi
  have hlt : 8 * i + j < 64 := by omega
  simp [hlt]

theorem gridSyndrome_gridRowLine (w : BitVec 80) {i : Nat} (hi : i < 8) :
    gridSyndrome w (gridRowLine i) = (w.getLsbD (64 + i) != rowParity (w.truncate 64) i) := by
  rw [rowParity_truncate w hi, bne_comm]
  simp [gridSyndrome, gridRowLine, Function.comp_def]

theorem gridSyndrome_gridColLine (w : BitVec 80) {j : Nat} (hj : j < 8) :
    gridSyndrome w (gridColLine j) = (w.getLsbD (72 + j) != colParity (w.truncate 64) j) := by
  rw [colParity_truncate w hj, bne_comm]
  simp [gridSyndrome, gridColLine, Function.comp_def]

theorem gridSyndrome_xor (w e : BitVec 80) (l : List Nat) : gridSyndrome (w ^^^ e) l = (gridSyndrome w l != gridSyndrome e l) := by
  rw [gridSyndrome, gridSyndrome, gridSyndrome, ← xorBits_map_bne]
  congr 2
  funext k
  rw [BitVec.getLsbD_xor, Bool.bne_eq_xor]

theorem gridSyndrome_two_pow {n : Nat} (hn : n < 80) {l : List Nat} (h : l.Nodup) :
    gridSyndrome (BitVec.ofNat 80 (2 ^ n)) l = decide (n ∈ l) := by
  rw [← xorBits_map_eq_of_nodup h, gridSyndrome]
  congr 2
  funext k
  rw [BitVec.getLsbD_ofNat, Nat.testBit_two_pow, Bool.and_eq_right_iff_imp]
  exact fun e => decide_eq_true (of_decide_eq_true e ▸ hn)

/-! ## The stored word -/

theorem testBit_foldl_two_pow (f : Nat → Bool) (m k : Nat) :
    ((List.range m).foldl (fun a i => if f i then a + 2 ^ i else a) 0).testBit k = (decide (k < m) && f k) := by
  induction m generalizing k with
  | zero => simp
  | succ m ih =>
    rw [List.range_succ, List.foldl_append, List.foldl_cons, List.foldl_nil]
    set a := (List.range m).foldl (fun a i => if f i then a + 2 ^ i else a) 0
    have ha : a < 2 ^ m := Nat.lt_pow_two_of_testBit a fun i hi => by simp [ih, hi]
    have hstep : (if f m then a + 2 ^ m else a) = 2 ^ m * (f m).toNat + a := by
      cases f m <;> simp [Nat.add_comm]
    rw [hstep, Nat.testBit_two_pow_mul_add _ ha, ih, Nat.testBit_bool_toNat]
    obtain h | rfl | h := Nat.lt_trichotomy k m
    · simp [h, Nat.lt_succ_of_lt h]
    · simp
    · have hk : ¬ k ≤ m := Nat.not_le.mpr h
      have hs : ¬ k - m = 0 := by omega
      simp [Nat.lt_asymm h, hs, hk]

theorem getLsbD_octet (f : Nat → Bool) {k : Nat} (hk : k < 8) : (octet f).getLsbD k = f k := by
  rw [octet, BitVec.getLsbD_ofNat, testBit_foldl_two_pow]
  simp [hk]

@[simp] theorem truncate_gridEncode (d : BitVec 64) : (gridEncode d).truncate 64 = d :=
  BitVec.setWidth_append_eq_right

theorem getLsbD_gridEncode_row (d : BitVec 64) {i : Nat} (hi : i < 8) : (gridEncode d).getLsbD (64 + i) = rowParity d i := by
  have h : (gridEncode d).getLsbD (64 + i) = _ := BitVec.getLsbD_append
  rw [h, if_neg (by omega), Nat.add_sub_cancel_left, BitVec.getLsbD_append, if_pos hi, getLsbD_octet _ hi]

theorem getLsbD_gridEncode_col (d : BitVec 64) {j : Nat} (hj : j < 8) : (gridEncode d).getLsbD (72 + j) = colParity d j := by
  have h : (gridEncode d).getLsbD (64 + (8 + j)) = _ := BitVec.getLsbD_append
  rw [show 72 + j = 64 + (8 + j) by omega, h, if_neg (by omega), Nat.add_sub_cancel_left, BitVec.getLsbD_append, if_neg (by omega),
    Nat.add_sub_cancel_left, getLsbD_octet _ hj]

theorem gridSyndrome_gridEncode_row (d : BitVec 64) {i : Nat} (hi : i < 8) : gridSyndrome (gridEncode d) (gridRowLine i) = false := by
  simp [gridSyndrome_gridRowLine, getLsbD_gridEncode_row, hi]

theorem gridSyndrome_gridEncode_col (d : BitVec 64) {j : Nat} (hj : j < 8) : gridSyndrome (gridEncode d) (gridColLine j) = false := by
  simp [gridSyndrome_gridColLine, getLsbD_gridEncode_col, hj]

/-! ## The stored word with some of its bits inverted -/

/-- The row line on which stored bit n lies; a CP bit lies on none. -/
def gridRowOf (n : Nat) : Option Nat := if n < 64 then some (n / 8) else if n < 72 then some (n - 64) else none

/-- The column line on which stored bit n lies; an RP bit lies on none. -/
def gridColOf (n : Nat) : Option Nat := if n < 64 then some (n % 8) else if n < 72 then none else some (n - 72)

theorem mem_gridRowLine {n i : Nat} (hi : i < 8) : n ∈ gridRowLine i ↔ gridRowOf n = some i := by
  have h : n ∈ gridRowLine i ↔ n < 64 ∧ n / 8 = i ∨ n = 64 + i := by
    simp only [gridRowLine, List.mem_append, List.mem_map, List.mem_range, List.mem_singleton]
    constructor
    · rintro (⟨j, hj, rfl⟩ | rfl) <;> omega
    · rintro (⟨_, rfl⟩ | rfl)
      · exact .inl ⟨n % 8, by omega, by omega⟩
      · exact .inr rfl
  rw [h, gridRowOf]
  split_ifs <;> simp <;> omega

theorem mem_gridColLine {n j : Nat} (hj : j < 8) : n ∈ gridColLine j ↔ gridColOf n = some j := by
  have h : n ∈ gridColLine j ↔ n < 64 ∧ n % 8 = j ∨ n = 72 + j := by
    simp only [gridColLine, List.mem_append, List.mem_map, List.mem_range, List.mem_singleton]
    constructor
    · rintro (⟨i, hi, rfl⟩ | rfl) <;> omega
    · rintro (⟨_, rfl⟩ | rfl)
      · exact .inl ⟨n / 8, by omega, by omega⟩
      · exact .inr rfl
  rw [h, gridColOf]
  split_ifs <;> simp <;> omega

/-- The stored word of `d` with the bits `ns` inverted, one after the other. -/
def gridBad (d : BitVec 64) (ns : List Nat) : BitVec 80 := ns.foldl (fun w n => w ^^^ BitVec.ofNat 80 (2 ^ n)) (gridEncode d)

theorem gridSyndrome_gridBad {d : BitVec 64} {l ns : List Nat} (hl : l.Nodup) (hd : gridSyndrome (gridEncode d) l = false)
    (hns : ∀ n ∈ ns, n < 80) : gridSyndrome (gridBad d ns) l = xorBits (ns.map fun n => decide (n ∈ l)) := by
  induction ns using List.reverseRecOn with
  | nil => exact hd
  | append_singleton ns n ih =>
    obtain ⟨hns', hn⟩ : (∀ k ∈ ns, k < 80) ∧ n < 80 := by simpa [or_imp, forall_and] using hns
    rw [gridBad, List.foldl_append, List.foldl_cons, List.foldl_nil, ← gridBad, gridSyndrome_xor, ih hns', gridSyndrome_two_pow hn hl,
      List.map_append, List.map_singleton, xorBits_concat]

/-- The lines (of rows or of columns, as `o` says) on which an odd number of the bits `ns` lie. -/
def gridOddLines (o : Nat → Option Nat) (ns : List Nat) : List Nat :=
  (List.range 8).filter fun k => xorBits (ns.map fun n => decide (o n = some k))

theorem gridRows_gridBad (d : BitVec 64) {ns : List Nat} (hns : ∀ n ∈ ns, n < 80) :
    gridRows (gridBad d ns) = gridOddLines gridRowOf ns := by
  refine List.filter_congr fun i hi => ?_
  have hi : i < 8 := List.mem_range.mp hi
  rw [← gridSyndrome_gridRowLine _ hi, gridSyndrome_gridBad (nodup_gridRowLine hi) (gridSyndrome_gridEncode_row d hi) hns]
  simp only [mem_gridRowLine hi]

theorem gridCols_gridBad (d : BitVec 64) {ns : List Nat} (hns : ∀ n ∈ ns, n < 80) :
    gridCols (gridBad d ns) = gridOddLines gridColOf ns := by
  refine List.filter_congr fun j hj => ?_
  have hj : j < 8 := List.mem_range.mp hj
  rw [← gridSyndrome_gridColLine _ hj, gridSyndrome_gridBad (nodup_gridColLine hj) (gridSyndrome_gridEncode_col d hj) hns]
  simp only [mem_gridColLine hj]

/-! ## The lines of one and of two bad bits -/

theorem filter_range_eq_some {m : Nat} {o : Option Nat} (ho : ∀ k ∈ o, k < m) :
    ((List.range m).filter fun k => decide (o = some k)) = o.toList := by
  cases o with
  | none => simp
  | some k =>
    have hk : k ∈ List.range m := List.mem_range.mpr (ho k rfl)
    simpa [List.count_eq_one_of_mem List.nodup_range hk, eq_comm] using (List.range m).filter_eq k

section
variable {o : Nat → Option Nat} {m n a b : Nat}

theorem gridOddLines_one (h : ∀ k ∈ o n, k < 8) : gridOddLines o [n] = (o n).toList := by
  simpa [gridOddLines, xorBits] using filter_range_eq_some h

theorem gridOddLines_two_of_eq (h : o m = o n) : gridOddLines o [m, n] = [] := by
  simp [gridOddLines, xorBits, h]

theorem gridOddLines_two_of_none_right (hn : o n = none) (h : ∀ k ∈ o m, k < 8) : gridOddLines o [m, n] = (o m).toList := by
  simpa [gridOddLines, xorBits, hn] using filter_range_eq_some h

theorem gridOddLines_two_of_none_left (hm : o m = none) (h : ∀ k ∈ o n, k < 8) : gridOddLines o [m, n] = (o n).toList := by
  simpa [gridOddLines, xorBits, hm] using filter_range_eq_some h

theorem mem_gridOddLines_two (hm : o m = some a) (hn : o n = some b) (hab : a ≠ b) (ha : a < 8) (hb : b < 8) :
    a ∈ gridOddLines o [m, n] ∧ b ∈ gridOddLines o [m, n] := by
  simp [gridOddLines, xorBits, hm, hn, hab, hab.symm, ha, hb]

end

theorem gridRowOf_lt {n : Nat} (hn : n < 80) : ∀ i ∈ gridRowOf n, i < 8 := by
  unfold gridRowOf
  split_ifs <;> simp <;> omega

theorem gridColOf_lt {n : Nat} (hn : n < 80) : ∀ j ∈ gridColOf n, j < 8 := by
  unfold gridColOf
  split_ifs <;> simp <;> omega

theorem gridRowOf_data {i j : Nat} (hi : i < 8) (hj : j < 8) : gridRowOf (8 * i + j) = some i := by
  rw [gridRowOf, if_pos (by omega), Option.some.injEq]
  omega

theorem gridColOf_data {i j : Nat} (hi : i < 8) (hj : j < 8) : gridColOf (8 * i + j) = some j := by
  rw [gridColOf, if_pos (by omega), Option.some.injEq]
  omega

theorem gridRowOf_rp {i : Nat} (hi : i < 8) : gridRowOf (64 + i) = some i := by
  rw [gridRowOf, if_neg (by omega), if_pos (by omega), Nat.add_sub_cancel_left]

theorem gridColOf_rp {i : Nat} (hi : i < 8) : gridColOf (64 + i) = none := by
  rw [gridColOf, if_neg (by omega), if_pos (by omega)]

theorem gridRowOf_cp (j : Nat) : gridRowOf (72 + j) = none := by
  rw [gridRowOf, if_neg (by omega), if_neg (by omega)]

theorem gridColOf_cp (j : Nat) : gridColOf (72 + j) = some j := by
  rw [gridColOf, if_neg (by omega), if_neg (by omega), Nat.add_sub_cancel_left]

/-- A stored bit is a data bit, an RP bit or a CP bit (R495). -/
theorem gridBit_cases {n : Nat} (hn : n < 80) :
    (∃ i j, i < 8 ∧ j < 8 ∧ n = 8 * i + j) ∨ (∃ i, i < 8 ∧ n = 64 + i) ∨ ∃ j, j < 8 ∧ n = 72 + j := by
  by_cases h64 : n < 64
  · exact .inl ⟨n / 8, n % 8, by omega, by omega, by omega⟩
  · by_cases h72 : n < 72
    · exact .inr (.inl ⟨n - 64, by omega, by omega⟩)
    · exact .inr (.inr ⟨n - 72, by omega, by omega⟩)

/-! ## Classification (R496) -/

section
variable {w : BitVec 80} {i j : Nat}

theorem gridClassify_clean (hr : gridRows w = []) (hc : gridCols w = []) : gridClassify w = .clean := by
  rw [gridClassify, hr, hc]

theorem gridClassify_dataBit (hr : gridRows w = [i]) (hc : gridCols w = [j]) : gridClassify w = .dataBit i j := by
  rw [gridClassify, hr, hc]

theorem gridClassify_rowBit (hr : gridRows w = [i]) (hc : gridCols w = []) : gridClassify w = .rowBit i := by
  rw [gridClassify, hr, hc]

theorem gridClassify_colBit (hr : gridRows w = []) (hc : gridCols w = [j]) : gridClassify w = .colBit j := by
  rw [gridClassify, hr, hc]

theorem gridClassify_of_two_rows (hi : i ∈ gridRows w) (hj : j ∈ gridRows w) (h : i ≠ j) : gridClassify w = .uncorrectable := by
  unfold gridClassify
  split <;> simp_all

theorem gridClassify_of_two_cols (hi : i ∈ gridCols w) (hj : j ∈ gridCols w) (h : i ≠ j) : gridClassify w = .uncorrectable := by
  unfold gridClassify
  split <;> simp_all

theorem gridData_dataBit (h : gridClassify w = .dataBit i j) :
    gridData w = some (w.truncate 64 ^^^ BitVec.ofNat 64 (2 ^ (8 * i + j))) := by
  rw [gridData, h]

theorem gridData_clean (h : gridClassify w = .clean) : gridData w = some (w.truncate 64) := by
  rw [gridData, h]

theorem gridData_rowBit (h : gridClassify w = .rowBit i) : gridData w = some (w.truncate 64) := by
  rw [gridData, h]

theorem gridData_colBit (h : gridClassify w = .colBit j) : gridData w = some (w.truncate 64) := by
  rw [gridData, h]

end

section
variable (d : BitVec 64) {i j m n a b : Nat}

theorem gridClassify_gridEncode : gridClassify (gridEncode d) = .clean :=
  gridClassify_clean (gridRows_gridBad d (ns := []) (by simp)) (gridCols_gridBad d (ns := []) (by simp))

theorem gridRows_one (hn : n < 80) : gridRows (gridBad d [n]) = (gridRowOf n).toList :=
  (gridRows_gridBad d (by simpa using hn)).trans (gridOddLines_one (gridRowOf_lt hn))

theorem gridCols_one (hn : n < 80) : gridCols (gridBad d [n]) = (gridColOf n).toList :=
  (gridCols_gridBad d (by simpa using hn)).trans (gridOddLines_one (gridColOf_lt hn))

theorem gridRows_two (hm : m < 80) (hn : n < 80) : gridRows (gridBad d [m, n]) = gridOddLines gridRowOf [m, n] :=
  gridRows_gridBad d (by simp [hm, hn])

theorem gridCols_two (hm : m < 80) (hn : n < 80) : gridCols (gridBad d [m, n]) = gridOddLines gridColOf [m, n] :=
  gridCols_gridBad d (by simp [hm, hn])

/-! ## One bad bit -/

theorem gridClassify_bad_data (hi : i < 8) (hj : j < 8) : gridClassify (gridBad d [8 * i + j]) = .dataBit i j := by
  have hn : 8 * i + j < 80 := by omega
  apply gridClassify_dataBit
  · rw [gridRows_one d hn, gridRowOf_data hi hj, Option.toList_some]
  · rw [gridCols_one d hn, gridColOf_data hi hj, Option.toList_some]

theorem gridClassify_bad_rp (hi : i < 8) : gridClassify (gridBad d [64 + i]) = .rowBit i := by
  have hn : 64 + i < 80 := by omega
  apply gridClassify_rowBit
  · rw [gridRows_one d hn, gridRowOf_rp hi, Option.toList_some]
  · rw [gridCols_one d hn, gridColOf_rp hi, Option.toList_none]

theorem gridClassify_bad_cp (hj : j < 8) : gridClassify (gridBad d [72 + j]) = .colBit j := by
  have hn : 72 + j < 80 := by omega
  apply gridClassify_colBit
  · rw [gridRows_one d hn, gridRowOf_cp, Option.toList_none]
  · rw [gridCols_one d hn, gridColOf_cp, Option.toList_some]

theorem truncate_gridBad_one (n : Nat) : (gridBad d [n]).truncate 64 = d ^^^ BitVec.ofNat 64 (2 ^ n) := by
  rw [gridBad, List.foldl_cons, List.foldl_nil, BitVec.truncate, BitVec.setWidth_xor, BitVec.setWidth_ofNat_of_le (by decide)]
  exact congrArg (· ^^^ _) (truncate_gridEncode d)

theorem truncate_gridBad_check (n : Nat) : (gridBad d [64 + n]).truncate 64 = d := by
  have h : BitVec.ofNat 64 (2 ^ (64 + n)) = 0#64 := by
    apply BitVec.eq_of_toNat_eq
    simp [Nat.pow_add]
  rw [truncate_gridBad_one, h, BitVec.xor_zero]

theorem gridData_bad_one (hn : n < 80) : gridData (gridBad d [n]) = some d := by
  obtain ⟨i, j, hi, hj, rfl⟩ | ⟨i, hi, rfl⟩ | ⟨j, hj, rfl⟩ := gridBit_cases hn
  · rw [gridData_dataBit (gridClassify_bad_data d hi hj), truncate_gridBad_one, BitVec.xor_assoc, BitVec.xor_self, BitVec.xor_zero]
  · rw [gridData_rowBit (gridClassify_bad_rp d hi), truncate_gridBad_check]
  · rw [gridData_colBit (gridClassify_bad_cp d hj), show 72 + j = 64 + (8 + j) by omega, truncate_gridBad_check]

/-! ## Two bad bits -/

theorem gridClassify_bad_rows (hm : m < 80) (hn : n < 80) (ha : gridRowOf m = some a) (hb : gridRowOf n = some b) (h : a ≠ b) :
    gridClassify (gridBad d [m, n]) = .uncorrectable := by
  obtain ⟨hma, hmb⟩ := mem_gridOddLines_two ha hb h (gridRowOf_lt hm a ha) (gridRowOf_lt hn b hb)
  rw [← gridRows_two d hm hn] at hma hmb
  exact gridClassify_of_two_rows hma hmb h

theorem gridClassify_bad_cols (hm : m < 80) (hn : n < 80) (ha : gridColOf m = some a) (hb : gridColOf n = some b) (h : a ≠ b) :
    gridClassify (gridBad d [m, n]) = .uncorrectable := by
  obtain ⟨hma, hmb⟩ := mem_gridOddLines_two ha hb h (gridColOf_lt hm a ha) (gridColOf_lt hn b hb)
  rw [← gridCols_two d hm hn] at hma hmb
  exact gridClassify_of_two_cols hma hmb h

/-- Two data bits lie on different rows or on different columns. -/
theorem gridClassify_bad_data_data (h : m < n) (hn : n < 64) : gridClassify (gridBad d [m, n]) = .uncorrectable := by
  have hm : m < 64 := h.trans hn
  by_cases hrow : m / 8 = n / 8
  · have hcol : m % 8 ≠ n % 8 := by omega
    exact gridClassify_bad_cols d (by omega) (by omega) (if_pos hm) (if_pos hn) hcol
  · exact gridClassify_bad_rows d (by omega) (by omega) (if_pos hm) (if_pos hn) hrow

theorem gridClassify_bad_rp_rp (hm : 64 ≤ m) (h : m < n) (hn : n < 72) : gridClassify (gridBad d [m, n]) = .uncorrectable := by
  obtain ⟨i, rfl⟩ := Nat.exists_eq_add_of_le hm
  obtain ⟨k, rfl⟩ := Nat.exists_eq_add_of_le (hm.trans h.le)
  exact gridClassify_bad_rows d (by omega) (by omega) (gridRowOf_rp (by omega)) (gridRowOf_rp (by omega)) (by omega)

theorem gridClassify_bad_cp_cp (hm : 72 ≤ m) (h : m < n) (hn : n < 80) : gridClassify (gridBad d [m, n]) = .uncorrectable := by
  obtain ⟨j, rfl⟩ := Nat.exists_eq_add_of_le hm
  obtain ⟨k, rfl⟩ := Nat.exists_eq_add_of_le (hm.trans h.le)
  exact gridClassify_bad_cols d (by omega) hn (gridColOf_cp j) (gridColOf_cp k) (by omega)

theorem gridClassify_bad_data_rp {k : Nat} (hi : i < 8) (hj : j < 8) (hk : k < 8) (h : k ≠ i) :
    gridClassify (gridBad d [8 * i + j, 64 + k]) = .uncorrectable :=
  gridClassify_bad_rows d (by omega) (by omega) (gridRowOf_data hi hj) (gridRowOf_rp hk) h.symm

theorem gridClassify_bad_data_cp {k : Nat} (hi : i < 8) (hj : j < 8) (hk : k < 8) (h : k ≠ j) :
    gridClassify (gridBad d [8 * i + j, 72 + k]) = .uncorrectable :=
  gridClassify_bad_cols d (by omega) (by omega) (gridColOf_data hi hj) (gridColOf_cp k) h.symm

/-- RP[i] is on row i alone and CP[j] on column j alone, as the syndromes of data bit 8i + j are. -/
theorem gridClassify_bad_rp_cp (hi : i < 8) (hj : j < 8) : gridClassify (gridBad d [64 + i, 72 + j]) = .dataBit i j := by
  have hm : 64 + i < 80 := by omega
  have hn : 72 + j < 80 := by omega
  apply gridClassify_dataBit
  · rw [gridRows_two d hm hn, gridOddLines_two_of_none_right (gridRowOf_cp j) (gridRowOf_lt hm), gridRowOf_rp hi, Option.toList_some]
  · rw [gridCols_two d hm hn, gridOddLines_two_of_none_left (gridColOf_rp hi) (gridColOf_lt hn), gridColOf_cp, Option.toList_some]

/-- On row i the two bad bits cancel, and column j is left. -/
theorem gridClassify_bad_data_own_rp (hi : i < 8) (hj : j < 8) : gridClassify (gridBad d [8 * i + j, 64 + i]) = .colBit j := by
  have hm : 8 * i + j < 80 := by omega
  have hn : 64 + i < 80 := by omega
  apply gridClassify_colBit
  · rw [gridRows_two d hm hn, gridOddLines_two_of_eq ((gridRowOf_data hi hj).trans (gridRowOf_rp hi).symm)]
  · rw [gridCols_two d hm hn, gridOddLines_two_of_none_right (gridColOf_rp hi) (gridColOf_lt hm), gridColOf_data hi hj, Option.toList_some]

/-- On column j the two bad bits cancel, and row i is left. -/
theorem gridClassify_bad_data_own_cp (hi : i < 8) (hj : j < 8) : gridClassify (gridBad d [8 * i + j, 72 + j]) = .rowBit i := by
  have hm : 8 * i + j < 80 := by omega
  have hn : 72 + j < 80 := by omega
  apply gridClassify_rowBit
  · rw [gridRows_two d hm hn, gridOddLines_two_of_none_right (gridRowOf_cp j) (gridRowOf_lt hm), gridRowOf_data hi hj, Option.toList_some]
  · rw [gridCols_two d hm hn, gridOddLines_two_of_eq ((gridColOf_data hi hj).trans (gridColOf_cp j).symm)]

end

/-- Settles O8: a stored word is clean, and one bad bit puts into the syndromes the row and the column it lies on. -/
theorem singleUpsetsAreCorrected : Obligations.SingleUpsetsAreCorrected := by
  unfold Obligations.SingleUpsetsAreCorrected
  intro d
  refine ⟨truncate_gridEncode d, gridClassify_gridEncode d, ?_, fun i hi => getLsbD_gridEncode_row d hi,
    fun j hj => getLsbD_gridEncode_col d hj, fun i j hi hj => ⟨gridClassify_bad_data d hi hj, gridData_bad_one d (by omega)⟩,
    fun i hi => ⟨gridClassify_bad_rp d hi, gridData_bad_one d (by omega)⟩,
    fun j hj => ⟨gridClassify_bad_cp d hj, gridData_bad_one d (by omega)⟩⟩
  rw [gridData_clean (gridClassify_gridEncode d), truncate_gridEncode]

/-- Settles O9: two bad bits on different rows or columns leave both in a syndrome, two on the same line cancel in it, and a check bit lies on
one line alone. -/
theorem theGuaranteesOfTheGridCode : Obligations.TheGuaranteesOfTheGridCode := by
  unfold Obligations.TheGuaranteesOfTheGridCode
  intro d
  exact ⟨fun n hn => gridData_bad_one d hn, fun m n h hn => gridClassify_bad_data_data d h hn,
    fun m n hm h hn => gridClassify_bad_rp_rp d hm h hn, fun m n hm h hn => gridClassify_bad_cp_cp d hm h hn,
    fun i j k hi hj hk h => gridClassify_bad_data_rp d hi hj hk h, fun i j k hi hj hk h => gridClassify_bad_data_cp d hi hj hk h,
    fun i j hi hj => ⟨gridClassify_bad_rp_cp d hi hj, gridClassify_bad_data_own_rp d hi hj, gridClassify_bad_data_own_cp d hi hj⟩⟩

end Sys2Proof.Machine
end

section
/-! PROOFS. One step of the machine: the command at the front of the queue, or one ENG cycle. -/
namespace Sys2Proof.Machine

/-- Settles O3: `step` reads the queue of the state that it is given. -/
theorem stepTakesTheFrontCommand : Obligations.StepTakesTheFrontCommand := by
  unfold Obligations.StepTakesTheFrontCommand
  intro c r s
  rfl

theorem State.step_of_pending_nil {s : State} (h : s.pending = []) : step s = .next s.tickOne.programs.ivwTxNext := by
  unfold step
  rw [h]

/-- Where no chanter is ready for a pass of the standard program, none is made. -/
theorem State.programs_of_none_ready {s : State}
    (h : s.get F.CHT_INFO_PROGRAM ≠ 1 ∨ (List.range 132).all (fun n => !s.stdReady n) = true) : s.programs = s := by
  unfold State.programs
  split
  · next hp =>
    have hall : ∀ n ∈ List.range 132, s.stdReady n = false := by
      simpa [hp] using h
    generalize List.range 132 = l at hall
    induction l with
    | nil => rfl
    | cons n l ih =>
      rw [List.foldl_cons, if_neg (by simp [hall n (by simp)])]
      exact ih fun k hk => hall k (by simp [hk])
  · rfl

/-- Where no Ivwyn buffer is queued, or NET is not ON, none is sent. -/
theorem State.ivwTxNext_of_idle {s : State} (h : s.ivw.txq = [] ∨ s.domOn 18 = false) : s.ivwTxNext = s := by
  unfold State.ivwTxNext
  split
  · next hq =>
    have hd : s.domOn 18 = false := by simpa [hq] using h
    simp [hd]
  · rfl

@[simp] theorem State.get_tickOne (s : State) (f : FieldAt) : s.tickOne.get f = s.get f := rfl
@[simp] theorem State.domOn_tickOne (s : State) (d : Nat) : s.tickOne.domOn d = s.domOn d := rfl

/-- Settles O4: the tick, after which nothing is ready to be done. -/
theorem stepWithoutACommand : Obligations.StepWithoutACommand := by
  unfold Obligations.StepWithoutACommand
  refine ⟨fun s hp hready hidle => ?_, fun s hp => State.step_of_pending_nil hp⟩
  have hready' : s.tickOne.get F.CHT_INFO_PROGRAM ≠ 1 ∨ (List.range 132).all (fun n => !s.tickOne.stdReady n) = true := by
    rwa [State.get_tickOne]
  have hidle' : s.tickOne.ivw.txq = [] ∨ s.tickOne.domOn 18 = false := by
    rwa [State.domOn_tickOne]
  rw [State.step_of_pending_nil hp, State.programs_of_none_ready hready', State.ivwTxNext_of_idle hidle']
  rfl

end Sys2Proof.Machine
end

section
/-! PROOFS. Engine instructions (R138-R154). An engine that issues an instruction word of a defined OP and a legal encoding performs the act of
that instruction, and the acts of this section change the engine's own record alone: so each clause comes down to the value that the
instruction computes. -/
namespace Sys2Proof.Machine

/-! ## The OP and the guard of an instruction word (R147, R148) -/

theorem FmtT.op_word (x : FmtT) {op : Nat} (h : op < 64) : bitsOf (x.word op) 27 22 = op := by
  have := x.cond.isLt; have := x.rd.isLt; have := x.ra.isLt; have := x.rb.isLt; have := x.fn.isLt
  simp only [bitsOf, FmtT.word, BitVec.toNat_ofNat]
  omega

theorem FmtI.op_word (x : FmtI) {op : Nat} (h : op < 64) : bitsOf (x.word op) 27 22 = op := by
  have := x.cond.isLt; have := x.rd.isLt; have := x.ra.isLt; have := x.imm.isLt
  simp only [bitsOf, FmtI.word, BitVec.toNat_ofNat]
  omega

theorem FmtL.op_word (x : FmtL) {op : Nat} (h : op < 64) : bitsOf (x.word op) 27 22 = op := by
  have := x.cond.isLt; have := x.rd.isLt; have := x.imm.isLt
  simp only [bitsOf, FmtL.word, BitVec.toNat_ofNat]
  omega

theorem FmtJ.op_word (x : FmtJ) {op : Nat} (h : op < 64) : bitsOf (x.word op) 27 22 = op := by
  have := x.cond.isLt; have := x.imm.isLt
  simp only [bitsOf, FmtJ.word, BitVec.toNat_ofNat]
  omega

/-- The OP code names an instruction (R149). -/
def opDefined (op : Nat) : Bool := decide (op < 64) && !([0x00, 0x1E, 0x1F, 0x25].contains op)

theorem FmtT.opDefined_word {op : Nat} (x : FmtT) (h : opDefined op = true) : opDefined (bitsOf (x.word op) 27 22) = true := by
  rwa [FmtT.op_word x (by simp [opDefined] at h; exact h.1)]

theorem FmtI.opDefined_word {op : Nat} (x : FmtI) (h : opDefined op = true) : opDefined (bitsOf (x.word op) 27 22) = true := by
  rwa [FmtI.op_word x (by simp [opDefined] at h; exact h.1)]

theorem FmtL.opDefined_word {op : Nat} (x : FmtL) (h : opDefined op = true) : opDefined (bitsOf (x.word op) 27 22) = true := by
  rwa [FmtL.op_word x (by simp [opDefined] at h; exact h.1)]

theorem FmtJ.opDefined_word {op : Nat} (x : FmtJ) (h : opDefined op = true) : opDefined (bitsOf (x.word op) 27 22) = true := by
  rwa [FmtJ.op_word x (by simp [opDefined] at h; exact h.1)]

section
variable {s : State} {e : Nat} {w : Word}

theorem State.cond_le_of_guard {c : Nat} {g : Bool} (h : s.guard e c = some g) : c ≤ 8 := by
  by_contra hc
  have h0 : c ≠ 0 := by omega
  have h4 : ¬ c ≤ 4 := by omega
  simp [State.guard, h0, h4, hc] at h

/-- The fetch from a clean memory word changes nothing. -/
theorem State.instrWord_of_clean (h : gridClassify (s.memWord (engineBase e + (s.engine e).pc.toNat)) = .clean) : (s.instrWord e).1 = s := by
  simp [State.instrWord, State.memRead, h]

theorem State.fetches_of_issues (h : s.issues e w = true) : s.fetches e w = true := by
  simp only [State.issues, Bool.and_eq_true] at h
  exact h.1

theorem State.guard_of_issues (h : s.issues e w = true) : s.guard e (bitsOf w 31 28) = some true := by
  simp only [State.issues, Bool.and_eq_true, decide_eq_true_eq] at h
  exact h.2

/-- An engine that issues the word of a legal instruction performs its act (R139, R147-R149). -/
theorem State.issue_of_issues {legal : Bool} {act : State → State} (h : s.issues e w = true) (hop : opDefined (bitsOf w 27 22) = true)
    (hl : legal = true) : s.issue e w legal act = act s := by
  have hg := State.guard_of_issues h
  have hf := State.fetches_of_issues h
  simp only [State.fetches, Bool.and_eq_true, decide_eq_true_eq] at hf
  obtain ⟨⟨⟨hrun, hpc⟩, hclean⟩, hword⟩ := hf
  have hdef : wordDefined w = true := by
    simp only [opDefined, Bool.and_eq_true, decide_eq_true_eq] at hop
    simp only [wordDefined, hop.2, State.cond_le_of_guard hg, decide_true, Bool.and_self]
  simp only [State.issue, hrun, if_true, if_neg (Nat.not_le.mpr hpc), hword, State.instrWord_of_clean hclean, hdef, hl, hg]
  simp

end

/-! ## One engine changes -/

/-- From `s` to `t` nothing changes but engine `e`, which becomes `g`. -/
def EngineBecomes (s : State) (e : Nat) (g : Engine) (t : State) : Prop :=
  t.engine e = g ∧ t = { s with engines := t.engines } ∧ ∀ key, key ∉ ([e] : List Nat) → t.engine key = s.engine key

section
variable {s t u : State} {e : Nat} {g g' : Engine}

theorem EngineBecomes.setEngine : EngineBecomes s e g (s.setEngine e g) :=
  ⟨by simp, rfl, fun _ hk => State.engine_setEngine_ne _ _ (by simpa using hk)⟩

theorem EngineBecomes.trans (h : EngineBecomes s e g t) (h' : EngineBecomes t e g' u) : EngineBecomes s e g' u := by
  obtain ⟨-, ht, hk⟩ := h
  obtain ⟨hu, hu', hk'⟩ := h'
  refine ⟨hu, ?_, fun k hn => (hk' k hn).trans (hk k hn)⟩
  rw [ht] at hu'
  exact hu'

theorem EngineBecomes.setGr {rd : Nat} {v : Word} (h : EngineBecomes s e g t) : EngineBecomes s e (g.setReg rd v) (t.setGr e rd v) :=
  h.trans (h.1 ▸ .setEngine)

theorem EngineBecomes.setSt {b : Nat} {v : Bool} (h : EngineBecomes s e g t) : EngineBecomes s e (g.flag b v) (t.setSt e b v) :=
  h.trans (h.1 ▸ .setEngine)

theorem EngineBecomes.step4 (h : EngineBecomes s e g t) : EngineBecomes s e g.next (t.step4 e) :=
  h.trans (h.1 ▸ .setEngine)

theorem EngineBecomes.refl : EngineBecomes s e (s.engine e) s := ⟨rfl, rfl, fun _ _ => rfl⟩

theorem EngineBecomes.setSt_if {c : Bool} {b : Nat} {v : Bool} (h : EngineBecomes s e g t) :
    EngineBecomes s e (if c then g.flag b v else g) (if c then t.setSt e b v else t) := by
  split
  · exact h.setSt
  · exact h

end

/-! ## The instruction that is issued -/

section
variable {s : State} {e : Fin 136} {w : Word} {legal : Bool}

/-- A legal instruction whose act changes the engine's record alone. -/
theorem next_issue {act : State → State} {g : Engine} (h : s.issues e.val w = true) (hop : opDefined (bitsOf w 27 22) = true)
    (hl : legal = true) (ha : EngineBecomes s e.val g (act s)) :
    ∃ t, (.next (s.issue e.val w legal act) : Out) = .next t ∧ EngineBecomes s e.val g t :=
  ⟨_, rfl, by rwa [State.issue_of_issues h hop hl]⟩

/-- A legal instruction whose whole effect is one register (R150). -/
theorem issueRd_of_issues {rd : Fin 16} {f : State → Word} {v : Word} (h : s.issues e.val w = true)
    (hop : opDefined (bitsOf w 27 22) = true) (hl : legal = true) (hv : f s = v) :
    ∃ t, s.issueRd e.val w rd legal f = .next t ∧ EngineBecomes s e.val ((s.engine e.val).setReg rd.val v).next t :=
  next_issue h hop hl (hv ▸ EngineBecomes.refl.setGr.step4)

end

/-! ## The values (R150) -/

theorem mul_eq_ofNat (a b : Word) : a * b = BitVec.ofNat 32 (a.toNat * b.toNat) := by
  apply BitVec.eq_of_toNat_eq
  simp

theorem min_signed (a b : Word) : (if b.slt a then b else a) = BitVec.ofInt 32 (min a.toInt b.toInt) := by
  rw [BitVec.slt]
  split
  · next h => rw [min_eq_right (by simpa using (of_decide_eq_true h).le), BitVec.ofInt_toInt]
  · next h => rw [min_eq_left (by simpa using h), BitVec.ofInt_toInt]

theorem max_signed (a b : Word) : (if a.slt b then b else a) = BitVec.ofInt 32 (max a.toInt b.toInt) := by
  rw [BitVec.slt]
  split
  · next h => rw [max_eq_right (by simpa using (of_decide_eq_true h).le), BitVec.ofInt_toInt]
  · next h => rw [max_eq_left (by simpa using h), BitVec.ofInt_toInt]

theorem min_unsigned (a b : Word) : (if b.ult a then b else a) = BitVec.ofNat 32 (min a.toNat b.toNat) := by
  rw [BitVec.ult]
  split
  · next h => rw [min_eq_right (of_decide_eq_true h).le, BitVec.ofNat_toNat, BitVec.setWidth_eq]
  · next h => rw [min_eq_left (by simpa using h), BitVec.ofNat_toNat, BitVec.setWidth_eq]

theorem max_unsigned (a b : Word) : (if a.ult b then b else a) = BitVec.ofNat 32 (max a.toNat b.toNat) := by
  rw [BitVec.ult]
  split
  · next h => rw [max_eq_right (of_decide_eq_true h).le, BitVec.ofNat_toNat, BitVec.setWidth_eq]
  · next h => rw [max_eq_left (by simpa using h), BitVec.ofNat_toNat, BitVec.setWidth_eq]

/-- Settles O18: each instruction is issued and writes the value that its clause names. -/
theorem integerInstructions : Obligations.IntegerInstructions := by
  unfold Obligations.IntegerInstructions
  refine ⟨?add, ?sub, ?and, ?or, ?xor, ?shl, ?shr, ?sra, ?mul, ?mulhSigned, ?mulhUnsigned, ?minSigned, ?minUnsigned, ?maxSigned,
    ?maxUnsigned, ?sel⟩
  case add => exact fun e x s h hf => issueRd_of_issues h (FmtT.opDefined_word x rfl) (by simp [hf]) rfl
  case sub => exact fun e x s h hf => issueRd_of_issues h (FmtT.opDefined_word x rfl) (by simp [hf]) rfl
  case and => exact fun e x s h hf => issueRd_of_issues h (FmtT.opDefined_word x rfl) (by simp [hf]) rfl
  case or => exact fun e x s h hf => issueRd_of_issues h (FmtT.opDefined_word x rfl) (by simp [hf]) rfl
  case xor => exact fun e x s h hf => issueRd_of_issues h (FmtT.opDefined_word x rfl) (by simp [hf]) rfl
  case shl => exact fun e x s h hf => issueRd_of_issues h (FmtT.opDefined_word x rfl) (by simp [hf]) rfl
  case shr => exact fun e x s h hf => issueRd_of_issues h (FmtT.opDefined_word x rfl) (by simp [hf]) rfl
  case sra => exact fun e x s h hf => issueRd_of_issues h (FmtT.opDefined_word x rfl) (by simp [hf]) rfl
  case mul => exact fun e x s h hf => issueRd_of_issues h (FmtT.opDefined_word x rfl) (by simp [hf]) (mul_eq_ofNat _ _)
  case mulhSigned =>
    intro e x s h hf
    refine issueRd_of_issues h (FmtT.opDefined_word x rfl) (by simp [FmtT.f, hf]) ?_
    simp [FmtT.f, hf, State.opA, State.opB, Int.fdiv_eq_ediv]
  case mulhUnsigned =>
    intro e x s h hf
    refine issueRd_of_issues h (FmtT.opDefined_word x rfl) (by simp [FmtT.f, hf]) ?_
    simp [FmtT.f, hf, State.opA, State.opB]
  case minSigned =>
    intro e x s h hf
    refine issueRd_of_issues h (FmtT.opDefined_word x rfl) (by simp [FmtT.f, hf]) ?_
    simp [FmtT.f, hf, State.opA, State.opB, min_signed]
  case minUnsigned =>
    intro e x s h hf
    refine issueRd_of_issues h (FmtT.opDefined_word x rfl) (by simp [FmtT.f, hf]) ?_
    simp [FmtT.f, hf, State.opA, State.opB, min_unsigned]
  case maxSigned =>
    intro e x s h hf
    refine issueRd_of_issues h (FmtT.opDefined_word x rfl) (by simp [FmtT.f, hf]) ?_
    simp [FmtT.f, hf, State.opA, State.opB, max_signed]
  case maxUnsigned =>
    intro e x s h hf
    refine issueRd_of_issues h (FmtT.opDefined_word x rfl) (by simp [FmtT.f, hf]) ?_
    simp [FmtT.f, hf, State.opA, State.opB, max_unsigned]
  case sel =>
    intro e x s h hf
    have hp : x.f 1 0 = x.fn.val := by simpa [FmtT.f] using Nat.mod_eq_of_lt hf
    refine issueRd_of_issues h (FmtT.opDefined_word x rfl) (by simp [FmtT.f]; omega) ?_
    simp [hp, State.opA, State.opB, State.pred]

end Sys2Proof.Machine
end

section
/-! PROOFS. The instructions with an immediate, the conditions and division, and the accumulators (R150-R153): the value of each, as its
clause writes it. -/
namespace Sys2Proof.Machine

theorem zeroExtend_ofNat {w n : Nat} : (BitVec.ofNat w n).zeroExtend 32 = BitVec.ofNat 32 (n % 2 ^ w) := by
  apply BitVec.eq_of_toNat_eq
  simp

/-- A field of a word replaced, as a number: what lies below it, the field, what lies above it. -/
theorem setBitsOf_eq_ofNat (u v : Word) {pos w : Nat} (hw : 0 < w) :
    setBitsOf u (pos + w - 1) pos v.toNat =
      BitVec.ofNat 32 (u.toNat % 2 ^ pos + v.toNat % 2 ^ w * 2 ^ pos + u.toNat / 2 ^ (pos + w) * 2 ^ (pos + w)) := by
  apply BitVec.eq_of_getLsbD_eq
  intro i hi
  have hlow : u.toNat % 2 ^ pos < 2 ^ pos := Nat.mod_lt _ (Nat.two_pow_pos _)
  have hmid : u.toNat % 2 ^ pos + v.toNat % 2 ^ w * 2 ^ pos < 2 ^ (pos + w) := by
    have hv : v.toNat % 2 ^ w + 1 ≤ 2 ^ w := Nat.mod_lt _ (Nat.two_pow_pos _)
    calc u.toNat % 2 ^ pos + v.toNat % 2 ^ w * 2 ^ pos < (v.toNat % 2 ^ w + 1) * 2 ^ pos := by rw [Nat.add_mul]; omega
      _ ≤ 2 ^ w * 2 ^ pos := Nat.mul_le_mul_right _ hv
      _ = 2 ^ (pos + w) := by rw [← Nat.pow_add, Nat.add_comm]
  rw [getLsbD_setBitsOf, BitVec.getLsbD_ofNat, Nat.add_comm _ (_ * 2 ^ (pos + w)), Nat.mul_comm _ (2 ^ (pos + w)),
    Nat.testBit_two_pow_mul_add _ hmid, Nat.add_comm (u.toNat % 2 ^ pos), Nat.mul_comm _ (2 ^ pos), Nat.testBit_two_pow_mul_add _ hlow]
  have hwidth : pos + w - 1 + 1 - pos = w := by omega
  rw [hwidth]
  by_cases hl : i < pos
  · have h1 : i < pos + w := by omega
    simp [h1, hl, hi, Nat.testBit_mod_two_pow, BitVec.testBit_toNat]
  · by_cases hr : i < pos + w
    · have h2 : pos ≤ i ∧ i < pos + w := by omega
      have h3 : i - pos < w := by omega
      simp [h2, hl, h3, hi, Nat.testBit_mod_two_pow, BitVec.testBit_toNat]
    · have h2 : ¬ (pos ≤ i ∧ i < pos + w) := by omega
      have h4 : pos + w + (i - (pos + w)) = i := by omega
      simp [hr, hi, Nat.testBit_div_two_pow, BitVec.testBit_toNat, Nat.add_comm, h4]

/-- Settles O19: each instruction is issued and writes the value that its clause names; the fields of IMM14 are read off as numbers. -/
theorem immediateInstructions : Obligations.ImmediateInstructions := by
  unfold Obligations.ImmediateInstructions
  refine ⟨?addi, ?andi, ?ori, ?xori, ?shli, ?shri, ?srai, ?ext, ?extSigned, ?dep, ?movi, ?movhi, ?nop⟩
  case addi => exact fun e x s h => issueRd_of_issues h (FmtI.opDefined_word x rfl) rfl rfl
  case andi => exact fun e x s h => issueRd_of_issues h (FmtI.opDefined_word x rfl) rfl rfl
  case ori => exact fun e x s h => issueRd_of_issues h (FmtI.opDefined_word x rfl) rfl rfl
  case xori => exact fun e x s h => issueRd_of_issues h (FmtI.opDefined_word x rfl) rfl rfl
  case shli =>
    intro e x s h hi
    refine issueRd_of_issues h (FmtI.opDefined_word x rfl) (by simp [FmtI.f]; omega) ?_
    simp [FmtI.f, Nat.mod_eq_of_lt hi]
  case shri =>
    intro e x s h hi
    refine issueRd_of_issues h (FmtI.opDefined_word x rfl) (by simp [FmtI.f]; omega) ?_
    simp [FmtI.f, Nat.mod_eq_of_lt hi]
  case srai =>
    intro e x s h hi
    refine issueRd_of_issues h (FmtI.opDefined_word x rfl) (by simp [FmtI.f]; omega) ?_
    simp [FmtI.f, Nat.mod_eq_of_lt hi]
  case ext =>
    rintro e x s h ⟨hi, hw⟩
    refine issueRd_of_issues h (FmtI.opDefined_word x rfl) (by simp [FmtI.f]; omega) ?_
    have hs : ¬ x.f 10 10 = 1 := by simp [FmtI.f]; omega
    rw [if_neg hs]
    rw [show x.f 4 0 = x.imm.val % 32 by simp [FmtI.f], show x.f 9 5 = x.imm.val / 32 % 32 by simp [FmtI.f]]
    exact zeroExtend_ofNat
  case extSigned =>
    rintro e x s h ⟨hi, hi', hw⟩
    refine issueRd_of_issues h (FmtI.opDefined_word x rfl) (by simp [FmtI.f]; omega) ?_
    have hs : x.f 10 10 = 1 := by simp [FmtI.f]; omega
    rw [if_pos hs]
    simp [FmtI.f]
  case dep =>
    rintro e x s h ⟨hi, hw⟩
    refine issueRd_of_issues h (FmtI.opDefined_word x rfl) (by simp [FmtI.f]; omega) ?_
    have hp : x.f 4 0 = x.imm.val % 32 := by simp [FmtI.f]
    have hf : x.f 9 5 = x.imm.val / 32 % 32 := by simp [FmtI.f]
    rw [hp, hf]
    exact setBitsOf_eq_ofNat _ _ (Nat.succ_pos _)
  case movi => exact fun e x s h => issueRd_of_issues h (FmtL.opDefined_word x rfl) rfl rfl
  case movhi => exact fun e x s h => issueRd_of_issues h (FmtL.opDefined_word x rfl) rfl rfl
  case nop =>
    exact fun e x s h hi => next_issue h (FmtJ.opDefined_word x rfl) (by simp [hi]) EngineBecomes.refl.step4

/-! ## Relations, predicate logic, division (R151, R152) -/

section
variable (a b : Word)

theorem bne_eq_decide : (a != b) = decide (a ≠ b) := by
  rw [Bool.eq_iff_iff, bne_iff_ne, decide_eq_true_eq]

theorem not_slt_eq_decide : (!a.slt b) = decide (b.toInt ≤ a.toInt) := by
  rw [BitVec.slt, ← decide_not, decide_eq_decide, not_lt]

theorem not_ult_eq_decide : (!a.ult b) = decide (b.toNat ≤ a.toNat) := by
  rw [BitVec.ult, ← decide_not, decide_eq_decide, not_lt]

end

/-- REL 7 names no relation (R151). -/
theorem lt_seven_of_rel {c : Nat} {a b : Word} {p : Bool} (h : rel c a b = some p) : c < 7 := by
  by_contra hc
  obtain ⟨k, rfl⟩ := Nat.exists_eq_add_of_le' (Nat.not_lt.mp hc)
  cases h

/-- CMP writes the predicate that FN names. -/
theorem cmp_of_issues {e : Fin 136} {x : FmtT} {s : State} {c : Nat} {p : Bool} (h : s.issues e.val (x.word 0x10) = true)
    (hrd : x.rd.val = 0) (hfn : x.fn.val / 4 = c) (hp : rel c (s.gr e.val x.ra.val) (s.gr e.val x.rb.val) = some p) :
    ∃ t, exec (.cmp e x) s = .next t ∧ EngineBecomes s e.val ((s.engine e.val).flag (x.fn.val % 4) p).next t := by
  have hc : c < 7 := lt_seven_of_rel hp
  have hrel : x.f 4 2 = c := by simp [FmtT.f]; omega
  refine next_issue h (FmtT.opDefined_word x rfl) (by simp [FmtT.f, hrd]; omega) ?_
  have hb : x.f 1 0 = x.fn.val % 4 := by simp [FmtT.f]
  rw [hrel, hb]
  simp only [State.opA, State.opB, hp, Option.getD_some]
  exact EngineBecomes.refl.setSt.step4

/-- CMPI writes the predicate RD. -/
theorem cmpi_of_issues {e : Fin 136} {x : FmtI} {s : State} {c : Nat} {p : Bool} (h : s.issues e.val (x.word 0x19) = true)
    (hrd : x.rd.val < 4) (himm : x.imm.val / 2048 = c)
    (hp : rel c (s.gr e.val x.ra.val) ((BitVec.ofNat 11 (x.imm.val % 2048)).signExtend 32) = some p) :
    ∃ t, exec (.cmpi e x) s = .next t ∧ EngineBecomes s e.val ((s.engine e.val).flag x.rd.val p).next t := by
  have hc : c < 7 := lt_seven_of_rel hp
  have hrel : x.f 13 11 = c := by simp [FmtI.f]; omega
  have hlow : x.f 10 0 = x.imm.val % 2048 := by simp [FmtI.f]
  refine next_issue h (FmtI.opDefined_word x rfl) (by simp [hrel, hrd]; omega) ?_
  rw [hrel, hlow, hp]
  exact EngineBecomes.refl.setSt.step4

/-- A signed quotient of two words lies in 32 bits but for -2^31 by -1. -/
theorem tdiv_mem_int32 {a b : Word} (h : ¬ (a = 0x80000000#32 ∧ b = 0xFFFFFFFF#32)) :
    -2147483648 ≤ Int.tdiv a.toInt b.toInt ∧ Int.tdiv a.toInt b.toInt ≤ 2147483647 := by
  have hle : -2147483648 ≤ a.toInt := BitVec.le_toInt a
  have hlt : a.toInt < 2147483648 := BitVec.toInt_lt
  by_cases hb : b.toInt = -1
  · have ha : a.toInt ≠ -2147483648 := fun ha => h ⟨BitVec.eq_of_toInt_eq ha, BitVec.eq_of_toInt_eq hb⟩
    rw [hb, Int.tdiv_neg, Int.tdiv_one]
    omega
  · by_cases hb1 : b.toInt = 1
    · rw [hb1, Int.tdiv_one]
      omega
    · have habs : (Int.tdiv a.toInt b.toInt).natAbs = a.toInt.natAbs / b.toInt.natAbs := Int.natAbs_tdiv _ _
      have hhalf : a.toInt.natAbs / b.toInt.natAbs ≤ a.toInt.natAbs / 2 := by
        by_cases h0 : b.toInt.natAbs = 0
        · simp [h0]
        · exact Nat.div_le_div_left (by omega) (by decide)
      omega

/-- Without saturation sat32 is the 32-bit word of the number (R145). -/
theorem sat32_of_mem {v : Int} (h : -2147483648 ≤ v ∧ v ≤ 2147483647) : sat32 v = (BitVec.ofInt 32 v, false) := by
  rw [sat32, if_neg (by omega), if_neg (by omega)]

/-- sat32 is the nearer limit, with a flag outside 32 bits (R145). -/
theorem sat32_eq (v : Int) :
    sat32 v = (BitVec.ofInt 32 (max (-2147483648) (min v 2147483647)), !decide (-2147483648 ≤ v ∧ v ≤ 2147483647)) := by
  rw [sat32]
  split
  · next h =>
    rw [min_eq_left (by omega), max_eq_left (by omega)]
    simp [Int.not_le.mpr h]
  · split
    · next h =>
      rw [min_eq_right (by omega), max_eq_right (by omega)]
      simp [Int.not_le.mpr h]
    · rw [min_eq_left (by omega), max_eq_right (by omega)]
      simp
      omega

/-- sat48 is the nearer limit, with a flag outside 48 bits (R145). -/
theorem sat48_eq (v : Int) :
    sat48 v = (max (-140737488355328) (min v 140737488355327), !decide (-140737488355328 ≤ v ∧ v ≤ 140737488355327)) := by
  rw [sat48]
  split
  · next h =>
    rw [min_eq_left (by omega), max_eq_left (by omega)]
    simp [Int.not_le.mpr h]
  · split
    · next h =>
      rw [min_eq_right (by omega), max_eq_right (by omega)]
      simp [Int.not_le.mpr h]
    · rw [min_eq_left (by omega), max_eq_right (by omega)]
      simp
      omega

theorem ite_eq_ite_not_decide {α : Type} {p : Prop} [Decidable p] {a b : α} :
    (if p then a else b) = if (!decide p) = true then b else a := by
  by_cases h : p
  · simp [h]
  · simp [h]

/-- A division's result with its flags DZ and OV, of which at most one is set (R152). -/
theorem EngineBecomes.putDiv {s t : State} {e rd : Nat} {g : Engine} {r : Word × Bool × Bool} (h : EngineBecomes s e g t) :
    EngineBecomes s e (((if r.2.2 then (if r.2.1 then g.flag 10 true else g).flag 11 true else if r.2.1 then g.flag 10 true else g).setReg rd
      r.1).next) (t.putDiv e rd r) :=
  h.setSt_if.setSt_if.setGr.step4

/-- DIV writes a quotient and its flags. -/
theorem div_of_issues {e : Fin 136} {x : FmtT} {s : State} {r : Word × Bool × Bool} {g : Engine} (h : s.issues e.val (x.word 0x0E) = true)
    (hfn : x.fn.val < 2)
    (hr : (if x.fn.val = 1 then (if s.gr e.val x.rb.val = 0 then (0xFFFFFFFF#32, true, false) else
      (s.gr e.val x.ra.val / s.gr e.val x.rb.val, false, false)) else divSat (s.gr e.val x.ra.val).toInt (s.gr e.val x.rb.val).toInt) = r)
    (hg : (if r.2.2 then (if r.2.1 then (s.engine e.val).flag 10 true else s.engine e.val).flag 11 true else
      if r.2.1 then (s.engine e.val).flag 10 true else s.engine e.val) = g) :
    ∃ t, exec (.div e x) s = .next t ∧ EngineBecomes s e.val (g.setReg x.rd.val r.1).next t := by
  have h0 : x.f 0 0 = x.fn.val := by simp [FmtT.f]; omega
  refine next_issue h (FmtT.opDefined_word x rfl) (by simp [FmtT.f]; omega) ?_
  rw [h0]
  subst hr hg
  exact EngineBecomes.refl.putDiv

theorem toInt_eq_zero {b : Word} : b.toInt = 0 ↔ b = 0 :=
  ⟨fun h => BitVec.eq_of_toInt_eq h, fun h => by rw [h]; rfl⟩

/-- Settles O20: a compare writes its relation into a predicate, a division its quotient, or the limit and the flag that R152 names. -/
theorem conditionsAndDivision : Obligations.ConditionsAndDivision := by
  unfold Obligations.ConditionsAndDivision
  refine ⟨?eq, ?ne, ?lt, ?ge, ?ltu, ?geu, ?share, ?eqI, ?ltI, ?ltuI, ?shareI, ?neI, ?geI, ?geuI, ?plog, ?div, ?divLimit, ?divZero, ?divU,
    ?divUZero⟩
  case eq => exact fun e x s h hrd hfn => cmp_of_issues h hrd hfn rfl
  case ne => exact fun e x s h hrd hfn => cmp_of_issues h hrd hfn (congrArg some (bne_eq_decide _ _))
  case lt => exact fun e x s h hrd hfn => cmp_of_issues h hrd hfn rfl
  case ge => exact fun e x s h hrd hfn => cmp_of_issues h hrd hfn (congrArg some (not_slt_eq_decide _ _))
  case ltu => exact fun e x s h hrd hfn => cmp_of_issues h hrd hfn rfl
  case geu => exact fun e x s h hrd hfn => cmp_of_issues h hrd hfn (congrArg some (not_ult_eq_decide _ _))
  case share => exact fun e x s h hrd hfn => cmp_of_issues h hrd hfn (congrArg some (bne_eq_decide _ _))
  case eqI => exact fun e x s h hrd hi => cmpi_of_issues h hrd hi rfl
  case ltI => exact fun e x s h hrd hi => cmpi_of_issues h hrd hi rfl
  case ltuI => exact fun e x s h hrd hi => cmpi_of_issues h hrd hi rfl
  case shareI => exact fun e x s h hrd hi => cmpi_of_issues h hrd hi (congrArg some (bne_eq_decide _ _))
  case neI => exact fun e x s h hrd hi => cmpi_of_issues h hrd hi (congrArg some (bne_eq_decide _ _))
  case geI => exact fun e x s h hrd hi => cmpi_of_issues h hrd hi (congrArg some (not_slt_eq_decide _ _))
  case geuI => exact fun e x s h hrd hi => cmpi_of_issues h hrd hi (congrArg some (not_ult_eq_decide _ _))
  case plog =>
    rintro e x s h ⟨hrd, hra, hrb⟩ hfn
    refine next_issue h (FmtT.opDefined_word x rfl) (by simp [FmtT.f, hrd, hra, hrb]; omega) ?_
    have hf : x.f 2 0 = x.fn.val := by simp [FmtT.f]; omega
    rw [hf]
    have hlop : ∀ n < 8, ∀ p q : Bool, ([p && q, p || q, p != q, p && !q, !p, p, false, true] : List Bool).getD n false = lop n p q := by decide
    rw [hlop _ hfn]
    exact EngineBecomes.refl.setSt.step4
  case div =>
    intro e x s h hfn hb hlim
    have hs := sat32_of_mem (tdiv_mem_int32 hlim)
    exact div_of_issues h (by omega) (by rw [if_neg (by omega), divSat, if_neg (mt toInt_eq_zero.mp hb), hs]) rfl
  case divLimit =>
    intro e x s h hfn ha hb
    exact div_of_issues h (by omega) (r := (0x7FFFFFFF#32, false, true)) (by rw [if_neg (by omega), ha, hb]; decide) rfl
  case divZero =>
    intro e x s h hfn hb
    exact div_of_issues h (by omega) (by rw [if_neg (by omega), divSat, if_pos (toInt_eq_zero.mpr hb)]) rfl
  case divU =>
    intro e x s h hfn hb
    have hq : s.gr e.val x.ra.val / s.gr e.val x.rb.val = BitVec.ofNat 32 ((s.gr e.val x.ra.val).toNat / (s.gr e.val x.rb.val).toNat) := by
      apply BitVec.eq_of_toNat_eq
      have := Nat.div_le_self (s.gr e.val x.ra.val).toNat (s.gr e.val x.rb.val).toNat
      rw [BitVec.toNat_udiv, BitVec.toNat_ofNat, Nat.mod_eq_of_lt (by omega)]
    exact div_of_issues h (by omega) (by rw [if_pos hfn, if_neg hb, hq]) rfl
  case divUZero =>
    intro e x s h hfn hb
    exact div_of_issues h (by omega) (by rw [if_pos hfn, if_pos hb]) rfl

/-! ## Accumulators (R145, R153) -/

/-- What a clause about an accumulator instruction says of its next state: accumulator `i` of the bank in use holds the saturated `v`, ST.SAT
is set where it was cut, and nothing else of the engine and of the state changes but the PC. -/
def AccBecomes (s : State) (e i : Nat) (v : Int) (t : State) : Prop :=
  t.accu e i = max (-140737488355328) (min v 140737488355327)
    ∧ t.engine e = { (if -140737488355328 ≤ v ∧ v ≤ 140737488355327 then s.engine e else (s.engine e).flag 9 true).next with acc := (t.engine e).acc }
    ∧ t = { s with engines := t.engines }
    ∧ (∀ key, key ∉ ([(if (s.engine e).st.getLsbD 4 then 2 else 0) + i] : List Nat) →
        Sparse.get (fun _ => 0) (t.engine e).acc key = Sparse.get (fun _ => 0) (s.engine e).acc key)
    ∧ (∀ key, key ∉ ([e] : List Nat) → t.engine key = s.engine key)

/-- An engine with accumulator `i` of the bank in use replaced. -/
def Engine.setAcc (g : Engine) (i : Nat) (v : Int) : Engine :=
  { g with acc := Sparse.put (fun _ => 0) g.acc ((if g.st.getLsbD 4 then 2 else 0) + i) v }

theorem EngineBecomes.setAccu {s t : State} {e i : Nat} {v : Int} {g : Engine} (h : EngineBecomes s e g t) :
    EngineBecomes s e (g.setAcc i v) (t.setAccu e i v) :=
  h.trans (h.1 ▸ .setEngine)

/-- ST.SAT leaves the bank in use. -/
theorem bank_flag_sat (g : Engine) : (g.flag 9 true).st.getLsbD 4 = g.st.getLsbD 4 := by
  simp only [Engine.flag, getLsbD_setBitsOf]
  rfl

theorem accBecomes_putAcc (s : State) (e i : Nat) (v : Int) : AccBecomes s e i v (s.putAcc e i v) := by
  have h : EngineBecomes s e (if (sat48 v).2 then ((s.engine e).setAcc i (sat48 v).1).flag 9 true else (s.engine e).setAcc i (sat48 v).1).next
      (s.putAcc e i v) := EngineBecomes.refl.setAccu.setSt_if.step4
  obtain ⟨he, ht, hk⟩ := h
  rw [sat48_eq] at he
  by_cases hv : -140737488355328 ≤ v ∧ v ≤ 140737488355327
  · refine ⟨?_, ?_, ht, ?_, hk⟩
    · simp [State.accu, he, hv, Engine.next, Engine.setAcc]
    · simp [he, hv, Engine.next, Engine.setAcc]
    · intro key hkey
      simp [he, hv, Engine.next, Engine.setAcc]
      exact Sparse.get_put_ne _ _ (by simpa using hkey)
  · refine ⟨?_, ?_, ht, ?_, hk⟩
    · rw [State.accu, he]
      simp only [hv, decide_false, Bool.not_false, if_true, Engine.next, bank_flag_sat]
      simp [Engine.setAcc, Engine.flag]
    · simp [he, hv, Engine.next, Engine.setAcc, Engine.flag]
    · intro key hkey
      simp only [he, hv, decide_false, Bool.not_false, if_true]
      exact Sparse.get_put_ne _ _ (by simpa using hkey)

/-- A legal accumulator instruction puts its value. -/
theorem putAcc_of_issues {s : State} {e : Fin 136} {w : Word} {legal : Bool} {act : State → State} {i : Nat} {v : Int}
    (h : s.issues e.val w = true) (hop : opDefined (bitsOf w 27 22) = true) (hl : legal = true) (ha : act s = s.putAcc e.val i v) :
    ∃ t, (.next (s.issue e.val w legal act) : Out) = .next t ∧ AccBecomes s e.val i v t :=
  ⟨_, rfl, by rw [State.issue_of_issues h hop hl, ha]; exact accBecomes_putAcc _ _ _ _⟩

/-- Settles O21: each instruction is issued and saturates the value of its clause. -/
theorem accumulatorInstructions : Obligations.AccumulatorInstructions := by
  unfold Obligations.AccumulatorInstructions
  have hf0 : ∀ x : FmtT, x.f 0 0 = x.fn.val % 2 := fun x => by simp [FmtT.f]
  refine ⟨?amul, ?amac, ?add, ?load, ?ard, ?adiv, ?adivZero⟩
  case amul =>
    rintro e x v s h ⟨hrd, hfn⟩ rfl
    exact putAcc_of_issues h (FmtT.opDefined_word x rfl) (by simp [FmtT.f, hrd]; omega) (by rw [hf0]; rfl)
  case amac =>
    rintro e x v s h ⟨hrd, hfn⟩ rfl
    exact putAcc_of_issues h (FmtT.opDefined_word x rfl) (by simp [FmtT.f, hrd]; omega) (by rw [hf0]; rfl)
  case add =>
    rintro e x v s h ⟨hrd, hrb, hfn⟩ rfl
    have h1 : ¬ x.f 1 1 = 1 := by simp [FmtT.f]; omega
    exact putAcc_of_issues h (FmtT.opDefined_word x rfl) (by simp [FmtT.f, hrd, hrb]; omega) (by rw [hf0, if_neg h1]; rfl)
  case load =>
    rintro e x v s h ⟨hrd, hrb, hfn, hfn'⟩ rfl
    have h1 : x.f 1 1 = 1 := by simp [FmtT.f]; omega
    exact putAcc_of_issues h (FmtT.opDefined_word x rfl) (by simp [FmtT.f, hrd, hrb]; omega) (by rw [hf0, if_pos h1, Int.zero_add]; rfl)
  case ard =>
    rintro e x v s h ⟨hra, hrb, hfn, hk⟩ hv
    have h6 : x.f 6 1 = x.fn.val / 2 % 64 := by simp [FmtT.f]
    have h7 : x.f 7 7 = 1 ↔ 128 ≤ x.fn.val := by simp [FmtT.f]; omega
    refine next_issue h (FmtT.opDefined_word x rfl) (by simp [h6, hra, hrb, hk]; simp [FmtT.f]; omega) ?_
    simp only [h6, h7, hf0]
    rw [Int.fdiv_eq_ediv_of_nonneg _ (by positivity), ← hv, sat32_eq]
    rw [ite_eq_ite_not_decide]
    exact EngineBecomes.refl.setSt_if.setGr.step4
  case adiv =>
    rintro e x v s h ⟨hrb, hfn⟩ hra hv
    refine next_issue h (FmtT.opDefined_word x rfl) (by simp [FmtT.f, hrb]; omega) ?_
    have hr : divSat (s.accu e.val (x.f 0 0)) (s.opA e.val x).toInt =
        (BitVec.ofInt 32 (max (-2147483648) (min v 2147483647)), false, !decide (-2147483648 ≤ v ∧ v ≤ 2147483647)) := by
      rw [State.opA, divSat, if_neg (mt toInt_eq_zero.mp hra), hf0, ← hv, sat32_eq]
    rw [hr, ite_eq_ite_not_decide]
    exact EngineBecomes.refl.putDiv
  case adivZero =>
    rintro e x s h ⟨hrb, hfn⟩ hra
    refine next_issue h (FmtT.opDefined_word x rfl) (by simp [FmtT.f, hrb]; omega) ?_
    have hr : divSat (s.accu e.val (x.f 0 0)) (s.opA e.val x).toInt =
        (if 0 ≤ s.accu e.val (x.fn.val % 2) then 0x7FFFFFFF#32 else 0x80000000#32, true, false) := by
      rw [State.opA, divSat, if_pos (toInt_eq_zero.mpr hra), hf0]
    rw [hr]
    exact EngineBecomes.refl.putDiv

end Sys2Proof.Machine
end

section
/-! PROOFS. The arithmetic of reed cells (R299-R308). A cell that executes an operation registers what the operation gives for the sources of its
instruction; so each clause comes down to the result and the flags that the operation computes from them. -/
namespace Sys2Proof.Machine

/-! ## The state in a micro-step -/

namespace State
variable (s : State) (m id l : Nat)

theorem cell_inStep : (s.inStep m).cell id = s.cell id := by
  unfold inStep feedSample
  split <;> rfl

theorem cellCfg_inStep : (s.inStep m).cellCfg id = s.cellCfg id := by
  unfold inStep feedSample
  split <;> rfl

theorem latched_inStep : (s.inStep m).latched id l = s.latched id l := by
  unfold inStep feedSample
  split <;> rfl

theorem cellRuns_inStep : (s.inStep m).cellRuns id = (s.at_ (s.stepTime m)).cellRuns id := by
  unfold inStep feedSample
  split <;> rfl

/-- Wheel time is no earlier than the micro-step, and the feed words and the serialisers' samples are those of its 8 (R329, R563). -/
theorem inStep_eq : s.inStep m = { s with
    now := max s.now (s.stepTime m)
    fab := { s.fab with feedAt := (s.inStep m).fab.feedAt, feed := (s.inStep m).fab.feed, ser := (s.inStep m).fab.ser } } := by
  unfold inStep feedSample
  split <;> rfl

theorem fab_inStep_of_sampled (h : s.fab.feedAt = m / 8 + 1) : (s.inStep m).fab = s.fab := by
  have h' : (s.at_ (s.stepTime m)).fab.feedAt = m / 8 + 1 := h
  rw [inStep, feedSample, if_pos h']
  rfl

theorem feed_inStep_of_not_sampled (h : s.fab.feedAt ≠ m / 8 + 1) : (s.inStep m).fab.feedAt = m / 8 + 1 ∧
    (s.inStep m).fab.feed = (List.range 16).map fun j => (s.at_ (s.stepTime m)).feedWord (s.stepTime (m - m % 8)) j := by
  have h' : ¬ (s.at_ (s.stepTime m)).fab.feedAt = m / 8 + 1 := h
  rw [inStep, feedSample, if_neg h']
  exact ⟨rfl, rfl⟩

end State

/-! ## One cell changes -/

/-- From `s` to `t` nothing changes but cell `id`, which becomes `k`. -/
def CellBecomes (s : State) (id : Nat) (k : Cell) (t : State) : Prop :=
  t.cell id = k ∧ t = { s with fab := { s.fab with cells := t.fab.cells } } ∧ ∀ key, key ∉ ([id] : List Nat) → t.cell key = s.cell key

section
variable {s t u : State} {id : Nat} {k k' : Cell}

theorem CellBecomes.setCell : CellBecomes s id k (s.setCell id k) :=
  ⟨Sparse.get_put_self _ _ _, rfl, fun _ hk => Sparse.get_put_ne _ _ (by simpa using hk)⟩

theorem CellBecomes.trans (h : CellBecomes s id k t) (h' : CellBecomes t id k' u) : CellBecomes s id k' u := by
  obtain ⟨-, ht, hk⟩ := h
  obtain ⟨hu, hu', hk'⟩ := h'
  refine ⟨hu, ?_, fun key hn => (hk' key hn).trans (hk key hn)⟩
  rw [ht] at hu'
  exact hu'

theorem CellBecomes.congr (h : CellBecomes s id k t) (e : k = k') : CellBecomes s id k' t := e ▸ h

end

/-- A result registered keeps the flags (R307). -/
theorem cellBecomes_register (s : State) (id m d : Nat) (v : BitVec 16) :
    CellBecomes s id ((s.cell id).takes m d (!s.latched id (d - 4)) v (s.cell id).c (s.cell id).f) (s.register id m d v) := by
  refine CellBecomes.setCell.congr ?_
  unfold Cell.takes
  by_cases h12 : d < 12
  · by_cases h4 : 4 ≤ d
    · have h0 : d ≠ 0 ∧ d ≠ 1 ∧ d ≠ 2 ∧ d ≠ 3 ∧ d ≠ 13 := by omega
      cases hl : s.latched id (d - 4) <;> simp [h12, h4, h0]
    · have hd : d = 0 ∨ d = 1 ∨ d = 2 ∨ d = 3 := by omega
      rcases hd with rfl | rfl | rfl | rfl <;> simp
  · have h0 : d ≠ 0 ∧ d ≠ 1 ∧ d ≠ 2 ∧ d ≠ 3 := by omega
    by_cases h13 : d = 13 <;> simp [h12, h0, h13]

/-- What an operation registers beside its destination: the flags (R308). -/
theorem cellBecomes_retire {s : State} {op id m w : Nat} {o : ReedOut} (hop : op ≠ 0) :
    CellBecomes s id ((s.cell id).takes m (w / 2 ^ 22 % 16) (!s.latched id (w / 2 ^ 22 % 16 - 4)) o.r o.carry o.flag)
      (s.retire op id m w o fun t _ => t) := by
  have hreg := cellBecomes_register s id m (w / 2 ^ 22 % 16) o.r
  rw [State.retire, if_neg hop]
  refine (hreg.trans .setCell).congr ?_
  rw [hreg.1]
  rfl

/-! ## An operation (R299-R305) -/

/-- What the operation of cell `id` reads in micro-step `m`. -/
def State.reedIn (s : State) (id m : Nat) : ReedIn :=
  ⟨s.reedSrc id m 17, s.reedSrc id m 12, s.reedSrc id m 7, s.reedWord id m % 128, (s.cell id).c, (s.cell id).f, (s.cell id).q0, (s.cell id).q1,
    (s.cell id).q2, (s.cell id).q3⟩

/-- A source as the operation reads it: as its code says, or as latched in the first micro-step of a TRIPLE (R302). -/
theorem State.reedSrc_eq (s : State) (id m lo : Nat) : s.reedSrc id m lo =
    if (!cfgTriple (s.cellCfg id) || s.reedPlace id m % 3 == 0) = true then
      (s.inStep m).source id m (s.reedWord id m) (s.reedWord id m / 2 ^ lo % 32)
    else if lo = 17 then (s.cell id).la else if lo = 12 then (s.cell id).lb else (s.cell id).lc := by
  unfold State.reedSrc
  cases cfgTriple (s.cellCfg id) <;> by_cases h : s.reedPlace id m % 3 = 0 <;> simp [h]

section
variable {s : State} {op : Nat} {c : Fin 65536} {m : Nat} {g : ReedIn → ReedOut}

/-- A cell that does not execute the operation does nothing in its micro-step (R299, R305). -/
theorem State.reed_of_not_issues {act : State → BitVec 16 → State} (h : s.reedIssues op c.val m = false) : s.reed op c m g act = s.inStep m := by
  have hskip : (s.inStep m).cellRuns c.val = false ∨ cfgBit ((s.inStep m).cellCfg c.val) = true ∨ s.reedWord c.val m / 2 ^ 26 ≠ op := by
    rw [State.cellRuns_inStep, State.cellCfg_inStep]
    by_contra hc
    push Not at hc
    simp only [State.reedIssues, hc, ne_eq, Bool.not_eq_false, Bool.not_eq_true] at h hc
    simp at h
  have hw : cfgInstr ((s.inStep m).cellCfg c.val) (if cfgTriple ((s.inStep m).cellCfg c.val) then m % 840 % cfgPhrase ((s.inStep m).cellCfg c.val) / 3
      else m % 840 % cfgPhrase ((s.inStep m).cellCfg c.val)) = s.reedWord c.val m := by
    rw [State.cellCfg_inStep]
    rfl
  rw [← hw] at hskip
  exact if_pos hskip

/-- The cell after an operation that it executes (R302, R307, R308). -/
theorem State.cellBecomes_reed (hop : op ≠ 0) (h : s.reedIssues op c.val m = true) :
    CellBecomes (s.inStep m) c.val
      (s.reedCell c.val m (g (s.reedIn c.val m)).r (g (s.reedIn c.val m)).carry (g (s.reedIn c.val m)).flag) (s.reed op c m g) := by
  simp only [State.reedIssues, Bool.and_eq_true, Bool.not_eq_true', beq_iff_eq] at h
  obtain ⟨⟨hrun, hbit⟩, hword⟩ := h
  have hskip : ¬ ((s.inStep m).cellRuns c.val = false ∨ cfgBit (s.cellCfg c.val) = true ∨ s.reedWord c.val m / 2 ^ 26 ≠ op) := by
    simp only [State.cellRuns_inStep, hrun, hbit, hword]
    simp
  have hreed : s.reed op c m g =
      if cfgTriple (s.cellCfg c.val) = false then (s.inStep m).retire op c.val m (s.reedWord c.val m) (g (s.reedIn c.val m)) fun t _ => t
      else if s.reedPlace c.val m % 3 = 0 then (s.inStep m).setCell c.val { s.cell c.val with
        la := s.reedSrc c.val m 17, lb := s.reedSrc c.val m 12, lc := s.reedSrc c.val m 7, t0 := g (s.reedIn c.val m) }
      else if s.reedPlace c.val m % 3 = 1 then (s.inStep m).setCell c.val { s.cell c.val with t1 := g (s.reedIn c.val m) }
      else (s.inStep m).retire op c.val m (s.reedWord c.val m) (ReedOut.vote (s.cell c.val).t0 (s.cell c.val).t1 (g (s.reedIn c.val m))) fun t _ => t := by
    unfold State.reed
    simp only [show (s.at_ (s.stepTime m)).feedSample m = s.inStep m from rfl, State.cellCfg_inStep, State.cell_inStep, State.reedIn,
      State.reedSrc_eq]
    exact if_neg hskip
  rw [hreed, State.reedCell]
  by_cases ht : cfgTriple (s.cellCfg c.val) = false
  · rw [if_pos ht, if_pos ht]
    refine (cellBecomes_retire hop).congr ?_
    rw [State.cell_inStep, State.latched_inStep]
  · rw [if_neg ht, if_neg ht]
    by_cases h0 : s.reedPlace c.val m % 3 = 0
    · rw [if_pos h0, if_pos h0]
      exact .setCell
    · rw [if_neg h0, if_neg h0]
      by_cases h1 : s.reedPlace c.val m % 3 = 1
      · rw [if_pos h1, if_pos h1]
        exact .setCell
      · rw [if_neg h1, if_neg h1]
        refine (cellBecomes_retire hop).congr ?_
        rw [State.cell_inStep, State.latched_inStep]
        rfl

/-- What the clause of an operation says: its cell registers the result and the flags that the operation gives. -/
theorem State.reed_gives {r : BitVec 16} {cf ff : Bool} (hop : op ≠ 0) (h : s.reedIssues op c.val m = true)
    (hg : g (s.reedIn c.val m) = ⟨r, cf, ff⟩) :
    ∃ t, (.next (s.reed op c m g) : Out) = .next t
      ∧ t.cell c.val = s.reedCell c.val m r cf ff
      ∧ t = { s.inStep m with fab := { (s.inStep m).fab with cells := t.fab.cells } }
      ∧ (∀ key, key ∉ ([c.val] : List Nat) → t.cell key = s.cell key) := by
  obtain ⟨hc, ht, hk⟩ := State.cellBecomes_reed (g := g) hop h
  rw [hg] at hc
  exact ⟨_, rfl, hc, ht, fun key hn => (hk key hn).trans (State.cell_inStep s m key)⟩

end

/-! ## The results (R308) -/

section
variable (a b : BitVec 16) (cf ff : Bool)

theorem add_carry_eq : BitVec.ofNat 16 (a.toNat + b.toNat + if cf = true then 1 else 0) = a + b + if cf = true then 1 else 0 := by
  apply BitVec.eq_of_toNat_eq
  cases cf <;> simp

theorem sub_borrow_eq : a - BitVec.ofNat 16 (b.toNat + if cf = true then 0 else 1) = a - b - if cf = true then 0 else 1 := by
  cases cf
  · simp [BitVec.ofNat_add, sub_add_eq_sub_sub]
  · simp

/-- Bits [31:16] of a 32-bit number (R308). -/
theorem extractLsb_ofInt (v : Int) : (BitVec.ofInt 32 v).extractLsb' 16 16 = BitVec.ofInt 16 (Int.fdiv v 65536) := by
  apply BitVec.eq_of_toNat_eq
  rw [Int.fdiv_eq_ediv_of_nonneg _ (by decide)]
  simp only [BitVec.extractLsb'_toNat, BitVec.toNat_ofInt, Nat.shiftRight_eq_div_pow]
  omega

theorem mulh_signed : (a.signExtend 32 * b.signExtend 32).extractLsb' 16 16 = BitVec.ofInt 16 (Int.fdiv (a.toInt * b.toInt) 65536) := by
  rw [← extractLsb_ofInt, BitVec.ofInt_mul]
  rfl

theorem mulh_unsigned : (a.zeroExtend 32 * b.zeroExtend 32).extractLsb' 16 16 = BitVec.ofNat 16 (a.toNat * b.toNat / 65536) := by
  have hab : a.toNat * b.toNat < 2 ^ 32 := by
    calc a.toNat * b.toNat < 2 ^ 16 * 2 ^ 16 := Nat.mul_lt_mul'' a.isLt b.isLt
      _ = 2 ^ 32 := by decide
  apply BitVec.eq_of_toNat_eq
  simp [Nat.shiftRight_eq_div_pow]
  omega

theorem min_slt : (if a.toInt ≤ b.toInt then a else b) = if a.slt b = true then a else b := by
  rcases Int.lt_trichotomy a.toInt b.toInt with h | h | h
  · simp [BitVec.slt, h, h.le]
  · simp [BitVec.eq_of_toInt_eq h]
  · simp [BitVec.slt, h.not_ge, h.not_gt]

theorem max_slt : (if a.toInt ≤ b.toInt then b else a) = if a.slt b = true then b else a := by
  rcases Int.lt_trichotomy a.toInt b.toInt with h | h | h
  · simp [BitVec.slt, h, h.le]
  · simp [BitVec.eq_of_toInt_eq h]
  · simp [BitVec.slt, h.not_ge, h.not_gt]

theorem min_ult : (if a.toNat ≤ b.toNat then a else b) = if a.ult b = true then a else b := by
  rcases Nat.lt_trichotomy a.toNat b.toNat with h | h | h
  · simp [BitVec.ult, h, h.le]
  · simp [BitVec.eq_of_toNat_eq h]
  · simp [BitVec.ult, h.not_ge, h.not_gt]

theorem max_ult : (if a.toNat ≤ b.toNat then b else a) = if a.ult b = true then b else a := by
  rcases Nat.lt_trichotomy a.toNat b.toNat with h | h | h
  · simp [BitVec.ult, h, h.le]
  · simp [BitVec.eq_of_toNat_eq h]
  · simp [BitVec.ult, h.not_ge, h.not_gt]

/-- A saturated result is the nearer limit of 16 signed bits, and C says whether it was cut. -/
theorem sat_eq (i : ReedIn) (v : Int) :
    i.sat v = ⟨BitVec.ofInt 16 (max (-32768) (min 32767 v)), decide (v < -32768 ∨ 32767 < v), i.flag⟩ := by
  unfold ReedIn.sat
  split
  · next h =>
    rw [min_eq_right (by omega), max_eq_left (by omega)]
    simp [ReedIn.resC, h]
  · split
    · next h =>
      rw [min_eq_left (by omega), max_eq_right (by omega)]
      simp [ReedIn.resC, h]
    · next h h' =>
      rw [min_eq_right (by omega), max_eq_right (by omega)]
      simp [ReedIn.resC, h, h']

end

/-! ## Feed words and sources (R306, R329) -/

section
variable (s : State) (w : Nat)

theorem speed_low (v : Int) : w16 (BitVec.ofInt 32 v).toNat 0 = BitVec.ofInt 16 v := by
  apply BitVec.eq_of_toNat_eq
  simp only [w16, BitVec.toNat_ofNat, BitVec.toNat_ofInt]
  omega

theorem speed_high (v : Int) : w16 (BitVec.ofInt 32 v).toNat 16 = BitVec.ofInt 16 (v / 65536) := by
  apply BitVec.eq_of_toNat_eq
  simp only [w16, BitVec.toNat_ofNat, BitVec.toNat_ofInt]
  omega

theorem w16_zero (v : Nat) : w16 v 0 = BitVec.ofNat 16 v := by
  rw [w16, Nat.pow_zero, Nat.div_one]

/-- Whether an instant lies within the 8 micro-steps before wheel time `w` (R329). -/
theorem any_eq_match (o : Option Nat) : (match o with | some x => decide (x ≤ w ∧ w < x + 4) | none => false) =
    o.any fun x => decide (x ≤ w ∧ w < x + 4) := by
  cases o <;> rfl

/-- Feed word 15: bit 0 the internal SYNC, bit 1 the SNAP trigger. -/
theorem feedWord_fifteen : s.feedWord w 15 = BitVec.ofNat 16
    ((if s.clk.syncAt.any (fun x => decide (x ≤ w ∧ w < x + 4)) = true then 1 else 0) +
      (if s.snapAt.any (fun x => decide (x ≤ w ∧ w < x + 4)) = true then 2 else 0)) := by
  rw [← any_eq_match, ← any_eq_match]
  rfl

/-- The word of an angle's bits [23:16] with the flags VALID, STALLED and REVERSE, its terms in the order of R329. -/
theorem feedWord_flags {d j : Nat} (h : s.feedWord w j = BitVec.ofNat 16 ((s.domAngle d w % revUnits).toNat / 65536 % 256 +
    ((if s.domValid d = true then 0x100 else 0) + (if s.domStalled d = true then 0x200 else 0) + (if s.domReverse d = true then 0x400 else 0)))) :
    s.feedWord w j = BitVec.ofNat 16 ((s.domAngle d w % revUnits).toNat / 65536 % 256 + (if s.domValid d = true then 0x100 else 0) +
      (if s.domStalled d = true then 0x200 else 0) + (if s.domReverse d = true then 0x400 else 0)) := by
  rw [h, Nat.add_assoc, Nat.add_assoc, Nat.add_assoc]

theorem feedWord_wheelTime {j : Nat} (h : j < 4) : s.feedWord w (10 + j) = BitVec.ofNat 16 (w / 2 ^ (16 * j)) := by
  interval_cases j
  · rfl
  · rfl
  · rfl
  · rfl

/-- The immediate of an instruction word, sign-extended (R306). -/
theorem toInt_immediate : ((BitVec.ofNat 12 w).signExtend 16).toInt = if w % 4096 < 2048 then ((w % 4096 : Nat) : Int) else (w % 4096 : Nat) - 4096 := by
  rw [BitVec.toInt_signExtend_of_le (by decide), BitVec.toInt, BitVec.toNat_ofNat]
  split <;> split <;> omega

/-- The lanes are sources 4 to 11. -/
theorem source_lane {l : Nat} (id m : Nat) (h : l < 8) : s.source id m w (l + 4) = s.seeLane m 8 id l := by
  unfold State.source
  have h' : l + 4 < 12 := by omega
  simp [h']

end

/-- The operations of O37 by their codes: each is `State.reed` of its code. -/
theorem exec_of_reedArithmetic {c : Fin 65536} {m op : Nat} {i : Instr} {s : State}
    (hi : (op, i) ∈ ([(0x01, .reedMov c m), (0x02, .reedAdd c m), (0x03, .reedAdc c m), (0x04, .reedSub c m), (0x05, .reedSbc c m),
      (0x0F, .reedMull c m), (0x10, .reedMulh c m), (0x11, .reedMulhu c m), (0x12, .reedMin c m), (0x13, .reedMax c m), (0x14, .reedMinu c m),
      (0x15, .reedMaxu c m), (0x1D, .reedAdds c m), (0x1E, .reedSubs c m), (0x1F, .reedInceq c m)] : List (Nat × Instr))) :
    ∃ g, exec i s = .next (s.reed op c m g) := by
  simp only [List.mem_cons, List.not_mem_nil, or_false, Prod.mk.injEq] at hi
  obtain ⟨rfl, rfl⟩ | ⟨rfl, rfl⟩ | ⟨rfl, rfl⟩ | ⟨rfl, rfl⟩ | ⟨rfl, rfl⟩ | ⟨rfl, rfl⟩ | ⟨rfl, rfl⟩ | ⟨rfl, rfl⟩ | ⟨rfl, rfl⟩ | ⟨rfl, rfl⟩ |
    ⟨rfl, rfl⟩ | ⟨rfl, rfl⟩ | ⟨rfl, rfl⟩ | ⟨rfl, rfl⟩ | ⟨rfl, rfl⟩ := hi <;> exact ⟨_, rfl⟩

/-- Settles O37: the feed words and the sources as they are read, and each operation with the result that its clause names. -/
theorem reedArithmetic : Obligations.ReedArithmetic := by
  unfold Obligations.ReedArithmetic
  refine ⟨?sample, ?words, ?sources, ?mov, ?add, ?adc, ?sub, ?sbc, ?mull, ?mulh, ?mulhu, ?min, ?max, ?minu, ?maxu, ?adds, ?subs, ?inceq, ?other⟩
  case sample =>
    exact fun m s => ⟨⟨s.fab_inStep_of_sampled m, s.feed_inStep_of_not_sampled m⟩, s.inStep_eq m⟩
  case words =>
    intro w s
    refine ⟨⟨w16_zero _, feedWord_flags s w rfl, speed_low _, speed_high _⟩, ⟨w16_zero _, feedWord_flags s w rfl, speed_low _, speed_high _⟩,
      w16_zero _, rfl, fun j hj => feedWord_wheelTime s w hj, rfl, ?sync, ?snap⟩
    case sync =>
      rw [feedWord_fifteen]
      generalize s.clk.syncAt.any _ = p, s.snapAt.any _ = q
      revert p q
      decide
    case snap =>
      rw [feedWord_fifteen]
      generalize s.clk.syncAt.any _ = p, s.snapAt.any _ = q
      revert p q
      decide
  case sources =>
    exact fun id m w s => ⟨⟨rfl, rfl, rfl, rfl⟩, fun l hl => source_lane s w id m hl, toInt_immediate w, rfl, rfl, rfl, rfl⟩
  case mov => exact fun c m s h => State.reed_gives (by decide) h rfl
  case add => exact fun c m s h => State.reed_gives (by decide) h rfl
  case adc => exact fun c m s h => State.reed_gives (by decide) h (congrArg (ReedOut.mk · _ _) (add_carry_eq _ _ _))
  case sub => exact fun c m s h => State.reed_gives (by decide) h rfl
  case sbc => exact fun c m s h => State.reed_gives (by decide) h (congrArg (ReedOut.mk · _ _) (sub_borrow_eq _ _ _))
  case mull => exact fun c m s h => State.reed_gives (by decide) h rfl
  case mulh => exact fun c m s h => State.reed_gives (by decide) h (congrArg (ReedOut.mk · _ _) (mulh_signed _ _).symm)
  case mulhu => exact fun c m s h => State.reed_gives (by decide) h (congrArg (ReedOut.mk · _ _) (mulh_unsigned _ _).symm)
  case min => exact fun c m s h => State.reed_gives (by decide) h (congrArg (ReedOut.mk · _ _) (min_slt _ _))
  case max => exact fun c m s h => State.reed_gives (by decide) h (congrArg (ReedOut.mk · _ _) (max_slt _ _))
  case minu => exact fun c m s h => State.reed_gives (by decide) h (congrArg (ReedOut.mk · _ _) (min_ult _ _))
  case maxu => exact fun c m s h => State.reed_gives (by decide) h (congrArg (ReedOut.mk · _ _) (max_ult _ _))
  case adds => exact fun c m s h => State.reed_gives (by decide) h (sat_eq _ _)
  case subs => exact fun c m s h => State.reed_gives (by decide) h (sat_eq _ _)
  case inceq => exact fun c m s h => State.reed_gives (by decide) h rfl
  case other =>
    intro c m op i s hi h
    obtain ⟨g, hg⟩ := exec_of_reedArithmetic (s := s) hi
    exact ⟨_, hg, State.reed_of_not_issues h⟩

end Sys2Proof.Machine
end

section
/-! PROOFS. The frames over the interrupt slots. A slot is kept under the key 4 · source + drone, and the clauses that say "no other slot
changes" range over every source and every index of a drone, also an index from 4 up: slot (0, 4 n + d) is slot (n, d). So such a clause lets no
slot change at all, and it fails of every command that makes a source pending which it lists. The theorems of this section each give a state in
which a command does so. They evaluate the machine, so they are elaborated one after another, as the tests are. -/
set_option Elab.async false
namespace Sys2Proof.Machine

theorem State.slot_zero (s : State) (n d : Nat) : s.slot 0 (n * 4 + d) = s.slot n d := by
  simp [State.slot]

section
variable {s t : State} {l : List Nat}

/-- A frame over the slots that lists sources, source 0 not among them, keeps the slots of the listed sources as well. -/
theorem slot_eq_of_slotFrame (h0 : 0 ∉ l) (h : ∀ num dr, num ∉ l → t.slot num dr = s.slot num dr) (n d : Nat) : t.slot n d = s.slot n d := by
  rw [← t.slot_zero, ← s.slot_zero]
  exact h 0 _ h0

theorem isPending_eq_of_slotFrame (h0 : 0 ∉ l) (h : ∀ num dr, num ∉ l → t.slot num dr = s.slot num dr) (n : Nat) :
    t.isPending n = s.isPending n := by
  simp only [State.isPending, slot_eq_of_slotFrame h0 h]

/-- No such frame holds where a source becomes pending. -/
theorem not_slotFrame {n : Nat} (ht : t.isPending n = true) (hs : s.isPending n = false) (h0 : 0 ∉ l) :
    ¬ ∀ num dr, num ∉ l → t.slot num dr = s.slot num dr := by
  intro h
  rw [isPending_eq_of_slotFrame h0 h, hs] at ht
  exact Bool.noConfusion ht

end

/-- The state after reset, in mode `m` and with no source pending. -/
def afterReset (m : Nat) : State := { State.reset.set F.SYS_MODE_MODE m with irq := [] }

/-- Tracker 0 with source `src` and a legal configuration, in RUN. -/
def withTracker (src : Nat) : State :=
  [(F.WHEEL_SH_CFG_SRC 0, src), (F.WHEEL_SH_EDGES_E 0, 1000), (F.WHEEL_SH_STALL_US 0, 10000), (F.WHEEL_SH_SSI_PERIOD 0, 100),
    (F.WHEEL_SH_SSI_POS_BITS 0, 24), (F.WHEEL_SH_SSI_WORD_BITS 0, 24)].foldl (fun s f => s.set f.1 f.2) (afterReset M.run)

/-- Engine `e` runs and stands before the instruction word `w`. -/
def atInstruction (e : Nat) (w : Word) : State := ((afterReset M.run).memWrite (engineBase e) (w.zeroExtend 64)).setEngine e { on := true }

/-- Refutes O1: an arm for frame 0 takes effect in ARMED, which makes 824 pending; the frame of that clause lets no slot change. -/
theorem not_modeRequests : ¬ Obligations.ModeRequests := by
  unfold Obligations.ModeRequests
  rintro ⟨-, -, -, -, -, -, -, -, -, -, -, -, -, -, h, -⟩
  specialize h 0 0 { afterReset M.armed with modeCtl := { arm := some 0 } }
  iterate 4 specialize h (by decide +kernel)
  obtain ⟨t, -, -, -, -, hpend, -, -, -, -, hframe⟩ := h
  exact not_slotFrame hpend (by decide +kernel) (by decide) hframe

/-- Refutes O5: a session writes a register of NET, which is OFF without wake on access, and 905 becomes pending; the frame of that clause lets no
slot change. -/
theorem not_registerWrites : ¬ Obligations.RegisterWrites := by
  unfold Obligations.RegisterWrites
  rintro ⟨-, -, -, -, -, h, -⟩
  specialize h .ivwyn (R.NET_IP_MASK) 3 ((afterReset M.init).setPwrState 18 P.off)
  iterate 4 specialize h (by decide +kernel)
  obtain ⟨t, -, -, -, -, hpend, -, -, hframe, -⟩ := h
  exact not_slotFrame hpend (by decide +kernel) (by decide) hframe

/-- Refutes O6: a session reads a register of NET, which is OFF without wake on access, and 905 becomes pending; the frame of that clause lets no
slot change. -/
theorem not_registerReads : ¬ Obligations.RegisterReads := by
  unfold Obligations.RegisterReads
  rintro ⟨-, -, -, -, h, -⟩
  specialize h .ivwyn (R.NET_IP_MASK) ((afterReset M.init).setPwrState 18 P.off)
  iterate 4 specialize h (by decide +kernel)
  obtain ⟨t, -, -, -, -, hpend, -, -, hframe, -⟩ := h
  exact not_slotFrame hpend (by decide +kernel) (by decide) hframe

/-- Refutes O7: the TAP reads a word of PFLASH with two bad bits, and 844 becomes pending; the frame of that clause lets no slot change. -/
theorem not_gridMemoryAccess : ¬ Obligations.GridMemoryAccess := by
  unfold Obligations.GridMemoryAccess
  rintro ⟨-, -, -, -, -, -, -, -, -, -, -, -, -, -, -, -, -, -, -, -, h, -⟩
  specialize h .tap 0x33000018 8 2 (afterReset M.run)
  iterate 7 specialize h (by decide +kernel)
  obtain ⟨t, -, -, -, -, hpend, -, -, -, -, hframe⟩ := h
  exact not_slotFrame hpend (by decide +kernel) (by decide) hframe

/-- Refutes O10: an index pulse of a tracker that takes none makes 676 pending; the frame of that clause lets no slot change. -/
theorem not_shaftEdges : ¬ Obligations.ShaftEdges := by
  unfold Obligations.ShaftEdges
  rintro ⟨-, -, -, -, -, -, -, -, -, h, -⟩
  obtain ⟨t, -, hpend, -, -, hframe⟩ := h 0 1000 (withTracker 1) (by decide +kernel) (by decide +kernel) (by decide +kernel)
  exact not_slotFrame hpend (by decide +kernel) (by decide) hframe

/-- Refutes O11: the third discrepant sample in a row of an SSI tracker makes 673 pending; the frame of that clause lets no slot change. -/
theorem not_shaftSamplesAndTicks : ¬ Obligations.ShaftSamplesAndTicks := by
  unfold Obligations.ShaftSamplesAndTicks
  rintro ⟨-, -, -, h, -⟩
  specialize h 0 1000 0x400000 ((withTracker 2).setTracker 0 { valid := true, discards := 2 })
  iterate 6 specialize h (by decide +kernel)
  obtain ⟨t, -, -, -, -, hpend, -, -, -, -, hframe⟩ := h
  exact not_slotFrame hpend (by decide +kernel) (by decide) hframe

/-- Refutes O12: a wheel that is not ready turns an insert away, and 685 becomes pending; the frame of that clause lets no slot change. -/
theorem not_insertOffers : ¬ Obligations.InsertOffers := by
  unfold Obligations.InsertOffers
  rintro ⟨-, -, -, -, -, -, -, -, -, h, -⟩
  specialize h 12 12 ⟨5, 6, 0x10, .fabric 4⟩ [] ((afterReset M.run).setPortFifo 12 [⟨5, 6, 0x10, .fabric 4⟩])
  iterate 8 specialize h (by decide +kernel)
  obtain ⟨t, -, -, -, -, -, -, hpend, -, -, -, -, hframe, -⟩ := h
  exact not_slotFrame hpend (by decide +kernel) (by decide) hframe

/-- A wheel that is ready, with the lane of every event in domain A, whose free entries stand at POOL_WARN. -/
def poolAtWarn : State :=
  let s := (((((afterReset M.run).wr (R.WHEEL_LANE_DOM 0) 0x55555555).set F.WHEEL_STAT_READY 1).wr R.WHEEL_POOL_FREE 9).wr R.WHEEL_POOL_WARN 9)
  { s.setDom 0 { lp := 500000, hw := some 100 } with wheel := { inited := true, inited1 := true } }

/-- Refutes O13: an insert is linked while the free entries stand at POOL_WARN, and 683 becomes pending; the frame of that clause lets no slot
change. -/
theorem not_insertsAreLinked : ¬ Obligations.InsertsAreLinked := by
  unfold Obligations.InsertsAreLinked
  rintro ⟨h, -⟩
  specialize h 12 3196 0 100 ⟨5, 1000, 0xF000000000000010, .fabric 4⟩ [] (poolAtWarn.setPortFifo 12 [⟨5, 1000, 0xF000000000000010, .fabric 4⟩])
  iterate 18 specialize h (by decide +kernel)
  obtain ⟨t, -, -, -, -, -, -, -, -, -, -, hpend, -, -, -, -, -, hframe, -⟩ := h
  exact not_slotFrame (hpend (by decide +kernel)) (by decide +kernel) (by decide) hframe

/-- Refutes O14: the one detached queue of a domain without a high-water position falls behind, and 686 becomes pending; the frame of that clause
lets no slot change. -/
theorem not_wheelDrains : ¬ Obligations.WheelDrains := by
  unfold Obligations.WheelDrains
  rintro ⟨-, -, h, -⟩
  specialize h 0 1000 ⟨5, 7, 3, 1, false⟩ ((afterReset M.run).setDom 0 { lp := 500000, hw := none, detached := [⟨5, 7, 3, 1, false⟩] })
  iterate 4 specialize h (by decide +kernel)
  obtain ⟨t, -, -, -, hpend, -, -, -, -, -, hframe⟩ := h
  exact not_slotFrame hpend (by decide +kernel) (by decide) hframe

/-- Refutes O15: a flush of an empty lane is done, and 688 becomes pending; the frame of that clause lets no slot change. -/
theorem not_wheelInitAndFlush : ¬ Obligations.WheelInitAndFlush := by
  unfold Obligations.WheelInitAndFlush
  rintro ⟨-, -, -, -, -, -, h, -⟩
  specialize h 5 6 101 { afterReset M.run with wheel := { flushLane := some 5 } }
  iterate 2 specialize h (by decide +kernel)
  obtain ⟨t, -, -, -, -, -, -, -, -, hpend, -, hframe⟩ := h
  exact not_slotFrame hpend (by decide +kernel) (by decide) hframe

/-- Every checkpoint word of chanter `n`'s pair region is clean. -/
def withCheckpoint (n : Nat) (s : State) : State :=
  (List.range 14).foldl (fun u i => u.memWrite (pairRegion n + 0x380 + i / 7 * 0x40 + 8 * (i % 7)) 7) s

/-- Refutes O16: chanter 5 misses frame 20, its event enabled, and 261 becomes pending; the frame of that clause lets no slot change. -/
theorem not_framesAreCommitted : ¬ Obligations.FramesAreCommitted := by
  unfold Obligations.FramesAreCommitted
  rintro ⟨-, -, -, -, h, -⟩
  specialize h 5 5 20 (withCheckpoint 5 (((afterReset M.run).set F.CLK_CTL_CORE 1).setBitAt (R.CHT_C_CTL 5) 0))
  iterate 8 specialize h (by decide +kernel)
  obtain ⟨t, -, -, -, -, hpend, -, -, hframe⟩ := h
  exact not_slotFrame (hpend (by decide +kernel) (by decide +kernel)) (by decide +kernel) (by decide) hframe

/-- Refutes O22: drone 0 meets an illegal ADD, and 388 becomes pending on the other drones; the frame of that clause lets no slot change. -/
theorem not_branchesAndExceptions : ¬ Obligations.BranchesAndExceptions := by
  unfold Obligations.BranchesAndExceptions
  rintro ⟨-, -, -, -, -, -, -, -, h, -⟩
  obtain ⟨t, -, -, -, hraised, -, -, -, -, hframe⟩ := h 132 ⟨0, 1, 2, 3, 1⟩ ⟨0, 0, 0, 0⟩ ⟨0, 0, 0⟩ ⟨0, 0⟩ 1 (.add 132 ⟨0, 1, 2, 3, 1⟩)
    (FmtT.word ⟨0, 1, 2, 3, 1⟩ 0x02) false (atInstruction 132 (FmtT.word ⟨0, 1, 2, 3, 1⟩ 0x02)) (by decide +kernel) (by decide +kernel)
    (by decide +kernel) (by decide +kernel)
  have hpend : (t.slot 388 1).pend = true := hraised 1 (by decide) (by decide +kernel)
  rw [slot_eq_of_slotFrame (by decide) hframe] at hpend
  revert hpend
  decide +kernel

/-- Whether a command ends in a state in which source `n` is pending. -/
def leavesPending (o : Out) (n : Nat) : Bool := match o with
  | .next t => t.isPending n
  | _ => false

/-- Drone 3 has a posted store to NET, which is OFF. -/
def storeToOff : State := ((afterReset M.run).setPwrState 18 P.off).setEngine 135 { on := true, posted := [⟨R.NET_IP_MASK, false, 99⟩] }

/-- Refutes O23: the posted store of drone 3 to NET, which is OFF, is answered with an error, and 905 becomes pending; the frame of that clause lets
no slot change. -/
theorem not_loadsAndStores : ¬ Obligations.LoadsAndStores := by
  unfold Obligations.LoadsAndStores
  rintro ⟨-, -, -, -, -, -, -, -, -, -, -, -, -, -, h, -⟩
  obtain ⟨t, hexec, -, -, -, -, -, -, hframe⟩ := h 3 ⟨R.NET_IP_MASK, false, 99⟩ [] .domainOff 0 storeToOff storeToOff (by decide +kernel)
    (by decide +kernel) (by decide +kernel)
  have hpend : leavesPending (exec (.postedStoreResponse 3) storeToOff) 905 = true := by decide +kernel
  rw [hexec] at hpend
  exact not_slotFrame hpend (by decide +kernel) (by decide) hframe

/-- Refutes O24: SWI of drone 0 makes 920 pending; the frame of that clause lets no slot change. -/
theorem not_specialInstructions : ¬ Obligations.SpecialInstructions := by
  unfold Obligations.SpecialInstructions
  rintro ⟨-, -, -, -, -, -, -, -, -, -, -, -, -, -, -, h, -⟩
  specialize h 132 ⟨0, 0, 0, 920⟩ 920 ((atInstruction 132 (FmtI.word ⟨0, 0, 0, 920⟩ 0x2E)))
  iterate 5 specialize h (by decide +kernel)
  obtain ⟨t, -, hpend, -, -, -, hframe, -⟩ := h
  exact not_slotFrame hpend (by decide +kernel) (by decide) hframe

/-- Refutes O26: lane 7 is lost in SENDING, its event enabled, and source 7 becomes pending; the frame of that clause lets no slot change. -/
theorem not_laneFramesAreSent : ¬ Obligations.LaneFramesAreSent := by
  unfold Obligations.LaneFramesAreSent
  rintro ⟨-, -, -, -, -, -, -, -, -, -, -, -, -, -, -, -, h, -⟩
  specialize h 7 1000000 (((afterReset M.run).set (F.LANE_STAT_STATE 7) L.sending).wr (R.LANE_IRQ_EN 7) 4)
  iterate 2 specialize h (by decide +kernel)
  obtain ⟨t, -, -, hpend, -, -, -, hframe⟩ := h
  exact not_slotFrame (hpend (by decide +kernel) (by decide +kernel)) (by decide +kernel) (by decide) hframe

/-- Refutes O27: a management request of lane 7 times out, its event enabled, and source 7 becomes pending; the frame of that clause lets no slot
change. -/
theorem not_laneEchoes : ¬ Obligations.LaneEchoes := by
  unfold Obligations.LaneEchoes
  rintro ⟨-, -, -, -, -, -, -, -, -, -, -, -, -, -, h, -⟩
  specialize h 7 16640 5 20 (((afterReset M.run).wr (R.LANE_IRQ_EN 7) 0x80).setLane 7 { mg := some ⟨5, some 20⟩ })
  iterate 2 specialize h (by decide +kernel)
  obtain ⟨t, -, -, -, -, hpend, -, -, -, -, hframe⟩ := h
  exact not_slotFrame (hpend (by decide +kernel) (by decide +kernel)) (by decide +kernel) (by decide) hframe

/-- Refutes O28: converter 2 is enabled without the ADC clock, and 662 becomes pending; the frame of that clause lets no slot change. -/
theorem not_convertersStartAndStop : ¬ Obligations.ConvertersStartAndStop := by
  unfold Obligations.ConvertersStartAndStop
  rintro ⟨-, -, h, -⟩
  specialize h .tap 2 (((afterReset M.run).set (F.MEAS_ADC_CTL_TRIG 2) 4).set (F.MEAS_ADC_CTL_LIST_LEN 2) 4)
  iterate 6 specialize h (by decide +kernel)
  obtain ⟨t, -, -, -, -, hpend, -, -, hframe⟩ := h
  exact not_slotFrame hpend (by decide +kernel) (by decide) hframe

/-- Refutes O29: a conversion takes monitor 0 above its limits, and 665 becomes pending; the frame of that clause lets no slot change. -/
theorem not_resultsAreCalibratedAndJudged : ¬ Obligations.ResultsAreCalibratedAndJudged := by
  unfold Obligations.ResultsAreCalibratedAndJudged
  rintro ⟨-, -, -, -, -, -, h, -⟩
  specialize h 0 0 0x18 W.above W.inside 0 0 ((afterReset M.run))
  iterate 8 specialize h (by decide +kernel)
  obtain ⟨t, -, -, -, hpend, -, -, -, hframe⟩ := h
  exact not_slotFrame ((hpend (by decide +kernel) (by decide +kernel)).2) (by decide +kernel) (by decide) hframe

/-- Refutes O30: port UP has one frame unacknowledged for 20 µs, and 770 becomes pending; the frame of that clause lets no slot change. -/
theorem not_chainLinks : ¬ Obligations.ChainLinks := by
  unfold Obligations.ChainLinks
  rintro ⟨-, -, -, -, -, -, -, -, -, -, -, -, -, -, -, -, -, -, h, -⟩
  specialize h 0 8000 (((afterReset M.run).set (F.EMN_P_STAT_STATE 0) E.linked).setEmnPort 0 { window := [(3, .data 5 3 0 [])] })
  iterate 3 specialize h (by decide +kernel)
  obtain ⟨t, -, -, -, -, hpend, -, -, hframe⟩ := h
  exact not_slotFrame hpend (by decide +kernel) (by decide) hframe

/-- Refutes O31: the head of a chain gets an ENUM frame, and 774 becomes pending; the frame of that clause lets no slot change. -/
theorem not_chainFramesAct : ¬ Obligations.ChainFramesAct := by
  unfold Obligations.ChainFramesAct
  rintro ⟨-, -, -, -, -, -, -, -, -, -, -, -, -, -, -, -, -, -, -, h, -⟩
  specialize h 8000 3 ⟨0, 3, 2, [3]⟩ [] { afterReset M.run with emn := { head := true, inbox := [⟨0, 3, 2, [3]⟩] } }
  iterate 5 specialize h (by decide +kernel)
  obtain ⟨t, -, -, hpend, -, -, -, hframe⟩ := h
  exact not_slotFrame hpend (by decide +kernel) (by decide) hframe

/-- Refutes O32: a session requests HOLD in RUN, and 824 becomes pending; the frame of that clause lets no slot change. -/
theorem not_ivwynRequests : ¬ Obligations.IvwynRequests := by
  unfold Obligations.IvwynRequests
  rintro ⟨-, -, -, -, -, -, -, -, -, -, -, -, h, -⟩
  specialize h 5 ⟨0x22, 17, 0x0A000005, 4000, [], [8, 0, 0, 0]⟩ ((afterReset M.run).setSession 5 { queue := [⟨0x22, 17, 0x0A000005, 4000, [], [8, 0, 0, 0]⟩] })
  iterate 4 specialize h (by decide +kernel)
  obtain ⟨t, -, -, -, hpend, -, -, -, -, hframe⟩ := h
  exact not_slotFrame hpend (by decide +kernel) (by decide) hframe

/-- Refutes O34: the link of port 3 comes up at half duplex, and 707 becomes pending; the frame of that clause lets no slot change. -/
theorem not_theSwitchForwards : ¬ Obligations.TheSwitchForwards := by
  unfold Obligations.TheSwitchForwards
  rintro ⟨-, -, -, -, -, -, -, -, -, -, -, -, -, -, -, -, -, h, -⟩
  specialize h 3 true 1 true ((afterReset M.run).set (F.NET_E_STAT_LINK 3) 1)
  iterate 4 specialize h (by decide +kernel)
  obtain ⟨t, -, -, -, hpend, -, -, hframe⟩ := h
  exact not_slotFrame hpend (by decide +kernel) (by decide) hframe

/-- Refutes O35: a gPTP slave has had no Sync for three intervals, and 715 becomes pending; the frame of that clause lets no slot change. -/
theorem not_scheduledTrafficAndTime : ¬ Obligations.ScheduledTrafficAndTime := by
  unfold Obligations.ScheduledTrafficAndTime
  rintro ⟨-, -, -, -, -, -, -, -, -, -, -, -, -, -, -, -, -, -, -, -, -, h, -⟩
  specialize h 1200000000 { afterReset M.run with ptp := { role := some (false, 0, 0) } }
  iterate 3 specialize h (by decide +kernel)
  obtain ⟨t, -, hpend, -, -, hframe⟩ := h
  exact not_slotFrame hpend (by decide +kernel) (by decide) hframe

/-- Refutes O36: the fabric's request to an address that its port does not reach is answered, and 500 becomes pending; the frame of that clause lets
no slot change. -/
theorem not_theFabricIsReleasedAndCaptured : ¬ Obligations.TheFabricIsReleasedAndCaptured := by
  unfold Obligations.TheFabricIsReleasedAndCaptured
  rintro ⟨-, -, -, -, -, -, -, -, -, -, -, -, -, -, -, -, -, -, -, -, -, -, -, -, h, -⟩
  specialize h { afterReset M.run with fab := { spm := { busy := true, direct := true } } }
  iterate 2 specialize h (by decide +kernel)
  obtain ⟨t, -, -, -, hpend, -, -, hframe⟩ := h
  exact not_slotFrame hpend (by decide +kernel) (by decide) hframe

/-- Cell (47, 0) of a released tract runs and holds RAMRD of ZERO. -/
def atRamRead : State :=
  let s := { afterReset M.run with clk := { (afterReset M.run).clk with epoch := some 0 } }
  (s.setCellCfg 0x20F (BitVec.ofNat 320 (0x20 * 2 ^ 26))).freeTract 2

/-- Refutes O38: RAMRD of a word that was never written makes 499 pending; the frame of that clause lets no slot change. -/
theorem not_reedLogic : ¬ Obligations.ReedLogic := by
  unfold Obligations.ReedLogic
  rintro ⟨-, -, -, -, -, -, -, -, -, -, -, -, -, -, -, -, -, -, -, -, h, -⟩
  obtain ⟨t, -, -, -, -, -, -, -, -, -, -, hpend, -, -, -, hframe, -⟩ := h 0x20F 840 _ _ _ atRamRead (by decide +kernel) (by decide +kernel)
    (by decide +kernel) rfl rfl (by decide +kernel) rfl
  exact not_slotFrame hpend (by decide +kernel) (by decide) hframe

/-- Refutes O41: the head gets a report of a position that does not exist, and 774 becomes pending; the frame of that clause lets no slot change. -/
theorem not_theHeadServesTheChain : ¬ Obligations.TheHeadServesTheChain := by
  unfold Obligations.TheHeadServesTheChain
  rintro ⟨-, -, -, -, -, -, -, -, -, -, -, -, -, -, -, -, -, -, -, -, -, -, -, -, -, h, -⟩
  specialize h ⟨1, 4, 16, [0x10, 5]⟩ [] { afterReset M.run with emn := { head := true, inbox := [⟨1, 4, 16, [0x10, 5]⟩] } }
  iterate 6 specialize h (by decide +kernel)
  obtain ⟨t, -, -, hpend, -, -, hframe⟩ := h
  exact not_slotFrame hpend (by decide +kernel) (by decide) hframe

/-- Refutes O42: the journal fails for the third time at the end of an erase, and 847 becomes pending; the frame of that clause lets no slot change.
-/
theorem not_flashCommands : ¬ Obligations.FlashCommands := by
  unfold Obligations.FlashCommands
  rintro ⟨-, -, -, -, -, -, -, -, -, -, -, -, -, -, -, -, -, -, -, -, -, -, -, -, h, -⟩
  specialize h 400 true 3 0 0 0 { op := 3, addr := 0x30E00000 } [] 224 ((afterReset M.run).setOps [{ op := 3, addr := 0x30E00000 }])
  iterate 3 specialize h (by decide +kernel)
  obtain ⟨t, -, -, -, hpend, -, -, hframe⟩ := h
  exact not_slotFrame hpend (by decide +kernel) (by decide) hframe

/-- Refutes O45: a phase fails its test, and 777 becomes pending; the frame of that clause lets no slot change. -/
theorem not_holdupAndPhases : ¬ Obligations.HoldupAndPhases := by
  unfold Obligations.HoldupAndPhases
  rintro ⟨-, -, -, -, -, -, -, -, -, -, h, -⟩
  obtain ⟨t, -, hpend, -, -, hframe⟩ := h 0 ((afterReset M.run).setSupply { testing := 1 }) (by decide +kernel)
  exact not_slotFrame hpend (by decide +kernel) (by decide) hframe

/-- Refutes O46: RETENTION of a domain that is OFF is refused, and 782 becomes pending; the frame of that clause lets no slot change. -/
theorem not_domainRequests : ¬ Obligations.DomainRequests := by
  unfold Obligations.DomainRequests
  rintro ⟨-, -, -, -, -, -, -, -, -, -, h, -⟩
  specialize h .tap 11 1 ((afterReset M.init).setPwrState 11 P.off)
  iterate 5 specialize h (by decide +kernel)
  obtain ⟨t, -, -, -, -, -, hpend, -, -, -, hframe, -⟩ := h
  exact not_slotFrame hpend (by decide +kernel) (by decide) hframe

/-- Refutes O47: a domain enters RETENTION, and 780 becomes pending; the frame of that clause lets no slot change. -/
theorem not_domainTransitions : ¬ Obligations.DomainTransitions := by
  unfold Obligations.DomainTransitions
  rintro ⟨-, h, -⟩
  specialize h 6 5 (((afterReset M.init).setPwrState 6 P.entering).setPwrDom 6 { target := 1 })
  iterate 5 specialize h (by decide +kernel)
  obtain ⟨t, -, -, -, ⟨-, hpend⟩, -, -, -, hframe, -⟩ := h
  exact not_slotFrame hpend (by decide +kernel) (by decide) hframe

/-- Refutes O48: a locked PLL's VTUNE is measured as 0, and 814 becomes pending; the frame of that clause lets no slot change. -/
theorem not_thePllsLock : ¬ Obligations.ThePllsLock := by
  unfold Obligations.ThePllsLock
  rintro ⟨-, -, -, -, -, -, -, -, -, -, -, -, h, -⟩
  specialize h 0 0 0 ((afterReset M.run).set (F.CLK_PLL_STAT_LOCKED 0) 1)
  iterate 3 specialize h (by decide +kernel)
  obtain ⟨t, -, -, -, ⟨hpend, -⟩, -, -, hframe, -⟩ := h
  exact not_slotFrame hpend (by decide +kernel) (by decide) hframe

/-- Refutes O49: the reference is back, and 812 becomes pending; the frame of that clause lets no slot change. -/
theorem not_clocksFailOver : ¬ Obligations.ClocksFailOver := by
  unfold Obligations.ClocksFailOver
  rintro ⟨-, -, -, -, -, -, -, -, -, -, -, -, -, -, -, -, -, -, -, -, -, h, -⟩
  obtain ⟨t, -, ⟨-, hpend⟩, -, -, -, hframe, -⟩ := h ((afterReset M.run).set F.CLK_STAT_REF_LOST 1) (by decide +kernel)
  exact not_slotFrame hpend (by decide +kernel) (by decide) hframe

/-- Refutes O52: the watchdog of drone 1 expires, and 907 becomes pending; the frame of that clause lets no slot change. -/
theorem not_droneFailures : ¬ Obligations.DroneFailures := by
  unfold Obligations.DroneFailures
  rintro ⟨h, -⟩
  specialize h 1 4000 (((afterReset M.run).set (F.IRQ_D_WD_CFG_EN 1) 1).set (F.IRQ_D_WD_CFG_PERIOD 1) 10)
  iterate 2 specialize h (by decide +kernel)
  obtain ⟨t, -, -, -, -, -, -, ⟨hpend, -⟩, -, -, -, -, hframe⟩ := h
  exact not_slotFrame hpend (by decide +kernel) (by decide) hframe

/-- Refutes O53: the SNAP trigger acts while an unread snapshot is held, and 909 becomes pending; the frame of that clause lets no slot change. -/
theorem not_snapshots : ¬ Obligations.Snapshots := by
  unfold Obligations.Snapshots
  rintro ⟨-, -, -, -, -, -, -, -, -, h, -⟩
  obtain ⟨⟨-, hpend⟩, -, -, -, -, hframe⟩ := h 0x20 _ ((afterReset M.run).set F.SNAP_STAT_FULL 1) (by decide +kernel) (by decide +kernel)
    (by decide +kernel) (by decide +kernel) (by decide +kernel) rfl
  exact not_slotFrame hpend (by decide +kernel) (by decide) hframe

/-- Refutes O55: a slice of a drone tested in place is sealed FAIL, and 873 becomes pending; the frame of that clause lets no slot change. -/
theorem not_selfTestSlices : ¬ Obligations.SelfTestSlices := by
  unfold Obligations.SelfTestSlices
  rintro ⟨-, -, -, -, -, -, -, -, -, -, -, -, -, -, -, -, -, -, -, -, -, -, -, -, -, -, -, -, -, -, -, -, h, -⟩
  obtain ⟨hpend, -, -, hframe⟩ := h { manual := false, kind := 2, unit := 1, at_ := 50, direct := true } 1 0 0 _ (afterReset M.run) _
    (by decide +kernel) (by decide +kernel) (by decide +kernel) rfl rfl
  exact not_slotFrame hpend (by decide +kernel) (by decide) hframe

/-- Refutes O56: an unlock without a certificate fails, and 893 becomes pending; the frame of that clause lets no slot change. -/
theorem not_theServiceHolder : ¬ Obligations.TheServiceHolder := by
  unfold Obligations.TheServiceHolder
  rintro ⟨-, -, -, -, -, -, -, -, -, -, -, -, -, -, -, -, -, -, -, -, h, -⟩
  specialize h 4000 [1, 2] (afterReset M.armed)
  iterate 4 specialize h (by decide +kernel)
  obtain ⟨t, -, ⟨-, hpend⟩, -, -, hframe⟩ := h
  exact not_slotFrame hpend (by decide +kernel) (by decide) hframe

end Sys2Proof.Machine
end

section
/-! PROOFS. The supply starts (R432-R436). Every start goes through `startRails`, which either leaves the state or makes all phases afresh; what it
does is said once, as `RailsStart`. -/
namespace Sys2Proof.Machine

/-! ## A bit of a register after a field is put -/

theorem State.bitAt_set_of_not_mem (s : State) (f : FieldAt) (v : Nat) {a k : Nat} (h : a = f.addr → k < f.lo ∨ f.hi < k) :
    (s.set f v).bitAt a k = s.bitAt a k := by
  unfold State.bitAt
  by_cases ha : a = f.addr
  · subst ha
    have hk : ¬ (f.lo ≤ k ∧ k < f.lo + (f.hi + 1 - f.lo)) := by
      have := h rfl
      omega
    rw [s.rd_set_self, getLsbD_setBitsOf, if_neg hk]
  · rw [s.rd_set_ne f v ha]

/-! ## The rails start (R432, R434, R435) -/

/-- From `s` to `t` the rails start: the attempt begins now, no phase is lost, and nothing else changes. -/
def RailsStart (s t : State) : Prop :=
  t.supply = { s.supply with starting := true, retryAt := none, testing := 0, since := s.now, before := 0 } ∧
  (t.get F.PWR_PHASE_STAT_LOST = 0 ∧ t.bit F.SYS_SPARED_VPHASE = false ∧ t.bit F.SYS_HOLD_CAUSES_VCORE_CAPACITY = false) ∧
  (∀ k : Nat, k < 32 → (k ≠ F.SYS_SPARED_VPHASE.lo → t.bitAt R.SYS_SPARED k = s.bitAt R.SYS_SPARED k) ∧
    (k ≠ F.SYS_HOLD_CAUSES_VCORE_CAPACITY.lo → t.bitAt R.SYS_HOLD_CAUSES k = s.bitAt R.SYS_HOLD_CAUSES k)) ∧
  t = { s with regs := t.regs, supply := t.supply } ∧
  ∀ adr, adr ∉ ([R.PWR_PHASE_STAT, R.SYS_SPARED, R.SYS_HOLD_CAUSES] : List Nat) → t.rd adr = s.rd adr

theorem RailsStart.modeCtl_eq {s t : State} (h : RailsStart s t) : t.modeCtl = s.modeCtl := by
  obtain ⟨-, -, -, ht, -⟩ := h
  rw [ht]

/-- What the start of the rails leaves, after a state that had already left most of `s`. -/
theorem RailsStart.eq_of_eq {s u t : State} (h : RailsStart u t)
    (hu : u = { s with regs := u.regs, now := u.now, free := u.free, modeCtl := u.modeCtl, supply := u.supply }) :
    t = { s with regs := t.regs, now := u.now, free := u.free, modeCtl := t.modeCtl, supply := t.supply } := by
  rw [h.modeCtl_eq]
  obtain ⟨-, -, -, ht, -⟩ := h
  refine ht.trans ?_
  rw [hu]

/-- A comparator, the count of failed attempts, or the rails themselves keep the rails from starting. -/
def Supply.mayNotStart (p : Supply) : Prop :=
  p.rails = true ∨ p.starting = true ∨ p.uvlo = true ∨ p.overvolt = true ∨ p.hot = true ∨ 3 ≤ p.fails

theorem State.startRails_of_mayNotStart {s : State} (h : s.supply.mayNotStart) : s.startRails = s := if_pos h

theorem railsStart_startRails {s : State} (h : ¬ s.supply.mayNotStart) : RailsStart s s.startRails := by
  have heq : s.startRails = (((s.setSupply { s.supply with starting := true, retryAt := none, testing := 0, since := s.now, before := 0 }).set
      F.PWR_PHASE_STAT_LOST 0).set F.SYS_SPARED_VPHASE 0).set F.SYS_HOLD_CAUSES_VCORE_CAPACITY 0 := if_neg h
  rw [heq]
  refine ⟨rfl, ⟨?lost, ?vphase, ?capacity⟩, fun k _ => ⟨fun hk => ?spared, fun hk => ?causes⟩, rfl, fun adr hadr => ?frame⟩
  case lost =>
    rw [State.get_set_ne _ _ _ _ (by decide), State.get_set_ne _ _ _ _ (by decide), State.get_set_self _ _ _ (by decide)]
    rfl
  case vphase =>
    rw [State.bit, State.get_set_ne _ _ _ _ (by decide), State.get_set_self _ _ _ (by decide)]
    rfl
  case capacity =>
    rw [State.bit, State.get_set_self _ _ _ (by decide)]
    rfl
  case spared =>
    rw [State.bitAt_set_of_not_mem _ _ _ (fun e => absurd e (by decide)), State.bitAt_set_of_not_mem _ _ _ (fun _ => Nat.lt_or_gt_of_ne hk),
      State.bitAt_set_of_not_mem _ _ _ (fun e => absurd e (by decide))]
    rfl
  case causes =>
    rw [State.bitAt_set_of_not_mem _ _ _ (fun _ => Nat.lt_or_gt_of_ne hk), State.bitAt_set_of_not_mem _ _ _ (fun e => absurd e (by decide)),
      State.bitAt_set_of_not_mem _ _ _ (fun e => absurd e (by decide))]
    rfl
  case frame =>
    simp only [List.mem_cons, List.not_mem_nil, or_false, not_or] at hadr
    obtain ⟨hphase, hspared, hcauses⟩ := hadr
    rw [State.rd_set_ne _ _ _ hcauses, State.rd_set_ne _ _ _ hspared, State.rd_set_ne _ _ _ hphase]
    rfl

/-! ## The comparators and the retry -/

section
variable {s : State} {w : Nat}

theorem exec_overvoltageRelease (h : s.supply.overvolt = true) : exec (.overvoltageRelease w) s =
    .next ((s.at_ w).setSupply { s.supply with overvolt := false }).startRails := if_pos h

theorem exec_thermalStopRelease (h : s.supply.hot = true) : exec (.thermalStopRelease w) s =
    .next ((s.at_ w).setSupply { s.supply with hot := false }).startRails := if_pos h

theorem exec_railRetry {r : Nat} (h : s.supply.retryAt = some r) (hr : r ≤ w) : exec (.railRetry w) s =
    .next ((s.at_ w).setSupply { s.supply with retryAt := none }).startRails := by
  show execRailRetry w s = _
  have h' : (s.at_ w).supply.retryAt = some r := h
  simp only [execRailRetry, h', hr, if_true]
  rfl

theorem exec_railRetry_early (h : ∀ r ∈ s.supply.retryAt.toList, w < r) : exec (.railRetry w) s = .next (s.at_ w) := by
  show execRailRetry w s = _
  have h' : (s.at_ w).supply.retryAt = s.supply.retryAt := rfl
  cases hr : s.supply.retryAt with
  | none => simp only [execRailRetry, h', hr]
  | some r =>
    have hlt : ¬ r ≤ w := Nat.not_le.mpr (h r (by simp [hr]))
    simp only [execRailRetry, h', hr, if_neg hlt]

/-- The bellows AON domain keeps its state, or forgets the supply fault and the cause of the next exit from RESET (R16, R436). -/
def AonKeepsOrForgets (s u : State) : Prop :=
  u.modeCtl = s.modeCtl ∧ u.rd R.PWR_RAIL_FAULT = s.rd R.PWR_RAIL_FAULT ∧ u.rd R.SYS_MODE = s.rd R.SYS_MODE ∨
    u.modeCtl = { s.modeCtl with fresh := true, aonCause := 0 } ∧ u.rd R.PWR_RAIL_FAULT = 0 ∧ u.get F.SYS_MODE_CAUSE = 0 ∧
      u.get F.SYS_MODE_PREV = s.get F.SYS_MODE_PREV ∧ u.mode = s.mode

theorem AonKeepsOrForgets.congr {u t : State} (h : AonKeepsOrForgets s u) (hctl : t.modeCtl = u.modeCtl)
    (hfault : t.rd R.PWR_RAIL_FAULT = u.rd R.PWR_RAIL_FAULT) (hmode : t.rd R.SYS_MODE = u.rd R.SYS_MODE) : AonKeepsOrForgets s t := by
  simp only [AonKeepsOrForgets, State.mode, State.get, hctl, hfault, hmode]
  exact h

/-- VIN rises through 4.2 V: the AON domain has kept its state or not, and the rails start where they may (R435). -/
theorem exec_uvloRise (h : s.supply.uvlo = true) : ∃ u : State, exec (.uvloRise w) s = .next u.startRails ∧
    u.supply = { s.supply with uvlo := false } ∧ u.now = max s.now w ∧ u.free = s.free + 1 ∧ AonKeepsOrForgets s u ∧
    u = { s with regs := u.regs, now := u.now, free := u.free, modeCtl := u.modeCtl, supply := u.supply } ∧
    ∀ adr, adr ∉ ([R.SYS_MODE, R.PWR_RAIL_FAULT] : List Nat) → u.rd adr = s.rd adr := by
  have hexec : exec (.uvloRise w) s = .next (State.startRails (if ((s.at_ w).setSupply { s.supply with uvlo := false }).fresh % 2 = 1 then
      { ((((s.at_ w).setSupply { s.supply with uvlo := false }).drawn.wr R.PWR_RAIL_FAULT 0).set F.SYS_MODE_CAUSE 0) with
        modeCtl := { s.modeCtl with fresh := true, aonCause := 0 } }
    else ((s.at_ w).setSupply { s.supply with uvlo := false }).drawn)) := if_pos h
  refine ⟨_, hexec, ?_⟩
  split
  · refine ⟨rfl, rfl, rfl, .inr ⟨rfl, ?fault, ?cause, ?prev, ?mode⟩, rfl, fun adr hadr => ?frame⟩
    case fault => exact (State.rd_set_ne _ _ _ (by decide)).trans ((State.rd_wr _ _ _ _).trans (if_pos rfl))
    case cause => exact State.get_set_self _ _ _ (by decide)
    case prev => exact (State.get_set_of_disjoint _ _ _ _ (by decide) (by decide)).trans (State.get_wr_ne _ _ _ _ (by decide))
    case mode => exact (State.get_set_of_disjoint _ _ _ _ (by decide) (by decide)).trans (State.get_wr_ne _ _ _ _ (by decide))
    case frame =>
      simp only [List.mem_cons, List.not_mem_nil, or_false, not_or] at hadr
      obtain ⟨hmode, hfault⟩ := hadr
      exact (State.rd_set_ne _ _ _ hmode).trans (State.rd_wr_ne _ _ hfault)
  · exact ⟨rfl, rfl, rfl, .inl ⟨rfl, rfl, rfl⟩, rfl, fun _ _ => rfl⟩

end

/-! ## The band table (R454) -/

section
variable {f : Nat → Nat} {g : Nat → Word} {l : List Nat} {s : State}

/-- Registers written one after another. -/
theorem State.foldl_wr_eq (l : List Nat) (s : State) : l.foldl (fun u b => u.wr (f b) (g b)) s =
    { s with regs := (l.foldl (fun u b => u.wr (f b) (g b)) s).regs } := by
  induction l generalizing s with
  | nil => rfl
  | cons x xs ih =>
    rw [List.foldl_cons, ih]
    rfl

theorem State.rd_foldl_wr_of_not_mem {a : Nat} (h : a ∉ l.map f) : (l.foldl (fun u b => u.wr (f b) (g b)) s).rd a = s.rd a := by
  induction l generalizing s with
  | nil => rfl
  | cons x xs ih =>
    simp only [List.map_cons, List.mem_cons, not_or] at h
    rw [List.foldl_cons, ih h.2, State.rd_wr_ne _ _ h.1]

theorem State.rd_foldl_wr_of_mem (hf : Function.Injective f) {b : Nat} (h : b ∈ l) :
    (l.foldl (fun u b => u.wr (f b) (g b)) s).rd (f b) = g b := by
  induction l generalizing s with
  | nil => exact absurd h (List.not_mem_nil)
  | cons x xs ih =>
    rw [List.foldl_cons]
    by_cases hb : b ∈ xs
    · exact ih hb
    · have hx : b = x := (List.mem_cons.mp h).resolve_right hb
      subst hx
      rw [State.rd_foldl_wr_of_not_mem (fun hm => hb ((List.mem_map_of_injective hf).mp hm)), State.rd_wr, if_pos rfl]

end

section
variable (s : State)

/-- The band table of OTP fails its CRC, or a word of it is uncorrectable (R454). -/
def State.bandsBad : Bool := decide (fieldLE (s.otpBytes 0x540 4) 0 4 ≠ (crc32c (s.otpBytes 0x500 64)).toNat) ||
  (s.flash.otpBad ++ s.flash.otpUnc).any fun k => decide (0xA0 ≤ k ∧ k ≤ 0xA8)

/-- The entry that a band gets (R454). -/
def State.bandWord (b : Nat) : Word :=
  if s.bandsBad then nominalBand b else BitVec.ofNat 32 (fieldLE (s.otpBytes 0x500 64) (4 * b) 4) &&& 0xFFFFFFFD#32

theorem State.otpBadIn_bands : s.otpBadIn 0x500 72 = (s.flash.otpBad ++ s.flash.otpUnc).any fun k => decide (0xA0 ≤ k ∧ k ≤ 0xA8) := by
  unfold State.otpBadIn
  congr 1
  funext k
  rw [← Bool.decide_and]
  exact decide_eq_decide.mpr (by omega)

theorem State.loadBands_eq : s.loadBands =
    if s.bandsBad = true then ((List.range 16).foldl (fun u b => u.wr (R.CLK_BAND b) (s.bandWord b)) s).set F.CLK_STAT_BANDS_BAD 1
    else (List.range 16).foldl (fun u b => u.wr (R.CLK_BAND b) (s.bandWord b)) s := by
  have hbad : (fieldLE (s.otpBytes 0x540 4) 0 4 != (crc32c (s.otpBytes 0x500 64)).toNat || s.otpBadIn 0x500 72) = s.bandsBad := by
    rw [s.otpBadIn_bands, State.bandsBad, bne, beq_eq_decide, ← decide_not]
  unfold State.loadBands
  simp only [hbad]
  rfl

theorem band_injective : Function.Injective R.CLK_BAND := fun a b h => by
  simp only [R.CLK_BAND] at h
  omega

theorem State.supply_loadBands : s.loadBands.supply = s.supply := by
  rw [s.loadBands_eq]
  split
  · rw [State.foldl_wr_eq]
    rfl
  · rw [State.foldl_wr_eq]

theorem State.loadBands_frame : s.loadBands = { s with regs := s.loadBands.regs, supply := s.loadBands.supply } := by
  rw [s.loadBands_eq]
  split
  · rw [State.foldl_wr_eq]
    rfl
  · rw [State.foldl_wr_eq]

/-- No band register is the one in which BANDS_BAD stands. -/
theorem band_ne_clkStat {b : Nat} : R.CLK_BAND b ≠ R.CLK_STAT := by
  simp only [R.CLK_BAND, R.CLK_STAT]
  omega

theorem State.rd_loadBands_band {b : Nat} (h : b < 16) : s.loadBands.rd (R.CLK_BAND b) = s.bandWord b := by
  rw [s.loadBands_eq]
  split
  · rw [State.rd_set_ne _ _ _ band_ne_clkStat, State.rd_foldl_wr_of_mem band_injective (List.mem_range.mpr h)]
  · exact State.rd_foldl_wr_of_mem band_injective (List.mem_range.mpr h)

theorem State.rd_loadBands_of_not_mem {a : Nat} (h : a ∉ R.CLK_STAT :: (List.range 16).map R.CLK_BAND) : s.loadBands.rd a = s.rd a := by
  obtain ⟨hstat, hband⟩ := not_or.mp (fun hm => h (List.mem_cons.mpr hm))
  rw [s.loadBands_eq]
  split
  · rw [State.rd_set_ne _ _ _ hstat, State.rd_foldl_wr_of_not_mem hband]
  · exact State.rd_foldl_wr_of_not_mem hband

theorem clkStat_not_mem_bands : R.CLK_STAT ∉ (List.range 16).map R.CLK_BAND := by
  intro h
  obtain ⟨b, -, hb⟩ := List.mem_map.mp h
  exact band_ne_clkStat hb

theorem State.bandsBad_loadBands : s.loadBands.bit F.CLK_STAT_BANDS_BAD = (s.bandsBad || s.bit F.CLK_STAT_BANDS_BAD) := by
  rw [s.loadBands_eq]
  split
  next h =>
    rw [h, State.bit, State.get_set_self _ _ _ (by decide)]
    rfl
  next h =>
    rw [Bool.eq_false_of_not_eq_true h, Bool.false_or, State.bit, State.bit, State.get, State.get,
      State.rd_foldl_wr_of_not_mem clkStat_not_mem_bands]

theorem State.bitAt_loadBands {k : Nat} (h : k ≠ F.CLK_STAT_BANDS_BAD.lo) : s.loadBands.bitAt R.CLK_STAT k = s.bitAt R.CLK_STAT k := by
  rw [s.loadBands_eq]
  split
  · rw [State.bitAt_set_of_not_mem _ _ _ (fun _ => Nat.lt_or_gt_of_ne h), State.bitAt, State.bitAt,
      State.rd_foldl_wr_of_not_mem clkStat_not_mem_bands]
  · rw [State.bitAt, State.bitAt, State.rd_foldl_wr_of_not_mem clkStat_not_mem_bands]

end

/-! ## The obligation -/

section
variable {s : State} {w : Nat}

theorem exec_railsGood (h : s.supply.starting = true) : exec (.railsGood w) s =
    .next ((s.at_ w).setSupply { s.supply with rails := true, starting := false, since := max s.now w, before := 0 }).loadBands := if_pos h

theorem exec_railStartTimeout {rail : Fin 4} (h : s.supply.starting = true) (ht : s.supply.since + 900000 ≤ max s.now w) :
    exec (.railStartTimeout rail w) s = .next (((s.at_ w).setSupply { s.supply with
      rails := false, starting := false, fails := s.supply.fails + 1, testing := 0
      retryAt := if s.supply.fails + 1 < 3 then some (max s.now w + 40000000) else none }).railRecord 5 (rail.val + 1)) := by
  have hexec : exec (.railStartTimeout rail w) s = .next ((s.at_ w).railDown 5 (rail.val + 1)) := if_pos ⟨h, ht⟩
  rw [hexec, State.railDown]
  exact congrArg (fun u => Host.Outcome.next (State.railRecord u 5 (rail.val + 1))) (if_pos h)

end

/-- Settles O44: each command that may start the rails sets its own part of the supply and goes through `startRails`. -/
theorem supplyStarts : Obligations.SupplyStarts := by
  unfold Obligations.SupplyStarts
  refine ⟨?overvolt, ?overvoltNot, ?thermal, ?thermalNot, ?uvlo, ?uvloNot, ?nothing, ?retry, ?retryNot, ?retryEarly, ?good, ?timeout, ?noStart,
    ?clear, ?noClear⟩
  case overvolt =>
    intro w s h hr hst hu hh hf
    exact ⟨_, exec_overvoltageRelease h, railsStart_startRails (by simp [Supply.mayNotStart, State.setSupply, hr, hst, hu, hh, hf])⟩
  case overvoltNot =>
    intro w s h hn
    refine ⟨_, exec_overvoltageRelease h, ?_⟩
    rw [State.startRails_of_mayNotStart (by simpa [Supply.mayNotStart, State.setSupply] using hn)]
    exact ⟨rfl, rfl⟩
  case thermal =>
    intro w s h hr hst hu ho hf
    exact ⟨_, exec_thermalStopRelease h, railsStart_startRails (by simp [Supply.mayNotStart, State.setSupply, hr, hst, hu, ho, hf])⟩
  case thermalNot =>
    intro w s h hn
    refine ⟨_, exec_thermalStopRelease h, ?_⟩
    rw [State.startRails_of_mayNotStart (by simpa [Supply.mayNotStart, State.setSupply] using hn)]
    exact ⟨rfl, rfl⟩
  case uvlo =>
    intro w s h hr hst ho hh hf
    obtain ⟨u, hexec, hsup, hnow, hfree, hmode, hu, hframe⟩ := exec_uvloRise (w := w) h
    have hstart := railsStart_startRails (s := u) (by simp [Supply.mayNotStart, hsup, hr, hst, ho, hh, hf])
    have hall := hstart.eq_of_eq hu
    have hctl := hstart.modeCtl_eq
    obtain ⟨hsupply, hphases, hbits, -, hrd⟩ := hstart
    rw [hsup, hnow] at hsupply
    rw [hnow, hfree] at hall
    refine ⟨_, hexec, hsupply, hphases, fun k hk => ⟨fun hn => ?spared, fun hn => ?causes⟩, ?aon, hall, fun a ha => ?frame⟩
    case spared => rw [(hbits k hk).1 hn, State.bitAt, State.bitAt, hframe _ (by decide)]
    case causes => rw [(hbits k hk).2 hn, State.bitAt, State.bitAt, hframe _ (by decide)]
    case aon => exact hmode.congr hctl (hrd _ (by decide)) (hrd _ (by decide))
    case frame =>
      rw [List.mem_cons, List.mem_cons, not_or, not_or] at ha
      obtain ⟨hm, hfault, hrest⟩ := ha
      rw [hrd a hrest, hframe a (by simp [hm, hfault])]
  case uvloNot =>
    intro w s h hn
    obtain ⟨u, hexec, hsup, hnow, hfree, hmode, hu, hframe⟩ := exec_uvloRise (w := w) h
    rw [State.startRails_of_mayNotStart (by simpa [Supply.mayNotStart, hsup] using hn)] at hexec
    refine ⟨u, hexec, hsup, hmode, ?_, hframe⟩
    rw [hnow, hfree] at hu
    exact hu
  case nothing =>
    intro w k i s hi h
    simp only [List.mem_cons, List.not_mem_nil, or_false, Prod.mk.injEq] at hi
    rcases hi with ⟨rfl, rfl⟩ | ⟨rfl, rfl⟩ | ⟨rfl, rfl⟩
    · exact ⟨_, if_neg (Bool.eq_false_iff.mp h), rfl⟩
    · exact ⟨_, if_neg (Bool.eq_false_iff.mp h), rfl⟩
    · exact ⟨_, if_neg (Bool.eq_false_iff.mp h), rfl⟩
  case retry =>
    intro r w s h hrw hr hst hu ho hh hf
    exact ⟨_, exec_railRetry h hrw, railsStart_startRails (by simp [Supply.mayNotStart, State.setSupply, hr, hst, hu, ho, hh, hf])⟩
  case retryNot =>
    intro r w s h hrw hn
    refine ⟨_, exec_railRetry h hrw, ?_⟩
    rw [State.startRails_of_mayNotStart (by simpa [Supply.mayNotStart, State.setSupply] using hn)]
    exact ⟨rfl, rfl⟩
  case retryEarly => exact fun w s h => ⟨_, exec_railRetry_early h, rfl⟩
  case good =>
    rintro w bad s h rfl
    exact ⟨_, exec_railsGood h, State.supply_loadBands _, fun b hb => State.rd_loadBands_band _ hb,
      State.bandsBad_loadBands _, fun k _ hk => State.bitAt_loadBands _ hk, State.loadBands_frame _, fun a ha => State.rd_loadBands_of_not_mem _ ha⟩
  case timeout =>
    intro rail w s h ht
    refine ⟨_, exec_railStartTimeout h ht, rfl, ⟨?kind, ?rail⟩, rfl, fun a ha => ?frame⟩
    case kind => exact (State.get_set_of_disjoint _ _ _ _ (by decide) (by decide)).trans (State.get_set_self _ _ _ (by decide))
    case rail =>
      refine (State.get_set_self _ _ _ (by decide)).trans (Nat.mod_eq_of_lt ?_)
      have := rail.isLt
      show rail.val + 1 < 16
      omega
    case frame =>
      have ha' : a ≠ R.PWR_RAIL_FAULT := fun e => ha (List.mem_singleton.mpr e)
      exact (State.rd_set_ne _ _ _ ha').trans (State.rd_set_ne _ _ _ ha')
  case noStart =>
    intro w rail k i s hi h
    simp only [List.mem_cons, List.not_mem_nil, or_false, Prod.mk.injEq] at hi
    rcases hi with ⟨rfl, rfl⟩ | ⟨rfl, rfl⟩
    · exact ⟨_, if_neg (Bool.eq_false_iff.mp (h.resolve_right fun hk => absurd hk.1 (by decide))), rfl⟩
    · refine ⟨_, if_neg ?_, rfl⟩
      rintro ⟨hst, hdue⟩
      rcases h with h | ⟨-, h⟩
      · exact absurd hst (Bool.eq_false_iff.mp h)
      · exact absurd hdue (Nat.not_le.mpr h)
  case clear => exact fun w s h ht => ⟨_, if_pos ⟨h, ht⟩, rfl⟩
  case noClear =>
    intro w s h
    refine ⟨_, if_neg ?_, rfl⟩
    rintro ⟨hrails, hgood⟩
    rcases h with h | h
    · exact absurd hrails (Bool.eq_false_iff.mp h)
    · exact absurd hgood (Nat.not_le.mpr h)

end Sys2Proof.Machine
end

section
/-! PROOFS. Entry to RESET (R6, R16, R23, R410, R437, R502): a flash operation in progress is abandoned, the registers of the entry are kept, and
every other register and unit starts afresh. -/
namespace Sys2Proof.Machine

/-! ## The flash operation in progress is abandoned (R410, R418, R548) -/

namespace State
variable (s : State)

/-- The pages under the operations of the code array, with the lower page of a wordline (R410). -/
def abandonedPages : List Nat := s.flash.ops.flatMap fun o =>
  let p := (o.addr - 0x30000000) / 0x1000
  if o.op = Fo.prog then (if p % 2 = 1 then [p, p - 1] else [p])
  else if o.op = Fo.erase then (List.range 16).map fun i => p + i else []

/-- The operation of the parameter array is abandoned. -/
def abandonPf : State := match s.flash.pfOp with
  | some o => s.pfDone o false
  | none => s

/-- The program of an OTP word is abandoned: whether the word reads programmed is open. -/
def abandonOtp : State := match s.flash.otpOp with
  | some (k, w) =>
    if s.fresh % 2 = 0 then s.drawn
    else { s.drawn.setOtp k w with flash := { (s.drawn.setOtp k w).flash with otpBad := k :: (s.drawn.setOtp k w).flash.otpBad } }
  | none => s

/-- No operation is in progress. -/
def flashIdle : State := { s with flash := { s.flash with ops := [], pfOp := none, otpOp := none, after := none } }

theorem flashAbandon_eq : s.flashAbandon = (s.damage s.abandonedPages).abandonPf.abandonOtp.flashIdle := rfl

theorem pfDone_frame (o : FlashOp) (pass : Bool) : s.pfDone o pass =
    { s with flash := { s.flash with pf := (s.pfDone o pass).flash.pf, pfBad := (s.pfDone o pass).flash.pfBad } } := by
  unfold pfDone
  split
  · rfl
  · cases pass
    · rfl
    · rfl

theorem abandonPf_frame : s.abandonPf =
    { s with flash := { s.flash with pf := s.abandonPf.flash.pf, pfBad := s.abandonPf.flash.pfBad } } := by
  unfold abandonPf
  split
  · exact s.pfDone_frame _ _
  · rfl

theorem abandonOtp_frame : s.abandonOtp =
    { s with free := s.abandonOtp.free, flash := { s.flash with otp := s.abandonOtp.flash.otp, otpBad := s.abandonOtp.flash.otpBad } } := by
  unfold abandonOtp
  split
  · split <;> rfl
  · rfl

theorem abandonPf_of_none (h : s.flash.pfOp = none) : s.abandonPf = s := by
  unfold abandonPf
  rw [h]

theorem abandonOtp_of_none (h : s.flash.otpOp = none) : s.abandonOtp = s := by
  unfold abandonOtp
  rw [h]

/-- The first word that an abandoned operation of the parameter array touches is open. -/
theorem mem_pfBad_pfDone (o : FlashOp) : (o.addr - 0x33000000) / 16 ∈ (s.pfDone o false).flash.pfBad := by
  unfold pfDone
  split
  · exact List.mem_cons_self
  · refine List.mem_append_left _ (List.mem_map.mpr ⟨0, by decide, Nat.add_zero _⟩)

theorem mem_pfBad_abandonPf {o : FlashOp} (h : s.flash.pfOp = some o) : (o.addr - 0x33000000) / 16 ∈ s.abandonPf.flash.pfBad := by
  unfold abandonPf
  rw [h]
  exact s.mem_pfBad_pfDone o

theorem abandonOtp_of_some {k : Nat} {w : BitVec 64} (h : s.flash.otpOp = some (k, w)) :
    (s.abandonOtp.flash.otp = s.flash.otp ∧ s.abandonOtp.flash.otpBad = s.flash.otpBad) ∨
      (s.abandonOtp.otpWord? k = some w ∧ s.abandonOtp.flash.otpBad = k :: s.flash.otpBad) := by
  unfold abandonOtp
  rw [h]
  dsimp only
  split
  · exact .inl ⟨rfl, rfl⟩
  · exact .inr ⟨Sparse.get_put_self _ _ _, rfl⟩

theorem mem_damaged_damage {l : List Nat} {p : Nat} (h : p ∈ l) : p ∈ (s.damage l).flash.damaged := List.mem_append_left _ h

theorem damaged_damage_nil : (s.damage []).flash.damaged = s.flash.damaged := by
  simp [damage]

theorem flashAbandon_frame : s.flashAbandon = { s with free := s.flashAbandon.free, flash := s.flashAbandon.flash } := by
  rw [flashAbandon_eq, flashIdle, abandonOtp_frame, abandonPf_frame]
  rfl

@[simp] theorem rd_flashAbandon (a : Nat) : s.flashAbandon.rd a = s.rd a := by
  rw [flashAbandon_frame]
  rfl

/-- What an entry to RESET leaves of the flash controller: no operation, and open what one was at work on (R410, R418). -/
theorem flash_flashAbandon : s.flashAbandon.flash = { s.flash with
    ops := [], pfOp := none, otpOp := none, after := none, damaged := s.flashAbandon.flash.damaged, pf := s.flashAbandon.flash.pf
    pfBad := s.flashAbandon.flash.pfBad, otp := s.flashAbandon.flash.otp, otpBad := s.flashAbandon.flash.otpBad } := by
  rw [flashAbandon_eq, flashIdle, abandonOtp_frame, abandonPf_frame]
  rfl

theorem damaged_flashAbandon : s.flashAbandon.flash.damaged = (s.damage s.abandonedPages).flash.damaged := by
  rw [flashAbandon_eq, flashIdle, abandonOtp_frame, abandonPf_frame]

theorem damaged_flashAbandon_of_idle (h : s.flash.ops = []) : s.flashAbandon.flash.damaged = s.flash.damaged := by
  rw [damaged_flashAbandon, abandonedPages, h]
  exact s.damaged_damage_nil

theorem mem_damaged_flashAbandon {p : Nat} (h : p ∈ s.abandonedPages) : p ∈ s.flashAbandon.flash.damaged := by
  rw [damaged_flashAbandon]
  exact s.mem_damaged_damage h

theorem pf_flashAbandon_of_idle (h : s.flash.pfOp = none) :
    s.flashAbandon.flash.pf = s.flash.pf ∧ s.flashAbandon.flash.pfBad = s.flash.pfBad := by
  rw [flashAbandon_eq, flashIdle, abandonOtp_frame, (s.damage s.abandonedPages).abandonPf_of_none h]
  exact ⟨rfl, rfl⟩

theorem mem_pfBad_flashAbandon {o : FlashOp} (h : s.flash.pfOp = some o) : (o.addr - 0x33000000) / 16 ∈ s.flashAbandon.flash.pfBad := by
  rw [flashAbandon_eq, flashIdle, abandonOtp_frame]
  exact (s.damage s.abandonedPages).mem_pfBad_abandonPf h

/-- The flash controller before the OTP program is abandoned has the OTP row of `s`. -/
theorem otp_before : (s.damage s.abandonedPages).abandonPf.flash.otpOp = s.flash.otpOp ∧
    (s.damage s.abandonedPages).abandonPf.flash.otp = s.flash.otp ∧ (s.damage s.abandonedPages).abandonPf.flash.otpBad = s.flash.otpBad := by
  rw [abandonPf_frame]
  exact ⟨rfl, rfl, rfl⟩

theorem otp_flashAbandon_of_idle (h : s.flash.otpOp = none) :
    s.flashAbandon.flash.otp = s.flash.otp ∧ s.flashAbandon.flash.otpBad = s.flash.otpBad := by
  obtain ⟨hop, hotp, hbad⟩ := s.otp_before
  rw [flashAbandon_eq, flashIdle, abandonOtp_of_none _ (hop.trans h)]
  exact ⟨hotp, hbad⟩

theorem otp_flashAbandon {k : Nat} {w : BitVec 64} (h : s.flash.otpOp = some (k, w)) :
    (s.flashAbandon.flash.otp = s.flash.otp ∧ s.flashAbandon.flash.otpBad = s.flash.otpBad) ∨
      (s.flashAbandon.otpWord? k = some w ∧ s.flashAbandon.flash.otpBad = k :: s.flash.otpBad) := by
  obtain ⟨hop, hotp, hbad⟩ := s.otp_before
  have habandon := (s.damage s.abandonedPages).abandonPf.abandonOtp_of_some (hop.trans h)
  rw [hotp, hbad] at habandon
  exact habandon

end State

/-! ## The registers at the entry (R6, R24, R434, R436) -/

/-- The registers that an entry to RESET with the rails up does not put to their reset values. -/
def keptAtReset : List Nat := [R.SYS_MODE, R.PWR_RAIL_FAULT, R.PWR_PHASE_STAT, R.SYS_SPARED, R.SYS_HOLD_CAUSES]

section
variable {u : State} {p : Prop} [Decidable p] {f g : FieldAt} {v a : Nat}

theorem rd_ite_set_ne (h : a ≠ f.addr) : (if p then u else u.set f v).rd a = u.rd a := by
  split
  · rfl
  · exact u.rd_set_ne f v h

theorem get_ite_set_ne (h : g.addr ≠ f.addr) : (if p then u else u.set f v).get g = u.get g := by
  rw [State.get, State.get, rd_ite_set_ne h]

theorem get_ite_set_self (hf : f.hi < 32) (h0 : u.get f = 0) (hv : v < 2 ^ (f.hi + 1 - f.lo)) :
    (if p then u else u.set f v).get f = if p then 0 else v := by
  split
  · exact h0
  · rw [u.get_set_self f v hf, Nat.mod_eq_of_lt hv]

end

namespace State
variable (s : State) (cause : Nat)

/-- The registers at reset with the last supply fault and the lost phases of `s`. -/
def lostRegs : State := ((({ s with regs := [] } : State).wr R.PWR_RAIL_FAULT (s.rd R.PWR_RAIL_FAULT)).set F.PWR_PHASE_STAT_LOST
  (s.get F.PWR_PHASE_STAT_LOST))

/-- The same with VPHASE and VCORE_CAPACITY as the lost phases say. -/
def sparedRegs : State :=
  let s1 := if bitCount 6 (s.get F.PWR_PHASE_STAT_LOST) = 0 then s.lostRegs else s.lostRegs.set F.SYS_SPARED_VPHASE 1
  if bitCount 6 (s.get F.PWR_PHASE_STAT_LOST) < 2 then s1 else s1.set F.SYS_HOLD_CAUSES_VCORE_CAPACITY 1

theorem resetRegs_eq : s.resetRegs cause = ((s.sparedRegs.set F.SYS_MODE_MODE M.reset).set F.SYS_MODE_PREV
    (if s.mode = M.reset then s.get F.SYS_MODE_PREV else s.mode)).set F.SYS_MODE_CAUSE cause := rfl

variable {s cause} {a : Nat}

theorem rd_resetRegs_of_ne (h : a ≠ R.SYS_MODE) : (s.resetRegs cause).rd a = s.sparedRegs.rd a := by
  rw [resetRegs_eq, rd_set_ne _ _ _ h, rd_set_ne _ _ _ h, rd_set_ne _ _ _ h]

theorem get_resetRegs_of_ne {f : FieldAt} (h : f.addr ≠ R.SYS_MODE) : (s.resetRegs cause).get f = s.sparedRegs.get f := by
  rw [State.get, State.get, rd_resetRegs_of_ne h]

theorem rd_sparedRegs_of_ne (h : a ≠ R.SYS_SPARED) (h' : a ≠ R.SYS_HOLD_CAUSES) : s.sparedRegs.rd a = s.lostRegs.rd a := by
  unfold sparedRegs
  rw [rd_ite_set_ne h', rd_ite_set_ne h]

theorem rd_resetRegs_of_not_mem (h : a ∉ keptAtReset) : (s.resetRegs cause).rd a = regReset a := by
  simp only [keptAtReset, List.mem_cons, List.not_mem_nil, or_false, not_or] at h
  obtain ⟨hmode, hfault, hphase, hspared, hcauses⟩ := h
  rw [rd_resetRegs_of_ne hmode, rd_sparedRegs_of_ne hspared hcauses, lostRegs, rd_set_ne _ _ _ hphase, rd_wr_ne _ _ hfault]
  rfl

theorem rd_resetRegs_railFault : (s.resetRegs cause).rd R.PWR_RAIL_FAULT = s.rd R.PWR_RAIL_FAULT := by
  rw [rd_resetRegs_of_ne (by decide), rd_sparedRegs_of_ne (by decide) (by decide), lostRegs, rd_set_ne _ _ _ (by decide), rd_wr, if_pos rfl]

theorem get_resetRegs_lost : (s.resetRegs cause).get F.PWR_PHASE_STAT_LOST = s.get F.PWR_PHASE_STAT_LOST := by
  rw [get_resetRegs_of_ne (by decide), State.get, rd_sparedRegs_of_ne (by decide) (by decide), ← State.get, lostRegs, get_set_self _ _ _ (by decide)]
  exact Nat.mod_eq_of_lt (bitsOf_lt _ _ _)

theorem get_resetRegs_vphase : (s.resetRegs cause).get F.SYS_SPARED_VPHASE =
    if bitCount 6 (s.get F.PWR_PHASE_STAT_LOST) = 0 then 0 else 1 := by
  rw [get_resetRegs_of_ne (by decide), sparedRegs, get_ite_set_ne (by decide), get_ite_set_self (by decide) _ (by decide)]
  rw [lostRegs, get_set_ne _ _ _ _ (by decide), get_wr_ne _ _ _ _ (by decide)]
  show bitsOf (regReset R.SYS_SPARED) 7 7 = 0
  decide +kernel

theorem get_resetRegs_capacity : (s.resetRegs cause).get F.SYS_HOLD_CAUSES_VCORE_CAPACITY =
    if bitCount 6 (s.get F.PWR_PHASE_STAT_LOST) < 2 then 0 else 1 := by
  rw [get_resetRegs_of_ne (by decide), sparedRegs, get_ite_set_self (by decide) _ (by decide)]
  rw [get_ite_set_ne (by decide), lostRegs, get_set_ne _ _ _ _ (by decide), get_wr_ne _ _ _ _ (by decide)]
  show bitsOf (regReset R.SYS_HOLD_CAUSES) 4 4 = 0
  decide +kernel

theorem mode_lt (s : State) : s.mode < 16 := bitsOf_lt _ _ _

theorem mode_resetRegs : (s.resetRegs cause).mode = M.reset := by
  rw [State.mode, resetRegs_eq, get_set_of_disjoint _ _ _ _ (by decide) (by decide), get_set_of_disjoint _ _ _ _ (by decide) (by decide),
    get_set_self _ _ _ (by decide)]
  rfl

theorem cause_resetRegs : (s.resetRegs cause).get F.SYS_MODE_CAUSE = cause % 256 := get_set_self _ _ _ (by decide)

theorem prev_resetRegs : (s.resetRegs cause).get F.SYS_MODE_PREV = if s.mode = M.reset then s.get F.SYS_MODE_PREV else s.mode := by
  rw [resetRegs_eq, get_set_of_disjoint _ _ _ _ (by decide) (by decide), get_set_self _ _ _ (by decide)]
  refine Nat.mod_eq_of_lt ?_
  split
  · exact bitsOf_lt _ _ _
  · exact s.mode_lt

end State

/-! ## The entry (R6, R16, R23, R434, R437, R502) -/

/-- The registers that the entry and the band table put otherwise than at reset. -/
def setAtReset : List Nat := R.SYS_MODE :: R.PWR_RAIL_FAULT :: R.PWR_PHASE_STAT :: R.SYS_SPARED :: R.SYS_HOLD_CAUSES :: R.CLK_STAT ::
  (List.range 16).map R.CLK_BAND

theorem mem_setAtReset {a : Nat} : a ∈ setAtReset ↔ a ∈ keptAtReset ∨ a ∈ R.CLK_STAT :: (List.range 16).map R.CLK_BAND := by
  simp only [setAtReset, keptAtReset, List.mem_cons, List.not_mem_nil, or_false, or_assoc]

/-- No transmitter is on and no session open at reset, and every domain is ON. -/
theorem laneStat_reset : ∀ l < 256, R.LANE_STAT l ∉ setAtReset ∧ bitsOf (regReset (R.LANE_STAT l)) 31 29 = L.off := by
  decide +kernel

theorem sessionState_reset : ∀ x < 256, R.IVW_S_STATE x ∉ setAtReset ∧ bitsOf (regReset (R.IVW_S_STATE x)) 31 31 = 0 := by
  decide +kernel

theorem domainStat_reset : ∀ d < 23, R.PWR_D_STAT d ∉ setAtReset ∧ bitsOf (regReset (R.PWR_D_STAT d)) 31 29 = P.on := by
  decide +kernel

theorem kept_not_mem_bands : ∀ a ∈ keptAtReset, a ∉ R.CLK_STAT :: (List.range 16).map R.CLK_BAND := by
  decide

namespace State
variable (s : State) (cause : Nat)

/-- The state at the entry with the rails up, before the band table is copied. -/
def resetUnits : State := {
  regs := (s.flashAbandon.resetRegs cause).regs, now := s.now, free := s.flashAbandon.free, mem := s.mem
  modeCtl := { aonCause := cause, fresh := false }, wheel := { inited := s.wheel.inited, inited1 := s.wheel.inited1 }, syncIn := s.syncIn
  fab := { pins := s.fab.pins }, supply := s.supply, flash := { s.flashAbandon.flash with lastRead := 0 }
  sec := { ir := s.sec.ir, boundary := s.sec.boundary, extest := s.sec.extest, tapOut := s.sec.tapOut }
  lastNet := s.lastNet, pending := s.pending }

theorem enterReset_eq : s.enterReset cause false = (s.resetUnits cause).loadBands := by
  unfold enterReset resetUnits
  rw [flashAbandon_frame]
  rfl

@[simp] theorem get_flashAbandon (f : FieldAt) : s.flashAbandon.get f = s.get f := by
  rw [get, get, rd_flashAbandon]

@[simp] theorem mode_flashAbandon : s.flashAbandon.mode = s.mode := s.get_flashAbandon _

/-- What the entry leaves beside the registers and the supply. -/
theorem enterReset_frame : s.enterReset cause false =
    { s.resetUnits cause with regs := (s.enterReset cause false).regs, supply := (s.enterReset cause false).supply } := by
  rw [enterReset_eq]
  exact loadBands_frame _

variable {s cause}

@[simp] theorem supply_enterReset : (s.enterReset cause false).supply = s.supply := by
  rw [enterReset_eq, supply_loadBands]
  rfl

theorem rd_enterReset_of_mem {a : Nat} (h : a ∈ keptAtReset) :
    (s.enterReset cause false).rd a = (s.flashAbandon.resetRegs cause).rd a := by
  rw [enterReset_eq, rd_loadBands_of_not_mem _ (kept_not_mem_bands a h)]
  rfl

theorem get_enterReset_of_mem {f : FieldAt} (h : f.addr ∈ keptAtReset) :
    (s.enterReset cause false).get f = (s.flashAbandon.resetRegs cause).get f := by
  rw [get, get, rd_enterReset_of_mem h]

theorem rd_enterReset_of_not_mem {a : Nat} (h : a ∉ setAtReset) : (s.enterReset cause false).rd a = regReset a := by
  rw [mem_setAtReset, not_or] at h
  obtain ⟨hkept, hbands⟩ := h
  rw [enterReset_eq, rd_loadBands_of_not_mem _ hbands]
  exact rd_resetRegs_of_not_mem hkept

@[simp] theorem mode_enterReset : (s.enterReset cause false).mode = M.reset := by
  rw [mode, get_enterReset_of_mem (by decide)]
  exact mode_resetRegs

theorem cause_enterReset : (s.enterReset cause false).get F.SYS_MODE_CAUSE = cause % 256 := by
  rw [get_enterReset_of_mem (by decide), cause_resetRegs]

theorem prev_enterReset : (s.enterReset cause false).get F.SYS_MODE_PREV = if s.mode = M.reset then s.get F.SYS_MODE_PREV else s.mode := by
  rw [get_enterReset_of_mem (by decide), prev_resetRegs, mode_flashAbandon, get_flashAbandon]

theorem railFault_enterReset : (s.enterReset cause false).rd R.PWR_RAIL_FAULT = s.rd R.PWR_RAIL_FAULT := by
  rw [rd_enterReset_of_mem (by decide), rd_resetRegs_railFault, rd_flashAbandon]

theorem sendingLanes_enterReset : (s.enterReset cause false).sendingLanes = [] := by
  refine List.filter_eq_nil_iff.mpr fun l hl => ?_
  obtain ⟨hmem, hoff⟩ := laneStat_reset l (List.mem_range.mp hl)
  have hstate : (s.enterReset cause false).laneState l = L.off := by
    rw [laneState, get, rd_enterReset_of_not_mem hmem, hoff]
  simp [laneSends, hstate]

theorem noSession_enterReset : ((List.range 256).all fun x => !(s.enterReset cause false).bit (F.IVW_S_STATE_OPEN x)) = true := by
  refine List.all_eq_true.mpr fun x hx => ?_
  obtain ⟨hmem, hclosed⟩ := sessionState_reset x (List.mem_range.mp hx)
  rw [bit, get, rd_enterReset_of_not_mem hmem, hclosed]
  rfl

theorem domOn_enterReset : (List.range 23).all (s.enterReset cause false).domOn = true := by
  refine List.all_eq_true.mpr fun d hd => ?_
  obtain ⟨hmem, hon⟩ := domainStat_reset d (List.mem_range.mp hd)
  rw [domOn, get, rd_enterReset_of_not_mem hmem, hon]
  exact Bool.or_true _

/-- The units of the state at the entry (R6, R437, R502). -/
theorem units_enterReset : (s.enterReset cause false).mem = s.mem ∧ (s.enterReset cause false).now = s.now ∧
    (s.enterReset cause false).pending = s.pending ∧ (s.enterReset cause false).engines = [] ∧ (s.enterReset cause false).sessions = [] := by
  rw [enterReset_frame]
  exact ⟨rfl, rfl, rfl, rfl, rfl⟩

theorem flash_enterReset : (s.enterReset cause false).flash = { s.flashAbandon.flash with lastRead := 0 } := by
  rw [enterReset_frame]
  rfl

theorem otpWord?_enterReset (k : Nat) : (s.enterReset cause false).otpWord? k = s.flashAbandon.otpWord? k := by
  unfold otpWord?
  rw [flash_enterReset]

/-- A page under an abandoned operation is open (R410). -/
theorem abandoned_open {o : FlashOp} (h : o ∈ s.flash.ops) :
    (if o.op = Fo.prog then
      s.flashAbandon.flash.damaged.contains ((o.addr - 0x30000000) / 0x1000) &&
        ((o.addr - 0x30000000) / 0x1000 % 2 == 0 || s.flashAbandon.flash.damaged.contains ((o.addr - 0x30000000) / 0x1000 - 1))
    else o.op != Fo.erase || (List.range 16).all fun i => s.flashAbandon.flash.damaged.contains ((o.addr - 0x30000000) / 0x1000 + i)) = true := by
  have hpage {p : Nat} (hp : p ∈ s.abandonedPages) : s.flashAbandon.flash.damaged.contains p = true :=
    List.contains_iff_mem.mpr (s.mem_damaged_flashAbandon hp)
  generalize hq : (o.addr - 0x30000000) / 0x1000 = q
  have hmem {p : Nat} (hp : p ∈ (if o.op = Fo.prog then (if q % 2 = 1 then [q, q - 1] else [q])
      else if o.op = Fo.erase then (List.range 16).map fun i => q + i else [])) : s.flashAbandon.flash.damaged.contains p = true := by
    subst hq
    exact hpage (List.mem_flatMap.mpr ⟨o, h, hp⟩)
  split
  next hprog =>
    rw [if_pos hprog] at hmem
    by_cases hodd : q % 2 = 1
    · rw [if_pos hodd] at hmem
      rw [hmem (p := q) (by simp), hmem (p := q - 1) (by simp), Bool.or_true, Bool.and_self]
    · rw [if_neg hodd] at hmem
      have heven : (q % 2 == 0) = true := beq_iff_eq.mpr (by omega)
      rw [hmem (p := q) (by simp), heven, Bool.true_or, Bool.and_self]
  next hprog =>
    rw [if_neg hprog] at hmem
    by_cases herase : o.op = Fo.erase
    · rw [if_pos herase] at hmem
      refine Bool.or_eq_true_iff.mpr (.inr (List.all_eq_true.mpr fun i hi => hmem ?_))
      exact List.mem_map.mpr ⟨i, hi, rfl⟩
    · exact Bool.or_eq_true_iff.mpr (.inl (bne_iff_ne.mpr herase))

/-- The entry leaves of `s` what a RESET leaves. -/
theorem wentToReset_enterReset : s.wentToReset (s.enterReset cause false) cause false = true := by
  unfold wentToReset
  simp only [Bool.and_eq_true]
  refine ⟨⟨⟨⟨⟨⟨⟨⟨⟨?units, ?flash⟩, ?pages⟩, ?pf⟩, ?otp⟩, ?under⟩, ?pfUnder⟩, ?otpUnder⟩, ?mode⟩, ?phases⟩
  case units =>
    have hfree : (s.enterReset cause false).free = s.flashAbandon.free := by
      rw [enterReset_frame]
      rfl
    refine decide_eq_true ((s.enterReset_frame cause).trans ?_)
    rw [hfree, flash_enterReset]
    rfl
  case flash =>
    rw [flash_enterReset]
    refine decide_eq_true ?_
    conv_lhs => rw [flash_flashAbandon]
  case pages =>
    rw [flash_enterReset]
    by_cases h : s.flash.ops = []
    · exact Bool.or_eq_true_iff.mpr (.inr (decide_eq_true (s.damaged_flashAbandon_of_idle h)))
    · exact Bool.or_eq_true_iff.mpr (.inl (bne_iff_ne.mpr h))
  case pf =>
    rw [flash_enterReset]
    cases h : s.flash.pfOp with
    | none => exact decide_eq_true (s.pf_flashAbandon_of_idle h)
    | some o => rfl
  case otp =>
    rw [flash_enterReset]
    cases h : s.flash.otpOp with
    | none => exact decide_eq_true (s.otp_flashAbandon_of_idle h)
    | some o => rfl
  case under =>
    rw [flash_enterReset]
    exact List.all_eq_true.mpr fun o ho => abandoned_open ho
  case pfUnder =>
    rw [flash_enterReset]
    cases h : s.flash.pfOp with
    | none => rfl
    | some o => exact List.contains_iff_mem.mpr (s.mem_pfBad_flashAbandon h)
  case otpUnder =>
    cases h : s.flash.otpOp with
    | none => rfl
    | some o =>
      dsimp only
      rw [flash_enterReset, otpWord?_enterReset]
      exact decide_eq_true (s.otp_flashAbandon h)
  case mode => exact decide_eq_true ⟨mode_enterReset, cause_enterReset, prev_enterReset⟩
  case phases =>
    rw [get_enterReset_of_mem (by decide), get_enterReset_of_mem (by decide), get_enterReset_of_mem (by decide), get_resetRegs_lost,
      get_resetRegs_vphase, get_resetRegs_capacity, get_flashAbandon]
    exact decide_eq_true ⟨rfl, rfl, rfl⟩

end State

end Sys2Proof.Machine
end

section
/-! PROOFS. The SAFE burst ends (R29): the transmitters turn off, and the device enters QUARANTINE or RESET. The entry to QUARANTINE is a long chain
of steps, each of which keeps what the statement asks about (`Keeps`) but for the one that changes it. -/
namespace Sys2Proof.Machine

/-! ## What a step keeps -/

/-- From `s` to `t` the registers of `l`, the mode control, memory, wheel time, the supply and the queue stay, a pending source stays pending, and no
engine and no slice comes to be. -/
structure Keeps (l : List Nat) (s t : State) : Prop where
  rd : ∀ a ∈ l, t.rd a = s.rd a
  ctl : t.modeCtl = s.modeCtl
  mem : t.mem = s.mem
  queue : t.pending = s.pending
  now : t.now = s.now
  supply : t.supply = s.supply
  raised : ∀ n, s.isPending n = true → t.isPending n = true
  engines : s.engines = [] → t.engines = []
  slice : s.bist.slice = none → t.bist.slice = none

namespace Keeps
variable {l l' : List Nat} {s t u : State}

theorem refl : Keeps l s s := ⟨fun _ _ => rfl, rfl, rfl, rfl, rfl, rfl, fun _ h => h, id, id⟩

theorem trans (h : Keeps l s t) (h' : Keeps l t u) : Keeps l s u where
  rd a ha := (h'.rd a ha).trans (h.rd a ha)
  ctl := h'.ctl.trans h.ctl
  mem := h'.mem.trans h.mem
  queue := h'.queue.trans h.queue
  now := h'.now.trans h.now
  supply := h'.supply.trans h.supply
  raised n hn := h'.raised n (h.raised n hn)
  engines hn := h'.engines (h.engines hn)
  slice hn := h'.slice (h.slice hn)

theorem mono (h : Keeps l s t) (hl : l' ⊆ l) : Keeps l' s t := { h with rd := fun a ha => h.rd a (hl ha) }

theorem get (h : Keeps l s t) {f : FieldAt} (hf : f.addr ∈ l) : t.get f = s.get f := by
  rw [State.get, State.get, h.rd _ hf]

/-- A step that touches none of what is kept. -/
theorem of_eq (hregs : t.regs = s.regs) (hirq : t.irq = s.irq) (hctl : t.modeCtl = s.modeCtl) (hmem : t.mem = s.mem) (hqueue : t.pending = s.pending)
    (hnow : t.now = s.now) (hsupply : t.supply = s.supply) (hengines : t.engines = s.engines) (hbist : t.bist = s.bist) : Keeps l s t where
  rd a _ := by rw [State.rd, State.rd, hregs]
  ctl := hctl
  mem := hmem
  queue := hqueue
  now := hnow
  supply := hsupply
  raised n h := by simpa only [State.isPending, State.slot, hirq] using h
  engines h := by rw [hengines, h]
  slice h := by rw [hbist, h]

theorem foldl {α : Type} {f : State → α → State} {xs : List α} (h : ∀ u, ∀ x ∈ xs, Keeps l u (f u x)) : Keeps l s (xs.foldl f s) := by
  induction xs generalizing s with
  | nil => exact refl
  | cons x xs ih => exact (h s x List.mem_cons_self).trans (ih fun u y hy => h u y (List.mem_cons_of_mem _ hy))

theorem wr {a : Nat} {w : Word} (h : a ∉ l) : Keeps l s (s.wr a w) :=
  ⟨fun _ hb => s.rd_wr_ne w (fun e => h (e ▸ hb)), rfl, rfl, rfl, rfl, rfl, fun _ h => h, id, id⟩

theorem set {f : FieldAt} {v : Nat} (h : f.addr ∉ l) : Keeps l s (s.set f v) := wr h

theorem count {a : Nat} (h : a ∉ l) : Keeps l s (s.count a) := wr h

end Keeps

/-- The counts of merged raises are none of the registers of `l`. -/
def ApartFromRaises (l : List Nat) : Prop := ∀ d, d < 4 → R.IRQ_D_COALESCED d ∉ l

section
variable {l : List Nat} {s : State}

theorem State.isPending_iff {n : Nat} : s.isPending n = true ↔ ∃ d < 4, (s.slot n d).pend = true := by
  simp only [State.isPending, List.any_eq_true, List.mem_cons, List.not_mem_nil, or_false]
  constructor
  · rintro ⟨d, hd, hp⟩
    exact ⟨d, by omega, hp⟩
  · rintro ⟨d, hd, hp⟩
    exact ⟨d, by omega, hp⟩

theorem Keeps.raiseOn (hl : ApartFromRaises l) {n d : Nat} (hd : d < 4) : Keeps l s (s.raiseOn n d) where
  rd a ha := s.rd_raiseOn n d (fun e => hl d hd (e ▸ ha))
  ctl := by rw [s.raiseOn_frame n d]
  mem := by rw [s.raiseOn_frame n d]
  queue := by rw [s.raiseOn_frame n d]
  now := by rw [s.raiseOn_frame n d]
  supply := by rw [s.raiseOn_frame n d]
  raised m hm := by
    obtain ⟨e, he, hp⟩ := State.isPending_iff.mp hm
    exact State.isPending_iff.mpr ⟨e, he, s.pend_raiseOn_mono hd he hp⟩
  engines h := by rw [s.raiseOn_frame n d, h]
  slice h := by rw [s.raiseOn_frame n d, h]

theorem Keeps.raise (hl : ApartFromRaises l) (n : Nat) : Keeps l s (s.raise n) := by
  unfold State.raise
  split
  next d hd => exact Keeps.raiseOn hl (State.pendingOn_lt hd)
  next => exact Keeps.raiseOn hl (s.targetOf_lt n)

/-- A source that is raised is pending. -/
theorem State.isPending_raise (s : State) (n : Nat) : (s.raise n).isPending n = true := by
  refine State.isPending_iff.mpr ?_
  unfold State.raise
  split
  next d hd => exact ⟨d, State.pendingOn_lt hd, s.pend_raiseOn n d⟩
  next => exact ⟨_, s.targetOf_lt n, s.pend_raiseOn n _⟩

end

/-! ## The transmitters turn off -/

def laneRegs : List Nat := (List.range 256).map R.LANE_STAT

theorem laneStat_injective : Function.Injective R.LANE_STAT := fun a b h => by
  simp only [R.LANE_STAT] at h
  omega

namespace State
variable {s : State} {l j : Nat}

theorem laneState_laneOff_self : (s.laneOff l).laneState l = L.off := get_set_self _ _ _ (show 31 < 32 by decide)

theorem laneState_laneOff_of_off (h : s.laneState j = L.off) : (s.laneOff l).laneState j = L.off := by
  by_cases hj : j = l
  · subst hj
    exact laneState_laneOff_self
  · exact (get_set_ne _ _ _ _ (fun e => hj (laneStat_injective e))).trans h

theorem laneState_foldl_laneOff {xs : List Nat} (h : s.laneState j = L.off ∨ j ∈ xs) :
    (xs.foldl (fun t l => t.laneOff l) s).laneState j = L.off := by
  induction xs generalizing s with
  | nil => exact h.resolve_right List.not_mem_nil
  | cons x xs ih =>
    refine ih ?_
    rcases h with h | h
    · exact .inl (laneState_laneOff_of_off h)
    · rcases List.mem_cons.mp h with rfl | h
      · exact .inl laneState_laneOff_self
      · exact .inr h

theorem mem_sendingLanes : l ∈ s.sendingLanes ↔ l < 256 ∧ s.laneState l ≠ L.off := by
  simp only [sendingLanes, laneSends, List.mem_filter, List.mem_range, bne_iff_ne, ne_eq]

theorem sendingLanes_eq_nil (h : ∀ l < 256, s.laneState l = L.off) : s.sendingLanes = [] :=
  List.eq_nil_iff_forall_not_mem.mpr fun l hl => (mem_sendingLanes.mp hl).2 (h l (mem_sendingLanes.mp hl).1)

theorem laneState_lanesOff (hl : l < 256) : s.lanesOff.laneState l = L.off := by
  unfold lanesOff
  refine laneState_foldl_laneOff ?_
  by_cases h : s.laneState l = L.off
  · exact .inl h
  · exact .inr (mem_sendingLanes.mpr ⟨hl, h⟩)

theorem foldl_laneOff_frame {xs : List Nat} : xs.foldl (fun t l => t.laneOff l) s = { s with
    regs := (xs.foldl (fun t l => t.laneOff l) s).regs, lanes := (xs.foldl (fun t l => t.laneOff l) s).lanes } := by
  induction xs generalizing s with
  | nil => rfl
  | cons x xs ih =>
    rw [List.foldl_cons, ih]
    rfl

theorem lanesOff_frame : s.lanesOff = { s with regs := s.lanesOff.regs, lanes := s.lanesOff.lanes } := foldl_laneOff_frame

end State

theorem Keeps.lanesOff {l : List Nat} {s : State} (h : ∀ a ∈ l, a ∉ laneRegs) : Keeps l s s.lanesOff := by
  unfold State.lanesOff
  refine Keeps.foldl fun u x hx => ?_
  have hmem : R.LANE_STAT x ∈ laneRegs := List.mem_map_of_mem (List.mem_range.mpr (State.mem_sendingLanes.mp hx).1)
  exact (Keeps.set (v := L.off) (f := F.LANE_STAT_STATE x) fun hl => h _ hl hmem).trans (.of_eq rfl rfl rfl rfl rfl rfl rfl rfl rfl)

/-! ## Sessions are dropped (R271, R294) -/

def sessionRegs : List Nat := (List.range 256).map R.IVW_S_STATE

/-- The registers that the entry to QUARANTINE keeps: the mode, and the states of lanes and sessions once they are off and closed. -/
def quietRegs : List Nat := R.SYS_MODE :: laneRegs ++ sessionRegs

theorem mem_quietRegs {a : Nat} : a ∈ quietRegs ↔ a = R.SYS_MODE ∨ (∃ l < 256, R.LANE_STAT l = a) ∨ ∃ x < 256, R.IVW_S_STATE x = a := by
  simp only [quietRegs, laneRegs, sessionRegs, List.cons_append, List.mem_cons, List.mem_append, List.mem_map, List.mem_range]

theorem apart_quietRegs : ApartFromRaises quietRegs := by
  intro d hd h
  rw [mem_quietRegs] at h
  simp only [R.SYS_MODE, R.LANE_STAT, R.IVW_S_STATE, R.IRQ_D_COALESCED] at h
  omega

theorem mode_mem_quietRegs : R.SYS_MODE ∈ quietRegs := List.mem_cons_self

theorem laneStat_mem_quietRegs {l : Nat} (h : l < 256) : R.LANE_STAT l ∈ quietRegs :=
  List.mem_append_left _ (List.mem_cons_of_mem _ (List.mem_map_of_mem (List.mem_range.mpr h)))

theorem sessionState_mem_quietRegs {x : Nat} (h : x < 256) : R.IVW_S_STATE x ∈ quietRegs :=
  List.mem_append_right _ (List.mem_map_of_mem (List.mem_range.mpr h))

/-- The registers that the entry to QUARANTINE writes beside the states of lanes and sessions and the counts of merged raises. -/
def quietWrites : List Nat := [R.IVW_OPEN, R.CFG_PR_STAT, R.CFG_PR_CTL, R.CFG_PR_REJECTED, R.BIST_STAT, R.BIST_CTL, R.SEC_SVC_STAT, R.SEC_SVC_CTL,
  R.FAB_SR_STAT, R.FAB_CTL, R.ECC_SCRUB_STAT, R.ECC_SCRUB_CTL, R.PWR_D_STAT 18, R.PWR_D_STAT 19, R.PWR_D_IMMEDIATE 18, R.PWR_D_IMMEDIATE 19]

theorem not_mem_quietRegs {a : Nat} (h : a ∈ quietWrites) : a ∉ quietRegs := by
  have hapart : ∀ b ∈ quietWrites, b ≠ R.SYS_MODE ∧ (b < 0x10110004 ∨ 0x10120000 ≤ b) ∧ (b < 0x100E1000 ∨ 0x100E2000 ≤ b) := by decide
  obtain ⟨hmode, hlane, hsession⟩ := hapart a h
  rw [mem_quietRegs]
  rintro (hm | ⟨l, hl, e⟩ | ⟨x, hx, e⟩)
  · exact hmode hm
  · simp only [R.LANE_STAT] at e
    omega
  · simp only [R.IVW_S_STATE] at e
    omega

/-- The registers of a session are apart. -/
theorem sessionPeer_not_mem {x : Nat} (hx : x < 256) : R.IVW_S_PEER_IP x ∉ quietRegs ∧ R.IVW_S_PEER_PORT x ∉ quietRegs := by
  simp only [mem_quietRegs, R.SYS_MODE, R.LANE_STAT, R.IVW_S_STATE, R.IVW_S_PEER_IP, R.IVW_S_PEER_PORT]
  constructor <;> omega

theorem sessionState_injective : Function.Injective R.IVW_S_STATE := fun a b h => by
  simp only [R.IVW_S_STATE] at h
  omega

namespace State
variable {s : State} {x y : Nat}

/-- Beside the state of the session, a drop keeps what is asked about. -/
theorem keeps_dropSession (hx : x < 256) : Keeps quietRegs (s.wr (R.IVW_S_STATE x) 0) (s.dropSession x) := by
  obtain ⟨hip, hport⟩ := sessionPeer_not_mem hx
  unfold dropSession
  extract_lets was s1 ivw s2
  have h1 : Keeps quietRegs (s.wr (R.IVW_S_STATE x) 0) s1 := by
    refine .trans ?_ (.set (not_mem_quietRegs (a := R.IVW_OPEN) (by decide)))
    exact ((Keeps.wr hip).trans (.wr hport)).trans (.of_eq rfl rfl rfl rfl rfl rfl rfl rfl rfl)
  have h2 : Keeps quietRegs (s.wr (R.IVW_S_STATE x) 0) s2 := h1.trans (.of_eq rfl rfl rfl rfl rfl rfl rfl rfl rfl)
  split
  · exact h2.trans (.raise apart_quietRegs 738)
  · exact h2

theorem open_wr_zero : (s.wr (R.IVW_S_STATE x) 0).bit (F.IVW_S_STATE_OPEN x) = false := by
  rw [bit, get, rd_wr, if_pos rfl]
  show (bitsOf 0#32 31 31 != 0) = false
  decide

theorem open_wr_zero_of_closed (h : s.bit (F.IVW_S_STATE_OPEN y) = false) : (s.wr (R.IVW_S_STATE x) 0).bit (F.IVW_S_STATE_OPEN y) = false := by
  by_cases hy : y = x
  · subst hy
    exact open_wr_zero
  · rw [bit, get_wr_ne _ _ _ _ (fun e => hy (sessionState_injective e))]
    exact h

theorem bit_of_keeps {t : State} (h : Keeps quietRegs s t) (hy : y < 256) : t.bit (F.IVW_S_STATE_OPEN y) = s.bit (F.IVW_S_STATE_OPEN y) := by
  rw [bit, bit, h.get (f := F.IVW_S_STATE_OPEN y) (sessionState_mem_quietRegs hy)]

theorem closed_foldl_dropSession {xs : List Nat} (hxs : ∀ z ∈ xs, z < 256) (hy : y < 256) (h : s.bit (F.IVW_S_STATE_OPEN y) = false ∨ y ∈ xs) :
    (xs.foldl (fun t x => t.dropSession x) s).bit (F.IVW_S_STATE_OPEN y) = false := by
  induction xs generalizing s with
  | nil => exact h.resolve_right List.not_mem_nil
  | cons x xs ih =>
    refine ih (fun z hz => hxs z (List.mem_cons_of_mem _ hz)) ?_
    have hdrop := bit_of_keeps (keeps_dropSession (s := s) (hxs x List.mem_cons_self)) hy
    rcases h with h | h
    · exact .inl (hdrop.trans (open_wr_zero_of_closed h))
    · rcases List.mem_cons.mp h with rfl | h
      · exact .inl (hdrop.trans open_wr_zero)
      · exact .inr h

/-- Every open session is dropped, and those that an open waits for. -/
def dropSessions (s : State) : State :=
  ((List.range 256).filter fun x => s.bit (F.IVW_S_STATE_OPEN x) || (s.session x).waiting).foldl (fun t x => t.dropSession x) s

theorem closed_dropSessions (hy : y < 256) : s.dropSessions.bit (F.IVW_S_STATE_OPEN y) = false := by
  unfold dropSessions
  refine closed_foldl_dropSession (fun z hz => List.mem_range.mp (List.mem_filter.mp hz).1) hy ?_
  by_cases h : s.bit (F.IVW_S_STATE_OPEN y) = true
  · exact .inr (List.mem_filter.mpr ⟨List.mem_range.mpr hy, by rw [h, Bool.true_or]⟩)
  · exact .inl (Bool.eq_false_of_not_eq_true h)

end State

theorem mode_lane_subset : R.SYS_MODE :: laneRegs ⊆ quietRegs := List.subset_append_left _ _

theorem laneRegs_apart_sessions {x : Nat} (hx : x < 256) : R.IVW_S_STATE x ∉ R.SYS_MODE :: laneRegs := by
  simp only [laneRegs, List.mem_cons, List.mem_map, List.mem_range, R.IVW_S_STATE, R.SYS_MODE, R.LANE_STAT]
  omega

/-- Of the registers asked about, dropping the sessions changes those of the sessions alone. -/
theorem keeps_dropSessions {s : State} : Keeps (R.SYS_MODE :: laneRegs) s s.dropSessions := by
  unfold State.dropSessions
  refine Keeps.foldl fun u x hx => ?_
  have hlt := List.mem_range.mp (List.mem_filter.mp hx).1
  exact (Keeps.wr (laneRegs_apart_sessions hlt)).trans ((State.keeps_dropSession hlt).mono mode_lane_subset)

/-! ## Units in reset (R26, R271, R505, R515) -/

namespace State
variable {s : State}

theorem keeps_prReject {code frame : Nat} : Keeps quietRegs s (s.prReject code frame) := by
  unfold prReject
  refine .trans ?_ (.raise apart_quietRegs 833)
  refine .trans ?_ (.count (not_mem_quietRegs (a := R.CFG_PR_REJECTED) (by decide)))
  refine .trans ?_ (.set (not_mem_quietRegs (a := R.CFG_PR_CTL) (by decide)))
  refine .trans ?_ (.set (not_mem_quietRegs (a := R.CFG_PR_STAT) (by decide)))
  refine .trans ?_ (.set (not_mem_quietRegs (a := R.CFG_PR_STAT) (by decide)))
  exact .set (not_mem_quietRegs (a := R.CFG_PR_STAT) (by decide))

/-- The reconfiguration port rejects a partial stream before its APPLY, and ends one after it (R352, R353). -/
def quietPort (s : State) : State :=
  if 1 ≤ s.prState ∧ s.prState ≤ 3 then s.prReject 0x10 0 else if s.prBusy then s.set F.CFG_PR_STAT_STATE Pr.idle else s

theorem keeps_quietPort : Keeps quietRegs s s.quietPort := by
  unfold quietPort
  split
  · exact keeps_prReject
  · split
    · exact .set (not_mem_quietRegs (a := R.CFG_PR_STAT) (by decide))
    · exact .refl

/-- Engines, claims and the slice are gone. -/
def quietEngines (s : State) : State :=
  { s with
    engines := [], drones := [], claims := [], pairs := [], notes := [], bist := { s.bist with slice := none, manual := none }, ivw := {},
    cfg := { s.cfg with pr := {}, restoring := [], queue := [], asked := none } }

theorem keeps_quietEngines : Keeps quietRegs s s.quietEngines :=
  ⟨fun _ _ => rfl, rfl, rfl, rfl, rfl, rfl, fun _ h => h, fun _ => rfl, fun _ => rfl⟩

theorem keeps_endSlice : Keeps quietRegs s s.endSlice := by
  unfold endSlice
  refine .trans ?_ (.set (not_mem_quietRegs (a := R.BIST_STAT) (by decide)))
  exact ⟨fun _ _ => rfl, rfl, rfl, rfl, rfl, rfl, fun _ h => h, id, fun _ => rfl⟩

theorem keeps_globalSetReset : Keeps quietRegs s s.globalSetReset := by
  unfold globalSetReset
  refine .trans ?_ (.set (not_mem_quietRegs (a := R.FAB_CTL) (by decide)))
  refine .trans ?_ (.set (not_mem_quietRegs (a := R.FAB_SR_STAT) (by decide)))
  refine .trans ?_ (.set (not_mem_quietRegs (a := R.FAB_SR_STAT) (by decide)))
  exact .of_eq rfl rfl rfl rfl rfl rfl rfl rfl rfl

theorem keeps_stopWheel : Keeps quietRegs s s.stopWheel := by
  unfold stopWheel
  exact Keeps.foldl fun _ _ _ => .of_eq rfl rfl rfl rfl rfl rfl rfl rfl rfl

/-- The fabric, the wheel and the scrubber are at rest. -/
def quietRest (s : State) : State :=
  let s3 := ((s.endSlice.wr R.SEC_SVC_STAT 0).wr R.SEC_SVC_CTL 0 |>.globalSetReset.stopWheel).set F.CFG_PR_CTL_START 0 |>.set F.BIST_CTL_MAN_GO 0
  if s3.get F.ECC_SCRUB_STAT_STATE = 1 then ((s3.set F.ECC_SCRUB_STAT_STATE 0).set F.ECC_SCRUB_CTL_GO 0).set F.ECC_SCRUB_CTL_ABORT 0 else s3

theorem keeps_quietRest : Keeps quietRegs s s.quietRest := by
  unfold quietRest
  extract_lets s3
  have h3 : Keeps quietRegs s s3 := by
    refine .trans ?_ (.set (not_mem_quietRegs (a := R.BIST_CTL) (by decide)))
    refine .trans ?_ (.set (not_mem_quietRegs (a := R.CFG_PR_CTL) (by decide)))
    refine .trans ?_ keeps_stopWheel
    refine .trans ?_ keeps_globalSetReset
    refine .trans ?_ (.wr (not_mem_quietRegs (a := R.SEC_SVC_CTL) (by decide)))
    exact keeps_endSlice.trans (.wr (not_mem_quietRegs (a := R.SEC_SVC_STAT) (by decide)))
  split
  · refine .trans ?_ (.set (not_mem_quietRegs (a := R.ECC_SCRUB_CTL) (by decide)))
    refine .trans ?_ (.set (not_mem_quietRegs (a := R.ECC_SCRUB_CTL) (by decide)))
    exact h3.trans (.set (not_mem_quietRegs (a := R.ECC_SCRUB_STAT) (by decide)))
  · exact h3

theorem quietUnits_eq : s.quietUnits = s.quietPort.dropSessions.quietEngines.quietRest := rfl

theorem keeps_quietUnits : Keeps (R.SYS_MODE :: laneRegs) s s.quietUnits := by
  rw [quietUnits_eq]
  refine .trans ?_ (keeps_quietRest.mono mode_lane_subset)
  refine .trans ?_ (keeps_quietEngines.mono mode_lane_subset)
  exact (keeps_quietPort.mono mode_lane_subset).trans keeps_dropSessions

theorem quiet_quietUnits : (∀ y < 256, s.quietUnits.bit (F.IVW_S_STATE_OPEN y) = false) ∧ s.quietUnits.engines = [] ∧
    s.quietUnits.bist.slice = none := by
  rw [quietUnits_eq]
  have hrest := keeps_quietRest (s := s.quietPort.dropSessions.quietEngines)
  refine ⟨fun y hy => ?_, hrest.engines rfl, hrest.slice rfl⟩
  rw [bit_of_keeps hrest hy, bit_of_keeps keeps_quietEngines hy]
  exact closed_dropSessions hy

/-! ## A change of the mode (R16, R18) -/

theorem notifyOne_frame {x k : Nat} {data : List Nat} : s.notifyOne x k data = { s with sessions := (s.notifyOne x k data).sessions } := by
  unfold notifyOne ivwSend setSession
  rfl

theorem keeps_notify {l : List Nat} {k : Nat} {data : List Nat} : Keeps l s (s.notify k data) := by
  unfold notify
  refine Keeps.foldl fun u x _ => ?_
  rw [notifyOne_frame]
  exact .of_eq rfl rfl rfl rfl rfl rfl rfl rfl rfl

theorem notify_frame {k : Nat} {data : List Nat} : s.notify k data = { s with sessions := (s.notify k data).sessions } := by
  unfold notify
  generalize (List.range 256).filter _ = xs
  induction xs generalizing s with
  | nil => rw [List.foldl_nil]
  | cons x xs ih =>
    rw [List.foldl_cons, ih, notifyOne_frame]

/-- A change out of ARMED other than the one the arm waits for refuses the arm (R30). -/
def dropArm (s : State) (to_ : Nat) : State :=
  if s.modeCtl.arm ≠ none ∧ s.mode = M.armed ∧ to_ ≠ M.run ∧ to_ ≠ M.runSpared
    then { s with modeCtl := { s.modeCtl with arm := none } }.refuseRequest 6 else s

/-- The mode, the mode left and the cause are put. -/
def putMode (s : State) (to_ cause : Nat) : State :=
  (((s.dropArm to_).set F.SYS_MODE_PREV s.mode).set F.SYS_MODE_CAUSE cause).set F.SYS_MODE_MODE to_

variable {to_ cause : Nat}

theorem changeMode_eq : s.changeMode to_ cause =
    ((s.putMode to_ cause).raise 824).notify 0 (bytesBE 4 ((s.putMode to_ cause).rdN R.SYS_MODE)) := rfl

theorem dropArm_frame : s.dropArm to_ = { s with regs := (s.dropArm to_).regs, modeCtl := (s.dropArm to_).modeCtl } := by
  unfold dropArm
  split <;> rfl

theorem changeMode_frame : s.changeMode to_ cause = { s with
    regs := (s.changeMode to_ cause).regs, irq := (s.changeMode to_ cause).irq, sessions := (s.changeMode to_ cause).sessions
    modeCtl := (s.changeMode to_ cause).modeCtl } := by
  rw [changeMode_eq, notify_frame, raise_frame, putMode, dropArm_frame]
  rfl

theorem ctl_dropArm : { (s.dropArm to_).modeCtl with arm := none } = { s.modeCtl with arm := none } := by
  unfold dropArm
  split <;> rfl

theorem keeps_of_putMode : Keeps [R.SYS_MODE] (s.putMode to_ cause) (s.changeMode to_ cause) := by
  rw [changeMode_eq]
  refine .trans (.raise ?_ 824) keeps_notify
  unfold ApartFromRaises
  decide

theorem ctl_changeMode : { (s.changeMode to_ cause).modeCtl with arm := none } = { s.modeCtl with arm := none } := by
  rw [(keeps_of_putMode (s := s)).ctl]
  exact ctl_dropArm

theorem mode_changeMode : (s.changeMode to_ cause).mode = to_ % 16 :=
  (keeps_of_putMode.get (f := F.SYS_MODE_MODE) (by decide)).trans (get_set_self _ _ _ (by decide))

theorem cause_changeMode : (s.changeMode to_ cause).get F.SYS_MODE_CAUSE = cause % 256 :=
  (keeps_of_putMode.get (f := F.SYS_MODE_CAUSE) (by decide)).trans
    ((get_set_of_disjoint _ _ _ _ (by decide) (by decide)).trans (get_set_self _ _ _ (by decide)))

theorem prev_changeMode : (s.changeMode to_ cause).get F.SYS_MODE_PREV = s.mode := by
  rw [keeps_of_putMode.get (f := F.SYS_MODE_PREV) (by decide), putMode, get_set_of_disjoint _ _ _ _ (by decide) (by decide),
    get_set_of_disjoint _ _ _ _ (by decide) (by decide), get_set_self _ _ _ (by decide)]
  exact Nat.mod_eq_of_lt s.mode_lt

theorem raised_changeMode : (s.changeMode to_ cause).isPending 824 = true := by
  rw [changeMode_eq]
  exact (keeps_notify (l := [])).raised 824 (isPending_raise _ 824)

/-! ## The entry to QUARANTINE (R23, R26, R440) -/

theorem keeps_wakeDomain {d : Nat} (hd : d = 18 ∨ d = 19) : Keeps quietRegs s (s.wakeDomain d) := by
  have hstat : R.PWR_D_STAT d ∉ quietRegs := by
    rcases hd with rfl | rfl <;> exact not_mem_quietRegs (by decide)
  have himm : R.PWR_D_IMMEDIATE d ∉ quietRegs := by
    rcases hd with rfl | rfl <;> exact not_mem_quietRegs (by decide)
  have hother {x : PwrDom} : Keeps quietRegs s (s.setPwrDom d x) := .of_eq rfl rfl rfl rfl rfl rfl rfl rfl rfl
  unfold wakeDomain
  split
  · exact .refl
  · extract_lets x st s1
    have h1 : Keeps quietRegs s s1 := hother.trans (.set hstat)
    split
    · split
      · exact .refl
      · exact hother.trans (.set hstat)
    · split
      · split
        · exact .refl
        · split
          · exact (h1.trans (.set himm)).trans (.raise apart_quietRegs 785)
          · exact h1.trans (.set himm)
      · exact .refl

/-- The units are in reset, and the way to QUARANTINE is over. -/
def quieted (s : State) (cause : Nat) : State :=
  let s1 := (s.changeMode M.quarantine cause).lanesOff.quietUnits
  { s1 with responder := s1.responderNet, modeCtl := { s1.modeCtl with toQuarantine := false, restart := false, burst := none, arm := none } }

theorem keeps_quarantineNow : Keeps quietRegs (s.quieted cause) (s.quarantineNow cause) := by
  unfold quarantineNow
  refine Keeps.foldl fun u d hd => keeps_wakeDomain ?_
  have := (List.mem_filter.mp hd).1
  simpa using this

/-- Of what an entry to RESET keeps, the lanes hold nothing. -/
theorem keeps_lanesOff : Keeps [R.SYS_MODE, R.PWR_RAIL_FAULT, R.PWR_PHASE_STAT] s s.lanesOff := by
  have hbelow : ∀ a ∈ [R.SYS_MODE, R.PWR_RAIL_FAULT, R.PWR_PHASE_STAT], a < 0x10110004 := by decide
  refine .lanesOff fun a ha hlane => ?_
  obtain ⟨l, -, rfl⟩ := List.mem_map.mp hlane
  have := hbelow _ ha
  simp only [R.LANE_STAT] at this
  omega

theorem get_quarantineNow {f : FieldAt} (hf : f.addr = R.SYS_MODE) :
    (s.quarantineNow cause).get f = (s.changeMode M.quarantine cause).get f := by
  have hwake : (s.quarantineNow cause).get f = (s.quieted cause).get f := keeps_quarantineNow.get (hf ▸ mode_mem_quietRegs)
  have hunits : (s.quieted cause).get f = (s.changeMode M.quarantine cause).lanesOff.get f := keeps_quietUnits.get (hf ▸ List.mem_cons_self)
  rw [hwake, hunits, keeps_lanesOff.get (hf ▸ List.mem_cons_self)]

theorem mode_quarantineNow : (s.quarantineNow cause).mode = M.quarantine := (get_quarantineNow rfl).trans mode_changeMode

theorem prev_quarantineNow : (s.quarantineNow cause).get F.SYS_MODE_PREV = s.mode := (get_quarantineNow rfl).trans prev_changeMode

theorem cause_quarantineNow : (s.quarantineNow cause).get F.SYS_MODE_CAUSE = cause % 256 := (get_quarantineNow rfl).trans cause_changeMode

theorem raised_quarantineNow : (s.quarantineNow cause).isPending 824 = true := by
  refine keeps_quarantineNow.raised 824 ?_
  exact keeps_quietUnits.raised 824 (keeps_lanesOff.raised 824 raised_changeMode)

theorem mem_quarantineNow : (s.quarantineNow cause).mem = s.mem := by
  have hunits : (s.quieted cause).mem = (s.changeMode M.quarantine cause).lanesOff.mem := keeps_quietUnits.mem
  rw [keeps_quarantineNow.mem, hunits, keeps_lanesOff.mem, changeMode_frame]

theorem queue_quarantineNow : (s.quarantineNow cause).pending = s.pending := by
  have hunits : (s.quieted cause).pending = (s.changeMode M.quarantine cause).lanesOff.pending := keeps_quietUnits.queue
  rw [keeps_quarantineNow.queue, hunits, keeps_lanesOff.queue, changeMode_frame]

theorem ctl_quarantineNow : (s.quarantineNow cause).modeCtl =
    { s.modeCtl with toQuarantine := false, restart := false, burst := none, arm := none } := by
  have hunits : (s.changeMode M.quarantine cause).lanesOff.quietUnits.modeCtl = (s.changeMode M.quarantine cause).modeCtl :=
    keeps_quietUnits.ctl.trans keeps_lanesOff.ctl
  rw [keeps_quarantineNow.ctl, quieted]
  dsimp only
  rw [hunits]
  exact congrArg (fun c : ModeCtl => { c with toQuarantine := false, restart := false, burst := none }) ctl_changeMode

theorem sendingLanes_quarantineNow : (s.quarantineNow cause).sendingLanes = [] := by
  refine sendingLanes_eq_nil fun l hl => ?_
  have hunits : (s.quieted cause).laneState l = (s.changeMode M.quarantine cause).lanesOff.laneState l :=
    keeps_quietUnits.get (f := F.LANE_STAT_STATE l) (List.mem_cons_of_mem _ (List.mem_map_of_mem (List.mem_range.mpr hl)))
  have hwake : (s.quarantineNow cause).laneState l = (s.quieted cause).laneState l :=
    keeps_quarantineNow.get (f := F.LANE_STAT_STATE l) (laneStat_mem_quietRegs hl)
  rw [hwake, hunits, laneState_lanesOff hl]

theorem quiet_quarantineNow : ((List.range 256).all fun x => !(s.quarantineNow cause).bit (F.IVW_S_STATE_OPEN x)) = true ∧
    (s.quarantineNow cause).engines = [] ∧ (s.quarantineNow cause).bist.slice = none := by
  obtain ⟨hclosed, hengines, hslice⟩ := quiet_quietUnits (s := (s.changeMode M.quarantine cause).lanesOff)
  refine ⟨List.all_eq_true.mpr fun x hx => ?_, keeps_quarantineNow.engines hengines, keeps_quarantineNow.slice hslice⟩
  have hlt := List.mem_range.mp hx
  have hbit : (s.quieted cause).bit (F.IVW_S_STATE_OPEN x) = false := hclosed x hlt
  rw [bit_of_keeps keeps_quarantineNow hlt, hbit]
  rfl

end State

end Sys2Proof.Machine
end

section
/-! PROOFS. The exit from RESET (R23, R41, R247, R457, R558), and the obligation about entry to RESET and QUARANTINE and the exit. -/
namespace Sys2Proof.Machine

namespace State
variable {s t : State} {cause : Nat}

/-! ## The SAFE burst that ends in RESET (R29) -/

/-- What RESET leaves does not depend on the lanes, which it turns off. -/
theorem wentToReset_lanesOff : s.lanesOff.wentToReset t cause false = s.wentToReset t cause false := by
  have hphase : s.lanesOff.get F.PWR_PHASE_STAT_LOST = s.get F.PWR_PHASE_STAT_LOST := keeps_lanesOff.get (by decide)
  have hmode : s.lanesOff.mode = s.mode := keeps_lanesOff.get (f := F.SYS_MODE_MODE) (by decide)
  have hprev : s.lanesOff.get F.SYS_MODE_PREV = s.get F.SYS_MODE_PREV := keeps_lanesOff.get (by decide)
  unfold wentToReset
  rw [hphase, hmode, hprev, lanesOff_frame]

/-! ## The PLLs lock before the exit (R453, R457) -/

/-- The OTP words that the exit from RESET finds uncorrectable. -/
def withUnc (s : State) (x : List Nat) : State := { s with flash := { s.flash with otpUnc := x } }

section
variable {x : List Nat}

theorem rd_withUnc (a : Nat) : (s.withUnc x).rd a = s.rd a := rfl

theorem get_withUnc (f : FieldAt) : (s.withUnc x).get f = s.get f := rfl

theorem pll_withUnc (k : Nat) : (s.withUnc x).pll k = s.pll k := rfl

theorem set_withUnc (f : FieldAt) (v : Nat) : (s.withUnc x).set f v = (s.set f v).withUnc x := rfl

theorem setPll_withUnc (k : Nat) (p : Pll) : (s.withUnc x).setPll k p = (s.setPll k p).withUnc x := rfl

theorem locked_withUnc (k : Nat) : (s.withUnc x).locked k = s.locked k := rfl

theorem nextBand_withUnc (k : Nat) : (s.withUnc x).nextBand k = s.nextBand k := by
  unfold nextBand
  simp only [rd_withUnc, pll_withUnc]

theorem startRef_withUnc : (s.withUnc x).startRef = s.startRef.withUnc x := by
  unfold startRef
  rw [get_withUnc]
  split
  · rfl
  · rfl

theorem startLock_of_locked {k : Nat} (h : s.locked k = true) : s.startLock k = s := if_pos h

/-- Where no band qualifies, the PLL shows so (R457). -/
theorem startLock_of_none {k : Nat} (h : ¬ s.locked k = true) (hb : s.nextBand k = none) :
    s.startLock k = s.set (F.CLK_PLL_STAT_NO_BAND k) 1 := by
  rw [startLock, if_neg h, hb]

theorem startLock_of_some {k b : Nat} (h : ¬ s.locked k = true) (hb : s.nextBand k = some b) : s.startLock k =
    (((s.setPll k { s.pll k with used := some b, choose := false, move := none, trying := false, tryAt := none }).set (F.CLK_PLL_STAT_BAND k) b).set
      (F.CLK_PLL_STAT_NO_BAND k) 0).set (F.CLK_PLL_STAT_LOCKED k) 1 := by
  rw [startLock, if_neg h, hb]

theorem startLock_withUnc {k : Nat} : (s.withUnc x).startLock k = (s.startLock k).withUnc x := by
  by_cases h : s.locked k = true
  · rw [startLock_of_locked h, startLock_of_locked ((locked_withUnc k).trans h)]
  · have h' : ¬ (s.withUnc x).locked k = true := h
    cases hb : s.nextBand k with
    | none => rw [startLock_of_none h hb, startLock_of_none h' ((nextBand_withUnc k).trans hb), set_withUnc]
    | some b => rw [startLock_of_some h hb, startLock_of_some h' ((nextBand_withUnc k).trans hb), pll_withUnc, setPll_withUnc, set_withUnc,
        set_withUnc, set_withUnc]

end

/-- The reference is found and both PLLs try to lock. -/
def startPlls (s : State) : State := (s.startRef.startLock 0).startLock 1

theorem startPlls_withUnc {x : List Nat} : (s.withUnc x).startPlls = s.startPlls.withUnc x := by
  unfold startPlls
  rw [startRef_withUnc, startLock_withUnc, startLock_withUnc]

theorem keeps_startRef : Keeps [R.SYS_MODE] s s.startRef := by
  unfold startRef
  split
  · refine .trans ?_ (.set (by decide))
    exact .of_eq rfl rfl rfl rfl rfl rfl rfl rfl rfl
  · exact .refl

theorem keeps_startLock {k : Nat} (hk : R.CLK_PLL_STAT k ∉ [R.SYS_MODE]) : Keeps [R.SYS_MODE] s (s.startLock k) := by
  by_cases h : s.locked k = true
  · rw [startLock_of_locked h]
    exact .refl
  · cases hb : s.nextBand k with
    | none =>
      rw [startLock_of_none h hb]
      exact .set hk
    | some b =>
      rw [startLock_of_some h hb]
      refine .trans ?_ (.set hk)
      refine .trans ?_ (.set hk)
      refine .trans ?_ (.set hk)
      exact .of_eq rfl rfl rfl rfl rfl rfl rfl rfl rfl

theorem keeps_startPlls : Keeps [R.SYS_MODE] s s.startPlls := by
  unfold startPlls
  exact (keeps_startRef.trans (keeps_startLock (by decide))).trans (keeps_startLock (by decide))

/-! ## The steps of the exit -/

theorem apart_mode : ApartFromRaises [R.SYS_MODE] := by
  unfold ApartFromRaises
  decide

theorem keeps_standBy : Keeps [R.SYS_MODE] s (s.standBy 1) := by
  unfold standBy
  split
  · extract_lets s1 y p s2
    have h1 : Keeps [R.SYS_MODE] s s1 := .set (by decide)
    have h2 : Keeps [R.SYS_MODE] s s2 := by
      refine .trans ?_ (.set (by decide))
      refine .trans ?_ (.set (by decide))
      exact h1.trans (.of_eq rfl rfl rfl rfl rfl rfl rfl rfl rfl)
    split
    · split
      · exact h2.trans (.set (by decide))
      · exact h2
    · exact h1
  · exact .refl

theorem fcal_ne_mode {i : Nat} : R.MEAS_FCAL i ∉ [R.SYS_MODE] := by
  simp only [List.mem_singleton, R.MEAS_FCAL, R.SYS_MODE]
  omega

theorem keeps_loadCal : Keeps [R.SYS_MODE] s s.loadCal := by
  unfold loadCal
  extract_lets b rec_ ok
  split
  · refine .trans ?_ (.raise apart_mode 667)
    refine .trans ?_ (.set (by decide))
    exact .foldl fun _ _ _ => .wr fcal_ne_mode
  · refine .trans ?_ (.set (by decide))
    exact .foldl fun _ _ _ => .wr fcal_ne_mode

theorem keeps_loadSec : Keeps [R.SYS_MODE] s s.loadSec := by
  unfold loadSec
  extract_lets slots flags bad s1 s2
  have h2 : Keeps [R.SYS_MODE] s s2 := by
    refine .trans ?_ (.wr (by decide))
    refine .trans ?_ (.set (by decide))
    refine .trans ?_ (.set (by decide))
    refine .trans ?_ (.set (by decide))
    exact .set (by decide)
  split
  · exact h2.trans (.raise apart_mode 894)
  · exact h2

theorem keeps_journalScan : Keeps [R.SYS_MODE] s s.journalScan := by
  unfold journalScan
  extract_lets half h recs none_ sectors sel fl s1 s2
  have h2 : Keeps [R.SYS_MODE] s s2 := by
    refine .trans ?_ (.set (by decide))
    exact .of_eq rfl rfl rfl rfl rfl rfl rfl rfl rfl
  split
  · exact h2.trans (.raise apart_mode 845)
  · exact h2

/-- Wheel time starts at 0, nothing is pending, and the chain side is as strapped. -/
def leaveStart (s : State) (chainUp : Bool) : State := { s with
  now := 0, supply := { s.supply with before := s.supply.before + (s.now - s.supply.since), since := 0 }, irq := []
  emn := { head := !chainUp, upstream := chainUp } }

/-- OTP and the journal are read. -/
def readStores (s : State) : State :=
  let s2 := ((s.standBy 1).loadCal).loadSec
  let s3 := if s2.bit F.CLK_STAT_BANDS_BAD then s2.raise 813 else s2
  s3.journalScan

/-- The straps are latched. -/
def latchStraps (s : State) (chainUp pullUp : Bool) (banks : Nat) : State :=
  ((s.set F.GPIO_STRAPS_CHAIN_SRC (if chainUp then 1 else 0)).set F.GPIO_STRAPS_PULLSEL (if pullUp then 1 else 0)).wr R.GPIO_BANK_STAT
    (BitVec.ofNat 32 banks)

/-- The state at the exit before its mode is put. -/
def atExit (s : State) (chainUp pullUp : Bool) (banks : Nat) : State := (s.leaveStart chainUp).readStores.latchStraps chainUp pullUp banks

variable {chainUp pullUp : Bool} {banks : Nat}

theorem leaveReset_eq : s.leaveReset chainUp pullUp banks =
    (s.atExit chainUp pullUp banks).takeHead.changeMode M.verify (s.atExit chainUp pullUp banks).modeCtl.aonCause := rfl

theorem keeps_readStores : Keeps [R.SYS_MODE] s s.readStores := by
  unfold readStores
  extract_lets s2 s3
  have h2 : Keeps [R.SYS_MODE] s s2 := (keeps_standBy.trans keeps_loadCal).trans keeps_loadSec
  have h3 : Keeps [R.SYS_MODE] s s3 := by
    by_cases h : s2.bit F.CLK_STAT_BANDS_BAD = true
    · rw [show s3 = s2.raise 813 from if_pos h]
      exact h2.trans (.raise apart_mode 813)
    · rw [show s3 = s2 from if_neg h]
      exact h2
  exact h3.trans keeps_journalScan

theorem keeps_latchStraps : Keeps [R.SYS_MODE] s (s.latchStraps chainUp pullUp banks) := by
  unfold latchStraps
  refine .trans ?_ (.wr (by decide))
  refine .trans ?_ (.set (by decide))
  exact .set (by decide)

theorem keeps_atExit : Keeps [R.SYS_MODE] (s.leaveStart chainUp) (s.atExit chainUp pullUp banks) :=
  keeps_readStores.trans keeps_latchStraps

/-- The registers of the pins, and that of the mode. -/
def exitRegs : List Nat := [R.SYS_MODE, R.GPIO_STRAPS, R.GPIO_BANK_STAT]

theorem apart_exitRegs : ApartFromRaises exitRegs := by
  unfold ApartFromRaises
  decide

theorem keeps_takeHead : Keeps exitRegs s s.takeHead := by
  unfold takeHead
  split
  · refine .trans ?_ (.raise apart_exitRegs 774)
    refine .trans ?_ (.set (by decide))
    refine .trans ?_ (.set (by decide))
    exact .set (by decide)
  · exact .refl

theorem rd_dropArm {to_ a : Nat} (h : a ≠ R.SYS_MODE_STAT) : (s.dropArm to_).rd a = s.rd a := by
  unfold dropArm refuseRequest
  split
  · rw [rd_set_ne _ _ _ h, rd_set_ne _ _ _ h]
    rfl
  · rfl

theorem rd_putMode {to_ a : Nat} (h : a ≠ R.SYS_MODE) (h' : a ≠ R.SYS_MODE_STAT) : (s.putMode to_ cause).rd a = s.rd a := by
  rw [putMode, rd_set_ne _ _ _ h, rd_set_ne _ _ _ h, rd_set_ne _ _ _ h, rd_dropArm h']

theorem rd_changeMode {to_ a : Nat} (h : a ≠ R.SYS_MODE) (h' : a ≠ R.SYS_MODE_STAT) (hr : ApartFromRaises [a]) :
    (s.changeMode to_ cause).rd a = s.rd a := by
  rw [changeMode_eq, (keeps_notify (l := [a])).rd a (List.mem_singleton_self a), (Keeps.raise hr 824).rd a (List.mem_singleton_self a),
    rd_putMode h h']

theorem rd_leaveReset_pins {a : Nat} (h : a = R.GPIO_STRAPS ∨ a = R.GPIO_BANK_STAT) :
    (s.leaveReset chainUp pullUp banks).rd a = (s.atExit chainUp pullUp banks).rd a := by
  have hapart : ApartFromRaises [a] := by
    rcases h with rfl | rfl
    all_goals
      unfold ApartFromRaises
      decide
  rcases h with rfl | rfl
  · rw [leaveReset_eq, rd_changeMode (by decide) (by decide) hapart, keeps_takeHead.rd _ (by decide)]
  · rw [leaveReset_eq, rd_changeMode (by decide) (by decide) hapart, keeps_takeHead.rd _ (by decide)]

theorem get_leaveReset_pins {f : FieldAt} (h : f.addr = R.GPIO_STRAPS ∨ f.addr = R.GPIO_BANK_STAT) :
    (s.leaveReset chainUp pullUp banks).get f = (s.atExit chainUp pullUp banks).get f := by
  rw [get, get, rd_leaveReset_pins h]

theorem chainSrc_leaveReset : (s.leaveReset chainUp pullUp banks).bit F.GPIO_STRAPS_CHAIN_SRC = chainUp := by
  rw [bit, get_leaveReset_pins (.inl rfl), atExit, latchStraps, get_wr_ne _ _ _ _ (by decide),
    get_set_of_disjoint _ _ _ _ (by decide) (by decide), get_set_self _ _ _ (by decide)]
  cases chainUp <;> rfl

theorem pullSel_leaveReset : (s.leaveReset chainUp pullUp banks).bit F.GPIO_STRAPS_PULLSEL = pullUp := by
  rw [bit, get_leaveReset_pins (.inl rfl), atExit, latchStraps, get_wr_ne _ _ _ _ (by decide), get_set_self _ _ _ (by decide)]
  cases pullUp <;> rfl

theorem banks_leaveReset (h : banks < 2 ^ 32) : (s.leaveReset chainUp pullUp banks).rdN R.GPIO_BANK_STAT = banks := by
  rw [rdN, rd_leaveReset_pins (.inr rfl), atExit, latchStraps, rd_wr, if_pos rfl, BitVec.toNat_ofNat, Nat.mod_eq_of_lt h]

theorem mode_leaveReset : (s.leaveReset chainUp pullUp banks).mode = M.verify := by
  rw [leaveReset_eq, mode_changeMode]
  rfl

theorem prev_leaveReset (h : s.mode = M.reset) : (s.leaveReset chainUp pullUp banks).get F.SYS_MODE_PREV = M.reset := by
  have hexit : (s.atExit chainUp pullUp banks).mode = (s.leaveStart chainUp).mode := keeps_atExit.get (f := F.SYS_MODE_MODE) (by decide)
  have hhead : (s.atExit chainUp pullUp banks).takeHead.mode = (s.atExit chainUp pullUp banks).mode :=
    keeps_takeHead.get (f := F.SYS_MODE_MODE) (by decide)
  rw [leaveReset_eq, prev_changeMode, hhead, hexit]
  exact h

theorem cause_leaveReset : (s.leaveReset chainUp pullUp banks).get F.SYS_MODE_CAUSE = s.modeCtl.aonCause % 256 := by
  rw [leaveReset_eq, cause_changeMode, keeps_atExit.ctl]
  rfl

theorem raised_leaveReset : (s.leaveReset chainUp pullUp banks).isPending 824 = true := by
  rw [leaveReset_eq]
  exact raised_changeMode

/-- Wheel time, memory, the supply and the queue at the exit. -/
theorem units_leaveReset : (s.leaveReset chainUp pullUp banks).now = 0 ∧ (s.leaveReset chainUp pullUp banks).mem = s.mem ∧
    (s.leaveReset chainUp pullUp banks).supply.rails = s.supply.rails ∧ (s.leaveReset chainUp pullUp banks).pending = s.pending := by
  have hhead := (keeps_atExit (s := s) (chainUp := chainUp) (pullUp := pullUp) (banks := banks)).trans
    (keeps_takeHead.mono (l' := [R.SYS_MODE]) (by decide))
  rw [leaveReset_eq, changeMode_frame]
  refine ⟨hhead.now, hhead.mem, ?_, hhead.queue⟩
  show (s.atExit chainUp pullUp banks).takeHead.supply.rails = s.supply.rails
  rw [hhead.supply]
  rfl

end State

/-! ## The commands -/

section
variable {s : State} {chainUp pullUp : Bool} {banks : List (Fin 3)} {unc : List (Fin 2048)}

theorem exec_safeBurstEnd {f : Nat} (h : s.modeCtl.burst = some f) : exec .safeBurstEnd s = .next
    (if s.modeCtl.toQuarantine then (s.at_ (startOf f)).quarantineNow s.modeCtl.cause
      else (s.at_ (startOf f)).lanesOff.enterReset s.modeCtl.cause false) := by
  show execSafeBurstEnd s = _
  rw [execSafeBurstEnd, h]

theorem exec_safeBurstEnd_of_none (h : s.modeCtl.burst = none) : exec .safeBurstEnd s = .next s := by
  show execSafeBurstEnd s = _
  rw [execSafeBurstEnd, h]

theorem exec_resetPin {ns : Nat} (h : 1000 ≤ ns) : exec (.resetPin ns) s = .next (s.enterReset 1 false) := by
  show execResetPin ns s = _
  rw [execResetPin, if_pos h]

theorem exec_resetPin_short {ns : Nat} (h : ns < 100) : exec (.resetPin ns) s = .next s := by
  show execResetPin ns s = _
  rw [execResetPin, if_neg (by omega), if_pos h]

/-- Between the two lengths it is open whether the low is taken (R557). -/
theorem exec_resetPin_between {ns : Nat} (h : 100 ≤ ns) (h' : ns < 1000) :
    exec (.resetPin ns) s = .next (if s.fresh % 2 = 1 then s.drawn.enterReset 1 false else s.drawn) := by
  show execResetPin ns s = _
  rw [execResetPin, if_neg (by omega), if_neg (by omega)]
  split <;> rfl

theorem exec_resetExit (hmode : s.mode = M.reset) (hrails : s.supply.rails = true) : exec (.resetExit chainUp pullUp banks unc) s = .next
    (if s.startPlls.locked 0 = true ∧ s.startPlls.locked 1 = true then
      (s.startPlls.withUnc (unc.map fun k => k.val)).leaveReset chainUp pullUp ((banks.take 8).foldr (fun b a => a * 4 + b.val) 0)
    else s.startPlls.withUnc (unc.map fun k => k.val)) := by
  have hexec : exec (.resetExit chainUp pullUp banks unc) s =
      if (s.withUnc (unc.map fun k => k.val)).startPlls.locked 0 = true ∧ (s.withUnc (unc.map fun k => k.val)).startPlls.locked 1 = true then
        .next ((s.withUnc (unc.map fun k => k.val)).startPlls.leaveReset chainUp pullUp ((banks.take 8).foldr (fun b a => a * 4 + b.val) 0))
      else .next (s.withUnc (unc.map fun k => k.val)).startPlls := if_pos ⟨hmode, hrails⟩
  rw [hexec, State.startPlls_withUnc, State.locked_withUnc, State.locked_withUnc]
  split
  · rfl
  · rfl

/-- Eight levels of two bits each. -/
theorem levels_lt (xs : List (Fin 3)) : xs.foldr (fun b a => a * 4 + b.val) 0 < 4 ^ xs.length := by
  induction xs with
  | nil => decide
  | cons x xs ih =>
    have := x.isLt
    rw [List.foldr_cons, List.length_cons, Nat.pow_succ]
    omega

theorem banks_lt : (banks.take 8).foldr (fun b a => a * 4 + b.val) 0 < 2 ^ 32 := by
  refine (levels_lt _).trans_le ((Nat.pow_le_pow_right (by decide) (List.length_take_le 8 banks)).trans ?_)
  decide

end

/-- Settles O2: each end of the burst, the pin and the exit lead to the entry to RESET, the entry to QUARANTINE or VERIFY, whose effects are said
above. -/
theorem resetEntryAndExit : Obligations.ResetEntryAndExit := by
  unfold Obligations.ResetEntryAndExit
  refine ⟨?quarantine, ?reset, ?noBurst, ?pin, ?short, ?between, ?exit, ?stays, ?notThere⟩
  case quarantine =>
    intro s hburst hto
    obtain ⟨f, hf⟩ := Option.isSome_iff_exists.mp hburst
    obtain ⟨hclosed, hengines, hslice⟩ := State.quiet_quarantineNow (s := s.at_ (startOf f)) (cause := s.modeCtl.cause)
    have hctl := State.ctl_quarantineNow (s := s.at_ (startOf f)) (cause := s.modeCtl.cause)
    have hexec := exec_safeBurstEnd hf
    rw [hto, if_pos rfl] at hexec
    refine ⟨_, hexec, State.mode_quarantineNow, State.prev_quarantineNow,
      State.cause_quarantineNow, State.raised_quarantineNow, State.sendingLanes_quarantineNow, hclosed, hengines, hslice, hctl,
      State.mem_quarantineNow, State.queue_quarantineNow⟩
  case reset =>
    intro s hburst hto
    obtain ⟨f, hf⟩ := Option.isSome_iff_exists.mp hburst
    have hexec := exec_safeBurstEnd hf
    rw [hto, if_neg (by decide)] at hexec
    obtain ⟨hmem, -, hqueue, hengines, hsessions⟩ := State.units_enterReset (s := (s.at_ (startOf f)).lanesOff) (cause := s.modeCtl.cause)
    refine ⟨_, hexec, State.mode_enterReset, State.cause_enterReset, ?prev, State.sendingLanes_enterReset, ?mem, ?supply, ?queue, hengines, hsessions,
      ?went, ?fault, fun a ha => State.rd_enterReset_of_not_mem ha⟩
    case prev =>
      have hmode : (s.at_ (startOf f)).lanesOff.mode = s.mode := State.keeps_lanesOff.get (f := F.SYS_MODE_MODE) (by decide)
      have hprev : (s.at_ (startOf f)).lanesOff.get F.SYS_MODE_PREV = s.get F.SYS_MODE_PREV := State.keeps_lanesOff.get (by decide)
      rw [State.prev_enterReset, hmode, hprev]
    case mem =>
      rw [hmem, State.keeps_lanesOff.mem]
      rfl
    case supply =>
      rw [State.supply_enterReset, State.keeps_lanesOff.supply]
      rfl
    case queue =>
      rw [hqueue, State.keeps_lanesOff.queue]
      rfl
    case went =>
      rw [hf, Option.getD_some, ← State.wentToReset_lanesOff]
      exact State.wentToReset_enterReset
    case fault =>
      rw [State.railFault_enterReset, State.keeps_lanesOff.rd _ (by decide)]
      rfl
  case noBurst => exact fun s h => ⟨s, exec_safeBurstEnd_of_none h, rfl⟩
  case pin =>
    intro ns s h
    obtain ⟨hmem, hnow, hqueue, hengines, -⟩ := State.units_enterReset (s := s) (cause := 1)
    exact ⟨_, exec_resetPin h, State.mode_enterReset, State.cause_enterReset, State.prev_enterReset, hmem, hnow, State.supply_enterReset, hqueue, hengines,
      State.noSession_enterReset, State.domOn_enterReset, State.wentToReset_enterReset, State.railFault_enterReset,
      fun a ha => State.rd_enterReset_of_not_mem ha⟩
  case short => exact fun ns s h => ⟨s, exec_resetPin_short h, rfl⟩
  case between =>
    intro ns s h h'
    refine ⟨_, exec_resetPin_between h h', ?_⟩
    split
    · obtain ⟨-, -, hqueue, -, -⟩ := State.units_enterReset (s := s.drawn) (cause := 1)
      exact ⟨.inr ⟨State.wentToReset_enterReset (s := s.drawn), State.supply_enterReset⟩, hqueue⟩
    · exact ⟨.inl rfl, rfl⟩
  case exit =>
    intro chainUp pullUp banks unc s hmode hrails hA hB
    have hexec := exec_resetExit (chainUp := chainUp) (pullUp := pullUp) (banks := banks) (unc := unc) hmode hrails
    rw [if_pos ⟨hA, hB⟩] at hexec
    have hkeeps := State.keeps_startPlls (s := s)
    obtain ⟨hnow, hmem, hsupply, hqueue⟩ := State.units_leaveReset (s := s.startPlls.withUnc (unc.map fun k => k.val)) (chainUp := chainUp)
      (pullUp := pullUp) (banks := (banks.take 8).foldr (fun b a => a * 4 + b.val) 0)
    refine ⟨_, hexec, State.mode_leaveReset, State.prev_leaveReset ?mode, ?cause, hnow, State.chainSrc_leaveReset, State.pullSel_leaveReset,
      State.banks_leaveReset banks_lt, State.raised_leaveReset, hmem.trans hkeeps.mem, ?rails, hqueue.trans hkeeps.queue⟩
    case mode => exact (hkeeps.get (f := F.SYS_MODE_MODE) (by decide)).trans hmode
    case cause =>
      rw [State.cause_leaveReset]
      show s.startPlls.modeCtl.aonCause % 256 = _
      rw [hkeeps.ctl]
    case rails =>
      rw [hsupply]
      show s.startPlls.supply.rails = true
      rw [hkeeps.supply, hrails]
  case stays =>
    intro chainUp pullUp banks unc s hmode hrails hout
    have hexec := exec_resetExit (chainUp := chainUp) (pullUp := pullUp) (banks := banks) (unc := unc) hmode hrails
    have hnot : ¬ (s.startPlls.locked 0 = true ∧ s.startPlls.locked 1 = true) := by
      rintro ⟨hA, hB⟩
      rcases hout with h | h
      · exact Bool.eq_false_iff.mp h hA
      · exact Bool.eq_false_iff.mp h hB
    rw [if_neg hnot] at hexec
    have hkeeps := State.keeps_startPlls (s := s)
    exact ⟨_, hexec, (hkeeps.get (f := F.SYS_MODE_MODE) (by decide)).trans hmode, hkeeps.mem, hkeeps.supply, hkeeps.queue⟩
  case notThere =>
    intro chainUp pullUp banks unc s h
    refine ⟨s, if_neg ?_, rfl⟩
    rintro ⟨hmode, hrails⟩
    rcases h with h | h
    · exact h hmode
    · exact Bool.eq_false_iff.mp h hrails

end Sys2Proof.Machine
end
